-- ==== Sys2Proof/Word.lean ====
section
/-! DEFINITION. The word types of the module and their plainest names (R7, R16): a line is 64 bytes, a window
word 8 bytes, both little-endian. -/

namespace Sys2Proof

/-- One byte. -/
abbrev Byte := BitVec 8

/-- An 8-byte window word (R55). -/
abbrev Word := BitVec 64

/-- An aligned 64-byte line (R16); byte 0 is bits [7:0] (R7). -/
abbrev Line := BitVec 512

/-- The 64 byte enables of a CXL.mem write: bit `i` enables byte `i`. -/
abbrev ByteEnables := BitVec 64

end Sys2Proof
end

