-- ==== Sys2Proof/Syntax.lean ====
section
/-! DEFINITION. The commands of the module: `Instr`, one constructor for each row of spec/opcode_table.json, with
the operands a sender or the environment supplies. -/

namespace Sys2Proof

/-- The two host ports (R1, R46). -/
inductive Port where
  | a
  | b
  deriving DecidableEq, Repr

/-- The paths that reach the object dictionary (R436, R440): the two mailboxes and the field link, the last with the
source MAC address of the station. -/
inductive Path where
  | mailbox (p : Port)
  | fieldLink (mac : Nat)
  deriving DecidableEq, Repr

/-- What every dictionary request carries (R76, R443, R457): its path, the session it names (0 for none), its transaction, its counter (on
the mailbox the transaction, on the field link the sequence), and its 16-byte tag if it has one. -/
structure Req where
  path : Path
  session : Nat
  transaction : Nat
  counter : Nat
  tag : Option (BitVec 128)
  deriving DecidableEq, Repr

/-- One access to a device-managed window line (R54, R55). -/
inductive WindowOp where
  | read
  | write (be : ByteEnables) (data : Line) (poison : Bool)
  deriving DecidableEq, Repr

/-- The kinds of memory that carry codes (R338), with the codes of Table — Correctable-error entry. -/
inductive MemKind where
  | sram
  | dram
  | medium
  | param
  deriving DecidableEq, Repr

/-- The object whose check failed (Table — Named ranges, R329). `translation` is a journal sector, checkpoint,
directory or integrity table image that carries the translation of the given lines. -/
inductive FailedObject where
  | dataLine (line : Nat)
  | saveSector (line count : Nat)
  | tagLine (k : Nat)
  | placeTag (place : Nat)
  | counterBlock (page : Nat)
  | node (level index : Nat)
  | translation (line count : Nat)
  deriving DecidableEq, Repr

/-- The integrity lines of R312. -/
inductive IntegrityObject where
  | tagLine (k : Nat)
  | counterBlock (page : Nat)
  | node (level index : Nat)
  | placeTag (k : Nat)
  deriving DecidableEq, Repr

/-- An integrity line as its fetch reads it, after the recovery ladder: its 64 bytes, and whether they came from a rung beyond the first
read (R327, R328). -/
structure FetchedLine where
  body : BitVec 512
  recovered : Bool
  deriving DecidableEq, Repr

/-- The storage errors of the counter cache (R325). -/
inductive CacheFault where
  | correctable
  | oneDirtyCopy
  | bothDirtyCopies
  | clean
  | dramWithChanges
  deriving DecidableEq, Repr

/-- The structures of Table — Uncorrectable errors by structure (R340), with what names the place. -/
inductive Structure where
  | ingress (p : Port) (tag : Nat)
  | staging (line : Nat)
  | levelOne (block : Nat)
  | levelTwo (block : Nat)
  | mapCache
  | counterCache (obj : IntegrityObject) (fault : CacheFault)
  | groupContext (g : Nat)
  | criticalWord
  | stateParity
  | mainMap (page : Nat)
  | deltaBucket (bucket : Nat)
  | bindingHash
  | unitRecord (unit : Nat)
  | buffer
  | firmwareTable
  | mediumSector (unit page sector : Nat)
  | paramWord (word : Nat)
  deriving DecidableEq, Repr

/-- What a code makes of the word it read (R342, 0x8040.0A). -/
inductive CodeResult where
  | clean
  | corrected (bits : Nat)
  | uncorrectable
  deriving DecidableEq, Repr

/-- A stripe-using ring whose stripes rotate (R263). -/
inductive Ring where
  | log
  | journal
  | checkpoint
  | save
  deriving DecidableEq, Repr

/-- What a patrol visit reports (R279, R280): the highest corrected count of the sampled sectors, the corrected
counts one step above and one step below, whether a sampled sector was uncorrectable and whether it was then recovered (R259), and
whether every footer passed. -/
structure PatrolReport where
  corrected : Nat
  above : Nat
  below : Nat
  uncorrectable : Bool
  footersPass : Bool
  recovered : Bool := true
  deriving DecidableEq, Repr

/-- What one sense of a sector gives: whether it passes BCH, and then whether the line passes its tag check. -/
structure Sense where
  bch : Bool
  tag : Bool
  deriving DecidableEq, Repr

/-- What the senses of a media retry give (R209, R273): the re-read above the thresholds, the one below, which is made only where the first
fails BCH, whether the stripe reconstruction verifies and, of a prompt tag page, whether its other copy does (R328). -/
structure RetrySenses where
  above : Sense
  below : Sense
  rebuilt : Bool
  copy : Bool := false
  deriving DecidableEq, Repr

/-- A field link frame as the PHY delivers it (R456, R457). `dest` is `none` for the broadcast address. -/
structure Frame where
  fcsOk : Bool
  etherType : Nat
  dest : Option Nat
  source : Nat
  payload : List Byte
  deriving DecidableEq, Repr

/-- What the rest of a two-step image activation reports (R411). -/
inductive ActivationResult where
  | passes
  | selfCheckFails
  | signatureFails
  | versionFails
  deriving DecidableEq, Repr

/-- The values of the parameter store that are held in two copies (R352, R356). -/
inductive TwoCopyValue where
  | dictionaryValue (key : Nat)
  | superblock
  | stampCeiling
  | slotKey (slot : Nat)
  | anchor
  | haltRecord
  | remapTable
  | errorTable
  | lifetimeCounters
  | hourlyMark (hour : Nat)
  deriving DecidableEq, Repr

/-- The 8-byte words of one copy of a two-copy value as they are read; none where a word is uncorrectable (R354). -/
abbrev CopyWords := Option (List (BitVec 64))

/-- How far the write of the newest power log record came (R371): to its end, to its body without the commit word, or to its commit word with
the oldest record not yet cleared. -/
inductive RecordCut where
  | none
  | beforeCommit
  | beforeClear
  deriving DecidableEq, Repr

/-- What the media and the parameter store give RESTORE to read beside the bank shifts: the copies A and B of the two-copy values that are not
both whole and equal (R354), whether a sector of the save image fails its CRC-32C or its closing record is missing (R29), the lines of an
image that is otherwise complete that cannot be read, and its dirty counter lines (R34), the sequence number of the first integrity sector that does
not verify (R320), the objects whose digest does not match, by object code and first sequence number or segment (R318), how far the newest record of the power log was written, the sequence numbers of its records whose CRC does not match (R372), and those of
the journal sectors whose CRC fails (R152), and the save sectors of an incomplete image that are torn (R37). -/
structure RestoreFindings where
  copies : List (TwoCopyValue × CopyWords × CopyWords) := []
  imageFails : Bool := false
  unreadable : List Nat := []
  unreadableCounters : List IntegrityObject := []
  chainEnds : Option Nat := none
  badDigests : List (Nat × Nat) := []
  recordCut : RecordCut := .none
  badRecords : List Nat := []
  tornSectors : List Nat := []
  tornSave : Nat := 0
  deriving DecidableEq, Repr

/-- The commands: one constructor for each row of spec/opcode_table.json, in the table's order. -/
inductive Instr where
  -- the data path
  | fullLineWrite (p : Port) (tag line : Nat) (data : Line)
  | partialWrite (p : Port) (tag line : Nat) (be : ByteEnables) (data : Line)
  | mergePlacement (p : Port) (tag : Nat)
  | poisonedWrite (p : Port) (tag line : Nat)
  | globalVisibilityTransfer (p : Port)
  | memRd (p : Port) (tag line : Nat)
  | mediumSectorReadDone (rid : Nat) (bch : Bool) (tags : BitVec 4)
  | patienceExpiry (rid : Nat)
  | suspension (region : Fin 256)
  | suspendOverrun (region : Fin 256)
  | resume (region : Fin 256)
  | portResponseDeadline (rid : Nat)
  | mediaRetryEnd (rid : Nat) (senses : RetrySenses)
  | failedCheck (obj : FailedObject)
  | barrierWordRead (p : Port) (tag : Nat)
  | windowAccess (p : Port) (tag dpa : Nat) (op : WindowOp)
  -- write groups
  | groupControlRead (p : Port) (tag : Nat) (g : Fin 262144)
  | openGroup (p : Port) (tag : Nat) (g : Fin 262144) (a b : Option Word)
  | bindGroup (p : Port) (tag : Nat) (g : Fin 262144) (a b : Option Word)
  | commitGroup (p : Port) (tag : Nat) (g : Fin 262144) (a b : Option Word)
  | commitInstant (g : Fin 262144)
  | abortGroup (p : Port) (tag : Nat) (g : Fin 262144) (a b : Option Word)
  | releaseGroup (p : Port) (tag : Nat) (g : Fin 262144) (a b : Option Word)
  | unassignedGroupCommand (p : Port) (tag : Nat) (g : Fin 262144) (code : Byte) (a b : Option Word)
  | groupCommandFinish (g : Fin 262144)
  | forceAbort (req : Req) (arg : List Byte)
  -- coordination cells
  | reserveRead (p : Port) (tag : Nat) (cell : Fin 16384)
  | conditionalStore (p : Port) (tag : Nat) (cell : Fin 16384) (be : ByteEnables) (data : Line)
  | plainCellStore (p : Port) (tag : Nat) (cell : Fin 16384) (be : ByteEnables) (data : Line)
  | resultRead (p : Port) (tag : Nat) (cell : Fin 16384)
  -- port control, counters, flush
  | discard (p : Port) (tag : Nat) (start length : Option Word)
  | discardInstant (p : Port)
  | unmapperDone (entry : Nat)
  | userCounterWindowRead (p : Port) (tag : Nat) (lineIndex : Fin 64)
  | globalPersistentFlushPhase1 (p : Port)
  | globalPersistentFlushPhase2 (p : Port)
  -- ports
  | hdmDecoderCommit (p : Port) (n : Fin 8) (ways dpaBase size : Nat)
  | portDetect (p : Port)
  | linkUp (p : Port) (rate width : Nat)
  | linkTrainingFailed (p : Port)
  | portException (p : Port) (cause : Nat)
  | perst (p : Port) (asserted : Bool)
  | surpriseLinkLoss (p : Port)
  | viralReceived (p : Port)
  | portEnableWrite (req : Req) (which : Port) (value : List Byte)
  -- the standard mailbox
  | identify (p : Port)
  | getEventRecords (p : Port) (log : Fin 4)
  | clearEventRecords (p : Port) (log : Fin 4) (handles : Option (List Nat))
  | getEventInterruptPolicy (p : Port)
  | setEventInterruptPolicy (p : Port) (info warn fail fatal : Byte)
  | getFwInfo (p : Port)
  | transferFw (p : Port) (signatureOk : Bool) (version : Nat)
  | activateFw (p : Port) (online : Bool) (result : ActivationResult)
  | getTimestamp (p : Port)
  | setTimestamp (p : Port) (time : Word)
  | identifyMemoryDevice (p : Port)
  | getHealthInfo (p : Port)
  | sanitize (via : Port ⊕ Req)
  | secureErase (p : Port)
  | unsupportedMailboxOpcode (p : Port) (opcode : BitVec 16)
  -- the dictionary
  | entryRead (req : Req) (idx sub : Nat)
  | rcEntryRead (req : Req) (idx sub : Nat)
  | entryWrite (req : Req) (idx sub : Nat) (value : List Byte)
  | blockRead (req : Req) (idx sub offset length : Nat)
  | blockWrite (req : Req) (idx sub offset : Nat) (segment : List Byte) (final : Bool)
  | sessionOpen (req : Req) (level : Nat) (nonce : BitVec 128)
  | sessionResponse (req : Req) (number : Nat) (proof : BitVec 256)
  | sessionClose (req : Req)
  | sessionReservationTimeout (number : Nat)
  | sessionIdleTimeout (number : Nat)
  | proofHoldExpiry (path : Path)
  | levelKeyWrite (req : Req) (level : Fin 4) (wrapped : List Byte)
  | closeAllSessions (req : Req)
  | setDefaults (req : Req)
  | forceUnprotectedWrite (req : Req) (value : List Byte)
  | deviceTimeWrite (req : Req) (value : List Byte)
  | regionAttributeWrite (req : Req) (region : Fin 64) (sub : Nat) (value : List Byte)
  | regionClassWrite (req : Req) (region : Fin 64) (value : List Byte)
  | promptPreparationDone (region : Fin 64)
  | policyProfileWrite (req : Req) (value : List Byte)
  -- the log writer and the sequencers
  | stagingHoldExpiry (line : Nat) (group : Option (Fin 262144))
  | logRowDispatch
  | logRowCloseTime
  | logRowComplete (mark : Nat)
  | programDispatch (job : Nat)
  | programComplete (op : Nat) (ok : Bool)
  | stripePageComplete (id : Nat)
  | chunkGrant (channel : Fin 16)
  | dieTemperatureRead (die : Fin 64) (celsius : Int)
  -- translation
  | stampCeilingRaise
  | checkpoint
  | segmentFold (segment : Nat)
  | directoryImage
  | demandRebuild (segment : Nat)
  | segmentRebuilt (segment : Nat)
  | backgroundRebuildDone
  -- fold, collection and wear
  | foldStart
  | foldStop
  | foldStripePageDispatch
  | foldMapSet (id : Nat)
  | logTrim
  | logRelocation (line : Nat)
  | collection
  | collectionCritical
  | destinationProgramFailure (stripe : Fin 65536) (channel : Fin 16)
  | sourceSectorFailure (unit page sector : Nat) (recovered : Bool)
  | wearLevellingMove
  | roleRotation (ring : Ring) (index : Nat)
  | hourlyTrickle
  | ageMeterReprogram
  | priorityPass
  | patrolVisit (unit : Fin 1048576) (report : PatrolReport)
  | outOfTurnVisit (unit : Fin 1048576) (report : PatrolReport)
  | unitRetest (unit : Fin 1048576) (pass : Bool)
  | demotion (stripe : Fin 65536)
  | floorRestoreMove (page : Nat)
  | dieRetiring (die : Fin 64)
  | dieFailed (die : Fin 64)
  | channelRetired (channel : Fin 16) (canTransfer : Bool) (failedTraining : Bool)
  | rebuildComplete (die : Fin 64)
  | stripeWithdrawn (stripe : Fin 65536)
  | retireDie (req : Req) (arg : List Byte)
  | regionOffline (req : Req) (arg : List Byte)
  | regionOnline (req : Req) (arg : List Byte)
  -- integrity
  | stampFormConversion (line : Nat)
  | writeBackBatch
  | integrityTableImage (stripe : Fin 65536)
  | integrityLineFetch (obj : IntegrityObject) (lines : List FetchedLine)
  | counterCacheError (obj : IntegrityObject) (fault : CacheFault)
  | resumeFromHalt (req : Req) (arg : List Byte)
  | renewKeySlot (req : Req) (arg : List Byte)
  -- stored-data protection
  | scrub (mem : MemKind) (address : Nat) (result : CodeResult)
  | uncorrectableError (what : Structure)
  | criticalStateError
  | rowSelfTest (mem : MemKind) (row : Nat) (pass : Bool)
  | sectorSelfTest (unit page sector : Nat) (rereadPasses patternPasses : Bool)
  | clearTable (req : Req)
  | writeRaw (req : Req)
  | readRaw (req : Req) (result : CodeResult) (decoded : List Byte)
  -- the supervisor
  | vinValid (mv : Nat)
  | inputLoss (mv : Nat)
  | overvoltage (mv : Nat)
  | inputSwitchReclose (mv : Nat)
  | bandDown (mv : Nat)
  | bandUp (mv : Nat)
  | powerCapAdjust (meanMw : Nat)
  | rise (railsGood firmwareOk : Bool)
  | railFault (code : Nat) (restarts : Bool)
  | retryRails (req : Req)
  | fall (stuck : BitVec 16) (vinAbsent : Bool)
  | lossOfProtection
  | protectionRestored
  | yoYoTest (cmf esrMohm v0mv : Nat)
  | runYoYoTest (req : Req)
  | cartridgeRemoved
  | cartridgeInserted (ident : List Byte)
  | curtain (cause : Nat)
  | curtainCommitPoint
  | curtainCancelled (mv : Nat)
  | curtainOutcome
  | cartridgeFloor
  | shortPress
  | serviceRequestWindowEnd
  | serviceRelease (req : Req)
  | forcedPowerDown
  | mrN (widthNs : Nat)
  | restore (upTo : Nat) (shifts : List (Option Nat)) (found : RestoreFindings)
  -- modes
  | offRequest (req : Req)
  | onRequest (req : Req)
  | minimumOffTimeEnd
  | deviceReset (req : Req)
  | managementWatchdog
  | enterDoze (req : Req)
  | idleTimer
  | dozeEntryStep
  | wake (source : Fin 6)
  | wakeN (widthNs : Nat)
  | wakeDelay
  | enterService (req : Req)
  | leaveService (req : Req)
  | serviceTimeLimit
  | activateOnline (req : Req) (result : ActivationResult)
  -- thermal
  | slowRound (channels : List (Option Int))
  | reAdmitSensor (req : Req) (arg : List Byte)
  | throttleCleared
  | enforcementLevel
  | lockout
  -- the field link
  | frameReceived (frame : Frame)
  | discover (source : Nat)
  | rattle (code : Nat)
  | notice
  | beaconLoss
  | beaconReceived
  | nodeIdConflict
  | fieldLinkConfigWrite (req : Req) (sub : Nat) (value : List Byte)
  | reducedRateRefill
  -- events and the recorder
  | occurrence (source : Fin 288)
  | latchClear (req : Req) (source : Fin 288) (value : List Byte)
  | heldMsiX (p : Port)
  | recorderWrite
  | captureEpisode
  | clearRecorder (req : Req) (arg : List Byte)
  | coreDelayMargin (quadrant : Fin 4)
  | crossingError (source : Nat)
  | completionStall
  -- counters, sampling, queues and DMA
  | counterSelectWrite (req : Req) (n : Fin 512) (value : List Byte)
  | counterStickyClear (req : Req) (n : Fin 512) (value : List Byte)
  | counterWrap (n : Fin 512)
  | bandwidthWindowEnd (p : Port)
  | queueFlush (req : Req) (value : List Byte)
  | oldestSampleItemRead (req : Req)
  | dmaDescriptorWrite (p : Port) (tag : Nat) (ch : Fin 16) (be : ByteEnables) (data : Line)
  | dmaStart (p : Port) (tag : Nat) (ch : Fin 16)
  | dmaAbort (p : Port) (tag : Nat) (ch : Fin 16)
  | dmaBurstPlaced (ch : Fin 16)
  | drainIdleTimer (ch : Fin 16)
  | releaseChannel (req : Req) (arg : List Byte)
  | mrNHigh
  | stuckRailCleared (code : Nat)
  deriving DecidableEq, Repr

end Sys2Proof
end

