-- ==== Sys2Proof/Decode.lean ====
section
/-! DEFINITION. Decoding of table words. The table of operations gives no row any bits: commands arrive as transactions
at the ports, on the field link, at pins, or as events of the medium and of the module's own agents. -/

namespace Sys2Proof

/-- The command that a word spells by the table's bits: no row has bits, so none. -/
def decodeTableWord (_nbits _w : Nat) : Option Instr := none

end Sys2Proof
end

