-- ==== Sys2Proof/Config.lean ====
section
/-! DEFINITION. What one part fixes and what the spec leaves open: constants without a body, so that no proof can see
a value of them. Each is named in the assumption log. -/

namespace Sys2Proof.Config

/-- A free value: the spec gives the effect and no value. Applied to a counter of the state that each use advances
(`State.draws`), so that every use is a fresh unconstrained value. -/
opaque freeValue : Nat → Nat

/-- The numeric value of an entry whose default is fixed per part or per image (entry tables). -/
opaque fixedEntry : Nat → Nat

/-- The bytes of a STR or OCTS entry fixed per part or per image (0x1000.03, 0x1000.04, 0x1000.07, 0x1000.09, 0x3050.01). -/
opaque fixedBytes : Nat → List Byte

/-- The value of a count after it has passed the greatest value of its type, where the chapter does not call it
saturating: applied to the entry's key and to the exact sum. -/
opaque countOverflow : Nat → Nat → Nat

/-- HMAC-SHA-256 (R441, R443), applied to key and message. -/
opaque hmacSha256 : List Byte → List Byte → BitVec 256

/-- HKDF-SHA-256 (R442, R300), applied to input key, salt and info. -/
opaque hkdfSha256 : List Byte → List Byte → List Byte → List Byte

/-- AES key wrap (R446): the key unwrapped from 40 bytes under a wrap key, `none` when the integrity check fails. -/
opaque aesUnwrap : List Byte → List Byte → Option (List Byte)

/-- The Custodian key that manufacture sets (0x1110.04). -/
opaque custodianKey : List Byte

/-- AES key wrap (R299), applied to the key-encryption key and a slot key. -/
opaque aesWrap : List Byte → List Byte → List Byte

/-- AES-256 of one block, applied to key and block, byte 0 in the low bits (R302, R303). -/
opaque aes256 : List Byte → BitVec 128 → BitVec 128

/-- The hardware-unique key in the fuses, and the key-encryption key that is derived from it; no rule says how (R299). -/
opaque hardwareKey : List Byte
opaque keyEncryptionKey : List Byte → List Byte

/-- The wrapped key of slot 0 from manufacture (R299). -/
opaque firstWrappedKey : List Byte

/-- The slot keys that the random bit generator gives, by the number of keys generated before (R299). -/
opaque generatedKey : Nat → List Byte

/-- The block A of a MAC under the tree key, whose layout no rule states: of an integrity address (R309), or of content without one (R315,
R318). -/
opaque macInput : Option Nat → BitVec 128

/-- The encryption of a save payload, whose mode no rule states, and the block A of its tag (R321): applied to the image key and the
payload's number. -/
opaque imageCipher : List Byte → Nat → List Byte → List Byte
opaque imageInput : Nat → BitVec 128

/-- The CRC-32C of a record's bytes. -/
opaque crc32c : List Byte → BitVec 32

/-- The internal permutation of the line number that places delta map entries (the delta map's text). -/
opaque deltaPermutation : Nat → Nat

/-- The overflow buckets of the delta map that the chain of a home bucket takes, in order; no rule says which. -/
opaque overflowBucket : Nat → Nat → Nat

/-- The 12 bytes of BCH check over a sector's data or a footer (R221, R222). -/
opaque bchCheck : List Byte → Nat

/-- Whether an age or interval of R271 or R275 that is no whole number is rounded up (1) or down (0), modulo 2: applied to the root that it is,
and to the numerator and denominator under it. -/
opaque roundsUp : Nat → Nat → Nat → Nat

/-- The cache block that the row of an SRAM or DRAM error address holds, if any (R177); no rule places the caches in rows. -/
opaque cacheBlockAt : Nat → Option Nat

/-- The estimated time to completion of a rebuild in s (0x61A0.05), which no rule states: applied to the clock. -/
opaque rebuildEstimate : Nat → Nat

end Sys2Proof.Config
end

