-- ==== Sys2Proof/Machine/State.lean ====
section
/-! DEFINITION. The state of the module: everything the spec gives it, as plain data, and the state right after
reset. The registers of the object dictionary are one register file, `dict` and `octs` (R2: every configurable
behaviour and every status is an entry); the structures behind them follow, chapter by chapter. Fields marked MODEL
are the model's own and not the spec's. -/

namespace Sys2Proof.Machine

/-- A sparse table in canonical form: keys strictly rising, and no key whose value is the table's default. -/
abbrev Tbl (α : Type) := List (Nat × α)

/-! ### Host ports (chapters 02, 03) -/

/-- A store in a port's ingress queue, in acceptance order; a partial write stays here while its merge runs (R13, R88).
`prot` is the persist point fixed at acceptance (R21), `wmode` the write mode accepted with (R188), `seq` the module-wide
acceptance number that R124 compares. A denied store (R190) is never queued. -/
structure Store where
  tag : Nat
  line : Nat
  be : ByteEnables
  data : Line
  poison : Bool
  prot : Bool
  wmode : Nat
  seq : Nat
  acceptedAt : Nat
  sampled : Bool
  /-- Its port has dropped the request (R43): no Cmp follows. -/
  forgotten : Bool := false
  /-- A victim has been taken for its merge (R182). -/
  victim : Bool := false
  deriving DecidableEq, Repr

/-- What an accepted window access does once the stores of its port accepted before it are globally visible (R54). -/
inductive PortAsk where
  | read
  | write (be : ByteEnables) (data : Line) (poison : Bool)
  deriving DecidableEq, Repr

/-- An accepted window access that waits for its triggered drain, because a group command still holds an earlier store back (R54,
R124): its request tag, address and acceptance number; `answers` says that its port still takes the response. -/
structure PortWait where
  tag : Nat
  dpa : Nat
  ask : PortAsk
  seq : Nat
  sampled : Bool
  acceptedAt : Nat
  answers : Bool := true
  deriving DecidableEq, Repr

/-- One CXL event record (R73). -/
structure EventRecord where
  handle : Nat
  source : Nat
  severity : Nat
  stamp : Nat
  time : Nat
  values : List Nat
  deriving DecidableEq, Repr

/-- One event log of a port: at most 64 records and an overflow count (R45, R73). -/
structure EventLog where
  records : List EventRecord := []
  overflow : Nat := 0
  nextHandle : Nat := 1
  deriving DecidableEq, Repr

/-- The discard line of a port's control page (R59, R61, R62). `waiting` holds while no pending discard entry is free or
a BIND runs before it. -/
structure DiscardLine where
  start : Word := 0
  length : Word := 0
  status : Nat := 0
  reason : Nat := 0
  overrun : Bool := false
  firstPage : Nat := 0
  pages : Nat := 0
  /-- It waits behind a BIND that took effect first (R128). -/
  waits : Bool := false
  deriving DecidableEq, Repr

/-- One committed HDM decoder: the DPA range it covers (R52). -/
structure Decoder where
  base : Nat
  size : Nat
  deriving DecidableEq, Repr

/-- A read of the barrier word whose value is taken and that waits until the stores of its port accepted before it have received
Cmp (R94): `owed` lists their tags. -/
structure BarrierRead where
  tag : Nat
  word : Word
  line : Nat
  sampled : Bool
  acceptedAt : Nat
  owed : List Nat
  deriving DecidableEq, Repr

/-- What one port holds beside its entries of 0x3010 or 0x3011. -/
structure PortState where
  /-- The ingress queue (R12), oldest first. -/
  queue : List Store := []
  /-- CXL.mem credits withheld by a curtain, DOZE entry or a drain stall (R27, R89, R399). -/
  creditsWithheld : Bool := false
  /-- The port neither responds nor drains on CXL.mem: HALT (R32). -/
  silent : Bool := false
  /-- Containment (R45). -/
  contained : Bool := false
  /-- PERST input of the port asserted (R81). -/
  perst : Bool := false
  /-- Equalisation attempts failed since Detect (R47). -/
  retries : Nat := 0
  /-- The port stays down after its last retry (R47). -/
  heldDown : Bool := false
  /-- Host link in L1 (R399, R404). -/
  linkL1 : Bool := false
  /-- Memory_Active and Media Status Ready (R80). -/
  memoryActive : Bool := false
  decoders : Tbl Decoder := []
  /-- Error Not Committed bits of the decoders (R52). -/
  decoderErrors : List Nat := []
  /-- Event logs: Informational, Warning, Failure, Fatal (R73). -/
  logs : Tbl EventLog := []
  /-- Interrupt settings of the four logs (R72). -/
  policy : Tbl Nat := []
  /-- Held MSI-X messages, oldest first (R482). -/
  heldMsi : List Nat := []
  /-- Dropped stores since the last barrier read and their three cause bits (R60). -/
  dropped : Nat := 0
  droppedHalted : Bool := false
  droppedAborted : Bool := false
  droppedOffline : Bool := false
  /-- Barrier-word reads that wait for Cmps of earlier stores, oldest first (R94). -/
  barriers : List BarrierRead := []
  discard : DiscardLine := {}
  /-- A triggered drain goes on while a group command holds a store back: of the stores accepted before this number, 0 for none (R90). -/
  draining : Nat := 0
  /-- The port has been disabled, and its link falls once the drain has ended (R50). -/
  closing : Bool := false
  /-- Window accesses that wait for their drain, oldest first (R54). -/
  waits : List PortWait := []
  /-- Phases of a global persistent flush that wait, oldest first: the phase and the acceptance number that it covers (R69). -/
  flushes : List (Nat × Nat) := []
  /-- Write credits that the host holds while further ones are withheld: places of the ingress queue (R89). -/
  granted : Nat := 4096
  /-- 0x3001.02 or .03 as the training under way took it (R82). -/
  trainRate : Nat := 0
  /-- The configuration space and component registers, by offset, and the 32 entries of the MSI-X table, where they differ from their
  values after PERST (R2, R81). -/
  config : Tbl Nat := []
  msixTable : Tbl Nat := []
  /-- Bytes counted in the bandwidth window that is running, and whether the next window is published (R498). -/
  windowRead : Nat := 0
  windowWrite : Nat := 0
  windowUnpublished : Bool := false
  /-- The length of the running bandwidth window in µs (R498). -/
  windowLength : Nat := 1000
  deriving DecidableEq, Repr

/-! ### Staging, caches and reads (chapters 01, 06, 07) -/

/-- A dirty line of the staging array (R180), with its group number if provisional (R129). `row` is the log row it is
being programmed in, `cmpTo` the requests whose Cmp waits for that program (R19). A line stored as a provisional version keeps its
group tag (`tag`, R139) and the stamp of that store (`orig`) until it is logged, though its group commits before (R35). -/
structure Staged where
  line : Nat
  grp : Option Nat
  data : Line
  poison : Bool
  stamp : Nat
  wmode : Nat
  taken : Bool := false
  row : Option Nat := none
  cmpTo : List (Port × Nat) := []
  tag : Option Nat := none
  orig : Nat := 0
  deriving DecidableEq, Repr

/-- A cache block of 256 bytes: valid and poison bits and data for its four lines (R173). -/
structure CacheBlock where
  block : Nat
  way : Nat
  valid : BitVec 4
  poison : BitVec 4
  data : List Line
  /-- Filled by a prefetch that no demand read has used yet (0x4070.09). -/
  prefetched : Bool := false
  deriving DecidableEq, Repr

/-- Who waits for a read: a host, no one (a prefetch, R185), the merge of the queued partial write with an acceptance number (R13), no
one but the block of a line that failed its tag check (R184), or the tag check of prompt reads (R314). -/
inductive Reader where
  | host (p : Port) (tag : Nat)
  | prefetch
  | merge (p : Port) (seq : Nat)
  | ladder
  | tag (obj : IntegrityObject)
  deriving DecidableEq, Repr

/-- Where an outstanding read waits (R87, R164, R197, R199, R201, R213). -/
inductive ReadPlace where
  | merge
  | rebuild
  | overflow
  | queued
  | reconstruction
  | retry
  deriving DecidableEq, Repr

/-- An outstanding read (chapter 07). `cls` is 0 normal, 1 prompt, 2 bulk, 3 background; `region` the media region;
`entitled` that it may suspend; `deadline` the stamp taken when its deadline fired (R214); `sensed` the next stamp when
its source was read (R173). -/
structure Read where
  id : Nat
  reader : Reader
  line : Nat
  cls : Nat
  acceptedAt : Nat
  place : ReadPlace
  unit : Nat
  entitled : Bool := false
  deadline : Option Nat := none
  answered : Bool := false
  steps : Nat := 0
  sensed : Nat := 0
  sampled : Bool := false
  missMode : Nat := 0
  allocate : Nat := 0
  /-- Flags of its sample record (R500), poisoned response aside. -/
  flags : Nat := 0
  /-- 0x4080.01 to .05 as they stood at acceptance: deadline and patience in µs (R215). -/
  deadlineUs : Nat := 0
  patienceUs : Nat := 0
  /-- The prompt bound in ns in force at acceptance (0x4081.02); 0 for a read that is no prompt read of R207. -/
  boundNs : Nat := 0
  prefetchNext : Bool := false
  /-- Expiries of its patience so far (R198). -/
  expiries : Nat := 0
  /-- Where it was found (outcome codes of Table — Sample record), and the place or main map value it reads. -/
  found : Nat := 5
  source : Nat := 0
  /-- It has waited for a demand rebuild: the prompt bound does not hold for it (R210). -/
  rebuilt : Bool := false
  /-- The threshold steps at which its sector is sensed (R272). -/
  threshold : Int := 0
  deriving DecidableEq, Repr

/-! ### The medium (chapters 08, 09, 10) -/

inductive OpKind where
  | sl
  | ml
  | reset
  deriving DecidableEq, Repr

/-- The agent a program or reset belongs to. -/
inductive Owner where
  | row (mark : Nat)
  | page (id : Nat)
  | ageMeter (die : Nat)
  | maintenance (stripe : Nat)
  | save
  deriving DecidableEq, Repr

/-- A program or reset waiting for dispatch (R227). -/
structure Job where
  id : Nat
  unit : Nat
  kind : OpKind
  owner : Owner
  /-- What has delayed its dispatch so far: 4 tokens, 5 package current, 6 die limit (0x6110.04 to .06). -/
  delayedBy : List Nat := []
  /-- When package current first delayed it, while it still waits (R242). -/
  currentSince : Option Nat := none
  deriving DecidableEq, Repr

/-- A program or reset in flight (R226, R228): its suspension count and whether it is held to completion (R201), the
waveform band it keeps (R277), and the stamp and device time of its start (R144, R222). -/
structure Op where
  id : Nat
  unit : Nat
  kind : OpKind
  owner : Owner
  suspended : Bool := false
  suspensions : Nat := 0
  held : Bool := false
  overrun : Bool := false
  band : Nat := 1
  /-- The suspension limit in force at its dispatch (R215). -/
  limit : Nat := 32
  stamp : Nat := 0
  time : Nat := 0
  deriving DecidableEq, Repr

/-- A member program that has ended: its channel, and the stamp, device time and band of its start (R144, R222). -/
structure ProgramStart where
  channel : Nat
  stamp : Nat
  time : Nat
  band : Nat
  deriving DecidableEq, Repr

/-- A transfer waiting for a channel: rank of R230 and chunks left. -/
structure Transfer where
  id : Nat
  channel : Nat
  rank : Nat
  bytes : Nat
  deriving DecidableEq, Repr

/-- How a stored line is encrypted (R302): key slot, form, and the counters or stamp of its keystream input. -/
structure Seal where
  slot : Nat
  stampForm : Bool
  major : Nat
  minor : Nat
  deriving DecidableEq, Repr

/-- One line in a log row (Table — Log sector): ciphertext, stamp, group number (`grp`, of a version provisional at dispatch), group
tag (`groupTag`, R139), and whether the integrity entry that names it has been programmed (R316). -/
structure LogLine where
  place : Nat
  line : Nat
  grp : Option Nat
  poison : Bool
  cipher : Line
  stamp : Nat
  tag : BitVec 64
  sealed : Seal
  /-- It is a moved copy, and of which log place (none: of an ML page). -/
  moved : Option (Option Nat) := none
  groupTag : Option Nat := none
  entryDone : Bool := false
  deriving DecidableEq, Repr

/-- A log row (R237): its mark, its lines, whether all sixteen programs have completed, and its sectors programmed so far. -/
structure LogRow where
  mark : Nat
  lines : List LogLine
  complete : Bool := false
  starts : List ProgramStart := []
  /-- The channels of its data members in order, fixed when it is dispatched: three line places each (R235, R237, R239). -/
  data : List Nat := []
  deriving DecidableEq, Repr

/-- A copy that the log writer is to place in a row as a move (R99): a relocation (R253), a line of a page that is
re-encrypted (R307) or of a committed stamp-form line (R305). `source` is the log place it comes from, none for a page;
`preset` the seal that a re-encryption has already fixed. -/
structure LogMove where
  line : Nat
  grp : Option Nat
  data : Line
  poison : Bool
  stamp : Nat
  source : Option Nat
  preset : Option Seal := none
  groupTag : Option Nat := none
  deriving DecidableEq, Repr

/-- One line of an ML slot. -/
structure MlLine where
  cipher : Line
  poison : Bool
  stamp : Nat
  tag : BitVec 64
  sealed : Seal
  deriving DecidableEq, Repr

/-- A 4 KiB slot of an ML unit with its slot record (R222): logical page, its lines that are not zeros, program stamp,
writer. -/
structure MlSlot where
  page : Nat
  lines : Tbl MlLine
  stamp : Nat
  writer : Nat
  groupTag : Nat := 0
  region : Nat := 0
  keySlot : Nat := 0
  deriving DecidableEq, Repr

/-- The footer of a programmed ML page, its slot records apart (Table — Page footer). -/
structure PageFooter where
  bits : Nat
  band : Nat
  parity : Bool
  stamp : Nat
  time : Nat
  writer : Nat
  used : Nat
  parityChannel : Nat
  deriving DecidableEq, Repr

/-- A page move in a stripe page: the logical page, the map value read, the place it is written to and the delta entries
folded with it (R251). `rebuilt` where the page is read by stripe reconstruction (R258). -/
structure PageMove where
  page : Nat
  old : Nat
  new : Nat
  lines : Tbl MlLine
  folded : List (Nat × Nat)
  rebuilt : Bool := false
  /-- Its data is in the module's buffers: a page that is redirected (R258). -/
  held : Bool := false
  deriving DecidableEq, Repr

/-- A stripe page being filled or programmed (R237, R250). `cause` is that of MAP_SET. -/
structure StripePage where
  id : Nat
  stripe : Nat
  page : Nat
  cause : Nat
  writer : Nat := 0
  moves : List PageMove
  complete : Bool := false
  /-- Channels whose member program reported failure. -/
  failedOn : List Nat := []
  /-- The member programs that have ended. -/
  starts : List ProgramStart := []
  /-- The channel that takes its parity (R222, R235). -/
  parity : Nat := 0
  deriving DecidableEq, Repr

/-- A unit record (R268). States and modes carry the codes of R268 and R269. `lifeUsed` is the exact sum of R261's life used in
units of 1/300,000,000 (the record's parts per billion are 10/3 of it). -/
structure UnitRec where
  state : Nat := 0
  cellMode : Nat := 4
  faults : Nat := 0
  band : Nat := 1
  cycles : Nat := 0
  slPrograms : Nat := 0
  lifeUsed : Nat := 0
  /-- Programs in its cluster up to its own last program or reset: its disturb count is what came since (R226). -/
  disturbBase : Nat := 0
  calibration : Int := 0
  corrected : Nat := 0
  resetStamp : Nat := 0
  firstTime : Nat := 0
  firstAge : Nat := 0
  lastTime : Nat := 0
  lastAge : Nat := 0
  visited : Nat := 0
  /-- Order stamps of that first program, and of the last patrol visit: they place both among the sets of device time (R146). -/
  firstStamp : Nat := 0
  visitStamp : Nat := 0
  lastPage : Option Nat := none
  /-- The hottest band that its package has been in since its last patrol visit (R278). -/
  hottest : Nat := 0
  deriving DecidableEq, Repr

/-- A media retry of a line: when it started, and the threshold steps of its two senses (R209, R273). -/
structure Retry where
  line : Nat
  since : Nat
  above : Int
  below : Int
  deriving DecidableEq, Repr

/-- What a stripe is used for. -/
inductive Role where
  | free
  | openDest (cause : Nat)
  | closed
  | ring (r : Ring) (index : Nat)
  | slOnly
  | withdrawn
  deriving DecidableEq, Repr

/-- A stripe of sixteen units (R235): role, next stripe page, stamp and clock of its last program, the members it has
lost, whether it is to be demoted, refreshed or relocated first, and the visits that found many corrected bits (R283). -/
structure StripeRec where
  role : Role := .free
  nextPage : Nat := 0
  lastStamp : Nat := 0
  lastClock : Nat := 0
  lost : List Nat := []
  refresh : Bool := false
  badVisits : Nat := 0
  needsReset : Bool := false
  /-- The cell mode that a reset in progress gives it, and the one it had (0 while none is in progress). -/
  resetTo : Nat := 0
  modeBefore : Nat := 0
  /-- Demoted to SL only (R284): it serves rings, and never the ML pool again. -/
  slOnly : Bool := false
  deriving DecidableEq, Repr

/-- An age meter bank (R274). -/
structure Bank where
  stamp : Nat
  time : Nat
  age : Nat
  deriving DecidableEq, Repr

/-! ### Translation (chapter 05) -/

/-- A delta map entry (R149): a line, its group tag if provisional, its log place (mark × 45 + position) and stamp. -/
structure Delta where
  line : Nat
  grp : Option Nat
  place : Nat
  stamp : Nat
  /-- The group tag of its companion (R139). -/
  tag : Option Nat := none
  deriving DecidableEq, Repr

/-- The journal record types of R153 with their arguments. -/
inductive JournalKind where
  | mapSet (page new old cause : Nat)
  | discard (port firstPage pages mark : Nat)
  | logUnit (slot unit action : Nat)
  | logTrim (mark : Nat)
  | unitState (unit state cellMode : Nat)
  | groupOpen (tag owner override limit : Nat)
  | groupBind (tag firstPage pages : Nat)
  | groupCommit (tag openStamp lines : Nat)
  | groupAbort (tag cause lines : Nat)
  | groupRelease (tag : Nat)
  | checkpoint (segment location stamp : Nat)
  | directory (location stamp : Nat)
  | timeSet (old new : Nat)
  deriving DecidableEq, Repr

/-- A journal record: its stamp, and whether the journal sector holding it has been programmed (it is in the journal
tail otherwise). -/
structure JournalRec where
  stamp : Nat
  kind : JournalKind
  programmed : Bool := false
  /-- Sequence number of the journal sector that holds it, once programmed (R152). -/
  sector : Nat := 0
  deriving DecidableEq, Repr

/-- A segment checkpoint (R154): map entries, committed delta entries, provisional ones each with its group tag. -/
structure Checkpoint where
  stamp : Nat
  time : Nat
  map : Tbl Nat
  deltas : List Delta
  provisional : List (Nat × Delta)
  prompt : Bool
  location : Nat
  previous : Nat
  deriving DecidableEq, Repr

/-- A dirty segment (R155): the count of host bytes and the clock when it became dirty, and the next stamp at that moment, which orders
the dirty segments. -/
structure DirtySegment where
  bytes : Nat
  clock : Nat
  stamp : Nat
  deriving DecidableEq, Repr

/-- A segment directory entry (R157): location and stamp of the latest checkpoint, and the dirty bit. -/
structure DirectoryEntry where
  location : Nat
  stamp : Nat
  dirty : Bool
  deriving DecidableEq, Repr

/-- A pending discard entry (R167). -/
structure PendingDiscard where
  firstPage : Nat
  pages : Nat
  mark : Nat
  stamp : Nat
  deriving DecidableEq, Repr

/-! ### Write groups and coordination cells (chapters 03, 04) -/

inductive GroupPhase where
  | free
  | opened
  | committing
  | committed
  | aborted
  | lost
  deriving DecidableEq, Repr

/-- A group command in sequence (R119): the writing port, code, arguments, acceptance number, and once judged its status
and detail. -/
structure GroupCommand where
  port : Port
  code : Nat
  a : Word
  b : Word
  seq : Nat
  status : Nat := 0
  detail : Nat := 0
  startedAt : Nat := 0
  decided : Bool := false
  /-- The extents that a decided COMMIT has released (R124). -/
  released : List (Nat × Nat) := []
  deriving DecidableEq, Repr

/-- A read of a group's control line that waits for its port's earlier commands (R57): those with a smaller acceptance
number. -/
structure GroupReader where
  port : Port
  tag : Nat
  seq : Nat
  line : Nat
  sampled : Bool
  deriving DecidableEq, Repr

/-- A group context (R114 to R118, R139). `prov` lists the lines with a provisional version, `provCount` is word 4. -/
structure Group where
  phase : GroupPhase := .free
  owner : Port := .a
  override : Bool := false
  conflict : Bool := false
  conflictPage : Nat := 0
  fenced : Bool := false
  /-- Its context holds an uncorrectable word (R341). -/
  damaged : Bool := false
  endCause : Nat := 0
  extents : List (Nat × Nat) := []
  limit : Nat := 0
  generation : Nat := 0
  openStamp : Nat := 0
  commitStamp : Nat := 0
  prov : List Nat := []
  provCount : Nat := 0
  result : Nat := 0
  argA : Word := 0
  argB : Word := 0
  running : Option GroupCommand := none
  waiting : List GroupCommand := []
  pendingForce : Option Nat := none
  readers : List GroupReader := []
  deriving DecidableEq, Repr

/-- A result line (R58): code, the four cause bits and the stamp. -/
structure ResultLine where
  code : Nat := 0
  lostStore : Bool := false
  lostException : Bool := false
  lostReset : Bool := false
  lostService : Bool := false
  stamp : Nat := 0
  deriving DecidableEq, Repr

/-! ### Integrity (chapter 11) -/

/-- A counter block (R306). -/
structure CounterBlock where
  major : Nat := 0
  minors : Tbl Nat := []
  deriving DecidableEq, Repr

/-- The integrity entries of R315. -/
inductive IntegrityKind where
  | line (line minor : Nat) (poison : Bool) (tag : BitVec 64)
  | major (page major : Nat)
  | place (place : Nat) (tag : BitVec 64)
  | digest (object first : Nat) (mac : BitVec 64)
  deriving DecidableEq, Repr

structure IntegrityEntry where
  stamp : Nat
  kind : IntegrityKind
  programmed : Bool := false
  /-- The integrity sector that holds it, by its sequence number (R315). -/
  sector : Nat := 0
  deriving DecidableEq, Repr

/-- An integrity line of the counter cache (R323): whether it is a dirty SRAM line (held in both banks), whether it has
changed since its last write-back. The lines that R324 pins are those of the prompt regions (`State.pins`). DESIGN CHOICE (log 193): a line
stays until a write-back, an error or a controller reset takes it, since no rule says which clean line is evicted when. -/
structure CachedIntegrity where
  obj : IntegrityObject
  dirty : Bool
  changed : Bool
  deriving DecidableEq, Repr

/-- The anchor (R317). -/
structure Anchor where
  stamp : Nat := 0
  sequence : Nat := 0
  chain : BitVec 64 := 0
  root : List (BitVec 56) := []
  deriving DecidableEq, Repr

/-- The HALT record (R329): its stamp, named ranges (first line, lines), and whether every failure was in a counter block
or a node (R332). -/
structure HaltRecord where
  stamp : Nat
  ranges : List (Nat × Nat)
  countersOnly : Bool
  deriving DecidableEq, Repr

/-! ### Stored-data protection (chapter 12) -/

/-- A correctable-error table entry (R347); outcomes 0 pending, 1 transient, 2 lasting, 3 not possible. -/
structure ErrorEntry where
  mem : MemKind
  outcome : Nat
  errors : Nat
  uncorrectable : Nat
  address : Nat
  first : Nat
  last : Nat
  deriving DecidableEq, Repr

/-- A remap table entry (R349). -/
structure RemapEntry where
  mem : MemKind
  state : Nat
  row : Nat
  time : Nat
  deriving DecidableEq, Repr

/-! ### Power, modes and thermal (chapters 13, 14, 15) -/

/-- A switched rail (R366). -/
structure Rail where
  on : Bool := false
  crowbar : Bool := false
  deriving DecidableEq, Repr

/-- A power log record (R370). -/
structure PowerRecord where
  sequence : Nat
  kind : Nat
  mode : Nat
  rail : Nat
  cause : Nat
  time : Nat
  stamp : Nat
  vin : Nat
  lowest : Nat
  current : Nat
  energy : Nat
  stuck : Nat
  junction : Nat
  package : Nat
  voltages : List Nat
  deriving DecidableEq, Repr

/-- A slot of the power log: the record whose body it holds, whether the CRC in it matches, and its commit word (R371, R372). -/
structure LogSlot where
  record : PowerRecord
  crcMatches : Bool := true
  commit : BitVec 64 := 0
  deriving DecidableEq, Repr

/-- The hold-up cartridge (R374 to R380). -/
structure Cartridge where
  leverClosed : Bool := false
  ident : Option (List Byte) := none
  /-- A test has passed since the last insertion and identity change (R377). -/
  passed : Bool := false
  /-- The last test failed (R377). -/
  failed : Bool := false
  /-- Service clock at the last test. -/
  testedAt : Nat := 0
  /-- A test is scheduled for the next full charge (R376). -/
  testDue : Bool := false
  /-- The usable energy has been computed in this power cycle (R24, R377). -/
  measured : Bool := false
  /-- Identity recorded at the previous curtain (R376). -/
  identAtCurtain : Option (List Byte) := none
  /-- A test below the end-of-life warning has been reported (R379). -/
  warned : Bool := false
  deriving DecidableEq, Repr

/-- A curtain that is running (R381, R382): first cause, every cause absorbed, the mode before it, its stamp, device time
and clock, whether the commit point has passed, whether it was stopped by the cartridge floor. -/
structure Curtain where
  cause : Nat
  causes : List Nat
  modeBefore : Nat
  stamp : Nat
  time : Nat
  clock : Nat
  committed : Bool := false
  deriving DecidableEq, Repr

/-- Why the module is held in AUX with FAULT_N low (R367, R406); a rail under crowbar holds it as well (R369). -/
inductive AuxHold where
  | railRetries
  | resets
  deriving DecidableEq, Repr

/-- A DOZE entry or wake in progress (R399, R404). -/
structure DozeEntry where
  step : Nat
  pendingWake : Option Nat := none
  deriving DecidableEq, Repr

/-- What the thermal monitor keeps beside its entries (chapter 15). Sensor numbers are channel numbers, or 64 + die. -/
structure Thermal where
  /-- Latest reading of every die sensor (R229). -/
  dieTemp : Tbl Int := []
  /-- Consecutive rounds in mismatch, by sensor (R417). -/
  mismatch : Tbl Nat := []
  /-- The sensor's latest differences from its neighbours' median in m°C, newest first (R419). -/
  offsets : Tbl (List Int) := []
  /-- Learned offset of a broken sensor (R419). -/
  learned : Tbl Int := []
  /-- Dies whose last read reached 100 °C (R426). -/
  hotOnce : List Nat := []
  /-- Clock at which the request was raised, enforcement level and clock of its last change (R423, R424). -/
  requestAt : Option Nat := none
  level : Nat := 0
  levelAt : Nat := 0
  /-- Clock at which enforcement began (0x9001.06). -/
  enforcedSince : Option Nat := none
  /-- The cartridge sensor, channel 46, is declared broken: 0x9030.01 has no bit for it (log 43). -/
  cartridgeBroken : Bool := false
  /-- Clock since which every temperature is 3 °C below its threshold (R423). -/
  coolSince : Option Nat := none
  /-- Rounds each cold-plate sensor has been out of range (R427). -/
  coldRounds : Tbl Nat := []
  /-- Package whose band changed last (Table — Thermal event sources, source 40). -/
  bandPackage : Nat := 0
  deriving DecidableEq, Repr

/-! ### What leaves the module -/

/-- The header fields that a dictionary response takes from its request, and the return code of the mailbox command that carries it, Success
(Table — Vendor request and response header, R76). -/
structure ReplyHead where
  transaction : Nat
  index : Nat
  subindex : Nat
  returnCode : Option Nat
  deriving DecidableEq, Repr

/-- A message the module sends. `out` lists them oldest first (MODEL: the ports' wires). -/
inductive Out where
  | cmp (p : Port) (tag : Nat) (devLoad : Nat)
  | readData (p : Port) (tag : Nat) (data : Line) (poison : Bool) (devLoad : Nat)
  | flushDone (p : Port) (phase : Nat)
  | msix (p : Port) (vector : Nat)
  | mailbox (p : Port) (code : Nat) (fields : List Nat)
  | dict (path : Path) (op : Nat) (head : ReplyHead) (status type : Nat) (value : List Byte) (tag : Option (BitVec 128))
  | frame (dest : Option Nat) (opcode : Nat) (fields : List Nat)
  deriving DecidableEq, Repr

/-! ### Dictionary sessions, field link, events (chapters 16, 17, 18) -/

/-- What a dictionary request asks of its entry (R76, R458). -/
inductive DictAsk where
  | read
  | write (value : List Byte)
  | act (arg : List Byte)
  | blockRead (offset length : Nat)
  | blockWrite (offset : Nat) (segment : List Byte) (final : Bool)
  deriving DecidableEq, Repr

/-- What the environment supplies for an action: the result of an image activation, and what a raw read finds. Where a command does not
carry it, a free value decides. -/
structure DictEnv where
  activation : Option ActivationResult := none
  raw : Option (CodeResult × List Byte) := none
  deriving DecidableEq, Repr

/-- A request that woke the module from DOZE and is served after the wake (R437, R467). -/
structure Deferred where
  req : Req
  idx : Nat
  sub : Nat
  ask : DictAsk
  env : DictEnv
  deriving DecidableEq, Repr

/-- An open session (R441 to R443). -/
structure Session where
  number : Nat
  path : Path
  level : Nat
  tagKey : List Byte
  wrapKey : List Byte
  counter : Nat := 0
  /-- The tag of the last accepted request, and the response to it once formed (R443). -/
  lastTag : Option (BitVec 128) := none
  lastReply : Option Out := none
  /-- Repeats of that request that wait for its response (R468). -/
  repeats : Nat := 0
  lastUse : Nat
  deriving DecidableEq, Repr

/-- A reserved session number between the two handshake steps (R441). -/
structure Reservation where
  number : Nat
  path : Path
  level : Nat
  requesterNonce : BitVec 128
  moduleNonce : BitVec 128
  clock : Nat
  deriving DecidableEq, Repr

/-- A block write in progress in a session (R431); session 0 is that of a mailbox whose requests name none. -/
structure BlockWrite where
  path : Path
  session : Nat
  key : Nat
  bytes : List Byte
  deriving DecidableEq, Repr

/-- A change record (R447). -/
structure ChangeRecord where
  stamp : Nat
  time : Nat
  key : Nat
  kind : Nat
  path : Nat
  privilege : Nat
  session : Nat
  counter : Nat
  length : Nat
  old : List Byte
  new : List Byte
  deriving DecidableEq, Repr

/-- A snapshot value (R484): key, type code, value. -/
structure Snapshot where
  key : Nat
  type : Nat
  value : Nat
  deriving DecidableEq, Repr

/-- A recorder record (R484). -/
structure RecorderRecord where
  sequence : Nat
  stamp : Nat
  time : Nat
  source : Nat
  severity : Nat
  mode : Nat
  kept : Bool
  circulating : Bool
  responder : Bool
  occurrences : Nat
  snapshots : List Snapshot
  deriving DecidableEq, Repr

/-- A notice of the notice queue (R469). -/
structure NoticeItem where
  number : Nat
  source : Nat
  severity : Nat
  stamp : Nat
  time : Nat
  snapshots : List Snapshot
  deriving DecidableEq, Repr

/-- A frame of the field receive queue (R464). -/
structure ReceivedFrame where
  source : Nat
  payload : List Byte
  deriving DecidableEq, Repr

/-- A capture episode (R489): its kind (0xA001.06) and how many records it has kept. -/
structure Episode where
  kind : Nat
  kept : Nat
  deriving DecidableEq, Repr

/-! ### Observability and DMA (chapter 19) -/

/-- A sample record (R500): the fields a model without time can fill. -/
structure SampleRecord where
  stamp : Nat
  time : Nat
  line : Nat
  port : Port
  opcode : Nat
  outcome : Nat
  die : Nat
  steps : Nat
  cls : Nat
  flags : Nat
  deriving DecidableEq, Repr

/-- What the record of a deadline response carries (R214): the stamp of the earliest deadline, line, class, recovery steps, and
outcome 0 recovered and relocated, 1 relocation not needed, 2 failed check. -/
structure DeadlineReport where
  stamp : Nat
  line : Nat
  cls : Nat
  steps : Nat
  outcome : Nat
  deriving DecidableEq, Repr

/-- A DMA channel (R505, R506): the descriptor line as written, the descriptor captured at the start, the status words,
the starting port's running word in the parameter store, and the items a drain has gathered for its burst. -/
structure DmaChannel where
  desc : List Word := [0, 0, 0, 0, 0, 0, 0, 0]
  captured : List Word := [0, 0, 0, 0, 0, 0, 0, 0]
  state : Nat := 0
  busError : Nat := 0
  refusal : Nat := 0
  ignored : Bool := false
  residue : Nat := 0
  failing : Nat := 0
  direction : Nat := 0
  lastStamp : Nat := 0
  lastTime : Nat := 0
  poisoned : Nat := 0
  port : Port := .a
  /-- The running word of the parameter store: the residue it would report (R506, R511). -/
  runningWord : Option Nat := none
  abortPending : Bool := false
  /-- The bytes of a drained item that did not fit in the last burst (R509). -/
  carry : List Byte := []
  deriving DecidableEq, Repr

/-! ### The save image -/

/-- The save image (R158): header fields and sections 1 to 5. -/
structure Image where
  armed : Bool
  complete : Bool
  stamp : Nat
  time : Nat
  cause : Nat
  modeBefore : Nat
  protectionWord : Bool
  ceiling : Nat
  restoreCount : Nat
  ingressA : List Store
  ingressB : List Store
  staging : List Staged
  groups : Tbl Group
  dirtyCounters : List CachedIntegrity
  journalTail : List JournalRec
  integrityTail : List IntegrityEntry
  dma : Tbl DmaChannel
  deriving DecidableEq, Repr

/-! ### The whole state -/

/-- The translation structures (chapter 05). -/
structure Translation where
  mainMap : Tbl Nat := []
  delta : List Delta := []
  journal : List JournalRec := []
  journalSequence : Nat := 0
  checkpoints : Tbl Checkpoint := []
  /-- The directory image's stamp, and what it holds for each segment (R157). -/
  directoryStamp : Nat := 0
  directory : Tbl DirectoryEntry := []
  /-- Location of the latest directory image, in the superblock's copies A and B (R157). -/
  superblockA : Nat := 0
  superblockB : Nat := 0
  dirty : Tbl DirtySegment := []
  checkpointsSinceDirectory : Nat := 0
  /-- Rows written so far to the journal and to the checkpoint area, whose rings they go round (R238, R244). -/
  journalRows : Nat := 0
  checkpointRows : Nat := 0
  /-- Commit records that wait for lines of their group to reach the medium (R35): commit stamp and lines. -/
  commitWaits : List (Nat × List Nat) := []
  /-- The provisional pool has been reported above its threshold (R143). -/
  poolAbove : Bool := false
  pendingDiscards : Tbl PendingDiscard := []
  /-- Segment rebuild after RESTORE (R161 to R166). -/
  allRebuilt : Bool := true
  rebuilt : List Nat := []
  rebuilding : List Nat := []
  rebuildQueue : List Nat := []
  /-- Pending MAP_SET and DISCARD records of segments not yet rebuilt (R160, R165). -/
  pendingRecords : List JournalRec := []
  /-- Group commits that the last replay found: tag, open stamp, commit stamp (R139). -/
  commits : List (Nat × Nat × Nat) := []
  /-- The stamp from which the last replay ran, t0 of R160. -/
  replayFrom : Nat := 0
  /-- Segments that a full prompt home bucket or a checkpoint wants folded (R156, R205). -/
  foldWanted : List Nat := []
  deriving DecidableEq, Repr

/-- The log and the medium (chapters 08, 09). -/
structure Medium where
  head : Nat := 0
  trim : Nat := 0
  rows : List LogRow := []
  ml : Tbl MlSlot := []
  /-- The footers of ML pages, by unit × 512 + page (R222). -/
  footers : Tbl PageFooter := []
  /-- SL programs that the last loss of power cut short (0x4041.0A). -/
  torn : Nat := 0
  units : Tbl UnitRec := []
  /-- Programs made in each cluster (R226). -/
  clusterPrograms : Tbl Nat := []
  stripes : Tbl StripeRec := []
  stripePages : List StripePage := []
  nextId : Nat := 0
  jobs : List Job := []
  ops : List Op := []
  transfers : List Transfer := []
  /-- Copies waiting to be moved through the log. -/
  moves : List LogMove := []
  /-- Media regions whose suspension is not confirmed (R202). -/
  overrunRegions : List Nat := []
  folding : Bool := false
  fullSince : Option Nat := none
  /-- Source 232 has been raised since the log fill was last below the fold start (R267). -/
  fullReported : Bool := false
  /-- The health bits as last reported (source 247). -/
  health : Nat := 0
  /-- The free-pool critical state of R254: credits withheld. -/
  critical : Bool := false
  urgent : Bool := false
  banks : Tbl Bank := []
  hourlyMarks : List (List Nat) := []
  /-- Host bytes accepted and ML bytes programmed at the last 24 hourly marks, since RESTORE (0x6150.08). -/
  volumeMarks : List (Nat × Nat) := []
  /-- The image of the unit table that the checkpoint area holds, with the programs of the clusters that its disturb counts come from (R270). -/
  unitImage : Tbl UnitRec := []
  imagePrograms : Tbl Nat := []
  /-- Of the bytes of 0x6150.07, those that rebuild has programmed since RESTORE: no write amplification (R247). -/
  rebuildBytes : Nat := 0
  /-- Values of the lifetime counts and accumulators as last saved to the parameter store, by key (R265, R271). -/
  savedCounts : Tbl Nat := []
  /-- A RESTORE's off interval was long or no bank was valid, and the priority pass has not begun (R276). -/
  passDue : Bool := false
  /-- Clocks of suspend overruns by die and transfer errors by channel (R286, R287). -/
  overruns : List (Nat × Nat) := []
  transferErrors : List (Nat × Nat) := []
  /-- Units the priority pass has still to visit (R276). -/
  priorityPass : List Nat := []
  patrolVisits : Nat := 0
  /-- Pages placed under their precision floor, with the clock (R284). -/
  underFloor : Tbl Nat := []
  retiredChannels : List Nat := []
  rebuildDies : List Nat := []
  rebuildStarted : Nat := 0
  deriving DecidableEq, Repr

/-- The integrity engine (chapter 11). -/
structure Integrity where
  /-- The wrapped slot keys in the parameter store, of the slots renewed since manufacture, and the keys generated so far (R299, R301). -/
  wrappedKeys : Tbl (List Byte) := []
  keysGenerated : Nat := 0
  counters : Tbl CounterBlock := []
  /-- The counter blocks as the last write-back batch wrote them (R317): what the medium holds. -/
  written : Tbl CounterBlock := []
  entries : List IntegrityEntry := []
  /-- Entries of the unanchored tail not yet applied to their lines, by integrity line (R320). -/
  pendingEntries : List (IntegrityObject × IntegrityEntry) := []
  sequence : Nat := 0
  /-- The first journal sector that no Digest entry covers yet (R318). -/
  covered : Nat := 0
  chain : BitVec 64 := 0
  anchor : Anchor := {}
  cache : List CachedIntegrity := []
  /-- Integrity pages: their integrity table entries (R313). The second copy of a tag page (R314) is numbered 2^28 above the first. -/
  table : Tbl Nat := []
  /-- Superblock list of stripes that received integrity pages since the last image. -/
  tableStripes : List Nat := []
  tableImageStamp : Nat := 0
  tableImage : Tbl Nat := []
  halt : Option HaltRecord := none
  poisonedRanges : List (Nat × Nat × Nat) := []
  lastBatch : Nat := 0
  deriving DecidableEq, Repr

/-- Stored-data protection (chapter 12). -/
structure StoredData where
  errors : List ErrorEntry := []
  /-- The correctable-error table as the parameter store holds it (R347). -/
  savedErrors : List ErrorEntry := []
  remap : List RemapEntry := []
  /-- Rows under test or queued, and rows redirected to a shadow row (R343). -/
  rowTests : List (MemKind × Nat) := []
  shadows : List (MemKind × Nat) := []
  /-- Medium sectors waiting for their self-test: address (R344). -/
  sectorTests : List Nat := []
  /-- Transient outcomes by address and clock (R345). -/
  transients : List (MemKind × Nat × Nat) := []
  /-- Raw contents of the check-bit scratch areas: data and check bits (R351). -/
  scratch : List (MemKind × Nat × List Byte × List Byte) := []
  /-- The medium scratch unit of SERVICE (R351). -/
  scratchUnit : Option Nat := none
  /-- Two-copy values whose copies are both lost, by dictionary key (R356). -/
  lostValues : List Nat := []
  deriving DecidableEq, Repr

/-- The supervisor (chapter 13). -/
structure Power where
  vinValid : Bool := false
  switchOpen : Bool := false
  rails : Tbl Rail := []
  /-- Service clocks of rail faults and of device resets (R367, R406). -/
  railFaults : List Nat := []
  resets : List Nat := []
  hold : Option AuxHold := none
  /-- The power log's slots in the order they were written, the oldest first: at most 512 (R370, R371). -/
  log : List LogSlot := []
  cartridge : Cartridge := {}
  /-- The protection word of the parameter store: true when it reads protected (R22, R23). -/
  protectionWord : Bool := false
  /-- The persist point in force: true at ingress entry (R23). -/
  persistAtEntry : Bool := false
  curtain : Option Curtain := none
  image : Option Image := none
  /-- The image stamp recorded at the curtain's commit point (R321). -/
  imageStamp : Nat := 0
  /-- Save area (0 A, 1 B) of the recorded image (R383). -/
  saveArea : Nat := 0
  /-- Input loss happened while the image was incomplete (R386). -/
  floorReached : Bool := false
  /-- Power-cap reduction of the token budget (R364). -/
  capCut : Nat := 0
  mrLow : Bool := false
  /-- Kind of the power-down that the next RESTORE classifies: a device reset kept the rails (R39). -/
  railsKept : Bool := false
  /-- A reset that must end in FALL (R406). -/
  fourthReset : Bool := false
  /-- VCORE in mV above its target, raised by the margin monitor (R475). -/
  margin : Nat := 0
  /-- Clock of the last loss of a valid VIN (R367, R388, R406). -/
  vinLostAt : Nat := 0
  /-- RISE has ended but for MR_N, which is still low (R389). -/
  risen : Bool := false
  deriving DecidableEq, Repr

/-- What an indicator shows (R524): dark, lit, lit for `on` µs of every `period` µs, or two flashes of 100 ms every 2 s. -/
inductive LedPattern where
  | dark
  | lit
  | blink (on period : Nat)
  | twoFlashes
  deriving DecidableEq, Repr

/-- The outputs that a device reset holds from the curtain's start until READY rises (R407). -/
structure HeldPins where
  faultLow : Bool
  alertLow : Bool
  holdup : Bool
  gpo : Nat
  ledPwr : LedPattern
  ledSvc : LedPattern
  since : Nat
  deriving DecidableEq, Repr

/-- An online activation from the start of its freeze: the clock then, and whether its self-check passes (R411). -/
structure Activation where
  clock : Nat
  passes : Bool
  deriving DecidableEq, Repr

/-- The mode and reset controller (chapter 14). -/
structure Modes where
  heldPins : Option HeldPins := none
  enteredAt : Nat := 0
  /-- The last RESTORE step that has ended, 5 when RESTORE begins (R162). -/
  restoreStep : Nat := 0
  /-- Step 9 has taken the save image, or found none, and goes on until its content is on the medium (R24, R159). -/
  reinstated : Bool := false
  /-- The kind of the last power-down as this RESTORE has judged it (R39): 0 none recorded, 1 clean, 2 device reset, 3 unsaved,
  4 dirty. -/
  downKind : Nat := 0
  /-- Wide mode in force since the last RESTORE (R46). -/
  wideMode : Bool := false
  offHeld : Bool := false
  keptOn : Bool := false
  fallEndedAt : Option Nat := none
  lockoutPending : Bool := false
  doze : Option DozeEntry := none
  waking : Bool := false
  rattleAt : Option Nat := none
  rattleRejectAt : Option Nat := none
  serviceEntered : Nat := 0
  /-- Policy is frozen while one runs. -/
  activation : Option Activation := none
  vinValidAt : Nat := 0
  lastStall : Option Nat := none
  /-- The two firmware slots: version of each (R411). -/
  slotVersions : Tbl Nat := []
  deriving DecidableEq, Repr

/-- The management link (chapters 16, 17). -/
structure Management where
  sessions : List Session := []
  reservations : List Reservation := []
  blockWrites : List BlockWrite := []
  nextSession : Nat := 1
  /-- Failed proofs by path and clock, and the holds they lead to (R444). -/
  failures : List (Path × Nat) := []
  holds : List (Path × Nat) := []
  levelKeys : Tbl (List Byte) := []
  /-- Requests that wait for the wake from DOZE, oldest first (R437). -/
  deferred : List Deferred := []
  changes : List ChangeRecord := []
  notices : List NoticeItem := []
  /-- The clock at which the last notices left, at most 8 of the last second (R469). -/
  noticeTimes : List Nat := []
  received : List ReceivedFrame := []
  bucket : Nat := 8
  busyBucket : Nat := 8
  yieldCycles : Nat := 0
  /-- A PLCA follower has fallen back to CSMA/CD (R453). -/
  beaconLost : Bool := false
  /-- Status of the last invocation of each action, by key (R10). -/
  actionStatus : Tbl Nat := []
  deriving DecidableEq, Repr

/-- The recorder and the delivery of events (chapter 18). -/
structure Recorder where
  records : List RecorderRecord := []
  queue : List RecorderRecord := []
  responderQueue : List RecorderRecord := []
  episode : Option Episode := none
  /-- Occurrences recorded in the running second: source and count (R487). -/
  rateSecond : Nat := 0
  rate : Tbl Nat := []
  droppedAt : Option Nat := none
  /-- The lines that the latest occurrence of a source names, by source: first line and count of each range (R34, R290). -/
  named : Tbl (List (Nat × Nat)) := []
  deriving DecidableEq, Repr

/-- Counters, samples and DMA (chapter 19). -/
structure Observe where
  wrapAt : Tbl Nat := []
  samples : List SampleRecord := []
  thresholdRaised : Bool := false
  deadlineReports : List DeadlineReport := []
  dma : Tbl DmaChannel := []
  deriving DecidableEq, Repr

/-- The state of the module. -/
structure State where
  /-- Commands waiting, first in, first out. -/
  pending : List Instr := []
  /-- The numeric entries of the object dictionary that differ from their defaults, by key (index × 256 + subindex). -/
  dict : Tbl Nat := []
  /-- The STR and OCTS entries that differ from their defaults, by key. -/
  octs : Tbl (List Byte) := []
  /-- MODEL: nanoseconds of the reference domain since the first power-on, and those spent in a serving mode. -/
  clock : Nat := 0
  service : Nat := 0
  /-- Device time in ns (R146). -/
  deviceTime : Nat := 0
  /-- The next order stamp, the stamp at which the current RESTORE began (R144, R145, R63). -/
  nextStamp : Nat := 4294967296
  restoreStamp : Nat := 0
  /-- Acceptance number of the next store or window access (R124). -/
  nextSeq : Nat := 0
  /-- MODEL: how many free values have been drawn (Config.freeValue). -/
  draws : Nat := 0
  portA : PortState := {}
  portB : PortState := {}
  staging : List Staged := []
  /-- A continuous drain waits at the drain reserve (R89), since the clock. -/
  stallSince : Option Nat := none
  /-- Source 89 has been raised since the free space last exceeded the eviction mark (R194). -/
  stallReported : Bool := false
  l1 : List CacheBlock := []
  l2 : List CacheBlock := []
  lfsr1 : BitVec 32 := 1
  lfsr2 : BitVec 32 := 1
  reads : List Read := []
  nextRead : Nat := 0
  /-- Media retries running (R213). -/
  retries : List Retry := []
  groups : Tbl Group := []
  /-- Coordination cells: word w of cell c at 8 × c + w. -/
  cells : Tbl Word := []
  reservedA : List Nat := []
  reservedB : List Nat := []
  resultsA : Tbl ResultLine := []
  resultsB : Tbl ResultLine := []
  /-- What a result line not listed reads: zeros, or the device reset bit after a RESTORE with rails kept (R107). -/
  resultBase : ResultLine := {}
  xlat : Translation := {}
  med : Medium := {}
  integ : Integrity := {}
  stored : StoredData := {}
  pow : Power := {}
  modes : Modes := {}
  therm : Thermal := {}
  mgmt : Management := {}
  recd : Recorder := {}
  obs : Observe := {}
  out : List Out := []
  deriving DecidableEq, Repr

/-- Why a step stops with a fault. -/
inductive Fault where
  /-- A request names a DPA above 0x0400_4FFF_FFFF, the highest decodable DPA, or a data command names a line at or above
  0x0400_0000_0000. Raised by the data and window commands. Safe: no decoder can produce such an address (R52). -/
  | outsideDpa
  deriving DecidableEq, Repr

/-- Why a step is refused. -/
inductive Refusal where
  /-- A command without a meaning yet. Safe. -/
  | notModelled (mnemonic : String)
  deriving DecidableEq, Repr

/-- The state right after power-on: the supervisor runs in AUX (the default of 0xD001.01), VIN is not yet valid, every
entry reads its default, nothing is stored. -/
def State.reset : State := {}

end Sys2Proof.Machine
end

