-- ==== Sys2Proof/Machine/Tables.lean ====
section
/-! DEFINITION. Sparse tables: reading, writing and erasing an entry of a `Tbl`, which keeps its keys strictly rising. -/

namespace Sys2Proof.Machine

variable {α : Type}

/-- The value a table lists for a key. -/
def tfind (k : Nat) : Tbl α → Option α
  | [] => none
  | (j, v) :: t => if j = k then some v else tfind k t

/-- The value of a key, `d` where none is listed. -/
def tgetD (d : α) (k : Nat) (t : Tbl α) : α := (tfind k t).getD d

/-- List a value for a key, at its place in the rising order. -/
def tput (k : Nat) (v : α) : Tbl α → Tbl α
  | [] => [(k, v)]
  | (j, w) :: t =>
    if k < j then (k, v) :: (j, w) :: t else if k = j then (k, v) :: t else (j, w) :: tput k v t

/-- Erase a key. -/
def tdel (k : Nat) (t : Tbl α) : Tbl α := t.filter fun e => !(e.1 == k)

/-- Write a value in a table whose unlisted keys read `d`: writing `d` erases the entry. -/
def tset [DecidableEq α] (d : α) (k : Nat) (v : α) (t : Tbl α) : Tbl α := if v = d then tdel k t else tput k v t

/-- Change a listed entry, or the default `d` where none is listed. -/
def tmod (d : α) (k : Nat) (f : α → α) (t : Tbl α) : Tbl α := tput k (f (tgetD d k t)) t

/-- The keys of a table rise strictly: the form every operation here keeps. -/
def rising : Tbl α → Bool
  | [] => true
  | [_] => true
  | a :: b :: t => decide (a.1 < b.1) && rising (b :: t)

/-- The entries whose key lies in [lo, lo + n). -/
def trange (lo n : Nat) (t : Tbl α) : Tbl α := t.filter fun e => decide (lo ≤ e.1) && decide (e.1 < lo + n)

/-- Erase the keys in [lo, lo + n). -/
def tdelRange (lo n : Nat) (t : Tbl α) : Tbl α := t.filter fun e => !(decide (lo ≤ e.1) && decide (e.1 < lo + n))

/-- Add an element to a list without repeats. -/
def insertNew [DecidableEq α] (a : α) (l : List α) : List α := if a ∈ l then l else l ++ [a]

end Sys2Proof.Machine
end

