-- ==== Sys2Proof/Machine/Crypto.lean ====
section
/-! DEFINITION. Byte strings as numbers (R7); the keys that chapter 11 derives (R299, R300); the keystream of a line (R302); and the MAC of R303
over GHASH, for line tags and under the tree key (R309, R315, R318). AES-256 and HKDF-SHA-256 are functions of `Config` without a body. -/

namespace Sys2Proof.Machine

/-! ### Byte strings (R7) -/

/-- A little-endian byte string as a number (R7). -/
def bytesToNat : List Byte → Nat
  | [] => 0
  | b :: t => b.toNat + 256 * bytesToNat t

/-- The little-endian bytes of a number (R7). -/
def natToBytes : Nat → Nat → List Byte
  | 0, _ => []
  | n + 1, v => BitVec.ofNat 8 v :: natToBytes n (v / 256)

/-- The first `n` bytes of a string, zero-padded. -/
def padTo (n : Nat) (l : List Byte) : List Byte := (l ++ List.replicate (n - l.length) 0).take n

/-- Byte `i` of a line. -/
def lineByte (d : Line) (i : Nat) : Byte := d.extractLsb' (8 * i) 8

/-- The 64 bytes of a line, byte 0 first. -/
def lineBytes (d : Line) : List Byte := (List.range 64).map (lineByte d)

/-! ### Keys (R299, R300) -/

/-- The key-encryption key, of the hardware-unique key (R299). -/
def keyEncryptionKey : List Byte := Config.keyEncryptionKey Config.hardwareKey

/-- Info strings of R300: "ZL-enc", "ZL-tag", "ZL-tree" and "ZL-save". -/
def infoEnc : List Byte := [0x5A, 0x4C, 0x2D, 0x65, 0x6E, 0x63]
def infoTag : List Byte := [0x5A, 0x4C, 0x2D, 0x74, 0x61, 0x67]
def infoTree : List Byte := [0x5A, 0x4C, 0x2D, 0x74, 0x72, 0x65, 0x65]
def infoSave : List Byte := [0x5A, 0x4C, 0x2D, 0x73, 0x61, 0x76, 0x65]

/-- The encryption key and the tag key of a slot key. DESIGN CHOICE (log 189): no salt. -/
def encryptionKey (k : List Byte) : List Byte := Config.hkdfSha256 k [] infoEnc
def tagKey (k : List Byte) : List Byte := Config.hkdfSha256 k [] infoTag

/-- The tree key, and the image key of a save image: the order stamp follows its info string, in 8 bytes (log 189). -/
def treeKey : List Byte := Config.hkdfSha256 Config.hardwareKey [] infoTree
def imageKey (stamp : Nat) : List Byte := Config.hkdfSha256 Config.hardwareKey [] (infoSave ++ natToBytes 8 stamp)

/-- The wrapped form of a slot's key in the parameter store: 40 bytes, that of manufacture for slot 0 until it is renewed, zeros of an empty
slot (R299). -/
def State.wrappedKey (s : State) (slot : Nat) : List Byte :=
  (tfind slot s.integ.wrappedKeys).getD (if slot = 0 then Config.firstWrappedKey else List.replicate 40 0)

/-- The key of a slot: its wrapped form unwrapped; no key where that fails. -/
def State.keyOf (s : State) (slot : Nat) : List Byte := (Config.aesUnwrap keyEncryptionKey (s.wrappedKey slot)).getD []

/-! ### Encryption in counter mode (R302) -/

/-- The keystream of a line over its keystream input: block b encrypts the input with b in bits [1:0]. -/
def keystream (k : List Byte) (a : BitVec 128) : Line :=
  Config.aes256 k (a ||| 3) ++ Config.aes256 k (a ||| 2) ++ Config.aes256 k (a ||| 1) ++ Config.aes256 k a

/-! ### GHASH and the MAC of R303 -/

/-- A block with its bytes in reverse order. PRESUMED (log 188): SP 800-38D numbers a block's bits from the highest of its first byte. -/
def swapBlock (b : BitVec 128) : BitVec 128 := BitVec.ofNat 128 (bytesToNat (natToBytes 16 b.toNat).reverse)

/-- One step of the product of SP 800-38D: the sum so far, and the factor times a power of the indeterminate. -/
def gfStep (x : BitVec 128) (zv : BitVec 128 × BitVec 128) (i : Nat) : BitVec 128 × BitVec 128 :=
  (if x.getMsbD i then zv.1 ^^^ zv.2 else zv.1,
    if zv.2.getLsbD 0 then (zv.2 >>> 1) ^^^ ((0xE1 : BitVec 128) <<< 120) else zv.2 >>> 1)

/-- The product in GF(2^128) of SP 800-38D. -/
def gfMul (x y : BitVec 128) : BitVec 128 := ((List.range 128).foldl (gfStep x) (0, y)).1

/-- Bytes cut into `n` blocks of 16, the last padded with zeros. -/
def cutBlocks : Nat → List Byte → List (BitVec 128)
  | 0, _ => []
  | n + 1, l => BitVec.ofNat 128 (bytesToNat (padTo 16 l)) :: cutBlocks n (l.drop 16)

def blocksOf (l : List Byte) : List (BitVec 128) := cutBlocks ((l.length + 15) / 16) l

/-- GHASH of A and C under H: the blocks of each, then the block of their lengths in bits. PRESUMED (log 188): as in SP 800-38D. -/
def ghash (h : BitVec 128) (a c : List Byte) : BitVec 128 :=
  let lengths := BitVec.ofNat 128 (8 * a.length * 2 ^ 64 + 8 * c.length)
  ((blocksOf a ++ blocksOf c).map swapBlock ++ [lengths]).foldl (fun y x => gfMul (y ^^^ x) h) 0

/-- The MAC of R303 under a key T: the low 64 bits of GHASH of A and C under H = AES of 0, masked with the AES of A with bit [125] set. -/
def macUnder (t : List Byte) (a : BitVec 128) (c : List Byte) : BitVec 64 :=
  let h := swapBlock (Config.aes256 t 0)
  (swapBlock (ghash h (natToBytes 16 a.toNat) c) ^^^ Config.aes256 t (a ||| (1 : BitVec 128) <<< 125)).setWidth 64

/-- A MAC under the tree key: over an integrity address and content (R309), or over content alone (R315, R318). -/
def treeMac (address : Option Nat) (content : List Byte) : BitVec 64 := macUnder treeKey (Config.macInput address) content

end Sys2Proof.Machine
end

