-- ==== Sys2Proof/Machine/Descriptor.lean ====
section
/-! DEFINITION. What the dictionary says of one entry (R434): its type, access, privileges, persistence, range and
default. -/

namespace Sys2Proof.Machine

/-- The types of Table — Type codes (R430). -/
inductive EntryType where
  | bool | u8 | u16 | u32 | u64 | i8 | i16 | i32 | i64 | time64 | str | octs | action
  deriving DecidableEq, Repr

/-- The access codes of R10. -/
inductive Access where
  | ro | rw | wo | w1c | rc | act
  deriving DecidableEq, Repr

/-- What keeps an entry's value (R438): the parameter store, nothing, or the part itself ("—"). -/
inductive Keep where
  | persistent | volatile | fixed
  deriving DecidableEq, Repr

/-- One row of an entry table. `rd` and `wr` are privilege codes (R434; 255 where no write exists), `lo` and `hi`
bound the value (or, for STR and OCTS, its length), `dflt` is `none` where the default is fixed per part or per image,
`saturating` says that the chapter calls the count saturating. -/
structure Desc where
  idx : Nat
  sub : Nat
  ty : EntryType
  access : Access
  rd : Nat
  wr : Nat
  keep : Keep
  lo : Int
  hi : Int
  dflt : Option Nat
  saturating : Bool
  deriving DecidableEq, Repr

end Sys2Proof.Machine
end

