-- ==== Sys2Proof/Machine/EntryTable.lean ====
section
/-! DEFINITION. The entries of the object dictionary, row by row as the chapters' entry tables give them (R40, R82,
R113, R142, R169, R187, R193, R215, R241, R266, R295, R336, R357, R390, R412, R428, R449, R471, R476, R491, R514).
A row that stands for several indices or subindices is the first of them (`Machine.baseKey`). -/

namespace Sys2Proof.Machine

/-- Entries of the chapter on persistence (spec file 01), part 1. -/
def persistenceEntries : List Desc :=
  [
    ⟨0x4020, 0x00, .u8, .ro, 0, 255, .fixed, 7, 7, (some 7), false⟩,
    ⟨0x4020, 0x01, .u8, .ro, 0, 255, .volatile, 0, 255, (some 0), false⟩,
    ⟨0x4020, 0x02, .u8, .ro, 0, 255, .volatile, 0, 31, (some 8), false⟩,
    ⟨0x4020, 0x03, .u32, .ro, 0, 255, .persistent, 0, 4294967295, (some 0), true⟩,
    ⟨0x4020, 0x04, .u8, .ro, 0, 255, .persistent, 0, 255, (some 0), false⟩,
    ⟨0x4020, 0x05, .u64, .ro, 0, 255, .persistent, 0, 18446744073709551615, (some 0), false⟩,
    ⟨0x4020, 0x06, .time64, .ro, 0, 255, .persistent, 0, 18446744073709551615, (some 0), false⟩,
    ⟨0x4020, 0x07, .bool, .rw, 0, 2, .persistent, 0, 1, (some 0), false⟩]

/-- Entries of the chapter on ports (spec file 02), part 1. -/
def portsEntries1 : List Desc :=
  [
    ⟨0x3001, 0x00, .u8, .ro, 0, 255, .fixed, 6, 6, (some 6), false⟩,
    ⟨0x3001, 0x01, .u8, .rw, 0, 3, .persistent, 0, 1, (some 0), false⟩,
    ⟨0x3001, 0x02, .u8, .rw, 0, 2, .persistent, 0, 1, (some 1), false⟩,
    ⟨0x3001, 0x03, .u8, .rw, 0, 2, .persistent, 0, 1, (some 1), false⟩,
    ⟨0x3001, 0x04, .bool, .rw, 0, 2, .persistent, 0, 1, (some 1), false⟩,
    ⟨0x3001, 0x05, .bool, .rw, 0, 2, .persistent, 0, 1, (some 1), false⟩,
    ⟨0x3001, 0x06, .u8, .rw, 0, 2, .persistent, 1, 255, (some 8), false⟩,
    ⟨0x3010, 0x00, .u8, .ro, 0, 255, .fixed, 8, 8, (some 8), false⟩,
    ⟨0x3010, 0x01, .u8, .ro, 0, 255, .volatile, 0, 255, (some 0), false⟩,
    ⟨0x3010, 0x02, .u8, .ro, 0, 255, .volatile, 0, 255, (some 0), false⟩,
    ⟨0x3010, 0x03, .u8, .ro, 0, 255, .volatile, 0, 255, (some 0), false⟩,
    ⟨0x3010, 0x04, .bool, .ro, 0, 255, .volatile, 0, 1, (some 0), false⟩,
    ⟨0x3010, 0x05, .u32, .ro, 0, 255, .volatile, 0, 4294967295, (some 0), true⟩,
    ⟨0x3010, 0x06, .u8, .ro, 0, 255, .volatile, 0, 255, (some 0), false⟩,
    ⟨0x3010, 0x07, .u8, .ro, 0, 255, .volatile, 0, 255, (some 0), false⟩,
    ⟨0x3010, 0x08, .u32, .ro, 0, 255, .volatile, 0, 4294967295, (some 0), true⟩,
    ⟨0x3030, 0x00, .u8, .ro, 0, 255, .fixed, 2, 2, (some 2), false⟩,
    ⟨0x3030, 0x01, .u8, .rw, 0, 1, .persistent, 1, 98, (some 25), false⟩,
    ⟨0x3030, 0x02, .u8, .rw, 0, 1, .persistent, 2, 99, (some 75), false⟩,
    ⟨0x3040, 0x00, .u8, .ro, 0, 255, .fixed, 3, 3, (some 3), false⟩,
    ⟨0x3040, 0x01, .bool, .rw, 0, 3, .persistent, 0, 1, (some 0), false⟩,
    ⟨0x3040, 0x02, .u8, .rw, 0, 3, .persistent, 0, 1, (some 1), false⟩,
    ⟨0x3040, 0x03, .bool, .rw, 0, 3, .persistent, 0, 1, (some 1), false⟩,
    ⟨0x3050, 0x00, .u8, .ro, 0, 255, .fixed, 1, 1, (some 1), false⟩]

/-- Entries of the chapter on ports (spec file 02), part 2. -/
def portsEntries2 : List Desc :=
  [
    ⟨0x3050, 0x01, .octs, .ro, 0, 255, .fixed, 0, 16, none, false⟩]

/-- Entries of the chapter on ordering (spec file 03), part 1. -/
def orderingEntries : List Desc :=
  [
    ⟨0x3020, 0x00, .u8, .ro, 0, 255, .fixed, 6, 6, (some 6), false⟩,
    ⟨0x3020, 0x01, .u64, .ro, 0, 255, .volatile, 0, 18446744073709551615, (some 0), false⟩,
    ⟨0x3020, 0x02, .u64, .ro, 0, 255, .volatile, 0, 18446744073709551615, (some 0), false⟩,
    ⟨0x3020, 0x03, .u64, .ro, 0, 255, .volatile, 0, 18446744073709551615, (some 0), false⟩,
    ⟨0x3020, 0x04, .u64, .ro, 0, 255, .volatile, 0, 18446744073709551615, (some 0), false⟩,
    ⟨0x3020, 0x05, .u32, .rc, 1, 255, .volatile, 0, 4294967295, (some 0), true⟩,
    ⟨0x3020, 0x06, .u32, .rc, 1, 255, .volatile, 0, 4294967295, (some 0), true⟩,
    ⟨0x5080, 0x00, .u8, .ro, 0, 255, .fixed, 6, 6, (some 6), false⟩,
    ⟨0x5080, 0x01, .u8, .ro, 0, 255, .volatile, 0, 64, (some 0), false⟩,
    ⟨0x5080, 0x02, .u8, .ro, 0, 255, .volatile, 0, 64, (some 0), false⟩,
    ⟨0x5080, 0x03, .u32, .ro, 0, 255, .volatile, 0, 4294967295, (some 0), true⟩,
    ⟨0x5080, 0x04, .u32, .ro, 0, 255, .volatile, 0, 4294967295, (some 0), true⟩,
    ⟨0x5080, 0x05, .u32, .ro, 0, 255, .volatile, 0, 4294967295, (some 0), true⟩,
    ⟨0x5080, 0x06, .u32, .ro, 0, 255, .volatile, 0, 4294967295, (some 0), true⟩]

/-- Entries of the chapter on groups (spec file 04), part 1. -/
def groupsEntries : List Desc :=
  [
    ⟨0x5001, 0x00, .u8, .ro, 0, 255, .fixed, 3, 3, (some 3), false⟩,
    ⟨0x5001, 0x01, .u32, .rw, 0, 2, .persistent, 1, 16777216, (some 1048576), false⟩,
    ⟨0x5001, 0x02, .u8, .rw, 0, 1, .persistent, 50, 99, (some 90), false⟩,
    ⟨0x5001, 0x03, .bool, .rw, 0, 3, .persistent, 0, 1, (some 1), false⟩,
    ⟨0x5010, 0x00, .u8, .ro, 0, 255, .fixed, 1, 1, (some 1), false⟩,
    ⟨0x5010, 0x01, .action, .act, 0, 2, .volatile, 0, 0, (some 0), false⟩,
    ⟨0x5020, 0x00, .u8, .ro, 0, 255, .fixed, 9, 9, (some 9), false⟩,
    ⟨0x5020, 0x01, .u32, .ro, 0, 255, .volatile, 0, 262144, (some 0), false⟩,
    ⟨0x5020, 0x02, .u32, .ro, 0, 255, .volatile, 0, 16777216, (some 0), false⟩,
    ⟨0x5020, 0x03, .u32, .ro, 0, 255, .volatile, 0, 67108864, (some 0), false⟩,
    ⟨0x5020, 0x04, .u64, .ro, 0, 255, .volatile, 0, 18446744073709551615, (some 0), false⟩,
    ⟨0x5020, 0x05, .u64, .ro, 0, 255, .volatile, 0, 18446744073709551615, (some 0), false⟩,
    ⟨0x5020, 0x06, .u64, .ro, 0, 255, .volatile, 0, 18446744073709551615, (some 0), false⟩,
    ⟨0x5020, 0x07, .u64, .ro, 0, 255, .volatile, 0, 18446744073709551615, (some 0), false⟩,
    ⟨0x5020, 0x08, .u32, .ro, 0, 255, .volatile, 0, 262144, (some 0), false⟩,
    ⟨0x5020, 0x09, .u32, .rc, 1, 255, .volatile, 0, 4294967295, (some 0), true⟩]

/-- Entries of the chapter on translation (spec file 05), part 1. -/
def translationEntries1 : List Desc :=
  [
    ⟨0x4040, 0x00, .u8, .ro, 0, 255, .fixed, 9, 9, (some 9), false⟩,
    ⟨0x4040, 0x01, .u32, .ro, 0, 255, .volatile, 0, 1073741824, (some 0), false⟩,
    ⟨0x4040, 0x02, .u32, .ro, 0, 255, .volatile, 0, 436207616, (some 0), false⟩,
    ⟨0x4040, 0x03, .u16, .rw, 0, 2, .persistent, 64, 512, (some 512), false⟩,
    ⟨0x4040, 0x04, .u16, .rw, 0, 2, .persistent, 250, 2000, (some 2000), false⟩,
    ⟨0x4040, 0x05, .u16, .rw, 0, 2, .persistent, 1024, 8192, (some 8192), false⟩,
    ⟨0x4040, 0x06, .u32, .ro, 0, 255, .volatile, 0, 1048576, (some 0), false⟩,
    ⟨0x4040, 0x07, .u16, .ro, 0, 255, .volatile, 0, 512, (some 0), false⟩,
    ⟨0x4040, 0x08, .u8, .ro, 0, 255, .volatile, 0, 16, (some 0), false⟩,
    ⟨0x4040, 0x09, .u64, .ro, 0, 255, .volatile, 0, 18446744073709551615, (some 0), false⟩,
    ⟨0x4041, 0x00, .u8, .ro, 0, 255, .fixed, 11, 11, (some 11), false⟩,
    ⟨0x4041, 0x01, .u8, .ro, 0, 255, .volatile, 0, 255, (some 1), false⟩,
    ⟨0x4041, 0x02, .u32, .ro, 0, 255, .volatile, 0, 4294967295, (some 0), false⟩,
    ⟨0x4041, 0x03, .u32, .ro, 0, 255, .volatile, 0, 4294967295, (some 0), false⟩,
    ⟨0x4041, 0x04, .u32, .ro, 0, 255, .volatile, 0, 1048576, (some 0), false⟩,
    ⟨0x4041, 0x05, .u32, .ro, 0, 255, .volatile, 0, 4294967295, (some 0), false⟩,
    ⟨0x4041, 0x06, .u32, .rc, 1, 255, .volatile, 0, 4294967295, (some 0), true⟩,
    ⟨0x4041, 0x07, .u8, .rw, 0, 2, .persistent, 25, 100, (some 50), false⟩,
    ⟨0x4041, 0x08, .u32, .ro, 0, 255, .volatile, 0, 4294967295, (some 0), false⟩,
    ⟨0x4041, 0x09, .u32, .ro, 0, 255, .volatile, 0, 4294967295, (some 0), false⟩,
    ⟨0x4041, 0x0A, .u32, .ro, 0, 255, .volatile, 0, 4294967295, (some 0), false⟩,
    ⟨0x4041, 0x0B, .bool, .ro, 0, 255, .volatile, 0, 1, (some 0), false⟩,
    ⟨0x4050, 0x00, .u8, .ro, 0, 255, .fixed, 3, 3, (some 3), false⟩,
    ⟨0x4050, 0x01, .time64, .rw, 0, 1, .volatile, 0, 18446744073709551615, (some 0), false⟩]

/-- Entries of the chapter on translation (spec file 05), part 2. -/
def translationEntries2 : List Desc :=
  [
    ⟨0x4050, 0x02, .u8, .ro, 0, 255, .volatile, 0, 255, (some 0), false⟩,
    ⟨0x4050, 0x03, .u64, .ro, 0, 255, .persistent, 0, 18446744073709551615, (some 0), false⟩]

/-- Entries of the chapter on read path (spec file 06), part 1. -/
def readPathEntries1 : List Desc :=
  [
    ⟨0x4010, 0x00, .u8, .ro, 0, 255, .fixed, 2, 2, (some 2), false⟩,
    ⟨0x4010, 0x01, .u8, .rw, 0, 2, .persistent, 0, 3, (some 0), false⟩,
    ⟨0x4010, 0x02, .u8, .ro, 0, 255, .volatile, 0, 3, (some 0), false⟩,
    ⟨0x4060, 0x00, .u8, .ro, 0, 255, .fixed, 9, 9, (some 9), false⟩,
    ⟨0x4060, 0x01, .u8, .rw, 0, 2, .persistent, 2, 16, (some 4), false⟩,
    ⟨0x4060, 0x02, .u32, .ro, 0, 255, .volatile, 0, 25165824, (some 0), false⟩,
    ⟨0x4060, 0x03, .u32, .ro, 0, 255, .volatile, 0, 393216, (some 0), false⟩,
    ⟨0x4060, 0x04, .u64, .ro, 0, 255, .volatile, 0, 18446744073709551615, (some 0), false⟩,
    ⟨0x4060, 0x05, .u64, .ro, 0, 255, .volatile, 0, 18446744073709551615, (some 0), false⟩,
    ⟨0x4060, 0x06, .u32, .rc, 1, 255, .volatile, 0, 4294967295, (some 0), true⟩,
    ⟨0x4060, 0x07, .u64, .ro, 0, 255, .volatile, 0, 18446744073709551615, (some 0), false⟩,
    ⟨0x4060, 0x08, .u16, .ro, 0, 255, .volatile, 0, 65535, (some 0), false⟩,
    ⟨0x4060, 0x09, .u64, .ro, 0, 255, .volatile, 0, 18446744073709551615, (some 0), false⟩,
    ⟨0x4070, 0x00, .u8, .ro, 0, 255, .fixed, 12, 12, (some 12), false⟩,
    ⟨0x4070, 0x01, .u64, .ro, 0, 255, .volatile, 0, 18446744073709551615, (some 0), false⟩,
    ⟨0x4070, 0x02, .u64, .ro, 0, 255, .volatile, 0, 18446744073709551615, (some 0), false⟩,
    ⟨0x4070, 0x03, .u64, .ro, 0, 255, .volatile, 0, 18446744073709551615, (some 0), false⟩,
    ⟨0x4070, 0x04, .u64, .ro, 0, 255, .volatile, 0, 18446744073709551615, (some 0), false⟩,
    ⟨0x4070, 0x05, .u64, .ro, 0, 255, .volatile, 0, 18446744073709551615, (some 0), false⟩,
    ⟨0x4070, 0x06, .u64, .ro, 0, 255, .volatile, 0, 18446744073709551615, (some 0), false⟩,
    ⟨0x4070, 0x07, .u64, .ro, 0, 255, .volatile, 0, 18446744073709551615, (some 0), false⟩,
    ⟨0x4070, 0x08, .u64, .ro, 0, 255, .volatile, 0, 18446744073709551615, (some 0), false⟩,
    ⟨0x4070, 0x09, .u64, .ro, 0, 255, .volatile, 0, 18446744073709551615, (some 0), false⟩,
    ⟨0x4070, 0x0A, .u32, .rw, 0, 2, .persistent, 0, 4294967295, (some 0), false⟩]

/-- Entries of the chapter on read path (spec file 06), part 2. -/
def readPathEntries2 : List Desc :=
  [
    ⟨0x4070, 0x0B, .u64, .ro, 0, 255, .volatile, 0, 18446744073709551615, (some 0), false⟩,
    ⟨0x4070, 0x0C, .u8, .rw, 0, 2, .persistent, 25, 100, (some 75), false⟩,
    ⟨0x4100, 0x00, .u8, .ro, 0, 255, .fixed, 12, 12, (some 12), false⟩,
    ⟨0x4100, 0x01, .bool, .rw, 0, 2, .persistent, 0, 1, (some 1), false⟩,
    ⟨0x4100, 0x02, .u64, .rw, 0, 2, .persistent, 0, 4398046511103, (some 0), false⟩,
    ⟨0x4100, 0x03, .u64, .rw, 0, 2, .persistent, 0, 4398046511104, (some 4398046511104), false⟩,
    ⟨0x4100, 0x04, .u8, .rw, 0, 2, .persistent, 0, 2, (some 0), false⟩,
    ⟨0x4100, 0x05, .u8, .rw, 0, 2, .persistent, 0, 2, (some 0), false⟩,
    ⟨0x4100, 0x06, .u8, .rw, 0, 2, .persistent, 0, 3, (some 3), false⟩,
    ⟨0x4100, 0x07, .bool, .rw, 0, 2, .persistent, 0, 1, (some 1), false⟩,
    ⟨0x4100, 0x08, .u8, .rw, 0, 2, .persistent, 0, 1, (some 0), false⟩,
    ⟨0x4100, 0x09, .u8, .rw, 0, 3, .persistent, 0, 15, (some 0), false⟩,
    ⟨0x4100, 0x0A, .u8, .rw, 0, 3, .persistent, 0, 3, (some 3), false⟩,
    ⟨0x4100, 0x0B, .u8, .rw, 0, 2, .persistent, 1, 4, (some 1), false⟩,
    ⟨0x4100, 0x0C, .u8, .ro, 0, 255, .volatile, 0, 3, (some 1), false⟩]

/-- Entries of the chapter on latency (spec file 07), part 1. -/
def latencyEntries : List Desc :=
  [
    ⟨0x4080, 0x00, .u8, .ro, 0, 255, .fixed, 8, 8, (some 8), false⟩,
    ⟨0x4080, 0x01, .u32, .rw, 0, 2, .persistent, 4, 100, (some 8), false⟩,
    ⟨0x4080, 0x02, .u32, .rw, 0, 2, .persistent, 20, 10000, (some 50), false⟩,
    ⟨0x4080, 0x03, .u32, .rw, 0, 2, .persistent, 100, 10000, (some 200), false⟩,
    ⟨0x4080, 0x04, .u32, .rw, 0, 2, .persistent, 2, 50, (some 10), false⟩,
    ⟨0x4080, 0x05, .u32, .rw, 0, 2, .persistent, 20, 1000, (some 60), false⟩,
    ⟨0x4080, 0x06, .u8, .rw, 0, 2, .persistent, 50, 99, (some 90), false⟩,
    ⟨0x4080, 0x07, .u8, .rw, 0, 2, .persistent, 8, 64, (some 32), false⟩,
    ⟨0x4080, 0x08, .u16, .rw, 0, 2, .persistent, 64, 1024, (some 512), false⟩,
    ⟨0x4081, 0x00, .u8, .ro, 0, 255, .fixed, 9, 9, (some 9), false⟩,
    ⟨0x4081, 0x01, .u64, .ro, 0, 255, .volatile, 0, 18446744073709551615, (some 0), false⟩,
    ⟨0x4081, 0x02, .u64, .ro, 0, 255, .volatile, 0, 18446744073709551615, (some 0), false⟩,
    ⟨0x4081, 0x03, .u32, .rc, 1, 255, .volatile, 0, 4294967295, (some 0), true⟩,
    ⟨0x4081, 0x04, .u64, .ro, 0, 255, .volatile, 0, 18446744073709551615, (some 0), false⟩,
    ⟨0x4081, 0x05, .u64, .ro, 0, 255, .volatile, 0, 18446744073709551615, (some 0), false⟩,
    ⟨0x4081, 0x06, .u64, .ro, 0, 255, .volatile, 0, 18446744073709551615, (some 0), false⟩,
    ⟨0x4081, 0x07, .u64, .ro, 0, 255, .volatile, 0, 18446744073709551615, (some 0), false⟩,
    ⟨0x4081, 0x08, .u32, .ro, 0, 255, .volatile, 0, 4294967295, (some 0), true⟩,
    ⟨0x4081, 0x09, .u16, .ro, 0, 255, .volatile, 0, 65535, (some 0), false⟩]

/-- Entries of the chapter on medium (spec file 08), part 1. -/
def mediumEntries : List Desc :=
  [
    ⟨0x6100, 0x00, .u8, .ro, 0, 255, .fixed, 7, 7, (some 7), false⟩,
    ⟨0x6100, 0x01, .u8, .ro, 0, 255, .fixed, 16, 16, (some 16), false⟩,
    ⟨0x6100, 0x02, .u8, .ro, 0, 255, .fixed, 64, 64, (some 64), false⟩,
    ⟨0x6100, 0x03, .u32, .ro, 0, 255, .fixed, 1048576, 1048576, (some 1048576), false⟩,
    ⟨0x6100, 0x04, .u32, .ro, 0, 255, .volatile, 0, 1048576, (some 0), false⟩,
    ⟨0x6100, 0x05, .u32, .ro, 0, 255, .volatile, 0, 1048576, (some 0), false⟩,
    ⟨0x6100, 0x06, .u32, .ro, 0, 255, .volatile, 0, 1048576, (some 0), false⟩,
    ⟨0x6100, 0x07, .u32, .ro, 0, 255, .volatile, 0, 1048576, (some 0), false⟩,
    ⟨0x6110, 0x00, .u8, .ro, 0, 255, .fixed, 8, 8, (some 8), false⟩,
    ⟨0x6110, 0x01, .u8, .ro, 0, 255, .volatile, 0, 160, (some 0), false⟩,
    ⟨0x6110, 0x02, .u8, .ro, 0, 255, .volatile, 0, 160, (some 0), false⟩,
    ⟨0x6110, 0x03, .u8, .rc, 1, 255, .volatile, 0, 160, (some 0), false⟩,
    ⟨0x6110, 0x04, .u64, .ro, 0, 255, .volatile, 0, 18446744073709551615, (some 0), false⟩,
    ⟨0x6110, 0x05, .u64, .ro, 0, 255, .volatile, 0, 18446744073709551615, (some 0), false⟩,
    ⟨0x6110, 0x06, .u64, .ro, 0, 255, .volatile, 0, 18446744073709551615, (some 0), false⟩,
    ⟨0x6110, 0x07, .u32, .ro, 0, 255, .volatile, 0, 4294967295, (some 0), false⟩,
    ⟨0x6110, 0x08, .u16, .rw, 0, 2, .persistent, 200, 20000, (some 1000), false⟩,
    ⟨0x6120, 0x00, .u8, .ro, 0, 255, .fixed, 6, 6, (some 6), false⟩,
    ⟨0x6120, 0x01, .u64, .ro, 0, 255, .volatile, 0, 18446744073709551615, (some 0), false⟩,
    ⟨0x6120, 0x02, .u64, .ro, 0, 255, .volatile, 0, 18446744073709551615, (some 0), false⟩,
    ⟨0x6120, 0x03, .u16, .rc, 1, 255, .volatile, 0, 900, (some 0), false⟩,
    ⟨0x6120, 0x04, .i16, .rc, 1, 255, .volatile, (-40), 125, (some 65496), false⟩,
    ⟨0x6120, 0x05, .u32, .ro, 0, 255, .volatile, 0, 4294967295, (some 0), true⟩,
    ⟨0x6120, 0x06, .u32, .ro, 0, 255, .volatile, 0, 4294967295, (some 0), true⟩]

/-- Entries of the chapter on log (spec file 09), part 1. -/
def logEntries1 : List Desc :=
  [
    ⟨0x6130, 0x00, .u8, .ro, 0, 255, .fixed, 10, 10, (some 10), false⟩,
    ⟨0x6130, 0x01, .u8, .ro, 0, 255, .volatile, 0, 100, (some 0), false⟩,
    ⟨0x6130, 0x02, .u32, .ro, 0, 255, .volatile, 0, 8388608, (some 0), false⟩,
    ⟨0x6130, 0x03, .u64, .ro, 0, 255, .volatile, 0, 18446744073709551615, (some 0), false⟩,
    ⟨0x6130, 0x04, .u64, .ro, 0, 255, .volatile, 0, 18446744073709551615, (some 0), false⟩,
    ⟨0x6130, 0x05, .u32, .ro, 0, 255, .volatile, 0, 67108864, (some 0), false⟩,
    ⟨0x6130, 0x06, .u8, .rw, 0, 2, .persistent, 2, 40, (some 10), false⟩,
    ⟨0x6130, 0x07, .u64, .ro, 0, 255, .volatile, 0, 18446744073709551615, (some 0), false⟩,
    ⟨0x6130, 0x08, .u64, .ro, 0, 255, .volatile, 0, 18446744073709551615, (some 0), false⟩,
    ⟨0x6130, 0x09, .u32, .ro, 0, 255, .volatile, 0, 4294967295, (some 0), true⟩,
    ⟨0x6130, 0x0A, .u32, .rc, 1, 255, .volatile, 0, 4294967295, (some 0), true⟩,
    ⟨0x6140, 0x00, .u8, .ro, 0, 255, .fixed, 9, 9, (some 9), false⟩,
    ⟨0x6140, 0x01, .u32, .ro, 0, 255, .volatile, 0, 65536, (some 0), false⟩,
    ⟨0x6140, 0x02, .u16, .rw, 0, 2, .persistent, 256, 8192, (some 1024), false⟩,
    ⟨0x6140, 0x03, .u16, .rw, 0, 2, .persistent, 32, 1024, (some 128), false⟩,
    ⟨0x6140, 0x04, .u16, .rw, 0, 2, .persistent, 16, 256, (some 32), false⟩,
    ⟨0x6140, 0x05, .u16, .rw, 0, 2, .persistent, 24, 8760, (some 720), false⟩,
    ⟨0x6140, 0x06, .u64, .ro, 0, 255, .volatile, 0, 18446744073709551615, (some 0), false⟩,
    ⟨0x6140, 0x07, .u64, .ro, 0, 255, .volatile, 0, 18446744073709551615, (some 0), false⟩,
    ⟨0x6140, 0x08, .u32, .ro, 0, 255, .volatile, 0, 4294967295, (some 0), true⟩,
    ⟨0x6140, 0x09, .u32, .ro, 0, 255, .volatile, 0, 4294967295, (some 0), true⟩,
    ⟨0x6150, 0x00, .u8, .ro, 0, 255, .fixed, 10, 10, (some 10), false⟩,
    ⟨0x6150, 0x01, .u32, .ro, 0, 255, .volatile, 0, 4294967295, (some 0), false⟩,
    ⟨0x6150, 0x02, .u32, .ro, 0, 255, .volatile, 0, 4294967295, (some 0), false⟩]

/-- Entries of the chapter on log (spec file 09), part 2. -/
def logEntries2 : List Desc :=
  [
    ⟨0x6150, 0x03, .u32, .ro, 0, 255, .volatile, 0, 4294967295, (some 0), false⟩,
    ⟨0x6150, 0x04, .u32, .rw, 0, 2, .persistent, 2000, 50000, (some 10000), false⟩,
    ⟨0x6150, 0x05, .u32, .rw, 0, 2, .persistent, 2000, 50000, (some 10000), false⟩,
    ⟨0x6150, 0x06, .u64, .ro, 0, 255, .persistent, 0, 18446744073709551615, (some 0), false⟩,
    ⟨0x6150, 0x07, .u64, .ro, 0, 255, .persistent, 0, 18446744073709551615, (some 0), false⟩,
    ⟨0x6150, 0x08, .u16, .ro, 0, 255, .volatile, 0, 65535, (some 0), false⟩,
    ⟨0x6150, 0x09, .u64, .ro, 0, 255, .volatile, 0, 18446744073709551615, (some 0), false⟩,
    ⟨0x6150, 0x0A, .u32, .ro, 0, 255, .persistent, 0, 4294967295, (some 0), false⟩]

/-- Entries of the chapter on drift (spec file 10), part 1. -/
def driftEntries1 : List Desc :=
  [
    ⟨0x6160, 0x00, .u8, .ro, 0, 255, .fixed, 7, 7, (some 7), false⟩,
    ⟨0x6160, 0x01, .u8, .rw, 0, 2, .persistent, 1, 24, (some 6), false⟩,
    ⟨0x6160, 0x02, .i16, .rw, 0, 2, .persistent, (-40), 85, (some 25), false⟩,
    ⟨0x6160, 0x03, .u64, .ro, 0, 255, .volatile, 0, 18446744073709551615, (some 0), false⟩,
    ⟨0x6160, 0x04, .u64, .ro, 0, 255, .volatile, 0, 18446744073709551615, (some 0), false⟩,
    ⟨0x6160, 0x05, .u8, .ro, 0, 255, .volatile, 0, 64, (some 0), false⟩,
    ⟨0x6160, 0x06, .u32, .rw, 0, 2, .persistent, 24, 87600, (some 8760), false⟩,
    ⟨0x6160, 0x07, .u8, .rw, 0, 2, .persistent, 1, 8, (some 3), false⟩,
    ⟨0x6161, 0x00, .u8, .ro, 0, 255, .fixed, 16, 16, (some 16), false⟩,
    ⟨0x6161, 0x01, .u64, .ro, 0, 255, .persistent, 0, 18446744073709551615, (some 0), false⟩,
    ⟨0x6170, 0x00, .u8, .ro, 0, 255, .fixed, 8, 8, (some 8), false⟩,
    ⟨0x6170, 0x01, .u16, .rw, 0, 2, .persistent, 24, 720, (some 168), false⟩,
    ⟨0x6170, 0x02, .u16, .rw, 0, 2, .persistent, 1024, 32768, (some 16384), false⟩,
    ⟨0x6170, 0x03, .i8, .rw, 0, 2, .persistent, (-2), 2, (some 0), false⟩,
    ⟨0x6170, 0x04, .u64, .ro, 0, 255, .volatile, 0, 18446744073709551615, (some 0), false⟩,
    ⟨0x6170, 0x05, .u64, .ro, 0, 255, .volatile, 0, 18446744073709551615, (some 0), false⟩,
    ⟨0x6170, 0x06, .bool, .ro, 0, 255, .volatile, 0, 1, (some 0), false⟩,
    ⟨0x6170, 0x07, .u32, .ro, 0, 255, .volatile, 0, 4294967295, (some 0), false⟩,
    ⟨0x6170, 0x08, .u64, .ro, 0, 255, .volatile, 0, 18446744073709551615, (some 0), false⟩,
    ⟨0x6180, 0x00, .u8, .ro, 0, 255, .fixed, 7, 7, (some 7), false⟩,
    ⟨0x6180, 0x01, .u32, .rw, 0, 2, .persistent, 500000, 950000, (some 900000), false⟩,
    ⟨0x6180, 0x02, .u32, .rw, 0, 2, .persistent, 600000, 980000, (some 950000), false⟩,
    ⟨0x6180, 0x03, .u32, .rw, 0, 2, .persistent, 700000, 995000, (some 980000), false⟩,
    ⟨0x6180, 0x04, .u8, .rw, 0, 2, .persistent, 3, 7, (some 5), false⟩]

/-- Entries of the chapter on drift (spec file 10), part 2. -/
def driftEntries2 : List Desc :=
  [
    ⟨0x6180, 0x05, .u32, .ro, 0, 255, .persistent, 0, 4294967295, (some 0), false⟩,
    ⟨0x6180, 0x06, .u32, .ro, 0, 255, .volatile, 0, 65536, (some 0), false⟩,
    ⟨0x6180, 0x07, .u32, .ro, 0, 255, .volatile, 0, 65536, (some 0), false⟩,
    ⟨0x6190, 0x00, .u8, .ro, 0, 255, .fixed, 10, 10, (some 10), false⟩,
    ⟨0x6190, 0x01, .u16, .rw, 0, 2, .persistent, 256, 4096, (some 1024), false⟩,
    ⟨0x6190, 0x02, .u8, .rw, 0, 2, .persistent, 2, 32, (some 8), false⟩,
    ⟨0x6190, 0x03, .u16, .rw, 0, 2, .persistent, 8, 1024, (some 64), false⟩,
    ⟨0x6190, 0x04, .u32, .ro, 0, 255, .persistent, 0, 1048576, (some 0), false⟩,
    ⟨0x6190, 0x05, .u8, .ro, 0, 255, .persistent, 0, 64, (some 0), false⟩,
    ⟨0x6190, 0x06, .u8, .ro, 0, 255, .persistent, 0, 16, (some 0), false⟩,
    ⟨0x6190, 0x07, .action, .act, 0, 2, .volatile, 0, 0, (some 0), false⟩,
    ⟨0x6190, 0x08, .action, .act, 0, 2, .volatile, 0, 0, (some 0), false⟩,
    ⟨0x6190, 0x09, .action, .act, 0, 2, .volatile, 0, 0, (some 0), false⟩,
    ⟨0x6190, 0x0A, .u64, .ro, 0, 255, .persistent, 0, 18446744073709551615, (some 0), false⟩,
    ⟨0x61A0, 0x00, .u8, .ro, 0, 255, .fixed, 6, 6, (some 6), false⟩,
    ⟨0x61A0, 0x01, .u8, .rw, 0, 2, .persistent, 4, 48, (some 12), false⟩,
    ⟨0x61A0, 0x02, .u8, .ro, 0, 255, .volatile, 0, 255, (some 0), false⟩,
    ⟨0x61A0, 0x03, .u8, .ro, 0, 255, .volatile, 0, 255, (some 0), false⟩,
    ⟨0x61A0, 0x04, .u32, .ro, 0, 255, .volatile, 0, 65536, (some 0), false⟩,
    ⟨0x61A0, 0x05, .u32, .ro, 0, 255, .volatile, 0, 4294967295, (some 0), false⟩,
    ⟨0x61A0, 0x06, .u32, .ro, 0, 255, .persistent, 0, 4294967295, (some 0), false⟩,
    ⟨0x61E0, 0x00, .u8, .ro, 0, 255, .fixed, 7, 7, (some 7), false⟩,
    ⟨0x61E0, 0x01, .u8, .ro, 0, 255, .volatile, 0, 100, (some 0), false⟩,
    ⟨0x61E0, 0x02, .u32, .ro, 0, 255, .volatile, 0, 4294967295, (some 0), false⟩]

/-- Entries of the chapter on drift (spec file 10), part 3. -/
def driftEntries3 : List Desc :=
  [
    ⟨0x61E0, 0x03, .u32, .ro, 0, 255, .fixed, 0, 4294967295, none, false⟩,
    ⟨0x61E0, 0x04, .u8, .ro, 0, 255, .persistent, 0, 8, (some 8), false⟩,
    ⟨0x61E0, 0x05, .u8, .ro, 0, 255, .volatile, 0, 255, (some 0), false⟩,
    ⟨0x61E0, 0x06, .u8, .rw, 0, 2, .persistent, 5, 75, (some 25), false⟩,
    ⟨0x61E0, 0x07, .u8, .rw, 0, 1, .persistent, 50, 99, (some 90), false⟩,
    ⟨0x6200, 0x00, .u8, .ro, 0, 255, .fixed, 6, 6, (some 6), false⟩,
    ⟨0x6200, 0x01, .u8, .ro, 0, 255, .persistent, 0, 255, (some 0), false⟩,
    ⟨0x6200, 0x02, .u16, .ro, 0, 255, .persistent, 0, 16384, (some 0), false⟩,
    ⟨0x6200, 0x03, .u16, .ro, 0, 255, .volatile, 0, 16384, (some 0), false⟩,
    ⟨0x6200, 0x04, .u8, .ro, 0, 255, .volatile, 0, 255, (some 0), false⟩,
    ⟨0x6200, 0x05, .u8, .ro, 0, 255, .volatile, 0, 3, (some 0), false⟩,
    ⟨0x6200, 0x06, .u64, .ro, 0, 255, .volatile, 0, 18446744073709551615, (some 0), false⟩]

/-- Entries of the chapter on integrity (spec file 11), part 1. -/
def integrityEntries : List Desc :=
  [
    ⟨0x7001, 0x00, .u8, .ro, 0, 255, .fixed, 16, 16, (some 16), false⟩,
    ⟨0x7001, 0x01, .u8, .ro, 0, 255, .persistent, 0, 255, (some 1), false⟩,
    ⟨0x7002, 0x00, .u8, .ro, 0, 255, .fixed, 3, 3, (some 3), false⟩,
    ⟨0x7002, 0x01, .action, .act, 0, 3, .volatile, 0, 0, (some 0), false⟩,
    ⟨0x7002, 0x02, .action, .act, 0, 3, .volatile, 0, 0, (some 0), false⟩,
    ⟨0x7002, 0x03, .action, .act, 0, 3, .volatile, 0, 0, (some 0), false⟩,
    ⟨0x7003, 0x00, .u8, .ro, 0, 255, .fixed, 14, 14, (some 14), false⟩,
    ⟨0x7003, 0x01, .u8, .ro, 0, 255, .volatile, 0, 255, (some 0), false⟩,
    ⟨0x7003, 0x02, .u32, .ro, 0, 255, .persistent, 0, 4294967295, (some 0), false⟩,
    ⟨0x7003, 0x03, .u64, .ro, 0, 255, .persistent, 0, 18446744073709551615, (some 0), false⟩,
    ⟨0x7003, 0x04, .u64, .ro, 0, 255, .persistent, 0, 18446744073709551615, (some 0), false⟩,
    ⟨0x7003, 0x05, .u64, .ro, 0, 255, .persistent, 0, 18446744073709551615, (some 0), false⟩,
    ⟨0x7003, 0x06, .u64, .ro, 0, 255, .volatile, 0, 18446744073709551615, (some 0), false⟩,
    ⟨0x7003, 0x07, .u64, .ro, 0, 255, .volatile, 0, 18446744073709551615, (some 0), false⟩,
    ⟨0x7003, 0x08, .u32, .ro, 0, 255, .volatile, 0, 4294967295, (some 0), false⟩,
    ⟨0x7003, 0x09, .u8, .ro, 0, 255, .persistent, 0, 64, (some 0), false⟩,
    ⟨0x7003, 0x0A, .u64, .ro, 0, 255, .volatile, 0, 18446744073709551615, (some 0), false⟩,
    ⟨0x7003, 0x0B, .u32, .ro, 0, 255, .volatile, 0, 67108864, (some 0), false⟩,
    ⟨0x7003, 0x0C, .u32, .ro, 0, 255, .volatile, 0, 4294967295, (some 0), true⟩,
    ⟨0x7003, 0x0D, .u64, .ro, 0, 255, .persistent, 0, 18446744073709551615, (some 0), false⟩,
    ⟨0x7003, 0x0E, .u32, .rc, 1, 255, .volatile, 0, 4294967295, (some 0), true⟩,
    ⟨0x7004, 0x00, .u8, .ro, 0, 255, .fixed, 1, 1, (some 1), false⟩,
    ⟨0x7004, 0x01, .u16, .rw, 0, 2, .persistent, 100, 2000, (some 500), false⟩]

/-- Entries of the chapter on stored data (spec file 12), part 1. -/
def storedDataEntries1 : List Desc :=
  [
    ⟨0x8001, 0x00, .u8, .ro, 0, 255, .fixed, 8, 8, (some 8), false⟩,
    ⟨0x8001, 0x01, .u64, .ro, 0, 255, .persistent, 0, 18446744073709551615, (some 0), false⟩,
    ⟨0x8001, 0x02, .u32, .ro, 0, 255, .persistent, 0, 4294967295, (some 0), true⟩,
    ⟨0x8001, 0x03, .u64, .ro, 0, 255, .persistent, 0, 18446744073709551615, (some 0), false⟩,
    ⟨0x8001, 0x04, .u32, .ro, 0, 255, .persistent, 0, 4294967295, (some 0), true⟩,
    ⟨0x8001, 0x05, .u64, .ro, 0, 255, .persistent, 0, 18446744073709551615, (some 0), false⟩,
    ⟨0x8001, 0x06, .u32, .ro, 0, 255, .persistent, 0, 4294967295, (some 0), true⟩,
    ⟨0x8001, 0x07, .u32, .ro, 0, 255, .persistent, 0, 4294967295, (some 0), true⟩,
    ⟨0x8001, 0x08, .u32, .ro, 0, 255, .persistent, 0, 4294967295, (some 0), true⟩,
    ⟨0x8010, 0x00, .u8, .ro, 0, 255, .fixed, 3, 3, (some 3), false⟩,
    ⟨0x8010, 0x01, .u8, .ro, 0, 255, .persistent, 0, 64, (some 0), false⟩,
    ⟨0x8010, 0x02, .u32, .ro, 0, 255, .persistent, 0, 4294967295, (some 0), true⟩,
    ⟨0x8010, 0x03, .action, .act, 0, 2, .volatile, 0, 0, (some 0), false⟩,
    ⟨0x8011, 0x00, .u8, .ro, 0, 255, .fixed, 64, 64, (some 64), false⟩,
    ⟨0x8011, 0x01, .octs, .ro, 0, 255, .persistent, 0, 32, (some 0), false⟩,
    ⟨0x8020, 0x00, .u8, .ro, 0, 255, .fixed, 5, 5, (some 5), false⟩,
    ⟨0x8020, 0x01, .u8, .ro, 0, 255, .persistent, 0, 32, (some 0), false⟩,
    ⟨0x8020, 0x02, .u8, .ro, 0, 255, .persistent, 0, 32, (some 0), false⟩,
    ⟨0x8020, 0x03, .u8, .ro, 0, 255, .volatile, 0, 64, (some 0), false⟩,
    ⟨0x8020, 0x04, .u16, .ro, 0, 255, .volatile, 0, 1024, (some 0), false⟩,
    ⟨0x8020, 0x05, .u32, .ro, 0, 255, .persistent, 0, 4294967295, (some 0), true⟩,
    ⟨0x8021, 0x00, .u8, .ro, 0, 255, .fixed, 32, 32, (some 32), false⟩,
    ⟨0x8021, 0x01, .octs, .ro, 0, 255, .persistent, 0, 16, (some 0), false⟩,
    ⟨0x8022, 0x00, .u8, .ro, 0, 255, .fixed, 32, 32, (some 32), false⟩]

/-- Entries of the chapter on stored data (spec file 12), part 2. -/
def storedDataEntries2 : List Desc :=
  [
    ⟨0x8022, 0x01, .octs, .ro, 0, 255, .persistent, 0, 16, (some 0), false⟩,
    ⟨0x8030, 0x00, .u8, .ro, 0, 255, .fixed, 4, 4, (some 4), false⟩,
    ⟨0x8030, 0x01, .u64, .ro, 0, 255, .volatile, 0, 18446744073709551615, (some 0), false⟩,
    ⟨0x8030, 0x02, .u64, .ro, 0, 255, .volatile, 0, 18446744073709551615, (some 0), false⟩,
    ⟨0x8030, 0x03, .u32, .ro, 0, 255, .volatile, 0, 4294967295, (some 0), false⟩,
    ⟨0x8030, 0x04, .u32, .ro, 0, 255, .volatile, 0, 4294967295, (some 0), false⟩,
    ⟨0x8040, 0x00, .u8, .ro, 0, 255, .fixed, 11, 11, (some 11), false⟩,
    ⟨0x8040, 0x01, .u8, .rw, 0, 2, .volatile, 1, 4, (some 1), false⟩,
    ⟨0x8040, 0x02, .u32, .rw, 0, 2, .volatile, 0, 131071, (some 0), false⟩,
    ⟨0x8040, 0x03, .u8, .rw, 0, 2, .volatile, 0, 63, (some 0), false⟩,
    ⟨0x8040, 0x04, .octs, .rw, 0, 2, .volatile, 0, 256, (some 0), false⟩,
    ⟨0x8040, 0x05, .octs, .rw, 0, 2, .volatile, 0, 12, (some 0), false⟩,
    ⟨0x8040, 0x06, .action, .act, 0, 2, .volatile, 0, 0, (some 0), false⟩,
    ⟨0x8040, 0x07, .action, .act, 0, 2, .volatile, 0, 0, (some 0), false⟩,
    ⟨0x8040, 0x08, .octs, .ro, 0, 255, .volatile, 0, 256, (some 0), false⟩,
    ⟨0x8040, 0x09, .octs, .ro, 0, 255, .volatile, 0, 12, (some 0), false⟩,
    ⟨0x8040, 0x0A, .u16, .ro, 0, 255, .volatile, 0, 65535, (some 0), false⟩,
    ⟨0x8040, 0x0B, .octs, .ro, 0, 255, .volatile, 0, 256, (some 0), false⟩]

/-- Entries of the chapter on power (spec file 13), part 1. -/
def powerEntries1 : List Desc :=
  [
    ⟨0x2001, 0x00, .u8, .ro, 0, 255, .fixed, 7, 7, (some 7), false⟩,
    ⟨0x2001, 0x01, .u16, .ro, 0, 255, .volatile, 0, 65535, (some 0), false⟩,
    ⟨0x2001, 0x02, .u8, .ro, 0, 255, .volatile, 0, 255, (some 0), false⟩,
    ⟨0x2001, 0x03, .u32, .ro, 0, 255, .volatile, 0, 4294967295, (some 0), false⟩,
    ⟨0x2001, 0x04, .u16, .rc, 1, 255, .volatile, 0, 65535, (some 0), false⟩,
    ⟨0x2001, 0x05, .bool, .rw, 0, 2, .persistent, 0, 1, (some 1), false⟩,
    ⟨0x2001, 0x06, .u32, .ro, 0, 255, .volatile, 0, 4294967295, (some 0), true⟩,
    ⟨0x2001, 0x07, .u32, .ro, 0, 255, .persistent, 0, 4294967295, (some 0), true⟩,
    ⟨0x2010, 0x00, .u8, .ro, 0, 255, .fixed, 16, 16, (some 16), false⟩,
    ⟨0x2010, 0x01, .u16, .ro, 0, 255, .volatile, 0, 65535, (some 0), false⟩,
    ⟨0x2010, 0x0E, .u16, .ro, 0, 255, .persistent, 0, 65535, (some 0), false⟩,
    ⟨0x2010, 0x0F, .u32, .ro, 0, 255, .persistent, 0, 4294967295, (some 0), true⟩,
    ⟨0x2010, 0x10, .action, .act, 0, 2, .volatile, 0, 0, (some 0), false⟩,
    ⟨0x2020, 0x00, .u8, .ro, 0, 255, .fixed, 5, 5, (some 5), false⟩,
    ⟨0x2020, 0x01, .u16, .ro, 0, 255, .persistent, 0, 511, (some 0), false⟩,
    ⟨0x2020, 0x02, .u32, .ro, 0, 255, .persistent, 0, 4294967295, (some 0), false⟩,
    ⟨0x2020, 0x03, .u32, .ro, 0, 255, .persistent, 0, 4294967295, (some 0), true⟩,
    ⟨0x2020, 0x04, .u16, .rw, 0, 1, .volatile, 0, 510, (some 0), false⟩,
    ⟨0x2020, 0x05, .octs, .ro, 0, 255, .persistent, 0, 128, (some 0), false⟩,
    ⟨0x2030, 0x00, .u8, .ro, 0, 255, .fixed, 13, 13, (some 13), false⟩,
    ⟨0x2030, 0x01, .bool, .ro, 0, 255, .volatile, 0, 1, (some 0), false⟩,
    ⟨0x2030, 0x02, .u16, .ro, 0, 255, .volatile, 0, 65535, (some 0), false⟩,
    ⟨0x2030, 0x03, .u16, .ro, 0, 255, .persistent, 0, 65535, (some 0), false⟩,
    ⟨0x2030, 0x04, .u16, .ro, 0, 255, .persistent, 0, 65535, (some 0), false⟩]

/-- Entries of the chapter on power (spec file 13), part 2. -/
def powerEntries2 : List Desc :=
  [
    ⟨0x2030, 0x05, .u16, .ro, 0, 255, .volatile, 0, 65535, (some 0), false⟩,
    ⟨0x2030, 0x06, .u8, .ro, 0, 255, .persistent, 0, 255, (some 0), false⟩,
    ⟨0x2030, 0x07, .time64, .ro, 0, 255, .persistent, 0, 18446744073709551615, (some 0), false⟩,
    ⟨0x2030, 0x08, .u16, .rw, 0, 2, .persistent, 1, 168, (some 24), false⟩,
    ⟨0x2030, 0x09, .action, .act, 0, 1, .volatile, 0, 0, (some 0), false⟩,
    ⟨0x2030, 0x0A, .u16, .rw, 0, 2, .persistent, 700, 3000, (some 1200), false⟩,
    ⟨0x2030, 0x0B, .octs, .ro, 0, 255, .persistent, 0, 16, (some 0), false⟩,
    ⟨0x2030, 0x0C, .u32, .ro, 0, 255, .persistent, 0, 4294967295, (some 0), false⟩,
    ⟨0x2030, 0x0D, .u16, .ro, 0, 255, .volatile, 0, 65535, (some 0), false⟩,
    ⟨0x2040, 0x00, .u8, .ro, 0, 255, .fixed, 6, 6, (some 6), false⟩,
    ⟨0x2040, 0x01, .u32, .ro, 0, 255, .persistent, 0, 4294967295, (some 0), false⟩,
    ⟨0x2040, 0x02, .u32, .ro, 0, 255, .persistent, 0, 4294967295, (some 0), false⟩,
    ⟨0x2040, 0x03, .u32, .ro, 0, 255, .persistent, 0, 4294967295, (some 0), false⟩,
    ⟨0x2040, 0x04, .u16, .ro, 0, 255, .persistent, 0, 65535, (some 0), false⟩,
    ⟨0x2040, 0x05, .u8, .ro, 0, 255, .persistent, 0, 255, (some 0), false⟩,
    ⟨0x2040, 0x06, .u8, .ro, 0, 255, .persistent, 0, 255, (some 0), false⟩,
    ⟨0x2050, 0x00, .u8, .ro, 0, 255, .fixed, 3, 3, (some 3), false⟩,
    ⟨0x2050, 0x01, .u16, .rw, 0, 1, .persistent, 0, 600, (some 30), false⟩,
    ⟨0x2050, 0x02, .action, .act, 0, 1, .volatile, 0, 0, (some 0), false⟩,
    ⟨0x2050, 0x03, .u8, .ro, 0, 255, .volatile, 0, 255, (some 0), false⟩]

/-- Entries of the chapter on modes (spec file 14), part 1. -/
def modesEntries1 : List Desc :=
  [
    ⟨0xD001, 0x00, .u8, .ro, 0, 255, .fixed, 5, 5, (some 5), false⟩,
    ⟨0xD001, 0x01, .u8, .ro, 0, 255, .volatile, 0, 12, (some 1), false⟩,
    ⟨0xD001, 0x02, .u8, .ro, 0, 255, .volatile, 0, 12, (some 0), false⟩,
    ⟨0xD001, 0x03, .u32, .ro, 0, 255, .volatile, 0, 4294967295, (some 0), true⟩,
    ⟨0xD001, 0x04, .u8, .ro, 0, 255, .fixed, 0, 255, none, false⟩,
    ⟨0xD001, 0x05, .u32, .ro, 0, 255, .volatile, 0, 4294967295, (some 0), true⟩,
    ⟨0xD010, 0x00, .u8, .ro, 0, 255, .fixed, 3, 3, (some 3), false⟩,
    ⟨0xD010, 0x01, .action, .act, 0, 2, .volatile, 0, 0, (some 0), false⟩,
    ⟨0xD010, 0x02, .action, .act, 0, 1, .volatile, 0, 0, (some 0), false⟩,
    ⟨0xD010, 0x03, .action, .act, 0, 2, .volatile, 0, 0, (some 0), false⟩,
    ⟨0xD020, 0x00, .u8, .ro, 0, 255, .fixed, 6, 6, (some 6), false⟩,
    ⟨0xD020, 0x01, .action, .act, 0, 1, .volatile, 0, 0, (some 0), false⟩,
    ⟨0xD020, 0x02, .u32, .rw, 0, 1, .persistent, 0, 3600000, (some 0), false⟩,
    ⟨0xD020, 0x03, .u8, .rw, 0, 2, .persistent, 0, 63, (some 63), false⟩,
    ⟨0xD020, 0x04, .u8, .ro, 0, 255, .volatile, 0, 255, (some 255), false⟩,
    ⟨0xD020, 0x05, .u32, .ro, 0, 255, .volatile, 0, 4294967295, (some 0), true⟩,
    ⟨0xD020, 0x06, .u32, .ro, 0, 255, .volatile, 0, 4294967295, (some 0), true⟩,
    ⟨0xD030, 0x00, .u8, .ro, 0, 255, .fixed, 3, 3, (some 3), false⟩,
    ⟨0xD030, 0x01, .u32, .rw, 0, 3, .persistent, 0, 4294967295, none, false⟩,
    ⟨0xD030, 0x02, .u32, .ro, 0, 255, .persistent, 0, 4294967295, (some 0), true⟩,
    ⟨0xD030, 0x03, .u32, .ro, 0, 255, .persistent, 0, 4294967295, (some 0), true⟩,
    ⟨0xD040, 0x00, .u8, .ro, 0, 255, .fixed, 8, 8, (some 8), false⟩,
    ⟨0xD040, 0x01, .u8, .ro, 0, 255, .persistent, 0, 255, (some 1), false⟩,
    ⟨0xD040, 0x02, .u16, .rw, 0, 2, .persistent, 100, 10000, (some 2000), false⟩]

/-- Entries of the chapter on modes (spec file 14), part 2. -/
def modesEntries2 : List Desc :=
  [
    ⟨0xD040, 0x03, .u32, .ro, 0, 255, .persistent, 0, 4294967295, (some 0), true⟩,
    ⟨0xD050, 0x00, .u8, .ro, 0, 255, .fixed, 4, 4, (some 4), false⟩,
    ⟨0xD050, 0x01, .action, .act, 0, 2, .volatile, 0, 0, (some 0), false⟩,
    ⟨0xD050, 0x02, .action, .act, 0, 2, .volatile, 0, 0, (some 0), false⟩,
    ⟨0xD050, 0x03, .u16, .rw, 0, 2, .persistent, 60, 28800, (some 3600), false⟩,
    ⟨0xD050, 0x04, .u16, .ro, 0, 255, .volatile, 0, 65535, (some 0), false⟩,
    ⟨0xD060, 0x00, .u8, .ro, 0, 255, .fixed, 8, 8, (some 8), false⟩,
    ⟨0xD060, 0x01, .u8, .ro, 0, 255, .persistent, 0, 255, (some 0), false⟩,
    ⟨0xD060, 0x02, .u8, .ro, 0, 255, .persistent, 0, 255, (some 0), false⟩,
    ⟨0xD060, 0x03, .action, .act, 0, 2, .volatile, 0, 0, (some 0), false⟩,
    ⟨0xD060, 0x04, .u32, .ro, 0, 255, .persistent, 0, 4294967295, none, false⟩,
    ⟨0xD060, 0x05, .u32, .ro, 0, 255, .persistent, 0, 4294967295, (some 0), false⟩,
    ⟨0xD060, 0x06, .u8, .ro, 0, 255, .persistent, 0, 255, (some 0), false⟩,
    ⟨0xD060, 0x07, .u32, .ro, 0, 255, .persistent, 0, 4294967295, (some 0), false⟩,
    ⟨0xD060, 0x08, .u32, .rw, 0, 3, .persistent, 0, 4294967295, (some 0), false⟩,
    ⟨0xD070, 0x00, .u8, .ro, 0, 255, .fixed, 1, 1, (some 1), false⟩,
    ⟨0xD070, 0x01, .u8, .rw, 0, 1, .persistent, 0, 15, (some 0), false⟩]

/-- Entries of the chapter on thermal (spec file 15), part 1. -/
def thermalEntries1 : List Desc :=
  [
    ⟨0x9001, 0x00, .u8, .ro, 0, 255, .fixed, 8, 8, (some 8), false⟩,
    ⟨0x9001, 0x01, .i16, .ro, 0, 255, .volatile, (-40), 125, (some 0), false⟩,
    ⟨0x9001, 0x02, .i16, .ro, 0, 255, .volatile, (-40), 125, (some 0), false⟩,
    ⟨0x9001, 0x03, .u8, .ro, 0, 255, .volatile, 0, 255, (some 0), false⟩,
    ⟨0x9001, 0x04, .u64, .ro, 0, 255, .volatile, 0, 18446744073709551615, (some 0), false⟩,
    ⟨0x9001, 0x05, .u32, .ro, 0, 255, .persistent, 0, 4294967295, (some 0), true⟩,
    ⟨0x9001, 0x06, .u32, .ro, 0, 255, .persistent, 0, 4294967295, (some 0), false⟩,
    ⟨0x9001, 0x07, .u16, .ro, 0, 255, .persistent, 0, 65535, (some 0), false⟩,
    ⟨0x9001, 0x08, .i16, .rc, 1, 255, .volatile, (-32768), 32767, (some 65496), false⟩,
    ⟨0x9010, 0x00, .u8, .ro, 0, 255, .fixed, 6, 6, (some 6), false⟩,
    ⟨0x9010, 0x01, .i16, .rw, 0, 2, .persistent, 80, 90, (some 90), false⟩,
    ⟨0x9010, 0x02, .i16, .rw, 0, 2, .persistent, 95, 105, (some 105), false⟩,
    ⟨0x9010, 0x03, .u16, .rw, 0, 2, .persistent, 10, 50, (some 50), false⟩,
    ⟨0x9010, 0x04, .u8, .ro, 0, 255, .fixed, 8, 8, (some 8), false⟩,
    ⟨0x9010, 0x05, .u8, .rw, 0, 2, .persistent, 8, 20, (some 12), false⟩,
    ⟨0x9010, 0x06, .u8, .rw, 0, 2, .persistent, 2, 16, (some 3), false⟩,
    ⟨0x9020, 0x00, .u8, .ro, 0, 255, .fixed, 48, 48, (some 48), false⟩,
    ⟨0x9020, 0x01, .i32, .ro, 0, 255, .volatile, (-2147483648), 2147483647, (some 2147483648), false⟩,
    ⟨0x9030, 0x00, .u8, .ro, 0, 255, .fixed, 3, 3, (some 3), false⟩,
    ⟨0x9030, 0x01, .u32, .ro, 0, 255, .volatile, 0, 4294967295, (some 0), false⟩,
    ⟨0x9030, 0x02, .u64, .ro, 0, 255, .volatile, 0, 18446744073709551615, (some 0), false⟩,
    ⟨0x9030, 0x03, .action, .act, 0, 2, .volatile, 0, 0, (some 0), false⟩,
    ⟨0x9040, 0x00, .u8, .ro, 0, 255, .fixed, 16, 16, (some 16), false⟩,
    ⟨0x9040, 0x01, .u8, .ro, 0, 255, .volatile, 0, 255, (some 1), false⟩]

/-- Entries of the chapter on thermal (spec file 15), part 2. -/
def thermalEntries2 : List Desc :=
  [
    ⟨0x9041, 0x00, .u8, .ro, 0, 255, .fixed, 16, 16, (some 16), false⟩,
    ⟨0x9041, 0x01, .i16, .ro, 0, 255, .volatile, (-40), 125, (some 0), false⟩]

/-- Entries of the chapter on dictionary (spec file 16), part 1. -/
def dictionaryEntries1 : List Desc :=
  [
    ⟨0x1000, 0x00, .u8, .ro, 0, 255, .fixed, 14, 14, (some 14), false⟩,
    ⟨0x1000, 0x01, .str, .ro, 0, 255, .fixed, 0, 240, (some 0), false⟩,
    ⟨0x1000, 0x02, .str, .ro, 0, 255, .fixed, 0, 240, (some 0), false⟩,
    ⟨0x1000, 0x03, .str, .ro, 0, 255, .fixed, 0, 240, none, false⟩,
    ⟨0x1000, 0x04, .str, .ro, 0, 255, .fixed, 0, 12, none, false⟩,
    ⟨0x1000, 0x05, .u16, .ro, 0, 255, .fixed, 0, 65535, none, false⟩,
    ⟨0x1000, 0x06, .u16, .ro, 0, 255, .fixed, 0, 65535, none, false⟩,
    ⟨0x1000, 0x07, .octs, .ro, 0, 255, .fixed, 0, 16, none, false⟩,
    ⟨0x1000, 0x08, .time64, .ro, 0, 255, .fixed, 0, 18446744073709551615, none, false⟩,
    ⟨0x1000, 0x09, .octs, .ro, 0, 255, .fixed, 0, 6, none, false⟩,
    ⟨0x1000, 0x0A, .u16, .ro, 0, 255, .fixed, 0, 65535, (some 1), false⟩,
    ⟨0x1000, 0x0B, .u64, .ro, 0, 255, .persistent, 0, 18446744073709551615, (some 0), false⟩,
    ⟨0x1000, 0x0C, .u32, .ro, 0, 255, .persistent, 0, 4294967295, (some 0), false⟩,
    ⟨0x1000, 0x0D, .str, .rw, 0, 1, .persistent, 0, 64, (some 0), false⟩,
    ⟨0x1000, 0x0E, .action, .act, 0, 3, .volatile, 0, 0, (some 0), false⟩,
    ⟨0x1100, 0x00, .u8, .ro, 0, 255, .fixed, 7, 7, (some 7), false⟩,
    ⟨0x1100, 0x01, .u16, .rw, 0, 3, .persistent, 30, 3600, (some 600), false⟩,
    ⟨0x1100, 0x02, .bool, .rw, 0, 3, .persistent, 0, 1, (some 0), false⟩,
    ⟨0x1100, 0x03, .u8, .ro, 0, 255, .volatile, 0, 8, (some 0), false⟩,
    ⟨0x1100, 0x04, .u32, .ro, 0, 255, .persistent, 0, 4294967295, (some 0), true⟩,
    ⟨0x1100, 0x05, .u8, .rw, 0, 3, .persistent, 3, 20, (some 5), false⟩,
    ⟨0x1100, 0x06, .u16, .rw, 0, 3, .persistent, 10, 3600, (some 60), false⟩,
    ⟨0x1100, 0x07, .action, .act, 0, 3, .volatile, 0, 0, (some 0), false⟩,
    ⟨0x1110, 0x00, .u8, .ro, 0, 255, .fixed, 5, 5, (some 5), false⟩]

/-- Entries of the chapter on dictionary (spec file 16), part 2. -/
def dictionaryEntries2 : List Desc :=
  [
    ⟨0x1110, 0x01, .octs, .wo, 0, 3, .persistent, 0, 40, (some 0), false⟩,
    ⟨0x1110, 0x02, .octs, .wo, 0, 3, .persistent, 0, 40, (some 0), false⟩,
    ⟨0x1110, 0x03, .octs, .wo, 0, 3, .persistent, 0, 40, (some 0), false⟩,
    ⟨0x1110, 0x04, .octs, .wo, 0, 3, .persistent, 0, 40, none, false⟩,
    ⟨0x1110, 0x05, .u8, .ro, 0, 255, .persistent, 0, 255, (some 8), false⟩,
    ⟨0x1200, 0x00, .u8, .ro, 0, 255, .fixed, 3, 3, (some 3), false⟩,
    ⟨0x1200, 0x01, .u64, .ro, 0, 255, .volatile, 0, 18446744073709551615, (some 0), false⟩,
    ⟨0x1200, 0x02, .octs, .ro, 0, 255, .volatile, 0, 64, (some 0), false⟩,
    ⟨0x1200, 0x03, .octs, .ro, 0, 255, .volatile, 0, 16384, (some 0), false⟩,
    ⟨0x1F00, 0x00, .u8, .ro, 0, 255, .fixed, 2, 2, (some 2), false⟩,
    ⟨0x1F00, 0x01, .u32, .ro, 0, 255, .fixed, 0, 4294967295, none, false⟩,
    ⟨0x1F00, 0x02, .octs, .ro, 0, 255, .fixed, 0, 1048576, none, false⟩]

/-- Entries of the chapter on field link (spec file 17), part 1. -/
def fieldLinkEntries1 : List Desc :=
  [
    ⟨0x1400, 0x00, .u8, .ro, 0, 255, .fixed, 8, 8, (some 8), false⟩,
    ⟨0x1400, 0x01, .u8, .rw, 0, 2, .persistent, 0, 2, (some 0), false⟩,
    ⟨0x1400, 0x02, .u8, .rw, 0, 2, .persistent, 1, 31, (some 1), false⟩,
    ⟨0x1400, 0x03, .u8, .rw, 0, 2, .persistent, 2, 32, (some 8), false⟩,
    ⟨0x1400, 0x04, .u8, .rw, 0, 2, .persistent, 8, 255, (some 32), false⟩,
    ⟨0x1400, 0x05, .u8, .rw, 0, 2, .persistent, 0, 255, (some 0), false⟩,
    ⟨0x1400, 0x06, .u8, .rw, 0, 2, .persistent, 0, 255, (some 128), false⟩,
    ⟨0x1400, 0x07, .u16, .rw, 0, 2, .persistent, 1, 1000, (some 10), false⟩,
    ⟨0x1400, 0x08, .bool, .rw, 0, 3, .persistent, 0, 1, (some 1), false⟩,
    ⟨0x1401, 0x00, .u8, .ro, 0, 255, .fixed, 12, 12, (some 12), false⟩,
    ⟨0x1401, 0x01, .u8, .ro, 0, 255, .volatile, 0, 255, (some 0), false⟩,
    ⟨0x1401, 0x02, .u64, .ro, 0, 255, .volatile, 0, 18446744073709551615, (some 0), false⟩,
    ⟨0x1401, 0x03, .u32, .ro, 0, 255, .volatile, 0, 4294967295, (some 0), true⟩,
    ⟨0x1401, 0x04, .u64, .ro, 0, 255, .volatile, 0, 18446744073709551615, (some 0), false⟩,
    ⟨0x1401, 0x05, .u32, .ro, 0, 255, .volatile, 0, 4294967295, (some 0), true⟩,
    ⟨0x1401, 0x06, .u64, .ro, 0, 255, .volatile, 0, 18446744073709551615, (some 0), false⟩,
    ⟨0x1401, 0x07, .u32, .ro, 0, 255, .volatile, 0, 4294967295, (some 0), true⟩,
    ⟨0x1401, 0x08, .u32, .ro, 0, 255, .volatile, 0, 4294967295, (some 0), true⟩,
    ⟨0x1401, 0x09, .u32, .ro, 0, 255, .volatile, 0, 4294967295, (some 0), true⟩,
    ⟨0x1401, 0x0A, .u32, .ro, 0, 255, .volatile, 0, 4294967295, (some 0), true⟩,
    ⟨0x1401, 0x0B, .u32, .ro, 0, 255, .volatile, 0, 4294967295, (some 0), true⟩,
    ⟨0x1401, 0x0C, .u32, .ro, 0, 255, .volatile, 0, 4294967295, (some 0), true⟩,
    ⟨0x1402, 0x00, .u8, .ro, 0, 255, .fixed, 4, 4, (some 4), false⟩,
    ⟨0x1402, 0x01, .octs, .rw, 0, 1, .persistent, 0, 6, (some 0), false⟩]

/-- Entries of the chapter on field link (spec file 17), part 2. -/
def fieldLinkEntries2 : List Desc :=
  [
    ⟨0x1402, 0x02, .u64, .ro, 0, 255, .volatile, 0, 18446744073709551615, (some 0), false⟩,
    ⟨0x1402, 0x03, .u32, .ro, 0, 255, .volatile, 0, 4294967295, (some 0), false⟩,
    ⟨0x1402, 0x04, .u32, .ro, 0, 255, .volatile, 0, 4294967295, (some 0), true⟩]

/-- Entries of the chapter on events (spec file 18), part 1. -/
def eventsEntries1 : List Desc :=
  [
    ⟨0xA001, 0x00, .u8, .ro, 0, 255, .fixed, 9, 9, (some 9), false⟩,
    ⟨0xA001, 0x01, .u16, .ro, 0, 255, .persistent, 0, 8192, (some 0), false⟩,
    ⟨0xA001, 0x02, .u16, .ro, 0, 255, .persistent, 0, 4096, (some 0), false⟩,
    ⟨0xA001, 0x03, .u32, .ro, 0, 255, .persistent, 0, 4294967295, (some 0), true⟩,
    ⟨0xA001, 0x04, .u32, .ro, 0, 255, .persistent, 0, 4294967295, (some 0), true⟩,
    ⟨0xA001, 0x05, .u32, .ro, 0, 255, .persistent, 0, 4294967295, (some 0), false⟩,
    ⟨0xA001, 0x06, .u8, .ro, 0, 255, .volatile, 0, 255, (some 0), false⟩,
    ⟨0xA001, 0x07, .u8, .rw, 0, 2, .persistent, 1, 255, (some 16), false⟩,
    ⟨0xA001, 0x08, .u32, .ro, 0, 255, .persistent, 0, 4294967295, (some 0), true⟩,
    ⟨0xA001, 0x09, .u64, .ro, 0, 255, .persistent, 0, 18446744073709551615, (some 0), false⟩,
    ⟨0xA002, 0x00, .u8, .ro, 0, 255, .fixed, 1, 1, (some 1), false⟩,
    ⟨0xA002, 0x01, .action, .act, 0, 3, .volatile, 0, 0, (some 0), false⟩,
    ⟨0xA003, 0x00, .u8, .ro, 0, 255, .fixed, 3, 3, (some 3), false⟩,
    ⟨0xA003, 0x01, .u16, .rw, 0, 1, .volatile, 0, 8191, (some 0), false⟩,
    ⟨0xA003, 0x02, .octs, .ro, 1, 255, .persistent, 0, 128, (some 0), false⟩,
    ⟨0xA003, 0x03, .octs, .ro, 1, 255, .persistent, 0, 65536, (some 0), false⟩,
    ⟨0xE000, 0x00, .u8, .ro, 0, 255, .fixed, 19, 19, (some 19), false⟩,
    ⟨0xE000, 0x01, .bool, .w1c, 0, 1, .volatile, 0, 1, (some 0), false⟩,
    ⟨0xE000, 0x02, .u32, .ro, 0, 255, .volatile, 0, 4294967295, (some 0), true⟩,
    ⟨0xE000, 0x03, .u32, .ro, 0, 255, .volatile, 0, 4294967295, (some 0), false⟩,
    ⟨0xE000, 0x04, .bool, .rw, 0, 1, .persistent, 0, 1, (some 0), false⟩,
    ⟨0xE000, 0x05, .u8, .rw, 0, 2, .persistent, 0, 7, (some 0), false⟩,
    ⟨0xE000, 0x06, .u8, .rw, 0, 2, .persistent, 0, 127, (some 0), false⟩,
    ⟨0xE000, 0x07, .u8, .rw, 0, 2, .persistent, 1, 31, (some 0), false⟩]

/-- Entries of the chapter on events (spec file 18), part 2. -/
def eventsEntries2 : List Desc :=
  [
    ⟨0xE000, 0x08, .u8, .rw, 0, 2, .persistent, 0, 8, (some 0), false⟩,
    ⟨0xE000, 0x09, .u32, .rw, 0, 2, .persistent, 0, 4294967295, (some 0), false⟩,
    ⟨0xE000, 0x11, .u64, .ro, 0, 255, .volatile, 0, 18446744073709551615, (some 0), false⟩,
    ⟨0xE000, 0x12, .u64, .ro, 0, 255, .volatile, 0, 18446744073709551615, (some 0), false⟩,
    ⟨0xE000, 0x13, .time64, .ro, 0, 255, .volatile, 0, 18446744073709551615, (some 0), false⟩]

/-- Entries of the chapter on observability (spec file 19), part 1. -/
def observabilityEntries1 : List Desc :=
  [
    ⟨0xB001, 0x00, .u8, .ro, 0, 255, .fixed, 2, 2, (some 2), false⟩,
    ⟨0xB001, 0x01, .u8, .rw, 0, 2, .persistent, 0, 255, (some 0), false⟩,
    ⟨0xB001, 0x02, .u16, .ro, 0, 255, .volatile, 0, 512, (some 0), false⟩,
    ⟨0xB020, 0x00, .u8, .ro, 0, 255, .fixed, 7, 7, (some 7), false⟩,
    ⟨0xB020, 0x01, .u32, .rw, 0, 1, .persistent, 1, 1000000, (some 1000), false⟩,
    ⟨0xB020, 0x02, .u64, .ro, 0, 255, .volatile, 0, 18446744073709551615, (some 0), false⟩,
    ⟨0xB020, 0x03, .u64, .ro, 0, 255, .volatile, 0, 18446744073709551615, (some 0), false⟩,
    ⟨0xB020, 0x04, .u64, .rc, 1, 255, .volatile, 0, 18446744073709551615, (some 0), false⟩,
    ⟨0xB020, 0x05, .u64, .rc, 1, 255, .volatile, 0, 18446744073709551615, (some 0), false⟩,
    ⟨0xB020, 0x06, .u64, .ro, 0, 255, .volatile, 0, 18446744073709551615, (some 0), false⟩,
    ⟨0xB020, 0x07, .u64, .rw, 0, 1, .persistent, 0, 18446744073709551615, (some 0), false⟩,
    ⟨0xB030, 0x00, .u8, .ro, 0, 255, .fixed, 5, 5, (some 5), false⟩,
    ⟨0xB030, 0x01, .u8, .rw, 0, 1, .persistent, 0, 2, (some 0), false⟩,
    ⟨0xB030, 0x02, .u8, .rw, 0, 1, .persistent, 4, 24, (some 12), false⟩,
    ⟨0xB030, 0x03, .u8, .rw, 0, 1, .persistent, 0, 31, (some 15), false⟩,
    ⟨0xB030, 0x04, .u64, .ro, 0, 255, .volatile, 0, 18446744073709551615, (some 0), false⟩,
    ⟨0xB030, 0x05, .u64, .ro, 0, 255, .volatile, 0, 18446744073709551615, (some 0), false⟩,
    ⟨0xB040, 0x00, .u8, .ro, 0, 255, .fixed, 8, 8, (some 8), false⟩,
    ⟨0xB040, 0x01, .u8, .wo, 0, 1, .volatile, 0, 7, (some 0), false⟩,
    ⟨0xB040, 0x02, .u16, .ro, 0, 255, .volatile, 0, 4096, (some 0), false⟩,
    ⟨0xB040, 0x03, .u32, .ro, 0, 255, .volatile, 0, 4294967295, (some 0), true⟩,
    ⟨0xB040, 0x04, .u32, .ro, 0, 255, .volatile, 0, 4294967295, (some 0), true⟩,
    ⟨0xB040, 0x05, .octs, .rc, 1, 255, .volatile, 0, 64, (some 0), false⟩,
    ⟨0xB040, 0x06, .u16, .rw, 0, 1, .persistent, 1, 4096, (some 2048), false⟩]

/-- Entries of the chapter on observability (spec file 19), part 2. -/
def observabilityEntries2 : List Desc :=
  [
    ⟨0xB040, 0x07, .u8, .ro, 0, 255, .volatile, 0, 16, (some 0), false⟩,
    ⟨0xB040, 0x08, .u8, .ro, 0, 255, .volatile, 0, 32, (some 0), false⟩,
    ⟨0xB100, 0x00, .u8, .ro, 0, 255, .fixed, 128, 128, (some 128), false⟩,
    ⟨0xB100, 0x01, .u64, .w1c, 0, 1, .volatile, 0, 562949953421311, (some 0), false⟩,
    ⟨0xB110, 0x00, .u8, .ro, 0, 255, .fixed, 128, 128, (some 128), false⟩,
    ⟨0xB110, 0x01, .u16, .rw, 0, 2, .persistent, 0, 8191, (some 0), false⟩,
    ⟨0xC001, 0x00, .u8, .ro, 0, 255, .fixed, 4, 4, (some 4), false⟩,
    ⟨0xC001, 0x01, .u16, .ro, 0, 255, .volatile, 0, 65535, (some 0), false⟩,
    ⟨0xC001, 0x02, .u64, .ro, 0, 255, .volatile, 0, 18446744073709551615, (some 0), false⟩,
    ⟨0xC001, 0x03, .u16, .rw, 0, 3, .persistent, 0, 65535, (some 65535), false⟩,
    ⟨0xC001, 0x04, .u32, .ro, 0, 255, .volatile, 0, 4294967295, (some 0), true⟩,
    ⟨0xC002, 0x00, .u8, .ro, 0, 255, .fixed, 1, 1, (some 1), false⟩,
    ⟨0xC002, 0x01, .action, .act, 0, 1, .volatile, 0, 0, (some 0), false⟩,
    ⟨0xC010, 0x00, .u8, .ro, 0, 255, .fixed, 6, 6, (some 6), false⟩,
    ⟨0xC010, 0x01, .u8, .ro, 0, 255, .volatile, 0, 255, (some 0), false⟩,
    ⟨0xC010, 0x02, .u64, .ro, 0, 255, .volatile, 0, 18446744073709551615, (some 0), false⟩,
    ⟨0xC010, 0x03, .u64, .ro, 0, 255, .volatile, 0, 18446744073709551615, (some 0), false⟩,
    ⟨0xC010, 0x04, .u8, .ro, 0, 255, .volatile, 0, 255, (some 0), false⟩,
    ⟨0xC010, 0x05, .u64, .ro, 0, 255, .volatile, 0, 18446744073709551615, (some 0), false⟩,
    ⟨0xC010, 0x06, .u64, .ro, 0, 255, .volatile, 0, 18446744073709551615, (some 0), false⟩]

/-- Every row of the entry tables. -/
def entryTable : List Desc :=
  persistenceEntries ++ portsEntries1 ++ portsEntries2 ++ orderingEntries ++
  groupsEntries ++ translationEntries1 ++ translationEntries2 ++ readPathEntries1 ++
  readPathEntries2 ++ latencyEntries ++ mediumEntries ++ logEntries1 ++
  logEntries2 ++ driftEntries1 ++ driftEntries2 ++ driftEntries3 ++
  integrityEntries ++ storedDataEntries1 ++ storedDataEntries2 ++ powerEntries1 ++
  powerEntries2 ++ modesEntries1 ++ modesEntries2 ++ thermalEntries1 ++
  thermalEntries2 ++ dictionaryEntries1 ++ dictionaryEntries2 ++ fieldLinkEntries1 ++
  fieldLinkEntries2 ++ eventsEntries1 ++ eventsEntries2 ++ observabilityEntries1 ++
  observabilityEntries2

/-- The defaults other than zero, part 1: key and value. -/
def defaults1 : List (Nat × Nat) :=
  [
    (0x100000, 14), (0x10000A, 1), (0x110000, 7),
    (0x110001, 600), (0x110005, 5), (0x110006, 60),
    (0x111000, 5), (0x111005, 8), (0x120000, 3),
    (0x140000, 8), (0x140002, 1), (0x140003, 8),
    (0x140004, 32), (0x140006, 128), (0x140007, 10),
    (0x140008, 1)]

/-- The defaults other than zero, part 2: key and value. -/
def defaults2 : List (Nat × Nat) :=
  [
    (0x140100, 12), (0x140200, 4), (0x1F0000, 2),
    (0x200100, 7), (0x200105, 1), (0x201000, 16),
    (0x202000, 5), (0x203000, 13), (0x203008, 24),
    (0x20300A, 1200), (0x204000, 6), (0x205000, 3),
    (0x205001, 30), (0x300100, 6), (0x300102, 1),
    (0x300103, 1), (0x300104, 1), (0x300105, 1),
    (0x300106, 8), (0x301000, 8), (0x302000, 6),
    (0x303000, 2)]

/-- The defaults other than zero, part 3: key and value. -/
def defaults3 : List (Nat × Nat) :=
  [
    (0x303001, 25), (0x303002, 75), (0x304000, 3),
    (0x304002, 1), (0x304003, 1), (0x305000, 1),
    (0x401000, 2), (0x402000, 7), (0x402002, 8),
    (0x404000, 9), (0x404003, 512), (0x404004, 2000),
    (0x404005, 8192), (0x404100, 11), (0x404101, 1),
    (0x404107, 50), (0x405000, 3), (0x406000, 9),
    (0x406001, 4), (0x407000, 12), (0x40700C, 75),
    (0x408000, 8), (0x408001, 8)]

/-- The defaults other than zero, part 4: key and value. -/
def defaults4 : List (Nat × Nat) :=
  [
    (0x408002, 50), (0x408003, 200), (0x408004, 10),
    (0x408005, 60), (0x408006, 90), (0x408007, 32),
    (0x408008, 512), (0x408100, 9), (0x410000, 12),
    (0x410001, 1), (0x410003, 4398046511104), (0x410006, 3),
    (0x410007, 1), (0x41000A, 3), (0x41000B, 1),
    (0x41000C, 1), (0x500100, 3), (0x500101, 1048576),
    (0x500102, 90), (0x500103, 1), (0x501000, 1),
    (0x502000, 9), (0x508000, 6), (0x610000, 7)]

/-- The defaults other than zero, part 5: key and value. -/
def defaults5 : List (Nat × Nat) :=
  [
    (0x610001, 16), (0x610002, 64), (0x610003, 1048576),
    (0x611000, 8), (0x611008, 1000), (0x612000, 6),
    (0x612004, 65496), (0x613000, 10), (0x613006, 10),
    (0x614000, 9), (0x614002, 1024), (0x614003, 128),
    (0x614004, 32), (0x614005, 720), (0x615000, 10),
    (0x615004, 10000), (0x615005, 10000), (0x616000, 7),
    (0x616001, 6), (0x616002, 25), (0x616006, 8760),
    (0x616007, 3), (0x616100, 16), (0x617000, 8)]

/-- The defaults other than zero, part 6: key and value. -/
def defaults6 : List (Nat × Nat) :=
  [
    (0x617001, 168), (0x617002, 16384), (0x618000, 7),
    (0x618001, 900000), (0x618002, 950000), (0x618003, 980000),
    (0x618004, 5), (0x619000, 10), (0x619001, 1024),
    (0x619002, 8), (0x619003, 64), (0x61A000, 6),
    (0x61A001, 12), (0x61E000, 7), (0x61E004, 8),
    (0x61E006, 25), (0x61E007, 90), (0x620000, 6),
    (0x700100, 16), (0x700101, 1), (0x700200, 3),
    (0x700300, 14), (0x700400, 1)]

/-- The defaults other than zero, part 7: key and value. -/
def defaults7 : List (Nat × Nat) :=
  [
    (0x700401, 500), (0x800100, 8), (0x801000, 3),
    (0x801100, 64), (0x802000, 5), (0x802100, 32),
    (0x802200, 32), (0x803000, 4), (0x804000, 11),
    (0x804001, 1), (0x900100, 8), (0x900108, 65496),
    (0x901000, 6), (0x901001, 90), (0x901002, 105),
    (0x901003, 50), (0x901004, 8), (0x901005, 12),
    (0x901006, 3), (0x902000, 48), (0x902001, 2147483648),
    (0x903000, 3), (0x904000, 16), (0x904001, 1)]

/-- The defaults other than zero, part 8: key and value. -/
def defaults8 : List (Nat × Nat) :=
  [
    (0x904100, 16), (0xA00100, 9), (0xA00107, 16),
    (0xA00200, 1), (0xA00300, 3), (0xB00100, 2),
    (0xB02000, 7), (0xB02001, 1000), (0xB03000, 5),
    (0xB03002, 12), (0xB03003, 15), (0xB04000, 8),
    (0xB04006, 2048), (0xB10000, 128), (0xB11000, 128),
    (0xC00100, 4), (0xC00103, 65535), (0xC00200, 1),
    (0xC01000, 6), (0xD00100, 5), (0xD00101, 1),
    (0xD01000, 3), (0xD02000, 6)]

/-- The defaults other than zero, part 9: key and value. -/
def defaults9 : List (Nat × Nat) :=
  [
    (0xD02003, 63), (0xD02004, 255), (0xD03000, 3),
    (0xD04000, 8), (0xD04001, 1), (0xD04002, 2000),
    (0xD05000, 4), (0xD05003, 3600), (0xD06000, 8),
    (0xD07000, 1), (0xE00000, 19)]

/-- The keys whose value is fixed per part or per image (the entry tables' "Fixed per part" and "Fixed per image"). -/
def fixedKeys : List Nat :=
  [0x100003, 0x100004, 0x100005, 0x100006, 0x100007, 0x100008, 0x100009, 0x111004, 0x1F0001, 0x1F0002, 0x305001, 0x61E003, 0xD00104, 0xD03001, 0xD06004]

/-- Every default other than zero that the tables state as a number. -/
def nonzeroDefaults : List (Nat × Nat) :=
  defaults1 ++ defaults2 ++ defaults3 ++ defaults4 ++ defaults5 ++ defaults6 ++ defaults7 ++ defaults8 ++ defaults9

end Sys2Proof.Machine
end

