-- ==== Sys2Proof/Machine/SourceTable.lean ====
section
/-! DEFINITION. The event sources: default severity and default snapshot list of each source that is not reserved (R473,
R477 and the chapters' event source tables). -/

namespace Sys2Proof.Machine

/-- Source, default severity, default snapshot entries (index × 256 + subindex), part 1. -/
def sources1 : List (Nat × Nat × List Nat) :=
  [
    (0, 1, [0x301002, 0x301003, 0xD00101]),
    (1, 3, [0xD00101]),
    (2, 4, [0xD00101]),
    (3, 3, [0x301003, 0xD00101]),
    (4, 5, [0xD00101]),
    (5, 2, [0xD00101]),
    (6, 2, [0x301005, 0x301006, 0xD00101]),
    (7, 5, [0xD00101]),
    (8, 3, [0x301007, 0xD00101]),
    (9, 2, [0x301008, 0xD00101]),
    (10, 3, [0xD00101]),
    (11, 1, [0xD00101]),
    (12, 1, [0x301102, 0x301103, 0xD00101]),
    (13, 3, [0xD00101]),
    (14, 4, [0xD00101]),
    (15, 3, [0x301103, 0xD00101]),
    (16, 5, [0xD00101]),
    (17, 2, [0xD00101]),
    (18, 2, [0x301105, 0x301106, 0xD00101]),
    (19, 5, [0xD00101]),
    (20, 3, [0x301107, 0xD00101]),
    (21, 2, [0x301108, 0xD00101]),
    (22, 3, [0xD00101]),
    (23, 1, [0xD00101]),
    (24, 6, [0x402003, 0xD00101]),
    (25, 4, [0x402002, 0x203005, 0xD00101]),
    (26, 1, [0xD00101]),
    (27, 2, [0x200101, 0x200102, 0xD00101]),
    (28, 6, [0x20100F, 0x202002, 0xD00101]),
    (29, 5, [0x20100E, 0xD00101])]

/-- Source, default severity, default snapshot entries (index × 256 + subindex), part 2. -/
def sources2 : List (Nat × Nat × List Nat) :=
  [
    (30, 3, [0xD00101]),
    (31, 1, [0x20300B, 0xD00101]),
    (32, 5, [0x203003, 0x203004, 0x203005, 0xD00101]),
    (33, 4, [0x203005, 0xD00101]),
    (34, 2, [0x200101, 0xD00101]),
    (35, 3, [0x204002, 0xD00101]),
    (36, 5, [0x402004, 0xD00101]),
    (37, 3, [0xD00101]),
    (38, 4, [0xD00101]),
    (39, 3, [0xD00101]),
    (40, 1, [0x904001, 0x904101, 0xD00101]),
    (41, 4, [0x900101, 0x900102, 0xD00101]),
    (42, 5, [0x900103, 0x611001, 0xD00101]),
    (43, 2, [0x900106, 0xD00101]),
    (44, 4, [0x900104, 0xD00101]),
    (45, 4, [0x903001, 0x903002, 0xD00101]),
    (46, 3, [0xD00101]),
    (47, 7, [0x900101, 0x900102, 0xD00101]),
    (48, 5, [0x902012, 0x902013, 0xD00101]),
    (50, 2, [0xD00101]),
    (56, 7, [0x700303, 0x700304, 0x700305, 0xD00101]),
    (57, 2, [0x700307, 0xD00101]),
    (58, 5, [0x700308, 0x70030D, 0xD00101]),
    (59, 3, [0x70030C, 0xD00101]),
    (60, 0, [0x700306, 0xD00101]),
    (61, 4, [0xD00101]),
    (62, 4, [0xD00101]),
    (63, 6, [0x700309, 0xD00101]),
    (64, 3, [0xD00101]),
    (72, 2, [0xD00101])]

/-- Source, default severity, default snapshot entries (index × 256 + subindex), part 3. -/
def sources3 : List (Nat × Nat × List Nat) :=
  [
    (73, 4, [0x502007, 0xD00101]),
    (74, 3, [0xD00101]),
    (75, 3, [0x502008, 0xD00101]),
    (76, 2, [0xD00101]),
    (77, 2, [0x508003, 0x508004, 0xD00101]),
    (88, 3, [0x302001, 0x302002, 0xD00101]),
    (89, 2, [0xD00101]),
    (90, 3, [0x406007, 0xD00101]),
    (91, 3, [0x406008, 0xD00101]),
    (92, 1, [0xD00101]),
    (93, 4, [0x408107, 0xD00101]),
    (94, 2, [0x408105, 0xD00101]),
    (95, 4, [0x408103, 0x408109, 0xD00101]),
    (96, 4, [0x408108, 0xD00101]),
    (97, 2, [0x406009, 0xD00101]),
    (104, 2, [0xC01001, 0xC01002, 0xC01003, 0xD00101]),
    (105, 2, [0xC01101, 0xC01102, 0xC01103, 0xD00101]),
    (106, 2, [0xC01201, 0xC01202, 0xC01203, 0xD00101]),
    (107, 2, [0xC01301, 0xC01302, 0xC01303, 0xD00101]),
    (108, 2, [0xC01401, 0xC01402, 0xC01403, 0xD00101]),
    (109, 2, [0xC01501, 0xC01502, 0xC01503, 0xD00101]),
    (110, 2, [0xC01601, 0xC01602, 0xC01603, 0xD00101]),
    (111, 2, [0xC01701, 0xC01702, 0xC01703, 0xD00101]),
    (112, 2, [0xC01801, 0xC01802, 0xC01803, 0xD00101]),
    (113, 2, [0xC01901, 0xC01902, 0xC01903, 0xD00101]),
    (114, 2, [0xC01A01, 0xC01A02, 0xC01A03, 0xD00101]),
    (115, 2, [0xC01B01, 0xC01B02, 0xC01B03, 0xD00101]),
    (116, 2, [0xC01C01, 0xC01C02, 0xC01C03, 0xD00101]),
    (117, 2, [0xC01D01, 0xC01D02, 0xC01D03, 0xD00101]),
    (118, 2, [0xC01E01, 0xC01E02, 0xC01E03, 0xD00101])]

/-- Source, default severity, default snapshot entries (index × 256 + subindex), part 4. -/
def sources4 : List (Nat × Nat × List Nat) :=
  [
    (119, 2, [0xC01F01, 0xC01F02, 0xC01F03, 0xD00101]),
    (120, 3, [0xA00103, 0xA00104, 0xD00101]),
    (121, 4, [0xA00109, 0x120002, 0xD00101]),
    (122, 3, [0xA00108, 0xD00101]),
    (123, 1, [0xB00102, 0xD00101]),
    (124, 2, [0xB04003, 0xD00101]),
    (125, 1, [0xD00101]),
    (126, 1, [0xB04004, 0xD00101]),
    (127, 2, [0xB02002, 0xB02003, 0xB02102, 0xB02103, 0xD00101]),
    (128, 4, [0x110004, 0xD00101]),
    (129, 2, [0x110003, 0xD00101]),
    (130, 1, [0x120002, 0xD00101]),
    (131, 3, [0x120002, 0xD00101]),
    (132, 3, [0x140101, 0xD00101]),
    (133, 4, [0x14010C, 0xD00101]),
    (134, 2, [0x140109, 0x140108, 0xD00101]),
    (135, 2, [0x140204, 0xD00101]),
    (136, 4, [0x612003, 0x612006, 0xD00101]),
    (137, 4, [0x612103, 0x612106, 0xD00101]),
    (138, 4, [0x612203, 0x612206, 0xD00101]),
    (139, 4, [0x612303, 0x612306, 0xD00101]),
    (140, 4, [0x612403, 0x612406, 0xD00101]),
    (141, 4, [0x612503, 0x612506, 0xD00101]),
    (142, 4, [0x612603, 0x612606, 0xD00101]),
    (143, 4, [0x612703, 0x612706, 0xD00101]),
    (144, 4, [0x612803, 0x612806, 0xD00101]),
    (145, 4, [0x612903, 0x612906, 0xD00101]),
    (146, 4, [0x612A03, 0x612A06, 0xD00101]),
    (147, 4, [0x612B03, 0x612B06, 0xD00101]),
    (148, 4, [0x612C03, 0x612C06, 0xD00101])]

/-- Source, default severity, default snapshot entries (index × 256 + subindex), part 5. -/
def sources5 : List (Nat × Nat × List Nat) :=
  [
    (149, 4, [0x612D03, 0x612D06, 0xD00101]),
    (150, 4, [0x612E03, 0x612E06, 0xD00101]),
    (151, 4, [0x612F03, 0x612F06, 0xD00101]),
    (152, 3, [0x612005, 0xD00101]),
    (153, 3, [0x612005, 0xD00101]),
    (154, 3, [0x612005, 0xD00101]),
    (155, 3, [0x612005, 0xD00101]),
    (156, 3, [0x612105, 0xD00101]),
    (157, 3, [0x612105, 0xD00101]),
    (158, 3, [0x612105, 0xD00101]),
    (159, 3, [0x612105, 0xD00101]),
    (160, 3, [0x612205, 0xD00101]),
    (161, 3, [0x612205, 0xD00101]),
    (162, 3, [0x612205, 0xD00101]),
    (163, 3, [0x612205, 0xD00101]),
    (164, 3, [0x612305, 0xD00101]),
    (165, 3, [0x612305, 0xD00101]),
    (166, 3, [0x612305, 0xD00101]),
    (167, 3, [0x612305, 0xD00101]),
    (168, 3, [0x612405, 0xD00101]),
    (169, 3, [0x612405, 0xD00101]),
    (170, 3, [0x612405, 0xD00101]),
    (171, 3, [0x612405, 0xD00101]),
    (172, 3, [0x612505, 0xD00101]),
    (173, 3, [0x612505, 0xD00101]),
    (174, 3, [0x612505, 0xD00101]),
    (175, 3, [0x612505, 0xD00101]),
    (176, 3, [0x612605, 0xD00101]),
    (177, 3, [0x612605, 0xD00101]),
    (178, 3, [0x612605, 0xD00101])]

/-- Source, default severity, default snapshot entries (index × 256 + subindex), part 6. -/
def sources6 : List (Nat × Nat × List Nat) :=
  [
    (179, 3, [0x612605, 0xD00101]),
    (180, 3, [0x612705, 0xD00101]),
    (181, 3, [0x612705, 0xD00101]),
    (182, 3, [0x612705, 0xD00101]),
    (183, 3, [0x612705, 0xD00101]),
    (184, 3, [0x612805, 0xD00101]),
    (185, 3, [0x612805, 0xD00101]),
    (186, 3, [0x612805, 0xD00101]),
    (187, 3, [0x612805, 0xD00101]),
    (188, 3, [0x612905, 0xD00101]),
    (189, 3, [0x612905, 0xD00101]),
    (190, 3, [0x612905, 0xD00101]),
    (191, 3, [0x612905, 0xD00101]),
    (192, 3, [0x612A05, 0xD00101]),
    (193, 3, [0x612A05, 0xD00101]),
    (194, 3, [0x612A05, 0xD00101]),
    (195, 3, [0x612A05, 0xD00101]),
    (196, 3, [0x612B05, 0xD00101]),
    (197, 3, [0x612B05, 0xD00101]),
    (198, 3, [0x612B05, 0xD00101]),
    (199, 3, [0x612B05, 0xD00101]),
    (200, 3, [0x612C05, 0xD00101]),
    (201, 3, [0x612C05, 0xD00101]),
    (202, 3, [0x612C05, 0xD00101]),
    (203, 3, [0x612C05, 0xD00101]),
    (204, 3, [0x612D05, 0xD00101]),
    (205, 3, [0x612D05, 0xD00101]),
    (206, 3, [0x612D05, 0xD00101]),
    (207, 3, [0x612D05, 0xD00101]),
    (208, 3, [0x612E05, 0xD00101])]

/-- Source, default severity, default snapshot entries (index × 256 + subindex), part 7. -/
def sources7 : List (Nat × Nat × List Nat) :=
  [
    (209, 3, [0x612E05, 0xD00101]),
    (210, 3, [0x612E05, 0xD00101]),
    (211, 3, [0x612E05, 0xD00101]),
    (212, 3, [0x612F05, 0xD00101]),
    (213, 3, [0x612F05, 0xD00101]),
    (214, 3, [0x612F05, 0xD00101]),
    (215, 3, [0x612F05, 0xD00101]),
    (216, 1, [0x800101, 0xD00101]),
    (217, 4, [0x800102, 0xD00101]),
    (218, 1, [0x800103, 0xD00101]),
    (219, 4, [0x800104, 0xD00101]),
    (220, 2, [0x803002, 0x803003, 0xD00101]),
    (221, 1, [0x800106, 0xD00101]),
    (222, 2, [0xD00101]),
    (223, 5, [0x802003, 0x802004, 0xD00101]),
    (224, 4, [0x803003, 0xD00101]),
    (225, 5, [0x802005, 0xD00101]),
    (226, 4, [0x802001, 0x802002, 0xD00101]),
    (227, 6, [0x800108, 0xD00101]),
    (228, 2, [0x801002, 0xD00101]),
    (229, 1, [0xD00101]),
    (230, 6, [0x800107, 0xD00101]),
    (231, 3, [0xD00101]),
    (232, 2, [0x613001, 0x613005, 0xD00101]),
    (233, 3, [0x614001, 0xD00101]),
    (234, 5, [0x614001, 0x615008, 0xD00101]),
    (235, 3, [0x614008, 0xD00101]),
    (236, 2, [0x614009, 0xD00101]),
    (237, 1, [0x615003, 0xD00101]),
    (238, 1, [0x617005, 0xD00101])]

/-- Source, default severity, default snapshot entries (index × 256 + subindex), part 8. -/
def sources8 : List (Nat × Nat × List Nat) :=
  [
    (239, 3, [0xD00101]),
    (240, 3, [0x619004, 0xD00101]),
    (241, 2, [0x618005, 0xD00101]),
    (242, 5, [0x61E004, 0x61A004, 0xD00101]),
    (243, 6, [0x619006, 0xD00101]),
    (244, 2, [0x61A006, 0xD00101]),
    (245, 7, [0x61900A, 0xD00101]),
    (246, 4, [0x616003, 0x616005, 0xD00101]),
    (247, 4, [0x61E001, 0x61E002, 0x61E005, 0xD00101]),
    (248, 1, [0xD00101, 0xD00102]),
    (249, 0, [0xD02006, 0xD00101]),
    (250, 1, [0xD02004, 0xD02005, 0xD00101]),
    (251, 1, [0xD02004, 0xD00101]),
    (252, 2, [0xD03003, 0xD00101]),
    (254, 4, [0xD04001, 0xD00101]),
    (255, 6, [0xD04001, 0xD00101]),
    (258, 3, [0xD00101]),
    (259, 2, [0xD05004, 0xD00101]),
    (264, 2, [0xD00101, 0x201004]),
    (265, 5, [0xD00101, 0x201004]),
    (266, 3, [0xD00101, 0x201004]),
    (267, 3, [0xD00101, 0x201004]),
    (268, 3, [0xD00101, 0x201004]),
    (269, 3, [0xD00101, 0x201004]),
    (270, 3, [0xD00101, 0x201004]),
    (271, 4, [0xD00101, 0x201004]),
    (272, 6, [0xD00101, 0x201004]),
    (273, 0, [0xD00101, 0x201004]),
    (274, 4, [0xD00101, 0x201004]),
    (280, 2, [0xD06005, 0xD00101])]

/-- Source, default severity, default snapshot entries (index × 256 + subindex), part 9. -/
def sources9 : List (Nat × Nat × List Nat) :=
  [
    (281, 5, [0xD00101]),
    (282, 3, [0xD06004, 0xD06007, 0xD00101]),
    (283, 5, [0xD06006, 0xD00101]),
    (284, 4, [0xD06008, 0xD00101])]

/-- Every source that is not reserved. -/
def sourceTable : List (Nat × Nat × List Nat) :=
  sources1 ++ sources2 ++ sources3 ++ sources4 ++ sources5 ++ sources6 ++ sources7 ++ sources8 ++ sources9

end Sys2Proof.Machine
end

