-- ==== Sys2Proof/Machine/Registers.lean ====
section
/-! DEFINITION. The register file of the object dictionary: which entries exist and what describes them (R432, R434),
the default of each, and reading and writing the numeric and byte-string entries. A key is index × 256 + subindex, so
that 0x4020.03 is written 0x402003. -/

namespace Sys2Proof.Machine

/-- The row of the entry tables that a family's key stands under (R82, R193, R240, R295, R336, R357, R390, R412,
R428, R476, R514): the tables show the first index or subindex of each family. -/
def baseKey (key : Nat) : Nat :=
  let i := key / 256
  let sub := key % 256
  if i = 0x3011 then 0x301000 + sub
  else if 0x4100 ≤ i ∧ i ≤ 0x413F then 0x410000 + sub
  else if 0x6120 ≤ i ∧ i ≤ 0x612F then 0x612000 + sub
  else if 0x6200 ≤ i ∧ i ≤ 0x623F then 0x620000 + sub
  else if 0xC010 ≤ i ∧ i ≤ 0xC01F then 0xC01000 + sub
  else if i = 0xB021 then 0xB02000 + sub
  else if 0xB100 ≤ i ∧ i ≤ 0xB103 then (if sub = 0 then 0xB10000 else 0xB10001)
  else if 0xB110 ≤ i ∧ i ≤ 0xB113 then (if sub = 0 then 0xB11000 else 0xB11001)
  else if 0xE000 ≤ i ∧ i ≤ 0xE11F then (if 0x09 ≤ sub ∧ sub ≤ 0x10 then 0xE00009 else 0xE00000 + sub)
  else if (i = 0x6161 ∨ i = 0x7001 ∨ i = 0x8011 ∨ i = 0x8021 ∨ i = 0x8022 ∨ i = 0x9020 ∨ i = 0x9040 ∨ i = 0x9041) ∧ 1 < sub then
    i * 256 + 1
  else if i = 0x2010 ∧ 1 < sub ∧ sub ≤ 0x0D then 0x201001
  else if i = 0xD040 ∧ 3 < sub ∧ sub ≤ 0x08 then 0xD04003
  else key

/-- The row of a key in the entry tables. -/
def tableRow (key : Nat) : Option Desc :=
  let b := baseKey key
  entryTable.find? fun d => d.idx * 256 + d.sub == b

/-- The value of subindex 00 of an index: the highest subindex (R432). -/
def highestSub (idx : Nat) : Option Nat :=
  (tableRow (idx * 256)).map fun d => d.dflt.getD 0

/-- The description of an entry, `none` where it does not exist (R432). -/
def describe (key : Nat) : Option Desc :=
  match highestSub (key / 256) with
  | none => none
  | some top => if key % 256 ≤ top then tableRow key else none

/-- The bits of a numeric type (R430). -/
def EntryType.bits : EntryType → Nat
  | .bool => 1
  | .u8 | .i8 => 8
  | .u16 | .i16 | .action => 16
  | .u32 | .i32 => 32
  | .u64 | .i64 | .time64 => 64
  | .str | .octs => 0

/-- The bytes a value of the type takes (R430). -/
def EntryType.size : EntryType → Nat
  | .bool | .u8 | .i8 => 1
  | .u16 | .i16 | .action => 2
  | .u32 | .i32 => 4
  | .u64 | .i64 | .time64 => 8
  | .str | .octs => 0

/-- Type codes (R430). -/
def EntryType.code : EntryType → Nat
  | .bool => 0x01
  | .u8 => 0x02
  | .u16 => 0x03
  | .u32 => 0x04
  | .u64 => 0x05
  | .i8 => 0x06
  | .i16 => 0x07
  | .i32 => 0x08
  | .i64 => 0x09
  | .time64 => 0x0A
  | .str => 0x0B
  | .octs => 0x0C
  | .action => 0x0D

def EntryType.isSigned : EntryType → Bool
  | .i8 | .i16 | .i32 | .i64 => true
  | _ => false

def EntryType.isBytes : EntryType → Bool
  | .str | .octs => true
  | _ => false

/-- The number that a two's complement pattern of `bits` bits stands for. -/
def toSigned (bits v : Nat) : Int := if v < 2 ^ (bits - 1) then (v : Int) else (v : Int) - (2 ^ bits : Nat)

/-- The two's complement pattern of a number in `bits` bits. -/
def ofSigned (bits : Nat) (v : Int) : Nat := (v % ((2 ^ bits : Nat) : Int)).toNat

/-! ### Defaults -/

/-- The event source's row: default severity and default snapshot keys; `none` for a reserved source (R473). -/
def sourceRow (n : Nat) : Option (Nat × List Nat) := (sourceTable.find? fun r => r.1 == n).map (·.2)

/-- The default routing of a severity (R477). -/
def defaultRouting (severity : Nat) : Nat :=
  if severity ≤ 1 then 0x01 else if severity ≤ 3 then 0x07 else if severity ≤ 5 then 0x3F else 0x7F

/-- The default of subindex `sub` of source `n` (R476, R477). -/
def sourceDefault (n sub : Nat) : Nat :=
  if sub = 0x00 then 19
  else if sub = 0x07 then 1 + n / 16
  else match sourceRow n with
  | none => 0
  | some (severity, snaps) =>
    if sub = 0x05 then severity
    else if sub = 0x06 then defaultRouting severity
    else if sub = 0x08 then snaps.length
    else if 0x09 ≤ sub ∧ sub ≤ 0x10 then (snaps.getD (sub - 0x09) 0) * 256
    else 0

/-- The default select of counter `n`: [7:0] event code, [12:8] qualifier (R495). -/
def defaultSelect (n : Nat) : Nat :=
  let portCode (c : Nat) : Nat := if c < 9 then 0x02 + c else 0x10 + (c - 9)
  if n ≤ 12 then portCode n
  else if n ≤ 15 then 0x00
  else if n ≤ 28 then portCode (n - 16) + 1 * 256
  else if n ≤ 31 then 0x00
  else if n = 32 then 0x01 + 31 * 256
  else if 33 ≤ n ∧ n ≤ 37 then 0x30 + (n - 33) + 31 * 256
  else if 64 ≤ n ∧ n ≤ 175 then 0x20 + (n - 64) / 16 + ((n - 64) % 16) * 256
  else if 176 ≤ n ∧ n ≤ 191 then 0x40 + (n - 176) * 256
  else 0x00

/-- A number fixed per part or per image, within its type (R8): a fuse map has its reserved bits zero and a value [3:2] that is offered
(R408). -/
def fixedNumber (key : Nat) : Nat :=
  let v := Config.fixedEntry key
  if key = 0xD00104 then v % 12 else if key = 0x100005 ∨ key = 0x100006 then v % 2 ^ 16 else if key = 0x100008 then v % 2 ^ 64 else v % 2 ^ 32

/-- Bytes fixed per part, in their length: the ordering code is "ZL4T-2X-F" with the fuse map in two decimal digits (R408), the serial number
has 12 characters, the identity and the event record UUID 16 bytes, the MAC address 6. -/
def fixedString (key : Nat) : List Byte :=
  let sized := fun (n : Nat) => (Config.fixedBytes key ++ List.replicate n 0).take n
  if key = 0x100003 then
    [0x5A, 0x4C, 0x34, 0x54, 0x2D, 0x32, 0x58, 0x2D, 0x46, BitVec.ofNat 8 (48 + fixedNumber 0xD00104 / 10),
      BitVec.ofNat 8 (48 + fixedNumber 0xD00104 % 10)]
  else if key = 0x100004 then sized 12
  else if key = 0x100007 ∨ key = 0x305001 then sized 16
  else if key = 0x100009 then sized 6
  else Config.fixedBytes key

/-- The number that a table states as the default of a key; zero where it states none. -/
def tableDefault (key : Nat) : Nat :=
  match tfind key nonzeroDefaults with
  | some v => v
  | none => if fixedKeys.contains key then fixedNumber key else 0

/-- The default of a numeric entry. -/
def defaultOf (key : Nat) : Nat :=
  let i := key / 256
  let sub := key % 256
  if 0xE000 ≤ i ∧ i ≤ 0xE11F then sourceDefault (i - 0xE000) sub
  else if 0xB110 ≤ i ∧ i ≤ 0xB113 then (if sub = 0 then 128 else defaultSelect ((i - 0xB110) * 128 + sub - 1))
  else if 0x4101 ≤ i ∧ i ≤ 0x413F then
    (if sub = 0x01 ∨ sub = 0x03 ∨ sub = 0x0C then 0 else tableDefault (baseKey key))
  else if i = 0x7001 then (if sub = 0 then 16 else if sub = 1 then 1 else 0)
  else tableDefault (baseKey key)

/-- The default of a byte-string entry. "Haryowick" and "Zalelm ZL4T-2X" are the constants of 0x1000.01 and .02; a key of
the entry tables marked fixed per part has its own bytes. -/
def defaultBytes (key : Nat) : List Byte :=
  if key = 0x100001 then [0x48, 0x61, 0x72, 0x79, 0x6F, 0x77, 0x69, 0x63, 0x6B]
  else if key = 0x100002 then [0x5A, 0x61, 0x6C, 0x65, 0x6C, 0x6D, 0x20, 0x5A, 0x4C, 0x34, 0x54, 0x2D, 0x32, 0x58]
  else if key = 0x140201 then List.replicate 6 0xFF
  else if key = 0x804004 ∨ key = 0x804008 ∨ key = 0x80400B then List.replicate 8 0
  else if key = 0x804005 ∨ key = 0x804009 then [0]
  else if key = 0x20300B then List.replicate 16 0
  else if fixedKeys.contains key then fixedString key
  else []

/-! ### Reading and writing -/

/-- The stored value of a numeric entry. -/
def State.get (s : State) (key : Nat) : Nat := (tfind key s.dict).getD (defaultOf key)

/-- Write a numeric entry. -/
def State.put (s : State) (key v : Nat) : State := { s with dict := tset (defaultOf key) key v s.dict }

/-- The bytes of a STR or OCTS entry. -/
def State.getBytes (s : State) (key : Nat) : List Byte := (tfind key s.octs).getD (defaultBytes key)

/-- Write a STR or OCTS entry. -/
def State.putBytes (s : State) (key : Nat) (v : List Byte) : State :=
  { s with octs := tset (defaultBytes key) key v s.octs }

/-- The signed value of an entry. -/
def State.getInt (s : State) (bits key : Nat) : Int := toSigned bits (s.get key)

/-- Write a signed value. -/
def State.putInt (s : State) (bits key : Nat) (v : Int) : State := s.put key (ofSigned bits v)

/-- The value of a count after `n` more: a count that its chapter calls saturating stays at the greatest value of its
type; what another count reads past that value is not stated (`Config.countOverflow`). -/
def countAfter (key v n : Nat) : Nat :=
  match tableRow key with
  | none => v + n
  | some d =>
    if v + n < 2 ^ d.ty.bits then v + n
    else if d.saturating then 2 ^ d.ty.bits - 1
    else Config.countOverflow key (v + n)

/-- Add `n` to a count. -/
def State.addTo (s : State) (key n : Nat) : State := s.put key (countAfter key (s.get key) n)

/-- Add one to a count. -/
def State.bump (s : State) (key : Nat) : State := s.addTo key 1

/-- Keep the larger of an entry and a value, held at the greatest value of the entry's type. -/
def State.raiseTo (s : State) (key v : Nat) : State :=
  let top := match tableRow key with
    | none => v
    | some d => 2 ^ d.ty.bits - 1
  if s.get key < v then s.put key (min v top) else s

/-- Set bit `b` of an entry. -/
def State.setBit (s : State) (key b : Nat) : State := s.put key (s.get key ||| 2 ^ b)

/-- Clear bit `b` of an entry. -/
def State.clearBit (s : State) (key b : Nat) : State :=
  s.put key (if (s.get key).testBit b then s.get key - 2 ^ b else s.get key)

end Sys2Proof.Machine
end

