-- ==== Sys2Proof/Machine/Flags.lean ====
section
/-! DEFINITION. The modes by name, the conditions that many rules ask, and the status entries whose value the structures
give (they are computed when read, and held nowhere twice). -/

namespace Sys2Proof

/-- The status index of a port (R82). -/
def Port.idx : Port → Nat
  | .a => 0x3010
  | .b => 0x3011

/-- The key of a port's status entry. -/
def Port.key (p : Port) (sub : Nat) : Nat := p.idx * 256 + sub

def Port.other : Port → Port
  | .a => .b
  | .b => .a

def Port.code : Port → Nat
  | .a => 0
  | .b => 1

end Sys2Proof

namespace Sys2Proof.Machine

/-! ### Modes (R392) -/

abbrev modeOff : Nat := 0
abbrev modeAux : Nat := 1
abbrev modeRise : Nat := 2
abbrev modeRestore : Nat := 3
abbrev modeFull : Nat := 4
abbrev modeReduced : Nat := 5
abbrev modeMinimal : Nat := 6
abbrev modeDoze : Nat := 7
abbrev modeSave : Nat := 8
abbrev modeFall : Nat := 9
abbrev modeHalt : Nat := 10
abbrev modeLockout : Nat := 11
abbrev modeService : Nat := 12

/-- The mode, 0xD001.01. -/
def State.mode (s : State) : Nat := s.get 0xD00101

/-- FULL, REDUCED or MINIMAL (R4). -/
def servingMode (m : Nat) : Bool := m == modeFull || m == modeReduced || m == modeMinimal

def State.serving (s : State) : Bool := servingMode s.mode

/-- The serving mode of the supply band (R359): band 3 is FULL, 2 REDUCED, 1 and 0 MINIMAL. -/
def State.bandMode (s : State) : Nat :=
  let b := s.get 0x200102
  if b = 3 then modeFull else if b = 2 then modeReduced else modeMinimal

/-- A curtain that has passed its commit point (R437, R467). -/
def State.pastCommit (s : State) : Bool :=
  s.mode == modeSave && (match s.pow.curtain with | some c => c.committed | none => false)

/-- The dictionary is served by the always-on responder (R437). -/
def State.responder (s : State) : Bool :=
  s.mode == modeAux || s.mode == modeRise || s.mode == modeDoze || s.mode == modeFall || s.mode == modeLockout || s.pastCommit

/-- Both data paths run: host requests are accepted and the medium is dispatched to. In RESTORE they run from the host-access point on
(R79, R162). -/
def State.dataPath (s : State) : Bool :=
  s.serving || s.mode == modeService || (s.mode == modeRestore && decide (11 ≤ s.modes.restoreStep))

/-- The sources that can occur in AUX, RISE, FALL and LOCKOUT (R483). -/
def alwaysOnSource (n : Nat) : Bool := (24 ≤ n && n ≤ 55) || (128 ≤ n && n ≤ 135) || (248 ≤ n && n ≤ 263)

/-- Whether a source can occur in the present mode (R473, R483). -/
def State.canOccur (s : State) (n : Nat) : Bool :=
  (sourceRow n).isSome &&
    (if s.mode == modeOff then false
     else if s.mode == modeAux || s.mode == modeRise || s.mode == modeFall || s.mode == modeLockout then alwaysOnSource n
     else true)

/-- The entries that the responder serves as always-on (R437). -/
def alwaysOnEntry (key : Nat) : Bool :=
  let i := key / 256
  (0x1000 ≤ i && i ≤ 0x1FFF) || (0x2001 ≤ i && i ≤ 0x2050) || i == 0x4020 || i == 0x9001 || i == 0x9020 ||
    (0x9030 ≤ i && i ≤ 0x9041) || (0xA000 ≤ i && i ≤ 0xAFFF) || (0xD001 ≤ i && i ≤ 0xD070) || (0xE000 ≤ i && i ≤ 0xE11F)

/-! ### Protection and ports -/

/-- 0x4020.01 reads 1. -/
def State.protected (s : State) : Bool := s.get 0x402001 == 1

def State.port (s : State) : Port → PortState
  | .a => s.portA
  | .b => s.portB

def State.setPort (s : State) (p : Port) (v : PortState) : State :=
  match p with
  | .a => { s with portA := v }
  | .b => { s with portB := v }

def State.modPort (s : State) (p : Port) (f : PortState → PortState) : State := s.setPort p (f (s.port p))

/-- Wide mode in force: 0x3001.01 as it stood at the last RESTORE (R46). -/
def State.wide (s : State) : Bool := s.modes.wideMode

/-- A port that exists and is enabled (R46, R50). -/
def State.portEnabled (s : State) (p : Port) : Bool :=
  match p with
  | .a => s.get 0x300104 == 1
  | .b => s.get 0x300105 == 1 && !s.wide

/-- READY of a port, as driven (R79). -/
def State.ready (s : State) (p : Port) : Bool := s.get (p.key 0x04) == 1

def State.linkState (s : State) (p : Port) : Nat := s.get (p.key 0x01)

/-- Entries of a group context, of a result line, of a DMA channel. -/
def State.group (s : State) (g : Nat) : Group := tgetD {} g s.groups

def State.setGroup (s : State) (g : Nat) (v : Group) : State := { s with groups := tset {} g v s.groups }

def State.channel (s : State) (k : Nat) : DmaChannel := tgetD {} k s.obs.dma

def State.setChannel (s : State) (k : Nat) (c : DmaChannel) : State :=
  { s with obs := { s.obs with dma := tset {} k c s.obs.dma } }

/-- The stripe a ring's place holds at manufacture: the log's 1,024 stripes first, then those of the journal, the
checkpoint area and the two save areas; DESIGN CHOICE (log 12), the manual gives no first assignment. -/
def initialRingStripe : Ring → Nat → Nat
  | .log, i => i
  | .journal, i => 1024 + i
  | .checkpoint, i => 1028 + i
  | .save, i => 1044 + i

/-- How many stripes a ring has: 1,024 log stripes (R243); the others DESIGN CHOICE (log 12). -/
def ringSize : Ring → Nat
  | .log => 1024
  | .journal => 4
  | .checkpoint => 16
  | .save => 16

/-- The role of a stripe at manufacture. -/
def initialRole (n : Nat) : Role :=
  if n < 1024 then .ring .log n
  else if n < 1028 then .ring .journal (n - 1024)
  else if n < 1044 then .ring .checkpoint (n - 1028)
  else if n < 1060 then .ring .save (n - 1044)
  else .free

def initialStripe (n : Nat) : StripeRec := { role := initialRole n }

/-- A unit at manufacture: a member of a ring's stripe runs in SL mode, every other is free in ML-4. -/
def initialUnit (u : Nat) : UnitRec :=
  if u % 65536 < 1060 then { state := 1, cellMode := 1 } else { state := 0, cellMode := 4 }

def State.unit (s : State) (u : Nat) : UnitRec := tgetD (initialUnit u) u s.med.units

def State.setUnit (s : State) (u : Nat) (r : UnitRec) : State :=
  { s with med := { s.med with units := tset (initialUnit u) u r s.med.units } }

def State.stripe (s : State) (n : Nat) : StripeRec := tgetD (initialStripe n) n s.med.stripes

def State.setStripe (s : State) (n : Nat) (r : StripeRec) : State :=
  { s with med := { s.med with stripes := tset (initialStripe n) n r s.med.stripes } }

end Sys2Proof.Machine
end

