-- ==== Sys2Proof/Machine/Geometry.lean ====
section
/-! DEFINITION. The geometry of the medium (R148, R225, R235, R237), the life of units and stripes (R217, R219, R261), and the
power tokens (R191, R231 to R233, R364, R424). -/

namespace Sys2Proof.Machine

/-! ### Geometry -/

/-- Unit number of a stripe's member on a channel (R235). -/
def unitOf (stripe channel : Nat) : Nat := channel * 65536 + stripe

def stripeOfUnit (u : Nat) : Nat := u % 65536
def channelOfUnit (u : Nat) : Nat := u / 65536
/-- Die number 4 × channel + die within the package (R242). -/
def dieOfUnit (u : Nat) : Nat := u / 16384
/-- The media region, 16 on each channel (R148, R225). -/
def regionOfUnit (u : Nat) : Nat := u / 4096
def clusterOfUnit (u : Nat) : Nat := u / 32
def dieOfRegion (r : Nat) : Nat := r / 4
def channelOfRegion (r : Nat) : Nat := r / 16

/-- The channels of a stripe whose member is not retired (unit state 3 or above, R268; a lost member). -/
def State.members (s : State) (stripe : Nat) : List Nat :=
  (List.range 16).filter fun c => !(s.stripe stripe).lost.contains c

/-- The parity channel of a stripe (R235): (s[4:0] + s[11:5]) mod 16, moved upward past retired members. -/
def State.parityChannel (s : State) (stripe : Nat) : Nat :=
  let p := (stripe % 32 + stripe / 32 % 128) % 16
  ((List.range 16).map fun i => (p + i) % 16).find? (fun c => !(s.stripe stripe).lost.contains c) |>.getD p

/-- The data members of a stripe, in channel order. -/
def State.dataMembers (s : State) (stripe : Nat) : List Nat :=
  (s.members stripe).filter fun c => c != s.parityChannel stripe

/-- 4 KiB slots per ML stripe page: `bits` slots on each data member (R250). -/
def State.pageSlots (s : State) (stripe bits : Nat) : Nat := bits * (s.dataMembers stripe).length

/-! ### Life -/

/-- Rated endurance in cycles by cell mode (R217). -/
def endurance (mode : Nat) : Nat := if mode = 4 then 600000 else if mode = 3 then 1500000 else if mode = 2 then 10000000 else 100000000

/-- The life that one cycle in a mode uses, in units of 1/300,000,000: exact in every mode. -/
def cycleLife (mode : Nat) : Nat := 300000000 / endurance mode

/-- Life used in parts per million. -/
def lifePpm (life : Nat) : Nat := life / 300

/-- A unit that is never programmed again (R269). -/
def UnitRec.gone (u : UnitRec) : Bool := decide (3 ≤ u.state)

/-- The members of a stripe that are still in it and not retired. -/
def State.liveMembers (s : State) (stripe : Nat) : List Nat :=
  (s.members stripe).filter fun c => !(s.unit (unitOf stripe c)).gone

/-- Life used of a stripe: the highest among its members that are not retired. -/
def State.stripeLife (s : State) (stripe : Nat) : Nat :=
  (s.liveMembers stripe).foldl (fun m c => max m (s.unit (unitOf stripe c)).lifeUsed) 0

/-- The cell mode of a stripe: that of its members (R236). -/
def State.stripeMode (s : State) (stripe : Nat) : Nat :=
  match s.members stripe with
  | [] => 4
  | c :: _ => (s.unit (unitOf stripe c)).cellMode

/-- The bits per cell that a free stripe takes at its next reset: one that served a ring takes ML-4 (R263). -/
def State.stripeBits (s : State) (stripe : Nat) : Nat :=
  let m := s.stripeMode stripe
  if m = 1 then 4 else m

/-- A stripe in the ML pool: no ring's, not SL only, not withdrawn. -/
def Role.isMl : Role → Bool
  | .free => true
  | .openDest _ => true
  | .closed => true
  | _ => false

/-- The stripes whose role differs from that of manufacture count in place of it. -/
def State.countRoles (s : State) (atFirst : Nat) (f : Role → Bool) : Nat :=
  s.med.stripes.foldl (fun n e =>
    n + (if f e.2.role then 1 else 0) - (if f (initialRole e.1) then 1 else 0)) atFirst

/-- Free ML stripes, 0x6140.01. -/
def State.freeStripes (s : State) : Nat := s.countRoles 64476 fun r => r == .free

/-- Stripes of the ML pool. -/
def State.mlStripes (s : State) : Nat := s.countRoles 64476 Role.isMl

/-- The stripes that hold a unit whose record differs from that of manufacture. -/
def State.wornStripes (s : State) : List Nat := (s.med.units.map fun e => stripeOfUnit e.1).eraseDups

/-- Mean life used of the ML pool: every stripe that was never programmed counts with zero. -/
def State.mlMean (s : State) : Nat :=
  let sum := ((s.wornStripes.filter fun n => (s.stripe n).role.isMl).map s.stripeLife).foldl (· + ·) 0
  if s.mlStripes = 0 then 0 else sum / s.mlStripes

def State.mlHighest (s : State) : Nat :=
  ((s.wornStripes.filter fun n => (s.stripe n).role.isMl).map s.stripeLife).foldl max 0

def isLogRole : Role → Bool
  | .ring .log _ => true
  | _ => false

/-- Mean life used of the log stripes. -/
def State.logMean (s : State) : Nat :=
  (((s.wornStripes.filter fun n => isLogRole (s.stripe n).role).map s.stripeLife).foldl (· + ·) 0) / 1024

/-! ### Loss of members -/

/-- The key of an entry of die 0 to 63; subindex 01 is its state (Table — Die states): 0 In service, 1 Retiring, 2 Failed, 3 Retired. -/
def dieKey (d sub : Nat) : Nat := (0x6200 + d % 64) * 256 + sub

/-- The key of an entry of channel 0 to 15. -/
def channelKey (c sub : Nat) : Nat := (0x6120 + c % 16) * 256 + sub

/-- The keys of a package 0 to 15: its age, temperature band and temperature. -/
def packageAgeKey (c : Nat) : Nat := 0x616100 + c % 16 + 1
def packageBandKey (c : Nat) : Nat := 0x904000 + c % 16 + 1
def packageTempKey (c : Nat) : Nat := 0x904100 + c % 16 + 1

/-- The key of key slot 0 to 15's state. -/
def slotKey (n : Nat) : Nat := 0x700100 + n % 16 + 1

/-- The key of monitored channel 0 to 47's value. -/
def sensorKey (n : Nat) : Nat := 0x902000 + n % 48 + 1

/-- The key of input value 0 to 12 of 0x2001. -/
def railKey (i : Nat) : Nat := 0x201001 + i % 13

/-- The key of an entry of DMA channel 0 to 15. -/
def dmaKey (k sub : Nat) : Nat := (0xC010 + k % 16) * 256 + sub

/-- The key of the count of device resets by cause code. -/
def resetKey (code : Nat) : Nat := 0xD04002 + code % 8

def State.dieState (s : State) (d : Nat) : Nat := s.get (dieKey d 0x01)

/-- The members of a stripe whose loss is outstanding (R288): their die is Retiring or Failed, and the stripe has not been
collected since. -/
def State.outstanding (s : State) (stripe : Nat) : List Nat :=
  (s.members stripe).filter fun c =>
    let d := s.dieState (dieOfUnit (unitOf stripe c))
    d == 1 || d == 2

/-- The members that a stripe runs without from its next reset: retired units, and members of dies that have left service
(R239, R282, R288). -/
def State.leaving (s : State) (stripe : Nat) : List Nat :=
  (s.members stripe).filter fun c =>
    let u := unitOf stripe c
    (s.unit u).gone || s.dieState (dieOfUnit u) != 0

/-- The members that a new stripe page or row is written to: those that are not retired and do not leave the stripe (R239, R285). -/
def State.writeMembers (s : State) (stripe : Nat) : List Nat := (s.members stripe).filter fun c => !(s.leaving stripe).contains c

/-- The channel that takes the parity of a new stripe page or row: the next one upward whose member is written (R235, R239). -/
def State.writeParity (s : State) (stripe : Nat) : Nat :=
  let p := (stripe % 32 + stripe / 32 % 128) % 16
  (((List.range 16).map fun i => (p + i) % 16).find? fun c => (s.writeMembers stripe).contains c).getD p

/-- The channels of a stripe that new pages and rows put data on. -/
def State.writeData (s : State) (stripe : Nat) : List Nat := (s.writeMembers stripe).filter (· != s.writeParity stripe)

/-- Line places of a new log row of the stripe: 45, or 42 when it has lost a member (R243). -/
def State.rowPlaces (s : State) (stripe : Nat) : Nat := 3 * (s.writeData stripe).length

/-- A stripe may take new programs: fewer than two members lost while it holds data (R239). -/
def State.mayProgram (s : State) (stripe : Nat) : Bool :=
  decide (((s.members stripe).filter fun c =>
    let u := unitOf stripe c
    decide (1 ≤ s.dieState (dieOfUnit u)) || (s.unit u).gone).length < 2)

/-! ### Health (R294) -/

/-- Data of a stripe in MiB: 512 pages of `bits` slots of 4 KiB on each data member. -/
def State.stripeMiB (s : State) (stripe : Nat) : Nat :=
  s.stripeBits stripe * 2 * ((s.liveMembers stripe).length - 1)

/-- Spare that retirements, withdrawals and demotions have consumed, in MiB: a stripe at manufacture holds 120 MiB. A die that
has left service takes 8 MiB from each stripe of its row that no record singles out. -/
def State.spareLost (s : State) : Nat :=
  let listed := (s.wornStripes ++ s.med.stripes.map (·.1)).eraseDups
  let single := listed.foldl (fun n st =>
    n + (match (s.stripe st).role with
      | .slOnly => 120
      | .withdrawn => 120
      | .ring _ _ => 0
      | _ => 120 - min 120 (s.stripeMiB st))) 0
  (List.range 64).foldl (fun n d =>
    if s.dieState d = 0 then n
    else n + 8 * (16384 - (listed.filter fun st => st / 16384 == d % 4).length)) single

def State.spareInitial (s : State) : Nat := s.get 0x61E003
def State.spareRemaining (s : State) : Nat := s.spareInitial - s.spareLost / 1024

/-- Life Used (0x61E0.01) in per cent. -/
def State.lifePercent (s : State) : Nat :=
  let spare := if s.spareInitial = 0 then 0 else s.spareLost / 1024 * 100 / s.spareInitial
  min 100 (max (lifePpm s.mlMean / 10000) spare)

/-- Health status bits (0x61E0.05). DESIGN CHOICE (log 163): writes count as stalled by R292 where the free stripes are critical while any of
the spare is consumed, by a demotion or by a retirement. -/
def State.healthBits (s : State) : Nat :=
  let dies := (List.range 64).map s.dieState
  let maintenance := decide (s.spareRemaining * 100 < s.get 0x61E006 * s.spareInitial) ||
    dies.any (fun d => d == 1 || d == 2) || decide (s.get 0x61E007 ≤ s.lifePercent)
  let degraded := s.get 0x61A002 != 0 || dies.any (· == 2)
  let replace := s.get 0x61E004 == 0 || (s.med.critical && decide (0 < s.spareLost)) || s.get 0x61900A != 0 || s.lifePercent == 100
  (if maintenance then 1 else 0) + (if degraded then 2 else 0) + (if replace then 4 else 0)

/-- A die is thermally paused (R425). -/
def State.diePaused (s : State) (d : Nat) : Bool := (s.get 0x900104).testBit d

/-- Programs and resets in flight in a media region. -/
def State.regionOps (s : State) (region : Nat) : List Op := s.med.ops.filter fun o => regionOfUnit o.unit == region

/-- An overrun ends with the operations that it held up (R202). -/
def endOverruns (s : State) : State :=
  { s with med := { s.med with overrunRegions := s.med.overrunRegions.filter fun g => !(s.regionOps g).isEmpty } }

/-! ### Tokens -/

/-- The policy profile in effect (R191, R192). -/
def State.profile (s : State) : Nat := s.get 0x401002

/-- A quantity of Table — Policy profiles. -/
def byProfile (p a b c d : Nat) : Nat := if p = 1 then b else if p = 2 then c else if p = 3 then d else a

/-- Budget of the present supply band (Table — Token budget by mode). -/
def State.bandBudget (s : State) : Nat :=
  let b := s.get 0x200102
  if b = 3 then byProfile s.profile 160 160 160 120 else if b = 2 then 72 else 24

/-- The reserved floor of the profile and band. -/
def State.bandFloor (s : State) : Nat :=
  let b := s.get 0x200102
  if b = 3 then byProfile s.profile 24 16 32 16 else if b = 2 then byProfile s.profile 12 8 16 8
  else byProfile s.profile 4 4 6 4

/-- The fold start of the profile, in per cent of log fill. -/
def State.foldStart (s : State) : Nat := byProfile s.profile 50 75 85 60

/-- Staging hold time of the profile in ns. -/
def State.holdTime (s : State) : Nat := byProfile s.profile 2000000 1000000 8000000 4000000

/-- DOZE entry has passed abort point 2: its budget is 0. -/
def State.dozeStopped (s : State) : Bool :=
  match s.modes.doze with
  | some d => decide (2 ≤ d.step)
  | none => false

/-- Budget in force: the lowest of the band budget, the power-cap reduction and the enforcement level's share; 32 in SAVE, which
enforcement never lowers; 0 in HALT and where nothing is dispatched. -/
def State.tokenBudget (s : State) : Nat :=
  if s.mode = modeSave then 32
  else if s.serving || s.mode == modeRestore || s.mode == modeService then
    if s.dozeStopped then 0
    else
      let b := s.bandBudget
      let share := if s.therm.level = 0 then b else if s.therm.level = 1 then b / 2 else b / 4
      min (b - s.pow.capCut) share
  else 0

/-- The reserved floor in force. -/
def State.tokenFloor (s : State) : Nat := if s.mode = modeSave then 0 else s.bandFloor

/-- Tokens dedicated to a rebuild that runs (R289): 0x61A0.01 in FULL, its 72/160 in REDUCED and 24/160 in MINIMAL, rounded up. -/
def State.rebuildShare (s : State) : Nat :=
  if s.med.rebuildDies.isEmpty then 0
  else
    let k := s.get 0x61A001
    let b := s.get 0x200102
    if b = 3 then k else if b = 2 then (k * 72 + 159) / 160 else (k * 24 + 159) / 160

/-- Tokens and peak VPP current of an operation (Table — Operation costs). -/
def OpKind.tokens : OpKind → Nat
  | .sl => 1
  | .ml => 4
  | .reset => 6

def OpKind.current : OpKind → Nat
  | .sl => 30
  | .ml => 120
  | .reset => 150

/-- Tokens in use: suspended operations keep theirs (R228). -/
def State.tokensUsed (s : State) : Nat := s.med.ops.foldl (fun n o => n + o.kind.tokens) 0

/-- Reserved peak VPP current of a package in mA. -/
def State.packageCurrent (s : State) (ch : Nat) : Nat :=
  (s.med.ops.filter fun o => channelOfUnit o.unit == ch).foldl (fun n o => n + o.kind.current) 0

end Sys2Proof.Machine
end

