-- ==== Sys2Proof/Machine/Medium.lean ====
section
/-! DEFINITION. The geometry of the medium (R148, R225, R235, R237, R243, R244), where the copies of a line lie, and how a
stored line is sealed (R302 to R304). -/

namespace Sys2Proof.Machine

/-! ### Page and segment numbers -/

/-- The lines of the data range: 4 TiB. -/
abbrev dataLines : Nat := 68719476736

def pageOfLine (line : Nat) : Nat := line / 64
def segmentOfPage (page : Nat) : Nat := page / 1024
def segmentOfLine (line : Nat) : Nat := line / 65536
def blockOfLine (line : Nat) : Nat := line / 4

/-! ### Log marks (R244) -/

/-- The log stripe index of a row mark. -/
def logIndexOfMark (m : Nat) : Nat := m / 8192 % 1024

/-- The medium stripe that a log stripe index is assigned to. -/
def State.ringStripe (s : State) (r : Ring) (index : Nat) : Nat :=
  match s.med.stripes.find? fun e => e.2.role == .ring r index with
  | some e => e.1
  | none => initialRingStripe r index

/-- The medium stripe of a row mark. -/
def State.rowStripe (s : State) (m : Nat) : Nat := s.ringStripe .log (logIndexOfMark m)

/-- Rows in use: between the trim mark and the head (R245). -/
def State.logRows (s : State) : Nat := s.med.head - s.med.trim

/-- Log fill in per cent of 8,388,608 rows (R245). -/
def State.logFill (s : State) : Nat := s.logRows * 100 / 8388608

/-- Delta slots in use: a provisional entry takes two (R149). DESIGN CHOICE (log 194): entries and their companions count, links to overflow buckets
do not. -/
def State.deltaSlots (s : State) : Nat :=
  s.xlat.delta.foldl (fun n d => n + (if d.grp.isSome then 2 else 1)) 0

/-- The SL log is full (R151, R245): the head has reached the trim mark less the relocation reserve of 65,536 rows, or
fewer than 4,194,304 delta slots are free. -/
def State.slLogFull (s : State) : Bool :=
  decide (8388608 - 65536 ≤ s.logRows) || decide (436207616 < s.deltaSlots + 4194304)

/-- The log is near full: at or above 0x4080.06 per cent, or full (R198). -/
def State.nearFull (s : State) : Bool := decide (s.get 0x408006 ≤ s.logFill) || s.slLogFull

/-- The log row with a mark. -/
def State.findRow (s : State) (m : Nat) : Option LogRow := s.med.rows.find? fun r => r.mark == m

/-- The line in a log place. -/
def State.logLine (s : State) (place : Nat) : Option LogLine :=
  match s.findRow (place / 45) with
  | none => none
  | some r => r.lines.find? fun l => l.place == place

/-- The channel that a log place lies on: three lines per sector, one sector on each data member that its row was written to (R237). -/
def State.channelOfPlace (s : State) (place : Nat) : Nat :=
  match s.findRow (place / 45) with
  | some r => r.data.getD (place % 45 / 3) 0
  | none => 0

/-- The unit that holds a log place. -/
def State.unitOfPlace (s : State) (place : Nat) : Nat := unitOf (s.rowStripe (place / 45)) (s.channelOfPlace place)

/-- The slot number of a main map value's page: unit × 2,048 + slot (R147). -/
def unitOfMap (v : Nat) : Nat := v / 2048

/-! ### Staging space -/

/-- Staging slots in use: a slot holds one block of 256 bytes with one group tag or none (R180). -/
def State.stagingSlots (s : State) : Nat := ((s.staging.map fun l => (blockOfLine l.line, l.grp)).eraseDups).length

/-- Free staging space in bytes, 0x4060.02. -/
def State.freeStaging (s : State) : Nat := 25165824 - 256 * s.stagingSlots

/-- The eviction mark in bytes (0x4060.01). -/
def State.evictionMark (s : State) : Nat := s.get 0x406001 * 1048576

/-- Free space above the eviction mark arms source 89 again (R194): wherever lines leave the staging array. -/
def rearmStall (s : State) : State :=
  if s.stallReported && decide (s.evictionMark < s.freeStaging) then { s with stallReported := false } else s

/-! ### Sealing (R302, R303) -/

/-- The keystream input of block 0 (Table — Keystream input), poison bit clear. -/
def sealInput (line : Nat) (e : Seal) : BitVec 128 :=
  if e.stampForm then
    BitVec.ofNat 128 (line * 2 ^ 2 + e.minor % 2 ^ 7 * 2 ^ 38 + e.major % 2 ^ 56 * 2 ^ 45 + e.major / 2 ^ 56 % 2 * 2 ^ 101 + 2 ^ 127)
  else
    BitVec.ofNat 128 (line * 2 ^ 2 + e.minor % 2 ^ 7 * 2 ^ 38 + e.major % 2 ^ 56 * 2 ^ 45)

/-- Encrypt or decrypt a line under its slot's present key: AES in counter mode is its own inverse. -/
def State.cryptLine (s : State) (line : Nat) (e : Seal) (d : Line) : Line :=
  d ^^^ keystream (encryptionKey (s.keyOf e.slot)) (sealInput line e)

/-- The tag of a stored version (R303): bit [126] of the input marks a poisoned one, whose ciphertext counts as zeros. -/
def State.tagFor (s : State) (line : Nat) (e : Seal) (poison : Bool) (c : Line) : BitVec 64 :=
  let t := tagKey (s.keyOf e.slot)
  if poison then macUnder t (sealInput line e ||| (1 : BitVec 128) <<< 126) (lineBytes 0) else macUnder t (sealInput line e) (lineBytes c)

/-- The plaintext of a stored line under the slot's present key. -/
def State.openLine (s : State) (line : Nat) (e : Seal) (c : Line) : Line := s.cryptLine line e c

end Sys2Proof.Machine
end

