-- ==== Sys2Proof/Machine/Regions.lean ====
section
/-! DEFINITION. The region table (R186 to R190): the region of a line and its attributes; which pages are bound to a write
group; which page is mapped. -/

namespace Sys2Proof.Machine

/-- The key of an entry of region 0 to 63. -/
def regionKey (r sub : Nat) : Nat := (0x4100 + r % 64) * 256 + sub

def State.regionEnabled (s : State) (r : Nat) : Bool := s.get (regionKey r 0x01) == 1

/-- Whether an enabled region among 1 to 63 covers a DPA. -/
def State.regionCovers (s : State) (r dpa : Nat) : Bool :=
  s.regionEnabled r && decide (s.get (regionKey r 0x02) ≤ dpa) &&
    decide (dpa < s.get (regionKey r 0x02) + s.get (regionKey r 0x03))

/-- The regions among 1 to 63 whose Enable entry differs from its default of 0. -/
def State.enabledRegions (s : State) : List Nat :=
  ((trange 0x410100 0x3F00 s.dict).filter fun e => e.1 % 256 == 1 && e.2 == 1).map fun e => e.1 / 256 - 0x4100

/-- The region whose attributes a line takes (R186). -/
def State.regionOfDpa (s : State) (dpa : Nat) : Nat :=
  (s.enabledRegions.find? fun r => s.regionCovers r dpa).getD 0

def State.regionOfLine (s : State) (line : Nat) : Nat := s.regionOfDpa (line * 64)
def State.regionOfPage (s : State) (page : Nat) : Nat := s.regionOfDpa (page * 4096)

/-- An attribute of the region of a line. -/
def State.lineAttr (s : State) (line sub : Nat) : Nat := s.get (regionKey (s.regionOfLine line) sub)

/-- State 3 of a region: offline (R293). -/
def State.regionOffline (s : State) (r : Nat) : Bool := s.get (regionKey r 0x0C) == 3

def State.lineOffline (s : State) (line : Nat) : Bool := s.regionOffline (s.regionOfLine line)
def State.pageOffline (s : State) (page : Nat) : Bool := s.regionOffline (s.regionOfPage page)

/-- The write mode in force for a line: through while the module is unprotected (R19, R181). -/
def State.writeMode (s : State) (line : Nat) : Nat :=
  if s.protected && s.pow.persistAtEntry then s.lineAttr line 0x05 else 1

/-- The port may store to the line (R190). In wide mode only bit [0] counts, since only Port A exists. -/
def State.mayStore (s : State) (p : Port) (line : Nat) : Bool :=
  (s.lineAttr line 0x0A).testBit p.code

/-! ### Bound pages (R125, R126) -/

def extentHas (page : Nat) (e : Nat × Nat) : Bool := decide (e.1 ≤ page) && decide (page < e.1 + e.2)

/-- The group a page is bound to, fenced groups included. -/
def State.boundGroup (s : State) (page : Nat) : Option Nat :=
  (s.groups.find? fun e => e.2.extents.any (extentHas page)).map (·.1)

/-- Pages bound by a group. -/
def Group.pages (g : Group) : Nat := g.extents.foldl (fun n e => n + e.2) 0

/-- Pages bound on the module, fenced groups included. -/
def State.boundPages (s : State) : Nat := s.groups.foldl (fun n e => n + e.2.pages) 0

/-- Provisional lines held on the module. -/
def State.provisionalLines (s : State) : Nat := s.groups.foldl (fun n e => n + e.2.prov.length) 0

/-- Groups OPEN or COMMITTING. -/
def Group.isOpen (g : Group) : Bool := g.phase == .opened || g.phase == .committing

/-- The open group that owns a page on a port. -/
def State.ownedGroup (s : State) (p : Port) (page : Nat) : Option Nat :=
  match s.boundGroup page with
  | none => none
  | some g => if (s.group g).isOpen && (s.group g).owner == p then some g else none

/-- The first page two ranges share lies in [max, min). -/
def overlaps (a n b m : Nat) : Bool := decide (a < b + m) && decide (b < a + n)

/-- A pending discard covers a page (R167). -/
def State.discardOver (s : State) (page : Nat) : List PendingDiscard :=
  (s.xlat.pendingDiscards.map (·.2)).filter fun d => decide (d.firstPage ≤ page) && decide (page < d.firstPage + d.pages)

/-- The main map value of a page as a lookup sees it: none where unmapped, or where a pending discard covers it. -/
def State.mapOf (s : State) (page : Nat) : Option Nat :=
  if (s.discardOver page).isEmpty then tfind page s.xlat.mainMap else none

/-- The committed delta entry of a line as a lookup sees it: one in a row before the mark of a pending discard counts as
absent (R167). -/
def State.deltaOf (s : State) (line : Nat) (grp : Option Nat) : Option Delta :=
  match s.xlat.delta.find? fun d => d.line == line && d.grp == grp with
  | none => none
  | some d => if (s.discardOver (pageOfLine line)).all fun x => decide (x.mark ≤ d.place / 45) then some d else none

/-- A page is mapped (R188): some version of one of its lines stands after the latest discard that covers it. -/
def State.pageMapped (s : State) (page : Nat) : Bool :=
  s.staging.any (fun l => pageOfLine l.line == page) ||
  s.xlat.delta.any (fun d => pageOfLine d.line == page && (s.deltaOf d.line d.grp).isSome) ||
  (s.mapOf page).isSome

/-! ### Segments not yet rebuilt (R161, R165) -/

/-- A segment is rebuilt. -/
def State.isRebuilt (s : State) (seg : Nat) : Bool := s.xlat.allRebuilt || s.xlat.rebuilt.contains seg

/-- A pending record concerns a segment. -/
def recordInSegment (seg : Nat) (r : JournalRec) : Bool :=
  match r.kind with
  | .mapSet page _ _ _ => segmentOfPage page == seg
  | .discard _ first n _ => overlaps first n (seg * 1024) 1024
  | _ => false

/-- A pending record applied to the segment's map entries. -/
def applyToMap (m : Tbl Nat) (r : JournalRec) : Tbl Nat :=
  match r.kind with
  | .mapSet page new _ _ => tput page new m
  | .discard _ first n _ => tdelRange first n m
  | _ => m

/-- A pending discard covers a page. -/
def discardCovers (page : Nat) (r : JournalRec) : Bool :=
  match r.kind with
  | .discard _ first n _ => decide (first ≤ page) && decide (page < first + n)
  | _ => false

/-- The stamp of a segment's checkpoint: every change with a lower one is in it. -/
def State.segmentStamp (s : State) (seg : Nat) : Nat :=
  match tfind seg s.xlat.checkpoints with
  | some c => c.stamp
  | none => 0

/-- The pending records of a segment that its checkpoint does not include. -/
def State.latentRecords (s : State) (seg : Nat) : List JournalRec :=
  s.xlat.pendingRecords.filter fun r => recordInSegment seg r && decide (s.segmentStamp seg < r.stamp)

/-- The main map entries that a segment's rebuild gives it. -/
def State.latentMap (s : State) (seg : Nat) : Tbl Nat :=
  let base := match tfind seg s.xlat.checkpoints with
    | some c => c.map
    | none => []
  ((s.latentRecords seg).foldl applyToMap base).filter fun e => segmentOfPage e.1 == seg

/-- A delta entry of a segment's checkpoint still stands: its row is not trimmed, and no discard came after it. -/
def State.latentUsable (s : State) (seg : Nat) (d : Delta) : Bool :=
  decide (s.med.trim ≤ d.place / 45) && !((s.latentRecords seg).any (discardCovers (pageOfLine d.line)))

/-- The segments not yet rebuilt that hold something: those with a checkpoint or a pending MAP_SET. -/
def State.latentSegments (s : State) : List Nat :=
  if s.xlat.allRebuilt then []
  else ((s.xlat.checkpoints.map (·.1) ++ s.xlat.pendingRecords.filterMap fun r => match r.kind with
    | .mapSet page _ _ _ => some (segmentOfPage page)
    | _ => none).eraseDups).filter fun g => !s.isRebuilt g

/-- The mapped pages of a segment not yet rebuilt. -/
def State.latentPages (s : State) (seg : Nat) : List Nat :=
  let deltas := match tfind seg s.xlat.checkpoints with
    | some c => (c.deltas.filter (s.latentUsable seg)).map fun d => pageOfLine d.line
    | none => []
  (((s.latentMap seg).map (·.1)).filter fun p => (s.discardOver p).isEmpty) ++ deltas

/-- The pages some version stands for: those a range check has to look at. -/
def State.touchedPages (s : State) : List Nat :=
  s.staging.map (fun l => pageOfLine l.line) ++ s.xlat.delta.map (fun d => pageOfLine d.line) ++ s.xlat.mainMap.map (·.1)

/-- The mapped pages (R188), those of segments not yet rebuilt among them. -/
def State.mappedPages (s : State) : List Nat :=
  s.touchedPages.filter s.pageMapped ++ (s.latentSegments.map s.latentPages).flatten

/-- A page of [first, first + n) is mapped. -/
def State.anyMapped (s : State) (first n : Nat) : Bool :=
  s.mappedPages.any fun p => decide (first ≤ p) && decide (p < first + n)

/-- A page that region 0 governs is mapped (R188). -/
def State.governedMapped (s : State) : Bool := s.mappedPages.any fun p => s.regionOfPage p == 0

/-! ### Prompt regions (R189, R324) -/

/-- The enabled regions of class prompt whose preparation is done. -/
def State.promptRegions (s : State) : List Nat :=
  s.enabledRegions.filter fun r => s.get (regionKey r 0x04) == 1 && s.get (regionKey r 0x0C) == 1

/-- First page and pages of a region. -/
def State.regionPages (s : State) (r : Nat) : Nat × Nat := (s.get (regionKey r 0x02) / 4096, s.get (regionKey r 0x03) / 4096)

/-- The counter blocks of some pages, given by the first and their number, and the nodes above them. -/
def pinsOf (x : Nat × Nat) : IntegrityObject → Bool
  | .counterBlock page => extentHas page x
  | .node level index => overlaps x.1 x.2 (index * 8 ^ level) (8 ^ level)
  | _ => false

/-- The counter blocks of a prompt region and the nodes above them are pinned. -/
def State.pins (s : State) (obj : IntegrityObject) : Bool := s.promptRegions.any fun r => pinsOf (s.regionPages r) obj

/-- How many they are: a block for each page, and at each level the nodes over them. -/
def pinnedLines (x : Nat × Nat) : Nat :=
  if x.2 = 0 then 0
  else x.2 + (List.range 9).foldl (fun n l => n + ((x.1 + x.2 - 1) / 8 ^ (l + 1) - x.1 / 8 ^ (l + 1) + 1)) 0

/-- Counter blocks pinned: one for each page of a prompt region. -/
def State.pinnedBlocks (s : State) : Nat := s.promptRegions.foldl (fun n r => n + (s.regionPages r).2) 0

end Sys2Proof.Machine
end

