-- ==== Sys2Proof/Machine/Tree.lean ====
section
/-! DEFINITION. The counter tree: counter blocks and nodes as 64 bytes (R306, R309), their MACs and digests up to the root (R310, R311), the
numbering of the integrity space (R312), and what the counter cache holds (R323, R324). -/

namespace Sys2Proof.Machine

/-! ### The integrity space (R312) -/

/-- First integrity page of the nodes of a level (Table — Integrity pages). -/
def nodeBase (level : Nat) : Nat :=
  [150994944, 153092096, 153354240, 153387008, 153391104, 153391616, 153391680, 153391688, 153391689].getD (level - 1) 153391689

/-- The integrity page that holds an integrity line. -/
def integrityPage : IntegrityObject → Nat
  | .tagLine k => k / 64
  | .counterBlock page => 134217728 + page / 64
  | .node level index => nodeBase level + index / 64
  | .placeTag k => 153391690 + k / 64

/-- The integrity address of an integrity line. DEDUCED (log 164): its number in the integrity space, page after page. -/
def integrityAddress : IntegrityObject → Nat
  | .tagLine k => k
  | .counterBlock page => 134217728 * 64 + page
  | .node level index => nodeBase level * 64 + index
  | .placeTag k => 153391690 * 64 + k

/-- The integrity line at an integrity address. -/
def objectAt (address : Nat) : IntegrityObject :=
  let page := address / 64
  if page < 134217728 then .tagLine address
  else if page < nodeBase 1 then .counterBlock (address - 134217728 * 64)
  else if page < 153391690 then
    let level := ((List.range 9).filter fun l => decide (nodeBase (l + 1) ≤ page)).length
    .node level (address - nodeBase level * 64)
  else .placeTag (address - 153391690 * 64)

/-- Place index of a log place (R304): the row's position in the log × 45 + the position in the row. -/
def placeIndex (place : Nat) : Nat := place / 45 % 8388608 * 45 + place % 45

/-- The integrity line that holds the tag of a stored line: the tag line of one in counter form, the place tag of one in stamp form. -/
def tagObject (line place : Nat) (stampForm : Bool) : IntegrityObject :=
  if stampForm then .placeTag (placeIndex place / 8) else .tagLine (line / 8)

/-- The tag pages that cover a line of an enabled prompt region are written twice (R314). -/
def State.twice (s : State) (page : Nat) : Bool :=
  decide (page < 134217728) && s.promptRegions.any fun r => overlaps (s.regionPages r).1 (s.regionPages r).2 (page * 8) 8

/-- The integrity table numbers the second copy of a page apart from the first: this far above it, where no integrity page lies. -/
abbrev secondCopy : Nat := 268435456

/-- The number of the other copy of an integrity page. -/
def otherCopy (page : Nat) : Nat := if page < secondCopy then page + secondCopy else page - secondCopy

/-- Where the copies of the page of an integrity line lie. -/
def State.copiesOf (s : State) (obj : IntegrityObject) : List Nat :=
  [integrityPage obj, integrityPage obj + secondCopy].filterMap fun p => tfind p s.integ.table

/-- The copy that a prompt read takes beside its data: one on a channel other than the data's, where there is one (R314). -/
def State.copyBeside (s : State) (obj : IntegrityObject) (channel : Nat) : Option Nat :=
  match (s.copiesOf obj).find? fun v => channelOfUnit (unitOfMap v) != channel with
  | some v => some v
  | none => (s.copiesOf obj).head?

/-- The objects a failure of an integrity line names (R325, Table — Named ranges). -/
def State.failedObjects (s : State) : IntegrityObject → List FailedObject
  | .tagLine k => [.tagLine k]
  | .counterBlock page => [.counterBlock page]
  | .node level index => [.node level index]
  | .placeTag k => (s.xlat.delta.filter fun d => placeIndex d.place / 8 == k).map fun d => .placeTag d.place

/-! ### Counter blocks and nodes -/

/-- The 64 bytes of a counter block: the major counter in bits [55:0], minor counter i in bits [56 + 7i + 6 : 56 + 7i]. -/
def CounterBlock.bits (b : CounterBlock) : BitVec 512 :=
  BitVec.ofNat 512 ((List.range 64).foldl (fun n i => n + tgetD 0 i b.minors % 128 * 2 ^ (56 + 7 * i)) (b.major % 2 ^ 56))

/-- A tree node: the digests of its eight children, and its own MAC. -/
structure TreeNode where
  fields : List (BitVec 56)
  mac : BitVec 64
  deriving DecidableEq, Repr

/-- The eight fields, field i in bits [56i + 55 : 56i]. -/
def fieldBits (l : List (BitVec 56)) : Nat := (l.zipIdx).foldl (fun n x => n + x.1.toNat * 2 ^ (56 * x.2)) 0

/-- The 64 bytes of a node: its fields below, its MAC in bits [511:448]. -/
def TreeNode.bits (n : TreeNode) : BitVec 512 := BitVec.ofNat 512 (fieldBits n.fields + n.mac.toNat * 2 ^ 448)

/-- Field i of a node's 64 bytes, and its MAC. -/
def nodeField (b : BitVec 512) (i : Nat) : BitVec 56 := b.extractLsb' (56 * i) 56
def nodeMac (b : BitVec 512) : BitVec 64 := b.extractLsb' 448 64

/-- The MAC of the 64 bytes of a counter block or node: over its integrity address and its content without the MAC field. -/
def macOf (obj : IntegrityObject) (b : BitVec 512) : BitVec 64 :=
  treeMac (some (integrityAddress obj)) (match obj with
    | .node _ _ => natToBytes 56 b.toNat
    | _ => natToBytes 64 b.toNat)

/-- A parent's field for a child: the low 56 bits of the child's MAC. -/
def digestOf (obj : IntegrityObject) (b : BitVec 512) : BitVec 56 := (macOf obj b).setWidth 56

/-- The object at a level of the tree: a counter block at level 0, a node above. -/
def treeObject (level index : Nat) : IntegrityObject := if level = 0 then .counterBlock index else .node level index

/-- The 64 bytes of the object at a level of the tree over some counter blocks: each node is the one that its children give (R311). -/
def treeBits (block : Nat → CounterBlock) : Nat → Nat → BitVec 512
  | 0, page => (block page).bits
  | l + 1, index =>
    let fields := (List.range 8).map fun i => digestOf (treeObject l (index * 8 + i)) (treeBits block l (index * 8 + i))
    let n : TreeNode := { fields := fields, mac := macOf (.node (l + 1) index) (BitVec.ofNat 512 (fieldBits fields)) }
    n.bits

/-- The counter block of a page as the tree takes it: with the pending entries of one that has not been fetched yet left out (R320). -/
def State.treeBlock (s : State) (page : Nat) : CounterBlock :=
  if s.integ.pendingEntries.any fun e => e.1 == .counterBlock page then tgetD {} page s.integ.written else tgetD {} page s.integ.counters

/-- The 64 bytes of a counter block or node as they stand. -/
def State.treeLine (s : State) (level index : Nat) : BitVec 512 := treeBits s.treeBlock level index

/-- The root: one field for each node of level 9 (R310). -/
def State.treeRoot (s : State) : List (BitVec 56) := (List.range 8).map fun i => digestOf (.node 9 i) (s.treeLine 9 i)

/-- The tag of the counter-form version of a line that the medium holds: of its committed log copy, else of its ML page (R304). -/
def State.lineTag (s : State) (line : Nat) : BitVec 64 :=
  let log := (s.xlat.delta.find? fun d => d.line == line && d.grp == none).bind fun d => s.logLine d.place
  match log.filter (!·.sealed.stampForm) with
  | some l => l.tag
  | none =>
    match (tfind (pageOfLine line) s.xlat.mainMap).bind fun v => tfind v s.med.ml with
    | some slot => ((tfind (line % 64) slot.lines).map (·.tag)).getD 0
    | none => 0

/-- The place tag of a log place index (R304): of the stamp-form line that lies there. -/
def State.tagOfPlace (s : State) (i : Nat) : BitVec 64 :=
  let rows := s.med.rows.filter fun r => r.mark % 8388608 == i / 45
  ((rows.findSome? fun r => r.lines.find? fun l => placeIndex l.place == i && l.sealed.stampForm).map (·.tag)).getD 0

/-- The 64 bytes of an integrity line: eight tags, the tag of line 8k + j in bytes 8j to 8j + 7; or a counter block or node. -/
def State.integrityLine (s : State) (obj : IntegrityObject) : BitVec 512 :=
  let tags := fun (f : Nat → BitVec 64) => BitVec.ofNat 512 ((List.range 8).foldl (fun n j => n + (f j).toNat * 2 ^ (64 * j)) 0)
  match obj with
  | .tagLine k => tags fun j => s.lineTag (8 * k + j)
  | .placeTag k => tags fun j => s.tagOfPlace (8 * k + j)
  | .counterBlock page => s.treeLine 0 page
  | .node level index => s.treeLine level index

/-- The 64 lines of an integrity page as a write-back batch writes it (R312). UNVERIFIED (log 191): they are written as they stand, since no rule
gives an integrity line a counter to be encrypted under. -/
def State.integrityPageLines (s : State) (page : Nat) : Tbl MlLine :=
  (List.range 64).map fun i =>
    (i, { cipher := s.integrityLine (objectAt (page * 64 + i)), poison := false, stamp := 0, tag := 0,
          sealed := { slot := 0, stampForm := false, major := 0, minor := 0 } })

/-! ### The counter cache -/

/-- The line is in the counter cache: pinned there (R324), or fetched or changed. -/
def State.isCached (s : State) (obj : IntegrityObject) : Bool := s.pins obj || s.integ.cache.any fun c => c.obj == obj

/-- An integrity line changes in the counter cache. -/
def touchIntegrity (obj : IntegrityObject) (s : State) : State :=
  let mark := fun (c : CachedIntegrity) => if c.obj == obj then { c with dirty := true, changed := true } else c
  let cache := if s.integ.cache.any fun c => c.obj == obj then s.integ.cache.map mark
    else s.integ.cache ++ [{ obj := obj, dirty := true, changed := true }]
  { s with integ := { s.integ with cache := cache } }

/-- A counter block changes, and with it the nodes above it up to the root. -/
def touchBlock (page : Nat) (s : State) : State :=
  (List.range 9).foldl (fun t i => touchIntegrity (.node (i + 1) (page / 8 ^ (i + 1))) t) (touchIntegrity (.counterBlock page) s)

/-- The changes of a fetched line are covered by programmed entries: it differs from its copy on the medium, and is no dirty line (R323). -/
def coverIntegrity (obj : IntegrityObject) (s : State) : State :=
  let cache := if s.integ.cache.any fun c => c.obj == obj then s.integ.cache.map fun c => if c.obj == obj then { c with changed := true } else c
    else s.integ.cache ++ [{ obj := obj, dirty := false, changed := true }]
  { s with integ := { s.integ with cache := cache } }

/-- An integrity line enters the counter cache, with its pending entries applied in chain order and, for a counter block, the fields above
it updated up to the root (R320, R327). `counters` holds every block with its entries applied, so what changes is that they are no longer
pending. -/
def cacheLine (obj : IntegrityObject) (s : State) : State :=
  let pending := s.integ.pendingEntries.any fun e => e.1 == obj
  let s := { s with integ := { s.integ with pendingEntries := s.integ.pendingEntries.filter fun e => e.1 != obj } }
  if pending then
    (match obj with
    | .counterBlock page => (List.range 9).foldl (fun t i => coverIntegrity (.node (i + 1) (page / 8 ^ (i + 1))) t) (coverIntegrity obj s)
    | _ => coverIntegrity obj s)
  else if s.integ.cache.any fun c => c.obj == obj then s
  else { s with integ := { s.integ with cache := s.integ.cache ++ [{ obj := obj, dirty := false, changed := false }] } }

/-- The lines a walk fetches: the line itself, then its ancestors up to the first that is cached (at most nine nodes). -/
def State.walk (s : State) (obj : IntegrityObject) : List IntegrityObject :=
  let up := fun (page : Nat) (from_ : Nat) => (((List.range 9).filter (from_ ≤ ·)).map fun i => IntegrityObject.node (i + 1) (page / 8 ^ (i + 1)))
  match obj with
  | .counterBlock page => obj :: (up page 0).takeWhile fun o => !s.isCached o
  | .node level index => obj :: ((up (index * 8 ^ level) level).takeWhile fun o => !s.isCached o)
  | _ => [obj]

/-! ### Replay of the integrity entries (R308, R320) -/

/-- The integrity lines that an entry concerns. -/
def IntegrityKind.lines : IntegrityKind → List IntegrityObject
  | .line l _ _ _ => [.tagLine (l / 8), .counterBlock (pageOfLine l)]
  | .major page _ => [.counterBlock page]
  | .place pl _ => [.placeTag (pl / 8)]
  | .digest _ _ _ => []

/-- What an entry makes of the counter blocks. -/
def IntegrityKind.apply (m : Tbl CounterBlock) : IntegrityKind → Tbl CounterBlock
  | .line l minor _ _ =>
    let b := tgetD {} (pageOfLine l) m
    tset {} (pageOfLine l) { b with minors := tput (l % 64) minor b.minors } m
  | .major page up => tset {} page { major := up, minors := [] } m
  | _ => m

/-- A Line entry of each of a page's 64 lines is among some entries. -/
def wholePage (page : Nat) (l : List IntegrityEntry) : Bool :=
  (List.range 64).all fun i => l.any fun e => match e.kind with
    | .line x _ _ _ => x == page * 64 + i
    | _ => false

/-- The entries that replay applies, in chain order: a Major entry without the 64 Line entries of its page after it is ignored, and those
Line entries with it. -/
def acceptedEntries : List IntegrityEntry → List Nat → List IntegrityEntry
  | [], _ => []
  | e :: t, skip =>
    match e.kind with
    | .major page _ => if wholePage page t then e :: acceptedEntries t (skip.filter (· != page)) else acceptedEntries t (insertNew page skip)
    | .line l _ _ _ => if skip.contains (pageOfLine l) then acceptedEntries t skip else e :: acceptedEntries t skip
    | _ => e :: acceptedEntries t skip

end Sys2Proof.Machine
end

