-- ==== Sys2Proof/Machine/Records.lean ====
section
/-! DEFINITION. The byte layouts of the records that the dictionary, the queues and the field link show: recorder records (R484), change records
(R447), sample records (R500), notices (R469), power log records (R370), error and remap entries (R347, R349) and entry descriptors (R434). -/

namespace Sys2Proof.Machine

/-- A record followed by the CRC-32C of what stands before. -/
def withCrc (l : List Byte) : List Byte := l ++ natToBytes 4 (Config.crc32c l).toNat

/-- Index and subindex of a key. -/
def keyBytes (key : Nat) : List Byte := natToBytes 2 (key / 256) ++ natToBytes 1 (key % 256)

def Snapshot.bytes (x : Snapshot) : List Byte := keyBytes x.key ++ natToBytes 1 x.type ++ natToBytes 8 x.value

/-- Table — Recorder record. -/
def RecorderRecord.bytes (r : RecorderRecord) : List Byte :=
  let flags := (if r.kept then 1 else 0) + (if r.circulating then 2 else 0) + (if r.responder then 4 else 0)
  let body := padTo 0x78 (natToBytes 8 r.stamp ++ natToBytes 8 r.time ++ natToBytes 2 r.source ++ natToBytes 1 r.severity ++
    natToBytes 1 r.mode ++ natToBytes 1 r.snapshots.length ++ natToBytes 1 flags ++ natToBytes 2 r.occurrences ++
    (r.snapshots.map Snapshot.bytes).flatten)
  body ++ natToBytes 4 r.sequence ++ natToBytes 4 (Config.crc32c body).toNat

/-- Table — Change record. -/
def ChangeRecord.bytes (r : ChangeRecord) : List Byte :=
  natToBytes 8 r.stamp ++ natToBytes 8 r.time ++ keyBytes r.key ++ natToBytes 1 r.kind ++ natToBytes 1 r.path ++ natToBytes 1 r.privilege ++
    natToBytes 2 r.session ++ natToBytes 2 r.counter ++ natToBytes 2 0 ++ natToBytes 4 r.length ++ padTo 16 r.old ++ padTo 16 r.new

/-- Table — Notice payload. -/
def NoticeItem.bytes (n : NoticeItem) : List Byte :=
  natToBytes 4 n.number ++ natToBytes 2 n.source ++ natToBytes 1 n.severity ++ natToBytes 1 n.snapshots.length ++ natToBytes 8 n.stamp ++
    natToBytes 8 n.time ++ (n.snapshots.map Snapshot.bytes).flatten

/-- The pipeline points 1 to 7 that a sampled request passes (Table — Pipeline points): a read dispatches to the medium only where it was
served from it; a write uses points 1 to 4; for a window access the table gives none to leave out. -/
def SampleRecord.passes (r : SampleRecord) (point : Nat) : Bool :=
  if r.opcode = 1 then r.die != 0xFF || !(4 ≤ point && point ≤ 6) else if r.opcode ≤ 3 then decide (point ≤ 4) else true

/-- Table — Sample record. The times of the points passed are not stated: `free` supplies them. -/
def SampleRecord.bytes (r : SampleRecord) (free : Nat) : List Byte :=
  let points := (List.range 7).map fun i => natToBytes 4 (if r.passes (i + 1) then free / 2 ^ (32 * i) % 2 ^ 32 else 0xFFFFFFFF)
  withCrc (natToBytes 8 r.stamp ++ natToBytes 8 r.time ++ natToBytes 6 (r.line * 64) ++ natToBytes 1 (match r.port with | .a => 0 | .b => 1) ++
    natToBytes 1 r.opcode ++ points.flatten ++ natToBytes 1 r.outcome ++ natToBytes 1 r.die ++ natToBytes 1 r.steps ++ natToBytes 1 r.cls ++
    natToBytes 1 r.flags ++ natToBytes 3 0)

/-- The commit word of a power log record: [31:0] its sequence number, [63:32] the complement. -/
def commitWord (sequence : Nat) : BitVec 64 := BitVec.ofNat 64 (sequence % 2 ^ 32 + (2 ^ 32 - 1 - sequence % 2 ^ 32) * 2 ^ 32)

/-- A slot holds a valid record (R372). -/
def LogSlot.valid (x : LogSlot) : Bool := x.crcMatches && x.commit == commitWord x.record.sequence

/-- The records of the power log, the oldest first: of 512 valid ones, the first is ignored. -/
def powerRecords (l : List LogSlot) : List PowerRecord :=
  let valid := (l.filter (·.valid)).map (·.record)
  valid.drop (valid.length - 511)

/-- The oldest of 512 valid records is cleared (R371, R372). -/
def clearOldest (l : List LogSlot) : List LogSlot :=
  if 511 < (l.filter (·.valid)).length then
    match l.find? (·.valid) with
    | some x => l.map fun y => if y == x then { y with commit := 0 } else y
    | none => l
  else l

/-- Write a record into the slot that follows the newest: a slot left over from 512 gives way, the body and then the commit word are
written, and the oldest record is cleared (R371). -/
def writePowerSlot (r : PowerRecord) (l : List LogSlot) : List LogSlot :=
  let l := clearOldest l
  let l := if 511 < l.length then l.drop 1 else l
  clearOldest (l ++ [{ record := r, commit := commitWord r.sequence }])

/-- The write of the newest record was cut (R371): before its commit word, so that the record before it that the write would have cleared
stands; or before that record was cleared. -/
def cutSlot (cut : RecordCut) (l : List LogSlot) : List LogSlot :=
  let restored := match l with
    | [] => []
    | x :: t => if l.length = 512 then { x with commit := commitWord x.record.sequence } :: t else l
  match cut with
  | .none => l
  | .beforeClear => restored
  | .beforeCommit => (restored.zipIdx).map fun (x, i) => if i + 1 = l.length then { x with commit := 0 } else x

/-- The slots written after the newest valid record, whose commit word is not valid: abandoned writes (R372). -/
def abandonedSlots (l : List LogSlot) : List LogSlot :=
  (l.reverse.takeWhile fun x => !x.valid && x.commit != commitWord x.record.sequence)

/-- Table — Power log record. -/
def PowerRecord.bytes (r : PowerRecord) : List Byte :=
  let body := withCrc (padTo 0x74 (natToBytes 4 r.sequence ++ natToBytes 1 r.kind ++ natToBytes 1 r.mode ++ natToBytes 1 r.rail ++
    natToBytes 1 r.cause ++ natToBytes 8 r.time ++ natToBytes 8 r.stamp ++ natToBytes 2 r.vin ++ natToBytes 2 r.lowest ++
    natToBytes 2 r.current ++ natToBytes 2 r.energy ++ natToBytes 2 r.stuck ++ natToBytes 2 r.junction ++ natToBytes 2 r.package ++
    natToBytes 2 0 ++ (r.voltages.map (natToBytes 2)).flatten))
  body ++ natToBytes 8 (commitWord r.sequence).toNat

/-- Memory codes of Table — Correctable-error entry. -/
def memCode : MemKind → Nat
  | .sram => 1
  | .dram => 2
  | .medium => 3
  | .param => 4

/-- Table — Correctable-error entry. -/
def ErrorEntry.bytes (e : ErrorEntry) : List Byte :=
  natToBytes 1 (memCode e.mem) ++ natToBytes 1 e.outcome ++ natToBytes 2 e.errors ++ natToBytes 4 e.uncorrectable ++ natToBytes 8 e.address ++
    natToBytes 8 e.first ++ natToBytes 8 e.last

/-- Table — Remap entry. -/
def RemapEntry.bytes (e : RemapEntry) : List Byte :=
  natToBytes 1 e.state ++ natToBytes 1 (memCode e.mem) ++ natToBytes 2 0 ++ natToBytes 4 e.row ++ natToBytes 8 e.time

/-! ### Entry descriptors -/

/-- Access codes of Table — Entry descriptor. -/
def Access.code : Access → Nat
  | .ro => 1
  | .rw => 2
  | .wo => 3
  | .w1c => 4
  | .rc => 5
  | .act => 6

/-- Access and write privilege of an entry: Enable, Base and Length of region 0 are read-only (R187). -/
def accessOf (key : Nat) (d : Desc) : Access := if 0x410001 ≤ key ∧ key ≤ 0x410003 then .ro else d.access
def writePrivilege (key : Nat) (d : Desc) : Nat := if 0x410001 ≤ key ∧ key ≤ 0x410003 then 255 else d.wr

/-- Entries whose effect comes at the next RESTORE (Table — Port and window entries). -/
def restoreEffect (key : Nat) : Bool := key == 0x300101

/-- A number widened to 64 bits. -/
def widened (v : Int) : Nat := (v % ((2 ^ 64 : Nat) : Int)).toNat

/-- The default of an entry as its descriptor shows it. -/
def shownDefault (key : Nat) (d : Desc) : Nat :=
  if d.access == .act then 0
  else if d.ty.isBytes then bytesToNat ((defaultBytes key).take 8)
  else if d.ty.isSigned then widened (toSigned d.ty.bits (defaultOf key))
  else defaultOf key

/-- The descriptor of an entry. -/
def descriptorBytes (key : Nat) : List Byte :=
  match describe key with
  | none => []
  | some d =>
    let bounded := !(d.ty.isBytes || d.access == .act)
    let flags := (if d.keep == .persistent then 1 else 0) + (if alwaysOnEntry key then 2 else 0) + (if restoreEffect key then 4 else 0) +
      (if fixedKeys.contains (baseKey key) then 8 else 0)
    keyBytes key ++ natToBytes 1 d.ty.code ++ natToBytes 1 (accessOf key d).code ++ natToBytes 1 d.rd ++ natToBytes 1 (writePrivilege key d) ++
      natToBytes 1 flags ++ natToBytes 8 (if bounded then widened d.lo else 0) ++
      natToBytes 8 (if d.access == .act then 0 else widened d.hi) ++ natToBytes 8 (shownDefault key d)

/-- The indices that exist, in ascending order (R432, R433). -/
def existingIndices : List Nat :=
  (List.range 0xF000).filter fun i => (highestSub i).isSome

/-- The keys of the existing entries, in ascending order. -/
def existingKeys : List Nat :=
  (existingIndices.map fun i => (List.range ((highestSub i).getD 0 + 1)).map fun k => i * 256 + k).flatten.filter fun k => (describe k).isSome

end Sys2Proof.Machine
end

