-- ==== Sys2Proof/Machine/Derived.lean ====
section
/-! DEFINITION. Reading an entry of the dictionary: the stored value, or, for the entries that show a structure of the module, the value that the
structure gives. Such a value is held nowhere twice. -/

namespace Sys2Proof.Machine

/-! ### What the structures give -/

/-- Host bytes written since the oldest dirty segment became dirty (R155). -/
def State.tailBytes (s : State) : Nat :=
  s.xlat.dirty.foldl (fun m e => max m (s.get 0x615006 - e.2.bytes)) 0

/-- Age in ns of the oldest dirty segment. -/
def State.tailAge (s : State) : Nat := s.xlat.dirty.foldl (fun m e => max m (s.clock - e.2.clock)) 0

/-- Segments not rebuilt, 0x4041.04. -/
def State.notRebuilt (s : State) : Nat := if s.xlat.allRebuilt then 0 else 1048576 - s.xlat.rebuilt.length

/-- Suspend overruns of a die within the last 24 hours of service (R286). -/
def State.dieOverruns (s : State) (die : Nat) : Nat :=
  (s.med.overruns.filter fun e => e.1 == die && decide (s.service < e.2 + 86400000000000)).length

/-- Shadow rows of a memory (R343). -/
def shadowRows (mem : MemKind) : Nat := if mem = .sram then 64 else 1024

/-- The memory that a row's shadow row lies in: an SRAM row that could not be promoted has a DRAM shadow row (R350). -/
def State.shadowMem (s : State) (e : MemKind × Nat) : MemKind :=
  if s.stored.remap.any fun r => r.mem == e.1 && r.row == e.2 && r.state == 3 then .dram else e.1

def State.shadowsUsed (s : State) (mem : MemKind) : Nat := (s.stored.shadows.filter fun e => s.shadowMem e == mem).length

/-- The ring places whose stripe has an outstanding loss. -/
def State.ringLosses (s : State) : List (Ring × Nat) :=
  ([Ring.journal, Ring.checkpoint, Ring.log].map fun r =>
    ((List.range (ringSize r)).filter fun i => !(s.outstanding (s.ringStripe r i)).isEmpty).map fun i => (r, i)).flatten

/-- The stripes with an outstanding loss that still hold data (R288). -/
def State.stripesToRebuild (s : State) : List Nat :=
  (s.med.stripes.filter fun e =>
    (e.2.role == .closed || (match e.2.role with | .openDest _ => true | _ => false)) && !e.2.needsReset &&
      !(s.outstanding e.1).isEmpty).map (·.1)

/-- Units in a cell mode: at manufacture 16,960 run in SL mode and the rest in ML-4. -/
def State.unitsInMode (s : State) (mode : Nat) : Nat :=
  let atFirst := if mode = 1 then 16960 else if mode = 4 then 1048576 - 16960 else 0
  s.med.units.foldl (fun n e =>
    n + (if e.2.cellMode = mode then 1 else 0) - (if (initialUnit e.1).cellMode = mode then 1 else 0)) atFirst

/-- The sum of the steps that sets of device time have made since a stamp, as the TIME_SET records hold them (R146). -/
def State.stepsSince (s : State) (stamp : Nat) : Int :=
  s.xlat.journal.foldl (fun n r => match r.kind with
    | .timeSet old new => if stamp < r.stamp then n + ((new : Int) - (old : Int)) else n
    | _ => n) 0

/-- The time in ns since a device time recorded with a stamp: the steps of the clock since then do not count (R146). -/
def State.timeSince (s : State) (time stamp : Nat) : Nat := ((s.deviceTime : Int) - (time : Int) - s.stepsSince stamp).toNat

/-- The longest time since a patrol visit, or since the first program where none has come, over the allocated units (0x6170.07). -/
def State.longestUnvisited (s : State) : Nat :=
  (s.med.units.filter fun e => e.2.state == 1 || e.2.state == 2).foldl
    (fun m e => max m (if e.2.firstStamp < e.2.visitStamp then s.timeSince (e.2.visited * 1000000000) e.2.visitStamp / 1000000000
      else s.timeSince e.2.firstTime e.2.firstStamp / 1000000000)) 0

/-- The ML write amplification in hundredths (R247): ML bytes that fold, collection and wear levelling programmed for each host byte, since the oldest of the last 24 hourly marks. -/
def State.amplification (s : State) : Nat :=
  match s.med.volumeMarks with
  | [] => 0
  | m :: _ =>
    let host := s.get 0x615006 - m.1
    if host = 0 then 0 else min 65535 ((s.get 0x615007 - s.med.rebuildBytes - m.2) * 100 / host)

/-- Records of the recorder, newest first by stamp. -/
def insertByStamp (r : RecorderRecord) : List RecorderRecord → List RecorderRecord
  | [] => [r]
  | x :: t => if x.stamp ≤ r.stamp then r :: x :: t else x :: insertByStamp r t

def State.newestFirst (s : State) : List RecorderRecord := s.recd.records.foldl (fun l r => insertByStamp r l) []

/-- Levels whose key is set (0x1110.05). -/
def State.keySet (s : State) (level : Nat) : Bool := level == 3 || (tfind level s.mgmt.levelKeys).isSome

/-- Seconds of SERVICE that remain (R410). -/
def State.serviceLeft (s : State) : Nat :=
  if s.mode = modeService then s.get 0xD05003 - (s.clock - s.modes.serviceEntered) / 1000000000 else 0

/-- The greatest value of a U32. -/
abbrev topU32 : Nat := 4294967295

/-! ### Chapters 01 to 05 -/

def State.readTranslation (s : State) (key : Nat) : Option Nat :=
  if 0x410000 ≤ key ∧ key < 0x414000 ∧ key % 256 = 5 then
    -- every region reads as through while the module is unprotected (R19)
    some (if s.protected && s.pow.persistAtEntry then s.get key else 1)
  else if key = 0x508001 then some s.reservedA.length
  else if key = 0x508002 then some s.reservedB.length
  else if key = 0x502001 then some (s.groups.filter fun e => e.2.isOpen).length
  else if key = 0x502002 then some s.boundPages
  else if key = 0x502003 then some s.provisionalLines
  else if key = 0x404001 then some (s.xlat.mainMap.filter fun e => decide (e.1 < 1073741824) && (s.mapOf e.1).isSome).length
  else if key = 0x404002 then some s.deltaSlots
  else if key = 0x404006 then some s.xlat.dirty.length
  else if key = 0x404007 then some (min 65535 (s.tailBytes / 1048576))
  else if key = 0x404008 then some s.xlat.pendingDiscards.length
  else if key = 0x404104 then some s.notRebuilt
  else if key = 0x405001 then some (s.deviceTime % 2 ^ 64)
  else if key = 0x406002 then some s.freeStaging
  else if key = 0x406003 then some s.staging.length
  else if key = 0x408109 then some (min 65535 (s.reads.filter fun r => r.cls == 1 && decide (0 < r.boundNs) && r.place != .merge && r.place != .rebuild && !r.answered).length)
  else none

/-! ### Chapters 08 to 10 -/

def State.readMedium (s : State) (key : Nat) : Option Nat :=
  if key = 0x610004 then some (s.unitsInMode 1)
  else if key = 0x610005 then some (s.unitsInMode 4)
  else if key = 0x610006 then some (s.unitsInMode 3)
  else if key = 0x610007 then some (s.unitsInMode 2)
  else if key = 0x611001 then some s.tokenBudget
  else if key = 0x611002 then some s.tokensUsed
  else if key = 0x613001 then some s.logFill
  else if key = 0x613002 then some s.logRows
  else if key = 0x613003 then some s.med.head
  else if key = 0x613004 then some s.med.trim
  else if key = 0x613005 then some (s.xlat.delta.filter fun d => d.grp.isSome).length
  else if key = 0x614001 then some s.freeStripes
  else if key = 0x615001 then some (lifePpm s.mlMean)
  else if key = 0x615002 then some (lifePpm s.mlHighest)
  else if key = 0x615003 then some (lifePpm s.logMean)
  else if key = 0x615008 then some s.amplification
  else if key = 0x617007 then some (min topU32 s.longestUnvisited)
  else if key = 0x618006 then some (s.med.stripes.filter fun e => e.2.slOnly).length
  else if key = 0x618007 then some (s.med.stripes.filter fun e => e.2.role == .withdrawn).length
  else if key = 0x61A004 then some (s.stripesToRebuild.length + s.ringLosses.length)
  else if key = 0x61A005 then some (if s.med.rebuildDies.isEmpty then 0 else Config.rebuildEstimate s.clock % 2 ^ 32)
  else if key = 0x61E001 then some s.lifePercent
  else if key = 0x61E002 then some s.spareRemaining
  else if key = 0x61E005 then some s.healthBits
  else if 0x620000 ≤ key ∧ key < 0x624000 ∧ key % 256 = 3 then
    some (s.med.units.filter fun e => e.2.state == 2 && dieOfUnit e.1 == key / 256 - 0x6200).length
  else if 0x620000 ≤ key ∧ key < 0x624000 ∧ key % 256 = 4 then some (min 255 (s.dieOverruns (key / 256 - 0x6200)))
  else none

/-! ### Chapters 11 to 14 -/

def State.remapUsed (s : State) (mem : MemKind) : Nat := (s.stored.remap.filter fun e => e.mem == mem).length

def State.readProtection (s : State) (key : Nat) : Option Nat :=
  if key = 0x700309 then some s.integ.poisonedRanges.length
  else if key = 0x70030B then some (min topU32 s.pinnedBlocks)
  else if key = 0x801001 then some s.stored.errors.length
  else if key = 0x802001 then some (s.remapUsed .sram)
  else if key = 0x802002 then some (s.remapUsed .dram)
  else if key = 0x802003 then some (s.shadowsUsed .sram)
  else if key = 0x802004 then some (s.shadowsUsed .dram)
  else if key = 0x202001 then some (powerRecords s.pow.log).length
  else if key = 0xD00103 then some (min topU32 ((s.clock - s.modes.enteredAt) / 1000000))
  else if key = 0xD05004 then some s.serviceLeft
  else none

/-! ### Chapters 16 to 19 -/

/-- The link state of the field link, 0x1401.01 (R453): 0 disabled, 1 PLCA, 2 CSMA/CD after beacon loss, 3 CSMA/CD. -/
def State.fieldLinkState (s : State) : Nat :=
  if s.mode = modeOff ∨ s.get 0x140008 = 0 then 0
  else if s.get 0x140001 = 2 then 3
  else if s.get 0x140001 = 0 ∧ s.mgmt.beaconLost then 2
  else 1

def State.readManagement (s : State) (key : Nat) : Option Nat :=
  if key = 0x140101 then some s.fieldLinkState
  else if key = 0x110003 then some s.mgmt.sessions.length
  else if key = 0x111005 then some ((List.range 4).foldl (fun n l => n + (if s.keySet l then 2 ^ l else 0)) 0)
  else if key = 0x1F0001 then some existingKeys.length
  else if key = 0xA00101 then some s.recd.records.length
  else if key = 0xA00102 then some (s.recd.records.filter (·.kept)).length
  else if key = 0xB00102 then some ((trange 0xB10000 0x400 s.dict).filter fun e => e.1 % 256 != 0 && e.2.testBit 48).length
  else if key = 0xB04002 then some s.obs.samples.length
  else if key = 0xB04007 then some s.mgmt.notices.length
  else if key = 0xB04008 then some s.mgmt.received.length
  else if key = 0xC00101 then
    some ((List.range 16).foldl (fun n k => n + (if (s.channel k).state = 1 then 2 ^ k else 0)) 0)
  else if 0xC01000 ≤ key ∧ key < 0xC02000 then
    let c := s.channel (key / 256 - 0xC010)
    let sub := key % 256
    if sub = 1 then some c.state
    else if sub = 2 then some c.residue
    else if sub = 3 then some (c.failing + c.direction * 2 ^ 63)
    else if sub = 4 then some c.port.code
    else if sub = 6 then some c.lastStamp
    else none
  else none

/-- The latch, occurrence and stamp entries of a source that cannot occur in AUX, RISE, FALL and LOCKOUT read zero there (R437). -/
def State.sourceSilent (s : State) (key : Nat) : Bool :=
  let sub := key % 256
  decide (0xE00000 ≤ key) && decide (key < 0xE12000) && ((1 ≤ sub && sub ≤ 3) || (0x11 ≤ sub && sub ≤ 0x13)) &&
    (s.mode == modeAux || s.mode == modeRise || s.mode == modeFall || s.mode == modeLockout) && !alwaysOnSource (key / 256 - 0xE000)

/-- The value of a numeric entry as a read returns it. An ACT entry returns the status of its last invocation (R10). -/
def State.read (s : State) (key : Nat) : Nat :=
  if s.sourceSilent key then 0
  else match describe key with
    | none => s.get key
    | some d =>
      if d.access = .act then tgetD 0 key s.mgmt.actionStatus
      else if key % 256 = 0 then s.get key
      else match s.readTranslation key, s.readMedium key, s.readProtection key, s.readManagement key with
        | some v, _, _, _ => v
        | none, some v, _, _ => v
        | none, none, some v, _ => v
        | none, none, none, some v => v
        | none, none, none, none => s.get key

/-- Byte strings that show a record of a table: zeros where the table has none there. -/
def State.readBytes (s : State) (key : Nat) : List Byte :=
  if 0x801101 ≤ key ∧ key < 0x801200 then
    match s.stored.errors[key - 0x801101]? with
    | some e => e.bytes
    | none => List.replicate 32 0
  else if (0x802101 ≤ key ∧ key < 0x802200) ∨ (0x802201 ≤ key ∧ key < 0x802300) then
    let mem : MemKind := if key < 0x802200 then .sram else .dram
    match (s.stored.remap.filter fun e => e.mem == mem)[key % 256 - 1]? with
    | some e => e.bytes
    | none => List.replicate 16 0
  else if key = 0x202005 then
    match (powerRecords s.pow.log).reverse[s.get 0x202004]? with
    | some r => r.bytes
    | none => List.replicate 128 0
  else if key = 0xA00302 then
    match s.newestFirst[s.get 0xA00301]? with
    | some r => r.bytes
    | none => List.replicate 128 0
  else if key = 0xA00303 then (((s.newestFirst.drop (s.get 0xA00301)).take 512).map RecorderRecord.bytes).flatten
  else if key = 0xB04005 then
    match s.obs.samples with
    | r :: _ => r.bytes (Config.freeValue s.draws)
    | [] => []
  else if key = 0x120002 then
    match s.mgmt.changes.reverse with
    | r :: _ => r.bytes
    | [] => List.replicate 64 0
  else if key = 0x120003 then (s.mgmt.changes.map ChangeRecord.bytes).flatten
  else if key = 0x1F0002 then (existingKeys.map descriptorBytes).flatten
  else s.getBytes key

end Sys2Proof.Machine
end

