-- ==== Sys2Proof/Machine/Ops.lean ====
section
/-! DEFINITION. The operations that every chapter shares: what leaves the module, free values, order stamps, performance
counters, MSI-X messages, event logs, notices, the recorder's queues, and the occurrence of an event source. -/

namespace Sys2Proof.Machine

/-! ### Output and free values -/

/-- Send a message. -/
def emit (o : Out) (s : State) : State := { s with out := s.out ++ [o] }

/-- The next free value, and the state with one more drawn. -/
def State.freeNow (s : State) : Nat := Config.freeValue s.draws

def drawn (s : State) : State := { s with draws := s.draws + 1 }

/-! ### Order stamps (R144, R145) -/

/-- The stamp the next acceptance takes. -/
def State.stampNow (s : State) : Nat := s.nextStamp

/-- The highest stamp assigned. -/
def State.highestStamp (s : State) : Nat := s.nextStamp - 1

/-- Take a stamp: each is greater than every earlier one. A stamp never passes the saved ceiling: where it would, ceiling + 2^31 is written
first (R145). -/
def takeStamp (s : State) : State :=
  let s := if s.get 0x405003 < s.nextStamp then s.put 0x405003 (max (s.get 0x405003 + 2147483648) s.nextStamp) else s
  { s with nextStamp := s.nextStamp + 1 }

/-- Take a number in the order of acceptance that R124 compares. -/
def takeSeq (s : State) : State := { s with nextSeq := s.nextSeq + 1 }

/-! ### Performance counters (R493 to R496) -/

def counterKey (n : Nat) : Nat := (0xB100 + n / 128) * 256 + n % 128 + 1
def selectKey (n : Nat) : Nat := (0xB110 + n / 128) * 256 + n % 128 + 1

/-- The number of the counter that a select key belongs to. -/
def selectNumber (key : Nat) : Nat := (key / 256 - 0xB110) * 128 + key % 256 - 1

/-- Whether a select value counts event `code` with qualifier `q`; 31 stands for all (Table — Counter events). -/
def selects (sel code q : Nat) : Bool := sel % 256 == code && (sel / 256 == q || sel / 256 == 31)

/-- The counters whose default select names `code` (R495). -/
def defaultCounters (code q : Nat) : List Nat :=
  if 0x02 ≤ code ∧ code ≤ 0x0A then [code - 2 + 16 * q]
  else if 0x10 ≤ code ∧ code ≤ 0x13 then [code - 7 + 16 * q]
  else if 0x20 ≤ code ∧ code ≤ 0x26 then [64 + 16 * (code - 0x20) + q]
  else if code = 0x01 then [32]
  else if 0x30 ≤ code ∧ code ≤ 0x34 then [33 + code - 0x30]
  else if code = 0x40 then [176 + q]
  else []

/-- The counters, of the 512, that count event `code` with qualifier `q`: those of the default selects, and those whose select entry has
been written. -/
def State.countersFor (s : State) (code q : Nat) : List Nat :=
  let written := (trange 0xB11001 0x400 s.dict).map fun e => selectNumber e.1
  ((defaultCounters code q).filter fun n => !written.contains n) ++ written
    |>.filter fun n => decide (n < 512) && selects (s.get (selectKey n)) code q

/-- The count of a counter word, and its sticky bit (R497). -/
def counterCount (w : Nat) : Nat := w % 2 ^ 48
def counterSticky (w : Nat) : Bool := w.testBit 48

/-- Whether a wrap of counter `n` raises source 123: at most once per second for each counter (R496). -/
def State.wrapDue (s : State) (n : Nat) : Bool :=
  match tfind n s.obs.wrapAt with
  | none => true
  | some t => decide (t + 1000000000 ≤ s.clock)

/-! ### MSI-X (R72, R482) -/

/-- A message can leave on a port: the link is up and out of L1, and READY is high or the module is in HALT, in which
MSI-X keeps working (R78, R483). -/
def State.msiOpen (s : State) (p : Port) : Bool :=
  (s.linkState p == 2 || s.linkState p == 3) && !(s.port p).linkL1 && (s.ready p || s.mode == modeHalt)

/-- Send a message on a vector, or hold it until the port can send it. Port B has no vectors in wide mode. -/
def sendMsi (p : Port) (vector : Nat) (s : State) : State :=
  if p == .b && s.wide then s
  else if s.msiOpen p then emit (.msix p vector) s
  else s.modPort p fun q => { q with heldMsi := q.heldMsi ++ [vector] }

/-! ### Event logs (R73) -/

/-- The log of a severity: 0 Informational, 1 Warning, 2 Failure, 3 Fatal. -/
def logOf (severity : Nat) : Nat :=
  if severity ≤ 1 then 0 else if severity ≤ 4 then 1 else if severity ≤ 6 then 2 else 3

/-- Whether a port's log of a severity has no room: 64 records (R45). -/
def State.logFull (s : State) (p : Port) (severity : Nat) : Bool :=
  decide (64 ≤ (tgetD {} (logOf severity) (s.port p).logs).records.length)

/-- Post a record in a port's log, or count it as overflow. A log that leaves the empty state signals its vector when the
port's interrupt policy selects MSI-X for it (R72). -/
def postRecord (p : Port) (severity : Nat) (r : EventRecord) (s : State) : State :=
  let q := s.port p
  let k := logOf severity
  let log := tgetD {} k q.logs
  if 64 ≤ log.records.length then
    s.setPort p { q with logs := tput k { log with overflow := log.overflow + 1 } q.logs }
  else
    let r := { r with handle := log.nextHandle }
    let log' := { log with records := log.records ++ [r], nextHandle := log.nextHandle + 1 }
    let s := s.setPort p { q with logs := tput k log' q.logs }
    let policy := tgetD 0 k q.policy
    if log.records.isEmpty && policy % 4 == 1 then sendMsi p (policy / 16) s else s

/-! ### Snapshots (R478, R484, R485) -/

/-- Whether the present mode can read an entry (R437). -/
def State.readableNow (s : State) (key : Nat) : Bool :=
  match describe key with
  | none => false
  | some d => !s.responder || s.mode == modeDoze || d.keep != .volatile || alwaysOnEntry key

/-- One snapshot slot: an empty slot or an entry that cannot be read has type code 0 and value zero. -/
def State.snapshotOf (s : State) (key : Nat) : Snapshot :=
  if key = 0 then { key := 0, type := 0, value := 0 }
  else if s.readableNow key then
    match describe key with
    | none => { key := key, type := 0, value := 0 }
    | some d =>
      { key := key, type := d.ty.code,
        value := if d.ty.isBytes then bytesToNat ((s.readBytes key).take 8) else s.read key }
  else { key := key, type := 0, value := 0 }

/-- The snapshot of a source: its first .08 snapshot entries. The band and temperature that source 40 names are those of the
package whose band changed. -/
def State.snapshots (s : State) (src : Nat) : List Snapshot :=
  let base := 0xE00000 + src * 256
  (List.range (min 8 (s.get (base + 0x08)))).map fun i =>
    let key := s.get (base + 0x09 + i) / 256
    s.snapshotOf (if src = 40 ∧ (key = 0x904001 ∨ key = 0x904101) then key + s.therm.bandPackage else key)

/-! ### Notices (R469, R503) -/

/-- Place a notice in the 16-item notice queue; the oldest is removed and counted where it does not fit. Snapshot values
are carried only while unauthenticated reads are permitted. -/
def placeNotice (src severity stamp : Nat) (snaps : List Snapshot) (s : State) : State :=
  let number := (s.get 0x140203 + 1) % 2 ^ 32
  let s := s.put 0x140203 number
  let item : NoticeItem :=
    { number := number, source := src, severity := severity, stamp := stamp, time := s.deviceTime,
      snapshots := if s.get 0x110002 = 1 then snaps else [] }
  let q := s.mgmt.notices ++ [item]
  if q.length ≤ 16 then { s with mgmt := { s.mgmt with notices := q } }
  else { s with mgmt := { s.mgmt with notices := q.drop 1 } }.bump 0x140204

/-- A notice placed now removes an older one. -/
def State.noticeQueueFull (s : State) : Bool := decide (16 ≤ s.mgmt.notices.length)

/-! ### The recorder's queues (R486, R487) -/

/-- Put an occurrence in a queue of `cap` places: when it is full, the newest queued occurrence of the lowest severity gives
way to a higher severity; otherwise the occurrence is dropped. The second component says that one was dropped. -/
def queueRecord (cap : Nat) (r : RecorderRecord) (q : List RecorderRecord) : List RecorderRecord × Bool :=
  if q.length < cap then (q ++ [r], false)
  else
    let lowest := q.foldl (fun m x => min m x.severity) 8
    if r.severity ≤ lowest then (q, true)
    else
      let rev := q.reverse
      let newest := (rev.dropWhile fun x => x.severity != lowest).drop 1
      let after := rev.takeWhile fun x => x.severity != lowest
      (newest.reverse ++ after.reverse ++ [r], true)

/-- Record an occurrence: at most 0xA001.07 of a source per second, severities 6 and 7 exempt; before step 5 of the restore
timeline the responder's queue of 32 takes it, later the queue of 64. -/
def recordOccurrence (r : RecorderRecord) (s : State) : State :=
  let second := s.clock / 1000000000
  let rate := if s.recd.rateSecond = second then s.recd.rate else []
  let seen := tgetD 0 r.source rate
  let s := { s with recd := { s.recd with rateSecond := second, rate := rate } }
  if r.severity < 6 ∧ s.get 0xA00107 ≤ seen then s.bump 0xA00104
  else
    let s := { s with recd := { s.recd with rate := tput r.source (seen + 1) rate } }
    if r.responder then
      let (q, lost) := queueRecord 32 r s.recd.responderQueue
      let s := { s with recd := { s.recd with responderQueue := q } }
      if lost then s.bump 0xA00103 else s
    else
      let (q, lost) := queueRecord 64 r s.recd.queue
      let s := { s with recd := { s.recd with queue := q } }
      if lost then s.bump 0xA00103 else s

/-! ### Occurrences (R479, R482, R483) -/

/-- A routing bit of an occurrence acts: bits 1 to 6 only where the source is not masked. -/
def routes (routing mask bit : Nat) : Bool := routing.testBit bit && mask == 0

/-- AUX, RISE, FALL and LOCKOUT: no port is up, and host routes of an occurrence are discarded (R483). -/
def State.noHosts (s : State) : Bool := s.mode == modeAux || s.mode == modeRise || s.mode == modeFall || s.mode == modeLockout

/-- Key 0xE000.sub of a source. -/
def sourceKey (src sub : Nat) : Nat := 0xE00000 + src * 256 + sub

/-- The recorder's record of the occurrence that a source has just had (R484). -/
def State.recordFor (s : State) (src stamp severity : Nat) (snaps : List Snapshot) : RecorderRecord :=
  { sequence := 0, stamp := stamp, time := s.deviceTime, source := src, severity := severity, mode := s.mode,
    kept := false, circulating := false,
    responder := s.noHosts || (s.mode == modeRestore && decide (s.modes.restoreStep < 5)),
    occurrences := s.get (sourceKey src 0x02) % 65536, snapshots := snaps }

/-- The MSI-X messages of a latch that rises (R482). -/
def latchMsi (src routing mask : Nat) (s : State) : State :=
  let vector := s.get (sourceKey src 0x07)
  let s := if routes routing mask 3 && !s.noHosts then sendMsi .a vector s else s
  if routes routing mask 4 && !s.noHosts then sendMsi .b vector s else s

/-- One occurrence of a source: the latch, counts, stamps and times in one step, then its delivery by the severity, routing
and mask in force. Host routes are discarded in the modes in which no port is up. -/
def occurOnce (src : Nat) (s : State) : State :=
  if !s.canOccur src then s
  else
    let stamp := s.stampNow
    let s := takeStamp s
    let rises := s.get (sourceKey src 0x01) == 0
    let s := if s.get (sourceKey src 0x11) = 0 then s.put (sourceKey src 0x11) stamp else s
    let s := ((s.put (sourceKey src 0x01) 1).bump (sourceKey src 0x02)).put (sourceKey src 0x12) stamp |>.put (sourceKey src 0x13) s.deviceTime
    let severity := s.get (sourceKey src 0x05)
    let routing := s.get (sourceKey src 0x06)
    let mask := s.get (sourceKey src 0x04)
    let snaps := s.snapshots src
    let record : EventRecord :=
      { handle := 0, source := src, severity := severity, stamp := stamp, time := s.deviceTime,
        values := (snaps.take 4).map (·.value) }
    let s := if routes routing mask 1 && !s.noHosts then postRecord .a severity record s else s
    let s := if routes routing mask 2 && !s.noHosts then postRecord .b severity record s else s
    let s := if rises then latchMsi src routing mask s else s
    let s := if routes routing mask 5 then placeNotice src severity stamp snaps s else s
    if routing.testBit 0 then recordOccurrence (s.recordFor src stamp severity snaps) s else s

/-- The sources that the delivery of an occurrence raises in turn: 10 and 22 for a record of another source that a full log
counted as overflow (R474), 135 for a notice that another overwrote. -/
def State.followUps (s : State) (src : Nat) : List Nat :=
  if !s.canOccur src then []
  else
    let routing := s.get (sourceKey src 0x06)
    let mask := s.get (sourceKey src 0x04)
    let severity := s.get (sourceKey src 0x05)
    let logs := !s.noHosts && src != 10 && src != 22
    (if logs && routes routing mask 1 && s.logFull .a severity then [10] else []) ++
    (if logs && routes routing mask 2 && s.logFull .b severity then [22] else []) ++
    (if src != 135 && routes routing mask 5 && s.noticeQueueFull then [135] else [])

/-- Raise a source, with what its delivery raises in turn, to the given depth. -/
def raiseDepth : Nat → Nat → State → State
  | 0, src, s => occurOnce src s
  | n + 1, src, s => (s.followUps src).foldl (fun t k => raiseDepth n k t) (occurOnce src s)

/-- Raise an event source. -/
def raise (src : Nat) (s : State) : State := raiseDepth 2 src s

/-- Raise a source where a condition holds. -/
def raiseIf (c : Bool) (src : Nat) (s : State) : State := if c then raise src s else s

/-- The source of a port: k for Port A, 12 + k for Port B (R474). -/
def portSource (p : Port) (k : Nat) : Nat :=
  match p with
  | .a => k
  | .b => 12 + k

/-- Some unmasked source with routing bit 6 has its latch set (R482). -/
def State.alertDue (s : State) : Bool :=
  (trange 0xE00000 0x12000 s.dict).any fun e =>
    e.1 % 256 == 1 && e.2 == 1 && s.get (e.1 + 3) == 0 && (s.get (e.1 + 5)).testBit 6

/-- ALERT_N is driven low (R482): low in LOCKOUT, not driven in OFF, held through a device reset (R407). -/
def State.alertLow (s : State) : Bool :=
  match s.modes.heldPins with
  | some h => h.alertLow
  | none => s.mode == modeLockout || (s.mode != modeOff && s.alertDue)

/-! ### Counting -/

/-- A counter passes 2^48 − 1: it wraps, sets its sticky bit and raises source 123 at most once per second (R496). -/
def addToCounter (n amount : Nat) (s : State) : State :=
  let w := s.get (counterKey n)
  let total := counterCount w + amount
  if total < 2 ^ 48 then s.put (counterKey n) (w + amount)
  else
    let due := s.wrapDue n
    let s := s.put (counterKey n) (2 ^ 48 + total % 2 ^ 48)
    if due then raise 123 { s with obs := { s.obs with wrapAt := tput n s.clock s.obs.wrapAt } } else s

/-- The modes in which VCORE is on, and the counters run (R493). -/
def State.vcoreOn (s : State) : Bool :=
  !(s.mode == modeOff || s.mode == modeAux || s.mode == modeLockout || s.mode == modeFall)

/-- Count an event: `code` of Table — Counter events with qualifier `q`, `amount` more. -/
def count (code q amount : Nat) (s : State) : State :=
  if s.vcoreOn then (s.countersFor code q).foldl (fun t n => addToCounter n amount t) s else s

/-- Count an event once. -/
def count1 (code q : Nat) (s : State) : State := count code q 1 s

/-! ### Capture episodes (R489) -/

/-- The recorder may not hold more kept records than this, and an episode not more than 256. -/
abbrev keptLimit : Nat := 4096
abbrev episodeLimit : Nat := 256

/-- A capture episode begins, unless one runs: 1 RISE and RESTORE, 2 SERVICE, 3 HALT, 4 rebuild or priority pass. -/
def beginEpisode (kind : Nat) (s : State) : State :=
  match s.recd.episode with
  | some _ => s
  | none => State.put { s with recd := { s.recd with episode := some { kind := kind, kept := 0 } } } 0xA00106 kind

/-- A rebuild or the priority pass runs. -/
def State.recovering (s : State) : Bool := s.get 0x61A002 != 0 || s.get 0x617006 != 0

/-- The episode ends in a serving mode with none of its conditions left: its circulating records become ordinary ones. -/
def endEpisode (s : State) : State :=
  State.put { s with recd := { s.recd with
    episode := none, records := s.recd.records.map fun r => { r with circulating := false } } } 0xA00106 0

/-- The condition that starts an episode in the present mode. -/
def State.episodeKind (s : State) : Option Nat :=
  if s.mode = modeRise then some 1
  else if s.mode = modeService then some 2
  else if s.mode = modeHalt then some 3
  else if s.recovering then some 4
  else none

/-- An episode begins, goes on or ends, as the mode and the media managers now stand. -/
def judgeEpisode (s : State) : State :=
  match s.episodeKind with
  | some kind => beginEpisode kind s
  | none => if s.serving && s.recd.episode.isSome then endEpisode s else s

/-- The ranges of lines that an occurrence of a source names (R34, R290). DESIGN CHOICE (log 174): those of the latest occurrence are kept by
source, since no rule gives the form in which an event names them. -/
def nameLines (src : Nat) (ranges : List (Nat × Nat)) (s : State) : State :=
  { s with recd := { s.recd with named := tput src ranges s.recd.named } }

/-! ### Regions -/

/-- A region's State changes: 0x4060.08 names it at the same instant and source 91 is raised (R194). -/
def setRegionState (r v : Nat) (s : State) : State :=
  if s.get (regionKey r 0x0C) = v then s
  else raise 91 ((s.put (regionKey r 0x0C) v).put 0x406008 (r + v * 256))

/-! ### Mode changes -/

/-- Enter a mode (R392): 0xD001.01 and .02, the start of the time in mode, the capture episode, and source 248. -/
def setMode (m : Nat) (s : State) : State :=
  if s.mode = m then s
  else
    let s := (s.put 0xD00102 s.mode).put 0xD00101 m
    raise 248 (judgeEpisode { s with modes := { s.modes with enteredAt := s.clock } })

/-- A command that the mode does not allow is counted in 0xD001.05 (R409). -/
def refusedByState (s : State) : State := s.bump 0xD00105

end Sys2Proof.Machine
end

