-- ==== Sys2Proof/Machine/Operands.lean ====
section
/-! DEFINITION. The operand forms of host requests: byte enables and merges (R13), the words of a window line (R55), the
device addresses of the windows (Table — DPA layout), and lines built from words. -/

namespace Sys2Proof.Machine

/-- All 64 byte enables set. -/
def fullEnables : ByteEnables := BitVec.allOnes 64

/-- The bit mask of the enabled bytes. -/
def byteMask (be : ByteEnables) : Line :=
  (List.range 64).foldl (fun m i => if be.getLsbD i then m ||| ((0xFF : Line) <<< (8 * i)) else m) 0

/-- The enabled bytes of `new` over `old`: the merge of a partial write (R13). -/
def mergeLine (be : ByteEnables) (old new : Line) : Line := (old &&& ~~~(byteMask be)) ||| (new &&& byteMask be)

/-- Word `w` of a line, 0 to 7. -/
def lineWord (w : Nat) (d : Line) : Word := d.extractLsb' (64 * w) 64

/-- The line whose words are the given ones, word 0 first; missing words are zero. -/
def lineOfWords (ws : List Word) : Line :=
  (ws.zipIdx).foldl (fun (acc : Line) wi => acc ||| ((wi.1.zeroExtend 512 : Line) <<< (64 * wi.2))) (0 : Line)

/-- How many of the byte enables of word `w` are set. -/
def wordEnables (w : Nat) (be : ByteEnables) : Nat :=
  (List.range 8).foldl (fun n i => if be.getLsbD (8 * w + i) then n + 1 else n) 0

/-- The module acts on a word only when all eight of its byte enables are set (R55). -/
def wordComplete (w : Nat) (be : ByteEnables) : Bool := wordEnables w be == 8
def wordPartial (w : Nat) (be : ByteEnables) : Bool := 0 < wordEnables w be && wordEnables w be < 8

/-- The value written to a word that is written completely. -/
def writtenWord (w : Nat) (be : ByteEnables) (d : Line) : Option Word :=
  if wordComplete w be then some (lineWord w d) else none

/-- Bits [hi:lo] of a word as a number. -/
def bits (hi lo : Nat) (w : Word) : Nat := w.toNat / 2 ^ lo % 2 ^ (hi - lo + 1)

/-- What a window address reaches (Table — DPA layout, Table — Coordination aliases, R59, R64, R65). -/
inductive WindowTarget where
  | groupLine (g : Nat)
  | cell (aliasNo cell : Nat)
  | portPage (owner : Port) (offset : Nat)
  | counters (lineIndex : Nat)
  | dma (ch offset : Nat)
  | unused
  deriving DecidableEq, Repr

/-- The target of a line-aligned window address; slots are 256 MiB, and only the start of each is used. -/
def windowTarget (dpa : Nat) : WindowTarget :=
  let off := dpa - 0x040000000000
  let slot := off / 0x10000000
  let o := off % 0x10000000
  if slot = 0 then (if o < 0x1000000 then .groupLine (o / 64) else .unused)
  else if slot = 1 then (if o < 0x400000 then .cell (o / 0x100000) (o % 0x100000 / 64) else .unused)
  else if slot = 2 then
    (if o < 0x10000 then .portPage .a o else if o < 0x20000 then .portPage .b (o - 0x10000) else .unused)
  else if slot = 3 then (if o < 0x1000 then .counters (o / 64) else .unused)
  else if slot = 4 then (if o < 0x10000 then .dma (o / 0x1000) (o % 0x1000) else .unused)
  else .unused

/-- The DPA of a group's control line, of a cell in an alias, of a line of a port's page, of a DMA channel's line. -/
def groupDpa (g : Nat) : Nat := 0x040000000000 + 64 * g
def cellDpa (aliasNo c : Nat) : Nat := 0x040010000000 + 0x100000 * aliasNo + 64 * c
def portPageDpa (p : Port) (offset : Nat) : Nat := 0x040020000000 + 0x10000 * p.code + offset
def dmaDpa (ch offset : Nat) : Nat := 0x040040000000 + 0x1000 * ch + offset

end Sys2Proof.Machine
end

