-- ==== Sys2Proof/Machine/Lookup.lean ====
section
/-! DEFINITION. The value of a line: the versions the structures hold and which of them a reader takes (R85, R87, R170),
and the two cache levels (R171 to R178). -/

namespace Sys2Proof.Machine

/-- A version of a line as a reader gets it: the data, its poison mark, its order stamp (0 for a page never written), and
where it was found, with the outcome codes of Table — Sample record. -/
structure Version where
  data : Line
  poison : Bool
  stamp : Nat
  found : Nat
  unit : Nat := 0
  deriving DecidableEq, Repr

/-- The version with another stamp: a committed provisional line ranks by its commit stamp (R131). -/
def Version.ranked (v : Version) (stamp : Nat) : Version := { v with stamp := stamp }

/-- Outcome codes of Table — Sample record. -/
abbrev foundQueue : Nat := 0
abbrev foundStaging : Nat := 1
abbrev foundLevelOne : Nat := 2
abbrev foundLevelTwo : Nat := 3
abbrev foundLog : Nat := 4
abbrev foundPage : Nat := 5
abbrev foundZeros : Nat := 6

/-- A line of a poisoned range reads poisoned unless its version is younger than the range (R333). -/
def State.rangePoisons (s : State) (line stamp : Nat) : Bool :=
  s.integ.poisonedRanges.any fun r => decide (r.1 ≤ line) && decide (line < r.1 + r.2.1) && decide (stamp ≤ r.2.2)

/-- A poisoned version reads zeros (R66). -/
def State.withRange (s : State) (line : Nat) (v : Version) : Version :=
  if v.poison || s.rangePoisons line v.stamp then { v with data := 0, poison := true } else v

/-- The staged version of a line with a group number, or without one. -/
def State.stagedOf (s : State) (line : Nat) (grp : Option Nat) : Option Staged :=
  s.staging.find? fun l => l.line == line && l.grp == grp

/-- The version in a log place. -/
def State.logVersion (s : State) (line place : Nat) : Option Version :=
  (s.logLine place).map fun l =>
    { data := s.openLine line l.sealed l.cipher, poison := l.poison, stamp := l.stamp, found := foundLog,
      unit := s.unitOfPlace place }

/-- The version in an ML slot: a line that the slot does not list is zeros. -/
def State.pageVersion (s : State) (line mapValue : Nat) : Option Version :=
  (tfind mapValue s.med.ml).map fun sl =>
    match tfind (line % 64) sl.lines with
    | none => { data := 0, poison := false, stamp := 0, found := foundPage, unit := unitOfMap mapValue }
    | some l =>
      { data := s.openLine line l.sealed l.cipher, poison := l.poison, stamp := l.stamp, found := foundPage,
        unit := unitOfMap mapValue }

/-- The committed version on the medium: the delta entry's copy, then the main map's, then zeros (R150, R147). -/
def State.mediumVersion (s : State) (line : Nat) : Version :=
  let zeros : Version := { data := 0, poison := false, stamp := 0, found := foundZeros }
  match s.deltaOf line none with
  | some d => ((s.logVersion line d.place).getD zeros).ranked d.stamp
  | none =>
    match s.mapOf (pageOfLine line) with
    | some v => (s.pageVersion line v).getD zeros
    | none => zeros

/-- A poisoned range that every line of has been rewritten since is removed; a range is examined line by line. A provisional version that is
older than the range keeps it, since that version still reads poisoned. -/
def State.rangeLive (s : State) (r : Nat × Nat × Nat) : Bool :=
  (List.range r.2.1).any fun i =>
    let line := r.1 + i
    let stamp := match s.stagedOf line none with
      | some l => l.stamp
      | none => (s.mediumVersion line).stamp
    decide (stamp ≤ r.2.2) || (s.staging.any fun l => l.line == line && l.grp.isSome && decide (l.stamp ≤ r.2.2)) ||
      s.xlat.delta.any fun d => d.line == line && d.grp.isSome && decide (d.stamp ≤ r.2.2)

/-- Remove the poisoned ranges around a line that have been rewritten whole. -/
def pruneRanges (line : Nat) (s : State) : State :=
  let stays := fun (r : Nat × Nat × Nat) => !(decide (r.1 ≤ line) && decide (line < r.1 + r.2.1)) || s.rangeLive r
  { s with integ := { s.integ with poisonedRanges := s.integ.poisonedRanges.filter stays } }

/-- The committed version of a line (R85, R170 steps 3 and 6): the caches hold the same values (R172, R173). -/
def State.committed (s : State) (line : Nat) : Version :=
  s.withRange line <|
    match s.stagedOf line none with
    | some l => { data := l.data, poison := l.poison, stamp := l.stamp, found := foundStaging }
    | none => s.mediumVersion line

/-- The provisional version of a line in a group, if it has one (R129, R150). -/
def State.provisional (s : State) (g line : Nat) : Option Version :=
  match s.stagedOf line (some g) with
  | some l => some (s.withRange line { data := l.data, poison := l.poison, stamp := l.stamp, found := foundStaging })
  | none =>
    match s.xlat.delta.find? fun d => d.line == line && d.grp == some g with
    | some d => (s.logVersion line d.place).map fun v => s.withRange line (v.ranked d.stamp)
    | none => none

/-- What a port reads of a line that it has no queued store to: its group's provisional version, else the committed one. -/
def State.visibleTo (s : State) (p : Port) (line : Nat) : Version :=
  match s.ownedGroup p (pageOfLine line) with
  | none => s.committed line
  | some g => (s.provisional g line).getD (s.committed line)

/-- The newest store to a line in a port's ingress queue (R87). -/
def State.newestQueued (s : State) (p : Port) (line : Nat) : Option Store :=
  (s.port p).queue.reverse.find? fun x => x.line == line

/-- A store that replaces the whole line: all byte enables, or poison (R67). -/
def Store.whole (x : Store) : Bool := x.poison || x.be == fullEnables

/-! ### Caches -/

/-- Sets of the two levels (Table — Cache and staging geometry). -/
def levelOneSet (block : Nat) : Nat := block % 4096
def levelTwoSet (block : Nat) : Nat := block % 2097152

/-- One step of the 32-bit Galois register with polynomial x^32 + x^22 + x^2 + x + 1 (R174), shifting toward bit 0;
DESIGN CHOICE (log 20): the rule does not say which way it shifts. -/
def lfsrStep (v : BitVec 32) : BitVec 32 := if v.getLsbD 0 then (v >>> 1) ^^^ 0x80200003 else v >>> 1

/-- The block of a level for an address, if it holds a valid line. DESIGN CHOICE (log 155): a block with no valid line holds nothing, so it
is no block "for the same address" of R176. -/
def findBlock (c : List CacheBlock) (block : Nat) : Option CacheBlock := c.find? fun b => b.block == block && b.valid != 0

/-- A valid copy of a line in a cache. -/
def cacheHas (c : List CacheBlock) (line : Nat) : Option CacheBlock :=
  c.find? fun b => b.block == blockOfLine line && b.valid.getLsbD (line % 4)

/-- The cached copy of a line. -/
def CacheBlock.version (b : CacheBlock) (line found : Nat) : Version :=
  { data := if b.poison.getLsbD (line % 4) then 0 else b.data.getD (line % 4) 0, poison := b.poison.getLsbD (line % 4),
    stamp := 0, found := found }

/-- Clear the valid bit of one line. -/
def CacheBlock.invalidate (b : CacheBlock) (line : Nat) : CacheBlock :=
  { b with valid := b.valid &&& ~~~((1 : BitVec 4) <<< (line % 4)) }

/-- Replace one line's copy. -/
def CacheBlock.update (b : CacheBlock) (line : Nat) (d : Line) (poison : Bool) : CacheBlock :=
  let m := (1 : BitVec 4) <<< (line % 4)
  { b with data := b.data.set (line % 4) d, poison := if poison then b.poison ||| m else b.poison &&& ~~~m }

/-- Make a line's copy in a cache not valid. -/
def dropLine (line : Nat) (c : List CacheBlock) : List CacheBlock :=
  c.map fun b => if b.block == blockOfLine line then b.invalidate line else b

/-- Update a line's valid copy in a cache, if there is one. -/
def updateLine (line : Nat) (d : Line) (poison : Bool) (c : List CacheBlock) : List CacheBlock :=
  c.map fun b => if b.block == blockOfLine line && b.valid.getLsbD (line % 4) then b.update line d poison else b

/-- Remove every block that holds a line of a range from both levels (R178). -/
def dropCachedBlocks (first n : Nat) (s : State) : State :=
  let away := fun (b : CacheBlock) => decide (b.block * 4 + 3 < first) || decide (first + n ≤ b.block * 4)
  { s with l1 := s.l1.filter away, l2 := s.l2.filter away }

/-- Make every cached copy of a range of lines not valid. -/
def dropCachedRange (first n : Nat) (s : State) : State :=
  let drop := fun (b : CacheBlock) =>
    (List.range 4).foldl
      (fun b i => let line := b.block * 4 + i
                  if first ≤ line ∧ line < first + n then b.invalidate line else b) b
  { s with l1 := s.l1.map drop, l2 := s.l2.map drop }

/-- Make both cached copies of a line not valid. -/
def dropCached (line : Nat) (s : State) : State := { s with l1 := dropLine line s.l1, l2 := dropLine line s.l2 }

/-- What a committed store does to the cached copies (Table — Write modes): level one is updated and level two made not
valid, or both made not valid in no-allocate mode. -/
def storeToCaches (wmode line : Nat) (d : Line) (poison : Bool) (s : State) : State :=
  if wmode = 2 then dropCached line s
  else { s with l1 := updateLine line d poison s.l1, l2 := dropLine line s.l2 }

/-- The lowest-numbered of `ways` ways of a set that holds no valid line (R174). -/
def freeWay (set : Nat → Nat) (ways block : Nat) (c : List CacheBlock) : Option Nat :=
  (List.range ways).find? fun w => !(c.any fun b => set b.block == set block && b.way == w && b.valid != 0)

/-- The block in a way of a set. -/
def blockInWay (set : Nat → Nat) (block way : Nat) (c : List CacheBlock) : Option CacheBlock :=
  c.find? fun b => set b.block == set block && b.way == way

/-- Put a block in its way, replacing what is there. -/
def putBlock (set : Nat → Nat) (n : CacheBlock) (c : List CacheBlock) : List CacheBlock :=
  c.filter (fun b => !(b.block == n.block) && !(set b.block == set n.block && b.way == n.way)) ++ [n]

/-- Place a block in level two; its victim is dropped (R174, R176). DESIGN CHOICE (log 154): a block that the level already holds with a
valid line is replaced whole, in its way. -/
def installTwo (n : CacheBlock) (s : State) : State :=
  match findBlock s.l2 n.block with
  | some b => { s with l2 := putBlock levelTwoSet { n with way := b.way } s.l2 }
  | none =>
    match freeWay levelTwoSet 8 n.block s.l2 with
    | some w => { s with l2 := putBlock levelTwoSet { n with way := w } s.l2 }
    | none =>
      let r := lfsrStep s.lfsr2
      { s with lfsr2 := r, l2 := putBlock levelTwoSet { n with way := r.toNat % 8 } s.l2 }

/-- Offer a block evicted from level one to level two (R176). How full the level-two write queue is, is a free value. -/
def offerVictim (v : CacheBlock) (s : State) : State :=
  let s := s.bump 0x407005
  let attr := s.lineAttr (v.block * 4) 0x06
  let queueFill := s.freeNow % 101
  let s := drawn s
  if (findBlock s.l2 v.block).isSome || attr == 0 || attr == 1 || decide (s.get 0x40700C < queueFill) || v.valid == 0 then
    s.bump 0x407006
  else installTwo v s

/-- Place a block in level one (R174); an evicted block is offered to level two. DESIGN CHOICE (log 154): a block that the level already
holds with a valid line is replaced whole, in its way. -/
def installOne (n : CacheBlock) (s : State) : State :=
  match findBlock s.l1 n.block with
  | some b => { s with l1 := putBlock levelOneSet { n with way := b.way } s.l1 }
  | none =>
    match freeWay levelOneSet 16 n.block s.l1 with
    | some w => { s with l1 := putBlock levelOneSet { n with way := w } s.l1 }
    | none =>
      let r := lfsrStep s.lfsr1
      let w := r.toNat % 16
      let victim := blockInWay levelOneSet n.block w s.l1
      let s := { s with lfsr1 := r, l1 := putBlock levelOneSet { n with way := w } s.l1 }
      match victim with
      | some v => offerVictim v s
      | none => s

/-- Install a fill where the read allocate attribute puts it (R175). DESIGN CHOICE (log 154): a fill replaces the whole block, so that of a
log sector, which brings one line, leaves the others not valid. -/
def installFill (attr : Nat) (n : CacheBlock) (s : State) : State :=
  if attr = 0 then s else if attr = 2 then installTwo n s else installOne n s

/-- The block a fill from an ML page or the log brings: a line is valid when its current committed copy lies in the sector
read and no store to it came since (R173). `same` tells which lines the sector holds. -/
def State.fillBlock (s : State) (block : Nat) (same : Nat → Bool) : CacheBlock :=
  let lines := (List.range 4).map fun i => block * 4 + i
  let good := lines.map fun l => same l && (s.stagedOf l none).isNone
  let vs := lines.map fun l => s.committed l
  { block := block, way := 0,
    valid := (good.zipIdx).foldl (fun m gi => if gi.1 then m ||| ((1 : BitVec 4) <<< gi.2) else m) 0,
    poison := (vs.zipIdx).foldl (fun m vi => if vi.1.poison then m ||| ((1 : BitVec 4) <<< vi.2) else m) 0,
    data := vs.map (·.data) }

end Sys2Proof.Machine
end

