-- ==== Sys2Proof/Machine/Units.lean ====
section
/-! DEFINITION. Programs on units: disturb counts (R226), cycles and life (R219, R268), the records that follow (R270), the threshold shift
of a page (R272), and the rows of the journal, checkpoint and save rings (R238, R244). -/

namespace Sys2Proof.Machine

/-- A health bit changes: source 247. -/
def noteHealth (s : State) : State :=
  let h := s.healthBits
  if s.med.health = h then s else raise 247 { s with med := { s.med with health := h } }

/-- Equivalent age accumulator of a package in ms (0x6161), and its temperature band (0x9040). -/
def State.packageAge (s : State) (c : Nat) : Nat := s.get (packageAgeKey c)
def State.packageBand (s : State) (c : Nat) : Nat := s.get (packageBandKey c)

/-- A record is created: it stands in the journal tail with its stamp (R144). -/
def appendRecord (k : JournalKind) (s : State) : State :=
  let stamp := s.stampNow
  let s := takeStamp s
  { s with xlat := { s.xlat with journal := s.xlat.journal ++ [{ stamp := stamp, kind := k }] } }

/-- Programs made in a unit's cluster. -/
def State.clusterCount (s : State) (u : Nat) : Nat := tgetD 0 (clusterOfUnit u) s.med.clusterPrograms

/-- The disturb count of a unit (R226, R268): the programs of its cluster since its own last program or reset, saturating. -/
def State.disturbCount (s : State) (u : Nat) : Nat := min 65535 (s.clusterCount u - (s.unit u).disturbBase)

/-- The record of a unit as RESTORE rebuilds it (R270): what its UNIT_STATE records and page footers do not carry stands as the last image has it,
the calibration and the disturb count as long as no reset or program has followed. DEDUCED (log 181): the interpolated equivalent ages are
those of its programs. -/
def State.rebuiltUnit (s : State) (u : Nat) : UnitRec :=
  let r := s.unit u
  let i := tgetD (initialUnit u) u s.med.unitImage
  let shown := tgetD 0 (clusterOfUnit u) s.med.imagePrograms - i.disturbBase
  let idle := i.resetStamp == r.resetStamp && i.lastTime == r.lastTime
  { r with
    calibration := if i.resetStamp = r.resetStamp then i.calibration else 0, corrected := i.corrected, visited := i.visited,
    visitStamp := i.visitStamp, disturbBase := s.clusterCount u - (if idle then shown else 0) }

/-- Every unit record is rebuilt (R270). -/
def restoreUnits (s : State) : State := s.med.units.foldl (fun t e => t.setUnit e.1 (s.rebuiltUnit e.1)) s

/-- The disturb counts of a cluster after `n` programs of one of its units, or its reset where `n` is 0 (R226): those of the other 31 rise,
the unit's own is cleared. -/
def disturb (u n : Nat) (s : State) : State :=
  let total := s.clusterCount u + n
  let s := s.setUnit u { s.unit u with disturbBase := total }
  { s with med := { s.med with clusterPrograms := tset 0 (clusterOfUnit u) total s.med.clusterPrograms } }

/-- A unit has completed `n` cycles in its cell mode. -/
def addCycles (u n : Nat) (s : State) : State :=
  let r := s.unit u
  s.setUnit u { r with cycles := r.cycles + n, lifeUsed := r.lifeUsed + n * cycleLife r.cellMode }

/-- A unit whose life used has reached 1 is worn (R269): its record, source 240 and its counts. -/
def wearOut (u : Nat) (s : State) : State :=
  let r := s.unit u
  if 300000000 ≤ r.lifeUsed ∧ r.state < 3 then
    let s := appendRecord (.unitState u 4 r.cellMode) (s.setUnit u { r with state := 4 })
    noteHealth (raise 240 ((s.bump 0x619004).bump (dieKey (dieOfUnit u) 0x02)))
  else s

/-- The record of a unit that has been programmed at a page, in a band (R268). -/
def State.recordAt (s : State) (u page band : Nat) : UnitRec :=
  let r := s.unit u
  let age := s.packageAge (channelOfUnit u)
  let r := match r.lastPage with
    | none => { r with
        firstTime := s.deviceTime, firstStamp := s.nextStamp, firstAge := age, band := band, hottest := max r.hottest band }
    | some _ => r
  { r with lastPage := some page, lastTime := s.deviceTime, lastAge := age }

/-- `n` SL sector programs on a unit have ended, the last of them in a page: 8,192 of them are a cycle (R219). -/
def sectorsProgrammed (u n page : Nat) (s : State) : State :=
  if n = 0 then s
  else
    let s := disturb u n (count 0x21 (channelOfUnit u) n s)
    let r := s.recordAt u page (s.packageBand (channelOfUnit u))
    let s := s.setUnit u { r with slPrograms := r.slPrograms + n }
    wearOut u (addCycles u ((r.slPrograms + n) / 8192 - r.slPrograms / 8192) s)

/-! ### Ages (R271, R275) -/

/-- The bits of a root from bit `b` down, added to `acc` where its power stays within `v`. -/
def rootBits (k v : Nat) : Nat → Nat → Nat
  | 0, acc => acc
  | b + 1, acc => rootBits k v b (if (acc + 2 ^ b) ^ k ≤ v then acc + 2 ^ b else acc)

/-- The whole part of the `k`-th root of a number. -/
def floorRoot (k v : Nat) : Nat := rootBits k v (Nat.log2 v / k + 1) 0

/-- The `k`-th root of a fraction as a whole number: exact where it is one; else which of the two next to it is a free value, since the rules give
no rounding (log 185). -/
def rootOf (k num den : Nat) : Nat :=
  let n := floorRoot k (num / den)
  if n ^ k * den = num then n else n + Config.roundsUp k num den % 2

/-- The equivalent age in ms that an 8 ms slow round at `t` °C adds (R271): 8 × 2^((t − 25) / 10), the tenth root of 2^(t + 5). -/
def roundAge (t : Int) : Nat := rootOf 10 (2 ^ (t + 5).toNat) (2 ^ (-(t + 5)).toNat)

/-- The equivalent age in ms of a measured bank shift in hundredths of a level spacing (R275): 1000 × 10^(shift / 0.09). -/
def meterAge (shift : Nat) : Nat := rootOf 9 (10 ^ (27 + shift)) 1

/-- The off interval in ns of an equivalent age in ms at an assumed storage temperature (R275): ms / 2^((t − 25) / 10) × 10^6. -/
def offInterval (ms : Nat) (t : Int) : Nat := rootOf 10 ((ms * 1000000) ^ 10 * 2 ^ (25 - t).toNat) (2 ^ (t - 25).toNat)

/-! ### The drift model (R272) -/

/-- The upward shift in steps of 1/64 level spacing before calibration: round(64 × s × log10(max(e, 1000) / 1000)) for an age of e
ms, at most 88, which no calibration of -8 or more brings under the greatest shift of 80. With 64 × s = k / 100 the value n is reached where ((e / 1000)^k)^2 ≥ 10^(100 × (2 n − 1)), which integers
decide exactly. -/
def driftSteps (bits e : Nat) : Nat :=
  let k := if bits = 4 then 576 else if bits = 3 then 384 else 256
  ((List.range 88).filter fun i => decide (10 ^ (100 * (2 * i + 1)) * 1000 ^ (2 * k) ≤ max e 1000 ^ (2 * k))).length

/-- The package's equivalent age when a page was programmed: linear in page order between the record's first and last program. DESIGN CHOICE
(log 184): the interpolated age is rounded down. -/
def UnitRec.pageAge (r : UnitRec) (page : Nat) : Nat :=
  match r.lastPage with
  | some last => if last = 0 then r.firstAge else r.firstAge + (r.lastAge - r.firstAge) * page / last
  | none => r.firstAge

/-- The steps by which a page's thresholds are shifted to read it: the drift of its age and the calibration correction, from 0 to 80. SL
sectors are read at fixed thresholds. -/
def State.thresholdSteps (s : State) (u page : Nat) : Int :=
  let r := s.unit u
  if r.cellMode = 1 then 0
  else min 80 (max 0 ((driftSteps r.cellMode (s.packageAge (channelOfUnit u) - r.pageAge page) : Int) + r.calibration))

/-! ### Rows of the rings -/

/-- The rows that `n` sectors take, in a ring whose rows hold one on each of `d` members. -/
def rowsFor (n d : Nat) : Nat := (n + d - 1) / d

/-- `n` programs of `bytes` bytes each that a step runs to their end on a unit: their data crosses its channel in chunks (R230), and they show in
the highest tokens and package current in use (R231, R241). -/
def programsRun (kind : OpKind) (u n bytes : Nat) (s : State) : State :=
  if n = 0 then s
  else
    let ch := channelOfUnit u
    let s := count 0x26 ch (n * ((bytes + 511) / 512)) (s.addTo (channelKey ch 0x01) (n * bytes))
    (s.raiseTo 0x611003 (s.tokensUsed + kind.tokens)).raiseTo (channelKey ch 0x03) (s.packageCurrent ch + kind.current)

/-- `n` sectors of a ring are programmed on a unit, the last of them in a page. -/
def ringSectorsOn (u n page : Nat) (s : State) : State := sectorsProgrammed u n page (programsRun .sl u n 268 s)

/-- `n` sectors go to consecutive rows of one stripe, from `row` on, a sector on each data member in turn, and with each row its parity sector; save units
have no parity and hold data in every member (R238). No member that is retired or whose die has left service takes one (R239, R285, R288). -/
def stripeSectors (r : Ring) (stripe row n : Nat) (s : State) : State :=
  let save := r == .save
  let data := if save then s.writeMembers stripe else s.writeData stripe
  let d := data.length
  let page := (row + rowsFor n d - 1) % 8192 / 16
  let s := (data.zipIdx).foldl (fun t ci =>
    ringSectorsOn (unitOf stripe ci.1) (n / d + if ci.2 < n % d then 1 else 0) page t) s
  if save then s else ringSectorsOn (unitOf stripe (s.writeParity stripe)) (rowsFor n d) page s

/-- The stripe of a ring's row. -/
def State.stripeOfRow (s : State) (r : Ring) (row : Nat) : Nat := s.ringStripe r (row / 8192 % ringSize r)

/-- Program sectors from a row of a ring on, at most `stripes` stripes of it; those past the end of a stripe go to the next. -/
def ringSectors (r : Ring) : Nat → Nat → Nat → State → State
  | 0, _, _, s => s
  | stripes + 1, row, n, s =>
    if n = 0 then s
    else
      let here := min n ((8192 - row % 8192) * (if r == .save then 16 else 15))
      ringSectors r stripes ((row / 8192 + 1) * 8192) (n - here) (stripeSectors r (s.stripeOfRow r row) row here s)

/-- Program `n` sectors from a row of a ring on. -/
def ringProgram (r : Ring) (row n : Nat) (s : State) : State := ringSectors r (n / 122880 + 2) row n s

/-- `n` sectors are written to the checkpoint area, in rows that close with them. -/
def checkpointSectors (n : Nat) (s : State) : State :=
  let t := ringProgram .checkpoint s.xlat.checkpointRows n s
  { t with xlat := { t.xlat with checkpointRows := t.xlat.checkpointRows + rowsFor n 15 } }

/-- Sectors of 256 bytes that some bytes take. -/
def sectorsOf (bytes : Nat) : Nat := (bytes + 255) / 256

/-- Length of a checkpoint in sectors (R154): a 64-byte header, 1,024 map entries of 4 bytes, 8 bytes for each committed delta entry and 16
for each provisional one with its companion. -/
def Checkpoint.sectors (c : Checkpoint) : Nat := sectorsOf (64 + 4096 + 8 * c.deltas.length + 16 * c.provisional.length)

end Sys2Proof.Machine
end

