-- ==== Sys2Proof/Machine/MediaRecords.lean ====
section
/-! DEFINITION. What the medium and the maps hold, byte by byte (R7): main map and delta map entries (R147, R149), journal, integrity,
checkpoint and directory sectors (R152 to R157, R315), the save image (R158, R321), ML pages with their footers and parity (R221, R222,
R236), log sectors (R223, R224), and unit records (R268). -/

namespace Sys2Proof.Machine

/-- A field of `width` bits from bit `at_` on. -/
def field (at_ width v : Nat) : Nat := v % 2 ^ width * 2 ^ at_

/-! ### Maps -/

/-- A main map entry (Table — Main map entry): the place, and the bound mark of a page bound to a write group (R125). -/
def State.mainEntry (s : State) (page : Nat) : Nat :=
  field 0 31 ((tfind page s.xlat.mainMap).getD 0x7FFFFFFF) + field 31 1 (if (s.boundGroup page).isSome then 1 else 0)

/-- The log sector number of a log place: [26:13] log slot, [12:0] sector within the unit (R149, R243). -/
def State.logSector (s : State) (place : Nat) : Nat :=
  let mark := place / 45
  (logIndexOfMark mark * 16 + s.channelOfPlace place) * 8192 + mark % 8192

/-- The line key of a line: bits [35:25] of its permuted number. -/
def lineKey (line : Nat) : Nat := Config.deltaPermutation line / 2 ^ 25 % 2048

/-- The words of a delta entry (Table — Delta map entry): a committed one, or a provisional one with its companion. -/
def State.deltaWords (s : State) (d : Delta) : List (BitVec 64) :=
  let sector := s.logSector d.place
  let body := field 3 11 (lineKey d.line) + field 14 14 sector + field 28 7 (sector / 2 ^ 14) + field 35 6 (sector / 2 ^ 21) +
    field 41 2 (d.place % 45 % 3) + field 43 21 d.stamp
  let tag := d.tag.getD 0
  if d.grp.isSome then
    [BitVec.ofNat 64 (2 + body),
     BitVec.ofNat 64 (3 + field 3 11 tag + field 14 14 (tag / 2 ^ 11) + field 28 7 (tag / 2 ^ 25))]
  else [BitVec.ofNat 64 (1 + body)]

/-- A link to an overflow bucket. -/
def linkWord (bucket : Nat) : BitVec 64 := BitVec.ofNat 64 (4 + field 3 11 bucket + field 14 14 (bucket / 2 ^ 11))

/-- The slots of a bucket up to `cap` that the first of some entries take, a pair from an even slot on, and the entries left. -/
def fillSlots (cap : Nat) : List (BitVec 64) → List (List (BitVec 64)) → List (BitVec 64) × List (List (BitVec 64))
  | acc, [] => (acc, [])
  | acc, i :: t =>
    let next := if i.length = 2 ∧ acc.length % 2 = 1 then acc ++ [0] else acc
    if next.length + i.length ≤ cap then fillSlots cap (next ++ i) t else (acc, i :: t)

/-- Slots padded with empty ones. -/
def padSlots (n : Nat) (l : List (BitVec 64)) : List (BitVec 64) := l ++ List.replicate (n - l.length) 0

/-- A chain of buckets that holds some entries: eight slots each, slot 7 linking to the next. -/
def bucketChain (link : Nat → Nat) : Nat → Nat → List (List (BitVec 64)) → List (List (BitVec 64))
  | 0, _, _ => []
  | fuel + 1, k, items =>
    let whole := fillSlots 8 [] items
    if whole.2.isEmpty then [padSlots 8 whole.1]
    else
      let part := fillSlots 7 [] items
      (padSlots 7 part.1 ++ [linkWord (link k)]) :: bucketChain link fuel (k + 1) part.2

/-- The buckets of a home bucket: the home bucket, then its overflow buckets. DESIGN CHOICE (log 165): prompt-region entries come first, so
that they lie in the home bucket (R205), and pairs before single entries. -/
def State.buckets (s : State) (home : Nat) : List (List (BitVec 64)) :=
  let here := s.xlat.delta.filter fun d => Config.deltaPermutation d.line % 33554432 == home
  let prompt := fun (d : Delta) => s.lineAttr d.line 0x04 == 1
  let pick := fun (p pair : Bool) => here.filter fun d => prompt d == p && d.grp.isSome == pair
  let items := (pick true true ++ pick true false ++ pick false true ++ pick false false).map s.deltaWords
  bucketChain (Config.overflowBucket home) (items.length + 1) 0 items

/-! ### The journal (R152, R153) -/

/-- The type code of a record. -/
def JournalKind.code : JournalKind → Nat
  | .mapSet .. => 0x01
  | .discard .. => 0x02
  | .logUnit .. => 0x03
  | .logTrim .. => 0x04
  | .unitState .. => 0x05
  | .groupOpen .. => 0x10
  | .groupBind .. => 0x11
  | .groupCommit .. => 0x12
  | .groupAbort .. => 0x13
  | .groupRelease .. => 0x14
  | .checkpoint .. => 0x20
  | .directory .. => 0x21
  | .timeSet .. => 0x30

/-- The type codes that are assigned: replay takes a record with any other as torn. -/
def assignedType (code : Nat) : Bool :=
  [0x01, 0x02, 0x03, 0x04, 0x05, 0x10, 0x11, 0x12, 0x13, 0x14, 0x20, 0x21, 0x30].contains code

/-- Argument A of a record. -/
def JournalKind.argA : JournalKind → Nat
  | .mapSet page _ _ _ => page % 2 ^ 30
  | .discard port _ _ _ => port % 2
  | .logUnit slot _ _ => slot % 2 ^ 14
  | .unitState unit _ _ => unit % 2 ^ 20
  | .groupOpen tag _ _ _ => tag
  | .groupBind tag _ _ => tag
  | .groupCommit tag _ _ => tag
  | .groupAbort tag _ _ => tag
  | .groupRelease tag => tag
  | .checkpoint segment _ _ => segment % 2 ^ 20
  | _ => 0

/-- Argument B of a record, 16 bytes. DEDUCED (log 195): the U32 log mark of DISCARD is the low 32 bits of the row mark, as R244 says of 32-bit fields. -/
def JournalKind.argB (k : JournalKind) : List Byte :=
  padTo 16 (match k with
    | .mapSet _ new old cause => natToBytes 4 new ++ natToBytes 4 old ++ natToBytes 1 cause
    | .discard _ first pages mark => natToBytes 4 first ++ natToBytes 4 pages ++ natToBytes 4 mark
    | .logUnit _ unit action => natToBytes 4 unit ++ natToBytes 1 action
    | .logTrim mark => natToBytes 8 mark
    | .unitState _ state mode => natToBytes 1 state ++ natToBytes 1 mode
    | .groupOpen _ owner override limit => natToBytes 1 owner ++ natToBytes 1 override ++ natToBytes 2 0 ++ natToBytes 4 limit
    | .groupBind _ first pages => natToBytes 4 first ++ natToBytes 4 pages
    | .groupCommit _ openStamp lines => natToBytes 8 openStamp ++ natToBytes 4 lines
    | .groupAbort _ cause lines => natToBytes 1 cause ++ natToBytes 3 0 ++ natToBytes 4 lines
    | .groupRelease _ => []
    | .checkpoint _ location stamp => natToBytes 8 location ++ natToBytes 8 stamp
    | .directory location stamp => natToBytes 8 location ++ natToBytes 8 stamp
    | .timeSet old new => natToBytes 8 old ++ natToBytes 8 new)

/-- A journal record: one slot of 32 bytes, which every type's arguments fit. -/
def JournalRec.bytes (r : JournalRec) : List Byte :=
  natToBytes 1 r.kind.code ++ natToBytes 1 1 ++ natToBytes 2 0 ++ natToBytes 4 r.kind.argA ++ natToBytes 8 r.stamp ++ r.kind.argB

/-- A journal sector of up to seven records. -/
def journalSector (sequence : Nat) (l : List JournalRec) : List Byte :=
  let edge := fun (r : Option JournalRec) => match r with
    | some x => x.stamp
    | none => 0
  withCrc (natToBytes 8 (edge l.head?) ++ natToBytes 4 sequence ++ natToBytes 2 l.length ++ natToBytes 2 0 ++
    padTo 224 (l.map JournalRec.bytes).flatten ++ natToBytes 8 (edge l.getLast?) ++ natToBytes 4 0)

/-- The programmed journal sector with a sequence number. -/
def State.journalSectorAt (s : State) (n : Nat) : List Byte :=
  journalSector n (s.xlat.journal.filter fun r => r.programmed && r.sector == n)

/-! ### Integrity sectors (R315) -/

/-- The two words of an integrity entry. -/
def IntegrityKind.entry : IntegrityKind → BitVec 64 × BitVec 64
  | .line l minor poison tag =>
    (BitVec.ofNat 64 (field 0 36 l + field 36 7 minor + field 43 1 (if poison then 1 else 0) + field 60 4 1), tag)
  | .major page up => (BitVec.ofNat 64 (field 0 36 (page * 64) + field 60 4 2), BitVec.ofNat 64 (field 0 56 up))
  | .place pl tag => (BitVec.ofNat 64 (field 0 29 pl + field 60 4 3), tag)
  | .digest object first mac => (BitVec.ofNat 64 (field 0 4 object + field 4 32 first + field 60 4 4), mac)

/-- An integrity entry's 16 bytes. -/
def IntegrityEntry.bytes (e : IntegrityEntry) : List Byte :=
  natToBytes 8 e.kind.entry.1.toNat ++ natToBytes 8 e.kind.entry.2.toNat

/-- Bytes 0x00 to 0xDF of an integrity sector of up to twelve entries, with the chain value of the one before it. -/
def integrityCovered (sequence : Nat) (l : List IntegrityEntry) (before : BitVec 64) : List Byte :=
  let edge := fun (e : Option IntegrityEntry) => match e with
    | some x => x.stamp
    | none => 0
  natToBytes 8 (edge l.head?) ++ natToBytes 4 sequence ++ natToBytes 2 0xFFFF ++ natToBytes 2 l.length ++
    padTo 192 (l.map IntegrityEntry.bytes).flatten ++ natToBytes 8 (edge l.getLast?) ++ natToBytes 8 before.toNat

/-- The chain value of an integrity sector: the MAC under the tree key of the bytes before it. -/
def chainOf (sequence : Nat) (l : List IntegrityEntry) (before : BitVec 64) : BitVec 64 := treeMac none (integrityCovered sequence l before)

/-- An integrity sector. -/
def integritySectorBytes (sequence : Nat) (l : List IntegrityEntry) (before : BitVec 64) : List Byte :=
  withCrc (integrityCovered sequence l before ++ natToBytes 8 (chainOf sequence l before).toNat ++ List.replicate 20 0)

/-- The chain's end when some entries are put in sectors of twelve, numbered from `next` on: the last sector's number and chain value. -/
def chainOver : Nat → Nat → Nat × BitVec 64 → List IntegrityEntry → Nat × BitVec 64
  | 0, _, last, _ => last
  | n + 1, next, last, l =>
    if l.isEmpty then last else chainOver n (next + 1) (next, chainOf next (l.take 12) last.2) (l.drop 12)

/-! ### Checkpoints and the directory (R154, R156, R157) -/

/-- Table — Checkpoint segment header. -/
def Checkpoint.header (segment : Nat) (c : Checkpoint) : List Byte :=
  withCrc (natToBytes 4 segment ++ natToBytes 4 c.deltas.length ++ natToBytes 8 c.stamp ++ natToBytes 4 c.provisional.length ++
    natToBytes 4 c.sectors ++ natToBytes 8 c.time ++ natToBytes 8 c.previous ++ natToBytes 4 (if c.prompt then 1 else 0) ++ List.replicate 16 0)

/-- A checkpoint: its header, the 1,024 map entries with bound marks cleared, the committed delta entries, and the provisional ones, each
followed by its companion. -/
def State.checkpointBytes (s : State) (segment : Nat) (c : Checkpoint) : List Byte :=
  let words := fun (l : List (BitVec 64)) => (l.map fun w => natToBytes 8 w.toNat).flatten
  c.header segment ++
    ((List.range 1024).map fun i => natToBytes 4 (field 0 31 ((tfind (segment * 1024 + i) c.map).getD 0x7FFFFFFF))).flatten ++
    (c.deltas.map fun d => words (s.deltaWords d)).flatten ++
    (c.provisional.map fun e => words (s.deltaWords { e.2 with tag := some e.1 })).flatten

/-- The eight bytes of a segment in the directory. -/
def DirectoryEntry.word (e : DirectoryEntry) : BitVec 64 :=
  BitVec.ofNat 64 (field 0 33 e.location + field 33 30 e.stamp + field 63 1 (if e.dirty then 1 else 0))

/-- The segment directory (R157): eight bytes for each segment. -/
def directoryBytes (d : Tbl DirectoryEntry) : List Byte :=
  ((List.range 1048576).map fun i => natToBytes 8 (match tfind i d with
    | some e => e.word.toNat
    | none => 0)).flatten

/-- The integrity table image: four bytes for each entry that names a page (log 158). -/
def tableBytes (t : Tbl Nat) : List Byte := (t.map fun e => natToBytes 4 e.2).flatten

/-! ### The save image (R158, R321) -/

/-- Save sector `i` of an image: 240 bytes of payload encrypted under the image key, their tag, and the CRC (R321). The cipher's mode and the
block A of the tag are `Config`'s (log 189). -/
def saveSector (stamp i : Nat) (payload : List Byte) : List Byte :=
  let cipher := Config.imageCipher (imageKey stamp) i (padTo 240 payload)
  withCrc (cipher ++ natToBytes 8 (macUnder (imageKey stamp) (Config.imageInput i) cipher).toNat)

/-- Bytes of the five sections. DEDUCED (log 166): an item takes its section's greatest size over the items that it may hold: 64 bytes a
queued store, 256 a staging slot, 32 a group, 64 a counter line, 32 a journal record and 16 an integrity entry. -/
def Image.sizes (i : Image) : List Nat :=
  [64 * (i.ingressA.length + i.ingressB.length), 256 * ((i.staging.map fun l => (blockOfLine l.line, l.grp)).eraseDups).length,
    32 * (i.groups.filter fun e => e.2.phase != .free).length, 64 * i.dirtyCounters.length,
    32 * i.journalTail.length + 16 * i.integrityTail.length]

/-- Sectors of the image: header, sections of 240 payload bytes a sector (R321), and closing record. -/
def Image.sectors (i : Image) : Nat := 2 + (i.sizes.map fun n => (n + 239) / 240).foldl (· + ·) 0

/-- Table — Save image header: the CRC takes the flags as zero. -/
def Image.header (i : Image) : List Byte :=
  let part := fun (flags : Nat) => natToBytes 4 0x5A4C5356 ++ natToBytes 2 1 ++ natToBytes 2 flags ++ natToBytes 8 i.stamp ++
    natToBytes 8 i.time ++ natToBytes 1 i.cause ++ natToBytes 1 i.modeBefore ++ natToBytes 1 (if i.protectionWord then 1 else 0) ++
    natToBytes 1 0 ++ natToBytes 4 i.sectors ++ natToBytes 8 i.ceiling ++ natToBytes 8 i.restoreCount ++ natToBytes 4 5 ++ List.replicate 8 0
  part (if i.armed then 1 else 0) ++ natToBytes 4 (Config.crc32c (part 0)).toNat

/-- The closing record: image order stamp, sector count and CRC. -/
def Image.closing (i : Image) : List Byte := withCrc (padTo 252 (natToBytes 8 i.stamp ++ natToBytes 4 i.sectors))

/-! ### SL and ML pages (R221 to R224, R236) -/

/-- A sector as the medium holds it: 256 bytes and 12 bytes of BCH check. -/
def withCheck (data : List Byte) : List Byte := data ++ natToBytes 12 (Config.bchCheck data)

/-- A line descriptor of a log sector. -/
def LogLine.descriptor (l : LogLine) : Nat :=
  field 0 36 l.line + field 36 1 1 + field 37 1 (if l.poison then 1 else 0) + field 38 1 (if l.groupTag.isSome then 1 else 0)

/-- The lines of a row that the member on a channel holds, by slot in sector. -/
def LogRow.sectorLines (r : LogRow) (channel : Nat) : List (Option LogLine) :=
  let k := r.data.findIdx (· == channel)
  (List.range 3).map fun q => r.lines.find? fun l => l.place == r.mark * 45 + k * 3 + q

/-- The 256 data bytes of a log sector (Table — Log sector): its program stamp, its lines with their stamp offsets and group tags, its location
and its CRC, over all but the CRC itself. -/
def LogRow.sectorBytes (r : LogRow) (channel : Nat) : List Byte :=
  let lines := r.sectorLines channel
  let stamp := match r.starts.find? fun x => x.channel == channel with
    | some x => x.stamp
    | none => 0
  let each := fun (n : Nat) (f : LogLine → Nat) => (lines.map fun l => natToBytes n (match l with
    | some x => f x
    | none => 0)).flatten
  let slot := logIndexOfMark r.mark * 16 + channel
  let head := natToBytes 8 stamp ++ each 6 LogLine.descriptor ++ natToBytes 2 1 ++ each 4 (fun l => stamp - l.stamp) ++
    each 4 (fun l => l.groupTag.getD 0) ++ natToBytes 4 (field 0 14 slot + field 14 13 (r.mark % 8192)) ++ natToBytes 4 0
  let data := (lines.map fun l => match l with
    | some x => lineBytes (if x.poison then 0 else x.cipher)
    | none => List.replicate 64 0).flatten
  head ++ natToBytes 4 (Config.crc32c (head ++ data)).toNat ++ data

/-- Bytewise exclusive-or. -/
def xorBytes (a b : List Byte) : List Byte := (a.zip b).map fun x => x.1 ^^^ x.2

/-- The parity sector of an SL row: the exclusive-or of the data bytes of its other sectors (R236, R237). -/
def paritySector (sectors : List (List Byte)) : List Byte := sectors.foldl xorBytes (List.replicate 256 0)

/-- The sector of a log row on a channel: a data member's, or the row's parity. -/
def LogRow.sectorOn (r : LogRow) (channel : Nat) : List Byte :=
  if r.data.contains channel then r.sectorBytes channel else paritySector (r.data.map r.sectorBytes)

/-- A location field names the place a log sector was read from (R224): one that does not is treated as torn. -/
def locationMatches (sector : List Byte) (slot row : Nat) : Bool :=
  bytesToNat ((sector.drop 0x34).take 4) == field 0 14 slot + field 14 13 row

/-- The programmed journal sectors of a row of `d` data members, numbered from `first` on, and the row's parity (R236, R238). -/
def State.journalRow (s : State) (first d : Nat) : List (List Byte) :=
  let data := (List.range d).map fun k => s.journalSectorAt (first + k)
  data ++ [paritySector data]

/-- The sectors of 256 bytes that some bytes fill, the last padded with zeros. -/
def cutSectors : Nat → List Byte → List (List Byte)
  | 0, _ => []
  | n + 1, l => if l.isEmpty then [] else padTo 256 (l.take 256) :: cutSectors n (l.drop 256)

/-- The sectors of a checkpoint, in the order in which they are programmed (R154). -/
def State.checkpointSectorsOf (s : State) (segment : Nat) (c : Checkpoint) : List (List Byte) :=
  cutSectors c.sectors (s.checkpointBytes segment c)

/-- An SL page as the medium holds it (R223): 16 sectors of 256 data bytes and 12 check bytes, whatever the unit's role, and 64 reserved bytes
that are never programmed. -/
def slPage (sectors : List (List Byte)) : List (Option Byte) :=
  ((sectors.take 16).map withCheck).flatten.map some ++ List.replicate 64 none

/-- A slot record of a page footer (Table — Slot record). -/
def MlSlot.record (x : MlSlot) : List Byte :=
  natToBytes 4 x.page ++ natToBytes 4 x.groupTag ++ natToBytes 1 x.region ++ natToBytes 1 x.keySlot ++ List.replicate 6 0

/-- The record of a slot without a page. -/
def emptySlot : List Byte := natToBytes 4 0xFFFFFFFF ++ List.replicate 12 0

/-- Bytes of a page footer: 256 at ML-4, 192 at ML-3, 128 at ML-2. -/
def footerSize (bits : Nat) : Nat := 64 * bits

/-- A page footer (Table — Page footer), with its CRC and BCH check in its last 16 bytes. -/
def State.footerBytes (s : State) (unit page : Nat) (f : PageFooter) : List Byte :=
  let slots := (List.range f.bits).map fun k => match tfind (unit * 2048 + page * f.bits + k) s.med.ml with
    | some x => if f.parity then emptySlot else x.record
    | none => emptySlot
  let head := natToBytes 1 f.bits ++ natToBytes 1 1 ++ natToBytes 1 f.band ++ natToBytes 1 (if f.parity then 1 else 0) ++
    natToBytes 4 (field 0 20 unit + field 20 9 page) ++ natToBytes 8 f.stamp ++ natToBytes 8 f.time ++ natToBytes 1 f.writer ++
    natToBytes 1 f.used ++ natToBytes 1 f.parityChannel ++ List.replicate 5 0
  let whole := withCrc (padTo (footerSize f.bits - 16) (head ++ slots.flatten))
  whole ++ natToBytes 12 (Config.bchCheck whole)

/-- The 4 KiB of a slot: the ciphertext of its 64 lines. -/
def MlSlot.data (x : MlSlot) : List Byte :=
  ((List.range 64).map fun i => match tfind i x.lines with
    | some l => lineBytes (if l.poison then 0 else l.cipher)
    | none => List.replicate 64 0).flatten

/-- The data bytes of a page of a data member: its slots in order. -/
def State.memberData (s : State) (unit page bits : Nat) : List Byte :=
  ((List.range bits).map fun k => match tfind (unit * 2048 + page * bits + k) s.med.ml with
    | some x => x.data
    | none => List.replicate 4096 0).flatten

/-- The data bytes of page `page` of the parity member: the exclusive-or of those of every other member (R236). -/
def State.parityData (s : State) (stripe page bits : Nat) : List Byte :=
  (s.dataMembers stripe).foldl (fun acc c => xorBytes acc (s.memberData (unitOf stripe c) page bits)) (List.replicate (4096 * bits) 0)

/-- Data bytes cut into sectors, each with its BCH check. -/
def sectorsWithChecks : Nat → List Byte → List Byte
  | 0, _ => []
  | n + 1, l => withCheck (l.take 256) ++ sectorsWithChecks n (l.drop 256)

/-- An ML page as its channel transfers it: the data sectors, then the footer (R221). -/
def State.pageBytes (s : State) (unit page : Nat) (f : PageFooter) : List Byte :=
  let data := if f.parity then s.parityData (stripeOfUnit unit) page f.bits else s.memberData unit page f.bits
  sectorsWithChecks (16 * f.bits) data ++ s.footerBytes unit page f

/-! ### Unit records (R268) -/

/-- Table — Unit record. -/
def State.unitBytes (s : State) (u : Nat) : List Byte :=
  let r := s.unit u
  natToBytes 1 r.state ++ natToBytes 1 r.cellMode ++ natToBytes 1 r.faults ++ natToBytes 1 r.band ++ natToBytes 4 r.cycles ++
    natToBytes 4 (r.lifeUsed * 10 / 3) ++ natToBytes 2 (s.disturbCount u) ++ natToBytes 1 (r.calibration % 256).toNat ++
    natToBytes 1 r.corrected ++ natToBytes 8 r.resetStamp ++ natToBytes 8 r.firstTime ++ natToBytes 8 r.firstAge ++ natToBytes 8 r.lastTime ++
    natToBytes 8 r.lastAge ++ natToBytes 4 r.visited ++ natToBytes 2 (r.lastPage.getD 0xFFFF) ++ natToBytes 2 0

end Sys2Proof.Machine
end

