-- ==== Sys2Proof/Machine/Journal.lean ====
section
/-! DEFINITION. The journal and its tail (R152, R153), the integrity entries and their chain (R315 to R318), and the dirty
segments (R154, R155). -/

namespace Sys2Proof.Machine

/-! ### Dirty segments -/

/-- A record or log line changes a line or page of a segment: the segment becomes dirty (chapter 05, Segment
checkpoints). The count of host bytes accepted at that moment is kept, so that the bytes since are a difference. -/
def dirtySegment (seg : Nat) (s : State) : State :=
  match tfind seg s.xlat.dirty with
  | some _ => s
  | none =>
    { s with xlat := { s.xlat with dirty := tput seg { bytes := s.get 0x615006, clock := s.clock, stamp := s.nextStamp } s.xlat.dirty } }

/-- Every segment of a range of pages becomes dirty; the range of a discard may take in all of them, so only those that
hold a version are listed, rebuilt or not. -/
def dirtyPages (first n : Nat) (s : State) : State :=
  let here := (s.touchedPages.filter fun p => decide (first ≤ p) && decide (p < first + n)).map segmentOfPage
  let latent := s.latentSegments.filter fun g => overlaps first n (g * 1024) 1024
  (here ++ latent).foldl (fun t g => dirtySegment g t) s

/-- One of the limits of R155 would be exceeded, by the age of the oldest dirty segment or by the bytes that the host may still write into the
two ingress queues with the credits it holds: checkpoints take priority and ingress credits are withheld. -/
def State.tailOver (s : State) : Bool :=
  decide (s.get 0x404003 * 1048576 < s.tailBytes + 524288) || decide (s.get 0x404004 * 1000000 ≤ s.tailAge)

/-! ### Integrity entries (R315 to R318) -/

def putEntry (k : IntegrityKind) (s : State) : State :=
  { s with integ := { s.integ with entries := s.integ.entries ++ [{ stamp := s.highestStamp, kind := k }] } }

/-- `n` journal sectors are programmed, in rows that close with them (R238): each takes the next sequence number (R152). -/
def journalSectors (n : Nat) (s : State) : State :=
  if n = 0 then s
  else
    let t := ringProgram .journal s.xlat.journalRows n s
    { t with xlat := { t.xlat with
      journalRows := t.xlat.journalRows + rowsFor n 15, journalSequence := t.xlat.journalSequence + n } }

/-- The Digest entry of the journal sectors since the previous integrity sector (R318). -/
def coverJournal (s : State) : State :=
  let n := s.xlat.journalSequence - s.integ.covered
  if n = 0 then s
  else
    let bytes := ((List.range n).map fun i => s.journalSectorAt (s.integ.covered + i)).flatten
    putEntry (.digest 0 s.integ.covered (treeMac none bytes)) { s with integ := { s.integ with covered := s.xlat.journalSequence } }

/-- The first `k` unprogrammed entries are programmed in an integrity sector. -/
def markEntries (sector : Nat) : Nat → List IntegrityEntry → List IntegrityEntry
  | 0, l => l
  | _, [] => []
  | k + 1, e :: t =>
    if e.programmed then e :: markEntries sector (k + 1) t else { e with programmed := true, sector := sector } :: markEntries sector k t

/-- Program the next integrity sector: up to twelve entries, chained to the sector before it, with the next sequence number of the journal
(R315). -/
def programSector (s : State) : State :=
  let now := (s.integ.entries.filter (!·.programmed)).take 12
  let n := s.xlat.journalSequence
  journalSectors 1 { s with integ := { s.integ with
    entries := markEntries n 12 s.integ.entries, chain := chainOf n now s.integ.chain, sequence := n, covered := n + 1 } }

/-- The integrity lines that a version placed in a row changes. -/
def LogLine.touches (l : LogLine) : List IntegrityObject :=
  if l.sealed.stampForm then [.placeTag (placeIndex l.place / 8)]
  else .tagLine (l.line / 8) :: .counterBlock (pageOfLine l.line) ::
    (List.range 9).map fun i => .node (i + 1) (pageOfLine l.line / 8 ^ (i + 1))

/-- The integrity lines changed by rows that are not complete: their entries are still to come. -/
def State.inFlight (s : State) : List IntegrityObject :=
  ((s.med.rows.filter (!·.complete)).map fun r => (r.lines.map LogLine.touches).flatten).flatten

/-- Program the unprogrammed integrity entries, twelve to a sector, the Digest entry of the journal sectors among them. The lines whose changes
are now covered stop being dirty lines of the SRAM tier (R323), and the copies of complete rows may be taken as sources (R316). -/
def programEntries (s : State) : State :=
  let s := coverJournal s
  if s.integ.entries.all (·.programmed) then s
  else
    let n := ((s.integ.entries.filter (!·.programmed)).length + 11) / 12
    let s := (List.range n).foldl (fun t _ => programSector t) s
    { s with
      med := { s.med with rows := s.med.rows.map fun r =>
        if r.complete then { r with lines := r.lines.map fun l => { l with entryDone := true } } else r },
      integ := { s.integ with cache := s.integ.cache.map fun c => { c with dirty := c.dirty && s.inFlight.contains c.obj } } }

/-! ### The journal -/

/-- A commit record waits while a line of its group is not on the medium (R35). -/
def State.recordBlocked (s : State) (r : JournalRec) : Bool :=
  match r.kind with
  | .groupCommit _ _ _ => s.xlat.commitWaits.any fun w => w.1 == r.stamp && !w.2.isEmpty
  | _ => false

/-- Mark the records of the tail programmed, oldest first, up to a commit record that has to wait: seven to a sector, from a sequence
number on. -/
def programRecords (blocked : JournalRec → Bool) (sequence : Nat) : Nat → List JournalRec → List JournalRec
  | _, [] => []
  | k, r :: t =>
    if r.programmed then r :: programRecords blocked sequence k t
    else if blocked r then r :: t
    else { r with programmed := true, sector := sequence + k / 7 } :: programRecords blocked sequence (k + 1) t

/-- Program the records of the journal tail, seven record slots to a sector (R152). -/
def programJournal (s : State) : State :=
  let before := (s.xlat.journal.filter (·.programmed)).length
  let js := programRecords s.recordBlocked s.xlat.journalSequence 0 s.xlat.journal
  let after := (js.filter (·.programmed)).length
  journalSectors ((after - before + 6) / 7) { s with xlat := { s.xlat with journal := js } }

/-- Program the journal tail and the integrity entries with it. The record of a unit that these programs wear out follows them. -/
def programTail (s : State) : State := programEntries (programJournal (programJournal s))

/-- A record of the journal tail is not programmed yet. -/
def State.tailWaits (s : State) : Bool := s.xlat.journal.any fun r => !r.programmed

/-- A commit record whose lines are not on the medium holds the records after it back (R35). -/
def State.tailBlocked (s : State) : Bool := s.xlat.journal.any fun r => !r.programmed && s.recordBlocked r

/-- No record with a stamp is left in the journal tail. -/
def State.recordProgrammed (s : State) (stamp : Nat) : Bool := s.xlat.journal.all fun r => r.programmed || r.stamp != stamp

/-- A record placed now is durable when its command's result is written: at once while protected, and else where the tail can be
programmed (R15, R19). -/
def State.recordsDurable (s : State) : Bool := s.protected || !s.tailBlocked

/-- Place a record in the journal tail. A full sector is programmed; while the module is unprotected every record is (R19). -/
def journalPut (k : JournalKind) (s : State) : State :=
  let s := appendRecord k s
  if !s.protected || decide (7 ≤ (s.xlat.journal.filter fun r => !r.programmed).length) then programTail s else s

/-- The row that holds these lines of group commits has completed: their commit records may be programmed (R35). -/
def linesOnMedium (lines : List (Nat × Nat)) (s : State) : State :=
  { s with xlat := { s.xlat with
    commitWaits := (s.xlat.commitWaits.map fun w => (w.1, w.2.filter fun l => !lines.any fun k => k.1 == l && decide (w.1 ≤ k.2))).filter fun w => !w.2.isEmpty } }

end Sys2Proof.Machine
end

