-- ==== Sys2Proof/Machine/Requests.lean ====
section
/-! DEFINITION. Host requests at a port: when a port takes one, what every response carries (R71), the bandwidth counts
(R498), precise sampling (R499 to R503), stores that are dropped (R95), stray window accesses (R55). -/

namespace Sys2Proof.Machine

/-! ### When a port takes a request -/

/-- The staging array is full: free space has fallen to the 1 MiB drain reserve (R89). -/
def State.stagingFull (s : State) : Bool := decide (s.freeStaging ≤ 1048576)

/-- The port grants CXL.mem credits and answers: link state 3, no credits withheld, not silent, not contained. -/
def State.memOpen (s : State) (p : Port) : Bool :=
  s.linkState p == 3 && !(s.port p).creditsWithheld && !(s.port p).silent && !(s.port p).contained

/-- The port withholds CXL.mem write credits: the staging array is full (R89), a replay tail limit is exceeded (R155), or the
free pool is critical (R254). -/
def State.writeCreditsWithheld (s : State) : Bool := s.stagingFull || s.tailOver || s.med.critical

/-- The port takes a write: there is room in its 256 KiB ingress queue (R12). Where write credits are withheld, a write that comes with
a credit granted before is taken, and no other (R89, R155, R254). -/
def State.writeOpen (s : State) (p : Port) : Bool :=
  s.memOpen p && decide ((s.port p).queue.length < 4096) && (!s.writeCreditsWithheld || decide (0 < (s.port p).granted))

/-- The places of a port's ingress queue are granted as credits, while none are withheld. -/
def grantCredits (p : Port) (s : State) : State :=
  if s.writeCreditsWithheld then s else s.modPort p fun q => { q with granted := 4096 - q.queue.length }

/-- A store has entered the ingress queue with a credit. -/
def useCredit (p : Port) (s : State) : State := grantCredits p (s.modPort p fun q => { q with granted := q.granted - 1 })

/-! ### Responses -/

/-- DevLoad of a response (Table — DevLoad levels). -/
def State.devLoad (s : State) (p : Port) : Nat :=
  let fill := (s.port p).queue.length * 100
  if 0 < s.get 0x900103 then 3
  else if s.get 0x303002 * 4096 ≤ fill || !s.protected || s.slLogFull || s.med.critical then 2
  else if s.get 0x303001 * 4096 ≤ fill then 1
  else 0

/-- Send read data: zeros with poison (R66). Counts the bytes of the bandwidth window and the performance counters. -/
def sendData (p : Port) (tag : Nat) (d : Line) (poison : Bool) (s : State) : State :=
  if (s.port p).silent then s else
  let s := emit (.readData p tag (if poison then 0 else d) poison (s.devLoad p)) s
  let s := s.modPort p fun q => { q with windowRead := q.windowRead + 64 }
  let s := count 0x05 p.code 64 s
  if poison then count1 0x07 p.code s else s

/-- Count accepted write data. -/
def countWrite (p : Port) (s : State) : State :=
  count 0x06 p.code 64 (s.modPort p fun q => { q with windowWrite := q.windowWrite + 64 })

/-! ### Sampling -/

/-- The kinds that the sampling filter admits: bit 2 reads, 3 data writes, 4 window accesses (0xB030.03). -/
def State.eligible (s : State) (p : Port) (kindBit : Nat) : Bool :=
  s.get 0xB03001 != 0 && (s.get 0xB03003).testBit p.code && (s.get 0xB03003).testBit kindBit

/-- Whether the next eligible request is sampled: one in each 2^n in order of acceptance, or at random (R499). -/
def State.samplesNow (s : State) (p : Port) (kindBit : Nat) : Bool :=
  s.eligible p kindBit &&
    (if s.get 0xB03001 = 1 then (s.read 0xB03005 + 1) % 2 ^ s.get 0xB03002 == 0
     else s.freeNow % 2 ^ s.get 0xB03002 == 0)

/-- Count an eligible request. -/
def countEligible (p : Port) (kindBit : Nat) (s : State) : State :=
  if s.eligible p kindBit then drawn (s.bump 0xB03005) else s

/-- Put a sample record in the sample queue of 4,096 items: the oldest is lost and counted where it does not fit; the
threshold is reported once until the queue has emptied (R502, R503, R515). -/
def placeSample (r : SampleRecord) (s : State) : State :=
  let s := s.bump 0xB03004
  let q := s.obs.samples ++ [r]
  let lost := decide (4096 < q.length)
  let s := { s with obs := { s.obs with samples := if lost then q.drop 1 else q } }
  let s := if lost then raise 124 (s.bump 0xB04003) else s
  if !s.obs.thresholdRaised && decide (s.get 0xB04006 ≤ s.obs.samples.length) then
    raise 125 { s with obs := { s.obs with thresholdRaised := true } }
  else s

/-- The sample record of a window access: opcode 4 read, 5 write, outcome 7. -/
def sampleWindow (p : Port) (opcode line : Nat) (sampled : Bool) (s : State) : State :=
  if sampled then
    let stamp := s.stampNow
    placeSample { stamp := stamp, time := s.deviceTime, line := line, port := p, opcode := opcode, outcome := 7, die := 0xFF,
                  steps := 0, cls := 0, flags := 0 } (takeStamp s)
  else s

/-! ### Cmp -/

/-- Answer a waiting read of the barrier word, and keep the longest barrier (R94, R113). -/
def answerBarrier (p : Port) (b : BarrierRead) (s : State) : State :=
  (sampleWindow p 4 b.line b.sampled (sendData p b.tag (lineOfWords [b.word]) false s)).raiseTo (0x302005 + p.code)
    (s.clock - b.acceptedAt)

/-- A Cmp has been sent: the barrier reads that waited for no other one are answered (R94). -/
def releaseBarriers (p : Port) (tag : Nat) (s : State) : State :=
  let left := (s.port p).barriers.map fun b => { b with owed := b.owed.erase tag }
  (left.filter (·.owed.isEmpty)).foldl (fun t b => answerBarrier p b t)
    (s.modPort p fun q => { q with barriers := left.filter fun b => !b.owed.isEmpty })

/-- Send Cmp; a port that no longer responds on CXL.mem sends nothing (R27, R32). -/
def sendCmp (p : Port) (tag : Nat) (s : State) : State :=
  if (s.port p).silent then s else releaseBarriers p tag (emit (.cmp p tag (s.devLoad p)) s)

/-- Send Cmp to several requests. -/
def sendCmps (l : List (Port × Nat)) (s : State) : State := l.foldl (fun t e => sendCmp e.1 e.2 t) s

/-! ### Dropped stores and stray accesses -/

/-- Raise a source `n` times. -/
def raiseTimes : Nat → Nat → State → State
  | 0, _, s => s
  | n + 1, src, s => raiseTimes n src (raise src s)

/-- Drop `n` stores of a port: the barrier word's count and cause bit (32, 33 or 34), the total in 0x3020, source 88. -/
def dropStores (p : Port) (bit n : Nat) (s : State) : State :=
  if n = 0 then s
  else
    let s := s.modPort p fun q => { q with
      dropped := min (q.dropped + n) 0xFFFFFFFF,
      droppedHalted := q.droppedHalted || bit == 32,
      droppedAborted := q.droppedAborted || bit == 33,
      droppedOffline := q.droppedOffline || bit == 34 }
    raiseTimes n 88 (s.addTo (0x302001 + p.code) n)

/-- A stray window access (R55): the port's count and its source. -/
def stray (p : Port) (s : State) : State := raise (portSource p 9) (s.bump (p.key 0x08))

/-- A stray access where a condition holds. -/
def strayIf (c : Bool) (p : Port) (s : State) : State := if c then stray p s else s

end Sys2Proof.Machine
end

