-- ==== Sys2Proof/Machine/DiscardOps.lean ====
section
/-! DEFINITION. Discards (R61, R62, R128, R167, R168): the discard instant, the unmapper, and the page ranges of regions. -/

namespace Sys2Proof.Machine

/-- The lowest page of [first, first + n) inside the given ranges. -/
def lowestShared (first n : Nat) (ranges : List (Nat × Nat)) : Option Nat :=
  ranges.foldl (fun m e =>
    if overlaps first n e.1 e.2 then some (match m with | none => max first e.1 | some x => min x (max first e.1)) else m) none

/-- The page ranges of the enabled regions among 1 to 63 that are offline. -/
def State.offlineRanges (s : State) : List (Nat × Nat) :=
  (s.enabledRegions.filter fun r => s.regionOffline r).map fun r =>
    (s.get (regionKey r 0x02) / 4096, s.get (regionKey r 0x03) / 4096)

/-- The lowest page of a range that no enabled region among 1 to 63 covers, found by stepping past one region at a time. -/
def skipRegions (ranges : List (Nat × Nat)) : Nat → Nat → Nat
  | 0, p => p
  | n + 1, p =>
    match ranges.find? fun e => decide (e.1 ≤ p) && decide (p < e.1 + e.2) with
    | none => p
    | some e => skipRegions ranges n (e.1 + e.2)

/-- The lowest page of a range that lies in an offline region (R116, R61): in an offline region among 1 to 63, or in region 0
when that is offline. -/
def State.lowestOffline (s : State) (first n : Nat) : Option Nat :=
  let named := lowestShared first n s.offlineRanges
  if s.regionOffline 0 then
    let covered := s.enabledRegions.map fun r => (s.get (regionKey r 0x02) / 4096, s.get (regionKey r 0x03) / 4096)
    let p := skipRegions covered 64 first
    if p < first + n then some (match named with | none => p | some x => min x p) else named
  else named

/-- A discard that took effect runs over a range of pages; one that waits behind a BIND does not count (R128). -/
def State.discardRuns (s : State) (first n : Nat) : Bool :=
  [s.portA, s.portB].any fun q =>
    q.discard.status == 1 && !q.discard.waits && overlaps first n q.discard.firstPage q.discard.pages

/-- The lowest free place of the pending discard table (R167). -/
def State.freeDiscardEntry (s : State) : Option Nat :=
  (List.range 16).find? fun i => (tfind i s.xlat.pendingDiscards).isNone

/-- A value that no main map entry has. -/
def noEntry : Nat := 4294967296

/-- A page range is discarded at one instant (R167): the pending entry with the current log mark, the DISCARD record, and the
range's lines leave the staging array and both cache levels. A fold or move of its pages that is in flight fails its compare (R260). A Cmp that waited for a log program of such a line is sent, since
the line's store is superseded. -/
def discardRange (p : Port) (entry first n : Nat) (s : State) : State :=
  let inRange := fun (line : Nat) => decide (first ≤ pageOfLine line) && decide (pageOfLine line < first + n)
  let s := dirtyPages first n s
  let gone := s.staging.filter fun l => inRange l.line
  let stamp := s.stampNow
  let s := journalPut (.discard p.code first n s.med.head) s
  let s := { s with
    staging := s.staging.filter fun l => !inRange l.line,
    med := { s.med with
      moves := s.med.moves.filter fun m => !inRange m.line,
      stripePages := s.med.stripePages.map fun x => { x with moves := x.moves.map fun m =>
        if first ≤ m.page ∧ m.page < first + n then { m with old := noEntry } else m } },
    xlat := { s.xlat with
      pendingDiscards := tput entry { firstPage := first, pages := n, mark := s.med.head, stamp := stamp } s.xlat.pendingDiscards,
      commitWaits := (s.xlat.commitWaits.map fun w => (w.1, w.2.filter fun l => !inRange l)).filter fun w => !w.2.isEmpty } }
  sendCmps ((gone.map (·.cmpTo)).flatten) (rearmStall (dropCachedRange (first * 64) (n * 64) s))

/-- The unmapper ends an entry (R168): the range's main map entries become unmapped, its delta entries older than the mark go,
and the entry frees. On segments not yet rebuilt the discard is held as a pending record (R165). -/
def unmap (entry : Nat) (s : State) : State :=
  match tfind entry s.xlat.pendingDiscards with
  | none => s
  | some d =>
    let late : List JournalRec :=
      if s.xlat.allRebuilt then []
      else [{ stamp := d.stamp, kind := .discard 0 d.firstPage d.pages d.mark, programmed := true }]
    { s with xlat := { s.xlat with
      mainMap := tdelRange d.firstPage d.pages s.xlat.mainMap,
      delta := s.xlat.delta.filter fun x =>
        !(decide (d.firstPage ≤ pageOfLine x.line) && decide (pageOfLine x.line < d.firstPage + d.pages) &&
          decide (x.place / 45 < d.mark)),
      pendingRecords := s.xlat.pendingRecords ++ late,
      pendingDiscards := tdel entry s.xlat.pendingDiscards } }

/-- A port's running discard takes effect at its instant, with the given entry of the pending table. -/
def finishDiscard (p : Port) (entry : Nat) (s : State) : State :=
  let d := (s.port p).discard
  let s := discardRange p entry d.firstPage d.pages s
  s.modPort p fun q => { q with discard := { q.discard with status := 2 } }

/-- A port's running discard can take effect: it waits behind no BIND, and while unprotected its record can be programmed (R15). -/
def State.discardReady (s : State) (p : Port) : Bool :=
  (s.port p).discard.status == 1 && !(s.port p).discard.waits && s.recordsDurable

/-- Let a port's running discard end: where all 16 entries are pending, the unmapper ends the oldest first. -/
def runDiscard (p : Port) (s : State) : State :=
  if s.discardReady p then
    let s := if s.freeDiscardEntry.isNone then unmap 0 s else s
    match s.freeDiscardEntry with
    | some e => finishDiscard p e s
    | none => s
  else s

/-- Let the running discards of both ports end. -/
def finishDiscards (s : State) : State := runDiscard .b (runDiscard .a s)

end Sys2Proof.Machine
end

