-- ==== Sys2Proof/Machine/GroupOps.lean ====
section
/-! DEFINITION. The group engine (chapter 04): judging a command, its effect, the commit instant, forced aborts, and the
one-at-a-time sequence of a group's commands (R119). -/

namespace Sys2Proof.Machine

/-! ### Encodings -/

/-- Group tag: [17:0] group, [31:18] generation modulo 16,384 (R139). -/
def groupTag (g : Nat) (gr : Group) : Nat := g + gr.generation % 16384 * 262144

/-- State codes (R114). -/
def GroupPhase.code : GroupPhase → Nat
  | .free => 0
  | .opened => 1
  | .committing => 2
  | .committed => 3
  | .aborted => 4
  | .lost => 5

/-- Command codes (R115). -/
abbrev codeOpen : Nat := 1
abbrev codeBind : Nat := 2
abbrev codeCommit : Nat := 3
abbrev codeAbort : Nat := 4
abbrev codeRelease : Nat := 5

/-- The result word (R116). -/
def resultWord (status code phase detail : Nat) : Nat := status + code * 2 ^ 16 + phase * 2 ^ 24 + detail * 2 ^ 32

/-- Word 5 (Table — Owner and flags word). -/
def Group.flagsWord (gr : Group) : Nat :=
  gr.owner.code + (if gr.override then 2 ^ 8 else 0) + (if gr.conflict then 2 ^ 9 else 0) +
    (if gr.fenced then 2 ^ 10 else 0) + gr.endCause * 2 ^ 16 + gr.extents.length * 2 ^ 24 + gr.pages * 2 ^ 32

/-- The eight words of a group's control line, taken at one instant (R57). -/
def groupLine (gr : Group) : Line :=
  lineOfWords [BitVec.ofNat 64 gr.phase.code, gr.argA, gr.argB, BitVec.ofNat 64 gr.result, BitVec.ofNat 64 gr.provCount,
    BitVec.ofNat 64 gr.flagsWord, BitVec.ofNat 64 gr.commitStamp, 0]

/-! ### Extents -/

/-- Start page of a BIND: argument A [41:12]. -/
def bindStart (a : Word) : Nat := a.toNat % 2 ^ 42 / 4096
def bindPages (b : Word) : Nat := b.toNat

/-- The arguments of a BIND name whole pages inside the data range (R117). -/
def bindArgsOk (a b : Word) : Bool :=
  a.toNat % 4096 == 0 && decide (1 ≤ b.toNat) && decide (b.toNat ≤ 16777216) &&
    decide (bindStart a + b.toNat ≤ 1073741824)

/-- Extents that are bound, or that a judged BIND still running will bind when it finishes (R125, R128). -/
def Group.claimed (gr : Group) : List (Nat × Nat) :=
  gr.extents ++ (match gr.running with
    | some c => if c.code == codeBind && c.status == 0 then [(bindStart c.a, bindPages c.b)] else []
    | none => [])

/-- The lowest page of a range bound to any group, or claimed by a running BIND other than that of `g` (R126). -/
def State.lowestBound (s : State) (g first n : Nat) : Option Nat :=
  lowestShared first n ((s.groups.map fun e => if e.1 = g then e.2.extents else e.2.claimed).flatten)

/-- Pages bound or claimed on the module. -/
def State.claimedPages (s : State) (g : Nat) : Nat :=
  s.groups.foldl (fun n e => (if e.1 = g then e.2.extents else e.2.claimed).foldl (fun m x => m + x.2) n) 0

/-! ### Judging a command (R117, R123) -/

/-- The status and detail of a command judged in the group's present state. -/
def State.judgeGroup (s : State) (g : Nat) (c : GroupCommand) : Nat × Nat :=
  let gr := s.group g
  let limitBad := decide (16777216 < c.b.toNat)
  let overrideBad := c.a.getLsbD 0 && s.get 0x500103 == 0
  if c.code = codeOpen then
    if limitBad || overrideBad then (0x0302, 0)
    else if gr.phase != .free then (0x0401, 0) else (0, 0)
  else if c.code = codeBind then
    if !bindArgsOk c.a c.b then (0x0302, 0)
    else if gr.phase != .opened then (0x0401, 0)
    else if gr.owner != c.port then (0x0A05, 0)
    else if 64 ≤ gr.extents.length then (0x0A03, 0)
    else
      let first := bindStart c.a
      let n := bindPages c.b
      match s.lowestOffline first n with
      | some p => (0x0A06, p)
      | none =>
        match s.lowestBound g first n with
        | some p => (0x0A02, p)
        | none => if 16777216 < s.claimedPages g + n then (0x0A04, 0) else (0, 0)
  else if c.code = codeCommit ∨ c.code = codeAbort then
    if gr.phase != .opened then (0x0401, 0)
    else if gr.owner != c.port then (0x0A05, 0) else (0, 0)
  else if c.code = codeRelease then
    if gr.phase == .committed || gr.phase == .aborted || gr.phase == .lost then (0, 0) else (0x0401, 0)
  else (0x0302, 0)

/-- The log writer takes the staged lines for which a commit record of the journal tail waits (R35): an open record behind it has to be
programmed (R122). -/
def takeBlocking (s : State) : State :=
  let lines := (s.xlat.commitWaits.map (·.2)).flatten
  { s with staging := s.staging.map fun l => if l.grp.isNone && lines.contains l.line then { l with taken := true } else l }

/-- A command takes effect: it is judged, and a COMMIT makes the group COMMITTING (R119). -/
def startCommand (g : Nat) (c : GroupCommand) (s : State) : State :=
  let gr := s.group g
  let j := s.judgeGroup g c
  let c := { c with status := j.1, detail := j.2, startedAt := s.clock }
  let phase := if c.code == codeCommit && c.status == 0 then .committing else gr.phase
  let s := s.setGroup g { gr with running := some c, phase := phase }
  if c.code == codeOpen && c.status == 0 then takeBlocking s else s

/-- Hand a command to its group: it takes effect at once when none runs, else it waits its turn. -/
def submitCommand (g : Nat) (c : GroupCommand) (s : State) : State :=
  let gr := s.group g
  match gr.running with
  | none => startCommand g c s
  | some _ => s.setGroup g { gr with waiting := gr.waiting ++ [c] }

/-! ### Discarding and committing provisional versions -/

/-- The provisional versions of a group are discarded (R132, R134). A Cmp that waited for a log program of one is sent, since no
program of it follows. -/
def discardProvisional (g : Nat) (s : State) : State :=
  sendCmps ((s.staging.filter fun l => l.grp == some g).map (·.cmpTo)).flatten (rearmStall { s with
    staging := s.staging.filter fun l => l.grp != some g,
    xlat := { s.xlat with delta := s.xlat.delta.filter fun d => d.grp != some g } })

/-- 0x5001.02 as lines of the module's pool. -/
def State.poolThreshold (s : State) : Nat := s.get 0x500102 * 67108864 / 100

/-- Report the provisional pool above its threshold, once until it has fallen ten points below (R143). -/
def checkPool (s : State) : State :=
  let n := s.provisionalLines
  if s.xlat.poolAbove then
    if n * 100 ≤ (s.get 0x500102 - 10) * 67108864 then { s with xlat := { s.xlat with poolAbove := false } } else s
  else if s.poolThreshold < n then raise 74 { s with xlat := { s.xlat with poolAbove := true } } else s

/-- A forced abort takes effect (R136): ABORTED and fenced, the bindings kept, every provisional line counted as dropped
under bit 33. -/
def forceAbortNow (g cause : Nat) (s : State) : State :=
  let gr := s.group g
  let n := gr.prov.length
  let s := discardProvisional g s
  let s := s.setGroup g { gr with
    phase := .aborted, fenced := true, endCause := cause, prov := [], pendingForce := none }
  let s := dropStores gr.owner 33 n (checkPool s)
  let s := journalPut (.groupAbort (groupTag g gr) cause n) s
  raise 73 (s.bump 0x502007)

/-- A forced abort falls due: at once when no command of the group runs, else when the running one finishes (R119). A COMMIT
that runs when a region of the group goes offline (end cause 6) before its instant ends at once. -/
def forceAbort (g cause : Nat) (detail : Nat) (s : State) : State :=
  let gr := s.group g
  if !gr.isOpen then s
  else match gr.running with
  | none => forceAbortNow g cause s
  | some c =>
    if c.code == codeCommit && c.status == 0 && !c.decided && cause == 6 then
      let s := forceAbortNow g cause s
      let gr := s.group g
      s.setGroup g { gr with running := some { c with decided := true, status := 0x0A06, detail := detail } }
    else s.setGroup g { gr with pendingForce := some (gr.pendingForce.getD cause) }

/-- The lines of a group that are staged. -/
def State.stagedLinesOf (s : State) (g : Nat) : List Nat := (s.staging.filter fun l => l.grp == some g).map (·.line)

/-- The lines of a group whose current provisional version is in the log. -/
def State.logLinesOf (s : State) (g : Nat) : List Nat :=
  (s.xlat.delta.filter fun d => d.grp == some g && !(s.stagedLinesOf g).contains d.line).map (·.line)

/-- A staged committed copy that a version of the group supersedes. -/
def State.superseded (s : State) (g : Nat) (l : Staged) : Bool :=
  l.grp == none && ((s.stagedLinesOf g).contains l.line || (s.logLinesOf g).contains l.line)

/-- A staged provisional line as it becomes the committed version: its group tag and the stamp of its store stay until it is logged
(R35), and a line of a poisoned range stays poisoned (R31, R140). -/
def State.commitStaged (s : State) (stamp : Nat) (l : Staged) : Staged :=
  let bad := l.poison || s.rangePoisons l.line l.stamp
  { l with grp := none, stamp := stamp, poison := bad, data := if bad then 0 else l.data }

/-- The provisional lines of a group become the committed versions, with the commit stamp (R131, R171, R172). A staged copy in a row
being programmed keeps its row. Staged committed copies of the same lines are freed. A logged line of a poisoned range takes a range of
its own with the commit stamp, so that it reads poisoned as before (R140). -/
def commitLines (g stamp : Nat) (s : State) : State :=
  let lines := (s.group g).prov
  let staged := s.staging.filter fun l => l.grp == some g
  let stagedLines := s.stagedLinesOf g
  let logLines := s.logLinesOf g
  let inLog := s.xlat.delta.filter fun d => d.grp == some g && logLines.contains d.line
  let delta := (s.xlat.delta.filter fun d => d.grp != some g && !(d.grp == none && logLines.contains d.line)) ++
    inLog.map fun d => { d with grp := none, stamp := stamp, tag := none }
  let poisoned := (inLog.filter fun d => s.rangePoisons d.line d.stamp).map fun d => (d.line, 1, stamp)
  let waits := if stagedLines.isEmpty then s.xlat.commitWaits else s.xlat.commitWaits ++ [(stamp, stagedLines)]
  let s := rearmStall { s with
    staging := (s.staging.filter fun l => l.grp != some g && !s.superseded g l) ++ staged.map (s.commitStaged stamp),
    integ := { s.integ with poisonedRanges := s.integ.poisonedRanges ++ poisoned },
    xlat := { s.xlat with delta := delta, commitWaits := waits } }
  let s := lines.foldl (fun t l => dropCached l t) s
  lines.foldl (fun t l => pruneRanges l (dirtySegment (segmentOfLine l) t)) s

/-- The commit instant of the group's running COMMIT (R131): a conflict without override aborts the group; otherwise its
lines become the committed versions, its bindings are released, and word 6 takes the commit stamp. A Cmp that waited for a log program
of a superseded copy is sent. -/
def decideCommit (g : Nat) (s : State) : State :=
  let gr := s.group g
  match gr.running with
  | none => s
  | some c =>
    if gr.conflict && !gr.override then
      let n := gr.prov.length
      let s := journalPut (.groupAbort (groupTag g gr) 2 n) s
      let s := discardProvisional g s
      let s := s.setGroup g { gr with
        phase := .aborted, endCause := 2, extents := [], prov := [],
        running := some { c with decided := true, status := 0x0A01, detail := gr.conflictPage, released := gr.extents } }
      let s := checkPool s
      raise 72 (count1 0x31 31 (s.bump 0x502006))
    else
      let stamp := s.stampNow
      let owed := ((s.staging.filter (s.superseded g)).map (·.cmpTo)).flatten
      let s := commitLines g stamp s
      let s := journalPut (.groupCommit (groupTag g gr) gr.openStamp gr.prov.length) s
      let s := s.setGroup g { gr with
        phase := .committed, commitStamp := stamp, extents := [], prov := [],
        running := some { c with decided := true, released := gr.extents } }
      let s := checkPool s
      sendCmps owed (count1 0x30 31 (s.bump 0x502004))

/-- While unprotected, the commit record can be programmed only once every provisional line is on the medium, and an abort record as soon
as the records before it can (R35, R131). -/
def State.commitReady (s : State) (g : Nat) : Bool :=
  let gr := s.group g
  match gr.running with
  | none => false
  | some c => c.code == codeCommit && c.status == 0 && !c.decided && gr.phase == .committing &&
      s.recordsDurable && (s.protected || (gr.conflict && !gr.override) || !(s.staging.any fun l => l.grp == some g))

/-! ### Finishing a command (R119, R120) -/

/-- The effect of an OK command when it finishes. -/
def applyCommand (g : Nat) (c : GroupCommand) (s : State) : State :=
  let gr := s.group g
  if c.code = codeOpen then
    let stamp := s.stampNow
    let gr' : Group := { gr with
      phase := .opened, owner := c.port, override := c.a.getLsbD 0, conflict := false, conflictPage := 0, fenced := false,
      endCause := 0, extents := [], limit := if c.b.toNat = 0 then s.get 0x500101 else c.b.toNat,
      generation := gr.generation + 1, openStamp := stamp, commitStamp := 0, prov := [], provCount := 0 }
    -- the open record is programmed before the result in both protection states (R122)
    programTail ((journalPut (.groupOpen (groupTag g gr') c.port.code (if gr'.override then 1 else 0) gr'.limit) s).setGroup g gr')
  else if c.code = codeBind then
    let s := s.setGroup g { gr with extents := gr.extents ++ [(bindStart c.a, bindPages c.b)] }
    journalPut (.groupBind (groupTag g gr) (bindStart c.a) (bindPages c.b)) s
  else if c.code = codeAbort then
    let n := gr.prov.length
    let s := discardProvisional g s
    let s := checkPool (s.setGroup g { gr with phase := .aborted, endCause := 1, extents := [], prov := [] })
    journalPut (.groupAbort (groupTag g gr) 1 n) (s.bump 0x502005)
  else if c.code = codeRelease then
    let s := s.setGroup g { gr with
      phase := .free, owner := .a, override := false, conflict := false, conflictPage := 0, fenced := false, endCause := 0,
      extents := [], provCount := 0, commitStamp := 0 }
    journalPut (.groupRelease (groupTag g gr)) s
  else s

/-- The running command can finish: a COMMIT has been decided, no discard that took effect first runs over a BIND's extent (R128), and the
journal records that the result depends on are programmed by then: an OPEN's always (R122), every command's while unprotected (R19), the
abort record of a COMMIT that ended in an abort among them. -/
def State.canFinish (s : State) (g : Nat) : Bool :=
  match (s.group g).running with
  | none => false
  | some c =>
    if c.status != 0 then !c.decided || s.protected || !s.tailWaits
    else if c.code == codeCommit then c.decided && (s.protected || !s.tailWaits)
    else if c.code == codeBind then s.recordsDurable && !(s.discardRuns (bindStart c.a) (bindPages c.b))
    else if c.code == codeOpen then !s.tailBlocked
    else s.recordsDurable

/-- A running BIND claims a page of a range (R128). -/
def State.bindRuns (s : State) (first n : Nat) : Bool :=
  s.groups.any fun e => match e.2.running with
    | some c => c.code == codeBind && c.status == 0 && overlaps first n (bindStart c.a) (bindPages c.b)
    | none => false

/-- The refusal reason of a discard of `start`, `length` in bytes; the lowest number that holds, 0 for none (R61). -/
def State.discardReason (s : State) (start length : Nat) : Nat :=
  let first := start / 4096
  let n := length / 4096
  if start % 4096 != 0 || length % 4096 != 0 || length == 0 then 1
  else if 4398046511104 < start + length then 2
  else if (s.lowestOffline first n).isSome then 3
  else if (lowestShared first n ((s.groups.map fun e => e.2.extents).flatten)).isSome then 4
  else 0

/-- A discard that waits behind a BIND is judged once no running BIND overlaps it: the pages that the BIND bound refuse it with
reason 4 (R128). -/
def wakeDiscard (p : Port) (s : State) : State :=
  let d := (s.port p).discard
  if d.waits && !s.bindRuns d.firstPage d.pages then
    let reason := s.discardReason (d.firstPage * 4096) (d.pages * 4096)
    s.modPort p fun q => { q with discard :=
      if reason = 0 then { q.discard with waits := false }
      else { q.discard with waits := false, status := 3, reason := reason } }
  else s

/-- A port has a command of the group in hand that it wrote before acceptance number `n`. -/
def Group.waitsFor (gr : Group) (p : Port) (n : Nat) : Bool :=
  (gr.running.toList ++ gr.waiting).any fun c => c.port == p && decide (c.seq < n)

/-- Answer the waiting reads of a group's control line whose port has no earlier command in hand (R57). -/
def answerReaders (g : Nat) (s : State) : State :=
  let gr := s.group g
  let ready := gr.readers.filter fun r => !gr.waitsFor r.port r.seq
  let s := s.setGroup g { gr with readers := gr.readers.filter fun r => gr.waitsFor r.port r.seq }
  ready.foldl (fun t r => sampleWindow r.port 4 r.line r.sampled (sendData r.port r.tag (groupLine gr) false t)) s

/-- What finishing a command writes: the result word, the longest commit, and a forced abort that fell due meanwhile. -/
def writeResult (g : Nat) (c : GroupCommand) (s : State) : State :=
  let gr := s.group g
  let s := s.setGroup g { gr with running := none, result := resultWord c.status (c.code % 256) gr.phase.code c.detail }
  let s := if c.code = codeCommit ∧ c.status ≠ 0x0401 ∧ c.status ≠ 0x0A05 then s.raiseTo 0x502009 (s.clock - c.startedAt) else s
  let gr := s.group g
  match gr.pendingForce with
  | none => s
  | some cause =>
    if gr.isOpen then forceAbortNow g cause s else s.setGroup g { gr with pendingForce := none }

/-- The next waiting command of a group takes effect. -/
def startNext (g : Nat) (s : State) : State :=
  let gr := s.group g
  match gr.waiting with
  | [] => s
  | next :: rest => startCommand g next (s.setGroup g { gr with waiting := rest })

/-- The running command finishes: its effect, its result word, the next command of the group, the reads and the discards that
waited for it. -/
def finishCommand (g : Nat) (s : State) : State :=
  match (s.group g).running with
  | none => s
  | some c =>
    let s := if c.status = 0 then applyCommand g c s else s
    wakeDiscard .b (wakeDiscard .a (answerReaders g (startNext g (writeResult g c s))))

/-- Let the group's commands run to their end, as a drain that waits for them does (R57, R124): at most `n` of them. -/
def settleGroup : Nat → Nat → State → State
  | 0, _, s => s
  | n + 1, g, s =>
    let s := if s.commitReady g then decideCommit g s else s
    let s := if s.canFinish g then s else finishDiscards s
    if s.canFinish g then settleGroup n g (finishCommand g s) else s

/-- How many commands a group has in hand. -/
def Group.commands (gr : Group) : Nat := gr.waiting.length + (if gr.running.isSome then 1 else 0)

/-- Every command the group has in hand runs to its end. -/
def settle (g : Nat) (s : State) : State := settleGroup (s.group g).commands g s

/-- The group that holds back an owner-port store (R124): a BIND, COMMIT or ABORT accepted before it is in hand and binds or
releases its page. -/
def State.heldBy (s : State) (p : Port) (x : Store) : Option Nat :=
  let page := pageOfLine x.line
  (s.groups.find? fun e =>
    (e.2.running.toList ++ e.2.waiting).any fun c =>
      c.port == p && decide (c.seq < x.seq) &&
        ((c.code == codeBind && c.status == 0 && extentHas page (bindStart c.a, bindPages c.b)) ||
         ((c.code == codeCommit || c.code == codeAbort) && c.status == 0 && !c.decided && e.2.owner == p &&
            e.2.extents.any (extentHas page)) ||
         c.released.any (extentHas page))).map (·.1)

end Sys2Proof.Machine
end

