-- ==== Sys2Proof/Machine/Rebuild.lean ====
section
/-! DEFINITION. Rebuilding one segment after RESTORE (R161). -/

namespace Sys2Proof.Machine

/-- The commit of a group tag whose window holds a stamp (R139). -/
def State.commitOf (s : State) (tag stamp : Nat) : Option Nat :=
  (s.xlat.commits.find? fun c => c.1 == tag && decide (c.2.1 < stamp) && decide (stamp < c.2.2)).map (·.2.2)

/-- Insert a committed delta entry unless the map holds one for the line. -/
def insertIfAbsent (d : Delta) (l : List Delta) : List Delta :=
  if l.any fun x => x.line == d.line && x.grp == d.grp then l else l ++ [d]

/-- Insert a delta entry if it is at least as new as the one the map holds for the line. -/
def insertIfNewer (d : Delta) (l : List Delta) : List Delta :=
  match l.find? fun x => x.line == d.line && x.grp == d.grp with
  | some x => if x.stamp ≤ d.stamp then (l.filter fun y => !(y.line == d.line && y.grp == d.grp)) ++ [d] else l
  | none => l ++ [d]

/-- Rebuild a segment from its checkpoint and the pending records (R161). A provisional entry of the checkpoint that its group's commit makes
committed ranks by the commit stamp, before an older store found in the log (R18). -/
def rebuildSegment (seg : Nat) (s : State) : State :=
  if s.isRebuilt seg then s
  else
    let cp := tfind seg s.xlat.checkpoints
    let map := s.latentMap seg
    let usable := s.latentUsable seg
    let committed := match cp with
      | some c => c.deltas.filter usable
      | none => []
    let late : List Delta := match cp with
      | some c => c.provisional.filterMap fun e =>
          match s.commitOf e.1 e.2.stamp with
          | some st => if usable e.2 then some { e.2 with grp := none, stamp := st, tag := none } else none
          | none => none
      | none => []
    let delta := late.foldl (fun l d => insertIfNewer d l) (committed.foldl (fun l d => insertIfAbsent d l) s.xlat.delta)
    { s with xlat := { s.xlat with
      mainMap := map.foldl (fun m e => tput e.1 e.2 m) s.xlat.mainMap,
      delta := delta,
      rebuilt := s.xlat.rebuilt ++ [seg],
      rebuilding := s.xlat.rebuilding.filter (· != seg),
      rebuildQueue := s.xlat.rebuildQueue.filter (· != seg) } }

/-- Start a segment's demand rebuild, or join the one that runs: at most 16 run, further ones queue (R164). -/
def startRebuild (seg : Nat) (s : State) : State :=
  if s.isRebuilt seg || s.xlat.rebuilding.contains seg || s.xlat.rebuildQueue.contains seg then s
  else if s.xlat.rebuilding.length < 16 then
    { s with xlat := { s.xlat with rebuilding := s.xlat.rebuilding ++ [seg] } }.bump 0x404105
  else { s with xlat := { s.xlat with rebuildQueue := s.xlat.rebuildQueue ++ [seg] } }

end Sys2Proof.Machine
end

