-- ==== Sys2Proof/Machine/Responses.lean ====
section
/-! DEFINITION. Outstanding reads: which dies and media regions answer (R201, R240), where one waits, what a media region queue serves next
(R197), and the response (R85, R183, R207, R500); the fetch of an integrity line that changes (R327). -/

namespace Sys2Proof.Machine

/-- Classes: the code of 0x41nn.04 for a host read; 3 is background (R196). -/
abbrev clsNormal : Nat := 0
abbrev clsPrompt : Nat := 1
abbrev clsBulk : Nat := 2
abbrev clsBackground : Nat := 3

/-! ### Dies and media regions -/

/-- The media region is programming or resetting: an operation runs there and is not suspended. -/
def State.regionBusy (s : State) (region : Nat) : Bool := (s.regionOps region).any fun o => !o.suspended

/-- An operation of the region is held to completion (R201). -/
def State.regionHeld (s : State) (region : Nat) : Bool := (s.regionOps region).any (·.held)

/-- A read of a unit is served by stripe reconstruction: its die is Failed, Retired or paused, its stripe has lost the member, the
media region has a suspend overrun, or it holds an operation to completion and the read is prompt or normal. -/
def State.reconstructs (s : State) (cls unit : Nat) : Bool :=
  let d := dieOfUnit unit
  let region := regionOfUnit unit
  decide (2 ≤ s.dieState d) || s.diePaused d || (s.stripe (stripeOfUnit unit)).lost.contains (channelOfUnit unit) ||
    s.med.overrunRegions.contains region ||
    (s.regionHeld region && (cls == clsPrompt || cls == clsNormal))

/-- The sector of a unit can be rebuilt: no other member of its stripe lies on a failed die or has retired (R239, R240). -/
def State.stripeReadable (s : State) (unit : Nat) : Bool :=
  let st := stripeOfUnit unit
  ((s.members st).filter (· != channelOfUnit unit)).all fun c =>
    s.dieState (dieOfUnit (unitOf st c)) != 2 && !((s.unit (unitOf st c)).state == 3 || (s.unit (unitOf st c)).state == 4)

/-- `n` sectors cross a channel, each one chunk of 268 bytes (R230). -/
def sectorsMoved (ch n : Nat) (s : State) : State :=
  ((count 0x26 ch n (count 0x20 ch n s)).addTo (channelKey ch 0x02) n).addTo (channelKey ch 0x01) (268 * n)

/-- A sector crosses a channel. -/
def sectorMoved (ch : Nat) (s : State) : State := sectorsMoved ch 1 s

/-- The sectors read for `n` reconstructions: the same position of every other member not retired (R240). -/
def reconstructions (unit n : Nat) (s : State) : State :=
  ((s.liveMembers (stripeOfUnit unit)).filter (· != channelOfUnit unit)).foldl (fun t c => sectorsMoved c n t) s

/-- The sectors read for one reconstruction. -/
def reconstructionReads (unit : Nat) (s : State) : State := reconstructions unit 1 s

/-- `n` sectors of a unit that another agent than a host reads within its own step, in the class of Table — Classes of other reads (R196):
the bulk and background ones wait for a held operation, the others are reconstructed (R201). DESIGN CHOICE (log 200): such a read, and one of
a reconstruction, stands in no media region queue; its waits are within the step. -/
def agentReads (cls unit n : Nat) (s : State) : State :=
  if s.reconstructs cls unit then reconstructions unit n s else sectorsMoved (channelOfUnit unit) n s

/-! ### Integrity lines that change -/

/-- The sector of an integrity page crosses its channel, where the integrity table names one. -/
def integritySector (obj : IntegrityObject) (s : State) : State :=
  match tfind (integrityPage obj) s.integ.table with
  | some v => sectorMoved (channelOfUnit (unitOfMap v)) s
  | none => s

/-- An integrity line that is to change enters the counter cache first, with what its walk fetches (R327). DEDUCED (log 190): in the step that
changes it; a line that fails its check comes as the event that names it. -/
def fetchLine (obj : IntegrityObject) (s : State) : State :=
  if s.isCached obj && !(s.integ.pendingEntries.any fun e => e.1 == obj) then s
  else
    let walk := s.walk obj
    let s := if s.isCached obj then s else walk.foldl (fun t o => (integritySector o t).bump 0x70030A) s
    walk.reverse.foldl (fun t o => cacheLine o t) s

/-! ### The list of outstanding reads -/

def State.findRead (s : State) (id : Nat) : Option Read := s.reads.find? fun r => r.id == id

def modRead (id : Nat) (f : Read → Read) (s : State) : State :=
  { s with reads := s.reads.map fun r => if r.id == id then f r else r }

def addRead (r : Read) (s : State) : State := { s with reads := s.reads ++ [{ r with id := s.nextRead }], nextRead := s.nextRead + 1 }

/-- The read of a demand: a host's, or the merge of a partial write. -/
def Read.demand (r : Read) : Bool :=
  match r.reader with
  | .prefetch => false
  | .ladder => false
  | _ => true

/-- A prompt read in the sense of R207: a MemRd to a line of a prompt region whose State reads 1. -/
def Read.isPrompt (r : Read) : Bool := r.cls == clsPrompt && decide (0 < r.boundNs)

/-- Rank in a media region queue (Table — Latency classes, R196). A prefetch has normal rank, but it yields to every demand read (R185):
DEDUCED (log 156), it stands between bulk and background reads. -/
def Read.rank (r : Read) : Nat :=
  if r.reader == .prefetch then 4
  else if r.cls == clsPrompt then 1 else if r.cls == clsNormal then 2 else if r.cls == clsBulk then 3 else 5

/-- In a media region's queue. -/
def Read.inQueue (r : Read) (region : Nat) : Bool :=
  regionOfUnit r.unit == region && (r.place == .queued)

def State.regionQueue (s : State) (region : Nat) : List Read := s.reads.filter (·.inQueue region)

/-- The integrity line that holds the tag of the line that a read takes. -/
def State.tagOf (s : State) (r : Read) : IntegrityObject :=
  tagObject r.line r.source (r.found == foundLog && match s.logLine r.source with
    | some l => l.sealed.stampForm
    | none => false)

/-- A host's read of a provisional version in the log, whose tag is a place tag (R207). -/
def State.ownedLogRead (s : State) (r : Read) : Bool :=
  r.found == foundLog && (s.xlat.delta.any fun d => d.place == r.source && d.line == r.line && d.grp.isSome) &&
    (match r.reader with
      | .host _ _ => true
      | _ => false)

/-- The tag read of a read is issued beside its data: a prompt read's, and that of an owner's read of a provisional version (R207, R314). -/
def State.tagBeside (s : State) (r : Read) : Bool := r.isPrompt || s.ownedLogRead r

/-- The tag read that was issued beside a read has not ended: the data is checked with the later of the two (R314). -/
def State.tagWaits (s : State) (r : Read) : Bool :=
  s.tagBeside r && s.reads.any fun x => x.reader == .tag (s.tagOf r)

/-- The read a media region serves next: the best rank, the oldest within it (R197). -/
def State.queueHead (s : State) (region : Nat) : Option Read :=
  ((s.regionQueue region).filter fun r => !s.tagWaits r).foldl
    (fun h r => match h with
      | none => some r
      | some x => if r.rank < x.rank then some r else some x) none

/-- Prompt reads waiting in a media region's queue: they take its two reserved slots (R197). -/
def State.promptQueued (s : State) (region : Nat) : Nat :=
  ((s.regionQueue region).filter fun r => r.cls == clsPrompt).length

/-- Prompt reads from the medium in flight, 0x4081.09. -/
def State.promptInFlight (s : State) : Nat :=
  (s.reads.filter fun r => r.isPrompt && r.place != .merge && r.place != .rebuild && !r.answered).length

/-- The oldest prompt read of a channel's overflow queue for a region moves into a slot that is free, entitled from there (R195, R197). -/
def refillSlot (region : Nat) (s : State) : State :=
  if s.promptQueued region < 2 then
    match s.reads.find? fun r => r.place == .overflow && regionOfUnit r.unit == region with
    | some r => modRead r.id (fun x => { x with place := .queued, entitled := true }) s
    | none => s
  else s

/-- Both reserved slots of a region take what waits for them (R197). -/
def refillPrompt (region : Nat) (s : State) : State := refillSlot region (refillSlot region s)

/-- A read leaves the list, and with it the slot it held. -/
def dropRead (id : Nat) (s : State) : State :=
  let t := { s with reads := s.reads.filter fun r => r.id != id }
  match s.findRead id with
  | some r => refillPrompt (regionOfUnit r.unit) t
  | none => t

/-! ### The response -/

/-- The prompt bound in force in ns (R207, R210): 3.0, 3.1 and 3.1 µs, 0.1 µs more while a package is between 85 and 90 °C. -/
def State.promptBound (s : State) : Nat :=
  let hot := decide (85 < s.getInt 16 0x900101)
  (if s.mode == modeReduced || s.mode == modeMinimal then 3100 else 3000) + (if hot then 100 else 0)

/-- A prompt read from the medium has been answered: the longest, and those over the bound (R215, R216). No bound holds for one that
waited for a rebuild (R210). -/
def promptDone (r : Read) (s : State) : State :=
  let ns := s.clock - r.acceptedAt
  let s := s.raiseTo 0x408103 ns
  if !r.rebuilt && r.isPrompt && decide (r.boundNs < ns) then raise 95 (s.bump 0x408102) else s

/-- The sample record of a read, made when its response leaves; its stamp is taken at its sampling point (R500). -/
def sampleRead (p : Port) (opcode line acceptedAt outcome unit steps cls flags : Nat) (poison : Bool) (s : State) : State :=
  let stamp := s.stampNow
  placeSample { stamp := stamp, time := s.deviceTime - (s.clock - acceptedAt), line := line, port := p, opcode := opcode,
                outcome := outcome, die := if outcome = foundLog ∨ outcome = foundPage then dieOfUnit unit else 0xFF,
                steps := steps, cls := cls, flags := flags + (if poison then 1 else 0) } (takeStamp s)

/-- Answer a read and take it off the list. A read that its deadline has answered gets no second response (R213). -/
def answerRead (r : Read) (v : Version) (s : State) : State :=
  let s := dropRead r.id s
  match r.reader with
  | .prefetch => s
  | .merge _ _ => s
  | .ladder => s
  | .tag _ => s
  | .host p tag =>
    if r.answered then s
    else
      let s := sendData p tag v.data v.poison s
      let s := if r.isPrompt && (v.found == foundLog || v.found == foundPage) then promptDone r s else s
      if r.sampled then sampleRead p 1 r.line r.acceptedAt v.found v.unit r.steps r.cls r.flags v.poison s else s

/-- The version a port's read returns now (R85, R87): its newest queued whole-line store, else what is visible to it. -/
def State.readValue (s : State) (p : Port) (line : Nat) : Version :=
  if s.lineOffline line then { data := 0, poison := true, stamp := 0, found := foundZeros }
  else match s.newestQueued p line with
  | some x =>
    if x.whole then { data := if x.poison then 0 else x.data, poison := x.poison, stamp := 0, found := foundQueue }
    else s.visibleTo p line
  | none => s.visibleTo p line

/-- Reads of a port that waited for the merge of a line are answered once no partial write to it is left (R87). -/
def answerMerges (p : Port) (line : Nat) (s : State) : State :=
  if (s.port p).queue.any fun x => x.line == line && !x.whole then s
  else
    (s.reads.filter fun r => r.place == .merge && r.line == line &&
      (match r.reader with | .host q _ => q == p | _ => false)).foldl
      (fun t r => answerRead r (t.readValue p line) t) s

end Sys2Proof.Machine
end

