-- ==== Sys2Proof/Machine/WearOps.lean ====
section
/-! DEFINITION. What programs and resets do to units: cycles, life, disturb counts (R219, R226, R268), lasting faults and
retirement (R269, R282), the reset of a stripe (R236, R239, R270, R283, R292), and the report of a health change (R294). -/

namespace Sys2Proof.Machine

/-! ### Units -/

/-- The UNIT_STATE record of a unit as it stands (R270). -/
def recordUnit (u : Nat) (s : State) : State := journalPut (.unitState u (s.unit u).state (s.unit u).cellMode) s

/-- A unit's state changes (R269, R270); a unit that leaves use is reported (source 240), one that retires counted. -/
def setUnitState (u state : Nat) (s : State) : State :=
  if (s.unit u).state = state then s
  else
    let s := recordUnit u (s.setUnit u { s.unit u with state := state })
    if state = 2 then raise 239 s
    else if state = 3 ∨ state = 4 then raise 240 ((s.bump 0x619004).bump (dieKey (dieOfUnit u) 0x02))
    else if state = 5 then raise 240 s
    else s

/-- A lasting fault (R282): the first makes the unit Suspect, a second retires it. -/
def lastingFault (u : Nat) (s : State) : State :=
  let r := s.unit u
  if r.gone then s
  else if r.faults = 0 then setUnitState u 2 (s.setUnit u { r with faults := 1 })
  else noteHealth (setUnitState u 3 (s.setUnit u { r with faults := 2 }))

/-- One SL sector program on a unit has ended (R219). While the module is unprotected a record of its wear is programmed at once (R19). -/
def sectorProgrammed (u page : Nat) (s : State) : State :=
  let t := sectorsProgrammed u 1 page s
  if !t.protected && t.tailWaits then programTail t else t

/-- One ML page program on a unit has ended, with the waveform band of its dispatch (R268, R277). -/
def pageProgrammed (u page band : Nat) (s : State) : State :=
  let s := disturb u 1 (count1 0x22 (channelOfUnit u) s)
  s.setUnit u (s.recordAt u page band)

/-- A unit has been reset into a cell mode: an ML unit completes a cycle in the mode it had (R219). The UNIT_STATE record follows
the reset (R270). -/
def unitReset (u mode : Nat) (s : State) : State :=
  let s := disturb u 0 (count1 0x23 (channelOfUnit u) s)
  let s := if (s.unit u).cellMode = 1 then s else addCycles u 1 s
  let r := s.unit u
  let r := if r.cellMode = mode then r else { r with cellMode := mode, cycles := 0, slPrograms := 0 }
  let r := if r.state = 1 then { r with state := 0 } else r
  recordUnit u (s.setUnit u { r with resetStamp := s.stampNow, lastPage := none, firstTime := 0, firstAge := 0, calibration := 0 })

/-! ### Stripes -/

/-- The demotion threshold of a mode in parts per million; none below ML-2. -/
def State.demoteLife (s : State) (mode : Nat) : Nat :=
  s.get (if mode = 4 then 0x618001 else if mode = 3 then 0x618002 else 0x618003)

/-- A stripe is demoted at its next reset (R283). -/
def State.demotes (s : State) (stripe : Nat) : Bool :=
  let mode := s.stripeBits stripe
  decide (s.demoteLife mode ≤ lifePpm (s.stripeLife stripe)) || decide (2 ≤ (s.stripe stripe).badVisits)

/-- The cell mode a stripe takes at its next reset; 1 for one demoted to SL only. -/
def State.nextMode (s : State) (stripe : Nat) : Nat :=
  if s.demotes stripe then s.stripeBits stripe - 1 else s.stripeBits stripe

/-- Order the reset of a stripe into a cell mode (R256 step 7): one reset for each member that stays. `jobs` wait for dispatch. `before` is
its cell mode where the reset may be a demotion, else 0. -/
def orderReset (stripe mode before : Nat) (s : State) : State :=
  let stay := s.writeMembers stripe
  let s := s.setStripe stripe { s.stripe stripe with needsReset := true, resetTo := mode, modeBefore := before }
  stay.foldl (fun t c =>
    { t with med := { t.med with
      jobs := t.med.jobs ++ [{ id := t.med.nextId, unit := unitOf stripe c, kind := .reset, owner := .maintenance stripe }],
      nextId := t.med.nextId + 1 } }) s

/-- The free pool has changed: below urgent raises source 233 once; above critical ends the stall (R254). -/
def notePool (s : State) : State :=
  let n := s.freeStripes
  let s := if n < s.get 0x614003 then
      (if s.med.urgent then s else raise 233 { s with med := { s.med with urgent := true } })
    else { s with med := { s.med with urgent := false } }
  if s.med.critical && decide (s.get 0x614004 < n) then { s with med := { s.med with critical := false } } else s

/-- What a stripe's reset makes of it: withdrawn with fewer than 8 members, its ring's stripe, SL only, or free (R239, R263, R284, R292). -/
def StripeRec.roleAfter (r : StripeRec) (left : Nat) (slOnly : Bool) : Role :=
  if left < 8 then .withdrawn
  else match r.role with
    | .ring x i => .ring x i
    | _ => if slOnly then .slOnly else .free

/-- The members of a stripe have been reset. Retired members leave it; a stripe of fewer than 8 members is withdrawn; a demotion is
counted; else the stripe joins the free pool, serves the ring it was taken for, or serves SL rings only (R239, R283, R284, R292). Its
pages and their footers are gone. -/
def finishReset (stripe : Nat) (s : State) : State :=
  let r := s.stripe stripe
  let lost := r.lost ++ s.leaving stripe
  let left := (List.range 16).filter fun c => !lost.contains c
  let demoted := r.modeBefore == r.resetTo + 1
  let slOnly := r.slOnly || (demoted && r.resetTo == 1)
  let role := r.roleAfter left.length slOnly
  let s := s.setStripe stripe { r with
    role := role, lost := lost, nextPage := 0, needsReset := false, refresh := false, badVisits := 0, resetTo := 0,
    modeBefore := 0, slOnly := slOnly }
  let s := { s with med := { s.med with
    ml := s.med.ml.filter fun e => stripeOfUnit (unitOfMap e.1) != stripe,
    footers := s.med.footers.filter fun e => stripeOfUnit (e.1 / 512) != stripe } }
  let s := if demoted then raise 241 (s.bump 0x618005) else s
  let s := if left.length < 8 then left.foldl (fun t c => setUnitState (unitOf stripe c) 5 t) s
    else match role with
      | .ring _ _ => left.foldl (fun t c => if (t.unit (unitOf stripe c)).state = 0 then setUnitState (unitOf stripe c) 1 t else t) s
      | _ => s
  noteHealth (notePool s)

end Sys2Proof.Machine
end

