-- ==== Sys2Proof/Machine/LogOps.lean ====
section
/-! DEFINITION. The log writer's operations: sealing a line (R302 to R308),
the room of a prompt home bucket (R205), building a log row (R238, R243 to R246), and its completion (R180, R237, R316). -/

namespace Sys2Proof.Machine

/-! ### Sealing -/

/-- The seal of a stamp-form line (R302). -/
def stampSeal (slot stamp : Nat) : Seal :=
  { slot := slot, stampForm := true, major := stamp / 128, minor := stamp % 128 }

/-- The media sectors that hold the committed versions of some lines: unit and position, a log sector with three lines, a page's with four. -/
def State.sectorsHolding (s : State) (lines : List Nat) : List (Nat × Nat) :=
  (lines.filterMap fun l => match s.deltaOf l none with
    | some d => some (s.unitOfPlace d.place, d.place / 3)
    | none => (s.mapOf (pageOfLine l)).map fun v => (unitOfMap v, v * 16 + l % 64 / 4)).eraseDups

/-- A page is re-encrypted (R307, R308): its other 63 committed lines are read, its major counter rises, its minors restart, and those lines are to be
written to the log under the new major, as moves. DESIGN CHOICE (log 190): their reads are background ones, in the step; a line that fails its
check comes as the event that names it. -/
def reEncrypt (line : Nat) (s : State) : State :=
  let page := pageOfLine line
  let s := (s.sectorsHolding (((List.range 64).map fun i => page * 64 + i).filter (· != line))).foldl
    (fun t x => agentReads clsBackground x.1 1 t) s
  let major := (tgetD {} page s.integ.counters).major + 1
  let slot := s.lineAttr line 0x09
  let preset : Seal := { slot := slot, stampForm := false, major := major, minor := 0 }
  let others := ((List.range 64).map fun i => page * 64 + i).filter (· != line)
  let moves := others.map fun l =>
    let v := s.mediumVersion l
    ({ line := l, grp := none, data := v.data, poison := v.poison, stamp := v.stamp,
       source := (s.deltaOf l none).map (·.place), preset := some preset } : LogMove)
  let s := { s with
    integ := { s.integ with counters := tset {} page { major := major, minors := [] } s.integ.counters },
    med := { s.med with moves := (s.med.moves.filter fun m => !(pageOfLine m.line == page && m.grp == none)) ++ moves } }
  raise 60 ((putEntry (.major page major) (touchBlock page s)).bump 0x700306)

/-- The seal that a version takes when it is placed in a row: stamp form for one with a group tag; else the minor counter goes up by
one, or the page is re-encrypted when it reads 127 (R305, R307). -/
def takeSeal (line : Nat) (tag : Option Nat) (stamp : Nat) (preset : Option Seal) (s : State) : Seal × State :=
  let slot := s.lineAttr line 0x09
  match preset with
  | some e => (e, touchIntegrity (.tagLine (line / 8)) (fetchLine (.tagLine (line / 8)) s))
  | none =>
    match tag with
    | some _ => (stampSeal slot stamp, s)
    | none =>
      let page := pageOfLine line
      let s := fetchLine (.tagLine (line / 8)) (fetchLine (.counterBlock page) s)
      let i := line % 64
      let old := tgetD {} page s.integ.counters
      let minor := tgetD 0 i old.minors
      let s := if minor = 127 then reEncrypt line s
        else { s with integ := { s.integ with
          counters := tset {} page { old with minors := tput i (minor + 1) old.minors } s.integ.counters } }
      let now := tgetD {} page s.integ.counters
      ({ slot := slot, stampForm := false, major := now.major, minor := tgetD 0 i now.minors },
        touchIntegrity (.tagLine (line / 8)) (touchBlock page s))

/-- A version placed at a log place. -/
def sealInto (place line : Nat) (grp tag : Option Nat) (data : Line) (poison : Bool) (stamp : Nat) (preset : Option Seal) (s : State) :
    LogLine × State :=
  let (e, s) := takeSeal line tag stamp preset s
  let cipher := if poison then 0 else s.cryptLine line e data
  let s := if e.stampForm then touchIntegrity (.placeTag (placeIndex place / 8)) (fetchLine (.placeTag (placeIndex place / 8)) s) else s
  ({ place := place, line := line, grp := grp, poison := poison, cipher := cipher, stamp := stamp,
     tag := s.tagFor line e poison cipher, sealed := e, groupTag := tag }, s)

/-! ### The delta map (R149, R205) -/

/-- The home bucket of a line. -/
def homeBucket (line : Nat) : Nat := Config.deltaPermutation line % 33554432

/-- Slots that an entry takes. -/
def Delta.slots (d : Delta) : Nat := if d.grp.isSome then 2 else 1

/-- A line of a prompt region. -/
def State.promptLine (s : State) (line : Nat) : Bool := s.lineAttr line 0x04 == 1

/-- Slots that an entry of a line takes: two with a companion. -/
def slotsOf (grp : Option Nat) : Nat := if grp.isSome then 2 else 1

/-- The entries that rows in flight will make: line and group of each version placed and not yet landed. -/
def State.landing (s : State) : List (Nat × Option Nat) :=
  ((s.med.rows.filter (!·.complete)).map fun r => r.lines.map fun l => (l.line, l.grp)).flatten

/-- Whether the home bucket has room for an entry of a prompt-region line beside those that are `coming` (R205): entries of other lines can
be moved to an overflow bucket, whose link takes slot 7. -/
def State.bucketRoom (s : State) (coming : List (Nat × Option Nat)) (line : Nat) (grp : Option Nat) : Bool :=
  let known := fun (k : Nat × Option Nat) => s.xlat.delta.any fun d => d.line == k.1 && d.grp == k.2
  if !s.promptLine line || known (line, grp) || coming.contains (line, grp) then true
  else
    let here := s.xlat.delta.filter fun d => homeBucket d.line == homeBucket line
    let new := coming.eraseDups.filter fun k => homeBucket k.1 == homeBucket line && s.promptLine k.1 && !known k
    let used := (here.filter fun d => s.promptLine d.line).foldl (fun n d => n + d.slots) 0 + new.foldl (fun n k => n + slotsOf k.2) 0
    let link : Nat := if here.any fun d => !s.promptLine d.line then 1 else 0
    decide (used + slotsOf grp + link ≤ 8)

/-- The segment with the most entries in a line's home bucket, and the request to fold it. -/
def wantFold (line : Nat) (s : State) : State :=
  let here := s.xlat.delta.filter fun d => homeBucket d.line == homeBucket line
  let segs := (here.map fun d => segmentOfLine d.line).eraseDups
  let n := fun (g : Nat) => (here.filter fun d => segmentOfLine d.line == g).length
  match segs.foldl (fun m g => match m with
    | none => some g
    | some x => if n x < n g then some g else some x) none with
  | none => s
  | some g => { s with xlat := { s.xlat with foldWanted := insertNew g s.xlat.foldWanted } }

/-- The entry of a line and group, or none, becomes the given one. -/
def putDelta (d : Delta) (s : State) : State :=
  { s with xlat := { s.xlat with delta := (s.xlat.delta.filter fun x => !(x.line == d.line && x.grp == d.grp)) ++ [d] } }

/-! ### The full log (R245, R267) -/

/-- The log becomes full, or stops being full: its episodes, source 232 and the longest episode. -/
def checkLogFull (s : State) : State :=
  match s.med.fullSince with
  | none =>
    if s.slLogFull then
      let s := State.bump { s with med := { s.med with fullSince := some s.clock } } 0x613009
      if s.med.fullReported then s else raise 232 { s with med := { s.med with fullReported := true } }
    else if s.logFill < s.foldStart then { s with med := { s.med with fullReported := false } }
    else s
  | some t =>
    if s.slLogFull then s
    else State.raiseTo { s with med := { s.med with fullSince := none } } 0x61300A ((s.clock - t) / 1000000)

/-! ### Rows -/

/-- The entries of a list, in order, that find room in their home buckets one after the other. -/
def State.fitting {α : Type} (s : State) (key : α → Nat × Option Nat) (l : List α) (coming : List (Nat × Option Nat)) : List α :=
  (l.foldl (fun (acc : List α × List (Nat × Option Nat)) x =>
    if s.bucketRoom acc.2 (key x).1 (key x).2 then (acc.1 ++ [x], acc.2 ++ [key x]) else acc) ([], coming)).1

/-- A committed line of the page lies in the log in stamp form, with its group's commit record not yet programmed: until it is, no copy of the
line may stand without the group tag (R35, R305). -/
def State.awaitsRecord (s : State) (page : Nat) : Bool :=
  s.xlat.delta.any fun d => d.grp.isNone && pageOfLine d.line == page && !s.recordProgrammed d.stamp &&
    ((s.logLine d.place).map fun l => l.groupTag.isSome).getD false

/-- Placing a staged line re-encrypts its page (R307). -/
def State.overflows (s : State) (l : Staged) : Bool :=
  l.tag.isNone && tgetD 0 (l.line % 64) (tgetD {} (pageOfLine l.line) s.integ.counters).minors == 127

/-- The staged lines that the log writer has taken and that no row holds. One whose placing would re-encrypt a page waits for the commit
records of the page's lines (R35). -/
def State.takenLines (s : State) : List Staged :=
  s.staging.filter fun l => l.taken && l.row.isNone && !(s.overflows l && s.awaitsRecord (pageOfLine l.line))

/-- A copy that waits to be moved is still current: the delta map names the place it was made from, or its page's line has no newer version. -/
def State.moveCurrent (s : State) (m : LogMove) : Bool :=
  match m.source with
  | some pl => ((s.deltaOf m.line m.grp).map (·.place)) == some pl
  | none => (s.deltaOf m.line none).isNone && (s.mapOf (pageOfLine m.line)).isSome

/-- The copies the next row takes: moves first, then staged lines, as far as their delta entries have room (R205). A full log takes only
relocations of lines of open groups, into the relocation reserve (R245). -/
def State.nextMoves (s : State) : List LogMove :=
  s.fitting (fun m => (m.line, m.grp)) (s.med.moves.filter fun m => s.moveCurrent m && (m.grp.isSome || !s.slLogFull)) s.landing
def State.nextStaged (s : State) : List Staged :=
  if s.slLogFull then []
  else s.fitting (fun l => (l.line, l.grp)) s.takenLines (s.landing ++ s.nextMoves.map fun m => (m.line, m.grp))

/-- Lines that wait for room in a prompt home bucket (R205). -/
def State.crowdedLines (s : State) : List Staged := s.takenLines.filter fun l => !s.bucketRoom s.landing l.line l.grp

/-- Copies that a row could take now. -/
def State.readyCount (s : State) : Nat := s.nextMoves.length + s.nextStaged.length

/-- A row can be dispatched: programs run in the mode, and the row at the head has been trimmed since its last program (R244). -/
def State.rowOpen (s : State) : Bool :=
  decide (0 < s.tokenBudget) && decide (s.logRows < 8388608) && s.mayProgram (s.rowStripe s.med.head)

/-- Sectors of a row have been programmed. -/
def rowStarted (mark : Nat) (x : List ProgramStart) (s : State) : State :=
  { s with med := { s.med with rows := s.med.rows.map fun r => if r.mark == mark then { r with starts := r.starts ++ x } else r } }

/-- The stamp of a moved copy (R253): its own, or a fresh one where it lies more than 2^31 below the row's program stamp, taken in the step that
checks that the copy is still current. DEDUCED (log 179): the row's program stamps are judged where the row is dispatched. -/
def moveStamp (m : LogMove) (s : State) : Nat × State :=
  if m.grp.isSome ∧ m.stamp + 2147483648 < s.nextStamp then (s.stampNow, takeStamp s) else (m.stamp, s)

/-- Place the moves of a row from position `q` on. -/
def placeMoves (mark : Nat) : Nat → List LogMove → List LogLine → State → List LogLine × State
  | _, [], acc, s => (acc, s)
  | q, m :: t, acc, s =>
    let (stamp, s) := moveStamp m s
    let (l, s) := sealInto (mark * 45 + q) m.line m.grp m.groupTag m.data m.poison stamp m.preset s
    placeMoves mark (q + 1) t (acc ++ [{ l with moved := some m.source }]) s

/-- Place the staged lines of a row from position `q` on. -/
def placeStaged (mark : Nat) : Nat → List Staged → List LogLine → State → List LogLine × State
  | _, [], acc, s => (acc, s)
  | q, x :: t, acc, s =>
    let (l, s) := sealInto (mark * 45 + q) x.line x.grp x.tag x.data x.poison (if x.tag.isSome then x.orig else x.stamp) none s
    placeStaged mark (q + 1) t (acc ++ [l]) s

/-- Prompt-region lines that find their home bucket full have a segment of it folded (R205). -/
def noteCrowded (s : State) : State := s.crowdedLines.foldl (fun t l => wantFold l.line t) s

/-- Dispatch a log row with what is ready, up to its width: the lines are sealed, the head moves on, and one sector program for
each member waits for its sequencer (R237, R238). -/
def dispatchRow (s : State) : State :=
  let mark := s.med.head
  let stripe := s.rowStripe mark
  let data := s.writeData stripe
  let width := s.rowPlaces stripe
  let moves := s.nextMoves.take width
  let staged := s.nextStaged.take (width - moves.length)
  let s := { s with med := { s.med with moves := s.med.moves.filter fun m => !moves.contains m && s.moveCurrent m } }
  let (lines, s) := placeMoves mark 0 moves [] s
  let (lines, s) := placeStaged mark moves.length staged lines s
  let jobs := ((s.writeMembers stripe).zipIdx).map fun (c, i) =>
    ({ id := s.med.nextId + i, unit := unitOf stripe c, kind := .sl, owner := .row mark } : Job)
  let inRow := fun (l : Staged) => staged.any fun x => x.line == l.line && x.grp == l.grp
  checkLogFull { s with
    staging := s.staging.map fun l => if inRow l then { l with row := some mark } else l,
    med := { s.med with
      head := mark + 1,
      rows := s.med.rows ++ [{ mark := mark, lines := lines, data := data }],
      jobs := s.med.jobs ++ jobs,
      nextId := s.med.nextId + jobs.length } }

/-! ### Completion -/

/-- Every program of an owner has ended. -/
def State.ownerDone (s : State) (o : Owner) : Bool := !(s.med.jobs.any (·.owner == o)) && !(s.med.ops.any (·.owner == o))

/-- The integrity entry of a placed line (R315). -/
def LogLine.entry (l : LogLine) : IntegrityKind :=
  if l.sealed.stampForm then .place (placeIndex l.place) l.tag else .line l.line l.sealed.minor l.poison l.tag

/-- A moved copy takes the place of the one it was made from, if that is still current: its delta entry names the place moved from,
or there is none and the page has not been discarded. -/
def landMove (l : LogLine) (source : Option Nat) (s : State) : State :=
  let d : Delta := { line := l.line, grp := l.grp, place := l.place, stamp := l.stamp, tag := l.groupTag }
  match source with
  | some pl =>
    if ((s.deltaOf l.line l.grp).map (·.place)) == some pl then
      let s := putDelta d (dirtySegment (segmentOfLine l.line) s)
      if l.grp.isSome then s.bump 0x613008 else s
    else s
  | none =>
    if (s.deltaOf l.line none).isNone && (s.mapOf (pageOfLine l.line)).isSome then putDelta d (dirtySegment (segmentOfLine l.line) s) else s

/-- The staged line that a line of a row was placed from, still as it was placed. -/
def State.stagedIn (s : State) (mark : Nat) (l : LogLine) : Option Staged :=
  s.staging.find? fun x => x.line == l.line && x.row == some mark && x.tag == l.groupTag

/-- A staged line of the row, still as it was placed, leaves the staging array for the delta map. -/
def landStaged (mark : Nat) (l : LogLine) (s : State) : State :=
  match s.stagedIn mark l with
  | none => s
  | some x =>
    let s := putDelta { line := l.line, grp := x.grp, place := l.place, stamp := x.stamp, tag := if x.grp.isSome then x.tag else none } s
    rearmStall { s with staging := s.staging.filter fun y => !(y.line == x.line && y.grp == x.grp) }

/-- A log row is complete (R237): its entries go to the journal tail, its lines are found through the delta map, and the Cmps that
waited for it are sent once their integrity sector and their journal records have been programmed (R15, R20, R21, R316). -/
def completeRow (r : LogRow) (s : State) : State :=
  let cmps := ((s.staging.filter fun x => x.row == some r.mark).map (·.cmpTo)).flatten
  let landed := r.lines.filterMap fun l => if l.moved.isSome then none else (s.stagedIn r.mark l).map fun x => (x.line, x.stamp)
  let s := { s with med := { s.med with rows := s.med.rows.map fun x => if x.mark == r.mark then { x with complete := true } else x } }
  let s := r.lines.foldl (fun t l => putEntry l.entry t) s
  let s := r.lines.foldl (fun t l => match l.moved with
    | some source => landMove l source t
    | none => landStaged r.mark l t) s
  let s := linesOnMedium landed s
  let s := if !s.protected || !cmps.isEmpty then programTail s
    else if 12 ≤ (s.integ.entries.filter fun e => !e.programmed).length then programEntries s else s
  sendCmps cmps (checkLogFull (count1 0x32 31 s))

/-! ### Rows run to their end -/

/-- The programs of a log row that have not started yet start now, one after the other. -/
def startJobs : List Job → State → List ProgramStart × State
  | [], s => ([], s)
  | j :: t, s =>
    let ch := channelOfUnit j.unit
    let (rest, u) := startJobs t (takeStamp s)
    ({ channel := ch, stamp := s.stampNow, time := s.deviceTime, band := s.packageBand ch } :: rest, u)

/-- Programs of a log row run to their end, one after the other (R22 step 3, R159, R399): the row completes. -/
def landRow (r : LogRow) (s : State) : State :=
  let mine := fun (o : Owner) => o == .row r.mark
  let jobs := s.med.jobs.filter fun j => mine j.owner
  let ops := s.med.ops.filter fun o => mine o.owner
  let gone := ops.map (·.id)
  let s := endOverruns { s with med := { s.med with
    jobs := s.med.jobs.filter fun j => !mine j.owner, ops := s.med.ops.filter fun o => !mine o.owner,
    transfers := s.med.transfers.filter fun t => !gone.contains t.id } }
  let (fresh, s) := startJobs jobs s
  let started := ops.map fun o => ({ channel := channelOfUnit o.unit, stamp := o.stamp, time := o.time, band := o.band } : ProgramStart)
  let s := rowStarted r.mark (started ++ fresh) s
  let s := jobs.foldl (fun t j => programsRun .sl j.unit 1 268 t) s
  completeRow r ((jobs.map (·.unit) ++ ops.map (·.unit)).foldl (fun t u => sectorProgrammed u (r.mark % 8192 / 16) t) s)

/-- Every staged line and waiting copy goes to the log, row by row, as far as the log has room. -/
def flushLog : Nat → State → State
  | 0, s => s
  | n + 1, s =>
    match s.med.rows.find? fun r => !r.complete with
    | some r => flushLog n (landRow r s)
    | none =>
      let t := { s with staging := s.staging.map fun l => { l with taken := true } }
      if t.rowOpen && decide (0 < t.readyCount) then flushLog n (dispatchRow t) else s

/-- Program to the medium every line, dirty counter line, journal-tail record and group-table change (R22 step 3). -/
def programAll (s : State) : State :=
  programTail (flushLog (2 * (s.staging.length + s.med.moves.length + s.med.rows.length) + 2) s)

end Sys2Proof.Machine
end

