-- ==== Sys2Proof/Machine/Replies.lean ====
section
/-! DEFINITION. Answers to dictionary requests: the tags of R443 and R463, the responses of R76 and R459, the end of sessions (R445), and the
requests that a transition overtakes (R395). -/

namespace Sys2Proof.Machine

/-! ### Status codes (R435) -/

abbrev stOk : Nat := 0
abbrev stNoIndex : Nat := 0x0101
abbrev stNoSubindex : Nat := 0x0102
abbrev stAccessDenied : Nat := 0x0201
abbrev stAuthRequired : Nat := 0x0202
abbrev stTypeMismatch : Nat := 0x0301
abbrev stOutOfRange : Nat := 0x0302
abbrev stStateConflict : Nat := 0x0401
abbrev stBusy : Nat := 0x0402
abbrev stRequestIntegrity : Nat := 0x0501
abbrev stStorageFailure : Nat := 0x0601

/-! ### Tags -/

/-- Path codes (R441). -/
def pathCode : Path → Nat
  | .mailbox .a => 1
  | .mailbox .b => 2
  | .fieldLink _ => 3

def onLink : Path → Bool
  | .fieldLink _ => true
  | .mailbox _ => false

/-- Opcodes of Table — Vendor mailbox commands and Table — UDX opcodes. -/
def askOp (path : Path) (ask : DictAsk) : Nat :=
  match path, ask with
  | .mailbox _, .read => 0xC000
  | .mailbox _, .write _ => 0xC001
  | .mailbox _, .act _ => 0xC002
  | .mailbox _, .blockRead _ _ => 0xC006
  | .mailbox _, .blockWrite _ _ _ => 0xC007
  | .fieldLink _, .read => 0x20
  | .fieldLink _, .write _ => 0x21
  | .fieldLink _, .act _ => 0x22
  | .fieldLink _, .blockRead _ _ => 0x30
  | .fieldLink _, .blockWrite _ _ _ => 0x31

/-- The offset that a block transfer carries before its data. -/
def askOffset : DictAsk → List Byte
  | .blockRead offset _ => natToBytes 4 offset
  | .blockWrite offset _ _ => natToBytes 4 offset
  | _ => []

/-- The data of a request. -/
def askData : DictAsk → List Byte
  | .write v => v
  | .act v => v
  | .blockWrite _ v _ => v
  | _ => []

/-- The length field of a request. -/
def askLength : DictAsk → Nat
  | .blockRead _ n => n
  | a => (askData a).length

def askFinal : DictAsk → Bool
  | .blockWrite _ _ f => f
  | _ => false

/-- The UDX header (R457). -/
def udxHeader (op flags session transaction sequence : Nat) : List Byte :=
  natToBytes 1 1 ++ natToBytes 1 op ++ natToBytes 2 flags ++ natToBytes 2 session ++ natToBytes 2 transaction ++ natToBytes 4 sequence

/-- The bytes that the tag of a message covers: op code, first header field of the mailbox (session or status), flags of the field link,
index, subindex, type or flags byte, status, length, offset and value. -/
def covered (req : Req) (op first flags idx sub kind status length : Nat) (offset value : List Byte) : List Byte :=
  match req.path with
  | .mailbox _ =>
    natToBytes 2 first ++ natToBytes 2 req.counter ++ natToBytes 2 idx ++ natToBytes 1 sub ++ natToBytes 1 kind ++ natToBytes 4 length ++
      offset ++ value ++ natToBytes 2 req.counter
  | .fieldLink _ =>
    udxHeader op flags req.session req.transaction req.counter ++
      natToBytes 2 idx ++ natToBytes 1 sub ++ natToBytes 1 (if flags % 2 = 1 then kind else 0) ++ natToBytes 2 status ++ natToBytes 2 0 ++
      natToBytes 4 length ++ offset ++ value

/-- The first 16 bytes of HMAC-SHA-256 (R443). -/
def authTag (key message : List Byte) : BitVec 128 := (Config.hmacSha256 key message).extractLsb' 128 128

/-- The tag that a request of a session must carry. -/
def requestTag (key : List Byte) (req : Req) (idx sub : Nat) (ask : DictAsk) : BitVec 128 :=
  authTag key (covered req (askOp req.path ask) req.session (if askFinal ask then 6 else 2) idx sub 1 0 (askLength ask) (askOffset ask) (askData ask))

/-- The tag that a session close must carry. -/
def closeTag (key : List Byte) (req : Req) : BitVec 128 :=
  match req.path with
  | .mailbox _ => authTag key (covered req 0xC005 req.session 2 0 0 1 0 0 [] [])
  | .fieldLink _ => authTag key (udxHeader 0x12 2 req.session req.transaction req.counter ++ natToBytes 2 0)

/-! ### Responses -/

/-- The header of the answer to a request (R76, R457). -/
def replyHead (req : Req) (idx sub : Nat) : ReplyHead :=
  match req.path with
  | .mailbox _ => { transaction := req.counter, index := idx, subindex := sub, returnCode := some 0 }
  | .fieldLink _ => { transaction := req.transaction, index := idx, subindex := sub, returnCode := none }

/-- The answer to a request: status, type code, value, and `last` where a segment ends its value. It is tagged with the key of the
request's session. -/
def answerOf (key : Option (List Byte)) (req : Req) (idx sub : Nat) (ask : DictAsk) (status kind : Nat) (value : List Byte) (last : Bool)
    (reduced : Bool) : Out :=
  let op := askOp req.path ask
  let flags := 1 + (if key.isSome then 2 else 0) + (if last then 4 else 0) + (if reduced then 8 else 0)
  .dict req.path op (replyHead req idx sub) status kind value
    (key.map fun k => authTag k (covered req op status flags idx sub kind status value.length (askOffset ask) value))

/-- Reduced service (R467). -/
def State.reducedService (s : State) : Bool := s.responder

/-! ### Change records (R447, R448) -/

/-- The bytes of an entry's value as a read returns them; empty for WO entries and actions. -/
def State.valueBytes (s : State) (key : Nat) : List Byte :=
  match describe key with
  | none => []
  | some d =>
    if d.access = .wo then []
    else if d.ty.isBytes then s.readBytes key
    else natToBytes d.ty.size (s.read key)

/-- The first 16 bytes of a value, as a change record holds them. -/
def recordBytes (v : List Byte) : List Byte := padTo 16 v

/-- A change record enters the ring of 256: 1 write, 2 action, 4 set to default, 5 default after loss. Source 130 follows it, and source
131 for one made at Custodian privilege. -/
def noteChange (key kind path privilege session counter length : Nat) (old new : List Byte) (s : State) : State :=
  let r : ChangeRecord :=
    { stamp := s.stampNow, time := s.deviceTime, key := key, kind := kind, path := path, privilege := privilege, session := session,
      counter := counter, length := length, old := recordBytes old, new := recordBytes new }
  let ring := s.mgmt.changes ++ [r]
  let s := takeStamp { s with mgmt := { s.mgmt with changes := ring.drop (ring.length - 256) } }
  raiseIf (privilege == 3) 131 (raise 130 (s.bump 0x120001))

/-- A change that the module itself makes to an RW entry (R439, R356). DESIGN CHOICE (log 197): its record has privilege, session and transaction 0,
so that no such change raises source 131. -/
def noteOwnChange (key kind : Nat) (old : List Byte) (s : State) : State :=
  let new := s.valueBytes key
  noteChange key kind 0 0 0 0 new.length old new s

/-! ### Sessions -/

/-- The session that a request names, on the request's own path (R440). -/
def State.sessionOf (s : State) (req : Req) : Option Session :=
  s.mgmt.sessions.find? fun x => x.number == req.session && x.path == req.path

/-- Sessions end (R445), and with them their block writes. -/
def endSessions (gone : Session → Bool) (s : State) : State :=
  let left := s.mgmt.sessions.filter fun x => !gone x
  { s with mgmt := { s.mgmt with
    sessions := left, blockWrites := s.mgmt.blockWrites.filter fun b => b.session == 0 || left.any fun x => x.number == b.session } }

/-- Input loss or a device reset ends every session. -/
def endAllSessions (s : State) : State := endSessions (fun _ => true) s

/-- PERST or link down of a port ends its mailbox sessions. -/
def endPortSessions (p : Port) (s : State) : State := endSessions (fun x => x.path == .mailbox p) s

/-- Replace a session. -/
def putSession (x : Session) (s : State) : State :=
  { s with mgmt := { s.mgmt with sessions := s.mgmt.sessions.map fun y => if y.number == x.number then x else y } }

/-! ### Delivery -/

/-- The key that tags a request's response. -/
def State.replyKey (s : State) (req : Req) : Option (List Byte) := (s.sessionOf req).map (·.tagKey)

/-- A response leaves, and is kept for repeats of its request, those that wait included (R443, R468). -/
def deliver (req : Req) (o : Out) (s : State) : State :=
  match s.sessionOf req with
  | none => emit o s
  | some x => putSession { x with lastReply := some o, repeats := 0 } { s with out := s.out ++ List.replicate (1 + x.repeats) o }

/-- A request ends with a status and no value. -/
def endWith (req : Req) (idx sub : Nat) (ask : DictAsk) (status : Nat) (s : State) : State :=
  deliver req (answerOf (s.replyKey req) req idx sub ask status 0 [] false s.reducedService) s

/-! ### Overtaken requests -/

/-- Requests that wait for a wake end with 0x0401 when another transition starts first (R395). -/
def overtakeDeferred (s : State) : State :=
  s.mgmt.deferred.foldl (fun t d => endWith d.req d.idx d.sub d.ask stStateConflict t) { s with mgmt := { s.mgmt with deferred := [] } }

/-- The status that an ACT entry reads (R10): that of the last invocation, BUSY while it runs. -/
def setAction (key status : Nat) (s : State) : State :=
  { s with mgmt := { s.mgmt with actionStatus := tset 0 key status s.mgmt.actionStatus } }

def State.actionRuns (s : State) (key : Nat) : Bool := tgetD 0 key s.mgmt.actionStatus == stBusy

/-- An action that runs ends with a status. -/
def endAction (key status : Nat) (s : State) : State := if s.actionRuns key then setAction key status s else s

end Sys2Proof.Machine
end

