-- ==== Sys2Proof/Machine/MediaOps.lean ====
section
/-! DEFINITION. Reads of the medium: which dies and media regions answer, dispatch into the media region queues (R197, R201,
R202, R240), prefetches (R185), joined reads (R184), and what a read returns when its sector has arrived (R173, R183). -/

namespace Sys2Proof.Machine

/-- Reads waiting at a die. -/
def State.dieQueue (s : State) (d : Nat) : List Read :=
  s.reads.filter fun r => dieOfUnit r.unit == d && (r.place == .queued || r.place == .overflow)

/-! ### Dispatch -/

/-- Queued prefetches of a die with more than four requests waiting are dropped and counted (R185). -/
def dropPrefetches (d : Nat) (s : State) : State :=
  if 4 < (s.dieQueue d).length then
    let gone := (s.dieQueue d).filter fun r => r.reader == .prefetch && r.place == .queued
    gone.foldl (fun t r => (dropRead r.id t).bump 0x407008) s
  else s

/-- A read is served by reconstruction; the lines served so are counted, which the tag lines are not (0x4081.06). -/
def noteReconstruction (r : Read) (s : State) : State :=
  match r.reader with
  | .tag _ => count1 0x25 (channelOfUnit r.unit) s
  | _ => count1 0x25 (channelOfUnit r.unit) (s.bump 0x408106)

/-- The thresholds at which the sector of a read is sensed (R272); a log sector's are fixed. -/
def State.readSteps (s : State) (r : Read) : Int :=
  if r.found = foundPage then s.thresholdSteps r.unit (r.source % 2048 / max 1 (s.unit r.unit).cellMode) else 0

/-- Put a read where it waits for its sector (R197, R201, R202, R209). -/
def placeRead (r : Read) (s : State) : State :=
  let r := { r with threshold := s.readSteps r }
  if s.reconstructs r.cls r.unit then
    noteReconstruction r (addRead { r with place := .reconstruction, flags := r.flags + 8 } s)
  else if r.cls == clsPrompt && (decide (2 ≤ s.promptQueued (regionOfUnit r.unit)) ||
      s.reads.any fun x => x.place == .overflow && regionOfUnit x.unit == regionOfUnit r.unit) then
    dropPrefetches (dieOfUnit r.unit) (addRead { r with place := .overflow } s)
  else dropPrefetches (dieOfUnit r.unit) (addRead { r with place := .queued, entitled := r.cls == clsPrompt } s)

/-- The tag read of a prompt read, or of an owner's read of a provisional version (R207, R314): issued with its data read where the counter cache does not hold the tag line, in prompt class, to a
copy on another channel than the data's. -/
def tagRead (r : Read) (s : State) : State :=
  let obj := s.tagOf r
  if !s.tagBeside r || s.isCached obj || s.tagWaits r then s
  else match s.copyBeside obj (channelOfUnit r.unit) with
    | none => s
    | some v =>
      let n : Read :=
        { id := 0, reader := .tag obj, line := dataLines + integrityAddress obj, cls := clsPrompt, acceptedAt := s.clock, place := .queued,
          unit := unitOfMap v, sensed := s.nextStamp, found := foundPage, source := v }
      placeRead n s

/-- A host read that takes its line from the medium: counted, and a queued prefetch of its sector becomes it (R185). -/
def dispatchRead (p : Port) (r : Read) (s : State) : State :=
  let s := match r.reader with
    | .host _ _ => count1 0x13 p.code s
    | _ => s
  let s := if r.isPrompt then (count1 0x09 p.code s).bump 0x408101 else s
  let early := s.reads.filter fun x => x.reader == .prefetch && blockOfLine x.line == blockOfLine r.line
  let s := early.foldl (fun t x => (dropRead x.id t).bump 0x407009) s
  placeRead { r with sensed := s.nextStamp } (tagRead r s)

/-- Where the medium holds the version of a line that a port reads: the log place or main map value, and the unit; none for zeros. -/
def State.locate (s : State) (grp : Option Nat) (line : Nat) : Option (Nat × Nat × Nat) :=
  let inLog := match grp with
    | some g => (match s.deltaOf line (some g) with
        | some d => some d
        | none => s.deltaOf line none)
    | none => s.deltaOf line none
  match inLog with
  | some d => some (foundLog, d.place, s.unitOfPlace d.place)
  | none => (s.mapOf (pageOfLine line)).map fun v => (foundPage, v, unitOfMap v)

/-- Step 6 of the lookup: the medium. A segment not yet rebuilt starts or joins its demand rebuild (R164). -/
def readMedium (p : Port) (r : Read) (s : State) : State :=
  let seg := segmentOfLine r.line
  if !s.isRebuilt seg then startRebuild seg (addRead { r with place := .rebuild, flags := r.flags + 4 } s)
  else match s.locate (s.ownedGroup p (pageOfLine r.line)) r.line with
    | none => answerRead r { data := 0, poison := false, stamp := 0, found := foundZeros } s
    | some (found, source, unit) => dispatchRead p { r with found := found, source := source, unit := unit } s

/-! ### The end of a rebuild (R164) -/

/-- The reads that waited for a segment look their lines up again; the longest wait is kept. -/
def releaseReads (ready : Nat → Bool) (s : State) : State :=
  let waiting := s.reads.filter fun r => r.place == .rebuild && ready (segmentOfLine r.line)
  waiting.foldl (fun t r =>
    let t := (dropRead r.id t).raiseTo 0x404106 (t.clock - r.acceptedAt)
    match r.reader with
    | .host p _ => readMedium p { r with rebuilt := true } t
    | .merge p _ => readMedium p { r with rebuilt := true } t
    | _ => t) s

/-- The next queued rebuild starts in a place that has freed. -/
def nextRebuild (s : State) : State :=
  match s.xlat.rebuildQueue with
  | [] => s
  | g :: rest =>
    if s.xlat.rebuilding.length < 16 then
      State.bump { s with xlat := { s.xlat with rebuilding := s.xlat.rebuilding ++ [g], rebuildQueue := rest } } 0x404105
    else s

/-- The sectors of a segment's checkpoint are read in normal class (R196). -/
def readCheckpoint (seg : Nat) (s : State) : State :=
  match tfind seg s.xlat.checkpoints with
  | some c => agentReads clsNormal (c.location / 8192) c.sectors s
  | none => s

/-- A segment's rebuild ends: waiting reads proceed, and the next queued rebuild starts. -/
def finishRebuild (seg : Nat) (s : State) : State :=
  nextRebuild (releaseReads (· == seg) (rebuildSegment seg (readCheckpoint seg s)))

/-- A demand rebuild runs to its end, started where it did not run yet. -/
def demandNow (seg : Nat) (s : State) : State :=
  if s.isRebuilt seg then s
  else finishRebuild seg (if s.xlat.rebuilding.contains seg then s else s.bump 0x404105)

/-! ### Fills and prefetch -/

/-- Whether a line of the sector at a main map value is still the committed copy on the medium. -/
def State.inSector (s : State) (line mapValue : Nat) : Bool :=
  (s.deltaOf line none).isNone && s.mapOf (pageOfLine line) == some mapValue

/-- The tag bit of a read's line in its sector: the line's place among the sector's lines. -/
def Read.tagBit (r : Read) : Nat := if r.found = foundLog then r.source % 45 % 3 else r.line % 4

/-- A fill installs its block (R173, R175): lines of the sector that pass their tag and are still current. Lines stored after the
source was read are counted in 0x4070.0B. DESIGN CHOICE (log 177): a fill that brings no valid line takes no way, and leaves the
replacement register as it is. -/
def fill (r : Read) (tags : BitVec 4) (s : State) : State :=
  let block := blockOfLine r.line
  let sameAt := fun (l : Nat) =>
    if r.found = foundLog then
      l == r.line && tags.getLsbD r.tagBit && (match s.deltaOf l none with | some d => d.place == r.source | none => false)
    else tags.getLsbD (l % 4) && s.inSector l r.source
  let lines := (List.range 4).map fun i => block * 4 + i
  let late := if r.found = foundLog then lines.filter fun l => l == r.line && decide (r.sensed ≤ (s.committed l).stamp)
    else lines.filter fun l => decide (r.sensed ≤ (s.committed l).stamp)
  let s := if r.allocate = 0 then s else s.addTo 0x40700B late.length
  let b := s.fillBlock block sameAt
  if b.valid = 0 then s
  else installFill r.allocate { b with prefetched := r.reader == .prefetch } s

/-- The next sector qualifies for a prefetch (R185): its line at DPA + 256, and where the medium holds that. An unmapped page has no sector
to read. DESIGN CHOICE (log 178): where the lines of the sector lie in several places, the one prefetch reads the place of that line. -/
def State.prefetches (s : State) (r : Read) : Option (Nat × Nat × Nat × Nat) :=
  let next := (blockOfLine r.line + 1) * 4
  let lines := (List.range 4).map fun i => next + i
  if next < 68719476736 && s.regionOfLine next == s.regionOfLine r.line && s.lineAttr next 0x06 != 0 &&
      !(lines.any fun l => s.staging.any (fun x => x.line == l) || (cacheHas s.l1 l).isSome || (cacheHas s.l2 l).isSome) &&
      s.isRebuilt (segmentOfLine next) then
    (s.locate none (r.line + 4)).map fun x => (r.line + 4, x)
  else none

/-- A demand fill in a region with prefetch set issues the prefetch of the next sector, in normal class without entitlement. -/
def prefetch (r : Read) (s : State) : State :=
  if r.prefetchNext && r.demand then
    match s.prefetches r with
    | none => s
    | some (line, found, source, unit) =>
      let n : Read :=
        { id := 0, reader := .prefetch, line := line, cls := clsNormal, acceptedAt := s.clock, place := .queued, unit := unit,
          sensed := s.nextStamp, allocate := s.lineAttr line 0x06, found := found, source := source }
      dropPrefetches (dieOfUnit unit) ((addRead n s).bump 0x407007)
  else s

/-! ### The answer of a medium read -/

/-- A read has its verified line. A later partial write of its own port makes it wait for that merge (R87). A read that its deadline
has answered gets no second response; the media read that ran on is reported (R213, R214). -/
def respond (r : Read) (s : State) : State :=
  match r.reader with
  | .prefetch => dropRead r.id s
  | .merge _ _ => dropRead r.id s
  | .ladder => dropRead r.id s
  | .tag _ => dropRead r.id s
  | .host p _ =>
    match s.newestQueued p r.line with
    | some x =>
      if x.whole then answerRead r { s.readValue p r.line with found := r.found, unit := r.unit } s
      else refillPrompt (regionOfUnit r.unit) (modRead r.id (fun y => { y with place := .merge }) s)
    | none => answerRead r { s.readValue p r.line with found := r.found, unit := r.unit } s

/-- The retry behind a deadline response ends: source 93 with its record (R214). -/
def reportDeadline (reads : List Read) (outcome : Nat) (s : State) : State :=
  let fired := reads.filterMap fun r => r.deadline.map fun t => (t, r)
  match fired with
  | [] => s
  | x :: rest =>
    let first := rest.foldl (fun m y => if y.1 < m.1 then y else m) x
    let rep : DeadlineReport :=
      { stamp := first.1, line := first.2.line, cls := first.2.cls, steps := first.2.steps, outcome := outcome }
    raise 93 { s with obs := { s.obs with deadlineReports := s.obs.deadlineReports ++ [rep] } }

/-- Reads that one sector read serves (R184): those of the same block of an ML page, and those of the three places of a log sector. -/
def Read.joins (r x : Read) : Bool :=
  x.found == r.found &&
    (if r.found = foundLog then x.source / 3 == r.source / 3 else x.source == r.source && blockOfLine x.line == blockOfLine r.line)

/-- The fills that a sector brings: the block of an ML page, or the block of each line of a log sector that was read. -/
def fillSector (r : Read) (all : List Read) (tags : BitVec 4) (s : State) : State :=
  let fills := all.filter fun x => x.allocate != 0
  if r.found = foundLog then
    ((fills.map (·.line)).eraseDups).foldl (fun t l => match fills.find? (·.line == l) with
      | some x => fill x tags t
      | none => t) s
  else fill (fills.headD r) tags s

/-- The lines of a read's sector whose current committed copy it holds, each with its tag bit and the place or value it lies at. -/
def State.sectorHolds (s : State) (r : Read) : List (Nat × Nat × Nat) :=
  if r.found = foundPage then
    (((List.range 4).map fun i => blockOfLine r.line * 4 + i).filter fun l => s.inSector l r.source).map fun l => (l, l % 4, r.source)
  else
    let first := r.source / 3 * 3
    (s.xlat.delta.filter fun d => d.grp.isNone && decide (first ≤ d.place) && decide (d.place < first + 3)).map fun d =>
      (d.line, d.place % 45 % 3, d.place)

/-- A retry of a line starts, where none runs: the sector is sensed again 0x6160.07 steps above its thresholds (R273), with the stripe
reconstruction issued beside that re-read (R209). -/
def openRetry (r : Read) (s : State) : State :=
  if s.retries.any fun t => t.line == r.line then s
  else
    let at_ := r.threshold
    let shift : Int := s.get 0x616007
    let t : Retry := { line := r.line, since := s.clock, above := at_ + shift, below := at_ - shift }
    reconstructionReads r.unit (sectorMoved (channelOfUnit r.unit) { s with retries := s.retries ++ [t] })

/-- A read that fails its check goes to media retry: one more recovery step, its sector queued for self-test (R209, R344). -/
def startRetry (r : Read) (s : State) : State :=
  openRetry r (refillPrompt (regionOfUnit r.unit) (modRead r.id (fun x => { x with place := .retry, steps := min 3 (x.steps + 1) }) s))

/-- The lines of a sector that failed their tag check and that no read asked for go down the recovery ladder too (R184). -/
def ladderLines (r : Read) (tags : BitVec 4) (s : State) : State :=
  let lines := (s.sectorHolds r).filter fun e =>
    !tags.getLsbD e.2.1 && !(s.reads.any fun x => x.line == e.1 && x.place == .retry)
  lines.foldl (fun t e =>
    let n : Read := { r with reader := .ladder, line := e.1, source := e.2.2, place := .retry, steps := 1, entitled := false,
                             answered := false, deadline := none, sampled := false, boundNs := 0, prefetchNext := false }
    openRetry n (addRead n t)) s

/-- A recovered line is installed in its block with the value that verified, unless it has been stored since it was read (R173, R184). -/
def installLine (r : Read) (s : State) : State :=
  if r.allocate = 0 || decide (r.sensed ≤ (s.committed r.line).stamp) || (s.stagedOf r.line none).isSome then s
  else
    let v := s.committed r.line
    let fresh : CacheBlock := { block := blockOfLine r.line, way := 0, valid := 0, poison := 0, data := List.replicate 4 0 }
    let level := if r.allocate = 2 then s.l2 else s.l1
    let b := ((findBlock level fresh.block).getD fresh).update r.line v.data v.poison
    installFill r.allocate { b with valid := b.valid ||| ((1 : BitVec 4) <<< (r.line % 4)) } s

end Sys2Proof.Machine
end

