-- ==== Sys2Proof/Machine/Stores.lean ====
section
/-! DEFINITION. What a store does at its global visibility point (R14, R83 to R95, R129, R130, R135, R172, R180), and the
drains that bring queued stores there (R89, R90). -/

namespace Sys2Proof.Machine

/-! ### The staging array (R180) -/

/-- The block of a staged line: its 256 bytes with one group tag or none. -/
def Staged.block (l : Staged) : Nat × Option Nat := (blockOfLine l.line, l.grp)

/-- Blocks of a list of staged lines, oldest last store first: the array is kept in the order of last stores. -/
def oldestBlocks (l : List Staged) : List (Nat × Option Nat) := ((l.map Staged.block).reverse.eraseDups).reverse

/-- The log writer takes the lines of some blocks. -/
def takeBlocks (blocks : List (Nat × Option Nat)) (s : State) : State :=
  { s with staging := s.staging.map fun l => if blocks.contains l.block then { l with taken := true } else l }

/-- The order stamp that a staged line will carry in its log sector: that of its store, before the stamp of its group's commit (R224). -/
def Staged.age (l : Staged) : Nat := if l.tag.isSome then l.orig else l.stamp

/-- The log writer takes the lines whose order stamp lies 2^30 below the present one, so that they are placed before it lies 2^31 below
(R224). -/
def takeOld (s : State) : State :=
  { s with staging := s.staging.map fun l => if l.age + 1073741824 ≤ s.nextStamp then { l with taken := true } else l }

/-- Free staging space below the eviction mark: the log writer takes blocks oldest last store first until the space they
hold brings the free space back above the mark. Lines whose stamp grows old are taken with them. -/
def evict (s : State) : State :=
  let s := takeOld s
  if s.freeStaging < s.evictionMark then
    takeBlocks ((oldestBlocks s.staging).take ((s.evictionMark - s.freeStaging) / 256 + 1)) s
  else s

/-- Write a dirty line into the staging array: it replaces the staged copy with the same group tag, or the absence of one,
and becomes the youngest last store. Cmps that wait for a log program wait for that of the new copy. -/
def stageLine (line : Nat) (grp tag : Option Nat) (d : Line) (poison : Bool) (stamp wmode : Nat) (cmpTo : List (Port × Nat))
    (s : State) : State :=
  let old := s.stagedOf line grp
  let waiting := match old with
    | some l => l.cmpTo
    | none => []
  let entry : Staged :=
    { line := line, grp := grp, data := if poison then 0 else d, poison := poison, stamp := stamp,
      wmode := wmode, taken := wmode != 0, cmpTo := waiting ++ cmpTo, tag := tag, orig := if tag.isSome then stamp else 0 }
  evict { s with staging := (s.staging.filter fun l => !(l.line == line && l.grp == grp)) ++ [entry] }

/-- A committed store takes effect: the staged copy, the cached copies, the segment. -/
def storeCommitted (line : Nat) (d : Line) (poison : Bool) (stamp wmode : Nat) (cmpTo : List (Port × Nat)) (s : State) : State :=
  pruneRanges line (dirtySegment (segmentOfLine line)
    (storeToCaches wmode line (if poison then 0 else d) poison (stageLine line none none d poison stamp wmode cmpTo s)))

/-! ### Provisional stores (R129, R135) -/

/-- A provisional store takes effect. -/
def storeProvisional (g line : Nat) (d : Line) (poison : Bool) (stamp wmode : Nat) (cmpTo : List (Port × Nat)) (s : State) :
    State :=
  let gr := s.group g
  let new := !gr.prov.contains line
  let s := if new then s.setGroup g { gr with prov := gr.prov ++ [line], provCount := gr.provCount + 1 } else s
  checkPool (dirtySegment (segmentOfLine line) (stageLine line (some g) (some (groupTag g gr)) d poison stamp wmode cmpTo s))

/-- Where a store of a port to a line goes at its global visibility point. -/
inductive StoreFate where
  | offline
  | fenced
  | overLimit (g cause : Nat)
  | provisional (g : Nat)
  | conflict (g : Nat)
  | plain
  deriving DecidableEq, Repr

/-- The fate of a store of an agent (`none` for the DMA engine, an agent other than every owner port, R133). -/
def State.fate (s : State) (agent : Option Port) (line : Nat) : StoreFate :=
  if s.lineOffline line then .offline
  else match s.boundGroup (pageOfLine line) with
  | none => .plain
  | some g =>
    let gr := s.group g
    if agent == some gr.owner then
      if gr.fenced then .fenced
      else if !gr.isOpen then .plain
      else if gr.prov.contains line then .provisional g
      else if gr.limit < gr.prov.length + 1 then .overLimit g 3
      else if 67108864 < s.provisionalLines + 1 then .overLimit g 4
      else .provisional g
    else if gr.isOpen then .conflict g
    else .plain

/-- A store by another agent to a bound page sets the conflict mark; the first one records its page (R130). -/
def markConflict (g page : Nat) (s : State) : State :=
  let gr := s.group g
  if gr.conflict then s else s.setGroup g { gr with conflict := true, conflictPage := page }

/-! ### Global visibility of a host store -/

/-- The sample record of a store, made at its global visibility point (R500). -/
def sampleStore (p : Port) (x : Store) (stamp : Nat) (s : State) : State :=
  if x.sampled then
    placeSample { stamp := stamp, time := s.deviceTime - (s.clock - x.acceptedAt), line := x.line, port := p,
                  opcode := if x.whole then 2 else 3, outcome := 8, die := 0xFF, steps := 0,
                  cls := s.lineAttr x.line 0x04, flags := 0 } s
  else s

/-- Send a queued store's Cmp, unless its port has dropped the request. -/
def cmpStore (p : Port) (x : Store) (s : State) : State := if x.forgotten then s else sendCmp p x.tag s

/-- A store of a port reaches global visibility with its whole-line value. A Cmp not sent before is sent here, or waits for
the log program when the store's persist point is the unprotected one (R12, R13, R19, R21). -/
def visibleStore (p : Port) (x : Store) (d : Line) (poison : Bool) (s : State) : State :=
  let late := if x.prot || x.forgotten then [] else [(p, x.tag)]
  let cmpHere := fun (t : State) => if x.prot && !x.whole then cmpStore p x t else t
  let cmpDropped := fun (t : State) => if x.prot && x.whole then t else cmpStore p x t
  match s.fate (some p) x.line with
  | .offline => dropStores p 34 1 (cmpDropped s)
  | .fenced => dropStores p 33 1 (cmpDropped s)
  | .overLimit g cause => dropStores p 33 1 (forceAbort g cause 0 (cmpDropped s))
  | .provisional g =>
    let stamp := s.stampNow
    sampleStore p x stamp (cmpHere (storeProvisional g x.line d poison stamp x.wmode late (takeStamp s)))
  | .conflict g =>
    let stamp := s.stampNow
    let s := storeCommitted x.line d poison stamp x.wmode late (markConflict g (pageOfLine x.line) (takeStamp s))
    sampleStore p x stamp (cmpHere s)
  | .plain =>
    let stamp := s.stampNow
    sampleStore p x stamp (cmpHere (storeCommitted x.line d poison stamp x.wmode late (takeStamp s)))

/-- Take a store out of a port's queue. -/
def unqueue (p : Port) (x : Store) (s : State) : State :=
  grantCredits p (s.modPort p fun q => { q with queue := q.queue.filter fun y => y.seq != x.seq })

/-- The merge read of a store that leaves the queue is no longer waited for. -/
def endMerge (p : Port) (x : Store) (s : State) : State :=
  match s.reads.find? fun r => r.reader == .merge p x.seq with
  | some r => dropRead r.id s
  | none => s

/-- A partial write's line is out of service for its port: it is dropped and never merged. -/
def StoreFate.drops : StoreFate → Bool
  | .offline => true
  | .fenced => true
  | _ => false

/-- A queued store leaves the queue for the staging array: a whole-line store as it is, a partial write merged with the line as
it stands (R13). A partial write to a line that reads poisoned is not merged: Cmp, count, source 97 (R33). -/
def transfer (p : Port) (x : Store) (s : State) : State :=
  let s := endMerge p x (unqueue p x s)
  if x.whole then visibleStore p x x.data x.poison s
  else if (s.fate (some p) x.line).drops then answerMerges p x.line (visibleStore p x x.data false s)
  else
    let old := s.visibleTo p x.line
    if old.poison then answerMerges p x.line (raise 97 ((cmpStore p x s).bump 0x406009))
    else answerMerges p x.line (visibleStore p x (mergeLine x.be old.data x.data) false s)

/-- An earlier store of the same port to the same line is still queued (R84). -/
def State.earlierSameLine (s : State) (p : Port) (x : Store) : Bool :=
  (s.port p).queue.any fun y => decide (y.seq < x.seq) && y.line == x.line

/-- A queued store may leave the queue now: no group command holds it back, no earlier store to its line is queued, and the whole-line
stores accepted before it have left; but a whole-line store may overtake one that a group command holds back (R84, R88, R124), where that
one's Cmp has not been sent: once it has, no later store of the port becomes visible before it (R91). -/
def State.mayLeave (s : State) (p : Port) (x : Store) : Bool :=
  (s.heldBy p x).isNone && !s.earlierSameLine p x &&
    (s.port p).queue.all fun y => !y.whole || decide (x.seq ≤ y.seq) || (x.whole && (s.heldBy p y).isSome && !y.prot)

/-- The store that the continuous drain transfers next (R88). -/
def State.nextTransfer (s : State) (p : Port) : Option Store := (s.port p).queue.find? fun x => x.whole && s.mayLeave p x

/-! ### Triggered drain (R90) -/

/-- The group commands that hold back stores of a port run to their end, as far as they can (R124). -/
def settleHolds (p : Port) (s : State) : State :=
  (s.port p).queue.foldl (fun t x => match t.heldBy p x with
    | none => t
    | some g => settle g t) s

/-- The merge of a partial write has found no line that verifies: its read is in media retry, or the HALT record names its line (R33). -/
def State.unverified (s : State) (p : Port) (x : Store) : Bool :=
  !x.whole && ((s.reads.any fun r => r.reader == .merge p x.seq && r.place == .retry) || match s.integ.halt with
    | some h => h.ranges.any fun r => decide (r.1 ≤ x.line) && decide (x.line < r.1 + r.2)
    | none => false)

/-- The store that a drain of the stores accepted before number `bound` takes next: the oldest that may leave. A partial write whose merge
has not found a line that verifies stays (R33). -/
def State.nextDrained (s : State) (p : Port) (bound : Nat) : Option Store :=
  (s.port p).queue.find? fun x => decide (x.seq < bound) && s.mayLeave p x && !s.unverified p x

/-- Take the stores accepted before number `bound` out of a port's queue, oldest first. One that a group command still holds back stays
(R124); a partial write has its segment rebuilt (R164). -/
def drainLoop : Nat → Port → Nat → State → State
  | 0, _, _, s => s
  | n + 1, p, bound, s =>
    match s.nextDrained p bound with
    | none => s
    | some x => drainLoop n p bound (transfer p x (if x.whole then s else demandNow (segmentOfLine x.line) s))

/-- A triggered drain empties the ingress queue and its merges to global visibility, using the drain reserve: the stores accepted before
number `bound` (R90). Reads that waited for a merge are answered then. Where a store stays, the drain goes on later. -/
def drainTo (p : Port) (bound : Nat) (s : State) : State :=
  let s := drainLoop (s.port p).queue.length p bound (settleHolds p s)
  s.modPort p fun q => { q with draining := if q.queue.any fun x => decide (x.seq < bound) then max bound q.draining else 0 }

/-- A triggered drain of the whole queue. -/
def drainPort (p : Port) (s : State) : State := drainTo p s.nextSeq s

end Sys2Proof.Machine
end

