-- ==== Sys2Proof/Machine/WindowOps.lean ====
section
/-! DEFINITION. The device-managed windows (chapter 02): the drain before every access (R54), the words of a line (R55), the
group control window (R57), the coordination window (R102 to R112), the port control page (R59 to R63, R94), the user
counter window (R64), and the descriptor, status and control lines of a DMA channel (R505, R506, R511). -/

namespace Sys2Proof.Machine

/-! ### Coordination cells -/

def State.cellWord (s : State) (c w : Nat) : Word := tgetD 0 (8 * c + w) s.cells

/-- The content of a cell, at one instant (R102). -/
def State.cellLine (s : State) (c : Nat) : Line := lineOfWords ((List.range 8).map fun w => s.cellWord c w)

/-- Store the complete words of a write in a cell (R55). -/
def writeCell (c : Nat) (be : ByteEnables) (d : Line) (s : State) : State :=
  let store := fun (t : Tbl Word) (w : Nat) =>
    match writtenWord w be d with
    | some v => tset 0 (8 * c + w) v t
    | none => t
  { s with cells := (List.range 8).foldl store s.cells }

def State.reserved (s : State) : Port → List Nat
  | .a => s.reservedA
  | .b => s.reservedB

def setReserved (p : Port) (l : List Nat) (s : State) : State :=
  match p with
  | .a => { s with reservedA := l }
  | .b => { s with reservedB := l }

def State.holdsReservation (s : State) (p : Port) (c : Nat) : Bool := (s.reserved p).contains c

def State.resultLine (s : State) (p : Port) (c : Nat) : ResultLine :=
  tgetD s.resultBase c (match p with | .a => s.resultsA | .b => s.resultsB)

def setResultLine (p : Port) (c : Nat) (r : ResultLine) (s : State) : State :=
  match p with
  | .a => { s with resultsA := tset s.resultBase c r s.resultsA }
  | .b => { s with resultsB := tset s.resultBase c r s.resultsB }

/-- The words of a result line (Table — Result line). -/
def ResultLine.toLine (r : ResultLine) : Line :=
  lineOfWords [BitVec.ofNat 64 (r.code + (if r.lostStore then 2 ^ 8 else 0) + (if r.lostException then 2 ^ 9 else 0) +
    (if r.lostReset then 2 ^ 10 else 0) + (if r.lostService then 2 ^ 11 else 0)),
    BitVec.ofNat 64 (if r.code = 1 then r.stamp else 0)]

/-- A cause of losing a reservation (R107). -/
inductive LossCause where
  | store
  | exception
  | service
  deriving DecidableEq, Repr

/-- The result line after a loss: the cause bits show the most recent loss (R108). -/
def ResultLine.lost (r : ResultLine) (c : LossCause) : ResultLine :=
  { r with lostStore := c == .store, lostException := c == .exception, lostReset := false, lostService := c == .service }

/-- A port loses its reservation on a cell, if it holds one. -/
def loseReservation (p : Port) (c : Nat) (cause : LossCause) (s : State) : State :=
  if s.holdsReservation p c then
    setResultLine p c ((s.resultLine p c).lost cause) (setReserved p ((s.reserved p).filter (· != c)) s)
  else s

/-- A port loses every reservation. -/
def loseAll (p : Port) (cause : LossCause) (s : State) : State :=
  (s.reserved p).foldl (fun t c => loseReservation p c cause t) s

/-- A read through the reserve alias takes or renews the reservation, or is refused at 64 (R105). -/
def reserve (p : Port) (c : Nat) (s : State) : State :=
  if s.holdsReservation p c then setResultLine p c {} s
  else if (s.reserved p).length < 64 then setResultLine p c {} (setReserved p (s.reserved p ++ [c]) s)
  else raise 77 (s.bump (0x508003 + p.code))

/-- Some word of a write is complete. -/
def anyComplete (be : ByteEnables) : Bool := (List.range 8).any fun w => wordComplete w be

/-- Some word of a write has some but not all of its byte enables set. -/
def anyPartial (be : ByteEnables) : Bool := (List.range 8).any fun w => wordPartial w be

/-- Some byte enable of the words `l` is set. -/
def anyEnabled (l : List Nat) (be : ByteEnables) : Bool := l.any fun w => 0 < wordEnables w be

/-- A plain-alias store (R107, R111). The stamp it takes is the order stamp of the store. -/
def plainStore (p : Port) (c : Nat) (be : ByteEnables) (d : Line) (s : State) : State :=
  loseReservation p.other c .store (writeCell c be d (takeStamp s))

/-- A conditional store takes effect (R106, R108). -/
def conditionalEffect (p : Port) (c : Nat) (be : ByteEnables) (d : Line) (s : State) : State :=
  if s.holdsReservation p c then
    let stamp := s.stampNow
    let s := writeCell c be d (takeStamp s)
    let s := setResultLine p c { s.resultLine p c with code := 1, stamp := stamp } s
    loseReservation p.other c .store (setReserved p ((s.reserved p).filter (· != c)) s)
  else (setResultLine p c { s.resultLine p c with code := 2, stamp := 0 } s).bump (0x508005 + p.code)

/-! ### The port control page -/

/-- Barrier word (R60). -/
def State.barrierWord (s : State) (p : Port) : Word :=
  let q := s.port p
  BitVec.ofNat 64 (q.dropped + (if q.droppedHalted then 2 ^ 32 else 0) + (if q.droppedAborted then 2 ^ 33 else 0) +
    (if q.droppedOffline then 2 ^ 34 else 0))

/-- Stores of a port that have not received Cmp yet: those whose persist point is the end of a log program. -/
def State.owedCmps (s : State) (p : Port) : List Nat :=
  (((s.staging.map (·.cmpTo)).flatten).filter fun e => e.1 == p).map (·.2)

/-- A barrier-word read clears the count and the three bits, and is counted (R60, R113). -/
def clearBarrier (p : Port) (s : State) : State :=
  (s.modPort p fun q => { q with
    dropped := 0, droppedHalted := false, droppedAborted := false, droppedOffline := false }).bump (0x302003 + p.code)

/-- Discard status word (Table — Discard status). -/
def DiscardLine.statusWord (d : DiscardLine) : Word :=
  BitVec.ofNat 64 (d.status + d.reason * 2 ^ 8 + (if d.overrun then 2 ^ 16 else 0))

/-- The discard line as read: word 2 is write-only. -/
def DiscardLine.toLine (d : DiscardLine) : Line := lineOfWords [d.start, d.length, 0, d.statusWord]

/-- A write of bit 0 of discard word 2 (R61, R62, R128). -/
def startDiscard (p : Port) (s : State) : State :=
  let d := (s.port p).discard
  if d.status = 1 then s.modPort p fun q => { q with discard := { q.discard with overrun := true } }
  else
    let start := d.start.toNat
    let length := d.length.toNat
    let reason := s.discardReason start length
    let first := start / 4096
    let n := length / 4096
    let new : DiscardLine :=
      if reason = 1 ∨ reason = 2 ∨ reason = 3 then { d with status := 3, reason := reason, overrun := false }
      else if s.bindRuns first n then
        { d with status := 1, reason := 0, overrun := false, firstPage := first, pages := n, waits := true }
      else if reason = 4 then { d with status := 3, reason := 4, overrun := false }
      else { d with status := 1, reason := 0, overrun := false, firstPage := first, pages := n, waits := false }
    s.modPort p fun q => { q with discard := new }

/-- A write to the discard line: words 0 to 2 act; reserved bits are ignored (R8). -/
def writeDiscard (p : Port) (be : ByteEnables) (d : Line) (s : State) : State :=
  let s := s.modPort p fun q => { q with discard := { q.discard with
    start := ((writtenWord 0 be d).map (· &&& 0x3FFFFFFFFFF)).getD q.discard.start,
    length := ((writtenWord 1 be d).map (· &&& 0x7FFFFFFFFFF)).getD q.discard.length } }
  match writtenWord 2 be d with
  | some v => if v.getLsbD 0 then startDiscard p s else s
  | none => s

/-- The status line of a port's page (Table — Port control page). -/
def State.statusLine (s : State) (p : Port) : Line :=
  let mine := s.groups.filter fun e => e.2.isOpen && e.2.owner == p
  lineOfWords [BitVec.ofNat 64 (s.get 0x402001 % 4 + s.get 0x402002 % 256 * 2 ^ 8), BitVec.ofNat 64 mine.length,
    BitVec.ofNat 64 (mine.foldl (fun n e => n + e.2.prov.length) 0), BitVec.ofNat 64 (s.get 0x402003)]

/-- The epoch line (R63). -/
def State.epochLine (s : State) : Line :=
  lineOfWords [BitVec.ofNat 64 s.highestStamp, BitVec.ofNat 64 s.deviceTime, BitVec.ofNat 64 (s.get 0x10000C % 2 ^ 32),
    BitVec.ofNat 64 s.restoreStamp]

/-! ### User counters -/

/-- A word of the user counter window (R64, R497). -/
def State.userCounter (s : State) (n : Nat) : Word :=
  if (s.get 0xB00101).testBit (n / 64) then BitVec.ofNat 64 (s.get (counterKey n)) else 0

def State.userCounterLine (s : State) (l : Nat) : Line :=
  lineOfWords ((List.range 8).map fun w => s.userCounter (8 * l + w))

/-! ### DMA channels (R505, R506, R510) -/

/-- The defined bits of each descriptor word (Table — DMA descriptor). -/
def descMask (w : Nat) : Word :=
  if w = 0 then 0xF7F else if w = 1 ∨ w = 2 then 0x3FFFFFFFFFF else if w = 3 then 0x1FFFFFFFF
  else if w = 4 then BitVec.allOnes 64 else 0

def descWord (l : List Word) (w : Nat) : Nat := (l.getD w 0).toNat

def writeDescriptor (k : Nat) (be : ByteEnables) (d : Line) (s : State) : State :=
  let c := s.channel k
  s.setChannel k { c with desc := (List.range 8).map fun w =>
    ((writtenWord w be d).map (· &&& descMask w)).getD (c.desc.getD w 0) }

/-- Fields of descriptor word 0. -/
def dmaOp (l : List Word) : Nat := descWord l 0 % 16
def dmaSwap (l : List Word) : Nat := descWord l 0 / 16 % 8
def dmaNotify (l : List Word) : Bool := (l.getD 0 0).getLsbD 8
def dmaQueue (l : List Word) : Nat := descWord l 0 / 512 % 4
def dmaContinuous (l : List Word) : Bool := (l.getD 0 0).getLsbD 11
def dmaSource (l : List Word) : Nat := descWord l 1
def dmaDest (l : List Word) : Nat := descWord l 2
def dmaLength (l : List Word) : Nat := descWord l 3

/-- A channel other than `k` drains a queue. -/
def State.drained (s : State) (k queue : Nat) : Bool :=
  s.obs.dma.any fun e => e.1 != k && e.2.state == 1 && dmaOp e.2.captured == 4 && dmaQueue e.2.captured == queue

/-- The refusal reason of a start, 0 for none: the lowest number that holds (Table — DMA status). -/
def State.dmaRefusal (s : State) (k : Nat) (l : List Word) : Nat :=
  let op := dmaOp l
  let usesSource := op == 1 || op == 3
  if !(1 ≤ op && op ≤ 4) || (op == 3 && !(1 ≤ dmaSwap l && dmaSwap l ≤ 4)) || (op == 4 && 1 < dmaQueue l) then 1
  else if (usesSource && dmaSource l % 64 != 0) || dmaDest l % 64 != 0 || dmaLength l % 64 != 0 || dmaLength l < 64 ||
      4294967296 < dmaLength l then 2
  else if usesSource && overlaps (dmaSource l) (dmaLength l) (dmaDest l) (dmaLength l) then 3
  else if !(s.get 0xC00103).testBit k then 4
  else if op == 4 && s.drained k (dmaQueue l) then 5
  else 0

/-- A start command (R506). -/
def startDma (p : Port) (k : Nat) (s : State) : State :=
  let c := s.channel k
  if c.state = 1 then s.setChannel k { c with ignored := true }
  else
    let r := s.dmaRefusal k c.desc
    if r ≠ 0 then s.setChannel k { c with state := 6, refusal := r, busError := 0 }
    else s.setChannel k { c with
      captured := c.desc, state := 1, busError := 0, refusal := 0, ignored := false, residue := dmaLength c.desc,
      failing := 0, direction := 0, lastStamp := 0, lastTime := 0, poisoned := 0, port := p,
      runningWord := some (dmaLength c.desc), abortPending := false, carry := [] }

/-- An abort command: the burst in progress is placed first (R510). -/
def abortDma (k : Nat) (s : State) : State :=
  let c := s.channel k
  if c.state = 1 then s.setChannel k { c with abortPending := true } else s.setChannel k { c with ignored := true }

/-- The control line of a channel (R506). -/
def writeControl (p : Port) (k : Nat) (be : ByteEnables) (d : Line) (s : State) : State :=
  match writtenWord 0 be d with
  | none => s
  | some v => if v.toNat % 4 = 1 then startDma p k s else if v.toNat % 4 = 2 then abortDma k s else s

/-- The status line of a channel (Table — DMA status). -/
def DmaChannel.statusLine (c : DmaChannel) : Line :=
  lineOfWords [BitVec.ofNat 64 (c.state + c.busError * 2 ^ 8 + c.refusal * 2 ^ 12 + (if c.ignored then 2 ^ 20 else 0)),
    BitVec.ofNat 64 c.residue, BitVec.ofNat 64 (c.failing + c.direction * 2 ^ 63), BitVec.ofNat 64 c.lastStamp,
    BitVec.ofNat 64 c.lastTime, BitVec.ofNat 64 c.poisoned]

/-! ### Accesses -/

/-- A window request is counted at its acceptance. -/
def countWindow (p : Port) (code : Nat) (s : State) : State := countEligible p 4 (count1 0x08 p.code (count1 code p.code s))

/-- Answer a window read: never poison (R56). -/
def answerWindow (p : Port) (tag line : Nat) (sampled : Bool) (d : Line) (s : State) : State :=
  sampleWindow p 4 line sampled (sendData p tag d false s)

/-- A read of a group's control line (R57). -/
def readGroup (p : Port) (tag line g seq : Nat) (sampled : Bool) (s : State) : State :=
  let gr := s.group g
  if gr.waitsFor p seq then
    s.setGroup g { gr with
      readers := gr.readers ++ [{ port := p, tag := tag, seq := seq, line := line, sampled := sampled }] }
  else answerWindow p tag line sampled (groupLine gr) s

/-- A read of a coordination cell through an alias: 0 plain, 1 reserve, 2 conditional, 3 result. In SERVICE the cells are halted
(R112). What a read of the conditional alias returns is not stated: a free value (log 21). -/
def readCell (p : Port) (tag line aliasNo c : Nat) (sampled : Bool) (s : State) : State :=
  if aliasNo = 2 then answerWindow p tag line sampled (BitVec.ofNat 512 s.freeNow) (drawn s)
  else if s.mode = modeService then answerWindow p tag line sampled 0 s
  else if aliasNo = 3 then answerWindow p tag line sampled (s.resultLine p c).toLine s
  else if aliasNo = 1 then
    let d := s.cellLine c
    answerWindow p tag line sampled d (reserve p c s)
  else answerWindow p tag line sampled (s.cellLine c) s

/-- A read of the port's barrier word: its value is taken after the drain, and the response leaves once every store accepted before
has received Cmp (R60, R94). -/
def readBarrier (p : Port) (tag line acceptedAt : Nat) (sampled : Bool) (s : State) : State :=
  let b : BarrierRead :=
    { tag := tag, word := s.barrierWord p, line := line, sampled := sampled, acceptedAt := acceptedAt, owed := s.owedCmps p }
  let s := clearBarrier p s
  if b.owed.isEmpty then answerBarrier p b s else s.modPort p fun q => { q with barriers := q.barriers ++ [b] }

/-- A read of a port page: only the reading port's own (R59). -/
def readPortPage (p owner : Port) (tag line acceptedAt offset : Nat) (sampled : Bool) (s : State) : State :=
  if p != owner then answerWindow p tag line sampled 0 (stray p s)
  else if offset = 0x0000 then readBarrier p tag line acceptedAt sampled s
  else if offset = 0x0040 then answerWindow p tag line sampled (s.port p).discard.toLine s
  else if offset = 0x0080 then answerWindow p tag line sampled (s.statusLine p) s
  else if offset = 0x00C0 then answerWindow p tag line sampled s.epochLine s
  else answerWindow p tag line sampled 0 (stray p s)

/-- A read of a DMA channel's page (R65, R506). -/
def readDma (p : Port) (tag line k offset : Nat) (sampled : Bool) (s : State) : State :=
  if offset = 0x000 then answerWindow p tag line sampled (lineOfWords (s.channel k).desc) s
  else if offset = 0x040 then answerWindow p tag line sampled (s.channel k).statusLine s
  else if offset = 0x080 then answerWindow p tag line sampled 0 s
  else answerWindow p tag line sampled 0 (stray p s)

/-- The effect of a window read, after the drain. -/
def readTarget (p : Port) (w : PortWait) (s : State) : WindowTarget → State
  | .groupLine g => readGroup p w.tag (w.dpa / 64) g w.seq w.sampled s
  | .cell aliasNo c => readCell p w.tag (w.dpa / 64) aliasNo c w.sampled s
  | .portPage owner offset => readPortPage p owner w.tag (w.dpa / 64) w.acceptedAt offset w.sampled s
  | .counters l => answerWindow p w.tag (w.dpa / 64) w.sampled (s.userCounterLine l) s
  | .dma k offset => readDma p w.tag (w.dpa / 64) k offset w.sampled s
  | .unused => answerWindow p w.tag (w.dpa / 64) w.sampled 0 (stray p s)

/-- The bits of argument A that a command defines (Table — Command arguments); reserved ones read zero (R8). -/
def argumentMask (code : Nat) : Word := if code = codeOpen then 1 else if code = codeBind then 0x3FFFFFFFFFF else BitVec.allOnes 64

/-- A write to a group's control line: words 1 and 2 are the arguments, word 0 the command (R57, R115). While the group engine is
suspended the write is dropped (R141). -/
def writeGroup (p : Port) (g seq : Nat) (be : ByteEnables) (d : Line) (s : State) : State :=
  if s.modes.activation.isSome then raise 76 (dropStores p 32 1 s)
  else
    let gr := s.group g
    let code := (writtenWord 0 be d).map fun w => w.toNat % 256
    let a := (writtenWord 1 be d).getD gr.argA
    let gr := { gr with argA := a &&& argumentMask (code.getD 0), argB := (writtenWord 2 be d).getD gr.argB }
    let s := strayIf (anyPartial be || anyEnabled [3, 4, 5, 6, 7] be) p (s.setGroup g gr)
    match code with
    | none => s
    | some c => submitCommand g { port := p, code := c, a := gr.argA, b := gr.argB, seq := seq } s

/-- A write to a coordination cell through an alias. Writes to the reserve and the result alias are ignored (R58; the reserve
alias DEDUCED, log 21). -/
def writeAlias (p : Port) (aliasNo c : Nat) (be : ByteEnables) (d : Line) (s : State) : State :=
  if aliasNo = 1 ∨ aliasNo = 3 then stray p s
  else
    let s := strayIf (anyPartial be) p s
    if !anyComplete be then s
    else if s.mode = modeService then dropStores p 32 1 s
    else if aliasNo = 0 then plainStore p c be d s
    else conditionalEffect p c be d s

/-- A write to a port page. -/
def writePortPage (p owner : Port) (offset : Nat) (be : ByteEnables) (d : Line) (s : State) : State :=
  if p == owner && offset == 0x0040 then
    writeDiscard p be d (strayIf (anyPartial be || anyEnabled [3, 4, 5, 6, 7] be) p s)
  else stray p s

/-- A write to a DMA channel's page: dropped while the channel is halted (R511). -/
def writeDma (p : Port) (k offset : Nat) (be : ByteEnables) (d : Line) (s : State) : State :=
  if offset = 0x000 ∨ offset = 0x080 then
    let s := strayIf (anyPartial be) p s
    if (s.channel k).state = 4 then dropStores p 32 1 s
    else if offset = 0x000 then writeDescriptor k be d s
    else writeControl p k be d s
  else stray p s

/-- The effect of a window write, after the drain. -/
def writeTarget (p : Port) (seq : Nat) (be : ByteEnables) (d : Line) (s : State) : WindowTarget → State
  | .groupLine g => writeGroup p g seq be d s
  | .cell aliasNo c => writeAlias p aliasNo c be d s
  | .portPage owner offset => writePortPage p owner offset be d s
  | .counters _ => stray p s
  | .dma k offset => writeDma p k offset be d s
  | .unused => stray p s

/-! ### Accesses in order (R54) -/

/-- An access takes effect: a read is answered; a write acts, and its Cmp is sent. A write that carries poison is ignored (R55). -/
def serveAccess (p : Port) (w : PortWait) (s : State) : State :=
  match w.ask with
  | .read => readTarget p w s (windowTarget w.dpa)
  | .write be d poison =>
    let s := if poison then stray p s else writeTarget p w.seq be d s (windowTarget w.dpa)
    let s := sampleWindow p 5 (w.dpa / 64) w.sampled s
    if w.answers then sendCmp p w.tag s else s

/-- A store that its port accepted before number `seq` is still queued. -/
def State.queuedBefore (s : State) (p : Port) (seq : Nat) : Bool := (s.port p).queue.any fun x => decide (x.seq < seq)

/-- The oldest waiting accesses take effect, up to the first whose drain has not ended: at most `n`. -/
def serveWaits : Nat → Port → State → State
  | 0, _, s => s
  | n + 1, p, s =>
    match (s.port p).waits with
    | [] => s
    | w :: rest =>
      if s.queuedBefore p w.seq then s else serveWaits n p (serveAccess p w (s.modPort p fun q => { q with waits := rest }))

/-- A flush phase is complete: phase 1 once the queue holds no store accepted before, phase 2 once it holds none that has received Cmp
(R69). -/
def State.flushOver (s : State) (p : Port) (f : Nat × Nat) : Bool :=
  !((s.port p).queue.any fun x => decide (x.seq < f.2) && (f.1 == 1 || (x.prot && x.whole)))

/-- Report the flush phases that are complete; phase 2 raises source k = 11 (R69, R474). -/
def serveFlushes (p : Port) (s : State) : State :=
  let done := (s.port p).flushes.filter (s.flushOver p)
  let s := s.modPort p fun q => { q with flushes := q.flushes.filter fun f => !s.flushOver p f }
  done.foldl (fun t f => raiseIf (f.1 == 2) (portSource p 11) (emit (.flushDone p f.1) t)) s

/-- Stores have left a port's queue or a group command has finished: a drain in progress goes on, then what waited for it. -/
def resumePort (p : Port) (s : State) : State :=
  let s := if (s.port p).draining = 0 then s else drainTo p (s.port p).draining s
  serveFlushes p (serveWaits (s.port p).waits.length p s)

/-- A triggered drain of a port, and what waited for it (R54, R90). -/
def triggerDrain (p : Port) (s : State) : State := resumePort p (drainPort p s)

/-- A port accepts a window access: its queue drains, and the access takes effect behind the earlier ones (R54). -/
def accessWindow (p : Port) (tag dpa code : Nat) (ask : PortAsk) (s : State) : State :=
  let w : PortWait :=
    { tag := tag, dpa := dpa, ask := ask, seq := s.nextSeq, sampled := s.samplesNow p 4, acceptedAt := s.clock }
  triggerDrain p (takeSeq ((countWindow p code s).modPort p fun q => { q with waits := q.waits ++ [w] }))

/-- A port accepts a read of a window address. -/
def windowRead (p : Port) (tag dpa : Nat) (s : State) : State :=
  if s.memOpen p then accessWindow p tag dpa 0x02 .read s else s

/-- A port accepts a write to a window address, which takes a write credit as a data write does (R89). -/
def windowWrite (p : Port) (tag dpa : Nat) (be : ByteEnables) (d : Line) (poison : Bool) (s : State) : State :=
  if s.writeOpen p then
    accessWindow p tag dpa (if be == fullEnables then 0x03 else 0x04) (.write be d poison) (useCredit p (countWrite p s))
  else s

/-- The byte enables of the given words, all eight of each. -/
def enablesOf (l : List Nat) : ByteEnables := l.foldl (fun m w => m ||| ((0xFF : ByteEnables) <<< (8 * w))) 0

/-- A group command as its port writes it: word 0 with the code, and the arguments it carries. -/
def groupCommandWrite (p : Port) (tag g code : Nat) (a b : Option Word) (s : State) : State :=
  windowWrite p tag (groupDpa g)
    (enablesOf ([0] ++ (if a.isSome then [1] else []) ++ (if b.isSome then [2] else [])))
    (lineOfWords [BitVec.ofNat 64 code, a.getD 0, b.getD 0]) false s

end Sys2Proof.Machine
end

