-- ==== Sys2Proof/Machine/HaltOps.lean ====
section
/-! DEFINITION. READY (R79, R80), the port exception (R90, R107), named ranges and the entry to HALT (R32, R329, R512). -/

namespace Sys2Proof.Machine

/-! ### READY and link state -/

/-- READY of a port rises, with Memory_Active; a port whose link is up reaches link state 3 (R80, R531). -/
def raiseReady (p : Port) (s : State) : State :=
  if !s.portEnabled p || s.ready p then s
  else
    let s := (s.put (p.key 0x04) 1).modPort p fun q => { q with memoryActive := true }
    if s.linkState p = 2 then raise (portSource p 0) (s.put (p.key 0x01) 3) else s

/-- READY of a port falls: CXL.mem credits are withdrawn, which is no link down (R80, R474). -/
def dropReady (p : Port) (s : State) : State :=
  let s := (s.put (p.key 0x04) 0).modPort p fun q => { q with memoryActive := false }
  if s.linkState p = 3 then s.put (p.key 0x01) 2 else s

/-- What a port still owes its host is dropped: reads, Cmps, window reads and flushes that wait. Accepted stores and window writes still take
effect. The host takes a request without an answer as R43 says. -/
def forgetRequests (p : Port) (s : State) : State :=
  let s := s.groups.foldl (fun t e => t.setGroup e.1 { e.2 with readers := e.2.readers.filter fun r => r.port != p }) s
  let s := s.modPort p fun q => { q with
    barriers := [], flushes := [], queue := q.queue.map fun x => { x with forgotten := true },
    waits := (q.waits.filter fun w => w.ask != .read).map fun w => { w with answers := false } }
  let mine := s.reads.filter fun r => match r.reader with
    | .host q _ => q == p
    | _ => false
  let s := mine.foldl (fun t r => dropRead r.id t) s
  { s with staging := s.staging.map fun l => { l with cmpTo := l.cmpTo.filter fun e => e.1 != p } }

/-- The link of a port falls to 0; from 2, 3 or 4 that is a link down. Rate and width read none, and the port's mailbox sessions end
(R445). -/
def dropLink (p : Port) (s : State) : State :=
  let s := forgetRequests p s
  let up := s.linkState p == 2 || s.linkState p == 3 || s.linkState p == 4
  let s := ((s.put (p.key 0x01) 0).put (p.key 0x02) 0).put (p.key 0x03) 0
  raiseIf up (portSource p 1) (endPortSessions p (s.modPort p fun q => { q with linkL1 := false, contained := false, closing := false }))

/-- The drain of a port that has been disabled ends: its link falls (R50). -/
def closeDrained (p : Port) (s : State) : State :=
  if (s.port p).closing && (s.port p).draining == 0 then dropLink p s else s

/-- Stores have left a port's queue or a group command has finished: what waited goes on, and a disabled port's link falls. -/
def goOn (p : Port) (s : State) : State := closeDrained p (resumePort p s)

/-! ### Port exceptions -/

/-- A port exception (R90): counted with its cause, the port's reservations lost before the drain (R107), then the drain. -/
def portException (p : Port) (cause : Nat) (s : State) : State :=
  let s := (s.bump (p.key 0x05)).put (p.key 0x06) cause
  triggerDrain p (raise (portSource p 6) (loseAll p .exception s))

/-- A port exception on every enabled port. -/
def bothExceptions (cause : Nat) (s : State) : State :=
  let s := if s.portEnabled .a then portException .a cause s else s
  if s.portEnabled .b then portException .b cause s else s

/-! ### DMA bus errors -/

/-- A copy reads its source: operations 1 and 3. -/
def DmaChannel.copies (c : DmaChannel) : Bool := dmaOp c.captured == 1 || dmaOp c.captured == 3

/-- Bytes of the descriptor's range already moved, and the DPAs at which the next burst reads and places. -/
def DmaChannel.moved (c : DmaChannel) : Nat := dmaLength c.captured - c.residue
def DmaChannel.from (c : DmaChannel) : Nat := dmaSource c.captured + c.moved
def DmaChannel.to (c : DmaChannel) : Nat := dmaDest c.captured + c.moved

/-- Bytes up to the burst's end: the next 4 KiB boundary of the destination, or the end of the transfer (R507). -/
def DmaChannel.room (c : DmaChannel) : Nat := min c.residue (4096 - c.to % 4096)

/-- The DPA of the first line of a channel's burst in progress, and its direction: the source read comes first (R511, R512). -/
def DmaChannel.burstStart (c : DmaChannel) : Nat × Nat := if c.copies then (c.from, 0) else (c.to, 1)

/-- A channel halts on a bus error (R511): the burst is not placed, the running word keeps the residue. -/
def haltChannel (k cause dpa direction : Nat) (s : State) : State :=
  let c := s.channel k
  let s := s.setChannel k { c with
    state := 4, busError := cause, failing := dpa, direction := direction, runningWord := some c.residue, abortPending := false }
  raise (104 + k) (s.bump 0xC00104)

/-- Every running channel halts with cause 2 (Table — DMA across interruptions). `failed` is the line whose check failed: whether a channel
that has it in its burst had read it is not stated, a free value. -/
def haltDma (failed : Option Nat) (s : State) : State :=
  (List.range 16).foldl (fun t k =>
    let c := t.channel k
    let inBurst := match failed with
      | none => false
      | some l => c.copies && decide (c.from ≤ l * 64) && decide (l * 64 < c.from + c.room)
    if c.state ≠ 1 then t
    else if inBurst then
      if t.freeNow % 2 = 1 then haltChannel k 2 (failed.getD 0 * 64) 0 (drawn t) else haltChannel k 2 c.burstStart.1 c.burstStart.2 (drawn t)
    else haltChannel k 2 c.burstStart.1 c.burstStart.2 t) s

/-! ### Named ranges (R329) -/

/-- The lines a failed object names (Table — Named ranges): first line and count. -/
def State.namedRange (s : State) : FailedObject → Nat × Nat
  | .dataLine l => (l, 1)
  | .saveSector l n => (l, n)
  | .tagLine k => (8 * k, 8)
  | .placeTag place =>
    (match s.xlat.delta.find? fun d => d.place == place with
      | some d => (d.line, 1)
      | none => (0, 0))
  | .counterBlock page => (64 * page, 64)
  | .node level index => (index * (512 * 8 ^ (level - 1)), 512 * 8 ^ (level - 1))
  | .translation l n => (l, n)

/-- A failure in a counter block or a node can be repaired by re-anchoring (R332). -/
def failedInCounters : FailedObject → Bool
  | .counterBlock _ => true
  | .node _ _ => true
  | _ => false

/-- The gap between two ranges. -/
def rangeGap (a b : Nat × Nat) : Nat := max a.1 b.1 - min (a.1 + a.2) (b.1 + b.2)

/-- One range over both and the gap between them. -/
def joinRanges (a b : Nat × Nat) : Nat × Nat :=
  let lo := min a.1 b.1
  (lo, max (a.1 + a.2) (b.1 + b.2) - lo)

/-- The pair of places in a list whose ranges have the smallest gap. -/
def closestPair (l : List (Nat × Nat)) : Option (Nat × Nat) :=
  let pairs := ((List.range l.length).map fun i => ((List.range l.length).filter (i < ·)).map fun j => (i, j)).flatten
  let gap := fun (ij : Nat × Nat) => rangeGap (l.getD ij.1 (0, 0)) (l.getD ij.2 (0, 0))
  pairs.foldl (fun m ij => match m with
    | none => some ij
    | some x => if gap ij < gap x then some ij else some x) none

/-- Add a range to a HALT record of at most 64: past that, the two ranges with the smallest gap are joined first (R329). -/
def addRange (r : Nat × Nat) (l : List (Nat × Nat)) : List (Nat × Nat) :=
  if r.2 = 0 ∨ l.any (fun x => decide (x.1 ≤ r.1) && decide (r.1 + r.2 ≤ x.1 + x.2)) then l
  else
    let l := l ++ [r]
    if l.length ≤ 64 then l
    else match closestPair l with
      | none => l
      | some (i, j) => (l.set i (joinRanges (l.getD i (0, 0)) (l.getD j (0, 0)))).eraseIdx j

/-- Lines in a list of ranges. -/
def rangeLines (l : List (Nat × Nat)) : Nat := l.foldl (fun n r => n + r.2) 0

/-- A line lies in one of the ranges. -/
def inRanges (line : Nat) (l : List (Nat × Nat)) : Bool := l.any fun r => decide (r.1 ≤ line) && decide (line < r.1 + r.2)

/-- A failed check writes its ranges to the HALT record, with its stamp, its counts and source 56. -/
def recordFailure (obj : FailedObject) (s : State) : State :=
  let stamp := s.stampNow
  let s := takeStamp s
  let old : HaltRecord := s.integ.halt.getD { stamp := stamp, ranges := [], countersOnly := true }
  let ranges := addRange (s.namedRange obj) old.ranges
  let s := { s with integ := { s.integ with
    halt := some { stamp := stamp, ranges := ranges, countersOnly := old.countersOnly && failedInCounters obj } } }
  let first := match ranges with
    | [] => 0
    | r :: _ => r.1 * 64
  raise 56 ((((s.bump 0x700302).put 0x700303 stamp).put 0x700304 first).put 0x700305 (rangeLines ranges))

/-! ### HALT -/

/-- Both ports stop answering on CXL.mem. -/
def silence (s : State) : State :=
  (s.modPort .a fun q => { q with silent := true }).modPort .b fun q => { q with silent := true }

/-- The partial writes to named lines are never merged and never receive Cmp (R33, R331): they leave the queues, and their merge reads the
list. -/
def setAsideNamed (s : State) : State :=
  let ranges := match s.integ.halt with
    | some h => h.ranges
    | none => []
  let keep := fun (q : PortState) => { q with queue := q.queue.filter fun x => x.whole || !inRanges x.line ranges }
  let t := (s.modPort .a keep).modPort .b keep
  let merges := fun (r : Read) => match r.reader with
    | .merge p seq => (t.port p).queue.any fun x => x.seq == seq
    | _ => true
  { t with reads := t.reads.filter merges }

/-- Every group's commands run to their end (R32). -/
def settleAll (s : State) : State := (s.groups.map (·.1)).foldl (fun t g => settle g t) s

/-- An accepted request has not run to its end: a group command, a store or a window access, or a log program that a Cmp waits for. -/
def State.unfinished (s : State) : Bool :=
  s.staging.any (fun l => !l.cmpTo.isEmpty) || s.groups.any (fun e => e.2.running.isSome) || !s.portA.queue.isEmpty ||
    !s.portB.queue.isEmpty || !s.portA.waits.isEmpty || !s.portB.waits.isEmpty

/-- Program what the accepted requests wait for, and let them go on, at most `n` times. -/
def finishLoop : Nat → State → State
  | 0, s => s
  | n + 1, s => if s.unfinished then finishLoop n (triggerDrain .b (triggerDrain .a (settleAll (programAll s)))) else s

/-- Every accepted request runs to its end: group commands, the stores and window accesses they held back, and the log programs that a
Cmp still waits for (R27, R32, R138). -/
def finishAccepted (s : State) : State :=
  let commands := s.groups.foldl (fun n e => n + e.2.commands) 0
  finishLoop (commands + s.portA.waits.length + s.portB.waits.length + 2) s

/-- A DOZE entry in progress stops: it does not count as abandoned (R400). -/
def stopDozeEntry (s : State) : State :=
  match s.modes.doze with
  | none => s
  | some _ =>
    let s := endAction 0xD02001 stStateConflict { s with modes := { s.modes with doze := none } }
    (s.modPort .a fun q => { q with creditsWithheld := false }).modPort .b fun q => { q with creditsWithheld := false }

/-- The entry to HALT (R32, R329): no response from here on, reads dropped unanswered, both ports drained as port exceptions,
accepted stores and group commands run to their end, DMA channels halted, READY low. `failed` is the line whose check failed, where it is one. -/
def haltNow (failed : Option Nat) (s : State) : State :=
  let s := stopDozeEntry s
  let s := setAsideNamed { silence s with reads := [], retries := [] }
  let s := forgetRequests .b (forgetRequests .a (finishAccepted (settleAll (bothExceptions 4 s))))
  let s := haltDma failed s
  setMode modeHalt ((dropReady .b (dropReady .a s)).put 0x700301 1)

/-- A failed check (R329). In HALT, and in a curtain, it only adds to the record; a module in RESTORE enters HALT when the
restore ends. A partial write that waits for a failed line is never merged (R33). -/
def failCheck (obj : FailedObject) (s : State) : State :=
  let s := recordFailure obj s
  let line := match obj with
    | .dataLine l => some l
    | _ => none
  if s.serving || s.mode == modeService then haltNow line s else setAsideNamed s

end Sys2Proof.Machine
end

