-- ==== Sys2Proof/Machine/Sequencers.lean ====
section
/-! DEFINITION. The sequencers of the medium: what holds a dispatch back (R226, R227, R232, R233), the transfers of a channel
(R230), and the end of a program or reset. -/

namespace Sys2Proof.Machine

/-! ### Dispatch -/

/-- Owners that draw on the reserved floor: collection, wear levelling, patrol refresh, rebuild, the age meter (R232). -/
def State.fromFloor (s : State) (o : Owner) : Bool :=
  match o with
  | .row _ => false
  | .page id => s.med.stripePages.any fun p => p.id == id && p.cause != 0
  | _ => true

/-- Tokens in use by the agents of the reserved floor. -/
def State.floorUsed (s : State) : Nat :=
  (s.med.ops.filter fun o => s.fromFloor o.owner).foldl (fun n o => n + o.kind.tokens) 0

/-- Tokens that the waiting programs and resets of some owners take. -/
def State.tokensAwaited (s : State) (who : Owner → Bool) : Nat :=
  (s.med.jobs.filter fun j => who j.owner).foldl (fun n j => n + j.kind.tokens) 0

/-- A log row's owner. -/
def Owner.isRow : Owner → Bool
  | .row _ => true
  | _ => false

/-- The owner is a stripe page of rebuild. -/
def State.rebuilds (s : State) (o : Owner) : Bool :=
  match o with
  | .page id => s.med.stripePages.any fun p => p.id == id && p.cause == 3
  | _ => false

/-- What is left of the tokens dedicated to rebuild (R289). -/
def State.shareLeft (s : State) : Nat :=
  s.rebuildShare - (s.med.ops.filter fun o => s.rebuilds o.owner).foldl (fun n o => n + o.kind.tokens) 0

/-- The owner is collection: a stripe page that it writes, or the reset of a stripe. -/
def State.collects (s : State) (o : Owner) : Bool :=
  match o with
  | .page id => s.med.stripePages.any fun p => p.id == id && p.cause == 1
  | .maintenance _ => true
  | _ => false

/-- The owner is a stripe page of wear levelling. -/
def State.levels (s : State) (o : Owner) : Bool :=
  match o with
  | .page id => s.med.stripePages.any fun p => p.id == id && p.cause == 2
  | _ => false

/-- The tokens that an agent of the reserved floor other than rebuild may bring the use to. What rebuild has not taken of its dedicated tokens is
left to it, but by collection in critical state, and then the others leave to collection what it waits for (R289). Wear levelling stays
within the floor (R262); collection that is not urgent takes beyond it only what the log writer and fold do not wait for (R254). -/
def State.floorLimit (s : State) (j : Job) : Nat :=
  let b := s.tokenBudget
  let within := decide (s.floorUsed + j.kind.tokens ≤ s.tokenFloor)
  let rest := b - s.shareLeft
  if s.collects j.owner then
    if s.med.critical then b
    else if within || decide (s.freeStripes < s.get 0x614003) then rest
    else rest - s.tokensAwaited fun o => !s.fromFloor o
  else
    let rest := if s.med.critical then rest - s.tokensAwaited s.collects else rest
    if s.levels j.owner && !within then 0 else rest

/-- Tokens an operation may bring the use to: the log writer never takes the reserved floor (R246); fold takes what the agents of the
floor do not claim (R232). Fold and collection go ahead of the log writer while the log is full (R248), and collection ahead of both while
the free stripes are below urgent (R254): what waits of them is left free. Rebuild waits for collection in critical state (R289). -/
def State.tokenLimit (s : State) (j : Job) : Nat :=
  let b := s.tokenBudget
  let share := s.shareLeft
  let floor := max share (s.tokenFloor - s.floorUsed)
  let collecting := if s.freeStripes < s.get 0x614003 then s.tokensAwaited s.fromFloor else 0
  if s.rebuilds j.owner then (if s.med.critical then b - s.tokensAwaited s.collects else b)
  else if s.fromFloor j.owner then s.floorLimit j
  else if j.owner.isRow then b - max floor (if s.slLogFull then s.tokensAwaited (!·.isRow) else collecting)
  else b - max (max share collecting) (if s.med.jobs.any fun x => s.fromFloor x.owner then floor else 0)

/-- The stripe page a job programs. -/
def State.jobPage (s : State) (o : Owner) : Option StripePage :=
  match o with
  | .page id => s.med.stripePages.find? fun p => p.id == id
  | _ => none

/-- The stripe pages of the stripe before this one are complete (R237). -/
def State.pageTurn (s : State) (p : StripePage) : Bool :=
  s.med.stripePages.all fun x => x.stripe != p.stripe || decide (p.page ≤ x.page) || x.complete

/-- The earlier rows of the log stripe are complete: it is programmed one row at a time (R237). -/
def State.rowTurn (s : State) (o : Owner) : Bool :=
  match o with
  | .row mark => s.med.rows.all fun r => r.complete || decide (mark ≤ r.mark) || r.mark / 8192 != mark / 8192
  | _ => true

/-- Four members of the stripe are being reset: no more at a time (R256). -/
def State.resetsFull (s : State) (j : Job) : Bool :=
  j.kind == .reset && decide (4 ≤ (s.med.ops.filter fun o => o.owner == j.owner).length)

/-- An operation would program a stripe that has lost two members (R239). -/
def State.overLost (s : State) (j : Job) : Bool :=
  match j.kind, j.owner with
  | .reset, _ => false
  | _, .ageMeter _ => false
  | _, _ => !s.mayProgram (stripeOfUnit j.unit)

/-- The unit permits the operation (R218): SL sectors in an SL unit; ML pages in order after the stripe's reset, one stripe page at a time
(R237); a reset or an age meter program always. -/
def State.unitPermits (s : State) (j : Job) : Bool :=
  let r := s.unit j.unit
  match j.kind, j.owner with
  | _, .ageMeter _ => true
  | .reset, _ => true
  | .sl, o => r.cellMode == 1 && s.rowTurn o
  | .ml, o =>
    match s.jobPage o with
    | none => false
    | some p => r.cellMode != 1 && !(s.stripe p.stripe).needsReset && s.pageTurn p &&
        p.page == (match r.lastPage with | none => 0 | some x => x + 1)

/-- The media region has room: two programs in different clusters, or one reset and no program (R226). -/
def State.regionTakes (s : State) (j : Job) : Bool :=
  let ops := s.regionOps (regionOfUnit j.unit)
  match j.kind with
  | .reset => ops.isEmpty
  | _ => decide (ops.length < 2) && ops.all (·.kind != .reset)

/-- What holds a dispatch back: 1 the cluster, 2 the media region, 3 the unit, the die or the mode, 4 tokens, 5 package current,
6 the die limit, 7 an entitled read (R227). -/
def State.blocks (s : State) (j : Job) : List Nat :=
  let die := dieOfUnit j.unit
  let region := regionOfUnit j.unit
  let check := fun (bad : Bool) (n : Nat) => if bad then [n] else []
  check (s.med.ops.any fun o => clusterOfUnit o.unit == clusterOfUnit j.unit) 1 ++
  check (!s.regionTakes j) 2 ++
  check (!s.unitPermits j || s.overLost j || s.resetsFull j || s.diePaused die || s.dieState die != 0 || (s.mode == modeSave && j.kind != .sl)) 3 ++
  check (decide (s.tokenLimit j < s.tokensUsed + j.kind.tokens)) 4 ++
  check (decide (900 < s.packageCurrent (channelOfUnit j.unit) + j.kind.current)) 5 ++
  check (decide (6 ≤ (s.med.ops.filter fun o => dieOfUnit o.unit == die).length)) 6 ++
  check ((s.regionQueue region).any fun r => r.cls == clsPrompt || r.entitled || decide (0 < r.expiries)) 7

/-- Bytes of the channel transfer that an operation needs (R230). -/
def State.programBytes (s : State) (j : Job) : Nat :=
  match j.kind with
  | .reset => 0
  | .sl => 268
  | .ml =>
    match j.owner with
    | .ageMeter _ => 0
    | _ => (s.unit j.unit).cellMode * 4352

/-- An operation has waited longer than 1 ms at its package's current limit (R242). -/
def Job.overCurrent (j : Job) (now : Nat) : Bool :=
  match j.currentSince with
  | some t => decide (1000000 < now - t) && !j.delayedBy.contains 136
  | none => false

/-- Count the delays of a dispatch, each cause once for the operation (0x6110.04 to .06). One that has waited on package current for more than
1 ms raises its channel's source, once (R242): 136 in `delayedBy` says that it has. -/
def noteDelays (j : Job) (causes : List Nat) (s : State) : State :=
  let fresh := causes.filter fun c => (c == 4 || c == 5 || c == 6) && !j.delayedBy.contains c
  let onCurrent := causes.contains 5
  let late := onCurrent && j.overCurrent s.clock
  let mark := fun (x : Job) => if x.id == j.id then
      { x with delayedBy := x.delayedBy ++ fresh ++ (if late then [136] else []),
               currentSince := if onCurrent then some (x.currentSince.getD s.clock) else none }
    else x
  raiseIf late (136 + channelOfUnit j.unit)
    (fresh.foldl (fun t c => t.bump (0x611000 + c)) { s with med := { s.med with jobs := s.med.jobs.map mark } })

/-- Dispatch: the operation starts with its stamp, tokens and current are held, and the program data waits for its channel. -/
def dispatch (j : Job) (s : State) : State :=
  let ch := channelOfUnit j.unit
  let bytes := s.programBytes j
  let op : Op :=
    { id := j.id, unit := j.unit, kind := j.kind, owner := j.owner, band := s.packageBand ch, stamp := s.stampNow, time := s.deviceTime,
      limit := s.get (if j.kind = .reset then 0x408008 else 0x408007) }
  let transfers : List Transfer :=
    if bytes = 0 then s.med.transfers else s.med.transfers ++ [{ id := j.id, channel := ch, rank := 4, bytes := bytes }]
  let s := takeStamp s
  let s := { s with med := { s.med with
    jobs := s.med.jobs.filter fun x => x.id != j.id, ops := s.med.ops ++ [op], transfers := transfers } }
  (s.raiseTo 0x611003 s.tokensUsed).raiseTo (channelKey ch 0x03) (s.packageCurrent ch)

/-! ### The channel -/

/-- The transfer that a channel serves next: the highest rank, the oldest within it. -/
def State.nextChunk (s : State) (ch : Nat) : Option Transfer :=
  (s.med.transfers.filter fun t => t.channel == ch).foldl (fun m t => match m with
    | none => some t
    | some x => if t.rank < x.rank then some t else some x) none

/-- A chunk of at most 512 bytes crosses the channel. -/
def grantChunk (t : Transfer) (s : State) : State :=
  let n := min 512 t.bytes
  let s := (count1 0x26 t.channel s).addTo (channelKey t.channel 0x01) n
  let step := fun (x : Transfer) => if x.id == t.id then { x with bytes := x.bytes - n } else x
  { s with med := { s.med with transfers := (s.med.transfers.map step).filter fun x => decide (0 < x.bytes) } }

/-! ### The end of a program or reset -/

/-- The bank of a die that the age meter wrote (R274): its header holds stamp, device time and package age. -/
def bankProgrammed (die : Nat) (s : State) : State :=
  let old := (List.range 4).foldl (fun m i =>
    let at_ := fun (k : Nat) => match tfind (die * 4 + k) s.med.banks with
      | none => 0
      | some b => b.stamp + 1
    if at_ i < at_ m then i else m) 0
  let bank : Bank := { stamp := s.stampNow, time := s.deviceTime, age := s.packageAge (die / 4) }
  takeStamp { s with med := { s.med with banks := tput (die * 4 + old) bank s.med.banks } }

/-- The member programs of an operation's page or row, with the one that has ended. -/
def Op.start (o : Op) : ProgramStart := { channel := channelOfUnit o.unit, stamp := o.stamp, time := o.time, band := o.band }

/-- The footer of a member's page (R222). -/
def StripePage.footer (p : StripePage) (bits : Nat) (x : ProgramStart) : PageFooter :=
  { bits := bits, band := x.band, parity := x.channel == p.parity, stamp := x.stamp, time := x.time, writer := p.writer,
    used := (p.moves.filter fun m => unitOfMap m.new == unitOf p.stripe x.channel).length, parityChannel := p.parity }

/-- A member of a stripe page is programmed: its footer is on the medium. -/
def memberProgrammed (p : StripePage) (x : ProgramStart) (s : State) : State :=
  let u := unitOf p.stripe x.channel
  let s := pageProgrammed u p.page x.band s
  let r := s.stripe p.stripe
  let s := s.setStripe p.stripe { r with lastStamp := max r.lastStamp x.stamp, lastClock := s.clock }
  let add := fun (y : StripePage) => if y.id == p.id then { y with starts := y.starts ++ [x] } else y
  { s with med := { s.med with
    footers := tput (u * 512 + p.page) (p.footer (s.unit u).cellMode x) s.med.footers, stripePages := s.med.stripePages.map add } }

/-- What a program or reset that succeeded leaves. -/
def opSucceeded (o : Op) (s : State) : State :=
  match o.owner, o.kind with
  | .ageMeter die, _ => bankProgrammed die s
  | .maintenance stripe, .reset =>
    let s := unitReset o.unit (s.stripe stripe).resetTo s
    if s.ownerDone o.owner then finishReset stripe s else s
  | .row mark, _ => sectorProgrammed o.unit (mark % 8192 / 16) (rowStarted mark [o.start] s)
  | _, .sl => sectorProgrammed o.unit 0 s
  | ow, _ =>
    match s.jobPage ow with
    | some p => memberProgrammed p o.start s
    | none => s

/-- A program or reset that reported failure: counted, the die's source, a lasting fault (R282). A failed page member is left to
R258; any other operation is placed again while its unit stays in use. -/
def opFailed (o : Op) (s : State) : State :=
  let s := s.bump (channelKey (channelOfUnit o.unit) 0x05)
  let s := lastingFault o.unit (raise (152 + dieOfUnit o.unit) s)
  match o.owner with
  | .page id =>
    let mark := fun (p : StripePage) =>
      if p.id == id then { p with failedOn := p.failedOn ++ [channelOfUnit o.unit] } else p
    { s with med := { s.med with stripePages := s.med.stripePages.map mark } }
  | .maintenance stripe =>
    if (s.unit o.unit).gone then (if s.ownerDone o.owner then finishReset stripe s else s)
    else { s with med := { s.med with jobs := s.med.jobs ++ [{ id := o.id, unit := o.unit, kind := o.kind, owner := o.owner }] } }
  | _ =>
    if (s.unit o.unit).gone then s
    else { s with med := { s.med with jobs := s.med.jobs ++ [{ id := o.id, unit := o.unit, kind := o.kind, owner := o.owner }] } }

/-- The group tag of the commit that made the newest of some lines current; 0 if none (Table — Slot record). -/
def State.slotTag (s : State) (lines : Tbl MlLine) : Nat :=
  let newest := (lines.map (·.2.stamp)).foldl max 0
  (s.xlat.journal.findSome? fun r => match r.kind with
    | .groupCommit tag _ _ => if r.stamp = newest then some tag else none
    | _ => none).getD 0

/-- A stripe page whose every member program has completed: its slots are on the medium, and its data bytes are counted
(R222, R237, R265). -/
def completePage (p : StripePage) (s : State) : State :=
  let bits := s.stripeMode p.stripe
  let stampOf := fun (u : Nat) => match tfind (u * 512 + p.page) s.med.footers with
    | some f => f.stamp
    | none => 0
  let data := fun (page : Nat) => decide (page < 0x40000000)
  let slots := p.moves.foldl (fun ml m => tput m.new
    { page := if data m.page then m.page else 0x40000000 + m.page % 0x10000000, lines := m.lines, stamp := stampOf (unitOfMap m.new), writer := p.writer, groupTag := s.slotTag m.lines,
      region := if data m.page then s.regionOfPage m.page else 0,
      keySlot := if data m.page then s.lineAttr (m.page * 64) 0x09 else 0 } ml) s.med.ml
  let bytes := bits * 4096 * (p.starts.filter fun x => x.channel != p.parity).length
  let s := s.addTo 0x615007 bytes
  let s := if p.cause = 3 then { s with med := { s.med with rebuildBytes := s.med.rebuildBytes + bytes } } else s
  let mark := fun (x : StripePage) => if x.id == p.id then { x with complete := true } else x
  { s with med := { s.med with ml := slots, stripePages := s.med.stripePages.map mark } }

end Sys2Proof.Machine
end

