-- ==== Sys2Proof/Machine/MoveOps.lean ====
section
/-! DEFINITION. Moves of pages (R249 to R262): gathering a page, choosing and allocating destination stripes, writing stripe
pages, applying a move under its compare, and collecting a stripe. -/

namespace Sys2Proof.Machine

/-- The main map value of an unmapped page (R147). -/
abbrev unmapped : Nat := 0x7FFFFFFF

/-- Logical page numbers of integrity pages start here (R312). -/
abbrev integrityBase : Nat := 0x40000000

/-! ### Gathering (R249) -/

/-- The committed log copy of a line that a move may take: in counter form, with its integrity entry programmed (R305, R316). -/
def State.foldable (s : State) (line : Nat) : Option (Delta × LogLine) :=
  match s.deltaOf line none with
  | none => none
  | some d =>
    match s.logLine d.place with
    | none => none
    | some l => if !l.sealed.stampForm && l.entryDone then some (d, l) else none

/-- The map value of a page as it stands: the main map, or the integrity table. -/
def State.pageValue (s : State) (page : Nat) : Nat :=
  if page < integrityBase then (tfind page s.xlat.mainMap).getD unmapped
  else (tfind (page - integrityBase) s.integ.table).getD unmapped

/-- The 64 lines of a page: its foldable log copies when `fold`, its ML slot's lines otherwise; ciphertext as found. -/
def State.gather (s : State) (fold : Bool) (page : Nat) : PageMove :=
  let old := s.pageValue page
  let slot : Tbl MlLine := match tfind old s.med.ml with
    | some sl => sl.lines
    | none => []
  let lines := (List.range 64).filterMap fun i =>
    let line := page * 64 + i
    match (if fold && page < integrityBase then s.foldable line else none) with
    | some (d, l) => some (i, ({ cipher := l.cipher, poison := l.poison, stamp := d.stamp, tag := l.tag, sealed := l.sealed } : MlLine))
    | none => (tfind i slot).map fun m => (i, m)
  let folded := if fold && page < integrityBase then
      (List.range 64).filterMap fun i => (s.foldable (page * 64 + i)).map fun e => (page * 64 + i, e.1.stamp)
    else []
  { page := page, old := old, new := unmapped, lines := lines, folded := folded }

/-- A unit that a page's data lies on belongs to a media region whose operation is held to completion: the background reads of a move wait for
its end (R201). -/
def State.sourceHeld (s : State) (page : Nat) : Bool :=
  (s.pageValue page != unmapped && s.regionHeld (regionOfUnit (unitOfMap (s.pageValue page)))) ||
    s.xlat.delta.any fun d => d.grp.isNone && pageOfLine d.line == page && s.regionHeld (regionOfUnit (s.unitOfPlace d.place))

/-- A page may be moved now: its segment is rebuilt, no pending discard covers it (R168), its reads do not wait for a held operation, and no
stripe page carries it. -/
def State.movable (s : State) (page : Nat) : Bool :=
  if s.sourceHeld page then false
  else if integrityBase ≤ page then true
  else s.isRebuilt (segmentOfPage page) && (s.discardOver page).isEmpty &&
    !(s.med.stripePages.any fun p => p.moves.any (·.page == page))

/-- The precision floor of a page (R284); floors 1 and 2 admit the same stripes. -/
def State.floorOf (s : State) (page : Nat) : Nat :=
  if page < integrityBase then max 2 (s.get (regionKey (s.regionOfPage page) 0x0B)) else 2

/-! ### Destinations (R261, R284, R288) -/

/-- A free stripe that may be allocated for pages with a floor: no member is Suspect, or in use as a scratch unit (R351). -/
def State.eligible_ (s : State) (floor stripe : Nat) : Bool :=
  (s.stripe stripe).role == .free && (s.outstanding stripe).isEmpty && decide (floor ≤ s.nextMode stripe) &&
    decide (8 ≤ (s.members stripe).length - (s.leaving stripe).length) &&
    !((s.members stripe).any fun c => (s.unit (unitOf stripe c)).state == 2 || s.stored.scratchUnit == some (unitOf stripe c)) &&
    !(s.med.jobs.any (·.owner == .maintenance stripe)) && !(s.med.ops.any (·.owner == .maintenance stripe))

/-- The free stripe with the lowest or highest life used among those that qualify; the lowest number on a tie. -/
def State.pickStripe (s : State) (low : Bool) (floor : Nat) : Option Nat :=
  ((List.range 65536).filter (s.eligible_ floor)).foldl (fun m st => match m with
    | none => some st
    | some x =>
      if (if low then s.stripeLife st < s.stripeLife x else s.stripeLife x < s.stripeLife st) then some st else some x) none

/-- A free stripe has to be reset before it can be a destination: a reset is due, a member leaves it, or it takes another mode. -/
def State.resetDue (s : State) (stripe : Nat) : Bool :=
  (s.stripe stripe).needsReset || !(s.leaving stripe).isEmpty || s.demotes stripe || s.stripeMode stripe == 1

/-- Take a free stripe as a destination; where a reset is due it is ordered, and the stripe is a candidate again once it has ended. -/
def allocate (cause stripe : Nat) (s : State) : State :=
  if s.resetDue stripe then orderReset stripe (s.nextMode stripe) (s.stripeBits stripe) s
  else
    let s := s.setStripe stripe { s.stripe stripe with role := .openDest cause, nextPage := 0 }
    notePool ((s.members stripe).foldl (fun t c => setUnitState (unitOf stripe c) 1 t) s)

/-- A free stripe is being reset for use as a destination. -/
def State.allocating (s : State) : Bool :=
  s.med.stripes.any fun e => e.2.role == .free && (s.med.jobs.any (·.owner == .maintenance e.1) || s.med.ops.any (·.owner == .maintenance e.1))

/-- The open destination of a cause that takes pages with a floor. -/
def State.openDest (s : State) (cause floor : Nat) : Option Nat :=
  (s.med.stripes.find? fun e =>
    e.2.role == .openDest cause && decide (e.2.nextPage < 512) && s.mayProgram e.1 && (s.outstanding e.1).isEmpty &&
      decide (floor ≤ s.stripeMode e.1)).map (·.1)

/-- A destination for a cause and floor, allocated if need be; none while a reset for one runs. Fold and rebuild take the least worn free stripe, collection and
wear levelling the most worn (R261). -/
def destination (cause floor : Nat) (s : State) : Option Nat × State :=
  match s.openDest cause floor with
  | some st => (some st, s)
  | none =>
    match (if s.allocating then none else s.pickStripe (cause == 0 || cause == 3) floor) with
    | none => (none, s)
    | some st =>
      let s := allocate cause st s
      (s.openDest cause floor, s)

/-! ### Stripe pages (R250) -/

/-- The slots of a stripe page in order: those of each data member in turn; slot 2,047 of unit 1,048,575 is never allocated (R148, R250). -/
def State.slotValues (s : State) (stripe page : Nat) : List Nat :=
  let bits := s.stripeMode stripe
  (((s.writeData stripe).map fun c => (List.range bits).map fun k => unitOf stripe c * 2048 + page * bits + k).flatten).filter (· != unmapped)

/-- The channels that a page's slot may not lie on: of an integrity page, that of its other copy, where it lies or is being written (R314). -/
def State.avoids (s : State) (placed : List PageMove) (page : Nat) : List Nat :=
  if page < integrityBase then []
  else
    let other := integrityBase + otherCopy (page - integrityBase)
    let going := (placed ++ (s.med.stripePages.map (·.moves)).flatten).filter fun m => m.page == other
    (going.map (·.new) ++ [s.pageValue other].filter (· != unmapped)).map fun v => channelOfUnit (unitOfMap v)

/-- Fix the slots of moves: each takes the first slot left that its channel permits. -/
def State.assignSlots (s : State) : List PageMove → List Nat → List PageMove → List PageMove
  | [], _, placed => placed
  | m :: t, slots, placed =>
    match slots.find? fun v => !(s.avoids placed m.page).contains (channelOfUnit (unitOfMap v)) with
    | some v => s.assignSlots t (slots.erase v) (placed ++ [{ m with new := v }])
    | none => s.assignSlots t slots placed

/-- Take the next stripe page of a destination for a list of moves: their slots are fixed, the last page closes the stripe. -/
def takePage (stripe cause writer : Nat) (moves : List PageMove) (s : State) : StripePage × State :=
  let r := s.stripe stripe
  let placed := s.assignSlots moves (s.slotValues stripe r.nextPage) []
  let page : StripePage :=
    { id := s.med.nextId, stripe := stripe, page := r.nextPage, cause := cause, writer := writer, moves := placed,
      parity := s.writeParity stripe }
  let s := s.setStripe stripe { r with
    nextPage := r.nextPage + 1,
    role := if r.nextPage + 1 = 512 then .closed else r.role }
  (page, { s with med := { s.med with nextId := s.med.nextId + 1, stripePages := s.med.stripePages ++ [page] } })

/-- The programs of a stripe page wait for their sequencers (R237). -/
def queuePage (p : StripePage) (s : State) : State :=
  let jobs := ((s.writeMembers p.stripe).zipIdx).map fun (c, i) =>
    ({ id := s.med.nextId + i, unit := unitOf p.stripe c, kind := .ml, owner := .page p.id } : Job)
  { s with med := { s.med with jobs := s.med.jobs ++ jobs, nextId := s.med.nextId + jobs.length } }

/-! ### Applying a move (R251, R260) -/

/-- Remove a folded delta entry whose stamp bits still match the copy that was read. -/
def dropFolded (line stamp : Nat) (s : State) : State :=
  { s with xlat := { s.xlat with delta := s.xlat.delta.filter fun d =>
    !(d.line == line && d.grp.isNone && d.stamp % 2097152 == stamp % 2097152) } }

/-- The compare of a move (R251, R260): the map still holds the value read, and no discard is pending over the page. -/
def State.moveApplies (s : State) (m : PageMove) : Bool :=
  decide (integrityBase ≤ m.page) || (s.pageValue m.page == m.old && (s.discardOver m.page).isEmpty)

/-- Integrity pages may still go to new stripes: the superblock list has room (R313). -/
def State.tableRoom (s : State) : Bool := decide (s.integ.tableStripes.length < 32)

/-- The integrity table image (R313): the superblock's list of stripes starts afresh. DESIGN CHOICE (log 158): it takes 4 bytes for each entry
that names a page, since an image of all 154,128,970 entries would not fit in the checkpoint area. -/
def writeTableImage (s : State) : State :=
  let stamp := s.stampNow
  let s := checkpointSectors (sectorsOf (4 * s.integ.table.length)) (takeStamp s)
  putEntry (.digest 3 0 (treeMac none (tableBytes s.integ.table)))
    { s with integ := { s.integ with tableImageStamp := stamp, tableImage := s.integ.table, tableStripes := [] } }

/-- Apply one move: if the map still holds the value read, and no discard is pending over the page, a MAP_SET record is placed, the
entry takes the new value and the folded delta entries go. An integrity page changes only the integrity table (R313). -/
def applyMove (cause : Nat) (m : PageMove) (s : State) : State :=
  if m.page < integrityBase then
    if s.moveApplies m then
      let s := journalPut (.mapSet m.page m.new m.old cause) (dirtySegment (segmentOfPage m.page) s)
      let s := { s with xlat := { s.xlat with
        mainMap := tput m.page m.new s.xlat.mainMap } }
      let s := if cause = 1 then s.bump 0x614007 else s
      m.folded.foldl (fun t e => dropFolded e.1 e.2 t) s
    else s
  else
    let stripe := stripeOfUnit (unitOfMap m.new)
    let s := if s.integ.tableStripes.contains stripe || s.tableRoom then s else writeTableImage s
    { s with integ := { s.integ with
      table := tput (m.page - integrityBase) m.new s.integ.table, tableStripes := insertNew stripe s.integ.tableStripes } }

/-- Apply a complete stripe page. -/
def applyPage (p : StripePage) (s : State) : State :=
  let s := { s with med := { s.med with stripePages := s.med.stripePages.filter fun x => x.id != p.id } }
  checkLogFull (p.moves.foldl (fun t m => applyMove p.cause m t) s)

/-- The sectors that a list of moves reads, in background class: the 16 of each ML slot, or of the other members where the page is read by
reconstruction, and one for each folded log copy (R196, R256, R258). -/
def readMoves (moves : List PageMove) (s : State) : State :=
  moves.foldl (fun t m =>
    if m.held then t
    else
    let t := if m.old = unmapped then t
      else if m.rebuilt then reconstructions (unitOfMap m.old) 16 t
      else agentReads clsBackground (unitOfMap m.old) 16 t
    m.folded.foldl (fun u e => match u.deltaOf e.1 none with
      | some d => agentReads clsBackground (u.unitOfPlace d.place) 1 u
      | none => u) t) s

/-- The member programs of a stripe page on some channels run to their end within the step, one after the other. -/
def programMembers (p : StripePage) (channels : List Nat) (s : State) : State :=
  channels.foldl (fun t c =>
    let x : ProgramStart := { channel := c, stamp := t.stampNow, time := t.deviceTime, band := t.packageBand c }
    let t := programsRun .ml (unitOf p.stripe c) 1 ((t.unit (unitOf p.stripe c)).cellMode * 4352) t
    memberProgrammed ((t.med.stripePages.find? fun y => y.id == p.id).getD p) x (takeStamp t)) s

/-- A stripe page that waits or is being programmed runs to its end within the step. -/
def landPage (p : StripePage) (s : State) : State :=
  let mine := fun (o : Owner) => o == .page p.id
  let jobs := s.med.jobs.filter fun j => mine j.owner
  let ops := s.med.ops.filter fun o => mine o.owner
  let gone := ops.map (·.id)
  let s := endOverruns { s with med := { s.med with
    jobs := s.med.jobs.filter fun j => !mine j.owner, ops := s.med.ops.filter fun o => !mine o.owner,
    transfers := s.med.transfers.filter fun t => !gone.contains t.id } }
  let s := ops.foldl (fun t o => memberProgrammed p o.start t) s
  let s := programMembers p (jobs.map fun j => channelOfUnit j.unit) s
  completePage ((s.med.stripePages.find? fun y => y.id == p.id).getD p) s

/-- The programs of a stripe page run to their end within the step, after those of the pages of its stripe before it, since pages are
programmed in order (R218, R237), and the page is applied. -/
def programPage (p : StripePage) (s : State) : State :=
  let before := s.med.stripePages.filter fun x => x.stripe == p.stripe && decide (x.page < p.page) && !x.complete && x.failedOn.isEmpty
  let s := programMembers p (s.writeMembers p.stripe) (before.foldl (fun t x => landPage x t) s)
  let p := (s.med.stripePages.find? fun y => y.id == p.id).getD p
  applyPage p (completePage p s)

/-- Write a list of moves into destinations of a cause, a stripe page at a time, pages of one floor or less together; what finds no
destination stays. `relax` lets rebuild place a page under its floor (R284). Their programs wait for the sequencers, or run at once. -/
def writeMoves : Nat → Bool → Nat → Nat → Bool → List PageMove → State → State
  | 0, _, _, _, _, _, s => s
  | n + 1, now, cause, writer, relax, moves, s =>
    match moves with
    | [] => s
    | m :: _ =>
      let floor := s.floorOf m.page
      let (dest, s) := destination cause floor s
      let (dest, s, under) := match dest with
        | some d => (some d, s, false)
        | none =>
          if relax && (s.pickStripe true floor).isNone && !s.allocating then
            (let (d, t) := destination cause 2 s
             (d, t, true))
          else (none, s, false)
      match dest with
      | none => s
      | some d =>
        let bits := s.stripeMode d
        let fits := moves.filter fun x => decide (s.floorOf x.page ≤ bits) || under
        let chosen := fits.take (s.slotValues d (s.stripe d).nextPage).length
        let (p, s) := takePage d cause writer chosen (readMoves chosen s)
        let s := if now then programPage p s else queuePage p s
        let s := if under then
            { s with med := { s.med with underFloor :=
              (chosen.filter fun x => decide (bits < s.floorOf x.page)).foldl (fun t x => tput x.page s.clock t) s.med.underFloor } }
          else s
        writeMoves n now cause writer relax (moves.filter fun x => !(p.moves.any fun y => y.page == x.page)) s

/-! ### Collecting a stripe (R255, R256) -/

/-- The pages whose current ML slot lies in a stripe: valid slots. -/
def State.validPages (s : State) (stripe : Nat) : List Nat :=
  ((s.xlat.mainMap.filter fun e => stripeOfUnit (unitOfMap e.2) == stripe).map (·.1)) ++
  ((s.integ.table.filter fun e => stripeOfUnit (unitOfMap e.2) == stripe).map (·.1 + integrityBase))

/-- Slots of a stripe that can hold data. -/
def State.dataSlots (s : State) (stripe : Nat) : Nat := 512 * s.pageSlots stripe (s.stripeMode stripe)

/-- A stripe whose data has to be moved first: a suspect member, or a refresh (R255, R280). -/
def State.urgentVictim (s : State) (stripe : Nat) : Bool :=
  (s.stripe stripe).refresh || (s.members stripe).any fun c => (s.unit (unitOf stripe c)).state == 2

/-- Every member's footer of each page of the stripe passes its check: one whose program was cut short has none (R255). -/
def State.footersWhole (s : State) (stripe : Nat) : Bool :=
  let pages := ((s.med.footers.filter fun e => stripeOfUnit (e.1 / 512) == stripe).map fun e => e.1 % 512).eraseDups
  pages.all fun p => (s.writeMembers stripe).all fun c => (tfind (unitOf stripe c * 512 + p) s.med.footers).isSome

/-- The valid counts of the stripe are known: the segments of the pages its slot records name are rebuilt, and its footers have passed their
checks, or the background rebuild has settled it (R255). -/
def State.countsKnown (s : State) (stripe : Nat) : Bool :=
  s.xlat.allRebuilt || (s.footersWhole stripe && s.med.ml.all fun e =>
    stripeOfUnit (unitOfMap e.1) != stripe || decide (integrityBase ≤ e.2.page) || s.isRebuilt (segmentOfPage e.2.page))

/-- The score of R255 as a fraction: numerator and denominator. -/
def State.score (s : State) (stripe : Nat) : Nat × Nat :=
  let v := (s.validPages stripe).length
  let d := s.dataSlots stripe
  let hour := 3600000000000
  let age := min (s.clock - (s.stripe stripe).lastClock) (s.get 0x614005 * hour)
  let base := if s.freeStripes < s.get 0x614003 then (d - v, d) else ((d - v) * (age + hour), (d + v) * hour)
  if s.urgentVictim stripe then (base.1 + 1000000 * base.2, base.2) else base

/-- The better of two candidates: the higher score, the older last program on a tie. -/
def State.betterVictim (s : State) (a b : Nat) : Bool :=
  let x := s.score a
  let y := s.score b
  decide (y.1 * x.2 < x.1 * y.2) ||
    (x.1 * y.2 == y.1 * x.2 && decide ((s.stripe a).lastStamp < (s.stripe b).lastStamp))

/-- The victim of a collection. DEDUCED (log 180): a stripe with suspect data or a refresh is collected though every slot of it is valid (R280,
R282). -/
def State.victim (s : State) : Option Nat :=
  ((s.med.stripes.filter fun e =>
      e.2.role == .closed && !e.2.needsReset && s.countsKnown e.1 &&
        (decide ((s.validPages e.1).length < s.dataSlots e.1) || s.urgentVictim e.1)).map (·.1)).foldl
    (fun m st => match m with
      | none => some st
      | some x => if s.betterVictim st x then some st else some x) none

/-- The demand rebuilds that a collection needs before the valid counts of its stripe are known (R38, R164). -/
def collectRebuilds (stripe : Nat) (s : State) : State :=
  let pages := (s.med.ml.filter fun e => stripeOfUnit (unitOfMap e.1) == stripe && decide (e.2.page < integrityBase)).map (·.2.page)
  ((pages.map segmentOfPage).eraseDups).foldl (fun t g => startRebuild g t) s

/-- Move a stripe's valid pages elsewhere (steps 2 and 3 of R256). -/
def evacuate (stripe cause writer : Nat) (s : State) : State :=
  let moves := ((s.validPages stripe).filter s.movable).map (s.gather false)
  writeMoves (2 * moves.length) false cause writer (cause == 3) moves s

/-- A stripe holds integrity pages, current or not, or has received some since the last integrity table image. -/
def State.holdsIntegrity (s : State) (stripe : Nat) : Bool :=
  s.integ.tableStripes.contains stripe ||
    s.med.ml.any fun e => stripeOfUnit (unitOfMap e.1) == stripe && decide (integrityBase ≤ e.2.page)

/-- Nothing valid is left on a stripe: the journal that says so is programmed, then its reset is ordered (steps 6 and 7 of R256). A
stripe that holds integrity pages is reset only after an integrity table image that names none of them is durable (R313). -/
def clearStripe (stripe : Nat) (s : State) : State :=
  let s := programTail s
  if s.tailWaits then s
  else
    let s := if s.holdsIntegrity stripe then programTail (writeTableImage s) else s
    orderReset stripe (s.nextMode stripe) (s.stripeBits stripe) s

/-- A stripe has been collected once its reset is ordered: counted where collection did it (0x6140.06). -/
def countCollected (cause stripe : Nat) (s : State) : State :=
  if cause = 1 && (s.stripe stripe).needsReset then count1 0x34 31 (s.bump 0x614006) else s

/-- Collect a stripe: its valid pages are moved, a step at a time; once nothing valid is left its reset is ordered. -/
def collect (stripe cause writer : Nat) (s : State) : State :=
  let s := if (s.stripe stripe).role == .openDest cause then s.setStripe stripe { s.stripe stripe with role := .closed } else s
  if !s.countsKnown stripe then collectRebuilds stripe s
  else if (s.validPages stripe).isEmpty then countCollected cause stripe (clearStripe stripe s)
  else evacuate stripe cause writer s

/-- The stripe of the value that a move read. -/
def PageMove.source (m : PageMove) : Nat := stripeOfUnit (unitOfMap m.old)

/-- A closed stripe that a collection has emptied is reset, once no stripe page carries a page of it (R256). -/
def clearEmptied (cause stripe : Nat) (s : State) : State :=
  let r := s.stripe stripe
  let carried := s.med.stripePages.any fun p => p.moves.any fun m => m.old != unmapped && m.source == stripe
  if r.role == .closed && !r.needsReset && !carried && s.countsKnown stripe && (s.validPages stripe).isEmpty then
    countCollected cause stripe (clearStripe stripe s)
  else s

/-- A complete stripe page of collection, wear levelling, rebuild or demotion is applied, and the stripes that it emptied are reset. The records
of pages that a failed member gave up are programmed (R258). -/
def finishMoves (p : StripePage) (s : State) : State :=
  let sources := ((p.moves.filter fun m => m.old != unmapped).map PageMove.source).eraseDups
  let s := applyPage p s
  let s := if p.moves.any (·.rebuilt) then programTail s else s
  sources.foldl (fun t st => clearEmptied p.cause st t) s

end Sys2Proof.Machine
end

