-- ==== Sys2Proof/Machine/StoredOps.lean ====
section
/-! DEFINITION. Detected errors (R342): their counts, the correctable-error table (R347, R348), the queues of the targeted
self-tests (R343, R344), and the outcome of a test (R345, R349). -/

namespace Sys2Proof.Machine

/-- Error address of a medium sector (Table — Error address layouts). -/
def sectorAddress (unit page sector : Nat) : Nat := unit + page * 2 ^ 20 + sector * 2 ^ 29

/-- The row part of an SRAM or DRAM address (R348). -/
def rowPart (mem : MemKind) (address : Nat) : Nat :=
  match mem with
  | .sram => address / 64 * 64
  | .dram => address % 2 ^ 32
  | _ => address

/-- The sector that a read senses. -/
def State.sectorOf (s : State) (r : Read) : Nat :=
  if r.found = foundLog then
    let sec := r.source / 45 % 8192
    sectorAddress r.unit (sec / 16) (sec % 16)
  else
    let bits := max 1 (s.unit r.unit).cellMode
    let slot := r.source % 2048
    sectorAddress r.unit (slot / bits) (slot % bits * 16 + r.line % 64 / 4)

/-- The place in the error table of the entry that gives way: the transient one with the oldest last time. -/
def oldestTransient (l : List ErrorEntry) : Option Nat :=
  (l.zipIdx).foldl (fun m e =>
    if e.1.outcome != 1 then m
    else match m with
      | none => some e.2
      | some i => if e.1.last < (l.getD i e.1).last then some e.2 else m) none

/-- The correctable-error table is written to the parameter store (R347). -/
def saveErrors (s : State) : State := { s with stored := { s.stored with savedErrors := s.stored.errors } }

/-- Count an error at an address in the correctable-error table (R347, R348), which is written where an entry is created. -/
def tableError (mem : MemKind) (address : Nat) (uncorrectable : Bool) (s : State) : State :=
  let t := s.stored.errors
  let one := if uncorrectable then 1 else 0
  let entry : ErrorEntry :=
    { mem := mem, outcome := 0, errors := 1, uncorrectable := one, address := address, first := s.deviceTime,
      last := s.deviceTime }
  if t.any fun e => e.mem == mem && e.address == address then
    { s with stored := { s.stored with errors := t.map fun e =>
        if e.mem == mem && e.address == address then
          { e with errors := min 65535 (e.errors + 1), uncorrectable := min 0xFFFFFFFF (e.uncorrectable + one),
                   last := s.deviceTime }
        else e } }
  else if t.length < 64 then saveErrors { s with stored := { s.stored with errors := t ++ [entry] } }
  else match oldestTransient t with
    | some i => saveErrors { s with stored := { s.stored with errors := t.set i entry } }
    | none => raise 228 (s.bump 0x801002)

/-- Queue the row or sector for its targeted self-test: one row test of a memory type runs and up to 16 more wait (R343). -/
def queueTest (mem : MemKind) (address : Nat) (s : State) : State :=
  match mem with
  | .medium => { s with stored := { s.stored with sectorTests := insertNew address s.stored.sectorTests } }
  | .param => s
  | _ =>
    let row := rowPart mem address
    if s.stored.rowTests.contains (mem, row) || decide (17 ≤ (s.stored.rowTests.filter fun t => t.1 == mem).length) then s
    else { s with stored := { s.stored with rowTests := s.stored.rowTests ++ [(mem, row)] } }

/-- A detected error (R342): its count, its source, the table, the self-test. -/
def detectError (mem : MemKind) (address : Nat) (uncorrectable : Bool) (s : State) : State :=
  let s := match mem with
    | .sram => if uncorrectable then raise 217 (s.bump 0x800102) else raise 216 (s.bump 0x800101)
    | .dram => if uncorrectable then s.bump 0x800104 else raise 218 (s.bump 0x800103)
    | .medium => s.bump 0x800105
    | .param => if uncorrectable then s else raise 221 (s.bump 0x800106)
  queueTest mem address (tableError mem address uncorrectable s)

/-- Set the outcome of an address in the table: 1 transient, 2 lasting, 3 not possible. -/
def setOutcome (mem : MemKind) (address outcome : Nat) (s : State) : State :=
  let same := fun (e : ErrorEntry) => e.mem == mem && rowPart mem e.address == rowPart mem address
  let mark := fun (e : ErrorEntry) => if same e then { e with outcome := outcome } else e
  saveErrors { s with stored := { s.stored with errors := s.stored.errors.map mark } }

/-- A transient outcome is the third at its address within 24 hours of service (R345). -/
def State.repeatTransient (s : State) (mem : MemKind) (address : Nat) : Bool :=
  decide (2 ≤ (s.stored.transients.filter fun t =>
    t.1 == mem && t.2.1 == address && decide (s.service < t.2.2 + 86400000000000)).length)

/-- Note a transient outcome. -/
def noteTransient (mem : MemKind) (address : Nat) (s : State) : State :=
  { s with stored := { s.stored with transients := s.stored.transients ++ [(mem, address, s.service)] } }

end Sys2Proof.Machine
end

