-- ==== Sys2Proof/Machine/Fold.lean ====
section
/-! DEFINITION. Fold, the trim of the log, collection and wear: FOLD_START, FOLD_STOP, FOLD_STRIPE_PAGE_DISPATCH, FOLD_MAP_SET,
SEGMENT_FOLD, LOG_TRIM, LOG_RELOCATION, COLLECTION, COLLECTION_CRITICAL, DESTINATION_PROGRAM_FAILURE, SOURCE_SECTOR_FAILURE,
WEAR_LEVELLING_MOVE, ROLE_ROTATION and HOURLY_TRICKLE (R156, R243 to R265, R271). -/

namespace Sys2Proof.Machine

/-! ### Checkpoints in turn (R155, R156) -/

/-- Committed delta entries of a segment. -/
def State.segmentEntries (s : State) (seg : Nat) : Nat :=
  (s.xlat.delta.filter fun d => d.grp.isNone && segmentOfLine d.line == seg).length

/-- A segment holds a line of a prompt region. -/
def State.promptSegment (s : State) (seg : Nat) : Bool := s.get (regionKey (s.regionOfPage (seg * 1024)) 0x04) == 1

/-- Committed entries that a checkpoint of the segment may hold (R156). -/
def State.checkpointLimit (s : State) (seg : Nat) : Nat := if s.promptSegment seg then 0 else s.get 0x404005

/-- The oldest dirty segment; the lowest number on a tie (R155). -/
def State.oldestDirty (s : State) : Option Nat :=
  (s.xlat.dirty.foldl (fun m e => match m with
    | none => some (e.1, e.2.stamp)
    | some x => if e.2.stamp < x.2 then some (e.1, e.2.stamp) else some x) (none : Option (Nat × Nat))).map (·.1)

/-- The checkpoint of a segment can be written now: the segment is rebuilt and within its limit, programs run, and no commit record holds
the journal tail back, so that its record is durable with it (R154, R156). -/
def State.checkpointable (s : State) (seg : Nat) : Bool :=
  s.isRebuilt seg && decide (s.segmentEntries seg ≤ s.checkpointLimit seg) && decide (0 < s.tokenBudget) && !s.tailBlocked

/-- A limit of R155 is exceeded, and the checkpoint that lowers it can be written: it goes before fold and collection. -/
def State.checkpointFirst (s : State) : Bool :=
  s.tailOver && (match s.oldestDirty with
    | some seg => s.checkpointable seg
    | none => false)

/-! ### Fold -/

/-- FOLD_START (R248). -/
def execFoldStart (s : State) : Host.Outcome State Fault Refusal :=
  if s.foldStart ≤ s.logFill then .next { s with med := { s.med with folding := true } } else .next s

/-- FOLD_STOP (R248): the fill, taken exactly, has fallen to the margin below the start. -/
def execFoldStop (s : State) : Host.Outcome State Fault Refusal :=
  if s.logRows * 100 + s.get 0x613006 * 8388608 ≤ s.foldStart * 8388608 then .next { s with med := { s.med with folding := false } } else .next s

/-- The mark at which the oldest log stripe not yet trimmed ends. -/
def State.trimEnd (s : State) : Nat := (s.med.trim / 8192 + 1) * 8192

/-- Insert a delta entry in order of its place. -/
def insertByPlace (d : Delta) : List Delta → List Delta
  | [] => [d]
  | x :: t => if d.place < x.place then d :: x :: t else x :: insertByPlace d t

/-- The committed delta entries of the oldest log stripe, from the trim mark upward. -/
def State.oldestLines (s : State) : List Delta :=
  (s.xlat.delta.filter fun d =>
    d.grp.isNone && decide (s.med.trim ≤ d.place / 45) && decide (d.place / 45 < s.trimEnd)).foldl (fun l d => insertByPlace d l) []

/-- The pages that fold takes next, in the order of their oldest live line (R249). -/
def State.foldPages (s : State) : List Nat :=
  ((s.oldestLines.filter fun d => (s.foldable d.line).isSome).map fun d => pageOfLine d.line).eraseDups

/-- Fold meets segments not yet rebuilt: it starts their demand rebuild, or joins it (R164). -/
def foldRebuilds (s : State) : State :=
  ((s.foldPages.map segmentOfPage).eraseDups).foldl (fun t g => startRebuild g t) s

/-- Gather a fold stripe page and hand its programs to the sequencers. -/
def dispatchFold (s : State) : State :=
  let s := foldRebuilds s
  match s.foldPages.filter s.movable with
  | [] => s
  | p :: rest =>
    let (dest, s) := destination 0 (s.floorOf p) s
    match dest with
    | none => s
    | some d =>
      let bits := s.stripeMode d
      let pages := ((p :: rest).filter fun x => decide (s.floorOf x ≤ bits)).take
        (s.slotValues d (s.stripe d).nextPage).length
      let moves := pages.map (s.gather true)
      let (page, s) := takePage d 0 0 moves (readMoves moves s)
      queuePage page s

/-- FOLD_STRIPE_PAGE_DISPATCH: a stripe page of as many pages as are gathered (R250). A checkpoint that is due goes first (R155). -/
def execFoldStripePageDispatch (s : State) : Host.Outcome State Fault Refusal :=
  if s.med.folding && !s.checkpointFirst && decide (0 < s.tokenBudget) then .next (dispatchFold s) else .next s

/-- FOLD_MAP_SET of a complete fold stripe page (R251). -/
def execFoldMapSet (id : Nat) (s : State) : Host.Outcome State Fault Refusal :=
  match s.med.stripePages.find? fun p => p.id == id with
  | none => .next s
  | some p =>
    if p.complete && p.cause == 0 then
      let n := (p.moves.filter s.moveApplies).length
      .next (count 0x33 31 n ((applyPage p s).addTo 0x613007 n))
    else .next s

/-- The pages of a segment with committed log lines that can be folded. -/
def State.segmentPages (s : State) (segment : Nat) : List Nat :=
  ((s.xlat.delta.filter fun d => d.grp.isNone && segmentOfLine d.line == segment && (s.foldable d.line).isSome).map fun d =>
    pageOfLine d.line).eraseDups

/-- SEGMENT_FOLD: the segment's committed log lines are folded into ML pages (R156, R205). -/
def execSegmentFold (segment : Nat) (s : State) : Host.Outcome State Fault Refusal :=
  if !s.isRebuilt segment then .next (startRebuild segment s)
  else if (decide (s.checkpointLimit segment < s.segmentEntries segment) || s.xlat.foldWanted.contains segment) &&
      decide (0 < s.tokenBudget) && (!s.checkpointFirst || s.oldestDirty == some segment) then
    let moves := ((s.segmentPages segment).filter s.movable).map (s.gather true)
    let s := writeMoves (2 * moves.length) false 0 0 false moves s
    .next { s with xlat := { s.xlat with foldWanted := s.xlat.foldWanted.filter (· != segment) } }
  else .next s

/-! ### Trim and relocation -/

/-- A delta entry is live: committed, or of an open group. -/
def State.liveEntry (s : State) (d : Delta) : Bool :=
  match d.grp with
  | none => (s.discardOver (pageOfLine d.line)).all fun x => decide (x.mark ≤ d.place / 45)
  | some g => (s.group g).isOpen

/-- Lines of the oldest log stripe that hold up its trim: committed entries, entries of open groups, moves not yet landed (R252). -/
def State.trimBlocked (s : State) : Bool :=
  let inStripe := fun (place : Nat) => decide (s.med.trim ≤ place / 45) && decide (place / 45 < s.trimEnd)
  s.xlat.delta.any (fun d => inStripe d.place && s.liveEntry d) ||
  s.med.rows.any (fun r => decide (s.med.trim ≤ r.mark) && decide (r.mark < s.trimEnd) && !r.complete)

/-- LOG_TRIM of the oldest log stripe: the journal with the MAP_SET records is programmed, then the LOG_TRIM record (R252). -/
def execLogTrim (s : State) : Host.Outcome State Fault Refusal :=
  if s.trimEnd ≤ s.med.head ∧ !s.trimBlocked ∧ s.xlat.allRebuilt then
    let mark := s.trimEnd
    let s := programTail s
    if s.tailWaits then .next s
    else
    let s := programTail (journalPut (.logTrim mark) s)
    .next (checkLogFull { s with
      med := { s.med with trim := mark, rows := s.med.rows.filter fun r => decide (mark ≤ r.mark) },
      xlat := { s.xlat with delta := s.xlat.delta.filter fun d => decide (mark ≤ d.place / 45) } })
  else .next s

/-- The copy of a live log line that is to go into a row at the head (R253, R288): a provisional one keeps its group tag and stamp, a
committed one its seal, or takes counter form as in R305. -/
def State.relocation (s : State) (d : Delta) (l : LogLine) : LogMove :=
  { line := d.line, grp := d.grp, groupTag := d.tag, data := if l.poison then 0 else s.openLine d.line l.sealed l.cipher, poison := l.poison,
    stamp := d.stamp, source := some d.place, preset := if d.grp.isNone && !l.sealed.stampForm then some l.sealed else none }

/-- LOG_RELOCATION of a line of an open group in the stripe to be trimmed next (R253): a copy waits for a row at the head. -/
def execLogRelocation (line : Nat) (s : State) : Host.Outcome State Fault Refusal :=
  match s.xlat.delta.find? fun d => d.line == line && d.grp.isSome with
  | none => .next s
  | some d =>
    let due := decide (s.med.trim ≤ d.place / 45) && decide (d.place / 45 < s.trimEnd) && decide (s.trimEnd ≤ s.med.head)
    match s.logLine d.place with
    | none => .next s
    | some l =>
      if due && s.liveEntry d && !(s.med.moves.any fun m => m.source == some d.place) then
        .next { s with med := { s.med with moves := s.med.moves ++ [s.relocation d l] } }
      else .next s

/-! ### Collection -/

/-- The stripes with an outstanding loss that still hold data, in the order of rebuild: those with pages of prompt regions first,
then the rest in ascending number (R288). -/
def State.rebuildVictims (s : State) : List Nat :=
  let all := s.stripesToRebuild
  let prompt := fun (st : Nat) => (s.validPages st).any fun p => decide (p < integrityBase) && s.promptLine (p * 64)
  all.filter prompt ++ all.filter fun st => !prompt st

/-- A stripe that a ring gives up with a Suspect member, or with fewer than 8 members to stay, is no destination: its reset is ordered at once,
for the retest or the withdrawal that follows (R282, R292). -/
def releaseStripe (stripe : Nat) (s : State) : State :=
  if (s.members stripe).any (fun c => (s.unit (unitOf stripe c)).state == 2) || decide ((s.writeMembers stripe).length < 8) then
    orderReset stripe (s.nextMode stripe) (s.stripeBits stripe) s
  else s

/-- Move a ring place to another stripe, whose reset into SL mode is ordered; the former stripe returns to the free pool, or to the SL-only
stripes. What the ring holds moves with it. LOG_UNIT records show a change of the log, and are programmed with it (R243, R263). -/
def moveRing (r : Ring) (index new : Nat) (s : State) : State :=
  let old := s.ringStripe r index
  let log := fun (stripe action : Nat) (t : State) =>
    if r == .log then
      (t.members stripe).foldl (fun t c => journalPut (.logUnit (index * 16 + c) (unitOf stripe c) action) t) t
    else t
  let s := s.setStripe new { s.stripe new with role := .ring r index }
  let s := orderReset new 1 0 s
  let o := s.stripe old
  let s := log old 1 (releaseStripe old (s.setStripe old { o with role := if o.slOnly then .slOnly else .free, needsReset := true }))
  programTail (notePool (log new 0 ((s.members old).foldl (fun t c =>
    if (t.unit (unitOf old c)).state = 1 then setUnitState (unitOf old c) 0 t else t) s)))

/-- The stripe a ring place moves to: the least worn free ML stripe, else an SL-only stripe (R263, R284). -/
def State.ringTarget (s : State) : Option Nat :=
  match s.pickStripe true 1 with
  | some n => some n
  | none => (s.med.stripes.find? fun e => e.2.role == .slOnly && (s.outstanding e.1).isEmpty).map (·.1)

/-- The live lines of a log stripe go to rows at the head, those that can be moved now and do not wait there yet (R288). -/
def relocateStripe (stripe : Nat) (s : State) : State :=
  (s.xlat.delta.filter fun d => s.liveEntry d && stripeOfUnit (s.unitOfPlace d.place) == stripe).foldl (fun t d =>
    match t.logLine d.place with
    | none => t
    | some l =>
      let held := t.med.moves.any fun m => m.source == some d.place
      if held || !l.entryDone || (d.grp.isNone && l.sealed.stampForm && !t.recordProgrammed d.stamp) then t
      else { t with med := { t.med with moves := t.med.moves ++ [t.relocation d l] } }) s

/-- A log stripe holds lines that are live, or a row that is being programmed. -/
def State.logStripeLive (s : State) (stripe : Nat) : Bool :=
  (s.xlat.delta.any fun d => s.liveEntry d && stripeOfUnit (s.unitOfPlace d.place) == stripe) ||
    s.med.rows.any fun r => !r.complete && s.rowStripe r.mark == stripe

/-- Rebuild of a place of a ring: a log stripe's live lines are relocated first, and then the place moves to another stripe (R288). DESIGN
CHOICE (log 167): the log stripe that holds the head moves as it is, since its lines have no other row to go to. -/
def rebuildRing (r : Ring) (index : Nat) (s : State) : State :=
  let stripe := s.ringStripe r index
  if r == .log && s.logStripeLive stripe && logIndexOfMark s.med.head != index then relocateStripe stripe s
  else match s.ringTarget with
    | some n => moveRing r index n s
    | none => s

/-- A rebuild step (R288): prompt pages first, then the rings, then the other stripes. -/
def rebuildStep (s : State) : State :=
  let victims := s.rebuildVictims
  let prompt := victims.filter fun st => (s.validPages st).any fun p => decide (p < integrityBase) && s.promptLine (p * 64)
  match prompt, s.ringLosses, victims with
  | st :: _, _, _ => collect st 3 3 s
  | [], (r, i) :: _, _ => rebuildRing r i s
  | [], [], st :: _ => collect st 3 3 s
  | [], [], [] => s

/-- Ring places whose stripe has a Suspect member or is to be refreshed: the data there is relocated first (R280, R282). -/
def State.ringSuspects (s : State) : List (Ring × Nat) :=
  ([Ring.journal, Ring.checkpoint, Ring.save, Ring.log].map fun r =>
    ((List.range (ringSize r)).filter fun i =>
      (s.stripe (s.ringStripe r i)).refresh ||
        (s.members (s.ringStripe r i)).any fun c => (s.unit (unitOf (s.ringStripe r i) c)).state == 2).map fun i => (r, i)).flatten

/-- The first ring place with suspect data moves, as in a rebuild. -/
def relieveRing (s : State) : State :=
  match s.ringSuspects with
  | (r, i) :: _ => rebuildRing r i s
  | [] => s

/-- COLLECTION of one victim (R256), or one step of a rebuild (R288), or of a ring place with suspect data (R282). It runs below the start threshold, or for a stripe with suspect
data or a refresh. -/
def execCollection (s : State) : Host.Outcome State Fault Refusal :=
  if s.tokenBudget = 0 || s.checkpointFirst then .next s
  else if !s.med.rebuildDies.isEmpty && !s.med.critical && (!s.rebuildVictims.isEmpty || !s.ringLosses.isEmpty) then .next (rebuildStep s)
  else if !s.ringSuspects.isEmpty && s.ringTarget.isSome then .next (relieveRing s)
  else match s.victim with
    | none => .next s
    | some st =>
      if s.freeStripes < s.get 0x614002 || s.urgentVictim st then
        let writer := if (s.stripe st).refresh then 5 else 1
        .next (collect st 1 writer s)
      else .next s

/-- COLLECTION_CRITICAL: write credits are withheld on both ports (R254). -/
def execCollectionCritical (s : State) : Host.Outcome State Fault Refusal :=
  if s.freeStripes < s.get 0x614004 && !s.med.critical then
    .next (noteHealth (raise 234 { s with med := { s.med with critical := true } }))
  else .next s

/-- The logical pages of a failed stripe page, whose data the module still holds, go to the next stripe pages of other destinations, as their
floors allow (R258, R284). Where none is ready they stay mapped where they are: fold, collection or rebuild gathers them again. -/
def redirect (p : StripePage) (s : State) : State :=
  let s := { s with med := { s.med with
    stripePages := s.med.stripePages.filter (fun x => x.id != p.id),
    jobs := s.med.jobs.filter fun j => j.owner != .page p.id } }
  writeMoves (2 * p.moves.length) false p.cause p.writer (p.cause == 3) (p.moves.map fun m => { m with held := true }) s

/-- DESTINATION_PROGRAM_FAILURE of a member of an open destination (R258): its unit takes a lasting fault (where PROGRAM_COMPLETE has
not given it already), the stripe closes, its failed page is redirected, and the member's earlier pages are relocated. -/
def execDestinationProgramFailure (stripe : Fin 65536) (channel : Fin 16) (s : State) : Host.Outcome State Fault Refusal :=
  let st := stripe.val
  let u := unitOf st channel.val
  let failed := s.med.stripePages.filter fun p => p.stripe == st && p.failedOn.contains channel.val
  let isOpen := match (s.stripe st).role with
    | .openDest _ => true
    | _ => false
  if !isOpen && failed.isEmpty then .next s
  else
    let s := if failed.isEmpty then lastingFault u s else s
    let s := s.setStripe st { s.stripe st with role := .closed }
    let s := failed.foldl (fun t p => redirect p t) s
    let mine := (s.validPages st).filter fun p => unitOfMap (s.pageValue p) == u && s.movable p
    let moves := mine.map fun p => { s.gather false p with rebuilt := true }
    let s := writeMoves (2 * moves.length) false 1 1 false moves s
    .next (raise 235 (s.bump 0x614008))

/-- The lines whose current copy a sector holds. -/
def State.sectorLines (s : State) (unit page sector : Nat) : List Nat :=
  if (s.unit unit).cellMode = 1 then
    let row := page * 16 + sector
    (s.xlat.delta.filter fun d => s.unitOfPlace d.place == unit && d.place / 45 % 8192 == row).map (·.line)
  else
    let bits := (s.unit unit).cellMode
    let value := unit * 2048 + page * bits + sector / 16
    ((s.xlat.mainMap.filter fun e => e.2 == value).map fun e =>
      (List.range 4).map fun i => e.1 * 64 + sector % 16 * 4 + i).flatten.filter fun l => (s.deltaOf l none).isNone

/-- The integrity lines whose current copy a sector of an ML page holds (R312). -/
def State.sectorObjects (s : State) (unit page sector : Nat) : List IntegrityObject :=
  let bits := (s.unit unit).cellMode
  if bits = 1 then []
  else
    let value := unit * 2048 + page * bits + sector / 16
    ((s.integ.table.filter fun e => e.2 == value).map fun e =>
      (List.range 4).map fun i => objectAt (e.1 % secondCopy * 64 + sector % 16 * 4 + i)).flatten

/-- What the check of each item of a sector gives that no rung served: which of them still pass is a free value (R259). -/
def failSome {α : Type} (fail : α → State → State) (l : List α) (s : State) : State :=
  l.foldl (fun t x => if t.freeNow % 2 = 1 then drawn t else fail x (drawn t)) s

/-- An uncorrectable sector is read again at a shifted threshold and by reconstruction; where neither verifies, its lines are checked one by
one, and those that do not pass fail their check (R259). `recovered` says whether one did. A failed check leads to HALT, where nothing is
dispatched: the collection pauses with it. -/
def recoverSector (unit page sector : Nat) (recovered : Bool) (s : State) : State :=
  let s := detectError .medium (sectorAddress unit page sector) true s
  if recovered then raise 236 (s.bump 0x614009)
  else
    let objects := (s.sectorObjects unit page sector).map s.failedObjects
    failSome failCheck objects.flatten (failSome (fun l t => failCheck (.dataLine l) t) (s.sectorLines unit page sector) s)

/-- SOURCE_SECTOR_FAILURE of fold or collection (R259): detected and queued for its self-test; recovered by re-read or
reconstruction, or handed to the failed-check rules. -/
def execSourceSectorFailure (unit page sector : Nat) (recovered : Bool) (s : State) : Host.Outcome State Fault Refusal :=
  if s.dataPath then .next (recoverSector unit page sector recovered s) else .next s

/-! ### Wear -/

/-- The free stripe that is too far above the mean of the ML pool: the most worn (R262). -/
def State.wornFree (s : State) : Option Nat :=
  match s.pickStripe false 2 with
  | none => none
  | some st => if lifePpm s.mlMean + s.get 0x615004 < lifePpm (s.stripeLife st) then some st else none

/-- The closed stripe whose data moves into it: the least worn among those last programmed 7 days ago or more, searched in the
stripes that share ever fewer number bits with the free stripe. -/
def State.coldStripe (s : State) (free : Nat) : Option Nat :=
  let cold := (s.med.stripes.filter fun e =>
    e.2.role == .closed && !e.2.needsReset && decide (e.2.lastClock + 604800000000000 ≤ s.clock) && s.countsKnown e.1 &&
      (s.validPages e.1).all fun p => decide (s.floorOf p ≤ s.nextMode free)).map (·.1)
  let least := fun (l : List Nat) => l.foldl (fun m st => match m with
    | none => some st
    | some x => if s.stripeLife st < s.stripeLife x then some st else some x) none
  let near := fun (n : Nat) => least (cold.filter fun st => st / n == free / n)
  match near 32 with
  | some x => some x
  | none => match near 4096 with
    | some x => some x
    | none => match near 16384 with
      | some x => some x
      | none => least cold

/-- The worn free stripe becomes the destination of wear levelling; one that an earlier move left open closes (R262). -/
def wornDest (free : Nat) (s : State) : State :=
  let shut := fun (r : StripeRec) => if r.role == .openDest 2 then { r with role := Role.closed } else r
  allocate 2 free { s with med := { s.med with stripes := s.med.stripes.map fun e => (e.1, shut e.2) } }

/-- WEAR_LEVELLING_MOVE (R262): one at a time. -/
def execWearLevellingMove (s : State) : Host.Outcome State Fault Refusal :=
  if s.tokenBudget = 0 || s.checkpointFirst || s.med.stripePages.any (·.cause == 2) then .next s
  else match s.wornFree with
    | none => .next s
    | some free =>
      match s.coldStripe free with
      | none => .next s
      | some st =>
        if (s.validPages st).isEmpty || (s.validPages st).any s.movable then
          let s := wornDest free s
          .next (if (s.openDest 2 2).isNone then s else (collect st 2 2 s).bump 0x615009)
        else .next s

/-- A ring has passed a place (R263): a log place holds no row that is not trimmed, and the journal and checkpoint rings program another. The
save ring begins anew with each curtain: DEDUCED (log 182), it has passed every place while none runs. -/
def State.ringPasses (s : State) (ring : Ring) (index : Nat) : Bool :=
  match ring with
  | .log => !(s.med.rows.any fun r => logIndexOfMark r.mark == index)
  | .journal => s.xlat.journalRows / 8192 % ringSize .journal != index
  | .checkpoint => s.xlat.checkpointRows / 8192 % ringSize .checkpoint != index
  | .save => s.pow.curtain.isNone

/-- ROLE_ROTATION of a ring place whose stripe is worn above the rotation margin, when its ring passes it (R263). -/
def execRoleRotation (ring : Ring) (index : Nat) (s : State) : Host.Outcome State Fault Refusal :=
  let old := s.ringStripe ring index
  if index < ringSize ring ∧ s.ringPasses ring index ∧ !s.tailBlocked ∧ lifePpm s.mlMean + s.get 0x615005 < lifePpm (s.stripeLife old) then
    match s.ringTarget with
    | none => .next s
    | some n => .next (raise 237 ((moveRing ring index n s).bump 0x61500A))
  else .next s

/-- Save the lifetime counts, the accumulators and the error table (R265, R271, R347). -/
def saveCounts (s : State) : State :=
  let s := saveErrors s
  let keys := [0x615006, 0x615007, 0x10000B] ++ (List.range 16).map fun c => 0x616101 + c
  { s with med := { s.med with savedCounts := keys.foldl (fun t k => tset 0 k (s.get k) t) s.med.savedCounts } }

/-- HOURLY_TRICKLE: the counts and accumulators are saved, and the accumulators are kept as an hourly mark for 720 hours. -/
def execHourlyTrickle (s : State) : Host.Outcome State Fault Refusal :=
  if s.vcoreOn then
    let mark := (List.range 16).map s.packageAge
    let marks := s.med.hourlyMarks ++ [mark]
    let volumes := s.med.volumeMarks ++ [(s.get 0x615006, s.get 0x615007)]
    let s := saveCounts s
    .next { s with med := { s.med with
      hourlyMarks := marks.drop (marks.length - 720), volumeMarks := volumes.drop (volumes.length - 24) } }
  else .next s

end Sys2Proof.Machine
end

