-- ==== Sys2Proof/Machine/DataPath.lean ====
section
/-! DEFINITION. The data path: FULL_LINE_WRITE, PARTIAL_WRITE, MERGE_PLACEMENT, POISONED_WRITE and
GLOBAL_VISIBILITY_TRANSFER (R12 to R15, R21, R33, R67, R83 to R95, R180 to R182, R190). -/

namespace Sys2Proof.Machine

/-- The lines up to the highest decodable DPA, 0x0400_4FFF_FFFF. -/
abbrev decodableLines : Nat := 68740448256

/-- A denied store (R190): Cmp, one more in 0x4060.07, source 90; nothing else changes. -/
def denyStore (p : Port) (tag : Nat) (s : State) : State := raise 90 ((sendCmp p tag s).bump 0x406007)

/-- A port accepts a write request for a data line: the counts of every accepted write. `code` is 0x03 for a full-line MemWr
and 0x04 for a partial one. -/
def countAccepted (p : Port) (code : Nat) (s : State) : State := countWrite p (countEligible p 3 (count1 code p.code s))

/-- A store as a port accepts it: its persist point and its write mode are fixed here (R21, R188). -/
def State.newStore (s : State) (p : Port) (tag line : Nat) (be : ByteEnables) (d : Line) (poison : Bool) : Store :=
  { tag := tag, line := line, be := be, data := d, poison := poison, prot := s.pow.persistAtEntry, wmode := s.writeMode line,
    seq := s.nextSeq, acceptedAt := s.clock, sampled := s.samplesNow p 3 }

/-- Put an accepted store in the port's ingress queue; its bytes count as host bytes accepted. -/
def enqueue (p : Port) (x : Store) (s : State) : State :=
  (takeSeq (useCredit p (s.modPort p fun q => { q with queue := q.queue ++ [x] }))).addTo 0x615006 64

/-- Accept a whole-line store, or a poisoned one, at a data line (R12, R67): while the module is protected Cmp leaves at entry into
the queue. -/
def acceptWhole (p : Port) (tag line : Nat) (be : ByteEnables) (d : Line) (poison : Bool) (code : Nat) (s : State) : State :=
  if !s.writeOpen p then s
  else if !s.mayStore p line then denyStore p tag (countAccepted p code s)
  else
    let t := enqueue p (s.newStore p tag line be d poison) (countAccepted p code s)
    if s.pow.persistAtEntry then sendCmp p tag t else t

/-! ### The slot of a merge (R182) -/

/-- A staging slot is free for a line: its block is staged already, or the free space is above the drain reserve (R182). -/
def State.slotFree (s : State) (line : Nat) (grp : Option Nat) : Bool :=
  !s.stagingFull || s.staging.any fun l => blockOfLine l.line == blockOfLine line && l.grp == grp

/-- The group tag a store of a port to a line will carry. -/
def State.storeGroup (s : State) (p : Port) (line : Nat) : Option Nat := s.ownedGroup p (pageOfLine line)

/-- A merge takes the oldest dirty block that the log writer has not taken yet as its victim (R182). -/
def takeVictim (s : State) : State := (takeBlocks ((oldestBlocks (s.staging.filter fun l => !l.taken)).take 1) s).bump 0x406005

/-- A queued merge that finds no slot at the drain reserve takes its victim, once (R182). -/
def mergeVictim (p : Port) (x : Store) (s : State) : State :=
  if x.victim || s.slotFree x.line (s.storeGroup p x.line) then s
  else
    takeVictim (s.modPort p fun q => { q with queue := q.queue.map fun y => if y.seq == x.seq then { y with victim := true } else y })

/-- A copy of a line that the lookup of R170 finds off the medium for a store of a port: an earlier store in its queue, the staged version of
its group, and, unless the delta map holds a version of the group, the committed staged line or a cached copy. -/
def State.foundNear (s : State) (p : Port) (x : Store) : Bool :=
  let grp := s.storeGroup p x.line
  ((s.port p).queue.any fun y => y.line == x.line && decide (y.seq < x.seq)) || (s.stagedOf x.line grp).isSome ||
    (!(grp.isSome && (s.deltaOf x.line grp).isSome) &&
      ((s.stagedOf x.line none).isSome || (cacheHas s.l1 x.line).isSome || (cacheHas s.l2 x.line).isSome))

/-- The merge read of a partial write (R13), in the class of the line's region (R196): the lookup of a read (R170). What it does not find
nearer it reads from the medium, and it installs no cache block (R181). DESIGN CHOICE (log 176): the lookup of a merge is no read of
0x4070.01 to .04, and it copies no level-two hit into level one. -/
def mergeRead (p : Port) (x : Store) (s : State) : State :=
  if s.foundNear p x then s
  else
    readMedium p
      { id := s.nextRead, reader := .merge p x.seq, line := x.line, cls := s.lineAttr x.line 0x04, acceptedAt := s.clock, place := .queued,
        unit := 0, missMode := s.lineAttr x.line 0x08, allocate := 0, prefetchNext := false } s

/-- Accept a partial write at a data line: it waits in the queue for its merge, whose read starts the rebuild of a segment not yet
rebuilt (R13, R164). -/
def acceptPartial (p : Port) (tag line : Nat) (be : ByteEnables) (d : Line) (s : State) : State :=
  if !s.writeOpen p then s
  else if !s.mayStore p line then denyStore p tag (countAccepted p 0x04 s)
  else
    let x := { s.newStore p tag line be d false with victim := !s.slotFree line (s.storeGroup p line) }
    let t := enqueue p x (countAccepted p 0x04 s)
    mergeRead p x (startRebuild (segmentOfLine line) (if x.victim then takeVictim t else t))

/-- FULL_LINE_WRITE. A MemWr at a window address is a window access; beyond the last window no decoder reaches. -/
def execFullLineWrite (p : Port) (tag line : Nat) (data : Line) (s : State) : Host.Outcome State Fault Refusal :=
  if line < dataLines then .next (acceptWhole p tag line fullEnables data false 0x03 s)
  else if line < decodableLines then .next (windowWrite p tag (line * 64) fullEnables data false s)
  else .fault .outsideDpa

/-- PARTIAL_WRITE. With all 64 byte enables set it is a full-line write. -/
def execPartialWrite (p : Port) (tag line : Nat) (be : ByteEnables) (data : Line) (s : State) : Host.Outcome State Fault Refusal :=
  if line < dataLines then
    if be = fullEnables then .next (acceptWhole p tag line fullEnables data false 0x03 s)
    else .next (acceptPartial p tag line be data s)
  else if line < decodableLines then .next (windowWrite p tag (line * 64) be data false s)
  else .fault .outsideDpa

/-- POISONED_WRITE. Its data is discarded, whatever its byte enables (R67); it counts as a full-line MemWr. A poisoned write to a
window is a stray access (R55). -/
def execPoisonedWrite (p : Port) (tag line : Nat) (s : State) : Host.Outcome State Fault Refusal :=
  if line < dataLines then .next (acceptWhole p tag line fullEnables 0 true 0x03 s)
  else if line < decodableLines then .next (windowWrite p tag (line * 64) fullEnables 0 true s)
  else .fault .outsideDpa

/-! ### Merge placement -/

/-- The merge of a queued partial write can be placed: it may leave the queue (R84, R88, R124), its old line has arrived, its segment is
rebuilt (R164), and its slot is free. -/
def State.mergeReady (s : State) (p : Port) (x : Store) : Bool :=
  s.mayLeave p x && !(s.reads.any fun r => r.reader == .merge p x.seq) && s.isRebuilt (segmentOfLine x.line) && s.slotFree x.line (s.storeGroup p x.line)

/-- The queued partial write with a tag. -/
def State.findPartial (s : State) (p : Port) (tag : Nat) : Option Store :=
  (s.port p).queue.find? fun x => x.tag == tag && !x.whole

/-- A merge that cannot be placed: where only the slot is missing, it takes its victim now. -/
def mergeWaits (p : Port) (x : Store) (s : State) : State := if s.mayLeave p x then mergeVictim p x s else s

/-- MERGE_PLACEMENT of the port's partial write with a tag. -/
def execMergePlacement (p : Port) (tag : Nat) (s : State) : Host.Outcome State Fault Refusal :=
  match s.findPartial p tag with
  | none => .next s
  | some x => if s.mergeReady p x then .next (goOn p (transfer p x s)) else .next (mergeWaits p x s)

/-! ### The continuous drain -/

/-- The drain waits at the reserve: counted once for each stall, source 89 once until free space has exceeded the eviction mark (R89,
R194). -/
def stallDrain (s : State) : State :=
  match s.stallSince with
  | some _ => s
  | none =>
    let s := ({ s with stallSince := some s.clock }).bump 0x406004
    if s.stallReported then s else raise 89 { s with stallReported := true }

/-- The stall ends: the longest one. -/
def endStall (s : State) : State :=
  match s.stallSince with
  | some t => { s with stallSince := none }.raiseTo 0x406006 (s.clock - t)
  | none => s

/-- GLOBAL_VISIBILITY_TRANSFER: the continuous drain of a port transfers its next store. -/
def execGlobalVisibilityTransfer (p : Port) (s : State) : Host.Outcome State Fault Refusal :=
  match s.nextTransfer p with
  | none => .next s
  | some x =>
    if s.stagingFull then .next (stallDrain s)
    else .next (goOn p (rearmStall (transfer p x (endStall s))))

end Sys2Proof.Machine
end

