-- ==== Sys2Proof/Machine/MediaReads.lean ====
section
/-! DEFINITION. Host reads: MEMRD, MEDIUM_SECTOR_READ_DONE, PATIENCE_EXPIRY, SUSPENSION, SUSPEND_OVERRUN, RESUME,
PORT_RESPONSE_DEADLINE, MEDIA_RETRY_END, FAILED_CHECK and BARRIER_WORD_READ (R85, R87, R94, R170 to R185, R195 to R216,
R328, R329). -/

namespace Sys2Proof.Machine

/-! ### MEMRD -/

/-- A read as a port accepts it: class and attributes of its region, deadline and patience in force (R195, R188, R215). -/
def State.newRead (s : State) (p : Port) (tag line : Nat) (sampled : Bool) : Read :=
  let cls := s.lineAttr line 0x04
  { id := s.nextRead, reader := .host p tag, line := line, cls := cls, acceptedAt := s.clock, place := .queued, unit := 0,
    sampled := sampled, missMode := s.lineAttr line 0x08, allocate := s.lineAttr line 0x06,
    prefetchNext := s.lineAttr line 0x07 == 1,
    boundNs := if cls = 1 ∧ s.lineAttr line 0x0C = 1 then s.promptBound else 0,
    deadlineUs := s.get (if cls = 1 then 0x408001 else if cls = 2 then 0x408003 else 0x408002),
    patienceUs := if cls = 1 then 0 else s.get (if cls = 2 then 0x408005 else 0x408004) }

/-- Answer a read at once with a version. -/
def answerNow (r : Read) (v : Version) (s : State) : State := answerRead r v s

/-- A demand read uses a prefetched block: counted once (0x4070.09). -/
def usePrefetch (b : CacheBlock) (s : State) : State :=
  if b.prefetched then
    let clear := fun (x : CacheBlock) => if x.block == b.block then { x with prefetched := false } else x
    State.bump { s with l1 := s.l1.map clear, l2 := s.l2.map clear } 0x407009
  else s

/-- A level-two hit is copied into level one when the attribute is 1 or 3 (R175). -/
def copyUp (allocate : Nat) (b : CacheBlock) (s : State) : State :=
  if allocate = 1 ∨ allocate = 3 then installOne { b with prefetched := false } s else s

/-- Steps 3 to 6 of the lookup (Table — Read lookup order). -/
def lookUp (p : Port) (r : Read) (s : State) : State :=
  match s.stagedOf r.line none with
  | some _ => answerNow r (s.committed r.line) (count1 0x10 p.code (s.bump 0x407001))
  | none =>
    match cacheHas s.l1 r.line with
    | some b => answerNow r (b.version r.line foundLevelOne) (usePrefetch b (count1 0x11 p.code (s.bump 0x407001)))
    | none =>
      let s := s.bump 0x407002
      match cacheHas s.l2 r.line with
      | some b =>
        answerNow r (b.version r.line foundLevelTwo)
          (copyUp r.allocate b (usePrefetch b (count1 0x12 p.code (s.bump 0x407003))))
      | none => readMedium p r (s.bump 0x407004)

/-- Step 2 of the lookup, for the owner port of an open group: a staged or logged provisional version. -/
def lookUpOwned (p : Port) (g : Nat) (r : Read) (s : State) : State :=
  match s.stagedOf r.line (some g) with
  | some _ => answerNow r (s.visibleTo p r.line) (count1 0x10 p.code (s.bump 0x407001))
  | none =>
    match s.deltaOf r.line (some g) with
    | some _ => readMedium p r (s.bump 0x407002)
    | none => lookUp p r s

/-- A port accepts a MemRd of a data line (R85, R87, R170). -/
def acceptRead (p : Port) (tag line : Nat) (s : State) : State :=
  if !s.memOpen p then s
  else
    let r := s.newRead p tag line (s.samplesNow p 2)
    let t := countEligible p 2 (count1 0x02 p.code s)
    if s.lineOffline line then answerNow r (s.readValue p line) t
    else match s.newestQueued p line with
      | some x => if x.whole then answerNow r (s.readValue p line) t else addRead { r with place := .merge } t
      | none =>
        match s.ownedGroup p (pageOfLine line) with
        | some g => lookUpOwned p g r t
        | none => lookUp p r t

/-- MEMRD. A read of a window address is a window access. -/
def execMemRd (p : Port) (tag line : Nat) (s : State) : Host.Outcome State Fault Refusal :=
  if line < dataLines then .next (acceptRead p tag line s)
  else if line < decodableLines then .next (windowRead p tag (line * 64) s)
  else .fault .outsideDpa

/-! ### MEDIUM_SECTOR_READ_DONE -/

/-- The reads that a sector read serves besides the one that was sensed. -/
def State.joined (s : State) (r : Read) : List Read :=
  s.reads.filter fun x => x.id != r.id && r.joins x && (x.place == .queued || x.place == .overflow || x.place == .reconstruction)

/-- The read's sense can have run: it is the one its media region serves next and no operation runs or is held there (R201), or it is served
by reconstruction. -/
def State.senseReady (s : State) (r : Read) : Bool :=
  match r.place with
  | .queued =>
    (s.queueHead (regionOfUnit r.unit)).map (·.id) == some r.id && !s.regionBusy (regionOfUnit r.unit) &&
      !s.regionHeld (regionOfUnit r.unit)
  | .reconstruction => !s.tagWaits r
  | _ => false

/-- Count the sectors that a read moved. -/
def moveSectors (r : Read) (s : State) : State :=
  if r.place == .reconstruction then reconstructionReads r.unit s else sectorMoved (channelOfUnit r.unit) s

/-- The reads of one line that has been verified: a deadline response that went before is reported once (R214), then the responses. -/
def verified (reads : List Read) (s : State) : State :=
  reads.foldl (fun t r => respond r t) (reportDeadline (reads.filter (·.answered)) 1 s)

/-- A read whose line did not pass: a prefetch is discarded without recovery, any other goes to media retry. -/
def notVerified (r : Read) (s : State) : State := if r.demand then startRetry r s else dropRead r.id s

/-- The sector of a read has arrived. `bch` says that it passed hard-decision BCH, `tags` which of its lines pass their tag
check; what cannot be rebuilt passes neither. A prefetch that meets either failure is discarded. Otherwise every line that passes is installed and answered, and every one that
fails goes down the recovery ladder (R184). -/
def sectorDone (r : Read) (bch : Bool) (tags : BitVec 4) (s : State) : State :=
  let all := r :: s.joined r
  let bch := bch && (r.place != .reconstruction || s.stripeReadable r.unit)
  let s := moveSectors r s
  if !r.demand && !(bch && tags == 15) then dropRead r.id s
  else if !bch then all.foldl (fun t x => notVerified x t) (detectError .medium (s.sectorOf r) true s)
  else
    let passed := all.filter fun x => tags.getLsbD x.tagBit
    let failed := all.filter fun x => !tags.getLsbD x.tagBit
    let s := ladderLines r tags (failed.foldl (fun t x => notVerified x t) s)
    let lines := (passed.map (·.line)).eraseDups
    prefetch ((all.find? (·.prefetchNext)).getD r) (lines.foldl (fun t l => verified (passed.filter fun x => x.line == l) t) (fillSector r all tags s))

/-- The sector of a tag read has arrived (R314): the tag line enters the counter cache, to be checked with the lines it covers. -/
def tagDone (obj : IntegrityObject) (r : Read) (bch : Bool) (s : State) : State :=
  let s := moveSectors r (s.bump 0x70030A)
  if bch then dropRead r.id (cacheLine obj s) else startRetry r (detectError .medium (s.sectorOf r) true s)

/-- MEDIUM_SECTOR_READ_DONE. -/
def execMediumSectorReadDone (rid : Nat) (bch : Bool) (tags : BitVec 4) (s : State) : Host.Outcome State Fault Refusal :=
  match s.findRead rid with
  | none => .next s
  | some r =>
    if s.senseReady r then
      (match r.reader with
      | .tag obj => .next (tagDone obj r bch s)
      | _ => .next (sectorDone r bch tags s))
    else .next s

/-! ### Suspension -/

/-- An operation of the region is a fold or collection program (R198). -/
def State.foldProgram (s : State) (o : Op) : Bool :=
  match o.owner with
  | .page id => s.med.stripePages.any fun pg => pg.id == id && (pg.cause == 0 || pg.cause == 1)
  | _ => false

/-- PATIENCE_EXPIRY of a normal or bulk read at the head of its media region queue. A bulk read waits twice its patience for a
collection or fold program while the log is near full (R198). Prefetches and background reads never become entitled. -/
def execPatienceExpiry (rid : Nat) (s : State) : Host.Outcome State Fault Refusal :=
  match s.findRead rid with
  | none => .next s
  | some r =>
    let region := regionOfUnit r.unit
    let head := (s.queueHead region).map (·.id) == some r.id
    if r.place == .queued && head && r.demand && (r.cls == clsNormal || r.cls == clsBulk) then
      let yields := r.cls == clsBulk && s.nearFull && (s.regionOps region).any fun o => s.foldProgram o
      if yields && r.expiries == 0 then .next (modRead rid (fun x => { x with expiries := 1 }) s)
      else .next (modRead rid (fun x => { x with entitled := true, expiries := x.expiries + 1 }) s)
    else .next s

/-- A read of the region's queue is entitled to suspend (R200). -/
def State.entitledWaits (s : State) (region : Nat) : Bool := (s.regionQueue region).any (·.entitled)

/-- Change every operation of a media region. -/
def modOps (region : Nat) (f : Op → Op) (s : State) : State :=
  { s with med := { s.med with ops := s.med.ops.map fun o => if regionOfUnit o.unit == region then f o else o } }

/-- The reads waiting on a media region are served by stripe reconstruction. -/
def reconstructWaiting (region : Nat) (only : Read → Bool) (s : State) : State :=
  let waiting := s.reads.filter fun r =>
    regionOfUnit r.unit == region && (r.place == .queued || r.place == .overflow) && only r && r.demand
  waiting.foldl (fun t r => noteReconstruction r (modRead r.id (fun x => { x with place := .reconstruction, flags := x.flags + 8 }) t)) s

/-- The reads that a held operation leaves to stripe reconstruction (R201). -/
def heldServes (r : Read) : Bool := r.cls == clsPrompt || r.cls == clsNormal

/-- Operations that have been suspended as often as they may are held to completion, and the prompt and normal reads that wait are served
by reconstruction (R201). -/
def holdOps (region : Nat) (s : State) : State :=
  let spent := fun (o : Op) => !o.held && decide (o.limit ≤ o.suspensions)
  let n := ((s.regionOps region).filter spent).length
  if n = 0 then s
  else
    let s := modOps region (fun o => if spent o then { o with held := true } else o) s
    reconstructWaiting region heldServes (raiseTimes n 94 (s.addTo 0x408105 n))

/-- SUSPENSION of a media region, started by an entitled read of its queue (R199, R201), or the late confirmation of one (R202). A region
with an operation held to completion is not suspended. -/
def execSuspension (region : Fin 256) (s : State) : Host.Outcome State Fault Refusal :=
  let ops := (s.regionOps region.val).filter fun o => !o.suspended
  let first := (s.regionQueue region.val).find? (·.entitled)
  let late := s.med.overrunRegions.contains region.val
  if (first.isSome || late) && !ops.isEmpty && !s.regionHeld region.val then
    let s := modOps region.val (fun o => if o.suspended then o
      else { o with suspended := true, suspensions := o.suspensions + 1, overrun := false }) s
    let s := { s with med := { s.med with overrunRegions := s.med.overrunRegions.filter (· != region.val) } }
    let s := match first with
      | some r => modRead r.id (fun x => { x with flags := x.flags + 16 }) s
      | none => s
    .next (holdOps region.val (count 0x24 (channelOfRegion region.val) ops.length (s.addTo 0x408104 ops.length)))
  else .next s

/-- SUSPEND_OVERRUN of a media region (R202). -/
def execSuspendOverrun (region : Fin 256) (s : State) : Host.Outcome State Fault Refusal :=
  if s.regionBusy region.val && s.entitledWaits region.val && !s.med.overrunRegions.contains region.val then
    let d := dieOfRegion region.val
    let s := { s with med := { s.med with
      overrunRegions := s.med.overrunRegions ++ [region.val], overruns := s.med.overruns ++ [(d, s.service)] } }
    let s := modOps region.val (fun o => if o.suspended then o else { o with overrun := true }) s
    .next (raise 96 ((reconstructWaiting region.val (fun _ => true) s).bump 0x408108))
  else .next s

/-- RESUME of a media region whose queue holds no entitled read, or whose operation is held to completion: its operations go on (R200,
R201). -/
def execResume (region : Fin 256) (s : State) : Host.Outcome State Fault Refusal :=
  if s.entitledWaits region.val && !s.regionHeld region.val then .next s
  else .next (modOps region.val (fun o => { o with suspended := false }) s)

/-! ### Deadline and retry -/

/-- The port response deadline of a read is running: not in HALT, not while a curtain runs, not during a demand rebuild
(R212). -/
def State.deadlineRuns (s : State) (r : Read) : Bool :=
  s.mode != modeHalt && s.pow.curtain.isNone && r.place != .rebuild && !r.answered

/-- PORT_RESPONSE_DEADLINE (R212, R214). -/
def execPortResponseDeadline (rid : Nat) (s : State) : Host.Outcome State Fault Refusal :=
  match s.findRead rid with
  | none => .next s
  | some r =>
    match r.reader with
    | .prefetch => .next s
    | .merge _ _ => .next s
    | .ladder => .next s
    | .tag _ => .next s
    | .host p tag =>
      if s.deadlineRuns r then
        let stamp := s.stampNow
        let s := modRead rid (fun x => { x with deadline := some stamp, answered := true }) (takeStamp s)
        let s := count1 0x0A p.code ((sendData p tag 0 true s).bump 0x408107)
        let s := if r.isPrompt then promptDone r s else s
        .next (if r.sampled then sampleRead p 1 r.line r.acceptedAt r.found r.unit r.steps r.cls (r.flags + 2) true s else s)
      else .next s

/-- The version that failed is still the line's current copy, and no staged copy replaces it (R213): it is relocated through the
staging array under its own stamp, and a copy with a group tag keeps it (R35, R139). The outcome is 0 where it was relocated, 1 where that was not needed. -/
def relocate (r : Read) (s : State) : State × Nat :=
  let grp := match s.xlat.delta.find? fun d => r.found == foundLog && d.place == r.source && d.line == r.line with
    | some d => d.grp
    | none => none
  let current := match r.found == foundLog with
    | true => (match s.deltaOf r.line grp with | some d => d.place == r.source | none => false)
    | false => s.inSector r.line r.source
  if current && (s.stagedOf r.line grp).isNone then
    let v := match grp with
      | some g => (s.provisional g r.line).getD (s.committed r.line)
      | none => s.committed r.line
    let old := if r.found == foundLog then s.logLine r.source else none
    let entry : Staged :=
      { line := r.line, grp := grp, data := v.data, poison := v.poison, stamp := v.stamp, wmode := 0, taken := true,
        tag := (old.map (·.groupTag)).join, orig := (old.map (·.stamp)).getD 0 }
    (evict { s with staging := s.staging ++ [entry] }, 0)
  else (s, 1)

/-- The threshold-shifted re-read verifies the line: the sense above, or, where that fails BCH, the sense below (R273). -/
def rereadVerifies (x : RetrySenses) : Bool := if x.above.bch then x.above.tag else x.below.bch && x.below.tag

/-- The retry ends with a verified value, which the re-read, the reconstruction or, for a prompt tag page, its other copy served (R209,
R328). -/
def retryVerifies (x : RetrySenses) (r : Read) : Bool :=
  rereadVerifies x || x.rebuilt || (x.copy && match r.reader with
    | .tag _ => true
    | _ => false)

/-- The sector is sensed a second time, below its thresholds, where the first re-read failed BCH (R273). -/
def senseBelow (x : RetrySenses) (r : Read) (s : State) : State :=
  if x.above.bch then s else sectorMoved (channelOfUnit r.unit) s

/-- A line that the reconstruction serves counts in 0x4081.06. Where both verify, which of them verified first is a free value (R209). -/
def noteRung (x : RetrySenses) (s : State) : State :=
  if !x.rebuilt then s
  else if !rereadVerifies x then s.bump 0x408106
  else if s.freeNow % 2 = 1 then (drawn s).bump 0x408106
  else drawn s

/-- A tag line that a retry recovered enters the counter cache. -/
def cacheTag (r : Read) (s : State) : State :=
  match r.reader with
  | .tag obj => cacheLine obj s
  | _ => s

/-- The failed check of a read that no rung served: that of its line, or of the lines that its tag line covers. -/
def failRead (r : Read) (s : State) : State :=
  match r.reader with
  | .tag obj => (s.failedObjects obj).foldl (fun t o => failCheck o t) s
  | _ => failCheck (.dataLine r.line) s

/-- MEDIA_RETRY_END: the retry that a read started ends, with what its senses gave (R213, R214, R273, R328). A line recovered is installed and relocated. -/
def execMediaRetryEnd (rid : Nat) (senses : RetrySenses) (s : State) : Host.Outcome State Fault Refusal :=
  match s.findRead rid with
  | none => .next s
  | some r =>
    if r.place != .retry then .next s
    else
      let waiting := s.reads.filter fun x => x.place == .retry && x.line == r.line
      let senses := { senses with rebuilt := senses.rebuilt && s.stripeReadable r.unit }
      let s := senseBelow senses r { s with retries := s.retries.filter fun t => t.line != r.line }
      if retryVerifies senses r then
        let s := noteRung senses (raise 57 (s.bump 0x700307))
        let (s, outcome) := relocate r (installLine r (cacheTag r s))
        let s := reportDeadline waiting outcome s
        .next (prefetch ((waiting.find? (·.prefetchNext)).getD r) (waiting.foldl (fun t x => respond x t) s))
      else .next (failRead r (reportDeadline waiting 2 s))

/-- FAILED_CHECK of an object (R328, R329). It comes about only where something reads it: never while the media rails are off. -/
def execFailedCheck (obj : FailedObject) (s : State) : Host.Outcome State Fault Refusal :=
  if s.dataPath || s.mode == modeRestore || s.mode == modeHalt || s.mode == modeSave then .next (failCheck obj s) else .next s

/-- BARRIER_WORD_READ: a read of the barrier line of the port's own page (R60, R94). -/
def execBarrierWordRead (p : Port) (tag : Nat) (s : State) : Host.Outcome State Fault Refusal :=
  .next (windowRead p tag (portPageDpa p 0x0000) s)

end Sys2Proof.Machine
end

