-- ==== Sys2Proof/Machine/DriftOps.lean ====
section
/-! DEFINITION. Patrol and retirement: a patrol visit (R278 to R281), the states of
dies (R285 to R288), lost data (R290), and regions taken offline and back (R293). -/

namespace Sys2Proof.Machine

/-- Steps of a unit's oldest page, before calibration (R280): the age since its first program. -/
def State.unitSteps (s : State) (u : Nat) : Nat :=
  let r := s.unit u
  driftSteps r.cellMode (s.packageAge (channelOfUnit u) - r.firstAge)

/-! ### Patrol (R278 to R281) -/

/-- Refresh thresholds of a band: corrected bits and R272 steps (Table — Patrol and refresh by band). -/
def refreshBits (band : Nat) : Nat := if band = 0 then 6 else if band ≤ 2 then 5 else if band = 3 then 4 else 3
def refreshSteps (band : Nat) : Nat := if band ≤ 1 then 64 else if band = 2 then 61 else if band = 3 then 58 else 54

/-- Patrol period of a band in hours. -/
def patrolHours (band : Nat) : Nat :=
  if band = 0 then 72 else if band = 1 then 48 else if band = 2 then 24 else if band = 3 then 12 else 6

/-- The period in force in ns: the profile's factor halves it in Endurance (R191). -/
def State.patrolPeriod (s : State) (band : Nat) : Nat :=
  patrolHours band * 3600000000000 / (if s.profile = 2 then 2 else 1)

/-- A unit is due for its patrol visit (R278): an ML unit after the period of the hottest band since its last visit, an SL unit after 0x6170.01
hours; one never visited counts from its first program. -/
def State.patrolDue (s : State) (u : Nat) : Bool :=
  let r := s.unit u
  let since := if r.firstStamp < r.visitStamp then s.timeSince (r.visited * 1000000000) r.visitStamp else s.timeSince r.firstTime r.firstStamp
  decide ((if r.cellMode = 1 then s.get 0x617001 * 3600000000000 else s.patrolPeriod r.hottest) ≤ since)

/-- Corrected bits at which a unit is refreshed, with the offset of 0x6170.03. -/
def State.refreshAt (s : State) (band : Nat) : Int := (refreshBits band : Int) + s.getInt 8 0x617003

/-- The calibration correction after a visit: one step toward the better of the readings one step above and below (R279). DESIGN CHOICE
(log 161): a reading is better where it corrects fewer bits than the present one; of two equally good ones the step goes upward. -/
def calibrated (old : Int) (rep : PatrolReport) : Int :=
  if rep.above < rep.corrected ∧ rep.above ≤ rep.below then min 8 (old + 1)
  else if rep.below < rep.corrected then max (-8) (old - 1)
  else old

/-- Schedule the refresh of a unit's stripe (R280). -/
def scheduleRefresh (u : Nat) (s : State) : State :=
  let st := stripeOfUnit u
  if (s.stripe st).refresh then s
  else raise 238 ((s.setStripe st { s.stripe st with refresh := true }).bump 0x617005)

/-- Two successive visits within one band period of a stripe's first program found many corrected bits (R283). DESIGN CHOICE (log 162): successive visits are those
of the stripe, whichever of its members each went to. -/
def noteBadVisit (u : Nat) (rep : PatrolReport) (s : State) : State :=
  let st := stripeOfUnit u
  let r := s.unit u
  let first := (s.members st).foldl (fun m c =>
    let x := s.unit (unitOf st c)
    if x.lastPage.isSome && decide (x.firstStamp < m.firstStamp) then x else m) r
  let early := decide (s.timeSince first.firstTime first.firstStamp ≤ patrolHours (s.packageBand (channelOfUnit u)) * 3600000000000)
  let x := s.stripe st
  s.setStripe st { x with badVisits := if early && decide (s.get 0x618004 ≤ rep.corrected) then x.badVisits + 1 else
    if x.badVisits < 2 then 0 else x.badVisits }

/-- The pages of an ML unit that a visit samples (R279): page 0, the last programmed page, and six that rotate with the visit count. DEDUCED
(log 186): the six that follow one another in the unit's programmed pages. -/
def State.sampledPages (s : State) (u : Nat) : List Nat :=
  let last := (s.unit u).lastPage.getD 0
  [0, last] ++ (List.range 6).map fun i => (s.med.patrolVisits * 6 + i) % (last + 1)

/-- The footers of pages of an ML unit are read: one chunk each (R222, R279). -/
def footersRead (u n : Nat) (s : State) : State :=
  let ch := channelOfUnit u
  count 0x26 ch n (s.addTo (channelKey ch 0x01) (n * (64 * (s.unit u).cellMode)))

/-- What the samples of an ML unit lead to: its calibration moves within its bounds where 2 or more symbols were corrected or in a priority pass, and a refresh
where R280 asks for one. -/
def judgeSample (u : Nat) (inPass : Bool) (rep : PatrolReport) (s : State) : State :=
  let r := s.unit u
  let cal := if 2 ≤ rep.corrected ∨ inPass then calibrated r.calibration rep else r.calibration
  let s := if cal = r.calibration then s
    else State.bump (s.setUnit u { s.unit u with calibration := cal }) 0x617008
  let band := s.packageBand (channelOfUnit u)
  let s := noteBadVisit u rep (if 2 ≤ rep.corrected then agentReads clsBackground u 2 s else s)
  let due := decide (s.refreshAt band ≤ (rep.corrected : Int)) || decide (refreshSteps band ≤ s.unitSteps u) ||
    rep.uncorrectable || !rep.footersPass
  if due then scheduleRefresh u s else s

/-- What a patrol visit to an allocated unit reads and notes: 16 sectors of an SL unit; of an ML unit 8 with their footers, and the one with the most corrected
bits once more on either side (R279). An uncorrectable sector has either refreshed (R280). -/
def sampleUnit (u : Nat) (rep : PatrolReport) (s : State) : State :=
  let ch := channelOfUnit u
  let sl := (s.unit u).cellMode == 1
  let s := agentReads clsBackground u (if sl then 16 else 8) s
  let s := if sl then s else footersRead u 8 s
  let s := s.bump 0x617004
  let r := s.unit u
  let s := s.setUnit u { r with
    corrected := rep.corrected, visited := s.deviceTime / 1000000000 % 2 ^ 32, visitStamp := s.nextStamp, hottest := s.packageBand ch }
  let inPass := s.med.priorityPass.contains u
  let s := { s with med := { s.med with
    priorityPass := s.med.priorityPass.filter (· != u), patrolVisits := s.med.patrolVisits + 1 } }
  let s := if inPass && s.med.priorityPass.isEmpty then judgeEpisode (s.put 0x617006 0) else s
  if sl then (if rep.uncorrectable then scheduleRefresh u s else s) else judgeSample u inPass rep s

/-- A patrol visit to an allocated unit. DESIGN CHOICE (log 172): the report says how the recovery of an uncorrectable
sector ended (R280), and which of the sampled sectors it was is a free value. -/
def visit (u : Nat) (rep : PatrolReport) (s : State) : State :=
  let t := sampleUnit u rep s
  if rep.uncorrectable then
    let sl := (t.unit u).cellMode == 1
    let page := if sl then t.freeNow % 512 else (s.sampledPages u).getD (t.freeNow % 8) 0
    recoverSector u page (t.freeNow / 512 % (if sl then 16 else 64)) rep.recovered (drawn t)
  else t

/-! ### Dies (R285 to R288, R290) -/

/-- Stripes that hold data, with a member on a die. -/
def State.stripesOn (s : State) (die : Nat) : List Nat :=
  let held := fun (r : StripeRec) => match r.role with
    | .closed => true
    | .openDest _ => true
    | _ => false
  ((s.med.stripes.filter fun e => held e.2 && e.1 / 16384 == die % 4 && !e.2.lost.contains (die / 4)).map (·.1))

/-- Consecutive lines as ranges do not matter to a poison mark: each lost line takes a poison mark as a new version (R68, R290). -/
def poisonLine (line : Nat) (s : State) : State :=
  let stamp := s.stampNow
  (storeCommitted line 0 true stamp 1 [] (takeStamp s)).bump 0x61900A

/-- The lines whose current copy lies on a member of a stripe: those of the pages mapped there that the log and the staging array do
not supersede, a poisoned range's marks among them. -/
def State.linesOn (s : State) (stripe channel : Nat) : List Nat :=
  let u := unitOf stripe channel
  let pages := (s.xlat.mainMap.filter fun e => unitOfMap e.2 == u && (s.discardOver e.1).isEmpty).map (·.1)
  ((pages.map fun p => (List.range 64).map fun i => p * 64 + i).flatten).filter fun l =>
    (s.deltaOf l none).isNone && (s.stagedOf l none).isNone

/-- Log lines whose current copy lies on a member. -/
def State.logLinesOn (s : State) (stripe channel : Nat) : List Nat :=
  (s.xlat.delta.filter fun d => d.grp.isNone && s.unitOfPlace d.place == unitOf stripe channel &&
    (s.stagedOf d.line none).isNone).map (·.line)

/-- Lines of which a provisional copy that the staging array does not supersede lies in the log on a member. -/
def State.provisionalOn (s : State) (stripe channel : Nat) : List Nat :=
  (s.xlat.delta.filter fun d => d.grp.isSome && s.unitOfPlace d.place == unitOf stripe channel &&
    (s.stagedOf d.line d.grp).isNone).map (·.line)

/-- Every provisional version of a line is overwritten by a poison mark of its group (R140, R333). -/
def poisonProvisional (line : Nat) (s : State) : State :=
  (s.groups.filter fun e => e.2.prov.contains line).foldl (fun t e =>
    stageLine line (some e.1) (some (groupTag e.1 e.2)) 0 true t.stampNow 1 [] (takeStamp t)) s

/-- Some of a die's stripes take a second outstanding loss: the lines on the lost members are poisoned, and the loss is reported with their
ranges (R290). DEDUCED (log 187): one of the two dies has failed, since two retiring ones are both still read directly (R285). DESIGN CHOICE (log 92): a group's provisional copy there is a current copy too, that of the group. -/
def loseData (die : Nat) (s : State) : State :=
  let ch := die / 4
  let double := ((s.stripesOn die) ++ ((List.range 1024).map (s.ringStripe .log)).filter fun st => st / 16384 == die % 4).filter fun st =>
    (s.outstanding st).contains ch && decide (2 ≤ (s.outstanding st).length) &&
      (s.outstanding st).any fun c => s.dieState (dieOfUnit (unitOf st c)) == 2
  let lines := (double.map fun st =>
    ((s.outstanding st).map fun c => s.linesOn st c ++ s.logLinesOn st c).flatten).flatten
  let provisional := (double.map fun st => ((s.outstanding st).map fun c => s.provisionalOn st c).flatten).flatten
  if lines.isEmpty && provisional.isEmpty then s
  else raise 245 (nameLines 245 ((lines ++ provisional).map fun l => (l, 1)) (provisional.foldl (fun t l => (poisonProvisional l t).bump 0x61900A) (lines.foldl (fun t l => poisonLine l t) s)))

/-- The work of a die that takes no more: its waiting jobs go, and with them, once it has failed, what was in flight. A log row or
reset then ends without that member; a stripe page that lacks a member's program and footer is redirected (R256 step 4, R258). -/
def dropWork (die : Nat) (failed : Bool) (s : State) : State :=
  let gone := if failed then (s.med.ops.filter fun o => dieOfUnit o.unit == die).map (·.id) else []
  let ended := (s.med.jobs.filter fun j => dieOfUnit j.unit == die).map (·.owner) ++
    (s.med.ops.filter fun o => gone.contains o.id).map (·.owner)
  let cut := fun (p : StripePage) => if ended.contains (.page p.id) then { p with failedOn := insertNew (die / 4) p.failedOn } else p
  endOverruns { s with med := { s.med with
    stripePages := s.med.stripePages.map cut,
    jobs := s.med.jobs.filter fun j => dieOfUnit j.unit != die,
    ops := s.med.ops.filter fun o => !gone.contains o.id,
    transfers := s.med.transfers.filter fun t => !gone.contains t.id } }

/-- The save role moves at once to stripes without an outstanding loss (R288). -/
def moveSaves (s : State) : State :=
  (List.range (ringSize .save)).foldl (fun t i =>
    if (t.outstanding (t.ringStripe .save i)).isEmpty then t
    else match t.ringTarget with
      | some n => moveRing .save i n t
      | none => t) s

/-- A die takes state 1 Retiring or 2 Failed: it leaves service, its stripes have an outstanding loss, and rebuild starts. -/
def dieLeaves (die state : Nat) (s : State) : State :=
  let old := s.dieState die
  if state ≤ old then s
  else
    let s := s.put (dieKey die 0x01) state
    let s := dropWork die (state == 2) s
    let s := { s with med := { s.med with
      rebuildDies := insertNew die s.med.rebuildDies,
      rebuildStarted := if s.med.rebuildDies.isEmpty then s.service else s.med.rebuildStarted } }
    let s := if s.get 0x61A002 = 2 then s else judgeEpisode ((s.put 0x61A002 1).put 0x61A003 die)
    let s := if old = 0 then raise 242 s else s
    let s := moveSaves s
    let s := if state = 2 then (List.range 4).foldl (fun t i => reconstructWaiting (die * 4 + i) (fun _ => true) t) s else s
    noteHealth (loseData die s)

/-- Transfer errors of a channel within the last hour of service (R287). -/
def State.channelErrors (s : State) (ch : Nat) : Nat :=
  (s.med.transferErrors.filter fun e => e.1 == ch && decide (s.service < e.2 + 3600000000000)).length

/-! ### Regions offline (R293) -/

/-- The lowest offline page that a group's running BIND claims. -/
def State.bindOffline (s : State) (g : Group) : Option Nat :=
  match g.running with
  | some c => if c.code == codeBind && c.status == 0 then s.lowestOffline (bindStart c.a) (bindPages c.b) else none
  | none => none

/-- The running BINDs that claim a page of an offline region end with 0x0A06: from that instant BIND refuses (R293). -/
def refuseBinds (s : State) : State :=
  s.groups.foldl (fun t e => match s.bindOffline e.2 with
    | some p => t.setGroup e.1 { e.2 with running := e.2.running.map fun c => { c with status := 0x0A06, detail := p } }
    | none => t) s

/-- Take a region offline at one instant: the groups with bound pages there are forcibly aborted with end cause 6. -/
def takeOffline (r : Nat) (s : State) : State :=
  let s := refuseBinds (setRegionState r 3 s)
  let groups := (s.groups.filter fun e => e.2.isOpen && e.2.extents.any fun x =>
    (s.lowestOffline x.1 x.2).isSome).map (·.1)
  groups.foldl (fun t g =>
    let first := ((t.group g).extents.filterMap fun x => t.lowestOffline x.1 x.2).foldl (fun m p => match m with
      | none => some p
      | some q => some (min p q)) none
    forceAbort g 6 (first.getD 0) t) s

/-! ### Preparation of a prompt region (R189) -/

/-- Segments of a region that hold something: a mapped page, a delta entry or a checkpoint. -/
def State.regionSegments (s : State) (r : Nat) : List Nat :=
  let x := s.regionPages r
  ((s.touchedPages.map segmentOfPage ++ s.xlat.checkpoints.map (·.1) ++ s.latentSegments).eraseDups).filter fun g =>
    overlaps x.1 x.2 (g * 1024) 1024

/-- A segment is not yet checkpointed with no delta entries and marked for rebuild before READY. -/
def State.unprepared (s : State) (seg : Nat) : Bool :=
  (s.xlat.delta.any fun d => d.grp.isNone && segmentOfLine d.line == seg) ||
    !(match tfind seg s.xlat.checkpoints with
      | some c => c.prompt && (s.isRebuilt seg || c.deltas.isEmpty)
      | none => s.xlat.mainMap.all (fun e => segmentOfPage e.1 != seg) && (s.latentMap seg).isEmpty)

/-- A region becomes prompt: it reads State 2 while its segments are folded and checkpointed. -/
def prepare (r : Nat) (s : State) : State :=
  let s := setRegionState r 2 s
  ((s.regionSegments r).filter s.unprepared).foldl (fun t g =>
    let t := dirtySegment g t
    if t.xlat.delta.any fun d => d.grp.isNone && segmentOfLine d.line == g then
      { t with xlat := { t.xlat with foldWanted := insertNew g t.xlat.foldWanted } }
    else t) s

/-- A region leaves the prompt class while it reads State 2: what its preparation still wanted folded is not wanted any more (R189). -/
def abandonPreparation (r : Nat) (s : State) : State :=
  let segments := s.regionSegments r
  { s with xlat := { s.xlat with foldWanted := s.xlat.foldWanted.filter fun g => !segments.contains g } }

/-- The preparation of a region is done. -/
def State.prepared (s : State) (r : Nat) : Bool :=
  s.get (regionKey r 0x0C) == 2 && (s.regionSegments r).all fun g => !s.unprepared g

/-- An enabled region takes the State of its class: a prompt one is prepared first. -/
def bringOnline (r : Nat) (s : State) : State :=
  if s.get (regionKey r 0x04) = 1 then prepare r s else setRegionState r 1 s

end Sys2Proof.Machine
end

