-- ==== Sys2Proof/Machine/IntegrityOps.lean ====
section
/-! DEFINITION. The integrity space on the medium (R312), write-back batches and the anchor (R317), fetches and their pending entries
(R320, R327), poisoned ranges (R333), resume (R332), and renewal of key slots (R334, R335). -/

namespace Sys2Proof.Machine

/-! ### Integrity pages (R312) -/

/-- A failed check of an integrity line. -/
def failIntegrity (obj : IntegrityObject) (s : State) : State := (s.failedObjects obj).foldl (fun t o => failCheck o t) s

/-! ### Write-back and the anchor (R317) -/

/-- Write the anchor (R317): root, chain value and sequence of the last integrity sector, and the stamp of the batch. -/
def writeAnchor (s : State) : State :=
  let stamp := s.stampNow
  let s := takeStamp s
  (State.put { s with integ := { s.integ with
      anchor := { stamp := stamp, sequence := s.integ.sequence, chain := s.integ.chain, root := s.treeRoot },
      lastBatch := s.clock } } 0x70030D stamp)

/-- The integrity pages with a line changed since its last write-back: data pages first, then nodes bottom-up. -/
def State.changedPages (s : State) : List Nat :=
  let changed := s.integ.cache.filter (·.changed)
  let level := fun (o : IntegrityObject) => match o with
    | .node l _ => l
    | _ => 0
  (((List.range 10).map fun l => (changed.filter fun c => level c.obj == l).map fun c => integrityPage c.obj).flatten).eraseDups

/-- The tag pages whose second copy a batch writes: the changed ones, and those that have none yet (R314). -/
def State.secondPages (s : State) (changed : List Nat) : List Nat :=
  ((changed ++ s.integ.table.map (·.1)).filter fun p => s.twice p && (changed.contains p || (tfind (p + secondCopy) s.integ.table).isNone)).eraseDups

/-- Write integrity pages to ML stripes. -/
def writePages (pages : List Nat) (s : State) : State :=
  let moves := pages.map fun p => { s.gather false (integrityBase + p) with lines := s.integrityPageLines (p % secondCopy) }
  writeMoves (2 * moves.length) true 0 0 false moves s

/-- Every line with pending entries is fetched and takes them: its page is written with them before they leave the tail. -/
def applyPending (s : State) : State := ((s.integ.pendingEntries.map (·.1)).eraseDups).foldl (fun t o => cacheLine o t) s

/-- Of some integrity pages, those that have a new place since. -/
def State.rewritten (s : State) (before : Tbl Nat) (pages : List Nat) : List Nat :=
  pages.filter fun p => tfind p s.integ.table != tfind p before

/-- The batch's commit: every changed page is written, the copies of tag pages that were not are out of date, and the entries before the anchor
are no longer needed. -/
def endBatch (stale : List Nat) (s : State) : State :=
  writeAnchor { s with integ := { s.integ with
    table := s.integ.table.filter fun e => !stale.contains e.1,
    written := s.integ.counters, cache := s.integ.cache.map fun c => { c with changed := false },
    entries := s.integ.entries.filter fun e => !e.programmed } }

/-- A write-back batch: entries are programmed, the changed integrity pages are written to ML stripes, the tag pages of prompt regions
twice, and the anchor is the commit. While a changed page finds no stripe ready for it, the batch is not done: the pages written count for
nothing, and their lines stay changed. -/
def writeBack (s : State) : State :=
  let s := applyPending (programTail s)
  let changed := s.changedPages
  let t := writePages changed s
  if (t.rewritten s.integ.table changed).length = changed.length then
    let second := (t.secondPages changed).map (· + secondCopy)
    let u := writePages second t
    endBatch (second.filter fun p => !(u.rewritten t.integ.table second).contains p) u
  else
    { t with integ := { t.integ with
      table := s.integ.table, tableImage := if t.integ.tableImageStamp = s.integ.tableImageStamp then s.integ.tableImage else s.integ.table,
      tableStripes := if t.integ.tableImageStamp = s.integ.tableImageStamp then s.integ.tableStripes else [] } }

/-! ### Pinning (R324) -/

/-- The counter blocks of a region's pages and the nodes above them are fetched, those that are not cached yet, and take their pending entries;
`State.pins` holds them from then on. -/
def pinRegion (r : Nat) (s : State) : State :=
  let x := s.regionPages r
  let held := (s.integ.cache.filter fun c => pinsOf x c.obj).length
  let sectors := fun (page : Nat) => ((List.range 16).filter fun k => (List.range 4).any fun i => pinsOf x (objectAt (page * 64 + 4 * k + i))).length
  let s := (s.integ.table.filter fun e => decide (e.1 < secondCopy)).foldl
    (fun t e => sectorsMoved (channelOfUnit (unitOfMap e.2)) (sectors e.1) t) (s.addTo 0x70030A (pinnedLines x - held))
  ((s.integ.pendingEntries.map (·.1)).eraseDups.filter (pinsOf x)).foldl (fun t o => cacheLine o t) s

/-! ### Fetches (R327) -/

/-- The place of a counter block or node in the tree: its level and index. -/
def treePlace : IntegrityObject → Option (Nat × Nat)
  | .counterBlock page => some (0, page)
  | .node level index => some (level, index)
  | _ => none

/-- The parent's field for an object of the tree, from the parent's line as the walk read it or, where that is cached or on chip, as it
stands. -/
def State.parentField (s : State) (parent : Option (BitVec 512)) (level index : Nat) : BitVec 56 :=
  match parent with
  | some b => nodeField b (index % 8)
  | none => if level = 9 then s.treeRoot.getD index 0 else nodeField (s.treeLine (level + 1) (index / 8)) (index % 8)

/-- A fetched line verifies against its parent: the low 56 bits of its MAC are the parent's field, and a node's own MAC is right (R327). A
tag line is checked with the lines it covers. -/
def State.verifies (s : State) (obj : IntegrityObject) (b : BitVec 512) (parent : Option (BitVec 512)) : Bool :=
  match treePlace obj with
  | none => true
  | some (level, index) =>
    digestOf obj b == s.parentField parent level index && (decide (level = 0) || macOf obj b == nodeMac b)

/-- The lines of a walk that fail their check, from the line itself upward: each has its body, and the next one's is its parent's. -/
def State.walkFailures (s : State) : List (IntegrityObject × BitVec 512) → List IntegrityObject
  | [] => []
  | (o, b) :: rest => (if s.verifies o b (rest.head?.map (·.2)) then [] else [o]) ++ s.walkFailures rest

/-- A line that verified only on a further rung of the ladder is counted (R328). -/
def noteRecovered (l : FetchedLine) (s : State) : State := if l.recovered then raise 57 (s.bump 0x700307) else s

/-! ### Poisoned ranges (R333) -/

/-- Enter named ranges in the poisoned-range table of 64; the ranges beyond are written as poison marks (R68, R333). -/
def poisonRanges (stamp : Nat) (ranges : List (Nat × Nat)) (s : State) : State :=
  let kept := s.integ.poisonedRanges.filter s.rangeLive
  let room := 64 - kept.length
  let now := (ranges.take room).map fun r => (r.1, r.2, stamp)
  let s := { s with integ := { s.integ with poisonedRanges := kept ++ now } }
  (ranges.drop room).foldl (fun t r =>
    (List.range r.2).foldl (fun u i =>
      let st := u.stampNow
      poisonProvisional (r.1 + i) (storeCommitted (r.1 + i) 0 true st 1 [] (takeStamp u))) t) s

/-! ### Resume (R332) -/

/-- The resume steps: caches cleared of named lines, the ranges poisoned or the tree re-anchored, the record cleared, and service
again. -/
def resume (reAnchor : Bool) (s : State) : State :=
  match s.integ.halt with
  | none => s
  | some h =>
    let s := s.put 0x700301 2
    let s := h.ranges.foldl (fun t r => dropCachedBlocks r.1 r.2 t) s
    let named := fun (o : IntegrityObject) => match o with
      | .counterBlock page => inRanges (page * 64) h.ranges
      | .tagLine k => inRanges (k * 8) h.ranges
      | .node level index => inRanges (index * (512 * 8 ^ (level - 1))) h.ranges
      | .placeTag _ => false
    let s := { s with integ := { s.integ with cache := s.integ.cache.filter fun c => !named c.obj || c.changed } }
    let s := if reAnchor then writeAnchor s
      else
        let stamp := s.stampNow
        poisonRanges stamp h.ranges (takeStamp s)
    let s := raise 63 { s with integ := { s.integ with halt := none } }
    let wake := fun (q : PortState) => { q with silent := false }
    let s := ((s.modPort .a wake).modPort .b wake).put 0x700301 0
    raiseReady .b (raiseReady .a (setMode s.bandMode s))

/-! ### Renewal (R334, R335) -/

/-- The page ranges that a slot's renewal covers: every enabled region that uses it, and the part of region 0 that no other region
covers when region 0 does. -/
def State.slotCovers (s : State) (slot page : Nat) : Bool := s.lineAttr (page * 64) 0x09 == slot

/-- Abort the open groups with a bound page in a region that uses a slot, with end cause 5. -/
def abortForSlot (slot : Nat) (s : State) : State :=
  let uses := fun (g : Group) => g.isOpen && g.extents.any fun e => (List.range e.2).any fun i => s.slotCovers slot (e.1 + i)
  ((s.groups.filter fun e => uses e.2).map (·.1)).foldl (fun t g => forceAbort g 5 0 t) s

/-- The maximal ranges of pages that a slot covers, cut at the regions' edges. -/
def State.slotRanges (s : State) (slot : Nat) : List (Nat × Nat) :=
  let edges := (s.enabledRegions.map fun r =>
    [s.get (regionKey r 0x02) / 4096, (s.get (regionKey r 0x02) + s.get (regionKey r 0x03)) / 4096]).flatten
  let cuts := (0 :: 1073741824 :: edges).eraseDups.mergeSort (fun a b => decide (a ≤ b))
  ((cuts.zip (cuts.drop 1)).map fun (a, b) => (a, b - a)).filter fun r => decide (0 < r.2) && s.slotCovers slot r.1

/-- The instant of a renewal (R334 step 3): the wrapped form of a newly generated key takes the place of the old one (R301), and every page of its ranges is discarded: DISCARD records are on
the medium, staged and cached lines and map entries are gone. -/
def installKey (slot : Nat) (s : State) : State :=
  let ranges := s.slotRanges slot
  let s := ranges.foldl (fun t r =>
    let t := dirtyPages r.1 r.2 t
    journalPut (.discard 0 r.1 r.2 t.med.head) t) s
  let s := programTail s
  let covered := fun (page : Nat) => ranges.any (extentHas page)
  let waiting := ((s.staging.filter fun l => covered (pageOfLine l.line)).map (·.cmpTo)).flatten
  let late : List JournalRec := if s.xlat.allRebuilt then []
    else ranges.map fun r => { stamp := s.highestStamp, kind := .discard 0 r.1 r.2 s.med.head, programmed := true }
  let s := { s with
    integ := { s.integ with
      wrappedKeys := tput slot (Config.aesWrap keyEncryptionKey (Config.generatedKey s.integ.keysGenerated)) s.integ.wrappedKeys,
      keysGenerated := s.integ.keysGenerated + 1 },
    staging := s.staging.filter fun l => !covered (pageOfLine l.line),
    xlat := { s.xlat with
      mainMap := s.xlat.mainMap.filter fun e => !covered e.1,
      delta := s.xlat.delta.filter fun d => !covered (pageOfLine d.line),
      pendingRecords := s.xlat.pendingRecords ++ late,
      commitWaits := (s.xlat.commitWaits.map fun w => (w.1, w.2.filter fun l => !covered (pageOfLine l))).filter fun w => !w.2.isEmpty } }
  let s := ranges.foldl (fun t r => dropCachedRange (r.1 * 64) (r.2 * 64) t) s
  let moved := s.med.moves.filter fun m => !covered (pageOfLine m.line)
  sendCmps waiting ((State.put { s with med := { s.med with moves := moved } } (slotKey slot) 1))

/-- Renew one slot. -/
def renewSlot (slot : Nat) (s : State) : State := raise 61 (installKey slot (abortForSlot slot s))

/-- Active slots. -/
def State.activeSlots (s : State) : List Nat := (List.range 16).filter fun k => s.get (slotKey k) == 1

/-- Sanitize: all active slots are renewed at one common instant (R335), each renewal raising its source (R334, R337). -/
def sanitizeNow (s : State) : State :=
  let slots := s.activeSlots
  let s := slots.foldl (fun t k => abortForSlot k t) s
  raise 62 (raiseTimes slots.length 61 (slots.foldl (fun t k => installKey k t) s))

end Sys2Proof.Machine
end

