-- ==== Sys2Proof/Machine/Translation.lean ====
section
/-! DEFINITION. Translation's own events: STAMP_CEILING_RAISE, CHECKPOINT, DIRECTORY_IMAGE, DEMAND_REBUILD and
SEGMENT_REBUILT (R145, R154 to R157, R161 to R166, R313, R318). -/

namespace Sys2Proof.Machine

/-- STAMP_CEILING_RAISE: the issued stamps have come within 2^30 of the ceiling (R145). -/
def execStampCeilingRaise (s : State) : Host.Outcome State Fault Refusal :=
  if s.get 0x405003 ≤ s.highestStamp + 1073741824 then .next (s.put 0x405003 (s.get 0x405003 + 2147483648)) else .next s

/-! ### Checkpoints -/

/-- The location of an object written from a row of the checkpoint area on: [32:13] unit, [12:0] sector. -/
def State.checkpointPlace (s : State) (row : Nat) : Nat :=
  let stripe := s.stripeOfRow .checkpoint row
  unitOf stripe ((s.writeData stripe).getD 0 0) * 8192 + row % 8192

/-- The group tag a provisional delta entry's companion carries. -/
def State.tagOfGroup (s : State) (g : Option Nat) : Nat :=
  match g with
  | some n => n + (s.group n).generation % 16384 * 262144
  | none => 0

/-- Write the checkpoint of a segment (R154): its map entries, its committed and its provisional delta entries, as readers see them, so
that every change with a lower stamp is in it, a pending discard among them (R156, R168). It is durable with its CHECKPOINT record, so the
journal tail is programmed. -/
def writeCheckpoint (seg : Nat) (s : State) : State :=
  let stamp := s.stampNow
  let s := takeStamp s
  let deltas := s.xlat.delta.filter fun d => segmentOfLine d.line == seg
  let place := s.checkpointPlace s.xlat.checkpointRows
  let cp : Checkpoint :=
    { stamp := stamp, time := s.deviceTime,
      map := (trange (seg * 1024) 1024 s.xlat.mainMap).filter fun e => (s.discardOver e.1).isEmpty,
      deltas := deltas.filter fun d => d.grp.isNone && s.deltaOf d.line none == some d,
      provisional := (deltas.filter (·.grp.isSome)).map fun d => (s.tagOfGroup d.grp, d),
      prompt := s.promptSegment seg, location := place,
      previous := match tfind seg s.xlat.checkpoints with
        | some c => c.location
        | none => 0 }
  let s := checkpointSectors cp.sectors { s with xlat := { s.xlat with
    checkpoints := tput seg cp s.xlat.checkpoints, dirty := tdel seg s.xlat.dirty,
    checkpointsSinceDirectory := s.xlat.checkpointsSinceDirectory + 1 } }
  let s := putEntry (.digest 1 seg (treeMac none (s.checkpointBytes seg cp))) (journalPut (.checkpoint seg place stamp) s)
  programTail (s.bump 0x404009)

/-! ### The directory -/

/-- The segment directory as it stands (R157): a dirty segment with no checkpoint yet has an entry too. -/
def State.directoryNow (s : State) : Tbl DirectoryEntry :=
  let written := s.xlat.checkpoints.map fun e =>
    (e.1, ({ location := e.2.location, stamp := e.2.stamp, dirty := (tfind e.1 s.xlat.dirty).isSome } : DirectoryEntry))
  s.xlat.dirty.foldl (fun t e => if (tfind e.1 t).isSome then t else tput e.1 { location := 0, stamp := 0, dirty := true } t) written

/-- Write the directory image, 8 bytes for each segment, with the images of the unit table and the integrity table (R157, R270, R313).
The superblock takes its location, copy B before copy A (R355). -/
def writeDirectory (s : State) : State :=
  let stamp := s.stampNow
  let s := takeStamp s
  let place := s.checkpointPlace s.xlat.checkpointRows
  let s := { s with med := { s.med with unitImage := s.med.units, imagePrograms := s.med.clusterPrograms } }
  let s := checkpointSectors (sectorsOf (64 * 1048576)) (checkpointSectors (sectorsOf (8 * 1048576)) { s with xlat := { s.xlat with
    directoryStamp := stamp, directory := s.directoryNow, superblockA := place, superblockB := place, checkpointsSinceDirectory := 0 } })
  writeTableImage (putEntry (.digest 2 0 (treeMac none (directoryBytes s.xlat.directory))) (journalPut (.directory place stamp) s))

/-- DIRECTORY_IMAGE (R157). -/
def execDirectoryImage (s : State) : Host.Outcome State Fault Refusal :=
  if s.tokenBudget = 0 then .next s else .next (writeDirectory s)

/-- The log writer takes the staged lines of a segment. -/
def takeSegment (seg : Nat) (s : State) : State :=
  { s with staging := s.staging.map fun l => if segmentOfLine l.line == seg then { l with taken := true } else l }

/-- The stamp from which the tail is replayed once a segment is clean: that of the oldest checkpoint of the other dirty segments. -/
def State.tailAfter (s : State) (seg : Nat) : Nat :=
  (s.xlat.dirty.filter fun e => e.1 != seg).foldl (fun m e => min m (s.segmentStamp e.1)) s.nextStamp

/-- A checkpoint of a segment would move an integrity entry out of the replay tail: a write-back batch comes first (R317). -/
def State.batchFirst (s : State) (seg : Nat) : Bool := s.integ.entries.any fun e => decide (e.stamp < s.tailAfter seg)

/-- The checkpoint of a segment after what has to come before it: a batch, and the directory image after 64 checkpoints (R157). While the batch cannot be
done there is none. -/
def checkpointNow (seg : Nat) (s : State) : State :=
  let t := if s.batchFirst seg then writeBack s else s
  if s.batchFirst seg && t.integ.anchor.stamp == s.integ.anchor.stamp then t
  else writeCheckpoint seg (if 64 ≤ t.xlat.checkpointsSinceDirectory then writeDirectory t else t)

/-- CHECKPOINT of the oldest dirty segment. A segment above its limit is folded first, and one with lines in the staging array has them logged
first, so that every change with a stamp below the checkpoint's is in it (R156). After 64 checkpoints the directory image goes first (R157). -/
def execCheckpoint (s : State) : Host.Outcome State Fault Refusal :=
  match s.oldestDirty with
  | none => .next s
  | some seg =>
    if s.checkpointable seg && (s.staging.any fun l => segmentOfLine l.line == seg) then .next (takeSegment seg s)
    else if s.checkpointable seg then
      .next (checkpointNow seg s)
    else if s.isRebuilt seg && decide (s.checkpointLimit seg < s.segmentEntries seg) then
      .next { s with xlat := { s.xlat with foldWanted := insertNew seg s.xlat.foldWanted } }
    else .next s

/-! ### Rebuild -/

/-- DEMAND_REBUILD of a segment (R164). -/
def execDemandRebuild (segment : Nat) (s : State) : Host.Outcome State Fault Refusal :=
  if segment < 1048576 then .next (startRebuild segment s) else .next s

/-- SEGMENT_REBUILT (R161): waiting accesses proceed. -/
def execSegmentRebuilt (segment : Nat) (s : State) : Host.Outcome State Fault Refusal :=
  if s.isRebuilt segment || !decide (segment < 1048576) then .next s
  else .next (finishRebuild segment s)

/-- The segments that a rebuild changes: those with a checkpoint or a pending record. -/
def State.rebuildable (s : State) : List Nat :=
  let fromRecords := s.xlat.pendingRecords.map fun r => match r.kind with
    | .mapSet page _ _ _ => [segmentOfPage page]
    | .discard _ first n _ => (s.xlat.checkpoints.map (·.1)).filter fun g => overlaps first n (g * 1024) 1024
    | _ => []
  ((s.xlat.checkpoints.map (·.1)) ++ fromRecords.flatten).eraseDups

/-- Every remaining segment is rebuilt (R166). -/
def rebuildAll (s : State) : State :=
  let s := s.rebuildable.foldl (fun t g => rebuildSegment g t) s
  releaseReads (fun _ => true) { s with xlat := { s.xlat with
    allRebuilt := true, rebuilt := [], rebuilding := [], rebuildQueue := [], pendingRecords := [] } }

end Sys2Proof.Machine
end

