-- ==== Sys2Proof/Machine/Integrity.lean ====
section
/-! DEFINITION. The integrity engine's events: STAMP_FORM_CONVERSION, WRITE_BACK_BATCH, INTEGRITY_TABLE_IMAGE, INTEGRITY_LINE_FETCH
and COUNTER_CACHE_ERROR (R305, R313, R317, R325, R327). -/

namespace Sys2Proof.Machine

/-- STAMP_FORM_CONVERSION of a committed line (R305): a copy in counter form waits for a log row. It carries no group tag, so it waits
until its group's commit record is programmed: replay would take it without (R35). -/
def execStampFormConversion (line : Nat) (s : State) : Host.Outcome State Fault Refusal :=
  match s.deltaOf line none with
  | none => .next s
  | some d =>
    match s.logLine d.place with
    | none => .next s
    | some l =>
      if l.sealed.stampForm && l.entryDone && s.recordProgrammed d.stamp && !(s.med.moves.any fun m => m.source == some d.place) then
        let move : LogMove :=
          { line := line, grp := none, data := if l.poison then 0 else s.openLine line l.sealed l.cipher, poison := l.poison,
            stamp := d.stamp, source := some d.place }
        .next { s with med := { s.med with moves := s.med.moves ++ [move] } }
      else .next s

/-- WRITE_BACK_BATCH (R317). It waits for an integrity table image while 32 stripes have received integrity pages (R313). -/
def execWriteBackBatch (s : State) : Host.Outcome State Fault Refusal :=
  if decide (0 < s.tokenBudget) && s.tableRoom then .next (writeBack s) else .next s

/-- INTEGRITY_TABLE_IMAGE before a 33rd stripe receives integrity pages (R313). -/
def execIntegrityTableImage (stripe : Fin 65536) (s : State) : Host.Outcome State Fault Refusal :=
  if decide (0 < s.tokenBudget) && !s.tableRoom && !s.integ.tableStripes.contains stripe.val then
    .next (writeTableImage s)
  else .next s

/-- INTEGRITY_LINE_FETCH of a line not in the counter cache, with the walk up to a cached ancestor, and the lines as the walk read them
(R327). The ancestors are checked first: the highest line that fails is the failed check. -/
def execIntegrityLineFetch (obj : IntegrityObject) (lines : List FetchedLine) (s : State) : Host.Outcome State Fault Refusal :=
  if s.isCached obj || !(s.dataPath || s.mode == modeRestore) then .next s
  else
    let walk := s.walk obj
    let read := walk.zipIdx.map fun (o, i) => (o, lines.getD i { body := 0, recovered := false })
    let failed := s.walkFailures (read.map fun x => (x.1, x.2.body))
    let s := walk.foldl (fun t o => (integritySector o t).bump 0x70030A) s
    match failed.getLast? with
    | none => .next (walk.reverse.foldl (fun t o => cacheLine o t) (read.foldl (fun t x => noteRecovered x.2 t) s))
    | some o => .next (failIntegrity o s)

/-- An error address in a memory whose place the event does not name: a free value in the memory's layout (R348). -/
def State.freeAddress (s : State) (mem : MemKind) : Nat :=
  match mem with
  | .sram => s.freeNow % 2 ^ 32
  | .dram => s.freeNow % 2 ^ 18 + s.freeNow / 2 ^ 18 % 2 ^ 17 * 2 ^ 23
  | _ => s.freeNow % 2 ^ 19

/-- A detected error at such an address. -/
def detectSomewhere (mem : MemKind) (uncorrectable : Bool) (s : State) : State :=
  detectError mem (s.freeAddress mem) uncorrectable (drawn s)

/-- A storage error in the counter cache (R325). -/
def cacheError (obj : IntegrityObject) (fault : CacheFault) (s : State) : State :=
  match fault with
  | .correctable => detectSomewhere .sram false s
  | .oneDirtyCopy => raise 59 ((detectSomewhere .sram true s).bump 0x70030C)
  | .bothDirtyCopies => failIntegrity obj (detectSomewhere .sram true s)
  | .clean =>
    detectSomewhere .sram true { s with integ := { s.integ with cache := s.integ.cache.filter fun c => c.obj != obj } }
  | .dramWithChanges => raise 64 (detectSomewhere .dram true s)

/-- The line is in the state that the fault names: a dirty SRAM line, a clean line, a DRAM-tier line with changes. -/
def State.faultFits (s : State) (obj : IntegrityObject) (fault : CacheFault) : Bool :=
  match s.integ.cache.find? fun c => c.obj == obj with
  | none => false
  | some c =>
    match fault with
    | .correctable => true
    | .oneDirtyCopy => c.dirty
    | .bothDirtyCopies => c.dirty
    | .clean => !c.dirty && !c.changed
    | .dramWithChanges => !c.dirty && c.changed

/-- COUNTER_CACHE_ERROR (R325). -/
def execCounterCacheError (obj : IntegrityObject) (fault : CacheFault) (s : State) : Host.Outcome State Fault Refusal :=
  if s.vcoreOn && s.faultFits obj fault then .next (cacheError obj fault s) else .next s

end Sys2Proof.Machine
end

