-- ==== Sys2Proof/Machine/LogWriter.lean ====
section
/-! DEFINITION. The log writer and the sequencers: STAGING_HOLD_EXPIRY, LOG_ROW_DISPATCH, LOG_ROW_CLOSE_TIME, LOG_ROW_COMPLETE,
PROGRAM_DISPATCH, PROGRAM_COMPLETE, STRIPE_PAGE_COMPLETE and CHUNK_GRANT (R180, R226 to R238). -/

namespace Sys2Proof.Machine

/-- STAGING_HOLD_EXPIRY: the log writer takes a line staged in staged mode (R180, R530). -/
def execStagingHoldExpiry (line : Nat) (group : Option (Fin 262144)) (s : State) : Host.Outcome State Fault Refusal :=
  let g := group.map (·.val)
  .next { s with staging := s.staging.map fun l =>
    if l.line == line && l.grp == g && l.wmode == 0 then { l with taken := true } else l }

/-- LOG_ROW_DISPATCH: the log writer holds a whole row of ready lines (R238). -/
def execLogRowDispatch (s : State) : Host.Outcome State Fault Refusal :=
  let s := noteCrowded s
  if s.rowOpen && decide (s.rowPlaces (s.rowStripe s.med.head) ≤ s.readyCount) then .next (dispatchRow s) else .next s

/-- LOG_ROW_CLOSE_TIME: a row with unfilled slots (R238). -/
def execLogRowCloseTime (s : State) : Host.Outcome State Fault Refusal :=
  let s := noteCrowded s
  if s.rowOpen && decide (0 < s.readyCount) then .next (dispatchRow s) else .next s

/-- LOG_ROW_COMPLETE of the row with a mark (R237). -/
def execLogRowComplete (mark : Nat) (s : State) : Host.Outcome State Fault Refusal :=
  match s.findRow mark with
  | none => .next s
  | some r => if !r.complete && s.ownerDone (.row mark) then .next (completeRow r s) else .next s

/-- A unit that has retired takes no program (R239): its job goes. A stripe page that was to be written to it is redirected (R258). -/
def skipMember (j : Job) (s : State) : State :=
  let failed := fun (p : StripePage) => if j.owner == .page p.id then { p with failedOn := p.failedOn ++ [channelOfUnit j.unit] } else p
  { s with med := { s.med with jobs := s.med.jobs.filter fun x => x.id != j.id, stripePages := s.med.stripePages.map failed } }

/-- PROGRAM_DISPATCH of a waiting program or reset (R227). -/
def execProgramDispatch (job : Nat) (s : State) : Host.Outcome State Fault Refusal :=
  match s.med.jobs.find? fun j => j.id == job with
  | none => .next s
  | some j =>
    let causes := s.blocks j
    if (s.unit j.unit).gone then .next (skipMember j s)
    else if causes.isEmpty then .next (dispatch j s) else .next (noteDelays j causes s)

/-- PROGRAM_COMPLETE of an operation in flight whose data has crossed its channel and which is not suspended (R228, R231). -/
def execProgramComplete (op : Nat) (ok : Bool) (s : State) : Host.Outcome State Fault Refusal :=
  match s.med.ops.find? fun o => o.id == op with
  | none => .next s
  | some o =>
    if o.suspended || s.med.transfers.any (·.id == op) then .next s
    else
      let s := endOverruns { s with med := { s.med with ops := s.med.ops.filter fun x => x.id != op } }
      if ok then .next (opSucceeded o s) else .next (opFailed o s)

/-- STRIPE_PAGE_COMPLETE (R237). The moves of a page that fold wrote wait for their FOLD_MAP_SET; those of any other are applied at once
(R256 step 5). -/
def execStripePageComplete (id : Nat) (s : State) : Host.Outcome State Fault Refusal :=
  match s.med.stripePages.find? fun p => p.id == id with
  | none => .next s
  | some p =>
    if !p.complete && p.failedOn.isEmpty && s.ownerDone (.page id) then
      .next (if p.cause = 0 then completePage p s else finishMoves p (completePage p s))
    else .next s

/-- CHUNK_GRANT on a channel (R230). -/
def execChunkGrant (channel : Fin 16) (s : State) : Host.Outcome State Fault Refusal :=
  match s.nextChunk channel.val with
  | none => .next s
  | some t => .next (grantChunk t s)

end Sys2Proof.Machine
end

