-- ==== Sys2Proof/Machine/ResetOps.lean ====
section
/-! DEFINITION. What a RESTORE resets (R46, R103, R107, R178, R257, R346, R350, R405, R420, R438, R442, R481, R493): every volatile entry and every
structure of the controller but those that the supervisor, the medium, the parameter store and the save image keep. -/

namespace Sys2Proof.Machine

/-- Entries reset where a predicate on their keys holds: those without persistence take their defaults again (R438). -/
def resetEntries (f : Nat → Bool) (s : State) : State :=
  let volatile := fun (key : Nat) => match describe key with
    | some d => d.keep == .volatile
    | none => false
  { s with dict := s.dict.filter fun e => !(f e.1 && volatile e.1), octs := s.octs.filter fun e => !(f e.1 && volatile e.1) }

/-- Volatile entries that show what the supervisor, the thermal monitor or the field link goes on measuring or holding through a RESTORE
(R24, R405; 0x1401 and 0x1402 count since VIN valid), the capture episode of RISE and RESTORE (R489), and a rebuild that goes on (R288). -/
def keptThroughRestore (key : Nat) : Bool :=
  let i := key / 256
  (i == 0x2001 && decide (key % 256 ≤ 4)) || i == 0x2010 || i == 0x2030 || i == 0x2050 || key == 0x402001 || key == 0x402002 ||
    (i == 0xD001 && decide (key % 256 ≤ 3)) || key == 0x900101 || key == 0x900102 || i == 0x9020 || i == 0x9040 || i == 0x9041 ||
    i == 0x1401 || i == 0x1402 || key == 0xA00106 || key == 0x61A002 || key == 0x61A003

/-- The State entries of the regions (R189, R293): 3 stays, a region that was changing goes on changing, and any other enabled one is
online. -/
def regionStates (before : State) (s : State) : State :=
  (0 :: before.enabledRegions).foldl (fun t r =>
    let v := before.get (regionKey r 0x0C)
    t.put (regionKey r 0x0C) (if v = 2 ∨ v = 3 then v else 1)) s

/-- The entries of the links that have trained in RISE (R531): state, rate, width and decoders. -/
def linkEntry (key : Nat) : Bool :=
  (key / 256 == 0x3010 || key / 256 == 0x3011) && (decide (key % 256 ≤ 3) || key % 256 == 7)

/-- A port after a controller reset: its link is down, its PERST input stands as it is (R46, R80), and its bandwidth windows have the length
of their entry (R498). -/
def freshPort (window : Nat) (q : PortState) : PortState := { perst := q.perst, windowLength := window }

/-- Rows of the remap table to promote (R350): of each entry in state 1, whether a spare row takes it is not stated: a free value. -/
def promote (s : State) : State :=
  let step := fun (acc : List RemapEntry × State) (e : RemapEntry) =>
    let t := acc.2
    if e.state = 1 then
      let fails := t.freeNow % 2 = 1
      (acc.1 ++ [{ e with state := if fails then 3 else 2 }], raiseIf fails 226 (drawn t))
    else (acc.1 ++ [e], t)
  let r := s.stored.remap.foldl step ([], s)
  { r.2 with stored := { r.2.stored with
    remap := r.1, shadows := (r.1.filter fun e => e.state == 3).map fun e => (e.mem, e.row) } }

/-- What is left of a log row that was being programmed: the sectors that had been, whatever the integrity entries then say (R37, R160). -/
def LogRow.cut (r : LogRow) : LogRow :=
  if r.complete then r
  else { r with
    complete := true,
    lines := r.lines.filter fun l => match r.data[l.place % 45 / 3]? with
      | some c => r.starts.any fun x => x.channel == c
      | none => false }

/-- The medium after a controller reset: nothing is in flight, resets that had not ended are placed again, destination stripes are closed
(R257), and programs cut short are torn (R37). DESIGN CHOICE (log 157): sources 232 and 233 are armed again. DESIGN
CHOICE (log 183): a priority pass that this cuts short is dropped. -/
def idleMedium (m : Medium) : Medium :=
  let resets := (m.ops.filter fun o => o.kind == .reset).map fun o =>
    ({ id := o.id, unit := o.unit, kind := o.kind, owner := o.owner } : Job)
  let isOpen := fun (r : Role) => match r with
    | .openDest _ => true
    | _ => false
  { m with
    jobs := resets ++ m.jobs.filter fun j => j.kind == .reset,
    ops := [], transfers := [], moves := [], stripePages := [], overrunRegions := [], folding := false, fullSince := none,
    fullReported := false, urgent := false, priorityPass := [], overruns := [], transferErrors := [],
    torn := (m.ops.filter fun o => o.kind != .reset).length,
    stripes := m.stripes.map fun e => if isOpen e.2.role then (e.1, { e.2 with role := .closed }) else e }

/-- The time that enforcement has lasted is counted in 0x9001.06 (R428). -/
def noteEnforced (s : State) : State :=
  match s.therm.enforcedSince with
  | none => s
  | some t => State.addTo { s with therm := { s.therm with enforcedSince := none } } 0x900106 ((s.clock - t) / 1000000000)

/-- Links that have trained in RISE stay through the start of RESTORE (R531), unless the arrangement of 0x3001.01 changes there (R46). -/
def State.keepsLinks (s : State) : Bool := s.mode == modeRise && s.modes.wideMode == (s.get 0x300101 == 1)

/-- A port at the start of RESTORE: fresh, but for a link that has trained in RISE (R531). -/
def State.restorePort (s : State) (p : Port) : PortState :=
  let window := s.get (match p with | .a => 0xB02001 | .b => 0xB02101)
  if s.keepsLinks then { s.port p with windowLength := window } else freshPort window (s.port p)

/-- The controller is reset at the start of RESTORE, and the selected profile is in force from there (R191, R192). The staging array, group table, journal tail and DMA table are left to step 9, which
takes them from the save image or drops them. DESIGN CHOICE (log 175): after a device reset within the RISE or RESTORE of a power-on the result lines
read zero, as after the power-on. -/
def controllerReset (s : State) : State :=
  let old := s
  let s := regionStates old (resetEntries (fun k => !(keptThroughRestore k || (old.keepsLinks && linkEntry k))) (noteEnforced s))
  let s := { s with
    portA := s.restorePort .a, portB := s.restorePort .b, reads := [], retries := [], l1 := [], l2 := [], stallSince := none,
    stallReported := false, cells := [], reservedA := [], reservedB := [], resultsA := [], resultsB := [],
    resultBase := { lostReset := s.pow.railsKept },
    med := idleMedium { s.med with rows := s.med.rows.map LogRow.cut },
    integ := { s.integ with cache := [] },
    stored := { s.stored with rowTests := [], sectorTests := [], transients := [], scratch := [] },
    therm := { dieTemp := s.therm.dieTemp },
    mgmt := { s.mgmt with
      sessions := [], reservations := [], blockWrites := [], deferred := [], changes := [], actionStatus := [],
      nextSession := 1 + s.freeNow % 65535 },
    recd := { s.recd with queue := s.recd.responderQueue, responderQueue := [] },
    obs := { s.obs with wrapAt := [], samples := [], thresholdRaised := false, deadlineReports := [] },
    modes := { s.modes with reinstated := false, doze := none, waking := false, wideMode := s.get 0x300101 == 1, lastStall := none },
    xlat := { s.xlat with
      poolAbove := false, commitWaits := [], rebuilding := [], rebuildQueue := [], foldWanted := [], checkpointsSinceDirectory := 0 } }
  promote (drawn (s.put 0x401002 (s.get 0x401001)))

end Sys2Proof.Machine
end

