-- ==== Sys2Proof/Machine/PowerOps.lean ====
section
/-! DEFINITION. What the supervisor does (chapters 01, 13 and 14): the supply band, rails, the power log, protection, the curtain and its
end, FALL, RISE and device resets, as operations that the commands of several chapters share. -/

namespace Sys2Proof.Machine

/-! ### The supply (R359 to R361, R366) -/

/-- The band whose rising threshold a VIN in mV has reached (Table — Supply bands). -/
def vinBand (mv : Nat) : Nat := if 8500 ≤ mv then 3 else if 4600 ≤ mv then 2 else if 2700 ≤ mv then 1 else 0

/-- The falling threshold of a band in mV. -/
def bandFloorMv (b : Nat) : Nat := if b = 3 then 8200 else if b = 2 then 4300 else if b = 1 then 2400 else 0

/-- The band that a fall to `mv` leaves from band `b`. -/
def fallBand (b mv : Nat) : Nat :=
  if bandFloorMv b ≤ mv then b
  else if bandFloorMv (b - 1) ≤ mv then b - 1
  else if bandFloorMv (b - 2) ≤ mv then b - 2 else 0

/-- The supervisor reads VIN: 0x2001.01, and the lowest since the last read of 0x2001.04. -/
def noteVin (mv : Nat) (s : State) : State :=
  let low := s.get 0x200104
  (s.put 0x200101 mv).put 0x200104 (if low = 0 then mv else min low mv)

/-- The supply band changes (R361, R391): the budget follows the band, and a serving mode becomes that of the band (R393). -/
def setBand (b : Nat) (s : State) : State :=
  if s.get 0x200102 = b then s
  else
    let s := raise 27 (State.bump (State.put { s with pow := { s.pow with capCut := 0 } } 0x200102 b) 0x200106)
    if s.serving then setMode s.bandMode s else s

/-- A rail by its code (Table — Rail dependencies). -/
def State.rail (s : State) (code : Nat) : Rail := tgetD {} code s.pow.rails

def setRail (code : Nat) (r : Rail) (s : State) : State :=
  { s with pow := { s.pow with rails := tset {} code r s.pow.rails } }

/-- Switch rails on, in the given order. -/
def railsOn (codes : List Nat) (s : State) : State := codes.foldl (fun t c => setRail c { t.rail c with on := true } t) s

/-- Switch rails off, in the given order. -/
def railsOff (codes : List Nat) (s : State) : State := codes.foldl (fun t c => setRail c { t.rail c with on := false } t) s

/-- A stuck rail is still above 10 per cent, under its crowbar (R368, R369). -/
def State.stuckNow (s : State) : Bool := s.pow.rails.any fun e => e.2.crowbar

/-- The switched rails that AUX does not keep, in dependency order. -/
def switchedRails : List Nat := [4, 5, 6, 7, 8, 9, 10, 11, 12, 13, 14]

/-! ### The power log (R370 to R373) -/

/-- Write a record of a kind, with the first failing rail and the curtain cause. The lowest VIN of the preceding 10 ms is taken from the
supervisor's present and previous readings (log 40). -/
def writeRecord (kind rail cause before : Nat) (s : State) : State :=
  let seq := (s.get 0x202002 + 1) % 2 ^ 32
  let r : PowerRecord :=
    { sequence := seq, kind := kind, mode := s.mode, rail := rail, cause := cause, time := s.deviceTime, stamp := s.highestStamp,
      vin := s.get 0x200101, lowest := min before (s.get 0x200101), current := s.get 0x902027, energy := s.get 0x203005,
      stuck := s.get 0x20100E, junction := s.get 0x900102, package := s.get 0x900101,
      voltages := (List.range 13).map fun i => s.get (railKey i) }
  State.put { s with pow := { s.pow with log := writePowerSlot r s.pow.log } } 0x202002 seq

/-! ### Protection (R19 to R26, R377) -/

/-- A yo-yo test is older than twice its interval of service. -/
def State.testOverdue (s : State) : Bool :=
  decide (s.pow.cartridge.testedAt + 2 * s.get 0x203008 * 3600000000000 < s.service)

/-- The causes that keep the module unprotected (0x4020.02). A test not yet passed since the last insertion or identity change counts
under bit 2 (log 41). -/
def State.protectCauses (s : State) : Nat :=
  let c := s.pow.cartridge
  let present := s.get 0x203001 == 1
  (if c.measured && decide (s.get 0x203005 < 600) then 1 else 0) + (if present then 0 else 2) +
    (if present && (!c.passed || s.testOverdue) then 4 else 0) + (if c.measured then 0 else 8) +
    (if s.get 0x402007 = 1 then 16 else 0)

/-- A queued store received, or will receive, Cmp under the protected persist point: step 1 of R22 is not over. -/
def State.protectedQueued (s : State) : Bool := s.portA.queue.any (·.prot) || s.portB.queue.any (·.prot)

/-- Steps 3 and 4 of R22. Nothing is dispatched in HALT, a line that finds no room in the log stays staged, and a store that a group command
holds back stays queued: the state reads 2 until they are over, since the word never reads unprotected while a store that depends on the
curtain exists (R23). -/
def finishLeaving (s : State) : State :=
  if s.mode = modeHalt then s
  else
    let s := programAll s
    if s.staging.isEmpty && !s.protectedQueued then State.put { s with pow := { s.pow with protectionWord := false } } 0x402001 0 else s

/-- Loss of protection (R22). -/
def loseProtection (causes : Nat) (s : State) : State :=
  let s := bothExceptions 5 (s.put 0x402002 causes)
  finishLeaving (raise 25 (State.put { s with pow := { s.pow with persistAtEntry := false } } 0x402001 2))

/-- Return to protection (R23). -/
def regainProtection (s : State) : State :=
  raise 26 ((State.put { s with pow := { s.pow with protectionWord := true, persistAtEntry := true } } 0x402001 1).put 0x402002 0)

/-- The modes in which a change of the protection state takes effect: those with a persistence domain to protect, and RESTORE from step
9 on (R24). -/
def State.protectionActs (s : State) : Bool :=
  s.dataPath || s.mode == modeDoze || s.mode == modeHalt || (s.mode == modeRestore && decide (9 ≤ s.modes.restoreStep))

/-- The supervisor's judgement takes effect (R377). -/
def updateProtection (s : State) : State :=
  let c := s.protectCauses
  let now := s.get 0x402001
  if s.protectionActs then
    if now = 1 then (if c = 0 then s else loseProtection c s)
    else if now = 2 then finishLeaving (s.put 0x402002 c)
    else if c = 0 then regainProtection s else s.put 0x402002 c
  else if now = 1 then s else s.put 0x402002 c

/-- A power cycle begins: the module is unprotected and the cartridge not measured (R24). -/
def unmeasured (s : State) : State :=
  (State.put { s with pow := { s.pow with
    cartridge := { s.pow.cartridge with measured := false }, persistAtEntry := false } } 0x402001 0).put 0x402002 8

/-! ### Outputs (R407, R408, R482, R516, R520, R524) -/

/-- FAULT_N is driven low. -/
def State.faultLow (s : State) : Bool :=
  match s.modes.heldPins with
  | some h =>
    let fuse := s.get 0xD00104 / 4 % 4
    if fuse = 1 then true else if fuse = 2 then decide (s.clock < h.since + 1000000) || h.faultLow else h.faultLow
  | none =>
    if s.mode = modeHalt ∨ s.mode = modeLockout then true
    else s.mode == modeAux && (s.pow.hold.isSome || s.stuckNow)

/-- HOLDUP_OK is high. -/
def State.holdupOk (s : State) : Bool :=
  match s.modes.heldPins with
  | some h => h.holdup
  | none => s.mode != modeOff && s.mode != modeAux && s.mode != modeLockout && s.get 0x402001 == 1

/-- GPO3 to GPO0. -/
def State.gpo (s : State) : Nat :=
  match s.modes.heldPins with
  | some h => h.gpo
  | none => s.get 0xD07001

/-- LED_PWR (R524). -/
def State.ledPwr (s : State) : LedPattern :=
  match s.modes.heldPins with
  | some h => h.ledPwr
  | none =>
    if s.mode = modeOff ∨ (s.mode = modeAux ∧ s.get 0x205003 = 3) then .dark
    else if s.mode = modeAux ∨ s.mode = modeLockout then .blink 100000 2000000
    else if s.mode = modeDoze then .blink 100000 1000000
    else if s.mode = modeRise ∨ s.mode = modeRestore then .blink 250000 500000
    else if s.mode = modeSave ∨ s.mode = modeFall then .blink 62500 125000
    else .lit

/-- LED_SVC (R524): the highest condition that holds. -/
def State.ledSvc (s : State) : LedPattern :=
  match s.modes.heldPins with
  | some h => h.ledSvc
  | none =>
    if s.mode = modeOff then .dark
    else if s.mode = modeHalt ∨ s.mode = modeLockout ∨ s.faultLow ∨ s.healthBits.testBit 2 then .lit
    else if s.get 0x205003 = 1 ∨ s.get 0x205003 = 2 then .blink 125000 250000
    else if s.get 0x205003 = 3 then .blink 500000 1000000
    else if (s.serving || s.mode == modeDoze || s.mode == modeService) && s.get 0x402001 != 1 then .twoFlashes
    else if s.mode = modeService ∨ s.get 0x61A002 ≠ 0 ∨ s.healthBits.testBit 0 then .blink 100000 2000000
    else .dark

/-- The outputs that a device reset holds. -/
def holdPins (s : State) : State :=
  let h : HeldPins :=
    { faultLow := s.faultLow, alertLow := s.alertLow, holdup := s.holdupOk, gpo := s.gpo, ledPwr := s.ledPwr,
      ledSvc := s.ledSvc, since := s.clock }
  { s with modes := { s.modes with heldPins := some h } }

def releasePins (s : State) : State := { s with modes := { s.modes with heldPins := none } }

/-- The level of an output pin. -/
inductive PinLevel where
  | notDriven
  | low
  | high
  deriving DecidableEq, Repr

def PinLevel.of (b : Bool) : PinLevel := if b then .high else .low

/-- READY_A and READY_B: when low, driven or not as the fuse map says (R407, R408). -/
def State.readyPin (s : State) (p : Port) : PinLevel :=
  if s.mode = modeOff then .notDriven
  else if s.ready p then .high
  else if (s.get 0xD00104).testBit p.code then .notDriven else .low

def State.faultPin (s : State) : PinLevel := if s.mode = modeOff then .notDriven else .of (!s.faultLow)

/-- ALERT_N is open drain: it is driven low or not at all (R516). -/
def State.alertPin (s : State) : PinLevel := if s.mode != modeOff && s.alertLow then .low else .notDriven

def State.holdupPin (s : State) : PinLevel := if s.mode = modeOff then .notDriven else .of s.holdupOk

/-- GPO0 to GPO3. -/
def State.gpoPin (s : State) (n : Fin 4) : PinLevel := if s.mode = modeOff then .notDriven else .of (s.gpo.testBit n.val)

/-- Credits of both ports are withheld, or granted again. -/
def withholdCredits (b : Bool) (s : State) : State :=
  (s.modPort .a fun q => { q with creditsWithheld := b }).modPort .b fun q => { q with creditsWithheld := b }

/-! ### Firmware activation (R411) -/

/-- The switch of step 4: the staged image is active. -/
def switchSlots (s : State) : State :=
  (((s.put 0xD06001 (1 - s.get 0xD06001)).put 0xD06004 (s.get 0xD06005)).put 0xD06002 0).put 0xD06005 0

/-- The end of an activation: its result, the length of its freeze and its source. -/
def endActivation (a : Activation) (result src : Nat) (s : State) : State :=
  raise src (endAction 0xD06003 stOk ((State.put { s with modes := { s.modes with activation := none } } 0xD06006 result).put 0xD06007
    ((s.clock - a.clock) / 1000)))

/-- Step 5, or the return to the previous image. -/
def finishActivation (s : State) : State :=
  match s.modes.activation with
  | none => s
  | some a => if a.passes then endActivation a 1 282 (switchSlots s) else endActivation a 2 283 s

/-- A curtain or a device reset meets an activation: before step 4, taken to begin 160 ms after the freeze (the maxima of steps 2 and 3), it is
abandoned; from then on the new image is active. -/
def interruptActivation (s : State) : State :=
  match s.modes.activation with
  | none => s
  | some a =>
    if a.passes && decide (a.clock + 160000000 ≤ s.clock) then finishActivation s
    else endAction 0xD06003 stStateConflict (State.put { s with modes := { s.modes with activation := none } } 0xD06006 3)

/-! ### FALL (R368, R369, R393) -/

/-- FALL starts. -/
def enterFall (s : State) : State :=
  let s := dropLink .b (dropLink .a (dropReady .b (dropReady .a s)))
  let s := { s with modes := { s.modes with doze := none, waking := false } }
  setMode modeFall (releasePins s)

/-- The module goes to OFF: VAON and VAUX are gone as well. -/
def goOff (s : State) : State := setMode modeOff (railsOff [3, 2] (railsOff switchedRails.reverse s))

/-- The ports of a power cycle that begins: nothing is left of the ones before (R46). -/
def freshPorts (s : State) : State :=
  ({ s with portA := freshPort (s.get 0xB02001) s.portA, portB := freshPort (s.get 0xB02101) s.portB } : State).put 0x301007 0 |>.put 0x301107 0

/-- RISE starts from AUX, or waits for the minimum off time (R393, R397). -/
def startRise (s : State) : State :=
  if s.mode != modeAux || !s.pow.vinValid then s
  else if s.stuckNow then raise 29 { s with modes := { s.modes with keptOn := true } }
  else if s.pow.hold.isSome then s
  else
    let wait := match s.modes.fallEndedAt with
      | some t => decide (s.clock < t + 50000000)
      | none => false
    if wait then { s with modes := { s.modes with keptOn := true } }
    else
      let s := if s.get 0x205003 = 3 then s.put 0x205003 0 else s
      let s := unmeasured (freshPorts { s with
        modes := { s.modes with keptOn := false, offHeld := false, vinValidAt := s.clock }, pow := { s.pow with risen := false, railsKept := false } })
      setMode modeRise (s.put 0x404101 1)

/-- A wake source, an on request or a rattle in AUX (R393, R402): it also ends the hold of R406. -/
def wakeRise (s : State) : State :=
  let s := if s.pow.hold = some .resets then { s with pow := { s.pow with hold := none, resets := [] } } else s
  let s := if s.get 0x205003 = 3 then s.put 0x205003 0 else s
  startRise s

/-- RESTORE begins: where 0x3001.01 changes the arrangement there, links that have trained fall (R46); an image staged for offline activation becomes active (R411), and the controller is reset. With rails kept its times
count from here (R162). -/
def enterRestore (s : State) : State :=
  let s := if s.get 0xD06002 = 2 then switchSlots s else s
  let s := if s.mode == modeRise && !s.keepsLinks then dropLink .b (dropLink .a s) else s
  let s := controllerReset (railsOn switchedRails s)
  setMode modeRestore ({ s with
    modes := { s.modes with
      restoreStep := 5, vinValidAt := if s.pow.railsKept then s.clock else s.modes.vinValidAt },
    pow := { s.pow with risen := false } }.put 0x404101 2)

/-! ### The curtain (R381 to R387) -/

/-- The modes in which a trigger starts a curtain (Table — Mode transitions). -/
def State.curtainMode (s : State) : Bool :=
  s.dataPath || s.mode == modeDoze || s.mode == modeHalt || (s.mode == modeRestore && decide (9 ≤ s.modes.restoreStep))

/-- ML programs and resets in flight are abandoned and wait for dispatch again (R234). -/
def abandonWork (s : State) : State :=
  let gone := s.med.ops.filter fun o => o.kind != .sl
  let jobs := gone.map fun o => ({ id := o.id, unit := o.unit, kind := o.kind, owner := o.owner } : Job)
  State.put (endOverruns { s with med := { s.med with
    ops := s.med.ops.filter fun o => o.kind == .sl, jobs := s.med.jobs ++ jobs,
    transfers := s.med.transfers.filter fun t => !gone.any fun o => o.id == t.id } }) 0x611007 gone.length

/-- Steps 1 and 2 of a curtain. -/
def startCurtain (cause : Nat) (s : State) : State :=
  let before := s.mode
  let stamp := s.stampNow
  let s := interruptActivation (takeStamp s)
  let s := if cause = 2 then holdPins s else s
  let c : Curtain :=
    { cause := cause, causes := [cause], modeBefore := before, stamp := stamp, time := s.deviceTime, clock := s.clock }
  let s := endAction 0xD02001 stStateConflict (endAction 0x203009 stStateConflict (overtakeDeferred { s with
    pow := { s.pow with curtain := some c },
    modes := { s.modes with doze := none, waking := false } }))
  let s := if cause = 3 then s.put 0x205003 2 else s
  let s := if before = modeDoze then railsOn [12, 13, 14] s else s
  let s := raise 34 (setMode modeSave s)
  let s := abandonWork (withholdCredits true s)
  settleAll (bothExceptions 7 (s.put 0x900104 0))

/-- A curtain trigger (R381): a curtain that runs absorbs it. After a curtain, while MR_N holds RESTORE back, it acts as one that the
curtain had absorbed (R385, log 146). -/
def triggerCurtain (cause : Nat) (s : State) : State :=
  match s.mode == modeSave, s.pow.curtain with
  | true, some c =>
    let s := { s with pow := { s.pow with curtain := some { c with causes := insertNew cause c.causes } } }
    if cause = 3 then s.put 0x205003 2 else s
  | true, none =>
    if cause = 2 then s
    else enterFall { (if cause = 3 then s.put 0x205003 2 else s) with
      modes := { s.modes with lockoutPending := s.modes.lockoutPending || cause == 4 } }
  | _, _ => if s.curtainMode then startCurtain cause s else s

/-- The persistence domain as the curtain saves it (R158). -/
def State.curtainImage (s : State) (c : Curtain) : Image :=
  { armed := true, complete := false, stamp := c.stamp, time := c.time, cause := c.cause, modeBefore := c.modeBefore,
    protectionWord := s.pow.protectionWord, ceiling := s.get 0x405003, restoreCount := s.get 0x10000C,
    ingressA := s.portA.queue, ingressB := s.portB.queue, staging := s.staging, groups := s.groups,
    dirtyCounters := s.integ.cache.filter (·.dirty), journalTail := s.xlat.journal.filter fun r => !r.programmed,
    integrityTail := s.integ.entries.filter fun e => !e.programmed, dma := s.obs.dma }

/-- Reads not verified at the commit point are answered with poison (R27). -/
def poisonReads (s : State) : State :=
  let s := s.reads.foldl (fun t r => match r.reader with
    | .host p tag => if r.answered then t else sendData p tag 0 true t
    | _ => t) s
  { s with reads := [], retries := [] }

/-- Step 4 of a curtain: the commit point. -/
def commitCurtain (s : State) : State :=
  match s.pow.curtain with
  | none => s
  | some c =>
    let s := silence (poisonReads (finishAccepted s))
    let image := s.curtainImage c
    let s := { s with pow := { s.pow with
      curtain := some { c with committed := true }, image := some image, imageStamp := c.stamp, saveArea := 1 - s.pow.saveArea } }
    railsOff [11, 10, 9, 8, 7] (dropLink .b (dropLink .a (dropReady .b (dropReady .a s))))

/-- The 0x2040 entries of a curtain that has ended (R390). The energy it took is a reading that no rule gives a value for: free. -/
def noteCurtain (c : Curtain) (outcome : Nat) (s : State) : State :=
  let energy := s.freeNow % 65536
  let s := drawn s
  (((((s.bump 0x204001).put 0x204003 ((s.clock - c.clock) / 1000)).put 0x204004 energy).put 0x204005 c.cause).put 0x204006 outcome)

/-- The values kept in SRAM over service that a curtain saves (R265, R271, R353). -/
def saveAtCurtain (s : State) : State := saveCounts s

/-- The image's sectors are programmed in rows of its save area (R238, R383). -/
def programImage (s : State) : State :=
  match s.pow.image with
  | some i => ringProgram .save (s.pow.saveArea * (ringSize .save / 2) * 8192) i.sectors s
  | none => s

/-- The number and the chain value of the last integrity sector in the save image (R319): the unprogrammed entries follow the journal sectors of
the tail. -/
def State.imageChain (s : State) : Nat × BitVec 64 :=
  match s.pow.image with
  | some i => chainOver i.integrityTail.length (s.xlat.journalSequence + (i.journalTail.length + 6) / 7) (s.integ.sequence, s.integ.chain) i.integrityTail
  | none => (s.integ.sequence, s.integ.chain)

/-- The step 5 work of a curtain: the rest of the image, the anchor, the record of kind 5. The save image keeps the chain's end (R319). -/
def finishCurtain (c : Curtain) (s : State) : State :=
  let s := programImage s
  let image := match s.pow.image with
    | some i => some { i with complete := true }
    | none => none
  let s := { s with
    pow := { s.pow with
      image := image, curtain := none,
      cartridge := { s.pow.cartridge with identAtCurtain := s.pow.cartridge.ident } },
    integ := { s.integ with anchor := { s.integ.anchor with sequence := s.imageChain.1, chain := s.imageChain.2 } } }
  writeRecord 5 0 c.cause (s.get 0x200101) (saveAtCurtain s)

/-- The rails are kept: the supply returned, or a device reset (R385). MR_N low holds RESTORE back (R389); the module stays in SAVE
meanwhile. -/
def restoreKept (reset : Bool) (s : State) : State :=
  let s := { s with pow := { s.pow with railsKept := true }, modes := { s.modes with offHeld := false, keptOn := false } }
  let s := if s.pow.mrLow then { s with pow := { s.pow with risen := true } } else enterRestore s
  if reset then s else releasePins s

/-- The outcome of a curtain (Table — Curtain outcome, R406): LOCKOUT, FALL, or RESTORE with rails kept. -/
def curtainOutcome (c : Curtain) (s : State) : State :=
  if c.causes.contains 4 then
    let s := noteCurtain c 4 (finishCurtain c s)
    setMode modeLockout (releasePins (railsOff switchedRails.reverse s))
  else if c.causes.contains 3 ∨ c.causes.contains 5 ∨ s.pow.fourthReset ∨ s.pow.hold.isSome ∨ !s.pow.vinValid then
    enterFall (noteCurtain c 2 (finishCurtain c s))
  else restoreKept (c.cause == 2) (noteCurtain c 3 (finishCurtain c s))

/-- A curtain is cancelled (R384). -/
def cancelCurtain (c : Curtain) (mv : Nat) (s : State) : State :=
  let s := { s with pow := { s.pow with curtain := none, vinValid := true } }
  let s := writeRecord 6 0 c.cause (s.get 0x200101) s
  let s := (((s.bump 0x204001).bump 0x204002).put 0x204003 ((s.clock - c.clock) / 1000)).put 0x204005 c.cause
  let s := raise 35 (s.put 0x204006 1)
  let s := setMode c.modeBefore s
  let s := if c.modeBefore = modeDoze then railsOff [14, 13, 12] s else withholdCredits false s
  let s := setBand (fallBand (s.get 0x200102) mv) s
  if s.serving then setMode s.bandMode s else s

/-! ### Device resets (R405, R406) -/

/-- RISE again from its firmware load: no curtain runs, and an armed image stays armed (R387). -/
def restartRise (s : State) : State :=
  let s := interruptActivation { s with
    pow := { s.pow with risen := false }, modes := { s.modes with offHeld := false } }
  let s := freshPorts (dropLink .b (dropLink .a (dropReady .b (dropReady .a s))))
  setMode modeRise (s.put 0x404101 1)

/-- A device reset source other than power-on acts in this mode. -/
def State.resetActs (s : State) : Bool :=
  s.curtainMode || s.mode == modeRise || s.mode == modeRestore

/-- A device reset starts (R405): its code and counts, source 254; the fourth within 60 s of service ends in FALL (R406). -/
def deviceReset (code : Nat) (s : State) : State :=
  if s.mode = modeSave then triggerCurtain 2 s
  else if !s.resetActs then s
  else
    let recent := s.pow.resets.filter fun t => decide (s.service < t + 60000000000)
    let s := (s.put 0xD04001 code).bump (resetKey code)
    let s := raise 254 (endAllSessions { s with pow := { s.pow with
      resets := recent ++ [s.service], fourthReset := decide (3 ≤ recent.length) } })
    if s.curtainMode then startCurtain 2 s
    else if s.pow.fourthReset then enterFall s
    else restartRise s

/-! ### Loss of the input -/

/-- Input loss (R360, R363, R387): in the modes with a persistence domain a curtain with its record, of kind 1 or 4. -/
def loseInput (kind mv : Nat) (s : State) : State :=
  let before := s.get 0x200101
  let s := endAllSessions (noteVin mv { s with pow := { s.pow with vinValid := false, vinLostAt := s.clock } })
  if s.mode = modeAux ∨ s.mode = modeLockout then goOff s
  else if s.curtainMode then triggerCurtain 1 (writeRecord kind 1 1 before s)
  else if s.mode = modeSave then triggerCurtain 1 s
  else if s.mode = modeRise ∨ s.mode = modeRestore then enterFall s
  else s

end Sys2Proof.Machine
end

