-- ==== Sys2Proof/Machine/ModeOps.lean ====
section
/-! DEFINITION. What the commands of the supervisor, the modes and the thermal monitor share: wakes from DOZE (R399, R402, R404), the usable
energy (R374), the service button (R388), and lockout (R394, R426). -/

namespace Sys2Proof.Machine

/-- Usable energy in mJ of a cartridge of `c` mF and `esr` mΩ at `v` mV (R374). In ninths of a mV the end voltage is 18,000 + 70 × esr. -/
def usableMj (c esr v : Nat) : Nat :=
  let e := 18000 + 70 * esr
  45 * c * ((9 * v) ^ 2 - e ^ 2) / 8100000000

/-- A wake source (R402): in DOZE the first one starts the wake; during DOZE entry it is held until the next abort point (R399). A source
whose bit in 0xD020.03 is 0 does nothing. -/
def wakeBy (source : Nat) (s : State) : State :=
  if !(s.get 0xD02003).testBit source then s
  else if s.mode = modeDoze then
    if s.modes.waking then s
    else raise 251 (State.put { s with modes := { s.modes with waking := true } } 0xD02004 source)
  else match s.modes.doze with
    | none => s
    | some d =>
      match d.pendingWake with
      | some _ => s
      | none => State.put { s with modes := { s.modes with doze := some { d with pendingWake := some source } } } 0xD02004 source

/-- Links of the enabled ports enter or leave L1. -/
def linksL1 (b : Bool) (s : State) : State :=
  (s.modPort .a fun q => { q with linkL1 := b }).modPort .b fun q => { q with linkL1 := b }

/-- The end of Table — Wake delay: rails, links, budget and credits as in the serving mode of the band. -/
def wakeUp (s : State) : State :=
  let s := railsOn [11, 12, 13, 14] (linksL1 false s)
  let s := { s with modes := { s.modes with waking := false, doze := none } }
  withholdCredits false (setMode s.bandMode s)

/-- The medium scratch unit returns to Free (R351). -/
def releaseScratch (s : State) : State :=
  match s.stored.scratchUnit with
  | none => s
  | some u =>
    let s := { s with stored := { s.stored with scratchUnit := none, scratch := s.stored.scratch.filter fun e => e.1 != .medium } }
    if (s.unit u).state = 1 then setUnitState u 0 s else s

/-- The service button's curtain (R388). In AUX the module is ready for removal without one. -/
def buttonCurtain (s : State) : State :=
  if s.mode = modeAux then s.put 0x205003 3 else triggerCurtain 3 s

/-- A critical-state error (R341): its count, source 227, and a device reset. -/
def criticalError (s : State) : State :=
  if s.vcoreOn then deviceReset 5 (raise 227 (s.bump 0x800108)) else s

/-- The lockout condition is met (R394, R426). -/
def lockOut (s : State) : State :=
  if s.mode = modeOff ∨ s.mode = modeLockout then s
  else
    let met := s.modes.lockoutPending || (match s.pow.curtain with
      | some c => c.causes.contains 4
      | none => false)
    let s := if met then s else raise 47 (s.bump 0x900107)
    let pending := { s with modes := { s.modes with lockoutPending := true } }
    if s.mode = modeSave ∨ s.curtainMode then triggerCurtain 4 s
    else if s.mode = modeFall then pending
    else enterFall pending

end Sys2Proof.Machine
end

