-- ==== Sys2Proof/Machine/CurtainEvents.lean ====
section
/-! DEFINITION. The curtain, the service button and MR_N: CURTAIN, CURTAIN_COMMIT_POINT, CURTAIN_CANCELLED, CURTAIN_OUTCOME, CARTRIDGE_FLOOR,
SHORT_PRESS, SERVICE_REQUEST_WINDOW_END, FORCED_POWER_DOWN, MR_N, MR_N_HIGH and MANAGEMENT_WATCHDOG (R381 to R389, R405). -/

namespace Sys2Proof.Machine

/-- CURTAIN: a trigger with a cause of Table — Save image header (R381). -/
def execCurtain (cause : Nat) (s : State) : Host.Outcome State Fault Refusal :=
  if 1 ≤ cause ∧ cause ≤ 5 then .next (triggerCurtain cause s) else .next s

/-- CURTAIN_COMMIT_POINT (R382 step 4). -/
def execCurtainCommitPoint (s : State) : Host.Outcome State Fault Refusal :=
  match s.pow.curtain with
  | none => .next s
  | some c => if s.mode = modeSave ∧ !c.committed then .next (commitCurtain s) else .next s

/-- CURTAIN_CANCELLED: VIN has been good for 5 ms before the commit point of a curtain whose only cause is input loss (R384). -/
def execCurtainCancelled (mv : Nat) (s : State) : Host.Outcome State Fault Refusal :=
  match s.pow.curtain with
  | none => .next s
  | some c =>
    if s.mode = modeSave ∧ !c.committed ∧ c.causes = [1] ∧ 2700 ≤ mv ∧ !s.pow.switchOpen then
      .next (cancelCurtain c mv (noteVin mv s))
    else .next s

/-- CURTAIN_OUTCOME: step 5 is done (R385). -/
def execCurtainOutcome (s : State) : Host.Outcome State Fault Refusal :=
  match s.pow.curtain with
  | none => .next s
  | some c => if s.mode = modeSave ∧ c.committed then .next (curtainOutcome c s) else .next s

/-- CARTRIDGE_FLOOR: the curtain stops, and its image is incomplete (R386). -/
def execCartridgeFloor (s : State) : Host.Outcome State Fault Refusal :=
  match s.pow.curtain with
  | none => .next s
  | some c =>
    if s.mode = modeSave ∧ !s.pow.vinValid then
      let image := if c.committed then s.pow.image else none
      let s := if c.committed then s else silence { s with reads := [], retries := [] }
      .next (enterFall { s with pow := { s.pow with curtain := none, image := image, floorReached := true } })
    else .next s

/-- SHORT_PRESS: a service request, or its withdrawal (R388). -/
def execShortPress (s : State) : Host.Outcome State Fault Refusal :=
  let st := s.get 0x205003
  if s.mode = modeOff then .next s
  else if st = 0 then .next (raise 37 (s.put 0x205003 1))
  else if st = 1 then .next (s.put 0x205003 0)
  else .next s

/-- SERVICE_REQUEST_WINDOW_END (R388). -/
def execServiceRequestWindowEnd (s : State) : Host.Outcome State Fault Refusal :=
  if s.get 0x205003 = 1 then .next (buttonCurtain s) else .next s

/-- FORCED_POWER_DOWN: a press of 4 s or more (R388). -/
def execForcedPowerDown (s : State) : Host.Outcome State Fault Refusal :=
  if s.mode = modeOff then .next s else .next (buttonCurtain (raise 38 s))

/-- MR_N low for a time: 10 µs or longer always resets, less than 2 µs never does, and between them the manual does not say: a free value
decides (R389). -/
def execMrN (widthNs : Nat) (s : State) : Host.Outcome State Fault Refusal :=
  if widthNs < 2000 || !s.resetActs then .next s
  else
    let open_ := decide (widthNs < 10000)
    let taken := !open_ || s.freeNow % 2 == 1
    let s := if open_ then drawn s else s
    if taken then .next (deviceReset 3 (raise 39 { s with pow := { s.pow with mrLow := true } })) else .next s

/-- MR_N_HIGH: RESTORE, which MR_N has held in RISE or after the curtain of its reset, may proceed (R389). -/
def execMrNHigh (s : State) : Host.Outcome State Fault Refusal :=
  let s := { s with pow := { s.pow with mrLow := false } }
  if (s.mode = modeRise ∨ (s.mode = modeSave ∧ s.pow.curtain.isNone)) ∧ s.pow.risen then .next (enterRestore s) else .next s

/-- MANAGEMENT_WATCHDOG: in AUX it restarts the responder only, during the freeze of R411 it is paused (R405). -/
def execManagementWatchdog (s : State) : Host.Outcome State Fault Refusal :=
  if s.modes.activation.isSome then .next s
  else if s.mode = modeAux then
    .next { s with mgmt := { s.mgmt with sessions := [], reservations := [], blockWrites := [], received := [] } }
  else .next (deviceReset 4 s)

end Sys2Proof.Machine
end

