-- ==== Sys2Proof/Machine/EventOps.lean ====
section
/-! DEFINITION. The recorder's slots, the clear of a latch and of the recorder, and the core voltage (R475, R480, R488 to R490): the operations
behind the commands of chapter 18. -/

namespace Sys2Proof.Machine

/-! ### The recorder's slots (R488, R489) -/

/-- Slots of the recorder. -/
abbrev recorderSlots : Nat := 8192

/-- The record with the lowest stamp. -/
def oldestRecord (l : List RecorderRecord) : Option RecorderRecord :=
  l.foldl (fun m r => match m with
    | none => some r
    | some x => if r.stamp < x.stamp then some r else some x) none

/-- A record replaces another one in its slot. -/
def replaceRecord (old new : RecorderRecord) (l : List RecorderRecord) : List RecorderRecord :=
  l.filter (fun r => r != old) ++ [new]

/-- The slot that a record takes: an empty one, else that of the oldest record that is not above its severity and neither kept nor
circulating; `none` where there is none. -/
def takeSlot (r : RecorderRecord) (l : List RecorderRecord) : Option (List RecorderRecord) :=
  if l.length < recorderSlots then some (l ++ [r])
  else
    (oldestRecord (l.filter fun x => decide (x.severity ≤ r.severity) && !x.kept && !x.circulating)).map fun x => replaceRecord x r l

/-- A record is written, with the next sequence number over the module's life (R485). -/
def writeSlot (r : RecorderRecord) (f : RecorderRecord → List RecorderRecord → Option (List RecorderRecord)) (s : State) : Option State :=
  let n := (s.get 0xA00105 + 1) % 2 ^ 32
  (f { r with sequence := n } s.recd.records).map fun l =>
    State.put { s with recd := { s.recd with records := l } } 0xA00105 n

/-- No slot: the record is dropped, and source 120 reports it at most once per second. -/
def dropRecord (s : State) : State :=
  let s := s.bump 0xA00103
  let due := match s.recd.droppedAt with
    | none => true
    | some t => decide (t + 1000000000 ≤ s.clock)
  if due then raise 120 { s with recd := { s.recd with droppedAt := some s.clock } } else s

/-- A later record of an episode: from the 256th circulating record on, the oldest one gives way whatever its severity. -/
def circulate (r : RecorderRecord) (l : List RecorderRecord) : Option (List RecorderRecord) :=
  let r := { r with circulating := true }
  let mine := l.filter (·.circulating)
  if mine.length < episodeLimit then takeSlot r l else (oldestRecord mine).map fun x => replaceRecord x r l

/-- Records that no one may overwrite. -/
def State.keptRecords (s : State) : Nat := (s.recd.records.filter (·.kept)).length

/-- Write a record: ordinary, or kept or circulating while an episode runs. -/
def storeRecord (r : RecorderRecord) (s : State) : State :=
  match s.recd.episode with
  | none => (writeSlot r takeSlot s).getD (dropRecord s)
  | some e =>
    if e.kept < episodeLimit then
      if s.keptRecords < keptLimit then
        match writeSlot { r with kept := true } takeSlot s with
        | some t => { t with recd := { t.recd with episode := some { e with kept := e.kept + 1 } } }
        | none => dropRecord s
      else raise 122 (((writeSlot r circulate s).getD (dropRecord s)).bump 0xA00108)
    else (writeSlot r circulate s).getD (dropRecord s)

/-- RECORDER_WRITE takes the oldest occurrence of the recorder queue, or of the always-on responder's. The queue of the controller is
written while its rails are on. -/
def writeNextRecord (s : State) : State :=
  if s.mode = modeOff then s
  else match (if s.vcoreOn then s.recd.queue else []) with
    | r :: rest => storeRecord r { s with recd := { s.recd with queue := rest } }
    | [] => match s.recd.responderQueue with
      | r :: rest => storeRecord r { s with recd := { s.recd with responderQueue := rest } }
      | [] => s

/-! ### Clearing (R480, R490) -/

/-- A clear of a latch is applied: `count` is subindex 02 as it then stood and `stamp` the clear's acceptance point. Where an occurrence with a higher stamp
has been raised by then the latch stays set, and its messages are sent as for a latch newly set. -/
def clearLatch (src count stamp : Nat) (s : State) : State :=
  let s := s.put (sourceKey src 0x03) count
  if stamp < s.get (sourceKey src 0x12) then latchMsi src (s.get (sourceKey src 0x06)) (s.get (sourceKey src 0x04)) s
  else s.put (sourceKey src 0x01) 0

/-- Clear the recorder (argument 0) or release kept records (1), below the action's own stamp. The record of source 121 is written even
when its routing excludes the recorder. -/
def clearRecorder (arg stamp : Nat) (s : State) : State :=
  let records := if arg = 0 then s.recd.records.filter fun r => decide (stamp ≤ r.stamp)
    else s.recd.records.map fun r => if r.stamp < stamp then { r with kept := false } else r
  let s := raise 121 (State.put { s with recd := { s.recd with records := records } } 0xA00109 stamp)
  if (s.get (sourceKey 121 0x06)).testBit 0 then s
  else recordOccurrence (s.recordFor 121 (s.get (sourceKey 121 0x12)) (s.get (sourceKey 121 0x05)) (s.snapshots 121)) s

/-! ### The core's supply (R191, R475) -/

/-- The VCORE target in mV: 600 in DOZE, else that of the profile and band. -/
def State.vcoreTarget (s : State) : Nat :=
  if s.mode = modeDoze then 600
  else
    let b := s.get 0x200102
    if b = 3 then byProfile s.profile 750 800 750 700 else if b = 2 then byProfile s.profile 700 750 700 650
    else byProfile s.profile 650 700 650 600

/-- VCORE as the supervisor drives it: the target with what the margin monitor has added, within the ceiling of 0.85 V. -/
def State.vcore (s : State) : Nat := min 850 (s.vcoreTarget + s.pow.margin)

/-- A replica delay line shows too little margin: VCORE rises by 10 mV, within the ceiling. -/
def raiseVcore (s : State) : State :=
  if s.vcore < 850 then
    raise 273 (raise 264 { s with pow := { s.pow with margin := min 850 (s.vcore + 10) - s.vcoreTarget } })
  else raise 265 s

end Sys2Proof.Machine
end

