-- ==== Sys2Proof/Machine/ObserveOps.lean ====
section
/-! DEFINITION. Bandwidth windows (R498), the queues' common operations (R502 to R504), and the bursts of the DMA engine (R507 to R513): the
operations behind the commands of chapter 19. -/

namespace Sys2Proof.Machine

/-! ### Bandwidth windows (R498) -/

/-- Key of a port's window entries. -/
def windowKey (p : Port) (sub : Nat) : Nat :=
  match p with
  | .a => 0xB02000 + sub
  | .b => 0xB02100 + sub

/-- A window ends: unless a change of length withholds it, its counts are published, the highest ones kept, and source 127 raised above the
threshold. The next window takes the length of the entry; after a change it is not published. -/
def endWindow (p : Port) (s : State) : State :=
  let q := s.port p
  let length := s.get (windowKey p 0x01)
  let t := s.setPort p { q with windowRead := 0, windowWrite := 0, windowLength := length, windowUnpublished := length != q.windowLength }
  if q.windowUnpublished then t
  else
    let t := (t.put (windowKey p 0x02) q.windowRead).put (windowKey p 0x03) q.windowWrite
    let t := ((t.raiseTo (windowKey p 0x04) q.windowRead).raiseTo (windowKey p 0x05) q.windowWrite).bump (windowKey p 0x06)
    let threshold := s.get (windowKey p 0x07)
    raiseIf (threshold != 0 && decide (threshold < q.windowRead + q.windowWrite)) 127 t

/-! ### Queues -/

/-- An empty sample queue arms its threshold report again (R515). -/
def rearmSamples (s : State) : State :=
  if s.obs.samples.isEmpty then { s with obs := { s.obs with thresholdRaised := false } } else s

/-- The oldest sample item is taken. A free value stands behind the times of its points. -/
def takeSample (s : State) : State := drawn (rearmSamples { s with obs := { s.obs with samples := s.obs.samples.drop 1 } })

/-- The sample queue is emptied. -/
def emptySamples (s : State) : State := rearmSamples { s with obs := { s.obs with samples := [] } }

/-- The notice queue is emptied. -/
def emptyNotices (s : State) : State := { s with mgmt := { s.mgmt with notices := [] } }

/-- The field receive queue is emptied. -/
def emptyReceived (s : State) : State := { s with mgmt := { s.mgmt with received := [] } }

/-- One flush: it is counted and reported (R504). -/
def flushIf (on : Bool) (empty : State → State) (s : State) : State := if on then raise 126 ((empty s).bump 0xB04004) else s

/-- Queues are emptied by the bits of 0xB040.01 (R504). -/
def flushQueues (bits : Nat) (s : State) : State :=
  flushIf (bits.testBit 2) emptyReceived (flushIf (bits.testBit 1) emptyNotices (flushIf (bits.testBit 0) emptySamples s))

/-! ### The lines of a burst (R507 to R509, R511) -/

/-- The byte that stands at a place of an 8-byte unit after a swap: the place it comes from (Table — Swap modes). -/
def swapPlace (mode i : Nat) : Nat :=
  if mode = 1 then Nat.xor i 1 else if mode = 2 then Nat.xor i 3 else if mode = 3 then Nat.xor i 7 else if mode = 4 then Nat.xor i 2 else i

/-- The line of 64 bytes. -/
def lineOfBytes (l : List Byte) : Line :=
  (l.take 64).zipIdx.foldl (fun (acc : Line) bi => acc ||| ((bi.1.zeroExtend 512 : Line) <<< (8 * bi.2))) (0 : Line)

/-- A line with its bytes swapped in each aligned unit. -/
def swapLine (mode : Nat) (d : Line) : Line := lineOfBytes ((List.range 64).map fun i => lineByte d (i / 8 * 8 + swapPlace mode (i % 8)))

/-- What the check of one line of a burst finds first: cause, failing DPA and direction. A read or a store above the data range, of an offline
region, or of a region that excludes the starting port. -/
def State.lineError (s : State) (p : Port) (dpa direction : Nat) : Option (Nat × Nat × Nat) :=
  if 0x040000000000 ≤ dpa then some (3, dpa, direction)
  else if s.lineOffline (dpa / 64) then some (1, dpa / 64 * 64, direction)
  else if direction = 1 ∧ !s.mayStore p (dpa / 64) then some (1, dpa / 64 * 64, direction)
  else none

/-- The first bus error of a burst of `n` bytes: line by line in ascending order, the source before the destination. -/
def State.burstError (s : State) (c : DmaChannel) (n : Nat) : Option (Nat × Nat × Nat) :=
  let first := c.to / 64
  (List.range ((c.to + n + 63) / 64 - first)).findSome? fun i =>
    match (if c.copies then s.lineError c.port (c.from + 64 * i) 0 else none) with
    | some e => some e
    | none => s.lineError c.port ((first + i) * 64) 1

/-- A destination line of a burst: its number, data and poison mark. -/
abbrev BurstLine := Nat × Line × Bool

/-- The lines of a copy or a fill. -/
def State.copyLines (s : State) (c : DmaChannel) : List BurstLine :=
  (List.range (c.room / 64)).map fun i =>
    let line := c.to / 64 + i
    if c.copies then
      let v := s.committed (c.from / 64 + i)
      (line, if v.poison then 0 else if dmaOp c.captured = 3 then swapLine (dmaSwap c.captured) v.data else v.data, v.poison)
    else (line, lineOfWords (List.replicate 8 (c.captured.getD 4 0)), false)

/-- The sectors that the source lines of a copy are read from, in normal class (R196): those of the lines that neither the staging array nor a
cache holds. -/
def readSource (c : DmaChannel) (s : State) : State :=
  if c.copies then
    let lines := (List.range (c.room / 64)).map fun i => c.from / 64 + i
    let held := fun (l : Nat) => (s.stagedOf l none).isSome || (cacheHas s.l1 l).isSome || (cacheHas s.l2 l).isSome
    let sectors := (lines.filter fun l => !held l).filterMap fun l =>
      (s.locate none l).map fun x => (x.2.1, x.2.2, if x.1 = foundPage then blockOfLine l else l)
    sectors.eraseDups.foldl (fun t x => agentReads clsNormal x.2.1 1 t) s
  else s

/-- The segments that a burst's source reads need are rebuilt (R164). -/
def State.sourceSegments (c : DmaChannel) : List Nat :=
  if c.copies then [segmentOfLine (c.from / 64), segmentOfLine ((c.from + c.room - 1) / 64)] else []

/-! ### Draining a queue (R502, R509) -/

/-- An item as a drain writes it: its length word with the complete bit, its payload, padding to a multiple of 8 bytes. -/
def itemBytes (payload : List Byte) : List Byte :=
  let l := natToBytes 4 (payload.length + 2 ^ 31) ++ payload
  padTo ((l.length + 7) / 8 * 8) l

/-- The items of the queue that a channel drains, oldest first. -/
def State.drainItems (s : State) (c : DmaChannel) : List (List Byte) :=
  if dmaQueue c.captured = 0 then s.obs.samples.zipIdx.map fun r => itemBytes (r.1.bytes (Config.freeValue (s.draws + r.2)))
  else s.mgmt.notices.map fun n => itemBytes n.bytes

/-- Take whole items while the burst has room and the item fits in the range: the bytes gathered and the count of items taken. -/
def gather (room residue : Nat) : List Byte → List (List Byte) → List Byte × Nat
  | acc, [] => (acc, 0)
  | acc, i :: rest =>
    if room ≤ acc.length ∨ residue < acc.length + i.length then (acc, 0)
    else
      let r := gather room residue (acc ++ i) rest
      (r.1, r.2 + 1)

/-- The items taken leave the queue. -/
def takeItems (queue n : Nat) (s : State) : State :=
  if queue = 0 then rearmSamples { s with obs := { s.obs with samples := s.obs.samples.drop n }, draws := s.draws + n }
  else { s with mgmt := { s.mgmt with notices := s.mgmt.notices.drop n } }

/-- The lines that a string of bytes fills from a DPA on. The bytes before it in its first line stay as they are; what the bytes after it in
its last line hold is not stated: `free`. -/
def State.bytesToLines (s : State) (dpa free : Nat) (l : List Byte) : List BurstLine :=
  let first := dpa / 64
  let before := (lineBytes (s.committed first).data).take (dpa % 64)
  let all := before ++ l
  (List.range ((all.length + 63) / 64)).map fun i =>
    let part := (all.drop (64 * i)).take 64
    (first + i, lineOfBytes (part ++ natToBytes (64 - part.length) free), false)

/-! ### Placing a burst -/

/-- Every destination line is placed in the staging array with one stamp, and its cached copies are not valid from there (R172); a store to
a bound page sets the conflict mark (R130, R133, R507). -/
def placeLines (stamp : Nat) (lines : List BurstLine) (s : State) : State :=
  lines.foldl (fun t x =>
    let t := match t.fate none x.1 with
      | .conflict g => markConflict g (pageOfLine x.1) t
      | _ => t
    dropCached x.1 (storeCommitted x.1 x.2.1 x.2.2 stamp (t.writeMode x.1) [] t)) s

/-- A transfer ends: 2 done, 3 aborted. The channel's source is raised on an abort, and on done with notify set. -/
def endTransfer (k state : Nat) (s : State) : State :=
  let c := s.channel k
  raiseIf (state == 3 || dmaNotify c.captured) (104 + k)
    (s.setChannel k { c with state := state, runningWord := none, abortPending := false, carry := [] })

/-- The status write of a burst of `n` bytes: residue, words 3 to 5 and the counts. -/
def noteBurst (k n stamp poisoned : Nat) (carry : List Byte) (s : State) : State :=
  let c := s.channel k
  let s := s.setChannel k { c with
    residue := c.residue - n, lastStamp := stamp, lastTime := s.deviceTime, poisoned := min topU32 (c.poisoned + poisoned), carry := carry }
  count 0x40 k n ((s.addTo 0xC00102 n).addTo (dmaKey k 5) n)

/-- Place a burst. While the module is unprotected its lines are programmed before the status write; where they cannot be, for want of room in
the log, the burst waits. -/
def placeBurst (k n : Nat) (lines : List BurstLine) (carry : List Byte) (s : State) : Option State :=
  let stamp := s.stampNow
  let t := placeLines stamp lines (takeStamp s)
  let t := if s.protected then t else programAll t
  if !s.protected && lines.any fun x => (t.stagedOf x.1 none).isSome then none
  else some (noteBurst k n stamp (lines.filter fun x => x.2.2).length carry t)

/-- The state after a burst: aborted where an abort waits, done at the end of the transfer. -/
def afterBurst (k : Nat) (last : Bool) (s : State) : State :=
  let c := s.channel k
  if c.abortPending then endTransfer k 3 s
  else if c.residue = 0 || last then endTransfer k 2 s
  else s

/-- The modes in which a burst is placed: where the data path runs, and once more after a curtain has begun, before its commit point (R512). -/
def State.burstMode (s : State) (c : DmaChannel) : Bool :=
  s.dataPath || (s.mode == modeSave && (match s.pow.curtain with
    | some x => !x.committed && decide (c.lastStamp < x.stamp)
    | none => false))

/-- The next burst of a copy or a fill. -/
def copyBurst (k : Nat) (s : State) : State :=
  let c := s.channel k
  match s.burstError c c.room with
  | some (cause, dpa, direction) => haltChannel k cause dpa direction s
  | none =>
    let missing := (State.sourceSegments c).filter fun g => !s.isRebuilt g
    if !missing.isEmpty then missing.foldl (fun t g => startRebuild g t) s
    else if s.stagingFull then s
    else match placeBurst k c.room (s.copyLines c) [] (readSource c s) with
      | none => s
      | some t => afterBurst k false t

/-- The next burst of a drain: placed when full, or, with its last item taken, when the queue is empty and the drain not continuous, when the
1 ms timer has passed or an abort waits, or when the next item does not fit. -/
def drainBurst (k : Nat) (timer : Bool) (s : State) : State :=
  let c := s.channel k
  let items := s.drainItems c
  let got := gather c.room c.residue c.carry items
  let left := items.drop got.2
  let full := decide (c.room ≤ got.1.length)
  let carry := got.1.drop c.room
  let bytes := got.1.take c.room
  let noFit := match left with
    | [] => false
    | i :: _ => decide (c.residue < got.1.length + i.length)
  let ends := (left.isEmpty && !dmaContinuous c.captured) || noFit
  let last := ends && carry.isEmpty
  if !(full || ends || timer || c.abortPending) then s
  else if bytes.isEmpty then (if last || c.abortPending then afterBurst k last s else s)
  else match s.burstError c bytes.length with
    | some (cause, dpa, direction) => haltChannel k cause dpa direction s
    | none =>
      if s.stagingFull then s
      else
        let free := s.freeNow
        let t := drawn (takeItems (dmaQueue c.captured) got.2 s)
        match placeBurst k bytes.length (s.bytesToLines c.to free bytes) carry t with
        | none => s
        | some t => afterBurst k last t

/-- A burst of a running channel. -/
def nextBurst (k : Nat) (timer : Bool) (s : State) : State :=
  let c := s.channel k
  if c.state = 1 ∧ s.burstMode c then (if dmaOp c.captured = 4 then drainBurst k timer s else copyBurst k s) else s

/-- Release a halted channel: idle, with its running word cleared and words 1 to 5 kept (R511). -/
def releaseChannel (k : Nat) (s : State) : State :=
  s.setChannel k { s.channel k with state := 0, runningWord := none }

end Sys2Proof.Machine
end

