-- ==== Sys2Proof/Machine/Observe.lean ====
section
/-! DEFINITION. The commands of chapter 19 that no dictionary request starts: COUNTER_WRAP, BANDWIDTH_WINDOW_END, DMA_BURST_PLACED and
DRAIN_IDLE_TIMER (R496, R498, R507, R509). -/

namespace Sys2Proof.Machine

/-- COUNTER_WRAP: the count that a counter at 2^48 − 1 takes next wraps it. -/
def execCounterWrap (n : Fin 512) (s : State) : Host.Outcome State Fault Refusal :=
  if s.vcoreOn ∧ counterCount (s.get (counterKey n.val)) = 2 ^ 48 - 1 then .next (addToCounter n.val 1 s) else .next s

/-- BANDWIDTH_WINDOW_END of a port. -/
def execBandwidthWindowEnd (p : Port) (s : State) : Host.Outcome State Fault Refusal :=
  if s.vcoreOn then .next (endWindow p s) else .next s

/-- DMA_BURST_PLACED by a channel. -/
def execDmaBurstPlaced (ch : Fin 16) (s : State) : Host.Outcome State Fault Refusal := .next (nextBurst ch.val false s)

/-- DRAIN_IDLE_TIMER: 1 ms has passed with no new item on a continuous drain. -/
def execDrainIdleTimer (ch : Fin 16) (s : State) : Host.Outcome State Fault Refusal :=
  if dmaOp (s.channel ch.val).captured = 4 ∧ dmaContinuous (s.channel ch.val).captured then .next (nextBurst ch.val true s) else .next s

end Sys2Proof.Machine
end

