-- ==== Sys2Proof/Machine/Supply.lean ====
section
/-! DEFINITION. The supply, the rails and protection: VIN_VALID, INPUT_LOSS, OVERVOLTAGE, INPUT_SWITCH_RECLOSE, BAND_DOWN, BAND_UP,
POWER_CAP_ADJUST, RISE, RAIL_FAULT, FALL, STUCK_RAIL_CLEARED, MINIMUM_OFF_TIME_END, LOSS_OF_PROTECTION, PROTECTION_RESTORED, YO_YO_TEST,
CARTRIDGE_REMOVED and CARTRIDGE_INSERTED (R22 to R25, R359 to R380, R397). -/

namespace Sys2Proof.Machine

/-! ### VIN -/

/-- The always-on entries that lose their value when VAON has been off, beside those that every RESTORE resets. -/
def supervisorKey (key : Nat) : Bool :=
  let i := key / 256
  i == 0x2001 || i == 0x2010 || i == 0x2030 || i == 0x2050 || i == 0xD001 || i == 0x9001 || i == 0x9020 || i == 0x9030 ||
    i == 0x9040 || i == 0x9041 || i == 0x1401 || i == 0x1402 || key == 0x402001 || key == 0x402002

/-- The identity contact is read (R374): a cartridge other than the one recorded has no passed test (R376, R377). -/
def readIdentity (s : State) : State :=
  let c := s.pow.cartridge
  match c.leverClosed, c.ident with
  | true, some ident =>
    let s := s.put 0x203001 1
    if s.getBytes 0x20300B = ident then s
    else
      let s := (s.putBytes 0x20300B ident).bump 0x20300C
      raise 31 { s with pow := { s.pow with
        cartridge := { c with passed := false, failed := false, testDue := true } } }
  | _, _ => s.put 0x203001 0

/-- Power-on: the supervisor, its responder and what they keep start afresh (R24, R405). -/
def powerOn (s : State) : State :=
  let s := endEpisode (resetEntries supervisorKey s)
  let s := { s with
    therm := {}, recd := { s.recd with responderQueue := [], rateSecond := 0, rate := [] },
    mgmt := { s.mgmt with
      sessions := [], reservations := [], blockWrites := [], deferred := [], notices := [], noticeTimes := [], received := [], bucket := 8, busyBucket := 8, yieldCycles := 0, beaconLost := false },
    pow := { s.pow with curtain := none, capCut := 0, margin := 0, risen := false, railsKept := false, fourthReset := false },
    modes := { s.modes with
      heldPins := none, keptOn := false, offHeld := false, doze := none, waking := false, lockoutPending := false, activation := none,
      rattleAt := none, rattleRejectAt := none } }
  readIdentity (unmeasured (railsOn [2, 3] ((s.put 0xD04001 1).bump 0xD04003)))

/-- VIN absent for 50 ms ends the holds of R367 and R406, and a module ready for removal may rise again (R388). -/
def afterAbsence (s : State) : State :=
  if s.pow.vinLostAt + 50000000 ≤ s.clock then
    let s := { s with pow := { s.pow with hold := none, railFaults := [], resets := [] } }
    if s.get 0x205003 = 3 then s.put 0x205003 0 else s
  else s

/-- The input is connected: from OFF the module reaches AUX (R393). -/
def connectInput (s : State) : State :=
  let s := afterAbsence { s with pow := { s.pow with vinValid := true } }
  if s.mode = modeOff then setMode modeAux (powerOn (setMode modeAux s)) else s

/-- VIN is measured and the instant kept; in AUX the band at VIN valid is that of VIN at once (R360, log 42). `known` holds where the
cartridge's identity has just been read. -/
def measureInput (mv : Nat) (known : Bool) (s : State) : State :=
  let s : State := { noteVin mv s with modes := { s.modes with vinValidAt := s.clock } }
  if s.mode = modeAux then setBand (vinBand mv) (if known then s else readIdentity s) else s

/-- In AUX the input starts RISE where 0x2001.05 reads 1 and the module is not ready for removal (R365, R393). During FALL the start is kept
until FALL ends. -/
def autoStart (s : State) : State :=
  if s.get 0x200105 = 1 ∧ s.get 0x205003 ≠ 3 then
    if s.mode = modeFall then { s with modes := { s.modes with keptOn := true } } else startRise s
  else s

/-- VIN_VALID: an input between 2.7 V and 16.5 V comes about while none was valid and the input switch is closed. -/
def execVinValid (mv : Nat) (s : State) : Host.Outcome State Fault Refusal :=
  if s.pow.vinValid || s.pow.switchOpen || mv < 2700 || 16500 < mv then .next s
  else .next (autoStart (measureInput mv (s.mode == modeOff) (connectInput s)))

/-- INPUT_LOSS: VIN below 2.4 V (R360). -/
def execInputLoss (mv : Nat) (s : State) : Host.Outcome State Fault Refusal :=
  if s.pow.vinValid && decide (mv < 2400) then .next (loseInput 1 mv s) else .next s

/-- OVERVOLTAGE: the input switch opens, and the event is an input loss (R363). -/
def execOvervoltage (mv : Nat) (s : State) : Host.Outcome State Fault Refusal :=
  if s.mode = modeOff ∨ s.pow.switchOpen ∨ mv ≤ 16500 then .next s
  else
    let s := State.bump { s with pow := { s.pow with switchOpen := true } } 0x200107
    if s.pow.vinValid then .next (loseInput 4 mv s) else .next (noteVin mv s)

/-- INPUT_SWITCH_RECLOSE below 16 V; VIN valid is then counted afresh (R363). -/
def execInputSwitchReclose (mv : Nat) (s : State) : Host.Outcome State Fault Refusal :=
  if s.pow.switchOpen && decide (mv < 16000) then .next (noteVin mv { s with pow := { s.pow with switchOpen := false } }) else .next s

/-- BAND_DOWN (R361). -/
def execBandDown (mv : Nat) (s : State) : Host.Outcome State Fault Refusal :=
  let b := s.get 0x200102
  if fallBand b mv < b then .next (setBand (fallBand b mv) (noteVin mv s)) else .next s

/-- BAND_UP (R361). -/
def execBandUp (mv : Nat) (s : State) : Host.Outcome State Fault Refusal :=
  if s.mode != modeOff && s.pow.vinValid && decide (s.get 0x200102 < vinBand mv) then
    .next (setBand (vinBand mv) (noteVin mv s))
  else .next s

/-- The power cap of a band in mW (Table — Supply bands). -/
def capMw (b : Nat) : Nat := if b = 3 then 36000 else if b = 2 then 20000 else 9000

/-- POWER_CAP_ADJUST: 8 tokens fewer above 95 per cent of the cap, 8 more below 90 per cent (R364). -/
def execPowerCapAdjust (meanMw : Nat) (s : State) : Host.Outcome State Fault Refusal :=
  if s.vcoreOn then
    let s := s.put 0x200103 meanMw
    let cap := capMw (s.get 0x200102)
    let cut := s.pow.capCut
    let cut := if 95 * cap < 100 * meanMw then min s.bandBudget (cut + 8)
      else if 100 * meanMw < 90 * cap then cut - 8 else cut
    .next { s with pow := { s.pow with capCut := cut } }
  else .next s

/-! ### Rails -/

/-- The rails that a curtain needs (R367). -/
def curtainRail (code : Nat) : Bool := code == 4 || code == 5 || code == 6 || code == 12 || code == 13 || code == 14

/-- The count, record and source of a rail fault; the third within an hour of service exhausts the retries (R367). -/
def noteRailFault (code : Nat) (s : State) : State :=
  let vin := s.get 0x200101
  let recent := s.pow.railFaults.filter fun t => decide (s.service < t + 3600000000000)
  let s := State.bump { s with pow := { s.pow with railFaults := recent ++ [s.service] } } 0x20100F
  let s := raise 28 (writeRecord 2 code 0 vin s)
  if 2 ≤ recent.length then writeRecord 7 code 0 vin { s with pow := { s.pow with hold := some .railRetries } } else s

/-- RAIL_FAULT of a rail that should be on, while VIN is valid: a brown-out device reset with the failing rail and its dependants started
again after the curtain, off and on within one step (DEDUCED, log 173); a rail that the curtain needs and that does not restart leads to FALL
without one (R367). -/
def execRailFault (code : Nat) (restarts : Bool) (s : State) : Host.Outcome State Fault Refusal :=
  if !(2 ≤ code && code ≤ 14) || !(s.rail code).on || !s.pow.vinValid then .next s
  else
    let s := noteRailFault code s
    if s.mode = modeRise then .next (enterFall s)
    else if curtainRail code && !restarts && s.resetActs then
      .next (enterFall (endAllSessions ((s.put 0xD04001 2).bump 0xD04004)))
    else .next (deviceReset 2 s)

/-- RISE: the rails are good and the firmware image is verified. A rail that is not good is a rail fault, which ends RISE; which rail it is the
event does not say. An active image that fails gives way to the other slot (R366, R389, R393, R411). -/
def execRise (railsGood firmwareOk : Bool) (s : State) : Host.Outcome State Fault Refusal :=
  if s.mode != modeRise then .next s
  else if !railsGood then
    let code := 4 + s.freeNow % 11
    .next (enterFall (noteRailFault code (drawn s)))
  else
    let s := railsOn switchedRails s
    let begin_ := fun (t : State) => if t.pow.mrLow then { t with pow := { t.pow with risen := true } } else enterRestore t
    if firmwareOk then .next (begin_ s)
    else
      let v := s.get 0xD06004
      let s := ((s.put 0xD06001 (1 - s.get 0xD06001)).put 0xD06004 (tgetD v (1 - s.get 0xD06001) s.modes.slotVersions)).put 0xD06006 2
      .next (raise 283 (begin_ s))

/-- The end of FALL (R368, R393, R406): stuck rails are recorded and crowbarred, and the module is in LOCKOUT, OFF or AUX. -/
def endFall (stuck : Nat) (vinAbsent : Bool) (s : State) : State :=
  let codes := switchedRails.filter fun c => stuck.testBit c
  let mask := codes.foldl (fun m c => m + 2 ^ c) 0
  let s := (railsOff switchedRails.reverse s).put 0x20100E mask
  let s := codes.foldl (fun t c => raise 29 (writeRecord 3 c 0 (t.get 0x200101) (setRail c { on := false, crowbar := true } t))) s
  let fourth := s.pow.fourthReset
  let s := unmeasured { s with
    modes := { s.modes with fallEndedAt := some s.clock },
    pow := { s.pow with fourthReset := false, hold := if fourth then some .resets else s.pow.hold } }
  let s := if fourth then raise 255 s else s
  let s := if s.get 0x205003 = 2 then s.put 0x205003 3 else s
  if s.modes.lockoutPending then setMode modeLockout { s with modes := { s.modes with lockoutPending := false, keptOn := false } }
  else if vinAbsent then goOff s
  else
    let s := setMode modeAux s
    if s.modes.keptOn then startRise s else s

/-- FALL has switched its rails off. -/
def execFall (stuck : BitVec 16) (vinAbsent : Bool) (s : State) : Host.Outcome State Fault Refusal :=
  if s.mode != modeFall then .next s
  else if vinAbsent && s.pow.vinValid then
    .next (endFall stuck.toNat true { s with pow := { s.pow with vinValid := false, vinLostAt := s.clock } })
  else .next (endFall stuck.toNat vinAbsent s)

/-- STUCK_RAIL_CLEARED: the crowbar is released, and RISE may start again (R369). -/
def execStuckRailCleared (code : Nat) (s : State) : Host.Outcome State Fault Refusal :=
  if (s.rail code).crowbar then
    let s := setRail code { s.rail code with crowbar := false } s
    .next (if s.modes.keptOn && !s.stuckNow then startRise s else s)
  else .next s

/-- MINIMUM_OFF_TIME_END: a kept on request, or VIN valid, starts RISE (R397). -/
def execMinimumOffTimeEnd (s : State) : Host.Outcome State Fault Refusal :=
  if s.mode = modeAux ∧ s.modes.keptOn then .next (startRise { s with modes := { s.modes with fallEndedAt := none } })
  else .next s

/-! ### Protection -/

/-- LOSS_OF_PROTECTION (R22): the causes in force; with none of them found otherwise, the energy has fallen below 0.6 J. -/
def execLossOfProtection (s : State) : Host.Outcome State Fault Refusal :=
  if s.get 0x402001 = 1 ∧ s.protectionActs then
    let c := s.protectCauses
    .next (wakeBy 4 (loseProtection (if c = 0 then 1 else c) s))
  else if s.get 0x402001 = 2 then .next (finishLeaving s)
  else .next s

/-- PROTECTION_RESTORED (R23): the supervisor finds every condition of R377. -/
def execProtectionRestored (s : State) : Host.Outcome State Fault Refusal :=
  if s.get 0x402001 = 0 ∧ s.protectionActs ∧ s.protectCauses = 0 then .next (regainProtection s) else .next s

/-- The modes in which a yo-yo test runs (R376). -/
def State.testMode (s : State) : Bool := s.serving || s.mode == modeDoze || s.mode == modeHalt || s.mode == modeService

/-- YO_YO_TEST with the capacitance in mF and the ESR in mΩ that it measured, from an open-circuit voltage of `v0mv` (R376, R379). -/
def execYoYoTest (cmf esrMohm v0mv : Nat) (s : State) : Host.Outcome State Fault Refusal :=
  if s.get 0x203001 = 1 ∧ s.testMode then
    let energy := usableMj cmf esrMohm 4800
    let result := if energy < 600 then 2 else if 150 < esrMohm then 3 else 1
    let s := ((((s.put 0x203002 v0mv).put 0x203003 (min 65535 cmf)).put 0x203004 (min 65535 esrMohm)).put 0x203006 result).put 0x203007 s.deviceTime
    let low := decide (energy < s.get 0x20300A)
    let old := s.pow.cartridge
    let c : Cartridge := { old with
      passed := result == 1, failed := result != 1, testedAt := s.service, testDue := false,
      warned := if result = 1 then low else old.warned }
    let s := { s with pow := { s.pow with cartridge := c } }
    let s := if result ≠ 1 then wakeBy 4 (raise 32 s) else raiseIf (low && !old.warned) 33 s
    .next (updateProtection (endAction 0x203009 stOk s))
  else .next s

/-- CARTRIDGE_REMOVED: the lever contact opens, which withdraws protection at once (R25). A test that an action started is aborted. -/
def execCartridgeRemoved (s : State) : Host.Outcome State Fault Refusal :=
  let c := s.pow.cartridge
  if !c.leverClosed then .next s
  else
    let s := { s with pow := { s.pow with cartridge := { c with leverClosed := false, ident := none } } }
    if s.mode = modeOff then .next s
    else
      let s := if s.actionRuns 0x203009 then endAction 0x203009 stStateConflict (s.put 0x203006 4) else s
      let s := raise 30 ((s.put 0x203001 0).put 0x203005 0)
      .next (wakeBy 4 (updateProtection s))

/-- CARTRIDGE_INSERTED: the lever is closed and the identity is read; a yo-yo test is due (R376, R380). -/
def execCartridgeInserted (ident : List Byte) (s : State) : Host.Outcome State Fault Refusal :=
  let c := s.pow.cartridge
  if c.leverClosed || ident.length != 16 then .next s
  else
    let c' : Cartridge := { c with leverClosed := true, ident := some ident, passed := false, failed := false, testDue := true }
    let s := { s with pow := { s.pow with cartridge := c' } }
    if s.mode = modeOff then .next s
    else
      let s := raise 31 (((s.put 0x203001 1).putBytes 0x20300B ident).bump 0x20300C)
      .next (wakeBy 4 (updateProtection s))

end Sys2Proof.Machine
end

