-- ==== Sys2Proof/Machine/Modes.lean ====
section
/-! DEFINITION. DOZE, wake, SERVICE and the requests for a change of mode (R395 to R404, R410, R411): the operations that the actions of
chapter 14 start, and IDLE_TIMER, DOZE_ENTRY_STEP, WAKE, WAKE_N and SERVICE_TIME_LIMIT. -/

namespace Sys2Proof.Machine

/-! ### DOZE entry (R398 to R400) -/

/-- The conditions of R398. -/
def State.dozeAllowed (s : State) : Bool :=
  s.serving && s.modes.doze.isNone && s.modes.activation.isNone &&
    !(s.groups.any fun e => e.2.isOpen) && !((List.range 16).any fun k => (s.channel k).state == 1) &&
    s.med.rebuildDies.isEmpty && s.get 0x61A002 == 0 && s.med.priorityPass.isEmpty && s.get 0x700301 == 0 &&
    !((0 :: s.enabledRegions).any fun r => s.get (regionKey r 0x0C) == 2) && decide (s.logFill < s.foldStart)

/-- DOZE entry starts. -/
def startDoze (s : State) : State := { s with modes := { s.modes with doze := some { step := 0 } } }

/-- The action of step `n` of Table — DOZE entry. -/
def dozeStep (n : Nat) (s : State) : State :=
  if n = 1 then
    let s := programAll s
    writeBack (if s.tableRoom then s else writeTableImage s)
  else if n = 2 then
    programAll (drainPort .b (drainPort .a (withholdCredits true s)))
  else if n = 3 then railsOff [11] s
  else linksL1 true (railsOff [14, 13, 12] s)

/-- The steps up to `n` are undone in reverse order: rails on, links to L0, credits granted, staging back to the write modes. -/
def undoDoze (n : Nat) (s : State) : State :=
  let s := if 4 ≤ n then linksL1 false (railsOn [12, 13, 14] s) else s
  let s := if 3 ≤ n then railsOn [11] s else s
  let s := if 2 ≤ n then withholdCredits false s else s
  { s with staging := s.staging.map fun l => if l.row.isNone && l.wmode == 0 then { l with taken := false } else l }

/-- An abort point (R399): a pending wake abandons the entry. -/
def abortPoint (n : Nat) (s : State) : State :=
  match s.modes.doze with
  | none => s
  | some d =>
    match d.pendingWake with
    | some _ =>
      let s := undoDoze n { s with modes := { s.modes with doze := none } }
      raise 250 ((endAction 0xD02001 stOk s).bump 0xD02005)
    | none =>
      if n < 4 then { s with modes := { s.modes with doze := some { d with step := n } } }
      else
        let s := endAction 0xD02001 stOk (setMode modeDoze { s with modes := { s.modes with doze := none, waking := false } })
        raise 249 (s.bump 0xD02006)

/-- DOZE_ENTRY_STEP: the step in progress ends at its abort point. Step 3 ends when no operation is in flight. -/
def execDozeEntryStep (s : State) : Host.Outcome State Fault Refusal :=
  match s.modes.doze with
  | none => .next s
  | some d =>
    if d.step = 2 ∧ !s.med.ops.isEmpty then .next s
    else .next (abortPoint (d.step + 1) (dozeStep (d.step + 1) s))

/-- IDLE_TIMER: the timer waits while the conditions do not hold (R398). -/
def execIdleTimer (s : State) : Host.Outcome State Fault Refusal :=
  if s.get 0xD02002 ≠ 0 ∧ s.dozeAllowed then .next (startDoze s) else .next s

/-! ### Wake (R402) -/

/-- A wake source: in AUX WAKE_N and an accepted rattle start RISE, in FALL they are kept (R397). -/
def wakeSource (source : Nat) (s : State) : State :=
  if s.mode = modeAux ∨ s.mode = modeFall then
    if (source = 1 ∨ source = 3) ∧ (s.get 0xD02003).testBit source then
      if s.mode = modeFall then { s with modes := { s.modes with keptOn := true } }
      else if s.pow.hold = some .railRetries then s
      else wakeRise (raise 251 (s.put 0xD02004 source))
    else s
  else wakeBy source s

/-- WAKE by a source of Table — Wake sources. -/
def execWake (source : Fin 6) (s : State) : Host.Outcome State Fault Refusal := .next (wakeSource source.val s)

/-- WAKE_N low for a time: 10 µs or longer is a wake source. -/
def execWakeN (widthNs : Nat) (s : State) : Host.Outcome State Fault Refusal :=
  if 10000 ≤ widthNs then .next (wakeSource 1 s) else .next s

/-! ### Off, on and reset requests (R396, R397, R405) -/

/-- The modes that take an action of Table — Actions by mode, with its state conditions. -/
def State.offAllowed (s : State) : Bool :=
  s.mode == modeRise || s.mode == modeRestore || s.serving || s.mode == modeDoze || s.mode == modeHalt || s.mode == modeService

def State.resetAllowed (s : State) : Bool := s.serving || s.mode == modeDoze || s.mode == modeHalt || s.mode == modeService

/-- An off request takes effect. -/
def offRequest (s : State) : State :=
  if s.mode = modeRise then enterFall s
  else if s.mode = modeRestore ∧ s.modes.restoreStep < 9 then { s with modes := { s.modes with offHeld := true } }
  else triggerCurtain 5 s

/-- An on request takes effect: in AUX it starts RISE, in FALL it is kept. -/
def onRequest (s : State) : State :=
  if s.mode = modeFall then { s with modes := { s.modes with keptOn := true } } else wakeRise s

/-- The hold of R367 ends, and RISE may start where VIN is valid. -/
def retryRails (s : State) : State :=
  startRise { s with pow := { s.pow with hold := none, railFaults := [] } }

/-! ### SERVICE (R410) -/

/-- SERVICE is entered: a DOZE entry in progress stops, and reservations are lost (R112). -/
def enterService (s : State) : State :=
  let s := if s.modes.doze.isSome then undoDoze 3 (stopDozeEntry s) else s
  let s := loseAll .b .service (loseAll .a .service s)
  raise 258 (setMode modeService { s with modes := { s.modes with serviceEntered := s.clock } })

/-- SERVICE ends. -/
def leaveService (s : State) : State :=
  let s := raise 259 (releaseScratch s)
  setMode s.bandMode s

/-- SERVICE_TIME_LIMIT. -/
def execServiceTimeLimit (s : State) : Host.Outcome State Fault Refusal :=
  if s.mode = modeService then .next (leaveService s) else .next s

/-! ### Firmware (R411) -/

/-- An online activation may start. -/
def State.activationAllowed (s : State) : Bool :=
  (s.serving || s.mode == modeService) && s.modes.activation.isNone && s.get 0xD06002 == 1

/-- An online activation: its staged image is verified again, and policy is frozen. An image that fails step 1 is refused; the status of
an action that ends so is not stated. -/
def activateOnline (result : ActivationResult) (s : State) : State :=
  let refuse := fun (src : Nat) (t : State) => raise src (drawn (setAction 0xD06003 t.freeNow t))
  match result with
  | .signatureFails => refuse 281 s
  | .versionFails => refuse 284 s
  | .passes => { s with modes := { s.modes with activation := some { clock := s.clock, passes := true } } }
  | .selfCheckFails => { s with modes := { s.modes with activation := some { clock := s.clock, passes := false } } }

/-- An image reaches the staged slot: kept with its version, or refused (R411). -/
def stageImage (signatureOk : Bool) (version : Nat) (s : State) : State :=
  if !signatureOk then raise 281 s
  else if version < s.get 0xD06008 then raise 284 s
  else
    let s := (s.put 0xD06002 1).put 0xD06005 (version % 2 ^ 32)
    let slot := 1 - s.get 0xD06001
    raise 280 { s with modes := { s.modes with slotVersions := tput slot version s.modes.slotVersions } }

end Sys2Proof.Machine
end

