-- ==== Sys2Proof/Machine/StoredData.lean ====
section
/-! DEFINITION. Errors in stored data (R338 to R351): SCRUB, UNCORRECTABLE_ERROR, CRITICAL_STATE_ERROR, ROW_SELF_TEST and SECTOR_SELF_TEST, and
the operations of CLEAR_TABLE, WRITE_RAW and READ_RAW. -/

namespace Sys2Proof.Machine

/-! ### Detection -/

/-- The cache block whose word has an uncorrectable error, or a correctable one that goes to self-test, is made not valid (R177). Which words
hold which block is not stated: a free value. -/
def dropBlockAt (mem : MemKind) (address : Nat) (s : State) : State :=
  match Config.cacheBlockAt address with
  | none => s
  | some b =>
    if mem == .sram then { s with l1 := s.l1.filter fun x => x.block != b } else { s with l2 := s.l2.filter fun x => x.block != b }

/-- SCRUB of a word of SRAM or DRAM, outside HALT and SAVE (R339). DESIGN CHOICE (log 170): a word of the parameter store that an access found
corrected has no command of its own, and comes as a corrected word here (R342). -/
def execScrub (mem : MemKind) (address : Nat) (result : CodeResult) (s : State) : Host.Outcome State Fault Refusal :=
  if mem == .param then
    match result with
    | .corrected _ => if s.mode == modeOff then .next s else .next (detectError .param address false s)
    | _ => .next s
  else if !s.vcoreOn || s.mode == modeHalt || s.mode == modeSave || !(mem == .sram || mem == .dram) then .next s
  else match result with
    | .clean => .next s
    | .corrected _ =>
      let s := detectError mem address false s
      .next (if s.stored.rowTests.contains (mem, rowPart mem address) then dropBlockAt mem address s else s)
    | .uncorrectable => .next (dropBlockAt mem address (detectError mem address true s))

/-- The line of a queued store becomes poisoned (R34). -/
def poisonQueued (p : Port) (tag : Nat) (s : State) : State :=
  let lines := ((s.port p).queue.filter fun x => x.tag == tag).map fun x => (x.line, 1)
  (nameLines 217 lines s).modPort p fun q => { q with queue := q.queue.map fun x => if x.tag == tag then { x with poison := true, data := 0 } else x }

/-- A DRAM structure that is rebuilt from what the medium and the persistence domain hold (R340). -/
def rebuildDram (s : State) : State := raise 219 (detectSomewhere .dram true s)

/-- Table — Uncorrectable errors by structure. -/
def structureError (what : Structure) (s : State) : State :=
  match what with
  | .ingress p tag => poisonQueued p tag (detectSomewhere .sram true s)
  | .staging line =>
    let s := dropCached line (detectSomewhere .sram true (nameLines 217 [(line, 1)] s))
    { s with staging := s.staging.map fun l => if l.line == line then { l with poison := true, data := 0 } else l }
  | .levelOne block =>
    let s := detectSomewhere .sram true s
    { s with l1 := s.l1.filter fun b => b.block != block }
  | .levelTwo block =>
    let s := detectSomewhere .dram true s
    { s with l2 := s.l2.filter fun b => b.block != block }
  | .mapCache => detectSomewhere .sram true s
  | .counterCache obj fault => if s.faultFits obj fault then cacheError obj fault s else s
  | .groupContext g => criticalError (detectSomewhere .sram true (s.setGroup g { s.group g with damaged := true }))
  | .criticalWord => criticalError (detectSomewhere .sram true s)
  | .stateParity => criticalError s
  | .mainMap _ => rebuildDram s
  | .deltaBucket _ => rebuildDram s
  | .bindingHash => rebuildDram s
  | .unitRecord _ => rebuildDram s
  | .buffer => detectSomewhere .dram true s
  | .firmwareTable => detectSomewhere .dram true s
  | .mediumSector unit page sector => detectError .medium (sectorAddress unit page sector) true s
  | .paramWord word => raise 222 (detectError .param word true s)

/-- UNCORRECTABLE_ERROR in a structure of R340. The parameter store serves whenever the module is on. -/
def execUncorrectableError (what : Structure) (s : State) : Host.Outcome State Fault Refusal :=
  let param := match what with
    | .paramWord _ => true
    | _ => false
  if s.vcoreOn || (param && s.mode != modeOff) then .next (structureError what s) else .next s

/-- CRITICAL_STATE_ERROR (R341). -/
def execCriticalStateError (s : State) : Host.Outcome State Fault Refusal := .next (criticalError s)

/-! ### Rows (R343, R345, R349) -/

/-- Enter a lasting row in its remap table of 32 entries; a full table leaves it on its shadow row (R349). -/
def enterRemap (mem : MemKind) (row : Nat) (s : State) : State :=
  let mine := s.stored.remap.filter fun e => e.mem == mem
  if mine.any fun e => e.row == row then s
  else if 32 ≤ mine.length then raise 225 (s.bump 0x802005)
  else { s with stored := { s.stored with remap := s.stored.remap ++ [{ mem := mem, state := 1, row := row, time := s.deviceTime }] } }

/-- A transient outcome at an address; true where it is the third within 24 hours, which is recorded as lasting (R345). -/
def transientOutcome (mem : MemKind) (address : Nat) (s : State) : State × Bool :=
  if s.repeatTransient mem address then (raise 231 s, true)
  else (noteTransient mem address ((setOutcome mem address 1 s).bump 0x803002), false)

/-- The lasting outcome of a row. -/
def lastingRow (mem : MemKind) (row : Nat) (s : State) : State :=
  let s := { s with stored := { s.stored with shadows := insertNew (mem, row) s.stored.shadows } }
  enterRemap mem row (raise 224 ((setOutcome mem row 2 s).bump 0x803003))

/-- The row at the head of a memory's queue. -/
def State.rowUnderTest (s : State) (mem : MemKind) : Option Nat :=
  (s.stored.rowTests.find? fun e => e.1 == mem).map (·.2)

/-- ROW_SELF_TEST of the row at the head of its memory's queue. With no free shadow row it cannot start, and waits. -/
def execRowSelfTest (mem : MemKind) (row : Nat) (pass : Bool) (s : State) : Host.Outcome State Fault Refusal :=
  if !s.vcoreOn || s.rowUnderTest mem != some row then .next s
  else if shadowRows mem ≤ s.shadowsUsed mem then .next (raise 223 s)
  else
    let s := State.bump { s with stored := { s.stored with rowTests := s.stored.rowTests.filter fun e => e != (mem, row) } } 0x803001
    if pass then
      let (t, third) := transientOutcome mem row s
      .next (if third then lastingRow mem row t else t)
    else .next (lastingRow mem row s)

/-! ### Sectors (R344) -/

/-- A free unit: no valid data, in a stripe of the free pool. -/
def State.unitFree (s : State) (u : Nat) : Bool := (s.unit u).state == 0 && (s.stripe (stripeOfUnit u)).role == .free

/-- A free unit is reset into SL mode; its stripe is reset again before it is programmed. -/
def borrowUnit (u : Nat) (s : State) : State :=
  let st := stripeOfUnit u
  unitReset u 1 (s.setStripe st { s.stripe st with needsReset := true })

/-- An uncorrectable sector is refreshed whatever its outcome, where its unit holds data (R280, R344). -/
def refreshSector (unit : Nat) (s : State) : State :=
  let holds := match (s.stripe (stripeOfUnit unit)).role with
    | .closed => true
    | .openDest _ => true
    | _ => false
  if (s.unit unit).cellMode != 1 && holds then scheduleRefresh unit s else s

/-- The lasting outcome of a sector: its unit takes a lasting fault. -/
def lastingSector (unit address : Nat) (s : State) : State :=
  lastingFault unit (raise 224 ((setOutcome .medium address 2 s).bump 0x803003))

/-- The transient outcome of a sector. -/
def transientSector (unit address : Nat) (s : State) : State :=
  let (t, third) := transientOutcome .medium address s
  if third then lastingSector unit address t else t

/-- SECTOR_SELF_TEST: a re-read, then if need be a pattern in a free unit of the cluster; with none free the test is not possible and the unit
is Suspect. In HALT the pattern waits until resume. -/
def execSectorSelfTest (unit page sector : Nat) (rereadPasses patternPasses : Bool) (s : State) : Host.Outcome State Fault Refusal :=
  let address := sectorAddress unit page sector
  if !(s.dataPath || s.mode == modeHalt) || !s.stored.sectorTests.contains address || (s.mode == modeHalt && !rereadPasses) then .next s
  else
    let s := refreshSector unit
      (State.bump { s with stored := { s.stored with sectorTests := s.stored.sectorTests.filter (· != address) } } 0x803001)
    if rereadPasses then .next (raise 220 (transientSector unit address s))
    else
      let first := clusterOfUnit unit * 32
      match ((List.range 32).map (first + ·)).find? fun u => u != unit && s.unitFree u with
      | none =>
        let s := (setOutcome .medium address 3 s).bump 0x803004
        .next (raise 220 (if (s.unit unit).state < 2 then setUnitState unit 2 s else s))
      | some u =>
        let s := sectorProgrammed u 0 (borrowUnit u s)
        .next (raise 220 (if patternPasses then transientSector unit address s else lastingSector unit address s))

/-! ### Check-bit test access (R351) -/

/-- The memory that 0x8040.01 names. -/
def State.testMemory (s : State) : MemKind :=
  let m := s.get 0x804001
  if m = 1 then .sram else if m = 2 then .dram else if m = 3 then .medium else .param

/-- Data and check bytes of a protected unit. -/
def testBytes (mem : MemKind) : Nat × Nat := if mem = .medium then (256, 12) else (8, 1)

/-- The number of units in the scratch area of a memory. -/
def scratchSize (mem : MemKind) : Nat := if mem = .dram then 131072 else if mem = .medium then 16 else 512

/-- The offset lies in the scratch area, and the lengths match the memory. -/
def State.rawArgsOk (s : State) : Bool :=
  let mem := s.testMemory
  decide (s.get 0x804002 < scratchSize mem) && (s.getBytes 0x804004).length == (testBytes mem).1 &&
    (s.getBytes 0x804005).length == (testBytes mem).2

/-- A free unit of the die in 0x8040.03. -/
def State.freeUnitOfDie (s : State) : Option Nat :=
  let first := s.get 0x804003 * 16384
  ((List.range 16384).map (first + ·)).find? s.unitFree

/-- The medium's scratch unit exists or can be taken. -/
def State.scratchReady (s : State) : Bool := s.testMemory != .medium || s.stored.scratchUnit.isSome || s.freeUnitOfDie.isSome

/-- The first use of the medium in SERVICE takes its scratch unit. -/
def takeScratch (s : State) : State :=
  if s.testMemory != .medium || s.stored.scratchUnit.isSome then s
  else match s.freeUnitOfDie with
    | none => s
    | some u =>
      let s := setUnitState u 1 (borrowUnit u s)
      { s with stored := { s.stored with scratchUnit := some u } }

/-- The write action: data and check bits are stored unchanged. -/
def writeRaw (s : State) : State :=
  let mem := s.testMemory
  let offset := s.get 0x804002
  let s := takeScratch s
  let s := match mem == .medium, s.stored.scratchUnit with
    | true, some u => sectorProgrammed u (offset / 16) s
    | _, _ => s
  let entry := (mem, offset, s.getBytes 0x804004, s.getBytes 0x804005)
  raise 229 { s with stored := { s.stored with
    scratch := (s.stored.scratch.filter fun e => !(e.1 == mem && e.2.1 == offset)) ++ [entry] } }

/-- The bytes of a free value. -/
def freeBytes (n : Nat) (s : State) : List Byte := natToBytes n s.freeNow

/-- A list of exactly `n` bytes. -/
def fitBytes (n : Nat) (l : List Byte) : List Byte := (l ++ List.replicate n 0).take n

/-- The read action: the raw bits, and what the decoder makes of them. What an offset holds that nothing has written is a free value. -/
def readRaw (result : CodeResult) (decoded : List Byte) (s : State) : State :=
  let mem := s.testMemory
  let offset := s.get 0x804002
  let s := takeScratch s
  let (nd, nc) := testBytes mem
  let found := s.stored.scratch.find? fun e => e.1 == mem && e.2.1 == offset
  let (data, check) := match found with
    | some e => (e.2.2.1, e.2.2.2)
    | none => (freeBytes nd s, freeBytes nc (drawn s))
  let s := match found with
    | some _ => s
    | none => drawn (drawn s)
  let s := (s.putBytes 0x804008 data).putBytes 0x804009 check
  let code := match result with
    | .clean => 0
    | .corrected n => 1 + n % 256 * 256
    | .uncorrectable => 2
  let value := match result with
    | .uncorrectable => List.replicate nd 0
    | _ => fitBytes nd decoded
  raise 229 ((s.put 0x80400A code).putBytes 0x80400B value)

end Sys2Proof.Machine
end

