-- ==== Sys2Proof/Machine/ThermalOps.lean ====
section
/-! DEFINITION. The thermal monitor (R414 to R427): the cross-check of sensors, temperatures, bands, throttling, pauses, and what a slow round
measures for the supervisor. Temperatures are in m°C as the channels report them. -/

namespace Sys2Proof.Machine

/-! ### Sensors (R417 to R419). A number below 64 is a channel, 64 + n is die n -/

/-- The temperature sensors. -/
def sensors : List Nat := List.range 24 ++ [46] ++ (List.range 64).map (64 + ·)

/-- Table — Neighbour sets. -/
def neighbours (n : Nat) : List Nat :=
  if n < 8 then (List.range 8).filter (· != n)
  else if n < 12 then [8, 9, 10, 11].filter (· != n)
  else if n = 12 ∨ n = 23 then [19, 20, 21, 22]
  else if n < 17 then [13, 14, 15, 16].filter (· != n)
  else if n < 19 then [17, 18, 19, 20, 21, 22].filter (· != n)
  else if n < 23 then [17, 18, 19, 20, 21, 22].filter (· != n)
  else if n = 46 then [17, 19]
  else if 64 ≤ n ∧ n < 128 then ((List.range 4).map fun d => n / 4 * 4 + d).filter (· != n)
  else []

/-- The sensors of the same kind (R419). -/
def kindOf (n : Nat) : List Nat :=
  if n < 8 then List.range 8
  else if n < 12 then [8, 9, 10, 11]
  else if n = 12 then [12]
  else if n < 17 then [13, 14, 15, 16]
  else if n < 19 then [17, 18]
  else if n < 23 then [19, 20, 21, 22]
  else if n = 23 ∨ n = 46 then [n]
  else (List.range 64).map (64 + ·)

/-- A sensor has been declared broken. -/
def State.broken (s : State) (n : Nat) : Bool :=
  if n < 32 then (s.get 0x903001).testBit n
  else if n = 46 then s.therm.cartridgeBroken
  else if 64 ≤ n then (s.get 0x903002).testBit (n - 64) else false

def setBroken (n : Nat) (b : Bool) (s : State) : State :=
  if n < 32 then (if b then s.setBit 0x903001 n else s.clearBit 0x903001 n)
  else if n = 46 then { s with therm := { s.therm with cartridgeBroken := b } }
  else if b then s.setBit 0x903002 (n - 64) else s.clearBit 0x903002 (n - 64)

/-- What a channel's entry holds: none for 0x8000_0000 (R415). -/
def State.channelValue (s : State) (n : Nat) : Option Int :=
  let v := s.getInt 32 (sensorKey n)
  if v = -2147483648 then none else some v

/-- The raw reading of a sensor. -/
def State.rawReading (s : State) (n : Nat) : Option Int :=
  if n < 64 then s.channelValue n else (tfind (n - 64) s.therm.dieTemp).map (· * 1000)

/-- The reading of a valid sensor. -/
def State.validReading (s : State) (n : Nat) : Option Int := if s.broken n then none else s.rawReading n

/-- The median of readings: the mean of the two in the middle where their number is even. -/
def medianInt (l : List Int) : Int :=
  let t := l.mergeSort fun a b => decide (a ≤ b)
  (t.getD ((l.length - 1) / 2) 0 + t.getD (l.length / 2) 0) / 2

/-- The median of a sensor's valid neighbours, of which it needs two. -/
def State.neighbourMedian (s : State) (n : Nat) : Option Int :=
  let l := (neighbours n).filterMap s.validReading
  if l.length < 2 then none else some (medianInt l)

/-- The greatest of readings. -/
def highest (l : List Int) : Option Int := l.foldl (fun m x => match m with
  | none => some x
  | some y => some (max x y)) none

/-- What a sensor contributes: its reading, or its estimate once broken (R419). -/
def State.temperature (s : State) (n : Nat) : Option Int :=
  if s.broken n then
    match s.neighbourMedian n with
    | some m => some (m + tgetD 0 n s.therm.learned)
    | none => highest ((kindOf n).filterMap s.validReading)
  else s.rawReading n

/-- The learned offset from the differences kept, newest first, of which the first `skip` broke the sensor. -/
def learnedOffset (skip : Nat) (l : List Int) : Int :=
  let t := (l.drop skip).take 450
  if t.isEmpty then 0 else max (-12000) (min 12000 (t.foldl (· + ·) 0 / (t.length : Int)))

/-- One sensor is compared: its difference is kept, and its rounds in mismatch are counted. -/
def compareSensor (n : Nat) (s : State) : State :=
  match s.validReading n, s.neighbourMedian n with
  | some v, some m =>
    let d := v - m
    let off := decide ((s.get 0x901005 : Int) * 1000 < (if d < 0 then -d else d))
    let rounds := if off then tgetD 0 n s.therm.mismatch + 1 else 0
    { s with therm := { s.therm with
      mismatch := tset 0 n rounds s.therm.mismatch,
      offsets := tput n ((d :: tgetD [] n s.therm.offsets).take 466) s.therm.offsets } }
  | _, _ => { s with therm := { s.therm with mismatch := tdel n s.therm.mismatch } }

/-- A sensor is declared broken (R420, R242). -/
def declareBroken (n : Nat) (s : State) : State :=
  let offset := learnedOffset (s.get 0x901006) (tgetD [] n s.therm.offsets)
  let s := setBroken n true { s with therm := { s.therm with
    learned := tset 0 n offset s.therm.learned, mismatch := tdel n s.therm.mismatch } }
  let s := raise 45 s
  wakeBy 5 (if 64 ≤ n then raise (152 + (n - 64)) s else s)

/-- The cross-check of a round: sensors of one neighbour set never break together (R418). -/
def crossCheck (s : State) : State :=
  let before := s
  let s := sensors.foldl (fun t n =>
    { t with therm := (compareSensor n { before with therm := t.therm }).therm }) s
  let due := sensors.filter fun n => decide (s.get 0x901006 ≤ tgetD 0 n s.therm.mismatch)
  let share := fun (a b : Nat) => sensors.any fun z => let g := z :: neighbours z; g.contains a && g.contains b
  let together := due.filter fun a => due.any fun b => a != b && share a b
  let s := (due.filter fun n => !together.contains n).foldl (fun t n => declareBroken n t) s
  raiseIf (!together.isEmpty) 46 s

/-- A broken sensor is re-admitted. -/
def reAdmit (n : Nat) (s : State) : State :=
  raise 50 (setBroken n false { s with therm := { s.therm with
    learned := tdel n s.therm.learned, mismatch := tdel n s.therm.mismatch, offsets := tdel n s.therm.offsets } })

/-! ### Temperatures and bands (R416, R421, R422) -/

/-- The controller junction temperature. -/
def State.junction (s : State) : Option Int := highest ((List.range 8).filterMap s.temperature)

/-- The package temperature of a package. -/
def State.packageTemp (s : State) (c : Nat) : Option Int := highest ((List.range 4).filterMap fun d => s.temperature (64 + 4 * c + d))

/-- A temperature in whole °C. -/
def celsiusOf (m : Int) : Int := m / 1000

/-- A package has entered a band: its units' hottest band since their last visit (R278). -/
def noteHottest (c band : Nat) (s : State) : State :=
  let warm := fun (e : Nat × UnitRec) =>
    if channelOfUnit e.1 = c then (e.1, { e.2 with hottest := max e.2.hottest band }) else e
  { s with med := { s.med with units := s.med.units.map warm } }

/-- The lower edge of a band in m°C. -/
def bandEdge (b : Nat) : Int := if b = 1 then 0 else if b = 2 then 35000 else if b = 3 then 60000 else 80000

/-- The band whose lower edge a temperature has reached. -/
def bandReached (t : Int) : Nat := if 80000 ≤ t then 4 else if 60000 ≤ t then 3 else if 35000 ≤ t then 2 else if 0 ≤ t then 1 else 0

/-- The band that a fall leaves from band `b`: down where it is 2 °C below the lower edge. -/
def bandFallen : Nat → Int → Nat
  | 0, _ => 0
  | b + 1, t => if t ≤ bandEdge (b + 1) - 2000 then bandFallen b t else b + 1

/-- A package's temperature, its highest, its band and its accumulator follow a round (R271, R421). -/
def packageRound (c : Nat) (s : State) : State :=
  match s.packageTemp c with
  | none => s
  | some t =>
    let deg := celsiusOf t
    let s := (s.putInt 16 (packageTempKey c) deg).addTo (packageAgeKey c) (roundAge deg)
    let top := channelKey c 4
    let s := if s.getInt 16 top < deg then s.putInt 16 top deg else s
    let b := s.get (packageBandKey c)
    let n := if b < bandReached t then bandReached t else bandFallen b t
    if n = b then s
    else
      let s := noteHottest c n (s.put (packageBandKey c) n)
      wakeBy 5 (raise 40 { s with therm := { s.therm with bandPackage := c } })

/-- Every package, then the entries of 0x9001. -/
def temperatures (s : State) : State :=
  let s := (List.range 16).foldl (fun t c => packageRound c t) s
  let s := match highest ((List.range 16).filterMap s.packageTemp) with
    | some t => s.putInt 16 0x900101 (celsiusOf t)
    | none => s
  match s.junction with
  | none => s
  | some t =>
    let s := s.putInt 16 0x900102 (celsiusOf t)
    if s.getInt 16 0x900108 < celsiusOf t then s.putInt 16 0x900108 (celsiusOf t) else s

/-! ### Throttling (R423 to R425) -/

/-- Some temperature has reached its threshold. -/
def State.tooHot (s : State) : Bool :=
  let pkg := s.getInt 16 0x901001 * 1000
  let jun := s.getInt 16 0x901002 * 1000
  ((List.range 16).filterMap s.packageTemp).any (fun t => decide (pkg ≤ t)) || (match s.junction with
    | some t => decide (jun ≤ t)
    | none => false)

/-- Every temperature is at least 3 °C below its threshold. -/
def State.cool (s : State) : Bool :=
  let pkg := s.getInt 16 0x901001 * 1000 - 3000
  let jun := s.getInt 16 0x901002 * 1000 - 3000
  ((List.range 16).filterMap s.packageTemp).all (fun t => decide (t ≤ pkg)) && (match s.junction with
    | some t => decide (t ≤ jun)
    | none => true)

/-- A throttle request is raised. -/
def requestThrottle (s : State) : State :=
  let s := { s with therm := { s.therm with requestAt := some s.clock, level := 0, coolSince := none } }
  wakeBy 5 (raise 41 ((s.put 0x900103 1).bump 0x900105))

/-- The reads that wait on a paused die are served by stripe reconstruction. -/
def pauseDie (d : Nat) (s : State) : State :=
  let s := raise 44 (s.setBit 0x900104 d)
  (List.range 4).foldl (fun t r => reconstructWaiting (4 * d + r) (fun _ => true) t) s

/-- The pauses of level 3: in each stripe row the hottest die at 95 °C or more, until it reads below 90 °C. DESIGN CHOICE (log 196): of dies equally hot,
that of the lowest package. -/
def pauseRow (row : Nat) (s : State) : State :=
  let dies := (List.range 16).map fun c => 4 * c + row
  let s := dies.foldl (fun t d => if t.diePaused d && (match t.temperature (64 + d) with
    | some x => decide (x < 90000)
    | none => false) then t.clearBit 0x900104 d else t) s
  if dies.any s.diePaused then s
  else
    let hot := dies.filterMap fun d => match s.temperature (64 + d) with
      | some x => if 95000 ≤ x then some (x, d) else none
      | none => none
    match hot.foldl (fun (m : Option (Int × Nat)) e => match m with
      | none => some e
      | some y => if y.1 < e.1 then some e else some y) none with
    | some e => pauseDie e.2 s
    | none => s

def pauses (s : State) : State := if s.therm.level = 3 then [0, 1, 2, 3].foldl (fun t r => pauseRow r t) s else s

/-- Enforcement rises one level. -/
def raiseLevel (s : State) : State :=
  let n := s.therm.level + 1
  let since := match s.therm.enforcedSince with
    | some t => t
    | none => s.clock
  let s := { s with therm := { s.therm with level := n, levelAt := s.clock, enforcedSince := some since } }
  pauses (raise 42 (s.put 0x900103 (n + 1)))

/-- The request is cleared, and enforcement ends at once. -/
def clearThrottle (s : State) : State :=
  let s := noteEnforced s
  let s := { s with therm := { s.therm with requestAt := none, level := 0, coolSince := none } }
  raise 43 ((s.put 0x900103 0).put 0x900104 0)

/-- The judgement of a round. -/
def throttling (s : State) : State :=
  match s.therm.requestAt with
  | none => if s.tooHot then requestThrottle s else s
  | some _ =>
    let since := match s.therm.coolSince with
      | some t => some t
      | none => some s.clock
    let s := { s with therm := { s.therm with coolSince := if s.cool then since else none } }
    pauses s

/-! ### Cold plate (R427) and what else a round measures -/

/-- A cold-plate sensor out of range for ten rounds raises source 48. -/
def coldPlate (n : Nat) (s : State) : State :=
  match s.rawReading n with
  | none => s
  | some t =>
    if 85000 < t ∨ t < -40000 then
      let k := tgetD 0 n s.therm.coldRounds + 1
      raiseIf (k == 10) 48 { s with therm := { s.therm with coldRounds := tput n k s.therm.coldRounds } }
    else { s with therm := { s.therm with coldRounds := tdel n s.therm.coldRounds } }

/-- Channels measured in AUX and LOCKOUT (R415). -/
def auxChannel (n : Nat) : Bool := (17 ≤ n && n ≤ 25) || n == 38 || (44 ≤ n && n ≤ 47)

/-- The channels of a round are converted. -/
def convertChannels (channels : List (Option Int)) (s : State) : State :=
  let few := s.mode == modeAux || s.mode == modeLockout
  (List.range 48).foldl (fun t n =>
    match if few && !auxChannel n then none else channels.getD n none with
    | some v => t.putInt 32 (sensorKey n) v
    | none => t.put (sensorKey n) 0x80000000) s

/-- A reading held in a U16 entry. -/
def shown (v : Int) : Nat := min 65535 v.toNat

/-- The charge current of the cartridge at most, in mA (R375): none while VBUS is off. In the modes that the rule does not name, no limit is
stated. -/
def State.chargeLimit (s : State) : Option Nat :=
  if !(s.rail 4).on then some 0
  else if s.mode = modeFull ∨ s.mode = modeReduced then some 500
  else if s.mode = modeMinimal then some 200
  else if s.mode = modeDoze then some 100
  else none

/-- The charge current that a reading of channel 47 shows: the charger gives what the cartridge takes, up to its limit. -/
def State.chargeCurrent (s : State) (reading : Int) : Nat :=
  match s.chargeLimit with
  | some n => min n (shown reading)
  | none => shown reading

/-- Rail voltages, VIN, and the cartridge with its usable energy (R374); then the supervisor judges protection (R377). -/
def supervise (s : State) : State :=
  let s := (List.range 13).foldl (fun t i => match t.channelValue (25 + i) with
    | some v => t.put (railKey i) (shown v)
    | none => t.put (railKey i) 0) s
  let s := match s.channelValue 24 with
    | some v => noteVin (shown v) s
    | none => s
  let s := match s.channelValue 47 with
    | some v => s.put 0x20300D (s.chargeCurrent v)
    | none => s
  match s.channelValue 44 with
  | none => s
  | some v =>
    let s := s.put 0x203002 (shown v)
    let energy := if s.get 0x203001 = 1 then usableMj (s.get 0x203003) (s.get 0x203004) (shown v) else 0
    let s := s.put 0x203005 (min 65535 energy)
    let was := s.get 0x402001
    let s := updateProtection { s with pow := { s.pow with cartridge := { s.pow.cartridge with measured := true } } }
    if was = 1 ∧ s.get 0x402001 ≠ 1 then wakeBy 4 s else s

/-- A slow round. -/
def slowRound (channels : List (Option Int)) (s : State) : State :=
  let s := temperatures (crossCheck (convertChannels channels s))
  let s := if s.vcoreOn && s.mode != modeRise then throttling s else s
  supervise (coldPlate 18 (coldPlate 17 s))

end Sys2Proof.Machine
end

