-- ==== Sys2Proof/Machine/Thermal.lean ====
section
/-! DEFINITION. SLOW_ROUND, DIE_TEMPERATURE_READ, THROTTLE_CLEARED, ENFORCEMENT_LEVEL and LOCKOUT (R229, R414 to R427). -/

namespace Sys2Proof.Machine

/-- SLOW_ROUND with the 48 channels in order, `none` for one whose part is unpowered. It does not run in OFF. -/
def execSlowRound (channels : List (Option Int)) (s : State) : Host.Outcome State Fault Refusal :=
  if s.mode = modeOff then .next s else .next (slowRound channels s)

/-- The media are powered. -/
def State.mediaOn (s : State) : Bool := s.vcoreOn && s.mode != modeDoze && s.mode != modeRise

/-- A die reads 100 °C or more. -/
def State.dieHot (s : State) (d : Nat) : Bool :=
  match s.temperature (64 + d) with
  | some t => decide (100000 ≤ t)
  | none => false

/-- DIE_TEMPERATURE_READ: 100 °C in two successive reads of a die is the lockout condition; a broken sensor contributes its estimate
(R416, R426). -/
def execDieTemperatureRead (die : Fin 64) (celsius : Int) (s : State) : Host.Outcome State Fault Refusal :=
  if !s.mediaOn then .next s
  else
    let d := die.val
    let s := { s with therm := { s.therm with dieTemp := tput d celsius s.therm.dieTemp } }
    let again := s.dieHot d && s.therm.hotOnce.contains d
    let once := if s.dieHot d then insertNew d s.therm.hotOnce else s.therm.hotOnce.filter (· != d)
    let s := { s with therm := { s.therm with hotOnce := once } }
    if again then .next (lockOut s) else .next s

/-- THROTTLE_CLEARED: every temperature has stayed 3 °C below its threshold for 1 s (R423). -/
def execThrottleCleared (s : State) : Host.Outcome State Fault Refusal :=
  if s.therm.requestAt.isSome && s.therm.coolSince.isSome then .next (clearThrottle s) else .next s

/-- ENFORCEMENT_LEVEL: the grace time, or a further 100 ms, has passed with the request raised (R424). -/
def execEnforcementLevel (s : State) : Host.Outcome State Fault Refusal :=
  if s.therm.requestAt.isSome && decide (s.therm.level < 3) then .next (raiseLevel s) else .next s

/-- LOCKOUT: the lockout condition is met (R394, R426). -/
def execLockout (s : State) : Host.Outcome State Fault Refusal := .next (lockOut s)

end Sys2Proof.Machine
end

