-- ==== Sys2Proof/Machine/Judge.lean ====
section
/-! DEFINITION. How a dictionary request is judged: privilege in force (R440), the request checks in their order (R435), and the conditions
that the owning chapters add to ranges, states and modes. -/

namespace Sys2Proof.Machine

/-! ### What a request is -/

/-- A read or a block read. -/
def DictAsk.isRead : DictAsk → Bool
  | .read => true
  | .blockRead _ _ => true
  | _ => false

/-- A block transfer. -/
def DictAsk.isBlock : DictAsk → Bool
  | .blockRead _ _ => true
  | .blockWrite _ _ _ => true
  | _ => false

/-- The request starts an action: the action request, or a write of an ACT entry, in one value or as the last segment of a block (R10,
R431). -/
def DictAsk.starts (ask : DictAsk) (d : Desc) : Bool :=
  match ask with
  | .act _ => true
  | .write _ => d.access == .act
  | .blockWrite _ _ final => final && d.access == .act
  | _ => false

/-! ### Privilege -/

/-- Privilege codes of R434. -/
abbrev observer : Nat := 0
abbrev custodian : Nat := 3

/-- The level in force. A field link request without a session has none: the checks let it read what an Observer may, where that is
permitted. -/
def State.levelOf (s : State) (req : Req) : Nat :=
  if req.session = 0 then (if onLink req.path then observer else s.get 0x304002)
  else match s.sessionOf req with
    | some x => x.level
    | none => observer

/-- Check 2: the reads that the field link takes without a session. -/
def State.openRead (s : State) (key : Nat) (ask : DictAsk) : Bool :=
  ask.isRead && s.get 0x110002 == 1 && (match describe key with
    | some d => d.rd == observer
    | none => false)

/-- Check 5: the access code permits the request (R10), in one value or as a block alike. A WO entry reads zero. -/
def permits (key : Nat) (d : Desc) (ask : DictAsk) : Bool :=
  let a := accessOf key d
  match ask with
  | .read => true
  | .blockRead _ _ => true
  | .act _ => a == .act
  | _ => a == .rw || a == .wo || a == .w1c || a == .act

/-- Check 6: the privilege that the request needs. -/
def needs (key : Nat) (d : Desc) (ask : DictAsk) : Nat := if ask.isRead then d.rd else writePrivilege key d

/-! ### Lengths (check 7) -/

/-- Entries that only block reads return: their value is longer than 1,024 bytes. -/
def blockOnly (key : Nat) : Bool := key == 0x120003 || key == 0x1F0002 || key == 0xA00303

/-- Level keys (R446). -/
def isLevelKey (key : Nat) : Bool := decide (0x111001 ≤ key) && decide (key ≤ 0x111004)

/-- The lengths that an entry takes. -/
def lengthFits (key : Nat) (d : Desc) (n : Nat) : Bool :=
  if isLevelKey key then n == 40
  else if key = 0x140201 then n == 6
  else if key = 0x804004 then n == 8 || n == 256
  else if key = 0x804005 then n == 1 || n == 12
  else if d.ty.isBytes then decide ((n : Int) ≤ d.hi)
  else n == d.ty.size

/-- The bytes of an action's argument (R430). -/
def argSize (key : Nat) : Nat :=
  if key = 0x501001 then 4
  else if key = 0x619007 ∨ key = 0x619008 ∨ key = 0x619009 ∨ key = 0x700201 ∨ key = 0x700202 ∨ key = 0x903003 ∨ key = 0xA00201 ∨
    key = 0xC00201 then 1
  else 0

/-- The block write in progress on a path and session. -/
def State.blockOf (s : State) (req : Req) : Option BlockWrite :=
  s.mgmt.blockWrites.find? fun b => b.path == req.path && b.session == req.session

/-- The whole value that a block write's segment makes, and whether it starts where it may (R460). -/
def State.assembled (s : State) (req : Req) (key offset : Nat) (segment : List Byte) : Option (List Byte) :=
  if offset = 0 then some segment
  else match s.blockOf req with
    | none => none
    | some b => if b.key == key && b.bytes.length == offset then some (b.bytes ++ segment) else none

/-- The value that a request would set, with a block write's earlier segments. -/
def State.valueOf (s : State) (req : Req) (key : Nat) : DictAsk → List Byte
  | .write v => v
  | .act v => v
  | .blockWrite offset seg _ => (s.assembled req key offset seg).getD seg
  | _ => []

def State.lengthOk (s : State) (req : Req) (key : Nat) (d : Desc) (ask : DictAsk) : Bool :=
  match ask with
  | .read => !blockOnly key
  | .blockRead _ n => decide (n ≤ 1024)
  | .write v => if d.access = .act then v.length == argSize key else decide (v.length ≤ 1024) && lengthFits key d v.length
  | .act v => v.length == argSize key
  | .blockWrite _ seg final =>
    decide (seg.length ≤ 1024) &&
      (if d.access = .act then
         (if final then (s.valueOf req key ask).length == argSize key else decide ((s.valueOf req key ask).length ≤ argSize key))
       else if final then lengthFits key d (s.valueOf req key ask).length
       else decide ((s.valueOf req key ask).length ≤ (if d.ty.isBytes then d.hi.toNat else d.ty.size)))

/-! ### Ranges (check 8) -/

/-- The qualifiers that a row of Table — Counter events allows. -/
def qualifierOk (code q : Nat) : Bool :=
  if (0x02 ≤ code ∧ code ≤ 0x0A) ∨ (0x10 ≤ code ∧ code ≤ 0x13) then q == 0 || q == 1 || q == 31
  else if (0x20 ≤ code ∧ code ≤ 0x26) ∨ code = 0x40 then decide (q ≤ 15) || q == 31
  else if code ≤ 0x01 ∨ (0x30 ≤ code ∧ code ≤ 0x34) then q == 31
  else false

/-- A select value names an event with a qualifier of its row (R494). Code 0x00 as the defaults write it has qualifier 0. -/
def selectOk (v : Nat) : Bool := decide (v < 8192) && (v == 0 || qualifierOk (v % 256) (v / 256))

/-- A snapshot entry names an entry that a snapshot can hold (R478). -/
def snapshotOk (v : Nat) : Bool :=
  v == 0 || (v % 256 == 0 && (match describe (v / 256) with
    | some d => d.access != .wo && d.access != .act
    | none => false))

abbrev gib : Nat := 1073741824
abbrev dataBytes : Nat := 4398046511104

/-- Bytes of the enabled prompt regions but one (R189). -/
def State.promptBytes (s : State) (but : Nat) : Nat :=
  ((s.enabledRegions.filter fun r => r != but && s.get (regionKey r 0x04) == 1).map fun r => s.get (regionKey r 0x03)).foldl (· + ·) 0

/-- An enabled region of class prompt stays within the 256 GiB of all prompt regions. -/
def State.promptFits (s : State) (r cls : Nat) : Bool :=
  cls != 1 || decide (s.promptBytes r + s.get (regionKey r 0x03) ≤ 256 * gib)

/-- A region's range meets that of another enabled region. -/
def State.regionOverlaps (s : State) (r : Nat) : Bool :=
  s.enabledRegions.any fun q => q != r && overlaps (s.get (regionKey r 0x02)) (s.get (regionKey r 0x03)) (s.get (regionKey q 0x02)) (s.get (regionKey q 0x03))

/-- The ranges of R186 to R189. -/
def State.regionRangeOk (s : State) (r sub v : Nat) : Bool :=
  if sub = 0x01 then
    v == 0 || (s.get (regionKey r 0x03) != 0 && !s.regionOverlaps r && s.promptFits r (s.get (regionKey r 0x04)))
  else if sub = 0x02 then v % gib == 0 && decide (v + s.get (regionKey r 0x03) ≤ dataBytes)
  else if sub = 0x03 then v % gib == 0 && decide (s.get (regionKey r 0x02) + v ≤ dataBytes)
  else if sub = 0x04 then (v != 1 || r != 0) && (!s.regionEnabled r || s.promptFits r v)
  else true

/-- The region and subindex of a region's key. -/
def regionOfKey (key : Nat) : Option (Nat × Nat) :=
  if 0x410000 ≤ key ∧ key < 0x414000 then some ((key - 0x410000) / 256, key % 256) else none

/-- Conditions beside the bounds of a numeric entry. DESIGN CHOICE (log 159): a condition that the tables state on one of two entries (0x6140.03
below 0x6140.02, 0x6140.04 below 0x6140.03; 0x6180.02 above 0x6180.01, 0x6180.03 above 0x6180.02) refuses no write of the other. -/
def State.extraRange (s : State) (key v : Nat) : Bool :=
  if key = 0x303001 then decide (v < s.get 0x303002)
  else if key = 0x303002 then decide (s.get 0x303001 < v)
  else if key = 0x614003 then decide (v < s.get 0x614002)
  else if key = 0x614004 then decide (v < s.get 0x614003)
  else if key = 0x618002 then decide (s.get 0x618001 < v)
  else if key = 0x618003 then decide (s.get 0x618002 < v)
  else if key = 0xD02002 then v == 0 || decide (1000 ≤ v)
  else if key = 0xD06008 then decide (s.get key ≤ v)
  else if 0xB10000 ≤ key ∧ key < 0xB10400 then v == 0 || v == 2 ^ 48
  else if 0xB11000 ≤ key ∧ key < 0xB11400 then selectOk v
  else if 0xE00000 ≤ key ∧ key < 0xE12000 ∧ 0x09 ≤ key % 256 ∧ key % 256 ≤ 0x10 then snapshotOk v
  else match regionOfKey key with
    | some (r, sub) => s.regionRangeOk r sub v
    | none => true

/-- A wrapped level key unwraps under the session's wrap key, or 40 zeros empty a level other than Custodian (R446). -/
def State.levelKeyOk (s : State) (req : Req) (key : Nat) (v : List Byte) : Bool :=
  if v.all (· == 0) then key != 0x111004
  else match s.sessionOf req with
    | some x => (Config.aesUnwrap x.wrapKey v).isSome
    | none => false

/-- A value that an entry takes. -/
def State.valueOk (s : State) (req : Req) (key : Nat) (d : Desc) (v : List Byte) : Bool :=
  if isLevelKey key then s.levelKeyOk req key v
  else if key = 0x140201 then v.all (· == 0xFF) || (match v with
    | b :: _ => !b.getLsbD 0
    | [] => false)
  else if d.ty.isBytes then true
  else
    let n := bytesToNat v
    let x : Int := if d.ty.isSigned then toSigned d.ty.bits n else n
    decide (d.lo ≤ x) && decide (x ≤ d.hi) && s.extraRange key n

/-- An argument that an action takes. -/
def State.argOk (s : State) (key : Nat) (v : List Byte) : Bool :=
  let n := bytesToNat v
  if key = 0x501001 then decide (n < 262144)
  else if key = 0x619007 ∨ key = 0x619008 ∨ key = 0x619009 then decide (n < 64)
  else if key = 0x700201 ∨ key = 0xC00201 then decide (n < 16)
  else if key = 0x700202 ∨ key = 0xA00201 then decide (n ≤ 1)
  else if key = 0x903003 then decide (n < 48) || (decide (64 ≤ n) && decide (n < 128))
  else if key = 0x804006 ∨ key = 0x804007 then s.rawArgsOk
  else true

/-- The value that a read returns: zeros for a WO entry. -/
def State.answerBytes (s : State) (key : Nat) : List Byte :=
  match describe key with
  | none => []
  | some d => if d.access = .wo then List.replicate (if isLevelKey key then 40 else d.ty.size) 0 else s.valueBytes key

def State.rangeOk (s : State) (req : Req) (key : Nat) (d : Desc) (ask : DictAsk) : Bool :=
  match ask with
  | .read => true
  | .blockRead offset _ => decide (offset ≤ (s.answerBytes key).length)
  | .write v => if d.access = .act then s.argOk key v else s.valueOk req key d v
  | .act v => s.argOk key v
  | .blockWrite offset seg final =>
    let v := s.valueOf req key ask
    (s.assembled req key offset seg).isSome && (!final || (if d.access = .act then s.argOk key v else s.valueOk req key d v))

/-! ### Modes and states (check 9) -/

/-- The entry is the latch of an always-on source (R437). -/
def alwaysOnLatch (key : Nat) : Bool :=
  decide (0xE00000 ≤ key) && decide (key < 0xE12000) && key % 256 == 1 && alwaysOnSource (key / 256 - 0xE000)

/-- The actions that their own chapters accept in the modes without controller service: off and on requests (R409), retry rails (R367) and
service release (R388). -/
def State.responderActs (s : State) (key : Nat) : Bool :=
  (key == 0xD01001 && s.mode == modeRise) || (key == 0xD01002 && (s.mode == modeAux || s.mode == modeFall)) ||
    ((key == 0x201010 || key == 0x205002) && s.mode == modeAux)

/-- What the always-on responder serves (R437). -/
def State.responderServes (s : State) (key : Nat) (d : Desc) (ask : DictAsk) : Bool :=
  match ask with
  | .read => s.readableNow key
  | .write _ => (d.access == .rw && alwaysOnEntry key) || alwaysOnLatch key || (d.access == .act && s.responderActs key)
  | .act _ => s.responderActs key
  | _ => false

/-- The present mode takes the request. In DOZE what the responder cannot serve waits for the wake. -/
def State.modeTakes (s : State) (key : Nat) (d : Desc) (ask : DictAsk) : Bool :=
  if s.mode = modeDoze then true
  else if s.responder then s.responderServes key d ask
  else if s.mode = modeSave then ask.isRead
  else true

/-- A request that waits for the wake. -/
def State.mustWait (s : State) (key : Nat) (d : Desc) (ask : DictAsk) : Bool :=
  s.mode == modeDoze && !s.responderServes key d ask

/-- The write conflicts with the state of its region (R188). -/
def State.regionConflict (s : State) (r sub v : Nat) : Bool :=
  let on := s.regionEnabled r
  let slot := s.get (regionKey r 0x09)
  let x := s.regionPages r
  if sub = 0x01 then
    (v == 1 && s.get (slotKey slot) != 1) ||
      ((v == 1) != on && ((slot != s.get (regionKey 0 0x09) && s.anyMapped x.1 x.2) || s.regionOffline r))
  else if sub = 0x02 ∨ sub = 0x03 then on
  else if sub = 0x09 then
    if r = 0 then s.governedMapped || s.get (slotKey v) != 1 else on
  else false

/-- The state takes a write. -/
def State.writeFits (s : State) (key : Nat) (v : List Byte) : Bool :=
  match regionOfKey key with
  | some (r, sub) => !s.regionConflict r sub (bytesToNat v)
  | none => true

/-- The mode and state take an action: Table — Actions by mode, and the conditions of each action's entry. -/
def State.actionFits (s : State) (key : Nat) (v : List Byte) : Bool :=
  let n := bytesToNat v
  if key = 0x501001 then (s.group n).isOpen
  else if key = 0x619007 then s.dieState n == 0
  else if key = 0x619008 then s.regionEnabled n && !s.regionOffline n
  else if key = 0x619009 then s.regionOffline n
  else if key = 0x700201 ∨ key = 0x700203 then s.mode != modeHalt
  else if key = 0x700202 then s.mode == modeHalt && (match s.integ.halt with
    | some h => n == 0 || h.countersOnly
    | none => false)
  else if key = 0x804006 ∨ key = 0x804007 then s.mode == modeService && s.scratchReady
  else if key = 0x201010 then s.pow.hold == some .railRetries
  else if key = 0x203009 then s.get 0x203001 == 1 && s.testMode
  else if key = 0x205002 then s.get 0x205003 == 1
  else if key = 0xD01001 then s.offAllowed
  else if key = 0xD01002 then s.mode == modeAux || s.mode == modeFall
  else if key = 0xD01003 then s.resetAllowed
  else if key = 0xD02001 then s.dozeAllowed
  else if key = 0xD05001 then s.serving && s.modes.activation.isNone
  else if key = 0xD05002 then s.mode == modeService
  else if key = 0xD06003 then s.activationAllowed
  else if key = 0x903003 then s.broken n
  else if key = 0xC00201 then (s.channel n).state == 4
  else true

/-- Check 9. -/
def State.stateOk (s : State) (req : Req) (key : Nat) (d : Desc) (ask : DictAsk) : Bool :=
  s.modeTakes key d ask &&
    (if ask.isRead then true
     else if ask.starts d then s.actionFits key (s.valueOf req key ask)
     else match ask with
       | .blockWrite _ _ false => true
       | _ => s.writeFits key (s.valueOf req key ask))

/-! ### Load and storage (checks 10 and 11) -/

/-- Requests that wait on a path. -/
def State.waitingOn (s : State) (path : Path) : Nat := (s.mgmt.deferred.filter fun d => d.req.path == path).length

/-- The dictionary can take the request. -/
def State.roomFor (s : State) (req : Req) (key : Nat) (d : Desc) (ask : DictAsk) : Bool :=
  decide (s.waitingOn req.path < 16) && !(ask.starts d && s.actionRuns key) && (ask.isRead || s.modes.activation.isNone)

/-- The value can be read from the parameter store. -/
def State.storeOk (s : State) (key : Nat) (ask : DictAsk) : Bool := !(ask.isRead && s.stored.lostValues.contains key)

/-! ### The judgement (R435) -/

/-- The status of the first check that fails, 0 where all pass. -/
def firstFailing : List (Bool × Nat) → Nat
  | [] => stOk
  | (ok, status) :: rest => if ok then firstFailing rest else status

/-- The status of a request, apart from the session's own check of tag and counter. -/
def State.judge (s : State) (req : Req) (idx sub : Nat) (ask : DictAsk) : Nat :=
  let key := idx * 256 + sub
  if req.session = 0 ∧ onLink req.path ∧ !(s.openRead key ask) then stAuthRequired
  else if (highestSub idx).isNone then stNoIndex
  else if 256 ≤ sub then stNoSubindex
  else match describe key with
    | none => stNoSubindex
    | some d => firstFailing [
        (permits key d ask, stAccessDenied),
        (decide (needs key d ask ≤ s.levelOf req), if req.session = 0 then stAuthRequired else stAccessDenied),
        (s.lengthOk req key d ask, stTypeMismatch),
        (s.rangeOk req key d ask, stOutOfRange),
        (s.stateOk req key d ask, stStateConflict),
        (s.roomFor req key d ask, stBusy),
        (s.storeOk key ask, stStorageFailure)]

end Sys2Proof.Machine
end

