-- ==== Sys2Proof/Machine/Windows.lean ====
section
/-! DEFINITION. The commands that reach the device-managed windows: WINDOW_ACCESS, the group commands, the coordination cells,
DISCARD, the user counter window, and the lines of a DMA channel; with the instants that follow them: COMMIT_INSTANT,
GROUP_COMMAND_FINISH, DISCARD_INSTANT, UNMAPPER_DONE, and the two flush phases (R54 to R65, R69, R105 to R142, R167, R168,
R505, R506, R510). -/

namespace Sys2Proof.Machine

/-- The window DPAs: 0x0400_0000_0000 to 0x0400_4FFF_FFFF. -/
def inWindows (dpa : Nat) : Bool := decide (0x040000000000 ≤ dpa) && decide (dpa < 0x040050000000)

/-- WINDOW_ACCESS. A DPA of the data range is no window. -/
def execWindowAccess (p : Port) (tag dpa : Nat) (op : WindowOp) (s : State) : Host.Outcome State Fault Refusal :=
  if inWindows dpa then
    match op with
    | .read => .next (windowRead p tag (dpa / 64 * 64) s)
    | .write be data poison => .next (windowWrite p tag (dpa / 64 * 64) be data poison s)
  else if dpa < 0x040000000000 then .next s
  else .fault .outsideDpa

/-! ### Write groups -/

/-- GROUP_CONTROL_READ (R57). -/
def execGroupControlRead (p : Port) (tag : Nat) (g : Fin 262144) (s : State) : Host.Outcome State Fault Refusal :=
  .next (windowRead p tag (groupDpa g.val) s)

/-- OPEN (R120). -/
def execOpenGroup (p : Port) (tag : Nat) (g : Fin 262144) (a b : Option Word) (s : State) : Host.Outcome State Fault Refusal :=
  .next (groupCommandWrite p tag g.val codeOpen a b s)

/-- BIND (R125). -/
def execBindGroup (p : Port) (tag : Nat) (g : Fin 262144) (a b : Option Word) (s : State) : Host.Outcome State Fault Refusal :=
  .next (groupCommandWrite p tag g.val codeBind a b s)

/-- COMMIT (R131). -/
def execCommitGroup (p : Port) (tag : Nat) (g : Fin 262144) (a b : Option Word) (s : State) :
    Host.Outcome State Fault Refusal :=
  .next (groupCommandWrite p tag g.val codeCommit a b s)

/-- ABORT (R120). -/
def execAbortGroup (p : Port) (tag : Nat) (g : Fin 262144) (a b : Option Word) (s : State) : Host.Outcome State Fault Refusal :=
  .next (groupCommandWrite p tag g.val codeAbort a b s)

/-- RELEASE (R120). -/
def execReleaseGroup (p : Port) (tag : Nat) (g : Fin 262144) (a b : Option Word) (s : State) :
    Host.Outcome State Fault Refusal :=
  .next (groupCommandWrite p tag g.val codeRelease a b s)

/-- UNASSIGNED_GROUP_COMMAND (R115): any other code; an assigned code is that command. -/
def execUnassignedGroupCommand (p : Port) (tag : Nat) (g : Fin 262144) (code : Byte) (a b : Option Word) (s : State) :
    Host.Outcome State Fault Refusal :=
  .next (groupCommandWrite p tag g.val code.toNat a b s)

/-- The modes in which the group engine runs: where the data paths run, and until a curtain's commit point and in HALT for the
commands accepted before (R27, R32). -/
def State.groupsRun (s : State) : Bool := s.dataPath || s.mode == modeHalt || (s.mode == modeSave && !s.pastCommit)

/-- COMMIT_INSTANT of the group's running COMMIT (R131). -/
def execCommitInstant (g : Fin 262144) (s : State) : Host.Outcome State Fault Refusal :=
  if s.groupsRun && s.commitReady g.val then .next (decideCommit g.val s) else .next s

/-- GROUP_COMMAND_FINISH of the group's running command (R119, R128): the stores and accesses it held back go on (R54, R124). -/
def execGroupCommandFinish (g : Fin 262144) (s : State) : Host.Outcome State Fault Refusal :=
  if s.groupsRun && s.canFinish g.val then .next (goOn .b (goOn .a (finishCommand g.val s))) else .next s

/-! ### Coordination cells -/

/-- RESERVE_READ (R105). -/
def execReserveRead (p : Port) (tag : Nat) (cell : Fin 16384) (s : State) : Host.Outcome State Fault Refusal :=
  .next (windowRead p tag (cellDpa 1 cell.val) s)

/-- CONDITIONAL_STORE (R106). -/
def execConditionalStore (p : Port) (tag : Nat) (cell : Fin 16384) (be : ByteEnables) (data : Line) (s : State) :
    Host.Outcome State Fault Refusal :=
  .next (windowWrite p tag (cellDpa 2 cell.val) be data false s)

/-- PLAIN_CELL_STORE (R107, R111). -/
def execPlainCellStore (p : Port) (tag : Nat) (cell : Fin 16384) (be : ByteEnables) (data : Line) (s : State) :
    Host.Outcome State Fault Refusal :=
  .next (windowWrite p tag (cellDpa 0 cell.val) be data false s)

/-- RESULT_READ (R58). -/
def execResultRead (p : Port) (tag : Nat) (cell : Fin 16384) (s : State) : Host.Outcome State Fault Refusal :=
  .next (windowRead p tag (cellDpa 3 cell.val) s)

/-! ### Discards -/

/-- DISCARD: a write of bit 0 of discard word 2, with the start and the length that it carries (R61). -/
def execDiscard (p : Port) (tag : Nat) (start length : Option Word) (s : State) : Host.Outcome State Fault Refusal :=
  .next (windowWrite p tag (portPageDpa p 0x0040)
    (enablesOf ((if start.isSome then [0] else []) ++ (if length.isSome then [1] else []) ++ [2]))
    (lineOfWords [start.getD 0, length.getD 0, 1]) false s)

/-- DISCARD_INSTANT of a port's running discard: it takes a free pending discard entry; with all 16 pending it waits, and while
unprotected for the journal records before its own (R15, R167, R168). -/
def execDiscardInstant (p : Port) (s : State) : Host.Outcome State Fault Refusal :=
  if s.groupsRun && s.discardReady p then
    match s.freeDiscardEntry with
    | some e => .next (finishDiscard p e s)
    | none => .next s
  else .next s

/-- UNMAPPER_DONE of a pending discard entry (R168). -/
def execUnmapperDone (entry : Nat) (s : State) : Host.Outcome State Fault Refusal :=
  if s.dataPath then .next (unmap entry s) else .next s

/-! ### User counters and flushes -/

/-- USER_COUNTER_WINDOW_READ (R64). -/
def execUserCounterWindowRead (p : Port) (tag : Nat) (lineIndex : Fin 64) (s : State) : Host.Outcome State Fault Refusal :=
  .next (windowRead p tag (0x040030000000 + 64 * lineIndex.val) s)

/-- The port's queue drains as far as the staging array has room: a flush is no trigger of R90, and leaves a store that a group command
holds back to the continuous drain. -/
def flushQueue (p : Port) (s : State) : State :=
  if s.stagingFull then s else drainLoop (s.port p).queue.length p s.nextSeq s

/-- A port with a link answers a flush, except in HALT. -/
def State.flushOpen (s : State) (p : Port) : Bool := (s.linkState p == 2 || s.linkState p == 3) && !(s.port p).silent

/-- A flush phase at a port: the queue drains as far as it can, and the phase is complete at once or waits (R69). -/
def flush (p : Port) (phase : Nat) (s : State) : State :=
  serveFlushes p ((flushQueue p s).modPort p fun q => { q with flushes := q.flushes ++ [(phase, s.nextSeq)] })

/-- GLOBAL_PERSISTENT_FLUSH_PHASE_1: complete once the port's queue has drained (R69). -/
def execGlobalPersistentFlushPhase1 (p : Port) (s : State) : Host.Outcome State Fault Refusal :=
  if s.flushOpen p then .next (flush p 1 s) else .next s

/-- GLOBAL_PERSISTENT_FLUSH_PHASE_2: complete once every store of the port that received Cmp is visible; source k = 11 (R69,
R474). -/
def execGlobalPersistentFlushPhase2 (p : Port) (s : State) : Host.Outcome State Fault Refusal :=
  if s.flushOpen p then .next (flush p 2 s) else .next s

/-- The phase 2 duration that a port's GPF DVSEC reports, in µs (R69). -/
def gpfPhase2Duration : Nat := 100

/-! ### DMA lines -/

/-- DMA_DESCRIPTOR_WRITE (R505). -/
def execDmaDescriptorWrite (p : Port) (tag : Nat) (ch : Fin 16) (be : ByteEnables) (data : Line) (s : State) :
    Host.Outcome State Fault Refusal :=
  .next (windowWrite p tag (dmaDpa ch.val 0x000) be data false s)

/-- DMA_START: command 1 in word 0 of the control line (R506). -/
def execDmaStart (p : Port) (tag : Nat) (ch : Fin 16) (s : State) : Host.Outcome State Fault Refusal :=
  .next (windowWrite p tag (dmaDpa ch.val 0x080) (enablesOf [0]) (lineOfWords [1]) false s)

/-- DMA_ABORT: command 2 (R510). -/
def execDmaAbort (p : Port) (tag : Nat) (ch : Fin 16) (s : State) : Host.Outcome State Fault Refusal :=
  .next (windowWrite p tag (dmaDpa ch.val 0x080) (enablesOf [0]) (lineOfWords [2]) false s)

end Sys2Proof.Machine
end

