-- ==== Sys2Proof/Machine/Ports.lean ====
section
/-! DEFINITION. The host links: HDM_DECODER_COMMIT, PORT_DETECT, LINK_UP, LINK_TRAINING_FAILED, PORT_EXCEPTION, PERST,
SURPRISE_LINK_LOSS and VIRAL_RECEIVED (R45 to R53, R80, R81, R90, R474, R531). PORT_ENABLE_WRITE is a dictionary write. -/

namespace Sys2Proof.Machine

/-! ### Decoders -/

/-- A decoder's implied range can be committed (R52). -/
def decoderOk (ways base size : Nat) : Bool :=
  ways == 1 && size % 0x10000000 == 0 && decide (base + size ≤ 0x040050000000) &&
    (size == 0 || decide (base + size ≤ 0x040000000000) ||
      (decide (0x040000000000 ≤ base) && (base + size - 1) / 0x10000000 == base / 0x10000000))

/-- A port answers CXL.io: its link is up. -/
def State.ioOpen (s : State) (p : Port) : Bool := s.linkState p == 2 || s.linkState p == 3

/-- HDM_DECODER_COMMIT: committed, or refused with its Error Not Committed bit and source k = 8 (R52). DESIGN CHOICE (log 152): a refused
commit takes away the range that the same decoder had committed before; the rule does not say what becomes of it. -/
def execHdmDecoderCommit (p : Port) (n : Fin 8) (ways dpaBase size : Nat) (s : State) : Host.Outcome State Fault Refusal :=
  if !s.ioOpen p then .next s
  else if decoderOk ways dpaBase size then
    .next ((s.modPort p fun q => { q with
      decoders := tput n.val { base := dpaBase, size := size } q.decoders,
      decoderErrors := q.decoderErrors.filter (· != n.val) }).setBit (p.key 0x07) n.val)
  else
    let s := (s.modPort p fun q => { q with
      decoders := tdel n.val q.decoders, decoderErrors := insertNew n.val q.decoderErrors }).clearBit (p.key 0x07) n.val
    .next (raise (portSource p 8) s)

/-! ### Training -/

/-- The modes in which links train: from the end of step 2 of the restore timeline on (R531), in RISE too while MR_N holds RESTORE back
(R389). -/
def State.linksRun (s : State) : Bool :=
  s.dataPath || s.mode == modeHalt || s.mode == modeDoze || (s.mode == modeRestore && decide (2 ≤ s.modes.restoreStep)) ||
    (s.mode == modeRise && s.pow.risen)

/-- The maximum-rate entry of a port as a training takes it (R82). -/
def State.rateEntry (s : State) (p : Port) : Nat := s.get (0x300102 + p.code)

/-- PORT_DETECT: an enabled port that PERST does not hold and that has not used up its retries leaves state 0 (R47, R531). Its maximum-rate
entry binds from here (R82). -/
def execPortDetect (p : Port) (s : State) : Host.Outcome State Fault Refusal :=
  if s.linksRun && s.portEnabled p && !(s.port p).perst && !(s.port p).heldDown && s.linkState p == 0 then
    .next ((s.put (p.key 0x01) 1).modPort p fun q => { q with trainRate := s.rateEntry p })
  else .next s

/-- Nominal width of a port (R46). -/
def State.nominalWidth (s : State) (p : Port) : Nat := if p == .a && s.wide then 16 else 8

/-- A link can come up with a rate and a width: never above the port's maximum rate, at its nominal width or half of it (R47, R48). -/
def State.linkOk (s : State) (p : Port) (rate width : Nat) : Bool :=
  (rate == 1 || rate == 2) && decide (rate ≤ (s.port p).trainRate + 1) &&
    (width == s.nominalWidth p || 2 * width == s.nominalWidth p)

/-- LINK_UP: link state 2, and 3 at once when READY is high; narrower than nominal is a degraded link (R48, R531). -/
def execLinkUp (p : Port) (rate width : Nat) (s : State) : Host.Outcome State Fault Refusal :=
  if s.linkState p == 1 && s.linkOk p rate width then
    let s := ((s.put (p.key 0x02) rate).put (p.key 0x03) width).put (p.key 0x01) 2
    let s := s.modPort p fun q => { q with retries := 0 }
    let s := raiseIf (width != s.nominalWidth p) (portSource p 3) s
    .next (if s.ready p then raise (portSource p 0) (s.put (p.key 0x01) 3) else s)
  else .next s

/-- LINK_TRAINING_FAILED: source k = 2 at each failed attempt; the next one is a training of its own (R82); after the last retry the port
stays down (R47). -/
def execLinkTrainingFailed (p : Port) (s : State) : Host.Outcome State Fault Refusal :=
  if s.linkState p == 1 then
    let n := (s.port p).retries
    if n < s.get 0x300106 then
      .next (raise (portSource p 2) (s.modPort p fun q => { q with retries := n + 1, trainRate := s.rateEntry p }))
    else
      .next (raise (portSource p 2) ((s.modPort p fun q => { q with heldDown := true }).put (p.key 0x01) 0))
  else .next s

/-! ### Exceptions -/

/-- A port goes into containment: link state 4, source k = 4, and its port exception (R45, R82). -/
def contain (p : Port) (s : State) : State :=
  let s := raise (portSource p 4) (portException p 2 s)
  forgetRequests p ((s.modPort p fun q => { q with contained := true }).put (p.key 0x01) 4)

/-- PORT_EXCEPTION with a cause of 0x3010.06; containment also contains the port. A port that is off has none. -/
def execPortException (p : Port) (cause : Nat) (s : State) : Host.Outcome State Fault Refusal :=
  if s.portEnabled p && s.vcoreOn && decide (1 ≤ cause) && decide (cause ≤ 7) then
    if cause = 2 then .next (contain p s) else .next (portException p cause s)
  else .next s

/-- What PERST resets of its port: link, transaction layer, configuration space, decoders, MSI-X table and event logs (R81). DESIGN CHOICE
(log 153): the event interrupt policy of the logs is reset with them; the rule does not name it. -/
def resetPort (p : Port) (s : State) : State :=
  (s.modPort p fun q => { q with
    decoders := [], decoderErrors := [], heldMsi := [], logs := [], policy := [], config := [], msixTable := [], retries := 0, heldDown := false,
    contained := false }).put (p.key 0x07) 0

/-- PERST of a port: its assertion is a port exception, and its link falls after the drain (R81). A disabled port, and Port B in wide
mode, do not respond. -/
def execPerst (p : Port) (asserted : Bool) (s : State) : Host.Outcome State Fault Refusal :=
  let s' := s.modPort p fun q => { q with perst := asserted }
  if asserted && !(s.port p).perst && s.portEnabled p && s.vcoreOn then
    .next (raise (portSource p 5) (resetPort p (dropLink p (portException p 3 s'))))
  else .next s'

/-- SURPRISE_LINK_LOSS: a link error, then the link is down (R90, R474). -/
def execSurpriseLinkLoss (p : Port) (s : State) : Host.Outcome State Fault Refusal :=
  if s.linkState p == 2 || s.linkState p == 3 || s.linkState p == 4 then
    .next (dropLink p (portException p 1 s))
  else .next s

/-- VIRAL_RECEIVED puts the port into containment (R45). -/
def execViralReceived (p : Port) (s : State) : Host.Outcome State Fault Refusal :=
  if s.ioOpen p then .next (contain p (raise (portSource p 7) s)) else .next s

end Sys2Proof.Machine
end

