-- ==== Sys2Proof/Machine/DictOps.lean ====
section
/-! DEFINITION. What the entries of the dictionary do when they are written, read with RC access, or invoked as actions, and the one way in
which every request is served: path, reduced service, session, judgement, change record, effect and response (R431, R435 to R448, R460, R467,
R468). -/

namespace Sys2Proof.Machine

/-! ### Entries whose write does more than set the value -/

/-- The key slots' levels, and the key of a level (R441). -/
def State.levelKey (s : State) (level : Nat) : Option (List Byte) :=
  match tfind level s.mgmt.levelKeys with
  | some k => some k
  | none => if level = 3 then some Config.custodianKey else none

/-- A port is enabled or disabled (R50, R79, R47). A disabled port's link falls once the drain of its exception has ended. -/
def enablePort (p : Port) (on : Bool) (s : State) : State :=
  let key := 0x300104 + p.code
  if (s.get key == 1) == on then s
  else if on then
    let s := if (s.port p).closing then dropLink p s else s
    let s := (s.put key 1).modPort p fun q => { q with retries := 0, heldDown := false }
    if s.serving || s.mode == modeService || s.mode == modeDoze ||
        (s.mode == modeRestore && decide (11 ≤ s.modes.restoreStep) && s.integ.halt.isNone) then raiseReady p s else s
  else
    let up := s.linkState p == 2 || s.linkState p == 3
    let s := if up then portException p 6 s else s
    (closeDrained p ((dropReady p s).modPort p fun q => { q with closing := true })).put key 0

/-- A change of a port's configuration ends its stay down (R47). -/
def freePort (p : Port) (s : State) : State := s.modPort p fun q => { q with retries := 0, heldDown := false }

/-- The time is set (R146): `source` is 1 by mailbox or dictionary, 2 over the field link. -/
def setTime (v source : Nat) (s : State) : State :=
  let s := journalPut (.timeSet (s.deviceTime % 2 ^ 64) v) s
  State.put { s with deviceTime := v } 0x405002 source

/-- The policy profile changes (R192). -/
def setProfile (v : Nat) (s : State) : State :=
  let s := s.put 0x401001 v
  if s.get 0x401002 = v then s else raise 92 (s.put 0x401002 v)

/-- A region's entry is written (R187 to R189). -/
def writeRegion (r sub v : Nat) (s : State) : State :=
  let old := s.get (regionKey r sub)
  let s := s.put (regionKey r sub) v
  if sub = 0x01 then
    if v = old then s else if v = 1 then bringOnline r s else setRegionState r 0 s
  else if sub = 0x04 then
    if !s.regionEnabled r || s.regionOffline r then s
    else if v = 1 then (if old = 1 then s else prepare r s)
    else if s.get (regionKey r 0x0C) = 2 then setRegionState r 1 (abandonPreparation r s)
    else s
  else s

/-- A counter's select is written: its count and its sticky bit are cleared (R495). -/
def writeSelect (key v : Nat) (s : State) : State := (s.put (counterKey (selectNumber key)) 0).put key v

/-- A level key is set or emptied, and the level's other sessions end (R445, R446). -/
def writeLevelKey (req : Req) (level : Nat) (v : List Byte) (s : State) : State :=
  let keys := if v.all (· == 0) then tdel level s.mgmt.levelKeys
    else match s.sessionOf req with
      | none => s.mgmt.levelKeys
      | some x => match Config.aesUnwrap x.wrapKey v with
        | some k => tput level k s.mgmt.levelKeys
        | none => s.mgmt.levelKeys
  endSessions (fun x => x.level == level && x.number != req.session) { s with mgmt := { s.mgmt with levelKeys := keys } }

/-- A numeric entry takes a value, with what its owning chapter adds. `stamp` is that of the change record; `seen`, of use to a latch alone, how
often its source had occurred before it. -/
def putNumber (req : Req) (key v stamp seen : Nat) (s : State) : State :=
  let sub := key % 256
  if key = 0x402007 then updateProtection (s.put key v)
  else if key = 0x300104 then enablePort .a (v == 1) s
  else if key = 0x300105 then enablePort .b (v == 1) s
  else if key = 0x300102 then freePort .a (s.put key v)
  else if key = 0x300103 then freePort .b (s.put key v)
  else if key = 0x300101 ∨ key = 0x300106 then freePort .b (freePort .a (s.put key v))
  else if key = 0x405001 then setTime v (if onLink req.path then 2 else 1) s
  else if key = 0x401001 then setProfile v s
  else if key = 0x61E006 ∨ key = 0x61E007 then noteHealth (s.put key v)
  else if key = 0x614003 ∨ key = 0x614004 then notePool (s.put key v)
  else if key = 0x500102 then checkPool (s.put key v)
  else if key = 0xB04001 then flushQueues v s
  else if 0x140001 ≤ key ∧ key ≤ 0x140008 then State.put { s with mgmt := { s.mgmt with beaconLost := false } } key v
  else if 0xB10000 ≤ key ∧ key < 0xB10400 then (if v = 0 then s else s.put key (counterCount (s.get key)))
  else if 0xB11000 ≤ key ∧ key < 0xB11400 then writeSelect key v s
  else if 0xE00000 ≤ key ∧ key < 0xE12000 ∧ sub = 0x01 then
    if v = 0 then s else clearLatch (key / 256 - 0xE000) seen stamp s
  else match regionOfKey key with
    | some (r, sub) => writeRegion r sub v s
    | none => s.put key v

/-- An entry takes a value. A value whose copies were lost is there again (R356). -/
def putValue (req : Req) (key stamp seen : Nat) (v : List Byte) (s : State) : State :=
  let s := { s with stored := { s.stored with lostValues := s.stored.lostValues.filter (· != key) } }
  match describe key with
  | none => s
  | some d =>
    if isLevelKey key then writeLevelKey req (key - 0x111001) v s
    else if d.ty.isBytes then s.putBytes key v
    else putNumber req key (bytesToNat v) stamp seen s

/-! ### RC entries (R10) -/

/-- A read of an RC entry clears it; that of the oldest sample item takes the item (R502). -/
def clearRead (key : Nat) (s : State) : State :=
  match describe key with
  | none => s
  | some d =>
    if d.access ≠ .rc then s
    else if key = 0xB04005 then takeSample s
    else if d.ty.isBytes then s.putBytes key (defaultBytes key)
    else s.put key (defaultOf key)

/-! ### Set defaults (R439) -/

/-- The entries that the action leaves alone. The Enable of an offline region cannot be changed (R188). -/
def State.keepsValue (s : State) (key : Nat) : Bool :=
  (decide (0x111000 ≤ key) && decide (key < 0x111100)) || (decide (0x700100 ≤ key) && decide (key < 0x700200)) ||
    key == 0xD03001 || key == 0xD06008 || key == 0x300101 ||
    (match regionOfKey key with
     | some (r, sub) =>
       let x := s.regionPages r
       s.anyMapped x.1 x.2 || (sub == 0x01 && s.regionOffline r)
     | none => false)

/-- The persistent RW entries whose value is not their default, in the order in which set defaults changes them. DESIGN CHOICE (log 198): numbers
first, then byte strings, each in the order of its register list. -/
def State.changedEntries (s : State) : List Nat :=
  (s.dict.map (·.1) ++ s.octs.map (·.1)).filter fun key =>
    !s.keepsValue key && (match describe key with
      | some d => d.keep == .persistent && accessOf key d == .rw
      | none => false)

/-- The default of an entry as bytes. -/
def defaultValue (key : Nat) : List Byte :=
  match describe key with
  | none => []
  | some d => if d.ty.isBytes then defaultBytes key else natToBytes d.ty.size (defaultOf key)

def setDefaults (req : Req) (s : State) : State :=
  s.changedEntries.foldl (fun t key =>
    let old := t.valueBytes key
    let stamp := t.stampNow
    let new := defaultValue key
    putValue req key stamp (t.get (key + 1)) new (noteChange key 4 0 0 0 0 new.length old new t)) s

/-! ### Actions -/

/-- An action's work (R10): a long one reads BUSY until it ends. `stamp` is that of the change record; `env` what the environment supplies,
where a command carries it. -/
def startAction (key : Nat) (v : List Byte) (stamp : Nat) (env : DictEnv) (req : Req) (s : State) : State :=
  let n := bytesToNat v
  let s := setAction key stOk s
  if key = 0x501001 then forceAbort n 5 0 s
  else if key = 0x619007 then dieLeaves n 1 s
  else if key = 0x619008 then takeOffline n s
  else if key = 0x619009 then bringOnline n s
  else if key = 0x700201 then renewSlot n s
  else if key = 0x700202 then resume (n == 1) s
  else if key = 0x700203 then sanitizeNow s
  else if key = 0x801003 then saveErrors { s with stored := { s.stored with errors := [] } }
  else if key = 0x804006 then writeRaw s
  else if key = 0x804007 then
    match env.raw with
    | some (result, decoded) => readRaw result decoded s
    | none =>
      let k := s.freeNow % 3
      let result : CodeResult := if k = 0 then .clean else if k = 1 then .corrected ((drawn s).freeNow % 256) else .uncorrectable
      let s := drawn (drawn s)
      readRaw result (freeBytes 256 s) (drawn s)
  else if key = 0x201010 then retryRails s
  else if key = 0x203009 then setAction key stBusy { s with pow := { s.pow with cartridge := { s.pow.cartridge with testDue := true } } }
  else if key = 0x205002 then buttonCurtain s
  else if key = 0xD01001 then offRequest s
  else if key = 0xD01002 then onRequest s
  else if key = 0xD01003 then deviceReset 6 s
  else if key = 0xD02001 then startDoze (setAction key stBusy s)
  else if key = 0xD05001 then enterService s
  else if key = 0xD05002 then leaveService s
  else if key = 0xD06003 then
    let r := env.activation.getD ([ActivationResult.passes, .selfCheckFails, .signatureFails, .versionFails].getD (s.freeNow % 4) .passes)
    activateOnline r (setAction key stBusy (drawn s))
  else if key = 0x903003 then reAdmit n s
  else if key = 0x10000E then setDefaults req s
  else if key = 0x110007 then endAllSessions s
  else if key = 0xA00201 then clearRecorder n stamp s
  else if key = 0xC00201 then releaseChannel n s
  else s

/-! ### Effects (R435, R447) -/

/-- Path code of a change record: 4 where the responder serves (R447). -/
def State.changePath (s : State) (req : Req) : Nat := if s.responder then 4 else pathCode req.path

/-- The change record of a request that ends with OK. -/
def noteRequest (key kind : Nat) (req : Req) (old new : List Byte) (s : State) : State :=
  noteChange key kind (s.changePath req) (s.levelOf req) req.session (req.counter % 65536) new.length old
    (if isLevelKey key then [] else new) s

/-- An action starts: its record, its response, then its work. -/
def serveAction (req : Req) (idx sub : Nat) (ask : DictAsk) (v : List Byte) (env : DictEnv) (s : State) : State :=
  let key := idx * 256 + sub
  let stamp := s.stampNow
  let o := answerOf (s.replyKey req) req idx sub ask stOk EntryType.action.code [] (askFinal ask) s.reducedService
  startAction key v stamp env req (deliver req o (noteRequest key 2 req [] v s))

/-- A value is written at one instant: its record, its effect, its response. -/
def serveWrite (req : Req) (idx sub : Nat) (ask : DictAsk) (v : List Byte) (kind : Nat) (s : State) : State :=
  let key := idx * 256 + sub
  let stamp := s.stampNow
  let o := answerOf (s.replyKey req) req idx sub ask stOk kind [] (askFinal ask) s.reducedService
  deliver req o (putValue req key stamp (s.get (key + 1)) v (noteRequest key 1 req (s.valueBytes key) v s))

/-- The block write in progress of a request's path and session is replaced, or ends. -/
def setBlock (req : Req) (b : Option BlockWrite) (s : State) : State :=
  let others := s.mgmt.blockWrites.filter fun x => !(x.path == req.path && x.session == req.session)
  { s with mgmt := { s.mgmt with blockWrites := match b with
    | some x => others ++ [x]
    | none => others } }

/-- A request that has passed every check. -/
def serveOk (req : Req) (idx sub : Nat) (ask : DictAsk) (env : DictEnv) (s : State) : State :=
  let key := idx * 256 + sub
  match describe key with
  | none => s
  | some d =>
    let answer := fun (value : List Byte) (last : Bool) =>
      answerOf (s.replyKey req) req idx sub ask stOk d.ty.code value last s.reducedService
    match ask with
    | .read => deliver req (answer (s.answerBytes key) false) (clearRead key s)
    | .blockRead offset n =>
      let v := s.answerBytes key
      let last := decide (v.length ≤ offset + n)
      deliver req (answer ((v.drop offset).take n) last) (if last then clearRead key s else s)
    | .write v => if d.access = .act then serveAction req idx sub ask v env s else serveWrite req idx sub ask v d.ty.code s
    | .act v => serveAction req idx sub ask v env s
    | .blockWrite offset seg final =>
      match s.assembled req key offset seg with
      | none => s
      | some v =>
        if final && d.access == .act then serveAction req idx sub ask v env (setBlock req none s)
        else if final then serveWrite req idx sub ask v d.ty.code (setBlock req none s)
        else deliver req (answer [] false) (setBlock req (some { path := req.path, session := req.session, key := key, bytes := v }) s)

/-- A refused request changes nothing (R9) but for the count of R409, and a refused or foreign segment abandons the block write (R431). -/
def refuse (req : Req) (idx sub : Nat) (ask : DictAsk) (status : Nat) (s : State) : State :=
  let acts := match describe (idx * 256 + sub) with
    | some d => ask.starts d
    | none => false
  let s := if status == stStateConflict && acts then refusedByState s else s
  let s := match ask with
    | .blockWrite _ _ _ => setBlock req none s
    | _ => s
  endWith req idx sub ask status s

/-- The wake source of a request that the responder cannot serve: a UDX frame, or activity of the host link (R402). -/
def wakeSourceOf (req : Req) : Nat := if onLink req.path then 2 else 0

/-- A request at the head of the dictionary queue (R436). In DOZE one that waits for the wake starts it, where the wake mask permits. -/
def perform (req : Req) (idx sub : Nat) (ask : DictAsk) (env : DictEnv) (s : State) : State :=
  let status := s.judge req idx sub ask
  if status ≠ stOk then refuse req idx sub ask status s
  else match describe (idx * 256 + sub) with
    | none => s
    | some d =>
      if s.mustWait (idx * 256 + sub) d ask then
        if (s.get 0xD02003).testBit (wakeSourceOf req) then
          let item : Deferred := { req := req, idx := idx, sub := sub, ask := ask, env := env }
          wakeBy (wakeSourceOf req) { s with mgmt := { s.mgmt with deferred := s.mgmt.deferred ++ [item] } }
        else refuse req idx sub ask stStateConflict s
      else serveOk req idx sub ask env s

/-- The requests that waited are served after the wake, in order. One whose session has ended meanwhile ends with 0x0202 (R445). -/
def serveDeferred (s : State) : State :=
  s.mgmt.deferred.foldl (fun t d =>
    if d.req.session ≠ 0 ∧ (t.sessionOf d.req).isNone then endWith d.req d.idx d.sub d.ask stAuthRequired t
    else perform d.req d.idx d.sub d.ask d.env t) { s with mgmt := { s.mgmt with deferred := [] } }

/-! ### Sessions (R443) -/

/-- How many values the counter of a path takes. -/
def counterSpan (path : Path) : Nat := if onLink path then 2 ^ 32 else 2 ^ 16

/-- A request of a session: `want` is the tag it must carry, `refused` its end with a status, `go` what an accepted one does. -/
def inSession (req : Req) (want : List Byte → BitVec 128) (refused : Nat → State → State) (go : State → State) (s : State) : State :=
  match s.sessionOf req, req.tag with
  | some x, some tag =>
    if req.counter = x.counter ∧ x.lastTag = some tag then
      match x.lastReply with
      | some o => putSession { x with lastUse := s.clock } (emit o s)
      | none => putSession { x with lastUse := s.clock, repeats := x.repeats + 1 } s
    else if req.counter = (x.counter + 1) % counterSpan req.path ∧ tag = want x.tagKey then
      go (putSession { x with counter := req.counter, lastTag := some tag, lastReply := none, repeats := 0, lastUse := s.clock } s)
    else refused stRequestIntegrity s
  | _, _ => refused stAuthRequired s

/-- A refusal before the session has accepted a request: the kept response stays as it is. -/
def endUnkept (req : Req) (idx sub : Nat) (ask : DictAsk) (status : Nat) (s : State) : State :=
  let key := if status = stRequestIntegrity then s.replyKey req else none
  emit (answerOf key req idx sub ask status 0 [] false s.reducedService) s

/-! ### Paths (R46, R467) -/

/-- The field link carries frames: not in OFF, nor while its enable entry reads 0. -/
def State.linkRuns (s : State) : Bool := s.mode != modeOff && s.get 0x140008 == 1

/-- The oldest frame of a station leaves the receive queue as it is served (R464). -/
def dropFirst (mac : Nat) : List ReceivedFrame → List ReceivedFrame
  | [] => []
  | f :: t => if f.source = mac then t else f :: dropFirst mac t

/-- A request arrives on its path. On the field link it leaves the receive queue, and in reduced service takes one place of the bucket, or
is answered BUSY, or dropped. -/
def arrive (path : Path) (busy : State → State) (serve : State → State) (s : State) : State :=
  match path with
  | .mailbox p => if s.ioOpen p then serve s else s
  | .fieldLink mac =>
    if !s.linkRuns then s
    else
      let s := { s with mgmt := { s.mgmt with received := dropFirst mac s.mgmt.received } }
      if !s.reducedService then serve (s.bump 0x140106)
      else if 0 < s.mgmt.bucket then serve (State.bump { s with mgmt := { s.mgmt with bucket := s.mgmt.bucket - 1 } } 0x140106)
      else
        let s := s.bump 0x140107
        if 0 < s.mgmt.busyBucket then busy { s with mgmt := { s.mgmt with busyBucket := s.mgmt.busyBucket - 1 } } else s

/-- A dictionary request on a mailbox or on the field link. -/
def request (req : Req) (idx sub : Nat) (ask : DictAsk) (env : DictEnv) (s : State) : State :=
  arrive req.path (endUnkept req idx sub ask stBusy)
    (fun t =>
      if req.session = 0 then perform req idx sub ask env t
      else inSession req (fun key => requestTag key req idx sub ask) (endUnkept req idx sub ask) (perform req idx sub ask env) t) s

end Sys2Proof.Machine
end

