-- ==== Sys2Proof/Machine/Dictionary.lean ====
section
/-! DEFINITION. The commands that reach an entry through the dictionary: reads, writes and block transfers (R435, R460), and the writes and
actions that the operation table names by their entry. Each is one request; what the entry does stands in DictOps. -/

namespace Sys2Proof.Machine

/-! ### Any entry -/

/-- ENTRY_READ. -/
def execEntryRead (req : Req) (idx sub : Nat) (s : State) : Host.Outcome State Fault Refusal :=
  .next (request req idx sub .read {} s)

/-- RC_ENTRY_READ: the same request, which clears an RC entry (R10). -/
def execRcEntryRead (req : Req) (idx sub : Nat) (s : State) : Host.Outcome State Fault Refusal :=
  .next (request req idx sub .read {} s)

/-- ENTRY_WRITE. -/
def execEntryWrite (req : Req) (idx sub : Nat) (value : List Byte) (s : State) : Host.Outcome State Fault Refusal :=
  .next (request req idx sub (.write value) {} s)

/-- BLOCK_READ. -/
def execBlockRead (req : Req) (idx sub offset length : Nat) (s : State) : Host.Outcome State Fault Refusal :=
  .next (request req idx sub (.blockRead offset length) {} s)

/-- BLOCK_WRITE. -/
def execBlockWrite (req : Req) (idx sub offset : Nat) (segment : List Byte) (final : Bool) (s : State) : Host.Outcome State Fault Refusal :=
  .next (request req idx sub (.blockWrite offset segment final) {} s)

/-- SET_DEFAULTS, the action 0x1000.0E (R439). -/
def execSetDefaults (req : Req) (s : State) : Host.Outcome State Fault Refusal :=
  .next (request req 0x1000 0x0E (.act []) {} s)

/-! ### Protection, time, ports, regions, profile -/

/-- FORCE_UNPROTECTED_WRITE of 0x4020.07 (R26). -/
def execForceUnprotectedWrite (req : Req) (value : List Byte) (s : State) : Host.Outcome State Fault Refusal :=
  .next (request req 0x4020 0x07 (.write value) {} s)

/-- DEVICE_TIME_WRITE of 0x4050.01 (R146). -/
def execDeviceTimeWrite (req : Req) (value : List Byte) (s : State) : Host.Outcome State Fault Refusal :=
  .next (request req 0x4050 0x01 (.write value) {} s)

/-- PORT_ENABLE_WRITE of 0x3001.04 or .05 (R50). -/
def execPortEnableWrite (req : Req) (which : Port) (value : List Byte) (s : State) : Host.Outcome State Fault Refusal :=
  .next (request req 0x3001 (0x04 + which.code) (.write value) {} s)

/-- REGION_ATTRIBUTE_WRITE of an entry of 0x4100 to 0x413F (R188). -/
def execRegionAttributeWrite (req : Req) (region : Fin 64) (sub : Nat) (value : List Byte) (s : State) : Host.Outcome State Fault Refusal :=
  .next (request req (0x4100 + region.val) sub (.write value) {} s)

/-- REGION_CLASS_WRITE of a region's subindex 04 (R189). -/
def execRegionClassWrite (req : Req) (region : Fin 64) (value : List Byte) (s : State) : Host.Outcome State Fault Refusal :=
  .next (request req (0x4100 + region.val) 0x04 (.write value) {} s)

/-- PROMPT_PREPARATION_DONE: the region reads State 1, which pins its counter blocks (R189, R324). -/
def execPromptPreparationDone (region : Fin 64) (s : State) : Host.Outcome State Fault Refusal :=
  if s.prepared region.val then .next (pinRegion region.val (setRegionState region.val 1 s)) else .next s

/-- POLICY_PROFILE_WRITE of 0x4010.01 (R192). -/
def execPolicyProfileWrite (req : Req) (value : List Byte) (s : State) : Host.Outcome State Fault Refusal :=
  .next (request req 0x4010 0x01 (.write value) {} s)

/-! ### Groups, media, keys -/

/-- FORCE_ABORT, the action 0x5010.01 (R136, R142). -/
def execForceAbort (req : Req) (arg : List Byte) (s : State) : Host.Outcome State Fault Refusal :=
  .next (request req 0x5010 0x01 (.act arg) {} s)

/-- RETIRE_DIE, the action 0x6190.07 (R286). -/
def execRetireDie (req : Req) (arg : List Byte) (s : State) : Host.Outcome State Fault Refusal :=
  .next (request req 0x6190 0x07 (.act arg) {} s)

/-- REGION_OFFLINE, the action 0x6190.08 (R293). -/
def execRegionOffline (req : Req) (arg : List Byte) (s : State) : Host.Outcome State Fault Refusal :=
  .next (request req 0x6190 0x08 (.act arg) {} s)

/-- REGION_ONLINE, the action 0x6190.09 (R293). -/
def execRegionOnline (req : Req) (arg : List Byte) (s : State) : Host.Outcome State Fault Refusal :=
  .next (request req 0x6190 0x09 (.act arg) {} s)

/-- RENEW_KEY_SLOT, the action 0x7002.01 (R334). -/
def execRenewKeySlot (req : Req) (arg : List Byte) (s : State) : Host.Outcome State Fault Refusal :=
  .next (request req 0x7002 0x01 (.act arg) {} s)

/-- RESUME_FROM_HALT, the action 0x7002.02 (R332). -/
def execResumeFromHalt (req : Req) (arg : List Byte) (s : State) : Host.Outcome State Fault Refusal :=
  .next (request req 0x7002 0x02 (.act arg) {} s)

/-! ### Stored-data protection -/

/-- CLEAR_TABLE, the action 0x8010.03 (R348). -/
def execClearTable (req : Req) (s : State) : Host.Outcome State Fault Refusal :=
  .next (request req 0x8010 0x03 (.act []) {} s)

/-- WRITE_RAW, the action 0x8040.06 (R351). -/
def execWriteRaw (req : Req) (s : State) : Host.Outcome State Fault Refusal :=
  .next (request req 0x8040 0x06 (.act []) {} s)

/-- READ_RAW, the action 0x8040.07, with what the decoder makes of the word (R351). -/
def execReadRaw (req : Req) (result : CodeResult) (decoded : List Byte) (s : State) : Host.Outcome State Fault Refusal :=
  .next (request req 0x8040 0x07 (.act []) { raw := some (result, decoded) } s)

/-! ### Supervisor and modes -/

/-- RETRY_RAILS, the action 0x2010.10 (R367). -/
def execRetryRails (req : Req) (s : State) : Host.Outcome State Fault Refusal :=
  .next (request req 0x2010 0x10 (.act []) {} s)

/-- RUN_YO_YO_TEST, the action 0x2030.09 (R376). -/
def execRunYoYoTest (req : Req) (s : State) : Host.Outcome State Fault Refusal :=
  .next (request req 0x2030 0x09 (.act []) {} s)

/-- SERVICE_RELEASE, the action 0x2050.02 (R388). -/
def execServiceRelease (req : Req) (s : State) : Host.Outcome State Fault Refusal :=
  .next (request req 0x2050 0x02 (.act []) {} s)

/-- OFF_REQUEST, the action 0xD010.01 (R396). -/
def execOffRequest (req : Req) (s : State) : Host.Outcome State Fault Refusal :=
  .next (request req 0xD010 0x01 (.act []) {} s)

/-- ON_REQUEST, the action 0xD010.02 (R397). -/
def execOnRequest (req : Req) (s : State) : Host.Outcome State Fault Refusal :=
  .next (request req 0xD010 0x02 (.act []) {} s)

/-- DEVICE_RESET, the action 0xD010.03 (R405). -/
def execDeviceReset (req : Req) (s : State) : Host.Outcome State Fault Refusal :=
  .next (request req 0xD010 0x03 (.act []) {} s)

/-- ENTER_DOZE, the action 0xD020.01 (R398). -/
def execEnterDoze (req : Req) (s : State) : Host.Outcome State Fault Refusal :=
  .next (request req 0xD020 0x01 (.act []) {} s)

/-- WAKE_DELAY: the wake ends in the serving mode of the band, and the requests that waited are served (R404, R437). -/
def execWakeDelay (s : State) : Host.Outcome State Fault Refusal :=
  if s.mode = modeDoze ∧ s.modes.waking then .next (serveDeferred (wakeUp s)) else .next s

/-- ENTER_SERVICE, the action 0xD050.01 (R410). -/
def execEnterService (req : Req) (s : State) : Host.Outcome State Fault Refusal :=
  .next (request req 0xD050 0x01 (.act []) {} s)

/-- LEAVE_SERVICE, the action 0xD050.02 (R410). -/
def execLeaveService (req : Req) (s : State) : Host.Outcome State Fault Refusal :=
  .next (request req 0xD050 0x02 (.act []) {} s)

/-- ACTIVATE_ONLINE, the action 0xD060.03, with what the image's verification and self-check find (R411). -/
def execActivateOnline (req : Req) (result : ActivationResult) (s : State) : Host.Outcome State Fault Refusal :=
  .next (request req 0xD060 0x03 (.act []) { activation := some result } s)

/-- RE_ADMIT_SENSOR, the action 0x9030.03 (R420). -/
def execReAdmitSensor (req : Req) (arg : List Byte) (s : State) : Host.Outcome State Fault Refusal :=
  .next (request req 0x9030 0x03 (.act arg) {} s)

/-! ### Events, counters, queues, DMA -/

/-- LATCH_CLEAR of a source's subindex 01 (R480). -/
def execLatchClear (req : Req) (source : Fin 288) (value : List Byte) (s : State) : Host.Outcome State Fault Refusal :=
  .next (request req (0xE000 + source.val) 0x01 (.write value) {} s)

/-- CLEAR_RECORDER, the action 0xA002.01 (R490). -/
def execClearRecorder (req : Req) (arg : List Byte) (s : State) : Host.Outcome State Fault Refusal :=
  .next (request req 0xA002 0x01 (.act arg) {} s)

/-- COUNTER_SELECT_WRITE of counter n (R495). -/
def execCounterSelectWrite (req : Req) (n : Fin 512) (value : List Byte) (s : State) : Host.Outcome State Fault Refusal :=
  .next (request req (0xB110 + n.val / 128) (n.val % 128 + 1) (.write value) {} s)

/-- COUNTER_STICKY_CLEAR of counter n (R496). -/
def execCounterStickyClear (req : Req) (n : Fin 512) (value : List Byte) (s : State) : Host.Outcome State Fault Refusal :=
  .next (request req (0xB100 + n.val / 128) (n.val % 128 + 1) (.write value) {} s)

/-- QUEUE_FLUSH, a write of 0xB040.01 (R504). -/
def execQueueFlush (req : Req) (value : List Byte) (s : State) : Host.Outcome State Fault Refusal :=
  .next (request req 0xB040 0x01 (.write value) {} s)

/-- OLDEST_SAMPLE_ITEM_READ, a read of 0xB040.05 (R502). -/
def execOldestSampleItemRead (req : Req) (s : State) : Host.Outcome State Fault Refusal :=
  .next (request req 0xB040 0x05 .read {} s)

/-- RELEASE_CHANNEL, the action 0xC002.01 (R511). -/
def execReleaseChannel (req : Req) (arg : List Byte) (s : State) : Host.Outcome State Fault Refusal :=
  .next (request req 0xC002 0x01 (.act arg) {} s)

/-- FIELD_LINK_CONFIG_WRITE of an entry of 0x1400: the PHY and the reconciliation sublayer restart (R455). -/
def execFieldLinkConfigWrite (req : Req) (sub : Nat) (value : List Byte) (s : State) : Host.Outcome State Fault Refusal :=
  .next (request req 0x1400 sub (.write value) {} s)

end Sys2Proof.Machine
end

