-- ==== Sys2Proof/Machine/Drift.lean ====
section
/-! DEFINITION. The age meter, patrol, retests, demotion, dies and channels: AGE_METER_REPROGRAM, PRIORITY_PASS, PATROL_VISIT,
OUT_OF_TURN_VISIT, UNIT_RETEST, DEMOTION, FLOOR_RESTORE_MOVE, DIE_RETIRING, DIE_FAILED, CHANNEL_RETIRED, REBUILD_COMPLETE and
STRIPE_WITHDRAWN (R274 to R292). -/

namespace Sys2Proof.Machine

/-- AGE_METER_REPROGRAM: the oldest bank of every die in service is programmed (R274). DESIGN CHOICE (log 160): the program runs as a job of
the die's unit 0, so it occupies that unit's media region and cluster, and a failure of it is a lasting fault of that unit. -/
def execAgeMeterReprogram (s : State) : Host.Outcome State Fault Refusal :=
  if s.serving then
    let dies := (List.range 64).filter fun d => s.dieState d == 0 && !(s.med.jobs.any (·.owner == .ageMeter d)) &&
      !(s.med.ops.any (·.owner == .ageMeter d))
    let jobs := dies.zipIdx.map fun (d, i) =>
      ({ id := s.med.nextId + i, unit := d * 16384, kind := .ml, owner := .ageMeter d } : Job)
    .next { s with med := { s.med with jobs := s.med.jobs ++ jobs, nextId := s.med.nextId + jobs.length } }
  else .next s

/-- Insert a unit in ascending order of its age at first program. -/
def insertByAge (s : State) (u : Nat) : List Nat → List Nat
  | [] => [u]
  | x :: t => if (s.unit u).firstAge < (s.unit x).firstAge then u :: x :: t else x :: insertByAge s u t

/-- Allocated ML units: those of the stripes that are open or closed. -/
def State.allocatedUnits (s : State) : List Nat :=
  ((s.med.units.filter fun e => (e.2.state == 1 || e.2.state == 2) && e.2.cellMode != 1).map (·.1))

/-- PRIORITY_PASS (R276). -/
def execPriorityPass (s : State) : Host.Outcome State Fault Refusal :=
  if s.med.passDue && s.dataPath then
    let units := s.allocatedUnits.foldl (fun l u => insertByAge s u l) []
    let s := { s with med := { s.med with passDue := false, priorityPass := units } }
    .next (judgeEpisode (s.put 0x617006 (if units.isEmpty then 0 else 1)))
  else .next s

/-- Whether the patrol may visit a unit: allocated, and readable by background reads, which wait for an operation held to completion
(R201). -/
def State.visitable (s : State) (u : Nat) : Bool :=
  let r := s.unit u
  s.dataPath && (r.state == 1 || r.state == 2) && decide (s.dieState (dieOfUnit u) ≤ 1) && !s.regionHeld (regionOfUnit u)

/-- Units that the priority pass cannot visit any more leave it: reset since, or of a die that has failed or retired. It ends with its last
unit (R276). -/
def prunePass (s : State) : State :=
  let stays := s.med.priorityPass.filter fun u =>
    ((s.unit u).state == 1 || (s.unit u).state == 2) && decide (s.dieState (dieOfUnit u) ≤ 1)
  if stays == s.med.priorityPass then s
  else
    let t := { s with med := { s.med with priorityPass := stays } }
    if stays.isEmpty then judgeEpisode (t.put 0x617006 0) else t

/-- PATROL_VISIT in the ordinary schedule; during the priority pass, of the unit that comes next in it (R276, R278). -/
def execPatrolVisit (unit : Fin 1048576) (report : PatrolReport) (s : State) : Host.Outcome State Fault Refusal :=
  let s := prunePass s
  let turn := match s.med.priorityPass with
    | [] => !s.med.passDue
    | u :: _ => u == unit.val
  if s.visitable unit.val && turn then .next (visit unit.val report s) else .next s

/-- OUT_OF_TURN_VISIT: the disturb count has reached its threshold, the unit is Suspect, or the last off interval exceeded 24
equivalent hours (R281). -/
def execOutOfTurnVisit (unit : Fin 1048576) (report : PatrolReport) (s : State) : Host.Outcome State Fault Refusal :=
  let r := s.unit unit.val
  let due := decide (s.get 0x617002 ≤ s.disturbCount unit.val) || r.state == 2 || decide (86400000 < s.get 0x616003)
  if s.visitable unit.val && due then .next (visit unit.val report s) else .next s

/-- UNIT_RETEST of a Suspect unit whose stripe has been reset (R282). -/
def execUnitRetest (unit : Fin 1048576) (pass : Bool) (s : State) : Host.Outcome State Fault Refusal :=
  let u := unit.val
  let st := s.stripe (stripeOfUnit u)
  if (s.unit u).state = 2 ∧ (st.role = .free ∨ st.role = .slOnly) ∧ !st.needsReset then
    .next (if pass then setUnitState u 1 s else lastingFault u s)
  else .next s

/-- DEMOTION of a stripe (R283): its data is collected with cause 4, and its reset lowers its mode. -/
def execDemotion (stripe : Fin 65536) (s : State) : Host.Outcome State Fault Refusal :=
  let st := stripe.val
  let r := s.stripe st
  if s.demotes st && r.role.isMl && !r.needsReset && decide (0 < s.tokenBudget) then
    let s := match r.role with
      | .openDest _ => s.setStripe st { r with role := .closed }
      | _ => s
    .next (collect st 4 4 s)
  else .next s

/-- FLOOR_RESTORE_MOVE of a page placed under its floor, once an eligible stripe is free (R284). -/
def execFloorRestoreMove (page : Nat) (s : State) : Host.Outcome State Fault Refusal :=
  match tfind page s.med.underFloor with
  | none => .next s
  | some _ =>
    let floor := s.floorOf page
    if ((s.openDest 3 floor).isSome || (s.pickStripe true floor).isSome) && s.movable page && decide (0 < s.tokenBudget) then
      let t := if s.pageValue page = unmapped then s else writeMoves 2 false 3 3 false [s.gather false page] s
      let placed := s.pageValue page == unmapped || t.med.stripePages.any fun p => p.moves.any (·.page == page)
      .next (if placed then { t with med := { t.med with underFloor := tdel page t.med.underFloor } } else t)
    else .next s

/-- DIE_RETIRING: the die's retired units or its suspend overruns have reached their limit (R286). -/
def execDieRetiring (die : Fin 64) (s : State) : Host.Outcome State Fault Refusal :=
  let d := die.val
  if s.dieState d = 0 ∧ (s.get 0x619001 ≤ s.get (dieKey d 0x02) ∨ s.get 0x619002 ≤ s.dieOverruns d) then
    .next (dieLeaves d 1 s)
  else .next s

/-- DIE_FAILED (R286). -/
def execDieFailed (die : Fin 64) (s : State) : Host.Outcome State Fault Refusal :=
  if s.dieState die.val ≤ 1 then .next (dieLeaves die.val 2 s) else .next s

/-- CHANNEL_RETIRED: the transfer error limit, failed training, or two dies Retiring or Failed (R287). -/
def execChannelRetired (channel : Fin 16) (canTransfer failedTraining : Bool) (s : State) : Host.Outcome State Fault Refusal :=
  let c := channel.val
  let dies := (List.range 4).map fun i => 4 * c + i
  let bad := (dies.filter fun d => s.dieState d == 1 || s.dieState d == 2).length
  if !s.med.retiredChannels.contains c && (failedTraining || decide (s.get 0x619003 ≤ s.channelErrors c) || decide (2 ≤ bad)) then
    let s := { s with med := { s.med with retiredChannels := s.med.retiredChannels ++ [c] } }
    let s := ((s.bump 0x619006).put 0x61A002 2).put 0x61A003 c
    .next (raise 243 (dies.foldl (fun t d => dieLeaves d (if canTransfer then 1 else 2) t) (judgeEpisode s)))
  else .next s

/-- REBUILD_COMPLETE of a die: every affected stripe has been collected, and the die becomes Retired (R288, R291). -/
def execRebuildComplete (die : Fin 64) (s : State) : Host.Outcome State Fault Refusal :=
  let d := die.val
  let ch := d / 4
  let mine := fun (st : Nat) => st / 16384 == d % 4 && (s.outstanding st).contains ch
  if s.med.rebuildDies.contains d && !(s.rebuildVictims.any mine) &&
      !(s.ringLosses.any fun x => mine (s.ringStripe x.1 x.2)) then
    let s := ((s.put (dieKey d 0x01) 3).bump 0x619005).put 0x61E004 (s.get 0x61E004 - 1)
    let s := s.put 0x61A006 ((s.service - s.med.rebuildStarted) / 1000000000)
    let s := { s with med := { s.med with rebuildDies := s.med.rebuildDies.filter (· != d) } }
    let s := if s.med.rebuildDies.isEmpty then (s.put 0x61A002 0).put 0x61A003 0 else s
    .next (noteHealth (raise 244 (judgeEpisode s)))
  else .next s

/-- The resets of a stripe wait or run. -/
def State.resetOrdered (s : State) (stripe : Nat) : Bool :=
  s.med.jobs.any (·.owner == .maintenance stripe) || s.med.ops.any (·.owner == .maintenance stripe)

/-- STRIPE_WITHDRAWN: fewer than 8 members are left; the stripe is collected, and its reset withdraws it (R292). -/
def execStripeWithdrawn (stripe : Fin 65536) (s : State) : Host.Outcome State Fault Refusal :=
  let st := stripe.val
  let r := s.stripe st
  if (s.members st).length - (s.leaving st).length < 8 && r.role.isMl && !s.resetOrdered st then
    let s := match r.role with
      | .openDest _ => s.setStripe st { r with role := .closed }
      | _ => s
    .next (collect st 1 1 s)
  else .next s

end Sys2Proof.Machine
end

