-- ==== Sys2Proof/Machine/Events.lean ====
section
/-! DEFINITION. The commands of chapter 18 that no dictionary request starts: OCCURRENCE, HELD_MSI_X, RECORDER_WRITE, CAPTURE_EPISODE and the
core monitors (R475, R479, R482, R485, R489). -/

namespace Sys2Proof.Machine

/-- OCCURRENCE: a source is raised by the subsystem that owns it (R479). Of a channel fault the command does not say whether a transfer was
repeated, which is what 0x6120 + c, subindex 06 and R287 count: a free value decides. -/
def execOccurrence (source : Fin 288) (s : State) : Host.Outcome State Fault Refusal :=
  let n := source.val
  if 136 ≤ n ∧ n ≤ 151 ∧ s.canOccur n then
    let repeated := s.freeNow % 2 = 1
    let s := drawn s
    let s := if repeated then
        State.bump { s with med := { s.med with transferErrors := s.med.transferErrors ++ [(n - 136, s.service)] } } (channelKey (n - 136) 6)
      else s
    .next (raise n s)
  else .next (raise n s)

/-- HELD_MSI_X: the oldest held message of a port leaves once the port can send it (R482). -/
def execHeldMsiX (p : Port) (s : State) : Host.Outcome State Fault Refusal :=
  match (s.port p).heldMsi with
  | [] => .next s
  | v :: rest => if s.msiOpen p then .next (emit (.msix p v) (s.modPort p fun q => { q with heldMsi := rest })) else .next s

/-- RECORDER_WRITE (R485 to R489). -/
def execRecorderWrite (s : State) : Host.Outcome State Fault Refusal := .next (writeNextRecord s)

/-- CAPTURE_EPISODE: the episode follows the mode, the rebuild and the priority pass (R489). -/
def execCaptureEpisode (s : State) : Host.Outcome State Fault Refusal := .next (judgeEpisode s)

/-- CORE_DELAY_MARGIN of a quadrant (R475); the quadrants have one rail. -/
def execCoreDelayMargin (_quadrant : Fin 4) (s : State) : Host.Outcome State Fault Refusal :=
  if s.vcoreOn then .next (raiseVcore s) else .next s

/-- CROSSING_ERROR: sources 266 to 271 (R475). -/
def execCrossingError (source : Nat) (s : State) : Host.Outcome State Fault Refusal :=
  if s.vcoreOn ∧ 266 ≤ source ∧ source ≤ 271 then .next (raise source s) else .next s

/-- COMPLETION_STALL: a second stall within 1 s is a critical-state error (R341, R475). -/
def execCompletionStall (s : State) : Host.Outcome State Fault Refusal :=
  if s.vcoreOn then
    let again := match s.modes.lastStall with
      | none => false
      | some t => decide (s.clock < t + 1000000000)
    let s := raise 272 { s with modes := { s.modes with lastStall := some s.clock } }
    if again then .next (criticalError s) else .next s
  else .next s

end Sys2Proof.Machine
end

