-- ==== Sys2Proof/Machine/FieldLink.lean ====
section
/-! DEFINITION. The field link (R451 to R470): frames and the receive queue, discover, rattles, notices, the access method and the bucket of
reduced service. -/

namespace Sys2Proof.Machine

/-! ### Frames (R456 to R458, R464) -/

/-- The number of the module's MAC address. -/
def State.ownMac (s : State) : Nat := bytesToNat (s.getBytes 0x100009)

/-- A byte, and a little-endian field, of a payload. -/
def payloadByte (l : List Byte) (i : Nat) : Nat := (l.getD i 0).toNat
def payloadField (l : List Byte) (i n : Nat) : Nat := bytesToNat ((l.drop i).take n)

abbrev opDiscover : Nat := 0x01
abbrev opRattle : Nat := 0x7E
abbrev opNotice : Nat := 0x40

/-- The destination and EtherType are the module's (R456); a rattle is broadcast only (R470). -/
def State.addressed (s : State) (f : Frame) : Bool :=
  let op := payloadByte f.payload 1
  f.etherType == 0x88B5 && (match f.dest with
    | some mac => mac == s.ownMac && op != opRattle
    | none => op == opDiscover || op == opRattle)

/-- The bytes that an opcode's payload needs after the header (R459, R462, R470), `none` for an opcode that stations do not send. A value
or segment counts with its length, unless the length itself is above 1,024, which the dictionary answers. -/
def payloadNeeds (l : List Byte) : Option Nat :=
  let op := payloadByte l 1
  let n := payloadField l 20 4
  let carried := if n ≤ 1024 then n else 0
  if op = opDiscover then some 0
  else if op = 0x10 then some 20
  else if op = 0x11 then some 32
  else if op = 0x12 then some 2
  else if op = 0x20 then some 12
  else if op = 0x21 ∨ op = 0x22 then some (12 + carried)
  else if op = 0x30 then some 16
  else if op = 0x31 then some (16 + carried)
  else if op = opRattle then some 4
  else none

/-- The frame is a UDX frame that the module takes. -/
def udxOk (l : List Byte) : Bool :=
  let flags := payloadField l 2 2
  payloadByte l 0 == 1 && !flags.testBit 0 && (match payloadNeeds l with
    | some n => decide (12 + n + (if flags.testBit 1 then 16 else 0) ≤ l.length)
    | none => false)

/-- A request frame enters the receive queue: at most 4 of one station, and the oldest gives way when 32 are held. -/
def queueFrame (f : Frame) (s : State) : State :=
  if 4 ≤ (s.mgmt.received.filter fun r => r.source == f.source).length then s.bump 0x140108
  else
    let q := s.mgmt.received ++ [{ source := f.source, payload := f.payload }]
    if q.length ≤ 32 then { s with mgmt := { s.mgmt with received := q } }
    else raise 134 (State.bump { s with mgmt := { s.mgmt with received := q.drop 1 } } 0x140109)

/-- FRAME_RECEIVED. What an accepted frame asks follows as the command that it carries; a rattle is no request and is not queued. -/
def execFrameReceived (frame : Frame) (s : State) : Host.Outcome State Fault Refusal :=
  if !s.linkRuns then .next s
  else if !frame.fcsOk then .next (s.bump 0x140103)
  else
    let s := s.bump 0x140102
    if !s.addressed frame then .next (s.bump 0x140104)
    else if !udxOk frame.payload then .next (s.bump 0x140105)
    else if payloadByte frame.payload 1 = opRattle then .next s
    else .next (queueFrame frame s)

/-! ### Discover (R461) -/

/-- Access method in force: 3 is CSMA/CD after beacon loss. -/
def State.accessNow (s : State) : Nat := if s.fieldLinkState = 2 then 3 else s.get 0x140001

/-- Flag byte of Table — Discover response. -/
def State.discoverFlags (s : State) : Nat :=
  let bit := fun (b : Bool) (n : Nat) => if b then 2 ^ n else 0
  bit (s.ready .a) 0 + bit (s.ready .b) 1 + bit s.faultLow 2 + bit s.protected 3 + bit (s.get 0x110002 == 1) 4 + bit s.reducedService 5

/-- The payload of a discover response. -/
def State.discoverPayload (s : State) : List Byte :=
  padTo 6 (s.getBytes 0x100009) ++ natToBytes 1 s.mode ++ natToBytes 1 s.accessNow ++
    natToBytes 1 (if s.get 0x140001 = 1 then 0 else s.get 0x140002) ++ natToBytes 1 (8 - s.mgmt.sessions.length) ++
    natToBytes 1 s.discoverFlags ++ natToBytes 1 1 ++ padTo 16 (s.getBytes 0x100007) ++ padTo 16 (s.getBytes 0x100003)

/-- A frame that the module sends. -/
def sendFrame (dest : Option Nat) (op : Nat) (payload : List Byte) (s : State) : State :=
  emit (.frame dest op (payload.map (·.toNat))) s

/-- DISCOVER from a station. A discover that finds the bucket empty is not answered: its response has no status. -/
def execDiscover (source : Nat) (s : State) : Host.Outcome State Fault Refusal :=
  .next (arrive (.fieldLink source) (fun t => t) (fun t => sendFrame (some source) opDiscover t.discoverPayload t) s)

/-! ### The rattle (R403, R470) -/

/-- An event that is reported at most once per second. -/
def secondPassed (last : Option Nat) (s : State) : Bool :=
  match last with
  | none => true
  | some t => decide (t + 1000000000 ≤ s.clock)

/-- RATTLE with a wake code, judged in AUX, FALL and DOZE only. -/
def execRattle (code : Nat) (s : State) : Host.Outcome State Fault Refusal :=
  if !(s.linkRuns && (s.mode == modeAux || s.mode == modeFall || s.mode == modeDoze) && secondPassed s.modes.rattleAt s) then .next s
  else if s.get 0xD03001 ≠ 0 ∧ code = s.get 0xD03001 then
    .next (wakeSource 3 (State.bump { s with modes := { s.modes with rattleAt := some s.clock } } 0xD03002))
  else
    let t := s.bump 0xD03003
    if secondPassed s.modes.rattleRejectAt s then
      .next (raise 252 { t with modes := { t.modes with rattleRejectAt := some s.clock } })
    else .next t

/-! ### Notices (R469) -/

/-- Where notices go: broadcast, or a station. -/
def State.noticeDest (s : State) : Option Nat :=
  if (s.getBytes 0x140201).all (· == 0xFF) then none else some (bytesToNat (s.getBytes 0x140201))

/-- NOTICE: the oldest notice leaves at a transmit opportunity, unless the module yields after a conflict (R454), or eight have left within the
last second of reduced service. -/
def execNotice (s : State) : Host.Outcome State Fault Refusal :=
  if !s.linkRuns then .next s
  else if 0 < s.mgmt.yieldCycles then .next { s with mgmt := { s.mgmt with yieldCycles := s.mgmt.yieldCycles - 1 } }
  else
    let recent := s.mgmt.noticeTimes.filter fun t => decide (s.clock < t + 1000000000)
    if s.reducedService && decide (8 ≤ recent.length) then .next s
    else match s.mgmt.notices with
      | [] => .next s
      | n :: rest => .next (sendFrame s.noticeDest opNotice n.bytes (State.bump { s with mgmt := { s.mgmt with
          notices := rest, noticeTimes := (recent ++ [s.clock]).drop (recent.length - 7) } } 0x140202))

/-! ### Access (R453, R454, R467) -/

/-- BEACON_LOSS of a PLCA follower. -/
def execBeaconLoss (s : State) : Host.Outcome State Fault Refusal :=
  if s.linkRuns && s.get 0x140001 == 0 && !s.mgmt.beaconLost then
    .next (raise 132 { s with mgmt := { s.mgmt with beaconLost := true } })
  else .next s

/-- BEACON_RECEIVED after a beacon loss. -/
def execBeaconReceived (s : State) : Host.Outcome State Fault Refusal :=
  if s.linkRuns && s.get 0x140001 == 0 && s.mgmt.beaconLost then
    .next (raise 132 { s with mgmt := { s.mgmt with beaconLost := false } })
  else .next s

/-- NODE_ID_CONFLICT in the module's own transmit opportunity. -/
def execNodeIdConflict (s : State) : Host.Outcome State Fault Refusal :=
  if s.fieldLinkState = 1 then
    .next (raise 133 (State.bump { s with mgmt := { s.mgmt with yieldCycles := 8 } } 0x14010C))
  else .next s

/-- REDUCED_RATE_REFILL: each bucket regains one place, up to 8. -/
def execReducedRateRefill (s : State) : Host.Outcome State Fault Refusal :=
  .next { s with mgmt := { s.mgmt with bucket := min 8 (s.mgmt.bucket + 1), busyBucket := min 8 (s.mgmt.busyBucket + 1) } }

end Sys2Proof.Machine
end

