-- ==== Sys2Proof/Machine/Mailbox.lean ====
section
/-! DEFINITION. The standard mailbox commands (R72 to R75, R78, R335, R411), and SANITIZE on either path. Return codes are those of CXL 3.1
(PRESUMED, log 62): Success 0, Background Command Started 1, Invalid Input 2, Unsupported 3, Busy 6, FW Verification Failed 0x0A, Invalid
Handle 0x0E. -/

namespace Sys2Proof.Machine

abbrev rcSuccess : Nat := 0
abbrev rcBackground : Nat := 1
abbrev rcInvalidInput : Nat := 2
abbrev rcUnsupported : Nat := 3
abbrev rcBusy : Nat := 6
abbrev rcVerification : Nat := 0x0A
abbrev rcInvalidHandle : Nat := 0x0E

/-- The answer to a mailbox command. -/
def mailboxAnswer (p : Port) (code : Nat) (fields : List Nat) (s : State) : State := emit (.mailbox p code fields) s

/-- A command reaches a mailbox while the port answers CXL.io. In DOZE it is activity of the host link, a wake source (R402). -/
def mailboxCommand (p : Port) (f : State → State) (s : State) : Host.Outcome State Fault Refusal :=
  if s.ioOpen p then .next (f (if s.mode = modeDoze then wakeBy 0 s else s)) else .next s

/-- A command that the present mode or state does not allow is refused with Busy and counted (R409). -/
def mailboxBusy (p : Port) (s : State) : State := mailboxAnswer p rcBusy [] (refusedByState s)

/-! ### Identity, time and health -/

/-- IDENTIFY: vendor, part and the firmware slot in use. -/
def execIdentify (p : Port) (s : State) : Host.Outcome State Fault Refusal :=
  mailboxCommand p (fun t => mailboxAnswer p rcSuccess
    [bytesToNat (t.getBytes 0x100001), bytesToNat (t.getBytes 0x100003), t.get 0xD06001] t) s

/-- GET_TIMESTAMP: device time. -/
def execGetTimestamp (p : Port) (s : State) : Host.Outcome State Fault Refusal :=
  mailboxCommand p (fun t => mailboxAnswer p rcSuccess [t.read 0x405001] t) s

/-- SET_TIMESTAMP (R146). -/
def execSetTimestamp (p : Port) (time : Word) (s : State) : Host.Outcome State Fault Refusal :=
  mailboxCommand p (fun t => mailboxAnswer p rcSuccess [] (setTime time.toNat 1 t)) s

/-- IDENTIFY_MEMORY_DEVICE: total and persistent-only capacity in units of 256 MiB; volatile-only capacity, partition alignment, LSA size and
poison list size 0 (R45). -/
def execIdentifyMemoryDevice (p : Port) (s : State) : Host.Outcome State Fault Refusal :=
  mailboxCommand p (fun t => mailboxAnswer p rcSuccess [16384, 0, 16384, 0, 0, 0] t) s

/-- GET_HEALTH_INFO: health status, media status, life used, highest package temperature, Dirty Shutdown Count, and the corrected error counts
of volatile and persistent memory (R74, R294). No rule states the media status: a free value. -/
def execGetHealthInfo (p : Port) (s : State) : Host.Outcome State Fault Refusal :=
  mailboxCommand p (fun t => drawn (mailboxAnswer p rcSuccess
    [t.read 0x61E005, t.freeNow, t.read 0x61E001, t.get 0x900101, t.get 0x402003, t.get 0x800101 + t.get 0x800103, t.get 0x800105] t)) s

/-! ### Event logs (R72, R73) -/

/-- The module's event UUID, 0x3050.01, which the generic event record header of every record carries (R73). -/
def State.eventUuid (s : State) : Nat := bytesToNat (s.readBytes 0x305001)

/-- A record as the mailbox returns it: the event UUID and the handle of its header, then what it carries (R73). -/
def EventRecord.fields (uuid : Nat) (r : EventRecord) : List Nat := [uuid, r.handle, r.source, r.severity, r.stamp, r.time] ++ r.values

/-- GET_EVENT_RECORDS: the overflow count and the records of a log, oldest first. -/
def execGetEventRecords (p : Port) (log : Fin 4) (s : State) : Host.Outcome State Fault Refusal :=
  mailboxCommand p (fun t =>
    let l := tgetD {} log.val (t.port p).logs
    mailboxAnswer p rcSuccess (l.overflow :: (l.records.map (EventRecord.fields t.eventUuid)).flatten) t) s

/-- The records of a log are cleared, all or by handle; its overflow count starts again. -/
def clearLog (p : Port) (log : Nat) (keep : EventRecord → Bool) (s : State) : State :=
  s.modPort p fun q =>
    let l := tgetD {} log q.logs
    { q with logs := tput log { l with records := l.records.filter keep, overflow := 0 } q.logs }

/-- CLEAR_EVENT_RECORDS: a handle that the log does not hold is refused. -/
def execClearEventRecords (p : Port) (log : Fin 4) (handles : Option (List Nat)) (s : State) : Host.Outcome State Fault Refusal :=
  mailboxCommand p (fun t =>
    match handles with
    | none => mailboxAnswer p rcSuccess [] (clearLog p log.val (fun _ => false) t)
    | some hs =>
      let held := (tgetD {} log.val (t.port p).logs).records.map (·.handle)
      if hs.all held.contains then mailboxAnswer p rcSuccess [] (clearLog p log.val (fun r => !hs.contains r.handle) t)
      else mailboxAnswer p rcInvalidHandle [] t) s

/-- GET_EVENT_INTERRUPT_POLICY: the settings of the Informational, Warning, Failure and Fatal logs. -/
def execGetEventInterruptPolicy (p : Port) (s : State) : Host.Outcome State Fault Refusal :=
  mailboxCommand p (fun t => mailboxAnswer p rcSuccess ((List.range 4).map fun k => tgetD 0 k (t.port p).policy) t) s

/-- SET_EVENT_INTERRUPT_POLICY. -/
def execSetEventInterruptPolicy (p : Port) (info warn fail fatal : Byte) (s : State) : Host.Outcome State Fault Refusal :=
  mailboxCommand p (fun t => mailboxAnswer p rcSuccess [] (t.modPort p fun q =>
    { q with policy := tset 0 0 info.toNat (tset 0 1 warn.toNat (tset 0 2 fail.toNat (tset 0 3 fatal.toNat q.policy))) })) s

/-! ### Firmware (R411) -/

/-- The modes in which a mailbox command may act on firmware or keys: no HALT (R78), no curtain, no DOZE, no freeze of policy (R411). -/
def State.actsNow (s : State) : Bool :=
  s.mode != modeHalt && s.mode != modeSave && s.mode != modeDoze && s.modes.activation.isNone

/-- GET_FW_INFO: two slots, the active one, the staged slot's state, and their versions. -/
def execGetFwInfo (p : Port) (s : State) : Host.Outcome State Fault Refusal :=
  mailboxCommand p (fun t => mailboxAnswer p rcSuccess
    [2, t.get 0xD06001, t.get 0xD06002, t.get 0xD06004, t.get 0xD06005] t) s

/-- TRANSFER_FW: an image for the staged slot, kept only with a valid signature and a version at or above the minimum. DESIGN CHOICE (log
151): Unsupported comes before Busy. -/
def execTransferFw (p : Port) (signatureOk : Bool) (version : Nat) (s : State) : Host.Outcome State Fault Refusal :=
  mailboxCommand p (fun t =>
    if t.get 0x304003 ≠ 1 then mailboxAnswer p rcUnsupported [] t
    else if !t.actsNow then mailboxBusy p t
    else
      let code := if signatureOk && decide (t.get 0xD06008 ≤ version) then rcSuccess else rcVerification
      mailboxAnswer p code [] (stageImage signatureOk version t)) s

/-- The online activation of ACTIVATE_FW. -/
def activateByHost (p : Port) (result : ActivationResult) (s : State) : State :=
  let start := fun (passes : Bool) =>
    mailboxAnswer p rcSuccess [] { s with modes := { s.modes with activation := some { clock := s.clock, passes := passes } } }
  match result with
  | .passes => start true
  | .selfCheckFails => start false
  | .signatureFails => mailboxAnswer p rcVerification [] (raise 281 s)
  | .versionFails => mailboxAnswer p rcVerification [] (raise 284 s)

/-- ACTIVATE_FW: online, or offline at the next device reset. -/
def execActivateFw (p : Port) (online : Bool) (result : ActivationResult) (s : State) : Host.Outcome State Fault Refusal :=
  mailboxCommand p (fun t =>
    if online then (if t.activationAllowed then activateByHost p result t else mailboxBusy p t)
    else if t.get 0xD06002 = 0 ∨ t.modes.activation.isSome then mailboxBusy p t
    else mailboxAnswer p rcSuccess [] (t.put 0xD06002 2)) s

/-! ### Sanitize (R75, R335) -/

/-- A host's sanitize: it starts in the background, renews every active slot, signals its end on vector 0, and shows in the status of the
dictionary's own action 0x7002.03 (R2). DESIGN CHOICE (log 151): in HALT with permission entry 0x3040.01 at 0 it answers Unsupported, not
Busy; R75 and R78 give no precedence. -/
def sanitizeByHost (p : Port) (s : State) : State :=
  if s.get 0x304001 ≠ 1 then mailboxAnswer p rcUnsupported [] s
  else if !s.actsNow then mailboxBusy p s
  else sendMsi p 0 (setAction 0x700203 stOk (sanitizeNow (mailboxAnswer p rcBackground [] s)))

/-- SANITIZE: the mailbox command, or the action 0x7002.03. -/
def execSanitize (via : Port ⊕ Req) (s : State) : Host.Outcome State Fault Refusal :=
  match via with
  | .inl p => mailboxCommand p (sanitizeByHost p) s
  | .inr req => .next (request req 0x7002 0x03 (.act []) {} s)

/-- SECURE_ERASE acts as Sanitize. -/
def execSecureErase (p : Port) (s : State) : Host.Outcome State Fault Refusal := mailboxCommand p (sanitizeByHost p) s

/-! ### Everything else (R74, R76) -/

/-- Opcodes of Table — Standard mailbox commands. -/
def standardOpcodes : List Nat :=
  [0x0001, 0x0100, 0x0101, 0x0102, 0x0103, 0x0200, 0x0201, 0x0202, 0x0300, 0x0301, 0x4000, 0x4200, 0x4400, 0x4401]

/-- UNSUPPORTED_MAILBOX_OPCODE: Unsupported. A vendor opcode of the table comes here only with a payload shorter than its header: Invalid
Input; a standard one of the table never does. -/
def execUnsupportedMailboxOpcode (p : Port) (opcode : BitVec 16) (s : State) : Host.Outcome State Fault Refusal :=
  let n := opcode.toNat
  mailboxCommand p (fun t =>
    if standardOpcodes.contains n then t
    else if 0xC000 ≤ n ∧ n ≤ 0xC007 then mailboxAnswer p rcInvalidInput [] t
    else mailboxAnswer p rcUnsupported [] t) s

end Sys2Proof.Machine
end

