-- ==== Sys2Proof/Machine/TwoCopies.lean ====
section
/-! DEFINITION. Values of the parameter store in two copies (R354, R355): the words of a copy, when a copy is valid, which of two is the
newer, what a read returns and what a repair leaves. -/

namespace Sys2Proof.Machine

/-- The bytes of some 8-byte words. -/
def wordsBytes (l : List (BitVec 64)) : List Byte := (l.map fun w => natToBytes 8 w.toNat).flatten

/-- The header word of a copy: [31:0] version, [47:32] payload words, [63:48] object number. -/
def copyHeader (object version count : Nat) : BitVec 64 :=
  BitVec.ofNat 64 (version % 2 ^ 32 + count % 2 ^ 16 * 2 ^ 32 + object % 2 ^ 16 * 2 ^ 48)

/-- The trailer word: [31:0] CRC-32C of the header and payload, [63:32] the bitwise complement of the version. -/
def copyTrailer (version : Nat) (covered : List (BitVec 64)) : BitVec 64 :=
  BitVec.ofNat 64 ((Config.crc32c (wordsBytes covered)).toNat + (2 ^ 32 - 1 - version % 2 ^ 32) * 2 ^ 32)

/-- The words of a copy. -/
def copyWords (object version : Nat) (payload : List (BitVec 64)) : List (BitVec 64) :=
  let covered := copyHeader object version payload.length :: payload
  covered ++ [copyTrailer version covered]

/-- The version in a header word. -/
def headerVersion (w : BitVec 64) : Nat := w.toNat % 2 ^ 32

/-- The payload of a copy that is valid: no uncorrectable word, as many words as its header says, a CRC that matches, and a trailer with
the complement of the header's version. -/
def validCopy : CopyWords → Option (Nat × List (BitVec 64))
  | none => none
  | some [] => none
  | some (h :: rest) =>
    let payload := rest.dropLast
    if rest.getLast? = some (copyTrailer (headerVersion h) (h :: payload)) ∧ h.toNat / 2 ^ 32 % 2 ^ 16 = payload.length then
      some (headerVersion h, payload)
    else none

/-- Version `a` is newer than version `b`: it exceeds it by 1 to 2^31 − 1, modulo 2^32. -/
def newerVersion (a b : Nat) : Bool :=
  let d := (a + 2 ^ 32 - b % 2 ^ 32) % 2 ^ 32
  decide (1 ≤ d) && decide (d < 2 ^ 31)

/-- What a read of two copies finds: nothing where neither is valid, the newer valid one else, and whether a stale or invalid copy is
rewritten from it (R354, R355). -/
def readCopies (a b : CopyWords) : Option (List (BitVec 64) × Bool) :=
  match validCopy a, validCopy b with
  | none, none => none
  | some x, none => some (x.2, true)
  | none, some y => some (y.2, true)
  | some x, some y => if newerVersion y.1 x.1 then some (y.2, true) else some (x.2, x != y)

end Sys2Proof.Machine
end

