-- ==== Sys2Proof/Machine/RestoreOps.lean ====
section
/-! DEFINITION. The steps of Table — Restore timeline from step 6 on (R24, R29, R39, R138, R139, R145, R146, R159 to R163, R174, R275, R276, R320 to R322,
R330, R356, R512). -/

namespace Sys2Proof.Machine

/-! ### Values lost in both copies (R356) -/

/-- The highest value that the recorder's snapshots hold of an entry, or 0. -/
def State.snapshotMax (s : State) (key : Nat) : Nat :=
  s.recd.records.foldl (fun m r => r.snapshots.foldl (fun m x => if x.key = key then max m x.value else m) m) 0

/-- The lifetime counters: host bytes accepted, ML data bytes programmed, power-on time and restores. -/
def lifetimeKeys : List Nat := [0x615006, 0x615007, 0x10000B, 0x10000C]

/-- A mark between its neighbours (Table — Both copies lost). -/
def midMark (a b : List Nat) : List Nat := (a.zip b).map fun x => (x.1 + x.2) / 2

/-- The hourly marks with one of them interpolated; at an end, its one neighbour. -/
def interpolate (hour : Nat) (l : List (List Nat)) : List (List Nat) :=
  let after := l.getD (hour + 1) (l.getD (hour - 1) [])
  let before := if hour = 0 then after else l.getD (hour - 1) after
  l.set hour (midMark before after)

/-- Neither copy of a value is valid (R356). A lost stamp ceiling is replaced before the first stamp is taken (`restoreSix`). -/
def loseValue (v : TwoCopyValue) (s : State) : State :=
  let s := raise 230 (s.bump 0x800107)
  match v with
  | .dictionaryValue key =>
    (match describe key with
    | none => s
    | some d =>
      if d.keep == .persistent then
        let old := s.valueBytes key
        let t : State := { s with
          dict := tdel key s.dict, octs := tdel key s.octs, stored := { s.stored with lostValues := insertNew key s.stored.lostValues } }
        if accessOf key d == .rw then noteOwnChange key 5 old t else t
      else s)
  | .superblock => s
  | .stampCeiling => s
  | .slotKey slot =>
    let ranges := s.slotRanges slot
    let s := { s with integ := { s.integ with wrappedKeys := tput slot [] s.integ.wrappedKeys } }
    ranges.foldl (fun t r => failCheck (.translation (r.1 * 64) (r.2 * 64)) t) s
  | .anchor => (List.range 8).foldl (fun t i => failCheck (.node 9 i) t) s
  | .haltRecord =>
    let stamp := s.stampNow
    let halt : HaltRecord := { stamp := stamp, ranges := [(0, 68719476736)], countersOnly := false }
    ((takeStamp { s with integ := { s.integ with halt := some halt } }).put 0x700304 0).put 0x700305 68719476736
  | .remapTable => { s with stored := { s.stored with remap := [], shadows := [] } }
  | .errorTable => saveErrors { s with stored := { s.stored with errors := [] } }
  | .lifetimeCounters => lifetimeKeys.foldl (fun t k => t.put k (t.snapshotMax k)) s
  | .hourlyMark hour => { s with med := { s.med with hourlyMarks := interpolate hour s.med.hourlyMarks } }

/-! ### Step 6 -/

/-- The save image is complete, and it is the one of the last commit point (R29, R321). -/
def State.imageUsable (s : State) : Bool :=
  match s.pow.image with
  | some i => i.armed && i.complete && i.stamp == s.pow.imageStamp
  | none => false

/-- The kind of the last power-down (R39). -/
def State.judgeKind (s : State) : Nat :=
  if s.imageUsable then (match s.pow.image with | some i => if i.cause = 2 then 2 else 1 | none => 1)
  else if s.get 0x10000C = 0 ∧ s.pow.image.isNone ∧ !s.pow.protectionWord then 0
  else if s.pow.protectionWord then 4 else 3

/-- The median of a list of numbers: the mean of the two in the middle where their number is even. -/
def median (l : List Nat) : Nat :=
  let t := l.mergeSort fun a b => decide (a ≤ b)
  (t.getD ((l.length - 1) / 2) 0 + t.getD (l.length / 2) 0) / 2

/-- The youngest bank of a die (R274), with its number. -/
def State.youngestBank (s : State) (die : Nat) : Option (Nat × Bank) :=
  ((List.range 4).filterMap fun k => (tfind (die * 4 + k) s.med.banks).map fun b => (k, b)).foldl (fun m b => match m with
    | none => some b
    | some x => if x.2.stamp < b.2.stamp then some b else some x) none

/-- Off interval of a die in equivalent ms, from the measured shift of its youngest bank; none without a valid bank. -/
def State.offOf (s : State) (shifts : List (Option Nat)) (die : Nat) : Option Nat :=
  match s.youngestBank die, shifts.getD die none with
  | some b, some shift => some ((meterAge shift : Int) - ((s.packageAge (die / 4) : Int) - b.2.age)).toNat
  | _, _ => none

/-- What the age meter of each die gave: the bank used, 0xFF where none is valid, and the off interval (0x62nn.05 and .06). -/
def noteBanks (shifts : List (Option Nat)) (s : State) : State :=
  (List.range 64).foldl (fun t d =>
    match s.youngestBank d, s.offOf shifts d with
    | some b, some off => (t.put (dieKey d 0x05) b.1).put (dieKey d 0x06) off
    | _, _ => (t.put (dieKey d 0x05) 0xFF).put (dieKey d 0x06) 0) s

/-- The off interval, the accumulators and device time (R146, R275, R276). -/
def applyOffInterval (shifts : List (Option Nat)) (s : State) : State :=
  let offs := (List.range 64).filterMap (s.offOf shifts)
  let s := noteBanks shifts s
  if offs.isEmpty then raise 246 { s with med := { s.med with passDue := true } }
  else
    let all := median offs
    let ns := offInterval all (s.getInt 16 0x616002)
    let ofPackage := fun (c : Nat) =>
      let mine := [4 * c, 4 * c + 1, 4 * c + 2, 4 * c + 3].filterMap (s.offOf shifts)
      if mine.length < 2 then all else median mine
    let aged := (List.range 16).foldl (fun t c => t.addTo (packageAgeKey c) (ofPackage c)) s
    let t := State.put { aged with deviceTime := aged.deviceTime + ns } 0x616003 all
    let t := (t.put 0x616004 ns).put 0x616005 offs.length
    if s.get 0x616006 * 3600000 < all then raise 246 { t with med := { t.med with passDue := true } } else t

/-- The highest of some stamps. -/
def topStamp (l : List Nat) : Nat := l.foldl max 0

/-- Highest order stamp on the medium: journal, checkpoints and directory, log sectors and page footers, the anchor and the age meter banks. -/
def State.mediumStamp (s : State) : Nat :=
  topStamp ([topStamp ((s.xlat.journal.filter (·.programmed)).map (·.stamp)), topStamp (s.xlat.checkpoints.map (·.2.stamp)),
    s.xlat.directoryStamp, s.integ.tableImageStamp, s.integ.anchor.stamp, topStamp (s.med.banks.map (·.2.stamp)),
    topStamp (s.med.footers.map (·.2.stamp)), topStamp ((s.med.rows.map fun r => topStamp (r.starts.map (·.stamp))))])

/-- Highest order stamp in a save image. -/
def Image.highest (i : Image) : Nat :=
  topStamp [i.stamp, topStamp (i.staging.map (·.stamp)), topStamp (i.journalTail.map (·.stamp)), topStamp (i.integrityTail.map (·.stamp))]

/-- The records on the medium that carry a device time, with their stamps: checkpoints, page footers, age meter banks, and the new time of
TIME_SET records. -/
def State.timedRecords (s : State) : List (Nat × Nat) :=
  (s.xlat.checkpoints.map fun e => (e.2.stamp, e.2.time)) ++ (s.med.footers.map fun e => (e.2.stamp, e.2.time)) ++
    (s.med.banks.map fun e => (e.2.stamp, e.2.time)) ++
    s.xlat.journal.filterMap fun r => match r.kind with
      | .timeSet _ new => if r.programmed then some (r.stamp, new) else none
      | _ => none

/-- Device time of the last durable record on the medium: of the one with the highest stamp (R40, R146). -/
def State.mediumTime (s : State) : Nat :=
  (s.timedRecords.foldl (fun (m : Nat × Nat) x => if m.1 < x.1 then x else m) (0, 0)).2

/-- Take the saved counts and the saved error table again (R265, R271, R347): what was counted since is lost without a completed curtain. -/
def loadCounts (s : State) : State :=
  let keys := [0x615006, 0x615007, 0x10000B] ++ (List.range 16).map fun c => 0x616101 + c
  let s := { s with stored := { s.stored with errors := s.stored.savedErrors } }
  keys.foldl (fun t k => t.put k (tgetD 0 k t.med.savedCounts)) s

/-- Free stripes whose UNIT_STATE records after a reset did not reach the medium are reset again before they are used (R256 step 8). -/
def resetAgain (s : State) : State :=
  let units := s.xlat.journal.filterMap fun r => match r.kind with
    | .unitState u _ _ => if r.programmed then none else some (stripeOfUnit u)
    | _ => none
  units.eraseDups.foldl (fun t st =>
    if (t.stripe st).role == .free then t.setStripe st { t.stripe st with needsReset := true } else t) s

/-- Drop what lay in the journal tail and the integrity tail without a save image; with one, they are the image's. -/
def settleTails (s : State) : State :=
  let s := if s.imageUsable then s else resetAgain s
  let js := s.xlat.journal.filter (·.programmed)
  let es := s.integ.entries.filter (·.programmed)
  match s.imageUsable, s.pow.image with
  | true, some i =>
    { s with
      xlat := { s.xlat with journal := js ++ i.journalTail.filter fun r => !(js.any fun x => x.stamp == r.stamp) },
      integ := { s.integ with entries := es ++ i.integrityTail.filter fun e => !(es.any fun x => x.kind == e.kind) } }
  | _, _ => { s with xlat := { s.xlat with journal := js }, integ := { s.integ with entries := es } }

/-- Both registers of the cache levels are loaded (R174). -/
def loadRegisters (s : State) : State :=
  let v := if s.get 0x40700A = 0 then s.deviceTime % 2 ^ 32 else s.get 0x40700A
  let r : BitVec 32 := if v % 2 ^ 32 = 0 then 1 else BitVec.ofNat 32 v
  { s with lfsr1 := r, lfsr2 := r }

/-- What step 5 reads of the parameter store's two-copy values: a stale or invalid copy is rewritten from the other (source 222), and the
values with no valid copy are lost (R355, R356). -/
def lostCopies (f : RestoreFindings) : List TwoCopyValue :=
  (f.copies.filter fun c => (readCopies c.2.1 c.2.2).isNone).map (·.1)

def repairedCopies (f : RestoreFindings) : Nat :=
  (f.copies.filter fun c => match readCopies c.2.1 c.2.2 with
    | some r => r.2
    | none => false).length

/-- A staged or queued line of the image that cannot be read becomes poisoned (R34). -/
def Image.poison (lines : List Nat) (i : Image) : Image :=
  let queue := fun (l : List Store) => l.map fun x => if lines.contains x.line then { x with poison := true, data := 0 } else x
  { i with
    ingressA := queue i.ingressA, ingressB := queue i.ingressB,
    staging := i.staging.map fun l => if lines.contains l.line then { l with poison := true, data := 0 } else l }

/-- The save image as it is read: one with a sector that fails its CRC or without its closing record is not complete (R29); the sectors of
its unreadable lines are detected errors (R34). -/
def readImage (f : RestoreFindings) (s : State) : State :=
  match s.pow.image with
  | none => s
  | some i =>
    let held := f.unreadable.filter fun l =>
      (i.staging.any fun x => x.line == l) || ((i.ingressA ++ i.ingressB).any fun x => x.line == l)
    let counters := f.unreadableCounters.filter fun o => i.dirtyCounters.any fun c => c.obj == o
    let ranges := held.map (fun l => (l, 1)) ++ (counters.map fun o => (s.failedObjects o).map s.namedRange).flatten
    let image : Image := { i.poison held with dirtyCounters := i.dirtyCounters.filter fun c => !counters.contains c.obj }
    let s := { s with pow := { s.pow with image := some (if f.imageFails then { i with complete := false } else image) } }
    if f.imageFails ∨ ranges.isEmpty then s
    else
      let bad := (counters.map fun o => (s.failedObjects o).map s.namedRange).flatten.map fun r => (r.1, r.2, s.highestStamp)
      let s := { s with integ := { s.integ with poisonedRanges := s.integ.poisonedRanges ++ bad } }
      raise 217 (nameLines 217 ranges ((held ++ counters.map fun _ => 0).foldl (fun t _ => detectSomewhere .medium true t) s))

/-- The power log as RESTORE finds it (R372): the slots of abandoned writes are counted and free again, and the next record follows the
newest valid one. -/
def readPowerLog (f : RestoreFindings) (s : State) : State :=
  let l := (cutSlot f.recordCut s.pow.log).map fun x => if f.badRecords.contains x.record.sequence then { x with crcMatches := false } else x
  let n := (abandonedSlots l).length
  let kept := l.take (l.length - n)
  let s := State.addTo { s with pow := { s.pow with log := kept } } 0x202003 n
  match (powerRecords kept).getLast? with
  | some r => if n = 0 then s else s.put 0x202002 r.sequence
  | none => s

/-- Journal sectors whose CRC fails are ignored as a whole, their stamps and times too, and each is a torn record (R37, R152). -/
def dropTorn (f : RestoreFindings) (s : State) : State :=
  let bad := fun (r : JournalRec) => r.programmed && f.tornSectors.contains r.sector
  let n := ((s.xlat.journal.filter bad).map (·.sector)).eraseDups.length
  { s with xlat := { s.xlat with journal := s.xlat.journal.filter fun r => !bad r }, med := { s.med with torn := s.med.torn + n } }

/-- Step 6, with what step 4 measured and step 5 found. A cartridge other than the one recorded at the previous curtain is due for a test (R376). -/
def restoreSix (shifts : List (Option Nat)) (f : RestoreFindings) (s : State) : State :=
  let s := dropTorn f s
  let lost := lostCopies f
  let saved := if lost.contains .stampCeiling then s.integ.anchor.stamp + 17179869184 else s.get 0x405003
  let first := saved + 4294967296
  let s := State.put { s with nextStamp := first, restoreStamp := first } 0x405003 (first + 2147483648)
  let s := readImage f (raiseTimes (repairedCopies f) 222 (readPowerLog f s))
  let s := lost.foldl (fun t v => loseValue v t) s
  let kind := s.judgeKind
  let time := match s.imageUsable, s.pow.image with
    | true, some i => i.time
    | _, _ => s.mediumTime
  let highest := match s.imageUsable, s.pow.image with
    | true, some i => max i.highest s.mediumStamp
    | _, _ => s.mediumStamp
  let c := s.pow.cartridge
  let due := c.testDue || (c.identAtCurtain.isSome && c.ident != c.identAtCurtain)
  let s : State := { s with
    deviceTime := time, pow := { s.pow with cartridge := { c with testDue := due } }, modes := { s.modes with downKind := kind } }
  let s := (((s.bump 0x10000C).put 0x402004 kind).put 0x402005 highest).put 0x402006 time
  let s := if s.imageUsable then s else loadCounts s
  let s := { s with med := { s.med with volumeMarks := [(s.get 0x615006, s.get 0x615007)], rebuildBytes := 0 } }
  loadRegisters (settleTails (applyOffInterval shifts s))

/-! ### Step 8: replay (R160) -/

/-- The group commits of the journal: tag, open stamp, commit stamp (R139). -/
def State.journalCommits (s : State) : List (Nat × Nat × Nat) :=
  s.xlat.journal.filterMap fun r => match r.kind with
    | .groupCommit tag open_ _ => some (tag, open_, r.stamp)
    | _ => none

/-- A map record that replay keeps: newer than its segment's checkpoint. A discard may concern many segments; each is judged when the
segment is rebuilt. -/
def State.keepsRecord (s : State) (r : JournalRec) : Bool :=
  match r.kind with
  | .mapSet page _ _ _ => decide (s.segmentStamp (segmentOfPage page) < r.stamp)
  | .discard _ _ _ _ => true
  | _ => false

/-- The stamp under which replay takes a log line as committed: its own, or that of its group's commit (R139); none where it is to be
skipped. -/
def State.replayStamp (s : State) (commits : List (Nat × Nat × Nat)) (l : LogLine) : Option Nat :=
  let seg := segmentOfLine l.line
  let old := decide (l.stamp ≤ s.segmentStamp seg)
  let gone := s.xlat.pendingRecords.any fun r =>
    decide (s.segmentStamp seg < r.stamp) && (match r.kind with
      | .discard _ first n mark => decide (first ≤ pageOfLine l.line) && decide (pageOfLine l.line < first + n) && decide (l.place / 45 < mark)
      | _ => false)
  if old || gone || !l.entryDone then none
  else match l.groupTag with
    | none => some l.stamp
    | some tag => (commits.find? fun c => c.1 == tag && decide (c.2.1 < l.stamp) && decide (l.stamp < c.2.2)).map (·.2.2)

/-- The stamp from which the tail is replayed: the oldest checkpoint of a dirty segment. -/
def State.tailStart (s : State) : Nat :=
  s.xlat.dirty.foldl (fun m e => min m (s.segmentStamp e.1)) s.restoreStamp

/-- The lines whose translation an object under a Digest entry carries: those of the records of journal sectors, those of a segment, or all. DEDUCED
(log 171): all where a journal sector has none of its own. -/
def State.digestRanges (s : State) (object first : Nat) : List (Nat × Nat) :=
  let ranges := if object = 1 then [(first * 65536, 65536)]
    else if object = 0 then (s.xlat.journal.filter fun r => r.programmed && r.sector == first).filterMap fun r => match r.kind with
      | .mapSet page _ _ _ => some (page * 64, 64)
      | .discard _ p n _ => some (p * 64, n * 64)
      | _ => none
    else []
  if ranges.isEmpty then [(0, dataLines)] else ranges

/-- What an integrity entry that does not verify fails as. -/
def State.failedBy (s : State) (k : IntegrityKind) : List FailedObject :=
  match k with
  | .line l _ _ _ => [.translation l 1]
  | .major page _ => [.counterBlock page]
  | .place place _ => [.placeTag place]
  | .digest object first _ => (s.digestRanges object first).map fun r => .translation r.1 r.2

/-- The chain value of the last integrity sector, from the anchor on. -/
def State.chainEnd (s : State) : BitVec 64 :=
  let sectorOf := fun (n : Nat) => s.integ.entries.filter fun e => e.programmed && e.sector == n
  ((((s.integ.entries.filter (·.programmed)).map (·.sector)).eraseDups).foldl (fun c n => chainOf n (sectorOf n) c)) s.integ.anchor.chain

/-- The chain of integrity sectors is verified from the anchor on (R320): it ends at the last sector that verifies, and what comes after is not
accepted. With a usable image it must not end before the curtain's: that is a failed check. DEDUCED (log 171): each entry past the end fails as
what it stands for. -/
def judgeChain (f : RestoreFindings) (s : State) : State :=
  match f.chainEnds with
  | none => s
  | some n =>
    let past := s.integ.entries.filter fun e => e.programmed && decide (n ≤ e.sector)
    let failed := ((past.map fun e => s.failedBy e.kind).flatten).eraseDups
    let s := { s with integ := { s.integ with entries := s.integ.entries.filter fun e => !(e.programmed && decide (n ≤ e.sector)) } }
    let s := { s with integ := { s.integ with chain := s.chainEnd } }
    if s.imageUsable then failed.foldl (fun t o => failCheck o t) s else s

/-- The journal sectors, checkpoints and images whose digest does not match after the ladder are failed checks (R318). -/
def judgeDigests (f : RestoreFindings) (s : State) : State :=
  let failed := (f.badDigests.map fun d => (s.digestRanges d.1 d.2).map fun r => FailedObject.translation r.1 r.2).flatten
  failed.foldl (fun t o => failCheck o t) s

/-- The log lines that the accepted entries or the last batch name: those of complete rows, but for the ones past the chain's end and those of a
re-encryption that is not whole (R298, R308, R316, R320). `before` are the entries as RESTORE found them. -/
def judgeLines (before : List IntegrityEntry) (s : State) : State :=
  let accepted := acceptedEntries s.integ.entries []
  let refused := (before.filter fun e => !accepted.contains e).map (·.kind)
  let judge := fun (l : LogLine) => { l with entryDone := (l.entryDone || s.imageUsable) && !refused.contains l.entry }
  { s with med := { s.med with rows := s.med.rows.map fun r => if r.complete then { r with lines := r.lines.map judge } else r } }

/-- Replay of the integrity entries: the counter blocks are those that the last batch wrote with the accepted entries applied, and each
line takes its entries when it is fetched (R308, R320). -/
def replayIntegrity (s : State) : State :=
  let entries := acceptedEntries s.integ.entries []
  { s with integ := { s.integ with
    counters := entries.foldl (fun m e => e.kind.apply m) s.integ.written,
    pendingEntries := (entries.map fun e => e.kind.lines.map fun o => (o, e)).flatten } }

/-- Log lines whose integrity entry is not accepted are never taken again (R316, R320). -/
def dropUnnamed (s : State) : State :=
  { s with med := { s.med with rows := s.med.rows.map fun r =>
    if s.imageUsable && !r.complete then r else { r with lines := r.lines.filter (·.entryDone) } } }

/-- The newest slot of an integrity page among some stripes, by its footer's stamp. -/
def State.newestCopy (s : State) (stripes : List Nat) (page : Nat) : Option (Nat × Nat) :=
  ((s.med.ml.filter fun e => e.2.page == integrityBase + page && stripes.contains (stripeOfUnit (unitOfMap e.1))).map
    fun e => (e.1, e.2.stamp)).foldl (fun m x => match m with
      | none => some x
      | some y => if y.2 < x.2 then some x else some y) none

/-- The integrity table is rebuilt (R313): the last image, with the pages found in the stripes that the superblock lists; the higher stamp wins.
DEDUCED (log 192): a second copy that the image names stands while it is as new as the first. -/
def restoreTable (s : State) : State :=
  let stampAt := fun (v : Nat) => ((tfind v s.med.ml).map (·.stamp)).getD 0
  let pages := ((s.med.ml.filter fun e => decide (integrityBase ≤ e.2.page) && s.integ.tableStripes.contains (stripeOfUnit (unitOfMap e.1))).map
    fun e => e.2.page - integrityBase).eraseDups
  let table := pages.foldl (fun t p => match s.newestCopy s.integ.tableStripes p with
    | some (v, stamp) => if (((tfind p t).map stampAt).getD 0) < stamp then tput p v (tdel (p + secondCopy) t) else t
    | none => t) s.integ.tableImage
  { s with integ := { s.integ with table := table } }

/-- The save sectors of an image that is not complete that fail their check are torn records (R37). -/
def noteTornSave (f : RestoreFindings) (s : State) : State :=
  if s.imageUsable || s.pow.image.isNone then s else { s with med := { s.med with torn := s.med.torn + f.tornSave } }

/-- Step 8. The torn records are the programs that the loss of power cut short, the journal sectors that fail their check, and the save sectors
of an image that is not complete (R37, R169). -/
def restoreEight (s : State) : State :=
  let s := restoreTable (restoreUnits (dropUnnamed s))
  let t0 := s.tailStart
  let commits := s.journalCommits
  let s : State := { s with xlat := { s.xlat with
    pendingRecords := s.xlat.journal.filter s.keepsRecord, commits := commits, replayFrom := t0,
    mainMap := [], delta := [], pendingDiscards := [], rebuilt := [], rebuilding := [], rebuildQueue := [], allRebuilt := false,
    dirty := s.xlat.dirty.map fun e => (e.1, { e.2 with bytes := s.get 0x615006, clock := s.clock }) } }
  let lines := ((s.med.rows.filter fun r => r.complete && decide (s.med.trim ≤ r.mark)).map (·.lines)).flatten
  let delta := lines.foldl (fun m l => match s.replayStamp commits l with
    | some st => insertIfNewer { line := l.line, grp := none, place := l.place, stamp := st } m
    | none => m) []
  let sectors := s.med.rows.foldl (fun n r => n + (r.starts.filter fun x =>
    decide (t0 ≤ x.stamp) && r.data.contains x.channel).length) 0
  let records := (s.xlat.journal.filter fun r => r.programmed && decide (t0 ≤ r.stamp)).length
  let s := ((State.put { s with xlat := { s.xlat with delta := delta } } 0x404108 sectors).put 0x404109 records).put 0x40410A s.med.torn
  let s := replayIntegrity s
  let tail := s.integ.entries.length
  if s.imageUsable || tail = 0 then s else raise 58 (s.put 0x700308 tail)

/-! ### Step 9 -/

/-- The group that a journal record names, and what it makes of it (R122, R138). -/
def applyGroupRecord (m : Tbl Group) (r : JournalRec) : Tbl Group :=
  let change := fun (tag : Nat) (f : Group → Group) => tset {} (tag % 262144) (f (tgetD {} (tag % 262144) m)) m
  match r.kind with
  | .groupOpen tag owner override limit =>
    change tag fun _ =>
      { phase := .opened, owner := if owner = 1 then .b else .a, override := override == 1, limit := limit, generation := tag / 262144,
        openStamp := r.stamp }
  | .groupCommit tag _ n => change tag fun g => { g with phase := .committed, commitStamp := r.stamp, provCount := n }
  | .groupAbort tag cause n => change tag fun g =>
      { g with phase := .aborted, endCause := cause, provCount := n, conflict := g.conflict || cause == 2 }
  | .groupRelease tag => change tag fun g => { generation := g.generation }
  | _ => m

/-- A group as RESTORE leaves it: LOST where it was open, with no binding, provisional line or result (R138). Words 4 to 6 of a committed
or aborted group stay, a lost one counts 0 lines (R118); the arguments are window words, which no curtain saves (R56). -/
def Group.resolved (g : Group) : Group :=
  let g := { g with
    extents := [], prov := [], argA := 0, argB := 0, result := 0, running := none, waiting := [], pendingForce := none, readers := [],
    fenced := false }
  if g.isOpen then { g with phase := .lost, endCause := 7, provCount := 0 } else g

/-- The group states are resolved; the groups that this RESTORE made LOST are counted, and any raises source 75 (R143). -/
def resolveGroups (source before : Tbl Group) (s : State) : State :=
  let now := source.foldl (fun m e => tset {} e.1 e.2.resolved m) []
  let fresh := now.filter fun e => e.2.phase == .lost && (tgetD {} e.1 before).phase != .lost
  raiseIf (!fresh.isEmpty) 75 (State.put { s with groups := now } 0x502008 fresh.length)

/-- A DMA channel after a RESTORE (Table — DMA across interruptions): its status is kept, its descriptor line is not (R56). -/
def DmaChannel.afterRestore (saved : Bool) (c : DmaChannel) : DmaChannel :=
  let none8 : List Word := [0, 0, 0, 0, 0, 0, 0, 0]
  let c := { c with desc := none8, captured := none8, runningWord := none, abortPending := false, carry := [] }
  if c.state = 4 then { c with state := 5 }
  else if c.state = 1 then
    if saved then { c with state := 5 }
    else { state := 5, residue := 0xFFFFFFFFFFFFFFFF, port := c.port }
  else if saved then c else {}

/-- The stores of a saved ingress queue become visible in their order, and partial writes are merged, before READY. -/
def reinstateQueues (i : Image) (s : State) : State :=
  let s := (s.modPort .a fun q => { q with queue := i.ingressA }).modPort .b fun q => { q with queue := i.ingressB }
  drainPort .b (drainPort .a s)

/-- The commit records still in the tail wait for their staged lines (R35). -/
def waitCommits (s : State) : State :=
  let waits := s.xlat.journal.filterMap fun r => match r.kind with
    | .groupCommit _ _ _ =>
      if r.programmed then none else some (r.stamp, (s.staging.filter fun l => l.tag.isSome && l.stamp == r.stamp).map (·.line))
    | _ => none
  { s with xlat := { s.xlat with commitWaits := waits.filter fun w => !w.2.isEmpty } }

/-- The groups of a save image: one whose context was saved with an uncorrectable word is as its journal records have it (R341). -/
def Image.knownGroups (i : Image) (s : State) : Tbl Group :=
  let told := s.xlat.journal.foldl applyGroupRecord []
  i.groups.foldl (fun m e => tset {} e.1 (if e.2.damaged then tgetD {} e.1 told else e.2) m) []

/-- Sections 1 to 5 of the image are reinstated; provisional lines are dropped (R138). -/
def reinstate (i : Image) (s : State) : State :=
  let staged := (i.staging.filter (·.grp.isNone)).map fun l => { l with row := none, cmpTo := [] }
  let s := { s with
    staging := staged,
    integ := { s.integ with
      cache := i.dirtyCounters,
      pendingEntries := s.integ.pendingEntries.filter fun e => !(i.dirtyCounters.any fun c => c.obj == e.1) },
    obs := { s.obs with dma := (i.dma.map fun e => (e.1, e.2.afterRestore true)).filter fun e => e.2 != {} } }
  let s := resolveGroups (i.knownGroups s) i.groups (waitCommits s)
  let s := reinstateQueues i (staged.foldl (fun t l => dirtySegment (segmentOfLine l.line) t) s)
  s.put 0x40410B 1

/-- Without an image nothing of the persistence domain is left: groups are as the journal has them. -/
def restoreUnsaved (s : State) : State :=
  let before := s.groups
  let dma := (s.obs.dma.map fun e => (e.1, e.2.afterRestore false)).filter fun e => e.2 != {}
  let s := { s with staging := [], obs := { s.obs with dma := dma } }
  resolveGroups (s.xlat.journal.foldl applyGroupRecord []) before s

/-- The report of a dirty shutdown (R39): its count, its source, and an event record on both ports where the source's routing posts none. -/
def reportDirty (s : State) : State :=
  let s := s.bump 0x402003
  let routing := s.get 0xE01806
  let mask := s.get 0xE01804
  let severity := s.get 0xE01805
  let record : EventRecord :=
    { handle := 0, source := 24, severity := severity, stamp := s.stampNow, time := s.deviceTime,
      values := ((s.snapshots 24).take 4).map (·.value) }
  let s := raise 24 s
  let s := if routes routing mask 1 then s else postRecord .a severity record s
  if routes routing mask 2 then s else postRecord .b severity record s

/-- The persistence domain after step 9: that of a usable save image, or the one that was lost. -/
def takeImage (s : State) : State :=
  match s.imageUsable, s.pow.image with
  | true, some i => reinstate i s
  | _, _ => restoreUnsaved s

/-- What step 9 reports: a dirty shutdown, and a cartridge that reached its floor. -/
def reportShutdown (s : State) : State :=
  let s := if s.modes.downKind = 4 then reportDirty s else s
  if s.pow.floorReached then raise 36 { s with pow := { s.pow with floorReached := false } } else s

/-- The image is used up, and the persist point is that of the present protection. -/
def fixPersistPoint (s : State) : State :=
  let held := s.protected
  let s := { s with pow := { s.pow with image := none, protectionWord := held, persistAtEntry := held } }
  updateProtection (if s.get 0x402001 = 2 then s.put 0x402001 0 else s)

/-- What an unprotected module took from its image has not reached the medium, for want of room in the log: the image stays armed (R24, R159). -/
def State.imageOwed (s : State) : Bool := !s.protected && s.pow.image.isSome && !s.staging.isEmpty

/-- The end of step 9: the image is never used twice (R159). Until its content is on the medium where that is due, the step goes on. -/
def endNine (s : State) : State :=
  let s := if s.protected then s else programAll s
  if s.imageOwed then { s with modes := { s.modes with restoreStep := 8 } }
  else
    let s := fixPersistPoint { s with modes := { s.modes with reinstated := false } }
    if s.modes.offHeld then startCurtain 5 { s with modes := { s.modes with offHeld := false } } else s

/-- Step 9. -/
def restoreNine (s : State) : State :=
  endNine (if s.modes.reinstated then s
    else { reportShutdown (takeImage s) with modes := { (reportShutdown (takeImage s)).modes with reinstated := true } })

/-- The segments of the enabled prompt regions. -/
def State.promptSegments (s : State) : List Nat :=
  ((s.enabledRegions.filter fun r => s.get (regionKey r 0x04) == 1).map fun r =>
    (List.range (s.get (regionKey r 0x03) / 4194304)).map fun i => s.get (regionKey r 0x02) / 4194304 + i).flatten

/-- The segments that overlap an extent of a group whose commit lies in the tail and whose open stamp lies before it (R163). -/
def State.earlyGroupSegments (s : State) : List Nat :=
  let tags := (s.xlat.commits.filter fun c => decide (c.2.1 < s.xlat.replayFrom) && decide (s.xlat.replayFrom ≤ c.2.2)).map (·.1)
  (s.xlat.journal.filterMap fun r => match r.kind with
    | .groupBind tag first n =>
      if tags.contains tag then some ((List.range ((first + n - 1) / 1024 - first / 1024 + 1)).map fun i => first / 1024 + i) else none
    | _ => none).flatten

/-- Step 10: the pre-READY rebuild, and the pinning of the prompt regions' counter blocks (R163, R324). -/
def restoreTen (s : State) : State :=
  let s := s.put 0x404101 4
  let s := (s.promptSegments ++ s.earlyGroupSegments).foldl (fun t g => rebuildSegment g t) s
  s.promptRegions.foldl (fun t r => pinRegion r t) s

/-- Step 11: READY, unless a HALT record keeps it low (R80, R330). -/
def restoreEleven (s : State) : State :=
  let s := s.put 0x404101 5
  match s.integ.halt with
  | some _ => s
  | none => releasePins (raiseReady .b (raiseReady .a (s.put 0x404102 ((s.clock - s.modes.vinValidAt) / 1000))))

/-- Step 13 (R330): HALT where a HALT record stands, else the serving mode of the band. -/
def endRestore (s : State) : State :=
  let s := releaseScratch ((s.put 0x404101 0).put 0x404103 ((s.clock - s.modes.vinValidAt) / 1000))
  match s.integ.halt with
  | none => setMode s.bandMode s
  | some _ =>
    if s.ready .a || s.ready .b then releasePins (haltNow none s)
    else setMode modeHalt (releasePins ((silence s).put 0x700301 1))

/-- One step of the timeline. -/
def restoreStepNow (n : Nat) (shifts : List (Option Nat)) (f : RestoreFindings) (s : State) : State :=
  let s : State := { s with modes := { s.modes with restoreStep := n } }
  if n = 6 then restoreSix shifts f s
  else if n = 8 then restoreEight (judgeLines s.integ.entries (judgeChain f (judgeDigests f (noteTornSave f (dropTorn f (s.put 0x404101 3))))))
  else if n = 9 then restoreNine s
  else if n = 10 then restoreTen s
  else if n = 11 then restoreEleven s
  else if n = 12 then rebuildAll s
  else if n = 13 then endRestore s
  else s

/-- The steps after the last one that has ended, up to `upTo`, while RESTORE lasts. -/
def restoreSteps : Nat → Nat → List (Option Nat) → RestoreFindings → State → State
  | 0, _, _, _, s => s
  | k + 1, upTo, shifts, f, s =>
    let n := s.modes.restoreStep + 1
    if s.mode = modeRestore ∧ n ≤ upTo ∧ n ≤ 13 then restoreSteps k upTo shifts f (restoreStepNow n shifts f s) else s

end Sys2Proof.Machine
end

