-- ==== Sys2Proof/Machine/Restore.lean ====
section
/-! DEFINITION. RESTORE and BACKGROUND_REBUILD_DONE (R162, R166). -/

namespace Sys2Proof.Machine

/-- RESTORE runs its timeline up to the end of step `upTo`: `shifts` is the measured shift of each die's youngest age meter bank in hundredths of
a level spacing (R275), and `found` what the steps read of the media and the parameter store. -/
def execRestore (upTo : Nat) (shifts : List (Option Nat)) (found : RestoreFindings) (s : State) : Host.Outcome State Fault Refusal :=
  .next (restoreSteps 8 upTo shifts found s)

/-- BACKGROUND_REBUILD_DONE: steps 12 and 13. -/
def execBackgroundRebuildDone (s : State) : Host.Outcome State Fault Refusal :=
  if s.mode = modeRestore ∧ 11 ≤ s.modes.restoreStep then .next (restoreSteps 2 13 [] {} s) else .next s

end Sys2Proof.Machine
end

