-- ==== Sys2Proof/Machine/Sessions.lean ====
section
/-! DEFINITION. Sessions: SESSION_OPEN, SESSION_RESPONSE, SESSION_CLOSE, their timeouts, the hold after failed proofs and
LEVEL_KEY_WRITE, CLOSE_ALL_SESSIONS (R441 to R446, R465). -/

namespace Sys2Proof.Machine

/-! ### The handshake's messages (R441, R442, R462) -/

/-- The answer to a handshake step. -/
def sendStep (req : Req) (mailboxOp linkOp status : Nat) (value : List Byte) (s : State) : State :=
  emit (.dict req.path (if onLink req.path then linkOp else mailboxOp) (replyHead req 0 0) status 0 value none) s

/-- The bytes of a nonce. -/
def nonceBytes (v : BitVec 128) : List Byte := natToBytes 16 v.toNat

/-- "ZL-sess", "ZL-sk", "ZL-kw" and "ZL-kk" in ASCII. -/
def textSess : List Byte := [0x5A, 0x4C, 0x2D, 0x73, 0x65, 0x73, 0x73]
def textTagKey : List Byte := [0x5A, 0x4C, 0x2D, 0x73, 0x6B]
def textWrapKey : List Byte := [0x5A, 0x4C, 0x2D, 0x6B, 0x77]

/-- The proof that a response must carry. -/
def State.proofOf (s : State) (r : Reservation) (key : List Byte) : BitVec 256 :=
  Config.hmacSha256 key (textSess ++ s.getBytes 0x100007 ++ nonceBytes r.moduleNonce ++ nonceBytes r.requesterNonce ++
    natToBytes 1 r.level ++ natToBytes 1 (pathCode r.path))

/-- A session key. -/
def sessionKey (text : List Byte) (r : Reservation) (key : List Byte) : List Byte :=
  Config.hkdfSha256 key (nonceBytes r.moduleNonce ++ nonceBytes r.requesterNonce) (text ++ natToBytes 2 r.number ++ natToBytes 1 (pathCode r.path))

/-! ### Failed proofs (R444, R465) -/

/-- A path is held. -/
def State.held (s : State) (path : Path) : Bool := s.mgmt.holds.any fun h => h.1 == path

/-- The link stations with a failure record. -/
def State.failing (s : State) : List Path := ((s.mgmt.failures.map (·.1)).filter onLink).eraseDups

/-- The clock of a path's last failure. -/
def State.lastFailure (s : State) (path : Path) : Nat := (s.mgmt.failures.filter fun f => f.1 == path).foldl (fun m f => max m f.2) 0

/-- The record that a new failing address takes: its hold has expired and its last failure is oldest. -/
def State.staleRecord (s : State) : Option Path :=
  ((s.failing.filter fun p => !s.held p).foldl (fun (m : Option (Path × Nat)) p => match m with
    | none => some (p, s.lastFailure p)
    | some x => if s.lastFailure p < x.2 then some (p, s.lastFailure p) else m) none).map (·.1)

/-- Every one of the 64 records is held, and the address has none. -/
def State.recordsHeld (s : State) (path : Path) : Bool :=
  onLink path && !s.failing.contains path && decide (64 ≤ s.failing.length) && s.staleRecord.isNone

/-- A failed proof is recorded: failures within 60 s count toward the limit that starts a hold. -/
def noteFailure (path : Path) (s : State) : State :=
  let s := raise 128 (s.bump 0x110004)
  let full := onLink path && !s.failing.contains path && decide (64 ≤ s.failing.length)
  if full && s.staleRecord.isNone then s
  else
    let out := if full then s.staleRecord else none
    let kept := s.mgmt.failures.filter fun f => some f.1 != out && (f.1 != path || decide (s.clock < f.2 + 60000000000))
    let s := { s with mgmt := { s.mgmt with failures := kept ++ [(path, s.clock)] } }
    if s.get 0x110005 ≤ (s.mgmt.failures.filter fun f => f.1 == path).length && !s.held path then
      { s with mgmt := { s.mgmt with holds := s.mgmt.holds ++ [(path, s.clock)] } }
    else s

/-! ### Session numbers -/

/-- A number in 1 to 65,535. -/
def wrapNumber (n : Nat) : Nat := (n - 1) % 65535 + 1

/-- The next session number that neither a session nor a reservation holds. -/
def State.freeNumber (s : State) : Nat :=
  let used := s.mgmt.sessions.map (·.number) ++ s.mgmt.reservations.map (·.number)
  (((List.range 65535).map fun i => wrapNumber (s.mgmt.nextSession + i)).find? fun n => !used.contains n).getD (wrapNumber s.mgmt.nextSession)

/-! ### The steps -/

/-- Step 1 where nothing refuses it. The module nonce is random: a free value. -/
def reserveNumber (req : Req) (level : Nat) (nonce : BitVec 128) (s : State) : State :=
  let n := s.freeNumber
  let own : BitVec 128 := BitVec.ofNat 128 s.freeNow
  let r : Reservation := { number := n, path := req.path, level := level, requesterNonce := nonce, moduleNonce := own, clock := s.clock }
  let s := drawn { s with mgmt := { s.mgmt with reservations := s.mgmt.reservations ++ [r], nextSession := wrapNumber (n + 1) } }
  sendStep req 0xC003 0x10 stOk (natToBytes 2 n ++ nonceBytes own) s

/-- Step 1 of Table — Session handshake. -/
def openStep (req : Req) (level : Nat) (nonce : BitVec 128) (s : State) : State :=
  if (s.levelKey level).isNone then sendStep req 0xC003 0x10 stAccessDenied [] s
  else if 8 ≤ s.mgmt.sessions.length ∨ s.held req.path ∨ s.recordsHeld req.path then
    sendStep req 0xC003 0x10 stBusy [] (raise 129 s)
  else reserveNumber req level nonce s

/-- SESSION_OPEN (R441 step 1). -/
def execSessionOpen (req : Req) (level : Nat) (nonce : BitVec 128) (s : State) : Host.Outcome State Fault Refusal :=
  .next (arrive req.path (sendStep req 0xC003 0x10 stBusy []) (openStep req level nonce) s)

/-- Step 2: a matching proof opens the session. DESIGN CHOICE (log 199): with 8 sessions open already it answers BUSY and frees the reservation. -/
def responseStep (req : Req) (number : Nat) (proof : BitVec 256) (s : State) : State :=
  match s.mgmt.reservations.find? fun r => r.number == number && r.path == req.path with
  | none => sendStep req 0xC004 0x11 stAuthRequired [] s
  | some r =>
    let s := { s with mgmt := { s.mgmt with reservations := s.mgmt.reservations.filter fun x => x.number != number } }
    match s.levelKey r.level with
    | none => sendStep req 0xC004 0x11 stAccessDenied [] s
    | some key =>
      if proof ≠ s.proofOf r key then sendStep req 0xC004 0x11 stAccessDenied [] (noteFailure req.path s)
      else if 8 ≤ s.mgmt.sessions.length then sendStep req 0xC004 0x11 stBusy [] s
      else
        let x : Session :=
          { number := number, path := req.path, level := r.level, tagKey := sessionKey textTagKey r key, wrapKey := sessionKey textWrapKey r key,
            lastUse := s.clock }
        sendStep req 0xC004 0x11 stOk (natToBytes 2 number) { s with mgmt := { s.mgmt with sessions := s.mgmt.sessions ++ [x] } }

/-- SESSION_RESPONSE (R441 step 2). -/
def execSessionResponse (req : Req) (number : Nat) (proof : BitVec 256) (s : State) : Host.Outcome State Fault Refusal :=
  .next (arrive req.path (sendStep req 0xC004 0x11 stBusy []) (responseStep req number proof) s)

/-- The tagged answer to a session close. -/
def closeAnswer (key : Option (List Byte)) (req : Req) (status : Nat) (reduced : Bool) : Out :=
  let op := if onLink req.path then 0x12 else 0xC005
  let flags := 1 + (if key.isSome then 2 else 0) + (if reduced then 8 else 0)
  let message := fun (k : List Byte) => match req.path with
    | .mailbox _ => authTag k (covered req op status flags 0 0 0 status 0 [] [])
    | .fieldLink _ => authTag k (udxHeader op flags req.session req.transaction req.counter ++ natToBytes 2 status)
  .dict req.path op (replyHead req 0 0) status 0 [] (key.map message)

/-- A session close without effect. -/
def refuseClose (req : Req) (status : Nat) (s : State) : State :=
  emit (closeAnswer (if status = stRequestIntegrity then s.replyKey req else none) req status s.reducedService) s

/-- The session of the request ends. -/
def closeNow (req : Req) (s : State) : State :=
  endSessions (fun x => x.number == req.session) (emit (closeAnswer (s.replyKey req) req stOk s.reducedService) s)

/-- SESSION_CLOSE (R445). -/
def execSessionClose (req : Req) (s : State) : Host.Outcome State Fault Refusal :=
  .next (arrive req.path (refuseClose req stBusy)
    (inSession req (fun key => closeTag key req) (refuseClose req) (closeNow req)) s)

/-! ### Timeouts -/

/-- SESSION_RESERVATION_TIMEOUT: the reservation is freed. -/
def execSessionReservationTimeout (number : Nat) (s : State) : Host.Outcome State Fault Refusal :=
  .next { s with mgmt := { s.mgmt with reservations := s.mgmt.reservations.filter fun r => r.number != number } }

/-- SESSION_IDLE_TIMEOUT: the session ends. -/
def execSessionIdleTimeout (number : Nat) (s : State) : Host.Outcome State Fault Refusal :=
  .next (endSessions (fun x => x.number == number) s)

/-- PROOF_HOLD_EXPIRY: the path's session open is accepted again. -/
def execProofHoldExpiry (path : Path) (s : State) : Host.Outcome State Fault Refusal :=
  .next { s with mgmt := { s.mgmt with holds := s.mgmt.holds.filter fun h => h.1 != path } }

/-! ### Keys and sessions through the dictionary -/

/-- LEVEL_KEY_WRITE of 0x1110.01 to .04 (R446). -/
def execLevelKeyWrite (req : Req) (level : Fin 4) (wrapped : List Byte) (s : State) : Host.Outcome State Fault Refusal :=
  .next (request req 0x1110 (level.val + 1) (.write wrapped) {} s)

/-- CLOSE_ALL_SESSIONS, the action 0x1100.07 (R445). -/
def execCloseAllSessions (req : Req) (s : State) : Host.Outcome State Fault Refusal :=
  .next (request req 0x1100 0x07 (.act []) {} s)

end Sys2Proof.Machine
end

