-- ==== Sys2Proof/Machine/Dispatch.lean ====
section
/-! DEFINITION. The effect of each command: one arm for each constructor of `Instr`, each one call of its meaning. -/

namespace Sys2Proof.Machine

def exec (i : Instr) (s : State) : Host.Outcome State Fault Refusal :=
  match i with
  | .fullLineWrite p tag line data => Sys2Proof.Machine.execFullLineWrite p tag line data s
  | .partialWrite p tag line be data => Sys2Proof.Machine.execPartialWrite p tag line be data s
  | .mergePlacement p tag => Sys2Proof.Machine.execMergePlacement p tag s
  | .poisonedWrite p tag line => Sys2Proof.Machine.execPoisonedWrite p tag line s
  | .globalVisibilityTransfer p => Sys2Proof.Machine.execGlobalVisibilityTransfer p s
  | .memRd p tag line => Sys2Proof.Machine.execMemRd p tag line s
  | .mediumSectorReadDone rid bch tags => Sys2Proof.Machine.execMediumSectorReadDone rid bch tags s
  | .patienceExpiry rid => Sys2Proof.Machine.execPatienceExpiry rid s
  | .suspension region => Sys2Proof.Machine.execSuspension region s
  | .suspendOverrun region => Sys2Proof.Machine.execSuspendOverrun region s
  | .resume region => Sys2Proof.Machine.execResume region s
  | .portResponseDeadline rid => Sys2Proof.Machine.execPortResponseDeadline rid s
  | .mediaRetryEnd rid senses => Sys2Proof.Machine.execMediaRetryEnd rid senses s
  | .failedCheck obj => Sys2Proof.Machine.execFailedCheck obj s
  | .barrierWordRead p tag => Sys2Proof.Machine.execBarrierWordRead p tag s
  | .windowAccess p tag dpa op => Sys2Proof.Machine.execWindowAccess p tag dpa op s
  | .groupControlRead p tag g => Sys2Proof.Machine.execGroupControlRead p tag g s
  | .openGroup p tag g a b => Sys2Proof.Machine.execOpenGroup p tag g a b s
  | .bindGroup p tag g a b => Sys2Proof.Machine.execBindGroup p tag g a b s
  | .commitGroup p tag g a b => Sys2Proof.Machine.execCommitGroup p tag g a b s
  | .commitInstant g => Sys2Proof.Machine.execCommitInstant g s
  | .abortGroup p tag g a b => Sys2Proof.Machine.execAbortGroup p tag g a b s
  | .releaseGroup p tag g a b => Sys2Proof.Machine.execReleaseGroup p tag g a b s
  | .unassignedGroupCommand p tag g code a b => Sys2Proof.Machine.execUnassignedGroupCommand p tag g code a b s
  | .groupCommandFinish g => Sys2Proof.Machine.execGroupCommandFinish g s
  | .forceAbort req arg => Sys2Proof.Machine.execForceAbort req arg s
  | .reserveRead p tag cell => Sys2Proof.Machine.execReserveRead p tag cell s
  | .conditionalStore p tag cell be data => Sys2Proof.Machine.execConditionalStore p tag cell be data s
  | .plainCellStore p tag cell be data => Sys2Proof.Machine.execPlainCellStore p tag cell be data s
  | .resultRead p tag cell => Sys2Proof.Machine.execResultRead p tag cell s
  | .discard p tag start length => Sys2Proof.Machine.execDiscard p tag start length s
  | .discardInstant p => Sys2Proof.Machine.execDiscardInstant p s
  | .unmapperDone entry => Sys2Proof.Machine.execUnmapperDone entry s
  | .userCounterWindowRead p tag lineIndex => Sys2Proof.Machine.execUserCounterWindowRead p tag lineIndex s
  | .globalPersistentFlushPhase1 p => Sys2Proof.Machine.execGlobalPersistentFlushPhase1 p s
  | .globalPersistentFlushPhase2 p => Sys2Proof.Machine.execGlobalPersistentFlushPhase2 p s
  | .hdmDecoderCommit p n ways dpaBase size => Sys2Proof.Machine.execHdmDecoderCommit p n ways dpaBase size s
  | .portDetect p => Sys2Proof.Machine.execPortDetect p s
  | .linkUp p rate width => Sys2Proof.Machine.execLinkUp p rate width s
  | .linkTrainingFailed p => Sys2Proof.Machine.execLinkTrainingFailed p s
  | .portException p cause => Sys2Proof.Machine.execPortException p cause s
  | .perst p asserted => Sys2Proof.Machine.execPerst p asserted s
  | .surpriseLinkLoss p => Sys2Proof.Machine.execSurpriseLinkLoss p s
  | .viralReceived p => Sys2Proof.Machine.execViralReceived p s
  | .portEnableWrite req which value => Sys2Proof.Machine.execPortEnableWrite req which value s
  | .identify p => Sys2Proof.Machine.execIdentify p s
  | .getEventRecords p log => Sys2Proof.Machine.execGetEventRecords p log s
  | .clearEventRecords p log handles => Sys2Proof.Machine.execClearEventRecords p log handles s
  | .getEventInterruptPolicy p => Sys2Proof.Machine.execGetEventInterruptPolicy p s
  | .setEventInterruptPolicy p info warn fail fatal => Sys2Proof.Machine.execSetEventInterruptPolicy p info warn fail fatal s
  | .getFwInfo p => Sys2Proof.Machine.execGetFwInfo p s
  | .transferFw p signatureOk version => Sys2Proof.Machine.execTransferFw p signatureOk version s
  | .activateFw p online result => Sys2Proof.Machine.execActivateFw p online result s
  | .getTimestamp p => Sys2Proof.Machine.execGetTimestamp p s
  | .setTimestamp p time => Sys2Proof.Machine.execSetTimestamp p time s
  | .identifyMemoryDevice p => Sys2Proof.Machine.execIdentifyMemoryDevice p s
  | .getHealthInfo p => Sys2Proof.Machine.execGetHealthInfo p s
  | .sanitize via => Sys2Proof.Machine.execSanitize via s
  | .secureErase p => Sys2Proof.Machine.execSecureErase p s
  | .unsupportedMailboxOpcode p opcode => Sys2Proof.Machine.execUnsupportedMailboxOpcode p opcode s
  | .entryRead req idx sub => Sys2Proof.Machine.execEntryRead req idx sub s
  | .rcEntryRead req idx sub => Sys2Proof.Machine.execRcEntryRead req idx sub s
  | .entryWrite req idx sub value => Sys2Proof.Machine.execEntryWrite req idx sub value s
  | .blockRead req idx sub offset length => Sys2Proof.Machine.execBlockRead req idx sub offset length s
  | .blockWrite req idx sub offset segment final => Sys2Proof.Machine.execBlockWrite req idx sub offset segment final s
  | .sessionOpen req level nonce => Sys2Proof.Machine.execSessionOpen req level nonce s
  | .sessionResponse req number proof => Sys2Proof.Machine.execSessionResponse req number proof s
  | .sessionClose req => Sys2Proof.Machine.execSessionClose req s
  | .sessionReservationTimeout number => Sys2Proof.Machine.execSessionReservationTimeout number s
  | .sessionIdleTimeout number => Sys2Proof.Machine.execSessionIdleTimeout number s
  | .proofHoldExpiry path => Sys2Proof.Machine.execProofHoldExpiry path s
  | .levelKeyWrite req level wrapped => Sys2Proof.Machine.execLevelKeyWrite req level wrapped s
  | .closeAllSessions req => Sys2Proof.Machine.execCloseAllSessions req s
  | .setDefaults req => Sys2Proof.Machine.execSetDefaults req s
  | .forceUnprotectedWrite req value => Sys2Proof.Machine.execForceUnprotectedWrite req value s
  | .deviceTimeWrite req value => Sys2Proof.Machine.execDeviceTimeWrite req value s
  | .regionAttributeWrite req region sub value => Sys2Proof.Machine.execRegionAttributeWrite req region sub value s
  | .regionClassWrite req region value => Sys2Proof.Machine.execRegionClassWrite req region value s
  | .promptPreparationDone region => Sys2Proof.Machine.execPromptPreparationDone region s
  | .policyProfileWrite req value => Sys2Proof.Machine.execPolicyProfileWrite req value s
  | .stagingHoldExpiry line group => Sys2Proof.Machine.execStagingHoldExpiry line group s
  | .logRowDispatch => Sys2Proof.Machine.execLogRowDispatch s
  | .logRowCloseTime => Sys2Proof.Machine.execLogRowCloseTime s
  | .logRowComplete mark => Sys2Proof.Machine.execLogRowComplete mark s
  | .programDispatch job => Sys2Proof.Machine.execProgramDispatch job s
  | .programComplete op ok => Sys2Proof.Machine.execProgramComplete op ok s
  | .stripePageComplete id => Sys2Proof.Machine.execStripePageComplete id s
  | .chunkGrant channel => Sys2Proof.Machine.execChunkGrant channel s
  | .dieTemperatureRead die celsius => Sys2Proof.Machine.execDieTemperatureRead die celsius s
  | .stampCeilingRaise => Sys2Proof.Machine.execStampCeilingRaise s
  | .checkpoint => Sys2Proof.Machine.execCheckpoint s
  | .segmentFold segment => Sys2Proof.Machine.execSegmentFold segment s
  | .directoryImage => Sys2Proof.Machine.execDirectoryImage s
  | .demandRebuild segment => Sys2Proof.Machine.execDemandRebuild segment s
  | .segmentRebuilt segment => Sys2Proof.Machine.execSegmentRebuilt segment s
  | .backgroundRebuildDone => Sys2Proof.Machine.execBackgroundRebuildDone s
  | .foldStart => Sys2Proof.Machine.execFoldStart s
  | .foldStop => Sys2Proof.Machine.execFoldStop s
  | .foldStripePageDispatch => Sys2Proof.Machine.execFoldStripePageDispatch s
  | .foldMapSet id => Sys2Proof.Machine.execFoldMapSet id s
  | .logTrim => Sys2Proof.Machine.execLogTrim s
  | .logRelocation line => Sys2Proof.Machine.execLogRelocation line s
  | .collection => Sys2Proof.Machine.execCollection s
  | .collectionCritical => Sys2Proof.Machine.execCollectionCritical s
  | .destinationProgramFailure stripe channel => Sys2Proof.Machine.execDestinationProgramFailure stripe channel s
  | .sourceSectorFailure unit page sector recovered => Sys2Proof.Machine.execSourceSectorFailure unit page sector recovered s
  | .wearLevellingMove => Sys2Proof.Machine.execWearLevellingMove s
  | .roleRotation ring index => Sys2Proof.Machine.execRoleRotation ring index s
  | .hourlyTrickle => Sys2Proof.Machine.execHourlyTrickle s
  | .ageMeterReprogram => Sys2Proof.Machine.execAgeMeterReprogram s
  | .priorityPass => Sys2Proof.Machine.execPriorityPass s
  | .patrolVisit unit report => Sys2Proof.Machine.execPatrolVisit unit report s
  | .outOfTurnVisit unit report => Sys2Proof.Machine.execOutOfTurnVisit unit report s
  | .unitRetest unit pass => Sys2Proof.Machine.execUnitRetest unit pass s
  | .demotion stripe => Sys2Proof.Machine.execDemotion stripe s
  | .floorRestoreMove page => Sys2Proof.Machine.execFloorRestoreMove page s
  | .dieRetiring die => Sys2Proof.Machine.execDieRetiring die s
  | .dieFailed die => Sys2Proof.Machine.execDieFailed die s
  | .channelRetired channel canTransfer failedTraining => Sys2Proof.Machine.execChannelRetired channel canTransfer failedTraining s
  | .rebuildComplete die => Sys2Proof.Machine.execRebuildComplete die s
  | .stripeWithdrawn stripe => Sys2Proof.Machine.execStripeWithdrawn stripe s
  | .retireDie req arg => Sys2Proof.Machine.execRetireDie req arg s
  | .regionOffline req arg => Sys2Proof.Machine.execRegionOffline req arg s
  | .regionOnline req arg => Sys2Proof.Machine.execRegionOnline req arg s
  | .stampFormConversion line => Sys2Proof.Machine.execStampFormConversion line s
  | .writeBackBatch => Sys2Proof.Machine.execWriteBackBatch s
  | .integrityTableImage stripe => Sys2Proof.Machine.execIntegrityTableImage stripe s
  | .integrityLineFetch obj lines => Sys2Proof.Machine.execIntegrityLineFetch obj lines s
  | .counterCacheError obj fault => Sys2Proof.Machine.execCounterCacheError obj fault s
  | .resumeFromHalt req arg => Sys2Proof.Machine.execResumeFromHalt req arg s
  | .renewKeySlot req arg => Sys2Proof.Machine.execRenewKeySlot req arg s
  | .scrub mem address result => Sys2Proof.Machine.execScrub mem address result s
  | .uncorrectableError what => Sys2Proof.Machine.execUncorrectableError what s
  | .criticalStateError => Sys2Proof.Machine.execCriticalStateError s
  | .rowSelfTest mem row pass => Sys2Proof.Machine.execRowSelfTest mem row pass s
  | .sectorSelfTest unit page sector rereadPasses patternPasses => Sys2Proof.Machine.execSectorSelfTest unit page sector rereadPasses patternPasses s
  | .clearTable req => Sys2Proof.Machine.execClearTable req s
  | .writeRaw req => Sys2Proof.Machine.execWriteRaw req s
  | .readRaw req result decoded => Sys2Proof.Machine.execReadRaw req result decoded s
  | .vinValid mv => Sys2Proof.Machine.execVinValid mv s
  | .inputLoss mv => Sys2Proof.Machine.execInputLoss mv s
  | .overvoltage mv => Sys2Proof.Machine.execOvervoltage mv s
  | .inputSwitchReclose mv => Sys2Proof.Machine.execInputSwitchReclose mv s
  | .bandDown mv => Sys2Proof.Machine.execBandDown mv s
  | .bandUp mv => Sys2Proof.Machine.execBandUp mv s
  | .powerCapAdjust meanMw => Sys2Proof.Machine.execPowerCapAdjust meanMw s
  | .rise railsGood firmwareOk => Sys2Proof.Machine.execRise railsGood firmwareOk s
  | .railFault code restarts => Sys2Proof.Machine.execRailFault code restarts s
  | .retryRails req => Sys2Proof.Machine.execRetryRails req s
  | .fall stuck vinAbsent => Sys2Proof.Machine.execFall stuck vinAbsent s
  | .lossOfProtection => Sys2Proof.Machine.execLossOfProtection s
  | .protectionRestored => Sys2Proof.Machine.execProtectionRestored s
  | .yoYoTest cmf esrMohm v0mv => Sys2Proof.Machine.execYoYoTest cmf esrMohm v0mv s
  | .runYoYoTest req => Sys2Proof.Machine.execRunYoYoTest req s
  | .cartridgeRemoved => Sys2Proof.Machine.execCartridgeRemoved s
  | .cartridgeInserted ident => Sys2Proof.Machine.execCartridgeInserted ident s
  | .curtain cause => Sys2Proof.Machine.execCurtain cause s
  | .curtainCommitPoint => Sys2Proof.Machine.execCurtainCommitPoint s
  | .curtainCancelled mv => Sys2Proof.Machine.execCurtainCancelled mv s
  | .curtainOutcome => Sys2Proof.Machine.execCurtainOutcome s
  | .cartridgeFloor => Sys2Proof.Machine.execCartridgeFloor s
  | .shortPress => Sys2Proof.Machine.execShortPress s
  | .serviceRequestWindowEnd => Sys2Proof.Machine.execServiceRequestWindowEnd s
  | .serviceRelease req => Sys2Proof.Machine.execServiceRelease req s
  | .forcedPowerDown => Sys2Proof.Machine.execForcedPowerDown s
  | .mrN widthNs => Sys2Proof.Machine.execMrN widthNs s
  | .restore upTo shifts found => Sys2Proof.Machine.execRestore upTo shifts found s
  | .offRequest req => Sys2Proof.Machine.execOffRequest req s
  | .onRequest req => Sys2Proof.Machine.execOnRequest req s
  | .minimumOffTimeEnd => Sys2Proof.Machine.execMinimumOffTimeEnd s
  | .deviceReset req => Sys2Proof.Machine.execDeviceReset req s
  | .managementWatchdog => Sys2Proof.Machine.execManagementWatchdog s
  | .enterDoze req => Sys2Proof.Machine.execEnterDoze req s
  | .idleTimer => Sys2Proof.Machine.execIdleTimer s
  | .dozeEntryStep => Sys2Proof.Machine.execDozeEntryStep s
  | .wake source => Sys2Proof.Machine.execWake source s
  | .wakeN widthNs => Sys2Proof.Machine.execWakeN widthNs s
  | .wakeDelay => Sys2Proof.Machine.execWakeDelay s
  | .enterService req => Sys2Proof.Machine.execEnterService req s
  | .leaveService req => Sys2Proof.Machine.execLeaveService req s
  | .serviceTimeLimit => Sys2Proof.Machine.execServiceTimeLimit s
  | .activateOnline req result => Sys2Proof.Machine.execActivateOnline req result s
  | .slowRound channels => Sys2Proof.Machine.execSlowRound channels s
  | .reAdmitSensor req arg => Sys2Proof.Machine.execReAdmitSensor req arg s
  | .throttleCleared => Sys2Proof.Machine.execThrottleCleared s
  | .enforcementLevel => Sys2Proof.Machine.execEnforcementLevel s
  | .lockout => Sys2Proof.Machine.execLockout s
  | .frameReceived frame => Sys2Proof.Machine.execFrameReceived frame s
  | .discover source => Sys2Proof.Machine.execDiscover source s
  | .rattle code => Sys2Proof.Machine.execRattle code s
  | .notice => Sys2Proof.Machine.execNotice s
  | .beaconLoss => Sys2Proof.Machine.execBeaconLoss s
  | .beaconReceived => Sys2Proof.Machine.execBeaconReceived s
  | .nodeIdConflict => Sys2Proof.Machine.execNodeIdConflict s
  | .fieldLinkConfigWrite req sub value => Sys2Proof.Machine.execFieldLinkConfigWrite req sub value s
  | .reducedRateRefill => Sys2Proof.Machine.execReducedRateRefill s
  | .occurrence source => Sys2Proof.Machine.execOccurrence source s
  | .latchClear req source value => Sys2Proof.Machine.execLatchClear req source value s
  | .heldMsiX p => Sys2Proof.Machine.execHeldMsiX p s
  | .recorderWrite => Sys2Proof.Machine.execRecorderWrite s
  | .captureEpisode => Sys2Proof.Machine.execCaptureEpisode s
  | .clearRecorder req arg => Sys2Proof.Machine.execClearRecorder req arg s
  | .coreDelayMargin quadrant => Sys2Proof.Machine.execCoreDelayMargin quadrant s
  | .crossingError source => Sys2Proof.Machine.execCrossingError source s
  | .completionStall => Sys2Proof.Machine.execCompletionStall s
  | .counterSelectWrite req n value => Sys2Proof.Machine.execCounterSelectWrite req n value s
  | .counterStickyClear req n value => Sys2Proof.Machine.execCounterStickyClear req n value s
  | .counterWrap n => Sys2Proof.Machine.execCounterWrap n s
  | .bandwidthWindowEnd p => Sys2Proof.Machine.execBandwidthWindowEnd p s
  | .queueFlush req value => Sys2Proof.Machine.execQueueFlush req value s
  | .oldestSampleItemRead req => Sys2Proof.Machine.execOldestSampleItemRead req s
  | .dmaDescriptorWrite p tag ch be data => Sys2Proof.Machine.execDmaDescriptorWrite p tag ch be data s
  | .dmaStart p tag ch => Sys2Proof.Machine.execDmaStart p tag ch s
  | .dmaAbort p tag ch => Sys2Proof.Machine.execDmaAbort p tag ch s
  | .dmaBurstPlaced ch => Sys2Proof.Machine.execDmaBurstPlaced ch s
  | .drainIdleTimer ch => Sys2Proof.Machine.execDrainIdleTimer ch s
  | .releaseChannel req arg => Sys2Proof.Machine.execReleaseChannel req arg s
  | .mrNHigh => Sys2Proof.Machine.execMrNHigh s
  | .stuckRailCleared code => Sys2Proof.Machine.execStuckRailCleared code s

end Sys2Proof.Machine
end

