-- ==== Sys2Proof/Machine/Time.lean ====
section
/-! DEFINITION. What passes with time when no command waits: the clocks, the counters of device time, and the end of an online activation. -/

namespace Sys2Proof.Machine

/-- The freeze of an online activation ends 180 ms after it began, the sum of the longest steps (R411). -/
def activationEnds (s : State) : State :=
  match s.modes.activation with
  | none => s
  | some a => if a.clock + 180000000 ≤ s.clock then finishActivation s else s

/-- One nanosecond: the reference clock, device time in every mode but OFF, the clock of service in the serving modes, the
counters that count device time once per microsecond (Table — Counter events, code 0x01), and power-on time. -/
def tick (s : State) : State :=
  let on := s.mode != modeOff
  let s' := { s with
    clock := s.clock + 1,
    service := if s.serving then s.service + 1 else s.service,
    deviceTime := if on then s.deviceTime + 1 else s.deviceTime }
  let s' := if on && s'.deviceTime % 1000 == 0 then count1 0x01 31 s' else s'
  activationEnds (if on && s'.clock % 1000000000 == 0 then s'.bump 0x10000B else s')

end Sys2Proof.Machine
end

