-- ==== Sys2Proof/Safety.lean ====
section
/-! DEFINITION. What statements speak of: a step that answers a next state, a command that completes with an effect, and the forms that
every step keeps. -/

namespace Sys2Proof.Machine

/-- The outcome is a next state. -/
def isNext : Host.Outcome State Fault Refusal → Bool
  | .next _ => true
  | .fault _ => false
  | .refused _ => false

/-- The machine does not stop at this step. -/
def Safe (s : State) : Prop := isNext (step s) = true

/-- The command completes in a state: its meaning answers a next state, of which `P` holds. -/
def Completes (c : Instr) (s : State) (P : State → Prop) : Prop := ∃ t, exec c s = .next t ∧ P t

/-- A register that reports may write: the saved ceiling of the order stamp, the notice counts, the recorder's counts, the
registers of the event sources, and the performance counters. -/
abbrev reportKey (k : Nat) : Prop :=
  k = 0x405003 ∨ k = 0x140203 ∨ k = 0x140204 ∨ k = 0xA00103 ∨ k = 0xA00104 ∨ 0xE00000 ≤ k ∨ (0xB10000 ≤ k ∧ k < 0xB10400)

/-- A count has gone up by `n`. -/
def Counted (key n : Nat) (s t : State) : Prop := t.get key = countAfter key (s.get key) n

/-- An event source has occurred, where the mode lets it: its latch reads 1. -/
def Raised (src : Nat) (s t : State) : Prop := s.canOccur src = true → t.get (sourceKey src 0x01) = 1

/-- A command leaves a part of the state as it is. -/
def Leaves {α : Type} (c : Instr) (part : State → α) : Prop := ∀ s t, exec c s = .next t → part t = part s

/-- A command leaves every entry of the register file but those of reports, those listed, and those in the spans (a first key and an end). -/
def LeavesEntries (c : Instr) (keys : List Nat) (spans : List (Nat × Nat)) : Prop :=
  ∀ s t, exec c s = .next t → ∀ k, ¬reportKey k → k ∉ keys → (∀ x ∈ spans, k < x.1 ∨ x.2 ≤ k) → t.get k = s.get k

/-- The shapes of commands: those of one shape may write the same parts of the state. -/
inductive Shape where
  /-- A store of a host, of a line, a cell or a window. -/
  | hostStore
  /-- A write of a command word in a window. -/
  | windowCommand
  /-- A read of a host. -/
  | hostRead
  /-- What happens to a read on its way. -/
  | readEvent
  /-- A drain of a queue. -/
  | drain
  /-- A group command ends, or a group commits. -/
  | groupEvent
  /-- A discard takes effect. -/
  | discardEvent
  /-- A burst of a DMA channel. -/
  | burst
  /-- The log writer works. -/
  | logWriting
  /-- A program or transfer runs. -/
  | program
  /-- Pages move. -/
  | moving
  /-- Patrol, ages and retests. -/
  | upkeep
  /-- A die leaves service. -/
  | dieEvent
  /-- Translation and integrity are kept. -/
  | translation
  /-- A port event. -/
  | portEvent
  /-- A standard mailbox command. -/
  | mailbox
  /-- A session event. -/
  | session
  /-- A field link event. -/
  | fieldLink
  /-- A report. -/
  | report
  /-- A self-test or scrub. -/
  | codeEvent
  /-- A supply event that saves nothing. -/
  | supply
  /-- A step of DOZE, SERVICE, throttling or a curtain under way, or a secure erase. -/
  | quietEvent
  /-- An event that may end service. -/
  | modeEvent
  /-- The input comes about. -/
  | powerOn
  /-- RESTORE may begin. -/
  | restart
  /-- RESTORE runs. -/
  | restoring
  /-- A dictionary request. -/
  | request
  deriving DecidableEq, Repr

/-- The shape of a command. -/
def shape (c : Instr) : Shape :=
  match c with
  | .fullLineWrite .. | .partialWrite .. | .poisonedWrite .. | .conditionalStore .. | .plainCellStore .. | .windowAccess .. => .hostStore
  | .openGroup .. | .bindGroup .. | .commitGroup .. | .abortGroup .. | .releaseGroup .. | .unassignedGroupCommand .. | .discard .. |
    .dmaDescriptorWrite .. | .dmaStart .. | .dmaAbort .. => .windowCommand
  | .memRd .. | .groupControlRead .. | .reserveRead .. | .resultRead .. | .userCounterWindowRead .. | .barrierWordRead .. => .hostRead
  | .mediumSectorReadDone .. | .patienceExpiry .. | .suspension .. | .resume .. | .suspendOverrun .. | .portResponseDeadline .. => .readEvent
  | .mergePlacement .. | .globalVisibilityTransfer .. | .globalPersistentFlushPhase1 .. | .globalPersistentFlushPhase2 .. => .drain
  | .commitInstant .. | .groupCommandFinish .. => .groupEvent
  | .discardInstant .. | .unmapperDone .. => .discardEvent
  | .dmaBurstPlaced .. | .drainIdleTimer .. => .burst
  | .stagingHoldExpiry .. | .logRowDispatch .. | .logRowCloseTime .. | .logRowComplete .. => .logWriting
  | .programDispatch .. | .programComplete .. | .stripePageComplete .. | .chunkGrant .. => .program
  | .foldStart .. | .foldStop .. | .foldStripePageDispatch .. | .foldMapSet .. | .segmentFold .. | .logTrim .. | .logRelocation .. |
    .collection .. | .collectionCritical .. | .destinationProgramFailure .. | .wearLevellingMove .. | .roleRotation .. | .demotion .. |
    .floorRestoreMove .. | .stripeWithdrawn .. => .moving
  | .hourlyTrickle .. | .ageMeterReprogram .. | .priorityPass .. | .unitRetest .. => .upkeep
  | .patrolVisit _ rep | .outOfTurnVisit _ rep => if rep.uncorrectable && !rep.recovered then .modeEvent else .upkeep
  | .dieRetiring .. | .dieFailed .. | .channelRetired .. | .rebuildComplete .. => .dieEvent
  | .stampCeilingRaise .. | .checkpoint .. | .directoryImage .. | .demandRebuild .. | .segmentRebuilt .. | .stampFormConversion .. |
    .writeBackBatch .. | .integrityTableImage .. => .translation
  | .hdmDecoderCommit .. | .portDetect .. | .linkUp .. | .linkTrainingFailed .. | .heldMsiX .. | .bandwidthWindowEnd .. => .portEvent
  | .identify .. | .getEventRecords .. | .clearEventRecords .. | .getEventInterruptPolicy .. | .setEventInterruptPolicy .. | .getFwInfo .. |
    .transferFw .. | .activateFw .. | .getTimestamp .. | .setTimestamp .. | .identifyMemoryDevice .. | .getHealthInfo .. |
    .unsupportedMailboxOpcode .. => .mailbox
  | .sessionOpen .. | .sessionResponse .. | .sessionClose .. | .sessionReservationTimeout .. | .sessionIdleTimeout .. | .proofHoldExpiry .. =>
    .session
  | .frameReceived .. | .discover .. | .notice .. | .beaconLoss .. | .beaconReceived .. | .nodeIdConflict .. | .reducedRateRefill .. =>
    .fieldLink
  | .occurrence .. | .recorderWrite .. | .captureEpisode .. | .coreDelayMargin .. | .crossingError .. | .counterWrap .. |
    .promptPreparationDone .. => .report
  | .scrub .. | .rowSelfTest .. | .sectorSelfTest .. => .codeEvent
  | .inputSwitchReclose .. | .bandDown .. | .bandUp .. | .powerCapAdjust .. | .protectionRestored .. | .shortPress .. | .fall .. |
    .minimumOffTimeEnd .. | .stuckRailCleared .. | .wake .. | .wakeN .. | .rattle .. => .supply
  | .throttleCleared .. | .enforcementLevel .. | .idleTimer .. | .dozeEntryStep .. | .serviceTimeLimit .. | .curtainCommitPoint .. |
    .curtainCancelled .. | .cartridgeFloor .. | .secureErase .. => .quietEvent
  | .failedCheck .. | .mediaRetryEnd .. | .portException .. | .perst .. | .surpriseLinkLoss .. | .viralReceived .. | .integrityLineFetch .. |
    .counterCacheError .. | .sourceSectorFailure .. | .uncorrectableError .. | .criticalStateError .. | .inputLoss .. | .overvoltage .. |
    .railFault .. | .lossOfProtection .. | .yoYoTest .. | .cartridgeRemoved .. | .cartridgeInserted .. | .curtain .. |
    .serviceRequestWindowEnd .. | .forcedPowerDown .. | .mrN .. | .managementWatchdog .. | .slowRound .. | .dieTemperatureRead .. |
    .lockout .. | .completionStall .. => .modeEvent
  | .vinValid .. => .powerOn
  | .rise .. | .mrNHigh .. | .curtainOutcome .. => .restart
  | .restore .. | .backgroundRebuildDone .. => .restoring
  | .entryRead .. | .rcEntryRead .. | .entryWrite .. | .blockRead .. | .blockWrite .. | .levelKeyWrite .. | .closeAllSessions .. |
    .setDefaults .. | .forceUnprotectedWrite .. | .deviceTimeWrite .. | .portEnableWrite .. | .regionAttributeWrite .. |
    .regionClassWrite .. | .policyProfileWrite .. | .forceAbort .. | .retireDie .. | .regionOffline .. | .regionOnline .. |
    .resumeFromHalt .. | .renewKeySlot .. | .sanitize .. | .clearTable .. | .writeRaw .. | .readRaw .. | .retryRails .. | .runYoYoTest .. |
    .serviceRelease .. | .offRequest .. | .onRequest .. | .deviceReset .. | .enterDoze .. | .wakeDelay .. | .enterService .. |
    .leaveService .. | .activateOnline .. | .reAdmitSensor .. | .fieldLinkConfigWrite .. | .latchClear .. | .clearRecorder .. |
    .counterSelectWrite .. | .counterStickyClear .. | .queueFlush .. | .oldestSampleItemRead .. | .releaseChannel .. => .request

/-- The coordination cell that a store to a window address reaches, if it reaches one: by the plain or the conditional alias (R102). -/
def cellAt (dpa : Nat) : Option Nat :=
  match windowTarget dpa with
  | .cell aliasNo c => if aliasNo = 0 ∨ aliasNo = 2 then some c else none
  | _ => none

/-- The coordination cell that a command stores to, if it stores to one. -/
def storedCell (c : Instr) : Option Nat :=
  match c with
  | .fullLineWrite _ _ line _ => cellAt (line * 64)
  | .partialWrite _ _ line _ _ => cellAt (line * 64)
  | .poisonedWrite _ _ line => cellAt (line * 64)
  | .windowAccess _ _ dpa (.write _ _ _) => cellAt (dpa / 64 * 64)
  | .plainCellStore _ _ cell _ _ => some cell.val
  | .conditionalStore _ _ cell _ _ => some cell.val
  | _ => none

/-- The coordination cells to which waiting window writes will store (R54). -/
def waitedCells (s : State) : List Nat :=
  (s.portA.waits ++ s.portB.waits).filterMap fun w => match w.ask with
    | .write _ _ _ => cellAt w.dpa
    | .read => none

/-- A command leaves a part of the state as it is, where no window access waits that could take effect with it (R54). -/
def LeavesAtRest {α : Type} (c : Instr) (part : State → α) : Prop :=
  ∀ s t, exec c s = .next t → (∀ p, (s.port p).waits = []) → part t = part s

/-- Nothing waits at a port for its queue to drain: no triggered drain, no window access, no flush phase, and no disabled port's link. -/
abbrev NothingWaits (s : State) (p : Port) : Prop :=
  (s.port p).draining = 0 ∧ (s.port p).waits = [] ∧ (s.port p).flushes = [] ∧ (s.port p).closing = false

/-- A port's queue is empty, and nothing waits for it. -/
abbrev PortRests (s : State) (p : Port) : Prop := (s.port p).queue = [] ∧ NothingWaits s p

/-- A request on a path is served (R46, R464, R467): on a mailbox whose port answers CXL.io, and on a field link that runs; in reduced service
only while the bucket has a place. -/
def served (path : Path) (s : State) : Bool :=
  match path with
  | .mailbox p => s.ioOpen p
  | .fieldLink _ => s.linkRuns && (!s.reducedService || decide (0 < s.mgmt.bucket))

/-- The state in which a served request is answered: on the field link it has left the receive queue, has taken its place of the bucket in
reduced service, and is counted. -/
def arrived (path : Path) (s : State) : State :=
  match path with
  | .mailbox _ => s
  | .fieldLink mac => State.bump { s with mgmt := { s.mgmt with
      received := dropFirst mac s.mgmt.received, bucket := if s.reducedService then s.mgmt.bucket - 1 else s.mgmt.bucket } } 0x140106

/-- A request arrives on its path and is answered in the state `v`. -/
def Arrives (path : Path) (s v : State) : Prop := served path s = true ∧ v = arrived path s

/-- An arrived request without a session, or one that its session accepts: the next counter and the right tag (R443). -/
def Accepted (req : Req) (idx sub : Nat) (ask : DictAsk) (v u : State) : Prop :=
  (req.session = 0 ∧ u = v) ∨
    (req.session ≠ 0 ∧ ∃ x, v.sessionOf req = some x ∧ req.tag = some (requestTag x.tagKey req idx sub ask) ∧
      ¬(req.counter = x.counter ∧ x.lastTag = req.tag) ∧ req.counter = (x.counter + 1) % counterSpan req.path ∧
      u = putSession { x with counter := req.counter, lastTag := req.tag, lastReply := none, repeats := 0, lastUse := v.clock } v)

/-- A dictionary request reaches its entry in the state `u`: it arrives, is accepted, passes every check of R435, and waits for no wake. -/
def Admitted (s : State) (req : Req) (idx sub : Nat) (ask : DictAsk) (u : State) : Prop :=
  (∃ v, Arrives req.path s v ∧ Accepted req idx sub ask v u) ∧ u.judge req idx sub ask = stOk ∧
    ∀ d, describe (idx * 256 + sub) = some d → u.mustWait (idx * 256 + sub) d ask = false

/-- A response with a status has left for a request. -/
def Replied (req : Req) (ask : DictAsk) (status : Nat) (t : State) : Prop :=
  ∃ head kind value tag, head.transaction = (replyHead req 0 0).transaction ∧
    Out.dict req.path (askOp req.path ask) head status kind value tag ∈ t.out

/-- The ring holds the change record of a request (R447): its stamp, entry and kind. -/
def Recorded (stamp key kind : Nat) (t : State) : Prop :=
  ∃ r ∈ t.mgmt.changes, r.stamp = stamp ∧ r.key = key ∧ r.kind = kind

/-- Entries whose writes have an effect of their own in their owning chapter: `putNumber` names them. -/
def ownEffect (key : Nat) : Bool :=
  [0x402007, 0x300101, 0x300102, 0x300103, 0x300104, 0x300105, 0x300106, 0x405001, 0x401001, 0x61E006, 0x61E007, 0x614003, 0x614004,
    0xB04001].contains key || isLevelKey key || decide (0xB10000 ≤ key ∧ key < 0xB10400) || decide (0xB11000 ≤ key ∧ key < 0xB11400) ||
    decide (0xE00000 ≤ key ∧ key < 0xE12000 ∧ key % 256 = 1) ||
    (decide (0x410000 ≤ key ∧ key < 0x414000) && (key % 256 == 1 || key % 256 == 4))

/-- The canonical form of the register file: keys rise strictly, and no key is listed with its default. -/
def RegsOk (d : Tbl Nat) (o : Tbl (List Byte)) : Prop :=
  rising d = true ∧ (∀ e ∈ d, e.2 ≠ defaultOf e.1) ∧ rising o = true ∧ ∀ e ∈ o, e.2 ≠ defaultBytes e.1

/-- The canonical form of the coordination cells, the module's word-addressed memory (R103): word addresses rise strictly, and no word that
reads zero is listed. -/
def CellsOk (t : Tbl Word) : Prop := rising t = true ∧ ∀ e ∈ t, e.2 ≠ 0

/-- The canonical form of the table of write groups: group numbers rise strictly, and no group as after reset is listed. -/
def GroupsOk (t : Tbl Group) : Prop := rising t = true ∧ ∀ e ∈ t, e.2 ≠ {}

/-- The reservations of a port: at most one on a cell, and at most 64 (R104). -/
def ReservationsOk (l : List Nat) : Prop := l.Nodup ∧ l.length ≤ 64

/-- The bounded stores hold no more than the spec gives them room for: 256 change records (R448), 8 sessions (R441), 32 received frames
(R464), 16 notices (R469), 4,096 samples (R502) and 64 error entries, in the table and in
its copy on the medium (R347). -/
structure Bounded (s : State) : Prop where
  changes : s.mgmt.changes.length ≤ 256
  sessions : s.mgmt.sessions.length ≤ 8
  received : s.mgmt.received.length ≤ 32
  notices : s.mgmt.notices.length ≤ 16
  samples : s.obs.samples.length ≤ 4096
  errors : s.stored.errors.length ≤ 64
  saved : s.stored.savedErrors.length ≤ 64

end Sys2Proof.Machine
end

