-- ==== Sys2Proof/Certificates/Slice0/Obligations.lean ====
section
/-! DEFINITION. The statements for the provers, in the terms of Safety.lean. -/

open Sys2Proof Sys2Proof.Machine

/-- A step takes the command at the front of the queue and runs it on the state with the queue's rest; where no command waits, one nanosecond of the
reference domain passes (the model's choice, log 1). -/
def Obligations.StepRunsTheFrontCommand : Prop :=
  (∀ (s : State) (c : Instr) (rest : List Instr), s.pending = c :: rest → step s = exec c { s with pending := rest }) ∧
    ∀ s : State, s.pending = [] → step s = .next (tick s) ∧ (tick s).clock = s.clock + 1 ∧ (tick s).cells = s.cells ∧
      (s.modes.activation = none → (tick s).mode = s.mode ∧ (tick s).staging = s.staging ∧ (tick s).groups = s.groups ∧
        (tick s).deviceTime = s.deviceTime + if s.mode = modeOff then 0 else 1)

/-- Only the queue's front leaves it, a command's effect passes no time, no message that has left is withdrawn, and no free value is drawn twice. -/
def Obligations.CommandsPassNoTime : Prop :=
  (∀ (c : Instr) (s t : State), exec c s = .next t →
    t.pending = s.pending ∧ t.clock = s.clock ∧ t.service = s.service ∧ s.out <+: t.out ∧ s.draws ≤ t.draws) ∧
    ∀ s t : State, step s = .next t → t.pending = s.pending.tail ∧ s.clock ≤ t.clock ∧ s.out <+: t.out ∧ s.draws ≤ t.draws

/-- After reset every entry of the dictionary reads its default, every cell, group and queue is empty, and every form holds. The state is that of AUX
before the first power-on of the rails (the values that the spec does not give are the model's choices, log 3). -/
def Obligations.ResetHoldsTheDefaults : Prop :=
  (∀ key, State.reset.get key = defaultOf key ∧ State.reset.getBytes key = defaultBytes key) ∧
    (∀ cell word, State.reset.cellWord cell word = 0) ∧ (∀ g, State.reset.group g = {}) ∧ State.reset.mode = modeAux ∧
    (∀ p : Port, (State.reset.port p).queue = [] ∧ State.reset.linkState p = 0 ∧ State.reset.reserved p = []) ∧
    State.reset.pending = [] ∧ State.reset.staging = [] ∧ State.reset.reads = [] ∧ State.reset.out = [] ∧ State.reset.highestStamp < 4294967296 ∧
    RegsOk State.reset.dict State.reset.octs ∧ CellsOk State.reset.cells ∧ GroupsOk State.reset.groups ∧ Bounded State.reset ∧
    (∀ p, ReservationsOk (State.reset.reserved p)) ∧ ∀ nbits w, State.reset.withFetchWord nbits w = State.reset

/-- A request outside the data space and the windows stops by name: the link's decoders never forward one (R51, R53). -/
def Obligations.RequestsOutsideTheSpaceStop : Prop :=
  ∀ (s : State) (p : Port) (tag line : Nat) (be : ByteEnables) (data : Line), decodableLines ≤ line →
    (∀ c ∈ [Instr.memRd p tag line, .fullLineWrite p tag line data, .partialWrite p tag line be data, .poisonedWrite p tag line],
      exec c s = .fault .outsideDpa) ∧
    ∀ (dpa : Nat) (op : WindowOp), 64 * line ≤ dpa → exec (.windowAccess p tag dpa op) s = .fault .outsideDpa

/-- Every step keeps the canonical forms of the register file, of the coordination cells and of the group table, and the bounds of the bounded
stores. -/
def Obligations.EveryStepKeepsTheForms : Prop :=
  ∀ s t : State, step s = .next t →
    (RegsOk s.dict s.octs → RegsOk t.dict t.octs) ∧ (CellsOk s.cells → CellsOk t.cells) ∧ (GroupsOk s.groups → GroupsOk t.groups) ∧
      (Bounded s → Bounded t)

/-- A port holds at most one reservation on a cell and at most 64 at once, and every step keeps it so; the ports hold theirs apart: a read through
the reserve alias leaves the other port's reservations, so that both may hold one on the same cell (R104). -/
def Obligations.ReservationsStayLimited : Prop :=
  (∀ s t : State, step s = .next t → ∀ p, ReservationsOk (s.reserved p) → ReservationsOk (t.reserved p)) ∧
    (∀ p, ReservationsOk (State.reset.reserved p)) ∧
    ∀ (s : State) (p : Port) (tag : Nat) (c : Fin 16384), s.memOpen p = true → PortRests s p → s.mode ≠ modeService →
      Completes (.reserveRead p tag c) s fun t => t.reserved p.other = s.reserved p.other ∧
        (s.holdsReservation p.other c.val = true → (s.reserved p).length < 64 →
          t.holdsReservation p c.val = true ∧ t.holdsReservation p.other c.val = true)

/-- Every cell reads zeros once the module has entered RESTORE, from RISE or after a device reset, and RESTORE leaves the cells; port exceptions, the
entry into HALT and the resume from it, and a cancelled curtain keep every cell (R103). -/
def Obligations.CellsAreVolatile : Prop :=
  (∀ (c : Instr) (s t : State), (∃ r f, c = .rise r f) ∨ c = .mrNHigh ∨ c = .curtainOutcome → exec c s = .next t → s.mode ≠ modeRestore →
    t.mode = modeRestore → ∀ cell word, t.cellWord cell word = 0) ∧
    (∀ upTo shifts found, LeavesAtRest (.restore upTo shifts found) (·.cells)) ∧ LeavesAtRest .backgroundRebuildDone (·.cells) ∧
    (∀ p cause, LeavesAtRest (.portException p cause) (·.cells)) ∧ (∀ p b, LeavesAtRest (.perst p b) (·.cells)) ∧
    (∀ p, LeavesAtRest (.surpriseLinkLoss p) (·.cells) ∧ LeavesAtRest (.viralReceived p) (·.cells)) ∧
    (∀ obj, LeavesAtRest (.failedCheck obj) (·.cells)) ∧ (∀ rid senses, LeavesAtRest (.mediaRetryEnd rid senses) (·.cells)) ∧
    (∀ req v, LeavesAtRest (.resumeFromHalt req v) (·.cells)) ∧ (∀ c, LeavesAtRest (.curtain c) (·.cells)) ∧ LeavesAtRest .curtainCommitPoint (·.cells) ∧
    ∀ mv, LeavesAtRest (.curtainCancelled mv) (·.cells)

/-- Only stores to a coordination cell, and the entry into RESTORE, write cells: whatever else a command does, every word of every cell that neither it
nor a store that waits for its drain stores to reads as before (R54, R103, R106). -/
def Obligations.OnlyCellStoresWriteCells : Prop :=
  ∀ (c : Instr) (s t : State), exec c s = .next t → shape c ≠ .restart → ∀ cell word, word < 8 → storedCell c ≠ some cell →
    cell ∉ waitedCells s → t.cellWord cell word = s.cellWord cell word

/-- A store that is transferred leaves every other line as it is: the committed version of any other line, and every group's provisional version of
it, reads as before; its own line reads as the store left it. Accepting a store, and accepting a read, leave every committed line. -/
def Obligations.StoresLeaveTheOtherLines : Prop :=
  (∀ (s : State) (p : Port) (x : Store), s.nextTransfer p = some x → s.stagingFull = false → s.fate (some p) x.line = .plain →
    s.rangePoisons x.line s.nextStamp = false → NothingWaits s p → Completes (.globalVisibilityTransfer p) s fun t =>
      (∀ line, line ≠ x.line → t.committed line = s.committed line ∧ ∀ g, t.provisional g line = s.provisional g line) ∧
        t.committed x.line = { data := if x.poison then 0 else x.data, poison := x.poison, stamp := s.nextStamp, found := foundStaging }) ∧
  ∀ (p : Port) (tag line : Nat) (be : ByteEnables) (data : Line), line < dataLines →
    ∀ c ∈ [Instr.memRd p tag line, .fullLineWrite p tag line data, .partialWrite p tag line be data, .poisonedWrite p tag line],
      Leaves c (fun s => (s.cells, s.groups, s.reservedA, s.reservedB, s.resultsA, s.resultsB)) ∧
        (c ≠ .partialWrite p tag line be data → Leaves c (·.staging))

/-- A host access leaves everything that it has no part in: a store, a window command and a read leave device time, the modes, the supply, the retained
structures of stored-data repair and every entry of the dictionary but the counts named here and those of reports. -/
def Obligations.HostCommandsFrame : Prop :=
  ∀ c : Instr,
    (shape c = .hostStore → Leaves c (fun s => (s.octs, s.deviceTime, s.restoreStamp, s.stallSince, s.lfsr1, s.lfsr2, s.retries,
      s.resultBase, s.stored, s.pow, s.modes, s.therm)) ∧ LeavesEntries c [0x301008, 0x301108, 0x302001, 0x302002, 0x302003, 0x302004,
      0x302005, 0x302006, 0x404105, 0x404106, 0x406005, 0x406007, 0x406009, 0x407008, 0x407009, 0x408101, 0x408102, 0x408103, 0x408106,
      0x502004, 0x502005, 0x502006, 0x502007, 0x502009, 0x508003, 0x508004, 0x508005, 0x508006, 0x611003, 0x615006, 0x619004, 0xB03004,
      0xB03005, 0xB04003] [(0x612000, 0x613000), (0x620000, 0x624000)]) ∧
    (shape c = .windowCommand → Leaves c (fun s => (s.octs, s.deviceTime, s.restoreStamp, s.stallSince, s.lfsr1, s.lfsr2, s.retries,
      s.resultBase, s.stored, s.pow, s.modes, s.therm)) ∧ LeavesEntries c [0x301008, 0x301108, 0x302001, 0x302002, 0x302003, 0x302004,
      0x302005, 0x302006, 0x404105, 0x404106, 0x406009, 0x407008, 0x407009, 0x408101, 0x408102, 0x408103, 0x408106, 0x502004, 0x502005,
      0x502006, 0x502007, 0x502009, 0x508003, 0x508004, 0x508005, 0x508006, 0x611003, 0x619004, 0xB03004, 0xB03005, 0xB04003] [(0x612000,
      0x613000), (0x620000, 0x624000)]) ∧
    (shape c = .hostRead → Leaves c (fun s => (s.octs, s.deviceTime, s.restoreStamp, s.stallSince, s.retries, s.resultBase, s.stored, s.pow,
      s.modes, s.therm)) ∧ LeavesEntries c [0x301008, 0x301108, 0x302001, 0x302002, 0x302003, 0x302004, 0x302005, 0x302006, 0x404105,
      0x404106, 0x406009, 0x407001, 0x407002, 0x407003, 0x407004, 0x407005, 0x407006, 0x407008, 0x407009, 0x408101, 0x408102, 0x408103,
      0x408106, 0x502004, 0x502005, 0x502006, 0x502007, 0x502009, 0x508003, 0x508004, 0x508005, 0x508006, 0x611003, 0x619004, 0xB03004,
      0xB03005, 0xB04003] [(0x612000, 0x613000), (0x620000, 0x624000)])

/-- What happens to reads, queued stores, group commands, discards and bursts leaves the supply, the modes and every entry of the dictionary but those
named here and those of reports, and the cells, the reservations and the result lines, where no window access waits for a drain (R54). -/
def Obligations.DataPathFrame : Prop :=
  ∀ c : Instr,
    (shape c = .readEvent → Leaves c (fun s => (s.octs, s.deviceTime, s.restoreStamp, s.nextSeq, s.staging, s.stallSince, s.stallReported,
      s.groups, s.cells, s.reservedA, s.reservedB, s.resultsA, s.resultsB, s.resultBase, s.pow, s.modes, s.therm)) ∧ LeavesEntries c
      [0x407005, 0x407006, 0x407007, 0x407008, 0x40700B, 0x408102, 0x408103, 0x408104, 0x408105, 0x408106, 0x408107, 0x408108, 0x70030A,
      0x800101, 0x800102, 0x800103, 0x800104, 0x800105, 0x800106, 0x801002, 0xB03004, 0xB04003] [(0x612000, 0x613000)]) ∧
    (shape c = .drain → Leaves c (fun s => (s.octs, s.deviceTime, s.restoreStamp, s.nextSeq, s.lfsr1, s.lfsr2, s.retries, s.resultBase,
      s.stored, s.pow, s.modes, s.therm)) ∧ LeavesEntries c [0x301001, 0x301002, 0x301003, 0x301008, 0x301101, 0x301102, 0x301103,
      0x301108, 0x302001, 0x302002, 0x302003, 0x302004, 0x302005, 0x302006, 0x404105, 0x404106, 0x406004, 0x406005, 0x406006, 0x406009,
      0x407008, 0x407009, 0x408101, 0x408102, 0x408103, 0x408106, 0x502004, 0x502005, 0x502006, 0x502007, 0x502009, 0x508003, 0x508004,
      0x508005, 0x508006, 0x611003, 0x619004, 0xB03004, 0xB04003] [(0x612000, 0x613000), (0x620000, 0x624000)]) ∧
    (shape c = .groupEvent → Leaves c (fun s => (s.octs, s.deviceTime, s.restoreStamp, s.nextSeq, s.stallSince, s.lfsr1, s.lfsr2, s.retries,
      s.resultBase, s.stored, s.pow, s.modes, s.therm)) ∧ LeavesEntries c [0x301001, 0x301002, 0x301003, 0x301008, 0x301101, 0x301102,
      0x301103, 0x301108, 0x302001, 0x302002, 0x302003, 0x302004, 0x302005, 0x302006, 0x404105, 0x404106, 0x406009, 0x407008, 0x407009,
      0x408101, 0x408102, 0x408103, 0x408106, 0x502004, 0x502005, 0x502006, 0x502007, 0x502009, 0x508003, 0x508004, 0x508005, 0x508006,
      0x611003, 0x619004, 0xB03004, 0xB04003] [(0x612000, 0x613000), (0x620000, 0x624000)]) ∧
    (shape c = .drain ∨ shape c = .groupEvent →
      LeavesAtRest c (fun s => (s.cells, s.reservedA, s.reservedB, s.resultsA, s.resultsB))) ∧
    (shape c = .discardEvent → Leaves c (fun s => (s.octs, s.deviceTime, s.restoreStamp, s.nextSeq, s.stallSince, s.lfsr1, s.lfsr2, s.reads,
      s.nextRead, s.retries, s.groups, s.cells, s.reservedA, s.reservedB, s.resultsA, s.resultsB, s.resultBase, s.stored, s.pow,
      s.modes, s.therm)) ∧ LeavesEntries c [0x302005, 0x302006, 0x611003, 0x619004, 0xB03004, 0xB04003] [(0x612000, 0x613000), (0x620000,
      0x624000)]) ∧
    (shape c = .burst → Leaves c (fun s => (s.octs, s.deviceTime, s.restoreStamp, s.nextSeq, s.stallSince, s.lfsr1, s.lfsr2, s.reads,
      s.nextRead, s.retries, s.cells, s.reservedA, s.reservedB, s.resultsA, s.resultsB, s.resultBase, s.stored, s.pow, s.modes,
      s.therm)) ∧ LeavesEntries c [0x302005, 0x302006, 0x404105, 0x611003, 0x613008, 0x613009, 0x61300A, 0x619004, 0x700306, 0x70030A,
      0xB03004, 0xB04003, 0xC00102, 0xC00104] [(0x612000, 0x613000), (0x620000, 0x624000), (0xC01000, 0xC02000)])

/-- The work on the medium leaves the staging array, where it does not write the log, and the caches, the cells, the groups, the supply, the modes and every
entry of the dictionary but those named here and those of reports. -/
def Obligations.MediumWorkFrame : Prop :=
  ∀ c : Instr,
    (shape c = .logWriting → Leaves c (fun s => (s.octs, s.deviceTime, s.restoreStamp, s.nextSeq, s.stallSince, s.l1, s.l2, s.lfsr1,
      s.lfsr2, s.reads, s.nextRead, s.retries, s.groups, s.cells, s.reservedA, s.reservedB, s.resultsA, s.resultsB, s.resultBase,
      s.stored, s.pow, s.modes, s.therm)) ∧ LeavesEntries c [0x302005, 0x302006, 0x611003, 0x613008, 0x613009, 0x61300A, 0x619004,
      0x700306, 0x70030A, 0xB03004, 0xB04003] [(0x612000, 0x613000), (0x620000, 0x624000)]) ∧
    (shape c = .program → Leaves c (fun s => (s.octs, s.deviceTime, s.restoreStamp, s.nextSeq, s.staging, s.stallSince, s.stallReported,
      s.l1, s.l2, s.lfsr1, s.lfsr2, s.reads, s.nextRead, s.retries, s.groups, s.cells, s.reservedA, s.reservedB, s.resultsA, s.resultsB,
      s.resultBase, s.stored, s.pow, s.modes, s.therm)) ∧ LeavesEntries c [0x408007, 0x408008, 0x611003, 0x613009, 0x61300A, 0x614006,
      0x614007, 0x615007, 0x618005, 0x619004] [(0x611004, 0x611007), (0x612000, 0x613000), (0x620000, 0x624000)]) ∧
    (shape c = .moving → Leaves c (fun s => (s.octs, s.deviceTime, s.restoreStamp, s.nextSeq, s.staging, s.stallSince, s.stallReported,
      s.l1, s.l2, s.lfsr1, s.lfsr2, s.reads, s.nextRead, s.retries, s.groups, s.cells, s.reservedA, s.reservedB, s.resultsA, s.resultsB,
      s.resultBase, s.stored, s.pow, s.modes, s.therm)) ∧ LeavesEntries c [0x404105, 0x611003, 0x613007, 0x613009, 0x61300A, 0x614006,
      0x614007, 0x614008, 0x615007, 0x615009, 0x61500A, 0x619004] [(0x612000, 0x613000), (0x620000, 0x624000)]) ∧
    (shape c = .upkeep → Leaves c (fun s => (s.octs, s.deviceTime, s.restoreStamp, s.nextSeq, s.staging, s.stallSince, s.stallReported,
      s.l1, s.l2, s.lfsr1, s.lfsr2, s.reads, s.nextRead, s.retries, s.groups, s.cells, s.reservedA, s.reservedB, s.resultsA, s.resultsB,
      s.resultBase, s.pow, s.modes, s.therm)) ∧ LeavesEntries c [0x611003, 0x614009, 0x617004, 0x617005, 0x617006, 0x617008, 0x619004,
      0x800101, 0x800102, 0x800103, 0x800104, 0x800105, 0x800106, 0x801002, 0xA00106] [(0x612000, 0x613000), (0x620000, 0x624000)]) ∧
    (shape c = .dieEvent → Leaves c (fun s => (s.octs, s.deviceTime, s.restoreStamp, s.nextSeq, s.stallSince, s.stallReported, s.lfsr1,
      s.lfsr2, s.nextRead, s.retries, s.groups, s.cells, s.reservedA, s.reservedB, s.resultsA, s.resultsB, s.resultBase, s.stored,
      s.pow, s.modes, s.therm)) ∧ LeavesEntries c [0x408106, 0x611003, 0x619004, 0x619005, 0x619006, 0x61900A, 0x61A002, 0x61A003,
      0x61A006, 0x61E004, 0xA00106] [(0x612000, 0x613000), (0x620000, 0x624000)]) ∧
    (shape c = .translation → Leaves c (fun s => (s.octs, s.deviceTime, s.restoreStamp, s.nextSeq, s.stallSince, s.stallReported,
      s.l1, s.l2, s.lfsr1, s.lfsr2, s.retries, s.groups, s.cells, s.reservedA, s.reservedB, s.resultsA, s.resultsB, s.resultBase,
      s.stored, s.pow, s.modes, s.therm)) ∧ LeavesEntries c [0x404009, 0x404105, 0x404106, 0x407008, 0x407009, 0x408101, 0x408102,
      0x408103, 0x408106, 0x611003, 0x613009, 0x61300A, 0x614007, 0x615007, 0x619004, 0x70030D, 0xB03004, 0xB04003] [(0x612000,
      0x613000), (0x620000, 0x624000)]) ∧
    (shape c = .translation → c ≠ .checkpoint → Leaves c (·.staging)) ∧
    (shape c = .codeEvent → Leaves c (fun s => (s.octs, s.deviceTime, s.restoreStamp, s.nextSeq, s.staging, s.stallSince, s.stallReported,
      s.lfsr1, s.lfsr2, s.reads, s.nextRead, s.retries, s.groups, s.cells, s.reservedA, s.reservedB, s.resultsA, s.resultsB,
      s.resultBase, s.pow, s.modes, s.therm)) ∧ LeavesEntries c [0x611003, 0x617005, 0x619004, 0x800101, 0x800102, 0x800103, 0x800104,
      0x800105, 0x800106, 0x801002, 0x802005, 0x803001, 0x803002, 0x803003, 0x803004] [(0x612000, 0x613000), (0x620000, 0x624000)])

/-- Port events, standard mailbox commands, sessions, the field link, reports and small supply events leave the data, the medium, the groups and the cells, as
named here, and every entry of the dictionary but those named here and those of reports. -/
def Obligations.ManagementFrame : Prop :=
  ∀ c : Instr,
    (shape c = .portEvent → Leaves c (fun s => (s.octs, s.deviceTime, s.restoreStamp, s.nextSeq, s.staging, s.stallSince, s.stallReported,
      s.l1, s.l2, s.lfsr1, s.lfsr2, s.reads, s.nextRead, s.groups, s.cells, s.reservedA, s.reservedB, s.resultsA, s.resultsB,
      s.resultBase, s.xlat, s.med, s.integ, s.stored, s.pow, s.modes, s.therm, s.obs)) ∧ LeavesEntries c [0x301001, 0x301002, 0x301003,
      0x301007, 0x301101, 0x301102, 0x301103, 0x301107, 0xB02001, 0xB02002, 0xB02003, 0xB02004, 0xB02005, 0xB02006, 0xB02007, 0xB02101,
      0xB02102, 0xB02103, 0xB02104, 0xB02105, 0xB02106, 0xB02107] []) ∧
    (shape c = .mailbox → Leaves c (fun s => (s.octs, s.restoreStamp, s.nextSeq, s.staging, s.stallSince, s.stallReported, s.l1, s.l2,
      s.lfsr1, s.lfsr2, s.reads, s.nextRead, s.retries, s.groups, s.cells, s.reservedA, s.reservedB, s.resultsA, s.resultsB,
      s.resultBase, s.stored, s.pow, s.therm)) ∧ LeavesEntries c [0x405002, 0x611003, 0x619004, 0xD00105, 0xD02004, 0xD06002, 0xD06005]
      [(0x612000, 0x613000), (0x620000, 0x624000)]) ∧
    (shape c = .session → Leaves c (fun s => (s.octs, s.deviceTime, s.restoreStamp, s.nextSeq, s.staging, s.stallSince, s.stallReported,
      s.l1, s.l2, s.lfsr1, s.lfsr2, s.reads, s.nextRead, s.retries, s.groups, s.cells, s.reservedA, s.reservedB, s.resultsA, s.resultsB,
      s.resultBase, s.xlat, s.med, s.integ, s.stored, s.pow, s.modes, s.therm, s.obs)) ∧ LeavesEntries c [0x110004, 0x140106, 0x140107]
      []) ∧
    (shape c = .fieldLink → Leaves c (fun s => (s.octs, s.deviceTime, s.restoreStamp, s.nextSeq, s.staging, s.stallSince, s.stallReported,
      s.l1, s.l2, s.lfsr1, s.lfsr2, s.reads, s.nextRead, s.retries, s.groups, s.cells, s.reservedA, s.reservedB, s.resultsA, s.resultsB,
      s.resultBase, s.xlat, s.med, s.integ, s.stored, s.pow, s.modes, s.therm, s.obs)) ∧ LeavesEntries c [0x140102, 0x140103, 0x140104,
      0x140105, 0x140106, 0x140107, 0x140108, 0x140109, 0x14010C, 0x140202] []) ∧
    (shape c = .report → Leaves c (fun s => (s.octs, s.deviceTime, s.restoreStamp, s.nextSeq, s.staging, s.stallSince, s.stallReported,
      s.l1, s.l2, s.lfsr1, s.lfsr2, s.reads, s.nextRead, s.retries, s.groups, s.cells, s.reservedA, s.reservedB, s.resultsA, s.resultsB,
      s.resultBase, s.xlat, s.stored, s.modes, s.therm)) ∧ LeavesEntries c [0x406008, 0x70030A, 0xA00105, 0xA00106, 0xA00108] [(0x410000,
      0x414000), (0x612000, 0x613000)]) ∧
    (shape c = .report → (∀ r, c ≠ .promptPreparationDone r) → Leaves c (·.integ)) ∧
    (shape c = .supply → Leaves c (fun s => (s.octs, s.deviceTime, s.restoreStamp, s.nextSeq, s.staging, s.stallSince, s.stallReported,
      s.l1, s.l2, s.lfsr1, s.lfsr2, s.reads, s.nextRead, s.retries, s.groups, s.cells, s.reservedA, s.reservedB, s.resultsA, s.resultsB,
      s.resultBase, s.xlat, s.med, s.integ, s.stored, s.therm, s.obs)) ∧ LeavesEntries c [0x200101, 0x200102, 0x200103, 0x200104,
      0x200106, 0x20100E, 0x202002, 0x205003, 0x301007, 0x301107, 0x402001, 0x402002, 0x404101, 0xA00106, 0xD00101, 0xD00102, 0xD02004,
      0xD03002, 0xD03003] [(0x201001, 0x20100E)])

/-- Events that halt, save or reset the module leave device time, the order of accepted stores and every entry of the dictionary but those named here and
those of reports, and the cells, where no window access waits for a drain (R54). -/
def Obligations.ModeEventsFrame : Prop :=
  ∀ c : Instr,
    (shape c = .quietEvent → Leaves c (fun s => (s.octs, s.deviceTime, s.restoreStamp, s.nextSeq, s.stallSince, s.lfsr1, s.lfsr2,
      s.resultBase)) ∧ LeavesEntries c [0x200101, 0x200102, 0x200104, 0x200106, 0x202002, 0x204001, 0x204002, 0x204003, 0x204005,
      0x204006, 0x301001, 0x301002, 0x301003, 0x301004, 0x301008, 0x301101, 0x301102, 0x301103, 0x301104, 0x301108, 0x302001, 0x302002,
      0x302003, 0x302004, 0x302005, 0x302006, 0x404105, 0x404106, 0x406009, 0x407008, 0x407009, 0x408101, 0x408102, 0x408103, 0x408106,
      0x502004, 0x502005, 0x502006, 0x502007, 0x502009, 0x508003, 0x508004, 0x508005, 0x508006, 0x611003, 0x613008, 0x613009, 0x61300A,
      0x614007, 0x615007, 0x619004, 0x700306, 0x70030A, 0x70030D, 0x900103, 0x900104, 0x900106, 0xA00106, 0xB03004, 0xB04003, 0xD00101,
      0xD00102, 0xD00105, 0xD02001, 0xD02004, 0xD02005, 0xD02006] [(0x201001, 0x20100E), (0x612000, 0x613000), (0x620000, 0x624000),
      (0x700101, 0x700111)]) ∧
    (shape c = .quietEvent ∨ shape c = .modeEvent → LeavesAtRest c (·.cells)) ∧
    (shape c = .modeEvent → Leaves c (fun s => (s.deviceTime, s.restoreStamp, s.nextSeq, s.stallSince, s.resultBase)) ∧ LeavesEntries c
      [0x200101, 0x200104, 0x200107, 0x20100F, 0x202002, 0x203001, 0x203002, 0x203003, 0x203004, 0x203005, 0x203006, 0x203007, 0x203009, 0x20300C, 0x20300D, 0x205003, 0x301001, 0x301002, 0x301003, 0x301004, 0x301005, 0x301006, 0x301007, 0x301008, 0x301101, 0x301102, 0x301103, 0x301104, 0x301105, 0x301106, 0x301107, 0x301108, 0x302001, 0x302002, 0x302003, 0x302004, 0x302005, 0x302006, 0x402001, 0x402002, 0x404101, 0x404105, 0x404106, 0x406009, 0x407005, 0x407006, 0x407007, 0x407008, 0x407009, 0x408101, 0x408102, 0x408103, 0x408106, 0x502004, 0x502005, 0x502006, 0x502007, 0x502009, 0x508003, 0x508004, 0x508005, 0x508006, 0x611003, 0x611007, 0x613008, 0x613009, 0x61300A, 0x614009, 0x617004, 0x617005, 0x617006, 0x617008, 0x619004, 0x700301, 0x700302, 0x700303, 0x700304, 0x700305, 0x700306, 0x700307, 0x70030A, 0x70030C, 0x800101, 0x800102, 0x800103, 0x800104, 0x800105, 0x800106, 0x800108, 0x801002, 0x900101, 0x900102, 0x900103, 0x900104, 0x900105, 0x900107, 0x900108, 0x903001, 0x903002, 0xA00106, 0xB03004, 0xB04003, 0xC00104, 0xD00101, 0xD00102, 0xD02001, 0xD02004, 0xD04001, 0xD04004, 0xD06001, 0xD06002, 0xD06003, 0xD06004, 0xD06005, 0xD06006, 0xD06007] [(0x201001, 0x20100E), (0x612000, 0x613000), (0x616101, 0x616111), (0x620000, 0x624000), (0x902001, 0x902031), (0x904001, 0x904011), (0x904101, 0x904111), (0xD04002, 0xD0400A)]) ∧
    (shape c = .powerOn → Leaves c (fun s => (s.deviceTime, s.restoreStamp, s.nextSeq, s.staging, s.stallSince, s.stallReported, s.l1, s.l2,
      s.lfsr1, s.lfsr2, s.reads, s.nextRead, s.retries, s.groups, s.cells, s.reservedA, s.reservedB, s.resultsA, s.resultsB,
      s.resultBase, s.xlat, s.med, s.integ, s.stored, s.obs)))

/-- Dictionary requests leave the replacement registers, the order of accepted stores and the stamp of the last RESTORE; the commands that may
start RESTORE leave device time and the replacement registers, the release of MR_N, where no link falls with it, the staging array and the groups
too; requests and the steps of RESTORE
leave the cells, where no window access waits for a drain (R54). -/
def Obligations.RequestsAndRestartsFrame : Prop :=
  ∀ c : Instr,
    (shape c = .restart → Leaves c (fun s => (s.deviceTime, s.restoreStamp, s.nextSeq, s.lfsr1, s.lfsr2, s.nextRead))) ∧
    (∀ s t, exec .mrNHigh s = .next t → s.mode ≠ modeRise ∨ s.keepsLinks = true → t.staging = s.staging ∧ t.groups = s.groups) ∧
    (shape c = .restoring → Leaves c (fun s => (s.nextSeq, s.stallSince, s.resultBase, s.therm))) ∧
    (shape c = .restoring ∨ shape c = .request → LeavesAtRest c (·.cells)) ∧
    (shape c = .request → Leaves c (fun s => (s.restoreStamp, s.nextSeq, s.stallSince, s.lfsr1, s.lfsr2, s.retries, s.resultBase)))

/-- A whole-line or poisoned write that a port accepts enters the port's queue, and while the module is protected Cmp leaves at entry; a
partial write enters the queue and waits for its merge (R12, R13, R21, R67).
A store that the region's access mask denies the port receives Cmp, is counted in 0x4060.07 and raises source 90; the port's queue and the
staging array stay as they are (R190). -/
def Obligations.HostStoresEnterAndAreDenied : Prop :=
  (∀ (s : State) (p : Port) (tag line : Nat) (data : Line), line < dataLines → s.writeOpen p = true → s.mayStore p line = true →
      Completes (.fullLineWrite p tag line data) s (fun t =>
        (∃ x : Store, (t.port p).queue = (s.port p).queue ++ [x] ∧ x.tag = tag ∧ x.line = line ∧ x.be = fullEnables ∧ x.data = data ∧
          x.poison = false ∧ x.prot = s.pow.persistAtEntry ∧ x.wmode = s.writeMode line ∧ x.seq = s.nextSeq) ∧
        (s.pow.persistAtEntry = true → ∃ d, Out.cmp p tag d ∈ t.out)) ∧
      (∀ be, be ≠ fullEnables → Completes (.partialWrite p tag line be data) s (fun t =>
        ∃ x : Store, (t.port p).queue = (s.port p).queue ++ [x] ∧ x.tag = tag ∧ x.line = line ∧ x.be = be ∧ x.data = data ∧
          x.poison = false ∧ x.prot = s.pow.persistAtEntry ∧ x.wmode = s.writeMode line ∧ x.seq = s.nextSeq)) ∧
      Completes (.poisonedWrite p tag line) s (fun t =>
        (∃ x : Store, (t.port p).queue = (s.port p).queue ++ [x] ∧ x.tag = tag ∧ x.line = line ∧ x.data = 0 ∧ x.poison = true ∧
          x.prot = s.pow.persistAtEntry ∧ x.seq = s.nextSeq) ∧
        (s.pow.persistAtEntry = true → ∃ d, Out.cmp p tag d ∈ t.out))) ∧
  (∀ (s : State) (p : Port) (tag line : Nat) (be : ByteEnables) (data : Line), line < dataLines → s.writeOpen p = true →
      s.mayStore p line = false → ∀ c ∈ [Instr.fullLineWrite p tag line data, .partialWrite p tag line be data, .poisonedWrite p tag line],
        Completes c s fun t =>
          (∃ d, Out.cmp p tag d ∈ t.out) ∧ Counted 0x406007 1 s t ∧ Raised 90 s t ∧ (t.port p).queue = (s.port p).queue ∧
            t.staging = s.staging)

/-- The transfer of a store gives it its order stamp in the staging array: a queued whole-line store that the drain transfers, and a queued
partial write with its enabled bytes over the line as it then stands. It leaves the queue (R13, R88, R93, R180). Here the line belongs to no
write group and to no offline region.
While the free staging space is at the drain reserve the continuous drain waits: no store moves, and the stall is counted once in
0x4060.04 (R89, R194). -/
def Obligations.QueuedStoresReachTheStagingArray : Prop :=
  (∀ (s : State) (p : Port) (x : Store), s.fate (some p) x.line = .plain → NothingWaits s p →
      ((s.nextTransfer p = some x → s.stagingFull = false → Completes (.globalVisibilityTransfer p) s fun t =>
          (∃ l ∈ t.staging, l.line = x.line ∧ l.grp = none ∧ l.data = (if x.poison then 0 else x.data) ∧ l.poison = x.poison ∧
            l.stamp = s.nextStamp) ∧ (∀ y ∈ (t.port p).queue, y.seq ≠ x.seq) ∧ s.nextStamp < t.nextStamp) ∧
       (s.findPartial p x.tag = some x → s.mergeReady p x = true → (s.visibleTo p x.line).poison = false →
          Completes (.mergePlacement p x.tag) s fun t =>
            (∃ l ∈ t.staging, l.line = x.line ∧ l.grp = none ∧ l.data = mergeLine x.be (s.visibleTo p x.line).data x.data ∧ l.poison = false ∧
              l.stamp = s.nextStamp) ∧ (∀ y ∈ (t.port p).queue, y.seq ≠ x.seq) ∧ s.nextStamp < t.nextStamp))) ∧
  (∀ (s : State) (p : Port) (x : Store), s.nextTransfer p = some x → s.stagingFull = true →
      Completes (.globalVisibilityTransfer p) s fun t =>
        t.staging = s.staging ∧ (t.port p).queue = (s.port p).queue ∧
          (s.stallSince = none → t.stallSince = some s.clock ∧ Counted 0x406004 1 s t ∧ (s.stallReported = false → Raised 89 s t)))

/-- A host read is answered at once where a younger version stands above the medium: from the port's own queued whole-line store, from the
staging array, or with zeros and poison in an offline region (R85, R87, R170, R293). -/
def Obligations.ReadsAreAnsweredFromTheirPlaces : Prop :=
  ∀ (s : State) (p : Port) (tag line : Nat), line < dataLines → s.memOpen p = true →
    (s.lineOffline line = true → Completes (.memRd p tag line) s fun t => ∃ d, Out.readData p tag 0 true d ∈ t.out) ∧
    (∀ x, s.lineOffline line = false → s.newestQueued p line = some x → x.whole = true →
      Completes (.memRd p tag line) s fun t => ∃ d, Out.readData p tag (if x.poison then 0 else x.data) x.poison d ∈ t.out) ∧
    (∀ l, s.lineOffline line = false → s.newestQueued p line = none → s.ownedGroup p (pageOfLine line) = none →
      s.stagedOf line none = some l → l.poison = false → s.rangePoisons line l.stamp = false →
      Completes (.memRd p tag line) s fun t => ∃ d, Out.readData p tag l.data false d ∈ t.out)

/-- A normal or bulk read at the head of its media region's queue becomes entitled to suspend when its patience expires; bulk here while the
log is not near full (R198, R199). A read whose deadline fires is answered with poison and zero data, is counted in 0x4081.07 and keeps the
stamp of that instant (R212, R214).
An entitled read of its queue suspends the operations of its media region, counted in 0x4081.04, and those that have been suspended as often as
they may are held to completion: a region with a held operation is not suspended again. With no entitled read left the suspended operations
resume, and so do those of a region with a held one; a suspension that is not confirmed marks the region, is counted in 0x4081.08 and raises source 96 (R199 to R202). -/
def Obligations.ReadsWaitSuspendAndResume : Prop :=
  (∀ (s : State) (rid : Nat) (r : Read), s.findRead rid = some r →
      (r.place = .queued → (s.queueHead (regionOfUnit r.unit)).map (·.id) = some r.id → r.demand = true →
        (r.cls = clsNormal ∨ (r.cls = clsBulk ∧ s.nearFull = false)) →
        Completes (.patienceExpiry rid) s fun t => (∀ x ∈ t.reads, x.id = rid → x.entitled = true) ∧ (∃ x ∈ t.reads, x.id = rid)) ∧
      (∀ p tag, r.reader = .host p tag → s.deadlineRuns r = true → (s.port p).silent = false →
        Completes (.portResponseDeadline rid) s fun t =>
          (∃ d, Out.readData p tag 0 true d ∈ t.out) ∧ Counted 0x408107 1 s t ∧
            (∀ x ∈ t.reads, x.id = rid → x.answered = true ∧ x.deadline = some s.nextStamp))) ∧
  (∀ (s : State) (region : Fin 256),
      (s.entitledWaits region.val = true → ((s.regionOps region.val).any fun o => !o.suspended) = true →
        (s.regionHeld region.val = false → Completes (.suspension region) s fun t =>
          (∀ o ∈ t.med.ops, regionOfUnit o.unit = region.val → o.suspended = true) ∧
            Counted 0x408104 ((s.regionOps region.val).filter fun o => !o.suspended).length s t ∧
            (∀ o ∈ s.med.ops, regionOfUnit o.unit = region.val → o.suspended = false → o.limit ≤ o.suspensions + 1 →
              ∃ o' ∈ t.med.ops, o'.id = o.id ∧ o'.held = true)) ∧
        (s.regionHeld region.val = true → Completes (.suspension region) s fun t => t = s)) ∧
      (s.entitledWaits region.val = false ∨ s.regionHeld region.val = true → Completes (.resume region) s fun t =>
        (∀ o ∈ t.med.ops, regionOfUnit o.unit = region.val → o.suspended = false) ∧ t.reads = s.reads) ∧
      (s.regionBusy region.val = true → s.entitledWaits region.val = true → region.val ∉ s.med.overrunRegions →
        Completes (.suspendOverrun region) s fun t =>
          region.val ∈ t.med.overrunRegions ∧ Counted 0x408108 1 s t ∧ Raised 96 s t))

/-- A sector that arrives answers its read with the line as the port sees it; one that fails BCH sends its read to media retry (R183, R209,
R213).
A failed check writes the HALT record and raises source 56 wherever something can read: a serving or service mode enters HALT, with both ports
silent on CXL.mem; in RESTORE, SAVE and HALT the mode stays (R32, R328, R329). A media retry ends with a verified
value, counted in 0x7003.07 and reported by source 57, where a threshold-shifted re-read or the stripe reconstruction verifies it; a host read that none of
them serves enters HALT (R209, R213, R273). -/
def Obligations.SectorsAnswerRetryOrHalt : Prop :=
  (∀ (s : State) (rid : Nat) (r : Read) (p : Port) (tag : Nat) (tags : BitVec 4), s.findRead rid = some r → s.senseReady r = true →
      r.reader = .host p tag →
      (r.answered = false → (s.port p).silent = false → s.newestQueued p r.line = none →
        (r.place = .reconstruction → s.stripeReadable r.unit = true) →
        Completes (.mediumSectorReadDone rid true (BitVec.allOnes 4)) s fun t =>
          ∃ d, Out.readData p tag (if (s.readValue p r.line).poison then 0 else (s.readValue p r.line).data) (s.readValue p r.line).poison d ∈ t.out) ∧
      Completes (.mediumSectorReadDone rid false tags) s fun t => ∃ e ∈ t.retries, e.line = r.line) ∧
  ((∀ (s : State) (obj : FailedObject), s.dataPath = true ∨ s.mode = modeRestore ∨ s.mode = modeHalt ∨ s.mode = modeSave →
      Completes (.failedCheck obj) s fun t =>
        t.integ.halt.isSome = true ∧ Counted 0x700302 1 s t ∧ Raised 56 s t ∧
        (s.serving = true ∨ s.mode = modeService →
          t.mode = modeHalt ∧ t.get 0x700301 = 1 ∧ (t.port .a).silent = true ∧ (t.port .b).silent = true) ∧
        (s.serving = false → s.mode ≠ modeService → t.mode = s.mode)) ∧
    ∀ (s : State) (rid : Nat) (r : Read), s.findRead rid = some r → r.place = .retry →
      ∀ senses : RetrySenses,
        (rereadVerifies senses = true ∨ (senses.rebuilt = true ∧ s.stripeReadable r.unit = true) →
          Completes (.mediaRetryEnd rid senses) s fun t => Counted 0x700307 1 s t ∧ Raised 57 s t ∧ ∀ e ∈ t.retries, e.line ≠ r.line) ∧
        (rereadVerifies senses = false → senses.rebuilt = false ∨ s.stripeReadable r.unit = false → (∃ p tag, r.reader = .host p tag) →
          s.serving = true → Completes (.mediaRetryEnd rid senses) s fun t => t.mode = modeHalt ∧ t.integ.halt.isSome = true))

/-- A read of a window address returns data that never carries poison, once the port's queue is empty and no store of the port waits for Cmp, and
a write receives Cmp (R54, R56).
A read of a group's control line returns its eight words at one instant; a read of the result alias the port's result line; a read of the
user counter window zeros where 0xB001.01 does not permit the counters; a read of the barrier word the dropped-store count and bits, which it
clears and counts; its response waits for the Cmps that the port is still owed (R57, R58, R60, R64, R94; log 147). -/
def Obligations.WindowAccessesAndReadsAreAnswered : Prop :=
  (∀ (s : State) (p : Port) (tag dpa : Nat), inWindows dpa = true → s.memOpen p = true → PortRests s p →
      ((∀ g, windowTarget (dpa / 64 * 64) ≠ .groupLine g) → s.owedCmps p = [] →
        Completes (.windowAccess p tag dpa .read) s fun t => ∃ d e, Out.readData p tag d false e ∈ t.out) ∧
      (s.writeOpen p = true → ∀ be d poison, Completes (.windowAccess p tag dpa (.write be d poison)) s fun t => ∃ e, Out.cmp p tag e ∈ t.out)) ∧
  (∀ (s : State) (p : Port) (tag : Nat), s.memOpen p = true → PortRests s p →
      (∀ g : Fin 262144, (s.group g.val).waitsFor p s.nextSeq = false →
        Completes (.groupControlRead p tag g) s fun t => ∃ e, Out.readData p tag (groupLine (s.group g.val)) false e ∈ t.out) ∧
      (∀ c : Fin 16384, s.mode ≠ modeService →
        Completes (.resultRead p tag c) s fun t => ∃ e, Out.readData p tag (s.resultLine p c.val).toLine false e ∈ t.out) ∧
      (∀ l : Fin 64, Completes (.userCounterWindowRead p tag l) s fun t =>
        ∃ d e, Out.readData p tag d false e ∈ t.out ∧ ((s.get 0xB00101).testBit (l.val / 8) = false → d = 0)) ∧
      (Completes (.barrierWordRead p tag) s fun t =>
        (s.owedCmps p = [] → ∃ e, Out.readData p tag (lineOfWords [s.barrierWord p]) false e ∈ t.out) ∧
          (s.owedCmps p ≠ [] → ∃ b ∈ (t.port p).barriers, b.tag = tag ∧ b.word = s.barrierWord p ∧ b.owed = s.owedCmps p) ∧ (t.port p).dropped = 0 ∧
          (t.port p).droppedHalted = false ∧ (t.port p).droppedAborted = false ∧ (t.port p).droppedOffline = false ∧
          Counted (0x302003 + p.code) 1 s t))

/-- A read through the reserve alias returns the cell's content, gives the port a reservation on the cell and clears the port's result line; where it
holds one already the read renews it, and the port's count does not change. With 64 reservations on other cells the read returns the content,
takes none, leaves the result line, is counted, and source 77 records one occurrence (R105). -/
def Obligations.ReserveReads : Prop :=
  ∀ (s : State) (p : Port) (tag : Nat) (c : Fin 16384), s.memOpen p = true → PortRests s p → s.mode ≠ modeService →
    Completes (.reserveRead p tag c) s fun t =>
      (∃ e, Out.readData p tag (s.cellLine c.val) false e ∈ t.out) ∧ t.cells = s.cells ∧
      (s.holdsReservation p c.val = true → t.reserved p = s.reserved p ∧ t.resultLine p c.val = {}) ∧
      (s.holdsReservation p c.val = false → (s.reserved p).length < 64 →
        t.reserved p = s.reserved p ++ [c.val] ∧ t.resultLine p c.val = {}) ∧
      (s.holdsReservation p c.val = false → 64 ≤ (s.reserved p).length →
        t.reserved p = s.reserved p ∧ t.resultLine p c.val = s.resultLine p c.val ∧ Counted (0x508003 + p.code) 1 s t ∧ Raised 77 s t ∧
          (s.canOccur 77 = true → Counted (sourceKey 77 0x02) 1 s t))

/-- A conditional store writes its complete words only where the port holds a reservation on the cell; it records the outcome, ends the
reservation and any of the other port. A plain store writes them at once, ends the other port's reservation and leaves the port's own. Every
other word of every cell stays (R55, R106, R107, R111). -/
def Obligations.CellStores : Prop :=
  ∀ (s : State) (p : Port) (tag : Nat) (c : Fin 16384) (be : ByteEnables) (d : Line), s.writeOpen p = true → PortRests s p →
    s.mode ≠ modeService → anyComplete be = true →
    (s.holdsReservation p c.val = true → Completes (.conditionalStore p tag c be d) s fun t =>
      (∀ c' w, w < 8 → t.cellWord c' w = if c' = c.val ∧ wordComplete w be = true then lineWord w d else s.cellWord c' w) ∧
        (t.resultLine p c.val).code = 1 ∧ s.nextStamp ≤ (t.resultLine p c.val).stamp ∧ t.holdsReservation p c.val = false ∧
        t.holdsReservation p.other c.val = false ∧ ∃ e, Out.cmp p tag e ∈ t.out) ∧
    (s.holdsReservation p c.val = false → Completes (.conditionalStore p tag c be d) s fun t =>
      t.cells = s.cells ∧ (t.resultLine p c.val).code = 2 ∧ Counted (0x508005 + p.code) 1 s t ∧ ∃ e, Out.cmp p tag e ∈ t.out) ∧
    Completes (.plainCellStore p tag c be d) s fun t =>
      (∀ c' w, w < 8 → t.cellWord c' w = if c' = c.val ∧ wordComplete w be = true then lineWord w d else s.cellWord c' w) ∧
        t.reserved p = s.reserved p ∧ t.holdsReservation p.other c.val = false ∧ ∃ e, Out.cmp p tag e ∈ t.out

/-- A write of a group command takes effect at once where the group has none in hand: it is judged, and a COMMIT makes the group COMMITTING. The
statuses are those of commands that no check of R117 refuses; an unassigned code is OUT_OF_RANGE (R115, R117, R119, R120, R125, R131). -/
def Obligations.GroupCommandsTakeEffect : Prop :=
  ∀ (s : State) (p : Port) (tag : Nat) (g : Fin 262144) (a b : Option Word), GroupsOk s.groups → s.writeOpen p = true →
    PortRests s p → s.modes.activation = none → (s.group g.val).running = none →
    let gr := s.group g.val
    let a' := a.getD gr.argA
    let b' := b.getD gr.argB
    let inHand (t : State) (code status : Nat) : Prop :=
      (∃ c, (t.group g.val).running = some c ∧ c.port = p ∧ c.code = code ∧ c.a = a' &&& argumentMask code ∧ c.b = b' ∧ c.seq = s.nextSeq ∧ c.status = status) ∧
        ∃ e, Out.cmp p tag e ∈ t.out
    (gr.phase = .free → b'.toNat ≤ 16777216 → a'.getLsbD 0 = false → Completes (.openGroup p tag g a b) s fun t => inHand t 1 0) ∧
    (gr.phase = .opened → gr.owner = p → bindArgsOk a' b' = true → gr.extents.length < 64 →
      s.lowestOffline (bindStart a') (bindPages b') = none → s.lowestBound g.val (bindStart a') (bindPages b') = none →
      s.claimedPages g.val + bindPages b' ≤ 16777216 → Completes (.bindGroup p tag g a b) s fun t => inHand t 2 0) ∧
    (gr.phase = .opened → gr.owner = p →
      Completes (.commitGroup p tag g a b) s fun t => inHand t 3 0 ∧ (t.group g.val).phase = .committing) ∧
    (gr.phase = .opened → gr.owner = p → Completes (.abortGroup p tag g a b) s fun t => inHand t 4 0) ∧
    (gr.phase = .committed ∨ gr.phase = .aborted ∨ gr.phase = .lost → Completes (.releaseGroup p tag g a b) s fun t => inHand t 5 0) ∧
    (∀ code : Byte, code.toNat = 0 ∨ 5 < code.toNat →
      Completes (.unassignedGroupCommand p tag g code a b) s fun t => inHand t code.toNat 0x0302)

/-- A group's running command finishes: it leaves the group's hand with its result word, of its status, its code, the phase that the group then has,
and its detail. OPEN makes the group OPEN for its port with the next generation, a new open stamp and no extent; BIND adds its extent; ABORT
makes the group ABORTED with end cause 1, with no extent and no provisional line, staged or logged; RELEASE makes it FREE, unfenced and without
extents; a COMMIT keeps the phase that its instant gave, and a command whose status is not 0 changes no phase. Here no other command, reader,
forced abort or discard waits, and nothing waits at a port (R116, R119, R120, R125).
At the commit instant the group is COMMITTED with the commit stamp and counted, and holds no extent and no provisional line. Each of its staged lines
becomes a committed staged line with that stamp, poisoned where it reads poisoned, of a range that a resume poisoned too; each line that it has in
the log alone becomes a committed one with that stamp where it lies. With a conflict and no override the group is ABORTED instead with end
cause 2, counted and reported by source 72, and its extents and provisional lines are gone (R130, R131, R132, R140). -/
def Obligations.GroupsFinishAndCommit : Prop :=
  (∀ (s : State) (g : Fin 262144) (c : GroupCommand), s.groupsRun = true → s.canFinish g.val = true → (s.group g.val).running = some c →
      (s.group g.val).waiting = [] → (s.group g.val).readers = [] → (s.group g.val).pendingForce = none →
      (s.port .a).discard.waits = false → (s.port .b).discard.waits = false → (∀ p, NothingWaits s p) →
      Completes (.groupCommandFinish g) s fun t =>
        (t.group g.val).running = none ∧
          (t.group g.val).result = resultWord c.status (c.code % 256) (t.group g.val).phase.code c.detail ∧
          (c.status ≠ 0 ∨ c.code = codeCommit → (t.group g.val).phase = (s.group g.val).phase) ∧
          (c.status = 0 → c.code = codeOpen → (t.group g.val).phase = .opened ∧ (t.group g.val).owner = c.port ∧
            (t.group g.val).generation = (s.group g.val).generation + 1 ∧ (t.group g.val).openStamp = s.nextStamp ∧
            (t.group g.val).extents = []) ∧
          (c.status = 0 → c.code = codeBind → (t.group g.val).extents = (s.group g.val).extents ++ [(bindStart c.a, bindPages c.b)]) ∧
          (c.status = 0 → c.code = codeAbort → (t.group g.val).phase = .aborted ∧ (t.group g.val).endCause = 1 ∧
            (t.group g.val).extents = [] ∧ (∀ l ∈ t.staging, l.grp ≠ some g.val) ∧ ∀ d ∈ t.xlat.delta, d.grp ≠ some g.val) ∧
          (c.status = 0 → c.code = codeRelease → (t.group g.val).phase = .free ∧ (t.group g.val).fenced = false ∧
            (t.group g.val).extents = [])) ∧
  (∀ (s : State) (g : Fin 262144), s.groupsRun = true → s.commitReady g.val = true →
      let emptied (t : State) : Prop := (t.group g.val).extents = [] ∧ (t.group g.val).prov = [] ∧
        (∀ l ∈ t.staging, l.grp ≠ some g.val) ∧ ∀ d ∈ t.xlat.delta, d.grp ≠ some g.val
      ((s.group g.val).conflict = false ∨ (s.group g.val).override = true → Completes (.commitInstant g) s fun t =>
        emptied t ∧ (t.group g.val).phase = .committed ∧ (t.group g.val).commitStamp = s.nextStamp ∧ Counted 0x502004 1 s t ∧
          (∀ l ∈ s.staging, l.grp = some g.val → ∃ l' ∈ t.staging, l'.line = l.line ∧ l'.grp = none ∧ l'.stamp = s.nextStamp ∧
            l'.poison = (l.poison || s.rangePoisons l.line l.stamp) ∧ l'.data = if l'.poison then 0 else l.data) ∧
          ∀ d ∈ s.xlat.delta, d.grp = some g.val → (∀ l ∈ s.staging, l.grp = some g.val → l.line ≠ d.line) →
            ∃ d' ∈ t.xlat.delta, d'.line = d.line ∧ d'.grp = none ∧ d'.place = d.place ∧ d'.stamp = s.nextStamp) ∧
      ((s.group g.val).conflict = true → (s.group g.val).override = false → Completes (.commitInstant g) s fun t =>
        emptied t ∧ (t.group g.val).phase = .aborted ∧ (t.group g.val).endCause = 2 ∧ Counted 0x502006 1 s t ∧ Raised 72 s t))

/-- A discard command that R61 and R128 do not refuse runs over the pages of its start and length; one written while a discard runs only sets the
overrun bit. At its instant it takes a free pending entry, reads done, and the lines of its range leave the staging array; the unmapper then
unmaps the range, drops the delta entries of older log sectors and frees the entry (R61, R62, R128, R167, R168). -/
def Obligations.DiscardsRun : Prop :=
  (∀ (s : State) (p : Port) (tag : Nat) (a n : Word), s.writeOpen p = true → PortRests s p →
    ((s.port p).discard.status ≠ 1 → s.discardReason (a &&& 0x3FFFFFFFFFF).toNat (n &&& 0x7FFFFFFFFFF).toNat = 0 →
      s.bindRuns ((a &&& 0x3FFFFFFFFFF).toNat / 4096) ((n &&& 0x7FFFFFFFFFF).toNat / 4096) = false →
      Completes (.discard p tag (some a) (some n)) s fun t =>
        (t.port p).discard.status = 1 ∧ (t.port p).discard.firstPage = (a &&& 0x3FFFFFFFFFF).toNat / 4096 ∧
          (t.port p).discard.pages = (n &&& 0x7FFFFFFFFFF).toNat / 4096 ∧ (t.port p).discard.overrun = false ∧ ∃ e, Out.cmp p tag e ∈ t.out) ∧
    ((s.port p).discard.status = 1 → Completes (.discard p tag (some a) (some n)) s fun t =>
      (t.port p).discard.status = 1 ∧ (t.port p).discard.overrun = true ∧
        (t.port p).discard.firstPage = (s.port p).discard.firstPage ∧ (t.port p).discard.pages = (s.port p).discard.pages)) ∧
  (∀ (s : State) (p : Port) (e : Nat), s.groupsRun = true → s.discardReady p = true →
    s.freeDiscardEntry = some e → Completes (.discardInstant p) s fun t =>
      (t.port p).discard.status = 2 ∧
        (∃ d, tfind e t.xlat.pendingDiscards = some d ∧ d.firstPage = (s.port p).discard.firstPage ∧ d.pages = (s.port p).discard.pages) ∧
        ∀ l ∈ t.staging, pageOfLine l.line < (s.port p).discard.firstPage ∨
          (s.port p).discard.firstPage + (s.port p).discard.pages ≤ pageOfLine l.line) ∧
  ∀ (s : State) (e : Nat) (d : PendingDiscard), s.dataPath = true → tfind e s.xlat.pendingDiscards = some d →
    Completes (.unmapperDone e) s fun t =>
      t.xlat.pendingDiscards = tdel e s.xlat.pendingDiscards ∧ t.xlat.mainMap = tdelRange d.firstPage d.pages s.xlat.mainMap ∧
        ∀ x, x ∈ t.xlat.delta ↔ x ∈ s.xlat.delta ∧
          ¬(d.firstPage ≤ pageOfLine x.line ∧ pageOfLine x.line < d.firstPage + d.pages ∧ x.place / 45 < d.mark)

/-- A flush phase completes on a port once the stores it asks for are visible: phase 1 with the queue empty, phase 2, raising source k = 11, with no
whole-line store left that received Cmp; until then the phase waits at the port (R69). -/
def Obligations.FlushesComplete : Prop :=
  ∀ (s : State) (p : Port), s.flushOpen p = true →
    (((flushQueue p s).port p).queue = [] → Completes (.globalPersistentFlushPhase1 p) s fun t => Out.flushDone p 1 ∈ t.out) ∧
    ((∀ x ∈ ((flushQueue p s).port p).queue, x.prot = false ∨ x.whole = false) →
      Completes (.globalPersistentFlushPhase2 p) s fun t => Out.flushDone p 2 ∈ t.out ∧ Raised (portSource p 11) (flushQueue p s) t) ∧
    ((∃ x ∈ ((flushQueue p s).port p).queue, x.seq < s.nextSeq) →
      Completes (.globalPersistentFlushPhase1 p) s fun t => (1, s.nextSeq) ∈ (t.port p).flushes)

/-- A write of a channel's descriptor stores its complete words' defined bits; a start captures the descriptor or refuses it with its reason; an
abort waits for the burst in progress; a start or an abort that does not fit the channel's state is ignored and noted; in a halted channel all
three are dropped (R505, R506, R510, R511). -/
def Obligations.DmaCommandsTakeEffect : Prop :=
  ∀ (s : State) (p : Port) (tag : Nat) (ch : Fin 16), s.writeOpen p = true → PortRests s p →
    let c := s.channel ch.val
    (c.state ≠ 4 →
      (∀ be data, Completes (.dmaDescriptorWrite p tag ch be data) s fun t =>
        (∀ w, w < 8 → (t.channel ch.val).desc.getD w 0 =
          if wordComplete w be = true then lineWord w data &&& descMask w else c.desc.getD w 0) ∧
          (t.channel ch.val).state = c.state ∧ (t.channel ch.val).captured = c.captured ∧ ∃ e, Out.cmp p tag e ∈ t.out) ∧
      (c.state ≠ 1 → s.dmaRefusal ch.val c.desc = 0 → Completes (.dmaStart p tag ch) s fun t =>
        (t.channel ch.val).state = 1 ∧ (t.channel ch.val).captured = c.desc ∧ (t.channel ch.val).residue = dmaLength c.desc ∧
          (t.channel ch.val).port = p ∧ ∃ e, Out.cmp p tag e ∈ t.out) ∧
      (c.state ≠ 1 → s.dmaRefusal ch.val c.desc ≠ 0 → Completes (.dmaStart p tag ch) s fun t =>
        (t.channel ch.val).state = 6 ∧ (t.channel ch.val).refusal = s.dmaRefusal ch.val c.desc) ∧
      (c.state = 1 → Completes (.dmaStart p tag ch) s fun t => t.channel ch.val = { c with ignored := true }) ∧
      (c.state = 1 → Completes (.dmaAbort p tag ch) s fun t => t.channel ch.val = { c with abortPending := true }) ∧
      (c.state ≠ 1 → Completes (.dmaAbort p tag ch) s fun t => t.channel ch.val = { c with ignored := true })) ∧
    (c.state = 4 → ∀ be data, ∀ i ∈ [Instr.dmaDescriptorWrite p tag ch be data, .dmaStart p tag ch, .dmaAbort p tag ch],
      Completes i s fun t => t.channel ch.val = c ∧ (t.port p).dropped = min ((s.port p).dropped + 1) 0xFFFFFFFF)

/-- A burst of a running copy or fill, while the module is protected, places every line at one stamp, lowers the residue and is counted; the
transfer then ends, aborted or done, or runs on. A burst that meets a bus error is not placed: the channel halts with its cause, is counted and
raises its source (R507, R508, R510, R511).
The idle timer of a continuous drain places what its channel has gathered, short of a full burst: every line at one stamp, and the residue falls
by its bytes (R509). Here every item in the queue fits. -/
def Obligations.BurstsArePlaced : Prop :=
  (∀ (s : State) (ch : Fin 16), let c := s.channel ch.val
      c.state = 1 → s.burstMode c = true → dmaOp c.captured ≠ 4 →
      (s.burstError c c.room = none → (∀ g ∈ State.sourceSegments c, s.isRebuilt g = true) → s.stagingFull = false → s.protected = true →
        Completes (.dmaBurstPlaced ch) s fun t =>
          (∀ x ∈ s.copyLines c, ∃ l ∈ t.staging, l.line = x.1 ∧ l.grp = none ∧ l.data = x.2.1 ∧ l.poison = x.2.2 ∧ l.stamp = s.nextStamp) ∧
            (t.channel ch.val).residue = c.residue - c.room ∧ (t.channel ch.val).lastStamp = s.nextStamp ∧
            (t.channel ch.val).state = (if c.abortPending then 3 else if c.residue = c.room then 2 else 1) ∧
            Counted 0xC00102 c.room s t) ∧
      (∀ cause dpa direction, s.burstError c c.room = some (cause, dpa, direction) → Completes (.dmaBurstPlaced ch) s fun t =>
        (t.channel ch.val).state = 4 ∧ (t.channel ch.val).busError = cause ∧ (t.channel ch.val).failing = dpa ∧
          (t.channel ch.val).direction = direction ∧ t.staging = s.staging ∧ Counted 0xC00104 1 s t ∧ Raised (104 + ch.val) s t)) ∧
  (∀ (s : State) (ch : Fin 16) (bytes : List Byte), let c := s.channel ch.val
      c.state = 1 → s.burstMode c = true → dmaOp c.captured = 4 → dmaContinuous c.captured = true →
      gather c.room c.residue c.carry (s.drainItems c) = (bytes, (s.drainItems c).length) → bytes ≠ [] → bytes.length ≤ c.room →
      s.burstError c bytes.length = none → s.stagingFull = false → s.protected = true →
        Completes (.drainIdleTimer ch) s fun t =>
          (∀ x ∈ s.bytesToLines c.to s.freeNow bytes, ∃ l ∈ t.staging, l.line = x.1 ∧ l.grp = none ∧ l.data = x.2.1 ∧ l.stamp = s.nextStamp) ∧
            (t.channel ch.val).residue = c.residue - bytes.length ∧ (t.channel ch.val).carry = [] ∧
            (dmaQueue c.captured = 0 → t.obs.samples = []) ∧ Counted 0xC00102 bytes.length s t)

/-- An abort accepted while the channel runs lets the burst in progress be placed: the channel goes on running, and after its next burst, of a copy, a
fill or a drain, it is aborted, with the residue that the burst leaves, no running word, and its source raised (R510). A burst is placed here as
R507 and R512 allow it, while the module is protected. -/
def Obligations.AbortsLetTheBurstBePlaced : Prop :=
  (∀ (s : State) (p : Port) (tag : Nat) (ch : Fin 16), s.writeOpen p = true → PortRests s p → (s.channel ch.val).state = 1 →
    Completes (.dmaAbort p tag ch) s fun t => t.channel ch.val = { s.channel ch.val with abortPending := true }) ∧
  ∀ (s : State) (ch : Fin 16), let c := s.channel ch.val
    c.state = 1 → c.abortPending = true → s.burstMode c = true →
    let ended (n : Nat) (t : State) : Prop := (t.channel ch.val).state = 3 ∧ (t.channel ch.val).residue = c.residue - n ∧
      (t.channel ch.val).runningWord = none ∧ (t.channel ch.val).abortPending = false ∧ Raised (104 + ch.val) s t
    (dmaOp c.captured ≠ 4 → s.burstError c c.room = none → (∀ g ∈ State.sourceSegments c, s.isRebuilt g = true) → s.stagingFull = false →
      s.protected = true → Completes (.dmaBurstPlaced ch) s fun t => ended c.room t ∧
        ∀ x ∈ s.copyLines c, ∃ l ∈ t.staging, l.line = x.1 ∧ l.grp = none ∧ l.data = x.2.1 ∧ l.poison = x.2.2 ∧ l.stamp = s.nextStamp) ∧
    (dmaOp c.captured = 4 → let bytes := (gather c.room c.residue c.carry (s.drainItems c)).1.take c.room
      (bytes = [] → Completes (.dmaBurstPlaced ch) s fun t => ended 0 t ∧ t.staging = s.staging) ∧
      (bytes ≠ [] → s.burstError c bytes.length = none → s.stagingFull = false → s.protected = true →
        Completes (.dmaBurstPlaced ch) s fun t => ended bytes.length t ∧
          ∀ x ∈ s.bytesToLines c.to s.freeNow bytes, ∃ l ∈ t.staging, l.line = x.1 ∧ l.grp = none ∧ l.data = x.2.1 ∧ l.stamp = s.nextStamp))

/-- A port's decoder is refused, with its Error Not Committed bit and source k = 8, where the interleave ways are not 1, the size is no multiple of
256 MiB, the range goes above 0x0400_4FFF_FFFF, or it covers data together with a window or more than one window slot; else it commits. The
port's other decoders stay (R52). -/
def Obligations.DecodersCommit : Prop :=
  ∀ (s : State) (p : Port) (n : Fin 8) (ways base size : Nat), s.ioOpen p = true →
    let refused : Prop := ways ≠ 1 ∨ size % 0x10000000 ≠ 0 ∨ 0x040050000000 < base + size ∨
      (base < 0x040000000000 ∧ 0x040000000000 < base + size) ∨
      (0x040000000000 ≤ base ∧ 0 < size ∧ base / 0x10000000 ≠ (base + size - 1) / 0x10000000)
    Completes (.hdmDecoderCommit p n ways base size) s fun t =>
      (n.val ∈ (t.port p).decoderErrors ↔ refused) ∧ ((t.get (p.key 0x07)).testBit n.val = true ↔ ¬refused) ∧
      (refused → tfind n.val (t.port p).decoders = none ∧ Raised (portSource p 8) s t) ∧
      (¬refused → tfind n.val (t.port p).decoders = some { base := base, size := size }) ∧
      ∀ m, m ≠ n.val → tfind m (t.port p).decoders = tfind m (s.port p).decoders ∧
        (m ∈ (t.port p).decoderErrors ↔ m ∈ (s.port p).decoderErrors) ∧
        (t.get (p.key 0x07)).testBit m = (s.get (p.key 0x07)).testBit m

/-- A port's link goes from down to training to up: it reports its rate and width, becomes operational at once where READY is high, and reports a
width below nominal; a failed training is retried up to 0x3001.06 times, then the port is held down (R46, R47, R48, R531).
A port exception is counted with its cause and ends the port's reservations before its drain, which no waiting access follows here; containment leaves link state 4; PERST leaves the link down, and
the port without decoders, and marks it held; the loss of a link leaves it down (R45, R81, R90, R107). -/
def Obligations.PortsTrainAndFail : Prop :=
  (∀ (s : State) (p : Port),
      (s.linksRun = true → s.portEnabled p = true → (s.port p).perst = false → (s.port p).heldDown = false → s.linkState p = 0 →
        Completes (.portDetect p) s fun t => t.linkState p = 1) ∧
      (∀ rate width, s.linkState p = 1 → s.linkOk p rate width = true → Completes (.linkUp p rate width) s fun t =>
        t.get (p.key 0x02) = rate ∧ t.get (p.key 0x03) = width ∧ t.linkState p = (if s.ready p then 3 else 2) ∧
          (width ≠ s.nominalWidth p → Raised (portSource p 3) s t) ∧ (s.ready p = true → Raised (portSource p 0) s t)) ∧
      (s.linkState p = 1 → Completes (.linkTrainingFailed p) s fun t => Raised (portSource p 2) s t ∧
        ((s.port p).retries < s.get 0x300106 → t.linkState p = 1 ∧ (t.port p).retries = (s.port p).retries + 1) ∧
        (s.get 0x300106 ≤ (s.port p).retries → t.linkState p = 0 ∧ (t.port p).heldDown = true))) ∧
  (∀ (s : State) (p : Port),
      (∀ cause, s.portEnabled p = true → s.vcoreOn = true → 1 ≤ cause → cause ≤ 7 → Completes (.portException p cause) s fun t =>
        t.get (p.key 0x06) = cause ∧ Counted (p.key 0x05) 1 s t ∧ ((s.port p).waits = [] → t.reserved p = []) ∧ (cause = 2 → t.linkState p = 4 ∧ (t.port p).contained = true)) ∧
      (s.portEnabled p = true → s.vcoreOn = true → (s.port p).perst = false → Completes (.perst p true) s fun t =>
        t.linkState p = 0 ∧ (t.port p).perst = true ∧ (t.port p).decoders = [] ∧ t.get (p.key 0x07) = 0 ∧ t.get (p.key 0x06) = 3 ∧
          ((s.port p).waits = [] → t.reserved p = []) ∧ Raised (portSource p 5) s t) ∧
      Completes (.perst p false) s (fun t => (t.port p).perst = false ∧ t.linkState p = s.linkState p) ∧
      (s.linkState p = 2 ∨ s.linkState p = 3 ∨ s.linkState p = 4 → Completes (.surpriseLinkLoss p) s fun t =>
        t.linkState p = 0 ∧ t.get (p.key 0x02) = 0 ∧ t.get (p.key 0x03) = 0 ∧ ((s.port p).waits = [] → t.reserved p = []) ∧
          t.get (p.key 0x06) = 1) ∧
      (s.ioOpen p = true → Completes (.viralReceived p) s fun t =>
        t.linkState p = 4 ∧ (t.port p).contained = true ∧ t.get (p.key 0x06) = 2 ∧ ((s.port p).waits = [] → t.reserved p = []) ∧
          Raised (portSource p 7) s t))

/-- A standard mailbox query is answered with Success and its fields, and changes nothing else but the wake it may start in DOZE; the health query
carries one field that no rule states, a free value (R74; return codes PRESUMED, log 62).
A standard mailbox command that sets something takes effect and is answered with Success: device time, an event interrupt policy, and the
records cleared from a log, all or by handle; an unknown handle clears nothing (R72, R74, R146; return codes PRESUMED, log 62). -/
def Obligations.MailboxQueriesAndSettings : Prop :=
  (∀ (s : State) (p : Port), s.ioOpen p = true → let u := if s.mode = modeDoze then wakeBy 0 s else s
      (∀ q ∈ [(Instr.identify p, [bytesToNat (u.getBytes 0x100001), bytesToNat (u.getBytes 0x100003), u.get 0xD06001]),
          (Instr.getTimestamp p, [u.read 0x405001]), (Instr.identifyMemoryDevice p, [16384, 0, 16384, 0, 0, 0]),
          (Instr.getFwInfo p, [2, u.get 0xD06001, u.get 0xD06002, u.get 0xD06004, u.get 0xD06005]),
          (Instr.getEventInterruptPolicy p, (List.range 4).map fun k => tgetD 0 k (u.port p).policy)],
        Completes q.1 s fun t => t = emit (.mailbox p 0 q.2) u) ∧
      (∀ log : Fin 4, Completes (.getEventRecords p log) s fun t => t = emit (.mailbox p 0 ((tgetD {} log.val (u.port p).logs).overflow ::
        ((tgetD {} log.val (u.port p).logs).records.map (EventRecord.fields u.eventUuid)).flatten)) u) ∧
      Completes (.getHealthInfo p) s (fun t => ∃ m, Out.mailbox p 0 [u.read 0x61E005, m, u.read 0x61E001, u.get 0x900101, u.get 0x402003,
        u.get 0x800101 + u.get 0x800103, u.get 0x800105] ∈ t.out) ∧
      ∀ opcode : BitVec 16, opcode.toNat ∉ standardOpcodes → (opcode.toNat < 0xC000 ∨ 0xC007 < opcode.toNat) →
        Completes (.unsupportedMailboxOpcode p opcode) s fun t => t = emit (.mailbox p 3 []) u) ∧
  (∀ (s : State) (p : Port), s.ioOpen p = true → s.mode ≠ modeDoze →
      (∀ time : Word, Completes (.setTimestamp p time) s fun t =>
        t.deviceTime = time.toNat ∧ t.get 0x405002 = 1 ∧ Out.mailbox p 0 [] ∈ t.out) ∧
      (∀ i w f e : Byte, Completes (.setEventInterruptPolicy p i w f e) s fun t =>
        (List.range 4).map (fun k => tgetD 0 k (t.port p).policy) = [i.toNat, w.toNat, f.toNat, e.toNat] ∧ Out.mailbox p 0 [] ∈ t.out) ∧
      ∀ log : Fin 4, let l := tgetD {} log.val (s.port p).logs
        Completes (.clearEventRecords p log none) s (fun t =>
          (tgetD {} log.val (t.port p).logs).records = [] ∧ Out.mailbox p 0 [] ∈ t.out) ∧
        ∀ hs : List Nat,
          ((∀ h ∈ hs, ∃ r ∈ l.records, r.handle = h) → Completes (.clearEventRecords p log (some hs)) s fun t =>
            (∀ r, r ∈ (tgetD {} log.val (t.port p).logs).records ↔ r ∈ l.records ∧ r.handle ∉ hs) ∧ Out.mailbox p 0 [] ∈ t.out) ∧
          (∀ h ∈ hs, (∀ r ∈ l.records, r.handle ≠ h) → Completes (.clearEventRecords p log (some hs)) s fun t =>
            (t.port p).logs = (s.port p).logs ∧ Out.mailbox p 0x0E [] ∈ t.out))

/-- Firmware commands of a host: an image with a valid signature and a permitted version enters the staged slot, any other is refused and reported;
an activation starts online, or is set for the next reset (R74, R411; return codes PRESUMED, log 62).
Sanitize and Secure Erase of a host start in the background and renew every active key slot at one instant: the wrapped form of each is that of a key generated since, no line that a
renewal covers stays in the staging array, and source 62 is raised; without permission they are Unsupported (R75, R334, R335; return codes
PRESUMED, log 62). -/
def Obligations.FirmwareAndSanitizeCommands : Prop :=
  (∀ (s : State) (p : Port), s.ioOpen p = true →
      (∀ version, s.get 0x304003 = 1 → s.actsNow = true →
        (s.get 0xD06008 ≤ version → Completes (.transferFw p true version) s fun t =>
          t.get 0xD06002 = 1 ∧ t.get 0xD06005 = version % 2 ^ 32 ∧ tfind (1 - s.get 0xD06001) t.modes.slotVersions = some version ∧
            Raised 280 s t ∧ Out.mailbox p 0 [] ∈ t.out) ∧
        (version < s.get 0xD06008 → Completes (.transferFw p true version) s fun t =>
          t.get 0xD06002 = s.get 0xD06002 ∧ t.modes.slotVersions = s.modes.slotVersions ∧ Raised 284 s t ∧ Out.mailbox p 0x0A [] ∈ t.out) ∧
        Completes (.transferFw p false version) s fun t =>
          t.get 0xD06002 = s.get 0xD06002 ∧ t.modes.slotVersions = s.modes.slotVersions ∧ Raised 281 s t ∧ Out.mailbox p 0x0A [] ∈ t.out) ∧
      (s.activationAllowed = true →
        Completes (.activateFw p true .passes) s (fun t =>
          t.modes.activation = some { clock := s.clock, passes := true } ∧ Out.mailbox p 0 [] ∈ t.out) ∧
        Completes (.activateFw p true .selfCheckFails) s (fun t =>
          t.modes.activation = some { clock := s.clock, passes := false } ∧ Out.mailbox p 0 [] ∈ t.out) ∧
        Completes (.activateFw p true .signatureFails) s (fun t => t.modes.activation = none ∧ Raised 281 s t ∧ Out.mailbox p 0x0A [] ∈ t.out) ∧
        Completes (.activateFw p true .versionFails) s fun t => t.modes.activation = none ∧ Raised 284 s t ∧ Out.mailbox p 0x0A [] ∈ t.out) ∧
      ∀ r, s.mode ≠ modeDoze → s.get 0xD06002 ≠ 0 → s.modes.activation = none →
        Completes (.activateFw p false r) s fun t => t.get 0xD06002 = 2 ∧ Out.mailbox p 0 [] ∈ t.out) ∧
  (∀ (s : State) (p : Port), s.ioOpen p = true → ∀ c ∈ [Instr.sanitize (.inl p), .secureErase p],
      (s.get 0x304001 = 1 → s.actsNow = true → Completes c s fun t =>
        (∀ k ∈ s.activeSlots, (∃ n, s.integ.keysGenerated ≤ n ∧ n < t.integ.keysGenerated ∧
            t.wrappedKey k = Config.aesWrap keyEncryptionKey (Config.generatedKey n)) ∧
          ∀ l ∈ t.staging, ∀ r ∈ s.slotRanges k, extentHas (pageOfLine l.line) r = false) ∧ Raised 62 s t ∧ Out.mailbox p 1 [] ∈ t.out) ∧
      (s.get 0x304001 ≠ 1 → s.mode ≠ modeDoze → Completes c s fun t => t = emit (.mailbox p 3 []) s))

/-- A request that a check of R435 refuses is answered with that check's status and changes no entry, whatever it asks, on any path (R9, R435).
An admitted read is answered with OK and the entry's value, or the segment of it that a block read asks for; a read of an RC entry clears it, and
a read of the oldest sample item takes the item (R10, R435, R460, R502). -/
def Obligations.RequestsAreRefusedOrRead : Prop :=
  (∀ (s v u : State) (req : Req) (idx sub : Nat), Arrives req.path s v →
      (Accepted req idx sub .read v u → u.judge req idx sub .read ≠ 0 →
        ∀ c ∈ [Instr.entryRead req idx sub, .rcEntryRead req idx sub], Completes c s fun t =>
          Replied req .read (u.judge req idx sub .read) t ∧ t.dict = u.dict ∧ t.octs = u.octs ∧ t.mgmt.changes = u.mgmt.changes) ∧
      ∀ x, Accepted req idx sub (.write x) v u → u.judge req idx sub (.write x) ≠ 0 → u.judge req idx sub (.write x) ≠ stStateConflict →
        Completes (.entryWrite req idx sub x) s fun t =>
          Replied req (.write x) (u.judge req idx sub (.write x)) t ∧ t.dict = u.dict ∧ t.octs = u.octs ∧ t.mgmt.changes = u.mgmt.changes) ∧
  (∀ (s u : State) (req : Req) (idx sub : Nat) (d : Desc), describe (idx * 256 + sub) = some d →
      (Admitted s req idx sub .read u →
        (∀ c ∈ [Instr.entryRead req idx sub, .rcEntryRead req idx sub], Completes c s fun t =>
          (∃ tag, Out.dict req.path (askOp req.path .read) (replyHead req idx sub) 0 d.ty.code (u.answerBytes (idx * 256 + sub)) tag ∈ t.out) ∧
            (d.access ≠ .rc → t.dict = u.dict ∧ t.octs = u.octs ∧ t.obs = u.obs) ∧
            (d.access = .rc → d.ty.isBytes = false → t.get (idx * 256 + sub) = defaultOf (idx * 256 + sub))) ∧
        (idx = 0xB040 → sub = 0x05 → Completes (.oldestSampleItemRead req) s fun t =>
          (∃ tag, Out.dict req.path (askOp req.path .read) (replyHead req idx sub) 0 d.ty.code (u.answerBytes 0xB04005) tag ∈ t.out) ∧
            t.obs.samples = u.obs.samples.drop 1)) ∧
      ∀ offset n, Admitted s req idx sub (.blockRead offset n) u →
        Completes (.blockRead req idx sub offset n) s fun t =>
          ∃ tag, Out.dict req.path (askOp req.path (.blockRead offset n)) (replyHead req idx sub) 0 d.ty.code
            (((u.answerBytes (idx * 256 + sub)).drop offset).take n) tag ∈ t.out)

/-- An admitted write of an entry whose chapter adds nothing to it is answered with OK, leaves its change record and is counted in 0x1200.01; the entry
then holds the value, that of the assembled segments for the last one of a block write, and every other entry that is no report's stays (R435, R447,
R455, R460). -/
def Obligations.WritesTakeTheirValue : Prop :=
  ∀ (s u : State) (req : Req) (idx sub : Nat) (d : Desc), describe (idx * 256 + sub) = some d → d.access ≠ .act →
    ownEffect (idx * 256 + sub) = false → idx * 256 + sub ≠ 0x120001 →
    let holds (v : List Byte) (t : State) : Prop :=
      Recorded u.nextStamp (idx * 256 + sub) 1 t ∧ Counted 0x120001 1 u t ∧
        (d.ty.isBytes = true → t.getBytes (idx * 256 + sub) = v) ∧
        (d.ty.isBytes = false → t.get (idx * 256 + sub) = bytesToNat v) ∧
        (∀ k, k ≠ idx * 256 + sub → t.getBytes k = u.getBytes k ∧ (¬reportKey k → k ≠ 0x120001 → t.get k = u.get k)) ∧
        t.staging = u.staging ∧ t.groups = u.groups ∧ t.cells = u.cells
    (∀ v, Admitted s req idx sub (.write v) u →
      Completes (.entryWrite req idx sub v) s (fun t => holds v t ∧ Replied req (.write v) 0 t) ∧
      (∀ r : Fin 64, idx = 0x4100 + r.val → Completes (.regionAttributeWrite req r sub v) s fun t => holds v t ∧ Replied req (.write v) 0 t) ∧
      (idx = 0x1400 → Completes (.fieldLinkConfigWrite req sub v) s fun t =>
        holds v t ∧ (d.ty.isBytes = false → 1 ≤ sub → sub ≤ 8 → t.mgmt.beaconLost = false) ∧ Replied req (.write v) 0 t)) ∧
    ∀ offset seg v, u.assembled req (idx * 256 + sub) offset seg = some v →
      (Admitted s req idx sub (.blockWrite offset seg true) u →
        Completes (.blockWrite req idx sub offset seg true) s fun t => holds v t ∧ Replied req (.blockWrite offset seg true) 0 t) ∧
      (Admitted s req idx sub (.blockWrite offset seg false) u → Completes (.blockWrite req idx sub offset seg false) s fun t =>
        t.dict = u.dict ∧ t.octs = u.octs ∧ t.blockOf req = some { path := req.path, session := req.session, key := idx * 256 + sub, bytes := v } ∧
          Replied req (.blockWrite offset seg false) 0 t)

/-- Admitted writes of device time, the policy profile, a port's enable and forced unprotected operation take their effects: the time and its source;
the requested and the applied profile; a port's link that falls as it is disabled, at once or once its drain has ended; and the protection that is given up (R26, R50, R146, R192).
Admitted writes of a region's Enable and class take their effects: the region is ready, offline to enabling checks or prepared as its class
says (R187 to R189). -/
def Obligations.SettingsAndRegionsTakeEffect : Prop :=
  (∀ (s u : State) (req : Req) (v : List Byte),
      (Admitted s req 0x4050 0x01 (.write v) u → Completes (.deviceTimeWrite req v) s fun t =>
        t.deviceTime = bytesToNat v ∧ t.get 0x405002 = (if onLink req.path then 2 else 1) ∧ Replied req (.write v) 0 t) ∧
      (Admitted s req 0x4010 0x01 (.write v) u → Completes (.policyProfileWrite req v) s fun t =>
        t.get 0x401001 = bytesToNat v ∧ t.get 0x401002 = bytesToNat v ∧ (u.get 0x401002 ≠ bytesToNat v → Raised 92 u t) ∧
          Replied req (.write v) 0 t) ∧
      (∀ p : Port, Admitted s req 0x3001 (0x04 + p.code) (.write v) u → u.get (0x300104 + p.code) ≤ 1 → Completes (.portEnableWrite req p v) s fun t =>
        t.get (0x300104 + p.code) = bytesToNat v ∧ Replied req (.write v) 0 t ∧
          (u.get (0x300104 + p.code) = 1 → bytesToNat v = 0 → t.ready p = false ∧
            (t.linkState p = 0 ∨ ((t.port p).closing = true ∧ (t.port p).draining ≠ 0)) ∧ (PortRests u p → t.linkState p = 0) ∧
            (u.linkState p = 2 ∨ u.linkState p = 3 → t.get (p.key 0x06) = 6 ∧ Counted (p.key 0x05) 1 u t))) ∧
      (Admitted s req 0x4020 0x07 (.write v) u → Completes (.forceUnprotectedWrite req v) s fun t =>
        t.get 0x402007 = bytesToNat v ∧ Replied req (.write v) 0 t ∧
          (bytesToNat v = 1 → u.protectionActs = true → u.protected = true → t.protected = false))) ∧
  (∀ (s u : State) (req : Req) (r : Fin 64) (v : List Byte),
      (Admitted s req (0x4100 + r.val) 0x01 (.write v) u → Completes (.regionAttributeWrite req r 0x01 v) s fun t =>
        t.get (regionKey r.val 0x01) = bytesToNat v ∧ Replied req (.write v) 0 t ∧
          (bytesToNat v ≠ u.get (regionKey r.val 0x01) →
            t.get (regionKey r.val 0x0C) = if bytesToNat v = 1 then (if u.get (regionKey r.val 0x04) = 1 then 2 else 1) else 0)) ∧
      (Admitted s req (0x4100 + r.val) 0x04 (.write v) u → Completes (.regionClassWrite req r v) s fun t =>
        t.get (regionKey r.val 0x04) = bytesToNat v ∧ Replied req (.write v) 0 t ∧
          t.get (regionKey r.val 0x0C) = (if u.regionEnabled r.val = true ∧ u.regionOffline r.val = false then
            (if bytesToNat v = 1 then (if u.get (regionKey r.val 0x04) = 1 then u.get (regionKey r.val 0x0C) else 2)
             else if u.get (regionKey r.val 0x0C) = 2 then 1 else u.get (regionKey r.val 0x0C))
           else u.get (regionKey r.val 0x0C))))

/-- Admitted writes of a latch, a counter's select and sticky bit, the queue flush and a level key take their effects: the latch reads 0 where its
source has not occurred since, with the count taken as cleared; the counter starts again; its sticky bit goes; the queues are empty; the key is set
under the session's wrap key, or emptied, and the level's other sessions end (R446, R480, R495, R496, R504). -/
def Obligations.ClearingWritesTakeEffect : Prop :=
  ∀ (s u : State) (req : Req) (v : List Byte),
    (∀ src : Fin 288, Admitted s req (0xE000 + src.val) 0x01 (.write v) u → bytesToNat v = 1 →
      Completes (.latchClear req src v) s fun t => Replied req (.write v) 0 t ∧ t.get (sourceKey src.val 0x03) = u.get (sourceKey src.val 0x02) ∧
        (src.val ∉ [10, 22, 130, 131, 135] → u.get (sourceKey src.val 0x12) ≤ u.nextStamp → t.get (sourceKey src.val 0x01) = 0) ∧
        (src.val = 130 → u.canOccur 130 = true → t.get (sourceKey 130 0x01) = 1)) ∧
    (∀ n : Fin 512, Admitted s req (0xB110 + n.val / 128) (n.val % 128 + 1) (.write v) u → Completes (.counterSelectWrite req n v) s fun t =>
      t.get (selectKey n.val) = bytesToNat v ∧ t.get (counterKey n.val) = 0 ∧ Replied req (.write v) 0 t) ∧
    (∀ n : Fin 512, Admitted s req (0xB100 + n.val / 128) (n.val % 128 + 1) (.write v) u → bytesToNat v ≠ 0 →
      Completes (.counterStickyClear req n v) s fun t => t.get (counterKey n.val) < 2 ^ 48 ∧ Replied req (.write v) 0 t) ∧
    (Admitted s req 0xB040 0x01 (.write v) u → Completes (.queueFlush req v) s fun t =>
      ((bytesToNat v).testBit 0 = true → t.obs.samples = []) ∧ ((bytesToNat v).testBit 2 = true → t.mgmt.received = []) ∧
        (bytesToNat v ≠ 0 → bytesToNat v < 8 → Raised 126 u t) ∧ Replied req (.write v) 0 t) ∧
    ∀ level : Fin 4, Admitted s req 0x1110 (level.val + 1) (.write v) u → Completes (.levelKeyWrite req level v) s fun t =>
      Replied req (.write v) 0 t ∧ (∀ x ∈ t.mgmt.sessions, x.level = level.val → x.number = req.session) ∧
        (v.all (· == 0) = true → tfind level.val t.mgmt.levelKeys = none) ∧
        (v.all (· == 0) = false → ∀ x k, u.sessionOf req = some x → Config.aesUnwrap x.wrapKey v = some k →
          tfind level.val t.mgmt.levelKeys = some k)

/-- Admitted actions on groups, media, regions and keys are answered with OK and take their effects: a forced abort with cause 5; a die retiring; a
region offline, or ready or prepared again; a slot renewed (R136, R286, R293, R334, R348, R511).
Admitted actions on stored data and failed checks take their effects: the error table is empty; a raw write is kept and a raw read reports its
code, with source 229; a resume from HALT clears the record, answers CXL.mem again and serves in the mode of the supply band (R332, R348,
R351). -/
def Obligations.StorageAndRepairActions : Prop :=
  (∀ (s u : State) (req : Req) (v : List Byte), let n := bytesToNat v
      (Admitted s req 0x5010 0x01 (.act v) u → (u.group n).running = none → Completes (.forceAbort req v) s fun t =>
        Replied req (.act v) 0 t ∧ (t.group n).phase = .aborted ∧ (t.group n).endCause = 5 ∧ (t.group n).fenced = true ∧
          (∀ l ∈ t.staging, l.grp ≠ some n) ∧ Counted 0x502007 1 u t ∧ Raised 73 u t) ∧
      (Admitted s req 0x6190 0x07 (.act v) u → Completes (.retireDie req v) s fun t =>
        Replied req (.act v) 0 t ∧ t.dieState n = 1 ∧ n ∈ t.med.rebuildDies ∧ Raised 242 u t) ∧
      (Admitted s req 0x6190 0x08 (.act v) u → Completes (.regionOffline req v) s fun t =>
        Replied req (.act v) 0 t ∧ t.regionOffline n = true) ∧
      (Admitted s req 0x6190 0x09 (.act v) u → Completes (.regionOnline req v) s fun t =>
        Replied req (.act v) 0 t ∧ t.get (regionKey n 0x0C) = if u.get (regionKey n 0x04) = 1 then 2 else 1) ∧
      (Admitted s req 0x7002 0x01 (.act v) u → Completes (.renewKeySlot req v) s fun t =>
        Replied req (.act v) 0 t ∧ t.wrappedKey n = Config.aesWrap keyEncryptionKey (Config.generatedKey u.integ.keysGenerated) ∧ t.get (slotKey n) = 1 ∧ Raised 61 u t ∧
          ∀ l ∈ t.staging, ∀ r ∈ u.slotRanges n, extentHas (pageOfLine l.line) r = false) ∧
      (Admitted s req 0x7002 0x03 (.act []) u → Completes (.sanitize (.inr req)) s fun t =>
        Replied req (.act []) 0 t ∧ (∀ k ∈ u.activeSlots, ∃ m, u.integ.keysGenerated ≤ m ∧ m < t.integ.keysGenerated ∧
          t.wrappedKey k = Config.aesWrap keyEncryptionKey (Config.generatedKey m)) ∧ Raised 62 u t) ∧
      (Admitted s req 0xC002 0x01 (.act v) u → Completes (.releaseChannel req v) s fun t =>
        Replied req (.act v) 0 t ∧ t.channel n = { u.channel n with state := 0, runningWord := none } ∧ t.staging = u.staging)) ∧
  (∀ (s u : State) (req : Req) (v : List Byte),
      (Admitted s req 0x8010 0x03 (.act []) u → Completes (.clearTable req) s fun t =>
        Replied req (.act []) 0 t ∧ t.stored.errors = [] ∧ t.stored.savedErrors = []) ∧
      (Admitted s req 0x8040 0x06 (.act []) u → Completes (.writeRaw req) s fun t =>
        Replied req (.act []) 0 t ∧ (u.testMemory, u.get 0x804002, u.getBytes 0x804004, u.getBytes 0x804005) ∈ t.stored.scratch ∧ Raised 229 u t) ∧
      (∀ result decoded, Admitted s req 0x8040 0x07 (.act []) u → Completes (.readRaw req result decoded) s fun t =>
        Replied req (.act []) 0 t ∧ Raised 229 u t ∧ (result = .clean → t.get 0x80400A = 0) ∧ (result = .uncorrectable → t.get 0x80400A = 2) ∧
          (∀ k, result = .corrected k → t.get 0x80400A = 1 + k % 256 * 256)) ∧
      (Admitted s req 0x7002 0x02 (.act v) u → Completes (.resumeFromHalt req v) s fun t =>
        Replied req (.act v) 0 t ∧ t.integ.halt = none ∧ t.get 0x700301 = 0 ∧ (t.port .a).silent = false ∧ (t.port .b).silent = false ∧
          t.mode = u.bandMode ∧ Raised 63 u t))

/-- Admitted actions on the supply and the modes take their effects: a rise, a test that is due, a curtain with its cause, a held request, a device
reset with its count, DOZE entry, SERVICE and its end, and an online activation (R367, R376, R388, R396, R397, R398, R405, R410, R411). -/
def Obligations.ModeActionsTakeEffect : Prop :=
  ∀ (s u : State) (req : Req), let acts (idx sub : Nat) : Prop := Admitted s req idx sub (.act []) u
    let done (c : Instr) (P : State → Prop) : Prop := Completes c s fun t => Replied req (.act []) 0 t ∧ P t
    (acts 0x2010 0x10 → u.mode = modeAux → u.pow.vinValid = true → u.stuckNow = false → u.modes.fallEndedAt = none →
      done (.retryRails req) fun t => t.mode = modeRise ∧ t.pow.hold = none) ∧
    (acts 0x2030 0x09 → done (.runYoYoTest req) fun t => t.pow.cartridge.testDue = true ∧ t.actionRuns 0x203009 = true) ∧
    (acts 0x2050 0x02 → (u.mode = modeAux → done (.serviceRelease req) fun t => t.get 0x205003 = 3 ∧ t.mode = modeAux) ∧
      (u.curtainMode = true → done (.serviceRelease req) fun t =>
        t.mode = modeSave ∧ (∃ c, t.pow.curtain = some c ∧ c.cause = 3) ∧ t.get 0x205003 = 2)) ∧
    (acts 0xD010 0x01 → (u.mode = modeRise → done (.offRequest req) fun t => t.mode = modeFall) ∧
      (u.mode = modeRestore → u.modes.restoreStep < 9 → done (.offRequest req) fun t => t.mode = modeRestore ∧ t.modes.offHeld = true) ∧
      (u.curtainMode = true → done (.offRequest req) fun t => t.mode = modeSave ∧ ∃ c, t.pow.curtain = some c ∧ c.cause = 5)) ∧
    (acts 0xD010 0x02 → (u.mode = modeFall → done (.onRequest req) fun t => t.mode = modeFall ∧ t.modes.keptOn = true) ∧
      (u.mode = modeAux → u.pow.vinValid = true → u.stuckNow = false → u.modes.fallEndedAt = none → u.pow.hold = none →
        done (.onRequest req) fun t => t.mode = modeRise)) ∧
    (acts 0xD010 0x03 → u.curtainMode = true → done (.deviceReset req) fun t =>
      t.mode = modeSave ∧ (∃ c, t.pow.curtain = some c ∧ c.cause = 2) ∧ t.get 0xD04001 = 6 ∧ Counted 0xD04008 1 u t ∧ t.mgmt.sessions = []) ∧
    (acts 0xD020 0x01 → done (.enterDoze req) fun t => t.modes.doze = some { step := 0 } ∧ t.actionRuns 0xD02001 = true) ∧
    (acts 0xD050 0x01 → done (.enterService req) fun t =>
      t.mode = modeService ∧ t.reservedA = [] ∧ t.reservedB = [] ∧ t.modes.serviceEntered = u.clock ∧ Raised 258 u t) ∧
    (acts 0xD050 0x02 → done (.leaveService req) fun t => t.mode = u.bandMode ∧ t.stored.scratchUnit = none ∧ Raised 259 u t) ∧
    (acts 0xD060 0x03 → (∀ b : Bool, done (.activateOnline req (if b then .passes else .selfCheckFails)) fun t =>
        t.modes.activation = some { clock := u.clock, passes := b } ∧ t.actionRuns 0xD06003 = true) ∧
      done (.activateOnline req .signatureFails) (fun t => t.modes.activation = none ∧ Raised 281 u t) ∧
      done (.activateOnline req .versionFails) fun t => t.modes.activation = none ∧ Raised 284 u t)

/-- Admitted actions on reports, sensors and sessions take their effects: a sensor is admitted again with what was learned of it forgotten, the
recorder's older records are cleared or released, every session ends, and the persistent entries read their defaults again (R420, R439, R445,
R490). -/
def Obligations.ReportActionsTakeEffect : Prop :=
  ∀ (s u : State) (req : Req) (v : List Byte),
    (Admitted s req 0x9030 0x03 (.act v) u → Completes (.reAdmitSensor req v) s fun t =>
      Replied req (.act v) 0 t ∧ t.broken (bytesToNat v) = false ∧ tfind (bytesToNat v) t.therm.learned = none ∧
        tfind (bytesToNat v) t.therm.mismatch = none ∧ Raised 50 u t) ∧
    (Admitted s req 0xA002 0x01 (.act v) u → Completes (.clearRecorder req v) s fun t =>
      Replied req (.act v) 0 t ∧ t.get 0xA00109 = u.nextStamp ∧ Raised 121 u t ∧
        t.recd.records = if bytesToNat v = 0 then u.recd.records.filter (fun r => decide (u.nextStamp ≤ r.stamp))
          else u.recd.records.map fun r => if r.stamp < u.nextStamp then { r with kept := false } else r) ∧
    (Admitted s req 0x1100 0x07 (.act []) u → Completes (.closeAllSessions req) s fun t =>
      Replied req (.act []) 0 t ∧ t.mgmt.sessions = [] ∧ ∀ b ∈ t.mgmt.blockWrites, b.session = 0) ∧
    (Admitted s req 0x1000 0x0E (.act []) u → (∀ k ∈ u.changedEntries, ownEffect k = false) → Completes (.setDefaults req) s fun t =>
      Replied req (.act []) 0 t ∧ ∀ k ∈ u.changedEntries, ∀ d, describe k = some d →
        (d.ty.isBytes = true → t.getBytes k = defaultValue k) ∧ (d.ty.isBytes = false → ¬reportKey k → t.get k = bytesToNat (defaultValue k)))

/-- A session opens in two steps: the open reserves a free number and answers with it and a fresh nonce, a matching proof makes it a session of the
level. An open without a level key is denied, one that finds 8 sessions or a held path is BUSY; a wrong proof opens nothing, is counted and
raises source 128 (R441, R442, R444).
A session ends by its close, and by its idle time; a reservation ends by its timeout; and a held path is free again when its hold expires
(R441, R444, R445). -/
def Obligations.SessionsOpenAndEnd : Prop :=
  ∀ s : State,
    (∀ number, Completes (.sessionReservationTimeout number) s fun t =>
      t.mgmt.reservations = s.mgmt.reservations.filter (fun r => r.number != number) ∧ t.mgmt.sessions = s.mgmt.sessions) ∧
    (∀ number, Completes (.sessionIdleTimeout number) s fun t =>
      t.mgmt.sessions = s.mgmt.sessions.filter (fun x => x.number != number) ∧
        ∀ b ∈ t.mgmt.blockWrites, b.session = 0 ∨ ∃ x ∈ t.mgmt.sessions, x.number = b.session) ∧
    (∀ path, Completes (.proofHoldExpiry path) s fun t => t.held path = false ∧ ∀ q, q ≠ path → t.held q = s.held q) ∧
    ∀ req : Req, served req.path s = true →
      let v := arrived req.path s
      let answers (m l status : Nat) (value : List Byte) (t : State) : Prop :=
        Out.dict req.path (if onLink req.path then l else m) (replyHead req 0 0) status 0 value none ∈ t.out
      (∀ (level : Nat) (nonce : BitVec 128),
        ((v.levelKey level).isSome = true → v.mgmt.sessions.length < 8 → v.held req.path = false → v.recordsHeld req.path = false →
          Completes (.sessionOpen req level nonce) s fun t => ∃ r, t.mgmt.reservations = v.mgmt.reservations ++ [r] ∧ r.number = v.freeNumber ∧
            r.path = req.path ∧ r.level = level ∧ r.requesterNonce = nonce ∧
            answers 0xC003 0x10 0 (natToBytes 2 r.number ++ nonceBytes r.moduleNonce) t) ∧
        (v.levelKey level = none → Completes (.sessionOpen req level nonce) s fun t =>
          t.mgmt.reservations = v.mgmt.reservations ∧ answers 0xC003 0x10 stAccessDenied [] t) ∧
        ((v.levelKey level).isSome = true → (8 ≤ v.mgmt.sessions.length ∨ v.held req.path = true) →
          Completes (.sessionOpen req level nonce) s fun t => t.mgmt.reservations = v.mgmt.reservations ∧ Raised 129 v t ∧
            answers 0xC003 0x10 stBusy [] t)) ∧
      (∀ (number : Nat) (proof : BitVec 256) (r : Reservation) (key : List Byte),
        (v.mgmt.reservations.find? fun x => x.number == number && x.path == req.path) = some r → v.levelKey r.level = some key →
        (proof = v.proofOf r key → v.mgmt.sessions.length < 8 → Completes (.sessionResponse req number proof) s fun t =>
          (∃ x, t.mgmt.sessions = v.mgmt.sessions ++ [x] ∧ x.number = number ∧ x.path = req.path ∧ x.level = r.level ∧
            x.tagKey = sessionKey textTagKey r key ∧ x.lastUse = v.clock) ∧ (∀ y ∈ t.mgmt.reservations, y.number ≠ number) ∧
            answers 0xC004 0x11 0 (natToBytes 2 number) t) ∧
        (proof ≠ v.proofOf r key → Completes (.sessionResponse req number proof) s fun t =>
          t.mgmt.sessions = v.mgmt.sessions ∧ Counted 0x110004 1 v t ∧ Raised 128 v t ∧ answers 0xC004 0x11 stAccessDenied [] t)) ∧
      ∀ x : Session, v.sessionOf req = some x → req.tag = some (closeTag x.tagKey req) →
        ¬(req.counter = x.counter ∧ x.lastTag = req.tag) → req.counter = (x.counter + 1) % counterSpan req.path →
        Completes (.sessionClose req) s fun t => (∀ y ∈ t.mgmt.sessions, y.number ≠ req.session) ∧
          ∃ tag, Out.dict req.path (if onLink req.path then 0x12 else 0xC005) (replyHead req 0 0) 0 0 [] (some tag) ∈ t.out

/-- At the expiry of its hold a line staged in staged mode is taken by the log writer, and every other staged line stays as it is. A log row is
dispatched once a whole row is ready, or at the close time with what is ready: it takes the head's mark and as many lines as are ready and fit,
each member that the stripe writes gets a program that waits for its sequencer, and the head moves on. Once all programs of a row have ended it
is complete: a staged line that it holds, still as it was placed, is found through the delta map and no longer in the staging array, and a moved
copy, still current, is found at its new place; of a line that the row holds once (R180, R237, R238, R253).
A waiting program is in flight, with its stamp taken, where nothing blocks it, and waits on where something does; on a unit that is gone it is not
programmed. An operation that ends leaves its sequencer, and a failed one is counted and reported by its die. A stripe page whose programs have
all ended is complete: where fold wrote it its slots are filled, and any other's moves are applied, to each page whose entry still holds the value
that was read and over which no discard is pending. A granted chunk is counted and shortens its transfer by up to 512 bytes, which ends with its
last byte; the channel's other transfers stay (R227, R228, R230, R231, R237, R251). -/
def Obligations.LogRowsAndProgramsRun : Prop :=
  ((∀ (s : State) (line : Nat) (g : Option (Fin 262144)), Completes (.stagingHoldExpiry line g) s fun t =>
      ∀ l ∈ s.staging, if l.line = line ∧ l.grp = g.map (·.val) ∧ l.wmode = 0 then { l with taken := true } ∈ t.staging else l ∈ t.staging) ∧
    (∀ (s : State) (c : Instr), s.rowOpen = true →
      (c = .logRowDispatch ∧ s.rowPlaces (s.rowStripe s.med.head) ≤ s.readyCount) ∨ (c = .logRowCloseTime ∧ 0 < s.readyCount) →
      Completes c s fun t => t.med.head = s.med.head + 1 ∧
        (∃ r ∈ t.med.rows, r.mark = s.med.head ∧ r.complete = false ∧ r.starts = [] ∧ r.data = s.writeData (s.rowStripe s.med.head) ∧
          r.lines.length = min (s.rowPlaces (s.rowStripe s.med.head)) s.readyCount) ∧
        ∀ ch ∈ s.writeMembers (s.rowStripe s.med.head), ∃ j ∈ t.med.jobs,
          j.unit = unitOf (s.rowStripe s.med.head) ch ∧ j.kind = .sl ∧ j.owner = .row s.med.head) ∧
    ∀ (s : State) (mark : Nat) (r : LogRow), s.findRow mark = some r → r.complete = false → s.ownerDone (.row mark) = true →
      Completes (.logRowComplete mark) s fun t => (∀ x ∈ t.med.rows, x.mark = mark → x.complete = true) ∧
        ∀ l ∈ r.lines, (∀ l' ∈ r.lines, l'.line = l.line → l' = l) →
          (l.moved = none → ∀ x, s.stagedIn mark l = some x →
            (∃ d ∈ t.xlat.delta, d.line = l.line ∧ d.grp = x.grp ∧ d.place = l.place ∧ d.stamp = x.stamp) ∧
              ∀ y ∈ t.staging, y.line ≠ x.line ∨ y.grp ≠ x.grp) ∧
          (∀ source d, l.moved = some (some source) → s.deltaOf l.line l.grp = some d → d.place = source →
            ∃ d' ∈ t.xlat.delta, d'.line = l.line ∧ d'.grp = l.grp ∧ d'.place = l.place)) ∧
  ((∀ (s : State) (job : Nat) (j : Job), (s.med.jobs.find? fun x => x.id == job) = some j →
      Completes (.programDispatch job) s fun t =>
        ((s.unit j.unit).gone = true → t.med.ops = s.med.ops ∧ ∀ x ∈ t.med.jobs, x.id ≠ job) ∧
        ((s.unit j.unit).gone = false → s.blocks j = [] →
          (∃ o ∈ t.med.ops, o.id = job ∧ o.unit = j.unit ∧ o.kind = j.kind ∧ o.owner = j.owner ∧ o.stamp = s.stampNow) ∧
            ∀ x ∈ t.med.jobs, x.id ≠ job) ∧
        ((s.unit j.unit).gone = false → s.blocks j ≠ [] → t.med.ops = s.med.ops ∧ t.med.jobs.map (·.id) = s.med.jobs.map (·.id))) ∧
    (∀ (s : State) (op : Nat) (o : Op), (s.med.ops.find? fun x => x.id == op) = some o → o.suspended = false →
      (∀ x ∈ s.med.transfers, x.id ≠ op) → ∀ ok, Completes (.programComplete op ok) s fun t =>
        (∀ x ∈ t.med.ops, x.id ≠ op) ∧
          (ok = false → Counted (channelKey (channelOfUnit o.unit) 0x05) 1 s t ∧ Raised (152 + dieOfUnit o.unit) s t)) ∧
    (∀ (s : State) (id : Nat) (p : StripePage), (s.med.stripePages.find? fun x => x.id == id) = some p → p.complete = false →
      p.failedOn = [] → s.ownerDone (.page id) = true → Completes (.stripePageComplete id) s fun t =>
        (∀ x ∈ t.med.stripePages, x.id = id → x.complete = true) ∧
          (p.cause = 0 → ∀ m ∈ p.moves, (tfind m.new t.med.ml).isSome = true) ∧
          (p.cause ≠ 0 → (p.moves.map (·.page)).Nodup → ∀ m ∈ p.moves, m.page < integrityBase → s.pageValue m.page = m.old →
            s.discardOver m.page = [] → tfind m.page t.xlat.mainMap = some m.new)) ∧
    ∀ (s : State) (ch : Fin 16) (x : Transfer), s.nextChunk ch.val = some x → Completes (.chunkGrant ch) s fun t =>
      Counted (channelKey x.channel 0x01) (min 512 x.bytes) s t ∧ (∀ y ∈ t.med.transfers, 0 < y.bytes) ∧
        (512 < x.bytes → { x with bytes := x.bytes - 512 } ∈ t.med.transfers) ∧
        (x.bytes ≤ 512 → (∀ y ∈ s.med.transfers, y.id = x.id → y = x) → ∀ y ∈ t.med.transfers, y.id ≠ x.id) ∧
        ∀ y ∈ s.med.transfers, y.id ≠ x.id → 0 < y.bytes → y ∈ t.med.transfers)

/-- Temperatures are kept and throttling follows them: a die's read is kept, and a die that reads 100 °C or more is noted, until it reads less; a slow
round converts its channels, in AUX and LOCKOUT those of the always-on domain; a cleared request ends enforcement, and every pause is over;
enforcement rises by one level (R415, R423, R424, R426).
The lockout condition, that of a die's second hot read in a row too, is counted and reported where it is first met;
where stored data has to be saved it starts a curtain with cause 4, in SAVE it becomes a cause of the curtain, in the other modes the rails fall.
Where it stands already, in SAVE or FALL, and in OFF and LOCKOUT, nothing changes (R394, R426). -/
def Obligations.TemperaturesAndLockout : Prop :=
  let met (s : State) (c : Instr) : Prop := Completes c s fun t => Counted 0x900107 1 s t ∧ Raised 47 s t ∧
    (s.curtainMode = true → t.mode = modeSave ∧ ∃ c, t.pow.curtain = some c ∧ c.cause = 4) ∧
    (s.curtainMode = false → t.mode = modeFall ∧ t.modes.lockoutPending = true)
  ((∀ (s : State) (die : Fin 64) (c : Int), s.mediaOn = true →
      let u := { s with therm := { s.therm with dieTemp := tput die.val c s.therm.dieTemp } }
      (die.val ∉ s.therm.hotOnce ∨ u.dieHot die.val = false → Completes (.dieTemperatureRead die c) s fun t =>
        tfind die.val t.therm.dieTemp = some c ∧ (die.val ∈ t.therm.hotOnce ↔ u.dieHot die.val = true) ∧ t.mode = s.mode) ∧
      (die.val ∈ s.therm.hotOnce → u.dieHot die.val = true → s.mode ≠ modeSave → s.modes.lockoutPending = false → s.pow.curtain = none →
        met s (.dieTemperatureRead die c))) ∧
    (∀ (s : State) (channels : List (Option Int)), s.mode ≠ modeOff → Completes (.slowRound channels) s fun t =>
      ∀ n, n < 48 → (s.mode ≠ modeAux ∧ s.mode ≠ modeLockout ∨ auxChannel n = true) →
        (∀ v : Int, channels.getD n none = some v → -2147483648 ≤ v → v < 2147483648 → t.getInt 32 (sensorKey n) = v) ∧
          (channels.getD n none = none → t.get (sensorKey n) = 0x80000000)) ∧
    (∀ s : State, s.therm.requestAt.isSome = true → s.therm.coolSince.isSome = true → Completes .throttleCleared s fun t =>
      t.therm.requestAt = none ∧ t.therm.level = 0 ∧ t.get 0x900103 = 0 ∧ t.get 0x900104 = 0 ∧ Raised 43 s t) ∧
    ∀ s : State, s.therm.requestAt.isSome = true → s.therm.level < 3 → Completes .enforcementLevel s fun t =>
      t.therm.level = s.therm.level + 1 ∧ t.get 0x900103 = s.therm.level + 2 ∧ t.therm.levelAt = s.clock ∧ Raised 42 s t) ∧
  (∀ s : State,
      (s.mode ≠ modeOff → s.mode ≠ modeLockout → s.mode ≠ modeSave → s.modes.lockoutPending = false → s.pow.curtain = none → met s .lockout) ∧
      (∀ c, s.mode = modeSave → s.pow.curtain = some c → s.modes.lockoutPending = false → 4 ∉ c.causes → Completes .lockout s fun t =>
        Counted 0x900107 1 s t ∧ Raised 47 s t ∧ t.mode = modeSave ∧ ∃ d, t.pow.curtain = some d ∧ d.causes = insertNew 4 c.causes) ∧
      ((s.mode = modeFall ∧ s.modes.lockoutPending = true) ∨ (s.mode = modeSave ∧ ∃ c, s.pow.curtain = some c ∧ 4 ∈ c.causes) ∨
        s.mode = modeOff ∨ s.mode = modeLockout → Completes .lockout s fun t => t = s))

/-- The translation's upkeep takes effect. The saved stamp ceiling rises by 2^31 where the stamps have come near it. The oldest dirty segment is
folded first where it is above its limit, its staged lines are logged first where it has some, and else, where no write-back batch has to come
before it, its checkpoint with a fresh stamp takes its mapped pages and committed delta entries and is counted, and the segment is clean; after
64 checkpoints the directory is written before it. The directory takes a fresh stamp and names each segment's checkpoint by its place and stamp,
with whether the segment is dirty. A segment is rebuilt on demand, at most 16 at a time, the others waiting in order, and is rebuilt once its
rebuild ends (R145, R154 to R157, R161, R164). -/
def Obligations.TranslationIsKept : Prop :=
  ∀ s : State,
    (s.get 0x405003 ≤ s.highestStamp + 1073741824 → Completes .stampCeilingRaise s fun t => t.get 0x405003 = s.get 0x405003 + 2147483648) ∧
    (∀ seg, s.oldestDirty = some seg →
      (s.isRebuilt seg = true → s.checkpointLimit seg < s.segmentEntries seg → Completes .checkpoint s fun t => seg ∈ t.xlat.foldWanted) ∧
      (s.checkpointable seg = true → (∃ l ∈ s.staging, segmentOfLine l.line = seg) → Completes .checkpoint s fun t =>
        (∀ l ∈ t.staging, segmentOfLine l.line = seg → l.taken = true) ∧ t.xlat.checkpoints = s.xlat.checkpoints) ∧
      (s.checkpointable seg = true → (∀ l ∈ s.staging, segmentOfLine l.line ≠ seg) → s.batchFirst seg = false →
        (s.xlat.checkpointsSinceDirectory < 64 → Completes .checkpoint s fun t =>
          (∃ cp, tfind seg t.xlat.checkpoints = some cp ∧ cp.stamp = s.nextStamp ∧
            cp.map = (trange (seg * 1024) 1024 s.xlat.mainMap).filter (fun e => (s.discardOver e.1).isEmpty) ∧
            ∀ d, d ∈ cp.deltas ↔ d ∈ s.xlat.delta ∧ segmentOfLine d.line = seg ∧ d.grp = none ∧ s.deltaOf d.line none = some d) ∧
            tfind seg t.xlat.dirty = none ∧ Counted 0x404009 1 s t) ∧
        (64 ≤ s.xlat.checkpointsSinceDirectory → Completes .checkpoint s fun t =>
          t.xlat.directoryStamp = s.nextStamp ∧ t.xlat.checkpointsSinceDirectory = 1))) ∧
    (0 < s.tokenBudget → Completes .directoryImage s fun t =>
      t.xlat.directoryStamp = s.nextStamp ∧ t.xlat.superblockA = s.checkpointPlace s.xlat.checkpointRows ∧
        t.xlat.superblockB = t.xlat.superblockA ∧ t.xlat.checkpointsSinceDirectory = 0 ∧ s.nextStamp < t.integ.tableImageStamp ∧
        ∀ seg cp, tfind seg s.xlat.checkpoints = some cp →
          tfind seg t.xlat.directory = some { location := cp.location, stamp := cp.stamp, dirty := (tfind seg s.xlat.dirty).isSome }) ∧
    (∀ seg, seg < 1048576 → s.isRebuilt seg = false → seg ∉ s.xlat.rebuilding → seg ∉ s.xlat.rebuildQueue →
      (s.xlat.rebuilding.length < 16 → Completes (.demandRebuild seg) s fun t => seg ∈ t.xlat.rebuilding ∧ Counted 0x404105 1 s t) ∧
      (16 ≤ s.xlat.rebuilding.length → Completes (.demandRebuild seg) s fun t => t.xlat.rebuildQueue = s.xlat.rebuildQueue ++ [seg])) ∧
    ∀ seg, seg < 1048576 → s.isRebuilt seg = false → Completes (.segmentRebuilt seg) s fun t => t.isRebuilt seg = true

/-- Fold begins where the log's fill has reached its start, and ends where the fill has fallen by the margin. While it runs, its next page that can be
moved goes to a stripe page of the open destination, whose programs wait. A complete stripe page of fold leaves the list: the pages whose entry
still holds the value that was read, and over which no discard is pending, are counted, and the map takes them where the stripe page holds each
once. A segment above its limit, or one whose fold is wanted, has its log lines folded: its first page that can be moved goes to a stripe page of
the open destination; one that is not rebuilt is rebuilt first. The oldest log stripe, once nothing live is left in it, is trimmed with its rows
and the delta entries into it; and a line of an open group in it waits to be placed again (R156, R248, R250 to R253). -/
def Obligations.FoldFreesTheLog : Prop :=
  ∀ s : State,
    (s.foldStart ≤ s.logFill → Completes .foldStart s fun t => t.med.folding = true) ∧
    (s.logRows * 100 + s.get 0x613006 * 8388608 ≤ s.foldStart * 8388608 → Completes .foldStop s fun t => t.med.folding = false) ∧
    (∀ page rest d, s.med.folding = true → 0 < s.tokenBudget → s.checkpointFirst = false → s.foldPages.filter s.movable = page :: rest →
      s.openDest 0 (s.floorOf page) = some d → Completes .foldStripePageDispatch s fun t =>
        (∃ x ∈ t.med.stripePages, x.stripe = d ∧ x.page = (s.stripe d).nextPage ∧ x.cause = 0 ∧ x.complete = false) ∧
          ∀ ch ∈ s.writeMembers d, ∃ j ∈ t.med.jobs, j.unit = unitOf d ch ∧ j.kind = .ml) ∧
    (∀ id p, (s.med.stripePages.find? fun x => x.id == id) = some p → p.complete = true → p.cause = 0 →
      Completes (.foldMapSet id) s fun t => (∀ x ∈ t.med.stripePages, x.id ≠ id) ∧
        Counted 0x613007 (p.moves.filter s.moveApplies).length s t ∧
        ((p.moves.map (·.page)).Nodup → ∀ m ∈ p.moves, m.page < integrityBase → s.pageValue m.page = m.old → s.discardOver m.page = [] →
          tfind m.page t.xlat.mainMap = some m.new)) ∧
    (∀ seg,
      (s.isRebuilt seg = true → s.checkpointLimit seg < s.segmentEntries seg ∨ seg ∈ s.xlat.foldWanted → 0 < s.tokenBudget →
        s.checkpointFirst = false ∨ s.oldestDirty = some seg → Completes (.segmentFold seg) s fun t => seg ∉ t.xlat.foldWanted ∧
          ∀ page rest d, (s.segmentPages seg).filter s.movable = page :: rest → s.openDest 0 (s.floorOf page) = some d →
            ∃ x ∈ t.med.stripePages, x.stripe = d ∧ x.page = (s.stripe d).nextPage ∧ x.cause = 0) ∧
      (s.isRebuilt seg = false → Completes (.segmentFold seg) s fun t => seg ∈ t.xlat.rebuilding ∨ seg ∈ t.xlat.rebuildQueue)) ∧
    (s.trimEnd ≤ s.med.head → s.trimBlocked = false → s.xlat.allRebuilt = true → (programTail s).tailWaits = false →
      Completes .logTrim s fun t => t.med.trim = s.trimEnd ∧ (∀ r ∈ t.med.rows, s.trimEnd ≤ r.mark) ∧
        ∀ d, d ∈ t.xlat.delta ↔ d ∈ s.xlat.delta ∧ s.trimEnd ≤ d.place / 45) ∧
    ∀ line d g l, (s.xlat.delta.find? fun x => x.line == line && x.grp.isSome) = some d → d.grp = some g → (s.group g).isOpen = true →
      s.med.trim ≤ d.place / 45 → d.place / 45 < s.trimEnd → s.trimEnd ≤ s.med.head → s.logLine d.place = some l →
      (∀ m ∈ s.med.moves, m.source ≠ some d.place) → Completes (.logRelocation line) s fun t =>
        ∃ m, t.med.moves = s.med.moves ++ [m] ∧ m.line = line ∧ m.grp = some g ∧ m.stamp = d.stamp ∧ m.source = some d.place

/-- A collection takes the victim's first page that can be moved to a stripe page of the open destination; once nothing valid is left on the victim
and the journal is programmed, its resets are ordered and it is counted; here no rebuild and no ring place comes before it. Critical pool space
withholds write credits and is reported. A failed program of a destination is counted and reported, and the stripe closes. A failed source sector
is detected and queued for its test; where re-read or reconstruction recovers it, that is counted and reported; where neither does, the module
halts unless each of its items passes its own check, so that mode and HALT record stay. Wear levelling opens the worn free stripe for the cold
stripe's data and is counted, and that stripe's first page that can be moved goes there. A ring place worn above the margin, which its ring has
passed, moves to another stripe, is counted and reported. Each hour the equivalent ages are marked, of 720 marks the last, and the error table and
the lifetime counts saved (R254, R255, R256, R258, R259, R262, R263, R265, R271). -/
def Obligations.CollectionAndWearLevelling : Prop :=
  ∀ s : State,
    (∀ st, 0 < s.tokenBudget → s.checkpointFirst = false → s.med.rebuildDies = [] ∨ s.med.critical = true →
      s.ringSuspects = [] ∨ s.ringTarget = none → s.victim = some st → s.freeStripes < s.get 0x614002 ∨ s.urgentVictim st = true →
      Completes .collection s fun t =>
        (s.validPages st = [] → (programTail s).tailWaits = false → (t.stripe st).needsReset = true ∧ Counted 0x614006 1 s t ∧
          ∀ ch ∈ t.writeMembers st, ∃ j ∈ t.med.jobs, j.unit = unitOf st ch ∧ j.kind = .reset ∧ j.owner = .maintenance st) ∧
        ∀ page rest d, (s.validPages st).filter s.movable = page :: rest → s.openDest 1 (s.floorOf page) = some d →
          ∃ x ∈ t.med.stripePages, x.stripe = d ∧ x.page = (s.stripe d).nextPage ∧ x.cause = 1) ∧
    (s.freeStripes < s.get 0x614004 → s.med.critical = false → Completes .collectionCritical s fun t =>
      t.med.critical = true ∧ t.writeCreditsWithheld = true ∧ Raised 234 s t) ∧
    (∀ (st : Fin 65536) (ch : Fin 16), (∃ n, (s.stripe st.val).role = .openDest n) ∨
        (∃ p ∈ s.med.stripePages, p.stripe = st.val ∧ ch.val ∈ p.failedOn) →
      Completes (.destinationProgramFailure st ch) s fun t => Counted 0x614008 1 s t ∧ Raised 235 s t ∧ (t.stripe st.val).role = .closed) ∧
    (∀ unit page sector, s.dataPath = true →
      (Completes (.sourceSectorFailure unit page sector true) s fun t =>
        Counted 0x614009 1 s t ∧ Counted 0x800105 1 s t ∧ Raised 236 s t ∧ sectorAddress unit page sector ∈ t.stored.sectorTests) ∧
      (Completes (.sourceSectorFailure unit page sector false) s fun t =>
        sectorAddress unit page sector ∈ t.stored.sectorTests ∧
          (t.integ.halt.isSome = true ∨ (t.mode = s.mode ∧ t.integ.halt = s.integ.halt)))) ∧
    (∀ free st, 0 < s.tokenBudget → s.checkpointFirst = false → (∀ p ∈ s.med.stripePages, p.cause ≠ 2) → s.wornFree = some free →
      s.coldStripe free = some st → s.validPages st = [] ∨ (∃ p ∈ s.validPages st, s.movable p = true) →
      let u := wornDest free s
      (u.openDest 2 2).isSome = true → Completes .wearLevellingMove s fun t => Counted 0x615009 1 s t ∧
        ∀ page rest d, u.countsKnown st = true → (u.validPages st).filter u.movable = page :: rest →
          u.openDest 2 (u.floorOf page) = some d → (u.stripe st).role = .closed →
          ∃ x ∈ t.med.stripePages, x.stripe = d ∧ x.page = (u.stripe d).nextPage ∧ x.cause = 2) ∧
    (∀ ring index n, index < ringSize ring → s.ringPasses ring index = true → s.tailBlocked = false →
      lifePpm s.mlMean + s.get 0x615005 < lifePpm (s.stripeLife (s.ringStripe ring index)) → s.ringTarget = some n → n ≠ s.ringStripe ring index →
      Completes (.roleRotation ring index) s fun t => Counted 0x61500A 1 s t ∧ Raised 237 s t ∧ (t.stripe n).role = .ring ring index) ∧
    (s.vcoreOn = true → Completes .hourlyTrickle s fun t =>
      t.med.hourlyMarks.getLast? = some ((List.range 16).map s.packageAge) ∧ t.med.hourlyMarks.length ≤ 720 ∧
        t.stored.savedErrors = s.stored.errors ∧ ∀ k ∈ [0x615006, 0x615007, 0x10000B], tgetD 0 k t.med.savedCounts = s.get k)

/-- The age meters, the priority pass, patrol visits, retests and floor moves take effect: a bank of every die in service waits for its program; the
pass holds the allocated units; a visit is counted and its unit's record refreshed, and a sector that it finds uncorrectable is detected, counted
and reported where it was recovered, and has its stripe refreshed; a
retested unit serves again or leaves; and a page placed under its floor is moved (R274, R276, R278, R280, R281, R282, R284). -/
def Obligations.DriftIsWatched : Prop :=
  ∀ s : State,
    (s.serving = true → Completes .ageMeterReprogram s fun t => ∀ d, d < 64 → s.dieState d = 0 →
      (∀ j ∈ s.med.jobs, j.owner ≠ .ageMeter d) → (∀ o ∈ s.med.ops, o.owner ≠ .ageMeter d) →
      ∃ j ∈ t.med.jobs, j.owner = .ageMeter d ∧ j.kind = .ml ∧ dieOfUnit j.unit = d) ∧
    (s.med.passDue = true → s.dataPath = true → Completes .priorityPass s fun t => t.med.passDue = false ∧
      (∀ u, u ∈ t.med.priorityPass ↔ u ∈ s.allocatedUnits) ∧ t.get 0x617006 = if t.med.priorityPass = [] then 0 else 1) ∧
    (∀ (u : Fin 1048576) (rep : PatrolReport) (c : Instr), s.visitable u.val = true →
      (c = .patrolVisit u rep ∧ (s.med.priorityPass = [] ∧ s.med.passDue = false ∨ s.med.priorityPass.head? = some u.val)) ∨
        (c = .outOfTurnVisit u rep ∧ (s.get 0x617002 ≤ s.disturbCount u.val ∨ (s.unit u.val).state = 2 ∨ 86400000 < s.get 0x616003)) →
      (rep.uncorrectable = true → rep.recovered = false → Completes c s fun t => Counted 0x617004 1 s t ∧ Counted 0x800105 1 s t) ∧
      ((rep.uncorrectable = true → rep.recovered = true) → Completes c s fun t =>
        Counted 0x617004 1 s t ∧ t.med.patrolVisits = s.med.patrolVisits + 1 ∧ u.val ∉ t.med.priorityPass ∧
        (t.unit u.val).corrected = rep.corrected ∧ (t.unit u.val).visited = s.deviceTime / 1000000000 % 2 ^ 32 ∧
        (rep.uncorrectable = true → Counted 0x614009 1 s t ∧ Raised 236 s t ∧ (t.stripe (stripeOfUnit u.val)).refresh = true))) ∧
    (∀ u : Fin 1048576, (s.unit u.val).state = 2 → (s.stripe (stripeOfUnit u.val)).role = .free ∨ (s.stripe (stripeOfUnit u.val)).role = .slOnly →
      (s.stripe (stripeOfUnit u.val)).needsReset = false →
      (Completes (.unitRetest u true) s fun t => (t.unit u.val).state = 1) ∧
      ((s.unit u.val).faults ≠ 0 → Completes (.unitRetest u false) s fun t => (t.unit u.val).state = 3 ∧ Counted 0x619004 1 s t ∧ Raised 240 s t)) ∧
    ∀ page x, tfind page s.med.underFloor = some x → s.movable page = true → 0 < s.tokenBudget →
      ((s.pageValue page = unmapped ∧ (s.pickStripe true (s.floorOf page)).isSome = true) ∨ ∃ d, s.openDest 3 (s.floorOf page) = some d ∧
        s.assignSlots [s.gather false page] (s.slotValues d (s.stripe d).nextPage) [] ≠ []) →
      Completes (.floorRestoreMove page) s fun t => tfind page t.med.underFloor = none

/-- A stripe that its wear demotes, or that has fewer than 8 members to stay, is collected: with nothing valid left on it and the journal programmed,
the reset of each member that stays is ordered, into the mode that its wear then leaves it (R283, R292).
A die leaves service: at its limits it is retiring, and once failed it is failed, and a rebuild is due; a channel that retires takes its four dies
with it; and a die whose stripes have all been collected is retired (R286, R287, R288, R291). -/
def Obligations.StripesAndDiesLeave : Prop :=
  (∀ (s : State) (st : Fin 65536),
      (s.stripe st.val).role = .closed → s.countsKnown st.val = true → s.validPages st.val = [] →
      (programTail s).tailWaits = false →
      ∀ c, (c = .demotion st ∧ s.demotes st.val = true ∧ (s.stripe st.val).needsReset = false ∧ 0 < s.tokenBudget) ∨
        (c = .stripeWithdrawn st ∧ (s.members st.val).length - (s.leaving st.val).length < 8 ∧ s.resetOrdered st.val = false) →
      Completes c s fun t => (t.stripe st.val).needsReset = true ∧ (t.stripe st.val).resetTo = t.nextMode st.val ∧
        ∀ ch ∈ t.writeMembers st.val,
          ∃ j ∈ t.med.jobs, j.unit = unitOf st.val ch ∧ j.kind = .reset ∧ j.owner = .maintenance st.val) ∧
  (∀ s : State,
      (∀ die : Fin 64, s.dieState die.val = 0 → s.get 0x619001 ≤ s.get (dieKey die.val 0x02) ∨ s.get 0x619002 ≤ s.dieOverruns die.val →
        Completes (.dieRetiring die) s fun t => t.dieState die.val = 1 ∧ die.val ∈ t.med.rebuildDies ∧ Raised 242 s t) ∧
      (∀ die : Fin 64, s.dieState die.val ≤ 1 → Completes (.dieFailed die) s fun t =>
        t.dieState die.val = 2 ∧ die.val ∈ t.med.rebuildDies ∧ (s.dieState die.val = 0 → Raised 242 s t)) ∧
      (∀ (ch : Fin 16) (canTransfer failedTraining : Bool), ch.val ∉ s.med.retiredChannels →
        failedTraining = true ∨ s.get 0x619003 ≤ s.channelErrors ch.val →
        Completes (.channelRetired ch canTransfer failedTraining) s fun t =>
          ch.val ∈ t.med.retiredChannels ∧ Counted 0x619006 1 s t ∧ t.get 0x61A002 = 2 ∧ Raised 243 s t ∧
            ∀ i, i < 4 → (if canTransfer then 1 else 2) ≤ t.dieState (4 * ch.val + i)) ∧
      ∀ die : Fin 64, die.val ∈ s.med.rebuildDies →
        (∀ st ∈ s.rebuildVictims, ¬(st / 16384 = die.val % 4 ∧ die.val / 4 ∈ s.outstanding st)) →
        (∀ x ∈ s.ringLosses, let st := s.ringStripe x.1 x.2; ¬(st / 16384 = die.val % 4 ∧ die.val / 4 ∈ s.outstanding st)) →
        Completes (.rebuildComplete die) s fun t =>
          t.dieState die.val = 3 ∧ Counted 0x619005 1 s t ∧ die.val ∉ t.med.rebuildDies ∧ Raised 244 s t)

/-- The integrity engine's agents run: a committed line in stamp form waits to be placed again in counter form; a write-back batch that finds a place for
every changed page leaves nothing changed and a new anchor, and one that does not leaves the integrity table as it was; a table image holds the
table and starts the list of stripes afresh; a fetched line whose walk verifies is cached, with the walk counted;
and an error of the counter cache has the effect of its kind (R305, R313, R317, R325, R327). -/
def Obligations.IntegrityIsKept : Prop :=
  ∀ s : State,
    (∀ line d l, s.deltaOf line none = some d → s.logLine d.place = some l → l.sealed.stampForm = true → l.entryDone = true →
      s.recordProgrammed d.stamp = true → (∀ m ∈ s.med.moves, m.source ≠ some d.place) → Completes (.stampFormConversion line) s fun t =>
        ∃ m, t.med.moves = s.med.moves ++ [m] ∧ m.line = line ∧ m.grp = none ∧ m.stamp = d.stamp ∧ m.source = some d.place) ∧
    (0 < s.tokenBudget → s.tableRoom = true →
      let q := applyPending (programTail s)
      let placed : Prop := ((writePages q.changedPages q).rewritten q.integ.table q.changedPages).length = q.changedPages.length
      (placed → Completes .writeBackBatch s fun t =>
        (∀ c ∈ t.integ.cache, c.changed = false) ∧ (∀ e ∈ t.integ.entries, e.programmed = false) ∧
          t.get 0x70030D = t.integ.anchor.stamp ∧ s.nextStamp ≤ t.integ.anchor.stamp ∧ t.integ.lastBatch = s.clock) ∧
      (¬placed → Completes .writeBackBatch s fun t => t.integ.table = s.integ.table)) ∧
    (∀ st : Fin 65536, 0 < s.tokenBudget → s.tableRoom = false → st.val ∉ s.integ.tableStripes →
      Completes (.integrityTableImage st) s fun t =>
        t.integ.tableStripes = [] ∧ t.integ.tableImageStamp = s.nextStamp ∧ t.integ.tableImage = s.integ.table ∧ t.tableRoom = true) ∧
    (∀ obj (lines : List FetchedLine), s.isCached obj = false → s.dataPath = true ∨ s.mode = modeRestore →
      let failures := s.walkFailures ((s.walk obj).zipIdx.map fun x => (x.1, (lines.getD x.2 { body := 0, recovered := false }).body))
      (failures = [] → s.get 0x70030A + (s.walk obj).length < 2 ^ 64 → Completes (.integrityLineFetch obj lines) s fun t =>
        (∀ o ∈ s.walk obj, t.isCached o = true) ∧ Counted 0x70030A (s.walk obj).length s t) ∧
      (∀ o, failures.getLast? = some o → s.failedObjects o ≠ [] → Completes (.integrityLineFetch obj lines) s fun t =>
        t.integ.halt.isSome = true ∧ (s.serving = true ∨ s.mode = modeService → t.mode = modeHalt))) ∧
    ∀ obj, s.vcoreOn = true →
      (s.faultFits obj .correctable = true → Completes (.counterCacheError obj .correctable) s fun t => Counted 0x800101 1 s t ∧ Raised 216 s t) ∧
      (s.faultFits obj .clean = true → Completes (.counterCacheError obj .clean) s fun t =>
        (∀ c ∈ t.integ.cache, c.obj ≠ obj) ∧ Counted 0x800102 1 s t) ∧
      (s.faultFits obj .oneDirtyCopy = true → Completes (.counterCacheError obj .oneDirtyCopy) s fun t =>
        t.integ = s.integ ∧ Counted 0x70030C 1 s t ∧ Raised 59 s t) ∧
      (s.faultFits obj .dramWithChanges = true → Completes (.counterCacheError obj .dramWithChanges) s fun t =>
        t.integ = s.integ ∧ Raised 64 s t) ∧
      (s.faultFits obj .bothDirtyCopies = true → s.failedObjects obj ≠ [] → Completes (.counterCacheError obj .bothDirtyCopies) s fun t =>
        t.integ.halt.isSome = true)

/-- Errors of the stored-data codes are counted, reported and given to self-test: a scrub's by its memory and kind, an uncorrectable error with the
loss its structure suffers, and a critical state error with a device reset (R339 to R342, R347).
A self-test is counted and gives its outcome: a row that passes had a transient error, one that fails is remapped to a shadow row; a sector that
reads again, or whose unit passes the pattern, had a transient error, else its unit takes a lasting fault (R343 to R346, R349). -/
def Obligations.ErrorsAndSelfTests : Prop :=
  (∀ s : State,
      (∀ address, s.vcoreOn = true → s.mode ≠ modeHalt → s.mode ≠ modeSave →
        (∀ k, Completes (.scrub .sram address (.corrected k)) s (fun t => Counted 0x800101 1 s t ∧ Raised 216 s t) ∧
          Completes (.scrub .dram address (.corrected k)) s (fun t => Counted 0x800103 1 s t ∧ Raised 218 s t)) ∧
        Completes (.scrub .sram address .uncorrectable) s (fun t => Counted 0x800102 1 s t ∧ Raised 217 s t) ∧
        Completes (.scrub .dram address .uncorrectable) s (fun t => Counted 0x800104 1 s t) ∧
        (s.stored.errors.length < 64 → ∀ mem, mem = .sram ∨ mem = .dram → Completes (.scrub mem address .uncorrectable) s fun t =>
          ∃ e ∈ t.stored.errors, e.mem = mem ∧ e.address = address)) ∧
      (s.mode ≠ modeOff → ∀ address k, Completes (.scrub .param address (.corrected k)) s fun t => Counted 0x800106 1 s t ∧ Raised 221 s t) ∧
      (s.vcoreOn = true →
        (∀ line, Completes (.uncorrectableError (.staging line)) s fun t =>
          Counted 0x800102 1 s t ∧ ∀ l ∈ t.staging, l.line = line → l.poison = true ∧ l.data = 0) ∧
        (∀ block, Completes (.uncorrectableError (.levelOne block)) s fun t => Counted 0x800102 1 s t ∧ ∀ b ∈ t.l1, b.block ≠ block) ∧
        (∀ block, Completes (.uncorrectableError (.levelTwo block)) s fun t => Counted 0x800104 1 s t ∧ ∀ b ∈ t.l2, b.block ≠ block)) ∧
      (∀ word, s.mode ≠ modeOff → Completes (.uncorrectableError (.paramWord word)) s fun t => Raised 222 s t) ∧
      (s.vcoreOn = true → ∀ c ∈ [Instr.criticalStateError, .uncorrectableError .stateParity], Completes c s fun t =>
        Counted 0x800108 1 s t ∧ (s.mode ≠ modeSave → s.resetActs = true → t.get 0xD04001 = 5 ∧ Counted 0xD04007 1 s t))) ∧
  ((∀ (s : State) (mem : MemKind) (row : Nat), s.vcoreOn = true → s.rowUnderTest mem = some row →
      (s.shadowsUsed mem < shadowRows mem →
        (s.repeatTransient mem row = false → Completes (.rowSelfTest mem row true) s fun t =>
          Counted 0x803001 1 s t ∧ Counted 0x803002 1 s t ∧ (mem, row) ∉ t.stored.rowTests) ∧
        Completes (.rowSelfTest mem row false) s fun t =>
          Counted 0x803001 1 s t ∧ Counted 0x803003 1 s t ∧ (mem, row) ∈ t.stored.shadows ∧ (mem, row) ∉ t.stored.rowTests ∧ Raised 224 s t) ∧
      (shadowRows mem ≤ s.shadowsUsed mem → ∀ pass, Completes (.rowSelfTest mem row pass) s fun t =>
        Raised 223 s t ∧ t.stored.rowTests = s.stored.rowTests)) ∧
    ∀ (s : State) (unit page sector : Nat), s.dataPath = true → sectorAddress unit page sector ∈ s.stored.sectorTests →
      (s.repeatTransient .medium (sectorAddress unit page sector) = false →
        ∀ pattern, Completes (.sectorSelfTest unit page sector true pattern) s fun t =>
          Counted 0x803001 1 s t ∧ Counted 0x803002 1 s t ∧ sectorAddress unit page sector ∉ t.stored.sectorTests ∧ Raised 220 s t) ∧
      (∀ u, (((List.range 32).map (clusterOfUnit unit * 32 + ·)).find? fun u => u != unit && s.unitFree u) = some u →
        Completes (.sectorSelfTest unit page sector false false) s fun t =>
          Counted 0x803001 1 s t ∧ Counted 0x803003 1 s t ∧ sectorAddress unit page sector ∉ t.stored.sectorTests ∧ Raised 220 s t ∧ Raised 224 s t) ∧
      ((((List.range 32).map (clusterOfUnit unit * 32 + ·)).find? fun u => u != unit && s.unitFree u) = none →
        ∀ pattern, Completes (.sectorSelfTest unit page sector false pattern) s fun t =>
          Counted 0x803004 1 s t ∧ Raised 220 s t ∧ 2 ≤ (t.unit unit).state))

/-- The input is followed: one that comes about is measured and leaves OFF; one that is lost ends the sessions and, by the mode, the module goes off,
starts a curtain with cause 1 or lets its rails fall; an overvoltage opens the input switch until it falls; and the band and the power cap follow
VIN and the mean power (R360, R361, R363, R364, R393). -/
def Obligations.InputsAreFollowed : Prop :=
  ∀ (s : State) (mv : Nat),
    (s.pow.vinValid = false → s.pow.switchOpen = false → 2700 ≤ mv → mv ≤ 16500 → Completes (.vinValid mv) s fun t =>
      t.pow.vinValid = true ∧ t.get 0x200101 = mv ∧ (s.mode = modeOff → t.mode = modeAux ∨ t.mode = modeRise) ∧
        (s.mode = modeOff ∨ s.mode = modeAux → t.get 0x200102 = vinBand mv)) ∧
    (s.pow.vinValid = true → mv < 2400 → Completes (.inputLoss mv) s fun t =>
      t.pow.vinValid = false ∧ t.mgmt.sessions = [] ∧ (s.mode = modeAux ∨ s.mode = modeLockout → t.mode = modeOff) ∧
        (s.curtainMode = true → t.mode = modeSave ∧ ∃ c, t.pow.curtain = some c ∧ c.cause = 1) ∧
        (s.mode = modeRise ∨ (s.mode = modeRestore ∧ s.curtainMode = false) → t.mode = modeFall)) ∧
    (s.mode ≠ modeOff → s.pow.switchOpen = false → 16500 < mv → Completes (.overvoltage mv) s fun t =>
      t.pow.switchOpen = true ∧ t.pow.vinValid = false ∧ Counted 0x200107 1 s t) ∧
    (s.pow.switchOpen = true → mv < 16000 → Completes (.inputSwitchReclose mv) s fun t => t.pow.switchOpen = false ∧ t.get 0x200101 = mv) ∧
    (fallBand (s.get 0x200102) mv < s.get 0x200102 → Completes (.bandDown mv) s fun t =>
      t.get 0x200102 = fallBand (s.get 0x200102) mv ∧ Counted 0x200106 1 s t ∧ Raised 27 s t ∧ (s.serving = true → t.mode = t.bandMode)) ∧
    (s.mode ≠ modeOff → s.pow.vinValid = true → s.get 0x200102 < vinBand mv → Completes (.bandUp mv) s fun t =>
      t.get 0x200102 = vinBand mv ∧ Counted 0x200106 1 s t ∧ Raised 27 s t ∧ (s.serving = true → t.mode = t.bandMode)) ∧
    ∀ mw, s.vcoreOn = true → let cap := capMw (s.get 0x200102)
      Completes (.powerCapAdjust mw) s fun t => t.get 0x200103 = mw ∧
        (95 * cap < 100 * mw → t.pow.capCut = min s.bandBudget (s.pow.capCut + 8)) ∧
        (100 * mw < 90 * cap → t.pow.capCut = s.pow.capCut - 8) ∧
        (100 * mw ≤ 95 * cap → 90 * cap ≤ 100 * mw → t.pow.capCut = s.pow.capCut)

/-- The rails rise and fall: RISE ends in RESTORE, waits for MR_N, falls back on a rail that is not good, and takes the other image where the active one
fails; a rail fault is counted and ends RISE, leads to FALL without a curtain, or resets the device; FALL ends in AUX, OFF or LOCKOUT, with
each stuck rail under its crowbar (R366 to R369, R389, R393, R397, R411). -/
def Obligations.RailsRiseAndFall : Prop :=
  ∀ s : State,
    (s.mode = modeRise →
      (∀ ok, s.pow.mrLow = false → Completes (.rise true ok) s fun t => t.mode = modeRestore ∧ t.modes.restoreStep = 5 ∧
        (ok = false → s.get 0xD06002 ≠ 2 → t.get 0xD06006 = 2 ∧ t.get 0xD06001 = 1 - s.get 0xD06001 ∧ t.get (sourceKey 283 0x01) = 1)) ∧
      (s.pow.mrLow = true → Completes (.rise true true) s fun t => t.mode = modeRise ∧ t.pow.risen = true) ∧
      ∀ ok, Completes (.rise false ok) s fun t => t.mode = modeFall ∧ Counted 0x20100F 1 s t ∧ Raised 28 s t) ∧
    (∀ code restarts, 2 ≤ code → code ≤ 14 → (s.rail code).on = true → s.pow.vinValid = true →
      Completes (.railFault code restarts) s fun t => Counted 0x20100F 1 s t ∧ Raised 28 s t ∧ (s.mode = modeRise → t.mode = modeFall) ∧
        (s.mode ≠ modeRise → curtainRail code = true → restarts = false → s.resetActs = true → t.mode = modeFall ∧ t.get 0xD04001 = 2) ∧
        (s.curtainMode = true → curtainRail code = false ∨ restarts = true →
          t.mode = modeSave ∧ t.get 0xD04001 = 2 ∧ ∃ c, t.pow.curtain = some c ∧ c.cause = 2)) ∧
    (∀ stuck vinAbsent, s.mode = modeFall → Completes (.fall stuck vinAbsent) s fun t =>
      (s.modes.lockoutPending = true → t.mode = modeLockout) ∧
      (s.modes.lockoutPending = false → vinAbsent = true → t.mode = modeOff ∧ t.pow.vinValid = false) ∧
      (s.modes.lockoutPending = false → vinAbsent = false → s.modes.keptOn = false →
        t.mode = modeAux ∧ t.modes.fallEndedAt = some s.clock ∧
        ∀ c ∈ switchedRails, (t.rail c).on = false ∧ (stuck.getLsbD c = true → (t.rail c).crowbar = true ∧ Raised 29 s t)) ∧
      (s.pow.fourthReset = true → t.pow.hold = some .resets ∧ Raised 255 s t)) ∧
    (s.mode = modeAux → s.modes.keptOn = true → s.pow.vinValid = true → s.stuckNow = false → s.pow.hold = none →
      Completes .minimumOffTimeEnd s fun t => t.mode = modeRise ∧ t.modes.keptOn = false) ∧
    ∀ code, (s.rail code).crowbar = true → Completes (.stuckRailCleared code) s fun t => (t.rail code).crowbar = false

/-- Protection follows the cartridge: it is withdrawn at once, and is over when the staging array has reached the medium and no store received under
it is queued; it is restored when every
condition holds; a test's values and verdict are kept; and a cartridge that leaves ends protection, one that comes is recorded and due for a test
(R22, R23, R25, R376, R377, R380). -/
def Obligations.ProtectionFollowsTheCartridge : Prop :=
  ∀ s : State,
    (s.get 0x402001 = 1 → s.protectionActs = true → Completes .lossOfProtection s fun t =>
      t.pow.persistAtEntry = false ∧ (t.get 0x402001 = 2 ∨ (t.get 0x402001 = 0 ∧ t.staging = [] ∧ t.protectedQueued = false))) ∧
    (s.get 0x402001 = 2 → Completes .lossOfProtection s fun t =>
      t.get 0x402001 = 2 ∨ (t.get 0x402001 = 0 ∧ t.staging = [] ∧ t.protectedQueued = false)) ∧
    (s.get 0x402001 = 0 → s.protectionActs = true → s.protectCauses = 0 → Completes .protectionRestored s fun t =>
      t.protected = true ∧ t.get 0x402002 = 0 ∧ t.pow.persistAtEntry = true ∧ Raised 26 s t) ∧
    (∀ cmf esr v0, s.get 0x203001 = 1 → s.testMode = true → let e := usableMj cmf esr 4800
      Completes (.yoYoTest cmf esr v0) s fun t => t.get 0x203002 = v0 ∧ t.get 0x203003 = min 65535 cmf ∧ t.get 0x203004 = min 65535 esr ∧
        t.get 0x203006 = (if e < 600 then 2 else if 150 < esr then 3 else 1) ∧ t.get 0x203007 = s.deviceTime ∧
        t.pow.cartridge.passed = (decide (600 ≤ e) && decide (esr ≤ 150)) ∧ t.pow.cartridge.testDue = false ∧ t.actionRuns 0x203009 = false) ∧
    (s.pow.cartridge.leverClosed = true → s.mode ≠ modeOff → Completes .cartridgeRemoved s fun t =>
      t.pow.cartridge.leverClosed = false ∧ t.get 0x203001 = 0 ∧ t.get 0x203005 = 0 ∧ (s.protectionActs = true → t.protected = false)) ∧
    ∀ ident : List Byte, s.pow.cartridge.leverClosed = false → ident.length = 16 → s.mode ≠ modeOff →
      Completes (.cartridgeInserted ident) s fun t => t.pow.cartridge.leverClosed = true ∧ t.pow.cartridge.ident = some ident ∧
        t.pow.cartridge.testDue = true ∧ t.pow.cartridge.passed = false ∧ t.get 0x203001 = 1 ∧ t.getBytes 0x20300B = ident ∧
        Counted 0x20300C 1 s t

/-- A curtain runs: its trigger takes a stamp, withholds credits and enters SAVE, and a further one adds its cause; at the commit point the image is
armed and the ports are silent and down; input loss alone may be cancelled before it; and its outcome, or the cartridge's floor, ends SAVE by its
causes, where MR_N low holds RESTORE back in SAVE (R381, R382, R384 to R386, R389; the mode meanwhile log 146). -/
def Obligations.CurtainsSave : Prop :=
  (∀ (s : State) (cause : Nat), 1 ≤ cause → cause ≤ 5 →
    (s.curtainMode = true → Completes (.curtain cause) s fun t => t.mode = modeSave ∧ (t.port .a).creditsWithheld = true ∧
      (t.port .b).creditsWithheld = true ∧ ∃ c, t.pow.curtain = some c ∧ c.cause = cause ∧ c.causes = [cause] ∧ c.modeBefore = s.mode ∧
        c.stamp = s.nextStamp ∧ c.committed = false) ∧
    (∀ c, s.mode = modeSave → s.pow.curtain = some c → Completes (.curtain cause) s fun t =>
      t.mode = modeSave ∧ ∃ d, t.pow.curtain = some d ∧ d.causes = insertNew cause c.causes ∧ d.cause = c.cause)) ∧
  ∀ (s : State) (c : Curtain), s.mode = modeSave → s.pow.curtain = some c →
    (c.committed = false → Completes .curtainCommitPoint s fun t => t.pow.curtain = some { c with committed := true } ∧
      (∃ i, t.pow.image = some i ∧ i.complete = false ∧ i.stamp = c.stamp) ∧ t.pow.imageStamp = c.stamp ∧
        ∀ p : Port, (t.port p).silent = true ∧ t.linkState p = 0 ∧ t.ready p = false) ∧
    (∀ mv, c.committed = false → c.causes = [1] → 2700 ≤ mv → s.pow.switchOpen = false → Completes (.curtainCancelled mv) s fun t =>
      t.pow.curtain = none ∧ t.pow.vinValid = true ∧ Counted 0x204001 1 s t ∧ t.get 0x204006 = 1 ∧ Raised 35 s t ∧
        (servingMode c.modeBefore = false → t.mode = c.modeBefore) ∧ (servingMode c.modeBefore = true → t.mode = t.bandMode)) ∧
    (c.committed = true → Completes .curtainOutcome s fun t => t.pow.curtain = none ∧ Counted 0x204001 1 s t ∧
      (∀ i, t.pow.image = some i → i.complete = true) ∧
      (4 ∈ c.causes → t.mode = modeLockout ∧ t.get 0x204006 = 4) ∧
      (4 ∉ c.causes → 3 ∈ c.causes ∨ 5 ∈ c.causes ∨ s.pow.vinValid = false → t.mode = modeFall ∧ t.get 0x204006 = 2) ∧
      (4 ∉ c.causes → 3 ∉ c.causes → 5 ∉ c.causes → s.pow.fourthReset = false → s.pow.hold = none → s.pow.vinValid = true →
        t.get 0x204006 = 3 ∧ t.pow.railsKept = true ∧ (s.pow.mrLow = false → t.mode = modeRestore) ∧
          (s.pow.mrLow = true → t.mode = modeSave ∧ t.pow.risen = true))) ∧
    (s.pow.vinValid = false → Completes .cartridgeFloor s fun t => t.mode = modeFall ∧ t.pow.curtain = none ∧ t.pow.floorReached = true ∧
      t.pow.image = if c.committed then s.pow.image else none)

/-- The button, MR_N and the watchdog act: a short press asks for service or withdraws it; the end of its window and a long press make the module ready
for removal, after a curtain with cause 3 where data has to be saved; MR_N held low long enough and the watchdog reset the device, and MR_N high
lets RESTORE proceed, from RISE or after the curtain (R388, R389, R405; the mode meanwhile log 146). -/
def Obligations.ButtonsAndResets : Prop :=
  ∀ s : State,
    (s.mode ≠ modeOff →
      (s.get 0x205003 = 0 → Completes .shortPress s fun t => t.get 0x205003 = 1 ∧ Raised 37 s t) ∧
      (s.get 0x205003 = 1 → Completes .shortPress s fun t => t.get 0x205003 = 0)) ∧
    (∀ c, (c = .serviceRequestWindowEnd ∧ s.get 0x205003 = 1) ∨ (c = .forcedPowerDown ∧ s.mode ≠ modeOff) →
      (s.mode = modeAux → Completes c s fun t => t.get 0x205003 = 3 ∧ t.mode = modeAux) ∧
      (s.curtainMode = true → Completes c s fun t =>
        t.mode = modeSave ∧ t.get 0x205003 = 2 ∧ ∃ x, t.pow.curtain = some x ∧ x.cause = 3)) ∧
    (∀ width, 10000 ≤ width → s.curtainMode = true → Completes (.mrN width) s fun t =>
      t.mode = modeSave ∧ t.pow.mrLow = true ∧ t.get 0xD04001 = 3 ∧ ∃ x, t.pow.curtain = some x ∧ x.cause = 2) ∧
    (∀ width, width < 2000 → Completes (.mrN width) s fun t => t = s) ∧
    Completes .mrNHigh s (fun t => t.pow.mrLow = false ∧
      t.mode = if (s.mode = modeRise ∨ (s.mode = modeSave ∧ s.pow.curtain = none)) ∧ s.pow.risen = true then modeRestore else s.mode) ∧
    (s.modes.activation = none → s.mode = modeAux → Completes .managementWatchdog s fun t => t.mgmt.sessions = [] ∧ t.mode = modeAux) ∧
    (s.modes.activation = none → s.curtainMode = true → Completes .managementWatchdog s fun t =>
      t.mode = modeSave ∧ t.get 0xD04001 = 4 ∧ Counted 0xD04006 1 s t ∧ t.mgmt.sessions = [])

/-- RESTORE runs its timeline: replay starts from nothing rebuilt; the image is never used twice, and stays while an
unprotected module has not programmed what it took from it; READY rises on the enabled ports unless a HALT record
keeps it low; and with every segment rebuilt the module serves in the mode of its band (R80, R159, R160, R162, R166, R330). -/
def Obligations.RestoreRuns : Prop :=
  ∀ (s : State) (shifts : List (Option Nat)) (found : RestoreFindings), s.mode = modeRestore →
    (s.modes.restoreStep = 5 → lostCopies found = [] → Completes (.restore 6 shifts found) s fun t => t.modes.restoreStep = 6 ∧
      s.get 0x405003 + 4294967296 = t.restoreStamp ∧ t.restoreStamp ≤ t.nextStamp ∧ Counted 0x10000C 1 s t) ∧
    (s.modes.restoreStep = 6 → Completes (.restore 7 shifts found) s fun t => t.modes.restoreStep = 7 ∧ t.dict = s.dict) ∧
    (s.modes.restoreStep = 7 → Completes (.restore 8 shifts found) s fun t =>
      t.modes.restoreStep = 8 ∧ t.get 0x404101 = 3 ∧ t.xlat.allRebuilt = false ∧ t.xlat.rebuilt = [] ∧ t.xlat.mainMap = []) ∧
    (s.modes.restoreStep = 8 → s.modes.offHeld = false → Completes (.restore 9 shifts found) s fun t =>
      (t.modes.restoreStep = 9 ∧ t.pow.image = none) ∨ (t.modes.restoreStep = 8 ∧ t.pow.image.isSome = true ∧ t.staging ≠ [])) ∧
    (s.modes.restoreStep = 9 → Completes (.restore 10 shifts found) s fun t => t.modes.restoreStep = 10 ∧ t.get 0x404101 = 4 ∧
      ∀ seg ∈ s.promptSegments, t.isRebuilt seg = true) ∧
    (s.modes.restoreStep = 10 → Completes (.restore 11 shifts found) s fun t => t.modes.restoreStep = 11 ∧ t.get 0x404101 = 5 ∧
      (s.integ.halt = none → ∀ p, s.portEnabled p = true → t.ready p = true) ∧
      (s.integ.halt.isSome = true → ∀ p, t.ready p = s.ready p)) ∧
    ∀ c, (s.modes.restoreStep = 11 ∧ c = .backgroundRebuildDone) ∨ (s.modes.restoreStep = 11 ∧ c = .restore 13 shifts found) →
      s.integ.halt = none → s.reads = [] → Completes c s fun t => t.xlat.allRebuilt = true ∧ t.get 0x404101 = 0 ∧ t.mode = t.bandMode

/-- DOZE entry, wakes and SERVICE run: the idle timer starts an entry, its last step enters DOZE, and a wake source that came meanwhile abandons it; a
wake source that the mask permits wakes the module, whose rails and serving mode then return; in AUX it starts RISE; and SERVICE ends at its time
limit (R393, R398, R399, R402, R404, R410). -/
def Obligations.DozeAndWake : Prop :=
  ∀ s : State,
    (s.get 0xD02002 ≠ 0 → s.dozeAllowed = true → Completes .idleTimer s fun t => t.modes.doze = some { step := 0 }) ∧
    (∀ d, s.modes.doze = some d → (d.step = 2 → s.med.ops = []) →
      (d.pendingWake = none → d.step < 3 → Completes .dozeEntryStep s fun t => t.modes.doze = some { step := d.step + 1 }) ∧
      (d.pendingWake = none → d.step = 3 → Completes .dozeEntryStep s fun t =>
        t.mode = modeDoze ∧ t.modes.doze = none ∧ Counted 0xD02006 1 s t ∧ Raised 249 s t ∧ (t.port .a).linkL1 = true) ∧
      (d.pendingWake.isSome = true → d.step ≤ 3 → Completes .dozeEntryStep s fun t =>
        t.modes.doze = none ∧ Counted 0xD02005 1 s t ∧ Raised 250 s t)) ∧
    (∀ (c : Instr) (n : Nat), (c = .wakeN 10000 ∧ n = 1) ∨ (∃ k : Fin 6, c = .wake k ∧ n = k.val) → (s.get 0xD02003).testBit n = true →
      (s.mode = modeDoze → s.modes.waking = false → Completes c s fun t => t.modes.waking = true ∧ t.get 0xD02004 = n ∧ Raised 251 s t) ∧
      (s.mode = modeFall → n = 1 ∨ n = 3 → Completes c s fun t => t.modes.keptOn = true) ∧
      (s.mode = modeAux → n = 1 ∨ n = 3 → s.pow.hold = none → s.pow.vinValid = true → s.stuckNow = false → s.modes.fallEndedAt = none →
        Completes c s fun t => t.mode = modeRise ∧ t.get 0xD02004 = n)) ∧
    (∀ w, w < 10000 → Completes (.wakeN w) s fun t => t = s) ∧
    (s.mode = modeDoze → s.modes.waking = true → s.mgmt.deferred = [] → Completes .wakeDelay s fun t =>
      t.mode = t.bandMode ∧ t.modes.waking = false ∧ (t.port .a).linkL1 = false ∧ (t.port .b).creditsWithheld = false) ∧
    (s.mode = modeService → Completes .serviceTimeLimit s fun t => t.mode = t.bandMode ∧ t.stored.scratchUnit = none ∧ Raised 259 s t)

/-- The field link takes and sends frames: one with a bad FCS, one not addressed to the module, and one that is no UDX request are counted and dropped;
a request waits in the receive queue, 4 of a station at most; a discover is answered; and the oldest notice leaves at a transmit opportunity
(R456 to R458, R461, R464, R469).
The link's access and wakes are kept: beacon loss and return are reported, a node id conflict makes the module yield for eight cycles, the buckets
of reduced service regain a place up to eight, and a rattle with the wake code wakes while any other is counted (R403, R453, R454, R467, R470). -/
def Obligations.FieldLinkRuns : Prop :=
  (∀ (s : State), s.linkRuns = true →
      (∀ f : Frame,
        (f.fcsOk = false → Completes (.frameReceived f) s fun t => Counted 0x140103 1 s t ∧ t.mgmt = s.mgmt) ∧
        (f.fcsOk = true → s.addressed f = false → Completes (.frameReceived f) s fun t =>
          Counted 0x140102 1 s t ∧ Counted 0x140104 1 s t ∧ t.mgmt = s.mgmt) ∧
        (f.fcsOk = true → s.addressed f = true → udxOk f.payload = false → Completes (.frameReceived f) s fun t =>
          Counted 0x140102 1 s t ∧ Counted 0x140105 1 s t ∧ t.mgmt = s.mgmt) ∧
        (f.fcsOk = true → s.addressed f = true → udxOk f.payload = true → payloadByte f.payload 1 ≠ opRattle →
          (4 ≤ (s.mgmt.received.filter fun r => r.source == f.source).length →
            Completes (.frameReceived f) s fun t => Counted 0x140108 1 s t ∧ t.mgmt.received = s.mgmt.received) ∧
          ((s.mgmt.received.filter fun r => r.source == f.source).length < 4 → s.mgmt.received.length < 32 →
            Completes (.frameReceived f) s fun t => t.mgmt.received = s.mgmt.received ++ [{ source := f.source, payload := f.payload }]) ∧
          ((s.mgmt.received.filter fun r => r.source == f.source).length < 4 → 32 ≤ s.mgmt.received.length →
            Completes (.frameReceived f) s fun t => Counted 0x140109 1 s t ∧ Raised 134 s t ∧
              t.mgmt.received = s.mgmt.received.drop 1 ++ [{ source := f.source, payload := f.payload }]))) ∧
      (∀ mac v, Arrives (.fieldLink mac) s v → Completes (.discover mac) s fun t =>
        t.out = v.out ++ [.frame (some mac) opDiscover (v.discoverPayload.map (·.toNat))]) ∧
      ∀ n rest, s.mgmt.yieldCycles = 0 → s.mgmt.notices = n :: rest → Completes .notice s fun t =>
        t.mgmt.notices = rest ∧ Counted 0x140202 1 s t ∧ ∃ d, Out.frame d opNotice (n.bytes.map (·.toNat)) ∈ t.out) ∧
  (∀ (s : State),
      (s.linkRuns = true → s.get 0x140001 = 0 →
        (s.mgmt.beaconLost = false → Completes .beaconLoss s fun t => t.mgmt.beaconLost = true ∧ Raised 132 s t) ∧
        (s.mgmt.beaconLost = true → Completes .beaconReceived s fun t => t.mgmt.beaconLost = false ∧ Raised 132 s t)) ∧
      (s.fieldLinkState = 1 → Completes .nodeIdConflict s fun t => t.mgmt.yieldCycles = 8 ∧ Counted 0x14010C 1 s t ∧ Raised 133 s t) ∧
      (Completes .reducedRateRefill s fun t =>
        t.mgmt.bucket = min 8 (s.mgmt.bucket + 1) ∧ t.mgmt.busyBucket = min 8 (s.mgmt.busyBucket + 1)) ∧
      ∀ code, s.linkRuns = true → s.mode = modeAux ∨ s.mode = modeFall ∨ s.mode = modeDoze → s.modes.rattleAt = none →
        (s.get 0xD03001 ≠ 0 → code = s.get 0xD03001 → Completes (.rattle code) s fun t => t.modes.rattleAt = some s.clock ∧
          Counted 0xD03002 1 s t ∧ (s.mode = modeFall → (s.get 0xD02003).testBit 3 = true → t.modes.keptOn = true)) ∧
        (code ≠ s.get 0xD03001 → Completes (.rattle code) s fun t => Counted 0xD03003 1 s t ∧ (s.modes.rattleRejectAt = none → Raised 252 s t)))

/-- An occurrence sets its source's latch, is counted once in subindex 02, and keeps its stamp and device time, and the stamp of the first; for sources
10, 22 and 135, which its own report may raise again, the count and the latest stamp do not fall. A source that may not occur in the mode leaves
everything. A held MSI-X leaves once its port can send it, the oldest first. Outside an episode, with a slot free, the oldest queued record is
written with the next number, the responder's where no other waits. An episode begins with the kind of its mode, and ends in a serving mode where
nothing holds it. A lost core margin raises the core rail by 10 mV up to 850 mV, or is reported as the limit; a crossing error and a stall raise
their sources, and a second stall within 1 s is a critical error that resets the device (R475, R479, R482, R485, R489).
A counter at its top wraps to 0 with its sticky bit, and is reported at most once in 1 s; a bandwidth window starts anew, and one that is published
shows its counts and the highest so far, is counted, and reports a sum above its threshold; and a region whose preparation is done reads State 1,
which 0x4060.08 names and source 91 reports (R189, R496, R498). -/
def Obligations.OccurrencesAndWindows : Prop :=
  ((∀ (s : State) (src : Fin 288),
      (s.canOccur src.val = true → Completes (.occurrence src) s fun t =>
        t.get (sourceKey src.val 0x01) = 1 ∧
          (src.val ∉ [10, 22, 135] → Counted (sourceKey src.val 0x02) 1 s t ∧ t.get (sourceKey src.val 0x12) = s.nextStamp ∧
            t.get (sourceKey src.val 0x13) = s.deviceTime ∧
            t.get (sourceKey src.val 0x11) = if s.get (sourceKey src.val 0x11) = 0 then s.nextStamp else s.get (sourceKey src.val 0x11)) ∧
          (src.val ∈ [10, 22, 135] → s.get (sourceKey src.val 0x02) < 2 ^ 32 → s.get (sourceKey src.val 0x02) ≤ t.get (sourceKey src.val 0x02) ∧
            s.nextStamp ≤ t.get (sourceKey src.val 0x12) ∧ t.get (sourceKey src.val 0x12) < t.nextStamp)) ∧
      (s.canOccur src.val = false → Completes (.occurrence src) s fun t => t = s)) ∧
    ∀ (s : State),
      (∀ p v rest, (s.port p).heldMsi = v :: rest → s.msiOpen p = true → Completes (.heldMsiX p) s fun t =>
        (t.port p).heldMsi = rest ∧ t.out = s.out ++ [.msix p v]) ∧
      (s.recd.episode = none → s.recd.records.length < recorderSlots →
        (∀ r rest, s.vcoreOn = true → s.recd.queue = r :: rest → Completes .recorderWrite s fun t =>
          t.recd.queue = rest ∧ t.recd.responderQueue = s.recd.responderQueue ∧
            t.recd.records = s.recd.records ++ [{ r with sequence := (s.get 0xA00105 + 1) % 2 ^ 32 }]) ∧
        (∀ r rest, s.mode ≠ modeOff → s.vcoreOn = false ∨ s.recd.queue = [] → s.recd.responderQueue = r :: rest →
          Completes .recorderWrite s fun t => t.recd.queue = s.recd.queue ∧ t.recd.responderQueue = rest ∧
            t.recd.records = s.recd.records ++ [{ r with sequence := (s.get 0xA00105 + 1) % 2 ^ 32 }])) ∧
      (∀ k, s.episodeKind = some k → s.recd.episode = none → Completes .captureEpisode s fun t =>
        t.recd.episode = some { kind := k, kept := 0 } ∧ t.get 0xA00106 = k) ∧
      (s.episodeKind = none → s.serving = true → s.recd.episode.isSome = true → Completes .captureEpisode s fun t =>
        t.recd.episode = none ∧ t.get 0xA00106 = 0) ∧
      (s.vcoreOn = true →
        (∀ q, (s.vcore < 850 → Completes (.coreDelayMargin q) s fun t => t.vcore = min 850 (s.vcore + 10) ∧ Raised 264 s t ∧ Raised 273 s t) ∧
          (850 ≤ s.vcore → Completes (.coreDelayMargin q) s fun t => t.vcore = s.vcore ∧ Raised 265 s t)) ∧
        (∀ src, 266 ≤ src → src ≤ 271 → Completes (.crossingError src) s fun t => Raised src s t) ∧
        ((∀ t0, s.modes.lastStall = some t0 → t0 + 1000000000 ≤ s.clock) → Completes .completionStall s fun t =>
          t.modes.lastStall = some s.clock ∧ Raised 272 s t) ∧
        (∀ t0, s.modes.lastStall = some t0 → s.clock < t0 + 1000000000 → s.curtainMode = true → Completes .completionStall s fun t =>
          t.mode = modeSave ∧ t.get 0xD04001 = 5 ∧ Counted 0x800108 1 s t ∧ Raised 272 s t))) ∧
  (∀ s : State,
      (s.vcoreOn = true →
        (∀ n : Fin 512, counterCount (s.get (counterKey n.val)) = 2 ^ 48 - 1 → Completes (.counterWrap n) s fun t =>
          counterCount (t.get (counterKey n.val)) = 0 ∧ 2 ^ 48 ≤ t.get (counterKey n.val) ∧ (s.wrapDue n.val = true → Raised 123 s t) ∧
            (s.wrapDue n.val = false → t.out = s.out ∧ t.get (sourceKey 123 0x02) = s.get (sourceKey 123 0x02))) ∧
        ∀ p : Port, (s.port p).windowRead < 2 ^ 64 → (s.port p).windowWrite < 2 ^ 64 → Completes (.bandwidthWindowEnd p) s fun t =>
          (t.port p).windowRead = 0 ∧ (t.port p).windowWrite = 0 ∧ (t.port p).windowLength = s.get (windowKey p 0x01) ∧
            ((s.port p).windowUnpublished = false →
              t.get (windowKey p 0x02) = (s.port p).windowRead ∧ t.get (windowKey p 0x03) = (s.port p).windowWrite ∧
              t.get (windowKey p 0x04) = max (s.get (windowKey p 0x04)) (s.port p).windowRead ∧
              t.get (windowKey p 0x05) = max (s.get (windowKey p 0x05)) (s.port p).windowWrite ∧
              Counted (windowKey p 0x06) 1 s t ∧
              (s.get (windowKey p 0x07) ≠ 0 → s.get (windowKey p 0x07) < (s.port p).windowRead + (s.port p).windowWrite → Raised 127 s t))) ∧
      ∀ r : Fin 64, s.prepared r.val = true → Completes (.promptPreparationDone r) s fun t =>
        t.get (regionKey r.val 0x0C) = 1 ∧ t.get 0x406008 = r.val + 256 ∧ Raised 91 s t)
end

