-- ==== Sys2Proof/Laws/Tables.lean ====
section
/-! SUPPORT. The laws of sparse tables: reading after writing, and that every operation keeps the keys strictly rising. -/

namespace Sys2Proof.Machine

variable {α : Type}

/-! ### Reading after writing -/

@[simp] theorem tfind_nil (k : Nat) : tfind k ([] : Tbl α) = none := rfl

@[simp] theorem tfind_tput_self (k : Nat) (v : α) (t : Tbl α) : tfind k (tput k v t) = some v := by
  induction t with
  | nil => simp [tput, tfind]
  | cons e t ih =>
    obtain ⟨j, w⟩ := e
    unfold tput
    split
    · simp [tfind]
    · split
      · simp [tfind]
      · rename_i h1 h2
        rw [tfind, if_neg (fun h => h2 h.symm), ih]

theorem tfind_tput_ne {k j : Nat} (h : j ≠ k) (v : α) (t : Tbl α) : tfind j (tput k v t) = tfind j t := by
  induction t with
  | nil => simp [tput, tfind, Ne.symm h]
  | cons e t ih =>
    obtain ⟨i, w⟩ := e
    unfold tput
    split
    · simp [tfind, Ne.symm h]
    · split
      · rename_i h1 h2
        subst h2
        simp [tfind, Ne.symm h]
      · simp [tfind, ih]

theorem tfind_tput (k j : Nat) (v : α) (t : Tbl α) : tfind j (tput k v t) = if j = k then some v else tfind j t := by
  split
  · rename_i h; subst h; simp
  · rename_i h; exact tfind_tput_ne h v t

theorem tfind_filter (p : Nat → Bool) (j : Nat) (t : Tbl α) :
    tfind j (t.filter fun e => p e.1) = if p j then tfind j t else none := by
  induction t with
  | nil => simp
  | cons e t ih =>
    obtain ⟨i, w⟩ := e
    by_cases hi : i = j
    · subst hi
      by_cases hp : p i <;> simp [hp, tfind, ih]
    · by_cases hp : p i <;> simp [hp, tfind, ih, hi]

theorem tfind_tdel (k j : Nat) (t : Tbl α) : tfind j (tdel k t) = if j = k then none else tfind j t := by
  rw [tdel, tfind_filter (fun i => !(i == k))]
  by_cases h : j = k <;> simp [h]

@[simp] theorem tfind_tdel_self (k : Nat) (t : Tbl α) : tfind k (tdel k t) = none := by simp [tfind_tdel]

/-- What a table whose unlisted keys read `d` reads after a write. -/
theorem tgetD_tset [DecidableEq α] (d : α) (k j : Nat) (v : α) (t : Tbl α) :
    tgetD d j (tset d k v t) = if j = k then v else tgetD d j t := by
  unfold tset tgetD
  split
  · rename_i h
    subst h
    rw [tfind_tdel]
    split <;> simp
  · rw [tfind_tput]
    split <;> simp

@[simp] theorem tgetD_tset_self [DecidableEq α] (d : α) (k : Nat) (v : α) (t : Tbl α) : tgetD d k (tset d k v t) = v := by
  simp [tgetD_tset]

@[simp] theorem tgetD_tput_self (d : α) (k : Nat) (v : α) (t : Tbl α) : tgetD d k (tput k v t) = v := by
  simp [tgetD]

theorem tgetD_tput_ne {k j : Nat} (h : j ≠ k) (d v : α) (t : Tbl α) : tgetD d j (tput k v t) = tgetD d j t := by
  simp [tgetD, tfind_tput_ne h]

/-! ### The canonical form -/

theorem rising_tail {e : Nat × α} {t : Tbl α} (h : rising (e :: t) = true) : rising t = true := by
  cases t with
  | nil => rfl
  | cons a t => simp [rising] at h; exact h.2

/-- Every key behind the head of a rising table is greater than the head's. -/
theorem rising_head {e : Nat × α} {t : Tbl α} (h : rising (e :: t) = true) : ∀ x ∈ t, e.1 < x.1 := by
  induction t generalizing e with
  | nil => simp
  | cons a t ih =>
    intro x hx
    simp [rising] at h
    rcases List.mem_cons.mp hx with rfl | hx
    · exact h.1
    · exact Nat.lt_trans h.1 (ih h.2 x hx)

theorem rising_cons {e : Nat × α} {t : Tbl α} (h : rising t = true) (hb : ∀ x ∈ t, e.1 < x.1) : rising (e :: t) = true := by
  cases t with
  | nil => rfl
  | cons a t => simp [rising]; exact ⟨hb a (by simp), h⟩

theorem rising_filter (p : Nat × α → Bool) {t : Tbl α} (h : rising t = true) : rising (t.filter p) = true := by
  induction t with
  | nil => rfl
  | cons e t ih =>
    rw [List.filter_cons]
    split
    · exact rising_cons (ih (rising_tail h)) fun x hx => rising_head h x (List.mem_filter.mp hx).1
    · exact ih (rising_tail h)

theorem mem_tput {k : Nat} {v : α} {t : Tbl α} {x : Nat × α} (hx : x ∈ tput k v t) : x = (k, v) ∨ x ∈ t := by
  induction t with
  | nil => simpa [tput] using hx
  | cons e t ih =>
    unfold tput at hx
    split at hx
    · simpa using hx
    · split at hx
      · rcases List.mem_cons.mp hx with h | h
        · exact .inl h
        · exact .inr (List.mem_cons_of_mem _ h)
      · rcases List.mem_cons.mp hx with h | h
        · exact .inr (by simp [h])
        · rcases ih h with h | h
          · exact .inl h
          · exact .inr (List.mem_cons_of_mem _ h)

theorem rising_tput (k : Nat) (v : α) {t : Tbl α} (h : rising t = true) : rising (tput k v t) = true := by
  induction t with
  | nil => rfl
  | cons e t ih =>
    obtain ⟨j, w⟩ := e
    unfold tput
    split
    · rename_i hlt
      simp [rising, hlt, h]
    · split
      · rename_i h1 h2
        subst h2
        exact rising_cons (rising_tail h) fun x hx => rising_head (e := (k, w)) h x hx
      · rename_i h1 h2
        refine rising_cons (ih (rising_tail h)) fun x hx => ?_
        rcases mem_tput hx with rfl | hx
        · simp; omega
        · exact rising_head h x hx

theorem rising_tdel (k : Nat) {t : Tbl α} (h : rising t = true) : rising (tdel k t) = true := rising_filter _ h

theorem rising_tset [DecidableEq α] (d : α) (k : Nat) (v : α) {t : Tbl α} (h : rising t = true) :
    rising (tset d k v t) = true := by
  unfold tset
  split
  · exact rising_tdel k h
  · exact rising_tput k v h

theorem rising_tmod (d : α) (k : Nat) (f : α → α) {t : Tbl α} (h : rising t = true) : rising (tmod d k f t) = true :=
  rising_tput _ _ h

theorem rising_trange (lo n : Nat) {t : Tbl α} (h : rising t = true) : rising (trange lo n t) = true := rising_filter _ h

theorem rising_tdelRange (lo n : Nat) {t : Tbl α} (h : rising t = true) : rising (tdelRange lo n t) = true :=
  rising_filter _ h

/-- No key is listed with the value that an unlisted key reads. -/
theorem mem_tset_ne [DecidableEq α] {d v : α} {k : Nat} {t : Tbl α} (h : ∀ x ∈ t, x.2 ≠ d) :
    ∀ x ∈ tset d k v t, x.2 ≠ d := by
  intro x hx
  unfold tset at hx
  split at hx
  · exact h x (List.mem_filter.mp hx).1
  · rename_i hv
    rcases mem_tput hx with rfl | hx
    · exact hv
    · exact h x hx

/-- The same where the value that an unlisted key reads depends on the key. -/
theorem mem_tset_ne_key [DecidableEq α] (d : Nat → α) {v : α} {k : Nat} {t : Tbl α} (h : ∀ x ∈ t, x.2 ≠ d x.1) :
    ∀ x ∈ tset (d k) k v t, x.2 ≠ d x.1 := by
  intro x hx
  unfold tset at hx
  split at hx
  · exact h x (List.mem_filter.mp hx).1
  · rename_i hv
    rcases mem_tput hx with rfl | hx
    · exact hv
    · exact h x hx

/-! ### A range of keys -/

theorem trange_tdel {lo n k : Nat} (h : k < lo ∨ lo + n ≤ k) (t : Tbl α) : trange lo n (tdel k t) = trange lo n t := by
  unfold trange tdel
  rw [List.filter_filter]
  refine List.filter_congr fun e _ => ?_
  by_cases he : e.1 = k
  · simp; omega
  · simp [he]

theorem trange_tput {lo n k : Nat} (h : k < lo ∨ lo + n ≤ k) (v : α) (t : Tbl α) : trange lo n (tput k v t) = trange lo n t := by
  have hk (w : α) : (decide (lo ≤ (k, w).1) && decide ((k, w).1 < lo + n)) = false := by simp; omega
  induction t with
  | nil => simp only [tput, trange, List.filter_cons, hk]; rfl
  | cons e t ih =>
    obtain ⟨j, w⟩ := e
    unfold tput
    split
    · simp only [trange, List.filter_cons, hk]; rfl
    · split
      · rename_i h1 h2
        subst h2
        simp only [trange, List.filter_cons, hk]; rfl
      · simp only [trange, List.filter_cons] at ih ⊢
        rw [ih]

theorem trange_tset [DecidableEq α] {lo n k : Nat} (h : k < lo ∨ lo + n ≤ k) (d v : α) (t : Tbl α) :
    trange lo n (tset d k v t) = trange lo n t := by
  unfold tset
  split
  · exact trange_tdel h t
  · exact trange_tput h v t

end Sys2Proof.Machine
end

