-- ==== Sys2Proof/Laws/State.lean ====
section
/-! SUPPORT. The laws of the state's elementary updates: one lemma for each field that an update leaves alone, true by
unfolding (a proof in parentheses keeps `simp` from asking the kernel to find the equality again by evaluation, which for a register's
number would walk the entry tables), and what the register file reads after a write. -/

namespace Sys2Proof.Machine

/-! ### The register file -/

@[simp] theorem get_put_self (s : State) (k v : Nat) : (s.put k v).get k = v := by
  simp only [State.get, State.put]
  exact tgetD_tset_self (defaultOf k) k v s.dict

theorem get_put_ne {s : State} {k j : Nat} (h : j ≠ k) (v : Nat) : (s.put k v).get j = s.get j := by
  have hf : tfind j (tset (defaultOf k) k v s.dict) = tfind j s.dict := by
    unfold tset
    split
    · rw [tfind_tdel, if_neg h]
    · exact tfind_tput_ne h v s.dict
  simp only [State.get, State.put, hf]

theorem get_put (s : State) (k j v : Nat) : (s.put k v).get j = if j = k then v else s.get j := by
  split
  · rename_i h; subst h; simp
  · rename_i h; exact get_put_ne h v

@[simp] theorem get_putBytes (s : State) (k : Nat) (v : List Byte) (j : Nat) : (s.putBytes k v).get j = s.get j := (rfl)

@[simp] theorem getBytes_put (s : State) (k v j : Nat) : (s.put k v).getBytes j = s.getBytes j := (rfl)

@[simp] theorem getBytes_putBytes_self (s : State) (k : Nat) (v : List Byte) : (s.putBytes k v).getBytes k = v := by
  simp only [State.getBytes, State.putBytes]
  exact tgetD_tset_self (defaultBytes k) k v s.octs

theorem getBytes_putBytes_ne {s : State} {k j : Nat} (h : j ≠ k) (v : List Byte) : (s.putBytes k v).getBytes j = s.getBytes j := by
  have hf : tfind j (tset (defaultBytes k) k v s.octs) = tfind j s.octs := by
    unfold tset
    split
    · rw [tfind_tdel, if_neg h]
    · exact tfind_tput_ne h v s.octs
  simp only [State.getBytes, State.putBytes, hf]

/-- A register's value depends on the register file alone. -/
theorem get_congr {s t : State} (h : t.dict = s.dict) (k : Nat) : t.get k = s.get k := by simp only [State.get, h]

theorem addTo_eq (s : State) (k n : Nat) : s.addTo k n = s.put k (countAfter k (s.get k) n) := (rfl)
theorem bump_eq (s : State) (k : Nat) : s.bump k = s.put k (countAfter k (s.get k) 1) := (rfl)

@[simp] theorem get_bump_self (s : State) (k : Nat) : (s.bump k).get k = countAfter k (s.get k) 1 := get_put_self _ _ _
@[simp] theorem get_addTo_self (s : State) (k n : Nat) : (s.addTo k n).get k = countAfter k (s.get k) n := get_put_self _ _ _
theorem get_bump_ne {s : State} {k j : Nat} (h : j ≠ k) : (s.bump k).get j = s.get j := get_put_ne h _
theorem get_addTo_ne {s : State} {k j : Nat} (h : j ≠ k) (n : Nat) : (s.addTo k n).get j = s.get j := get_put_ne h _
@[simp] theorem getBytes_bump (s : State) (k j : Nat) : (s.bump k).getBytes j = s.getBytes j := (rfl)
@[simp] theorem getBytes_addTo (s : State) (k n j : Nat) : (s.addTo k n).getBytes j = s.getBytes j := (rfl)
@[simp] theorem get_emit (o : Out) (s : State) (k : Nat) : (emit o s).get k = s.get k := (rfl)
@[simp] theorem getBytes_emit (o : Out) (s : State) (k : Nat) : (emit o s).getBytes k = s.getBytes k := (rfl)
@[simp] theorem get_drawn (s : State) (k : Nat) : (drawn s).get k = s.get k := (rfl)
@[simp] theorem getBytes_drawn (s : State) (k : Nat) : (drawn s).getBytes k = s.getBytes k := (rfl)
@[simp] theorem get_takeSeq (s : State) (k : Nat) : (takeSeq s).get k = s.get k := (rfl)
@[simp] theorem out_emit (o : Out) (s : State) : (emit o s).out = s.out ++ [o] := (rfl)

/-! ### Ports -/

@[simp] theorem port_setPort_self (s : State) (p : Port) (v : PortState) : (s.setPort p v).port p = v := by cases p <;> rfl
@[simp] theorem port_modPort_self (s : State) (p : Port) (f : PortState → PortState) : (s.modPort p f).port p = f (s.port p) := by
  cases p <;> rfl
@[simp] theorem port_put (s : State) (k v : Nat) (p : Port) : (s.put k v).port p = s.port p := by cases p <;> rfl
@[simp] theorem port_emit (o : Out) (s : State) (p : Port) : (emit o s).port p = s.port p := by cases p <;> rfl
@[simp] theorem pending_setPort (s : State) (p : Port) (v : PortState) : (s.setPort p v).pending = s.pending := by cases p <;> rfl
@[simp] theorem pending_modPort (s : State) (p : Port) (f : PortState → PortState) : (s.modPort p f).pending = s.pending := by cases p <;> rfl
@[simp] theorem dict_setPort (s : State) (p : Port) (v : PortState) : (s.setPort p v).dict = s.dict := by cases p <;> rfl
@[simp] theorem dict_modPort (s : State) (p : Port) (f : PortState → PortState) : (s.modPort p f).dict = s.dict := by cases p <;> rfl
@[simp] theorem octs_setPort (s : State) (p : Port) (v : PortState) : (s.setPort p v).octs = s.octs := by cases p <;> rfl
@[simp] theorem octs_modPort (s : State) (p : Port) (f : PortState → PortState) : (s.modPort p f).octs = s.octs := by cases p <;> rfl
@[simp] theorem clock_setPort (s : State) (p : Port) (v : PortState) : (s.setPort p v).clock = s.clock := by cases p <;> rfl
@[simp] theorem clock_modPort (s : State) (p : Port) (f : PortState → PortState) : (s.modPort p f).clock = s.clock := by cases p <;> rfl
@[simp] theorem service_setPort (s : State) (p : Port) (v : PortState) : (s.setPort p v).service = s.service := by cases p <;> rfl
@[simp] theorem service_modPort (s : State) (p : Port) (f : PortState → PortState) : (s.modPort p f).service = s.service := by cases p <;> rfl
@[simp] theorem deviceTime_setPort (s : State) (p : Port) (v : PortState) : (s.setPort p v).deviceTime = s.deviceTime := by cases p <;> rfl
@[simp] theorem deviceTime_modPort (s : State) (p : Port) (f : PortState → PortState) : (s.modPort p f).deviceTime = s.deviceTime := by cases p <;> rfl
@[simp] theorem nextStamp_setPort (s : State) (p : Port) (v : PortState) : (s.setPort p v).nextStamp = s.nextStamp := by cases p <;> rfl
@[simp] theorem nextStamp_modPort (s : State) (p : Port) (f : PortState → PortState) : (s.modPort p f).nextStamp = s.nextStamp := by cases p <;> rfl
@[simp] theorem restoreStamp_setPort (s : State) (p : Port) (v : PortState) : (s.setPort p v).restoreStamp = s.restoreStamp := by cases p <;> rfl
@[simp] theorem restoreStamp_modPort (s : State) (p : Port) (f : PortState → PortState) : (s.modPort p f).restoreStamp = s.restoreStamp := by cases p <;> rfl
@[simp] theorem nextSeq_setPort (s : State) (p : Port) (v : PortState) : (s.setPort p v).nextSeq = s.nextSeq := by cases p <;> rfl
@[simp] theorem nextSeq_modPort (s : State) (p : Port) (f : PortState → PortState) : (s.modPort p f).nextSeq = s.nextSeq := by cases p <;> rfl
@[simp] theorem draws_setPort (s : State) (p : Port) (v : PortState) : (s.setPort p v).draws = s.draws := by cases p <;> rfl
@[simp] theorem draws_modPort (s : State) (p : Port) (f : PortState → PortState) : (s.modPort p f).draws = s.draws := by cases p <;> rfl
@[simp] theorem staging_setPort (s : State) (p : Port) (v : PortState) : (s.setPort p v).staging = s.staging := by cases p <;> rfl
@[simp] theorem staging_modPort (s : State) (p : Port) (f : PortState → PortState) : (s.modPort p f).staging = s.staging := by cases p <;> rfl
@[simp] theorem stallSince_setPort (s : State) (p : Port) (v : PortState) : (s.setPort p v).stallSince = s.stallSince := by cases p <;> rfl
@[simp] theorem stallSince_modPort (s : State) (p : Port) (f : PortState → PortState) : (s.modPort p f).stallSince = s.stallSince := by cases p <;> rfl
@[simp] theorem stallReported_setPort (s : State) (p : Port) (v : PortState) : (s.setPort p v).stallReported = s.stallReported := by cases p <;> rfl
@[simp] theorem stallReported_modPort (s : State) (p : Port) (f : PortState → PortState) : (s.modPort p f).stallReported = s.stallReported := by cases p <;> rfl
@[simp] theorem l1_setPort (s : State) (p : Port) (v : PortState) : (s.setPort p v).l1 = s.l1 := by cases p <;> rfl
@[simp] theorem l1_modPort (s : State) (p : Port) (f : PortState → PortState) : (s.modPort p f).l1 = s.l1 := by cases p <;> rfl
@[simp] theorem l2_setPort (s : State) (p : Port) (v : PortState) : (s.setPort p v).l2 = s.l2 := by cases p <;> rfl
@[simp] theorem l2_modPort (s : State) (p : Port) (f : PortState → PortState) : (s.modPort p f).l2 = s.l2 := by cases p <;> rfl
@[simp] theorem lfsr1_setPort (s : State) (p : Port) (v : PortState) : (s.setPort p v).lfsr1 = s.lfsr1 := by cases p <;> rfl
@[simp] theorem lfsr1_modPort (s : State) (p : Port) (f : PortState → PortState) : (s.modPort p f).lfsr1 = s.lfsr1 := by cases p <;> rfl
@[simp] theorem lfsr2_setPort (s : State) (p : Port) (v : PortState) : (s.setPort p v).lfsr2 = s.lfsr2 := by cases p <;> rfl
@[simp] theorem lfsr2_modPort (s : State) (p : Port) (f : PortState → PortState) : (s.modPort p f).lfsr2 = s.lfsr2 := by cases p <;> rfl
@[simp] theorem reads_setPort (s : State) (p : Port) (v : PortState) : (s.setPort p v).reads = s.reads := by cases p <;> rfl
@[simp] theorem reads_modPort (s : State) (p : Port) (f : PortState → PortState) : (s.modPort p f).reads = s.reads := by cases p <;> rfl
@[simp] theorem nextRead_setPort (s : State) (p : Port) (v : PortState) : (s.setPort p v).nextRead = s.nextRead := by cases p <;> rfl
@[simp] theorem nextRead_modPort (s : State) (p : Port) (f : PortState → PortState) : (s.modPort p f).nextRead = s.nextRead := by cases p <;> rfl
@[simp] theorem retries_setPort (s : State) (p : Port) (v : PortState) : (s.setPort p v).retries = s.retries := by cases p <;> rfl
@[simp] theorem retries_modPort (s : State) (p : Port) (f : PortState → PortState) : (s.modPort p f).retries = s.retries := by cases p <;> rfl
@[simp] theorem groups_setPort (s : State) (p : Port) (v : PortState) : (s.setPort p v).groups = s.groups := by cases p <;> rfl
@[simp] theorem groups_modPort (s : State) (p : Port) (f : PortState → PortState) : (s.modPort p f).groups = s.groups := by cases p <;> rfl
@[simp] theorem cells_setPort (s : State) (p : Port) (v : PortState) : (s.setPort p v).cells = s.cells := by cases p <;> rfl
@[simp] theorem cells_modPort (s : State) (p : Port) (f : PortState → PortState) : (s.modPort p f).cells = s.cells := by cases p <;> rfl
@[simp] theorem reservedA_setPort (s : State) (p : Port) (v : PortState) : (s.setPort p v).reservedA = s.reservedA := by cases p <;> rfl
@[simp] theorem reservedA_modPort (s : State) (p : Port) (f : PortState → PortState) : (s.modPort p f).reservedA = s.reservedA := by cases p <;> rfl
@[simp] theorem reservedB_setPort (s : State) (p : Port) (v : PortState) : (s.setPort p v).reservedB = s.reservedB := by cases p <;> rfl
@[simp] theorem reservedB_modPort (s : State) (p : Port) (f : PortState → PortState) : (s.modPort p f).reservedB = s.reservedB := by cases p <;> rfl
@[simp] theorem resultsA_setPort (s : State) (p : Port) (v : PortState) : (s.setPort p v).resultsA = s.resultsA := by cases p <;> rfl
@[simp] theorem resultsA_modPort (s : State) (p : Port) (f : PortState → PortState) : (s.modPort p f).resultsA = s.resultsA := by cases p <;> rfl
@[simp] theorem resultsB_setPort (s : State) (p : Port) (v : PortState) : (s.setPort p v).resultsB = s.resultsB := by cases p <;> rfl
@[simp] theorem resultsB_modPort (s : State) (p : Port) (f : PortState → PortState) : (s.modPort p f).resultsB = s.resultsB := by cases p <;> rfl
@[simp] theorem resultBase_setPort (s : State) (p : Port) (v : PortState) : (s.setPort p v).resultBase = s.resultBase := by cases p <;> rfl
@[simp] theorem resultBase_modPort (s : State) (p : Port) (f : PortState → PortState) : (s.modPort p f).resultBase = s.resultBase := by cases p <;> rfl
@[simp] theorem xlat_setPort (s : State) (p : Port) (v : PortState) : (s.setPort p v).xlat = s.xlat := by cases p <;> rfl
@[simp] theorem xlat_modPort (s : State) (p : Port) (f : PortState → PortState) : (s.modPort p f).xlat = s.xlat := by cases p <;> rfl
@[simp] theorem med_setPort (s : State) (p : Port) (v : PortState) : (s.setPort p v).med = s.med := by cases p <;> rfl
@[simp] theorem med_modPort (s : State) (p : Port) (f : PortState → PortState) : (s.modPort p f).med = s.med := by cases p <;> rfl
@[simp] theorem integ_setPort (s : State) (p : Port) (v : PortState) : (s.setPort p v).integ = s.integ := by cases p <;> rfl
@[simp] theorem integ_modPort (s : State) (p : Port) (f : PortState → PortState) : (s.modPort p f).integ = s.integ := by cases p <;> rfl
@[simp] theorem stored_setPort (s : State) (p : Port) (v : PortState) : (s.setPort p v).stored = s.stored := by cases p <;> rfl
@[simp] theorem stored_modPort (s : State) (p : Port) (f : PortState → PortState) : (s.modPort p f).stored = s.stored := by cases p <;> rfl
@[simp] theorem pow_setPort (s : State) (p : Port) (v : PortState) : (s.setPort p v).pow = s.pow := by cases p <;> rfl
@[simp] theorem pow_modPort (s : State) (p : Port) (f : PortState → PortState) : (s.modPort p f).pow = s.pow := by cases p <;> rfl
@[simp] theorem modes_setPort (s : State) (p : Port) (v : PortState) : (s.setPort p v).modes = s.modes := by cases p <;> rfl
@[simp] theorem modes_modPort (s : State) (p : Port) (f : PortState → PortState) : (s.modPort p f).modes = s.modes := by cases p <;> rfl
@[simp] theorem therm_setPort (s : State) (p : Port) (v : PortState) : (s.setPort p v).therm = s.therm := by cases p <;> rfl
@[simp] theorem therm_modPort (s : State) (p : Port) (f : PortState → PortState) : (s.modPort p f).therm = s.therm := by cases p <;> rfl
@[simp] theorem mgmt_setPort (s : State) (p : Port) (v : PortState) : (s.setPort p v).mgmt = s.mgmt := by cases p <;> rfl
@[simp] theorem mgmt_modPort (s : State) (p : Port) (f : PortState → PortState) : (s.modPort p f).mgmt = s.mgmt := by cases p <;> rfl
@[simp] theorem recd_setPort (s : State) (p : Port) (v : PortState) : (s.setPort p v).recd = s.recd := by cases p <;> rfl
@[simp] theorem recd_modPort (s : State) (p : Port) (f : PortState → PortState) : (s.modPort p f).recd = s.recd := by cases p <;> rfl
@[simp] theorem obs_setPort (s : State) (p : Port) (v : PortState) : (s.setPort p v).obs = s.obs := by cases p <;> rfl
@[simp] theorem obs_modPort (s : State) (p : Port) (f : PortState → PortState) : (s.modPort p f).obs = s.obs := by cases p <;> rfl
@[simp] theorem out_setPort (s : State) (p : Port) (v : PortState) : (s.setPort p v).out = s.out := by cases p <;> rfl
@[simp] theorem out_modPort (s : State) (p : Port) (f : PortState → PortState) : (s.modPort p f).out = s.out := by cases p <;> rfl
@[simp] theorem get_setPort (s : State) (p : Port) (v : PortState) (k : Nat) : (s.setPort p v).get k = s.get k := by cases p <;> rfl
@[simp] theorem get_modPort (s : State) (p : Port) (f : PortState → PortState) (k : Nat) : (s.modPort p f).get k = s.get k := by
  cases p <;> rfl

/-! ### `put` -/

@[simp] theorem pending_put (s : State) (k v : Nat) : (s.put k v).pending = s.pending := (rfl)
@[simp] theorem octs_put (s : State) (k v : Nat) : (s.put k v).octs = s.octs := (rfl)
@[simp] theorem clock_put (s : State) (k v : Nat) : (s.put k v).clock = s.clock := (rfl)
@[simp] theorem service_put (s : State) (k v : Nat) : (s.put k v).service = s.service := (rfl)
@[simp] theorem deviceTime_put (s : State) (k v : Nat) : (s.put k v).deviceTime = s.deviceTime := (rfl)
@[simp] theorem nextStamp_put (s : State) (k v : Nat) : (s.put k v).nextStamp = s.nextStamp := (rfl)
@[simp] theorem restoreStamp_put (s : State) (k v : Nat) : (s.put k v).restoreStamp = s.restoreStamp := (rfl)
@[simp] theorem nextSeq_put (s : State) (k v : Nat) : (s.put k v).nextSeq = s.nextSeq := (rfl)
@[simp] theorem draws_put (s : State) (k v : Nat) : (s.put k v).draws = s.draws := (rfl)
@[simp] theorem portA_put (s : State) (k v : Nat) : (s.put k v).portA = s.portA := (rfl)
@[simp] theorem portB_put (s : State) (k v : Nat) : (s.put k v).portB = s.portB := (rfl)
@[simp] theorem staging_put (s : State) (k v : Nat) : (s.put k v).staging = s.staging := (rfl)
@[simp] theorem stallSince_put (s : State) (k v : Nat) : (s.put k v).stallSince = s.stallSince := (rfl)
@[simp] theorem stallReported_put (s : State) (k v : Nat) : (s.put k v).stallReported = s.stallReported := (rfl)
@[simp] theorem l1_put (s : State) (k v : Nat) : (s.put k v).l1 = s.l1 := (rfl)
@[simp] theorem l2_put (s : State) (k v : Nat) : (s.put k v).l2 = s.l2 := (rfl)
@[simp] theorem lfsr1_put (s : State) (k v : Nat) : (s.put k v).lfsr1 = s.lfsr1 := (rfl)
@[simp] theorem lfsr2_put (s : State) (k v : Nat) : (s.put k v).lfsr2 = s.lfsr2 := (rfl)
@[simp] theorem reads_put (s : State) (k v : Nat) : (s.put k v).reads = s.reads := (rfl)
@[simp] theorem nextRead_put (s : State) (k v : Nat) : (s.put k v).nextRead = s.nextRead := (rfl)
@[simp] theorem retries_put (s : State) (k v : Nat) : (s.put k v).retries = s.retries := (rfl)
@[simp] theorem groups_put (s : State) (k v : Nat) : (s.put k v).groups = s.groups := (rfl)
@[simp] theorem cells_put (s : State) (k v : Nat) : (s.put k v).cells = s.cells := (rfl)
@[simp] theorem reservedA_put (s : State) (k v : Nat) : (s.put k v).reservedA = s.reservedA := (rfl)
@[simp] theorem reservedB_put (s : State) (k v : Nat) : (s.put k v).reservedB = s.reservedB := (rfl)
@[simp] theorem resultsA_put (s : State) (k v : Nat) : (s.put k v).resultsA = s.resultsA := (rfl)
@[simp] theorem resultsB_put (s : State) (k v : Nat) : (s.put k v).resultsB = s.resultsB := (rfl)
@[simp] theorem resultBase_put (s : State) (k v : Nat) : (s.put k v).resultBase = s.resultBase := (rfl)
@[simp] theorem xlat_put (s : State) (k v : Nat) : (s.put k v).xlat = s.xlat := (rfl)
@[simp] theorem med_put (s : State) (k v : Nat) : (s.put k v).med = s.med := (rfl)
@[simp] theorem integ_put (s : State) (k v : Nat) : (s.put k v).integ = s.integ := (rfl)
@[simp] theorem stored_put (s : State) (k v : Nat) : (s.put k v).stored = s.stored := (rfl)
@[simp] theorem pow_put (s : State) (k v : Nat) : (s.put k v).pow = s.pow := (rfl)
@[simp] theorem modes_put (s : State) (k v : Nat) : (s.put k v).modes = s.modes := (rfl)
@[simp] theorem therm_put (s : State) (k v : Nat) : (s.put k v).therm = s.therm := (rfl)
@[simp] theorem mgmt_put (s : State) (k v : Nat) : (s.put k v).mgmt = s.mgmt := (rfl)
@[simp] theorem recd_put (s : State) (k v : Nat) : (s.put k v).recd = s.recd := (rfl)
@[simp] theorem obs_put (s : State) (k v : Nat) : (s.put k v).obs = s.obs := (rfl)
@[simp] theorem out_put (s : State) (k v : Nat) : (s.put k v).out = s.out := (rfl)

/-! ### `putBytes` -/

@[simp] theorem pending_putBytes (s : State) (k : Nat) (v : List Byte) : (s.putBytes k v).pending = s.pending := (rfl)
@[simp] theorem dict_putBytes (s : State) (k : Nat) (v : List Byte) : (s.putBytes k v).dict = s.dict := (rfl)
@[simp] theorem clock_putBytes (s : State) (k : Nat) (v : List Byte) : (s.putBytes k v).clock = s.clock := (rfl)
@[simp] theorem service_putBytes (s : State) (k : Nat) (v : List Byte) : (s.putBytes k v).service = s.service := (rfl)
@[simp] theorem deviceTime_putBytes (s : State) (k : Nat) (v : List Byte) : (s.putBytes k v).deviceTime = s.deviceTime := (rfl)
@[simp] theorem nextStamp_putBytes (s : State) (k : Nat) (v : List Byte) : (s.putBytes k v).nextStamp = s.nextStamp := (rfl)
@[simp] theorem restoreStamp_putBytes (s : State) (k : Nat) (v : List Byte) : (s.putBytes k v).restoreStamp = s.restoreStamp := (rfl)
@[simp] theorem nextSeq_putBytes (s : State) (k : Nat) (v : List Byte) : (s.putBytes k v).nextSeq = s.nextSeq := (rfl)
@[simp] theorem draws_putBytes (s : State) (k : Nat) (v : List Byte) : (s.putBytes k v).draws = s.draws := (rfl)
@[simp] theorem portA_putBytes (s : State) (k : Nat) (v : List Byte) : (s.putBytes k v).portA = s.portA := (rfl)
@[simp] theorem portB_putBytes (s : State) (k : Nat) (v : List Byte) : (s.putBytes k v).portB = s.portB := (rfl)
@[simp] theorem staging_putBytes (s : State) (k : Nat) (v : List Byte) : (s.putBytes k v).staging = s.staging := (rfl)
@[simp] theorem stallSince_putBytes (s : State) (k : Nat) (v : List Byte) : (s.putBytes k v).stallSince = s.stallSince := (rfl)
@[simp] theorem stallReported_putBytes (s : State) (k : Nat) (v : List Byte) : (s.putBytes k v).stallReported = s.stallReported := (rfl)
@[simp] theorem l1_putBytes (s : State) (k : Nat) (v : List Byte) : (s.putBytes k v).l1 = s.l1 := (rfl)
@[simp] theorem l2_putBytes (s : State) (k : Nat) (v : List Byte) : (s.putBytes k v).l2 = s.l2 := (rfl)
@[simp] theorem lfsr1_putBytes (s : State) (k : Nat) (v : List Byte) : (s.putBytes k v).lfsr1 = s.lfsr1 := (rfl)
@[simp] theorem lfsr2_putBytes (s : State) (k : Nat) (v : List Byte) : (s.putBytes k v).lfsr2 = s.lfsr2 := (rfl)
@[simp] theorem reads_putBytes (s : State) (k : Nat) (v : List Byte) : (s.putBytes k v).reads = s.reads := (rfl)
@[simp] theorem nextRead_putBytes (s : State) (k : Nat) (v : List Byte) : (s.putBytes k v).nextRead = s.nextRead := (rfl)
@[simp] theorem retries_putBytes (s : State) (k : Nat) (v : List Byte) : (s.putBytes k v).retries = s.retries := (rfl)
@[simp] theorem groups_putBytes (s : State) (k : Nat) (v : List Byte) : (s.putBytes k v).groups = s.groups := (rfl)
@[simp] theorem cells_putBytes (s : State) (k : Nat) (v : List Byte) : (s.putBytes k v).cells = s.cells := (rfl)
@[simp] theorem reservedA_putBytes (s : State) (k : Nat) (v : List Byte) : (s.putBytes k v).reservedA = s.reservedA := (rfl)
@[simp] theorem reservedB_putBytes (s : State) (k : Nat) (v : List Byte) : (s.putBytes k v).reservedB = s.reservedB := (rfl)
@[simp] theorem resultsA_putBytes (s : State) (k : Nat) (v : List Byte) : (s.putBytes k v).resultsA = s.resultsA := (rfl)
@[simp] theorem resultsB_putBytes (s : State) (k : Nat) (v : List Byte) : (s.putBytes k v).resultsB = s.resultsB := (rfl)
@[simp] theorem resultBase_putBytes (s : State) (k : Nat) (v : List Byte) : (s.putBytes k v).resultBase = s.resultBase := (rfl)
@[simp] theorem xlat_putBytes (s : State) (k : Nat) (v : List Byte) : (s.putBytes k v).xlat = s.xlat := (rfl)
@[simp] theorem med_putBytes (s : State) (k : Nat) (v : List Byte) : (s.putBytes k v).med = s.med := (rfl)
@[simp] theorem integ_putBytes (s : State) (k : Nat) (v : List Byte) : (s.putBytes k v).integ = s.integ := (rfl)
@[simp] theorem stored_putBytes (s : State) (k : Nat) (v : List Byte) : (s.putBytes k v).stored = s.stored := (rfl)
@[simp] theorem pow_putBytes (s : State) (k : Nat) (v : List Byte) : (s.putBytes k v).pow = s.pow := (rfl)
@[simp] theorem modes_putBytes (s : State) (k : Nat) (v : List Byte) : (s.putBytes k v).modes = s.modes := (rfl)
@[simp] theorem therm_putBytes (s : State) (k : Nat) (v : List Byte) : (s.putBytes k v).therm = s.therm := (rfl)
@[simp] theorem mgmt_putBytes (s : State) (k : Nat) (v : List Byte) : (s.putBytes k v).mgmt = s.mgmt := (rfl)
@[simp] theorem recd_putBytes (s : State) (k : Nat) (v : List Byte) : (s.putBytes k v).recd = s.recd := (rfl)
@[simp] theorem obs_putBytes (s : State) (k : Nat) (v : List Byte) : (s.putBytes k v).obs = s.obs := (rfl)
@[simp] theorem out_putBytes (s : State) (k : Nat) (v : List Byte) : (s.putBytes k v).out = s.out := (rfl)

/-! ### `addTo` -/

@[simp] theorem pending_addTo (s : State) (k n : Nat) : (s.addTo k n).pending = s.pending := (rfl)
@[simp] theorem octs_addTo (s : State) (k n : Nat) : (s.addTo k n).octs = s.octs := (rfl)
@[simp] theorem clock_addTo (s : State) (k n : Nat) : (s.addTo k n).clock = s.clock := (rfl)
@[simp] theorem service_addTo (s : State) (k n : Nat) : (s.addTo k n).service = s.service := (rfl)
@[simp] theorem deviceTime_addTo (s : State) (k n : Nat) : (s.addTo k n).deviceTime = s.deviceTime := (rfl)
@[simp] theorem nextStamp_addTo (s : State) (k n : Nat) : (s.addTo k n).nextStamp = s.nextStamp := (rfl)
@[simp] theorem restoreStamp_addTo (s : State) (k n : Nat) : (s.addTo k n).restoreStamp = s.restoreStamp := (rfl)
@[simp] theorem nextSeq_addTo (s : State) (k n : Nat) : (s.addTo k n).nextSeq = s.nextSeq := (rfl)
@[simp] theorem draws_addTo (s : State) (k n : Nat) : (s.addTo k n).draws = s.draws := (rfl)
@[simp] theorem portA_addTo (s : State) (k n : Nat) : (s.addTo k n).portA = s.portA := (rfl)
@[simp] theorem portB_addTo (s : State) (k n : Nat) : (s.addTo k n).portB = s.portB := (rfl)
@[simp] theorem staging_addTo (s : State) (k n : Nat) : (s.addTo k n).staging = s.staging := (rfl)
@[simp] theorem stallSince_addTo (s : State) (k n : Nat) : (s.addTo k n).stallSince = s.stallSince := (rfl)
@[simp] theorem stallReported_addTo (s : State) (k n : Nat) : (s.addTo k n).stallReported = s.stallReported := (rfl)
@[simp] theorem l1_addTo (s : State) (k n : Nat) : (s.addTo k n).l1 = s.l1 := (rfl)
@[simp] theorem l2_addTo (s : State) (k n : Nat) : (s.addTo k n).l2 = s.l2 := (rfl)
@[simp] theorem lfsr1_addTo (s : State) (k n : Nat) : (s.addTo k n).lfsr1 = s.lfsr1 := (rfl)
@[simp] theorem lfsr2_addTo (s : State) (k n : Nat) : (s.addTo k n).lfsr2 = s.lfsr2 := (rfl)
@[simp] theorem reads_addTo (s : State) (k n : Nat) : (s.addTo k n).reads = s.reads := (rfl)
@[simp] theorem nextRead_addTo (s : State) (k n : Nat) : (s.addTo k n).nextRead = s.nextRead := (rfl)
@[simp] theorem retries_addTo (s : State) (k n : Nat) : (s.addTo k n).retries = s.retries := (rfl)
@[simp] theorem groups_addTo (s : State) (k n : Nat) : (s.addTo k n).groups = s.groups := (rfl)
@[simp] theorem cells_addTo (s : State) (k n : Nat) : (s.addTo k n).cells = s.cells := (rfl)
@[simp] theorem reservedA_addTo (s : State) (k n : Nat) : (s.addTo k n).reservedA = s.reservedA := (rfl)
@[simp] theorem reservedB_addTo (s : State) (k n : Nat) : (s.addTo k n).reservedB = s.reservedB := (rfl)
@[simp] theorem resultsA_addTo (s : State) (k n : Nat) : (s.addTo k n).resultsA = s.resultsA := (rfl)
@[simp] theorem resultsB_addTo (s : State) (k n : Nat) : (s.addTo k n).resultsB = s.resultsB := (rfl)
@[simp] theorem resultBase_addTo (s : State) (k n : Nat) : (s.addTo k n).resultBase = s.resultBase := (rfl)
@[simp] theorem xlat_addTo (s : State) (k n : Nat) : (s.addTo k n).xlat = s.xlat := (rfl)
@[simp] theorem med_addTo (s : State) (k n : Nat) : (s.addTo k n).med = s.med := (rfl)
@[simp] theorem integ_addTo (s : State) (k n : Nat) : (s.addTo k n).integ = s.integ := (rfl)
@[simp] theorem stored_addTo (s : State) (k n : Nat) : (s.addTo k n).stored = s.stored := (rfl)
@[simp] theorem pow_addTo (s : State) (k n : Nat) : (s.addTo k n).pow = s.pow := (rfl)
@[simp] theorem modes_addTo (s : State) (k n : Nat) : (s.addTo k n).modes = s.modes := (rfl)
@[simp] theorem therm_addTo (s : State) (k n : Nat) : (s.addTo k n).therm = s.therm := (rfl)
@[simp] theorem mgmt_addTo (s : State) (k n : Nat) : (s.addTo k n).mgmt = s.mgmt := (rfl)
@[simp] theorem recd_addTo (s : State) (k n : Nat) : (s.addTo k n).recd = s.recd := (rfl)
@[simp] theorem obs_addTo (s : State) (k n : Nat) : (s.addTo k n).obs = s.obs := (rfl)
@[simp] theorem out_addTo (s : State) (k n : Nat) : (s.addTo k n).out = s.out := (rfl)

/-! ### `bump` -/

@[simp] theorem pending_bump (s : State) (k : Nat) : (s.bump k).pending = s.pending := (rfl)
@[simp] theorem octs_bump (s : State) (k : Nat) : (s.bump k).octs = s.octs := (rfl)
@[simp] theorem clock_bump (s : State) (k : Nat) : (s.bump k).clock = s.clock := (rfl)
@[simp] theorem service_bump (s : State) (k : Nat) : (s.bump k).service = s.service := (rfl)
@[simp] theorem deviceTime_bump (s : State) (k : Nat) : (s.bump k).deviceTime = s.deviceTime := (rfl)
@[simp] theorem nextStamp_bump (s : State) (k : Nat) : (s.bump k).nextStamp = s.nextStamp := (rfl)
@[simp] theorem restoreStamp_bump (s : State) (k : Nat) : (s.bump k).restoreStamp = s.restoreStamp := (rfl)
@[simp] theorem nextSeq_bump (s : State) (k : Nat) : (s.bump k).nextSeq = s.nextSeq := (rfl)
@[simp] theorem draws_bump (s : State) (k : Nat) : (s.bump k).draws = s.draws := (rfl)
@[simp] theorem portA_bump (s : State) (k : Nat) : (s.bump k).portA = s.portA := (rfl)
@[simp] theorem portB_bump (s : State) (k : Nat) : (s.bump k).portB = s.portB := (rfl)
@[simp] theorem staging_bump (s : State) (k : Nat) : (s.bump k).staging = s.staging := (rfl)
@[simp] theorem stallSince_bump (s : State) (k : Nat) : (s.bump k).stallSince = s.stallSince := (rfl)
@[simp] theorem stallReported_bump (s : State) (k : Nat) : (s.bump k).stallReported = s.stallReported := (rfl)
@[simp] theorem l1_bump (s : State) (k : Nat) : (s.bump k).l1 = s.l1 := (rfl)
@[simp] theorem l2_bump (s : State) (k : Nat) : (s.bump k).l2 = s.l2 := (rfl)
@[simp] theorem lfsr1_bump (s : State) (k : Nat) : (s.bump k).lfsr1 = s.lfsr1 := (rfl)
@[simp] theorem lfsr2_bump (s : State) (k : Nat) : (s.bump k).lfsr2 = s.lfsr2 := (rfl)
@[simp] theorem reads_bump (s : State) (k : Nat) : (s.bump k).reads = s.reads := (rfl)
@[simp] theorem nextRead_bump (s : State) (k : Nat) : (s.bump k).nextRead = s.nextRead := (rfl)
@[simp] theorem retries_bump (s : State) (k : Nat) : (s.bump k).retries = s.retries := (rfl)
@[simp] theorem groups_bump (s : State) (k : Nat) : (s.bump k).groups = s.groups := (rfl)
@[simp] theorem cells_bump (s : State) (k : Nat) : (s.bump k).cells = s.cells := (rfl)
@[simp] theorem reservedA_bump (s : State) (k : Nat) : (s.bump k).reservedA = s.reservedA := (rfl)
@[simp] theorem reservedB_bump (s : State) (k : Nat) : (s.bump k).reservedB = s.reservedB := (rfl)
@[simp] theorem resultsA_bump (s : State) (k : Nat) : (s.bump k).resultsA = s.resultsA := (rfl)
@[simp] theorem resultsB_bump (s : State) (k : Nat) : (s.bump k).resultsB = s.resultsB := (rfl)
@[simp] theorem resultBase_bump (s : State) (k : Nat) : (s.bump k).resultBase = s.resultBase := (rfl)
@[simp] theorem xlat_bump (s : State) (k : Nat) : (s.bump k).xlat = s.xlat := (rfl)
@[simp] theorem med_bump (s : State) (k : Nat) : (s.bump k).med = s.med := (rfl)
@[simp] theorem integ_bump (s : State) (k : Nat) : (s.bump k).integ = s.integ := (rfl)
@[simp] theorem stored_bump (s : State) (k : Nat) : (s.bump k).stored = s.stored := (rfl)
@[simp] theorem pow_bump (s : State) (k : Nat) : (s.bump k).pow = s.pow := (rfl)
@[simp] theorem modes_bump (s : State) (k : Nat) : (s.bump k).modes = s.modes := (rfl)
@[simp] theorem therm_bump (s : State) (k : Nat) : (s.bump k).therm = s.therm := (rfl)
@[simp] theorem mgmt_bump (s : State) (k : Nat) : (s.bump k).mgmt = s.mgmt := (rfl)
@[simp] theorem recd_bump (s : State) (k : Nat) : (s.bump k).recd = s.recd := (rfl)
@[simp] theorem obs_bump (s : State) (k : Nat) : (s.bump k).obs = s.obs := (rfl)
@[simp] theorem out_bump (s : State) (k : Nat) : (s.bump k).out = s.out := (rfl)

/-! ### `setBit` -/

@[simp] theorem pending_setBit (s : State) (k b : Nat) : (s.setBit k b).pending = s.pending := (rfl)
@[simp] theorem octs_setBit (s : State) (k b : Nat) : (s.setBit k b).octs = s.octs := (rfl)
@[simp] theorem clock_setBit (s : State) (k b : Nat) : (s.setBit k b).clock = s.clock := (rfl)
@[simp] theorem service_setBit (s : State) (k b : Nat) : (s.setBit k b).service = s.service := (rfl)
@[simp] theorem deviceTime_setBit (s : State) (k b : Nat) : (s.setBit k b).deviceTime = s.deviceTime := (rfl)
@[simp] theorem nextStamp_setBit (s : State) (k b : Nat) : (s.setBit k b).nextStamp = s.nextStamp := (rfl)
@[simp] theorem restoreStamp_setBit (s : State) (k b : Nat) : (s.setBit k b).restoreStamp = s.restoreStamp := (rfl)
@[simp] theorem nextSeq_setBit (s : State) (k b : Nat) : (s.setBit k b).nextSeq = s.nextSeq := (rfl)
@[simp] theorem draws_setBit (s : State) (k b : Nat) : (s.setBit k b).draws = s.draws := (rfl)
@[simp] theorem portA_setBit (s : State) (k b : Nat) : (s.setBit k b).portA = s.portA := (rfl)
@[simp] theorem portB_setBit (s : State) (k b : Nat) : (s.setBit k b).portB = s.portB := (rfl)
@[simp] theorem staging_setBit (s : State) (k b : Nat) : (s.setBit k b).staging = s.staging := (rfl)
@[simp] theorem stallSince_setBit (s : State) (k b : Nat) : (s.setBit k b).stallSince = s.stallSince := (rfl)
@[simp] theorem stallReported_setBit (s : State) (k b : Nat) : (s.setBit k b).stallReported = s.stallReported := (rfl)
@[simp] theorem l1_setBit (s : State) (k b : Nat) : (s.setBit k b).l1 = s.l1 := (rfl)
@[simp] theorem l2_setBit (s : State) (k b : Nat) : (s.setBit k b).l2 = s.l2 := (rfl)
@[simp] theorem lfsr1_setBit (s : State) (k b : Nat) : (s.setBit k b).lfsr1 = s.lfsr1 := (rfl)
@[simp] theorem lfsr2_setBit (s : State) (k b : Nat) : (s.setBit k b).lfsr2 = s.lfsr2 := (rfl)
@[simp] theorem reads_setBit (s : State) (k b : Nat) : (s.setBit k b).reads = s.reads := (rfl)
@[simp] theorem nextRead_setBit (s : State) (k b : Nat) : (s.setBit k b).nextRead = s.nextRead := (rfl)
@[simp] theorem retries_setBit (s : State) (k b : Nat) : (s.setBit k b).retries = s.retries := (rfl)
@[simp] theorem groups_setBit (s : State) (k b : Nat) : (s.setBit k b).groups = s.groups := (rfl)
@[simp] theorem cells_setBit (s : State) (k b : Nat) : (s.setBit k b).cells = s.cells := (rfl)
@[simp] theorem reservedA_setBit (s : State) (k b : Nat) : (s.setBit k b).reservedA = s.reservedA := (rfl)
@[simp] theorem reservedB_setBit (s : State) (k b : Nat) : (s.setBit k b).reservedB = s.reservedB := (rfl)
@[simp] theorem resultsA_setBit (s : State) (k b : Nat) : (s.setBit k b).resultsA = s.resultsA := (rfl)
@[simp] theorem resultsB_setBit (s : State) (k b : Nat) : (s.setBit k b).resultsB = s.resultsB := (rfl)
@[simp] theorem resultBase_setBit (s : State) (k b : Nat) : (s.setBit k b).resultBase = s.resultBase := (rfl)
@[simp] theorem xlat_setBit (s : State) (k b : Nat) : (s.setBit k b).xlat = s.xlat := (rfl)
@[simp] theorem med_setBit (s : State) (k b : Nat) : (s.setBit k b).med = s.med := (rfl)
@[simp] theorem integ_setBit (s : State) (k b : Nat) : (s.setBit k b).integ = s.integ := (rfl)
@[simp] theorem stored_setBit (s : State) (k b : Nat) : (s.setBit k b).stored = s.stored := (rfl)
@[simp] theorem pow_setBit (s : State) (k b : Nat) : (s.setBit k b).pow = s.pow := (rfl)
@[simp] theorem modes_setBit (s : State) (k b : Nat) : (s.setBit k b).modes = s.modes := (rfl)
@[simp] theorem therm_setBit (s : State) (k b : Nat) : (s.setBit k b).therm = s.therm := (rfl)
@[simp] theorem mgmt_setBit (s : State) (k b : Nat) : (s.setBit k b).mgmt = s.mgmt := (rfl)
@[simp] theorem recd_setBit (s : State) (k b : Nat) : (s.setBit k b).recd = s.recd := (rfl)
@[simp] theorem obs_setBit (s : State) (k b : Nat) : (s.setBit k b).obs = s.obs := (rfl)
@[simp] theorem out_setBit (s : State) (k b : Nat) : (s.setBit k b).out = s.out := (rfl)

/-! ### `clearBit` -/

@[simp] theorem pending_clearBit (s : State) (k b : Nat) : (s.clearBit k b).pending = s.pending := (rfl)
@[simp] theorem octs_clearBit (s : State) (k b : Nat) : (s.clearBit k b).octs = s.octs := (rfl)
@[simp] theorem clock_clearBit (s : State) (k b : Nat) : (s.clearBit k b).clock = s.clock := (rfl)
@[simp] theorem service_clearBit (s : State) (k b : Nat) : (s.clearBit k b).service = s.service := (rfl)
@[simp] theorem deviceTime_clearBit (s : State) (k b : Nat) : (s.clearBit k b).deviceTime = s.deviceTime := (rfl)
@[simp] theorem nextStamp_clearBit (s : State) (k b : Nat) : (s.clearBit k b).nextStamp = s.nextStamp := (rfl)
@[simp] theorem restoreStamp_clearBit (s : State) (k b : Nat) : (s.clearBit k b).restoreStamp = s.restoreStamp := (rfl)
@[simp] theorem nextSeq_clearBit (s : State) (k b : Nat) : (s.clearBit k b).nextSeq = s.nextSeq := (rfl)
@[simp] theorem draws_clearBit (s : State) (k b : Nat) : (s.clearBit k b).draws = s.draws := (rfl)
@[simp] theorem portA_clearBit (s : State) (k b : Nat) : (s.clearBit k b).portA = s.portA := (rfl)
@[simp] theorem portB_clearBit (s : State) (k b : Nat) : (s.clearBit k b).portB = s.portB := (rfl)
@[simp] theorem staging_clearBit (s : State) (k b : Nat) : (s.clearBit k b).staging = s.staging := (rfl)
@[simp] theorem stallSince_clearBit (s : State) (k b : Nat) : (s.clearBit k b).stallSince = s.stallSince := (rfl)
@[simp] theorem stallReported_clearBit (s : State) (k b : Nat) : (s.clearBit k b).stallReported = s.stallReported := (rfl)
@[simp] theorem l1_clearBit (s : State) (k b : Nat) : (s.clearBit k b).l1 = s.l1 := (rfl)
@[simp] theorem l2_clearBit (s : State) (k b : Nat) : (s.clearBit k b).l2 = s.l2 := (rfl)
@[simp] theorem lfsr1_clearBit (s : State) (k b : Nat) : (s.clearBit k b).lfsr1 = s.lfsr1 := (rfl)
@[simp] theorem lfsr2_clearBit (s : State) (k b : Nat) : (s.clearBit k b).lfsr2 = s.lfsr2 := (rfl)
@[simp] theorem reads_clearBit (s : State) (k b : Nat) : (s.clearBit k b).reads = s.reads := (rfl)
@[simp] theorem nextRead_clearBit (s : State) (k b : Nat) : (s.clearBit k b).nextRead = s.nextRead := (rfl)
@[simp] theorem retries_clearBit (s : State) (k b : Nat) : (s.clearBit k b).retries = s.retries := (rfl)
@[simp] theorem groups_clearBit (s : State) (k b : Nat) : (s.clearBit k b).groups = s.groups := (rfl)
@[simp] theorem cells_clearBit (s : State) (k b : Nat) : (s.clearBit k b).cells = s.cells := (rfl)
@[simp] theorem reservedA_clearBit (s : State) (k b : Nat) : (s.clearBit k b).reservedA = s.reservedA := (rfl)
@[simp] theorem reservedB_clearBit (s : State) (k b : Nat) : (s.clearBit k b).reservedB = s.reservedB := (rfl)
@[simp] theorem resultsA_clearBit (s : State) (k b : Nat) : (s.clearBit k b).resultsA = s.resultsA := (rfl)
@[simp] theorem resultsB_clearBit (s : State) (k b : Nat) : (s.clearBit k b).resultsB = s.resultsB := (rfl)
@[simp] theorem resultBase_clearBit (s : State) (k b : Nat) : (s.clearBit k b).resultBase = s.resultBase := (rfl)
@[simp] theorem xlat_clearBit (s : State) (k b : Nat) : (s.clearBit k b).xlat = s.xlat := (rfl)
@[simp] theorem med_clearBit (s : State) (k b : Nat) : (s.clearBit k b).med = s.med := (rfl)
@[simp] theorem integ_clearBit (s : State) (k b : Nat) : (s.clearBit k b).integ = s.integ := (rfl)
@[simp] theorem stored_clearBit (s : State) (k b : Nat) : (s.clearBit k b).stored = s.stored := (rfl)
@[simp] theorem pow_clearBit (s : State) (k b : Nat) : (s.clearBit k b).pow = s.pow := (rfl)
@[simp] theorem modes_clearBit (s : State) (k b : Nat) : (s.clearBit k b).modes = s.modes := (rfl)
@[simp] theorem therm_clearBit (s : State) (k b : Nat) : (s.clearBit k b).therm = s.therm := (rfl)
@[simp] theorem mgmt_clearBit (s : State) (k b : Nat) : (s.clearBit k b).mgmt = s.mgmt := (rfl)
@[simp] theorem recd_clearBit (s : State) (k b : Nat) : (s.clearBit k b).recd = s.recd := (rfl)
@[simp] theorem obs_clearBit (s : State) (k b : Nat) : (s.clearBit k b).obs = s.obs := (rfl)
@[simp] theorem out_clearBit (s : State) (k b : Nat) : (s.clearBit k b).out = s.out := (rfl)

/-! ### `putInt` -/

@[simp] theorem pending_putInt (s : State) (n k : Nat) (v : Int) : (s.putInt n k v).pending = s.pending := (rfl)
@[simp] theorem octs_putInt (s : State) (n k : Nat) (v : Int) : (s.putInt n k v).octs = s.octs := (rfl)
@[simp] theorem clock_putInt (s : State) (n k : Nat) (v : Int) : (s.putInt n k v).clock = s.clock := (rfl)
@[simp] theorem service_putInt (s : State) (n k : Nat) (v : Int) : (s.putInt n k v).service = s.service := (rfl)
@[simp] theorem deviceTime_putInt (s : State) (n k : Nat) (v : Int) : (s.putInt n k v).deviceTime = s.deviceTime := (rfl)
@[simp] theorem nextStamp_putInt (s : State) (n k : Nat) (v : Int) : (s.putInt n k v).nextStamp = s.nextStamp := (rfl)
@[simp] theorem restoreStamp_putInt (s : State) (n k : Nat) (v : Int) : (s.putInt n k v).restoreStamp = s.restoreStamp := (rfl)
@[simp] theorem nextSeq_putInt (s : State) (n k : Nat) (v : Int) : (s.putInt n k v).nextSeq = s.nextSeq := (rfl)
@[simp] theorem draws_putInt (s : State) (n k : Nat) (v : Int) : (s.putInt n k v).draws = s.draws := (rfl)
@[simp] theorem portA_putInt (s : State) (n k : Nat) (v : Int) : (s.putInt n k v).portA = s.portA := (rfl)
@[simp] theorem portB_putInt (s : State) (n k : Nat) (v : Int) : (s.putInt n k v).portB = s.portB := (rfl)
@[simp] theorem staging_putInt (s : State) (n k : Nat) (v : Int) : (s.putInt n k v).staging = s.staging := (rfl)
@[simp] theorem stallSince_putInt (s : State) (n k : Nat) (v : Int) : (s.putInt n k v).stallSince = s.stallSince := (rfl)
@[simp] theorem stallReported_putInt (s : State) (n k : Nat) (v : Int) : (s.putInt n k v).stallReported = s.stallReported := (rfl)
@[simp] theorem l1_putInt (s : State) (n k : Nat) (v : Int) : (s.putInt n k v).l1 = s.l1 := (rfl)
@[simp] theorem l2_putInt (s : State) (n k : Nat) (v : Int) : (s.putInt n k v).l2 = s.l2 := (rfl)
@[simp] theorem lfsr1_putInt (s : State) (n k : Nat) (v : Int) : (s.putInt n k v).lfsr1 = s.lfsr1 := (rfl)
@[simp] theorem lfsr2_putInt (s : State) (n k : Nat) (v : Int) : (s.putInt n k v).lfsr2 = s.lfsr2 := (rfl)
@[simp] theorem reads_putInt (s : State) (n k : Nat) (v : Int) : (s.putInt n k v).reads = s.reads := (rfl)
@[simp] theorem nextRead_putInt (s : State) (n k : Nat) (v : Int) : (s.putInt n k v).nextRead = s.nextRead := (rfl)
@[simp] theorem retries_putInt (s : State) (n k : Nat) (v : Int) : (s.putInt n k v).retries = s.retries := (rfl)
@[simp] theorem groups_putInt (s : State) (n k : Nat) (v : Int) : (s.putInt n k v).groups = s.groups := (rfl)
@[simp] theorem cells_putInt (s : State) (n k : Nat) (v : Int) : (s.putInt n k v).cells = s.cells := (rfl)
@[simp] theorem reservedA_putInt (s : State) (n k : Nat) (v : Int) : (s.putInt n k v).reservedA = s.reservedA := (rfl)
@[simp] theorem reservedB_putInt (s : State) (n k : Nat) (v : Int) : (s.putInt n k v).reservedB = s.reservedB := (rfl)
@[simp] theorem resultsA_putInt (s : State) (n k : Nat) (v : Int) : (s.putInt n k v).resultsA = s.resultsA := (rfl)
@[simp] theorem resultsB_putInt (s : State) (n k : Nat) (v : Int) : (s.putInt n k v).resultsB = s.resultsB := (rfl)
@[simp] theorem resultBase_putInt (s : State) (n k : Nat) (v : Int) : (s.putInt n k v).resultBase = s.resultBase := (rfl)
@[simp] theorem xlat_putInt (s : State) (n k : Nat) (v : Int) : (s.putInt n k v).xlat = s.xlat := (rfl)
@[simp] theorem med_putInt (s : State) (n k : Nat) (v : Int) : (s.putInt n k v).med = s.med := (rfl)
@[simp] theorem integ_putInt (s : State) (n k : Nat) (v : Int) : (s.putInt n k v).integ = s.integ := (rfl)
@[simp] theorem stored_putInt (s : State) (n k : Nat) (v : Int) : (s.putInt n k v).stored = s.stored := (rfl)
@[simp] theorem pow_putInt (s : State) (n k : Nat) (v : Int) : (s.putInt n k v).pow = s.pow := (rfl)
@[simp] theorem modes_putInt (s : State) (n k : Nat) (v : Int) : (s.putInt n k v).modes = s.modes := (rfl)
@[simp] theorem therm_putInt (s : State) (n k : Nat) (v : Int) : (s.putInt n k v).therm = s.therm := (rfl)
@[simp] theorem mgmt_putInt (s : State) (n k : Nat) (v : Int) : (s.putInt n k v).mgmt = s.mgmt := (rfl)
@[simp] theorem recd_putInt (s : State) (n k : Nat) (v : Int) : (s.putInt n k v).recd = s.recd := (rfl)
@[simp] theorem obs_putInt (s : State) (n k : Nat) (v : Int) : (s.putInt n k v).obs = s.obs := (rfl)
@[simp] theorem out_putInt (s : State) (n k : Nat) (v : Int) : (s.putInt n k v).out = s.out := (rfl)

/-! ### `emit` -/

@[simp] theorem pending_emit (o : Out) (s : State) : (emit o s).pending = s.pending := (rfl)
@[simp] theorem dict_emit (o : Out) (s : State) : (emit o s).dict = s.dict := (rfl)
@[simp] theorem octs_emit (o : Out) (s : State) : (emit o s).octs = s.octs := (rfl)
@[simp] theorem clock_emit (o : Out) (s : State) : (emit o s).clock = s.clock := (rfl)
@[simp] theorem service_emit (o : Out) (s : State) : (emit o s).service = s.service := (rfl)
@[simp] theorem deviceTime_emit (o : Out) (s : State) : (emit o s).deviceTime = s.deviceTime := (rfl)
@[simp] theorem nextStamp_emit (o : Out) (s : State) : (emit o s).nextStamp = s.nextStamp := (rfl)
@[simp] theorem restoreStamp_emit (o : Out) (s : State) : (emit o s).restoreStamp = s.restoreStamp := (rfl)
@[simp] theorem nextSeq_emit (o : Out) (s : State) : (emit o s).nextSeq = s.nextSeq := (rfl)
@[simp] theorem draws_emit (o : Out) (s : State) : (emit o s).draws = s.draws := (rfl)
@[simp] theorem portA_emit (o : Out) (s : State) : (emit o s).portA = s.portA := (rfl)
@[simp] theorem portB_emit (o : Out) (s : State) : (emit o s).portB = s.portB := (rfl)
@[simp] theorem staging_emit (o : Out) (s : State) : (emit o s).staging = s.staging := (rfl)
@[simp] theorem stallSince_emit (o : Out) (s : State) : (emit o s).stallSince = s.stallSince := (rfl)
@[simp] theorem stallReported_emit (o : Out) (s : State) : (emit o s).stallReported = s.stallReported := (rfl)
@[simp] theorem l1_emit (o : Out) (s : State) : (emit o s).l1 = s.l1 := (rfl)
@[simp] theorem l2_emit (o : Out) (s : State) : (emit o s).l2 = s.l2 := (rfl)
@[simp] theorem lfsr1_emit (o : Out) (s : State) : (emit o s).lfsr1 = s.lfsr1 := (rfl)
@[simp] theorem lfsr2_emit (o : Out) (s : State) : (emit o s).lfsr2 = s.lfsr2 := (rfl)
@[simp] theorem reads_emit (o : Out) (s : State) : (emit o s).reads = s.reads := (rfl)
@[simp] theorem nextRead_emit (o : Out) (s : State) : (emit o s).nextRead = s.nextRead := (rfl)
@[simp] theorem retries_emit (o : Out) (s : State) : (emit o s).retries = s.retries := (rfl)
@[simp] theorem groups_emit (o : Out) (s : State) : (emit o s).groups = s.groups := (rfl)
@[simp] theorem cells_emit (o : Out) (s : State) : (emit o s).cells = s.cells := (rfl)
@[simp] theorem reservedA_emit (o : Out) (s : State) : (emit o s).reservedA = s.reservedA := (rfl)
@[simp] theorem reservedB_emit (o : Out) (s : State) : (emit o s).reservedB = s.reservedB := (rfl)
@[simp] theorem resultsA_emit (o : Out) (s : State) : (emit o s).resultsA = s.resultsA := (rfl)
@[simp] theorem resultsB_emit (o : Out) (s : State) : (emit o s).resultsB = s.resultsB := (rfl)
@[simp] theorem resultBase_emit (o : Out) (s : State) : (emit o s).resultBase = s.resultBase := (rfl)
@[simp] theorem xlat_emit (o : Out) (s : State) : (emit o s).xlat = s.xlat := (rfl)
@[simp] theorem med_emit (o : Out) (s : State) : (emit o s).med = s.med := (rfl)
@[simp] theorem integ_emit (o : Out) (s : State) : (emit o s).integ = s.integ := (rfl)
@[simp] theorem stored_emit (o : Out) (s : State) : (emit o s).stored = s.stored := (rfl)
@[simp] theorem pow_emit (o : Out) (s : State) : (emit o s).pow = s.pow := (rfl)
@[simp] theorem modes_emit (o : Out) (s : State) : (emit o s).modes = s.modes := (rfl)
@[simp] theorem therm_emit (o : Out) (s : State) : (emit o s).therm = s.therm := (rfl)
@[simp] theorem mgmt_emit (o : Out) (s : State) : (emit o s).mgmt = s.mgmt := (rfl)
@[simp] theorem recd_emit (o : Out) (s : State) : (emit o s).recd = s.recd := (rfl)
@[simp] theorem obs_emit (o : Out) (s : State) : (emit o s).obs = s.obs := (rfl)

/-! ### `drawn` -/

@[simp] theorem pending_drawn (s : State) : (drawn s).pending = s.pending := (rfl)
@[simp] theorem dict_drawn (s : State) : (drawn s).dict = s.dict := (rfl)
@[simp] theorem octs_drawn (s : State) : (drawn s).octs = s.octs := (rfl)
@[simp] theorem clock_drawn (s : State) : (drawn s).clock = s.clock := (rfl)
@[simp] theorem service_drawn (s : State) : (drawn s).service = s.service := (rfl)
@[simp] theorem deviceTime_drawn (s : State) : (drawn s).deviceTime = s.deviceTime := (rfl)
@[simp] theorem nextStamp_drawn (s : State) : (drawn s).nextStamp = s.nextStamp := (rfl)
@[simp] theorem restoreStamp_drawn (s : State) : (drawn s).restoreStamp = s.restoreStamp := (rfl)
@[simp] theorem nextSeq_drawn (s : State) : (drawn s).nextSeq = s.nextSeq := (rfl)
@[simp] theorem portA_drawn (s : State) : (drawn s).portA = s.portA := (rfl)
@[simp] theorem portB_drawn (s : State) : (drawn s).portB = s.portB := (rfl)
@[simp] theorem staging_drawn (s : State) : (drawn s).staging = s.staging := (rfl)
@[simp] theorem stallSince_drawn (s : State) : (drawn s).stallSince = s.stallSince := (rfl)
@[simp] theorem stallReported_drawn (s : State) : (drawn s).stallReported = s.stallReported := (rfl)
@[simp] theorem l1_drawn (s : State) : (drawn s).l1 = s.l1 := (rfl)
@[simp] theorem l2_drawn (s : State) : (drawn s).l2 = s.l2 := (rfl)
@[simp] theorem lfsr1_drawn (s : State) : (drawn s).lfsr1 = s.lfsr1 := (rfl)
@[simp] theorem lfsr2_drawn (s : State) : (drawn s).lfsr2 = s.lfsr2 := (rfl)
@[simp] theorem reads_drawn (s : State) : (drawn s).reads = s.reads := (rfl)
@[simp] theorem nextRead_drawn (s : State) : (drawn s).nextRead = s.nextRead := (rfl)
@[simp] theorem retries_drawn (s : State) : (drawn s).retries = s.retries := (rfl)
@[simp] theorem groups_drawn (s : State) : (drawn s).groups = s.groups := (rfl)
@[simp] theorem cells_drawn (s : State) : (drawn s).cells = s.cells := (rfl)
@[simp] theorem reservedA_drawn (s : State) : (drawn s).reservedA = s.reservedA := (rfl)
@[simp] theorem reservedB_drawn (s : State) : (drawn s).reservedB = s.reservedB := (rfl)
@[simp] theorem resultsA_drawn (s : State) : (drawn s).resultsA = s.resultsA := (rfl)
@[simp] theorem resultsB_drawn (s : State) : (drawn s).resultsB = s.resultsB := (rfl)
@[simp] theorem resultBase_drawn (s : State) : (drawn s).resultBase = s.resultBase := (rfl)
@[simp] theorem xlat_drawn (s : State) : (drawn s).xlat = s.xlat := (rfl)
@[simp] theorem med_drawn (s : State) : (drawn s).med = s.med := (rfl)
@[simp] theorem integ_drawn (s : State) : (drawn s).integ = s.integ := (rfl)
@[simp] theorem stored_drawn (s : State) : (drawn s).stored = s.stored := (rfl)
@[simp] theorem pow_drawn (s : State) : (drawn s).pow = s.pow := (rfl)
@[simp] theorem modes_drawn (s : State) : (drawn s).modes = s.modes := (rfl)
@[simp] theorem therm_drawn (s : State) : (drawn s).therm = s.therm := (rfl)
@[simp] theorem mgmt_drawn (s : State) : (drawn s).mgmt = s.mgmt := (rfl)
@[simp] theorem recd_drawn (s : State) : (drawn s).recd = s.recd := (rfl)
@[simp] theorem obs_drawn (s : State) : (drawn s).obs = s.obs := (rfl)
@[simp] theorem out_drawn (s : State) : (drawn s).out = s.out := (rfl)

/-! ### `takeSeq` -/

@[simp] theorem pending_takeSeq (s : State) : (takeSeq s).pending = s.pending := (rfl)
@[simp] theorem dict_takeSeq (s : State) : (takeSeq s).dict = s.dict := (rfl)
@[simp] theorem octs_takeSeq (s : State) : (takeSeq s).octs = s.octs := (rfl)
@[simp] theorem clock_takeSeq (s : State) : (takeSeq s).clock = s.clock := (rfl)
@[simp] theorem service_takeSeq (s : State) : (takeSeq s).service = s.service := (rfl)
@[simp] theorem deviceTime_takeSeq (s : State) : (takeSeq s).deviceTime = s.deviceTime := (rfl)
@[simp] theorem nextStamp_takeSeq (s : State) : (takeSeq s).nextStamp = s.nextStamp := (rfl)
@[simp] theorem restoreStamp_takeSeq (s : State) : (takeSeq s).restoreStamp = s.restoreStamp := (rfl)
@[simp] theorem draws_takeSeq (s : State) : (takeSeq s).draws = s.draws := (rfl)
@[simp] theorem portA_takeSeq (s : State) : (takeSeq s).portA = s.portA := (rfl)
@[simp] theorem portB_takeSeq (s : State) : (takeSeq s).portB = s.portB := (rfl)
@[simp] theorem staging_takeSeq (s : State) : (takeSeq s).staging = s.staging := (rfl)
@[simp] theorem stallSince_takeSeq (s : State) : (takeSeq s).stallSince = s.stallSince := (rfl)
@[simp] theorem stallReported_takeSeq (s : State) : (takeSeq s).stallReported = s.stallReported := (rfl)
@[simp] theorem l1_takeSeq (s : State) : (takeSeq s).l1 = s.l1 := (rfl)
@[simp] theorem l2_takeSeq (s : State) : (takeSeq s).l2 = s.l2 := (rfl)
@[simp] theorem lfsr1_takeSeq (s : State) : (takeSeq s).lfsr1 = s.lfsr1 := (rfl)
@[simp] theorem lfsr2_takeSeq (s : State) : (takeSeq s).lfsr2 = s.lfsr2 := (rfl)
@[simp] theorem reads_takeSeq (s : State) : (takeSeq s).reads = s.reads := (rfl)
@[simp] theorem nextRead_takeSeq (s : State) : (takeSeq s).nextRead = s.nextRead := (rfl)
@[simp] theorem retries_takeSeq (s : State) : (takeSeq s).retries = s.retries := (rfl)
@[simp] theorem groups_takeSeq (s : State) : (takeSeq s).groups = s.groups := (rfl)
@[simp] theorem cells_takeSeq (s : State) : (takeSeq s).cells = s.cells := (rfl)
@[simp] theorem reservedA_takeSeq (s : State) : (takeSeq s).reservedA = s.reservedA := (rfl)
@[simp] theorem reservedB_takeSeq (s : State) : (takeSeq s).reservedB = s.reservedB := (rfl)
@[simp] theorem resultsA_takeSeq (s : State) : (takeSeq s).resultsA = s.resultsA := (rfl)
@[simp] theorem resultsB_takeSeq (s : State) : (takeSeq s).resultsB = s.resultsB := (rfl)
@[simp] theorem resultBase_takeSeq (s : State) : (takeSeq s).resultBase = s.resultBase := (rfl)
@[simp] theorem xlat_takeSeq (s : State) : (takeSeq s).xlat = s.xlat := (rfl)
@[simp] theorem med_takeSeq (s : State) : (takeSeq s).med = s.med := (rfl)
@[simp] theorem integ_takeSeq (s : State) : (takeSeq s).integ = s.integ := (rfl)
@[simp] theorem stored_takeSeq (s : State) : (takeSeq s).stored = s.stored := (rfl)
@[simp] theorem pow_takeSeq (s : State) : (takeSeq s).pow = s.pow := (rfl)
@[simp] theorem modes_takeSeq (s : State) : (takeSeq s).modes = s.modes := (rfl)
@[simp] theorem therm_takeSeq (s : State) : (takeSeq s).therm = s.therm := (rfl)
@[simp] theorem mgmt_takeSeq (s : State) : (takeSeq s).mgmt = s.mgmt := (rfl)
@[simp] theorem recd_takeSeq (s : State) : (takeSeq s).recd = s.recd := (rfl)
@[simp] theorem obs_takeSeq (s : State) : (takeSeq s).obs = s.obs := (rfl)
@[simp] theorem out_takeSeq (s : State) : (takeSeq s).out = s.out := (rfl)

end Sys2Proof.Machine
end

