-- ==== Sys2Proof/Laws/Reports.lean ====
section
/-! SUPPORT. What reports touch: an occurrence of a source, a performance count, an MSI-X message. Everything else of the
state (`unreported`), and every register that is no register of reports, stays as it was; and no message sent is withdrawn. -/

namespace Sys2Proof.Machine

/-- The state without what reports write: the register file, the order stamp, event logs, held messages, notices, the recorder's
queues, wrap times, and what has been sent. -/
def unreported (s : State) : State :=
  { s with
    dict := [], nextStamp := 0, out := [], recd := {}
    portA := { s.portA with logs := [], heldMsi := [] }
    portB := { s.portB with logs := [], heldMsi := [] }
    mgmt := { s.mgmt with notices := [] }
    obs := { s.obs with wrapAt := [] } }

@[simp] theorem unreported_put (s : State) (k v : Nat) : unreported (s.put k v) = unreported s := by
  unfold unreported State.put; with_reducible rfl
@[simp] theorem unreported_addTo (s : State) (k n : Nat) : unreported (s.addTo k n) = unreported s := unreported_put _ _ _
@[simp] theorem unreported_bump (s : State) (k : Nat) : unreported (s.bump k) = unreported s := unreported_put _ _ _
@[simp] theorem unreported_emit (o : Out) (s : State) : unreported (emit o s) = unreported s := (rfl)
theorem unreported_stamp (s : State) (n : Nat) : unreported { s with nextStamp := n } = unreported s := (rfl)
theorem unreported_recd (s : State) (r : Recorder) : unreported { s with recd := r } = unreported s := (rfl)
theorem unreported_wraps (s : State) (w : Tbl Nat) : unreported { s with obs := { s.obs with wrapAt := w } } = unreported s := (rfl)
theorem unreported_notices (s : State) (l : List NoticeItem) :
    unreported { s with mgmt := { s.mgmt with notices := l } } = unreported s := (rfl)
theorem unreported_logs (s : State) (p : Port) (l : Tbl EventLog) :
    unreported (s.setPort p { s.port p with logs := l }) = unreported s := by cases p <;> rfl
theorem unreported_held (s : State) (p : Port) (f : List Nat → List Nat) :
    unreported (s.modPort p fun q => { q with heldMsi := f q.heldMsi }) = unreported s := by cases p <;> rfl

@[simp] theorem unreported_ite (c : Prop) [Decidable c] (a b : State) :
    unreported (if c then a else b) = if c then unreported a else unreported b := by split <;> rfl

@[simp] theorem unreported_takeStamp (s : State) : unreported (takeStamp s) = unreported s := by
  unfold takeStamp; simp only; rw [unreported_stamp]; split
  · exact unreported_put _ _ _
  · rfl

@[simp] theorem unreported_sendMsi (p : Port) (v : Nat) (s : State) : unreported (sendMsi p v s) = unreported s := by
  unfold sendMsi; split
  · rfl
  · split
    · rfl
    · exact unreported_held s p (· ++ [v])

@[simp] theorem unreported_postRecord (p : Port) (sev : Nat) (r : EventRecord) (s : State) :
    unreported (postRecord p sev r s) = unreported s := by
  unfold postRecord
  simp only
  split
  · exact unreported_logs _ _ _
  · split
    · rw [unreported_sendMsi]; exact unreported_logs _ _ _
    · exact unreported_logs _ _ _

@[simp] theorem unreported_placeNotice (src sev st : Nat) (l : List Snapshot) (s : State) :
    unreported (placeNotice src sev st l s) = unreported s := by
  unfold placeNotice; simp only [unreported_ite, unreported_bump, unreported_notices, unreported_put, ite_self]

@[simp] theorem unreported_recordOccurrence (r : RecorderRecord) (s : State) :
    unreported (recordOccurrence r s) = unreported s := by
  unfold recordOccurrence
  simp only [unreported_ite, unreported_bump, unreported_recd, ite_self]

@[simp] theorem unreported_latchMsi (src a b : Nat) (s : State) : unreported (latchMsi src a b s) = unreported s := by
  unfold latchMsi; simp

@[simp] theorem unreported_occurOnce (src : Nat) (s : State) : unreported (occurOnce src s) = unreported s := by
  unfold occurOnce; simp

@[simp] theorem unreported_foldl {α : Type} (f : State → α → State) (h : ∀ t a, unreported (f t a) = unreported t) (l : List α) (s : State) :
    unreported (l.foldl f s) = unreported s := by
  induction l generalizing s with
  | nil => rfl
  | cons a l ih => rw [List.foldl_cons, ih, h]

@[simp] theorem unreported_raiseDepth (n src : Nat) (s : State) : unreported (raiseDepth n src s) = unreported s := by
  induction n generalizing src s with
  | zero => simp [raiseDepth]
  | succ n ih => simp [raiseDepth, ih]

/-- An occurrence of a source changes nothing but what reports write. -/
@[simp] theorem unreported_raise (src : Nat) (s : State) : unreported (raise src s) = unreported s := unreported_raiseDepth 2 src s

@[simp] theorem unreported_raiseIf (c : Bool) (src : Nat) (s : State) : unreported (raiseIf c src s) = unreported s := by
  unfold raiseIf; simp

@[simp] theorem unreported_addToCounter (n k : Nat) (s : State) : unreported (addToCounter n k s) = unreported s := by
  unfold addToCounter
  simp only [unreported_ite, unreported_put, unreported_raise, unreported_wraps, ite_self]

@[simp] theorem unreported_count (code q n : Nat) (s : State) : unreported (count code q n s) = unreported s := by
  unfold count; simp

@[simp] theorem unreported_count1 (code q : Nat) (s : State) : unreported (count1 code q s) = unreported s := unreported_count code q 1 s

@[simp] theorem unreported_setRegionState (r v : Nat) (s : State) : unreported (setRegionState r v s) = unreported s := by
  unfold setRegionState; simp

/-! ### Registers that reports leave alone -/

@[simp] theorem get_ite (c : Prop) [Decidable c] (a b : State) (k : Nat) :
    (if c then a else b).get k = if c then a.get k else b.get k := by split <;> rfl
theorem get_stamp (s : State) (n k : Nat) : State.get { s with nextStamp := n } k = s.get k := (rfl)
theorem get_recd (s : State) (r : Recorder) (k : Nat) : State.get { s with recd := r } k = s.get k := (rfl)
theorem get_wraps (s : State) (o : Observe) (k : Nat) : State.get { s with obs := o } k = s.get k := (rfl)
theorem get_mgmt (s : State) (m : Management) (k : Nat) : State.get { s with mgmt := m } k = s.get k := (rfl)

theorem get_takeStamp {s : State} {k : Nat} (h : k ≠ 0x405003) : (takeStamp s).get k = s.get k := by
  unfold takeStamp
  simp only [get_stamp, get_ite, get_put_ne h, ite_self]

@[simp] theorem get_sendMsi (p : Port) (v : Nat) (s : State) (k : Nat) : (sendMsi p v s).get k = s.get k := by
  unfold sendMsi; split
  · rfl
  · split
    · rfl
    · cases p <;> rfl

@[simp] theorem get_postRecord (p : Port) (sev : Nat) (r : EventRecord) (s : State) (k : Nat) :
    (postRecord p sev r s).get k = s.get k := by
  unfold postRecord
  simp only
  split
  · simp
  · split <;> simp

theorem get_placeNotice {src sev st : Nat} {l : List Snapshot} {s : State} {k : Nat} (h1 : k ≠ 0x140203) (h2 : k ≠ 0x140204) :
    (placeNotice src sev st l s).get k = s.get k := by
  unfold placeNotice
  simp only [get_ite, get_bump_ne h2, get_mgmt, get_put_ne h1, ite_self]

theorem get_recordOccurrence {r : RecorderRecord} {s : State} {k : Nat} (h1 : k ≠ 0xA00103) (h2 : k ≠ 0xA00104) :
    (recordOccurrence r s).get k = s.get k := by
  unfold recordOccurrence
  simp only [get_ite, get_bump_ne h1, get_bump_ne h2, get_recd, ite_self]

theorem get_latchMsi (src a b : Nat) (s : State) (k : Nat) : (latchMsi src a b s).get k = s.get k := by
  unfold latchMsi
  simp only [get_ite, get_sendMsi, ite_self]

theorem get_occurOnce {src : Nat} {s : State} {k : Nat} (h : ¬reportKey k) : (occurOnce src s).get k = s.get k := by
  obtain ⟨h1, h2, h3, h4, h5, h6⟩ : k ≠ 0x405003 ∧ k ≠ 0x140203 ∧ k ≠ 0x140204 ∧ k ≠ 0xA00103 ∧ k ≠ 0xA00104 ∧ ¬0xE00000 ≤ k := by omega
  have hs (sub : Nat) : k ≠ sourceKey src sub := by unfold sourceKey; omega
  unfold occurOnce
  simp only [get_ite, get_recordOccurrence h4 h5, get_placeNotice h2 h3, get_latchMsi, get_postRecord, get_put_ne (hs _), get_bump_ne (hs _),
    get_takeStamp h1, ite_self]

theorem get_foldl {α : Type} {f : State → α → State} {k : Nat} (h : ∀ t a, (f t a).get k = t.get k) (l : List α) (s : State) :
    (l.foldl f s).get k = s.get k := by
  induction l generalizing s with
  | nil => rfl
  | cons a l ih => rw [List.foldl_cons, ih, h]

theorem get_foldl_mem {α : Type} {f : State → α → State} {k : Nat} {l : List α} (h : ∀ t a, a ∈ l → (f t a).get k = t.get k) {s : State} :
    (l.foldl f s).get k = s.get k := by
  induction l generalizing s with
  | nil => rfl
  | cons a l ih => rw [List.foldl_cons, ih fun t b hb => h t b (List.mem_cons_of_mem _ hb), h _ _ List.mem_cons_self]

theorem countersFor_lt {s : State} {code q n : Nat} (h : n ∈ s.countersFor code q) : n < 512 := by
  unfold State.countersFor at h
  simp only [List.mem_filter, Bool.and_eq_true, decide_eq_true_eq] at h
  exact h.2.1

theorem get_raiseDepth {n src : Nat} {s : State} {k : Nat} (h : ¬reportKey k) : (raiseDepth n src s).get k = s.get k := by
  induction n generalizing src s with
  | zero => exact get_occurOnce h
  | succ n ih => rw [raiseDepth, get_foldl fun t a => ih, get_occurOnce h]

/-- An occurrence leaves every register alone that reports do not write. -/
theorem get_raise {src : Nat} {s : State} {k : Nat} (h : ¬reportKey k) : (raise src s).get k = s.get k := get_raiseDepth h

theorem get_raiseIf {c : Bool} {src : Nat} {s : State} {k : Nat} (h : ¬reportKey k) : (raiseIf c src s).get k = s.get k := by
  unfold raiseIf; split
  · exact get_raise h
  · rfl

theorem get_addToCounter {n m : Nat} {s : State} {k : Nat} (hc : n < 512) (h : ¬reportKey k) : (addToCounter n m s).get k = s.get k := by
  have hn : k ≠ counterKey n := by unfold counterKey; omega
  unfold addToCounter
  simp only [get_ite, get_raise h, get_wraps, get_put_ne hn, ite_self]

theorem get_count {code q n : Nat} {s : State} {k : Nat} (h : ¬reportKey k) : (count code q n s).get k = s.get k := by
  unfold count; split
  · exact get_foldl_mem (fun t a ha => get_addToCounter (countersFor_lt ha) h)
  · rfl

theorem get_count1 {code q : Nat} {s : State} {k : Nat} (h : ¬reportKey k) : (count1 code q s).get k = s.get k := get_count h

/-! ### The registers of the regions -/

/-- The registers of the region table, as a list. -/
def regionRegs (s : State) : Tbl Nat := trange 0x410000 0x4000 s.dict

theorem enabledRegions_of_regs {s t : State} (h : regionRegs t = regionRegs s) : t.enabledRegions = s.enabledRegions := by
  have e (x : State) : trange 0x410100 0x3F00 x.dict = trange 0x410100 0x3F00 (regionRegs x) := by
    unfold regionRegs trange
    rw [List.filter_filter]
    refine List.filter_congr fun a _ => ?_
    by_cases h1 : 0x410100 ≤ a.1 <;> by_cases h2 : a.1 < 0x410100 + 0x3F00 <;> simp [h1, h2] <;> omega
  unfold State.enabledRegions
  rw [e t, e s, h]

theorem regionRegs_put {s : State} {k : Nat} (h : k < 0x410000 ∨ 0x414000 ≤ k) (v : Nat) : regionRegs (s.put k v) = regionRegs s :=
  trange_tset h _ _ _
theorem regionRegs_bump {s : State} {k : Nat} (h : k < 0x410000 ∨ 0x414000 ≤ k) : regionRegs (s.bump k) = regionRegs s := regionRegs_put h _
theorem regionRegs_addTo {s : State} {k : Nat} (h : k < 0x410000 ∨ 0x414000 ≤ k) (n : Nat) : regionRegs (s.addTo k n) = regionRegs s :=
  regionRegs_put h _
theorem regionRegs_congr {s t : State} (h : t.dict = s.dict) : regionRegs t = regionRegs s := by unfold regionRegs; rw [h]
@[simp] theorem regionRegs_ite (c : Prop) [Decidable c] (a b : State) :
    regionRegs (if c then a else b) = if c then regionRegs a else regionRegs b := by split <;> rfl
theorem regionRegs_foldl {α : Type} {f : State → α → State} (h : ∀ t a, regionRegs (f t a) = regionRegs t) (l : List α) (s : State) :
    regionRegs (l.foldl f s) = regionRegs s := by
  induction l generalizing s with
  | nil => rfl
  | cons a l ih => rw [List.foldl_cons, ih, h]

theorem regionRegs_stamp (s : State) (n : Nat) : regionRegs { s with nextStamp := n } = regionRegs s := (rfl)
@[simp] theorem regionRegs_takeStamp (s : State) : regionRegs (takeStamp s) = regionRegs s := by
  unfold takeStamp
  simp only [regionRegs_stamp, regionRegs_ite, regionRegs_put (k := 0x405003) (by omega), ite_self]

@[simp] theorem regionRegs_sendMsi (p : Port) (v : Nat) (s : State) : regionRegs (sendMsi p v s) = regionRegs s :=
  regionRegs_congr (by
    unfold sendMsi
    split
    · rfl
    · split
      · rfl
      · exact dict_modPort _ _ _)

@[simp] theorem regionRegs_postRecord (p : Port) (sev : Nat) (r : EventRecord) (s : State) :
    regionRegs (postRecord p sev r s) = regionRegs s := by
  have h (v : PortState) : regionRegs (s.setPort p v) = regionRegs s := regionRegs_congr (dict_setPort _ _ _)
  unfold postRecord
  simp only [regionRegs_ite, regionRegs_sendMsi, h, ite_self]

@[simp] theorem regionRegs_placeNotice (src sev st : Nat) (l : List Snapshot) (s : State) :
    regionRegs (placeNotice src sev st l s) = regionRegs s := by
  have m (x : State) (m : Management) : regionRegs { x with mgmt := m } = regionRegs x := regionRegs_congr rfl
  unfold placeNotice
  simp only [regionRegs_ite, regionRegs_bump (k := 0x140204) (by omega), m, regionRegs_put (k := 0x140203) (by omega), ite_self]

@[simp] theorem regionRegs_recordOccurrence (r : RecorderRecord) (s : State) : regionRegs (recordOccurrence r s) = regionRegs s := by
  have m (x : State) (m : Recorder) : regionRegs { x with recd := m } = regionRegs x := regionRegs_congr rfl
  unfold recordOccurrence
  simp only [regionRegs_ite, regionRegs_bump (k := 0xA00104) (by omega), regionRegs_bump (k := 0xA00103) (by omega), m, ite_self]

@[simp] theorem regionRegs_latchMsi (src a b : Nat) (s : State) : regionRegs (latchMsi src a b s) = regionRegs s := by
  unfold latchMsi
  simp only [regionRegs_ite, regionRegs_sendMsi, ite_self]

@[simp] theorem regionRegs_occurOnce (src : Nat) (s : State) : regionRegs (occurOnce src s) = regionRegs s := by
  have hs (sub : Nat) : sourceKey src sub < 0x410000 ∨ 0x414000 ≤ sourceKey src sub := by unfold sourceKey; omega
  unfold occurOnce
  simp only [regionRegs_ite, regionRegs_recordOccurrence, regionRegs_placeNotice, regionRegs_latchMsi, regionRegs_postRecord,
    regionRegs_put (hs _), regionRegs_bump (hs _), regionRegs_takeStamp, ite_self]

@[simp] theorem regionRegs_raiseDepth (n src : Nat) (s : State) : regionRegs (raiseDepth n src s) = regionRegs s := by
  induction n generalizing src s with
  | zero => exact regionRegs_occurOnce _ _
  | succ n ih => rw [raiseDepth, regionRegs_foldl fun t a => ih a t, regionRegs_occurOnce]

@[simp] theorem regionRegs_raise (src : Nat) (s : State) : regionRegs (raise src s) = regionRegs s := regionRegs_raiseDepth 2 src s
@[simp] theorem regionRegs_raiseIf (c : Bool) (src : Nat) (s : State) : regionRegs (raiseIf c src s) = regionRegs s := by
  unfold raiseIf; split
  · exact regionRegs_raise _ _
  · rfl

@[simp] theorem regionRegs_addToCounter (n m : Nat) (s : State) : regionRegs (addToCounter n m s) = regionRegs s := by
  have hk : counterKey n < 0x410000 ∨ 0x414000 ≤ counterKey n := by unfold counterKey; omega
  have o (x : State) (m : Observe) : regionRegs { x with obs := m } = regionRegs x := regionRegs_congr rfl
  unfold addToCounter
  simp only [regionRegs_ite, regionRegs_raise, o, regionRegs_put hk, ite_self]

@[simp] theorem regionRegs_count (code q n : Nat) (s : State) : regionRegs (count code q n s) = regionRegs s := by
  unfold count; split
  · exact regionRegs_foldl (fun t a => regionRegs_addToCounter _ _ _) _ _
  · rfl
@[simp] theorem regionRegs_count1 (code q : Nat) (s : State) : regionRegs (count1 code q s) = regionRegs s := regionRegs_count code q 1 s

/-! ### Latches -/

theorem mode_raise (src : Nat) (s : State) : (raise src s).mode = s.mode := get_raise (by omega)
theorem mode_occurOnce (src : Nat) (s : State) : (occurOnce src s).mode = s.mode := get_occurOnce (by omega)
theorem canOccur_of_mode {s t : State} (h : t.mode = s.mode) (n : Nat) : t.canOccur n = s.canOccur n := by
  unfold State.canOccur; rw [h]

theorem sourceKey_ne {i j a b : Nat} (h : i ≠ j ∨ a ≠ b) (ha : a < 256) (hb : b < 256) : sourceKey i a ≠ sourceKey j b := by
  unfold sourceKey; omega

/-- An occurrence sets its latch and clears none. -/
theorem latch_occurOnce (src j : Nat) (s : State) :
    (occurOnce src s).get (sourceKey j 0x01) = if s.canOccur src = true ∧ j = src then 1 else s.get (sourceKey j 0x01) := by
  have h4 : sourceKey j 0x01 ≠ 0xA00103 := by unfold sourceKey; omega
  have h5 : sourceKey j 0x01 ≠ 0xA00104 := by unfold sourceKey; omega
  have h2 : sourceKey j 0x01 ≠ 0x140203 := by unfold sourceKey; omega
  have h3 : sourceKey j 0x01 ≠ 0x140204 := by unfold sourceKey; omega
  have h1 : sourceKey j 0x01 ≠ 0x405003 := by unfold sourceKey; omega
  have n (sub : Nat) (h : 1 < sub) (g : sub < 256) : sourceKey j 0x01 ≠ sourceKey src sub := sourceKey_ne (.inr (by omega)) (by omega) g
  unfold occurOnce
  by_cases hc : s.canOccur src = true
  · simp only [hc, Bool.not_true, Bool.false_eq_true, if_false, get_ite, get_recordOccurrence h4 h5, get_placeNotice h2 h3, get_latchMsi,
      get_postRecord, get_put_ne (n 0x13 (by omega) (by omega)), get_put_ne (n 0x12 (by omega) (by omega)),
      get_put_ne (n 0x11 (by omega) (by omega)), get_bump_ne (n 0x02 (by omega) (by omega)), get_takeStamp h1, ite_self, true_and]
    by_cases hj : j = src
    · subst hj; simp
    · rw [if_neg hj, get_put_ne (sourceKey_ne (.inl hj) (by omega) (by omega))]
      simp only [get_ite, get_put_ne (n 0x11 (by omega) (by omega)), get_takeStamp h1, ite_self]
  · simp [hc]

theorem latch_foldl {α : Type} {f : State → α → State} {j : Nat}
    (h : ∀ t a, t.get (sourceKey j 0x01) = 1 → (f t a).get (sourceKey j 0x01) = 1) (l : List α) {s : State}
    (hs : s.get (sourceKey j 0x01) = 1) : (l.foldl f s).get (sourceKey j 0x01) = 1 := by
  induction l generalizing s with
  | nil => exact hs
  | cons a l ih => rw [List.foldl_cons]; exact ih (h _ _ hs)

theorem latch_raiseDepth {n src j : Nat} {s : State} (hs : s.get (sourceKey j 0x01) = 1) :
    (raiseDepth n src s).get (sourceKey j 0x01) = 1 := by
  have h (src : Nat) {s : State} (hs : s.get (sourceKey j 0x01) = 1) : (occurOnce src s).get (sourceKey j 0x01) = 1 := by
    rw [latch_occurOnce]; split <;> simp [hs]
  induction n generalizing src s with
  | zero => exact h src hs
  | succ n ih => rw [raiseDepth]; exact latch_foldl (fun t a ht => ih ht) _ (h src hs)

/-- A latch that is set stays set when any source occurs. -/
theorem latch_raise {src j : Nat} {s : State} (hs : s.get (sourceKey j 0x01) = 1) : (raise src s).get (sourceKey j 0x01) = 1 :=
  latch_raiseDepth hs

theorem latch_raiseIf {c : Bool} {src j : Nat} {s : State} (hs : s.get (sourceKey j 0x01) = 1) :
    (raiseIf c src s).get (sourceKey j 0x01) = 1 := by
  unfold raiseIf; split
  · exact latch_raise hs
  · exact hs

/-- A source that can occur sets its latch. -/
theorem latch_self {src : Nat} {s : State} (h : s.canOccur src = true) : (raise src s).get (sourceKey src 0x01) = 1 := by
  have h1 : (occurOnce src s).get (sourceKey src 0x01) = 1 := by rw [latch_occurOnce]; simp [h]
  unfold raise
  rw [raiseDepth]
  exact latch_foldl (fun t a ht => latch_raiseDepth ht) _ h1

theorem latch_addToCounter {m k j : Nat} {s : State} (hm : m < 512) (hs : s.get (sourceKey j 0x01) = 1) :
    (addToCounter m k s).get (sourceKey j 0x01) = 1 := by
  have hk : sourceKey j 0x01 ≠ counterKey m := by unfold sourceKey counterKey; omega
  unfold addToCounter
  simp only [get_ite, get_put_ne hk]
  split
  · exact hs
  · split
    · exact latch_raise (by rw [get_wraps, get_put_ne hk]; exact hs)
    · exact hs

theorem latch_count {code q n j : Nat} {s : State} (hs : s.get (sourceKey j 0x01) = 1) : (count code q n s).get (sourceKey j 0x01) = 1 := by
  unfold count
  split
  · have g {l : List Nat} (hl : ∀ m ∈ l, m < 512) {s : State} (hs : s.get (sourceKey j 0x01) = 1) :
        (l.foldl (fun t m => addToCounter m n t) s).get (sourceKey j 0x01) = 1 := by
      induction l generalizing s with
      | nil => exact hs
      | cons a l ih =>
        rw [List.foldl_cons]
        exact ih (fun m hm => hl m (List.mem_cons_of_mem _ hm)) (latch_addToCounter (hl a List.mem_cons_self) hs)
    exact g (fun m hm => countersFor_lt hm) hs
  · exact hs

/-! ### Nothing sent is withdrawn -/

/-- `t` has sent everything that `s` has sent. -/
def sentFrom (s t : State) : Prop := s.out <+: t.out

theorem sentFrom_rfl (s : State) : sentFrom s s := List.prefix_rfl
theorem sentFrom_trans {s t u : State} (h : sentFrom s t) (g : sentFrom t u) : sentFrom s u := List.IsPrefix.trans h g
theorem sentFrom_of_eq {s t u : State} (h : sentFrom s t) (g : u.out = t.out) : sentFrom s u := by
  unfold sentFrom at *; rw [g]; exact h
theorem sentFrom_ite {s a b : State} {c : Prop} [Decidable c] (ha : sentFrom s a) (hb : sentFrom s b) :
    sentFrom s (if c then a else b) := by split <;> assumption
theorem sentFrom_mem {s t : State} {o : Out} (h : sentFrom s t) (ho : o ∈ s.out) : o ∈ t.out := h.subset ho

theorem sentFrom_foldl {α : Type} {f : State → α → State} (h : ∀ t a, sentFrom t (f t a)) (l : List α) (s : State) :
    sentFrom s (l.foldl f s) := by
  induction l generalizing s with
  | nil => exact sentFrom_rfl s
  | cons a l ih => rw [List.foldl_cons]; exact sentFrom_trans (h s a) (ih _)

theorem sentFrom_emit (o : Out) (s : State) : sentFrom s (emit o s) := List.prefix_append _ _

theorem out_ite (c : Prop) [Decidable c] (a b : State) : (if c then a else b).out = if c then a.out else b.out := by split <;> rfl

@[simp] theorem out_takeStamp (s : State) : (takeStamp s).out = s.out := by
  unfold takeStamp; simp only [out_ite, out_put, ite_self]

@[simp] theorem out_placeNotice (src sev st : Nat) (l : List Snapshot) (s : State) : (placeNotice src sev st l s).out = s.out := by
  unfold placeNotice; simp only [out_ite, out_put, out_bump, ite_self]

@[simp] theorem out_recordOccurrence (r : RecorderRecord) (s : State) : (recordOccurrence r s).out = s.out := by
  unfold recordOccurrence; simp only [out_ite, out_bump, ite_self]

theorem out_obs (s : State) (o : Observe) : State.out { s with obs := o } = s.out := (rfl)

theorem sentFrom_sendMsi (p : Port) (v : Nat) (s : State) : sentFrom s (sendMsi p v s) := by
  unfold sendMsi
  exact sentFrom_ite (sentFrom_rfl s) (sentFrom_ite (sentFrom_emit _ s) (sentFrom_of_eq (sentFrom_rfl s) (out_modPort _ _ _)))

theorem sentFrom_postRecord (p : Port) (sev : Nat) (r : EventRecord) (s : State) : sentFrom s (postRecord p sev r s) := by
  have h (v : PortState) : sentFrom s (s.setPort p v) := sentFrom_of_eq (sentFrom_rfl s) (out_setPort _ _ _)
  unfold postRecord
  exact sentFrom_ite (h _) (sentFrom_ite (sentFrom_trans (h _) (sentFrom_sendMsi _ _ _)) (h _))

theorem sentFrom_latchMsi (src a b : Nat) (s : State) : sentFrom s (latchMsi src a b s) := by
  have h (p : Port) (v : Nat) (c : Prop) [Decidable c] (x : State) : sentFrom x (if c then sendMsi p v x else x) :=
    sentFrom_ite (sentFrom_sendMsi _ _ _) (sentFrom_rfl x)
  unfold latchMsi
  exact sentFrom_trans (h .a _ _ s) (h .b _ _ _)

theorem sentFrom_occurOnce (src : Nat) (s : State) : sentFrom s (occurOnce src s) := by
  have post (p : Port) (v : Nat) (r : EventRecord) (c : Prop) [Decidable c] (x : State) :
      sentFrom x (if c then postRecord p v r x else x) := sentFrom_ite (sentFrom_postRecord _ _ _ _) (sentFrom_rfl x)
  have msi (a b d : Nat) (c : Prop) [Decidable c] (x : State) : sentFrom x (if c then latchMsi a b d x else x) :=
    sentFrom_ite (sentFrom_latchMsi _ _ _ _) (sentFrom_rfl x)
  have note (a b d : Nat) (l : List Snapshot) (c : Prop) [Decidable c] (x : State) :
      sentFrom x (if c then placeNotice a b d l x else x) :=
    sentFrom_ite (sentFrom_of_eq (sentFrom_rfl x) (out_placeNotice _ _ _ _ _)) (sentFrom_rfl x)
  have rec_ (r : State → RecorderRecord) (c : Prop) [Decidable c] (x : State) :
      sentFrom x (if c then recordOccurrence (r x) x else x) :=
    sentFrom_ite (sentFrom_of_eq (sentFrom_rfl x) (out_recordOccurrence _ _)) (sentFrom_rfl x)
  unfold occurOnce
  refine sentFrom_ite (sentFrom_rfl s) ?_
  refine sentFrom_trans ?_ (rec_ (fun x => x.recordFor src s.stampNow _ _) _ _)
  refine sentFrom_trans ?_ (note _ _ _ _ _ _)
  refine sentFrom_trans ?_ (msi _ _ _ _ _)
  refine sentFrom_trans ?_ (post _ _ _ _ _)
  refine sentFrom_trans ?_ (post _ _ _ _ _)
  refine sentFrom_of_eq (sentFrom_rfl s) ?_
  simp only [out_put, out_bump, out_ite, out_takeStamp, ite_self]

theorem sentFrom_raiseDepth (n src : Nat) (s : State) : sentFrom s (raiseDepth n src s) := by
  induction n generalizing src s with
  | zero => exact sentFrom_occurOnce src s
  | succ n ih => rw [raiseDepth]; exact sentFrom_trans (sentFrom_occurOnce src s) (sentFrom_foldl (fun t a => ih a t) _ _)

/-- An occurrence withdraws nothing that has been sent. -/
theorem sentFrom_raise (src : Nat) (s : State) : sentFrom s (raise src s) := sentFrom_raiseDepth 2 src s

theorem sentFrom_raiseIf (c : Bool) (src : Nat) (s : State) : sentFrom s (raiseIf c src s) := by
  unfold raiseIf; exact sentFrom_ite (sentFrom_raise _ _) (sentFrom_rfl s)

theorem sentFrom_addToCounter (n m : Nat) (s : State) : sentFrom s (addToCounter n m s) := by
  have h (k v : Nat) : sentFrom s (s.put k v) := sentFrom_rfl s
  unfold addToCounter
  refine sentFrom_ite (h _ _) (sentFrom_ite (sentFrom_trans ?_ (sentFrom_raise _ _)) (h _ _))
  exact sentFrom_of_eq (h _ _) (out_obs _ _)

theorem sentFrom_count (code q n : Nat) (s : State) : sentFrom s (count code q n s) := by
  unfold count
  exact sentFrom_ite (sentFrom_foldl (fun t a => sentFrom_addToCounter _ _ _) _ _) (sentFrom_rfl s)

end Sys2Proof.Machine
end

