-- ==== Sys2Proof/Laws/Evolves.lean ====
section
/-! SUPPORT. What every operation keeps, one lemma for each: the queue of commands and the two clocks stand, free values are drawn anew, no
message is withdrawn, and the register file and the cells keep their canonical form. -/

namespace Sys2Proof.Machine

set_option linter.unusedSimpArgs false
set_option linter.unusedTactic false
set_option linter.unreachableTactic false

/-- The fields that `Evolves` speaks of. -/
structure EvolvesTo (s : State) (pending : List Instr) (dict : Tbl Nat) (octs : Tbl (List Byte)) (clock service draws : Nat) (cells : Tbl Word)
    (groups : Tbl Group) (out : List Out) (changes : List ChangeRecord) (sessions : List Session) (received : List ReceivedFrame) (notices : List NoticeItem)
    (samples : List SampleRecord) (errors saved : List ErrorEntry) : Prop where
  pending : pending = s.pending
  clock : clock = s.clock
  service : service = s.service
  draws : s.draws ≤ draws
  regs : RegsOk s.dict s.octs → RegsOk dict octs
  cells : CellsOk s.cells → CellsOk cells
  groups : GroupsOk s.groups → GroupsOk groups
  sent : s.out <+: out
  changes : s.mgmt.changes.length ≤ 256 → changes.length ≤ 256
  sessions : s.mgmt.sessions.length ≤ 8 → sessions.length ≤ 8
  received : s.mgmt.received.length ≤ 32 → received.length ≤ 32
  notices : s.mgmt.notices.length ≤ 16 → notices.length ≤ 16
  samples : s.obs.samples.length ≤ 4096 → samples.length ≤ 4096
  errors : s.stored.errors.length ≤ 64 ∧ s.stored.savedErrors.length ≤ 64 → errors.length ≤ 64 ∧ saved.length ≤ 64

/-- What every operation keeps: the queue and the two clocks stand, no free value is drawn twice, no message is withdrawn, and the register
file, the cells and the groups keep their canonical form, and the bounded stores their bounds. -/
def Evolves (r₀ s : State) : Prop := EvolvesTo r₀ s.pending s.dict s.octs s.clock s.service s.draws s.cells s.groups s.out s.mgmt.changes s.mgmt.sessions s.mgmt.received s.mgmt.notices s.obs.samples s.stored.errors s.stored.savedErrors

theorem ev_refl (s : State) : Evolves s s := ⟨rfl, rfl, rfl, Nat.le_refl _, id, id, id, List.prefix_rfl, id, id, id, id, id, id⟩
theorem ev_mk (r₀ : State) : ∀ x0 x1 x2 x3 x4 x5 x6 x7 x8 x9 x10 x11 x12 x13 x14 x15 x16 x17 x18 x19 x20 x21 x22 x23 x24 x25 x26 x27 x28 x29 x30 x31 x32 x33 x34 x35 x36 x37 x38 x39, Evolves r₀ (State.mk x0 x1 x2 x3 x4 x5 x6 x7 x8 x9 x10 x11 x12 x13 x14 x15 x16 x17 x18 x19 x20 x21 x22 x23 x24 x25 x26 x27 x28 x29 x30 x31 x32 x33 x34 x35 x36 x37 x38 x39) = EvolvesTo r₀ x0 x1 x2 x3 x4 x9 x23 x22 x39 x36.changes x36.sessions x36.received x36.notices x38.samples x32.errors x32.savedErrors := by intros; rfl
theorem ev_fold (r₀ s : State) : EvolvesTo r₀ s.pending s.dict s.octs s.clock s.service s.draws s.cells s.groups s.out s.mgmt.changes s.mgmt.sessions s.mgmt.received s.mgmt.notices s.obs.samples s.stored.errors s.stored.savedErrors = Evolves r₀ s := (rfl)
theorem ev_ite (r₀ : State) (c : Prop) [Decidable c] (a b : State) :
    Evolves r₀ (if c then a else b) = if c then Evolves r₀ a else Evolves r₀ b := by split <;> rfl
theorem ev_cond {r₀ : State} {c : Prop} [Decidable c] {a b : State} (ha : Evolves r₀ a) (hb : Evolves r₀ b) : Evolves r₀ (if c then a else b) := by
  split <;> assumption
theorem ev_foldl {r₀ : State} {α : Type} {f : State → α → State} {s : State} (h : ∀ t a, Evolves r₀ t → Evolves r₀ (f t a)) (l : List α)
    (hs : Evolves r₀ s) : Evolves r₀ (l.foldl f s) := by
  induction l generalizing s with
  | nil => exact hs
  | cons a l ih => rw [List.foldl_cons]; exact ih (h _ _ hs)

theorem ev_mgmt {r₀ s : State} (m : Management) (hs : Evolves r₀ s)
    (h : (s.mgmt.changes.length ≤ 256 → m.changes.length ≤ 256) ∧ (s.mgmt.sessions.length ≤ 8 → m.sessions.length ≤ 8) ∧
      (s.mgmt.received.length ≤ 32 → m.received.length ≤ 32) ∧ (s.mgmt.notices.length ≤ 16 → m.notices.length ≤ 16)) :
    Evolves r₀ { s with mgmt := m } :=
  { hs with
    changes := fun x => h.1 (hs.changes x), sessions := fun x => h.2.1 (hs.sessions x), received := fun x => h.2.2.1 (hs.received x)
    notices := fun x => h.2.2.2 (hs.notices x) }
theorem ev_obs {r₀ s : State} (o : Observe) (hs : Evolves r₀ s) (h : s.obs.samples.length ≤ 4096 → o.samples.length ≤ 4096) :
    Evolves r₀ { s with obs := o } := { hs with samples := fun x => h (hs.samples x) }
theorem ev_stored {r₀ s : State} (d : StoredData) (hs : Evolves r₀ s) 
    (h : s.stored.errors.length ≤ 64 ∧ s.stored.savedErrors.length ≤ 64 → d.errors.length ≤ 64 ∧ d.savedErrors.length ≤ 64) :
    Evolves r₀ { s with stored := d } := { hs with errors := fun x => h (hs.errors x) }

theorem ev_put {r₀ : State} (k v : Nat) {s : State} (hs : Evolves r₀ s) : Evolves r₀ (s.put k v) :=
  { hs with regs := fun h => ⟨rising_tset _ _ _ (hs.regs h).1, mem_tset_ne_key defaultOf (hs.regs h).2.1, (hs.regs h).2.2⟩ }

theorem ev_putBytes {r₀ : State} (k : Nat) (v : List Byte) {s : State} (hs : Evolves r₀ s) : Evolves r₀ (s.putBytes k v) :=
  { hs with regs := fun h =>
      ⟨(hs.regs h).1, (hs.regs h).2.1, rising_tset _ _ _ (hs.regs h).2.2.1, mem_tset_ne_key defaultBytes (hs.regs h).2.2.2⟩ }

theorem ev_putInt (bits key : Nat) (v : Int) {r₀ s : State} (hs : Evolves r₀ s) : Evolves r₀ (State.putInt s bits key v) := by
  unfold State.putInt
  simp (maxDischargeDepth := 40) +contextual only [hs, ev_mk, ev_fold, ev_ite, ite_self, implies_true, ev_put]

theorem ev_addTo (key n : Nat) {r₀ s : State} (hs : Evolves r₀ s) : Evolves r₀ (State.addTo s key n) := by
  unfold State.addTo
  simp (maxDischargeDepth := 40) +contextual only [hs, ev_mk, ev_fold, ev_ite, ite_self, implies_true, ev_put]

theorem ev_bump (key : Nat) {r₀ s : State} (hs : Evolves r₀ s) : Evolves r₀ (State.bump s key) := by
  unfold State.bump
  simp (maxDischargeDepth := 40) +contextual only [hs, ev_mk, ev_fold, ev_ite, ite_self, implies_true, ev_addTo]

theorem ev_raiseTo (key v : Nat) {r₀ s : State} (hs : Evolves r₀ s) : Evolves r₀ (State.raiseTo s key v) := by
  unfold State.raiseTo
  simp (maxDischargeDepth := 40) +contextual only [hs, ev_mk, ev_fold, ev_ite, ite_self, implies_true, ev_put]

theorem ev_setBit (key b : Nat) {r₀ s : State} (hs : Evolves r₀ s) : Evolves r₀ (State.setBit s key b) := by
  unfold State.setBit
  simp (maxDischargeDepth := 40) +contextual only [hs, ev_mk, ev_fold, ev_ite, ite_self, implies_true, ev_put]

theorem ev_clearBit (key b : Nat) {r₀ s : State} (hs : Evolves r₀ s) : Evolves r₀ (State.clearBit s key b) := by
  unfold State.clearBit
  simp (maxDischargeDepth := 40) +contextual only [hs, ev_mk, ev_fold, ev_ite, ite_self, implies_true, ev_put]

theorem ev_setPort (p : Port) (v : PortState) {r₀ s : State} (hs : Evolves r₀ s) : Evolves r₀ (State.setPort s p v) := by
  unfold State.setPort
  (try simp (maxDischargeDepth := 40) +contextual only [hs, ev_mk, ev_fold, ev_ite, ite_self, implies_true])
  repeat' split
  all_goals first
    | (with_reducible exact hs)
    | (simp (maxDischargeDepth := 40) +contextual only [hs, ev_mk, ev_fold, ev_ite, ite_self, implies_true]; done)

theorem ev_modPort (p : Port) (f : PortState → PortState) {r₀ s : State} (hs : Evolves r₀ s) : Evolves r₀ (State.modPort s p f) := by
  unfold State.modPort
  simp (maxDischargeDepth := 40) +contextual only [hs, ev_mk, ev_fold, ev_ite, ite_self, implies_true, ev_setPort]

theorem ev_setGroup (g : Nat) (v : Group) {r₀ s : State} (hs : Evolves r₀ s) : Evolves r₀ (State.setGroup s g v) :=
  { hs with groups := fun h => ⟨rising_tset _ _ _ (hs.groups h).1, mem_tset_ne (hs.groups h).2⟩ }

theorem ev_setChannel (k : Nat) (c : DmaChannel) {r₀ s : State} (hs : Evolves r₀ s) : Evolves r₀ (State.setChannel s k c) := by
  unfold State.setChannel
  simp (maxDischargeDepth := 40) +contextual only [hs, ev_mk, ev_fold, ev_ite, ite_self, implies_true]

theorem ev_setUnit (u : Nat) (r : UnitRec) {r₀ s : State} (hs : Evolves r₀ s) : Evolves r₀ (State.setUnit s u r) := by
  unfold State.setUnit
  simp (maxDischargeDepth := 40) +contextual only [hs, ev_mk, ev_fold, ev_ite, ite_self, implies_true]

theorem ev_setStripe (n : Nat) (r : StripeRec) {r₀ s : State} (hs : Evolves r₀ s) : Evolves r₀ (State.setStripe s n r) := by
  unfold State.setStripe
  simp (maxDischargeDepth := 40) +contextual only [hs, ev_mk, ev_fold, ev_ite, ite_self, implies_true]

theorem ev_endOverruns {r₀ s : State} (hs : Evolves r₀ s) : Evolves r₀ (endOverruns s) := by
  unfold endOverruns
  simp (maxDischargeDepth := 40) +contextual only [hs, ev_mk, ev_fold, ev_ite, ite_self, implies_true]

theorem ev_rearmStall {r₀ s : State} (hs : Evolves r₀ s) : Evolves r₀ (rearmStall s) := by
  unfold rearmStall
  simp (maxDischargeDepth := 40) +contextual only [hs, ev_mk, ev_fold, ev_ite, ite_self, implies_true]

theorem ev_touchIntegrity (obj : IntegrityObject) {r₀ s : State} (hs : Evolves r₀ s) : Evolves r₀ (touchIntegrity obj s) := by
  unfold touchIntegrity
  simp (maxDischargeDepth := 40) +contextual only [hs, ev_mk, ev_fold, ev_ite, ite_self, implies_true]

theorem ev_touchBlock (page : Nat) {r₀ s : State} (hs : Evolves r₀ s) : Evolves r₀ (touchBlock page s) := by
  unfold touchBlock
  simp (maxDischargeDepth := 40) +contextual only [hs, ev_mk, ev_fold, ev_ite, ite_self, implies_true, ev_touchIntegrity, ev_foldl]

theorem ev_coverIntegrity (obj : IntegrityObject) {r₀ s : State} (hs : Evolves r₀ s) : Evolves r₀ (coverIntegrity obj s) := by
  unfold coverIntegrity
  simp (maxDischargeDepth := 40) +contextual only [hs, ev_mk, ev_fold, ev_ite, ite_self, implies_true]

theorem ev_cacheLine (obj : IntegrityObject) {r₀ s : State} (hs : Evolves r₀ s) : Evolves r₀ (cacheLine obj s) := by
  unfold cacheLine
  (try simp (maxDischargeDepth := 40) +contextual only [hs, ev_mk, ev_fold, ev_ite, ite_self, implies_true, ev_coverIntegrity, ev_foldl])
  repeat' split
  all_goals first
    | (with_reducible exact hs)
    | (simp (maxDischargeDepth := 40) +contextual only [hs, ev_mk, ev_fold, ev_ite, ite_self, implies_true, ev_coverIntegrity, ev_foldl]; done)

theorem ev_emit {r₀ : State} (o : Out) {s : State} (hs : Evolves r₀ s) : Evolves r₀ (emit o s) :=
  { hs with sent := hs.sent.trans (List.prefix_append _ _) }

theorem ev_drawn {r₀ : State} {s : State} (hs : Evolves r₀ s) : Evolves r₀ (drawn s) :=
  { hs with draws := Nat.le_succ_of_le hs.draws }

theorem ev_takeStamp {r₀ s : State} (hs : Evolves r₀ s) : Evolves r₀ (takeStamp s) := by
  unfold takeStamp
  simp (maxDischargeDepth := 40) +contextual only [hs, ev_mk, ev_fold, ev_ite, ite_self, implies_true, ev_put]

theorem ev_takeSeq {r₀ s : State} (hs : Evolves r₀ s) : Evolves r₀ (takeSeq s) := by
  unfold takeSeq
  simp (maxDischargeDepth := 40) +contextual only [hs, ev_mk, ev_fold, ev_ite, ite_self, implies_true]

theorem ev_sendMsi (p : Port) (vector : Nat) {r₀ s : State} (hs : Evolves r₀ s) : Evolves r₀ (sendMsi p vector s) := by
  unfold sendMsi
  simp (maxDischargeDepth := 40) +contextual only [hs, ev_mk, ev_fold, ev_ite, ite_self, implies_true, ev_emit, ev_modPort]

theorem ev_postRecord (p : Port) (severity : Nat) (r : EventRecord) {r₀ s : State} (hs : Evolves r₀ s) : Evolves r₀ (postRecord p severity r
        s) := by
  unfold postRecord
  simp (maxDischargeDepth := 40) +contextual only [hs, ev_mk, ev_fold, ev_ite, ite_self, implies_true, ev_sendMsi, ev_setPort]

theorem ev_placeNotice (src severity stamp : Nat) (snaps : List Snapshot) {r₀ s : State} (hs : Evolves r₀ s) :
    Evolves r₀ (placeNotice src severity stamp snaps s) := by
  have h := ev_put 0x140203 ((s.get 0x140203 + 1) % 2 ^ 32) hs
  unfold placeNotice
  simp only
  generalize s.put 0x140203 ((s.get 0x140203 + 1) % 2 ^ 32) = a at h ⊢
  generalize NoticeItem.mk _ _ _ _ _ _ = item
  split
  · exact ev_mgmt _ h ⟨id, id, id, fun _ => ‹_›⟩
  · exact ev_bump _ (ev_mgmt _ h ⟨id, id, id, fun hn => by simp only [List.length_drop, List.length_append, List.length_singleton]; omega⟩)

theorem ev_recordOccurrence (r : RecorderRecord) {r₀ s : State} (hs : Evolves r₀ s) : Evolves r₀ (recordOccurrence r s) := by
  unfold recordOccurrence
  simp (maxDischargeDepth := 40) +contextual only [hs, ev_mk, ev_fold, ev_ite, ite_self, implies_true, ev_bump]

theorem ev_latchMsi (src routing mask : Nat) {r₀ s : State} (hs : Evolves r₀ s) : Evolves r₀ (latchMsi src routing mask s) := by
  unfold latchMsi
  simp (maxDischargeDepth := 40) +contextual only [hs, ev_mk, ev_fold, ev_ite, ite_self, implies_true, ev_sendMsi]

theorem ev_occurOnce (src : Nat) {r₀ s : State} (hs : Evolves r₀ s) : Evolves r₀ (occurOnce src s) := by
  unfold occurOnce
  (try simp (maxDischargeDepth := 40) +contextual only [hs, ev_mk, ev_fold, ev_ite, ite_self, implies_true, ev_bump, ev_latchMsi,
        ev_placeNotice, ev_postRecord, ev_put, ev_recordOccurrence, ev_takeStamp])
  repeat' split
  all_goals first
    | (with_reducible exact hs)
    | (simp (maxDischargeDepth := 40) +contextual only [hs, ev_mk, ev_fold, ev_ite, ite_self, implies_true, ev_bump, ev_latchMsi, ev_placeNotice,
        ev_postRecord, ev_put, ev_recordOccurrence, ev_takeStamp]; done)

theorem ev_raiseDepth {r₀ : State} (n src : Nat) {s : State} (hs : Evolves r₀ s) : Evolves r₀ (raiseDepth n src s) := by
  induction n generalizing src s with
  | zero => exact ev_occurOnce _ hs
  | succ n ih => rw [raiseDepth]; exact ev_foldl (fun t a ht => ih a ht) _ (ev_occurOnce _ hs)

theorem ev_raise {r₀ : State} (src : Nat) {s : State} (hs : Evolves r₀ s) : Evolves r₀ (raise src s) := ev_raiseDepth 2 src hs

theorem ev_raiseIf (c : Bool) (src : Nat) {r₀ s : State} (hs : Evolves r₀ s) : Evolves r₀ (raiseIf c src s) := by
  unfold raiseIf
  simp (maxDischargeDepth := 40) +contextual only [hs, ev_mk, ev_fold, ev_ite, ite_self, implies_true, ev_raise]

theorem ev_addToCounter (n amount : Nat) {r₀ s : State} (hs : Evolves r₀ s) : Evolves r₀ (addToCounter n amount s) := by
  unfold addToCounter
  simp (maxDischargeDepth := 40) +contextual only [hs, ev_mk, ev_fold, ev_ite, ite_self, implies_true, ev_put, ev_raise]

theorem ev_count (code q amount : Nat) {r₀ s : State} (hs : Evolves r₀ s) : Evolves r₀ (count code q amount s) := by
  unfold count
  simp (maxDischargeDepth := 40) +contextual only [hs, ev_mk, ev_fold, ev_ite, ite_self, implies_true, ev_addToCounter, ev_foldl]

theorem ev_count1 (code q : Nat) {r₀ s : State} (hs : Evolves r₀ s) : Evolves r₀ (count1 code q s) := by
  unfold count1
  simp (maxDischargeDepth := 40) +contextual only [hs, ev_mk, ev_fold, ev_ite, ite_self, implies_true, ev_count]

theorem ev_beginEpisode (kind : Nat) {r₀ s : State} (hs : Evolves r₀ s) : Evolves r₀ (beginEpisode kind s) := by
  unfold beginEpisode
  (try simp (maxDischargeDepth := 40) +contextual only [hs, ev_mk, ev_fold, ev_ite, ite_self, implies_true, ev_put])
  repeat' split
  all_goals first
    | (with_reducible exact hs)
    | (simp (maxDischargeDepth := 40) +contextual only [hs, ev_mk, ev_fold, ev_ite, ite_self, implies_true, ev_put]; done)

theorem ev_endEpisode {r₀ s : State} (hs : Evolves r₀ s) : Evolves r₀ (endEpisode s) := by
  unfold endEpisode
  simp (maxDischargeDepth := 40) +contextual only [hs, ev_mk, ev_fold, ev_ite, ite_self, implies_true, ev_put]

theorem ev_judgeEpisode {r₀ s : State} (hs : Evolves r₀ s) : Evolves r₀ (judgeEpisode s) := by
  unfold judgeEpisode
  (try simp (maxDischargeDepth := 40) +contextual only [hs, ev_mk, ev_fold, ev_ite, ite_self, implies_true, ev_beginEpisode, ev_endEpisode])
  repeat' split
  all_goals first
    | (with_reducible exact hs)
    | (simp (maxDischargeDepth := 40) +contextual only [hs, ev_mk, ev_fold, ev_ite, ite_self, implies_true, ev_beginEpisode, ev_endEpisode]; done)

theorem ev_nameLines (src : Nat) (ranges : List (Nat × Nat)) {r₀ s : State} (hs : Evolves r₀ s) : Evolves r₀ (nameLines src ranges s) := by
  unfold nameLines
  simp (maxDischargeDepth := 40) +contextual only [hs, ev_mk, ev_fold, ev_ite, ite_self, implies_true]

theorem ev_setRegionState (r v : Nat) {r₀ s : State} (hs : Evolves r₀ s) : Evolves r₀ (setRegionState r v s) := by
  unfold setRegionState
  simp (maxDischargeDepth := 40) +contextual only [hs, ev_mk, ev_fold, ev_ite, ite_self, implies_true, ev_put, ev_raise]

theorem ev_setMode (m : Nat) {r₀ s : State} (hs : Evolves r₀ s) : Evolves r₀ (setMode m s) := by
  unfold setMode
  simp (maxDischargeDepth := 40) +contextual only [hs, ev_mk, ev_fold, ev_ite, ite_self, implies_true, ev_judgeEpisode, ev_put, ev_raise]

theorem ev_refusedByState {r₀ s : State} (hs : Evolves r₀ s) : Evolves r₀ (refusedByState s) := by
  unfold refusedByState
  simp (maxDischargeDepth := 40) +contextual only [hs, ev_mk, ev_fold, ev_ite, ite_self, implies_true, ev_bump]

theorem ev_pruneRanges (line : Nat) {r₀ s : State} (hs : Evolves r₀ s) : Evolves r₀ (pruneRanges line s) := by
  unfold pruneRanges
  simp (maxDischargeDepth := 40) +contextual only [hs, ev_mk, ev_fold, ev_ite, ite_self, implies_true]

theorem ev_dropCachedBlocks (first n : Nat) {r₀ s : State} (hs : Evolves r₀ s) : Evolves r₀ (dropCachedBlocks first n s) := by
  unfold dropCachedBlocks
  simp (maxDischargeDepth := 40) +contextual only [hs, ev_mk, ev_fold, ev_ite, ite_self, implies_true]

theorem ev_dropCachedRange (first n : Nat) {r₀ s : State} (hs : Evolves r₀ s) : Evolves r₀ (dropCachedRange first n s) := by
  unfold dropCachedRange
  simp (maxDischargeDepth := 40) +contextual only [hs, ev_mk, ev_fold, ev_ite, ite_self, implies_true, ev_foldl]

theorem ev_dropCached (line : Nat) {r₀ s : State} (hs : Evolves r₀ s) : Evolves r₀ (dropCached line s) := by
  unfold dropCached
  simp (maxDischargeDepth := 40) +contextual only [hs, ev_mk, ev_fold, ev_ite, ite_self, implies_true]

theorem ev_storeToCaches (wmode line : Nat) (d : Line) (poison : Bool) {r₀ s : State} (hs : Evolves r₀ s) : Evolves r₀ (storeToCaches wmode
        line d poison s) := by
  unfold storeToCaches
  simp (maxDischargeDepth := 40) +contextual only [hs, ev_mk, ev_fold, ev_ite, ite_self, implies_true, ev_dropCached]

theorem ev_installTwo (n : CacheBlock) {r₀ s : State} (hs : Evolves r₀ s) : Evolves r₀ (installTwo n s) := by
  unfold installTwo
  (try simp (maxDischargeDepth := 40) +contextual only [hs, ev_mk, ev_fold, ev_ite, ite_self, implies_true])
  repeat' split
  all_goals first
    | (with_reducible exact hs)
    | (simp (maxDischargeDepth := 40) +contextual only [hs, ev_mk, ev_fold, ev_ite, ite_self, implies_true]; done)

theorem ev_offerVictim (v : CacheBlock) {r₀ s : State} (hs : Evolves r₀ s) : Evolves r₀ (offerVictim v s) := by
  unfold offerVictim
  simp (maxDischargeDepth := 40) +contextual only [hs, ev_mk, ev_fold, ev_ite, ite_self, implies_true, ev_bump, ev_drawn, ev_installTwo]

theorem ev_installOne (n : CacheBlock) {r₀ s : State} (hs : Evolves r₀ s) : Evolves r₀ (installOne n s) := by
  unfold installOne
  (try simp (maxDischargeDepth := 40) +contextual only [hs, ev_mk, ev_fold, ev_ite, ite_self, implies_true, ev_offerVictim])
  repeat' split
  all_goals first
    | (with_reducible exact hs)
    | (simp (maxDischargeDepth := 40) +contextual only [hs, ev_mk, ev_fold, ev_ite, ite_self, implies_true, ev_offerVictim]; done)

theorem ev_installFill (attr : Nat) (n : CacheBlock) {r₀ s : State} (hs : Evolves r₀ s) : Evolves r₀ (installFill attr n s) := by
  unfold installFill
  simp (maxDischargeDepth := 40) +contextual only [hs, ev_mk, ev_fold, ev_ite, ite_self, implies_true, ev_installOne, ev_installTwo]

theorem ev_noteHealth {r₀ s : State} (hs : Evolves r₀ s) : Evolves r₀ (noteHealth s) := by
  unfold noteHealth
  simp (maxDischargeDepth := 40) +contextual only [hs, ev_mk, ev_fold, ev_ite, ite_self, implies_true, ev_raise]

theorem ev_appendRecord (k : JournalKind) {r₀ s : State} (hs : Evolves r₀ s) : Evolves r₀ (appendRecord k s) := by
  unfold appendRecord
  simp (maxDischargeDepth := 40) +contextual only [hs, ev_mk, ev_fold, ev_ite, ite_self, implies_true, ev_takeStamp]

theorem ev_restoreUnits {r₀ s : State} (hs : Evolves r₀ s) : Evolves r₀ (restoreUnits s) := by
  unfold restoreUnits
  simp (maxDischargeDepth := 40) +contextual only [hs, ev_mk, ev_fold, ev_ite, ite_self, implies_true, ev_setUnit, ev_foldl]

theorem ev_disturb (u n : Nat) {r₀ s : State} (hs : Evolves r₀ s) : Evolves r₀ (disturb u n s) := by
  unfold disturb
  simp (maxDischargeDepth := 40) +contextual only [hs, ev_mk, ev_fold, ev_ite, ite_self, implies_true, ev_setUnit]

theorem ev_addCycles (u n : Nat) {r₀ s : State} (hs : Evolves r₀ s) : Evolves r₀ (addCycles u n s) := by
  unfold addCycles
  simp (maxDischargeDepth := 40) +contextual only [hs, ev_mk, ev_fold, ev_ite, ite_self, implies_true, ev_setUnit]

theorem ev_wearOut (u : Nat) {r₀ s : State} (hs : Evolves r₀ s) : Evolves r₀ (wearOut u s) := by
  unfold wearOut
  simp (maxDischargeDepth := 40) +contextual only [hs, ev_mk, ev_fold, ev_ite, ite_self, implies_true, ev_appendRecord, ev_bump,
        ev_noteHealth, ev_raise, ev_setUnit]

theorem ev_sectorsProgrammed (u n page : Nat) {r₀ s : State} (hs : Evolves r₀ s) : Evolves r₀ (sectorsProgrammed u n page s) := by
  unfold sectorsProgrammed
  simp (maxDischargeDepth := 40) +contextual only [hs, ev_mk, ev_fold, ev_ite, ite_self, implies_true, ev_addCycles, ev_count, ev_disturb,
        ev_setUnit, ev_wearOut]

theorem ev_programsRun (kind : OpKind) (u n bytes : Nat) {r₀ s : State} (hs : Evolves r₀ s) : Evolves r₀ (programsRun kind u n bytes s) :=
        by
  unfold programsRun
  simp (maxDischargeDepth := 40) +contextual only [hs, ev_mk, ev_fold, ev_ite, ite_self, implies_true, ev_addTo, ev_count, ev_raiseTo]

theorem ev_ringSectorsOn (u n page : Nat) {r₀ s : State} (hs : Evolves r₀ s) : Evolves r₀ (ringSectorsOn u n page s) := by
  unfold ringSectorsOn
  simp (maxDischargeDepth := 40) +contextual only [hs, ev_mk, ev_fold, ev_ite, ite_self, implies_true, ev_programsRun, ev_sectorsProgrammed]

theorem ev_stripeSectors (r : Ring) (stripe row n : Nat) {r₀ s : State} (hs : Evolves r₀ s) : Evolves r₀ (stripeSectors r stripe row n s) :=
        by
  unfold stripeSectors
  simp (maxDischargeDepth := 40) +contextual only [hs, ev_mk, ev_fold, ev_ite, ite_self, implies_true, ev_ringSectorsOn, ev_foldl]

theorem ev_ringSectors {r₀ : State} (r : Ring) (k row n : Nat) {s : State} (hs : Evolves r₀ s) : Evolves r₀ (ringSectors r k row n s) := by
  induction k generalizing row n s with
  | zero => exact hs
  | succ k ih => exact ev_cond hs (ih _ _ (ev_stripeSectors _ _ _ _ hs))

theorem ev_ringProgram (r : Ring) (row n : Nat) {r₀ s : State} (hs : Evolves r₀ s) : Evolves r₀ (ringProgram r row n s) := by
  unfold ringProgram
  simp (maxDischargeDepth := 40) +contextual only [hs, ev_mk, ev_fold, ev_ite, ite_self, implies_true, ev_ringSectors]

theorem ev_checkpointSectors (n : Nat) {r₀ s : State} (hs : Evolves r₀ s) : Evolves r₀ (checkpointSectors n s) := by
  unfold checkpointSectors
  simp (maxDischargeDepth := 40) +contextual only [hs, ev_mk, ev_fold, ev_ite, ite_self, implies_true, ev_ringProgram]

theorem ev_dirtySegment (seg : Nat) {r₀ s : State} (hs : Evolves r₀ s) : Evolves r₀ (dirtySegment seg s) := by
  unfold dirtySegment
  (try simp (maxDischargeDepth := 40) +contextual only [hs, ev_mk, ev_fold, ev_ite, ite_self, implies_true])
  repeat' split
  all_goals first
    | (with_reducible exact hs)
    | (simp (maxDischargeDepth := 40) +contextual only [hs, ev_mk, ev_fold, ev_ite, ite_self, implies_true]; done)

theorem ev_dirtyPages (first n : Nat) {r₀ s : State} (hs : Evolves r₀ s) : Evolves r₀ (dirtyPages first n s) := by
  unfold dirtyPages
  simp (maxDischargeDepth := 40) +contextual only [hs, ev_mk, ev_fold, ev_ite, ite_self, implies_true, ev_dirtySegment, ev_foldl]

theorem ev_putEntry (k : IntegrityKind) {r₀ s : State} (hs : Evolves r₀ s) : Evolves r₀ (putEntry k s) := by
  unfold putEntry
  simp (maxDischargeDepth := 40) +contextual only [hs, ev_mk, ev_fold, ev_ite, ite_self, implies_true]

theorem ev_journalSectors (n : Nat) {r₀ s : State} (hs : Evolves r₀ s) : Evolves r₀ (journalSectors n s) := by
  unfold journalSectors
  simp (maxDischargeDepth := 40) +contextual only [hs, ev_mk, ev_fold, ev_ite, ite_self, implies_true, ev_ringProgram]

theorem ev_coverJournal {r₀ s : State} (hs : Evolves r₀ s) : Evolves r₀ (coverJournal s) := by
  unfold coverJournal
  simp (maxDischargeDepth := 40) +contextual only [hs, ev_mk, ev_fold, ev_ite, ite_self, implies_true, ev_putEntry]

theorem ev_programSector {r₀ s : State} (hs : Evolves r₀ s) : Evolves r₀ (programSector s) := by
  unfold programSector
  simp (maxDischargeDepth := 40) +contextual only [hs, ev_mk, ev_fold, ev_ite, ite_self, implies_true, ev_journalSectors]

theorem ev_programEntries {r₀ s : State} (hs : Evolves r₀ s) : Evolves r₀ (programEntries s) := by
  unfold programEntries
  simp (maxDischargeDepth := 40) +contextual only [hs, ev_mk, ev_fold, ev_ite, ite_self, implies_true, ev_coverJournal, ev_programSector,
        ev_foldl]

theorem ev_programJournal {r₀ s : State} (hs : Evolves r₀ s) : Evolves r₀ (programJournal s) := by
  unfold programJournal
  simp (maxDischargeDepth := 40) +contextual only [hs, ev_mk, ev_fold, ev_ite, ite_self, implies_true, ev_journalSectors]

theorem ev_programTail {r₀ s : State} (hs : Evolves r₀ s) : Evolves r₀ (programTail s) := by
  unfold programTail
  simp (maxDischargeDepth := 40) +contextual only [hs, ev_mk, ev_fold, ev_ite, ite_self, implies_true, ev_programEntries, ev_programJournal]

theorem ev_journalPut (k : JournalKind) {r₀ s : State} (hs : Evolves r₀ s) : Evolves r₀ (journalPut k s) := by
  unfold journalPut
  simp (maxDischargeDepth := 40) +contextual only [hs, ev_mk, ev_fold, ev_ite, ite_self, implies_true, ev_appendRecord, ev_programTail]

theorem ev_linesOnMedium (lines : List (Nat × Nat)) {r₀ s : State} (hs : Evolves r₀ s) : Evolves r₀ (linesOnMedium lines s) := by
  unfold linesOnMedium
  simp (maxDischargeDepth := 40) +contextual only [hs, ev_mk, ev_fold, ev_ite, ite_self, implies_true]

theorem ev_grantCredits (p : Port) {r₀ s : State} (hs : Evolves r₀ s) : Evolves r₀ (grantCredits p s) := by
  unfold grantCredits
  simp (maxDischargeDepth := 40) +contextual only [hs, ev_mk, ev_fold, ev_ite, ite_self, implies_true, ev_modPort]

theorem ev_useCredit (p : Port) {r₀ s : State} (hs : Evolves r₀ s) : Evolves r₀ (useCredit p s) := by
  unfold useCredit
  simp (maxDischargeDepth := 40) +contextual only [hs, ev_mk, ev_fold, ev_ite, ite_self, implies_true, ev_grantCredits, ev_modPort]

theorem ev_sendData (p : Port) (tag : Nat) (d : Line) (poison : Bool) {r₀ s : State} (hs : Evolves r₀ s) : Evolves r₀ (sendData p tag d
        poison s) := by
  unfold sendData
  simp (maxDischargeDepth := 40) +contextual only [hs, ev_mk, ev_fold, ev_ite, ite_self, implies_true, ev_count, ev_count1, ev_emit,
        ev_modPort]

theorem ev_countWrite (p : Port) {r₀ s : State} (hs : Evolves r₀ s) : Evolves r₀ (countWrite p s) := by
  unfold countWrite
  simp (maxDischargeDepth := 40) +contextual only [hs, ev_mk, ev_fold, ev_ite, ite_self, implies_true, ev_count, ev_modPort]

theorem ev_countEligible (p : Port) (kindBit : Nat) {r₀ s : State} (hs : Evolves r₀ s) : Evolves r₀ (countEligible p kindBit s) := by
  unfold countEligible
  simp (maxDischargeDepth := 40) +contextual only [hs, ev_mk, ev_fold, ev_ite, ite_self, implies_true, ev_bump, ev_drawn]

theorem ev_placeSample (r : SampleRecord) {r₀ s : State} (hs : Evolves r₀ s) : Evolves r₀ (placeSample r s) := by
  have h := ev_bump 0xB03004 hs
  unfold placeSample
  simp only
  generalize s.bump 0xB03004 = a at h ⊢
  have h1 (l : List SampleRecord) (hl : a.obs.samples.length ≤ 4096 → l.length ≤ 4096) :
      Evolves r₀ { a with obs := { a.obs with samples := l } } := ev_obs _ h hl
  replace h1 := h1 (if decide (4096 < (a.obs.samples ++ [r]).length) = true then (a.obs.samples ++ [r]).drop 1 else a.obs.samples ++ [r])
    (fun hn => by split <;> simp_all)
  generalize State.mk _ _ _ _ _ _ _ _ _ _ _ _ _ _ _ _ _ _ _ _ _ _ _ _ _ _ _ _ _ _ _ _ _ _ _ _ _ _ _ _ = b at h1 ⊢
  have h2 : Evolves r₀ (if decide (4096 < (a.obs.samples ++ [r]).length) = true then raise 124 (b.bump 0xB04003) else b) :=
    ev_cond (ev_raise _ (ev_bump _ h1)) h1
  generalize (if decide (4096 < (a.obs.samples ++ [r]).length) = true then raise 124 (b.bump 0xB04003) else b) = c at h2 ⊢
  exact ev_cond (ev_raise _ (ev_obs _ h2 id)) h2

theorem ev_sampleWindow (p : Port) (opcode line : Nat) (sampled : Bool) {r₀ s : State} (hs : Evolves r₀ s) : Evolves r₀ (sampleWindow p
        opcode line sampled s) := by
  unfold sampleWindow
  simp (maxDischargeDepth := 40) +contextual only [hs, ev_mk, ev_fold, ev_ite, ite_self, implies_true, ev_placeSample, ev_takeStamp]

theorem ev_answerBarrier (p : Port) (b : BarrierRead) {r₀ s : State} (hs : Evolves r₀ s) : Evolves r₀ (answerBarrier p b s) := by
  unfold answerBarrier
  simp (maxDischargeDepth := 40) +contextual only [hs, ev_mk, ev_fold, ev_ite, ite_self, implies_true, ev_raiseTo, ev_sampleWindow,
        ev_sendData]

theorem ev_releaseBarriers (p : Port) (tag : Nat) {r₀ s : State} (hs : Evolves r₀ s) : Evolves r₀ (releaseBarriers p tag s) := by
  unfold releaseBarriers
  simp (maxDischargeDepth := 40) +contextual only [hs, ev_mk, ev_fold, ev_ite, ite_self, implies_true, ev_answerBarrier, ev_modPort, ev_foldl]

theorem ev_sendCmp (p : Port) (tag : Nat) {r₀ s : State} (hs : Evolves r₀ s) : Evolves r₀ (sendCmp p tag s) := by
  unfold sendCmp
  simp (maxDischargeDepth := 40) +contextual only [hs, ev_mk, ev_fold, ev_ite, ite_self, implies_true, ev_emit, ev_releaseBarriers]

theorem ev_sendCmps (l : List (Port × Nat)) {r₀ s : State} (hs : Evolves r₀ s) : Evolves r₀ (sendCmps l s) := by
  unfold sendCmps
  simp (maxDischargeDepth := 40) +contextual only [hs, ev_mk, ev_fold, ev_ite, ite_self, implies_true, ev_sendCmp, ev_foldl]

theorem ev_raiseTimes {r₀ : State} (n src : Nat) {s : State} (hs : Evolves r₀ s) : Evolves r₀ (raiseTimes n src s) := by
  induction n generalizing s with
  | zero => exact hs
  | succ n ih => exact ih (ev_raise _ hs)

theorem ev_dropStores (p : Port) (bit n : Nat) {r₀ s : State} (hs : Evolves r₀ s) : Evolves r₀ (dropStores p bit n s) := by
  unfold dropStores
  simp (maxDischargeDepth := 40) +contextual only [hs, ev_mk, ev_fold, ev_ite, ite_self, implies_true, ev_addTo, ev_modPort, ev_raiseTimes]

theorem ev_stray (p : Port) {r₀ s : State} (hs : Evolves r₀ s) : Evolves r₀ (stray p s) := by
  unfold stray
  simp (maxDischargeDepth := 40) +contextual only [hs, ev_mk, ev_fold, ev_ite, ite_self, implies_true, ev_bump, ev_raise]

theorem ev_strayIf (c : Bool) (p : Port) {r₀ s : State} (hs : Evolves r₀ s) : Evolves r₀ (strayIf c p s) := by
  unfold strayIf
  simp (maxDischargeDepth := 40) +contextual only [hs, ev_mk, ev_fold, ev_ite, ite_self, implies_true, ev_stray]

theorem ev_discardRange (p : Port) (entry first n : Nat) {r₀ s : State} (hs : Evolves r₀ s) : Evolves r₀ (discardRange p entry first n s) :=
        by
  unfold discardRange
  simp (maxDischargeDepth := 40) +contextual only [hs, ev_mk, ev_fold, ev_ite, ite_self, implies_true, ev_dirtyPages, ev_dropCachedRange,
        ev_journalPut, ev_rearmStall, ev_sendCmps]

theorem ev_unmap (entry : Nat) {r₀ s : State} (hs : Evolves r₀ s) : Evolves r₀ (unmap entry s) := by
  unfold unmap
  (try simp (maxDischargeDepth := 40) +contextual only [hs, ev_mk, ev_fold, ev_ite, ite_self, implies_true])
  repeat' split
  all_goals first
    | (with_reducible exact hs)
    | (simp (maxDischargeDepth := 40) +contextual only [hs, ev_mk, ev_fold, ev_ite, ite_self, implies_true]; done)

theorem ev_finishDiscard (p : Port) (entry : Nat) {r₀ s : State} (hs : Evolves r₀ s) : Evolves r₀ (finishDiscard p entry s) := by
  unfold finishDiscard
  simp (maxDischargeDepth := 40) +contextual only [hs, ev_mk, ev_fold, ev_ite, ite_self, implies_true, ev_discardRange, ev_modPort]

theorem ev_runDiscard (p : Port) {r₀ s : State} (hs : Evolves r₀ s) : Evolves r₀ (runDiscard p s) := by
  unfold runDiscard
  (try simp (maxDischargeDepth := 40) +contextual only [hs, ev_mk, ev_fold, ev_ite, ite_self, implies_true, ev_finishDiscard, ev_unmap])
  repeat' split
  all_goals first
    | (with_reducible exact hs)
    | (simp (maxDischargeDepth := 40) +contextual only [hs, ev_mk, ev_fold, ev_ite, ite_self, implies_true, ev_finishDiscard, ev_unmap]; done)

theorem ev_finishDiscards {r₀ s : State} (hs : Evolves r₀ s) : Evolves r₀ (finishDiscards s) := by
  unfold finishDiscards
  simp (maxDischargeDepth := 40) +contextual only [hs, ev_mk, ev_fold, ev_ite, ite_self, implies_true, ev_runDiscard]

theorem ev_takeBlocking {r₀ s : State} (hs : Evolves r₀ s) : Evolves r₀ (takeBlocking s) := by
  unfold takeBlocking
  simp (maxDischargeDepth := 40) +contextual only [hs, ev_mk, ev_fold, ev_ite, ite_self, implies_true]

theorem ev_startCommand (g : Nat) (c : GroupCommand) {r₀ s : State} (hs : Evolves r₀ s) : Evolves r₀ (startCommand g c s) := by
  unfold startCommand
  simp (maxDischargeDepth := 40) +contextual only [hs, ev_mk, ev_fold, ev_ite, ite_self, implies_true, ev_setGroup, ev_takeBlocking]

theorem ev_submitCommand (g : Nat) (c : GroupCommand) {r₀ s : State} (hs : Evolves r₀ s) : Evolves r₀ (submitCommand g c s) := by
  unfold submitCommand
  (try simp (maxDischargeDepth := 40) +contextual only [hs, ev_mk, ev_fold, ev_ite, ite_self, implies_true, ev_setGroup, ev_startCommand])
  repeat' split
  all_goals first
    | (with_reducible exact hs)
    | (simp (maxDischargeDepth := 40) +contextual only [hs, ev_mk, ev_fold, ev_ite, ite_self, implies_true, ev_setGroup, ev_startCommand]; done)

theorem ev_discardProvisional (g : Nat) {r₀ s : State} (hs : Evolves r₀ s) : Evolves r₀ (discardProvisional g s) := by
  unfold discardProvisional
  simp (maxDischargeDepth := 40) +contextual only [hs, ev_mk, ev_fold, ev_ite, ite_self, implies_true, ev_rearmStall, ev_sendCmps]

theorem ev_checkPool {r₀ s : State} (hs : Evolves r₀ s) : Evolves r₀ (checkPool s) := by
  unfold checkPool
  simp (maxDischargeDepth := 40) +contextual only [hs, ev_mk, ev_fold, ev_ite, ite_self, implies_true, ev_raise]

theorem ev_forceAbortNow (g cause : Nat) {r₀ s : State} (hs : Evolves r₀ s) : Evolves r₀ (forceAbortNow g cause s) := by
  unfold forceAbortNow
  simp (maxDischargeDepth := 40) +contextual only [hs, ev_mk, ev_fold, ev_ite, ite_self, implies_true, ev_bump, ev_checkPool,
        ev_discardProvisional, ev_dropStores, ev_journalPut, ev_raise, ev_setGroup]

theorem ev_forceAbort (g cause : Nat) (detail : Nat) {r₀ s : State} (hs : Evolves r₀ s) : Evolves r₀ (forceAbort g cause detail s) := by
  unfold forceAbort
  (try simp (maxDischargeDepth := 40) +contextual only [hs, ev_mk, ev_fold, ev_ite, ite_self, implies_true, ev_forceAbortNow, ev_setGroup])
  repeat' split
  all_goals first
    | (with_reducible exact hs)
    | (simp (maxDischargeDepth := 40) +contextual only [hs, ev_mk, ev_fold, ev_ite, ite_self, implies_true, ev_forceAbortNow, ev_setGroup]; done)

theorem ev_commitLines (g stamp : Nat) {r₀ s : State} (hs : Evolves r₀ s) : Evolves r₀ (commitLines g stamp s) := by
  unfold commitLines
  simp (maxDischargeDepth := 40) +contextual only [hs, ev_mk, ev_fold, ev_ite, ite_self, implies_true, ev_dirtySegment, ev_dropCached,
        ev_pruneRanges, ev_rearmStall, ev_foldl]

theorem ev_decideCommit (g : Nat) {r₀ s : State} (hs : Evolves r₀ s) : Evolves r₀ (decideCommit g s) := by
  unfold decideCommit
  (try simp (maxDischargeDepth := 40) +contextual only [hs, ev_mk, ev_fold, ev_ite, ite_self, implies_true, ev_bump, ev_checkPool,
        ev_commitLines, ev_count1, ev_discardProvisional, ev_journalPut, ev_raise, ev_sendCmps, ev_setGroup])
  repeat' split
  all_goals first
    | (with_reducible exact hs)
    | (simp (maxDischargeDepth := 40) +contextual only [hs, ev_mk, ev_fold, ev_ite, ite_self, implies_true, ev_bump, ev_checkPool, ev_commitLines,
        ev_count1, ev_discardProvisional, ev_journalPut, ev_raise, ev_sendCmps, ev_setGroup]; done)

theorem ev_applyCommand (g : Nat) (c : GroupCommand) {r₀ s : State} (hs : Evolves r₀ s) : Evolves r₀ (applyCommand g c s) := by
  unfold applyCommand
  simp (maxDischargeDepth := 40) +contextual only [hs, ev_mk, ev_fold, ev_ite, ite_self, implies_true, ev_bump, ev_checkPool,
        ev_discardProvisional, ev_journalPut, ev_programTail, ev_setGroup]

theorem ev_wakeDiscard (p : Port) {r₀ s : State} (hs : Evolves r₀ s) : Evolves r₀ (wakeDiscard p s) := by
  unfold wakeDiscard
  simp (maxDischargeDepth := 40) +contextual only [hs, ev_mk, ev_fold, ev_ite, ite_self, implies_true, ev_modPort]

theorem ev_answerReaders (g : Nat) {r₀ s : State} (hs : Evolves r₀ s) : Evolves r₀ (answerReaders g s) := by
  unfold answerReaders
  simp (maxDischargeDepth := 40) +contextual only [hs, ev_mk, ev_fold, ev_ite, ite_self, implies_true, ev_sampleWindow, ev_sendData,
        ev_setGroup, ev_foldl]

theorem ev_writeResult (g : Nat) (c : GroupCommand) {r₀ s : State} (hs : Evolves r₀ s) : Evolves r₀ (writeResult g c s) := by
  unfold writeResult
  (try simp (maxDischargeDepth := 40) +contextual only [hs, ev_mk, ev_fold, ev_ite, ite_self, implies_true, ev_forceAbortNow, ev_raiseTo,
        ev_setGroup])
  repeat' split
  all_goals first
    | (with_reducible exact hs)
    | (simp (maxDischargeDepth := 40) +contextual only [hs, ev_mk, ev_fold, ev_ite, ite_self, implies_true, ev_forceAbortNow, ev_raiseTo,
        ev_setGroup]; done)

theorem ev_startNext (g : Nat) {r₀ s : State} (hs : Evolves r₀ s) : Evolves r₀ (startNext g s) := by
  unfold startNext
  (try simp (maxDischargeDepth := 40) +contextual only [hs, ev_mk, ev_fold, ev_ite, ite_self, implies_true, ev_setGroup, ev_startCommand])
  repeat' split
  all_goals first
    | (with_reducible exact hs)
    | (simp (maxDischargeDepth := 40) +contextual only [hs, ev_mk, ev_fold, ev_ite, ite_self, implies_true, ev_setGroup, ev_startCommand]; done)

theorem ev_finishCommand (g : Nat) {r₀ s : State} (hs : Evolves r₀ s) : Evolves r₀ (finishCommand g s) := by
  unfold finishCommand
  (try simp (maxDischargeDepth := 40) +contextual only [hs, ev_mk, ev_fold, ev_ite, ite_self, implies_true, ev_answerReaders, ev_applyCommand,
        ev_startNext, ev_wakeDiscard, ev_writeResult])
  repeat' split
  all_goals first
    | (with_reducible exact hs)
    | (simp (maxDischargeDepth := 40) +contextual only [hs, ev_mk, ev_fold, ev_ite, ite_self, implies_true, ev_answerReaders, ev_applyCommand,
        ev_startNext, ev_wakeDiscard, ev_writeResult]; done)

theorem ev_settleGroup {r₀ : State} (n g : Nat) {s : State} (hs : Evolves r₀ s) : Evolves r₀ (settleGroup n g s) := by
  induction n generalizing s with
  | zero => exact hs
  | succ n ih =>
    unfold settleGroup
    simp only
    have h1 : Evolves r₀ (if s.commitReady g = true then decideCommit g s else s) := by
      split
      · exact ev_decideCommit _ hs
      · exact hs
    generalize (if s.commitReady g = true then decideCommit g s else s) = a at h1 ⊢
    have h2 : Evolves r₀ (if a.canFinish g = true then a else finishDiscards a) := by
      split
      · exact h1
      · exact ev_finishDiscards h1
    generalize (if a.canFinish g = true then a else finishDiscards a) = b at h2 ⊢
    split
    · exact ih (ev_finishCommand _ h2)
    · exact h2

theorem ev_settle (g : Nat) {r₀ s : State} (hs : Evolves r₀ s) : Evolves r₀ (settle g s) := by
  unfold settle
  simp (maxDischargeDepth := 40) +contextual only [hs, ev_mk, ev_fold, ev_ite, ite_self, implies_true, ev_settleGroup]

theorem ev_rebuildSegment (seg : Nat) {r₀ s : State} (hs : Evolves r₀ s) : Evolves r₀ (rebuildSegment seg s) := by
  unfold rebuildSegment
  simp (maxDischargeDepth := 40) +contextual only [hs, ev_mk, ev_fold, ev_ite, ite_self, implies_true, ev_foldl]

theorem ev_startRebuild (seg : Nat) {r₀ s : State} (hs : Evolves r₀ s) : Evolves r₀ (startRebuild seg s) := by
  unfold startRebuild
  simp (maxDischargeDepth := 40) +contextual only [hs, ev_mk, ev_fold, ev_ite, ite_self, implies_true, ev_bump]

theorem ev_sectorsMoved (ch n : Nat) {r₀ s : State} (hs : Evolves r₀ s) : Evolves r₀ (sectorsMoved ch n s) := by
  unfold sectorsMoved
  simp (maxDischargeDepth := 40) +contextual only [hs, ev_mk, ev_fold, ev_ite, ite_self, implies_true, ev_addTo, ev_count]

theorem ev_sectorMoved (ch : Nat) {r₀ s : State} (hs : Evolves r₀ s) : Evolves r₀ (sectorMoved ch s) := by
  unfold sectorMoved
  simp (maxDischargeDepth := 40) +contextual only [hs, ev_mk, ev_fold, ev_ite, ite_self, implies_true, ev_sectorsMoved]

theorem ev_reconstructions (unit n : Nat) {r₀ s : State} (hs : Evolves r₀ s) : Evolves r₀ (reconstructions unit n s) := by
  unfold reconstructions
  simp (maxDischargeDepth := 40) +contextual only [hs, ev_mk, ev_fold, ev_ite, ite_self, implies_true, ev_sectorsMoved, ev_foldl]

theorem ev_reconstructionReads (unit : Nat) {r₀ s : State} (hs : Evolves r₀ s) : Evolves r₀ (reconstructionReads unit s) := by
  unfold reconstructionReads
  simp (maxDischargeDepth := 40) +contextual only [hs, ev_mk, ev_fold, ev_ite, ite_self, implies_true, ev_reconstructions]

theorem ev_agentReads (cls unit n : Nat) {r₀ s : State} (hs : Evolves r₀ s) : Evolves r₀ (agentReads cls unit n s) := by
  unfold agentReads
  simp (maxDischargeDepth := 40) +contextual only [hs, ev_mk, ev_fold, ev_ite, ite_self, implies_true, ev_reconstructions, ev_sectorsMoved]

theorem ev_integritySector (obj : IntegrityObject) {r₀ s : State} (hs : Evolves r₀ s) : Evolves r₀ (integritySector obj s) := by
  unfold integritySector
  (try simp (maxDischargeDepth := 40) +contextual only [hs, ev_mk, ev_fold, ev_ite, ite_self, implies_true, ev_sectorMoved])
  repeat' split
  all_goals first
    | (with_reducible exact hs)
    | (simp (maxDischargeDepth := 40) +contextual only [hs, ev_mk, ev_fold, ev_ite, ite_self, implies_true, ev_sectorMoved]; done)

theorem ev_fetchLine (obj : IntegrityObject) {r₀ s : State} (hs : Evolves r₀ s) : Evolves r₀ (fetchLine obj s) := by
  unfold fetchLine
  simp (maxDischargeDepth := 40) +contextual only [hs, ev_mk, ev_fold, ev_ite, ite_self, implies_true, ev_bump, ev_cacheLine,
        ev_integritySector, ev_foldl]

theorem ev_modRead (id : Nat) (f : Read → Read) {r₀ s : State} (hs : Evolves r₀ s) : Evolves r₀ (modRead id f s) := by
  unfold modRead
  simp (maxDischargeDepth := 40) +contextual only [hs, ev_mk, ev_fold, ev_ite, ite_self, implies_true]

theorem ev_addRead (r : Read) {r₀ s : State} (hs : Evolves r₀ s) : Evolves r₀ (addRead r s) := by
  unfold addRead
  simp (maxDischargeDepth := 40) +contextual only [hs, ev_mk, ev_fold, ev_ite, ite_self, implies_true]

theorem ev_refillSlot (region : Nat) {r₀ s : State} (hs : Evolves r₀ s) : Evolves r₀ (refillSlot region s) := by
  unfold refillSlot
  (try simp (maxDischargeDepth := 40) +contextual only [hs, ev_mk, ev_fold, ev_ite, ite_self, implies_true, ev_modRead])
  repeat' split
  all_goals first
    | (with_reducible exact hs)
    | (simp (maxDischargeDepth := 40) +contextual only [hs, ev_mk, ev_fold, ev_ite, ite_self, implies_true, ev_modRead]; done)

theorem ev_refillPrompt (region : Nat) {r₀ s : State} (hs : Evolves r₀ s) : Evolves r₀ (refillPrompt region s) := by
  unfold refillPrompt
  simp (maxDischargeDepth := 40) +contextual only [hs, ev_mk, ev_fold, ev_ite, ite_self, implies_true, ev_refillSlot]

theorem ev_dropRead (id : Nat) {r₀ s : State} (hs : Evolves r₀ s) : Evolves r₀ (dropRead id s) := by
  unfold dropRead
  (try simp (maxDischargeDepth := 40) +contextual only [hs, ev_mk, ev_fold, ev_ite, ite_self, implies_true, ev_refillPrompt])
  repeat' split
  all_goals first
    | (with_reducible exact hs)
    | (simp (maxDischargeDepth := 40) +contextual only [hs, ev_mk, ev_fold, ev_ite, ite_self, implies_true, ev_refillPrompt]; done)

theorem ev_promptDone (r : Read) {r₀ s : State} (hs : Evolves r₀ s) : Evolves r₀ (promptDone r s) := by
  unfold promptDone
  simp (maxDischargeDepth := 40) +contextual only [hs, ev_mk, ev_fold, ev_ite, ite_self, implies_true, ev_bump, ev_raise, ev_raiseTo]

theorem ev_sampleRead (p : Port) (opcode line acceptedAt outcome unit steps cls flags : Nat) (poison : Bool) {r₀ s : State} (hs : Evolves r₀
        s) : Evolves r₀ (sampleRead p opcode line acceptedAt outcome unit steps cls flags poison s) := by
  unfold sampleRead
  simp (maxDischargeDepth := 40) +contextual only [hs, ev_mk, ev_fold, ev_ite, ite_self, implies_true, ev_placeSample, ev_takeStamp]

theorem ev_answerRead (r : Read) (v : Version) {r₀ s : State} (hs : Evolves r₀ s) : Evolves r₀ (answerRead r v s) := by
  unfold answerRead
  (try simp (maxDischargeDepth := 40) +contextual only [hs, ev_mk, ev_fold, ev_ite, ite_self, implies_true, ev_dropRead, ev_promptDone,
        ev_sampleRead, ev_sendData])
  repeat' split
  all_goals first
    | (with_reducible exact hs)
    | (simp (maxDischargeDepth := 40) +contextual only [hs, ev_mk, ev_fold, ev_ite, ite_self, implies_true, ev_dropRead, ev_promptDone,
        ev_sampleRead, ev_sendData]; done)

theorem ev_answerMerges (p : Port) (line : Nat) {r₀ s : State} (hs : Evolves r₀ s) : Evolves r₀ (answerMerges p line s) := by
  unfold answerMerges
  simp (maxDischargeDepth := 40) +contextual only [hs, ev_mk, ev_fold, ev_ite, ite_self, implies_true, ev_answerRead, ev_foldl]

theorem ev_recordUnit (u : Nat) {r₀ s : State} (hs : Evolves r₀ s) : Evolves r₀ (recordUnit u s) := by
  unfold recordUnit
  simp (maxDischargeDepth := 40) +contextual only [hs, ev_mk, ev_fold, ev_ite, ite_self, implies_true, ev_journalPut]

theorem ev_setUnitState (u state : Nat) {r₀ s : State} (hs : Evolves r₀ s) : Evolves r₀ (setUnitState u state s) := by
  unfold setUnitState
  simp (maxDischargeDepth := 40) +contextual only [hs, ev_mk, ev_fold, ev_ite, ite_self, implies_true, ev_bump, ev_raise, ev_recordUnit,
        ev_setUnit]

theorem ev_lastingFault (u : Nat) {r₀ s : State} (hs : Evolves r₀ s) : Evolves r₀ (lastingFault u s) := by
  unfold lastingFault
  simp (maxDischargeDepth := 40) +contextual only [hs, ev_mk, ev_fold, ev_ite, ite_self, implies_true, ev_noteHealth, ev_setUnit,
        ev_setUnitState]

theorem ev_sectorProgrammed (u page : Nat) {r₀ s : State} (hs : Evolves r₀ s) : Evolves r₀ (sectorProgrammed u page s) := by
  unfold sectorProgrammed
  simp (maxDischargeDepth := 40) +contextual only [hs, ev_mk, ev_fold, ev_ite, ite_self, implies_true, ev_programTail, ev_sectorsProgrammed]

theorem ev_pageProgrammed (u page band : Nat) {r₀ s : State} (hs : Evolves r₀ s) : Evolves r₀ (pageProgrammed u page band s) := by
  unfold pageProgrammed
  simp (maxDischargeDepth := 40) +contextual only [hs, ev_mk, ev_fold, ev_ite, ite_self, implies_true, ev_count1, ev_disturb, ev_setUnit]

theorem ev_unitReset (u mode : Nat) {r₀ s : State} (hs : Evolves r₀ s) : Evolves r₀ (unitReset u mode s) := by
  unfold unitReset
  simp (maxDischargeDepth := 40) +contextual only [hs, ev_mk, ev_fold, ev_ite, ite_self, implies_true, ev_addCycles, ev_count1, ev_disturb,
        ev_recordUnit, ev_setUnit]

theorem ev_orderReset (stripe mode before : Nat) {r₀ s : State} (hs : Evolves r₀ s) : Evolves r₀ (orderReset stripe mode before s) := by
  unfold orderReset
  simp (maxDischargeDepth := 40) +contextual only [hs, ev_mk, ev_fold, ev_ite, ite_self, implies_true, ev_setStripe, ev_foldl]

theorem ev_notePool {r₀ s : State} (hs : Evolves r₀ s) : Evolves r₀ (notePool s) := by
  unfold notePool
  simp (maxDischargeDepth := 40) +contextual only [hs, ev_mk, ev_fold, ev_ite, ite_self, implies_true, ev_raise]

theorem ev_finishReset (stripe : Nat) {r₀ s : State} (hs : Evolves r₀ s) : Evolves r₀ (finishReset stripe s) := by
  unfold finishReset
  (try simp (maxDischargeDepth := 40) +contextual only [hs, ev_mk, ev_fold, ev_ite, ite_self, implies_true, ev_bump, ev_noteHealth,
        ev_notePool, ev_raise, ev_setStripe, ev_setUnitState, ev_foldl])
  repeat' split
  all_goals first
    | (with_reducible exact hs)
    | (simp (maxDischargeDepth := 40) +contextual only [hs, ev_mk, ev_fold, ev_ite, ite_self, implies_true, ev_bump, ev_noteHealth, ev_notePool,
        ev_raise, ev_setStripe, ev_setUnitState, ev_foldl]; done)

theorem ev_reEncrypt (line : Nat) {r₀ s : State} (hs : Evolves r₀ s) : Evolves r₀ (reEncrypt line s) := by
  unfold reEncrypt
  simp (maxDischargeDepth := 40) +contextual only [hs, ev_mk, ev_fold, ev_ite, ite_self, implies_true, ev_agentReads, ev_bump, ev_putEntry,
        ev_raise, ev_touchBlock, ev_foldl]

theorem ev_takeSeal {r₀ : State} (line : Nat) (grp : Option Nat) (stamp : Nat) (preset : Option Seal) {s : State} (hs : Evolves r₀ s) :
    Evolves r₀ (takeSeal line grp stamp preset s).2 := by
  unfold takeSeal
  split
  · exact ev_touchIntegrity _ (ev_fetchLine _ hs)
  · split
    · exact hs
    · have h := ev_fetchLine (.tagLine (line / 8)) (ev_fetchLine (.counterBlock (pageOfLine line)) hs)
      refine ev_touchIntegrity _ (ev_touchBlock _ ?_)
      split
      · exact ev_reEncrypt _ h
      · simpa only [ev_mk, ev_fold] using h

theorem ev_sealInto {r₀ : State} (place line : Nat) (grp tag : Option Nat) (data : Line) (poison : Bool) (stamp : Nat) (preset : Option Seal) {s : State}
    (hs : Evolves r₀ s) : Evolves r₀ (sealInto place line grp tag data poison stamp preset s).2 := by
  have h := ev_takeSeal line tag stamp preset hs
  unfold sealInto
  simp only
  split
  · exact ev_touchIntegrity _ (ev_fetchLine _ h)
  · exact h

theorem ev_wantFold (line : Nat) {r₀ s : State} (hs : Evolves r₀ s) : Evolves r₀ (wantFold line s) := by
  unfold wantFold
  (try simp (maxDischargeDepth := 40) +contextual only [hs, ev_mk, ev_fold, ev_ite, ite_self, implies_true, ev_foldl])
  repeat' split
  all_goals first
    | (with_reducible exact hs)
    | (simp (maxDischargeDepth := 40) +contextual only [hs, ev_mk, ev_fold, ev_ite, ite_self, implies_true, ev_foldl]; done)

theorem ev_putDelta (d : Delta) {r₀ s : State} (hs : Evolves r₀ s) : Evolves r₀ (putDelta d s) := by
  unfold putDelta
  simp (maxDischargeDepth := 40) +contextual only [hs, ev_mk, ev_fold, ev_ite, ite_self, implies_true]

theorem ev_checkLogFull {r₀ s : State} (hs : Evolves r₀ s) : Evolves r₀ (checkLogFull s) := by
  unfold checkLogFull
  (try simp (maxDischargeDepth := 40) +contextual only [hs, ev_mk, ev_fold, ev_ite, ite_self, implies_true, ev_bump, ev_raise, ev_raiseTo])
  repeat' split
  all_goals first
    | (with_reducible exact hs)
    | (simp (maxDischargeDepth := 40) +contextual only [hs, ev_mk, ev_fold, ev_ite, ite_self, implies_true, ev_bump, ev_raise, ev_raiseTo]; done)

theorem ev_rowStarted (mark : Nat) (x : List ProgramStart) {r₀ s : State} (hs : Evolves r₀ s) : Evolves r₀ (rowStarted mark x s) := by
  unfold rowStarted
  simp (maxDischargeDepth := 40) +contextual only [hs, ev_mk, ev_fold, ev_ite, ite_self, implies_true]

theorem ev_moveStamp {r₀ : State} (m : LogMove) {s : State} (hs : Evolves r₀ s) : Evolves r₀ (moveStamp m s).2 := by
  unfold moveStamp
  split
  · exact ev_takeStamp hs
  · exact hs

theorem ev_placeMoves {r₀ : State} (mark q : Nat) (l : List LogMove) (acc : List LogLine) {s : State} (hs : Evolves r₀ s) :
    Evolves r₀ (placeMoves mark q l acc s).2 := by
  induction l generalizing q acc s with
  | nil => exact hs
  | cons m l ih =>
    exact ih _ _ (ev_sealInto (mark * 45 + q) m.line m.grp m.groupTag m.data m.poison (moveStamp m s).1 m.preset (ev_moveStamp m hs))

theorem ev_placeStaged {r₀ : State} (mark q : Nat) (l : List Staged) (acc : List LogLine) {s : State} (hs : Evolves r₀ s) :
    Evolves r₀ (placeStaged mark q l acc s).2 := by
  induction l generalizing q acc s with
  | nil => exact hs
  | cons x l ih => exact ih _ _ (ev_sealInto (mark * 45 + q) x.line x.grp x.tag x.data x.poison (if x.tag.isSome then x.orig else x.stamp) none hs)

theorem ev_noteCrowded {r₀ s : State} (hs : Evolves r₀ s) : Evolves r₀ (noteCrowded s) := by
  unfold noteCrowded
  simp (maxDischargeDepth := 40) +contextual only [hs, ev_mk, ev_fold, ev_ite, ite_self, implies_true, ev_wantFold, ev_foldl]

theorem ev_dispatchRow {r₀ s : State} (hs : Evolves r₀ s) : Evolves r₀ (dispatchRow s) := by
  unfold dispatchRow
  simp (maxDischargeDepth := 40) +contextual only [hs, ev_mk, ev_fold, ev_ite, ite_self, implies_true, ev_checkLogFull, ev_placeMoves,
        ev_placeStaged]

theorem ev_landMove (l : LogLine) (source : Option Nat) {r₀ s : State} (hs : Evolves r₀ s) : Evolves r₀ (landMove l source s) := by
  unfold landMove
  (try simp (maxDischargeDepth := 40) +contextual only [hs, ev_mk, ev_fold, ev_ite, ite_self, implies_true, ev_bump, ev_dirtySegment,
        ev_putDelta])
  repeat' split
  all_goals first
    | (with_reducible exact hs)
    | (simp (maxDischargeDepth := 40) +contextual only [hs, ev_mk, ev_fold, ev_ite, ite_self, implies_true, ev_bump, ev_dirtySegment,
        ev_putDelta]; done)

theorem ev_landStaged (mark : Nat) (l : LogLine) {r₀ s : State} (hs : Evolves r₀ s) : Evolves r₀ (landStaged mark l s) := by
  unfold landStaged
  (try simp (maxDischargeDepth := 40) +contextual only [hs, ev_mk, ev_fold, ev_ite, ite_self, implies_true, ev_putDelta, ev_rearmStall])
  repeat' split
  all_goals first
    | (with_reducible exact hs)
    | (simp (maxDischargeDepth := 40) +contextual only [hs, ev_mk, ev_fold, ev_ite, ite_self, implies_true, ev_putDelta, ev_rearmStall]; done)

theorem ev_completeRow {r₀ : State} (r : LogRow) {s : State} (hs : Evolves r₀ s) : Evolves r₀ (completeRow r s) := by
  unfold completeRow
  refine ev_sendCmps _ (ev_checkLogFull (ev_count1 _ _ ?_))
  simp only
  have h : ∀ t : State, Evolves r₀ t → Evolves r₀ (linesOnMedium ((r.lines.filter fun l => l.moved.isNone).map (·.line))
      (r.lines.foldl (fun t l => match l.moved with
        | some source => landMove l source t
        | none => landStaged r.mark l t) (r.lines.foldl (fun t l => putEntry l.entry t) t))) := fun t ht =>
    ev_linesOnMedium _ (ev_foldl (fun t l ht => by
      split
      · exact ev_landMove _ _ ht
      · exact ev_landStaged _ _ ht) _ (ev_foldl (fun t l ht => ev_putEntry _ ht) _ ht))
  have h' := h { s with med := { s.med with rows := s.med.rows.map fun x => if x.mark == r.mark then { x with complete := true } else x } } hs
  split
  · exact ev_programTail h'
  · split
    · exact ev_programEntries h'
    · exact h'

theorem ev_startJobs {r₀ : State} (jobs : List Job) {s : State} (hs : Evolves r₀ s) : Evolves r₀ (startJobs jobs s).2 := by
  induction jobs generalizing s with
  | nil => exact hs
  | cons j l ih => exact ih (ev_takeStamp hs)

theorem ev_landRow {r₀ : State} (r : LogRow) {s : State} (hs : Evolves r₀ s) : Evolves r₀ (landRow r s) := by
  unfold landRow
  refine ev_completeRow _ (ev_foldl (fun t u ht => ev_sectorProgrammed _ _ ht) _
    (ev_foldl (fun t j ht => ev_programsRun _ _ _ _ ht) _ (ev_rowStarted _ _ (ev_startJobs _ (ev_endOverruns ?_)))))
  simpa only [ev_mk, ev_fold] using hs

theorem ev_flushLog {r₀ : State} (n : Nat) {s : State} (hs : Evolves r₀ s) : Evolves r₀ (flushLog n s) := by
  induction n generalizing s with
  | zero => exact hs
  | succ n ih =>
    unfold flushLog
    split
    · exact ih (ev_landRow _ hs)
    · simp only
      split
      · exact ih (ev_dispatchRow hs)
      · exact hs

theorem ev_programAll {r₀ s : State} (hs : Evolves r₀ s) : Evolves r₀ (programAll s) := by
  unfold programAll
  simp (maxDischargeDepth := 40) +contextual only [hs, ev_mk, ev_fold, ev_ite, ite_self, implies_true, ev_flushLog, ev_programTail]

theorem ev_noteChange (key kind path privilege session counter length : Nat) (old new : List Byte) {r₀ s : State} (hs : Evolves r₀ s) :
    Evolves r₀ (noteChange key kind path privilege session counter length old new s) := by
  unfold noteChange
  exact ev_raiseIf _ _ (ev_raise _ (ev_bump _ (ev_takeStamp (ev_mgmt _ hs ⟨fun hn => by simp; omega, id, id, id⟩))))

theorem ev_noteOwnChange (key kind : Nat) (old : List Byte) {r₀ s : State} (hs : Evolves r₀ s) : Evolves r₀ (noteOwnChange key kind old s)
        := by
  unfold noteOwnChange
  simp (maxDischargeDepth := 40) +contextual only [hs, ev_mk, ev_fold, ev_ite, ite_self, implies_true, ev_noteChange]

theorem ev_endSessions (gone : Session → Bool) {r₀ s : State} (hs : Evolves r₀ s) : Evolves r₀ (endSessions gone s) :=
  ev_mgmt _ hs ⟨id, fun h => Nat.le_trans (List.length_filter_le _ _) h, id, id⟩

theorem ev_endAllSessions {r₀ s : State} (hs : Evolves r₀ s) : Evolves r₀ (endAllSessions s) := by
  unfold endAllSessions
  simp (maxDischargeDepth := 40) +contextual only [hs, ev_mk, ev_fold, ev_ite, ite_self, implies_true, ev_endSessions]

theorem ev_endPortSessions (p : Port) {r₀ s : State} (hs : Evolves r₀ s) : Evolves r₀ (endPortSessions p s) := by
  unfold endPortSessions
  simp (maxDischargeDepth := 40) +contextual only [hs, ev_mk, ev_fold, ev_ite, ite_self, implies_true, ev_endSessions]

theorem ev_putSession (x : Session) {r₀ s : State} (hs : Evolves r₀ s) : Evolves r₀ (putSession x s) :=
  ev_mgmt _ hs ⟨id, fun h => Nat.le_trans (Nat.le_of_eq (List.length_map _)) h, id, id⟩

theorem ev_deliver {r₀ : State} (req : Req) (o : Out) {s : State} (hs : Evolves r₀ s) : Evolves r₀ (deliver req o s) := by
  have h (l : List Out) : Evolves r₀ { s with out := s.out ++ l } := { hs with sent := hs.sent.trans (List.prefix_append _ _) }
  unfold deliver
  split
  · exact ev_emit _ hs
  · exact ev_putSession _ (h _)

theorem ev_endWith (req : Req) (idx sub : Nat) (ask : DictAsk) (status : Nat) {r₀ s : State} (hs : Evolves r₀ s) : Evolves r₀ (endWith req
        idx sub ask status s) := by
  unfold endWith
  simp (maxDischargeDepth := 40) +contextual only [hs, ev_mk, ev_fold, ev_ite, ite_self, implies_true, ev_deliver]

theorem ev_overtakeDeferred {r₀ s : State} (hs : Evolves r₀ s) : Evolves r₀ (overtakeDeferred s) := by
  unfold overtakeDeferred
  simp (maxDischargeDepth := 40) +contextual only [hs, ev_mk, ev_fold, ev_ite, ite_self, implies_true, ev_endWith, ev_foldl]

theorem ev_setAction (key status : Nat) {r₀ s : State} (hs : Evolves r₀ s) : Evolves r₀ (setAction key status s) := by
  unfold setAction
  simp (maxDischargeDepth := 40) +contextual only [hs, ev_mk, ev_fold, ev_ite, ite_self, implies_true]

theorem ev_endAction (key status : Nat) {r₀ s : State} (hs : Evolves r₀ s) : Evolves r₀ (endAction key status s) := by
  unfold endAction
  simp (maxDischargeDepth := 40) +contextual only [hs, ev_mk, ev_fold, ev_ite, ite_self, implies_true, ev_setAction]

theorem ev_dropPrefetches (d : Nat) {r₀ s : State} (hs : Evolves r₀ s) : Evolves r₀ (dropPrefetches d s) := by
  unfold dropPrefetches
  simp (maxDischargeDepth := 40) +contextual only [hs, ev_mk, ev_fold, ev_ite, ite_self, implies_true, ev_bump, ev_dropRead, ev_foldl]

theorem ev_noteReconstruction (r : Read) {r₀ s : State} (hs : Evolves r₀ s) : Evolves r₀ (noteReconstruction r s) := by
  unfold noteReconstruction
  (try simp (maxDischargeDepth := 40) +contextual only [hs, ev_mk, ev_fold, ev_ite, ite_self, implies_true, ev_bump, ev_count1])
  repeat' split
  all_goals first
    | (with_reducible exact hs)
    | (simp (maxDischargeDepth := 40) +contextual only [hs, ev_mk, ev_fold, ev_ite, ite_self, implies_true, ev_bump, ev_count1]; done)

theorem ev_placeRead (r : Read) {r₀ s : State} (hs : Evolves r₀ s) : Evolves r₀ (placeRead r s) := by
  unfold placeRead
  simp (maxDischargeDepth := 40) +contextual only [hs, ev_mk, ev_fold, ev_ite, ite_self, implies_true, ev_addRead, ev_dropPrefetches,
        ev_noteReconstruction]

theorem ev_tagRead (r : Read) {r₀ s : State} (hs : Evolves r₀ s) : Evolves r₀ (tagRead r s) := by
  unfold tagRead
  (try simp (maxDischargeDepth := 40) +contextual only [hs, ev_mk, ev_fold, ev_ite, ite_self, implies_true, ev_placeRead])
  repeat' split
  all_goals first
    | (with_reducible exact hs)
    | (simp (maxDischargeDepth := 40) +contextual only [hs, ev_mk, ev_fold, ev_ite, ite_self, implies_true, ev_placeRead]; done)

theorem ev_dispatchRead (p : Port) (r : Read) {r₀ s : State} (hs : Evolves r₀ s) : Evolves r₀ (dispatchRead p r s) := by
  unfold dispatchRead
  (try simp (maxDischargeDepth := 40) +contextual only [hs, ev_mk, ev_fold, ev_ite, ite_self, implies_true, ev_bump, ev_count1, ev_dropRead,
        ev_placeRead, ev_tagRead, ev_foldl])
  repeat' split
  all_goals first
    | (with_reducible exact hs)
    | (simp (maxDischargeDepth := 40) +contextual only [hs, ev_mk, ev_fold, ev_ite, ite_self, implies_true, ev_bump, ev_count1, ev_dropRead,
        ev_placeRead, ev_tagRead, ev_foldl]; done)

theorem ev_readMedium (p : Port) (r : Read) {r₀ s : State} (hs : Evolves r₀ s) : Evolves r₀ (readMedium p r s) := by
  unfold readMedium
  (try simp (maxDischargeDepth := 40) +contextual only [hs, ev_mk, ev_fold, ev_ite, ite_self, implies_true, ev_addRead, ev_answerRead,
        ev_dispatchRead, ev_startRebuild])
  repeat' split
  all_goals first
    | (with_reducible exact hs)
    | (simp (maxDischargeDepth := 40) +contextual only [hs, ev_mk, ev_fold, ev_ite, ite_self, implies_true, ev_addRead, ev_answerRead,
        ev_dispatchRead, ev_startRebuild]; done)

theorem ev_releaseReads {r₀ : State} (ready : Nat → Bool) {s : State} (hs : Evolves r₀ s) : Evolves r₀ (releaseReads ready s) := by
  refine ev_foldl (fun t r ht => ?_) _ hs
  simp only
  have h := ev_raiseTo 0x404106 (t.clock - r.acceptedAt) (ev_dropRead r.id ht)
  split
  · exact ev_readMedium _ _ h
  · exact ev_readMedium _ _ h
  · exact h

theorem ev_nextRebuild {r₀ s : State} (hs : Evolves r₀ s) : Evolves r₀ (nextRebuild s) := by
  unfold nextRebuild
  (try simp (maxDischargeDepth := 40) +contextual only [hs, ev_mk, ev_fold, ev_ite, ite_self, implies_true, ev_bump])
  repeat' split
  all_goals first
    | (with_reducible exact hs)
    | (simp (maxDischargeDepth := 40) +contextual only [hs, ev_mk, ev_fold, ev_ite, ite_self, implies_true, ev_bump]; done)

theorem ev_readCheckpoint (seg : Nat) {r₀ s : State} (hs : Evolves r₀ s) : Evolves r₀ (readCheckpoint seg s) := by
  unfold readCheckpoint
  (try simp (maxDischargeDepth := 40) +contextual only [hs, ev_mk, ev_fold, ev_ite, ite_self, implies_true, ev_agentReads])
  repeat' split
  all_goals first
    | (with_reducible exact hs)
    | (simp (maxDischargeDepth := 40) +contextual only [hs, ev_mk, ev_fold, ev_ite, ite_self, implies_true, ev_agentReads]; done)

theorem ev_finishRebuild (seg : Nat) {r₀ s : State} (hs : Evolves r₀ s) : Evolves r₀ (finishRebuild seg s) := by
  unfold finishRebuild
  simp (maxDischargeDepth := 40) +contextual only [hs, ev_mk, ev_fold, ev_ite, ite_self, implies_true, ev_nextRebuild, ev_readCheckpoint,
        ev_rebuildSegment, ev_releaseReads]

theorem ev_demandNow (seg : Nat) {r₀ s : State} (hs : Evolves r₀ s) : Evolves r₀ (demandNow seg s) := by
  unfold demandNow
  simp (maxDischargeDepth := 40) +contextual only [hs, ev_mk, ev_fold, ev_ite, ite_self, implies_true, ev_bump, ev_finishRebuild]

theorem ev_fill (r : Read) (tags : BitVec 4) {r₀ s : State} (hs : Evolves r₀ s) : Evolves r₀ (fill r tags s) := by
  unfold fill
  simp (maxDischargeDepth := 40) +contextual only [hs, ev_mk, ev_fold, ev_ite, ite_self, implies_true, ev_addTo, ev_installFill]

theorem ev_prefetch (r : Read) {r₀ s : State} (hs : Evolves r₀ s) : Evolves r₀ (prefetch r s) := by
  unfold prefetch
  (try simp (maxDischargeDepth := 40) +contextual only [hs, ev_mk, ev_fold, ev_ite, ite_self, implies_true, ev_addRead, ev_bump,
        ev_dropPrefetches])
  repeat' split
  all_goals first
    | (with_reducible exact hs)
    | (simp (maxDischargeDepth := 40) +contextual only [hs, ev_mk, ev_fold, ev_ite, ite_self, implies_true, ev_addRead, ev_bump,
        ev_dropPrefetches]; done)

theorem ev_respond (r : Read) {r₀ s : State} (hs : Evolves r₀ s) : Evolves r₀ (respond r s) := by
  unfold respond
  (try simp (maxDischargeDepth := 40) +contextual only [hs, ev_mk, ev_fold, ev_ite, ite_self, implies_true, ev_answerRead, ev_dropRead,
        ev_modRead, ev_prefetch, ev_refillPrompt])
  repeat' split
  all_goals first
    | (with_reducible exact hs)
    | (simp (maxDischargeDepth := 40) +contextual only [hs, ev_mk, ev_fold, ev_ite, ite_self, implies_true, ev_answerRead, ev_dropRead,
        ev_modRead, ev_prefetch, ev_refillPrompt]; done)

theorem ev_reportDeadline (reads : List Read) (outcome : Nat) {r₀ s : State} (hs : Evolves r₀ s) : Evolves r₀ (reportDeadline reads outcome
        s) := by
  unfold reportDeadline
  (try simp (maxDischargeDepth := 40) +contextual only [hs, ev_mk, ev_fold, ev_ite, ite_self, implies_true, ev_raise, ev_foldl])
  repeat' split
  all_goals first
    | (with_reducible exact hs)
    | (simp (maxDischargeDepth := 40) +contextual only [hs, ev_mk, ev_fold, ev_ite, ite_self, implies_true, ev_raise, ev_foldl]; done)

theorem ev_fillSector {r₀ : State} (r : Read) (all : List Read) (tags : BitVec 4) {s : State} (hs : Evolves r₀ s) :
    Evolves r₀ (fillSector r all tags s) := by
  refine ev_cond (ev_foldl (fun t l ht => ?_) _ hs) (ev_fill _ _ hs)
  split
  · exact ev_fill _ _ ht
  · exact ht

theorem ev_openRetry (r : Read) {r₀ s : State} (hs : Evolves r₀ s) : Evolves r₀ (openRetry r s) := by
  unfold openRetry
  simp (maxDischargeDepth := 40) +contextual only [hs, ev_mk, ev_fold, ev_ite, ite_self, implies_true, ev_reconstructionReads, ev_sectorMoved]

theorem ev_startRetry (r : Read) {r₀ s : State} (hs : Evolves r₀ s) : Evolves r₀ (startRetry r s) := by
  unfold startRetry
  simp (maxDischargeDepth := 40) +contextual only [hs, ev_mk, ev_fold, ev_ite, ite_self, implies_true, ev_modRead, ev_openRetry,
        ev_refillPrompt]

theorem ev_ladderLines (r : Read) (tags : BitVec 4) {r₀ s : State} (hs : Evolves r₀ s) : Evolves r₀ (ladderLines r tags s) := by
  unfold ladderLines
  simp (maxDischargeDepth := 40) +contextual only [hs, ev_mk, ev_fold, ev_ite, ite_self, implies_true, ev_addRead, ev_openRetry, ev_foldl]

theorem ev_installLine (r : Read) {r₀ s : State} (hs : Evolves r₀ s) : Evolves r₀ (installLine r s) := by
  unfold installLine
  simp (maxDischargeDepth := 40) +contextual only [hs, ev_mk, ev_fold, ev_ite, ite_self, implies_true, ev_installFill]

theorem ev_takeBlocks (blocks : List (Nat × Option Nat)) {r₀ s : State} (hs : Evolves r₀ s) : Evolves r₀ (takeBlocks blocks s) := by
  unfold takeBlocks
  simp (maxDischargeDepth := 40) +contextual only [hs, ev_mk, ev_fold, ev_ite, ite_self, implies_true]

theorem ev_takeOld {r₀ s : State} (hs : Evolves r₀ s) : Evolves r₀ (takeOld s) := by
  unfold takeOld
  simp (maxDischargeDepth := 40) +contextual only [hs, ev_mk, ev_fold, ev_ite, ite_self, implies_true]

theorem ev_evict {r₀ s : State} (hs : Evolves r₀ s) : Evolves r₀ (evict s) := by
  unfold evict
  simp (maxDischargeDepth := 40) +contextual only [hs, ev_mk, ev_fold, ev_ite, ite_self, implies_true, ev_takeBlocks, ev_takeOld]

theorem ev_stageLine (line : Nat) (grp tag : Option Nat) (d : Line) (poison : Bool) (stamp wmode : Nat) (cmpTo : List (Port × Nat)) {r₀ s :
        State} (hs : Evolves r₀ s) : Evolves r₀ (stageLine line grp tag d poison stamp wmode cmpTo s) := by
  unfold stageLine
  simp (maxDischargeDepth := 40) +contextual only [hs, ev_mk, ev_fold, ev_ite, ite_self, implies_true, ev_evict]

theorem ev_storeCommitted (line : Nat) (d : Line) (poison : Bool) (stamp wmode : Nat) (cmpTo : List (Port × Nat)) {r₀ s : State} (hs :
        Evolves r₀ s) : Evolves r₀ (storeCommitted line d poison stamp wmode cmpTo s) := by
  unfold storeCommitted
  simp (maxDischargeDepth := 40) +contextual only [hs, ev_mk, ev_fold, ev_ite, ite_self, implies_true, ev_dirtySegment, ev_pruneRanges,
        ev_stageLine, ev_storeToCaches]

theorem ev_storeProvisional (g line : Nat) (d : Line) (poison : Bool) (stamp wmode : Nat) (cmpTo : List (Port × Nat)) {r₀ s : State} (hs :
        Evolves r₀ s) : Evolves r₀ (storeProvisional g line d poison stamp wmode cmpTo s) := by
  unfold storeProvisional
  simp (maxDischargeDepth := 40) +contextual only [hs, ev_mk, ev_fold, ev_ite, ite_self, implies_true, ev_checkPool, ev_dirtySegment,
        ev_setGroup, ev_stageLine]

theorem ev_markConflict (g page : Nat) {r₀ s : State} (hs : Evolves r₀ s) : Evolves r₀ (markConflict g page s) := by
  unfold markConflict
  simp (maxDischargeDepth := 40) +contextual only [hs, ev_mk, ev_fold, ev_ite, ite_self, implies_true, ev_setGroup]

theorem ev_sampleStore (p : Port) (x : Store) (stamp : Nat) {r₀ s : State} (hs : Evolves r₀ s) : Evolves r₀ (sampleStore p x stamp s) := by
  unfold sampleStore
  simp (maxDischargeDepth := 40) +contextual only [hs, ev_mk, ev_fold, ev_ite, ite_self, implies_true, ev_placeSample]

theorem ev_cmpStore (p : Port) (x : Store) {r₀ s : State} (hs : Evolves r₀ s) : Evolves r₀ (cmpStore p x s) := by
  unfold cmpStore
  simp (maxDischargeDepth := 40) +contextual only [hs, ev_mk, ev_fold, ev_ite, ite_self, implies_true, ev_sendCmp]

theorem ev_visibleStore (p : Port) (x : Store) (d : Line) (poison : Bool) {r₀ s : State} (hs : Evolves r₀ s) : Evolves r₀ (visibleStore p x
        d poison s) := by
  unfold visibleStore
  (try simp (maxDischargeDepth := 40) +contextual only [hs, ev_mk, ev_fold, ev_ite, ite_self, implies_true, ev_cmpStore, ev_dropStores,
        ev_forceAbort, ev_markConflict, ev_sampleStore, ev_storeCommitted, ev_storeProvisional, ev_takeStamp])
  repeat' split
  all_goals first
    | (with_reducible exact hs)
    | (simp (maxDischargeDepth := 40) +contextual only [hs, ev_mk, ev_fold, ev_ite, ite_self, implies_true, ev_cmpStore, ev_dropStores,
        ev_forceAbort, ev_markConflict, ev_sampleStore, ev_storeCommitted, ev_storeProvisional, ev_takeStamp]; done)

theorem ev_unqueue (p : Port) (x : Store) {r₀ s : State} (hs : Evolves r₀ s) : Evolves r₀ (unqueue p x s) := by
  unfold unqueue
  simp (maxDischargeDepth := 40) +contextual only [hs, ev_mk, ev_fold, ev_ite, ite_self, implies_true, ev_grantCredits, ev_modPort]

theorem ev_endMerge (p : Port) (x : Store) {r₀ s : State} (hs : Evolves r₀ s) : Evolves r₀ (endMerge p x s) := by
  unfold endMerge
  (try simp (maxDischargeDepth := 40) +contextual only [hs, ev_mk, ev_fold, ev_ite, ite_self, implies_true, ev_dropRead])
  repeat' split
  all_goals first
    | (with_reducible exact hs)
    | (simp (maxDischargeDepth := 40) +contextual only [hs, ev_mk, ev_fold, ev_ite, ite_self, implies_true, ev_dropRead]; done)

theorem ev_transfer (p : Port) (x : Store) {r₀ s : State} (hs : Evolves r₀ s) : Evolves r₀ (transfer p x s) := by
  unfold transfer
  simp (maxDischargeDepth := 40) +contextual only [hs, ev_mk, ev_fold, ev_ite, ite_self, implies_true, ev_answerMerges, ev_bump, ev_cmpStore,
        ev_endMerge, ev_raise, ev_unqueue, ev_visibleStore]

theorem ev_settleHolds {r₀ : State} (p : Port) {s : State} (hs : Evolves r₀ s) : Evolves r₀ (settleHolds p s) := by
  refine ev_foldl (fun t x ht => ?_) _ hs
  split
  · exact ht
  · exact ev_settle _ ht

theorem ev_drainLoop {r₀ : State} (n : Nat) (p : Port) (bound : Nat) {s : State} (hs : Evolves r₀ s) : Evolves r₀ (drainLoop n p bound s) := by
  induction n generalizing s with
  | zero => exact hs
  | succ n ih =>
    unfold drainLoop
    split
    · exact hs
    · exact ih (ev_transfer _ _ (ev_cond hs (ev_demandNow _ hs)))

theorem ev_drainTo (p : Port) (bound : Nat) {r₀ s : State} (hs : Evolves r₀ s) : Evolves r₀ (drainTo p bound s) := by
  unfold drainTo
  simp (maxDischargeDepth := 40) +contextual only [hs, ev_mk, ev_fold, ev_ite, ite_self, implies_true, ev_drainLoop, ev_modPort,
        ev_settleHolds]

theorem ev_drainPort (p : Port) {r₀ s : State} (hs : Evolves r₀ s) : Evolves r₀ (drainPort p s) := by
  unfold drainPort
  simp (maxDischargeDepth := 40) +contextual only [hs, ev_mk, ev_fold, ev_ite, ite_self, implies_true, ev_drainTo]

theorem ev_writeCell {r₀ : State} (c : Nat) (be : ByteEnables) (d : Line) {s : State} (hs : Evolves r₀ s) : Evolves r₀ (writeCell c be d s) := by
  have h (l : List Nat) (t : Tbl Word) (ht : rising t = true ∧ ∀ e ∈ t, e.2 ≠ 0) :
      rising (l.foldl (fun t w => match writtenWord w be d with
        | some v => tset 0 (8 * c + w) v t
        | none => t) t) = true ∧ ∀ e ∈ (l.foldl (fun t w => match writtenWord w be d with
        | some v => tset 0 (8 * c + w) v t
        | none => t) t), e.2 ≠ 0 := by
    induction l generalizing t with
    | nil => exact ht
    | cons w l ih =>
      rw [List.foldl_cons]
      refine ih _ ?_
      split
      · exact ⟨rising_tset _ _ _ ht.1, mem_tset_ne ht.2⟩
      · exact ht
  exact { hs with cells := fun hc => h _ _ (hs.cells hc) }

theorem ev_setReserved (p : Port) (l : List Nat) {r₀ s : State} (hs : Evolves r₀ s) : Evolves r₀ (setReserved p l s) := by
  unfold setReserved
  (try simp (maxDischargeDepth := 40) +contextual only [hs, ev_mk, ev_fold, ev_ite, ite_self, implies_true])
  repeat' split
  all_goals first
    | (with_reducible exact hs)
    | (simp (maxDischargeDepth := 40) +contextual only [hs, ev_mk, ev_fold, ev_ite, ite_self, implies_true]; done)

theorem ev_setResultLine (p : Port) (c : Nat) (r : ResultLine) {r₀ s : State} (hs : Evolves r₀ s) : Evolves r₀ (setResultLine p c r s) := by
  unfold setResultLine
  (try simp (maxDischargeDepth := 40) +contextual only [hs, ev_mk, ev_fold, ev_ite, ite_self, implies_true])
  repeat' split
  all_goals first
    | (with_reducible exact hs)
    | (simp (maxDischargeDepth := 40) +contextual only [hs, ev_mk, ev_fold, ev_ite, ite_self, implies_true]; done)

theorem ev_loseReservation (p : Port) (c : Nat) (cause : LossCause) {r₀ s : State} (hs : Evolves r₀ s) : Evolves r₀ (loseReservation p c
        cause s) := by
  unfold loseReservation
  simp (maxDischargeDepth := 40) +contextual only [hs, ev_mk, ev_fold, ev_ite, ite_self, implies_true, ev_setReserved, ev_setResultLine]

theorem ev_loseAll (p : Port) (cause : LossCause) {r₀ s : State} (hs : Evolves r₀ s) : Evolves r₀ (loseAll p cause s) := by
  unfold loseAll
  simp (maxDischargeDepth := 40) +contextual only [hs, ev_mk, ev_fold, ev_ite, ite_self, implies_true, ev_loseReservation, ev_foldl]

theorem ev_reserve (p : Port) (c : Nat) {r₀ s : State} (hs : Evolves r₀ s) : Evolves r₀ (reserve p c s) := by
  unfold reserve
  simp (maxDischargeDepth := 40) +contextual only [hs, ev_mk, ev_fold, ev_ite, ite_self, implies_true, ev_bump, ev_raise, ev_setReserved,
        ev_setResultLine]

theorem ev_plainStore (p : Port) (c : Nat) (be : ByteEnables) (d : Line) {r₀ s : State} (hs : Evolves r₀ s) : Evolves r₀ (plainStore p c be
        d s) := by
  unfold plainStore
  simp (maxDischargeDepth := 40) +contextual only [hs, ev_mk, ev_fold, ev_ite, ite_self, implies_true, ev_loseReservation, ev_takeStamp,
        ev_writeCell]

theorem ev_conditionalEffect (p : Port) (c : Nat) (be : ByteEnables) (d : Line) {r₀ s : State} (hs : Evolves r₀ s) : Evolves r₀
        (conditionalEffect p c be d s) := by
  unfold conditionalEffect
  simp (maxDischargeDepth := 40) +contextual only [hs, ev_mk, ev_fold, ev_ite, ite_self, implies_true, ev_bump, ev_loseReservation,
        ev_setReserved, ev_setResultLine, ev_takeStamp, ev_writeCell]

theorem ev_clearBarrier (p : Port) {r₀ s : State} (hs : Evolves r₀ s) : Evolves r₀ (clearBarrier p s) := by
  unfold clearBarrier
  simp (maxDischargeDepth := 40) +contextual only [hs, ev_mk, ev_fold, ev_ite, ite_self, implies_true, ev_bump, ev_modPort]

theorem ev_startDiscard (p : Port) {r₀ s : State} (hs : Evolves r₀ s) : Evolves r₀ (startDiscard p s) := by
  unfold startDiscard
  simp (maxDischargeDepth := 40) +contextual only [hs, ev_mk, ev_fold, ev_ite, ite_self, implies_true, ev_modPort]

theorem ev_writeDiscard (p : Port) (be : ByteEnables) (d : Line) {r₀ s : State} (hs : Evolves r₀ s) : Evolves r₀ (writeDiscard p be d s) :=
        by
  unfold writeDiscard
  (try simp (maxDischargeDepth := 40) +contextual only [hs, ev_mk, ev_fold, ev_ite, ite_self, implies_true, ev_modPort, ev_startDiscard])
  repeat' split
  all_goals first
    | (with_reducible exact hs)
    | (simp (maxDischargeDepth := 40) +contextual only [hs, ev_mk, ev_fold, ev_ite, ite_self, implies_true, ev_modPort, ev_startDiscard]; done)

theorem ev_writeDescriptor (k : Nat) (be : ByteEnables) (d : Line) {r₀ s : State} (hs : Evolves r₀ s) : Evolves r₀ (writeDescriptor k be d
        s) := by
  unfold writeDescriptor
  simp (maxDischargeDepth := 40) +contextual only [hs, ev_mk, ev_fold, ev_ite, ite_self, implies_true, ev_setChannel]

theorem ev_startDma (p : Port) (k : Nat) {r₀ s : State} (hs : Evolves r₀ s) : Evolves r₀ (startDma p k s) := by
  unfold startDma
  simp (maxDischargeDepth := 40) +contextual only [hs, ev_mk, ev_fold, ev_ite, ite_self, implies_true, ev_setChannel]

theorem ev_abortDma (k : Nat) {r₀ s : State} (hs : Evolves r₀ s) : Evolves r₀ (abortDma k s) := by
  unfold abortDma
  simp (maxDischargeDepth := 40) +contextual only [hs, ev_mk, ev_fold, ev_ite, ite_self, implies_true, ev_setChannel]

theorem ev_writeControl (p : Port) (k : Nat) (be : ByteEnables) (d : Line) {r₀ s : State} (hs : Evolves r₀ s) : Evolves r₀ (writeControl p k
        be d s) := by
  unfold writeControl
  (try simp (maxDischargeDepth := 40) +contextual only [hs, ev_mk, ev_fold, ev_ite, ite_self, implies_true, ev_abortDma, ev_startDma])
  repeat' split
  all_goals first
    | (with_reducible exact hs)
    | (simp (maxDischargeDepth := 40) +contextual only [hs, ev_mk, ev_fold, ev_ite, ite_self, implies_true, ev_abortDma, ev_startDma]; done)

theorem ev_countWindow (p : Port) (code : Nat) {r₀ s : State} (hs : Evolves r₀ s) : Evolves r₀ (countWindow p code s) := by
  unfold countWindow
  simp (maxDischargeDepth := 40) +contextual only [hs, ev_mk, ev_fold, ev_ite, ite_self, implies_true, ev_count1, ev_countEligible]

theorem ev_answerWindow (p : Port) (tag line : Nat) (sampled : Bool) (d : Line) {r₀ s : State} (hs : Evolves r₀ s) : Evolves r₀
        (answerWindow p tag line sampled d s) := by
  unfold answerWindow
  simp (maxDischargeDepth := 40) +contextual only [hs, ev_mk, ev_fold, ev_ite, ite_self, implies_true, ev_sampleWindow, ev_sendData]

theorem ev_readGroup (p : Port) (tag line g seq : Nat) (sampled : Bool) {r₀ s : State} (hs : Evolves r₀ s) : Evolves r₀ (readGroup p tag
        line g seq sampled s) := by
  unfold readGroup
  simp (maxDischargeDepth := 40) +contextual only [hs, ev_mk, ev_fold, ev_ite, ite_self, implies_true, ev_answerWindow, ev_setGroup]

theorem ev_readCell (p : Port) (tag line aliasNo c : Nat) (sampled : Bool) {r₀ s : State} (hs : Evolves r₀ s) : Evolves r₀ (readCell p tag
        line aliasNo c sampled s) := by
  unfold readCell
  simp (maxDischargeDepth := 40) +contextual only [hs, ev_mk, ev_fold, ev_ite, ite_self, implies_true, ev_answerWindow, ev_drawn, ev_reserve]

theorem ev_readBarrier (p : Port) (tag line acceptedAt : Nat) (sampled : Bool) {r₀ s : State} (hs : Evolves r₀ s) : Evolves r₀ (readBarrier
        p tag line acceptedAt sampled s) := by
  unfold readBarrier
  simp (maxDischargeDepth := 40) +contextual only [hs, ev_mk, ev_fold, ev_ite, ite_self, implies_true, ev_answerBarrier, ev_clearBarrier,
        ev_modPort]

theorem ev_readPortPage (p owner : Port) (tag line acceptedAt offset : Nat) (sampled : Bool) {r₀ s : State} (hs : Evolves r₀ s) : Evolves r₀
        (readPortPage p owner tag line acceptedAt offset sampled s) := by
  unfold readPortPage
  simp (maxDischargeDepth := 40) +contextual only [hs, ev_mk, ev_fold, ev_ite, ite_self, implies_true, ev_answerWindow, ev_readBarrier,
        ev_stray]

theorem ev_readDma (p : Port) (tag line k offset : Nat) (sampled : Bool) {r₀ s : State} (hs : Evolves r₀ s) : Evolves r₀ (readDma p tag line
        k offset sampled s) := by
  unfold readDma
  simp (maxDischargeDepth := 40) +contextual only [hs, ev_mk, ev_fold, ev_ite, ite_self, implies_true, ev_answerWindow, ev_stray]

theorem ev_readTarget {r₀ : State} (p : Port) (w : PortWait) {s : State} (hs : Evolves r₀ s) (t : WindowTarget) :
    Evolves r₀ (readTarget p w s t) := by
  cases t with
  | groupLine g => exact ev_readGroup _ _ _ _ _ _ hs
  | cell a c => exact ev_readCell _ _ _ _ _ _ hs
  | portPage o f => exact ev_readPortPage _ _ _ _ _ _ _ hs
  | counters l => exact ev_answerWindow _ _ _ _ _ hs
  | dma k f => exact ev_readDma _ _ _ _ _ _ hs
  | unused => exact ev_answerWindow _ _ _ _ _ (ev_stray _ hs)

theorem ev_writeGroup (p : Port) (g seq : Nat) (be : ByteEnables) (d : Line) {r₀ s : State} (hs : Evolves r₀ s) : Evolves r₀ (writeGroup p g
        seq be d s) := by
  unfold writeGroup
  (try simp (maxDischargeDepth := 40) +contextual only [hs, ev_mk, ev_fold, ev_ite, ite_self, implies_true, ev_dropStores, ev_raise,
        ev_setGroup, ev_strayIf, ev_submitCommand])
  repeat' split
  all_goals first
    | (with_reducible exact hs)
    | (simp (maxDischargeDepth := 40) +contextual only [hs, ev_mk, ev_fold, ev_ite, ite_self, implies_true, ev_dropStores, ev_raise, ev_setGroup,
        ev_strayIf, ev_submitCommand]; done)

theorem ev_writeAlias (p : Port) (aliasNo c : Nat) (be : ByteEnables) (d : Line) {r₀ s : State} (hs : Evolves r₀ s) : Evolves r₀ (writeAlias
        p aliasNo c be d s) := by
  unfold writeAlias
  simp (maxDischargeDepth := 40) +contextual only [hs, ev_mk, ev_fold, ev_ite, ite_self, implies_true, ev_conditionalEffect, ev_dropStores,
        ev_plainStore, ev_stray, ev_strayIf]

theorem ev_writePortPage (p owner : Port) (offset : Nat) (be : ByteEnables) (d : Line) {r₀ s : State} (hs : Evolves r₀ s) : Evolves r₀
        (writePortPage p owner offset be d s) := by
  unfold writePortPage
  simp (maxDischargeDepth := 40) +contextual only [hs, ev_mk, ev_fold, ev_ite, ite_self, implies_true, ev_stray, ev_strayIf, ev_writeDiscard]

theorem ev_writeDma (p : Port) (k offset : Nat) (be : ByteEnables) (d : Line) {r₀ s : State} (hs : Evolves r₀ s) : Evolves r₀ (writeDma p k
        offset be d s) := by
  unfold writeDma
  simp (maxDischargeDepth := 40) +contextual only [hs, ev_mk, ev_fold, ev_ite, ite_self, implies_true, ev_dropStores, ev_stray, ev_strayIf,
        ev_writeControl, ev_writeDescriptor]

theorem ev_writeTarget {r₀ : State} (p : Port) (seq : Nat) (be : ByteEnables) (d : Line) {s : State} (hs : Evolves r₀ s) (t : WindowTarget) :
    Evolves r₀ (writeTarget p seq be d s t) := by
  cases t with
  | groupLine g => exact ev_writeGroup _ _ _ _ _ hs
  | cell a c => exact ev_writeAlias _ _ _ _ _ hs
  | portPage o f => exact ev_writePortPage _ _ _ _ _ hs
  | counters l => exact ev_stray _ hs
  | dma k f => exact ev_writeDma _ _ _ _ _ hs
  | unused => exact ev_stray _ hs

theorem ev_serveAccess (p : Port) (w : PortWait) {r₀ s : State} (hs : Evolves r₀ s) : Evolves r₀ (serveAccess p w s) := by
  unfold serveAccess
  (try simp (maxDischargeDepth := 40) +contextual only [hs, ev_mk, ev_fold, ev_ite, ite_self, implies_true, ev_readTarget, ev_sampleWindow,
        ev_sendCmp, ev_stray, ev_writeTarget])
  repeat' split
  all_goals first
    | (with_reducible exact hs)
    | (simp (maxDischargeDepth := 40) +contextual only [hs, ev_mk, ev_fold, ev_ite, ite_self, implies_true, ev_readTarget, ev_sampleWindow,
        ev_sendCmp, ev_stray, ev_writeTarget]; done)

theorem ev_serveWaits {r₀ : State} (n : Nat) (p : Port) {s : State} (hs : Evolves r₀ s) : Evolves r₀ (serveWaits n p s) := by
  induction n generalizing s with
  | zero => exact hs
  | succ n ih =>
    unfold serveWaits
    split
    · exact hs
    · exact ev_cond hs (ih (ev_serveAccess _ _ (ev_modPort _ _ hs)))

theorem ev_serveFlushes (p : Port) {r₀ s : State} (hs : Evolves r₀ s) : Evolves r₀ (serveFlushes p s) := by
  unfold serveFlushes
  simp (maxDischargeDepth := 40) +contextual only [hs, ev_mk, ev_fold, ev_ite, ite_self, implies_true, ev_emit, ev_modPort, ev_raiseIf,
        ev_foldl]

theorem ev_resumePort (p : Port) {r₀ s : State} (hs : Evolves r₀ s) : Evolves r₀ (resumePort p s) := by
  unfold resumePort
  simp (maxDischargeDepth := 40) +contextual only [hs, ev_mk, ev_fold, ev_ite, ite_self, implies_true, ev_drainTo, ev_serveFlushes,
        ev_serveWaits]

theorem ev_triggerDrain (p : Port) {r₀ s : State} (hs : Evolves r₀ s) : Evolves r₀ (triggerDrain p s) := by
  unfold triggerDrain
  simp (maxDischargeDepth := 40) +contextual only [hs, ev_mk, ev_fold, ev_ite, ite_self, implies_true, ev_drainPort, ev_resumePort]

theorem ev_accessWindow (p : Port) (tag dpa code : Nat) (ask : PortAsk) {r₀ s : State} (hs : Evolves r₀ s) : Evolves r₀ (accessWindow p tag
        dpa code ask s) := by
  unfold accessWindow
  simp (maxDischargeDepth := 40) +contextual only [hs, ev_mk, ev_fold, ev_ite, ite_self, implies_true, ev_countWindow, ev_modPort, ev_takeSeq,
        ev_triggerDrain]

theorem ev_windowRead (p : Port) (tag dpa : Nat) {r₀ s : State} (hs : Evolves r₀ s) : Evolves r₀ (windowRead p tag dpa s) := by
  unfold windowRead
  simp (maxDischargeDepth := 40) +contextual only [hs, ev_mk, ev_fold, ev_ite, ite_self, implies_true, ev_accessWindow]

theorem ev_windowWrite (p : Port) (tag dpa : Nat) (be : ByteEnables) (d : Line) (poison : Bool) {r₀ s : State} (hs : Evolves r₀ s) : Evolves
        r₀ (windowWrite p tag dpa be d poison s) := by
  unfold windowWrite
  simp (maxDischargeDepth := 40) +contextual only [hs, ev_mk, ev_fold, ev_ite, ite_self, implies_true, ev_accessWindow, ev_countWrite,
        ev_useCredit]

theorem ev_groupCommandWrite (p : Port) (tag g code : Nat) (a b : Option Word) {r₀ s : State} (hs : Evolves r₀ s) : Evolves r₀
        (groupCommandWrite p tag g code a b s) := by
  unfold groupCommandWrite
  simp (maxDischargeDepth := 40) +contextual only [hs, ev_mk, ev_fold, ev_ite, ite_self, implies_true, ev_windowWrite]

theorem ev_raiseReady (p : Port) {r₀ s : State} (hs : Evolves r₀ s) : Evolves r₀ (raiseReady p s) := by
  unfold raiseReady
  simp (maxDischargeDepth := 40) +contextual only [hs, ev_mk, ev_fold, ev_ite, ite_self, implies_true, ev_modPort, ev_put, ev_raise]

theorem ev_dropReady (p : Port) {r₀ s : State} (hs : Evolves r₀ s) : Evolves r₀ (dropReady p s) := by
  unfold dropReady
  simp (maxDischargeDepth := 40) +contextual only [hs, ev_mk, ev_fold, ev_ite, ite_self, implies_true, ev_modPort, ev_put]

theorem ev_forgetRequests (p : Port) {r₀ s : State} (hs : Evolves r₀ s) : Evolves r₀ (forgetRequests p s) := by
  unfold forgetRequests
  simp (maxDischargeDepth := 40) +contextual only [hs, ev_mk, ev_fold, ev_ite, ite_self, implies_true, ev_dropRead, ev_modPort, ev_setGroup,
        ev_foldl]

theorem ev_dropLink (p : Port) {r₀ s : State} (hs : Evolves r₀ s) : Evolves r₀ (dropLink p s) := by
  unfold dropLink
  simp (maxDischargeDepth := 40) +contextual only [hs, ev_mk, ev_fold, ev_ite, ite_self, implies_true, ev_endPortSessions, ev_forgetRequests,
        ev_modPort, ev_put, ev_raiseIf]

theorem ev_closeDrained (p : Port) {r₀ s : State} (hs : Evolves r₀ s) : Evolves r₀ (closeDrained p s) := by
  unfold closeDrained
  simp (maxDischargeDepth := 40) +contextual only [hs, ev_mk, ev_fold, ev_ite, ite_self, implies_true, ev_dropLink]

theorem ev_goOn (p : Port) {r₀ s : State} (hs : Evolves r₀ s) : Evolves r₀ (goOn p s) := by
  unfold goOn
  simp (maxDischargeDepth := 40) +contextual only [hs, ev_mk, ev_fold, ev_ite, ite_self, implies_true, ev_closeDrained, ev_resumePort]

theorem ev_portException (p : Port) (cause : Nat) {r₀ s : State} (hs : Evolves r₀ s) : Evolves r₀ (portException p cause s) := by
  unfold portException
  simp (maxDischargeDepth := 40) +contextual only [hs, ev_mk, ev_fold, ev_ite, ite_self, implies_true, ev_bump, ev_loseAll, ev_put, ev_raise,
        ev_triggerDrain]

theorem ev_bothExceptions (cause : Nat) {r₀ s : State} (hs : Evolves r₀ s) : Evolves r₀ (bothExceptions cause s) := by
  unfold bothExceptions
  simp (maxDischargeDepth := 40) +contextual only [hs, ev_mk, ev_fold, ev_ite, ite_self, implies_true, ev_portException]

theorem ev_haltChannel (k cause dpa direction : Nat) {r₀ s : State} (hs : Evolves r₀ s) : Evolves r₀ (haltChannel k cause dpa direction s)
        := by
  unfold haltChannel
  simp (maxDischargeDepth := 40) +contextual only [hs, ev_mk, ev_fold, ev_ite, ite_self, implies_true, ev_bump, ev_raise, ev_setChannel]

theorem ev_haltDma (failed : Option Nat) {r₀ s : State} (hs : Evolves r₀ s) : Evolves r₀ (haltDma failed s) := by
  unfold haltDma
  simp (maxDischargeDepth := 40) +contextual only [hs, ev_mk, ev_fold, ev_ite, ite_self, implies_true, ev_drawn, ev_haltChannel, ev_foldl]

theorem ev_recordFailure (obj : FailedObject) {r₀ s : State} (hs : Evolves r₀ s) : Evolves r₀ (recordFailure obj s) := by
  unfold recordFailure
  simp (maxDischargeDepth := 40) +contextual only [hs, ev_mk, ev_fold, ev_ite, ite_self, implies_true, ev_bump, ev_put, ev_raise,
        ev_takeStamp]

theorem ev_silence {r₀ s : State} (hs : Evolves r₀ s) : Evolves r₀ (silence s) := by
  unfold silence
  simp (maxDischargeDepth := 40) +contextual only [hs, ev_mk, ev_fold, ev_ite, ite_self, implies_true, ev_modPort]

theorem ev_setAsideNamed {r₀ s : State} (hs : Evolves r₀ s) : Evolves r₀ (setAsideNamed s) := by
  unfold setAsideNamed
  simp (maxDischargeDepth := 40) +contextual only [hs, ev_mk, ev_fold, ev_ite, ite_self, implies_true, ev_modPort]

theorem ev_settleAll {r₀ s : State} (hs : Evolves r₀ s) : Evolves r₀ (settleAll s) := by
  unfold settleAll
  simp (maxDischargeDepth := 40) +contextual only [hs, ev_mk, ev_fold, ev_ite, ite_self, implies_true, ev_settle, ev_foldl]

theorem ev_finishLoop {r₀ : State} (n : Nat) {s : State} (hs : Evolves r₀ s) : Evolves r₀ (finishLoop n s) := by
  induction n generalizing s with
  | zero => exact hs
  | succ n ih => exact ev_cond (ih (ev_triggerDrain _ (ev_triggerDrain _ (ev_settleAll (ev_programAll hs))))) hs

theorem ev_finishAccepted {r₀ s : State} (hs : Evolves r₀ s) : Evolves r₀ (finishAccepted s) := by
  unfold finishAccepted
  simp (maxDischargeDepth := 40) +contextual only [hs, ev_mk, ev_fold, ev_ite, ite_self, implies_true, ev_finishLoop, ev_foldl]

theorem ev_stopDozeEntry {r₀ s : State} (hs : Evolves r₀ s) : Evolves r₀ (stopDozeEntry s) := by
  unfold stopDozeEntry
  (try simp (maxDischargeDepth := 40) +contextual only [hs, ev_mk, ev_fold, ev_ite, ite_self, implies_true, ev_endAction, ev_modPort])
  repeat' split
  all_goals first
    | (with_reducible exact hs)
    | (simp (maxDischargeDepth := 40) +contextual only [hs, ev_mk, ev_fold, ev_ite, ite_self, implies_true, ev_endAction, ev_modPort]; done)

theorem ev_haltNow (failed : Option Nat) {r₀ s : State} (hs : Evolves r₀ s) : Evolves r₀ (haltNow failed s) := by
  unfold haltNow
  simp (maxDischargeDepth := 40) +contextual only [hs, ev_mk, ev_fold, ev_ite, ite_self, implies_true, ev_bothExceptions, ev_dropReady,
        ev_finishAccepted, ev_forgetRequests, ev_haltDma, ev_put, ev_setAsideNamed, ev_setMode, ev_settleAll, ev_silence, ev_stopDozeEntry]

theorem ev_failCheck (obj : FailedObject) {r₀ s : State} (hs : Evolves r₀ s) : Evolves r₀ (failCheck obj s) := by
  unfold failCheck
  simp (maxDischargeDepth := 40) +contextual only [hs, ev_mk, ev_fold, ev_ite, ite_self, implies_true, ev_haltNow, ev_recordFailure,
        ev_setAsideNamed]

theorem ev_noteDelays (j : Job) (causes : List Nat) {r₀ s : State} (hs : Evolves r₀ s) : Evolves r₀ (noteDelays j causes s) := by
  unfold noteDelays
  simp (maxDischargeDepth := 40) +contextual only [hs, ev_mk, ev_fold, ev_ite, ite_self, implies_true, ev_bump, ev_raiseIf, ev_foldl]

theorem ev_dispatch (j : Job) {r₀ s : State} (hs : Evolves r₀ s) : Evolves r₀ (dispatch j s) := by
  unfold dispatch
  simp (maxDischargeDepth := 40) +contextual only [hs, ev_mk, ev_fold, ev_ite, ite_self, implies_true, ev_raiseTo, ev_takeStamp]

theorem ev_grantChunk (t : Transfer) {r₀ s : State} (hs : Evolves r₀ s) : Evolves r₀ (grantChunk t s) := by
  unfold grantChunk
  simp (maxDischargeDepth := 40) +contextual only [hs, ev_mk, ev_fold, ev_ite, ite_self, implies_true, ev_addTo, ev_count1]

theorem ev_bankProgrammed (die : Nat) {r₀ s : State} (hs : Evolves r₀ s) : Evolves r₀ (bankProgrammed die s) := by
  unfold bankProgrammed
  simp (maxDischargeDepth := 40) +contextual only [hs, ev_mk, ev_fold, ev_ite, ite_self, implies_true, ev_takeStamp, ev_foldl]

theorem ev_memberProgrammed (p : StripePage) (x : ProgramStart) {r₀ s : State} (hs : Evolves r₀ s) : Evolves r₀ (memberProgrammed p x s) :=
        by
  unfold memberProgrammed
  simp (maxDischargeDepth := 40) +contextual only [hs, ev_mk, ev_fold, ev_ite, ite_self, implies_true, ev_pageProgrammed, ev_setStripe]

theorem ev_opSucceeded (o : Op) {r₀ s : State} (hs : Evolves r₀ s) : Evolves r₀ (opSucceeded o s) := by
  unfold opSucceeded
  (try simp (maxDischargeDepth := 40) +contextual only [hs, ev_mk, ev_fold, ev_ite, ite_self, implies_true, ev_bankProgrammed, ev_finishReset,
        ev_memberProgrammed, ev_rowStarted, ev_sectorProgrammed, ev_unitReset])
  repeat' split
  all_goals first
    | (with_reducible exact hs)
    | (simp (maxDischargeDepth := 40) +contextual only [hs, ev_mk, ev_fold, ev_ite, ite_self, implies_true, ev_bankProgrammed, ev_finishReset,
        ev_memberProgrammed, ev_rowStarted, ev_sectorProgrammed, ev_unitReset]; done)

theorem ev_opFailed (o : Op) {r₀ s : State} (hs : Evolves r₀ s) : Evolves r₀ (opFailed o s) := by
  unfold opFailed
  (try simp (maxDischargeDepth := 40) +contextual only [hs, ev_mk, ev_fold, ev_ite, ite_self, implies_true, ev_bump, ev_finishReset,
        ev_lastingFault, ev_raise])
  repeat' split
  all_goals first
    | (with_reducible exact hs)
    | (simp (maxDischargeDepth := 40) +contextual only [hs, ev_mk, ev_fold, ev_ite, ite_self, implies_true, ev_bump, ev_finishReset,
        ev_lastingFault, ev_raise]; done)

theorem ev_completePage (p : StripePage) {r₀ s : State} (hs : Evolves r₀ s) : Evolves r₀ (completePage p s) := by
  unfold completePage
  simp (maxDischargeDepth := 40) +contextual only [hs, ev_mk, ev_fold, ev_ite, ite_self, implies_true, ev_addTo, ev_foldl]

theorem ev_allocate (cause stripe : Nat) {r₀ s : State} (hs : Evolves r₀ s) : Evolves r₀ (allocate cause stripe s) := by
  unfold allocate
  simp (maxDischargeDepth := 40) +contextual only [hs, ev_mk, ev_fold, ev_ite, ite_self, implies_true, ev_notePool, ev_orderReset,
        ev_setStripe, ev_setUnitState, ev_foldl]

theorem ev_destination {r₀ : State} (cause floor : Nat) {s : State} (hs : Evolves r₀ s) : Evolves r₀ (destination cause floor s).2 := by
  unfold destination
  split
  · exact hs
  · split
    · exact hs
    · exact ev_allocate _ _ hs

theorem ev_takePage {r₀ : State} (stripe cause writer : Nat) (moves : List PageMove) {s : State} (hs : Evolves r₀ s) :
    Evolves r₀ (takePage stripe cause writer moves s).2 := by
  have h (r : StripeRec) : Evolves r₀ (s.setStripe stripe r) := ev_setStripe stripe r hs
  unfold takePage
  simp only [ev_mk, ev_fold]
  exact h _

theorem ev_queuePage (p : StripePage) {r₀ s : State} (hs : Evolves r₀ s) : Evolves r₀ (queuePage p s) := by
  unfold queuePage
  simp (maxDischargeDepth := 40) +contextual only [hs, ev_mk, ev_fold, ev_ite, ite_self, implies_true]

theorem ev_dropFolded (line stamp : Nat) {r₀ s : State} (hs : Evolves r₀ s) : Evolves r₀ (dropFolded line stamp s) := by
  unfold dropFolded
  simp (maxDischargeDepth := 40) +contextual only [hs, ev_mk, ev_fold, ev_ite, ite_self, implies_true]

theorem ev_writeTableImage {r₀ s : State} (hs : Evolves r₀ s) : Evolves r₀ (writeTableImage s) := by
  unfold writeTableImage
  simp (maxDischargeDepth := 40) +contextual only [hs, ev_mk, ev_fold, ev_ite, ite_self, implies_true, ev_checkpointSectors, ev_putEntry,
        ev_takeStamp]

theorem ev_applyMove (cause : Nat) (m : PageMove) {r₀ s : State} (hs : Evolves r₀ s) : Evolves r₀ (applyMove cause m s) := by
  unfold applyMove
  simp (maxDischargeDepth := 40) +contextual only [hs, ev_mk, ev_fold, ev_ite, ite_self, implies_true, ev_bump, ev_dirtySegment,
        ev_dropFolded, ev_journalPut, ev_writeTableImage, ev_foldl]

theorem ev_applyPage (p : StripePage) {r₀ s : State} (hs : Evolves r₀ s) : Evolves r₀ (applyPage p s) := by
  unfold applyPage
  simp (maxDischargeDepth := 40) +contextual only [hs, ev_mk, ev_fold, ev_ite, ite_self, implies_true, ev_applyMove, ev_checkLogFull,
        ev_foldl]

theorem ev_readMoves {r₀ : State} (moves : List PageMove) {s : State} (hs : Evolves r₀ s) : Evolves r₀ (readMoves moves s) := by
  refine ev_foldl (fun t m ht => ev_cond ht ?_) _ hs
  refine ev_foldl (fun u e hu => ?_) _ (ev_cond ht (ev_cond (ev_reconstructions _ _ ht) (ev_agentReads _ _ _ ht)))
  split
  · exact ev_agentReads _ _ _ hu
  · exact hu

theorem ev_programMembers (p : StripePage) (channels : List Nat) {r₀ s : State} (hs : Evolves r₀ s) : Evolves r₀ (programMembers p channels
        s) := by
  unfold programMembers
  simp (maxDischargeDepth := 40) +contextual only [hs, ev_mk, ev_fold, ev_ite, ite_self, implies_true, ev_memberProgrammed, ev_programsRun,
        ev_takeStamp, ev_foldl]

theorem ev_landPage (p : StripePage) {r₀ s : State} (hs : Evolves r₀ s) : Evolves r₀ (landPage p s) := by
  unfold landPage
  simp (maxDischargeDepth := 40) +contextual only [hs, ev_mk, ev_fold, ev_ite, ite_self, implies_true, ev_completePage, ev_endOverruns,
        ev_memberProgrammed, ev_programMembers, ev_foldl]

theorem ev_programPage (p : StripePage) {r₀ s : State} (hs : Evolves r₀ s) : Evolves r₀ (programPage p s) := by
  unfold programPage
  simp (maxDischargeDepth := 40) +contextual only [hs, ev_mk, ev_fold, ev_ite, ite_self, implies_true, ev_applyPage, ev_completePage,
        ev_landPage, ev_programMembers, ev_foldl]

theorem ev_writeMoves {r₀ : State} (n : Nat) (now : Bool) (cause writer : Nat) (relax : Bool) (moves : List PageMove) {s : State} (hs : Evolves r₀ s) :
    Evolves r₀ (writeMoves n now cause writer relax moves s) := by
  have hp (d : Nat) (l : List PageMove) {t : State} (ht : Evolves r₀ t) :
      if now = true then Evolves r₀ (programPage (takePage d cause writer l (readMoves l t)).1 (takePage d cause writer l (readMoves l t)).2)
      else Evolves r₀ (queuePage (takePage d cause writer l (readMoves l t)).1 (takePage d cause writer l (readMoves l t)).2) := by
    have h := ev_takePage d cause writer l (ev_readMoves l ht)
    split
    · exact ev_programPage _ h
    · exact ev_queuePage _ h
  induction n generalizing moves s with
  | zero => exact hs
  | succ n ih =>
    unfold writeMoves
    cases moves with
    | nil => exact hs
    | cons m rest =>
      simp only
      have h1 := ev_destination cause (s.floorOf m.page) hs
      generalize hx : destination cause (s.floorOf m.page) s = x at h1 ⊢
      obtain ⟨dest, t⟩ := x
      cases dest with
      | some d =>
        refine ih _ ?_
        simp only [ev_ite, ev_mk, ev_fold, ite_self]
        exact hp _ _ h1
      | none =>
        by_cases hc : (relax && (t.pickStripe true (s.floorOf m.page)).isNone && !t.allocating) = true
        · have h2 := ev_destination cause 2 h1
          simp only [hc, if_true]
          simp only at h2
          generalize hy : destination cause 2 t = y at h2 ⊢
          obtain ⟨dest', u⟩ := y
          cases dest' with
          | none => exact h2
          | some d =>
            refine ih _ ?_
            simp only [ev_ite, ev_mk, ev_fold, ite_self]
            exact hp _ _ h2
        · simp only [hc]
          exact h1

theorem ev_collectRebuilds (stripe : Nat) {r₀ s : State} (hs : Evolves r₀ s) : Evolves r₀ (collectRebuilds stripe s) := by
  unfold collectRebuilds
  simp (maxDischargeDepth := 40) +contextual only [hs, ev_mk, ev_fold, ev_ite, ite_self, implies_true, ev_startRebuild, ev_foldl]

theorem ev_evacuate (stripe cause writer : Nat) {r₀ s : State} (hs : Evolves r₀ s) : Evolves r₀ (evacuate stripe cause writer s) := by
  unfold evacuate
  simp (maxDischargeDepth := 40) +contextual only [hs, ev_mk, ev_fold, ev_ite, ite_self, implies_true, ev_writeMoves]

theorem ev_clearStripe (stripe : Nat) {r₀ s : State} (hs : Evolves r₀ s) : Evolves r₀ (clearStripe stripe s) := by
  unfold clearStripe
  simp (maxDischargeDepth := 40) +contextual only [hs, ev_mk, ev_fold, ev_ite, ite_self, implies_true, ev_orderReset, ev_programTail,
        ev_writeTableImage]

theorem ev_countCollected (cause stripe : Nat) {r₀ s : State} (hs : Evolves r₀ s) : Evolves r₀ (countCollected cause stripe s) := by
  unfold countCollected
  simp (maxDischargeDepth := 40) +contextual only [hs, ev_mk, ev_fold, ev_ite, ite_self, implies_true, ev_bump, ev_count1]

theorem ev_collect (stripe cause writer : Nat) {r₀ s : State} (hs : Evolves r₀ s) : Evolves r₀ (collect stripe cause writer s) := by
  unfold collect
  simp (maxDischargeDepth := 40) +contextual only [hs, ev_mk, ev_fold, ev_ite, ite_self, implies_true, ev_clearStripe, ev_collectRebuilds,
        ev_countCollected, ev_evacuate, ev_setStripe]

theorem ev_clearEmptied (cause stripe : Nat) {r₀ s : State} (hs : Evolves r₀ s) : Evolves r₀ (clearEmptied cause stripe s) := by
  unfold clearEmptied
  simp (maxDischargeDepth := 40) +contextual only [hs, ev_mk, ev_fold, ev_ite, ite_self, implies_true, ev_clearStripe, ev_countCollected]

theorem ev_finishMoves (p : StripePage) {r₀ s : State} (hs : Evolves r₀ s) : Evolves r₀ (finishMoves p s) := by
  unfold finishMoves
  simp (maxDischargeDepth := 40) +contextual only [hs, ev_mk, ev_fold, ev_ite, ite_self, implies_true, ev_applyPage, ev_clearEmptied,
        ev_programTail, ev_foldl]

theorem ev_saveErrors {r₀ s : State} (hs : Evolves r₀ s) : Evolves r₀ (saveErrors s) := ev_stored _ hs fun h => ⟨h.1, h.1⟩

theorem ev_tableError (mem : MemKind) (address : Nat) (uncorrectable : Bool) {r₀ s : State} (hs : Evolves r₀ s) :
    Evolves r₀ (tableError mem address uncorrectable s) := by
  unfold tableError
  simp only
  split
  · exact ev_stored _ hs fun h => ⟨Nat.le_trans (Nat.le_of_eq (List.length_map _)) h.1, h.2⟩
  · split
    · exact ev_saveErrors (ev_stored _ hs fun h => ⟨by simp; omega, h.2⟩)
    · split
      · exact ev_saveErrors (ev_stored _ hs fun h => ⟨Nat.le_trans (Nat.le_of_eq List.length_set) h.1, h.2⟩)
      · exact ev_raise _ (ev_bump _ hs)

theorem ev_queueTest (mem : MemKind) (address : Nat) {r₀ s : State} (hs : Evolves r₀ s) : Evolves r₀ (queueTest mem address s) := by
  unfold queueTest
  (try simp (maxDischargeDepth := 40) +contextual only [hs, ev_mk, ev_fold, ev_ite, ite_self, implies_true])
  repeat' split
  all_goals first
    | (with_reducible exact hs)
    | (simp (maxDischargeDepth := 40) +contextual only [hs, ev_mk, ev_fold, ev_ite, ite_self, implies_true]; done)

theorem ev_detectError (mem : MemKind) (address : Nat) (uncorrectable : Bool) {r₀ s : State} (hs : Evolves r₀ s) : Evolves r₀ (detectError
        mem address uncorrectable s) := by
  unfold detectError
  (try simp (maxDischargeDepth := 40) +contextual only [hs, ev_mk, ev_fold, ev_ite, ite_self, implies_true, ev_bump, ev_queueTest, ev_raise,
        ev_tableError])
  repeat' split
  all_goals first
    | (with_reducible exact hs)
    | (simp (maxDischargeDepth := 40) +contextual only [hs, ev_mk, ev_fold, ev_ite, ite_self, implies_true, ev_bump, ev_queueTest, ev_raise,
        ev_tableError]; done)

theorem ev_setOutcome (mem : MemKind) (address outcome : Nat) {r₀ s : State} (hs : Evolves r₀ s) : Evolves r₀ (setOutcome mem address outcome s) :=
  ev_saveErrors (ev_stored _ hs fun h => ⟨Nat.le_trans (Nat.le_of_eq (List.length_map _)) h.1, h.2⟩)

theorem ev_noteTransient (mem : MemKind) (address : Nat) {r₀ s : State} (hs : Evolves r₀ s) : Evolves r₀ (noteTransient mem address s) := by
  unfold noteTransient
  simp (maxDischargeDepth := 40) +contextual only [hs, ev_mk, ev_fold, ev_ite, ite_self, implies_true]

theorem ev_foldRebuilds {r₀ s : State} (hs : Evolves r₀ s) : Evolves r₀ (foldRebuilds s) := by
  unfold foldRebuilds
  simp (maxDischargeDepth := 40) +contextual only [hs, ev_mk, ev_fold, ev_ite, ite_self, implies_true, ev_startRebuild, ev_foldl]

theorem ev_dispatchFold {r₀ s : State} (hs : Evolves r₀ s) : Evolves r₀ (dispatchFold s) := by
  unfold dispatchFold
  (try simp (maxDischargeDepth := 40) +contextual only [hs, ev_mk, ev_fold, ev_ite, ite_self, implies_true, ev_destination, ev_foldRebuilds,
        ev_queuePage, ev_readMoves, ev_takePage])
  repeat' split
  all_goals first
    | (with_reducible exact hs)
    | (simp (maxDischargeDepth := 40) +contextual only [hs, ev_mk, ev_fold, ev_ite, ite_self, implies_true, ev_destination, ev_foldRebuilds,
        ev_queuePage, ev_readMoves, ev_takePage]; done)

theorem ev_releaseStripe (stripe : Nat) {r₀ s : State} (hs : Evolves r₀ s) : Evolves r₀ (releaseStripe stripe s) := by
  unfold releaseStripe
  simp (maxDischargeDepth := 40) +contextual only [hs, ev_mk, ev_fold, ev_ite, ite_self, implies_true, ev_orderReset]

theorem ev_moveRing (r : Ring) (index new : Nat) {r₀ s : State} (hs : Evolves r₀ s) : Evolves r₀ (moveRing r index new s) := by
  unfold moveRing
  simp (maxDischargeDepth := 40) +contextual only [hs, ev_mk, ev_fold, ev_ite, ite_self, implies_true, ev_journalPut, ev_notePool,
        ev_orderReset, ev_programTail, ev_releaseStripe, ev_setStripe, ev_setUnitState, ev_foldl]

theorem ev_relocateStripe {r₀ : State} (stripe : Nat) {s : State} (hs : Evolves r₀ s) : Evolves r₀ (relocateStripe stripe s) := by
  refine ev_foldl (fun t d ht => ?_) _ hs
  split
  · exact ht
  · exact ev_cond ht ht

theorem ev_rebuildRing (r : Ring) (index : Nat) {r₀ s : State} (hs : Evolves r₀ s) : Evolves r₀ (rebuildRing r index s) := by
  unfold rebuildRing
  (try simp (maxDischargeDepth := 40) +contextual only [hs, ev_mk, ev_fold, ev_ite, ite_self, implies_true, ev_moveRing, ev_relocateStripe])
  repeat' split
  all_goals first
    | (with_reducible exact hs)
    | (simp (maxDischargeDepth := 40) +contextual only [hs, ev_mk, ev_fold, ev_ite, ite_self, implies_true, ev_moveRing, ev_relocateStripe]; done)

theorem ev_rebuildStep {r₀ s : State} (hs : Evolves r₀ s) : Evolves r₀ (rebuildStep s) := by
  unfold rebuildStep
  (try simp (maxDischargeDepth := 40) +contextual only [hs, ev_mk, ev_fold, ev_ite, ite_self, implies_true, ev_collect, ev_rebuildRing])
  repeat' split
  all_goals first
    | (with_reducible exact hs)
    | (simp (maxDischargeDepth := 40) +contextual only [hs, ev_mk, ev_fold, ev_ite, ite_self, implies_true, ev_collect, ev_rebuildRing]; done)

theorem ev_relieveRing {r₀ s : State} (hs : Evolves r₀ s) : Evolves r₀ (relieveRing s) := by
  unfold relieveRing
  (try simp (maxDischargeDepth := 40) +contextual only [hs, ev_mk, ev_fold, ev_ite, ite_self, implies_true, ev_rebuildRing])
  repeat' split
  all_goals first
    | (with_reducible exact hs)
    | (simp (maxDischargeDepth := 40) +contextual only [hs, ev_mk, ev_fold, ev_ite, ite_self, implies_true, ev_rebuildRing]; done)

theorem ev_redirect (p : StripePage) {r₀ s : State} (hs : Evolves r₀ s) : Evolves r₀ (redirect p s) := by
  unfold redirect
  simp (maxDischargeDepth := 40) +contextual only [hs, ev_mk, ev_fold, ev_ite, ite_self, implies_true, ev_writeMoves]

theorem ev_failSome {α : Type} {r₀ : State} (fail : α → State → State) (l : List α) {s : State} (hs : Evolves r₀ s)
    (h : ∀ a t, Evolves r₀ t → Evolves r₀ (fail a t)) : Evolves r₀ (failSome fail l s) :=
  ev_foldl (fun _ _ ht => ev_cond (ev_drawn ht) (h _ _ (ev_drawn ht))) _ hs

theorem ev_recoverSector (unit page sector : Nat) (recovered : Bool) {r₀ s : State} (hs : Evolves r₀ s) : Evolves r₀ (recoverSector unit
        page sector recovered s) := by
  unfold recoverSector
  simp (maxDischargeDepth := 40) +contextual only [hs, ev_mk, ev_fold, ev_ite, ite_self, implies_true, ev_bump, ev_detectError, ev_failCheck,
        ev_failSome, ev_raise]

theorem ev_wornDest (free : Nat) {r₀ s : State} (hs : Evolves r₀ s) : Evolves r₀ (wornDest free s) := by
  unfold wornDest
  simp (maxDischargeDepth := 40) +contextual only [hs, ev_mk, ev_fold, ev_ite, ite_self, implies_true, ev_allocate]

theorem ev_saveCounts {r₀ s : State} (hs : Evolves r₀ s) : Evolves r₀ (saveCounts s) := by
  unfold saveCounts
  simp (maxDischargeDepth := 40) +contextual only [hs, ev_mk, ev_fold, ev_ite, ite_self, implies_true, ev_saveErrors, ev_foldl]

theorem ev_denyStore (p : Port) (tag : Nat) {r₀ s : State} (hs : Evolves r₀ s) : Evolves r₀ (denyStore p tag s) := by
  unfold denyStore
  simp (maxDischargeDepth := 40) +contextual only [hs, ev_mk, ev_fold, ev_ite, ite_self, implies_true, ev_bump, ev_raise, ev_sendCmp]

theorem ev_countAccepted (p : Port) (code : Nat) {r₀ s : State} (hs : Evolves r₀ s) : Evolves r₀ (countAccepted p code s) := by
  unfold countAccepted
  simp (maxDischargeDepth := 40) +contextual only [hs, ev_mk, ev_fold, ev_ite, ite_self, implies_true, ev_count1, ev_countEligible,
        ev_countWrite]

theorem ev_enqueue (p : Port) (x : Store) {r₀ s : State} (hs : Evolves r₀ s) : Evolves r₀ (enqueue p x s) := by
  unfold enqueue
  simp (maxDischargeDepth := 40) +contextual only [hs, ev_mk, ev_fold, ev_ite, ite_self, implies_true, ev_addTo, ev_modPort, ev_takeSeq,
        ev_useCredit]

theorem ev_acceptWhole (p : Port) (tag line : Nat) (be : ByteEnables) (d : Line) (poison : Bool) (code : Nat) {r₀ s : State} (hs : Evolves
        r₀ s) : Evolves r₀ (acceptWhole p tag line be d poison code s) := by
  unfold acceptWhole
  simp (maxDischargeDepth := 40) +contextual only [hs, ev_mk, ev_fold, ev_ite, ite_self, implies_true, ev_countAccepted, ev_denyStore,
        ev_enqueue, ev_sendCmp]

theorem ev_takeVictim {r₀ s : State} (hs : Evolves r₀ s) : Evolves r₀ (takeVictim s) := by
  unfold takeVictim
  simp (maxDischargeDepth := 40) +contextual only [hs, ev_mk, ev_fold, ev_ite, ite_self, implies_true, ev_bump, ev_takeBlocks]

theorem ev_mergeVictim (p : Port) (x : Store) {r₀ s : State} (hs : Evolves r₀ s) : Evolves r₀ (mergeVictim p x s) := by
  unfold mergeVictim
  simp (maxDischargeDepth := 40) +contextual only [hs, ev_mk, ev_fold, ev_ite, ite_self, implies_true, ev_modPort, ev_takeVictim]

theorem ev_mergeRead (p : Port) (x : Store) {r₀ s : State} (hs : Evolves r₀ s) : Evolves r₀ (mergeRead p x s) := by
  unfold mergeRead
  simp (maxDischargeDepth := 40) +contextual only [hs, ev_mk, ev_fold, ev_ite, ite_self, implies_true, ev_allocate, ev_readMedium]

theorem ev_acceptPartial (p : Port) (tag line : Nat) (be : ByteEnables) (d : Line) {r₀ s : State} (hs : Evolves r₀ s) : Evolves r₀
        (acceptPartial p tag line be d s) := by
  unfold acceptPartial
  simp (maxDischargeDepth := 40) +contextual only [hs, ev_mk, ev_fold, ev_ite, ite_self, implies_true, ev_countAccepted, ev_denyStore,
        ev_enqueue, ev_mergeRead, ev_startRebuild, ev_takeVictim]

theorem ev_mergeWaits (p : Port) (x : Store) {r₀ s : State} (hs : Evolves r₀ s) : Evolves r₀ (mergeWaits p x s) := by
  unfold mergeWaits
  simp (maxDischargeDepth := 40) +contextual only [hs, ev_mk, ev_fold, ev_ite, ite_self, implies_true, ev_mergeVictim]

theorem ev_stallDrain {r₀ s : State} (hs : Evolves r₀ s) : Evolves r₀ (stallDrain s) := by
  unfold stallDrain
  (try simp (maxDischargeDepth := 40) +contextual only [hs, ev_mk, ev_fold, ev_ite, ite_self, implies_true, ev_bump, ev_raise])
  repeat' split
  all_goals first
    | (with_reducible exact hs)
    | (simp (maxDischargeDepth := 40) +contextual only [hs, ev_mk, ev_fold, ev_ite, ite_self, implies_true, ev_bump, ev_raise]; done)

theorem ev_endStall {r₀ s : State} (hs : Evolves r₀ s) : Evolves r₀ (endStall s) := by
  unfold endStall
  (try simp (maxDischargeDepth := 40) +contextual only [hs, ev_mk, ev_fold, ev_ite, ite_self, implies_true, ev_raiseTo])
  repeat' split
  all_goals first
    | (with_reducible exact hs)
    | (simp (maxDischargeDepth := 40) +contextual only [hs, ev_mk, ev_fold, ev_ite, ite_self, implies_true, ev_raiseTo]; done)

theorem ev_answerNow (r : Read) (v : Version) {r₀ s : State} (hs : Evolves r₀ s) : Evolves r₀ (answerNow r v s) := by
  unfold answerNow
  simp (maxDischargeDepth := 40) +contextual only [hs, ev_mk, ev_fold, ev_ite, ite_self, implies_true, ev_answerRead]

theorem ev_usePrefetch (b : CacheBlock) {r₀ s : State} (hs : Evolves r₀ s) : Evolves r₀ (usePrefetch b s) := by
  unfold usePrefetch
  simp (maxDischargeDepth := 40) +contextual only [hs, ev_mk, ev_fold, ev_ite, ite_self, implies_true, ev_bump]

theorem ev_copyUp (allocate : Nat) (b : CacheBlock) {r₀ s : State} (hs : Evolves r₀ s) : Evolves r₀ (copyUp allocate b s) := by
  unfold copyUp
  simp (maxDischargeDepth := 40) +contextual only [hs, ev_mk, ev_fold, ev_ite, ite_self, implies_true, ev_allocate, ev_installOne]

theorem ev_lookUp (p : Port) (r : Read) {r₀ s : State} (hs : Evolves r₀ s) : Evolves r₀ (lookUp p r s) := by
  unfold lookUp
  (try simp (maxDischargeDepth := 40) +contextual only [hs, ev_mk, ev_fold, ev_ite, ite_self, implies_true, ev_allocate, ev_answerNow,
        ev_bump, ev_copyUp, ev_count1, ev_readMedium, ev_usePrefetch])
  repeat' split
  all_goals first
    | (with_reducible exact hs)
    | (simp (maxDischargeDepth := 40) +contextual only [hs, ev_mk, ev_fold, ev_ite, ite_self, implies_true, ev_allocate, ev_answerNow, ev_bump,
        ev_copyUp, ev_count1, ev_readMedium, ev_usePrefetch]; done)

theorem ev_lookUpOwned (p : Port) (g : Nat) (r : Read) {r₀ s : State} (hs : Evolves r₀ s) : Evolves r₀ (lookUpOwned p g r s) := by
  unfold lookUpOwned
  (try simp (maxDischargeDepth := 40) +contextual only [hs, ev_mk, ev_fold, ev_ite, ite_self, implies_true, ev_answerNow, ev_bump, ev_count1,
        ev_lookUp, ev_readMedium])
  repeat' split
  all_goals first
    | (with_reducible exact hs)
    | (simp (maxDischargeDepth := 40) +contextual only [hs, ev_mk, ev_fold, ev_ite, ite_self, implies_true, ev_answerNow, ev_bump, ev_count1,
        ev_lookUp, ev_readMedium]; done)

theorem ev_acceptRead (p : Port) (tag line : Nat) {r₀ s : State} (hs : Evolves r₀ s) : Evolves r₀ (acceptRead p tag line s) := by
  unfold acceptRead
  (try simp (maxDischargeDepth := 40) +contextual only [hs, ev_mk, ev_fold, ev_ite, ite_self, implies_true, ev_addRead, ev_answerNow,
        ev_count1, ev_countEligible, ev_lookUp, ev_lookUpOwned])
  repeat' split
  all_goals first
    | (with_reducible exact hs)
    | (simp (maxDischargeDepth := 40) +contextual only [hs, ev_mk, ev_fold, ev_ite, ite_self, implies_true, ev_addRead, ev_answerNow, ev_count1,
        ev_countEligible, ev_lookUp, ev_lookUpOwned]; done)

theorem ev_moveSectors (r : Read) {r₀ s : State} (hs : Evolves r₀ s) : Evolves r₀ (moveSectors r s) := by
  unfold moveSectors
  simp (maxDischargeDepth := 40) +contextual only [hs, ev_mk, ev_fold, ev_ite, ite_self, implies_true, ev_reconstructionReads, ev_sectorMoved]

theorem ev_verified (reads : List Read) {r₀ s : State} (hs : Evolves r₀ s) : Evolves r₀ (verified reads s) := by
  unfold verified
  simp (maxDischargeDepth := 40) +contextual only [hs, ev_mk, ev_fold, ev_ite, ite_self, implies_true, ev_reportDeadline, ev_respond,
        ev_foldl]

theorem ev_notVerified (r : Read) {r₀ s : State} (hs : Evolves r₀ s) : Evolves r₀ (notVerified r s) := by
  unfold notVerified
  simp (maxDischargeDepth := 40) +contextual only [hs, ev_mk, ev_fold, ev_ite, ite_self, implies_true, ev_dropRead, ev_startRetry]

theorem ev_sectorDone (r : Read) (bch : Bool) (tags : BitVec 4) {r₀ s : State} (hs : Evolves r₀ s) : Evolves r₀ (sectorDone r bch tags s) :=
        by
  unfold sectorDone
  simp (maxDischargeDepth := 40) +contextual only [hs, ev_mk, ev_fold, ev_ite, ite_self, implies_true, ev_detectError, ev_dropRead,
        ev_fillSector, ev_ladderLines, ev_moveSectors, ev_notVerified, ev_prefetch, ev_verified, ev_foldl]

theorem ev_tagDone (obj : IntegrityObject) (r : Read) (bch : Bool) {r₀ s : State} (hs : Evolves r₀ s) : Evolves r₀ (tagDone obj r bch s) :=
        by
  unfold tagDone
  simp (maxDischargeDepth := 40) +contextual only [hs, ev_mk, ev_fold, ev_ite, ite_self, implies_true, ev_bump, ev_cacheLine, ev_detectError,
        ev_dropRead, ev_moveSectors, ev_startRetry]

theorem ev_modOps (region : Nat) (f : Op → Op) {r₀ s : State} (hs : Evolves r₀ s) : Evolves r₀ (modOps region f s) := by
  unfold modOps
  simp (maxDischargeDepth := 40) +contextual only [hs, ev_mk, ev_fold, ev_ite, ite_self, implies_true]

theorem ev_reconstructWaiting (region : Nat) (only : Read → Bool) {r₀ s : State} (hs : Evolves r₀ s) : Evolves r₀ (reconstructWaiting region
        only s) := by
  unfold reconstructWaiting
  simp (maxDischargeDepth := 40) +contextual only [hs, ev_mk, ev_fold, ev_ite, ite_self, implies_true, ev_modRead, ev_noteReconstruction,
        ev_foldl]

theorem ev_holdOps (region : Nat) {r₀ s : State} (hs : Evolves r₀ s) : Evolves r₀ (holdOps region s) := by
  unfold holdOps
  simp (maxDischargeDepth := 40) +contextual only [hs, ev_mk, ev_fold, ev_ite, ite_self, implies_true, ev_addTo, ev_modOps, ev_raiseTimes,
        ev_reconstructWaiting]

theorem ev_relocate {r₀ : State} (r : Read) {s : State} (hs : Evolves r₀ s) : Evolves r₀ (relocate r s).1 := by
  have h (c : Prop) [Decidable c] (x : Staged) :
      Evolves r₀ (if c then (evict { s with staging := s.staging ++ [x] }, 0) else (s, 1)).1 := by
    split
    · exact ev_evict hs
    · exact hs
  exact h _ _

theorem ev_senseBelow (x : RetrySenses) (r : Read) {r₀ s : State} (hs : Evolves r₀ s) : Evolves r₀ (senseBelow x r s) := by
  unfold senseBelow
  simp (maxDischargeDepth := 40) +contextual only [hs, ev_mk, ev_fold, ev_ite, ite_self, implies_true, ev_sectorMoved]

theorem ev_noteRung (x : RetrySenses) {r₀ s : State} (hs : Evolves r₀ s) : Evolves r₀ (noteRung x s) := by
  unfold noteRung
  simp (maxDischargeDepth := 40) +contextual only [hs, ev_mk, ev_fold, ev_ite, ite_self, implies_true, ev_bump, ev_drawn]

theorem ev_cacheTag (r : Read) {r₀ s : State} (hs : Evolves r₀ s) : Evolves r₀ (cacheTag r s) := by
  unfold cacheTag
  (try simp (maxDischargeDepth := 40) +contextual only [hs, ev_mk, ev_fold, ev_ite, ite_self, implies_true, ev_cacheLine])
  repeat' split
  all_goals first
    | (with_reducible exact hs)
    | (simp (maxDischargeDepth := 40) +contextual only [hs, ev_mk, ev_fold, ev_ite, ite_self, implies_true, ev_cacheLine]; done)

theorem ev_failRead (r : Read) {r₀ s : State} (hs : Evolves r₀ s) : Evolves r₀ (failRead r s) := by
  unfold failRead
  (try simp (maxDischargeDepth := 40) +contextual only [hs, ev_mk, ev_fold, ev_ite, ite_self, implies_true, ev_failCheck, ev_foldl])
  repeat' split
  all_goals first
    | (with_reducible exact hs)
    | (simp (maxDischargeDepth := 40) +contextual only [hs, ev_mk, ev_fold, ev_ite, ite_self, implies_true, ev_failCheck, ev_foldl]; done)

theorem ev_scheduleRefresh (u : Nat) {r₀ s : State} (hs : Evolves r₀ s) : Evolves r₀ (scheduleRefresh u s) := by
  unfold scheduleRefresh
  simp (maxDischargeDepth := 40) +contextual only [hs, ev_mk, ev_fold, ev_ite, ite_self, implies_true, ev_bump, ev_raise, ev_setStripe]

theorem ev_noteBadVisit (u : Nat) (rep : PatrolReport) {r₀ s : State} (hs : Evolves r₀ s) : Evolves r₀ (noteBadVisit u rep s) := by
  unfold noteBadVisit
  simp (maxDischargeDepth := 40) +contextual only [hs, ev_mk, ev_fold, ev_ite, ite_self, implies_true, ev_setStripe, ev_foldl]

theorem ev_footersRead (u n : Nat) {r₀ s : State} (hs : Evolves r₀ s) : Evolves r₀ (footersRead u n s) := by
  unfold footersRead
  simp (maxDischargeDepth := 40) +contextual only [hs, ev_mk, ev_fold, ev_ite, ite_self, implies_true, ev_addTo, ev_count]

theorem ev_judgeSample (u : Nat) (inPass : Bool) (rep : PatrolReport) {r₀ s : State} (hs : Evolves r₀ s) : Evolves r₀ (judgeSample u inPass
        rep s) := by
  unfold judgeSample
  simp (maxDischargeDepth := 40) +contextual only [hs, ev_mk, ev_fold, ev_ite, ite_self, implies_true, ev_agentReads, ev_bump,
        ev_noteBadVisit, ev_scheduleRefresh, ev_setUnit]

theorem ev_sampleUnit (u : Nat) (rep : PatrolReport) {r₀ s : State} (hs : Evolves r₀ s) : Evolves r₀ (sampleUnit u rep s) := by
  unfold sampleUnit
  simp (maxDischargeDepth := 40) +contextual only [hs, ev_mk, ev_fold, ev_ite, ite_self, implies_true, ev_agentReads, ev_bump, ev_footersRead,
        ev_judgeEpisode, ev_judgeSample, ev_put, ev_scheduleRefresh, ev_setUnit]

theorem ev_visit (u : Nat) (rep : PatrolReport) {r₀ s : State} (hs : Evolves r₀ s) : Evolves r₀ (visit u rep s) := by
  unfold visit
  simp (maxDischargeDepth := 40) +contextual only [hs, ev_mk, ev_fold, ev_ite, ite_self, implies_true, ev_drawn, ev_recoverSector,
        ev_sampleUnit]

theorem ev_poisonLine (line : Nat) {r₀ s : State} (hs : Evolves r₀ s) : Evolves r₀ (poisonLine line s) := by
  unfold poisonLine
  simp (maxDischargeDepth := 40) +contextual only [hs, ev_mk, ev_fold, ev_ite, ite_self, implies_true, ev_bump, ev_storeCommitted,
        ev_takeStamp]

theorem ev_poisonProvisional (line : Nat) {r₀ s : State} (hs : Evolves r₀ s) : Evolves r₀ (poisonProvisional line s) := by
  unfold poisonProvisional
  simp (maxDischargeDepth := 40) +contextual only [hs, ev_mk, ev_fold, ev_ite, ite_self, implies_true, ev_stageLine, ev_takeStamp, ev_foldl]

theorem ev_loseData (die : Nat) {r₀ s : State} (hs : Evolves r₀ s) : Evolves r₀ (loseData die s) := by
  unfold loseData
  simp (maxDischargeDepth := 40) +contextual only [hs, ev_mk, ev_fold, ev_ite, ite_self, implies_true, ev_bump, ev_nameLines, ev_poisonLine,
        ev_poisonProvisional, ev_raise, ev_foldl]

theorem ev_dropWork (die : Nat) (failed : Bool) {r₀ s : State} (hs : Evolves r₀ s) : Evolves r₀ (dropWork die failed s) := by
  unfold dropWork
  simp (maxDischargeDepth := 40) +contextual only [hs, ev_mk, ev_fold, ev_ite, ite_self, implies_true, ev_endOverruns]

theorem ev_moveSaves {r₀ : State} {s : State} (hs : Evolves r₀ s) : Evolves r₀ (moveSaves s) := by
  refine ev_foldl (fun t i ht => ?_) _ hs
  split
  · exact ht
  · split
    · exact ev_moveRing _ _ _ ht
    · exact ht

theorem ev_dieLeaves (die state : Nat) {r₀ s : State} (hs : Evolves r₀ s) : Evolves r₀ (dieLeaves die state s) := by
  unfold dieLeaves
  simp (maxDischargeDepth := 40) +contextual only [hs, ev_mk, ev_fold, ev_ite, ite_self, implies_true, ev_dropWork, ev_judgeEpisode,
        ev_loseData, ev_moveSaves, ev_noteHealth, ev_put, ev_raise, ev_reconstructWaiting, ev_foldl]

theorem ev_refuseBinds {r₀ s : State} (hs : Evolves r₀ s) : Evolves r₀ (refuseBinds s) := by
  refine ev_foldl (fun t e ht => ?_) _ hs
  split
  · exact ev_setGroup _ _ ht
  · exact ht

theorem ev_takeOffline (r : Nat) {r₀ s : State} (hs : Evolves r₀ s) : Evolves r₀ (takeOffline r s) := by
  unfold takeOffline
  simp (maxDischargeDepth := 40) +contextual only [hs, ev_mk, ev_fold, ev_ite, ite_self, implies_true, ev_forceAbort, ev_refuseBinds,
        ev_setRegionState, ev_foldl]

theorem ev_prepare (r : Nat) {r₀ s : State} (hs : Evolves r₀ s) : Evolves r₀ (prepare r s) := by
  unfold prepare
  simp (maxDischargeDepth := 40) +contextual only [hs, ev_mk, ev_fold, ev_ite, ite_self, implies_true, ev_dirtySegment, ev_setRegionState,
        ev_foldl]

theorem ev_abandonPreparation (r : Nat) {r₀ s : State} (hs : Evolves r₀ s) : Evolves r₀ (abandonPreparation r s) := by
  unfold abandonPreparation
  simp (maxDischargeDepth := 40) +contextual only [hs, ev_mk, ev_fold, ev_ite, ite_self, implies_true]

theorem ev_bringOnline (r : Nat) {r₀ s : State} (hs : Evolves r₀ s) : Evolves r₀ (bringOnline r s) := by
  unfold bringOnline
  simp (maxDischargeDepth := 40) +contextual only [hs, ev_mk, ev_fold, ev_ite, ite_self, implies_true, ev_prepare, ev_setRegionState]

theorem ev_failIntegrity (obj : IntegrityObject) {r₀ s : State} (hs : Evolves r₀ s) : Evolves r₀ (failIntegrity obj s) := by
  unfold failIntegrity
  simp (maxDischargeDepth := 40) +contextual only [hs, ev_mk, ev_fold, ev_ite, ite_self, implies_true, ev_failCheck, ev_foldl]

theorem ev_writeAnchor {r₀ s : State} (hs : Evolves r₀ s) : Evolves r₀ (writeAnchor s) := by
  unfold writeAnchor
  simp (maxDischargeDepth := 40) +contextual only [hs, ev_mk, ev_fold, ev_ite, ite_self, implies_true, ev_put, ev_takeStamp]

theorem ev_writePages (pages : List Nat) {r₀ s : State} (hs : Evolves r₀ s) : Evolves r₀ (writePages pages s) := by
  unfold writePages
  simp (maxDischargeDepth := 40) +contextual only [hs, ev_mk, ev_fold, ev_ite, ite_self, implies_true, ev_writeMoves]

theorem ev_applyPending {r₀ s : State} (hs : Evolves r₀ s) : Evolves r₀ (applyPending s) := by
  unfold applyPending
  simp (maxDischargeDepth := 40) +contextual only [hs, ev_mk, ev_fold, ev_ite, ite_self, implies_true, ev_cacheLine, ev_foldl]

theorem ev_endBatch (stale : List Nat) {r₀ s : State} (hs : Evolves r₀ s) : Evolves r₀ (endBatch stale s) := by
  unfold endBatch
  simp (maxDischargeDepth := 40) +contextual only [hs, ev_mk, ev_fold, ev_ite, ite_self, implies_true, ev_writeAnchor]

theorem ev_writeBack {r₀ s : State} (hs : Evolves r₀ s) : Evolves r₀ (writeBack s) := by
  unfold writeBack
  simp (maxDischargeDepth := 40) +contextual only [hs, ev_mk, ev_fold, ev_ite, ite_self, implies_true, ev_applyPending, ev_endBatch,
        ev_programTail, ev_writePages]

theorem ev_pinRegion (r : Nat) {r₀ s : State} (hs : Evolves r₀ s) : Evolves r₀ (pinRegion r s) := by
  unfold pinRegion
  simp (maxDischargeDepth := 40) +contextual only [hs, ev_mk, ev_fold, ev_ite, ite_self, implies_true, ev_addTo, ev_cacheLine,
        ev_sectorsMoved, ev_foldl]

theorem ev_noteRecovered (l : FetchedLine) {r₀ s : State} (hs : Evolves r₀ s) : Evolves r₀ (noteRecovered l s) := by
  unfold noteRecovered
  simp (maxDischargeDepth := 40) +contextual only [hs, ev_mk, ev_fold, ev_ite, ite_self, implies_true, ev_bump, ev_raise]

theorem ev_poisonRanges (stamp : Nat) (ranges : List (Nat × Nat)) {r₀ s : State} (hs : Evolves r₀ s) : Evolves r₀ (poisonRanges stamp ranges
        s) := by
  unfold poisonRanges
  simp (maxDischargeDepth := 40) +contextual only [hs, ev_mk, ev_fold, ev_ite, ite_self, implies_true, ev_poisonProvisional,
        ev_storeCommitted, ev_takeStamp, ev_foldl]

theorem ev_resume (reAnchor : Bool) {r₀ s : State} (hs : Evolves r₀ s) : Evolves r₀ (resume reAnchor s) := by
  unfold resume
  (try simp (maxDischargeDepth := 40) +contextual only [hs, ev_mk, ev_fold, ev_ite, ite_self, implies_true, ev_dropCachedBlocks, ev_modPort,
        ev_poisonRanges, ev_put, ev_raise, ev_raiseReady, ev_setMode, ev_takeStamp, ev_writeAnchor, ev_foldl])
  repeat' split
  all_goals first
    | (with_reducible exact hs)
    | (simp (maxDischargeDepth := 40) +contextual only [hs, ev_mk, ev_fold, ev_ite, ite_self, implies_true, ev_dropCachedBlocks, ev_modPort,
        ev_poisonRanges, ev_put, ev_raise, ev_raiseReady, ev_setMode, ev_takeStamp, ev_writeAnchor, ev_foldl]; done)

theorem ev_abortForSlot (slot : Nat) {r₀ s : State} (hs : Evolves r₀ s) : Evolves r₀ (abortForSlot slot s) := by
  unfold abortForSlot
  simp (maxDischargeDepth := 40) +contextual only [hs, ev_mk, ev_fold, ev_ite, ite_self, implies_true, ev_forceAbort, ev_foldl]

theorem ev_installKey (slot : Nat) {r₀ s : State} (hs : Evolves r₀ s) : Evolves r₀ (installKey slot s) := by
  unfold installKey
  simp (maxDischargeDepth := 40) +contextual only [hs, ev_mk, ev_fold, ev_ite, ite_self, implies_true, ev_dirtyPages, ev_dropCachedRange,
        ev_journalPut, ev_programTail, ev_put, ev_sendCmps, ev_foldl]

theorem ev_renewSlot (slot : Nat) {r₀ s : State} (hs : Evolves r₀ s) : Evolves r₀ (renewSlot slot s) := by
  unfold renewSlot
  simp (maxDischargeDepth := 40) +contextual only [hs, ev_mk, ev_fold, ev_ite, ite_self, implies_true, ev_abortForSlot, ev_installKey,
        ev_raise]

theorem ev_sanitizeNow {r₀ s : State} (hs : Evolves r₀ s) : Evolves r₀ (sanitizeNow s) := by
  unfold sanitizeNow
  simp (maxDischargeDepth := 40) +contextual only [hs, ev_mk, ev_fold, ev_ite, ite_self, implies_true, ev_abortForSlot, ev_installKey,
        ev_raise, ev_raiseTimes, ev_foldl]

theorem ev_writeCheckpoint (seg : Nat) {r₀ s : State} (hs : Evolves r₀ s) : Evolves r₀ (writeCheckpoint seg s) := by
  unfold writeCheckpoint
  simp (maxDischargeDepth := 40) +contextual only [hs, ev_mk, ev_fold, ev_ite, ite_self, implies_true, ev_bump, ev_checkpointSectors,
        ev_journalPut, ev_programTail, ev_putEntry, ev_takeStamp]

theorem ev_writeDirectory {r₀ s : State} (hs : Evolves r₀ s) : Evolves r₀ (writeDirectory s) := by
  unfold writeDirectory
  simp (maxDischargeDepth := 40) +contextual only [hs, ev_mk, ev_fold, ev_ite, ite_self, implies_true, ev_checkpointSectors, ev_journalPut,
        ev_putEntry, ev_takeStamp, ev_writeTableImage]

theorem ev_takeSegment (seg : Nat) {r₀ s : State} (hs : Evolves r₀ s) : Evolves r₀ (takeSegment seg s) := by
  unfold takeSegment
  simp (maxDischargeDepth := 40) +contextual only [hs, ev_mk, ev_fold, ev_ite, ite_self, implies_true]

theorem ev_checkpointNow (seg : Nat) {r₀ s : State} (hs : Evolves r₀ s) : Evolves r₀ (checkpointNow seg s) := by
  unfold checkpointNow
  simp (maxDischargeDepth := 40) +contextual only [hs, ev_mk, ev_fold, ev_ite, ite_self, implies_true, ev_writeBack, ev_writeCheckpoint,
        ev_writeDirectory]

theorem ev_rebuildAll {r₀ s : State} (hs : Evolves r₀ s) : Evolves r₀ (rebuildAll s) := by
  unfold rebuildAll
  simp (maxDischargeDepth := 40) +contextual only [hs, ev_mk, ev_fold, ev_ite, ite_self, implies_true, ev_rebuildSegment, ev_releaseReads,
        ev_foldl]

theorem ev_detectSomewhere (mem : MemKind) (uncorrectable : Bool) {r₀ s : State} (hs : Evolves r₀ s) : Evolves r₀ (detectSomewhere mem
        uncorrectable s) := by
  unfold detectSomewhere
  simp (maxDischargeDepth := 40) +contextual only [hs, ev_mk, ev_fold, ev_ite, ite_self, implies_true, ev_detectError, ev_drawn]

theorem ev_cacheError (obj : IntegrityObject) (fault : CacheFault) {r₀ s : State} (hs : Evolves r₀ s) : Evolves r₀ (cacheError obj fault s)
        := by
  unfold cacheError
  (try simp (maxDischargeDepth := 40) +contextual only [hs, ev_mk, ev_fold, ev_ite, ite_self, implies_true, ev_bump, ev_detectSomewhere,
        ev_failIntegrity, ev_raise])
  repeat' split
  all_goals first
    | (with_reducible exact hs)
    | (simp (maxDischargeDepth := 40) +contextual only [hs, ev_mk, ev_fold, ev_ite, ite_self, implies_true, ev_bump, ev_detectSomewhere,
        ev_failIntegrity, ev_raise]; done)

theorem ev_skipMember (j : Job) {r₀ s : State} (hs : Evolves r₀ s) : Evolves r₀ (skipMember j s) := by
  unfold skipMember
  simp (maxDischargeDepth := 40) +contextual only [hs, ev_mk, ev_fold, ev_ite, ite_self, implies_true]

theorem ev_resetEntries {r₀ : State} (f : Nat → Bool) {s : State} (hs : Evolves r₀ s) : Evolves r₀ (resetEntries f s) :=
  { hs with regs := fun h =>
      ⟨rising_filter _ (hs.regs h).1, fun e he => (hs.regs h).2.1 e (List.mem_filter.mp he).1, rising_filter _ (hs.regs h).2.2.1,
        fun e he => (hs.regs h).2.2.2 e (List.mem_filter.mp he).1⟩ }

theorem ev_regionStates (before : State) {r₀ s : State} (hs : Evolves r₀ s) : Evolves r₀ (regionStates before s) := by
  unfold regionStates
  simp (maxDischargeDepth := 40) +contextual only [hs, ev_mk, ev_fold, ev_ite, ite_self, implies_true, ev_put, ev_foldl]

theorem ev_promote {r₀ : State} {s : State} (hs : Evolves r₀ s) : Evolves r₀ (promote s) := by
  have h (l : List RemapEntry) (acc : List RemapEntry × State) (ha : Evolves r₀ acc.2) :
      Evolves r₀ (l.foldl (fun (acc : List RemapEntry × State) (e : RemapEntry) =>
      let t := acc.2
      if e.state = 1 then
        let fails := t.freeNow % 2 = 1
        (acc.1 ++ [{ e with state := if fails then 3 else 2 }], raiseIf fails 226 (drawn t))
      else (acc.1 ++ [e], t)) acc).2 := by
    induction l generalizing acc with
    | nil => exact ha
    | cons e l ih =>
      rw [List.foldl_cons]
      refine ih _ ?_
      simp only
      split
      · exact ev_raiseIf _ _ (ev_drawn ha)
      · exact ha
  exact h s.stored.remap ([], s) hs

theorem ev_noteEnforced {r₀ s : State} (hs : Evolves r₀ s) : Evolves r₀ (noteEnforced s) := by
  unfold noteEnforced
  (try simp (maxDischargeDepth := 40) +contextual only [hs, ev_mk, ev_fold, ev_ite, ite_self, implies_true, ev_addTo])
  repeat' split
  all_goals first
    | (with_reducible exact hs)
    | (simp (maxDischargeDepth := 40) +contextual only [hs, ev_mk, ev_fold, ev_ite, ite_self, implies_true, ev_addTo]; done)

theorem ev_controllerReset {r₀ : State} {s : State} (hs : Evolves r₀ s) : Evolves r₀ (controllerReset s) := by
  have h := ev_regionStates s (ev_resetEntries (fun k => !(keptThroughRestore k || (s.keepsLinks && linkEntry k))) (ev_noteEnforced hs))
  unfold controllerReset
  refine ev_promote (ev_drawn (ev_put _ _ ?_))
  simp only [ev_mk]
  exact { h with
    cells := fun _ => ⟨rfl, by simp⟩, changes := fun _ => Nat.zero_le _, sessions := fun _ => Nat.zero_le _
    samples := fun _ => Nat.zero_le _ }

theorem ev_noteVin (mv : Nat) {r₀ s : State} (hs : Evolves r₀ s) : Evolves r₀ (noteVin mv s) := by
  unfold noteVin
  simp (maxDischargeDepth := 40) +contextual only [hs, ev_mk, ev_fold, ev_ite, ite_self, implies_true, ev_put]

theorem ev_setBand (b : Nat) {r₀ s : State} (hs : Evolves r₀ s) : Evolves r₀ (setBand b s) := by
  unfold setBand
  simp (maxDischargeDepth := 40) +contextual only [hs, ev_mk, ev_fold, ev_ite, ite_self, implies_true, ev_bump, ev_put, ev_raise, ev_setMode]

theorem ev_setRail (code : Nat) (r : Rail) {r₀ s : State} (hs : Evolves r₀ s) : Evolves r₀ (setRail code r s) := by
  unfold setRail
  simp (maxDischargeDepth := 40) +contextual only [hs, ev_mk, ev_fold, ev_ite, ite_self, implies_true]

theorem ev_railsOn (codes : List Nat) {r₀ s : State} (hs : Evolves r₀ s) : Evolves r₀ (railsOn codes s) := by
  unfold railsOn
  simp (maxDischargeDepth := 40) +contextual only [hs, ev_mk, ev_fold, ev_ite, ite_self, implies_true, ev_setRail, ev_foldl]

theorem ev_railsOff (codes : List Nat) {r₀ s : State} (hs : Evolves r₀ s) : Evolves r₀ (railsOff codes s) := by
  unfold railsOff
  simp (maxDischargeDepth := 40) +contextual only [hs, ev_mk, ev_fold, ev_ite, ite_self, implies_true, ev_setRail, ev_foldl]

theorem ev_writeRecord (kind rail cause before : Nat) {r₀ s : State} (hs : Evolves r₀ s) : Evolves r₀ (writeRecord kind rail cause before s)
        := by
  unfold writeRecord
  simp (maxDischargeDepth := 40) +contextual only [hs, ev_mk, ev_fold, ev_ite, ite_self, implies_true, ev_put]

theorem ev_finishLeaving {r₀ s : State} (hs : Evolves r₀ s) : Evolves r₀ (finishLeaving s) := by
  unfold finishLeaving
  simp (maxDischargeDepth := 40) +contextual only [hs, ev_mk, ev_fold, ev_ite, ite_self, implies_true, ev_programAll, ev_put]

theorem ev_loseProtection (causes : Nat) {r₀ s : State} (hs : Evolves r₀ s) : Evolves r₀ (loseProtection causes s) := by
  unfold loseProtection
  simp (maxDischargeDepth := 40) +contextual only [hs, ev_mk, ev_fold, ev_ite, ite_self, implies_true, ev_bothExceptions, ev_finishLeaving,
        ev_put, ev_raise]

theorem ev_regainProtection {r₀ s : State} (hs : Evolves r₀ s) : Evolves r₀ (regainProtection s) := by
  unfold regainProtection
  simp (maxDischargeDepth := 40) +contextual only [hs, ev_mk, ev_fold, ev_ite, ite_self, implies_true, ev_put, ev_raise]

theorem ev_updateProtection {r₀ s : State} (hs : Evolves r₀ s) : Evolves r₀ (updateProtection s) := by
  unfold updateProtection
  simp (maxDischargeDepth := 40) +contextual only [hs, ev_mk, ev_fold, ev_ite, ite_self, implies_true, ev_finishLeaving, ev_loseProtection,
        ev_put, ev_regainProtection]

theorem ev_unmeasured {r₀ s : State} (hs : Evolves r₀ s) : Evolves r₀ (unmeasured s) := by
  unfold unmeasured
  simp (maxDischargeDepth := 40) +contextual only [hs, ev_mk, ev_fold, ev_ite, ite_self, implies_true, ev_put]

theorem ev_holdPins {r₀ s : State} (hs : Evolves r₀ s) : Evolves r₀ (holdPins s) := by
  unfold holdPins
  simp (maxDischargeDepth := 40) +contextual only [hs, ev_mk, ev_fold, ev_ite, ite_self, implies_true]

theorem ev_releasePins {r₀ s : State} (hs : Evolves r₀ s) : Evolves r₀ (releasePins s) := by
  unfold releasePins
  simp (maxDischargeDepth := 40) +contextual only [hs, ev_mk, ev_fold, ev_ite, ite_self, implies_true]

theorem ev_withholdCredits (b : Bool) {r₀ s : State} (hs : Evolves r₀ s) : Evolves r₀ (withholdCredits b s) := by
  unfold withholdCredits
  simp (maxDischargeDepth := 40) +contextual only [hs, ev_mk, ev_fold, ev_ite, ite_self, implies_true, ev_modPort]

theorem ev_switchSlots {r₀ s : State} (hs : Evolves r₀ s) : Evolves r₀ (switchSlots s) := by
  unfold switchSlots
  simp (maxDischargeDepth := 40) +contextual only [hs, ev_mk, ev_fold, ev_ite, ite_self, implies_true, ev_put]

theorem ev_endActivation (a : Activation) (result src : Nat) {r₀ s : State} (hs : Evolves r₀ s) : Evolves r₀ (endActivation a result src s)
        := by
  unfold endActivation
  simp (maxDischargeDepth := 40) +contextual only [hs, ev_mk, ev_fold, ev_ite, ite_self, implies_true, ev_endAction, ev_put, ev_raise]

theorem ev_finishActivation {r₀ s : State} (hs : Evolves r₀ s) : Evolves r₀ (finishActivation s) := by
  unfold finishActivation
  (try simp (maxDischargeDepth := 40) +contextual only [hs, ev_mk, ev_fold, ev_ite, ite_self, implies_true, ev_endActivation, ev_switchSlots])
  repeat' split
  all_goals first
    | (with_reducible exact hs)
    | (simp (maxDischargeDepth := 40) +contextual only [hs, ev_mk, ev_fold, ev_ite, ite_self, implies_true, ev_endActivation, ev_switchSlots];
        done)

theorem ev_interruptActivation {r₀ s : State} (hs : Evolves r₀ s) : Evolves r₀ (interruptActivation s) := by
  unfold interruptActivation
  (try simp (maxDischargeDepth := 40) +contextual only [hs, ev_mk, ev_fold, ev_ite, ite_self, implies_true, ev_endAction, ev_finishActivation,
        ev_put])
  repeat' split
  all_goals first
    | (with_reducible exact hs)
    | (simp (maxDischargeDepth := 40) +contextual only [hs, ev_mk, ev_fold, ev_ite, ite_self, implies_true, ev_endAction, ev_finishActivation,
        ev_put]; done)

theorem ev_enterFall {r₀ s : State} (hs : Evolves r₀ s) : Evolves r₀ (enterFall s) := by
  unfold enterFall
  simp (maxDischargeDepth := 40) +contextual only [hs, ev_mk, ev_fold, ev_ite, ite_self, implies_true, ev_dropLink, ev_dropReady,
        ev_releasePins, ev_setMode]

theorem ev_goOff {r₀ s : State} (hs : Evolves r₀ s) : Evolves r₀ (goOff s) := by
  unfold goOff
  simp (maxDischargeDepth := 40) +contextual only [hs, ev_mk, ev_fold, ev_ite, ite_self, implies_true, ev_railsOff, ev_setMode]

theorem ev_freshPorts {r₀ s : State} (hs : Evolves r₀ s) : Evolves r₀ (freshPorts s) := by
  unfold freshPorts
  simp (maxDischargeDepth := 40) +contextual only [hs, ev_mk, ev_fold, ev_ite, ite_self, implies_true, ev_put]

theorem ev_startRise {r₀ s : State} (hs : Evolves r₀ s) : Evolves r₀ (startRise s) := by
  unfold startRise
  simp (maxDischargeDepth := 40) +contextual only [hs, ev_mk, ev_fold, ev_ite, ite_self, implies_true, ev_freshPorts, ev_put, ev_raise,
        ev_setMode, ev_unmeasured]

theorem ev_wakeRise {r₀ s : State} (hs : Evolves r₀ s) : Evolves r₀ (wakeRise s) := by
  unfold wakeRise
  simp (maxDischargeDepth := 40) +contextual only [hs, ev_mk, ev_fold, ev_ite, ite_self, implies_true, ev_put, ev_startRise]

theorem ev_enterRestore {r₀ s : State} (hs : Evolves r₀ s) : Evolves r₀ (enterRestore s) := by
  unfold enterRestore
  simp (maxDischargeDepth := 40) +contextual only [hs, ev_mk, ev_fold, ev_ite, ite_self, implies_true, ev_controllerReset, ev_dropLink,
        ev_put, ev_railsOn, ev_setMode, ev_switchSlots]

theorem ev_abandonWork {r₀ s : State} (hs : Evolves r₀ s) : Evolves r₀ (abandonWork s) := by
  unfold abandonWork
  simp (maxDischargeDepth := 40) +contextual only [hs, ev_mk, ev_fold, ev_ite, ite_self, implies_true, ev_endOverruns, ev_put]

theorem ev_startCurtain (cause : Nat) {r₀ s : State} (hs : Evolves r₀ s) : Evolves r₀ (startCurtain cause s) := by
  unfold startCurtain
  simp (maxDischargeDepth := 40) +contextual only [hs, ev_mk, ev_fold, ev_ite, ite_self, implies_true, ev_abandonWork, ev_bothExceptions,
        ev_endAction, ev_holdPins, ev_interruptActivation, ev_overtakeDeferred, ev_put, ev_railsOn, ev_raise, ev_setMode, ev_settleAll,
        ev_takeStamp, ev_withholdCredits]

theorem ev_triggerCurtain (cause : Nat) {r₀ s : State} (hs : Evolves r₀ s) : Evolves r₀ (triggerCurtain cause s) := by
  unfold triggerCurtain
  (try simp (maxDischargeDepth := 40) +contextual only [hs, ev_mk, ev_fold, ev_ite, ite_self, implies_true, ev_enterFall, ev_put,
        ev_startCurtain])
  repeat' split
  all_goals first
    | (with_reducible exact hs)
    | (simp (maxDischargeDepth := 40) +contextual only [hs, ev_mk, ev_fold, ev_ite, ite_self, implies_true, ev_enterFall, ev_put,
        ev_startCurtain]; done)

theorem ev_poisonReads {r₀ : State} {s : State} (hs : Evolves r₀ s) : Evolves r₀ (poisonReads s) := by
  unfold poisonReads
  simp only [ev_mk, ev_fold]
  refine ev_foldl (fun t r ht => ?_) s.reads hs
  split
  · split
    · exact ht
    · exact ev_sendData _ _ _ _ ht
  · exact ht

theorem ev_commitCurtain {r₀ s : State} (hs : Evolves r₀ s) : Evolves r₀ (commitCurtain s) := by
  unfold commitCurtain
  (try simp (maxDischargeDepth := 40) +contextual only [hs, ev_mk, ev_fold, ev_ite, ite_self, implies_true, ev_dropLink, ev_dropReady,
        ev_finishAccepted, ev_poisonReads, ev_railsOff, ev_silence])
  repeat' split
  all_goals first
    | (with_reducible exact hs)
    | (simp (maxDischargeDepth := 40) +contextual only [hs, ev_mk, ev_fold, ev_ite, ite_self, implies_true, ev_dropLink, ev_dropReady,
        ev_finishAccepted, ev_poisonReads, ev_railsOff, ev_silence]; done)

theorem ev_noteCurtain (c : Curtain) (outcome : Nat) {r₀ s : State} (hs : Evolves r₀ s) : Evolves r₀ (noteCurtain c outcome s) := by
  unfold noteCurtain
  simp (maxDischargeDepth := 40) +contextual only [hs, ev_mk, ev_fold, ev_ite, ite_self, implies_true, ev_bump, ev_drawn, ev_put]

theorem ev_saveAtCurtain {r₀ s : State} (hs : Evolves r₀ s) : Evolves r₀ (saveAtCurtain s) := by
  unfold saveAtCurtain
  simp (maxDischargeDepth := 40) +contextual only [hs, ev_mk, ev_fold, ev_ite, ite_self, implies_true, ev_saveCounts]

theorem ev_programImage {r₀ s : State} (hs : Evolves r₀ s) : Evolves r₀ (programImage s) := by
  unfold programImage
  (try simp (maxDischargeDepth := 40) +contextual only [hs, ev_mk, ev_fold, ev_ite, ite_self, implies_true, ev_ringProgram])
  repeat' split
  all_goals first
    | (with_reducible exact hs)
    | (simp (maxDischargeDepth := 40) +contextual only [hs, ev_mk, ev_fold, ev_ite, ite_self, implies_true, ev_ringProgram]; done)

theorem ev_finishCurtain (c : Curtain) {r₀ s : State} (hs : Evolves r₀ s) : Evolves r₀ (finishCurtain c s) := by
  unfold finishCurtain
  simp (maxDischargeDepth := 40) +contextual only [hs, ev_mk, ev_fold, ev_ite, ite_self, implies_true, ev_programImage, ev_saveAtCurtain,
        ev_writeRecord]

theorem ev_restoreKept (reset : Bool) {r₀ s : State} (hs : Evolves r₀ s) : Evolves r₀ (restoreKept reset s) := by
  unfold restoreKept
  simp (maxDischargeDepth := 40) +contextual only [hs, ev_mk, ev_fold, ev_ite, ite_self, implies_true, ev_enterRestore, ev_releasePins]

theorem ev_curtainOutcome (c : Curtain) {r₀ s : State} (hs : Evolves r₀ s) : Evolves r₀ (curtainOutcome c s) := by
  unfold curtainOutcome
  simp (maxDischargeDepth := 40) +contextual only [hs, ev_mk, ev_fold, ev_ite, ite_self, implies_true, ev_enterFall, ev_finishCurtain,
        ev_noteCurtain, ev_railsOff, ev_releasePins, ev_restoreKept, ev_setMode]

theorem ev_cancelCurtain (c : Curtain) (mv : Nat) {r₀ s : State} (hs : Evolves r₀ s) : Evolves r₀ (cancelCurtain c mv s) := by
  unfold cancelCurtain
  simp (maxDischargeDepth := 40) +contextual only [hs, ev_mk, ev_fold, ev_ite, ite_self, implies_true, ev_bump, ev_put, ev_railsOff, ev_raise,
        ev_setBand, ev_setMode, ev_withholdCredits, ev_writeRecord]

theorem ev_restartRise {r₀ s : State} (hs : Evolves r₀ s) : Evolves r₀ (restartRise s) := by
  unfold restartRise
  simp (maxDischargeDepth := 40) +contextual only [hs, ev_mk, ev_fold, ev_ite, ite_self, implies_true, ev_dropLink, ev_dropReady,
        ev_freshPorts, ev_interruptActivation, ev_put, ev_setMode]

theorem ev_deviceReset (code : Nat) {r₀ s : State} (hs : Evolves r₀ s) : Evolves r₀ (deviceReset code s) := by
  unfold deviceReset
  simp (maxDischargeDepth := 40) +contextual only [hs, ev_mk, ev_fold, ev_ite, ite_self, implies_true, ev_bump, ev_endAllSessions,
        ev_enterFall, ev_put, ev_raise, ev_restartRise, ev_startCurtain, ev_triggerCurtain]

theorem ev_loseInput (kind mv : Nat) {r₀ s : State} (hs : Evolves r₀ s) : Evolves r₀ (loseInput kind mv s) := by
  unfold loseInput
  simp (maxDischargeDepth := 40) +contextual only [hs, ev_mk, ev_fold, ev_ite, ite_self, implies_true, ev_endAllSessions, ev_enterFall,
        ev_goOff, ev_noteVin, ev_triggerCurtain, ev_writeRecord]

theorem ev_wakeBy (source : Nat) {r₀ s : State} (hs : Evolves r₀ s) : Evolves r₀ (wakeBy source s) := by
  unfold wakeBy
  (try simp (maxDischargeDepth := 40) +contextual only [hs, ev_mk, ev_fold, ev_ite, ite_self, implies_true, ev_put, ev_raise])
  repeat' split
  all_goals first
    | (with_reducible exact hs)
    | (simp (maxDischargeDepth := 40) +contextual only [hs, ev_mk, ev_fold, ev_ite, ite_self, implies_true, ev_put, ev_raise]; done)

theorem ev_linksL1 (b : Bool) {r₀ s : State} (hs : Evolves r₀ s) : Evolves r₀ (linksL1 b s) := by
  unfold linksL1
  simp (maxDischargeDepth := 40) +contextual only [hs, ev_mk, ev_fold, ev_ite, ite_self, implies_true, ev_modPort]

theorem ev_wakeUp {r₀ s : State} (hs : Evolves r₀ s) : Evolves r₀ (wakeUp s) := by
  unfold wakeUp
  simp (maxDischargeDepth := 40) +contextual only [hs, ev_mk, ev_fold, ev_ite, ite_self, implies_true, ev_linksL1, ev_railsOn, ev_setMode,
        ev_withholdCredits]

theorem ev_releaseScratch {r₀ s : State} (hs : Evolves r₀ s) : Evolves r₀ (releaseScratch s) := by
  unfold releaseScratch
  (try simp (maxDischargeDepth := 40) +contextual only [hs, ev_mk, ev_fold, ev_ite, ite_self, implies_true, ev_setUnitState])
  repeat' split
  all_goals first
    | (with_reducible exact hs)
    | (simp (maxDischargeDepth := 40) +contextual only [hs, ev_mk, ev_fold, ev_ite, ite_self, implies_true, ev_setUnitState]; done)

theorem ev_buttonCurtain {r₀ s : State} (hs : Evolves r₀ s) : Evolves r₀ (buttonCurtain s) := by
  unfold buttonCurtain
  simp (maxDischargeDepth := 40) +contextual only [hs, ev_mk, ev_fold, ev_ite, ite_self, implies_true, ev_put, ev_triggerCurtain]

theorem ev_criticalError {r₀ s : State} (hs : Evolves r₀ s) : Evolves r₀ (criticalError s) := by
  unfold criticalError
  simp (maxDischargeDepth := 40) +contextual only [hs, ev_mk, ev_fold, ev_ite, ite_self, implies_true, ev_bump, ev_deviceReset, ev_raise]

theorem ev_lockOut {r₀ s : State} (hs : Evolves r₀ s) : Evolves r₀ (lockOut s) := by
  unfold lockOut
  simp (maxDischargeDepth := 40) +contextual only [hs, ev_mk, ev_fold, ev_ite, ite_self, implies_true, ev_bump, ev_enterFall, ev_raise,
        ev_triggerCurtain]

theorem ev_writeSlot {r₀ : State} {r : RecorderRecord} {f : RecorderRecord → List RecorderRecord → Option (List RecorderRecord)} {s t : State}
    (h : writeSlot r f s = some t) (hs : Evolves r₀ s) : Evolves r₀ t := by
  unfold writeSlot at h
  simp only [Option.map_eq_some_iff] at h
  obtain ⟨l, -, rfl⟩ := h
  exact ev_put (s := { s with recd := { s.recd with records := l } }) _ _ hs

theorem ev_dropRecord {r₀ s : State} (hs : Evolves r₀ s) : Evolves r₀ (dropRecord s) := by
  unfold dropRecord
  simp (maxDischargeDepth := 40) +contextual only [hs, ev_mk, ev_fold, ev_ite, ite_self, implies_true, ev_bump, ev_raise]

theorem ev_storeRecord {r₀ : State} (r : RecorderRecord) {s : State} (hs : Evolves r₀ s) : Evolves r₀ (storeRecord r s) := by
  have h (x : RecorderRecord) (f : RecorderRecord → List RecorderRecord → Option (List RecorderRecord)) :
      Evolves r₀ ((writeSlot x f s).getD (dropRecord s)) := by
    cases hx : writeSlot x f s with
    | none => exact ev_dropRecord hs
    | some t => exact ev_writeSlot hx hs
  unfold storeRecord
  split
  · exact h _ _
  · split
    · split
      · split
        · rename_i t ht
          have := ev_writeSlot ht hs
          exact this
        · exact ev_dropRecord hs
      · exact ev_raise _ (ev_bump _ (h _ _))
    · exact h _ _

theorem ev_writeNextRecord {r₀ s : State} (hs : Evolves r₀ s) : Evolves r₀ (writeNextRecord s) := by
  unfold writeNextRecord
  (try simp (maxDischargeDepth := 40) +contextual only [hs, ev_mk, ev_fold, ev_ite, ite_self, implies_true, ev_storeRecord])
  repeat' split
  all_goals first
    | (with_reducible exact hs)
    | (simp (maxDischargeDepth := 40) +contextual only [hs, ev_mk, ev_fold, ev_ite, ite_self, implies_true, ev_storeRecord]; done)

theorem ev_clearLatch (src count stamp : Nat) {r₀ s : State} (hs : Evolves r₀ s) : Evolves r₀ (clearLatch src count stamp s) := by
  unfold clearLatch
  simp (maxDischargeDepth := 40) +contextual only [hs, ev_mk, ev_fold, ev_ite, ite_self, implies_true, ev_count, ev_latchMsi, ev_put]

theorem ev_clearRecorder (arg stamp : Nat) {r₀ s : State} (hs : Evolves r₀ s) : Evolves r₀ (clearRecorder arg stamp s) := by
  unfold clearRecorder
  simp (maxDischargeDepth := 40) +contextual only [hs, ev_mk, ev_fold, ev_ite, ite_self, implies_true, ev_put, ev_raise, ev_recordOccurrence]

theorem ev_raiseVcore {r₀ s : State} (hs : Evolves r₀ s) : Evolves r₀ (raiseVcore s) := by
  unfold raiseVcore
  simp (maxDischargeDepth := 40) +contextual only [hs, ev_mk, ev_fold, ev_ite, ite_self, implies_true, ev_raise]

theorem ev_endWindow (p : Port) {r₀ s : State} (hs : Evolves r₀ s) : Evolves r₀ (endWindow p s) := by
  unfold endWindow
  simp (maxDischargeDepth := 40) +contextual only [hs, ev_mk, ev_fold, ev_ite, ite_self, implies_true, ev_bump, ev_put, ev_raiseIf,
        ev_raiseTo, ev_setPort, ev_windowRead, ev_windowWrite]

theorem ev_rearmSamples {r₀ s : State} (hs : Evolves r₀ s) : Evolves r₀ (rearmSamples s) := by
  unfold rearmSamples
  simp (maxDischargeDepth := 40) +contextual only [hs, ev_mk, ev_fold, ev_ite, ite_self, implies_true]

theorem ev_takeSample {r₀ s : State} (hs : Evolves r₀ s) : Evolves r₀ (takeSample s) :=
  ev_drawn (ev_rearmSamples (ev_obs _ hs fun h => Nat.le_trans (Nat.le_of_eq List.length_drop) (Nat.le_trans (Nat.sub_le _ _) h)))

theorem ev_emptySamples {r₀ s : State} (hs : Evolves r₀ s) : Evolves r₀ (emptySamples s) := ev_rearmSamples (ev_obs _ hs fun _ => Nat.zero_le _)

theorem ev_emptyNotices {r₀ s : State} (hs : Evolves r₀ s) : Evolves r₀ (emptyNotices s) := ev_mgmt _ hs ⟨id, id, id, fun _ => Nat.zero_le _⟩

theorem ev_emptyReceived {r₀ s : State} (hs : Evolves r₀ s) : Evolves r₀ (emptyReceived s) := ev_mgmt _ hs ⟨id, id, fun _ => Nat.zero_le _, id⟩

theorem ev_flushIf (on : Bool) {empty : State → State} {r₀ s : State} (he : ∀ t, Evolves r₀ t → Evolves r₀ (empty t)) (hs : Evolves r₀ s) :
    Evolves r₀ (flushIf on empty s) := ev_cond (ev_raise _ (ev_bump _ (he _ hs))) hs

theorem ev_flushQueues (bits : Nat) {r₀ s : State} (hs : Evolves r₀ s) : Evolves r₀ (flushQueues bits s) :=
  ev_flushIf _ (fun _ => ev_emptyReceived) (ev_flushIf _ (fun _ => ev_emptyNotices) (ev_flushIf _ (fun _ => ev_emptySamples) hs))

theorem ev_readSource (c : DmaChannel) {r₀ s : State} (hs : Evolves r₀ s) : Evolves r₀ (readSource c s) := by
  unfold readSource
  simp (maxDischargeDepth := 40) +contextual only [hs, ev_mk, ev_fold, ev_ite, ite_self, implies_true, ev_agentReads, ev_foldl]

theorem ev_takeItems {r₀ : State} (queue n : Nat) {s : State} (hs : Evolves r₀ s) : Evolves r₀ (takeItems queue n s) := by
  unfold takeItems
  split
  · refine ev_rearmSamples ?_
    simp only [ev_mk]
    exact { hs with
      draws := Nat.le_trans hs.draws (Nat.le_add_right _ _)
      samples := fun h => Nat.le_trans (Nat.le_of_eq List.length_drop) (Nat.le_trans (Nat.sub_le _ _) (hs.samples h)) }
  · exact ev_mgmt _ hs ⟨id, id, id, fun h => Nat.le_trans (Nat.le_of_eq List.length_drop) (Nat.le_trans (Nat.sub_le _ _) h)⟩

theorem ev_placeLines {r₀ : State} (stamp : Nat) (lines : List BurstLine) {s : State} (hs : Evolves r₀ s) : Evolves r₀ (placeLines stamp lines s) := by
  refine ev_foldl (fun t x ht => ?_) _ hs
  refine ev_dropCached _ (ev_storeCommitted _ _ _ _ _ _ ?_)
  split
  · exact ev_markConflict _ _ ht
  · exact ht

theorem ev_endTransfer (k state : Nat) {r₀ s : State} (hs : Evolves r₀ s) : Evolves r₀ (endTransfer k state s) := by
  unfold endTransfer
  simp (maxDischargeDepth := 40) +contextual only [hs, ev_mk, ev_fold, ev_ite, ite_self, implies_true, ev_raiseIf, ev_setChannel]

theorem ev_noteBurst (k n stamp poisoned : Nat) (carry : List Byte) {r₀ s : State} (hs : Evolves r₀ s) : Evolves r₀ (noteBurst k n stamp
        poisoned carry s) := by
  unfold noteBurst
  simp (maxDischargeDepth := 40) +contextual only [hs, ev_mk, ev_fold, ev_ite, ite_self, implies_true, ev_addTo, ev_count, ev_setChannel]

theorem ev_placeBurst {r₀ : State} {k n : Nat} {lines : List BurstLine} {carry : List Byte} {s t : State}
    (h : placeBurst k n lines carry s = some t) (hs : Evolves r₀ s) : Evolves r₀ t := by
  unfold placeBurst at h
  simp only [Option.ite_none_left_eq_some, Option.some.injEq] at h
  obtain ⟨-, rfl⟩ := h
  refine ev_noteBurst _ _ _ _ _ ?_
  have := ev_placeLines s.stampNow lines (ev_takeStamp hs)
  split
  · exact this
  · exact ev_programAll this

theorem ev_afterBurst (k : Nat) (last : Bool) {r₀ s : State} (hs : Evolves r₀ s) : Evolves r₀ (afterBurst k last s) := by
  unfold afterBurst
  simp (maxDischargeDepth := 40) +contextual only [hs, ev_mk, ev_fold, ev_ite, ite_self, implies_true, ev_endTransfer]

theorem ev_copyBurst {r₀ : State} (k : Nat) {s : State} (hs : Evolves r₀ s) : Evolves r₀ (copyBurst k s) := by
  unfold copyBurst
  simp only
  split
  · exact ev_haltChannel _ _ _ _ hs
  · split
    · exact ev_foldl (fun t g ht => ev_startRebuild _ ht) _ hs
    · split
      · exact hs
      · split
        · exact hs
        · rename_i t h
          exact ev_afterBurst _ _ (ev_placeBurst h (ev_readSource _ hs))

theorem ev_drainBurst {r₀ : State} (k : Nat) (timer : Bool) {s : State} (hs : Evolves r₀ s) : Evolves r₀ (drainBurst k timer s) := by
  unfold drainBurst
  simp only
  repeat' split
  all_goals first
    | with_reducible exact hs
    | exact ev_haltChannel _ _ _ _ hs
    | exact ev_afterBurst _ _ hs
    | (rename_i h; exact ev_afterBurst _ _ (ev_placeBurst h (ev_drawn (ev_takeItems _ _ hs))))

theorem ev_nextBurst (k : Nat) (timer : Bool) {r₀ s : State} (hs : Evolves r₀ s) : Evolves r₀ (nextBurst k timer s) := by
  unfold nextBurst
  simp (maxDischargeDepth := 40) +contextual only [hs, ev_mk, ev_fold, ev_ite, ite_self, implies_true, ev_copyBurst, ev_drainBurst]

theorem ev_releaseChannel (k : Nat) {r₀ s : State} (hs : Evolves r₀ s) : Evolves r₀ (releaseChannel k s) := by
  unfold releaseChannel
  simp (maxDischargeDepth := 40) +contextual only [hs, ev_mk, ev_fold, ev_ite, ite_self, implies_true, ev_setChannel]

theorem ev_readIdentity {r₀ s : State} (hs : Evolves r₀ s) : Evolves r₀ (readIdentity s) := by
  unfold readIdentity
  (try simp (maxDischargeDepth := 40) +contextual only [hs, ev_mk, ev_fold, ev_ite, ite_self, implies_true, ev_bump, ev_put, ev_putBytes,
        ev_raise])
  repeat' split
  all_goals first
    | (with_reducible exact hs)
    | (simp (maxDischargeDepth := 40) +contextual only [hs, ev_mk, ev_fold, ev_ite, ite_self, implies_true, ev_bump, ev_put, ev_putBytes,
        ev_raise]; done)

theorem ev_powerOn {r₀ s : State} (hs : Evolves r₀ s) : Evolves r₀ (powerOn s) := by
  have h := ev_endEpisode (ev_resetEntries supervisorKey hs)
  unfold powerOn
  refine ev_readIdentity (ev_unmeasured (ev_railsOn _ (ev_bump _ (ev_put _ _ ?_))))
  simp only [ev_mk]
  exact { h with sessions := fun _ => Nat.zero_le _, received := fun _ => Nat.zero_le _, notices := fun _ => Nat.zero_le _ }

theorem ev_afterAbsence {r₀ s : State} (hs : Evolves r₀ s) : Evolves r₀ (afterAbsence s) := by
  unfold afterAbsence
  simp (maxDischargeDepth := 40) +contextual only [hs, ev_mk, ev_fold, ev_ite, ite_self, implies_true, ev_put]

theorem ev_connectInput {r₀ s : State} (hs : Evolves r₀ s) : Evolves r₀ (connectInput s) := by
  unfold connectInput
  simp (maxDischargeDepth := 40) +contextual only [hs, ev_mk, ev_fold, ev_ite, ite_self, implies_true, ev_afterAbsence, ev_powerOn,
        ev_setMode]

theorem ev_measureInput (mv : Nat) (known : Bool) {r₀ s : State} (hs : Evolves r₀ s) : Evolves r₀ (measureInput mv known s) := by
  unfold measureInput
  simp (maxDischargeDepth := 40) +contextual only [hs, ev_mk, ev_fold, ev_ite, ite_self, implies_true, ev_noteVin, ev_readIdentity,
        ev_setBand]

theorem ev_autoStart {r₀ s : State} (hs : Evolves r₀ s) : Evolves r₀ (autoStart s) := by
  unfold autoStart
  simp (maxDischargeDepth := 40) +contextual only [hs, ev_mk, ev_fold, ev_ite, ite_self, implies_true, ev_startRise]

theorem ev_noteRailFault (code : Nat) {r₀ s : State} (hs : Evolves r₀ s) : Evolves r₀ (noteRailFault code s) := by
  unfold noteRailFault
  simp (maxDischargeDepth := 40) +contextual only [hs, ev_mk, ev_fold, ev_ite, ite_self, implies_true, ev_bump, ev_raise, ev_writeRecord]

theorem ev_endFall {r₀ : State} (stuck : Nat) (vinAbsent : Bool) {s : State} (hs : Evolves r₀ s) : Evolves r₀ (endFall stuck vinAbsent s) := by
  unfold endFall
  simp only
  generalize hA : List.foldl _ ((railsOff switchedRails.reverse s).put 0x20100E _) _ = a
  have ha : Evolves r₀ a := by
    rw [← hA]
    exact ev_foldl (fun t c ht => ev_raise _ (ev_writeRecord _ _ _ _ (ev_setRail _ _ ht))) _ (ev_put _ _ (ev_railsOff _ hs))
  clear hA
  generalize hB : unmeasured _ = b
  have hb : Evolves r₀ b := by rw [← hB]; exact ev_unmeasured (by simp only [ev_mk, ev_fold]; exact ha)
  clear hB
  have hd : Evolves r₀ (if (a.pow.fourthReset : Bool) = true then raise 255 b else b) := ev_cond (ev_raise _ hb) hb
  generalize (if (a.pow.fourthReset : Bool) = true then raise 255 b else b) = d at hd ⊢
  have he : Evolves r₀ (if d.get 0x205003 = 2 then d.put 0x205003 3 else d) := ev_cond (ev_put _ _ hd) hd
  generalize (if d.get 0x205003 = 2 then d.put 0x205003 3 else d) = e at he ⊢
  refine ev_cond (ev_setMode _ he) (ev_cond (ev_goOff he) (ev_cond (ev_startRise (ev_setMode _ he)) (ev_setMode _ he)))

theorem ev_startDoze {r₀ s : State} (hs : Evolves r₀ s) : Evolves r₀ (startDoze s) := by
  unfold startDoze
  simp (maxDischargeDepth := 40) +contextual only [hs, ev_mk, ev_fold, ev_ite, ite_self, implies_true]

theorem ev_dozeStep (n : Nat) {r₀ s : State} (hs : Evolves r₀ s) : Evolves r₀ (dozeStep n s) := by
  unfold dozeStep
  simp (maxDischargeDepth := 40) +contextual only [hs, ev_mk, ev_fold, ev_ite, ite_self, implies_true, ev_drainPort, ev_linksL1,
        ev_programAll, ev_railsOff, ev_withholdCredits, ev_writeBack, ev_writeTableImage]

theorem ev_undoDoze (n : Nat) {r₀ s : State} (hs : Evolves r₀ s) : Evolves r₀ (undoDoze n s) := by
  unfold undoDoze
  simp (maxDischargeDepth := 40) +contextual only [hs, ev_mk, ev_fold, ev_ite, ite_self, implies_true, ev_linksL1, ev_railsOn,
        ev_withholdCredits]

theorem ev_abortPoint (n : Nat) {r₀ s : State} (hs : Evolves r₀ s) : Evolves r₀ (abortPoint n s) := by
  unfold abortPoint
  (try simp (maxDischargeDepth := 40) +contextual only [hs, ev_mk, ev_fold, ev_ite, ite_self, implies_true, ev_bump, ev_endAction, ev_raise,
        ev_setMode, ev_undoDoze])
  repeat' split
  all_goals first
    | (with_reducible exact hs)
    | (simp (maxDischargeDepth := 40) +contextual only [hs, ev_mk, ev_fold, ev_ite, ite_self, implies_true, ev_bump, ev_endAction, ev_raise,
        ev_setMode, ev_undoDoze]; done)

theorem ev_wakeSource (source : Nat) {r₀ s : State} (hs : Evolves r₀ s) : Evolves r₀ (wakeSource source s) := by
  unfold wakeSource
  simp (maxDischargeDepth := 40) +contextual only [hs, ev_mk, ev_fold, ev_ite, ite_self, implies_true, ev_put, ev_raise, ev_wakeBy,
        ev_wakeRise]

theorem ev_offRequest {r₀ s : State} (hs : Evolves r₀ s) : Evolves r₀ (offRequest s) := by
  unfold offRequest
  simp (maxDischargeDepth := 40) +contextual only [hs, ev_mk, ev_fold, ev_ite, ite_self, implies_true, ev_enterFall, ev_triggerCurtain]

theorem ev_onRequest {r₀ s : State} (hs : Evolves r₀ s) : Evolves r₀ (onRequest s) := by
  unfold onRequest
  simp (maxDischargeDepth := 40) +contextual only [hs, ev_mk, ev_fold, ev_ite, ite_self, implies_true, ev_wakeRise]

theorem ev_retryRails {r₀ s : State} (hs : Evolves r₀ s) : Evolves r₀ (retryRails s) := by
  unfold retryRails
  simp (maxDischargeDepth := 40) +contextual only [hs, ev_mk, ev_fold, ev_ite, ite_self, implies_true, ev_startRise]

theorem ev_enterService {r₀ s : State} (hs : Evolves r₀ s) : Evolves r₀ (enterService s) := by
  unfold enterService
  simp (maxDischargeDepth := 40) +contextual only [hs, ev_mk, ev_fold, ev_ite, ite_self, implies_true, ev_loseAll, ev_raise, ev_setMode,
        ev_stopDozeEntry, ev_undoDoze]

theorem ev_leaveService {r₀ s : State} (hs : Evolves r₀ s) : Evolves r₀ (leaveService s) := by
  unfold leaveService
  simp (maxDischargeDepth := 40) +contextual only [hs, ev_mk, ev_fold, ev_ite, ite_self, implies_true, ev_raise, ev_releaseScratch,
        ev_setMode]

theorem ev_activateOnline (result : ActivationResult) {r₀ s : State} (hs : Evolves r₀ s) : Evolves r₀ (activateOnline result s) := by
  unfold activateOnline
  (try simp (maxDischargeDepth := 40) +contextual only [hs, ev_mk, ev_fold, ev_ite, ite_self, implies_true, ev_drawn, ev_raise, ev_setAction])
  repeat' split
  all_goals first
    | (with_reducible exact hs)
    | (simp (maxDischargeDepth := 40) +contextual only [hs, ev_mk, ev_fold, ev_ite, ite_self, implies_true, ev_drawn, ev_raise, ev_setAction];
        done)

theorem ev_stageImage (signatureOk : Bool) (version : Nat) {r₀ s : State} (hs : Evolves r₀ s) : Evolves r₀ (stageImage signatureOk version
        s) := by
  unfold stageImage
  simp (maxDischargeDepth := 40) +contextual only [hs, ev_mk, ev_fold, ev_ite, ite_self, implies_true, ev_put, ev_raise]

theorem ev_dropBlockAt (mem : MemKind) (address : Nat) {r₀ s : State} (hs : Evolves r₀ s) : Evolves r₀ (dropBlockAt mem address s) := by
  unfold dropBlockAt
  (try simp (maxDischargeDepth := 40) +contextual only [hs, ev_mk, ev_fold, ev_ite, ite_self, implies_true])
  repeat' split
  all_goals first
    | (with_reducible exact hs)
    | (simp (maxDischargeDepth := 40) +contextual only [hs, ev_mk, ev_fold, ev_ite, ite_self, implies_true]; done)

theorem ev_poisonQueued (p : Port) (tag : Nat) {r₀ s : State} (hs : Evolves r₀ s) : Evolves r₀ (poisonQueued p tag s) := by
  unfold poisonQueued
  simp (maxDischargeDepth := 40) +contextual only [hs, ev_mk, ev_fold, ev_ite, ite_self, implies_true, ev_modPort, ev_nameLines]

theorem ev_rebuildDram {r₀ s : State} (hs : Evolves r₀ s) : Evolves r₀ (rebuildDram s) := by
  unfold rebuildDram
  simp (maxDischargeDepth := 40) +contextual only [hs, ev_mk, ev_fold, ev_ite, ite_self, implies_true, ev_detectSomewhere, ev_raise]

theorem ev_structureError (what : Structure) {r₀ s : State} (hs : Evolves r₀ s) : Evolves r₀ (structureError what s) := by
  unfold structureError
  (try simp (maxDischargeDepth := 40) +contextual only [hs, ev_mk, ev_fold, ev_ite, ite_self, implies_true, ev_cacheError, ev_criticalError,
        ev_detectError, ev_detectSomewhere, ev_dropCached, ev_nameLines, ev_poisonQueued, ev_raise, ev_rebuildDram, ev_setGroup])
  repeat' split
  all_goals first
    | (with_reducible exact hs)
    | (simp (maxDischargeDepth := 40) +contextual only [hs, ev_mk, ev_fold, ev_ite, ite_self, implies_true, ev_cacheError, ev_criticalError,
        ev_detectError, ev_detectSomewhere, ev_dropCached, ev_nameLines, ev_poisonQueued, ev_raise, ev_rebuildDram, ev_setGroup]; done)

theorem ev_enterRemap (mem : MemKind) (row : Nat) {r₀ s : State} (hs : Evolves r₀ s) : Evolves r₀ (enterRemap mem row s) := by
  unfold enterRemap
  simp (maxDischargeDepth := 40) +contextual only [hs, ev_mk, ev_fold, ev_ite, ite_self, implies_true, ev_bump, ev_raise]

theorem ev_transientOutcome {r₀ : State} (mem : MemKind) (address : Nat) {s : State} (hs : Evolves r₀ s) : Evolves r₀ (transientOutcome mem address s).1 := by
  unfold transientOutcome
  split
  · exact ev_raise _ hs
  · exact ev_noteTransient _ _ (ev_bump _ (ev_setOutcome _ _ _ hs))

theorem ev_lastingRow (mem : MemKind) (row : Nat) {r₀ s : State} (hs : Evolves r₀ s) : Evolves r₀ (lastingRow mem row s) := by
  unfold lastingRow
  simp (maxDischargeDepth := 40) +contextual only [hs, ev_mk, ev_fold, ev_ite, ite_self, implies_true, ev_bump, ev_enterRemap, ev_raise,
        ev_setOutcome]

theorem ev_borrowUnit (u : Nat) {r₀ s : State} (hs : Evolves r₀ s) : Evolves r₀ (borrowUnit u s) := by
  unfold borrowUnit
  simp (maxDischargeDepth := 40) +contextual only [hs, ev_mk, ev_fold, ev_ite, ite_self, implies_true, ev_setStripe, ev_unitReset]

theorem ev_refreshSector (unit : Nat) {r₀ s : State} (hs : Evolves r₀ s) : Evolves r₀ (refreshSector unit s) := by
  unfold refreshSector
  simp (maxDischargeDepth := 40) +contextual only [hs, ev_mk, ev_fold, ev_ite, ite_self, implies_true, ev_scheduleRefresh]

theorem ev_lastingSector (unit address : Nat) {r₀ s : State} (hs : Evolves r₀ s) : Evolves r₀ (lastingSector unit address s) := by
  unfold lastingSector
  simp (maxDischargeDepth := 40) +contextual only [hs, ev_mk, ev_fold, ev_ite, ite_self, implies_true, ev_bump, ev_lastingFault, ev_raise,
        ev_setOutcome]

theorem ev_transientSector (unit address : Nat) {r₀ s : State} (hs : Evolves r₀ s) : Evolves r₀ (transientSector unit address s) := by
  unfold transientSector
  simp (maxDischargeDepth := 40) +contextual only [hs, ev_mk, ev_fold, ev_ite, ite_self, implies_true, ev_lastingSector, ev_transientOutcome]

theorem ev_takeScratch {r₀ s : State} (hs : Evolves r₀ s) : Evolves r₀ (takeScratch s) := by
  unfold takeScratch
  (try simp (maxDischargeDepth := 40) +contextual only [hs, ev_mk, ev_fold, ev_ite, ite_self, implies_true, ev_borrowUnit, ev_setUnitState])
  repeat' split
  all_goals first
    | (with_reducible exact hs)
    | (simp (maxDischargeDepth := 40) +contextual only [hs, ev_mk, ev_fold, ev_ite, ite_self, implies_true, ev_borrowUnit, ev_setUnitState]; done)

theorem ev_writeRaw {r₀ s : State} (hs : Evolves r₀ s) : Evolves r₀ (writeRaw s) := by
  unfold writeRaw
  (try simp (maxDischargeDepth := 40) +contextual only [hs, ev_mk, ev_fold, ev_ite, ite_self, implies_true, ev_raise, ev_sectorProgrammed,
        ev_takeScratch])
  repeat' split
  all_goals first
    | (with_reducible exact hs)
    | (simp (maxDischargeDepth := 40) +contextual only [hs, ev_mk, ev_fold, ev_ite, ite_self, implies_true, ev_raise, ev_sectorProgrammed,
        ev_takeScratch]; done)

theorem ev_readRaw (result : CodeResult) (decoded : List Byte) {r₀ s : State} (hs : Evolves r₀ s) : Evolves r₀ (readRaw result decoded s) :=
        by
  unfold readRaw
  (try simp (maxDischargeDepth := 40) +contextual only [hs, ev_mk, ev_fold, ev_ite, ite_self, implies_true, ev_drawn, ev_put, ev_putBytes,
        ev_raise, ev_takeScratch])
  repeat' split
  all_goals first
    | (with_reducible exact hs)
    | (simp (maxDischargeDepth := 40) +contextual only [hs, ev_mk, ev_fold, ev_ite, ite_self, implies_true, ev_drawn, ev_put, ev_putBytes,
        ev_raise, ev_takeScratch]; done)

theorem ev_setBroken (n : Nat) (b : Bool) {r₀ s : State} (hs : Evolves r₀ s) : Evolves r₀ (setBroken n b s) := by
  unfold setBroken
  simp (maxDischargeDepth := 40) +contextual only [hs, ev_mk, ev_fold, ev_ite, ite_self, implies_true, ev_clearBit, ev_setBit]

theorem ev_compareSensor (n : Nat) {r₀ s : State} (hs : Evolves r₀ s) : Evolves r₀ (compareSensor n s) := by
  unfold compareSensor
  (try simp (maxDischargeDepth := 40) +contextual only [hs, ev_mk, ev_fold, ev_ite, ite_self, implies_true])
  repeat' split
  all_goals first
    | (with_reducible exact hs)
    | (simp (maxDischargeDepth := 40) +contextual only [hs, ev_mk, ev_fold, ev_ite, ite_self, implies_true]; done)

theorem ev_declareBroken (n : Nat) {r₀ s : State} (hs : Evolves r₀ s) : Evolves r₀ (declareBroken n s) := by
  unfold declareBroken
  simp (maxDischargeDepth := 40) +contextual only [hs, ev_mk, ev_fold, ev_ite, ite_self, implies_true, ev_raise, ev_setBroken, ev_wakeBy]

theorem ev_crossCheck {r₀ s : State} (hs : Evolves r₀ s) : Evolves r₀ (crossCheck s) := by
  unfold crossCheck
  simp (maxDischargeDepth := 40) +contextual only [hs, ev_mk, ev_fold, ev_ite, ite_self, implies_true, ev_compareSensor, ev_declareBroken,
        ev_raiseIf, ev_foldl]

theorem ev_reAdmit (n : Nat) {r₀ s : State} (hs : Evolves r₀ s) : Evolves r₀ (reAdmit n s) := by
  unfold reAdmit
  simp (maxDischargeDepth := 40) +contextual only [hs, ev_mk, ev_fold, ev_ite, ite_self, implies_true, ev_raise, ev_setBroken]

theorem ev_noteHottest (c band : Nat) {r₀ s : State} (hs : Evolves r₀ s) : Evolves r₀ (noteHottest c band s) := by
  unfold noteHottest
  simp (maxDischargeDepth := 40) +contextual only [hs, ev_mk, ev_fold, ev_ite, ite_self, implies_true]

theorem ev_packageRound (c : Nat) {r₀ s : State} (hs : Evolves r₀ s) : Evolves r₀ (packageRound c s) := by
  unfold packageRound
  (try simp (maxDischargeDepth := 40) +contextual only [hs, ev_mk, ev_fold, ev_ite, ite_self, implies_true, ev_addTo, ev_noteHottest, ev_put,
        ev_putInt, ev_raise, ev_wakeBy])
  repeat' split
  all_goals first
    | (with_reducible exact hs)
    | (simp (maxDischargeDepth := 40) +contextual only [hs, ev_mk, ev_fold, ev_ite, ite_self, implies_true, ev_addTo, ev_noteHottest, ev_put,
        ev_putInt, ev_raise, ev_wakeBy]; done)

theorem ev_temperatures {r₀ s : State} (hs : Evolves r₀ s) : Evolves r₀ (temperatures s) := by
  unfold temperatures
  (try simp (maxDischargeDepth := 40) +contextual only [hs, ev_mk, ev_fold, ev_ite, ite_self, implies_true, ev_packageRound, ev_putInt,
        ev_foldl])
  repeat' split
  all_goals first
    | (with_reducible exact hs)
    | (simp (maxDischargeDepth := 40) +contextual only [hs, ev_mk, ev_fold, ev_ite, ite_self, implies_true, ev_packageRound, ev_putInt, ev_foldl];
        done)

theorem ev_requestThrottle {r₀ s : State} (hs : Evolves r₀ s) : Evolves r₀ (requestThrottle s) := by
  unfold requestThrottle
  simp (maxDischargeDepth := 40) +contextual only [hs, ev_mk, ev_fold, ev_ite, ite_self, implies_true, ev_bump, ev_put, ev_raise, ev_wakeBy]

theorem ev_pauseDie (d : Nat) {r₀ s : State} (hs : Evolves r₀ s) : Evolves r₀ (pauseDie d s) := by
  unfold pauseDie
  simp (maxDischargeDepth := 40) +contextual only [hs, ev_mk, ev_fold, ev_ite, ite_self, implies_true, ev_raise, ev_reconstructWaiting,
        ev_setBit, ev_foldl]

theorem ev_pauseRow (row : Nat) {r₀ s : State} (hs : Evolves r₀ s) : Evolves r₀ (pauseRow row s) := by
  unfold pauseRow
  (try simp (maxDischargeDepth := 40) +contextual only [hs, ev_mk, ev_fold, ev_ite, ite_self, implies_true, ev_clearBit, ev_pauseDie,
        ev_foldl])
  repeat' split
  all_goals first
    | (with_reducible exact hs)
    | (simp (maxDischargeDepth := 40) +contextual only [hs, ev_mk, ev_fold, ev_ite, ite_self, implies_true, ev_clearBit, ev_pauseDie, ev_foldl];
        done)

theorem ev_pauses {r₀ s : State} (hs : Evolves r₀ s) : Evolves r₀ (pauses s) := by
  unfold pauses
  simp (maxDischargeDepth := 40) +contextual only [hs, ev_mk, ev_fold, ev_ite, ite_self, implies_true, ev_pauseRow, ev_foldl]

theorem ev_raiseLevel {r₀ s : State} (hs : Evolves r₀ s) : Evolves r₀ (raiseLevel s) := by
  unfold raiseLevel
  simp (maxDischargeDepth := 40) +contextual only [hs, ev_mk, ev_fold, ev_ite, ite_self, implies_true, ev_pauses, ev_put, ev_raise]

theorem ev_clearThrottle {r₀ s : State} (hs : Evolves r₀ s) : Evolves r₀ (clearThrottle s) := by
  unfold clearThrottle
  simp (maxDischargeDepth := 40) +contextual only [hs, ev_mk, ev_fold, ev_ite, ite_self, implies_true, ev_noteEnforced, ev_put, ev_raise]

theorem ev_throttling {r₀ s : State} (hs : Evolves r₀ s) : Evolves r₀ (throttling s) := by
  unfold throttling
  (try simp (maxDischargeDepth := 40) +contextual only [hs, ev_mk, ev_fold, ev_ite, ite_self, implies_true, ev_pauses, ev_requestThrottle])
  repeat' split
  all_goals first
    | (with_reducible exact hs)
    | (simp (maxDischargeDepth := 40) +contextual only [hs, ev_mk, ev_fold, ev_ite, ite_self, implies_true, ev_pauses, ev_requestThrottle]; done)

theorem ev_coldPlate (n : Nat) {r₀ s : State} (hs : Evolves r₀ s) : Evolves r₀ (coldPlate n s) := by
  unfold coldPlate
  (try simp (maxDischargeDepth := 40) +contextual only [hs, ev_mk, ev_fold, ev_ite, ite_self, implies_true, ev_raiseIf])
  repeat' split
  all_goals first
    | (with_reducible exact hs)
    | (simp (maxDischargeDepth := 40) +contextual only [hs, ev_mk, ev_fold, ev_ite, ite_self, implies_true, ev_raiseIf]; done)

theorem ev_convertChannels {r₀ : State} (channels : List (Option Int)) {s : State} (hs : Evolves r₀ s) : Evolves r₀ (convertChannels channels s) := by
  refine ev_foldl (fun t n ht => ?_) _ hs
  split
  · exact ev_putInt _ _ _ ht
  · exact ev_put _ _ ht

theorem ev_supervise {r₀ : State} {s : State} (hs : Evolves r₀ s) : Evolves r₀ (supervise s) := by
  unfold supervise
  simp only
  generalize hA : List.foldl _ s (List.range 13) = a
  have h1 : Evolves r₀ a := by
    rw [← hA]
    refine ev_foldl (fun t n ht => ?_) _ hs
    split <;> exact ev_put _ _ ht
  clear hA
  have fin (b : State) (v : Int) (hb : Evolves r₀ b) (c : Prop) [Decidable c] : Evolves r₀ (
      let b := b.put 0x203002 (shown v)
      let energy := if b.get 0x203001 = 1 then usableMj (b.get 0x203003) (b.get 0x203004) (shown v) else 0
      let b := b.put 0x203005 (min 65535 energy)
      let b := updateProtection { b with pow := { b.pow with cartridge := { b.pow.cartridge with measured := true } } }
      if c then wakeBy 4 b else b) := by
    have := ev_updateProtection (ev_put 0x203005 (min 65535 (if (b.put 0x203002 (shown v)).get 0x203001 = 1 then
      usableMj ((b.put 0x203002 (shown v)).get 0x203003) ((b.put 0x203002 (shown v)).get 0x203004) (shown v) else 0)) (ev_put 0x203002 (shown v) hb))
    exact ev_cond (ev_wakeBy _ (ev_updateProtection (by simp only [ev_mk, ev_fold]; exact ev_put _ _ (ev_put _ _ hb))))
      (ev_updateProtection (by simp only [ev_mk, ev_fold]; exact ev_put _ _ (ev_put _ _ hb)))
  have last (b : State) (hb : Evolves r₀ b) : Evolves r₀ (match b.channelValue 44 with
    | none => b
    | some v =>
      let b := b.put 0x203002 (shown v)
      let energy := if b.get 0x203001 = 1 then usableMj (b.get 0x203003) (b.get 0x203004) (shown v) else 0
      let b := b.put 0x203005 (min 65535 energy)
      let was := b.get 0x402001
      let b := updateProtection { b with pow := { b.pow with cartridge := { b.pow.cartridge with measured := true } } }
      if was = 1 ∧ b.get 0x402001 ≠ 1 then wakeBy 4 b else b) := by
    split
    · exact hb
    · exact fin _ _ hb _
  cases h24 : a.channelValue 24 with
  | none =>
    simp only
    cases h47 : a.channelValue 47 with
    | none => exact last a h1
    | some w => exact last _ (ev_put _ _ h1)
  | some v =>
    simp only
    have h2 := ev_noteVin (shown v) h1
    generalize noteVin (shown v) a = b at h2 ⊢
    cases h47 : b.channelValue 47 with
    | none => exact last b h2
    | some w => exact last _ (ev_put _ _ h2)

theorem ev_slowRound (channels : List (Option Int)) {r₀ s : State} (hs : Evolves r₀ s) : Evolves r₀ (slowRound channels s) := by
  unfold slowRound
  simp (maxDischargeDepth := 40) +contextual only [hs, ev_mk, ev_fold, ev_ite, ite_self, implies_true, ev_coldPlate, ev_convertChannels,
        ev_crossCheck, ev_supervise, ev_temperatures, ev_throttling]

theorem ev_flushQueue (p : Port) {r₀ s : State} (hs : Evolves r₀ s) : Evolves r₀ (flushQueue p s) := by
  unfold flushQueue
  simp (maxDischargeDepth := 40) +contextual only [hs, ev_mk, ev_fold, ev_ite, ite_self, implies_true, ev_drainLoop]

theorem ev_flush (p : Port) (phase : Nat) {r₀ s : State} (hs : Evolves r₀ s) : Evolves r₀ (flush p phase s) := by
  unfold flush
  simp (maxDischargeDepth := 40) +contextual only [hs, ev_mk, ev_fold, ev_ite, ite_self, implies_true, ev_flushQueue, ev_modPort,
        ev_serveFlushes]

theorem ev_contain (p : Port) {r₀ s : State} (hs : Evolves r₀ s) : Evolves r₀ (contain p s) := by
  unfold contain
  simp (maxDischargeDepth := 40) +contextual only [hs, ev_mk, ev_fold, ev_ite, ite_self, implies_true, ev_forgetRequests, ev_modPort,
        ev_portException, ev_put, ev_raise]

theorem ev_resetPort (p : Port) {r₀ s : State} (hs : Evolves r₀ s) : Evolves r₀ (resetPort p s) := by
  unfold resetPort
  simp (maxDischargeDepth := 40) +contextual only [hs, ev_mk, ev_fold, ev_ite, ite_self, implies_true, ev_modPort, ev_put]

theorem ev_enablePort (p : Port) (on : Bool) {r₀ s : State} (hs : Evolves r₀ s) : Evolves r₀ (enablePort p on s) := by
  unfold enablePort
  simp (maxDischargeDepth := 40) +contextual only [hs, ev_mk, ev_fold, ev_ite, ite_self, implies_true, ev_closeDrained, ev_dropLink,
        ev_dropReady, ev_modPort, ev_portException, ev_put, ev_raiseReady]

theorem ev_freePort (p : Port) {r₀ s : State} (hs : Evolves r₀ s) : Evolves r₀ (freePort p s) := by
  unfold freePort
  simp (maxDischargeDepth := 40) +contextual only [hs, ev_mk, ev_fold, ev_ite, ite_self, implies_true, ev_modPort]

theorem ev_setTime (v source : Nat) {r₀ s : State} (hs : Evolves r₀ s) : Evolves r₀ (setTime v source s) := by
  unfold setTime
  simp (maxDischargeDepth := 40) +contextual only [hs, ev_mk, ev_fold, ev_ite, ite_self, implies_true, ev_journalPut, ev_put]

theorem ev_setProfile (v : Nat) {r₀ s : State} (hs : Evolves r₀ s) : Evolves r₀ (setProfile v s) := by
  unfold setProfile
  simp (maxDischargeDepth := 40) +contextual only [hs, ev_mk, ev_fold, ev_ite, ite_self, implies_true, ev_put, ev_raise]

theorem ev_writeRegion (r sub v : Nat) {r₀ s : State} (hs : Evolves r₀ s) : Evolves r₀ (writeRegion r sub v s) := by
  unfold writeRegion
  simp (maxDischargeDepth := 40) +contextual only [hs, ev_mk, ev_fold, ev_ite, ite_self, implies_true, ev_abandonPreparation, ev_bringOnline,
        ev_prepare, ev_put, ev_setRegionState]

theorem ev_writeSelect (key v : Nat) {r₀ s : State} (hs : Evolves r₀ s) : Evolves r₀ (writeSelect key v s) := by
  unfold writeSelect
  simp (maxDischargeDepth := 40) +contextual only [hs, ev_mk, ev_fold, ev_ite, ite_self, implies_true, ev_put]

theorem ev_writeLevelKey (req : Req) (level : Nat) (v : List Byte) {r₀ s : State} (hs : Evolves r₀ s) : Evolves r₀ (writeLevelKey req level
        v s) := by
  unfold writeLevelKey
  simp (maxDischargeDepth := 40) +contextual only [hs, ev_mk, ev_fold, ev_ite, ite_self, implies_true, ev_endSessions]

theorem ev_putNumber {r₀ : State} (req : Req) (key v stamp seen : Nat) {s : State} (hs : Evolves r₀ s) : Evolves r₀ (putNumber req key v stamp seen s) := by
  have p (t : State) (k w : Nat) (ht : Evolves r₀ t) : Evolves r₀ (t.put k w) := ev_put k w ht
  have m (t : State) (b : Bool) (ht : Evolves r₀ t) : Evolves r₀ { t with mgmt := { t.mgmt with beaconLost := b } } :=
    ev_mgmt _ ht ⟨id, id, id, id⟩
  unfold putNumber
  refine ev_cond (ev_updateProtection (p _ _ _ hs)) (ev_cond (ev_enablePort _ _ hs) (ev_cond (ev_enablePort _ _ hs) ?_))
  refine ev_cond (ev_freePort _ (p _ _ _ hs)) (ev_cond (ev_freePort _ (p _ _ _ hs)) ?_)
  refine ev_cond (ev_freePort _ (ev_freePort _ (p _ _ _ hs))) (ev_cond (ev_setTime _ _ hs) (ev_cond (ev_setProfile _ hs) ?_))
  refine ev_cond (ev_noteHealth (p _ _ _ hs)) (ev_cond (ev_notePool (p _ _ _ hs)) (ev_cond (ev_checkPool (p _ _ _ hs)) (ev_cond (ev_flushQueues _ hs) ?_)))
  refine ev_cond (p _ _ _ (m _ _ hs)) (ev_cond (ev_cond hs (p _ _ _ hs)) (ev_cond (ev_writeSelect _ _ hs) ?_))
  refine ev_cond (ev_cond hs (ev_clearLatch _ _ _ hs)) ?_
  split
  · exact ev_writeRegion _ _ _ hs
  · exact p _ _ _ hs

theorem ev_putValue (req : Req) (key stamp seen : Nat) (v : List Byte) {r₀ s : State} (hs : Evolves r₀ s) : Evolves r₀ (putValue req key
        stamp seen v s) := by
  unfold putValue
  (try simp (maxDischargeDepth := 40) +contextual only [hs, ev_mk, ev_fold, ev_ite, ite_self, implies_true, ev_putBytes, ev_putNumber,
        ev_writeLevelKey])
  repeat' split
  all_goals first
    | (with_reducible exact hs)
    | (simp (maxDischargeDepth := 40) +contextual only [hs, ev_mk, ev_fold, ev_ite, ite_self, implies_true, ev_putBytes, ev_putNumber,
        ev_writeLevelKey]; done)

theorem ev_clearRead (key : Nat) {r₀ s : State} (hs : Evolves r₀ s) : Evolves r₀ (clearRead key s) := by
  unfold clearRead
  (try simp (maxDischargeDepth := 40) +contextual only [hs, ev_mk, ev_fold, ev_ite, ite_self, implies_true, ev_put, ev_putBytes,
        ev_takeSample])
  repeat' split
  all_goals first
    | (with_reducible exact hs)
    | (simp (maxDischargeDepth := 40) +contextual only [hs, ev_mk, ev_fold, ev_ite, ite_self, implies_true, ev_put, ev_putBytes, ev_takeSample];
        done)

theorem ev_setDefaults (req : Req) {r₀ s : State} (hs : Evolves r₀ s) : Evolves r₀ (setDefaults req s) := by
  unfold setDefaults
  simp (maxDischargeDepth := 40) +contextual only [hs, ev_mk, ev_fold, ev_ite, ite_self, implies_true, ev_noteChange, ev_putValue, ev_foldl]

theorem ev_startAction {r₀ : State} (key : Nat) (v : List Byte) (stamp : Nat) (env : DictEnv) (req : Req) {s : State} (hs : Evolves r₀ s) :
    Evolves r₀ (startAction key v stamp env req s) := by
  have ha := ev_setAction key stOk hs
  have hp (t : State) (x : Power) (ht : Evolves r₀ t) : Evolves r₀ { t with pow := x } := ht
  unfold startAction
  simp only
  generalize setAction key stOk s = a at ha ⊢
  refine ev_cond (ev_forceAbort _ _ _ ha) (ev_cond (ev_dieLeaves _ _ ha) (ev_cond (ev_takeOffline _ ha) ?_))
  refine ev_cond (ev_bringOnline _ ha) (ev_cond (ev_renewSlot _ ha) (ev_cond (ev_resume _ ha) (ev_cond (ev_sanitizeNow ha) ?_)))
  refine ev_cond (ev_saveErrors (ev_stored _ ha fun h => ⟨Nat.zero_le _, h.2⟩)) (ev_cond (ev_writeRaw ha) (ev_cond ?_ ?_))
  · split
    · exact ev_readRaw _ _ ha
    · exact ev_readRaw _ _ (ev_drawn (ev_drawn (ev_drawn ha)))
  refine ev_cond (ev_retryRails ha) (ev_cond (ev_setAction _ _ (hp _ _ ha)) (ev_cond (ev_buttonCurtain ha) ?_))
  refine ev_cond (ev_offRequest ha) (ev_cond (ev_onRequest ha) (ev_cond (ev_deviceReset _ ha) ?_))
  refine ev_cond (ev_startDoze (ev_setAction _ _ ha)) (ev_cond (ev_enterService ha) (ev_cond (ev_leaveService ha) ?_))
  refine ev_cond (ev_activateOnline _ (ev_setAction _ _ (ev_drawn ha))) (ev_cond (ev_reAdmit _ ha) (ev_cond (ev_setDefaults _ ha) ?_))
  exact ev_cond (ev_endAllSessions ha) (ev_cond (ev_clearRecorder _ _ ha) (ev_cond (ev_releaseChannel _ ha) ha))

theorem ev_noteRequest (key kind : Nat) (req : Req) (old new : List Byte) {r₀ s : State} (hs : Evolves r₀ s) : Evolves r₀ (noteRequest key
        kind req old new s) := by
  unfold noteRequest
  simp (maxDischargeDepth := 40) +contextual only [hs, ev_mk, ev_fold, ev_ite, ite_self, implies_true, ev_noteChange]

theorem ev_serveAction (req : Req) (idx sub : Nat) (ask : DictAsk) (v : List Byte) (env : DictEnv) {r₀ s : State} (hs : Evolves r₀ s) :
        Evolves r₀ (serveAction req idx sub ask v env s) := by
  unfold serveAction
  simp (maxDischargeDepth := 40) +contextual only [hs, ev_mk, ev_fold, ev_ite, ite_self, implies_true, ev_deliver, ev_noteRequest,
        ev_startAction]

theorem ev_serveWrite (req : Req) (idx sub : Nat) (ask : DictAsk) (v : List Byte) (kind : Nat) {r₀ s : State} (hs : Evolves r₀ s) : Evolves
        r₀ (serveWrite req idx sub ask v kind s) := by
  unfold serveWrite
  simp (maxDischargeDepth := 40) +contextual only [hs, ev_mk, ev_fold, ev_ite, ite_self, implies_true, ev_deliver, ev_noteRequest,
        ev_putValue]

theorem ev_setBlock (req : Req) (b : Option BlockWrite) {r₀ s : State} (hs : Evolves r₀ s) : Evolves r₀ (setBlock req b s) := by
  unfold setBlock
  simp (maxDischargeDepth := 40) +contextual only [hs, ev_mk, ev_fold, ev_ite, ite_self, implies_true]

theorem ev_serveOk (req : Req) (idx sub : Nat) (ask : DictAsk) (env : DictEnv) {r₀ s : State} (hs : Evolves r₀ s) : Evolves r₀ (serveOk req
        idx sub ask env s) := by
  unfold serveOk
  (try simp (maxDischargeDepth := 40) +contextual only [hs, ev_mk, ev_fold, ev_ite, ite_self, implies_true, ev_clearRead, ev_deliver,
        ev_serveAction, ev_serveWrite, ev_setBlock])
  repeat' split
  all_goals first
    | (with_reducible exact hs)
    | (simp (maxDischargeDepth := 40) +contextual only [hs, ev_mk, ev_fold, ev_ite, ite_self, implies_true, ev_clearRead, ev_deliver,
        ev_serveAction, ev_serveWrite, ev_setBlock]; done)

theorem ev_refuse (req : Req) (idx sub : Nat) (ask : DictAsk) (status : Nat) {r₀ s : State} (hs : Evolves r₀ s) : Evolves r₀ (refuse req idx
        sub ask status s) := by
  unfold refuse
  (try simp (maxDischargeDepth := 40) +contextual only [hs, ev_mk, ev_fold, ev_ite, ite_self, implies_true, ev_endWith, ev_refusedByState,
        ev_setBlock])
  repeat' split
  all_goals first
    | (with_reducible exact hs)
    | (simp (maxDischargeDepth := 40) +contextual only [hs, ev_mk, ev_fold, ev_ite, ite_self, implies_true, ev_endWith, ev_refusedByState,
        ev_setBlock]; done)

theorem ev_perform (req : Req) (idx sub : Nat) (ask : DictAsk) (env : DictEnv) {r₀ s : State} (hs : Evolves r₀ s) : Evolves r₀ (perform req
        idx sub ask env s) := by
  unfold perform
  (try simp (maxDischargeDepth := 40) +contextual only [hs, ev_mk, ev_fold, ev_ite, ite_self, implies_true, ev_refuse, ev_serveOk, ev_wakeBy])
  repeat' split
  all_goals first
    | (with_reducible exact hs)
    | (simp (maxDischargeDepth := 40) +contextual only [hs, ev_mk, ev_fold, ev_ite, ite_self, implies_true, ev_refuse, ev_serveOk, ev_wakeBy];
        done)

theorem ev_serveDeferred {r₀ s : State} (hs : Evolves r₀ s) : Evolves r₀ (serveDeferred s) := by
  unfold serveDeferred
  simp (maxDischargeDepth := 40) +contextual only [hs, ev_mk, ev_fold, ev_ite, ite_self, implies_true, ev_endWith, ev_perform, ev_foldl]

theorem ev_inSession {r₀ : State} (req : Req) (want : List Byte → BitVec 128) {refused : Nat → State → State} {go : State → State}
    (hr : ∀ n s, Evolves r₀ s → Evolves r₀ (refused n s)) (hg : ∀ s, Evolves r₀ s → Evolves r₀ (go s)) {s : State} (hs : Evolves r₀ s) :
    Evolves r₀ (inSession req want refused go s) := by
  unfold inSession
  split
  · split
    · split
      · exact ev_putSession _ (ev_emit _ hs)
      · exact ev_putSession _ hs
    · split
      · exact hg _ (ev_putSession _ hs)
      · exact hr _ _ hs
  · exact hr _ _ hs

theorem ev_endUnkept (req : Req) (idx sub : Nat) (ask : DictAsk) (status : Nat) {r₀ s : State} (hs : Evolves r₀ s) : Evolves r₀ (endUnkept
        req idx sub ask status s) := by
  unfold endUnkept
  simp (maxDischargeDepth := 40) +contextual only [hs, ev_mk, ev_fold, ev_ite, ite_self, implies_true, ev_emit]

theorem dropFirst_length (mac : Nat) (l : List ReceivedFrame) : (dropFirst mac l).length ≤ l.length := by
  induction l with
  | nil => exact Nat.le_refl _
  | cons f t ih =>
    unfold dropFirst
    split
    · exact Nat.le_succ _
    · exact Nat.succ_le_succ ih

theorem ev_arrive {r₀ : State} (path : Path) {busy serve : State → State} (hb : ∀ s, Evolves r₀ s → Evolves r₀ (busy s))
    (hv : ∀ s, Evolves r₀ s → Evolves r₀ (serve s)) {s : State} (hs : Evolves r₀ s) : Evolves r₀ (arrive path busy serve s) := by
  cases path with
  | mailbox p =>
    unfold arrive
    simp only
    split
    · exact hv _ hs
    · exact hs
  | fieldLink mac =>
    unfold arrive
    simp only
    split
    · exact hs
    · have d (h : s.mgmt.received.length ≤ 32) : (dropFirst mac s.mgmt.received).length ≤ 32 :=
        Nat.le_trans (dropFirst_length mac s.mgmt.received) h
      split
      · exact hv _ (ev_bump _ (ev_mgmt _ hs ⟨id, id, d, id⟩))
      · split
        · exact hv _ (ev_bump _ (ev_mgmt _ hs ⟨id, id, d, id⟩))
        · have h1 : Evolves r₀ (State.bump { s with mgmt := { s.mgmt with received := dropFirst mac s.mgmt.received } } 0x140107) :=
            ev_bump _ (ev_mgmt _ hs ⟨id, id, d, id⟩)
          split
          · exact hb _ (ev_mgmt _ h1 ⟨id, id, id, id⟩)
          · exact h1

theorem ev_request {r₀ : State} (req : Req) (idx sub : Nat) (ask : DictAsk) (env : DictEnv) {s : State} (hs : Evolves r₀ s) :
    Evolves r₀ (request req idx sub ask env s) := by
  refine ev_arrive _ (fun t => ev_endUnkept _ _ _ _ _) (fun t ht => ?_) hs
  split
  · exact ev_perform _ _ _ _ _ ht
  · exact ev_inSession req _ (fun n t => ev_endUnkept _ _ _ _ _) (fun t => ev_perform _ _ _ _ _) ht

theorem ev_prunePass {r₀ s : State} (hs : Evolves r₀ s) : Evolves r₀ (prunePass s) := by
  unfold prunePass
  simp (maxDischargeDepth := 40) +contextual only [hs, ev_mk, ev_fold, ev_ite, ite_self, implies_true, ev_judgeEpisode, ev_put]

theorem ev_queueFrame (f : Frame) {r₀ s : State} (hs : Evolves r₀ s) : Evolves r₀ (queueFrame f s) := by
  unfold queueFrame
  split
  · exact ev_bump _ hs
  · simp only
    split
    · exact ev_mgmt _ hs ⟨id, id, fun _ => ‹_›, id⟩
    · exact ev_raise _ (ev_bump _ (ev_mgmt _ hs ⟨id, id, fun h => by simp; omega, id⟩))

theorem ev_sendFrame (dest : Option Nat) (op : Nat) (payload : List Byte) {r₀ s : State} (hs : Evolves r₀ s) : Evolves r₀ (sendFrame dest op
        payload s) := by
  unfold sendFrame
  simp (maxDischargeDepth := 40) +contextual only [hs, ev_mk, ev_fold, ev_ite, ite_self, implies_true, ev_emit]

theorem ev_mailboxAnswer (p : Port) (code : Nat) (fields : List Nat) {r₀ s : State} (hs : Evolves r₀ s) : Evolves r₀ (mailboxAnswer p code
        fields s) := by
  unfold mailboxAnswer
  simp (maxDischargeDepth := 40) +contextual only [hs, ev_mk, ev_fold, ev_ite, ite_self, implies_true, ev_emit]

theorem ev_mailboxBusy (p : Port) {r₀ s : State} (hs : Evolves r₀ s) : Evolves r₀ (mailboxBusy p s) := by
  unfold mailboxBusy
  simp (maxDischargeDepth := 40) +contextual only [hs, ev_mk, ev_fold, ev_ite, ite_self, implies_true, ev_mailboxAnswer, ev_refusedByState]

theorem ev_clearLog (p : Port) (log : Nat) (keep : EventRecord → Bool) {r₀ s : State} (hs : Evolves r₀ s) : Evolves r₀ (clearLog p log keep
        s) := by
  unfold clearLog
  simp (maxDischargeDepth := 40) +contextual only [hs, ev_mk, ev_fold, ev_ite, ite_self, implies_true, ev_modPort]

theorem ev_activateByHost (p : Port) (result : ActivationResult) {r₀ s : State} (hs : Evolves r₀ s) : Evolves r₀ (activateByHost p result s)
        := by
  unfold activateByHost
  (try simp (maxDischargeDepth := 40) +contextual only [hs, ev_mk, ev_fold, ev_ite, ite_self, implies_true, ev_mailboxAnswer, ev_raise])
  repeat' split
  all_goals first
    | (with_reducible exact hs)
    | (simp (maxDischargeDepth := 40) +contextual only [hs, ev_mk, ev_fold, ev_ite, ite_self, implies_true, ev_mailboxAnswer, ev_raise]; done)

theorem ev_sanitizeByHost (p : Port) {r₀ s : State} (hs : Evolves r₀ s) : Evolves r₀ (sanitizeByHost p s) := by
  unfold sanitizeByHost
  simp (maxDischargeDepth := 40) +contextual only [hs, ev_mk, ev_fold, ev_ite, ite_self, implies_true, ev_mailboxAnswer, ev_mailboxBusy,
        ev_sanitizeNow, ev_sendMsi, ev_setAction]

theorem ev_loseValue {r₀ : State} (v : TwoCopyValue) {s : State} (hs : Evolves r₀ s) : Evolves r₀ (loseValue v s) := by
  have h := ev_raise 230 (ev_bump 0x800107 hs)
  unfold loseValue
  simp only
  generalize raise 230 (s.bump 0x800107) = a at h ⊢
  have d (key : Nat) (x : StoredData) (hx : x.errors = a.stored.errors) (hy : x.savedErrors = a.stored.savedErrors) :
      Evolves r₀ { a with dict := tdel key a.dict, octs := tdel key a.octs, stored := x } :=
    { h with
      errors := fun he => hx ▸ hy ▸ h.errors he
      regs := fun hr =>
        ⟨rising_tdel _ (h.regs hr).1, fun e he => (h.regs hr).2.1 e (List.mem_filter.mp he).1, rising_tdel _ (h.regs hr).2.2.1,
          fun e he => (h.regs hr).2.2.2 e (List.mem_filter.mp he).1⟩ }
  have int (t : State) (x : Integrity) (ht : Evolves r₀ t) : Evolves r₀ { t with integ := x } := ht
  have md (t : State) (x : Medium) (ht : Evolves r₀ t) : Evolves r₀ { t with med := x } := ht
  cases v with
  | dictionaryValue key =>
    simp only
    split
    · exact h
    · split
      · split
        · exact ev_noteOwnChange _ _ _ (d _ _ rfl rfl)
        · exact d _ _ rfl rfl
      · exact h
  | superblock => exact h
  | stampCeiling => exact h
  | slotKey slot => exact ev_foldl (fun t r ht => ev_failCheck _ ht) _ (int _ _ h)
  | anchor => exact ev_foldl (fun t i ht => ev_failCheck _ ht) _ h
  | haltRecord => exact ev_put _ _ (ev_put _ _ (ev_takeStamp (int _ _ h)))
  | remapTable => exact ev_stored _ h id
  | errorTable => exact ev_saveErrors (ev_stored _ h fun x => ⟨Nat.zero_le _, x.2⟩)
  | lifetimeCounters => exact ev_foldl (fun t k ht => ev_put _ _ ht) _ h
  | hourlyMark hour => exact md _ _ h

theorem ev_noteBanks {r₀ : State} (shifts : List (Option Nat)) {s : State} (hs : Evolves r₀ s) : Evolves r₀ (noteBanks shifts s) := by
  refine ev_foldl (fun t d ht => ?_) _ hs
  split <;> exact ev_put _ _ (ev_put _ _ ht)

theorem ev_applyOffInterval (shifts : List (Option Nat)) {r₀ s : State} (hs : Evolves r₀ s) : Evolves r₀ (applyOffInterval shifts s) := by
  unfold applyOffInterval
  simp (maxDischargeDepth := 40) +contextual only [hs, ev_mk, ev_fold, ev_ite, ite_self, implies_true, ev_addTo, ev_noteBanks, ev_put,
        ev_raise, ev_foldl]

theorem ev_loadCounts {r₀ s : State} (hs : Evolves r₀ s) : Evolves r₀ (loadCounts s) :=
  ev_foldl (fun t k ht => ev_put _ _ ht) _ (ev_stored _ hs fun h => ⟨h.2, h.2⟩)

theorem ev_resetAgain {r₀ s : State} (hs : Evolves r₀ s) : Evolves r₀ (resetAgain s) := by
  unfold resetAgain
  simp (maxDischargeDepth := 40) +contextual only [hs, ev_mk, ev_fold, ev_ite, ite_self, implies_true, ev_setStripe, ev_foldl]

theorem ev_settleTails {r₀ s : State} (hs : Evolves r₀ s) : Evolves r₀ (settleTails s) := by
  unfold settleTails
  (try simp (maxDischargeDepth := 40) +contextual only [hs, ev_mk, ev_fold, ev_ite, ite_self, implies_true, ev_resetAgain])
  repeat' split
  all_goals first
    | (with_reducible exact hs)
    | (simp (maxDischargeDepth := 40) +contextual only [hs, ev_mk, ev_fold, ev_ite, ite_self, implies_true, ev_resetAgain]; done)

theorem ev_loadRegisters {r₀ s : State} (hs : Evolves r₀ s) : Evolves r₀ (loadRegisters s) := by
  unfold loadRegisters
  simp (maxDischargeDepth := 40) +contextual only [hs, ev_mk, ev_fold, ev_ite, ite_self, implies_true]

theorem ev_readImage (f : RestoreFindings) {r₀ s : State} (hs : Evolves r₀ s) : Evolves r₀ (readImage f s) := by
  unfold readImage
  (try simp (maxDischargeDepth := 40) +contextual only [hs, ev_mk, ev_fold, ev_ite, ite_self, implies_true, ev_detectSomewhere, ev_nameLines,
        ev_raise, ev_foldl])
  repeat' split
  all_goals first
    | (with_reducible exact hs)
    | (simp (maxDischargeDepth := 40) +contextual only [hs, ev_mk, ev_fold, ev_ite, ite_self, implies_true, ev_detectSomewhere, ev_nameLines,
        ev_raise, ev_foldl]; done)

theorem ev_readPowerLog (f : RestoreFindings) {r₀ s : State} (hs : Evolves r₀ s) : Evolves r₀ (readPowerLog f s) := by
  unfold readPowerLog
  (try simp (maxDischargeDepth := 40) +contextual only [hs, ev_mk, ev_fold, ev_ite, ite_self, implies_true, ev_addTo, ev_put])
  repeat' split
  all_goals first
    | (with_reducible exact hs)
    | (simp (maxDischargeDepth := 40) +contextual only [hs, ev_mk, ev_fold, ev_ite, ite_self, implies_true, ev_addTo, ev_put]; done)

theorem ev_dropTorn (f : RestoreFindings) {r₀ s : State} (hs : Evolves r₀ s) : Evolves r₀ (dropTorn f s) := by
  unfold dropTorn
  simp (maxDischargeDepth := 40) +contextual only [hs, ev_mk, ev_fold, ev_ite, ite_self, implies_true]

theorem ev_restoreSix (shifts : List (Option Nat)) (f : RestoreFindings) {r₀ s : State} (hs : Evolves r₀ s) : Evolves r₀ (restoreSix shifts
        f s) := by
  unfold restoreSix
  simp (maxDischargeDepth := 40) +contextual only [hs, ev_mk, ev_fold, ev_ite, ite_self, implies_true, ev_applyOffInterval, ev_bump,
        ev_dropTorn, ev_loadCounts, ev_loadRegisters, ev_loseValue, ev_put, ev_raiseTimes, ev_readImage, ev_readPowerLog, ev_settleTails,
        ev_foldl]

theorem ev_judgeChain (f : RestoreFindings) {r₀ s : State} (hs : Evolves r₀ s) : Evolves r₀ (judgeChain f s) := by
  unfold judgeChain
  (try simp (maxDischargeDepth := 40) +contextual only [hs, ev_mk, ev_fold, ev_ite, ite_self, implies_true, ev_failCheck, ev_foldl])
  repeat' split
  all_goals first
    | (with_reducible exact hs)
    | (simp (maxDischargeDepth := 40) +contextual only [hs, ev_mk, ev_fold, ev_ite, ite_self, implies_true, ev_failCheck, ev_foldl]; done)

theorem ev_judgeDigests (f : RestoreFindings) {r₀ s : State} (hs : Evolves r₀ s) : Evolves r₀ (judgeDigests f s) := by
  unfold judgeDigests
  simp (maxDischargeDepth := 40) +contextual only [hs, ev_mk, ev_fold, ev_ite, ite_self, implies_true, ev_failCheck, ev_foldl]

theorem ev_judgeLines (before : List IntegrityEntry) {r₀ s : State} (hs : Evolves r₀ s) : Evolves r₀ (judgeLines before s) := by
  unfold judgeLines
  simp (maxDischargeDepth := 40) +contextual only [hs, ev_mk, ev_fold, ev_ite, ite_self, implies_true]

theorem ev_replayIntegrity {r₀ s : State} (hs : Evolves r₀ s) : Evolves r₀ (replayIntegrity s) := by
  unfold replayIntegrity
  simp (maxDischargeDepth := 40) +contextual only [hs, ev_mk, ev_fold, ev_ite, ite_self, implies_true, ev_foldl]

theorem ev_dropUnnamed {r₀ s : State} (hs : Evolves r₀ s) : Evolves r₀ (dropUnnamed s) := by
  unfold dropUnnamed
  simp (maxDischargeDepth := 40) +contextual only [hs, ev_mk, ev_fold, ev_ite, ite_self, implies_true]

theorem ev_restoreTable {r₀ s : State} (hs : Evolves r₀ s) : Evolves r₀ (restoreTable s) := by
  unfold restoreTable
  simp (maxDischargeDepth := 40) +contextual only [hs, ev_mk, ev_fold, ev_ite, ite_self, implies_true, ev_foldl]

theorem ev_noteTornSave (f : RestoreFindings) {r₀ s : State} (hs : Evolves r₀ s) : Evolves r₀ (noteTornSave f s) := by
  unfold noteTornSave
  simp (maxDischargeDepth := 40) +contextual only [hs, ev_mk, ev_fold, ev_ite, ite_self, implies_true]

theorem ev_restoreEight {r₀ s : State} (hs : Evolves r₀ s) : Evolves r₀ (restoreEight s) := by
  unfold restoreEight
  simp (maxDischargeDepth := 40) +contextual only [hs, ev_mk, ev_fold, ev_ite, ite_self, implies_true, ev_dropUnnamed, ev_put, ev_raise,
        ev_replayIntegrity, ev_restoreTable, ev_restoreUnits, ev_foldl]

theorem groups_foldl (source : Tbl Group) (m : Tbl Group) (hm : GroupsOk m) :
    GroupsOk (source.foldl (fun m e => tset {} e.1 e.2.resolved m) m) := by
  induction source generalizing m with
  | nil => exact hm
  | cons e l ih => exact ih _ ⟨rising_tset _ _ _ hm.1, mem_tset_ne hm.2⟩

theorem ev_resolveGroups (source before : Tbl Group) {r₀ s : State} (hs : Evolves r₀ s) : Evolves r₀ (resolveGroups source before s) := by
  unfold resolveGroups
  refine ev_raiseIf _ _ (ev_put _ _ (s := { s with groups := source.foldl (fun m e => tset {} e.1 e.2.resolved m) [] }) ?_)
  exact
    { hs with groups := fun _ => groups_foldl source [] ⟨rfl, by simp⟩ }

theorem ev_reinstateQueues (i : Image) {r₀ s : State} (hs : Evolves r₀ s) : Evolves r₀ (reinstateQueues i s) := by
  unfold reinstateQueues
  simp (maxDischargeDepth := 40) +contextual only [hs, ev_mk, ev_fold, ev_ite, ite_self, implies_true, ev_drainPort, ev_modPort]

theorem ev_waitCommits {r₀ s : State} (hs : Evolves r₀ s) : Evolves r₀ (waitCommits s) := by
  unfold waitCommits
  simp (maxDischargeDepth := 40) +contextual only [hs, ev_mk, ev_fold, ev_ite, ite_self, implies_true]

theorem ev_reinstate (i : Image) {r₀ s : State} (hs : Evolves r₀ s) : Evolves r₀ (reinstate i s) := by
  unfold reinstate
  simp (maxDischargeDepth := 40) +contextual only [hs, ev_mk, ev_fold, ev_ite, ite_self, implies_true, ev_dirtySegment, ev_put,
        ev_reinstateQueues, ev_resolveGroups, ev_waitCommits, ev_foldl]

theorem ev_restoreUnsaved {r₀ s : State} (hs : Evolves r₀ s) : Evolves r₀ (restoreUnsaved s) := by
  unfold restoreUnsaved
  simp (maxDischargeDepth := 40) +contextual only [hs, ev_mk, ev_fold, ev_ite, ite_self, implies_true, ev_resolveGroups, ev_foldl]

theorem ev_reportDirty {r₀ s : State} (hs : Evolves r₀ s) : Evolves r₀ (reportDirty s) := by
  unfold reportDirty
  simp (maxDischargeDepth := 40) +contextual only [hs, ev_mk, ev_fold, ev_ite, ite_self, implies_true, ev_bump, ev_postRecord, ev_raise]

theorem ev_takeImage {r₀ s : State} (hs : Evolves r₀ s) : Evolves r₀ (takeImage s) := by
  unfold takeImage
  (try simp (maxDischargeDepth := 40) +contextual only [hs, ev_mk, ev_fold, ev_ite, ite_self, implies_true, ev_reinstate, ev_restoreUnsaved])
  repeat' split
  all_goals first
    | (with_reducible exact hs)
    | (simp (maxDischargeDepth := 40) +contextual only [hs, ev_mk, ev_fold, ev_ite, ite_self, implies_true, ev_reinstate, ev_restoreUnsaved];
        done)

theorem ev_reportShutdown {r₀ s : State} (hs : Evolves r₀ s) : Evolves r₀ (reportShutdown s) := by
  unfold reportShutdown
  simp (maxDischargeDepth := 40) +contextual only [hs, ev_mk, ev_fold, ev_ite, ite_self, implies_true, ev_raise, ev_reportDirty]

theorem ev_fixPersistPoint {r₀ s : State} (hs : Evolves r₀ s) : Evolves r₀ (fixPersistPoint s) := by
  unfold fixPersistPoint
  simp (maxDischargeDepth := 40) +contextual only [hs, ev_mk, ev_fold, ev_ite, ite_self, implies_true, ev_put, ev_updateProtection]

theorem ev_endNine {r₀ s : State} (hs : Evolves r₀ s) : Evolves r₀ (endNine s) := by
  unfold endNine
  simp (maxDischargeDepth := 40) +contextual only [hs, ev_mk, ev_fold, ev_ite, ite_self, implies_true, ev_fixPersistPoint, ev_programAll,
        ev_startCurtain]

theorem ev_restoreNine {r₀ s : State} (hs : Evolves r₀ s) : Evolves r₀ (restoreNine s) := by
  unfold restoreNine
  simp (maxDischargeDepth := 40) +contextual only [hs, ev_mk, ev_fold, ev_ite, ite_self, implies_true, ev_endNine, ev_reportShutdown,
        ev_takeImage]

theorem ev_restoreTen {r₀ s : State} (hs : Evolves r₀ s) : Evolves r₀ (restoreTen s) := by
  unfold restoreTen
  simp (maxDischargeDepth := 40) +contextual only [hs, ev_mk, ev_fold, ev_ite, ite_self, implies_true, ev_pinRegion, ev_put,
        ev_rebuildSegment, ev_foldl]

theorem ev_restoreEleven {r₀ s : State} (hs : Evolves r₀ s) : Evolves r₀ (restoreEleven s) := by
  unfold restoreEleven
  (try simp (maxDischargeDepth := 40) +contextual only [hs, ev_mk, ev_fold, ev_ite, ite_self, implies_true, ev_put, ev_raiseReady,
        ev_releasePins])
  repeat' split
  all_goals first
    | (with_reducible exact hs)
    | (simp (maxDischargeDepth := 40) +contextual only [hs, ev_mk, ev_fold, ev_ite, ite_self, implies_true, ev_put, ev_raiseReady,
        ev_releasePins]; done)

theorem ev_endRestore {r₀ s : State} (hs : Evolves r₀ s) : Evolves r₀ (endRestore s) := by
  unfold endRestore
  (try simp (maxDischargeDepth := 40) +contextual only [hs, ev_mk, ev_fold, ev_ite, ite_self, implies_true, ev_haltNow, ev_put,
        ev_releasePins, ev_releaseScratch, ev_setMode, ev_silence])
  repeat' split
  all_goals first
    | (with_reducible exact hs)
    | (simp (maxDischargeDepth := 40) +contextual only [hs, ev_mk, ev_fold, ev_ite, ite_self, implies_true, ev_haltNow, ev_put, ev_releasePins,
        ev_releaseScratch, ev_setMode, ev_silence]; done)

theorem ev_restoreStepNow (n : Nat) (shifts : List (Option Nat)) (f : RestoreFindings) {r₀ s : State} (hs : Evolves r₀ s) : Evolves r₀
        (restoreStepNow n shifts f s) := by
  unfold restoreStepNow
  simp (maxDischargeDepth := 40) +contextual only [hs, ev_mk, ev_fold, ev_ite, ite_self, implies_true, ev_dropTorn, ev_endRestore,
        ev_judgeChain, ev_judgeDigests, ev_judgeLines, ev_noteTornSave, ev_put, ev_rebuildAll, ev_restoreEight, ev_restoreEleven,
        ev_restoreNine, ev_restoreSix, ev_restoreTen]

theorem ev_restoreSteps {r₀ : State} (k upTo : Nat) (shifts : List (Option Nat)) (f : RestoreFindings) {s : State} (hs : Evolves r₀ s) :
    Evolves r₀ (restoreSteps k upTo shifts f s) := by
  induction k generalizing s with
  | zero => exact hs
  | succ k ih =>
    unfold restoreSteps
    simp only
    split
    · exact ih (ev_restoreStepNow _ _ _ hs)
    · exact hs

theorem ev_sendStep (req : Req) (mailboxOp linkOp status : Nat) (value : List Byte) {r₀ s : State} (hs : Evolves r₀ s) : Evolves r₀
        (sendStep req mailboxOp linkOp status value s) := by
  unfold sendStep
  simp (maxDischargeDepth := 40) +contextual only [hs, ev_mk, ev_fold, ev_ite, ite_self, implies_true, ev_emit]

theorem ev_noteFailure (path : Path) {r₀ s : State} (hs : Evolves r₀ s) : Evolves r₀ (noteFailure path s) := by
  unfold noteFailure
  simp (maxDischargeDepth := 40) +contextual only [hs, ev_mk, ev_fold, ev_ite, ite_self, implies_true, ev_bump, ev_raise]

theorem ev_reserveNumber (req : Req) (level : Nat) (nonce : BitVec 128) {r₀ s : State} (hs : Evolves r₀ s) : Evolves r₀ (reserveNumber req
        level nonce s) := by
  unfold reserveNumber
  simp (maxDischargeDepth := 40) +contextual only [hs, ev_mk, ev_fold, ev_ite, ite_self, implies_true, ev_drawn, ev_sendStep]

theorem ev_openStep (req : Req) (level : Nat) (nonce : BitVec 128) {r₀ s : State} (hs : Evolves r₀ s) : Evolves r₀ (openStep req level nonce
        s) := by
  unfold openStep
  simp (maxDischargeDepth := 40) +contextual only [hs, ev_mk, ev_fold, ev_ite, ite_self, implies_true, ev_raise, ev_reserveNumber,
        ev_sendStep]

theorem ev_responseStep (req : Req) (number : Nat) (proof : BitVec 256) {r₀ s : State} (hs : Evolves r₀ s) :
    Evolves r₀ (responseStep req number proof s) := by
  have hr : Evolves r₀ { s with mgmt := { s.mgmt with reservations := s.mgmt.reservations.filter fun x => x.number != number } } :=
    ev_mgmt _ hs ⟨id, id, id, id⟩
  unfold responseStep
  split
  · exact ev_sendStep _ _ _ _ _ hs
  · simp only
    generalize State.mk _ _ _ _ _ _ _ _ _ _ _ _ _ _ _ _ _ _ _ _ _ _ _ _ _ _ _ _ _ _ _ _ _ _ _ _ _ _ _ _ = a at hr ⊢
    split
    · exact ev_sendStep _ _ _ _ _ hr
    · refine ev_cond (ev_sendStep _ _ _ _ _ (ev_noteFailure _ hr)) ?_
      split
      · exact ev_sendStep _ _ _ _ _ hr
      · exact ev_sendStep _ _ _ _ _ (ev_mgmt _ hs ⟨id, fun _ => by simp; omega, id, id⟩)

theorem ev_refuseClose (req : Req) (status : Nat) {r₀ s : State} (hs : Evolves r₀ s) : Evolves r₀ (refuseClose req status s) := by
  unfold refuseClose
  simp (maxDischargeDepth := 40) +contextual only [hs, ev_mk, ev_fold, ev_ite, ite_self, implies_true, ev_emit]

theorem ev_closeNow (req : Req) {r₀ s : State} (hs : Evolves r₀ s) : Evolves r₀ (closeNow req s) := by
  unfold closeNow
  simp (maxDischargeDepth := 40) +contextual only [hs, ev_mk, ev_fold, ev_ite, ite_self, implies_true, ev_emit, ev_endSessions]

theorem ev_activationEnds {r₀ s : State} (hs : Evolves r₀ s) : Evolves r₀ (activationEnds s) := by
  unfold activationEnds
  (try simp (maxDischargeDepth := 40) +contextual only [hs, ev_mk, ev_fold, ev_ite, ite_self, implies_true, ev_finishActivation])
  repeat' split
  all_goals first
    | (with_reducible exact hs)
    | (simp (maxDischargeDepth := 40) +contextual only [hs, ev_mk, ev_fold, ev_ite, ite_self, implies_true, ev_finishActivation]; done)



end Sys2Proof.Machine
end

