-- ==== Sys2Proof/Laws/Fields.lean ====
section
/-! SUPPORT. What an occurrence, a count and a new region state leave alone, field by field. -/

namespace Sys2Proof.Machine

theorem pending_eq {s t : State} (h : unreported t = unreported s) : t.pending = s.pending := (congrArg State.pending h :)
@[simp] theorem pending_raise (n : Nat) (s : State) : (raise n s).pending = s.pending := pending_eq (unreported_raise n s)
@[simp] theorem pending_raiseIf (c : Bool) (n : Nat) (s : State) : (raiseIf c n s).pending = s.pending := pending_eq (unreported_raiseIf c n s)
@[simp] theorem pending_count (c q n : Nat) (s : State) : (count c q n s).pending = s.pending := pending_eq (unreported_count c q n s)
@[simp] theorem pending_count1 (c q : Nat) (s : State) : (count1 c q s).pending = s.pending := pending_eq (unreported_count1 c q s)
@[simp] theorem pending_setRegionState (r v : Nat) (s : State) : (setRegionState r v s).pending = s.pending := pending_eq (unreported_setRegionState r v s)
@[simp] theorem pending_takeStamp (s : State) : (takeStamp s).pending = s.pending := pending_eq (unreported_takeStamp s)

theorem octs_eq {s t : State} (h : unreported t = unreported s) : t.octs = s.octs := (congrArg State.octs h :)
@[simp] theorem octs_raise (n : Nat) (s : State) : (raise n s).octs = s.octs := octs_eq (unreported_raise n s)
@[simp] theorem octs_raiseIf (c : Bool) (n : Nat) (s : State) : (raiseIf c n s).octs = s.octs := octs_eq (unreported_raiseIf c n s)
@[simp] theorem octs_count (c q n : Nat) (s : State) : (count c q n s).octs = s.octs := octs_eq (unreported_count c q n s)
@[simp] theorem octs_count1 (c q : Nat) (s : State) : (count1 c q s).octs = s.octs := octs_eq (unreported_count1 c q s)
@[simp] theorem octs_setRegionState (r v : Nat) (s : State) : (setRegionState r v s).octs = s.octs := octs_eq (unreported_setRegionState r v s)
@[simp] theorem octs_takeStamp (s : State) : (takeStamp s).octs = s.octs := octs_eq (unreported_takeStamp s)

theorem clock_eq {s t : State} (h : unreported t = unreported s) : t.clock = s.clock := (congrArg State.clock h :)
@[simp] theorem clock_raise (n : Nat) (s : State) : (raise n s).clock = s.clock := clock_eq (unreported_raise n s)
@[simp] theorem clock_raiseIf (c : Bool) (n : Nat) (s : State) : (raiseIf c n s).clock = s.clock := clock_eq (unreported_raiseIf c n s)
@[simp] theorem clock_count (c q n : Nat) (s : State) : (count c q n s).clock = s.clock := clock_eq (unreported_count c q n s)
@[simp] theorem clock_count1 (c q : Nat) (s : State) : (count1 c q s).clock = s.clock := clock_eq (unreported_count1 c q s)
@[simp] theorem clock_setRegionState (r v : Nat) (s : State) : (setRegionState r v s).clock = s.clock := clock_eq (unreported_setRegionState r v s)
@[simp] theorem clock_takeStamp (s : State) : (takeStamp s).clock = s.clock := clock_eq (unreported_takeStamp s)

theorem service_eq {s t : State} (h : unreported t = unreported s) : t.service = s.service := (congrArg State.service h :)
@[simp] theorem service_raise (n : Nat) (s : State) : (raise n s).service = s.service := service_eq (unreported_raise n s)
@[simp] theorem service_raiseIf (c : Bool) (n : Nat) (s : State) : (raiseIf c n s).service = s.service := service_eq (unreported_raiseIf c n s)
@[simp] theorem service_count (c q n : Nat) (s : State) : (count c q n s).service = s.service := service_eq (unreported_count c q n s)
@[simp] theorem service_count1 (c q : Nat) (s : State) : (count1 c q s).service = s.service := service_eq (unreported_count1 c q s)
@[simp] theorem service_setRegionState (r v : Nat) (s : State) : (setRegionState r v s).service = s.service := service_eq (unreported_setRegionState r v s)
@[simp] theorem service_takeStamp (s : State) : (takeStamp s).service = s.service := service_eq (unreported_takeStamp s)

theorem deviceTime_eq {s t : State} (h : unreported t = unreported s) : t.deviceTime = s.deviceTime := (congrArg State.deviceTime h :)
@[simp] theorem deviceTime_raise (n : Nat) (s : State) : (raise n s).deviceTime = s.deviceTime := deviceTime_eq (unreported_raise n s)
@[simp] theorem deviceTime_raiseIf (c : Bool) (n : Nat) (s : State) : (raiseIf c n s).deviceTime = s.deviceTime := deviceTime_eq (unreported_raiseIf c n s)
@[simp] theorem deviceTime_count (c q n : Nat) (s : State) : (count c q n s).deviceTime = s.deviceTime := deviceTime_eq (unreported_count c q n s)
@[simp] theorem deviceTime_count1 (c q : Nat) (s : State) : (count1 c q s).deviceTime = s.deviceTime := deviceTime_eq (unreported_count1 c q s)
@[simp] theorem deviceTime_setRegionState (r v : Nat) (s : State) : (setRegionState r v s).deviceTime = s.deviceTime := deviceTime_eq (unreported_setRegionState r v s)
@[simp] theorem deviceTime_takeStamp (s : State) : (takeStamp s).deviceTime = s.deviceTime := deviceTime_eq (unreported_takeStamp s)

theorem restoreStamp_eq {s t : State} (h : unreported t = unreported s) : t.restoreStamp = s.restoreStamp := (congrArg State.restoreStamp h :)
@[simp] theorem restoreStamp_raise (n : Nat) (s : State) : (raise n s).restoreStamp = s.restoreStamp := restoreStamp_eq (unreported_raise n s)
@[simp] theorem restoreStamp_raiseIf (c : Bool) (n : Nat) (s : State) : (raiseIf c n s).restoreStamp = s.restoreStamp := restoreStamp_eq (unreported_raiseIf c n s)
@[simp] theorem restoreStamp_count (c q n : Nat) (s : State) : (count c q n s).restoreStamp = s.restoreStamp := restoreStamp_eq (unreported_count c q n s)
@[simp] theorem restoreStamp_count1 (c q : Nat) (s : State) : (count1 c q s).restoreStamp = s.restoreStamp := restoreStamp_eq (unreported_count1 c q s)
@[simp] theorem restoreStamp_setRegionState (r v : Nat) (s : State) : (setRegionState r v s).restoreStamp = s.restoreStamp := restoreStamp_eq (unreported_setRegionState r v s)
@[simp] theorem restoreStamp_takeStamp (s : State) : (takeStamp s).restoreStamp = s.restoreStamp := restoreStamp_eq (unreported_takeStamp s)

theorem nextSeq_eq {s t : State} (h : unreported t = unreported s) : t.nextSeq = s.nextSeq := (congrArg State.nextSeq h :)
@[simp] theorem nextSeq_raise (n : Nat) (s : State) : (raise n s).nextSeq = s.nextSeq := nextSeq_eq (unreported_raise n s)
@[simp] theorem nextSeq_raiseIf (c : Bool) (n : Nat) (s : State) : (raiseIf c n s).nextSeq = s.nextSeq := nextSeq_eq (unreported_raiseIf c n s)
@[simp] theorem nextSeq_count (c q n : Nat) (s : State) : (count c q n s).nextSeq = s.nextSeq := nextSeq_eq (unreported_count c q n s)
@[simp] theorem nextSeq_count1 (c q : Nat) (s : State) : (count1 c q s).nextSeq = s.nextSeq := nextSeq_eq (unreported_count1 c q s)
@[simp] theorem nextSeq_setRegionState (r v : Nat) (s : State) : (setRegionState r v s).nextSeq = s.nextSeq := nextSeq_eq (unreported_setRegionState r v s)
@[simp] theorem nextSeq_takeStamp (s : State) : (takeStamp s).nextSeq = s.nextSeq := nextSeq_eq (unreported_takeStamp s)

theorem draws_eq {s t : State} (h : unreported t = unreported s) : t.draws = s.draws := (congrArg State.draws h :)
@[simp] theorem draws_raise (n : Nat) (s : State) : (raise n s).draws = s.draws := draws_eq (unreported_raise n s)
@[simp] theorem draws_raiseIf (c : Bool) (n : Nat) (s : State) : (raiseIf c n s).draws = s.draws := draws_eq (unreported_raiseIf c n s)
@[simp] theorem draws_count (c q n : Nat) (s : State) : (count c q n s).draws = s.draws := draws_eq (unreported_count c q n s)
@[simp] theorem draws_count1 (c q : Nat) (s : State) : (count1 c q s).draws = s.draws := draws_eq (unreported_count1 c q s)
@[simp] theorem draws_setRegionState (r v : Nat) (s : State) : (setRegionState r v s).draws = s.draws := draws_eq (unreported_setRegionState r v s)
@[simp] theorem draws_takeStamp (s : State) : (takeStamp s).draws = s.draws := draws_eq (unreported_takeStamp s)

theorem staging_eq {s t : State} (h : unreported t = unreported s) : t.staging = s.staging := (congrArg State.staging h :)
@[simp] theorem staging_raise (n : Nat) (s : State) : (raise n s).staging = s.staging := staging_eq (unreported_raise n s)
@[simp] theorem staging_raiseIf (c : Bool) (n : Nat) (s : State) : (raiseIf c n s).staging = s.staging := staging_eq (unreported_raiseIf c n s)
@[simp] theorem staging_count (c q n : Nat) (s : State) : (count c q n s).staging = s.staging := staging_eq (unreported_count c q n s)
@[simp] theorem staging_count1 (c q : Nat) (s : State) : (count1 c q s).staging = s.staging := staging_eq (unreported_count1 c q s)
@[simp] theorem staging_setRegionState (r v : Nat) (s : State) : (setRegionState r v s).staging = s.staging := staging_eq (unreported_setRegionState r v s)
@[simp] theorem staging_takeStamp (s : State) : (takeStamp s).staging = s.staging := staging_eq (unreported_takeStamp s)

theorem stallSince_eq {s t : State} (h : unreported t = unreported s) : t.stallSince = s.stallSince := (congrArg State.stallSince h :)
@[simp] theorem stallSince_raise (n : Nat) (s : State) : (raise n s).stallSince = s.stallSince := stallSince_eq (unreported_raise n s)
@[simp] theorem stallSince_raiseIf (c : Bool) (n : Nat) (s : State) : (raiseIf c n s).stallSince = s.stallSince := stallSince_eq (unreported_raiseIf c n s)
@[simp] theorem stallSince_count (c q n : Nat) (s : State) : (count c q n s).stallSince = s.stallSince := stallSince_eq (unreported_count c q n s)
@[simp] theorem stallSince_count1 (c q : Nat) (s : State) : (count1 c q s).stallSince = s.stallSince := stallSince_eq (unreported_count1 c q s)
@[simp] theorem stallSince_setRegionState (r v : Nat) (s : State) : (setRegionState r v s).stallSince = s.stallSince := stallSince_eq (unreported_setRegionState r v s)
@[simp] theorem stallSince_takeStamp (s : State) : (takeStamp s).stallSince = s.stallSince := stallSince_eq (unreported_takeStamp s)

theorem stallReported_eq {s t : State} (h : unreported t = unreported s) : t.stallReported = s.stallReported := (congrArg State.stallReported h :)
@[simp] theorem stallReported_raise (n : Nat) (s : State) : (raise n s).stallReported = s.stallReported := stallReported_eq (unreported_raise n s)
@[simp] theorem stallReported_raiseIf (c : Bool) (n : Nat) (s : State) : (raiseIf c n s).stallReported = s.stallReported := stallReported_eq (unreported_raiseIf c n s)
@[simp] theorem stallReported_count (c q n : Nat) (s : State) : (count c q n s).stallReported = s.stallReported := stallReported_eq (unreported_count c q n s)
@[simp] theorem stallReported_count1 (c q : Nat) (s : State) : (count1 c q s).stallReported = s.stallReported := stallReported_eq (unreported_count1 c q s)
@[simp] theorem stallReported_setRegionState (r v : Nat) (s : State) : (setRegionState r v s).stallReported = s.stallReported := stallReported_eq (unreported_setRegionState r v s)
@[simp] theorem stallReported_takeStamp (s : State) : (takeStamp s).stallReported = s.stallReported := stallReported_eq (unreported_takeStamp s)

theorem l1_eq {s t : State} (h : unreported t = unreported s) : t.l1 = s.l1 := (congrArg State.l1 h :)
@[simp] theorem l1_raise (n : Nat) (s : State) : (raise n s).l1 = s.l1 := l1_eq (unreported_raise n s)
@[simp] theorem l1_raiseIf (c : Bool) (n : Nat) (s : State) : (raiseIf c n s).l1 = s.l1 := l1_eq (unreported_raiseIf c n s)
@[simp] theorem l1_count (c q n : Nat) (s : State) : (count c q n s).l1 = s.l1 := l1_eq (unreported_count c q n s)
@[simp] theorem l1_count1 (c q : Nat) (s : State) : (count1 c q s).l1 = s.l1 := l1_eq (unreported_count1 c q s)
@[simp] theorem l1_setRegionState (r v : Nat) (s : State) : (setRegionState r v s).l1 = s.l1 := l1_eq (unreported_setRegionState r v s)
@[simp] theorem l1_takeStamp (s : State) : (takeStamp s).l1 = s.l1 := l1_eq (unreported_takeStamp s)

theorem l2_eq {s t : State} (h : unreported t = unreported s) : t.l2 = s.l2 := (congrArg State.l2 h :)
@[simp] theorem l2_raise (n : Nat) (s : State) : (raise n s).l2 = s.l2 := l2_eq (unreported_raise n s)
@[simp] theorem l2_raiseIf (c : Bool) (n : Nat) (s : State) : (raiseIf c n s).l2 = s.l2 := l2_eq (unreported_raiseIf c n s)
@[simp] theorem l2_count (c q n : Nat) (s : State) : (count c q n s).l2 = s.l2 := l2_eq (unreported_count c q n s)
@[simp] theorem l2_count1 (c q : Nat) (s : State) : (count1 c q s).l2 = s.l2 := l2_eq (unreported_count1 c q s)
@[simp] theorem l2_setRegionState (r v : Nat) (s : State) : (setRegionState r v s).l2 = s.l2 := l2_eq (unreported_setRegionState r v s)
@[simp] theorem l2_takeStamp (s : State) : (takeStamp s).l2 = s.l2 := l2_eq (unreported_takeStamp s)

theorem lfsr1_eq {s t : State} (h : unreported t = unreported s) : t.lfsr1 = s.lfsr1 := (congrArg State.lfsr1 h :)
@[simp] theorem lfsr1_raise (n : Nat) (s : State) : (raise n s).lfsr1 = s.lfsr1 := lfsr1_eq (unreported_raise n s)
@[simp] theorem lfsr1_raiseIf (c : Bool) (n : Nat) (s : State) : (raiseIf c n s).lfsr1 = s.lfsr1 := lfsr1_eq (unreported_raiseIf c n s)
@[simp] theorem lfsr1_count (c q n : Nat) (s : State) : (count c q n s).lfsr1 = s.lfsr1 := lfsr1_eq (unreported_count c q n s)
@[simp] theorem lfsr1_count1 (c q : Nat) (s : State) : (count1 c q s).lfsr1 = s.lfsr1 := lfsr1_eq (unreported_count1 c q s)
@[simp] theorem lfsr1_setRegionState (r v : Nat) (s : State) : (setRegionState r v s).lfsr1 = s.lfsr1 := lfsr1_eq (unreported_setRegionState r v s)
@[simp] theorem lfsr1_takeStamp (s : State) : (takeStamp s).lfsr1 = s.lfsr1 := lfsr1_eq (unreported_takeStamp s)

theorem lfsr2_eq {s t : State} (h : unreported t = unreported s) : t.lfsr2 = s.lfsr2 := (congrArg State.lfsr2 h :)
@[simp] theorem lfsr2_raise (n : Nat) (s : State) : (raise n s).lfsr2 = s.lfsr2 := lfsr2_eq (unreported_raise n s)
@[simp] theorem lfsr2_raiseIf (c : Bool) (n : Nat) (s : State) : (raiseIf c n s).lfsr2 = s.lfsr2 := lfsr2_eq (unreported_raiseIf c n s)
@[simp] theorem lfsr2_count (c q n : Nat) (s : State) : (count c q n s).lfsr2 = s.lfsr2 := lfsr2_eq (unreported_count c q n s)
@[simp] theorem lfsr2_count1 (c q : Nat) (s : State) : (count1 c q s).lfsr2 = s.lfsr2 := lfsr2_eq (unreported_count1 c q s)
@[simp] theorem lfsr2_setRegionState (r v : Nat) (s : State) : (setRegionState r v s).lfsr2 = s.lfsr2 := lfsr2_eq (unreported_setRegionState r v s)
@[simp] theorem lfsr2_takeStamp (s : State) : (takeStamp s).lfsr2 = s.lfsr2 := lfsr2_eq (unreported_takeStamp s)

theorem reads_eq {s t : State} (h : unreported t = unreported s) : t.reads = s.reads := (congrArg State.reads h :)
@[simp] theorem reads_raise (n : Nat) (s : State) : (raise n s).reads = s.reads := reads_eq (unreported_raise n s)
@[simp] theorem reads_raiseIf (c : Bool) (n : Nat) (s : State) : (raiseIf c n s).reads = s.reads := reads_eq (unreported_raiseIf c n s)
@[simp] theorem reads_count (c q n : Nat) (s : State) : (count c q n s).reads = s.reads := reads_eq (unreported_count c q n s)
@[simp] theorem reads_count1 (c q : Nat) (s : State) : (count1 c q s).reads = s.reads := reads_eq (unreported_count1 c q s)
@[simp] theorem reads_setRegionState (r v : Nat) (s : State) : (setRegionState r v s).reads = s.reads := reads_eq (unreported_setRegionState r v s)
@[simp] theorem reads_takeStamp (s : State) : (takeStamp s).reads = s.reads := reads_eq (unreported_takeStamp s)

theorem nextRead_eq {s t : State} (h : unreported t = unreported s) : t.nextRead = s.nextRead := (congrArg State.nextRead h :)
@[simp] theorem nextRead_raise (n : Nat) (s : State) : (raise n s).nextRead = s.nextRead := nextRead_eq (unreported_raise n s)
@[simp] theorem nextRead_raiseIf (c : Bool) (n : Nat) (s : State) : (raiseIf c n s).nextRead = s.nextRead := nextRead_eq (unreported_raiseIf c n s)
@[simp] theorem nextRead_count (c q n : Nat) (s : State) : (count c q n s).nextRead = s.nextRead := nextRead_eq (unreported_count c q n s)
@[simp] theorem nextRead_count1 (c q : Nat) (s : State) : (count1 c q s).nextRead = s.nextRead := nextRead_eq (unreported_count1 c q s)
@[simp] theorem nextRead_setRegionState (r v : Nat) (s : State) : (setRegionState r v s).nextRead = s.nextRead := nextRead_eq (unreported_setRegionState r v s)
@[simp] theorem nextRead_takeStamp (s : State) : (takeStamp s).nextRead = s.nextRead := nextRead_eq (unreported_takeStamp s)

theorem retries_eq {s t : State} (h : unreported t = unreported s) : t.retries = s.retries := (congrArg State.retries h :)
@[simp] theorem retries_raise (n : Nat) (s : State) : (raise n s).retries = s.retries := retries_eq (unreported_raise n s)
@[simp] theorem retries_raiseIf (c : Bool) (n : Nat) (s : State) : (raiseIf c n s).retries = s.retries := retries_eq (unreported_raiseIf c n s)
@[simp] theorem retries_count (c q n : Nat) (s : State) : (count c q n s).retries = s.retries := retries_eq (unreported_count c q n s)
@[simp] theorem retries_count1 (c q : Nat) (s : State) : (count1 c q s).retries = s.retries := retries_eq (unreported_count1 c q s)
@[simp] theorem retries_setRegionState (r v : Nat) (s : State) : (setRegionState r v s).retries = s.retries := retries_eq (unreported_setRegionState r v s)
@[simp] theorem retries_takeStamp (s : State) : (takeStamp s).retries = s.retries := retries_eq (unreported_takeStamp s)

theorem groups_eq {s t : State} (h : unreported t = unreported s) : t.groups = s.groups := (congrArg State.groups h :)
@[simp] theorem groups_raise (n : Nat) (s : State) : (raise n s).groups = s.groups := groups_eq (unreported_raise n s)
@[simp] theorem groups_raiseIf (c : Bool) (n : Nat) (s : State) : (raiseIf c n s).groups = s.groups := groups_eq (unreported_raiseIf c n s)
@[simp] theorem groups_count (c q n : Nat) (s : State) : (count c q n s).groups = s.groups := groups_eq (unreported_count c q n s)
@[simp] theorem groups_count1 (c q : Nat) (s : State) : (count1 c q s).groups = s.groups := groups_eq (unreported_count1 c q s)
@[simp] theorem groups_setRegionState (r v : Nat) (s : State) : (setRegionState r v s).groups = s.groups := groups_eq (unreported_setRegionState r v s)
@[simp] theorem groups_takeStamp (s : State) : (takeStamp s).groups = s.groups := groups_eq (unreported_takeStamp s)

theorem cells_eq {s t : State} (h : unreported t = unreported s) : t.cells = s.cells := (congrArg State.cells h :)
@[simp] theorem cells_raise (n : Nat) (s : State) : (raise n s).cells = s.cells := cells_eq (unreported_raise n s)
@[simp] theorem cells_raiseIf (c : Bool) (n : Nat) (s : State) : (raiseIf c n s).cells = s.cells := cells_eq (unreported_raiseIf c n s)
@[simp] theorem cells_count (c q n : Nat) (s : State) : (count c q n s).cells = s.cells := cells_eq (unreported_count c q n s)
@[simp] theorem cells_count1 (c q : Nat) (s : State) : (count1 c q s).cells = s.cells := cells_eq (unreported_count1 c q s)
@[simp] theorem cells_setRegionState (r v : Nat) (s : State) : (setRegionState r v s).cells = s.cells := cells_eq (unreported_setRegionState r v s)
@[simp] theorem cells_takeStamp (s : State) : (takeStamp s).cells = s.cells := cells_eq (unreported_takeStamp s)

theorem reservedA_eq {s t : State} (h : unreported t = unreported s) : t.reservedA = s.reservedA := (congrArg State.reservedA h :)
@[simp] theorem reservedA_raise (n : Nat) (s : State) : (raise n s).reservedA = s.reservedA := reservedA_eq (unreported_raise n s)
@[simp] theorem reservedA_raiseIf (c : Bool) (n : Nat) (s : State) : (raiseIf c n s).reservedA = s.reservedA := reservedA_eq (unreported_raiseIf c n s)
@[simp] theorem reservedA_count (c q n : Nat) (s : State) : (count c q n s).reservedA = s.reservedA := reservedA_eq (unreported_count c q n s)
@[simp] theorem reservedA_count1 (c q : Nat) (s : State) : (count1 c q s).reservedA = s.reservedA := reservedA_eq (unreported_count1 c q s)
@[simp] theorem reservedA_setRegionState (r v : Nat) (s : State) : (setRegionState r v s).reservedA = s.reservedA := reservedA_eq (unreported_setRegionState r v s)
@[simp] theorem reservedA_takeStamp (s : State) : (takeStamp s).reservedA = s.reservedA := reservedA_eq (unreported_takeStamp s)

theorem reservedB_eq {s t : State} (h : unreported t = unreported s) : t.reservedB = s.reservedB := (congrArg State.reservedB h :)
@[simp] theorem reservedB_raise (n : Nat) (s : State) : (raise n s).reservedB = s.reservedB := reservedB_eq (unreported_raise n s)
@[simp] theorem reservedB_raiseIf (c : Bool) (n : Nat) (s : State) : (raiseIf c n s).reservedB = s.reservedB := reservedB_eq (unreported_raiseIf c n s)
@[simp] theorem reservedB_count (c q n : Nat) (s : State) : (count c q n s).reservedB = s.reservedB := reservedB_eq (unreported_count c q n s)
@[simp] theorem reservedB_count1 (c q : Nat) (s : State) : (count1 c q s).reservedB = s.reservedB := reservedB_eq (unreported_count1 c q s)
@[simp] theorem reservedB_setRegionState (r v : Nat) (s : State) : (setRegionState r v s).reservedB = s.reservedB := reservedB_eq (unreported_setRegionState r v s)
@[simp] theorem reservedB_takeStamp (s : State) : (takeStamp s).reservedB = s.reservedB := reservedB_eq (unreported_takeStamp s)

theorem resultsA_eq {s t : State} (h : unreported t = unreported s) : t.resultsA = s.resultsA := (congrArg State.resultsA h :)
@[simp] theorem resultsA_raise (n : Nat) (s : State) : (raise n s).resultsA = s.resultsA := resultsA_eq (unreported_raise n s)
@[simp] theorem resultsA_raiseIf (c : Bool) (n : Nat) (s : State) : (raiseIf c n s).resultsA = s.resultsA := resultsA_eq (unreported_raiseIf c n s)
@[simp] theorem resultsA_count (c q n : Nat) (s : State) : (count c q n s).resultsA = s.resultsA := resultsA_eq (unreported_count c q n s)
@[simp] theorem resultsA_count1 (c q : Nat) (s : State) : (count1 c q s).resultsA = s.resultsA := resultsA_eq (unreported_count1 c q s)
@[simp] theorem resultsA_setRegionState (r v : Nat) (s : State) : (setRegionState r v s).resultsA = s.resultsA := resultsA_eq (unreported_setRegionState r v s)
@[simp] theorem resultsA_takeStamp (s : State) : (takeStamp s).resultsA = s.resultsA := resultsA_eq (unreported_takeStamp s)

theorem resultsB_eq {s t : State} (h : unreported t = unreported s) : t.resultsB = s.resultsB := (congrArg State.resultsB h :)
@[simp] theorem resultsB_raise (n : Nat) (s : State) : (raise n s).resultsB = s.resultsB := resultsB_eq (unreported_raise n s)
@[simp] theorem resultsB_raiseIf (c : Bool) (n : Nat) (s : State) : (raiseIf c n s).resultsB = s.resultsB := resultsB_eq (unreported_raiseIf c n s)
@[simp] theorem resultsB_count (c q n : Nat) (s : State) : (count c q n s).resultsB = s.resultsB := resultsB_eq (unreported_count c q n s)
@[simp] theorem resultsB_count1 (c q : Nat) (s : State) : (count1 c q s).resultsB = s.resultsB := resultsB_eq (unreported_count1 c q s)
@[simp] theorem resultsB_setRegionState (r v : Nat) (s : State) : (setRegionState r v s).resultsB = s.resultsB := resultsB_eq (unreported_setRegionState r v s)
@[simp] theorem resultsB_takeStamp (s : State) : (takeStamp s).resultsB = s.resultsB := resultsB_eq (unreported_takeStamp s)

theorem resultBase_eq {s t : State} (h : unreported t = unreported s) : t.resultBase = s.resultBase := (congrArg State.resultBase h :)
@[simp] theorem resultBase_raise (n : Nat) (s : State) : (raise n s).resultBase = s.resultBase := resultBase_eq (unreported_raise n s)
@[simp] theorem resultBase_raiseIf (c : Bool) (n : Nat) (s : State) : (raiseIf c n s).resultBase = s.resultBase := resultBase_eq (unreported_raiseIf c n s)
@[simp] theorem resultBase_count (c q n : Nat) (s : State) : (count c q n s).resultBase = s.resultBase := resultBase_eq (unreported_count c q n s)
@[simp] theorem resultBase_count1 (c q : Nat) (s : State) : (count1 c q s).resultBase = s.resultBase := resultBase_eq (unreported_count1 c q s)
@[simp] theorem resultBase_setRegionState (r v : Nat) (s : State) : (setRegionState r v s).resultBase = s.resultBase := resultBase_eq (unreported_setRegionState r v s)
@[simp] theorem resultBase_takeStamp (s : State) : (takeStamp s).resultBase = s.resultBase := resultBase_eq (unreported_takeStamp s)

theorem xlat_eq {s t : State} (h : unreported t = unreported s) : t.xlat = s.xlat := (congrArg State.xlat h :)
@[simp] theorem xlat_raise (n : Nat) (s : State) : (raise n s).xlat = s.xlat := xlat_eq (unreported_raise n s)
@[simp] theorem xlat_raiseIf (c : Bool) (n : Nat) (s : State) : (raiseIf c n s).xlat = s.xlat := xlat_eq (unreported_raiseIf c n s)
@[simp] theorem xlat_count (c q n : Nat) (s : State) : (count c q n s).xlat = s.xlat := xlat_eq (unreported_count c q n s)
@[simp] theorem xlat_count1 (c q : Nat) (s : State) : (count1 c q s).xlat = s.xlat := xlat_eq (unreported_count1 c q s)
@[simp] theorem xlat_setRegionState (r v : Nat) (s : State) : (setRegionState r v s).xlat = s.xlat := xlat_eq (unreported_setRegionState r v s)
@[simp] theorem xlat_takeStamp (s : State) : (takeStamp s).xlat = s.xlat := xlat_eq (unreported_takeStamp s)

theorem med_eq {s t : State} (h : unreported t = unreported s) : t.med = s.med := (congrArg State.med h :)
@[simp] theorem med_raise (n : Nat) (s : State) : (raise n s).med = s.med := med_eq (unreported_raise n s)
@[simp] theorem med_raiseIf (c : Bool) (n : Nat) (s : State) : (raiseIf c n s).med = s.med := med_eq (unreported_raiseIf c n s)
@[simp] theorem med_count (c q n : Nat) (s : State) : (count c q n s).med = s.med := med_eq (unreported_count c q n s)
@[simp] theorem med_count1 (c q : Nat) (s : State) : (count1 c q s).med = s.med := med_eq (unreported_count1 c q s)
@[simp] theorem med_setRegionState (r v : Nat) (s : State) : (setRegionState r v s).med = s.med := med_eq (unreported_setRegionState r v s)
@[simp] theorem med_takeStamp (s : State) : (takeStamp s).med = s.med := med_eq (unreported_takeStamp s)

theorem integ_eq {s t : State} (h : unreported t = unreported s) : t.integ = s.integ := (congrArg State.integ h :)
@[simp] theorem integ_raise (n : Nat) (s : State) : (raise n s).integ = s.integ := integ_eq (unreported_raise n s)
@[simp] theorem integ_raiseIf (c : Bool) (n : Nat) (s : State) : (raiseIf c n s).integ = s.integ := integ_eq (unreported_raiseIf c n s)
@[simp] theorem integ_count (c q n : Nat) (s : State) : (count c q n s).integ = s.integ := integ_eq (unreported_count c q n s)
@[simp] theorem integ_count1 (c q : Nat) (s : State) : (count1 c q s).integ = s.integ := integ_eq (unreported_count1 c q s)
@[simp] theorem integ_setRegionState (r v : Nat) (s : State) : (setRegionState r v s).integ = s.integ := integ_eq (unreported_setRegionState r v s)
@[simp] theorem integ_takeStamp (s : State) : (takeStamp s).integ = s.integ := integ_eq (unreported_takeStamp s)

theorem stored_eq {s t : State} (h : unreported t = unreported s) : t.stored = s.stored := (congrArg State.stored h :)
@[simp] theorem stored_raise (n : Nat) (s : State) : (raise n s).stored = s.stored := stored_eq (unreported_raise n s)
@[simp] theorem stored_raiseIf (c : Bool) (n : Nat) (s : State) : (raiseIf c n s).stored = s.stored := stored_eq (unreported_raiseIf c n s)
@[simp] theorem stored_count (c q n : Nat) (s : State) : (count c q n s).stored = s.stored := stored_eq (unreported_count c q n s)
@[simp] theorem stored_count1 (c q : Nat) (s : State) : (count1 c q s).stored = s.stored := stored_eq (unreported_count1 c q s)
@[simp] theorem stored_setRegionState (r v : Nat) (s : State) : (setRegionState r v s).stored = s.stored := stored_eq (unreported_setRegionState r v s)
@[simp] theorem stored_takeStamp (s : State) : (takeStamp s).stored = s.stored := stored_eq (unreported_takeStamp s)

theorem pow_eq {s t : State} (h : unreported t = unreported s) : t.pow = s.pow := (congrArg State.pow h :)
@[simp] theorem pow_raise (n : Nat) (s : State) : (raise n s).pow = s.pow := pow_eq (unreported_raise n s)
@[simp] theorem pow_raiseIf (c : Bool) (n : Nat) (s : State) : (raiseIf c n s).pow = s.pow := pow_eq (unreported_raiseIf c n s)
@[simp] theorem pow_count (c q n : Nat) (s : State) : (count c q n s).pow = s.pow := pow_eq (unreported_count c q n s)
@[simp] theorem pow_count1 (c q : Nat) (s : State) : (count1 c q s).pow = s.pow := pow_eq (unreported_count1 c q s)
@[simp] theorem pow_setRegionState (r v : Nat) (s : State) : (setRegionState r v s).pow = s.pow := pow_eq (unreported_setRegionState r v s)
@[simp] theorem pow_takeStamp (s : State) : (takeStamp s).pow = s.pow := pow_eq (unreported_takeStamp s)

theorem modes_eq {s t : State} (h : unreported t = unreported s) : t.modes = s.modes := (congrArg State.modes h :)
@[simp] theorem modes_raise (n : Nat) (s : State) : (raise n s).modes = s.modes := modes_eq (unreported_raise n s)
@[simp] theorem modes_raiseIf (c : Bool) (n : Nat) (s : State) : (raiseIf c n s).modes = s.modes := modes_eq (unreported_raiseIf c n s)
@[simp] theorem modes_count (c q n : Nat) (s : State) : (count c q n s).modes = s.modes := modes_eq (unreported_count c q n s)
@[simp] theorem modes_count1 (c q : Nat) (s : State) : (count1 c q s).modes = s.modes := modes_eq (unreported_count1 c q s)
@[simp] theorem modes_setRegionState (r v : Nat) (s : State) : (setRegionState r v s).modes = s.modes := modes_eq (unreported_setRegionState r v s)
@[simp] theorem modes_takeStamp (s : State) : (takeStamp s).modes = s.modes := modes_eq (unreported_takeStamp s)

theorem therm_eq {s t : State} (h : unreported t = unreported s) : t.therm = s.therm := (congrArg State.therm h :)
@[simp] theorem therm_raise (n : Nat) (s : State) : (raise n s).therm = s.therm := therm_eq (unreported_raise n s)
@[simp] theorem therm_raiseIf (c : Bool) (n : Nat) (s : State) : (raiseIf c n s).therm = s.therm := therm_eq (unreported_raiseIf c n s)
@[simp] theorem therm_count (c q n : Nat) (s : State) : (count c q n s).therm = s.therm := therm_eq (unreported_count c q n s)
@[simp] theorem therm_count1 (c q : Nat) (s : State) : (count1 c q s).therm = s.therm := therm_eq (unreported_count1 c q s)
@[simp] theorem therm_setRegionState (r v : Nat) (s : State) : (setRegionState r v s).therm = s.therm := therm_eq (unreported_setRegionState r v s)
@[simp] theorem therm_takeStamp (s : State) : (takeStamp s).therm = s.therm := therm_eq (unreported_takeStamp s)

theorem port_queue_eq {s t : State} {p : Port} (h : unreported t = unreported s) : (t.port p).queue = (s.port p).queue := by
  cases p <;> [exact (congrArg (fun x => x.portA.queue) h :); exact (congrArg (fun x => x.portB.queue) h :)]
@[simp] theorem port_queue_raise (n : Nat) (s : State) {p : Port} : ((raise n s).port p).queue = (s.port p).queue := port_queue_eq (unreported_raise n s)
@[simp] theorem port_queue_raiseIf (c : Bool) (n : Nat) (s : State) {p : Port} : ((raiseIf c n s).port p).queue = (s.port p).queue := port_queue_eq (unreported_raiseIf c n s)
@[simp] theorem port_queue_count (c q n : Nat) (s : State) {p : Port} : ((count c q n s).port p).queue = (s.port p).queue := port_queue_eq (unreported_count c q n s)
@[simp] theorem port_queue_count1 (c q : Nat) (s : State) {p : Port} : ((count1 c q s).port p).queue = (s.port p).queue := port_queue_eq (unreported_count1 c q s)
@[simp] theorem port_queue_setRegionState (r v : Nat) (s : State) {p : Port} : ((setRegionState r v s).port p).queue = (s.port p).queue := port_queue_eq (unreported_setRegionState r v s)
@[simp] theorem port_queue_takeStamp (s : State) {p : Port} : ((takeStamp s).port p).queue = (s.port p).queue := port_queue_eq (unreported_takeStamp s)

theorem port_creditsWithheld_eq {s t : State} {p : Port} (h : unreported t = unreported s) : (t.port p).creditsWithheld = (s.port p).creditsWithheld := by
  cases p <;> [exact (congrArg (fun x => x.portA.creditsWithheld) h :); exact (congrArg (fun x => x.portB.creditsWithheld) h :)]
@[simp] theorem port_creditsWithheld_raise (n : Nat) (s : State) {p : Port} : ((raise n s).port p).creditsWithheld = (s.port p).creditsWithheld := port_creditsWithheld_eq (unreported_raise n s)
@[simp] theorem port_creditsWithheld_raiseIf (c : Bool) (n : Nat) (s : State) {p : Port} : ((raiseIf c n s).port p).creditsWithheld = (s.port p).creditsWithheld := port_creditsWithheld_eq (unreported_raiseIf c n s)
@[simp] theorem port_creditsWithheld_count (c q n : Nat) (s : State) {p : Port} : ((count c q n s).port p).creditsWithheld = (s.port p).creditsWithheld := port_creditsWithheld_eq (unreported_count c q n s)
@[simp] theorem port_creditsWithheld_count1 (c q : Nat) (s : State) {p : Port} : ((count1 c q s).port p).creditsWithheld = (s.port p).creditsWithheld := port_creditsWithheld_eq (unreported_count1 c q s)
@[simp] theorem port_creditsWithheld_setRegionState (r v : Nat) (s : State) {p : Port} : ((setRegionState r v s).port p).creditsWithheld = (s.port p).creditsWithheld := port_creditsWithheld_eq (unreported_setRegionState r v s)
@[simp] theorem port_creditsWithheld_takeStamp (s : State) {p : Port} : ((takeStamp s).port p).creditsWithheld = (s.port p).creditsWithheld := port_creditsWithheld_eq (unreported_takeStamp s)

theorem port_silent_eq {s t : State} {p : Port} (h : unreported t = unreported s) : (t.port p).silent = (s.port p).silent := by
  cases p <;> [exact (congrArg (fun x => x.portA.silent) h :); exact (congrArg (fun x => x.portB.silent) h :)]
@[simp] theorem port_silent_raise (n : Nat) (s : State) {p : Port} : ((raise n s).port p).silent = (s.port p).silent := port_silent_eq (unreported_raise n s)
@[simp] theorem port_silent_raiseIf (c : Bool) (n : Nat) (s : State) {p : Port} : ((raiseIf c n s).port p).silent = (s.port p).silent := port_silent_eq (unreported_raiseIf c n s)
@[simp] theorem port_silent_count (c q n : Nat) (s : State) {p : Port} : ((count c q n s).port p).silent = (s.port p).silent := port_silent_eq (unreported_count c q n s)
@[simp] theorem port_silent_count1 (c q : Nat) (s : State) {p : Port} : ((count1 c q s).port p).silent = (s.port p).silent := port_silent_eq (unreported_count1 c q s)
@[simp] theorem port_silent_setRegionState (r v : Nat) (s : State) {p : Port} : ((setRegionState r v s).port p).silent = (s.port p).silent := port_silent_eq (unreported_setRegionState r v s)
@[simp] theorem port_silent_takeStamp (s : State) {p : Port} : ((takeStamp s).port p).silent = (s.port p).silent := port_silent_eq (unreported_takeStamp s)

theorem port_contained_eq {s t : State} {p : Port} (h : unreported t = unreported s) : (t.port p).contained = (s.port p).contained := by
  cases p <;> [exact (congrArg (fun x => x.portA.contained) h :); exact (congrArg (fun x => x.portB.contained) h :)]
@[simp] theorem port_contained_raise (n : Nat) (s : State) {p : Port} : ((raise n s).port p).contained = (s.port p).contained := port_contained_eq (unreported_raise n s)
@[simp] theorem port_contained_raiseIf (c : Bool) (n : Nat) (s : State) {p : Port} : ((raiseIf c n s).port p).contained = (s.port p).contained := port_contained_eq (unreported_raiseIf c n s)
@[simp] theorem port_contained_count (c q n : Nat) (s : State) {p : Port} : ((count c q n s).port p).contained = (s.port p).contained := port_contained_eq (unreported_count c q n s)
@[simp] theorem port_contained_count1 (c q : Nat) (s : State) {p : Port} : ((count1 c q s).port p).contained = (s.port p).contained := port_contained_eq (unreported_count1 c q s)
@[simp] theorem port_contained_setRegionState (r v : Nat) (s : State) {p : Port} : ((setRegionState r v s).port p).contained = (s.port p).contained := port_contained_eq (unreported_setRegionState r v s)
@[simp] theorem port_contained_takeStamp (s : State) {p : Port} : ((takeStamp s).port p).contained = (s.port p).contained := port_contained_eq (unreported_takeStamp s)

theorem port_perst_eq {s t : State} {p : Port} (h : unreported t = unreported s) : (t.port p).perst = (s.port p).perst := by
  cases p <;> [exact (congrArg (fun x => x.portA.perst) h :); exact (congrArg (fun x => x.portB.perst) h :)]
@[simp] theorem port_perst_raise (n : Nat) (s : State) {p : Port} : ((raise n s).port p).perst = (s.port p).perst := port_perst_eq (unreported_raise n s)
@[simp] theorem port_perst_raiseIf (c : Bool) (n : Nat) (s : State) {p : Port} : ((raiseIf c n s).port p).perst = (s.port p).perst := port_perst_eq (unreported_raiseIf c n s)
@[simp] theorem port_perst_count (c q n : Nat) (s : State) {p : Port} : ((count c q n s).port p).perst = (s.port p).perst := port_perst_eq (unreported_count c q n s)
@[simp] theorem port_perst_count1 (c q : Nat) (s : State) {p : Port} : ((count1 c q s).port p).perst = (s.port p).perst := port_perst_eq (unreported_count1 c q s)
@[simp] theorem port_perst_setRegionState (r v : Nat) (s : State) {p : Port} : ((setRegionState r v s).port p).perst = (s.port p).perst := port_perst_eq (unreported_setRegionState r v s)
@[simp] theorem port_perst_takeStamp (s : State) {p : Port} : ((takeStamp s).port p).perst = (s.port p).perst := port_perst_eq (unreported_takeStamp s)

theorem port_retries_eq {s t : State} {p : Port} (h : unreported t = unreported s) : (t.port p).retries = (s.port p).retries := by
  cases p <;> [exact (congrArg (fun x => x.portA.retries) h :); exact (congrArg (fun x => x.portB.retries) h :)]
@[simp] theorem port_retries_raise (n : Nat) (s : State) {p : Port} : ((raise n s).port p).retries = (s.port p).retries := port_retries_eq (unreported_raise n s)
@[simp] theorem port_retries_raiseIf (c : Bool) (n : Nat) (s : State) {p : Port} : ((raiseIf c n s).port p).retries = (s.port p).retries := port_retries_eq (unreported_raiseIf c n s)
@[simp] theorem port_retries_count (c q n : Nat) (s : State) {p : Port} : ((count c q n s).port p).retries = (s.port p).retries := port_retries_eq (unreported_count c q n s)
@[simp] theorem port_retries_count1 (c q : Nat) (s : State) {p : Port} : ((count1 c q s).port p).retries = (s.port p).retries := port_retries_eq (unreported_count1 c q s)
@[simp] theorem port_retries_setRegionState (r v : Nat) (s : State) {p : Port} : ((setRegionState r v s).port p).retries = (s.port p).retries := port_retries_eq (unreported_setRegionState r v s)
@[simp] theorem port_retries_takeStamp (s : State) {p : Port} : ((takeStamp s).port p).retries = (s.port p).retries := port_retries_eq (unreported_takeStamp s)

theorem port_heldDown_eq {s t : State} {p : Port} (h : unreported t = unreported s) : (t.port p).heldDown = (s.port p).heldDown := by
  cases p <;> [exact (congrArg (fun x => x.portA.heldDown) h :); exact (congrArg (fun x => x.portB.heldDown) h :)]
@[simp] theorem port_heldDown_raise (n : Nat) (s : State) {p : Port} : ((raise n s).port p).heldDown = (s.port p).heldDown := port_heldDown_eq (unreported_raise n s)
@[simp] theorem port_heldDown_raiseIf (c : Bool) (n : Nat) (s : State) {p : Port} : ((raiseIf c n s).port p).heldDown = (s.port p).heldDown := port_heldDown_eq (unreported_raiseIf c n s)
@[simp] theorem port_heldDown_count (c q n : Nat) (s : State) {p : Port} : ((count c q n s).port p).heldDown = (s.port p).heldDown := port_heldDown_eq (unreported_count c q n s)
@[simp] theorem port_heldDown_count1 (c q : Nat) (s : State) {p : Port} : ((count1 c q s).port p).heldDown = (s.port p).heldDown := port_heldDown_eq (unreported_count1 c q s)
@[simp] theorem port_heldDown_setRegionState (r v : Nat) (s : State) {p : Port} : ((setRegionState r v s).port p).heldDown = (s.port p).heldDown := port_heldDown_eq (unreported_setRegionState r v s)
@[simp] theorem port_heldDown_takeStamp (s : State) {p : Port} : ((takeStamp s).port p).heldDown = (s.port p).heldDown := port_heldDown_eq (unreported_takeStamp s)

theorem port_linkL1_eq {s t : State} {p : Port} (h : unreported t = unreported s) : (t.port p).linkL1 = (s.port p).linkL1 := by
  cases p <;> [exact (congrArg (fun x => x.portA.linkL1) h :); exact (congrArg (fun x => x.portB.linkL1) h :)]
@[simp] theorem port_linkL1_raise (n : Nat) (s : State) {p : Port} : ((raise n s).port p).linkL1 = (s.port p).linkL1 := port_linkL1_eq (unreported_raise n s)
@[simp] theorem port_linkL1_raiseIf (c : Bool) (n : Nat) (s : State) {p : Port} : ((raiseIf c n s).port p).linkL1 = (s.port p).linkL1 := port_linkL1_eq (unreported_raiseIf c n s)
@[simp] theorem port_linkL1_count (c q n : Nat) (s : State) {p : Port} : ((count c q n s).port p).linkL1 = (s.port p).linkL1 := port_linkL1_eq (unreported_count c q n s)
@[simp] theorem port_linkL1_count1 (c q : Nat) (s : State) {p : Port} : ((count1 c q s).port p).linkL1 = (s.port p).linkL1 := port_linkL1_eq (unreported_count1 c q s)
@[simp] theorem port_linkL1_setRegionState (r v : Nat) (s : State) {p : Port} : ((setRegionState r v s).port p).linkL1 = (s.port p).linkL1 := port_linkL1_eq (unreported_setRegionState r v s)
@[simp] theorem port_linkL1_takeStamp (s : State) {p : Port} : ((takeStamp s).port p).linkL1 = (s.port p).linkL1 := port_linkL1_eq (unreported_takeStamp s)

theorem port_memoryActive_eq {s t : State} {p : Port} (h : unreported t = unreported s) : (t.port p).memoryActive = (s.port p).memoryActive := by
  cases p <;> [exact (congrArg (fun x => x.portA.memoryActive) h :); exact (congrArg (fun x => x.portB.memoryActive) h :)]
@[simp] theorem port_memoryActive_raise (n : Nat) (s : State) {p : Port} : ((raise n s).port p).memoryActive = (s.port p).memoryActive := port_memoryActive_eq (unreported_raise n s)
@[simp] theorem port_memoryActive_raiseIf (c : Bool) (n : Nat) (s : State) {p : Port} : ((raiseIf c n s).port p).memoryActive = (s.port p).memoryActive := port_memoryActive_eq (unreported_raiseIf c n s)
@[simp] theorem port_memoryActive_count (c q n : Nat) (s : State) {p : Port} : ((count c q n s).port p).memoryActive = (s.port p).memoryActive := port_memoryActive_eq (unreported_count c q n s)
@[simp] theorem port_memoryActive_count1 (c q : Nat) (s : State) {p : Port} : ((count1 c q s).port p).memoryActive = (s.port p).memoryActive := port_memoryActive_eq (unreported_count1 c q s)
@[simp] theorem port_memoryActive_setRegionState (r v : Nat) (s : State) {p : Port} : ((setRegionState r v s).port p).memoryActive = (s.port p).memoryActive := port_memoryActive_eq (unreported_setRegionState r v s)
@[simp] theorem port_memoryActive_takeStamp (s : State) {p : Port} : ((takeStamp s).port p).memoryActive = (s.port p).memoryActive := port_memoryActive_eq (unreported_takeStamp s)

theorem port_decoders_eq {s t : State} {p : Port} (h : unreported t = unreported s) : (t.port p).decoders = (s.port p).decoders := by
  cases p <;> [exact (congrArg (fun x => x.portA.decoders) h :); exact (congrArg (fun x => x.portB.decoders) h :)]
@[simp] theorem port_decoders_raise (n : Nat) (s : State) {p : Port} : ((raise n s).port p).decoders = (s.port p).decoders := port_decoders_eq (unreported_raise n s)
@[simp] theorem port_decoders_raiseIf (c : Bool) (n : Nat) (s : State) {p : Port} : ((raiseIf c n s).port p).decoders = (s.port p).decoders := port_decoders_eq (unreported_raiseIf c n s)
@[simp] theorem port_decoders_count (c q n : Nat) (s : State) {p : Port} : ((count c q n s).port p).decoders = (s.port p).decoders := port_decoders_eq (unreported_count c q n s)
@[simp] theorem port_decoders_count1 (c q : Nat) (s : State) {p : Port} : ((count1 c q s).port p).decoders = (s.port p).decoders := port_decoders_eq (unreported_count1 c q s)
@[simp] theorem port_decoders_setRegionState (r v : Nat) (s : State) {p : Port} : ((setRegionState r v s).port p).decoders = (s.port p).decoders := port_decoders_eq (unreported_setRegionState r v s)
@[simp] theorem port_decoders_takeStamp (s : State) {p : Port} : ((takeStamp s).port p).decoders = (s.port p).decoders := port_decoders_eq (unreported_takeStamp s)

theorem port_decoderErrors_eq {s t : State} {p : Port} (h : unreported t = unreported s) : (t.port p).decoderErrors = (s.port p).decoderErrors := by
  cases p <;> [exact (congrArg (fun x => x.portA.decoderErrors) h :); exact (congrArg (fun x => x.portB.decoderErrors) h :)]
@[simp] theorem port_decoderErrors_raise (n : Nat) (s : State) {p : Port} : ((raise n s).port p).decoderErrors = (s.port p).decoderErrors := port_decoderErrors_eq (unreported_raise n s)
@[simp] theorem port_decoderErrors_raiseIf (c : Bool) (n : Nat) (s : State) {p : Port} : ((raiseIf c n s).port p).decoderErrors = (s.port p).decoderErrors := port_decoderErrors_eq (unreported_raiseIf c n s)
@[simp] theorem port_decoderErrors_count (c q n : Nat) (s : State) {p : Port} : ((count c q n s).port p).decoderErrors = (s.port p).decoderErrors := port_decoderErrors_eq (unreported_count c q n s)
@[simp] theorem port_decoderErrors_count1 (c q : Nat) (s : State) {p : Port} : ((count1 c q s).port p).decoderErrors = (s.port p).decoderErrors := port_decoderErrors_eq (unreported_count1 c q s)
@[simp] theorem port_decoderErrors_setRegionState (r v : Nat) (s : State) {p : Port} : ((setRegionState r v s).port p).decoderErrors = (s.port p).decoderErrors := port_decoderErrors_eq (unreported_setRegionState r v s)
@[simp] theorem port_decoderErrors_takeStamp (s : State) {p : Port} : ((takeStamp s).port p).decoderErrors = (s.port p).decoderErrors := port_decoderErrors_eq (unreported_takeStamp s)

theorem port_policy_eq {s t : State} {p : Port} (h : unreported t = unreported s) : (t.port p).policy = (s.port p).policy := by
  cases p <;> [exact (congrArg (fun x => x.portA.policy) h :); exact (congrArg (fun x => x.portB.policy) h :)]
@[simp] theorem port_policy_raise (n : Nat) (s : State) {p : Port} : ((raise n s).port p).policy = (s.port p).policy := port_policy_eq (unreported_raise n s)
@[simp] theorem port_policy_raiseIf (c : Bool) (n : Nat) (s : State) {p : Port} : ((raiseIf c n s).port p).policy = (s.port p).policy := port_policy_eq (unreported_raiseIf c n s)
@[simp] theorem port_policy_count (c q n : Nat) (s : State) {p : Port} : ((count c q n s).port p).policy = (s.port p).policy := port_policy_eq (unreported_count c q n s)
@[simp] theorem port_policy_count1 (c q : Nat) (s : State) {p : Port} : ((count1 c q s).port p).policy = (s.port p).policy := port_policy_eq (unreported_count1 c q s)
@[simp] theorem port_policy_setRegionState (r v : Nat) (s : State) {p : Port} : ((setRegionState r v s).port p).policy = (s.port p).policy := port_policy_eq (unreported_setRegionState r v s)
@[simp] theorem port_policy_takeStamp (s : State) {p : Port} : ((takeStamp s).port p).policy = (s.port p).policy := port_policy_eq (unreported_takeStamp s)

theorem port_dropped_eq {s t : State} {p : Port} (h : unreported t = unreported s) : (t.port p).dropped = (s.port p).dropped := by
  cases p <;> [exact (congrArg (fun x => x.portA.dropped) h :); exact (congrArg (fun x => x.portB.dropped) h :)]
@[simp] theorem port_dropped_raise (n : Nat) (s : State) {p : Port} : ((raise n s).port p).dropped = (s.port p).dropped := port_dropped_eq (unreported_raise n s)
@[simp] theorem port_dropped_raiseIf (c : Bool) (n : Nat) (s : State) {p : Port} : ((raiseIf c n s).port p).dropped = (s.port p).dropped := port_dropped_eq (unreported_raiseIf c n s)
@[simp] theorem port_dropped_count (c q n : Nat) (s : State) {p : Port} : ((count c q n s).port p).dropped = (s.port p).dropped := port_dropped_eq (unreported_count c q n s)
@[simp] theorem port_dropped_count1 (c q : Nat) (s : State) {p : Port} : ((count1 c q s).port p).dropped = (s.port p).dropped := port_dropped_eq (unreported_count1 c q s)
@[simp] theorem port_dropped_setRegionState (r v : Nat) (s : State) {p : Port} : ((setRegionState r v s).port p).dropped = (s.port p).dropped := port_dropped_eq (unreported_setRegionState r v s)
@[simp] theorem port_dropped_takeStamp (s : State) {p : Port} : ((takeStamp s).port p).dropped = (s.port p).dropped := port_dropped_eq (unreported_takeStamp s)

theorem port_droppedHalted_eq {s t : State} {p : Port} (h : unreported t = unreported s) : (t.port p).droppedHalted = (s.port p).droppedHalted := by
  cases p <;> [exact (congrArg (fun x => x.portA.droppedHalted) h :); exact (congrArg (fun x => x.portB.droppedHalted) h :)]
@[simp] theorem port_droppedHalted_raise (n : Nat) (s : State) {p : Port} : ((raise n s).port p).droppedHalted = (s.port p).droppedHalted := port_droppedHalted_eq (unreported_raise n s)
@[simp] theorem port_droppedHalted_raiseIf (c : Bool) (n : Nat) (s : State) {p : Port} : ((raiseIf c n s).port p).droppedHalted = (s.port p).droppedHalted := port_droppedHalted_eq (unreported_raiseIf c n s)
@[simp] theorem port_droppedHalted_count (c q n : Nat) (s : State) {p : Port} : ((count c q n s).port p).droppedHalted = (s.port p).droppedHalted := port_droppedHalted_eq (unreported_count c q n s)
@[simp] theorem port_droppedHalted_count1 (c q : Nat) (s : State) {p : Port} : ((count1 c q s).port p).droppedHalted = (s.port p).droppedHalted := port_droppedHalted_eq (unreported_count1 c q s)
@[simp] theorem port_droppedHalted_setRegionState (r v : Nat) (s : State) {p : Port} : ((setRegionState r v s).port p).droppedHalted = (s.port p).droppedHalted := port_droppedHalted_eq (unreported_setRegionState r v s)
@[simp] theorem port_droppedHalted_takeStamp (s : State) {p : Port} : ((takeStamp s).port p).droppedHalted = (s.port p).droppedHalted := port_droppedHalted_eq (unreported_takeStamp s)

theorem port_droppedAborted_eq {s t : State} {p : Port} (h : unreported t = unreported s) : (t.port p).droppedAborted = (s.port p).droppedAborted := by
  cases p <;> [exact (congrArg (fun x => x.portA.droppedAborted) h :); exact (congrArg (fun x => x.portB.droppedAborted) h :)]
@[simp] theorem port_droppedAborted_raise (n : Nat) (s : State) {p : Port} : ((raise n s).port p).droppedAborted = (s.port p).droppedAborted := port_droppedAborted_eq (unreported_raise n s)
@[simp] theorem port_droppedAborted_raiseIf (c : Bool) (n : Nat) (s : State) {p : Port} : ((raiseIf c n s).port p).droppedAborted = (s.port p).droppedAborted := port_droppedAborted_eq (unreported_raiseIf c n s)
@[simp] theorem port_droppedAborted_count (c q n : Nat) (s : State) {p : Port} : ((count c q n s).port p).droppedAborted = (s.port p).droppedAborted := port_droppedAborted_eq (unreported_count c q n s)
@[simp] theorem port_droppedAborted_count1 (c q : Nat) (s : State) {p : Port} : ((count1 c q s).port p).droppedAborted = (s.port p).droppedAborted := port_droppedAborted_eq (unreported_count1 c q s)
@[simp] theorem port_droppedAborted_setRegionState (r v : Nat) (s : State) {p : Port} : ((setRegionState r v s).port p).droppedAborted = (s.port p).droppedAborted := port_droppedAborted_eq (unreported_setRegionState r v s)
@[simp] theorem port_droppedAborted_takeStamp (s : State) {p : Port} : ((takeStamp s).port p).droppedAborted = (s.port p).droppedAborted := port_droppedAborted_eq (unreported_takeStamp s)

theorem port_droppedOffline_eq {s t : State} {p : Port} (h : unreported t = unreported s) : (t.port p).droppedOffline = (s.port p).droppedOffline := by
  cases p <;> [exact (congrArg (fun x => x.portA.droppedOffline) h :); exact (congrArg (fun x => x.portB.droppedOffline) h :)]
@[simp] theorem port_droppedOffline_raise (n : Nat) (s : State) {p : Port} : ((raise n s).port p).droppedOffline = (s.port p).droppedOffline := port_droppedOffline_eq (unreported_raise n s)
@[simp] theorem port_droppedOffline_raiseIf (c : Bool) (n : Nat) (s : State) {p : Port} : ((raiseIf c n s).port p).droppedOffline = (s.port p).droppedOffline := port_droppedOffline_eq (unreported_raiseIf c n s)
@[simp] theorem port_droppedOffline_count (c q n : Nat) (s : State) {p : Port} : ((count c q n s).port p).droppedOffline = (s.port p).droppedOffline := port_droppedOffline_eq (unreported_count c q n s)
@[simp] theorem port_droppedOffline_count1 (c q : Nat) (s : State) {p : Port} : ((count1 c q s).port p).droppedOffline = (s.port p).droppedOffline := port_droppedOffline_eq (unreported_count1 c q s)
@[simp] theorem port_droppedOffline_setRegionState (r v : Nat) (s : State) {p : Port} : ((setRegionState r v s).port p).droppedOffline = (s.port p).droppedOffline := port_droppedOffline_eq (unreported_setRegionState r v s)
@[simp] theorem port_droppedOffline_takeStamp (s : State) {p : Port} : ((takeStamp s).port p).droppedOffline = (s.port p).droppedOffline := port_droppedOffline_eq (unreported_takeStamp s)

theorem port_barriers_eq {s t : State} {p : Port} (h : unreported t = unreported s) : (t.port p).barriers = (s.port p).barriers := by
  cases p <;> [exact (congrArg (fun x => x.portA.barriers) h :); exact (congrArg (fun x => x.portB.barriers) h :)]
@[simp] theorem port_barriers_raise (n : Nat) (s : State) {p : Port} : ((raise n s).port p).barriers = (s.port p).barriers := port_barriers_eq (unreported_raise n s)
@[simp] theorem port_barriers_raiseIf (c : Bool) (n : Nat) (s : State) {p : Port} : ((raiseIf c n s).port p).barriers = (s.port p).barriers := port_barriers_eq (unreported_raiseIf c n s)
@[simp] theorem port_barriers_count (c q n : Nat) (s : State) {p : Port} : ((count c q n s).port p).barriers = (s.port p).barriers := port_barriers_eq (unreported_count c q n s)
@[simp] theorem port_barriers_count1 (c q : Nat) (s : State) {p : Port} : ((count1 c q s).port p).barriers = (s.port p).barriers := port_barriers_eq (unreported_count1 c q s)
@[simp] theorem port_barriers_setRegionState (r v : Nat) (s : State) {p : Port} : ((setRegionState r v s).port p).barriers = (s.port p).barriers := port_barriers_eq (unreported_setRegionState r v s)
@[simp] theorem port_barriers_takeStamp (s : State) {p : Port} : ((takeStamp s).port p).barriers = (s.port p).barriers := port_barriers_eq (unreported_takeStamp s)

theorem port_discard_eq {s t : State} {p : Port} (h : unreported t = unreported s) : (t.port p).discard = (s.port p).discard := by
  cases p <;> [exact (congrArg (fun x => x.portA.discard) h :); exact (congrArg (fun x => x.portB.discard) h :)]
@[simp] theorem port_discard_raise (n : Nat) (s : State) {p : Port} : ((raise n s).port p).discard = (s.port p).discard := port_discard_eq (unreported_raise n s)
@[simp] theorem port_discard_raiseIf (c : Bool) (n : Nat) (s : State) {p : Port} : ((raiseIf c n s).port p).discard = (s.port p).discard := port_discard_eq (unreported_raiseIf c n s)
@[simp] theorem port_discard_count (c q n : Nat) (s : State) {p : Port} : ((count c q n s).port p).discard = (s.port p).discard := port_discard_eq (unreported_count c q n s)
@[simp] theorem port_discard_count1 (c q : Nat) (s : State) {p : Port} : ((count1 c q s).port p).discard = (s.port p).discard := port_discard_eq (unreported_count1 c q s)
@[simp] theorem port_discard_setRegionState (r v : Nat) (s : State) {p : Port} : ((setRegionState r v s).port p).discard = (s.port p).discard := port_discard_eq (unreported_setRegionState r v s)
@[simp] theorem port_discard_takeStamp (s : State) {p : Port} : ((takeStamp s).port p).discard = (s.port p).discard := port_discard_eq (unreported_takeStamp s)

theorem port_draining_eq {s t : State} {p : Port} (h : unreported t = unreported s) : (t.port p).draining = (s.port p).draining := by
  cases p <;> [exact (congrArg (fun x => x.portA.draining) h :); exact (congrArg (fun x => x.portB.draining) h :)]
@[simp] theorem port_draining_raise (n : Nat) (s : State) {p : Port} : ((raise n s).port p).draining = (s.port p).draining := port_draining_eq (unreported_raise n s)
@[simp] theorem port_draining_raiseIf (c : Bool) (n : Nat) (s : State) {p : Port} : ((raiseIf c n s).port p).draining = (s.port p).draining := port_draining_eq (unreported_raiseIf c n s)
@[simp] theorem port_draining_count (c q n : Nat) (s : State) {p : Port} : ((count c q n s).port p).draining = (s.port p).draining := port_draining_eq (unreported_count c q n s)
@[simp] theorem port_draining_count1 (c q : Nat) (s : State) {p : Port} : ((count1 c q s).port p).draining = (s.port p).draining := port_draining_eq (unreported_count1 c q s)
@[simp] theorem port_draining_setRegionState (r v : Nat) (s : State) {p : Port} : ((setRegionState r v s).port p).draining = (s.port p).draining := port_draining_eq (unreported_setRegionState r v s)
@[simp] theorem port_draining_takeStamp (s : State) {p : Port} : ((takeStamp s).port p).draining = (s.port p).draining := port_draining_eq (unreported_takeStamp s)

theorem port_waits_eq {s t : State} {p : Port} (h : unreported t = unreported s) : (t.port p).waits = (s.port p).waits := by
  cases p <;> [exact (congrArg (fun x => x.portA.waits) h :); exact (congrArg (fun x => x.portB.waits) h :)]
@[simp] theorem port_waits_raise (n : Nat) (s : State) {p : Port} : ((raise n s).port p).waits = (s.port p).waits := port_waits_eq (unreported_raise n s)
@[simp] theorem port_waits_raiseIf (c : Bool) (n : Nat) (s : State) {p : Port} : ((raiseIf c n s).port p).waits = (s.port p).waits := port_waits_eq (unreported_raiseIf c n s)
@[simp] theorem port_waits_count (c q n : Nat) (s : State) {p : Port} : ((count c q n s).port p).waits = (s.port p).waits := port_waits_eq (unreported_count c q n s)
@[simp] theorem port_waits_count1 (c q : Nat) (s : State) {p : Port} : ((count1 c q s).port p).waits = (s.port p).waits := port_waits_eq (unreported_count1 c q s)
@[simp] theorem port_waits_setRegionState (r v : Nat) (s : State) {p : Port} : ((setRegionState r v s).port p).waits = (s.port p).waits := port_waits_eq (unreported_setRegionState r v s)
@[simp] theorem port_waits_takeStamp (s : State) {p : Port} : ((takeStamp s).port p).waits = (s.port p).waits := port_waits_eq (unreported_takeStamp s)

theorem port_flushes_eq {s t : State} {p : Port} (h : unreported t = unreported s) : (t.port p).flushes = (s.port p).flushes := by
  cases p <;> [exact (congrArg (fun x => x.portA.flushes) h :); exact (congrArg (fun x => x.portB.flushes) h :)]
@[simp] theorem port_flushes_raise (n : Nat) (s : State) {p : Port} : ((raise n s).port p).flushes = (s.port p).flushes := port_flushes_eq (unreported_raise n s)
@[simp] theorem port_flushes_raiseIf (c : Bool) (n : Nat) (s : State) {p : Port} : ((raiseIf c n s).port p).flushes = (s.port p).flushes := port_flushes_eq (unreported_raiseIf c n s)
@[simp] theorem port_flushes_count (c q n : Nat) (s : State) {p : Port} : ((count c q n s).port p).flushes = (s.port p).flushes := port_flushes_eq (unreported_count c q n s)
@[simp] theorem port_flushes_count1 (c q : Nat) (s : State) {p : Port} : ((count1 c q s).port p).flushes = (s.port p).flushes := port_flushes_eq (unreported_count1 c q s)
@[simp] theorem port_flushes_setRegionState (r v : Nat) (s : State) {p : Port} : ((setRegionState r v s).port p).flushes = (s.port p).flushes := port_flushes_eq (unreported_setRegionState r v s)
@[simp] theorem port_flushes_takeStamp (s : State) {p : Port} : ((takeStamp s).port p).flushes = (s.port p).flushes := port_flushes_eq (unreported_takeStamp s)

theorem port_granted_eq {s t : State} {p : Port} (h : unreported t = unreported s) : (t.port p).granted = (s.port p).granted := by
  cases p <;> [exact (congrArg (fun x => x.portA.granted) h :); exact (congrArg (fun x => x.portB.granted) h :)]
@[simp] theorem port_granted_raise (n : Nat) (s : State) {p : Port} : ((raise n s).port p).granted = (s.port p).granted := port_granted_eq (unreported_raise n s)
@[simp] theorem port_granted_raiseIf (c : Bool) (n : Nat) (s : State) {p : Port} : ((raiseIf c n s).port p).granted = (s.port p).granted := port_granted_eq (unreported_raiseIf c n s)
@[simp] theorem port_granted_count (c q n : Nat) (s : State) {p : Port} : ((count c q n s).port p).granted = (s.port p).granted := port_granted_eq (unreported_count c q n s)
@[simp] theorem port_granted_count1 (c q : Nat) (s : State) {p : Port} : ((count1 c q s).port p).granted = (s.port p).granted := port_granted_eq (unreported_count1 c q s)
@[simp] theorem port_granted_setRegionState (r v : Nat) (s : State) {p : Port} : ((setRegionState r v s).port p).granted = (s.port p).granted := port_granted_eq (unreported_setRegionState r v s)
@[simp] theorem port_granted_takeStamp (s : State) {p : Port} : ((takeStamp s).port p).granted = (s.port p).granted := port_granted_eq (unreported_takeStamp s)

theorem port_trainRate_eq {s t : State} {p : Port} (h : unreported t = unreported s) : (t.port p).trainRate = (s.port p).trainRate := by
  cases p <;> [exact (congrArg (fun x => x.portA.trainRate) h :); exact (congrArg (fun x => x.portB.trainRate) h :)]
@[simp] theorem port_trainRate_raise (n : Nat) (s : State) {p : Port} : ((raise n s).port p).trainRate = (s.port p).trainRate := port_trainRate_eq (unreported_raise n s)
@[simp] theorem port_trainRate_raiseIf (c : Bool) (n : Nat) (s : State) {p : Port} : ((raiseIf c n s).port p).trainRate = (s.port p).trainRate := port_trainRate_eq (unreported_raiseIf c n s)
@[simp] theorem port_trainRate_count (c q n : Nat) (s : State) {p : Port} : ((count c q n s).port p).trainRate = (s.port p).trainRate := port_trainRate_eq (unreported_count c q n s)
@[simp] theorem port_trainRate_count1 (c q : Nat) (s : State) {p : Port} : ((count1 c q s).port p).trainRate = (s.port p).trainRate := port_trainRate_eq (unreported_count1 c q s)
@[simp] theorem port_trainRate_setRegionState (r v : Nat) (s : State) {p : Port} : ((setRegionState r v s).port p).trainRate = (s.port p).trainRate := port_trainRate_eq (unreported_setRegionState r v s)
@[simp] theorem port_trainRate_takeStamp (s : State) {p : Port} : ((takeStamp s).port p).trainRate = (s.port p).trainRate := port_trainRate_eq (unreported_takeStamp s)

theorem port_config_eq {s t : State} {p : Port} (h : unreported t = unreported s) : (t.port p).config = (s.port p).config := by
  cases p <;> [exact (congrArg (fun x => x.portA.config) h :); exact (congrArg (fun x => x.portB.config) h :)]
@[simp] theorem port_config_raise (n : Nat) (s : State) {p : Port} : ((raise n s).port p).config = (s.port p).config := port_config_eq (unreported_raise n s)
@[simp] theorem port_config_raiseIf (c : Bool) (n : Nat) (s : State) {p : Port} : ((raiseIf c n s).port p).config = (s.port p).config := port_config_eq (unreported_raiseIf c n s)
@[simp] theorem port_config_count (c q n : Nat) (s : State) {p : Port} : ((count c q n s).port p).config = (s.port p).config := port_config_eq (unreported_count c q n s)
@[simp] theorem port_config_count1 (c q : Nat) (s : State) {p : Port} : ((count1 c q s).port p).config = (s.port p).config := port_config_eq (unreported_count1 c q s)
@[simp] theorem port_config_setRegionState (r v : Nat) (s : State) {p : Port} : ((setRegionState r v s).port p).config = (s.port p).config := port_config_eq (unreported_setRegionState r v s)
@[simp] theorem port_config_takeStamp (s : State) {p : Port} : ((takeStamp s).port p).config = (s.port p).config := port_config_eq (unreported_takeStamp s)

theorem port_msixTable_eq {s t : State} {p : Port} (h : unreported t = unreported s) : (t.port p).msixTable = (s.port p).msixTable := by
  cases p <;> [exact (congrArg (fun x => x.portA.msixTable) h :); exact (congrArg (fun x => x.portB.msixTable) h :)]
@[simp] theorem port_msixTable_raise (n : Nat) (s : State) {p : Port} : ((raise n s).port p).msixTable = (s.port p).msixTable := port_msixTable_eq (unreported_raise n s)
@[simp] theorem port_msixTable_raiseIf (c : Bool) (n : Nat) (s : State) {p : Port} : ((raiseIf c n s).port p).msixTable = (s.port p).msixTable := port_msixTable_eq (unreported_raiseIf c n s)
@[simp] theorem port_msixTable_count (c q n : Nat) (s : State) {p : Port} : ((count c q n s).port p).msixTable = (s.port p).msixTable := port_msixTable_eq (unreported_count c q n s)
@[simp] theorem port_msixTable_count1 (c q : Nat) (s : State) {p : Port} : ((count1 c q s).port p).msixTable = (s.port p).msixTable := port_msixTable_eq (unreported_count1 c q s)
@[simp] theorem port_msixTable_setRegionState (r v : Nat) (s : State) {p : Port} : ((setRegionState r v s).port p).msixTable = (s.port p).msixTable := port_msixTable_eq (unreported_setRegionState r v s)
@[simp] theorem port_msixTable_takeStamp (s : State) {p : Port} : ((takeStamp s).port p).msixTable = (s.port p).msixTable := port_msixTable_eq (unreported_takeStamp s)

theorem port_windowRead_eq {s t : State} {p : Port} (h : unreported t = unreported s) : (t.port p).windowRead = (s.port p).windowRead := by
  cases p <;> [exact (congrArg (fun x => x.portA.windowRead) h :); exact (congrArg (fun x => x.portB.windowRead) h :)]
@[simp] theorem port_windowRead_raise (n : Nat) (s : State) {p : Port} : ((raise n s).port p).windowRead = (s.port p).windowRead := port_windowRead_eq (unreported_raise n s)
@[simp] theorem port_windowRead_raiseIf (c : Bool) (n : Nat) (s : State) {p : Port} : ((raiseIf c n s).port p).windowRead = (s.port p).windowRead := port_windowRead_eq (unreported_raiseIf c n s)
@[simp] theorem port_windowRead_count (c q n : Nat) (s : State) {p : Port} : ((count c q n s).port p).windowRead = (s.port p).windowRead := port_windowRead_eq (unreported_count c q n s)
@[simp] theorem port_windowRead_count1 (c q : Nat) (s : State) {p : Port} : ((count1 c q s).port p).windowRead = (s.port p).windowRead := port_windowRead_eq (unreported_count1 c q s)
@[simp] theorem port_windowRead_setRegionState (r v : Nat) (s : State) {p : Port} : ((setRegionState r v s).port p).windowRead = (s.port p).windowRead := port_windowRead_eq (unreported_setRegionState r v s)
@[simp] theorem port_windowRead_takeStamp (s : State) {p : Port} : ((takeStamp s).port p).windowRead = (s.port p).windowRead := port_windowRead_eq (unreported_takeStamp s)

theorem port_windowWrite_eq {s t : State} {p : Port} (h : unreported t = unreported s) : (t.port p).windowWrite = (s.port p).windowWrite := by
  cases p <;> [exact (congrArg (fun x => x.portA.windowWrite) h :); exact (congrArg (fun x => x.portB.windowWrite) h :)]
@[simp] theorem port_windowWrite_raise (n : Nat) (s : State) {p : Port} : ((raise n s).port p).windowWrite = (s.port p).windowWrite := port_windowWrite_eq (unreported_raise n s)
@[simp] theorem port_windowWrite_raiseIf (c : Bool) (n : Nat) (s : State) {p : Port} : ((raiseIf c n s).port p).windowWrite = (s.port p).windowWrite := port_windowWrite_eq (unreported_raiseIf c n s)
@[simp] theorem port_windowWrite_count (c q n : Nat) (s : State) {p : Port} : ((count c q n s).port p).windowWrite = (s.port p).windowWrite := port_windowWrite_eq (unreported_count c q n s)
@[simp] theorem port_windowWrite_count1 (c q : Nat) (s : State) {p : Port} : ((count1 c q s).port p).windowWrite = (s.port p).windowWrite := port_windowWrite_eq (unreported_count1 c q s)
@[simp] theorem port_windowWrite_setRegionState (r v : Nat) (s : State) {p : Port} : ((setRegionState r v s).port p).windowWrite = (s.port p).windowWrite := port_windowWrite_eq (unreported_setRegionState r v s)
@[simp] theorem port_windowWrite_takeStamp (s : State) {p : Port} : ((takeStamp s).port p).windowWrite = (s.port p).windowWrite := port_windowWrite_eq (unreported_takeStamp s)

theorem port_windowUnpublished_eq {s t : State} {p : Port} (h : unreported t = unreported s) : (t.port p).windowUnpublished = (s.port p).windowUnpublished := by
  cases p <;> [exact (congrArg (fun x => x.portA.windowUnpublished) h :); exact (congrArg (fun x => x.portB.windowUnpublished) h :)]
@[simp] theorem port_windowUnpublished_raise (n : Nat) (s : State) {p : Port} : ((raise n s).port p).windowUnpublished = (s.port p).windowUnpublished := port_windowUnpublished_eq (unreported_raise n s)
@[simp] theorem port_windowUnpublished_raiseIf (c : Bool) (n : Nat) (s : State) {p : Port} : ((raiseIf c n s).port p).windowUnpublished = (s.port p).windowUnpublished := port_windowUnpublished_eq (unreported_raiseIf c n s)
@[simp] theorem port_windowUnpublished_count (c q n : Nat) (s : State) {p : Port} : ((count c q n s).port p).windowUnpublished = (s.port p).windowUnpublished := port_windowUnpublished_eq (unreported_count c q n s)
@[simp] theorem port_windowUnpublished_count1 (c q : Nat) (s : State) {p : Port} : ((count1 c q s).port p).windowUnpublished = (s.port p).windowUnpublished := port_windowUnpublished_eq (unreported_count1 c q s)
@[simp] theorem port_windowUnpublished_setRegionState (r v : Nat) (s : State) {p : Port} : ((setRegionState r v s).port p).windowUnpublished = (s.port p).windowUnpublished := port_windowUnpublished_eq (unreported_setRegionState r v s)
@[simp] theorem port_windowUnpublished_takeStamp (s : State) {p : Port} : ((takeStamp s).port p).windowUnpublished = (s.port p).windowUnpublished := port_windowUnpublished_eq (unreported_takeStamp s)

theorem port_windowLength_eq {s t : State} {p : Port} (h : unreported t = unreported s) : (t.port p).windowLength = (s.port p).windowLength := by
  cases p <;> [exact (congrArg (fun x => x.portA.windowLength) h :); exact (congrArg (fun x => x.portB.windowLength) h :)]
@[simp] theorem port_windowLength_raise (n : Nat) (s : State) {p : Port} : ((raise n s).port p).windowLength = (s.port p).windowLength := port_windowLength_eq (unreported_raise n s)
@[simp] theorem port_windowLength_raiseIf (c : Bool) (n : Nat) (s : State) {p : Port} : ((raiseIf c n s).port p).windowLength = (s.port p).windowLength := port_windowLength_eq (unreported_raiseIf c n s)
@[simp] theorem port_windowLength_count (c q n : Nat) (s : State) {p : Port} : ((count c q n s).port p).windowLength = (s.port p).windowLength := port_windowLength_eq (unreported_count c q n s)
@[simp] theorem port_windowLength_count1 (c q : Nat) (s : State) {p : Port} : ((count1 c q s).port p).windowLength = (s.port p).windowLength := port_windowLength_eq (unreported_count1 c q s)
@[simp] theorem port_windowLength_setRegionState (r v : Nat) (s : State) {p : Port} : ((setRegionState r v s).port p).windowLength = (s.port p).windowLength := port_windowLength_eq (unreported_setRegionState r v s)
@[simp] theorem port_windowLength_takeStamp (s : State) {p : Port} : ((takeStamp s).port p).windowLength = (s.port p).windowLength := port_windowLength_eq (unreported_takeStamp s)

theorem mgmt_sessions_eq {s t : State} (h : unreported t = unreported s) : t.mgmt.sessions = s.mgmt.sessions := (congrArg (fun x => x.mgmt.sessions) h :)
@[simp] theorem mgmt_sessions_raise (n : Nat) (s : State) : (raise n s).mgmt.sessions = s.mgmt.sessions := mgmt_sessions_eq (unreported_raise n s)
@[simp] theorem mgmt_sessions_raiseIf (c : Bool) (n : Nat) (s : State) : (raiseIf c n s).mgmt.sessions = s.mgmt.sessions := mgmt_sessions_eq (unreported_raiseIf c n s)
@[simp] theorem mgmt_sessions_count (c q n : Nat) (s : State) : (count c q n s).mgmt.sessions = s.mgmt.sessions := mgmt_sessions_eq (unreported_count c q n s)
@[simp] theorem mgmt_sessions_count1 (c q : Nat) (s : State) : (count1 c q s).mgmt.sessions = s.mgmt.sessions := mgmt_sessions_eq (unreported_count1 c q s)
@[simp] theorem mgmt_sessions_setRegionState (r v : Nat) (s : State) : (setRegionState r v s).mgmt.sessions = s.mgmt.sessions := mgmt_sessions_eq (unreported_setRegionState r v s)
@[simp] theorem mgmt_sessions_takeStamp (s : State) : (takeStamp s).mgmt.sessions = s.mgmt.sessions := mgmt_sessions_eq (unreported_takeStamp s)

theorem mgmt_reservations_eq {s t : State} (h : unreported t = unreported s) : t.mgmt.reservations = s.mgmt.reservations := (congrArg (fun x => x.mgmt.reservations) h :)
@[simp] theorem mgmt_reservations_raise (n : Nat) (s : State) : (raise n s).mgmt.reservations = s.mgmt.reservations := mgmt_reservations_eq (unreported_raise n s)
@[simp] theorem mgmt_reservations_raiseIf (c : Bool) (n : Nat) (s : State) : (raiseIf c n s).mgmt.reservations = s.mgmt.reservations := mgmt_reservations_eq (unreported_raiseIf c n s)
@[simp] theorem mgmt_reservations_count (c q n : Nat) (s : State) : (count c q n s).mgmt.reservations = s.mgmt.reservations := mgmt_reservations_eq (unreported_count c q n s)
@[simp] theorem mgmt_reservations_count1 (c q : Nat) (s : State) : (count1 c q s).mgmt.reservations = s.mgmt.reservations := mgmt_reservations_eq (unreported_count1 c q s)
@[simp] theorem mgmt_reservations_setRegionState (r v : Nat) (s : State) : (setRegionState r v s).mgmt.reservations = s.mgmt.reservations := mgmt_reservations_eq (unreported_setRegionState r v s)
@[simp] theorem mgmt_reservations_takeStamp (s : State) : (takeStamp s).mgmt.reservations = s.mgmt.reservations := mgmt_reservations_eq (unreported_takeStamp s)

theorem mgmt_blockWrites_eq {s t : State} (h : unreported t = unreported s) : t.mgmt.blockWrites = s.mgmt.blockWrites := (congrArg (fun x => x.mgmt.blockWrites) h :)
@[simp] theorem mgmt_blockWrites_raise (n : Nat) (s : State) : (raise n s).mgmt.blockWrites = s.mgmt.blockWrites := mgmt_blockWrites_eq (unreported_raise n s)
@[simp] theorem mgmt_blockWrites_raiseIf (c : Bool) (n : Nat) (s : State) : (raiseIf c n s).mgmt.blockWrites = s.mgmt.blockWrites := mgmt_blockWrites_eq (unreported_raiseIf c n s)
@[simp] theorem mgmt_blockWrites_count (c q n : Nat) (s : State) : (count c q n s).mgmt.blockWrites = s.mgmt.blockWrites := mgmt_blockWrites_eq (unreported_count c q n s)
@[simp] theorem mgmt_blockWrites_count1 (c q : Nat) (s : State) : (count1 c q s).mgmt.blockWrites = s.mgmt.blockWrites := mgmt_blockWrites_eq (unreported_count1 c q s)
@[simp] theorem mgmt_blockWrites_setRegionState (r v : Nat) (s : State) : (setRegionState r v s).mgmt.blockWrites = s.mgmt.blockWrites := mgmt_blockWrites_eq (unreported_setRegionState r v s)
@[simp] theorem mgmt_blockWrites_takeStamp (s : State) : (takeStamp s).mgmt.blockWrites = s.mgmt.blockWrites := mgmt_blockWrites_eq (unreported_takeStamp s)

theorem mgmt_nextSession_eq {s t : State} (h : unreported t = unreported s) : t.mgmt.nextSession = s.mgmt.nextSession := (congrArg (fun x => x.mgmt.nextSession) h :)
@[simp] theorem mgmt_nextSession_raise (n : Nat) (s : State) : (raise n s).mgmt.nextSession = s.mgmt.nextSession := mgmt_nextSession_eq (unreported_raise n s)
@[simp] theorem mgmt_nextSession_raiseIf (c : Bool) (n : Nat) (s : State) : (raiseIf c n s).mgmt.nextSession = s.mgmt.nextSession := mgmt_nextSession_eq (unreported_raiseIf c n s)
@[simp] theorem mgmt_nextSession_count (c q n : Nat) (s : State) : (count c q n s).mgmt.nextSession = s.mgmt.nextSession := mgmt_nextSession_eq (unreported_count c q n s)
@[simp] theorem mgmt_nextSession_count1 (c q : Nat) (s : State) : (count1 c q s).mgmt.nextSession = s.mgmt.nextSession := mgmt_nextSession_eq (unreported_count1 c q s)
@[simp] theorem mgmt_nextSession_setRegionState (r v : Nat) (s : State) : (setRegionState r v s).mgmt.nextSession = s.mgmt.nextSession := mgmt_nextSession_eq (unreported_setRegionState r v s)
@[simp] theorem mgmt_nextSession_takeStamp (s : State) : (takeStamp s).mgmt.nextSession = s.mgmt.nextSession := mgmt_nextSession_eq (unreported_takeStamp s)

theorem mgmt_failures_eq {s t : State} (h : unreported t = unreported s) : t.mgmt.failures = s.mgmt.failures := (congrArg (fun x => x.mgmt.failures) h :)
@[simp] theorem mgmt_failures_raise (n : Nat) (s : State) : (raise n s).mgmt.failures = s.mgmt.failures := mgmt_failures_eq (unreported_raise n s)
@[simp] theorem mgmt_failures_raiseIf (c : Bool) (n : Nat) (s : State) : (raiseIf c n s).mgmt.failures = s.mgmt.failures := mgmt_failures_eq (unreported_raiseIf c n s)
@[simp] theorem mgmt_failures_count (c q n : Nat) (s : State) : (count c q n s).mgmt.failures = s.mgmt.failures := mgmt_failures_eq (unreported_count c q n s)
@[simp] theorem mgmt_failures_count1 (c q : Nat) (s : State) : (count1 c q s).mgmt.failures = s.mgmt.failures := mgmt_failures_eq (unreported_count1 c q s)
@[simp] theorem mgmt_failures_setRegionState (r v : Nat) (s : State) : (setRegionState r v s).mgmt.failures = s.mgmt.failures := mgmt_failures_eq (unreported_setRegionState r v s)
@[simp] theorem mgmt_failures_takeStamp (s : State) : (takeStamp s).mgmt.failures = s.mgmt.failures := mgmt_failures_eq (unreported_takeStamp s)

theorem mgmt_holds_eq {s t : State} (h : unreported t = unreported s) : t.mgmt.holds = s.mgmt.holds := (congrArg (fun x => x.mgmt.holds) h :)
@[simp] theorem mgmt_holds_raise (n : Nat) (s : State) : (raise n s).mgmt.holds = s.mgmt.holds := mgmt_holds_eq (unreported_raise n s)
@[simp] theorem mgmt_holds_raiseIf (c : Bool) (n : Nat) (s : State) : (raiseIf c n s).mgmt.holds = s.mgmt.holds := mgmt_holds_eq (unreported_raiseIf c n s)
@[simp] theorem mgmt_holds_count (c q n : Nat) (s : State) : (count c q n s).mgmt.holds = s.mgmt.holds := mgmt_holds_eq (unreported_count c q n s)
@[simp] theorem mgmt_holds_count1 (c q : Nat) (s : State) : (count1 c q s).mgmt.holds = s.mgmt.holds := mgmt_holds_eq (unreported_count1 c q s)
@[simp] theorem mgmt_holds_setRegionState (r v : Nat) (s : State) : (setRegionState r v s).mgmt.holds = s.mgmt.holds := mgmt_holds_eq (unreported_setRegionState r v s)
@[simp] theorem mgmt_holds_takeStamp (s : State) : (takeStamp s).mgmt.holds = s.mgmt.holds := mgmt_holds_eq (unreported_takeStamp s)

theorem mgmt_levelKeys_eq {s t : State} (h : unreported t = unreported s) : t.mgmt.levelKeys = s.mgmt.levelKeys := (congrArg (fun x => x.mgmt.levelKeys) h :)
@[simp] theorem mgmt_levelKeys_raise (n : Nat) (s : State) : (raise n s).mgmt.levelKeys = s.mgmt.levelKeys := mgmt_levelKeys_eq (unreported_raise n s)
@[simp] theorem mgmt_levelKeys_raiseIf (c : Bool) (n : Nat) (s : State) : (raiseIf c n s).mgmt.levelKeys = s.mgmt.levelKeys := mgmt_levelKeys_eq (unreported_raiseIf c n s)
@[simp] theorem mgmt_levelKeys_count (c q n : Nat) (s : State) : (count c q n s).mgmt.levelKeys = s.mgmt.levelKeys := mgmt_levelKeys_eq (unreported_count c q n s)
@[simp] theorem mgmt_levelKeys_count1 (c q : Nat) (s : State) : (count1 c q s).mgmt.levelKeys = s.mgmt.levelKeys := mgmt_levelKeys_eq (unreported_count1 c q s)
@[simp] theorem mgmt_levelKeys_setRegionState (r v : Nat) (s : State) : (setRegionState r v s).mgmt.levelKeys = s.mgmt.levelKeys := mgmt_levelKeys_eq (unreported_setRegionState r v s)
@[simp] theorem mgmt_levelKeys_takeStamp (s : State) : (takeStamp s).mgmt.levelKeys = s.mgmt.levelKeys := mgmt_levelKeys_eq (unreported_takeStamp s)

theorem mgmt_deferred_eq {s t : State} (h : unreported t = unreported s) : t.mgmt.deferred = s.mgmt.deferred := (congrArg (fun x => x.mgmt.deferred) h :)
@[simp] theorem mgmt_deferred_raise (n : Nat) (s : State) : (raise n s).mgmt.deferred = s.mgmt.deferred := mgmt_deferred_eq (unreported_raise n s)
@[simp] theorem mgmt_deferred_raiseIf (c : Bool) (n : Nat) (s : State) : (raiseIf c n s).mgmt.deferred = s.mgmt.deferred := mgmt_deferred_eq (unreported_raiseIf c n s)
@[simp] theorem mgmt_deferred_count (c q n : Nat) (s : State) : (count c q n s).mgmt.deferred = s.mgmt.deferred := mgmt_deferred_eq (unreported_count c q n s)
@[simp] theorem mgmt_deferred_count1 (c q : Nat) (s : State) : (count1 c q s).mgmt.deferred = s.mgmt.deferred := mgmt_deferred_eq (unreported_count1 c q s)
@[simp] theorem mgmt_deferred_setRegionState (r v : Nat) (s : State) : (setRegionState r v s).mgmt.deferred = s.mgmt.deferred := mgmt_deferred_eq (unreported_setRegionState r v s)
@[simp] theorem mgmt_deferred_takeStamp (s : State) : (takeStamp s).mgmt.deferred = s.mgmt.deferred := mgmt_deferred_eq (unreported_takeStamp s)

theorem mgmt_changes_eq {s t : State} (h : unreported t = unreported s) : t.mgmt.changes = s.mgmt.changes := (congrArg (fun x => x.mgmt.changes) h :)
@[simp] theorem mgmt_changes_raise (n : Nat) (s : State) : (raise n s).mgmt.changes = s.mgmt.changes := mgmt_changes_eq (unreported_raise n s)
@[simp] theorem mgmt_changes_raiseIf (c : Bool) (n : Nat) (s : State) : (raiseIf c n s).mgmt.changes = s.mgmt.changes := mgmt_changes_eq (unreported_raiseIf c n s)
@[simp] theorem mgmt_changes_count (c q n : Nat) (s : State) : (count c q n s).mgmt.changes = s.mgmt.changes := mgmt_changes_eq (unreported_count c q n s)
@[simp] theorem mgmt_changes_count1 (c q : Nat) (s : State) : (count1 c q s).mgmt.changes = s.mgmt.changes := mgmt_changes_eq (unreported_count1 c q s)
@[simp] theorem mgmt_changes_setRegionState (r v : Nat) (s : State) : (setRegionState r v s).mgmt.changes = s.mgmt.changes := mgmt_changes_eq (unreported_setRegionState r v s)
@[simp] theorem mgmt_changes_takeStamp (s : State) : (takeStamp s).mgmt.changes = s.mgmt.changes := mgmt_changes_eq (unreported_takeStamp s)

theorem mgmt_received_eq {s t : State} (h : unreported t = unreported s) : t.mgmt.received = s.mgmt.received := (congrArg (fun x => x.mgmt.received) h :)
@[simp] theorem mgmt_received_raise (n : Nat) (s : State) : (raise n s).mgmt.received = s.mgmt.received := mgmt_received_eq (unreported_raise n s)
@[simp] theorem mgmt_received_raiseIf (c : Bool) (n : Nat) (s : State) : (raiseIf c n s).mgmt.received = s.mgmt.received := mgmt_received_eq (unreported_raiseIf c n s)
@[simp] theorem mgmt_received_count (c q n : Nat) (s : State) : (count c q n s).mgmt.received = s.mgmt.received := mgmt_received_eq (unreported_count c q n s)
@[simp] theorem mgmt_received_count1 (c q : Nat) (s : State) : (count1 c q s).mgmt.received = s.mgmt.received := mgmt_received_eq (unreported_count1 c q s)
@[simp] theorem mgmt_received_setRegionState (r v : Nat) (s : State) : (setRegionState r v s).mgmt.received = s.mgmt.received := mgmt_received_eq (unreported_setRegionState r v s)
@[simp] theorem mgmt_received_takeStamp (s : State) : (takeStamp s).mgmt.received = s.mgmt.received := mgmt_received_eq (unreported_takeStamp s)

theorem mgmt_bucket_eq {s t : State} (h : unreported t = unreported s) : t.mgmt.bucket = s.mgmt.bucket := (congrArg (fun x => x.mgmt.bucket) h :)
@[simp] theorem mgmt_bucket_raise (n : Nat) (s : State) : (raise n s).mgmt.bucket = s.mgmt.bucket := mgmt_bucket_eq (unreported_raise n s)
@[simp] theorem mgmt_bucket_raiseIf (c : Bool) (n : Nat) (s : State) : (raiseIf c n s).mgmt.bucket = s.mgmt.bucket := mgmt_bucket_eq (unreported_raiseIf c n s)
@[simp] theorem mgmt_bucket_count (c q n : Nat) (s : State) : (count c q n s).mgmt.bucket = s.mgmt.bucket := mgmt_bucket_eq (unreported_count c q n s)
@[simp] theorem mgmt_bucket_count1 (c q : Nat) (s : State) : (count1 c q s).mgmt.bucket = s.mgmt.bucket := mgmt_bucket_eq (unreported_count1 c q s)
@[simp] theorem mgmt_bucket_setRegionState (r v : Nat) (s : State) : (setRegionState r v s).mgmt.bucket = s.mgmt.bucket := mgmt_bucket_eq (unreported_setRegionState r v s)
@[simp] theorem mgmt_bucket_takeStamp (s : State) : (takeStamp s).mgmt.bucket = s.mgmt.bucket := mgmt_bucket_eq (unreported_takeStamp s)

theorem mgmt_busyBucket_eq {s t : State} (h : unreported t = unreported s) : t.mgmt.busyBucket = s.mgmt.busyBucket := (congrArg (fun x => x.mgmt.busyBucket) h :)
@[simp] theorem mgmt_busyBucket_raise (n : Nat) (s : State) : (raise n s).mgmt.busyBucket = s.mgmt.busyBucket := mgmt_busyBucket_eq (unreported_raise n s)
@[simp] theorem mgmt_busyBucket_raiseIf (c : Bool) (n : Nat) (s : State) : (raiseIf c n s).mgmt.busyBucket = s.mgmt.busyBucket := mgmt_busyBucket_eq (unreported_raiseIf c n s)
@[simp] theorem mgmt_busyBucket_count (c q n : Nat) (s : State) : (count c q n s).mgmt.busyBucket = s.mgmt.busyBucket := mgmt_busyBucket_eq (unreported_count c q n s)
@[simp] theorem mgmt_busyBucket_count1 (c q : Nat) (s : State) : (count1 c q s).mgmt.busyBucket = s.mgmt.busyBucket := mgmt_busyBucket_eq (unreported_count1 c q s)
@[simp] theorem mgmt_busyBucket_setRegionState (r v : Nat) (s : State) : (setRegionState r v s).mgmt.busyBucket = s.mgmt.busyBucket := mgmt_busyBucket_eq (unreported_setRegionState r v s)
@[simp] theorem mgmt_busyBucket_takeStamp (s : State) : (takeStamp s).mgmt.busyBucket = s.mgmt.busyBucket := mgmt_busyBucket_eq (unreported_takeStamp s)

theorem mgmt_yieldCycles_eq {s t : State} (h : unreported t = unreported s) : t.mgmt.yieldCycles = s.mgmt.yieldCycles := (congrArg (fun x => x.mgmt.yieldCycles) h :)
@[simp] theorem mgmt_yieldCycles_raise (n : Nat) (s : State) : (raise n s).mgmt.yieldCycles = s.mgmt.yieldCycles := mgmt_yieldCycles_eq (unreported_raise n s)
@[simp] theorem mgmt_yieldCycles_raiseIf (c : Bool) (n : Nat) (s : State) : (raiseIf c n s).mgmt.yieldCycles = s.mgmt.yieldCycles := mgmt_yieldCycles_eq (unreported_raiseIf c n s)
@[simp] theorem mgmt_yieldCycles_count (c q n : Nat) (s : State) : (count c q n s).mgmt.yieldCycles = s.mgmt.yieldCycles := mgmt_yieldCycles_eq (unreported_count c q n s)
@[simp] theorem mgmt_yieldCycles_count1 (c q : Nat) (s : State) : (count1 c q s).mgmt.yieldCycles = s.mgmt.yieldCycles := mgmt_yieldCycles_eq (unreported_count1 c q s)
@[simp] theorem mgmt_yieldCycles_setRegionState (r v : Nat) (s : State) : (setRegionState r v s).mgmt.yieldCycles = s.mgmt.yieldCycles := mgmt_yieldCycles_eq (unreported_setRegionState r v s)
@[simp] theorem mgmt_yieldCycles_takeStamp (s : State) : (takeStamp s).mgmt.yieldCycles = s.mgmt.yieldCycles := mgmt_yieldCycles_eq (unreported_takeStamp s)

theorem mgmt_beaconLost_eq {s t : State} (h : unreported t = unreported s) : t.mgmt.beaconLost = s.mgmt.beaconLost := (congrArg (fun x => x.mgmt.beaconLost) h :)
@[simp] theorem mgmt_beaconLost_raise (n : Nat) (s : State) : (raise n s).mgmt.beaconLost = s.mgmt.beaconLost := mgmt_beaconLost_eq (unreported_raise n s)
@[simp] theorem mgmt_beaconLost_raiseIf (c : Bool) (n : Nat) (s : State) : (raiseIf c n s).mgmt.beaconLost = s.mgmt.beaconLost := mgmt_beaconLost_eq (unreported_raiseIf c n s)
@[simp] theorem mgmt_beaconLost_count (c q n : Nat) (s : State) : (count c q n s).mgmt.beaconLost = s.mgmt.beaconLost := mgmt_beaconLost_eq (unreported_count c q n s)
@[simp] theorem mgmt_beaconLost_count1 (c q : Nat) (s : State) : (count1 c q s).mgmt.beaconLost = s.mgmt.beaconLost := mgmt_beaconLost_eq (unreported_count1 c q s)
@[simp] theorem mgmt_beaconLost_setRegionState (r v : Nat) (s : State) : (setRegionState r v s).mgmt.beaconLost = s.mgmt.beaconLost := mgmt_beaconLost_eq (unreported_setRegionState r v s)
@[simp] theorem mgmt_beaconLost_takeStamp (s : State) : (takeStamp s).mgmt.beaconLost = s.mgmt.beaconLost := mgmt_beaconLost_eq (unreported_takeStamp s)

theorem mgmt_actionStatus_eq {s t : State} (h : unreported t = unreported s) : t.mgmt.actionStatus = s.mgmt.actionStatus := (congrArg (fun x => x.mgmt.actionStatus) h :)
@[simp] theorem mgmt_actionStatus_raise (n : Nat) (s : State) : (raise n s).mgmt.actionStatus = s.mgmt.actionStatus := mgmt_actionStatus_eq (unreported_raise n s)
@[simp] theorem mgmt_actionStatus_raiseIf (c : Bool) (n : Nat) (s : State) : (raiseIf c n s).mgmt.actionStatus = s.mgmt.actionStatus := mgmt_actionStatus_eq (unreported_raiseIf c n s)
@[simp] theorem mgmt_actionStatus_count (c q n : Nat) (s : State) : (count c q n s).mgmt.actionStatus = s.mgmt.actionStatus := mgmt_actionStatus_eq (unreported_count c q n s)
@[simp] theorem mgmt_actionStatus_count1 (c q : Nat) (s : State) : (count1 c q s).mgmt.actionStatus = s.mgmt.actionStatus := mgmt_actionStatus_eq (unreported_count1 c q s)
@[simp] theorem mgmt_actionStatus_setRegionState (r v : Nat) (s : State) : (setRegionState r v s).mgmt.actionStatus = s.mgmt.actionStatus := mgmt_actionStatus_eq (unreported_setRegionState r v s)
@[simp] theorem mgmt_actionStatus_takeStamp (s : State) : (takeStamp s).mgmt.actionStatus = s.mgmt.actionStatus := mgmt_actionStatus_eq (unreported_takeStamp s)

theorem obs_samples_eq {s t : State} (h : unreported t = unreported s) : t.obs.samples = s.obs.samples := (congrArg (fun x => x.obs.samples) h :)
@[simp] theorem obs_samples_raise (n : Nat) (s : State) : (raise n s).obs.samples = s.obs.samples := obs_samples_eq (unreported_raise n s)
@[simp] theorem obs_samples_raiseIf (c : Bool) (n : Nat) (s : State) : (raiseIf c n s).obs.samples = s.obs.samples := obs_samples_eq (unreported_raiseIf c n s)
@[simp] theorem obs_samples_count (c q n : Nat) (s : State) : (count c q n s).obs.samples = s.obs.samples := obs_samples_eq (unreported_count c q n s)
@[simp] theorem obs_samples_count1 (c q : Nat) (s : State) : (count1 c q s).obs.samples = s.obs.samples := obs_samples_eq (unreported_count1 c q s)
@[simp] theorem obs_samples_setRegionState (r v : Nat) (s : State) : (setRegionState r v s).obs.samples = s.obs.samples := obs_samples_eq (unreported_setRegionState r v s)
@[simp] theorem obs_samples_takeStamp (s : State) : (takeStamp s).obs.samples = s.obs.samples := obs_samples_eq (unreported_takeStamp s)

theorem obs_thresholdRaised_eq {s t : State} (h : unreported t = unreported s) : t.obs.thresholdRaised = s.obs.thresholdRaised := (congrArg (fun x => x.obs.thresholdRaised) h :)
@[simp] theorem obs_thresholdRaised_raise (n : Nat) (s : State) : (raise n s).obs.thresholdRaised = s.obs.thresholdRaised := obs_thresholdRaised_eq (unreported_raise n s)
@[simp] theorem obs_thresholdRaised_raiseIf (c : Bool) (n : Nat) (s : State) : (raiseIf c n s).obs.thresholdRaised = s.obs.thresholdRaised := obs_thresholdRaised_eq (unreported_raiseIf c n s)
@[simp] theorem obs_thresholdRaised_count (c q n : Nat) (s : State) : (count c q n s).obs.thresholdRaised = s.obs.thresholdRaised := obs_thresholdRaised_eq (unreported_count c q n s)
@[simp] theorem obs_thresholdRaised_count1 (c q : Nat) (s : State) : (count1 c q s).obs.thresholdRaised = s.obs.thresholdRaised := obs_thresholdRaised_eq (unreported_count1 c q s)
@[simp] theorem obs_thresholdRaised_setRegionState (r v : Nat) (s : State) : (setRegionState r v s).obs.thresholdRaised = s.obs.thresholdRaised := obs_thresholdRaised_eq (unreported_setRegionState r v s)
@[simp] theorem obs_thresholdRaised_takeStamp (s : State) : (takeStamp s).obs.thresholdRaised = s.obs.thresholdRaised := obs_thresholdRaised_eq (unreported_takeStamp s)

theorem obs_deadlineReports_eq {s t : State} (h : unreported t = unreported s) : t.obs.deadlineReports = s.obs.deadlineReports := (congrArg (fun x => x.obs.deadlineReports) h :)
@[simp] theorem obs_deadlineReports_raise (n : Nat) (s : State) : (raise n s).obs.deadlineReports = s.obs.deadlineReports := obs_deadlineReports_eq (unreported_raise n s)
@[simp] theorem obs_deadlineReports_raiseIf (c : Bool) (n : Nat) (s : State) : (raiseIf c n s).obs.deadlineReports = s.obs.deadlineReports := obs_deadlineReports_eq (unreported_raiseIf c n s)
@[simp] theorem obs_deadlineReports_count (c q n : Nat) (s : State) : (count c q n s).obs.deadlineReports = s.obs.deadlineReports := obs_deadlineReports_eq (unreported_count c q n s)
@[simp] theorem obs_deadlineReports_count1 (c q : Nat) (s : State) : (count1 c q s).obs.deadlineReports = s.obs.deadlineReports := obs_deadlineReports_eq (unreported_count1 c q s)
@[simp] theorem obs_deadlineReports_setRegionState (r v : Nat) (s : State) : (setRegionState r v s).obs.deadlineReports = s.obs.deadlineReports := obs_deadlineReports_eq (unreported_setRegionState r v s)
@[simp] theorem obs_deadlineReports_takeStamp (s : State) : (takeStamp s).obs.deadlineReports = s.obs.deadlineReports := obs_deadlineReports_eq (unreported_takeStamp s)

theorem obs_dma_eq {s t : State} (h : unreported t = unreported s) : t.obs.dma = s.obs.dma := (congrArg (fun x => x.obs.dma) h :)
@[simp] theorem obs_dma_raise (n : Nat) (s : State) : (raise n s).obs.dma = s.obs.dma := obs_dma_eq (unreported_raise n s)
@[simp] theorem obs_dma_raiseIf (c : Bool) (n : Nat) (s : State) : (raiseIf c n s).obs.dma = s.obs.dma := obs_dma_eq (unreported_raiseIf c n s)
@[simp] theorem obs_dma_count (c q n : Nat) (s : State) : (count c q n s).obs.dma = s.obs.dma := obs_dma_eq (unreported_count c q n s)
@[simp] theorem obs_dma_count1 (c q : Nat) (s : State) : (count1 c q s).obs.dma = s.obs.dma := obs_dma_eq (unreported_count1 c q s)
@[simp] theorem obs_dma_setRegionState (r v : Nat) (s : State) : (setRegionState r v s).obs.dma = s.obs.dma := obs_dma_eq (unreported_setRegionState r v s)
@[simp] theorem obs_dma_takeStamp (s : State) : (takeStamp s).obs.dma = s.obs.dma := obs_dma_eq (unreported_takeStamp s)

end Sys2Proof.Machine
end

