-- ==== Sys2Proof/Laws/Meanings.lean ====
section
/-! SUPPORT. The same of the meanings, one lemma for each: a next state that a command answers evolves from the state before it. -/

namespace Sys2Proof.Machine

set_option linter.unusedSimpArgs false
set_option linter.unusedTactic false
set_option linter.unreachableTactic false

/-- Where the outcome is a next state, `P` holds of it. -/
def NextIs (P : State → Prop) : Host.Outcome State Fault Refusal → Prop
  | .next t => P t
  | _ => True

theorem nextIs_next (P : State → Prop) (t : State) : NextIs P (.next t) = P t := rfl
theorem nextIs_ite (P : State → Prop) (c : Prop) [Decidable c] (a b : Host.Outcome State Fault Refusal) :
    NextIs P (if c then a else b) = if c then NextIs P a else NextIs P b := by split <;> rfl
theorem nextIs_fault (P : State → Prop) (f : Fault) : NextIs P (.fault f) = True := rfl

theorem ev_execFoldStart {r₀ s : State} (hs : Evolves r₀ s) : NextIs (Evolves r₀) (execFoldStart s) := by
  unfold execFoldStart
  simp (maxDischargeDepth := 40) +contextual only [hs, ev_mk, ev_fold, ev_ite, ite_self, implies_true, nextIs_next, nextIs_ite, nextIs_fault]

theorem ev_execFoldStop {r₀ s : State} (hs : Evolves r₀ s) : NextIs (Evolves r₀) (execFoldStop s) := by
  unfold execFoldStop
  simp (maxDischargeDepth := 40) +contextual only [hs, ev_mk, ev_fold, ev_ite, ite_self, implies_true, nextIs_next, nextIs_ite, nextIs_fault]

theorem ev_execFoldStripePageDispatch {r₀ s : State} (hs : Evolves r₀ s) : NextIs (Evolves r₀) (execFoldStripePageDispatch s) := by
  unfold execFoldStripePageDispatch
  simp (maxDischargeDepth := 40) +contextual only [hs, ev_mk, ev_fold, ev_ite, ite_self, implies_true, nextIs_next, nextIs_ite, nextIs_fault,
        ev_dispatchFold]

theorem ev_execFoldMapSet (id : Nat) {r₀ s : State} (hs : Evolves r₀ s) : NextIs (Evolves r₀) (execFoldMapSet id s) := by
  unfold execFoldMapSet
  (try simp (maxDischargeDepth := 40) +contextual only [hs, ev_mk, ev_fold, ev_ite, ite_self, implies_true, nextIs_next, nextIs_ite,
        nextIs_fault, ev_addTo, ev_applyPage, ev_count])
  repeat' split
  all_goals first
    | (with_reducible exact hs)
    | (simp (maxDischargeDepth := 40) +contextual only [hs, ev_mk, ev_fold, ev_ite, ite_self, implies_true, nextIs_next, nextIs_ite, nextIs_fault,
        ev_addTo, ev_applyPage, ev_count]; done)

theorem ev_execSegmentFold (segment : Nat) {r₀ s : State} (hs : Evolves r₀ s) : NextIs (Evolves r₀) (execSegmentFold segment s) := by
  unfold execSegmentFold
  simp (maxDischargeDepth := 40) +contextual only [hs, ev_mk, ev_fold, ev_ite, ite_self, implies_true, nextIs_next, nextIs_ite, nextIs_fault,
        ev_startRebuild, ev_writeMoves]

theorem ev_execLogTrim {r₀ s : State} (hs : Evolves r₀ s) : NextIs (Evolves r₀) (execLogTrim s) := by
  unfold execLogTrim
  simp (maxDischargeDepth := 40) +contextual only [hs, ev_mk, ev_fold, ev_ite, ite_self, implies_true, nextIs_next, nextIs_ite, nextIs_fault,
        ev_checkLogFull, ev_journalPut, ev_programTail]

theorem ev_execLogRelocation (line : Nat) {r₀ s : State} (hs : Evolves r₀ s) : NextIs (Evolves r₀) (execLogRelocation line s) := by
  unfold execLogRelocation
  (try simp (maxDischargeDepth := 40) +contextual only [hs, ev_mk, ev_fold, ev_ite, ite_self, implies_true, nextIs_next, nextIs_ite,
        nextIs_fault])
  repeat' split
  all_goals first
    | (with_reducible exact hs)
    | (simp (maxDischargeDepth := 40) +contextual only [hs, ev_mk, ev_fold, ev_ite, ite_self, implies_true, nextIs_next, nextIs_ite,
        nextIs_fault]; done)

theorem ev_execCollection {r₀ s : State} (hs : Evolves r₀ s) : NextIs (Evolves r₀) (execCollection s) := by
  unfold execCollection
  (try simp (maxDischargeDepth := 40) +contextual only [hs, ev_mk, ev_fold, ev_ite, ite_self, implies_true, nextIs_next, nextIs_ite,
        nextIs_fault, ev_collect, ev_rebuildStep, ev_relieveRing])
  repeat' split
  all_goals first
    | (with_reducible exact hs)
    | (simp (maxDischargeDepth := 40) +contextual only [hs, ev_mk, ev_fold, ev_ite, ite_self, implies_true, nextIs_next, nextIs_ite, nextIs_fault,
        ev_collect, ev_rebuildStep, ev_relieveRing]; done)

theorem ev_execCollectionCritical {r₀ s : State} (hs : Evolves r₀ s) : NextIs (Evolves r₀) (execCollectionCritical s) := by
  unfold execCollectionCritical
  simp (maxDischargeDepth := 40) +contextual only [hs, ev_mk, ev_fold, ev_ite, ite_self, implies_true, nextIs_next, nextIs_ite, nextIs_fault,
        ev_noteHealth, ev_raise]

theorem ev_execDestinationProgramFailure (stripe : Fin 65536) (channel : Fin 16) {r₀ s : State} (hs : Evolves r₀ s) : NextIs (Evolves r₀)
        (execDestinationProgramFailure stripe channel s) := by
  unfold execDestinationProgramFailure
  simp (maxDischargeDepth := 40) +contextual only [hs, ev_mk, ev_fold, ev_ite, ite_self, implies_true, nextIs_next, nextIs_ite, nextIs_fault,
        ev_bump, ev_lastingFault, ev_raise, ev_redirect, ev_setStripe, ev_writeMoves, ev_foldl]

theorem ev_execSourceSectorFailure (unit page sector : Nat) (recovered : Bool) {r₀ s : State} (hs : Evolves r₀ s) : NextIs (Evolves r₀)
        (execSourceSectorFailure unit page sector recovered s) := by
  unfold execSourceSectorFailure
  simp (maxDischargeDepth := 40) +contextual only [hs, ev_mk, ev_fold, ev_ite, ite_self, implies_true, nextIs_next, nextIs_ite, nextIs_fault,
        ev_recoverSector]

theorem ev_execWearLevellingMove {r₀ s : State} (hs : Evolves r₀ s) : NextIs (Evolves r₀) (execWearLevellingMove s) := by
  unfold execWearLevellingMove
  (try simp (maxDischargeDepth := 40) +contextual only [hs, ev_mk, ev_fold, ev_ite, ite_self, implies_true, nextIs_next, nextIs_ite,
        nextIs_fault, ev_bump, ev_collect, ev_wornDest])
  repeat' split
  all_goals first
    | (with_reducible exact hs)
    | (simp (maxDischargeDepth := 40) +contextual only [hs, ev_mk, ev_fold, ev_ite, ite_self, implies_true, nextIs_next, nextIs_ite, nextIs_fault,
        ev_bump, ev_collect, ev_wornDest]; done)

theorem ev_execRoleRotation (ring : Ring) (index : Nat) {r₀ s : State} (hs : Evolves r₀ s) : NextIs (Evolves r₀) (execRoleRotation ring
        index s) := by
  unfold execRoleRotation
  (try simp (maxDischargeDepth := 40) +contextual only [hs, ev_mk, ev_fold, ev_ite, ite_self, implies_true, nextIs_next, nextIs_ite,
        nextIs_fault, ev_bump, ev_moveRing, ev_raise])
  repeat' split
  all_goals first
    | (with_reducible exact hs)
    | (simp (maxDischargeDepth := 40) +contextual only [hs, ev_mk, ev_fold, ev_ite, ite_self, implies_true, nextIs_next, nextIs_ite, nextIs_fault,
        ev_bump, ev_moveRing, ev_raise]; done)

theorem ev_execHourlyTrickle {r₀ s : State} (hs : Evolves r₀ s) : NextIs (Evolves r₀) (execHourlyTrickle s) := by
  unfold execHourlyTrickle
  simp (maxDischargeDepth := 40) +contextual only [hs, ev_mk, ev_fold, ev_ite, ite_self, implies_true, nextIs_next, nextIs_ite, nextIs_fault,
        ev_saveCounts]

theorem ev_execFullLineWrite (p : Port) (tag line : Nat) (data : Line) {r₀ s : State} (hs : Evolves r₀ s) : NextIs (Evolves r₀)
        (execFullLineWrite p tag line data s) := by
  unfold execFullLineWrite
  simp (maxDischargeDepth := 40) +contextual only [hs, ev_mk, ev_fold, ev_ite, ite_self, implies_true, nextIs_next, nextIs_ite, nextIs_fault,
        ev_acceptWhole, ev_windowWrite]

theorem ev_execPartialWrite (p : Port) (tag line : Nat) (be : ByteEnables) (data : Line) {r₀ s : State} (hs : Evolves r₀ s) : NextIs
        (Evolves r₀) (execPartialWrite p tag line be data s) := by
  unfold execPartialWrite
  simp (maxDischargeDepth := 40) +contextual only [hs, ev_mk, ev_fold, ev_ite, ite_self, implies_true, nextIs_next, nextIs_ite, nextIs_fault,
        ev_acceptPartial, ev_acceptWhole, ev_windowWrite]

theorem ev_execPoisonedWrite (p : Port) (tag line : Nat) {r₀ s : State} (hs : Evolves r₀ s) : NextIs (Evolves r₀) (execPoisonedWrite p tag
        line s) := by
  unfold execPoisonedWrite
  simp (maxDischargeDepth := 40) +contextual only [hs, ev_mk, ev_fold, ev_ite, ite_self, implies_true, nextIs_next, nextIs_ite, nextIs_fault,
        ev_acceptWhole, ev_windowWrite]

theorem ev_execMergePlacement (p : Port) (tag : Nat) {r₀ s : State} (hs : Evolves r₀ s) : NextIs (Evolves r₀) (execMergePlacement p tag s)
        := by
  unfold execMergePlacement
  (try simp (maxDischargeDepth := 40) +contextual only [hs, ev_mk, ev_fold, ev_ite, ite_self, implies_true, nextIs_next, nextIs_ite,
        nextIs_fault, ev_goOn, ev_mergeWaits, ev_transfer])
  repeat' split
  all_goals first
    | (with_reducible exact hs)
    | (simp (maxDischargeDepth := 40) +contextual only [hs, ev_mk, ev_fold, ev_ite, ite_self, implies_true, nextIs_next, nextIs_ite, nextIs_fault,
        ev_goOn, ev_mergeWaits, ev_transfer]; done)

theorem ev_execGlobalVisibilityTransfer (p : Port) {r₀ s : State} (hs : Evolves r₀ s) : NextIs (Evolves r₀) (execGlobalVisibilityTransfer p
        s) := by
  unfold execGlobalVisibilityTransfer
  (try simp (maxDischargeDepth := 40) +contextual only [hs, ev_mk, ev_fold, ev_ite, ite_self, implies_true, nextIs_next, nextIs_ite,
        nextIs_fault, ev_endStall, ev_goOn, ev_rearmStall, ev_stallDrain, ev_transfer])
  repeat' split
  all_goals first
    | (with_reducible exact hs)
    | (simp (maxDischargeDepth := 40) +contextual only [hs, ev_mk, ev_fold, ev_ite, ite_self, implies_true, nextIs_next, nextIs_ite, nextIs_fault,
        ev_endStall, ev_goOn, ev_rearmStall, ev_stallDrain, ev_transfer]; done)

theorem ev_execMemRd (p : Port) (tag line : Nat) {r₀ s : State} (hs : Evolves r₀ s) : NextIs (Evolves r₀) (execMemRd p tag line s) := by
  unfold execMemRd
  simp (maxDischargeDepth := 40) +contextual only [hs, ev_mk, ev_fold, ev_ite, ite_self, implies_true, nextIs_next, nextIs_ite, nextIs_fault,
        ev_acceptRead, ev_windowRead]

theorem ev_execMediumSectorReadDone (rid : Nat) (bch : Bool) (tags : BitVec 4) {r₀ s : State} (hs : Evolves r₀ s) : NextIs (Evolves r₀)
        (execMediumSectorReadDone rid bch tags s) := by
  unfold execMediumSectorReadDone
  (try simp (maxDischargeDepth := 40) +contextual only [hs, ev_mk, ev_fold, ev_ite, ite_self, implies_true, nextIs_next, nextIs_ite,
        nextIs_fault, ev_sectorDone, ev_tagDone])
  repeat' split
  all_goals first
    | (with_reducible exact hs)
    | (simp (maxDischargeDepth := 40) +contextual only [hs, ev_mk, ev_fold, ev_ite, ite_self, implies_true, nextIs_next, nextIs_ite, nextIs_fault,
        ev_sectorDone, ev_tagDone]; done)

theorem ev_execPatienceExpiry (rid : Nat) {r₀ s : State} (hs : Evolves r₀ s) : NextIs (Evolves r₀) (execPatienceExpiry rid s) := by
  unfold execPatienceExpiry
  (try simp (maxDischargeDepth := 40) +contextual only [hs, ev_mk, ev_fold, ev_ite, ite_self, implies_true, nextIs_next, nextIs_ite,
        nextIs_fault, ev_modRead])
  repeat' split
  all_goals first
    | (with_reducible exact hs)
    | (simp (maxDischargeDepth := 40) +contextual only [hs, ev_mk, ev_fold, ev_ite, ite_self, implies_true, nextIs_next, nextIs_ite, nextIs_fault,
        ev_modRead]; done)

theorem ev_execSuspension (region : Fin 256) {r₀ s : State} (hs : Evolves r₀ s) : NextIs (Evolves r₀) (execSuspension region s) := by
  unfold execSuspension
  (try simp (maxDischargeDepth := 40) +contextual only [hs, ev_mk, ev_fold, ev_ite, ite_self, implies_true, nextIs_next, nextIs_ite,
        nextIs_fault, ev_addTo, ev_count, ev_holdOps, ev_modOps, ev_modRead])
  repeat' split
  all_goals first
    | (with_reducible exact hs)
    | (simp (maxDischargeDepth := 40) +contextual only [hs, ev_mk, ev_fold, ev_ite, ite_self, implies_true, nextIs_next, nextIs_ite, nextIs_fault,
        ev_addTo, ev_count, ev_holdOps, ev_modOps, ev_modRead]; done)

theorem ev_execSuspendOverrun (region : Fin 256) {r₀ s : State} (hs : Evolves r₀ s) : NextIs (Evolves r₀) (execSuspendOverrun region s) :=
        by
  unfold execSuspendOverrun
  simp (maxDischargeDepth := 40) +contextual only [hs, ev_mk, ev_fold, ev_ite, ite_self, implies_true, nextIs_next, nextIs_ite, nextIs_fault,
        ev_bump, ev_modOps, ev_raise, ev_reconstructWaiting]

theorem ev_execResume (region : Fin 256) {r₀ s : State} (hs : Evolves r₀ s) : NextIs (Evolves r₀) (execResume region s) := by
  unfold execResume
  simp (maxDischargeDepth := 40) +contextual only [hs, ev_mk, ev_fold, ev_ite, ite_self, implies_true, nextIs_next, nextIs_ite, nextIs_fault,
        ev_modOps]

theorem ev_execPortResponseDeadline (rid : Nat) {r₀ s : State} (hs : Evolves r₀ s) : NextIs (Evolves r₀) (execPortResponseDeadline rid s) :=
        by
  unfold execPortResponseDeadline
  (try simp (maxDischargeDepth := 40) +contextual only [hs, ev_mk, ev_fold, ev_ite, ite_self, implies_true, nextIs_next, nextIs_ite,
        nextIs_fault, ev_bump, ev_count1, ev_modRead, ev_prefetch, ev_promptDone, ev_sampleRead, ev_sendData, ev_takeStamp])
  repeat' split
  all_goals first
    | (with_reducible exact hs)
    | (simp (maxDischargeDepth := 40) +contextual only [hs, ev_mk, ev_fold, ev_ite, ite_self, implies_true, nextIs_next, nextIs_ite, nextIs_fault,
        ev_bump, ev_count1, ev_modRead, ev_prefetch, ev_promptDone, ev_sampleRead, ev_sendData, ev_takeStamp]; done)

theorem ev_execMediaRetryEnd (rid : Nat) (senses : RetrySenses) {r₀ s : State} (hs : Evolves r₀ s) : NextIs (Evolves r₀) (execMediaRetryEnd
        rid senses s) := by
  unfold execMediaRetryEnd
  (try simp (maxDischargeDepth := 40) +contextual only [hs, ev_mk, ev_fold, ev_ite, ite_self, implies_true, nextIs_next, nextIs_ite,
        nextIs_fault, ev_bump, ev_cacheTag, ev_failRead, ev_installLine, ev_noteRung, ev_prefetch, ev_raise, ev_relocate, ev_reportDeadline,
        ev_respond, ev_senseBelow, ev_foldl])
  repeat' split
  all_goals first
    | (with_reducible exact hs)
    | (simp (maxDischargeDepth := 40) +contextual only [hs, ev_mk, ev_fold, ev_ite, ite_self, implies_true, nextIs_next, nextIs_ite, nextIs_fault,
        ev_bump, ev_cacheTag, ev_failRead, ev_installLine, ev_noteRung, ev_prefetch, ev_raise, ev_relocate, ev_reportDeadline, ev_respond,
        ev_senseBelow, ev_foldl]; done)

theorem ev_execFailedCheck (obj : FailedObject) {r₀ s : State} (hs : Evolves r₀ s) : NextIs (Evolves r₀) (execFailedCheck obj s) := by
  unfold execFailedCheck
  simp (maxDischargeDepth := 40) +contextual only [hs, ev_mk, ev_fold, ev_ite, ite_self, implies_true, nextIs_next, nextIs_ite, nextIs_fault,
        ev_failCheck]

theorem ev_execBarrierWordRead (p : Port) (tag : Nat) {r₀ s : State} (hs : Evolves r₀ s) : NextIs (Evolves r₀) (execBarrierWordRead p tag s)
        := by
  unfold execBarrierWordRead
  simp (maxDischargeDepth := 40) +contextual only [hs, ev_mk, ev_fold, ev_ite, ite_self, implies_true, nextIs_next, nextIs_ite, nextIs_fault,
        ev_windowRead]

theorem ev_execStampCeilingRaise {r₀ s : State} (hs : Evolves r₀ s) : NextIs (Evolves r₀) (execStampCeilingRaise s) := by
  unfold execStampCeilingRaise
  simp (maxDischargeDepth := 40) +contextual only [hs, ev_mk, ev_fold, ev_ite, ite_self, implies_true, nextIs_next, nextIs_ite, nextIs_fault,
        ev_put]

theorem ev_execDirectoryImage {r₀ s : State} (hs : Evolves r₀ s) : NextIs (Evolves r₀) (execDirectoryImage s) := by
  unfold execDirectoryImage
  simp (maxDischargeDepth := 40) +contextual only [hs, ev_mk, ev_fold, ev_ite, ite_self, implies_true, nextIs_next, nextIs_ite, nextIs_fault,
        ev_writeDirectory]

theorem ev_execCheckpoint {r₀ s : State} (hs : Evolves r₀ s) : NextIs (Evolves r₀) (execCheckpoint s) := by
  unfold execCheckpoint
  (try simp (maxDischargeDepth := 40) +contextual only [hs, ev_mk, ev_fold, ev_ite, ite_self, implies_true, nextIs_next, nextIs_ite,
        nextIs_fault, ev_checkpointNow, ev_takeSegment])
  repeat' split
  all_goals first
    | (with_reducible exact hs)
    | (simp (maxDischargeDepth := 40) +contextual only [hs, ev_mk, ev_fold, ev_ite, ite_self, implies_true, nextIs_next, nextIs_ite, nextIs_fault,
        ev_checkpointNow, ev_takeSegment]; done)

theorem ev_execDemandRebuild (segment : Nat) {r₀ s : State} (hs : Evolves r₀ s) : NextIs (Evolves r₀) (execDemandRebuild segment s) := by
  unfold execDemandRebuild
  simp (maxDischargeDepth := 40) +contextual only [hs, ev_mk, ev_fold, ev_ite, ite_self, implies_true, nextIs_next, nextIs_ite, nextIs_fault,
        ev_startRebuild]

theorem ev_execSegmentRebuilt (segment : Nat) {r₀ s : State} (hs : Evolves r₀ s) : NextIs (Evolves r₀) (execSegmentRebuilt segment s) := by
  unfold execSegmentRebuilt
  simp (maxDischargeDepth := 40) +contextual only [hs, ev_mk, ev_fold, ev_ite, ite_self, implies_true, nextIs_next, nextIs_ite, nextIs_fault,
        ev_finishRebuild]

theorem ev_execStampFormConversion (line : Nat) {r₀ s : State} (hs : Evolves r₀ s) : NextIs (Evolves r₀) (execStampFormConversion line s) :=
        by
  unfold execStampFormConversion
  (try simp (maxDischargeDepth := 40) +contextual only [hs, ev_mk, ev_fold, ev_ite, ite_self, implies_true, nextIs_next, nextIs_ite,
        nextIs_fault])
  repeat' split
  all_goals first
    | (with_reducible exact hs)
    | (simp (maxDischargeDepth := 40) +contextual only [hs, ev_mk, ev_fold, ev_ite, ite_self, implies_true, nextIs_next, nextIs_ite,
        nextIs_fault]; done)

theorem ev_execWriteBackBatch {r₀ s : State} (hs : Evolves r₀ s) : NextIs (Evolves r₀) (execWriteBackBatch s) := by
  unfold execWriteBackBatch
  simp (maxDischargeDepth := 40) +contextual only [hs, ev_mk, ev_fold, ev_ite, ite_self, implies_true, nextIs_next, nextIs_ite, nextIs_fault,
        ev_writeBack]

theorem ev_execIntegrityTableImage (stripe : Fin 65536) {r₀ s : State} (hs : Evolves r₀ s) : NextIs (Evolves r₀) (execIntegrityTableImage
        stripe s) := by
  unfold execIntegrityTableImage
  simp (maxDischargeDepth := 40) +contextual only [hs, ev_mk, ev_fold, ev_ite, ite_self, implies_true, nextIs_next, nextIs_ite, nextIs_fault,
        ev_writeTableImage]

theorem ev_execIntegrityLineFetch (obj : IntegrityObject) (lines : List FetchedLine) {r₀ s : State} (hs : Evolves r₀ s) : NextIs (Evolves
        r₀) (execIntegrityLineFetch obj lines s) := by
  unfold execIntegrityLineFetch
  (try simp (maxDischargeDepth := 40) +contextual only [hs, ev_mk, ev_fold, ev_ite, ite_self, implies_true, nextIs_next, nextIs_ite,
        nextIs_fault, ev_bump, ev_cacheLine, ev_failIntegrity, ev_integritySector, ev_noteRecovered, ev_foldl])
  repeat' split
  all_goals first
    | (with_reducible exact hs)
    | (simp (maxDischargeDepth := 40) +contextual only [hs, ev_mk, ev_fold, ev_ite, ite_self, implies_true, nextIs_next, nextIs_ite, nextIs_fault,
        ev_bump, ev_cacheLine, ev_failIntegrity, ev_integritySector, ev_noteRecovered, ev_foldl]; done)

theorem ev_execCounterCacheError (obj : IntegrityObject) (fault : CacheFault) {r₀ s : State} (hs : Evolves r₀ s) : NextIs (Evolves r₀)
        (execCounterCacheError obj fault s) := by
  unfold execCounterCacheError
  simp (maxDischargeDepth := 40) +contextual only [hs, ev_mk, ev_fold, ev_ite, ite_self, implies_true, nextIs_next, nextIs_ite, nextIs_fault,
        ev_cacheError]

theorem ev_execStagingHoldExpiry (line : Nat) (group : Option (Fin 262144)) {r₀ s : State} (hs : Evolves r₀ s) : NextIs (Evolves r₀)
        (execStagingHoldExpiry line group s) := by
  unfold execStagingHoldExpiry
  simp (maxDischargeDepth := 40) +contextual only [hs, ev_mk, ev_fold, ev_ite, ite_self, implies_true, nextIs_next, nextIs_ite, nextIs_fault]

theorem ev_execLogRowDispatch {r₀ s : State} (hs : Evolves r₀ s) : NextIs (Evolves r₀) (execLogRowDispatch s) := by
  unfold execLogRowDispatch
  simp (maxDischargeDepth := 40) +contextual only [hs, ev_mk, ev_fold, ev_ite, ite_self, implies_true, nextIs_next, nextIs_ite, nextIs_fault,
        ev_dispatchRow, ev_noteCrowded]

theorem ev_execLogRowCloseTime {r₀ s : State} (hs : Evolves r₀ s) : NextIs (Evolves r₀) (execLogRowCloseTime s) := by
  unfold execLogRowCloseTime
  simp (maxDischargeDepth := 40) +contextual only [hs, ev_mk, ev_fold, ev_ite, ite_self, implies_true, nextIs_next, nextIs_ite, nextIs_fault,
        ev_dispatchRow, ev_noteCrowded]

theorem ev_execLogRowComplete (mark : Nat) {r₀ s : State} (hs : Evolves r₀ s) : NextIs (Evolves r₀) (execLogRowComplete mark s) := by
  unfold execLogRowComplete
  (try simp (maxDischargeDepth := 40) +contextual only [hs, ev_mk, ev_fold, ev_ite, ite_self, implies_true, nextIs_next, nextIs_ite,
        nextIs_fault, ev_completeRow])
  repeat' split
  all_goals first
    | (with_reducible exact hs)
    | (simp (maxDischargeDepth := 40) +contextual only [hs, ev_mk, ev_fold, ev_ite, ite_self, implies_true, nextIs_next, nextIs_ite, nextIs_fault,
        ev_completeRow]; done)

theorem ev_execProgramDispatch (job : Nat) {r₀ s : State} (hs : Evolves r₀ s) : NextIs (Evolves r₀) (execProgramDispatch job s) := by
  unfold execProgramDispatch
  (try simp (maxDischargeDepth := 40) +contextual only [hs, ev_mk, ev_fold, ev_ite, ite_self, implies_true, nextIs_next, nextIs_ite,
        nextIs_fault, ev_dispatch, ev_noteDelays, ev_skipMember])
  repeat' split
  all_goals first
    | (with_reducible exact hs)
    | (simp (maxDischargeDepth := 40) +contextual only [hs, ev_mk, ev_fold, ev_ite, ite_self, implies_true, nextIs_next, nextIs_ite, nextIs_fault,
        ev_dispatch, ev_noteDelays, ev_skipMember]; done)

theorem ev_execProgramComplete (op : Nat) (ok : Bool) {r₀ s : State} (hs : Evolves r₀ s) : NextIs (Evolves r₀) (execProgramComplete op ok s)
        := by
  unfold execProgramComplete
  (try simp (maxDischargeDepth := 40) +contextual only [hs, ev_mk, ev_fold, ev_ite, ite_self, implies_true, nextIs_next, nextIs_ite,
        nextIs_fault, ev_endOverruns, ev_opFailed, ev_opSucceeded])
  repeat' split
  all_goals first
    | (with_reducible exact hs)
    | (simp (maxDischargeDepth := 40) +contextual only [hs, ev_mk, ev_fold, ev_ite, ite_self, implies_true, nextIs_next, nextIs_ite, nextIs_fault,
        ev_endOverruns, ev_opFailed, ev_opSucceeded]; done)

theorem ev_execStripePageComplete (id : Nat) {r₀ s : State} (hs : Evolves r₀ s) : NextIs (Evolves r₀) (execStripePageComplete id s) := by
  unfold execStripePageComplete
  (try simp (maxDischargeDepth := 40) +contextual only [hs, ev_mk, ev_fold, ev_ite, ite_self, implies_true, nextIs_next, nextIs_ite,
        nextIs_fault, ev_completePage, ev_finishMoves])
  repeat' split
  all_goals first
    | (with_reducible exact hs)
    | (simp (maxDischargeDepth := 40) +contextual only [hs, ev_mk, ev_fold, ev_ite, ite_self, implies_true, nextIs_next, nextIs_ite, nextIs_fault,
        ev_completePage, ev_finishMoves]; done)

theorem ev_execChunkGrant (channel : Fin 16) {r₀ s : State} (hs : Evolves r₀ s) : NextIs (Evolves r₀) (execChunkGrant channel s) := by
  unfold execChunkGrant
  (try simp (maxDischargeDepth := 40) +contextual only [hs, ev_mk, ev_fold, ev_ite, ite_self, implies_true, nextIs_next, nextIs_ite,
        nextIs_fault, ev_grantChunk])
  repeat' split
  all_goals first
    | (with_reducible exact hs)
    | (simp (maxDischargeDepth := 40) +contextual only [hs, ev_mk, ev_fold, ev_ite, ite_self, implies_true, nextIs_next, nextIs_ite, nextIs_fault,
        ev_grantChunk]; done)

theorem ev_execCurtain (cause : Nat) {r₀ s : State} (hs : Evolves r₀ s) : NextIs (Evolves r₀) (execCurtain cause s) := by
  unfold execCurtain
  simp (maxDischargeDepth := 40) +contextual only [hs, ev_mk, ev_fold, ev_ite, ite_self, implies_true, nextIs_next, nextIs_ite, nextIs_fault,
        ev_triggerCurtain]

theorem ev_execCurtainCommitPoint {r₀ s : State} (hs : Evolves r₀ s) : NextIs (Evolves r₀) (execCurtainCommitPoint s) := by
  unfold execCurtainCommitPoint
  (try simp (maxDischargeDepth := 40) +contextual only [hs, ev_mk, ev_fold, ev_ite, ite_self, implies_true, nextIs_next, nextIs_ite,
        nextIs_fault, ev_commitCurtain])
  repeat' split
  all_goals first
    | (with_reducible exact hs)
    | (simp (maxDischargeDepth := 40) +contextual only [hs, ev_mk, ev_fold, ev_ite, ite_self, implies_true, nextIs_next, nextIs_ite, nextIs_fault,
        ev_commitCurtain]; done)

theorem ev_execCurtainCancelled (mv : Nat) {r₀ s : State} (hs : Evolves r₀ s) : NextIs (Evolves r₀) (execCurtainCancelled mv s) := by
  unfold execCurtainCancelled
  (try simp (maxDischargeDepth := 40) +contextual only [hs, ev_mk, ev_fold, ev_ite, ite_self, implies_true, nextIs_next, nextIs_ite,
        nextIs_fault, ev_cancelCurtain, ev_noteVin])
  repeat' split
  all_goals first
    | (with_reducible exact hs)
    | (simp (maxDischargeDepth := 40) +contextual only [hs, ev_mk, ev_fold, ev_ite, ite_self, implies_true, nextIs_next, nextIs_ite, nextIs_fault,
        ev_cancelCurtain, ev_noteVin]; done)

theorem ev_execCurtainOutcome {r₀ s : State} (hs : Evolves r₀ s) : NextIs (Evolves r₀) (execCurtainOutcome s) := by
  unfold execCurtainOutcome
  (try simp (maxDischargeDepth := 40) +contextual only [hs, ev_mk, ev_fold, ev_ite, ite_self, implies_true, nextIs_next, nextIs_ite,
        nextIs_fault, ev_curtainOutcome])
  repeat' split
  all_goals first
    | (with_reducible exact hs)
    | (simp (maxDischargeDepth := 40) +contextual only [hs, ev_mk, ev_fold, ev_ite, ite_self, implies_true, nextIs_next, nextIs_ite, nextIs_fault,
        ev_curtainOutcome]; done)

theorem ev_execCartridgeFloor {r₀ s : State} (hs : Evolves r₀ s) : NextIs (Evolves r₀) (execCartridgeFloor s) := by
  unfold execCartridgeFloor
  (try simp (maxDischargeDepth := 40) +contextual only [hs, ev_mk, ev_fold, ev_ite, ite_self, implies_true, nextIs_next, nextIs_ite,
        nextIs_fault, ev_enterFall, ev_silence])
  repeat' split
  all_goals first
    | (with_reducible exact hs)
    | (simp (maxDischargeDepth := 40) +contextual only [hs, ev_mk, ev_fold, ev_ite, ite_self, implies_true, nextIs_next, nextIs_ite, nextIs_fault,
        ev_enterFall, ev_silence]; done)

theorem ev_execShortPress {r₀ s : State} (hs : Evolves r₀ s) : NextIs (Evolves r₀) (execShortPress s) := by
  unfold execShortPress
  simp (maxDischargeDepth := 40) +contextual only [hs, ev_mk, ev_fold, ev_ite, ite_self, implies_true, nextIs_next, nextIs_ite, nextIs_fault,
        ev_put, ev_raise]

theorem ev_execServiceRequestWindowEnd {r₀ s : State} (hs : Evolves r₀ s) : NextIs (Evolves r₀) (execServiceRequestWindowEnd s) := by
  unfold execServiceRequestWindowEnd
  simp (maxDischargeDepth := 40) +contextual only [hs, ev_mk, ev_fold, ev_ite, ite_self, implies_true, nextIs_next, nextIs_ite, nextIs_fault,
        ev_buttonCurtain]

theorem ev_execForcedPowerDown {r₀ s : State} (hs : Evolves r₀ s) : NextIs (Evolves r₀) (execForcedPowerDown s) := by
  unfold execForcedPowerDown
  simp (maxDischargeDepth := 40) +contextual only [hs, ev_mk, ev_fold, ev_ite, ite_self, implies_true, nextIs_next, nextIs_ite, nextIs_fault,
        ev_buttonCurtain, ev_raise]

theorem ev_execMrN (widthNs : Nat) {r₀ s : State} (hs : Evolves r₀ s) : NextIs (Evolves r₀) (execMrN widthNs s) := by
  unfold execMrN
  simp (maxDischargeDepth := 40) +contextual only [hs, ev_mk, ev_fold, ev_ite, ite_self, implies_true, nextIs_next, nextIs_ite, nextIs_fault,
        ev_deviceReset, ev_drawn, ev_raise]

theorem ev_execMrNHigh {r₀ s : State} (hs : Evolves r₀ s) : NextIs (Evolves r₀) (execMrNHigh s) := by
  unfold execMrNHigh
  simp (maxDischargeDepth := 40) +contextual only [hs, ev_mk, ev_fold, ev_ite, ite_self, implies_true, nextIs_next, nextIs_ite, nextIs_fault,
        ev_enterRestore]

theorem ev_execManagementWatchdog {r₀ s : State} (hs : Evolves r₀ s) : NextIs (Evolves r₀) (execManagementWatchdog s) := by
  unfold execManagementWatchdog
  split
  · exact hs
  · split
    · exact ev_mgmt _ hs ⟨id, fun _ => Nat.zero_le _, fun _ => Nat.zero_le _, id⟩
    · exact ev_deviceReset _ hs

theorem ev_execCounterWrap (n : Fin 512) {r₀ s : State} (hs : Evolves r₀ s) : NextIs (Evolves r₀) (execCounterWrap n s) := by
  unfold execCounterWrap
  simp (maxDischargeDepth := 40) +contextual only [hs, ev_mk, ev_fold, ev_ite, ite_self, implies_true, nextIs_next, nextIs_ite, nextIs_fault,
        ev_addToCounter]

theorem ev_execBandwidthWindowEnd (p : Port) {r₀ s : State} (hs : Evolves r₀ s) : NextIs (Evolves r₀) (execBandwidthWindowEnd p s) := by
  unfold execBandwidthWindowEnd
  simp (maxDischargeDepth := 40) +contextual only [hs, ev_mk, ev_fold, ev_ite, ite_self, implies_true, nextIs_next, nextIs_ite, nextIs_fault,
        ev_endWindow]

theorem ev_execDmaBurstPlaced (ch : Fin 16) {r₀ s : State} (hs : Evolves r₀ s) : NextIs (Evolves r₀) (execDmaBurstPlaced ch s) := by
  unfold execDmaBurstPlaced
  simp (maxDischargeDepth := 40) +contextual only [hs, ev_mk, ev_fold, ev_ite, ite_self, implies_true, nextIs_next, nextIs_ite, nextIs_fault,
        ev_nextBurst]

theorem ev_execDrainIdleTimer (ch : Fin 16) {r₀ s : State} (hs : Evolves r₀ s) : NextIs (Evolves r₀) (execDrainIdleTimer ch s) := by
  unfold execDrainIdleTimer
  simp (maxDischargeDepth := 40) +contextual only [hs, ev_mk, ev_fold, ev_ite, ite_self, implies_true, nextIs_next, nextIs_ite, nextIs_fault,
        ev_nextBurst]

theorem ev_execVinValid (mv : Nat) {r₀ s : State} (hs : Evolves r₀ s) : NextIs (Evolves r₀) (execVinValid mv s) := by
  unfold execVinValid
  simp (maxDischargeDepth := 40) +contextual only [hs, ev_mk, ev_fold, ev_ite, ite_self, implies_true, nextIs_next, nextIs_ite, nextIs_fault,
        ev_autoStart, ev_connectInput, ev_measureInput]

theorem ev_execInputLoss (mv : Nat) {r₀ s : State} (hs : Evolves r₀ s) : NextIs (Evolves r₀) (execInputLoss mv s) := by
  unfold execInputLoss
  simp (maxDischargeDepth := 40) +contextual only [hs, ev_mk, ev_fold, ev_ite, ite_self, implies_true, nextIs_next, nextIs_ite, nextIs_fault,
        ev_loseInput]

theorem ev_execOvervoltage (mv : Nat) {r₀ s : State} (hs : Evolves r₀ s) : NextIs (Evolves r₀) (execOvervoltage mv s) := by
  unfold execOvervoltage
  simp (maxDischargeDepth := 40) +contextual only [hs, ev_mk, ev_fold, ev_ite, ite_self, implies_true, nextIs_next, nextIs_ite, nextIs_fault,
        ev_bump, ev_loseInput, ev_noteVin]

theorem ev_execInputSwitchReclose (mv : Nat) {r₀ s : State} (hs : Evolves r₀ s) : NextIs (Evolves r₀) (execInputSwitchReclose mv s) := by
  unfold execInputSwitchReclose
  simp (maxDischargeDepth := 40) +contextual only [hs, ev_mk, ev_fold, ev_ite, ite_self, implies_true, nextIs_next, nextIs_ite, nextIs_fault,
        ev_noteVin]

theorem ev_execBandDown (mv : Nat) {r₀ s : State} (hs : Evolves r₀ s) : NextIs (Evolves r₀) (execBandDown mv s) := by
  unfold execBandDown
  simp (maxDischargeDepth := 40) +contextual only [hs, ev_mk, ev_fold, ev_ite, ite_self, implies_true, nextIs_next, nextIs_ite, nextIs_fault,
        ev_noteVin, ev_setBand]

theorem ev_execBandUp (mv : Nat) {r₀ s : State} (hs : Evolves r₀ s) : NextIs (Evolves r₀) (execBandUp mv s) := by
  unfold execBandUp
  simp (maxDischargeDepth := 40) +contextual only [hs, ev_mk, ev_fold, ev_ite, ite_self, implies_true, nextIs_next, nextIs_ite, nextIs_fault,
        ev_noteVin, ev_setBand]

theorem ev_execPowerCapAdjust (meanMw : Nat) {r₀ s : State} (hs : Evolves r₀ s) : NextIs (Evolves r₀) (execPowerCapAdjust meanMw s) := by
  unfold execPowerCapAdjust
  simp (maxDischargeDepth := 40) +contextual only [hs, ev_mk, ev_fold, ev_ite, ite_self, implies_true, nextIs_next, nextIs_ite, nextIs_fault,
        ev_put]

theorem ev_execRailFault (code : Nat) (restarts : Bool) {r₀ s : State} (hs : Evolves r₀ s) : NextIs (Evolves r₀) (execRailFault code
        restarts s) := by
  unfold execRailFault
  simp (maxDischargeDepth := 40) +contextual only [hs, ev_mk, ev_fold, ev_ite, ite_self, implies_true, nextIs_next, nextIs_ite, nextIs_fault,
        ev_bump, ev_deviceReset, ev_endAllSessions, ev_enterFall, ev_noteRailFault, ev_put]

theorem ev_execRise (railsGood firmwareOk : Bool) {r₀ s : State} (hs : Evolves r₀ s) : NextIs (Evolves r₀) (execRise railsGood firmwareOk s)
        := by
  unfold execRise
  simp (maxDischargeDepth := 40) +contextual only [hs, ev_mk, ev_fold, ev_ite, ite_self, implies_true, nextIs_next, nextIs_ite, nextIs_fault,
        ev_drawn, ev_enterFall, ev_enterRestore, ev_noteRailFault, ev_put, ev_railsOn, ev_raise]

theorem ev_execFall (stuck : BitVec 16) (vinAbsent : Bool) {r₀ s : State} (hs : Evolves r₀ s) : NextIs (Evolves r₀) (execFall stuck
        vinAbsent s) := by
  unfold execFall
  simp (maxDischargeDepth := 40) +contextual only [hs, ev_mk, ev_fold, ev_ite, ite_self, implies_true, nextIs_next, nextIs_ite, nextIs_fault,
        ev_endFall]

theorem ev_execStuckRailCleared (code : Nat) {r₀ s : State} (hs : Evolves r₀ s) : NextIs (Evolves r₀) (execStuckRailCleared code s) := by
  unfold execStuckRailCleared
  simp (maxDischargeDepth := 40) +contextual only [hs, ev_mk, ev_fold, ev_ite, ite_self, implies_true, nextIs_next, nextIs_ite, nextIs_fault,
        ev_setRail, ev_startRise]

theorem ev_execMinimumOffTimeEnd {r₀ s : State} (hs : Evolves r₀ s) : NextIs (Evolves r₀) (execMinimumOffTimeEnd s) := by
  unfold execMinimumOffTimeEnd
  simp (maxDischargeDepth := 40) +contextual only [hs, ev_mk, ev_fold, ev_ite, ite_self, implies_true, nextIs_next, nextIs_ite, nextIs_fault,
        ev_startRise]

theorem ev_execLossOfProtection {r₀ s : State} (hs : Evolves r₀ s) : NextIs (Evolves r₀) (execLossOfProtection s) := by
  unfold execLossOfProtection
  simp (maxDischargeDepth := 40) +contextual only [hs, ev_mk, ev_fold, ev_ite, ite_self, implies_true, nextIs_next, nextIs_ite, nextIs_fault,
        ev_finishLeaving, ev_loseProtection, ev_wakeBy]

theorem ev_execProtectionRestored {r₀ s : State} (hs : Evolves r₀ s) : NextIs (Evolves r₀) (execProtectionRestored s) := by
  unfold execProtectionRestored
  simp (maxDischargeDepth := 40) +contextual only [hs, ev_mk, ev_fold, ev_ite, ite_self, implies_true, nextIs_next, nextIs_ite, nextIs_fault,
        ev_regainProtection]

theorem ev_execYoYoTest (cmf esrMohm v0mv : Nat) {r₀ s : State} (hs : Evolves r₀ s) : NextIs (Evolves r₀) (execYoYoTest cmf esrMohm v0mv s)
        := by
  unfold execYoYoTest
  simp (maxDischargeDepth := 40) +contextual only [hs, ev_mk, ev_fold, ev_ite, ite_self, implies_true, nextIs_next, nextIs_ite, nextIs_fault,
        ev_endAction, ev_put, ev_raise, ev_raiseIf, ev_updateProtection, ev_wakeBy]

theorem ev_execCartridgeRemoved {r₀ s : State} (hs : Evolves r₀ s) : NextIs (Evolves r₀) (execCartridgeRemoved s) := by
  unfold execCartridgeRemoved
  simp (maxDischargeDepth := 40) +contextual only [hs, ev_mk, ev_fold, ev_ite, ite_self, implies_true, nextIs_next, nextIs_ite, nextIs_fault,
        ev_endAction, ev_put, ev_raise, ev_updateProtection, ev_wakeBy]

theorem ev_execCartridgeInserted (ident : List Byte) {r₀ s : State} (hs : Evolves r₀ s) : NextIs (Evolves r₀) (execCartridgeInserted ident
        s) := by
  unfold execCartridgeInserted
  simp (maxDischargeDepth := 40) +contextual only [hs, ev_mk, ev_fold, ev_ite, ite_self, implies_true, nextIs_next, nextIs_ite, nextIs_fault,
        ev_bump, ev_put, ev_putBytes, ev_raise, ev_updateProtection, ev_wakeBy]

theorem ev_execDozeEntryStep {r₀ s : State} (hs : Evolves r₀ s) : NextIs (Evolves r₀) (execDozeEntryStep s) := by
  unfold execDozeEntryStep
  (try simp (maxDischargeDepth := 40) +contextual only [hs, ev_mk, ev_fold, ev_ite, ite_self, implies_true, nextIs_next, nextIs_ite,
        nextIs_fault, ev_abortPoint, ev_dozeStep])
  repeat' split
  all_goals first
    | (with_reducible exact hs)
    | (simp (maxDischargeDepth := 40) +contextual only [hs, ev_mk, ev_fold, ev_ite, ite_self, implies_true, nextIs_next, nextIs_ite, nextIs_fault,
        ev_abortPoint, ev_dozeStep]; done)

theorem ev_execIdleTimer {r₀ s : State} (hs : Evolves r₀ s) : NextIs (Evolves r₀) (execIdleTimer s) := by
  unfold execIdleTimer
  simp (maxDischargeDepth := 40) +contextual only [hs, ev_mk, ev_fold, ev_ite, ite_self, implies_true, nextIs_next, nextIs_ite, nextIs_fault,
        ev_startDoze]

theorem ev_execWake (source : Fin 6) {r₀ s : State} (hs : Evolves r₀ s) : NextIs (Evolves r₀) (execWake source s) := by
  unfold execWake
  simp (maxDischargeDepth := 40) +contextual only [hs, ev_mk, ev_fold, ev_ite, ite_self, implies_true, nextIs_next, nextIs_ite, nextIs_fault,
        ev_wakeSource]

theorem ev_execWakeN (widthNs : Nat) {r₀ s : State} (hs : Evolves r₀ s) : NextIs (Evolves r₀) (execWakeN widthNs s) := by
  unfold execWakeN
  simp (maxDischargeDepth := 40) +contextual only [hs, ev_mk, ev_fold, ev_ite, ite_self, implies_true, nextIs_next, nextIs_ite, nextIs_fault,
        ev_wakeSource]

theorem ev_execServiceTimeLimit {r₀ s : State} (hs : Evolves r₀ s) : NextIs (Evolves r₀) (execServiceTimeLimit s) := by
  unfold execServiceTimeLimit
  simp (maxDischargeDepth := 40) +contextual only [hs, ev_mk, ev_fold, ev_ite, ite_self, implies_true, nextIs_next, nextIs_ite, nextIs_fault,
        ev_leaveService]

theorem ev_execScrub (mem : MemKind) (address : Nat) (result : CodeResult) {r₀ s : State} (hs : Evolves r₀ s) : NextIs (Evolves r₀)
        (execScrub mem address result s) := by
  unfold execScrub
  (try simp (maxDischargeDepth := 40) +contextual only [hs, ev_mk, ev_fold, ev_ite, ite_self, implies_true, nextIs_next, nextIs_ite,
        nextIs_fault, ev_detectError, ev_dropBlockAt])
  repeat' split
  all_goals first
    | (with_reducible exact hs)
    | (simp (maxDischargeDepth := 40) +contextual only [hs, ev_mk, ev_fold, ev_ite, ite_self, implies_true, nextIs_next, nextIs_ite, nextIs_fault,
        ev_detectError, ev_dropBlockAt]; done)

theorem ev_execUncorrectableError (what : Structure) {r₀ s : State} (hs : Evolves r₀ s) : NextIs (Evolves r₀) (execUncorrectableError what
        s) := by
  unfold execUncorrectableError
  simp (maxDischargeDepth := 40) +contextual only [hs, ev_mk, ev_fold, ev_ite, ite_self, implies_true, nextIs_next, nextIs_ite, nextIs_fault,
        ev_structureError]

theorem ev_execCriticalStateError {r₀ s : State} (hs : Evolves r₀ s) : NextIs (Evolves r₀) (execCriticalStateError s) := by
  unfold execCriticalStateError
  simp (maxDischargeDepth := 40) +contextual only [hs, ev_mk, ev_fold, ev_ite, ite_self, implies_true, nextIs_next, nextIs_ite, nextIs_fault,
        ev_criticalError]

theorem ev_execRowSelfTest (mem : MemKind) (row : Nat) (pass : Bool) {r₀ s : State} (hs : Evolves r₀ s) : NextIs (Evolves r₀)
        (execRowSelfTest mem row pass s) := by
  unfold execRowSelfTest
  simp (maxDischargeDepth := 40) +contextual only [hs, ev_mk, ev_fold, ev_ite, ite_self, implies_true, nextIs_next, nextIs_ite, nextIs_fault,
        ev_bump, ev_lastingRow, ev_raise, ev_transientOutcome]

theorem ev_execSectorSelfTest (unit page sector : Nat) (rereadPasses patternPasses : Bool) {r₀ s : State} (hs : Evolves r₀ s) : NextIs
        (Evolves r₀) (execSectorSelfTest unit page sector rereadPasses patternPasses s) := by
  unfold execSectorSelfTest
  (try simp (maxDischargeDepth := 40) +contextual only [hs, ev_mk, ev_fold, ev_ite, ite_self, implies_true, nextIs_next, nextIs_ite,
        nextIs_fault, ev_borrowUnit, ev_bump, ev_lastingSector, ev_raise, ev_refreshSector, ev_sectorProgrammed, ev_setOutcome,
        ev_setUnitState, ev_transientSector])
  repeat' split
  all_goals first
    | (with_reducible exact hs)
    | (simp (maxDischargeDepth := 40) +contextual only [hs, ev_mk, ev_fold, ev_ite, ite_self, implies_true, nextIs_next, nextIs_ite, nextIs_fault,
        ev_borrowUnit, ev_bump, ev_lastingSector, ev_raise, ev_refreshSector, ev_sectorProgrammed, ev_setOutcome, ev_setUnitState,
        ev_transientSector]; done)

theorem ev_execSlowRound (channels : List (Option Int)) {r₀ s : State} (hs : Evolves r₀ s) : NextIs (Evolves r₀) (execSlowRound channels s)
        := by
  unfold execSlowRound
  simp (maxDischargeDepth := 40) +contextual only [hs, ev_mk, ev_fold, ev_ite, ite_self, implies_true, nextIs_next, nextIs_ite, nextIs_fault,
        ev_slowRound]

theorem ev_execDieTemperatureRead (die : Fin 64) (celsius : Int) {r₀ s : State} (hs : Evolves r₀ s) : NextIs (Evolves r₀)
        (execDieTemperatureRead die celsius s) := by
  unfold execDieTemperatureRead
  simp (maxDischargeDepth := 40) +contextual only [hs, ev_mk, ev_fold, ev_ite, ite_self, implies_true, nextIs_next, nextIs_ite, nextIs_fault,
        ev_lockOut]

theorem ev_execThrottleCleared {r₀ s : State} (hs : Evolves r₀ s) : NextIs (Evolves r₀) (execThrottleCleared s) := by
  unfold execThrottleCleared
  simp (maxDischargeDepth := 40) +contextual only [hs, ev_mk, ev_fold, ev_ite, ite_self, implies_true, nextIs_next, nextIs_ite, nextIs_fault,
        ev_clearThrottle]

theorem ev_execEnforcementLevel {r₀ s : State} (hs : Evolves r₀ s) : NextIs (Evolves r₀) (execEnforcementLevel s) := by
  unfold execEnforcementLevel
  simp (maxDischargeDepth := 40) +contextual only [hs, ev_mk, ev_fold, ev_ite, ite_self, implies_true, nextIs_next, nextIs_ite, nextIs_fault,
        ev_raiseLevel]

theorem ev_execLockout {r₀ s : State} (hs : Evolves r₀ s) : NextIs (Evolves r₀) (execLockout s) := by
  unfold execLockout
  simp (maxDischargeDepth := 40) +contextual only [hs, ev_mk, ev_fold, ev_ite, ite_self, implies_true, nextIs_next, nextIs_ite, nextIs_fault,
        ev_lockOut]

theorem ev_execWindowAccess (p : Port) (tag dpa : Nat) (op : WindowOp) {r₀ s : State} (hs : Evolves r₀ s) : NextIs (Evolves r₀)
        (execWindowAccess p tag dpa op s) := by
  unfold execWindowAccess
  (try simp (maxDischargeDepth := 40) +contextual only [hs, ev_mk, ev_fold, ev_ite, ite_self, implies_true, nextIs_next, nextIs_ite,
        nextIs_fault, ev_windowRead, ev_windowWrite])
  repeat' split
  all_goals first
    | (with_reducible exact hs)
    | (simp (maxDischargeDepth := 40) +contextual only [hs, ev_mk, ev_fold, ev_ite, ite_self, implies_true, nextIs_next, nextIs_ite, nextIs_fault,
        ev_windowRead, ev_windowWrite]; done)

theorem ev_execGroupControlRead (p : Port) (tag : Nat) (g : Fin 262144) {r₀ s : State} (hs : Evolves r₀ s) : NextIs (Evolves r₀)
        (execGroupControlRead p tag g s) := by
  unfold execGroupControlRead
  simp (maxDischargeDepth := 40) +contextual only [hs, ev_mk, ev_fold, ev_ite, ite_self, implies_true, nextIs_next, nextIs_ite, nextIs_fault,
        ev_windowRead]

theorem ev_execOpenGroup (p : Port) (tag : Nat) (g : Fin 262144) (a b : Option Word) {r₀ s : State} (hs : Evolves r₀ s) : NextIs (Evolves
        r₀) (execOpenGroup p tag g a b s) := by
  unfold execOpenGroup
  simp (maxDischargeDepth := 40) +contextual only [hs, ev_mk, ev_fold, ev_ite, ite_self, implies_true, nextIs_next, nextIs_ite, nextIs_fault,
        ev_groupCommandWrite]

theorem ev_execBindGroup (p : Port) (tag : Nat) (g : Fin 262144) (a b : Option Word) {r₀ s : State} (hs : Evolves r₀ s) : NextIs (Evolves
        r₀) (execBindGroup p tag g a b s) := by
  unfold execBindGroup
  simp (maxDischargeDepth := 40) +contextual only [hs, ev_mk, ev_fold, ev_ite, ite_self, implies_true, nextIs_next, nextIs_ite, nextIs_fault,
        ev_groupCommandWrite]

theorem ev_execCommitGroup (p : Port) (tag : Nat) (g : Fin 262144) (a b : Option Word) {r₀ s : State} (hs : Evolves r₀ s) : NextIs (Evolves
        r₀) (execCommitGroup p tag g a b s) := by
  unfold execCommitGroup
  simp (maxDischargeDepth := 40) +contextual only [hs, ev_mk, ev_fold, ev_ite, ite_self, implies_true, nextIs_next, nextIs_ite, nextIs_fault,
        ev_groupCommandWrite]

theorem ev_execAbortGroup (p : Port) (tag : Nat) (g : Fin 262144) (a b : Option Word) {r₀ s : State} (hs : Evolves r₀ s) : NextIs (Evolves
        r₀) (execAbortGroup p tag g a b s) := by
  unfold execAbortGroup
  simp (maxDischargeDepth := 40) +contextual only [hs, ev_mk, ev_fold, ev_ite, ite_self, implies_true, nextIs_next, nextIs_ite, nextIs_fault,
        ev_groupCommandWrite]

theorem ev_execReleaseGroup (p : Port) (tag : Nat) (g : Fin 262144) (a b : Option Word) {r₀ s : State} (hs : Evolves r₀ s) : NextIs (Evolves
        r₀) (execReleaseGroup p tag g a b s) := by
  unfold execReleaseGroup
  simp (maxDischargeDepth := 40) +contextual only [hs, ev_mk, ev_fold, ev_ite, ite_self, implies_true, nextIs_next, nextIs_ite, nextIs_fault,
        ev_groupCommandWrite]

theorem ev_execUnassignedGroupCommand (p : Port) (tag : Nat) (g : Fin 262144) (code : Byte) (a b : Option Word) {r₀ s : State} (hs : Evolves
        r₀ s) : NextIs (Evolves r₀) (execUnassignedGroupCommand p tag g code a b s) := by
  unfold execUnassignedGroupCommand
  simp (maxDischargeDepth := 40) +contextual only [hs, ev_mk, ev_fold, ev_ite, ite_self, implies_true, nextIs_next, nextIs_ite, nextIs_fault,
        ev_groupCommandWrite]

theorem ev_execCommitInstant (g : Fin 262144) {r₀ s : State} (hs : Evolves r₀ s) : NextIs (Evolves r₀) (execCommitInstant g s) := by
  unfold execCommitInstant
  simp (maxDischargeDepth := 40) +contextual only [hs, ev_mk, ev_fold, ev_ite, ite_self, implies_true, nextIs_next, nextIs_ite, nextIs_fault,
        ev_decideCommit]

theorem ev_execGroupCommandFinish (g : Fin 262144) {r₀ s : State} (hs : Evolves r₀ s) : NextIs (Evolves r₀) (execGroupCommandFinish g s) :=
        by
  unfold execGroupCommandFinish
  simp (maxDischargeDepth := 40) +contextual only [hs, ev_mk, ev_fold, ev_ite, ite_self, implies_true, nextIs_next, nextIs_ite, nextIs_fault,
        ev_finishCommand, ev_goOn]

theorem ev_execReserveRead (p : Port) (tag : Nat) (cell : Fin 16384) {r₀ s : State} (hs : Evolves r₀ s) : NextIs (Evolves r₀)
        (execReserveRead p tag cell s) := by
  unfold execReserveRead
  simp (maxDischargeDepth := 40) +contextual only [hs, ev_mk, ev_fold, ev_ite, ite_self, implies_true, nextIs_next, nextIs_ite, nextIs_fault,
        ev_windowRead]

theorem ev_execConditionalStore (p : Port) (tag : Nat) (cell : Fin 16384) (be : ByteEnables) (data : Line) {r₀ s : State} (hs : Evolves r₀
        s) : NextIs (Evolves r₀) (execConditionalStore p tag cell be data s) := by
  unfold execConditionalStore
  simp (maxDischargeDepth := 40) +contextual only [hs, ev_mk, ev_fold, ev_ite, ite_self, implies_true, nextIs_next, nextIs_ite, nextIs_fault,
        ev_windowWrite]

theorem ev_execPlainCellStore (p : Port) (tag : Nat) (cell : Fin 16384) (be : ByteEnables) (data : Line) {r₀ s : State} (hs : Evolves r₀ s)
        : NextIs (Evolves r₀) (execPlainCellStore p tag cell be data s) := by
  unfold execPlainCellStore
  simp (maxDischargeDepth := 40) +contextual only [hs, ev_mk, ev_fold, ev_ite, ite_self, implies_true, nextIs_next, nextIs_ite, nextIs_fault,
        ev_windowWrite]

theorem ev_execResultRead (p : Port) (tag : Nat) (cell : Fin 16384) {r₀ s : State} (hs : Evolves r₀ s) : NextIs (Evolves r₀) (execResultRead
        p tag cell s) := by
  unfold execResultRead
  simp (maxDischargeDepth := 40) +contextual only [hs, ev_mk, ev_fold, ev_ite, ite_self, implies_true, nextIs_next, nextIs_ite, nextIs_fault,
        ev_windowRead]

theorem ev_execDiscard (p : Port) (tag : Nat) (start length : Option Word) {r₀ s : State} (hs : Evolves r₀ s) : NextIs (Evolves r₀)
        (execDiscard p tag start length s) := by
  unfold execDiscard
  simp (maxDischargeDepth := 40) +contextual only [hs, ev_mk, ev_fold, ev_ite, ite_self, implies_true, nextIs_next, nextIs_ite, nextIs_fault,
        ev_windowWrite]

theorem ev_execDiscardInstant (p : Port) {r₀ s : State} (hs : Evolves r₀ s) : NextIs (Evolves r₀) (execDiscardInstant p s) := by
  unfold execDiscardInstant
  (try simp (maxDischargeDepth := 40) +contextual only [hs, ev_mk, ev_fold, ev_ite, ite_self, implies_true, nextIs_next, nextIs_ite,
        nextIs_fault, ev_finishDiscard])
  repeat' split
  all_goals first
    | (with_reducible exact hs)
    | (simp (maxDischargeDepth := 40) +contextual only [hs, ev_mk, ev_fold, ev_ite, ite_self, implies_true, nextIs_next, nextIs_ite, nextIs_fault,
        ev_finishDiscard]; done)

theorem ev_execUnmapperDone (entry : Nat) {r₀ s : State} (hs : Evolves r₀ s) : NextIs (Evolves r₀) (execUnmapperDone entry s) := by
  unfold execUnmapperDone
  simp (maxDischargeDepth := 40) +contextual only [hs, ev_mk, ev_fold, ev_ite, ite_self, implies_true, nextIs_next, nextIs_ite, nextIs_fault,
        ev_unmap]

theorem ev_execUserCounterWindowRead (p : Port) (tag : Nat) (lineIndex : Fin 64) {r₀ s : State} (hs : Evolves r₀ s) : NextIs (Evolves r₀)
        (execUserCounterWindowRead p tag lineIndex s) := by
  unfold execUserCounterWindowRead
  simp (maxDischargeDepth := 40) +contextual only [hs, ev_mk, ev_fold, ev_ite, ite_self, implies_true, nextIs_next, nextIs_ite, nextIs_fault,
        ev_windowRead]

theorem ev_execGlobalPersistentFlushPhase1 (p : Port) {r₀ s : State} (hs : Evolves r₀ s) : NextIs (Evolves r₀)
        (execGlobalPersistentFlushPhase1 p s) := by
  unfold execGlobalPersistentFlushPhase1
  simp (maxDischargeDepth := 40) +contextual only [hs, ev_mk, ev_fold, ev_ite, ite_self, implies_true, nextIs_next, nextIs_ite, nextIs_fault,
        ev_flush]

theorem ev_execGlobalPersistentFlushPhase2 (p : Port) {r₀ s : State} (hs : Evolves r₀ s) : NextIs (Evolves r₀)
        (execGlobalPersistentFlushPhase2 p s) := by
  unfold execGlobalPersistentFlushPhase2
  simp (maxDischargeDepth := 40) +contextual only [hs, ev_mk, ev_fold, ev_ite, ite_self, implies_true, nextIs_next, nextIs_ite, nextIs_fault,
        ev_flush]

theorem ev_execDmaDescriptorWrite (p : Port) (tag : Nat) (ch : Fin 16) (be : ByteEnables) (data : Line) {r₀ s : State} (hs : Evolves r₀ s) :
        NextIs (Evolves r₀) (execDmaDescriptorWrite p tag ch be data s) := by
  unfold execDmaDescriptorWrite
  simp (maxDischargeDepth := 40) +contextual only [hs, ev_mk, ev_fold, ev_ite, ite_self, implies_true, nextIs_next, nextIs_ite, nextIs_fault,
        ev_windowWrite]

theorem ev_execDmaStart (p : Port) (tag : Nat) (ch : Fin 16) {r₀ s : State} (hs : Evolves r₀ s) : NextIs (Evolves r₀) (execDmaStart p tag ch
        s) := by
  unfold execDmaStart
  simp (maxDischargeDepth := 40) +contextual only [hs, ev_mk, ev_fold, ev_ite, ite_self, implies_true, nextIs_next, nextIs_ite, nextIs_fault,
        ev_windowWrite]

theorem ev_execDmaAbort (p : Port) (tag : Nat) (ch : Fin 16) {r₀ s : State} (hs : Evolves r₀ s) : NextIs (Evolves r₀) (execDmaAbort p tag ch
        s) := by
  unfold execDmaAbort
  simp (maxDischargeDepth := 40) +contextual only [hs, ev_mk, ev_fold, ev_ite, ite_self, implies_true, nextIs_next, nextIs_ite, nextIs_fault,
        ev_windowWrite]

theorem ev_execHdmDecoderCommit (p : Port) (n : Fin 8) (ways dpaBase size : Nat) {r₀ s : State} (hs : Evolves r₀ s) : NextIs (Evolves r₀)
        (execHdmDecoderCommit p n ways dpaBase size s) := by
  unfold execHdmDecoderCommit
  simp (maxDischargeDepth := 40) +contextual only [hs, ev_mk, ev_fold, ev_ite, ite_self, implies_true, nextIs_next, nextIs_ite, nextIs_fault,
        ev_clearBit, ev_modPort, ev_raise, ev_setBit]

theorem ev_execPortDetect (p : Port) {r₀ s : State} (hs : Evolves r₀ s) : NextIs (Evolves r₀) (execPortDetect p s) := by
  unfold execPortDetect
  simp (maxDischargeDepth := 40) +contextual only [hs, ev_mk, ev_fold, ev_ite, ite_self, implies_true, nextIs_next, nextIs_ite, nextIs_fault,
        ev_modPort, ev_put]

theorem ev_execLinkUp (p : Port) (rate width : Nat) {r₀ s : State} (hs : Evolves r₀ s) : NextIs (Evolves r₀) (execLinkUp p rate width s) :=
        by
  unfold execLinkUp
  simp (maxDischargeDepth := 40) +contextual only [hs, ev_mk, ev_fold, ev_ite, ite_self, implies_true, nextIs_next, nextIs_ite, nextIs_fault,
        ev_modPort, ev_put, ev_raise, ev_raiseIf]

theorem ev_execLinkTrainingFailed (p : Port) {r₀ s : State} (hs : Evolves r₀ s) : NextIs (Evolves r₀) (execLinkTrainingFailed p s) := by
  unfold execLinkTrainingFailed
  simp (maxDischargeDepth := 40) +contextual only [hs, ev_mk, ev_fold, ev_ite, ite_self, implies_true, nextIs_next, nextIs_ite, nextIs_fault,
        ev_modPort, ev_put, ev_raise]

theorem ev_execPortException (p : Port) (cause : Nat) {r₀ s : State} (hs : Evolves r₀ s) : NextIs (Evolves r₀) (execPortException p cause s)
        := by
  unfold execPortException
  simp (maxDischargeDepth := 40) +contextual only [hs, ev_mk, ev_fold, ev_ite, ite_self, implies_true, nextIs_next, nextIs_ite, nextIs_fault,
        ev_contain, ev_portException]

theorem ev_execPerst (p : Port) (asserted : Bool) {r₀ s : State} (hs : Evolves r₀ s) : NextIs (Evolves r₀) (execPerst p asserted s) := by
  unfold execPerst
  simp (maxDischargeDepth := 40) +contextual only [hs, ev_mk, ev_fold, ev_ite, ite_self, implies_true, nextIs_next, nextIs_ite, nextIs_fault,
        ev_dropLink, ev_modPort, ev_portException, ev_raise, ev_resetPort]

theorem ev_execSurpriseLinkLoss (p : Port) {r₀ s : State} (hs : Evolves r₀ s) : NextIs (Evolves r₀) (execSurpriseLinkLoss p s) := by
  unfold execSurpriseLinkLoss
  simp (maxDischargeDepth := 40) +contextual only [hs, ev_mk, ev_fold, ev_ite, ite_self, implies_true, nextIs_next, nextIs_ite, nextIs_fault,
        ev_dropLink, ev_portException]

theorem ev_execViralReceived (p : Port) {r₀ s : State} (hs : Evolves r₀ s) : NextIs (Evolves r₀) (execViralReceived p s) := by
  unfold execViralReceived
  simp (maxDischargeDepth := 40) +contextual only [hs, ev_mk, ev_fold, ev_ite, ite_self, implies_true, nextIs_next, nextIs_ite, nextIs_fault,
        ev_contain, ev_raise]

theorem ev_execEntryRead (req : Req) (idx sub : Nat) {r₀ s : State} (hs : Evolves r₀ s) : NextIs (Evolves r₀) (execEntryRead req idx sub s)
        := by
  unfold execEntryRead
  simp (maxDischargeDepth := 40) +contextual only [hs, ev_mk, ev_fold, ev_ite, ite_self, implies_true, nextIs_next, nextIs_ite, nextIs_fault,
        ev_request]

theorem ev_execRcEntryRead (req : Req) (idx sub : Nat) {r₀ s : State} (hs : Evolves r₀ s) : NextIs (Evolves r₀) (execRcEntryRead req idx sub
        s) := by
  unfold execRcEntryRead
  simp (maxDischargeDepth := 40) +contextual only [hs, ev_mk, ev_fold, ev_ite, ite_self, implies_true, nextIs_next, nextIs_ite, nextIs_fault,
        ev_request]

theorem ev_execEntryWrite (req : Req) (idx sub : Nat) (value : List Byte) {r₀ s : State} (hs : Evolves r₀ s) : NextIs (Evolves r₀)
        (execEntryWrite req idx sub value s) := by
  unfold execEntryWrite
  simp (maxDischargeDepth := 40) +contextual only [hs, ev_mk, ev_fold, ev_ite, ite_self, implies_true, nextIs_next, nextIs_ite, nextIs_fault,
        ev_request]

theorem ev_execBlockRead (req : Req) (idx sub offset length : Nat) {r₀ s : State} (hs : Evolves r₀ s) : NextIs (Evolves r₀) (execBlockRead
        req idx sub offset length s) := by
  unfold execBlockRead
  simp (maxDischargeDepth := 40) +contextual only [hs, ev_mk, ev_fold, ev_ite, ite_self, implies_true, nextIs_next, nextIs_ite, nextIs_fault,
        ev_request]

theorem ev_execBlockWrite (req : Req) (idx sub offset : Nat) (segment : List Byte) (final : Bool) {r₀ s : State} (hs : Evolves r₀ s) :
        NextIs (Evolves r₀) (execBlockWrite req idx sub offset segment final s) := by
  unfold execBlockWrite
  simp (maxDischargeDepth := 40) +contextual only [hs, ev_mk, ev_fold, ev_ite, ite_self, implies_true, nextIs_next, nextIs_ite, nextIs_fault,
        ev_request]

theorem ev_execSetDefaults (req : Req) {r₀ s : State} (hs : Evolves r₀ s) : NextIs (Evolves r₀) (execSetDefaults req s) := by
  unfold execSetDefaults
  simp (maxDischargeDepth := 40) +contextual only [hs, ev_mk, ev_fold, ev_ite, ite_self, implies_true, nextIs_next, nextIs_ite, nextIs_fault,
        ev_request]

theorem ev_execForceUnprotectedWrite (req : Req) (value : List Byte) {r₀ s : State} (hs : Evolves r₀ s) : NextIs (Evolves r₀)
        (execForceUnprotectedWrite req value s) := by
  unfold execForceUnprotectedWrite
  simp (maxDischargeDepth := 40) +contextual only [hs, ev_mk, ev_fold, ev_ite, ite_self, implies_true, nextIs_next, nextIs_ite, nextIs_fault,
        ev_request]

theorem ev_execDeviceTimeWrite (req : Req) (value : List Byte) {r₀ s : State} (hs : Evolves r₀ s) : NextIs (Evolves r₀) (execDeviceTimeWrite
        req value s) := by
  unfold execDeviceTimeWrite
  simp (maxDischargeDepth := 40) +contextual only [hs, ev_mk, ev_fold, ev_ite, ite_self, implies_true, nextIs_next, nextIs_ite, nextIs_fault,
        ev_request]

theorem ev_execPortEnableWrite (req : Req) (which : Port) (value : List Byte) {r₀ s : State} (hs : Evolves r₀ s) : NextIs (Evolves r₀)
        (execPortEnableWrite req which value s) := by
  unfold execPortEnableWrite
  simp (maxDischargeDepth := 40) +contextual only [hs, ev_mk, ev_fold, ev_ite, ite_self, implies_true, nextIs_next, nextIs_ite, nextIs_fault,
        ev_request]

theorem ev_execRegionAttributeWrite (req : Req) (region : Fin 64) (sub : Nat) (value : List Byte) {r₀ s : State} (hs : Evolves r₀ s) :
        NextIs (Evolves r₀) (execRegionAttributeWrite req region sub value s) := by
  unfold execRegionAttributeWrite
  simp (maxDischargeDepth := 40) +contextual only [hs, ev_mk, ev_fold, ev_ite, ite_self, implies_true, nextIs_next, nextIs_ite, nextIs_fault,
        ev_request]

theorem ev_execRegionClassWrite (req : Req) (region : Fin 64) (value : List Byte) {r₀ s : State} (hs : Evolves r₀ s) : NextIs (Evolves r₀)
        (execRegionClassWrite req region value s) := by
  unfold execRegionClassWrite
  simp (maxDischargeDepth := 40) +contextual only [hs, ev_mk, ev_fold, ev_ite, ite_self, implies_true, nextIs_next, nextIs_ite, nextIs_fault,
        ev_request]

theorem ev_execPromptPreparationDone (region : Fin 64) {r₀ s : State} (hs : Evolves r₀ s) : NextIs (Evolves r₀) (execPromptPreparationDone
        region s) := by
  unfold execPromptPreparationDone
  simp (maxDischargeDepth := 40) +contextual only [hs, ev_mk, ev_fold, ev_ite, ite_self, implies_true, nextIs_next, nextIs_ite, nextIs_fault,
        ev_pinRegion, ev_setRegionState]

theorem ev_execPolicyProfileWrite (req : Req) (value : List Byte) {r₀ s : State} (hs : Evolves r₀ s) : NextIs (Evolves r₀)
        (execPolicyProfileWrite req value s) := by
  unfold execPolicyProfileWrite
  simp (maxDischargeDepth := 40) +contextual only [hs, ev_mk, ev_fold, ev_ite, ite_self, implies_true, nextIs_next, nextIs_ite, nextIs_fault,
        ev_request]

theorem ev_execForceAbort (req : Req) (arg : List Byte) {r₀ s : State} (hs : Evolves r₀ s) : NextIs (Evolves r₀) (execForceAbort req arg s)
        := by
  unfold execForceAbort
  simp (maxDischargeDepth := 40) +contextual only [hs, ev_mk, ev_fold, ev_ite, ite_self, implies_true, nextIs_next, nextIs_ite, nextIs_fault,
        ev_request]

theorem ev_execRetireDie (req : Req) (arg : List Byte) {r₀ s : State} (hs : Evolves r₀ s) : NextIs (Evolves r₀) (execRetireDie req arg s) :=
        by
  unfold execRetireDie
  simp (maxDischargeDepth := 40) +contextual only [hs, ev_mk, ev_fold, ev_ite, ite_self, implies_true, nextIs_next, nextIs_ite, nextIs_fault,
        ev_request]

theorem ev_execRegionOffline (req : Req) (arg : List Byte) {r₀ s : State} (hs : Evolves r₀ s) : NextIs (Evolves r₀) (execRegionOffline req
        arg s) := by
  unfold execRegionOffline
  simp (maxDischargeDepth := 40) +contextual only [hs, ev_mk, ev_fold, ev_ite, ite_self, implies_true, nextIs_next, nextIs_ite, nextIs_fault,
        ev_request]

theorem ev_execRegionOnline (req : Req) (arg : List Byte) {r₀ s : State} (hs : Evolves r₀ s) : NextIs (Evolves r₀) (execRegionOnline req arg
        s) := by
  unfold execRegionOnline
  simp (maxDischargeDepth := 40) +contextual only [hs, ev_mk, ev_fold, ev_ite, ite_self, implies_true, nextIs_next, nextIs_ite, nextIs_fault,
        ev_request]

theorem ev_execRenewKeySlot (req : Req) (arg : List Byte) {r₀ s : State} (hs : Evolves r₀ s) : NextIs (Evolves r₀) (execRenewKeySlot req arg
        s) := by
  unfold execRenewKeySlot
  simp (maxDischargeDepth := 40) +contextual only [hs, ev_mk, ev_fold, ev_ite, ite_self, implies_true, nextIs_next, nextIs_ite, nextIs_fault,
        ev_request]

theorem ev_execResumeFromHalt (req : Req) (arg : List Byte) {r₀ s : State} (hs : Evolves r₀ s) : NextIs (Evolves r₀) (execResumeFromHalt req
        arg s) := by
  unfold execResumeFromHalt
  simp (maxDischargeDepth := 40) +contextual only [hs, ev_mk, ev_fold, ev_ite, ite_self, implies_true, nextIs_next, nextIs_ite, nextIs_fault,
        ev_request]

theorem ev_execClearTable (req : Req) {r₀ s : State} (hs : Evolves r₀ s) : NextIs (Evolves r₀) (execClearTable req s) := by
  unfold execClearTable
  simp (maxDischargeDepth := 40) +contextual only [hs, ev_mk, ev_fold, ev_ite, ite_self, implies_true, nextIs_next, nextIs_ite, nextIs_fault,
        ev_request]

theorem ev_execWriteRaw (req : Req) {r₀ s : State} (hs : Evolves r₀ s) : NextIs (Evolves r₀) (execWriteRaw req s) := by
  unfold execWriteRaw
  simp (maxDischargeDepth := 40) +contextual only [hs, ev_mk, ev_fold, ev_ite, ite_self, implies_true, nextIs_next, nextIs_ite, nextIs_fault,
        ev_request]

theorem ev_execReadRaw (req : Req) (result : CodeResult) (decoded : List Byte) {r₀ s : State} (hs : Evolves r₀ s) : NextIs (Evolves r₀)
        (execReadRaw req result decoded s) := by
  unfold execReadRaw
  simp (maxDischargeDepth := 40) +contextual only [hs, ev_mk, ev_fold, ev_ite, ite_self, implies_true, nextIs_next, nextIs_ite, nextIs_fault,
        ev_request]

theorem ev_execRetryRails (req : Req) {r₀ s : State} (hs : Evolves r₀ s) : NextIs (Evolves r₀) (execRetryRails req s) := by
  unfold execRetryRails
  simp (maxDischargeDepth := 40) +contextual only [hs, ev_mk, ev_fold, ev_ite, ite_self, implies_true, nextIs_next, nextIs_ite, nextIs_fault,
        ev_request]

theorem ev_execRunYoYoTest (req : Req) {r₀ s : State} (hs : Evolves r₀ s) : NextIs (Evolves r₀) (execRunYoYoTest req s) := by
  unfold execRunYoYoTest
  simp (maxDischargeDepth := 40) +contextual only [hs, ev_mk, ev_fold, ev_ite, ite_self, implies_true, nextIs_next, nextIs_ite, nextIs_fault,
        ev_request]

theorem ev_execServiceRelease (req : Req) {r₀ s : State} (hs : Evolves r₀ s) : NextIs (Evolves r₀) (execServiceRelease req s) := by
  unfold execServiceRelease
  simp (maxDischargeDepth := 40) +contextual only [hs, ev_mk, ev_fold, ev_ite, ite_self, implies_true, nextIs_next, nextIs_ite, nextIs_fault,
        ev_request]

theorem ev_execOffRequest (req : Req) {r₀ s : State} (hs : Evolves r₀ s) : NextIs (Evolves r₀) (execOffRequest req s) := by
  unfold execOffRequest
  simp (maxDischargeDepth := 40) +contextual only [hs, ev_mk, ev_fold, ev_ite, ite_self, implies_true, nextIs_next, nextIs_ite, nextIs_fault,
        ev_request]

theorem ev_execOnRequest (req : Req) {r₀ s : State} (hs : Evolves r₀ s) : NextIs (Evolves r₀) (execOnRequest req s) := by
  unfold execOnRequest
  simp (maxDischargeDepth := 40) +contextual only [hs, ev_mk, ev_fold, ev_ite, ite_self, implies_true, nextIs_next, nextIs_ite, nextIs_fault,
        ev_request]

theorem ev_execDeviceReset (req : Req) {r₀ s : State} (hs : Evolves r₀ s) : NextIs (Evolves r₀) (execDeviceReset req s) := by
  unfold execDeviceReset
  simp (maxDischargeDepth := 40) +contextual only [hs, ev_mk, ev_fold, ev_ite, ite_self, implies_true, nextIs_next, nextIs_ite, nextIs_fault,
        ev_request]

theorem ev_execEnterDoze (req : Req) {r₀ s : State} (hs : Evolves r₀ s) : NextIs (Evolves r₀) (execEnterDoze req s) := by
  unfold execEnterDoze
  simp (maxDischargeDepth := 40) +contextual only [hs, ev_mk, ev_fold, ev_ite, ite_self, implies_true, nextIs_next, nextIs_ite, nextIs_fault,
        ev_request]

theorem ev_execWakeDelay {r₀ s : State} (hs : Evolves r₀ s) : NextIs (Evolves r₀) (execWakeDelay s) := by
  unfold execWakeDelay
  simp (maxDischargeDepth := 40) +contextual only [hs, ev_mk, ev_fold, ev_ite, ite_self, implies_true, nextIs_next, nextIs_ite, nextIs_fault,
        ev_serveDeferred, ev_wakeUp]

theorem ev_execEnterService (req : Req) {r₀ s : State} (hs : Evolves r₀ s) : NextIs (Evolves r₀) (execEnterService req s) := by
  unfold execEnterService
  simp (maxDischargeDepth := 40) +contextual only [hs, ev_mk, ev_fold, ev_ite, ite_self, implies_true, nextIs_next, nextIs_ite, nextIs_fault,
        ev_request]

theorem ev_execLeaveService (req : Req) {r₀ s : State} (hs : Evolves r₀ s) : NextIs (Evolves r₀) (execLeaveService req s) := by
  unfold execLeaveService
  simp (maxDischargeDepth := 40) +contextual only [hs, ev_mk, ev_fold, ev_ite, ite_self, implies_true, nextIs_next, nextIs_ite, nextIs_fault,
        ev_request]

theorem ev_execActivateOnline (req : Req) (result : ActivationResult) {r₀ s : State} (hs : Evolves r₀ s) : NextIs (Evolves r₀)
        (execActivateOnline req result s) := by
  unfold execActivateOnline
  simp (maxDischargeDepth := 40) +contextual only [hs, ev_mk, ev_fold, ev_ite, ite_self, implies_true, nextIs_next, nextIs_ite, nextIs_fault,
        ev_request]

theorem ev_execReAdmitSensor (req : Req) (arg : List Byte) {r₀ s : State} (hs : Evolves r₀ s) : NextIs (Evolves r₀) (execReAdmitSensor req
        arg s) := by
  unfold execReAdmitSensor
  simp (maxDischargeDepth := 40) +contextual only [hs, ev_mk, ev_fold, ev_ite, ite_self, implies_true, nextIs_next, nextIs_ite, nextIs_fault,
        ev_request]

theorem ev_execLatchClear (req : Req) (source : Fin 288) (value : List Byte) {r₀ s : State} (hs : Evolves r₀ s) : NextIs (Evolves r₀)
        (execLatchClear req source value s) := by
  unfold execLatchClear
  simp (maxDischargeDepth := 40) +contextual only [hs, ev_mk, ev_fold, ev_ite, ite_self, implies_true, nextIs_next, nextIs_ite, nextIs_fault,
        ev_request]

theorem ev_execClearRecorder (req : Req) (arg : List Byte) {r₀ s : State} (hs : Evolves r₀ s) : NextIs (Evolves r₀) (execClearRecorder req
        arg s) := by
  unfold execClearRecorder
  simp (maxDischargeDepth := 40) +contextual only [hs, ev_mk, ev_fold, ev_ite, ite_self, implies_true, nextIs_next, nextIs_ite, nextIs_fault,
        ev_request]

theorem ev_execCounterSelectWrite (req : Req) (n : Fin 512) (value : List Byte) {r₀ s : State} (hs : Evolves r₀ s) : NextIs (Evolves r₀)
        (execCounterSelectWrite req n value s) := by
  unfold execCounterSelectWrite
  simp (maxDischargeDepth := 40) +contextual only [hs, ev_mk, ev_fold, ev_ite, ite_self, implies_true, nextIs_next, nextIs_ite, nextIs_fault,
        ev_request]

theorem ev_execCounterStickyClear (req : Req) (n : Fin 512) (value : List Byte) {r₀ s : State} (hs : Evolves r₀ s) : NextIs (Evolves r₀)
        (execCounterStickyClear req n value s) := by
  unfold execCounterStickyClear
  simp (maxDischargeDepth := 40) +contextual only [hs, ev_mk, ev_fold, ev_ite, ite_self, implies_true, nextIs_next, nextIs_ite, nextIs_fault,
        ev_request]

theorem ev_execQueueFlush (req : Req) (value : List Byte) {r₀ s : State} (hs : Evolves r₀ s) : NextIs (Evolves r₀) (execQueueFlush req value
        s) := by
  unfold execQueueFlush
  simp (maxDischargeDepth := 40) +contextual only [hs, ev_mk, ev_fold, ev_ite, ite_self, implies_true, nextIs_next, nextIs_ite, nextIs_fault,
        ev_request]

theorem ev_execOldestSampleItemRead (req : Req) {r₀ s : State} (hs : Evolves r₀ s) : NextIs (Evolves r₀) (execOldestSampleItemRead req s) :=
        by
  unfold execOldestSampleItemRead
  simp (maxDischargeDepth := 40) +contextual only [hs, ev_mk, ev_fold, ev_ite, ite_self, implies_true, nextIs_next, nextIs_ite, nextIs_fault,
        ev_request]

theorem ev_execReleaseChannel (req : Req) (arg : List Byte) {r₀ s : State} (hs : Evolves r₀ s) : NextIs (Evolves r₀) (execReleaseChannel req
        arg s) := by
  unfold execReleaseChannel
  simp (maxDischargeDepth := 40) +contextual only [hs, ev_mk, ev_fold, ev_ite, ite_self, implies_true, nextIs_next, nextIs_ite, nextIs_fault,
        ev_request]

theorem ev_execFieldLinkConfigWrite (req : Req) (sub : Nat) (value : List Byte) {r₀ s : State} (hs : Evolves r₀ s) : NextIs (Evolves r₀)
        (execFieldLinkConfigWrite req sub value s) := by
  unfold execFieldLinkConfigWrite
  simp (maxDischargeDepth := 40) +contextual only [hs, ev_mk, ev_fold, ev_ite, ite_self, implies_true, nextIs_next, nextIs_ite, nextIs_fault,
        ev_request]

theorem ev_execAgeMeterReprogram {r₀ s : State} (hs : Evolves r₀ s) : NextIs (Evolves r₀) (execAgeMeterReprogram s) := by
  unfold execAgeMeterReprogram
  simp (maxDischargeDepth := 40) +contextual only [hs, ev_mk, ev_fold, ev_ite, ite_self, implies_true, nextIs_next, nextIs_ite, nextIs_fault]

theorem ev_execPriorityPass {r₀ s : State} (hs : Evolves r₀ s) : NextIs (Evolves r₀) (execPriorityPass s) := by
  unfold execPriorityPass
  simp (maxDischargeDepth := 40) +contextual only [hs, ev_mk, ev_fold, ev_ite, ite_self, implies_true, nextIs_next, nextIs_ite, nextIs_fault,
        ev_judgeEpisode, ev_put, ev_foldl]

theorem ev_execPatrolVisit (unit : Fin 1048576) (report : PatrolReport) {r₀ s : State} (hs : Evolves r₀ s) : NextIs (Evolves r₀)
        (execPatrolVisit unit report s) := by
  unfold execPatrolVisit
  simp (maxDischargeDepth := 40) +contextual only [hs, ev_mk, ev_fold, ev_ite, ite_self, implies_true, nextIs_next, nextIs_ite, nextIs_fault,
        ev_prunePass, ev_visit]

theorem ev_execOutOfTurnVisit (unit : Fin 1048576) (report : PatrolReport) {r₀ s : State} (hs : Evolves r₀ s) : NextIs (Evolves r₀)
        (execOutOfTurnVisit unit report s) := by
  unfold execOutOfTurnVisit
  simp (maxDischargeDepth := 40) +contextual only [hs, ev_mk, ev_fold, ev_ite, ite_self, implies_true, nextIs_next, nextIs_ite, nextIs_fault,
        ev_visit]

theorem ev_execUnitRetest (unit : Fin 1048576) (pass : Bool) {r₀ s : State} (hs : Evolves r₀ s) : NextIs (Evolves r₀) (execUnitRetest unit
        pass s) := by
  unfold execUnitRetest
  simp (maxDischargeDepth := 40) +contextual only [hs, ev_mk, ev_fold, ev_ite, ite_self, implies_true, nextIs_next, nextIs_ite, nextIs_fault,
        ev_lastingFault, ev_setUnitState]

theorem ev_execDemotion (stripe : Fin 65536) {r₀ s : State} (hs : Evolves r₀ s) : NextIs (Evolves r₀) (execDemotion stripe s) := by
  unfold execDemotion
  (try simp (maxDischargeDepth := 40) +contextual only [hs, ev_mk, ev_fold, ev_ite, ite_self, implies_true, nextIs_next, nextIs_ite,
        nextIs_fault, ev_collect, ev_setStripe])
  repeat' split
  all_goals first
    | (with_reducible exact hs)
    | (simp (maxDischargeDepth := 40) +contextual only [hs, ev_mk, ev_fold, ev_ite, ite_self, implies_true, nextIs_next, nextIs_ite, nextIs_fault,
        ev_collect, ev_setStripe]; done)

theorem ev_execFloorRestoreMove (page : Nat) {r₀ s : State} (hs : Evolves r₀ s) : NextIs (Evolves r₀) (execFloorRestoreMove page s) := by
  unfold execFloorRestoreMove
  (try simp (maxDischargeDepth := 40) +contextual only [hs, ev_mk, ev_fold, ev_ite, ite_self, implies_true, nextIs_next, nextIs_ite,
        nextIs_fault, ev_writeMoves])
  repeat' split
  all_goals first
    | (with_reducible exact hs)
    | (simp (maxDischargeDepth := 40) +contextual only [hs, ev_mk, ev_fold, ev_ite, ite_self, implies_true, nextIs_next, nextIs_ite, nextIs_fault,
        ev_writeMoves]; done)

theorem ev_execDieRetiring (die : Fin 64) {r₀ s : State} (hs : Evolves r₀ s) : NextIs (Evolves r₀) (execDieRetiring die s) := by
  unfold execDieRetiring
  simp (maxDischargeDepth := 40) +contextual only [hs, ev_mk, ev_fold, ev_ite, ite_self, implies_true, nextIs_next, nextIs_ite, nextIs_fault,
        ev_dieLeaves]

theorem ev_execDieFailed (die : Fin 64) {r₀ s : State} (hs : Evolves r₀ s) : NextIs (Evolves r₀) (execDieFailed die s) := by
  unfold execDieFailed
  simp (maxDischargeDepth := 40) +contextual only [hs, ev_mk, ev_fold, ev_ite, ite_self, implies_true, nextIs_next, nextIs_ite, nextIs_fault,
        ev_dieLeaves]

theorem ev_execChannelRetired (channel : Fin 16) (canTransfer failedTraining : Bool) {r₀ s : State} (hs : Evolves r₀ s) : NextIs (Evolves
        r₀) (execChannelRetired channel canTransfer failedTraining s) := by
  unfold execChannelRetired
  simp (maxDischargeDepth := 40) +contextual only [hs, ev_mk, ev_fold, ev_ite, ite_self, implies_true, nextIs_next, nextIs_ite, nextIs_fault,
        ev_bump, ev_dieLeaves, ev_judgeEpisode, ev_put, ev_raise, ev_foldl]

theorem ev_execRebuildComplete (die : Fin 64) {r₀ s : State} (hs : Evolves r₀ s) : NextIs (Evolves r₀) (execRebuildComplete die s) := by
  unfold execRebuildComplete
  simp (maxDischargeDepth := 40) +contextual only [hs, ev_mk, ev_fold, ev_ite, ite_self, implies_true, nextIs_next, nextIs_ite, nextIs_fault,
        ev_bump, ev_judgeEpisode, ev_noteHealth, ev_put, ev_raise]

theorem ev_execStripeWithdrawn (stripe : Fin 65536) {r₀ s : State} (hs : Evolves r₀ s) : NextIs (Evolves r₀) (execStripeWithdrawn stripe s)
        := by
  unfold execStripeWithdrawn
  (try simp (maxDischargeDepth := 40) +contextual only [hs, ev_mk, ev_fold, ev_ite, ite_self, implies_true, nextIs_next, nextIs_ite,
        nextIs_fault, ev_collect, ev_setStripe])
  repeat' split
  all_goals first
    | (with_reducible exact hs)
    | (simp (maxDischargeDepth := 40) +contextual only [hs, ev_mk, ev_fold, ev_ite, ite_self, implies_true, nextIs_next, nextIs_ite, nextIs_fault,
        ev_collect, ev_setStripe]; done)

theorem ev_execOccurrence (source : Fin 288) {r₀ s : State} (hs : Evolves r₀ s) : NextIs (Evolves r₀) (execOccurrence source s) := by
  unfold execOccurrence
  simp (maxDischargeDepth := 40) +contextual only [hs, ev_mk, ev_fold, ev_ite, ite_self, implies_true, nextIs_next, nextIs_ite, nextIs_fault,
        ev_bump, ev_drawn, ev_raise]

theorem ev_execHeldMsiX (p : Port) {r₀ s : State} (hs : Evolves r₀ s) : NextIs (Evolves r₀) (execHeldMsiX p s) := by
  unfold execHeldMsiX
  (try simp (maxDischargeDepth := 40) +contextual only [hs, ev_mk, ev_fold, ev_ite, ite_self, implies_true, nextIs_next, nextIs_ite,
        nextIs_fault, ev_emit, ev_modPort])
  repeat' split
  all_goals first
    | (with_reducible exact hs)
    | (simp (maxDischargeDepth := 40) +contextual only [hs, ev_mk, ev_fold, ev_ite, ite_self, implies_true, nextIs_next, nextIs_ite, nextIs_fault,
        ev_emit, ev_modPort]; done)

theorem ev_execRecorderWrite {r₀ s : State} (hs : Evolves r₀ s) : NextIs (Evolves r₀) (execRecorderWrite s) := by
  unfold execRecorderWrite
  simp (maxDischargeDepth := 40) +contextual only [hs, ev_mk, ev_fold, ev_ite, ite_self, implies_true, nextIs_next, nextIs_ite, nextIs_fault,
        ev_writeNextRecord]

theorem ev_execCaptureEpisode {r₀ s : State} (hs : Evolves r₀ s) : NextIs (Evolves r₀) (execCaptureEpisode s) := by
  unfold execCaptureEpisode
  simp (maxDischargeDepth := 40) +contextual only [hs, ev_mk, ev_fold, ev_ite, ite_self, implies_true, nextIs_next, nextIs_ite, nextIs_fault,
        ev_judgeEpisode]

theorem ev_execCoreDelayMargin (_quadrant : Fin 4) {r₀ s : State} (hs : Evolves r₀ s) : NextIs (Evolves r₀) (execCoreDelayMargin _quadrant
        s) := by
  unfold execCoreDelayMargin
  simp (maxDischargeDepth := 40) +contextual only [hs, ev_mk, ev_fold, ev_ite, ite_self, implies_true, nextIs_next, nextIs_ite, nextIs_fault,
        ev_raiseVcore]

theorem ev_execCrossingError (source : Nat) {r₀ s : State} (hs : Evolves r₀ s) : NextIs (Evolves r₀) (execCrossingError source s) := by
  unfold execCrossingError
  simp (maxDischargeDepth := 40) +contextual only [hs, ev_mk, ev_fold, ev_ite, ite_self, implies_true, nextIs_next, nextIs_ite, nextIs_fault,
        ev_raise]

theorem ev_execCompletionStall {r₀ s : State} (hs : Evolves r₀ s) : NextIs (Evolves r₀) (execCompletionStall s) := by
  unfold execCompletionStall
  simp (maxDischargeDepth := 40) +contextual only [hs, ev_mk, ev_fold, ev_ite, ite_self, implies_true, nextIs_next, nextIs_ite, nextIs_fault,
        ev_criticalError, ev_raise]

theorem ev_execFrameReceived (frame : Frame) {r₀ s : State} (hs : Evolves r₀ s) : NextIs (Evolves r₀) (execFrameReceived frame s) := by
  unfold execFrameReceived
  simp (maxDischargeDepth := 40) +contextual only [hs, ev_mk, ev_fold, ev_ite, ite_self, implies_true, nextIs_next, nextIs_ite, nextIs_fault,
        ev_bump, ev_queueFrame]

theorem ev_execDiscover (source : Nat) {r₀ s : State} (hs : Evolves r₀ s) : NextIs (Evolves r₀) (execDiscover source s) := by
  unfold execDiscover
  simp (maxDischargeDepth := 40) +contextual only [hs, ev_mk, ev_fold, ev_ite, ite_self, implies_true, nextIs_next, nextIs_ite, nextIs_fault,
        ev_arrive, ev_sendFrame]

theorem ev_execRattle (code : Nat) {r₀ s : State} (hs : Evolves r₀ s) : NextIs (Evolves r₀) (execRattle code s) := by
  unfold execRattle
  simp (maxDischargeDepth := 40) +contextual only [hs, ev_mk, ev_fold, ev_ite, ite_self, implies_true, nextIs_next, nextIs_ite, nextIs_fault,
        ev_bump, ev_raise, ev_wakeSource]

theorem ev_execNotice {r₀ s : State} (hs : Evolves r₀ s) : NextIs (Evolves r₀) (execNotice s) := by
  unfold execNotice
  split
  · exact hs
  · split
    · exact ev_mgmt _ hs ⟨id, id, id, id⟩
    · dsimp only
      split
      · exact hs
      · cases h : s.mgmt.notices with
        | nil => exact hs
        | cons n rest =>
          exact ev_sendFrame _ _ _ (ev_bump _ (ev_mgmt _ hs ⟨id, id, id, fun hn => by rw [h] at hn; exact Nat.le_of_succ_le hn⟩))

theorem ev_execBeaconLoss {r₀ s : State} (hs : Evolves r₀ s) : NextIs (Evolves r₀) (execBeaconLoss s) := by
  unfold execBeaconLoss
  simp (maxDischargeDepth := 40) +contextual only [hs, ev_mk, ev_fold, ev_ite, ite_self, implies_true, nextIs_next, nextIs_ite, nextIs_fault,
        ev_raise]

theorem ev_execBeaconReceived {r₀ s : State} (hs : Evolves r₀ s) : NextIs (Evolves r₀) (execBeaconReceived s) := by
  unfold execBeaconReceived
  simp (maxDischargeDepth := 40) +contextual only [hs, ev_mk, ev_fold, ev_ite, ite_self, implies_true, nextIs_next, nextIs_ite, nextIs_fault,
        ev_raise]

theorem ev_execNodeIdConflict {r₀ s : State} (hs : Evolves r₀ s) : NextIs (Evolves r₀) (execNodeIdConflict s) := by
  unfold execNodeIdConflict
  simp (maxDischargeDepth := 40) +contextual only [hs, ev_mk, ev_fold, ev_ite, ite_self, implies_true, nextIs_next, nextIs_ite, nextIs_fault,
        ev_bump, ev_raise]

theorem ev_execReducedRateRefill {r₀ s : State} (hs : Evolves r₀ s) : NextIs (Evolves r₀) (execReducedRateRefill s) := by
  unfold execReducedRateRefill
  simp (maxDischargeDepth := 40) +contextual only [hs, ev_mk, ev_fold, ev_ite, ite_self, implies_true, nextIs_next, nextIs_ite, nextIs_fault]

theorem ev_mailboxCommand {p : Port} {f : State → State} {r₀ s : State} (hf : ∀ t, Evolves r₀ t → Evolves r₀ (f t)) (hs : Evolves r₀ s) :
    NextIs (Evolves r₀) (mailboxCommand p f s) := by
  unfold mailboxCommand
  split
  · exact hf _ (ev_cond (ev_wakeBy _ hs) hs)
  · exact hs

theorem ev_execIdentify (p : Port) {r₀ s : State} (hs : Evolves r₀ s) : NextIs (Evolves r₀) (execIdentify p s) := by
  unfold execIdentify
  refine ev_mailboxCommand (fun t ht => ?_) hs
  (try simp (maxDischargeDepth := 40) +contextual only [ht, ev_mk, ev_fold, ev_ite, ite_self, implies_true, nextIs_next, nextIs_ite,
        nextIs_fault, ev_mailboxAnswer])
  repeat' split
  all_goals first
    | (with_reducible exact ht)
    | (simp (maxDischargeDepth := 40) +contextual only [ht, ev_mk, ev_fold, ev_ite, ite_self, implies_true, nextIs_next, nextIs_ite, nextIs_fault,
        ev_mailboxAnswer]; done)

theorem ev_execGetTimestamp (p : Port) {r₀ s : State} (hs : Evolves r₀ s) : NextIs (Evolves r₀) (execGetTimestamp p s) := by
  unfold execGetTimestamp
  refine ev_mailboxCommand (fun t ht => ?_) hs
  (try simp (maxDischargeDepth := 40) +contextual only [ht, ev_mk, ev_fold, ev_ite, ite_self, implies_true, nextIs_next, nextIs_ite,
        nextIs_fault, ev_mailboxAnswer])
  repeat' split
  all_goals first
    | (with_reducible exact ht)
    | (simp (maxDischargeDepth := 40) +contextual only [ht, ev_mk, ev_fold, ev_ite, ite_self, implies_true, nextIs_next, nextIs_ite, nextIs_fault,
        ev_mailboxAnswer]; done)

theorem ev_execSetTimestamp (p : Port) (time : Word) {r₀ s : State} (hs : Evolves r₀ s) : NextIs (Evolves r₀) (execSetTimestamp p time s) :=
        by
  unfold execSetTimestamp
  refine ev_mailboxCommand (fun t ht => ?_) hs
  (try simp (maxDischargeDepth := 40) +contextual only [ht, ev_mk, ev_fold, ev_ite, ite_self, implies_true, nextIs_next, nextIs_ite,
        nextIs_fault, ev_mailboxAnswer, ev_setTime])
  repeat' split
  all_goals first
    | (with_reducible exact ht)
    | (simp (maxDischargeDepth := 40) +contextual only [ht, ev_mk, ev_fold, ev_ite, ite_self, implies_true, nextIs_next, nextIs_ite, nextIs_fault,
        ev_mailboxAnswer, ev_setTime]; done)

theorem ev_execIdentifyMemoryDevice (p : Port) {r₀ s : State} (hs : Evolves r₀ s) : NextIs (Evolves r₀) (execIdentifyMemoryDevice p s) := by
  unfold execIdentifyMemoryDevice
  refine ev_mailboxCommand (fun t ht => ?_) hs
  (try simp (maxDischargeDepth := 40) +contextual only [ht, ev_mk, ev_fold, ev_ite, ite_self, implies_true, nextIs_next, nextIs_ite,
        nextIs_fault, ev_mailboxAnswer])
  repeat' split
  all_goals first
    | (with_reducible exact ht)
    | (simp (maxDischargeDepth := 40) +contextual only [ht, ev_mk, ev_fold, ev_ite, ite_self, implies_true, nextIs_next, nextIs_ite, nextIs_fault,
        ev_mailboxAnswer]; done)

theorem ev_execGetHealthInfo (p : Port) {r₀ s : State} (hs : Evolves r₀ s) : NextIs (Evolves r₀) (execGetHealthInfo p s) := by
  unfold execGetHealthInfo
  refine ev_mailboxCommand (fun t ht => ?_) hs
  (try simp (maxDischargeDepth := 40) +contextual only [ht, ev_mk, ev_fold, ev_ite, ite_self, implies_true, nextIs_next, nextIs_ite,
        nextIs_fault, ev_drawn, ev_mailboxAnswer])
  repeat' split
  all_goals first
    | (with_reducible exact ht)
    | (simp (maxDischargeDepth := 40) +contextual only [ht, ev_mk, ev_fold, ev_ite, ite_self, implies_true, nextIs_next, nextIs_ite, nextIs_fault,
        ev_drawn, ev_mailboxAnswer]; done)

theorem ev_execGetEventRecords (p : Port) (log : Fin 4) {r₀ s : State} (hs : Evolves r₀ s) : NextIs (Evolves r₀) (execGetEventRecords p log
        s) := by
  unfold execGetEventRecords
  refine ev_mailboxCommand (fun t ht => ?_) hs
  (try simp (maxDischargeDepth := 40) +contextual only [ht, ev_mk, ev_fold, ev_ite, ite_self, implies_true, nextIs_next, nextIs_ite,
        nextIs_fault, ev_mailboxAnswer])
  repeat' split
  all_goals first
    | (with_reducible exact ht)
    | (simp (maxDischargeDepth := 40) +contextual only [ht, ev_mk, ev_fold, ev_ite, ite_self, implies_true, nextIs_next, nextIs_ite, nextIs_fault,
        ev_mailboxAnswer]; done)

theorem ev_execClearEventRecords (p : Port) (log : Fin 4) (handles : Option (List Nat)) {r₀ s : State} (hs : Evolves r₀ s) : NextIs (Evolves
        r₀) (execClearEventRecords p log handles s) := by
  unfold execClearEventRecords
  refine ev_mailboxCommand (fun t ht => ?_) hs
  (try simp (maxDischargeDepth := 40) +contextual only [ht, ev_mk, ev_fold, ev_ite, ite_self, implies_true, nextIs_next, nextIs_ite,
        nextIs_fault, ev_clearLog, ev_mailboxAnswer])
  repeat' split
  all_goals first
    | (with_reducible exact ht)
    | (simp (maxDischargeDepth := 40) +contextual only [ht, ev_mk, ev_fold, ev_ite, ite_self, implies_true, nextIs_next, nextIs_ite, nextIs_fault,
        ev_clearLog, ev_mailboxAnswer]; done)

theorem ev_execGetEventInterruptPolicy (p : Port) {r₀ s : State} (hs : Evolves r₀ s) : NextIs (Evolves r₀) (execGetEventInterruptPolicy p s)
        := by
  unfold execGetEventInterruptPolicy
  refine ev_mailboxCommand (fun t ht => ?_) hs
  (try simp (maxDischargeDepth := 40) +contextual only [ht, ev_mk, ev_fold, ev_ite, ite_self, implies_true, nextIs_next, nextIs_ite,
        nextIs_fault, ev_mailboxAnswer])
  repeat' split
  all_goals first
    | (with_reducible exact ht)
    | (simp (maxDischargeDepth := 40) +contextual only [ht, ev_mk, ev_fold, ev_ite, ite_self, implies_true, nextIs_next, nextIs_ite, nextIs_fault,
        ev_mailboxAnswer]; done)

theorem ev_execSetEventInterruptPolicy (p : Port) (info warn fail fatal : Byte) {r₀ s : State} (hs : Evolves r₀ s) : NextIs (Evolves r₀)
        (execSetEventInterruptPolicy p info warn fail fatal s) := by
  unfold execSetEventInterruptPolicy
  refine ev_mailboxCommand (fun t ht => ?_) hs
  (try simp (maxDischargeDepth := 40) +contextual only [ht, ev_mk, ev_fold, ev_ite, ite_self, implies_true, nextIs_next, nextIs_ite,
        nextIs_fault, ev_mailboxAnswer, ev_modPort])
  repeat' split
  all_goals first
    | (with_reducible exact ht)
    | (simp (maxDischargeDepth := 40) +contextual only [ht, ev_mk, ev_fold, ev_ite, ite_self, implies_true, nextIs_next, nextIs_ite, nextIs_fault,
        ev_mailboxAnswer, ev_modPort]; done)

theorem ev_execGetFwInfo (p : Port) {r₀ s : State} (hs : Evolves r₀ s) : NextIs (Evolves r₀) (execGetFwInfo p s) := by
  unfold execGetFwInfo
  refine ev_mailboxCommand (fun t ht => ?_) hs
  (try simp (maxDischargeDepth := 40) +contextual only [ht, ev_mk, ev_fold, ev_ite, ite_self, implies_true, nextIs_next, nextIs_ite,
        nextIs_fault, ev_mailboxAnswer])
  repeat' split
  all_goals first
    | (with_reducible exact ht)
    | (simp (maxDischargeDepth := 40) +contextual only [ht, ev_mk, ev_fold, ev_ite, ite_self, implies_true, nextIs_next, nextIs_ite, nextIs_fault,
        ev_mailboxAnswer]; done)

theorem ev_execTransferFw (p : Port) (signatureOk : Bool) (version : Nat) {r₀ s : State} (hs : Evolves r₀ s) : NextIs (Evolves r₀)
        (execTransferFw p signatureOk version s) := by
  unfold execTransferFw
  refine ev_mailboxCommand (fun t ht => ?_) hs
  (try simp (maxDischargeDepth := 40) +contextual only [ht, ev_mk, ev_fold, ev_ite, ite_self, implies_true, nextIs_next, nextIs_ite,
        nextIs_fault, ev_mailboxAnswer, ev_mailboxBusy, ev_stageImage])
  repeat' split
  all_goals first
    | (with_reducible exact ht)
    | (simp (maxDischargeDepth := 40) +contextual only [ht, ev_mk, ev_fold, ev_ite, ite_self, implies_true, nextIs_next, nextIs_ite, nextIs_fault,
        ev_mailboxAnswer, ev_mailboxBusy, ev_stageImage]; done)

theorem ev_execActivateFw (p : Port) (online : Bool) (result : ActivationResult) {r₀ s : State} (hs : Evolves r₀ s) : NextIs (Evolves r₀)
        (execActivateFw p online result s) := by
  unfold execActivateFw
  refine ev_mailboxCommand (fun t ht => ?_) hs
  (try simp (maxDischargeDepth := 40) +contextual only [ht, ev_mk, ev_fold, ev_ite, ite_self, implies_true, nextIs_next, nextIs_ite,
        nextIs_fault, ev_activateByHost, ev_mailboxAnswer, ev_mailboxBusy, ev_put])
  repeat' split
  all_goals first
    | (with_reducible exact ht)
    | (simp (maxDischargeDepth := 40) +contextual only [ht, ev_mk, ev_fold, ev_ite, ite_self, implies_true, nextIs_next, nextIs_ite, nextIs_fault,
        ev_activateByHost, ev_mailboxAnswer, ev_mailboxBusy, ev_put]; done)

theorem ev_execSanitize (via : Port ⊕ Req) {r₀ s : State} (hs : Evolves r₀ s) : NextIs (Evolves r₀) (execSanitize via s) := by
  unfold execSanitize
  split
  · exact ev_mailboxCommand (fun t ht => ev_sanitizeByHost _ ht) hs
  · exact ev_request _ _ _ _ _ hs

theorem ev_execSecureErase (p : Port) {r₀ s : State} (hs : Evolves r₀ s) : NextIs (Evolves r₀) (execSecureErase p s) := by
  unfold execSecureErase
  refine ev_mailboxCommand (fun t ht => ?_) hs
  (try simp (maxDischargeDepth := 40) +contextual only [ht, ev_mk, ev_fold, ev_ite, ite_self, implies_true, nextIs_next, nextIs_ite,
        nextIs_fault, ev_sanitizeByHost])
  repeat' split
  all_goals first
    | (with_reducible exact ht)
    | (simp (maxDischargeDepth := 40) +contextual only [ht, ev_mk, ev_fold, ev_ite, ite_self, implies_true, nextIs_next, nextIs_ite, nextIs_fault,
        ev_sanitizeByHost]; done)

theorem ev_execUnsupportedMailboxOpcode (p : Port) (opcode : BitVec 16) {r₀ s : State} (hs : Evolves r₀ s) : NextIs (Evolves r₀)
        (execUnsupportedMailboxOpcode p opcode s) := by
  unfold execUnsupportedMailboxOpcode
  refine ev_mailboxCommand (fun t ht => ?_) hs
  (try simp (maxDischargeDepth := 40) +contextual only [ht, ev_mk, ev_fold, ev_ite, ite_self, implies_true, nextIs_next, nextIs_ite,
        nextIs_fault, ev_mailboxAnswer])
  repeat' split
  all_goals first
    | (with_reducible exact ht)
    | (simp (maxDischargeDepth := 40) +contextual only [ht, ev_mk, ev_fold, ev_ite, ite_self, implies_true, nextIs_next, nextIs_ite, nextIs_fault,
        ev_mailboxAnswer]; done)

theorem ev_execRestore (upTo : Nat) (shifts : List (Option Nat)) (found : RestoreFindings) {r₀ s : State} (hs : Evolves r₀ s) : NextIs
        (Evolves r₀) (execRestore upTo shifts found s) := by
  unfold execRestore
  simp (maxDischargeDepth := 40) +contextual only [hs, ev_mk, ev_fold, ev_ite, ite_self, implies_true, nextIs_next, nextIs_ite, nextIs_fault,
        ev_restoreSteps]

theorem ev_execBackgroundRebuildDone {r₀ s : State} (hs : Evolves r₀ s) : NextIs (Evolves r₀) (execBackgroundRebuildDone s) := by
  unfold execBackgroundRebuildDone
  simp (maxDischargeDepth := 40) +contextual only [hs, ev_mk, ev_fold, ev_ite, ite_self, implies_true, nextIs_next, nextIs_ite, nextIs_fault,
        ev_restoreSteps]

theorem ev_execSessionOpen (req : Req) (level : Nat) (nonce : BitVec 128) {r₀ s : State} (hs : Evolves r₀ s) : NextIs (Evolves r₀)
        (execSessionOpen req level nonce s) := by
  unfold execSessionOpen
  simp (maxDischargeDepth := 40) +contextual only [hs, ev_mk, ev_fold, ev_ite, ite_self, implies_true, nextIs_next, nextIs_ite, nextIs_fault,
        ev_arrive, ev_openStep, ev_sendStep]

theorem ev_execSessionResponse (req : Req) (number : Nat) (proof : BitVec 256) {r₀ s : State} (hs : Evolves r₀ s) : NextIs (Evolves r₀)
        (execSessionResponse req number proof s) := by
  unfold execSessionResponse
  simp (maxDischargeDepth := 40) +contextual only [hs, ev_mk, ev_fold, ev_ite, ite_self, implies_true, nextIs_next, nextIs_ite, nextIs_fault,
        ev_arrive, ev_responseStep, ev_sendStep]

theorem ev_execSessionClose (req : Req) {r₀ s : State} (hs : Evolves r₀ s) : NextIs (Evolves r₀) (execSessionClose req s) := by
  unfold execSessionClose
  simp (maxDischargeDepth := 40) +contextual only [hs, ev_mk, ev_fold, ev_ite, ite_self, implies_true, nextIs_next, nextIs_ite, nextIs_fault,
        ev_arrive, ev_closeNow, ev_inSession, ev_refuseClose]

theorem ev_execSessionReservationTimeout (number : Nat) {r₀ s : State} (hs : Evolves r₀ s) : NextIs (Evolves r₀)
        (execSessionReservationTimeout number s) := by
  unfold execSessionReservationTimeout
  simp (maxDischargeDepth := 40) +contextual only [hs, ev_mk, ev_fold, ev_ite, ite_self, implies_true, nextIs_next, nextIs_ite, nextIs_fault]

theorem ev_execSessionIdleTimeout (number : Nat) {r₀ s : State} (hs : Evolves r₀ s) : NextIs (Evolves r₀) (execSessionIdleTimeout number s)
        := by
  unfold execSessionIdleTimeout
  simp (maxDischargeDepth := 40) +contextual only [hs, ev_mk, ev_fold, ev_ite, ite_self, implies_true, nextIs_next, nextIs_ite, nextIs_fault,
        ev_endSessions]

theorem ev_execProofHoldExpiry (path : Path) {r₀ s : State} (hs : Evolves r₀ s) : NextIs (Evolves r₀) (execProofHoldExpiry path s) := by
  unfold execProofHoldExpiry
  simp (maxDischargeDepth := 40) +contextual only [hs, ev_mk, ev_fold, ev_ite, ite_self, implies_true, nextIs_next, nextIs_ite, nextIs_fault]

theorem ev_execLevelKeyWrite (req : Req) (level : Fin 4) (wrapped : List Byte) {r₀ s : State} (hs : Evolves r₀ s) : NextIs (Evolves r₀)
        (execLevelKeyWrite req level wrapped s) := by
  unfold execLevelKeyWrite
  simp (maxDischargeDepth := 40) +contextual only [hs, ev_mk, ev_fold, ev_ite, ite_self, implies_true, nextIs_next, nextIs_ite, nextIs_fault,
        ev_request]

theorem ev_execCloseAllSessions (req : Req) {r₀ s : State} (hs : Evolves r₀ s) : NextIs (Evolves r₀) (execCloseAllSessions req s) := by
  unfold execCloseAllSessions
  simp (maxDischargeDepth := 40) +contextual only [hs, ev_mk, ev_fold, ev_ite, ite_self, implies_true, nextIs_next, nextIs_ite, nextIs_fault,
        ev_request]

end Sys2Proof.Machine
end

