-- ==== Sys2Proof/Laws/Keeps.lean ====
section
/-! SUPPORT. Which parts of the state an operation may write, one lemma for each: every other part stands. -/

namespace Sys2Proof.Machine

set_option linter.unusedVariables false
set_option linter.unusedSimpArgs false
set_option linter.unusedTactic false
set_option linter.unreachableTactic false

/-- The parts of the state beside the register file, the message list and the clocks, each with a bit: a mask names parts. `Keeps μ r₀ s`: every part
that `w` does not name stands in `s` as in `r`. -/
structure Keeps (w : Nat) (r s : State) : Prop where
  octs : w.testBit 0 = false → s.octs = r.octs
  deviceTime : w.testBit 1 = false → s.deviceTime = r.deviceTime
  nextStamp : w.testBit 2 = false → s.nextStamp = r.nextStamp
  restoreStamp : w.testBit 3 = false → s.restoreStamp = r.restoreStamp
  nextSeq : w.testBit 4 = false → s.nextSeq = r.nextSeq
  portA : w.testBit 5 = false → s.portA = r.portA
  portB : w.testBit 6 = false → s.portB = r.portB
  staging : w.testBit 7 = false → s.staging = r.staging
  stallSince : w.testBit 8 = false → s.stallSince = r.stallSince
  stallReported : w.testBit 9 = false → s.stallReported = r.stallReported
  l1 : w.testBit 10 = false → s.l1 = r.l1
  l2 : w.testBit 11 = false → s.l2 = r.l2
  lfsr1 : w.testBit 12 = false → s.lfsr1 = r.lfsr1
  lfsr2 : w.testBit 13 = false → s.lfsr2 = r.lfsr2
  reads : w.testBit 14 = false → s.reads = r.reads
  nextRead : w.testBit 15 = false → s.nextRead = r.nextRead
  retries : w.testBit 16 = false → s.retries = r.retries
  groups : w.testBit 17 = false → s.groups = r.groups
  cells : w.testBit 18 = false → s.cells = r.cells
  reservedA : w.testBit 19 = false → s.reservedA = r.reservedA
  reservedB : w.testBit 20 = false → s.reservedB = r.reservedB
  resultsA : w.testBit 21 = false → s.resultsA = r.resultsA
  resultsB : w.testBit 22 = false → s.resultsB = r.resultsB
  resultBase : w.testBit 23 = false → s.resultBase = r.resultBase
  xlat : w.testBit 24 = false → s.xlat = r.xlat
  med : w.testBit 25 = false → s.med = r.med
  integ : w.testBit 26 = false → s.integ = r.integ
  stored : w.testBit 27 = false → s.stored = r.stored
  pow : w.testBit 28 = false → s.pow = r.pow
  modes : w.testBit 29 = false → s.modes = r.modes
  therm : w.testBit 30 = false → s.therm = r.therm
  mgmt : w.testBit 31 = false → s.mgmt = r.mgmt
  recd : w.testBit 32 = false → s.recd = r.recd
  obs : w.testBit 33 = false → s.obs = r.obs

/-- Every part of one mask is named by the other. -/
def sub (a b : Nat) : Bool := Nat.land a b == a

theorem sub_bit {a b i : Nat} (h : sub a b = true) (hi : a.testBit i = true) : b.testBit i = true := by
  have h1 : a &&& b = a := by simpa [sub] using h
  rw [← h1, Nat.testBit_and] at hi
  exact (Bool.and_eq_true _ _ ▸ hi).2

theorem sub_trans {a b c : Nat} (h : sub a b = true) (g : sub b c = true) : sub a c = true := by
  have h1 : a &&& b = a := by simpa [sub] using h
  have g1 : b &&& c = b := by simpa [sub] using g
  have : a &&& c = a := by rw [← h1, Nat.and_assoc, g1]
  simpa [sub] using this

theorem keeps_refl (μ : Nat) (s : State) : Keeps μ s s := by constructor <;> exact fun _ => rfl

theorem upd_dict {μ : Nat} {r₀ s : State} (hs : Keeps μ r₀ s) : ∀ v0, Keeps μ r₀ { s with dict := v0 } :=
  fun _ => ⟨hs.octs, hs.deviceTime, hs.nextStamp, hs.restoreStamp, hs.nextSeq, hs.portA, hs.portB, hs.staging, hs.stallSince, hs.stallReported, hs.l1, hs.l2, hs.lfsr1, hs.lfsr2, hs.reads, hs.nextRead, hs.retries, hs.groups, hs.cells, hs.reservedA, hs.reservedB, hs.resultsA, hs.resultsB, hs.resultBase, hs.xlat, hs.med, hs.integ, hs.stored, hs.pow, hs.modes, hs.therm, hs.mgmt, hs.recd, hs.obs⟩

theorem upd_octs {μ : Nat} {r₀ s : State} (b0 : μ.testBit 0 = true) (hs : Keeps μ r₀ s) : ∀ v0, Keeps μ r₀ { s with octs := v0 } :=
  fun _ => { hs with octs := fun h => absurd (b0 ▸ h) (by simp) }

theorem upd_deviceTime {μ : Nat} {r₀ s : State} (b1 : μ.testBit 1 = true) (hs : Keeps μ r₀ s) : ∀ v0, Keeps μ r₀ { s with deviceTime := v0 }
        :=
  fun _ => { hs with deviceTime := fun h => absurd (b1 ▸ h) (by simp) }

theorem upd_nextStamp {μ : Nat} {r₀ s : State} (b2 : μ.testBit 2 = true) (hs : Keeps μ r₀ s) : ∀ v0, Keeps μ r₀ { s with nextStamp := v0 }
        :=
  fun _ => { hs with nextStamp := fun h => absurd (b2 ▸ h) (by simp) }

theorem upd_nextSeq {μ : Nat} {r₀ s : State} (b4 : μ.testBit 4 = true) (hs : Keeps μ r₀ s) : ∀ v0, Keeps μ r₀ { s with nextSeq := v0 } :=
  fun _ => { hs with nextSeq := fun h => absurd (b4 ▸ h) (by simp) }

theorem upd_draws {μ : Nat} {r₀ s : State} (hs : Keeps μ r₀ s) : ∀ v0, Keeps μ r₀ { s with draws := v0 } :=
  fun _ => ⟨hs.octs, hs.deviceTime, hs.nextStamp, hs.restoreStamp, hs.nextSeq, hs.portA, hs.portB, hs.staging, hs.stallSince, hs.stallReported, hs.l1, hs.l2, hs.lfsr1, hs.lfsr2, hs.reads, hs.nextRead, hs.retries, hs.groups, hs.cells, hs.reservedA, hs.reservedB, hs.resultsA, hs.resultsB, hs.resultBase, hs.xlat, hs.med, hs.integ, hs.stored, hs.pow, hs.modes, hs.therm, hs.mgmt, hs.recd, hs.obs⟩

theorem upd_portA {μ : Nat} {r₀ s : State} (b5 : μ.testBit 5 = true) (hs : Keeps μ r₀ s) : ∀ v0, Keeps μ r₀ { s with portA := v0 } :=
  fun _ => { hs with portA := fun h => absurd (b5 ▸ h) (by simp) }

theorem upd_portB {μ : Nat} {r₀ s : State} (b6 : μ.testBit 6 = true) (hs : Keeps μ r₀ s) : ∀ v0, Keeps μ r₀ { s with portB := v0 } :=
  fun _ => { hs with portB := fun h => absurd (b6 ▸ h) (by simp) }

theorem upd_staging {μ : Nat} {r₀ s : State} (b7 : μ.testBit 7 = true) (hs : Keeps μ r₀ s) : ∀ v0, Keeps μ r₀ { s with staging := v0 } :=
  fun _ => { hs with staging := fun h => absurd (b7 ▸ h) (by simp) }

theorem upd_stallSince {μ : Nat} {r₀ s : State} (b8 : μ.testBit 8 = true) (hs : Keeps μ r₀ s) : ∀ v0, Keeps μ r₀ { s with stallSince := v0 }
        :=
  fun _ => { hs with stallSince := fun h => absurd (b8 ▸ h) (by simp) }

theorem upd_stallReported {μ : Nat} {r₀ s : State} (b9 : μ.testBit 9 = true) (hs : Keeps μ r₀ s) : ∀ v0, Keeps μ r₀ { s with stallReported := v0 }
        :=
  fun _ => { hs with stallReported := fun h => absurd (b9 ▸ h) (by simp) }

theorem upd_l1 {μ : Nat} {r₀ s : State} (b10 : μ.testBit 10 = true) (hs : Keeps μ r₀ s) : ∀ v0, Keeps μ r₀ { s with l1 := v0 } :=
  fun _ => { hs with l1 := fun h => absurd (b10 ▸ h) (by simp) }

theorem upd_l2 {μ : Nat} {r₀ s : State} (b11 : μ.testBit 11 = true) (hs : Keeps μ r₀ s) : ∀ v0, Keeps μ r₀ { s with l2 := v0 } :=
  fun _ => { hs with l2 := fun h => absurd (b11 ▸ h) (by simp) }

theorem upd_reads {μ : Nat} {r₀ s : State} (b14 : μ.testBit 14 = true) (hs : Keeps μ r₀ s) : ∀ v0, Keeps μ r₀ { s with reads := v0 } :=
  fun _ => { hs with reads := fun h => absurd (b14 ▸ h) (by simp) }

theorem upd_retries {μ : Nat} {r₀ s : State} (b16 : μ.testBit 16 = true) (hs : Keeps μ r₀ s) : ∀ v0, Keeps μ r₀ { s with retries := v0 } :=
  fun _ => { hs with retries := fun h => absurd (b16 ▸ h) (by simp) }

theorem upd_groups {μ : Nat} {r₀ s : State} (b17 : μ.testBit 17 = true) (hs : Keeps μ r₀ s) : ∀ v0, Keeps μ r₀ { s with groups := v0 } :=
  fun _ => { hs with groups := fun h => absurd (b17 ▸ h) (by simp) }

theorem upd_cells {μ : Nat} {r₀ s : State} (b18 : μ.testBit 18 = true) (hs : Keeps μ r₀ s) : ∀ v0, Keeps μ r₀ { s with cells := v0 } :=
  fun _ => { hs with cells := fun h => absurd (b18 ▸ h) (by simp) }

theorem upd_reservedA {μ : Nat} {r₀ s : State} (b19 : μ.testBit 19 = true) (hs : Keeps μ r₀ s) : ∀ v0, Keeps μ r₀ { s with reservedA := v0 }
        :=
  fun _ => { hs with reservedA := fun h => absurd (b19 ▸ h) (by simp) }

theorem upd_reservedB {μ : Nat} {r₀ s : State} (b20 : μ.testBit 20 = true) (hs : Keeps μ r₀ s) : ∀ v0, Keeps μ r₀ { s with reservedB := v0 }
        :=
  fun _ => { hs with reservedB := fun h => absurd (b20 ▸ h) (by simp) }

theorem upd_resultsA {μ : Nat} {r₀ s : State} (b21 : μ.testBit 21 = true) (hs : Keeps μ r₀ s) : ∀ v0, Keeps μ r₀ { s with resultsA := v0 }
        :=
  fun _ => { hs with resultsA := fun h => absurd (b21 ▸ h) (by simp) }

theorem upd_resultsB {μ : Nat} {r₀ s : State} (b22 : μ.testBit 22 = true) (hs : Keeps μ r₀ s) : ∀ v0, Keeps μ r₀ { s with resultsB := v0 }
        :=
  fun _ => { hs with resultsB := fun h => absurd (b22 ▸ h) (by simp) }

theorem upd_xlat {μ : Nat} {r₀ s : State} (b24 : μ.testBit 24 = true) (hs : Keeps μ r₀ s) : ∀ v0, Keeps μ r₀ { s with xlat := v0 } :=
  fun _ => { hs with xlat := fun h => absurd (b24 ▸ h) (by simp) }

theorem upd_med {μ : Nat} {r₀ s : State} (b25 : μ.testBit 25 = true) (hs : Keeps μ r₀ s) : ∀ v0, Keeps μ r₀ { s with med := v0 } :=
  fun _ => { hs with med := fun h => absurd (b25 ▸ h) (by simp) }

theorem upd_integ {μ : Nat} {r₀ s : State} (b26 : μ.testBit 26 = true) (hs : Keeps μ r₀ s) : ∀ v0, Keeps μ r₀ { s with integ := v0 } :=
  fun _ => { hs with integ := fun h => absurd (b26 ▸ h) (by simp) }

theorem upd_stored {μ : Nat} {r₀ s : State} (b27 : μ.testBit 27 = true) (hs : Keeps μ r₀ s) : ∀ v0, Keeps μ r₀ { s with stored := v0 } :=
  fun _ => { hs with stored := fun h => absurd (b27 ▸ h) (by simp) }

theorem upd_pow {μ : Nat} {r₀ s : State} (b28 : μ.testBit 28 = true) (hs : Keeps μ r₀ s) : ∀ v0, Keeps μ r₀ { s with pow := v0 } :=
  fun _ => { hs with pow := fun h => absurd (b28 ▸ h) (by simp) }

theorem upd_modes {μ : Nat} {r₀ s : State} (b29 : μ.testBit 29 = true) (hs : Keeps μ r₀ s) : ∀ v0, Keeps μ r₀ { s with modes := v0 } :=
  fun _ => { hs with modes := fun h => absurd (b29 ▸ h) (by simp) }

theorem upd_therm {μ : Nat} {r₀ s : State} (b30 : μ.testBit 30 = true) (hs : Keeps μ r₀ s) : ∀ v0, Keeps μ r₀ { s with therm := v0 } :=
  fun _ => { hs with therm := fun h => absurd (b30 ▸ h) (by simp) }

theorem upd_mgmt {μ : Nat} {r₀ s : State} (b31 : μ.testBit 31 = true) (hs : Keeps μ r₀ s) : ∀ v0, Keeps μ r₀ { s with mgmt := v0 } :=
  fun _ => { hs with mgmt := fun h => absurd (b31 ▸ h) (by simp) }

theorem upd_recd {μ : Nat} {r₀ s : State} (b32 : μ.testBit 32 = true) (hs : Keeps μ r₀ s) : ∀ v0, Keeps μ r₀ { s with recd := v0 } :=
  fun _ => { hs with recd := fun h => absurd (b32 ▸ h) (by simp) }

theorem upd_obs {μ : Nat} {r₀ s : State} (b33 : μ.testBit 33 = true) (hs : Keeps μ r₀ s) : ∀ v0, Keeps μ r₀ { s with obs := v0 } :=
  fun _ => { hs with obs := fun h => absurd (b33 ▸ h) (by simp) }

theorem upd_out {μ : Nat} {r₀ s : State} (hs : Keeps μ r₀ s) : ∀ v0, Keeps μ r₀ { s with out := v0 } :=
  fun _ => ⟨hs.octs, hs.deviceTime, hs.nextStamp, hs.restoreStamp, hs.nextSeq, hs.portA, hs.portB, hs.staging, hs.stallSince, hs.stallReported, hs.l1, hs.l2, hs.lfsr1, hs.lfsr2, hs.reads, hs.nextRead, hs.retries, hs.groups, hs.cells, hs.reservedA, hs.reservedB, hs.resultsA, hs.resultsB, hs.resultBase, hs.xlat, hs.med, hs.integ, hs.stored, hs.pow, hs.modes, hs.therm, hs.mgmt, hs.recd, hs.obs⟩

theorem upd_dict_octs {μ : Nat} {r₀ s : State} (b0 : μ.testBit 0 = true) (hs : Keeps μ r₀ s) : ∀ v0 v1, Keeps μ r₀ { s with dict := v0, octs := v1 }
        :=
  fun _ _ => { hs with octs := fun h => absurd (b0 ▸ h) (by simp) }

theorem upd_nextStamp_restoreStamp {μ : Nat} {r₀ s : State} (b2 : μ.testBit 2 = true) (b3 : μ.testBit 3 = true) (hs : Keeps μ r₀ s) : ∀ v0
        v1, Keeps μ r₀ { s with nextStamp := v0, restoreStamp := v1 } :=
  fun _ _ => { hs with nextStamp := fun h => absurd (b2 ▸ h) (by simp), restoreStamp := fun h => absurd (b3 ▸ h) (by simp) }

theorem upd_draws_obs {μ : Nat} {r₀ s : State} (b33 : μ.testBit 33 = true) (hs : Keeps μ r₀ s) : ∀ v0 v1, Keeps μ r₀ { s with draws := v0, obs := v1 }
        :=
  fun _ _ => { hs with obs := fun h => absurd (b33 ▸ h) (by simp) }

theorem upd_portA_portB {μ : Nat} {r₀ s : State} (b5 : μ.testBit 5 = true) (b6 : μ.testBit 6 = true) (hs : Keeps μ r₀ s) : ∀ v0 v1, Keeps μ
        r₀ { s with portA := v0, portB := v1 } :=
  fun _ _ => { hs with portA := fun h => absurd (b5 ▸ h) (by simp), portB := fun h => absurd (b6 ▸ h) (by simp) }

theorem upd_staging_xlat {μ : Nat} {r₀ s : State} (b7 : μ.testBit 7 = true) (b24 : μ.testBit 24 = true) (hs : Keeps μ r₀ s) : ∀ v0 v1, Keeps
        μ r₀ { s with staging := v0, xlat := v1 } :=
  fun _ _ => { hs with staging := fun h => absurd (b7 ▸ h) (by simp), xlat := fun h => absurd (b24 ▸ h) (by simp) }

theorem upd_staging_med {μ : Nat} {r₀ s : State} (b7 : μ.testBit 7 = true) (b25 : μ.testBit 25 = true) (hs : Keeps μ r₀ s) : ∀ v0 v1, Keeps
        μ r₀ { s with staging := v0, med := v1 } :=
  fun _ _ => { hs with staging := fun h => absurd (b7 ▸ h) (by simp), med := fun h => absurd (b25 ▸ h) (by simp) }

theorem upd_staging_obs {μ : Nat} {r₀ s : State} (b7 : μ.testBit 7 = true) (b33 : μ.testBit 33 = true) (hs : Keeps μ r₀ s) : ∀ v0 v1, Keeps
        μ r₀ { s with staging := v0, obs := v1 } :=
  fun _ _ => { hs with staging := fun h => absurd (b7 ▸ h) (by simp), obs := fun h => absurd (b33 ▸ h) (by simp) }

theorem upd_l1_l2 {μ : Nat} {r₀ s : State} (b10 : μ.testBit 10 = true) (b11 : μ.testBit 11 = true) (hs : Keeps μ r₀ s) : ∀ v0 v1, Keeps μ r₀
        { s with l1 := v0, l2 := v1 } :=
  fun _ _ => { hs with l1 := fun h => absurd (b10 ▸ h) (by simp), l2 := fun h => absurd (b11 ▸ h) (by simp) }

theorem upd_l1_lfsr1 {μ : Nat} {r₀ s : State} (b10 : μ.testBit 10 = true) (b12 : μ.testBit 12 = true) (hs : Keeps μ r₀ s) : ∀ v0 v1, Keeps μ
        r₀ { s with l1 := v0, lfsr1 := v1 } :=
  fun _ _ => { hs with l1 := fun h => absurd (b10 ▸ h) (by simp), lfsr1 := fun h => absurd (b12 ▸ h) (by simp) }

theorem upd_l2_lfsr2 {μ : Nat} {r₀ s : State} (b11 : μ.testBit 11 = true) (b13 : μ.testBit 13 = true) (hs : Keeps μ r₀ s) : ∀ v0 v1, Keeps μ
        r₀ { s with l2 := v0, lfsr2 := v1 } :=
  fun _ _ => { hs with l2 := fun h => absurd (b11 ▸ h) (by simp), lfsr2 := fun h => absurd (b13 ▸ h) (by simp) }

theorem upd_lfsr1_lfsr2 {μ : Nat} {r₀ s : State} (b12 : μ.testBit 12 = true) (b13 : μ.testBit 13 = true) (hs : Keeps μ r₀ s) : ∀ v0 v1,
        Keeps μ r₀ { s with lfsr1 := v0, lfsr2 := v1 } :=
  fun _ _ => { hs with lfsr1 := fun h => absurd (b12 ▸ h) (by simp), lfsr2 := fun h => absurd (b13 ▸ h) (by simp) }

theorem upd_reads_nextRead {μ : Nat} {r₀ s : State} (b14 : μ.testBit 14 = true) (b15 : μ.testBit 15 = true) (hs : Keeps μ r₀ s) : ∀ v0 v1,
        Keeps μ r₀ { s with reads := v0, nextRead := v1 } :=
  fun _ _ => { hs with reads := fun h => absurd (b14 ▸ h) (by simp), nextRead := fun h => absurd (b15 ▸ h) (by simp) }

theorem upd_reads_retries {μ : Nat} {r₀ s : State} (b14 : μ.testBit 14 = true) (b16 : μ.testBit 16 = true) (hs : Keeps μ r₀ s) : ∀ v0 v1,
        Keeps μ r₀ { s with reads := v0, retries := v1 } :=
  fun _ _ => { hs with reads := fun h => absurd (b14 ▸ h) (by simp), retries := fun h => absurd (b16 ▸ h) (by simp) }

theorem upd_xlat_med {μ : Nat} {r₀ s : State} (b24 : μ.testBit 24 = true) (b25 : μ.testBit 25 = true) (hs : Keeps μ r₀ s) : ∀ v0 v1, Keeps μ
        r₀ { s with xlat := v0, med := v1 } :=
  fun _ _ => { hs with xlat := fun h => absurd (b24 ▸ h) (by simp), med := fun h => absurd (b25 ▸ h) (by simp) }

theorem upd_xlat_integ {μ : Nat} {r₀ s : State} (b24 : μ.testBit 24 = true) (b26 : μ.testBit 26 = true) (hs : Keeps μ r₀ s) : ∀ v0 v1, Keeps
        μ r₀ { s with xlat := v0, integ := v1 } :=
  fun _ _ => { hs with xlat := fun h => absurd (b24 ▸ h) (by simp), integ := fun h => absurd (b26 ▸ h) (by simp) }

theorem upd_med_integ {μ : Nat} {r₀ s : State} (b25 : μ.testBit 25 = true) (b26 : μ.testBit 26 = true) (hs : Keeps μ r₀ s) : ∀ v0 v1, Keeps
        μ r₀ { s with med := v0, integ := v1 } :=
  fun _ _ => { hs with med := fun h => absurd (b25 ▸ h) (by simp), integ := fun h => absurd (b26 ▸ h) (by simp) }

theorem upd_integ_pow {μ : Nat} {r₀ s : State} (b26 : μ.testBit 26 = true) (b28 : μ.testBit 28 = true) (hs : Keeps μ r₀ s) : ∀ v0 v1, Keeps
        μ r₀ { s with integ := v0, pow := v1 } :=
  fun _ _ => { hs with integ := fun h => absurd (b26 ▸ h) (by simp), pow := fun h => absurd (b28 ▸ h) (by simp) }

theorem upd_pow_modes {μ : Nat} {r₀ s : State} (b28 : μ.testBit 28 = true) (b29 : μ.testBit 29 = true) (hs : Keeps μ r₀ s) : ∀ v0 v1, Keeps
        μ r₀ { s with pow := v0, modes := v1 } :=
  fun _ _ => { hs with pow := fun h => absurd (b28 ▸ h) (by simp), modes := fun h => absurd (b29 ▸ h) (by simp) }

theorem upd_dict_octs_stored {μ : Nat} {r₀ s : State} (b0 : μ.testBit 0 = true) (b27 : μ.testBit 27 = true) (hs : Keeps μ r₀ s) : ∀ v0 v1
        v2, Keeps μ r₀ { s with dict := v0, octs := v1, stored := v2 } :=
  fun _ _ _ => { hs with octs := fun h => absurd (b0 ▸ h) (by simp), stored := fun h => absurd (b27 ▸ h) (by simp) }

theorem upd_clock_service_deviceTime {μ : Nat} {r₀ s : State} (b1 : μ.testBit 1 = true) (hs : Keeps μ r₀ s) : ∀ v0 v1 v2, Keeps μ r₀ { s with clock := v0, service := v1, deviceTime := v2 }
        :=
  fun _ _ _ => { hs with deviceTime := fun h => absurd (b1 ▸ h) (by simp) }

theorem upd_deviceTime_pow_modes {μ : Nat} {r₀ s : State} (b1 : μ.testBit 1 = true) (b28 : μ.testBit 28 = true) (b29 : μ.testBit 29 = true)
        (hs : Keeps μ r₀ s) : ∀ v0 v1 v2, Keeps μ r₀ { s with deviceTime := v0, pow := v1, modes := v2 } :=
  fun _ _ _ => { hs with deviceTime := fun h => absurd (b1 ▸ h) (by simp), pow := fun h => absurd (b28 ▸ h) (by simp), modes := fun h => absurd (b29 ▸ h) (by simp) }

theorem upd_staging_xlat_med {μ : Nat} {r₀ s : State} (b7 : μ.testBit 7 = true) (b24 : μ.testBit 24 = true) (b25 : μ.testBit 25 = true) (hs
        : Keeps μ r₀ s) : ∀ v0 v1 v2, Keeps μ r₀ { s with staging := v0, xlat := v1, med := v2 } :=
  fun _ _ _ => { hs with staging := fun h => absurd (b7 ▸ h) (by simp), xlat := fun h => absurd (b24 ▸ h) (by simp), med := fun h => absurd (b25 ▸ h) (by simp) }

theorem upd_staging_xlat_integ {μ : Nat} {r₀ s : State} (b7 : μ.testBit 7 = true) (b24 : μ.testBit 24 = true) (b26 : μ.testBit 26 = true)
        (hs : Keeps μ r₀ s) : ∀ v0 v1 v2, Keeps μ r₀ { s with staging := v0, xlat := v1, integ := v2 } :=
  fun _ _ _ => { hs with staging := fun h => absurd (b7 ▸ h) (by simp), xlat := fun h => absurd (b24 ▸ h) (by simp), integ := fun h => absurd (b26 ▸ h) (by simp) }

theorem upd_staging_integ_obs {μ : Nat} {r₀ s : State} (b7 : μ.testBit 7 = true) (b26 : μ.testBit 26 = true) (b33 : μ.testBit 33 = true) (hs
        : Keeps μ r₀ s) : ∀ v0 v1 v2, Keeps μ r₀ { s with staging := v0, integ := v1, obs := v2 } :=
  fun _ _ _ => { hs with staging := fun h => absurd (b7 ▸ h) (by simp), integ := fun h => absurd (b26 ▸ h) (by simp), obs := fun h => absurd (b33 ▸ h) (by simp) }

theorem upd_pow_modes_therm_mgmt_recd {μ : Nat} {r₀ s : State} (b28 : μ.testBit 28 = true) (b29 : μ.testBit 29 = true) (b30 : μ.testBit 30 =
        true) (b31 : μ.testBit 31 = true) (b32 : μ.testBit 32 = true) (hs : Keeps μ r₀ s) : ∀ v0 v1 v2 v3 v4, Keeps μ r₀ { s with pow := v0, modes := v1, therm := v2, mgmt := v3, recd := v4 }
        :=
  fun _ _ _ _ _ => { hs with pow := fun h => absurd (b28 ▸ h) (by simp), modes := fun h => absurd (b29 ▸ h) (by simp), therm := fun h => absurd (b30 ▸ h) (by simp), mgmt := fun h => absurd (b31 ▸ h) (by simp), recd := fun h => absurd (b32 ▸ h) (by simp) }

theorem
        upd_portA_portB_stallSince_stallReported_l1_l2_reads_retries_cells_reservedA_reservedB_resultsA_resultsB_resultBase_xlat_med_integ_stored_modes_therm_mgmt_recd_obs
        {μ : Nat} {r₀ s : State} (b5 : μ.testBit 5 = true) (b6 : μ.testBit 6 = true) (b8 : μ.testBit 8 = true) (b9 : μ.testBit 9 = true)
        (b10 : μ.testBit 10 = true) (b11 : μ.testBit 11 = true) (b14 : μ.testBit 14 = true) (b16 : μ.testBit 16 = true) (b18 : μ.testBit 18
        = true) (b19 : μ.testBit 19 = true) (b20 : μ.testBit 20 = true) (b21 : μ.testBit 21 = true) (b22 : μ.testBit 22 = true) (b23 :
        μ.testBit 23 = true) (b24 : μ.testBit 24 = true) (b25 : μ.testBit 25 = true) (b26 : μ.testBit 26 = true) (b27 : μ.testBit 27 = true)
        (b29 : μ.testBit 29 = true) (b30 : μ.testBit 30 = true) (b31 : μ.testBit 31 = true) (b32 : μ.testBit 32 = true) (b33 : μ.testBit 33
        = true) (hs : Keeps μ r₀ s) : ∀ v0 v1 v2 v3 v4 v5 v6 v7 v8 v9 v10 v11 v12 v13 v14 v15 v16 v17 v18 v19 v20 v21 v22, Keeps μ r₀ { s with portA := v0, portB := v1, stallSince := v2, stallReported := v3, l1 := v4, l2 := v5, reads := v6, retries := v7, cells := v8, reservedA := v9, reservedB := v10, resultsA := v11, resultsB := v12, resultBase := v13, xlat := v14, med := v15, integ := v16, stored := v17, modes := v18, therm := v19, mgmt := v20, recd := v21, obs := v22 }
        :=
  fun _ _ _ _ _ _ _ _ _ _ _ _ _ _ _ _ _ _ _ _ _ _ _ => { hs with portA := fun h => absurd (b5 ▸ h) (by simp), portB := fun h => absurd (b6 ▸ h) (by simp), stallSince := fun h => absurd (b8 ▸ h) (by simp), stallReported := fun h => absurd (b9 ▸ h) (by simp), l1 := fun h => absurd (b10 ▸ h) (by simp), l2 := fun h => absurd (b11 ▸ h) (by simp), reads := fun h => absurd (b14 ▸ h) (by simp), retries := fun h => absurd (b16 ▸ h) (by simp), cells := fun h => absurd (b18 ▸ h) (by simp), reservedA := fun h => absurd (b19 ▸ h) (by simp), reservedB := fun h => absurd (b20 ▸ h) (by simp), resultsA := fun h => absurd (b21 ▸ h) (by simp), resultsB := fun h => absurd (b22 ▸ h) (by simp), resultBase := fun h => absurd (b23 ▸ h) (by simp), xlat := fun h => absurd (b24 ▸ h) (by simp), med := fun h => absurd (b25 ▸ h) (by simp), integ := fun h => absurd (b26 ▸ h) (by simp), stored := fun h => absurd (b27 ▸ h) (by simp), modes := fun h => absurd (b29 ▸ h) (by simp), therm := fun h => absurd (b30 ▸ h) (by simp), mgmt := fun h => absurd (b31 ▸ h) (by simp), recd := fun h => absurd (b32 ▸ h) (by simp), obs := fun h => absurd (b33 ▸ h) (by simp) }

theorem fr_ite (μ : Nat) (r₀ : State) (c : Prop) [Decidable c] (a b : State) :
    Keeps μ r₀ (if c then a else b) = if c then Keeps μ r₀ a else Keeps μ r₀ b := by split <;> rfl
theorem fr_cond {μ : Nat} {r₀ : State} {c : Prop} [Decidable c] {a b : State} (ha : Keeps μ r₀ a) (hb : Keeps μ r₀ b) :
    Keeps μ r₀ (if c then a else b) := by split <;> assumption
theorem fr_foldl {μ : Nat} {r₀ : State} {α : Type} {f : State → α → State} {s : State} (h : ∀ t a, Keeps μ r₀ t → Keeps μ r₀ (f t a)) (l : List α)
    (hs : Keeps μ r₀ s) : Keeps μ r₀ (l.foldl f s) := by
  induction l generalizing s with
  | nil => exact hs
  | cons a l ih => rw [List.foldl_cons]; exact ih (h _ _ hs)

def kf_put : Nat := 0x0
theorem fr_put {μ : Nat} (hμ : sub kf_put μ = true) (key v : Nat) {r₀ s : State} (hs : Keeps μ r₀ s) : Keeps μ r₀ (State.put s key v) := by
  unfold State.put
  simp (maxDischargeDepth := 40) +contextual only [hs, fr_ite, ite_self, implies_true, upd_dict]

def kf_putBytes : Nat := 0x1
theorem fr_putBytes {μ : Nat} (hμ : sub kf_putBytes μ = true) (key : Nat) (v : List Byte) {r₀ s : State} (hs : Keeps μ r₀ s) : Keeps μ r₀
        (State.putBytes s key v) := by
  have b0 : μ.testBit 0 = true := sub_bit hμ rfl
  unfold State.putBytes
  simp (maxDischargeDepth := 40) +contextual only [hs, fr_ite, ite_self, implies_true, b0, upd_octs]

def kf_putInt : Nat := 0x0
theorem fr_putInt {μ : Nat} (hμ : sub kf_putInt μ = true) (bits key : Nat) (v : Int) {r₀ s : State} (hs : Keeps μ r₀ s) : Keeps μ r₀
        (State.putInt s bits key v) := by
  unfold State.putInt
  simp (maxDischargeDepth := 40) +contextual only [hs, fr_ite, ite_self, implies_true, fr_put (sub_trans rfl hμ)]

def kf_addTo : Nat := 0x0
theorem fr_addTo {μ : Nat} (hμ : sub kf_addTo μ = true) (key n : Nat) {r₀ s : State} (hs : Keeps μ r₀ s) : Keeps μ r₀ (State.addTo s key n)
        := by
  unfold State.addTo
  simp (maxDischargeDepth := 40) +contextual only [hs, fr_ite, ite_self, implies_true, fr_put (sub_trans rfl hμ)]

def kf_bump : Nat := 0x0
theorem fr_bump {μ : Nat} (hμ : sub kf_bump μ = true) (key : Nat) {r₀ s : State} (hs : Keeps μ r₀ s) : Keeps μ r₀ (State.bump s key) := by
  unfold State.bump
  simp (maxDischargeDepth := 40) +contextual only [hs, fr_ite, ite_self, implies_true, fr_addTo (sub_trans rfl hμ)]

def kf_raiseTo : Nat := 0x0
theorem fr_raiseTo {μ : Nat} (hμ : sub kf_raiseTo μ = true) (key v : Nat) {r₀ s : State} (hs : Keeps μ r₀ s) : Keeps μ r₀ (State.raiseTo s
        key v) := by
  unfold State.raiseTo
  simp (maxDischargeDepth := 40) +contextual only [hs, fr_ite, ite_self, implies_true, fr_put (sub_trans rfl hμ)]

def kf_setBit : Nat := 0x0
theorem fr_setBit {μ : Nat} (hμ : sub kf_setBit μ = true) (key b : Nat) {r₀ s : State} (hs : Keeps μ r₀ s) : Keeps μ r₀ (State.setBit s key
        b) := by
  unfold State.setBit
  simp (maxDischargeDepth := 40) +contextual only [hs, fr_ite, ite_self, implies_true, fr_put (sub_trans rfl hμ)]

def kf_clearBit : Nat := 0x0
theorem fr_clearBit {μ : Nat} (hμ : sub kf_clearBit μ = true) (key b : Nat) {r₀ s : State} (hs : Keeps μ r₀ s) : Keeps μ r₀ (State.clearBit
        s key b) := by
  unfold State.clearBit
  simp (maxDischargeDepth := 40) +contextual only [hs, fr_ite, ite_self, implies_true, fr_put (sub_trans rfl hμ)]

def kf_setPort : Nat := 0x60
theorem fr_setPort {μ : Nat} (hμ : sub kf_setPort μ = true) (p : Port) (v : PortState) {r₀ s : State} (hs : Keeps μ r₀ s) : Keeps μ r₀
        (State.setPort s p v) := by
  have b5 : μ.testBit 5 = true := sub_bit hμ rfl
  have b6 : μ.testBit 6 = true := sub_bit hμ rfl
  unfold State.setPort
  (try simp (maxDischargeDepth := 40) +contextual only [hs, fr_ite, ite_self, implies_true, b5, b6, upd_portA, upd_portB])
  repeat' split
  all_goals first
    | (with_reducible exact hs)
    | (simp (maxDischargeDepth := 40) +contextual only [hs, fr_ite, ite_self, implies_true, b5, b6, upd_portA, upd_portB]; done)

def kf_modPort : Nat := 0x60
theorem fr_modPort {μ : Nat} (hμ : sub kf_modPort μ = true) (p : Port) (f : PortState → PortState) {r₀ s : State} (hs : Keeps μ r₀ s) :
        Keeps μ r₀ (State.modPort s p f) := by
  unfold State.modPort
  simp (maxDischargeDepth := 40) +contextual only [hs, fr_ite, ite_self, implies_true, fr_setPort (sub_trans rfl hμ)]

def kf_setGroup : Nat := 0x20000
theorem fr_setGroup {μ : Nat} (hμ : sub kf_setGroup μ = true) (g : Nat) (v : Group) {r₀ s : State} (hs : Keeps μ r₀ s) : Keeps μ r₀
        (State.setGroup s g v) := by
  have b17 : μ.testBit 17 = true := sub_bit hμ rfl
  unfold State.setGroup
  simp (maxDischargeDepth := 40) +contextual only [hs, fr_ite, ite_self, implies_true, b17, upd_groups]

def kf_setChannel : Nat := 0x200000000
theorem fr_setChannel {μ : Nat} (hμ : sub kf_setChannel μ = true) (k : Nat) (c : DmaChannel) {r₀ s : State} (hs : Keeps μ r₀ s) : Keeps μ r₀
        (State.setChannel s k c) := by
  have b33 : μ.testBit 33 = true := sub_bit hμ rfl
  unfold State.setChannel
  simp (maxDischargeDepth := 40) +contextual only [hs, fr_ite, ite_self, implies_true, b33, upd_obs]

def kf_setUnit : Nat := 0x2000000
theorem fr_setUnit {μ : Nat} (hμ : sub kf_setUnit μ = true) (u : Nat) (r : UnitRec) {r₀ s : State} (hs : Keeps μ r₀ s) : Keeps μ r₀
        (State.setUnit s u r) := by
  have b25 : μ.testBit 25 = true := sub_bit hμ rfl
  unfold State.setUnit
  simp (maxDischargeDepth := 40) +contextual only [hs, fr_ite, ite_self, implies_true, b25, upd_med]

def kf_setStripe : Nat := 0x2000000
theorem fr_setStripe {μ : Nat} (hμ : sub kf_setStripe μ = true) (n : Nat) (r : StripeRec) {r₀ s : State} (hs : Keeps μ r₀ s) : Keeps μ r₀
        (State.setStripe s n r) := by
  have b25 : μ.testBit 25 = true := sub_bit hμ rfl
  unfold State.setStripe
  simp (maxDischargeDepth := 40) +contextual only [hs, fr_ite, ite_self, implies_true, b25, upd_med]

def kf_endOverruns : Nat := 0x2000000
theorem fr_endOverruns {μ : Nat} (hμ : sub kf_endOverruns μ = true) {r₀ s : State} (hs : Keeps μ r₀ s) : Keeps μ r₀ (endOverruns s) := by
  have b25 : μ.testBit 25 = true := sub_bit hμ rfl
  unfold endOverruns
  simp (maxDischargeDepth := 40) +contextual only [hs, fr_ite, ite_self, implies_true, b25, upd_med]

def kf_rearmStall : Nat := 0x200
theorem fr_rearmStall {μ : Nat} (hμ : sub kf_rearmStall μ = true) {r₀ s : State} (hs : Keeps μ r₀ s) : Keeps μ r₀ (rearmStall s) := by
  have b9 : μ.testBit 9 = true := sub_bit hμ rfl
  unfold rearmStall
  simp (maxDischargeDepth := 40) +contextual only [hs, fr_ite, ite_self, implies_true, b9, upd_stallReported]

def kf_touchIntegrity : Nat := 0x4000000
theorem fr_touchIntegrity {μ : Nat} (hμ : sub kf_touchIntegrity μ = true) (obj : IntegrityObject) {r₀ s : State} (hs : Keeps μ r₀ s) : Keeps
        μ r₀ (touchIntegrity obj s) := by
  have b26 : μ.testBit 26 = true := sub_bit hμ rfl
  unfold touchIntegrity
  simp (maxDischargeDepth := 40) +contextual only [hs, fr_ite, ite_self, implies_true, b26, upd_integ]

def kf_touchBlock : Nat := 0x4000000
theorem fr_touchBlock {μ : Nat} (hμ : sub kf_touchBlock μ = true) (page : Nat) {r₀ s : State} (hs : Keeps μ r₀ s) : Keeps μ r₀ (touchBlock
        page s) := by
  unfold touchBlock
  simp (maxDischargeDepth := 40) +contextual only [hs, fr_ite, ite_self, implies_true, fr_touchIntegrity (sub_trans rfl hμ), fr_foldl]

def kf_coverIntegrity : Nat := 0x4000000
theorem fr_coverIntegrity {μ : Nat} (hμ : sub kf_coverIntegrity μ = true) (obj : IntegrityObject) {r₀ s : State} (hs : Keeps μ r₀ s) : Keeps
        μ r₀ (coverIntegrity obj s) := by
  have b26 : μ.testBit 26 = true := sub_bit hμ rfl
  unfold coverIntegrity
  simp (maxDischargeDepth := 40) +contextual only [hs, fr_ite, ite_self, implies_true, b26, upd_integ]

def kf_cacheLine : Nat := 0x4000000
theorem fr_cacheLine {μ : Nat} (hμ : sub kf_cacheLine μ = true) (obj : IntegrityObject) {r₀ s : State} (hs : Keeps μ r₀ s) : Keeps μ r₀
        (cacheLine obj s) := by
  have b26 : μ.testBit 26 = true := sub_bit hμ rfl
  unfold cacheLine
  (try simp (maxDischargeDepth := 40) +contextual only [hs, fr_ite, ite_self, implies_true, b26, upd_integ, fr_coverIntegrity (sub_trans rfl
        hμ), fr_foldl])
  repeat' split
  all_goals first
    | (with_reducible exact hs)
    | (simp (maxDischargeDepth := 40) +contextual only [hs, fr_ite, ite_self, implies_true, b26, upd_integ, fr_coverIntegrity (sub_trans rfl hμ),
        fr_foldl]; done)

def kf_emit : Nat := 0x0
theorem fr_emit {μ : Nat} (hμ : sub kf_emit μ = true) (o : Out) {r₀ s : State} (hs : Keeps μ r₀ s) : Keeps μ r₀ (emit o s) := by
  unfold emit
  simp (maxDischargeDepth := 40) +contextual only [hs, fr_ite, ite_self, implies_true, upd_out]

def kf_drawn : Nat := 0x0
theorem fr_drawn {μ : Nat} (hμ : sub kf_drawn μ = true) {r₀ s : State} (hs : Keeps μ r₀ s) : Keeps μ r₀ (drawn s) := by
  unfold drawn
  simp (maxDischargeDepth := 40) +contextual only [hs, fr_ite, ite_self, implies_true, upd_draws]

def kf_takeStamp : Nat := 0x4
theorem fr_takeStamp {μ : Nat} (hμ : sub kf_takeStamp μ = true) {r₀ s : State} (hs : Keeps μ r₀ s) : Keeps μ r₀ (takeStamp s) := by
  have b2 : μ.testBit 2 = true := sub_bit hμ rfl
  unfold takeStamp
  simp (maxDischargeDepth := 40) +contextual only [hs, fr_ite, ite_self, implies_true, b2, upd_nextStamp, fr_put (sub_trans rfl hμ)]

def kf_takeSeq : Nat := 0x10
theorem fr_takeSeq {μ : Nat} (hμ : sub kf_takeSeq μ = true) {r₀ s : State} (hs : Keeps μ r₀ s) : Keeps μ r₀ (takeSeq s) := by
  have b4 : μ.testBit 4 = true := sub_bit hμ rfl
  unfold takeSeq
  simp (maxDischargeDepth := 40) +contextual only [hs, fr_ite, ite_self, implies_true, b4, upd_nextSeq]

def kf_sendMsi : Nat := 0x60
theorem fr_sendMsi {μ : Nat} (hμ : sub kf_sendMsi μ = true) (p : Port) (vector : Nat) {r₀ s : State} (hs : Keeps μ r₀ s) : Keeps μ r₀
        (sendMsi p vector s) := by
  unfold sendMsi
  simp (maxDischargeDepth := 40) +contextual only [hs, fr_ite, ite_self, implies_true, fr_modPort (sub_trans rfl hμ), fr_emit (sub_trans rfl
        hμ)]

def kf_postRecord : Nat := 0x60
theorem fr_postRecord {μ : Nat} (hμ : sub kf_postRecord μ = true) (p : Port) (severity : Nat) (r : EventRecord) {r₀ s : State} (hs : Keeps μ
        r₀ s) : Keeps μ r₀ (postRecord p severity r s) := by
  unfold postRecord
  simp (maxDischargeDepth := 40) +contextual only [hs, fr_ite, ite_self, implies_true, fr_setPort (sub_trans rfl hμ), fr_sendMsi (sub_trans
        rfl hμ)]

def kf_placeNotice : Nat := 0x80000000
theorem fr_placeNotice {μ : Nat} (hμ : sub kf_placeNotice μ = true) (src severity stamp : Nat) (snaps : List Snapshot) {r₀ s : State} (hs :
        Keeps μ r₀ s) : Keeps μ r₀ (placeNotice src severity stamp snaps s) := by
  have b31 : μ.testBit 31 = true := sub_bit hμ rfl
  unfold placeNotice
  simp (maxDischargeDepth := 40) +contextual only [hs, fr_ite, ite_self, implies_true, b31, upd_mgmt, fr_bump (sub_trans rfl hμ), fr_put
        (sub_trans rfl hμ)]

def kf_recordOccurrence : Nat := 0x100000000
theorem fr_recordOccurrence {μ : Nat} (hμ : sub kf_recordOccurrence μ = true) (r : RecorderRecord) {r₀ s : State} (hs : Keeps μ r₀ s) :
        Keeps μ r₀ (recordOccurrence r s) := by
  have b32 : μ.testBit 32 = true := sub_bit hμ rfl
  unfold recordOccurrence
  simp (maxDischargeDepth := 40) +contextual only [hs, fr_ite, ite_self, implies_true, b32, upd_recd, fr_bump (sub_trans rfl hμ)]

def kf_latchMsi : Nat := 0x60
theorem fr_latchMsi {μ : Nat} (hμ : sub kf_latchMsi μ = true) (src routing mask : Nat) {r₀ s : State} (hs : Keeps μ r₀ s) : Keeps μ r₀
        (latchMsi src routing mask s) := by
  unfold latchMsi
  simp (maxDischargeDepth := 40) +contextual only [hs, fr_ite, ite_self, implies_true, fr_sendMsi (sub_trans rfl hμ)]

def kf_occurOnce : Nat := 0x180000064
theorem fr_occurOnce {μ : Nat} (hμ : sub kf_occurOnce μ = true) (src : Nat) {r₀ s : State} (hs : Keeps μ r₀ s) : Keeps μ r₀ (occurOnce src
        s) := by
  unfold occurOnce
  (try simp (maxDischargeDepth := 40) +contextual only [hs, fr_ite, ite_self, implies_true, fr_bump (sub_trans rfl hμ), fr_put (sub_trans rfl
        hμ), fr_latchMsi (sub_trans rfl hμ), fr_placeNotice (sub_trans rfl hμ), fr_postRecord (sub_trans rfl hμ), fr_recordOccurrence
        (sub_trans rfl hμ), fr_takeStamp (sub_trans rfl hμ)])
  repeat' split
  all_goals first
    | (with_reducible exact hs)
    | (simp (maxDischargeDepth := 40) +contextual only [hs, fr_ite, ite_self, implies_true, fr_bump (sub_trans rfl hμ), fr_put (sub_trans rfl hμ),
        fr_latchMsi (sub_trans rfl hμ), fr_placeNotice (sub_trans rfl hμ), fr_postRecord (sub_trans rfl hμ), fr_recordOccurrence (sub_trans
        rfl hμ), fr_takeStamp (sub_trans rfl hμ)]; done)

def kf_raiseDepth : Nat := 0x180000064
theorem fr_raiseDepth {μ : Nat} (hμ : sub kf_raiseDepth μ = true) {r₀ : State} (n src : Nat) {s : State} (hs : Keeps μ r₀ s) : Keeps μ r₀ (raiseDepth n src s) := by
  induction n generalizing src s with
  | zero => exact fr_occurOnce (sub_trans rfl hμ) _ hs
  | succ n ih => rw [raiseDepth]; exact fr_foldl (fun t a ht => ih a ht) _ (fr_occurOnce (sub_trans rfl hμ) _ hs)

def kf_raise : Nat := 0x180000064
theorem fr_raise {μ : Nat} (hμ : sub kf_raise μ = true) {r₀ : State} (src : Nat) {s : State} (hs : Keeps μ r₀ s) : Keeps μ r₀ (raise src s) := fr_raiseDepth (sub_trans rfl hμ) 2 src hs

def kf_raiseIf : Nat := 0x180000064
theorem fr_raiseIf {μ : Nat} (hμ : sub kf_raiseIf μ = true) (c : Bool) (src : Nat) {r₀ s : State} (hs : Keeps μ r₀ s) : Keeps μ r₀ (raiseIf
        c src s) := by
  unfold raiseIf
  simp (maxDischargeDepth := 40) +contextual only [hs, fr_ite, ite_self, implies_true, fr_raise (sub_trans rfl hμ)]

def kf_addToCounter : Nat := 0x380000064
theorem fr_addToCounter {μ : Nat} (hμ : sub kf_addToCounter μ = true) (n amount : Nat) {r₀ s : State} (hs : Keeps μ r₀ s) : Keeps μ r₀
        (addToCounter n amount s) := by
  have b33 : μ.testBit 33 = true := sub_bit hμ rfl
  unfold addToCounter
  simp (maxDischargeDepth := 40) +contextual only [hs, fr_ite, ite_self, implies_true, b33, upd_obs, fr_put (sub_trans rfl hμ), fr_raise
        (sub_trans rfl hμ)]

def kf_count : Nat := 0x380000064
theorem fr_count {μ : Nat} (hμ : sub kf_count μ = true) (code q amount : Nat) {r₀ s : State} (hs : Keeps μ r₀ s) : Keeps μ r₀ (count code q
        amount s) := by
  unfold count
  simp (maxDischargeDepth := 40) +contextual only [hs, fr_ite, ite_self, implies_true, fr_addToCounter (sub_trans rfl hμ), fr_foldl]

def kf_count1 : Nat := 0x380000064
theorem fr_count1 {μ : Nat} (hμ : sub kf_count1 μ = true) (code q : Nat) {r₀ s : State} (hs : Keeps μ r₀ s) : Keeps μ r₀ (count1 code q s)
        := by
  unfold count1
  simp (maxDischargeDepth := 40) +contextual only [hs, fr_ite, ite_self, implies_true, fr_count (sub_trans rfl hμ)]

def kf_beginEpisode : Nat := 0x100000000
theorem fr_beginEpisode {μ : Nat} (hμ : sub kf_beginEpisode μ = true) (kind : Nat) {r₀ s : State} (hs : Keeps μ r₀ s) : Keeps μ r₀
        (beginEpisode kind s) := by
  have b32 : μ.testBit 32 = true := sub_bit hμ rfl
  unfold beginEpisode
  (try simp (maxDischargeDepth := 40) +contextual only [hs, fr_ite, ite_self, implies_true, b32, upd_recd, fr_put (sub_trans rfl hμ)])
  repeat' split
  all_goals first
    | (with_reducible exact hs)
    | (simp (maxDischargeDepth := 40) +contextual only [hs, fr_ite, ite_self, implies_true, b32, upd_recd, fr_put (sub_trans rfl hμ)]; done)

def kf_endEpisode : Nat := 0x100000000
theorem fr_endEpisode {μ : Nat} (hμ : sub kf_endEpisode μ = true) {r₀ s : State} (hs : Keeps μ r₀ s) : Keeps μ r₀ (endEpisode s) := by
  have b32 : μ.testBit 32 = true := sub_bit hμ rfl
  unfold endEpisode
  simp (maxDischargeDepth := 40) +contextual only [hs, fr_ite, ite_self, implies_true, b32, upd_recd, fr_put (sub_trans rfl hμ)]

def kf_judgeEpisode : Nat := 0x100000000
theorem fr_judgeEpisode {μ : Nat} (hμ : sub kf_judgeEpisode μ = true) {r₀ s : State} (hs : Keeps μ r₀ s) : Keeps μ r₀ (judgeEpisode s) := by
  unfold judgeEpisode
  (try simp (maxDischargeDepth := 40) +contextual only [hs, fr_ite, ite_self, implies_true, fr_beginEpisode (sub_trans rfl hμ), fr_endEpisode
        (sub_trans rfl hμ)])
  repeat' split
  all_goals first
    | (with_reducible exact hs)
    | (simp (maxDischargeDepth := 40) +contextual only [hs, fr_ite, ite_self, implies_true, fr_beginEpisode (sub_trans rfl hμ), fr_endEpisode
        (sub_trans rfl hμ)]; done)

def kf_nameLines : Nat := 0x100000000
theorem fr_nameLines {μ : Nat} (hμ : sub kf_nameLines μ = true) (src : Nat) (ranges : List (Nat × Nat)) {r₀ s : State} (hs : Keeps μ r₀ s) :
        Keeps μ r₀ (nameLines src ranges s) := by
  have b32 : μ.testBit 32 = true := sub_bit hμ rfl
  unfold nameLines
  simp (maxDischargeDepth := 40) +contextual only [hs, fr_ite, ite_self, implies_true, b32, upd_recd]

def kf_setRegionState : Nat := 0x180000064
theorem fr_setRegionState {μ : Nat} (hμ : sub kf_setRegionState μ = true) (r v : Nat) {r₀ s : State} (hs : Keeps μ r₀ s) : Keeps μ r₀
        (setRegionState r v s) := by
  unfold setRegionState
  simp (maxDischargeDepth := 40) +contextual only [hs, fr_ite, ite_self, implies_true, fr_put (sub_trans rfl hμ), fr_raise (sub_trans rfl hμ)]

def kf_setMode : Nat := 0x1A0000064
theorem fr_setMode {μ : Nat} (hμ : sub kf_setMode μ = true) (m : Nat) {r₀ s : State} (hs : Keeps μ r₀ s) : Keeps μ r₀ (setMode m s) := by
  have b29 : μ.testBit 29 = true := sub_bit hμ rfl
  unfold setMode
  simp (maxDischargeDepth := 40) +contextual only [hs, fr_ite, ite_self, implies_true, b29, upd_modes, fr_put (sub_trans rfl hμ),
        fr_judgeEpisode (sub_trans rfl hμ), fr_raise (sub_trans rfl hμ)]

def kf_refusedByState : Nat := 0x0
theorem fr_refusedByState {μ : Nat} (hμ : sub kf_refusedByState μ = true) {r₀ s : State} (hs : Keeps μ r₀ s) : Keeps μ r₀ (refusedByState s)
        := by
  unfold refusedByState
  simp (maxDischargeDepth := 40) +contextual only [hs, fr_ite, ite_self, implies_true, fr_bump (sub_trans rfl hμ)]

def kf_pruneRanges : Nat := 0x4000000
theorem fr_pruneRanges {μ : Nat} (hμ : sub kf_pruneRanges μ = true) (line : Nat) {r₀ s : State} (hs : Keeps μ r₀ s) : Keeps μ r₀
        (pruneRanges line s) := by
  have b26 : μ.testBit 26 = true := sub_bit hμ rfl
  unfold pruneRanges
  simp (maxDischargeDepth := 40) +contextual only [hs, fr_ite, ite_self, implies_true, b26, upd_integ]

def kf_dropCachedBlocks : Nat := 0xC00
theorem fr_dropCachedBlocks {μ : Nat} (hμ : sub kf_dropCachedBlocks μ = true) (first n : Nat) {r₀ s : State} (hs : Keeps μ r₀ s) : Keeps μ
        r₀ (dropCachedBlocks first n s) := by
  have b10 : μ.testBit 10 = true := sub_bit hμ rfl
  have b11 : μ.testBit 11 = true := sub_bit hμ rfl
  unfold dropCachedBlocks
  simp (maxDischargeDepth := 40) +contextual only [hs, fr_ite, ite_self, implies_true, b10, b11, upd_l1_l2]

def kf_dropCachedRange : Nat := 0xC00
theorem fr_dropCachedRange {μ : Nat} (hμ : sub kf_dropCachedRange μ = true) (first n : Nat) {r₀ s : State} (hs : Keeps μ r₀ s) : Keeps μ r₀
        (dropCachedRange first n s) := by
  have b10 : μ.testBit 10 = true := sub_bit hμ rfl
  have b11 : μ.testBit 11 = true := sub_bit hμ rfl
  unfold dropCachedRange
  simp (maxDischargeDepth := 40) +contextual only [hs, fr_ite, ite_self, implies_true, b10, b11, upd_l1_l2, fr_foldl]

def kf_dropCached : Nat := 0xC00
theorem fr_dropCached {μ : Nat} (hμ : sub kf_dropCached μ = true) (line : Nat) {r₀ s : State} (hs : Keeps μ r₀ s) : Keeps μ r₀ (dropCached
        line s) := by
  have b10 : μ.testBit 10 = true := sub_bit hμ rfl
  have b11 : μ.testBit 11 = true := sub_bit hμ rfl
  unfold dropCached
  simp (maxDischargeDepth := 40) +contextual only [hs, fr_ite, ite_self, implies_true, b10, b11, upd_l1_l2]

def kf_storeToCaches : Nat := 0xC00
theorem fr_storeToCaches {μ : Nat} (hμ : sub kf_storeToCaches μ = true) (wmode line : Nat) (d : Line) (poison : Bool) {r₀ s : State} (hs :
        Keeps μ r₀ s) : Keeps μ r₀ (storeToCaches wmode line d poison s) := by
  have b10 : μ.testBit 10 = true := sub_bit hμ rfl
  have b11 : μ.testBit 11 = true := sub_bit hμ rfl
  unfold storeToCaches
  simp (maxDischargeDepth := 40) +contextual only [hs, fr_ite, ite_self, implies_true, b10, b11, upd_l1_l2, fr_dropCached (sub_trans rfl hμ)]

def kf_installTwo : Nat := 0x2800
theorem fr_installTwo {μ : Nat} (hμ : sub kf_installTwo μ = true) (n : CacheBlock) {r₀ s : State} (hs : Keeps μ r₀ s) : Keeps μ r₀
        (installTwo n s) := by
  have b11 : μ.testBit 11 = true := sub_bit hμ rfl
  have b13 : μ.testBit 13 = true := sub_bit hμ rfl
  unfold installTwo
  (try simp (maxDischargeDepth := 40) +contextual only [hs, fr_ite, ite_self, implies_true, b11, b13, upd_l2, upd_l2_lfsr2])
  repeat' split
  all_goals first
    | (with_reducible exact hs)
    | (simp (maxDischargeDepth := 40) +contextual only [hs, fr_ite, ite_self, implies_true, b11, b13, upd_l2, upd_l2_lfsr2]; done)

def kf_offerVictim : Nat := 0x2800
theorem fr_offerVictim {μ : Nat} (hμ : sub kf_offerVictim μ = true) (v : CacheBlock) {r₀ s : State} (hs : Keeps μ r₀ s) : Keeps μ r₀
        (offerVictim v s) := by
  unfold offerVictim
  simp (maxDischargeDepth := 40) +contextual only [hs, fr_ite, ite_self, implies_true, fr_bump (sub_trans rfl hμ), fr_drawn (sub_trans rfl
        hμ), fr_installTwo (sub_trans rfl hμ)]

def kf_installOne : Nat := 0x3C00
theorem fr_installOne {μ : Nat} (hμ : sub kf_installOne μ = true) (n : CacheBlock) {r₀ s : State} (hs : Keeps μ r₀ s) : Keeps μ r₀
        (installOne n s) := by
  have b10 : μ.testBit 10 = true := sub_bit hμ rfl
  have b12 : μ.testBit 12 = true := sub_bit hμ rfl
  unfold installOne
  (try simp (maxDischargeDepth := 40) +contextual only [hs, fr_ite, ite_self, implies_true, b10, b12, upd_l1, upd_l1_lfsr1, fr_offerVictim
        (sub_trans rfl hμ)])
  repeat' split
  all_goals first
    | (with_reducible exact hs)
    | (simp (maxDischargeDepth := 40) +contextual only [hs, fr_ite, ite_self, implies_true, b10, b12, upd_l1, upd_l1_lfsr1, fr_offerVictim
        (sub_trans rfl hμ)]; done)

def kf_installFill : Nat := 0x3C00
theorem fr_installFill {μ : Nat} (hμ : sub kf_installFill μ = true) (attr : Nat) (n : CacheBlock) {r₀ s : State} (hs : Keeps μ r₀ s) : Keeps
        μ r₀ (installFill attr n s) := by
  unfold installFill
  simp (maxDischargeDepth := 40) +contextual only [hs, fr_ite, ite_self, implies_true, fr_installOne (sub_trans rfl hμ), fr_installTwo
        (sub_trans rfl hμ)]

def kf_noteHealth : Nat := 0x182000064
theorem fr_noteHealth {μ : Nat} (hμ : sub kf_noteHealth μ = true) {r₀ s : State} (hs : Keeps μ r₀ s) : Keeps μ r₀ (noteHealth s) := by
  have b25 : μ.testBit 25 = true := sub_bit hμ rfl
  unfold noteHealth
  simp (maxDischargeDepth := 40) +contextual only [hs, fr_ite, ite_self, implies_true, b25, upd_med, fr_raise (sub_trans rfl hμ)]

def kf_appendRecord : Nat := 0x1000004
theorem fr_appendRecord {μ : Nat} (hμ : sub kf_appendRecord μ = true) (k : JournalKind) {r₀ s : State} (hs : Keeps μ r₀ s) : Keeps μ r₀
        (appendRecord k s) := by
  have b24 : μ.testBit 24 = true := sub_bit hμ rfl
  unfold appendRecord
  simp (maxDischargeDepth := 40) +contextual only [hs, fr_ite, ite_self, implies_true, b24, upd_xlat, fr_takeStamp (sub_trans rfl hμ)]

def kf_restoreUnits : Nat := 0x2000000
theorem fr_restoreUnits {μ : Nat} (hμ : sub kf_restoreUnits μ = true) {r₀ s : State} (hs : Keeps μ r₀ s) : Keeps μ r₀ (restoreUnits s) := by
  unfold restoreUnits
  simp (maxDischargeDepth := 40) +contextual only [hs, fr_ite, ite_self, implies_true, fr_setUnit (sub_trans rfl hμ), fr_foldl]

def kf_disturb : Nat := 0x2000000
theorem fr_disturb {μ : Nat} (hμ : sub kf_disturb μ = true) (u n : Nat) {r₀ s : State} (hs : Keeps μ r₀ s) : Keeps μ r₀ (disturb u n s) :=
        by
  have b25 : μ.testBit 25 = true := sub_bit hμ rfl
  unfold disturb
  simp (maxDischargeDepth := 40) +contextual only [hs, fr_ite, ite_self, implies_true, b25, upd_med, fr_setUnit (sub_trans rfl hμ)]

def kf_addCycles : Nat := 0x2000000
theorem fr_addCycles {μ : Nat} (hμ : sub kf_addCycles μ = true) (u n : Nat) {r₀ s : State} (hs : Keeps μ r₀ s) : Keeps μ r₀ (addCycles u n
        s) := by
  unfold addCycles
  simp (maxDischargeDepth := 40) +contextual only [hs, fr_ite, ite_self, implies_true, fr_setUnit (sub_trans rfl hμ)]

def kf_wearOut : Nat := 0x183000064
theorem fr_wearOut {μ : Nat} (hμ : sub kf_wearOut μ = true) (u : Nat) {r₀ s : State} (hs : Keeps μ r₀ s) : Keeps μ r₀ (wearOut u s) := by
  unfold wearOut
  simp (maxDischargeDepth := 40) +contextual only [hs, fr_ite, ite_self, implies_true, fr_bump (sub_trans rfl hμ), fr_setUnit (sub_trans rfl
        hμ), fr_appendRecord (sub_trans rfl hμ), fr_noteHealth (sub_trans rfl hμ), fr_raise (sub_trans rfl hμ)]

def kf_sectorsProgrammed : Nat := 0x383000064
theorem fr_sectorsProgrammed {μ : Nat} (hμ : sub kf_sectorsProgrammed μ = true) (u n page : Nat) {r₀ s : State} (hs : Keeps μ r₀ s) : Keeps
        μ r₀ (sectorsProgrammed u n page s) := by
  unfold sectorsProgrammed
  simp (maxDischargeDepth := 40) +contextual only [hs, fr_ite, ite_self, implies_true, fr_setUnit (sub_trans rfl hμ), fr_addCycles (sub_trans
        rfl hμ), fr_count (sub_trans rfl hμ), fr_disturb (sub_trans rfl hμ), fr_wearOut (sub_trans rfl hμ)]

def kf_programsRun : Nat := 0x380000064
theorem fr_programsRun {μ : Nat} (hμ : sub kf_programsRun μ = true) (kind : OpKind) (u n bytes : Nat) {r₀ s : State} (hs : Keeps μ r₀ s) :
        Keeps μ r₀ (programsRun kind u n bytes s) := by
  unfold programsRun
  simp (maxDischargeDepth := 40) +contextual only [hs, fr_ite, ite_self, implies_true, fr_addTo (sub_trans rfl hμ), fr_raiseTo (sub_trans rfl
        hμ), fr_count (sub_trans rfl hμ)]

def kf_ringSectorsOn : Nat := 0x383000064
theorem fr_ringSectorsOn {μ : Nat} (hμ : sub kf_ringSectorsOn μ = true) (u n page : Nat) {r₀ s : State} (hs : Keeps μ r₀ s) : Keeps μ r₀
        (ringSectorsOn u n page s) := by
  unfold ringSectorsOn
  simp (maxDischargeDepth := 40) +contextual only [hs, fr_ite, ite_self, implies_true, fr_programsRun (sub_trans rfl hμ), fr_sectorsProgrammed
        (sub_trans rfl hμ)]

def kf_stripeSectors : Nat := 0x383000064
theorem fr_stripeSectors {μ : Nat} (hμ : sub kf_stripeSectors μ = true) (r : Ring) (stripe row n : Nat) {r₀ s : State} (hs : Keeps μ r₀ s) :
        Keeps μ r₀ (stripeSectors r stripe row n s) := by
  unfold stripeSectors
  simp (maxDischargeDepth := 40) +contextual only [hs, fr_ite, ite_self, implies_true, fr_ringSectorsOn (sub_trans rfl hμ), fr_foldl]

def kf_ringSectors : Nat := 0x383000064
theorem fr_ringSectors {μ : Nat} (hμ : sub kf_ringSectors μ = true) {r₀ : State} (r : Ring) (k row n : Nat) {s : State} (hs : Keeps μ r₀ s) : Keeps μ r₀ (ringSectors r k row n s) := by
  induction k generalizing row n s with
  | zero => exact hs
  | succ k ih => exact fr_cond hs (ih _ _ (fr_stripeSectors (sub_trans rfl hμ) _ _ _ _ hs))

def kf_ringProgram : Nat := 0x383000064
theorem fr_ringProgram {μ : Nat} (hμ : sub kf_ringProgram μ = true) (r : Ring) (row n : Nat) {r₀ s : State} (hs : Keeps μ r₀ s) : Keeps μ r₀
        (ringProgram r row n s) := by
  unfold ringProgram
  simp (maxDischargeDepth := 40) +contextual only [hs, fr_ite, ite_self, implies_true, fr_ringSectors (sub_trans rfl hμ)]

def kf_checkpointSectors : Nat := 0x383000064
theorem fr_checkpointSectors {μ : Nat} (hμ : sub kf_checkpointSectors μ = true) (n : Nat) {r₀ s : State} (hs : Keeps μ r₀ s) : Keeps μ r₀
        (checkpointSectors n s) := by
  have b24 : μ.testBit 24 = true := sub_bit hμ rfl
  unfold checkpointSectors
  simp (maxDischargeDepth := 40) +contextual only [hs, fr_ite, ite_self, implies_true, b24, upd_xlat, fr_ringProgram (sub_trans rfl hμ)]

def kf_dirtySegment : Nat := 0x1000000
theorem fr_dirtySegment {μ : Nat} (hμ : sub kf_dirtySegment μ = true) (seg : Nat) {r₀ s : State} (hs : Keeps μ r₀ s) : Keeps μ r₀
        (dirtySegment seg s) := by
  have b24 : μ.testBit 24 = true := sub_bit hμ rfl
  unfold dirtySegment
  (try simp (maxDischargeDepth := 40) +contextual only [hs, fr_ite, ite_self, implies_true, b24, upd_xlat])
  repeat' split
  all_goals first
    | (with_reducible exact hs)
    | (simp (maxDischargeDepth := 40) +contextual only [hs, fr_ite, ite_self, implies_true, b24, upd_xlat]; done)

def kf_dirtyPages : Nat := 0x1000000
theorem fr_dirtyPages {μ : Nat} (hμ : sub kf_dirtyPages μ = true) (first n : Nat) {r₀ s : State} (hs : Keeps μ r₀ s) : Keeps μ r₀
        (dirtyPages first n s) := by
  unfold dirtyPages
  simp (maxDischargeDepth := 40) +contextual only [hs, fr_ite, ite_self, implies_true, fr_dirtySegment (sub_trans rfl hμ), fr_foldl]

def kf_putEntry : Nat := 0x4000000
theorem fr_putEntry {μ : Nat} (hμ : sub kf_putEntry μ = true) (k : IntegrityKind) {r₀ s : State} (hs : Keeps μ r₀ s) : Keeps μ r₀ (putEntry
        k s) := by
  have b26 : μ.testBit 26 = true := sub_bit hμ rfl
  unfold putEntry
  simp (maxDischargeDepth := 40) +contextual only [hs, fr_ite, ite_self, implies_true, b26, upd_integ]

def kf_journalSectors : Nat := 0x383000064
theorem fr_journalSectors {μ : Nat} (hμ : sub kf_journalSectors μ = true) (n : Nat) {r₀ s : State} (hs : Keeps μ r₀ s) : Keeps μ r₀
        (journalSectors n s) := by
  have b24 : μ.testBit 24 = true := sub_bit hμ rfl
  unfold journalSectors
  simp (maxDischargeDepth := 40) +contextual only [hs, fr_ite, ite_self, implies_true, b24, upd_xlat, fr_ringProgram (sub_trans rfl hμ)]

def kf_coverJournal : Nat := 0x4000000
theorem fr_coverJournal {μ : Nat} (hμ : sub kf_coverJournal μ = true) {r₀ s : State} (hs : Keeps μ r₀ s) : Keeps μ r₀ (coverJournal s) := by
  have b26 : μ.testBit 26 = true := sub_bit hμ rfl
  unfold coverJournal
  simp (maxDischargeDepth := 40) +contextual only [hs, fr_ite, ite_self, implies_true, b26, upd_integ, fr_putEntry (sub_trans rfl hμ)]

def kf_programSector : Nat := 0x387000064
theorem fr_programSector {μ : Nat} (hμ : sub kf_programSector μ = true) {r₀ s : State} (hs : Keeps μ r₀ s) : Keeps μ r₀ (programSector s) :=
        by
  have b26 : μ.testBit 26 = true := sub_bit hμ rfl
  unfold programSector
  simp (maxDischargeDepth := 40) +contextual only [hs, fr_ite, ite_self, implies_true, b26, upd_integ, fr_journalSectors (sub_trans rfl hμ)]

def kf_programEntries : Nat := 0x387000064
theorem fr_programEntries {μ : Nat} (hμ : sub kf_programEntries μ = true) {r₀ s : State} (hs : Keeps μ r₀ s) : Keeps μ r₀ (programEntries s)
        := by
  have b25 : μ.testBit 25 = true := sub_bit hμ rfl
  have b26 : μ.testBit 26 = true := sub_bit hμ rfl
  unfold programEntries
  simp (maxDischargeDepth := 40) +contextual only [hs, fr_ite, ite_self, implies_true, b25, b26, upd_med_integ, fr_coverJournal (sub_trans rfl
        hμ), fr_programSector (sub_trans rfl hμ), fr_foldl]

def kf_programJournal : Nat := 0x383000064
theorem fr_programJournal {μ : Nat} (hμ : sub kf_programJournal μ = true) {r₀ s : State} (hs : Keeps μ r₀ s) : Keeps μ r₀ (programJournal s)
        := by
  have b24 : μ.testBit 24 = true := sub_bit hμ rfl
  unfold programJournal
  simp (maxDischargeDepth := 40) +contextual only [hs, fr_ite, ite_self, implies_true, b24, upd_xlat, fr_journalSectors (sub_trans rfl hμ)]

def kf_programTail : Nat := 0x387000064
theorem fr_programTail {μ : Nat} (hμ : sub kf_programTail μ = true) {r₀ s : State} (hs : Keeps μ r₀ s) : Keeps μ r₀ (programTail s) := by
  unfold programTail
  simp (maxDischargeDepth := 40) +contextual only [hs, fr_ite, ite_self, implies_true, fr_programEntries (sub_trans rfl hμ), fr_programJournal
        (sub_trans rfl hμ)]

def kf_journalPut : Nat := 0x387000064
theorem fr_journalPut {μ : Nat} (hμ : sub kf_journalPut μ = true) (k : JournalKind) {r₀ s : State} (hs : Keeps μ r₀ s) : Keeps μ r₀
        (journalPut k s) := by
  unfold journalPut
  simp (maxDischargeDepth := 40) +contextual only [hs, fr_ite, ite_self, implies_true, fr_appendRecord (sub_trans rfl hμ), fr_programTail
        (sub_trans rfl hμ)]

def kf_linesOnMedium : Nat := 0x1000000
theorem fr_linesOnMedium {μ : Nat} (hμ : sub kf_linesOnMedium μ = true) (lines : List (Nat × Nat)) {r₀ s : State} (hs : Keeps μ r₀ s) :
        Keeps μ r₀ (linesOnMedium lines s) := by
  have b24 : μ.testBit 24 = true := sub_bit hμ rfl
  unfold linesOnMedium
  simp (maxDischargeDepth := 40) +contextual only [hs, fr_ite, ite_self, implies_true, b24, upd_xlat]

def kf_grantCredits : Nat := 0x60
theorem fr_grantCredits {μ : Nat} (hμ : sub kf_grantCredits μ = true) (p : Port) {r₀ s : State} (hs : Keeps μ r₀ s) : Keeps μ r₀
        (grantCredits p s) := by
  unfold grantCredits
  simp (maxDischargeDepth := 40) +contextual only [hs, fr_ite, ite_self, implies_true, fr_modPort (sub_trans rfl hμ)]

def kf_useCredit : Nat := 0x60
theorem fr_useCredit {μ : Nat} (hμ : sub kf_useCredit μ = true) (p : Port) {r₀ s : State} (hs : Keeps μ r₀ s) : Keeps μ r₀ (useCredit p s)
        := by
  unfold useCredit
  simp (maxDischargeDepth := 40) +contextual only [hs, fr_ite, ite_self, implies_true, fr_modPort (sub_trans rfl hμ), fr_grantCredits
        (sub_trans rfl hμ)]

def kf_sendData : Nat := 0x380000064
theorem fr_sendData {μ : Nat} (hμ : sub kf_sendData μ = true) (p : Port) (tag : Nat) (d : Line) (poison : Bool) {r₀ s : State} (hs : Keeps μ
        r₀ s) : Keeps μ r₀ (sendData p tag d poison s) := by
  unfold sendData
  simp (maxDischargeDepth := 40) +contextual only [hs, fr_ite, ite_self, implies_true, fr_modPort (sub_trans rfl hμ), fr_count (sub_trans rfl
        hμ), fr_count1 (sub_trans rfl hμ), fr_emit (sub_trans rfl hμ)]

def kf_countWrite : Nat := 0x380000064
theorem fr_countWrite {μ : Nat} (hμ : sub kf_countWrite μ = true) (p : Port) {r₀ s : State} (hs : Keeps μ r₀ s) : Keeps μ r₀ (countWrite p
        s) := by
  unfold countWrite
  simp (maxDischargeDepth := 40) +contextual only [hs, fr_ite, ite_self, implies_true, fr_modPort (sub_trans rfl hμ), fr_count (sub_trans rfl
        hμ)]

def kf_countEligible : Nat := 0x0
theorem fr_countEligible {μ : Nat} (hμ : sub kf_countEligible μ = true) (p : Port) (kindBit : Nat) {r₀ s : State} (hs : Keeps μ r₀ s) :
        Keeps μ r₀ (countEligible p kindBit s) := by
  unfold countEligible
  simp (maxDischargeDepth := 40) +contextual only [hs, fr_ite, ite_self, implies_true, fr_bump (sub_trans rfl hμ), fr_drawn (sub_trans rfl
        hμ)]

def kf_placeSample : Nat := 0x380000064
theorem fr_placeSample {μ : Nat} (hμ : sub kf_placeSample μ = true) (r : SampleRecord) {r₀ s : State} (hs : Keeps μ r₀ s) : Keeps μ r₀
        (placeSample r s) := by
  have b33 : μ.testBit 33 = true := sub_bit hμ rfl
  unfold placeSample
  simp (maxDischargeDepth := 40) +contextual only [hs, fr_ite, ite_self, implies_true, b33, upd_obs, fr_bump (sub_trans rfl hμ), fr_raise
        (sub_trans rfl hμ)]

def kf_sampleWindow : Nat := 0x380000064
theorem fr_sampleWindow {μ : Nat} (hμ : sub kf_sampleWindow μ = true) (p : Port) (opcode line : Nat) (sampled : Bool) {r₀ s : State} (hs :
        Keeps μ r₀ s) : Keeps μ r₀ (sampleWindow p opcode line sampled s) := by
  unfold sampleWindow
  simp (maxDischargeDepth := 40) +contextual only [hs, fr_ite, ite_self, implies_true, fr_placeSample (sub_trans rfl hμ), fr_takeStamp
        (sub_trans rfl hμ)]

def kf_answerBarrier : Nat := 0x380000064
theorem fr_answerBarrier {μ : Nat} (hμ : sub kf_answerBarrier μ = true) (p : Port) (b : BarrierRead) {r₀ s : State} (hs : Keeps μ r₀ s) :
        Keeps μ r₀ (answerBarrier p b s) := by
  unfold answerBarrier
  simp (maxDischargeDepth := 40) +contextual only [hs, fr_ite, ite_self, implies_true, fr_raiseTo (sub_trans rfl hμ), fr_sampleWindow
        (sub_trans rfl hμ), fr_sendData (sub_trans rfl hμ)]

def kf_releaseBarriers : Nat := 0x380000064
theorem fr_releaseBarriers {μ : Nat} (hμ : sub kf_releaseBarriers μ = true) (p : Port) (tag : Nat) {r₀ s : State} (hs : Keeps μ r₀ s) :
        Keeps μ r₀ (releaseBarriers p tag s) := by
  unfold releaseBarriers
  simp (maxDischargeDepth := 40) +contextual only [hs, fr_ite, ite_self, implies_true, fr_modPort (sub_trans rfl hμ), fr_answerBarrier
        (sub_trans rfl hμ), fr_foldl]

def kf_sendCmp : Nat := 0x380000064
theorem fr_sendCmp {μ : Nat} (hμ : sub kf_sendCmp μ = true) (p : Port) (tag : Nat) {r₀ s : State} (hs : Keeps μ r₀ s) : Keeps μ r₀ (sendCmp
        p tag s) := by
  unfold sendCmp
  simp (maxDischargeDepth := 40) +contextual only [hs, fr_ite, ite_self, implies_true, fr_emit (sub_trans rfl hμ), fr_releaseBarriers
        (sub_trans rfl hμ)]

def kf_sendCmps : Nat := 0x380000064
theorem fr_sendCmps {μ : Nat} (hμ : sub kf_sendCmps μ = true) (l : List (Port × Nat)) {r₀ s : State} (hs : Keeps μ r₀ s) : Keeps μ r₀
        (sendCmps l s) := by
  unfold sendCmps
  simp (maxDischargeDepth := 40) +contextual only [hs, fr_ite, ite_self, implies_true, fr_sendCmp (sub_trans rfl hμ), fr_foldl]

def kf_raiseTimes : Nat := 0x180000064
theorem fr_raiseTimes {μ : Nat} (hμ : sub kf_raiseTimes μ = true) {r₀ : State} (n src : Nat) {s : State} (hs : Keeps μ r₀ s) : Keeps μ r₀ (raiseTimes n src s) := by
  induction n generalizing s with
  | zero => exact hs
  | succ n ih => exact ih (fr_raise (sub_trans rfl hμ) _ hs)

def kf_dropStores : Nat := 0x180000064
theorem fr_dropStores {μ : Nat} (hμ : sub kf_dropStores μ = true) (p : Port) (bit n : Nat) {r₀ s : State} (hs : Keeps μ r₀ s) : Keeps μ r₀
        (dropStores p bit n s) := by
  unfold dropStores
  simp (maxDischargeDepth := 40) +contextual only [hs, fr_ite, ite_self, implies_true, fr_addTo (sub_trans rfl hμ), fr_modPort (sub_trans rfl
        hμ), fr_raiseTimes (sub_trans rfl hμ)]

def kf_stray : Nat := 0x180000064
theorem fr_stray {μ : Nat} (hμ : sub kf_stray μ = true) (p : Port) {r₀ s : State} (hs : Keeps μ r₀ s) : Keeps μ r₀ (stray p s) := by
  unfold stray
  simp (maxDischargeDepth := 40) +contextual only [hs, fr_ite, ite_self, implies_true, fr_bump (sub_trans rfl hμ), fr_raise (sub_trans rfl
        hμ)]

def kf_strayIf : Nat := 0x180000064
theorem fr_strayIf {μ : Nat} (hμ : sub kf_strayIf μ = true) (c : Bool) (p : Port) {r₀ s : State} (hs : Keeps μ r₀ s) : Keeps μ r₀ (strayIf c
        p s) := by
  unfold strayIf
  simp (maxDischargeDepth := 40) +contextual only [hs, fr_ite, ite_self, implies_true, fr_stray (sub_trans rfl hμ)]

def kf_discardRange : Nat := 0x387000EE4
theorem fr_discardRange {μ : Nat} (hμ : sub kf_discardRange μ = true) (p : Port) (entry first n : Nat) {r₀ s : State} (hs : Keeps μ r₀ s) :
        Keeps μ r₀ (discardRange p entry first n s) := by
  have b7 : μ.testBit 7 = true := sub_bit hμ rfl
  have b24 : μ.testBit 24 = true := sub_bit hμ rfl
  have b25 : μ.testBit 25 = true := sub_bit hμ rfl
  unfold discardRange
  simp (maxDischargeDepth := 40) +contextual only [hs, fr_ite, ite_self, implies_true, b7, b24, b25, upd_staging_xlat_med, fr_dirtyPages
        (sub_trans rfl hμ), fr_dropCachedRange (sub_trans rfl hμ), fr_journalPut (sub_trans rfl hμ), fr_rearmStall (sub_trans rfl hμ),
        fr_sendCmps (sub_trans rfl hμ)]

def kf_unmap : Nat := 0x1000000
theorem fr_unmap {μ : Nat} (hμ : sub kf_unmap μ = true) (entry : Nat) {r₀ s : State} (hs : Keeps μ r₀ s) : Keeps μ r₀ (unmap entry s) := by
  have b24 : μ.testBit 24 = true := sub_bit hμ rfl
  unfold unmap
  (try simp (maxDischargeDepth := 40) +contextual only [hs, fr_ite, ite_self, implies_true, b24, upd_xlat])
  repeat' split
  all_goals first
    | (with_reducible exact hs)
    | (simp (maxDischargeDepth := 40) +contextual only [hs, fr_ite, ite_self, implies_true, b24, upd_xlat]; done)

def kf_finishDiscard : Nat := 0x387000EE4
theorem fr_finishDiscard {μ : Nat} (hμ : sub kf_finishDiscard μ = true) (p : Port) (entry : Nat) {r₀ s : State} (hs : Keeps μ r₀ s) : Keeps
        μ r₀ (finishDiscard p entry s) := by
  unfold finishDiscard
  simp (maxDischargeDepth := 40) +contextual only [hs, fr_ite, ite_self, implies_true, fr_modPort (sub_trans rfl hμ), fr_discardRange
        (sub_trans rfl hμ)]

def kf_runDiscard : Nat := 0x387000EE4
theorem fr_runDiscard {μ : Nat} (hμ : sub kf_runDiscard μ = true) (p : Port) {r₀ s : State} (hs : Keeps μ r₀ s) : Keeps μ r₀ (runDiscard p
        s) := by
  unfold runDiscard
  (try simp (maxDischargeDepth := 40) +contextual only [hs, fr_ite, ite_self, implies_true, fr_finishDiscard (sub_trans rfl hμ), fr_unmap
        (sub_trans rfl hμ)])
  repeat' split
  all_goals first
    | (with_reducible exact hs)
    | (simp (maxDischargeDepth := 40) +contextual only [hs, fr_ite, ite_self, implies_true, fr_finishDiscard (sub_trans rfl hμ), fr_unmap
        (sub_trans rfl hμ)]; done)

def kf_finishDiscards : Nat := 0x387000EE4
theorem fr_finishDiscards {μ : Nat} (hμ : sub kf_finishDiscards μ = true) {r₀ s : State} (hs : Keeps μ r₀ s) : Keeps μ r₀ (finishDiscards s)
        := by
  unfold finishDiscards
  simp (maxDischargeDepth := 40) +contextual only [hs, fr_ite, ite_self, implies_true, fr_runDiscard (sub_trans rfl hμ)]

def kf_takeBlocking : Nat := 0x80
theorem fr_takeBlocking {μ : Nat} (hμ : sub kf_takeBlocking μ = true) {r₀ s : State} (hs : Keeps μ r₀ s) : Keeps μ r₀ (takeBlocking s) := by
  have b7 : μ.testBit 7 = true := sub_bit hμ rfl
  unfold takeBlocking
  simp (maxDischargeDepth := 40) +contextual only [hs, fr_ite, ite_self, implies_true, b7, upd_staging]

def kf_startCommand : Nat := 0x20080
theorem fr_startCommand {μ : Nat} (hμ : sub kf_startCommand μ = true) (g : Nat) (c : GroupCommand) {r₀ s : State} (hs : Keeps μ r₀ s) :
        Keeps μ r₀ (startCommand g c s) := by
  unfold startCommand
  simp (maxDischargeDepth := 40) +contextual only [hs, fr_ite, ite_self, implies_true, fr_setGroup (sub_trans rfl hμ), fr_takeBlocking
        (sub_trans rfl hμ)]

def kf_submitCommand : Nat := 0x20080
theorem fr_submitCommand {μ : Nat} (hμ : sub kf_submitCommand μ = true) (g : Nat) (c : GroupCommand) {r₀ s : State} (hs : Keeps μ r₀ s) :
        Keeps μ r₀ (submitCommand g c s) := by
  unfold submitCommand
  (try simp (maxDischargeDepth := 40) +contextual only [hs, fr_ite, ite_self, implies_true, fr_setGroup (sub_trans rfl hμ), fr_startCommand
        (sub_trans rfl hμ)])
  repeat' split
  all_goals first
    | (with_reducible exact hs)
    | (simp (maxDischargeDepth := 40) +contextual only [hs, fr_ite, ite_self, implies_true, fr_setGroup (sub_trans rfl hμ), fr_startCommand
        (sub_trans rfl hμ)]; done)

def kf_discardProvisional : Nat := 0x3810002E4
theorem fr_discardProvisional {μ : Nat} (hμ : sub kf_discardProvisional μ = true) (g : Nat) {r₀ s : State} (hs : Keeps μ r₀ s) : Keeps μ r₀
        (discardProvisional g s) := by
  have b7 : μ.testBit 7 = true := sub_bit hμ rfl
  have b24 : μ.testBit 24 = true := sub_bit hμ rfl
  unfold discardProvisional
  simp (maxDischargeDepth := 40) +contextual only [hs, fr_ite, ite_self, implies_true, b7, b24, upd_staging_xlat, fr_rearmStall (sub_trans rfl
        hμ), fr_sendCmps (sub_trans rfl hμ)]

def kf_checkPool : Nat := 0x181000064
theorem fr_checkPool {μ : Nat} (hμ : sub kf_checkPool μ = true) {r₀ s : State} (hs : Keeps μ r₀ s) : Keeps μ r₀ (checkPool s) := by
  have b24 : μ.testBit 24 = true := sub_bit hμ rfl
  unfold checkPool
  simp (maxDischargeDepth := 40) +contextual only [hs, fr_ite, ite_self, implies_true, b24, upd_xlat, fr_raise (sub_trans rfl hμ)]

def kf_forceAbortNow : Nat := 0x3870202E4
theorem fr_forceAbortNow {μ : Nat} (hμ : sub kf_forceAbortNow μ = true) (g cause : Nat) {r₀ s : State} (hs : Keeps μ r₀ s) : Keeps μ r₀
        (forceAbortNow g cause s) := by
  unfold forceAbortNow
  simp (maxDischargeDepth := 40) +contextual only [hs, fr_ite, ite_self, implies_true, fr_bump (sub_trans rfl hμ), fr_setGroup (sub_trans rfl
        hμ), fr_checkPool (sub_trans rfl hμ), fr_discardProvisional (sub_trans rfl hμ), fr_dropStores (sub_trans rfl hμ), fr_journalPut
        (sub_trans rfl hμ), fr_raise (sub_trans rfl hμ)]

def kf_forceAbort : Nat := 0x3870202E4
theorem fr_forceAbort {μ : Nat} (hμ : sub kf_forceAbort μ = true) (g cause : Nat) (detail : Nat) {r₀ s : State} (hs : Keeps μ r₀ s) : Keeps
        μ r₀ (forceAbort g cause detail s) := by
  unfold forceAbort
  (try simp (maxDischargeDepth := 40) +contextual only [hs, fr_ite, ite_self, implies_true, fr_setGroup (sub_trans rfl hμ), fr_forceAbortNow
        (sub_trans rfl hμ)])
  repeat' split
  all_goals first
    | (with_reducible exact hs)
    | (simp (maxDischargeDepth := 40) +contextual only [hs, fr_ite, ite_self, implies_true, fr_setGroup (sub_trans rfl hμ), fr_forceAbortNow
        (sub_trans rfl hμ)]; done)

def kf_commitLines : Nat := 0x5000E80
theorem fr_commitLines {μ : Nat} (hμ : sub kf_commitLines μ = true) (g stamp : Nat) {r₀ s : State} (hs : Keeps μ r₀ s) : Keeps μ r₀
        (commitLines g stamp s) := by
  have b7 : μ.testBit 7 = true := sub_bit hμ rfl
  have b24 : μ.testBit 24 = true := sub_bit hμ rfl
  have b26 : μ.testBit 26 = true := sub_bit hμ rfl
  unfold commitLines
  simp (maxDischargeDepth := 40) +contextual only [hs, fr_ite, ite_self, implies_true, b7, b24, b26, upd_staging_xlat_integ, fr_dirtySegment
        (sub_trans rfl hμ), fr_dropCached (sub_trans rfl hμ), fr_pruneRanges (sub_trans rfl hμ), fr_rearmStall (sub_trans rfl hμ), fr_foldl]

def kf_decideCommit : Nat := 0x387020EE4
theorem fr_decideCommit {μ : Nat} (hμ : sub kf_decideCommit μ = true) (g : Nat) {r₀ s : State} (hs : Keeps μ r₀ s) : Keeps μ r₀
        (decideCommit g s) := by
  unfold decideCommit
  (try simp (maxDischargeDepth := 40) +contextual only [hs, fr_ite, ite_self, implies_true, fr_bump (sub_trans rfl hμ), fr_setGroup (sub_trans
        rfl hμ), fr_checkPool (sub_trans rfl hμ), fr_commitLines (sub_trans rfl hμ), fr_count1 (sub_trans rfl hμ), fr_discardProvisional
        (sub_trans rfl hμ), fr_journalPut (sub_trans rfl hμ), fr_raise (sub_trans rfl hμ), fr_sendCmps (sub_trans rfl hμ)])
  repeat' split
  all_goals first
    | (with_reducible exact hs)
    | (simp (maxDischargeDepth := 40) +contextual only [hs, fr_ite, ite_self, implies_true, fr_bump (sub_trans rfl hμ), fr_setGroup (sub_trans rfl
        hμ), fr_checkPool (sub_trans rfl hμ), fr_commitLines (sub_trans rfl hμ), fr_count1 (sub_trans rfl hμ), fr_discardProvisional
        (sub_trans rfl hμ), fr_journalPut (sub_trans rfl hμ), fr_raise (sub_trans rfl hμ), fr_sendCmps (sub_trans rfl hμ)]; done)

def kf_applyCommand : Nat := 0x3870202E4
theorem fr_applyCommand {μ : Nat} (hμ : sub kf_applyCommand μ = true) (g : Nat) (c : GroupCommand) {r₀ s : State} (hs : Keeps μ r₀ s) :
        Keeps μ r₀ (applyCommand g c s) := by
  unfold applyCommand
  simp (maxDischargeDepth := 40) +contextual only [hs, fr_ite, ite_self, implies_true, fr_bump (sub_trans rfl hμ), fr_setGroup (sub_trans rfl
        hμ), fr_checkPool (sub_trans rfl hμ), fr_discardProvisional (sub_trans rfl hμ), fr_journalPut (sub_trans rfl hμ), fr_programTail
        (sub_trans rfl hμ)]

def kf_wakeDiscard : Nat := 0x60
theorem fr_wakeDiscard {μ : Nat} (hμ : sub kf_wakeDiscard μ = true) (p : Port) {r₀ s : State} (hs : Keeps μ r₀ s) : Keeps μ r₀ (wakeDiscard
        p s) := by
  unfold wakeDiscard
  simp (maxDischargeDepth := 40) +contextual only [hs, fr_ite, ite_self, implies_true, fr_modPort (sub_trans rfl hμ)]

def kf_answerReaders : Nat := 0x380020064
theorem fr_answerReaders {μ : Nat} (hμ : sub kf_answerReaders μ = true) (g : Nat) {r₀ s : State} (hs : Keeps μ r₀ s) : Keeps μ r₀
        (answerReaders g s) := by
  unfold answerReaders
  simp (maxDischargeDepth := 40) +contextual only [hs, fr_ite, ite_self, implies_true, fr_setGroup (sub_trans rfl hμ), fr_sampleWindow
        (sub_trans rfl hμ), fr_sendData (sub_trans rfl hμ), fr_foldl]

def kf_writeResult : Nat := 0x3870202E4
theorem fr_writeResult {μ : Nat} (hμ : sub kf_writeResult μ = true) (g : Nat) (c : GroupCommand) {r₀ s : State} (hs : Keeps μ r₀ s) : Keeps
        μ r₀ (writeResult g c s) := by
  unfold writeResult
  (try simp (maxDischargeDepth := 40) +contextual only [hs, fr_ite, ite_self, implies_true, fr_raiseTo (sub_trans rfl hμ), fr_setGroup
        (sub_trans rfl hμ), fr_forceAbortNow (sub_trans rfl hμ)])
  repeat' split
  all_goals first
    | (with_reducible exact hs)
    | (simp (maxDischargeDepth := 40) +contextual only [hs, fr_ite, ite_self, implies_true, fr_raiseTo (sub_trans rfl hμ), fr_setGroup (sub_trans
        rfl hμ), fr_forceAbortNow (sub_trans rfl hμ)]; done)

def kf_startNext : Nat := 0x20080
theorem fr_startNext {μ : Nat} (hμ : sub kf_startNext μ = true) (g : Nat) {r₀ s : State} (hs : Keeps μ r₀ s) : Keeps μ r₀ (startNext g s) :=
        by
  unfold startNext
  (try simp (maxDischargeDepth := 40) +contextual only [hs, fr_ite, ite_self, implies_true, fr_setGroup (sub_trans rfl hμ), fr_startCommand
        (sub_trans rfl hμ)])
  repeat' split
  all_goals first
    | (with_reducible exact hs)
    | (simp (maxDischargeDepth := 40) +contextual only [hs, fr_ite, ite_self, implies_true, fr_setGroup (sub_trans rfl hμ), fr_startCommand
        (sub_trans rfl hμ)]; done)

def kf_finishCommand : Nat := 0x3870202E4
theorem fr_finishCommand {μ : Nat} (hμ : sub kf_finishCommand μ = true) (g : Nat) {r₀ s : State} (hs : Keeps μ r₀ s) : Keeps μ r₀
        (finishCommand g s) := by
  unfold finishCommand
  (try simp (maxDischargeDepth := 40) +contextual only [hs, fr_ite, ite_self, implies_true, fr_answerReaders (sub_trans rfl hμ),
        fr_applyCommand (sub_trans rfl hμ), fr_startNext (sub_trans rfl hμ), fr_wakeDiscard (sub_trans rfl hμ), fr_writeResult (sub_trans
        rfl hμ)])
  repeat' split
  all_goals first
    | (with_reducible exact hs)
    | (simp (maxDischargeDepth := 40) +contextual only [hs, fr_ite, ite_self, implies_true, fr_answerReaders (sub_trans rfl hμ), fr_applyCommand
        (sub_trans rfl hμ), fr_startNext (sub_trans rfl hμ), fr_wakeDiscard (sub_trans rfl hμ), fr_writeResult (sub_trans rfl hμ)]; done)

def kf_settleGroup : Nat := 0x387020EE4
theorem fr_settleGroup {μ : Nat} (hμ : sub kf_settleGroup μ = true) {r₀ : State} (n g : Nat) {s : State} (hs : Keeps μ r₀ s) : Keeps μ r₀ (settleGroup n g s) := by
  induction n generalizing s with
  | zero => exact hs
  | succ n ih =>
    unfold settleGroup
    simp only
    have h1 : Keeps μ r₀ (if s.commitReady g = true then decideCommit g s else s) := by
      split
      · exact fr_decideCommit (sub_trans rfl hμ) _ hs
      · exact hs
    generalize (if s.commitReady g = true then decideCommit g s else s) = a at h1 ⊢
    have h2 : Keeps μ r₀ (if a.canFinish g = true then a else finishDiscards a) := by
      split
      · exact h1
      · exact fr_finishDiscards (sub_trans rfl hμ) h1
    generalize (if a.canFinish g = true then a else finishDiscards a) = b at h2 ⊢
    split
    · exact ih (fr_finishCommand (sub_trans rfl hμ) _ h2)
    · exact h2

def kf_settle : Nat := 0x387020EE4
theorem fr_settle {μ : Nat} (hμ : sub kf_settle μ = true) (g : Nat) {r₀ s : State} (hs : Keeps μ r₀ s) : Keeps μ r₀ (settle g s) := by
  unfold settle
  simp (maxDischargeDepth := 40) +contextual only [hs, fr_ite, ite_self, implies_true, fr_settleGroup (sub_trans rfl hμ)]

def kf_rebuildSegment : Nat := 0x1000000
theorem fr_rebuildSegment {μ : Nat} (hμ : sub kf_rebuildSegment μ = true) (seg : Nat) {r₀ s : State} (hs : Keeps μ r₀ s) : Keeps μ r₀
        (rebuildSegment seg s) := by
  have b24 : μ.testBit 24 = true := sub_bit hμ rfl
  unfold rebuildSegment
  simp (maxDischargeDepth := 40) +contextual only [hs, fr_ite, ite_self, implies_true, b24, upd_xlat, fr_foldl]

def kf_startRebuild : Nat := 0x1000000
theorem fr_startRebuild {μ : Nat} (hμ : sub kf_startRebuild μ = true) (seg : Nat) {r₀ s : State} (hs : Keeps μ r₀ s) : Keeps μ r₀
        (startRebuild seg s) := by
  have b24 : μ.testBit 24 = true := sub_bit hμ rfl
  unfold startRebuild
  simp (maxDischargeDepth := 40) +contextual only [hs, fr_ite, ite_self, implies_true, b24, upd_xlat, fr_bump (sub_trans rfl hμ)]

def kf_sectorsMoved : Nat := 0x380000064
theorem fr_sectorsMoved {μ : Nat} (hμ : sub kf_sectorsMoved μ = true) (ch n : Nat) {r₀ s : State} (hs : Keeps μ r₀ s) : Keeps μ r₀
        (sectorsMoved ch n s) := by
  unfold sectorsMoved
  simp (maxDischargeDepth := 40) +contextual only [hs, fr_ite, ite_self, implies_true, fr_addTo (sub_trans rfl hμ), fr_count (sub_trans rfl
        hμ)]

def kf_sectorMoved : Nat := 0x380000064
theorem fr_sectorMoved {μ : Nat} (hμ : sub kf_sectorMoved μ = true) (ch : Nat) {r₀ s : State} (hs : Keeps μ r₀ s) : Keeps μ r₀ (sectorMoved
        ch s) := by
  unfold sectorMoved
  simp (maxDischargeDepth := 40) +contextual only [hs, fr_ite, ite_self, implies_true, fr_sectorsMoved (sub_trans rfl hμ)]

def kf_reconstructions : Nat := 0x380000064
theorem fr_reconstructions {μ : Nat} (hμ : sub kf_reconstructions μ = true) (unit n : Nat) {r₀ s : State} (hs : Keeps μ r₀ s) : Keeps μ r₀
        (reconstructions unit n s) := by
  unfold reconstructions
  simp (maxDischargeDepth := 40) +contextual only [hs, fr_ite, ite_self, implies_true, fr_sectorsMoved (sub_trans rfl hμ), fr_foldl]

def kf_reconstructionReads : Nat := 0x380000064
theorem fr_reconstructionReads {μ : Nat} (hμ : sub kf_reconstructionReads μ = true) (unit : Nat) {r₀ s : State} (hs : Keeps μ r₀ s) : Keeps
        μ r₀ (reconstructionReads unit s) := by
  unfold reconstructionReads
  simp (maxDischargeDepth := 40) +contextual only [hs, fr_ite, ite_self, implies_true, fr_reconstructions (sub_trans rfl hμ)]

def kf_agentReads : Nat := 0x380000064
theorem fr_agentReads {μ : Nat} (hμ : sub kf_agentReads μ = true) (cls unit n : Nat) {r₀ s : State} (hs : Keeps μ r₀ s) : Keeps μ r₀
        (agentReads cls unit n s) := by
  unfold agentReads
  simp (maxDischargeDepth := 40) +contextual only [hs, fr_ite, ite_self, implies_true, fr_reconstructions (sub_trans rfl hμ), fr_sectorsMoved
        (sub_trans rfl hμ)]

def kf_integritySector : Nat := 0x380000064
theorem fr_integritySector {μ : Nat} (hμ : sub kf_integritySector μ = true) (obj : IntegrityObject) {r₀ s : State} (hs : Keeps μ r₀ s) :
        Keeps μ r₀ (integritySector obj s) := by
  unfold integritySector
  (try simp (maxDischargeDepth := 40) +contextual only [hs, fr_ite, ite_self, implies_true, fr_sectorMoved (sub_trans rfl hμ)])
  repeat' split
  all_goals first
    | (with_reducible exact hs)
    | (simp (maxDischargeDepth := 40) +contextual only [hs, fr_ite, ite_self, implies_true, fr_sectorMoved (sub_trans rfl hμ)]; done)

def kf_fetchLine : Nat := 0x384000064
theorem fr_fetchLine {μ : Nat} (hμ : sub kf_fetchLine μ = true) (obj : IntegrityObject) {r₀ s : State} (hs : Keeps μ r₀ s) : Keeps μ r₀
        (fetchLine obj s) := by
  unfold fetchLine
  simp (maxDischargeDepth := 40) +contextual only [hs, fr_ite, ite_self, implies_true, fr_bump (sub_trans rfl hμ), fr_cacheLine (sub_trans rfl
        hμ), fr_integritySector (sub_trans rfl hμ), fr_foldl]

def kf_modRead : Nat := 0x4000
theorem fr_modRead {μ : Nat} (hμ : sub kf_modRead μ = true) (id : Nat) (f : Read → Read) {r₀ s : State} (hs : Keeps μ r₀ s) : Keeps μ r₀
        (modRead id f s) := by
  have b14 : μ.testBit 14 = true := sub_bit hμ rfl
  unfold modRead
  simp (maxDischargeDepth := 40) +contextual only [hs, fr_ite, ite_self, implies_true, b14, upd_reads]

def kf_addRead : Nat := 0xC000
theorem fr_addRead {μ : Nat} (hμ : sub kf_addRead μ = true) (r : Read) {r₀ s : State} (hs : Keeps μ r₀ s) : Keeps μ r₀ (addRead r s) := by
  have b14 : μ.testBit 14 = true := sub_bit hμ rfl
  have b15 : μ.testBit 15 = true := sub_bit hμ rfl
  unfold addRead
  simp (maxDischargeDepth := 40) +contextual only [hs, fr_ite, ite_self, implies_true, b14, b15, upd_reads_nextRead]

def kf_refillSlot : Nat := 0x4000
theorem fr_refillSlot {μ : Nat} (hμ : sub kf_refillSlot μ = true) (region : Nat) {r₀ s : State} (hs : Keeps μ r₀ s) : Keeps μ r₀ (refillSlot
        region s) := by
  unfold refillSlot
  (try simp (maxDischargeDepth := 40) +contextual only [hs, fr_ite, ite_self, implies_true, fr_modRead (sub_trans rfl hμ)])
  repeat' split
  all_goals first
    | (with_reducible exact hs)
    | (simp (maxDischargeDepth := 40) +contextual only [hs, fr_ite, ite_self, implies_true, fr_modRead (sub_trans rfl hμ)]; done)

def kf_refillPrompt : Nat := 0x4000
theorem fr_refillPrompt {μ : Nat} (hμ : sub kf_refillPrompt μ = true) (region : Nat) {r₀ s : State} (hs : Keeps μ r₀ s) : Keeps μ r₀
        (refillPrompt region s) := by
  unfold refillPrompt
  simp (maxDischargeDepth := 40) +contextual only [hs, fr_ite, ite_self, implies_true, fr_refillSlot (sub_trans rfl hμ)]

def kf_dropRead : Nat := 0x4000
theorem fr_dropRead {μ : Nat} (hμ : sub kf_dropRead μ = true) (id : Nat) {r₀ s : State} (hs : Keeps μ r₀ s) : Keeps μ r₀ (dropRead id s) :=
        by
  have b14 : μ.testBit 14 = true := sub_bit hμ rfl
  unfold dropRead
  (try simp (maxDischargeDepth := 40) +contextual only [hs, fr_ite, ite_self, implies_true, b14, upd_reads, fr_refillPrompt (sub_trans rfl
        hμ)])
  repeat' split
  all_goals first
    | (with_reducible exact hs)
    | (simp (maxDischargeDepth := 40) +contextual only [hs, fr_ite, ite_self, implies_true, b14, upd_reads, fr_refillPrompt (sub_trans rfl hμ)];
        done)

def kf_promptDone : Nat := 0x180000064
theorem fr_promptDone {μ : Nat} (hμ : sub kf_promptDone μ = true) (r : Read) {r₀ s : State} (hs : Keeps μ r₀ s) : Keeps μ r₀ (promptDone r
        s) := by
  unfold promptDone
  simp (maxDischargeDepth := 40) +contextual only [hs, fr_ite, ite_self, implies_true, fr_bump (sub_trans rfl hμ), fr_raiseTo (sub_trans rfl
        hμ), fr_raise (sub_trans rfl hμ)]

def kf_sampleRead : Nat := 0x380000064
theorem fr_sampleRead {μ : Nat} (hμ : sub kf_sampleRead μ = true) (p : Port) (opcode line acceptedAt outcome unit steps cls flags : Nat)
        (poison : Bool) {r₀ s : State} (hs : Keeps μ r₀ s) : Keeps μ r₀ (sampleRead p opcode line acceptedAt outcome unit steps cls flags
        poison s) := by
  unfold sampleRead
  simp (maxDischargeDepth := 40) +contextual only [hs, fr_ite, ite_self, implies_true, fr_placeSample (sub_trans rfl hμ), fr_takeStamp
        (sub_trans rfl hμ)]

def kf_answerRead : Nat := 0x38700C064
theorem fr_answerRead {μ : Nat} (hμ : sub kf_answerRead μ = true) (r : Read) (v : Version) {r₀ s : State} (hs : Keeps μ r₀ s) : Keeps μ r₀
        (answerRead r v s) := by
  unfold answerRead
  (try simp (maxDischargeDepth := 40) +contextual only [hs, fr_ite, ite_self, implies_true, fr_dropRead (sub_trans rfl hμ), fr_promptDone
        (sub_trans rfl hμ), fr_sampleRead (sub_trans rfl hμ), fr_sendData (sub_trans rfl hμ)])
  repeat' split
  all_goals first
    | (with_reducible exact hs)
    | (simp (maxDischargeDepth := 40) +contextual only [hs, fr_ite, ite_self, implies_true, fr_dropRead (sub_trans rfl hμ), fr_promptDone
        (sub_trans rfl hμ), fr_sampleRead (sub_trans rfl hμ), fr_sendData (sub_trans rfl hμ)]; done)

def kf_answerMerges : Nat := 0x38700C064
theorem fr_answerMerges {μ : Nat} (hμ : sub kf_answerMerges μ = true) (p : Port) (line : Nat) {r₀ s : State} (hs : Keeps μ r₀ s) : Keeps μ
        r₀ (answerMerges p line s) := by
  unfold answerMerges
  simp (maxDischargeDepth := 40) +contextual only [hs, fr_ite, ite_self, implies_true, fr_answerRead (sub_trans rfl hμ), fr_foldl]

def kf_recordUnit : Nat := 0x387000064
theorem fr_recordUnit {μ : Nat} (hμ : sub kf_recordUnit μ = true) (u : Nat) {r₀ s : State} (hs : Keeps μ r₀ s) : Keeps μ r₀ (recordUnit u s)
        := by
  unfold recordUnit
  simp (maxDischargeDepth := 40) +contextual only [hs, fr_ite, ite_self, implies_true, fr_journalPut (sub_trans rfl hμ)]

def kf_setUnitState : Nat := 0x387000064
theorem fr_setUnitState {μ : Nat} (hμ : sub kf_setUnitState μ = true) (u state : Nat) {r₀ s : State} (hs : Keeps μ r₀ s) : Keeps μ r₀
        (setUnitState u state s) := by
  unfold setUnitState
  simp (maxDischargeDepth := 40) +contextual only [hs, fr_ite, ite_self, implies_true, fr_bump (sub_trans rfl hμ), fr_setUnit (sub_trans rfl
        hμ), fr_raise (sub_trans rfl hμ), fr_recordUnit (sub_trans rfl hμ)]

def kf_lastingFault : Nat := 0x387000064
theorem fr_lastingFault {μ : Nat} (hμ : sub kf_lastingFault μ = true) (u : Nat) {r₀ s : State} (hs : Keeps μ r₀ s) : Keeps μ r₀
        (lastingFault u s) := by
  unfold lastingFault
  simp (maxDischargeDepth := 40) +contextual only [hs, fr_ite, ite_self, implies_true, fr_setUnit (sub_trans rfl hμ), fr_noteHealth (sub_trans
        rfl hμ), fr_setUnitState (sub_trans rfl hμ)]

def kf_sectorProgrammed : Nat := 0x387000064
theorem fr_sectorProgrammed {μ : Nat} (hμ : sub kf_sectorProgrammed μ = true) (u page : Nat) {r₀ s : State} (hs : Keeps μ r₀ s) : Keeps μ r₀
        (sectorProgrammed u page s) := by
  unfold sectorProgrammed
  simp (maxDischargeDepth := 40) +contextual only [hs, fr_ite, ite_self, implies_true, fr_programTail (sub_trans rfl hμ), fr_sectorsProgrammed
        (sub_trans rfl hμ)]

def kf_pageProgrammed : Nat := 0x382000064
theorem fr_pageProgrammed {μ : Nat} (hμ : sub kf_pageProgrammed μ = true) (u page band : Nat) {r₀ s : State} (hs : Keeps μ r₀ s) : Keeps μ
        r₀ (pageProgrammed u page band s) := by
  unfold pageProgrammed
  simp (maxDischargeDepth := 40) +contextual only [hs, fr_ite, ite_self, implies_true, fr_setUnit (sub_trans rfl hμ), fr_count1 (sub_trans rfl
        hμ), fr_disturb (sub_trans rfl hμ)]

def kf_unitReset : Nat := 0x387000064
theorem fr_unitReset {μ : Nat} (hμ : sub kf_unitReset μ = true) (u mode : Nat) {r₀ s : State} (hs : Keeps μ r₀ s) : Keeps μ r₀ (unitReset u
        mode s) := by
  unfold unitReset
  simp (maxDischargeDepth := 40) +contextual only [hs, fr_ite, ite_self, implies_true, fr_setUnit (sub_trans rfl hμ), fr_addCycles (sub_trans
        rfl hμ), fr_count1 (sub_trans rfl hμ), fr_disturb (sub_trans rfl hμ), fr_recordUnit (sub_trans rfl hμ)]

def kf_orderReset : Nat := 0x2000000
theorem fr_orderReset {μ : Nat} (hμ : sub kf_orderReset μ = true) (stripe mode before : Nat) {r₀ s : State} (hs : Keeps μ r₀ s) : Keeps μ r₀
        (orderReset stripe mode before s) := by
  have b25 : μ.testBit 25 = true := sub_bit hμ rfl
  unfold orderReset
  simp (maxDischargeDepth := 40) +contextual only [hs, fr_ite, ite_self, implies_true, b25, upd_med, fr_setStripe (sub_trans rfl hμ),
        fr_foldl]

def kf_notePool : Nat := 0x182000064
theorem fr_notePool {μ : Nat} (hμ : sub kf_notePool μ = true) {r₀ s : State} (hs : Keeps μ r₀ s) : Keeps μ r₀ (notePool s) := by
  have b25 : μ.testBit 25 = true := sub_bit hμ rfl
  unfold notePool
  simp (maxDischargeDepth := 40) +contextual only [hs, fr_ite, ite_self, implies_true, b25, upd_med, fr_raise (sub_trans rfl hμ)]

def kf_finishReset : Nat := 0x387000064
theorem fr_finishReset {μ : Nat} (hμ : sub kf_finishReset μ = true) (stripe : Nat) {r₀ s : State} (hs : Keeps μ r₀ s) : Keeps μ r₀
        (finishReset stripe s) := by
  have b25 : μ.testBit 25 = true := sub_bit hμ rfl
  unfold finishReset
  (try simp (maxDischargeDepth := 40) +contextual only [hs, fr_ite, ite_self, implies_true, b25, upd_med, fr_bump (sub_trans rfl hμ),
        fr_setStripe (sub_trans rfl hμ), fr_noteHealth (sub_trans rfl hμ), fr_notePool (sub_trans rfl hμ), fr_raise (sub_trans rfl hμ),
        fr_setUnitState (sub_trans rfl hμ), fr_foldl])
  repeat' split
  all_goals first
    | (with_reducible exact hs)
    | (simp (maxDischargeDepth := 40) +contextual only [hs, fr_ite, ite_self, implies_true, b25, upd_med, fr_bump (sub_trans rfl hμ), fr_setStripe
        (sub_trans rfl hμ), fr_noteHealth (sub_trans rfl hμ), fr_notePool (sub_trans rfl hμ), fr_raise (sub_trans rfl hμ), fr_setUnitState
        (sub_trans rfl hμ), fr_foldl]; done)

def kf_reEncrypt : Nat := 0x386000064
theorem fr_reEncrypt {μ : Nat} (hμ : sub kf_reEncrypt μ = true) (line : Nat) {r₀ s : State} (hs : Keeps μ r₀ s) : Keeps μ r₀ (reEncrypt line
        s) := by
  have b25 : μ.testBit 25 = true := sub_bit hμ rfl
  have b26 : μ.testBit 26 = true := sub_bit hμ rfl
  unfold reEncrypt
  simp (maxDischargeDepth := 40) +contextual only [hs, fr_ite, ite_self, implies_true, b25, b26, upd_med_integ, fr_bump (sub_trans rfl hμ),
        fr_agentReads (sub_trans rfl hμ), fr_putEntry (sub_trans rfl hμ), fr_raise (sub_trans rfl hμ), fr_touchBlock (sub_trans rfl hμ),
        fr_foldl]

def kf_takeSeal : Nat := 0x386000064
theorem fr_takeSeal {μ : Nat} (hμ : sub kf_takeSeal μ = true) {r₀ : State} (line : Nat) (grp : Option Nat) (stamp : Nat) (preset : Option Seal) {s : State} (hs : Keeps μ r₀ s) :
    Keeps μ r₀ (takeSeal line grp stamp preset s).2 := by
  unfold takeSeal
  split
  · exact fr_touchIntegrity (sub_trans rfl hμ) _ (fr_fetchLine (sub_trans rfl hμ) _ hs)
  · split
    · exact hs
    · have h := fr_fetchLine (sub_trans rfl hμ) (.tagLine (line / 8)) (fr_fetchLine (sub_trans rfl hμ) (.counterBlock (pageOfLine line)) hs)
      refine fr_touchIntegrity (sub_trans rfl hμ) _ (fr_touchBlock (sub_trans rfl hμ) _ ?_)
      split
      · exact fr_reEncrypt (sub_trans rfl hμ) _ h
      · exact upd_integ (sub_bit hμ rfl) h _

def kf_sealInto : Nat := 0x386000064
theorem fr_sealInto {μ : Nat} (hμ : sub kf_sealInto μ = true) {r₀ : State} (place line : Nat) (grp tag : Option Nat) (data : Line) (poison : Bool) (stamp : Nat) (preset : Option Seal) {s : State}
    (hs : Keeps μ r₀ s) : Keeps μ r₀ (sealInto place line grp tag data poison stamp preset s).2 := by
  have h := fr_takeSeal (sub_trans rfl hμ) line tag stamp preset hs
  unfold sealInto
  simp only
  split
  · exact fr_touchIntegrity (sub_trans rfl hμ) _ (fr_fetchLine (sub_trans rfl hμ) _ h)
  · exact h

def kf_wantFold : Nat := 0x1000000
theorem fr_wantFold {μ : Nat} (hμ : sub kf_wantFold μ = true) (line : Nat) {r₀ s : State} (hs : Keeps μ r₀ s) : Keeps μ r₀ (wantFold line s)
        := by
  have b24 : μ.testBit 24 = true := sub_bit hμ rfl
  unfold wantFold
  (try simp (maxDischargeDepth := 40) +contextual only [hs, fr_ite, ite_self, implies_true, b24, upd_xlat, fr_foldl])
  repeat' split
  all_goals first
    | (with_reducible exact hs)
    | (simp (maxDischargeDepth := 40) +contextual only [hs, fr_ite, ite_self, implies_true, b24, upd_xlat, fr_foldl]; done)

def kf_putDelta : Nat := 0x1000000
theorem fr_putDelta {μ : Nat} (hμ : sub kf_putDelta μ = true) (d : Delta) {r₀ s : State} (hs : Keeps μ r₀ s) : Keeps μ r₀ (putDelta d s) :=
        by
  have b24 : μ.testBit 24 = true := sub_bit hμ rfl
  unfold putDelta
  simp (maxDischargeDepth := 40) +contextual only [hs, fr_ite, ite_self, implies_true, b24, upd_xlat]

def kf_checkLogFull : Nat := 0x182000064
theorem fr_checkLogFull {μ : Nat} (hμ : sub kf_checkLogFull μ = true) {r₀ s : State} (hs : Keeps μ r₀ s) : Keeps μ r₀ (checkLogFull s) := by
  have b25 : μ.testBit 25 = true := sub_bit hμ rfl
  unfold checkLogFull
  (try simp (maxDischargeDepth := 40) +contextual only [hs, fr_ite, ite_self, implies_true, b25, upd_med, fr_bump (sub_trans rfl hμ),
        fr_raiseTo (sub_trans rfl hμ), fr_raise (sub_trans rfl hμ)])
  repeat' split
  all_goals first
    | (with_reducible exact hs)
    | (simp (maxDischargeDepth := 40) +contextual only [hs, fr_ite, ite_self, implies_true, b25, upd_med, fr_bump (sub_trans rfl hμ), fr_raiseTo
        (sub_trans rfl hμ), fr_raise (sub_trans rfl hμ)]; done)

def kf_rowStarted : Nat := 0x2000000
theorem fr_rowStarted {μ : Nat} (hμ : sub kf_rowStarted μ = true) (mark : Nat) (x : List ProgramStart) {r₀ s : State} (hs : Keeps μ r₀ s) :
        Keeps μ r₀ (rowStarted mark x s) := by
  have b25 : μ.testBit 25 = true := sub_bit hμ rfl
  unfold rowStarted
  simp (maxDischargeDepth := 40) +contextual only [hs, fr_ite, ite_self, implies_true, b25, upd_med]

def kf_moveStamp : Nat := 0x4
theorem fr_moveStamp {μ : Nat} (hμ : sub kf_moveStamp μ = true) {r₀ : State} (m : LogMove) {s : State} (hs : Keeps μ r₀ s) : Keeps μ r₀ (moveStamp m s).2 := by
  unfold moveStamp
  split
  · exact fr_takeStamp (sub_trans rfl hμ) hs
  · exact hs

def kf_placeMoves : Nat := 0x386000064
theorem fr_placeMoves {μ : Nat} (hμ : sub kf_placeMoves μ = true) {r₀ : State} (mark q : Nat) (l : List LogMove) (acc : List LogLine) {s : State} (hs : Keeps μ r₀ s) :
    Keeps μ r₀ (placeMoves mark q l acc s).2 := by
  induction l generalizing q acc s with
  | nil => exact hs
  | cons m l ih =>
    exact ih _ _ (fr_sealInto (sub_trans rfl hμ) (mark * 45 + q) m.line m.grp m.groupTag m.data m.poison (moveStamp m s).1 m.preset (fr_moveStamp (sub_trans rfl hμ) m hs))

def kf_placeStaged : Nat := 0x386000064
theorem fr_placeStaged {μ : Nat} (hμ : sub kf_placeStaged μ = true) {r₀ : State} (mark q : Nat) (l : List Staged) (acc : List LogLine) {s : State} (hs : Keeps μ r₀ s) :
    Keeps μ r₀ (placeStaged mark q l acc s).2 := by
  induction l generalizing q acc s with
  | nil => exact hs
  | cons x l ih => exact ih _ _ (fr_sealInto (sub_trans rfl hμ) (mark * 45 + q) x.line x.grp x.tag x.data x.poison (if x.tag.isSome then x.orig else x.stamp) none hs)

def kf_noteCrowded : Nat := 0x1000000
theorem fr_noteCrowded {μ : Nat} (hμ : sub kf_noteCrowded μ = true) {r₀ s : State} (hs : Keeps μ r₀ s) : Keeps μ r₀ (noteCrowded s) := by
  unfold noteCrowded
  simp (maxDischargeDepth := 40) +contextual only [hs, fr_ite, ite_self, implies_true, fr_wantFold (sub_trans rfl hμ), fr_foldl]

def kf_dispatchRow : Nat := 0x3860000E4
theorem fr_dispatchRow {μ : Nat} (hμ : sub kf_dispatchRow μ = true) {r₀ s : State} (hs : Keeps μ r₀ s) : Keeps μ r₀ (dispatchRow s) := by
  have b7 : μ.testBit 7 = true := sub_bit hμ rfl
  have b25 : μ.testBit 25 = true := sub_bit hμ rfl
  unfold dispatchRow
  simp (maxDischargeDepth := 40) +contextual only [hs, fr_ite, ite_self, implies_true, b7, b25, upd_med, upd_staging_med, fr_checkLogFull
        (sub_trans rfl hμ), fr_placeMoves (sub_trans rfl hμ), fr_placeStaged (sub_trans rfl hμ)]

def kf_landMove : Nat := 0x1000000
theorem fr_landMove {μ : Nat} (hμ : sub kf_landMove μ = true) (l : LogLine) (source : Option Nat) {r₀ s : State} (hs : Keeps μ r₀ s) : Keeps
        μ r₀ (landMove l source s) := by
  unfold landMove
  (try simp (maxDischargeDepth := 40) +contextual only [hs, fr_ite, ite_self, implies_true, fr_bump (sub_trans rfl hμ), fr_dirtySegment
        (sub_trans rfl hμ), fr_putDelta (sub_trans rfl hμ)])
  repeat' split
  all_goals first
    | (with_reducible exact hs)
    | (simp (maxDischargeDepth := 40) +contextual only [hs, fr_ite, ite_self, implies_true, fr_bump (sub_trans rfl hμ), fr_dirtySegment (sub_trans
        rfl hμ), fr_putDelta (sub_trans rfl hμ)]; done)

def kf_landStaged : Nat := 0x1000280
theorem fr_landStaged {μ : Nat} (hμ : sub kf_landStaged μ = true) (mark : Nat) (l : LogLine) {r₀ s : State} (hs : Keeps μ r₀ s) : Keeps μ r₀
        (landStaged mark l s) := by
  have b7 : μ.testBit 7 = true := sub_bit hμ rfl
  unfold landStaged
  (try simp (maxDischargeDepth := 40) +contextual only [hs, fr_ite, ite_self, implies_true, b7, upd_staging, fr_putDelta (sub_trans rfl hμ),
        fr_rearmStall (sub_trans rfl hμ)])
  repeat' split
  all_goals first
    | (with_reducible exact hs)
    | (simp (maxDischargeDepth := 40) +contextual only [hs, fr_ite, ite_self, implies_true, b7, upd_staging, fr_putDelta (sub_trans rfl hμ),
        fr_rearmStall (sub_trans rfl hμ)]; done)

def kf_completeRow : Nat := 0x3870002E4
theorem fr_completeRow {μ : Nat} (hμ : sub kf_completeRow μ = true) {r₀ : State} (r : LogRow) {s : State} (hs : Keeps μ r₀ s) : Keeps μ r₀ (completeRow r s) := by
  unfold completeRow
  refine fr_sendCmps (sub_trans rfl hμ) _ (fr_checkLogFull (sub_trans rfl hμ) (fr_count1 (sub_trans rfl hμ) _ _ ?_))
  simp only
  have h : ∀ t : State, Keeps μ r₀ t → Keeps μ r₀ (linesOnMedium (r.lines.filterMap fun l => if l.moved.isSome then none else (s.stagedIn r.mark l).map fun x => (x.line, x.stamp))
      (r.lines.foldl (fun t l => match l.moved with
        | some source => landMove l source t
        | none => landStaged r.mark l t) (r.lines.foldl (fun t l => putEntry l.entry t) t))) := fun t ht =>
    fr_linesOnMedium (sub_trans rfl hμ) _ (fr_foldl (fun t l ht => by
      split
      · exact fr_landMove (sub_trans rfl hμ) _ _ ht
      · exact fr_landStaged (sub_trans rfl hμ) _ _ ht) _ (fr_foldl (fun t l ht => fr_putEntry (sub_trans rfl hμ) _ ht) _ ht))
  have h' := h { s with med := { s.med with rows := s.med.rows.map fun x => if x.mark == r.mark then { x with complete := true } else x } } (upd_med (sub_bit hμ rfl) hs _)
  split
  · exact fr_programTail (sub_trans rfl hμ) h'
  · split
    · exact fr_programEntries (sub_trans rfl hμ) h'
    · exact h'

def kf_startJobs : Nat := 0x4
theorem fr_startJobs {μ : Nat} (hμ : sub kf_startJobs μ = true) {r₀ : State} (jobs : List Job) {s : State} (hs : Keeps μ r₀ s) : Keeps μ r₀ (startJobs jobs s).2 := by
  induction jobs generalizing s with
  | nil => exact hs
  | cons j l ih => exact ih (fr_takeStamp (sub_trans rfl hμ) hs)

def kf_landRow : Nat := 0x3870002E4
theorem fr_landRow {μ : Nat} (hμ : sub kf_landRow μ = true) {r₀ : State} (r : LogRow) {s : State} (hs : Keeps μ r₀ s) : Keeps μ r₀ (landRow r s) := by
  unfold landRow
  refine fr_completeRow (sub_trans rfl hμ) _ (fr_foldl (fun t u ht => fr_sectorProgrammed (sub_trans rfl hμ) _ _ ht) _
    (fr_foldl (fun t j ht => fr_programsRun (sub_trans rfl hμ) _ _ _ _ ht) _ (fr_rowStarted (sub_trans rfl hμ) _ _ (fr_startJobs (sub_trans rfl hμ) _ (fr_endOverruns (sub_trans rfl hμ) ?_)))))
  exact upd_med (sub_bit hμ rfl) hs _

def kf_flushLog : Nat := 0x3870002E4
theorem fr_flushLog {μ : Nat} (hμ : sub kf_flushLog μ = true) {r₀ : State} (n : Nat) {s : State} (hs : Keeps μ r₀ s) : Keeps μ r₀ (flushLog n s) := by
  induction n generalizing s with
  | zero => exact hs
  | succ n ih =>
    unfold flushLog
    split
    · exact ih (fr_landRow (sub_trans rfl hμ) _ hs)
    · simp only
      split
      · exact ih (fr_dispatchRow (sub_trans rfl hμ) (upd_staging (sub_bit hμ rfl) hs _))
      · exact hs

def kf_programAll : Nat := 0x3870002E4
theorem fr_programAll {μ : Nat} (hμ : sub kf_programAll μ = true) {r₀ s : State} (hs : Keeps μ r₀ s) : Keeps μ r₀ (programAll s) := by
  unfold programAll
  simp (maxDischargeDepth := 40) +contextual only [hs, fr_ite, ite_self, implies_true, fr_flushLog (sub_trans rfl hμ), fr_programTail
        (sub_trans rfl hμ)]

def kf_noteChange : Nat := 0x180000064
theorem fr_noteChange {μ : Nat} (hμ : sub kf_noteChange μ = true) (key kind path privilege session counter length : Nat) (old new : List
        Byte) {r₀ s : State} (hs : Keeps μ r₀ s) : Keeps μ r₀ (noteChange key kind path privilege session counter length old new s) := by
  have b31 : μ.testBit 31 = true := sub_bit hμ rfl
  unfold noteChange
  simp (maxDischargeDepth := 40) +contextual only [hs, fr_ite, ite_self, implies_true, b31, upd_mgmt, fr_bump (sub_trans rfl hμ), fr_raise
        (sub_trans rfl hμ), fr_raiseIf (sub_trans rfl hμ), fr_takeStamp (sub_trans rfl hμ)]

def kf_noteOwnChange : Nat := 0x180000064
theorem fr_noteOwnChange {μ : Nat} (hμ : sub kf_noteOwnChange μ = true) (key kind : Nat) (old : List Byte) {r₀ s : State} (hs : Keeps μ r₀
        s) : Keeps μ r₀ (noteOwnChange key kind old s) := by
  unfold noteOwnChange
  simp (maxDischargeDepth := 40) +contextual only [hs, fr_ite, ite_self, implies_true, fr_noteChange (sub_trans rfl hμ)]

def kf_endSessions : Nat := 0x80000000
theorem fr_endSessions {μ : Nat} (hμ : sub kf_endSessions μ = true) (gone : Session → Bool) {r₀ s : State} (hs : Keeps μ r₀ s) : Keeps μ r₀
        (endSessions gone s) := by
  have b31 : μ.testBit 31 = true := sub_bit hμ rfl
  unfold endSessions
  simp (maxDischargeDepth := 40) +contextual only [hs, fr_ite, ite_self, implies_true, b31, upd_mgmt]

def kf_endAllSessions : Nat := 0x80000000
theorem fr_endAllSessions {μ : Nat} (hμ : sub kf_endAllSessions μ = true) {r₀ s : State} (hs : Keeps μ r₀ s) : Keeps μ r₀ (endAllSessions s)
        := by
  unfold endAllSessions
  simp (maxDischargeDepth := 40) +contextual only [hs, fr_ite, ite_self, implies_true, fr_endSessions (sub_trans rfl hμ)]

def kf_endPortSessions : Nat := 0x80000000
theorem fr_endPortSessions {μ : Nat} (hμ : sub kf_endPortSessions μ = true) (p : Port) {r₀ s : State} (hs : Keeps μ r₀ s) : Keeps μ r₀
        (endPortSessions p s) := by
  unfold endPortSessions
  simp (maxDischargeDepth := 40) +contextual only [hs, fr_ite, ite_self, implies_true, fr_endSessions (sub_trans rfl hμ)]

def kf_putSession : Nat := 0x80000000
theorem fr_putSession {μ : Nat} (hμ : sub kf_putSession μ = true) (x : Session) {r₀ s : State} (hs : Keeps μ r₀ s) : Keeps μ r₀ (putSession
        x s) := by
  have b31 : μ.testBit 31 = true := sub_bit hμ rfl
  unfold putSession
  simp (maxDischargeDepth := 40) +contextual only [hs, fr_ite, ite_self, implies_true, b31, upd_mgmt]

def kf_deliver : Nat := 0x80000000
theorem fr_deliver {μ : Nat} (hμ : sub kf_deliver μ = true) (req : Req) (o : Out) {r₀ s : State} (hs : Keeps μ r₀ s) : Keeps μ r₀ (deliver
        req o s) := by
  unfold deliver
  (try simp (maxDischargeDepth := 40) +contextual only [hs, fr_ite, ite_self, implies_true, upd_out, fr_emit (sub_trans rfl hμ), fr_putSession
        (sub_trans rfl hμ)])
  repeat' split
  all_goals first
    | (with_reducible exact hs)
    | (simp (maxDischargeDepth := 40) +contextual only [hs, fr_ite, ite_self, implies_true, upd_out, fr_emit (sub_trans rfl hμ), fr_putSession
        (sub_trans rfl hμ)]; done)

def kf_endWith : Nat := 0x80000000
theorem fr_endWith {μ : Nat} (hμ : sub kf_endWith μ = true) (req : Req) (idx sub : Nat) (ask : DictAsk) (status : Nat) {r₀ s : State} (hs :
        Keeps μ r₀ s) : Keeps μ r₀ (endWith req idx sub ask status s) := by
  unfold endWith
  simp (maxDischargeDepth := 40) +contextual only [hs, fr_ite, ite_self, implies_true, fr_deliver (sub_trans rfl hμ)]

def kf_overtakeDeferred : Nat := 0x80000000
theorem fr_overtakeDeferred {μ : Nat} (hμ : sub kf_overtakeDeferred μ = true) {r₀ s : State} (hs : Keeps μ r₀ s) : Keeps μ r₀
        (overtakeDeferred s) := by
  have b31 : μ.testBit 31 = true := sub_bit hμ rfl
  unfold overtakeDeferred
  simp (maxDischargeDepth := 40) +contextual only [hs, fr_ite, ite_self, implies_true, b31, upd_mgmt, fr_endWith (sub_trans rfl hμ), fr_foldl]

def kf_setAction : Nat := 0x80000000
theorem fr_setAction {μ : Nat} (hμ : sub kf_setAction μ = true) (key status : Nat) {r₀ s : State} (hs : Keeps μ r₀ s) : Keeps μ r₀
        (setAction key status s) := by
  have b31 : μ.testBit 31 = true := sub_bit hμ rfl
  unfold setAction
  simp (maxDischargeDepth := 40) +contextual only [hs, fr_ite, ite_self, implies_true, b31, upd_mgmt]

def kf_endAction : Nat := 0x80000000
theorem fr_endAction {μ : Nat} (hμ : sub kf_endAction μ = true) (key status : Nat) {r₀ s : State} (hs : Keeps μ r₀ s) : Keeps μ r₀
        (endAction key status s) := by
  unfold endAction
  simp (maxDischargeDepth := 40) +contextual only [hs, fr_ite, ite_self, implies_true, fr_setAction (sub_trans rfl hμ)]

def kf_dropPrefetches : Nat := 0x38700C064
theorem fr_dropPrefetches {μ : Nat} (hμ : sub kf_dropPrefetches μ = true) (d : Nat) {r₀ s : State} (hs : Keeps μ r₀ s) : Keeps μ r₀
        (dropPrefetches d s) := by
  unfold dropPrefetches
  simp (maxDischargeDepth := 40) +contextual only [hs, fr_ite, ite_self, implies_true, fr_bump (sub_trans rfl hμ), fr_dropRead (sub_trans rfl
        hμ), fr_foldl]

def kf_noteReconstruction : Nat := 0x380000064
theorem fr_noteReconstruction {μ : Nat} (hμ : sub kf_noteReconstruction μ = true) (r : Read) {r₀ s : State} (hs : Keeps μ r₀ s) : Keeps μ r₀
        (noteReconstruction r s) := by
  unfold noteReconstruction
  (try simp (maxDischargeDepth := 40) +contextual only [hs, fr_ite, ite_self, implies_true, fr_bump (sub_trans rfl hμ), fr_count1 (sub_trans
        rfl hμ)])
  repeat' split
  all_goals first
    | (with_reducible exact hs)
    | (simp (maxDischargeDepth := 40) +contextual only [hs, fr_ite, ite_self, implies_true, fr_bump (sub_trans rfl hμ), fr_count1 (sub_trans rfl
        hμ)]; done)

def kf_placeRead : Nat := 0x38700C064
theorem fr_placeRead {μ : Nat} (hμ : sub kf_placeRead μ = true) (r : Read) {r₀ s : State} (hs : Keeps μ r₀ s) : Keeps μ r₀ (placeRead r s)
        := by
  unfold placeRead
  simp (maxDischargeDepth := 40) +contextual only [hs, fr_ite, ite_self, implies_true, fr_addRead (sub_trans rfl hμ), fr_dropPrefetches
        (sub_trans rfl hμ), fr_noteReconstruction (sub_trans rfl hμ)]

def kf_tagRead : Nat := 0x38700C064
theorem fr_tagRead {μ : Nat} (hμ : sub kf_tagRead μ = true) (r : Read) {r₀ s : State} (hs : Keeps μ r₀ s) : Keeps μ r₀ (tagRead r s) := by
  unfold tagRead
  (try simp (maxDischargeDepth := 40) +contextual only [hs, fr_ite, ite_self, implies_true, fr_placeRead (sub_trans rfl hμ)])
  repeat' split
  all_goals first
    | (with_reducible exact hs)
    | (simp (maxDischargeDepth := 40) +contextual only [hs, fr_ite, ite_self, implies_true, fr_placeRead (sub_trans rfl hμ)]; done)

def kf_dispatchRead : Nat := 0x38700C064
theorem fr_dispatchRead {μ : Nat} (hμ : sub kf_dispatchRead μ = true) (p : Port) (r : Read) {r₀ s : State} (hs : Keeps μ r₀ s) : Keeps μ r₀
        (dispatchRead p r s) := by
  unfold dispatchRead
  (try simp (maxDischargeDepth := 40) +contextual only [hs, fr_ite, ite_self, implies_true, fr_bump (sub_trans rfl hμ), fr_count1 (sub_trans
        rfl hμ), fr_dropRead (sub_trans rfl hμ), fr_placeRead (sub_trans rfl hμ), fr_tagRead (sub_trans rfl hμ), fr_foldl])
  repeat' split
  all_goals first
    | (with_reducible exact hs)
    | (simp (maxDischargeDepth := 40) +contextual only [hs, fr_ite, ite_self, implies_true, fr_bump (sub_trans rfl hμ), fr_count1 (sub_trans rfl
        hμ), fr_dropRead (sub_trans rfl hμ), fr_placeRead (sub_trans rfl hμ), fr_tagRead (sub_trans rfl hμ), fr_foldl]; done)

def kf_readMedium : Nat := 0x38700C064
theorem fr_readMedium {μ : Nat} (hμ : sub kf_readMedium μ = true) (p : Port) (r : Read) {r₀ s : State} (hs : Keeps μ r₀ s) : Keeps μ r₀
        (readMedium p r s) := by
  unfold readMedium
  (try simp (maxDischargeDepth := 40) +contextual only [hs, fr_ite, ite_self, implies_true, fr_addRead (sub_trans rfl hμ), fr_answerRead
        (sub_trans rfl hμ), fr_dispatchRead (sub_trans rfl hμ), fr_startRebuild (sub_trans rfl hμ)])
  repeat' split
  all_goals first
    | (with_reducible exact hs)
    | (simp (maxDischargeDepth := 40) +contextual only [hs, fr_ite, ite_self, implies_true, fr_addRead (sub_trans rfl hμ), fr_answerRead
        (sub_trans rfl hμ), fr_dispatchRead (sub_trans rfl hμ), fr_startRebuild (sub_trans rfl hμ)]; done)

def kf_releaseReads : Nat := 0x38700C064
theorem fr_releaseReads {μ : Nat} (hμ : sub kf_releaseReads μ = true) {r₀ : State} (ready : Nat → Bool) {s : State} (hs : Keeps μ r₀ s) : Keeps μ r₀ (releaseReads ready s) := by
  refine fr_foldl (fun t r ht => ?_) _ hs
  simp only
  have h := fr_raiseTo (sub_trans rfl hμ) 0x404106 (t.clock - r.acceptedAt) (fr_dropRead (sub_trans rfl hμ) r.id ht)
  split
  · exact fr_readMedium (sub_trans rfl hμ) _ _ h
  · exact fr_readMedium (sub_trans rfl hμ) _ _ h
  · exact h

def kf_nextRebuild : Nat := 0x1000000
theorem fr_nextRebuild {μ : Nat} (hμ : sub kf_nextRebuild μ = true) {r₀ s : State} (hs : Keeps μ r₀ s) : Keeps μ r₀ (nextRebuild s) := by
  have b24 : μ.testBit 24 = true := sub_bit hμ rfl
  unfold nextRebuild
  (try simp (maxDischargeDepth := 40) +contextual only [hs, fr_ite, ite_self, implies_true, b24, upd_xlat, fr_bump (sub_trans rfl hμ)])
  repeat' split
  all_goals first
    | (with_reducible exact hs)
    | (simp (maxDischargeDepth := 40) +contextual only [hs, fr_ite, ite_self, implies_true, b24, upd_xlat, fr_bump (sub_trans rfl hμ)]; done)

def kf_readCheckpoint : Nat := 0x380000064
theorem fr_readCheckpoint {μ : Nat} (hμ : sub kf_readCheckpoint μ = true) (seg : Nat) {r₀ s : State} (hs : Keeps μ r₀ s) : Keeps μ r₀
        (readCheckpoint seg s) := by
  unfold readCheckpoint
  (try simp (maxDischargeDepth := 40) +contextual only [hs, fr_ite, ite_self, implies_true, fr_agentReads (sub_trans rfl hμ)])
  repeat' split
  all_goals first
    | (with_reducible exact hs)
    | (simp (maxDischargeDepth := 40) +contextual only [hs, fr_ite, ite_self, implies_true, fr_agentReads (sub_trans rfl hμ)]; done)

def kf_finishRebuild : Nat := 0x38700C064
theorem fr_finishRebuild {μ : Nat} (hμ : sub kf_finishRebuild μ = true) (seg : Nat) {r₀ s : State} (hs : Keeps μ r₀ s) : Keeps μ r₀
        (finishRebuild seg s) := by
  unfold finishRebuild
  simp (maxDischargeDepth := 40) +contextual only [hs, fr_ite, ite_self, implies_true, fr_nextRebuild (sub_trans rfl hμ), fr_readCheckpoint
        (sub_trans rfl hμ), fr_rebuildSegment (sub_trans rfl hμ), fr_releaseReads (sub_trans rfl hμ)]

def kf_demandNow : Nat := 0x38700C064
theorem fr_demandNow {μ : Nat} (hμ : sub kf_demandNow μ = true) (seg : Nat) {r₀ s : State} (hs : Keeps μ r₀ s) : Keeps μ r₀ (demandNow seg
        s) := by
  unfold demandNow
  simp (maxDischargeDepth := 40) +contextual only [hs, fr_ite, ite_self, implies_true, fr_bump (sub_trans rfl hμ), fr_finishRebuild (sub_trans
        rfl hμ)]

def kf_fill : Nat := 0x38700FC64
theorem fr_fill {μ : Nat} (hμ : sub kf_fill μ = true) (r : Read) (tags : BitVec 4) {r₀ s : State} (hs : Keeps μ r₀ s) : Keeps μ r₀ (fill r
        tags s) := by
  unfold fill
  simp (maxDischargeDepth := 40) +contextual only [hs, fr_ite, ite_self, implies_true, fr_addTo (sub_trans rfl hμ), fr_installFill (sub_trans
        rfl hμ)]

def kf_prefetch : Nat := 0x38700C064
theorem fr_prefetch {μ : Nat} (hμ : sub kf_prefetch μ = true) (r : Read) {r₀ s : State} (hs : Keeps μ r₀ s) : Keeps μ r₀ (prefetch r s) :=
        by
  unfold prefetch
  (try simp (maxDischargeDepth := 40) +contextual only [hs, fr_ite, ite_self, implies_true, fr_bump (sub_trans rfl hμ), fr_addRead (sub_trans
        rfl hμ), fr_dropPrefetches (sub_trans rfl hμ)])
  repeat' split
  all_goals first
    | (with_reducible exact hs)
    | (simp (maxDischargeDepth := 40) +contextual only [hs, fr_ite, ite_self, implies_true, fr_bump (sub_trans rfl hμ), fr_addRead (sub_trans rfl
        hμ), fr_dropPrefetches (sub_trans rfl hμ)]; done)

def kf_respond : Nat := 0x38700C064
theorem fr_respond {μ : Nat} (hμ : sub kf_respond μ = true) (r : Read) {r₀ s : State} (hs : Keeps μ r₀ s) : Keeps μ r₀ (respond r s) := by
  unfold respond
  (try simp (maxDischargeDepth := 40) +contextual only [hs, fr_ite, ite_self, implies_true, fr_answerRead (sub_trans rfl hμ), fr_dropRead
        (sub_trans rfl hμ), fr_modRead (sub_trans rfl hμ), fr_prefetch (sub_trans rfl hμ), fr_refillPrompt (sub_trans rfl hμ)])
  repeat' split
  all_goals first
    | (with_reducible exact hs)
    | (simp (maxDischargeDepth := 40) +contextual only [hs, fr_ite, ite_self, implies_true, fr_answerRead (sub_trans rfl hμ), fr_dropRead
        (sub_trans rfl hμ), fr_modRead (sub_trans rfl hμ), fr_prefetch (sub_trans rfl hμ), fr_refillPrompt (sub_trans rfl hμ)]; done)

def kf_reportDeadline : Nat := 0x380000064
theorem fr_reportDeadline {μ : Nat} (hμ : sub kf_reportDeadline μ = true) (reads : List Read) (outcome : Nat) {r₀ s : State} (hs : Keeps μ
        r₀ s) : Keeps μ r₀ (reportDeadline reads outcome s) := by
  have b33 : μ.testBit 33 = true := sub_bit hμ rfl
  unfold reportDeadline
  (try simp (maxDischargeDepth := 40) +contextual only [hs, fr_ite, ite_self, implies_true, b33, upd_obs, fr_raise (sub_trans rfl hμ),
        fr_foldl])
  repeat' split
  all_goals first
    | (with_reducible exact hs)
    | (simp (maxDischargeDepth := 40) +contextual only [hs, fr_ite, ite_self, implies_true, b33, upd_obs, fr_raise (sub_trans rfl hμ), fr_foldl];
        done)

def kf_fillSector : Nat := 0x38700FC64
theorem fr_fillSector {μ : Nat} (hμ : sub kf_fillSector μ = true) {r₀ : State} (r : Read) (all : List Read) (tags : BitVec 4) {s : State} (hs : Keeps μ r₀ s) :
    Keeps μ r₀ (fillSector r all tags s) := by
  refine fr_cond (fr_foldl (fun t l ht => ?_) _ hs) (fr_fill (sub_trans rfl hμ) _ _ hs)
  split
  · exact fr_fill (sub_trans rfl hμ) _ _ ht
  · exact ht

def kf_openRetry : Nat := 0x380010064
theorem fr_openRetry {μ : Nat} (hμ : sub kf_openRetry μ = true) (r : Read) {r₀ s : State} (hs : Keeps μ r₀ s) : Keeps μ r₀ (openRetry r s)
        := by
  have b16 : μ.testBit 16 = true := sub_bit hμ rfl
  unfold openRetry
  simp (maxDischargeDepth := 40) +contextual only [hs, fr_ite, ite_self, implies_true, b16, upd_retries, fr_reconstructionReads (sub_trans rfl
        hμ), fr_sectorMoved (sub_trans rfl hμ)]

def kf_startRetry : Nat := 0x380014064
theorem fr_startRetry {μ : Nat} (hμ : sub kf_startRetry μ = true) (r : Read) {r₀ s : State} (hs : Keeps μ r₀ s) : Keeps μ r₀ (startRetry r
        s) := by
  unfold startRetry
  simp (maxDischargeDepth := 40) +contextual only [hs, fr_ite, ite_self, implies_true, fr_modRead (sub_trans rfl hμ), fr_openRetry (sub_trans
        rfl hμ), fr_refillPrompt (sub_trans rfl hμ)]

def kf_ladderLines : Nat := 0x38001C064
theorem fr_ladderLines {μ : Nat} (hμ : sub kf_ladderLines μ = true) (r : Read) (tags : BitVec 4) {r₀ s : State} (hs : Keeps μ r₀ s) : Keeps
        μ r₀ (ladderLines r tags s) := by
  unfold ladderLines
  simp (maxDischargeDepth := 40) +contextual only [hs, fr_ite, ite_self, implies_true, fr_addRead (sub_trans rfl hμ), fr_openRetry (sub_trans
        rfl hμ), fr_foldl]

def kf_installLine : Nat := 0x387003C64
theorem fr_installLine {μ : Nat} (hμ : sub kf_installLine μ = true) (r : Read) {r₀ s : State} (hs : Keeps μ r₀ s) : Keeps μ r₀ (installLine
        r s) := by
  unfold installLine
  simp (maxDischargeDepth := 40) +contextual only [hs, fr_ite, ite_self, implies_true, fr_installFill (sub_trans rfl hμ)]

def kf_takeBlocks : Nat := 0x80
theorem fr_takeBlocks {μ : Nat} (hμ : sub kf_takeBlocks μ = true) (blocks : List (Nat × Option Nat)) {r₀ s : State} (hs : Keeps μ r₀ s) :
        Keeps μ r₀ (takeBlocks blocks s) := by
  have b7 : μ.testBit 7 = true := sub_bit hμ rfl
  unfold takeBlocks
  simp (maxDischargeDepth := 40) +contextual only [hs, fr_ite, ite_self, implies_true, b7, upd_staging]

def kf_takeOld : Nat := 0x80
theorem fr_takeOld {μ : Nat} (hμ : sub kf_takeOld μ = true) {r₀ s : State} (hs : Keeps μ r₀ s) : Keeps μ r₀ (takeOld s) := by
  have b7 : μ.testBit 7 = true := sub_bit hμ rfl
  unfold takeOld
  simp (maxDischargeDepth := 40) +contextual only [hs, fr_ite, ite_self, implies_true, b7, upd_staging]

def kf_evict : Nat := 0x80
theorem fr_evict {μ : Nat} (hμ : sub kf_evict μ = true) {r₀ s : State} (hs : Keeps μ r₀ s) : Keeps μ r₀ (evict s) := by
  unfold evict
  simp (maxDischargeDepth := 40) +contextual only [hs, fr_ite, ite_self, implies_true, fr_takeBlocks (sub_trans rfl hμ), fr_takeOld (sub_trans
        rfl hμ)]

def kf_stageLine : Nat := 0x80
theorem fr_stageLine {μ : Nat} (hμ : sub kf_stageLine μ = true) (line : Nat) (grp tag : Option Nat) (d : Line) (poison : Bool) (stamp wmode
        : Nat) (cmpTo : List (Port × Nat)) {r₀ s : State} (hs : Keeps μ r₀ s) : Keeps μ r₀ (stageLine line grp tag d poison stamp wmode
        cmpTo s) := by
  have b7 : μ.testBit 7 = true := sub_bit hμ rfl
  unfold stageLine
  simp (maxDischargeDepth := 40) +contextual only [hs, fr_ite, ite_self, implies_true, b7, upd_staging, fr_evict (sub_trans rfl hμ)]

def kf_storeCommitted : Nat := 0x5000C80
theorem fr_storeCommitted {μ : Nat} (hμ : sub kf_storeCommitted μ = true) (line : Nat) (d : Line) (poison : Bool) (stamp wmode : Nat) (cmpTo
        : List (Port × Nat)) {r₀ s : State} (hs : Keeps μ r₀ s) : Keeps μ r₀ (storeCommitted line d poison stamp wmode cmpTo s) := by
  unfold storeCommitted
  simp (maxDischargeDepth := 40) +contextual only [hs, fr_ite, ite_self, implies_true, fr_dirtySegment (sub_trans rfl hμ), fr_pruneRanges
        (sub_trans rfl hμ), fr_stageLine (sub_trans rfl hμ), fr_storeToCaches (sub_trans rfl hμ)]

def kf_storeProvisional : Nat := 0x1810200E4
theorem fr_storeProvisional {μ : Nat} (hμ : sub kf_storeProvisional μ = true) (g line : Nat) (d : Line) (poison : Bool) (stamp wmode : Nat)
        (cmpTo : List (Port × Nat)) {r₀ s : State} (hs : Keeps μ r₀ s) : Keeps μ r₀ (storeProvisional g line d poison stamp wmode cmpTo s)
        := by
  unfold storeProvisional
  simp (maxDischargeDepth := 40) +contextual only [hs, fr_ite, ite_self, implies_true, fr_setGroup (sub_trans rfl hμ), fr_checkPool (sub_trans
        rfl hμ), fr_dirtySegment (sub_trans rfl hμ), fr_stageLine (sub_trans rfl hμ)]

def kf_markConflict : Nat := 0x20000
theorem fr_markConflict {μ : Nat} (hμ : sub kf_markConflict μ = true) (g page : Nat) {r₀ s : State} (hs : Keeps μ r₀ s) : Keeps μ r₀
        (markConflict g page s) := by
  unfold markConflict
  simp (maxDischargeDepth := 40) +contextual only [hs, fr_ite, ite_self, implies_true, fr_setGroup (sub_trans rfl hμ)]

def kf_sampleStore : Nat := 0x380000064
theorem fr_sampleStore {μ : Nat} (hμ : sub kf_sampleStore μ = true) (p : Port) (x : Store) (stamp : Nat) {r₀ s : State} (hs : Keeps μ r₀ s)
        : Keeps μ r₀ (sampleStore p x stamp s) := by
  unfold sampleStore
  simp (maxDischargeDepth := 40) +contextual only [hs, fr_ite, ite_self, implies_true, fr_placeSample (sub_trans rfl hμ)]

def kf_cmpStore : Nat := 0x380000064
theorem fr_cmpStore {μ : Nat} (hμ : sub kf_cmpStore μ = true) (p : Port) (x : Store) {r₀ s : State} (hs : Keeps μ r₀ s) : Keeps μ r₀
        (cmpStore p x s) := by
  unfold cmpStore
  simp (maxDischargeDepth := 40) +contextual only [hs, fr_ite, ite_self, implies_true, fr_sendCmp (sub_trans rfl hμ)]

def kf_visibleStore : Nat := 0x387020EE4
theorem fr_visibleStore {μ : Nat} (hμ : sub kf_visibleStore μ = true) (p : Port) (x : Store) (d : Line) (poison : Bool) {r₀ s : State} (hs :
        Keeps μ r₀ s) : Keeps μ r₀ (visibleStore p x d poison s) := by
  unfold visibleStore
  (try simp (maxDischargeDepth := 40) +contextual only [hs, fr_ite, ite_self, implies_true, fr_cmpStore (sub_trans rfl hμ), fr_dropStores
        (sub_trans rfl hμ), fr_forceAbort (sub_trans rfl hμ), fr_markConflict (sub_trans rfl hμ), fr_sampleStore (sub_trans rfl hμ),
        fr_storeCommitted (sub_trans rfl hμ), fr_storeProvisional (sub_trans rfl hμ), fr_takeStamp (sub_trans rfl hμ)])
  repeat' split
  all_goals first
    | (with_reducible exact hs)
    | (simp (maxDischargeDepth := 40) +contextual only [hs, fr_ite, ite_self, implies_true, fr_cmpStore (sub_trans rfl hμ), fr_dropStores
        (sub_trans rfl hμ), fr_forceAbort (sub_trans rfl hμ), fr_markConflict (sub_trans rfl hμ), fr_sampleStore (sub_trans rfl hμ),
        fr_storeCommitted (sub_trans rfl hμ), fr_storeProvisional (sub_trans rfl hμ), fr_takeStamp (sub_trans rfl hμ)]; done)

def kf_unqueue : Nat := 0x60
theorem fr_unqueue {μ : Nat} (hμ : sub kf_unqueue μ = true) (p : Port) (x : Store) {r₀ s : State} (hs : Keeps μ r₀ s) : Keeps μ r₀ (unqueue
        p x s) := by
  unfold unqueue
  simp (maxDischargeDepth := 40) +contextual only [hs, fr_ite, ite_self, implies_true, fr_modPort (sub_trans rfl hμ), fr_grantCredits
        (sub_trans rfl hμ)]

def kf_endMerge : Nat := 0x4000
theorem fr_endMerge {μ : Nat} (hμ : sub kf_endMerge μ = true) (p : Port) (x : Store) {r₀ s : State} (hs : Keeps μ r₀ s) : Keeps μ r₀
        (endMerge p x s) := by
  unfold endMerge
  (try simp (maxDischargeDepth := 40) +contextual only [hs, fr_ite, ite_self, implies_true, fr_dropRead (sub_trans rfl hμ)])
  repeat' split
  all_goals first
    | (with_reducible exact hs)
    | (simp (maxDischargeDepth := 40) +contextual only [hs, fr_ite, ite_self, implies_true, fr_dropRead (sub_trans rfl hμ)]; done)

def kf_transfer : Nat := 0x38702CEE4
theorem fr_transfer {μ : Nat} (hμ : sub kf_transfer μ = true) (p : Port) (x : Store) {r₀ s : State} (hs : Keeps μ r₀ s) : Keeps μ r₀
        (transfer p x s) := by
  unfold transfer
  simp (maxDischargeDepth := 40) +contextual only [hs, fr_ite, ite_self, implies_true, fr_bump (sub_trans rfl hμ), fr_answerMerges (sub_trans
        rfl hμ), fr_cmpStore (sub_trans rfl hμ), fr_endMerge (sub_trans rfl hμ), fr_raise (sub_trans rfl hμ), fr_unqueue (sub_trans rfl hμ),
        fr_visibleStore (sub_trans rfl hμ)]

def kf_settleHolds : Nat := 0x387020EE4
theorem fr_settleHolds {μ : Nat} (hμ : sub kf_settleHolds μ = true) {r₀ : State} (p : Port) {s : State} (hs : Keeps μ r₀ s) : Keeps μ r₀ (settleHolds p s) := by
  refine fr_foldl (fun t x ht => ?_) _ hs
  split
  · exact ht
  · exact fr_settle (sub_trans rfl hμ) _ ht

def kf_drainLoop : Nat := 0x38702CEE4
theorem fr_drainLoop {μ : Nat} (hμ : sub kf_drainLoop μ = true) {r₀ : State} (n : Nat) (p : Port) (bound : Nat) {s : State} (hs : Keeps μ r₀ s) : Keeps μ r₀ (drainLoop n p bound s) := by
  induction n generalizing s with
  | zero => exact hs
  | succ n ih =>
    unfold drainLoop
    split
    · exact hs
    · exact ih (fr_transfer (sub_trans rfl hμ) _ _ (fr_cond hs (fr_demandNow (sub_trans rfl hμ) _ hs)))

def kf_drainTo : Nat := 0x38702CEE4
theorem fr_drainTo {μ : Nat} (hμ : sub kf_drainTo μ = true) (p : Port) (bound : Nat) {r₀ s : State} (hs : Keeps μ r₀ s) : Keeps μ r₀
        (drainTo p bound s) := by
  unfold drainTo
  simp (maxDischargeDepth := 40) +contextual only [hs, fr_ite, ite_self, implies_true, fr_modPort (sub_trans rfl hμ), fr_drainLoop (sub_trans
        rfl hμ), fr_settleHolds (sub_trans rfl hμ)]

def kf_drainPort : Nat := 0x38702CEE4
theorem fr_drainPort {μ : Nat} (hμ : sub kf_drainPort μ = true) (p : Port) {r₀ s : State} (hs : Keeps μ r₀ s) : Keeps μ r₀ (drainPort p s)
        := by
  unfold drainPort
  simp (maxDischargeDepth := 40) +contextual only [hs, fr_ite, ite_self, implies_true, fr_drainTo (sub_trans rfl hμ)]

def kf_writeCell : Nat := 0x40000
theorem fr_writeCell {μ : Nat} (hμ : sub kf_writeCell μ = true) (c : Nat) (be : ByteEnables) (d : Line) {r₀ s : State} (hs : Keeps μ r₀ s) :
        Keeps μ r₀ (writeCell c be d s) := by
  have b18 : μ.testBit 18 = true := sub_bit hμ rfl
  unfold writeCell
  simp (maxDischargeDepth := 40) +contextual only [hs, fr_ite, ite_self, implies_true, b18, upd_cells, fr_foldl]

def kf_setReserved : Nat := 0x180000
theorem fr_setReserved {μ : Nat} (hμ : sub kf_setReserved μ = true) (p : Port) (l : List Nat) {r₀ s : State} (hs : Keeps μ r₀ s) : Keeps μ
        r₀ (setReserved p l s) := by
  have b19 : μ.testBit 19 = true := sub_bit hμ rfl
  have b20 : μ.testBit 20 = true := sub_bit hμ rfl
  unfold setReserved
  (try simp (maxDischargeDepth := 40) +contextual only [hs, fr_ite, ite_self, implies_true, b19, b20, upd_reservedA, upd_reservedB])
  repeat' split
  all_goals first
    | (with_reducible exact hs)
    | (simp (maxDischargeDepth := 40) +contextual only [hs, fr_ite, ite_self, implies_true, b19, b20, upd_reservedA, upd_reservedB]; done)

def kf_setResultLine : Nat := 0x600000
theorem fr_setResultLine {μ : Nat} (hμ : sub kf_setResultLine μ = true) (p : Port) (c : Nat) (r : ResultLine) {r₀ s : State} (hs : Keeps μ
        r₀ s) : Keeps μ r₀ (setResultLine p c r s) := by
  have b21 : μ.testBit 21 = true := sub_bit hμ rfl
  have b22 : μ.testBit 22 = true := sub_bit hμ rfl
  unfold setResultLine
  (try simp (maxDischargeDepth := 40) +contextual only [hs, fr_ite, ite_self, implies_true, b21, b22, upd_resultsA, upd_resultsB])
  repeat' split
  all_goals first
    | (with_reducible exact hs)
    | (simp (maxDischargeDepth := 40) +contextual only [hs, fr_ite, ite_self, implies_true, b21, b22, upd_resultsA, upd_resultsB]; done)

def kf_loseReservation : Nat := 0x780000
theorem fr_loseReservation {μ : Nat} (hμ : sub kf_loseReservation μ = true) (p : Port) (c : Nat) (cause : LossCause) {r₀ s : State} (hs :
        Keeps μ r₀ s) : Keeps μ r₀ (loseReservation p c cause s) := by
  unfold loseReservation
  simp (maxDischargeDepth := 40) +contextual only [hs, fr_ite, ite_self, implies_true, fr_setReserved (sub_trans rfl hμ), fr_setResultLine
        (sub_trans rfl hμ)]

def kf_loseAll : Nat := 0x780000
theorem fr_loseAll {μ : Nat} (hμ : sub kf_loseAll μ = true) (p : Port) (cause : LossCause) {r₀ s : State} (hs : Keeps μ r₀ s) : Keeps μ r₀
        (loseAll p cause s) := by
  unfold loseAll
  simp (maxDischargeDepth := 40) +contextual only [hs, fr_ite, ite_self, implies_true, fr_loseReservation (sub_trans rfl hμ), fr_foldl]

def kf_reserve : Nat := 0x180780064
theorem fr_reserve {μ : Nat} (hμ : sub kf_reserve μ = true) (p : Port) (c : Nat) {r₀ s : State} (hs : Keeps μ r₀ s) : Keeps μ r₀ (reserve p
        c s) := by
  unfold reserve
  simp (maxDischargeDepth := 40) +contextual only [hs, fr_ite, ite_self, implies_true, fr_bump (sub_trans rfl hμ), fr_raise (sub_trans rfl
        hμ), fr_setReserved (sub_trans rfl hμ), fr_setResultLine (sub_trans rfl hμ)]

def kf_plainStore : Nat := 0x7C0004
theorem fr_plainStore {μ : Nat} (hμ : sub kf_plainStore μ = true) (p : Port) (c : Nat) (be : ByteEnables) (d : Line) {r₀ s : State} (hs :
        Keeps μ r₀ s) : Keeps μ r₀ (plainStore p c be d s) := by
  unfold plainStore
  simp (maxDischargeDepth := 40) +contextual only [hs, fr_ite, ite_self, implies_true, fr_loseReservation (sub_trans rfl hμ), fr_takeStamp
        (sub_trans rfl hμ), fr_writeCell (sub_trans rfl hμ)]

def kf_conditionalEffect : Nat := 0x7C0004
theorem fr_conditionalEffect {μ : Nat} (hμ : sub kf_conditionalEffect μ = true) (p : Port) (c : Nat) (be : ByteEnables) (d : Line) {r₀ s : State}
        (hs : Keeps μ r₀ s) : Keeps μ r₀ (conditionalEffect p c be d s) := by
  unfold conditionalEffect
  simp (maxDischargeDepth := 40) +contextual only [hs, fr_ite, ite_self, implies_true, fr_bump (sub_trans rfl hμ), fr_loseReservation
        (sub_trans rfl hμ), fr_setReserved (sub_trans rfl hμ), fr_setResultLine (sub_trans rfl hμ), fr_takeStamp (sub_trans rfl hμ),
        fr_writeCell (sub_trans rfl hμ)]

def kf_clearBarrier : Nat := 0x60
theorem fr_clearBarrier {μ : Nat} (hμ : sub kf_clearBarrier μ = true) (p : Port) {r₀ s : State} (hs : Keeps μ r₀ s) : Keeps μ r₀
        (clearBarrier p s) := by
  unfold clearBarrier
  simp (maxDischargeDepth := 40) +contextual only [hs, fr_ite, ite_self, implies_true, fr_bump (sub_trans rfl hμ), fr_modPort (sub_trans rfl
        hμ)]

def kf_startDiscard : Nat := 0x60
theorem fr_startDiscard {μ : Nat} (hμ : sub kf_startDiscard μ = true) (p : Port) {r₀ s : State} (hs : Keeps μ r₀ s) : Keeps μ r₀
        (startDiscard p s) := by
  unfold startDiscard
  simp (maxDischargeDepth := 40) +contextual only [hs, fr_ite, ite_self, implies_true, fr_modPort (sub_trans rfl hμ)]

def kf_writeDiscard : Nat := 0x60
theorem fr_writeDiscard {μ : Nat} (hμ : sub kf_writeDiscard μ = true) (p : Port) (be : ByteEnables) (d : Line) {r₀ s : State} (hs : Keeps μ
        r₀ s) : Keeps μ r₀ (writeDiscard p be d s) := by
  unfold writeDiscard
  (try simp (maxDischargeDepth := 40) +contextual only [hs, fr_ite, ite_self, implies_true, fr_modPort (sub_trans rfl hμ), fr_startDiscard
        (sub_trans rfl hμ)])
  repeat' split
  all_goals first
    | (with_reducible exact hs)
    | (simp (maxDischargeDepth := 40) +contextual only [hs, fr_ite, ite_self, implies_true, fr_modPort (sub_trans rfl hμ), fr_startDiscard
        (sub_trans rfl hμ)]; done)

def kf_writeDescriptor : Nat := 0x200000000
theorem fr_writeDescriptor {μ : Nat} (hμ : sub kf_writeDescriptor μ = true) (k : Nat) (be : ByteEnables) (d : Line) {r₀ s : State} (hs :
        Keeps μ r₀ s) : Keeps μ r₀ (writeDescriptor k be d s) := by
  unfold writeDescriptor
  simp (maxDischargeDepth := 40) +contextual only [hs, fr_ite, ite_self, implies_true, fr_setChannel (sub_trans rfl hμ)]

def kf_startDma : Nat := 0x200000000
theorem fr_startDma {μ : Nat} (hμ : sub kf_startDma μ = true) (p : Port) (k : Nat) {r₀ s : State} (hs : Keeps μ r₀ s) : Keeps μ r₀ (startDma
        p k s) := by
  unfold startDma
  simp (maxDischargeDepth := 40) +contextual only [hs, fr_ite, ite_self, implies_true, fr_setChannel (sub_trans rfl hμ)]

def kf_abortDma : Nat := 0x200000000
theorem fr_abortDma {μ : Nat} (hμ : sub kf_abortDma μ = true) (k : Nat) {r₀ s : State} (hs : Keeps μ r₀ s) : Keeps μ r₀ (abortDma k s) := by
  unfold abortDma
  simp (maxDischargeDepth := 40) +contextual only [hs, fr_ite, ite_self, implies_true, fr_setChannel (sub_trans rfl hμ)]

def kf_writeControl : Nat := 0x200000000
theorem fr_writeControl {μ : Nat} (hμ : sub kf_writeControl μ = true) (p : Port) (k : Nat) (be : ByteEnables) (d : Line) {r₀ s : State} (hs
        : Keeps μ r₀ s) : Keeps μ r₀ (writeControl p k be d s) := by
  unfold writeControl
  (try simp (maxDischargeDepth := 40) +contextual only [hs, fr_ite, ite_self, implies_true, fr_abortDma (sub_trans rfl hμ), fr_startDma
        (sub_trans rfl hμ)])
  repeat' split
  all_goals first
    | (with_reducible exact hs)
    | (simp (maxDischargeDepth := 40) +contextual only [hs, fr_ite, ite_self, implies_true, fr_abortDma (sub_trans rfl hμ), fr_startDma (sub_trans
        rfl hμ)]; done)

def kf_countWindow : Nat := 0x380000064
theorem fr_countWindow {μ : Nat} (hμ : sub kf_countWindow μ = true) (p : Port) (code : Nat) {r₀ s : State} (hs : Keeps μ r₀ s) : Keeps μ r₀
        (countWindow p code s) := by
  unfold countWindow
  simp (maxDischargeDepth := 40) +contextual only [hs, fr_ite, ite_self, implies_true, fr_count1 (sub_trans rfl hμ), fr_countEligible
        (sub_trans rfl hμ)]

def kf_answerWindow : Nat := 0x380000064
theorem fr_answerWindow {μ : Nat} (hμ : sub kf_answerWindow μ = true) (p : Port) (tag line : Nat) (sampled : Bool) (d : Line) {r₀ s : State}
        (hs : Keeps μ r₀ s) : Keeps μ r₀ (answerWindow p tag line sampled d s) := by
  unfold answerWindow
  simp (maxDischargeDepth := 40) +contextual only [hs, fr_ite, ite_self, implies_true, fr_sampleWindow (sub_trans rfl hμ), fr_sendData
        (sub_trans rfl hμ)]

def kf_readGroup : Nat := 0x380020064
theorem fr_readGroup {μ : Nat} (hμ : sub kf_readGroup μ = true) (p : Port) (tag line g seq : Nat) (sampled : Bool) {r₀ s : State} (hs :
        Keeps μ r₀ s) : Keeps μ r₀ (readGroup p tag line g seq sampled s) := by
  unfold readGroup
  simp (maxDischargeDepth := 40) +contextual only [hs, fr_ite, ite_self, implies_true, fr_setGroup (sub_trans rfl hμ), fr_answerWindow
        (sub_trans rfl hμ)]

def kf_readCell : Nat := 0x380780064
theorem fr_readCell {μ : Nat} (hμ : sub kf_readCell μ = true) (p : Port) (tag line aliasNo c : Nat) (sampled : Bool) {r₀ s : State} (hs :
        Keeps μ r₀ s) : Keeps μ r₀ (readCell p tag line aliasNo c sampled s) := by
  unfold readCell
  simp (maxDischargeDepth := 40) +contextual only [hs, fr_ite, ite_self, implies_true, fr_answerWindow (sub_trans rfl hμ), fr_drawn (sub_trans
        rfl hμ), fr_reserve (sub_trans rfl hμ)]

def kf_readBarrier : Nat := 0x380000064
theorem fr_readBarrier {μ : Nat} (hμ : sub kf_readBarrier μ = true) (p : Port) (tag line acceptedAt : Nat) (sampled : Bool) {r₀ s : State}
        (hs : Keeps μ r₀ s) : Keeps μ r₀ (readBarrier p tag line acceptedAt sampled s) := by
  unfold readBarrier
  simp (maxDischargeDepth := 40) +contextual only [hs, fr_ite, ite_self, implies_true, fr_modPort (sub_trans rfl hμ), fr_answerBarrier
        (sub_trans rfl hμ), fr_clearBarrier (sub_trans rfl hμ)]

def kf_readPortPage : Nat := 0x380000064
theorem fr_readPortPage {μ : Nat} (hμ : sub kf_readPortPage μ = true) (p owner : Port) (tag line acceptedAt offset : Nat) (sampled : Bool)
        {r₀ s : State} (hs : Keeps μ r₀ s) : Keeps μ r₀ (readPortPage p owner tag line acceptedAt offset sampled s) := by
  unfold readPortPage
  simp (maxDischargeDepth := 40) +contextual only [hs, fr_ite, ite_self, implies_true, fr_answerWindow (sub_trans rfl hμ), fr_readBarrier
        (sub_trans rfl hμ), fr_stray (sub_trans rfl hμ)]

def kf_readDma : Nat := 0x380000064
theorem fr_readDma {μ : Nat} (hμ : sub kf_readDma μ = true) (p : Port) (tag line k offset : Nat) (sampled : Bool) {r₀ s : State} (hs : Keeps
        μ r₀ s) : Keeps μ r₀ (readDma p tag line k offset sampled s) := by
  unfold readDma
  simp (maxDischargeDepth := 40) +contextual only [hs, fr_ite, ite_self, implies_true, fr_answerWindow (sub_trans rfl hμ), fr_stray (sub_trans
        rfl hμ)]

def kf_readTarget : Nat := 0x3807A0064
theorem fr_readTarget {μ : Nat} (hμ : sub kf_readTarget μ = true) {r₀ : State} (p : Port) (w : PortWait) {s : State} (hs : Keeps μ r₀ s) (t : WindowTarget) :
    Keeps μ r₀ (readTarget p w s t) := by
  cases t with
  | groupLine g => exact fr_readGroup (sub_trans rfl hμ) _ _ _ _ _ _ hs
  | cell a c => exact fr_readCell (sub_trans rfl hμ) _ _ _ _ _ _ hs
  | portPage o f => exact fr_readPortPage (sub_trans rfl hμ) _ _ _ _ _ _ _ hs
  | counters l => exact fr_answerWindow (sub_trans rfl hμ) _ _ _ _ _ hs
  | dma k f => exact fr_readDma (sub_trans rfl hμ) _ _ _ _ _ _ hs
  | unused => exact fr_answerWindow (sub_trans rfl hμ) _ _ _ _ _ (fr_stray (sub_trans rfl hμ) _ hs)

def kf_writeGroup : Nat := 0x1800200E4
theorem fr_writeGroup {μ : Nat} (hμ : sub kf_writeGroup μ = true) (p : Port) (g seq : Nat) (be : ByteEnables) (d : Line) {r₀ s : State} (hs
        : Keeps μ r₀ s) : Keeps μ r₀ (writeGroup p g seq be d s) := by
  unfold writeGroup
  (try simp (maxDischargeDepth := 40) +contextual only [hs, fr_ite, ite_self, implies_true, fr_setGroup (sub_trans rfl hμ), fr_dropStores
        (sub_trans rfl hμ), fr_raise (sub_trans rfl hμ), fr_strayIf (sub_trans rfl hμ), fr_submitCommand (sub_trans rfl hμ)])
  repeat' split
  all_goals first
    | (with_reducible exact hs)
    | (simp (maxDischargeDepth := 40) +contextual only [hs, fr_ite, ite_self, implies_true, fr_setGroup (sub_trans rfl hμ), fr_dropStores
        (sub_trans rfl hμ), fr_raise (sub_trans rfl hμ), fr_strayIf (sub_trans rfl hμ), fr_submitCommand (sub_trans rfl hμ)]; done)

def kf_writeAlias : Nat := 0x1807C0064
theorem fr_writeAlias {μ : Nat} (hμ : sub kf_writeAlias μ = true) (p : Port) (aliasNo c : Nat) (be : ByteEnables) (d : Line) {r₀ s : State}
        (hs : Keeps μ r₀ s) : Keeps μ r₀ (writeAlias p aliasNo c be d s) := by
  unfold writeAlias
  simp (maxDischargeDepth := 40) +contextual only [hs, fr_ite, ite_self, implies_true, fr_conditionalEffect (sub_trans rfl hμ), fr_dropStores
        (sub_trans rfl hμ), fr_plainStore (sub_trans rfl hμ), fr_stray (sub_trans rfl hμ), fr_strayIf (sub_trans rfl hμ)]

def kf_writePortPage : Nat := 0x180000064
theorem fr_writePortPage {μ : Nat} (hμ : sub kf_writePortPage μ = true) (p owner : Port) (offset : Nat) (be : ByteEnables) (d : Line) {r₀ s : State}
        (hs : Keeps μ r₀ s) : Keeps μ r₀ (writePortPage p owner offset be d s) := by
  unfold writePortPage
  simp (maxDischargeDepth := 40) +contextual only [hs, fr_ite, ite_self, implies_true, fr_stray (sub_trans rfl hμ), fr_strayIf (sub_trans rfl
        hμ), fr_writeDiscard (sub_trans rfl hμ)]

def kf_writeDma : Nat := 0x380000064
theorem fr_writeDma {μ : Nat} (hμ : sub kf_writeDma μ = true) (p : Port) (k offset : Nat) (be : ByteEnables) (d : Line) {r₀ s : State} (hs :
        Keeps μ r₀ s) : Keeps μ r₀ (writeDma p k offset be d s) := by
  unfold writeDma
  simp (maxDischargeDepth := 40) +contextual only [hs, fr_ite, ite_self, implies_true, fr_dropStores (sub_trans rfl hμ), fr_stray (sub_trans
        rfl hμ), fr_strayIf (sub_trans rfl hμ), fr_writeControl (sub_trans rfl hμ), fr_writeDescriptor (sub_trans rfl hμ)]

def kf_writeTarget : Nat := 0x3807E00E4
theorem fr_writeTarget {μ : Nat} (hμ : sub kf_writeTarget μ = true) {r₀ : State} (p : Port) (seq : Nat) (be : ByteEnables) (d : Line) {s : State} (hs : Keeps μ r₀ s) (t : WindowTarget) :
    Keeps μ r₀ (writeTarget p seq be d s t) := by
  cases t with
  | groupLine g => exact fr_writeGroup (sub_trans rfl hμ) _ _ _ _ _ hs
  | cell a c => exact fr_writeAlias (sub_trans rfl hμ) _ _ _ _ _ hs
  | portPage o f => exact fr_writePortPage (sub_trans rfl hμ) _ _ _ _ _ hs
  | counters l => exact fr_stray (sub_trans rfl hμ) _ hs
  | dma k f => exact fr_writeDma (sub_trans rfl hμ) _ _ _ _ _ hs
  | unused => exact fr_stray (sub_trans rfl hμ) _ hs

def kf_serveAccess : Nat := 0x3807E00E4
theorem fr_serveAccess {μ : Nat} (hμ : sub kf_serveAccess μ = true) (p : Port) (w : PortWait) {r₀ s : State} (hs : Keeps μ r₀ s) : Keeps μ
        r₀ (serveAccess p w s) := by
  unfold serveAccess
  (try simp (maxDischargeDepth := 40) +contextual only [hs, fr_ite, ite_self, implies_true, fr_readTarget (sub_trans rfl hμ), fr_sampleWindow
        (sub_trans rfl hμ), fr_sendCmp (sub_trans rfl hμ), fr_stray (sub_trans rfl hμ), fr_writeTarget (sub_trans rfl hμ)])
  repeat' split
  all_goals first
    | (with_reducible exact hs)
    | (simp (maxDischargeDepth := 40) +contextual only [hs, fr_ite, ite_self, implies_true, fr_readTarget (sub_trans rfl hμ), fr_sampleWindow
        (sub_trans rfl hμ), fr_sendCmp (sub_trans rfl hμ), fr_stray (sub_trans rfl hμ), fr_writeTarget (sub_trans rfl hμ)]; done)

def kf_serveWaits : Nat := 0x3807E00E4
theorem fr_serveWaits {μ : Nat} (hμ : sub kf_serveWaits μ = true) {r₀ : State} (n : Nat) (p : Port) {s : State} (hs : Keeps μ r₀ s) : Keeps μ r₀ (serveWaits n p s) := by
  induction n generalizing s with
  | zero => exact hs
  | succ n ih =>
    unfold serveWaits
    split
    · exact hs
    · exact fr_cond hs (ih (fr_serveAccess (sub_trans rfl hμ) _ _ (fr_modPort (sub_trans rfl hμ) _ _ hs)))

def kf_serveFlushes : Nat := 0x180000064
theorem fr_serveFlushes {μ : Nat} (hμ : sub kf_serveFlushes μ = true) (p : Port) {r₀ s : State} (hs : Keeps μ r₀ s) : Keeps μ r₀
        (serveFlushes p s) := by
  unfold serveFlushes
  simp (maxDischargeDepth := 40) +contextual only [hs, fr_ite, ite_self, implies_true, fr_modPort (sub_trans rfl hμ), fr_emit (sub_trans rfl
        hμ), fr_raiseIf (sub_trans rfl hμ), fr_foldl]

def kf_resumePort : Nat := 0x3877ECEE4
theorem fr_resumePort {μ : Nat} (hμ : sub kf_resumePort μ = true) (p : Port) {r₀ s : State} (hs : Keeps μ r₀ s) : Keeps μ r₀ (resumePort p
        s) := by
  unfold resumePort
  simp (maxDischargeDepth := 40) +contextual only [hs, fr_ite, ite_self, implies_true, fr_drainTo (sub_trans rfl hμ), fr_serveFlushes
        (sub_trans rfl hμ), fr_serveWaits (sub_trans rfl hμ)]

def kf_triggerDrain : Nat := 0x3877ECEE4
theorem fr_triggerDrain {μ : Nat} (hμ : sub kf_triggerDrain μ = true) (p : Port) {r₀ s : State} (hs : Keeps μ r₀ s) : Keeps μ r₀
        (triggerDrain p s) := by
  unfold triggerDrain
  simp (maxDischargeDepth := 40) +contextual only [hs, fr_ite, ite_self, implies_true, fr_drainPort (sub_trans rfl hμ), fr_resumePort
        (sub_trans rfl hμ)]

def kf_accessWindow : Nat := 0x3877ECEF4
theorem fr_accessWindow {μ : Nat} (hμ : sub kf_accessWindow μ = true) (p : Port) (tag dpa code : Nat) (ask : PortAsk) {r₀ s : State} (hs :
        Keeps μ r₀ s) : Keeps μ r₀ (accessWindow p tag dpa code ask s) := by
  unfold accessWindow
  simp (maxDischargeDepth := 40) +contextual only [hs, fr_ite, ite_self, implies_true, fr_modPort (sub_trans rfl hμ), fr_countWindow
        (sub_trans rfl hμ), fr_takeSeq (sub_trans rfl hμ), fr_triggerDrain (sub_trans rfl hμ)]

def kf_windowRead : Nat := 0x3877ECEF4
theorem fr_windowRead {μ : Nat} (hμ : sub kf_windowRead μ = true) (p : Port) (tag dpa : Nat) {r₀ s : State} (hs : Keeps μ r₀ s) : Keeps μ r₀
        (windowRead p tag dpa s) := by
  unfold windowRead
  simp (maxDischargeDepth := 40) +contextual only [hs, fr_ite, ite_self, implies_true, fr_accessWindow (sub_trans rfl hμ)]

def kf_windowWrite : Nat := 0x3877ECEF4
theorem fr_windowWrite {μ : Nat} (hμ : sub kf_windowWrite μ = true) (p : Port) (tag dpa : Nat) (be : ByteEnables) (d : Line) (poison : Bool)
        {r₀ s : State} (hs : Keeps μ r₀ s) : Keeps μ r₀ (windowWrite p tag dpa be d poison s) := by
  unfold windowWrite
  simp (maxDischargeDepth := 40) +contextual only [hs, fr_ite, ite_self, implies_true, fr_accessWindow (sub_trans rfl hμ), fr_countWrite
        (sub_trans rfl hμ), fr_useCredit (sub_trans rfl hμ)]

def kf_groupCommandWrite : Nat := 0x3877ECEF4
theorem fr_groupCommandWrite {μ : Nat} (hμ : sub kf_groupCommandWrite μ = true) (p : Port) (tag g code : Nat) (a b : Option Word) {r₀ s : State}
        (hs : Keeps μ r₀ s) : Keeps μ r₀ (groupCommandWrite p tag g code a b s) := by
  unfold groupCommandWrite
  simp (maxDischargeDepth := 40) +contextual only [hs, fr_ite, ite_self, implies_true, fr_windowWrite (sub_trans rfl hμ)]

def kf_raiseReady : Nat := 0x180000064
theorem fr_raiseReady {μ : Nat} (hμ : sub kf_raiseReady μ = true) (p : Port) {r₀ s : State} (hs : Keeps μ r₀ s) : Keeps μ r₀ (raiseReady p
        s) := by
  unfold raiseReady
  simp (maxDischargeDepth := 40) +contextual only [hs, fr_ite, ite_self, implies_true, fr_modPort (sub_trans rfl hμ), fr_put (sub_trans rfl
        hμ), fr_raise (sub_trans rfl hμ)]

def kf_dropReady : Nat := 0x60
theorem fr_dropReady {μ : Nat} (hμ : sub kf_dropReady μ = true) (p : Port) {r₀ s : State} (hs : Keeps μ r₀ s) : Keeps μ r₀ (dropReady p s)
        := by
  unfold dropReady
  simp (maxDischargeDepth := 40) +contextual only [hs, fr_ite, ite_self, implies_true, fr_modPort (sub_trans rfl hμ), fr_put (sub_trans rfl
        hμ)]

def kf_forgetRequests : Nat := 0x240E0
theorem fr_forgetRequests {μ : Nat} (hμ : sub kf_forgetRequests μ = true) (p : Port) {r₀ s : State} (hs : Keeps μ r₀ s) : Keeps μ r₀
        (forgetRequests p s) := by
  have b7 : μ.testBit 7 = true := sub_bit hμ rfl
  unfold forgetRequests
  simp (maxDischargeDepth := 40) +contextual only [hs, fr_ite, ite_self, implies_true, b7, upd_staging, fr_modPort (sub_trans rfl hμ),
        fr_setGroup (sub_trans rfl hμ), fr_dropRead (sub_trans rfl hμ), fr_foldl]

def kf_dropLink : Nat := 0x1800240E4
theorem fr_dropLink {μ : Nat} (hμ : sub kf_dropLink μ = true) (p : Port) {r₀ s : State} (hs : Keeps μ r₀ s) : Keeps μ r₀ (dropLink p s) :=
        by
  unfold dropLink
  simp (maxDischargeDepth := 40) +contextual only [hs, fr_ite, ite_self, implies_true, fr_modPort (sub_trans rfl hμ), fr_put (sub_trans rfl
        hμ), fr_endPortSessions (sub_trans rfl hμ), fr_forgetRequests (sub_trans rfl hμ), fr_raiseIf (sub_trans rfl hμ)]

def kf_closeDrained : Nat := 0x1800240E4
theorem fr_closeDrained {μ : Nat} (hμ : sub kf_closeDrained μ = true) (p : Port) {r₀ s : State} (hs : Keeps μ r₀ s) : Keeps μ r₀
        (closeDrained p s) := by
  unfold closeDrained
  simp (maxDischargeDepth := 40) +contextual only [hs, fr_ite, ite_self, implies_true, fr_dropLink (sub_trans rfl hμ)]

def kf_goOn : Nat := 0x3877ECEE4
theorem fr_goOn {μ : Nat} (hμ : sub kf_goOn μ = true) (p : Port) {r₀ s : State} (hs : Keeps μ r₀ s) : Keeps μ r₀ (goOn p s) := by
  unfold goOn
  simp (maxDischargeDepth := 40) +contextual only [hs, fr_ite, ite_self, implies_true, fr_closeDrained (sub_trans rfl hμ), fr_resumePort
        (sub_trans rfl hμ)]

def kf_portException : Nat := 0x3877ECEE4
theorem fr_portException {μ : Nat} (hμ : sub kf_portException μ = true) (p : Port) (cause : Nat) {r₀ s : State} (hs : Keeps μ r₀ s) : Keeps
        μ r₀ (portException p cause s) := by
  unfold portException
  simp (maxDischargeDepth := 40) +contextual only [hs, fr_ite, ite_self, implies_true, fr_bump (sub_trans rfl hμ), fr_put (sub_trans rfl hμ),
        fr_loseAll (sub_trans rfl hμ), fr_raise (sub_trans rfl hμ), fr_triggerDrain (sub_trans rfl hμ)]

def kf_bothExceptions : Nat := 0x3877ECEE4
theorem fr_bothExceptions {μ : Nat} (hμ : sub kf_bothExceptions μ = true) (cause : Nat) {r₀ s : State} (hs : Keeps μ r₀ s) : Keeps μ r₀
        (bothExceptions cause s) := by
  unfold bothExceptions
  simp (maxDischargeDepth := 40) +contextual only [hs, fr_ite, ite_self, implies_true, fr_portException (sub_trans rfl hμ)]

def kf_haltChannel : Nat := 0x380000064
theorem fr_haltChannel {μ : Nat} (hμ : sub kf_haltChannel μ = true) (k cause dpa direction : Nat) {r₀ s : State} (hs : Keeps μ r₀ s) : Keeps
        μ r₀ (haltChannel k cause dpa direction s) := by
  unfold haltChannel
  simp (maxDischargeDepth := 40) +contextual only [hs, fr_ite, ite_self, implies_true, fr_bump (sub_trans rfl hμ), fr_setChannel (sub_trans
        rfl hμ), fr_raise (sub_trans rfl hμ)]

def kf_haltDma : Nat := 0x380000064
theorem fr_haltDma {μ : Nat} (hμ : sub kf_haltDma μ = true) (failed : Option Nat) {r₀ s : State} (hs : Keeps μ r₀ s) : Keeps μ r₀ (haltDma
        failed s) := by
  unfold haltDma
  simp (maxDischargeDepth := 40) +contextual only [hs, fr_ite, ite_self, implies_true, fr_drawn (sub_trans rfl hμ), fr_haltChannel (sub_trans
        rfl hμ), fr_foldl]

def kf_recordFailure : Nat := 0x184000064
theorem fr_recordFailure {μ : Nat} (hμ : sub kf_recordFailure μ = true) (obj : FailedObject) {r₀ s : State} (hs : Keeps μ r₀ s) : Keeps μ r₀
        (recordFailure obj s) := by
  have b26 : μ.testBit 26 = true := sub_bit hμ rfl
  unfold recordFailure
  simp (maxDischargeDepth := 40) +contextual only [hs, fr_ite, ite_self, implies_true, b26, upd_integ, fr_bump (sub_trans rfl hμ), fr_put
        (sub_trans rfl hμ), fr_raise (sub_trans rfl hμ), fr_takeStamp (sub_trans rfl hμ)]

def kf_silence : Nat := 0x60
theorem fr_silence {μ : Nat} (hμ : sub kf_silence μ = true) {r₀ s : State} (hs : Keeps μ r₀ s) : Keeps μ r₀ (silence s) := by
  unfold silence
  simp (maxDischargeDepth := 40) +contextual only [hs, fr_ite, ite_self, implies_true, fr_modPort (sub_trans rfl hμ)]

def kf_setAsideNamed : Nat := 0x4060
theorem fr_setAsideNamed {μ : Nat} (hμ : sub kf_setAsideNamed μ = true) {r₀ s : State} (hs : Keeps μ r₀ s) : Keeps μ r₀ (setAsideNamed s) :=
        by
  have b14 : μ.testBit 14 = true := sub_bit hμ rfl
  unfold setAsideNamed
  simp (maxDischargeDepth := 40) +contextual only [hs, fr_ite, ite_self, implies_true, b14, upd_reads, fr_modPort (sub_trans rfl hμ)]

def kf_settleAll : Nat := 0x387020EE4
theorem fr_settleAll {μ : Nat} (hμ : sub kf_settleAll μ = true) {r₀ s : State} (hs : Keeps μ r₀ s) : Keeps μ r₀ (settleAll s) := by
  unfold settleAll
  simp (maxDischargeDepth := 40) +contextual only [hs, fr_ite, ite_self, implies_true, fr_settle (sub_trans rfl hμ), fr_foldl]

def kf_finishLoop : Nat := 0x3877ECEE4
theorem fr_finishLoop {μ : Nat} (hμ : sub kf_finishLoop μ = true) {r₀ : State} (n : Nat) {s : State} (hs : Keeps μ r₀ s) : Keeps μ r₀ (finishLoop n s) := by
  induction n generalizing s with
  | zero => exact hs
  | succ n ih => exact fr_cond (ih (fr_triggerDrain (sub_trans rfl hμ) _ (fr_triggerDrain (sub_trans rfl hμ) _ (fr_settleAll (sub_trans rfl hμ) (fr_programAll (sub_trans rfl hμ) hs))))) hs

def kf_finishAccepted : Nat := 0x3877ECEE4
theorem fr_finishAccepted {μ : Nat} (hμ : sub kf_finishAccepted μ = true) {r₀ s : State} (hs : Keeps μ r₀ s) : Keeps μ r₀ (finishAccepted s)
        := by
  unfold finishAccepted
  simp (maxDischargeDepth := 40) +contextual only [hs, fr_ite, ite_self, implies_true, fr_finishLoop (sub_trans rfl hμ), fr_foldl]

def kf_stopDozeEntry : Nat := 0xA0000060
theorem fr_stopDozeEntry {μ : Nat} (hμ : sub kf_stopDozeEntry μ = true) {r₀ s : State} (hs : Keeps μ r₀ s) : Keeps μ r₀ (stopDozeEntry s) :=
        by
  have b29 : μ.testBit 29 = true := sub_bit hμ rfl
  unfold stopDozeEntry
  (try simp (maxDischargeDepth := 40) +contextual only [hs, fr_ite, ite_self, implies_true, b29, upd_modes, fr_modPort (sub_trans rfl hμ),
        fr_endAction (sub_trans rfl hμ)])
  repeat' split
  all_goals first
    | (with_reducible exact hs)
    | (simp (maxDischargeDepth := 40) +contextual only [hs, fr_ite, ite_self, implies_true, b29, upd_modes, fr_modPort (sub_trans rfl hμ),
        fr_endAction (sub_trans rfl hμ)]; done)

def kf_haltNow : Nat := 0x3A77FCEE4
theorem fr_haltNow {μ : Nat} (hμ : sub kf_haltNow μ = true) (failed : Option Nat) {r₀ s : State} (hs : Keeps μ r₀ s) : Keeps μ r₀ (haltNow
        failed s) := by
  have b14 : μ.testBit 14 = true := sub_bit hμ rfl
  have b16 : μ.testBit 16 = true := sub_bit hμ rfl
  unfold haltNow
  simp (maxDischargeDepth := 40) +contextual only [hs, fr_ite, ite_self, implies_true, b14, b16, upd_reads_retries, fr_put (sub_trans rfl hμ),
        fr_bothExceptions (sub_trans rfl hμ), fr_dropReady (sub_trans rfl hμ), fr_finishAccepted (sub_trans rfl hμ), fr_forgetRequests
        (sub_trans rfl hμ), fr_haltDma (sub_trans rfl hμ), fr_setAsideNamed (sub_trans rfl hμ), fr_setMode (sub_trans rfl hμ), fr_settleAll
        (sub_trans rfl hμ), fr_silence (sub_trans rfl hμ), fr_stopDozeEntry (sub_trans rfl hμ)]

def kf_failCheck : Nat := 0x3A77FCEE4
theorem fr_failCheck {μ : Nat} (hμ : sub kf_failCheck μ = true) (obj : FailedObject) {r₀ s : State} (hs : Keeps μ r₀ s) : Keeps μ r₀
        (failCheck obj s) := by
  unfold failCheck
  simp (maxDischargeDepth := 40) +contextual only [hs, fr_ite, ite_self, implies_true, fr_haltNow (sub_trans rfl hμ), fr_recordFailure
        (sub_trans rfl hμ), fr_setAsideNamed (sub_trans rfl hμ)]

def kf_noteDelays : Nat := 0x182000064
theorem fr_noteDelays {μ : Nat} (hμ : sub kf_noteDelays μ = true) (j : Job) (causes : List Nat) {r₀ s : State} (hs : Keeps μ r₀ s) : Keeps μ
        r₀ (noteDelays j causes s) := by
  have b25 : μ.testBit 25 = true := sub_bit hμ rfl
  unfold noteDelays
  simp (maxDischargeDepth := 40) +contextual only [hs, fr_ite, ite_self, implies_true, b25, upd_med, fr_bump (sub_trans rfl hμ), fr_raiseIf
        (sub_trans rfl hμ), fr_foldl]

def kf_dispatch : Nat := 0x2000004
theorem fr_dispatch {μ : Nat} (hμ : sub kf_dispatch μ = true) (j : Job) {r₀ s : State} (hs : Keeps μ r₀ s) : Keeps μ r₀ (dispatch j s) := by
  have b25 : μ.testBit 25 = true := sub_bit hμ rfl
  unfold dispatch
  simp (maxDischargeDepth := 40) +contextual only [hs, fr_ite, ite_self, implies_true, b25, upd_med, fr_raiseTo (sub_trans rfl hμ),
        fr_takeStamp (sub_trans rfl hμ)]

def kf_grantChunk : Nat := 0x382000064
theorem fr_grantChunk {μ : Nat} (hμ : sub kf_grantChunk μ = true) (t : Transfer) {r₀ s : State} (hs : Keeps μ r₀ s) : Keeps μ r₀ (grantChunk
        t s) := by
  have b25 : μ.testBit 25 = true := sub_bit hμ rfl
  unfold grantChunk
  simp (maxDischargeDepth := 40) +contextual only [hs, fr_ite, ite_self, implies_true, b25, upd_med, fr_addTo (sub_trans rfl hμ), fr_count1
        (sub_trans rfl hμ)]

def kf_bankProgrammed : Nat := 0x2000004
theorem fr_bankProgrammed {μ : Nat} (hμ : sub kf_bankProgrammed μ = true) (die : Nat) {r₀ s : State} (hs : Keeps μ r₀ s) : Keeps μ r₀
        (bankProgrammed die s) := by
  have b25 : μ.testBit 25 = true := sub_bit hμ rfl
  unfold bankProgrammed
  simp (maxDischargeDepth := 40) +contextual only [hs, fr_ite, ite_self, implies_true, b25, upd_med, fr_takeStamp (sub_trans rfl hμ),
        fr_foldl]

def kf_memberProgrammed : Nat := 0x382000064
theorem fr_memberProgrammed {μ : Nat} (hμ : sub kf_memberProgrammed μ = true) (p : StripePage) (x : ProgramStart) {r₀ s : State} (hs : Keeps
        μ r₀ s) : Keeps μ r₀ (memberProgrammed p x s) := by
  have b25 : μ.testBit 25 = true := sub_bit hμ rfl
  unfold memberProgrammed
  simp (maxDischargeDepth := 40) +contextual only [hs, fr_ite, ite_self, implies_true, b25, upd_med, fr_setStripe (sub_trans rfl hμ),
        fr_pageProgrammed (sub_trans rfl hμ)]

def kf_opSucceeded : Nat := 0x387000064
theorem fr_opSucceeded {μ : Nat} (hμ : sub kf_opSucceeded μ = true) (o : Op) {r₀ s : State} (hs : Keeps μ r₀ s) : Keeps μ r₀ (opSucceeded o
        s) := by
  unfold opSucceeded
  (try simp (maxDischargeDepth := 40) +contextual only [hs, fr_ite, ite_self, implies_true, fr_bankProgrammed (sub_trans rfl hμ),
        fr_finishReset (sub_trans rfl hμ), fr_memberProgrammed (sub_trans rfl hμ), fr_rowStarted (sub_trans rfl hμ), fr_sectorProgrammed
        (sub_trans rfl hμ), fr_unitReset (sub_trans rfl hμ)])
  repeat' split
  all_goals first
    | (with_reducible exact hs)
    | (simp (maxDischargeDepth := 40) +contextual only [hs, fr_ite, ite_self, implies_true, fr_bankProgrammed (sub_trans rfl hμ), fr_finishReset
        (sub_trans rfl hμ), fr_memberProgrammed (sub_trans rfl hμ), fr_rowStarted (sub_trans rfl hμ), fr_sectorProgrammed (sub_trans rfl
        hμ), fr_unitReset (sub_trans rfl hμ)]; done)

def kf_opFailed : Nat := 0x387000064
theorem fr_opFailed {μ : Nat} (hμ : sub kf_opFailed μ = true) (o : Op) {r₀ s : State} (hs : Keeps μ r₀ s) : Keeps μ r₀ (opFailed o s) := by
  have b25 : μ.testBit 25 = true := sub_bit hμ rfl
  unfold opFailed
  (try simp (maxDischargeDepth := 40) +contextual only [hs, fr_ite, ite_self, implies_true, b25, upd_med, fr_bump (sub_trans rfl hμ),
        fr_finishReset (sub_trans rfl hμ), fr_lastingFault (sub_trans rfl hμ), fr_raise (sub_trans rfl hμ)])
  repeat' split
  all_goals first
    | (with_reducible exact hs)
    | (simp (maxDischargeDepth := 40) +contextual only [hs, fr_ite, ite_self, implies_true, b25, upd_med, fr_bump (sub_trans rfl hμ),
        fr_finishReset (sub_trans rfl hμ), fr_lastingFault (sub_trans rfl hμ), fr_raise (sub_trans rfl hμ)]; done)

def kf_completePage : Nat := 0x2000000
theorem fr_completePage {μ : Nat} (hμ : sub kf_completePage μ = true) (p : StripePage) {r₀ s : State} (hs : Keeps μ r₀ s) : Keeps μ r₀
        (completePage p s) := by
  have b25 : μ.testBit 25 = true := sub_bit hμ rfl
  unfold completePage
  simp (maxDischargeDepth := 40) +contextual only [hs, fr_ite, ite_self, implies_true, b25, upd_med, fr_addTo (sub_trans rfl hμ), fr_foldl]

def kf_allocate : Nat := 0x387000064
theorem fr_allocate {μ : Nat} (hμ : sub kf_allocate μ = true) (cause stripe : Nat) {r₀ s : State} (hs : Keeps μ r₀ s) : Keeps μ r₀ (allocate
        cause stripe s) := by
  unfold allocate
  simp (maxDischargeDepth := 40) +contextual only [hs, fr_ite, ite_self, implies_true, fr_setStripe (sub_trans rfl hμ), fr_notePool (sub_trans
        rfl hμ), fr_orderReset (sub_trans rfl hμ), fr_setUnitState (sub_trans rfl hμ), fr_foldl]

def kf_destination : Nat := 0x387000064
theorem fr_destination {μ : Nat} (hμ : sub kf_destination μ = true) {r₀ : State} (cause floor : Nat) {s : State} (hs : Keeps μ r₀ s) : Keeps μ r₀ (destination cause floor s).2 := by
  unfold destination
  split
  · exact hs
  · split
    · exact hs
    · exact fr_allocate (sub_trans rfl hμ) _ _ hs

def kf_takePage : Nat := 0x2000000
theorem fr_takePage {μ : Nat} (hμ : sub kf_takePage μ = true) {r₀ : State} (stripe cause writer : Nat) (moves : List PageMove) {s : State} (hs : Keeps μ r₀ s) :
    Keeps μ r₀ (takePage stripe cause writer moves s).2 := by
  have h (r : StripeRec) : Keeps μ r₀ (s.setStripe stripe r) := fr_setStripe (sub_trans rfl hμ) stripe r hs
  unfold takePage
  exact upd_med (sub_bit hμ rfl) (h _) _

def kf_queuePage : Nat := 0x2000000
theorem fr_queuePage {μ : Nat} (hμ : sub kf_queuePage μ = true) (p : StripePage) {r₀ s : State} (hs : Keeps μ r₀ s) : Keeps μ r₀ (queuePage
        p s) := by
  have b25 : μ.testBit 25 = true := sub_bit hμ rfl
  unfold queuePage
  simp (maxDischargeDepth := 40) +contextual only [hs, fr_ite, ite_self, implies_true, b25, upd_med]

def kf_dropFolded : Nat := 0x1000000
theorem fr_dropFolded {μ : Nat} (hμ : sub kf_dropFolded μ = true) (line stamp : Nat) {r₀ s : State} (hs : Keeps μ r₀ s) : Keeps μ r₀
        (dropFolded line stamp s) := by
  have b24 : μ.testBit 24 = true := sub_bit hμ rfl
  unfold dropFolded
  simp (maxDischargeDepth := 40) +contextual only [hs, fr_ite, ite_self, implies_true, b24, upd_xlat]

def kf_writeTableImage : Nat := 0x387000064
theorem fr_writeTableImage {μ : Nat} (hμ : sub kf_writeTableImage μ = true) {r₀ s : State} (hs : Keeps μ r₀ s) : Keeps μ r₀ (writeTableImage
        s) := by
  have b26 : μ.testBit 26 = true := sub_bit hμ rfl
  unfold writeTableImage
  simp (maxDischargeDepth := 40) +contextual only [hs, fr_ite, ite_self, implies_true, b26, upd_integ, fr_checkpointSectors (sub_trans rfl
        hμ), fr_putEntry (sub_trans rfl hμ), fr_takeStamp (sub_trans rfl hμ)]

def kf_applyMove : Nat := 0x387000064
theorem fr_applyMove {μ : Nat} (hμ : sub kf_applyMove μ = true) (cause : Nat) (m : PageMove) {r₀ s : State} (hs : Keeps μ r₀ s) : Keeps μ r₀
        (applyMove cause m s) := by
  have b24 : μ.testBit 24 = true := sub_bit hμ rfl
  have b26 : μ.testBit 26 = true := sub_bit hμ rfl
  unfold applyMove
  simp (maxDischargeDepth := 40) +contextual only [hs, fr_ite, ite_self, implies_true, b24, b26, upd_integ, upd_xlat, fr_bump (sub_trans rfl
        hμ), fr_dirtySegment (sub_trans rfl hμ), fr_dropFolded (sub_trans rfl hμ), fr_journalPut (sub_trans rfl hμ), fr_writeTableImage
        (sub_trans rfl hμ), fr_foldl]

def kf_applyPage : Nat := 0x387000064
theorem fr_applyPage {μ : Nat} (hμ : sub kf_applyPage μ = true) (p : StripePage) {r₀ s : State} (hs : Keeps μ r₀ s) : Keeps μ r₀ (applyPage
        p s) := by
  have b25 : μ.testBit 25 = true := sub_bit hμ rfl
  unfold applyPage
  simp (maxDischargeDepth := 40) +contextual only [hs, fr_ite, ite_self, implies_true, b25, upd_med, fr_applyMove (sub_trans rfl hμ),
        fr_checkLogFull (sub_trans rfl hμ), fr_foldl]

def kf_readMoves : Nat := 0x380000064
theorem fr_readMoves {μ : Nat} (hμ : sub kf_readMoves μ = true) {r₀ : State} (moves : List PageMove) {s : State} (hs : Keeps μ r₀ s) : Keeps μ r₀ (readMoves moves s) := by
  refine fr_foldl (fun t m ht => fr_cond ht ?_) _ hs
  refine fr_foldl (fun u e hu => ?_) _ (fr_cond ht (fr_cond (fr_reconstructions (sub_trans rfl hμ) _ _ ht) (fr_agentReads (sub_trans rfl hμ) _ _ _ ht)))
  split
  · exact fr_agentReads (sub_trans rfl hμ) _ _ _ hu
  · exact hu

def kf_programMembers : Nat := 0x382000064
theorem fr_programMembers {μ : Nat} (hμ : sub kf_programMembers μ = true) (p : StripePage) (channels : List Nat) {r₀ s : State} (hs : Keeps
        μ r₀ s) : Keeps μ r₀ (programMembers p channels s) := by
  unfold programMembers
  simp (maxDischargeDepth := 40) +contextual only [hs, fr_ite, ite_self, implies_true, fr_memberProgrammed (sub_trans rfl hμ), fr_programsRun
        (sub_trans rfl hμ), fr_takeStamp (sub_trans rfl hμ), fr_foldl]

def kf_landPage : Nat := 0x382000064
theorem fr_landPage {μ : Nat} (hμ : sub kf_landPage μ = true) (p : StripePage) {r₀ s : State} (hs : Keeps μ r₀ s) : Keeps μ r₀ (landPage p
        s) := by
  have b25 : μ.testBit 25 = true := sub_bit hμ rfl
  unfold landPage
  simp (maxDischargeDepth := 40) +contextual only [hs, fr_ite, ite_self, implies_true, b25, upd_med, fr_completePage (sub_trans rfl hμ),
        fr_endOverruns (sub_trans rfl hμ), fr_memberProgrammed (sub_trans rfl hμ), fr_programMembers (sub_trans rfl hμ), fr_foldl]

def kf_programPage : Nat := 0x387000064
theorem fr_programPage {μ : Nat} (hμ : sub kf_programPage μ = true) (p : StripePage) {r₀ s : State} (hs : Keeps μ r₀ s) : Keeps μ r₀
        (programPage p s) := by
  unfold programPage
  simp (maxDischargeDepth := 40) +contextual only [hs, fr_ite, ite_self, implies_true, fr_applyPage (sub_trans rfl hμ), fr_completePage
        (sub_trans rfl hμ), fr_landPage (sub_trans rfl hμ), fr_programMembers (sub_trans rfl hμ), fr_foldl]

def kf_writeMoves : Nat := 0x387000064
theorem fr_writeMoves {μ : Nat} (hμ : sub kf_writeMoves μ = true) {r₀ : State} (n : Nat) (now : Bool) (cause writer : Nat) (relax : Bool) (moves : List PageMove) {s : State} (hs : Keeps μ r₀ s) :
    Keeps μ r₀ (writeMoves n now cause writer relax moves s) := by
  have hp1 (d : Nat) (l : List PageMove) {t : State} (ht : Keeps μ r₀ t) :
      Keeps μ r₀ (programPage (takePage d cause writer l (readMoves l t)).1 (takePage d cause writer l (readMoves l t)).2) :=
    fr_programPage (sub_trans rfl hμ) _ (fr_takePage (sub_trans rfl hμ) d cause writer l (fr_readMoves (sub_trans rfl hμ) l ht))
  have hp2 (d : Nat) (l : List PageMove) {t : State} (ht : Keeps μ r₀ t) :
      Keeps μ r₀ (queuePage (takePage d cause writer l (readMoves l t)).1 (takePage d cause writer l (readMoves l t)).2) :=
    fr_queuePage (sub_trans rfl hμ) _ (fr_takePage (sub_trans rfl hμ) d cause writer l (fr_readMoves (sub_trans rfl hμ) l ht))
  have b : μ.testBit 25 = true := sub_bit hμ rfl
  induction n generalizing moves s with
  | zero => exact hs
  | succ n ih =>
    unfold writeMoves
    cases moves with
    | nil => exact hs
    | cons m rest =>
      simp only
      have h1 := fr_destination (sub_trans rfl hμ) cause (s.floorOf m.page) hs
      generalize hx : destination cause (s.floorOf m.page) s = x at h1 ⊢
      obtain ⟨dest, t⟩ := x
      cases dest with
      | some d =>
        refine ih _ ?_
        simp only [fr_ite, hp1 _ _ h1, hp2 _ _ h1, upd_med b, ite_self]
      | none =>
        by_cases hc : (relax && (t.pickStripe true (s.floorOf m.page)).isNone && !t.allocating) = true
        · have h2 := fr_destination (sub_trans rfl hμ) cause 2 h1
          simp only [hc, if_true]
          simp only at h2
          generalize hy : destination cause 2 t = y at h2 ⊢
          obtain ⟨dest', u⟩ := y
          cases dest' with
          | none => exact h2
          | some d =>
            refine ih _ ?_
            simp only [fr_ite, hp1 _ _ h2, hp2 _ _ h2, upd_med b, ite_self]
        · simp only [hc]
          exact h1

def kf_collectRebuilds : Nat := 0x1000000
theorem fr_collectRebuilds {μ : Nat} (hμ : sub kf_collectRebuilds μ = true) (stripe : Nat) {r₀ s : State} (hs : Keeps μ r₀ s) : Keeps μ r₀
        (collectRebuilds stripe s) := by
  unfold collectRebuilds
  simp (maxDischargeDepth := 40) +contextual only [hs, fr_ite, ite_self, implies_true, fr_startRebuild (sub_trans rfl hμ), fr_foldl]

def kf_evacuate : Nat := 0x387000064
theorem fr_evacuate {μ : Nat} (hμ : sub kf_evacuate μ = true) (stripe cause writer : Nat) {r₀ s : State} (hs : Keeps μ r₀ s) : Keeps μ r₀
        (evacuate stripe cause writer s) := by
  unfold evacuate
  simp (maxDischargeDepth := 40) +contextual only [hs, fr_ite, ite_self, implies_true, fr_writeMoves (sub_trans rfl hμ)]

def kf_clearStripe : Nat := 0x387000064
theorem fr_clearStripe {μ : Nat} (hμ : sub kf_clearStripe μ = true) (stripe : Nat) {r₀ s : State} (hs : Keeps μ r₀ s) : Keeps μ r₀
        (clearStripe stripe s) := by
  unfold clearStripe
  simp (maxDischargeDepth := 40) +contextual only [hs, fr_ite, ite_self, implies_true, fr_orderReset (sub_trans rfl hμ), fr_programTail
        (sub_trans rfl hμ), fr_writeTableImage (sub_trans rfl hμ)]

def kf_countCollected : Nat := 0x380000064
theorem fr_countCollected {μ : Nat} (hμ : sub kf_countCollected μ = true) (cause stripe : Nat) {r₀ s : State} (hs : Keeps μ r₀ s) : Keeps μ
        r₀ (countCollected cause stripe s) := by
  unfold countCollected
  simp (maxDischargeDepth := 40) +contextual only [hs, fr_ite, ite_self, implies_true, fr_bump (sub_trans rfl hμ), fr_count1 (sub_trans rfl
        hμ)]

def kf_collect : Nat := 0x387000064
theorem fr_collect {μ : Nat} (hμ : sub kf_collect μ = true) (stripe cause writer : Nat) {r₀ s : State} (hs : Keeps μ r₀ s) : Keeps μ r₀
        (collect stripe cause writer s) := by
  unfold collect
  simp (maxDischargeDepth := 40) +contextual only [hs, fr_ite, ite_self, implies_true, fr_setStripe (sub_trans rfl hμ), fr_clearStripe
        (sub_trans rfl hμ), fr_collectRebuilds (sub_trans rfl hμ), fr_countCollected (sub_trans rfl hμ), fr_evacuate (sub_trans rfl hμ)]

def kf_clearEmptied : Nat := 0x387000064
theorem fr_clearEmptied {μ : Nat} (hμ : sub kf_clearEmptied μ = true) (cause stripe : Nat) {r₀ s : State} (hs : Keeps μ r₀ s) : Keeps μ r₀
        (clearEmptied cause stripe s) := by
  unfold clearEmptied
  simp (maxDischargeDepth := 40) +contextual only [hs, fr_ite, ite_self, implies_true, fr_clearStripe (sub_trans rfl hμ), fr_countCollected
        (sub_trans rfl hμ)]

def kf_finishMoves : Nat := 0x387000064
theorem fr_finishMoves {μ : Nat} (hμ : sub kf_finishMoves μ = true) (p : StripePage) {r₀ s : State} (hs : Keeps μ r₀ s) : Keeps μ r₀
        (finishMoves p s) := by
  unfold finishMoves
  simp (maxDischargeDepth := 40) +contextual only [hs, fr_ite, ite_self, implies_true, fr_applyPage (sub_trans rfl hμ), fr_clearEmptied
        (sub_trans rfl hμ), fr_programTail (sub_trans rfl hμ), fr_foldl]

def kf_saveErrors : Nat := 0x8000000
theorem fr_saveErrors {μ : Nat} (hμ : sub kf_saveErrors μ = true) {r₀ s : State} (hs : Keeps μ r₀ s) : Keeps μ r₀ (saveErrors s) := by
  have b27 : μ.testBit 27 = true := sub_bit hμ rfl
  unfold saveErrors
  simp (maxDischargeDepth := 40) +contextual only [hs, fr_ite, ite_self, implies_true, b27, upd_stored]

def kf_tableError : Nat := 0x188000064
theorem fr_tableError {μ : Nat} (hμ : sub kf_tableError μ = true) (mem : MemKind) (address : Nat) (uncorrectable : Bool) {r₀ s : State} (hs
        : Keeps μ r₀ s) : Keeps μ r₀ (tableError mem address uncorrectable s) := by
  have b27 : μ.testBit 27 = true := sub_bit hμ rfl
  unfold tableError
  (try simp (maxDischargeDepth := 40) +contextual only [hs, fr_ite, ite_self, implies_true, b27, upd_stored, fr_bump (sub_trans rfl hμ),
        fr_raise (sub_trans rfl hμ), fr_saveErrors (sub_trans rfl hμ)])
  repeat' split
  all_goals first
    | (with_reducible exact hs)
    | (simp (maxDischargeDepth := 40) +contextual only [hs, fr_ite, ite_self, implies_true, b27, upd_stored, fr_bump (sub_trans rfl hμ), fr_raise
        (sub_trans rfl hμ), fr_saveErrors (sub_trans rfl hμ)]; done)

def kf_queueTest : Nat := 0x8000000
theorem fr_queueTest {μ : Nat} (hμ : sub kf_queueTest μ = true) (mem : MemKind) (address : Nat) {r₀ s : State} (hs : Keeps μ r₀ s) : Keeps μ
        r₀ (queueTest mem address s) := by
  have b27 : μ.testBit 27 = true := sub_bit hμ rfl
  unfold queueTest
  (try simp (maxDischargeDepth := 40) +contextual only [hs, fr_ite, ite_self, implies_true, b27, upd_stored])
  repeat' split
  all_goals first
    | (with_reducible exact hs)
    | (simp (maxDischargeDepth := 40) +contextual only [hs, fr_ite, ite_self, implies_true, b27, upd_stored]; done)

def kf_detectError : Nat := 0x188000064
theorem fr_detectError {μ : Nat} (hμ : sub kf_detectError μ = true) (mem : MemKind) (address : Nat) (uncorrectable : Bool) {r₀ s : State}
        (hs : Keeps μ r₀ s) : Keeps μ r₀ (detectError mem address uncorrectable s) := by
  unfold detectError
  (try simp (maxDischargeDepth := 40) +contextual only [hs, fr_ite, ite_self, implies_true, fr_bump (sub_trans rfl hμ), fr_queueTest
        (sub_trans rfl hμ), fr_raise (sub_trans rfl hμ), fr_tableError (sub_trans rfl hμ)])
  repeat' split
  all_goals first
    | (with_reducible exact hs)
    | (simp (maxDischargeDepth := 40) +contextual only [hs, fr_ite, ite_self, implies_true, fr_bump (sub_trans rfl hμ), fr_queueTest (sub_trans
        rfl hμ), fr_raise (sub_trans rfl hμ), fr_tableError (sub_trans rfl hμ)]; done)

def kf_setOutcome : Nat := 0x8000000
theorem fr_setOutcome {μ : Nat} (hμ : sub kf_setOutcome μ = true) (mem : MemKind) (address outcome : Nat) {r₀ s : State} (hs : Keeps μ r₀ s)
        : Keeps μ r₀ (setOutcome mem address outcome s) := by
  have b27 : μ.testBit 27 = true := sub_bit hμ rfl
  unfold setOutcome
  simp (maxDischargeDepth := 40) +contextual only [hs, fr_ite, ite_self, implies_true, b27, upd_stored, fr_saveErrors (sub_trans rfl hμ)]

def kf_noteTransient : Nat := 0x8000000
theorem fr_noteTransient {μ : Nat} (hμ : sub kf_noteTransient μ = true) (mem : MemKind) (address : Nat) {r₀ s : State} (hs : Keeps μ r₀ s) :
        Keeps μ r₀ (noteTransient mem address s) := by
  have b27 : μ.testBit 27 = true := sub_bit hμ rfl
  unfold noteTransient
  simp (maxDischargeDepth := 40) +contextual only [hs, fr_ite, ite_self, implies_true, b27, upd_stored]

def kf_foldRebuilds : Nat := 0x1000000
theorem fr_foldRebuilds {μ : Nat} (hμ : sub kf_foldRebuilds μ = true) {r₀ s : State} (hs : Keeps μ r₀ s) : Keeps μ r₀ (foldRebuilds s) := by
  unfold foldRebuilds
  simp (maxDischargeDepth := 40) +contextual only [hs, fr_ite, ite_self, implies_true, fr_startRebuild (sub_trans rfl hμ), fr_foldl]

def kf_dispatchFold : Nat := 0x387000064
theorem fr_dispatchFold {μ : Nat} (hμ : sub kf_dispatchFold μ = true) {r₀ s : State} (hs : Keeps μ r₀ s) : Keeps μ r₀ (dispatchFold s) := by
  unfold dispatchFold
  (try simp (maxDischargeDepth := 40) +contextual only [hs, fr_ite, ite_self, implies_true, fr_destination (sub_trans rfl hμ), fr_foldRebuilds
        (sub_trans rfl hμ), fr_queuePage (sub_trans rfl hμ), fr_readMoves (sub_trans rfl hμ), fr_takePage (sub_trans rfl hμ)])
  repeat' split
  all_goals first
    | (with_reducible exact hs)
    | (simp (maxDischargeDepth := 40) +contextual only [hs, fr_ite, ite_self, implies_true, fr_destination (sub_trans rfl hμ), fr_foldRebuilds
        (sub_trans rfl hμ), fr_queuePage (sub_trans rfl hμ), fr_readMoves (sub_trans rfl hμ), fr_takePage (sub_trans rfl hμ)]; done)

def kf_releaseStripe : Nat := 0x2000000
theorem fr_releaseStripe {μ : Nat} (hμ : sub kf_releaseStripe μ = true) (stripe : Nat) {r₀ s : State} (hs : Keeps μ r₀ s) : Keeps μ r₀
        (releaseStripe stripe s) := by
  unfold releaseStripe
  simp (maxDischargeDepth := 40) +contextual only [hs, fr_ite, ite_self, implies_true, fr_orderReset (sub_trans rfl hμ)]

def kf_moveRing : Nat := 0x387000064
theorem fr_moveRing {μ : Nat} (hμ : sub kf_moveRing μ = true) (r : Ring) (index new : Nat) {r₀ s : State} (hs : Keeps μ r₀ s) : Keeps μ r₀
        (moveRing r index new s) := by
  unfold moveRing
  simp (maxDischargeDepth := 40) +contextual only [hs, fr_ite, ite_self, implies_true, fr_setStripe (sub_trans rfl hμ), fr_journalPut
        (sub_trans rfl hμ), fr_notePool (sub_trans rfl hμ), fr_orderReset (sub_trans rfl hμ), fr_programTail (sub_trans rfl hμ),
        fr_releaseStripe (sub_trans rfl hμ), fr_setUnitState (sub_trans rfl hμ), fr_foldl]

def kf_relocateStripe : Nat := 0x2000000
theorem fr_relocateStripe {μ : Nat} (hμ : sub kf_relocateStripe μ = true) {r₀ : State} (stripe : Nat) {s : State} (hs : Keeps μ r₀ s) : Keeps μ r₀ (relocateStripe stripe s) := by
  refine fr_foldl (fun t d ht => ?_) _ hs
  split
  · exact ht
  · exact fr_cond ht (upd_med (sub_bit hμ rfl) ht _)

def kf_rebuildRing : Nat := 0x387000064
theorem fr_rebuildRing {μ : Nat} (hμ : sub kf_rebuildRing μ = true) (r : Ring) (index : Nat) {r₀ s : State} (hs : Keeps μ r₀ s) : Keeps μ r₀
        (rebuildRing r index s) := by
  unfold rebuildRing
  (try simp (maxDischargeDepth := 40) +contextual only [hs, fr_ite, ite_self, implies_true, fr_moveRing (sub_trans rfl hμ), fr_relocateStripe
        (sub_trans rfl hμ)])
  repeat' split
  all_goals first
    | (with_reducible exact hs)
    | (simp (maxDischargeDepth := 40) +contextual only [hs, fr_ite, ite_self, implies_true, fr_moveRing (sub_trans rfl hμ), fr_relocateStripe
        (sub_trans rfl hμ)]; done)

def kf_rebuildStep : Nat := 0x387000064
theorem fr_rebuildStep {μ : Nat} (hμ : sub kf_rebuildStep μ = true) {r₀ s : State} (hs : Keeps μ r₀ s) : Keeps μ r₀ (rebuildStep s) := by
  unfold rebuildStep
  (try simp (maxDischargeDepth := 40) +contextual only [hs, fr_ite, ite_self, implies_true, fr_collect (sub_trans rfl hμ), fr_rebuildRing
        (sub_trans rfl hμ)])
  repeat' split
  all_goals first
    | (with_reducible exact hs)
    | (simp (maxDischargeDepth := 40) +contextual only [hs, fr_ite, ite_self, implies_true, fr_collect (sub_trans rfl hμ), fr_rebuildRing
        (sub_trans rfl hμ)]; done)

def kf_relieveRing : Nat := 0x387000064
theorem fr_relieveRing {μ : Nat} (hμ : sub kf_relieveRing μ = true) {r₀ s : State} (hs : Keeps μ r₀ s) : Keeps μ r₀ (relieveRing s) := by
  unfold relieveRing
  (try simp (maxDischargeDepth := 40) +contextual only [hs, fr_ite, ite_self, implies_true, fr_rebuildRing (sub_trans rfl hμ)])
  repeat' split
  all_goals first
    | (with_reducible exact hs)
    | (simp (maxDischargeDepth := 40) +contextual only [hs, fr_ite, ite_self, implies_true, fr_rebuildRing (sub_trans rfl hμ)]; done)

def kf_redirect : Nat := 0x387000064
theorem fr_redirect {μ : Nat} (hμ : sub kf_redirect μ = true) (p : StripePage) {r₀ s : State} (hs : Keeps μ r₀ s) : Keeps μ r₀ (redirect p
        s) := by
  have b25 : μ.testBit 25 = true := sub_bit hμ rfl
  unfold redirect
  simp (maxDischargeDepth := 40) +contextual only [hs, fr_ite, ite_self, implies_true, b25, upd_med, fr_writeMoves (sub_trans rfl hμ)]

def kf_failSome : Nat := 0x0
theorem fr_failSome {μ : Nat} (hμ : sub kf_failSome μ = true) {r₀ : State} {α : Type} (fail : α → State → State) (l : List α) {s : State} (hs : Keeps μ r₀ s)
    (h : ∀ a t, Keeps μ r₀ t → Keeps μ r₀ (fail a t)) : Keeps μ r₀ (failSome fail l s) :=
  fr_foldl (fun _ _ ht => fr_cond (fr_drawn (sub_trans rfl hμ) ht) (h _ _ (fr_drawn (sub_trans rfl hμ) ht))) _ hs

def kf_recoverSector : Nat := 0x3AF7FCEE4
theorem fr_recoverSector {μ : Nat} (hμ : sub kf_recoverSector μ = true) (unit page sector : Nat) (recovered : Bool) {r₀ s : State} (hs :
        Keeps μ r₀ s) : Keeps μ r₀ (recoverSector unit page sector recovered s) := by
  unfold recoverSector
  simp (maxDischargeDepth := 40) +contextual only [hs, fr_ite, ite_self, implies_true, fr_bump (sub_trans rfl hμ), fr_detectError (sub_trans
        rfl hμ), fr_failCheck (sub_trans rfl hμ), fr_failSome (sub_trans rfl hμ), fr_raise (sub_trans rfl hμ)]

def kf_wornDest : Nat := 0x387000064
theorem fr_wornDest {μ : Nat} (hμ : sub kf_wornDest μ = true) (free : Nat) {r₀ s : State} (hs : Keeps μ r₀ s) : Keeps μ r₀ (wornDest free s)
        := by
  have b25 : μ.testBit 25 = true := sub_bit hμ rfl
  unfold wornDest
  simp (maxDischargeDepth := 40) +contextual only [hs, fr_ite, ite_self, implies_true, b25, upd_med, fr_allocate (sub_trans rfl hμ)]

def kf_saveCounts : Nat := 0xA000000
theorem fr_saveCounts {μ : Nat} (hμ : sub kf_saveCounts μ = true) {r₀ s : State} (hs : Keeps μ r₀ s) : Keeps μ r₀ (saveCounts s) := by
  have b25 : μ.testBit 25 = true := sub_bit hμ rfl
  unfold saveCounts
  simp (maxDischargeDepth := 40) +contextual only [hs, fr_ite, ite_self, implies_true, b25, upd_med, fr_saveErrors (sub_trans rfl hμ),
        fr_foldl]

def kf_denyStore : Nat := 0x380000064
theorem fr_denyStore {μ : Nat} (hμ : sub kf_denyStore μ = true) (p : Port) (tag : Nat) {r₀ s : State} (hs : Keeps μ r₀ s) : Keeps μ r₀
        (denyStore p tag s) := by
  unfold denyStore
  simp (maxDischargeDepth := 40) +contextual only [hs, fr_ite, ite_self, implies_true, fr_bump (sub_trans rfl hμ), fr_raise (sub_trans rfl
        hμ), fr_sendCmp (sub_trans rfl hμ)]

def kf_countAccepted : Nat := 0x380000064
theorem fr_countAccepted {μ : Nat} (hμ : sub kf_countAccepted μ = true) (p : Port) (code : Nat) {r₀ s : State} (hs : Keeps μ r₀ s) : Keeps μ
        r₀ (countAccepted p code s) := by
  unfold countAccepted
  simp (maxDischargeDepth := 40) +contextual only [hs, fr_ite, ite_self, implies_true, fr_count1 (sub_trans rfl hμ), fr_countEligible
        (sub_trans rfl hμ), fr_countWrite (sub_trans rfl hμ)]

def kf_enqueue : Nat := 0x70
theorem fr_enqueue {μ : Nat} (hμ : sub kf_enqueue μ = true) (p : Port) (x : Store) {r₀ s : State} (hs : Keeps μ r₀ s) : Keeps μ r₀ (enqueue
        p x s) := by
  unfold enqueue
  simp (maxDischargeDepth := 40) +contextual only [hs, fr_ite, ite_self, implies_true, fr_addTo (sub_trans rfl hμ), fr_modPort (sub_trans rfl
        hμ), fr_takeSeq (sub_trans rfl hμ), fr_useCredit (sub_trans rfl hμ)]

def kf_acceptWhole : Nat := 0x380000074
theorem fr_acceptWhole {μ : Nat} (hμ : sub kf_acceptWhole μ = true) (p : Port) (tag line : Nat) (be : ByteEnables) (d : Line) (poison :
        Bool) (code : Nat) {r₀ s : State} (hs : Keeps μ r₀ s) : Keeps μ r₀ (acceptWhole p tag line be d poison code s) := by
  unfold acceptWhole
  simp (maxDischargeDepth := 40) +contextual only [hs, fr_ite, ite_self, implies_true, fr_countAccepted (sub_trans rfl hμ), fr_denyStore
        (sub_trans rfl hμ), fr_enqueue (sub_trans rfl hμ), fr_sendCmp (sub_trans rfl hμ)]

def kf_takeVictim : Nat := 0x80
theorem fr_takeVictim {μ : Nat} (hμ : sub kf_takeVictim μ = true) {r₀ s : State} (hs : Keeps μ r₀ s) : Keeps μ r₀ (takeVictim s) := by
  unfold takeVictim
  simp (maxDischargeDepth := 40) +contextual only [hs, fr_ite, ite_self, implies_true, fr_bump (sub_trans rfl hμ), fr_takeBlocks (sub_trans
        rfl hμ)]

def kf_mergeVictim : Nat := 0xE0
theorem fr_mergeVictim {μ : Nat} (hμ : sub kf_mergeVictim μ = true) (p : Port) (x : Store) {r₀ s : State} (hs : Keeps μ r₀ s) : Keeps μ r₀
        (mergeVictim p x s) := by
  unfold mergeVictim
  simp (maxDischargeDepth := 40) +contextual only [hs, fr_ite, ite_self, implies_true, fr_modPort (sub_trans rfl hμ), fr_takeVictim (sub_trans
        rfl hμ)]

def kf_mergeRead : Nat := 0x38700C064
theorem fr_mergeRead {μ : Nat} (hμ : sub kf_mergeRead μ = true) (p : Port) (x : Store) {r₀ s : State} (hs : Keeps μ r₀ s) : Keeps μ r₀
        (mergeRead p x s) := by
  unfold mergeRead
  simp (maxDischargeDepth := 40) +contextual only [hs, fr_ite, ite_self, implies_true, fr_allocate (sub_trans rfl hμ), fr_readMedium
        (sub_trans rfl hμ)]

def kf_acceptPartial : Nat := 0x38700C0F4
theorem fr_acceptPartial {μ : Nat} (hμ : sub kf_acceptPartial μ = true) (p : Port) (tag line : Nat) (be : ByteEnables) (d : Line) {r₀ s : State}
        (hs : Keeps μ r₀ s) : Keeps μ r₀ (acceptPartial p tag line be d s) := by
  unfold acceptPartial
  simp (maxDischargeDepth := 40) +contextual only [hs, fr_ite, ite_self, implies_true, fr_countAccepted (sub_trans rfl hμ), fr_denyStore
        (sub_trans rfl hμ), fr_enqueue (sub_trans rfl hμ), fr_mergeRead (sub_trans rfl hμ), fr_startRebuild (sub_trans rfl hμ),
        fr_takeVictim (sub_trans rfl hμ)]

def kf_mergeWaits : Nat := 0xE0
theorem fr_mergeWaits {μ : Nat} (hμ : sub kf_mergeWaits μ = true) (p : Port) (x : Store) {r₀ s : State} (hs : Keeps μ r₀ s) : Keeps μ r₀
        (mergeWaits p x s) := by
  unfold mergeWaits
  simp (maxDischargeDepth := 40) +contextual only [hs, fr_ite, ite_self, implies_true, fr_mergeVictim (sub_trans rfl hμ)]

def kf_stallDrain : Nat := 0x180000364
theorem fr_stallDrain {μ : Nat} (hμ : sub kf_stallDrain μ = true) {r₀ s : State} (hs : Keeps μ r₀ s) : Keeps μ r₀ (stallDrain s) := by
  have b8 : μ.testBit 8 = true := sub_bit hμ rfl
  have b9 : μ.testBit 9 = true := sub_bit hμ rfl
  unfold stallDrain
  (try simp (maxDischargeDepth := 40) +contextual only [hs, fr_ite, ite_self, implies_true, b8, b9, upd_stallReported, upd_stallSince, fr_bump
        (sub_trans rfl hμ), fr_raise (sub_trans rfl hμ)])
  repeat' split
  all_goals first
    | (with_reducible exact hs)
    | (simp (maxDischargeDepth := 40) +contextual only [hs, fr_ite, ite_self, implies_true, b8, b9, upd_stallReported, upd_stallSince, fr_bump
        (sub_trans rfl hμ), fr_raise (sub_trans rfl hμ)]; done)

def kf_endStall : Nat := 0x100
theorem fr_endStall {μ : Nat} (hμ : sub kf_endStall μ = true) {r₀ s : State} (hs : Keeps μ r₀ s) : Keeps μ r₀ (endStall s) := by
  have b8 : μ.testBit 8 = true := sub_bit hμ rfl
  unfold endStall
  (try simp (maxDischargeDepth := 40) +contextual only [hs, fr_ite, ite_self, implies_true, b8, upd_stallSince, fr_raiseTo (sub_trans rfl
        hμ)])
  repeat' split
  all_goals first
    | (with_reducible exact hs)
    | (simp (maxDischargeDepth := 40) +contextual only [hs, fr_ite, ite_self, implies_true, b8, upd_stallSince, fr_raiseTo (sub_trans rfl hμ)];
        done)

def kf_answerNow : Nat := 0x38700C064
theorem fr_answerNow {μ : Nat} (hμ : sub kf_answerNow μ = true) (r : Read) (v : Version) {r₀ s : State} (hs : Keeps μ r₀ s) : Keeps μ r₀
        (answerNow r v s) := by
  unfold answerNow
  simp (maxDischargeDepth := 40) +contextual only [hs, fr_ite, ite_self, implies_true, fr_answerRead (sub_trans rfl hμ)]

def kf_usePrefetch : Nat := 0xC00
theorem fr_usePrefetch {μ : Nat} (hμ : sub kf_usePrefetch μ = true) (b : CacheBlock) {r₀ s : State} (hs : Keeps μ r₀ s) : Keeps μ r₀
        (usePrefetch b s) := by
  have b10 : μ.testBit 10 = true := sub_bit hμ rfl
  have b11 : μ.testBit 11 = true := sub_bit hμ rfl
  unfold usePrefetch
  simp (maxDischargeDepth := 40) +contextual only [hs, fr_ite, ite_self, implies_true, b10, b11, upd_l1_l2, fr_bump (sub_trans rfl hμ)]

def kf_copyUp : Nat := 0x387003C64
theorem fr_copyUp {μ : Nat} (hμ : sub kf_copyUp μ = true) (allocate : Nat) (b : CacheBlock) {r₀ s : State} (hs : Keeps μ r₀ s) : Keeps μ r₀
        (copyUp allocate b s) := by
  unfold copyUp
  simp (maxDischargeDepth := 40) +contextual only [hs, fr_ite, ite_self, implies_true, fr_allocate (sub_trans rfl hμ), fr_installOne
        (sub_trans rfl hμ)]

def kf_lookUp : Nat := 0x38700FC64
theorem fr_lookUp {μ : Nat} (hμ : sub kf_lookUp μ = true) (p : Port) (r : Read) {r₀ s : State} (hs : Keeps μ r₀ s) : Keeps μ r₀ (lookUp p r
        s) := by
  unfold lookUp
  (try simp (maxDischargeDepth := 40) +contextual only [hs, fr_ite, ite_self, implies_true, fr_bump (sub_trans rfl hμ), fr_allocate (sub_trans
        rfl hμ), fr_answerNow (sub_trans rfl hμ), fr_copyUp (sub_trans rfl hμ), fr_count1 (sub_trans rfl hμ), fr_readMedium (sub_trans rfl
        hμ), fr_usePrefetch (sub_trans rfl hμ)])
  repeat' split
  all_goals first
    | (with_reducible exact hs)
    | (simp (maxDischargeDepth := 40) +contextual only [hs, fr_ite, ite_self, implies_true, fr_bump (sub_trans rfl hμ), fr_allocate (sub_trans rfl
        hμ), fr_answerNow (sub_trans rfl hμ), fr_copyUp (sub_trans rfl hμ), fr_count1 (sub_trans rfl hμ), fr_readMedium (sub_trans rfl hμ),
        fr_usePrefetch (sub_trans rfl hμ)]; done)

def kf_lookUpOwned : Nat := 0x38700FC64
theorem fr_lookUpOwned {μ : Nat} (hμ : sub kf_lookUpOwned μ = true) (p : Port) (g : Nat) (r : Read) {r₀ s : State} (hs : Keeps μ r₀ s) :
        Keeps μ r₀ (lookUpOwned p g r s) := by
  unfold lookUpOwned
  (try simp (maxDischargeDepth := 40) +contextual only [hs, fr_ite, ite_self, implies_true, fr_bump (sub_trans rfl hμ), fr_answerNow
        (sub_trans rfl hμ), fr_count1 (sub_trans rfl hμ), fr_lookUp (sub_trans rfl hμ), fr_readMedium (sub_trans rfl hμ)])
  repeat' split
  all_goals first
    | (with_reducible exact hs)
    | (simp (maxDischargeDepth := 40) +contextual only [hs, fr_ite, ite_self, implies_true, fr_bump (sub_trans rfl hμ), fr_answerNow (sub_trans
        rfl hμ), fr_count1 (sub_trans rfl hμ), fr_lookUp (sub_trans rfl hμ), fr_readMedium (sub_trans rfl hμ)]; done)

def kf_acceptRead : Nat := 0x38700FC64
theorem fr_acceptRead {μ : Nat} (hμ : sub kf_acceptRead μ = true) (p : Port) (tag line : Nat) {r₀ s : State} (hs : Keeps μ r₀ s) : Keeps μ
        r₀ (acceptRead p tag line s) := by
  unfold acceptRead
  (try simp (maxDischargeDepth := 40) +contextual only [hs, fr_ite, ite_self, implies_true, fr_addRead (sub_trans rfl hμ), fr_answerNow
        (sub_trans rfl hμ), fr_count1 (sub_trans rfl hμ), fr_countEligible (sub_trans rfl hμ), fr_lookUp (sub_trans rfl hμ), fr_lookUpOwned
        (sub_trans rfl hμ)])
  repeat' split
  all_goals first
    | (with_reducible exact hs)
    | (simp (maxDischargeDepth := 40) +contextual only [hs, fr_ite, ite_self, implies_true, fr_addRead (sub_trans rfl hμ), fr_answerNow (sub_trans
        rfl hμ), fr_count1 (sub_trans rfl hμ), fr_countEligible (sub_trans rfl hμ), fr_lookUp (sub_trans rfl hμ), fr_lookUpOwned (sub_trans
        rfl hμ)]; done)

def kf_moveSectors : Nat := 0x380000064
theorem fr_moveSectors {μ : Nat} (hμ : sub kf_moveSectors μ = true) (r : Read) {r₀ s : State} (hs : Keeps μ r₀ s) : Keeps μ r₀ (moveSectors
        r s) := by
  unfold moveSectors
  simp (maxDischargeDepth := 40) +contextual only [hs, fr_ite, ite_self, implies_true, fr_reconstructionReads (sub_trans rfl hμ),
        fr_sectorMoved (sub_trans rfl hμ)]

def kf_verified : Nat := 0x38700C064
theorem fr_verified {μ : Nat} (hμ : sub kf_verified μ = true) (reads : List Read) {r₀ s : State} (hs : Keeps μ r₀ s) : Keeps μ r₀ (verified
        reads s) := by
  unfold verified
  simp (maxDischargeDepth := 40) +contextual only [hs, fr_ite, ite_self, implies_true, fr_reportDeadline (sub_trans rfl hμ), fr_respond
        (sub_trans rfl hμ), fr_foldl]

def kf_notVerified : Nat := 0x380014064
theorem fr_notVerified {μ : Nat} (hμ : sub kf_notVerified μ = true) (r : Read) {r₀ s : State} (hs : Keeps μ r₀ s) : Keeps μ r₀ (notVerified
        r s) := by
  unfold notVerified
  simp (maxDischargeDepth := 40) +contextual only [hs, fr_ite, ite_self, implies_true, fr_dropRead (sub_trans rfl hμ), fr_startRetry
        (sub_trans rfl hμ)]

def kf_sectorDone : Nat := 0x38F01FC64
theorem fr_sectorDone {μ : Nat} (hμ : sub kf_sectorDone μ = true) (r : Read) (bch : Bool) (tags : BitVec 4) {r₀ s : State} (hs : Keeps μ r₀
        s) : Keeps μ r₀ (sectorDone r bch tags s) := by
  unfold sectorDone
  simp (maxDischargeDepth := 40) +contextual only [hs, fr_ite, ite_self, implies_true, fr_detectError (sub_trans rfl hμ), fr_dropRead
        (sub_trans rfl hμ), fr_fillSector (sub_trans rfl hμ), fr_ladderLines (sub_trans rfl hμ), fr_moveSectors (sub_trans rfl hμ),
        fr_notVerified (sub_trans rfl hμ), fr_prefetch (sub_trans rfl hμ), fr_verified (sub_trans rfl hμ), fr_foldl]

def kf_tagDone : Nat := 0x38C014064
theorem fr_tagDone {μ : Nat} (hμ : sub kf_tagDone μ = true) (obj : IntegrityObject) (r : Read) (bch : Bool) {r₀ s : State} (hs : Keeps μ r₀
        s) : Keeps μ r₀ (tagDone obj r bch s) := by
  unfold tagDone
  simp (maxDischargeDepth := 40) +contextual only [hs, fr_ite, ite_self, implies_true, fr_bump (sub_trans rfl hμ), fr_cacheLine (sub_trans rfl
        hμ), fr_detectError (sub_trans rfl hμ), fr_dropRead (sub_trans rfl hμ), fr_moveSectors (sub_trans rfl hμ), fr_startRetry (sub_trans
        rfl hμ)]

def kf_modOps : Nat := 0x2000000
theorem fr_modOps {μ : Nat} (hμ : sub kf_modOps μ = true) (region : Nat) (f : Op → Op) {r₀ s : State} (hs : Keeps μ r₀ s) : Keeps μ r₀
        (modOps region f s) := by
  have b25 : μ.testBit 25 = true := sub_bit hμ rfl
  unfold modOps
  simp (maxDischargeDepth := 40) +contextual only [hs, fr_ite, ite_self, implies_true, b25, upd_med]

def kf_reconstructWaiting : Nat := 0x380004064
theorem fr_reconstructWaiting {μ : Nat} (hμ : sub kf_reconstructWaiting μ = true) (region : Nat) (only : Read → Bool) {r₀ s : State} (hs :
        Keeps μ r₀ s) : Keeps μ r₀ (reconstructWaiting region only s) := by
  unfold reconstructWaiting
  simp (maxDischargeDepth := 40) +contextual only [hs, fr_ite, ite_self, implies_true, fr_modRead (sub_trans rfl hμ), fr_noteReconstruction
        (sub_trans rfl hμ), fr_foldl]

def kf_holdOps : Nat := 0x382004064
theorem fr_holdOps {μ : Nat} (hμ : sub kf_holdOps μ = true) (region : Nat) {r₀ s : State} (hs : Keeps μ r₀ s) : Keeps μ r₀ (holdOps region
        s) := by
  unfold holdOps
  simp (maxDischargeDepth := 40) +contextual only [hs, fr_ite, ite_self, implies_true, fr_addTo (sub_trans rfl hμ), fr_modOps (sub_trans rfl
        hμ), fr_raiseTimes (sub_trans rfl hμ), fr_reconstructWaiting (sub_trans rfl hμ)]

def kf_relocate : Nat := 0x80
theorem fr_relocate {μ : Nat} (hμ : sub kf_relocate μ = true) (r : Read) {r₀ s : State} (hs : Keeps μ r₀ s) : Keeps μ r₀ (relocate r s).1 := by
  have h (c : Prop) [Decidable c] (x : Staged) :
      Keeps μ r₀ (if c then (evict { s with staging := s.staging ++ [x] }, 0) else (s, 1)).1 := by
    split
    · exact fr_evict (sub_trans rfl hμ) (upd_staging (sub_bit hμ rfl) hs _)
    · exact hs
  exact h _ _

def kf_senseBelow : Nat := 0x380000064
theorem fr_senseBelow {μ : Nat} (hμ : sub kf_senseBelow μ = true) (x : RetrySenses) (r : Read) {r₀ s : State} (hs : Keeps μ r₀ s) : Keeps μ
        r₀ (senseBelow x r s) := by
  unfold senseBelow
  simp (maxDischargeDepth := 40) +contextual only [hs, fr_ite, ite_self, implies_true, fr_sectorMoved (sub_trans rfl hμ)]

def kf_noteRung : Nat := 0x0
theorem fr_noteRung {μ : Nat} (hμ : sub kf_noteRung μ = true) (x : RetrySenses) {r₀ s : State} (hs : Keeps μ r₀ s) : Keeps μ r₀ (noteRung x
        s) := by
  unfold noteRung
  simp (maxDischargeDepth := 40) +contextual only [hs, fr_ite, ite_self, implies_true, fr_bump (sub_trans rfl hμ), fr_drawn (sub_trans rfl
        hμ)]

def kf_cacheTag : Nat := 0x4000000
theorem fr_cacheTag {μ : Nat} (hμ : sub kf_cacheTag μ = true) (r : Read) {r₀ s : State} (hs : Keeps μ r₀ s) : Keeps μ r₀ (cacheTag r s) :=
        by
  unfold cacheTag
  (try simp (maxDischargeDepth := 40) +contextual only [hs, fr_ite, ite_self, implies_true, fr_cacheLine (sub_trans rfl hμ)])
  repeat' split
  all_goals first
    | (with_reducible exact hs)
    | (simp (maxDischargeDepth := 40) +contextual only [hs, fr_ite, ite_self, implies_true, fr_cacheLine (sub_trans rfl hμ)]; done)

def kf_failRead : Nat := 0x3A77FCEE4
theorem fr_failRead {μ : Nat} (hμ : sub kf_failRead μ = true) (r : Read) {r₀ s : State} (hs : Keeps μ r₀ s) : Keeps μ r₀ (failRead r s) :=
        by
  unfold failRead
  (try simp (maxDischargeDepth := 40) +contextual only [hs, fr_ite, ite_self, implies_true, fr_failCheck (sub_trans rfl hμ), fr_foldl])
  repeat' split
  all_goals first
    | (with_reducible exact hs)
    | (simp (maxDischargeDepth := 40) +contextual only [hs, fr_ite, ite_self, implies_true, fr_failCheck (sub_trans rfl hμ), fr_foldl]; done)

def kf_scheduleRefresh : Nat := 0x182000064
theorem fr_scheduleRefresh {μ : Nat} (hμ : sub kf_scheduleRefresh μ = true) (u : Nat) {r₀ s : State} (hs : Keeps μ r₀ s) : Keeps μ r₀
        (scheduleRefresh u s) := by
  unfold scheduleRefresh
  simp (maxDischargeDepth := 40) +contextual only [hs, fr_ite, ite_self, implies_true, fr_bump (sub_trans rfl hμ), fr_setStripe (sub_trans rfl
        hμ), fr_raise (sub_trans rfl hμ)]

def kf_noteBadVisit : Nat := 0x2000000
theorem fr_noteBadVisit {μ : Nat} (hμ : sub kf_noteBadVisit μ = true) (u : Nat) (rep : PatrolReport) {r₀ s : State} (hs : Keeps μ r₀ s) :
        Keeps μ r₀ (noteBadVisit u rep s) := by
  unfold noteBadVisit
  simp (maxDischargeDepth := 40) +contextual only [hs, fr_ite, ite_self, implies_true, fr_setStripe (sub_trans rfl hμ), fr_foldl]

def kf_footersRead : Nat := 0x380000064
theorem fr_footersRead {μ : Nat} (hμ : sub kf_footersRead μ = true) (u n : Nat) {r₀ s : State} (hs : Keeps μ r₀ s) : Keeps μ r₀ (footersRead
        u n s) := by
  unfold footersRead
  simp (maxDischargeDepth := 40) +contextual only [hs, fr_ite, ite_self, implies_true, fr_addTo (sub_trans rfl hμ), fr_count (sub_trans rfl
        hμ)]

def kf_judgeSample : Nat := 0x382000064
theorem fr_judgeSample {μ : Nat} (hμ : sub kf_judgeSample μ = true) (u : Nat) (inPass : Bool) (rep : PatrolReport) {r₀ s : State} (hs :
        Keeps μ r₀ s) : Keeps μ r₀ (judgeSample u inPass rep s) := by
  unfold judgeSample
  simp (maxDischargeDepth := 40) +contextual only [hs, fr_ite, ite_self, implies_true, fr_bump (sub_trans rfl hμ), fr_setUnit (sub_trans rfl
        hμ), fr_agentReads (sub_trans rfl hμ), fr_noteBadVisit (sub_trans rfl hμ), fr_scheduleRefresh (sub_trans rfl hμ)]

def kf_sampleUnit : Nat := 0x382000064
theorem fr_sampleUnit {μ : Nat} (hμ : sub kf_sampleUnit μ = true) (u : Nat) (rep : PatrolReport) {r₀ s : State} (hs : Keeps μ r₀ s) : Keeps
        μ r₀ (sampleUnit u rep s) := by
  have b25 : μ.testBit 25 = true := sub_bit hμ rfl
  unfold sampleUnit
  simp (maxDischargeDepth := 40) +contextual only [hs, fr_ite, ite_self, implies_true, b25, upd_med, fr_bump (sub_trans rfl hμ), fr_put
        (sub_trans rfl hμ), fr_setUnit (sub_trans rfl hμ), fr_agentReads (sub_trans rfl hμ), fr_footersRead (sub_trans rfl hμ),
        fr_judgeEpisode (sub_trans rfl hμ), fr_judgeSample (sub_trans rfl hμ), fr_scheduleRefresh (sub_trans rfl hμ)]

def kf_visit : Nat := 0x3AF7FCEE4
theorem fr_visit {μ : Nat} (hμ : sub kf_visit μ = true) (u : Nat) (rep : PatrolReport) {r₀ s : State} (hs : Keeps μ r₀ s) : Keeps μ r₀
        (visit u rep s) := by
  unfold visit
  simp (maxDischargeDepth := 40) +contextual only [hs, fr_ite, ite_self, implies_true, fr_drawn (sub_trans rfl hμ), fr_recoverSector
        (sub_trans rfl hμ), fr_sampleUnit (sub_trans rfl hμ)]

def kf_poisonLine : Nat := 0x5000C84
theorem fr_poisonLine {μ : Nat} (hμ : sub kf_poisonLine μ = true) (line : Nat) {r₀ s : State} (hs : Keeps μ r₀ s) : Keeps μ r₀ (poisonLine
        line s) := by
  unfold poisonLine
  simp (maxDischargeDepth := 40) +contextual only [hs, fr_ite, ite_self, implies_true, fr_bump (sub_trans rfl hμ), fr_storeCommitted
        (sub_trans rfl hμ), fr_takeStamp (sub_trans rfl hμ)]

def kf_poisonProvisional : Nat := 0x84
theorem fr_poisonProvisional {μ : Nat} (hμ : sub kf_poisonProvisional μ = true) (line : Nat) {r₀ s : State} (hs : Keeps μ r₀ s) : Keeps μ r₀
        (poisonProvisional line s) := by
  unfold poisonProvisional
  simp (maxDischargeDepth := 40) +contextual only [hs, fr_ite, ite_self, implies_true, fr_stageLine (sub_trans rfl hμ), fr_takeStamp
        (sub_trans rfl hμ), fr_foldl]

def kf_loseData : Nat := 0x185000CE4
theorem fr_loseData {μ : Nat} (hμ : sub kf_loseData μ = true) (die : Nat) {r₀ s : State} (hs : Keeps μ r₀ s) : Keeps μ r₀ (loseData die s)
        := by
  unfold loseData
  simp (maxDischargeDepth := 40) +contextual only [hs, fr_ite, ite_self, implies_true, fr_bump (sub_trans rfl hμ), fr_nameLines (sub_trans rfl
        hμ), fr_poisonLine (sub_trans rfl hμ), fr_poisonProvisional (sub_trans rfl hμ), fr_raise (sub_trans rfl hμ), fr_foldl]

def kf_dropWork : Nat := 0x2000000
theorem fr_dropWork {μ : Nat} (hμ : sub kf_dropWork μ = true) (die : Nat) (failed : Bool) {r₀ s : State} (hs : Keeps μ r₀ s) : Keeps μ r₀
        (dropWork die failed s) := by
  have b25 : μ.testBit 25 = true := sub_bit hμ rfl
  unfold dropWork
  simp (maxDischargeDepth := 40) +contextual only [hs, fr_ite, ite_self, implies_true, b25, upd_med, fr_endOverruns (sub_trans rfl hμ)]

def kf_moveSaves : Nat := 0x387000064
theorem fr_moveSaves {μ : Nat} (hμ : sub kf_moveSaves μ = true) {r₀ : State} {s : State} (hs : Keeps μ r₀ s) : Keeps μ r₀ (moveSaves s) := by
  refine fr_foldl (fun t i ht => ?_) _ hs
  split
  · exact ht
  · split
    · exact fr_moveRing (sub_trans rfl hμ) _ _ _ ht
    · exact ht

def kf_dieLeaves : Nat := 0x387004CE4
theorem fr_dieLeaves {μ : Nat} (hμ : sub kf_dieLeaves μ = true) (die state : Nat) {r₀ s : State} (hs : Keeps μ r₀ s) : Keeps μ r₀ (dieLeaves
        die state s) := by
  have b25 : μ.testBit 25 = true := sub_bit hμ rfl
  unfold dieLeaves
  simp (maxDischargeDepth := 40) +contextual only [hs, fr_ite, ite_self, implies_true, b25, upd_med, fr_put (sub_trans rfl hμ), fr_dropWork
        (sub_trans rfl hμ), fr_judgeEpisode (sub_trans rfl hμ), fr_loseData (sub_trans rfl hμ), fr_moveSaves (sub_trans rfl hμ),
        fr_noteHealth (sub_trans rfl hμ), fr_raise (sub_trans rfl hμ), fr_reconstructWaiting (sub_trans rfl hμ), fr_foldl]

def kf_refuseBinds : Nat := 0x20000
theorem fr_refuseBinds {μ : Nat} (hμ : sub kf_refuseBinds μ = true) {r₀ : State} {s : State} (hs : Keeps μ r₀ s) : Keeps μ r₀ (refuseBinds s) := by
  refine fr_foldl (fun t e ht => ?_) _ hs
  split
  · exact fr_setGroup (sub_trans rfl hμ) _ _ ht
  · exact ht

def kf_takeOffline : Nat := 0x3870202E4
theorem fr_takeOffline {μ : Nat} (hμ : sub kf_takeOffline μ = true) (r : Nat) {r₀ s : State} (hs : Keeps μ r₀ s) : Keeps μ r₀ (takeOffline r
        s) := by
  unfold takeOffline
  simp (maxDischargeDepth := 40) +contextual only [hs, fr_ite, ite_self, implies_true, fr_forceAbort (sub_trans rfl hμ), fr_refuseBinds
        (sub_trans rfl hμ), fr_setRegionState (sub_trans rfl hμ), fr_foldl]

def kf_prepare : Nat := 0x181000064
theorem fr_prepare {μ : Nat} (hμ : sub kf_prepare μ = true) (r : Nat) {r₀ s : State} (hs : Keeps μ r₀ s) : Keeps μ r₀ (prepare r s) := by
  have b24 : μ.testBit 24 = true := sub_bit hμ rfl
  unfold prepare
  simp (maxDischargeDepth := 40) +contextual only [hs, fr_ite, ite_self, implies_true, b24, upd_xlat, fr_dirtySegment (sub_trans rfl hμ),
        fr_setRegionState (sub_trans rfl hμ), fr_foldl]

def kf_abandonPreparation : Nat := 0x1000000
theorem fr_abandonPreparation {μ : Nat} (hμ : sub kf_abandonPreparation μ = true) (r : Nat) {r₀ s : State} (hs : Keeps μ r₀ s) : Keeps μ r₀
        (abandonPreparation r s) := by
  have b24 : μ.testBit 24 = true := sub_bit hμ rfl
  unfold abandonPreparation
  simp (maxDischargeDepth := 40) +contextual only [hs, fr_ite, ite_self, implies_true, b24, upd_xlat]

def kf_bringOnline : Nat := 0x181000064
theorem fr_bringOnline {μ : Nat} (hμ : sub kf_bringOnline μ = true) (r : Nat) {r₀ s : State} (hs : Keeps μ r₀ s) : Keeps μ r₀ (bringOnline r
        s) := by
  unfold bringOnline
  simp (maxDischargeDepth := 40) +contextual only [hs, fr_ite, ite_self, implies_true, fr_prepare (sub_trans rfl hμ), fr_setRegionState
        (sub_trans rfl hμ)]

def kf_failIntegrity : Nat := 0x3A77FCEE4
theorem fr_failIntegrity {μ : Nat} (hμ : sub kf_failIntegrity μ = true) (obj : IntegrityObject) {r₀ s : State} (hs : Keeps μ r₀ s) : Keeps μ
        r₀ (failIntegrity obj s) := by
  unfold failIntegrity
  simp (maxDischargeDepth := 40) +contextual only [hs, fr_ite, ite_self, implies_true, fr_failCheck (sub_trans rfl hμ), fr_foldl]

def kf_writeAnchor : Nat := 0x4000004
theorem fr_writeAnchor {μ : Nat} (hμ : sub kf_writeAnchor μ = true) {r₀ s : State} (hs : Keeps μ r₀ s) : Keeps μ r₀ (writeAnchor s) := by
  have b26 : μ.testBit 26 = true := sub_bit hμ rfl
  unfold writeAnchor
  simp (maxDischargeDepth := 40) +contextual only [hs, fr_ite, ite_self, implies_true, b26, upd_integ, fr_put (sub_trans rfl hμ), fr_takeStamp
        (sub_trans rfl hμ)]

def kf_writePages : Nat := 0x387000064
theorem fr_writePages {μ : Nat} (hμ : sub kf_writePages μ = true) (pages : List Nat) {r₀ s : State} (hs : Keeps μ r₀ s) : Keeps μ r₀
        (writePages pages s) := by
  unfold writePages
  simp (maxDischargeDepth := 40) +contextual only [hs, fr_ite, ite_self, implies_true, fr_writeMoves (sub_trans rfl hμ)]

def kf_applyPending : Nat := 0x4000000
theorem fr_applyPending {μ : Nat} (hμ : sub kf_applyPending μ = true) {r₀ s : State} (hs : Keeps μ r₀ s) : Keeps μ r₀ (applyPending s) := by
  unfold applyPending
  simp (maxDischargeDepth := 40) +contextual only [hs, fr_ite, ite_self, implies_true, fr_cacheLine (sub_trans rfl hμ), fr_foldl]

def kf_endBatch : Nat := 0x4000004
theorem fr_endBatch {μ : Nat} (hμ : sub kf_endBatch μ = true) (stale : List Nat) {r₀ s : State} (hs : Keeps μ r₀ s) : Keeps μ r₀ (endBatch
        stale s) := by
  have b26 : μ.testBit 26 = true := sub_bit hμ rfl
  unfold endBatch
  simp (maxDischargeDepth := 40) +contextual only [hs, fr_ite, ite_self, implies_true, b26, upd_integ, fr_writeAnchor (sub_trans rfl hμ)]

def kf_writeBack : Nat := 0x387000064
theorem fr_writeBack {μ : Nat} (hμ : sub kf_writeBack μ = true) {r₀ s : State} (hs : Keeps μ r₀ s) : Keeps μ r₀ (writeBack s) := by
  have b26 : μ.testBit 26 = true := sub_bit hμ rfl
  unfold writeBack
  simp (maxDischargeDepth := 40) +contextual only [hs, fr_ite, ite_self, implies_true, b26, upd_integ, fr_applyPending (sub_trans rfl hμ),
        fr_endBatch (sub_trans rfl hμ), fr_programTail (sub_trans rfl hμ), fr_writePages (sub_trans rfl hμ)]

def kf_pinRegion : Nat := 0x384000064
theorem fr_pinRegion {μ : Nat} (hμ : sub kf_pinRegion μ = true) (r : Nat) {r₀ s : State} (hs : Keeps μ r₀ s) : Keeps μ r₀ (pinRegion r s) :=
        by
  unfold pinRegion
  simp (maxDischargeDepth := 40) +contextual only [hs, fr_ite, ite_self, implies_true, fr_addTo (sub_trans rfl hμ), fr_cacheLine (sub_trans
        rfl hμ), fr_sectorsMoved (sub_trans rfl hμ), fr_foldl]

def kf_noteRecovered : Nat := 0x180000064
theorem fr_noteRecovered {μ : Nat} (hμ : sub kf_noteRecovered μ = true) (l : FetchedLine) {r₀ s : State} (hs : Keeps μ r₀ s) : Keeps μ r₀
        (noteRecovered l s) := by
  unfold noteRecovered
  simp (maxDischargeDepth := 40) +contextual only [hs, fr_ite, ite_self, implies_true, fr_bump (sub_trans rfl hμ), fr_raise (sub_trans rfl
        hμ)]

def kf_poisonRanges : Nat := 0x5000C84
theorem fr_poisonRanges {μ : Nat} (hμ : sub kf_poisonRanges μ = true) (stamp : Nat) (ranges : List (Nat × Nat)) {r₀ s : State} (hs : Keeps μ
        r₀ s) : Keeps μ r₀ (poisonRanges stamp ranges s) := by
  have b26 : μ.testBit 26 = true := sub_bit hμ rfl
  unfold poisonRanges
  simp (maxDischargeDepth := 40) +contextual only [hs, fr_ite, ite_self, implies_true, b26, upd_integ, fr_poisonProvisional (sub_trans rfl
        hμ), fr_storeCommitted (sub_trans rfl hμ), fr_takeStamp (sub_trans rfl hμ), fr_foldl]

def kf_resume : Nat := 0x1A5000CE4
theorem fr_resume {μ : Nat} (hμ : sub kf_resume μ = true) (reAnchor : Bool) {r₀ s : State} (hs : Keeps μ r₀ s) : Keeps μ r₀ (resume reAnchor
        s) := by
  have b26 : μ.testBit 26 = true := sub_bit hμ rfl
  unfold resume
  (try simp (maxDischargeDepth := 40) +contextual only [hs, fr_ite, ite_self, implies_true, b26, upd_integ, fr_modPort (sub_trans rfl hμ),
        fr_put (sub_trans rfl hμ), fr_dropCachedBlocks (sub_trans rfl hμ), fr_poisonRanges (sub_trans rfl hμ), fr_raise (sub_trans rfl hμ),
        fr_raiseReady (sub_trans rfl hμ), fr_setMode (sub_trans rfl hμ), fr_takeStamp (sub_trans rfl hμ), fr_writeAnchor (sub_trans rfl hμ),
        fr_foldl])
  repeat' split
  all_goals first
    | (with_reducible exact hs)
    | (simp (maxDischargeDepth := 40) +contextual only [hs, fr_ite, ite_self, implies_true, b26, upd_integ, fr_modPort (sub_trans rfl hμ), fr_put
        (sub_trans rfl hμ), fr_dropCachedBlocks (sub_trans rfl hμ), fr_poisonRanges (sub_trans rfl hμ), fr_raise (sub_trans rfl hμ),
        fr_raiseReady (sub_trans rfl hμ), fr_setMode (sub_trans rfl hμ), fr_takeStamp (sub_trans rfl hμ), fr_writeAnchor (sub_trans rfl hμ),
        fr_foldl]; done)

def kf_abortForSlot : Nat := 0x3870202E4
theorem fr_abortForSlot {μ : Nat} (hμ : sub kf_abortForSlot μ = true) (slot : Nat) {r₀ s : State} (hs : Keeps μ r₀ s) : Keeps μ r₀
        (abortForSlot slot s) := by
  unfold abortForSlot
  simp (maxDischargeDepth := 40) +contextual only [hs, fr_ite, ite_self, implies_true, fr_forceAbort (sub_trans rfl hμ), fr_foldl]

def kf_installKey : Nat := 0x387000CE4
theorem fr_installKey {μ : Nat} (hμ : sub kf_installKey μ = true) (slot : Nat) {r₀ s : State} (hs : Keeps μ r₀ s) : Keeps μ r₀ (installKey
        slot s) := by
  have b7 : μ.testBit 7 = true := sub_bit hμ rfl
  have b24 : μ.testBit 24 = true := sub_bit hμ rfl
  have b25 : μ.testBit 25 = true := sub_bit hμ rfl
  have b26 : μ.testBit 26 = true := sub_bit hμ rfl
  unfold installKey
  simp (maxDischargeDepth := 40) +contextual only [hs, fr_ite, ite_self, implies_true, b7, b24, b25, b26, upd_med, upd_staging_xlat_integ,
        fr_put (sub_trans rfl hμ), fr_dirtyPages (sub_trans rfl hμ), fr_dropCachedRange (sub_trans rfl hμ), fr_journalPut (sub_trans rfl
        hμ), fr_programTail (sub_trans rfl hμ), fr_sendCmps (sub_trans rfl hμ), fr_foldl]

def kf_renewSlot : Nat := 0x387020EE4
theorem fr_renewSlot {μ : Nat} (hμ : sub kf_renewSlot μ = true) (slot : Nat) {r₀ s : State} (hs : Keeps μ r₀ s) : Keeps μ r₀ (renewSlot slot
        s) := by
  unfold renewSlot
  simp (maxDischargeDepth := 40) +contextual only [hs, fr_ite, ite_self, implies_true, fr_abortForSlot (sub_trans rfl hμ), fr_installKey
        (sub_trans rfl hμ), fr_raise (sub_trans rfl hμ)]

def kf_sanitizeNow : Nat := 0x387020EE4
theorem fr_sanitizeNow {μ : Nat} (hμ : sub kf_sanitizeNow μ = true) {r₀ s : State} (hs : Keeps μ r₀ s) : Keeps μ r₀ (sanitizeNow s) := by
  unfold sanitizeNow
  simp (maxDischargeDepth := 40) +contextual only [hs, fr_ite, ite_self, implies_true, fr_abortForSlot (sub_trans rfl hμ), fr_installKey
        (sub_trans rfl hμ), fr_raise (sub_trans rfl hμ), fr_raiseTimes (sub_trans rfl hμ), fr_foldl]

def kf_writeCheckpoint : Nat := 0x387000064
theorem fr_writeCheckpoint {μ : Nat} (hμ : sub kf_writeCheckpoint μ = true) (seg : Nat) {r₀ s : State} (hs : Keeps μ r₀ s) : Keeps μ r₀
        (writeCheckpoint seg s) := by
  have b24 : μ.testBit 24 = true := sub_bit hμ rfl
  unfold writeCheckpoint
  simp (maxDischargeDepth := 40) +contextual only [hs, fr_ite, ite_self, implies_true, b24, upd_xlat, fr_bump (sub_trans rfl hμ),
        fr_checkpointSectors (sub_trans rfl hμ), fr_journalPut (sub_trans rfl hμ), fr_programTail (sub_trans rfl hμ), fr_putEntry (sub_trans
        rfl hμ), fr_takeStamp (sub_trans rfl hμ)]

def kf_writeDirectory : Nat := 0x387000064
theorem fr_writeDirectory {μ : Nat} (hμ : sub kf_writeDirectory μ = true) {r₀ : State} {s : State} (hs : Keeps μ r₀ s) : Keeps μ r₀ (writeDirectory s) :=
  fr_writeTableImage (sub_trans rfl hμ) (fr_putEntry (sub_trans rfl hμ) _ (fr_journalPut (sub_trans rfl hμ) _ (fr_checkpointSectors (sub_trans rfl hμ) _ (fr_checkpointSectors (sub_trans rfl hμ) _
    (upd_xlat (sub_bit hμ rfl) (upd_med (sub_bit hμ rfl) (fr_takeStamp (sub_trans rfl hμ) hs) _) _)))))

def kf_takeSegment : Nat := 0x80
theorem fr_takeSegment {μ : Nat} (hμ : sub kf_takeSegment μ = true) (seg : Nat) {r₀ s : State} (hs : Keeps μ r₀ s) : Keeps μ r₀ (takeSegment
        seg s) := by
  have b7 : μ.testBit 7 = true := sub_bit hμ rfl
  unfold takeSegment
  simp (maxDischargeDepth := 40) +contextual only [hs, fr_ite, ite_self, implies_true, b7, upd_staging]

def kf_checkpointNow : Nat := 0x387000064
theorem fr_checkpointNow {μ : Nat} (hμ : sub kf_checkpointNow μ = true) (seg : Nat) {r₀ s : State} (hs : Keeps μ r₀ s) : Keeps μ r₀
        (checkpointNow seg s) := by
  unfold checkpointNow
  simp (maxDischargeDepth := 40) +contextual only [hs, fr_ite, ite_self, implies_true, fr_writeBack (sub_trans rfl hμ), fr_writeCheckpoint
        (sub_trans rfl hμ), fr_writeDirectory (sub_trans rfl hμ)]

def kf_rebuildAll : Nat := 0x38700C064
theorem fr_rebuildAll {μ : Nat} (hμ : sub kf_rebuildAll μ = true) {r₀ s : State} (hs : Keeps μ r₀ s) : Keeps μ r₀ (rebuildAll s) := by
  have b24 : μ.testBit 24 = true := sub_bit hμ rfl
  unfold rebuildAll
  simp (maxDischargeDepth := 40) +contextual only [hs, fr_ite, ite_self, implies_true, b24, upd_xlat, fr_rebuildSegment (sub_trans rfl hμ),
        fr_releaseReads (sub_trans rfl hμ), fr_foldl]

def kf_detectSomewhere : Nat := 0x188000064
theorem fr_detectSomewhere {μ : Nat} (hμ : sub kf_detectSomewhere μ = true) (mem : MemKind) (uncorrectable : Bool) {r₀ s : State} (hs :
        Keeps μ r₀ s) : Keeps μ r₀ (detectSomewhere mem uncorrectable s) := by
  unfold detectSomewhere
  simp (maxDischargeDepth := 40) +contextual only [hs, fr_ite, ite_self, implies_true, fr_detectError (sub_trans rfl hμ), fr_drawn (sub_trans
        rfl hμ)]

def kf_cacheError : Nat := 0x3AF7FCEE4
theorem fr_cacheError {μ : Nat} (hμ : sub kf_cacheError μ = true) (obj : IntegrityObject) (fault : CacheFault) {r₀ s : State} (hs : Keeps μ
        r₀ s) : Keeps μ r₀ (cacheError obj fault s) := by
  have b26 : μ.testBit 26 = true := sub_bit hμ rfl
  unfold cacheError
  (try simp (maxDischargeDepth := 40) +contextual only [hs, fr_ite, ite_self, implies_true, b26, upd_integ, fr_bump (sub_trans rfl hμ),
        fr_detectSomewhere (sub_trans rfl hμ), fr_failIntegrity (sub_trans rfl hμ), fr_raise (sub_trans rfl hμ)])
  repeat' split
  all_goals first
    | (with_reducible exact hs)
    | (simp (maxDischargeDepth := 40) +contextual only [hs, fr_ite, ite_self, implies_true, b26, upd_integ, fr_bump (sub_trans rfl hμ),
        fr_detectSomewhere (sub_trans rfl hμ), fr_failIntegrity (sub_trans rfl hμ), fr_raise (sub_trans rfl hμ)]; done)

def kf_skipMember : Nat := 0x2000000
theorem fr_skipMember {μ : Nat} (hμ : sub kf_skipMember μ = true) (j : Job) {r₀ s : State} (hs : Keeps μ r₀ s) : Keeps μ r₀ (skipMember j s)
        := by
  have b25 : μ.testBit 25 = true := sub_bit hμ rfl
  unfold skipMember
  simp (maxDischargeDepth := 40) +contextual only [hs, fr_ite, ite_self, implies_true, b25, upd_med]

def kf_resetEntries : Nat := 0x1
theorem fr_resetEntries {μ : Nat} (hμ : sub kf_resetEntries μ = true) (f : Nat → Bool) {r₀ s : State} (hs : Keeps μ r₀ s) : Keeps μ r₀
        (resetEntries f s) := by
  have b0 : μ.testBit 0 = true := sub_bit hμ rfl
  unfold resetEntries
  simp (maxDischargeDepth := 40) +contextual only [hs, fr_ite, ite_self, implies_true, b0, upd_dict_octs]

def kf_regionStates : Nat := 0x0
theorem fr_regionStates {μ : Nat} (hμ : sub kf_regionStates μ = true) (before : State) {r₀ s : State} (hs : Keeps μ r₀ s) : Keeps μ r₀
        (regionStates before s) := by
  unfold regionStates
  simp (maxDischargeDepth := 40) +contextual only [hs, fr_ite, ite_self, implies_true, fr_put (sub_trans rfl hμ), fr_foldl]

def kf_promote : Nat := 0x188000064
theorem fr_promote {μ : Nat} (hμ : sub kf_promote μ = true) {r₀ : State} {s : State} (hs : Keeps μ r₀ s) : Keeps μ r₀ (promote s) := by
  have h (l : List RemapEntry) (acc : List RemapEntry × State) (ha : Keeps μ r₀ acc.2) :
      Keeps μ r₀ (l.foldl (fun (acc : List RemapEntry × State) (e : RemapEntry) =>
      let t := acc.2
      if e.state = 1 then
        let fails := t.freeNow % 2 = 1
        (acc.1 ++ [{ e with state := if fails then 3 else 2 }], raiseIf fails 226 (drawn t))
      else (acc.1 ++ [e], t)) acc).2 := by
    induction l generalizing acc with
    | nil => exact ha
    | cons e l ih =>
      rw [List.foldl_cons]
      refine ih _ ?_
      simp only
      split
      · exact fr_raiseIf (sub_trans rfl hμ) _ _ (fr_drawn (sub_trans rfl hμ) ha)
      · exact ha
  exact upd_stored (sub_bit hμ rfl) (h s.stored.remap ([], s) hs) _

def kf_noteEnforced : Nat := 0x40000000
theorem fr_noteEnforced {μ : Nat} (hμ : sub kf_noteEnforced μ = true) {r₀ s : State} (hs : Keeps μ r₀ s) : Keeps μ r₀ (noteEnforced s) := by
  have b30 : μ.testBit 30 = true := sub_bit hμ rfl
  unfold noteEnforced
  (try simp (maxDischargeDepth := 40) +contextual only [hs, fr_ite, ite_self, implies_true, b30, upd_therm, fr_addTo (sub_trans rfl hμ)])
  repeat' split
  all_goals first
    | (with_reducible exact hs)
    | (simp (maxDischargeDepth := 40) +contextual only [hs, fr_ite, ite_self, implies_true, b30, upd_therm, fr_addTo (sub_trans rfl hμ)]; done)

def kf_controllerReset : Nat := 0x3EFFD4F65
theorem fr_controllerReset {μ : Nat} (hμ : sub kf_controllerReset μ = true) {r₀ s : State} (hs : Keeps μ r₀ s) : Keeps μ r₀ (controllerReset
        s) := by
  have b5 : μ.testBit 5 = true := sub_bit hμ rfl
  have b6 : μ.testBit 6 = true := sub_bit hμ rfl
  have b8 : μ.testBit 8 = true := sub_bit hμ rfl
  have b9 : μ.testBit 9 = true := sub_bit hμ rfl
  have b10 : μ.testBit 10 = true := sub_bit hμ rfl
  have b11 : μ.testBit 11 = true := sub_bit hμ rfl
  have b14 : μ.testBit 14 = true := sub_bit hμ rfl
  have b16 : μ.testBit 16 = true := sub_bit hμ rfl
  have b18 : μ.testBit 18 = true := sub_bit hμ rfl
  have b19 : μ.testBit 19 = true := sub_bit hμ rfl
  have b20 : μ.testBit 20 = true := sub_bit hμ rfl
  have b21 : μ.testBit 21 = true := sub_bit hμ rfl
  have b22 : μ.testBit 22 = true := sub_bit hμ rfl
  have b23 : μ.testBit 23 = true := sub_bit hμ rfl
  have b24 : μ.testBit 24 = true := sub_bit hμ rfl
  have b25 : μ.testBit 25 = true := sub_bit hμ rfl
  have b26 : μ.testBit 26 = true := sub_bit hμ rfl
  have b27 : μ.testBit 27 = true := sub_bit hμ rfl
  have b29 : μ.testBit 29 = true := sub_bit hμ rfl
  have b30 : μ.testBit 30 = true := sub_bit hμ rfl
  have b31 : μ.testBit 31 = true := sub_bit hμ rfl
  have b32 : μ.testBit 32 = true := sub_bit hμ rfl
  have b33 : μ.testBit 33 = true := sub_bit hμ rfl
  unfold controllerReset
  simp (maxDischargeDepth := 40) +contextual only [hs, fr_ite, ite_self, implies_true, b5, b6, b8, b9, b10, b11, b14, b16, b18, b19, b20, b21,
        b22, b23, b24, b25, b26, b27, b29, b30, b31, b32, b33,
        upd_portA_portB_stallSince_stallReported_l1_l2_reads_retries_cells_reservedA_reservedB_resultsA_resultsB_resultBase_xlat_med_integ_stored_modes_therm_mgmt_recd_obs,
        fr_put (sub_trans rfl hμ), fr_drawn (sub_trans rfl hμ), fr_noteEnforced (sub_trans rfl hμ), fr_promote (sub_trans rfl hμ),
        fr_regionStates (sub_trans rfl hμ), fr_resetEntries (sub_trans rfl hμ)]

def kf_noteVin : Nat := 0x0
theorem fr_noteVin {μ : Nat} (hμ : sub kf_noteVin μ = true) (mv : Nat) {r₀ s : State} (hs : Keeps μ r₀ s) : Keeps μ r₀ (noteVin mv s) := by
  unfold noteVin
  simp (maxDischargeDepth := 40) +contextual only [hs, fr_ite, ite_self, implies_true, fr_put (sub_trans rfl hμ)]

def kf_setBand : Nat := 0x1B0000064
theorem fr_setBand {μ : Nat} (hμ : sub kf_setBand μ = true) (b : Nat) {r₀ s : State} (hs : Keeps μ r₀ s) : Keeps μ r₀ (setBand b s) := by
  have b28 : μ.testBit 28 = true := sub_bit hμ rfl
  unfold setBand
  simp (maxDischargeDepth := 40) +contextual only [hs, fr_ite, ite_self, implies_true, b28, upd_pow, fr_bump (sub_trans rfl hμ), fr_put
        (sub_trans rfl hμ), fr_raise (sub_trans rfl hμ), fr_setMode (sub_trans rfl hμ)]

def kf_setRail : Nat := 0x10000000
theorem fr_setRail {μ : Nat} (hμ : sub kf_setRail μ = true) (code : Nat) (r : Rail) {r₀ s : State} (hs : Keeps μ r₀ s) : Keeps μ r₀ (setRail
        code r s) := by
  have b28 : μ.testBit 28 = true := sub_bit hμ rfl
  unfold setRail
  simp (maxDischargeDepth := 40) +contextual only [hs, fr_ite, ite_self, implies_true, b28, upd_pow]

def kf_railsOn : Nat := 0x10000000
theorem fr_railsOn {μ : Nat} (hμ : sub kf_railsOn μ = true) (codes : List Nat) {r₀ s : State} (hs : Keeps μ r₀ s) : Keeps μ r₀ (railsOn
        codes s) := by
  unfold railsOn
  simp (maxDischargeDepth := 40) +contextual only [hs, fr_ite, ite_self, implies_true, fr_setRail (sub_trans rfl hμ), fr_foldl]

def kf_railsOff : Nat := 0x10000000
theorem fr_railsOff {μ : Nat} (hμ : sub kf_railsOff μ = true) (codes : List Nat) {r₀ s : State} (hs : Keeps μ r₀ s) : Keeps μ r₀ (railsOff
        codes s) := by
  unfold railsOff
  simp (maxDischargeDepth := 40) +contextual only [hs, fr_ite, ite_self, implies_true, fr_setRail (sub_trans rfl hμ), fr_foldl]

def kf_writeRecord : Nat := 0x10000000
theorem fr_writeRecord {μ : Nat} (hμ : sub kf_writeRecord μ = true) (kind rail cause before : Nat) {r₀ s : State} (hs : Keeps μ r₀ s) :
        Keeps μ r₀ (writeRecord kind rail cause before s) := by
  have b28 : μ.testBit 28 = true := sub_bit hμ rfl
  unfold writeRecord
  simp (maxDischargeDepth := 40) +contextual only [hs, fr_ite, ite_self, implies_true, b28, upd_pow, fr_put (sub_trans rfl hμ)]

def kf_finishLeaving : Nat := 0x3970002E4
theorem fr_finishLeaving {μ : Nat} (hμ : sub kf_finishLeaving μ = true) {r₀ s : State} (hs : Keeps μ r₀ s) : Keeps μ r₀ (finishLeaving s) :=
        by
  have b28 : μ.testBit 28 = true := sub_bit hμ rfl
  unfold finishLeaving
  simp (maxDischargeDepth := 40) +contextual only [hs, fr_ite, ite_self, implies_true, b28, upd_pow, fr_put (sub_trans rfl hμ), fr_programAll
        (sub_trans rfl hμ)]

def kf_loseProtection : Nat := 0x3977ECEE4
theorem fr_loseProtection {μ : Nat} (hμ : sub kf_loseProtection μ = true) (causes : Nat) {r₀ s : State} (hs : Keeps μ r₀ s) : Keeps μ r₀
        (loseProtection causes s) := by
  have b28 : μ.testBit 28 = true := sub_bit hμ rfl
  unfold loseProtection
  simp (maxDischargeDepth := 40) +contextual only [hs, fr_ite, ite_self, implies_true, b28, upd_pow, fr_put (sub_trans rfl hμ),
        fr_bothExceptions (sub_trans rfl hμ), fr_finishLeaving (sub_trans rfl hμ), fr_raise (sub_trans rfl hμ)]

def kf_regainProtection : Nat := 0x190000064
theorem fr_regainProtection {μ : Nat} (hμ : sub kf_regainProtection μ = true) {r₀ s : State} (hs : Keeps μ r₀ s) : Keeps μ r₀
        (regainProtection s) := by
  have b28 : μ.testBit 28 = true := sub_bit hμ rfl
  unfold regainProtection
  simp (maxDischargeDepth := 40) +contextual only [hs, fr_ite, ite_self, implies_true, b28, upd_pow, fr_put (sub_trans rfl hμ), fr_raise
        (sub_trans rfl hμ)]

def kf_updateProtection : Nat := 0x3977ECEE4
theorem fr_updateProtection {μ : Nat} (hμ : sub kf_updateProtection μ = true) {r₀ s : State} (hs : Keeps μ r₀ s) : Keeps μ r₀
        (updateProtection s) := by
  unfold updateProtection
  simp (maxDischargeDepth := 40) +contextual only [hs, fr_ite, ite_self, implies_true, fr_put (sub_trans rfl hμ), fr_finishLeaving (sub_trans
        rfl hμ), fr_loseProtection (sub_trans rfl hμ), fr_regainProtection (sub_trans rfl hμ)]

def kf_unmeasured : Nat := 0x10000000
theorem fr_unmeasured {μ : Nat} (hμ : sub kf_unmeasured μ = true) {r₀ s : State} (hs : Keeps μ r₀ s) : Keeps μ r₀ (unmeasured s) := by
  have b28 : μ.testBit 28 = true := sub_bit hμ rfl
  unfold unmeasured
  simp (maxDischargeDepth := 40) +contextual only [hs, fr_ite, ite_self, implies_true, b28, upd_pow, fr_put (sub_trans rfl hμ)]

def kf_holdPins : Nat := 0x20000000
theorem fr_holdPins {μ : Nat} (hμ : sub kf_holdPins μ = true) {r₀ s : State} (hs : Keeps μ r₀ s) : Keeps μ r₀ (holdPins s) := by
  have b29 : μ.testBit 29 = true := sub_bit hμ rfl
  unfold holdPins
  simp (maxDischargeDepth := 40) +contextual only [hs, fr_ite, ite_self, implies_true, b29, upd_modes]

def kf_releasePins : Nat := 0x20000000
theorem fr_releasePins {μ : Nat} (hμ : sub kf_releasePins μ = true) {r₀ s : State} (hs : Keeps μ r₀ s) : Keeps μ r₀ (releasePins s) := by
  have b29 : μ.testBit 29 = true := sub_bit hμ rfl
  unfold releasePins
  simp (maxDischargeDepth := 40) +contextual only [hs, fr_ite, ite_self, implies_true, b29, upd_modes]

def kf_withholdCredits : Nat := 0x60
theorem fr_withholdCredits {μ : Nat} (hμ : sub kf_withholdCredits μ = true) (b : Bool) {r₀ s : State} (hs : Keeps μ r₀ s) : Keeps μ r₀
        (withholdCredits b s) := by
  unfold withholdCredits
  simp (maxDischargeDepth := 40) +contextual only [hs, fr_ite, ite_self, implies_true, fr_modPort (sub_trans rfl hμ)]

def kf_switchSlots : Nat := 0x0
theorem fr_switchSlots {μ : Nat} (hμ : sub kf_switchSlots μ = true) {r₀ s : State} (hs : Keeps μ r₀ s) : Keeps μ r₀ (switchSlots s) := by
  unfold switchSlots
  simp (maxDischargeDepth := 40) +contextual only [hs, fr_ite, ite_self, implies_true, fr_put (sub_trans rfl hμ)]

def kf_endActivation : Nat := 0x1A0000064
theorem fr_endActivation {μ : Nat} (hμ : sub kf_endActivation μ = true) (a : Activation) (result src : Nat) {r₀ s : State} (hs : Keeps μ r₀
        s) : Keeps μ r₀ (endActivation a result src s) := by
  have b29 : μ.testBit 29 = true := sub_bit hμ rfl
  unfold endActivation
  simp (maxDischargeDepth := 40) +contextual only [hs, fr_ite, ite_self, implies_true, b29, upd_modes, fr_put (sub_trans rfl hμ), fr_endAction
        (sub_trans rfl hμ), fr_raise (sub_trans rfl hμ)]

def kf_finishActivation : Nat := 0x1A0000064
theorem fr_finishActivation {μ : Nat} (hμ : sub kf_finishActivation μ = true) {r₀ s : State} (hs : Keeps μ r₀ s) : Keeps μ r₀
        (finishActivation s) := by
  unfold finishActivation
  (try simp (maxDischargeDepth := 40) +contextual only [hs, fr_ite, ite_self, implies_true, fr_endActivation (sub_trans rfl hμ),
        fr_switchSlots (sub_trans rfl hμ)])
  repeat' split
  all_goals first
    | (with_reducible exact hs)
    | (simp (maxDischargeDepth := 40) +contextual only [hs, fr_ite, ite_self, implies_true, fr_endActivation (sub_trans rfl hμ), fr_switchSlots
        (sub_trans rfl hμ)]; done)

def kf_interruptActivation : Nat := 0x1A0000064
theorem fr_interruptActivation {μ : Nat} (hμ : sub kf_interruptActivation μ = true) {r₀ s : State} (hs : Keeps μ r₀ s) : Keeps μ r₀
        (interruptActivation s) := by
  have b29 : μ.testBit 29 = true := sub_bit hμ rfl
  unfold interruptActivation
  (try simp (maxDischargeDepth := 40) +contextual only [hs, fr_ite, ite_self, implies_true, b29, upd_modes, fr_put (sub_trans rfl hμ),
        fr_endAction (sub_trans rfl hμ), fr_finishActivation (sub_trans rfl hμ)])
  repeat' split
  all_goals first
    | (with_reducible exact hs)
    | (simp (maxDischargeDepth := 40) +contextual only [hs, fr_ite, ite_self, implies_true, b29, upd_modes, fr_put (sub_trans rfl hμ),
        fr_endAction (sub_trans rfl hμ), fr_finishActivation (sub_trans rfl hμ)]; done)

def kf_enterFall : Nat := 0x1A00240E4
theorem fr_enterFall {μ : Nat} (hμ : sub kf_enterFall μ = true) {r₀ s : State} (hs : Keeps μ r₀ s) : Keeps μ r₀ (enterFall s) := by
  have b29 : μ.testBit 29 = true := sub_bit hμ rfl
  unfold enterFall
  simp (maxDischargeDepth := 40) +contextual only [hs, fr_ite, ite_self, implies_true, b29, upd_modes, fr_dropLink (sub_trans rfl hμ),
        fr_dropReady (sub_trans rfl hμ), fr_releasePins (sub_trans rfl hμ), fr_setMode (sub_trans rfl hμ)]

def kf_goOff : Nat := 0x1B0000064
theorem fr_goOff {μ : Nat} (hμ : sub kf_goOff μ = true) {r₀ s : State} (hs : Keeps μ r₀ s) : Keeps μ r₀ (goOff s) := by
  unfold goOff
  simp (maxDischargeDepth := 40) +contextual only [hs, fr_ite, ite_self, implies_true, fr_railsOff (sub_trans rfl hμ), fr_setMode (sub_trans
        rfl hμ)]

def kf_freshPorts : Nat := 0x60
theorem fr_freshPorts {μ : Nat} (hμ : sub kf_freshPorts μ = true) {r₀ s : State} (hs : Keeps μ r₀ s) : Keeps μ r₀ (freshPorts s) := by
  have b5 : μ.testBit 5 = true := sub_bit hμ rfl
  have b6 : μ.testBit 6 = true := sub_bit hμ rfl
  unfold freshPorts
  simp (maxDischargeDepth := 40) +contextual only [hs, fr_ite, ite_self, implies_true, b5, b6, upd_portA_portB, fr_put (sub_trans rfl hμ)]

def kf_startRise : Nat := 0x1B0000064
theorem fr_startRise {μ : Nat} (hμ : sub kf_startRise μ = true) {r₀ s : State} (hs : Keeps μ r₀ s) : Keeps μ r₀ (startRise s) := by
  have b28 : μ.testBit 28 = true := sub_bit hμ rfl
  have b29 : μ.testBit 29 = true := sub_bit hμ rfl
  unfold startRise
  simp (maxDischargeDepth := 40) +contextual only [hs, fr_ite, ite_self, implies_true, b28, b29, upd_modes, upd_pow_modes, fr_put (sub_trans
        rfl hμ), fr_freshPorts (sub_trans rfl hμ), fr_raise (sub_trans rfl hμ), fr_setMode (sub_trans rfl hμ), fr_unmeasured (sub_trans rfl
        hμ)]

def kf_wakeRise : Nat := 0x1B0000064
theorem fr_wakeRise {μ : Nat} (hμ : sub kf_wakeRise μ = true) {r₀ s : State} (hs : Keeps μ r₀ s) : Keeps μ r₀ (wakeRise s) := by
  have b28 : μ.testBit 28 = true := sub_bit hμ rfl
  unfold wakeRise
  simp (maxDischargeDepth := 40) +contextual only [hs, fr_ite, ite_self, implies_true, b28, upd_pow, fr_put (sub_trans rfl hμ), fr_startRise
        (sub_trans rfl hμ)]

def kf_enterRestore : Nat := 0x3FFFF4FE5
theorem fr_enterRestore {μ : Nat} (hμ : sub kf_enterRestore μ = true) {r₀ s : State} (hs : Keeps μ r₀ s) : Keeps μ r₀ (enterRestore s) := by
  have b28 : μ.testBit 28 = true := sub_bit hμ rfl
  have b29 : μ.testBit 29 = true := sub_bit hμ rfl
  unfold enterRestore
  simp (maxDischargeDepth := 40) +contextual only [hs, fr_ite, ite_self, implies_true, b28, b29, upd_pow_modes, fr_put (sub_trans rfl hμ),
        fr_controllerReset (sub_trans rfl hμ), fr_dropLink (sub_trans rfl hμ), fr_railsOn (sub_trans rfl hμ), fr_setMode (sub_trans rfl hμ),
        fr_switchSlots (sub_trans rfl hμ)]

def kf_abandonWork : Nat := 0x2000000
theorem fr_abandonWork {μ : Nat} (hμ : sub kf_abandonWork μ = true) {r₀ s : State} (hs : Keeps μ r₀ s) : Keeps μ r₀ (abandonWork s) := by
  have b25 : μ.testBit 25 = true := sub_bit hμ rfl
  unfold abandonWork
  simp (maxDischargeDepth := 40) +contextual only [hs, fr_ite, ite_self, implies_true, b25, upd_med, fr_put (sub_trans rfl hμ), fr_endOverruns
        (sub_trans rfl hμ)]

def kf_startCurtain : Nat := 0x3B77ECEE4
theorem fr_startCurtain {μ : Nat} (hμ : sub kf_startCurtain μ = true) (cause : Nat) {r₀ s : State} (hs : Keeps μ r₀ s) : Keeps μ r₀
        (startCurtain cause s) := by
  have b28 : μ.testBit 28 = true := sub_bit hμ rfl
  have b29 : μ.testBit 29 = true := sub_bit hμ rfl
  unfold startCurtain
  simp (maxDischargeDepth := 40) +contextual only [hs, fr_ite, ite_self, implies_true, b28, b29, upd_pow_modes, fr_put (sub_trans rfl hμ),
        fr_abandonWork (sub_trans rfl hμ), fr_bothExceptions (sub_trans rfl hμ), fr_endAction (sub_trans rfl hμ), fr_holdPins (sub_trans rfl
        hμ), fr_interruptActivation (sub_trans rfl hμ), fr_overtakeDeferred (sub_trans rfl hμ), fr_railsOn (sub_trans rfl hμ), fr_raise
        (sub_trans rfl hμ), fr_setMode (sub_trans rfl hμ), fr_settleAll (sub_trans rfl hμ), fr_takeStamp (sub_trans rfl hμ),
        fr_withholdCredits (sub_trans rfl hμ)]

def kf_triggerCurtain : Nat := 0x3B77ECEE4
theorem fr_triggerCurtain {μ : Nat} (hμ : sub kf_triggerCurtain μ = true) (cause : Nat) {r₀ s : State} (hs : Keeps μ r₀ s) : Keeps μ r₀
        (triggerCurtain cause s) := by
  have b28 : μ.testBit 28 = true := sub_bit hμ rfl
  have b29 : μ.testBit 29 = true := sub_bit hμ rfl
  unfold triggerCurtain
  (try simp (maxDischargeDepth := 40) +contextual only [hs, fr_ite, ite_self, implies_true, b28, b29, upd_modes, upd_pow, fr_put (sub_trans
        rfl hμ), fr_enterFall (sub_trans rfl hμ), fr_startCurtain (sub_trans rfl hμ)])
  repeat' split
  all_goals first
    | (with_reducible exact hs)
    | (simp (maxDischargeDepth := 40) +contextual only [hs, fr_ite, ite_self, implies_true, b28, b29, upd_modes, upd_pow, fr_put (sub_trans rfl
        hμ), fr_enterFall (sub_trans rfl hμ), fr_startCurtain (sub_trans rfl hμ)]; done)

def kf_poisonReads : Nat := 0x380014064
theorem fr_poisonReads {μ : Nat} (hμ : sub kf_poisonReads μ = true) {r₀ : State} {s : State} (hs : Keeps μ r₀ s) : Keeps μ r₀ (poisonReads s) := by
  unfold poisonReads
  refine upd_reads_retries (sub_bit hμ rfl) (sub_bit hμ rfl) ?_ _ _
  refine fr_foldl (fun t r ht => ?_) s.reads hs
  split
  · split
    · exact ht
    · exact fr_sendData (sub_trans rfl hμ) _ _ _ _ ht
  · exact ht

def kf_commitCurtain : Nat := 0x3977FCEE4
theorem fr_commitCurtain {μ : Nat} (hμ : sub kf_commitCurtain μ = true) {r₀ s : State} (hs : Keeps μ r₀ s) : Keeps μ r₀ (commitCurtain s) :=
        by
  have b28 : μ.testBit 28 = true := sub_bit hμ rfl
  unfold commitCurtain
  (try simp (maxDischargeDepth := 40) +contextual only [hs, fr_ite, ite_self, implies_true, b28, upd_pow, fr_dropLink (sub_trans rfl hμ),
        fr_dropReady (sub_trans rfl hμ), fr_finishAccepted (sub_trans rfl hμ), fr_poisonReads (sub_trans rfl hμ), fr_railsOff (sub_trans rfl
        hμ), fr_silence (sub_trans rfl hμ)])
  repeat' split
  all_goals first
    | (with_reducible exact hs)
    | (simp (maxDischargeDepth := 40) +contextual only [hs, fr_ite, ite_self, implies_true, b28, upd_pow, fr_dropLink (sub_trans rfl hμ),
        fr_dropReady (sub_trans rfl hμ), fr_finishAccepted (sub_trans rfl hμ), fr_poisonReads (sub_trans rfl hμ), fr_railsOff (sub_trans rfl
        hμ), fr_silence (sub_trans rfl hμ)]; done)

def kf_noteCurtain : Nat := 0x0
theorem fr_noteCurtain {μ : Nat} (hμ : sub kf_noteCurtain μ = true) (c : Curtain) (outcome : Nat) {r₀ s : State} (hs : Keeps μ r₀ s) : Keeps
        μ r₀ (noteCurtain c outcome s) := by
  unfold noteCurtain
  simp (maxDischargeDepth := 40) +contextual only [hs, fr_ite, ite_self, implies_true, fr_bump (sub_trans rfl hμ), fr_put (sub_trans rfl hμ),
        fr_drawn (sub_trans rfl hμ)]

def kf_saveAtCurtain : Nat := 0xA000000
theorem fr_saveAtCurtain {μ : Nat} (hμ : sub kf_saveAtCurtain μ = true) {r₀ s : State} (hs : Keeps μ r₀ s) : Keeps μ r₀ (saveAtCurtain s) :=
        by
  unfold saveAtCurtain
  simp (maxDischargeDepth := 40) +contextual only [hs, fr_ite, ite_self, implies_true, fr_saveCounts (sub_trans rfl hμ)]

def kf_programImage : Nat := 0x383000064
theorem fr_programImage {μ : Nat} (hμ : sub kf_programImage μ = true) {r₀ s : State} (hs : Keeps μ r₀ s) : Keeps μ r₀ (programImage s) := by
  unfold programImage
  (try simp (maxDischargeDepth := 40) +contextual only [hs, fr_ite, ite_self, implies_true, fr_ringProgram (sub_trans rfl hμ)])
  repeat' split
  all_goals first
    | (with_reducible exact hs)
    | (simp (maxDischargeDepth := 40) +contextual only [hs, fr_ite, ite_self, implies_true, fr_ringProgram (sub_trans rfl hμ)]; done)

def kf_finishCurtain : Nat := 0x39F000064
theorem fr_finishCurtain {μ : Nat} (hμ : sub kf_finishCurtain μ = true) (c : Curtain) {r₀ s : State} (hs : Keeps μ r₀ s) : Keeps μ r₀
        (finishCurtain c s) := by
  have b26 : μ.testBit 26 = true := sub_bit hμ rfl
  have b28 : μ.testBit 28 = true := sub_bit hμ rfl
  unfold finishCurtain
  simp (maxDischargeDepth := 40) +contextual only [hs, fr_ite, ite_self, implies_true, b26, b28, upd_integ_pow, fr_programImage (sub_trans rfl
        hμ), fr_saveAtCurtain (sub_trans rfl hμ), fr_writeRecord (sub_trans rfl hμ)]

def kf_restoreKept : Nat := 0x3FFFF4FE5
theorem fr_restoreKept {μ : Nat} (hμ : sub kf_restoreKept μ = true) (reset : Bool) {r₀ s : State} (hs : Keeps μ r₀ s) : Keeps μ r₀
        (restoreKept reset s) := by
  have b28 : μ.testBit 28 = true := sub_bit hμ rfl
  have b29 : μ.testBit 29 = true := sub_bit hμ rfl
  unfold restoreKept
  simp (maxDischargeDepth := 40) +contextual only [hs, fr_ite, ite_self, implies_true, b28, b29, upd_pow, upd_pow_modes, fr_enterRestore
        (sub_trans rfl hμ), fr_releasePins (sub_trans rfl hμ)]

def kf_curtainOutcome : Nat := 0x3FFFF4FE5
theorem fr_curtainOutcome {μ : Nat} (hμ : sub kf_curtainOutcome μ = true) (c : Curtain) {r₀ s : State} (hs : Keeps μ r₀ s) : Keeps μ r₀
        (curtainOutcome c s) := by
  unfold curtainOutcome
  simp (maxDischargeDepth := 40) +contextual only [hs, fr_ite, ite_self, implies_true, fr_enterFall (sub_trans rfl hμ), fr_finishCurtain
        (sub_trans rfl hμ), fr_noteCurtain (sub_trans rfl hμ), fr_railsOff (sub_trans rfl hμ), fr_releasePins (sub_trans rfl hμ),
        fr_restoreKept (sub_trans rfl hμ), fr_setMode (sub_trans rfl hμ)]

def kf_cancelCurtain : Nat := 0x1B0000064
theorem fr_cancelCurtain {μ : Nat} (hμ : sub kf_cancelCurtain μ = true) (c : Curtain) (mv : Nat) {r₀ s : State} (hs : Keeps μ r₀ s) : Keeps
        μ r₀ (cancelCurtain c mv s) := by
  have b28 : μ.testBit 28 = true := sub_bit hμ rfl
  unfold cancelCurtain
  simp (maxDischargeDepth := 40) +contextual only [hs, fr_ite, ite_self, implies_true, b28, upd_pow, fr_bump (sub_trans rfl hμ), fr_put
        (sub_trans rfl hμ), fr_railsOff (sub_trans rfl hμ), fr_raise (sub_trans rfl hμ), fr_setBand (sub_trans rfl hμ), fr_setMode
        (sub_trans rfl hμ), fr_withholdCredits (sub_trans rfl hμ), fr_writeRecord (sub_trans rfl hμ)]

def kf_restartRise : Nat := 0x1B00240E4
theorem fr_restartRise {μ : Nat} (hμ : sub kf_restartRise μ = true) {r₀ s : State} (hs : Keeps μ r₀ s) : Keeps μ r₀ (restartRise s) := by
  have b28 : μ.testBit 28 = true := sub_bit hμ rfl
  have b29 : μ.testBit 29 = true := sub_bit hμ rfl
  unfold restartRise
  simp (maxDischargeDepth := 40) +contextual only [hs, fr_ite, ite_self, implies_true, b28, b29, upd_pow_modes, fr_put (sub_trans rfl hμ),
        fr_dropLink (sub_trans rfl hμ), fr_dropReady (sub_trans rfl hμ), fr_freshPorts (sub_trans rfl hμ), fr_interruptActivation (sub_trans
        rfl hμ), fr_setMode (sub_trans rfl hμ)]

def kf_deviceReset : Nat := 0x3B77ECEE4
theorem fr_deviceReset {μ : Nat} (hμ : sub kf_deviceReset μ = true) (code : Nat) {r₀ s : State} (hs : Keeps μ r₀ s) : Keeps μ r₀
        (deviceReset code s) := by
  have b28 : μ.testBit 28 = true := sub_bit hμ rfl
  unfold deviceReset
  simp (maxDischargeDepth := 40) +contextual only [hs, fr_ite, ite_self, implies_true, b28, upd_pow, fr_bump (sub_trans rfl hμ), fr_put
        (sub_trans rfl hμ), fr_endAllSessions (sub_trans rfl hμ), fr_enterFall (sub_trans rfl hμ), fr_raise (sub_trans rfl hμ),
        fr_restartRise (sub_trans rfl hμ), fr_startCurtain (sub_trans rfl hμ), fr_triggerCurtain (sub_trans rfl hμ)]

def kf_loseInput : Nat := 0x3B77ECEE4
theorem fr_loseInput {μ : Nat} (hμ : sub kf_loseInput μ = true) (kind mv : Nat) {r₀ s : State} (hs : Keeps μ r₀ s) : Keeps μ r₀ (loseInput
        kind mv s) := by
  have b28 : μ.testBit 28 = true := sub_bit hμ rfl
  unfold loseInput
  simp (maxDischargeDepth := 40) +contextual only [hs, fr_ite, ite_self, implies_true, b28, upd_pow, fr_endAllSessions (sub_trans rfl hμ),
        fr_enterFall (sub_trans rfl hμ), fr_goOff (sub_trans rfl hμ), fr_noteVin (sub_trans rfl hμ), fr_triggerCurtain (sub_trans rfl hμ),
        fr_writeRecord (sub_trans rfl hμ)]

def kf_wakeBy : Nat := 0x1A0000064
theorem fr_wakeBy {μ : Nat} (hμ : sub kf_wakeBy μ = true) (source : Nat) {r₀ s : State} (hs : Keeps μ r₀ s) : Keeps μ r₀ (wakeBy source s)
        := by
  have b29 : μ.testBit 29 = true := sub_bit hμ rfl
  unfold wakeBy
  (try simp (maxDischargeDepth := 40) +contextual only [hs, fr_ite, ite_self, implies_true, b29, upd_modes, fr_put (sub_trans rfl hμ),
        fr_raise (sub_trans rfl hμ)])
  repeat' split
  all_goals first
    | (with_reducible exact hs)
    | (simp (maxDischargeDepth := 40) +contextual only [hs, fr_ite, ite_self, implies_true, b29, upd_modes, fr_put (sub_trans rfl hμ), fr_raise
        (sub_trans rfl hμ)]; done)

def kf_linksL1 : Nat := 0x60
theorem fr_linksL1 {μ : Nat} (hμ : sub kf_linksL1 μ = true) (b : Bool) {r₀ s : State} (hs : Keeps μ r₀ s) : Keeps μ r₀ (linksL1 b s) := by
  unfold linksL1
  simp (maxDischargeDepth := 40) +contextual only [hs, fr_ite, ite_self, implies_true, fr_modPort (sub_trans rfl hμ)]

def kf_wakeUp : Nat := 0x1B0000064
theorem fr_wakeUp {μ : Nat} (hμ : sub kf_wakeUp μ = true) {r₀ s : State} (hs : Keeps μ r₀ s) : Keeps μ r₀ (wakeUp s) := by
  have b29 : μ.testBit 29 = true := sub_bit hμ rfl
  unfold wakeUp
  simp (maxDischargeDepth := 40) +contextual only [hs, fr_ite, ite_self, implies_true, b29, upd_modes, fr_linksL1 (sub_trans rfl hμ),
        fr_railsOn (sub_trans rfl hμ), fr_setMode (sub_trans rfl hμ), fr_withholdCredits (sub_trans rfl hμ)]

def kf_releaseScratch : Nat := 0x38F000064
theorem fr_releaseScratch {μ : Nat} (hμ : sub kf_releaseScratch μ = true) {r₀ s : State} (hs : Keeps μ r₀ s) : Keeps μ r₀ (releaseScratch s)
        := by
  have b27 : μ.testBit 27 = true := sub_bit hμ rfl
  unfold releaseScratch
  (try simp (maxDischargeDepth := 40) +contextual only [hs, fr_ite, ite_self, implies_true, b27, upd_stored, fr_setUnitState (sub_trans rfl
        hμ)])
  repeat' split
  all_goals first
    | (with_reducible exact hs)
    | (simp (maxDischargeDepth := 40) +contextual only [hs, fr_ite, ite_self, implies_true, b27, upd_stored, fr_setUnitState (sub_trans rfl hμ)];
        done)

def kf_buttonCurtain : Nat := 0x3B77ECEE4
theorem fr_buttonCurtain {μ : Nat} (hμ : sub kf_buttonCurtain μ = true) {r₀ s : State} (hs : Keeps μ r₀ s) : Keeps μ r₀ (buttonCurtain s) :=
        by
  unfold buttonCurtain
  simp (maxDischargeDepth := 40) +contextual only [hs, fr_ite, ite_self, implies_true, fr_put (sub_trans rfl hμ), fr_triggerCurtain (sub_trans
        rfl hμ)]

def kf_criticalError : Nat := 0x3B77ECEE4
theorem fr_criticalError {μ : Nat} (hμ : sub kf_criticalError μ = true) {r₀ s : State} (hs : Keeps μ r₀ s) : Keeps μ r₀ (criticalError s) :=
        by
  unfold criticalError
  simp (maxDischargeDepth := 40) +contextual only [hs, fr_ite, ite_self, implies_true, fr_bump (sub_trans rfl hμ), fr_deviceReset (sub_trans
        rfl hμ), fr_raise (sub_trans rfl hμ)]

def kf_lockOut : Nat := 0x3B77ECEE4
theorem fr_lockOut {μ : Nat} (hμ : sub kf_lockOut μ = true) {r₀ s : State} (hs : Keeps μ r₀ s) : Keeps μ r₀ (lockOut s) := by
  have b29 : μ.testBit 29 = true := sub_bit hμ rfl
  unfold lockOut
  simp (maxDischargeDepth := 40) +contextual only [hs, fr_ite, ite_self, implies_true, b29, upd_modes, fr_bump (sub_trans rfl hμ),
        fr_enterFall (sub_trans rfl hμ), fr_raise (sub_trans rfl hμ), fr_triggerCurtain (sub_trans rfl hμ)]

def kf_writeSlot : Nat := 0x100000000
theorem fr_writeSlot {μ : Nat} (hμ : sub kf_writeSlot μ = true) {r₀ : State} {r : RecorderRecord} {f : RecorderRecord → List RecorderRecord → Option (List RecorderRecord)} {s t : State}
    (h : writeSlot r f s = some t) (hs : Keeps μ r₀ s) : Keeps μ r₀ t := by
  unfold writeSlot at h
  simp only [Option.map_eq_some_iff] at h
  obtain ⟨l, -, rfl⟩ := h
  exact fr_put (sub_trans rfl hμ) (s := { s with recd := { s.recd with records := l } }) _ _ (upd_recd (sub_bit hμ rfl) hs _)

def kf_dropRecord : Nat := 0x180000064
theorem fr_dropRecord {μ : Nat} (hμ : sub kf_dropRecord μ = true) {r₀ s : State} (hs : Keeps μ r₀ s) : Keeps μ r₀ (dropRecord s) := by
  have b32 : μ.testBit 32 = true := sub_bit hμ rfl
  unfold dropRecord
  simp (maxDischargeDepth := 40) +contextual only [hs, fr_ite, ite_self, implies_true, b32, upd_recd, fr_bump (sub_trans rfl hμ), fr_raise
        (sub_trans rfl hμ)]

def kf_storeRecord : Nat := 0x180000064
theorem fr_storeRecord {μ : Nat} (hμ : sub kf_storeRecord μ = true) {r₀ : State} (r : RecorderRecord) {s : State} (hs : Keeps μ r₀ s) : Keeps μ r₀ (storeRecord r s) := by
  have h (x : RecorderRecord) (f : RecorderRecord → List RecorderRecord → Option (List RecorderRecord)) :
      Keeps μ r₀ ((writeSlot x f s).getD (dropRecord s)) := by
    cases hx : writeSlot x f s with
    | none => exact fr_dropRecord (sub_trans rfl hμ) hs
    | some t => exact fr_writeSlot (sub_trans rfl hμ) hx hs
  unfold storeRecord
  split
  · exact h _ _
  · split
    · split
      · split
        · rename_i t ht
          have := fr_writeSlot (sub_trans rfl hμ) ht hs
          exact upd_recd (sub_bit hμ rfl) this _
        · exact fr_dropRecord (sub_trans rfl hμ) hs
      · exact fr_raise (sub_trans rfl hμ) _ (fr_bump (sub_trans rfl hμ) _ (h _ _))
    · exact h _ _

def kf_writeNextRecord : Nat := 0x180000064
theorem fr_writeNextRecord {μ : Nat} (hμ : sub kf_writeNextRecord μ = true) {r₀ s : State} (hs : Keeps μ r₀ s) : Keeps μ r₀ (writeNextRecord
        s) := by
  have b32 : μ.testBit 32 = true := sub_bit hμ rfl
  unfold writeNextRecord
  (try simp (maxDischargeDepth := 40) +contextual only [hs, fr_ite, ite_self, implies_true, b32, upd_recd, fr_storeRecord (sub_trans rfl hμ)])
  repeat' split
  all_goals first
    | (with_reducible exact hs)
    | (simp (maxDischargeDepth := 40) +contextual only [hs, fr_ite, ite_self, implies_true, b32, upd_recd, fr_storeRecord (sub_trans rfl hμ)];
        done)

def kf_clearLatch : Nat := 0x380000064
theorem fr_clearLatch {μ : Nat} (hμ : sub kf_clearLatch μ = true) (src count stamp : Nat) {r₀ s : State} (hs : Keeps μ r₀ s) : Keeps μ r₀
        (clearLatch src count stamp s) := by
  unfold clearLatch
  simp (maxDischargeDepth := 40) +contextual only [hs, fr_ite, ite_self, implies_true, fr_put (sub_trans rfl hμ), fr_count (sub_trans rfl hμ),
        fr_latchMsi (sub_trans rfl hμ)]

def kf_clearRecorder : Nat := 0x180000064
theorem fr_clearRecorder {μ : Nat} (hμ : sub kf_clearRecorder μ = true) (arg stamp : Nat) {r₀ s : State} (hs : Keeps μ r₀ s) : Keeps μ r₀
        (clearRecorder arg stamp s) := by
  have b32 : μ.testBit 32 = true := sub_bit hμ rfl
  unfold clearRecorder
  simp (maxDischargeDepth := 40) +contextual only [hs, fr_ite, ite_self, implies_true, b32, upd_recd, fr_put (sub_trans rfl hμ), fr_raise
        (sub_trans rfl hμ), fr_recordOccurrence (sub_trans rfl hμ)]

def kf_raiseVcore : Nat := 0x190000064
theorem fr_raiseVcore {μ : Nat} (hμ : sub kf_raiseVcore μ = true) {r₀ s : State} (hs : Keeps μ r₀ s) : Keeps μ r₀ (raiseVcore s) := by
  have b28 : μ.testBit 28 = true := sub_bit hμ rfl
  unfold raiseVcore
  simp (maxDischargeDepth := 40) +contextual only [hs, fr_ite, ite_self, implies_true, b28, upd_pow, fr_raise (sub_trans rfl hμ)]

def kf_endWindow : Nat := 0x180000064
theorem fr_endWindow {μ : Nat} (hμ : sub kf_endWindow μ = true) (p : Port) {r₀ s : State} (hs : Keeps μ r₀ s) : Keeps μ r₀ (endWindow p s)
        := by
  unfold endWindow
  simp (maxDischargeDepth := 40) +contextual only [hs, fr_ite, ite_self, implies_true, fr_bump (sub_trans rfl hμ), fr_put (sub_trans rfl hμ),
        fr_raiseTo (sub_trans rfl hμ), fr_setPort (sub_trans rfl hμ), fr_raiseIf (sub_trans rfl hμ)]

def kf_rearmSamples : Nat := 0x200000000
theorem fr_rearmSamples {μ : Nat} (hμ : sub kf_rearmSamples μ = true) {r₀ s : State} (hs : Keeps μ r₀ s) : Keeps μ r₀ (rearmSamples s) := by
  have b33 : μ.testBit 33 = true := sub_bit hμ rfl
  unfold rearmSamples
  simp (maxDischargeDepth := 40) +contextual only [hs, fr_ite, ite_self, implies_true, b33, upd_obs]

def kf_takeSample : Nat := 0x200000000
theorem fr_takeSample {μ : Nat} (hμ : sub kf_takeSample μ = true) {r₀ s : State} (hs : Keeps μ r₀ s) : Keeps μ r₀ (takeSample s) := by
  have b33 : μ.testBit 33 = true := sub_bit hμ rfl
  unfold takeSample
  simp (maxDischargeDepth := 40) +contextual only [hs, fr_ite, ite_self, implies_true, b33, upd_obs, fr_drawn (sub_trans rfl hμ),
        fr_rearmSamples (sub_trans rfl hμ)]

def kf_emptySamples : Nat := 0x200000000
theorem fr_emptySamples {μ : Nat} (hμ : sub kf_emptySamples μ = true) {r₀ s : State} (hs : Keeps μ r₀ s) : Keeps μ r₀ (emptySamples s) := by
  have b33 : μ.testBit 33 = true := sub_bit hμ rfl
  unfold emptySamples
  simp (maxDischargeDepth := 40) +contextual only [hs, fr_ite, ite_self, implies_true, b33, upd_obs, fr_rearmSamples (sub_trans rfl hμ)]

def kf_emptyNotices : Nat := 0x80000000
theorem fr_emptyNotices {μ : Nat} (hμ : sub kf_emptyNotices μ = true) {r₀ s : State} (hs : Keeps μ r₀ s) : Keeps μ r₀ (emptyNotices s) := by
  have b31 : μ.testBit 31 = true := sub_bit hμ rfl
  unfold emptyNotices
  simp (maxDischargeDepth := 40) +contextual only [hs, fr_ite, ite_self, implies_true, b31, upd_mgmt]

def kf_emptyReceived : Nat := 0x80000000
theorem fr_emptyReceived {μ : Nat} (hμ : sub kf_emptyReceived μ = true) {r₀ s : State} (hs : Keeps μ r₀ s) : Keeps μ r₀ (emptyReceived s) :=
        by
  have b31 : μ.testBit 31 = true := sub_bit hμ rfl
  unfold emptyReceived
  simp (maxDischargeDepth := 40) +contextual only [hs, fr_ite, ite_self, implies_true, b31, upd_mgmt]

def kf_flushIf : Nat := 0x180000064
theorem fr_flushIf {μ : Nat} (hμ : sub kf_flushIf μ = true) (on : Bool) {empty : State → State} {r₀ s : State} (he : ∀ t, Keeps μ r₀ t → Keeps μ r₀ (empty t)) (hs : Keeps μ r₀ s) :
    Keeps μ r₀ (flushIf on empty s) := fr_cond (fr_raise (sub_trans rfl hμ) _ (fr_bump (sub_trans rfl hμ) _ (he _ hs))) hs

def kf_flushQueues : Nat := 0x380000064
theorem fr_flushQueues {μ : Nat} (hμ : sub kf_flushQueues μ = true) (bits : Nat) {r₀ s : State} (hs : Keeps μ r₀ s) : Keeps μ r₀
        (flushQueues bits s) := by
  unfold flushQueues
  simp (maxDischargeDepth := 40) +contextual only [hs, fr_ite, ite_self, implies_true, fr_emptyNotices (sub_trans rfl hμ), fr_emptyReceived
        (sub_trans rfl hμ), fr_emptySamples (sub_trans rfl hμ), fr_flushIf (sub_trans rfl hμ)]

def kf_readSource : Nat := 0x380000064
theorem fr_readSource {μ : Nat} (hμ : sub kf_readSource μ = true) (c : DmaChannel) {r₀ s : State} (hs : Keeps μ r₀ s) : Keeps μ r₀
        (readSource c s) := by
  unfold readSource
  simp (maxDischargeDepth := 40) +contextual only [hs, fr_ite, ite_self, implies_true, fr_agentReads (sub_trans rfl hμ), fr_foldl]

def kf_takeItems : Nat := 0x280000000
theorem fr_takeItems {μ : Nat} (hμ : sub kf_takeItems μ = true) (queue n : Nat) {r₀ s : State} (hs : Keeps μ r₀ s) : Keeps μ r₀ (takeItems
        queue n s) := by
  have b31 : μ.testBit 31 = true := sub_bit hμ rfl
  have b33 : μ.testBit 33 = true := sub_bit hμ rfl
  unfold takeItems
  simp (maxDischargeDepth := 40) +contextual only [hs, fr_ite, ite_self, implies_true, b31, b33, upd_draws_obs, upd_mgmt, fr_rearmSamples
        (sub_trans rfl hμ)]

def kf_placeLines : Nat := 0x5020C80
theorem fr_placeLines {μ : Nat} (hμ : sub kf_placeLines μ = true) {r₀ : State} (stamp : Nat) (lines : List BurstLine) {s : State} (hs : Keeps μ r₀ s) : Keeps μ r₀ (placeLines stamp lines s) := by
  refine fr_foldl (fun t x ht => ?_) _ hs
  refine fr_dropCached (sub_trans rfl hμ) _ (fr_storeCommitted (sub_trans rfl hμ) _ _ _ _ _ _ ?_)
  split
  · exact fr_markConflict (sub_trans rfl hμ) _ _ ht
  · exact ht

def kf_endTransfer : Nat := 0x380000064
theorem fr_endTransfer {μ : Nat} (hμ : sub kf_endTransfer μ = true) (k state : Nat) {r₀ s : State} (hs : Keeps μ r₀ s) : Keeps μ r₀
        (endTransfer k state s) := by
  unfold endTransfer
  simp (maxDischargeDepth := 40) +contextual only [hs, fr_ite, ite_self, implies_true, fr_setChannel (sub_trans rfl hμ), fr_raiseIf (sub_trans
        rfl hμ)]

def kf_noteBurst : Nat := 0x380000064
theorem fr_noteBurst {μ : Nat} (hμ : sub kf_noteBurst μ = true) (k n stamp poisoned : Nat) (carry : List Byte) {r₀ s : State} (hs : Keeps μ
        r₀ s) : Keeps μ r₀ (noteBurst k n stamp poisoned carry s) := by
  unfold noteBurst
  simp (maxDischargeDepth := 40) +contextual only [hs, fr_ite, ite_self, implies_true, fr_addTo (sub_trans rfl hμ), fr_setChannel (sub_trans
        rfl hμ), fr_count (sub_trans rfl hμ)]

def kf_placeBurst : Nat := 0x387020EE4
theorem fr_placeBurst {μ : Nat} (hμ : sub kf_placeBurst μ = true) {r₀ : State} {k n : Nat} {lines : List BurstLine} {carry : List Byte} {s t : State}
    (h : placeBurst k n lines carry s = some t) (hs : Keeps μ r₀ s) : Keeps μ r₀ t := by
  unfold placeBurst at h
  simp only [Option.ite_none_left_eq_some, Option.some.injEq] at h
  obtain ⟨-, rfl⟩ := h
  refine fr_noteBurst (sub_trans rfl hμ) _ _ _ _ _ ?_
  have := fr_placeLines (sub_trans rfl hμ) s.stampNow lines (fr_takeStamp (sub_trans rfl hμ) hs)
  split
  · exact this
  · exact fr_programAll (sub_trans rfl hμ) this

def kf_afterBurst : Nat := 0x380000064
theorem fr_afterBurst {μ : Nat} (hμ : sub kf_afterBurst μ = true) (k : Nat) (last : Bool) {r₀ s : State} (hs : Keeps μ r₀ s) : Keeps μ r₀
        (afterBurst k last s) := by
  unfold afterBurst
  simp (maxDischargeDepth := 40) +contextual only [hs, fr_ite, ite_self, implies_true, fr_endTransfer (sub_trans rfl hμ)]

def kf_copyBurst : Nat := 0x387020EE4
theorem fr_copyBurst {μ : Nat} (hμ : sub kf_copyBurst μ = true) {r₀ : State} (k : Nat) {s : State} (hs : Keeps μ r₀ s) : Keeps μ r₀ (copyBurst k s) := by
  unfold copyBurst
  simp only
  split
  · exact fr_haltChannel (sub_trans rfl hμ) _ _ _ _ hs
  · split
    · exact fr_foldl (fun t g ht => fr_startRebuild (sub_trans rfl hμ) _ ht) _ hs
    · split
      · exact hs
      · split
        · exact hs
        · rename_i t h
          exact fr_afterBurst (sub_trans rfl hμ) _ _ (fr_placeBurst (sub_trans rfl hμ) h (fr_readSource (sub_trans rfl hμ) _ hs))

def kf_drainBurst : Nat := 0x387020EE4
theorem fr_drainBurst {μ : Nat} (hμ : sub kf_drainBurst μ = true) {r₀ : State} (k : Nat) (timer : Bool) {s : State} (hs : Keeps μ r₀ s) : Keeps μ r₀ (drainBurst k timer s) := by
  unfold drainBurst
  simp only
  repeat' split
  all_goals first
    | with_reducible exact hs
    | exact fr_haltChannel (sub_trans rfl hμ) _ _ _ _ hs
    | exact fr_afterBurst (sub_trans rfl hμ) _ _ hs
    | (rename_i h; exact fr_afterBurst (sub_trans rfl hμ) _ _ (fr_placeBurst (sub_trans rfl hμ) h (fr_drawn (sub_trans rfl hμ) (fr_takeItems (sub_trans rfl hμ) _ _ hs))))

def kf_nextBurst : Nat := 0x387020EE4
theorem fr_nextBurst {μ : Nat} (hμ : sub kf_nextBurst μ = true) (k : Nat) (timer : Bool) {r₀ s : State} (hs : Keeps μ r₀ s) : Keeps μ r₀
        (nextBurst k timer s) := by
  unfold nextBurst
  simp (maxDischargeDepth := 40) +contextual only [hs, fr_ite, ite_self, implies_true, fr_copyBurst (sub_trans rfl hμ), fr_drainBurst
        (sub_trans rfl hμ)]

def kf_releaseChannel : Nat := 0x200000000
theorem fr_releaseChannel {μ : Nat} (hμ : sub kf_releaseChannel μ = true) (k : Nat) {r₀ s : State} (hs : Keeps μ r₀ s) : Keeps μ r₀
        (releaseChannel k s) := by
  unfold releaseChannel
  simp (maxDischargeDepth := 40) +contextual only [hs, fr_ite, ite_self, implies_true, fr_setChannel (sub_trans rfl hμ)]

def kf_readIdentity : Nat := 0x190000065
theorem fr_readIdentity {μ : Nat} (hμ : sub kf_readIdentity μ = true) {r₀ s : State} (hs : Keeps μ r₀ s) : Keeps μ r₀ (readIdentity s) := by
  have b28 : μ.testBit 28 = true := sub_bit hμ rfl
  unfold readIdentity
  (try simp (maxDischargeDepth := 40) +contextual only [hs, fr_ite, ite_self, implies_true, b28, upd_pow, fr_bump (sub_trans rfl hμ), fr_put
        (sub_trans rfl hμ), fr_putBytes (sub_trans rfl hμ), fr_raise (sub_trans rfl hμ)])
  repeat' split
  all_goals first
    | (with_reducible exact hs)
    | (simp (maxDischargeDepth := 40) +contextual only [hs, fr_ite, ite_self, implies_true, b28, upd_pow, fr_bump (sub_trans rfl hμ), fr_put
        (sub_trans rfl hμ), fr_putBytes (sub_trans rfl hμ), fr_raise (sub_trans rfl hμ)]; done)

def kf_powerOn : Nat := 0x1F0000065
theorem fr_powerOn {μ : Nat} (hμ : sub kf_powerOn μ = true) {r₀ s : State} (hs : Keeps μ r₀ s) : Keeps μ r₀ (powerOn s) := by
  have b28 : μ.testBit 28 = true := sub_bit hμ rfl
  have b29 : μ.testBit 29 = true := sub_bit hμ rfl
  have b30 : μ.testBit 30 = true := sub_bit hμ rfl
  have b31 : μ.testBit 31 = true := sub_bit hμ rfl
  have b32 : μ.testBit 32 = true := sub_bit hμ rfl
  unfold powerOn
  simp (maxDischargeDepth := 40) +contextual only [hs, fr_ite, ite_self, implies_true, b28, b29, b30, b31, b32, upd_pow_modes_therm_mgmt_recd,
        fr_bump (sub_trans rfl hμ), fr_put (sub_trans rfl hμ), fr_endEpisode (sub_trans rfl hμ), fr_railsOn (sub_trans rfl hμ),
        fr_readIdentity (sub_trans rfl hμ), fr_resetEntries (sub_trans rfl hμ), fr_unmeasured (sub_trans rfl hμ)]

def kf_afterAbsence : Nat := 0x10000000
theorem fr_afterAbsence {μ : Nat} (hμ : sub kf_afterAbsence μ = true) {r₀ s : State} (hs : Keeps μ r₀ s) : Keeps μ r₀ (afterAbsence s) := by
  have b28 : μ.testBit 28 = true := sub_bit hμ rfl
  unfold afterAbsence
  simp (maxDischargeDepth := 40) +contextual only [hs, fr_ite, ite_self, implies_true, b28, upd_pow, fr_put (sub_trans rfl hμ)]

def kf_connectInput : Nat := 0x1F0000065
theorem fr_connectInput {μ : Nat} (hμ : sub kf_connectInput μ = true) {r₀ s : State} (hs : Keeps μ r₀ s) : Keeps μ r₀ (connectInput s) := by
  have b28 : μ.testBit 28 = true := sub_bit hμ rfl
  unfold connectInput
  simp (maxDischargeDepth := 40) +contextual only [hs, fr_ite, ite_self, implies_true, b28, upd_pow, fr_afterAbsence (sub_trans rfl hμ),
        fr_powerOn (sub_trans rfl hμ), fr_setMode (sub_trans rfl hμ)]

def kf_measureInput : Nat := 0x1B0000065
theorem fr_measureInput {μ : Nat} (hμ : sub kf_measureInput μ = true) (mv : Nat) (known : Bool) {r₀ s : State} (hs : Keeps μ r₀ s) : Keeps μ
        r₀ (measureInput mv known s) := by
  have b29 : μ.testBit 29 = true := sub_bit hμ rfl
  unfold measureInput
  simp (maxDischargeDepth := 40) +contextual only [hs, fr_ite, ite_self, implies_true, b29, upd_modes, fr_noteVin (sub_trans rfl hμ),
        fr_readIdentity (sub_trans rfl hμ), fr_setBand (sub_trans rfl hμ)]

def kf_autoStart : Nat := 0x1B0000064
theorem fr_autoStart {μ : Nat} (hμ : sub kf_autoStart μ = true) {r₀ s : State} (hs : Keeps μ r₀ s) : Keeps μ r₀ (autoStart s) := by
  have b29 : μ.testBit 29 = true := sub_bit hμ rfl
  unfold autoStart
  simp (maxDischargeDepth := 40) +contextual only [hs, fr_ite, ite_self, implies_true, b29, upd_modes, fr_startRise (sub_trans rfl hμ)]

def kf_noteRailFault : Nat := 0x190000064
theorem fr_noteRailFault {μ : Nat} (hμ : sub kf_noteRailFault μ = true) (code : Nat) {r₀ s : State} (hs : Keeps μ r₀ s) : Keeps μ r₀
        (noteRailFault code s) := by
  have b28 : μ.testBit 28 = true := sub_bit hμ rfl
  unfold noteRailFault
  simp (maxDischargeDepth := 40) +contextual only [hs, fr_ite, ite_self, implies_true, b28, upd_pow, fr_bump (sub_trans rfl hμ), fr_raise
        (sub_trans rfl hμ), fr_writeRecord (sub_trans rfl hμ)]

def kf_endFall : Nat := 0x1B0000064
theorem fr_endFall {μ : Nat} (hμ : sub kf_endFall μ = true) {r₀ : State} (stuck : Nat) (vinAbsent : Bool) {s : State} (hs : Keeps μ r₀ s) : Keeps μ r₀ (endFall stuck vinAbsent s) := by
  unfold endFall
  simp only
  generalize hA : List.foldl _ ((railsOff switchedRails.reverse s).put 0x20100E _) _ = a
  have ha : Keeps μ r₀ a := by
    rw [← hA]
    exact fr_foldl (fun t c ht => fr_raise (sub_trans rfl hμ) _ (fr_writeRecord (sub_trans rfl hμ) _ _ _ _ (fr_setRail (sub_trans rfl hμ) _ _ ht))) _ (fr_put (sub_trans rfl hμ) _ _ (fr_railsOff (sub_trans rfl hμ) _ hs))
  clear hA
  generalize hB : unmeasured _ = b
  have hb : Keeps μ r₀ b := by rw [← hB]; exact fr_unmeasured (sub_trans rfl hμ) (upd_pow_modes (sub_bit hμ rfl) (sub_bit hμ rfl) ha _ _)
  clear hB
  have hd : Keeps μ r₀ (if (a.pow.fourthReset : Bool) = true then raise 255 b else b) := fr_cond (fr_raise (sub_trans rfl hμ) _ hb) hb
  generalize (if (a.pow.fourthReset : Bool) = true then raise 255 b else b) = d at hd ⊢
  have he : Keeps μ r₀ (if d.get 0x205003 = 2 then d.put 0x205003 3 else d) := fr_cond (fr_put (sub_trans rfl hμ) _ _ hd) hd
  generalize (if d.get 0x205003 = 2 then d.put 0x205003 3 else d) = e at he ⊢
  refine fr_cond (fr_setMode (sub_trans rfl hμ) _ (upd_modes (sub_bit hμ rfl) he _)) (fr_cond (fr_goOff (sub_trans rfl hμ) he) (fr_cond (fr_startRise (sub_trans rfl hμ) (fr_setMode (sub_trans rfl hμ) _ he)) (fr_setMode (sub_trans rfl hμ) _ he)))

def kf_startDoze : Nat := 0x20000000
theorem fr_startDoze {μ : Nat} (hμ : sub kf_startDoze μ = true) {r₀ s : State} (hs : Keeps μ r₀ s) : Keeps μ r₀ (startDoze s) := by
  have b29 : μ.testBit 29 = true := sub_bit hμ rfl
  unfold startDoze
  simp (maxDischargeDepth := 40) +contextual only [hs, fr_ite, ite_self, implies_true, b29, upd_modes]

def kf_dozeStep : Nat := 0x39702CEE4
theorem fr_dozeStep {μ : Nat} (hμ : sub kf_dozeStep μ = true) (n : Nat) {r₀ s : State} (hs : Keeps μ r₀ s) : Keeps μ r₀ (dozeStep n s) := by
  unfold dozeStep
  simp (maxDischargeDepth := 40) +contextual only [hs, fr_ite, ite_self, implies_true, fr_drainPort (sub_trans rfl hμ), fr_linksL1 (sub_trans
        rfl hμ), fr_programAll (sub_trans rfl hμ), fr_railsOff (sub_trans rfl hμ), fr_withholdCredits (sub_trans rfl hμ), fr_writeBack
        (sub_trans rfl hμ), fr_writeTableImage (sub_trans rfl hμ)]

def kf_undoDoze : Nat := 0x100000E0
theorem fr_undoDoze {μ : Nat} (hμ : sub kf_undoDoze μ = true) (n : Nat) {r₀ s : State} (hs : Keeps μ r₀ s) : Keeps μ r₀ (undoDoze n s) := by
  have b7 : μ.testBit 7 = true := sub_bit hμ rfl
  unfold undoDoze
  simp (maxDischargeDepth := 40) +contextual only [hs, fr_ite, ite_self, implies_true, b7, upd_staging, fr_linksL1 (sub_trans rfl hμ),
        fr_railsOn (sub_trans rfl hμ), fr_withholdCredits (sub_trans rfl hμ)]

def kf_abortPoint : Nat := 0x1B00000E4
theorem fr_abortPoint {μ : Nat} (hμ : sub kf_abortPoint μ = true) (n : Nat) {r₀ s : State} (hs : Keeps μ r₀ s) : Keeps μ r₀ (abortPoint n s)
        := by
  have b29 : μ.testBit 29 = true := sub_bit hμ rfl
  unfold abortPoint
  (try simp (maxDischargeDepth := 40) +contextual only [hs, fr_ite, ite_self, implies_true, b29, upd_modes, fr_bump (sub_trans rfl hμ),
        fr_endAction (sub_trans rfl hμ), fr_raise (sub_trans rfl hμ), fr_setMode (sub_trans rfl hμ), fr_undoDoze (sub_trans rfl hμ)])
  repeat' split
  all_goals first
    | (with_reducible exact hs)
    | (simp (maxDischargeDepth := 40) +contextual only [hs, fr_ite, ite_self, implies_true, b29, upd_modes, fr_bump (sub_trans rfl hμ),
        fr_endAction (sub_trans rfl hμ), fr_raise (sub_trans rfl hμ), fr_setMode (sub_trans rfl hμ), fr_undoDoze (sub_trans rfl hμ)]; done)

def kf_wakeSource : Nat := 0x1B0000064
theorem fr_wakeSource {μ : Nat} (hμ : sub kf_wakeSource μ = true) (source : Nat) {r₀ s : State} (hs : Keeps μ r₀ s) : Keeps μ r₀ (wakeSource
        source s) := by
  have b29 : μ.testBit 29 = true := sub_bit hμ rfl
  unfold wakeSource
  simp (maxDischargeDepth := 40) +contextual only [hs, fr_ite, ite_self, implies_true, b29, upd_modes, fr_put (sub_trans rfl hμ), fr_raise
        (sub_trans rfl hμ), fr_wakeBy (sub_trans rfl hμ), fr_wakeRise (sub_trans rfl hμ)]

def kf_offRequest : Nat := 0x3B77ECEE4
theorem fr_offRequest {μ : Nat} (hμ : sub kf_offRequest μ = true) {r₀ s : State} (hs : Keeps μ r₀ s) : Keeps μ r₀ (offRequest s) := by
  have b29 : μ.testBit 29 = true := sub_bit hμ rfl
  unfold offRequest
  simp (maxDischargeDepth := 40) +contextual only [hs, fr_ite, ite_self, implies_true, b29, upd_modes, fr_enterFall (sub_trans rfl hμ),
        fr_triggerCurtain (sub_trans rfl hμ)]

def kf_onRequest : Nat := 0x1B0000064
theorem fr_onRequest {μ : Nat} (hμ : sub kf_onRequest μ = true) {r₀ s : State} (hs : Keeps μ r₀ s) : Keeps μ r₀ (onRequest s) := by
  have b29 : μ.testBit 29 = true := sub_bit hμ rfl
  unfold onRequest
  simp (maxDischargeDepth := 40) +contextual only [hs, fr_ite, ite_self, implies_true, b29, upd_modes, fr_wakeRise (sub_trans rfl hμ)]

def kf_retryRails : Nat := 0x1B0000064
theorem fr_retryRails {μ : Nat} (hμ : sub kf_retryRails μ = true) {r₀ s : State} (hs : Keeps μ r₀ s) : Keeps μ r₀ (retryRails s) := by
  have b28 : μ.testBit 28 = true := sub_bit hμ rfl
  unfold retryRails
  simp (maxDischargeDepth := 40) +contextual only [hs, fr_ite, ite_self, implies_true, b28, upd_pow, fr_startRise (sub_trans rfl hμ)]

def kf_enterService : Nat := 0x1B07800E4
theorem fr_enterService {μ : Nat} (hμ : sub kf_enterService μ = true) {r₀ s : State} (hs : Keeps μ r₀ s) : Keeps μ r₀ (enterService s) := by
  have b29 : μ.testBit 29 = true := sub_bit hμ rfl
  unfold enterService
  simp (maxDischargeDepth := 40) +contextual only [hs, fr_ite, ite_self, implies_true, b29, upd_modes, fr_loseAll (sub_trans rfl hμ), fr_raise
        (sub_trans rfl hμ), fr_setMode (sub_trans rfl hμ), fr_stopDozeEntry (sub_trans rfl hμ), fr_undoDoze (sub_trans rfl hμ)]

def kf_leaveService : Nat := 0x3AF000064
theorem fr_leaveService {μ : Nat} (hμ : sub kf_leaveService μ = true) {r₀ s : State} (hs : Keeps μ r₀ s) : Keeps μ r₀ (leaveService s) := by
  unfold leaveService
  simp (maxDischargeDepth := 40) +contextual only [hs, fr_ite, ite_self, implies_true, fr_raise (sub_trans rfl hμ), fr_releaseScratch
        (sub_trans rfl hμ), fr_setMode (sub_trans rfl hμ)]

def kf_activateOnline : Nat := 0x1A0000064
theorem fr_activateOnline {μ : Nat} (hμ : sub kf_activateOnline μ = true) (result : ActivationResult) {r₀ s : State} (hs : Keeps μ r₀ s) :
        Keeps μ r₀ (activateOnline result s) := by
  have b29 : μ.testBit 29 = true := sub_bit hμ rfl
  unfold activateOnline
  (try simp (maxDischargeDepth := 40) +contextual only [hs, fr_ite, ite_self, implies_true, b29, upd_modes, fr_drawn (sub_trans rfl hμ),
        fr_raise (sub_trans rfl hμ), fr_setAction (sub_trans rfl hμ)])
  repeat' split
  all_goals first
    | (with_reducible exact hs)
    | (simp (maxDischargeDepth := 40) +contextual only [hs, fr_ite, ite_self, implies_true, b29, upd_modes, fr_drawn (sub_trans rfl hμ), fr_raise
        (sub_trans rfl hμ), fr_setAction (sub_trans rfl hμ)]; done)

def kf_stageImage : Nat := 0x1A0000064
theorem fr_stageImage {μ : Nat} (hμ : sub kf_stageImage μ = true) (signatureOk : Bool) (version : Nat) {r₀ s : State} (hs : Keeps μ r₀ s) :
        Keeps μ r₀ (stageImage signatureOk version s) := by
  have b29 : μ.testBit 29 = true := sub_bit hμ rfl
  unfold stageImage
  simp (maxDischargeDepth := 40) +contextual only [hs, fr_ite, ite_self, implies_true, b29, upd_modes, fr_put (sub_trans rfl hμ), fr_raise
        (sub_trans rfl hμ)]

def kf_dropBlockAt : Nat := 0xC00
theorem fr_dropBlockAt {μ : Nat} (hμ : sub kf_dropBlockAt μ = true) (mem : MemKind) (address : Nat) {r₀ s : State} (hs : Keeps μ r₀ s) :
        Keeps μ r₀ (dropBlockAt mem address s) := by
  have b10 : μ.testBit 10 = true := sub_bit hμ rfl
  have b11 : μ.testBit 11 = true := sub_bit hμ rfl
  unfold dropBlockAt
  (try simp (maxDischargeDepth := 40) +contextual only [hs, fr_ite, ite_self, implies_true, b10, b11, upd_l1, upd_l2])
  repeat' split
  all_goals first
    | (with_reducible exact hs)
    | (simp (maxDischargeDepth := 40) +contextual only [hs, fr_ite, ite_self, implies_true, b10, b11, upd_l1, upd_l2]; done)

def kf_poisonQueued : Nat := 0x100000060
theorem fr_poisonQueued {μ : Nat} (hμ : sub kf_poisonQueued μ = true) (p : Port) (tag : Nat) {r₀ s : State} (hs : Keeps μ r₀ s) : Keeps μ r₀
        (poisonQueued p tag s) := by
  unfold poisonQueued
  simp (maxDischargeDepth := 40) +contextual only [hs, fr_ite, ite_self, implies_true, fr_modPort (sub_trans rfl hμ), fr_nameLines (sub_trans
        rfl hμ)]

def kf_rebuildDram : Nat := 0x188000064
theorem fr_rebuildDram {μ : Nat} (hμ : sub kf_rebuildDram μ = true) {r₀ s : State} (hs : Keeps μ r₀ s) : Keeps μ r₀ (rebuildDram s) := by
  unfold rebuildDram
  simp (maxDischargeDepth := 40) +contextual only [hs, fr_ite, ite_self, implies_true, fr_detectSomewhere (sub_trans rfl hμ), fr_raise
        (sub_trans rfl hμ)]

def kf_structureError : Nat := 0x3BF7FCEE4
theorem fr_structureError {μ : Nat} (hμ : sub kf_structureError μ = true) (what : Structure) {r₀ s : State} (hs : Keeps μ r₀ s) : Keeps μ r₀
        (structureError what s) := by
  have b7 : μ.testBit 7 = true := sub_bit hμ rfl
  have b10 : μ.testBit 10 = true := sub_bit hμ rfl
  have b11 : μ.testBit 11 = true := sub_bit hμ rfl
  unfold structureError
  (try simp (maxDischargeDepth := 40) +contextual only [hs, fr_ite, ite_self, implies_true, b7, b10, b11, upd_l1, upd_l2, upd_staging,
        fr_setGroup (sub_trans rfl hμ), fr_cacheError (sub_trans rfl hμ), fr_criticalError (sub_trans rfl hμ), fr_detectError (sub_trans rfl
        hμ), fr_detectSomewhere (sub_trans rfl hμ), fr_dropCached (sub_trans rfl hμ), fr_nameLines (sub_trans rfl hμ), fr_poisonQueued
        (sub_trans rfl hμ), fr_raise (sub_trans rfl hμ), fr_rebuildDram (sub_trans rfl hμ)])
  repeat' split
  all_goals first
    | (with_reducible exact hs)
    | (simp (maxDischargeDepth := 40) +contextual only [hs, fr_ite, ite_self, implies_true, b7, b10, b11, upd_l1, upd_l2, upd_staging, fr_setGroup
        (sub_trans rfl hμ), fr_cacheError (sub_trans rfl hμ), fr_criticalError (sub_trans rfl hμ), fr_detectError (sub_trans rfl hμ),
        fr_detectSomewhere (sub_trans rfl hμ), fr_dropCached (sub_trans rfl hμ), fr_nameLines (sub_trans rfl hμ), fr_poisonQueued (sub_trans
        rfl hμ), fr_raise (sub_trans rfl hμ), fr_rebuildDram (sub_trans rfl hμ)]; done)

def kf_enterRemap : Nat := 0x188000064
theorem fr_enterRemap {μ : Nat} (hμ : sub kf_enterRemap μ = true) (mem : MemKind) (row : Nat) {r₀ s : State} (hs : Keeps μ r₀ s) : Keeps μ
        r₀ (enterRemap mem row s) := by
  have b27 : μ.testBit 27 = true := sub_bit hμ rfl
  unfold enterRemap
  simp (maxDischargeDepth := 40) +contextual only [hs, fr_ite, ite_self, implies_true, b27, upd_stored, fr_bump (sub_trans rfl hμ), fr_raise
        (sub_trans rfl hμ)]

def kf_transientOutcome : Nat := 0x188000064
theorem fr_transientOutcome {μ : Nat} (hμ : sub kf_transientOutcome μ = true) {r₀ : State} (mem : MemKind) (address : Nat) {s : State} (hs : Keeps μ r₀ s) : Keeps μ r₀ (transientOutcome mem address s).1 := by
  unfold transientOutcome
  split
  · exact fr_raise (sub_trans rfl hμ) _ hs
  · exact fr_noteTransient (sub_trans rfl hμ) _ _ (fr_bump (sub_trans rfl hμ) _ (fr_setOutcome (sub_trans rfl hμ) _ _ _ hs))

def kf_lastingRow : Nat := 0x188000064
theorem fr_lastingRow {μ : Nat} (hμ : sub kf_lastingRow μ = true) (mem : MemKind) (row : Nat) {r₀ s : State} (hs : Keeps μ r₀ s) : Keeps μ
        r₀ (lastingRow mem row s) := by
  have b27 : μ.testBit 27 = true := sub_bit hμ rfl
  unfold lastingRow
  simp (maxDischargeDepth := 40) +contextual only [hs, fr_ite, ite_self, implies_true, b27, upd_stored, fr_bump (sub_trans rfl hμ),
        fr_enterRemap (sub_trans rfl hμ), fr_raise (sub_trans rfl hμ), fr_setOutcome (sub_trans rfl hμ)]

def kf_borrowUnit : Nat := 0x387000064
theorem fr_borrowUnit {μ : Nat} (hμ : sub kf_borrowUnit μ = true) (u : Nat) {r₀ s : State} (hs : Keeps μ r₀ s) : Keeps μ r₀ (borrowUnit u s)
        := by
  unfold borrowUnit
  simp (maxDischargeDepth := 40) +contextual only [hs, fr_ite, ite_self, implies_true, fr_setStripe (sub_trans rfl hμ), fr_unitReset
        (sub_trans rfl hμ)]

def kf_refreshSector : Nat := 0x182000064
theorem fr_refreshSector {μ : Nat} (hμ : sub kf_refreshSector μ = true) (unit : Nat) {r₀ s : State} (hs : Keeps μ r₀ s) : Keeps μ r₀
        (refreshSector unit s) := by
  unfold refreshSector
  simp (maxDischargeDepth := 40) +contextual only [hs, fr_ite, ite_self, implies_true, fr_scheduleRefresh (sub_trans rfl hμ)]

def kf_lastingSector : Nat := 0x38F000064
theorem fr_lastingSector {μ : Nat} (hμ : sub kf_lastingSector μ = true) (unit address : Nat) {r₀ s : State} (hs : Keeps μ r₀ s) : Keeps μ r₀
        (lastingSector unit address s) := by
  unfold lastingSector
  simp (maxDischargeDepth := 40) +contextual only [hs, fr_ite, ite_self, implies_true, fr_bump (sub_trans rfl hμ), fr_lastingFault (sub_trans
        rfl hμ), fr_raise (sub_trans rfl hμ), fr_setOutcome (sub_trans rfl hμ)]

def kf_transientSector : Nat := 0x38F000064
theorem fr_transientSector {μ : Nat} (hμ : sub kf_transientSector μ = true) (unit address : Nat) {r₀ s : State} (hs : Keeps μ r₀ s) : Keeps
        μ r₀ (transientSector unit address s) := by
  unfold transientSector
  simp (maxDischargeDepth := 40) +contextual only [hs, fr_ite, ite_self, implies_true, fr_lastingSector (sub_trans rfl hμ),
        fr_transientOutcome (sub_trans rfl hμ)]

def kf_takeScratch : Nat := 0x38F000064
theorem fr_takeScratch {μ : Nat} (hμ : sub kf_takeScratch μ = true) {r₀ s : State} (hs : Keeps μ r₀ s) : Keeps μ r₀ (takeScratch s) := by
  have b27 : μ.testBit 27 = true := sub_bit hμ rfl
  unfold takeScratch
  (try simp (maxDischargeDepth := 40) +contextual only [hs, fr_ite, ite_self, implies_true, b27, upd_stored, fr_borrowUnit (sub_trans rfl hμ),
        fr_setUnitState (sub_trans rfl hμ)])
  repeat' split
  all_goals first
    | (with_reducible exact hs)
    | (simp (maxDischargeDepth := 40) +contextual only [hs, fr_ite, ite_self, implies_true, b27, upd_stored, fr_borrowUnit (sub_trans rfl hμ),
        fr_setUnitState (sub_trans rfl hμ)]; done)

def kf_writeRaw : Nat := 0x38F000064
theorem fr_writeRaw {μ : Nat} (hμ : sub kf_writeRaw μ = true) {r₀ s : State} (hs : Keeps μ r₀ s) : Keeps μ r₀ (writeRaw s) := by
  have b27 : μ.testBit 27 = true := sub_bit hμ rfl
  unfold writeRaw
  (try simp (maxDischargeDepth := 40) +contextual only [hs, fr_ite, ite_self, implies_true, b27, upd_stored, fr_raise (sub_trans rfl hμ),
        fr_sectorProgrammed (sub_trans rfl hμ), fr_takeScratch (sub_trans rfl hμ)])
  repeat' split
  all_goals first
    | (with_reducible exact hs)
    | (simp (maxDischargeDepth := 40) +contextual only [hs, fr_ite, ite_self, implies_true, b27, upd_stored, fr_raise (sub_trans rfl hμ),
        fr_sectorProgrammed (sub_trans rfl hμ), fr_takeScratch (sub_trans rfl hμ)]; done)

def kf_readRaw : Nat := 0x38F000065
theorem fr_readRaw {μ : Nat} (hμ : sub kf_readRaw μ = true) (result : CodeResult) (decoded : List Byte) {r₀ s : State} (hs : Keeps μ r₀ s) :
        Keeps μ r₀ (readRaw result decoded s) := by
  unfold readRaw
  (try simp (maxDischargeDepth := 40) +contextual only [hs, fr_ite, ite_self, implies_true, fr_put (sub_trans rfl hμ), fr_putBytes (sub_trans
        rfl hμ), fr_drawn (sub_trans rfl hμ), fr_raise (sub_trans rfl hμ), fr_takeScratch (sub_trans rfl hμ)])
  repeat' split
  all_goals first
    | (with_reducible exact hs)
    | (simp (maxDischargeDepth := 40) +contextual only [hs, fr_ite, ite_self, implies_true, fr_put (sub_trans rfl hμ), fr_putBytes (sub_trans rfl
        hμ), fr_drawn (sub_trans rfl hμ), fr_raise (sub_trans rfl hμ), fr_takeScratch (sub_trans rfl hμ)]; done)

def kf_setBroken : Nat := 0x40000000
theorem fr_setBroken {μ : Nat} (hμ : sub kf_setBroken μ = true) (n : Nat) (b : Bool) {r₀ s : State} (hs : Keeps μ r₀ s) : Keeps μ r₀
        (setBroken n b s) := by
  have b30 : μ.testBit 30 = true := sub_bit hμ rfl
  unfold setBroken
  simp (maxDischargeDepth := 40) +contextual only [hs, fr_ite, ite_self, implies_true, b30, upd_therm, fr_clearBit (sub_trans rfl hμ),
        fr_setBit (sub_trans rfl hμ)]

def kf_compareSensor : Nat := 0x40000000
theorem fr_compareSensor {μ : Nat} (hμ : sub kf_compareSensor μ = true) (n : Nat) {r₀ s : State} (hs : Keeps μ r₀ s) : Keeps μ r₀
        (compareSensor n s) := by
  have b30 : μ.testBit 30 = true := sub_bit hμ rfl
  unfold compareSensor
  (try simp (maxDischargeDepth := 40) +contextual only [hs, fr_ite, ite_self, implies_true, b30, upd_therm])
  repeat' split
  all_goals first
    | (with_reducible exact hs)
    | (simp (maxDischargeDepth := 40) +contextual only [hs, fr_ite, ite_self, implies_true, b30, upd_therm]; done)

def kf_declareBroken : Nat := 0x1E0000064
theorem fr_declareBroken {μ : Nat} (hμ : sub kf_declareBroken μ = true) (n : Nat) {r₀ s : State} (hs : Keeps μ r₀ s) : Keeps μ r₀
        (declareBroken n s) := by
  have b30 : μ.testBit 30 = true := sub_bit hμ rfl
  unfold declareBroken
  simp (maxDischargeDepth := 40) +contextual only [hs, fr_ite, ite_self, implies_true, b30, upd_therm, fr_raise (sub_trans rfl hμ),
        fr_setBroken (sub_trans rfl hμ), fr_wakeBy (sub_trans rfl hμ)]

def kf_crossCheck : Nat := 0x1E0000064
theorem fr_crossCheck {μ : Nat} (hμ : sub kf_crossCheck μ = true) {r₀ s : State} (hs : Keeps μ r₀ s) : Keeps μ r₀ (crossCheck s) := by
  have b30 : μ.testBit 30 = true := sub_bit hμ rfl
  unfold crossCheck
  simp (maxDischargeDepth := 40) +contextual only [hs, fr_ite, ite_self, implies_true, b30, upd_therm, fr_compareSensor (sub_trans rfl hμ),
        fr_declareBroken (sub_trans rfl hμ), fr_raiseIf (sub_trans rfl hμ), fr_foldl]

def kf_reAdmit : Nat := 0x1C0000064
theorem fr_reAdmit {μ : Nat} (hμ : sub kf_reAdmit μ = true) (n : Nat) {r₀ s : State} (hs : Keeps μ r₀ s) : Keeps μ r₀ (reAdmit n s) := by
  have b30 : μ.testBit 30 = true := sub_bit hμ rfl
  unfold reAdmit
  simp (maxDischargeDepth := 40) +contextual only [hs, fr_ite, ite_self, implies_true, b30, upd_therm, fr_raise (sub_trans rfl hμ),
        fr_setBroken (sub_trans rfl hμ)]

def kf_noteHottest : Nat := 0x2000000
theorem fr_noteHottest {μ : Nat} (hμ : sub kf_noteHottest μ = true) (c band : Nat) {r₀ s : State} (hs : Keeps μ r₀ s) : Keeps μ r₀
        (noteHottest c band s) := by
  have b25 : μ.testBit 25 = true := sub_bit hμ rfl
  unfold noteHottest
  simp (maxDischargeDepth := 40) +contextual only [hs, fr_ite, ite_self, implies_true, b25, upd_med]

def kf_packageRound : Nat := 0x1E2000064
theorem fr_packageRound {μ : Nat} (hμ : sub kf_packageRound μ = true) (c : Nat) {r₀ s : State} (hs : Keeps μ r₀ s) : Keeps μ r₀
        (packageRound c s) := by
  have b30 : μ.testBit 30 = true := sub_bit hμ rfl
  unfold packageRound
  (try simp (maxDischargeDepth := 40) +contextual only [hs, fr_ite, ite_self, implies_true, b30, upd_therm, fr_addTo (sub_trans rfl hμ),
        fr_put (sub_trans rfl hμ), fr_putInt (sub_trans rfl hμ), fr_noteHottest (sub_trans rfl hμ), fr_raise (sub_trans rfl hμ), fr_wakeBy
        (sub_trans rfl hμ)])
  repeat' split
  all_goals first
    | (with_reducible exact hs)
    | (simp (maxDischargeDepth := 40) +contextual only [hs, fr_ite, ite_self, implies_true, b30, upd_therm, fr_addTo (sub_trans rfl hμ), fr_put
        (sub_trans rfl hμ), fr_putInt (sub_trans rfl hμ), fr_noteHottest (sub_trans rfl hμ), fr_raise (sub_trans rfl hμ), fr_wakeBy
        (sub_trans rfl hμ)]; done)

def kf_temperatures : Nat := 0x1E2000064
theorem fr_temperatures {μ : Nat} (hμ : sub kf_temperatures μ = true) {r₀ s : State} (hs : Keeps μ r₀ s) : Keeps μ r₀ (temperatures s) := by
  unfold temperatures
  (try simp (maxDischargeDepth := 40) +contextual only [hs, fr_ite, ite_self, implies_true, fr_putInt (sub_trans rfl hμ), fr_packageRound
        (sub_trans rfl hμ), fr_foldl])
  repeat' split
  all_goals first
    | (with_reducible exact hs)
    | (simp (maxDischargeDepth := 40) +contextual only [hs, fr_ite, ite_self, implies_true, fr_putInt (sub_trans rfl hμ), fr_packageRound
        (sub_trans rfl hμ), fr_foldl]; done)

def kf_requestThrottle : Nat := 0x1E0000064
theorem fr_requestThrottle {μ : Nat} (hμ : sub kf_requestThrottle μ = true) {r₀ s : State} (hs : Keeps μ r₀ s) : Keeps μ r₀ (requestThrottle
        s) := by
  have b30 : μ.testBit 30 = true := sub_bit hμ rfl
  unfold requestThrottle
  simp (maxDischargeDepth := 40) +contextual only [hs, fr_ite, ite_self, implies_true, b30, upd_therm, fr_bump (sub_trans rfl hμ), fr_put
        (sub_trans rfl hμ), fr_raise (sub_trans rfl hμ), fr_wakeBy (sub_trans rfl hμ)]

def kf_pauseDie : Nat := 0x380004064
theorem fr_pauseDie {μ : Nat} (hμ : sub kf_pauseDie μ = true) (d : Nat) {r₀ s : State} (hs : Keeps μ r₀ s) : Keeps μ r₀ (pauseDie d s) := by
  unfold pauseDie
  simp (maxDischargeDepth := 40) +contextual only [hs, fr_ite, ite_self, implies_true, fr_setBit (sub_trans rfl hμ), fr_raise (sub_trans rfl
        hμ), fr_reconstructWaiting (sub_trans rfl hμ), fr_foldl]

def kf_pauseRow : Nat := 0x380004064
theorem fr_pauseRow {μ : Nat} (hμ : sub kf_pauseRow μ = true) (row : Nat) {r₀ s : State} (hs : Keeps μ r₀ s) : Keeps μ r₀ (pauseRow row s)
        := by
  unfold pauseRow
  (try simp (maxDischargeDepth := 40) +contextual only [hs, fr_ite, ite_self, implies_true, fr_clearBit (sub_trans rfl hμ), fr_pauseDie
        (sub_trans rfl hμ), fr_foldl])
  repeat' split
  all_goals first
    | (with_reducible exact hs)
    | (simp (maxDischargeDepth := 40) +contextual only [hs, fr_ite, ite_self, implies_true, fr_clearBit (sub_trans rfl hμ), fr_pauseDie (sub_trans
        rfl hμ), fr_foldl]; done)

def kf_pauses : Nat := 0x380004064
theorem fr_pauses {μ : Nat} (hμ : sub kf_pauses μ = true) {r₀ s : State} (hs : Keeps μ r₀ s) : Keeps μ r₀ (pauses s) := by
  unfold pauses
  simp (maxDischargeDepth := 40) +contextual only [hs, fr_ite, ite_self, implies_true, fr_pauseRow (sub_trans rfl hμ), fr_foldl]

def kf_raiseLevel : Nat := 0x3C0004064
theorem fr_raiseLevel {μ : Nat} (hμ : sub kf_raiseLevel μ = true) {r₀ s : State} (hs : Keeps μ r₀ s) : Keeps μ r₀ (raiseLevel s) := by
  have b30 : μ.testBit 30 = true := sub_bit hμ rfl
  unfold raiseLevel
  simp (maxDischargeDepth := 40) +contextual only [hs, fr_ite, ite_self, implies_true, b30, upd_therm, fr_put (sub_trans rfl hμ), fr_pauses
        (sub_trans rfl hμ), fr_raise (sub_trans rfl hμ)]

def kf_clearThrottle : Nat := 0x1C0000064
theorem fr_clearThrottle {μ : Nat} (hμ : sub kf_clearThrottle μ = true) {r₀ s : State} (hs : Keeps μ r₀ s) : Keeps μ r₀ (clearThrottle s) :=
        by
  have b30 : μ.testBit 30 = true := sub_bit hμ rfl
  unfold clearThrottle
  simp (maxDischargeDepth := 40) +contextual only [hs, fr_ite, ite_self, implies_true, b30, upd_therm, fr_put (sub_trans rfl hμ),
        fr_noteEnforced (sub_trans rfl hμ), fr_raise (sub_trans rfl hμ)]

def kf_throttling : Nat := 0x3E0004064
theorem fr_throttling {μ : Nat} (hμ : sub kf_throttling μ = true) {r₀ s : State} (hs : Keeps μ r₀ s) : Keeps μ r₀ (throttling s) := by
  have b30 : μ.testBit 30 = true := sub_bit hμ rfl
  unfold throttling
  (try simp (maxDischargeDepth := 40) +contextual only [hs, fr_ite, ite_self, implies_true, b30, upd_therm, fr_pauses (sub_trans rfl hμ),
        fr_requestThrottle (sub_trans rfl hμ)])
  repeat' split
  all_goals first
    | (with_reducible exact hs)
    | (simp (maxDischargeDepth := 40) +contextual only [hs, fr_ite, ite_self, implies_true, b30, upd_therm, fr_pauses (sub_trans rfl hμ),
        fr_requestThrottle (sub_trans rfl hμ)]; done)

def kf_coldPlate : Nat := 0x1C0000064
theorem fr_coldPlate {μ : Nat} (hμ : sub kf_coldPlate μ = true) (n : Nat) {r₀ s : State} (hs : Keeps μ r₀ s) : Keeps μ r₀ (coldPlate n s) :=
        by
  have b30 : μ.testBit 30 = true := sub_bit hμ rfl
  unfold coldPlate
  (try simp (maxDischargeDepth := 40) +contextual only [hs, fr_ite, ite_self, implies_true, b30, upd_therm, fr_raiseIf (sub_trans rfl hμ)])
  repeat' split
  all_goals first
    | (with_reducible exact hs)
    | (simp (maxDischargeDepth := 40) +contextual only [hs, fr_ite, ite_self, implies_true, b30, upd_therm, fr_raiseIf (sub_trans rfl hμ)]; done)

def kf_convertChannels : Nat := 0x0
theorem fr_convertChannels {μ : Nat} (hμ : sub kf_convertChannels μ = true) {r₀ : State} (channels : List (Option Int)) {s : State} (hs : Keeps μ r₀ s) : Keeps μ r₀ (convertChannels channels s) := by
  refine fr_foldl (fun t n ht => ?_) _ hs
  split
  · exact fr_putInt (sub_trans rfl hμ) _ _ _ ht
  · exact fr_put (sub_trans rfl hμ) _ _ ht

def kf_supervise : Nat := 0x3B77ECEE4
theorem fr_supervise {μ : Nat} (hμ : sub kf_supervise μ = true) {r₀ : State} {s : State} (hs : Keeps μ r₀ s) : Keeps μ r₀ (supervise s) := by
  unfold supervise
  simp only
  generalize hA : List.foldl _ s (List.range 13) = a
  have h1 : Keeps μ r₀ a := by
    rw [← hA]
    refine fr_foldl (fun t n ht => ?_) _ hs
    split <;> exact fr_put (sub_trans rfl hμ) _ _ ht
  clear hA
  have fin (b : State) (v : Int) (hb : Keeps μ r₀ b) (c : Prop) [Decidable c] : Keeps μ r₀ (
      let b := b.put 0x203002 (shown v)
      let energy := if b.get 0x203001 = 1 then usableMj (b.get 0x203003) (b.get 0x203004) (shown v) else 0
      let b := b.put 0x203005 (min 65535 energy)
      let b := updateProtection { b with pow := { b.pow with cartridge := { b.pow.cartridge with measured := true } } }
      if c then wakeBy 4 b else b) := by
    exact fr_cond (fr_wakeBy (sub_trans rfl hμ) _ (fr_updateProtection (sub_trans rfl hμ) (upd_pow (sub_bit hμ rfl) (fr_put (sub_trans rfl hμ) _ _ (fr_put (sub_trans rfl hμ) _ _ hb)) _)))
      (fr_updateProtection (sub_trans rfl hμ) (upd_pow (sub_bit hμ rfl) (fr_put (sub_trans rfl hμ) _ _ (fr_put (sub_trans rfl hμ) _ _ hb)) _))
  have last (b : State) (hb : Keeps μ r₀ b) : Keeps μ r₀ (match b.channelValue 44 with
    | none => b
    | some v =>
      let b := b.put 0x203002 (shown v)
      let energy := if b.get 0x203001 = 1 then usableMj (b.get 0x203003) (b.get 0x203004) (shown v) else 0
      let b := b.put 0x203005 (min 65535 energy)
      let was := b.get 0x402001
      let b := updateProtection { b with pow := { b.pow with cartridge := { b.pow.cartridge with measured := true } } }
      if was = 1 ∧ b.get 0x402001 ≠ 1 then wakeBy 4 b else b) := by
    split
    · exact hb
    · exact fin _ _ hb _
  cases h24 : a.channelValue 24 with
  | none =>
    simp only
    cases h47 : a.channelValue 47 with
    | none => exact last a h1
    | some w => exact last _ (fr_put (sub_trans rfl hμ) _ _ h1)
  | some v =>
    simp only
    have h2 := fr_noteVin (sub_trans rfl hμ) (shown v) h1
    generalize noteVin (shown v) a = b at h2 ⊢
    cases h47 : b.channelValue 47 with
    | none => exact last b h2
    | some w => exact last _ (fr_put (sub_trans rfl hμ) _ _ h2)

def kf_slowRound : Nat := 0x3F77ECEE4
theorem fr_slowRound {μ : Nat} (hμ : sub kf_slowRound μ = true) (channels : List (Option Int)) {r₀ s : State} (hs : Keeps μ r₀ s) : Keeps μ
        r₀ (slowRound channels s) := by
  unfold slowRound
  simp (maxDischargeDepth := 40) +contextual only [hs, fr_ite, ite_self, implies_true, fr_coldPlate (sub_trans rfl hμ), fr_convertChannels
        (sub_trans rfl hμ), fr_crossCheck (sub_trans rfl hμ), fr_supervise (sub_trans rfl hμ), fr_temperatures (sub_trans rfl hμ),
        fr_throttling (sub_trans rfl hμ)]

def kf_flushQueue : Nat := 0x38702CEE4
theorem fr_flushQueue {μ : Nat} (hμ : sub kf_flushQueue μ = true) (p : Port) {r₀ s : State} (hs : Keeps μ r₀ s) : Keeps μ r₀ (flushQueue p
        s) := by
  unfold flushQueue
  simp (maxDischargeDepth := 40) +contextual only [hs, fr_ite, ite_self, implies_true, fr_drainLoop (sub_trans rfl hμ)]

def kf_flush : Nat := 0x38702CEE4
theorem fr_flush {μ : Nat} (hμ : sub kf_flush μ = true) (p : Port) (phase : Nat) {r₀ s : State} (hs : Keeps μ r₀ s) : Keeps μ r₀ (flush p
        phase s) := by
  unfold flush
  simp (maxDischargeDepth := 40) +contextual only [hs, fr_ite, ite_self, implies_true, fr_modPort (sub_trans rfl hμ), fr_flushQueue (sub_trans
        rfl hμ), fr_serveFlushes (sub_trans rfl hμ)]

def kf_contain : Nat := 0x3877ECEE4
theorem fr_contain {μ : Nat} (hμ : sub kf_contain μ = true) (p : Port) {r₀ s : State} (hs : Keeps μ r₀ s) : Keeps μ r₀ (contain p s) := by
  unfold contain
  simp (maxDischargeDepth := 40) +contextual only [hs, fr_ite, ite_self, implies_true, fr_modPort (sub_trans rfl hμ), fr_put (sub_trans rfl
        hμ), fr_forgetRequests (sub_trans rfl hμ), fr_portException (sub_trans rfl hμ), fr_raise (sub_trans rfl hμ)]

def kf_resetPort : Nat := 0x60
theorem fr_resetPort {μ : Nat} (hμ : sub kf_resetPort μ = true) (p : Port) {r₀ s : State} (hs : Keeps μ r₀ s) : Keeps μ r₀ (resetPort p s)
        := by
  unfold resetPort
  simp (maxDischargeDepth := 40) +contextual only [hs, fr_ite, ite_self, implies_true, fr_modPort (sub_trans rfl hμ), fr_put (sub_trans rfl
        hμ)]

def kf_enablePort : Nat := 0x3877ECEE4
theorem fr_enablePort {μ : Nat} (hμ : sub kf_enablePort μ = true) (p : Port) (on : Bool) {r₀ s : State} (hs : Keeps μ r₀ s) : Keeps μ r₀
        (enablePort p on s) := by
  unfold enablePort
  simp (maxDischargeDepth := 40) +contextual only [hs, fr_ite, ite_self, implies_true, fr_modPort (sub_trans rfl hμ), fr_put (sub_trans rfl
        hμ), fr_closeDrained (sub_trans rfl hμ), fr_dropLink (sub_trans rfl hμ), fr_dropReady (sub_trans rfl hμ), fr_portException
        (sub_trans rfl hμ), fr_raiseReady (sub_trans rfl hμ)]

def kf_freePort : Nat := 0x60
theorem fr_freePort {μ : Nat} (hμ : sub kf_freePort μ = true) (p : Port) {r₀ s : State} (hs : Keeps μ r₀ s) : Keeps μ r₀ (freePort p s) :=
        by
  unfold freePort
  simp (maxDischargeDepth := 40) +contextual only [hs, fr_ite, ite_self, implies_true, fr_modPort (sub_trans rfl hμ)]

def kf_setTime : Nat := 0x387000066
theorem fr_setTime {μ : Nat} (hμ : sub kf_setTime μ = true) (v source : Nat) {r₀ s : State} (hs : Keeps μ r₀ s) : Keeps μ r₀ (setTime v
        source s) := by
  have b1 : μ.testBit 1 = true := sub_bit hμ rfl
  unfold setTime
  simp (maxDischargeDepth := 40) +contextual only [hs, fr_ite, ite_self, implies_true, b1, upd_deviceTime, fr_put (sub_trans rfl hμ),
        fr_journalPut (sub_trans rfl hμ)]

def kf_setProfile : Nat := 0x180000064
theorem fr_setProfile {μ : Nat} (hμ : sub kf_setProfile μ = true) (v : Nat) {r₀ s : State} (hs : Keeps μ r₀ s) : Keeps μ r₀ (setProfile v s)
        := by
  unfold setProfile
  simp (maxDischargeDepth := 40) +contextual only [hs, fr_ite, ite_self, implies_true, fr_put (sub_trans rfl hμ), fr_raise (sub_trans rfl hμ)]

def kf_writeRegion : Nat := 0x181000064
theorem fr_writeRegion {μ : Nat} (hμ : sub kf_writeRegion μ = true) (r sub v : Nat) {r₀ s : State} (hs : Keeps μ r₀ s) : Keeps μ r₀
        (writeRegion r sub v s) := by
  unfold writeRegion
  simp (maxDischargeDepth := 40) +contextual only [hs, fr_ite, ite_self, implies_true, fr_put (sub_trans rfl hμ), fr_abandonPreparation
        (sub_trans rfl hμ), fr_bringOnline (sub_trans rfl hμ), fr_prepare (sub_trans rfl hμ), fr_setRegionState (sub_trans rfl hμ)]

def kf_writeSelect : Nat := 0x0
theorem fr_writeSelect {μ : Nat} (hμ : sub kf_writeSelect μ = true) (key v : Nat) {r₀ s : State} (hs : Keeps μ r₀ s) : Keeps μ r₀
        (writeSelect key v s) := by
  unfold writeSelect
  simp (maxDischargeDepth := 40) +contextual only [hs, fr_ite, ite_self, implies_true, fr_put (sub_trans rfl hμ)]

def kf_writeLevelKey : Nat := 0x80000000
theorem fr_writeLevelKey {μ : Nat} (hμ : sub kf_writeLevelKey μ = true) (req : Req) (level : Nat) (v : List Byte) {r₀ s : State} (hs : Keeps
        μ r₀ s) : Keeps μ r₀ (writeLevelKey req level v s) := by
  have b31 : μ.testBit 31 = true := sub_bit hμ rfl
  unfold writeLevelKey
  simp (maxDischargeDepth := 40) +contextual only [hs, fr_ite, ite_self, implies_true, b31, upd_mgmt, fr_endSessions (sub_trans rfl hμ)]

def kf_putNumber : Nat := 0x3977ECEE6
theorem fr_putNumber {μ : Nat} (hμ : sub kf_putNumber μ = true) {r₀ : State} (req : Req) (key v stamp seen : Nat) {s : State} (hs : Keeps μ r₀ s) : Keeps μ r₀ (putNumber req key v stamp seen s) := by
  have p (t : State) (k w : Nat) (ht : Keeps μ r₀ t) : Keeps μ r₀ (t.put k w) := fr_put (sub_trans rfl hμ) k w ht
  have m (t : State) (b : Bool) (ht : Keeps μ r₀ t) : Keeps μ r₀ { t with mgmt := { t.mgmt with beaconLost := b } } :=
    upd_mgmt (sub_bit hμ rfl) ht _
  unfold putNumber
  refine fr_cond (fr_updateProtection (sub_trans rfl hμ) (p _ _ _ hs)) (fr_cond (fr_enablePort (sub_trans rfl hμ) _ _ hs) (fr_cond (fr_enablePort (sub_trans rfl hμ) _ _ hs) ?_))
  refine fr_cond (fr_freePort (sub_trans rfl hμ) _ (p _ _ _ hs)) (fr_cond (fr_freePort (sub_trans rfl hμ) _ (p _ _ _ hs)) ?_)
  refine fr_cond (fr_freePort (sub_trans rfl hμ) _ (fr_freePort (sub_trans rfl hμ) _ (p _ _ _ hs))) (fr_cond (fr_setTime (sub_trans rfl hμ) _ _ hs) (fr_cond (fr_setProfile (sub_trans rfl hμ) _ hs) ?_))
  refine fr_cond (fr_noteHealth (sub_trans rfl hμ) (p _ _ _ hs)) (fr_cond (fr_notePool (sub_trans rfl hμ) (p _ _ _ hs)) (fr_cond (fr_checkPool (sub_trans rfl hμ) (p _ _ _ hs)) (fr_cond (fr_flushQueues (sub_trans rfl hμ) _ hs) ?_)))
  refine fr_cond (p _ _ _ (m _ _ hs)) (fr_cond (fr_cond hs (p _ _ _ hs)) (fr_cond (fr_writeSelect (sub_trans rfl hμ) _ _ hs) ?_))
  refine fr_cond (fr_cond hs (fr_clearLatch (sub_trans rfl hμ) _ _ _ hs)) ?_
  split
  · exact fr_writeRegion (sub_trans rfl hμ) _ _ _ hs
  · exact p _ _ _ hs

def kf_putValue : Nat := 0x39F7ECEE7
theorem fr_putValue {μ : Nat} (hμ : sub kf_putValue μ = true) (req : Req) (key stamp seen : Nat) (v : List Byte) {r₀ s : State} (hs : Keeps
        μ r₀ s) : Keeps μ r₀ (putValue req key stamp seen v s) := by
  have b27 : μ.testBit 27 = true := sub_bit hμ rfl
  unfold putValue
  (try simp (maxDischargeDepth := 40) +contextual only [hs, fr_ite, ite_self, implies_true, b27, upd_stored, fr_putBytes (sub_trans rfl hμ),
        fr_putNumber (sub_trans rfl hμ), fr_writeLevelKey (sub_trans rfl hμ)])
  repeat' split
  all_goals first
    | (with_reducible exact hs)
    | (simp (maxDischargeDepth := 40) +contextual only [hs, fr_ite, ite_self, implies_true, b27, upd_stored, fr_putBytes (sub_trans rfl hμ),
        fr_putNumber (sub_trans rfl hμ), fr_writeLevelKey (sub_trans rfl hμ)]; done)

def kf_clearRead : Nat := 0x200000001
theorem fr_clearRead {μ : Nat} (hμ : sub kf_clearRead μ = true) (key : Nat) {r₀ s : State} (hs : Keeps μ r₀ s) : Keeps μ r₀ (clearRead key
        s) := by
  unfold clearRead
  (try simp (maxDischargeDepth := 40) +contextual only [hs, fr_ite, ite_self, implies_true, fr_put (sub_trans rfl hμ), fr_putBytes (sub_trans
        rfl hμ), fr_takeSample (sub_trans rfl hμ)])
  repeat' split
  all_goals first
    | (with_reducible exact hs)
    | (simp (maxDischargeDepth := 40) +contextual only [hs, fr_ite, ite_self, implies_true, fr_put (sub_trans rfl hμ), fr_putBytes (sub_trans rfl
        hμ), fr_takeSample (sub_trans rfl hμ)]; done)

def kf_setDefaults : Nat := 0x39F7ECEE7
theorem fr_setDefaults {μ : Nat} (hμ : sub kf_setDefaults μ = true) (req : Req) {r₀ s : State} (hs : Keeps μ r₀ s) : Keeps μ r₀ (setDefaults
        req s) := by
  unfold setDefaults
  simp (maxDischargeDepth := 40) +contextual only [hs, fr_ite, ite_self, implies_true, fr_noteChange (sub_trans rfl hμ), fr_putValue
        (sub_trans rfl hμ), fr_foldl]

def kf_startAction : Nat := 0x3FF7ECEE7
theorem fr_startAction {μ : Nat} (hμ : sub kf_startAction μ = true) {r₀ : State} (key : Nat) (v : List Byte) (stamp : Nat) (env : DictEnv) (req : Req) {s : State} (hs : Keeps μ r₀ s) :
    Keeps μ r₀ (startAction key v stamp env req s) := by
  have ha := fr_setAction (sub_trans rfl hμ) key stOk hs
  have hp (t : State) (x : Power) (ht : Keeps μ r₀ t) : Keeps μ r₀ { t with pow := x } := upd_pow (sub_bit hμ rfl) ht _
  unfold startAction
  simp only
  generalize setAction key stOk s = a at ha ⊢
  refine fr_cond (fr_forceAbort (sub_trans rfl hμ) _ _ _ ha) (fr_cond (fr_dieLeaves (sub_trans rfl hμ) _ _ ha) (fr_cond (fr_takeOffline (sub_trans rfl hμ) _ ha) ?_))
  refine fr_cond (fr_bringOnline (sub_trans rfl hμ) _ ha) (fr_cond (fr_renewSlot (sub_trans rfl hμ) _ ha) (fr_cond (fr_resume (sub_trans rfl hμ) _ ha) (fr_cond (fr_sanitizeNow (sub_trans rfl hμ) ha) ?_)))
  refine fr_cond (upd_stored (sub_bit hμ rfl) ha _) (fr_cond (fr_writeRaw (sub_trans rfl hμ) ha) (fr_cond ?_ ?_))
  · split
    · exact fr_readRaw (sub_trans rfl hμ) _ _ ha
    · exact fr_readRaw (sub_trans rfl hμ) _ _ (fr_drawn (sub_trans rfl hμ) (fr_drawn (sub_trans rfl hμ) (fr_drawn (sub_trans rfl hμ) ha)))
  refine fr_cond (fr_retryRails (sub_trans rfl hμ) ha) (fr_cond (fr_setAction (sub_trans rfl hμ) _ _ (hp _ _ ha)) (fr_cond (fr_buttonCurtain (sub_trans rfl hμ) ha) ?_))
  refine fr_cond (fr_offRequest (sub_trans rfl hμ) ha) (fr_cond (fr_onRequest (sub_trans rfl hμ) ha) (fr_cond (fr_deviceReset (sub_trans rfl hμ) _ ha) ?_))
  refine fr_cond (fr_startDoze (sub_trans rfl hμ) (fr_setAction (sub_trans rfl hμ) _ _ ha)) (fr_cond (fr_enterService (sub_trans rfl hμ) ha) (fr_cond (fr_leaveService (sub_trans rfl hμ) ha) ?_))
  refine fr_cond (fr_activateOnline (sub_trans rfl hμ) _ (fr_setAction (sub_trans rfl hμ) _ _ (fr_drawn (sub_trans rfl hμ) ha))) (fr_cond (fr_reAdmit (sub_trans rfl hμ) _ ha) (fr_cond (fr_setDefaults (sub_trans rfl hμ) _ ha) ?_))
  exact fr_cond (fr_endAllSessions (sub_trans rfl hμ) ha) (fr_cond (fr_clearRecorder (sub_trans rfl hμ) _ _ ha) (fr_cond (fr_releaseChannel (sub_trans rfl hμ) _ ha) ha))

def kf_noteRequest : Nat := 0x180000064
theorem fr_noteRequest {μ : Nat} (hμ : sub kf_noteRequest μ = true) (key kind : Nat) (req : Req) (old new : List Byte) {r₀ s : State} (hs :
        Keeps μ r₀ s) : Keeps μ r₀ (noteRequest key kind req old new s) := by
  unfold noteRequest
  simp (maxDischargeDepth := 40) +contextual only [hs, fr_ite, ite_self, implies_true, fr_noteChange (sub_trans rfl hμ)]

def kf_serveAction : Nat := 0x3FF7ECEE7
theorem fr_serveAction {μ : Nat} (hμ : sub kf_serveAction μ = true) (req : Req) (idx sub : Nat) (ask : DictAsk) (v : List Byte) (env :
        DictEnv) {r₀ s : State} (hs : Keeps μ r₀ s) : Keeps μ r₀ (serveAction req idx sub ask v env s) := by
  unfold serveAction
  simp (maxDischargeDepth := 40) +contextual only [hs, fr_ite, ite_self, implies_true, fr_deliver (sub_trans rfl hμ), fr_noteRequest
        (sub_trans rfl hμ), fr_startAction (sub_trans rfl hμ)]

def kf_serveWrite : Nat := 0x39F7ECEE7
theorem fr_serveWrite {μ : Nat} (hμ : sub kf_serveWrite μ = true) (req : Req) (idx sub : Nat) (ask : DictAsk) (v : List Byte) (kind : Nat)
        {r₀ s : State} (hs : Keeps μ r₀ s) : Keeps μ r₀ (serveWrite req idx sub ask v kind s) := by
  unfold serveWrite
  simp (maxDischargeDepth := 40) +contextual only [hs, fr_ite, ite_self, implies_true, fr_deliver (sub_trans rfl hμ), fr_noteRequest
        (sub_trans rfl hμ), fr_putValue (sub_trans rfl hμ)]

def kf_setBlock : Nat := 0x80000000
theorem fr_setBlock {μ : Nat} (hμ : sub kf_setBlock μ = true) (req : Req) (b : Option BlockWrite) {r₀ s : State} (hs : Keeps μ r₀ s) : Keeps
        μ r₀ (setBlock req b s) := by
  have b31 : μ.testBit 31 = true := sub_bit hμ rfl
  unfold setBlock
  simp (maxDischargeDepth := 40) +contextual only [hs, fr_ite, ite_self, implies_true, b31, upd_mgmt]

def kf_serveOk : Nat := 0x3FF7ECEE7
theorem fr_serveOk {μ : Nat} (hμ : sub kf_serveOk μ = true) (req : Req) (idx sub : Nat) (ask : DictAsk) (env : DictEnv) {r₀ s : State} (hs :
        Keeps μ r₀ s) : Keeps μ r₀ (serveOk req idx sub ask env s) := by
  unfold serveOk
  (try simp (maxDischargeDepth := 40) +contextual only [hs, fr_ite, ite_self, implies_true, fr_clearRead (sub_trans rfl hμ), fr_deliver
        (sub_trans rfl hμ), fr_serveAction (sub_trans rfl hμ), fr_serveWrite (sub_trans rfl hμ), fr_setBlock (sub_trans rfl hμ)])
  repeat' split
  all_goals first
    | (with_reducible exact hs)
    | (simp (maxDischargeDepth := 40) +contextual only [hs, fr_ite, ite_self, implies_true, fr_clearRead (sub_trans rfl hμ), fr_deliver (sub_trans
        rfl hμ), fr_serveAction (sub_trans rfl hμ), fr_serveWrite (sub_trans rfl hμ), fr_setBlock (sub_trans rfl hμ)]; done)

def kf_refuse : Nat := 0x80000000
theorem fr_refuse {μ : Nat} (hμ : sub kf_refuse μ = true) (req : Req) (idx sub : Nat) (ask : DictAsk) (status : Nat) {r₀ s : State} (hs :
        Keeps μ r₀ s) : Keeps μ r₀ (refuse req idx sub ask status s) := by
  unfold refuse
  (try simp (maxDischargeDepth := 40) +contextual only [hs, fr_ite, ite_self, implies_true, fr_endWith (sub_trans rfl hμ), fr_refusedByState
        (sub_trans rfl hμ), fr_setBlock (sub_trans rfl hμ)])
  repeat' split
  all_goals first
    | (with_reducible exact hs)
    | (simp (maxDischargeDepth := 40) +contextual only [hs, fr_ite, ite_self, implies_true, fr_endWith (sub_trans rfl hμ), fr_refusedByState
        (sub_trans rfl hμ), fr_setBlock (sub_trans rfl hμ)]; done)

def kf_perform : Nat := 0x3FF7ECEE7
theorem fr_perform {μ : Nat} (hμ : sub kf_perform μ = true) (req : Req) (idx sub : Nat) (ask : DictAsk) (env : DictEnv) {r₀ s : State} (hs :
        Keeps μ r₀ s) : Keeps μ r₀ (perform req idx sub ask env s) := by
  have b31 : μ.testBit 31 = true := sub_bit hμ rfl
  unfold perform
  (try simp (maxDischargeDepth := 40) +contextual only [hs, fr_ite, ite_self, implies_true, b31, upd_mgmt, fr_refuse (sub_trans rfl hμ),
        fr_serveOk (sub_trans rfl hμ), fr_wakeBy (sub_trans rfl hμ)])
  repeat' split
  all_goals first
    | (with_reducible exact hs)
    | (simp (maxDischargeDepth := 40) +contextual only [hs, fr_ite, ite_self, implies_true, b31, upd_mgmt, fr_refuse (sub_trans rfl hμ),
        fr_serveOk (sub_trans rfl hμ), fr_wakeBy (sub_trans rfl hμ)]; done)

def kf_serveDeferred : Nat := 0x3FF7ECEE7
theorem fr_serveDeferred {μ : Nat} (hμ : sub kf_serveDeferred μ = true) {r₀ s : State} (hs : Keeps μ r₀ s) : Keeps μ r₀ (serveDeferred s) :=
        by
  have b31 : μ.testBit 31 = true := sub_bit hμ rfl
  unfold serveDeferred
  simp (maxDischargeDepth := 40) +contextual only [hs, fr_ite, ite_self, implies_true, b31, upd_mgmt, fr_endWith (sub_trans rfl hμ),
        fr_perform (sub_trans rfl hμ), fr_foldl]

def kf_inSession : Nat := 0x80000000
theorem fr_inSession {μ : Nat} (hμ : sub kf_inSession μ = true) {r₀ : State} (req : Req) (want : List Byte → BitVec 128) {refused : Nat → State → State} {go : State → State}
    (hr : ∀ n s, Keeps μ r₀ s → Keeps μ r₀ (refused n s)) (hg : ∀ s, Keeps μ r₀ s → Keeps μ r₀ (go s)) {s : State} (hs : Keeps μ r₀ s) :
    Keeps μ r₀ (inSession req want refused go s) := by
  unfold inSession
  split
  · split
    · split
      · exact fr_putSession (sub_trans rfl hμ) _ (fr_emit (sub_trans rfl hμ) _ hs)
      · exact fr_putSession (sub_trans rfl hμ) _ hs
    · split
      · exact hg _ (fr_putSession (sub_trans rfl hμ) _ hs)
      · exact hr _ _ hs
  · exact hr _ _ hs

def kf_endUnkept : Nat := 0x0
theorem fr_endUnkept {μ : Nat} (hμ : sub kf_endUnkept μ = true) (req : Req) (idx sub : Nat) (ask : DictAsk) (status : Nat) {r₀ s : State}
        (hs : Keeps μ r₀ s) : Keeps μ r₀ (endUnkept req idx sub ask status s) := by
  unfold endUnkept
  simp (maxDischargeDepth := 40) +contextual only [hs, fr_ite, ite_self, implies_true, fr_emit (sub_trans rfl hμ)]

def kf_arrive : Nat := 0x80000000
theorem fr_arrive {μ : Nat} (hμ : sub kf_arrive μ = true) {r₀ : State} (path : Path) {busy serve : State → State} (hb : ∀ s, Keeps μ r₀ s → Keeps μ r₀ (busy s))
    (hv : ∀ s, Keeps μ r₀ s → Keeps μ r₀ (serve s)) {s : State} (hs : Keeps μ r₀ s) : Keeps μ r₀ (arrive path busy serve s) := by
  cases path with
  | mailbox p =>
    unfold arrive
    simp only
    split
    · exact hv _ hs
    · exact hs
  | fieldLink mac =>
    unfold arrive
    simp only
    split
    · exact hs
    · have d (h : s.mgmt.received.length ≤ 32) : (dropFirst mac s.mgmt.received).length ≤ 32 :=
        Nat.le_trans (dropFirst_length mac s.mgmt.received) h
      split
      · exact hv _ (fr_bump (sub_trans rfl hμ) _ (upd_mgmt (sub_bit hμ rfl) hs _))
      · split
        · exact hv _ (fr_bump (sub_trans rfl hμ) _ (upd_mgmt (sub_bit hμ rfl) hs _))
        · have h1 : Keeps μ r₀ (State.bump { s with mgmt := { s.mgmt with received := dropFirst mac s.mgmt.received } } 0x140107) :=
            fr_bump (sub_trans rfl hμ) _ (upd_mgmt (sub_bit hμ rfl) hs _)
          split
          · exact hb _ (upd_mgmt (sub_bit hμ rfl) h1 _)
          · exact h1

def kf_request : Nat := 0x3FF7ECEE7
theorem fr_request {μ : Nat} (hμ : sub kf_request μ = true) {r₀ : State} (req : Req) (idx sub : Nat) (ask : DictAsk) (env : DictEnv) {s : State} (hs : Keeps μ r₀ s) :
    Keeps μ r₀ (request req idx sub ask env s) := by
  refine fr_arrive (sub_trans rfl hμ) _ (fun t => fr_endUnkept (sub_trans rfl hμ) _ _ _ _ _) (fun t ht => ?_) hs
  split
  · exact fr_perform (sub_trans rfl hμ) _ _ _ _ _ ht
  · exact fr_inSession (sub_trans rfl hμ) req _ (fun n t => fr_endUnkept (sub_trans rfl hμ) _ _ _ _ _) (fun t => fr_perform (sub_trans rfl hμ) _ _ _ _ _) ht

def kf_prunePass : Nat := 0x102000000
theorem fr_prunePass {μ : Nat} (hμ : sub kf_prunePass μ = true) {r₀ s : State} (hs : Keeps μ r₀ s) : Keeps μ r₀ (prunePass s) := by
  have b25 : μ.testBit 25 = true := sub_bit hμ rfl
  unfold prunePass
  simp (maxDischargeDepth := 40) +contextual only [hs, fr_ite, ite_self, implies_true, b25, upd_med, fr_put (sub_trans rfl hμ),
        fr_judgeEpisode (sub_trans rfl hμ)]

def kf_queueFrame : Nat := 0x180000064
theorem fr_queueFrame {μ : Nat} (hμ : sub kf_queueFrame μ = true) (f : Frame) {r₀ s : State} (hs : Keeps μ r₀ s) : Keeps μ r₀ (queueFrame f
        s) := by
  have b31 : μ.testBit 31 = true := sub_bit hμ rfl
  unfold queueFrame
  simp (maxDischargeDepth := 40) +contextual only [hs, fr_ite, ite_self, implies_true, b31, upd_mgmt, fr_bump (sub_trans rfl hμ), fr_raise
        (sub_trans rfl hμ)]

def kf_sendFrame : Nat := 0x0
theorem fr_sendFrame {μ : Nat} (hμ : sub kf_sendFrame μ = true) (dest : Option Nat) (op : Nat) (payload : List Byte) {r₀ s : State} (hs :
        Keeps μ r₀ s) : Keeps μ r₀ (sendFrame dest op payload s) := by
  unfold sendFrame
  simp (maxDischargeDepth := 40) +contextual only [hs, fr_ite, ite_self, implies_true, fr_emit (sub_trans rfl hμ)]

def kf_mailboxAnswer : Nat := 0x0
theorem fr_mailboxAnswer {μ : Nat} (hμ : sub kf_mailboxAnswer μ = true) (p : Port) (code : Nat) (fields : List Nat) {r₀ s : State} (hs :
        Keeps μ r₀ s) : Keeps μ r₀ (mailboxAnswer p code fields s) := by
  unfold mailboxAnswer
  simp (maxDischargeDepth := 40) +contextual only [hs, fr_ite, ite_self, implies_true, fr_emit (sub_trans rfl hμ)]

def kf_mailboxBusy : Nat := 0x0
theorem fr_mailboxBusy {μ : Nat} (hμ : sub kf_mailboxBusy μ = true) (p : Port) {r₀ s : State} (hs : Keeps μ r₀ s) : Keeps μ r₀ (mailboxBusy
        p s) := by
  unfold mailboxBusy
  simp (maxDischargeDepth := 40) +contextual only [hs, fr_ite, ite_self, implies_true, fr_mailboxAnswer (sub_trans rfl hμ), fr_refusedByState
        (sub_trans rfl hμ)]

def kf_clearLog : Nat := 0x60
theorem fr_clearLog {μ : Nat} (hμ : sub kf_clearLog μ = true) (p : Port) (log : Nat) (keep : EventRecord → Bool) {r₀ s : State} (hs : Keeps
        μ r₀ s) : Keeps μ r₀ (clearLog p log keep s) := by
  unfold clearLog
  simp (maxDischargeDepth := 40) +contextual only [hs, fr_ite, ite_self, implies_true, fr_modPort (sub_trans rfl hμ)]

def kf_activateByHost : Nat := 0x1A0000064
theorem fr_activateByHost {μ : Nat} (hμ : sub kf_activateByHost μ = true) (p : Port) (result : ActivationResult) {r₀ s : State} (hs : Keeps
        μ r₀ s) : Keeps μ r₀ (activateByHost p result s) := by
  have b29 : μ.testBit 29 = true := sub_bit hμ rfl
  unfold activateByHost
  (try simp (maxDischargeDepth := 40) +contextual only [hs, fr_ite, ite_self, implies_true, b29, upd_modes, fr_mailboxAnswer (sub_trans rfl
        hμ), fr_raise (sub_trans rfl hμ)])
  repeat' split
  all_goals first
    | (with_reducible exact hs)
    | (simp (maxDischargeDepth := 40) +contextual only [hs, fr_ite, ite_self, implies_true, b29, upd_modes, fr_mailboxAnswer (sub_trans rfl hμ),
        fr_raise (sub_trans rfl hμ)]; done)

def kf_sanitizeByHost : Nat := 0x387020EE4
theorem fr_sanitizeByHost {μ : Nat} (hμ : sub kf_sanitizeByHost μ = true) (p : Port) {r₀ s : State} (hs : Keeps μ r₀ s) : Keeps μ r₀
        (sanitizeByHost p s) := by
  unfold sanitizeByHost
  simp (maxDischargeDepth := 40) +contextual only [hs, fr_ite, ite_self, implies_true, fr_mailboxAnswer (sub_trans rfl hμ), fr_mailboxBusy
        (sub_trans rfl hμ), fr_sanitizeNow (sub_trans rfl hμ), fr_sendMsi (sub_trans rfl hμ), fr_setAction (sub_trans rfl hμ)]

def kf_loseValue : Nat := 0x3AF7FCEE5
theorem fr_loseValue {μ : Nat} (hμ : sub kf_loseValue μ = true) {r₀ : State} (v : TwoCopyValue) {s : State} (hs : Keeps μ r₀ s) : Keeps μ r₀ (loseValue v s) := by
  have h := fr_raise (sub_trans rfl hμ) 230 (fr_bump (sub_trans rfl hμ) 0x800107 hs)
  unfold loseValue
  simp only
  generalize raise 230 (s.bump 0x800107) = a at h ⊢
  have d (key : Nat) (x : StoredData) (hx : x.errors = a.stored.errors) :
      Keeps μ r₀ { a with dict := tdel key a.dict, octs := tdel key a.octs, stored := x } :=
    upd_dict_octs_stored (sub_bit hμ rfl) (sub_bit hμ rfl) h _ _ _
  have int (t : State) (x : Integrity) (ht : Keeps μ r₀ t) : Keeps μ r₀ { t with integ := x } := upd_integ (sub_bit hμ rfl) ht _
  have md (t : State) (x : Medium) (ht : Keeps μ r₀ t) : Keeps μ r₀ { t with med := x } := upd_med (sub_bit hμ rfl) ht _
  cases v with
  | dictionaryValue key =>
    simp only
    split
    · exact h
    · split
      · split
        · exact fr_noteOwnChange (sub_trans rfl hμ) _ _ _ (d _ _ rfl)
        · exact d _ _ rfl
      · exact h
  | superblock => exact h
  | stampCeiling => exact h
  | slotKey slot => exact fr_foldl (fun t r ht => fr_failCheck (sub_trans rfl hμ) _ ht) _ (int _ _ h)
  | anchor => exact fr_foldl (fun t i ht => fr_failCheck (sub_trans rfl hμ) _ ht) _ h
  | haltRecord => exact fr_put (sub_trans rfl hμ) _ _ (fr_put (sub_trans rfl hμ) _ _ (fr_takeStamp (sub_trans rfl hμ) (int _ _ h)))
  | remapTable => exact upd_stored (sub_bit hμ rfl) h _
  | errorTable => exact upd_stored (sub_bit hμ rfl) h _
  | lifetimeCounters => exact fr_foldl (fun t k ht => fr_put (sub_trans rfl hμ) _ _ ht) _ h
  | hourlyMark hour => exact md _ _ h

def kf_noteBanks : Nat := 0x0
theorem fr_noteBanks {μ : Nat} (hμ : sub kf_noteBanks μ = true) {r₀ : State} (shifts : List (Option Nat)) {s : State} (hs : Keeps μ r₀ s) : Keeps μ r₀ (noteBanks shifts s) := by
  refine fr_foldl (fun t d ht => ?_) _ hs
  split <;> exact fr_put (sub_trans rfl hμ) _ _ (fr_put (sub_trans rfl hμ) _ _ ht)

def kf_applyOffInterval : Nat := 0x182000066
theorem fr_applyOffInterval {μ : Nat} (hμ : sub kf_applyOffInterval μ = true) (shifts : List (Option Nat)) {r₀ s : State} (hs : Keeps μ r₀
        s) : Keeps μ r₀ (applyOffInterval shifts s) := by
  have b1 : μ.testBit 1 = true := sub_bit hμ rfl
  have b25 : μ.testBit 25 = true := sub_bit hμ rfl
  unfold applyOffInterval
  simp (maxDischargeDepth := 40) +contextual only [hs, fr_ite, ite_self, implies_true, b1, b25, upd_deviceTime, upd_med, fr_addTo (sub_trans
        rfl hμ), fr_put (sub_trans rfl hμ), fr_noteBanks (sub_trans rfl hμ), fr_raise (sub_trans rfl hμ), fr_foldl]

def kf_loadCounts : Nat := 0x8000000
theorem fr_loadCounts {μ : Nat} (hμ : sub kf_loadCounts μ = true) {r₀ s : State} (hs : Keeps μ r₀ s) : Keeps μ r₀ (loadCounts s) := by
  have b27 : μ.testBit 27 = true := sub_bit hμ rfl
  unfold loadCounts
  simp (maxDischargeDepth := 40) +contextual only [hs, fr_ite, ite_self, implies_true, b27, upd_stored, fr_put (sub_trans rfl hμ), fr_foldl]

def kf_resetAgain : Nat := 0x2000000
theorem fr_resetAgain {μ : Nat} (hμ : sub kf_resetAgain μ = true) {r₀ s : State} (hs : Keeps μ r₀ s) : Keeps μ r₀ (resetAgain s) := by
  unfold resetAgain
  simp (maxDischargeDepth := 40) +contextual only [hs, fr_ite, ite_self, implies_true, fr_setStripe (sub_trans rfl hμ), fr_foldl]

def kf_settleTails : Nat := 0x7000000
theorem fr_settleTails {μ : Nat} (hμ : sub kf_settleTails μ = true) {r₀ s : State} (hs : Keeps μ r₀ s) : Keeps μ r₀ (settleTails s) := by
  have b24 : μ.testBit 24 = true := sub_bit hμ rfl
  have b26 : μ.testBit 26 = true := sub_bit hμ rfl
  unfold settleTails
  (try simp (maxDischargeDepth := 40) +contextual only [hs, fr_ite, ite_self, implies_true, b24, b26, upd_xlat_integ, fr_resetAgain (sub_trans
        rfl hμ)])
  repeat' split
  all_goals first
    | (with_reducible exact hs)
    | (simp (maxDischargeDepth := 40) +contextual only [hs, fr_ite, ite_self, implies_true, b24, b26, upd_xlat_integ, fr_resetAgain (sub_trans rfl
        hμ)]; done)

def kf_loadRegisters : Nat := 0x3000
theorem fr_loadRegisters {μ : Nat} (hμ : sub kf_loadRegisters μ = true) {r₀ s : State} (hs : Keeps μ r₀ s) : Keeps μ r₀ (loadRegisters s) :=
        by
  have b12 : μ.testBit 12 = true := sub_bit hμ rfl
  have b13 : μ.testBit 13 = true := sub_bit hμ rfl
  unfold loadRegisters
  simp (maxDischargeDepth := 40) +contextual only [hs, fr_ite, ite_self, implies_true, b12, b13, upd_lfsr1_lfsr2]

def kf_readImage : Nat := 0x19C000064
theorem fr_readImage {μ : Nat} (hμ : sub kf_readImage μ = true) {r₀ : State} (f : RestoreFindings) {s : State} (hs : Keeps μ r₀ s) : Keeps μ r₀ (readImage f s) := by
  unfold readImage
  split
  · exact hs
  · exact fr_cond (upd_pow (sub_bit hμ rfl) hs _) (fr_raise (sub_trans rfl hμ) _ (fr_nameLines (sub_trans rfl hμ) _ _ (fr_foldl (fun t _ ht =>
      fr_detectSomewhere (sub_trans rfl hμ) _ _ ht) _ (upd_integ (sub_bit hμ rfl) (upd_pow (sub_bit hμ rfl) hs _) _))))

def kf_readPowerLog : Nat := 0x10000000
theorem fr_readPowerLog {μ : Nat} (hμ : sub kf_readPowerLog μ = true) (f : RestoreFindings) {r₀ s : State} (hs : Keeps μ r₀ s) : Keeps μ r₀
        (readPowerLog f s) := by
  have b28 : μ.testBit 28 = true := sub_bit hμ rfl
  unfold readPowerLog
  (try simp (maxDischargeDepth := 40) +contextual only [hs, fr_ite, ite_self, implies_true, b28, upd_pow, fr_addTo (sub_trans rfl hμ), fr_put
        (sub_trans rfl hμ)])
  repeat' split
  all_goals first
    | (with_reducible exact hs)
    | (simp (maxDischargeDepth := 40) +contextual only [hs, fr_ite, ite_self, implies_true, b28, upd_pow, fr_addTo (sub_trans rfl hμ), fr_put
        (sub_trans rfl hμ)]; done)

def kf_dropTorn : Nat := 0x3000000
theorem fr_dropTorn {μ : Nat} (hμ : sub kf_dropTorn μ = true) (f : RestoreFindings) {r₀ s : State} (hs : Keeps μ r₀ s) : Keeps μ r₀
        (dropTorn f s) := by
  have b24 : μ.testBit 24 = true := sub_bit hμ rfl
  have b25 : μ.testBit 25 = true := sub_bit hμ rfl
  unfold dropTorn
  simp (maxDischargeDepth := 40) +contextual only [hs, fr_ite, ite_self, implies_true, b24, b25, upd_xlat_med]

def kf_restoreSix : Nat := 0x3BF7FFEEF
theorem fr_restoreSix {μ : Nat} (hμ : sub kf_restoreSix μ = true) (shifts : List (Option Nat)) (f : RestoreFindings) {r₀ s : State} (hs :
        Keeps μ r₀ s) : Keeps μ r₀ (restoreSix shifts f s) := by
  have b1 : μ.testBit 1 = true := sub_bit hμ rfl
  have b2 : μ.testBit 2 = true := sub_bit hμ rfl
  have b3 : μ.testBit 3 = true := sub_bit hμ rfl
  have b25 : μ.testBit 25 = true := sub_bit hμ rfl
  have b28 : μ.testBit 28 = true := sub_bit hμ rfl
  have b29 : μ.testBit 29 = true := sub_bit hμ rfl
  unfold restoreSix
  simp (maxDischargeDepth := 40) +contextual only [hs, fr_ite, ite_self, implies_true, b1, b2, b3, b25, b28, b29, upd_deviceTime_pow_modes,
        upd_med, upd_nextStamp_restoreStamp, fr_bump (sub_trans rfl hμ), fr_put (sub_trans rfl hμ), fr_applyOffInterval (sub_trans rfl hμ),
        fr_dropTorn (sub_trans rfl hμ), fr_loadCounts (sub_trans rfl hμ), fr_loadRegisters (sub_trans rfl hμ), fr_loseValue (sub_trans rfl
        hμ), fr_raiseTimes (sub_trans rfl hμ), fr_readImage (sub_trans rfl hμ), fr_readPowerLog (sub_trans rfl hμ), fr_settleTails
        (sub_trans rfl hμ), fr_foldl]

def kf_judgeChain : Nat := 0x3A77FCEE4
theorem fr_judgeChain {μ : Nat} (hμ : sub kf_judgeChain μ = true) (f : RestoreFindings) {r₀ s : State} (hs : Keeps μ r₀ s) : Keeps μ r₀
        (judgeChain f s) := by
  have b26 : μ.testBit 26 = true := sub_bit hμ rfl
  unfold judgeChain
  (try simp (maxDischargeDepth := 40) +contextual only [hs, fr_ite, ite_self, implies_true, b26, upd_integ, fr_failCheck (sub_trans rfl hμ),
        fr_foldl])
  repeat' split
  all_goals first
    | (with_reducible exact hs)
    | (simp (maxDischargeDepth := 40) +contextual only [hs, fr_ite, ite_self, implies_true, b26, upd_integ, fr_failCheck (sub_trans rfl hμ),
        fr_foldl]; done)

def kf_judgeDigests : Nat := 0x3A77FCEE4
theorem fr_judgeDigests {μ : Nat} (hμ : sub kf_judgeDigests μ = true) (f : RestoreFindings) {r₀ s : State} (hs : Keeps μ r₀ s) : Keeps μ r₀
        (judgeDigests f s) := by
  unfold judgeDigests
  simp (maxDischargeDepth := 40) +contextual only [hs, fr_ite, ite_self, implies_true, fr_failCheck (sub_trans rfl hμ), fr_foldl]

def kf_judgeLines : Nat := 0x2000000
theorem fr_judgeLines {μ : Nat} (hμ : sub kf_judgeLines μ = true) (before : List IntegrityEntry) {r₀ s : State} (hs : Keeps μ r₀ s) : Keeps
        μ r₀ (judgeLines before s) := by
  have b25 : μ.testBit 25 = true := sub_bit hμ rfl
  unfold judgeLines
  simp (maxDischargeDepth := 40) +contextual only [hs, fr_ite, ite_self, implies_true, b25, upd_med]

def kf_replayIntegrity : Nat := 0x4000000
theorem fr_replayIntegrity {μ : Nat} (hμ : sub kf_replayIntegrity μ = true) {r₀ s : State} (hs : Keeps μ r₀ s) : Keeps μ r₀ (replayIntegrity
        s) := by
  have b26 : μ.testBit 26 = true := sub_bit hμ rfl
  unfold replayIntegrity
  simp (maxDischargeDepth := 40) +contextual only [hs, fr_ite, ite_self, implies_true, b26, upd_integ, fr_foldl]

def kf_dropUnnamed : Nat := 0x2000000
theorem fr_dropUnnamed {μ : Nat} (hμ : sub kf_dropUnnamed μ = true) {r₀ s : State} (hs : Keeps μ r₀ s) : Keeps μ r₀ (dropUnnamed s) := by
  have b25 : μ.testBit 25 = true := sub_bit hμ rfl
  unfold dropUnnamed
  simp (maxDischargeDepth := 40) +contextual only [hs, fr_ite, ite_self, implies_true, b25, upd_med]

def kf_restoreTable : Nat := 0x4000000
theorem fr_restoreTable {μ : Nat} (hμ : sub kf_restoreTable μ = true) {r₀ s : State} (hs : Keeps μ r₀ s) : Keeps μ r₀ (restoreTable s) := by
  have b26 : μ.testBit 26 = true := sub_bit hμ rfl
  unfold restoreTable
  simp (maxDischargeDepth := 40) +contextual only [hs, fr_ite, ite_self, implies_true, b26, upd_integ, fr_foldl]

def kf_noteTornSave : Nat := 0x2000000
theorem fr_noteTornSave {μ : Nat} (hμ : sub kf_noteTornSave μ = true) (f : RestoreFindings) {r₀ s : State} (hs : Keeps μ r₀ s) : Keeps μ r₀
        (noteTornSave f s) := by
  have b25 : μ.testBit 25 = true := sub_bit hμ rfl
  unfold noteTornSave
  simp (maxDischargeDepth := 40) +contextual only [hs, fr_ite, ite_self, implies_true, b25, upd_med]

def kf_restoreEight : Nat := 0x187000064
theorem fr_restoreEight {μ : Nat} (hμ : sub kf_restoreEight μ = true) {r₀ s : State} (hs : Keeps μ r₀ s) : Keeps μ r₀ (restoreEight s) := by
  have b24 : μ.testBit 24 = true := sub_bit hμ rfl
  unfold restoreEight
  simp (maxDischargeDepth := 40) +contextual only [hs, fr_ite, ite_self, implies_true, b24, upd_xlat, fr_put (sub_trans rfl hμ),
        fr_dropUnnamed (sub_trans rfl hμ), fr_raise (sub_trans rfl hμ), fr_replayIntegrity (sub_trans rfl hμ), fr_restoreTable (sub_trans
        rfl hμ), fr_restoreUnits (sub_trans rfl hμ), fr_foldl]

def kf_resolveGroups : Nat := 0x180020064
theorem fr_resolveGroups {μ : Nat} (hμ : sub kf_resolveGroups μ = true) (source before : Tbl Group) {r₀ s : State} (hs : Keeps μ r₀ s) :
        Keeps μ r₀ (resolveGroups source before s) := by
  have b17 : μ.testBit 17 = true := sub_bit hμ rfl
  unfold resolveGroups
  simp (maxDischargeDepth := 40) +contextual only [hs, fr_ite, ite_self, implies_true, b17, upd_groups, fr_put (sub_trans rfl hμ), fr_raiseIf
        (sub_trans rfl hμ), fr_foldl]

def kf_reinstateQueues : Nat := 0x38702CEE4
theorem fr_reinstateQueues {μ : Nat} (hμ : sub kf_reinstateQueues μ = true) (i : Image) {r₀ s : State} (hs : Keeps μ r₀ s) : Keeps μ r₀
        (reinstateQueues i s) := by
  unfold reinstateQueues
  simp (maxDischargeDepth := 40) +contextual only [hs, fr_ite, ite_self, implies_true, fr_modPort (sub_trans rfl hμ), fr_drainPort (sub_trans
        rfl hμ)]

def kf_waitCommits : Nat := 0x1000000
theorem fr_waitCommits {μ : Nat} (hμ : sub kf_waitCommits μ = true) {r₀ s : State} (hs : Keeps μ r₀ s) : Keeps μ r₀ (waitCommits s) := by
  have b24 : μ.testBit 24 = true := sub_bit hμ rfl
  unfold waitCommits
  simp (maxDischargeDepth := 40) +contextual only [hs, fr_ite, ite_self, implies_true, b24, upd_xlat]

def kf_reinstate : Nat := 0x38702CEE4
theorem fr_reinstate {μ : Nat} (hμ : sub kf_reinstate μ = true) (i : Image) {r₀ s : State} (hs : Keeps μ r₀ s) : Keeps μ r₀ (reinstate i s)
        := by
  have b7 : μ.testBit 7 = true := sub_bit hμ rfl
  have b26 : μ.testBit 26 = true := sub_bit hμ rfl
  have b33 : μ.testBit 33 = true := sub_bit hμ rfl
  unfold reinstate
  simp (maxDischargeDepth := 40) +contextual only [hs, fr_ite, ite_self, implies_true, b7, b26, b33, upd_staging_integ_obs, fr_put (sub_trans
        rfl hμ), fr_dirtySegment (sub_trans rfl hμ), fr_reinstateQueues (sub_trans rfl hμ), fr_resolveGroups (sub_trans rfl hμ),
        fr_waitCommits (sub_trans rfl hμ), fr_foldl]

def kf_restoreUnsaved : Nat := 0x3800200E4
theorem fr_restoreUnsaved {μ : Nat} (hμ : sub kf_restoreUnsaved μ = true) {r₀ s : State} (hs : Keeps μ r₀ s) : Keeps μ r₀ (restoreUnsaved s)
        := by
  have b7 : μ.testBit 7 = true := sub_bit hμ rfl
  have b33 : μ.testBit 33 = true := sub_bit hμ rfl
  unfold restoreUnsaved
  simp (maxDischargeDepth := 40) +contextual only [hs, fr_ite, ite_self, implies_true, b7, b33, upd_staging_obs, fr_resolveGroups (sub_trans
        rfl hμ), fr_foldl]

def kf_reportDirty : Nat := 0x180000064
theorem fr_reportDirty {μ : Nat} (hμ : sub kf_reportDirty μ = true) {r₀ s : State} (hs : Keeps μ r₀ s) : Keeps μ r₀ (reportDirty s) := by
  unfold reportDirty
  simp (maxDischargeDepth := 40) +contextual only [hs, fr_ite, ite_self, implies_true, fr_bump (sub_trans rfl hμ), fr_postRecord (sub_trans
        rfl hμ), fr_raise (sub_trans rfl hμ)]

def kf_takeImage : Nat := 0x38702CEE4
theorem fr_takeImage {μ : Nat} (hμ : sub kf_takeImage μ = true) {r₀ s : State} (hs : Keeps μ r₀ s) : Keeps μ r₀ (takeImage s) := by
  unfold takeImage
  (try simp (maxDischargeDepth := 40) +contextual only [hs, fr_ite, ite_self, implies_true, fr_reinstate (sub_trans rfl hμ), fr_restoreUnsaved
        (sub_trans rfl hμ)])
  repeat' split
  all_goals first
    | (with_reducible exact hs)
    | (simp (maxDischargeDepth := 40) +contextual only [hs, fr_ite, ite_self, implies_true, fr_reinstate (sub_trans rfl hμ), fr_restoreUnsaved
        (sub_trans rfl hμ)]; done)

def kf_reportShutdown : Nat := 0x190000064
theorem fr_reportShutdown {μ : Nat} (hμ : sub kf_reportShutdown μ = true) {r₀ s : State} (hs : Keeps μ r₀ s) : Keeps μ r₀ (reportShutdown s)
        := by
  have b28 : μ.testBit 28 = true := sub_bit hμ rfl
  unfold reportShutdown
  simp (maxDischargeDepth := 40) +contextual only [hs, fr_ite, ite_self, implies_true, b28, upd_pow, fr_raise (sub_trans rfl hμ),
        fr_reportDirty (sub_trans rfl hμ)]

def kf_fixPersistPoint : Nat := 0x3977ECEE4
theorem fr_fixPersistPoint {μ : Nat} (hμ : sub kf_fixPersistPoint μ = true) {r₀ s : State} (hs : Keeps μ r₀ s) : Keeps μ r₀ (fixPersistPoint
        s) := by
  have b28 : μ.testBit 28 = true := sub_bit hμ rfl
  unfold fixPersistPoint
  simp (maxDischargeDepth := 40) +contextual only [hs, fr_ite, ite_self, implies_true, b28, upd_pow, fr_put (sub_trans rfl hμ),
        fr_updateProtection (sub_trans rfl hμ)]

def kf_endNine : Nat := 0x3B77ECEE4
theorem fr_endNine {μ : Nat} (hμ : sub kf_endNine μ = true) {r₀ s : State} (hs : Keeps μ r₀ s) : Keeps μ r₀ (endNine s) := by
  have b29 : μ.testBit 29 = true := sub_bit hμ rfl
  unfold endNine
  simp (maxDischargeDepth := 40) +contextual only [hs, fr_ite, ite_self, implies_true, b29, upd_modes, fr_fixPersistPoint (sub_trans rfl hμ),
        fr_programAll (sub_trans rfl hμ), fr_startCurtain (sub_trans rfl hμ)]

def kf_restoreNine : Nat := 0x3B77ECEE4
theorem fr_restoreNine {μ : Nat} (hμ : sub kf_restoreNine μ = true) {r₀ s : State} (hs : Keeps μ r₀ s) : Keeps μ r₀ (restoreNine s) := by
  have b29 : μ.testBit 29 = true := sub_bit hμ rfl
  unfold restoreNine
  simp (maxDischargeDepth := 40) +contextual only [hs, fr_ite, ite_self, implies_true, b29, upd_modes, fr_endNine (sub_trans rfl hμ),
        fr_reportShutdown (sub_trans rfl hμ), fr_takeImage (sub_trans rfl hμ)]

def kf_restoreTen : Nat := 0x385000064
theorem fr_restoreTen {μ : Nat} (hμ : sub kf_restoreTen μ = true) {r₀ s : State} (hs : Keeps μ r₀ s) : Keeps μ r₀ (restoreTen s) := by
  unfold restoreTen
  simp (maxDischargeDepth := 40) +contextual only [hs, fr_ite, ite_self, implies_true, fr_put (sub_trans rfl hμ), fr_pinRegion (sub_trans rfl
        hμ), fr_rebuildSegment (sub_trans rfl hμ), fr_foldl]

def kf_restoreEleven : Nat := 0x1A0000064
theorem fr_restoreEleven {μ : Nat} (hμ : sub kf_restoreEleven μ = true) {r₀ s : State} (hs : Keeps μ r₀ s) : Keeps μ r₀ (restoreEleven s) :=
        by
  unfold restoreEleven
  (try simp (maxDischargeDepth := 40) +contextual only [hs, fr_ite, ite_self, implies_true, fr_put (sub_trans rfl hμ), fr_raiseReady
        (sub_trans rfl hμ), fr_releasePins (sub_trans rfl hμ)])
  repeat' split
  all_goals first
    | (with_reducible exact hs)
    | (simp (maxDischargeDepth := 40) +contextual only [hs, fr_ite, ite_self, implies_true, fr_put (sub_trans rfl hμ), fr_raiseReady (sub_trans
        rfl hμ), fr_releasePins (sub_trans rfl hμ)]; done)

def kf_endRestore : Nat := 0x3AF7FCEE4
theorem fr_endRestore {μ : Nat} (hμ : sub kf_endRestore μ = true) {r₀ s : State} (hs : Keeps μ r₀ s) : Keeps μ r₀ (endRestore s) := by
  unfold endRestore
  (try simp (maxDischargeDepth := 40) +contextual only [hs, fr_ite, ite_self, implies_true, fr_put (sub_trans rfl hμ), fr_haltNow (sub_trans
        rfl hμ), fr_releasePins (sub_trans rfl hμ), fr_releaseScratch (sub_trans rfl hμ), fr_setMode (sub_trans rfl hμ), fr_silence
        (sub_trans rfl hμ)])
  repeat' split
  all_goals first
    | (with_reducible exact hs)
    | (simp (maxDischargeDepth := 40) +contextual only [hs, fr_ite, ite_self, implies_true, fr_put (sub_trans rfl hμ), fr_haltNow (sub_trans rfl
        hμ), fr_releasePins (sub_trans rfl hμ), fr_releaseScratch (sub_trans rfl hμ), fr_setMode (sub_trans rfl hμ), fr_silence (sub_trans
        rfl hμ)]; done)

def kf_restoreStepNow : Nat := 0x3BF7FFEEF
theorem fr_restoreStepNow {μ : Nat} (hμ : sub kf_restoreStepNow μ = true) (n : Nat) (shifts : List (Option Nat)) (f : RestoreFindings) {r₀ s : State}
        (hs : Keeps μ r₀ s) : Keeps μ r₀ (restoreStepNow n shifts f s) := by
  have b29 : μ.testBit 29 = true := sub_bit hμ rfl
  unfold restoreStepNow
  simp (maxDischargeDepth := 40) +contextual only [hs, fr_ite, ite_self, implies_true, b29, upd_modes, fr_put (sub_trans rfl hμ), fr_dropTorn
        (sub_trans rfl hμ), fr_endRestore (sub_trans rfl hμ), fr_judgeChain (sub_trans rfl hμ), fr_judgeDigests (sub_trans rfl hμ),
        fr_judgeLines (sub_trans rfl hμ), fr_noteTornSave (sub_trans rfl hμ), fr_rebuildAll (sub_trans rfl hμ), fr_restoreEight (sub_trans
        rfl hμ), fr_restoreEleven (sub_trans rfl hμ), fr_restoreNine (sub_trans rfl hμ), fr_restoreSix (sub_trans rfl hμ), fr_restoreTen
        (sub_trans rfl hμ)]

def kf_restoreSteps : Nat := 0x3BF7FFEEF
theorem fr_restoreSteps {μ : Nat} (hμ : sub kf_restoreSteps μ = true) {r₀ : State} (k upTo : Nat) (shifts : List (Option Nat)) (f : RestoreFindings) {s : State} (hs : Keeps μ r₀ s) :
    Keeps μ r₀ (restoreSteps k upTo shifts f s) := by
  induction k generalizing s with
  | zero => exact hs
  | succ k ih =>
    unfold restoreSteps
    simp only
    split
    · exact ih (fr_restoreStepNow (sub_trans rfl hμ) _ _ _ hs)
    · exact hs

def kf_sendStep : Nat := 0x0
theorem fr_sendStep {μ : Nat} (hμ : sub kf_sendStep μ = true) (req : Req) (mailboxOp linkOp status : Nat) (value : List Byte) {r₀ s : State}
        (hs : Keeps μ r₀ s) : Keeps μ r₀ (sendStep req mailboxOp linkOp status value s) := by
  unfold sendStep
  simp (maxDischargeDepth := 40) +contextual only [hs, fr_ite, ite_self, implies_true, fr_emit (sub_trans rfl hμ)]

def kf_noteFailure : Nat := 0x180000064
theorem fr_noteFailure {μ : Nat} (hμ : sub kf_noteFailure μ = true) (path : Path) {r₀ s : State} (hs : Keeps μ r₀ s) : Keeps μ r₀
        (noteFailure path s) := by
  have b31 : μ.testBit 31 = true := sub_bit hμ rfl
  unfold noteFailure
  simp (maxDischargeDepth := 40) +contextual only [hs, fr_ite, ite_self, implies_true, b31, upd_mgmt, fr_bump (sub_trans rfl hμ), fr_raise
        (sub_trans rfl hμ)]

def kf_reserveNumber : Nat := 0x80000000
theorem fr_reserveNumber {μ : Nat} (hμ : sub kf_reserveNumber μ = true) (req : Req) (level : Nat) (nonce : BitVec 128) {r₀ s : State} (hs :
        Keeps μ r₀ s) : Keeps μ r₀ (reserveNumber req level nonce s) := by
  have b31 : μ.testBit 31 = true := sub_bit hμ rfl
  unfold reserveNumber
  simp (maxDischargeDepth := 40) +contextual only [hs, fr_ite, ite_self, implies_true, b31, upd_mgmt, fr_drawn (sub_trans rfl hμ), fr_sendStep
        (sub_trans rfl hμ)]

def kf_openStep : Nat := 0x180000064
theorem fr_openStep {μ : Nat} (hμ : sub kf_openStep μ = true) (req : Req) (level : Nat) (nonce : BitVec 128) {r₀ s : State} (hs : Keeps μ r₀
        s) : Keeps μ r₀ (openStep req level nonce s) := by
  unfold openStep
  simp (maxDischargeDepth := 40) +contextual only [hs, fr_ite, ite_self, implies_true, fr_raise (sub_trans rfl hμ), fr_reserveNumber
        (sub_trans rfl hμ), fr_sendStep (sub_trans rfl hμ)]

def kf_responseStep : Nat := 0x180000064
theorem fr_responseStep {μ : Nat} (hμ : sub kf_responseStep μ = true) (req : Req) (number : Nat) (proof : BitVec 256) {r₀ s : State} (hs :
        Keeps μ r₀ s) : Keeps μ r₀ (responseStep req number proof s) := by
  have b31 : μ.testBit 31 = true := sub_bit hμ rfl
  unfold responseStep
  (try simp (maxDischargeDepth := 40) +contextual only [hs, fr_ite, ite_self, implies_true, b31, upd_mgmt, fr_noteFailure (sub_trans rfl hμ),
        fr_sendStep (sub_trans rfl hμ)])
  repeat' split
  all_goals first
    | (with_reducible exact hs)
    | (simp (maxDischargeDepth := 40) +contextual only [hs, fr_ite, ite_self, implies_true, b31, upd_mgmt, fr_noteFailure (sub_trans rfl hμ),
        fr_sendStep (sub_trans rfl hμ)]; done)

def kf_refuseClose : Nat := 0x0
theorem fr_refuseClose {μ : Nat} (hμ : sub kf_refuseClose μ = true) (req : Req) (status : Nat) {r₀ s : State} (hs : Keeps μ r₀ s) : Keeps μ
        r₀ (refuseClose req status s) := by
  unfold refuseClose
  simp (maxDischargeDepth := 40) +contextual only [hs, fr_ite, ite_self, implies_true, fr_emit (sub_trans rfl hμ)]

def kf_closeNow : Nat := 0x80000000
theorem fr_closeNow {μ : Nat} (hμ : sub kf_closeNow μ = true) (req : Req) {r₀ s : State} (hs : Keeps μ r₀ s) : Keeps μ r₀ (closeNow req s)
        := by
  unfold closeNow
  simp (maxDischargeDepth := 40) +contextual only [hs, fr_ite, ite_self, implies_true, fr_emit (sub_trans rfl hμ), fr_endSessions (sub_trans
        rfl hμ)]

def kf_activationEnds : Nat := 0x1A0000064
theorem fr_activationEnds {μ : Nat} (hμ : sub kf_activationEnds μ = true) {r₀ s : State} (hs : Keeps μ r₀ s) : Keeps μ r₀ (activationEnds s)
        := by
  unfold activationEnds
  (try simp (maxDischargeDepth := 40) +contextual only [hs, fr_ite, ite_self, implies_true, fr_finishActivation (sub_trans rfl hμ)])
  repeat' split
  all_goals first
    | (with_reducible exact hs)
    | (simp (maxDischargeDepth := 40) +contextual only [hs, fr_ite, ite_self, implies_true, fr_finishActivation (sub_trans rfl hμ)]; done)

end Sys2Proof.Machine
end

