-- ==== Sys2Proof/Laws/KeepsMeanings.lean ====
section
/-! SUPPORT. The same of the meanings: which parts of the state a command may write. -/

namespace Sys2Proof.Machine

set_option linter.unusedVariables false
set_option linter.unusedSimpArgs false
set_option linter.unusedTactic false
set_option linter.unreachableTactic false

def kf_execFoldStart : Nat := 0x2000000
theorem fr_execFoldStart {μ : Nat} (hμ : sub kf_execFoldStart μ = true) {r₀ s : State} (hs : Keeps μ r₀ s) : NextIs (Keeps μ r₀)
        (execFoldStart s) := by
  have b25 : μ.testBit 25 = true := sub_bit hμ rfl
  unfold execFoldStart
  simp (maxDischargeDepth := 40) +contextual only [hs, fr_ite, ite_self, implies_true, b25, upd_med, nextIs_next, nextIs_ite, nextIs_fault]

def kf_execFoldStop : Nat := 0x2000000
theorem fr_execFoldStop {μ : Nat} (hμ : sub kf_execFoldStop μ = true) {r₀ s : State} (hs : Keeps μ r₀ s) : NextIs (Keeps μ r₀) (execFoldStop
        s) := by
  have b25 : μ.testBit 25 = true := sub_bit hμ rfl
  unfold execFoldStop
  simp (maxDischargeDepth := 40) +contextual only [hs, fr_ite, ite_self, implies_true, b25, upd_med, nextIs_next, nextIs_ite, nextIs_fault]

def kf_execFoldStripePageDispatch : Nat := 0x387000064
theorem fr_execFoldStripePageDispatch {μ : Nat} (hμ : sub kf_execFoldStripePageDispatch μ = true) {r₀ s : State} (hs : Keeps μ r₀ s) :
        NextIs (Keeps μ r₀) (execFoldStripePageDispatch s) := by
  unfold execFoldStripePageDispatch
  simp (maxDischargeDepth := 40) +contextual only [hs, fr_ite, ite_self, implies_true, fr_dispatchFold (sub_trans rfl hμ), nextIs_next,
        nextIs_ite, nextIs_fault]

def kf_execFoldMapSet : Nat := 0x387000064
theorem fr_execFoldMapSet {μ : Nat} (hμ : sub kf_execFoldMapSet μ = true) (id : Nat) {r₀ s : State} (hs : Keeps μ r₀ s) : NextIs (Keeps μ
        r₀) (execFoldMapSet id s) := by
  unfold execFoldMapSet
  (try simp (maxDischargeDepth := 40) +contextual only [hs, fr_ite, ite_self, implies_true, fr_addTo (sub_trans rfl hμ), fr_applyPage
        (sub_trans rfl hμ), fr_count (sub_trans rfl hμ), nextIs_next, nextIs_ite, nextIs_fault])
  repeat' split
  all_goals first
    | (with_reducible exact hs)
    | (simp (maxDischargeDepth := 40) +contextual only [hs, fr_ite, ite_self, implies_true, fr_addTo (sub_trans rfl hμ), fr_applyPage (sub_trans
        rfl hμ), fr_count (sub_trans rfl hμ), nextIs_next, nextIs_ite, nextIs_fault]; done)

def kf_execSegmentFold : Nat := 0x387000064
theorem fr_execSegmentFold {μ : Nat} (hμ : sub kf_execSegmentFold μ = true) (segment : Nat) {r₀ s : State} (hs : Keeps μ r₀ s) : NextIs
        (Keeps μ r₀) (execSegmentFold segment s) := by
  have b24 : μ.testBit 24 = true := sub_bit hμ rfl
  unfold execSegmentFold
  simp (maxDischargeDepth := 40) +contextual only [hs, fr_ite, ite_self, implies_true, b24, upd_xlat, fr_startRebuild (sub_trans rfl hμ),
        fr_writeMoves (sub_trans rfl hμ), nextIs_next, nextIs_ite, nextIs_fault]

def kf_execLogTrim : Nat := 0x387000064
theorem fr_execLogTrim {μ : Nat} (hμ : sub kf_execLogTrim μ = true) {r₀ s : State} (hs : Keeps μ r₀ s) : NextIs (Keeps μ r₀) (execLogTrim s)
        := by
  have b24 : μ.testBit 24 = true := sub_bit hμ rfl
  have b25 : μ.testBit 25 = true := sub_bit hμ rfl
  unfold execLogTrim
  simp (maxDischargeDepth := 40) +contextual only [hs, fr_ite, ite_self, implies_true, b24, b25, upd_xlat_med, fr_checkLogFull (sub_trans rfl
        hμ), fr_journalPut (sub_trans rfl hμ), fr_programTail (sub_trans rfl hμ), nextIs_next, nextIs_ite, nextIs_fault]

def kf_execLogRelocation : Nat := 0x2000000
theorem fr_execLogRelocation {μ : Nat} (hμ : sub kf_execLogRelocation μ = true) (line : Nat) {r₀ s : State} (hs : Keeps μ r₀ s) : NextIs
        (Keeps μ r₀) (execLogRelocation line s) := by
  have b25 : μ.testBit 25 = true := sub_bit hμ rfl
  unfold execLogRelocation
  (try simp (maxDischargeDepth := 40) +contextual only [hs, fr_ite, ite_self, implies_true, b25, upd_med, nextIs_next, nextIs_ite,
        nextIs_fault])
  repeat' split
  all_goals first
    | (with_reducible exact hs)
    | (simp (maxDischargeDepth := 40) +contextual only [hs, fr_ite, ite_self, implies_true, b25, upd_med, nextIs_next, nextIs_ite, nextIs_fault];
        done)

def kf_execCollection : Nat := 0x387000064
theorem fr_execCollection {μ : Nat} (hμ : sub kf_execCollection μ = true) {r₀ s : State} (hs : Keeps μ r₀ s) : NextIs (Keeps μ r₀)
        (execCollection s) := by
  unfold execCollection
  (try simp (maxDischargeDepth := 40) +contextual only [hs, fr_ite, ite_self, implies_true, fr_collect (sub_trans rfl hμ), fr_rebuildStep
        (sub_trans rfl hμ), fr_relieveRing (sub_trans rfl hμ), nextIs_next, nextIs_ite, nextIs_fault])
  repeat' split
  all_goals first
    | (with_reducible exact hs)
    | (simp (maxDischargeDepth := 40) +contextual only [hs, fr_ite, ite_self, implies_true, fr_collect (sub_trans rfl hμ), fr_rebuildStep
        (sub_trans rfl hμ), fr_relieveRing (sub_trans rfl hμ), nextIs_next, nextIs_ite, nextIs_fault]; done)

def kf_execCollectionCritical : Nat := 0x182000064
theorem fr_execCollectionCritical {μ : Nat} (hμ : sub kf_execCollectionCritical μ = true) {r₀ s : State} (hs : Keeps μ r₀ s) : NextIs (Keeps
        μ r₀) (execCollectionCritical s) := by
  have b25 : μ.testBit 25 = true := sub_bit hμ rfl
  unfold execCollectionCritical
  simp (maxDischargeDepth := 40) +contextual only [hs, fr_ite, ite_self, implies_true, b25, upd_med, fr_noteHealth (sub_trans rfl hμ),
        fr_raise (sub_trans rfl hμ), nextIs_next, nextIs_ite, nextIs_fault]

def kf_execDestinationProgramFailure : Nat := 0x387000064
theorem fr_execDestinationProgramFailure {μ : Nat} (hμ : sub kf_execDestinationProgramFailure μ = true) (stripe : Fin 65536) (channel : Fin
        16) {r₀ s : State} (hs : Keeps μ r₀ s) : NextIs (Keeps μ r₀) (execDestinationProgramFailure stripe channel s) := by
  unfold execDestinationProgramFailure
  simp (maxDischargeDepth := 40) +contextual only [hs, fr_ite, ite_self, implies_true, fr_bump (sub_trans rfl hμ), fr_setStripe (sub_trans rfl
        hμ), fr_lastingFault (sub_trans rfl hμ), fr_raise (sub_trans rfl hμ), fr_redirect (sub_trans rfl hμ), fr_writeMoves (sub_trans rfl
        hμ), fr_foldl, nextIs_next, nextIs_ite, nextIs_fault]

def kf_execSourceSectorFailure : Nat := 0x3AF7FCEE4
theorem fr_execSourceSectorFailure {μ : Nat} (hμ : sub kf_execSourceSectorFailure μ = true) (unit page sector : Nat) (recovered : Bool) {r₀ s : State}
        (hs : Keeps μ r₀ s) : NextIs (Keeps μ r₀) (execSourceSectorFailure unit page sector recovered s) := by
  unfold execSourceSectorFailure
  simp (maxDischargeDepth := 40) +contextual only [hs, fr_ite, ite_self, implies_true, fr_recoverSector (sub_trans rfl hμ), nextIs_next,
        nextIs_ite, nextIs_fault]

def kf_execWearLevellingMove : Nat := 0x387000064
theorem fr_execWearLevellingMove {μ : Nat} (hμ : sub kf_execWearLevellingMove μ = true) {r₀ s : State} (hs : Keeps μ r₀ s) : NextIs (Keeps μ
        r₀) (execWearLevellingMove s) := by
  unfold execWearLevellingMove
  (try simp (maxDischargeDepth := 40) +contextual only [hs, fr_ite, ite_self, implies_true, fr_bump (sub_trans rfl hμ), fr_collect (sub_trans
        rfl hμ), fr_wornDest (sub_trans rfl hμ), nextIs_next, nextIs_ite, nextIs_fault])
  repeat' split
  all_goals first
    | (with_reducible exact hs)
    | (simp (maxDischargeDepth := 40) +contextual only [hs, fr_ite, ite_self, implies_true, fr_bump (sub_trans rfl hμ), fr_collect (sub_trans rfl
        hμ), fr_wornDest (sub_trans rfl hμ), nextIs_next, nextIs_ite, nextIs_fault]; done)

def kf_execRoleRotation : Nat := 0x387000064
theorem fr_execRoleRotation {μ : Nat} (hμ : sub kf_execRoleRotation μ = true) (ring : Ring) (index : Nat) {r₀ s : State} (hs : Keeps μ r₀ s)
        : NextIs (Keeps μ r₀) (execRoleRotation ring index s) := by
  unfold execRoleRotation
  (try simp (maxDischargeDepth := 40) +contextual only [hs, fr_ite, ite_self, implies_true, fr_bump (sub_trans rfl hμ), fr_moveRing (sub_trans
        rfl hμ), fr_raise (sub_trans rfl hμ), nextIs_next, nextIs_ite, nextIs_fault])
  repeat' split
  all_goals first
    | (with_reducible exact hs)
    | (simp (maxDischargeDepth := 40) +contextual only [hs, fr_ite, ite_self, implies_true, fr_bump (sub_trans rfl hμ), fr_moveRing (sub_trans rfl
        hμ), fr_raise (sub_trans rfl hμ), nextIs_next, nextIs_ite, nextIs_fault]; done)

def kf_execHourlyTrickle : Nat := 0xA000000
theorem fr_execHourlyTrickle {μ : Nat} (hμ : sub kf_execHourlyTrickle μ = true) {r₀ s : State} (hs : Keeps μ r₀ s) : NextIs (Keeps μ r₀)
        (execHourlyTrickle s) := by
  have b25 : μ.testBit 25 = true := sub_bit hμ rfl
  unfold execHourlyTrickle
  simp (maxDischargeDepth := 40) +contextual only [hs, fr_ite, ite_self, implies_true, b25, upd_med, fr_saveCounts (sub_trans rfl hμ),
        nextIs_next, nextIs_ite, nextIs_fault]

def kf_execFullLineWrite : Nat := 0x3877ECEF4
theorem fr_execFullLineWrite {μ : Nat} (hμ : sub kf_execFullLineWrite μ = true) (p : Port) (tag line : Nat) (data : Line) {r₀ s : State} (hs
        : Keeps μ r₀ s) : NextIs (Keeps μ r₀) (execFullLineWrite p tag line data s) := by
  unfold execFullLineWrite
  simp (maxDischargeDepth := 40) +contextual only [hs, fr_ite, ite_self, implies_true, fr_acceptWhole (sub_trans rfl hμ), fr_windowWrite
        (sub_trans rfl hμ), nextIs_next, nextIs_ite, nextIs_fault]

def kf_execPartialWrite : Nat := 0x3877ECEF4
theorem fr_execPartialWrite {μ : Nat} (hμ : sub kf_execPartialWrite μ = true) (p : Port) (tag line : Nat) (be : ByteEnables) (data : Line)
        {r₀ s : State} (hs : Keeps μ r₀ s) : NextIs (Keeps μ r₀) (execPartialWrite p tag line be data s) := by
  unfold execPartialWrite
  simp (maxDischargeDepth := 40) +contextual only [hs, fr_ite, ite_self, implies_true, fr_acceptPartial (sub_trans rfl hμ), fr_acceptWhole
        (sub_trans rfl hμ), fr_windowWrite (sub_trans rfl hμ), nextIs_next, nextIs_ite, nextIs_fault]

def kf_execPoisonedWrite : Nat := 0x3877ECEF4
theorem fr_execPoisonedWrite {μ : Nat} (hμ : sub kf_execPoisonedWrite μ = true) (p : Port) (tag line : Nat) {r₀ s : State} (hs : Keeps μ r₀
        s) : NextIs (Keeps μ r₀) (execPoisonedWrite p tag line s) := by
  unfold execPoisonedWrite
  simp (maxDischargeDepth := 40) +contextual only [hs, fr_ite, ite_self, implies_true, fr_acceptWhole (sub_trans rfl hμ), fr_windowWrite
        (sub_trans rfl hμ), nextIs_next, nextIs_ite, nextIs_fault]

def kf_execMergePlacement : Nat := 0x3877ECEE4
theorem fr_execMergePlacement {μ : Nat} (hμ : sub kf_execMergePlacement μ = true) (p : Port) (tag : Nat) {r₀ s : State} (hs : Keeps μ r₀ s)
        : NextIs (Keeps μ r₀) (execMergePlacement p tag s) := by
  unfold execMergePlacement
  (try simp (maxDischargeDepth := 40) +contextual only [hs, fr_ite, ite_self, implies_true, fr_goOn (sub_trans rfl hμ), fr_mergeWaits
        (sub_trans rfl hμ), fr_transfer (sub_trans rfl hμ), nextIs_next, nextIs_ite, nextIs_fault])
  repeat' split
  all_goals first
    | (with_reducible exact hs)
    | (simp (maxDischargeDepth := 40) +contextual only [hs, fr_ite, ite_self, implies_true, fr_goOn (sub_trans rfl hμ), fr_mergeWaits (sub_trans
        rfl hμ), fr_transfer (sub_trans rfl hμ), nextIs_next, nextIs_ite, nextIs_fault]; done)

def kf_execGlobalVisibilityTransfer : Nat := 0x3877ECFE4
theorem fr_execGlobalVisibilityTransfer {μ : Nat} (hμ : sub kf_execGlobalVisibilityTransfer μ = true) (p : Port) {r₀ s : State} (hs : Keeps
        μ r₀ s) : NextIs (Keeps μ r₀) (execGlobalVisibilityTransfer p s) := by
  unfold execGlobalVisibilityTransfer
  (try simp (maxDischargeDepth := 40) +contextual only [hs, fr_ite, ite_self, implies_true, fr_endStall (sub_trans rfl hμ), fr_goOn (sub_trans
        rfl hμ), fr_rearmStall (sub_trans rfl hμ), fr_stallDrain (sub_trans rfl hμ), fr_transfer (sub_trans rfl hμ), nextIs_next,
        nextIs_ite, nextIs_fault])
  repeat' split
  all_goals first
    | (with_reducible exact hs)
    | (simp (maxDischargeDepth := 40) +contextual only [hs, fr_ite, ite_self, implies_true, fr_endStall (sub_trans rfl hμ), fr_goOn (sub_trans rfl
        hμ), fr_rearmStall (sub_trans rfl hμ), fr_stallDrain (sub_trans rfl hμ), fr_transfer (sub_trans rfl hμ), nextIs_next, nextIs_ite,
        nextIs_fault]; done)

def kf_execMemRd : Nat := 0x3877EFEF4
theorem fr_execMemRd {μ : Nat} (hμ : sub kf_execMemRd μ = true) (p : Port) (tag line : Nat) {r₀ s : State} (hs : Keeps μ r₀ s) : NextIs
        (Keeps μ r₀) (execMemRd p tag line s) := by
  unfold execMemRd
  simp (maxDischargeDepth := 40) +contextual only [hs, fr_ite, ite_self, implies_true, fr_acceptRead (sub_trans rfl hμ), fr_windowRead
        (sub_trans rfl hμ), nextIs_next, nextIs_ite, nextIs_fault]

def kf_execMediumSectorReadDone : Nat := 0x38F01FC64
theorem fr_execMediumSectorReadDone {μ : Nat} (hμ : sub kf_execMediumSectorReadDone μ = true) (rid : Nat) (bch : Bool) (tags : BitVec 4) {r₀ s : State}
        (hs : Keeps μ r₀ s) : NextIs (Keeps μ r₀) (execMediumSectorReadDone rid bch tags s) := by
  unfold execMediumSectorReadDone
  (try simp (maxDischargeDepth := 40) +contextual only [hs, fr_ite, ite_self, implies_true, fr_sectorDone (sub_trans rfl hμ), fr_tagDone
        (sub_trans rfl hμ), nextIs_next, nextIs_ite, nextIs_fault])
  repeat' split
  all_goals first
    | (with_reducible exact hs)
    | (simp (maxDischargeDepth := 40) +contextual only [hs, fr_ite, ite_self, implies_true, fr_sectorDone (sub_trans rfl hμ), fr_tagDone
        (sub_trans rfl hμ), nextIs_next, nextIs_ite, nextIs_fault]; done)

def kf_execPatienceExpiry : Nat := 0x4000
theorem fr_execPatienceExpiry {μ : Nat} (hμ : sub kf_execPatienceExpiry μ = true) (rid : Nat) {r₀ s : State} (hs : Keeps μ r₀ s) : NextIs
        (Keeps μ r₀) (execPatienceExpiry rid s) := by
  unfold execPatienceExpiry
  (try simp (maxDischargeDepth := 40) +contextual only [hs, fr_ite, ite_self, implies_true, fr_modRead (sub_trans rfl hμ), nextIs_next,
        nextIs_ite, nextIs_fault])
  repeat' split
  all_goals first
    | (with_reducible exact hs)
    | (simp (maxDischargeDepth := 40) +contextual only [hs, fr_ite, ite_self, implies_true, fr_modRead (sub_trans rfl hμ), nextIs_next,
        nextIs_ite, nextIs_fault]; done)

def kf_execSuspension : Nat := 0x382004064
theorem fr_execSuspension {μ : Nat} (hμ : sub kf_execSuspension μ = true) (region : Fin 256) {r₀ s : State} (hs : Keeps μ r₀ s) : NextIs
        (Keeps μ r₀) (execSuspension region s) := by
  have b25 : μ.testBit 25 = true := sub_bit hμ rfl
  unfold execSuspension
  (try simp (maxDischargeDepth := 40) +contextual only [hs, fr_ite, ite_self, implies_true, b25, upd_med, fr_addTo (sub_trans rfl hμ),
        fr_count (sub_trans rfl hμ), fr_holdOps (sub_trans rfl hμ), fr_modOps (sub_trans rfl hμ), fr_modRead (sub_trans rfl hμ),
        nextIs_next, nextIs_ite, nextIs_fault])
  repeat' split
  all_goals first
    | (with_reducible exact hs)
    | (simp (maxDischargeDepth := 40) +contextual only [hs, fr_ite, ite_self, implies_true, b25, upd_med, fr_addTo (sub_trans rfl hμ), fr_count
        (sub_trans rfl hμ), fr_holdOps (sub_trans rfl hμ), fr_modOps (sub_trans rfl hμ), fr_modRead (sub_trans rfl hμ), nextIs_next,
        nextIs_ite, nextIs_fault]; done)

def kf_execSuspendOverrun : Nat := 0x382004064
theorem fr_execSuspendOverrun {μ : Nat} (hμ : sub kf_execSuspendOverrun μ = true) (region : Fin 256) {r₀ s : State} (hs : Keeps μ r₀ s) :
        NextIs (Keeps μ r₀) (execSuspendOverrun region s) := by
  have b25 : μ.testBit 25 = true := sub_bit hμ rfl
  unfold execSuspendOverrun
  simp (maxDischargeDepth := 40) +contextual only [hs, fr_ite, ite_self, implies_true, b25, upd_med, fr_bump (sub_trans rfl hμ), fr_modOps
        (sub_trans rfl hμ), fr_raise (sub_trans rfl hμ), fr_reconstructWaiting (sub_trans rfl hμ), nextIs_next, nextIs_ite, nextIs_fault]

def kf_execResume : Nat := 0x2000000
theorem fr_execResume {μ : Nat} (hμ : sub kf_execResume μ = true) (region : Fin 256) {r₀ s : State} (hs : Keeps μ r₀ s) : NextIs (Keeps μ
        r₀) (execResume region s) := by
  unfold execResume
  simp (maxDischargeDepth := 40) +contextual only [hs, fr_ite, ite_self, implies_true, fr_modOps (sub_trans rfl hμ), nextIs_next, nextIs_ite,
        nextIs_fault]

def kf_execPortResponseDeadline : Nat := 0x38700C064
theorem fr_execPortResponseDeadline {μ : Nat} (hμ : sub kf_execPortResponseDeadline μ = true) (rid : Nat) {r₀ s : State} (hs : Keeps μ r₀ s)
        : NextIs (Keeps μ r₀) (execPortResponseDeadline rid s) := by
  unfold execPortResponseDeadline
  (try simp (maxDischargeDepth := 40) +contextual only [hs, fr_ite, ite_self, implies_true, fr_bump (sub_trans rfl hμ), fr_count1 (sub_trans
        rfl hμ), fr_modRead (sub_trans rfl hμ), fr_prefetch (sub_trans rfl hμ), fr_promptDone (sub_trans rfl hμ), fr_sampleRead (sub_trans
        rfl hμ), fr_sendData (sub_trans rfl hμ), fr_takeStamp (sub_trans rfl hμ), nextIs_next, nextIs_ite, nextIs_fault])
  repeat' split
  all_goals first
    | (with_reducible exact hs)
    | (simp (maxDischargeDepth := 40) +contextual only [hs, fr_ite, ite_self, implies_true, fr_bump (sub_trans rfl hμ), fr_count1 (sub_trans rfl
        hμ), fr_modRead (sub_trans rfl hμ), fr_prefetch (sub_trans rfl hμ), fr_promptDone (sub_trans rfl hμ), fr_sampleRead (sub_trans rfl
        hμ), fr_sendData (sub_trans rfl hμ), fr_takeStamp (sub_trans rfl hμ), nextIs_next, nextIs_ite, nextIs_fault]; done)

def kf_execMediaRetryEnd : Nat := 0x3A77FFEE4
theorem fr_execMediaRetryEnd {μ : Nat} (hμ : sub kf_execMediaRetryEnd μ = true) (rid : Nat) (senses : RetrySenses) {r₀ s : State} (hs :
        Keeps μ r₀ s) : NextIs (Keeps μ r₀) (execMediaRetryEnd rid senses s) := by
  have b16 : μ.testBit 16 = true := sub_bit hμ rfl
  unfold execMediaRetryEnd
  (try simp (maxDischargeDepth := 40) +contextual only [hs, fr_ite, ite_self, implies_true, b16, upd_retries, fr_bump (sub_trans rfl hμ),
        fr_cacheTag (sub_trans rfl hμ), fr_failRead (sub_trans rfl hμ), fr_installLine (sub_trans rfl hμ), fr_noteRung (sub_trans rfl hμ),
        fr_prefetch (sub_trans rfl hμ), fr_raise (sub_trans rfl hμ), fr_relocate (sub_trans rfl hμ), fr_reportDeadline (sub_trans rfl hμ),
        fr_respond (sub_trans rfl hμ), fr_senseBelow (sub_trans rfl hμ), fr_foldl, nextIs_next, nextIs_ite, nextIs_fault])
  repeat' split
  all_goals first
    | (with_reducible exact hs)
    | (simp (maxDischargeDepth := 40) +contextual only [hs, fr_ite, ite_self, implies_true, b16, upd_retries, fr_bump (sub_trans rfl hμ),
        fr_cacheTag (sub_trans rfl hμ), fr_failRead (sub_trans rfl hμ), fr_installLine (sub_trans rfl hμ), fr_noteRung (sub_trans rfl hμ),
        fr_prefetch (sub_trans rfl hμ), fr_raise (sub_trans rfl hμ), fr_relocate (sub_trans rfl hμ), fr_reportDeadline (sub_trans rfl hμ),
        fr_respond (sub_trans rfl hμ), fr_senseBelow (sub_trans rfl hμ), fr_foldl, nextIs_next, nextIs_ite, nextIs_fault]; done)

def kf_execFailedCheck : Nat := 0x3A77FCEE4
theorem fr_execFailedCheck {μ : Nat} (hμ : sub kf_execFailedCheck μ = true) (obj : FailedObject) {r₀ s : State} (hs : Keeps μ r₀ s) : NextIs
        (Keeps μ r₀) (execFailedCheck obj s) := by
  unfold execFailedCheck
  simp (maxDischargeDepth := 40) +contextual only [hs, fr_ite, ite_self, implies_true, fr_failCheck (sub_trans rfl hμ), nextIs_next,
        nextIs_ite, nextIs_fault]

def kf_execBarrierWordRead : Nat := 0x3877ECEF4
theorem fr_execBarrierWordRead {μ : Nat} (hμ : sub kf_execBarrierWordRead μ = true) (p : Port) (tag : Nat) {r₀ s : State} (hs : Keeps μ r₀
        s) : NextIs (Keeps μ r₀) (execBarrierWordRead p tag s) := by
  unfold execBarrierWordRead
  simp (maxDischargeDepth := 40) +contextual only [hs, fr_ite, ite_self, implies_true, fr_windowRead (sub_trans rfl hμ), nextIs_next,
        nextIs_ite, nextIs_fault]

def kf_execStampCeilingRaise : Nat := 0x0
theorem fr_execStampCeilingRaise {μ : Nat} (hμ : sub kf_execStampCeilingRaise μ = true) {r₀ s : State} (hs : Keeps μ r₀ s) : NextIs (Keeps μ
        r₀) (execStampCeilingRaise s) := by
  unfold execStampCeilingRaise
  simp (maxDischargeDepth := 40) +contextual only [hs, fr_ite, ite_self, implies_true, fr_put (sub_trans rfl hμ), nextIs_next, nextIs_ite,
        nextIs_fault]

def kf_execDirectoryImage : Nat := 0x387000064
theorem fr_execDirectoryImage {μ : Nat} (hμ : sub kf_execDirectoryImage μ = true) {r₀ s : State} (hs : Keeps μ r₀ s) : NextIs (Keeps μ r₀)
        (execDirectoryImage s) := by
  unfold execDirectoryImage
  simp (maxDischargeDepth := 40) +contextual only [hs, fr_ite, ite_self, implies_true, fr_writeDirectory (sub_trans rfl hμ), nextIs_next,
        nextIs_ite, nextIs_fault]

def kf_execCheckpoint : Nat := 0x3870000E4
theorem fr_execCheckpoint {μ : Nat} (hμ : sub kf_execCheckpoint μ = true) {r₀ s : State} (hs : Keeps μ r₀ s) : NextIs (Keeps μ r₀)
        (execCheckpoint s) := by
  have b24 : μ.testBit 24 = true := sub_bit hμ rfl
  unfold execCheckpoint
  (try simp (maxDischargeDepth := 40) +contextual only [hs, fr_ite, ite_self, implies_true, b24, upd_xlat, fr_checkpointNow (sub_trans rfl
        hμ), fr_takeSegment (sub_trans rfl hμ), nextIs_next, nextIs_ite, nextIs_fault])
  repeat' split
  all_goals first
    | (with_reducible exact hs)
    | (simp (maxDischargeDepth := 40) +contextual only [hs, fr_ite, ite_self, implies_true, b24, upd_xlat, fr_checkpointNow (sub_trans rfl hμ),
        fr_takeSegment (sub_trans rfl hμ), nextIs_next, nextIs_ite, nextIs_fault]; done)

def kf_execDemandRebuild : Nat := 0x1000000
theorem fr_execDemandRebuild {μ : Nat} (hμ : sub kf_execDemandRebuild μ = true) (segment : Nat) {r₀ s : State} (hs : Keeps μ r₀ s) : NextIs
        (Keeps μ r₀) (execDemandRebuild segment s) := by
  unfold execDemandRebuild
  simp (maxDischargeDepth := 40) +contextual only [hs, fr_ite, ite_self, implies_true, fr_startRebuild (sub_trans rfl hμ), nextIs_next,
        nextIs_ite, nextIs_fault]

def kf_execSegmentRebuilt : Nat := 0x38700C064
theorem fr_execSegmentRebuilt {μ : Nat} (hμ : sub kf_execSegmentRebuilt μ = true) (segment : Nat) {r₀ s : State} (hs : Keeps μ r₀ s) :
        NextIs (Keeps μ r₀) (execSegmentRebuilt segment s) := by
  unfold execSegmentRebuilt
  simp (maxDischargeDepth := 40) +contextual only [hs, fr_ite, ite_self, implies_true, fr_finishRebuild (sub_trans rfl hμ), nextIs_next,
        nextIs_ite, nextIs_fault]

def kf_execStampFormConversion : Nat := 0x2000000
theorem fr_execStampFormConversion {μ : Nat} (hμ : sub kf_execStampFormConversion μ = true) (line : Nat) {r₀ s : State} (hs : Keeps μ r₀ s)
        : NextIs (Keeps μ r₀) (execStampFormConversion line s) := by
  have b25 : μ.testBit 25 = true := sub_bit hμ rfl
  unfold execStampFormConversion
  (try simp (maxDischargeDepth := 40) +contextual only [hs, fr_ite, ite_self, implies_true, b25, upd_med, nextIs_next, nextIs_ite,
        nextIs_fault])
  repeat' split
  all_goals first
    | (with_reducible exact hs)
    | (simp (maxDischargeDepth := 40) +contextual only [hs, fr_ite, ite_self, implies_true, b25, upd_med, nextIs_next, nextIs_ite, nextIs_fault];
        done)

def kf_execWriteBackBatch : Nat := 0x387000064
theorem fr_execWriteBackBatch {μ : Nat} (hμ : sub kf_execWriteBackBatch μ = true) {r₀ s : State} (hs : Keeps μ r₀ s) : NextIs (Keeps μ r₀)
        (execWriteBackBatch s) := by
  unfold execWriteBackBatch
  simp (maxDischargeDepth := 40) +contextual only [hs, fr_ite, ite_self, implies_true, fr_writeBack (sub_trans rfl hμ), nextIs_next,
        nextIs_ite, nextIs_fault]

def kf_execIntegrityTableImage : Nat := 0x387000064
theorem fr_execIntegrityTableImage {μ : Nat} (hμ : sub kf_execIntegrityTableImage μ = true) (stripe : Fin 65536) {r₀ s : State} (hs : Keeps
        μ r₀ s) : NextIs (Keeps μ r₀) (execIntegrityTableImage stripe s) := by
  unfold execIntegrityTableImage
  simp (maxDischargeDepth := 40) +contextual only [hs, fr_ite, ite_self, implies_true, fr_writeTableImage (sub_trans rfl hμ), nextIs_next,
        nextIs_ite, nextIs_fault]

def kf_execIntegrityLineFetch : Nat := 0x3A77FCEE4
theorem fr_execIntegrityLineFetch {μ : Nat} (hμ : sub kf_execIntegrityLineFetch μ = true) (obj : IntegrityObject) (lines : List FetchedLine)
        {r₀ s : State} (hs : Keeps μ r₀ s) : NextIs (Keeps μ r₀) (execIntegrityLineFetch obj lines s) := by
  unfold execIntegrityLineFetch
  (try simp (maxDischargeDepth := 40) +contextual only [hs, fr_ite, ite_self, implies_true, fr_bump (sub_trans rfl hμ), fr_cacheLine
        (sub_trans rfl hμ), fr_failIntegrity (sub_trans rfl hμ), fr_integritySector (sub_trans rfl hμ), fr_noteRecovered (sub_trans rfl hμ),
        fr_foldl, nextIs_next, nextIs_ite, nextIs_fault])
  repeat' split
  all_goals first
    | (with_reducible exact hs)
    | (simp (maxDischargeDepth := 40) +contextual only [hs, fr_ite, ite_self, implies_true, fr_bump (sub_trans rfl hμ), fr_cacheLine (sub_trans
        rfl hμ), fr_failIntegrity (sub_trans rfl hμ), fr_integritySector (sub_trans rfl hμ), fr_noteRecovered (sub_trans rfl hμ), fr_foldl,
        nextIs_next, nextIs_ite, nextIs_fault]; done)

def kf_execCounterCacheError : Nat := 0x3AF7FCEE4
theorem fr_execCounterCacheError {μ : Nat} (hμ : sub kf_execCounterCacheError μ = true) (obj : IntegrityObject) (fault : CacheFault) {r₀ s : State}
        (hs : Keeps μ r₀ s) : NextIs (Keeps μ r₀) (execCounterCacheError obj fault s) := by
  unfold execCounterCacheError
  simp (maxDischargeDepth := 40) +contextual only [hs, fr_ite, ite_self, implies_true, fr_cacheError (sub_trans rfl hμ), nextIs_next,
        nextIs_ite, nextIs_fault]

def kf_execStagingHoldExpiry : Nat := 0x80
theorem fr_execStagingHoldExpiry {μ : Nat} (hμ : sub kf_execStagingHoldExpiry μ = true) (line : Nat) (group : Option (Fin 262144)) {r₀ s : State}
        (hs : Keeps μ r₀ s) : NextIs (Keeps μ r₀) (execStagingHoldExpiry line group s) := by
  have b7 : μ.testBit 7 = true := sub_bit hμ rfl
  unfold execStagingHoldExpiry
  simp (maxDischargeDepth := 40) +contextual only [hs, fr_ite, ite_self, implies_true, b7, upd_staging, nextIs_next, nextIs_ite, nextIs_fault]

def kf_execLogRowDispatch : Nat := 0x3870000E4
theorem fr_execLogRowDispatch {μ : Nat} (hμ : sub kf_execLogRowDispatch μ = true) {r₀ s : State} (hs : Keeps μ r₀ s) : NextIs (Keeps μ r₀)
        (execLogRowDispatch s) := by
  unfold execLogRowDispatch
  simp (maxDischargeDepth := 40) +contextual only [hs, fr_ite, ite_self, implies_true, fr_dispatchRow (sub_trans rfl hμ), fr_noteCrowded
        (sub_trans rfl hμ), nextIs_next, nextIs_ite, nextIs_fault]

def kf_execLogRowCloseTime : Nat := 0x3870000E4
theorem fr_execLogRowCloseTime {μ : Nat} (hμ : sub kf_execLogRowCloseTime μ = true) {r₀ s : State} (hs : Keeps μ r₀ s) : NextIs (Keeps μ r₀)
        (execLogRowCloseTime s) := by
  unfold execLogRowCloseTime
  simp (maxDischargeDepth := 40) +contextual only [hs, fr_ite, ite_self, implies_true, fr_dispatchRow (sub_trans rfl hμ), fr_noteCrowded
        (sub_trans rfl hμ), nextIs_next, nextIs_ite, nextIs_fault]

def kf_execLogRowComplete : Nat := 0x3870002E4
theorem fr_execLogRowComplete {μ : Nat} (hμ : sub kf_execLogRowComplete μ = true) (mark : Nat) {r₀ s : State} (hs : Keeps μ r₀ s) : NextIs
        (Keeps μ r₀) (execLogRowComplete mark s) := by
  unfold execLogRowComplete
  (try simp (maxDischargeDepth := 40) +contextual only [hs, fr_ite, ite_self, implies_true, fr_completeRow (sub_trans rfl hμ), nextIs_next,
        nextIs_ite, nextIs_fault])
  repeat' split
  all_goals first
    | (with_reducible exact hs)
    | (simp (maxDischargeDepth := 40) +contextual only [hs, fr_ite, ite_self, implies_true, fr_completeRow (sub_trans rfl hμ), nextIs_next,
        nextIs_ite, nextIs_fault]; done)

def kf_execProgramDispatch : Nat := 0x182000064
theorem fr_execProgramDispatch {μ : Nat} (hμ : sub kf_execProgramDispatch μ = true) (job : Nat) {r₀ s : State} (hs : Keeps μ r₀ s) : NextIs
        (Keeps μ r₀) (execProgramDispatch job s) := by
  unfold execProgramDispatch
  (try simp (maxDischargeDepth := 40) +contextual only [hs, fr_ite, ite_self, implies_true, fr_dispatch (sub_trans rfl hμ), fr_noteDelays
        (sub_trans rfl hμ), fr_skipMember (sub_trans rfl hμ), nextIs_next, nextIs_ite, nextIs_fault])
  repeat' split
  all_goals first
    | (with_reducible exact hs)
    | (simp (maxDischargeDepth := 40) +contextual only [hs, fr_ite, ite_self, implies_true, fr_dispatch (sub_trans rfl hμ), fr_noteDelays
        (sub_trans rfl hμ), fr_skipMember (sub_trans rfl hμ), nextIs_next, nextIs_ite, nextIs_fault]; done)

def kf_execProgramComplete : Nat := 0x387000064
theorem fr_execProgramComplete {μ : Nat} (hμ : sub kf_execProgramComplete μ = true) (op : Nat) (ok : Bool) {r₀ s : State} (hs : Keeps μ r₀
        s) : NextIs (Keeps μ r₀) (execProgramComplete op ok s) := by
  have b25 : μ.testBit 25 = true := sub_bit hμ rfl
  unfold execProgramComplete
  (try simp (maxDischargeDepth := 40) +contextual only [hs, fr_ite, ite_self, implies_true, b25, upd_med, fr_endOverruns (sub_trans rfl hμ),
        fr_opFailed (sub_trans rfl hμ), fr_opSucceeded (sub_trans rfl hμ), nextIs_next, nextIs_ite, nextIs_fault])
  repeat' split
  all_goals first
    | (with_reducible exact hs)
    | (simp (maxDischargeDepth := 40) +contextual only [hs, fr_ite, ite_self, implies_true, b25, upd_med, fr_endOverruns (sub_trans rfl hμ),
        fr_opFailed (sub_trans rfl hμ), fr_opSucceeded (sub_trans rfl hμ), nextIs_next, nextIs_ite, nextIs_fault]; done)

def kf_execStripePageComplete : Nat := 0x387000064
theorem fr_execStripePageComplete {μ : Nat} (hμ : sub kf_execStripePageComplete μ = true) (id : Nat) {r₀ s : State} (hs : Keeps μ r₀ s) :
        NextIs (Keeps μ r₀) (execStripePageComplete id s) := by
  unfold execStripePageComplete
  (try simp (maxDischargeDepth := 40) +contextual only [hs, fr_ite, ite_self, implies_true, fr_completePage (sub_trans rfl hμ), fr_finishMoves
        (sub_trans rfl hμ), nextIs_next, nextIs_ite, nextIs_fault])
  repeat' split
  all_goals first
    | (with_reducible exact hs)
    | (simp (maxDischargeDepth := 40) +contextual only [hs, fr_ite, ite_self, implies_true, fr_completePage (sub_trans rfl hμ), fr_finishMoves
        (sub_trans rfl hμ), nextIs_next, nextIs_ite, nextIs_fault]; done)

def kf_execChunkGrant : Nat := 0x382000064
theorem fr_execChunkGrant {μ : Nat} (hμ : sub kf_execChunkGrant μ = true) (channel : Fin 16) {r₀ s : State} (hs : Keeps μ r₀ s) : NextIs
        (Keeps μ r₀) (execChunkGrant channel s) := by
  unfold execChunkGrant
  (try simp (maxDischargeDepth := 40) +contextual only [hs, fr_ite, ite_self, implies_true, fr_grantChunk (sub_trans rfl hμ), nextIs_next,
        nextIs_ite, nextIs_fault])
  repeat' split
  all_goals first
    | (with_reducible exact hs)
    | (simp (maxDischargeDepth := 40) +contextual only [hs, fr_ite, ite_self, implies_true, fr_grantChunk (sub_trans rfl hμ), nextIs_next,
        nextIs_ite, nextIs_fault]; done)

def kf_execCurtain : Nat := 0x3B77ECEE4
theorem fr_execCurtain {μ : Nat} (hμ : sub kf_execCurtain μ = true) (cause : Nat) {r₀ s : State} (hs : Keeps μ r₀ s) : NextIs (Keeps μ r₀)
        (execCurtain cause s) := by
  unfold execCurtain
  simp (maxDischargeDepth := 40) +contextual only [hs, fr_ite, ite_self, implies_true, fr_triggerCurtain (sub_trans rfl hμ), nextIs_next,
        nextIs_ite, nextIs_fault]

def kf_execCurtainCommitPoint : Nat := 0x3977FCEE4
theorem fr_execCurtainCommitPoint {μ : Nat} (hμ : sub kf_execCurtainCommitPoint μ = true) {r₀ s : State} (hs : Keeps μ r₀ s) : NextIs (Keeps
        μ r₀) (execCurtainCommitPoint s) := by
  unfold execCurtainCommitPoint
  (try simp (maxDischargeDepth := 40) +contextual only [hs, fr_ite, ite_self, implies_true, fr_commitCurtain (sub_trans rfl hμ), nextIs_next,
        nextIs_ite, nextIs_fault])
  repeat' split
  all_goals first
    | (with_reducible exact hs)
    | (simp (maxDischargeDepth := 40) +contextual only [hs, fr_ite, ite_self, implies_true, fr_commitCurtain (sub_trans rfl hμ), nextIs_next,
        nextIs_ite, nextIs_fault]; done)

def kf_execCurtainCancelled : Nat := 0x1B0000064
theorem fr_execCurtainCancelled {μ : Nat} (hμ : sub kf_execCurtainCancelled μ = true) (mv : Nat) {r₀ s : State} (hs : Keeps μ r₀ s) : NextIs
        (Keeps μ r₀) (execCurtainCancelled mv s) := by
  unfold execCurtainCancelled
  (try simp (maxDischargeDepth := 40) +contextual only [hs, fr_ite, ite_self, implies_true, fr_cancelCurtain (sub_trans rfl hμ), fr_noteVin
        (sub_trans rfl hμ), nextIs_next, nextIs_ite, nextIs_fault])
  repeat' split
  all_goals first
    | (with_reducible exact hs)
    | (simp (maxDischargeDepth := 40) +contextual only [hs, fr_ite, ite_self, implies_true, fr_cancelCurtain (sub_trans rfl hμ), fr_noteVin
        (sub_trans rfl hμ), nextIs_next, nextIs_ite, nextIs_fault]; done)

def kf_execCurtainOutcome : Nat := 0x3FFFF4FE5
theorem fr_execCurtainOutcome {μ : Nat} (hμ : sub kf_execCurtainOutcome μ = true) {r₀ s : State} (hs : Keeps μ r₀ s) : NextIs (Keeps μ r₀)
        (execCurtainOutcome s) := by
  unfold execCurtainOutcome
  (try simp (maxDischargeDepth := 40) +contextual only [hs, fr_ite, ite_self, implies_true, fr_curtainOutcome (sub_trans rfl hμ), nextIs_next,
        nextIs_ite, nextIs_fault])
  repeat' split
  all_goals first
    | (with_reducible exact hs)
    | (simp (maxDischargeDepth := 40) +contextual only [hs, fr_ite, ite_self, implies_true, fr_curtainOutcome (sub_trans rfl hμ), nextIs_next,
        nextIs_ite, nextIs_fault]; done)

def kf_execCartridgeFloor : Nat := 0x1B00340E4
theorem fr_execCartridgeFloor {μ : Nat} (hμ : sub kf_execCartridgeFloor μ = true) {r₀ s : State} (hs : Keeps μ r₀ s) : NextIs (Keeps μ r₀)
        (execCartridgeFloor s) := by
  have b14 : μ.testBit 14 = true := sub_bit hμ rfl
  have b16 : μ.testBit 16 = true := sub_bit hμ rfl
  have b28 : μ.testBit 28 = true := sub_bit hμ rfl
  unfold execCartridgeFloor
  (try simp (maxDischargeDepth := 40) +contextual only [hs, fr_ite, ite_self, implies_true, b14, b16, b28, upd_pow, upd_reads_retries,
        fr_enterFall (sub_trans rfl hμ), fr_silence (sub_trans rfl hμ), nextIs_next, nextIs_ite, nextIs_fault])
  repeat' split
  all_goals first
    | (with_reducible exact hs)
    | (simp (maxDischargeDepth := 40) +contextual only [hs, fr_ite, ite_self, implies_true, b14, b16, b28, upd_pow, upd_reads_retries,
        fr_enterFall (sub_trans rfl hμ), fr_silence (sub_trans rfl hμ), nextIs_next, nextIs_ite, nextIs_fault]; done)

def kf_execShortPress : Nat := 0x180000064
theorem fr_execShortPress {μ : Nat} (hμ : sub kf_execShortPress μ = true) {r₀ s : State} (hs : Keeps μ r₀ s) : NextIs (Keeps μ r₀)
        (execShortPress s) := by
  unfold execShortPress
  simp (maxDischargeDepth := 40) +contextual only [hs, fr_ite, ite_self, implies_true, fr_put (sub_trans rfl hμ), fr_raise (sub_trans rfl hμ),
        nextIs_next, nextIs_ite, nextIs_fault]

def kf_execServiceRequestWindowEnd : Nat := 0x3B77ECEE4
theorem fr_execServiceRequestWindowEnd {μ : Nat} (hμ : sub kf_execServiceRequestWindowEnd μ = true) {r₀ s : State} (hs : Keeps μ r₀ s) :
        NextIs (Keeps μ r₀) (execServiceRequestWindowEnd s) := by
  unfold execServiceRequestWindowEnd
  simp (maxDischargeDepth := 40) +contextual only [hs, fr_ite, ite_self, implies_true, fr_buttonCurtain (sub_trans rfl hμ), nextIs_next,
        nextIs_ite, nextIs_fault]

def kf_execForcedPowerDown : Nat := 0x3B77ECEE4
theorem fr_execForcedPowerDown {μ : Nat} (hμ : sub kf_execForcedPowerDown μ = true) {r₀ s : State} (hs : Keeps μ r₀ s) : NextIs (Keeps μ r₀)
        (execForcedPowerDown s) := by
  unfold execForcedPowerDown
  simp (maxDischargeDepth := 40) +contextual only [hs, fr_ite, ite_self, implies_true, fr_buttonCurtain (sub_trans rfl hμ), fr_raise
        (sub_trans rfl hμ), nextIs_next, nextIs_ite, nextIs_fault]

def kf_execMrN : Nat := 0x3B77ECEE4
theorem fr_execMrN {μ : Nat} (hμ : sub kf_execMrN μ = true) (widthNs : Nat) {r₀ s : State} (hs : Keeps μ r₀ s) : NextIs (Keeps μ r₀)
        (execMrN widthNs s) := by
  have b28 : μ.testBit 28 = true := sub_bit hμ rfl
  unfold execMrN
  simp (maxDischargeDepth := 40) +contextual only [hs, fr_ite, ite_self, implies_true, b28, upd_pow, fr_deviceReset (sub_trans rfl hμ),
        fr_drawn (sub_trans rfl hμ), fr_raise (sub_trans rfl hμ), nextIs_next, nextIs_ite, nextIs_fault]

def kf_execMrNHigh : Nat := 0x3FFFF4FE5
theorem fr_execMrNHigh {μ : Nat} (hμ : sub kf_execMrNHigh μ = true) {r₀ s : State} (hs : Keeps μ r₀ s) : NextIs (Keeps μ r₀) (execMrNHigh s)
        := by
  have b28 : μ.testBit 28 = true := sub_bit hμ rfl
  unfold execMrNHigh
  simp (maxDischargeDepth := 40) +contextual only [hs, fr_ite, ite_self, implies_true, b28, upd_pow, fr_enterRestore (sub_trans rfl hμ),
        nextIs_next, nextIs_ite, nextIs_fault]

def kf_execManagementWatchdog : Nat := 0x3B77ECEE4
theorem fr_execManagementWatchdog {μ : Nat} (hμ : sub kf_execManagementWatchdog μ = true) {r₀ s : State} (hs : Keeps μ r₀ s) : NextIs (Keeps
        μ r₀) (execManagementWatchdog s) := by
  have b31 : μ.testBit 31 = true := sub_bit hμ rfl
  unfold execManagementWatchdog
  simp (maxDischargeDepth := 40) +contextual only [hs, fr_ite, ite_self, implies_true, b31, upd_mgmt, fr_deviceReset (sub_trans rfl hμ),
        nextIs_next, nextIs_ite, nextIs_fault]

def kf_execCounterWrap : Nat := 0x380000064
theorem fr_execCounterWrap {μ : Nat} (hμ : sub kf_execCounterWrap μ = true) (n : Fin 512) {r₀ s : State} (hs : Keeps μ r₀ s) : NextIs (Keeps
        μ r₀) (execCounterWrap n s) := by
  unfold execCounterWrap
  simp (maxDischargeDepth := 40) +contextual only [hs, fr_ite, ite_self, implies_true, fr_addToCounter (sub_trans rfl hμ), nextIs_next,
        nextIs_ite, nextIs_fault]

def kf_execBandwidthWindowEnd : Nat := 0x180000064
theorem fr_execBandwidthWindowEnd {μ : Nat} (hμ : sub kf_execBandwidthWindowEnd μ = true) (p : Port) {r₀ s : State} (hs : Keeps μ r₀ s) :
        NextIs (Keeps μ r₀) (execBandwidthWindowEnd p s) := by
  unfold execBandwidthWindowEnd
  simp (maxDischargeDepth := 40) +contextual only [hs, fr_ite, ite_self, implies_true, fr_endWindow (sub_trans rfl hμ), nextIs_next,
        nextIs_ite, nextIs_fault]

def kf_execDmaBurstPlaced : Nat := 0x387020EE4
theorem fr_execDmaBurstPlaced {μ : Nat} (hμ : sub kf_execDmaBurstPlaced μ = true) (ch : Fin 16) {r₀ s : State} (hs : Keeps μ r₀ s) : NextIs
        (Keeps μ r₀) (execDmaBurstPlaced ch s) := by
  unfold execDmaBurstPlaced
  simp (maxDischargeDepth := 40) +contextual only [hs, fr_ite, ite_self, implies_true, fr_nextBurst (sub_trans rfl hμ), nextIs_next,
        nextIs_ite, nextIs_fault]

def kf_execDrainIdleTimer : Nat := 0x387020EE4
theorem fr_execDrainIdleTimer {μ : Nat} (hμ : sub kf_execDrainIdleTimer μ = true) (ch : Fin 16) {r₀ s : State} (hs : Keeps μ r₀ s) : NextIs
        (Keeps μ r₀) (execDrainIdleTimer ch s) := by
  unfold execDrainIdleTimer
  simp (maxDischargeDepth := 40) +contextual only [hs, fr_ite, ite_self, implies_true, fr_nextBurst (sub_trans rfl hμ), nextIs_next,
        nextIs_ite, nextIs_fault]

def kf_execVinValid : Nat := 0x1F0000065
theorem fr_execVinValid {μ : Nat} (hμ : sub kf_execVinValid μ = true) (mv : Nat) {r₀ s : State} (hs : Keeps μ r₀ s) : NextIs (Keeps μ r₀)
        (execVinValid mv s) := by
  unfold execVinValid
  simp (maxDischargeDepth := 40) +contextual only [hs, fr_ite, ite_self, implies_true, fr_autoStart (sub_trans rfl hμ), fr_connectInput
        (sub_trans rfl hμ), fr_measureInput (sub_trans rfl hμ), nextIs_next, nextIs_ite, nextIs_fault]

def kf_execInputLoss : Nat := 0x3B77ECEE4
theorem fr_execInputLoss {μ : Nat} (hμ : sub kf_execInputLoss μ = true) (mv : Nat) {r₀ s : State} (hs : Keeps μ r₀ s) : NextIs (Keeps μ r₀)
        (execInputLoss mv s) := by
  unfold execInputLoss
  simp (maxDischargeDepth := 40) +contextual only [hs, fr_ite, ite_self, implies_true, fr_loseInput (sub_trans rfl hμ), nextIs_next,
        nextIs_ite, nextIs_fault]

def kf_execOvervoltage : Nat := 0x3B77ECEE4
theorem fr_execOvervoltage {μ : Nat} (hμ : sub kf_execOvervoltage μ = true) (mv : Nat) {r₀ s : State} (hs : Keeps μ r₀ s) : NextIs (Keeps μ
        r₀) (execOvervoltage mv s) := by
  have b28 : μ.testBit 28 = true := sub_bit hμ rfl
  unfold execOvervoltage
  simp (maxDischargeDepth := 40) +contextual only [hs, fr_ite, ite_self, implies_true, b28, upd_pow, fr_bump (sub_trans rfl hμ), fr_loseInput
        (sub_trans rfl hμ), fr_noteVin (sub_trans rfl hμ), nextIs_next, nextIs_ite, nextIs_fault]

def kf_execInputSwitchReclose : Nat := 0x10000000
theorem fr_execInputSwitchReclose {μ : Nat} (hμ : sub kf_execInputSwitchReclose μ = true) (mv : Nat) {r₀ s : State} (hs : Keeps μ r₀ s) :
        NextIs (Keeps μ r₀) (execInputSwitchReclose mv s) := by
  have b28 : μ.testBit 28 = true := sub_bit hμ rfl
  unfold execInputSwitchReclose
  simp (maxDischargeDepth := 40) +contextual only [hs, fr_ite, ite_self, implies_true, b28, upd_pow, fr_noteVin (sub_trans rfl hμ),
        nextIs_next, nextIs_ite, nextIs_fault]

def kf_execBandDown : Nat := 0x1B0000064
theorem fr_execBandDown {μ : Nat} (hμ : sub kf_execBandDown μ = true) (mv : Nat) {r₀ s : State} (hs : Keeps μ r₀ s) : NextIs (Keeps μ r₀)
        (execBandDown mv s) := by
  unfold execBandDown
  simp (maxDischargeDepth := 40) +contextual only [hs, fr_ite, ite_self, implies_true, fr_noteVin (sub_trans rfl hμ), fr_setBand (sub_trans
        rfl hμ), nextIs_next, nextIs_ite, nextIs_fault]

def kf_execBandUp : Nat := 0x1B0000064
theorem fr_execBandUp {μ : Nat} (hμ : sub kf_execBandUp μ = true) (mv : Nat) {r₀ s : State} (hs : Keeps μ r₀ s) : NextIs (Keeps μ r₀)
        (execBandUp mv s) := by
  unfold execBandUp
  simp (maxDischargeDepth := 40) +contextual only [hs, fr_ite, ite_self, implies_true, fr_noteVin (sub_trans rfl hμ), fr_setBand (sub_trans
        rfl hμ), nextIs_next, nextIs_ite, nextIs_fault]

def kf_execPowerCapAdjust : Nat := 0x10000000
theorem fr_execPowerCapAdjust {μ : Nat} (hμ : sub kf_execPowerCapAdjust μ = true) (meanMw : Nat) {r₀ s : State} (hs : Keeps μ r₀ s) : NextIs
        (Keeps μ r₀) (execPowerCapAdjust meanMw s) := by
  have b28 : μ.testBit 28 = true := sub_bit hμ rfl
  unfold execPowerCapAdjust
  simp (maxDischargeDepth := 40) +contextual only [hs, fr_ite, ite_self, implies_true, b28, upd_pow, fr_put (sub_trans rfl hμ), nextIs_next,
        nextIs_ite, nextIs_fault]

def kf_execRailFault : Nat := 0x3B77ECEE4
theorem fr_execRailFault {μ : Nat} (hμ : sub kf_execRailFault μ = true) (code : Nat) (restarts : Bool) {r₀ s : State} (hs : Keeps μ r₀ s) :
        NextIs (Keeps μ r₀) (execRailFault code restarts s) := by
  unfold execRailFault
  simp (maxDischargeDepth := 40) +contextual only [hs, fr_ite, ite_self, implies_true, fr_bump (sub_trans rfl hμ), fr_put (sub_trans rfl hμ),
        fr_deviceReset (sub_trans rfl hμ), fr_endAllSessions (sub_trans rfl hμ), fr_enterFall (sub_trans rfl hμ), fr_noteRailFault
        (sub_trans rfl hμ), nextIs_next, nextIs_ite, nextIs_fault]

def kf_execRise : Nat := 0x3FFFF4FE5
theorem fr_execRise {μ : Nat} (hμ : sub kf_execRise μ = true) (railsGood firmwareOk : Bool) {r₀ s : State} (hs : Keeps μ r₀ s) : NextIs
        (Keeps μ r₀) (execRise railsGood firmwareOk s) := by
  have b28 : μ.testBit 28 = true := sub_bit hμ rfl
  unfold execRise
  simp (maxDischargeDepth := 40) +contextual only [hs, fr_ite, ite_self, implies_true, b28, upd_pow, fr_put (sub_trans rfl hμ), fr_drawn
        (sub_trans rfl hμ), fr_enterFall (sub_trans rfl hμ), fr_enterRestore (sub_trans rfl hμ), fr_noteRailFault (sub_trans rfl hμ),
        fr_railsOn (sub_trans rfl hμ), fr_raise (sub_trans rfl hμ), nextIs_next, nextIs_ite, nextIs_fault]

def kf_execFall : Nat := 0x1B0000064
theorem fr_execFall {μ : Nat} (hμ : sub kf_execFall μ = true) (stuck : BitVec 16) (vinAbsent : Bool) {r₀ s : State} (hs : Keeps μ r₀ s) :
        NextIs (Keeps μ r₀) (execFall stuck vinAbsent s) := by
  have b28 : μ.testBit 28 = true := sub_bit hμ rfl
  unfold execFall
  simp (maxDischargeDepth := 40) +contextual only [hs, fr_ite, ite_self, implies_true, b28, upd_pow, fr_endFall (sub_trans rfl hμ),
        nextIs_next, nextIs_ite, nextIs_fault]

def kf_execStuckRailCleared : Nat := 0x1B0000064
theorem fr_execStuckRailCleared {μ : Nat} (hμ : sub kf_execStuckRailCleared μ = true) (code : Nat) {r₀ s : State} (hs : Keeps μ r₀ s) :
        NextIs (Keeps μ r₀) (execStuckRailCleared code s) := by
  unfold execStuckRailCleared
  simp (maxDischargeDepth := 40) +contextual only [hs, fr_ite, ite_self, implies_true, fr_setRail (sub_trans rfl hμ), fr_startRise (sub_trans
        rfl hμ), nextIs_next, nextIs_ite, nextIs_fault]

def kf_execMinimumOffTimeEnd : Nat := 0x1B0000064
theorem fr_execMinimumOffTimeEnd {μ : Nat} (hμ : sub kf_execMinimumOffTimeEnd μ = true) {r₀ s : State} (hs : Keeps μ r₀ s) : NextIs (Keeps μ
        r₀) (execMinimumOffTimeEnd s) := by
  have b29 : μ.testBit 29 = true := sub_bit hμ rfl
  unfold execMinimumOffTimeEnd
  simp (maxDischargeDepth := 40) +contextual only [hs, fr_ite, ite_self, implies_true, b29, upd_modes, fr_startRise (sub_trans rfl hμ),
        nextIs_next, nextIs_ite, nextIs_fault]

def kf_execLossOfProtection : Nat := 0x3B77ECEE4
theorem fr_execLossOfProtection {μ : Nat} (hμ : sub kf_execLossOfProtection μ = true) {r₀ s : State} (hs : Keeps μ r₀ s) : NextIs (Keeps μ
        r₀) (execLossOfProtection s) := by
  unfold execLossOfProtection
  simp (maxDischargeDepth := 40) +contextual only [hs, fr_ite, ite_self, implies_true, fr_finishLeaving (sub_trans rfl hμ), fr_loseProtection
        (sub_trans rfl hμ), fr_wakeBy (sub_trans rfl hμ), nextIs_next, nextIs_ite, nextIs_fault]

def kf_execProtectionRestored : Nat := 0x190000064
theorem fr_execProtectionRestored {μ : Nat} (hμ : sub kf_execProtectionRestored μ = true) {r₀ s : State} (hs : Keeps μ r₀ s) : NextIs (Keeps
        μ r₀) (execProtectionRestored s) := by
  unfold execProtectionRestored
  simp (maxDischargeDepth := 40) +contextual only [hs, fr_ite, ite_self, implies_true, fr_regainProtection (sub_trans rfl hμ), nextIs_next,
        nextIs_ite, nextIs_fault]

def kf_execYoYoTest : Nat := 0x3B77ECEE4
theorem fr_execYoYoTest {μ : Nat} (hμ : sub kf_execYoYoTest μ = true) (cmf esrMohm v0mv : Nat) {r₀ s : State} (hs : Keeps μ r₀ s) : NextIs
        (Keeps μ r₀) (execYoYoTest cmf esrMohm v0mv s) := by
  have b28 : μ.testBit 28 = true := sub_bit hμ rfl
  unfold execYoYoTest
  simp (maxDischargeDepth := 40) +contextual only [hs, fr_ite, ite_self, implies_true, b28, upd_pow, fr_put (sub_trans rfl hμ), fr_endAction
        (sub_trans rfl hμ), fr_raise (sub_trans rfl hμ), fr_raiseIf (sub_trans rfl hμ), fr_updateProtection (sub_trans rfl hμ), fr_wakeBy
        (sub_trans rfl hμ), nextIs_next, nextIs_ite, nextIs_fault]

def kf_execCartridgeRemoved : Nat := 0x3B77ECEE4
theorem fr_execCartridgeRemoved {μ : Nat} (hμ : sub kf_execCartridgeRemoved μ = true) {r₀ s : State} (hs : Keeps μ r₀ s) : NextIs (Keeps μ
        r₀) (execCartridgeRemoved s) := by
  have b28 : μ.testBit 28 = true := sub_bit hμ rfl
  unfold execCartridgeRemoved
  simp (maxDischargeDepth := 40) +contextual only [hs, fr_ite, ite_self, implies_true, b28, upd_pow, fr_put (sub_trans rfl hμ), fr_endAction
        (sub_trans rfl hμ), fr_raise (sub_trans rfl hμ), fr_updateProtection (sub_trans rfl hμ), fr_wakeBy (sub_trans rfl hμ), nextIs_next,
        nextIs_ite, nextIs_fault]

def kf_execCartridgeInserted : Nat := 0x3B77ECEE5
theorem fr_execCartridgeInserted {μ : Nat} (hμ : sub kf_execCartridgeInserted μ = true) (ident : List Byte) {r₀ s : State} (hs : Keeps μ r₀
        s) : NextIs (Keeps μ r₀) (execCartridgeInserted ident s) := by
  have b28 : μ.testBit 28 = true := sub_bit hμ rfl
  unfold execCartridgeInserted
  simp (maxDischargeDepth := 40) +contextual only [hs, fr_ite, ite_self, implies_true, b28, upd_pow, fr_bump (sub_trans rfl hμ), fr_put
        (sub_trans rfl hμ), fr_putBytes (sub_trans rfl hμ), fr_raise (sub_trans rfl hμ), fr_updateProtection (sub_trans rfl hμ), fr_wakeBy
        (sub_trans rfl hμ), nextIs_next, nextIs_ite, nextIs_fault]

def kf_execDozeEntryStep : Nat := 0x3B702CEE4
theorem fr_execDozeEntryStep {μ : Nat} (hμ : sub kf_execDozeEntryStep μ = true) {r₀ s : State} (hs : Keeps μ r₀ s) : NextIs (Keeps μ r₀)
        (execDozeEntryStep s) := by
  unfold execDozeEntryStep
  (try simp (maxDischargeDepth := 40) +contextual only [hs, fr_ite, ite_self, implies_true, fr_abortPoint (sub_trans rfl hμ), fr_dozeStep
        (sub_trans rfl hμ), nextIs_next, nextIs_ite, nextIs_fault])
  repeat' split
  all_goals first
    | (with_reducible exact hs)
    | (simp (maxDischargeDepth := 40) +contextual only [hs, fr_ite, ite_self, implies_true, fr_abortPoint (sub_trans rfl hμ), fr_dozeStep
        (sub_trans rfl hμ), nextIs_next, nextIs_ite, nextIs_fault]; done)

def kf_execIdleTimer : Nat := 0x20000000
theorem fr_execIdleTimer {μ : Nat} (hμ : sub kf_execIdleTimer μ = true) {r₀ s : State} (hs : Keeps μ r₀ s) : NextIs (Keeps μ r₀)
        (execIdleTimer s) := by
  unfold execIdleTimer
  simp (maxDischargeDepth := 40) +contextual only [hs, fr_ite, ite_self, implies_true, fr_startDoze (sub_trans rfl hμ), nextIs_next,
        nextIs_ite, nextIs_fault]

def kf_execWake : Nat := 0x1B0000064
theorem fr_execWake {μ : Nat} (hμ : sub kf_execWake μ = true) (source : Fin 6) {r₀ s : State} (hs : Keeps μ r₀ s) : NextIs (Keeps μ r₀)
        (execWake source s) := by
  unfold execWake
  simp (maxDischargeDepth := 40) +contextual only [hs, fr_ite, ite_self, implies_true, fr_wakeSource (sub_trans rfl hμ), nextIs_next,
        nextIs_ite, nextIs_fault]

def kf_execWakeN : Nat := 0x1B0000064
theorem fr_execWakeN {μ : Nat} (hμ : sub kf_execWakeN μ = true) (widthNs : Nat) {r₀ s : State} (hs : Keeps μ r₀ s) : NextIs (Keeps μ r₀)
        (execWakeN widthNs s) := by
  unfold execWakeN
  simp (maxDischargeDepth := 40) +contextual only [hs, fr_ite, ite_self, implies_true, fr_wakeSource (sub_trans rfl hμ), nextIs_next,
        nextIs_ite, nextIs_fault]

def kf_execServiceTimeLimit : Nat := 0x3AF000064
theorem fr_execServiceTimeLimit {μ : Nat} (hμ : sub kf_execServiceTimeLimit μ = true) {r₀ s : State} (hs : Keeps μ r₀ s) : NextIs (Keeps μ
        r₀) (execServiceTimeLimit s) := by
  unfold execServiceTimeLimit
  simp (maxDischargeDepth := 40) +contextual only [hs, fr_ite, ite_self, implies_true, fr_leaveService (sub_trans rfl hμ), nextIs_next,
        nextIs_ite, nextIs_fault]

def kf_execScrub : Nat := 0x188000C64
theorem fr_execScrub {μ : Nat} (hμ : sub kf_execScrub μ = true) (mem : MemKind) (address : Nat) (result : CodeResult) {r₀ s : State} (hs :
        Keeps μ r₀ s) : NextIs (Keeps μ r₀) (execScrub mem address result s) := by
  unfold execScrub
  (try simp (maxDischargeDepth := 40) +contextual only [hs, fr_ite, ite_self, implies_true, fr_detectError (sub_trans rfl hμ), fr_dropBlockAt
        (sub_trans rfl hμ), nextIs_next, nextIs_ite, nextIs_fault])
  repeat' split
  all_goals first
    | (with_reducible exact hs)
    | (simp (maxDischargeDepth := 40) +contextual only [hs, fr_ite, ite_self, implies_true, fr_detectError (sub_trans rfl hμ), fr_dropBlockAt
        (sub_trans rfl hμ), nextIs_next, nextIs_ite, nextIs_fault]; done)

def kf_execUncorrectableError : Nat := 0x3BF7FCEE4
theorem fr_execUncorrectableError {μ : Nat} (hμ : sub kf_execUncorrectableError μ = true) (what : Structure) {r₀ s : State} (hs : Keeps μ r₀
        s) : NextIs (Keeps μ r₀) (execUncorrectableError what s) := by
  unfold execUncorrectableError
  simp (maxDischargeDepth := 40) +contextual only [hs, fr_ite, ite_self, implies_true, fr_structureError (sub_trans rfl hμ), nextIs_next,
        nextIs_ite, nextIs_fault]

def kf_execCriticalStateError : Nat := 0x3B77ECEE4
theorem fr_execCriticalStateError {μ : Nat} (hμ : sub kf_execCriticalStateError μ = true) {r₀ s : State} (hs : Keeps μ r₀ s) : NextIs (Keeps
        μ r₀) (execCriticalStateError s) := by
  unfold execCriticalStateError
  simp (maxDischargeDepth := 40) +contextual only [hs, fr_ite, ite_self, implies_true, fr_criticalError (sub_trans rfl hμ), nextIs_next,
        nextIs_ite, nextIs_fault]

def kf_execRowSelfTest : Nat := 0x188000064
theorem fr_execRowSelfTest {μ : Nat} (hμ : sub kf_execRowSelfTest μ = true) (mem : MemKind) (row : Nat) (pass : Bool) {r₀ s : State} (hs :
        Keeps μ r₀ s) : NextIs (Keeps μ r₀) (execRowSelfTest mem row pass s) := by
  have b27 : μ.testBit 27 = true := sub_bit hμ rfl
  unfold execRowSelfTest
  simp (maxDischargeDepth := 40) +contextual only [hs, fr_ite, ite_self, implies_true, b27, upd_stored, fr_bump (sub_trans rfl hμ),
        fr_lastingRow (sub_trans rfl hμ), fr_raise (sub_trans rfl hμ), fr_transientOutcome (sub_trans rfl hμ), nextIs_next, nextIs_ite,
        nextIs_fault]

def kf_execSectorSelfTest : Nat := 0x38F000064
theorem fr_execSectorSelfTest {μ : Nat} (hμ : sub kf_execSectorSelfTest μ = true) (unit page sector : Nat) (rereadPasses patternPasses :
        Bool) {r₀ s : State} (hs : Keeps μ r₀ s) : NextIs (Keeps μ r₀) (execSectorSelfTest unit page sector rereadPasses patternPasses s) :=
        by
  have b27 : μ.testBit 27 = true := sub_bit hμ rfl
  unfold execSectorSelfTest
  (try simp (maxDischargeDepth := 40) +contextual only [hs, fr_ite, ite_self, implies_true, b27, upd_stored, fr_bump (sub_trans rfl hμ),
        fr_borrowUnit (sub_trans rfl hμ), fr_lastingSector (sub_trans rfl hμ), fr_raise (sub_trans rfl hμ), fr_refreshSector (sub_trans rfl
        hμ), fr_sectorProgrammed (sub_trans rfl hμ), fr_setOutcome (sub_trans rfl hμ), fr_setUnitState (sub_trans rfl hμ),
        fr_transientSector (sub_trans rfl hμ), nextIs_next, nextIs_ite, nextIs_fault])
  repeat' split
  all_goals first
    | (with_reducible exact hs)
    | (simp (maxDischargeDepth := 40) +contextual only [hs, fr_ite, ite_self, implies_true, b27, upd_stored, fr_bump (sub_trans rfl hμ),
        fr_borrowUnit (sub_trans rfl hμ), fr_lastingSector (sub_trans rfl hμ), fr_raise (sub_trans rfl hμ), fr_refreshSector (sub_trans rfl
        hμ), fr_sectorProgrammed (sub_trans rfl hμ), fr_setOutcome (sub_trans rfl hμ), fr_setUnitState (sub_trans rfl hμ),
        fr_transientSector (sub_trans rfl hμ), nextIs_next, nextIs_ite, nextIs_fault]; done)

def kf_execSlowRound : Nat := 0x3F77ECEE4
theorem fr_execSlowRound {μ : Nat} (hμ : sub kf_execSlowRound μ = true) (channels : List (Option Int)) {r₀ s : State} (hs : Keeps μ r₀ s) :
        NextIs (Keeps μ r₀) (execSlowRound channels s) := by
  unfold execSlowRound
  simp (maxDischargeDepth := 40) +contextual only [hs, fr_ite, ite_self, implies_true, fr_slowRound (sub_trans rfl hμ), nextIs_next,
        nextIs_ite, nextIs_fault]

def kf_execDieTemperatureRead : Nat := 0x3F77ECEE4
theorem fr_execDieTemperatureRead {μ : Nat} (hμ : sub kf_execDieTemperatureRead μ = true) (die : Fin 64) (celsius : Int) {r₀ s : State} (hs
        : Keeps μ r₀ s) : NextIs (Keeps μ r₀) (execDieTemperatureRead die celsius s) := by
  have b30 : μ.testBit 30 = true := sub_bit hμ rfl
  unfold execDieTemperatureRead
  simp (maxDischargeDepth := 40) +contextual only [hs, fr_ite, ite_self, implies_true, b30, upd_therm, fr_lockOut (sub_trans rfl hμ),
        nextIs_next, nextIs_ite, nextIs_fault]

def kf_execThrottleCleared : Nat := 0x1C0000064
theorem fr_execThrottleCleared {μ : Nat} (hμ : sub kf_execThrottleCleared μ = true) {r₀ s : State} (hs : Keeps μ r₀ s) : NextIs (Keeps μ r₀)
        (execThrottleCleared s) := by
  unfold execThrottleCleared
  simp (maxDischargeDepth := 40) +contextual only [hs, fr_ite, ite_self, implies_true, fr_clearThrottle (sub_trans rfl hμ), nextIs_next,
        nextIs_ite, nextIs_fault]

def kf_execEnforcementLevel : Nat := 0x3C0004064
theorem fr_execEnforcementLevel {μ : Nat} (hμ : sub kf_execEnforcementLevel μ = true) {r₀ s : State} (hs : Keeps μ r₀ s) : NextIs (Keeps μ
        r₀) (execEnforcementLevel s) := by
  unfold execEnforcementLevel
  simp (maxDischargeDepth := 40) +contextual only [hs, fr_ite, ite_self, implies_true, fr_raiseLevel (sub_trans rfl hμ), nextIs_next,
        nextIs_ite, nextIs_fault]

def kf_execLockout : Nat := 0x3B77ECEE4
theorem fr_execLockout {μ : Nat} (hμ : sub kf_execLockout μ = true) {r₀ s : State} (hs : Keeps μ r₀ s) : NextIs (Keeps μ r₀) (execLockout s)
        := by
  unfold execLockout
  simp (maxDischargeDepth := 40) +contextual only [hs, fr_ite, ite_self, implies_true, fr_lockOut (sub_trans rfl hμ), nextIs_next, nextIs_ite,
        nextIs_fault]

def kf_execWindowAccess : Nat := 0x3877ECEF4
theorem fr_execWindowAccess {μ : Nat} (hμ : sub kf_execWindowAccess μ = true) (p : Port) (tag dpa : Nat) (op : WindowOp) {r₀ s : State} (hs
        : Keeps μ r₀ s) : NextIs (Keeps μ r₀) (execWindowAccess p tag dpa op s) := by
  unfold execWindowAccess
  (try simp (maxDischargeDepth := 40) +contextual only [hs, fr_ite, ite_self, implies_true, fr_windowRead (sub_trans rfl hμ), fr_windowWrite
        (sub_trans rfl hμ), nextIs_next, nextIs_ite, nextIs_fault])
  repeat' split
  all_goals first
    | (with_reducible exact hs)
    | (simp (maxDischargeDepth := 40) +contextual only [hs, fr_ite, ite_self, implies_true, fr_windowRead (sub_trans rfl hμ), fr_windowWrite
        (sub_trans rfl hμ), nextIs_next, nextIs_ite, nextIs_fault]; done)

def kf_execGroupControlRead : Nat := 0x3877ECEF4
theorem fr_execGroupControlRead {μ : Nat} (hμ : sub kf_execGroupControlRead μ = true) (p : Port) (tag : Nat) (g : Fin 262144) {r₀ s : State}
        (hs : Keeps μ r₀ s) : NextIs (Keeps μ r₀) (execGroupControlRead p tag g s) := by
  unfold execGroupControlRead
  simp (maxDischargeDepth := 40) +contextual only [hs, fr_ite, ite_self, implies_true, fr_windowRead (sub_trans rfl hμ), nextIs_next,
        nextIs_ite, nextIs_fault]

def kf_execOpenGroup : Nat := 0x3877ECEF4
theorem fr_execOpenGroup {μ : Nat} (hμ : sub kf_execOpenGroup μ = true) (p : Port) (tag : Nat) (g : Fin 262144) (a b : Option Word) {r₀ s : State}
        (hs : Keeps μ r₀ s) : NextIs (Keeps μ r₀) (execOpenGroup p tag g a b s) := by
  unfold execOpenGroup
  simp (maxDischargeDepth := 40) +contextual only [hs, fr_ite, ite_self, implies_true, fr_groupCommandWrite (sub_trans rfl hμ), nextIs_next,
        nextIs_ite, nextIs_fault]

def kf_execBindGroup : Nat := 0x3877ECEF4
theorem fr_execBindGroup {μ : Nat} (hμ : sub kf_execBindGroup μ = true) (p : Port) (tag : Nat) (g : Fin 262144) (a b : Option Word) {r₀ s : State}
        (hs : Keeps μ r₀ s) : NextIs (Keeps μ r₀) (execBindGroup p tag g a b s) := by
  unfold execBindGroup
  simp (maxDischargeDepth := 40) +contextual only [hs, fr_ite, ite_self, implies_true, fr_groupCommandWrite (sub_trans rfl hμ), nextIs_next,
        nextIs_ite, nextIs_fault]

def kf_execCommitGroup : Nat := 0x3877ECEF4
theorem fr_execCommitGroup {μ : Nat} (hμ : sub kf_execCommitGroup μ = true) (p : Port) (tag : Nat) (g : Fin 262144) (a b : Option Word) {r₀ s : State}
        (hs : Keeps μ r₀ s) : NextIs (Keeps μ r₀) (execCommitGroup p tag g a b s) := by
  unfold execCommitGroup
  simp (maxDischargeDepth := 40) +contextual only [hs, fr_ite, ite_self, implies_true, fr_groupCommandWrite (sub_trans rfl hμ), nextIs_next,
        nextIs_ite, nextIs_fault]

def kf_execAbortGroup : Nat := 0x3877ECEF4
theorem fr_execAbortGroup {μ : Nat} (hμ : sub kf_execAbortGroup μ = true) (p : Port) (tag : Nat) (g : Fin 262144) (a b : Option Word) {r₀ s : State}
        (hs : Keeps μ r₀ s) : NextIs (Keeps μ r₀) (execAbortGroup p tag g a b s) := by
  unfold execAbortGroup
  simp (maxDischargeDepth := 40) +contextual only [hs, fr_ite, ite_self, implies_true, fr_groupCommandWrite (sub_trans rfl hμ), nextIs_next,
        nextIs_ite, nextIs_fault]

def kf_execReleaseGroup : Nat := 0x3877ECEF4
theorem fr_execReleaseGroup {μ : Nat} (hμ : sub kf_execReleaseGroup μ = true) (p : Port) (tag : Nat) (g : Fin 262144) (a b : Option Word)
        {r₀ s : State} (hs : Keeps μ r₀ s) : NextIs (Keeps μ r₀) (execReleaseGroup p tag g a b s) := by
  unfold execReleaseGroup
  simp (maxDischargeDepth := 40) +contextual only [hs, fr_ite, ite_self, implies_true, fr_groupCommandWrite (sub_trans rfl hμ), nextIs_next,
        nextIs_ite, nextIs_fault]

def kf_execUnassignedGroupCommand : Nat := 0x3877ECEF4
theorem fr_execUnassignedGroupCommand {μ : Nat} (hμ : sub kf_execUnassignedGroupCommand μ = true) (p : Port) (tag : Nat) (g : Fin 262144)
        (code : Byte) (a b : Option Word) {r₀ s : State} (hs : Keeps μ r₀ s) : NextIs (Keeps μ r₀) (execUnassignedGroupCommand p tag g code
        a b s) := by
  unfold execUnassignedGroupCommand
  simp (maxDischargeDepth := 40) +contextual only [hs, fr_ite, ite_self, implies_true, fr_groupCommandWrite (sub_trans rfl hμ), nextIs_next,
        nextIs_ite, nextIs_fault]

def kf_execCommitInstant : Nat := 0x387020EE4
theorem fr_execCommitInstant {μ : Nat} (hμ : sub kf_execCommitInstant μ = true) (g : Fin 262144) {r₀ s : State} (hs : Keeps μ r₀ s) : NextIs
        (Keeps μ r₀) (execCommitInstant g s) := by
  unfold execCommitInstant
  simp (maxDischargeDepth := 40) +contextual only [hs, fr_ite, ite_self, implies_true, fr_decideCommit (sub_trans rfl hμ), nextIs_next,
        nextIs_ite, nextIs_fault]

def kf_execGroupCommandFinish : Nat := 0x3877ECEE4
theorem fr_execGroupCommandFinish {μ : Nat} (hμ : sub kf_execGroupCommandFinish μ = true) (g : Fin 262144) {r₀ s : State} (hs : Keeps μ r₀
        s) : NextIs (Keeps μ r₀) (execGroupCommandFinish g s) := by
  unfold execGroupCommandFinish
  simp (maxDischargeDepth := 40) +contextual only [hs, fr_ite, ite_self, implies_true, fr_finishCommand (sub_trans rfl hμ), fr_goOn (sub_trans
        rfl hμ), nextIs_next, nextIs_ite, nextIs_fault]

def kf_execReserveRead : Nat := 0x3877ECEF4
theorem fr_execReserveRead {μ : Nat} (hμ : sub kf_execReserveRead μ = true) (p : Port) (tag : Nat) (cell : Fin 16384) {r₀ s : State} (hs :
        Keeps μ r₀ s) : NextIs (Keeps μ r₀) (execReserveRead p tag cell s) := by
  unfold execReserveRead
  simp (maxDischargeDepth := 40) +contextual only [hs, fr_ite, ite_self, implies_true, fr_windowRead (sub_trans rfl hμ), nextIs_next,
        nextIs_ite, nextIs_fault]

def kf_execConditionalStore : Nat := 0x3877ECEF4
theorem fr_execConditionalStore {μ : Nat} (hμ : sub kf_execConditionalStore μ = true) (p : Port) (tag : Nat) (cell : Fin 16384) (be :
        ByteEnables) (data : Line) {r₀ s : State} (hs : Keeps μ r₀ s) : NextIs (Keeps μ r₀) (execConditionalStore p tag cell be data s) :=
        by
  unfold execConditionalStore
  simp (maxDischargeDepth := 40) +contextual only [hs, fr_ite, ite_self, implies_true, fr_windowWrite (sub_trans rfl hμ), nextIs_next,
        nextIs_ite, nextIs_fault]

def kf_execPlainCellStore : Nat := 0x3877ECEF4
theorem fr_execPlainCellStore {μ : Nat} (hμ : sub kf_execPlainCellStore μ = true) (p : Port) (tag : Nat) (cell : Fin 16384) (be :
        ByteEnables) (data : Line) {r₀ s : State} (hs : Keeps μ r₀ s) : NextIs (Keeps μ r₀) (execPlainCellStore p tag cell be data s) := by
  unfold execPlainCellStore
  simp (maxDischargeDepth := 40) +contextual only [hs, fr_ite, ite_self, implies_true, fr_windowWrite (sub_trans rfl hμ), nextIs_next,
        nextIs_ite, nextIs_fault]

def kf_execResultRead : Nat := 0x3877ECEF4
theorem fr_execResultRead {μ : Nat} (hμ : sub kf_execResultRead μ = true) (p : Port) (tag : Nat) (cell : Fin 16384) {r₀ s : State} (hs :
        Keeps μ r₀ s) : NextIs (Keeps μ r₀) (execResultRead p tag cell s) := by
  unfold execResultRead
  simp (maxDischargeDepth := 40) +contextual only [hs, fr_ite, ite_self, implies_true, fr_windowRead (sub_trans rfl hμ), nextIs_next,
        nextIs_ite, nextIs_fault]

def kf_execDiscard : Nat := 0x3877ECEF4
theorem fr_execDiscard {μ : Nat} (hμ : sub kf_execDiscard μ = true) (p : Port) (tag : Nat) (start length : Option Word) {r₀ s : State} (hs :
        Keeps μ r₀ s) : NextIs (Keeps μ r₀) (execDiscard p tag start length s) := by
  unfold execDiscard
  simp (maxDischargeDepth := 40) +contextual only [hs, fr_ite, ite_self, implies_true, fr_windowWrite (sub_trans rfl hμ), nextIs_next,
        nextIs_ite, nextIs_fault]

def kf_execDiscardInstant : Nat := 0x387000EE4
theorem fr_execDiscardInstant {μ : Nat} (hμ : sub kf_execDiscardInstant μ = true) (p : Port) {r₀ s : State} (hs : Keeps μ r₀ s) : NextIs
        (Keeps μ r₀) (execDiscardInstant p s) := by
  unfold execDiscardInstant
  (try simp (maxDischargeDepth := 40) +contextual only [hs, fr_ite, ite_self, implies_true, fr_finishDiscard (sub_trans rfl hμ), nextIs_next,
        nextIs_ite, nextIs_fault])
  repeat' split
  all_goals first
    | (with_reducible exact hs)
    | (simp (maxDischargeDepth := 40) +contextual only [hs, fr_ite, ite_self, implies_true, fr_finishDiscard (sub_trans rfl hμ), nextIs_next,
        nextIs_ite, nextIs_fault]; done)

def kf_execUnmapperDone : Nat := 0x1000000
theorem fr_execUnmapperDone {μ : Nat} (hμ : sub kf_execUnmapperDone μ = true) (entry : Nat) {r₀ s : State} (hs : Keeps μ r₀ s) : NextIs
        (Keeps μ r₀) (execUnmapperDone entry s) := by
  unfold execUnmapperDone
  simp (maxDischargeDepth := 40) +contextual only [hs, fr_ite, ite_self, implies_true, fr_unmap (sub_trans rfl hμ), nextIs_next, nextIs_ite,
        nextIs_fault]

def kf_execUserCounterWindowRead : Nat := 0x3877ECEF4
theorem fr_execUserCounterWindowRead {μ : Nat} (hμ : sub kf_execUserCounterWindowRead μ = true) (p : Port) (tag : Nat) (lineIndex : Fin 64)
        {r₀ s : State} (hs : Keeps μ r₀ s) : NextIs (Keeps μ r₀) (execUserCounterWindowRead p tag lineIndex s) := by
  unfold execUserCounterWindowRead
  simp (maxDischargeDepth := 40) +contextual only [hs, fr_ite, ite_self, implies_true, fr_windowRead (sub_trans rfl hμ), nextIs_next,
        nextIs_ite, nextIs_fault]

def kf_execGlobalPersistentFlushPhase1 : Nat := 0x38702CEE4
theorem fr_execGlobalPersistentFlushPhase1 {μ : Nat} (hμ : sub kf_execGlobalPersistentFlushPhase1 μ = true) (p : Port) {r₀ s : State} (hs :
        Keeps μ r₀ s) : NextIs (Keeps μ r₀) (execGlobalPersistentFlushPhase1 p s) := by
  unfold execGlobalPersistentFlushPhase1
  simp (maxDischargeDepth := 40) +contextual only [hs, fr_ite, ite_self, implies_true, fr_flush (sub_trans rfl hμ), nextIs_next, nextIs_ite,
        nextIs_fault]

def kf_execGlobalPersistentFlushPhase2 : Nat := 0x38702CEE4
theorem fr_execGlobalPersistentFlushPhase2 {μ : Nat} (hμ : sub kf_execGlobalPersistentFlushPhase2 μ = true) (p : Port) {r₀ s : State} (hs :
        Keeps μ r₀ s) : NextIs (Keeps μ r₀) (execGlobalPersistentFlushPhase2 p s) := by
  unfold execGlobalPersistentFlushPhase2
  simp (maxDischargeDepth := 40) +contextual only [hs, fr_ite, ite_self, implies_true, fr_flush (sub_trans rfl hμ), nextIs_next, nextIs_ite,
        nextIs_fault]

def kf_execDmaDescriptorWrite : Nat := 0x3877ECEF4
theorem fr_execDmaDescriptorWrite {μ : Nat} (hμ : sub kf_execDmaDescriptorWrite μ = true) (p : Port) (tag : Nat) (ch : Fin 16) (be :
        ByteEnables) (data : Line) {r₀ s : State} (hs : Keeps μ r₀ s) : NextIs (Keeps μ r₀) (execDmaDescriptorWrite p tag ch be data s) :=
        by
  unfold execDmaDescriptorWrite
  simp (maxDischargeDepth := 40) +contextual only [hs, fr_ite, ite_self, implies_true, fr_windowWrite (sub_trans rfl hμ), nextIs_next,
        nextIs_ite, nextIs_fault]

def kf_execDmaStart : Nat := 0x3877ECEF4
theorem fr_execDmaStart {μ : Nat} (hμ : sub kf_execDmaStart μ = true) (p : Port) (tag : Nat) (ch : Fin 16) {r₀ s : State} (hs : Keeps μ r₀
        s) : NextIs (Keeps μ r₀) (execDmaStart p tag ch s) := by
  unfold execDmaStart
  simp (maxDischargeDepth := 40) +contextual only [hs, fr_ite, ite_self, implies_true, fr_windowWrite (sub_trans rfl hμ), nextIs_next,
        nextIs_ite, nextIs_fault]

def kf_execDmaAbort : Nat := 0x3877ECEF4
theorem fr_execDmaAbort {μ : Nat} (hμ : sub kf_execDmaAbort μ = true) (p : Port) (tag : Nat) (ch : Fin 16) {r₀ s : State} (hs : Keeps μ r₀
        s) : NextIs (Keeps μ r₀) (execDmaAbort p tag ch s) := by
  unfold execDmaAbort
  simp (maxDischargeDepth := 40) +contextual only [hs, fr_ite, ite_self, implies_true, fr_windowWrite (sub_trans rfl hμ), nextIs_next,
        nextIs_ite, nextIs_fault]

def kf_execHdmDecoderCommit : Nat := 0x180000064
theorem fr_execHdmDecoderCommit {μ : Nat} (hμ : sub kf_execHdmDecoderCommit μ = true) (p : Port) (n : Fin 8) (ways dpaBase size : Nat) {r₀ s : State}
        (hs : Keeps μ r₀ s) : NextIs (Keeps μ r₀) (execHdmDecoderCommit p n ways dpaBase size s) := by
  unfold execHdmDecoderCommit
  simp (maxDischargeDepth := 40) +contextual only [hs, fr_ite, ite_self, implies_true, fr_clearBit (sub_trans rfl hμ), fr_modPort (sub_trans
        rfl hμ), fr_setBit (sub_trans rfl hμ), fr_raise (sub_trans rfl hμ), nextIs_next, nextIs_ite, nextIs_fault]

def kf_execPortDetect : Nat := 0x60
theorem fr_execPortDetect {μ : Nat} (hμ : sub kf_execPortDetect μ = true) (p : Port) {r₀ s : State} (hs : Keeps μ r₀ s) : NextIs (Keeps μ
        r₀) (execPortDetect p s) := by
  unfold execPortDetect
  simp (maxDischargeDepth := 40) +contextual only [hs, fr_ite, ite_self, implies_true, fr_modPort (sub_trans rfl hμ), fr_put (sub_trans rfl
        hμ), nextIs_next, nextIs_ite, nextIs_fault]

def kf_execLinkUp : Nat := 0x180010064
theorem fr_execLinkUp {μ : Nat} (hμ : sub kf_execLinkUp μ = true) (p : Port) (rate width : Nat) {r₀ s : State} (hs : Keeps μ r₀ s) : NextIs
        (Keeps μ r₀) (execLinkUp p rate width s) := by
  have b16 : μ.testBit 16 = true := sub_bit hμ rfl
  unfold execLinkUp
  simp (maxDischargeDepth := 40) +contextual only [hs, fr_ite, ite_self, implies_true, b16, upd_retries, fr_modPort (sub_trans rfl hμ), fr_put
        (sub_trans rfl hμ), fr_raise (sub_trans rfl hμ), fr_raiseIf (sub_trans rfl hμ), nextIs_next, nextIs_ite, nextIs_fault]

def kf_execLinkTrainingFailed : Nat := 0x180000064
theorem fr_execLinkTrainingFailed {μ : Nat} (hμ : sub kf_execLinkTrainingFailed μ = true) (p : Port) {r₀ s : State} (hs : Keeps μ r₀ s) :
        NextIs (Keeps μ r₀) (execLinkTrainingFailed p s) := by
  unfold execLinkTrainingFailed
  simp (maxDischargeDepth := 40) +contextual only [hs, fr_ite, ite_self, implies_true, fr_modPort (sub_trans rfl hμ), fr_put (sub_trans rfl
        hμ), fr_raise (sub_trans rfl hμ), nextIs_next, nextIs_ite, nextIs_fault]

def kf_execPortException : Nat := 0x3877ECEE4
theorem fr_execPortException {μ : Nat} (hμ : sub kf_execPortException μ = true) (p : Port) (cause : Nat) {r₀ s : State} (hs : Keeps μ r₀ s)
        : NextIs (Keeps μ r₀) (execPortException p cause s) := by
  unfold execPortException
  simp (maxDischargeDepth := 40) +contextual only [hs, fr_ite, ite_self, implies_true, fr_contain (sub_trans rfl hμ), fr_portException
        (sub_trans rfl hμ), nextIs_next, nextIs_ite, nextIs_fault]

def kf_execPerst : Nat := 0x3877ECEE4
theorem fr_execPerst {μ : Nat} (hμ : sub kf_execPerst μ = true) (p : Port) (asserted : Bool) {r₀ s : State} (hs : Keeps μ r₀ s) : NextIs
        (Keeps μ r₀) (execPerst p asserted s) := by
  unfold execPerst
  simp (maxDischargeDepth := 40) +contextual only [hs, fr_ite, ite_self, implies_true, fr_modPort (sub_trans rfl hμ), fr_dropLink (sub_trans
        rfl hμ), fr_portException (sub_trans rfl hμ), fr_raise (sub_trans rfl hμ), fr_resetPort (sub_trans rfl hμ), nextIs_next, nextIs_ite,
        nextIs_fault]

def kf_execSurpriseLinkLoss : Nat := 0x3877ECEE4
theorem fr_execSurpriseLinkLoss {μ : Nat} (hμ : sub kf_execSurpriseLinkLoss μ = true) (p : Port) {r₀ s : State} (hs : Keeps μ r₀ s) : NextIs
        (Keeps μ r₀) (execSurpriseLinkLoss p s) := by
  unfold execSurpriseLinkLoss
  simp (maxDischargeDepth := 40) +contextual only [hs, fr_ite, ite_self, implies_true, fr_dropLink (sub_trans rfl hμ), fr_portException
        (sub_trans rfl hμ), nextIs_next, nextIs_ite, nextIs_fault]

def kf_execViralReceived : Nat := 0x3877ECEE4
theorem fr_execViralReceived {μ : Nat} (hμ : sub kf_execViralReceived μ = true) (p : Port) {r₀ s : State} (hs : Keeps μ r₀ s) : NextIs
        (Keeps μ r₀) (execViralReceived p s) := by
  unfold execViralReceived
  simp (maxDischargeDepth := 40) +contextual only [hs, fr_ite, ite_self, implies_true, fr_contain (sub_trans rfl hμ), fr_raise (sub_trans rfl
        hμ), nextIs_next, nextIs_ite, nextIs_fault]

def kf_execEntryRead : Nat := 0x3FF7ECEE7
theorem fr_execEntryRead {μ : Nat} (hμ : sub kf_execEntryRead μ = true) (req : Req) (idx sub : Nat) {r₀ s : State} (hs : Keeps μ r₀ s) :
        NextIs (Keeps μ r₀) (execEntryRead req idx sub s) := by
  unfold execEntryRead
  simp (maxDischargeDepth := 40) +contextual only [hs, fr_ite, ite_self, implies_true, fr_request (sub_trans rfl hμ), nextIs_next, nextIs_ite,
        nextIs_fault]

def kf_execRcEntryRead : Nat := 0x3FF7ECEE7
theorem fr_execRcEntryRead {μ : Nat} (hμ : sub kf_execRcEntryRead μ = true) (req : Req) (idx sub : Nat) {r₀ s : State} (hs : Keeps μ r₀ s) :
        NextIs (Keeps μ r₀) (execRcEntryRead req idx sub s) := by
  unfold execRcEntryRead
  simp (maxDischargeDepth := 40) +contextual only [hs, fr_ite, ite_self, implies_true, fr_request (sub_trans rfl hμ), nextIs_next, nextIs_ite,
        nextIs_fault]

def kf_execEntryWrite : Nat := 0x3FF7ECEE7
theorem fr_execEntryWrite {μ : Nat} (hμ : sub kf_execEntryWrite μ = true) (req : Req) (idx sub : Nat) (value : List Byte) {r₀ s : State} (hs
        : Keeps μ r₀ s) : NextIs (Keeps μ r₀) (execEntryWrite req idx sub value s) := by
  unfold execEntryWrite
  simp (maxDischargeDepth := 40) +contextual only [hs, fr_ite, ite_self, implies_true, fr_request (sub_trans rfl hμ), nextIs_next, nextIs_ite,
        nextIs_fault]

def kf_execBlockRead : Nat := 0x3FF7ECEE7
theorem fr_execBlockRead {μ : Nat} (hμ : sub kf_execBlockRead μ = true) (req : Req) (idx sub offset length : Nat) {r₀ s : State} (hs : Keeps
        μ r₀ s) : NextIs (Keeps μ r₀) (execBlockRead req idx sub offset length s) := by
  unfold execBlockRead
  simp (maxDischargeDepth := 40) +contextual only [hs, fr_ite, ite_self, implies_true, fr_request (sub_trans rfl hμ), nextIs_next, nextIs_ite,
        nextIs_fault]

def kf_execBlockWrite : Nat := 0x3FF7ECEE7
theorem fr_execBlockWrite {μ : Nat} (hμ : sub kf_execBlockWrite μ = true) (req : Req) (idx sub offset : Nat) (segment : List Byte) (final :
        Bool) {r₀ s : State} (hs : Keeps μ r₀ s) : NextIs (Keeps μ r₀) (execBlockWrite req idx sub offset segment final s) := by
  unfold execBlockWrite
  simp (maxDischargeDepth := 40) +contextual only [hs, fr_ite, ite_self, implies_true, fr_request (sub_trans rfl hμ), nextIs_next, nextIs_ite,
        nextIs_fault]

def kf_execSetDefaults : Nat := 0x3FF7ECEE7
theorem fr_execSetDefaults {μ : Nat} (hμ : sub kf_execSetDefaults μ = true) (req : Req) {r₀ s : State} (hs : Keeps μ r₀ s) : NextIs (Keeps μ
        r₀) (execSetDefaults req s) := by
  unfold execSetDefaults
  simp (maxDischargeDepth := 40) +contextual only [hs, fr_ite, ite_self, implies_true, fr_request (sub_trans rfl hμ), nextIs_next, nextIs_ite,
        nextIs_fault]

def kf_execForceUnprotectedWrite : Nat := 0x3FF7ECEE7
theorem fr_execForceUnprotectedWrite {μ : Nat} (hμ : sub kf_execForceUnprotectedWrite μ = true) (req : Req) (value : List Byte) {r₀ s : State}
        (hs : Keeps μ r₀ s) : NextIs (Keeps μ r₀) (execForceUnprotectedWrite req value s) := by
  unfold execForceUnprotectedWrite
  simp (maxDischargeDepth := 40) +contextual only [hs, fr_ite, ite_self, implies_true, fr_request (sub_trans rfl hμ), nextIs_next, nextIs_ite,
        nextIs_fault]

def kf_execDeviceTimeWrite : Nat := 0x3FF7ECEE7
theorem fr_execDeviceTimeWrite {μ : Nat} (hμ : sub kf_execDeviceTimeWrite μ = true) (req : Req) (value : List Byte) {r₀ s : State} (hs :
        Keeps μ r₀ s) : NextIs (Keeps μ r₀) (execDeviceTimeWrite req value s) := by
  unfold execDeviceTimeWrite
  simp (maxDischargeDepth := 40) +contextual only [hs, fr_ite, ite_self, implies_true, fr_request (sub_trans rfl hμ), nextIs_next, nextIs_ite,
        nextIs_fault]

def kf_execPortEnableWrite : Nat := 0x3FF7ECEE7
theorem fr_execPortEnableWrite {μ : Nat} (hμ : sub kf_execPortEnableWrite μ = true) (req : Req) (which : Port) (value : List Byte) {r₀ s : State}
        (hs : Keeps μ r₀ s) : NextIs (Keeps μ r₀) (execPortEnableWrite req which value s) := by
  unfold execPortEnableWrite
  simp (maxDischargeDepth := 40) +contextual only [hs, fr_ite, ite_self, implies_true, fr_request (sub_trans rfl hμ), nextIs_next, nextIs_ite,
        nextIs_fault]

def kf_execRegionAttributeWrite : Nat := 0x3FF7ECEE7
theorem fr_execRegionAttributeWrite {μ : Nat} (hμ : sub kf_execRegionAttributeWrite μ = true) (req : Req) (region : Fin 64) (sub : Nat)
        (value : List Byte) {r₀ s : State} (hs : Keeps μ r₀ s) : NextIs (Keeps μ r₀) (execRegionAttributeWrite req region sub value s) := by
  unfold execRegionAttributeWrite
  simp (maxDischargeDepth := 40) +contextual only [hs, fr_ite, ite_self, implies_true, fr_request (sub_trans rfl hμ), nextIs_next, nextIs_ite,
        nextIs_fault]

def kf_execRegionClassWrite : Nat := 0x3FF7ECEE7
theorem fr_execRegionClassWrite {μ : Nat} (hμ : sub kf_execRegionClassWrite μ = true) (req : Req) (region : Fin 64) (value : List Byte) {r₀ s : State}
        (hs : Keeps μ r₀ s) : NextIs (Keeps μ r₀) (execRegionClassWrite req region value s) := by
  unfold execRegionClassWrite
  simp (maxDischargeDepth := 40) +contextual only [hs, fr_ite, ite_self, implies_true, fr_request (sub_trans rfl hμ), nextIs_next, nextIs_ite,
        nextIs_fault]

def kf_execPromptPreparationDone : Nat := 0x384000064
theorem fr_execPromptPreparationDone {μ : Nat} (hμ : sub kf_execPromptPreparationDone μ = true) (region : Fin 64) {r₀ s : State} (hs : Keeps
        μ r₀ s) : NextIs (Keeps μ r₀) (execPromptPreparationDone region s) := by
  unfold execPromptPreparationDone
  simp (maxDischargeDepth := 40) +contextual only [hs, fr_ite, ite_self, implies_true, fr_pinRegion (sub_trans rfl hμ), fr_setRegionState
        (sub_trans rfl hμ), nextIs_next, nextIs_ite, nextIs_fault]

def kf_execPolicyProfileWrite : Nat := 0x3FF7ECEE7
theorem fr_execPolicyProfileWrite {μ : Nat} (hμ : sub kf_execPolicyProfileWrite μ = true) (req : Req) (value : List Byte) {r₀ s : State} (hs
        : Keeps μ r₀ s) : NextIs (Keeps μ r₀) (execPolicyProfileWrite req value s) := by
  unfold execPolicyProfileWrite
  simp (maxDischargeDepth := 40) +contextual only [hs, fr_ite, ite_self, implies_true, fr_request (sub_trans rfl hμ), nextIs_next, nextIs_ite,
        nextIs_fault]

def kf_execForceAbort : Nat := 0x3FF7ECEE7
theorem fr_execForceAbort {μ : Nat} (hμ : sub kf_execForceAbort μ = true) (req : Req) (arg : List Byte) {r₀ s : State} (hs : Keeps μ r₀ s) :
        NextIs (Keeps μ r₀) (execForceAbort req arg s) := by
  unfold execForceAbort
  simp (maxDischargeDepth := 40) +contextual only [hs, fr_ite, ite_self, implies_true, fr_request (sub_trans rfl hμ), nextIs_next, nextIs_ite,
        nextIs_fault]

def kf_execRetireDie : Nat := 0x3FF7ECEE7
theorem fr_execRetireDie {μ : Nat} (hμ : sub kf_execRetireDie μ = true) (req : Req) (arg : List Byte) {r₀ s : State} (hs : Keeps μ r₀ s) :
        NextIs (Keeps μ r₀) (execRetireDie req arg s) := by
  unfold execRetireDie
  simp (maxDischargeDepth := 40) +contextual only [hs, fr_ite, ite_self, implies_true, fr_request (sub_trans rfl hμ), nextIs_next, nextIs_ite,
        nextIs_fault]

def kf_execRegionOffline : Nat := 0x3FF7ECEE7
theorem fr_execRegionOffline {μ : Nat} (hμ : sub kf_execRegionOffline μ = true) (req : Req) (arg : List Byte) {r₀ s : State} (hs : Keeps μ
        r₀ s) : NextIs (Keeps μ r₀) (execRegionOffline req arg s) := by
  unfold execRegionOffline
  simp (maxDischargeDepth := 40) +contextual only [hs, fr_ite, ite_self, implies_true, fr_request (sub_trans rfl hμ), nextIs_next, nextIs_ite,
        nextIs_fault]

def kf_execRegionOnline : Nat := 0x3FF7ECEE7
theorem fr_execRegionOnline {μ : Nat} (hμ : sub kf_execRegionOnline μ = true) (req : Req) (arg : List Byte) {r₀ s : State} (hs : Keeps μ r₀
        s) : NextIs (Keeps μ r₀) (execRegionOnline req arg s) := by
  unfold execRegionOnline
  simp (maxDischargeDepth := 40) +contextual only [hs, fr_ite, ite_self, implies_true, fr_request (sub_trans rfl hμ), nextIs_next, nextIs_ite,
        nextIs_fault]

def kf_execRenewKeySlot : Nat := 0x3FF7ECEE7
theorem fr_execRenewKeySlot {μ : Nat} (hμ : sub kf_execRenewKeySlot μ = true) (req : Req) (arg : List Byte) {r₀ s : State} (hs : Keeps μ r₀
        s) : NextIs (Keeps μ r₀) (execRenewKeySlot req arg s) := by
  unfold execRenewKeySlot
  simp (maxDischargeDepth := 40) +contextual only [hs, fr_ite, ite_self, implies_true, fr_request (sub_trans rfl hμ), nextIs_next, nextIs_ite,
        nextIs_fault]

def kf_execResumeFromHalt : Nat := 0x3FF7ECEE7
theorem fr_execResumeFromHalt {μ : Nat} (hμ : sub kf_execResumeFromHalt μ = true) (req : Req) (arg : List Byte) {r₀ s : State} (hs : Keeps μ
        r₀ s) : NextIs (Keeps μ r₀) (execResumeFromHalt req arg s) := by
  unfold execResumeFromHalt
  simp (maxDischargeDepth := 40) +contextual only [hs, fr_ite, ite_self, implies_true, fr_request (sub_trans rfl hμ), nextIs_next, nextIs_ite,
        nextIs_fault]

def kf_execClearTable : Nat := 0x3FF7ECEE7
theorem fr_execClearTable {μ : Nat} (hμ : sub kf_execClearTable μ = true) (req : Req) {r₀ s : State} (hs : Keeps μ r₀ s) : NextIs (Keeps μ
        r₀) (execClearTable req s) := by
  unfold execClearTable
  simp (maxDischargeDepth := 40) +contextual only [hs, fr_ite, ite_self, implies_true, fr_request (sub_trans rfl hμ), nextIs_next, nextIs_ite,
        nextIs_fault]

def kf_execWriteRaw : Nat := 0x3FF7ECEE7
theorem fr_execWriteRaw {μ : Nat} (hμ : sub kf_execWriteRaw μ = true) (req : Req) {r₀ s : State} (hs : Keeps μ r₀ s) : NextIs (Keeps μ r₀)
        (execWriteRaw req s) := by
  unfold execWriteRaw
  simp (maxDischargeDepth := 40) +contextual only [hs, fr_ite, ite_self, implies_true, fr_request (sub_trans rfl hμ), nextIs_next, nextIs_ite,
        nextIs_fault]

def kf_execReadRaw : Nat := 0x3FF7ECEE7
theorem fr_execReadRaw {μ : Nat} (hμ : sub kf_execReadRaw μ = true) (req : Req) (result : CodeResult) (decoded : List Byte) {r₀ s : State}
        (hs : Keeps μ r₀ s) : NextIs (Keeps μ r₀) (execReadRaw req result decoded s) := by
  unfold execReadRaw
  simp (maxDischargeDepth := 40) +contextual only [hs, fr_ite, ite_self, implies_true, fr_request (sub_trans rfl hμ), nextIs_next, nextIs_ite,
        nextIs_fault]

def kf_execRetryRails : Nat := 0x3FF7ECEE7
theorem fr_execRetryRails {μ : Nat} (hμ : sub kf_execRetryRails μ = true) (req : Req) {r₀ s : State} (hs : Keeps μ r₀ s) : NextIs (Keeps μ
        r₀) (execRetryRails req s) := by
  unfold execRetryRails
  simp (maxDischargeDepth := 40) +contextual only [hs, fr_ite, ite_self, implies_true, fr_request (sub_trans rfl hμ), nextIs_next, nextIs_ite,
        nextIs_fault]

def kf_execRunYoYoTest : Nat := 0x3FF7ECEE7
theorem fr_execRunYoYoTest {μ : Nat} (hμ : sub kf_execRunYoYoTest μ = true) (req : Req) {r₀ s : State} (hs : Keeps μ r₀ s) : NextIs (Keeps μ
        r₀) (execRunYoYoTest req s) := by
  unfold execRunYoYoTest
  simp (maxDischargeDepth := 40) +contextual only [hs, fr_ite, ite_self, implies_true, fr_request (sub_trans rfl hμ), nextIs_next, nextIs_ite,
        nextIs_fault]

def kf_execServiceRelease : Nat := 0x3FF7ECEE7
theorem fr_execServiceRelease {μ : Nat} (hμ : sub kf_execServiceRelease μ = true) (req : Req) {r₀ s : State} (hs : Keeps μ r₀ s) : NextIs
        (Keeps μ r₀) (execServiceRelease req s) := by
  unfold execServiceRelease
  simp (maxDischargeDepth := 40) +contextual only [hs, fr_ite, ite_self, implies_true, fr_request (sub_trans rfl hμ), nextIs_next, nextIs_ite,
        nextIs_fault]

def kf_execOffRequest : Nat := 0x3FF7ECEE7
theorem fr_execOffRequest {μ : Nat} (hμ : sub kf_execOffRequest μ = true) (req : Req) {r₀ s : State} (hs : Keeps μ r₀ s) : NextIs (Keeps μ
        r₀) (execOffRequest req s) := by
  unfold execOffRequest
  simp (maxDischargeDepth := 40) +contextual only [hs, fr_ite, ite_self, implies_true, fr_request (sub_trans rfl hμ), nextIs_next, nextIs_ite,
        nextIs_fault]

def kf_execOnRequest : Nat := 0x3FF7ECEE7
theorem fr_execOnRequest {μ : Nat} (hμ : sub kf_execOnRequest μ = true) (req : Req) {r₀ s : State} (hs : Keeps μ r₀ s) : NextIs (Keeps μ r₀)
        (execOnRequest req s) := by
  unfold execOnRequest
  simp (maxDischargeDepth := 40) +contextual only [hs, fr_ite, ite_self, implies_true, fr_request (sub_trans rfl hμ), nextIs_next, nextIs_ite,
        nextIs_fault]

def kf_execDeviceReset : Nat := 0x3FF7ECEE7
theorem fr_execDeviceReset {μ : Nat} (hμ : sub kf_execDeviceReset μ = true) (req : Req) {r₀ s : State} (hs : Keeps μ r₀ s) : NextIs (Keeps μ
        r₀) (execDeviceReset req s) := by
  unfold execDeviceReset
  simp (maxDischargeDepth := 40) +contextual only [hs, fr_ite, ite_self, implies_true, fr_request (sub_trans rfl hμ), nextIs_next, nextIs_ite,
        nextIs_fault]

def kf_execEnterDoze : Nat := 0x3FF7ECEE7
theorem fr_execEnterDoze {μ : Nat} (hμ : sub kf_execEnterDoze μ = true) (req : Req) {r₀ s : State} (hs : Keeps μ r₀ s) : NextIs (Keeps μ r₀)
        (execEnterDoze req s) := by
  unfold execEnterDoze
  simp (maxDischargeDepth := 40) +contextual only [hs, fr_ite, ite_self, implies_true, fr_request (sub_trans rfl hμ), nextIs_next, nextIs_ite,
        nextIs_fault]

def kf_execWakeDelay : Nat := 0x3FF7ECEE7
theorem fr_execWakeDelay {μ : Nat} (hμ : sub kf_execWakeDelay μ = true) {r₀ s : State} (hs : Keeps μ r₀ s) : NextIs (Keeps μ r₀)
        (execWakeDelay s) := by
  unfold execWakeDelay
  simp (maxDischargeDepth := 40) +contextual only [hs, fr_ite, ite_self, implies_true, fr_serveDeferred (sub_trans rfl hμ), fr_wakeUp
        (sub_trans rfl hμ), nextIs_next, nextIs_ite, nextIs_fault]

def kf_execEnterService : Nat := 0x3FF7ECEE7
theorem fr_execEnterService {μ : Nat} (hμ : sub kf_execEnterService μ = true) (req : Req) {r₀ s : State} (hs : Keeps μ r₀ s) : NextIs (Keeps
        μ r₀) (execEnterService req s) := by
  unfold execEnterService
  simp (maxDischargeDepth := 40) +contextual only [hs, fr_ite, ite_self, implies_true, fr_request (sub_trans rfl hμ), nextIs_next, nextIs_ite,
        nextIs_fault]

def kf_execLeaveService : Nat := 0x3FF7ECEE7
theorem fr_execLeaveService {μ : Nat} (hμ : sub kf_execLeaveService μ = true) (req : Req) {r₀ s : State} (hs : Keeps μ r₀ s) : NextIs (Keeps
        μ r₀) (execLeaveService req s) := by
  unfold execLeaveService
  simp (maxDischargeDepth := 40) +contextual only [hs, fr_ite, ite_self, implies_true, fr_request (sub_trans rfl hμ), nextIs_next, nextIs_ite,
        nextIs_fault]

def kf_execActivateOnline : Nat := 0x3FF7ECEE7
theorem fr_execActivateOnline {μ : Nat} (hμ : sub kf_execActivateOnline μ = true) (req : Req) (result : ActivationResult) {r₀ s : State} (hs
        : Keeps μ r₀ s) : NextIs (Keeps μ r₀) (execActivateOnline req result s) := by
  unfold execActivateOnline
  simp (maxDischargeDepth := 40) +contextual only [hs, fr_ite, ite_self, implies_true, fr_request (sub_trans rfl hμ), nextIs_next, nextIs_ite,
        nextIs_fault]

def kf_execReAdmitSensor : Nat := 0x3FF7ECEE7
theorem fr_execReAdmitSensor {μ : Nat} (hμ : sub kf_execReAdmitSensor μ = true) (req : Req) (arg : List Byte) {r₀ s : State} (hs : Keeps μ
        r₀ s) : NextIs (Keeps μ r₀) (execReAdmitSensor req arg s) := by
  unfold execReAdmitSensor
  simp (maxDischargeDepth := 40) +contextual only [hs, fr_ite, ite_self, implies_true, fr_request (sub_trans rfl hμ), nextIs_next, nextIs_ite,
        nextIs_fault]

def kf_execLatchClear : Nat := 0x3FF7ECEE7
theorem fr_execLatchClear {μ : Nat} (hμ : sub kf_execLatchClear μ = true) (req : Req) (source : Fin 288) (value : List Byte) {r₀ s : State}
        (hs : Keeps μ r₀ s) : NextIs (Keeps μ r₀) (execLatchClear req source value s) := by
  unfold execLatchClear
  simp (maxDischargeDepth := 40) +contextual only [hs, fr_ite, ite_self, implies_true, fr_request (sub_trans rfl hμ), nextIs_next, nextIs_ite,
        nextIs_fault]

def kf_execClearRecorder : Nat := 0x3FF7ECEE7
theorem fr_execClearRecorder {μ : Nat} (hμ : sub kf_execClearRecorder μ = true) (req : Req) (arg : List Byte) {r₀ s : State} (hs : Keeps μ
        r₀ s) : NextIs (Keeps μ r₀) (execClearRecorder req arg s) := by
  unfold execClearRecorder
  simp (maxDischargeDepth := 40) +contextual only [hs, fr_ite, ite_self, implies_true, fr_request (sub_trans rfl hμ), nextIs_next, nextIs_ite,
        nextIs_fault]

def kf_execCounterSelectWrite : Nat := 0x3FF7ECEE7
theorem fr_execCounterSelectWrite {μ : Nat} (hμ : sub kf_execCounterSelectWrite μ = true) (req : Req) (n : Fin 512) (value : List Byte) {r₀ s : State}
        (hs : Keeps μ r₀ s) : NextIs (Keeps μ r₀) (execCounterSelectWrite req n value s) := by
  unfold execCounterSelectWrite
  simp (maxDischargeDepth := 40) +contextual only [hs, fr_ite, ite_self, implies_true, fr_request (sub_trans rfl hμ), nextIs_next, nextIs_ite,
        nextIs_fault]

def kf_execCounterStickyClear : Nat := 0x3FF7ECEE7
theorem fr_execCounterStickyClear {μ : Nat} (hμ : sub kf_execCounterStickyClear μ = true) (req : Req) (n : Fin 512) (value : List Byte) {r₀ s : State}
        (hs : Keeps μ r₀ s) : NextIs (Keeps μ r₀) (execCounterStickyClear req n value s) := by
  unfold execCounterStickyClear
  simp (maxDischargeDepth := 40) +contextual only [hs, fr_ite, ite_self, implies_true, fr_request (sub_trans rfl hμ), nextIs_next, nextIs_ite,
        nextIs_fault]

def kf_execQueueFlush : Nat := 0x3FF7ECEE7
theorem fr_execQueueFlush {μ : Nat} (hμ : sub kf_execQueueFlush μ = true) (req : Req) (value : List Byte) {r₀ s : State} (hs : Keeps μ r₀ s)
        : NextIs (Keeps μ r₀) (execQueueFlush req value s) := by
  unfold execQueueFlush
  simp (maxDischargeDepth := 40) +contextual only [hs, fr_ite, ite_self, implies_true, fr_request (sub_trans rfl hμ), nextIs_next, nextIs_ite,
        nextIs_fault]

def kf_execOldestSampleItemRead : Nat := 0x3FF7ECEE7
theorem fr_execOldestSampleItemRead {μ : Nat} (hμ : sub kf_execOldestSampleItemRead μ = true) (req : Req) {r₀ s : State} (hs : Keeps μ r₀ s)
        : NextIs (Keeps μ r₀) (execOldestSampleItemRead req s) := by
  unfold execOldestSampleItemRead
  simp (maxDischargeDepth := 40) +contextual only [hs, fr_ite, ite_self, implies_true, fr_request (sub_trans rfl hμ), nextIs_next, nextIs_ite,
        nextIs_fault]

def kf_execReleaseChannel : Nat := 0x3FF7ECEE7
theorem fr_execReleaseChannel {μ : Nat} (hμ : sub kf_execReleaseChannel μ = true) (req : Req) (arg : List Byte) {r₀ s : State} (hs : Keeps μ
        r₀ s) : NextIs (Keeps μ r₀) (execReleaseChannel req arg s) := by
  unfold execReleaseChannel
  simp (maxDischargeDepth := 40) +contextual only [hs, fr_ite, ite_self, implies_true, fr_request (sub_trans rfl hμ), nextIs_next, nextIs_ite,
        nextIs_fault]

def kf_execFieldLinkConfigWrite : Nat := 0x3FF7ECEE7
theorem fr_execFieldLinkConfigWrite {μ : Nat} (hμ : sub kf_execFieldLinkConfigWrite μ = true) (req : Req) (sub : Nat) (value : List Byte)
        {r₀ s : State} (hs : Keeps μ r₀ s) : NextIs (Keeps μ r₀) (execFieldLinkConfigWrite req sub value s) := by
  unfold execFieldLinkConfigWrite
  simp (maxDischargeDepth := 40) +contextual only [hs, fr_ite, ite_self, implies_true, fr_request (sub_trans rfl hμ), nextIs_next, nextIs_ite,
        nextIs_fault]

def kf_execAgeMeterReprogram : Nat := 0x2000000
theorem fr_execAgeMeterReprogram {μ : Nat} (hμ : sub kf_execAgeMeterReprogram μ = true) {r₀ s : State} (hs : Keeps μ r₀ s) : NextIs (Keeps μ
        r₀) (execAgeMeterReprogram s) := by
  have b25 : μ.testBit 25 = true := sub_bit hμ rfl
  unfold execAgeMeterReprogram
  simp (maxDischargeDepth := 40) +contextual only [hs, fr_ite, ite_self, implies_true, b25, upd_med, nextIs_next, nextIs_ite, nextIs_fault]

def kf_execPriorityPass : Nat := 0x102000000
theorem fr_execPriorityPass {μ : Nat} (hμ : sub kf_execPriorityPass μ = true) {r₀ s : State} (hs : Keeps μ r₀ s) : NextIs (Keeps μ r₀)
        (execPriorityPass s) := by
  have b25 : μ.testBit 25 = true := sub_bit hμ rfl
  unfold execPriorityPass
  simp (maxDischargeDepth := 40) +contextual only [hs, fr_ite, ite_self, implies_true, b25, upd_med, fr_put (sub_trans rfl hμ),
        fr_judgeEpisode (sub_trans rfl hμ), fr_foldl, nextIs_next, nextIs_ite, nextIs_fault]

def kf_execPatrolVisit : Nat := 0x3AF7FCEE4
theorem fr_execPatrolVisit {μ : Nat} (hμ : sub kf_execPatrolVisit μ = true) (unit : Fin 1048576) (report : PatrolReport) {r₀ s : State} (hs
        : Keeps μ r₀ s) : NextIs (Keeps μ r₀) (execPatrolVisit unit report s) := by
  unfold execPatrolVisit
  simp (maxDischargeDepth := 40) +contextual only [hs, fr_ite, ite_self, implies_true, fr_prunePass (sub_trans rfl hμ), fr_visit (sub_trans
        rfl hμ), nextIs_next, nextIs_ite, nextIs_fault]

def kf_execOutOfTurnVisit : Nat := 0x3AF7FCEE4
theorem fr_execOutOfTurnVisit {μ : Nat} (hμ : sub kf_execOutOfTurnVisit μ = true) (unit : Fin 1048576) (report : PatrolReport) {r₀ s : State}
        (hs : Keeps μ r₀ s) : NextIs (Keeps μ r₀) (execOutOfTurnVisit unit report s) := by
  unfold execOutOfTurnVisit
  simp (maxDischargeDepth := 40) +contextual only [hs, fr_ite, ite_self, implies_true, fr_visit (sub_trans rfl hμ), nextIs_next, nextIs_ite,
        nextIs_fault]

def kf_execUnitRetest : Nat := 0x387000064
theorem fr_execUnitRetest {μ : Nat} (hμ : sub kf_execUnitRetest μ = true) (unit : Fin 1048576) (pass : Bool) {r₀ s : State} (hs : Keeps μ r₀
        s) : NextIs (Keeps μ r₀) (execUnitRetest unit pass s) := by
  unfold execUnitRetest
  simp (maxDischargeDepth := 40) +contextual only [hs, fr_ite, ite_self, implies_true, fr_lastingFault (sub_trans rfl hμ), fr_setUnitState
        (sub_trans rfl hμ), nextIs_next, nextIs_ite, nextIs_fault]

def kf_execDemotion : Nat := 0x387000064
theorem fr_execDemotion {μ : Nat} (hμ : sub kf_execDemotion μ = true) (stripe : Fin 65536) {r₀ s : State} (hs : Keeps μ r₀ s) : NextIs
        (Keeps μ r₀) (execDemotion stripe s) := by
  unfold execDemotion
  (try simp (maxDischargeDepth := 40) +contextual only [hs, fr_ite, ite_self, implies_true, fr_setStripe (sub_trans rfl hμ), fr_collect
        (sub_trans rfl hμ), nextIs_next, nextIs_ite, nextIs_fault])
  repeat' split
  all_goals first
    | (with_reducible exact hs)
    | (simp (maxDischargeDepth := 40) +contextual only [hs, fr_ite, ite_self, implies_true, fr_setStripe (sub_trans rfl hμ), fr_collect (sub_trans
        rfl hμ), nextIs_next, nextIs_ite, nextIs_fault]; done)

def kf_execFloorRestoreMove : Nat := 0x387000064
theorem fr_execFloorRestoreMove {μ : Nat} (hμ : sub kf_execFloorRestoreMove μ = true) (page : Nat) {r₀ s : State} (hs : Keeps μ r₀ s) :
        NextIs (Keeps μ r₀) (execFloorRestoreMove page s) := by
  have b25 : μ.testBit 25 = true := sub_bit hμ rfl
  unfold execFloorRestoreMove
  (try simp (maxDischargeDepth := 40) +contextual only [hs, fr_ite, ite_self, implies_true, b25, upd_med, fr_writeMoves (sub_trans rfl hμ),
        nextIs_next, nextIs_ite, nextIs_fault])
  repeat' split
  all_goals first
    | (with_reducible exact hs)
    | (simp (maxDischargeDepth := 40) +contextual only [hs, fr_ite, ite_self, implies_true, b25, upd_med, fr_writeMoves (sub_trans rfl hμ),
        nextIs_next, nextIs_ite, nextIs_fault]; done)

def kf_execDieRetiring : Nat := 0x387004CE4
theorem fr_execDieRetiring {μ : Nat} (hμ : sub kf_execDieRetiring μ = true) (die : Fin 64) {r₀ s : State} (hs : Keeps μ r₀ s) : NextIs
        (Keeps μ r₀) (execDieRetiring die s) := by
  unfold execDieRetiring
  simp (maxDischargeDepth := 40) +contextual only [hs, fr_ite, ite_self, implies_true, fr_dieLeaves (sub_trans rfl hμ), nextIs_next,
        nextIs_ite, nextIs_fault]

def kf_execDieFailed : Nat := 0x387004CE4
theorem fr_execDieFailed {μ : Nat} (hμ : sub kf_execDieFailed μ = true) (die : Fin 64) {r₀ s : State} (hs : Keeps μ r₀ s) : NextIs (Keeps μ
        r₀) (execDieFailed die s) := by
  unfold execDieFailed
  simp (maxDischargeDepth := 40) +contextual only [hs, fr_ite, ite_self, implies_true, fr_dieLeaves (sub_trans rfl hμ), nextIs_next,
        nextIs_ite, nextIs_fault]

def kf_execChannelRetired : Nat := 0x387004CE4
theorem fr_execChannelRetired {μ : Nat} (hμ : sub kf_execChannelRetired μ = true) (channel : Fin 16) (canTransfer failedTraining : Bool) {r₀ s : State}
        (hs : Keeps μ r₀ s) : NextIs (Keeps μ r₀) (execChannelRetired channel canTransfer failedTraining s) := by
  have b25 : μ.testBit 25 = true := sub_bit hμ rfl
  unfold execChannelRetired
  simp (maxDischargeDepth := 40) +contextual only [hs, fr_ite, ite_self, implies_true, b25, upd_med, fr_bump (sub_trans rfl hμ), fr_put
        (sub_trans rfl hμ), fr_dieLeaves (sub_trans rfl hμ), fr_judgeEpisode (sub_trans rfl hμ), fr_raise (sub_trans rfl hμ), fr_foldl,
        nextIs_next, nextIs_ite, nextIs_fault]

def kf_execRebuildComplete : Nat := 0x182000064
theorem fr_execRebuildComplete {μ : Nat} (hμ : sub kf_execRebuildComplete μ = true) (die : Fin 64) {r₀ s : State} (hs : Keeps μ r₀ s) :
        NextIs (Keeps μ r₀) (execRebuildComplete die s) := by
  have b25 : μ.testBit 25 = true := sub_bit hμ rfl
  unfold execRebuildComplete
  simp (maxDischargeDepth := 40) +contextual only [hs, fr_ite, ite_self, implies_true, b25, upd_med, fr_bump (sub_trans rfl hμ), fr_put
        (sub_trans rfl hμ), fr_judgeEpisode (sub_trans rfl hμ), fr_noteHealth (sub_trans rfl hμ), fr_raise (sub_trans rfl hμ), nextIs_next,
        nextIs_ite, nextIs_fault]

def kf_execStripeWithdrawn : Nat := 0x387000064
theorem fr_execStripeWithdrawn {μ : Nat} (hμ : sub kf_execStripeWithdrawn μ = true) (stripe : Fin 65536) {r₀ s : State} (hs : Keeps μ r₀ s)
        : NextIs (Keeps μ r₀) (execStripeWithdrawn stripe s) := by
  unfold execStripeWithdrawn
  (try simp (maxDischargeDepth := 40) +contextual only [hs, fr_ite, ite_self, implies_true, fr_setStripe (sub_trans rfl hμ), fr_collect
        (sub_trans rfl hμ), nextIs_next, nextIs_ite, nextIs_fault])
  repeat' split
  all_goals first
    | (with_reducible exact hs)
    | (simp (maxDischargeDepth := 40) +contextual only [hs, fr_ite, ite_self, implies_true, fr_setStripe (sub_trans rfl hμ), fr_collect (sub_trans
        rfl hμ), nextIs_next, nextIs_ite, nextIs_fault]; done)

def kf_execOccurrence : Nat := 0x182000064
theorem fr_execOccurrence {μ : Nat} (hμ : sub kf_execOccurrence μ = true) (source : Fin 288) {r₀ s : State} (hs : Keeps μ r₀ s) : NextIs
        (Keeps μ r₀) (execOccurrence source s) := by
  have b25 : μ.testBit 25 = true := sub_bit hμ rfl
  unfold execOccurrence
  simp (maxDischargeDepth := 40) +contextual only [hs, fr_ite, ite_self, implies_true, b25, upd_med, fr_bump (sub_trans rfl hμ), fr_drawn
        (sub_trans rfl hμ), fr_raise (sub_trans rfl hμ), nextIs_next, nextIs_ite, nextIs_fault]

def kf_execHeldMsiX : Nat := 0x60
theorem fr_execHeldMsiX {μ : Nat} (hμ : sub kf_execHeldMsiX μ = true) (p : Port) {r₀ s : State} (hs : Keeps μ r₀ s) : NextIs (Keeps μ r₀)
        (execHeldMsiX p s) := by
  unfold execHeldMsiX
  (try simp (maxDischargeDepth := 40) +contextual only [hs, fr_ite, ite_self, implies_true, fr_modPort (sub_trans rfl hμ), fr_emit (sub_trans
        rfl hμ), nextIs_next, nextIs_ite, nextIs_fault])
  repeat' split
  all_goals first
    | (with_reducible exact hs)
    | (simp (maxDischargeDepth := 40) +contextual only [hs, fr_ite, ite_self, implies_true, fr_modPort (sub_trans rfl hμ), fr_emit (sub_trans rfl
        hμ), nextIs_next, nextIs_ite, nextIs_fault]; done)

def kf_execRecorderWrite : Nat := 0x180000064
theorem fr_execRecorderWrite {μ : Nat} (hμ : sub kf_execRecorderWrite μ = true) {r₀ s : State} (hs : Keeps μ r₀ s) : NextIs (Keeps μ r₀)
        (execRecorderWrite s) := by
  unfold execRecorderWrite
  simp (maxDischargeDepth := 40) +contextual only [hs, fr_ite, ite_self, implies_true, fr_writeNextRecord (sub_trans rfl hμ), nextIs_next,
        nextIs_ite, nextIs_fault]

def kf_execCaptureEpisode : Nat := 0x100000000
theorem fr_execCaptureEpisode {μ : Nat} (hμ : sub kf_execCaptureEpisode μ = true) {r₀ s : State} (hs : Keeps μ r₀ s) : NextIs (Keeps μ r₀)
        (execCaptureEpisode s) := by
  unfold execCaptureEpisode
  simp (maxDischargeDepth := 40) +contextual only [hs, fr_ite, ite_self, implies_true, fr_judgeEpisode (sub_trans rfl hμ), nextIs_next,
        nextIs_ite, nextIs_fault]

def kf_execCoreDelayMargin : Nat := 0x190000064
theorem fr_execCoreDelayMargin {μ : Nat} (hμ : sub kf_execCoreDelayMargin μ = true) (_quadrant : Fin 4) {r₀ s : State} (hs : Keeps μ r₀ s) :
        NextIs (Keeps μ r₀) (execCoreDelayMargin _quadrant s) := by
  unfold execCoreDelayMargin
  simp (maxDischargeDepth := 40) +contextual only [hs, fr_ite, ite_self, implies_true, fr_raiseVcore (sub_trans rfl hμ), nextIs_next,
        nextIs_ite, nextIs_fault]

def kf_execCrossingError : Nat := 0x180000064
theorem fr_execCrossingError {μ : Nat} (hμ : sub kf_execCrossingError μ = true) (source : Nat) {r₀ s : State} (hs : Keeps μ r₀ s) : NextIs
        (Keeps μ r₀) (execCrossingError source s) := by
  unfold execCrossingError
  simp (maxDischargeDepth := 40) +contextual only [hs, fr_ite, ite_self, implies_true, fr_raise (sub_trans rfl hμ), nextIs_next, nextIs_ite,
        nextIs_fault]

def kf_execCompletionStall : Nat := 0x3B77ECEE4
theorem fr_execCompletionStall {μ : Nat} (hμ : sub kf_execCompletionStall μ = true) {r₀ s : State} (hs : Keeps μ r₀ s) : NextIs (Keeps μ r₀)
        (execCompletionStall s) := by
  have b29 : μ.testBit 29 = true := sub_bit hμ rfl
  unfold execCompletionStall
  simp (maxDischargeDepth := 40) +contextual only [hs, fr_ite, ite_self, implies_true, b29, upd_modes, fr_criticalError (sub_trans rfl hμ),
        fr_raise (sub_trans rfl hμ), nextIs_next, nextIs_ite, nextIs_fault]

def kf_execFrameReceived : Nat := 0x180000064
theorem fr_execFrameReceived {μ : Nat} (hμ : sub kf_execFrameReceived μ = true) (frame : Frame) {r₀ s : State} (hs : Keeps μ r₀ s) : NextIs
        (Keeps μ r₀) (execFrameReceived frame s) := by
  unfold execFrameReceived
  simp (maxDischargeDepth := 40) +contextual only [hs, fr_ite, ite_self, implies_true, fr_bump (sub_trans rfl hμ), fr_queueFrame (sub_trans
        rfl hμ), nextIs_next, nextIs_ite, nextIs_fault]

def kf_execDiscover : Nat := 0x80000000
theorem fr_execDiscover {μ : Nat} (hμ : sub kf_execDiscover μ = true) (source : Nat) {r₀ s : State} (hs : Keeps μ r₀ s) : NextIs (Keeps μ
        r₀) (execDiscover source s) := by
  unfold execDiscover
  simp (maxDischargeDepth := 40) +contextual only [hs, fr_ite, ite_self, implies_true, fr_arrive (sub_trans rfl hμ), fr_sendFrame (sub_trans
        rfl hμ), nextIs_next, nextIs_ite, nextIs_fault]

def kf_execRattle : Nat := 0x1B0000064
theorem fr_execRattle {μ : Nat} (hμ : sub kf_execRattle μ = true) (code : Nat) {r₀ s : State} (hs : Keeps μ r₀ s) : NextIs (Keeps μ r₀)
        (execRattle code s) := by
  have b29 : μ.testBit 29 = true := sub_bit hμ rfl
  unfold execRattle
  simp (maxDischargeDepth := 40) +contextual only [hs, fr_ite, ite_self, implies_true, b29, upd_modes, fr_bump (sub_trans rfl hμ), fr_raise
        (sub_trans rfl hμ), fr_wakeSource (sub_trans rfl hμ), nextIs_next, nextIs_ite, nextIs_fault]

def kf_execNotice : Nat := 0x80000000
theorem fr_execNotice {μ : Nat} (hμ : sub kf_execNotice μ = true) {r₀ s : State} (hs : Keeps μ r₀ s) : NextIs (Keeps μ r₀) (execNotice s) :=
        by
  have b31 : μ.testBit 31 = true := sub_bit hμ rfl
  unfold execNotice
  (try simp (maxDischargeDepth := 40) +contextual only [hs, fr_ite, ite_self, implies_true, b31, upd_mgmt, fr_bump (sub_trans rfl hμ),
        fr_sendFrame (sub_trans rfl hμ), nextIs_next, nextIs_ite, nextIs_fault])
  repeat' split
  all_goals first
    | (with_reducible exact hs)
    | (simp (maxDischargeDepth := 40) +contextual only [hs, fr_ite, ite_self, implies_true, b31, upd_mgmt, fr_bump (sub_trans rfl hμ),
        fr_sendFrame (sub_trans rfl hμ), nextIs_next, nextIs_ite, nextIs_fault]; done)

def kf_execBeaconLoss : Nat := 0x180000064
theorem fr_execBeaconLoss {μ : Nat} (hμ : sub kf_execBeaconLoss μ = true) {r₀ s : State} (hs : Keeps μ r₀ s) : NextIs (Keeps μ r₀)
        (execBeaconLoss s) := by
  have b31 : μ.testBit 31 = true := sub_bit hμ rfl
  unfold execBeaconLoss
  simp (maxDischargeDepth := 40) +contextual only [hs, fr_ite, ite_self, implies_true, b31, upd_mgmt, fr_raise (sub_trans rfl hμ),
        nextIs_next, nextIs_ite, nextIs_fault]

def kf_execBeaconReceived : Nat := 0x180000064
theorem fr_execBeaconReceived {μ : Nat} (hμ : sub kf_execBeaconReceived μ = true) {r₀ s : State} (hs : Keeps μ r₀ s) : NextIs (Keeps μ r₀)
        (execBeaconReceived s) := by
  have b31 : μ.testBit 31 = true := sub_bit hμ rfl
  unfold execBeaconReceived
  simp (maxDischargeDepth := 40) +contextual only [hs, fr_ite, ite_self, implies_true, b31, upd_mgmt, fr_raise (sub_trans rfl hμ),
        nextIs_next, nextIs_ite, nextIs_fault]

def kf_execNodeIdConflict : Nat := 0x180000064
theorem fr_execNodeIdConflict {μ : Nat} (hμ : sub kf_execNodeIdConflict μ = true) {r₀ s : State} (hs : Keeps μ r₀ s) : NextIs (Keeps μ r₀)
        (execNodeIdConflict s) := by
  have b31 : μ.testBit 31 = true := sub_bit hμ rfl
  unfold execNodeIdConflict
  simp (maxDischargeDepth := 40) +contextual only [hs, fr_ite, ite_self, implies_true, b31, upd_mgmt, fr_bump (sub_trans rfl hμ), fr_raise
        (sub_trans rfl hμ), nextIs_next, nextIs_ite, nextIs_fault]

def kf_execReducedRateRefill : Nat := 0x80000000
theorem fr_execReducedRateRefill {μ : Nat} (hμ : sub kf_execReducedRateRefill μ = true) {r₀ s : State} (hs : Keeps μ r₀ s) : NextIs (Keeps μ
        r₀) (execReducedRateRefill s) := by
  have b31 : μ.testBit 31 = true := sub_bit hμ rfl
  unfold execReducedRateRefill
  simp (maxDischargeDepth := 40) +contextual only [hs, fr_ite, ite_self, implies_true, b31, upd_mgmt, nextIs_next, nextIs_ite, nextIs_fault]

def kf_mailboxCommand : Nat := 0x1A0000064
theorem fr_mailboxCommand {μ : Nat} (hμ : sub kf_mailboxCommand μ = true) {p : Port} {f : State → State} {r₀ s : State}
    (hf : ∀ t, Keeps μ r₀ t → Keeps μ r₀ (f t)) (hs : Keeps μ r₀ s) : NextIs (Keeps μ r₀) (mailboxCommand p f s) := by
  unfold mailboxCommand
  split
  · exact hf _ (fr_cond (fr_wakeBy (sub_trans rfl hμ) _ hs) hs)
  · exact hs

def kf_execIdentify : Nat := 0x1A0000064
theorem fr_execIdentify {μ : Nat} (hμ : sub kf_execIdentify μ = true) (p : Port) {r₀ s : State} (hs : Keeps μ r₀ s) : NextIs (Keeps μ r₀)
        (execIdentify p s) := by
  unfold execIdentify
  refine fr_mailboxCommand (sub_trans rfl hμ) (fun t ht => ?_) hs
  (try simp (maxDischargeDepth := 40) +contextual only [ht, fr_ite, ite_self, implies_true, fr_mailboxAnswer (sub_trans rfl hμ),
        fr_mailboxCommand (sub_trans rfl hμ), nextIs_next, nextIs_ite, nextIs_fault])
  repeat' split
  all_goals first
    | (with_reducible exact ht)
    | (simp (maxDischargeDepth := 40) +contextual only [ht, fr_ite, ite_self, implies_true, fr_mailboxAnswer (sub_trans rfl hμ), fr_mailboxCommand
        (sub_trans rfl hμ), nextIs_next, nextIs_ite, nextIs_fault]; done)

def kf_execGetTimestamp : Nat := 0x1A0000064
theorem fr_execGetTimestamp {μ : Nat} (hμ : sub kf_execGetTimestamp μ = true) (p : Port) {r₀ s : State} (hs : Keeps μ r₀ s) : NextIs (Keeps
        μ r₀) (execGetTimestamp p s) := by
  unfold execGetTimestamp
  refine fr_mailboxCommand (sub_trans rfl hμ) (fun t ht => ?_) hs
  (try simp (maxDischargeDepth := 40) +contextual only [ht, fr_ite, ite_self, implies_true, fr_mailboxAnswer (sub_trans rfl hμ),
        fr_mailboxCommand (sub_trans rfl hμ), nextIs_next, nextIs_ite, nextIs_fault])
  repeat' split
  all_goals first
    | (with_reducible exact ht)
    | (simp (maxDischargeDepth := 40) +contextual only [ht, fr_ite, ite_self, implies_true, fr_mailboxAnswer (sub_trans rfl hμ), fr_mailboxCommand
        (sub_trans rfl hμ), nextIs_next, nextIs_ite, nextIs_fault]; done)

def kf_execSetTimestamp : Nat := 0x3A7000066
theorem fr_execSetTimestamp {μ : Nat} (hμ : sub kf_execSetTimestamp μ = true) (p : Port) (time : Word) {r₀ s : State} (hs : Keeps μ r₀ s) :
        NextIs (Keeps μ r₀) (execSetTimestamp p time s) := by
  unfold execSetTimestamp
  refine fr_mailboxCommand (sub_trans rfl hμ) (fun t ht => ?_) hs
  (try simp (maxDischargeDepth := 40) +contextual only [ht, fr_ite, ite_self, implies_true, fr_mailboxAnswer (sub_trans rfl hμ),
        fr_mailboxCommand (sub_trans rfl hμ), fr_setTime (sub_trans rfl hμ), nextIs_next, nextIs_ite, nextIs_fault])
  repeat' split
  all_goals first
    | (with_reducible exact ht)
    | (simp (maxDischargeDepth := 40) +contextual only [ht, fr_ite, ite_self, implies_true, fr_mailboxAnswer (sub_trans rfl hμ), fr_mailboxCommand
        (sub_trans rfl hμ), fr_setTime (sub_trans rfl hμ), nextIs_next, nextIs_ite, nextIs_fault]; done)

def kf_execIdentifyMemoryDevice : Nat := 0x1A0000064
theorem fr_execIdentifyMemoryDevice {μ : Nat} (hμ : sub kf_execIdentifyMemoryDevice μ = true) (p : Port) {r₀ s : State} (hs : Keeps μ r₀ s)
        : NextIs (Keeps μ r₀) (execIdentifyMemoryDevice p s) := by
  unfold execIdentifyMemoryDevice
  refine fr_mailboxCommand (sub_trans rfl hμ) (fun t ht => ?_) hs
  (try simp (maxDischargeDepth := 40) +contextual only [ht, fr_ite, ite_self, implies_true, fr_mailboxAnswer (sub_trans rfl hμ),
        fr_mailboxCommand (sub_trans rfl hμ), nextIs_next, nextIs_ite, nextIs_fault])
  repeat' split
  all_goals first
    | (with_reducible exact ht)
    | (simp (maxDischargeDepth := 40) +contextual only [ht, fr_ite, ite_self, implies_true, fr_mailboxAnswer (sub_trans rfl hμ), fr_mailboxCommand
        (sub_trans rfl hμ), nextIs_next, nextIs_ite, nextIs_fault]; done)

def kf_execGetHealthInfo : Nat := 0x1A0000064
theorem fr_execGetHealthInfo {μ : Nat} (hμ : sub kf_execGetHealthInfo μ = true) (p : Port) {r₀ s : State} (hs : Keeps μ r₀ s) : NextIs
        (Keeps μ r₀) (execGetHealthInfo p s) := by
  unfold execGetHealthInfo
  refine fr_mailboxCommand (sub_trans rfl hμ) (fun t ht => ?_) hs
  (try simp (maxDischargeDepth := 40) +contextual only [ht, fr_ite, ite_self, implies_true, fr_drawn (sub_trans rfl hμ), fr_mailboxAnswer
        (sub_trans rfl hμ), fr_mailboxCommand (sub_trans rfl hμ), nextIs_next, nextIs_ite, nextIs_fault])
  repeat' split
  all_goals first
    | (with_reducible exact ht)
    | (simp (maxDischargeDepth := 40) +contextual only [ht, fr_ite, ite_self, implies_true, fr_drawn (sub_trans rfl hμ), fr_mailboxAnswer
        (sub_trans rfl hμ), fr_mailboxCommand (sub_trans rfl hμ), nextIs_next, nextIs_ite, nextIs_fault]; done)

def kf_execGetEventRecords : Nat := 0x1A0000064
theorem fr_execGetEventRecords {μ : Nat} (hμ : sub kf_execGetEventRecords μ = true) (p : Port) (log : Fin 4) {r₀ s : State} (hs : Keeps μ r₀
        s) : NextIs (Keeps μ r₀) (execGetEventRecords p log s) := by
  unfold execGetEventRecords
  refine fr_mailboxCommand (sub_trans rfl hμ) (fun t ht => ?_) hs
  (try simp (maxDischargeDepth := 40) +contextual only [ht, fr_ite, ite_self, implies_true, fr_mailboxAnswer (sub_trans rfl hμ),
        fr_mailboxCommand (sub_trans rfl hμ), nextIs_next, nextIs_ite, nextIs_fault])
  repeat' split
  all_goals first
    | (with_reducible exact ht)
    | (simp (maxDischargeDepth := 40) +contextual only [ht, fr_ite, ite_self, implies_true, fr_mailboxAnswer (sub_trans rfl hμ), fr_mailboxCommand
        (sub_trans rfl hμ), nextIs_next, nextIs_ite, nextIs_fault]; done)

def kf_execClearEventRecords : Nat := 0x1A0000064
theorem fr_execClearEventRecords {μ : Nat} (hμ : sub kf_execClearEventRecords μ = true) (p : Port) (log : Fin 4) (handles : Option (List
        Nat)) {r₀ s : State} (hs : Keeps μ r₀ s) : NextIs (Keeps μ r₀) (execClearEventRecords p log handles s) := by
  unfold execClearEventRecords
  refine fr_mailboxCommand (sub_trans rfl hμ) (fun t ht => ?_) hs
  (try simp (maxDischargeDepth := 40) +contextual only [ht, fr_ite, ite_self, implies_true, fr_clearLog (sub_trans rfl hμ), fr_mailboxAnswer
        (sub_trans rfl hμ), fr_mailboxCommand (sub_trans rfl hμ), nextIs_next, nextIs_ite, nextIs_fault])
  repeat' split
  all_goals first
    | (with_reducible exact ht)
    | (simp (maxDischargeDepth := 40) +contextual only [ht, fr_ite, ite_self, implies_true, fr_clearLog (sub_trans rfl hμ), fr_mailboxAnswer
        (sub_trans rfl hμ), fr_mailboxCommand (sub_trans rfl hμ), nextIs_next, nextIs_ite, nextIs_fault]; done)

def kf_execGetEventInterruptPolicy : Nat := 0x1A0000064
theorem fr_execGetEventInterruptPolicy {μ : Nat} (hμ : sub kf_execGetEventInterruptPolicy μ = true) (p : Port) {r₀ s : State} (hs : Keeps μ
        r₀ s) : NextIs (Keeps μ r₀) (execGetEventInterruptPolicy p s) := by
  unfold execGetEventInterruptPolicy
  refine fr_mailboxCommand (sub_trans rfl hμ) (fun t ht => ?_) hs
  (try simp (maxDischargeDepth := 40) +contextual only [ht, fr_ite, ite_self, implies_true, fr_mailboxAnswer (sub_trans rfl hμ),
        fr_mailboxCommand (sub_trans rfl hμ), nextIs_next, nextIs_ite, nextIs_fault])
  repeat' split
  all_goals first
    | (with_reducible exact ht)
    | (simp (maxDischargeDepth := 40) +contextual only [ht, fr_ite, ite_self, implies_true, fr_mailboxAnswer (sub_trans rfl hμ), fr_mailboxCommand
        (sub_trans rfl hμ), nextIs_next, nextIs_ite, nextIs_fault]; done)

def kf_execSetEventInterruptPolicy : Nat := 0x1A0000064
theorem fr_execSetEventInterruptPolicy {μ : Nat} (hμ : sub kf_execSetEventInterruptPolicy μ = true) (p : Port) (info warn fail fatal : Byte)
        {r₀ s : State} (hs : Keeps μ r₀ s) : NextIs (Keeps μ r₀) (execSetEventInterruptPolicy p info warn fail fatal s) := by
  unfold execSetEventInterruptPolicy
  refine fr_mailboxCommand (sub_trans rfl hμ) (fun t ht => ?_) hs
  (try simp (maxDischargeDepth := 40) +contextual only [ht, fr_ite, ite_self, implies_true, fr_modPort (sub_trans rfl hμ), fr_mailboxAnswer
        (sub_trans rfl hμ), fr_mailboxCommand (sub_trans rfl hμ), nextIs_next, nextIs_ite, nextIs_fault])
  repeat' split
  all_goals first
    | (with_reducible exact ht)
    | (simp (maxDischargeDepth := 40) +contextual only [ht, fr_ite, ite_self, implies_true, fr_modPort (sub_trans rfl hμ), fr_mailboxAnswer
        (sub_trans rfl hμ), fr_mailboxCommand (sub_trans rfl hμ), nextIs_next, nextIs_ite, nextIs_fault]; done)

def kf_execGetFwInfo : Nat := 0x1A0000064
theorem fr_execGetFwInfo {μ : Nat} (hμ : sub kf_execGetFwInfo μ = true) (p : Port) {r₀ s : State} (hs : Keeps μ r₀ s) : NextIs (Keeps μ r₀)
        (execGetFwInfo p s) := by
  unfold execGetFwInfo
  refine fr_mailboxCommand (sub_trans rfl hμ) (fun t ht => ?_) hs
  (try simp (maxDischargeDepth := 40) +contextual only [ht, fr_ite, ite_self, implies_true, fr_mailboxAnswer (sub_trans rfl hμ),
        fr_mailboxCommand (sub_trans rfl hμ), nextIs_next, nextIs_ite, nextIs_fault])
  repeat' split
  all_goals first
    | (with_reducible exact ht)
    | (simp (maxDischargeDepth := 40) +contextual only [ht, fr_ite, ite_self, implies_true, fr_mailboxAnswer (sub_trans rfl hμ), fr_mailboxCommand
        (sub_trans rfl hμ), nextIs_next, nextIs_ite, nextIs_fault]; done)

def kf_execTransferFw : Nat := 0x1A0000064
theorem fr_execTransferFw {μ : Nat} (hμ : sub kf_execTransferFw μ = true) (p : Port) (signatureOk : Bool) (version : Nat) {r₀ s : State} (hs
        : Keeps μ r₀ s) : NextIs (Keeps μ r₀) (execTransferFw p signatureOk version s) := by
  unfold execTransferFw
  refine fr_mailboxCommand (sub_trans rfl hμ) (fun t ht => ?_) hs
  (try simp (maxDischargeDepth := 40) +contextual only [ht, fr_ite, ite_self, implies_true, fr_mailboxAnswer (sub_trans rfl hμ),
        fr_mailboxBusy (sub_trans rfl hμ), fr_mailboxCommand (sub_trans rfl hμ), fr_stageImage (sub_trans rfl hμ), nextIs_next, nextIs_ite,
        nextIs_fault])
  repeat' split
  all_goals first
    | (with_reducible exact ht)
    | (simp (maxDischargeDepth := 40) +contextual only [ht, fr_ite, ite_self, implies_true, fr_mailboxAnswer (sub_trans rfl hμ), fr_mailboxBusy
        (sub_trans rfl hμ), fr_mailboxCommand (sub_trans rfl hμ), fr_stageImage (sub_trans rfl hμ), nextIs_next, nextIs_ite, nextIs_fault];
        done)

def kf_execActivateFw : Nat := 0x1A0000064
theorem fr_execActivateFw {μ : Nat} (hμ : sub kf_execActivateFw μ = true) (p : Port) (online : Bool) (result : ActivationResult) {r₀ s : State}
        (hs : Keeps μ r₀ s) : NextIs (Keeps μ r₀) (execActivateFw p online result s) := by
  unfold execActivateFw
  refine fr_mailboxCommand (sub_trans rfl hμ) (fun t ht => ?_) hs
  (try simp (maxDischargeDepth := 40) +contextual only [ht, fr_ite, ite_self, implies_true, fr_put (sub_trans rfl hμ), fr_activateByHost
        (sub_trans rfl hμ), fr_mailboxAnswer (sub_trans rfl hμ), fr_mailboxBusy (sub_trans rfl hμ), fr_mailboxCommand (sub_trans rfl hμ),
        nextIs_next, nextIs_ite, nextIs_fault])
  repeat' split
  all_goals first
    | (with_reducible exact ht)
    | (simp (maxDischargeDepth := 40) +contextual only [ht, fr_ite, ite_self, implies_true, fr_put (sub_trans rfl hμ), fr_activateByHost
        (sub_trans rfl hμ), fr_mailboxAnswer (sub_trans rfl hμ), fr_mailboxBusy (sub_trans rfl hμ), fr_mailboxCommand (sub_trans rfl hμ),
        nextIs_next, nextIs_ite, nextIs_fault]; done)

def kf_execSanitize : Nat := 0x3FF7ECEE7
theorem fr_execSanitize {μ : Nat} (hμ : sub kf_execSanitize μ = true) (via : Port ⊕ Req) {r₀ s : State} (hs : Keeps μ r₀ s) : NextIs (Keeps μ r₀) (execSanitize via s) := by
  unfold execSanitize
  split
  · exact fr_mailboxCommand (sub_trans rfl hμ) (fun t ht => fr_sanitizeByHost (sub_trans rfl hμ) _ ht) hs
  · exact fr_request (sub_trans rfl hμ) _ _ _ _ _ hs

def kf_execSecureErase : Nat := 0x3A7020EE4
theorem fr_execSecureErase {μ : Nat} (hμ : sub kf_execSecureErase μ = true) (p : Port) {r₀ s : State} (hs : Keeps μ r₀ s) : NextIs (Keeps μ
        r₀) (execSecureErase p s) := by
  unfold execSecureErase
  refine fr_mailboxCommand (sub_trans rfl hμ) (fun t ht => ?_) hs
  (try simp (maxDischargeDepth := 40) +contextual only [ht, fr_ite, ite_self, implies_true, fr_mailboxCommand (sub_trans rfl hμ),
        fr_sanitizeByHost (sub_trans rfl hμ), nextIs_next, nextIs_ite, nextIs_fault])
  repeat' split
  all_goals first
    | (with_reducible exact ht)
    | (simp (maxDischargeDepth := 40) +contextual only [ht, fr_ite, ite_self, implies_true, fr_mailboxCommand (sub_trans rfl hμ),
        fr_sanitizeByHost (sub_trans rfl hμ), nextIs_next, nextIs_ite, nextIs_fault]; done)

def kf_execUnsupportedMailboxOpcode : Nat := 0x1A0000064
theorem fr_execUnsupportedMailboxOpcode {μ : Nat} (hμ : sub kf_execUnsupportedMailboxOpcode μ = true) (p : Port) (opcode : BitVec 16) {r₀ s : State}
        (hs : Keeps μ r₀ s) : NextIs (Keeps μ r₀) (execUnsupportedMailboxOpcode p opcode s) := by
  unfold execUnsupportedMailboxOpcode
  refine fr_mailboxCommand (sub_trans rfl hμ) (fun t ht => ?_) hs
  (try simp (maxDischargeDepth := 40) +contextual only [ht, fr_ite, ite_self, implies_true, fr_mailboxAnswer (sub_trans rfl hμ),
        fr_mailboxCommand (sub_trans rfl hμ), nextIs_next, nextIs_ite, nextIs_fault])
  repeat' split
  all_goals first
    | (with_reducible exact ht)
    | (simp (maxDischargeDepth := 40) +contextual only [ht, fr_ite, ite_self, implies_true, fr_mailboxAnswer (sub_trans rfl hμ), fr_mailboxCommand
        (sub_trans rfl hμ), nextIs_next, nextIs_ite, nextIs_fault]; done)

def kf_execRestore : Nat := 0x3BF7FFEEF
theorem fr_execRestore {μ : Nat} (hμ : sub kf_execRestore μ = true) (upTo : Nat) (shifts : List (Option Nat)) (found : RestoreFindings) {r₀ s : State}
        (hs : Keeps μ r₀ s) : NextIs (Keeps μ r₀) (execRestore upTo shifts found s) := by
  unfold execRestore
  simp (maxDischargeDepth := 40) +contextual only [hs, fr_ite, ite_self, implies_true, fr_restoreSteps (sub_trans rfl hμ), nextIs_next,
        nextIs_ite, nextIs_fault]

def kf_execBackgroundRebuildDone : Nat := 0x3BF7FFEEF
theorem fr_execBackgroundRebuildDone {μ : Nat} (hμ : sub kf_execBackgroundRebuildDone μ = true) {r₀ s : State} (hs : Keeps μ r₀ s) : NextIs
        (Keeps μ r₀) (execBackgroundRebuildDone s) := by
  unfold execBackgroundRebuildDone
  simp (maxDischargeDepth := 40) +contextual only [hs, fr_ite, ite_self, implies_true, fr_restoreSteps (sub_trans rfl hμ), nextIs_next,
        nextIs_ite, nextIs_fault]

def kf_execSessionOpen : Nat := 0x180000064
theorem fr_execSessionOpen {μ : Nat} (hμ : sub kf_execSessionOpen μ = true) (req : Req) (level : Nat) (nonce : BitVec 128) {r₀ s : State}
        (hs : Keeps μ r₀ s) : NextIs (Keeps μ r₀) (execSessionOpen req level nonce s) := by
  unfold execSessionOpen
  simp (maxDischargeDepth := 40) +contextual only [hs, fr_ite, ite_self, implies_true, fr_arrive (sub_trans rfl hμ), fr_openStep (sub_trans
        rfl hμ), fr_sendStep (sub_trans rfl hμ), nextIs_next, nextIs_ite, nextIs_fault]

def kf_execSessionResponse : Nat := 0x180000064
theorem fr_execSessionResponse {μ : Nat} (hμ : sub kf_execSessionResponse μ = true) (req : Req) (number : Nat) (proof : BitVec 256) {r₀ s : State}
        (hs : Keeps μ r₀ s) : NextIs (Keeps μ r₀) (execSessionResponse req number proof s) := by
  unfold execSessionResponse
  simp (maxDischargeDepth := 40) +contextual only [hs, fr_ite, ite_self, implies_true, fr_arrive (sub_trans rfl hμ), fr_responseStep
        (sub_trans rfl hμ), fr_sendStep (sub_trans rfl hμ), nextIs_next, nextIs_ite, nextIs_fault]

def kf_execSessionClose : Nat := 0x80000000
theorem fr_execSessionClose {μ : Nat} (hμ : sub kf_execSessionClose μ = true) (req : Req) {r₀ s : State} (hs : Keeps μ r₀ s) : NextIs (Keeps
        μ r₀) (execSessionClose req s) := by
  unfold execSessionClose
  simp (maxDischargeDepth := 40) +contextual only [hs, fr_ite, ite_self, implies_true, fr_arrive (sub_trans rfl hμ), fr_closeNow (sub_trans
        rfl hμ), fr_inSession (sub_trans rfl hμ), fr_refuseClose (sub_trans rfl hμ), nextIs_next, nextIs_ite, nextIs_fault]

def kf_execSessionReservationTimeout : Nat := 0x80000000
theorem fr_execSessionReservationTimeout {μ : Nat} (hμ : sub kf_execSessionReservationTimeout μ = true) (number : Nat) {r₀ s : State} (hs :
        Keeps μ r₀ s) : NextIs (Keeps μ r₀) (execSessionReservationTimeout number s) := by
  have b31 : μ.testBit 31 = true := sub_bit hμ rfl
  unfold execSessionReservationTimeout
  simp (maxDischargeDepth := 40) +contextual only [hs, fr_ite, ite_self, implies_true, b31, upd_mgmt, nextIs_next, nextIs_ite, nextIs_fault]

def kf_execSessionIdleTimeout : Nat := 0x80000000
theorem fr_execSessionIdleTimeout {μ : Nat} (hμ : sub kf_execSessionIdleTimeout μ = true) (number : Nat) {r₀ s : State} (hs : Keeps μ r₀ s)
        : NextIs (Keeps μ r₀) (execSessionIdleTimeout number s) := by
  unfold execSessionIdleTimeout
  simp (maxDischargeDepth := 40) +contextual only [hs, fr_ite, ite_self, implies_true, fr_endSessions (sub_trans rfl hμ), nextIs_next,
        nextIs_ite, nextIs_fault]

def kf_execProofHoldExpiry : Nat := 0x80000000
theorem fr_execProofHoldExpiry {μ : Nat} (hμ : sub kf_execProofHoldExpiry μ = true) (path : Path) {r₀ s : State} (hs : Keeps μ r₀ s) :
        NextIs (Keeps μ r₀) (execProofHoldExpiry path s) := by
  have b31 : μ.testBit 31 = true := sub_bit hμ rfl
  unfold execProofHoldExpiry
  simp (maxDischargeDepth := 40) +contextual only [hs, fr_ite, ite_self, implies_true, b31, upd_mgmt, nextIs_next, nextIs_ite, nextIs_fault]

def kf_execLevelKeyWrite : Nat := 0x3FF7ECEE7
theorem fr_execLevelKeyWrite {μ : Nat} (hμ : sub kf_execLevelKeyWrite μ = true) (req : Req) (level : Fin 4) (wrapped : List Byte) {r₀ s : State}
        (hs : Keeps μ r₀ s) : NextIs (Keeps μ r₀) (execLevelKeyWrite req level wrapped s) := by
  unfold execLevelKeyWrite
  simp (maxDischargeDepth := 40) +contextual only [hs, fr_ite, ite_self, implies_true, fr_request (sub_trans rfl hμ), nextIs_next, nextIs_ite,
        nextIs_fault]

def kf_execCloseAllSessions : Nat := 0x3FF7ECEE7
theorem fr_execCloseAllSessions {μ : Nat} (hμ : sub kf_execCloseAllSessions μ = true) (req : Req) {r₀ s : State} (hs : Keeps μ r₀ s) :
        NextIs (Keeps μ r₀) (execCloseAllSessions req s) := by
  unfold execCloseAllSessions
  simp (maxDischargeDepth := 40) +contextual only [hs, fr_ite, ite_self, implies_true, fr_request (sub_trans rfl hμ), nextIs_next, nextIs_ite,
        nextIs_fault]

end Sys2Proof.Machine
end

