-- ==== Sys2Proof/Laws/Quiet.lean ====
section
/-! SUPPORT. Which entries of the register file an operation may write, one lemma for each: every other entry keeps its value, and a latch
that reads 1 goes on reading 1. Operations that write an entry named by their argument, or reset the controller, have none. -/

namespace Sys2Proof.Machine

set_option linter.unusedVariables false
set_option linter.unusedSimpArgs false
set_option linter.unusedTactic false
set_option linter.unreachableTactic false

/-- Keys of the register file that an operation may write, beside those of reports (`reportKey`): single keys, and spans of keys with a first
key, an end and one subindex (256: any). -/
structure Writes where
  keys : List Nat := []
  spans : List (Nat × Nat × Nat) := []

def Writes.has (w : Writes) (k : Nat) : Bool :=
  w.keys.contains k || w.spans.any fun x => Nat.ble x.1 k && Nat.blt k x.2.1 && (x.2.2 == 256 || k % 256 == x.2.2)

def Writes.le (a b : Writes) : Bool := a.keys.all (b.keys.contains ·) && a.spans.all fun x => b.spans.any fun y => x == y

/-- An operation that writes `w` leaves an entry with this value as it is: it does not write the entry, or the entry is a latch that reads 1
(occurrences only set latches). -/
def Quiet (w : Writes) (k v : Nat) : Prop := w.has k = false ∧ (¬reportKey k ∨ (∃ j, k = sourceKey j 0x01) ∧ v = 1)

/-- An entry reads a value. -/
def Holds (k v : Nat) (s : State) : Prop := s.get k = v

theorem Quiet.mono {a b : Writes} {k v : Nat} (h : Quiet b k v) (hl : a.le b = true) : Quiet a k v := by
  refine ⟨?_, h.2⟩
  have h1 := h.1
  simp only [Writes.le, Writes.has, Bool.and_eq_true, List.all_eq_true, Bool.or_eq_false_iff] at hl h1 ⊢
  refine ⟨?_, ?_⟩
  · cases hc : a.keys.contains k with
    | false => rfl
    | true => rw [hl.1 k (by simpa using hc)] at h1; exact absurd h1.1 (by simp)
  · rw [List.any_eq_false] at h1 ⊢
    intro x hx
    obtain ⟨y, hy, he⟩ := List.any_eq_true.mp (hl.2 x hx)
    have hxy : x = y := by simpa using he
    exact hxy ▸ h1.2 y hy

theorem Quiet.ne {w : Writes} {k v n : Nat} (h : Quiet w k v) (hn : w.keys.contains n = true) : k ≠ n := by
  rintro rfl
  have h1 := h.1
  rw [Writes.has, hn] at h1
  exact absurd h1 (by simp)

theorem Quiet.outside {w : Writes} {k v n lo hi sub : Nat} (h : Quiet w k v) (hm : (lo, hi, sub) ∈ w.spans) (h1 : lo ≤ n) (h2 : n < hi)
    (h3 : sub = 256 ∨ n % 256 = sub) : k ≠ n := by
  rintro rfl
  have h0 := h.1
  simp only [Writes.has, Bool.or_eq_false_iff, List.any_eq_false] at h0
  refine h0.2 _ hm ?_
  simp only [Bool.and_eq_true, Nat.ble_eq, Bool.or_eq_true, beq_iff_eq, Nat.blt_eq]
  exact ⟨⟨h1, h2⟩, h3⟩

theorem Quiet.ne_report {w : Writes} {k v n : Nat} (h : Quiet w k v) (hr : reportKey n) (hn : n < 0xE00000) : k ≠ n := by
  rintro rfl
  rcases h.2 with h | ⟨⟨j, rfl⟩, -⟩
  · exact h hr
  · unfold sourceKey at hn; omega

theorem hd_mk (k v : Nat) : ∀ x0 x1 x2 x3 x4 x5 x6 x7 x8 x9 x10 x11 x12 x13 x14 x15 x16 x17 x18 x19 x20 x21 x22 x23 x24 x25 x26 x27 x28 x29 x30 x31 x32 x33 x34 x35 x36 x37 x38 x39, Holds k v (State.mk x0 x1 x2 x3 x4 x5 x6 x7 x8 x9 x10 x11 x12 x13 x14 x15 x16 x17 x18 x19 x20 x21 x22 x23 x24 x25 x26 x27 x28 x29 x30 x31 x32 x33 x34 x35 x36 x37 x38 x39) = (tgetD (defaultOf k) k x1 = v) := by intros; rfl
theorem hd_fold (k v : Nat) (s : State) : (tgetD (defaultOf k) k s.dict = v) = Holds k v s := (rfl)
theorem hd_ite (k v : Nat) (c : Prop) [Decidable c] (a b : State) :
    Holds k v (if c then a else b) = if c then Holds k v a else Holds k v b := by split <;> rfl
theorem hd_cond {k v : Nat} {c : Prop} [Decidable c] {a b : State} (ha : Holds k v a) (hb : Holds k v b) : Holds k v (if c then a else b) := by
  split <;> assumption
theorem hd_foldl {k v : Nat} {α : Type} {f : State → α → State} {s : State} (h : ∀ t a, Holds k v t → Holds k v (f t a)) (l : List α)
    (hs : Holds k v s) : Holds k v (l.foldl f s) := by
  induction l generalizing s with
  | nil => exact hs
  | cons a l ih => rw [List.foldl_cons]; exact ih (h _ _ hs)
theorem hd_foldl_mem {k v : Nat} {α : Type} {f : State → α → State} {s : State} {l : List α} (h : ∀ t a, a ∈ l → Holds k v t → Holds k v (f t a))
    (hs : Holds k v s) : Holds k v (l.foldl f s) := by
  induction l generalizing s with
  | nil => exact hs
  | cons a l ih => rw [List.foldl_cons]; exact ih (fun t b hb => h t b (List.mem_cons_of_mem _ hb)) (h _ _ List.mem_cons_self hs)

theorem hd_put {k v key x : Nat} {s : State} (hn : k ≠ key) (hs : Holds k v s) : Holds k v (s.put key x) := (get_put_ne hn _).trans hs
theorem hd_addTo {k v key n : Nat} {s : State} (hn : k ≠ key) (hs : Holds k v s) : Holds k v (s.addTo key n) := hd_put hn hs
theorem hd_bump {k v key : Nat} {s : State} (hn : k ≠ key) (hs : Holds k v s) : Holds k v (s.bump key) := hd_put hn hs
theorem hd_putInt {k v key bits : Nat} {x : Int} {s : State} (hn : k ≠ key) (hs : Holds k v s) : Holds k v (s.putInt bits key x) := hd_put hn hs
theorem hd_setBit {k v key b : Nat} {s : State} (hn : k ≠ key) (hs : Holds k v s) : Holds k v (s.setBit key b) := hd_put hn hs
theorem hd_clearBit {k v key b : Nat} {s : State} (hn : k ≠ key) (hs : Holds k v s) : Holds k v (s.clearBit key b) := hd_put hn hs
theorem hd_raiseTo {k v key x : Nat} {s : State} (hn : k ≠ key) (hs : Holds k v s) : Holds k v (s.raiseTo key x) := by
  unfold State.raiseTo
  exact hd_cond (hd_put hn hs) hs
theorem hd_putBytes {k v key : Nat} {x : List Byte} {s : State} (hs : Holds k v s) : Holds k v (s.putBytes key x) := hs
theorem hd_takeStamp {w : Writes} {k v : Nat} (hq : Quiet w k v) {s : State} (hs : Holds k v s) : Holds k v (takeStamp s) := by
  refine (get_takeStamp ?_).trans hs
  rcases hq.2 with h | ⟨⟨j, rfl⟩, -⟩
  · exact fun e => h (Or.inl e)
  · unfold sourceKey; omega
theorem hd_raise {w : Writes} {k v : Nat} (hq : Quiet w k v) (src : Nat) {s : State} (hs : Holds k v s) : Holds k v (raise src s) := by
  rcases hq.2 with h | ⟨⟨j, rfl⟩, rfl⟩
  · exact (get_raise h).trans hs
  · exact latch_raise hs
theorem hd_raiseIf {w : Writes} {k v : Nat} (hq : Quiet w k v) (c : Bool) (src : Nat) {s : State} (hs : Holds k v s) :
    Holds k v (raiseIf c src s) := by
  unfold raiseIf
  exact hd_cond (hd_raise hq src hs) hs
theorem hd_count {w : Writes} {k v : Nat} (hq : Quiet w k v) (code q n : Nat) {s : State} (hs : Holds k v s) : Holds k v (count code q n s) := by
  rcases hq.2 with h | ⟨⟨j, rfl⟩, rfl⟩
  · exact (get_count h).trans hs
  · exact latch_count hs
theorem hd_count1 {w : Writes} {k v : Nat} (hq : Quiet w k v) (code q : Nat) {s : State} (hs : Holds k v s) : Holds k v (count1 code q s) :=
  hd_count hq code q 1 hs
theorem kp_recordOccurrence {w : Writes} {k v : Nat} (hq : Quiet w k v) {r : RecorderRecord} {s : State} (hs : Holds k v s) :
    Holds k v (recordOccurrence r s) :=
  (get_recordOccurrence (hq.ne_report (by decide) (by decide)) (hq.ne_report (by decide) (by decide))).trans hs
theorem kp_addToCounter {w : Writes} {k v : Nat} (hq : Quiet w k v) {n m : Nat} (hn : n < 512) {s : State} (hs : Holds k v s) :
    Holds k v (addToCounter n m s) := by
  rcases hq.2 with h | ⟨⟨j, rfl⟩, rfl⟩
  · exact (get_addToCounter hn h).trans hs
  · exact latch_addToCounter hn hs

/-- Nothing beside reports. -/
def kw_none : Writes := {}

theorem kp_setPort {κ ν : Nat} (hq : Quiet kw_none κ ν) (p : Port) (v : PortState) {s : State} (hs : Holds κ ν s) : Holds κ ν (State.setPort
        s p v) := by
  unfold State.setPort
  (try simp (maxDischargeDepth := 40) +contextual only [hs, hd_mk, hd_fold, hd_ite, ite_self, implies_true, ne_eq, not_false_eq_true])
  repeat' split
  all_goals first
    | (with_reducible exact hs)
    | (simp (maxDischargeDepth := 40) +contextual only [hs, hd_mk, hd_fold, hd_ite, ite_self, implies_true, ne_eq, not_false_eq_true]; done)

theorem kp_modPort {κ ν : Nat} (hq : Quiet kw_none κ ν) (p : Port) (f : PortState → PortState) {s : State} (hs : Holds κ ν s) : Holds κ ν
        (State.modPort s p f) := by
  unfold State.modPort
  simp (maxDischargeDepth := 40) +contextual only [hs, hd_mk, hd_fold, hd_ite, ite_self, implies_true, kp_setPort (hq.mono rfl), ne_eq,
        not_false_eq_true]

theorem kp_setGroup {κ ν : Nat} (hq : Quiet kw_none κ ν) (g : Nat) (v : Group) {s : State} (hs : Holds κ ν s) : Holds κ ν (State.setGroup s
        g v) := by
  unfold State.setGroup
  simp (maxDischargeDepth := 40) +contextual only [hs, hd_mk, hd_fold, hd_ite, ite_self, implies_true, ne_eq, not_false_eq_true]

theorem kp_setChannel {κ ν : Nat} (hq : Quiet kw_none κ ν) (k : Nat) (c : DmaChannel) {s : State} (hs : Holds κ ν s) : Holds κ ν
        (State.setChannel s k c) := by
  unfold State.setChannel
  simp (maxDischargeDepth := 40) +contextual only [hs, hd_mk, hd_fold, hd_ite, ite_self, implies_true, ne_eq, not_false_eq_true]

theorem kp_setUnit {κ ν : Nat} (hq : Quiet kw_none κ ν) (u : Nat) (r : UnitRec) {s : State} (hs : Holds κ ν s) : Holds κ ν (State.setUnit s
        u r) := by
  unfold State.setUnit
  simp (maxDischargeDepth := 40) +contextual only [hs, hd_mk, hd_fold, hd_ite, ite_self, implies_true, ne_eq, not_false_eq_true]

theorem kp_setStripe {κ ν : Nat} (hq : Quiet kw_none κ ν) (n : Nat) (r : StripeRec) {s : State} (hs : Holds κ ν s) : Holds κ ν
        (State.setStripe s n r) := by
  unfold State.setStripe
  simp (maxDischargeDepth := 40) +contextual only [hs, hd_mk, hd_fold, hd_ite, ite_self, implies_true, ne_eq, not_false_eq_true]

theorem kp_endOverruns {κ ν : Nat} (hq : Quiet kw_none κ ν) {s : State} (hs : Holds κ ν s) : Holds κ ν (endOverruns s) := by
  unfold endOverruns
  simp (maxDischargeDepth := 40) +contextual only [hs, hd_mk, hd_fold, hd_ite, ite_self, implies_true, ne_eq, not_false_eq_true]

theorem kp_rearmStall {κ ν : Nat} (hq : Quiet kw_none κ ν) {s : State} (hs : Holds κ ν s) : Holds κ ν (rearmStall s) := by
  unfold rearmStall
  simp (maxDischargeDepth := 40) +contextual only [hs, hd_mk, hd_fold, hd_ite, ite_self, implies_true, ne_eq, not_false_eq_true]

theorem kp_touchIntegrity {κ ν : Nat} (hq : Quiet kw_none κ ν) (obj : IntegrityObject) {s : State} (hs : Holds κ ν s) : Holds κ ν
        (touchIntegrity obj s) := by
  unfold touchIntegrity
  simp (maxDischargeDepth := 40) +contextual only [hs, hd_mk, hd_fold, hd_ite, ite_self, implies_true, ne_eq, not_false_eq_true]

theorem kp_touchBlock {κ ν : Nat} (hq : Quiet kw_none κ ν) (page : Nat) {s : State} (hs : Holds κ ν s) : Holds κ ν (touchBlock page s) := by
  unfold touchBlock
  simp (maxDischargeDepth := 40) +contextual only [hs, hd_mk, hd_fold, hd_ite, ite_self, implies_true, kp_touchIntegrity (hq.mono rfl),
        hd_foldl, ne_eq, not_false_eq_true]

theorem kp_coverIntegrity {κ ν : Nat} (hq : Quiet kw_none κ ν) (obj : IntegrityObject) {s : State} (hs : Holds κ ν s) : Holds κ ν
        (coverIntegrity obj s) := by
  unfold coverIntegrity
  simp (maxDischargeDepth := 40) +contextual only [hs, hd_mk, hd_fold, hd_ite, ite_self, implies_true, ne_eq, not_false_eq_true]

theorem kp_cacheLine {κ ν : Nat} (hq : Quiet kw_none κ ν) (obj : IntegrityObject) {s : State} (hs : Holds κ ν s) : Holds κ ν (cacheLine obj
        s) := by
  unfold cacheLine
  (try simp (maxDischargeDepth := 40) +contextual only [hs, hd_mk, hd_fold, hd_ite, ite_self, implies_true, kp_coverIntegrity (hq.mono rfl),
        hd_foldl, ne_eq, not_false_eq_true])
  repeat' split
  all_goals first
    | (with_reducible exact hs)
    | (simp (maxDischargeDepth := 40) +contextual only [hs, hd_mk, hd_fold, hd_ite, ite_self, implies_true, kp_coverIntegrity (hq.mono rfl),
        hd_foldl, ne_eq, not_false_eq_true]; done)

theorem kp_emit {κ ν : Nat} (hq : Quiet kw_none κ ν) (o : Out) {s : State} (hs : Holds κ ν s) : Holds κ ν (emit o s) := by
  unfold emit
  simp (maxDischargeDepth := 40) +contextual only [hs, hd_mk, hd_fold, hd_ite, ite_self, implies_true, ne_eq, not_false_eq_true]

theorem kp_drawn {κ ν : Nat} (hq : Quiet kw_none κ ν) {s : State} (hs : Holds κ ν s) : Holds κ ν (drawn s) := by
  unfold drawn
  simp (maxDischargeDepth := 40) +contextual only [hs, hd_mk, hd_fold, hd_ite, ite_self, implies_true, ne_eq, not_false_eq_true]

theorem kp_takeSeq {κ ν : Nat} (hq : Quiet kw_none κ ν) {s : State} (hs : Holds κ ν s) : Holds κ ν (takeSeq s) := by
  unfold takeSeq
  simp (maxDischargeDepth := 40) +contextual only [hs, hd_mk, hd_fold, hd_ite, ite_self, implies_true, ne_eq, not_false_eq_true]

theorem kp_sendMsi {κ ν : Nat} (hq : Quiet kw_none κ ν) (p : Port) (vector : Nat) {s : State} (hs : Holds κ ν s) : Holds κ ν (sendMsi p
        vector s) := by
  unfold sendMsi
  simp (maxDischargeDepth := 40) +contextual only [hs, hd_mk, hd_fold, hd_ite, ite_self, implies_true, kp_modPort (hq.mono rfl), kp_emit
        (hq.mono rfl), ne_eq, not_false_eq_true]

theorem kp_postRecord {κ ν : Nat} (hq : Quiet kw_none κ ν) (p : Port) (severity : Nat) (r : EventRecord) {s : State} (hs : Holds κ ν s) :
        Holds κ ν (postRecord p severity r s) := by
  unfold postRecord
  simp (maxDischargeDepth := 40) +contextual only [hs, hd_mk, hd_fold, hd_ite, ite_self, implies_true, kp_setPort (hq.mono rfl), kp_sendMsi
        (hq.mono rfl), ne_eq, not_false_eq_true]

def kw_beginEpisode : Writes := ⟨[0xA00106], []⟩
theorem kp_beginEpisode {κ ν : Nat} (hq : Quiet kw_beginEpisode κ ν) (kind : Nat) {s : State} (hs : Holds κ ν s) : Holds κ ν (beginEpisode
        kind s) := by
  have n0 : κ ≠ 0xA00106 := hq.ne rfl
  unfold beginEpisode
  (try simp (maxDischargeDepth := 40) +contextual only [hs, hd_mk, hd_fold, hd_ite, ite_self, implies_true, n0, hd_put, ne_eq,
        not_false_eq_true])
  repeat' split
  all_goals first
    | (with_reducible exact hs)
    | (simp (maxDischargeDepth := 40) +contextual only [hs, hd_mk, hd_fold, hd_ite, ite_self, implies_true, n0, hd_put, ne_eq, not_false_eq_true];
        done)

def kw_endEpisode : Writes := ⟨[0xA00106], []⟩
theorem kp_endEpisode {κ ν : Nat} (hq : Quiet kw_endEpisode κ ν) {s : State} (hs : Holds κ ν s) : Holds κ ν (endEpisode s) := by
  have n0 : κ ≠ 0xA00106 := hq.ne rfl
  unfold endEpisode
  simp (maxDischargeDepth := 40) +contextual only [hs, hd_mk, hd_fold, hd_ite, ite_self, implies_true, n0, hd_put, ne_eq, not_false_eq_true]

def kw_judgeEpisode : Writes := ⟨[0xA00106], []⟩
theorem kp_judgeEpisode {κ ν : Nat} (hq : Quiet kw_judgeEpisode κ ν) {s : State} (hs : Holds κ ν s) : Holds κ ν (judgeEpisode s) := by
  unfold judgeEpisode
  (try simp (maxDischargeDepth := 40) +contextual only [hs, hd_mk, hd_fold, hd_ite, ite_self, implies_true, kp_beginEpisode (hq.mono rfl),
        kp_endEpisode (hq.mono rfl), ne_eq, not_false_eq_true])
  repeat' split
  all_goals first
    | (with_reducible exact hs)
    | (simp (maxDischargeDepth := 40) +contextual only [hs, hd_mk, hd_fold, hd_ite, ite_self, implies_true, kp_beginEpisode (hq.mono rfl),
        kp_endEpisode (hq.mono rfl), ne_eq, not_false_eq_true]; done)

theorem kp_nameLines {κ ν : Nat} (hq : Quiet kw_none κ ν) (src : Nat) (ranges : List (Nat × Nat)) {s : State} (hs : Holds κ ν s) : Holds κ ν
        (nameLines src ranges s) := by
  unfold nameLines
  simp (maxDischargeDepth := 40) +contextual only [hs, hd_mk, hd_fold, hd_ite, ite_self, implies_true, ne_eq, not_false_eq_true]

def kw_setRegionState : Writes := ⟨[0x406008], [(0x410000, 0x414000, 0x0C)]⟩
theorem kp_setRegionState {κ ν : Nat} (hq : Quiet kw_setRegionState κ ν) (r v : Nat) {s : State} (hs : Holds κ ν s) : Holds κ ν
        (setRegionState r v s) := by
  have n0 : κ ≠ 0x406008 := hq.ne rfl
  have fregionKey : ∀ r : Nat, κ ≠ regionKey r 0x0C := fun r => hq.outside (lo := 0x410000) (hi := 0x414000) (sub := 0x0C) (by decide) (by unfold regionKey; omega) (by unfold regionKey; omega) (by unfold regionKey; omega)
  unfold setRegionState
  simp (maxDischargeDepth := 40) +contextual only [hs, hd_mk, hd_fold, hd_ite, ite_self, implies_true, n0, fregionKey, hd_put, hd_raise hq,
        ne_eq, not_false_eq_true]

def kw_setMode : Writes := ⟨[0xA00106, 0xD00101, 0xD00102], []⟩
theorem kp_setMode {κ ν : Nat} (hq : Quiet kw_setMode κ ν) (m : Nat) {s : State} (hs : Holds κ ν s) : Holds κ ν (setMode m s) := by
  have n0 : κ ≠ 0xD00101 := hq.ne rfl
  have n1 : κ ≠ 0xD00102 := hq.ne rfl
  unfold setMode
  simp (maxDischargeDepth := 40) +contextual only [hs, hd_mk, hd_fold, hd_ite, ite_self, implies_true, n0, n1, hd_put, kp_judgeEpisode
        (hq.mono rfl), hd_raise hq, ne_eq, not_false_eq_true]

def kw_refusedByState : Writes := ⟨[0xD00105], []⟩
theorem kp_refusedByState {κ ν : Nat} (hq : Quiet kw_refusedByState κ ν) {s : State} (hs : Holds κ ν s) : Holds κ ν (refusedByState s) := by
  have n0 : κ ≠ 0xD00105 := hq.ne rfl
  unfold refusedByState
  simp (maxDischargeDepth := 40) +contextual only [hs, hd_mk, hd_fold, hd_ite, ite_self, implies_true, n0, hd_bump, ne_eq, not_false_eq_true]

theorem kp_pruneRanges {κ ν : Nat} (hq : Quiet kw_none κ ν) (line : Nat) {s : State} (hs : Holds κ ν s) : Holds κ ν (pruneRanges line s) :=
        by
  unfold pruneRanges
  simp (maxDischargeDepth := 40) +contextual only [hs, hd_mk, hd_fold, hd_ite, ite_self, implies_true, ne_eq, not_false_eq_true]

theorem kp_dropCachedBlocks {κ ν : Nat} (hq : Quiet kw_none κ ν) (first n : Nat) {s : State} (hs : Holds κ ν s) : Holds κ ν
        (dropCachedBlocks first n s) := by
  unfold dropCachedBlocks
  simp (maxDischargeDepth := 40) +contextual only [hs, hd_mk, hd_fold, hd_ite, ite_self, implies_true, ne_eq, not_false_eq_true]

theorem kp_dropCachedRange {κ ν : Nat} (hq : Quiet kw_none κ ν) (first n : Nat) {s : State} (hs : Holds κ ν s) : Holds κ ν (dropCachedRange
        first n s) := by
  unfold dropCachedRange
  simp (maxDischargeDepth := 40) +contextual only [hs, hd_mk, hd_fold, hd_ite, ite_self, implies_true, hd_foldl, ne_eq, not_false_eq_true]

theorem kp_dropCached {κ ν : Nat} (hq : Quiet kw_none κ ν) (line : Nat) {s : State} (hs : Holds κ ν s) : Holds κ ν (dropCached line s) := by
  unfold dropCached
  simp (maxDischargeDepth := 40) +contextual only [hs, hd_mk, hd_fold, hd_ite, ite_self, implies_true, ne_eq, not_false_eq_true]

theorem kp_storeToCaches {κ ν : Nat} (hq : Quiet kw_none κ ν) (wmode line : Nat) (d : Line) (poison : Bool) {s : State} (hs : Holds κ ν s) :
        Holds κ ν (storeToCaches wmode line d poison s) := by
  unfold storeToCaches
  simp (maxDischargeDepth := 40) +contextual only [hs, hd_mk, hd_fold, hd_ite, ite_self, implies_true, kp_dropCached (hq.mono rfl), ne_eq,
        not_false_eq_true]

theorem kp_installTwo {κ ν : Nat} (hq : Quiet kw_none κ ν) (n : CacheBlock) {s : State} (hs : Holds κ ν s) : Holds κ ν (installTwo n s) :=
        by
  unfold installTwo
  (try simp (maxDischargeDepth := 40) +contextual only [hs, hd_mk, hd_fold, hd_ite, ite_self, implies_true, ne_eq, not_false_eq_true])
  repeat' split
  all_goals first
    | (with_reducible exact hs)
    | (simp (maxDischargeDepth := 40) +contextual only [hs, hd_mk, hd_fold, hd_ite, ite_self, implies_true, ne_eq, not_false_eq_true]; done)

def kw_offerVictim : Writes := ⟨[0x407005, 0x407006], []⟩
theorem kp_offerVictim {κ ν : Nat} (hq : Quiet kw_offerVictim κ ν) (v : CacheBlock) {s : State} (hs : Holds κ ν s) : Holds κ ν (offerVictim
        v s) := by
  have n0 : κ ≠ 0x407005 := hq.ne rfl
  have n1 : κ ≠ 0x407006 := hq.ne rfl
  unfold offerVictim
  simp (maxDischargeDepth := 40) +contextual only [hs, hd_mk, hd_fold, hd_ite, ite_self, implies_true, n0, n1, hd_bump, kp_drawn (hq.mono
        rfl), kp_installTwo (hq.mono rfl), ne_eq, not_false_eq_true]

def kw_installOne : Writes := ⟨[0x407005, 0x407006], []⟩
theorem kp_installOne {κ ν : Nat} (hq : Quiet kw_installOne κ ν) (n : CacheBlock) {s : State} (hs : Holds κ ν s) : Holds κ ν (installOne n
        s) := by
  unfold installOne
  (try simp (maxDischargeDepth := 40) +contextual only [hs, hd_mk, hd_fold, hd_ite, ite_self, implies_true, kp_offerVictim (hq.mono rfl),
        ne_eq, not_false_eq_true])
  repeat' split
  all_goals first
    | (with_reducible exact hs)
    | (simp (maxDischargeDepth := 40) +contextual only [hs, hd_mk, hd_fold, hd_ite, ite_self, implies_true, kp_offerVictim (hq.mono rfl), ne_eq,
        not_false_eq_true]; done)

def kw_installFill : Writes := ⟨[0x407005, 0x407006], []⟩
theorem kp_installFill {κ ν : Nat} (hq : Quiet kw_installFill κ ν) (attr : Nat) (n : CacheBlock) {s : State} (hs : Holds κ ν s) : Holds κ ν
        (installFill attr n s) := by
  unfold installFill
  simp (maxDischargeDepth := 40) +contextual only [hs, hd_mk, hd_fold, hd_ite, ite_self, implies_true, kp_installOne (hq.mono rfl),
        kp_installTwo (hq.mono rfl), ne_eq, not_false_eq_true]

theorem kp_noteHealth {κ ν : Nat} (hq : Quiet kw_none κ ν) {s : State} (hs : Holds κ ν s) : Holds κ ν (noteHealth s) := by
  unfold noteHealth
  simp (maxDischargeDepth := 40) +contextual only [hs, hd_mk, hd_fold, hd_ite, ite_self, implies_true, hd_raise hq, ne_eq, not_false_eq_true]

theorem kp_appendRecord {κ ν : Nat} (hq : Quiet kw_none κ ν) (k : JournalKind) {s : State} (hs : Holds κ ν s) : Holds κ ν (appendRecord k s)
        := by
  unfold appendRecord
  simp (maxDischargeDepth := 40) +contextual only [hs, hd_mk, hd_fold, hd_ite, ite_self, implies_true, hd_takeStamp hq, ne_eq,
        not_false_eq_true]

theorem kp_restoreUnits {κ ν : Nat} (hq : Quiet kw_none κ ν) {s : State} (hs : Holds κ ν s) : Holds κ ν (restoreUnits s) := by
  unfold restoreUnits
  simp (maxDischargeDepth := 40) +contextual only [hs, hd_mk, hd_fold, hd_ite, ite_self, implies_true, kp_setUnit (hq.mono rfl), hd_foldl,
        ne_eq, not_false_eq_true]

theorem kp_disturb {κ ν : Nat} (hq : Quiet kw_none κ ν) (u n : Nat) {s : State} (hs : Holds κ ν s) : Holds κ ν (disturb u n s) := by
  unfold disturb
  simp (maxDischargeDepth := 40) +contextual only [hs, hd_mk, hd_fold, hd_ite, ite_self, implies_true, kp_setUnit (hq.mono rfl), ne_eq,
        not_false_eq_true]

theorem kp_addCycles {κ ν : Nat} (hq : Quiet kw_none κ ν) (u n : Nat) {s : State} (hs : Holds κ ν s) : Holds κ ν (addCycles u n s) := by
  unfold addCycles
  simp (maxDischargeDepth := 40) +contextual only [hs, hd_mk, hd_fold, hd_ite, ite_self, implies_true, kp_setUnit (hq.mono rfl), ne_eq,
        not_false_eq_true]

def kw_wearOut : Writes := ⟨[0x619004], [(0x620000, 0x624000, 256)]⟩
theorem kp_wearOut {κ ν : Nat} (hq : Quiet kw_wearOut κ ν) (u : Nat) {s : State} (hs : Holds κ ν s) : Holds κ ν (wearOut u s) := by
  have n0 : κ ≠ 0x619004 := hq.ne rfl
  have fdieKey0x02 : ∀ d : Nat, κ ≠ dieKey d 0x02 := fun d => hq.outside (lo := 0x620000) (hi := 0x624000) (sub := 256) (by decide) (by unfold dieKey; omega) (by unfold dieKey; omega) (by unfold dieKey; omega)
  unfold wearOut
  simp (maxDischargeDepth := 40) +contextual only [hs, hd_mk, hd_fold, hd_ite, ite_self, implies_true, n0, fdieKey0x02, hd_bump, kp_setUnit
        (hq.mono rfl), kp_appendRecord (hq.mono rfl), kp_noteHealth (hq.mono rfl), hd_raise hq, ne_eq, not_false_eq_true]

def kw_sectorsProgrammed : Writes := ⟨[0x619004], [(0x620000, 0x624000, 256)]⟩
theorem kp_sectorsProgrammed {κ ν : Nat} (hq : Quiet kw_sectorsProgrammed κ ν) (u n page : Nat) {s : State} (hs : Holds κ ν s) : Holds κ ν
        (sectorsProgrammed u n page s) := by
  unfold sectorsProgrammed
  simp (maxDischargeDepth := 40) +contextual only [hs, hd_mk, hd_fold, hd_ite, ite_self, implies_true, kp_setUnit (hq.mono rfl), kp_addCycles
        (hq.mono rfl), hd_count hq, kp_disturb (hq.mono rfl), kp_wearOut (hq.mono rfl), ne_eq, not_false_eq_true]

def kw_programsRun : Writes := ⟨[0x611003], [(0x612000, 0x613000, 256)]⟩
theorem kp_programsRun {κ ν : Nat} (hq : Quiet kw_programsRun κ ν) (kind : OpKind) (u n bytes : Nat) {s : State} (hs : Holds κ ν s) : Holds
        κ ν (programsRun kind u n bytes s) := by
  have n0 : κ ≠ 0x611003 := hq.ne rfl
  have fchannelKey0x01 : ∀ c : Nat, κ ≠ channelKey c 0x01 := fun c => hq.outside (lo := 0x612000) (hi := 0x613000) (sub := 256) (by decide) (by unfold channelKey; omega) (by unfold channelKey; omega) (by unfold channelKey; omega)
  have fchannelKey0x03 : ∀ c : Nat, κ ≠ channelKey c 0x03 := fun c => hq.outside (lo := 0x612000) (hi := 0x613000) (sub := 256) (by decide) (by unfold channelKey; omega) (by unfold channelKey; omega) (by unfold channelKey; omega)
  unfold programsRun
  simp (maxDischargeDepth := 40) +contextual only [hs, hd_mk, hd_fold, hd_ite, ite_self, implies_true, n0, fchannelKey0x01, fchannelKey0x03,
        hd_addTo, hd_raiseTo, hd_count hq, ne_eq, not_false_eq_true]

def kw_ringSectorsOn : Writes := ⟨[0x611003, 0x619004], [(0x612000, 0x613000, 256), (0x620000, 0x624000, 256)]⟩
theorem kp_ringSectorsOn {κ ν : Nat} (hq : Quiet kw_ringSectorsOn κ ν) (u n page : Nat) {s : State} (hs : Holds κ ν s) : Holds κ ν
        (ringSectorsOn u n page s) := by
  unfold ringSectorsOn
  simp (maxDischargeDepth := 40) +contextual only [hs, hd_mk, hd_fold, hd_ite, ite_self, implies_true, kp_programsRun (hq.mono rfl),
        kp_sectorsProgrammed (hq.mono rfl), ne_eq, not_false_eq_true]

def kw_stripeSectors : Writes := ⟨[0x611003, 0x619004], [(0x612000, 0x613000, 256), (0x620000, 0x624000, 256)]⟩
theorem kp_stripeSectors {κ ν : Nat} (hq : Quiet kw_stripeSectors κ ν) (r : Ring) (stripe row n : Nat) {s : State} (hs : Holds κ ν s) :
        Holds κ ν (stripeSectors r stripe row n s) := by
  unfold stripeSectors
  simp (maxDischargeDepth := 40) +contextual only [hs, hd_mk, hd_fold, hd_ite, ite_self, implies_true, kp_ringSectorsOn (hq.mono rfl),
        hd_foldl, ne_eq, not_false_eq_true]

def kw_ringSectors : Writes := ⟨[0x611003, 0x619004], [(0x612000, 0x613000, 256), (0x620000, 0x624000, 256)]⟩
theorem kp_ringSectors {κ ν : Nat} (hq : Quiet kw_ringSectors κ ν) (r : Ring) (k row n : Nat) {s : State} (hs : Holds κ ν s) : Holds κ ν (ringSectors r k row n s) := by
  induction k generalizing row n s with
  | zero => exact hs
  | succ k ih => exact hd_cond hs (ih _ _ (kp_stripeSectors (hq.mono rfl) _ _ _ _ hs))

def kw_ringProgram : Writes := ⟨[0x611003, 0x619004], [(0x612000, 0x613000, 256), (0x620000, 0x624000, 256)]⟩
theorem kp_ringProgram {κ ν : Nat} (hq : Quiet kw_ringProgram κ ν) (r : Ring) (row n : Nat) {s : State} (hs : Holds κ ν s) : Holds κ ν
        (ringProgram r row n s) := by
  unfold ringProgram
  simp (maxDischargeDepth := 40) +contextual only [hs, hd_mk, hd_fold, hd_ite, ite_self, implies_true, kp_ringSectors (hq.mono rfl), ne_eq,
        not_false_eq_true]

def kw_checkpointSectors : Writes := ⟨[0x611003, 0x619004], [(0x612000, 0x613000, 256), (0x620000, 0x624000, 256)]⟩
theorem kp_checkpointSectors {κ ν : Nat} (hq : Quiet kw_checkpointSectors κ ν) (n : Nat) {s : State} (hs : Holds κ ν s) : Holds κ ν
        (checkpointSectors n s) := by
  unfold checkpointSectors
  simp (maxDischargeDepth := 40) +contextual only [hs, hd_mk, hd_fold, hd_ite, ite_self, implies_true, kp_ringProgram (hq.mono rfl), ne_eq,
        not_false_eq_true]

theorem kp_dirtySegment {κ ν : Nat} (hq : Quiet kw_none κ ν) (seg : Nat) {s : State} (hs : Holds κ ν s) : Holds κ ν (dirtySegment seg s) :=
        by
  unfold dirtySegment
  (try simp (maxDischargeDepth := 40) +contextual only [hs, hd_mk, hd_fold, hd_ite, ite_self, implies_true, ne_eq, not_false_eq_true])
  repeat' split
  all_goals first
    | (with_reducible exact hs)
    | (simp (maxDischargeDepth := 40) +contextual only [hs, hd_mk, hd_fold, hd_ite, ite_self, implies_true, ne_eq, not_false_eq_true]; done)

theorem kp_dirtyPages {κ ν : Nat} (hq : Quiet kw_none κ ν) (first n : Nat) {s : State} (hs : Holds κ ν s) : Holds κ ν (dirtyPages first n s)
        := by
  unfold dirtyPages
  simp (maxDischargeDepth := 40) +contextual only [hs, hd_mk, hd_fold, hd_ite, ite_self, implies_true, kp_dirtySegment (hq.mono rfl),
        hd_foldl, ne_eq, not_false_eq_true]

theorem kp_putEntry {κ ν : Nat} (hq : Quiet kw_none κ ν) (k : IntegrityKind) {s : State} (hs : Holds κ ν s) : Holds κ ν (putEntry k s) := by
  unfold putEntry
  simp (maxDischargeDepth := 40) +contextual only [hs, hd_mk, hd_fold, hd_ite, ite_self, implies_true, ne_eq, not_false_eq_true]

def kw_journalSectors : Writes := ⟨[0x611003, 0x619004], [(0x612000, 0x613000, 256), (0x620000, 0x624000, 256)]⟩
theorem kp_journalSectors {κ ν : Nat} (hq : Quiet kw_journalSectors κ ν) (n : Nat) {s : State} (hs : Holds κ ν s) : Holds κ ν
        (journalSectors n s) := by
  unfold journalSectors
  simp (maxDischargeDepth := 40) +contextual only [hs, hd_mk, hd_fold, hd_ite, ite_self, implies_true, kp_ringProgram (hq.mono rfl), ne_eq,
        not_false_eq_true]

theorem kp_coverJournal {κ ν : Nat} (hq : Quiet kw_none κ ν) {s : State} (hs : Holds κ ν s) : Holds κ ν (coverJournal s) := by
  unfold coverJournal
  simp (maxDischargeDepth := 40) +contextual only [hs, hd_mk, hd_fold, hd_ite, ite_self, implies_true, kp_putEntry (hq.mono rfl), ne_eq,
        not_false_eq_true]

def kw_programSector : Writes := ⟨[0x611003, 0x619004], [(0x612000, 0x613000, 256), (0x620000, 0x624000, 256)]⟩
theorem kp_programSector {κ ν : Nat} (hq : Quiet kw_programSector κ ν) {s : State} (hs : Holds κ ν s) : Holds κ ν (programSector s) := by
  unfold programSector
  simp (maxDischargeDepth := 40) +contextual only [hs, hd_mk, hd_fold, hd_ite, ite_self, implies_true, kp_journalSectors (hq.mono rfl), ne_eq,
        not_false_eq_true]

def kw_programEntries : Writes := ⟨[0x611003, 0x619004], [(0x612000, 0x613000, 256), (0x620000, 0x624000, 256)]⟩
theorem kp_programEntries {κ ν : Nat} (hq : Quiet kw_programEntries κ ν) {s : State} (hs : Holds κ ν s) : Holds κ ν (programEntries s) := by
  unfold programEntries
  simp (maxDischargeDepth := 40) +contextual only [hs, hd_mk, hd_fold, hd_ite, ite_self, implies_true, kp_coverJournal (hq.mono rfl),
        kp_programSector (hq.mono rfl), hd_foldl, ne_eq, not_false_eq_true]

def kw_programJournal : Writes := ⟨[0x611003, 0x619004], [(0x612000, 0x613000, 256), (0x620000, 0x624000, 256)]⟩
theorem kp_programJournal {κ ν : Nat} (hq : Quiet kw_programJournal κ ν) {s : State} (hs : Holds κ ν s) : Holds κ ν (programJournal s) := by
  unfold programJournal
  simp (maxDischargeDepth := 40) +contextual only [hs, hd_mk, hd_fold, hd_ite, ite_self, implies_true, kp_journalSectors (hq.mono rfl), ne_eq,
        not_false_eq_true]

def kw_programTail : Writes := ⟨[0x611003, 0x619004], [(0x612000, 0x613000, 256), (0x620000, 0x624000, 256)]⟩
theorem kp_programTail {κ ν : Nat} (hq : Quiet kw_programTail κ ν) {s : State} (hs : Holds κ ν s) : Holds κ ν (programTail s) := by
  unfold programTail
  simp (maxDischargeDepth := 40) +contextual only [hs, hd_mk, hd_fold, hd_ite, ite_self, implies_true, kp_programEntries (hq.mono rfl),
        kp_programJournal (hq.mono rfl), ne_eq, not_false_eq_true]

def kw_journalPut : Writes := ⟨[0x611003, 0x619004], [(0x612000, 0x613000, 256), (0x620000, 0x624000, 256)]⟩
theorem kp_journalPut {κ ν : Nat} (hq : Quiet kw_journalPut κ ν) (k : JournalKind) {s : State} (hs : Holds κ ν s) : Holds κ ν (journalPut k
        s) := by
  unfold journalPut
  simp (maxDischargeDepth := 40) +contextual only [hs, hd_mk, hd_fold, hd_ite, ite_self, implies_true, kp_appendRecord (hq.mono rfl),
        kp_programTail (hq.mono rfl), ne_eq, not_false_eq_true]

theorem kp_linesOnMedium {κ ν : Nat} (hq : Quiet kw_none κ ν) (lines : List (Nat × Nat)) {s : State} (hs : Holds κ ν s) : Holds κ ν
        (linesOnMedium lines s) := by
  unfold linesOnMedium
  simp (maxDischargeDepth := 40) +contextual only [hs, hd_mk, hd_fold, hd_ite, ite_self, implies_true, ne_eq, not_false_eq_true]

theorem kp_grantCredits {κ ν : Nat} (hq : Quiet kw_none κ ν) (p : Port) {s : State} (hs : Holds κ ν s) : Holds κ ν (grantCredits p s) := by
  unfold grantCredits
  simp (maxDischargeDepth := 40) +contextual only [hs, hd_mk, hd_fold, hd_ite, ite_self, implies_true, kp_modPort (hq.mono rfl), ne_eq,
        not_false_eq_true]

theorem kp_useCredit {κ ν : Nat} (hq : Quiet kw_none κ ν) (p : Port) {s : State} (hs : Holds κ ν s) : Holds κ ν (useCredit p s) := by
  unfold useCredit
  simp (maxDischargeDepth := 40) +contextual only [hs, hd_mk, hd_fold, hd_ite, ite_self, implies_true, kp_modPort (hq.mono rfl),
        kp_grantCredits (hq.mono rfl), ne_eq, not_false_eq_true]

theorem kp_sendData {κ ν : Nat} (hq : Quiet kw_none κ ν) (p : Port) (tag : Nat) (d : Line) (poison : Bool) {s : State} (hs : Holds κ ν s) :
        Holds κ ν (sendData p tag d poison s) := by
  unfold sendData
  simp (maxDischargeDepth := 40) +contextual only [hs, hd_mk, hd_fold, hd_ite, ite_self, implies_true, kp_modPort (hq.mono rfl), hd_count hq,
        hd_count1 hq, kp_emit (hq.mono rfl), ne_eq, not_false_eq_true]

theorem kp_countWrite {κ ν : Nat} (hq : Quiet kw_none κ ν) (p : Port) {s : State} (hs : Holds κ ν s) : Holds κ ν (countWrite p s) := by
  unfold countWrite
  simp (maxDischargeDepth := 40) +contextual only [hs, hd_mk, hd_fold, hd_ite, ite_self, implies_true, kp_modPort (hq.mono rfl), hd_count hq,
        ne_eq, not_false_eq_true]

def kw_countEligible : Writes := ⟨[0xB03005], []⟩
theorem kp_countEligible {κ ν : Nat} (hq : Quiet kw_countEligible κ ν) (p : Port) (kindBit : Nat) {s : State} (hs : Holds κ ν s) : Holds κ ν
        (countEligible p kindBit s) := by
  have n0 : κ ≠ 0xB03005 := hq.ne rfl
  unfold countEligible
  simp (maxDischargeDepth := 40) +contextual only [hs, hd_mk, hd_fold, hd_ite, ite_self, implies_true, n0, hd_bump, kp_drawn (hq.mono rfl),
        ne_eq, not_false_eq_true]

def kw_placeSample : Writes := ⟨[0xB03004, 0xB04003], []⟩
theorem kp_placeSample {κ ν : Nat} (hq : Quiet kw_placeSample κ ν) (r : SampleRecord) {s : State} (hs : Holds κ ν s) : Holds κ ν
        (placeSample r s) := by
  have n0 : κ ≠ 0xB03004 := hq.ne rfl
  have n1 : κ ≠ 0xB04003 := hq.ne rfl
  unfold placeSample
  simp (maxDischargeDepth := 40) +contextual only [hs, hd_mk, hd_fold, hd_ite, ite_self, implies_true, n0, n1, hd_bump, hd_raise hq, ne_eq,
        not_false_eq_true]

def kw_sampleWindow : Writes := ⟨[0xB03004, 0xB04003], []⟩
theorem kp_sampleWindow {κ ν : Nat} (hq : Quiet kw_sampleWindow κ ν) (p : Port) (opcode line : Nat) (sampled : Bool) {s : State} (hs : Holds
        κ ν s) : Holds κ ν (sampleWindow p opcode line sampled s) := by
  unfold sampleWindow
  simp (maxDischargeDepth := 40) +contextual only [hs, hd_mk, hd_fold, hd_ite, ite_self, implies_true, kp_placeSample (hq.mono rfl),
        hd_takeStamp hq, ne_eq, not_false_eq_true]

def kw_answerBarrier : Writes := ⟨[0x302005, 0x302006, 0xB03004, 0xB04003], []⟩
theorem kp_answerBarrier {κ ν : Nat} (hq : Quiet kw_answerBarrier κ ν) (p : Port) (b : BarrierRead) {s : State} (hs : Holds κ ν s) : Holds κ
        ν (answerBarrier p b s) := by
  have n0 : κ ≠ 0x302005 := hq.ne rfl
  have n1 : κ ≠ 0x302006 := hq.ne rfl
  have c302005 : ∀ p : Port, κ ≠ 0x302005 + p.code := by intro p; cases p <;> first | exact n0 | exact n1
  unfold answerBarrier
  simp (maxDischargeDepth := 40) +contextual only [hs, hd_mk, hd_fold, hd_ite, ite_self, implies_true, n0, n1, c302005, hd_raiseTo,
        kp_sampleWindow (hq.mono rfl), kp_sendData (hq.mono rfl), ne_eq, not_false_eq_true]

def kw_releaseBarriers : Writes := ⟨[0x302005, 0x302006, 0xB03004, 0xB04003], []⟩
theorem kp_releaseBarriers {κ ν : Nat} (hq : Quiet kw_releaseBarriers κ ν) (p : Port) (tag : Nat) {s : State} (hs : Holds κ ν s) : Holds κ ν
        (releaseBarriers p tag s) := by
  unfold releaseBarriers
  simp (maxDischargeDepth := 40) +contextual only [hs, hd_mk, hd_fold, hd_ite, ite_self, implies_true, kp_modPort (hq.mono rfl),
        kp_answerBarrier (hq.mono rfl), hd_foldl, ne_eq, not_false_eq_true]

def kw_sendCmp : Writes := ⟨[0x302005, 0x302006, 0xB03004, 0xB04003], []⟩
theorem kp_sendCmp {κ ν : Nat} (hq : Quiet kw_sendCmp κ ν) (p : Port) (tag : Nat) {s : State} (hs : Holds κ ν s) : Holds κ ν (sendCmp p tag
        s) := by
  unfold sendCmp
  simp (maxDischargeDepth := 40) +contextual only [hs, hd_mk, hd_fold, hd_ite, ite_self, implies_true, kp_emit (hq.mono rfl),
        kp_releaseBarriers (hq.mono rfl), ne_eq, not_false_eq_true]

def kw_sendCmps : Writes := ⟨[0x302005, 0x302006, 0xB03004, 0xB04003], []⟩
theorem kp_sendCmps {κ ν : Nat} (hq : Quiet kw_sendCmps κ ν) (l : List (Port × Nat)) {s : State} (hs : Holds κ ν s) : Holds κ ν (sendCmps l
        s) := by
  unfold sendCmps
  simp (maxDischargeDepth := 40) +contextual only [hs, hd_mk, hd_fold, hd_ite, ite_self, implies_true, kp_sendCmp (hq.mono rfl), hd_foldl,
        ne_eq, not_false_eq_true]

theorem kp_raiseTimes {κ ν : Nat} (hq : Quiet kw_none κ ν) (n src : Nat) {s : State} (hs : Holds κ ν s) : Holds κ ν (raiseTimes n src s) := by
  induction n generalizing s with
  | zero => exact hs
  | succ n ih => exact ih (hd_raise hq _ hs)

def kw_dropStores : Writes := ⟨[0x302001, 0x302002], []⟩
theorem kp_dropStores {κ ν : Nat} (hq : Quiet kw_dropStores κ ν) (p : Port) (bit n : Nat) {s : State} (hs : Holds κ ν s) : Holds κ ν
        (dropStores p bit n s) := by
  have n0 : κ ≠ 0x302001 := hq.ne rfl
  have n1 : κ ≠ 0x302002 := hq.ne rfl
  have c302001 : ∀ p : Port, κ ≠ 0x302001 + p.code := by intro p; cases p <;> first | exact n0 | exact n1
  unfold dropStores
  simp (maxDischargeDepth := 40) +contextual only [hs, hd_mk, hd_fold, hd_ite, ite_self, implies_true, n0, n1, c302001, hd_addTo, kp_modPort
        (hq.mono rfl), kp_raiseTimes (hq.mono rfl), ne_eq, not_false_eq_true]

def kw_stray : Writes := ⟨[0x301008, 0x301108], []⟩
theorem kp_stray {κ ν : Nat} (hq : Quiet kw_stray κ ν) (p : Port) {s : State} (hs : Holds κ ν s) : Holds κ ν (stray p s) := by
  have n0 : κ ≠ 0x301008 := hq.ne rfl
  have n1 : κ ≠ 0x301108 := hq.ne rfl
  have p8 : ∀ p : Port, κ ≠ p.key 0x08 := by intro p; cases p <;> assumption
  unfold stray
  simp (maxDischargeDepth := 40) +contextual only [hs, hd_mk, hd_fold, hd_ite, ite_self, implies_true, n0, n1, p8, hd_bump, hd_raise hq,
        ne_eq, not_false_eq_true]

def kw_strayIf : Writes := ⟨[0x301008, 0x301108], []⟩
theorem kp_strayIf {κ ν : Nat} (hq : Quiet kw_strayIf κ ν) (c : Bool) (p : Port) {s : State} (hs : Holds κ ν s) : Holds κ ν (strayIf c p s)
        := by
  unfold strayIf
  simp (maxDischargeDepth := 40) +contextual only [hs, hd_mk, hd_fold, hd_ite, ite_self, implies_true, kp_stray (hq.mono rfl), ne_eq,
        not_false_eq_true]

def kw_discardRange : Writes := ⟨[0x302005, 0x302006, 0x611003, 0x619004, 0xB03004, 0xB04003], [(0x612000, 0x613000, 256), (0x620000,
        0x624000, 256)]⟩
theorem kp_discardRange {κ ν : Nat} (hq : Quiet kw_discardRange κ ν) (p : Port) (entry first n : Nat) {s : State} (hs : Holds κ ν s) : Holds
        κ ν (discardRange p entry first n s) := by
  unfold discardRange
  simp (maxDischargeDepth := 40) +contextual only [hs, hd_mk, hd_fold, hd_ite, ite_self, implies_true, kp_dirtyPages (hq.mono rfl),
        kp_dropCachedRange (hq.mono rfl), kp_journalPut (hq.mono rfl), kp_rearmStall (hq.mono rfl), kp_sendCmps (hq.mono rfl), ne_eq,
        not_false_eq_true]

theorem kp_unmap {κ ν : Nat} (hq : Quiet kw_none κ ν) (entry : Nat) {s : State} (hs : Holds κ ν s) : Holds κ ν (unmap entry s) := by
  unfold unmap
  (try simp (maxDischargeDepth := 40) +contextual only [hs, hd_mk, hd_fold, hd_ite, ite_self, implies_true, ne_eq, not_false_eq_true])
  repeat' split
  all_goals first
    | (with_reducible exact hs)
    | (simp (maxDischargeDepth := 40) +contextual only [hs, hd_mk, hd_fold, hd_ite, ite_self, implies_true, ne_eq, not_false_eq_true]; done)

def kw_finishDiscard : Writes := ⟨[0x302005, 0x302006, 0x611003, 0x619004, 0xB03004, 0xB04003], [(0x612000, 0x613000, 256), (0x620000,
        0x624000, 256)]⟩
theorem kp_finishDiscard {κ ν : Nat} (hq : Quiet kw_finishDiscard κ ν) (p : Port) (entry : Nat) {s : State} (hs : Holds κ ν s) : Holds κ ν
        (finishDiscard p entry s) := by
  unfold finishDiscard
  simp (maxDischargeDepth := 40) +contextual only [hs, hd_mk, hd_fold, hd_ite, ite_self, implies_true, kp_modPort (hq.mono rfl),
        kp_discardRange (hq.mono rfl), ne_eq, not_false_eq_true]

def kw_runDiscard : Writes := ⟨[0x302005, 0x302006, 0x611003, 0x619004, 0xB03004, 0xB04003], [(0x612000, 0x613000, 256), (0x620000,
        0x624000, 256)]⟩
theorem kp_runDiscard {κ ν : Nat} (hq : Quiet kw_runDiscard κ ν) (p : Port) {s : State} (hs : Holds κ ν s) : Holds κ ν (runDiscard p s) :=
        by
  unfold runDiscard
  (try simp (maxDischargeDepth := 40) +contextual only [hs, hd_mk, hd_fold, hd_ite, ite_self, implies_true, kp_finishDiscard (hq.mono rfl),
        kp_unmap (hq.mono rfl), ne_eq, not_false_eq_true])
  repeat' split
  all_goals first
    | (with_reducible exact hs)
    | (simp (maxDischargeDepth := 40) +contextual only [hs, hd_mk, hd_fold, hd_ite, ite_self, implies_true, kp_finishDiscard (hq.mono rfl),
        kp_unmap (hq.mono rfl), ne_eq, not_false_eq_true]; done)

def kw_finishDiscards : Writes := ⟨[0x302005, 0x302006, 0x611003, 0x619004, 0xB03004, 0xB04003], [(0x612000, 0x613000, 256), (0x620000,
        0x624000, 256)]⟩
theorem kp_finishDiscards {κ ν : Nat} (hq : Quiet kw_finishDiscards κ ν) {s : State} (hs : Holds κ ν s) : Holds κ ν (finishDiscards s) := by
  unfold finishDiscards
  simp (maxDischargeDepth := 40) +contextual only [hs, hd_mk, hd_fold, hd_ite, ite_self, implies_true, kp_runDiscard (hq.mono rfl), ne_eq,
        not_false_eq_true]

theorem kp_takeBlocking {κ ν : Nat} (hq : Quiet kw_none κ ν) {s : State} (hs : Holds κ ν s) : Holds κ ν (takeBlocking s) := by
  unfold takeBlocking
  simp (maxDischargeDepth := 40) +contextual only [hs, hd_mk, hd_fold, hd_ite, ite_self, implies_true, ne_eq, not_false_eq_true]

theorem kp_startCommand {κ ν : Nat} (hq : Quiet kw_none κ ν) (g : Nat) (c : GroupCommand) {s : State} (hs : Holds κ ν s) : Holds κ ν
        (startCommand g c s) := by
  unfold startCommand
  simp (maxDischargeDepth := 40) +contextual only [hs, hd_mk, hd_fold, hd_ite, ite_self, implies_true, kp_setGroup (hq.mono rfl),
        kp_takeBlocking (hq.mono rfl), ne_eq, not_false_eq_true]

theorem kp_submitCommand {κ ν : Nat} (hq : Quiet kw_none κ ν) (g : Nat) (c : GroupCommand) {s : State} (hs : Holds κ ν s) : Holds κ ν
        (submitCommand g c s) := by
  unfold submitCommand
  (try simp (maxDischargeDepth := 40) +contextual only [hs, hd_mk, hd_fold, hd_ite, ite_self, implies_true, kp_setGroup (hq.mono rfl),
        kp_startCommand (hq.mono rfl), ne_eq, not_false_eq_true])
  repeat' split
  all_goals first
    | (with_reducible exact hs)
    | (simp (maxDischargeDepth := 40) +contextual only [hs, hd_mk, hd_fold, hd_ite, ite_self, implies_true, kp_setGroup (hq.mono rfl),
        kp_startCommand (hq.mono rfl), ne_eq, not_false_eq_true]; done)

def kw_discardProvisional : Writes := ⟨[0x302005, 0x302006, 0xB03004, 0xB04003], []⟩
theorem kp_discardProvisional {κ ν : Nat} (hq : Quiet kw_discardProvisional κ ν) (g : Nat) {s : State} (hs : Holds κ ν s) : Holds κ ν
        (discardProvisional g s) := by
  unfold discardProvisional
  simp (maxDischargeDepth := 40) +contextual only [hs, hd_mk, hd_fold, hd_ite, ite_self, implies_true, kp_rearmStall (hq.mono rfl),
        kp_sendCmps (hq.mono rfl), ne_eq, not_false_eq_true]

theorem kp_checkPool {κ ν : Nat} (hq : Quiet kw_none κ ν) {s : State} (hs : Holds κ ν s) : Holds κ ν (checkPool s) := by
  unfold checkPool
  simp (maxDischargeDepth := 40) +contextual only [hs, hd_mk, hd_fold, hd_ite, ite_self, implies_true, hd_raise hq, ne_eq, not_false_eq_true]

def kw_forceAbortNow : Writes := ⟨[0x302001, 0x302002, 0x302005, 0x302006, 0x502007, 0x611003, 0x619004, 0xB03004, 0xB04003], [(0x612000,
        0x613000, 256), (0x620000, 0x624000, 256)]⟩
theorem kp_forceAbortNow {κ ν : Nat} (hq : Quiet kw_forceAbortNow κ ν) (g cause : Nat) {s : State} (hs : Holds κ ν s) : Holds κ ν
        (forceAbortNow g cause s) := by
  have n0 : κ ≠ 0x502007 := hq.ne rfl
  unfold forceAbortNow
  simp (maxDischargeDepth := 40) +contextual only [hs, hd_mk, hd_fold, hd_ite, ite_self, implies_true, n0, hd_bump, kp_setGroup (hq.mono rfl),
        kp_checkPool (hq.mono rfl), kp_discardProvisional (hq.mono rfl), kp_dropStores (hq.mono rfl), kp_journalPut (hq.mono rfl), hd_raise
        hq, ne_eq, not_false_eq_true]

def kw_forceAbort : Writes := ⟨[0x302001, 0x302002, 0x302005, 0x302006, 0x502007, 0x611003, 0x619004, 0xB03004, 0xB04003], [(0x612000,
        0x613000, 256), (0x620000, 0x624000, 256)]⟩
theorem kp_forceAbort {κ ν : Nat} (hq : Quiet kw_forceAbort κ ν) (g cause : Nat) (detail : Nat) {s : State} (hs : Holds κ ν s) : Holds κ ν
        (forceAbort g cause detail s) := by
  unfold forceAbort
  (try simp (maxDischargeDepth := 40) +contextual only [hs, hd_mk, hd_fold, hd_ite, ite_self, implies_true, kp_setGroup (hq.mono rfl),
        kp_forceAbortNow (hq.mono rfl), ne_eq, not_false_eq_true])
  repeat' split
  all_goals first
    | (with_reducible exact hs)
    | (simp (maxDischargeDepth := 40) +contextual only [hs, hd_mk, hd_fold, hd_ite, ite_self, implies_true, kp_setGroup (hq.mono rfl),
        kp_forceAbortNow (hq.mono rfl), ne_eq, not_false_eq_true]; done)

theorem kp_commitLines {κ ν : Nat} (hq : Quiet kw_none κ ν) (g stamp : Nat) {s : State} (hs : Holds κ ν s) : Holds κ ν (commitLines g stamp
        s) := by
  unfold commitLines
  simp (maxDischargeDepth := 40) +contextual only [hs, hd_mk, hd_fold, hd_ite, ite_self, implies_true, kp_dirtySegment (hq.mono rfl),
        kp_dropCached (hq.mono rfl), kp_pruneRanges (hq.mono rfl), kp_rearmStall (hq.mono rfl), hd_foldl, ne_eq, not_false_eq_true]

def kw_decideCommit : Writes := ⟨[0x302005, 0x302006, 0x502004, 0x502006, 0x611003, 0x619004, 0xB03004, 0xB04003], [(0x612000, 0x613000,
        256), (0x620000, 0x624000, 256)]⟩
theorem kp_decideCommit {κ ν : Nat} (hq : Quiet kw_decideCommit κ ν) (g : Nat) {s : State} (hs : Holds κ ν s) : Holds κ ν (decideCommit g s)
        := by
  have n0 : κ ≠ 0x502004 := hq.ne rfl
  have n1 : κ ≠ 0x502006 := hq.ne rfl
  unfold decideCommit
  (try simp (maxDischargeDepth := 40) +contextual only [hs, hd_mk, hd_fold, hd_ite, ite_self, implies_true, n0, n1, hd_bump, kp_setGroup
        (hq.mono rfl), kp_checkPool (hq.mono rfl), kp_commitLines (hq.mono rfl), hd_count1 hq, kp_discardProvisional (hq.mono rfl),
        kp_journalPut (hq.mono rfl), hd_raise hq, kp_sendCmps (hq.mono rfl), ne_eq, not_false_eq_true])
  repeat' split
  all_goals first
    | (with_reducible exact hs)
    | (simp (maxDischargeDepth := 40) +contextual only [hs, hd_mk, hd_fold, hd_ite, ite_self, implies_true, n0, n1, hd_bump, kp_setGroup (hq.mono
        rfl), kp_checkPool (hq.mono rfl), kp_commitLines (hq.mono rfl), hd_count1 hq, kp_discardProvisional (hq.mono rfl), kp_journalPut
        (hq.mono rfl), hd_raise hq, kp_sendCmps (hq.mono rfl), ne_eq, not_false_eq_true]; done)

def kw_applyCommand : Writes := ⟨[0x302005, 0x302006, 0x502005, 0x611003, 0x619004, 0xB03004, 0xB04003], [(0x612000, 0x613000, 256),
        (0x620000, 0x624000, 256)]⟩
theorem kp_applyCommand {κ ν : Nat} (hq : Quiet kw_applyCommand κ ν) (g : Nat) (c : GroupCommand) {s : State} (hs : Holds κ ν s) : Holds κ ν
        (applyCommand g c s) := by
  have n0 : κ ≠ 0x502005 := hq.ne rfl
  unfold applyCommand
  simp (maxDischargeDepth := 40) +contextual only [hs, hd_mk, hd_fold, hd_ite, ite_self, implies_true, n0, hd_bump, kp_setGroup (hq.mono rfl),
        kp_checkPool (hq.mono rfl), kp_discardProvisional (hq.mono rfl), kp_journalPut (hq.mono rfl), kp_programTail (hq.mono rfl), ne_eq,
        not_false_eq_true]

theorem kp_wakeDiscard {κ ν : Nat} (hq : Quiet kw_none κ ν) (p : Port) {s : State} (hs : Holds κ ν s) : Holds κ ν (wakeDiscard p s) := by
  unfold wakeDiscard
  simp (maxDischargeDepth := 40) +contextual only [hs, hd_mk, hd_fold, hd_ite, ite_self, implies_true, kp_modPort (hq.mono rfl), ne_eq,
        not_false_eq_true]

def kw_answerReaders : Writes := ⟨[0xB03004, 0xB04003], []⟩
theorem kp_answerReaders {κ ν : Nat} (hq : Quiet kw_answerReaders κ ν) (g : Nat) {s : State} (hs : Holds κ ν s) : Holds κ ν (answerReaders g
        s) := by
  unfold answerReaders
  simp (maxDischargeDepth := 40) +contextual only [hs, hd_mk, hd_fold, hd_ite, ite_self, implies_true, kp_setGroup (hq.mono rfl),
        kp_sampleWindow (hq.mono rfl), kp_sendData (hq.mono rfl), hd_foldl, ne_eq, not_false_eq_true]

def kw_writeResult : Writes := ⟨[0x302001, 0x302002, 0x302005, 0x302006, 0x502007, 0x502009, 0x611003, 0x619004, 0xB03004, 0xB04003],
        [(0x612000, 0x613000, 256), (0x620000, 0x624000, 256)]⟩
theorem kp_writeResult {κ ν : Nat} (hq : Quiet kw_writeResult κ ν) (g : Nat) (c : GroupCommand) {s : State} (hs : Holds κ ν s) : Holds κ ν
        (writeResult g c s) := by
  have n0 : κ ≠ 0x502009 := hq.ne rfl
  unfold writeResult
  (try simp (maxDischargeDepth := 40) +contextual only [hs, hd_mk, hd_fold, hd_ite, ite_self, implies_true, n0, hd_raiseTo, kp_setGroup
        (hq.mono rfl), kp_forceAbortNow (hq.mono rfl), ne_eq, not_false_eq_true])
  repeat' split
  all_goals first
    | (with_reducible exact hs)
    | (simp (maxDischargeDepth := 40) +contextual only [hs, hd_mk, hd_fold, hd_ite, ite_self, implies_true, n0, hd_raiseTo, kp_setGroup (hq.mono
        rfl), kp_forceAbortNow (hq.mono rfl), ne_eq, not_false_eq_true]; done)

theorem kp_startNext {κ ν : Nat} (hq : Quiet kw_none κ ν) (g : Nat) {s : State} (hs : Holds κ ν s) : Holds κ ν (startNext g s) := by
  unfold startNext
  (try simp (maxDischargeDepth := 40) +contextual only [hs, hd_mk, hd_fold, hd_ite, ite_self, implies_true, kp_setGroup (hq.mono rfl),
        kp_startCommand (hq.mono rfl), ne_eq, not_false_eq_true])
  repeat' split
  all_goals first
    | (with_reducible exact hs)
    | (simp (maxDischargeDepth := 40) +contextual only [hs, hd_mk, hd_fold, hd_ite, ite_self, implies_true, kp_setGroup (hq.mono rfl),
        kp_startCommand (hq.mono rfl), ne_eq, not_false_eq_true]; done)

def kw_finishCommand : Writes := ⟨[0x302001, 0x302002, 0x302005, 0x302006, 0x502005, 0x502007, 0x502009, 0x611003, 0x619004, 0xB03004,
        0xB04003], [(0x612000, 0x613000, 256), (0x620000, 0x624000, 256)]⟩
theorem kp_finishCommand {κ ν : Nat} (hq : Quiet kw_finishCommand κ ν) (g : Nat) {s : State} (hs : Holds κ ν s) : Holds κ ν (finishCommand g
        s) := by
  unfold finishCommand
  (try simp (maxDischargeDepth := 40) +contextual only [hs, hd_mk, hd_fold, hd_ite, ite_self, implies_true, kp_answerReaders (hq.mono rfl),
        kp_applyCommand (hq.mono rfl), kp_startNext (hq.mono rfl), kp_wakeDiscard (hq.mono rfl), kp_writeResult (hq.mono rfl), ne_eq,
        not_false_eq_true])
  repeat' split
  all_goals first
    | (with_reducible exact hs)
    | (simp (maxDischargeDepth := 40) +contextual only [hs, hd_mk, hd_fold, hd_ite, ite_self, implies_true, kp_answerReaders (hq.mono rfl),
        kp_applyCommand (hq.mono rfl), kp_startNext (hq.mono rfl), kp_wakeDiscard (hq.mono rfl), kp_writeResult (hq.mono rfl), ne_eq,
        not_false_eq_true]; done)

def kw_settleGroup : Writes := ⟨[0x302001, 0x302002, 0x302005, 0x302006, 0x502004, 0x502005, 0x502006, 0x502007, 0x502009, 0x611003,
        0x619004, 0xB03004, 0xB04003], [(0x612000, 0x613000, 256), (0x620000, 0x624000, 256)]⟩
theorem kp_settleGroup {κ ν : Nat} (hq : Quiet kw_settleGroup κ ν) (n g : Nat) {s : State} (hs : Holds κ ν s) : Holds κ ν (settleGroup n g s) := by
  induction n generalizing s with
  | zero => exact hs
  | succ n ih =>
    unfold settleGroup
    simp only
    have h1 : Holds κ ν (if s.commitReady g = true then decideCommit g s else s) := by
      split
      · exact kp_decideCommit (hq.mono rfl) _ hs
      · exact hs
    generalize (if s.commitReady g = true then decideCommit g s else s) = a at h1 ⊢
    have h2 : Holds κ ν (if a.canFinish g = true then a else finishDiscards a) := by
      split
      · exact h1
      · exact kp_finishDiscards (hq.mono rfl) h1
    generalize (if a.canFinish g = true then a else finishDiscards a) = b at h2 ⊢
    split
    · exact ih (kp_finishCommand (hq.mono rfl) _ h2)
    · exact h2

def kw_settle : Writes := ⟨[0x302001, 0x302002, 0x302005, 0x302006, 0x502004, 0x502005, 0x502006, 0x502007, 0x502009, 0x611003, 0x619004,
        0xB03004, 0xB04003], [(0x612000, 0x613000, 256), (0x620000, 0x624000, 256)]⟩
theorem kp_settle {κ ν : Nat} (hq : Quiet kw_settle κ ν) (g : Nat) {s : State} (hs : Holds κ ν s) : Holds κ ν (settle g s) := by
  unfold settle
  simp (maxDischargeDepth := 40) +contextual only [hs, hd_mk, hd_fold, hd_ite, ite_self, implies_true, kp_settleGroup (hq.mono rfl), ne_eq,
        not_false_eq_true]

theorem kp_rebuildSegment {κ ν : Nat} (hq : Quiet kw_none κ ν) (seg : Nat) {s : State} (hs : Holds κ ν s) : Holds κ ν (rebuildSegment seg s)
        := by
  unfold rebuildSegment
  simp (maxDischargeDepth := 40) +contextual only [hs, hd_mk, hd_fold, hd_ite, ite_self, implies_true, hd_foldl, ne_eq, not_false_eq_true]

def kw_startRebuild : Writes := ⟨[0x404105], []⟩
theorem kp_startRebuild {κ ν : Nat} (hq : Quiet kw_startRebuild κ ν) (seg : Nat) {s : State} (hs : Holds κ ν s) : Holds κ ν (startRebuild
        seg s) := by
  have n0 : κ ≠ 0x404105 := hq.ne rfl
  unfold startRebuild
  simp (maxDischargeDepth := 40) +contextual only [hs, hd_mk, hd_fold, hd_ite, ite_self, implies_true, n0, hd_bump, ne_eq, not_false_eq_true]

def kw_sectorsMoved : Writes := ⟨[], [(0x612000, 0x613000, 256)]⟩
theorem kp_sectorsMoved {κ ν : Nat} (hq : Quiet kw_sectorsMoved κ ν) (ch n : Nat) {s : State} (hs : Holds κ ν s) : Holds κ ν (sectorsMoved
        ch n s) := by
  have fchannelKey0x01 : ∀ c : Nat, κ ≠ channelKey c 0x01 := fun c => hq.outside (lo := 0x612000) (hi := 0x613000) (sub := 256) (by decide) (by unfold channelKey; omega) (by unfold channelKey; omega) (by unfold channelKey; omega)
  have fchannelKey0x02 : ∀ c : Nat, κ ≠ channelKey c 0x02 := fun c => hq.outside (lo := 0x612000) (hi := 0x613000) (sub := 256) (by decide) (by unfold channelKey; omega) (by unfold channelKey; omega) (by unfold channelKey; omega)
  unfold sectorsMoved
  simp (maxDischargeDepth := 40) +contextual only [hs, hd_mk, hd_fold, hd_ite, ite_self, implies_true, fchannelKey0x01, fchannelKey0x02,
        hd_addTo, hd_count hq, ne_eq, not_false_eq_true]

def kw_sectorMoved : Writes := ⟨[], [(0x612000, 0x613000, 256)]⟩
theorem kp_sectorMoved {κ ν : Nat} (hq : Quiet kw_sectorMoved κ ν) (ch : Nat) {s : State} (hs : Holds κ ν s) : Holds κ ν (sectorMoved ch s)
        := by
  unfold sectorMoved
  simp (maxDischargeDepth := 40) +contextual only [hs, hd_mk, hd_fold, hd_ite, ite_self, implies_true, kp_sectorsMoved (hq.mono rfl), ne_eq,
        not_false_eq_true]

def kw_reconstructions : Writes := ⟨[], [(0x612000, 0x613000, 256)]⟩
theorem kp_reconstructions {κ ν : Nat} (hq : Quiet kw_reconstructions κ ν) (unit n : Nat) {s : State} (hs : Holds κ ν s) : Holds κ ν
        (reconstructions unit n s) := by
  unfold reconstructions
  simp (maxDischargeDepth := 40) +contextual only [hs, hd_mk, hd_fold, hd_ite, ite_self, implies_true, kp_sectorsMoved (hq.mono rfl),
        hd_foldl, ne_eq, not_false_eq_true]

def kw_reconstructionReads : Writes := ⟨[], [(0x612000, 0x613000, 256)]⟩
theorem kp_reconstructionReads {κ ν : Nat} (hq : Quiet kw_reconstructionReads κ ν) (unit : Nat) {s : State} (hs : Holds κ ν s) : Holds κ ν
        (reconstructionReads unit s) := by
  unfold reconstructionReads
  simp (maxDischargeDepth := 40) +contextual only [hs, hd_mk, hd_fold, hd_ite, ite_self, implies_true, kp_reconstructions (hq.mono rfl),
        ne_eq, not_false_eq_true]

def kw_agentReads : Writes := ⟨[], [(0x612000, 0x613000, 256)]⟩
theorem kp_agentReads {κ ν : Nat} (hq : Quiet kw_agentReads κ ν) (cls unit n : Nat) {s : State} (hs : Holds κ ν s) : Holds κ ν (agentReads
        cls unit n s) := by
  unfold agentReads
  simp (maxDischargeDepth := 40) +contextual only [hs, hd_mk, hd_fold, hd_ite, ite_self, implies_true, kp_reconstructions (hq.mono rfl),
        kp_sectorsMoved (hq.mono rfl), ne_eq, not_false_eq_true]

def kw_integritySector : Writes := ⟨[], [(0x612000, 0x613000, 256)]⟩
theorem kp_integritySector {κ ν : Nat} (hq : Quiet kw_integritySector κ ν) (obj : IntegrityObject) {s : State} (hs : Holds κ ν s) : Holds κ
        ν (integritySector obj s) := by
  unfold integritySector
  (try simp (maxDischargeDepth := 40) +contextual only [hs, hd_mk, hd_fold, hd_ite, ite_self, implies_true, kp_sectorMoved (hq.mono rfl),
        ne_eq, not_false_eq_true])
  repeat' split
  all_goals first
    | (with_reducible exact hs)
    | (simp (maxDischargeDepth := 40) +contextual only [hs, hd_mk, hd_fold, hd_ite, ite_self, implies_true, kp_sectorMoved (hq.mono rfl), ne_eq,
        not_false_eq_true]; done)

def kw_fetchLine : Writes := ⟨[0x70030A], [(0x612000, 0x613000, 256)]⟩
theorem kp_fetchLine {κ ν : Nat} (hq : Quiet kw_fetchLine κ ν) (obj : IntegrityObject) {s : State} (hs : Holds κ ν s) : Holds κ ν (fetchLine
        obj s) := by
  have n0 : κ ≠ 0x70030A := hq.ne rfl
  unfold fetchLine
  simp (maxDischargeDepth := 40) +contextual only [hs, hd_mk, hd_fold, hd_ite, ite_self, implies_true, n0, hd_bump, kp_cacheLine (hq.mono
        rfl), kp_integritySector (hq.mono rfl), hd_foldl, ne_eq, not_false_eq_true]

theorem kp_modRead {κ ν : Nat} (hq : Quiet kw_none κ ν) (id : Nat) (f : Read → Read) {s : State} (hs : Holds κ ν s) : Holds κ ν (modRead id
        f s) := by
  unfold modRead
  simp (maxDischargeDepth := 40) +contextual only [hs, hd_mk, hd_fold, hd_ite, ite_self, implies_true, ne_eq, not_false_eq_true]

theorem kp_addRead {κ ν : Nat} (hq : Quiet kw_none κ ν) (r : Read) {s : State} (hs : Holds κ ν s) : Holds κ ν (addRead r s) := by
  unfold addRead
  simp (maxDischargeDepth := 40) +contextual only [hs, hd_mk, hd_fold, hd_ite, ite_self, implies_true, ne_eq, not_false_eq_true]

theorem kp_refillSlot {κ ν : Nat} (hq : Quiet kw_none κ ν) (region : Nat) {s : State} (hs : Holds κ ν s) : Holds κ ν (refillSlot region s)
        := by
  unfold refillSlot
  (try simp (maxDischargeDepth := 40) +contextual only [hs, hd_mk, hd_fold, hd_ite, ite_self, implies_true, kp_modRead (hq.mono rfl), ne_eq,
        not_false_eq_true])
  repeat' split
  all_goals first
    | (with_reducible exact hs)
    | (simp (maxDischargeDepth := 40) +contextual only [hs, hd_mk, hd_fold, hd_ite, ite_self, implies_true, kp_modRead (hq.mono rfl), ne_eq,
        not_false_eq_true]; done)

theorem kp_refillPrompt {κ ν : Nat} (hq : Quiet kw_none κ ν) (region : Nat) {s : State} (hs : Holds κ ν s) : Holds κ ν (refillPrompt region
        s) := by
  unfold refillPrompt
  simp (maxDischargeDepth := 40) +contextual only [hs, hd_mk, hd_fold, hd_ite, ite_self, implies_true, kp_refillSlot (hq.mono rfl), ne_eq,
        not_false_eq_true]

theorem kp_dropRead {κ ν : Nat} (hq : Quiet kw_none κ ν) (id : Nat) {s : State} (hs : Holds κ ν s) : Holds κ ν (dropRead id s) := by
  unfold dropRead
  (try simp (maxDischargeDepth := 40) +contextual only [hs, hd_mk, hd_fold, hd_ite, ite_self, implies_true, kp_refillPrompt (hq.mono rfl),
        ne_eq, not_false_eq_true])
  repeat' split
  all_goals first
    | (with_reducible exact hs)
    | (simp (maxDischargeDepth := 40) +contextual only [hs, hd_mk, hd_fold, hd_ite, ite_self, implies_true, kp_refillPrompt (hq.mono rfl), ne_eq,
        not_false_eq_true]; done)

def kw_promptDone : Writes := ⟨[0x408102, 0x408103], []⟩
theorem kp_promptDone {κ ν : Nat} (hq : Quiet kw_promptDone κ ν) (r : Read) {s : State} (hs : Holds κ ν s) : Holds κ ν (promptDone r s) :=
        by
  have n0 : κ ≠ 0x408102 := hq.ne rfl
  have n1 : κ ≠ 0x408103 := hq.ne rfl
  unfold promptDone
  simp (maxDischargeDepth := 40) +contextual only [hs, hd_mk, hd_fold, hd_ite, ite_self, implies_true, n0, n1, hd_bump, hd_raiseTo, hd_raise
        hq, ne_eq, not_false_eq_true]

def kw_sampleRead : Writes := ⟨[0xB03004, 0xB04003], []⟩
theorem kp_sampleRead {κ ν : Nat} (hq : Quiet kw_sampleRead κ ν) (p : Port) (opcode line acceptedAt outcome unit steps cls flags : Nat)
        (poison : Bool) {s : State} (hs : Holds κ ν s) : Holds κ ν (sampleRead p opcode line acceptedAt outcome unit steps cls flags poison
        s) := by
  unfold sampleRead
  simp (maxDischargeDepth := 40) +contextual only [hs, hd_mk, hd_fold, hd_ite, ite_self, implies_true, kp_placeSample (hq.mono rfl),
        hd_takeStamp hq, ne_eq, not_false_eq_true]

def kw_answerRead : Writes := ⟨[0x408102, 0x408103, 0xB03004, 0xB04003], []⟩
theorem kp_answerRead {κ ν : Nat} (hq : Quiet kw_answerRead κ ν) (r : Read) (v : Version) {s : State} (hs : Holds κ ν s) : Holds κ ν
        (answerRead r v s) := by
  unfold answerRead
  (try simp (maxDischargeDepth := 40) +contextual only [hs, hd_mk, hd_fold, hd_ite, ite_self, implies_true, kp_dropRead (hq.mono rfl),
        kp_promptDone (hq.mono rfl), kp_sampleRead (hq.mono rfl), kp_sendData (hq.mono rfl), ne_eq, not_false_eq_true])
  repeat' split
  all_goals first
    | (with_reducible exact hs)
    | (simp (maxDischargeDepth := 40) +contextual only [hs, hd_mk, hd_fold, hd_ite, ite_self, implies_true, kp_dropRead (hq.mono rfl),
        kp_promptDone (hq.mono rfl), kp_sampleRead (hq.mono rfl), kp_sendData (hq.mono rfl), ne_eq, not_false_eq_true]; done)

def kw_answerMerges : Writes := ⟨[0x408102, 0x408103, 0xB03004, 0xB04003], []⟩
theorem kp_answerMerges {κ ν : Nat} (hq : Quiet kw_answerMerges κ ν) (p : Port) (line : Nat) {s : State} (hs : Holds κ ν s) : Holds κ ν
        (answerMerges p line s) := by
  unfold answerMerges
  simp (maxDischargeDepth := 40) +contextual only [hs, hd_mk, hd_fold, hd_ite, ite_self, implies_true, kp_answerRead (hq.mono rfl), hd_foldl,
        ne_eq, not_false_eq_true]

def kw_recordUnit : Writes := ⟨[0x611003, 0x619004], [(0x612000, 0x613000, 256), (0x620000, 0x624000, 256)]⟩
theorem kp_recordUnit {κ ν : Nat} (hq : Quiet kw_recordUnit κ ν) (u : Nat) {s : State} (hs : Holds κ ν s) : Holds κ ν (recordUnit u s) := by
  unfold recordUnit
  simp (maxDischargeDepth := 40) +contextual only [hs, hd_mk, hd_fold, hd_ite, ite_self, implies_true, kp_journalPut (hq.mono rfl), ne_eq,
        not_false_eq_true]

def kw_setUnitState : Writes := ⟨[0x611003, 0x619004], [(0x612000, 0x613000, 256), (0x620000, 0x624000, 256)]⟩
theorem kp_setUnitState {κ ν : Nat} (hq : Quiet kw_setUnitState κ ν) (u state : Nat) {s : State} (hs : Holds κ ν s) : Holds κ ν
        (setUnitState u state s) := by
  have n0 : κ ≠ 0x619004 := hq.ne rfl
  have fdieKey0x02 : ∀ d : Nat, κ ≠ dieKey d 0x02 := fun d => hq.outside (lo := 0x620000) (hi := 0x624000) (sub := 256) (by decide) (by unfold dieKey; omega) (by unfold dieKey; omega) (by unfold dieKey; omega)
  unfold setUnitState
  simp (maxDischargeDepth := 40) +contextual only [hs, hd_mk, hd_fold, hd_ite, ite_self, implies_true, n0, fdieKey0x02, hd_bump, kp_setUnit
        (hq.mono rfl), hd_raise hq, kp_recordUnit (hq.mono rfl), ne_eq, not_false_eq_true]

def kw_lastingFault : Writes := ⟨[0x611003, 0x619004], [(0x612000, 0x613000, 256), (0x620000, 0x624000, 256)]⟩
theorem kp_lastingFault {κ ν : Nat} (hq : Quiet kw_lastingFault κ ν) (u : Nat) {s : State} (hs : Holds κ ν s) : Holds κ ν (lastingFault u s)
        := by
  unfold lastingFault
  simp (maxDischargeDepth := 40) +contextual only [hs, hd_mk, hd_fold, hd_ite, ite_self, implies_true, kp_setUnit (hq.mono rfl), kp_noteHealth
        (hq.mono rfl), kp_setUnitState (hq.mono rfl), ne_eq, not_false_eq_true]

def kw_sectorProgrammed : Writes := ⟨[0x611003, 0x619004], [(0x612000, 0x613000, 256), (0x620000, 0x624000, 256)]⟩
theorem kp_sectorProgrammed {κ ν : Nat} (hq : Quiet kw_sectorProgrammed κ ν) (u page : Nat) {s : State} (hs : Holds κ ν s) : Holds κ ν
        (sectorProgrammed u page s) := by
  unfold sectorProgrammed
  simp (maxDischargeDepth := 40) +contextual only [hs, hd_mk, hd_fold, hd_ite, ite_self, implies_true, kp_programTail (hq.mono rfl),
        kp_sectorsProgrammed (hq.mono rfl), ne_eq, not_false_eq_true]

theorem kp_pageProgrammed {κ ν : Nat} (hq : Quiet kw_none κ ν) (u page band : Nat) {s : State} (hs : Holds κ ν s) : Holds κ ν
        (pageProgrammed u page band s) := by
  unfold pageProgrammed
  simp (maxDischargeDepth := 40) +contextual only [hs, hd_mk, hd_fold, hd_ite, ite_self, implies_true, kp_setUnit (hq.mono rfl), hd_count1 hq,
        kp_disturb (hq.mono rfl), ne_eq, not_false_eq_true]

def kw_unitReset : Writes := ⟨[0x611003, 0x619004], [(0x612000, 0x613000, 256), (0x620000, 0x624000, 256)]⟩
theorem kp_unitReset {κ ν : Nat} (hq : Quiet kw_unitReset κ ν) (u mode : Nat) {s : State} (hs : Holds κ ν s) : Holds κ ν (unitReset u mode
        s) := by
  unfold unitReset
  simp (maxDischargeDepth := 40) +contextual only [hs, hd_mk, hd_fold, hd_ite, ite_self, implies_true, kp_setUnit (hq.mono rfl), kp_addCycles
        (hq.mono rfl), hd_count1 hq, kp_disturb (hq.mono rfl), kp_recordUnit (hq.mono rfl), ne_eq, not_false_eq_true]

theorem kp_orderReset {κ ν : Nat} (hq : Quiet kw_none κ ν) (stripe mode before : Nat) {s : State} (hs : Holds κ ν s) : Holds κ ν (orderReset
        stripe mode before s) := by
  unfold orderReset
  simp (maxDischargeDepth := 40) +contextual only [hs, hd_mk, hd_fold, hd_ite, ite_self, implies_true, kp_setStripe (hq.mono rfl), hd_foldl,
        ne_eq, not_false_eq_true]

theorem kp_notePool {κ ν : Nat} (hq : Quiet kw_none κ ν) {s : State} (hs : Holds κ ν s) : Holds κ ν (notePool s) := by
  unfold notePool
  simp (maxDischargeDepth := 40) +contextual only [hs, hd_mk, hd_fold, hd_ite, ite_self, implies_true, hd_raise hq, ne_eq, not_false_eq_true]

def kw_finishReset : Writes := ⟨[0x611003, 0x618005, 0x619004], [(0x612000, 0x613000, 256), (0x620000, 0x624000, 256)]⟩
theorem kp_finishReset {κ ν : Nat} (hq : Quiet kw_finishReset κ ν) (stripe : Nat) {s : State} (hs : Holds κ ν s) : Holds κ ν (finishReset
        stripe s) := by
  have n0 : κ ≠ 0x618005 := hq.ne rfl
  unfold finishReset
  (try simp (maxDischargeDepth := 40) +contextual only [hs, hd_mk, hd_fold, hd_ite, ite_self, implies_true, n0, hd_bump, kp_setStripe (hq.mono
        rfl), kp_noteHealth (hq.mono rfl), kp_notePool (hq.mono rfl), hd_raise hq, kp_setUnitState (hq.mono rfl), hd_foldl, ne_eq,
        not_false_eq_true])
  repeat' split
  all_goals first
    | (with_reducible exact hs)
    | (simp (maxDischargeDepth := 40) +contextual only [hs, hd_mk, hd_fold, hd_ite, ite_self, implies_true, n0, hd_bump, kp_setStripe (hq.mono
        rfl), kp_noteHealth (hq.mono rfl), kp_notePool (hq.mono rfl), hd_raise hq, kp_setUnitState (hq.mono rfl), hd_foldl, ne_eq,
        not_false_eq_true]; done)

def kw_reEncrypt : Writes := ⟨[0x700306], [(0x612000, 0x613000, 256)]⟩
theorem kp_reEncrypt {κ ν : Nat} (hq : Quiet kw_reEncrypt κ ν) (line : Nat) {s : State} (hs : Holds κ ν s) : Holds κ ν (reEncrypt line s) :=
        by
  have n0 : κ ≠ 0x700306 := hq.ne rfl
  unfold reEncrypt
  simp (maxDischargeDepth := 40) +contextual only [hs, hd_mk, hd_fold, hd_ite, ite_self, implies_true, n0, hd_bump, kp_agentReads (hq.mono
        rfl), kp_putEntry (hq.mono rfl), hd_raise hq, kp_touchBlock (hq.mono rfl), hd_foldl, ne_eq, not_false_eq_true]

def kw_takeSeal : Writes := ⟨[0x700306, 0x70030A], [(0x612000, 0x613000, 256)]⟩
theorem kp_takeSeal {κ ν : Nat} (hq : Quiet kw_takeSeal κ ν) (line : Nat) (grp : Option Nat) (stamp : Nat) (preset : Option Seal) {s : State} (hs : Holds κ ν s) :
    Holds κ ν (takeSeal line grp stamp preset s).2 := by
  unfold takeSeal
  split
  · exact kp_touchIntegrity (hq.mono rfl) _ (kp_fetchLine (hq.mono rfl) _ hs)
  · split
    · exact hs
    · have h := kp_fetchLine (hq.mono rfl) (.tagLine (line / 8)) (kp_fetchLine (hq.mono rfl) (.counterBlock (pageOfLine line)) hs)
      refine kp_touchIntegrity (hq.mono rfl) _ (kp_touchBlock (hq.mono rfl) _ ?_)
      split
      · exact kp_reEncrypt (hq.mono rfl) _ h
      · simpa only [hd_mk, hd_fold] using h

def kw_sealInto : Writes := ⟨[0x700306, 0x70030A], [(0x612000, 0x613000, 256)]⟩
theorem kp_sealInto {κ ν : Nat} (hq : Quiet kw_sealInto κ ν) (place line : Nat) (grp tag : Option Nat) (data : Line) (poison : Bool) (stamp : Nat) (preset : Option Seal) {s : State}
    (hs : Holds κ ν s) : Holds κ ν (sealInto place line grp tag data poison stamp preset s).2 := by
  have h := kp_takeSeal (hq.mono rfl) line tag stamp preset hs
  unfold sealInto
  simp only
  split
  · exact kp_touchIntegrity (hq.mono rfl) _ (kp_fetchLine (hq.mono rfl) _ h)
  · exact h

theorem kp_wantFold {κ ν : Nat} (hq : Quiet kw_none κ ν) (line : Nat) {s : State} (hs : Holds κ ν s) : Holds κ ν (wantFold line s) := by
  unfold wantFold
  (try simp (maxDischargeDepth := 40) +contextual only [hs, hd_mk, hd_fold, hd_ite, ite_self, implies_true, hd_foldl, ne_eq,
        not_false_eq_true])
  repeat' split
  all_goals first
    | (with_reducible exact hs)
    | (simp (maxDischargeDepth := 40) +contextual only [hs, hd_mk, hd_fold, hd_ite, ite_self, implies_true, hd_foldl, ne_eq, not_false_eq_true];
        done)

theorem kp_putDelta {κ ν : Nat} (hq : Quiet kw_none κ ν) (d : Delta) {s : State} (hs : Holds κ ν s) : Holds κ ν (putDelta d s) := by
  unfold putDelta
  simp (maxDischargeDepth := 40) +contextual only [hs, hd_mk, hd_fold, hd_ite, ite_self, implies_true, ne_eq, not_false_eq_true]

def kw_checkLogFull : Writes := ⟨[0x613009, 0x61300A], []⟩
theorem kp_checkLogFull {κ ν : Nat} (hq : Quiet kw_checkLogFull κ ν) {s : State} (hs : Holds κ ν s) : Holds κ ν (checkLogFull s) := by
  have n0 : κ ≠ 0x613009 := hq.ne rfl
  have n1 : κ ≠ 0x61300A := hq.ne rfl
  unfold checkLogFull
  (try simp (maxDischargeDepth := 40) +contextual only [hs, hd_mk, hd_fold, hd_ite, ite_self, implies_true, n0, n1, hd_bump, hd_raiseTo,
        hd_raise hq, ne_eq, not_false_eq_true])
  repeat' split
  all_goals first
    | (with_reducible exact hs)
    | (simp (maxDischargeDepth := 40) +contextual only [hs, hd_mk, hd_fold, hd_ite, ite_self, implies_true, n0, n1, hd_bump, hd_raiseTo, hd_raise
        hq, ne_eq, not_false_eq_true]; done)

theorem kp_rowStarted {κ ν : Nat} (hq : Quiet kw_none κ ν) (mark : Nat) (x : List ProgramStart) {s : State} (hs : Holds κ ν s) : Holds κ ν
        (rowStarted mark x s) := by
  unfold rowStarted
  simp (maxDischargeDepth := 40) +contextual only [hs, hd_mk, hd_fold, hd_ite, ite_self, implies_true, ne_eq, not_false_eq_true]

theorem kp_moveStamp {κ ν : Nat} (hq : Quiet kw_none κ ν) (m : LogMove) {s : State} (hs : Holds κ ν s) : Holds κ ν (moveStamp m s).2 := by
  unfold moveStamp
  split
  · exact hd_takeStamp hq hs
  · exact hs

def kw_placeMoves : Writes := ⟨[0x700306, 0x70030A], [(0x612000, 0x613000, 256)]⟩
theorem kp_placeMoves {κ ν : Nat} (hq : Quiet kw_placeMoves κ ν) (mark q : Nat) (l : List LogMove) (acc : List LogLine) {s : State} (hs : Holds κ ν s) :
    Holds κ ν (placeMoves mark q l acc s).2 := by
  induction l generalizing q acc s with
  | nil => exact hs
  | cons m l ih =>
    exact ih _ _ (kp_sealInto (hq.mono rfl) (mark * 45 + q) m.line m.grp m.groupTag m.data m.poison (moveStamp m s).1 m.preset (kp_moveStamp (hq.mono rfl) m hs))

def kw_placeStaged : Writes := ⟨[0x700306, 0x70030A], [(0x612000, 0x613000, 256)]⟩
theorem kp_placeStaged {κ ν : Nat} (hq : Quiet kw_placeStaged κ ν) (mark q : Nat) (l : List Staged) (acc : List LogLine) {s : State} (hs : Holds κ ν s) :
    Holds κ ν (placeStaged mark q l acc s).2 := by
  induction l generalizing q acc s with
  | nil => exact hs
  | cons x l ih => exact ih _ _ (kp_sealInto (hq.mono rfl) (mark * 45 + q) x.line x.grp x.tag x.data x.poison (if x.tag.isSome then x.orig else x.stamp) none hs)

theorem kp_noteCrowded {κ ν : Nat} (hq : Quiet kw_none κ ν) {s : State} (hs : Holds κ ν s) : Holds κ ν (noteCrowded s) := by
  unfold noteCrowded
  simp (maxDischargeDepth := 40) +contextual only [hs, hd_mk, hd_fold, hd_ite, ite_self, implies_true, kp_wantFold (hq.mono rfl), hd_foldl,
        ne_eq, not_false_eq_true]

def kw_dispatchRow : Writes := ⟨[0x613009, 0x61300A, 0x700306, 0x70030A], [(0x612000, 0x613000, 256)]⟩
theorem kp_dispatchRow {κ ν : Nat} (hq : Quiet kw_dispatchRow κ ν) {s : State} (hs : Holds κ ν s) : Holds κ ν (dispatchRow s) := by
  unfold dispatchRow
  simp (maxDischargeDepth := 40) +contextual only [hs, hd_mk, hd_fold, hd_ite, ite_self, implies_true, kp_checkLogFull (hq.mono rfl),
        kp_placeMoves (hq.mono rfl), kp_placeStaged (hq.mono rfl), ne_eq, not_false_eq_true]

def kw_landMove : Writes := ⟨[0x613008], []⟩
theorem kp_landMove {κ ν : Nat} (hq : Quiet kw_landMove κ ν) (l : LogLine) (source : Option Nat) {s : State} (hs : Holds κ ν s) : Holds κ ν
        (landMove l source s) := by
  have n0 : κ ≠ 0x613008 := hq.ne rfl
  unfold landMove
  (try simp (maxDischargeDepth := 40) +contextual only [hs, hd_mk, hd_fold, hd_ite, ite_self, implies_true, n0, hd_bump, kp_dirtySegment
        (hq.mono rfl), kp_putDelta (hq.mono rfl), ne_eq, not_false_eq_true])
  repeat' split
  all_goals first
    | (with_reducible exact hs)
    | (simp (maxDischargeDepth := 40) +contextual only [hs, hd_mk, hd_fold, hd_ite, ite_self, implies_true, n0, hd_bump, kp_dirtySegment (hq.mono
        rfl), kp_putDelta (hq.mono rfl), ne_eq, not_false_eq_true]; done)

theorem kp_landStaged {κ ν : Nat} (hq : Quiet kw_none κ ν) (mark : Nat) (l : LogLine) {s : State} (hs : Holds κ ν s) : Holds κ ν (landStaged
        mark l s) := by
  unfold landStaged
  (try simp (maxDischargeDepth := 40) +contextual only [hs, hd_mk, hd_fold, hd_ite, ite_self, implies_true, kp_putDelta (hq.mono rfl),
        kp_rearmStall (hq.mono rfl), ne_eq, not_false_eq_true])
  repeat' split
  all_goals first
    | (with_reducible exact hs)
    | (simp (maxDischargeDepth := 40) +contextual only [hs, hd_mk, hd_fold, hd_ite, ite_self, implies_true, kp_putDelta (hq.mono rfl),
        kp_rearmStall (hq.mono rfl), ne_eq, not_false_eq_true]; done)

def kw_completeRow : Writes := ⟨[0x302005, 0x302006, 0x611003, 0x613008, 0x613009, 0x61300A, 0x619004, 0xB03004, 0xB04003], [(0x612000,
        0x613000, 256), (0x620000, 0x624000, 256)]⟩
theorem kp_completeRow {κ ν : Nat} (hq : Quiet kw_completeRow κ ν) (r : LogRow) {s : State} (hs : Holds κ ν s) : Holds κ ν (completeRow r s) := by
  unfold completeRow
  refine kp_sendCmps (hq.mono rfl) _ (kp_checkLogFull (hq.mono rfl) (hd_count1 hq _ _ ?_))
  simp only
  have h : ∀ t : State, Holds κ ν t → Holds κ ν (linesOnMedium ((r.lines.filter fun l => l.moved.isNone).map (·.line))
      (r.lines.foldl (fun t l => match l.moved with
        | some source => landMove l source t
        | none => landStaged r.mark l t) (r.lines.foldl (fun t l => putEntry l.entry t) t))) := fun t ht =>
    kp_linesOnMedium (hq.mono rfl) _ (hd_foldl (fun t l ht => by
      split
      · exact kp_landMove (hq.mono rfl) _ _ ht
      · exact kp_landStaged (hq.mono rfl) _ _ ht) _ (hd_foldl (fun t l ht => kp_putEntry (hq.mono rfl) _ ht) _ ht))
  have h' := h { s with med := { s.med with rows := s.med.rows.map fun x => if x.mark == r.mark then { x with complete := true } else x } } hs
  split
  · exact kp_programTail (hq.mono rfl) h'
  · split
    · exact kp_programEntries (hq.mono rfl) h'
    · exact h'

theorem kp_startJobs {κ ν : Nat} (hq : Quiet kw_none κ ν) (jobs : List Job) {s : State} (hs : Holds κ ν s) : Holds κ ν (startJobs jobs s).2 := by
  induction jobs generalizing s with
  | nil => exact hs
  | cons j l ih => exact ih (hd_takeStamp hq hs)

def kw_landRow : Writes := ⟨[0x302005, 0x302006, 0x611003, 0x613008, 0x613009, 0x61300A, 0x619004, 0xB03004, 0xB04003], [(0x612000,
        0x613000, 256), (0x620000, 0x624000, 256)]⟩
theorem kp_landRow {κ ν : Nat} (hq : Quiet kw_landRow κ ν) (r : LogRow) {s : State} (hs : Holds κ ν s) : Holds κ ν (landRow r s) := by
  unfold landRow
  refine kp_completeRow (hq.mono rfl) _ (hd_foldl (fun t u ht => kp_sectorProgrammed (hq.mono rfl) _ _ ht) _
    (hd_foldl (fun t j ht => kp_programsRun (hq.mono rfl) _ _ _ _ ht) _ (kp_rowStarted (hq.mono rfl) _ _ (kp_startJobs (hq.mono rfl) _ (kp_endOverruns (hq.mono rfl) ?_)))))
  simpa only [hd_mk, hd_fold] using hs

def kw_flushLog : Writes := ⟨[0x302005, 0x302006, 0x611003, 0x613008, 0x613009, 0x61300A, 0x619004, 0x700306, 0x70030A, 0xB03004, 0xB04003],
        [(0x612000, 0x613000, 256), (0x620000, 0x624000, 256)]⟩
theorem kp_flushLog {κ ν : Nat} (hq : Quiet kw_flushLog κ ν) (n : Nat) {s : State} (hs : Holds κ ν s) : Holds κ ν (flushLog n s) := by
  induction n generalizing s with
  | zero => exact hs
  | succ n ih =>
    unfold flushLog
    split
    · exact ih (kp_landRow (hq.mono rfl) _ hs)
    · simp only
      split
      · exact ih (kp_dispatchRow (hq.mono rfl) hs)
      · exact hs

def kw_programAll : Writes := ⟨[0x302005, 0x302006, 0x611003, 0x613008, 0x613009, 0x61300A, 0x619004, 0x700306, 0x70030A, 0xB03004,
        0xB04003], [(0x612000, 0x613000, 256), (0x620000, 0x624000, 256)]⟩
theorem kp_programAll {κ ν : Nat} (hq : Quiet kw_programAll κ ν) {s : State} (hs : Holds κ ν s) : Holds κ ν (programAll s) := by
  unfold programAll
  simp (maxDischargeDepth := 40) +contextual only [hs, hd_mk, hd_fold, hd_ite, ite_self, implies_true, kp_flushLog (hq.mono rfl),
        kp_programTail (hq.mono rfl), ne_eq, not_false_eq_true]

def kw_noteChange : Writes := ⟨[0x120001], []⟩
theorem kp_noteChange {κ ν : Nat} (hq : Quiet kw_noteChange κ ν) (key kind path privilege session counter length : Nat) (old new : List
        Byte) {s : State} (hs : Holds κ ν s) : Holds κ ν (noteChange key kind path privilege session counter length old new s) := by
  have n0 : κ ≠ 0x120001 := hq.ne rfl
  unfold noteChange
  simp (maxDischargeDepth := 40) +contextual only [hs, hd_mk, hd_fold, hd_ite, ite_self, implies_true, n0, hd_bump, hd_raise hq, hd_raiseIf
        hq, hd_takeStamp hq, ne_eq, not_false_eq_true]

def kw_noteOwnChange : Writes := ⟨[0x120001], []⟩
theorem kp_noteOwnChange {κ ν : Nat} (hq : Quiet kw_noteOwnChange κ ν) (key kind : Nat) (old : List Byte) {s : State} (hs : Holds κ ν s) :
        Holds κ ν (noteOwnChange key kind old s) := by
  unfold noteOwnChange
  simp (maxDischargeDepth := 40) +contextual only [hs, hd_mk, hd_fold, hd_ite, ite_self, implies_true, kp_noteChange (hq.mono rfl), ne_eq,
        not_false_eq_true]

theorem kp_endSessions {κ ν : Nat} (hq : Quiet kw_none κ ν) (gone : Session → Bool) {s : State} (hs : Holds κ ν s) : Holds κ ν (endSessions
        gone s) := by
  unfold endSessions
  simp (maxDischargeDepth := 40) +contextual only [hs, hd_mk, hd_fold, hd_ite, ite_self, implies_true, ne_eq, not_false_eq_true]

theorem kp_endAllSessions {κ ν : Nat} (hq : Quiet kw_none κ ν) {s : State} (hs : Holds κ ν s) : Holds κ ν (endAllSessions s) := by
  unfold endAllSessions
  simp (maxDischargeDepth := 40) +contextual only [hs, hd_mk, hd_fold, hd_ite, ite_self, implies_true, kp_endSessions (hq.mono rfl), ne_eq,
        not_false_eq_true]

theorem kp_endPortSessions {κ ν : Nat} (hq : Quiet kw_none κ ν) (p : Port) {s : State} (hs : Holds κ ν s) : Holds κ ν (endPortSessions p s)
        := by
  unfold endPortSessions
  simp (maxDischargeDepth := 40) +contextual only [hs, hd_mk, hd_fold, hd_ite, ite_self, implies_true, kp_endSessions (hq.mono rfl), ne_eq,
        not_false_eq_true]

theorem kp_putSession {κ ν : Nat} (hq : Quiet kw_none κ ν) (x : Session) {s : State} (hs : Holds κ ν s) : Holds κ ν (putSession x s) := by
  unfold putSession
  simp (maxDischargeDepth := 40) +contextual only [hs, hd_mk, hd_fold, hd_ite, ite_self, implies_true, ne_eq, not_false_eq_true]

theorem kp_deliver {κ ν : Nat} (hq : Quiet kw_none κ ν) (req : Req) (o : Out) {s : State} (hs : Holds κ ν s) : Holds κ ν (deliver req o s)
        := by
  unfold deliver
  (try simp (maxDischargeDepth := 40) +contextual only [hs, hd_mk, hd_fold, hd_ite, ite_self, implies_true, kp_emit (hq.mono rfl),
        kp_putSession (hq.mono rfl), ne_eq, not_false_eq_true])
  repeat' split
  all_goals first
    | (with_reducible exact hs)
    | (simp (maxDischargeDepth := 40) +contextual only [hs, hd_mk, hd_fold, hd_ite, ite_self, implies_true, kp_emit (hq.mono rfl), kp_putSession
        (hq.mono rfl), ne_eq, not_false_eq_true]; done)

theorem kp_endWith {κ ν : Nat} (hq : Quiet kw_none κ ν) (req : Req) (idx sub : Nat) (ask : DictAsk) (status : Nat) {s : State} (hs : Holds κ
        ν s) : Holds κ ν (endWith req idx sub ask status s) := by
  unfold endWith
  simp (maxDischargeDepth := 40) +contextual only [hs, hd_mk, hd_fold, hd_ite, ite_self, implies_true, kp_deliver (hq.mono rfl), ne_eq,
        not_false_eq_true]

theorem kp_overtakeDeferred {κ ν : Nat} (hq : Quiet kw_none κ ν) {s : State} (hs : Holds κ ν s) : Holds κ ν (overtakeDeferred s) := by
  unfold overtakeDeferred
  simp (maxDischargeDepth := 40) +contextual only [hs, hd_mk, hd_fold, hd_ite, ite_self, implies_true, kp_endWith (hq.mono rfl), hd_foldl,
        ne_eq, not_false_eq_true]

theorem kp_setAction {κ ν : Nat} (hq : Quiet kw_none κ ν) (key status : Nat) {s : State} (hs : Holds κ ν s) : Holds κ ν (setAction key
        status s) := by
  unfold setAction
  simp (maxDischargeDepth := 40) +contextual only [hs, hd_mk, hd_fold, hd_ite, ite_self, implies_true, ne_eq, not_false_eq_true]

theorem kp_endAction {κ ν : Nat} (hq : Quiet kw_none κ ν) (key status : Nat) {s : State} (hs : Holds κ ν s) : Holds κ ν (endAction key
        status s) := by
  unfold endAction
  simp (maxDischargeDepth := 40) +contextual only [hs, hd_mk, hd_fold, hd_ite, ite_self, implies_true, kp_setAction (hq.mono rfl), ne_eq,
        not_false_eq_true]

def kw_dropPrefetches : Writes := ⟨[0x407008], []⟩
theorem kp_dropPrefetches {κ ν : Nat} (hq : Quiet kw_dropPrefetches κ ν) (d : Nat) {s : State} (hs : Holds κ ν s) : Holds κ ν
        (dropPrefetches d s) := by
  have n0 : κ ≠ 0x407008 := hq.ne rfl
  unfold dropPrefetches
  simp (maxDischargeDepth := 40) +contextual only [hs, hd_mk, hd_fold, hd_ite, ite_self, implies_true, n0, hd_bump, kp_dropRead (hq.mono rfl),
        hd_foldl, ne_eq, not_false_eq_true]

def kw_noteReconstruction : Writes := ⟨[0x408106], []⟩
theorem kp_noteReconstruction {κ ν : Nat} (hq : Quiet kw_noteReconstruction κ ν) (r : Read) {s : State} (hs : Holds κ ν s) : Holds κ ν
        (noteReconstruction r s) := by
  have n0 : κ ≠ 0x408106 := hq.ne rfl
  unfold noteReconstruction
  (try simp (maxDischargeDepth := 40) +contextual only [hs, hd_mk, hd_fold, hd_ite, ite_self, implies_true, n0, hd_bump, hd_count1 hq, ne_eq,
        not_false_eq_true])
  repeat' split
  all_goals first
    | (with_reducible exact hs)
    | (simp (maxDischargeDepth := 40) +contextual only [hs, hd_mk, hd_fold, hd_ite, ite_self, implies_true, n0, hd_bump, hd_count1 hq, ne_eq,
        not_false_eq_true]; done)

def kw_placeRead : Writes := ⟨[0x407008, 0x408106], []⟩
theorem kp_placeRead {κ ν : Nat} (hq : Quiet kw_placeRead κ ν) (r : Read) {s : State} (hs : Holds κ ν s) : Holds κ ν (placeRead r s) := by
  unfold placeRead
  simp (maxDischargeDepth := 40) +contextual only [hs, hd_mk, hd_fold, hd_ite, ite_self, implies_true, kp_addRead (hq.mono rfl),
        kp_dropPrefetches (hq.mono rfl), kp_noteReconstruction (hq.mono rfl), ne_eq, not_false_eq_true]

def kw_tagRead : Writes := ⟨[0x407008, 0x408106], []⟩
theorem kp_tagRead {κ ν : Nat} (hq : Quiet kw_tagRead κ ν) (r : Read) {s : State} (hs : Holds κ ν s) : Holds κ ν (tagRead r s) := by
  unfold tagRead
  (try simp (maxDischargeDepth := 40) +contextual only [hs, hd_mk, hd_fold, hd_ite, ite_self, implies_true, kp_placeRead (hq.mono rfl), ne_eq,
        not_false_eq_true])
  repeat' split
  all_goals first
    | (with_reducible exact hs)
    | (simp (maxDischargeDepth := 40) +contextual only [hs, hd_mk, hd_fold, hd_ite, ite_self, implies_true, kp_placeRead (hq.mono rfl), ne_eq,
        not_false_eq_true]; done)

def kw_dispatchRead : Writes := ⟨[0x407008, 0x407009, 0x408101, 0x408106], []⟩
theorem kp_dispatchRead {κ ν : Nat} (hq : Quiet kw_dispatchRead κ ν) (p : Port) (r : Read) {s : State} (hs : Holds κ ν s) : Holds κ ν
        (dispatchRead p r s) := by
  have n0 : κ ≠ 0x407009 := hq.ne rfl
  have n1 : κ ≠ 0x408101 := hq.ne rfl
  unfold dispatchRead
  (try simp (maxDischargeDepth := 40) +contextual only [hs, hd_mk, hd_fold, hd_ite, ite_self, implies_true, n0, n1, hd_bump, hd_count1 hq,
        kp_dropRead (hq.mono rfl), kp_placeRead (hq.mono rfl), kp_tagRead (hq.mono rfl), hd_foldl, ne_eq, not_false_eq_true])
  repeat' split
  all_goals first
    | (with_reducible exact hs)
    | (simp (maxDischargeDepth := 40) +contextual only [hs, hd_mk, hd_fold, hd_ite, ite_self, implies_true, n0, n1, hd_bump, hd_count1 hq,
        kp_dropRead (hq.mono rfl), kp_placeRead (hq.mono rfl), kp_tagRead (hq.mono rfl), hd_foldl, ne_eq, not_false_eq_true]; done)

def kw_readMedium : Writes := ⟨[0x404105, 0x407008, 0x407009, 0x408101, 0x408102, 0x408103, 0x408106, 0xB03004, 0xB04003], []⟩
theorem kp_readMedium {κ ν : Nat} (hq : Quiet kw_readMedium κ ν) (p : Port) (r : Read) {s : State} (hs : Holds κ ν s) : Holds κ ν
        (readMedium p r s) := by
  unfold readMedium
  (try simp (maxDischargeDepth := 40) +contextual only [hs, hd_mk, hd_fold, hd_ite, ite_self, implies_true, kp_addRead (hq.mono rfl),
        kp_answerRead (hq.mono rfl), kp_dispatchRead (hq.mono rfl), kp_startRebuild (hq.mono rfl), ne_eq, not_false_eq_true])
  repeat' split
  all_goals first
    | (with_reducible exact hs)
    | (simp (maxDischargeDepth := 40) +contextual only [hs, hd_mk, hd_fold, hd_ite, ite_self, implies_true, kp_addRead (hq.mono rfl),
        kp_answerRead (hq.mono rfl), kp_dispatchRead (hq.mono rfl), kp_startRebuild (hq.mono rfl), ne_eq, not_false_eq_true]; done)

def kw_releaseReads : Writes := ⟨[0x404105, 0x404106, 0x407008, 0x407009, 0x408101, 0x408102, 0x408103, 0x408106, 0xB03004, 0xB04003], []⟩
theorem kp_releaseReads {κ ν : Nat} (hq : Quiet kw_releaseReads κ ν) (ready : Nat → Bool) {s : State} (hs : Holds κ ν s) : Holds κ ν (releaseReads ready s) := by
  refine hd_foldl (fun t r ht => ?_) _ hs
  simp only
  have h := hd_raiseTo (key := 0x404106) (x := t.clock - r.acceptedAt) (hq.ne rfl) (kp_dropRead (hq.mono rfl) r.id ht)
  split
  · exact kp_readMedium (hq.mono rfl) _ _ h
  · exact kp_readMedium (hq.mono rfl) _ _ h
  · exact h

def kw_nextRebuild : Writes := ⟨[0x404105], []⟩
theorem kp_nextRebuild {κ ν : Nat} (hq : Quiet kw_nextRebuild κ ν) {s : State} (hs : Holds κ ν s) : Holds κ ν (nextRebuild s) := by
  have n0 : κ ≠ 0x404105 := hq.ne rfl
  unfold nextRebuild
  (try simp (maxDischargeDepth := 40) +contextual only [hs, hd_mk, hd_fold, hd_ite, ite_self, implies_true, n0, hd_bump, ne_eq,
        not_false_eq_true])
  repeat' split
  all_goals first
    | (with_reducible exact hs)
    | (simp (maxDischargeDepth := 40) +contextual only [hs, hd_mk, hd_fold, hd_ite, ite_self, implies_true, n0, hd_bump, ne_eq,
        not_false_eq_true]; done)

def kw_readCheckpoint : Writes := ⟨[], [(0x612000, 0x613000, 256)]⟩
theorem kp_readCheckpoint {κ ν : Nat} (hq : Quiet kw_readCheckpoint κ ν) (seg : Nat) {s : State} (hs : Holds κ ν s) : Holds κ ν
        (readCheckpoint seg s) := by
  unfold readCheckpoint
  (try simp (maxDischargeDepth := 40) +contextual only [hs, hd_mk, hd_fold, hd_ite, ite_self, implies_true, kp_agentReads (hq.mono rfl),
        ne_eq, not_false_eq_true])
  repeat' split
  all_goals first
    | (with_reducible exact hs)
    | (simp (maxDischargeDepth := 40) +contextual only [hs, hd_mk, hd_fold, hd_ite, ite_self, implies_true, kp_agentReads (hq.mono rfl), ne_eq,
        not_false_eq_true]; done)

def kw_finishRebuild : Writes := ⟨[0x404105, 0x404106, 0x407008, 0x407009, 0x408101, 0x408102, 0x408103, 0x408106, 0xB03004, 0xB04003],
        [(0x612000, 0x613000, 256)]⟩
theorem kp_finishRebuild {κ ν : Nat} (hq : Quiet kw_finishRebuild κ ν) (seg : Nat) {s : State} (hs : Holds κ ν s) : Holds κ ν (finishRebuild
        seg s) := by
  unfold finishRebuild
  simp (maxDischargeDepth := 40) +contextual only [hs, hd_mk, hd_fold, hd_ite, ite_self, implies_true, kp_nextRebuild (hq.mono rfl),
        kp_readCheckpoint (hq.mono rfl), kp_rebuildSegment (hq.mono rfl), kp_releaseReads (hq.mono rfl), ne_eq, not_false_eq_true]

def kw_demandNow : Writes := ⟨[0x404105, 0x404106, 0x407008, 0x407009, 0x408101, 0x408102, 0x408103, 0x408106, 0xB03004, 0xB04003],
        [(0x612000, 0x613000, 256)]⟩
theorem kp_demandNow {κ ν : Nat} (hq : Quiet kw_demandNow κ ν) (seg : Nat) {s : State} (hs : Holds κ ν s) : Holds κ ν (demandNow seg s) :=
        by
  have n0 : κ ≠ 0x404105 := hq.ne rfl
  unfold demandNow
  simp (maxDischargeDepth := 40) +contextual only [hs, hd_mk, hd_fold, hd_ite, ite_self, implies_true, n0, hd_bump, kp_finishRebuild (hq.mono
        rfl), ne_eq, not_false_eq_true]

def kw_fill : Writes := ⟨[0x407005, 0x407006, 0x40700B], []⟩
theorem kp_fill {κ ν : Nat} (hq : Quiet kw_fill κ ν) (r : Read) (tags : BitVec 4) {s : State} (hs : Holds κ ν s) : Holds κ ν (fill r tags s)
        := by
  have n0 : κ ≠ 0x40700B := hq.ne rfl
  unfold fill
  simp (maxDischargeDepth := 40) +contextual only [hs, hd_mk, hd_fold, hd_ite, ite_self, implies_true, n0, hd_addTo, kp_installFill (hq.mono
        rfl), ne_eq, not_false_eq_true]

def kw_prefetch : Writes := ⟨[0x407007, 0x407008], []⟩
theorem kp_prefetch {κ ν : Nat} (hq : Quiet kw_prefetch κ ν) (r : Read) {s : State} (hs : Holds κ ν s) : Holds κ ν (prefetch r s) := by
  have n0 : κ ≠ 0x407007 := hq.ne rfl
  unfold prefetch
  (try simp (maxDischargeDepth := 40) +contextual only [hs, hd_mk, hd_fold, hd_ite, ite_self, implies_true, n0, hd_bump, kp_addRead (hq.mono
        rfl), kp_dropPrefetches (hq.mono rfl), ne_eq, not_false_eq_true])
  repeat' split
  all_goals first
    | (with_reducible exact hs)
    | (simp (maxDischargeDepth := 40) +contextual only [hs, hd_mk, hd_fold, hd_ite, ite_self, implies_true, n0, hd_bump, kp_addRead (hq.mono rfl),
        kp_dropPrefetches (hq.mono rfl), ne_eq, not_false_eq_true]; done)

def kw_respond : Writes := ⟨[0x407007, 0x407008, 0x408102, 0x408103, 0xB03004, 0xB04003], []⟩
theorem kp_respond {κ ν : Nat} (hq : Quiet kw_respond κ ν) (r : Read) {s : State} (hs : Holds κ ν s) : Holds κ ν (respond r s) := by
  unfold respond
  (try simp (maxDischargeDepth := 40) +contextual only [hs, hd_mk, hd_fold, hd_ite, ite_self, implies_true, kp_answerRead (hq.mono rfl),
        kp_dropRead (hq.mono rfl), kp_modRead (hq.mono rfl), kp_prefetch (hq.mono rfl), kp_refillPrompt (hq.mono rfl), ne_eq,
        not_false_eq_true])
  repeat' split
  all_goals first
    | (with_reducible exact hs)
    | (simp (maxDischargeDepth := 40) +contextual only [hs, hd_mk, hd_fold, hd_ite, ite_self, implies_true, kp_answerRead (hq.mono rfl),
        kp_dropRead (hq.mono rfl), kp_modRead (hq.mono rfl), kp_prefetch (hq.mono rfl), kp_refillPrompt (hq.mono rfl), ne_eq,
        not_false_eq_true]; done)

theorem kp_reportDeadline {κ ν : Nat} (hq : Quiet kw_none κ ν) (reads : List Read) (outcome : Nat) {s : State} (hs : Holds κ ν s) : Holds κ
        ν (reportDeadline reads outcome s) := by
  unfold reportDeadline
  (try simp (maxDischargeDepth := 40) +contextual only [hs, hd_mk, hd_fold, hd_ite, ite_self, implies_true, hd_raise hq, hd_foldl, ne_eq,
        not_false_eq_true])
  repeat' split
  all_goals first
    | (with_reducible exact hs)
    | (simp (maxDischargeDepth := 40) +contextual only [hs, hd_mk, hd_fold, hd_ite, ite_self, implies_true, hd_raise hq, hd_foldl, ne_eq,
        not_false_eq_true]; done)

def kw_fillSector : Writes := ⟨[0x407005, 0x407006, 0x40700B], []⟩
theorem kp_fillSector {κ ν : Nat} (hq : Quiet kw_fillSector κ ν) (r : Read) (all : List Read) (tags : BitVec 4) {s : State} (hs : Holds κ ν s) :
    Holds κ ν (fillSector r all tags s) := by
  refine hd_cond (hd_foldl (fun t l ht => ?_) _ hs) (kp_fill (hq.mono rfl) _ _ hs)
  split
  · exact kp_fill (hq.mono rfl) _ _ ht
  · exact ht

def kw_openRetry : Writes := ⟨[], [(0x612000, 0x613000, 256)]⟩
theorem kp_openRetry {κ ν : Nat} (hq : Quiet kw_openRetry κ ν) (r : Read) {s : State} (hs : Holds κ ν s) : Holds κ ν (openRetry r s) := by
  unfold openRetry
  simp (maxDischargeDepth := 40) +contextual only [hs, hd_mk, hd_fold, hd_ite, ite_self, implies_true, kp_reconstructionReads (hq.mono rfl),
        kp_sectorMoved (hq.mono rfl), ne_eq, not_false_eq_true]

def kw_startRetry : Writes := ⟨[], [(0x612000, 0x613000, 256)]⟩
theorem kp_startRetry {κ ν : Nat} (hq : Quiet kw_startRetry κ ν) (r : Read) {s : State} (hs : Holds κ ν s) : Holds κ ν (startRetry r s) :=
        by
  unfold startRetry
  simp (maxDischargeDepth := 40) +contextual only [hs, hd_mk, hd_fold, hd_ite, ite_self, implies_true, kp_modRead (hq.mono rfl), kp_openRetry
        (hq.mono rfl), kp_refillPrompt (hq.mono rfl), ne_eq, not_false_eq_true]

def kw_ladderLines : Writes := ⟨[], [(0x612000, 0x613000, 256)]⟩
theorem kp_ladderLines {κ ν : Nat} (hq : Quiet kw_ladderLines κ ν) (r : Read) (tags : BitVec 4) {s : State} (hs : Holds κ ν s) : Holds κ ν
        (ladderLines r tags s) := by
  unfold ladderLines
  simp (maxDischargeDepth := 40) +contextual only [hs, hd_mk, hd_fold, hd_ite, ite_self, implies_true, kp_addRead (hq.mono rfl), kp_openRetry
        (hq.mono rfl), hd_foldl, ne_eq, not_false_eq_true]

def kw_installLine : Writes := ⟨[0x407005, 0x407006], []⟩
theorem kp_installLine {κ ν : Nat} (hq : Quiet kw_installLine κ ν) (r : Read) {s : State} (hs : Holds κ ν s) : Holds κ ν (installLine r s)
        := by
  unfold installLine
  simp (maxDischargeDepth := 40) +contextual only [hs, hd_mk, hd_fold, hd_ite, ite_self, implies_true, kp_installFill (hq.mono rfl), ne_eq,
        not_false_eq_true]

theorem kp_takeBlocks {κ ν : Nat} (hq : Quiet kw_none κ ν) (blocks : List (Nat × Option Nat)) {s : State} (hs : Holds κ ν s) : Holds κ ν
        (takeBlocks blocks s) := by
  unfold takeBlocks
  simp (maxDischargeDepth := 40) +contextual only [hs, hd_mk, hd_fold, hd_ite, ite_self, implies_true, ne_eq, not_false_eq_true]

theorem kp_takeOld {κ ν : Nat} (hq : Quiet kw_none κ ν) {s : State} (hs : Holds κ ν s) : Holds κ ν (takeOld s) := by
  unfold takeOld
  simp (maxDischargeDepth := 40) +contextual only [hs, hd_mk, hd_fold, hd_ite, ite_self, implies_true, ne_eq, not_false_eq_true]

theorem kp_evict {κ ν : Nat} (hq : Quiet kw_none κ ν) {s : State} (hs : Holds κ ν s) : Holds κ ν (evict s) := by
  unfold evict
  simp (maxDischargeDepth := 40) +contextual only [hs, hd_mk, hd_fold, hd_ite, ite_self, implies_true, kp_takeBlocks (hq.mono rfl), kp_takeOld
        (hq.mono rfl), ne_eq, not_false_eq_true]

theorem kp_stageLine {κ ν : Nat} (hq : Quiet kw_none κ ν) (line : Nat) (grp tag : Option Nat) (d : Line) (poison : Bool) (stamp wmode : Nat)
        (cmpTo : List (Port × Nat)) {s : State} (hs : Holds κ ν s) : Holds κ ν (stageLine line grp tag d poison stamp wmode cmpTo s) := by
  unfold stageLine
  simp (maxDischargeDepth := 40) +contextual only [hs, hd_mk, hd_fold, hd_ite, ite_self, implies_true, kp_evict (hq.mono rfl), ne_eq,
        not_false_eq_true]

theorem kp_storeCommitted {κ ν : Nat} (hq : Quiet kw_none κ ν) (line : Nat) (d : Line) (poison : Bool) (stamp wmode : Nat) (cmpTo : List
        (Port × Nat)) {s : State} (hs : Holds κ ν s) : Holds κ ν (storeCommitted line d poison stamp wmode cmpTo s) := by
  unfold storeCommitted
  simp (maxDischargeDepth := 40) +contextual only [hs, hd_mk, hd_fold, hd_ite, ite_self, implies_true, kp_dirtySegment (hq.mono rfl),
        kp_pruneRanges (hq.mono rfl), kp_stageLine (hq.mono rfl), kp_storeToCaches (hq.mono rfl), ne_eq, not_false_eq_true]

theorem kp_storeProvisional {κ ν : Nat} (hq : Quiet kw_none κ ν) (g line : Nat) (d : Line) (poison : Bool) (stamp wmode : Nat) (cmpTo : List
        (Port × Nat)) {s : State} (hs : Holds κ ν s) : Holds κ ν (storeProvisional g line d poison stamp wmode cmpTo s) := by
  unfold storeProvisional
  simp (maxDischargeDepth := 40) +contextual only [hs, hd_mk, hd_fold, hd_ite, ite_self, implies_true, kp_setGroup (hq.mono rfl), kp_checkPool
        (hq.mono rfl), kp_dirtySegment (hq.mono rfl), kp_stageLine (hq.mono rfl), ne_eq, not_false_eq_true]

theorem kp_markConflict {κ ν : Nat} (hq : Quiet kw_none κ ν) (g page : Nat) {s : State} (hs : Holds κ ν s) : Holds κ ν (markConflict g page
        s) := by
  unfold markConflict
  simp (maxDischargeDepth := 40) +contextual only [hs, hd_mk, hd_fold, hd_ite, ite_self, implies_true, kp_setGroup (hq.mono rfl), ne_eq,
        not_false_eq_true]

def kw_sampleStore : Writes := ⟨[0xB03004, 0xB04003], []⟩
theorem kp_sampleStore {κ ν : Nat} (hq : Quiet kw_sampleStore κ ν) (p : Port) (x : Store) (stamp : Nat) {s : State} (hs : Holds κ ν s) :
        Holds κ ν (sampleStore p x stamp s) := by
  unfold sampleStore
  simp (maxDischargeDepth := 40) +contextual only [hs, hd_mk, hd_fold, hd_ite, ite_self, implies_true, kp_placeSample (hq.mono rfl), ne_eq,
        not_false_eq_true]

def kw_cmpStore : Writes := ⟨[0x302005, 0x302006, 0xB03004, 0xB04003], []⟩
theorem kp_cmpStore {κ ν : Nat} (hq : Quiet kw_cmpStore κ ν) (p : Port) (x : Store) {s : State} (hs : Holds κ ν s) : Holds κ ν (cmpStore p x
        s) := by
  unfold cmpStore
  simp (maxDischargeDepth := 40) +contextual only [hs, hd_mk, hd_fold, hd_ite, ite_self, implies_true, kp_sendCmp (hq.mono rfl), ne_eq,
        not_false_eq_true]

def kw_visibleStore : Writes := ⟨[0x302001, 0x302002, 0x302005, 0x302006, 0x502007, 0x611003, 0x619004, 0xB03004, 0xB04003], [(0x612000,
        0x613000, 256), (0x620000, 0x624000, 256)]⟩
theorem kp_visibleStore {κ ν : Nat} (hq : Quiet kw_visibleStore κ ν) (p : Port) (x : Store) (d : Line) (poison : Bool) {s : State} (hs :
        Holds κ ν s) : Holds κ ν (visibleStore p x d poison s) := by
  unfold visibleStore
  (try simp (maxDischargeDepth := 40) +contextual only [hs, hd_mk, hd_fold, hd_ite, ite_self, implies_true, kp_cmpStore (hq.mono rfl),
        kp_dropStores (hq.mono rfl), kp_forceAbort (hq.mono rfl), kp_markConflict (hq.mono rfl), kp_sampleStore (hq.mono rfl),
        kp_storeCommitted (hq.mono rfl), kp_storeProvisional (hq.mono rfl), hd_takeStamp hq, ne_eq, not_false_eq_true])
  repeat' split
  all_goals first
    | (with_reducible exact hs)
    | (simp (maxDischargeDepth := 40) +contextual only [hs, hd_mk, hd_fold, hd_ite, ite_self, implies_true, kp_cmpStore (hq.mono rfl),
        kp_dropStores (hq.mono rfl), kp_forceAbort (hq.mono rfl), kp_markConflict (hq.mono rfl), kp_sampleStore (hq.mono rfl),
        kp_storeCommitted (hq.mono rfl), kp_storeProvisional (hq.mono rfl), hd_takeStamp hq, ne_eq, not_false_eq_true]; done)

theorem kp_unqueue {κ ν : Nat} (hq : Quiet kw_none κ ν) (p : Port) (x : Store) {s : State} (hs : Holds κ ν s) : Holds κ ν (unqueue p x s) :=
        by
  unfold unqueue
  simp (maxDischargeDepth := 40) +contextual only [hs, hd_mk, hd_fold, hd_ite, ite_self, implies_true, kp_modPort (hq.mono rfl),
        kp_grantCredits (hq.mono rfl), ne_eq, not_false_eq_true]

theorem kp_endMerge {κ ν : Nat} (hq : Quiet kw_none κ ν) (p : Port) (x : Store) {s : State} (hs : Holds κ ν s) : Holds κ ν (endMerge p x s)
        := by
  unfold endMerge
  (try simp (maxDischargeDepth := 40) +contextual only [hs, hd_mk, hd_fold, hd_ite, ite_self, implies_true, kp_dropRead (hq.mono rfl), ne_eq,
        not_false_eq_true])
  repeat' split
  all_goals first
    | (with_reducible exact hs)
    | (simp (maxDischargeDepth := 40) +contextual only [hs, hd_mk, hd_fold, hd_ite, ite_self, implies_true, kp_dropRead (hq.mono rfl), ne_eq,
        not_false_eq_true]; done)

def kw_transfer : Writes := ⟨[0x302001, 0x302002, 0x302005, 0x302006, 0x406009, 0x408102, 0x408103, 0x502007, 0x611003, 0x619004, 0xB03004,
        0xB04003], [(0x612000, 0x613000, 256), (0x620000, 0x624000, 256)]⟩
theorem kp_transfer {κ ν : Nat} (hq : Quiet kw_transfer κ ν) (p : Port) (x : Store) {s : State} (hs : Holds κ ν s) : Holds κ ν (transfer p x
        s) := by
  have n0 : κ ≠ 0x406009 := hq.ne rfl
  unfold transfer
  simp (maxDischargeDepth := 40) +contextual only [hs, hd_mk, hd_fold, hd_ite, ite_self, implies_true, n0, hd_bump, kp_answerMerges (hq.mono
        rfl), kp_cmpStore (hq.mono rfl), kp_endMerge (hq.mono rfl), hd_raise hq, kp_unqueue (hq.mono rfl), kp_visibleStore (hq.mono rfl),
        ne_eq, not_false_eq_true]

def kw_settleHolds : Writes := ⟨[0x302001, 0x302002, 0x302005, 0x302006, 0x502004, 0x502005, 0x502006, 0x502007, 0x502009, 0x611003,
        0x619004, 0xB03004, 0xB04003], [(0x612000, 0x613000, 256), (0x620000, 0x624000, 256)]⟩
theorem kp_settleHolds {κ ν : Nat} (hq : Quiet kw_settleHolds κ ν) (p : Port) {s : State} (hs : Holds κ ν s) : Holds κ ν (settleHolds p s) := by
  refine hd_foldl (fun t x ht => ?_) _ hs
  split
  · exact ht
  · exact kp_settle (hq.mono rfl) _ ht

def kw_drainLoop : Writes := ⟨[0x302001, 0x302002, 0x302005, 0x302006, 0x404105, 0x404106, 0x406009, 0x407008, 0x407009, 0x408101, 0x408102,
        0x408103, 0x408106, 0x502007, 0x611003, 0x619004, 0xB03004, 0xB04003], [(0x612000, 0x613000, 256), (0x620000, 0x624000, 256)]⟩
theorem kp_drainLoop {κ ν : Nat} (hq : Quiet kw_drainLoop κ ν) (n : Nat) (p : Port) (bound : Nat) {s : State} (hs : Holds κ ν s) : Holds κ ν (drainLoop n p bound s) := by
  induction n generalizing s with
  | zero => exact hs
  | succ n ih =>
    unfold drainLoop
    split
    · exact hs
    · exact ih (kp_transfer (hq.mono rfl) _ _ (hd_cond hs (kp_demandNow (hq.mono rfl) _ hs)))

def kw_drainTo : Writes := ⟨[0x302001, 0x302002, 0x302005, 0x302006, 0x404105, 0x404106, 0x406009, 0x407008, 0x407009, 0x408101, 0x408102,
        0x408103, 0x408106, 0x502004, 0x502005, 0x502006, 0x502007, 0x502009, 0x611003, 0x619004, 0xB03004, 0xB04003], [(0x612000, 0x613000,
        256), (0x620000, 0x624000, 256)]⟩
theorem kp_drainTo {κ ν : Nat} (hq : Quiet kw_drainTo κ ν) (p : Port) (bound : Nat) {s : State} (hs : Holds κ ν s) : Holds κ ν (drainTo p
        bound s) := by
  unfold drainTo
  simp (maxDischargeDepth := 40) +contextual only [hs, hd_mk, hd_fold, hd_ite, ite_self, implies_true, kp_modPort (hq.mono rfl), kp_drainLoop
        (hq.mono rfl), kp_settleHolds (hq.mono rfl), ne_eq, not_false_eq_true]

def kw_drainPort : Writes := ⟨[0x302001, 0x302002, 0x302005, 0x302006, 0x404105, 0x404106, 0x406009, 0x407008, 0x407009, 0x408101, 0x408102,
        0x408103, 0x408106, 0x502004, 0x502005, 0x502006, 0x502007, 0x502009, 0x611003, 0x619004, 0xB03004, 0xB04003], [(0x612000, 0x613000,
        256), (0x620000, 0x624000, 256)]⟩
theorem kp_drainPort {κ ν : Nat} (hq : Quiet kw_drainPort κ ν) (p : Port) {s : State} (hs : Holds κ ν s) : Holds κ ν (drainPort p s) := by
  unfold drainPort
  simp (maxDischargeDepth := 40) +contextual only [hs, hd_mk, hd_fold, hd_ite, ite_self, implies_true, kp_drainTo (hq.mono rfl), ne_eq,
        not_false_eq_true]

theorem kp_writeCell {κ ν : Nat} (hq : Quiet kw_none κ ν) (c : Nat) (be : ByteEnables) (d : Line) {s : State} (hs : Holds κ ν s) : Holds κ ν
        (writeCell c be d s) := by
  unfold writeCell
  simp (maxDischargeDepth := 40) +contextual only [hs, hd_mk, hd_fold, hd_ite, ite_self, implies_true, hd_foldl, ne_eq, not_false_eq_true]

theorem kp_setReserved {κ ν : Nat} (hq : Quiet kw_none κ ν) (p : Port) (l : List Nat) {s : State} (hs : Holds κ ν s) : Holds κ ν
        (setReserved p l s) := by
  unfold setReserved
  (try simp (maxDischargeDepth := 40) +contextual only [hs, hd_mk, hd_fold, hd_ite, ite_self, implies_true, ne_eq, not_false_eq_true])
  repeat' split
  all_goals first
    | (with_reducible exact hs)
    | (simp (maxDischargeDepth := 40) +contextual only [hs, hd_mk, hd_fold, hd_ite, ite_self, implies_true, ne_eq, not_false_eq_true]; done)

theorem kp_setResultLine {κ ν : Nat} (hq : Quiet kw_none κ ν) (p : Port) (c : Nat) (r : ResultLine) {s : State} (hs : Holds κ ν s) : Holds κ
        ν (setResultLine p c r s) := by
  unfold setResultLine
  (try simp (maxDischargeDepth := 40) +contextual only [hs, hd_mk, hd_fold, hd_ite, ite_self, implies_true, ne_eq, not_false_eq_true])
  repeat' split
  all_goals first
    | (with_reducible exact hs)
    | (simp (maxDischargeDepth := 40) +contextual only [hs, hd_mk, hd_fold, hd_ite, ite_self, implies_true, ne_eq, not_false_eq_true]; done)

theorem kp_loseReservation {κ ν : Nat} (hq : Quiet kw_none κ ν) (p : Port) (c : Nat) (cause : LossCause) {s : State} (hs : Holds κ ν s) :
        Holds κ ν (loseReservation p c cause s) := by
  unfold loseReservation
  simp (maxDischargeDepth := 40) +contextual only [hs, hd_mk, hd_fold, hd_ite, ite_self, implies_true, kp_setReserved (hq.mono rfl),
        kp_setResultLine (hq.mono rfl), ne_eq, not_false_eq_true]

theorem kp_loseAll {κ ν : Nat} (hq : Quiet kw_none κ ν) (p : Port) (cause : LossCause) {s : State} (hs : Holds κ ν s) : Holds κ ν (loseAll p
        cause s) := by
  unfold loseAll
  simp (maxDischargeDepth := 40) +contextual only [hs, hd_mk, hd_fold, hd_ite, ite_self, implies_true, kp_loseReservation (hq.mono rfl),
        hd_foldl, ne_eq, not_false_eq_true]

def kw_reserve : Writes := ⟨[0x508003, 0x508004], []⟩
theorem kp_reserve {κ ν : Nat} (hq : Quiet kw_reserve κ ν) (p : Port) (c : Nat) {s : State} (hs : Holds κ ν s) : Holds κ ν (reserve p c s)
        := by
  have n0 : κ ≠ 0x508003 := hq.ne rfl
  have n1 : κ ≠ 0x508004 := hq.ne rfl
  have c508003 : ∀ p : Port, κ ≠ 0x508003 + p.code := by intro p; cases p <;> first | exact n0 | exact n1
  unfold reserve
  simp (maxDischargeDepth := 40) +contextual only [hs, hd_mk, hd_fold, hd_ite, ite_self, implies_true, n0, n1, c508003, hd_bump, hd_raise hq,
        kp_setReserved (hq.mono rfl), kp_setResultLine (hq.mono rfl), ne_eq, not_false_eq_true]

theorem kp_plainStore {κ ν : Nat} (hq : Quiet kw_none κ ν) (p : Port) (c : Nat) (be : ByteEnables) (d : Line) {s : State} (hs : Holds κ ν s)
        : Holds κ ν (plainStore p c be d s) := by
  unfold plainStore
  simp (maxDischargeDepth := 40) +contextual only [hs, hd_mk, hd_fold, hd_ite, ite_self, implies_true, kp_loseReservation (hq.mono rfl),
        hd_takeStamp hq, kp_writeCell (hq.mono rfl), ne_eq, not_false_eq_true]

def kw_conditionalEffect : Writes := ⟨[0x508005, 0x508006], []⟩
theorem kp_conditionalEffect {κ ν : Nat} (hq : Quiet kw_conditionalEffect κ ν) (p : Port) (c : Nat) (be : ByteEnables) (d : Line) {s :
        State} (hs : Holds κ ν s) : Holds κ ν (conditionalEffect p c be d s) := by
  have n0 : κ ≠ 0x508005 := hq.ne rfl
  have n1 : κ ≠ 0x508006 := hq.ne rfl
  have c508005 : ∀ p : Port, κ ≠ 0x508005 + p.code := by intro p; cases p <;> first | exact n0 | exact n1
  unfold conditionalEffect
  simp (maxDischargeDepth := 40) +contextual only [hs, hd_mk, hd_fold, hd_ite, ite_self, implies_true, n0, n1, c508005, hd_bump,
        kp_loseReservation (hq.mono rfl), kp_setReserved (hq.mono rfl), kp_setResultLine (hq.mono rfl), hd_takeStamp hq, kp_writeCell
        (hq.mono rfl), ne_eq, not_false_eq_true]

def kw_clearBarrier : Writes := ⟨[0x302003, 0x302004], []⟩
theorem kp_clearBarrier {κ ν : Nat} (hq : Quiet kw_clearBarrier κ ν) (p : Port) {s : State} (hs : Holds κ ν s) : Holds κ ν (clearBarrier p
        s) := by
  have n0 : κ ≠ 0x302003 := hq.ne rfl
  have n1 : κ ≠ 0x302004 := hq.ne rfl
  have c302003 : ∀ p : Port, κ ≠ 0x302003 + p.code := by intro p; cases p <;> first | exact n0 | exact n1
  unfold clearBarrier
  simp (maxDischargeDepth := 40) +contextual only [hs, hd_mk, hd_fold, hd_ite, ite_self, implies_true, n0, n1, c302003, hd_bump, kp_modPort
        (hq.mono rfl), ne_eq, not_false_eq_true]

theorem kp_startDiscard {κ ν : Nat} (hq : Quiet kw_none κ ν) (p : Port) {s : State} (hs : Holds κ ν s) : Holds κ ν (startDiscard p s) := by
  unfold startDiscard
  simp (maxDischargeDepth := 40) +contextual only [hs, hd_mk, hd_fold, hd_ite, ite_self, implies_true, kp_modPort (hq.mono rfl), ne_eq,
        not_false_eq_true]

theorem kp_writeDiscard {κ ν : Nat} (hq : Quiet kw_none κ ν) (p : Port) (be : ByteEnables) (d : Line) {s : State} (hs : Holds κ ν s) : Holds
        κ ν (writeDiscard p be d s) := by
  unfold writeDiscard
  (try simp (maxDischargeDepth := 40) +contextual only [hs, hd_mk, hd_fold, hd_ite, ite_self, implies_true, kp_modPort (hq.mono rfl),
        kp_startDiscard (hq.mono rfl), ne_eq, not_false_eq_true])
  repeat' split
  all_goals first
    | (with_reducible exact hs)
    | (simp (maxDischargeDepth := 40) +contextual only [hs, hd_mk, hd_fold, hd_ite, ite_self, implies_true, kp_modPort (hq.mono rfl),
        kp_startDiscard (hq.mono rfl), ne_eq, not_false_eq_true]; done)

theorem kp_writeDescriptor {κ ν : Nat} (hq : Quiet kw_none κ ν) (k : Nat) (be : ByteEnables) (d : Line) {s : State} (hs : Holds κ ν s) :
        Holds κ ν (writeDescriptor k be d s) := by
  unfold writeDescriptor
  simp (maxDischargeDepth := 40) +contextual only [hs, hd_mk, hd_fold, hd_ite, ite_self, implies_true, kp_setChannel (hq.mono rfl), ne_eq,
        not_false_eq_true]

theorem kp_startDma {κ ν : Nat} (hq : Quiet kw_none κ ν) (p : Port) (k : Nat) {s : State} (hs : Holds κ ν s) : Holds κ ν (startDma p k s) :=
        by
  unfold startDma
  simp (maxDischargeDepth := 40) +contextual only [hs, hd_mk, hd_fold, hd_ite, ite_self, implies_true, kp_setChannel (hq.mono rfl), ne_eq,
        not_false_eq_true]

theorem kp_abortDma {κ ν : Nat} (hq : Quiet kw_none κ ν) (k : Nat) {s : State} (hs : Holds κ ν s) : Holds κ ν (abortDma k s) := by
  unfold abortDma
  simp (maxDischargeDepth := 40) +contextual only [hs, hd_mk, hd_fold, hd_ite, ite_self, implies_true, kp_setChannel (hq.mono rfl), ne_eq,
        not_false_eq_true]

theorem kp_writeControl {κ ν : Nat} (hq : Quiet kw_none κ ν) (p : Port) (k : Nat) (be : ByteEnables) (d : Line) {s : State} (hs : Holds κ ν
        s) : Holds κ ν (writeControl p k be d s) := by
  unfold writeControl
  (try simp (maxDischargeDepth := 40) +contextual only [hs, hd_mk, hd_fold, hd_ite, ite_self, implies_true, kp_abortDma (hq.mono rfl),
        kp_startDma (hq.mono rfl), ne_eq, not_false_eq_true])
  repeat' split
  all_goals first
    | (with_reducible exact hs)
    | (simp (maxDischargeDepth := 40) +contextual only [hs, hd_mk, hd_fold, hd_ite, ite_self, implies_true, kp_abortDma (hq.mono rfl), kp_startDma
        (hq.mono rfl), ne_eq, not_false_eq_true]; done)

def kw_countWindow : Writes := ⟨[0xB03005], []⟩
theorem kp_countWindow {κ ν : Nat} (hq : Quiet kw_countWindow κ ν) (p : Port) (code : Nat) {s : State} (hs : Holds κ ν s) : Holds κ ν
        (countWindow p code s) := by
  unfold countWindow
  simp (maxDischargeDepth := 40) +contextual only [hs, hd_mk, hd_fold, hd_ite, ite_self, implies_true, hd_count1 hq, kp_countEligible (hq.mono
        rfl), ne_eq, not_false_eq_true]

def kw_answerWindow : Writes := ⟨[0xB03004, 0xB04003], []⟩
theorem kp_answerWindow {κ ν : Nat} (hq : Quiet kw_answerWindow κ ν) (p : Port) (tag line : Nat) (sampled : Bool) (d : Line) {s : State} (hs
        : Holds κ ν s) : Holds κ ν (answerWindow p tag line sampled d s) := by
  unfold answerWindow
  simp (maxDischargeDepth := 40) +contextual only [hs, hd_mk, hd_fold, hd_ite, ite_self, implies_true, kp_sampleWindow (hq.mono rfl),
        kp_sendData (hq.mono rfl), ne_eq, not_false_eq_true]

def kw_readGroup : Writes := ⟨[0xB03004, 0xB04003], []⟩
theorem kp_readGroup {κ ν : Nat} (hq : Quiet kw_readGroup κ ν) (p : Port) (tag line g seq : Nat) (sampled : Bool) {s : State} (hs : Holds κ
        ν s) : Holds κ ν (readGroup p tag line g seq sampled s) := by
  unfold readGroup
  simp (maxDischargeDepth := 40) +contextual only [hs, hd_mk, hd_fold, hd_ite, ite_self, implies_true, kp_setGroup (hq.mono rfl),
        kp_answerWindow (hq.mono rfl), ne_eq, not_false_eq_true]

def kw_readCell : Writes := ⟨[0x508003, 0x508004, 0xB03004, 0xB04003], []⟩
theorem kp_readCell {κ ν : Nat} (hq : Quiet kw_readCell κ ν) (p : Port) (tag line aliasNo c : Nat) (sampled : Bool) {s : State} (hs : Holds
        κ ν s) : Holds κ ν (readCell p tag line aliasNo c sampled s) := by
  unfold readCell
  simp (maxDischargeDepth := 40) +contextual only [hs, hd_mk, hd_fold, hd_ite, ite_self, implies_true, kp_answerWindow (hq.mono rfl), kp_drawn
        (hq.mono rfl), kp_reserve (hq.mono rfl), ne_eq, not_false_eq_true]

def kw_readBarrier : Writes := ⟨[0x302003, 0x302004, 0x302005, 0x302006, 0xB03004, 0xB04003], []⟩
theorem kp_readBarrier {κ ν : Nat} (hq : Quiet kw_readBarrier κ ν) (p : Port) (tag line acceptedAt : Nat) (sampled : Bool) {s : State} (hs :
        Holds κ ν s) : Holds κ ν (readBarrier p tag line acceptedAt sampled s) := by
  unfold readBarrier
  simp (maxDischargeDepth := 40) +contextual only [hs, hd_mk, hd_fold, hd_ite, ite_self, implies_true, kp_modPort (hq.mono rfl),
        kp_answerBarrier (hq.mono rfl), kp_clearBarrier (hq.mono rfl), ne_eq, not_false_eq_true]

def kw_readPortPage : Writes := ⟨[0x301008, 0x301108, 0x302003, 0x302004, 0x302005, 0x302006, 0xB03004, 0xB04003], []⟩
theorem kp_readPortPage {κ ν : Nat} (hq : Quiet kw_readPortPage κ ν) (p owner : Port) (tag line acceptedAt offset : Nat) (sampled : Bool) {s
        : State} (hs : Holds κ ν s) : Holds κ ν (readPortPage p owner tag line acceptedAt offset sampled s) := by
  unfold readPortPage
  simp (maxDischargeDepth := 40) +contextual only [hs, hd_mk, hd_fold, hd_ite, ite_self, implies_true, kp_answerWindow (hq.mono rfl),
        kp_readBarrier (hq.mono rfl), kp_stray (hq.mono rfl), ne_eq, not_false_eq_true]

def kw_readDma : Writes := ⟨[0x301008, 0x301108, 0xB03004, 0xB04003], []⟩
theorem kp_readDma {κ ν : Nat} (hq : Quiet kw_readDma κ ν) (p : Port) (tag line k offset : Nat) (sampled : Bool) {s : State} (hs : Holds κ ν
        s) : Holds κ ν (readDma p tag line k offset sampled s) := by
  unfold readDma
  simp (maxDischargeDepth := 40) +contextual only [hs, hd_mk, hd_fold, hd_ite, ite_self, implies_true, kp_answerWindow (hq.mono rfl), kp_stray
        (hq.mono rfl), ne_eq, not_false_eq_true]

def kw_readTarget : Writes := ⟨[0x301008, 0x301108, 0x302003, 0x302004, 0x302005, 0x302006, 0x508003, 0x508004, 0xB03004, 0xB04003], []⟩
theorem kp_readTarget {κ ν : Nat} (hq : Quiet kw_readTarget κ ν) (p : Port) (w : PortWait) {s : State} (hs : Holds κ ν s) (t : WindowTarget) :
    Holds κ ν (readTarget p w s t) := by
  cases t with
  | groupLine g => exact kp_readGroup (hq.mono rfl) _ _ _ _ _ _ hs
  | cell a c => exact kp_readCell (hq.mono rfl) _ _ _ _ _ _ hs
  | portPage o f => exact kp_readPortPage (hq.mono rfl) _ _ _ _ _ _ _ hs
  | counters l => exact kp_answerWindow (hq.mono rfl) _ _ _ _ _ hs
  | dma k f => exact kp_readDma (hq.mono rfl) _ _ _ _ _ _ hs
  | unused => exact kp_answerWindow (hq.mono rfl) _ _ _ _ _ (kp_stray (hq.mono rfl) _ hs)

def kw_writeGroup : Writes := ⟨[0x301008, 0x301108, 0x302001, 0x302002], []⟩
theorem kp_writeGroup {κ ν : Nat} (hq : Quiet kw_writeGroup κ ν) (p : Port) (g seq : Nat) (be : ByteEnables) (d : Line) {s : State} (hs :
        Holds κ ν s) : Holds κ ν (writeGroup p g seq be d s) := by
  unfold writeGroup
  (try simp (maxDischargeDepth := 40) +contextual only [hs, hd_mk, hd_fold, hd_ite, ite_self, implies_true, kp_setGroup (hq.mono rfl),
        kp_dropStores (hq.mono rfl), hd_raise hq, kp_strayIf (hq.mono rfl), kp_submitCommand (hq.mono rfl), ne_eq, not_false_eq_true])
  repeat' split
  all_goals first
    | (with_reducible exact hs)
    | (simp (maxDischargeDepth := 40) +contextual only [hs, hd_mk, hd_fold, hd_ite, ite_self, implies_true, kp_setGroup (hq.mono rfl),
        kp_dropStores (hq.mono rfl), hd_raise hq, kp_strayIf (hq.mono rfl), kp_submitCommand (hq.mono rfl), ne_eq, not_false_eq_true]; done)

def kw_writeAlias : Writes := ⟨[0x301008, 0x301108, 0x302001, 0x302002, 0x508005, 0x508006], []⟩
theorem kp_writeAlias {κ ν : Nat} (hq : Quiet kw_writeAlias κ ν) (p : Port) (aliasNo c : Nat) (be : ByteEnables) (d : Line) {s : State} (hs
        : Holds κ ν s) : Holds κ ν (writeAlias p aliasNo c be d s) := by
  unfold writeAlias
  simp (maxDischargeDepth := 40) +contextual only [hs, hd_mk, hd_fold, hd_ite, ite_self, implies_true, kp_conditionalEffect (hq.mono rfl),
        kp_dropStores (hq.mono rfl), kp_plainStore (hq.mono rfl), kp_stray (hq.mono rfl), kp_strayIf (hq.mono rfl), ne_eq,
        not_false_eq_true]

def kw_writePortPage : Writes := ⟨[0x301008, 0x301108], []⟩
theorem kp_writePortPage {κ ν : Nat} (hq : Quiet kw_writePortPage κ ν) (p owner : Port) (offset : Nat) (be : ByteEnables) (d : Line) {s :
        State} (hs : Holds κ ν s) : Holds κ ν (writePortPage p owner offset be d s) := by
  unfold writePortPage
  simp (maxDischargeDepth := 40) +contextual only [hs, hd_mk, hd_fold, hd_ite, ite_self, implies_true, kp_stray (hq.mono rfl), kp_strayIf
        (hq.mono rfl), kp_writeDiscard (hq.mono rfl), ne_eq, not_false_eq_true]

def kw_writeDma : Writes := ⟨[0x301008, 0x301108, 0x302001, 0x302002], []⟩
theorem kp_writeDma {κ ν : Nat} (hq : Quiet kw_writeDma κ ν) (p : Port) (k offset : Nat) (be : ByteEnables) (d : Line) {s : State} (hs :
        Holds κ ν s) : Holds κ ν (writeDma p k offset be d s) := by
  unfold writeDma
  simp (maxDischargeDepth := 40) +contextual only [hs, hd_mk, hd_fold, hd_ite, ite_self, implies_true, kp_dropStores (hq.mono rfl), kp_stray
        (hq.mono rfl), kp_strayIf (hq.mono rfl), kp_writeControl (hq.mono rfl), kp_writeDescriptor (hq.mono rfl), ne_eq, not_false_eq_true]

def kw_writeTarget : Writes := ⟨[0x301008, 0x301108, 0x302001, 0x302002, 0x508005, 0x508006], []⟩
theorem kp_writeTarget {κ ν : Nat} (hq : Quiet kw_writeTarget κ ν) (p : Port) (seq : Nat) (be : ByteEnables) (d : Line) {s : State} (hs : Holds κ ν s) (t : WindowTarget) :
    Holds κ ν (writeTarget p seq be d s t) := by
  cases t with
  | groupLine g => exact kp_writeGroup (hq.mono rfl) _ _ _ _ _ hs
  | cell a c => exact kp_writeAlias (hq.mono rfl) _ _ _ _ _ hs
  | portPage o f => exact kp_writePortPage (hq.mono rfl) _ _ _ _ _ hs
  | counters l => exact kp_stray (hq.mono rfl) _ hs
  | dma k f => exact kp_writeDma (hq.mono rfl) _ _ _ _ _ hs
  | unused => exact kp_stray (hq.mono rfl) _ hs

def kw_serveAccess : Writes := ⟨[0x301008, 0x301108, 0x302001, 0x302002, 0x302003, 0x302004, 0x302005, 0x302006, 0x508003, 0x508004,
        0x508005, 0x508006, 0xB03004, 0xB04003], []⟩
theorem kp_serveAccess {κ ν : Nat} (hq : Quiet kw_serveAccess κ ν) (p : Port) (w : PortWait) {s : State} (hs : Holds κ ν s) : Holds κ ν
        (serveAccess p w s) := by
  unfold serveAccess
  (try simp (maxDischargeDepth := 40) +contextual only [hs, hd_mk, hd_fold, hd_ite, ite_self, implies_true, kp_readTarget (hq.mono rfl),
        kp_sampleWindow (hq.mono rfl), kp_sendCmp (hq.mono rfl), kp_stray (hq.mono rfl), kp_writeTarget (hq.mono rfl), ne_eq,
        not_false_eq_true])
  repeat' split
  all_goals first
    | (with_reducible exact hs)
    | (simp (maxDischargeDepth := 40) +contextual only [hs, hd_mk, hd_fold, hd_ite, ite_self, implies_true, kp_readTarget (hq.mono rfl),
        kp_sampleWindow (hq.mono rfl), kp_sendCmp (hq.mono rfl), kp_stray (hq.mono rfl), kp_writeTarget (hq.mono rfl), ne_eq,
        not_false_eq_true]; done)

def kw_serveWaits : Writes := ⟨[0x301008, 0x301108, 0x302001, 0x302002, 0x302003, 0x302004, 0x302005, 0x302006, 0x508003, 0x508004,
        0x508005, 0x508006, 0xB03004, 0xB04003], []⟩
theorem kp_serveWaits {κ ν : Nat} (hq : Quiet kw_serveWaits κ ν) (n : Nat) (p : Port) {s : State} (hs : Holds κ ν s) : Holds κ ν (serveWaits n p s) := by
  induction n generalizing s with
  | zero => exact hs
  | succ n ih =>
    unfold serveWaits
    split
    · exact hs
    · exact hd_cond hs (ih (kp_serveAccess (hq.mono rfl) _ _ (kp_modPort (hq.mono rfl) _ _ hs)))

theorem kp_serveFlushes {κ ν : Nat} (hq : Quiet kw_none κ ν) (p : Port) {s : State} (hs : Holds κ ν s) : Holds κ ν (serveFlushes p s) := by
  unfold serveFlushes
  simp (maxDischargeDepth := 40) +contextual only [hs, hd_mk, hd_fold, hd_ite, ite_self, implies_true, kp_modPort (hq.mono rfl), kp_emit
        (hq.mono rfl), hd_raiseIf hq, hd_foldl, ne_eq, not_false_eq_true]

def kw_resumePort : Writes := ⟨[0x301008, 0x301108, 0x302001, 0x302002, 0x302003, 0x302004, 0x302005, 0x302006, 0x404105, 0x404106,
        0x406009, 0x407008, 0x407009, 0x408101, 0x408102, 0x408103, 0x408106, 0x502004, 0x502005, 0x502006, 0x502007, 0x502009, 0x508003,
        0x508004, 0x508005, 0x508006, 0x611003, 0x619004, 0xB03004, 0xB04003], [(0x612000, 0x613000, 256), (0x620000, 0x624000, 256)]⟩
theorem kp_resumePort {κ ν : Nat} (hq : Quiet kw_resumePort κ ν) (p : Port) {s : State} (hs : Holds κ ν s) : Holds κ ν (resumePort p s) :=
        by
  unfold resumePort
  simp (maxDischargeDepth := 40) +contextual only [hs, hd_mk, hd_fold, hd_ite, ite_self, implies_true, kp_drainTo (hq.mono rfl),
        kp_serveFlushes (hq.mono rfl), kp_serveWaits (hq.mono rfl), ne_eq, not_false_eq_true]

def kw_triggerDrain : Writes := ⟨[0x301008, 0x301108, 0x302001, 0x302002, 0x302003, 0x302004, 0x302005, 0x302006, 0x404105, 0x404106,
        0x406009, 0x407008, 0x407009, 0x408101, 0x408102, 0x408103, 0x408106, 0x502004, 0x502005, 0x502006, 0x502007, 0x502009, 0x508003,
        0x508004, 0x508005, 0x508006, 0x611003, 0x619004, 0xB03004, 0xB04003], [(0x612000, 0x613000, 256), (0x620000, 0x624000, 256)]⟩
theorem kp_triggerDrain {κ ν : Nat} (hq : Quiet kw_triggerDrain κ ν) (p : Port) {s : State} (hs : Holds κ ν s) : Holds κ ν (triggerDrain p
        s) := by
  unfold triggerDrain
  simp (maxDischargeDepth := 40) +contextual only [hs, hd_mk, hd_fold, hd_ite, ite_self, implies_true, kp_drainPort (hq.mono rfl),
        kp_resumePort (hq.mono rfl), ne_eq, not_false_eq_true]

def kw_accessWindow : Writes := ⟨[0x301008, 0x301108, 0x302001, 0x302002, 0x302003, 0x302004, 0x302005, 0x302006, 0x404105, 0x404106,
        0x406009, 0x407008, 0x407009, 0x408101, 0x408102, 0x408103, 0x408106, 0x502004, 0x502005, 0x502006, 0x502007, 0x502009, 0x508003,
        0x508004, 0x508005, 0x508006, 0x611003, 0x619004, 0xB03004, 0xB03005, 0xB04003], [(0x612000, 0x613000, 256), (0x620000, 0x624000,
        256)]⟩
theorem kp_accessWindow {κ ν : Nat} (hq : Quiet kw_accessWindow κ ν) (p : Port) (tag dpa code : Nat) (ask : PortAsk) {s : State} (hs : Holds
        κ ν s) : Holds κ ν (accessWindow p tag dpa code ask s) := by
  unfold accessWindow
  simp (maxDischargeDepth := 40) +contextual only [hs, hd_mk, hd_fold, hd_ite, ite_self, implies_true, kp_modPort (hq.mono rfl),
        kp_countWindow (hq.mono rfl), kp_takeSeq (hq.mono rfl), kp_triggerDrain (hq.mono rfl), ne_eq, not_false_eq_true]

def kw_windowRead : Writes := ⟨[0x301008, 0x301108, 0x302001, 0x302002, 0x302003, 0x302004, 0x302005, 0x302006, 0x404105, 0x404106,
        0x406009, 0x407008, 0x407009, 0x408101, 0x408102, 0x408103, 0x408106, 0x502004, 0x502005, 0x502006, 0x502007, 0x502009, 0x508003,
        0x508004, 0x508005, 0x508006, 0x611003, 0x619004, 0xB03004, 0xB03005, 0xB04003], [(0x612000, 0x613000, 256), (0x620000, 0x624000,
        256)]⟩
theorem kp_windowRead {κ ν : Nat} (hq : Quiet kw_windowRead κ ν) (p : Port) (tag dpa : Nat) {s : State} (hs : Holds κ ν s) : Holds κ ν
        (windowRead p tag dpa s) := by
  unfold windowRead
  simp (maxDischargeDepth := 40) +contextual only [hs, hd_mk, hd_fold, hd_ite, ite_self, implies_true, kp_accessWindow (hq.mono rfl), ne_eq,
        not_false_eq_true]

def kw_windowWrite : Writes := ⟨[0x301008, 0x301108, 0x302001, 0x302002, 0x302003, 0x302004, 0x302005, 0x302006, 0x404105, 0x404106,
        0x406009, 0x407008, 0x407009, 0x408101, 0x408102, 0x408103, 0x408106, 0x502004, 0x502005, 0x502006, 0x502007, 0x502009, 0x508003,
        0x508004, 0x508005, 0x508006, 0x611003, 0x619004, 0xB03004, 0xB03005, 0xB04003], [(0x612000, 0x613000, 256), (0x620000, 0x624000,
        256)]⟩
theorem kp_windowWrite {κ ν : Nat} (hq : Quiet kw_windowWrite κ ν) (p : Port) (tag dpa : Nat) (be : ByteEnables) (d : Line) (poison : Bool)
        {s : State} (hs : Holds κ ν s) : Holds κ ν (windowWrite p tag dpa be d poison s) := by
  unfold windowWrite
  simp (maxDischargeDepth := 40) +contextual only [hs, hd_mk, hd_fold, hd_ite, ite_self, implies_true, kp_accessWindow (hq.mono rfl),
        kp_countWrite (hq.mono rfl), kp_useCredit (hq.mono rfl), ne_eq, not_false_eq_true]

def kw_groupCommandWrite : Writes := ⟨[0x301008, 0x301108, 0x302001, 0x302002, 0x302003, 0x302004, 0x302005, 0x302006, 0x404105, 0x404106,
        0x406009, 0x407008, 0x407009, 0x408101, 0x408102, 0x408103, 0x408106, 0x502004, 0x502005, 0x502006, 0x502007, 0x502009, 0x508003,
        0x508004, 0x508005, 0x508006, 0x611003, 0x619004, 0xB03004, 0xB03005, 0xB04003], [(0x612000, 0x613000, 256), (0x620000, 0x624000,
        256)]⟩
theorem kp_groupCommandWrite {κ ν : Nat} (hq : Quiet kw_groupCommandWrite κ ν) (p : Port) (tag g code : Nat) (a b : Option Word) {s : State}
        (hs : Holds κ ν s) : Holds κ ν (groupCommandWrite p tag g code a b s) := by
  unfold groupCommandWrite
  simp (maxDischargeDepth := 40) +contextual only [hs, hd_mk, hd_fold, hd_ite, ite_self, implies_true, kp_windowWrite (hq.mono rfl), ne_eq,
        not_false_eq_true]

def kw_raiseReady : Writes := ⟨[0x301001, 0x301004, 0x301101, 0x301104], []⟩
theorem kp_raiseReady {κ ν : Nat} (hq : Quiet kw_raiseReady κ ν) (p : Port) {s : State} (hs : Holds κ ν s) : Holds κ ν (raiseReady p s) :=
        by
  have n0 : κ ≠ 0x301001 := hq.ne rfl
  have n1 : κ ≠ 0x301004 := hq.ne rfl
  have n2 : κ ≠ 0x301101 := hq.ne rfl
  have n3 : κ ≠ 0x301104 := hq.ne rfl
  have p1 : ∀ p : Port, κ ≠ p.key 0x01 := by intro p; cases p <;> assumption
  have p4 : ∀ p : Port, κ ≠ p.key 0x04 := by intro p; cases p <;> assumption
  unfold raiseReady
  simp (maxDischargeDepth := 40) +contextual only [hs, hd_mk, hd_fold, hd_ite, ite_self, implies_true, n0, n1, n2, n3, p1, p4, kp_modPort
        (hq.mono rfl), hd_put, hd_raise hq, ne_eq, not_false_eq_true]

def kw_dropReady : Writes := ⟨[0x301001, 0x301004, 0x301101, 0x301104], []⟩
theorem kp_dropReady {κ ν : Nat} (hq : Quiet kw_dropReady κ ν) (p : Port) {s : State} (hs : Holds κ ν s) : Holds κ ν (dropReady p s) := by
  have n0 : κ ≠ 0x301001 := hq.ne rfl
  have n1 : κ ≠ 0x301004 := hq.ne rfl
  have n2 : κ ≠ 0x301101 := hq.ne rfl
  have n3 : κ ≠ 0x301104 := hq.ne rfl
  have p1 : ∀ p : Port, κ ≠ p.key 0x01 := by intro p; cases p <;> assumption
  have p4 : ∀ p : Port, κ ≠ p.key 0x04 := by intro p; cases p <;> assumption
  unfold dropReady
  simp (maxDischargeDepth := 40) +contextual only [hs, hd_mk, hd_fold, hd_ite, ite_self, implies_true, n0, n1, n2, n3, p1, p4, kp_modPort
        (hq.mono rfl), hd_put, ne_eq, not_false_eq_true]

theorem kp_forgetRequests {κ ν : Nat} (hq : Quiet kw_none κ ν) (p : Port) {s : State} (hs : Holds κ ν s) : Holds κ ν (forgetRequests p s) :=
        by
  unfold forgetRequests
  simp (maxDischargeDepth := 40) +contextual only [hs, hd_mk, hd_fold, hd_ite, ite_self, implies_true, kp_modPort (hq.mono rfl), kp_setGroup
        (hq.mono rfl), kp_dropRead (hq.mono rfl), hd_foldl, ne_eq, not_false_eq_true]

def kw_dropLink : Writes := ⟨[0x301001, 0x301002, 0x301003, 0x301101, 0x301102, 0x301103], []⟩
theorem kp_dropLink {κ ν : Nat} (hq : Quiet kw_dropLink κ ν) (p : Port) {s : State} (hs : Holds κ ν s) : Holds κ ν (dropLink p s) := by
  have n0 : κ ≠ 0x301001 := hq.ne rfl
  have n1 : κ ≠ 0x301002 := hq.ne rfl
  have n2 : κ ≠ 0x301003 := hq.ne rfl
  have n3 : κ ≠ 0x301101 := hq.ne rfl
  have n4 : κ ≠ 0x301102 := hq.ne rfl
  have n5 : κ ≠ 0x301103 := hq.ne rfl
  have p1 : ∀ p : Port, κ ≠ p.key 0x01 := by intro p; cases p <;> assumption
  have p2 : ∀ p : Port, κ ≠ p.key 0x02 := by intro p; cases p <;> assumption
  have p3 : ∀ p : Port, κ ≠ p.key 0x03 := by intro p; cases p <;> assumption
  unfold dropLink
  simp (maxDischargeDepth := 40) +contextual only [hs, hd_mk, hd_fold, hd_ite, ite_self, implies_true, n0, n1, n2, n3, n4, n5, p1, p2, p3,
        kp_modPort (hq.mono rfl), hd_put, kp_endPortSessions (hq.mono rfl), kp_forgetRequests (hq.mono rfl), hd_raiseIf hq, ne_eq,
        not_false_eq_true]

def kw_closeDrained : Writes := ⟨[0x301001, 0x301002, 0x301003, 0x301101, 0x301102, 0x301103], []⟩
theorem kp_closeDrained {κ ν : Nat} (hq : Quiet kw_closeDrained κ ν) (p : Port) {s : State} (hs : Holds κ ν s) : Holds κ ν (closeDrained p
        s) := by
  unfold closeDrained
  simp (maxDischargeDepth := 40) +contextual only [hs, hd_mk, hd_fold, hd_ite, ite_self, implies_true, kp_dropLink (hq.mono rfl), ne_eq,
        not_false_eq_true]

def kw_goOn : Writes := ⟨[0x301001, 0x301002, 0x301003, 0x301008, 0x301101, 0x301102, 0x301103, 0x301108, 0x302001, 0x302002, 0x302003,
        0x302004, 0x302005, 0x302006, 0x404105, 0x404106, 0x406009, 0x407008, 0x407009, 0x408101, 0x408102, 0x408103, 0x408106, 0x502004,
        0x502005, 0x502006, 0x502007, 0x502009, 0x508003, 0x508004, 0x508005, 0x508006, 0x611003, 0x619004, 0xB03004, 0xB04003], [(0x612000,
        0x613000, 256), (0x620000, 0x624000, 256)]⟩
theorem kp_goOn {κ ν : Nat} (hq : Quiet kw_goOn κ ν) (p : Port) {s : State} (hs : Holds κ ν s) : Holds κ ν (goOn p s) := by
  unfold goOn
  simp (maxDischargeDepth := 40) +contextual only [hs, hd_mk, hd_fold, hd_ite, ite_self, implies_true, kp_closeDrained (hq.mono rfl),
        kp_resumePort (hq.mono rfl), ne_eq, not_false_eq_true]

def kw_portException : Writes := ⟨[0x301005, 0x301006, 0x301008, 0x301105, 0x301106, 0x301108, 0x302001, 0x302002, 0x302003, 0x302004,
        0x302005, 0x302006, 0x404105, 0x404106, 0x406009, 0x407008, 0x407009, 0x408101, 0x408102, 0x408103, 0x408106, 0x502004, 0x502005,
        0x502006, 0x502007, 0x502009, 0x508003, 0x508004, 0x508005, 0x508006, 0x611003, 0x619004, 0xB03004, 0xB04003], [(0x612000, 0x613000,
        256), (0x620000, 0x624000, 256)]⟩
theorem kp_portException {κ ν : Nat} (hq : Quiet kw_portException κ ν) (p : Port) (cause : Nat) {s : State} (hs : Holds κ ν s) : Holds κ ν
        (portException p cause s) := by
  have n0 : κ ≠ 0x301005 := hq.ne rfl
  have n1 : κ ≠ 0x301006 := hq.ne rfl
  have n2 : κ ≠ 0x301105 := hq.ne rfl
  have n3 : κ ≠ 0x301106 := hq.ne rfl
  have p5 : ∀ p : Port, κ ≠ p.key 0x05 := by intro p; cases p <;> assumption
  have p6 : ∀ p : Port, κ ≠ p.key 0x06 := by intro p; cases p <;> assumption
  unfold portException
  simp (maxDischargeDepth := 40) +contextual only [hs, hd_mk, hd_fold, hd_ite, ite_self, implies_true, n0, n1, n2, n3, p5, p6, hd_bump,
        hd_put, kp_loseAll (hq.mono rfl), hd_raise hq, kp_triggerDrain (hq.mono rfl), ne_eq, not_false_eq_true]

def kw_bothExceptions : Writes := ⟨[0x301005, 0x301006, 0x301008, 0x301105, 0x301106, 0x301108, 0x302001, 0x302002, 0x302003, 0x302004,
        0x302005, 0x302006, 0x404105, 0x404106, 0x406009, 0x407008, 0x407009, 0x408101, 0x408102, 0x408103, 0x408106, 0x502004, 0x502005,
        0x502006, 0x502007, 0x502009, 0x508003, 0x508004, 0x508005, 0x508006, 0x611003, 0x619004, 0xB03004, 0xB04003], [(0x612000, 0x613000,
        256), (0x620000, 0x624000, 256)]⟩
theorem kp_bothExceptions {κ ν : Nat} (hq : Quiet kw_bothExceptions κ ν) (cause : Nat) {s : State} (hs : Holds κ ν s) : Holds κ ν
        (bothExceptions cause s) := by
  unfold bothExceptions
  simp (maxDischargeDepth := 40) +contextual only [hs, hd_mk, hd_fold, hd_ite, ite_self, implies_true, kp_portException (hq.mono rfl), ne_eq,
        not_false_eq_true]

def kw_haltChannel : Writes := ⟨[0xC00104], []⟩
theorem kp_haltChannel {κ ν : Nat} (hq : Quiet kw_haltChannel κ ν) (k cause dpa direction : Nat) {s : State} (hs : Holds κ ν s) : Holds κ ν
        (haltChannel k cause dpa direction s) := by
  have n0 : κ ≠ 0xC00104 := hq.ne rfl
  unfold haltChannel
  simp (maxDischargeDepth := 40) +contextual only [hs, hd_mk, hd_fold, hd_ite, ite_self, implies_true, n0, hd_bump, kp_setChannel (hq.mono
        rfl), hd_raise hq, ne_eq, not_false_eq_true]

def kw_haltDma : Writes := ⟨[0xC00104], []⟩
theorem kp_haltDma {κ ν : Nat} (hq : Quiet kw_haltDma κ ν) (failed : Option Nat) {s : State} (hs : Holds κ ν s) : Holds κ ν (haltDma failed
        s) := by
  unfold haltDma
  simp (maxDischargeDepth := 40) +contextual only [hs, hd_mk, hd_fold, hd_ite, ite_self, implies_true, kp_drawn (hq.mono rfl), kp_haltChannel
        (hq.mono rfl), hd_foldl, ne_eq, not_false_eq_true]

def kw_recordFailure : Writes := ⟨[0x700302, 0x700303, 0x700304, 0x700305], []⟩
theorem kp_recordFailure {κ ν : Nat} (hq : Quiet kw_recordFailure κ ν) (obj : FailedObject) {s : State} (hs : Holds κ ν s) : Holds κ ν
        (recordFailure obj s) := by
  have n0 : κ ≠ 0x700302 := hq.ne rfl
  have n1 : κ ≠ 0x700303 := hq.ne rfl
  have n2 : κ ≠ 0x700304 := hq.ne rfl
  have n3 : κ ≠ 0x700305 := hq.ne rfl
  unfold recordFailure
  simp (maxDischargeDepth := 40) +contextual only [hs, hd_mk, hd_fold, hd_ite, ite_self, implies_true, n0, n1, n2, n3, hd_bump, hd_put,
        hd_raise hq, hd_takeStamp hq, ne_eq, not_false_eq_true]

theorem kp_silence {κ ν : Nat} (hq : Quiet kw_none κ ν) {s : State} (hs : Holds κ ν s) : Holds κ ν (silence s) := by
  unfold silence
  simp (maxDischargeDepth := 40) +contextual only [hs, hd_mk, hd_fold, hd_ite, ite_self, implies_true, kp_modPort (hq.mono rfl), ne_eq,
        not_false_eq_true]

theorem kp_setAsideNamed {κ ν : Nat} (hq : Quiet kw_none κ ν) {s : State} (hs : Holds κ ν s) : Holds κ ν (setAsideNamed s) := by
  unfold setAsideNamed
  simp (maxDischargeDepth := 40) +contextual only [hs, hd_mk, hd_fold, hd_ite, ite_self, implies_true, kp_modPort (hq.mono rfl), ne_eq,
        not_false_eq_true]

def kw_settleAll : Writes := ⟨[0x302001, 0x302002, 0x302005, 0x302006, 0x502004, 0x502005, 0x502006, 0x502007, 0x502009, 0x611003, 0x619004,
        0xB03004, 0xB04003], [(0x612000, 0x613000, 256), (0x620000, 0x624000, 256)]⟩
theorem kp_settleAll {κ ν : Nat} (hq : Quiet kw_settleAll κ ν) {s : State} (hs : Holds κ ν s) : Holds κ ν (settleAll s) := by
  unfold settleAll
  simp (maxDischargeDepth := 40) +contextual only [hs, hd_mk, hd_fold, hd_ite, ite_self, implies_true, kp_settle (hq.mono rfl), hd_foldl,
        ne_eq, not_false_eq_true]

def kw_finishLoop : Writes := ⟨[0x301008, 0x301108, 0x302001, 0x302002, 0x302003, 0x302004, 0x302005, 0x302006, 0x404105, 0x404106,
        0x406009, 0x407008, 0x407009, 0x408101, 0x408102, 0x408103, 0x408106, 0x502004, 0x502005, 0x502006, 0x502007, 0x502009, 0x508003,
        0x508004, 0x508005, 0x508006, 0x611003, 0x613008, 0x613009, 0x61300A, 0x619004, 0x700306, 0x70030A, 0xB03004, 0xB04003], [(0x612000,
        0x613000, 256), (0x620000, 0x624000, 256)]⟩
theorem kp_finishLoop {κ ν : Nat} (hq : Quiet kw_finishLoop κ ν) (n : Nat) {s : State} (hs : Holds κ ν s) : Holds κ ν (finishLoop n s) := by
  induction n generalizing s with
  | zero => exact hs
  | succ n ih => exact hd_cond (ih (kp_triggerDrain (hq.mono rfl) _ (kp_triggerDrain (hq.mono rfl) _ (kp_settleAll (hq.mono rfl) (kp_programAll (hq.mono rfl) hs))))) hs

def kw_finishAccepted : Writes := ⟨[0x301008, 0x301108, 0x302001, 0x302002, 0x302003, 0x302004, 0x302005, 0x302006, 0x404105, 0x404106,
        0x406009, 0x407008, 0x407009, 0x408101, 0x408102, 0x408103, 0x408106, 0x502004, 0x502005, 0x502006, 0x502007, 0x502009, 0x508003,
        0x508004, 0x508005, 0x508006, 0x611003, 0x613008, 0x613009, 0x61300A, 0x619004, 0x700306, 0x70030A, 0xB03004, 0xB04003], [(0x612000,
        0x613000, 256), (0x620000, 0x624000, 256)]⟩
theorem kp_finishAccepted {κ ν : Nat} (hq : Quiet kw_finishAccepted κ ν) {s : State} (hs : Holds κ ν s) : Holds κ ν (finishAccepted s) := by
  unfold finishAccepted
  simp (maxDischargeDepth := 40) +contextual only [hs, hd_mk, hd_fold, hd_ite, ite_self, implies_true, kp_finishLoop (hq.mono rfl), hd_foldl,
        ne_eq, not_false_eq_true]

theorem kp_stopDozeEntry {κ ν : Nat} (hq : Quiet kw_none κ ν) {s : State} (hs : Holds κ ν s) : Holds κ ν (stopDozeEntry s) := by
  unfold stopDozeEntry
  (try simp (maxDischargeDepth := 40) +contextual only [hs, hd_mk, hd_fold, hd_ite, ite_self, implies_true, kp_modPort (hq.mono rfl),
        kp_endAction (hq.mono rfl), ne_eq, not_false_eq_true])
  repeat' split
  all_goals first
    | (with_reducible exact hs)
    | (simp (maxDischargeDepth := 40) +contextual only [hs, hd_mk, hd_fold, hd_ite, ite_self, implies_true, kp_modPort (hq.mono rfl), kp_endAction
        (hq.mono rfl), ne_eq, not_false_eq_true]; done)

def kw_haltNow : Writes := ⟨[0x301001, 0x301004, 0x301005, 0x301006, 0x301008, 0x301101, 0x301104, 0x301105, 0x301106, 0x301108, 0x302001,
        0x302002, 0x302003, 0x302004, 0x302005, 0x302006, 0x404105, 0x404106, 0x406009, 0x407008, 0x407009, 0x408101, 0x408102, 0x408103,
        0x408106, 0x502004, 0x502005, 0x502006, 0x502007, 0x502009, 0x508003, 0x508004, 0x508005, 0x508006, 0x611003, 0x613008, 0x613009,
        0x61300A, 0x619004, 0x700301, 0x700306, 0x70030A, 0xA00106, 0xB03004, 0xB04003, 0xC00104, 0xD00101, 0xD00102], [(0x612000, 0x613000,
        256), (0x620000, 0x624000, 256)]⟩
theorem kp_haltNow {κ ν : Nat} (hq : Quiet kw_haltNow κ ν) (failed : Option Nat) {s : State} (hs : Holds κ ν s) : Holds κ ν (haltNow failed
        s) := by
  have n0 : κ ≠ 0x700301 := hq.ne rfl
  unfold haltNow
  simp (maxDischargeDepth := 40) +contextual only [hs, hd_mk, hd_fold, hd_ite, ite_self, implies_true, n0, hd_put, kp_bothExceptions (hq.mono
        rfl), kp_dropReady (hq.mono rfl), kp_finishAccepted (hq.mono rfl), kp_forgetRequests (hq.mono rfl), kp_haltDma (hq.mono rfl),
        kp_setAsideNamed (hq.mono rfl), kp_setMode (hq.mono rfl), kp_settleAll (hq.mono rfl), kp_silence (hq.mono rfl), kp_stopDozeEntry
        (hq.mono rfl), ne_eq, not_false_eq_true]

def kw_failCheck : Writes := ⟨[0x301001, 0x301004, 0x301005, 0x301006, 0x301008, 0x301101, 0x301104, 0x301105, 0x301106, 0x301108, 0x302001,
        0x302002, 0x302003, 0x302004, 0x302005, 0x302006, 0x404105, 0x404106, 0x406009, 0x407008, 0x407009, 0x408101, 0x408102, 0x408103,
        0x408106, 0x502004, 0x502005, 0x502006, 0x502007, 0x502009, 0x508003, 0x508004, 0x508005, 0x508006, 0x611003, 0x613008, 0x613009,
        0x61300A, 0x619004, 0x700301, 0x700302, 0x700303, 0x700304, 0x700305, 0x700306, 0x70030A, 0xA00106, 0xB03004, 0xB04003, 0xC00104,
        0xD00101, 0xD00102], [(0x612000, 0x613000, 256), (0x620000, 0x624000, 256)]⟩
theorem kp_failCheck {κ ν : Nat} (hq : Quiet kw_failCheck κ ν) (obj : FailedObject) {s : State} (hs : Holds κ ν s) : Holds κ ν (failCheck
        obj s) := by
  unfold failCheck
  simp (maxDischargeDepth := 40) +contextual only [hs, hd_mk, hd_fold, hd_ite, ite_self, implies_true, kp_haltNow (hq.mono rfl),
        kp_recordFailure (hq.mono rfl), kp_setAsideNamed (hq.mono rfl), ne_eq, not_false_eq_true]

def kw_noteDelays : Writes := ⟨[], [(0x611004, 0x611007, 256)]⟩
theorem kp_noteDelays {κ ν : Nat} (hq : Quiet kw_noteDelays κ ν) (j : Job) (causes : List Nat) {s : State} (hs : Holds κ ν s) :
    Holds κ ν (noteDelays j causes s) := by
  refine hd_raiseIf hq _ _ (hd_foldl_mem (fun t c hc ht => hd_bump ?_ ht) (by simpa only [hd_mk, hd_fold] using hs))
  have h : 4 ≤ c ∧ c ≤ 6 := by
    simp only [List.mem_filter, Bool.and_eq_true, Bool.or_eq_true, beq_iff_eq] at hc
    omega
  exact hq.outside (lo := 0x611004) (hi := 0x611007) (sub := 256) (by decide) (by omega) (by omega) (Or.inl rfl)

def kw_dispatch : Writes := ⟨[0x408007, 0x408008, 0x611003], [(0x612000, 0x613000, 256)]⟩
theorem kp_dispatch {κ ν : Nat} (hq : Quiet kw_dispatch κ ν) (j : Job) {s : State} (hs : Holds κ ν s) : Holds κ ν (dispatch j s) := by
  have n0 : κ ≠ 0x408007 := hq.ne rfl
  have n1 : κ ≠ 0x408008 := hq.ne rfl
  have n2 : κ ≠ 0x611003 := hq.ne rfl
  have fchannelKey0x03 : ∀ c : Nat, κ ≠ channelKey c 0x03 := fun c => hq.outside (lo := 0x612000) (hi := 0x613000) (sub := 256) (by decide) (by unfold channelKey; omega) (by unfold channelKey; omega) (by unfold channelKey; omega)
  unfold dispatch
  simp (maxDischargeDepth := 40) +contextual only [hs, hd_mk, hd_fold, hd_ite, ite_self, implies_true, n0, n1, n2, fchannelKey0x03,
        hd_raiseTo, hd_takeStamp hq, ne_eq, not_false_eq_true]

def kw_grantChunk : Writes := ⟨[], [(0x612000, 0x613000, 256)]⟩
theorem kp_grantChunk {κ ν : Nat} (hq : Quiet kw_grantChunk κ ν) (t : Transfer) {s : State} (hs : Holds κ ν s) : Holds κ ν (grantChunk t s)
        := by
  have fchannelKey0x01 : ∀ c : Nat, κ ≠ channelKey c 0x01 := fun c => hq.outside (lo := 0x612000) (hi := 0x613000) (sub := 256) (by decide) (by unfold channelKey; omega) (by unfold channelKey; omega) (by unfold channelKey; omega)
  unfold grantChunk
  simp (maxDischargeDepth := 40) +contextual only [hs, hd_mk, hd_fold, hd_ite, ite_self, implies_true, fchannelKey0x01, hd_addTo, hd_count1
        hq, ne_eq, not_false_eq_true]

theorem kp_bankProgrammed {κ ν : Nat} (hq : Quiet kw_none κ ν) (die : Nat) {s : State} (hs : Holds κ ν s) : Holds κ ν (bankProgrammed die s)
        := by
  unfold bankProgrammed
  simp (maxDischargeDepth := 40) +contextual only [hs, hd_mk, hd_fold, hd_ite, ite_self, implies_true, hd_takeStamp hq, hd_foldl, ne_eq,
        not_false_eq_true]

theorem kp_memberProgrammed {κ ν : Nat} (hq : Quiet kw_none κ ν) (p : StripePage) (x : ProgramStart) {s : State} (hs : Holds κ ν s) : Holds
        κ ν (memberProgrammed p x s) := by
  unfold memberProgrammed
  simp (maxDischargeDepth := 40) +contextual only [hs, hd_mk, hd_fold, hd_ite, ite_self, implies_true, kp_setStripe (hq.mono rfl),
        kp_pageProgrammed (hq.mono rfl), ne_eq, not_false_eq_true]

def kw_opSucceeded : Writes := ⟨[0x611003, 0x618005, 0x619004], [(0x612000, 0x613000, 256), (0x620000, 0x624000, 256)]⟩
theorem kp_opSucceeded {κ ν : Nat} (hq : Quiet kw_opSucceeded κ ν) (o : Op) {s : State} (hs : Holds κ ν s) : Holds κ ν (opSucceeded o s) :=
        by
  unfold opSucceeded
  (try simp (maxDischargeDepth := 40) +contextual only [hs, hd_mk, hd_fold, hd_ite, ite_self, implies_true, kp_bankProgrammed (hq.mono rfl),
        kp_finishReset (hq.mono rfl), kp_memberProgrammed (hq.mono rfl), kp_rowStarted (hq.mono rfl), kp_sectorProgrammed (hq.mono rfl),
        kp_unitReset (hq.mono rfl), ne_eq, not_false_eq_true])
  repeat' split
  all_goals first
    | (with_reducible exact hs)
    | (simp (maxDischargeDepth := 40) +contextual only [hs, hd_mk, hd_fold, hd_ite, ite_self, implies_true, kp_bankProgrammed (hq.mono rfl),
        kp_finishReset (hq.mono rfl), kp_memberProgrammed (hq.mono rfl), kp_rowStarted (hq.mono rfl), kp_sectorProgrammed (hq.mono rfl),
        kp_unitReset (hq.mono rfl), ne_eq, not_false_eq_true]; done)

def kw_opFailed : Writes := ⟨[0x611003, 0x618005, 0x619004], [(0x612000, 0x613000, 256), (0x620000, 0x624000, 256)]⟩
theorem kp_opFailed {κ ν : Nat} (hq : Quiet kw_opFailed κ ν) (o : Op) {s : State} (hs : Holds κ ν s) : Holds κ ν (opFailed o s) := by
  have fchannelKey0x05 : ∀ c : Nat, κ ≠ channelKey c 0x05 := fun c => hq.outside (lo := 0x612000) (hi := 0x613000) (sub := 256) (by decide) (by unfold channelKey; omega) (by unfold channelKey; omega) (by unfold channelKey; omega)
  unfold opFailed
  (try simp (maxDischargeDepth := 40) +contextual only [hs, hd_mk, hd_fold, hd_ite, ite_self, implies_true, fchannelKey0x05, hd_bump,
        kp_finishReset (hq.mono rfl), kp_lastingFault (hq.mono rfl), hd_raise hq, ne_eq, not_false_eq_true])
  repeat' split
  all_goals first
    | (with_reducible exact hs)
    | (simp (maxDischargeDepth := 40) +contextual only [hs, hd_mk, hd_fold, hd_ite, ite_self, implies_true, fchannelKey0x05, hd_bump,
        kp_finishReset (hq.mono rfl), kp_lastingFault (hq.mono rfl), hd_raise hq, ne_eq, not_false_eq_true]; done)

def kw_completePage : Writes := ⟨[0x615007], []⟩
theorem kp_completePage {κ ν : Nat} (hq : Quiet kw_completePage κ ν) (p : StripePage) {s : State} (hs : Holds κ ν s) : Holds κ ν
        (completePage p s) := by
  have n0 : κ ≠ 0x615007 := hq.ne rfl
  unfold completePage
  simp (maxDischargeDepth := 40) +contextual only [hs, hd_mk, hd_fold, hd_ite, ite_self, implies_true, n0, hd_addTo, hd_foldl, ne_eq,
        not_false_eq_true]

def kw_allocate : Writes := ⟨[0x611003, 0x619004], [(0x612000, 0x613000, 256), (0x620000, 0x624000, 256)]⟩
theorem kp_allocate {κ ν : Nat} (hq : Quiet kw_allocate κ ν) (cause stripe : Nat) {s : State} (hs : Holds κ ν s) : Holds κ ν (allocate cause
        stripe s) := by
  unfold allocate
  simp (maxDischargeDepth := 40) +contextual only [hs, hd_mk, hd_fold, hd_ite, ite_self, implies_true, kp_setStripe (hq.mono rfl), kp_notePool
        (hq.mono rfl), kp_orderReset (hq.mono rfl), kp_setUnitState (hq.mono rfl), hd_foldl, ne_eq, not_false_eq_true]

def kw_destination : Writes := ⟨[0x611003, 0x619004], [(0x612000, 0x613000, 256), (0x620000, 0x624000, 256)]⟩
theorem kp_destination {κ ν : Nat} (hq : Quiet kw_destination κ ν) (cause floor : Nat) {s : State} (hs : Holds κ ν s) : Holds κ ν (destination cause floor s).2 := by
  unfold destination
  split
  · exact hs
  · split
    · exact hs
    · exact kp_allocate (hq.mono rfl) _ _ hs

theorem kp_takePage {κ ν : Nat} (hq : Quiet kw_none κ ν) (stripe cause writer : Nat) (moves : List PageMove) {s : State} (hs : Holds κ ν s) :
    Holds κ ν (takePage stripe cause writer moves s).2 := by
  have h (r : StripeRec) : Holds κ ν (s.setStripe stripe r) := kp_setStripe (hq.mono rfl) stripe r hs
  unfold takePage
  simp only [hd_mk, hd_fold]
  exact h _

theorem kp_queuePage {κ ν : Nat} (hq : Quiet kw_none κ ν) (p : StripePage) {s : State} (hs : Holds κ ν s) : Holds κ ν (queuePage p s) := by
  unfold queuePage
  simp (maxDischargeDepth := 40) +contextual only [hs, hd_mk, hd_fold, hd_ite, ite_self, implies_true, ne_eq, not_false_eq_true]

theorem kp_dropFolded {κ ν : Nat} (hq : Quiet kw_none κ ν) (line stamp : Nat) {s : State} (hs : Holds κ ν s) : Holds κ ν (dropFolded line
        stamp s) := by
  unfold dropFolded
  simp (maxDischargeDepth := 40) +contextual only [hs, hd_mk, hd_fold, hd_ite, ite_self, implies_true, ne_eq, not_false_eq_true]

def kw_writeTableImage : Writes := ⟨[0x611003, 0x619004], [(0x612000, 0x613000, 256), (0x620000, 0x624000, 256)]⟩
theorem kp_writeTableImage {κ ν : Nat} (hq : Quiet kw_writeTableImage κ ν) {s : State} (hs : Holds κ ν s) : Holds κ ν (writeTableImage s) :=
        by
  unfold writeTableImage
  simp (maxDischargeDepth := 40) +contextual only [hs, hd_mk, hd_fold, hd_ite, ite_self, implies_true, kp_checkpointSectors (hq.mono rfl),
        kp_putEntry (hq.mono rfl), hd_takeStamp hq, ne_eq, not_false_eq_true]

def kw_applyMove : Writes := ⟨[0x611003, 0x614007, 0x619004], [(0x612000, 0x613000, 256), (0x620000, 0x624000, 256)]⟩
theorem kp_applyMove {κ ν : Nat} (hq : Quiet kw_applyMove κ ν) (cause : Nat) (m : PageMove) {s : State} (hs : Holds κ ν s) : Holds κ ν
        (applyMove cause m s) := by
  have n0 : κ ≠ 0x614007 := hq.ne rfl
  unfold applyMove
  simp (maxDischargeDepth := 40) +contextual only [hs, hd_mk, hd_fold, hd_ite, ite_self, implies_true, n0, hd_bump, kp_dirtySegment (hq.mono
        rfl), kp_dropFolded (hq.mono rfl), kp_journalPut (hq.mono rfl), kp_writeTableImage (hq.mono rfl), hd_foldl, ne_eq,
        not_false_eq_true]

def kw_applyPage : Writes := ⟨[0x611003, 0x613009, 0x61300A, 0x614007, 0x619004], [(0x612000, 0x613000, 256), (0x620000, 0x624000, 256)]⟩
theorem kp_applyPage {κ ν : Nat} (hq : Quiet kw_applyPage κ ν) (p : StripePage) {s : State} (hs : Holds κ ν s) : Holds κ ν (applyPage p s)
        := by
  unfold applyPage
  simp (maxDischargeDepth := 40) +contextual only [hs, hd_mk, hd_fold, hd_ite, ite_self, implies_true, kp_applyMove (hq.mono rfl),
        kp_checkLogFull (hq.mono rfl), hd_foldl, ne_eq, not_false_eq_true]

def kw_readMoves : Writes := ⟨[], [(0x612000, 0x613000, 256)]⟩
theorem kp_readMoves {κ ν : Nat} (hq : Quiet kw_readMoves κ ν) (moves : List PageMove) {s : State} (hs : Holds κ ν s) : Holds κ ν (readMoves moves s) := by
  refine hd_foldl (fun t m ht => hd_cond ht ?_) _ hs
  refine hd_foldl (fun u e hu => ?_) _ (hd_cond ht (hd_cond (kp_reconstructions (hq.mono rfl) _ _ ht) (kp_agentReads (hq.mono rfl) _ _ _ ht)))
  split
  · exact kp_agentReads (hq.mono rfl) _ _ _ hu
  · exact hu

def kw_programMembers : Writes := ⟨[0x611003], [(0x612000, 0x613000, 256)]⟩
theorem kp_programMembers {κ ν : Nat} (hq : Quiet kw_programMembers κ ν) (p : StripePage) (channels : List Nat) {s : State} (hs : Holds κ ν
        s) : Holds κ ν (programMembers p channels s) := by
  unfold programMembers
  simp (maxDischargeDepth := 40) +contextual only [hs, hd_mk, hd_fold, hd_ite, ite_self, implies_true, kp_memberProgrammed (hq.mono rfl),
        kp_programsRun (hq.mono rfl), hd_takeStamp hq, hd_foldl, ne_eq, not_false_eq_true]

def kw_landPage : Writes := ⟨[0x611003, 0x615007], [(0x612000, 0x613000, 256)]⟩
theorem kp_landPage {κ ν : Nat} (hq : Quiet kw_landPage κ ν) (p : StripePage) {s : State} (hs : Holds κ ν s) : Holds κ ν (landPage p s) :=
        by
  unfold landPage
  simp (maxDischargeDepth := 40) +contextual only [hs, hd_mk, hd_fold, hd_ite, ite_self, implies_true, kp_completePage (hq.mono rfl),
        kp_endOverruns (hq.mono rfl), kp_memberProgrammed (hq.mono rfl), kp_programMembers (hq.mono rfl), hd_foldl, ne_eq,
        not_false_eq_true]

def kw_programPage : Writes := ⟨[0x611003, 0x613009, 0x61300A, 0x614007, 0x615007, 0x619004], [(0x612000, 0x613000, 256), (0x620000,
        0x624000, 256)]⟩
theorem kp_programPage {κ ν : Nat} (hq : Quiet kw_programPage κ ν) (p : StripePage) {s : State} (hs : Holds κ ν s) : Holds κ ν (programPage
        p s) := by
  unfold programPage
  simp (maxDischargeDepth := 40) +contextual only [hs, hd_mk, hd_fold, hd_ite, ite_self, implies_true, kp_applyPage (hq.mono rfl),
        kp_completePage (hq.mono rfl), kp_landPage (hq.mono rfl), kp_programMembers (hq.mono rfl), hd_foldl, ne_eq, not_false_eq_true]

def kw_writeMoves : Writes := ⟨[0x611003, 0x613009, 0x61300A, 0x614007, 0x615007, 0x619004], [(0x612000, 0x613000, 256), (0x620000,
        0x624000, 256)]⟩
theorem kp_writeMoves {κ ν : Nat} (hq : Quiet kw_writeMoves κ ν) (n : Nat) (now : Bool) (cause writer : Nat) (relax : Bool) (moves : List PageMove) {s : State} (hs : Holds κ ν s) :
    Holds κ ν (writeMoves n now cause writer relax moves s) := by
  have hp (d : Nat) (l : List PageMove) {t : State} (ht : Holds κ ν t) :
      if now = true then Holds κ ν (programPage (takePage d cause writer l (readMoves l t)).1 (takePage d cause writer l (readMoves l t)).2)
      else Holds κ ν (queuePage (takePage d cause writer l (readMoves l t)).1 (takePage d cause writer l (readMoves l t)).2) := by
    have h := kp_takePage (hq.mono rfl) d cause writer l (kp_readMoves (hq.mono rfl) l ht)
    split
    · exact kp_programPage (hq.mono rfl) _ h
    · exact kp_queuePage (hq.mono rfl) _ h
  induction n generalizing moves s with
  | zero => exact hs
  | succ n ih =>
    unfold writeMoves
    cases moves with
    | nil => exact hs
    | cons m rest =>
      simp only
      have h1 := kp_destination (hq.mono rfl) cause (s.floorOf m.page) hs
      generalize hx : destination cause (s.floorOf m.page) s = x at h1 ⊢
      obtain ⟨dest, t⟩ := x
      cases dest with
      | some d =>
        refine ih _ ?_
        simp only [hd_ite, hd_mk, hd_fold, ite_self]
        exact hp _ _ h1
      | none =>
        by_cases hc : (relax && (t.pickStripe true (s.floorOf m.page)).isNone && !t.allocating) = true
        · have h2 := kp_destination (hq.mono rfl) cause 2 h1
          simp only [hc, if_true]
          simp only at h2
          generalize hy : destination cause 2 t = y at h2 ⊢
          obtain ⟨dest', u⟩ := y
          cases dest' with
          | none => exact h2
          | some d =>
            refine ih _ ?_
            simp only [hd_ite, hd_mk, hd_fold, ite_self]
            exact hp _ _ h2
        · simp only [hc]
          exact h1

def kw_collectRebuilds : Writes := ⟨[0x404105], []⟩
theorem kp_collectRebuilds {κ ν : Nat} (hq : Quiet kw_collectRebuilds κ ν) (stripe : Nat) {s : State} (hs : Holds κ ν s) : Holds κ ν
        (collectRebuilds stripe s) := by
  unfold collectRebuilds
  simp (maxDischargeDepth := 40) +contextual only [hs, hd_mk, hd_fold, hd_ite, ite_self, implies_true, kp_startRebuild (hq.mono rfl),
        hd_foldl, ne_eq, not_false_eq_true]

def kw_evacuate : Writes := ⟨[0x611003, 0x613009, 0x61300A, 0x614007, 0x615007, 0x619004], [(0x612000, 0x613000, 256), (0x620000, 0x624000,
        256)]⟩
theorem kp_evacuate {κ ν : Nat} (hq : Quiet kw_evacuate κ ν) (stripe cause writer : Nat) {s : State} (hs : Holds κ ν s) : Holds κ ν
        (evacuate stripe cause writer s) := by
  unfold evacuate
  simp (maxDischargeDepth := 40) +contextual only [hs, hd_mk, hd_fold, hd_ite, ite_self, implies_true, kp_writeMoves (hq.mono rfl), ne_eq,
        not_false_eq_true]

def kw_clearStripe : Writes := ⟨[0x611003, 0x619004], [(0x612000, 0x613000, 256), (0x620000, 0x624000, 256)]⟩
theorem kp_clearStripe {κ ν : Nat} (hq : Quiet kw_clearStripe κ ν) (stripe : Nat) {s : State} (hs : Holds κ ν s) : Holds κ ν (clearStripe
        stripe s) := by
  unfold clearStripe
  simp (maxDischargeDepth := 40) +contextual only [hs, hd_mk, hd_fold, hd_ite, ite_self, implies_true, kp_orderReset (hq.mono rfl),
        kp_programTail (hq.mono rfl), kp_writeTableImage (hq.mono rfl), ne_eq, not_false_eq_true]

def kw_countCollected : Writes := ⟨[0x614006], []⟩
theorem kp_countCollected {κ ν : Nat} (hq : Quiet kw_countCollected κ ν) (cause stripe : Nat) {s : State} (hs : Holds κ ν s) : Holds κ ν
        (countCollected cause stripe s) := by
  have n0 : κ ≠ 0x614006 := hq.ne rfl
  unfold countCollected
  simp (maxDischargeDepth := 40) +contextual only [hs, hd_mk, hd_fold, hd_ite, ite_self, implies_true, n0, hd_bump, hd_count1 hq, ne_eq,
        not_false_eq_true]

def kw_collect : Writes := ⟨[0x404105, 0x611003, 0x613009, 0x61300A, 0x614006, 0x614007, 0x615007, 0x619004], [(0x612000, 0x613000, 256),
        (0x620000, 0x624000, 256)]⟩
theorem kp_collect {κ ν : Nat} (hq : Quiet kw_collect κ ν) (stripe cause writer : Nat) {s : State} (hs : Holds κ ν s) : Holds κ ν (collect
        stripe cause writer s) := by
  unfold collect
  simp (maxDischargeDepth := 40) +contextual only [hs, hd_mk, hd_fold, hd_ite, ite_self, implies_true, kp_setStripe (hq.mono rfl),
        kp_clearStripe (hq.mono rfl), kp_collectRebuilds (hq.mono rfl), kp_countCollected (hq.mono rfl), kp_evacuate (hq.mono rfl), ne_eq,
        not_false_eq_true]

def kw_clearEmptied : Writes := ⟨[0x611003, 0x614006, 0x619004], [(0x612000, 0x613000, 256), (0x620000, 0x624000, 256)]⟩
theorem kp_clearEmptied {κ ν : Nat} (hq : Quiet kw_clearEmptied κ ν) (cause stripe : Nat) {s : State} (hs : Holds κ ν s) : Holds κ ν
        (clearEmptied cause stripe s) := by
  unfold clearEmptied
  simp (maxDischargeDepth := 40) +contextual only [hs, hd_mk, hd_fold, hd_ite, ite_self, implies_true, kp_clearStripe (hq.mono rfl),
        kp_countCollected (hq.mono rfl), ne_eq, not_false_eq_true]

def kw_finishMoves : Writes := ⟨[0x611003, 0x613009, 0x61300A, 0x614006, 0x614007, 0x619004], [(0x612000, 0x613000, 256), (0x620000,
        0x624000, 256)]⟩
theorem kp_finishMoves {κ ν : Nat} (hq : Quiet kw_finishMoves κ ν) (p : StripePage) {s : State} (hs : Holds κ ν s) : Holds κ ν (finishMoves
        p s) := by
  unfold finishMoves
  simp (maxDischargeDepth := 40) +contextual only [hs, hd_mk, hd_fold, hd_ite, ite_self, implies_true, kp_applyPage (hq.mono rfl),
        kp_clearEmptied (hq.mono rfl), kp_programTail (hq.mono rfl), hd_foldl, ne_eq, not_false_eq_true]

theorem kp_saveErrors {κ ν : Nat} (hq : Quiet kw_none κ ν) {s : State} (hs : Holds κ ν s) : Holds κ ν (saveErrors s) := by
  unfold saveErrors
  simp (maxDischargeDepth := 40) +contextual only [hs, hd_mk, hd_fold, hd_ite, ite_self, implies_true, ne_eq, not_false_eq_true]

def kw_tableError : Writes := ⟨[0x801002], []⟩
theorem kp_tableError {κ ν : Nat} (hq : Quiet kw_tableError κ ν) (mem : MemKind) (address : Nat) (uncorrectable : Bool) {s : State} (hs :
        Holds κ ν s) : Holds κ ν (tableError mem address uncorrectable s) := by
  have n0 : κ ≠ 0x801002 := hq.ne rfl
  unfold tableError
  (try simp (maxDischargeDepth := 40) +contextual only [hs, hd_mk, hd_fold, hd_ite, ite_self, implies_true, n0, hd_bump, hd_raise hq,
        kp_saveErrors (hq.mono rfl), ne_eq, not_false_eq_true])
  repeat' split
  all_goals first
    | (with_reducible exact hs)
    | (simp (maxDischargeDepth := 40) +contextual only [hs, hd_mk, hd_fold, hd_ite, ite_self, implies_true, n0, hd_bump, hd_raise hq,
        kp_saveErrors (hq.mono rfl), ne_eq, not_false_eq_true]; done)

theorem kp_queueTest {κ ν : Nat} (hq : Quiet kw_none κ ν) (mem : MemKind) (address : Nat) {s : State} (hs : Holds κ ν s) : Holds κ ν
        (queueTest mem address s) := by
  unfold queueTest
  (try simp (maxDischargeDepth := 40) +contextual only [hs, hd_mk, hd_fold, hd_ite, ite_self, implies_true, ne_eq, not_false_eq_true])
  repeat' split
  all_goals first
    | (with_reducible exact hs)
    | (simp (maxDischargeDepth := 40) +contextual only [hs, hd_mk, hd_fold, hd_ite, ite_self, implies_true, ne_eq, not_false_eq_true]; done)

def kw_detectError : Writes := ⟨[0x800101, 0x800102, 0x800103, 0x800104, 0x800105, 0x800106, 0x801002], []⟩
theorem kp_detectError {κ ν : Nat} (hq : Quiet kw_detectError κ ν) (mem : MemKind) (address : Nat) (uncorrectable : Bool) {s : State} (hs :
        Holds κ ν s) : Holds κ ν (detectError mem address uncorrectable s) := by
  have n0 : κ ≠ 0x800101 := hq.ne rfl
  have n1 : κ ≠ 0x800102 := hq.ne rfl
  have n2 : κ ≠ 0x800103 := hq.ne rfl
  have n3 : κ ≠ 0x800104 := hq.ne rfl
  have n4 : κ ≠ 0x800105 := hq.ne rfl
  have n5 : κ ≠ 0x800106 := hq.ne rfl
  unfold detectError
  (try simp (maxDischargeDepth := 40) +contextual only [hs, hd_mk, hd_fold, hd_ite, ite_self, implies_true, n0, n1, n2, n3, n4, n5, hd_bump,
        kp_queueTest (hq.mono rfl), hd_raise hq, kp_tableError (hq.mono rfl), ne_eq, not_false_eq_true])
  repeat' split
  all_goals first
    | (with_reducible exact hs)
    | (simp (maxDischargeDepth := 40) +contextual only [hs, hd_mk, hd_fold, hd_ite, ite_self, implies_true, n0, n1, n2, n3, n4, n5, hd_bump,
        kp_queueTest (hq.mono rfl), hd_raise hq, kp_tableError (hq.mono rfl), ne_eq, not_false_eq_true]; done)

theorem kp_setOutcome {κ ν : Nat} (hq : Quiet kw_none κ ν) (mem : MemKind) (address outcome : Nat) {s : State} (hs : Holds κ ν s) : Holds κ
        ν (setOutcome mem address outcome s) := by
  unfold setOutcome
  simp (maxDischargeDepth := 40) +contextual only [hs, hd_mk, hd_fold, hd_ite, ite_self, implies_true, kp_saveErrors (hq.mono rfl), ne_eq,
        not_false_eq_true]

theorem kp_noteTransient {κ ν : Nat} (hq : Quiet kw_none κ ν) (mem : MemKind) (address : Nat) {s : State} (hs : Holds κ ν s) : Holds κ ν
        (noteTransient mem address s) := by
  unfold noteTransient
  simp (maxDischargeDepth := 40) +contextual only [hs, hd_mk, hd_fold, hd_ite, ite_self, implies_true, ne_eq, not_false_eq_true]

def kw_foldRebuilds : Writes := ⟨[0x404105], []⟩
theorem kp_foldRebuilds {κ ν : Nat} (hq : Quiet kw_foldRebuilds κ ν) {s : State} (hs : Holds κ ν s) : Holds κ ν (foldRebuilds s) := by
  unfold foldRebuilds
  simp (maxDischargeDepth := 40) +contextual only [hs, hd_mk, hd_fold, hd_ite, ite_self, implies_true, kp_startRebuild (hq.mono rfl),
        hd_foldl, ne_eq, not_false_eq_true]

def kw_dispatchFold : Writes := ⟨[0x404105, 0x611003, 0x619004], [(0x612000, 0x613000, 256), (0x620000, 0x624000, 256)]⟩
theorem kp_dispatchFold {κ ν : Nat} (hq : Quiet kw_dispatchFold κ ν) {s : State} (hs : Holds κ ν s) : Holds κ ν (dispatchFold s) := by
  unfold dispatchFold
  (try simp (maxDischargeDepth := 40) +contextual only [hs, hd_mk, hd_fold, hd_ite, ite_self, implies_true, kp_destination (hq.mono rfl),
        kp_foldRebuilds (hq.mono rfl), kp_queuePage (hq.mono rfl), kp_readMoves (hq.mono rfl), kp_takePage (hq.mono rfl), ne_eq,
        not_false_eq_true])
  repeat' split
  all_goals first
    | (with_reducible exact hs)
    | (simp (maxDischargeDepth := 40) +contextual only [hs, hd_mk, hd_fold, hd_ite, ite_self, implies_true, kp_destination (hq.mono rfl),
        kp_foldRebuilds (hq.mono rfl), kp_queuePage (hq.mono rfl), kp_readMoves (hq.mono rfl), kp_takePage (hq.mono rfl), ne_eq,
        not_false_eq_true]; done)

theorem kp_releaseStripe {κ ν : Nat} (hq : Quiet kw_none κ ν) (stripe : Nat) {s : State} (hs : Holds κ ν s) : Holds κ ν (releaseStripe
        stripe s) := by
  unfold releaseStripe
  simp (maxDischargeDepth := 40) +contextual only [hs, hd_mk, hd_fold, hd_ite, ite_self, implies_true, kp_orderReset (hq.mono rfl), ne_eq,
        not_false_eq_true]

def kw_moveRing : Writes := ⟨[0x611003, 0x619004], [(0x612000, 0x613000, 256), (0x620000, 0x624000, 256)]⟩
theorem kp_moveRing {κ ν : Nat} (hq : Quiet kw_moveRing κ ν) (r : Ring) (index new : Nat) {s : State} (hs : Holds κ ν s) : Holds κ ν
        (moveRing r index new s) := by
  unfold moveRing
  simp (maxDischargeDepth := 40) +contextual only [hs, hd_mk, hd_fold, hd_ite, ite_self, implies_true, kp_setStripe (hq.mono rfl),
        kp_journalPut (hq.mono rfl), kp_notePool (hq.mono rfl), kp_orderReset (hq.mono rfl), kp_programTail (hq.mono rfl), kp_releaseStripe
        (hq.mono rfl), kp_setUnitState (hq.mono rfl), hd_foldl, ne_eq, not_false_eq_true]

theorem kp_relocateStripe {κ ν : Nat} (hq : Quiet kw_none κ ν) (stripe : Nat) {s : State} (hs : Holds κ ν s) : Holds κ ν (relocateStripe stripe s) := by
  refine hd_foldl (fun t d ht => ?_) _ hs
  split
  · exact ht
  · exact hd_cond ht ht

def kw_rebuildRing : Writes := ⟨[0x611003, 0x619004], [(0x612000, 0x613000, 256), (0x620000, 0x624000, 256)]⟩
theorem kp_rebuildRing {κ ν : Nat} (hq : Quiet kw_rebuildRing κ ν) (r : Ring) (index : Nat) {s : State} (hs : Holds κ ν s) : Holds κ ν
        (rebuildRing r index s) := by
  unfold rebuildRing
  (try simp (maxDischargeDepth := 40) +contextual only [hs, hd_mk, hd_fold, hd_ite, ite_self, implies_true, kp_moveRing (hq.mono rfl),
        kp_relocateStripe (hq.mono rfl), ne_eq, not_false_eq_true])
  repeat' split
  all_goals first
    | (with_reducible exact hs)
    | (simp (maxDischargeDepth := 40) +contextual only [hs, hd_mk, hd_fold, hd_ite, ite_self, implies_true, kp_moveRing (hq.mono rfl),
        kp_relocateStripe (hq.mono rfl), ne_eq, not_false_eq_true]; done)

def kw_rebuildStep : Writes := ⟨[0x404105, 0x611003, 0x613009, 0x61300A, 0x614006, 0x614007, 0x615007, 0x619004], [(0x612000, 0x613000,
        256), (0x620000, 0x624000, 256)]⟩
theorem kp_rebuildStep {κ ν : Nat} (hq : Quiet kw_rebuildStep κ ν) {s : State} (hs : Holds κ ν s) : Holds κ ν (rebuildStep s) := by
  unfold rebuildStep
  (try simp (maxDischargeDepth := 40) +contextual only [hs, hd_mk, hd_fold, hd_ite, ite_self, implies_true, kp_collect (hq.mono rfl),
        kp_rebuildRing (hq.mono rfl), ne_eq, not_false_eq_true])
  repeat' split
  all_goals first
    | (with_reducible exact hs)
    | (simp (maxDischargeDepth := 40) +contextual only [hs, hd_mk, hd_fold, hd_ite, ite_self, implies_true, kp_collect (hq.mono rfl),
        kp_rebuildRing (hq.mono rfl), ne_eq, not_false_eq_true]; done)

def kw_relieveRing : Writes := ⟨[0x611003, 0x619004], [(0x612000, 0x613000, 256), (0x620000, 0x624000, 256)]⟩
theorem kp_relieveRing {κ ν : Nat} (hq : Quiet kw_relieveRing κ ν) {s : State} (hs : Holds κ ν s) : Holds κ ν (relieveRing s) := by
  unfold relieveRing
  (try simp (maxDischargeDepth := 40) +contextual only [hs, hd_mk, hd_fold, hd_ite, ite_self, implies_true, kp_rebuildRing (hq.mono rfl),
        ne_eq, not_false_eq_true])
  repeat' split
  all_goals first
    | (with_reducible exact hs)
    | (simp (maxDischargeDepth := 40) +contextual only [hs, hd_mk, hd_fold, hd_ite, ite_self, implies_true, kp_rebuildRing (hq.mono rfl), ne_eq,
        not_false_eq_true]; done)

def kw_redirect : Writes := ⟨[0x611003, 0x613009, 0x61300A, 0x614007, 0x615007, 0x619004], [(0x612000, 0x613000, 256), (0x620000, 0x624000,
        256)]⟩
theorem kp_redirect {κ ν : Nat} (hq : Quiet kw_redirect κ ν) (p : StripePage) {s : State} (hs : Holds κ ν s) : Holds κ ν (redirect p s) :=
        by
  unfold redirect
  simp (maxDischargeDepth := 40) +contextual only [hs, hd_mk, hd_fold, hd_ite, ite_self, implies_true, kp_writeMoves (hq.mono rfl), ne_eq,
        not_false_eq_true]

theorem kp_failSome {κ ν : Nat} (hq : Quiet kw_none κ ν) {α : Type} (fail : α → State → State) (l : List α) {s : State} (hs : Holds κ ν s)
    (h : ∀ a t, Holds κ ν t → Holds κ ν (fail a t)) : Holds κ ν (failSome fail l s) :=
  hd_foldl (fun _ _ ht => hd_cond (kp_drawn (hq.mono rfl) ht) (h _ _ (kp_drawn (hq.mono rfl) ht))) _ hs

def kw_recoverSector : Writes := ⟨[0x301001, 0x301004, 0x301005, 0x301006, 0x301008, 0x301101, 0x301104, 0x301105, 0x301106, 0x301108,
        0x302001, 0x302002, 0x302003, 0x302004, 0x302005, 0x302006, 0x404105, 0x404106, 0x406009, 0x407008, 0x407009, 0x408101, 0x408102,
        0x408103, 0x408106, 0x502004, 0x502005, 0x502006, 0x502007, 0x502009, 0x508003, 0x508004, 0x508005, 0x508006, 0x611003, 0x613008,
        0x613009, 0x61300A, 0x614009, 0x619004, 0x700301, 0x700302, 0x700303, 0x700304, 0x700305, 0x700306, 0x70030A, 0x800101, 0x800102,
        0x800103, 0x800104, 0x800105, 0x800106, 0x801002, 0xA00106, 0xB03004, 0xB04003, 0xC00104, 0xD00101, 0xD00102], [(0x612000, 0x613000,
        256), (0x620000, 0x624000, 256)]⟩
theorem kp_recoverSector {κ ν : Nat} (hq : Quiet kw_recoverSector κ ν) (unit page sector : Nat) (recovered : Bool) {s : State} (hs : Holds κ
        ν s) : Holds κ ν (recoverSector unit page sector recovered s) := by
  have n0 : κ ≠ 0x614009 := hq.ne rfl
  unfold recoverSector
  simp (maxDischargeDepth := 40) +contextual only [hs, hd_mk, hd_fold, hd_ite, ite_self, implies_true, n0, hd_bump, kp_detectError (hq.mono
        rfl), kp_failCheck (hq.mono rfl), kp_failSome (hq.mono rfl), hd_raise hq, ne_eq, not_false_eq_true]

def kw_wornDest : Writes := ⟨[0x611003, 0x619004], [(0x612000, 0x613000, 256), (0x620000, 0x624000, 256)]⟩
theorem kp_wornDest {κ ν : Nat} (hq : Quiet kw_wornDest κ ν) (free : Nat) {s : State} (hs : Holds κ ν s) : Holds κ ν (wornDest free s) := by
  unfold wornDest
  simp (maxDischargeDepth := 40) +contextual only [hs, hd_mk, hd_fold, hd_ite, ite_self, implies_true, kp_allocate (hq.mono rfl), ne_eq,
        not_false_eq_true]

theorem kp_saveCounts {κ ν : Nat} (hq : Quiet kw_none κ ν) {s : State} (hs : Holds κ ν s) : Holds κ ν (saveCounts s) := by
  unfold saveCounts
  simp (maxDischargeDepth := 40) +contextual only [hs, hd_mk, hd_fold, hd_ite, ite_self, implies_true, kp_saveErrors (hq.mono rfl), hd_foldl,
        ne_eq, not_false_eq_true]

def kw_denyStore : Writes := ⟨[0x302005, 0x302006, 0x406007, 0xB03004, 0xB04003], []⟩
theorem kp_denyStore {κ ν : Nat} (hq : Quiet kw_denyStore κ ν) (p : Port) (tag : Nat) {s : State} (hs : Holds κ ν s) : Holds κ ν (denyStore
        p tag s) := by
  have n0 : κ ≠ 0x406007 := hq.ne rfl
  unfold denyStore
  simp (maxDischargeDepth := 40) +contextual only [hs, hd_mk, hd_fold, hd_ite, ite_self, implies_true, n0, hd_bump, hd_raise hq, kp_sendCmp
        (hq.mono rfl), ne_eq, not_false_eq_true]

def kw_countAccepted : Writes := ⟨[0xB03005], []⟩
theorem kp_countAccepted {κ ν : Nat} (hq : Quiet kw_countAccepted κ ν) (p : Port) (code : Nat) {s : State} (hs : Holds κ ν s) : Holds κ ν
        (countAccepted p code s) := by
  unfold countAccepted
  simp (maxDischargeDepth := 40) +contextual only [hs, hd_mk, hd_fold, hd_ite, ite_self, implies_true, hd_count1 hq, kp_countEligible (hq.mono
        rfl), kp_countWrite (hq.mono rfl), ne_eq, not_false_eq_true]

def kw_enqueue : Writes := ⟨[0x615006], []⟩
theorem kp_enqueue {κ ν : Nat} (hq : Quiet kw_enqueue κ ν) (p : Port) (x : Store) {s : State} (hs : Holds κ ν s) : Holds κ ν (enqueue p x s)
        := by
  have n0 : κ ≠ 0x615006 := hq.ne rfl
  unfold enqueue
  simp (maxDischargeDepth := 40) +contextual only [hs, hd_mk, hd_fold, hd_ite, ite_self, implies_true, n0, hd_addTo, kp_modPort (hq.mono rfl),
        kp_takeSeq (hq.mono rfl), kp_useCredit (hq.mono rfl), ne_eq, not_false_eq_true]

def kw_acceptWhole : Writes := ⟨[0x302005, 0x302006, 0x406007, 0x615006, 0xB03004, 0xB03005, 0xB04003], []⟩
theorem kp_acceptWhole {κ ν : Nat} (hq : Quiet kw_acceptWhole κ ν) (p : Port) (tag line : Nat) (be : ByteEnables) (d : Line) (poison : Bool)
        (code : Nat) {s : State} (hs : Holds κ ν s) : Holds κ ν (acceptWhole p tag line be d poison code s) := by
  unfold acceptWhole
  simp (maxDischargeDepth := 40) +contextual only [hs, hd_mk, hd_fold, hd_ite, ite_self, implies_true, kp_countAccepted (hq.mono rfl),
        kp_denyStore (hq.mono rfl), kp_enqueue (hq.mono rfl), kp_sendCmp (hq.mono rfl), ne_eq, not_false_eq_true]

def kw_takeVictim : Writes := ⟨[0x406005], []⟩
theorem kp_takeVictim {κ ν : Nat} (hq : Quiet kw_takeVictim κ ν) {s : State} (hs : Holds κ ν s) : Holds κ ν (takeVictim s) := by
  have n0 : κ ≠ 0x406005 := hq.ne rfl
  unfold takeVictim
  simp (maxDischargeDepth := 40) +contextual only [hs, hd_mk, hd_fold, hd_ite, ite_self, implies_true, n0, hd_bump, kp_takeBlocks (hq.mono
        rfl), ne_eq, not_false_eq_true]

def kw_mergeVictim : Writes := ⟨[0x406005], []⟩
theorem kp_mergeVictim {κ ν : Nat} (hq : Quiet kw_mergeVictim κ ν) (p : Port) (x : Store) {s : State} (hs : Holds κ ν s) : Holds κ ν
        (mergeVictim p x s) := by
  unfold mergeVictim
  simp (maxDischargeDepth := 40) +contextual only [hs, hd_mk, hd_fold, hd_ite, ite_self, implies_true, kp_modPort (hq.mono rfl), kp_takeVictim
        (hq.mono rfl), ne_eq, not_false_eq_true]

def kw_mergeRead : Writes := ⟨[0x404105, 0x407008, 0x407009, 0x408101, 0x408102, 0x408103, 0x408106, 0x611003, 0x619004, 0xB03004,
        0xB04003], [(0x612000, 0x613000, 256), (0x620000, 0x624000, 256)]⟩
theorem kp_mergeRead {κ ν : Nat} (hq : Quiet kw_mergeRead κ ν) (p : Port) (x : Store) {s : State} (hs : Holds κ ν s) : Holds κ ν (mergeRead
        p x s) := by
  unfold mergeRead
  simp (maxDischargeDepth := 40) +contextual only [hs, hd_mk, hd_fold, hd_ite, ite_self, implies_true, kp_allocate (hq.mono rfl),
        kp_readMedium (hq.mono rfl), ne_eq, not_false_eq_true]

def kw_acceptPartial : Writes := ⟨[0x302005, 0x302006, 0x404105, 0x406005, 0x406007, 0x407008, 0x407009, 0x408101, 0x408102, 0x408103,
        0x408106, 0x611003, 0x615006, 0x619004, 0xB03004, 0xB03005, 0xB04003], [(0x612000, 0x613000, 256), (0x620000, 0x624000, 256)]⟩
theorem kp_acceptPartial {κ ν : Nat} (hq : Quiet kw_acceptPartial κ ν) (p : Port) (tag line : Nat) (be : ByteEnables) (d : Line) {s : State}
        (hs : Holds κ ν s) : Holds κ ν (acceptPartial p tag line be d s) := by
  unfold acceptPartial
  simp (maxDischargeDepth := 40) +contextual only [hs, hd_mk, hd_fold, hd_ite, ite_self, implies_true, kp_countAccepted (hq.mono rfl),
        kp_denyStore (hq.mono rfl), kp_enqueue (hq.mono rfl), kp_mergeRead (hq.mono rfl), kp_startRebuild (hq.mono rfl), kp_takeVictim
        (hq.mono rfl), ne_eq, not_false_eq_true]

def kw_mergeWaits : Writes := ⟨[0x406005], []⟩
theorem kp_mergeWaits {κ ν : Nat} (hq : Quiet kw_mergeWaits κ ν) (p : Port) (x : Store) {s : State} (hs : Holds κ ν s) : Holds κ ν
        (mergeWaits p x s) := by
  unfold mergeWaits
  simp (maxDischargeDepth := 40) +contextual only [hs, hd_mk, hd_fold, hd_ite, ite_self, implies_true, kp_mergeVictim (hq.mono rfl), ne_eq,
        not_false_eq_true]

def kw_stallDrain : Writes := ⟨[0x406004], []⟩
theorem kp_stallDrain {κ ν : Nat} (hq : Quiet kw_stallDrain κ ν) {s : State} (hs : Holds κ ν s) : Holds κ ν (stallDrain s) := by
  have n0 : κ ≠ 0x406004 := hq.ne rfl
  unfold stallDrain
  (try simp (maxDischargeDepth := 40) +contextual only [hs, hd_mk, hd_fold, hd_ite, ite_self, implies_true, n0, hd_bump, hd_raise hq, ne_eq,
        not_false_eq_true])
  repeat' split
  all_goals first
    | (with_reducible exact hs)
    | (simp (maxDischargeDepth := 40) +contextual only [hs, hd_mk, hd_fold, hd_ite, ite_self, implies_true, n0, hd_bump, hd_raise hq, ne_eq,
        not_false_eq_true]; done)

def kw_endStall : Writes := ⟨[0x406006], []⟩
theorem kp_endStall {κ ν : Nat} (hq : Quiet kw_endStall κ ν) {s : State} (hs : Holds κ ν s) : Holds κ ν (endStall s) := by
  have n0 : κ ≠ 0x406006 := hq.ne rfl
  unfold endStall
  (try simp (maxDischargeDepth := 40) +contextual only [hs, hd_mk, hd_fold, hd_ite, ite_self, implies_true, n0, hd_raiseTo, ne_eq,
        not_false_eq_true])
  repeat' split
  all_goals first
    | (with_reducible exact hs)
    | (simp (maxDischargeDepth := 40) +contextual only [hs, hd_mk, hd_fold, hd_ite, ite_self, implies_true, n0, hd_raiseTo, ne_eq,
        not_false_eq_true]; done)

def kw_answerNow : Writes := ⟨[0x408102, 0x408103, 0xB03004, 0xB04003], []⟩
theorem kp_answerNow {κ ν : Nat} (hq : Quiet kw_answerNow κ ν) (r : Read) (v : Version) {s : State} (hs : Holds κ ν s) : Holds κ ν
        (answerNow r v s) := by
  unfold answerNow
  simp (maxDischargeDepth := 40) +contextual only [hs, hd_mk, hd_fold, hd_ite, ite_self, implies_true, kp_answerRead (hq.mono rfl), ne_eq,
        not_false_eq_true]

def kw_usePrefetch : Writes := ⟨[0x407009], []⟩
theorem kp_usePrefetch {κ ν : Nat} (hq : Quiet kw_usePrefetch κ ν) (b : CacheBlock) {s : State} (hs : Holds κ ν s) : Holds κ ν (usePrefetch
        b s) := by
  have n0 : κ ≠ 0x407009 := hq.ne rfl
  unfold usePrefetch
  simp (maxDischargeDepth := 40) +contextual only [hs, hd_mk, hd_fold, hd_ite, ite_self, implies_true, n0, hd_bump, ne_eq, not_false_eq_true]

def kw_copyUp : Writes := ⟨[0x407005, 0x407006, 0x611003, 0x619004], [(0x612000, 0x613000, 256), (0x620000, 0x624000, 256)]⟩
theorem kp_copyUp {κ ν : Nat} (hq : Quiet kw_copyUp κ ν) (allocate : Nat) (b : CacheBlock) {s : State} (hs : Holds κ ν s) : Holds κ ν
        (copyUp allocate b s) := by
  unfold copyUp
  simp (maxDischargeDepth := 40) +contextual only [hs, hd_mk, hd_fold, hd_ite, ite_self, implies_true, kp_allocate (hq.mono rfl),
        kp_installOne (hq.mono rfl), ne_eq, not_false_eq_true]

def kw_lookUp : Writes := ⟨[0x404105, 0x407001, 0x407002, 0x407003, 0x407004, 0x407005, 0x407006, 0x407008, 0x407009, 0x408101, 0x408102,
        0x408103, 0x408106, 0x611003, 0x619004, 0xB03004, 0xB04003], [(0x612000, 0x613000, 256), (0x620000, 0x624000, 256)]⟩
theorem kp_lookUp {κ ν : Nat} (hq : Quiet kw_lookUp κ ν) (p : Port) (r : Read) {s : State} (hs : Holds κ ν s) : Holds κ ν (lookUp p r s) :=
        by
  have n0 : κ ≠ 0x407001 := hq.ne rfl
  have n1 : κ ≠ 0x407002 := hq.ne rfl
  have n2 : κ ≠ 0x407003 := hq.ne rfl
  have n3 : κ ≠ 0x407004 := hq.ne rfl
  unfold lookUp
  (try simp (maxDischargeDepth := 40) +contextual only [hs, hd_mk, hd_fold, hd_ite, ite_self, implies_true, n0, n1, n2, n3, hd_bump,
        kp_allocate (hq.mono rfl), kp_answerNow (hq.mono rfl), kp_copyUp (hq.mono rfl), hd_count1 hq, kp_readMedium (hq.mono rfl),
        kp_usePrefetch (hq.mono rfl), ne_eq, not_false_eq_true])
  repeat' split
  all_goals first
    | (with_reducible exact hs)
    | (simp (maxDischargeDepth := 40) +contextual only [hs, hd_mk, hd_fold, hd_ite, ite_self, implies_true, n0, n1, n2, n3, hd_bump, kp_allocate
        (hq.mono rfl), kp_answerNow (hq.mono rfl), kp_copyUp (hq.mono rfl), hd_count1 hq, kp_readMedium (hq.mono rfl), kp_usePrefetch
        (hq.mono rfl), ne_eq, not_false_eq_true]; done)

def kw_lookUpOwned : Writes := ⟨[0x404105, 0x407001, 0x407002, 0x407003, 0x407004, 0x407005, 0x407006, 0x407008, 0x407009, 0x408101,
        0x408102, 0x408103, 0x408106, 0x611003, 0x619004, 0xB03004, 0xB04003], [(0x612000, 0x613000, 256), (0x620000, 0x624000, 256)]⟩
theorem kp_lookUpOwned {κ ν : Nat} (hq : Quiet kw_lookUpOwned κ ν) (p : Port) (g : Nat) (r : Read) {s : State} (hs : Holds κ ν s) : Holds κ
        ν (lookUpOwned p g r s) := by
  have n0 : κ ≠ 0x407001 := hq.ne rfl
  have n1 : κ ≠ 0x407002 := hq.ne rfl
  unfold lookUpOwned
  (try simp (maxDischargeDepth := 40) +contextual only [hs, hd_mk, hd_fold, hd_ite, ite_self, implies_true, n0, n1, hd_bump, kp_answerNow
        (hq.mono rfl), hd_count1 hq, kp_lookUp (hq.mono rfl), kp_readMedium (hq.mono rfl), ne_eq, not_false_eq_true])
  repeat' split
  all_goals first
    | (with_reducible exact hs)
    | (simp (maxDischargeDepth := 40) +contextual only [hs, hd_mk, hd_fold, hd_ite, ite_self, implies_true, n0, n1, hd_bump, kp_answerNow (hq.mono
        rfl), hd_count1 hq, kp_lookUp (hq.mono rfl), kp_readMedium (hq.mono rfl), ne_eq, not_false_eq_true]; done)

def kw_acceptRead : Writes := ⟨[0x404105, 0x407001, 0x407002, 0x407003, 0x407004, 0x407005, 0x407006, 0x407008, 0x407009, 0x408101,
        0x408102, 0x408103, 0x408106, 0x611003, 0x619004, 0xB03004, 0xB03005, 0xB04003], [(0x612000, 0x613000, 256), (0x620000, 0x624000,
        256)]⟩
theorem kp_acceptRead {κ ν : Nat} (hq : Quiet kw_acceptRead κ ν) (p : Port) (tag line : Nat) {s : State} (hs : Holds κ ν s) : Holds κ ν
        (acceptRead p tag line s) := by
  unfold acceptRead
  (try simp (maxDischargeDepth := 40) +contextual only [hs, hd_mk, hd_fold, hd_ite, ite_self, implies_true, kp_addRead (hq.mono rfl),
        kp_answerNow (hq.mono rfl), hd_count1 hq, kp_countEligible (hq.mono rfl), kp_lookUp (hq.mono rfl), kp_lookUpOwned (hq.mono rfl),
        ne_eq, not_false_eq_true])
  repeat' split
  all_goals first
    | (with_reducible exact hs)
    | (simp (maxDischargeDepth := 40) +contextual only [hs, hd_mk, hd_fold, hd_ite, ite_self, implies_true, kp_addRead (hq.mono rfl), kp_answerNow
        (hq.mono rfl), hd_count1 hq, kp_countEligible (hq.mono rfl), kp_lookUp (hq.mono rfl), kp_lookUpOwned (hq.mono rfl), ne_eq,
        not_false_eq_true]; done)

def kw_moveSectors : Writes := ⟨[], [(0x612000, 0x613000, 256)]⟩
theorem kp_moveSectors {κ ν : Nat} (hq : Quiet kw_moveSectors κ ν) (r : Read) {s : State} (hs : Holds κ ν s) : Holds κ ν (moveSectors r s)
        := by
  unfold moveSectors
  simp (maxDischargeDepth := 40) +contextual only [hs, hd_mk, hd_fold, hd_ite, ite_self, implies_true, kp_reconstructionReads (hq.mono rfl),
        kp_sectorMoved (hq.mono rfl), ne_eq, not_false_eq_true]

def kw_verified : Writes := ⟨[0x407007, 0x407008, 0x408102, 0x408103, 0xB03004, 0xB04003], []⟩
theorem kp_verified {κ ν : Nat} (hq : Quiet kw_verified κ ν) (reads : List Read) {s : State} (hs : Holds κ ν s) : Holds κ ν (verified reads
        s) := by
  unfold verified
  simp (maxDischargeDepth := 40) +contextual only [hs, hd_mk, hd_fold, hd_ite, ite_self, implies_true, kp_reportDeadline (hq.mono rfl),
        kp_respond (hq.mono rfl), hd_foldl, ne_eq, not_false_eq_true]

def kw_notVerified : Writes := ⟨[], [(0x612000, 0x613000, 256)]⟩
theorem kp_notVerified {κ ν : Nat} (hq : Quiet kw_notVerified κ ν) (r : Read) {s : State} (hs : Holds κ ν s) : Holds κ ν (notVerified r s)
        := by
  unfold notVerified
  simp (maxDischargeDepth := 40) +contextual only [hs, hd_mk, hd_fold, hd_ite, ite_self, implies_true, kp_dropRead (hq.mono rfl),
        kp_startRetry (hq.mono rfl), ne_eq, not_false_eq_true]

def kw_sectorDone : Writes := ⟨[0x407005, 0x407006, 0x407007, 0x407008, 0x40700B, 0x408102, 0x408103, 0x800101, 0x800102, 0x800103,
        0x800104, 0x800105, 0x800106, 0x801002, 0xB03004, 0xB04003], [(0x612000, 0x613000, 256)]⟩
theorem kp_sectorDone {κ ν : Nat} (hq : Quiet kw_sectorDone κ ν) (r : Read) (bch : Bool) (tags : BitVec 4) {s : State} (hs : Holds κ ν s) :
        Holds κ ν (sectorDone r bch tags s) := by
  unfold sectorDone
  simp (maxDischargeDepth := 40) +contextual only [hs, hd_mk, hd_fold, hd_ite, ite_self, implies_true, kp_detectError (hq.mono rfl),
        kp_dropRead (hq.mono rfl), kp_fillSector (hq.mono rfl), kp_ladderLines (hq.mono rfl), kp_moveSectors (hq.mono rfl), kp_notVerified
        (hq.mono rfl), kp_prefetch (hq.mono rfl), kp_verified (hq.mono rfl), hd_foldl, ne_eq, not_false_eq_true]

def kw_tagDone : Writes := ⟨[0x70030A, 0x800101, 0x800102, 0x800103, 0x800104, 0x800105, 0x800106, 0x801002], [(0x612000, 0x613000, 256)]⟩
theorem kp_tagDone {κ ν : Nat} (hq : Quiet kw_tagDone κ ν) (obj : IntegrityObject) (r : Read) (bch : Bool) {s : State} (hs : Holds κ ν s) :
        Holds κ ν (tagDone obj r bch s) := by
  have n0 : κ ≠ 0x70030A := hq.ne rfl
  unfold tagDone
  simp (maxDischargeDepth := 40) +contextual only [hs, hd_mk, hd_fold, hd_ite, ite_self, implies_true, n0, hd_bump, kp_cacheLine (hq.mono
        rfl), kp_detectError (hq.mono rfl), kp_dropRead (hq.mono rfl), kp_moveSectors (hq.mono rfl), kp_startRetry (hq.mono rfl), ne_eq,
        not_false_eq_true]

theorem kp_modOps {κ ν : Nat} (hq : Quiet kw_none κ ν) (region : Nat) (f : Op → Op) {s : State} (hs : Holds κ ν s) : Holds κ ν (modOps
        region f s) := by
  unfold modOps
  simp (maxDischargeDepth := 40) +contextual only [hs, hd_mk, hd_fold, hd_ite, ite_self, implies_true, ne_eq, not_false_eq_true]

def kw_reconstructWaiting : Writes := ⟨[0x408106], []⟩
theorem kp_reconstructWaiting {κ ν : Nat} (hq : Quiet kw_reconstructWaiting κ ν) (region : Nat) (only : Read → Bool) {s : State} (hs : Holds
        κ ν s) : Holds κ ν (reconstructWaiting region only s) := by
  unfold reconstructWaiting
  simp (maxDischargeDepth := 40) +contextual only [hs, hd_mk, hd_fold, hd_ite, ite_self, implies_true, kp_modRead (hq.mono rfl),
        kp_noteReconstruction (hq.mono rfl), hd_foldl, ne_eq, not_false_eq_true]

def kw_holdOps : Writes := ⟨[0x408105, 0x408106], []⟩
theorem kp_holdOps {κ ν : Nat} (hq : Quiet kw_holdOps κ ν) (region : Nat) {s : State} (hs : Holds κ ν s) : Holds κ ν (holdOps region s) :=
        by
  have n0 : κ ≠ 0x408105 := hq.ne rfl
  unfold holdOps
  simp (maxDischargeDepth := 40) +contextual only [hs, hd_mk, hd_fold, hd_ite, ite_self, implies_true, n0, hd_addTo, kp_modOps (hq.mono rfl),
        kp_raiseTimes (hq.mono rfl), kp_reconstructWaiting (hq.mono rfl), ne_eq, not_false_eq_true]

theorem kp_relocate {κ ν : Nat} (hq : Quiet kw_none κ ν) (r : Read) {s : State} (hs : Holds κ ν s) : Holds κ ν (relocate r s).1 := by
  have h (c : Prop) [Decidable c] (x : Staged) :
      Holds κ ν (if c then (evict { s with staging := s.staging ++ [x] }, 0) else (s, 1)).1 := by
    split
    · exact kp_evict (hq.mono rfl) hs
    · exact hs
  exact h _ _

def kw_senseBelow : Writes := ⟨[], [(0x612000, 0x613000, 256)]⟩
theorem kp_senseBelow {κ ν : Nat} (hq : Quiet kw_senseBelow κ ν) (x : RetrySenses) (r : Read) {s : State} (hs : Holds κ ν s) : Holds κ ν
        (senseBelow x r s) := by
  unfold senseBelow
  simp (maxDischargeDepth := 40) +contextual only [hs, hd_mk, hd_fold, hd_ite, ite_self, implies_true, kp_sectorMoved (hq.mono rfl), ne_eq,
        not_false_eq_true]

def kw_noteRung : Writes := ⟨[0x408106], []⟩
theorem kp_noteRung {κ ν : Nat} (hq : Quiet kw_noteRung κ ν) (x : RetrySenses) {s : State} (hs : Holds κ ν s) : Holds κ ν (noteRung x s) :=
        by
  have n0 : κ ≠ 0x408106 := hq.ne rfl
  unfold noteRung
  simp (maxDischargeDepth := 40) +contextual only [hs, hd_mk, hd_fold, hd_ite, ite_self, implies_true, n0, hd_bump, kp_drawn (hq.mono rfl),
        ne_eq, not_false_eq_true]

theorem kp_cacheTag {κ ν : Nat} (hq : Quiet kw_none κ ν) (r : Read) {s : State} (hs : Holds κ ν s) : Holds κ ν (cacheTag r s) := by
  unfold cacheTag
  (try simp (maxDischargeDepth := 40) +contextual only [hs, hd_mk, hd_fold, hd_ite, ite_self, implies_true, kp_cacheLine (hq.mono rfl), ne_eq,
        not_false_eq_true])
  repeat' split
  all_goals first
    | (with_reducible exact hs)
    | (simp (maxDischargeDepth := 40) +contextual only [hs, hd_mk, hd_fold, hd_ite, ite_self, implies_true, kp_cacheLine (hq.mono rfl), ne_eq,
        not_false_eq_true]; done)

def kw_failRead : Writes := ⟨[0x301001, 0x301004, 0x301005, 0x301006, 0x301008, 0x301101, 0x301104, 0x301105, 0x301106, 0x301108, 0x302001,
        0x302002, 0x302003, 0x302004, 0x302005, 0x302006, 0x404105, 0x404106, 0x406009, 0x407008, 0x407009, 0x408101, 0x408102, 0x408103,
        0x408106, 0x502004, 0x502005, 0x502006, 0x502007, 0x502009, 0x508003, 0x508004, 0x508005, 0x508006, 0x611003, 0x613008, 0x613009,
        0x61300A, 0x619004, 0x700301, 0x700302, 0x700303, 0x700304, 0x700305, 0x700306, 0x70030A, 0xA00106, 0xB03004, 0xB04003, 0xC00104,
        0xD00101, 0xD00102], [(0x612000, 0x613000, 256), (0x620000, 0x624000, 256)]⟩
theorem kp_failRead {κ ν : Nat} (hq : Quiet kw_failRead κ ν) (r : Read) {s : State} (hs : Holds κ ν s) : Holds κ ν (failRead r s) := by
  unfold failRead
  (try simp (maxDischargeDepth := 40) +contextual only [hs, hd_mk, hd_fold, hd_ite, ite_self, implies_true, kp_failCheck (hq.mono rfl),
        hd_foldl, ne_eq, not_false_eq_true])
  repeat' split
  all_goals first
    | (with_reducible exact hs)
    | (simp (maxDischargeDepth := 40) +contextual only [hs, hd_mk, hd_fold, hd_ite, ite_self, implies_true, kp_failCheck (hq.mono rfl), hd_foldl,
        ne_eq, not_false_eq_true]; done)

def kw_scheduleRefresh : Writes := ⟨[0x617005], []⟩
theorem kp_scheduleRefresh {κ ν : Nat} (hq : Quiet kw_scheduleRefresh κ ν) (u : Nat) {s : State} (hs : Holds κ ν s) : Holds κ ν
        (scheduleRefresh u s) := by
  have n0 : κ ≠ 0x617005 := hq.ne rfl
  unfold scheduleRefresh
  simp (maxDischargeDepth := 40) +contextual only [hs, hd_mk, hd_fold, hd_ite, ite_self, implies_true, n0, hd_bump, kp_setStripe (hq.mono
        rfl), hd_raise hq, ne_eq, not_false_eq_true]

theorem kp_noteBadVisit {κ ν : Nat} (hq : Quiet kw_none κ ν) (u : Nat) (rep : PatrolReport) {s : State} (hs : Holds κ ν s) : Holds κ ν
        (noteBadVisit u rep s) := by
  unfold noteBadVisit
  simp (maxDischargeDepth := 40) +contextual only [hs, hd_mk, hd_fold, hd_ite, ite_self, implies_true, kp_setStripe (hq.mono rfl), hd_foldl,
        ne_eq, not_false_eq_true]

def kw_footersRead : Writes := ⟨[], [(0x612000, 0x613000, 256)]⟩
theorem kp_footersRead {κ ν : Nat} (hq : Quiet kw_footersRead κ ν) (u n : Nat) {s : State} (hs : Holds κ ν s) : Holds κ ν (footersRead u n
        s) := by
  have fchannelKey0x01 : ∀ c : Nat, κ ≠ channelKey c 0x01 := fun c => hq.outside (lo := 0x612000) (hi := 0x613000) (sub := 256) (by decide) (by unfold channelKey; omega) (by unfold channelKey; omega) (by unfold channelKey; omega)
  unfold footersRead
  simp (maxDischargeDepth := 40) +contextual only [hs, hd_mk, hd_fold, hd_ite, ite_self, implies_true, fchannelKey0x01, hd_addTo, hd_count hq,
        ne_eq, not_false_eq_true]

def kw_judgeSample : Writes := ⟨[0x617005, 0x617008], [(0x612000, 0x613000, 256)]⟩
theorem kp_judgeSample {κ ν : Nat} (hq : Quiet kw_judgeSample κ ν) (u : Nat) (inPass : Bool) (rep : PatrolReport) {s : State} (hs : Holds κ
        ν s) : Holds κ ν (judgeSample u inPass rep s) := by
  have n0 : κ ≠ 0x617008 := hq.ne rfl
  unfold judgeSample
  simp (maxDischargeDepth := 40) +contextual only [hs, hd_mk, hd_fold, hd_ite, ite_self, implies_true, n0, hd_bump, kp_setUnit (hq.mono rfl),
        kp_agentReads (hq.mono rfl), kp_noteBadVisit (hq.mono rfl), kp_scheduleRefresh (hq.mono rfl), ne_eq, not_false_eq_true]

def kw_sampleUnit : Writes := ⟨[0x617004, 0x617005, 0x617006, 0x617008, 0xA00106], [(0x612000, 0x613000, 256)]⟩
theorem kp_sampleUnit {κ ν : Nat} (hq : Quiet kw_sampleUnit κ ν) (u : Nat) (rep : PatrolReport) {s : State} (hs : Holds κ ν s) : Holds κ ν
        (sampleUnit u rep s) := by
  have n0 : κ ≠ 0x617004 := hq.ne rfl
  have n1 : κ ≠ 0x617006 := hq.ne rfl
  unfold sampleUnit
  simp (maxDischargeDepth := 40) +contextual only [hs, hd_mk, hd_fold, hd_ite, ite_self, implies_true, n0, n1, hd_bump, hd_put, kp_setUnit
        (hq.mono rfl), kp_agentReads (hq.mono rfl), kp_footersRead (hq.mono rfl), kp_judgeEpisode (hq.mono rfl), kp_judgeSample (hq.mono
        rfl), kp_scheduleRefresh (hq.mono rfl), ne_eq, not_false_eq_true]

def kw_visit : Writes := ⟨[0x301001, 0x301004, 0x301005, 0x301006, 0x301008, 0x301101, 0x301104, 0x301105, 0x301106, 0x301108, 0x302001,
        0x302002, 0x302003, 0x302004, 0x302005, 0x302006, 0x404105, 0x404106, 0x406009, 0x407008, 0x407009, 0x408101, 0x408102, 0x408103,
        0x408106, 0x502004, 0x502005, 0x502006, 0x502007, 0x502009, 0x508003, 0x508004, 0x508005, 0x508006, 0x611003, 0x613008, 0x613009,
        0x61300A, 0x614009, 0x617004, 0x617005, 0x617006, 0x617008, 0x619004, 0x700301, 0x700302, 0x700303, 0x700304, 0x700305, 0x700306,
        0x70030A, 0x800101, 0x800102, 0x800103, 0x800104, 0x800105, 0x800106, 0x801002, 0xA00106, 0xB03004, 0xB04003, 0xC00104, 0xD00101,
        0xD00102], [(0x612000, 0x613000, 256), (0x620000, 0x624000, 256)]⟩
theorem kp_visit {κ ν : Nat} (hq : Quiet kw_visit κ ν) (u : Nat) (rep : PatrolReport) {s : State} (hs : Holds κ ν s) : Holds κ ν (visit u
        rep s) := by
  unfold visit
  simp (maxDischargeDepth := 40) +contextual only [hs, hd_mk, hd_fold, hd_ite, ite_self, implies_true, kp_drawn (hq.mono rfl),
        kp_recoverSector (hq.mono rfl), kp_sampleUnit (hq.mono rfl), ne_eq, not_false_eq_true]

def kw_poisonLine : Writes := ⟨[0x61900A], []⟩
theorem kp_poisonLine {κ ν : Nat} (hq : Quiet kw_poisonLine κ ν) (line : Nat) {s : State} (hs : Holds κ ν s) : Holds κ ν (poisonLine line s)
        := by
  have n0 : κ ≠ 0x61900A := hq.ne rfl
  unfold poisonLine
  simp (maxDischargeDepth := 40) +contextual only [hs, hd_mk, hd_fold, hd_ite, ite_self, implies_true, n0, hd_bump, kp_storeCommitted (hq.mono
        rfl), hd_takeStamp hq, ne_eq, not_false_eq_true]

theorem kp_poisonProvisional {κ ν : Nat} (hq : Quiet kw_none κ ν) (line : Nat) {s : State} (hs : Holds κ ν s) : Holds κ ν (poisonProvisional
        line s) := by
  unfold poisonProvisional
  simp (maxDischargeDepth := 40) +contextual only [hs, hd_mk, hd_fold, hd_ite, ite_self, implies_true, kp_stageLine (hq.mono rfl),
        hd_takeStamp hq, hd_foldl, ne_eq, not_false_eq_true]

def kw_loseData : Writes := ⟨[0x61900A], []⟩
theorem kp_loseData {κ ν : Nat} (hq : Quiet kw_loseData κ ν) (die : Nat) {s : State} (hs : Holds κ ν s) : Holds κ ν (loseData die s) := by
  have n0 : κ ≠ 0x61900A := hq.ne rfl
  unfold loseData
  simp (maxDischargeDepth := 40) +contextual only [hs, hd_mk, hd_fold, hd_ite, ite_self, implies_true, n0, hd_bump, kp_nameLines (hq.mono
        rfl), kp_poisonLine (hq.mono rfl), kp_poisonProvisional (hq.mono rfl), hd_raise hq, hd_foldl, ne_eq, not_false_eq_true]

theorem kp_dropWork {κ ν : Nat} (hq : Quiet kw_none κ ν) (die : Nat) (failed : Bool) {s : State} (hs : Holds κ ν s) : Holds κ ν (dropWork
        die failed s) := by
  unfold dropWork
  simp (maxDischargeDepth := 40) +contextual only [hs, hd_mk, hd_fold, hd_ite, ite_self, implies_true, kp_endOverruns (hq.mono rfl), ne_eq,
        not_false_eq_true]

def kw_moveSaves : Writes := ⟨[0x611003, 0x619004], [(0x612000, 0x613000, 256), (0x620000, 0x624000, 256)]⟩
theorem kp_moveSaves {κ ν : Nat} (hq : Quiet kw_moveSaves κ ν) {s : State} (hs : Holds κ ν s) : Holds κ ν (moveSaves s) := by
  refine hd_foldl (fun t i ht => ?_) _ hs
  split
  · exact ht
  · split
    · exact kp_moveRing (hq.mono rfl) _ _ _ ht
    · exact ht

def kw_dieLeaves : Writes := ⟨[0x408106, 0x611003, 0x619004, 0x61900A, 0x61A002, 0x61A003, 0xA00106], [(0x612000, 0x613000, 256), (0x620000,
        0x624000, 256)]⟩
theorem kp_dieLeaves {κ ν : Nat} (hq : Quiet kw_dieLeaves κ ν) (die state : Nat) {s : State} (hs : Holds κ ν s) : Holds κ ν (dieLeaves die
        state s) := by
  have n0 : κ ≠ 0x61A002 := hq.ne rfl
  have n1 : κ ≠ 0x61A003 := hq.ne rfl
  have fdieKey0x01 : ∀ d : Nat, κ ≠ dieKey d 0x01 := fun d => hq.outside (lo := 0x620000) (hi := 0x624000) (sub := 256) (by decide) (by unfold dieKey; omega) (by unfold dieKey; omega) (by unfold dieKey; omega)
  unfold dieLeaves
  simp (maxDischargeDepth := 40) +contextual only [hs, hd_mk, hd_fold, hd_ite, ite_self, implies_true, n0, n1, fdieKey0x01, hd_put,
        kp_dropWork (hq.mono rfl), kp_judgeEpisode (hq.mono rfl), kp_loseData (hq.mono rfl), kp_moveSaves (hq.mono rfl), kp_noteHealth
        (hq.mono rfl), hd_raise hq, kp_reconstructWaiting (hq.mono rfl), hd_foldl, ne_eq, not_false_eq_true]

theorem kp_refuseBinds {κ ν : Nat} (hq : Quiet kw_none κ ν) {s : State} (hs : Holds κ ν s) : Holds κ ν (refuseBinds s) := by
  refine hd_foldl (fun t e ht => ?_) _ hs
  split
  · exact kp_setGroup (hq.mono rfl) _ _ ht
  · exact ht

def kw_takeOffline : Writes := ⟨[0x302001, 0x302002, 0x302005, 0x302006, 0x406008, 0x502007, 0x611003, 0x619004, 0xB03004, 0xB04003],
        [(0x410000, 0x414000, 0x0C), (0x612000, 0x613000, 256), (0x620000, 0x624000, 256)]⟩
theorem kp_takeOffline {κ ν : Nat} (hq : Quiet kw_takeOffline κ ν) (r : Nat) {s : State} (hs : Holds κ ν s) : Holds κ ν (takeOffline r s) :=
        by
  unfold takeOffline
  simp (maxDischargeDepth := 40) +contextual only [hs, hd_mk, hd_fold, hd_ite, ite_self, implies_true, kp_forceAbort (hq.mono rfl),
        kp_refuseBinds (hq.mono rfl), kp_setRegionState (hq.mono rfl), hd_foldl, ne_eq, not_false_eq_true]

def kw_prepare : Writes := ⟨[0x406008], [(0x410000, 0x414000, 0x0C)]⟩
theorem kp_prepare {κ ν : Nat} (hq : Quiet kw_prepare κ ν) (r : Nat) {s : State} (hs : Holds κ ν s) : Holds κ ν (prepare r s) := by
  unfold prepare
  simp (maxDischargeDepth := 40) +contextual only [hs, hd_mk, hd_fold, hd_ite, ite_self, implies_true, kp_dirtySegment (hq.mono rfl),
        kp_setRegionState (hq.mono rfl), hd_foldl, ne_eq, not_false_eq_true]

theorem kp_abandonPreparation {κ ν : Nat} (hq : Quiet kw_none κ ν) (r : Nat) {s : State} (hs : Holds κ ν s) : Holds κ ν (abandonPreparation
        r s) := by
  unfold abandonPreparation
  simp (maxDischargeDepth := 40) +contextual only [hs, hd_mk, hd_fold, hd_ite, ite_self, implies_true, ne_eq, not_false_eq_true]

def kw_bringOnline : Writes := ⟨[0x406008], [(0x410000, 0x414000, 0x0C)]⟩
theorem kp_bringOnline {κ ν : Nat} (hq : Quiet kw_bringOnline κ ν) (r : Nat) {s : State} (hs : Holds κ ν s) : Holds κ ν (bringOnline r s) :=
        by
  unfold bringOnline
  simp (maxDischargeDepth := 40) +contextual only [hs, hd_mk, hd_fold, hd_ite, ite_self, implies_true, kp_prepare (hq.mono rfl),
        kp_setRegionState (hq.mono rfl), ne_eq, not_false_eq_true]

def kw_failIntegrity : Writes := ⟨[0x301001, 0x301004, 0x301005, 0x301006, 0x301008, 0x301101, 0x301104, 0x301105, 0x301106, 0x301108,
        0x302001, 0x302002, 0x302003, 0x302004, 0x302005, 0x302006, 0x404105, 0x404106, 0x406009, 0x407008, 0x407009, 0x408101, 0x408102,
        0x408103, 0x408106, 0x502004, 0x502005, 0x502006, 0x502007, 0x502009, 0x508003, 0x508004, 0x508005, 0x508006, 0x611003, 0x613008,
        0x613009, 0x61300A, 0x619004, 0x700301, 0x700302, 0x700303, 0x700304, 0x700305, 0x700306, 0x70030A, 0xA00106, 0xB03004, 0xB04003,
        0xC00104, 0xD00101, 0xD00102], [(0x612000, 0x613000, 256), (0x620000, 0x624000, 256)]⟩
theorem kp_failIntegrity {κ ν : Nat} (hq : Quiet kw_failIntegrity κ ν) (obj : IntegrityObject) {s : State} (hs : Holds κ ν s) : Holds κ ν
        (failIntegrity obj s) := by
  unfold failIntegrity
  simp (maxDischargeDepth := 40) +contextual only [hs, hd_mk, hd_fold, hd_ite, ite_self, implies_true, kp_failCheck (hq.mono rfl), hd_foldl,
        ne_eq, not_false_eq_true]

def kw_writeAnchor : Writes := ⟨[0x70030D], []⟩
theorem kp_writeAnchor {κ ν : Nat} (hq : Quiet kw_writeAnchor κ ν) {s : State} (hs : Holds κ ν s) : Holds κ ν (writeAnchor s) := by
  have n0 : κ ≠ 0x70030D := hq.ne rfl
  unfold writeAnchor
  simp (maxDischargeDepth := 40) +contextual only [hs, hd_mk, hd_fold, hd_ite, ite_self, implies_true, n0, hd_put, hd_takeStamp hq, ne_eq,
        not_false_eq_true]

def kw_writePages : Writes := ⟨[0x611003, 0x613009, 0x61300A, 0x614007, 0x615007, 0x619004], [(0x612000, 0x613000, 256), (0x620000,
        0x624000, 256)]⟩
theorem kp_writePages {κ ν : Nat} (hq : Quiet kw_writePages κ ν) (pages : List Nat) {s : State} (hs : Holds κ ν s) : Holds κ ν (writePages
        pages s) := by
  unfold writePages
  simp (maxDischargeDepth := 40) +contextual only [hs, hd_mk, hd_fold, hd_ite, ite_self, implies_true, kp_writeMoves (hq.mono rfl), ne_eq,
        not_false_eq_true]

theorem kp_applyPending {κ ν : Nat} (hq : Quiet kw_none κ ν) {s : State} (hs : Holds κ ν s) : Holds κ ν (applyPending s) := by
  unfold applyPending
  simp (maxDischargeDepth := 40) +contextual only [hs, hd_mk, hd_fold, hd_ite, ite_self, implies_true, kp_cacheLine (hq.mono rfl), hd_foldl,
        ne_eq, not_false_eq_true]

def kw_endBatch : Writes := ⟨[0x70030D], []⟩
theorem kp_endBatch {κ ν : Nat} (hq : Quiet kw_endBatch κ ν) (stale : List Nat) {s : State} (hs : Holds κ ν s) : Holds κ ν (endBatch stale
        s) := by
  unfold endBatch
  simp (maxDischargeDepth := 40) +contextual only [hs, hd_mk, hd_fold, hd_ite, ite_self, implies_true, kp_writeAnchor (hq.mono rfl), ne_eq,
        not_false_eq_true]

def kw_writeBack : Writes := ⟨[0x611003, 0x613009, 0x61300A, 0x614007, 0x615007, 0x619004, 0x70030D], [(0x612000, 0x613000, 256), (0x620000,
        0x624000, 256)]⟩
theorem kp_writeBack {κ ν : Nat} (hq : Quiet kw_writeBack κ ν) {s : State} (hs : Holds κ ν s) : Holds κ ν (writeBack s) := by
  unfold writeBack
  simp (maxDischargeDepth := 40) +contextual only [hs, hd_mk, hd_fold, hd_ite, ite_self, implies_true, kp_applyPending (hq.mono rfl),
        kp_endBatch (hq.mono rfl), kp_programTail (hq.mono rfl), kp_writePages (hq.mono rfl), ne_eq, not_false_eq_true]

def kw_pinRegion : Writes := ⟨[0x70030A], [(0x612000, 0x613000, 256)]⟩
theorem kp_pinRegion {κ ν : Nat} (hq : Quiet kw_pinRegion κ ν) (r : Nat) {s : State} (hs : Holds κ ν s) : Holds κ ν (pinRegion r s) := by
  have n0 : κ ≠ 0x70030A := hq.ne rfl
  unfold pinRegion
  simp (maxDischargeDepth := 40) +contextual only [hs, hd_mk, hd_fold, hd_ite, ite_self, implies_true, n0, hd_addTo, kp_cacheLine (hq.mono
        rfl), kp_sectorsMoved (hq.mono rfl), hd_foldl, ne_eq, not_false_eq_true]

def kw_noteRecovered : Writes := ⟨[0x700307], []⟩
theorem kp_noteRecovered {κ ν : Nat} (hq : Quiet kw_noteRecovered κ ν) (l : FetchedLine) {s : State} (hs : Holds κ ν s) : Holds κ ν
        (noteRecovered l s) := by
  have n0 : κ ≠ 0x700307 := hq.ne rfl
  unfold noteRecovered
  simp (maxDischargeDepth := 40) +contextual only [hs, hd_mk, hd_fold, hd_ite, ite_self, implies_true, n0, hd_bump, hd_raise hq, ne_eq,
        not_false_eq_true]

theorem kp_poisonRanges {κ ν : Nat} (hq : Quiet kw_none κ ν) (stamp : Nat) (ranges : List (Nat × Nat)) {s : State} (hs : Holds κ ν s) :
        Holds κ ν (poisonRanges stamp ranges s) := by
  unfold poisonRanges
  simp (maxDischargeDepth := 40) +contextual only [hs, hd_mk, hd_fold, hd_ite, ite_self, implies_true, kp_poisonProvisional (hq.mono rfl),
        kp_storeCommitted (hq.mono rfl), hd_takeStamp hq, hd_foldl, ne_eq, not_false_eq_true]

def kw_resume : Writes := ⟨[0x301001, 0x301004, 0x301101, 0x301104, 0x700301, 0x70030D, 0xA00106, 0xD00101, 0xD00102], []⟩
theorem kp_resume {κ ν : Nat} (hq : Quiet kw_resume κ ν) (reAnchor : Bool) {s : State} (hs : Holds κ ν s) : Holds κ ν (resume reAnchor s) :=
        by
  have n0 : κ ≠ 0x700301 := hq.ne rfl
  unfold resume
  (try simp (maxDischargeDepth := 40) +contextual only [hs, hd_mk, hd_fold, hd_ite, ite_self, implies_true, n0, kp_modPort (hq.mono rfl),
        hd_put, kp_dropCachedBlocks (hq.mono rfl), kp_poisonRanges (hq.mono rfl), hd_raise hq, kp_raiseReady (hq.mono rfl), kp_setMode
        (hq.mono rfl), hd_takeStamp hq, kp_writeAnchor (hq.mono rfl), hd_foldl, ne_eq, not_false_eq_true])
  repeat' split
  all_goals first
    | (with_reducible exact hs)
    | (simp (maxDischargeDepth := 40) +contextual only [hs, hd_mk, hd_fold, hd_ite, ite_self, implies_true, n0, kp_modPort (hq.mono rfl), hd_put,
        kp_dropCachedBlocks (hq.mono rfl), kp_poisonRanges (hq.mono rfl), hd_raise hq, kp_raiseReady (hq.mono rfl), kp_setMode (hq.mono
        rfl), hd_takeStamp hq, kp_writeAnchor (hq.mono rfl), hd_foldl, ne_eq, not_false_eq_true]; done)

def kw_abortForSlot : Writes := ⟨[0x302001, 0x302002, 0x302005, 0x302006, 0x502007, 0x611003, 0x619004, 0xB03004, 0xB04003], [(0x612000,
        0x613000, 256), (0x620000, 0x624000, 256)]⟩
theorem kp_abortForSlot {κ ν : Nat} (hq : Quiet kw_abortForSlot κ ν) (slot : Nat) {s : State} (hs : Holds κ ν s) : Holds κ ν (abortForSlot
        slot s) := by
  unfold abortForSlot
  simp (maxDischargeDepth := 40) +contextual only [hs, hd_mk, hd_fold, hd_ite, ite_self, implies_true, kp_forceAbort (hq.mono rfl), hd_foldl,
        ne_eq, not_false_eq_true]

def kw_installKey : Writes := ⟨[0x302005, 0x302006, 0x611003, 0x619004, 0xB03004, 0xB04003], [(0x612000, 0x613000, 256), (0x620000,
        0x624000, 256), (0x700101, 0x700111, 256)]⟩
theorem kp_installKey {κ ν : Nat} (hq : Quiet kw_installKey κ ν) (slot : Nat) {s : State} (hs : Holds κ ν s) : Holds κ ν (installKey slot s)
        := by
  have fslotKey : ∀ n : Nat, κ ≠ slotKey n := fun n => hq.outside (lo := 0x700101) (hi := 0x700111) (sub := 256) (by decide) (by unfold slotKey; omega) (by unfold slotKey; omega) (by unfold slotKey; omega)
  unfold installKey
  simp (maxDischargeDepth := 40) +contextual only [hs, hd_mk, hd_fold, hd_ite, ite_self, implies_true, fslotKey, hd_put, kp_dirtyPages
        (hq.mono rfl), kp_dropCachedRange (hq.mono rfl), kp_journalPut (hq.mono rfl), kp_programTail (hq.mono rfl), kp_sendCmps (hq.mono
        rfl), hd_foldl, ne_eq, not_false_eq_true]

def kw_renewSlot : Writes := ⟨[0x302001, 0x302002, 0x302005, 0x302006, 0x502007, 0x611003, 0x619004, 0xB03004, 0xB04003], [(0x612000,
        0x613000, 256), (0x620000, 0x624000, 256), (0x700101, 0x700111, 256)]⟩
theorem kp_renewSlot {κ ν : Nat} (hq : Quiet kw_renewSlot κ ν) (slot : Nat) {s : State} (hs : Holds κ ν s) : Holds κ ν (renewSlot slot s) :=
        by
  unfold renewSlot
  simp (maxDischargeDepth := 40) +contextual only [hs, hd_mk, hd_fold, hd_ite, ite_self, implies_true, kp_abortForSlot (hq.mono rfl),
        kp_installKey (hq.mono rfl), hd_raise hq, ne_eq, not_false_eq_true]

def kw_sanitizeNow : Writes := ⟨[0x302001, 0x302002, 0x302005, 0x302006, 0x502007, 0x611003, 0x619004, 0xB03004, 0xB04003], [(0x612000,
        0x613000, 256), (0x620000, 0x624000, 256), (0x700101, 0x700111, 256)]⟩
theorem kp_sanitizeNow {κ ν : Nat} (hq : Quiet kw_sanitizeNow κ ν) {s : State} (hs : Holds κ ν s) : Holds κ ν (sanitizeNow s) := by
  unfold sanitizeNow
  simp (maxDischargeDepth := 40) +contextual only [hs, hd_mk, hd_fold, hd_ite, ite_self, implies_true, kp_abortForSlot (hq.mono rfl),
        kp_installKey (hq.mono rfl), hd_raise hq, kp_raiseTimes (hq.mono rfl), hd_foldl, ne_eq, not_false_eq_true]

def kw_writeCheckpoint : Writes := ⟨[0x404009, 0x611003, 0x619004], [(0x612000, 0x613000, 256), (0x620000, 0x624000, 256)]⟩
theorem kp_writeCheckpoint {κ ν : Nat} (hq : Quiet kw_writeCheckpoint κ ν) (seg : Nat) {s : State} (hs : Holds κ ν s) : Holds κ ν
        (writeCheckpoint seg s) := by
  have n0 : κ ≠ 0x404009 := hq.ne rfl
  unfold writeCheckpoint
  simp (maxDischargeDepth := 40) +contextual only [hs, hd_mk, hd_fold, hd_ite, ite_self, implies_true, n0, hd_bump, kp_checkpointSectors
        (hq.mono rfl), kp_journalPut (hq.mono rfl), kp_programTail (hq.mono rfl), kp_putEntry (hq.mono rfl), hd_takeStamp hq, ne_eq,
        not_false_eq_true]

def kw_writeDirectory : Writes := ⟨[0x611003, 0x619004], [(0x612000, 0x613000, 256), (0x620000, 0x624000, 256)]⟩
theorem kp_writeDirectory {κ ν : Nat} (hq : Quiet kw_writeDirectory κ ν) {s : State} (hs : Holds κ ν s) : Holds κ ν (writeDirectory s) := by
  unfold writeDirectory
  simp (maxDischargeDepth := 40) +contextual only [hs, hd_mk, hd_fold, hd_ite, ite_self, implies_true, kp_checkpointSectors (hq.mono rfl),
        kp_journalPut (hq.mono rfl), kp_putEntry (hq.mono rfl), hd_takeStamp hq, kp_writeTableImage (hq.mono rfl), ne_eq, not_false_eq_true]

theorem kp_takeSegment {κ ν : Nat} (hq : Quiet kw_none κ ν) (seg : Nat) {s : State} (hs : Holds κ ν s) : Holds κ ν (takeSegment seg s) := by
  unfold takeSegment
  simp (maxDischargeDepth := 40) +contextual only [hs, hd_mk, hd_fold, hd_ite, ite_self, implies_true, ne_eq, not_false_eq_true]

def kw_checkpointNow : Writes := ⟨[0x404009, 0x611003, 0x613009, 0x61300A, 0x614007, 0x615007, 0x619004, 0x70030D], [(0x612000, 0x613000,
        256), (0x620000, 0x624000, 256)]⟩
theorem kp_checkpointNow {κ ν : Nat} (hq : Quiet kw_checkpointNow κ ν) (seg : Nat) {s : State} (hs : Holds κ ν s) : Holds κ ν (checkpointNow
        seg s) := by
  unfold checkpointNow
  simp (maxDischargeDepth := 40) +contextual only [hs, hd_mk, hd_fold, hd_ite, ite_self, implies_true, kp_writeBack (hq.mono rfl),
        kp_writeCheckpoint (hq.mono rfl), kp_writeDirectory (hq.mono rfl), ne_eq, not_false_eq_true]

def kw_rebuildAll : Writes := ⟨[0x404105, 0x404106, 0x407008, 0x407009, 0x408101, 0x408102, 0x408103, 0x408106, 0xB03004, 0xB04003], []⟩
theorem kp_rebuildAll {κ ν : Nat} (hq : Quiet kw_rebuildAll κ ν) {s : State} (hs : Holds κ ν s) : Holds κ ν (rebuildAll s) := by
  unfold rebuildAll
  simp (maxDischargeDepth := 40) +contextual only [hs, hd_mk, hd_fold, hd_ite, ite_self, implies_true, kp_rebuildSegment (hq.mono rfl),
        kp_releaseReads (hq.mono rfl), hd_foldl, ne_eq, not_false_eq_true]

def kw_detectSomewhere : Writes := ⟨[0x800101, 0x800102, 0x800103, 0x800104, 0x800105, 0x800106, 0x801002], []⟩
theorem kp_detectSomewhere {κ ν : Nat} (hq : Quiet kw_detectSomewhere κ ν) (mem : MemKind) (uncorrectable : Bool) {s : State} (hs : Holds κ
        ν s) : Holds κ ν (detectSomewhere mem uncorrectable s) := by
  unfold detectSomewhere
  simp (maxDischargeDepth := 40) +contextual only [hs, hd_mk, hd_fold, hd_ite, ite_self, implies_true, kp_detectError (hq.mono rfl), kp_drawn
        (hq.mono rfl), ne_eq, not_false_eq_true]

def kw_cacheError : Writes := ⟨[0x301001, 0x301004, 0x301005, 0x301006, 0x301008, 0x301101, 0x301104, 0x301105, 0x301106, 0x301108,
        0x302001, 0x302002, 0x302003, 0x302004, 0x302005, 0x302006, 0x404105, 0x404106, 0x406009, 0x407008, 0x407009, 0x408101, 0x408102,
        0x408103, 0x408106, 0x502004, 0x502005, 0x502006, 0x502007, 0x502009, 0x508003, 0x508004, 0x508005, 0x508006, 0x611003, 0x613008,
        0x613009, 0x61300A, 0x619004, 0x700301, 0x700302, 0x700303, 0x700304, 0x700305, 0x700306, 0x70030A, 0x70030C, 0x800101, 0x800102,
        0x800103, 0x800104, 0x800105, 0x800106, 0x801002, 0xA00106, 0xB03004, 0xB04003, 0xC00104, 0xD00101, 0xD00102], [(0x612000, 0x613000,
        256), (0x620000, 0x624000, 256)]⟩
theorem kp_cacheError {κ ν : Nat} (hq : Quiet kw_cacheError κ ν) (obj : IntegrityObject) (fault : CacheFault) {s : State} (hs : Holds κ ν s)
        : Holds κ ν (cacheError obj fault s) := by
  have n0 : κ ≠ 0x70030C := hq.ne rfl
  unfold cacheError
  (try simp (maxDischargeDepth := 40) +contextual only [hs, hd_mk, hd_fold, hd_ite, ite_self, implies_true, n0, hd_bump, kp_detectSomewhere
        (hq.mono rfl), kp_failIntegrity (hq.mono rfl), hd_raise hq, ne_eq, not_false_eq_true])
  repeat' split
  all_goals first
    | (with_reducible exact hs)
    | (simp (maxDischargeDepth := 40) +contextual only [hs, hd_mk, hd_fold, hd_ite, ite_self, implies_true, n0, hd_bump, kp_detectSomewhere
        (hq.mono rfl), kp_failIntegrity (hq.mono rfl), hd_raise hq, ne_eq, not_false_eq_true]; done)

theorem kp_skipMember {κ ν : Nat} (hq : Quiet kw_none κ ν) (j : Job) {s : State} (hs : Holds κ ν s) : Holds κ ν (skipMember j s) := by
  unfold skipMember
  simp (maxDischargeDepth := 40) +contextual only [hs, hd_mk, hd_fold, hd_ite, ite_self, implies_true, ne_eq, not_false_eq_true]

def kw_regionStates : Writes := ⟨[], [(0x410000, 0x414000, 0x0C)]⟩
theorem kp_regionStates {κ ν : Nat} (hq : Quiet kw_regionStates κ ν) (before : State) {s : State} (hs : Holds κ ν s) : Holds κ ν
        (regionStates before s) := by
  have fregionKey : ∀ r : Nat, κ ≠ regionKey r 0x0C := fun r => hq.outside (lo := 0x410000) (hi := 0x414000) (sub := 0x0C) (by decide) (by unfold regionKey; omega) (by unfold regionKey; omega) (by unfold regionKey; omega)
  unfold regionStates
  simp (maxDischargeDepth := 40) +contextual only [hs, hd_mk, hd_fold, hd_ite, ite_self, implies_true, fregionKey, hd_put, hd_foldl, ne_eq,
        not_false_eq_true]

theorem kp_promote {κ ν : Nat} (hq : Quiet kw_none κ ν) {s : State} (hs : Holds κ ν s) : Holds κ ν (promote s) := by
  have h (l : List RemapEntry) (acc : List RemapEntry × State) (ha : Holds κ ν acc.2) :
      Holds κ ν (l.foldl (fun (acc : List RemapEntry × State) (e : RemapEntry) =>
      let t := acc.2
      if e.state = 1 then
        let fails := t.freeNow % 2 = 1
        (acc.1 ++ [{ e with state := if fails then 3 else 2 }], raiseIf fails 226 (drawn t))
      else (acc.1 ++ [e], t)) acc).2 := by
    induction l generalizing acc with
    | nil => exact ha
    | cons e l ih =>
      rw [List.foldl_cons]
      refine ih _ ?_
      simp only
      split
      · exact hd_raiseIf hq _ _ (kp_drawn (hq.mono rfl) ha)
      · exact ha
  exact h s.stored.remap ([], s) hs

def kw_noteEnforced : Writes := ⟨[0x900106], []⟩
theorem kp_noteEnforced {κ ν : Nat} (hq : Quiet kw_noteEnforced κ ν) {s : State} (hs : Holds κ ν s) : Holds κ ν (noteEnforced s) := by
  have n0 : κ ≠ 0x900106 := hq.ne rfl
  unfold noteEnforced
  (try simp (maxDischargeDepth := 40) +contextual only [hs, hd_mk, hd_fold, hd_ite, ite_self, implies_true, n0, hd_addTo, ne_eq,
        not_false_eq_true])
  repeat' split
  all_goals first
    | (with_reducible exact hs)
    | (simp (maxDischargeDepth := 40) +contextual only [hs, hd_mk, hd_fold, hd_ite, ite_self, implies_true, n0, hd_addTo, ne_eq,
        not_false_eq_true]; done)

def kw_noteVin : Writes := ⟨[0x200101, 0x200104], []⟩
theorem kp_noteVin {κ ν : Nat} (hq : Quiet kw_noteVin κ ν) (mv : Nat) {s : State} (hs : Holds κ ν s) : Holds κ ν (noteVin mv s) := by
  have n0 : κ ≠ 0x200101 := hq.ne rfl
  have n1 : κ ≠ 0x200104 := hq.ne rfl
  unfold noteVin
  simp (maxDischargeDepth := 40) +contextual only [hs, hd_mk, hd_fold, hd_ite, ite_self, implies_true, n0, n1, hd_put, ne_eq,
        not_false_eq_true]

def kw_setBand : Writes := ⟨[0x200102, 0x200106, 0xA00106, 0xD00101, 0xD00102], []⟩
theorem kp_setBand {κ ν : Nat} (hq : Quiet kw_setBand κ ν) (b : Nat) {s : State} (hs : Holds κ ν s) : Holds κ ν (setBand b s) := by
  have n0 : κ ≠ 0x200102 := hq.ne rfl
  have n1 : κ ≠ 0x200106 := hq.ne rfl
  unfold setBand
  simp (maxDischargeDepth := 40) +contextual only [hs, hd_mk, hd_fold, hd_ite, ite_self, implies_true, n0, n1, hd_bump, hd_put, hd_raise hq,
        kp_setMode (hq.mono rfl), ne_eq, not_false_eq_true]

theorem kp_setRail {κ ν : Nat} (hq : Quiet kw_none κ ν) (code : Nat) (r : Rail) {s : State} (hs : Holds κ ν s) : Holds κ ν (setRail code r
        s) := by
  unfold setRail
  simp (maxDischargeDepth := 40) +contextual only [hs, hd_mk, hd_fold, hd_ite, ite_self, implies_true, ne_eq, not_false_eq_true]

theorem kp_railsOn {κ ν : Nat} (hq : Quiet kw_none κ ν) (codes : List Nat) {s : State} (hs : Holds κ ν s) : Holds κ ν (railsOn codes s) :=
        by
  unfold railsOn
  simp (maxDischargeDepth := 40) +contextual only [hs, hd_mk, hd_fold, hd_ite, ite_self, implies_true, kp_setRail (hq.mono rfl), hd_foldl,
        ne_eq, not_false_eq_true]

theorem kp_railsOff {κ ν : Nat} (hq : Quiet kw_none κ ν) (codes : List Nat) {s : State} (hs : Holds κ ν s) : Holds κ ν (railsOff codes s) :=
        by
  unfold railsOff
  simp (maxDischargeDepth := 40) +contextual only [hs, hd_mk, hd_fold, hd_ite, ite_self, implies_true, kp_setRail (hq.mono rfl), hd_foldl,
        ne_eq, not_false_eq_true]

def kw_writeRecord : Writes := ⟨[0x202002], [(0x201001, 0x20100E, 256)]⟩
theorem kp_writeRecord {κ ν : Nat} (hq : Quiet kw_writeRecord κ ν) (kind rail cause before : Nat) {s : State} (hs : Holds κ ν s) : Holds κ ν
        (writeRecord kind rail cause before s) := by
  have n0 : κ ≠ 0x202002 := hq.ne rfl
  have frailKey : ∀ n : Nat, κ ≠ railKey n := fun n => hq.outside (lo := 0x201001) (hi := 0x20100E) (sub := 256) (by decide) (by unfold railKey; omega) (by unfold railKey; omega) (by unfold railKey; omega)
  unfold writeRecord
  simp (maxDischargeDepth := 40) +contextual only [hs, hd_mk, hd_fold, hd_ite, ite_self, implies_true, n0, frailKey, hd_put, ne_eq,
        not_false_eq_true]

def kw_finishLeaving : Writes := ⟨[0x302005, 0x302006, 0x402001, 0x611003, 0x613008, 0x613009, 0x61300A, 0x619004, 0x700306, 0x70030A,
        0xB03004, 0xB04003], [(0x612000, 0x613000, 256), (0x620000, 0x624000, 256)]⟩
theorem kp_finishLeaving {κ ν : Nat} (hq : Quiet kw_finishLeaving κ ν) {s : State} (hs : Holds κ ν s) : Holds κ ν (finishLeaving s) := by
  have n0 : κ ≠ 0x402001 := hq.ne rfl
  unfold finishLeaving
  simp (maxDischargeDepth := 40) +contextual only [hs, hd_mk, hd_fold, hd_ite, ite_self, implies_true, n0, hd_put, kp_programAll (hq.mono
        rfl), ne_eq, not_false_eq_true]

def kw_loseProtection : Writes := ⟨[0x301005, 0x301006, 0x301008, 0x301105, 0x301106, 0x301108, 0x302001, 0x302002, 0x302003, 0x302004,
        0x302005, 0x302006, 0x402001, 0x402002, 0x404105, 0x404106, 0x406009, 0x407008, 0x407009, 0x408101, 0x408102, 0x408103, 0x408106,
        0x502004, 0x502005, 0x502006, 0x502007, 0x502009, 0x508003, 0x508004, 0x508005, 0x508006, 0x611003, 0x613008, 0x613009, 0x61300A,
        0x619004, 0x700306, 0x70030A, 0xB03004, 0xB04003], [(0x612000, 0x613000, 256), (0x620000, 0x624000, 256)]⟩
theorem kp_loseProtection {κ ν : Nat} (hq : Quiet kw_loseProtection κ ν) (causes : Nat) {s : State} (hs : Holds κ ν s) : Holds κ ν
        (loseProtection causes s) := by
  have n0 : κ ≠ 0x402001 := hq.ne rfl
  have n1 : κ ≠ 0x402002 := hq.ne rfl
  unfold loseProtection
  simp (maxDischargeDepth := 40) +contextual only [hs, hd_mk, hd_fold, hd_ite, ite_self, implies_true, n0, n1, hd_put, kp_bothExceptions
        (hq.mono rfl), kp_finishLeaving (hq.mono rfl), hd_raise hq, ne_eq, not_false_eq_true]

def kw_regainProtection : Writes := ⟨[0x402001, 0x402002], []⟩
theorem kp_regainProtection {κ ν : Nat} (hq : Quiet kw_regainProtection κ ν) {s : State} (hs : Holds κ ν s) : Holds κ ν (regainProtection s)
        := by
  have n0 : κ ≠ 0x402001 := hq.ne rfl
  have n1 : κ ≠ 0x402002 := hq.ne rfl
  unfold regainProtection
  simp (maxDischargeDepth := 40) +contextual only [hs, hd_mk, hd_fold, hd_ite, ite_self, implies_true, n0, n1, hd_put, hd_raise hq, ne_eq,
        not_false_eq_true]

def kw_updateProtection : Writes := ⟨[0x301005, 0x301006, 0x301008, 0x301105, 0x301106, 0x301108, 0x302001, 0x302002, 0x302003, 0x302004,
        0x302005, 0x302006, 0x402001, 0x402002, 0x404105, 0x404106, 0x406009, 0x407008, 0x407009, 0x408101, 0x408102, 0x408103, 0x408106,
        0x502004, 0x502005, 0x502006, 0x502007, 0x502009, 0x508003, 0x508004, 0x508005, 0x508006, 0x611003, 0x613008, 0x613009, 0x61300A,
        0x619004, 0x700306, 0x70030A, 0xB03004, 0xB04003], [(0x612000, 0x613000, 256), (0x620000, 0x624000, 256)]⟩
theorem kp_updateProtection {κ ν : Nat} (hq : Quiet kw_updateProtection κ ν) {s : State} (hs : Holds κ ν s) : Holds κ ν (updateProtection s)
        := by
  have n0 : κ ≠ 0x402002 := hq.ne rfl
  unfold updateProtection
  simp (maxDischargeDepth := 40) +contextual only [hs, hd_mk, hd_fold, hd_ite, ite_self, implies_true, n0, hd_put, kp_finishLeaving (hq.mono
        rfl), kp_loseProtection (hq.mono rfl), kp_regainProtection (hq.mono rfl), ne_eq, not_false_eq_true]

def kw_unmeasured : Writes := ⟨[0x402001, 0x402002], []⟩
theorem kp_unmeasured {κ ν : Nat} (hq : Quiet kw_unmeasured κ ν) {s : State} (hs : Holds κ ν s) : Holds κ ν (unmeasured s) := by
  have n0 : κ ≠ 0x402001 := hq.ne rfl
  have n1 : κ ≠ 0x402002 := hq.ne rfl
  unfold unmeasured
  simp (maxDischargeDepth := 40) +contextual only [hs, hd_mk, hd_fold, hd_ite, ite_self, implies_true, n0, n1, hd_put, ne_eq,
        not_false_eq_true]

theorem kp_holdPins {κ ν : Nat} (hq : Quiet kw_none κ ν) {s : State} (hs : Holds κ ν s) : Holds κ ν (holdPins s) := by
  unfold holdPins
  simp (maxDischargeDepth := 40) +contextual only [hs, hd_mk, hd_fold, hd_ite, ite_self, implies_true, ne_eq, not_false_eq_true]

theorem kp_releasePins {κ ν : Nat} (hq : Quiet kw_none κ ν) {s : State} (hs : Holds κ ν s) : Holds κ ν (releasePins s) := by
  unfold releasePins
  simp (maxDischargeDepth := 40) +contextual only [hs, hd_mk, hd_fold, hd_ite, ite_self, implies_true, ne_eq, not_false_eq_true]

theorem kp_withholdCredits {κ ν : Nat} (hq : Quiet kw_none κ ν) (b : Bool) {s : State} (hs : Holds κ ν s) : Holds κ ν (withholdCredits b s)
        := by
  unfold withholdCredits
  simp (maxDischargeDepth := 40) +contextual only [hs, hd_mk, hd_fold, hd_ite, ite_self, implies_true, kp_modPort (hq.mono rfl), ne_eq,
        not_false_eq_true]

def kw_switchSlots : Writes := ⟨[0xD06001, 0xD06002, 0xD06004, 0xD06005], []⟩
theorem kp_switchSlots {κ ν : Nat} (hq : Quiet kw_switchSlots κ ν) {s : State} (hs : Holds κ ν s) : Holds κ ν (switchSlots s) := by
  have n0 : κ ≠ 0xD06001 := hq.ne rfl
  have n1 : κ ≠ 0xD06002 := hq.ne rfl
  have n2 : κ ≠ 0xD06004 := hq.ne rfl
  have n3 : κ ≠ 0xD06005 := hq.ne rfl
  unfold switchSlots
  simp (maxDischargeDepth := 40) +contextual only [hs, hd_mk, hd_fold, hd_ite, ite_self, implies_true, n0, n1, n2, n3, hd_put, ne_eq,
        not_false_eq_true]

def kw_endActivation : Writes := ⟨[0xD06003, 0xD06006, 0xD06007], []⟩
theorem kp_endActivation {κ ν : Nat} (hq : Quiet kw_endActivation κ ν) (a : Activation) (result src : Nat) {s : State} (hs : Holds κ ν s) :
        Holds κ ν (endActivation a result src s) := by
  have n0 : κ ≠ 0xD06003 := hq.ne rfl
  have n1 : κ ≠ 0xD06006 := hq.ne rfl
  have n2 : κ ≠ 0xD06007 := hq.ne rfl
  unfold endActivation
  simp (maxDischargeDepth := 40) +contextual only [hs, hd_mk, hd_fold, hd_ite, ite_self, implies_true, n0, n1, n2, hd_put, kp_endAction
        (hq.mono rfl), hd_raise hq, ne_eq, not_false_eq_true]

def kw_finishActivation : Writes := ⟨[0xD06001, 0xD06002, 0xD06003, 0xD06004, 0xD06005, 0xD06006, 0xD06007], []⟩
theorem kp_finishActivation {κ ν : Nat} (hq : Quiet kw_finishActivation κ ν) {s : State} (hs : Holds κ ν s) : Holds κ ν (finishActivation s)
        := by
  unfold finishActivation
  (try simp (maxDischargeDepth := 40) +contextual only [hs, hd_mk, hd_fold, hd_ite, ite_self, implies_true, kp_endActivation (hq.mono rfl),
        kp_switchSlots (hq.mono rfl), ne_eq, not_false_eq_true])
  repeat' split
  all_goals first
    | (with_reducible exact hs)
    | (simp (maxDischargeDepth := 40) +contextual only [hs, hd_mk, hd_fold, hd_ite, ite_self, implies_true, kp_endActivation (hq.mono rfl),
        kp_switchSlots (hq.mono rfl), ne_eq, not_false_eq_true]; done)

def kw_interruptActivation : Writes := ⟨[0xD06001, 0xD06002, 0xD06003, 0xD06004, 0xD06005, 0xD06006, 0xD06007], []⟩
theorem kp_interruptActivation {κ ν : Nat} (hq : Quiet kw_interruptActivation κ ν) {s : State} (hs : Holds κ ν s) : Holds κ ν
        (interruptActivation s) := by
  have n0 : κ ≠ 0xD06003 := hq.ne rfl
  have n1 : κ ≠ 0xD06006 := hq.ne rfl
  unfold interruptActivation
  (try simp (maxDischargeDepth := 40) +contextual only [hs, hd_mk, hd_fold, hd_ite, ite_self, implies_true, n0, n1, hd_put, kp_endAction
        (hq.mono rfl), kp_finishActivation (hq.mono rfl), ne_eq, not_false_eq_true])
  repeat' split
  all_goals first
    | (with_reducible exact hs)
    | (simp (maxDischargeDepth := 40) +contextual only [hs, hd_mk, hd_fold, hd_ite, ite_self, implies_true, n0, n1, hd_put, kp_endAction (hq.mono
        rfl), kp_finishActivation (hq.mono rfl), ne_eq, not_false_eq_true]; done)

def kw_enterFall : Writes := ⟨[0x301001, 0x301002, 0x301003, 0x301004, 0x301101, 0x301102, 0x301103, 0x301104, 0xA00106, 0xD00101,
        0xD00102], []⟩
theorem kp_enterFall {κ ν : Nat} (hq : Quiet kw_enterFall κ ν) {s : State} (hs : Holds κ ν s) : Holds κ ν (enterFall s) := by
  unfold enterFall
  simp (maxDischargeDepth := 40) +contextual only [hs, hd_mk, hd_fold, hd_ite, ite_self, implies_true, kp_dropLink (hq.mono rfl), kp_dropReady
        (hq.mono rfl), kp_releasePins (hq.mono rfl), kp_setMode (hq.mono rfl), ne_eq, not_false_eq_true]

def kw_goOff : Writes := ⟨[0xA00106, 0xD00101, 0xD00102], []⟩
theorem kp_goOff {κ ν : Nat} (hq : Quiet kw_goOff κ ν) {s : State} (hs : Holds κ ν s) : Holds κ ν (goOff s) := by
  unfold goOff
  simp (maxDischargeDepth := 40) +contextual only [hs, hd_mk, hd_fold, hd_ite, ite_self, implies_true, kp_railsOff (hq.mono rfl), kp_setMode
        (hq.mono rfl), ne_eq, not_false_eq_true]

def kw_freshPorts : Writes := ⟨[0x301007, 0x301107], []⟩
theorem kp_freshPorts {κ ν : Nat} (hq : Quiet kw_freshPorts κ ν) {s : State} (hs : Holds κ ν s) : Holds κ ν (freshPorts s) := by
  have n0 : κ ≠ 0x301007 := hq.ne rfl
  have n1 : κ ≠ 0x301107 := hq.ne rfl
  unfold freshPorts
  simp (maxDischargeDepth := 40) +contextual only [hs, hd_mk, hd_fold, hd_ite, ite_self, implies_true, n0, n1, hd_put, ne_eq,
        not_false_eq_true]

def kw_startRise : Writes := ⟨[0x205003, 0x301007, 0x301107, 0x402001, 0x402002, 0x404101, 0xA00106, 0xD00101, 0xD00102], []⟩
theorem kp_startRise {κ ν : Nat} (hq : Quiet kw_startRise κ ν) {s : State} (hs : Holds κ ν s) : Holds κ ν (startRise s) := by
  have n0 : κ ≠ 0x205003 := hq.ne rfl
  have n1 : κ ≠ 0x404101 := hq.ne rfl
  unfold startRise
  simp (maxDischargeDepth := 40) +contextual only [hs, hd_mk, hd_fold, hd_ite, ite_self, implies_true, n0, n1, hd_put, kp_freshPorts (hq.mono
        rfl), hd_raise hq, kp_setMode (hq.mono rfl), kp_unmeasured (hq.mono rfl), ne_eq, not_false_eq_true]

def kw_wakeRise : Writes := ⟨[0x205003, 0x301007, 0x301107, 0x402001, 0x402002, 0x404101, 0xA00106, 0xD00101, 0xD00102], []⟩
theorem kp_wakeRise {κ ν : Nat} (hq : Quiet kw_wakeRise κ ν) {s : State} (hs : Holds κ ν s) : Holds κ ν (wakeRise s) := by
  have n0 : κ ≠ 0x205003 := hq.ne rfl
  unfold wakeRise
  simp (maxDischargeDepth := 40) +contextual only [hs, hd_mk, hd_fold, hd_ite, ite_self, implies_true, n0, hd_put, kp_startRise (hq.mono rfl),
        ne_eq, not_false_eq_true]

def kw_abandonWork : Writes := ⟨[0x611007], []⟩
theorem kp_abandonWork {κ ν : Nat} (hq : Quiet kw_abandonWork κ ν) {s : State} (hs : Holds κ ν s) : Holds κ ν (abandonWork s) := by
  have n0 : κ ≠ 0x611007 := hq.ne rfl
  unfold abandonWork
  simp (maxDischargeDepth := 40) +contextual only [hs, hd_mk, hd_fold, hd_ite, ite_self, implies_true, n0, hd_put, kp_endOverruns (hq.mono
        rfl), ne_eq, not_false_eq_true]

def kw_startCurtain : Writes := ⟨[0x203009, 0x205003, 0x301005, 0x301006, 0x301008, 0x301105, 0x301106, 0x301108, 0x302001, 0x302002,
        0x302003, 0x302004, 0x302005, 0x302006, 0x404105, 0x404106, 0x406009, 0x407008, 0x407009, 0x408101, 0x408102, 0x408103, 0x408106,
        0x502004, 0x502005, 0x502006, 0x502007, 0x502009, 0x508003, 0x508004, 0x508005, 0x508006, 0x611003, 0x611007, 0x619004, 0x900104,
        0xA00106, 0xB03004, 0xB04003, 0xD00101, 0xD00102, 0xD02001, 0xD06001, 0xD06002, 0xD06003, 0xD06004, 0xD06005, 0xD06006, 0xD06007],
        [(0x612000, 0x613000, 256), (0x620000, 0x624000, 256)]⟩
theorem kp_startCurtain {κ ν : Nat} (hq : Quiet kw_startCurtain κ ν) (cause : Nat) {s : State} (hs : Holds κ ν s) : Holds κ ν (startCurtain
        cause s) := by
  have n0 : κ ≠ 0x203009 := hq.ne rfl
  have n1 : κ ≠ 0x205003 := hq.ne rfl
  have n2 : κ ≠ 0x900104 := hq.ne rfl
  have n3 : κ ≠ 0xD02001 := hq.ne rfl
  unfold startCurtain
  simp (maxDischargeDepth := 40) +contextual only [hs, hd_mk, hd_fold, hd_ite, ite_self, implies_true, n0, n1, n2, n3, hd_put, kp_abandonWork
        (hq.mono rfl), kp_bothExceptions (hq.mono rfl), kp_endAction (hq.mono rfl), kp_holdPins (hq.mono rfl), kp_interruptActivation
        (hq.mono rfl), kp_overtakeDeferred (hq.mono rfl), kp_railsOn (hq.mono rfl), hd_raise hq, kp_setMode (hq.mono rfl), kp_settleAll
        (hq.mono rfl), hd_takeStamp hq, kp_withholdCredits (hq.mono rfl), ne_eq, not_false_eq_true]

def kw_triggerCurtain : Writes := ⟨[0x203009, 0x205003, 0x301001, 0x301002, 0x301003, 0x301004, 0x301005, 0x301006, 0x301008, 0x301101,
        0x301102, 0x301103, 0x301104, 0x301105, 0x301106, 0x301108, 0x302001, 0x302002, 0x302003, 0x302004, 0x302005, 0x302006, 0x404105,
        0x404106, 0x406009, 0x407008, 0x407009, 0x408101, 0x408102, 0x408103, 0x408106, 0x502004, 0x502005, 0x502006, 0x502007, 0x502009,
        0x508003, 0x508004, 0x508005, 0x508006, 0x611003, 0x611007, 0x619004, 0x900104, 0xA00106, 0xB03004, 0xB04003, 0xD00101, 0xD00102,
        0xD02001, 0xD06001, 0xD06002, 0xD06003, 0xD06004, 0xD06005, 0xD06006, 0xD06007], [(0x612000, 0x613000, 256), (0x620000, 0x624000,
        256)]⟩
theorem kp_triggerCurtain {κ ν : Nat} (hq : Quiet kw_triggerCurtain κ ν) (cause : Nat) {s : State} (hs : Holds κ ν s) : Holds κ ν
        (triggerCurtain cause s) := by
  have n0 : κ ≠ 0x205003 := hq.ne rfl
  unfold triggerCurtain
  (try simp (maxDischargeDepth := 40) +contextual only [hs, hd_mk, hd_fold, hd_ite, ite_self, implies_true, n0, hd_put, kp_enterFall (hq.mono
        rfl), kp_startCurtain (hq.mono rfl), ne_eq, not_false_eq_true])
  repeat' split
  all_goals first
    | (with_reducible exact hs)
    | (simp (maxDischargeDepth := 40) +contextual only [hs, hd_mk, hd_fold, hd_ite, ite_self, implies_true, n0, hd_put, kp_enterFall (hq.mono
        rfl), kp_startCurtain (hq.mono rfl), ne_eq, not_false_eq_true]; done)

theorem kp_poisonReads {κ ν : Nat} (hq : Quiet kw_none κ ν) {s : State} (hs : Holds κ ν s) : Holds κ ν (poisonReads s) := by
  unfold poisonReads
  simp only [hd_mk, hd_fold]
  refine hd_foldl (fun t r ht => ?_) s.reads hs
  split
  · split
    · exact ht
    · exact kp_sendData (hq.mono rfl) _ _ _ _ ht
  · exact ht

def kw_commitCurtain : Writes := ⟨[0x301001, 0x301002, 0x301003, 0x301004, 0x301008, 0x301101, 0x301102, 0x301103, 0x301104, 0x301108,
        0x302001, 0x302002, 0x302003, 0x302004, 0x302005, 0x302006, 0x404105, 0x404106, 0x406009, 0x407008, 0x407009, 0x408101, 0x408102,
        0x408103, 0x408106, 0x502004, 0x502005, 0x502006, 0x502007, 0x502009, 0x508003, 0x508004, 0x508005, 0x508006, 0x611003, 0x613008,
        0x613009, 0x61300A, 0x619004, 0x700306, 0x70030A, 0xB03004, 0xB04003], [(0x612000, 0x613000, 256), (0x620000, 0x624000, 256)]⟩
theorem kp_commitCurtain {κ ν : Nat} (hq : Quiet kw_commitCurtain κ ν) {s : State} (hs : Holds κ ν s) : Holds κ ν (commitCurtain s) := by
  unfold commitCurtain
  (try simp (maxDischargeDepth := 40) +contextual only [hs, hd_mk, hd_fold, hd_ite, ite_self, implies_true, kp_dropLink (hq.mono rfl),
        kp_dropReady (hq.mono rfl), kp_finishAccepted (hq.mono rfl), kp_poisonReads (hq.mono rfl), kp_railsOff (hq.mono rfl), kp_silence
        (hq.mono rfl), ne_eq, not_false_eq_true])
  repeat' split
  all_goals first
    | (with_reducible exact hs)
    | (simp (maxDischargeDepth := 40) +contextual only [hs, hd_mk, hd_fold, hd_ite, ite_self, implies_true, kp_dropLink (hq.mono rfl),
        kp_dropReady (hq.mono rfl), kp_finishAccepted (hq.mono rfl), kp_poisonReads (hq.mono rfl), kp_railsOff (hq.mono rfl), kp_silence
        (hq.mono rfl), ne_eq, not_false_eq_true]; done)

def kw_noteCurtain : Writes := ⟨[0x204001, 0x204003, 0x204004, 0x204005, 0x204006], []⟩
theorem kp_noteCurtain {κ ν : Nat} (hq : Quiet kw_noteCurtain κ ν) (c : Curtain) (outcome : Nat) {s : State} (hs : Holds κ ν s) : Holds κ ν
        (noteCurtain c outcome s) := by
  have n0 : κ ≠ 0x204001 := hq.ne rfl
  have n1 : κ ≠ 0x204003 := hq.ne rfl
  have n2 : κ ≠ 0x204004 := hq.ne rfl
  have n3 : κ ≠ 0x204005 := hq.ne rfl
  have n4 : κ ≠ 0x204006 := hq.ne rfl
  unfold noteCurtain
  simp (maxDischargeDepth := 40) +contextual only [hs, hd_mk, hd_fold, hd_ite, ite_self, implies_true, n0, n1, n2, n3, n4, hd_bump, hd_put,
        kp_drawn (hq.mono rfl), ne_eq, not_false_eq_true]

theorem kp_saveAtCurtain {κ ν : Nat} (hq : Quiet kw_none κ ν) {s : State} (hs : Holds κ ν s) : Holds κ ν (saveAtCurtain s) := by
  unfold saveAtCurtain
  simp (maxDischargeDepth := 40) +contextual only [hs, hd_mk, hd_fold, hd_ite, ite_self, implies_true, kp_saveCounts (hq.mono rfl), ne_eq,
        not_false_eq_true]

def kw_programImage : Writes := ⟨[0x611003, 0x619004], [(0x612000, 0x613000, 256), (0x620000, 0x624000, 256)]⟩
theorem kp_programImage {κ ν : Nat} (hq : Quiet kw_programImage κ ν) {s : State} (hs : Holds κ ν s) : Holds κ ν (programImage s) := by
  unfold programImage
  (try simp (maxDischargeDepth := 40) +contextual only [hs, hd_mk, hd_fold, hd_ite, ite_self, implies_true, kp_ringProgram (hq.mono rfl),
        ne_eq, not_false_eq_true])
  repeat' split
  all_goals first
    | (with_reducible exact hs)
    | (simp (maxDischargeDepth := 40) +contextual only [hs, hd_mk, hd_fold, hd_ite, ite_self, implies_true, kp_ringProgram (hq.mono rfl), ne_eq,
        not_false_eq_true]; done)

def kw_finishCurtain : Writes := ⟨[0x202002, 0x611003, 0x619004], [(0x201001, 0x20100E, 256), (0x612000, 0x613000, 256), (0x620000,
        0x624000, 256)]⟩
theorem kp_finishCurtain {κ ν : Nat} (hq : Quiet kw_finishCurtain κ ν) (c : Curtain) {s : State} (hs : Holds κ ν s) : Holds κ ν
        (finishCurtain c s) := by
  unfold finishCurtain
  simp (maxDischargeDepth := 40) +contextual only [hs, hd_mk, hd_fold, hd_ite, ite_self, implies_true, kp_programImage (hq.mono rfl),
        kp_saveAtCurtain (hq.mono rfl), kp_writeRecord (hq.mono rfl), ne_eq, not_false_eq_true]

def kw_cancelCurtain : Writes := ⟨[0x200102, 0x200106, 0x202002, 0x204001, 0x204002, 0x204003, 0x204005, 0x204006, 0xA00106, 0xD00101,
        0xD00102], [(0x201001, 0x20100E, 256)]⟩
theorem kp_cancelCurtain {κ ν : Nat} (hq : Quiet kw_cancelCurtain κ ν) (c : Curtain) (mv : Nat) {s : State} (hs : Holds κ ν s) : Holds κ ν
        (cancelCurtain c mv s) := by
  have n0 : κ ≠ 0x204001 := hq.ne rfl
  have n1 : κ ≠ 0x204002 := hq.ne rfl
  have n2 : κ ≠ 0x204003 := hq.ne rfl
  have n3 : κ ≠ 0x204005 := hq.ne rfl
  have n4 : κ ≠ 0x204006 := hq.ne rfl
  unfold cancelCurtain
  simp (maxDischargeDepth := 40) +contextual only [hs, hd_mk, hd_fold, hd_ite, ite_self, implies_true, n0, n1, n2, n3, n4, hd_bump, hd_put,
        kp_railsOff (hq.mono rfl), hd_raise hq, kp_setBand (hq.mono rfl), kp_setMode (hq.mono rfl), kp_withholdCredits (hq.mono rfl),
        kp_writeRecord (hq.mono rfl), ne_eq, not_false_eq_true]

def kw_restartRise : Writes := ⟨[0x301001, 0x301002, 0x301003, 0x301004, 0x301007, 0x301101, 0x301102, 0x301103, 0x301104, 0x301107,
        0x404101, 0xA00106, 0xD00101, 0xD00102, 0xD06001, 0xD06002, 0xD06003, 0xD06004, 0xD06005, 0xD06006, 0xD06007], []⟩
theorem kp_restartRise {κ ν : Nat} (hq : Quiet kw_restartRise κ ν) {s : State} (hs : Holds κ ν s) : Holds κ ν (restartRise s) := by
  have n0 : κ ≠ 0x404101 := hq.ne rfl
  unfold restartRise
  simp (maxDischargeDepth := 40) +contextual only [hs, hd_mk, hd_fold, hd_ite, ite_self, implies_true, n0, hd_put, kp_dropLink (hq.mono rfl),
        kp_dropReady (hq.mono rfl), kp_freshPorts (hq.mono rfl), kp_interruptActivation (hq.mono rfl), kp_setMode (hq.mono rfl), ne_eq,
        not_false_eq_true]

def kw_deviceReset : Writes := ⟨[0x203009, 0x205003, 0x301001, 0x301002, 0x301003, 0x301004, 0x301005, 0x301006, 0x301007, 0x301008,
        0x301101, 0x301102, 0x301103, 0x301104, 0x301105, 0x301106, 0x301107, 0x301108, 0x302001, 0x302002, 0x302003, 0x302004, 0x302005,
        0x302006, 0x404101, 0x404105, 0x404106, 0x406009, 0x407008, 0x407009, 0x408101, 0x408102, 0x408103, 0x408106, 0x502004, 0x502005,
        0x502006, 0x502007, 0x502009, 0x508003, 0x508004, 0x508005, 0x508006, 0x611003, 0x611007, 0x619004, 0x900104, 0xA00106, 0xB03004,
        0xB04003, 0xD00101, 0xD00102, 0xD02001, 0xD04001, 0xD06001, 0xD06002, 0xD06003, 0xD06004, 0xD06005, 0xD06006, 0xD06007], [(0x612000,
        0x613000, 256), (0x620000, 0x624000, 256), (0xD04002, 0xD0400A, 256)]⟩
theorem kp_deviceReset {κ ν : Nat} (hq : Quiet kw_deviceReset κ ν) (code : Nat) {s : State} (hs : Holds κ ν s) : Holds κ ν (deviceReset code
        s) := by
  have n0 : κ ≠ 0xD04001 := hq.ne rfl
  have fresetKey : ∀ n : Nat, κ ≠ resetKey n := fun n => hq.outside (lo := 0xD04002) (hi := 0xD0400A) (sub := 256) (by decide) (by unfold resetKey; omega) (by unfold resetKey; omega) (by unfold resetKey; omega)
  unfold deviceReset
  simp (maxDischargeDepth := 40) +contextual only [hs, hd_mk, hd_fold, hd_ite, ite_self, implies_true, n0, fresetKey, hd_bump, hd_put,
        kp_endAllSessions (hq.mono rfl), kp_enterFall (hq.mono rfl), hd_raise hq, kp_restartRise (hq.mono rfl), kp_startCurtain (hq.mono
        rfl), kp_triggerCurtain (hq.mono rfl), ne_eq, not_false_eq_true]

def kw_loseInput : Writes := ⟨[0x200101, 0x200104, 0x202002, 0x203009, 0x205003, 0x301001, 0x301002, 0x301003, 0x301004, 0x301005, 0x301006,
        0x301008, 0x301101, 0x301102, 0x301103, 0x301104, 0x301105, 0x301106, 0x301108, 0x302001, 0x302002, 0x302003, 0x302004, 0x302005,
        0x302006, 0x404105, 0x404106, 0x406009, 0x407008, 0x407009, 0x408101, 0x408102, 0x408103, 0x408106, 0x502004, 0x502005, 0x502006,
        0x502007, 0x502009, 0x508003, 0x508004, 0x508005, 0x508006, 0x611003, 0x611007, 0x619004, 0x900104, 0xA00106, 0xB03004, 0xB04003,
        0xD00101, 0xD00102, 0xD02001, 0xD06001, 0xD06002, 0xD06003, 0xD06004, 0xD06005, 0xD06006, 0xD06007], [(0x201001, 0x20100E, 256),
        (0x612000, 0x613000, 256), (0x620000, 0x624000, 256)]⟩
theorem kp_loseInput {κ ν : Nat} (hq : Quiet kw_loseInput κ ν) (kind mv : Nat) {s : State} (hs : Holds κ ν s) : Holds κ ν (loseInput kind mv
        s) := by
  unfold loseInput
  simp (maxDischargeDepth := 40) +contextual only [hs, hd_mk, hd_fold, hd_ite, ite_self, implies_true, kp_endAllSessions (hq.mono rfl),
        kp_enterFall (hq.mono rfl), kp_goOff (hq.mono rfl), kp_noteVin (hq.mono rfl), kp_triggerCurtain (hq.mono rfl), kp_writeRecord
        (hq.mono rfl), ne_eq, not_false_eq_true]

def kw_wakeBy : Writes := ⟨[0xD02004], []⟩
theorem kp_wakeBy {κ ν : Nat} (hq : Quiet kw_wakeBy κ ν) (source : Nat) {s : State} (hs : Holds κ ν s) : Holds κ ν (wakeBy source s) := by
  have n0 : κ ≠ 0xD02004 := hq.ne rfl
  unfold wakeBy
  (try simp (maxDischargeDepth := 40) +contextual only [hs, hd_mk, hd_fold, hd_ite, ite_self, implies_true, n0, hd_put, hd_raise hq, ne_eq,
        not_false_eq_true])
  repeat' split
  all_goals first
    | (with_reducible exact hs)
    | (simp (maxDischargeDepth := 40) +contextual only [hs, hd_mk, hd_fold, hd_ite, ite_self, implies_true, n0, hd_put, hd_raise hq, ne_eq,
        not_false_eq_true]; done)

theorem kp_linksL1 {κ ν : Nat} (hq : Quiet kw_none κ ν) (b : Bool) {s : State} (hs : Holds κ ν s) : Holds κ ν (linksL1 b s) := by
  unfold linksL1
  simp (maxDischargeDepth := 40) +contextual only [hs, hd_mk, hd_fold, hd_ite, ite_self, implies_true, kp_modPort (hq.mono rfl), ne_eq,
        not_false_eq_true]

def kw_wakeUp : Writes := ⟨[0xA00106, 0xD00101, 0xD00102], []⟩
theorem kp_wakeUp {κ ν : Nat} (hq : Quiet kw_wakeUp κ ν) {s : State} (hs : Holds κ ν s) : Holds κ ν (wakeUp s) := by
  unfold wakeUp
  simp (maxDischargeDepth := 40) +contextual only [hs, hd_mk, hd_fold, hd_ite, ite_self, implies_true, kp_linksL1 (hq.mono rfl), kp_railsOn
        (hq.mono rfl), kp_setMode (hq.mono rfl), kp_withholdCredits (hq.mono rfl), ne_eq, not_false_eq_true]

def kw_releaseScratch : Writes := ⟨[0x611003, 0x619004], [(0x612000, 0x613000, 256), (0x620000, 0x624000, 256)]⟩
theorem kp_releaseScratch {κ ν : Nat} (hq : Quiet kw_releaseScratch κ ν) {s : State} (hs : Holds κ ν s) : Holds κ ν (releaseScratch s) := by
  unfold releaseScratch
  (try simp (maxDischargeDepth := 40) +contextual only [hs, hd_mk, hd_fold, hd_ite, ite_self, implies_true, kp_setUnitState (hq.mono rfl),
        ne_eq, not_false_eq_true])
  repeat' split
  all_goals first
    | (with_reducible exact hs)
    | (simp (maxDischargeDepth := 40) +contextual only [hs, hd_mk, hd_fold, hd_ite, ite_self, implies_true, kp_setUnitState (hq.mono rfl), ne_eq,
        not_false_eq_true]; done)

def kw_buttonCurtain : Writes := ⟨[0x203009, 0x205003, 0x301001, 0x301002, 0x301003, 0x301004, 0x301005, 0x301006, 0x301008, 0x301101,
        0x301102, 0x301103, 0x301104, 0x301105, 0x301106, 0x301108, 0x302001, 0x302002, 0x302003, 0x302004, 0x302005, 0x302006, 0x404105,
        0x404106, 0x406009, 0x407008, 0x407009, 0x408101, 0x408102, 0x408103, 0x408106, 0x502004, 0x502005, 0x502006, 0x502007, 0x502009,
        0x508003, 0x508004, 0x508005, 0x508006, 0x611003, 0x611007, 0x619004, 0x900104, 0xA00106, 0xB03004, 0xB04003, 0xD00101, 0xD00102,
        0xD02001, 0xD06001, 0xD06002, 0xD06003, 0xD06004, 0xD06005, 0xD06006, 0xD06007], [(0x612000, 0x613000, 256), (0x620000, 0x624000,
        256)]⟩
theorem kp_buttonCurtain {κ ν : Nat} (hq : Quiet kw_buttonCurtain κ ν) {s : State} (hs : Holds κ ν s) : Holds κ ν (buttonCurtain s) := by
  have n0 : κ ≠ 0x205003 := hq.ne rfl
  unfold buttonCurtain
  simp (maxDischargeDepth := 40) +contextual only [hs, hd_mk, hd_fold, hd_ite, ite_self, implies_true, n0, hd_put, kp_triggerCurtain (hq.mono
        rfl), ne_eq, not_false_eq_true]

def kw_criticalError : Writes := ⟨[0x203009, 0x205003, 0x301001, 0x301002, 0x301003, 0x301004, 0x301005, 0x301006, 0x301007, 0x301008,
        0x301101, 0x301102, 0x301103, 0x301104, 0x301105, 0x301106, 0x301107, 0x301108, 0x302001, 0x302002, 0x302003, 0x302004, 0x302005,
        0x302006, 0x404101, 0x404105, 0x404106, 0x406009, 0x407008, 0x407009, 0x408101, 0x408102, 0x408103, 0x408106, 0x502004, 0x502005,
        0x502006, 0x502007, 0x502009, 0x508003, 0x508004, 0x508005, 0x508006, 0x611003, 0x611007, 0x619004, 0x800108, 0x900104, 0xA00106,
        0xB03004, 0xB04003, 0xD00101, 0xD00102, 0xD02001, 0xD04001, 0xD06001, 0xD06002, 0xD06003, 0xD06004, 0xD06005, 0xD06006, 0xD06007],
        [(0x612000, 0x613000, 256), (0x620000, 0x624000, 256), (0xD04002, 0xD0400A, 256)]⟩
theorem kp_criticalError {κ ν : Nat} (hq : Quiet kw_criticalError κ ν) {s : State} (hs : Holds κ ν s) : Holds κ ν (criticalError s) := by
  have n0 : κ ≠ 0x800108 := hq.ne rfl
  unfold criticalError
  simp (maxDischargeDepth := 40) +contextual only [hs, hd_mk, hd_fold, hd_ite, ite_self, implies_true, n0, hd_bump, kp_deviceReset (hq.mono
        rfl), hd_raise hq, ne_eq, not_false_eq_true]

def kw_lockOut : Writes := ⟨[0x203009, 0x205003, 0x301001, 0x301002, 0x301003, 0x301004, 0x301005, 0x301006, 0x301008, 0x301101, 0x301102,
        0x301103, 0x301104, 0x301105, 0x301106, 0x301108, 0x302001, 0x302002, 0x302003, 0x302004, 0x302005, 0x302006, 0x404105, 0x404106,
        0x406009, 0x407008, 0x407009, 0x408101, 0x408102, 0x408103, 0x408106, 0x502004, 0x502005, 0x502006, 0x502007, 0x502009, 0x508003,
        0x508004, 0x508005, 0x508006, 0x611003, 0x611007, 0x619004, 0x900104, 0x900107, 0xA00106, 0xB03004, 0xB04003, 0xD00101, 0xD00102,
        0xD02001, 0xD06001, 0xD06002, 0xD06003, 0xD06004, 0xD06005, 0xD06006, 0xD06007], [(0x612000, 0x613000, 256), (0x620000, 0x624000,
        256)]⟩
theorem kp_lockOut {κ ν : Nat} (hq : Quiet kw_lockOut κ ν) {s : State} (hs : Holds κ ν s) : Holds κ ν (lockOut s) := by
  have n0 : κ ≠ 0x900107 := hq.ne rfl
  unfold lockOut
  simp (maxDischargeDepth := 40) +contextual only [hs, hd_mk, hd_fold, hd_ite, ite_self, implies_true, n0, hd_bump, kp_enterFall (hq.mono
        rfl), hd_raise hq, kp_triggerCurtain (hq.mono rfl), ne_eq, not_false_eq_true]

def kw_writeSlot : Writes := ⟨[0xA00105], []⟩
theorem kp_writeSlot {κ ν : Nat} (hq : Quiet kw_writeSlot κ ν) {r : RecorderRecord} {f : RecorderRecord → List RecorderRecord → Option (List RecorderRecord)} {s t : State}
    (h : writeSlot r f s = some t) (hs : Holds κ ν s) : Holds κ ν t := by
  unfold writeSlot at h
  simp only [Option.map_eq_some_iff] at h
  obtain ⟨l, -, rfl⟩ := h
  exact hd_put (s := { s with recd := { s.recd with records := l } }) (hq.ne (n := 0xA00105) rfl) hs

theorem kp_dropRecord {κ ν : Nat} (hq : Quiet kw_none κ ν) {s : State} (hs : Holds κ ν s) : Holds κ ν (dropRecord s) := by
  have m0 : κ ≠ 0xA00103 := hq.ne_report (by decide) (by decide)
  unfold dropRecord
  simp (maxDischargeDepth := 40) +contextual only [hs, hd_mk, hd_fold, hd_ite, ite_self, implies_true, m0, hd_bump, hd_raise hq, ne_eq,
        not_false_eq_true]

def kw_storeRecord : Writes := ⟨[0xA00105, 0xA00108], []⟩
theorem kp_storeRecord {κ ν : Nat} (hq : Quiet kw_storeRecord κ ν) (r : RecorderRecord) {s : State} (hs : Holds κ ν s) : Holds κ ν (storeRecord r s) := by
  have h (x : RecorderRecord) (f : RecorderRecord → List RecorderRecord → Option (List RecorderRecord)) :
      Holds κ ν ((writeSlot x f s).getD (dropRecord s)) := by
    cases hx : writeSlot x f s with
    | none => exact kp_dropRecord (hq.mono rfl) hs
    | some t => exact kp_writeSlot (hq.mono rfl) hx hs
  unfold storeRecord
  split
  · exact h _ _
  · split
    · split
      · split
        · rename_i t ht
          have := kp_writeSlot (hq.mono rfl) ht hs
          exact this
        · exact kp_dropRecord (hq.mono rfl) hs
      · exact hd_raise hq _ (hd_bump (hq.ne rfl) (h _ _))
    · exact h _ _

def kw_writeNextRecord : Writes := ⟨[0xA00105, 0xA00108], []⟩
theorem kp_writeNextRecord {κ ν : Nat} (hq : Quiet kw_writeNextRecord κ ν) {s : State} (hs : Holds κ ν s) : Holds κ ν (writeNextRecord s) :=
        by
  unfold writeNextRecord
  (try simp (maxDischargeDepth := 40) +contextual only [hs, hd_mk, hd_fold, hd_ite, ite_self, implies_true, kp_storeRecord (hq.mono rfl),
        ne_eq, not_false_eq_true])
  repeat' split
  all_goals first
    | (with_reducible exact hs)
    | (simp (maxDischargeDepth := 40) +contextual only [hs, hd_mk, hd_fold, hd_ite, ite_self, implies_true, kp_storeRecord (hq.mono rfl), ne_eq,
        not_false_eq_true]; done)

def kw_clearRecorder : Writes := ⟨[0xA00109], []⟩
theorem kp_clearRecorder {κ ν : Nat} (hq : Quiet kw_clearRecorder κ ν) (arg stamp : Nat) {s : State} (hs : Holds κ ν s) : Holds κ ν
        (clearRecorder arg stamp s) := by
  have n0 : κ ≠ 0xA00109 := hq.ne rfl
  have hr : ∀ r t, Holds κ ν t → Holds κ ν (recordOccurrence r t) := fun r t ht => kp_recordOccurrence hq ht
  unfold clearRecorder
  simp (maxDischargeDepth := 40) +contextual only [hs, hd_mk, hd_fold, hd_ite, ite_self, implies_true, n0, hr, hd_put, hd_raise hq, ne_eq,
        not_false_eq_true]

theorem kp_raiseVcore {κ ν : Nat} (hq : Quiet kw_none κ ν) {s : State} (hs : Holds κ ν s) : Holds κ ν (raiseVcore s) := by
  unfold raiseVcore
  simp (maxDischargeDepth := 40) +contextual only [hs, hd_mk, hd_fold, hd_ite, ite_self, implies_true, hd_raise hq, ne_eq, not_false_eq_true]

def kw_endWindow : Writes := ⟨[0xB02001, 0xB02002, 0xB02003, 0xB02004, 0xB02005, 0xB02006, 0xB02007, 0xB02101, 0xB02102, 0xB02103, 0xB02104,
        0xB02105, 0xB02106, 0xB02107], []⟩
theorem kp_endWindow {κ ν : Nat} (hq : Quiet kw_endWindow κ ν) (p : Port) {s : State} (hs : Holds κ ν s) : Holds κ ν (endWindow p s) := by
  have n0 : κ ≠ 0xB02001 := hq.ne rfl
  have n1 : κ ≠ 0xB02002 := hq.ne rfl
  have n2 : κ ≠ 0xB02003 := hq.ne rfl
  have n3 : κ ≠ 0xB02004 := hq.ne rfl
  have n4 : κ ≠ 0xB02005 := hq.ne rfl
  have n5 : κ ≠ 0xB02006 := hq.ne rfl
  have n6 : κ ≠ 0xB02007 := hq.ne rfl
  have n7 : κ ≠ 0xB02101 := hq.ne rfl
  have n8 : κ ≠ 0xB02102 := hq.ne rfl
  have n9 : κ ≠ 0xB02103 := hq.ne rfl
  have n10 : κ ≠ 0xB02104 := hq.ne rfl
  have n11 : κ ≠ 0xB02105 := hq.ne rfl
  have n12 : κ ≠ 0xB02106 := hq.ne rfl
  have n13 : κ ≠ 0xB02107 := hq.ne rfl
  have w1 : ∀ p : Port, κ ≠ windowKey p 0x01 := by intro p; cases p <;> assumption
  have w2 : ∀ p : Port, κ ≠ windowKey p 0x02 := by intro p; cases p <;> assumption
  have w3 : ∀ p : Port, κ ≠ windowKey p 0x03 := by intro p; cases p <;> assumption
  have w4 : ∀ p : Port, κ ≠ windowKey p 0x04 := by intro p; cases p <;> assumption
  have w5 : ∀ p : Port, κ ≠ windowKey p 0x05 := by intro p; cases p <;> assumption
  have w6 : ∀ p : Port, κ ≠ windowKey p 0x06 := by intro p; cases p <;> assumption
  have w7 : ∀ p : Port, κ ≠ windowKey p 0x07 := by intro p; cases p <;> assumption
  unfold endWindow
  simp (maxDischargeDepth := 40) +contextual only [hs, hd_mk, hd_fold, hd_ite, ite_self, implies_true, n0, n1, n2, n3, n4, n5, n6, n7, n8, n9,
        n10, n11, n12, n13, w1, w2, w3, w4, w5, w6, w7, hd_bump, hd_put, hd_raiseTo, kp_setPort (hq.mono rfl), hd_raiseIf hq, ne_eq,
        not_false_eq_true]

theorem kp_rearmSamples {κ ν : Nat} (hq : Quiet kw_none κ ν) {s : State} (hs : Holds κ ν s) : Holds κ ν (rearmSamples s) := by
  unfold rearmSamples
  simp (maxDischargeDepth := 40) +contextual only [hs, hd_mk, hd_fold, hd_ite, ite_self, implies_true, ne_eq, not_false_eq_true]

theorem kp_takeSample {κ ν : Nat} (hq : Quiet kw_none κ ν) {s : State} (hs : Holds κ ν s) : Holds κ ν (takeSample s) := by
  unfold takeSample
  simp (maxDischargeDepth := 40) +contextual only [hs, hd_mk, hd_fold, hd_ite, ite_self, implies_true, kp_drawn (hq.mono rfl), kp_rearmSamples
        (hq.mono rfl), ne_eq, not_false_eq_true]

theorem kp_emptySamples {κ ν : Nat} (hq : Quiet kw_none κ ν) {s : State} (hs : Holds κ ν s) : Holds κ ν (emptySamples s) := by
  unfold emptySamples
  simp (maxDischargeDepth := 40) +contextual only [hs, hd_mk, hd_fold, hd_ite, ite_self, implies_true, kp_rearmSamples (hq.mono rfl), ne_eq,
        not_false_eq_true]

theorem kp_emptyNotices {κ ν : Nat} (hq : Quiet kw_none κ ν) {s : State} (hs : Holds κ ν s) : Holds κ ν (emptyNotices s) := by
  unfold emptyNotices
  simp (maxDischargeDepth := 40) +contextual only [hs, hd_mk, hd_fold, hd_ite, ite_self, implies_true, ne_eq, not_false_eq_true]

theorem kp_emptyReceived {κ ν : Nat} (hq : Quiet kw_none κ ν) {s : State} (hs : Holds κ ν s) : Holds κ ν (emptyReceived s) := by
  unfold emptyReceived
  simp (maxDischargeDepth := 40) +contextual only [hs, hd_mk, hd_fold, hd_ite, ite_self, implies_true, ne_eq, not_false_eq_true]

def kw_flushIf : Writes := ⟨[0xB04004], []⟩
theorem kp_flushIf {κ ν : Nat} (hq : Quiet kw_flushIf κ ν) (on : Bool) {empty : State → State} {s : State} (he : ∀ t, Holds κ ν t → Holds κ ν (empty t)) (hs : Holds κ ν s) :
    Holds κ ν (flushIf on empty s) := hd_cond (hd_raise hq _ (hd_bump (hq.ne rfl) (he _ hs))) hs

def kw_flushQueues : Writes := ⟨[0xB04004], []⟩
theorem kp_flushQueues {κ ν : Nat} (hq : Quiet kw_flushQueues κ ν) (bits : Nat) {s : State} (hs : Holds κ ν s) : Holds κ ν (flushQueues bits
        s) := by
  unfold flushQueues
  simp (maxDischargeDepth := 40) +contextual only [hs, hd_mk, hd_fold, hd_ite, ite_self, implies_true, kp_emptyNotices (hq.mono rfl),
        kp_emptyReceived (hq.mono rfl), kp_emptySamples (hq.mono rfl), kp_flushIf (hq.mono rfl), ne_eq, not_false_eq_true]

def kw_readSource : Writes := ⟨[], [(0x612000, 0x613000, 256)]⟩
theorem kp_readSource {κ ν : Nat} (hq : Quiet kw_readSource κ ν) (c : DmaChannel) {s : State} (hs : Holds κ ν s) : Holds κ ν (readSource c
        s) := by
  unfold readSource
  simp (maxDischargeDepth := 40) +contextual only [hs, hd_mk, hd_fold, hd_ite, ite_self, implies_true, kp_agentReads (hq.mono rfl), hd_foldl,
        ne_eq, not_false_eq_true]

theorem kp_takeItems {κ ν : Nat} (hq : Quiet kw_none κ ν) (queue n : Nat) {s : State} (hs : Holds κ ν s) : Holds κ ν (takeItems queue n s)
        := by
  unfold takeItems
  simp (maxDischargeDepth := 40) +contextual only [hs, hd_mk, hd_fold, hd_ite, ite_self, implies_true, kp_rearmSamples (hq.mono rfl), ne_eq,
        not_false_eq_true]

theorem kp_placeLines {κ ν : Nat} (hq : Quiet kw_none κ ν) (stamp : Nat) (lines : List BurstLine) {s : State} (hs : Holds κ ν s) : Holds κ ν (placeLines stamp lines s) := by
  refine hd_foldl (fun t x ht => ?_) _ hs
  refine kp_dropCached (hq.mono rfl) _ (kp_storeCommitted (hq.mono rfl) _ _ _ _ _ _ ?_)
  split
  · exact kp_markConflict (hq.mono rfl) _ _ ht
  · exact ht

theorem kp_endTransfer {κ ν : Nat} (hq : Quiet kw_none κ ν) (k state : Nat) {s : State} (hs : Holds κ ν s) : Holds κ ν (endTransfer k state
        s) := by
  unfold endTransfer
  simp (maxDischargeDepth := 40) +contextual only [hs, hd_mk, hd_fold, hd_ite, ite_self, implies_true, kp_setChannel (hq.mono rfl), hd_raiseIf
        hq, ne_eq, not_false_eq_true]

def kw_noteBurst : Writes := ⟨[0xC00102], [(0xC01000, 0xC02000, 256)]⟩
theorem kp_noteBurst {κ ν : Nat} (hq : Quiet kw_noteBurst κ ν) (k n stamp poisoned : Nat) (carry : List Byte) {s : State} (hs : Holds κ ν s)
        : Holds κ ν (noteBurst k n stamp poisoned carry s) := by
  have n0 : κ ≠ 0xC00102 := hq.ne rfl
  have fdmaKey5 : ∀ c : Nat, κ ≠ dmaKey c 5 := fun c => hq.outside (lo := 0xC01000) (hi := 0xC02000) (sub := 256) (by decide) (by unfold dmaKey; omega) (by unfold dmaKey; omega) (by unfold dmaKey; omega)
  unfold noteBurst
  simp (maxDischargeDepth := 40) +contextual only [hs, hd_mk, hd_fold, hd_ite, ite_self, implies_true, n0, fdmaKey5, hd_addTo, kp_setChannel
        (hq.mono rfl), hd_count hq, ne_eq, not_false_eq_true]

def kw_placeBurst : Writes := ⟨[0x302005, 0x302006, 0x611003, 0x613008, 0x613009, 0x61300A, 0x619004, 0x700306, 0x70030A, 0xB03004,
        0xB04003, 0xC00102], [(0x612000, 0x613000, 256), (0x620000, 0x624000, 256), (0xC01000, 0xC02000, 256)]⟩
theorem kp_placeBurst {κ ν : Nat} (hq : Quiet kw_placeBurst κ ν) {k n : Nat} {lines : List BurstLine} {carry : List Byte} {s t : State}
    (h : placeBurst k n lines carry s = some t) (hs : Holds κ ν s) : Holds κ ν t := by
  unfold placeBurst at h
  simp only [Option.ite_none_left_eq_some, Option.some.injEq] at h
  obtain ⟨-, rfl⟩ := h
  refine kp_noteBurst (hq.mono rfl) _ _ _ _ _ ?_
  have := kp_placeLines (hq.mono rfl) s.stampNow lines (hd_takeStamp hq hs)
  split
  · exact this
  · exact kp_programAll (hq.mono rfl) this

theorem kp_afterBurst {κ ν : Nat} (hq : Quiet kw_none κ ν) (k : Nat) (last : Bool) {s : State} (hs : Holds κ ν s) : Holds κ ν (afterBurst k
        last s) := by
  unfold afterBurst
  simp (maxDischargeDepth := 40) +contextual only [hs, hd_mk, hd_fold, hd_ite, ite_self, implies_true, kp_endTransfer (hq.mono rfl), ne_eq,
        not_false_eq_true]

def kw_copyBurst : Writes := ⟨[0x302005, 0x302006, 0x404105, 0x611003, 0x613008, 0x613009, 0x61300A, 0x619004, 0x700306, 0x70030A, 0xB03004,
        0xB04003, 0xC00102, 0xC00104], [(0x612000, 0x613000, 256), (0x620000, 0x624000, 256), (0xC01000, 0xC02000, 256)]⟩
theorem kp_copyBurst {κ ν : Nat} (hq : Quiet kw_copyBurst κ ν) (k : Nat) {s : State} (hs : Holds κ ν s) : Holds κ ν (copyBurst k s) := by
  unfold copyBurst
  simp only
  split
  · exact kp_haltChannel (hq.mono rfl) _ _ _ _ hs
  · split
    · exact hd_foldl (fun t g ht => kp_startRebuild (hq.mono rfl) _ ht) _ hs
    · split
      · exact hs
      · split
        · exact hs
        · rename_i t h
          exact kp_afterBurst (hq.mono rfl) _ _ (kp_placeBurst (hq.mono rfl) h (kp_readSource (hq.mono rfl) _ hs))

def kw_drainBurst : Writes := ⟨[0x302005, 0x302006, 0x611003, 0x613008, 0x613009, 0x61300A, 0x619004, 0x700306, 0x70030A, 0xB03004,
        0xB04003, 0xC00102, 0xC00104], [(0x612000, 0x613000, 256), (0x620000, 0x624000, 256), (0xC01000, 0xC02000, 256)]⟩
theorem kp_drainBurst {κ ν : Nat} (hq : Quiet kw_drainBurst κ ν) (k : Nat) (timer : Bool) {s : State} (hs : Holds κ ν s) : Holds κ ν (drainBurst k timer s) := by
  unfold drainBurst
  simp only
  repeat' split
  all_goals first
    | with_reducible exact hs
    | exact kp_haltChannel (hq.mono rfl) _ _ _ _ hs
    | exact kp_afterBurst (hq.mono rfl) _ _ hs
    | (rename_i h; exact kp_afterBurst (hq.mono rfl) _ _ (kp_placeBurst (hq.mono rfl) h (kp_drawn (hq.mono rfl) (kp_takeItems (hq.mono rfl) _ _ hs))))

def kw_nextBurst : Writes := ⟨[0x302005, 0x302006, 0x404105, 0x611003, 0x613008, 0x613009, 0x61300A, 0x619004, 0x700306, 0x70030A, 0xB03004,
        0xB04003, 0xC00102, 0xC00104], [(0x612000, 0x613000, 256), (0x620000, 0x624000, 256), (0xC01000, 0xC02000, 256)]⟩
theorem kp_nextBurst {κ ν : Nat} (hq : Quiet kw_nextBurst κ ν) (k : Nat) (timer : Bool) {s : State} (hs : Holds κ ν s) : Holds κ ν
        (nextBurst k timer s) := by
  unfold nextBurst
  simp (maxDischargeDepth := 40) +contextual only [hs, hd_mk, hd_fold, hd_ite, ite_self, implies_true, kp_copyBurst (hq.mono rfl),
        kp_drainBurst (hq.mono rfl), ne_eq, not_false_eq_true]

theorem kp_releaseChannel {κ ν : Nat} (hq : Quiet kw_none κ ν) (k : Nat) {s : State} (hs : Holds κ ν s) : Holds κ ν (releaseChannel k s) :=
        by
  unfold releaseChannel
  simp (maxDischargeDepth := 40) +contextual only [hs, hd_mk, hd_fold, hd_ite, ite_self, implies_true, kp_setChannel (hq.mono rfl), ne_eq,
        not_false_eq_true]

def kw_readIdentity : Writes := ⟨[0x203001, 0x20300C], []⟩
theorem kp_readIdentity {κ ν : Nat} (hq : Quiet kw_readIdentity κ ν) {s : State} (hs : Holds κ ν s) : Holds κ ν (readIdentity s) := by
  have n0 : κ ≠ 0x203001 := hq.ne rfl
  have n1 : κ ≠ 0x20300C := hq.ne rfl
  unfold readIdentity
  (try simp (maxDischargeDepth := 40) +contextual only [hs, hd_mk, hd_fold, hd_ite, ite_self, implies_true, n0, n1, hd_bump, hd_put,
        hd_putBytes, hd_raise hq, ne_eq, not_false_eq_true])
  repeat' split
  all_goals first
    | (with_reducible exact hs)
    | (simp (maxDischargeDepth := 40) +contextual only [hs, hd_mk, hd_fold, hd_ite, ite_self, implies_true, n0, n1, hd_bump, hd_put, hd_putBytes,
        hd_raise hq, ne_eq, not_false_eq_true]; done)

def kw_afterAbsence : Writes := ⟨[0x205003], []⟩
theorem kp_afterAbsence {κ ν : Nat} (hq : Quiet kw_afterAbsence κ ν) {s : State} (hs : Holds κ ν s) : Holds κ ν (afterAbsence s) := by
  have n0 : κ ≠ 0x205003 := hq.ne rfl
  unfold afterAbsence
  simp (maxDischargeDepth := 40) +contextual only [hs, hd_mk, hd_fold, hd_ite, ite_self, implies_true, n0, hd_put, ne_eq, not_false_eq_true]

def kw_measureInput : Writes := ⟨[0x200101, 0x200102, 0x200104, 0x200106, 0x203001, 0x20300C, 0xA00106, 0xD00101, 0xD00102], []⟩
theorem kp_measureInput {κ ν : Nat} (hq : Quiet kw_measureInput κ ν) (mv : Nat) (known : Bool) {s : State} (hs : Holds κ ν s) : Holds κ ν
        (measureInput mv known s) := by
  unfold measureInput
  simp (maxDischargeDepth := 40) +contextual only [hs, hd_mk, hd_fold, hd_ite, ite_self, implies_true, kp_noteVin (hq.mono rfl),
        kp_readIdentity (hq.mono rfl), kp_setBand (hq.mono rfl), ne_eq, not_false_eq_true]

def kw_autoStart : Writes := ⟨[0x205003, 0x301007, 0x301107, 0x402001, 0x402002, 0x404101, 0xA00106, 0xD00101, 0xD00102], []⟩
theorem kp_autoStart {κ ν : Nat} (hq : Quiet kw_autoStart κ ν) {s : State} (hs : Holds κ ν s) : Holds κ ν (autoStart s) := by
  unfold autoStart
  simp (maxDischargeDepth := 40) +contextual only [hs, hd_mk, hd_fold, hd_ite, ite_self, implies_true, kp_startRise (hq.mono rfl), ne_eq,
        not_false_eq_true]

def kw_noteRailFault : Writes := ⟨[0x20100F, 0x202002], [(0x201001, 0x20100E, 256)]⟩
theorem kp_noteRailFault {κ ν : Nat} (hq : Quiet kw_noteRailFault κ ν) (code : Nat) {s : State} (hs : Holds κ ν s) : Holds κ ν
        (noteRailFault code s) := by
  have n0 : κ ≠ 0x20100F := hq.ne rfl
  unfold noteRailFault
  simp (maxDischargeDepth := 40) +contextual only [hs, hd_mk, hd_fold, hd_ite, ite_self, implies_true, n0, hd_bump, hd_raise hq,
        kp_writeRecord (hq.mono rfl), ne_eq, not_false_eq_true]

def kw_endFall : Writes := ⟨[0x20100E, 0x202002, 0x205003, 0x301007, 0x301107, 0x402001, 0x402002, 0x404101, 0xA00106, 0xD00101, 0xD00102],
        [(0x201001, 0x20100E, 256)]⟩
theorem kp_endFall {κ ν : Nat} (hq : Quiet kw_endFall κ ν) (stuck : Nat) (vinAbsent : Bool) {s : State} (hs : Holds κ ν s) : Holds κ ν (endFall stuck vinAbsent s) := by
  unfold endFall
  simp only
  generalize hA : List.foldl _ ((railsOff switchedRails.reverse s).put 0x20100E _) _ = a
  have ha : Holds κ ν a := by
    rw [← hA]
    exact hd_foldl (fun t c ht => hd_raise hq _ (kp_writeRecord (hq.mono rfl) _ _ _ _ (kp_setRail (hq.mono rfl) _ _ ht))) _ (hd_put (hq.ne rfl) (kp_railsOff (hq.mono rfl) _ hs))
  clear hA
  generalize hB : unmeasured _ = b
  have hb : Holds κ ν b := by rw [← hB]; exact kp_unmeasured (hq.mono rfl) (by simp only [hd_mk, hd_fold]; exact ha)
  clear hB
  have hd : Holds κ ν (if (a.pow.fourthReset : Bool) = true then raise 255 b else b) := hd_cond (hd_raise hq _ hb) hb
  generalize (if (a.pow.fourthReset : Bool) = true then raise 255 b else b) = d at hd ⊢
  have he : Holds κ ν (if d.get 0x205003 = 2 then d.put 0x205003 3 else d) := hd_cond (hd_put (hq.ne rfl) hd) hd
  generalize (if d.get 0x205003 = 2 then d.put 0x205003 3 else d) = e at he ⊢
  refine hd_cond (kp_setMode (hq.mono rfl) _ he) (hd_cond (kp_goOff (hq.mono rfl) he) (hd_cond (kp_startRise (hq.mono rfl) (kp_setMode (hq.mono rfl) _ he)) (kp_setMode (hq.mono rfl) _ he)))

theorem kp_startDoze {κ ν : Nat} (hq : Quiet kw_none κ ν) {s : State} (hs : Holds κ ν s) : Holds κ ν (startDoze s) := by
  unfold startDoze
  simp (maxDischargeDepth := 40) +contextual only [hs, hd_mk, hd_fold, hd_ite, ite_self, implies_true, ne_eq, not_false_eq_true]

def kw_dozeStep : Writes := ⟨[0x302001, 0x302002, 0x302005, 0x302006, 0x404105, 0x404106, 0x406009, 0x407008, 0x407009, 0x408101, 0x408102,
        0x408103, 0x408106, 0x502004, 0x502005, 0x502006, 0x502007, 0x502009, 0x611003, 0x613008, 0x613009, 0x61300A, 0x614007, 0x615007,
        0x619004, 0x700306, 0x70030A, 0x70030D, 0xB03004, 0xB04003], [(0x612000, 0x613000, 256), (0x620000, 0x624000, 256)]⟩
theorem kp_dozeStep {κ ν : Nat} (hq : Quiet kw_dozeStep κ ν) (n : Nat) {s : State} (hs : Holds κ ν s) : Holds κ ν (dozeStep n s) := by
  unfold dozeStep
  simp (maxDischargeDepth := 40) +contextual only [hs, hd_mk, hd_fold, hd_ite, ite_self, implies_true, kp_drainPort (hq.mono rfl), kp_linksL1
        (hq.mono rfl), kp_programAll (hq.mono rfl), kp_railsOff (hq.mono rfl), kp_withholdCredits (hq.mono rfl), kp_writeBack (hq.mono rfl),
        kp_writeTableImage (hq.mono rfl), ne_eq, not_false_eq_true]

theorem kp_undoDoze {κ ν : Nat} (hq : Quiet kw_none κ ν) (n : Nat) {s : State} (hs : Holds κ ν s) : Holds κ ν (undoDoze n s) := by
  unfold undoDoze
  simp (maxDischargeDepth := 40) +contextual only [hs, hd_mk, hd_fold, hd_ite, ite_self, implies_true, kp_linksL1 (hq.mono rfl), kp_railsOn
        (hq.mono rfl), kp_withholdCredits (hq.mono rfl), ne_eq, not_false_eq_true]

def kw_abortPoint : Writes := ⟨[0xA00106, 0xD00101, 0xD00102, 0xD02001, 0xD02005, 0xD02006], []⟩
theorem kp_abortPoint {κ ν : Nat} (hq : Quiet kw_abortPoint κ ν) (n : Nat) {s : State} (hs : Holds κ ν s) : Holds κ ν (abortPoint n s) := by
  have n0 : κ ≠ 0xD02001 := hq.ne rfl
  have n1 : κ ≠ 0xD02005 := hq.ne rfl
  have n2 : κ ≠ 0xD02006 := hq.ne rfl
  unfold abortPoint
  (try simp (maxDischargeDepth := 40) +contextual only [hs, hd_mk, hd_fold, hd_ite, ite_self, implies_true, n0, n1, n2, hd_bump, kp_endAction
        (hq.mono rfl), hd_raise hq, kp_setMode (hq.mono rfl), kp_undoDoze (hq.mono rfl), ne_eq, not_false_eq_true])
  repeat' split
  all_goals first
    | (with_reducible exact hs)
    | (simp (maxDischargeDepth := 40) +contextual only [hs, hd_mk, hd_fold, hd_ite, ite_self, implies_true, n0, n1, n2, hd_bump, kp_endAction
        (hq.mono rfl), hd_raise hq, kp_setMode (hq.mono rfl), kp_undoDoze (hq.mono rfl), ne_eq, not_false_eq_true]; done)

def kw_wakeSource : Writes := ⟨[0x205003, 0x301007, 0x301107, 0x402001, 0x402002, 0x404101, 0xA00106, 0xD00101, 0xD00102, 0xD02004], []⟩
theorem kp_wakeSource {κ ν : Nat} (hq : Quiet kw_wakeSource κ ν) (source : Nat) {s : State} (hs : Holds κ ν s) : Holds κ ν (wakeSource
        source s) := by
  have n0 : κ ≠ 0xD02004 := hq.ne rfl
  unfold wakeSource
  simp (maxDischargeDepth := 40) +contextual only [hs, hd_mk, hd_fold, hd_ite, ite_self, implies_true, n0, hd_put, hd_raise hq, kp_wakeBy
        (hq.mono rfl), kp_wakeRise (hq.mono rfl), ne_eq, not_false_eq_true]

def kw_offRequest : Writes := ⟨[0x203009, 0x205003, 0x301001, 0x301002, 0x301003, 0x301004, 0x301005, 0x301006, 0x301008, 0x301101,
        0x301102, 0x301103, 0x301104, 0x301105, 0x301106, 0x301108, 0x302001, 0x302002, 0x302003, 0x302004, 0x302005, 0x302006, 0x404105,
        0x404106, 0x406009, 0x407008, 0x407009, 0x408101, 0x408102, 0x408103, 0x408106, 0x502004, 0x502005, 0x502006, 0x502007, 0x502009,
        0x508003, 0x508004, 0x508005, 0x508006, 0x611003, 0x611007, 0x619004, 0x900104, 0xA00106, 0xB03004, 0xB04003, 0xD00101, 0xD00102,
        0xD02001, 0xD06001, 0xD06002, 0xD06003, 0xD06004, 0xD06005, 0xD06006, 0xD06007], [(0x612000, 0x613000, 256), (0x620000, 0x624000,
        256)]⟩
theorem kp_offRequest {κ ν : Nat} (hq : Quiet kw_offRequest κ ν) {s : State} (hs : Holds κ ν s) : Holds κ ν (offRequest s) := by
  unfold offRequest
  simp (maxDischargeDepth := 40) +contextual only [hs, hd_mk, hd_fold, hd_ite, ite_self, implies_true, kp_enterFall (hq.mono rfl),
        kp_triggerCurtain (hq.mono rfl), ne_eq, not_false_eq_true]

def kw_onRequest : Writes := ⟨[0x205003, 0x301007, 0x301107, 0x402001, 0x402002, 0x404101, 0xA00106, 0xD00101, 0xD00102], []⟩
theorem kp_onRequest {κ ν : Nat} (hq : Quiet kw_onRequest κ ν) {s : State} (hs : Holds κ ν s) : Holds κ ν (onRequest s) := by
  unfold onRequest
  simp (maxDischargeDepth := 40) +contextual only [hs, hd_mk, hd_fold, hd_ite, ite_self, implies_true, kp_wakeRise (hq.mono rfl), ne_eq,
        not_false_eq_true]

def kw_retryRails : Writes := ⟨[0x205003, 0x301007, 0x301107, 0x402001, 0x402002, 0x404101, 0xA00106, 0xD00101, 0xD00102], []⟩
theorem kp_retryRails {κ ν : Nat} (hq : Quiet kw_retryRails κ ν) {s : State} (hs : Holds κ ν s) : Holds κ ν (retryRails s) := by
  unfold retryRails
  simp (maxDischargeDepth := 40) +contextual only [hs, hd_mk, hd_fold, hd_ite, ite_self, implies_true, kp_startRise (hq.mono rfl), ne_eq,
        not_false_eq_true]

def kw_enterService : Writes := ⟨[0xA00106, 0xD00101, 0xD00102], []⟩
theorem kp_enterService {κ ν : Nat} (hq : Quiet kw_enterService κ ν) {s : State} (hs : Holds κ ν s) : Holds κ ν (enterService s) := by
  unfold enterService
  simp (maxDischargeDepth := 40) +contextual only [hs, hd_mk, hd_fold, hd_ite, ite_self, implies_true, kp_loseAll (hq.mono rfl), hd_raise hq,
        kp_setMode (hq.mono rfl), kp_stopDozeEntry (hq.mono rfl), kp_undoDoze (hq.mono rfl), ne_eq, not_false_eq_true]

def kw_leaveService : Writes := ⟨[0x611003, 0x619004, 0xA00106, 0xD00101, 0xD00102], [(0x612000, 0x613000, 256), (0x620000, 0x624000, 256)]⟩
theorem kp_leaveService {κ ν : Nat} (hq : Quiet kw_leaveService κ ν) {s : State} (hs : Holds κ ν s) : Holds κ ν (leaveService s) := by
  unfold leaveService
  simp (maxDischargeDepth := 40) +contextual only [hs, hd_mk, hd_fold, hd_ite, ite_self, implies_true, hd_raise hq, kp_releaseScratch (hq.mono
        rfl), kp_setMode (hq.mono rfl), ne_eq, not_false_eq_true]

theorem kp_activateOnline {κ ν : Nat} (hq : Quiet kw_none κ ν) (result : ActivationResult) {s : State} (hs : Holds κ ν s) : Holds κ ν
        (activateOnline result s) := by
  unfold activateOnline
  (try simp (maxDischargeDepth := 40) +contextual only [hs, hd_mk, hd_fold, hd_ite, ite_self, implies_true, kp_drawn (hq.mono rfl), hd_raise
        hq, kp_setAction (hq.mono rfl), ne_eq, not_false_eq_true])
  repeat' split
  all_goals first
    | (with_reducible exact hs)
    | (simp (maxDischargeDepth := 40) +contextual only [hs, hd_mk, hd_fold, hd_ite, ite_self, implies_true, kp_drawn (hq.mono rfl), hd_raise hq,
        kp_setAction (hq.mono rfl), ne_eq, not_false_eq_true]; done)

def kw_stageImage : Writes := ⟨[0xD06002, 0xD06005], []⟩
theorem kp_stageImage {κ ν : Nat} (hq : Quiet kw_stageImage κ ν) (signatureOk : Bool) (version : Nat) {s : State} (hs : Holds κ ν s) : Holds
        κ ν (stageImage signatureOk version s) := by
  have n0 : κ ≠ 0xD06002 := hq.ne rfl
  have n1 : κ ≠ 0xD06005 := hq.ne rfl
  unfold stageImage
  simp (maxDischargeDepth := 40) +contextual only [hs, hd_mk, hd_fold, hd_ite, ite_self, implies_true, n0, n1, hd_put, hd_raise hq, ne_eq,
        not_false_eq_true]

theorem kp_dropBlockAt {κ ν : Nat} (hq : Quiet kw_none κ ν) (mem : MemKind) (address : Nat) {s : State} (hs : Holds κ ν s) : Holds κ ν
        (dropBlockAt mem address s) := by
  unfold dropBlockAt
  (try simp (maxDischargeDepth := 40) +contextual only [hs, hd_mk, hd_fold, hd_ite, ite_self, implies_true, ne_eq, not_false_eq_true])
  repeat' split
  all_goals first
    | (with_reducible exact hs)
    | (simp (maxDischargeDepth := 40) +contextual only [hs, hd_mk, hd_fold, hd_ite, ite_self, implies_true, ne_eq, not_false_eq_true]; done)

theorem kp_poisonQueued {κ ν : Nat} (hq : Quiet kw_none κ ν) (p : Port) (tag : Nat) {s : State} (hs : Holds κ ν s) : Holds κ ν (poisonQueued
        p tag s) := by
  unfold poisonQueued
  simp (maxDischargeDepth := 40) +contextual only [hs, hd_mk, hd_fold, hd_ite, ite_self, implies_true, kp_modPort (hq.mono rfl), kp_nameLines
        (hq.mono rfl), ne_eq, not_false_eq_true]

def kw_rebuildDram : Writes := ⟨[0x800101, 0x800102, 0x800103, 0x800104, 0x800105, 0x800106, 0x801002], []⟩
theorem kp_rebuildDram {κ ν : Nat} (hq : Quiet kw_rebuildDram κ ν) {s : State} (hs : Holds κ ν s) : Holds κ ν (rebuildDram s) := by
  unfold rebuildDram
  simp (maxDischargeDepth := 40) +contextual only [hs, hd_mk, hd_fold, hd_ite, ite_self, implies_true, kp_detectSomewhere (hq.mono rfl),
        hd_raise hq, ne_eq, not_false_eq_true]

def kw_structureError : Writes := ⟨[0x203009, 0x205003, 0x301001, 0x301002, 0x301003, 0x301004, 0x301005, 0x301006, 0x301007, 0x301008,
        0x301101, 0x301102, 0x301103, 0x301104, 0x301105, 0x301106, 0x301107, 0x301108, 0x302001, 0x302002, 0x302003, 0x302004, 0x302005,
        0x302006, 0x404101, 0x404105, 0x404106, 0x406009, 0x407008, 0x407009, 0x408101, 0x408102, 0x408103, 0x408106, 0x502004, 0x502005,
        0x502006, 0x502007, 0x502009, 0x508003, 0x508004, 0x508005, 0x508006, 0x611003, 0x611007, 0x613008, 0x613009, 0x61300A, 0x619004,
        0x700301, 0x700302, 0x700303, 0x700304, 0x700305, 0x700306, 0x70030A, 0x70030C, 0x800101, 0x800102, 0x800103, 0x800104, 0x800105,
        0x800106, 0x800108, 0x801002, 0x900104, 0xA00106, 0xB03004, 0xB04003, 0xC00104, 0xD00101, 0xD00102, 0xD02001, 0xD04001, 0xD06001,
        0xD06002, 0xD06003, 0xD06004, 0xD06005, 0xD06006, 0xD06007], [(0x612000, 0x613000, 256), (0x620000, 0x624000, 256), (0xD04002,
        0xD0400A, 256)]⟩
theorem kp_structureError {κ ν : Nat} (hq : Quiet kw_structureError κ ν) (what : Structure) {s : State} (hs : Holds κ ν s) : Holds κ ν
        (structureError what s) := by
  unfold structureError
  (try simp (maxDischargeDepth := 40) +contextual only [hs, hd_mk, hd_fold, hd_ite, ite_self, implies_true, kp_setGroup (hq.mono rfl),
        kp_cacheError (hq.mono rfl), kp_criticalError (hq.mono rfl), kp_detectError (hq.mono rfl), kp_detectSomewhere (hq.mono rfl),
        kp_dropCached (hq.mono rfl), kp_nameLines (hq.mono rfl), kp_poisonQueued (hq.mono rfl), hd_raise hq, kp_rebuildDram (hq.mono rfl),
        ne_eq, not_false_eq_true])
  repeat' split
  all_goals first
    | (with_reducible exact hs)
    | (simp (maxDischargeDepth := 40) +contextual only [hs, hd_mk, hd_fold, hd_ite, ite_self, implies_true, kp_setGroup (hq.mono rfl),
        kp_cacheError (hq.mono rfl), kp_criticalError (hq.mono rfl), kp_detectError (hq.mono rfl), kp_detectSomewhere (hq.mono rfl),
        kp_dropCached (hq.mono rfl), kp_nameLines (hq.mono rfl), kp_poisonQueued (hq.mono rfl), hd_raise hq, kp_rebuildDram (hq.mono rfl),
        ne_eq, not_false_eq_true]; done)

def kw_enterRemap : Writes := ⟨[0x802005], []⟩
theorem kp_enterRemap {κ ν : Nat} (hq : Quiet kw_enterRemap κ ν) (mem : MemKind) (row : Nat) {s : State} (hs : Holds κ ν s) : Holds κ ν
        (enterRemap mem row s) := by
  have n0 : κ ≠ 0x802005 := hq.ne rfl
  unfold enterRemap
  simp (maxDischargeDepth := 40) +contextual only [hs, hd_mk, hd_fold, hd_ite, ite_self, implies_true, n0, hd_bump, hd_raise hq, ne_eq,
        not_false_eq_true]

def kw_transientOutcome : Writes := ⟨[0x803002], []⟩
theorem kp_transientOutcome {κ ν : Nat} (hq : Quiet kw_transientOutcome κ ν) (mem : MemKind) (address : Nat) {s : State} (hs : Holds κ ν s) : Holds κ ν (transientOutcome mem address s).1 := by
  unfold transientOutcome
  split
  · exact hd_raise hq _ hs
  · exact kp_noteTransient (hq.mono rfl) _ _ (hd_bump (hq.ne rfl) (kp_setOutcome (hq.mono rfl) _ _ _ hs))

def kw_lastingRow : Writes := ⟨[0x802005, 0x803003], []⟩
theorem kp_lastingRow {κ ν : Nat} (hq : Quiet kw_lastingRow κ ν) (mem : MemKind) (row : Nat) {s : State} (hs : Holds κ ν s) : Holds κ ν
        (lastingRow mem row s) := by
  have n0 : κ ≠ 0x803003 := hq.ne rfl
  unfold lastingRow
  simp (maxDischargeDepth := 40) +contextual only [hs, hd_mk, hd_fold, hd_ite, ite_self, implies_true, n0, hd_bump, kp_enterRemap (hq.mono
        rfl), hd_raise hq, kp_setOutcome (hq.mono rfl), ne_eq, not_false_eq_true]

def kw_borrowUnit : Writes := ⟨[0x611003, 0x619004], [(0x612000, 0x613000, 256), (0x620000, 0x624000, 256)]⟩
theorem kp_borrowUnit {κ ν : Nat} (hq : Quiet kw_borrowUnit κ ν) (u : Nat) {s : State} (hs : Holds κ ν s) : Holds κ ν (borrowUnit u s) := by
  unfold borrowUnit
  simp (maxDischargeDepth := 40) +contextual only [hs, hd_mk, hd_fold, hd_ite, ite_self, implies_true, kp_setStripe (hq.mono rfl),
        kp_unitReset (hq.mono rfl), ne_eq, not_false_eq_true]

def kw_refreshSector : Writes := ⟨[0x617005], []⟩
theorem kp_refreshSector {κ ν : Nat} (hq : Quiet kw_refreshSector κ ν) (unit : Nat) {s : State} (hs : Holds κ ν s) : Holds κ ν
        (refreshSector unit s) := by
  unfold refreshSector
  simp (maxDischargeDepth := 40) +contextual only [hs, hd_mk, hd_fold, hd_ite, ite_self, implies_true, kp_scheduleRefresh (hq.mono rfl),
        ne_eq, not_false_eq_true]

def kw_lastingSector : Writes := ⟨[0x611003, 0x619004, 0x803003], [(0x612000, 0x613000, 256), (0x620000, 0x624000, 256)]⟩
theorem kp_lastingSector {κ ν : Nat} (hq : Quiet kw_lastingSector κ ν) (unit address : Nat) {s : State} (hs : Holds κ ν s) : Holds κ ν
        (lastingSector unit address s) := by
  have n0 : κ ≠ 0x803003 := hq.ne rfl
  unfold lastingSector
  simp (maxDischargeDepth := 40) +contextual only [hs, hd_mk, hd_fold, hd_ite, ite_self, implies_true, n0, hd_bump, kp_lastingFault (hq.mono
        rfl), hd_raise hq, kp_setOutcome (hq.mono rfl), ne_eq, not_false_eq_true]

def kw_transientSector : Writes := ⟨[0x611003, 0x619004, 0x803002, 0x803003], [(0x612000, 0x613000, 256), (0x620000, 0x624000, 256)]⟩
theorem kp_transientSector {κ ν : Nat} (hq : Quiet kw_transientSector κ ν) (unit address : Nat) {s : State} (hs : Holds κ ν s) : Holds κ ν
        (transientSector unit address s) := by
  unfold transientSector
  simp (maxDischargeDepth := 40) +contextual only [hs, hd_mk, hd_fold, hd_ite, ite_self, implies_true, kp_lastingSector (hq.mono rfl),
        kp_transientOutcome (hq.mono rfl), ne_eq, not_false_eq_true]

def kw_takeScratch : Writes := ⟨[0x611003, 0x619004], [(0x612000, 0x613000, 256), (0x620000, 0x624000, 256)]⟩
theorem kp_takeScratch {κ ν : Nat} (hq : Quiet kw_takeScratch κ ν) {s : State} (hs : Holds κ ν s) : Holds κ ν (takeScratch s) := by
  unfold takeScratch
  (try simp (maxDischargeDepth := 40) +contextual only [hs, hd_mk, hd_fold, hd_ite, ite_self, implies_true, kp_borrowUnit (hq.mono rfl),
        kp_setUnitState (hq.mono rfl), ne_eq, not_false_eq_true])
  repeat' split
  all_goals first
    | (with_reducible exact hs)
    | (simp (maxDischargeDepth := 40) +contextual only [hs, hd_mk, hd_fold, hd_ite, ite_self, implies_true, kp_borrowUnit (hq.mono rfl),
        kp_setUnitState (hq.mono rfl), ne_eq, not_false_eq_true]; done)

def kw_writeRaw : Writes := ⟨[0x611003, 0x619004], [(0x612000, 0x613000, 256), (0x620000, 0x624000, 256)]⟩
theorem kp_writeRaw {κ ν : Nat} (hq : Quiet kw_writeRaw κ ν) {s : State} (hs : Holds κ ν s) : Holds κ ν (writeRaw s) := by
  unfold writeRaw
  (try simp (maxDischargeDepth := 40) +contextual only [hs, hd_mk, hd_fold, hd_ite, ite_self, implies_true, hd_raise hq, kp_sectorProgrammed
        (hq.mono rfl), kp_takeScratch (hq.mono rfl), ne_eq, not_false_eq_true])
  repeat' split
  all_goals first
    | (with_reducible exact hs)
    | (simp (maxDischargeDepth := 40) +contextual only [hs, hd_mk, hd_fold, hd_ite, ite_self, implies_true, hd_raise hq, kp_sectorProgrammed
        (hq.mono rfl), kp_takeScratch (hq.mono rfl), ne_eq, not_false_eq_true]; done)

def kw_readRaw : Writes := ⟨[0x611003, 0x619004, 0x80400A], [(0x612000, 0x613000, 256), (0x620000, 0x624000, 256)]⟩
theorem kp_readRaw {κ ν : Nat} (hq : Quiet kw_readRaw κ ν) (result : CodeResult) (decoded : List Byte) {s : State} (hs : Holds κ ν s) :
        Holds κ ν (readRaw result decoded s) := by
  have n0 : κ ≠ 0x80400A := hq.ne rfl
  unfold readRaw
  (try simp (maxDischargeDepth := 40) +contextual only [hs, hd_mk, hd_fold, hd_ite, ite_self, implies_true, n0, hd_put, hd_putBytes, kp_drawn
        (hq.mono rfl), hd_raise hq, kp_takeScratch (hq.mono rfl), ne_eq, not_false_eq_true])
  repeat' split
  all_goals first
    | (with_reducible exact hs)
    | (simp (maxDischargeDepth := 40) +contextual only [hs, hd_mk, hd_fold, hd_ite, ite_self, implies_true, n0, hd_put, hd_putBytes, kp_drawn
        (hq.mono rfl), hd_raise hq, kp_takeScratch (hq.mono rfl), ne_eq, not_false_eq_true]; done)

def kw_setBroken : Writes := ⟨[0x903001, 0x903002], []⟩
theorem kp_setBroken {κ ν : Nat} (hq : Quiet kw_setBroken κ ν) (n : Nat) (b : Bool) {s : State} (hs : Holds κ ν s) : Holds κ ν (setBroken n
        b s) := by
  have n0 : κ ≠ 0x903001 := hq.ne rfl
  have n1 : κ ≠ 0x903002 := hq.ne rfl
  unfold setBroken
  simp (maxDischargeDepth := 40) +contextual only [hs, hd_mk, hd_fold, hd_ite, ite_self, implies_true, n0, n1, hd_clearBit, hd_setBit, ne_eq,
        not_false_eq_true]

theorem kp_compareSensor {κ ν : Nat} (hq : Quiet kw_none κ ν) (n : Nat) {s : State} (hs : Holds κ ν s) : Holds κ ν (compareSensor n s) := by
  unfold compareSensor
  (try simp (maxDischargeDepth := 40) +contextual only [hs, hd_mk, hd_fold, hd_ite, ite_self, implies_true, ne_eq, not_false_eq_true])
  repeat' split
  all_goals first
    | (with_reducible exact hs)
    | (simp (maxDischargeDepth := 40) +contextual only [hs, hd_mk, hd_fold, hd_ite, ite_self, implies_true, ne_eq, not_false_eq_true]; done)

def kw_declareBroken : Writes := ⟨[0x903001, 0x903002, 0xD02004], []⟩
theorem kp_declareBroken {κ ν : Nat} (hq : Quiet kw_declareBroken κ ν) (n : Nat) {s : State} (hs : Holds κ ν s) : Holds κ ν (declareBroken n
        s) := by
  unfold declareBroken
  simp (maxDischargeDepth := 40) +contextual only [hs, hd_mk, hd_fold, hd_ite, ite_self, implies_true, hd_raise hq, kp_setBroken (hq.mono
        rfl), kp_wakeBy (hq.mono rfl), ne_eq, not_false_eq_true]

def kw_crossCheck : Writes := ⟨[0x903001, 0x903002, 0xD02004], []⟩
theorem kp_crossCheck {κ ν : Nat} (hq : Quiet kw_crossCheck κ ν) {s : State} (hs : Holds κ ν s) : Holds κ ν (crossCheck s) := by
  unfold crossCheck
  simp (maxDischargeDepth := 40) +contextual only [hs, hd_mk, hd_fold, hd_ite, ite_self, implies_true, kp_compareSensor (hq.mono rfl),
        kp_declareBroken (hq.mono rfl), hd_raiseIf hq, hd_foldl, ne_eq, not_false_eq_true]

def kw_reAdmit : Writes := ⟨[0x903001, 0x903002], []⟩
theorem kp_reAdmit {κ ν : Nat} (hq : Quiet kw_reAdmit κ ν) (n : Nat) {s : State} (hs : Holds κ ν s) : Holds κ ν (reAdmit n s) := by
  unfold reAdmit
  simp (maxDischargeDepth := 40) +contextual only [hs, hd_mk, hd_fold, hd_ite, ite_self, implies_true, hd_raise hq, kp_setBroken (hq.mono
        rfl), ne_eq, not_false_eq_true]

theorem kp_noteHottest {κ ν : Nat} (hq : Quiet kw_none κ ν) (c band : Nat) {s : State} (hs : Holds κ ν s) : Holds κ ν (noteHottest c band s)
        := by
  unfold noteHottest
  simp (maxDischargeDepth := 40) +contextual only [hs, hd_mk, hd_fold, hd_ite, ite_self, implies_true, ne_eq, not_false_eq_true]

def kw_packageRound : Writes := ⟨[0xD02004], [(0x612000, 0x613000, 256), (0x616101, 0x616111, 256), (0x904001, 0x904011, 256), (0x904101,
        0x904111, 256)]⟩
theorem kp_packageRound {κ ν : Nat} (hq : Quiet kw_packageRound κ ν) (c : Nat) {s : State} (hs : Holds κ ν s) : Holds κ ν (packageRound c s)
        := by
  have fchannelKey4 : ∀ c : Nat, κ ≠ channelKey c 4 := fun c => hq.outside (lo := 0x612000) (hi := 0x613000) (sub := 256) (by decide) (by unfold channelKey; omega) (by unfold channelKey; omega) (by unfold channelKey; omega)
  have fpackageAgeKey : ∀ n : Nat, κ ≠ packageAgeKey n := fun n => hq.outside (lo := 0x616101) (hi := 0x616111) (sub := 256) (by decide) (by unfold packageAgeKey; omega) (by unfold packageAgeKey; omega) (by unfold packageAgeKey; omega)
  have fpackageBandKey : ∀ n : Nat, κ ≠ packageBandKey n := fun n => hq.outside (lo := 0x904001) (hi := 0x904011) (sub := 256) (by decide) (by unfold packageBandKey; omega) (by unfold packageBandKey; omega) (by unfold packageBandKey; omega)
  have fpackageTempKey : ∀ n : Nat, κ ≠ packageTempKey n := fun n => hq.outside (lo := 0x904101) (hi := 0x904111) (sub := 256) (by decide) (by unfold packageTempKey; omega) (by unfold packageTempKey; omega) (by unfold packageTempKey; omega)
  unfold packageRound
  (try simp (maxDischargeDepth := 40) +contextual only [hs, hd_mk, hd_fold, hd_ite, ite_self, implies_true, fchannelKey4, fpackageAgeKey,
        fpackageBandKey, fpackageTempKey, hd_addTo, hd_put, hd_putInt, kp_noteHottest (hq.mono rfl), hd_raise hq, kp_wakeBy (hq.mono rfl),
        ne_eq, not_false_eq_true])
  repeat' split
  all_goals first
    | (with_reducible exact hs)
    | (simp (maxDischargeDepth := 40) +contextual only [hs, hd_mk, hd_fold, hd_ite, ite_self, implies_true, fchannelKey4, fpackageAgeKey,
        fpackageBandKey, fpackageTempKey, hd_addTo, hd_put, hd_putInt, kp_noteHottest (hq.mono rfl), hd_raise hq, kp_wakeBy (hq.mono rfl),
        ne_eq, not_false_eq_true]; done)

def kw_temperatures : Writes := ⟨[0x900101, 0x900102, 0x900108, 0xD02004], [(0x612000, 0x613000, 256), (0x616101, 0x616111, 256), (0x904001,
        0x904011, 256), (0x904101, 0x904111, 256)]⟩
theorem kp_temperatures {κ ν : Nat} (hq : Quiet kw_temperatures κ ν) {s : State} (hs : Holds κ ν s) : Holds κ ν (temperatures s) := by
  have n0 : κ ≠ 0x900101 := hq.ne rfl
  have n1 : κ ≠ 0x900102 := hq.ne rfl
  have n2 : κ ≠ 0x900108 := hq.ne rfl
  unfold temperatures
  (try simp (maxDischargeDepth := 40) +contextual only [hs, hd_mk, hd_fold, hd_ite, ite_self, implies_true, n0, n1, n2, hd_putInt,
        kp_packageRound (hq.mono rfl), hd_foldl, ne_eq, not_false_eq_true])
  repeat' split
  all_goals first
    | (with_reducible exact hs)
    | (simp (maxDischargeDepth := 40) +contextual only [hs, hd_mk, hd_fold, hd_ite, ite_self, implies_true, n0, n1, n2, hd_putInt, kp_packageRound
        (hq.mono rfl), hd_foldl, ne_eq, not_false_eq_true]; done)

def kw_requestThrottle : Writes := ⟨[0x900103, 0x900105, 0xD02004], []⟩
theorem kp_requestThrottle {κ ν : Nat} (hq : Quiet kw_requestThrottle κ ν) {s : State} (hs : Holds κ ν s) : Holds κ ν (requestThrottle s) :=
        by
  have n0 : κ ≠ 0x900103 := hq.ne rfl
  have n1 : κ ≠ 0x900105 := hq.ne rfl
  unfold requestThrottle
  simp (maxDischargeDepth := 40) +contextual only [hs, hd_mk, hd_fold, hd_ite, ite_self, implies_true, n0, n1, hd_bump, hd_put, hd_raise hq,
        kp_wakeBy (hq.mono rfl), ne_eq, not_false_eq_true]

def kw_pauseDie : Writes := ⟨[0x408106, 0x900104], []⟩
theorem kp_pauseDie {κ ν : Nat} (hq : Quiet kw_pauseDie κ ν) (d : Nat) {s : State} (hs : Holds κ ν s) : Holds κ ν (pauseDie d s) := by
  have n0 : κ ≠ 0x900104 := hq.ne rfl
  unfold pauseDie
  simp (maxDischargeDepth := 40) +contextual only [hs, hd_mk, hd_fold, hd_ite, ite_self, implies_true, n0, hd_setBit, hd_raise hq,
        kp_reconstructWaiting (hq.mono rfl), hd_foldl, ne_eq, not_false_eq_true]

def kw_pauseRow : Writes := ⟨[0x408106, 0x900104], []⟩
theorem kp_pauseRow {κ ν : Nat} (hq : Quiet kw_pauseRow κ ν) (row : Nat) {s : State} (hs : Holds κ ν s) : Holds κ ν (pauseRow row s) := by
  have n0 : κ ≠ 0x900104 := hq.ne rfl
  unfold pauseRow
  (try simp (maxDischargeDepth := 40) +contextual only [hs, hd_mk, hd_fold, hd_ite, ite_self, implies_true, n0, hd_clearBit, kp_pauseDie
        (hq.mono rfl), hd_foldl, ne_eq, not_false_eq_true])
  repeat' split
  all_goals first
    | (with_reducible exact hs)
    | (simp (maxDischargeDepth := 40) +contextual only [hs, hd_mk, hd_fold, hd_ite, ite_self, implies_true, n0, hd_clearBit, kp_pauseDie (hq.mono
        rfl), hd_foldl, ne_eq, not_false_eq_true]; done)

def kw_pauses : Writes := ⟨[0x408106, 0x900104], []⟩
theorem kp_pauses {κ ν : Nat} (hq : Quiet kw_pauses κ ν) {s : State} (hs : Holds κ ν s) : Holds κ ν (pauses s) := by
  unfold pauses
  simp (maxDischargeDepth := 40) +contextual only [hs, hd_mk, hd_fold, hd_ite, ite_self, implies_true, kp_pauseRow (hq.mono rfl), hd_foldl,
        ne_eq, not_false_eq_true]

def kw_raiseLevel : Writes := ⟨[0x408106, 0x900103, 0x900104], []⟩
theorem kp_raiseLevel {κ ν : Nat} (hq : Quiet kw_raiseLevel κ ν) {s : State} (hs : Holds κ ν s) : Holds κ ν (raiseLevel s) := by
  have n0 : κ ≠ 0x900103 := hq.ne rfl
  unfold raiseLevel
  simp (maxDischargeDepth := 40) +contextual only [hs, hd_mk, hd_fold, hd_ite, ite_self, implies_true, n0, hd_put, kp_pauses (hq.mono rfl),
        hd_raise hq, ne_eq, not_false_eq_true]

def kw_clearThrottle : Writes := ⟨[0x900103, 0x900104, 0x900106], []⟩
theorem kp_clearThrottle {κ ν : Nat} (hq : Quiet kw_clearThrottle κ ν) {s : State} (hs : Holds κ ν s) : Holds κ ν (clearThrottle s) := by
  have n0 : κ ≠ 0x900103 := hq.ne rfl
  have n1 : κ ≠ 0x900104 := hq.ne rfl
  unfold clearThrottle
  simp (maxDischargeDepth := 40) +contextual only [hs, hd_mk, hd_fold, hd_ite, ite_self, implies_true, n0, n1, hd_put, kp_noteEnforced
        (hq.mono rfl), hd_raise hq, ne_eq, not_false_eq_true]

def kw_throttling : Writes := ⟨[0x408106, 0x900103, 0x900104, 0x900105, 0xD02004], []⟩
theorem kp_throttling {κ ν : Nat} (hq : Quiet kw_throttling κ ν) {s : State} (hs : Holds κ ν s) : Holds κ ν (throttling s) := by
  unfold throttling
  (try simp (maxDischargeDepth := 40) +contextual only [hs, hd_mk, hd_fold, hd_ite, ite_self, implies_true, kp_pauses (hq.mono rfl),
        kp_requestThrottle (hq.mono rfl), ne_eq, not_false_eq_true])
  repeat' split
  all_goals first
    | (with_reducible exact hs)
    | (simp (maxDischargeDepth := 40) +contextual only [hs, hd_mk, hd_fold, hd_ite, ite_self, implies_true, kp_pauses (hq.mono rfl),
        kp_requestThrottle (hq.mono rfl), ne_eq, not_false_eq_true]; done)

theorem kp_coldPlate {κ ν : Nat} (hq : Quiet kw_none κ ν) (n : Nat) {s : State} (hs : Holds κ ν s) : Holds κ ν (coldPlate n s) := by
  unfold coldPlate
  (try simp (maxDischargeDepth := 40) +contextual only [hs, hd_mk, hd_fold, hd_ite, ite_self, implies_true, hd_raiseIf hq, ne_eq,
        not_false_eq_true])
  repeat' split
  all_goals first
    | (with_reducible exact hs)
    | (simp (maxDischargeDepth := 40) +contextual only [hs, hd_mk, hd_fold, hd_ite, ite_self, implies_true, hd_raiseIf hq, ne_eq,
        not_false_eq_true]; done)

def kw_convertChannels : Writes := ⟨[], [(0x902001, 0x902031, 256)]⟩
theorem kp_convertChannels {κ ν : Nat} (hq : Quiet kw_convertChannels κ ν) (channels : List (Option Int)) {s : State} (hs : Holds κ ν s) : Holds κ ν (convertChannels channels s) := by
  have f (n : Nat) : κ ≠ sensorKey n :=
    hq.outside (lo := 0x902001) (hi := 0x902031) (sub := 256) (by decide) (by unfold sensorKey; omega) (by unfold sensorKey; omega) (Or.inl rfl)
  refine hd_foldl (fun t n ht => ?_) _ hs
  split
  · exact hd_putInt (f _) ht
  · exact hd_put (f _) ht

def kw_supervise : Writes := ⟨[0x200101, 0x200104, 0x203002, 0x203005, 0x20300D, 0x301005, 0x301006, 0x301008, 0x301105, 0x301106, 0x301108,
        0x302001, 0x302002, 0x302003, 0x302004, 0x302005, 0x302006, 0x402001, 0x402002, 0x404105, 0x404106, 0x406009, 0x407008, 0x407009,
        0x408101, 0x408102, 0x408103, 0x408106, 0x502004, 0x502005, 0x502006, 0x502007, 0x502009, 0x508003, 0x508004, 0x508005, 0x508006,
        0x611003, 0x613008, 0x613009, 0x61300A, 0x619004, 0x700306, 0x70030A, 0xB03004, 0xB04003, 0xD02004], [(0x201001, 0x20100E, 256),
        (0x612000, 0x613000, 256), (0x620000, 0x624000, 256)]⟩
theorem kp_supervise {κ ν : Nat} (hq : Quiet kw_supervise κ ν) {s : State} (hs : Holds κ ν s) : Holds κ ν (supervise s) := by
  have f (n : Nat) : κ ≠ railKey n :=
    hq.outside (lo := 0x201001) (hi := 0x20100E) (sub := 256) (by decide) (by unfold railKey; omega) (by unfold railKey; omega) (Or.inl rfl)
  have n1 : κ ≠ 0x203002 := hq.ne rfl
  have n2 : κ ≠ 0x203005 := hq.ne rfl
  have n3 : κ ≠ 0x20300D := hq.ne rfl
  unfold supervise
  simp only
  generalize hA : List.foldl _ s (List.range 13) = a
  have h1 : Holds κ ν a := by
    rw [← hA]
    refine hd_foldl (fun t n ht => ?_) _ hs
    split <;> exact hd_put (f _) ht
  clear hA
  have fin (b : State) (v : Int) (hb : Holds κ ν b) (c : Prop) [Decidable c] : Holds κ ν (
      let b := b.put 0x203002 (shown v)
      let energy := if b.get 0x203001 = 1 then usableMj (b.get 0x203003) (b.get 0x203004) (shown v) else 0
      let b := b.put 0x203005 (min 65535 energy)
      let b := updateProtection { b with pow := { b.pow with cartridge := { b.pow.cartridge with measured := true } } }
      if c then wakeBy 4 b else b) := by
    exact hd_cond (kp_wakeBy (hq.mono rfl) _ (kp_updateProtection (hq.mono rfl) (by simp only [hd_mk, hd_fold]; exact hd_put n2 (hd_put n1 hb))))
      (kp_updateProtection (hq.mono rfl) (by simp only [hd_mk, hd_fold]; exact hd_put n2 (hd_put n1 hb)))
  have last (b : State) (hb : Holds κ ν b) : Holds κ ν (match b.channelValue 44 with
    | none => b
    | some v =>
      let b := b.put 0x203002 (shown v)
      let energy := if b.get 0x203001 = 1 then usableMj (b.get 0x203003) (b.get 0x203004) (shown v) else 0
      let b := b.put 0x203005 (min 65535 energy)
      let was := b.get 0x402001
      let b := updateProtection { b with pow := { b.pow with cartridge := { b.pow.cartridge with measured := true } } }
      if was = 1 ∧ b.get 0x402001 ≠ 1 then wakeBy 4 b else b) := by
    split
    · exact hb
    · exact fin _ _ hb _
  cases h24 : a.channelValue 24 with
  | none =>
    simp only
    cases h47 : a.channelValue 47 with
    | none => exact last a h1
    | some w => exact last _ (hd_put n3 h1)
  | some v =>
    simp only
    have h2 := kp_noteVin (hq.mono rfl) (shown v) h1
    generalize noteVin (shown v) a = b at h2 ⊢
    cases h47 : b.channelValue 47 with
    | none => exact last b h2
    | some w => exact last _ (hd_put n3 h2)

def kw_slowRound : Writes := ⟨[0x200101, 0x200104, 0x203002, 0x203005, 0x20300D, 0x301005, 0x301006, 0x301008, 0x301105, 0x301106, 0x301108,
        0x302001, 0x302002, 0x302003, 0x302004, 0x302005, 0x302006, 0x402001, 0x402002, 0x404105, 0x404106, 0x406009, 0x407008, 0x407009,
        0x408101, 0x408102, 0x408103, 0x408106, 0x502004, 0x502005, 0x502006, 0x502007, 0x502009, 0x508003, 0x508004, 0x508005, 0x508006,
        0x611003, 0x613008, 0x613009, 0x61300A, 0x619004, 0x700306, 0x70030A, 0x900101, 0x900102, 0x900103, 0x900104, 0x900105, 0x900108,
        0x903001, 0x903002, 0xB03004, 0xB04003, 0xD02004], [(0x201001, 0x20100E, 256), (0x612000, 0x613000, 256), (0x616101, 0x616111, 256),
        (0x620000, 0x624000, 256), (0x902001, 0x902031, 256), (0x904001, 0x904011, 256), (0x904101, 0x904111, 256)]⟩
theorem kp_slowRound {κ ν : Nat} (hq : Quiet kw_slowRound κ ν) (channels : List (Option Int)) {s : State} (hs : Holds κ ν s) : Holds κ ν
        (slowRound channels s) := by
  unfold slowRound
  simp (maxDischargeDepth := 40) +contextual only [hs, hd_mk, hd_fold, hd_ite, ite_self, implies_true, kp_coldPlate (hq.mono rfl),
        kp_convertChannels (hq.mono rfl), kp_crossCheck (hq.mono rfl), kp_supervise (hq.mono rfl), kp_temperatures (hq.mono rfl),
        kp_throttling (hq.mono rfl), ne_eq, not_false_eq_true]

def kw_flushQueue : Writes := ⟨[0x302001, 0x302002, 0x302005, 0x302006, 0x404105, 0x404106, 0x406009, 0x407008, 0x407009, 0x408101,
        0x408102, 0x408103, 0x408106, 0x502007, 0x611003, 0x619004, 0xB03004, 0xB04003], [(0x612000, 0x613000, 256), (0x620000, 0x624000,
        256)]⟩
theorem kp_flushQueue {κ ν : Nat} (hq : Quiet kw_flushQueue κ ν) (p : Port) {s : State} (hs : Holds κ ν s) : Holds κ ν (flushQueue p s) :=
        by
  unfold flushQueue
  simp (maxDischargeDepth := 40) +contextual only [hs, hd_mk, hd_fold, hd_ite, ite_self, implies_true, kp_drainLoop (hq.mono rfl), ne_eq,
        not_false_eq_true]

def kw_flush : Writes := ⟨[0x302001, 0x302002, 0x302005, 0x302006, 0x404105, 0x404106, 0x406009, 0x407008, 0x407009, 0x408101, 0x408102,
        0x408103, 0x408106, 0x502007, 0x611003, 0x619004, 0xB03004, 0xB04003], [(0x612000, 0x613000, 256), (0x620000, 0x624000, 256)]⟩
theorem kp_flush {κ ν : Nat} (hq : Quiet kw_flush κ ν) (p : Port) (phase : Nat) {s : State} (hs : Holds κ ν s) : Holds κ ν (flush p phase s)
        := by
  unfold flush
  simp (maxDischargeDepth := 40) +contextual only [hs, hd_mk, hd_fold, hd_ite, ite_self, implies_true, kp_modPort (hq.mono rfl), kp_flushQueue
        (hq.mono rfl), kp_serveFlushes (hq.mono rfl), ne_eq, not_false_eq_true]

def kw_contain : Writes := ⟨[0x301001, 0x301005, 0x301006, 0x301008, 0x301101, 0x301105, 0x301106, 0x301108, 0x302001, 0x302002, 0x302003,
        0x302004, 0x302005, 0x302006, 0x404105, 0x404106, 0x406009, 0x407008, 0x407009, 0x408101, 0x408102, 0x408103, 0x408106, 0x502004,
        0x502005, 0x502006, 0x502007, 0x502009, 0x508003, 0x508004, 0x508005, 0x508006, 0x611003, 0x619004, 0xB03004, 0xB04003], [(0x612000,
        0x613000, 256), (0x620000, 0x624000, 256)]⟩
theorem kp_contain {κ ν : Nat} (hq : Quiet kw_contain κ ν) (p : Port) {s : State} (hs : Holds κ ν s) : Holds κ ν (contain p s) := by
  have n0 : κ ≠ 0x301001 := hq.ne rfl
  have n1 : κ ≠ 0x301101 := hq.ne rfl
  have p1 : ∀ p : Port, κ ≠ p.key 0x01 := by intro p; cases p <;> assumption
  unfold contain
  simp (maxDischargeDepth := 40) +contextual only [hs, hd_mk, hd_fold, hd_ite, ite_self, implies_true, n0, n1, p1, kp_modPort (hq.mono rfl),
        hd_put, kp_forgetRequests (hq.mono rfl), kp_portException (hq.mono rfl), hd_raise hq, ne_eq, not_false_eq_true]

def kw_resetPort : Writes := ⟨[0x301007, 0x301107], []⟩
theorem kp_resetPort {κ ν : Nat} (hq : Quiet kw_resetPort κ ν) (p : Port) {s : State} (hs : Holds κ ν s) : Holds κ ν (resetPort p s) := by
  have n0 : κ ≠ 0x301007 := hq.ne rfl
  have n1 : κ ≠ 0x301107 := hq.ne rfl
  have p7 : ∀ p : Port, κ ≠ p.key 0x07 := by intro p; cases p <;> assumption
  unfold resetPort
  simp (maxDischargeDepth := 40) +contextual only [hs, hd_mk, hd_fold, hd_ite, ite_self, implies_true, n0, n1, p7, kp_modPort (hq.mono rfl),
        hd_put, ne_eq, not_false_eq_true]

theorem kp_freePort {κ ν : Nat} (hq : Quiet kw_none κ ν) (p : Port) {s : State} (hs : Holds κ ν s) : Holds κ ν (freePort p s) := by
  unfold freePort
  simp (maxDischargeDepth := 40) +contextual only [hs, hd_mk, hd_fold, hd_ite, ite_self, implies_true, kp_modPort (hq.mono rfl), ne_eq,
        not_false_eq_true]

def kw_setTime : Writes := ⟨[0x405002, 0x611003, 0x619004], [(0x612000, 0x613000, 256), (0x620000, 0x624000, 256)]⟩
theorem kp_setTime {κ ν : Nat} (hq : Quiet kw_setTime κ ν) (v source : Nat) {s : State} (hs : Holds κ ν s) : Holds κ ν (setTime v source s)
        := by
  have n0 : κ ≠ 0x405002 := hq.ne rfl
  unfold setTime
  simp (maxDischargeDepth := 40) +contextual only [hs, hd_mk, hd_fold, hd_ite, ite_self, implies_true, n0, hd_put, kp_journalPut (hq.mono
        rfl), ne_eq, not_false_eq_true]

def kw_setProfile : Writes := ⟨[0x401001, 0x401002], []⟩
theorem kp_setProfile {κ ν : Nat} (hq : Quiet kw_setProfile κ ν) (v : Nat) {s : State} (hs : Holds κ ν s) : Holds κ ν (setProfile v s) := by
  have n0 : κ ≠ 0x401001 := hq.ne rfl
  have n1 : κ ≠ 0x401002 := hq.ne rfl
  unfold setProfile
  simp (maxDischargeDepth := 40) +contextual only [hs, hd_mk, hd_fold, hd_ite, ite_self, implies_true, n0, n1, hd_put, hd_raise hq, ne_eq,
        not_false_eq_true]

theorem kp_writeLevelKey {κ ν : Nat} (hq : Quiet kw_none κ ν) (req : Req) (level : Nat) (v : List Byte) {s : State} (hs : Holds κ ν s) :
        Holds κ ν (writeLevelKey req level v s) := by
  unfold writeLevelKey
  simp (maxDischargeDepth := 40) +contextual only [hs, hd_mk, hd_fold, hd_ite, ite_self, implies_true, kp_endSessions (hq.mono rfl), ne_eq,
        not_false_eq_true]

def kw_noteRequest : Writes := ⟨[0x120001], []⟩
theorem kp_noteRequest {κ ν : Nat} (hq : Quiet kw_noteRequest κ ν) (key kind : Nat) (req : Req) (old new : List Byte) {s : State} (hs :
        Holds κ ν s) : Holds κ ν (noteRequest key kind req old new s) := by
  unfold noteRequest
  simp (maxDischargeDepth := 40) +contextual only [hs, hd_mk, hd_fold, hd_ite, ite_self, implies_true, kp_noteChange (hq.mono rfl), ne_eq,
        not_false_eq_true]

theorem kp_setBlock {κ ν : Nat} (hq : Quiet kw_none κ ν) (req : Req) (b : Option BlockWrite) {s : State} (hs : Holds κ ν s) : Holds κ ν
        (setBlock req b s) := by
  unfold setBlock
  simp (maxDischargeDepth := 40) +contextual only [hs, hd_mk, hd_fold, hd_ite, ite_self, implies_true, ne_eq, not_false_eq_true]

def kw_refuse : Writes := ⟨[0xD00105], []⟩
theorem kp_refuse {κ ν : Nat} (hq : Quiet kw_refuse κ ν) (req : Req) (idx sub : Nat) (ask : DictAsk) (status : Nat) {s : State} (hs : Holds
        κ ν s) : Holds κ ν (refuse req idx sub ask status s) := by
  unfold refuse
  (try simp (maxDischargeDepth := 40) +contextual only [hs, hd_mk, hd_fold, hd_ite, ite_self, implies_true, kp_endWith (hq.mono rfl),
        kp_refusedByState (hq.mono rfl), kp_setBlock (hq.mono rfl), ne_eq, not_false_eq_true])
  repeat' split
  all_goals first
    | (with_reducible exact hs)
    | (simp (maxDischargeDepth := 40) +contextual only [hs, hd_mk, hd_fold, hd_ite, ite_self, implies_true, kp_endWith (hq.mono rfl),
        kp_refusedByState (hq.mono rfl), kp_setBlock (hq.mono rfl), ne_eq, not_false_eq_true]; done)

theorem kp_inSession {κ ν : Nat} (hq : Quiet kw_none κ ν) (req : Req) (want : List Byte → BitVec 128) {refused : Nat → State → State} {go : State → State}
    (hr : ∀ n s, Holds κ ν s → Holds κ ν (refused n s)) (hg : ∀ s, Holds κ ν s → Holds κ ν (go s)) {s : State} (hs : Holds κ ν s) :
    Holds κ ν (inSession req want refused go s) := by
  unfold inSession
  split
  · split
    · split
      · exact kp_putSession (hq.mono rfl) _ (kp_emit (hq.mono rfl) _ hs)
      · exact kp_putSession (hq.mono rfl) _ hs
    · split
      · exact hg _ (kp_putSession (hq.mono rfl) _ hs)
      · exact hr _ _ hs
  · exact hr _ _ hs

theorem kp_endUnkept {κ ν : Nat} (hq : Quiet kw_none κ ν) (req : Req) (idx sub : Nat) (ask : DictAsk) (status : Nat) {s : State} (hs : Holds
        κ ν s) : Holds κ ν (endUnkept req idx sub ask status s) := by
  unfold endUnkept
  simp (maxDischargeDepth := 40) +contextual only [hs, hd_mk, hd_fold, hd_ite, ite_self, implies_true, kp_emit (hq.mono rfl), ne_eq,
        not_false_eq_true]

def kw_arrive : Writes := ⟨[0x140106, 0x140107], []⟩
theorem kp_arrive {κ ν : Nat} (hq : Quiet kw_arrive κ ν) (path : Path) {busy serve : State → State} (hb : ∀ s, Holds κ ν s → Holds κ ν (busy s))
    (hv : ∀ s, Holds κ ν s → Holds κ ν (serve s)) {s : State} (hs : Holds κ ν s) : Holds κ ν (arrive path busy serve s) := by
  have b (t : State) (ht : Holds κ ν t) : Holds κ ν (t.bump 0x140106) := hd_bump (hq.ne rfl) ht
  have c (t : State) (ht : Holds κ ν t) : Holds κ ν (t.bump 0x140107) := hd_bump (hq.ne rfl) ht
  cases path with
  | mailbox p =>
    unfold arrive
    simp only
    split
    · exact hv _ hs
    · exact hs
  | fieldLink mac =>
    unfold arrive
    simp only
    split
    · exact hs
    · split
      · refine hv _ (b _ ?_); exact hs
      · split
        · refine hv _ (b _ ?_); exact hs
        · split
          · refine hb _ ?_
            simp only [hd_mk, hd_fold]
            exact c { s with mgmt := { s.mgmt with received := dropFirst mac s.mgmt.received } } hs
          · refine c _ ?_; exact hs

def kw_prunePass : Writes := ⟨[0x617006, 0xA00106], []⟩
theorem kp_prunePass {κ ν : Nat} (hq : Quiet kw_prunePass κ ν) {s : State} (hs : Holds κ ν s) : Holds κ ν (prunePass s) := by
  have n0 : κ ≠ 0x617006 := hq.ne rfl
  unfold prunePass
  simp (maxDischargeDepth := 40) +contextual only [hs, hd_mk, hd_fold, hd_ite, ite_self, implies_true, n0, hd_put, kp_judgeEpisode (hq.mono
        rfl), ne_eq, not_false_eq_true]

def kw_queueFrame : Writes := ⟨[0x140108, 0x140109], []⟩
theorem kp_queueFrame {κ ν : Nat} (hq : Quiet kw_queueFrame κ ν) (f : Frame) {s : State} (hs : Holds κ ν s) : Holds κ ν (queueFrame f s) :=
        by
  have n0 : κ ≠ 0x140108 := hq.ne rfl
  have n1 : κ ≠ 0x140109 := hq.ne rfl
  unfold queueFrame
  simp (maxDischargeDepth := 40) +contextual only [hs, hd_mk, hd_fold, hd_ite, ite_self, implies_true, n0, n1, hd_bump, hd_raise hq, ne_eq,
        not_false_eq_true]

theorem kp_sendFrame {κ ν : Nat} (hq : Quiet kw_none κ ν) (dest : Option Nat) (op : Nat) (payload : List Byte) {s : State} (hs : Holds κ ν
        s) : Holds κ ν (sendFrame dest op payload s) := by
  unfold sendFrame
  simp (maxDischargeDepth := 40) +contextual only [hs, hd_mk, hd_fold, hd_ite, ite_self, implies_true, kp_emit (hq.mono rfl), ne_eq,
        not_false_eq_true]

theorem kp_mailboxAnswer {κ ν : Nat} (hq : Quiet kw_none κ ν) (p : Port) (code : Nat) (fields : List Nat) {s : State} (hs : Holds κ ν s) :
        Holds κ ν (mailboxAnswer p code fields s) := by
  unfold mailboxAnswer
  simp (maxDischargeDepth := 40) +contextual only [hs, hd_mk, hd_fold, hd_ite, ite_self, implies_true, kp_emit (hq.mono rfl), ne_eq,
        not_false_eq_true]

def kw_mailboxBusy : Writes := ⟨[0xD00105], []⟩
theorem kp_mailboxBusy {κ ν : Nat} (hq : Quiet kw_mailboxBusy κ ν) (p : Port) {s : State} (hs : Holds κ ν s) : Holds κ ν (mailboxBusy p s)
        := by
  unfold mailboxBusy
  simp (maxDischargeDepth := 40) +contextual only [hs, hd_mk, hd_fold, hd_ite, ite_self, implies_true, kp_mailboxAnswer (hq.mono rfl),
        kp_refusedByState (hq.mono rfl), ne_eq, not_false_eq_true]

theorem kp_clearLog {κ ν : Nat} (hq : Quiet kw_none κ ν) (p : Port) (log : Nat) (keep : EventRecord → Bool) {s : State} (hs : Holds κ ν s) :
        Holds κ ν (clearLog p log keep s) := by
  unfold clearLog
  simp (maxDischargeDepth := 40) +contextual only [hs, hd_mk, hd_fold, hd_ite, ite_self, implies_true, kp_modPort (hq.mono rfl), ne_eq,
        not_false_eq_true]

theorem kp_activateByHost {κ ν : Nat} (hq : Quiet kw_none κ ν) (p : Port) (result : ActivationResult) {s : State} (hs : Holds κ ν s) : Holds
        κ ν (activateByHost p result s) := by
  unfold activateByHost
  (try simp (maxDischargeDepth := 40) +contextual only [hs, hd_mk, hd_fold, hd_ite, ite_self, implies_true, kp_mailboxAnswer (hq.mono rfl),
        hd_raise hq, ne_eq, not_false_eq_true])
  repeat' split
  all_goals first
    | (with_reducible exact hs)
    | (simp (maxDischargeDepth := 40) +contextual only [hs, hd_mk, hd_fold, hd_ite, ite_self, implies_true, kp_mailboxAnswer (hq.mono rfl),
        hd_raise hq, ne_eq, not_false_eq_true]; done)

def kw_sanitizeByHost : Writes := ⟨[0x302001, 0x302002, 0x302005, 0x302006, 0x502007, 0x611003, 0x619004, 0xB03004, 0xB04003, 0xD00105],
        [(0x612000, 0x613000, 256), (0x620000, 0x624000, 256), (0x700101, 0x700111, 256)]⟩
theorem kp_sanitizeByHost {κ ν : Nat} (hq : Quiet kw_sanitizeByHost κ ν) (p : Port) {s : State} (hs : Holds κ ν s) : Holds κ ν
        (sanitizeByHost p s) := by
  unfold sanitizeByHost
  simp (maxDischargeDepth := 40) +contextual only [hs, hd_mk, hd_fold, hd_ite, ite_self, implies_true, kp_mailboxAnswer (hq.mono rfl),
        kp_mailboxBusy (hq.mono rfl), kp_sanitizeNow (hq.mono rfl), kp_sendMsi (hq.mono rfl), kp_setAction (hq.mono rfl), ne_eq,
        not_false_eq_true]

def kw_noteBanks : Writes := ⟨[], [(0x620000, 0x624000, 256)]⟩
theorem kp_noteBanks {κ ν : Nat} (hq : Quiet kw_noteBanks κ ν) (shifts : List (Option Nat)) {s : State} (hs : Holds κ ν s) : Holds κ ν (noteBanks shifts s) := by
  have k5 : ∀ d : Nat, κ ≠ dieKey d 0x05 := fun d => hq.outside (lo := 0x620000) (hi := 0x624000) (sub := 256) (by decide) (by unfold dieKey; omega) (by unfold dieKey; omega) (by unfold dieKey; omega)
  have k6 : ∀ d : Nat, κ ≠ dieKey d 0x06 := fun d => hq.outside (lo := 0x620000) (hi := 0x624000) (sub := 256) (by decide) (by unfold dieKey; omega) (by unfold dieKey; omega) (by unfold dieKey; omega)
  refine hd_foldl (fun t d ht => ?_) _ hs
  split <;> exact hd_put (k6 d) (hd_put (k5 d) ht)

def kw_applyOffInterval : Writes := ⟨[0x616003, 0x616004, 0x616005], [(0x616101, 0x616111, 256), (0x620000, 0x624000, 256)]⟩
theorem kp_applyOffInterval {κ ν : Nat} (hq : Quiet kw_applyOffInterval κ ν) (shifts : List (Option Nat)) {s : State} (hs : Holds κ ν s) :
        Holds κ ν (applyOffInterval shifts s) := by
  have n0 : κ ≠ 0x616003 := hq.ne rfl
  have n1 : κ ≠ 0x616004 := hq.ne rfl
  have n2 : κ ≠ 0x616005 := hq.ne rfl
  have fpackageAgeKey : ∀ n : Nat, κ ≠ packageAgeKey n := fun n => hq.outside (lo := 0x616101) (hi := 0x616111) (sub := 256) (by decide) (by unfold packageAgeKey; omega) (by unfold packageAgeKey; omega) (by unfold packageAgeKey; omega)
  unfold applyOffInterval
  simp (maxDischargeDepth := 40) +contextual only [hs, hd_mk, hd_fold, hd_ite, ite_self, implies_true, n0, n1, n2, fpackageAgeKey, hd_addTo,
        hd_put, kp_noteBanks (hq.mono rfl), hd_raise hq, hd_foldl, ne_eq, not_false_eq_true]

theorem kp_resetAgain {κ ν : Nat} (hq : Quiet kw_none κ ν) {s : State} (hs : Holds κ ν s) : Holds κ ν (resetAgain s) := by
  unfold resetAgain
  simp (maxDischargeDepth := 40) +contextual only [hs, hd_mk, hd_fold, hd_ite, ite_self, implies_true, kp_setStripe (hq.mono rfl), hd_foldl,
        ne_eq, not_false_eq_true]

theorem kp_settleTails {κ ν : Nat} (hq : Quiet kw_none κ ν) {s : State} (hs : Holds κ ν s) : Holds κ ν (settleTails s) := by
  unfold settleTails
  (try simp (maxDischargeDepth := 40) +contextual only [hs, hd_mk, hd_fold, hd_ite, ite_self, implies_true, kp_resetAgain (hq.mono rfl),
        ne_eq, not_false_eq_true])
  repeat' split
  all_goals first
    | (with_reducible exact hs)
    | (simp (maxDischargeDepth := 40) +contextual only [hs, hd_mk, hd_fold, hd_ite, ite_self, implies_true, kp_resetAgain (hq.mono rfl), ne_eq,
        not_false_eq_true]; done)

theorem kp_loadRegisters {κ ν : Nat} (hq : Quiet kw_none κ ν) {s : State} (hs : Holds κ ν s) : Holds κ ν (loadRegisters s) := by
  unfold loadRegisters
  simp (maxDischargeDepth := 40) +contextual only [hs, hd_mk, hd_fold, hd_ite, ite_self, implies_true, ne_eq, not_false_eq_true]

def kw_readImage : Writes := ⟨[0x800101, 0x800102, 0x800103, 0x800104, 0x800105, 0x800106, 0x801002], []⟩
theorem kp_readImage {κ ν : Nat} (hq : Quiet kw_readImage κ ν) (f : RestoreFindings) {s : State} (hs : Holds κ ν s) : Holds κ ν (readImage f
        s) := by
  unfold readImage
  (try simp (maxDischargeDepth := 40) +contextual only [hs, hd_mk, hd_fold, hd_ite, ite_self, implies_true, kp_detectSomewhere (hq.mono rfl),
        kp_nameLines (hq.mono rfl), hd_raise hq, hd_foldl, ne_eq, not_false_eq_true])
  repeat' split
  all_goals first
    | (with_reducible exact hs)
    | (simp (maxDischargeDepth := 40) +contextual only [hs, hd_mk, hd_fold, hd_ite, ite_self, implies_true, kp_detectSomewhere (hq.mono rfl),
        kp_nameLines (hq.mono rfl), hd_raise hq, hd_foldl, ne_eq, not_false_eq_true]; done)

def kw_readPowerLog : Writes := ⟨[0x202002, 0x202003], []⟩
theorem kp_readPowerLog {κ ν : Nat} (hq : Quiet kw_readPowerLog κ ν) (f : RestoreFindings) {s : State} (hs : Holds κ ν s) : Holds κ ν
        (readPowerLog f s) := by
  have n0 : κ ≠ 0x202002 := hq.ne rfl
  have n1 : κ ≠ 0x202003 := hq.ne rfl
  unfold readPowerLog
  (try simp (maxDischargeDepth := 40) +contextual only [hs, hd_mk, hd_fold, hd_ite, ite_self, implies_true, n0, n1, hd_addTo, hd_put, ne_eq,
        not_false_eq_true])
  repeat' split
  all_goals first
    | (with_reducible exact hs)
    | (simp (maxDischargeDepth := 40) +contextual only [hs, hd_mk, hd_fold, hd_ite, ite_self, implies_true, n0, n1, hd_addTo, hd_put, ne_eq,
        not_false_eq_true]; done)

theorem kp_dropTorn {κ ν : Nat} (hq : Quiet kw_none κ ν) (f : RestoreFindings) {s : State} (hs : Holds κ ν s) : Holds κ ν (dropTorn f s) :=
        by
  unfold dropTorn
  simp (maxDischargeDepth := 40) +contextual only [hs, hd_mk, hd_fold, hd_ite, ite_self, implies_true, ne_eq, not_false_eq_true]

def kw_judgeChain : Writes := ⟨[0x301001, 0x301004, 0x301005, 0x301006, 0x301008, 0x301101, 0x301104, 0x301105, 0x301106, 0x301108,
        0x302001, 0x302002, 0x302003, 0x302004, 0x302005, 0x302006, 0x404105, 0x404106, 0x406009, 0x407008, 0x407009, 0x408101, 0x408102,
        0x408103, 0x408106, 0x502004, 0x502005, 0x502006, 0x502007, 0x502009, 0x508003, 0x508004, 0x508005, 0x508006, 0x611003, 0x613008,
        0x613009, 0x61300A, 0x619004, 0x700301, 0x700302, 0x700303, 0x700304, 0x700305, 0x700306, 0x70030A, 0xA00106, 0xB03004, 0xB04003,
        0xC00104, 0xD00101, 0xD00102], [(0x612000, 0x613000, 256), (0x620000, 0x624000, 256)]⟩
theorem kp_judgeChain {κ ν : Nat} (hq : Quiet kw_judgeChain κ ν) (f : RestoreFindings) {s : State} (hs : Holds κ ν s) : Holds κ ν
        (judgeChain f s) := by
  unfold judgeChain
  (try simp (maxDischargeDepth := 40) +contextual only [hs, hd_mk, hd_fold, hd_ite, ite_self, implies_true, kp_failCheck (hq.mono rfl),
        hd_foldl, ne_eq, not_false_eq_true])
  repeat' split
  all_goals first
    | (with_reducible exact hs)
    | (simp (maxDischargeDepth := 40) +contextual only [hs, hd_mk, hd_fold, hd_ite, ite_self, implies_true, kp_failCheck (hq.mono rfl), hd_foldl,
        ne_eq, not_false_eq_true]; done)

def kw_judgeDigests : Writes := ⟨[0x301001, 0x301004, 0x301005, 0x301006, 0x301008, 0x301101, 0x301104, 0x301105, 0x301106, 0x301108,
        0x302001, 0x302002, 0x302003, 0x302004, 0x302005, 0x302006, 0x404105, 0x404106, 0x406009, 0x407008, 0x407009, 0x408101, 0x408102,
        0x408103, 0x408106, 0x502004, 0x502005, 0x502006, 0x502007, 0x502009, 0x508003, 0x508004, 0x508005, 0x508006, 0x611003, 0x613008,
        0x613009, 0x61300A, 0x619004, 0x700301, 0x700302, 0x700303, 0x700304, 0x700305, 0x700306, 0x70030A, 0xA00106, 0xB03004, 0xB04003,
        0xC00104, 0xD00101, 0xD00102], [(0x612000, 0x613000, 256), (0x620000, 0x624000, 256)]⟩
theorem kp_judgeDigests {κ ν : Nat} (hq : Quiet kw_judgeDigests κ ν) (f : RestoreFindings) {s : State} (hs : Holds κ ν s) : Holds κ ν
        (judgeDigests f s) := by
  unfold judgeDigests
  simp (maxDischargeDepth := 40) +contextual only [hs, hd_mk, hd_fold, hd_ite, ite_self, implies_true, kp_failCheck (hq.mono rfl), hd_foldl,
        ne_eq, not_false_eq_true]

theorem kp_judgeLines {κ ν : Nat} (hq : Quiet kw_none κ ν) (before : List IntegrityEntry) {s : State} (hs : Holds κ ν s) : Holds κ ν
        (judgeLines before s) := by
  unfold judgeLines
  simp (maxDischargeDepth := 40) +contextual only [hs, hd_mk, hd_fold, hd_ite, ite_self, implies_true, ne_eq, not_false_eq_true]

theorem kp_replayIntegrity {κ ν : Nat} (hq : Quiet kw_none κ ν) {s : State} (hs : Holds κ ν s) : Holds κ ν (replayIntegrity s) := by
  unfold replayIntegrity
  simp (maxDischargeDepth := 40) +contextual only [hs, hd_mk, hd_fold, hd_ite, ite_self, implies_true, hd_foldl, ne_eq, not_false_eq_true]

theorem kp_dropUnnamed {κ ν : Nat} (hq : Quiet kw_none κ ν) {s : State} (hs : Holds κ ν s) : Holds κ ν (dropUnnamed s) := by
  unfold dropUnnamed
  simp (maxDischargeDepth := 40) +contextual only [hs, hd_mk, hd_fold, hd_ite, ite_self, implies_true, ne_eq, not_false_eq_true]

theorem kp_restoreTable {κ ν : Nat} (hq : Quiet kw_none κ ν) {s : State} (hs : Holds κ ν s) : Holds κ ν (restoreTable s) := by
  unfold restoreTable
  simp (maxDischargeDepth := 40) +contextual only [hs, hd_mk, hd_fold, hd_ite, ite_self, implies_true, hd_foldl, ne_eq, not_false_eq_true]

theorem kp_noteTornSave {κ ν : Nat} (hq : Quiet kw_none κ ν) (f : RestoreFindings) {s : State} (hs : Holds κ ν s) : Holds κ ν (noteTornSave
        f s) := by
  unfold noteTornSave
  simp (maxDischargeDepth := 40) +contextual only [hs, hd_mk, hd_fold, hd_ite, ite_self, implies_true, ne_eq, not_false_eq_true]

def kw_restoreEight : Writes := ⟨[0x404108, 0x404109, 0x40410A, 0x700308], []⟩
theorem kp_restoreEight {κ ν : Nat} (hq : Quiet kw_restoreEight κ ν) {s : State} (hs : Holds κ ν s) : Holds κ ν (restoreEight s) := by
  have n0 : κ ≠ 0x404108 := hq.ne rfl
  have n1 : κ ≠ 0x404109 := hq.ne rfl
  have n2 : κ ≠ 0x40410A := hq.ne rfl
  have n3 : κ ≠ 0x700308 := hq.ne rfl
  unfold restoreEight
  simp (maxDischargeDepth := 40) +contextual only [hs, hd_mk, hd_fold, hd_ite, ite_self, implies_true, n0, n1, n2, n3, hd_put, kp_dropUnnamed
        (hq.mono rfl), hd_raise hq, kp_replayIntegrity (hq.mono rfl), kp_restoreTable (hq.mono rfl), kp_restoreUnits (hq.mono rfl),
        hd_foldl, ne_eq, not_false_eq_true]

def kw_resolveGroups : Writes := ⟨[0x502008], []⟩
theorem kp_resolveGroups {κ ν : Nat} (hq : Quiet kw_resolveGroups κ ν) (source before : Tbl Group) {s : State} (hs : Holds κ ν s) : Holds κ
        ν (resolveGroups source before s) := by
  have n0 : κ ≠ 0x502008 := hq.ne rfl
  unfold resolveGroups
  simp (maxDischargeDepth := 40) +contextual only [hs, hd_mk, hd_fold, hd_ite, ite_self, implies_true, n0, hd_put, hd_raiseIf hq, hd_foldl,
        ne_eq, not_false_eq_true]

def kw_reinstateQueues : Writes := ⟨[0x302001, 0x302002, 0x302005, 0x302006, 0x404105, 0x404106, 0x406009, 0x407008, 0x407009, 0x408101,
        0x408102, 0x408103, 0x408106, 0x502004, 0x502005, 0x502006, 0x502007, 0x502009, 0x611003, 0x619004, 0xB03004, 0xB04003], [(0x612000,
        0x613000, 256), (0x620000, 0x624000, 256)]⟩
theorem kp_reinstateQueues {κ ν : Nat} (hq : Quiet kw_reinstateQueues κ ν) (i : Image) {s : State} (hs : Holds κ ν s) : Holds κ ν
        (reinstateQueues i s) := by
  unfold reinstateQueues
  simp (maxDischargeDepth := 40) +contextual only [hs, hd_mk, hd_fold, hd_ite, ite_self, implies_true, kp_modPort (hq.mono rfl), kp_drainPort
        (hq.mono rfl), ne_eq, not_false_eq_true]

theorem kp_waitCommits {κ ν : Nat} (hq : Quiet kw_none κ ν) {s : State} (hs : Holds κ ν s) : Holds κ ν (waitCommits s) := by
  unfold waitCommits
  simp (maxDischargeDepth := 40) +contextual only [hs, hd_mk, hd_fold, hd_ite, ite_self, implies_true, ne_eq, not_false_eq_true]

def kw_reinstate : Writes := ⟨[0x302001, 0x302002, 0x302005, 0x302006, 0x404105, 0x404106, 0x40410B, 0x406009, 0x407008, 0x407009, 0x408101,
        0x408102, 0x408103, 0x408106, 0x502004, 0x502005, 0x502006, 0x502007, 0x502008, 0x502009, 0x611003, 0x619004, 0xB03004, 0xB04003],
        [(0x612000, 0x613000, 256), (0x620000, 0x624000, 256)]⟩
theorem kp_reinstate {κ ν : Nat} (hq : Quiet kw_reinstate κ ν) (i : Image) {s : State} (hs : Holds κ ν s) : Holds κ ν (reinstate i s) := by
  have n0 : κ ≠ 0x40410B := hq.ne rfl
  unfold reinstate
  simp (maxDischargeDepth := 40) +contextual only [hs, hd_mk, hd_fold, hd_ite, ite_self, implies_true, n0, hd_put, kp_dirtySegment (hq.mono
        rfl), kp_reinstateQueues (hq.mono rfl), kp_resolveGroups (hq.mono rfl), kp_waitCommits (hq.mono rfl), hd_foldl, ne_eq,
        not_false_eq_true]

def kw_restoreUnsaved : Writes := ⟨[0x502008], []⟩
theorem kp_restoreUnsaved {κ ν : Nat} (hq : Quiet kw_restoreUnsaved κ ν) {s : State} (hs : Holds κ ν s) : Holds κ ν (restoreUnsaved s) := by
  unfold restoreUnsaved
  simp (maxDischargeDepth := 40) +contextual only [hs, hd_mk, hd_fold, hd_ite, ite_self, implies_true, kp_resolveGroups (hq.mono rfl),
        hd_foldl, ne_eq, not_false_eq_true]

def kw_reportDirty : Writes := ⟨[0x402003], []⟩
theorem kp_reportDirty {κ ν : Nat} (hq : Quiet kw_reportDirty κ ν) {s : State} (hs : Holds κ ν s) : Holds κ ν (reportDirty s) := by
  have n0 : κ ≠ 0x402003 := hq.ne rfl
  unfold reportDirty
  simp (maxDischargeDepth := 40) +contextual only [hs, hd_mk, hd_fold, hd_ite, ite_self, implies_true, n0, hd_bump, kp_postRecord (hq.mono
        rfl), hd_raise hq, ne_eq, not_false_eq_true]

def kw_takeImage : Writes := ⟨[0x302001, 0x302002, 0x302005, 0x302006, 0x404105, 0x404106, 0x40410B, 0x406009, 0x407008, 0x407009, 0x408101,
        0x408102, 0x408103, 0x408106, 0x502004, 0x502005, 0x502006, 0x502007, 0x502008, 0x502009, 0x611003, 0x619004, 0xB03004, 0xB04003],
        [(0x612000, 0x613000, 256), (0x620000, 0x624000, 256)]⟩
theorem kp_takeImage {κ ν : Nat} (hq : Quiet kw_takeImage κ ν) {s : State} (hs : Holds κ ν s) : Holds κ ν (takeImage s) := by
  unfold takeImage
  (try simp (maxDischargeDepth := 40) +contextual only [hs, hd_mk, hd_fold, hd_ite, ite_self, implies_true, kp_reinstate (hq.mono rfl),
        kp_restoreUnsaved (hq.mono rfl), ne_eq, not_false_eq_true])
  repeat' split
  all_goals first
    | (with_reducible exact hs)
    | (simp (maxDischargeDepth := 40) +contextual only [hs, hd_mk, hd_fold, hd_ite, ite_self, implies_true, kp_reinstate (hq.mono rfl),
        kp_restoreUnsaved (hq.mono rfl), ne_eq, not_false_eq_true]; done)

def kw_reportShutdown : Writes := ⟨[0x402003], []⟩
theorem kp_reportShutdown {κ ν : Nat} (hq : Quiet kw_reportShutdown κ ν) {s : State} (hs : Holds κ ν s) : Holds κ ν (reportShutdown s) := by
  unfold reportShutdown
  simp (maxDischargeDepth := 40) +contextual only [hs, hd_mk, hd_fold, hd_ite, ite_self, implies_true, hd_raise hq, kp_reportDirty (hq.mono
        rfl), ne_eq, not_false_eq_true]

def kw_fixPersistPoint : Writes := ⟨[0x301005, 0x301006, 0x301008, 0x301105, 0x301106, 0x301108, 0x302001, 0x302002, 0x302003, 0x302004,
        0x302005, 0x302006, 0x402001, 0x402002, 0x404105, 0x404106, 0x406009, 0x407008, 0x407009, 0x408101, 0x408102, 0x408103, 0x408106,
        0x502004, 0x502005, 0x502006, 0x502007, 0x502009, 0x508003, 0x508004, 0x508005, 0x508006, 0x611003, 0x613008, 0x613009, 0x61300A,
        0x619004, 0x700306, 0x70030A, 0xB03004, 0xB04003], [(0x612000, 0x613000, 256), (0x620000, 0x624000, 256)]⟩
theorem kp_fixPersistPoint {κ ν : Nat} (hq : Quiet kw_fixPersistPoint κ ν) {s : State} (hs : Holds κ ν s) : Holds κ ν (fixPersistPoint s) :=
        by
  have n0 : κ ≠ 0x402001 := hq.ne rfl
  unfold fixPersistPoint
  simp (maxDischargeDepth := 40) +contextual only [hs, hd_mk, hd_fold, hd_ite, ite_self, implies_true, n0, hd_put, kp_updateProtection
        (hq.mono rfl), ne_eq, not_false_eq_true]

def kw_endNine : Writes := ⟨[0x203009, 0x205003, 0x301005, 0x301006, 0x301008, 0x301105, 0x301106, 0x301108, 0x302001, 0x302002, 0x302003,
        0x302004, 0x302005, 0x302006, 0x402001, 0x402002, 0x404105, 0x404106, 0x406009, 0x407008, 0x407009, 0x408101, 0x408102, 0x408103,
        0x408106, 0x502004, 0x502005, 0x502006, 0x502007, 0x502009, 0x508003, 0x508004, 0x508005, 0x508006, 0x611003, 0x611007, 0x613008,
        0x613009, 0x61300A, 0x619004, 0x700306, 0x70030A, 0x900104, 0xA00106, 0xB03004, 0xB04003, 0xD00101, 0xD00102, 0xD02001, 0xD06001,
        0xD06002, 0xD06003, 0xD06004, 0xD06005, 0xD06006, 0xD06007], [(0x612000, 0x613000, 256), (0x620000, 0x624000, 256)]⟩
theorem kp_endNine {κ ν : Nat} (hq : Quiet kw_endNine κ ν) {s : State} (hs : Holds κ ν s) : Holds κ ν (endNine s) := by
  unfold endNine
  simp (maxDischargeDepth := 40) +contextual only [hs, hd_mk, hd_fold, hd_ite, ite_self, implies_true, kp_fixPersistPoint (hq.mono rfl),
        kp_programAll (hq.mono rfl), kp_startCurtain (hq.mono rfl), ne_eq, not_false_eq_true]

def kw_restoreNine : Writes := ⟨[0x203009, 0x205003, 0x301005, 0x301006, 0x301008, 0x301105, 0x301106, 0x301108, 0x302001, 0x302002,
        0x302003, 0x302004, 0x302005, 0x302006, 0x402001, 0x402002, 0x402003, 0x404105, 0x404106, 0x40410B, 0x406009, 0x407008, 0x407009,
        0x408101, 0x408102, 0x408103, 0x408106, 0x502004, 0x502005, 0x502006, 0x502007, 0x502008, 0x502009, 0x508003, 0x508004, 0x508005,
        0x508006, 0x611003, 0x611007, 0x613008, 0x613009, 0x61300A, 0x619004, 0x700306, 0x70030A, 0x900104, 0xA00106, 0xB03004, 0xB04003,
        0xD00101, 0xD00102, 0xD02001, 0xD06001, 0xD06002, 0xD06003, 0xD06004, 0xD06005, 0xD06006, 0xD06007], [(0x612000, 0x613000, 256),
        (0x620000, 0x624000, 256)]⟩
theorem kp_restoreNine {κ ν : Nat} (hq : Quiet kw_restoreNine κ ν) {s : State} (hs : Holds κ ν s) : Holds κ ν (restoreNine s) := by
  unfold restoreNine
  simp (maxDischargeDepth := 40) +contextual only [hs, hd_mk, hd_fold, hd_ite, ite_self, implies_true, kp_endNine (hq.mono rfl),
        kp_reportShutdown (hq.mono rfl), kp_takeImage (hq.mono rfl), ne_eq, not_false_eq_true]

def kw_restoreTen : Writes := ⟨[0x404101, 0x70030A], [(0x612000, 0x613000, 256)]⟩
theorem kp_restoreTen {κ ν : Nat} (hq : Quiet kw_restoreTen κ ν) {s : State} (hs : Holds κ ν s) : Holds κ ν (restoreTen s) := by
  have n0 : κ ≠ 0x404101 := hq.ne rfl
  unfold restoreTen
  simp (maxDischargeDepth := 40) +contextual only [hs, hd_mk, hd_fold, hd_ite, ite_self, implies_true, n0, hd_put, kp_pinRegion (hq.mono rfl),
        kp_rebuildSegment (hq.mono rfl), hd_foldl, ne_eq, not_false_eq_true]

def kw_restoreEleven : Writes := ⟨[0x301001, 0x301004, 0x301101, 0x301104, 0x404101, 0x404102], []⟩
theorem kp_restoreEleven {κ ν : Nat} (hq : Quiet kw_restoreEleven κ ν) {s : State} (hs : Holds κ ν s) : Holds κ ν (restoreEleven s) := by
  have n0 : κ ≠ 0x404101 := hq.ne rfl
  have n1 : κ ≠ 0x404102 := hq.ne rfl
  unfold restoreEleven
  (try simp (maxDischargeDepth := 40) +contextual only [hs, hd_mk, hd_fold, hd_ite, ite_self, implies_true, n0, n1, hd_put, kp_raiseReady
        (hq.mono rfl), kp_releasePins (hq.mono rfl), ne_eq, not_false_eq_true])
  repeat' split
  all_goals first
    | (with_reducible exact hs)
    | (simp (maxDischargeDepth := 40) +contextual only [hs, hd_mk, hd_fold, hd_ite, ite_self, implies_true, n0, n1, hd_put, kp_raiseReady (hq.mono
        rfl), kp_releasePins (hq.mono rfl), ne_eq, not_false_eq_true]; done)

def kw_endRestore : Writes := ⟨[0x301001, 0x301004, 0x301005, 0x301006, 0x301008, 0x301101, 0x301104, 0x301105, 0x301106, 0x301108,
        0x302001, 0x302002, 0x302003, 0x302004, 0x302005, 0x302006, 0x404101, 0x404103, 0x404105, 0x404106, 0x406009, 0x407008, 0x407009,
        0x408101, 0x408102, 0x408103, 0x408106, 0x502004, 0x502005, 0x502006, 0x502007, 0x502009, 0x508003, 0x508004, 0x508005, 0x508006,
        0x611003, 0x613008, 0x613009, 0x61300A, 0x619004, 0x700301, 0x700306, 0x70030A, 0xA00106, 0xB03004, 0xB04003, 0xC00104, 0xD00101,
        0xD00102], [(0x612000, 0x613000, 256), (0x620000, 0x624000, 256)]⟩
theorem kp_endRestore {κ ν : Nat} (hq : Quiet kw_endRestore κ ν) {s : State} (hs : Holds κ ν s) : Holds κ ν (endRestore s) := by
  have n0 : κ ≠ 0x404101 := hq.ne rfl
  have n1 : κ ≠ 0x404103 := hq.ne rfl
  have n2 : κ ≠ 0x700301 := hq.ne rfl
  unfold endRestore
  (try simp (maxDischargeDepth := 40) +contextual only [hs, hd_mk, hd_fold, hd_ite, ite_self, implies_true, n0, n1, n2, hd_put, kp_haltNow
        (hq.mono rfl), kp_releasePins (hq.mono rfl), kp_releaseScratch (hq.mono rfl), kp_setMode (hq.mono rfl), kp_silence (hq.mono rfl),
        ne_eq, not_false_eq_true])
  repeat' split
  all_goals first
    | (with_reducible exact hs)
    | (simp (maxDischargeDepth := 40) +contextual only [hs, hd_mk, hd_fold, hd_ite, ite_self, implies_true, n0, n1, n2, hd_put, kp_haltNow
        (hq.mono rfl), kp_releasePins (hq.mono rfl), kp_releaseScratch (hq.mono rfl), kp_setMode (hq.mono rfl), kp_silence (hq.mono rfl),
        ne_eq, not_false_eq_true]; done)

theorem kp_sendStep {κ ν : Nat} (hq : Quiet kw_none κ ν) (req : Req) (mailboxOp linkOp status : Nat) (value : List Byte) {s : State} (hs :
        Holds κ ν s) : Holds κ ν (sendStep req mailboxOp linkOp status value s) := by
  unfold sendStep
  simp (maxDischargeDepth := 40) +contextual only [hs, hd_mk, hd_fold, hd_ite, ite_self, implies_true, kp_emit (hq.mono rfl), ne_eq,
        not_false_eq_true]

def kw_noteFailure : Writes := ⟨[0x110004], []⟩
theorem kp_noteFailure {κ ν : Nat} (hq : Quiet kw_noteFailure κ ν) (path : Path) {s : State} (hs : Holds κ ν s) : Holds κ ν (noteFailure
        path s) := by
  have n0 : κ ≠ 0x110004 := hq.ne rfl
  unfold noteFailure
  simp (maxDischargeDepth := 40) +contextual only [hs, hd_mk, hd_fold, hd_ite, ite_self, implies_true, n0, hd_bump, hd_raise hq, ne_eq,
        not_false_eq_true]

theorem kp_reserveNumber {κ ν : Nat} (hq : Quiet kw_none κ ν) (req : Req) (level : Nat) (nonce : BitVec 128) {s : State} (hs : Holds κ ν s)
        : Holds κ ν (reserveNumber req level nonce s) := by
  unfold reserveNumber
  simp (maxDischargeDepth := 40) +contextual only [hs, hd_mk, hd_fold, hd_ite, ite_self, implies_true, kp_drawn (hq.mono rfl), kp_sendStep
        (hq.mono rfl), ne_eq, not_false_eq_true]

theorem kp_openStep {κ ν : Nat} (hq : Quiet kw_none κ ν) (req : Req) (level : Nat) (nonce : BitVec 128) {s : State} (hs : Holds κ ν s) :
        Holds κ ν (openStep req level nonce s) := by
  unfold openStep
  simp (maxDischargeDepth := 40) +contextual only [hs, hd_mk, hd_fold, hd_ite, ite_self, implies_true, hd_raise hq, kp_reserveNumber (hq.mono
        rfl), kp_sendStep (hq.mono rfl), ne_eq, not_false_eq_true]

def kw_responseStep : Writes := ⟨[0x110004], []⟩
theorem kp_responseStep {κ ν : Nat} (hq : Quiet kw_responseStep κ ν) (req : Req) (number : Nat) (proof : BitVec 256) {s : State} (hs : Holds
        κ ν s) : Holds κ ν (responseStep req number proof s) := by
  unfold responseStep
  (try simp (maxDischargeDepth := 40) +contextual only [hs, hd_mk, hd_fold, hd_ite, ite_self, implies_true, kp_noteFailure (hq.mono rfl),
        kp_sendStep (hq.mono rfl), ne_eq, not_false_eq_true])
  repeat' split
  all_goals first
    | (with_reducible exact hs)
    | (simp (maxDischargeDepth := 40) +contextual only [hs, hd_mk, hd_fold, hd_ite, ite_self, implies_true, kp_noteFailure (hq.mono rfl),
        kp_sendStep (hq.mono rfl), ne_eq, not_false_eq_true]; done)

theorem kp_refuseClose {κ ν : Nat} (hq : Quiet kw_none κ ν) (req : Req) (status : Nat) {s : State} (hs : Holds κ ν s) : Holds κ ν
        (refuseClose req status s) := by
  unfold refuseClose
  simp (maxDischargeDepth := 40) +contextual only [hs, hd_mk, hd_fold, hd_ite, ite_self, implies_true, kp_emit (hq.mono rfl), ne_eq,
        not_false_eq_true]

theorem kp_closeNow {κ ν : Nat} (hq : Quiet kw_none κ ν) (req : Req) {s : State} (hs : Holds κ ν s) : Holds κ ν (closeNow req s) := by
  unfold closeNow
  simp (maxDischargeDepth := 40) +contextual only [hs, hd_mk, hd_fold, hd_ite, ite_self, implies_true, kp_emit (hq.mono rfl), kp_endSessions
        (hq.mono rfl), ne_eq, not_false_eq_true]

def kw_activationEnds : Writes := ⟨[0xD06001, 0xD06002, 0xD06003, 0xD06004, 0xD06005, 0xD06006, 0xD06007], []⟩
theorem kp_activationEnds {κ ν : Nat} (hq : Quiet kw_activationEnds κ ν) {s : State} (hs : Holds κ ν s) : Holds κ ν (activationEnds s) := by
  unfold activationEnds
  (try simp (maxDischargeDepth := 40) +contextual only [hs, hd_mk, hd_fold, hd_ite, ite_self, implies_true, kp_finishActivation (hq.mono rfl),
        ne_eq, not_false_eq_true])
  repeat' split
  all_goals first
    | (with_reducible exact hs)
    | (simp (maxDischargeDepth := 40) +contextual only [hs, hd_mk, hd_fold, hd_ite, ite_self, implies_true, kp_finishActivation (hq.mono rfl),
        ne_eq, not_false_eq_true]; done)

end Sys2Proof.Machine
end

