-- ==== Sys2Proof/Laws/QuietMeanings.lean ====
section
/-! SUPPORT. The same of the meanings: which entries of the register file a command may write. -/

namespace Sys2Proof.Machine

set_option linter.unusedVariables false
set_option linter.unusedSimpArgs false
set_option linter.unusedTactic false
set_option linter.unreachableTactic false

theorem kp_execFoldStart {κ ν : Nat} (hq : Quiet kw_none κ ν) {s : State} (hs : Holds κ ν s) : NextIs (Holds κ ν) (execFoldStart s) := by
  unfold execFoldStart
  simp (maxDischargeDepth := 40) +contextual only [hs, hd_mk, hd_fold, hd_ite, ite_self, implies_true, nextIs_next, nextIs_ite, nextIs_fault,
        ne_eq, not_false_eq_true]

theorem kp_execFoldStop {κ ν : Nat} (hq : Quiet kw_none κ ν) {s : State} (hs : Holds κ ν s) : NextIs (Holds κ ν) (execFoldStop s) := by
  unfold execFoldStop
  simp (maxDischargeDepth := 40) +contextual only [hs, hd_mk, hd_fold, hd_ite, ite_self, implies_true, nextIs_next, nextIs_ite, nextIs_fault,
        ne_eq, not_false_eq_true]

def kw_execFoldStripePageDispatch : Writes := ⟨[0x404105, 0x611003, 0x619004], [(0x612000, 0x613000, 256), (0x620000, 0x624000, 256)]⟩
theorem kp_execFoldStripePageDispatch {κ ν : Nat} (hq : Quiet kw_execFoldStripePageDispatch κ ν) {s : State} (hs : Holds κ ν s) : NextIs
        (Holds κ ν) (execFoldStripePageDispatch s) := by
  unfold execFoldStripePageDispatch
  simp (maxDischargeDepth := 40) +contextual only [hs, hd_mk, hd_fold, hd_ite, ite_self, implies_true, kp_dispatchFold (hq.mono rfl),
        nextIs_next, nextIs_ite, nextIs_fault, ne_eq, not_false_eq_true]

def kw_execFoldMapSet : Writes := ⟨[0x611003, 0x613007, 0x613009, 0x61300A, 0x614007, 0x619004], [(0x612000, 0x613000, 256), (0x620000,
        0x624000, 256)]⟩
theorem kp_execFoldMapSet {κ ν : Nat} (hq : Quiet kw_execFoldMapSet κ ν) (id : Nat) {s : State} (hs : Holds κ ν s) : NextIs (Holds κ ν)
        (execFoldMapSet id s) := by
  have n0 : κ ≠ 0x613007 := hq.ne rfl
  unfold execFoldMapSet
  (try simp (maxDischargeDepth := 40) +contextual only [hs, hd_mk, hd_fold, hd_ite, ite_self, implies_true, n0, hd_addTo, kp_applyPage
        (hq.mono rfl), hd_count hq, nextIs_next, nextIs_ite, nextIs_fault, ne_eq, not_false_eq_true])
  repeat' split
  all_goals first
    | (with_reducible exact hs)
    | (simp (maxDischargeDepth := 40) +contextual only [hs, hd_mk, hd_fold, hd_ite, ite_self, implies_true, n0, hd_addTo, kp_applyPage (hq.mono
        rfl), hd_count hq, nextIs_next, nextIs_ite, nextIs_fault, ne_eq, not_false_eq_true]; done)

def kw_execSegmentFold : Writes := ⟨[0x404105, 0x611003, 0x613009, 0x61300A, 0x614007, 0x615007, 0x619004], [(0x612000, 0x613000, 256),
        (0x620000, 0x624000, 256)]⟩
theorem kp_execSegmentFold {κ ν : Nat} (hq : Quiet kw_execSegmentFold κ ν) (segment : Nat) {s : State} (hs : Holds κ ν s) : NextIs (Holds κ
        ν) (execSegmentFold segment s) := by
  unfold execSegmentFold
  simp (maxDischargeDepth := 40) +contextual only [hs, hd_mk, hd_fold, hd_ite, ite_self, implies_true, kp_startRebuild (hq.mono rfl),
        kp_writeMoves (hq.mono rfl), nextIs_next, nextIs_ite, nextIs_fault, ne_eq, not_false_eq_true]

def kw_execLogTrim : Writes := ⟨[0x611003, 0x613009, 0x61300A, 0x619004], [(0x612000, 0x613000, 256), (0x620000, 0x624000, 256)]⟩
theorem kp_execLogTrim {κ ν : Nat} (hq : Quiet kw_execLogTrim κ ν) {s : State} (hs : Holds κ ν s) : NextIs (Holds κ ν) (execLogTrim s) := by
  unfold execLogTrim
  simp (maxDischargeDepth := 40) +contextual only [hs, hd_mk, hd_fold, hd_ite, ite_self, implies_true, kp_checkLogFull (hq.mono rfl),
        kp_journalPut (hq.mono rfl), kp_programTail (hq.mono rfl), nextIs_next, nextIs_ite, nextIs_fault, ne_eq, not_false_eq_true]

theorem kp_execLogRelocation {κ ν : Nat} (hq : Quiet kw_none κ ν) (line : Nat) {s : State} (hs : Holds κ ν s) : NextIs (Holds κ ν)
        (execLogRelocation line s) := by
  unfold execLogRelocation
  (try simp (maxDischargeDepth := 40) +contextual only [hs, hd_mk, hd_fold, hd_ite, ite_self, implies_true, nextIs_next, nextIs_ite,
        nextIs_fault, ne_eq, not_false_eq_true])
  repeat' split
  all_goals first
    | (with_reducible exact hs)
    | (simp (maxDischargeDepth := 40) +contextual only [hs, hd_mk, hd_fold, hd_ite, ite_self, implies_true, nextIs_next, nextIs_ite, nextIs_fault,
        ne_eq, not_false_eq_true]; done)

def kw_execCollection : Writes := ⟨[0x404105, 0x611003, 0x613009, 0x61300A, 0x614006, 0x614007, 0x615007, 0x619004], [(0x612000, 0x613000,
        256), (0x620000, 0x624000, 256)]⟩
theorem kp_execCollection {κ ν : Nat} (hq : Quiet kw_execCollection κ ν) {s : State} (hs : Holds κ ν s) : NextIs (Holds κ ν) (execCollection
        s) := by
  unfold execCollection
  (try simp (maxDischargeDepth := 40) +contextual only [hs, hd_mk, hd_fold, hd_ite, ite_self, implies_true, kp_collect (hq.mono rfl),
        kp_rebuildStep (hq.mono rfl), kp_relieveRing (hq.mono rfl), nextIs_next, nextIs_ite, nextIs_fault, ne_eq, not_false_eq_true])
  repeat' split
  all_goals first
    | (with_reducible exact hs)
    | (simp (maxDischargeDepth := 40) +contextual only [hs, hd_mk, hd_fold, hd_ite, ite_self, implies_true, kp_collect (hq.mono rfl),
        kp_rebuildStep (hq.mono rfl), kp_relieveRing (hq.mono rfl), nextIs_next, nextIs_ite, nextIs_fault, ne_eq, not_false_eq_true]; done)

theorem kp_execCollectionCritical {κ ν : Nat} (hq : Quiet kw_none κ ν) {s : State} (hs : Holds κ ν s) : NextIs (Holds κ ν)
        (execCollectionCritical s) := by
  unfold execCollectionCritical
  simp (maxDischargeDepth := 40) +contextual only [hs, hd_mk, hd_fold, hd_ite, ite_self, implies_true, kp_noteHealth (hq.mono rfl), hd_raise
        hq, nextIs_next, nextIs_ite, nextIs_fault, ne_eq, not_false_eq_true]

def kw_execDestinationProgramFailure : Writes := ⟨[0x611003, 0x613009, 0x61300A, 0x614007, 0x614008, 0x615007, 0x619004], [(0x612000,
        0x613000, 256), (0x620000, 0x624000, 256)]⟩
theorem kp_execDestinationProgramFailure {κ ν : Nat} (hq : Quiet kw_execDestinationProgramFailure κ ν) (stripe : Fin 65536) (channel : Fin
        16) {s : State} (hs : Holds κ ν s) : NextIs (Holds κ ν) (execDestinationProgramFailure stripe channel s) := by
  have n0 : κ ≠ 0x614008 := hq.ne rfl
  unfold execDestinationProgramFailure
  simp (maxDischargeDepth := 40) +contextual only [hs, hd_mk, hd_fold, hd_ite, ite_self, implies_true, n0, hd_bump, kp_setStripe (hq.mono
        rfl), kp_lastingFault (hq.mono rfl), hd_raise hq, kp_redirect (hq.mono rfl), kp_writeMoves (hq.mono rfl), hd_foldl, nextIs_next,
        nextIs_ite, nextIs_fault, ne_eq, not_false_eq_true]

def kw_execSourceSectorFailure : Writes := ⟨[0x301001, 0x301004, 0x301005, 0x301006, 0x301008, 0x301101, 0x301104, 0x301105, 0x301106,
        0x301108, 0x302001, 0x302002, 0x302003, 0x302004, 0x302005, 0x302006, 0x404105, 0x404106, 0x406009, 0x407008, 0x407009, 0x408101,
        0x408102, 0x408103, 0x408106, 0x502004, 0x502005, 0x502006, 0x502007, 0x502009, 0x508003, 0x508004, 0x508005, 0x508006, 0x611003,
        0x613008, 0x613009, 0x61300A, 0x614009, 0x619004, 0x700301, 0x700302, 0x700303, 0x700304, 0x700305, 0x700306, 0x70030A, 0x800101,
        0x800102, 0x800103, 0x800104, 0x800105, 0x800106, 0x801002, 0xA00106, 0xB03004, 0xB04003, 0xC00104, 0xD00101, 0xD00102], [(0x612000,
        0x613000, 256), (0x620000, 0x624000, 256)]⟩
theorem kp_execSourceSectorFailure {κ ν : Nat} (hq : Quiet kw_execSourceSectorFailure κ ν) (unit page sector : Nat) (recovered : Bool) {s :
        State} (hs : Holds κ ν s) : NextIs (Holds κ ν) (execSourceSectorFailure unit page sector recovered s) := by
  unfold execSourceSectorFailure
  simp (maxDischargeDepth := 40) +contextual only [hs, hd_mk, hd_fold, hd_ite, ite_self, implies_true, kp_recoverSector (hq.mono rfl),
        nextIs_next, nextIs_ite, nextIs_fault, ne_eq, not_false_eq_true]

def kw_execWearLevellingMove : Writes := ⟨[0x404105, 0x611003, 0x613009, 0x61300A, 0x614006, 0x614007, 0x615007, 0x615009, 0x619004],
        [(0x612000, 0x613000, 256), (0x620000, 0x624000, 256)]⟩
theorem kp_execWearLevellingMove {κ ν : Nat} (hq : Quiet kw_execWearLevellingMove κ ν) {s : State} (hs : Holds κ ν s) : NextIs (Holds κ ν)
        (execWearLevellingMove s) := by
  have n0 : κ ≠ 0x615009 := hq.ne rfl
  unfold execWearLevellingMove
  (try simp (maxDischargeDepth := 40) +contextual only [hs, hd_mk, hd_fold, hd_ite, ite_self, implies_true, n0, hd_bump, kp_collect (hq.mono
        rfl), kp_wornDest (hq.mono rfl), nextIs_next, nextIs_ite, nextIs_fault, ne_eq, not_false_eq_true])
  repeat' split
  all_goals first
    | (with_reducible exact hs)
    | (simp (maxDischargeDepth := 40) +contextual only [hs, hd_mk, hd_fold, hd_ite, ite_self, implies_true, n0, hd_bump, kp_collect (hq.mono rfl),
        kp_wornDest (hq.mono rfl), nextIs_next, nextIs_ite, nextIs_fault, ne_eq, not_false_eq_true]; done)

def kw_execRoleRotation : Writes := ⟨[0x611003, 0x61500A, 0x619004], [(0x612000, 0x613000, 256), (0x620000, 0x624000, 256)]⟩
theorem kp_execRoleRotation {κ ν : Nat} (hq : Quiet kw_execRoleRotation κ ν) (ring : Ring) (index : Nat) {s : State} (hs : Holds κ ν s) :
        NextIs (Holds κ ν) (execRoleRotation ring index s) := by
  have n0 : κ ≠ 0x61500A := hq.ne rfl
  unfold execRoleRotation
  (try simp (maxDischargeDepth := 40) +contextual only [hs, hd_mk, hd_fold, hd_ite, ite_self, implies_true, n0, hd_bump, kp_moveRing (hq.mono
        rfl), hd_raise hq, nextIs_next, nextIs_ite, nextIs_fault, ne_eq, not_false_eq_true])
  repeat' split
  all_goals first
    | (with_reducible exact hs)
    | (simp (maxDischargeDepth := 40) +contextual only [hs, hd_mk, hd_fold, hd_ite, ite_self, implies_true, n0, hd_bump, kp_moveRing (hq.mono
        rfl), hd_raise hq, nextIs_next, nextIs_ite, nextIs_fault, ne_eq, not_false_eq_true]; done)

theorem kp_execHourlyTrickle {κ ν : Nat} (hq : Quiet kw_none κ ν) {s : State} (hs : Holds κ ν s) : NextIs (Holds κ ν) (execHourlyTrickle s)
        := by
  unfold execHourlyTrickle
  simp (maxDischargeDepth := 40) +contextual only [hs, hd_mk, hd_fold, hd_ite, ite_self, implies_true, kp_saveCounts (hq.mono rfl),
        nextIs_next, nextIs_ite, nextIs_fault, ne_eq, not_false_eq_true]

def kw_execFullLineWrite : Writes := ⟨[0x301008, 0x301108, 0x302001, 0x302002, 0x302003, 0x302004, 0x302005, 0x302006, 0x404105, 0x404106,
        0x406007, 0x406009, 0x407008, 0x407009, 0x408101, 0x408102, 0x408103, 0x408106, 0x502004, 0x502005, 0x502006, 0x502007, 0x502009,
        0x508003, 0x508004, 0x508005, 0x508006, 0x611003, 0x615006, 0x619004, 0xB03004, 0xB03005, 0xB04003], [(0x612000, 0x613000, 256),
        (0x620000, 0x624000, 256)]⟩
theorem kp_execFullLineWrite {κ ν : Nat} (hq : Quiet kw_execFullLineWrite κ ν) (p : Port) (tag line : Nat) (data : Line) {s : State} (hs :
        Holds κ ν s) : NextIs (Holds κ ν) (execFullLineWrite p tag line data s) := by
  unfold execFullLineWrite
  simp (maxDischargeDepth := 40) +contextual only [hs, hd_mk, hd_fold, hd_ite, ite_self, implies_true, kp_acceptWhole (hq.mono rfl),
        kp_windowWrite (hq.mono rfl), nextIs_next, nextIs_ite, nextIs_fault, ne_eq, not_false_eq_true]

def kw_execPartialWrite : Writes := ⟨[0x301008, 0x301108, 0x302001, 0x302002, 0x302003, 0x302004, 0x302005, 0x302006, 0x404105, 0x404106,
        0x406005, 0x406007, 0x406009, 0x407008, 0x407009, 0x408101, 0x408102, 0x408103, 0x408106, 0x502004, 0x502005, 0x502006, 0x502007,
        0x502009, 0x508003, 0x508004, 0x508005, 0x508006, 0x611003, 0x615006, 0x619004, 0xB03004, 0xB03005, 0xB04003], [(0x612000, 0x613000,
        256), (0x620000, 0x624000, 256)]⟩
theorem kp_execPartialWrite {κ ν : Nat} (hq : Quiet kw_execPartialWrite κ ν) (p : Port) (tag line : Nat) (be : ByteEnables) (data : Line) {s
        : State} (hs : Holds κ ν s) : NextIs (Holds κ ν) (execPartialWrite p tag line be data s) := by
  unfold execPartialWrite
  simp (maxDischargeDepth := 40) +contextual only [hs, hd_mk, hd_fold, hd_ite, ite_self, implies_true, kp_acceptPartial (hq.mono rfl),
        kp_acceptWhole (hq.mono rfl), kp_windowWrite (hq.mono rfl), nextIs_next, nextIs_ite, nextIs_fault, ne_eq, not_false_eq_true]

def kw_execPoisonedWrite : Writes := ⟨[0x301008, 0x301108, 0x302001, 0x302002, 0x302003, 0x302004, 0x302005, 0x302006, 0x404105, 0x404106,
        0x406007, 0x406009, 0x407008, 0x407009, 0x408101, 0x408102, 0x408103, 0x408106, 0x502004, 0x502005, 0x502006, 0x502007, 0x502009,
        0x508003, 0x508004, 0x508005, 0x508006, 0x611003, 0x615006, 0x619004, 0xB03004, 0xB03005, 0xB04003], [(0x612000, 0x613000, 256),
        (0x620000, 0x624000, 256)]⟩
theorem kp_execPoisonedWrite {κ ν : Nat} (hq : Quiet kw_execPoisonedWrite κ ν) (p : Port) (tag line : Nat) {s : State} (hs : Holds κ ν s) :
        NextIs (Holds κ ν) (execPoisonedWrite p tag line s) := by
  unfold execPoisonedWrite
  simp (maxDischargeDepth := 40) +contextual only [hs, hd_mk, hd_fold, hd_ite, ite_self, implies_true, kp_acceptWhole (hq.mono rfl),
        kp_windowWrite (hq.mono rfl), nextIs_next, nextIs_ite, nextIs_fault, ne_eq, not_false_eq_true]

def kw_execMergePlacement : Writes := ⟨[0x301001, 0x301002, 0x301003, 0x301008, 0x301101, 0x301102, 0x301103, 0x301108, 0x302001, 0x302002,
        0x302003, 0x302004, 0x302005, 0x302006, 0x404105, 0x404106, 0x406005, 0x406009, 0x407008, 0x407009, 0x408101, 0x408102, 0x408103,
        0x408106, 0x502004, 0x502005, 0x502006, 0x502007, 0x502009, 0x508003, 0x508004, 0x508005, 0x508006, 0x611003, 0x619004, 0xB03004,
        0xB04003], [(0x612000, 0x613000, 256), (0x620000, 0x624000, 256)]⟩
theorem kp_execMergePlacement {κ ν : Nat} (hq : Quiet kw_execMergePlacement κ ν) (p : Port) (tag : Nat) {s : State} (hs : Holds κ ν s) :
        NextIs (Holds κ ν) (execMergePlacement p tag s) := by
  unfold execMergePlacement
  (try simp (maxDischargeDepth := 40) +contextual only [hs, hd_mk, hd_fold, hd_ite, ite_self, implies_true, kp_goOn (hq.mono rfl),
        kp_mergeWaits (hq.mono rfl), kp_transfer (hq.mono rfl), nextIs_next, nextIs_ite, nextIs_fault, ne_eq, not_false_eq_true])
  repeat' split
  all_goals first
    | (with_reducible exact hs)
    | (simp (maxDischargeDepth := 40) +contextual only [hs, hd_mk, hd_fold, hd_ite, ite_self, implies_true, kp_goOn (hq.mono rfl), kp_mergeWaits
        (hq.mono rfl), kp_transfer (hq.mono rfl), nextIs_next, nextIs_ite, nextIs_fault, ne_eq, not_false_eq_true]; done)

def kw_execGlobalVisibilityTransfer : Writes := ⟨[0x301001, 0x301002, 0x301003, 0x301008, 0x301101, 0x301102, 0x301103, 0x301108, 0x302001,
        0x302002, 0x302003, 0x302004, 0x302005, 0x302006, 0x404105, 0x404106, 0x406004, 0x406006, 0x406009, 0x407008, 0x407009, 0x408101,
        0x408102, 0x408103, 0x408106, 0x502004, 0x502005, 0x502006, 0x502007, 0x502009, 0x508003, 0x508004, 0x508005, 0x508006, 0x611003,
        0x619004, 0xB03004, 0xB04003], [(0x612000, 0x613000, 256), (0x620000, 0x624000, 256)]⟩
theorem kp_execGlobalVisibilityTransfer {κ ν : Nat} (hq : Quiet kw_execGlobalVisibilityTransfer κ ν) (p : Port) {s : State} (hs : Holds κ ν
        s) : NextIs (Holds κ ν) (execGlobalVisibilityTransfer p s) := by
  unfold execGlobalVisibilityTransfer
  (try simp (maxDischargeDepth := 40) +contextual only [hs, hd_mk, hd_fold, hd_ite, ite_self, implies_true, kp_endStall (hq.mono rfl), kp_goOn
        (hq.mono rfl), kp_rearmStall (hq.mono rfl), kp_stallDrain (hq.mono rfl), kp_transfer (hq.mono rfl), nextIs_next, nextIs_ite,
        nextIs_fault, ne_eq, not_false_eq_true])
  repeat' split
  all_goals first
    | (with_reducible exact hs)
    | (simp (maxDischargeDepth := 40) +contextual only [hs, hd_mk, hd_fold, hd_ite, ite_self, implies_true, kp_endStall (hq.mono rfl), kp_goOn
        (hq.mono rfl), kp_rearmStall (hq.mono rfl), kp_stallDrain (hq.mono rfl), kp_transfer (hq.mono rfl), nextIs_next, nextIs_ite,
        nextIs_fault, ne_eq, not_false_eq_true]; done)

def kw_execMemRd : Writes := ⟨[0x301008, 0x301108, 0x302001, 0x302002, 0x302003, 0x302004, 0x302005, 0x302006, 0x404105, 0x404106, 0x406009,
        0x407001, 0x407002, 0x407003, 0x407004, 0x407005, 0x407006, 0x407008, 0x407009, 0x408101, 0x408102, 0x408103, 0x408106, 0x502004,
        0x502005, 0x502006, 0x502007, 0x502009, 0x508003, 0x508004, 0x508005, 0x508006, 0x611003, 0x619004, 0xB03004, 0xB03005, 0xB04003],
        [(0x612000, 0x613000, 256), (0x620000, 0x624000, 256)]⟩
theorem kp_execMemRd {κ ν : Nat} (hq : Quiet kw_execMemRd κ ν) (p : Port) (tag line : Nat) {s : State} (hs : Holds κ ν s) : NextIs (Holds κ
        ν) (execMemRd p tag line s) := by
  unfold execMemRd
  simp (maxDischargeDepth := 40) +contextual only [hs, hd_mk, hd_fold, hd_ite, ite_self, implies_true, kp_acceptRead (hq.mono rfl),
        kp_windowRead (hq.mono rfl), nextIs_next, nextIs_ite, nextIs_fault, ne_eq, not_false_eq_true]

def kw_execMediumSectorReadDone : Writes := ⟨[0x407005, 0x407006, 0x407007, 0x407008, 0x40700B, 0x408102, 0x408103, 0x70030A, 0x800101,
        0x800102, 0x800103, 0x800104, 0x800105, 0x800106, 0x801002, 0xB03004, 0xB04003], [(0x612000, 0x613000, 256)]⟩
theorem kp_execMediumSectorReadDone {κ ν : Nat} (hq : Quiet kw_execMediumSectorReadDone κ ν) (rid : Nat) (bch : Bool) (tags : BitVec 4) {s :
        State} (hs : Holds κ ν s) : NextIs (Holds κ ν) (execMediumSectorReadDone rid bch tags s) := by
  unfold execMediumSectorReadDone
  (try simp (maxDischargeDepth := 40) +contextual only [hs, hd_mk, hd_fold, hd_ite, ite_self, implies_true, kp_sectorDone (hq.mono rfl),
        kp_tagDone (hq.mono rfl), nextIs_next, nextIs_ite, nextIs_fault, ne_eq, not_false_eq_true])
  repeat' split
  all_goals first
    | (with_reducible exact hs)
    | (simp (maxDischargeDepth := 40) +contextual only [hs, hd_mk, hd_fold, hd_ite, ite_self, implies_true, kp_sectorDone (hq.mono rfl),
        kp_tagDone (hq.mono rfl), nextIs_next, nextIs_ite, nextIs_fault, ne_eq, not_false_eq_true]; done)

theorem kp_execPatienceExpiry {κ ν : Nat} (hq : Quiet kw_none κ ν) (rid : Nat) {s : State} (hs : Holds κ ν s) : NextIs (Holds κ ν)
        (execPatienceExpiry rid s) := by
  unfold execPatienceExpiry
  (try simp (maxDischargeDepth := 40) +contextual only [hs, hd_mk, hd_fold, hd_ite, ite_self, implies_true, kp_modRead (hq.mono rfl),
        nextIs_next, nextIs_ite, nextIs_fault, ne_eq, not_false_eq_true])
  repeat' split
  all_goals first
    | (with_reducible exact hs)
    | (simp (maxDischargeDepth := 40) +contextual only [hs, hd_mk, hd_fold, hd_ite, ite_self, implies_true, kp_modRead (hq.mono rfl), nextIs_next,
        nextIs_ite, nextIs_fault, ne_eq, not_false_eq_true]; done)

def kw_execSuspension : Writes := ⟨[0x408104, 0x408105, 0x408106], []⟩
theorem kp_execSuspension {κ ν : Nat} (hq : Quiet kw_execSuspension κ ν) (region : Fin 256) {s : State} (hs : Holds κ ν s) : NextIs (Holds κ
        ν) (execSuspension region s) := by
  have n0 : κ ≠ 0x408104 := hq.ne rfl
  unfold execSuspension
  (try simp (maxDischargeDepth := 40) +contextual only [hs, hd_mk, hd_fold, hd_ite, ite_self, implies_true, n0, hd_addTo, hd_count hq,
        kp_holdOps (hq.mono rfl), kp_modOps (hq.mono rfl), kp_modRead (hq.mono rfl), nextIs_next, nextIs_ite, nextIs_fault, ne_eq,
        not_false_eq_true])
  repeat' split
  all_goals first
    | (with_reducible exact hs)
    | (simp (maxDischargeDepth := 40) +contextual only [hs, hd_mk, hd_fold, hd_ite, ite_self, implies_true, n0, hd_addTo, hd_count hq, kp_holdOps
        (hq.mono rfl), kp_modOps (hq.mono rfl), kp_modRead (hq.mono rfl), nextIs_next, nextIs_ite, nextIs_fault, ne_eq, not_false_eq_true];
        done)

def kw_execSuspendOverrun : Writes := ⟨[0x408106, 0x408108], []⟩
theorem kp_execSuspendOverrun {κ ν : Nat} (hq : Quiet kw_execSuspendOverrun κ ν) (region : Fin 256) {s : State} (hs : Holds κ ν s) : NextIs
        (Holds κ ν) (execSuspendOverrun region s) := by
  have n0 : κ ≠ 0x408108 := hq.ne rfl
  unfold execSuspendOverrun
  simp (maxDischargeDepth := 40) +contextual only [hs, hd_mk, hd_fold, hd_ite, ite_self, implies_true, n0, hd_bump, kp_modOps (hq.mono rfl),
        hd_raise hq, kp_reconstructWaiting (hq.mono rfl), nextIs_next, nextIs_ite, nextIs_fault, ne_eq, not_false_eq_true]

theorem kp_execResume {κ ν : Nat} (hq : Quiet kw_none κ ν) (region : Fin 256) {s : State} (hs : Holds κ ν s) : NextIs (Holds κ ν)
        (execResume region s) := by
  unfold execResume
  simp (maxDischargeDepth := 40) +contextual only [hs, hd_mk, hd_fold, hd_ite, ite_self, implies_true, kp_modOps (hq.mono rfl), nextIs_next,
        nextIs_ite, nextIs_fault, ne_eq, not_false_eq_true]

def kw_execPortResponseDeadline : Writes := ⟨[0x407007, 0x407008, 0x408102, 0x408103, 0x408107, 0xB03004, 0xB04003], []⟩
theorem kp_execPortResponseDeadline {κ ν : Nat} (hq : Quiet kw_execPortResponseDeadline κ ν) (rid : Nat) {s : State} (hs : Holds κ ν s) :
        NextIs (Holds κ ν) (execPortResponseDeadline rid s) := by
  have n0 : κ ≠ 0x408107 := hq.ne rfl
  unfold execPortResponseDeadline
  (try simp (maxDischargeDepth := 40) +contextual only [hs, hd_mk, hd_fold, hd_ite, ite_self, implies_true, n0, hd_bump, hd_count1 hq,
        kp_modRead (hq.mono rfl), kp_prefetch (hq.mono rfl), kp_promptDone (hq.mono rfl), kp_sampleRead (hq.mono rfl), kp_sendData (hq.mono
        rfl), hd_takeStamp hq, nextIs_next, nextIs_ite, nextIs_fault, ne_eq, not_false_eq_true])
  repeat' split
  all_goals first
    | (with_reducible exact hs)
    | (simp (maxDischargeDepth := 40) +contextual only [hs, hd_mk, hd_fold, hd_ite, ite_self, implies_true, n0, hd_bump, hd_count1 hq, kp_modRead
        (hq.mono rfl), kp_prefetch (hq.mono rfl), kp_promptDone (hq.mono rfl), kp_sampleRead (hq.mono rfl), kp_sendData (hq.mono rfl),
        hd_takeStamp hq, nextIs_next, nextIs_ite, nextIs_fault, ne_eq, not_false_eq_true]; done)

def kw_execMediaRetryEnd : Writes := ⟨[0x301001, 0x301004, 0x301005, 0x301006, 0x301008, 0x301101, 0x301104, 0x301105, 0x301106, 0x301108,
        0x302001, 0x302002, 0x302003, 0x302004, 0x302005, 0x302006, 0x404105, 0x404106, 0x406009, 0x407005, 0x407006, 0x407007, 0x407008,
        0x407009, 0x408101, 0x408102, 0x408103, 0x408106, 0x502004, 0x502005, 0x502006, 0x502007, 0x502009, 0x508003, 0x508004, 0x508005,
        0x508006, 0x611003, 0x613008, 0x613009, 0x61300A, 0x619004, 0x700301, 0x700302, 0x700303, 0x700304, 0x700305, 0x700306, 0x700307,
        0x70030A, 0xA00106, 0xB03004, 0xB04003, 0xC00104, 0xD00101, 0xD00102], [(0x612000, 0x613000, 256), (0x620000, 0x624000, 256)]⟩
theorem kp_execMediaRetryEnd {κ ν : Nat} (hq : Quiet kw_execMediaRetryEnd κ ν) (rid : Nat) (senses : RetrySenses) {s : State} (hs : Holds κ
        ν s) : NextIs (Holds κ ν) (execMediaRetryEnd rid senses s) := by
  have n0 : κ ≠ 0x700307 := hq.ne rfl
  unfold execMediaRetryEnd
  (try simp (maxDischargeDepth := 40) +contextual only [hs, hd_mk, hd_fold, hd_ite, ite_self, implies_true, n0, hd_bump, kp_cacheTag (hq.mono
        rfl), kp_failRead (hq.mono rfl), kp_installLine (hq.mono rfl), kp_noteRung (hq.mono rfl), kp_prefetch (hq.mono rfl), hd_raise hq,
        kp_relocate (hq.mono rfl), kp_reportDeadline (hq.mono rfl), kp_respond (hq.mono rfl), kp_senseBelow (hq.mono rfl), hd_foldl,
        nextIs_next, nextIs_ite, nextIs_fault, ne_eq, not_false_eq_true])
  repeat' split
  all_goals first
    | (with_reducible exact hs)
    | (simp (maxDischargeDepth := 40) +contextual only [hs, hd_mk, hd_fold, hd_ite, ite_self, implies_true, n0, hd_bump, kp_cacheTag (hq.mono
        rfl), kp_failRead (hq.mono rfl), kp_installLine (hq.mono rfl), kp_noteRung (hq.mono rfl), kp_prefetch (hq.mono rfl), hd_raise hq,
        kp_relocate (hq.mono rfl), kp_reportDeadline (hq.mono rfl), kp_respond (hq.mono rfl), kp_senseBelow (hq.mono rfl), hd_foldl,
        nextIs_next, nextIs_ite, nextIs_fault, ne_eq, not_false_eq_true]; done)

def kw_execFailedCheck : Writes := ⟨[0x301001, 0x301004, 0x301005, 0x301006, 0x301008, 0x301101, 0x301104, 0x301105, 0x301106, 0x301108,
        0x302001, 0x302002, 0x302003, 0x302004, 0x302005, 0x302006, 0x404105, 0x404106, 0x406009, 0x407008, 0x407009, 0x408101, 0x408102,
        0x408103, 0x408106, 0x502004, 0x502005, 0x502006, 0x502007, 0x502009, 0x508003, 0x508004, 0x508005, 0x508006, 0x611003, 0x613008,
        0x613009, 0x61300A, 0x619004, 0x700301, 0x700302, 0x700303, 0x700304, 0x700305, 0x700306, 0x70030A, 0xA00106, 0xB03004, 0xB04003,
        0xC00104, 0xD00101, 0xD00102], [(0x612000, 0x613000, 256), (0x620000, 0x624000, 256)]⟩
theorem kp_execFailedCheck {κ ν : Nat} (hq : Quiet kw_execFailedCheck κ ν) (obj : FailedObject) {s : State} (hs : Holds κ ν s) : NextIs
        (Holds κ ν) (execFailedCheck obj s) := by
  unfold execFailedCheck
  simp (maxDischargeDepth := 40) +contextual only [hs, hd_mk, hd_fold, hd_ite, ite_self, implies_true, kp_failCheck (hq.mono rfl),
        nextIs_next, nextIs_ite, nextIs_fault, ne_eq, not_false_eq_true]

def kw_execBarrierWordRead : Writes := ⟨[0x301008, 0x301108, 0x302001, 0x302002, 0x302003, 0x302004, 0x302005, 0x302006, 0x404105, 0x404106,
        0x406009, 0x407008, 0x407009, 0x408101, 0x408102, 0x408103, 0x408106, 0x502004, 0x502005, 0x502006, 0x502007, 0x502009, 0x508003,
        0x508004, 0x508005, 0x508006, 0x611003, 0x619004, 0xB03004, 0xB03005, 0xB04003], [(0x612000, 0x613000, 256), (0x620000, 0x624000,
        256)]⟩
theorem kp_execBarrierWordRead {κ ν : Nat} (hq : Quiet kw_execBarrierWordRead κ ν) (p : Port) (tag : Nat) {s : State} (hs : Holds κ ν s) :
        NextIs (Holds κ ν) (execBarrierWordRead p tag s) := by
  unfold execBarrierWordRead
  simp (maxDischargeDepth := 40) +contextual only [hs, hd_mk, hd_fold, hd_ite, ite_self, implies_true, kp_windowRead (hq.mono rfl),
        nextIs_next, nextIs_ite, nextIs_fault, ne_eq, not_false_eq_true]

theorem kp_execStampCeilingRaise {κ ν : Nat} (hq : Quiet kw_none κ ν) {s : State} (hs : Holds κ ν s) : NextIs (Holds κ ν)
        (execStampCeilingRaise s) := by
  have m0 : κ ≠ 0x405003 := hq.ne_report (by decide) (by decide)
  unfold execStampCeilingRaise
  simp (maxDischargeDepth := 40) +contextual only [hs, hd_mk, hd_fold, hd_ite, ite_self, implies_true, m0, hd_put, nextIs_next, nextIs_ite,
        nextIs_fault, ne_eq, not_false_eq_true]

def kw_execDirectoryImage : Writes := ⟨[0x611003, 0x619004], [(0x612000, 0x613000, 256), (0x620000, 0x624000, 256)]⟩
theorem kp_execDirectoryImage {κ ν : Nat} (hq : Quiet kw_execDirectoryImage κ ν) {s : State} (hs : Holds κ ν s) : NextIs (Holds κ ν)
        (execDirectoryImage s) := by
  unfold execDirectoryImage
  simp (maxDischargeDepth := 40) +contextual only [hs, hd_mk, hd_fold, hd_ite, ite_self, implies_true, kp_writeDirectory (hq.mono rfl),
        nextIs_next, nextIs_ite, nextIs_fault, ne_eq, not_false_eq_true]

def kw_execCheckpoint : Writes := ⟨[0x404009, 0x611003, 0x613009, 0x61300A, 0x614007, 0x615007, 0x619004, 0x70030D], [(0x612000, 0x613000,
        256), (0x620000, 0x624000, 256)]⟩
theorem kp_execCheckpoint {κ ν : Nat} (hq : Quiet kw_execCheckpoint κ ν) {s : State} (hs : Holds κ ν s) : NextIs (Holds κ ν) (execCheckpoint
        s) := by
  unfold execCheckpoint
  (try simp (maxDischargeDepth := 40) +contextual only [hs, hd_mk, hd_fold, hd_ite, ite_self, implies_true, kp_checkpointNow (hq.mono rfl),
        kp_takeSegment (hq.mono rfl), nextIs_next, nextIs_ite, nextIs_fault, ne_eq, not_false_eq_true])
  repeat' split
  all_goals first
    | (with_reducible exact hs)
    | (simp (maxDischargeDepth := 40) +contextual only [hs, hd_mk, hd_fold, hd_ite, ite_self, implies_true, kp_checkpointNow (hq.mono rfl),
        kp_takeSegment (hq.mono rfl), nextIs_next, nextIs_ite, nextIs_fault, ne_eq, not_false_eq_true]; done)

def kw_execDemandRebuild : Writes := ⟨[0x404105], []⟩
theorem kp_execDemandRebuild {κ ν : Nat} (hq : Quiet kw_execDemandRebuild κ ν) (segment : Nat) {s : State} (hs : Holds κ ν s) : NextIs
        (Holds κ ν) (execDemandRebuild segment s) := by
  unfold execDemandRebuild
  simp (maxDischargeDepth := 40) +contextual only [hs, hd_mk, hd_fold, hd_ite, ite_self, implies_true, kp_startRebuild (hq.mono rfl),
        nextIs_next, nextIs_ite, nextIs_fault, ne_eq, not_false_eq_true]

def kw_execSegmentRebuilt : Writes := ⟨[0x404105, 0x404106, 0x407008, 0x407009, 0x408101, 0x408102, 0x408103, 0x408106, 0xB03004, 0xB04003],
        [(0x612000, 0x613000, 256)]⟩
theorem kp_execSegmentRebuilt {κ ν : Nat} (hq : Quiet kw_execSegmentRebuilt κ ν) (segment : Nat) {s : State} (hs : Holds κ ν s) : NextIs
        (Holds κ ν) (execSegmentRebuilt segment s) := by
  unfold execSegmentRebuilt
  simp (maxDischargeDepth := 40) +contextual only [hs, hd_mk, hd_fold, hd_ite, ite_self, implies_true, kp_finishRebuild (hq.mono rfl),
        nextIs_next, nextIs_ite, nextIs_fault, ne_eq, not_false_eq_true]

theorem kp_execStampFormConversion {κ ν : Nat} (hq : Quiet kw_none κ ν) (line : Nat) {s : State} (hs : Holds κ ν s) : NextIs (Holds κ ν)
        (execStampFormConversion line s) := by
  unfold execStampFormConversion
  (try simp (maxDischargeDepth := 40) +contextual only [hs, hd_mk, hd_fold, hd_ite, ite_self, implies_true, nextIs_next, nextIs_ite,
        nextIs_fault, ne_eq, not_false_eq_true])
  repeat' split
  all_goals first
    | (with_reducible exact hs)
    | (simp (maxDischargeDepth := 40) +contextual only [hs, hd_mk, hd_fold, hd_ite, ite_self, implies_true, nextIs_next, nextIs_ite, nextIs_fault,
        ne_eq, not_false_eq_true]; done)

def kw_execWriteBackBatch : Writes := ⟨[0x611003, 0x613009, 0x61300A, 0x614007, 0x615007, 0x619004, 0x70030D], [(0x612000, 0x613000, 256),
        (0x620000, 0x624000, 256)]⟩
theorem kp_execWriteBackBatch {κ ν : Nat} (hq : Quiet kw_execWriteBackBatch κ ν) {s : State} (hs : Holds κ ν s) : NextIs (Holds κ ν)
        (execWriteBackBatch s) := by
  unfold execWriteBackBatch
  simp (maxDischargeDepth := 40) +contextual only [hs, hd_mk, hd_fold, hd_ite, ite_self, implies_true, kp_writeBack (hq.mono rfl),
        nextIs_next, nextIs_ite, nextIs_fault, ne_eq, not_false_eq_true]

def kw_execIntegrityTableImage : Writes := ⟨[0x611003, 0x619004], [(0x612000, 0x613000, 256), (0x620000, 0x624000, 256)]⟩
theorem kp_execIntegrityTableImage {κ ν : Nat} (hq : Quiet kw_execIntegrityTableImage κ ν) (stripe : Fin 65536) {s : State} (hs : Holds κ ν
        s) : NextIs (Holds κ ν) (execIntegrityTableImage stripe s) := by
  unfold execIntegrityTableImage
  simp (maxDischargeDepth := 40) +contextual only [hs, hd_mk, hd_fold, hd_ite, ite_self, implies_true, kp_writeTableImage (hq.mono rfl),
        nextIs_next, nextIs_ite, nextIs_fault, ne_eq, not_false_eq_true]

def kw_execIntegrityLineFetch : Writes := ⟨[0x301001, 0x301004, 0x301005, 0x301006, 0x301008, 0x301101, 0x301104, 0x301105, 0x301106,
        0x301108, 0x302001, 0x302002, 0x302003, 0x302004, 0x302005, 0x302006, 0x404105, 0x404106, 0x406009, 0x407008, 0x407009, 0x408101,
        0x408102, 0x408103, 0x408106, 0x502004, 0x502005, 0x502006, 0x502007, 0x502009, 0x508003, 0x508004, 0x508005, 0x508006, 0x611003,
        0x613008, 0x613009, 0x61300A, 0x619004, 0x700301, 0x700302, 0x700303, 0x700304, 0x700305, 0x700306, 0x700307, 0x70030A, 0xA00106,
        0xB03004, 0xB04003, 0xC00104, 0xD00101, 0xD00102], [(0x612000, 0x613000, 256), (0x620000, 0x624000, 256)]⟩
theorem kp_execIntegrityLineFetch {κ ν : Nat} (hq : Quiet kw_execIntegrityLineFetch κ ν) (obj : IntegrityObject) (lines : List FetchedLine)
        {s : State} (hs : Holds κ ν s) : NextIs (Holds κ ν) (execIntegrityLineFetch obj lines s) := by
  have n0 : κ ≠ 0x70030A := hq.ne rfl
  unfold execIntegrityLineFetch
  (try simp (maxDischargeDepth := 40) +contextual only [hs, hd_mk, hd_fold, hd_ite, ite_self, implies_true, n0, hd_bump, kp_cacheLine (hq.mono
        rfl), kp_failIntegrity (hq.mono rfl), kp_integritySector (hq.mono rfl), kp_noteRecovered (hq.mono rfl), hd_foldl, nextIs_next,
        nextIs_ite, nextIs_fault, ne_eq, not_false_eq_true])
  repeat' split
  all_goals first
    | (with_reducible exact hs)
    | (simp (maxDischargeDepth := 40) +contextual only [hs, hd_mk, hd_fold, hd_ite, ite_self, implies_true, n0, hd_bump, kp_cacheLine (hq.mono
        rfl), kp_failIntegrity (hq.mono rfl), kp_integritySector (hq.mono rfl), kp_noteRecovered (hq.mono rfl), hd_foldl, nextIs_next,
        nextIs_ite, nextIs_fault, ne_eq, not_false_eq_true]; done)

def kw_execCounterCacheError : Writes := ⟨[0x301001, 0x301004, 0x301005, 0x301006, 0x301008, 0x301101, 0x301104, 0x301105, 0x301106,
        0x301108, 0x302001, 0x302002, 0x302003, 0x302004, 0x302005, 0x302006, 0x404105, 0x404106, 0x406009, 0x407008, 0x407009, 0x408101,
        0x408102, 0x408103, 0x408106, 0x502004, 0x502005, 0x502006, 0x502007, 0x502009, 0x508003, 0x508004, 0x508005, 0x508006, 0x611003,
        0x613008, 0x613009, 0x61300A, 0x619004, 0x700301, 0x700302, 0x700303, 0x700304, 0x700305, 0x700306, 0x70030A, 0x70030C, 0x800101,
        0x800102, 0x800103, 0x800104, 0x800105, 0x800106, 0x801002, 0xA00106, 0xB03004, 0xB04003, 0xC00104, 0xD00101, 0xD00102], [(0x612000,
        0x613000, 256), (0x620000, 0x624000, 256)]⟩
theorem kp_execCounterCacheError {κ ν : Nat} (hq : Quiet kw_execCounterCacheError κ ν) (obj : IntegrityObject) (fault : CacheFault) {s :
        State} (hs : Holds κ ν s) : NextIs (Holds κ ν) (execCounterCacheError obj fault s) := by
  unfold execCounterCacheError
  simp (maxDischargeDepth := 40) +contextual only [hs, hd_mk, hd_fold, hd_ite, ite_self, implies_true, kp_cacheError (hq.mono rfl),
        nextIs_next, nextIs_ite, nextIs_fault, ne_eq, not_false_eq_true]

theorem kp_execStagingHoldExpiry {κ ν : Nat} (hq : Quiet kw_none κ ν) (line : Nat) (group : Option (Fin 262144)) {s : State} (hs : Holds κ ν
        s) : NextIs (Holds κ ν) (execStagingHoldExpiry line group s) := by
  unfold execStagingHoldExpiry
  simp (maxDischargeDepth := 40) +contextual only [hs, hd_mk, hd_fold, hd_ite, ite_self, implies_true, nextIs_next, nextIs_ite, nextIs_fault,
        ne_eq, not_false_eq_true]

def kw_execLogRowDispatch : Writes := ⟨[0x613009, 0x61300A, 0x700306, 0x70030A], [(0x612000, 0x613000, 256)]⟩
theorem kp_execLogRowDispatch {κ ν : Nat} (hq : Quiet kw_execLogRowDispatch κ ν) {s : State} (hs : Holds κ ν s) : NextIs (Holds κ ν)
        (execLogRowDispatch s) := by
  unfold execLogRowDispatch
  simp (maxDischargeDepth := 40) +contextual only [hs, hd_mk, hd_fold, hd_ite, ite_self, implies_true, kp_dispatchRow (hq.mono rfl),
        kp_noteCrowded (hq.mono rfl), nextIs_next, nextIs_ite, nextIs_fault, ne_eq, not_false_eq_true]

def kw_execLogRowCloseTime : Writes := ⟨[0x613009, 0x61300A, 0x700306, 0x70030A], [(0x612000, 0x613000, 256)]⟩
theorem kp_execLogRowCloseTime {κ ν : Nat} (hq : Quiet kw_execLogRowCloseTime κ ν) {s : State} (hs : Holds κ ν s) : NextIs (Holds κ ν)
        (execLogRowCloseTime s) := by
  unfold execLogRowCloseTime
  simp (maxDischargeDepth := 40) +contextual only [hs, hd_mk, hd_fold, hd_ite, ite_self, implies_true, kp_dispatchRow (hq.mono rfl),
        kp_noteCrowded (hq.mono rfl), nextIs_next, nextIs_ite, nextIs_fault, ne_eq, not_false_eq_true]

def kw_execLogRowComplete : Writes := ⟨[0x302005, 0x302006, 0x611003, 0x613008, 0x613009, 0x61300A, 0x619004, 0xB03004, 0xB04003],
        [(0x612000, 0x613000, 256), (0x620000, 0x624000, 256)]⟩
theorem kp_execLogRowComplete {κ ν : Nat} (hq : Quiet kw_execLogRowComplete κ ν) (mark : Nat) {s : State} (hs : Holds κ ν s) : NextIs (Holds
        κ ν) (execLogRowComplete mark s) := by
  unfold execLogRowComplete
  (try simp (maxDischargeDepth := 40) +contextual only [hs, hd_mk, hd_fold, hd_ite, ite_self, implies_true, kp_completeRow (hq.mono rfl),
        nextIs_next, nextIs_ite, nextIs_fault, ne_eq, not_false_eq_true])
  repeat' split
  all_goals first
    | (with_reducible exact hs)
    | (simp (maxDischargeDepth := 40) +contextual only [hs, hd_mk, hd_fold, hd_ite, ite_self, implies_true, kp_completeRow (hq.mono rfl),
        nextIs_next, nextIs_ite, nextIs_fault, ne_eq, not_false_eq_true]; done)

def kw_execProgramDispatch : Writes := ⟨[0x408007, 0x408008, 0x611003], [(0x611004, 0x611007, 256), (0x612000, 0x613000, 256)]⟩
theorem kp_execProgramDispatch {κ ν : Nat} (hq : Quiet kw_execProgramDispatch κ ν) (job : Nat) {s : State} (hs : Holds κ ν s) : NextIs
        (Holds κ ν) (execProgramDispatch job s) := by
  unfold execProgramDispatch
  (try simp (maxDischargeDepth := 40) +contextual only [hs, hd_mk, hd_fold, hd_ite, ite_self, implies_true, kp_dispatch (hq.mono rfl),
        kp_noteDelays (hq.mono rfl), kp_skipMember (hq.mono rfl), nextIs_next, nextIs_ite, nextIs_fault, ne_eq, not_false_eq_true])
  repeat' split
  all_goals first
    | (with_reducible exact hs)
    | (simp (maxDischargeDepth := 40) +contextual only [hs, hd_mk, hd_fold, hd_ite, ite_self, implies_true, kp_dispatch (hq.mono rfl),
        kp_noteDelays (hq.mono rfl), kp_skipMember (hq.mono rfl), nextIs_next, nextIs_ite, nextIs_fault, ne_eq, not_false_eq_true]; done)

def kw_execProgramComplete : Writes := ⟨[0x611003, 0x618005, 0x619004], [(0x612000, 0x613000, 256), (0x620000, 0x624000, 256)]⟩
theorem kp_execProgramComplete {κ ν : Nat} (hq : Quiet kw_execProgramComplete κ ν) (op : Nat) (ok : Bool) {s : State} (hs : Holds κ ν s) :
        NextIs (Holds κ ν) (execProgramComplete op ok s) := by
  unfold execProgramComplete
  (try simp (maxDischargeDepth := 40) +contextual only [hs, hd_mk, hd_fold, hd_ite, ite_self, implies_true, kp_endOverruns (hq.mono rfl),
        kp_opFailed (hq.mono rfl), kp_opSucceeded (hq.mono rfl), nextIs_next, nextIs_ite, nextIs_fault, ne_eq, not_false_eq_true])
  repeat' split
  all_goals first
    | (with_reducible exact hs)
    | (simp (maxDischargeDepth := 40) +contextual only [hs, hd_mk, hd_fold, hd_ite, ite_self, implies_true, kp_endOverruns (hq.mono rfl),
        kp_opFailed (hq.mono rfl), kp_opSucceeded (hq.mono rfl), nextIs_next, nextIs_ite, nextIs_fault, ne_eq, not_false_eq_true]; done)

def kw_execStripePageComplete : Writes := ⟨[0x611003, 0x613009, 0x61300A, 0x614006, 0x614007, 0x615007, 0x619004], [(0x612000, 0x613000,
        256), (0x620000, 0x624000, 256)]⟩
theorem kp_execStripePageComplete {κ ν : Nat} (hq : Quiet kw_execStripePageComplete κ ν) (id : Nat) {s : State} (hs : Holds κ ν s) : NextIs
        (Holds κ ν) (execStripePageComplete id s) := by
  unfold execStripePageComplete
  (try simp (maxDischargeDepth := 40) +contextual only [hs, hd_mk, hd_fold, hd_ite, ite_self, implies_true, kp_completePage (hq.mono rfl),
        kp_finishMoves (hq.mono rfl), nextIs_next, nextIs_ite, nextIs_fault, ne_eq, not_false_eq_true])
  repeat' split
  all_goals first
    | (with_reducible exact hs)
    | (simp (maxDischargeDepth := 40) +contextual only [hs, hd_mk, hd_fold, hd_ite, ite_self, implies_true, kp_completePage (hq.mono rfl),
        kp_finishMoves (hq.mono rfl), nextIs_next, nextIs_ite, nextIs_fault, ne_eq, not_false_eq_true]; done)

def kw_execChunkGrant : Writes := ⟨[], [(0x612000, 0x613000, 256)]⟩
theorem kp_execChunkGrant {κ ν : Nat} (hq : Quiet kw_execChunkGrant κ ν) (channel : Fin 16) {s : State} (hs : Holds κ ν s) : NextIs (Holds κ
        ν) (execChunkGrant channel s) := by
  unfold execChunkGrant
  (try simp (maxDischargeDepth := 40) +contextual only [hs, hd_mk, hd_fold, hd_ite, ite_self, implies_true, kp_grantChunk (hq.mono rfl),
        nextIs_next, nextIs_ite, nextIs_fault, ne_eq, not_false_eq_true])
  repeat' split
  all_goals first
    | (with_reducible exact hs)
    | (simp (maxDischargeDepth := 40) +contextual only [hs, hd_mk, hd_fold, hd_ite, ite_self, implies_true, kp_grantChunk (hq.mono rfl),
        nextIs_next, nextIs_ite, nextIs_fault, ne_eq, not_false_eq_true]; done)

def kw_execCurtain : Writes := ⟨[0x203009, 0x205003, 0x301001, 0x301002, 0x301003, 0x301004, 0x301005, 0x301006, 0x301008, 0x301101,
        0x301102, 0x301103, 0x301104, 0x301105, 0x301106, 0x301108, 0x302001, 0x302002, 0x302003, 0x302004, 0x302005, 0x302006, 0x404105,
        0x404106, 0x406009, 0x407008, 0x407009, 0x408101, 0x408102, 0x408103, 0x408106, 0x502004, 0x502005, 0x502006, 0x502007, 0x502009,
        0x508003, 0x508004, 0x508005, 0x508006, 0x611003, 0x611007, 0x619004, 0x900104, 0xA00106, 0xB03004, 0xB04003, 0xD00101, 0xD00102,
        0xD02001, 0xD06001, 0xD06002, 0xD06003, 0xD06004, 0xD06005, 0xD06006, 0xD06007], [(0x612000, 0x613000, 256), (0x620000, 0x624000,
        256)]⟩
theorem kp_execCurtain {κ ν : Nat} (hq : Quiet kw_execCurtain κ ν) (cause : Nat) {s : State} (hs : Holds κ ν s) : NextIs (Holds κ ν)
        (execCurtain cause s) := by
  unfold execCurtain
  simp (maxDischargeDepth := 40) +contextual only [hs, hd_mk, hd_fold, hd_ite, ite_self, implies_true, kp_triggerCurtain (hq.mono rfl),
        nextIs_next, nextIs_ite, nextIs_fault, ne_eq, not_false_eq_true]

def kw_execCurtainCommitPoint : Writes := ⟨[0x301001, 0x301002, 0x301003, 0x301004, 0x301008, 0x301101, 0x301102, 0x301103, 0x301104,
        0x301108, 0x302001, 0x302002, 0x302003, 0x302004, 0x302005, 0x302006, 0x404105, 0x404106, 0x406009, 0x407008, 0x407009, 0x408101,
        0x408102, 0x408103, 0x408106, 0x502004, 0x502005, 0x502006, 0x502007, 0x502009, 0x508003, 0x508004, 0x508005, 0x508006, 0x611003,
        0x613008, 0x613009, 0x61300A, 0x619004, 0x700306, 0x70030A, 0xB03004, 0xB04003], [(0x612000, 0x613000, 256), (0x620000, 0x624000,
        256)]⟩
theorem kp_execCurtainCommitPoint {κ ν : Nat} (hq : Quiet kw_execCurtainCommitPoint κ ν) {s : State} (hs : Holds κ ν s) : NextIs (Holds κ ν)
        (execCurtainCommitPoint s) := by
  unfold execCurtainCommitPoint
  (try simp (maxDischargeDepth := 40) +contextual only [hs, hd_mk, hd_fold, hd_ite, ite_self, implies_true, kp_commitCurtain (hq.mono rfl),
        nextIs_next, nextIs_ite, nextIs_fault, ne_eq, not_false_eq_true])
  repeat' split
  all_goals first
    | (with_reducible exact hs)
    | (simp (maxDischargeDepth := 40) +contextual only [hs, hd_mk, hd_fold, hd_ite, ite_self, implies_true, kp_commitCurtain (hq.mono rfl),
        nextIs_next, nextIs_ite, nextIs_fault, ne_eq, not_false_eq_true]; done)

def kw_execCurtainCancelled : Writes := ⟨[0x200101, 0x200102, 0x200104, 0x200106, 0x202002, 0x204001, 0x204002, 0x204003, 0x204005,
        0x204006, 0xA00106, 0xD00101, 0xD00102], [(0x201001, 0x20100E, 256)]⟩
theorem kp_execCurtainCancelled {κ ν : Nat} (hq : Quiet kw_execCurtainCancelled κ ν) (mv : Nat) {s : State} (hs : Holds κ ν s) : NextIs
        (Holds κ ν) (execCurtainCancelled mv s) := by
  unfold execCurtainCancelled
  (try simp (maxDischargeDepth := 40) +contextual only [hs, hd_mk, hd_fold, hd_ite, ite_self, implies_true, kp_cancelCurtain (hq.mono rfl),
        kp_noteVin (hq.mono rfl), nextIs_next, nextIs_ite, nextIs_fault, ne_eq, not_false_eq_true])
  repeat' split
  all_goals first
    | (with_reducible exact hs)
    | (simp (maxDischargeDepth := 40) +contextual only [hs, hd_mk, hd_fold, hd_ite, ite_self, implies_true, kp_cancelCurtain (hq.mono rfl),
        kp_noteVin (hq.mono rfl), nextIs_next, nextIs_ite, nextIs_fault, ne_eq, not_false_eq_true]; done)

def kw_execCartridgeFloor : Writes := ⟨[0x301001, 0x301002, 0x301003, 0x301004, 0x301101, 0x301102, 0x301103, 0x301104, 0xA00106, 0xD00101,
        0xD00102], []⟩
theorem kp_execCartridgeFloor {κ ν : Nat} (hq : Quiet kw_execCartridgeFloor κ ν) {s : State} (hs : Holds κ ν s) : NextIs (Holds κ ν)
        (execCartridgeFloor s) := by
  unfold execCartridgeFloor
  (try simp (maxDischargeDepth := 40) +contextual only [hs, hd_mk, hd_fold, hd_ite, ite_self, implies_true, kp_enterFall (hq.mono rfl),
        kp_silence (hq.mono rfl), nextIs_next, nextIs_ite, nextIs_fault, ne_eq, not_false_eq_true])
  repeat' split
  all_goals first
    | (with_reducible exact hs)
    | (simp (maxDischargeDepth := 40) +contextual only [hs, hd_mk, hd_fold, hd_ite, ite_self, implies_true, kp_enterFall (hq.mono rfl), kp_silence
        (hq.mono rfl), nextIs_next, nextIs_ite, nextIs_fault, ne_eq, not_false_eq_true]; done)

def kw_execShortPress : Writes := ⟨[0x205003], []⟩
theorem kp_execShortPress {κ ν : Nat} (hq : Quiet kw_execShortPress κ ν) {s : State} (hs : Holds κ ν s) : NextIs (Holds κ ν) (execShortPress
        s) := by
  have n0 : κ ≠ 0x205003 := hq.ne rfl
  unfold execShortPress
  simp (maxDischargeDepth := 40) +contextual only [hs, hd_mk, hd_fold, hd_ite, ite_self, implies_true, n0, hd_put, hd_raise hq, nextIs_next,
        nextIs_ite, nextIs_fault, ne_eq, not_false_eq_true]

def kw_execServiceRequestWindowEnd : Writes := ⟨[0x203009, 0x205003, 0x301001, 0x301002, 0x301003, 0x301004, 0x301005, 0x301006, 0x301008,
        0x301101, 0x301102, 0x301103, 0x301104, 0x301105, 0x301106, 0x301108, 0x302001, 0x302002, 0x302003, 0x302004, 0x302005, 0x302006,
        0x404105, 0x404106, 0x406009, 0x407008, 0x407009, 0x408101, 0x408102, 0x408103, 0x408106, 0x502004, 0x502005, 0x502006, 0x502007,
        0x502009, 0x508003, 0x508004, 0x508005, 0x508006, 0x611003, 0x611007, 0x619004, 0x900104, 0xA00106, 0xB03004, 0xB04003, 0xD00101,
        0xD00102, 0xD02001, 0xD06001, 0xD06002, 0xD06003, 0xD06004, 0xD06005, 0xD06006, 0xD06007], [(0x612000, 0x613000, 256), (0x620000,
        0x624000, 256)]⟩
theorem kp_execServiceRequestWindowEnd {κ ν : Nat} (hq : Quiet kw_execServiceRequestWindowEnd κ ν) {s : State} (hs : Holds κ ν s) : NextIs
        (Holds κ ν) (execServiceRequestWindowEnd s) := by
  unfold execServiceRequestWindowEnd
  simp (maxDischargeDepth := 40) +contextual only [hs, hd_mk, hd_fold, hd_ite, ite_self, implies_true, kp_buttonCurtain (hq.mono rfl),
        nextIs_next, nextIs_ite, nextIs_fault, ne_eq, not_false_eq_true]

def kw_execForcedPowerDown : Writes := ⟨[0x203009, 0x205003, 0x301001, 0x301002, 0x301003, 0x301004, 0x301005, 0x301006, 0x301008, 0x301101,
        0x301102, 0x301103, 0x301104, 0x301105, 0x301106, 0x301108, 0x302001, 0x302002, 0x302003, 0x302004, 0x302005, 0x302006, 0x404105,
        0x404106, 0x406009, 0x407008, 0x407009, 0x408101, 0x408102, 0x408103, 0x408106, 0x502004, 0x502005, 0x502006, 0x502007, 0x502009,
        0x508003, 0x508004, 0x508005, 0x508006, 0x611003, 0x611007, 0x619004, 0x900104, 0xA00106, 0xB03004, 0xB04003, 0xD00101, 0xD00102,
        0xD02001, 0xD06001, 0xD06002, 0xD06003, 0xD06004, 0xD06005, 0xD06006, 0xD06007], [(0x612000, 0x613000, 256), (0x620000, 0x624000,
        256)]⟩
theorem kp_execForcedPowerDown {κ ν : Nat} (hq : Quiet kw_execForcedPowerDown κ ν) {s : State} (hs : Holds κ ν s) : NextIs (Holds κ ν)
        (execForcedPowerDown s) := by
  unfold execForcedPowerDown
  simp (maxDischargeDepth := 40) +contextual only [hs, hd_mk, hd_fold, hd_ite, ite_self, implies_true, kp_buttonCurtain (hq.mono rfl),
        hd_raise hq, nextIs_next, nextIs_ite, nextIs_fault, ne_eq, not_false_eq_true]

def kw_execMrN : Writes := ⟨[0x203009, 0x205003, 0x301001, 0x301002, 0x301003, 0x301004, 0x301005, 0x301006, 0x301007, 0x301008, 0x301101,
        0x301102, 0x301103, 0x301104, 0x301105, 0x301106, 0x301107, 0x301108, 0x302001, 0x302002, 0x302003, 0x302004, 0x302005, 0x302006,
        0x404101, 0x404105, 0x404106, 0x406009, 0x407008, 0x407009, 0x408101, 0x408102, 0x408103, 0x408106, 0x502004, 0x502005, 0x502006,
        0x502007, 0x502009, 0x508003, 0x508004, 0x508005, 0x508006, 0x611003, 0x611007, 0x619004, 0x900104, 0xA00106, 0xB03004, 0xB04003,
        0xD00101, 0xD00102, 0xD02001, 0xD04001, 0xD06001, 0xD06002, 0xD06003, 0xD06004, 0xD06005, 0xD06006, 0xD06007], [(0x612000, 0x613000,
        256), (0x620000, 0x624000, 256), (0xD04002, 0xD0400A, 256)]⟩
theorem kp_execMrN {κ ν : Nat} (hq : Quiet kw_execMrN κ ν) (widthNs : Nat) {s : State} (hs : Holds κ ν s) : NextIs (Holds κ ν) (execMrN
        widthNs s) := by
  unfold execMrN
  simp (maxDischargeDepth := 40) +contextual only [hs, hd_mk, hd_fold, hd_ite, ite_self, implies_true, kp_deviceReset (hq.mono rfl), kp_drawn
        (hq.mono rfl), hd_raise hq, nextIs_next, nextIs_ite, nextIs_fault, ne_eq, not_false_eq_true]

def kw_execManagementWatchdog : Writes := ⟨[0x203009, 0x205003, 0x301001, 0x301002, 0x301003, 0x301004, 0x301005, 0x301006, 0x301007,
        0x301008, 0x301101, 0x301102, 0x301103, 0x301104, 0x301105, 0x301106, 0x301107, 0x301108, 0x302001, 0x302002, 0x302003, 0x302004,
        0x302005, 0x302006, 0x404101, 0x404105, 0x404106, 0x406009, 0x407008, 0x407009, 0x408101, 0x408102, 0x408103, 0x408106, 0x502004,
        0x502005, 0x502006, 0x502007, 0x502009, 0x508003, 0x508004, 0x508005, 0x508006, 0x611003, 0x611007, 0x619004, 0x900104, 0xA00106,
        0xB03004, 0xB04003, 0xD00101, 0xD00102, 0xD02001, 0xD04001, 0xD06001, 0xD06002, 0xD06003, 0xD06004, 0xD06005, 0xD06006, 0xD06007],
        [(0x612000, 0x613000, 256), (0x620000, 0x624000, 256), (0xD04002, 0xD0400A, 256)]⟩
theorem kp_execManagementWatchdog {κ ν : Nat} (hq : Quiet kw_execManagementWatchdog κ ν) {s : State} (hs : Holds κ ν s) : NextIs (Holds κ ν)
        (execManagementWatchdog s) := by
  unfold execManagementWatchdog
  simp (maxDischargeDepth := 40) +contextual only [hs, hd_mk, hd_fold, hd_ite, ite_self, implies_true, kp_deviceReset (hq.mono rfl),
        nextIs_next, nextIs_ite, nextIs_fault, ne_eq, not_false_eq_true]

theorem kp_execCounterWrap {κ ν : Nat} (hq : Quiet kw_none κ ν) (n : Fin 512) {s : State} (hs : Holds κ ν s) : NextIs (Holds κ ν)
        (execCounterWrap n s) := by
  have hc : ∀ m : Nat, Holds κ ν (addToCounter n.val m s) := fun m => kp_addToCounter hq n.isLt hs
  unfold execCounterWrap
  simp (maxDischargeDepth := 40) +contextual only [hs, hd_mk, hd_fold, hd_ite, ite_self, implies_true, hc, nextIs_next, nextIs_ite,
        nextIs_fault, ne_eq, not_false_eq_true]

def kw_execBandwidthWindowEnd : Writes := ⟨[0xB02001, 0xB02002, 0xB02003, 0xB02004, 0xB02005, 0xB02006, 0xB02007, 0xB02101, 0xB02102,
        0xB02103, 0xB02104, 0xB02105, 0xB02106, 0xB02107], []⟩
theorem kp_execBandwidthWindowEnd {κ ν : Nat} (hq : Quiet kw_execBandwidthWindowEnd κ ν) (p : Port) {s : State} (hs : Holds κ ν s) : NextIs
        (Holds κ ν) (execBandwidthWindowEnd p s) := by
  unfold execBandwidthWindowEnd
  simp (maxDischargeDepth := 40) +contextual only [hs, hd_mk, hd_fold, hd_ite, ite_self, implies_true, kp_endWindow (hq.mono rfl),
        nextIs_next, nextIs_ite, nextIs_fault, ne_eq, not_false_eq_true]

def kw_execDmaBurstPlaced : Writes := ⟨[0x302005, 0x302006, 0x404105, 0x611003, 0x613008, 0x613009, 0x61300A, 0x619004, 0x700306, 0x70030A,
        0xB03004, 0xB04003, 0xC00102, 0xC00104], [(0x612000, 0x613000, 256), (0x620000, 0x624000, 256), (0xC01000, 0xC02000, 256)]⟩
theorem kp_execDmaBurstPlaced {κ ν : Nat} (hq : Quiet kw_execDmaBurstPlaced κ ν) (ch : Fin 16) {s : State} (hs : Holds κ ν s) : NextIs
        (Holds κ ν) (execDmaBurstPlaced ch s) := by
  unfold execDmaBurstPlaced
  simp (maxDischargeDepth := 40) +contextual only [hs, hd_mk, hd_fold, hd_ite, ite_self, implies_true, kp_nextBurst (hq.mono rfl),
        nextIs_next, nextIs_ite, nextIs_fault, ne_eq, not_false_eq_true]

def kw_execDrainIdleTimer : Writes := ⟨[0x302005, 0x302006, 0x404105, 0x611003, 0x613008, 0x613009, 0x61300A, 0x619004, 0x700306, 0x70030A,
        0xB03004, 0xB04003, 0xC00102, 0xC00104], [(0x612000, 0x613000, 256), (0x620000, 0x624000, 256), (0xC01000, 0xC02000, 256)]⟩
theorem kp_execDrainIdleTimer {κ ν : Nat} (hq : Quiet kw_execDrainIdleTimer κ ν) (ch : Fin 16) {s : State} (hs : Holds κ ν s) : NextIs
        (Holds κ ν) (execDrainIdleTimer ch s) := by
  unfold execDrainIdleTimer
  simp (maxDischargeDepth := 40) +contextual only [hs, hd_mk, hd_fold, hd_ite, ite_self, implies_true, kp_nextBurst (hq.mono rfl),
        nextIs_next, nextIs_ite, nextIs_fault, ne_eq, not_false_eq_true]

def kw_execInputLoss : Writes := ⟨[0x200101, 0x200104, 0x202002, 0x203009, 0x205003, 0x301001, 0x301002, 0x301003, 0x301004, 0x301005,
        0x301006, 0x301008, 0x301101, 0x301102, 0x301103, 0x301104, 0x301105, 0x301106, 0x301108, 0x302001, 0x302002, 0x302003, 0x302004,
        0x302005, 0x302006, 0x404105, 0x404106, 0x406009, 0x407008, 0x407009, 0x408101, 0x408102, 0x408103, 0x408106, 0x502004, 0x502005,
        0x502006, 0x502007, 0x502009, 0x508003, 0x508004, 0x508005, 0x508006, 0x611003, 0x611007, 0x619004, 0x900104, 0xA00106, 0xB03004,
        0xB04003, 0xD00101, 0xD00102, 0xD02001, 0xD06001, 0xD06002, 0xD06003, 0xD06004, 0xD06005, 0xD06006, 0xD06007], [(0x201001, 0x20100E,
        256), (0x612000, 0x613000, 256), (0x620000, 0x624000, 256)]⟩
theorem kp_execInputLoss {κ ν : Nat} (hq : Quiet kw_execInputLoss κ ν) (mv : Nat) {s : State} (hs : Holds κ ν s) : NextIs (Holds κ ν)
        (execInputLoss mv s) := by
  unfold execInputLoss
  simp (maxDischargeDepth := 40) +contextual only [hs, hd_mk, hd_fold, hd_ite, ite_self, implies_true, kp_loseInput (hq.mono rfl),
        nextIs_next, nextIs_ite, nextIs_fault, ne_eq, not_false_eq_true]

def kw_execOvervoltage : Writes := ⟨[0x200101, 0x200104, 0x200107, 0x202002, 0x203009, 0x205003, 0x301001, 0x301002, 0x301003, 0x301004,
        0x301005, 0x301006, 0x301008, 0x301101, 0x301102, 0x301103, 0x301104, 0x301105, 0x301106, 0x301108, 0x302001, 0x302002, 0x302003,
        0x302004, 0x302005, 0x302006, 0x404105, 0x404106, 0x406009, 0x407008, 0x407009, 0x408101, 0x408102, 0x408103, 0x408106, 0x502004,
        0x502005, 0x502006, 0x502007, 0x502009, 0x508003, 0x508004, 0x508005, 0x508006, 0x611003, 0x611007, 0x619004, 0x900104, 0xA00106,
        0xB03004, 0xB04003, 0xD00101, 0xD00102, 0xD02001, 0xD06001, 0xD06002, 0xD06003, 0xD06004, 0xD06005, 0xD06006, 0xD06007], [(0x201001,
        0x20100E, 256), (0x612000, 0x613000, 256), (0x620000, 0x624000, 256)]⟩
theorem kp_execOvervoltage {κ ν : Nat} (hq : Quiet kw_execOvervoltage κ ν) (mv : Nat) {s : State} (hs : Holds κ ν s) : NextIs (Holds κ ν)
        (execOvervoltage mv s) := by
  have n0 : κ ≠ 0x200107 := hq.ne rfl
  unfold execOvervoltage
  simp (maxDischargeDepth := 40) +contextual only [hs, hd_mk, hd_fold, hd_ite, ite_self, implies_true, n0, hd_bump, kp_loseInput (hq.mono
        rfl), kp_noteVin (hq.mono rfl), nextIs_next, nextIs_ite, nextIs_fault, ne_eq, not_false_eq_true]

def kw_execInputSwitchReclose : Writes := ⟨[0x200101, 0x200104], []⟩
theorem kp_execInputSwitchReclose {κ ν : Nat} (hq : Quiet kw_execInputSwitchReclose κ ν) (mv : Nat) {s : State} (hs : Holds κ ν s) : NextIs
        (Holds κ ν) (execInputSwitchReclose mv s) := by
  unfold execInputSwitchReclose
  simp (maxDischargeDepth := 40) +contextual only [hs, hd_mk, hd_fold, hd_ite, ite_self, implies_true, kp_noteVin (hq.mono rfl), nextIs_next,
        nextIs_ite, nextIs_fault, ne_eq, not_false_eq_true]

def kw_execBandDown : Writes := ⟨[0x200101, 0x200102, 0x200104, 0x200106, 0xA00106, 0xD00101, 0xD00102], []⟩
theorem kp_execBandDown {κ ν : Nat} (hq : Quiet kw_execBandDown κ ν) (mv : Nat) {s : State} (hs : Holds κ ν s) : NextIs (Holds κ ν)
        (execBandDown mv s) := by
  unfold execBandDown
  simp (maxDischargeDepth := 40) +contextual only [hs, hd_mk, hd_fold, hd_ite, ite_self, implies_true, kp_noteVin (hq.mono rfl), kp_setBand
        (hq.mono rfl), nextIs_next, nextIs_ite, nextIs_fault, ne_eq, not_false_eq_true]

def kw_execBandUp : Writes := ⟨[0x200101, 0x200102, 0x200104, 0x200106, 0xA00106, 0xD00101, 0xD00102], []⟩
theorem kp_execBandUp {κ ν : Nat} (hq : Quiet kw_execBandUp κ ν) (mv : Nat) {s : State} (hs : Holds κ ν s) : NextIs (Holds κ ν) (execBandUp
        mv s) := by
  unfold execBandUp
  simp (maxDischargeDepth := 40) +contextual only [hs, hd_mk, hd_fold, hd_ite, ite_self, implies_true, kp_noteVin (hq.mono rfl), kp_setBand
        (hq.mono rfl), nextIs_next, nextIs_ite, nextIs_fault, ne_eq, not_false_eq_true]

def kw_execPowerCapAdjust : Writes := ⟨[0x200103], []⟩
theorem kp_execPowerCapAdjust {κ ν : Nat} (hq : Quiet kw_execPowerCapAdjust κ ν) (meanMw : Nat) {s : State} (hs : Holds κ ν s) : NextIs
        (Holds κ ν) (execPowerCapAdjust meanMw s) := by
  have n0 : κ ≠ 0x200103 := hq.ne rfl
  unfold execPowerCapAdjust
  simp (maxDischargeDepth := 40) +contextual only [hs, hd_mk, hd_fold, hd_ite, ite_self, implies_true, n0, hd_put, nextIs_next, nextIs_ite,
        nextIs_fault, ne_eq, not_false_eq_true]

def kw_execRailFault : Writes := ⟨[0x20100F, 0x202002, 0x203009, 0x205003, 0x301001, 0x301002, 0x301003, 0x301004, 0x301005, 0x301006,
        0x301007, 0x301008, 0x301101, 0x301102, 0x301103, 0x301104, 0x301105, 0x301106, 0x301107, 0x301108, 0x302001, 0x302002, 0x302003,
        0x302004, 0x302005, 0x302006, 0x404101, 0x404105, 0x404106, 0x406009, 0x407008, 0x407009, 0x408101, 0x408102, 0x408103, 0x408106,
        0x502004, 0x502005, 0x502006, 0x502007, 0x502009, 0x508003, 0x508004, 0x508005, 0x508006, 0x611003, 0x611007, 0x619004, 0x900104,
        0xA00106, 0xB03004, 0xB04003, 0xD00101, 0xD00102, 0xD02001, 0xD04001, 0xD04004, 0xD06001, 0xD06002, 0xD06003, 0xD06004, 0xD06005,
        0xD06006, 0xD06007], [(0x201001, 0x20100E, 256), (0x612000, 0x613000, 256), (0x620000, 0x624000, 256), (0xD04002, 0xD0400A, 256)]⟩
theorem kp_execRailFault {κ ν : Nat} (hq : Quiet kw_execRailFault κ ν) (code : Nat) (restarts : Bool) {s : State} (hs : Holds κ ν s) :
        NextIs (Holds κ ν) (execRailFault code restarts s) := by
  have n0 : κ ≠ 0xD04001 := hq.ne rfl
  have n1 : κ ≠ 0xD04004 := hq.ne rfl
  unfold execRailFault
  simp (maxDischargeDepth := 40) +contextual only [hs, hd_mk, hd_fold, hd_ite, ite_self, implies_true, n0, n1, hd_bump, hd_put, kp_deviceReset
        (hq.mono rfl), kp_endAllSessions (hq.mono rfl), kp_enterFall (hq.mono rfl), kp_noteRailFault (hq.mono rfl), nextIs_next, nextIs_ite,
        nextIs_fault, ne_eq, not_false_eq_true]

def kw_execFall : Writes := ⟨[0x20100E, 0x202002, 0x205003, 0x301007, 0x301107, 0x402001, 0x402002, 0x404101, 0xA00106, 0xD00101, 0xD00102],
        [(0x201001, 0x20100E, 256)]⟩
theorem kp_execFall {κ ν : Nat} (hq : Quiet kw_execFall κ ν) (stuck : BitVec 16) (vinAbsent : Bool) {s : State} (hs : Holds κ ν s) : NextIs
        (Holds κ ν) (execFall stuck vinAbsent s) := by
  unfold execFall
  simp (maxDischargeDepth := 40) +contextual only [hs, hd_mk, hd_fold, hd_ite, ite_self, implies_true, kp_endFall (hq.mono rfl), nextIs_next,
        nextIs_ite, nextIs_fault, ne_eq, not_false_eq_true]

def kw_execStuckRailCleared : Writes := ⟨[0x205003, 0x301007, 0x301107, 0x402001, 0x402002, 0x404101, 0xA00106, 0xD00101, 0xD00102], []⟩
theorem kp_execStuckRailCleared {κ ν : Nat} (hq : Quiet kw_execStuckRailCleared κ ν) (code : Nat) {s : State} (hs : Holds κ ν s) : NextIs
        (Holds κ ν) (execStuckRailCleared code s) := by
  unfold execStuckRailCleared
  simp (maxDischargeDepth := 40) +contextual only [hs, hd_mk, hd_fold, hd_ite, ite_self, implies_true, kp_setRail (hq.mono rfl), kp_startRise
        (hq.mono rfl), nextIs_next, nextIs_ite, nextIs_fault, ne_eq, not_false_eq_true]

def kw_execMinimumOffTimeEnd : Writes := ⟨[0x205003, 0x301007, 0x301107, 0x402001, 0x402002, 0x404101, 0xA00106, 0xD00101, 0xD00102], []⟩
theorem kp_execMinimumOffTimeEnd {κ ν : Nat} (hq : Quiet kw_execMinimumOffTimeEnd κ ν) {s : State} (hs : Holds κ ν s) : NextIs (Holds κ ν)
        (execMinimumOffTimeEnd s) := by
  unfold execMinimumOffTimeEnd
  simp (maxDischargeDepth := 40) +contextual only [hs, hd_mk, hd_fold, hd_ite, ite_self, implies_true, kp_startRise (hq.mono rfl),
        nextIs_next, nextIs_ite, nextIs_fault, ne_eq, not_false_eq_true]

def kw_execLossOfProtection : Writes := ⟨[0x301005, 0x301006, 0x301008, 0x301105, 0x301106, 0x301108, 0x302001, 0x302002, 0x302003,
        0x302004, 0x302005, 0x302006, 0x402001, 0x402002, 0x404105, 0x404106, 0x406009, 0x407008, 0x407009, 0x408101, 0x408102, 0x408103,
        0x408106, 0x502004, 0x502005, 0x502006, 0x502007, 0x502009, 0x508003, 0x508004, 0x508005, 0x508006, 0x611003, 0x613008, 0x613009,
        0x61300A, 0x619004, 0x700306, 0x70030A, 0xB03004, 0xB04003, 0xD02004], [(0x612000, 0x613000, 256), (0x620000, 0x624000, 256)]⟩
theorem kp_execLossOfProtection {κ ν : Nat} (hq : Quiet kw_execLossOfProtection κ ν) {s : State} (hs : Holds κ ν s) : NextIs (Holds κ ν)
        (execLossOfProtection s) := by
  unfold execLossOfProtection
  simp (maxDischargeDepth := 40) +contextual only [hs, hd_mk, hd_fold, hd_ite, ite_self, implies_true, kp_finishLeaving (hq.mono rfl),
        kp_loseProtection (hq.mono rfl), kp_wakeBy (hq.mono rfl), nextIs_next, nextIs_ite, nextIs_fault, ne_eq, not_false_eq_true]

def kw_execProtectionRestored : Writes := ⟨[0x402001, 0x402002], []⟩
theorem kp_execProtectionRestored {κ ν : Nat} (hq : Quiet kw_execProtectionRestored κ ν) {s : State} (hs : Holds κ ν s) : NextIs (Holds κ ν)
        (execProtectionRestored s) := by
  unfold execProtectionRestored
  simp (maxDischargeDepth := 40) +contextual only [hs, hd_mk, hd_fold, hd_ite, ite_self, implies_true, kp_regainProtection (hq.mono rfl),
        nextIs_next, nextIs_ite, nextIs_fault, ne_eq, not_false_eq_true]

def kw_execYoYoTest : Writes := ⟨[0x203002, 0x203003, 0x203004, 0x203006, 0x203007, 0x203009, 0x301005, 0x301006, 0x301008, 0x301105,
        0x301106, 0x301108, 0x302001, 0x302002, 0x302003, 0x302004, 0x302005, 0x302006, 0x402001, 0x402002, 0x404105, 0x404106, 0x406009,
        0x407008, 0x407009, 0x408101, 0x408102, 0x408103, 0x408106, 0x502004, 0x502005, 0x502006, 0x502007, 0x502009, 0x508003, 0x508004,
        0x508005, 0x508006, 0x611003, 0x613008, 0x613009, 0x61300A, 0x619004, 0x700306, 0x70030A, 0xB03004, 0xB04003, 0xD02004], [(0x612000,
        0x613000, 256), (0x620000, 0x624000, 256)]⟩
theorem kp_execYoYoTest {κ ν : Nat} (hq : Quiet kw_execYoYoTest κ ν) (cmf esrMohm v0mv : Nat) {s : State} (hs : Holds κ ν s) : NextIs (Holds
        κ ν) (execYoYoTest cmf esrMohm v0mv s) := by
  have n0 : κ ≠ 0x203002 := hq.ne rfl
  have n1 : κ ≠ 0x203003 := hq.ne rfl
  have n2 : κ ≠ 0x203004 := hq.ne rfl
  have n3 : κ ≠ 0x203006 := hq.ne rfl
  have n4 : κ ≠ 0x203007 := hq.ne rfl
  have n5 : κ ≠ 0x203009 := hq.ne rfl
  unfold execYoYoTest
  simp (maxDischargeDepth := 40) +contextual only [hs, hd_mk, hd_fold, hd_ite, ite_self, implies_true, n0, n1, n2, n3, n4, n5, hd_put,
        kp_endAction (hq.mono rfl), hd_raise hq, hd_raiseIf hq, kp_updateProtection (hq.mono rfl), kp_wakeBy (hq.mono rfl), nextIs_next,
        nextIs_ite, nextIs_fault, ne_eq, not_false_eq_true]

def kw_execCartridgeRemoved : Writes := ⟨[0x203001, 0x203005, 0x203006, 0x203009, 0x301005, 0x301006, 0x301008, 0x301105, 0x301106,
        0x301108, 0x302001, 0x302002, 0x302003, 0x302004, 0x302005, 0x302006, 0x402001, 0x402002, 0x404105, 0x404106, 0x406009, 0x407008,
        0x407009, 0x408101, 0x408102, 0x408103, 0x408106, 0x502004, 0x502005, 0x502006, 0x502007, 0x502009, 0x508003, 0x508004, 0x508005,
        0x508006, 0x611003, 0x613008, 0x613009, 0x61300A, 0x619004, 0x700306, 0x70030A, 0xB03004, 0xB04003, 0xD02004], [(0x612000, 0x613000,
        256), (0x620000, 0x624000, 256)]⟩
theorem kp_execCartridgeRemoved {κ ν : Nat} (hq : Quiet kw_execCartridgeRemoved κ ν) {s : State} (hs : Holds κ ν s) : NextIs (Holds κ ν)
        (execCartridgeRemoved s) := by
  have n0 : κ ≠ 0x203001 := hq.ne rfl
  have n1 : κ ≠ 0x203005 := hq.ne rfl
  have n2 : κ ≠ 0x203006 := hq.ne rfl
  have n3 : κ ≠ 0x203009 := hq.ne rfl
  unfold execCartridgeRemoved
  simp (maxDischargeDepth := 40) +contextual only [hs, hd_mk, hd_fold, hd_ite, ite_self, implies_true, n0, n1, n2, n3, hd_put, kp_endAction
        (hq.mono rfl), hd_raise hq, kp_updateProtection (hq.mono rfl), kp_wakeBy (hq.mono rfl), nextIs_next, nextIs_ite, nextIs_fault,
        ne_eq, not_false_eq_true]

def kw_execCartridgeInserted : Writes := ⟨[0x203001, 0x20300C, 0x301005, 0x301006, 0x301008, 0x301105, 0x301106, 0x301108, 0x302001,
        0x302002, 0x302003, 0x302004, 0x302005, 0x302006, 0x402001, 0x402002, 0x404105, 0x404106, 0x406009, 0x407008, 0x407009, 0x408101,
        0x408102, 0x408103, 0x408106, 0x502004, 0x502005, 0x502006, 0x502007, 0x502009, 0x508003, 0x508004, 0x508005, 0x508006, 0x611003,
        0x613008, 0x613009, 0x61300A, 0x619004, 0x700306, 0x70030A, 0xB03004, 0xB04003, 0xD02004], [(0x612000, 0x613000, 256), (0x620000,
        0x624000, 256)]⟩
theorem kp_execCartridgeInserted {κ ν : Nat} (hq : Quiet kw_execCartridgeInserted κ ν) (ident : List Byte) {s : State} (hs : Holds κ ν s) :
        NextIs (Holds κ ν) (execCartridgeInserted ident s) := by
  have n0 : κ ≠ 0x203001 := hq.ne rfl
  have n1 : κ ≠ 0x20300C := hq.ne rfl
  unfold execCartridgeInserted
  simp (maxDischargeDepth := 40) +contextual only [hs, hd_mk, hd_fold, hd_ite, ite_self, implies_true, n0, n1, hd_bump, hd_put, hd_putBytes,
        hd_raise hq, kp_updateProtection (hq.mono rfl), kp_wakeBy (hq.mono rfl), nextIs_next, nextIs_ite, nextIs_fault, ne_eq,
        not_false_eq_true]

def kw_execDozeEntryStep : Writes := ⟨[0x302001, 0x302002, 0x302005, 0x302006, 0x404105, 0x404106, 0x406009, 0x407008, 0x407009, 0x408101,
        0x408102, 0x408103, 0x408106, 0x502004, 0x502005, 0x502006, 0x502007, 0x502009, 0x611003, 0x613008, 0x613009, 0x61300A, 0x614007,
        0x615007, 0x619004, 0x700306, 0x70030A, 0x70030D, 0xA00106, 0xB03004, 0xB04003, 0xD00101, 0xD00102, 0xD02001, 0xD02005, 0xD02006],
        [(0x612000, 0x613000, 256), (0x620000, 0x624000, 256)]⟩
theorem kp_execDozeEntryStep {κ ν : Nat} (hq : Quiet kw_execDozeEntryStep κ ν) {s : State} (hs : Holds κ ν s) : NextIs (Holds κ ν)
        (execDozeEntryStep s) := by
  unfold execDozeEntryStep
  (try simp (maxDischargeDepth := 40) +contextual only [hs, hd_mk, hd_fold, hd_ite, ite_self, implies_true, kp_abortPoint (hq.mono rfl),
        kp_dozeStep (hq.mono rfl), nextIs_next, nextIs_ite, nextIs_fault, ne_eq, not_false_eq_true])
  repeat' split
  all_goals first
    | (with_reducible exact hs)
    | (simp (maxDischargeDepth := 40) +contextual only [hs, hd_mk, hd_fold, hd_ite, ite_self, implies_true, kp_abortPoint (hq.mono rfl),
        kp_dozeStep (hq.mono rfl), nextIs_next, nextIs_ite, nextIs_fault, ne_eq, not_false_eq_true]; done)

theorem kp_execIdleTimer {κ ν : Nat} (hq : Quiet kw_none κ ν) {s : State} (hs : Holds κ ν s) : NextIs (Holds κ ν) (execIdleTimer s) := by
  unfold execIdleTimer
  simp (maxDischargeDepth := 40) +contextual only [hs, hd_mk, hd_fold, hd_ite, ite_self, implies_true, kp_startDoze (hq.mono rfl),
        nextIs_next, nextIs_ite, nextIs_fault, ne_eq, not_false_eq_true]

def kw_execWake : Writes := ⟨[0x205003, 0x301007, 0x301107, 0x402001, 0x402002, 0x404101, 0xA00106, 0xD00101, 0xD00102, 0xD02004], []⟩
theorem kp_execWake {κ ν : Nat} (hq : Quiet kw_execWake κ ν) (source : Fin 6) {s : State} (hs : Holds κ ν s) : NextIs (Holds κ ν) (execWake
        source s) := by
  unfold execWake
  simp (maxDischargeDepth := 40) +contextual only [hs, hd_mk, hd_fold, hd_ite, ite_self, implies_true, kp_wakeSource (hq.mono rfl),
        nextIs_next, nextIs_ite, nextIs_fault, ne_eq, not_false_eq_true]

def kw_execWakeN : Writes := ⟨[0x205003, 0x301007, 0x301107, 0x402001, 0x402002, 0x404101, 0xA00106, 0xD00101, 0xD00102, 0xD02004], []⟩
theorem kp_execWakeN {κ ν : Nat} (hq : Quiet kw_execWakeN κ ν) (widthNs : Nat) {s : State} (hs : Holds κ ν s) : NextIs (Holds κ ν)
        (execWakeN widthNs s) := by
  unfold execWakeN
  simp (maxDischargeDepth := 40) +contextual only [hs, hd_mk, hd_fold, hd_ite, ite_self, implies_true, kp_wakeSource (hq.mono rfl),
        nextIs_next, nextIs_ite, nextIs_fault, ne_eq, not_false_eq_true]

def kw_execServiceTimeLimit : Writes := ⟨[0x611003, 0x619004, 0xA00106, 0xD00101, 0xD00102], [(0x612000, 0x613000, 256), (0x620000,
        0x624000, 256)]⟩
theorem kp_execServiceTimeLimit {κ ν : Nat} (hq : Quiet kw_execServiceTimeLimit κ ν) {s : State} (hs : Holds κ ν s) : NextIs (Holds κ ν)
        (execServiceTimeLimit s) := by
  unfold execServiceTimeLimit
  simp (maxDischargeDepth := 40) +contextual only [hs, hd_mk, hd_fold, hd_ite, ite_self, implies_true, kp_leaveService (hq.mono rfl),
        nextIs_next, nextIs_ite, nextIs_fault, ne_eq, not_false_eq_true]

def kw_execScrub : Writes := ⟨[0x800101, 0x800102, 0x800103, 0x800104, 0x800105, 0x800106, 0x801002], []⟩
theorem kp_execScrub {κ ν : Nat} (hq : Quiet kw_execScrub κ ν) (mem : MemKind) (address : Nat) (result : CodeResult) {s : State} (hs : Holds
        κ ν s) : NextIs (Holds κ ν) (execScrub mem address result s) := by
  unfold execScrub
  (try simp (maxDischargeDepth := 40) +contextual only [hs, hd_mk, hd_fold, hd_ite, ite_self, implies_true, kp_detectError (hq.mono rfl),
        kp_dropBlockAt (hq.mono rfl), nextIs_next, nextIs_ite, nextIs_fault, ne_eq, not_false_eq_true])
  repeat' split
  all_goals first
    | (with_reducible exact hs)
    | (simp (maxDischargeDepth := 40) +contextual only [hs, hd_mk, hd_fold, hd_ite, ite_self, implies_true, kp_detectError (hq.mono rfl),
        kp_dropBlockAt (hq.mono rfl), nextIs_next, nextIs_ite, nextIs_fault, ne_eq, not_false_eq_true]; done)

def kw_execUncorrectableError : Writes := ⟨[0x203009, 0x205003, 0x301001, 0x301002, 0x301003, 0x301004, 0x301005, 0x301006, 0x301007,
        0x301008, 0x301101, 0x301102, 0x301103, 0x301104, 0x301105, 0x301106, 0x301107, 0x301108, 0x302001, 0x302002, 0x302003, 0x302004,
        0x302005, 0x302006, 0x404101, 0x404105, 0x404106, 0x406009, 0x407008, 0x407009, 0x408101, 0x408102, 0x408103, 0x408106, 0x502004,
        0x502005, 0x502006, 0x502007, 0x502009, 0x508003, 0x508004, 0x508005, 0x508006, 0x611003, 0x611007, 0x613008, 0x613009, 0x61300A,
        0x619004, 0x700301, 0x700302, 0x700303, 0x700304, 0x700305, 0x700306, 0x70030A, 0x70030C, 0x800101, 0x800102, 0x800103, 0x800104,
        0x800105, 0x800106, 0x800108, 0x801002, 0x900104, 0xA00106, 0xB03004, 0xB04003, 0xC00104, 0xD00101, 0xD00102, 0xD02001, 0xD04001,
        0xD06001, 0xD06002, 0xD06003, 0xD06004, 0xD06005, 0xD06006, 0xD06007], [(0x612000, 0x613000, 256), (0x620000, 0x624000, 256),
        (0xD04002, 0xD0400A, 256)]⟩
theorem kp_execUncorrectableError {κ ν : Nat} (hq : Quiet kw_execUncorrectableError κ ν) (what : Structure) {s : State} (hs : Holds κ ν s) :
        NextIs (Holds κ ν) (execUncorrectableError what s) := by
  unfold execUncorrectableError
  simp (maxDischargeDepth := 40) +contextual only [hs, hd_mk, hd_fold, hd_ite, ite_self, implies_true, kp_structureError (hq.mono rfl),
        nextIs_next, nextIs_ite, nextIs_fault, ne_eq, not_false_eq_true]

def kw_execCriticalStateError : Writes := ⟨[0x203009, 0x205003, 0x301001, 0x301002, 0x301003, 0x301004, 0x301005, 0x301006, 0x301007,
        0x301008, 0x301101, 0x301102, 0x301103, 0x301104, 0x301105, 0x301106, 0x301107, 0x301108, 0x302001, 0x302002, 0x302003, 0x302004,
        0x302005, 0x302006, 0x404101, 0x404105, 0x404106, 0x406009, 0x407008, 0x407009, 0x408101, 0x408102, 0x408103, 0x408106, 0x502004,
        0x502005, 0x502006, 0x502007, 0x502009, 0x508003, 0x508004, 0x508005, 0x508006, 0x611003, 0x611007, 0x619004, 0x800108, 0x900104,
        0xA00106, 0xB03004, 0xB04003, 0xD00101, 0xD00102, 0xD02001, 0xD04001, 0xD06001, 0xD06002, 0xD06003, 0xD06004, 0xD06005, 0xD06006,
        0xD06007], [(0x612000, 0x613000, 256), (0x620000, 0x624000, 256), (0xD04002, 0xD0400A, 256)]⟩
theorem kp_execCriticalStateError {κ ν : Nat} (hq : Quiet kw_execCriticalStateError κ ν) {s : State} (hs : Holds κ ν s) : NextIs (Holds κ ν)
        (execCriticalStateError s) := by
  unfold execCriticalStateError
  simp (maxDischargeDepth := 40) +contextual only [hs, hd_mk, hd_fold, hd_ite, ite_self, implies_true, kp_criticalError (hq.mono rfl),
        nextIs_next, nextIs_ite, nextIs_fault, ne_eq, not_false_eq_true]

def kw_execRowSelfTest : Writes := ⟨[0x802005, 0x803001, 0x803002, 0x803003], []⟩
theorem kp_execRowSelfTest {κ ν : Nat} (hq : Quiet kw_execRowSelfTest κ ν) (mem : MemKind) (row : Nat) (pass : Bool) {s : State} (hs : Holds
        κ ν s) : NextIs (Holds κ ν) (execRowSelfTest mem row pass s) := by
  have n0 : κ ≠ 0x803001 := hq.ne rfl
  unfold execRowSelfTest
  simp (maxDischargeDepth := 40) +contextual only [hs, hd_mk, hd_fold, hd_ite, ite_self, implies_true, n0, hd_bump, kp_lastingRow (hq.mono
        rfl), hd_raise hq, kp_transientOutcome (hq.mono rfl), nextIs_next, nextIs_ite, nextIs_fault, ne_eq, not_false_eq_true]

def kw_execSectorSelfTest : Writes := ⟨[0x611003, 0x617005, 0x619004, 0x803001, 0x803002, 0x803003, 0x803004], [(0x612000, 0x613000, 256),
        (0x620000, 0x624000, 256)]⟩
theorem kp_execSectorSelfTest {κ ν : Nat} (hq : Quiet kw_execSectorSelfTest κ ν) (unit page sector : Nat) (rereadPasses patternPasses :
        Bool) {s : State} (hs : Holds κ ν s) : NextIs (Holds κ ν) (execSectorSelfTest unit page sector rereadPasses patternPasses s) := by
  have n0 : κ ≠ 0x803001 := hq.ne rfl
  have n1 : κ ≠ 0x803004 := hq.ne rfl
  unfold execSectorSelfTest
  (try simp (maxDischargeDepth := 40) +contextual only [hs, hd_mk, hd_fold, hd_ite, ite_self, implies_true, n0, n1, hd_bump, kp_borrowUnit
        (hq.mono rfl), kp_lastingSector (hq.mono rfl), hd_raise hq, kp_refreshSector (hq.mono rfl), kp_sectorProgrammed (hq.mono rfl),
        kp_setOutcome (hq.mono rfl), kp_setUnitState (hq.mono rfl), kp_transientSector (hq.mono rfl), nextIs_next, nextIs_ite, nextIs_fault,
        ne_eq, not_false_eq_true])
  repeat' split
  all_goals first
    | (with_reducible exact hs)
    | (simp (maxDischargeDepth := 40) +contextual only [hs, hd_mk, hd_fold, hd_ite, ite_self, implies_true, n0, n1, hd_bump, kp_borrowUnit
        (hq.mono rfl), kp_lastingSector (hq.mono rfl), hd_raise hq, kp_refreshSector (hq.mono rfl), kp_sectorProgrammed (hq.mono rfl),
        kp_setOutcome (hq.mono rfl), kp_setUnitState (hq.mono rfl), kp_transientSector (hq.mono rfl), nextIs_next, nextIs_ite, nextIs_fault,
        ne_eq, not_false_eq_true]; done)

def kw_execSlowRound : Writes := ⟨[0x200101, 0x200104, 0x203002, 0x203005, 0x20300D, 0x301005, 0x301006, 0x301008, 0x301105, 0x301106,
        0x301108, 0x302001, 0x302002, 0x302003, 0x302004, 0x302005, 0x302006, 0x402001, 0x402002, 0x404105, 0x404106, 0x406009, 0x407008,
        0x407009, 0x408101, 0x408102, 0x408103, 0x408106, 0x502004, 0x502005, 0x502006, 0x502007, 0x502009, 0x508003, 0x508004, 0x508005,
        0x508006, 0x611003, 0x613008, 0x613009, 0x61300A, 0x619004, 0x700306, 0x70030A, 0x900101, 0x900102, 0x900103, 0x900104, 0x900105,
        0x900108, 0x903001, 0x903002, 0xB03004, 0xB04003, 0xD02004], [(0x201001, 0x20100E, 256), (0x612000, 0x613000, 256), (0x616101,
        0x616111, 256), (0x620000, 0x624000, 256), (0x902001, 0x902031, 256), (0x904001, 0x904011, 256), (0x904101, 0x904111, 256)]⟩
theorem kp_execSlowRound {κ ν : Nat} (hq : Quiet kw_execSlowRound κ ν) (channels : List (Option Int)) {s : State} (hs : Holds κ ν s) :
        NextIs (Holds κ ν) (execSlowRound channels s) := by
  unfold execSlowRound
  simp (maxDischargeDepth := 40) +contextual only [hs, hd_mk, hd_fold, hd_ite, ite_self, implies_true, kp_slowRound (hq.mono rfl),
        nextIs_next, nextIs_ite, nextIs_fault, ne_eq, not_false_eq_true]

def kw_execDieTemperatureRead : Writes := ⟨[0x203009, 0x205003, 0x301001, 0x301002, 0x301003, 0x301004, 0x301005, 0x301006, 0x301008,
        0x301101, 0x301102, 0x301103, 0x301104, 0x301105, 0x301106, 0x301108, 0x302001, 0x302002, 0x302003, 0x302004, 0x302005, 0x302006,
        0x404105, 0x404106, 0x406009, 0x407008, 0x407009, 0x408101, 0x408102, 0x408103, 0x408106, 0x502004, 0x502005, 0x502006, 0x502007,
        0x502009, 0x508003, 0x508004, 0x508005, 0x508006, 0x611003, 0x611007, 0x619004, 0x900104, 0x900107, 0xA00106, 0xB03004, 0xB04003,
        0xD00101, 0xD00102, 0xD02001, 0xD06001, 0xD06002, 0xD06003, 0xD06004, 0xD06005, 0xD06006, 0xD06007], [(0x612000, 0x613000, 256),
        (0x620000, 0x624000, 256)]⟩
theorem kp_execDieTemperatureRead {κ ν : Nat} (hq : Quiet kw_execDieTemperatureRead κ ν) (die : Fin 64) (celsius : Int) {s : State} (hs :
        Holds κ ν s) : NextIs (Holds κ ν) (execDieTemperatureRead die celsius s) := by
  unfold execDieTemperatureRead
  simp (maxDischargeDepth := 40) +contextual only [hs, hd_mk, hd_fold, hd_ite, ite_self, implies_true, kp_lockOut (hq.mono rfl), nextIs_next,
        nextIs_ite, nextIs_fault, ne_eq, not_false_eq_true]

def kw_execThrottleCleared : Writes := ⟨[0x900103, 0x900104, 0x900106], []⟩
theorem kp_execThrottleCleared {κ ν : Nat} (hq : Quiet kw_execThrottleCleared κ ν) {s : State} (hs : Holds κ ν s) : NextIs (Holds κ ν)
        (execThrottleCleared s) := by
  unfold execThrottleCleared
  simp (maxDischargeDepth := 40) +contextual only [hs, hd_mk, hd_fold, hd_ite, ite_self, implies_true, kp_clearThrottle (hq.mono rfl),
        nextIs_next, nextIs_ite, nextIs_fault, ne_eq, not_false_eq_true]

def kw_execEnforcementLevel : Writes := ⟨[0x408106, 0x900103, 0x900104], []⟩
theorem kp_execEnforcementLevel {κ ν : Nat} (hq : Quiet kw_execEnforcementLevel κ ν) {s : State} (hs : Holds κ ν s) : NextIs (Holds κ ν)
        (execEnforcementLevel s) := by
  unfold execEnforcementLevel
  simp (maxDischargeDepth := 40) +contextual only [hs, hd_mk, hd_fold, hd_ite, ite_self, implies_true, kp_raiseLevel (hq.mono rfl),
        nextIs_next, nextIs_ite, nextIs_fault, ne_eq, not_false_eq_true]

def kw_execLockout : Writes := ⟨[0x203009, 0x205003, 0x301001, 0x301002, 0x301003, 0x301004, 0x301005, 0x301006, 0x301008, 0x301101,
        0x301102, 0x301103, 0x301104, 0x301105, 0x301106, 0x301108, 0x302001, 0x302002, 0x302003, 0x302004, 0x302005, 0x302006, 0x404105,
        0x404106, 0x406009, 0x407008, 0x407009, 0x408101, 0x408102, 0x408103, 0x408106, 0x502004, 0x502005, 0x502006, 0x502007, 0x502009,
        0x508003, 0x508004, 0x508005, 0x508006, 0x611003, 0x611007, 0x619004, 0x900104, 0x900107, 0xA00106, 0xB03004, 0xB04003, 0xD00101,
        0xD00102, 0xD02001, 0xD06001, 0xD06002, 0xD06003, 0xD06004, 0xD06005, 0xD06006, 0xD06007], [(0x612000, 0x613000, 256), (0x620000,
        0x624000, 256)]⟩
theorem kp_execLockout {κ ν : Nat} (hq : Quiet kw_execLockout κ ν) {s : State} (hs : Holds κ ν s) : NextIs (Holds κ ν) (execLockout s) := by
  unfold execLockout
  simp (maxDischargeDepth := 40) +contextual only [hs, hd_mk, hd_fold, hd_ite, ite_self, implies_true, kp_lockOut (hq.mono rfl), nextIs_next,
        nextIs_ite, nextIs_fault, ne_eq, not_false_eq_true]

def kw_execWindowAccess : Writes := ⟨[0x301008, 0x301108, 0x302001, 0x302002, 0x302003, 0x302004, 0x302005, 0x302006, 0x404105, 0x404106,
        0x406009, 0x407008, 0x407009, 0x408101, 0x408102, 0x408103, 0x408106, 0x502004, 0x502005, 0x502006, 0x502007, 0x502009, 0x508003,
        0x508004, 0x508005, 0x508006, 0x611003, 0x619004, 0xB03004, 0xB03005, 0xB04003], [(0x612000, 0x613000, 256), (0x620000, 0x624000,
        256)]⟩
theorem kp_execWindowAccess {κ ν : Nat} (hq : Quiet kw_execWindowAccess κ ν) (p : Port) (tag dpa : Nat) (op : WindowOp) {s : State} (hs :
        Holds κ ν s) : NextIs (Holds κ ν) (execWindowAccess p tag dpa op s) := by
  unfold execWindowAccess
  (try simp (maxDischargeDepth := 40) +contextual only [hs, hd_mk, hd_fold, hd_ite, ite_self, implies_true, kp_windowRead (hq.mono rfl),
        kp_windowWrite (hq.mono rfl), nextIs_next, nextIs_ite, nextIs_fault, ne_eq, not_false_eq_true])
  repeat' split
  all_goals first
    | (with_reducible exact hs)
    | (simp (maxDischargeDepth := 40) +contextual only [hs, hd_mk, hd_fold, hd_ite, ite_self, implies_true, kp_windowRead (hq.mono rfl),
        kp_windowWrite (hq.mono rfl), nextIs_next, nextIs_ite, nextIs_fault, ne_eq, not_false_eq_true]; done)

def kw_execGroupControlRead : Writes := ⟨[0x301008, 0x301108, 0x302001, 0x302002, 0x302003, 0x302004, 0x302005, 0x302006, 0x404105,
        0x404106, 0x406009, 0x407008, 0x407009, 0x408101, 0x408102, 0x408103, 0x408106, 0x502004, 0x502005, 0x502006, 0x502007, 0x502009,
        0x508003, 0x508004, 0x508005, 0x508006, 0x611003, 0x619004, 0xB03004, 0xB03005, 0xB04003], [(0x612000, 0x613000, 256), (0x620000,
        0x624000, 256)]⟩
theorem kp_execGroupControlRead {κ ν : Nat} (hq : Quiet kw_execGroupControlRead κ ν) (p : Port) (tag : Nat) (g : Fin 262144) {s : State} (hs
        : Holds κ ν s) : NextIs (Holds κ ν) (execGroupControlRead p tag g s) := by
  unfold execGroupControlRead
  simp (maxDischargeDepth := 40) +contextual only [hs, hd_mk, hd_fold, hd_ite, ite_self, implies_true, kp_windowRead (hq.mono rfl),
        nextIs_next, nextIs_ite, nextIs_fault, ne_eq, not_false_eq_true]

def kw_execOpenGroup : Writes := ⟨[0x301008, 0x301108, 0x302001, 0x302002, 0x302003, 0x302004, 0x302005, 0x302006, 0x404105, 0x404106,
        0x406009, 0x407008, 0x407009, 0x408101, 0x408102, 0x408103, 0x408106, 0x502004, 0x502005, 0x502006, 0x502007, 0x502009, 0x508003,
        0x508004, 0x508005, 0x508006, 0x611003, 0x619004, 0xB03004, 0xB03005, 0xB04003], [(0x612000, 0x613000, 256), (0x620000, 0x624000,
        256)]⟩
theorem kp_execOpenGroup {κ ν : Nat} (hq : Quiet kw_execOpenGroup κ ν) (p : Port) (tag : Nat) (g : Fin 262144) (a b : Option Word) {s :
        State} (hs : Holds κ ν s) : NextIs (Holds κ ν) (execOpenGroup p tag g a b s) := by
  unfold execOpenGroup
  simp (maxDischargeDepth := 40) +contextual only [hs, hd_mk, hd_fold, hd_ite, ite_self, implies_true, kp_groupCommandWrite (hq.mono rfl),
        nextIs_next, nextIs_ite, nextIs_fault, ne_eq, not_false_eq_true]

def kw_execBindGroup : Writes := ⟨[0x301008, 0x301108, 0x302001, 0x302002, 0x302003, 0x302004, 0x302005, 0x302006, 0x404105, 0x404106,
        0x406009, 0x407008, 0x407009, 0x408101, 0x408102, 0x408103, 0x408106, 0x502004, 0x502005, 0x502006, 0x502007, 0x502009, 0x508003,
        0x508004, 0x508005, 0x508006, 0x611003, 0x619004, 0xB03004, 0xB03005, 0xB04003], [(0x612000, 0x613000, 256), (0x620000, 0x624000,
        256)]⟩
theorem kp_execBindGroup {κ ν : Nat} (hq : Quiet kw_execBindGroup κ ν) (p : Port) (tag : Nat) (g : Fin 262144) (a b : Option Word) {s :
        State} (hs : Holds κ ν s) : NextIs (Holds κ ν) (execBindGroup p tag g a b s) := by
  unfold execBindGroup
  simp (maxDischargeDepth := 40) +contextual only [hs, hd_mk, hd_fold, hd_ite, ite_self, implies_true, kp_groupCommandWrite (hq.mono rfl),
        nextIs_next, nextIs_ite, nextIs_fault, ne_eq, not_false_eq_true]

def kw_execCommitGroup : Writes := ⟨[0x301008, 0x301108, 0x302001, 0x302002, 0x302003, 0x302004, 0x302005, 0x302006, 0x404105, 0x404106,
        0x406009, 0x407008, 0x407009, 0x408101, 0x408102, 0x408103, 0x408106, 0x502004, 0x502005, 0x502006, 0x502007, 0x502009, 0x508003,
        0x508004, 0x508005, 0x508006, 0x611003, 0x619004, 0xB03004, 0xB03005, 0xB04003], [(0x612000, 0x613000, 256), (0x620000, 0x624000,
        256)]⟩
theorem kp_execCommitGroup {κ ν : Nat} (hq : Quiet kw_execCommitGroup κ ν) (p : Port) (tag : Nat) (g : Fin 262144) (a b : Option Word) {s :
        State} (hs : Holds κ ν s) : NextIs (Holds κ ν) (execCommitGroup p tag g a b s) := by
  unfold execCommitGroup
  simp (maxDischargeDepth := 40) +contextual only [hs, hd_mk, hd_fold, hd_ite, ite_self, implies_true, kp_groupCommandWrite (hq.mono rfl),
        nextIs_next, nextIs_ite, nextIs_fault, ne_eq, not_false_eq_true]

def kw_execAbortGroup : Writes := ⟨[0x301008, 0x301108, 0x302001, 0x302002, 0x302003, 0x302004, 0x302005, 0x302006, 0x404105, 0x404106,
        0x406009, 0x407008, 0x407009, 0x408101, 0x408102, 0x408103, 0x408106, 0x502004, 0x502005, 0x502006, 0x502007, 0x502009, 0x508003,
        0x508004, 0x508005, 0x508006, 0x611003, 0x619004, 0xB03004, 0xB03005, 0xB04003], [(0x612000, 0x613000, 256), (0x620000, 0x624000,
        256)]⟩
theorem kp_execAbortGroup {κ ν : Nat} (hq : Quiet kw_execAbortGroup κ ν) (p : Port) (tag : Nat) (g : Fin 262144) (a b : Option Word) {s :
        State} (hs : Holds κ ν s) : NextIs (Holds κ ν) (execAbortGroup p tag g a b s) := by
  unfold execAbortGroup
  simp (maxDischargeDepth := 40) +contextual only [hs, hd_mk, hd_fold, hd_ite, ite_self, implies_true, kp_groupCommandWrite (hq.mono rfl),
        nextIs_next, nextIs_ite, nextIs_fault, ne_eq, not_false_eq_true]

def kw_execReleaseGroup : Writes := ⟨[0x301008, 0x301108, 0x302001, 0x302002, 0x302003, 0x302004, 0x302005, 0x302006, 0x404105, 0x404106,
        0x406009, 0x407008, 0x407009, 0x408101, 0x408102, 0x408103, 0x408106, 0x502004, 0x502005, 0x502006, 0x502007, 0x502009, 0x508003,
        0x508004, 0x508005, 0x508006, 0x611003, 0x619004, 0xB03004, 0xB03005, 0xB04003], [(0x612000, 0x613000, 256), (0x620000, 0x624000,
        256)]⟩
theorem kp_execReleaseGroup {κ ν : Nat} (hq : Quiet kw_execReleaseGroup κ ν) (p : Port) (tag : Nat) (g : Fin 262144) (a b : Option Word) {s
        : State} (hs : Holds κ ν s) : NextIs (Holds κ ν) (execReleaseGroup p tag g a b s) := by
  unfold execReleaseGroup
  simp (maxDischargeDepth := 40) +contextual only [hs, hd_mk, hd_fold, hd_ite, ite_self, implies_true, kp_groupCommandWrite (hq.mono rfl),
        nextIs_next, nextIs_ite, nextIs_fault, ne_eq, not_false_eq_true]

def kw_execUnassignedGroupCommand : Writes := ⟨[0x301008, 0x301108, 0x302001, 0x302002, 0x302003, 0x302004, 0x302005, 0x302006, 0x404105,
        0x404106, 0x406009, 0x407008, 0x407009, 0x408101, 0x408102, 0x408103, 0x408106, 0x502004, 0x502005, 0x502006, 0x502007, 0x502009,
        0x508003, 0x508004, 0x508005, 0x508006, 0x611003, 0x619004, 0xB03004, 0xB03005, 0xB04003], [(0x612000, 0x613000, 256), (0x620000,
        0x624000, 256)]⟩
theorem kp_execUnassignedGroupCommand {κ ν : Nat} (hq : Quiet kw_execUnassignedGroupCommand κ ν) (p : Port) (tag : Nat) (g : Fin 262144)
        (code : Byte) (a b : Option Word) {s : State} (hs : Holds κ ν s) : NextIs (Holds κ ν) (execUnassignedGroupCommand p tag g code a b
        s) := by
  unfold execUnassignedGroupCommand
  simp (maxDischargeDepth := 40) +contextual only [hs, hd_mk, hd_fold, hd_ite, ite_self, implies_true, kp_groupCommandWrite (hq.mono rfl),
        nextIs_next, nextIs_ite, nextIs_fault, ne_eq, not_false_eq_true]

def kw_execCommitInstant : Writes := ⟨[0x302005, 0x302006, 0x502004, 0x502006, 0x611003, 0x619004, 0xB03004, 0xB04003], [(0x612000,
        0x613000, 256), (0x620000, 0x624000, 256)]⟩
theorem kp_execCommitInstant {κ ν : Nat} (hq : Quiet kw_execCommitInstant κ ν) (g : Fin 262144) {s : State} (hs : Holds κ ν s) : NextIs
        (Holds κ ν) (execCommitInstant g s) := by
  unfold execCommitInstant
  simp (maxDischargeDepth := 40) +contextual only [hs, hd_mk, hd_fold, hd_ite, ite_self, implies_true, kp_decideCommit (hq.mono rfl),
        nextIs_next, nextIs_ite, nextIs_fault, ne_eq, not_false_eq_true]

def kw_execGroupCommandFinish : Writes := ⟨[0x301001, 0x301002, 0x301003, 0x301008, 0x301101, 0x301102, 0x301103, 0x301108, 0x302001,
        0x302002, 0x302003, 0x302004, 0x302005, 0x302006, 0x404105, 0x404106, 0x406009, 0x407008, 0x407009, 0x408101, 0x408102, 0x408103,
        0x408106, 0x502004, 0x502005, 0x502006, 0x502007, 0x502009, 0x508003, 0x508004, 0x508005, 0x508006, 0x611003, 0x619004, 0xB03004,
        0xB04003], [(0x612000, 0x613000, 256), (0x620000, 0x624000, 256)]⟩
theorem kp_execGroupCommandFinish {κ ν : Nat} (hq : Quiet kw_execGroupCommandFinish κ ν) (g : Fin 262144) {s : State} (hs : Holds κ ν s) :
        NextIs (Holds κ ν) (execGroupCommandFinish g s) := by
  unfold execGroupCommandFinish
  simp (maxDischargeDepth := 40) +contextual only [hs, hd_mk, hd_fold, hd_ite, ite_self, implies_true, kp_finishCommand (hq.mono rfl), kp_goOn
        (hq.mono rfl), nextIs_next, nextIs_ite, nextIs_fault, ne_eq, not_false_eq_true]

def kw_execReserveRead : Writes := ⟨[0x301008, 0x301108, 0x302001, 0x302002, 0x302003, 0x302004, 0x302005, 0x302006, 0x404105, 0x404106,
        0x406009, 0x407008, 0x407009, 0x408101, 0x408102, 0x408103, 0x408106, 0x502004, 0x502005, 0x502006, 0x502007, 0x502009, 0x508003,
        0x508004, 0x508005, 0x508006, 0x611003, 0x619004, 0xB03004, 0xB03005, 0xB04003], [(0x612000, 0x613000, 256), (0x620000, 0x624000,
        256)]⟩
theorem kp_execReserveRead {κ ν : Nat} (hq : Quiet kw_execReserveRead κ ν) (p : Port) (tag : Nat) (cell : Fin 16384) {s : State} (hs : Holds
        κ ν s) : NextIs (Holds κ ν) (execReserveRead p tag cell s) := by
  unfold execReserveRead
  simp (maxDischargeDepth := 40) +contextual only [hs, hd_mk, hd_fold, hd_ite, ite_self, implies_true, kp_windowRead (hq.mono rfl),
        nextIs_next, nextIs_ite, nextIs_fault, ne_eq, not_false_eq_true]

def kw_execConditionalStore : Writes := ⟨[0x301008, 0x301108, 0x302001, 0x302002, 0x302003, 0x302004, 0x302005, 0x302006, 0x404105,
        0x404106, 0x406009, 0x407008, 0x407009, 0x408101, 0x408102, 0x408103, 0x408106, 0x502004, 0x502005, 0x502006, 0x502007, 0x502009,
        0x508003, 0x508004, 0x508005, 0x508006, 0x611003, 0x619004, 0xB03004, 0xB03005, 0xB04003], [(0x612000, 0x613000, 256), (0x620000,
        0x624000, 256)]⟩
theorem kp_execConditionalStore {κ ν : Nat} (hq : Quiet kw_execConditionalStore κ ν) (p : Port) (tag : Nat) (cell : Fin 16384) (be :
        ByteEnables) (data : Line) {s : State} (hs : Holds κ ν s) : NextIs (Holds κ ν) (execConditionalStore p tag cell be data s) := by
  unfold execConditionalStore
  simp (maxDischargeDepth := 40) +contextual only [hs, hd_mk, hd_fold, hd_ite, ite_self, implies_true, kp_windowWrite (hq.mono rfl),
        nextIs_next, nextIs_ite, nextIs_fault, ne_eq, not_false_eq_true]

def kw_execPlainCellStore : Writes := ⟨[0x301008, 0x301108, 0x302001, 0x302002, 0x302003, 0x302004, 0x302005, 0x302006, 0x404105, 0x404106,
        0x406009, 0x407008, 0x407009, 0x408101, 0x408102, 0x408103, 0x408106, 0x502004, 0x502005, 0x502006, 0x502007, 0x502009, 0x508003,
        0x508004, 0x508005, 0x508006, 0x611003, 0x619004, 0xB03004, 0xB03005, 0xB04003], [(0x612000, 0x613000, 256), (0x620000, 0x624000,
        256)]⟩
theorem kp_execPlainCellStore {κ ν : Nat} (hq : Quiet kw_execPlainCellStore κ ν) (p : Port) (tag : Nat) (cell : Fin 16384) (be :
        ByteEnables) (data : Line) {s : State} (hs : Holds κ ν s) : NextIs (Holds κ ν) (execPlainCellStore p tag cell be data s) := by
  unfold execPlainCellStore
  simp (maxDischargeDepth := 40) +contextual only [hs, hd_mk, hd_fold, hd_ite, ite_self, implies_true, kp_windowWrite (hq.mono rfl),
        nextIs_next, nextIs_ite, nextIs_fault, ne_eq, not_false_eq_true]

def kw_execResultRead : Writes := ⟨[0x301008, 0x301108, 0x302001, 0x302002, 0x302003, 0x302004, 0x302005, 0x302006, 0x404105, 0x404106,
        0x406009, 0x407008, 0x407009, 0x408101, 0x408102, 0x408103, 0x408106, 0x502004, 0x502005, 0x502006, 0x502007, 0x502009, 0x508003,
        0x508004, 0x508005, 0x508006, 0x611003, 0x619004, 0xB03004, 0xB03005, 0xB04003], [(0x612000, 0x613000, 256), (0x620000, 0x624000,
        256)]⟩
theorem kp_execResultRead {κ ν : Nat} (hq : Quiet kw_execResultRead κ ν) (p : Port) (tag : Nat) (cell : Fin 16384) {s : State} (hs : Holds κ
        ν s) : NextIs (Holds κ ν) (execResultRead p tag cell s) := by
  unfold execResultRead
  simp (maxDischargeDepth := 40) +contextual only [hs, hd_mk, hd_fold, hd_ite, ite_self, implies_true, kp_windowRead (hq.mono rfl),
        nextIs_next, nextIs_ite, nextIs_fault, ne_eq, not_false_eq_true]

def kw_execDiscard : Writes := ⟨[0x301008, 0x301108, 0x302001, 0x302002, 0x302003, 0x302004, 0x302005, 0x302006, 0x404105, 0x404106,
        0x406009, 0x407008, 0x407009, 0x408101, 0x408102, 0x408103, 0x408106, 0x502004, 0x502005, 0x502006, 0x502007, 0x502009, 0x508003,
        0x508004, 0x508005, 0x508006, 0x611003, 0x619004, 0xB03004, 0xB03005, 0xB04003], [(0x612000, 0x613000, 256), (0x620000, 0x624000,
        256)]⟩
theorem kp_execDiscard {κ ν : Nat} (hq : Quiet kw_execDiscard κ ν) (p : Port) (tag : Nat) (start length : Option Word) {s : State} (hs :
        Holds κ ν s) : NextIs (Holds κ ν) (execDiscard p tag start length s) := by
  unfold execDiscard
  simp (maxDischargeDepth := 40) +contextual only [hs, hd_mk, hd_fold, hd_ite, ite_self, implies_true, kp_windowWrite (hq.mono rfl),
        nextIs_next, nextIs_ite, nextIs_fault, ne_eq, not_false_eq_true]

def kw_execDiscardInstant : Writes := ⟨[0x302005, 0x302006, 0x611003, 0x619004, 0xB03004, 0xB04003], [(0x612000, 0x613000, 256), (0x620000,
        0x624000, 256)]⟩
theorem kp_execDiscardInstant {κ ν : Nat} (hq : Quiet kw_execDiscardInstant κ ν) (p : Port) {s : State} (hs : Holds κ ν s) : NextIs (Holds κ
        ν) (execDiscardInstant p s) := by
  unfold execDiscardInstant
  (try simp (maxDischargeDepth := 40) +contextual only [hs, hd_mk, hd_fold, hd_ite, ite_self, implies_true, kp_finishDiscard (hq.mono rfl),
        nextIs_next, nextIs_ite, nextIs_fault, ne_eq, not_false_eq_true])
  repeat' split
  all_goals first
    | (with_reducible exact hs)
    | (simp (maxDischargeDepth := 40) +contextual only [hs, hd_mk, hd_fold, hd_ite, ite_self, implies_true, kp_finishDiscard (hq.mono rfl),
        nextIs_next, nextIs_ite, nextIs_fault, ne_eq, not_false_eq_true]; done)

theorem kp_execUnmapperDone {κ ν : Nat} (hq : Quiet kw_none κ ν) (entry : Nat) {s : State} (hs : Holds κ ν s) : NextIs (Holds κ ν)
        (execUnmapperDone entry s) := by
  unfold execUnmapperDone
  simp (maxDischargeDepth := 40) +contextual only [hs, hd_mk, hd_fold, hd_ite, ite_self, implies_true, kp_unmap (hq.mono rfl), nextIs_next,
        nextIs_ite, nextIs_fault, ne_eq, not_false_eq_true]

def kw_execUserCounterWindowRead : Writes := ⟨[0x301008, 0x301108, 0x302001, 0x302002, 0x302003, 0x302004, 0x302005, 0x302006, 0x404105,
        0x404106, 0x406009, 0x407008, 0x407009, 0x408101, 0x408102, 0x408103, 0x408106, 0x502004, 0x502005, 0x502006, 0x502007, 0x502009,
        0x508003, 0x508004, 0x508005, 0x508006, 0x611003, 0x619004, 0xB03004, 0xB03005, 0xB04003], [(0x612000, 0x613000, 256), (0x620000,
        0x624000, 256)]⟩
theorem kp_execUserCounterWindowRead {κ ν : Nat} (hq : Quiet kw_execUserCounterWindowRead κ ν) (p : Port) (tag : Nat) (lineIndex : Fin 64)
        {s : State} (hs : Holds κ ν s) : NextIs (Holds κ ν) (execUserCounterWindowRead p tag lineIndex s) := by
  unfold execUserCounterWindowRead
  simp (maxDischargeDepth := 40) +contextual only [hs, hd_mk, hd_fold, hd_ite, ite_self, implies_true, kp_windowRead (hq.mono rfl),
        nextIs_next, nextIs_ite, nextIs_fault, ne_eq, not_false_eq_true]

def kw_execGlobalPersistentFlushPhase1 : Writes := ⟨[0x302001, 0x302002, 0x302005, 0x302006, 0x404105, 0x404106, 0x406009, 0x407008,
        0x407009, 0x408101, 0x408102, 0x408103, 0x408106, 0x502007, 0x611003, 0x619004, 0xB03004, 0xB04003], [(0x612000, 0x613000, 256),
        (0x620000, 0x624000, 256)]⟩
theorem kp_execGlobalPersistentFlushPhase1 {κ ν : Nat} (hq : Quiet kw_execGlobalPersistentFlushPhase1 κ ν) (p : Port) {s : State} (hs :
        Holds κ ν s) : NextIs (Holds κ ν) (execGlobalPersistentFlushPhase1 p s) := by
  unfold execGlobalPersistentFlushPhase1
  simp (maxDischargeDepth := 40) +contextual only [hs, hd_mk, hd_fold, hd_ite, ite_self, implies_true, kp_flush (hq.mono rfl), nextIs_next,
        nextIs_ite, nextIs_fault, ne_eq, not_false_eq_true]

def kw_execGlobalPersistentFlushPhase2 : Writes := ⟨[0x302001, 0x302002, 0x302005, 0x302006, 0x404105, 0x404106, 0x406009, 0x407008,
        0x407009, 0x408101, 0x408102, 0x408103, 0x408106, 0x502007, 0x611003, 0x619004, 0xB03004, 0xB04003], [(0x612000, 0x613000, 256),
        (0x620000, 0x624000, 256)]⟩
theorem kp_execGlobalPersistentFlushPhase2 {κ ν : Nat} (hq : Quiet kw_execGlobalPersistentFlushPhase2 κ ν) (p : Port) {s : State} (hs :
        Holds κ ν s) : NextIs (Holds κ ν) (execGlobalPersistentFlushPhase2 p s) := by
  unfold execGlobalPersistentFlushPhase2
  simp (maxDischargeDepth := 40) +contextual only [hs, hd_mk, hd_fold, hd_ite, ite_self, implies_true, kp_flush (hq.mono rfl), nextIs_next,
        nextIs_ite, nextIs_fault, ne_eq, not_false_eq_true]

def kw_execDmaDescriptorWrite : Writes := ⟨[0x301008, 0x301108, 0x302001, 0x302002, 0x302003, 0x302004, 0x302005, 0x302006, 0x404105,
        0x404106, 0x406009, 0x407008, 0x407009, 0x408101, 0x408102, 0x408103, 0x408106, 0x502004, 0x502005, 0x502006, 0x502007, 0x502009,
        0x508003, 0x508004, 0x508005, 0x508006, 0x611003, 0x619004, 0xB03004, 0xB03005, 0xB04003], [(0x612000, 0x613000, 256), (0x620000,
        0x624000, 256)]⟩
theorem kp_execDmaDescriptorWrite {κ ν : Nat} (hq : Quiet kw_execDmaDescriptorWrite κ ν) (p : Port) (tag : Nat) (ch : Fin 16) (be :
        ByteEnables) (data : Line) {s : State} (hs : Holds κ ν s) : NextIs (Holds κ ν) (execDmaDescriptorWrite p tag ch be data s) := by
  unfold execDmaDescriptorWrite
  simp (maxDischargeDepth := 40) +contextual only [hs, hd_mk, hd_fold, hd_ite, ite_self, implies_true, kp_windowWrite (hq.mono rfl),
        nextIs_next, nextIs_ite, nextIs_fault, ne_eq, not_false_eq_true]

def kw_execDmaStart : Writes := ⟨[0x301008, 0x301108, 0x302001, 0x302002, 0x302003, 0x302004, 0x302005, 0x302006, 0x404105, 0x404106,
        0x406009, 0x407008, 0x407009, 0x408101, 0x408102, 0x408103, 0x408106, 0x502004, 0x502005, 0x502006, 0x502007, 0x502009, 0x508003,
        0x508004, 0x508005, 0x508006, 0x611003, 0x619004, 0xB03004, 0xB03005, 0xB04003], [(0x612000, 0x613000, 256), (0x620000, 0x624000,
        256)]⟩
theorem kp_execDmaStart {κ ν : Nat} (hq : Quiet kw_execDmaStart κ ν) (p : Port) (tag : Nat) (ch : Fin 16) {s : State} (hs : Holds κ ν s) :
        NextIs (Holds κ ν) (execDmaStart p tag ch s) := by
  unfold execDmaStart
  simp (maxDischargeDepth := 40) +contextual only [hs, hd_mk, hd_fold, hd_ite, ite_self, implies_true, kp_windowWrite (hq.mono rfl),
        nextIs_next, nextIs_ite, nextIs_fault, ne_eq, not_false_eq_true]

def kw_execDmaAbort : Writes := ⟨[0x301008, 0x301108, 0x302001, 0x302002, 0x302003, 0x302004, 0x302005, 0x302006, 0x404105, 0x404106,
        0x406009, 0x407008, 0x407009, 0x408101, 0x408102, 0x408103, 0x408106, 0x502004, 0x502005, 0x502006, 0x502007, 0x502009, 0x508003,
        0x508004, 0x508005, 0x508006, 0x611003, 0x619004, 0xB03004, 0xB03005, 0xB04003], [(0x612000, 0x613000, 256), (0x620000, 0x624000,
        256)]⟩
theorem kp_execDmaAbort {κ ν : Nat} (hq : Quiet kw_execDmaAbort κ ν) (p : Port) (tag : Nat) (ch : Fin 16) {s : State} (hs : Holds κ ν s) :
        NextIs (Holds κ ν) (execDmaAbort p tag ch s) := by
  unfold execDmaAbort
  simp (maxDischargeDepth := 40) +contextual only [hs, hd_mk, hd_fold, hd_ite, ite_self, implies_true, kp_windowWrite (hq.mono rfl),
        nextIs_next, nextIs_ite, nextIs_fault, ne_eq, not_false_eq_true]

def kw_execHdmDecoderCommit : Writes := ⟨[0x301007, 0x301107], []⟩
theorem kp_execHdmDecoderCommit {κ ν : Nat} (hq : Quiet kw_execHdmDecoderCommit κ ν) (p : Port) (n : Fin 8) (ways dpaBase size : Nat) {s :
        State} (hs : Holds κ ν s) : NextIs (Holds κ ν) (execHdmDecoderCommit p n ways dpaBase size s) := by
  have n0 : κ ≠ 0x301007 := hq.ne rfl
  have n1 : κ ≠ 0x301107 := hq.ne rfl
  have p7 : ∀ p : Port, κ ≠ p.key 0x07 := by intro p; cases p <;> assumption
  unfold execHdmDecoderCommit
  simp (maxDischargeDepth := 40) +contextual only [hs, hd_mk, hd_fold, hd_ite, ite_self, implies_true, n0, n1, p7, hd_clearBit, kp_modPort
        (hq.mono rfl), hd_setBit, hd_raise hq, nextIs_next, nextIs_ite, nextIs_fault, ne_eq, not_false_eq_true]

def kw_execPortDetect : Writes := ⟨[0x301001, 0x301101], []⟩
theorem kp_execPortDetect {κ ν : Nat} (hq : Quiet kw_execPortDetect κ ν) (p : Port) {s : State} (hs : Holds κ ν s) : NextIs (Holds κ ν)
        (execPortDetect p s) := by
  have n0 : κ ≠ 0x301001 := hq.ne rfl
  have n1 : κ ≠ 0x301101 := hq.ne rfl
  have p1 : ∀ p : Port, κ ≠ p.key 0x01 := by intro p; cases p <;> assumption
  unfold execPortDetect
  simp (maxDischargeDepth := 40) +contextual only [hs, hd_mk, hd_fold, hd_ite, ite_self, implies_true, n0, n1, p1, kp_modPort (hq.mono rfl),
        hd_put, nextIs_next, nextIs_ite, nextIs_fault, ne_eq, not_false_eq_true]

def kw_execLinkUp : Writes := ⟨[0x301001, 0x301002, 0x301003, 0x301101, 0x301102, 0x301103], []⟩
theorem kp_execLinkUp {κ ν : Nat} (hq : Quiet kw_execLinkUp κ ν) (p : Port) (rate width : Nat) {s : State} (hs : Holds κ ν s) : NextIs
        (Holds κ ν) (execLinkUp p rate width s) := by
  have n0 : κ ≠ 0x301001 := hq.ne rfl
  have n1 : κ ≠ 0x301002 := hq.ne rfl
  have n2 : κ ≠ 0x301003 := hq.ne rfl
  have n3 : κ ≠ 0x301101 := hq.ne rfl
  have n4 : κ ≠ 0x301102 := hq.ne rfl
  have n5 : κ ≠ 0x301103 := hq.ne rfl
  have p1 : ∀ p : Port, κ ≠ p.key 0x01 := by intro p; cases p <;> assumption
  have p2 : ∀ p : Port, κ ≠ p.key 0x02 := by intro p; cases p <;> assumption
  have p3 : ∀ p : Port, κ ≠ p.key 0x03 := by intro p; cases p <;> assumption
  unfold execLinkUp
  simp (maxDischargeDepth := 40) +contextual only [hs, hd_mk, hd_fold, hd_ite, ite_self, implies_true, n0, n1, n2, n3, n4, n5, p1, p2, p3,
        kp_modPort (hq.mono rfl), hd_put, hd_raise hq, hd_raiseIf hq, nextIs_next, nextIs_ite, nextIs_fault, ne_eq, not_false_eq_true]

def kw_execLinkTrainingFailed : Writes := ⟨[0x301001, 0x301101], []⟩
theorem kp_execLinkTrainingFailed {κ ν : Nat} (hq : Quiet kw_execLinkTrainingFailed κ ν) (p : Port) {s : State} (hs : Holds κ ν s) : NextIs
        (Holds κ ν) (execLinkTrainingFailed p s) := by
  have n0 : κ ≠ 0x301001 := hq.ne rfl
  have n1 : κ ≠ 0x301101 := hq.ne rfl
  have p1 : ∀ p : Port, κ ≠ p.key 0x01 := by intro p; cases p <;> assumption
  unfold execLinkTrainingFailed
  simp (maxDischargeDepth := 40) +contextual only [hs, hd_mk, hd_fold, hd_ite, ite_self, implies_true, n0, n1, p1, kp_modPort (hq.mono rfl),
        hd_put, hd_raise hq, nextIs_next, nextIs_ite, nextIs_fault, ne_eq, not_false_eq_true]

def kw_execPortException : Writes := ⟨[0x301001, 0x301005, 0x301006, 0x301008, 0x301101, 0x301105, 0x301106, 0x301108, 0x302001, 0x302002,
        0x302003, 0x302004, 0x302005, 0x302006, 0x404105, 0x404106, 0x406009, 0x407008, 0x407009, 0x408101, 0x408102, 0x408103, 0x408106,
        0x502004, 0x502005, 0x502006, 0x502007, 0x502009, 0x508003, 0x508004, 0x508005, 0x508006, 0x611003, 0x619004, 0xB03004, 0xB04003],
        [(0x612000, 0x613000, 256), (0x620000, 0x624000, 256)]⟩
theorem kp_execPortException {κ ν : Nat} (hq : Quiet kw_execPortException κ ν) (p : Port) (cause : Nat) {s : State} (hs : Holds κ ν s) :
        NextIs (Holds κ ν) (execPortException p cause s) := by
  unfold execPortException
  simp (maxDischargeDepth := 40) +contextual only [hs, hd_mk, hd_fold, hd_ite, ite_self, implies_true, kp_contain (hq.mono rfl),
        kp_portException (hq.mono rfl), nextIs_next, nextIs_ite, nextIs_fault, ne_eq, not_false_eq_true]

def kw_execPerst : Writes := ⟨[0x301001, 0x301002, 0x301003, 0x301005, 0x301006, 0x301007, 0x301008, 0x301101, 0x301102, 0x301103, 0x301105,
        0x301106, 0x301107, 0x301108, 0x302001, 0x302002, 0x302003, 0x302004, 0x302005, 0x302006, 0x404105, 0x404106, 0x406009, 0x407008,
        0x407009, 0x408101, 0x408102, 0x408103, 0x408106, 0x502004, 0x502005, 0x502006, 0x502007, 0x502009, 0x508003, 0x508004, 0x508005,
        0x508006, 0x611003, 0x619004, 0xB03004, 0xB04003], [(0x612000, 0x613000, 256), (0x620000, 0x624000, 256)]⟩
theorem kp_execPerst {κ ν : Nat} (hq : Quiet kw_execPerst κ ν) (p : Port) (asserted : Bool) {s : State} (hs : Holds κ ν s) : NextIs (Holds κ
        ν) (execPerst p asserted s) := by
  unfold execPerst
  simp (maxDischargeDepth := 40) +contextual only [hs, hd_mk, hd_fold, hd_ite, ite_self, implies_true, kp_modPort (hq.mono rfl), kp_dropLink
        (hq.mono rfl), kp_portException (hq.mono rfl), hd_raise hq, kp_resetPort (hq.mono rfl), nextIs_next, nextIs_ite, nextIs_fault,
        ne_eq, not_false_eq_true]

def kw_execSurpriseLinkLoss : Writes := ⟨[0x301001, 0x301002, 0x301003, 0x301005, 0x301006, 0x301008, 0x301101, 0x301102, 0x301103,
        0x301105, 0x301106, 0x301108, 0x302001, 0x302002, 0x302003, 0x302004, 0x302005, 0x302006, 0x404105, 0x404106, 0x406009, 0x407008,
        0x407009, 0x408101, 0x408102, 0x408103, 0x408106, 0x502004, 0x502005, 0x502006, 0x502007, 0x502009, 0x508003, 0x508004, 0x508005,
        0x508006, 0x611003, 0x619004, 0xB03004, 0xB04003], [(0x612000, 0x613000, 256), (0x620000, 0x624000, 256)]⟩
theorem kp_execSurpriseLinkLoss {κ ν : Nat} (hq : Quiet kw_execSurpriseLinkLoss κ ν) (p : Port) {s : State} (hs : Holds κ ν s) : NextIs
        (Holds κ ν) (execSurpriseLinkLoss p s) := by
  unfold execSurpriseLinkLoss
  simp (maxDischargeDepth := 40) +contextual only [hs, hd_mk, hd_fold, hd_ite, ite_self, implies_true, kp_dropLink (hq.mono rfl),
        kp_portException (hq.mono rfl), nextIs_next, nextIs_ite, nextIs_fault, ne_eq, not_false_eq_true]

def kw_execViralReceived : Writes := ⟨[0x301001, 0x301005, 0x301006, 0x301008, 0x301101, 0x301105, 0x301106, 0x301108, 0x302001, 0x302002,
        0x302003, 0x302004, 0x302005, 0x302006, 0x404105, 0x404106, 0x406009, 0x407008, 0x407009, 0x408101, 0x408102, 0x408103, 0x408106,
        0x502004, 0x502005, 0x502006, 0x502007, 0x502009, 0x508003, 0x508004, 0x508005, 0x508006, 0x611003, 0x619004, 0xB03004, 0xB04003],
        [(0x612000, 0x613000, 256), (0x620000, 0x624000, 256)]⟩
theorem kp_execViralReceived {κ ν : Nat} (hq : Quiet kw_execViralReceived κ ν) (p : Port) {s : State} (hs : Holds κ ν s) : NextIs (Holds κ
        ν) (execViralReceived p s) := by
  unfold execViralReceived
  simp (maxDischargeDepth := 40) +contextual only [hs, hd_mk, hd_fold, hd_ite, ite_self, implies_true, kp_contain (hq.mono rfl), hd_raise hq,
        nextIs_next, nextIs_ite, nextIs_fault, ne_eq, not_false_eq_true]

def kw_execPromptPreparationDone : Writes := ⟨[0x406008, 0x70030A], [(0x410000, 0x414000, 0x0C), (0x612000, 0x613000, 256)]⟩
theorem kp_execPromptPreparationDone {κ ν : Nat} (hq : Quiet kw_execPromptPreparationDone κ ν) (region : Fin 64) {s : State} (hs : Holds κ ν
        s) : NextIs (Holds κ ν) (execPromptPreparationDone region s) := by
  unfold execPromptPreparationDone
  simp (maxDischargeDepth := 40) +contextual only [hs, hd_mk, hd_fold, hd_ite, ite_self, implies_true, kp_pinRegion (hq.mono rfl),
        kp_setRegionState (hq.mono rfl), nextIs_next, nextIs_ite, nextIs_fault, ne_eq, not_false_eq_true]

theorem kp_execAgeMeterReprogram {κ ν : Nat} (hq : Quiet kw_none κ ν) {s : State} (hs : Holds κ ν s) : NextIs (Holds κ ν)
        (execAgeMeterReprogram s) := by
  unfold execAgeMeterReprogram
  simp (maxDischargeDepth := 40) +contextual only [hs, hd_mk, hd_fold, hd_ite, ite_self, implies_true, nextIs_next, nextIs_ite, nextIs_fault,
        ne_eq, not_false_eq_true]

def kw_execPriorityPass : Writes := ⟨[0x617006, 0xA00106], []⟩
theorem kp_execPriorityPass {κ ν : Nat} (hq : Quiet kw_execPriorityPass κ ν) {s : State} (hs : Holds κ ν s) : NextIs (Holds κ ν)
        (execPriorityPass s) := by
  have n0 : κ ≠ 0x617006 := hq.ne rfl
  unfold execPriorityPass
  simp (maxDischargeDepth := 40) +contextual only [hs, hd_mk, hd_fold, hd_ite, ite_self, implies_true, n0, hd_put, kp_judgeEpisode (hq.mono
        rfl), hd_foldl, nextIs_next, nextIs_ite, nextIs_fault, ne_eq, not_false_eq_true]

def kw_execPatrolVisit : Writes := ⟨[0x301001, 0x301004, 0x301005, 0x301006, 0x301008, 0x301101, 0x301104, 0x301105, 0x301106, 0x301108,
        0x302001, 0x302002, 0x302003, 0x302004, 0x302005, 0x302006, 0x404105, 0x404106, 0x406009, 0x407008, 0x407009, 0x408101, 0x408102,
        0x408103, 0x408106, 0x502004, 0x502005, 0x502006, 0x502007, 0x502009, 0x508003, 0x508004, 0x508005, 0x508006, 0x611003, 0x613008,
        0x613009, 0x61300A, 0x614009, 0x617004, 0x617005, 0x617006, 0x617008, 0x619004, 0x700301, 0x700302, 0x700303, 0x700304, 0x700305,
        0x700306, 0x70030A, 0x800101, 0x800102, 0x800103, 0x800104, 0x800105, 0x800106, 0x801002, 0xA00106, 0xB03004, 0xB04003, 0xC00104,
        0xD00101, 0xD00102], [(0x612000, 0x613000, 256), (0x620000, 0x624000, 256)]⟩
theorem kp_execPatrolVisit {κ ν : Nat} (hq : Quiet kw_execPatrolVisit κ ν) (unit : Fin 1048576) (report : PatrolReport) {s : State} (hs :
        Holds κ ν s) : NextIs (Holds κ ν) (execPatrolVisit unit report s) := by
  unfold execPatrolVisit
  simp (maxDischargeDepth := 40) +contextual only [hs, hd_mk, hd_fold, hd_ite, ite_self, implies_true, kp_prunePass (hq.mono rfl), kp_visit
        (hq.mono rfl), nextIs_next, nextIs_ite, nextIs_fault, ne_eq, not_false_eq_true]

def kw_execOutOfTurnVisit : Writes := ⟨[0x301001, 0x301004, 0x301005, 0x301006, 0x301008, 0x301101, 0x301104, 0x301105, 0x301106, 0x301108,
        0x302001, 0x302002, 0x302003, 0x302004, 0x302005, 0x302006, 0x404105, 0x404106, 0x406009, 0x407008, 0x407009, 0x408101, 0x408102,
        0x408103, 0x408106, 0x502004, 0x502005, 0x502006, 0x502007, 0x502009, 0x508003, 0x508004, 0x508005, 0x508006, 0x611003, 0x613008,
        0x613009, 0x61300A, 0x614009, 0x617004, 0x617005, 0x617006, 0x617008, 0x619004, 0x700301, 0x700302, 0x700303, 0x700304, 0x700305,
        0x700306, 0x70030A, 0x800101, 0x800102, 0x800103, 0x800104, 0x800105, 0x800106, 0x801002, 0xA00106, 0xB03004, 0xB04003, 0xC00104,
        0xD00101, 0xD00102], [(0x612000, 0x613000, 256), (0x620000, 0x624000, 256)]⟩
theorem kp_execOutOfTurnVisit {κ ν : Nat} (hq : Quiet kw_execOutOfTurnVisit κ ν) (unit : Fin 1048576) (report : PatrolReport) {s : State}
        (hs : Holds κ ν s) : NextIs (Holds κ ν) (execOutOfTurnVisit unit report s) := by
  unfold execOutOfTurnVisit
  simp (maxDischargeDepth := 40) +contextual only [hs, hd_mk, hd_fold, hd_ite, ite_self, implies_true, kp_visit (hq.mono rfl), nextIs_next,
        nextIs_ite, nextIs_fault, ne_eq, not_false_eq_true]

def kw_execUnitRetest : Writes := ⟨[0x611003, 0x619004], [(0x612000, 0x613000, 256), (0x620000, 0x624000, 256)]⟩
theorem kp_execUnitRetest {κ ν : Nat} (hq : Quiet kw_execUnitRetest κ ν) (unit : Fin 1048576) (pass : Bool) {s : State} (hs : Holds κ ν s) :
        NextIs (Holds κ ν) (execUnitRetest unit pass s) := by
  unfold execUnitRetest
  simp (maxDischargeDepth := 40) +contextual only [hs, hd_mk, hd_fold, hd_ite, ite_self, implies_true, kp_lastingFault (hq.mono rfl),
        kp_setUnitState (hq.mono rfl), nextIs_next, nextIs_ite, nextIs_fault, ne_eq, not_false_eq_true]

def kw_execDemotion : Writes := ⟨[0x404105, 0x611003, 0x613009, 0x61300A, 0x614006, 0x614007, 0x615007, 0x619004], [(0x612000, 0x613000,
        256), (0x620000, 0x624000, 256)]⟩
theorem kp_execDemotion {κ ν : Nat} (hq : Quiet kw_execDemotion κ ν) (stripe : Fin 65536) {s : State} (hs : Holds κ ν s) : NextIs (Holds κ
        ν) (execDemotion stripe s) := by
  unfold execDemotion
  (try simp (maxDischargeDepth := 40) +contextual only [hs, hd_mk, hd_fold, hd_ite, ite_self, implies_true, kp_setStripe (hq.mono rfl),
        kp_collect (hq.mono rfl), nextIs_next, nextIs_ite, nextIs_fault, ne_eq, not_false_eq_true])
  repeat' split
  all_goals first
    | (with_reducible exact hs)
    | (simp (maxDischargeDepth := 40) +contextual only [hs, hd_mk, hd_fold, hd_ite, ite_self, implies_true, kp_setStripe (hq.mono rfl), kp_collect
        (hq.mono rfl), nextIs_next, nextIs_ite, nextIs_fault, ne_eq, not_false_eq_true]; done)

def kw_execFloorRestoreMove : Writes := ⟨[0x611003, 0x613009, 0x61300A, 0x614007, 0x615007, 0x619004], [(0x612000, 0x613000, 256),
        (0x620000, 0x624000, 256)]⟩
theorem kp_execFloorRestoreMove {κ ν : Nat} (hq : Quiet kw_execFloorRestoreMove κ ν) (page : Nat) {s : State} (hs : Holds κ ν s) : NextIs
        (Holds κ ν) (execFloorRestoreMove page s) := by
  unfold execFloorRestoreMove
  (try simp (maxDischargeDepth := 40) +contextual only [hs, hd_mk, hd_fold, hd_ite, ite_self, implies_true, kp_writeMoves (hq.mono rfl),
        nextIs_next, nextIs_ite, nextIs_fault, ne_eq, not_false_eq_true])
  repeat' split
  all_goals first
    | (with_reducible exact hs)
    | (simp (maxDischargeDepth := 40) +contextual only [hs, hd_mk, hd_fold, hd_ite, ite_self, implies_true, kp_writeMoves (hq.mono rfl),
        nextIs_next, nextIs_ite, nextIs_fault, ne_eq, not_false_eq_true]; done)

def kw_execDieRetiring : Writes := ⟨[0x408106, 0x611003, 0x619004, 0x61900A, 0x61A002, 0x61A003, 0xA00106], [(0x612000, 0x613000, 256),
        (0x620000, 0x624000, 256)]⟩
theorem kp_execDieRetiring {κ ν : Nat} (hq : Quiet kw_execDieRetiring κ ν) (die : Fin 64) {s : State} (hs : Holds κ ν s) : NextIs (Holds κ
        ν) (execDieRetiring die s) := by
  unfold execDieRetiring
  simp (maxDischargeDepth := 40) +contextual only [hs, hd_mk, hd_fold, hd_ite, ite_self, implies_true, kp_dieLeaves (hq.mono rfl),
        nextIs_next, nextIs_ite, nextIs_fault, ne_eq, not_false_eq_true]

def kw_execDieFailed : Writes := ⟨[0x408106, 0x611003, 0x619004, 0x61900A, 0x61A002, 0x61A003, 0xA00106], [(0x612000, 0x613000, 256),
        (0x620000, 0x624000, 256)]⟩
theorem kp_execDieFailed {κ ν : Nat} (hq : Quiet kw_execDieFailed κ ν) (die : Fin 64) {s : State} (hs : Holds κ ν s) : NextIs (Holds κ ν)
        (execDieFailed die s) := by
  unfold execDieFailed
  simp (maxDischargeDepth := 40) +contextual only [hs, hd_mk, hd_fold, hd_ite, ite_self, implies_true, kp_dieLeaves (hq.mono rfl),
        nextIs_next, nextIs_ite, nextIs_fault, ne_eq, not_false_eq_true]

def kw_execChannelRetired : Writes := ⟨[0x408106, 0x611003, 0x619004, 0x619006, 0x61900A, 0x61A002, 0x61A003, 0xA00106], [(0x612000,
        0x613000, 256), (0x620000, 0x624000, 256)]⟩
theorem kp_execChannelRetired {κ ν : Nat} (hq : Quiet kw_execChannelRetired κ ν) (channel : Fin 16) (canTransfer failedTraining : Bool) {s :
        State} (hs : Holds κ ν s) : NextIs (Holds κ ν) (execChannelRetired channel canTransfer failedTraining s) := by
  have n0 : κ ≠ 0x619006 := hq.ne rfl
  have n1 : κ ≠ 0x61A002 := hq.ne rfl
  have n2 : κ ≠ 0x61A003 := hq.ne rfl
  unfold execChannelRetired
  simp (maxDischargeDepth := 40) +contextual only [hs, hd_mk, hd_fold, hd_ite, ite_self, implies_true, n0, n1, n2, hd_bump, hd_put,
        kp_dieLeaves (hq.mono rfl), kp_judgeEpisode (hq.mono rfl), hd_raise hq, hd_foldl, nextIs_next, nextIs_ite, nextIs_fault, ne_eq,
        not_false_eq_true]

def kw_execRebuildComplete : Writes := ⟨[0x619005, 0x61A002, 0x61A003, 0x61A006, 0x61E004, 0xA00106], [(0x620000, 0x624000, 256)]⟩
theorem kp_execRebuildComplete {κ ν : Nat} (hq : Quiet kw_execRebuildComplete κ ν) (die : Fin 64) {s : State} (hs : Holds κ ν s) : NextIs
        (Holds κ ν) (execRebuildComplete die s) := by
  have n0 : κ ≠ 0x619005 := hq.ne rfl
  have n1 : κ ≠ 0x61A002 := hq.ne rfl
  have n2 : κ ≠ 0x61A003 := hq.ne rfl
  have n3 : κ ≠ 0x61A006 := hq.ne rfl
  have n4 : κ ≠ 0x61E004 := hq.ne rfl
  have fdieKey0x01 : ∀ d : Nat, κ ≠ dieKey d 0x01 := fun d => hq.outside (lo := 0x620000) (hi := 0x624000) (sub := 256) (by decide) (by unfold dieKey; omega) (by unfold dieKey; omega) (by unfold dieKey; omega)
  unfold execRebuildComplete
  simp (maxDischargeDepth := 40) +contextual only [hs, hd_mk, hd_fold, hd_ite, ite_self, implies_true, n0, n1, n2, n3, n4, fdieKey0x01,
        hd_bump, hd_put, kp_judgeEpisode (hq.mono rfl), kp_noteHealth (hq.mono rfl), hd_raise hq, nextIs_next, nextIs_ite, nextIs_fault,
        ne_eq, not_false_eq_true]

def kw_execStripeWithdrawn : Writes := ⟨[0x404105, 0x611003, 0x613009, 0x61300A, 0x614006, 0x614007, 0x615007, 0x619004], [(0x612000,
        0x613000, 256), (0x620000, 0x624000, 256)]⟩
theorem kp_execStripeWithdrawn {κ ν : Nat} (hq : Quiet kw_execStripeWithdrawn κ ν) (stripe : Fin 65536) {s : State} (hs : Holds κ ν s) :
        NextIs (Holds κ ν) (execStripeWithdrawn stripe s) := by
  unfold execStripeWithdrawn
  (try simp (maxDischargeDepth := 40) +contextual only [hs, hd_mk, hd_fold, hd_ite, ite_self, implies_true, kp_setStripe (hq.mono rfl),
        kp_collect (hq.mono rfl), nextIs_next, nextIs_ite, nextIs_fault, ne_eq, not_false_eq_true])
  repeat' split
  all_goals first
    | (with_reducible exact hs)
    | (simp (maxDischargeDepth := 40) +contextual only [hs, hd_mk, hd_fold, hd_ite, ite_self, implies_true, kp_setStripe (hq.mono rfl), kp_collect
        (hq.mono rfl), nextIs_next, nextIs_ite, nextIs_fault, ne_eq, not_false_eq_true]; done)

def kw_execOccurrence : Writes := ⟨[], [(0x612000, 0x613000, 256)]⟩
theorem kp_execOccurrence {κ ν : Nat} (hq : Quiet kw_execOccurrence κ ν) (source : Fin 288) {s : State} (hs : Holds κ ν s) : NextIs (Holds κ
        ν) (execOccurrence source s) := by
  have fchannelKey6 : ∀ c : Nat, κ ≠ channelKey c 6 := fun c => hq.outside (lo := 0x612000) (hi := 0x613000) (sub := 256) (by decide) (by unfold channelKey; omega) (by unfold channelKey; omega) (by unfold channelKey; omega)
  unfold execOccurrence
  simp (maxDischargeDepth := 40) +contextual only [hs, hd_mk, hd_fold, hd_ite, ite_self, implies_true, fchannelKey6, hd_bump, kp_drawn
        (hq.mono rfl), hd_raise hq, nextIs_next, nextIs_ite, nextIs_fault, ne_eq, not_false_eq_true]

theorem kp_execHeldMsiX {κ ν : Nat} (hq : Quiet kw_none κ ν) (p : Port) {s : State} (hs : Holds κ ν s) : NextIs (Holds κ ν) (execHeldMsiX p
        s) := by
  unfold execHeldMsiX
  (try simp (maxDischargeDepth := 40) +contextual only [hs, hd_mk, hd_fold, hd_ite, ite_self, implies_true, kp_modPort (hq.mono rfl), kp_emit
        (hq.mono rfl), nextIs_next, nextIs_ite, nextIs_fault, ne_eq, not_false_eq_true])
  repeat' split
  all_goals first
    | (with_reducible exact hs)
    | (simp (maxDischargeDepth := 40) +contextual only [hs, hd_mk, hd_fold, hd_ite, ite_self, implies_true, kp_modPort (hq.mono rfl), kp_emit
        (hq.mono rfl), nextIs_next, nextIs_ite, nextIs_fault, ne_eq, not_false_eq_true]; done)

def kw_execRecorderWrite : Writes := ⟨[0xA00105, 0xA00108], []⟩
theorem kp_execRecorderWrite {κ ν : Nat} (hq : Quiet kw_execRecorderWrite κ ν) {s : State} (hs : Holds κ ν s) : NextIs (Holds κ ν)
        (execRecorderWrite s) := by
  unfold execRecorderWrite
  simp (maxDischargeDepth := 40) +contextual only [hs, hd_mk, hd_fold, hd_ite, ite_self, implies_true, kp_writeNextRecord (hq.mono rfl),
        nextIs_next, nextIs_ite, nextIs_fault, ne_eq, not_false_eq_true]

def kw_execCaptureEpisode : Writes := ⟨[0xA00106], []⟩
theorem kp_execCaptureEpisode {κ ν : Nat} (hq : Quiet kw_execCaptureEpisode κ ν) {s : State} (hs : Holds κ ν s) : NextIs (Holds κ ν)
        (execCaptureEpisode s) := by
  unfold execCaptureEpisode
  simp (maxDischargeDepth := 40) +contextual only [hs, hd_mk, hd_fold, hd_ite, ite_self, implies_true, kp_judgeEpisode (hq.mono rfl),
        nextIs_next, nextIs_ite, nextIs_fault, ne_eq, not_false_eq_true]

theorem kp_execCoreDelayMargin {κ ν : Nat} (hq : Quiet kw_none κ ν) (_quadrant : Fin 4) {s : State} (hs : Holds κ ν s) : NextIs (Holds κ ν)
        (execCoreDelayMargin _quadrant s) := by
  unfold execCoreDelayMargin
  simp (maxDischargeDepth := 40) +contextual only [hs, hd_mk, hd_fold, hd_ite, ite_self, implies_true, kp_raiseVcore (hq.mono rfl),
        nextIs_next, nextIs_ite, nextIs_fault, ne_eq, not_false_eq_true]

theorem kp_execCrossingError {κ ν : Nat} (hq : Quiet kw_none κ ν) (source : Nat) {s : State} (hs : Holds κ ν s) : NextIs (Holds κ ν)
        (execCrossingError source s) := by
  unfold execCrossingError
  simp (maxDischargeDepth := 40) +contextual only [hs, hd_mk, hd_fold, hd_ite, ite_self, implies_true, hd_raise hq, nextIs_next, nextIs_ite,
        nextIs_fault, ne_eq, not_false_eq_true]

def kw_execCompletionStall : Writes := ⟨[0x203009, 0x205003, 0x301001, 0x301002, 0x301003, 0x301004, 0x301005, 0x301006, 0x301007, 0x301008,
        0x301101, 0x301102, 0x301103, 0x301104, 0x301105, 0x301106, 0x301107, 0x301108, 0x302001, 0x302002, 0x302003, 0x302004, 0x302005,
        0x302006, 0x404101, 0x404105, 0x404106, 0x406009, 0x407008, 0x407009, 0x408101, 0x408102, 0x408103, 0x408106, 0x502004, 0x502005,
        0x502006, 0x502007, 0x502009, 0x508003, 0x508004, 0x508005, 0x508006, 0x611003, 0x611007, 0x619004, 0x800108, 0x900104, 0xA00106,
        0xB03004, 0xB04003, 0xD00101, 0xD00102, 0xD02001, 0xD04001, 0xD06001, 0xD06002, 0xD06003, 0xD06004, 0xD06005, 0xD06006, 0xD06007],
        [(0x612000, 0x613000, 256), (0x620000, 0x624000, 256), (0xD04002, 0xD0400A, 256)]⟩
theorem kp_execCompletionStall {κ ν : Nat} (hq : Quiet kw_execCompletionStall κ ν) {s : State} (hs : Holds κ ν s) : NextIs (Holds κ ν)
        (execCompletionStall s) := by
  unfold execCompletionStall
  simp (maxDischargeDepth := 40) +contextual only [hs, hd_mk, hd_fold, hd_ite, ite_self, implies_true, kp_criticalError (hq.mono rfl),
        hd_raise hq, nextIs_next, nextIs_ite, nextIs_fault, ne_eq, not_false_eq_true]

def kw_execFrameReceived : Writes := ⟨[0x140102, 0x140103, 0x140104, 0x140105, 0x140108, 0x140109], []⟩
theorem kp_execFrameReceived {κ ν : Nat} (hq : Quiet kw_execFrameReceived κ ν) (frame : Frame) {s : State} (hs : Holds κ ν s) : NextIs
        (Holds κ ν) (execFrameReceived frame s) := by
  have n0 : κ ≠ 0x140102 := hq.ne rfl
  have n1 : κ ≠ 0x140103 := hq.ne rfl
  have n2 : κ ≠ 0x140104 := hq.ne rfl
  have n3 : κ ≠ 0x140105 := hq.ne rfl
  unfold execFrameReceived
  simp (maxDischargeDepth := 40) +contextual only [hs, hd_mk, hd_fold, hd_ite, ite_self, implies_true, n0, n1, n2, n3, hd_bump, kp_queueFrame
        (hq.mono rfl), nextIs_next, nextIs_ite, nextIs_fault, ne_eq, not_false_eq_true]

def kw_execDiscover : Writes := ⟨[0x140106, 0x140107], []⟩
theorem kp_execDiscover {κ ν : Nat} (hq : Quiet kw_execDiscover κ ν) (source : Nat) {s : State} (hs : Holds κ ν s) : NextIs (Holds κ ν)
        (execDiscover source s) := by
  unfold execDiscover
  simp (maxDischargeDepth := 40) +contextual only [hs, hd_mk, hd_fold, hd_ite, ite_self, implies_true, kp_arrive (hq.mono rfl), kp_sendFrame
        (hq.mono rfl), nextIs_next, nextIs_ite, nextIs_fault, ne_eq, not_false_eq_true]

def kw_execRattle : Writes := ⟨[0x205003, 0x301007, 0x301107, 0x402001, 0x402002, 0x404101, 0xA00106, 0xD00101, 0xD00102, 0xD02004,
        0xD03002, 0xD03003], []⟩
theorem kp_execRattle {κ ν : Nat} (hq : Quiet kw_execRattle κ ν) (code : Nat) {s : State} (hs : Holds κ ν s) : NextIs (Holds κ ν)
        (execRattle code s) := by
  have n0 : κ ≠ 0xD03002 := hq.ne rfl
  have n1 : κ ≠ 0xD03003 := hq.ne rfl
  unfold execRattle
  simp (maxDischargeDepth := 40) +contextual only [hs, hd_mk, hd_fold, hd_ite, ite_self, implies_true, n0, n1, hd_bump, hd_raise hq,
        kp_wakeSource (hq.mono rfl), nextIs_next, nextIs_ite, nextIs_fault, ne_eq, not_false_eq_true]

def kw_execNotice : Writes := ⟨[0x140202], []⟩
theorem kp_execNotice {κ ν : Nat} (hq : Quiet kw_execNotice κ ν) {s : State} (hs : Holds κ ν s) : NextIs (Holds κ ν) (execNotice s) := by
  have n0 : κ ≠ 0x140202 := hq.ne rfl
  unfold execNotice
  (try simp (maxDischargeDepth := 40) +contextual only [hs, hd_mk, hd_fold, hd_ite, ite_self, implies_true, n0, hd_bump, kp_sendFrame (hq.mono
        rfl), nextIs_next, nextIs_ite, nextIs_fault, ne_eq, not_false_eq_true])
  repeat' split
  all_goals first
    | (with_reducible exact hs)
    | (simp (maxDischargeDepth := 40) +contextual only [hs, hd_mk, hd_fold, hd_ite, ite_self, implies_true, n0, hd_bump, kp_sendFrame (hq.mono
        rfl), nextIs_next, nextIs_ite, nextIs_fault, ne_eq, not_false_eq_true]; done)

theorem kp_execBeaconLoss {κ ν : Nat} (hq : Quiet kw_none κ ν) {s : State} (hs : Holds κ ν s) : NextIs (Holds κ ν) (execBeaconLoss s) := by
  unfold execBeaconLoss
  simp (maxDischargeDepth := 40) +contextual only [hs, hd_mk, hd_fold, hd_ite, ite_self, implies_true, hd_raise hq, nextIs_next, nextIs_ite,
        nextIs_fault, ne_eq, not_false_eq_true]

theorem kp_execBeaconReceived {κ ν : Nat} (hq : Quiet kw_none κ ν) {s : State} (hs : Holds κ ν s) : NextIs (Holds κ ν) (execBeaconReceived
        s) := by
  unfold execBeaconReceived
  simp (maxDischargeDepth := 40) +contextual only [hs, hd_mk, hd_fold, hd_ite, ite_self, implies_true, hd_raise hq, nextIs_next, nextIs_ite,
        nextIs_fault, ne_eq, not_false_eq_true]

def kw_execNodeIdConflict : Writes := ⟨[0x14010C], []⟩
theorem kp_execNodeIdConflict {κ ν : Nat} (hq : Quiet kw_execNodeIdConflict κ ν) {s : State} (hs : Holds κ ν s) : NextIs (Holds κ ν)
        (execNodeIdConflict s) := by
  have n0 : κ ≠ 0x14010C := hq.ne rfl
  unfold execNodeIdConflict
  simp (maxDischargeDepth := 40) +contextual only [hs, hd_mk, hd_fold, hd_ite, ite_self, implies_true, n0, hd_bump, hd_raise hq, nextIs_next,
        nextIs_ite, nextIs_fault, ne_eq, not_false_eq_true]

theorem kp_execReducedRateRefill {κ ν : Nat} (hq : Quiet kw_none κ ν) {s : State} (hs : Holds κ ν s) : NextIs (Holds κ ν)
        (execReducedRateRefill s) := by
  unfold execReducedRateRefill
  simp (maxDischargeDepth := 40) +contextual only [hs, hd_mk, hd_fold, hd_ite, ite_self, implies_true, nextIs_next, nextIs_ite, nextIs_fault,
        ne_eq, not_false_eq_true]

def kw_mailboxCommand : Writes := ⟨[0xD02004], []⟩
theorem kp_mailboxCommand {κ ν : Nat} (hq : Quiet kw_mailboxCommand κ ν) {p : Port} {f : State → State} {s : State} (hf : ∀ t, Holds κ ν t → Holds κ ν (f t))
    (hs : Holds κ ν s) : NextIs (Holds κ ν) (mailboxCommand p f s) := by
  unfold mailboxCommand
  split
  · exact hf _ (hd_cond (kp_wakeBy (hq.mono rfl) _ hs) hs)
  · exact hs

def kw_execIdentify : Writes := ⟨[0xD02004], []⟩
theorem kp_execIdentify {κ ν : Nat} (hq : Quiet kw_execIdentify κ ν) (p : Port) {s : State} (hs : Holds κ ν s) : NextIs (Holds κ ν)
        (execIdentify p s) := by
  unfold execIdentify
  refine kp_mailboxCommand (hq.mono rfl) (fun t ht => ?_) hs
  (try simp (maxDischargeDepth := 40) +contextual only [ht, hd_mk, hd_fold, hd_ite, ite_self, implies_true, kp_mailboxAnswer (hq.mono rfl),
        kp_mailboxCommand (hq.mono rfl), nextIs_next, nextIs_ite, nextIs_fault, ne_eq, not_false_eq_true])
  repeat' split
  all_goals first
    | (with_reducible exact ht)
    | (simp (maxDischargeDepth := 40) +contextual only [ht, hd_mk, hd_fold, hd_ite, ite_self, implies_true, kp_mailboxAnswer (hq.mono rfl),
        kp_mailboxCommand (hq.mono rfl), nextIs_next, nextIs_ite, nextIs_fault, ne_eq, not_false_eq_true]; done)

def kw_execGetTimestamp : Writes := ⟨[0xD02004], []⟩
theorem kp_execGetTimestamp {κ ν : Nat} (hq : Quiet kw_execGetTimestamp κ ν) (p : Port) {s : State} (hs : Holds κ ν s) : NextIs (Holds κ ν)
        (execGetTimestamp p s) := by
  unfold execGetTimestamp
  refine kp_mailboxCommand (hq.mono rfl) (fun t ht => ?_) hs
  (try simp (maxDischargeDepth := 40) +contextual only [ht, hd_mk, hd_fold, hd_ite, ite_self, implies_true, kp_mailboxAnswer (hq.mono rfl),
        kp_mailboxCommand (hq.mono rfl), nextIs_next, nextIs_ite, nextIs_fault, ne_eq, not_false_eq_true])
  repeat' split
  all_goals first
    | (with_reducible exact ht)
    | (simp (maxDischargeDepth := 40) +contextual only [ht, hd_mk, hd_fold, hd_ite, ite_self, implies_true, kp_mailboxAnswer (hq.mono rfl),
        kp_mailboxCommand (hq.mono rfl), nextIs_next, nextIs_ite, nextIs_fault, ne_eq, not_false_eq_true]; done)

def kw_execSetTimestamp : Writes := ⟨[0x405002, 0x611003, 0x619004, 0xD02004], [(0x612000, 0x613000, 256), (0x620000, 0x624000, 256)]⟩
theorem kp_execSetTimestamp {κ ν : Nat} (hq : Quiet kw_execSetTimestamp κ ν) (p : Port) (time : Word) {s : State} (hs : Holds κ ν s) :
        NextIs (Holds κ ν) (execSetTimestamp p time s) := by
  unfold execSetTimestamp
  refine kp_mailboxCommand (hq.mono rfl) (fun t ht => ?_) hs
  (try simp (maxDischargeDepth := 40) +contextual only [ht, hd_mk, hd_fold, hd_ite, ite_self, implies_true, kp_mailboxAnswer (hq.mono rfl),
        kp_mailboxCommand (hq.mono rfl), kp_setTime (hq.mono rfl), nextIs_next, nextIs_ite, nextIs_fault, ne_eq, not_false_eq_true])
  repeat' split
  all_goals first
    | (with_reducible exact ht)
    | (simp (maxDischargeDepth := 40) +contextual only [ht, hd_mk, hd_fold, hd_ite, ite_self, implies_true, kp_mailboxAnswer (hq.mono rfl),
        kp_mailboxCommand (hq.mono rfl), kp_setTime (hq.mono rfl), nextIs_next, nextIs_ite, nextIs_fault, ne_eq, not_false_eq_true]; done)

def kw_execIdentifyMemoryDevice : Writes := ⟨[0xD02004], []⟩
theorem kp_execIdentifyMemoryDevice {κ ν : Nat} (hq : Quiet kw_execIdentifyMemoryDevice κ ν) (p : Port) {s : State} (hs : Holds κ ν s) :
        NextIs (Holds κ ν) (execIdentifyMemoryDevice p s) := by
  unfold execIdentifyMemoryDevice
  refine kp_mailboxCommand (hq.mono rfl) (fun t ht => ?_) hs
  (try simp (maxDischargeDepth := 40) +contextual only [ht, hd_mk, hd_fold, hd_ite, ite_self, implies_true, kp_mailboxAnswer (hq.mono rfl),
        kp_mailboxCommand (hq.mono rfl), nextIs_next, nextIs_ite, nextIs_fault, ne_eq, not_false_eq_true])
  repeat' split
  all_goals first
    | (with_reducible exact ht)
    | (simp (maxDischargeDepth := 40) +contextual only [ht, hd_mk, hd_fold, hd_ite, ite_self, implies_true, kp_mailboxAnswer (hq.mono rfl),
        kp_mailboxCommand (hq.mono rfl), nextIs_next, nextIs_ite, nextIs_fault, ne_eq, not_false_eq_true]; done)

def kw_execGetHealthInfo : Writes := ⟨[0xD02004], []⟩
theorem kp_execGetHealthInfo {κ ν : Nat} (hq : Quiet kw_execGetHealthInfo κ ν) (p : Port) {s : State} (hs : Holds κ ν s) : NextIs (Holds κ
        ν) (execGetHealthInfo p s) := by
  unfold execGetHealthInfo
  refine kp_mailboxCommand (hq.mono rfl) (fun t ht => ?_) hs
  (try simp (maxDischargeDepth := 40) +contextual only [ht, hd_mk, hd_fold, hd_ite, ite_self, implies_true, kp_drawn (hq.mono rfl),
        kp_mailboxAnswer (hq.mono rfl), kp_mailboxCommand (hq.mono rfl), nextIs_next, nextIs_ite, nextIs_fault, ne_eq, not_false_eq_true])
  repeat' split
  all_goals first
    | (with_reducible exact ht)
    | (simp (maxDischargeDepth := 40) +contextual only [ht, hd_mk, hd_fold, hd_ite, ite_self, implies_true, kp_drawn (hq.mono rfl),
        kp_mailboxAnswer (hq.mono rfl), kp_mailboxCommand (hq.mono rfl), nextIs_next, nextIs_ite, nextIs_fault, ne_eq, not_false_eq_true];
        done)

def kw_execGetEventRecords : Writes := ⟨[0xD02004], []⟩
theorem kp_execGetEventRecords {κ ν : Nat} (hq : Quiet kw_execGetEventRecords κ ν) (p : Port) (log : Fin 4) {s : State} (hs : Holds κ ν s) :
        NextIs (Holds κ ν) (execGetEventRecords p log s) := by
  unfold execGetEventRecords
  refine kp_mailboxCommand (hq.mono rfl) (fun t ht => ?_) hs
  (try simp (maxDischargeDepth := 40) +contextual only [ht, hd_mk, hd_fold, hd_ite, ite_self, implies_true, kp_mailboxAnswer (hq.mono rfl),
        kp_mailboxCommand (hq.mono rfl), nextIs_next, nextIs_ite, nextIs_fault, ne_eq, not_false_eq_true])
  repeat' split
  all_goals first
    | (with_reducible exact ht)
    | (simp (maxDischargeDepth := 40) +contextual only [ht, hd_mk, hd_fold, hd_ite, ite_self, implies_true, kp_mailboxAnswer (hq.mono rfl),
        kp_mailboxCommand (hq.mono rfl), nextIs_next, nextIs_ite, nextIs_fault, ne_eq, not_false_eq_true]; done)

def kw_execClearEventRecords : Writes := ⟨[0xD02004], []⟩
theorem kp_execClearEventRecords {κ ν : Nat} (hq : Quiet kw_execClearEventRecords κ ν) (p : Port) (log : Fin 4) (handles : Option (List
        Nat)) {s : State} (hs : Holds κ ν s) : NextIs (Holds κ ν) (execClearEventRecords p log handles s) := by
  unfold execClearEventRecords
  refine kp_mailboxCommand (hq.mono rfl) (fun t ht => ?_) hs
  (try simp (maxDischargeDepth := 40) +contextual only [ht, hd_mk, hd_fold, hd_ite, ite_self, implies_true, kp_clearLog (hq.mono rfl),
        kp_mailboxAnswer (hq.mono rfl), kp_mailboxCommand (hq.mono rfl), nextIs_next, nextIs_ite, nextIs_fault, ne_eq, not_false_eq_true])
  repeat' split
  all_goals first
    | (with_reducible exact ht)
    | (simp (maxDischargeDepth := 40) +contextual only [ht, hd_mk, hd_fold, hd_ite, ite_self, implies_true, kp_clearLog (hq.mono rfl),
        kp_mailboxAnswer (hq.mono rfl), kp_mailboxCommand (hq.mono rfl), nextIs_next, nextIs_ite, nextIs_fault, ne_eq, not_false_eq_true];
        done)

def kw_execGetEventInterruptPolicy : Writes := ⟨[0xD02004], []⟩
theorem kp_execGetEventInterruptPolicy {κ ν : Nat} (hq : Quiet kw_execGetEventInterruptPolicy κ ν) (p : Port) {s : State} (hs : Holds κ ν s)
        : NextIs (Holds κ ν) (execGetEventInterruptPolicy p s) := by
  unfold execGetEventInterruptPolicy
  refine kp_mailboxCommand (hq.mono rfl) (fun t ht => ?_) hs
  (try simp (maxDischargeDepth := 40) +contextual only [ht, hd_mk, hd_fold, hd_ite, ite_self, implies_true, kp_mailboxAnswer (hq.mono rfl),
        kp_mailboxCommand (hq.mono rfl), nextIs_next, nextIs_ite, nextIs_fault, ne_eq, not_false_eq_true])
  repeat' split
  all_goals first
    | (with_reducible exact ht)
    | (simp (maxDischargeDepth := 40) +contextual only [ht, hd_mk, hd_fold, hd_ite, ite_self, implies_true, kp_mailboxAnswer (hq.mono rfl),
        kp_mailboxCommand (hq.mono rfl), nextIs_next, nextIs_ite, nextIs_fault, ne_eq, not_false_eq_true]; done)

def kw_execSetEventInterruptPolicy : Writes := ⟨[0xD02004], []⟩
theorem kp_execSetEventInterruptPolicy {κ ν : Nat} (hq : Quiet kw_execSetEventInterruptPolicy κ ν) (p : Port) (info warn fail fatal : Byte)
        {s : State} (hs : Holds κ ν s) : NextIs (Holds κ ν) (execSetEventInterruptPolicy p info warn fail fatal s) := by
  unfold execSetEventInterruptPolicy
  refine kp_mailboxCommand (hq.mono rfl) (fun t ht => ?_) hs
  (try simp (maxDischargeDepth := 40) +contextual only [ht, hd_mk, hd_fold, hd_ite, ite_self, implies_true, kp_modPort (hq.mono rfl),
        kp_mailboxAnswer (hq.mono rfl), kp_mailboxCommand (hq.mono rfl), nextIs_next, nextIs_ite, nextIs_fault, ne_eq, not_false_eq_true])
  repeat' split
  all_goals first
    | (with_reducible exact ht)
    | (simp (maxDischargeDepth := 40) +contextual only [ht, hd_mk, hd_fold, hd_ite, ite_self, implies_true, kp_modPort (hq.mono rfl),
        kp_mailboxAnswer (hq.mono rfl), kp_mailboxCommand (hq.mono rfl), nextIs_next, nextIs_ite, nextIs_fault, ne_eq, not_false_eq_true];
        done)

def kw_execGetFwInfo : Writes := ⟨[0xD02004], []⟩
theorem kp_execGetFwInfo {κ ν : Nat} (hq : Quiet kw_execGetFwInfo κ ν) (p : Port) {s : State} (hs : Holds κ ν s) : NextIs (Holds κ ν)
        (execGetFwInfo p s) := by
  unfold execGetFwInfo
  refine kp_mailboxCommand (hq.mono rfl) (fun t ht => ?_) hs
  (try simp (maxDischargeDepth := 40) +contextual only [ht, hd_mk, hd_fold, hd_ite, ite_self, implies_true, kp_mailboxAnswer (hq.mono rfl),
        kp_mailboxCommand (hq.mono rfl), nextIs_next, nextIs_ite, nextIs_fault, ne_eq, not_false_eq_true])
  repeat' split
  all_goals first
    | (with_reducible exact ht)
    | (simp (maxDischargeDepth := 40) +contextual only [ht, hd_mk, hd_fold, hd_ite, ite_self, implies_true, kp_mailboxAnswer (hq.mono rfl),
        kp_mailboxCommand (hq.mono rfl), nextIs_next, nextIs_ite, nextIs_fault, ne_eq, not_false_eq_true]; done)

def kw_execTransferFw : Writes := ⟨[0xD00105, 0xD02004, 0xD06002, 0xD06005], []⟩
theorem kp_execTransferFw {κ ν : Nat} (hq : Quiet kw_execTransferFw κ ν) (p : Port) (signatureOk : Bool) (version : Nat) {s : State} (hs :
        Holds κ ν s) : NextIs (Holds κ ν) (execTransferFw p signatureOk version s) := by
  unfold execTransferFw
  refine kp_mailboxCommand (hq.mono rfl) (fun t ht => ?_) hs
  (try simp (maxDischargeDepth := 40) +contextual only [ht, hd_mk, hd_fold, hd_ite, ite_self, implies_true, kp_mailboxAnswer (hq.mono rfl),
        kp_mailboxBusy (hq.mono rfl), kp_mailboxCommand (hq.mono rfl), kp_stageImage (hq.mono rfl), nextIs_next, nextIs_ite, nextIs_fault,
        ne_eq, not_false_eq_true])
  repeat' split
  all_goals first
    | (with_reducible exact ht)
    | (simp (maxDischargeDepth := 40) +contextual only [ht, hd_mk, hd_fold, hd_ite, ite_self, implies_true, kp_mailboxAnswer (hq.mono rfl),
        kp_mailboxBusy (hq.mono rfl), kp_mailboxCommand (hq.mono rfl), kp_stageImage (hq.mono rfl), nextIs_next, nextIs_ite, nextIs_fault,
        ne_eq, not_false_eq_true]; done)

def kw_execActivateFw : Writes := ⟨[0xD00105, 0xD02004, 0xD06002], []⟩
theorem kp_execActivateFw {κ ν : Nat} (hq : Quiet kw_execActivateFw κ ν) (p : Port) (online : Bool) (result : ActivationResult) {s : State}
        (hs : Holds κ ν s) : NextIs (Holds κ ν) (execActivateFw p online result s) := by
  have n0 : κ ≠ 0xD06002 := hq.ne rfl
  unfold execActivateFw
  refine kp_mailboxCommand (hq.mono rfl) (fun t ht => ?_) hs
  (try simp (maxDischargeDepth := 40) +contextual only [ht, hd_mk, hd_fold, hd_ite, ite_self, implies_true, n0, hd_put, kp_activateByHost
        (hq.mono rfl), kp_mailboxAnswer (hq.mono rfl), kp_mailboxBusy (hq.mono rfl), kp_mailboxCommand (hq.mono rfl), nextIs_next,
        nextIs_ite, nextIs_fault, ne_eq, not_false_eq_true])
  repeat' split
  all_goals first
    | (with_reducible exact ht)
    | (simp (maxDischargeDepth := 40) +contextual only [ht, hd_mk, hd_fold, hd_ite, ite_self, implies_true, n0, hd_put, kp_activateByHost (hq.mono
        rfl), kp_mailboxAnswer (hq.mono rfl), kp_mailboxBusy (hq.mono rfl), kp_mailboxCommand (hq.mono rfl), nextIs_next, nextIs_ite,
        nextIs_fault, ne_eq, not_false_eq_true]; done)

def kw_execSecureErase : Writes := ⟨[0x302001, 0x302002, 0x302005, 0x302006, 0x502007, 0x611003, 0x619004, 0xB03004, 0xB04003, 0xD00105,
        0xD02004], [(0x612000, 0x613000, 256), (0x620000, 0x624000, 256), (0x700101, 0x700111, 256)]⟩
theorem kp_execSecureErase {κ ν : Nat} (hq : Quiet kw_execSecureErase κ ν) (p : Port) {s : State} (hs : Holds κ ν s) : NextIs (Holds κ ν)
        (execSecureErase p s) := by
  unfold execSecureErase
  refine kp_mailboxCommand (hq.mono rfl) (fun t ht => ?_) hs
  (try simp (maxDischargeDepth := 40) +contextual only [ht, hd_mk, hd_fold, hd_ite, ite_self, implies_true, kp_mailboxCommand (hq.mono rfl),
        kp_sanitizeByHost (hq.mono rfl), nextIs_next, nextIs_ite, nextIs_fault, ne_eq, not_false_eq_true])
  repeat' split
  all_goals first
    | (with_reducible exact ht)
    | (simp (maxDischargeDepth := 40) +contextual only [ht, hd_mk, hd_fold, hd_ite, ite_self, implies_true, kp_mailboxCommand (hq.mono rfl),
        kp_sanitizeByHost (hq.mono rfl), nextIs_next, nextIs_ite, nextIs_fault, ne_eq, not_false_eq_true]; done)

def kw_execUnsupportedMailboxOpcode : Writes := ⟨[0xD02004], []⟩
theorem kp_execUnsupportedMailboxOpcode {κ ν : Nat} (hq : Quiet kw_execUnsupportedMailboxOpcode κ ν) (p : Port) (opcode : BitVec 16) {s :
        State} (hs : Holds κ ν s) : NextIs (Holds κ ν) (execUnsupportedMailboxOpcode p opcode s) := by
  unfold execUnsupportedMailboxOpcode
  refine kp_mailboxCommand (hq.mono rfl) (fun t ht => ?_) hs
  (try simp (maxDischargeDepth := 40) +contextual only [ht, hd_mk, hd_fold, hd_ite, ite_self, implies_true, kp_mailboxAnswer (hq.mono rfl),
        kp_mailboxCommand (hq.mono rfl), nextIs_next, nextIs_ite, nextIs_fault, ne_eq, not_false_eq_true])
  repeat' split
  all_goals first
    | (with_reducible exact ht)
    | (simp (maxDischargeDepth := 40) +contextual only [ht, hd_mk, hd_fold, hd_ite, ite_self, implies_true, kp_mailboxAnswer (hq.mono rfl),
        kp_mailboxCommand (hq.mono rfl), nextIs_next, nextIs_ite, nextIs_fault, ne_eq, not_false_eq_true]; done)

def kw_execSessionOpen : Writes := ⟨[0x140106, 0x140107], []⟩
theorem kp_execSessionOpen {κ ν : Nat} (hq : Quiet kw_execSessionOpen κ ν) (req : Req) (level : Nat) (nonce : BitVec 128) {s : State} (hs :
        Holds κ ν s) : NextIs (Holds κ ν) (execSessionOpen req level nonce s) := by
  unfold execSessionOpen
  simp (maxDischargeDepth := 40) +contextual only [hs, hd_mk, hd_fold, hd_ite, ite_self, implies_true, kp_arrive (hq.mono rfl), kp_openStep
        (hq.mono rfl), kp_sendStep (hq.mono rfl), nextIs_next, nextIs_ite, nextIs_fault, ne_eq, not_false_eq_true]

def kw_execSessionResponse : Writes := ⟨[0x110004, 0x140106, 0x140107], []⟩
theorem kp_execSessionResponse {κ ν : Nat} (hq : Quiet kw_execSessionResponse κ ν) (req : Req) (number : Nat) (proof : BitVec 256) {s :
        State} (hs : Holds κ ν s) : NextIs (Holds κ ν) (execSessionResponse req number proof s) := by
  unfold execSessionResponse
  simp (maxDischargeDepth := 40) +contextual only [hs, hd_mk, hd_fold, hd_ite, ite_self, implies_true, kp_arrive (hq.mono rfl),
        kp_responseStep (hq.mono rfl), kp_sendStep (hq.mono rfl), nextIs_next, nextIs_ite, nextIs_fault, ne_eq, not_false_eq_true]

def kw_execSessionClose : Writes := ⟨[0x140106, 0x140107], []⟩
theorem kp_execSessionClose {κ ν : Nat} (hq : Quiet kw_execSessionClose κ ν) (req : Req) {s : State} (hs : Holds κ ν s) : NextIs (Holds κ ν)
        (execSessionClose req s) := by
  unfold execSessionClose
  simp (maxDischargeDepth := 40) +contextual only [hs, hd_mk, hd_fold, hd_ite, ite_self, implies_true, kp_arrive (hq.mono rfl), kp_closeNow
        (hq.mono rfl), kp_inSession (hq.mono rfl), kp_refuseClose (hq.mono rfl), nextIs_next, nextIs_ite, nextIs_fault, ne_eq,
        not_false_eq_true]

theorem kp_execSessionReservationTimeout {κ ν : Nat} (hq : Quiet kw_none κ ν) (number : Nat) {s : State} (hs : Holds κ ν s) : NextIs (Holds
        κ ν) (execSessionReservationTimeout number s) := by
  unfold execSessionReservationTimeout
  simp (maxDischargeDepth := 40) +contextual only [hs, hd_mk, hd_fold, hd_ite, ite_self, implies_true, nextIs_next, nextIs_ite, nextIs_fault,
        ne_eq, not_false_eq_true]

theorem kp_execSessionIdleTimeout {κ ν : Nat} (hq : Quiet kw_none κ ν) (number : Nat) {s : State} (hs : Holds κ ν s) : NextIs (Holds κ ν)
        (execSessionIdleTimeout number s) := by
  unfold execSessionIdleTimeout
  simp (maxDischargeDepth := 40) +contextual only [hs, hd_mk, hd_fold, hd_ite, ite_self, implies_true, kp_endSessions (hq.mono rfl),
        nextIs_next, nextIs_ite, nextIs_fault, ne_eq, not_false_eq_true]

theorem kp_execProofHoldExpiry {κ ν : Nat} (hq : Quiet kw_none κ ν) (path : Path) {s : State} (hs : Holds κ ν s) : NextIs (Holds κ ν)
        (execProofHoldExpiry path s) := by
  unfold execProofHoldExpiry
  simp (maxDischargeDepth := 40) +contextual only [hs, hd_mk, hd_fold, hd_ite, ite_self, implies_true, nextIs_next, nextIs_ite, nextIs_fault,
        ne_eq, not_false_eq_true]

end Sys2Proof.Machine
end

