-- ==== Sys2Proof/WellFormed.lean ====
section
/-! DEFINITION. Which commands are well formed: the operands that the ports, links and agents can present. -/

namespace Sys2Proof

/-- The highest decodable device address (chapter 02, The DPA layout). -/
def topDpa : Nat := 0x04004FFFFFFF

/-- The first line of the window slots: lines below it hold data. -/
def firstWindowLine : Nat := 0x1000000000

/-- A line of the data range. -/
def lineOk (line : Nat) : Bool := decide (line < firstWindowLine)

/-- A line-aligned device address inside the decodable range. -/
def dpaOk (dpa : Nat) : Bool := decide (dpa ≤ topDpa) && dpa % 64 == 0

/-- The byte enables of a partial write: fewer than 64 (R13). -/
def partialEnables (be : ByteEnables) : Bool := be != BitVec.allOnes 64

/-- A command is well formed when its operands lie in the ranges its sender can present. -/
def Instr.wf : Instr → Bool
  | .fullLineWrite _ _ line _ => lineOk line
  | .partialWrite _ _ line be _ => lineOk line && partialEnables be
  | .poisonedWrite _ _ line => lineOk line
  | .memRd _ _ line => lineOk line
  | .windowAccess _ _ dpa _ => dpaOk dpa && decide (firstWindowLine * 64 ≤ dpa)
  | .stagingHoldExpiry line _ => lineOk line
  | .logRelocation line => lineOk line
  | .stampFormConversion line => lineOk line
  | .segmentFold n | .demandRebuild n | .segmentRebuilt n => decide (n < 1048576)
  | .floorRestoreMove page => decide (page < 1073741824)
  | .unmapperDone e => decide (e < 16)
  | .portException _ cause => decide (1 ≤ cause) && decide (cause ≤ 7)
  | .curtain cause => decide (1 ≤ cause) && decide (cause ≤ 5)
  | .restore upTo _ _ => decide (6 ≤ upTo) && decide (upTo ≤ 13)
  | .sourceSectorFailure unit page sector _ => decide (unit < 1048576) && decide (page < 8192) && decide (sector < 64)
  | .sectorSelfTest unit page sector _ _ => decide (unit < 1048576) && decide (page < 8192) && decide (sector < 64)
  | .mergePlacement .. | .globalVisibilityTransfer .. | .mediumSectorReadDone .. | .patienceExpiry .. | .suspension .. | .suspendOverrun ..
  | .resume .. | .portResponseDeadline .. | .mediaRetryEnd .. | .failedCheck .. | .barrierWordRead .. | .groupControlRead ..
  | .openGroup .. | .bindGroup .. | .commitGroup .. | .commitInstant .. | .abortGroup .. | .releaseGroup .. | .unassignedGroupCommand ..
  | .groupCommandFinish .. | .forceAbort .. | .reserveRead .. | .conditionalStore .. | .plainCellStore .. | .resultRead .. | .discard ..
  | .discardInstant .. | .userCounterWindowRead .. | .globalPersistentFlushPhase1 .. | .globalPersistentFlushPhase2 ..
  | .hdmDecoderCommit .. | .portDetect .. | .linkUp .. | .linkTrainingFailed .. | .perst .. | .surpriseLinkLoss .. | .viralReceived ..
  | .portEnableWrite .. | .identify .. | .getEventRecords .. | .clearEventRecords .. | .getEventInterruptPolicy ..
  | .setEventInterruptPolicy .. | .getFwInfo .. | .transferFw .. | .activateFw .. | .getTimestamp .. | .setTimestamp ..
  | .identifyMemoryDevice .. | .getHealthInfo .. | .sanitize .. | .secureErase .. | .unsupportedMailboxOpcode .. | .entryRead ..
  | .rcEntryRead .. | .entryWrite .. | .blockRead .. | .blockWrite .. | .sessionOpen .. | .sessionResponse .. | .sessionClose ..
  | .sessionReservationTimeout .. | .sessionIdleTimeout .. | .proofHoldExpiry .. | .levelKeyWrite .. | .closeAllSessions ..
  | .setDefaults .. | .forceUnprotectedWrite .. | .deviceTimeWrite .. | .regionAttributeWrite .. | .regionClassWrite ..
  | .promptPreparationDone .. | .policyProfileWrite .. | .logRowDispatch .. | .logRowCloseTime .. | .logRowComplete ..
  | .programDispatch .. | .programComplete .. | .stripePageComplete .. | .chunkGrant .. | .dieTemperatureRead .. | .stampCeilingRaise ..
  | .checkpoint .. | .directoryImage .. | .backgroundRebuildDone .. | .foldStart .. | .foldStop .. | .foldStripePageDispatch ..
  | .foldMapSet .. | .logTrim .. | .collection .. | .collectionCritical .. | .destinationProgramFailure .. | .wearLevellingMove ..
  | .roleRotation .. | .hourlyTrickle .. | .ageMeterReprogram .. | .priorityPass .. | .patrolVisit .. | .outOfTurnVisit .. | .unitRetest ..
  | .demotion .. | .dieRetiring .. | .dieFailed .. | .channelRetired .. | .rebuildComplete .. | .stripeWithdrawn .. | .retireDie ..
  | .regionOffline .. | .regionOnline .. | .writeBackBatch .. | .integrityTableImage .. | .integrityLineFetch .. | .counterCacheError ..
  | .resumeFromHalt .. | .renewKeySlot .. | .scrub .. | .uncorrectableError .. | .criticalStateError .. | .rowSelfTest .. | .clearTable ..
  | .writeRaw .. | .readRaw .. | .vinValid .. | .inputLoss .. | .overvoltage .. | .inputSwitchReclose .. | .bandDown .. | .bandUp ..
  | .powerCapAdjust .. | .rise .. | .railFault .. | .retryRails .. | .fall .. | .lossOfProtection .. | .protectionRestored ..
  | .yoYoTest .. | .runYoYoTest .. | .cartridgeRemoved .. | .cartridgeInserted .. | .curtainCommitPoint .. | .curtainCancelled ..
  | .curtainOutcome .. | .cartridgeFloor .. | .shortPress .. | .serviceRequestWindowEnd .. | .serviceRelease .. | .forcedPowerDown ..
  | .mrN .. | .offRequest .. | .onRequest .. | .minimumOffTimeEnd .. | .deviceReset .. | .managementWatchdog .. | .enterDoze ..
  | .idleTimer .. | .dozeEntryStep .. | .wake .. | .wakeN .. | .wakeDelay .. | .enterService .. | .leaveService .. | .serviceTimeLimit ..
  | .activateOnline .. | .slowRound .. | .reAdmitSensor .. | .throttleCleared .. | .enforcementLevel .. | .lockout .. | .frameReceived ..
  | .discover .. | .rattle .. | .notice .. | .beaconLoss .. | .beaconReceived .. | .nodeIdConflict .. | .fieldLinkConfigWrite ..
  | .reducedRateRefill .. | .occurrence .. | .latchClear .. | .heldMsiX .. | .recorderWrite .. | .captureEpisode .. | .clearRecorder ..
  | .coreDelayMargin .. | .crossingError .. | .completionStall .. | .counterSelectWrite .. | .counterStickyClear .. | .counterWrap ..
  | .bandwidthWindowEnd .. | .queueFlush .. | .oldestSampleItemRead .. | .dmaDescriptorWrite .. | .dmaStart .. | .dmaAbort ..
  | .dmaBurstPlaced .. | .drainIdleTimer .. | .releaseChannel .. | .mrNHigh .. | .stuckRailCleared .. => true

end Sys2Proof
end

