-- ==== Sys2Proof/Tests/Slice0.lean ====
section
/-! SUPPORT. Tests: the checks of WellFormed refuse ill-formed commands, the hypotheses of every statement are met by concrete states, clause by
clause, and single steps give what the spec's tables and examples say. -/

namespace Sys2Proof.Machine.Tests

set_option Elab.async false

open Sys2Proof Sys2Proof.Machine

/-! ### Small states -/

/-- The module right after reset, in another mode. -/
def inMode (m : Nat) : State := State.reset.put 0xD00101 m

/-- Both links operational. -/
def up (s : State) : State := (s.put 0x301001 3).put 0x301101 3

/-- In FULL, with both links operational. -/
def full : State := up (inMode modeFull)

def store (tag line seq : Nat) : Store :=
  { tag := tag, line := line, be := fullEnables, data := 7, poison := false, prot := true, wmode := 0, seq := seq, acceptedAt := 0, sampled := false }

def piece (tag line seq : Nat) : Store := { store tag line seq with be := 1 }

/-- Stores wait in the queue of port A. -/
def queued (l : List Store) (s : State) : State := s.modPort .a fun q => { q with queue := l }

def staged (line : Nat) (grp : Option Nat) : Staged :=
  { line := line, grp := grp, data := 7, poison := false, stamp := 1, wmode := 0 }

def hostRead (place : ReadPlace) : Read :=
  { id := 0, reader := .host .a 9, line := 5, cls := clsNormal, acceptedAt := 0, place := place, unit := 0 }

def reading (r : Read) (s : State) : State := { s with reads := [r] }

def program (suspended : Bool) : Op := { id := 1, unit := 0, kind := .ml, owner := .save, suspended := suspended }

def running (l : List Op) (s : State) : State := { s with med := { s.med with ops := l } }

def command (code : Nat) : GroupCommand := { port := .a, code := code, a := 0, b := 1, seq := 0 }

/-! ### The hypotheses of the statements are met -/

theorem test_witness_StepRunsTheFrontCommand :
    { State.reset with pending := [Instr.shortPress] }.pending = [Instr.shortPress] ∧ State.reset.pending = [] ∧
      State.reset.modes.activation = none := by decide +kernel

theorem test_witness_CommandsPassNoTime :
    (∃ t, exec .shortPress State.reset = .next t) ∧ ∃ t, step { State.reset with pending := [.shortPress] } = .next t := ⟨⟨_, rfl⟩, _, rfl⟩

theorem test_witness_RequestsOutsideTheSpaceStop :
    decodableLines ≤ decodableLines ∧ exec (.memRd .a 0 decodableLines) full = .fault .outsideDpa ∧
      exec (.windowAccess .a 0 (64 * decodableLines) .read) full = .fault .outsideDpa := ⟨Nat.le_refl _, rfl, rfl⟩

theorem test_witness_EveryStepKeepsTheForms :
    step State.reset = .next (tick State.reset) ∧ rising State.reset.dict = true ∧ rising State.reset.cells = true ∧
      rising State.reset.groups = true ∧ State.reset.mgmt.changes.length ≤ 256 := ⟨rfl, rfl, rfl, rfl, by decide⟩

theorem test_witness_ReservationsStayLimited :
    ([3] : List Nat).Nodup ∧ full.memOpen .a = true ∧ PortRests full .a ∧ full.mode ≠ modeService ∧
      { full with reservedB := [16383] }.holdsReservation .b 16383 = true ∧ (full.reserved .a).length < 64 := by decide +kernel

theorem test_witness_CellsAreVolatile :
    (full.portA.waits = [] ∧ full.portB.waits = []) ∧ ((inMode modeRise).mode ≠ modeRestore ∧ ∃ t, exec (.rise true true) (inMode modeRise) = .next t ∧ t.mode = modeRestore) ∧
    (∃ t, exec .mrNHigh { inMode modeRise with pow := { (inMode modeRise).pow with risen := true } } = .next t ∧ t.mode = modeRestore) :=
  ⟨by decide +kernel, ⟨by decide +kernel, _, rfl, by decide +kernel⟩, _, rfl, by decide +kernel⟩

theorem test_witness_StoresLeaveTheOtherLines :
    (queued [store 1 5 0] full).nextTransfer .a = some (store 1 5 0) ∧ (queued [store 1 5 0] full).stagingFull = false ∧
      (queued [store 1 5 0] full).fate (some .a) 5 = .plain ∧ (queued [store 1 5 0] full).rangePoisons 5 full.nextStamp = false ∧
      NothingWaits (queued [store 1 5 0] full) .a ∧ 5 < Machine.dataLines ∧ Instr.memRd .a 1 5 ≠ .partialWrite .a 1 5 0 0 := by decide +kernel

theorem test_witness_Frames :
    (∃ t, exec (.barrierWordRead .a 1) full = .next t) ∧ shape (.barrierWordRead .a 1) = .hostRead ∧ ¬reportKey 0xD00101 ∧
      0xD00101 ∉ [0x301008] ∧ (0xD00101 < 0x620000 ∨ 0x624000 ≤ 0xD00101) := ⟨⟨_, rfl⟩, by decide⟩

theorem test_witness_OnlyCellStoresWriteCells :
    (∃ t, exec (.plainCellStore .a 1 3 fullEnables 7) full = .next t) ∧ shape (.plainCellStore .a 1 3 fullEnables 7) ≠ .restart ∧
      storedCell (.plainCellStore .a 1 3 fullEnables 7) ≠ some 4 ∧ 4 ∉ waitedCells full ∧
      storedCell (.fullLineWrite .a 1 (0x040010000040 / 64) 7) = some 1 := ⟨⟨_, rfl⟩, by decide +kernel⟩

theorem test_witness_HostStoresEnterAndAreDenied :
    (0 < Machine.dataLines ∧ Machine.dataLines - 1 < Machine.dataLines ∧ full.writeOpen .a = true ∧ full.mayStore .a 0 = true ∧
      full.mayStore .a (Machine.dataLines - 1) = true ∧ (1 : ByteEnables) ≠ fullEnables) ∧
    { full with pow := { full.pow with persistAtEntry := true } }.pow.persistAtEntry = true ∧
    ((full.put 0x41000A 0).writeOpen .a = true ∧ (full.put 0x41000A 0).mayStore .a 0 = false) := by decide +kernel

/-- A staging array with `n` blocks in use; 94,208 leave no room. -/
def blocksStaged (n : Nat) : List Staged := (List.range n).map fun i => staged (4 * i) none

theorem eraseDups_of_nodup {α : Type} [BEq α] [LawfulBEq α] {l : List α} (h : l.Nodup) : l.eraseDups = l := by
  induction l with
  | nil => rfl
  | cons a l ih =>
    rw [List.nodup_cons] at h
    rw [List.eraseDups_cons, List.filter_eq_self.mpr, ih h.2]
    intro b hb
    simpa using fun e : b = a => h.1 (e ▸ hb)

theorem blocksStaged_slots (n : Nat) (s : State) : State.stagingSlots { s with staging := blocksStaged n } = n := by
  have : ((blocksStaged n).map fun l => (blockOfLine l.line, l.grp)) = (List.range n).map fun i => (i, (none : Option Nat)) := by
    rw [blocksStaged, List.map_map]
    refine List.map_congr_left fun i _ => ?_
    show (4 * i / 4, none) = (i, none)
    rw [Nat.mul_div_cancel_left i (by omega)]
  show ((blocksStaged n).map fun l => (blockOfLine l.line, l.grp)).eraseDups.length = n
  rw [this, eraseDups_of_nodup, List.length_map, List.length_range]
  exact List.pairwise_map.mpr (List.nodup_range.imp fun h e => h (Prod.mk.inj e).1)

theorem blocksStaged_full (s : State) : State.stagingFull { s with staging := blocksStaged 94208 } = true := by
  rw [State.stagingFull, State.freeStaging, blocksStaged_slots]
  rfl

theorem test_witness_QueuedStoresReachTheStagingArray :
    ((queued [store 1 5 0] full).fate (some .a) 5 = .plain ∧ NothingWaits (queued [store 1 5 0] full) .a ∧
      NothingWaits (queued [piece 1 5 0] full) .a ∧ (queued [store 1 5 0] full).nextTransfer .a = some (store 1 5 0) ∧
      (queued [store 1 5 0] full).stagingFull = false) ∧
    ((queued [piece 1 5 0] full).findPartial .a 1 = some (piece 1 5 0) ∧ (queued [piece 1 5 0] full).mergeReady .a (piece 1 5 0) = true ∧
      ((queued [piece 1 5 0] full).visibleTo .a 5).poison = false) ∧
    (State.stagingFull { queued [store 1 5 0] full with staging := blocksStaged 94208 } = true ∧
      (queued [store 1 5 0] full).stallSince = none) :=
  ⟨by decide +kernel, by decide +kernel, blocksStaged_full _, by decide +kernel⟩

theorem test_witness_ReadsAreAnsweredFromTheirPlaces :
    (0 < Machine.dataLines ∧ full.memOpen .a = true ∧ full.lineOffline 5 = false ∧ (full.put 0x41000C 3).lineOffline 5 = true) ∧
    ((queued [store 1 5 0] full).newestQueued .a 5 = some (store 1 5 0) ∧ (store 1 5 0).whole = true) ∧
    (full.newestQueued .a 5 = none ∧ full.ownedGroup .a (pageOfLine 5) = none ∧
      { full with staging := [staged 5 none] }.stagedOf 5 none = some (staged 5 none) ∧ (staged 5 none).poison = false ∧
      full.rangePoisons 5 1 = false) := by decide +kernel

theorem test_witness_SectorsAnswerRetryOrHalt :
    ((reading (hostRead .queued) full).findRead 0 = some (hostRead .queued) ∧ (reading (hostRead .queued) full).senseReady (hostRead .queued) = true ∧
      (hostRead .queued).reader = .host .a 9 ∧ (hostRead .queued).answered = false ∧ (full.port .a).silent = false ∧
      full.newestQueued .a (hostRead .queued).line = none ∧ full.stripeReadable (hostRead .reconstruction).unit = true) ∧
    (full.dataPath = true ∧ full.serving = true ∧ (inMode modeService).mode = modeService ∧ (inMode modeRestore).mode = modeRestore ∧
      (inMode modeHalt).mode = modeHalt ∧ (inMode modeSave).mode = modeSave ∧ (inMode modeSave).serving = false) ∧
    (let good : Sense := { bch := true, tag := true }
     let bad : Sense := { bch := false, tag := false }
     (reading (hostRead .retry) full).findRead 0 = some (hostRead .retry) ∧ rereadVerifies { above := good, below := bad, rebuilt := false } = true ∧
       rereadVerifies { above := bad, below := bad, rebuilt := false } = false ∧ full.stripeReadable (hostRead .retry).unit = true) := by decide +kernel

theorem test_witness_ReadsWaitSuspendAndResume :
    let s := reading (hostRead .queued) full
    let e : Read := { hostRead .queued with entitled := true }
    (s.findRead 0 = some (hostRead .queued) ∧ (s.queueHead (regionOfUnit 0)).map (·.id) = some 0 ∧ (hostRead .queued).demand = true ∧
      (hostRead .queued).cls = clsNormal ∧ s.nearFull = false ∧ s.deadlineRuns (hostRead .queued) = true ∧ (s.port .a).silent = false) ∧
    ((reading e (running [program false] full)).entitledWaits (regionOfUnit 0) = true ∧
      (((reading e (running [program false] full)).regionOps (regionOfUnit 0)).any fun o => !o.suspended) = true ∧
      (reading e (running [program false] full)).regionHeld (regionOfUnit 0) = false ∧
      (reading e (running [{ program false with held := true }] full)).regionHeld (regionOfUnit 0) = true) ∧
    (((running [program true] full).regionOps (regionOfUnit 0)).any (·.suspended) = true ∧
      (running [program true] full).entitledWaits (regionOfUnit 0) = false ∧
      (running [{ program true with held := true }] full).regionHeld (regionOfUnit 0) = true) ∧
    ((reading e (running [program false] full)).regionBusy (regionOfUnit 0) = true ∧
      (reading e (running [program false] full)).entitledWaits (regionOfUnit 0) = true ∧
      regionOfUnit 0 ∉ full.med.overrunRegions ∧ regionOfUnit 1048575 < 256) := by decide +kernel

theorem test_witness_WindowAccessesAndReadsAreAnswered :
    (inWindows 0x040000000000 = true ∧ inWindows 0x04004FFFFFC0 = true ∧ full.memOpen .a = true ∧ full.writeOpen .a = true ∧ PortRests full .a ∧
      windowTarget (0x04004FFFFFC0 / 64 * 64) = .unused ∧ windowTarget 0x040010000000 = .cell 0 0) ∧
    ((full.group 262143).waitsFor .a full.nextSeq = false ∧ full.mode ≠ modeService ∧ (full.get 0xB00101).testBit 7 = false) ∧
    (full.owedCmps .a = [] ∧ { full with staging := [{ staged 5 none with cmpTo := [(.a, 7), (.b, 8)] }] }.owedCmps .a = [7]) := by decide +kernel

/-- A read of the barrier word waits for the Cmp of an unprotected store (R94). -/
theorem test_barrier_waits :
    let s : State := { full with staging := [{ staged 5 none with cmpTo := [(.a, 7)] }] }
    (∃ t, exec (.barrierWordRead .a 1) s = .next t ∧ t.out = s.out ∧ ((sendCmp .a 7 t).port .a).barriers = [] ∧
      (sendCmp .a 7 t).out.length = s.out.length + 2) := ⟨_, rfl, by decide +kernel, by decide +kernel, by decide +kernel⟩

theorem test_witness_ReserveReads :
    (full.memOpen .a = true ∧ PortRests full .a ∧ full.mode ≠ modeService) ∧
    { full with reservedA := [16383] }.holdsReservation .a 16383 = true ∧
    (full.holdsReservation .a 0 = false ∧ (full.reserved .a).length < 64) ∧
    ({ full with reservedA := List.range 64 }.holdsReservation .a 64 = false ∧ 64 ≤ ({ full with reservedA := List.range 64 }.reserved .a).length ∧
      full.canOccur 77 = true) := by decide +kernel

theorem test_witness_CellStores :
    full.writeOpen .a = true ∧ PortRests full .a ∧ full.mode ≠ modeService ∧ anyComplete fullEnables = true ∧ anyComplete 0xFF = true ∧
      { full with reservedA := [3] }.holdsReservation .a 3 = true ∧ full.holdsReservation .a 3 = false := by decide +kernel

def withGroup (g : Group) (s : State) : State := s.setGroup 0 g

def opened : Group := { phase := .opened, owner := .a, limit := 10, generation := 1 }

theorem test_witness_GroupCommandsTakeEffect :
    (GroupsOk full.groups ∧ full.writeOpen .a = true ∧ PortRests full .a ∧ full.modes.activation = none ∧ (full.group 0).running = none) ∧
    ((full.group 0).phase = .free ∧ ((some 16777216 : Option Word).getD 0).toNat ≤ 16777216 ∧ ((some 2 : Option Word).getD 0).getLsbD 0 = false) ∧
    (GroupsOk (withGroup opened full).groups ∧ ((withGroup opened full).group 0).phase = .opened ∧ ((withGroup opened full).group 0).owner = .a ∧
      ((withGroup opened full).group 0).running = none ∧ bindArgsOk 0 16777216 = true ∧ opened.extents.length < 64 ∧
      (withGroup opened full).lowestOffline 0 16777216 = none ∧ (withGroup opened full).lowestBound 0 0 16777216 = none ∧
      (withGroup opened full).claimedPages 0 + 16777216 ≤ 16777216) ∧
    ((withGroup { opened with phase := .lost } full).group 0).phase = .lost ∧ ((0 : Byte).toNat = 0 ∧ 5 < (6 : Byte).toNat) := by
  simp only [GroupsOk]
  decide +kernel

theorem test_witness_GroupsFinishAndCommit :
    let run (c : GroupCommand) (g : Group) : State := withGroup { g with running := some c } full
    ((run { command 1 with status := 0x0401 } opened).canFinish 0 = true ∧ (run (command 1) {}).canFinish 0 = true ∧
      (run (command 2) opened).canFinish 0 = true ∧ (run (command 4) opened).canFinish 0 = true ∧
      (run (command 5) { opened with phase := .lost }).canFinish 0 = true ∧
      (run { command 3 with decided := true } { opened with phase := .committed }).canFinish 0 = true ∧ full.groupsRun = true ∧
      ((run (command 1) {}).group 0).running = some (command 1) ∧ ((run (command 1) {}).group 0).waiting = [] ∧
      ((run (command 1) {}).group 0).readers = [] ∧ ((run (command 1) {}).group 0).pendingForce = none ∧
      (full.port .a).discard.waits = false ∧ (full.port .b).discard.waits = false ∧ (NothingWaits full .a ∧ NothingWaits full .b) ∧
      codeOpen = 1 ∧ codeBind = 2 ∧ codeCommit = 3 ∧ codeAbort = 4 ∧ codeRelease = 5) ∧
    (let s := { (run (command 3) { opened with phase := .committing }).put 0x402001 1 with staging := [staged 5 (some 0)] }
     let u := { s with xlat := { s.xlat with delta := [{ line := 6, grp := some 0, place := 0, stamp := 1 }] } }
     u.commitReady 0 = true ∧ u.groupsRun = true ∧ (u.group 0).conflict = false ∧ (∀ l ∈ u.staging, l.grp = some 0 → l.line ≠ 6) ∧
      (run (command 3) { opened with phase := .committing, conflict := true }).commitReady 0 = true ∧
      (run (command 3) { opened with phase := .committing, conflict := true, override := true }).commitReady 0 = true ∧
      (run (command 3) { opened with phase := .committing, conflict := true }).groupsRun = true) := by decide +kernel

theorem test_witness_DiscardsRun :
    let line : DiscardLine := { status := 1, firstPage := 0, pages := 1 }
    let s := full.modPort .a fun q => { q with discard := line }
    let d : PendingDiscard := { firstPage := 0, pages := 1, mark := 0, stamp := 1 }
    ((full.port .a).discard.status ≠ 1 ∧ full.discardReason 0 4096 = 0 ∧ full.discardReason 0 4398046511104 = 0 ∧ full.bindRuns 0 1 = false) ∧
    ((s.port .a).discard.status = 1 ∧ s.writeOpen .a = true ∧ PortRests s .a ∧ s.groupsRun = true ∧ s.discardReady .a = true ∧
      s.freeDiscardEntry = some 0) ∧
    (full.dataPath = true ∧ tfind 15 { full with xlat := { full.xlat with pendingDiscards := [(15, d)] } }.xlat.pendingDiscards = some d) := by
  decide +kernel

theorem test_witness_FlushWaits :
    let s : State := { queued [store 1 5 0] full with staging := blocksStaged 94208, nextSeq := 1 }
    s.flushOpen .a = true ∧ ∃ x ∈ ((flushQueue .a s).port .a).queue, x.seq < s.nextSeq := by
  have h : ∀ s : State, s.stagingFull = true → flushQueue .a s = s := fun s e => if_pos e
  exact ⟨by decide +kernel, store 1 5 0, by rw [h _ (blocksStaged_full { queued [store 1 5 0] full with nextSeq := 1 })]; decide +kernel,
    by decide +kernel⟩

theorem test_witness_FlushesComplete :
    full.flushOpen .a = true ∧ ((flushQueue .a full).port .a).queue = [] ∧
      (∀ x ∈ ((flushQueue .a full).port .a).queue, x.prot = false ∨ x.whole = false) := by decide +kernel

def channel (c : DmaChannel) (s : State) : State := s.setChannel 0 c

/-- A fill of 64 bytes at DPA 0, as a descriptor. -/
def fillDesc : List Word := [2, 0, 0, 64, 0, 0, 0, 0]

def filling : DmaChannel := { desc := fillDesc, captured := fillDesc, state := 1, residue := 64 }

theorem test_witness_DmaCommandsTakeEffect :
    (full.writeOpen .a = true ∧ PortRests full .a ∧ (full.channel 15).state ≠ 4 ∧ (full.channel 15).state ≠ 1 ∧
      full.dmaRefusal 15 (full.channel 15).desc ≠ 0) ∧
    (((full.put 0xC00103 1).setChannel 0 { desc := fillDesc }).dmaRefusal 0 fillDesc = 0) ∧
    ((channel filling full).channel 0).state = 1 ∧ ((channel { filling with state := 4 } full).channel 0).state = 4 := by decide +kernel

/-- A continuous drain of the sample queue into 64 bytes at DPA 0. -/
def draining : DmaChannel := { filling with captured := [0x804, 0, 0, 64, 0, 0, 0, 0] }

def sampled (s : State) : State :=
  { s with obs := { s.obs with samples := [{ stamp := 1, time := 1, line := 0, port := .a, opcode := 2, outcome := 0, die := 0, steps := 0, cls := 0, flags := 0 }] } }

theorem test_witness_BurstsArePlaced :
    let s := (channel filling full).put 0x402001 1
    (s.burstMode filling = true ∧ dmaOp filling.captured ≠ 4 ∧ s.burstError filling filling.room = none ∧
      (∀ g ∈ State.sourceSegments filling, s.isRebuilt g = true) ∧ s.stagingFull = false ∧ s.protected = true ∧ (s.channel 0).state = 1) ∧
    (((s.put 0x41000A 0).burstError filling filling.room).isSome = true) ∧
    let d := sampled ((channel { draining with residue := 128 } full).put 0x402001 1)
    let c := d.channel 0
    (c.state = 1 ∧ d.burstMode c = true ∧ dmaOp c.captured = 4 ∧ dmaContinuous c.captured = true ∧
      (gather c.room c.residue c.carry (d.drainItems c)).2 = (d.drainItems c).length ∧
      ((gather c.room c.residue c.carry (d.drainItems c)).1.isEmpty = false) ∧
      (gather c.room c.residue c.carry (d.drainItems c)).1.length ≤ c.room ∧
      d.burstError c (gather c.room c.residue c.carry (d.drainItems c)).1.length = none ∧ d.stagingFull = false ∧ d.protected = true) := by
  decide +kernel

theorem test_witness_AbortsLetTheBurstBePlaced :
    (full.writeOpen .a = true ∧ ((channel filling full).channel 0).state = 1) ∧
    (let c := { filling with abortPending := true }
     let s := (channel c full).put 0x402001 1
     (s.channel 0).state = 1 ∧ (s.channel 0).abortPending = true ∧ s.burstMode c = true ∧ s.burstError c c.room = none ∧
       (∀ g ∈ State.sourceSegments c, s.isRebuilt g = true) ∧ s.stagingFull = false ∧ s.protected = true ∧ dmaOp c.captured ≠ 4) ∧
    (let c := { draining with abortPending := true, residue := 128 }
     let s := (channel c full).put 0x402001 1
     dmaOp c.captured = 4 ∧ s.burstMode c = true ∧ (gather c.room c.residue c.carry (s.drainItems c)).1.take c.room = [] ∧
       ((gather c.room c.residue c.carry ((sampled s).drainItems c)).1.take c.room).isEmpty = false ∧
       (sampled s).burstError c ((gather c.room c.residue c.carry ((sampled s).drainItems c)).1.take c.room).length = none) := by
  decide +kernel

theorem test_witness_DecodersCommit : full.ioOpen .a = true := by decide +kernel

theorem test_witness_PortsTrainAndFail :
    let down := inMode modeFull
    (down.linksRun = true ∧ down.portEnabled .a = true ∧ (down.port .a).perst = false ∧ (down.port .a).heldDown = false ∧ down.linkState .a = 0) ∧
    ((down.put 0x301001 1).linkState .a = 1 ∧ (down.put 0x301001 1).linkOk .a 1 8 = true ∧ (down.port .a).retries < down.get 0x300106 ∧
      (down.put 0x300106 0).get 0x300106 ≤ (down.port .a).retries ∧ (8 ≠ down.nominalWidth .a ∨ 4 ≠ down.nominalWidth .a) ∧
      ((down.put 0x301001 1).put 0x301004 1).ready .a = true) ∧
    ((full.port .a).waits = [] ∧ full.vcoreOn = true ∧ full.portEnabled .a = true ∧ full.portEnabled .b = true ∧ (full.port .a).perst = false ∧ full.linkState .a = 3 ∧
      full.ioOpen .a = true) := by decide +kernel

theorem test_witness_MailboxQueriesAndSettings :
    (full.ioOpen .a = true ∧ full.mode ≠ modeDoze ∧ (up (inMode modeDoze)).mode = modeDoze ∧ (up (inMode modeDoze)).ioOpen .a = true) ∧
    ((0xBFFF : BitVec 16).toNat ∉ standardOpcodes ∧ (0xC008 : BitVec 16).toNat ∉ standardOpcodes ∧ 0xC007 < (0xC008 : BitVec 16).toNat) ∧
    (let r : EventRecord := { handle := 3, source := 1, severity := 0, stamp := 1, time := 1, values := [] }
     let s := full.modPort .a fun q => { q with logs := [(0, { records := [r] })] }
     (∀ h ∈ [3], ∃ x ∈ (tgetD {} 0 (s.port .a).logs).records, x.handle = h) ∧ ∀ x ∈ (tgetD {} 0 (s.port .a).logs).records, x.handle ≠ 4) := by
  decide +kernel

theorem test_witness_FirmwareAndSanitizeCommands :
    let s := (full.put 0x304003 1).put 0x304001 1
    (s.get 0x304003 = 1 ∧ s.actsNow = true ∧ s.get 0xD06008 ≤ s.get 0xD06008 ∧ 0 < (s.put 0xD06008 1).get 0xD06008) ∧
    ((s.put 0xD06002 1).activationAllowed = true ∧ (s.put 0xD06002 1).get 0xD06002 ≠ 0 ∧ s.modes.activation = none ∧ s.mode ≠ modeDoze) ∧
    (s.get 0x304001 = 1 ∧ (full.put 0x304001 0).get 0x304001 ≠ 1) := by decide +kernel

/-- A request without a session at the mailbox of port A. -/
def plain : Req := { path := .mailbox .a, session := 0, transaction := 1, counter := 0, tag := none }

/-- Requests at a mailbox without a session have Custodian privilege (0x3040.02). -/
def lord (s : State) : State := s.put 0x304002 3

/-- The request is answered here and now with OK. -/
def admits (s : State) (idx sub : Nat) (ask : DictAsk) : Bool :=
  s.ioOpen .a && s.judge plain idx sub ask == stOk && !(s.mode == modeDoze)

theorem admitted_of_admits {s : State} {idx sub : Nat} {ask : DictAsk} (h : admits s idx sub ask = true) : Admitted s plain idx sub ask s := by
  simp only [admits, Bool.and_eq_true, Bool.not_eq_true'] at h
  exact ⟨⟨s, ⟨h.1.1, rfl⟩, Or.inl ⟨rfl, rfl⟩⟩, eq_of_beq h.1.2, fun d _ => by simp [State.mustWait, h.2]⟩

def ses : Session := { number := 5, path := .fieldLink 7, level := 3, tagKey := [1], wrapKey := [2], lastUse := 0 }

/-- A read of the device type in session 5 on the field link, with the right tag. -/
def tagged : Req :=
  { path := .fieldLink 7, session := 5, transaction := 1, counter := 1,
    tag := some (requestTag [1] { path := .fieldLink 7, session := 5, transaction := 1, counter := 1, tag := none } 0x1000 1 .read) }

def onField (s : State) : State := { s.put 0x140008 1 with mgmt := { s.mgmt with sessions := [ses], bucket := 8 } }

/-- A request of a session is accepted on the field link, in reduced service too; one without a session on the mailbox. -/
theorem test_witness_Accepted :
    (∃ u, Arrives (.fieldLink 7) (onField full) (arrived (.fieldLink 7) (onField full)) ∧
      Accepted tagged 0x1000 1 .read (arrived (.fieldLink 7) (onField full)) u) ∧
    served (.fieldLink 7) (onField (inMode modeAux)) = true ∧ (onField (inMode modeAux)).reducedService = true ∧
      admits full 0x1000 0x01 .read = true :=
  ⟨⟨_, ⟨by decide +kernel, rfl⟩, Or.inr ⟨by decide, ses, by decide +kernel, rfl, fun h => absurd h.1 (by decide),
      by decide +kernel, rfl⟩⟩, by decide +kernel⟩

theorem test_witness_RequestsAreRefusedOrRead :
    (full.ioOpen .a = true ∧ full.judge plain 0x0FFF 1 .read ≠ 0 ∧ full.judge plain 0x1000 255 .read ≠ 0 ∧
      full.judge plain 0x1000 1 (.write [0, 0, 0, 0]) ≠ 0 ∧ full.judge plain 0x1000 1 (.write [0, 0, 0, 0]) ≠ stStateConflict) ∧
    ((describe 0x100001).isSome = true ∧ admits full 0x1000 0x01 .read = true ∧ (describe 0xB04005).isSome = true ∧
      admits (lord (sampled full)) 0xB040 0x05 .read = true ∧ admits full 0x1000 0x01 (.blockRead 0 1024) = true) := by decide +kernel

theorem test_witness_WritesTakeTheirValue :
    let s := lord full
    (admits s 0x4060 0x01 (.write [8]) = true ∧ ownEffect 0x406001 = false ∧ (describe 0x406001).map (·.access) = some .rw) ∧
    (admits s 0x4101 0x0A (.write [3]) = true ∧ ownEffect 0x41010A = false) ∧
    (admits s 0x1400 0x02 (.write [1]) = true ∧ ownEffect 0x140002 = false) ∧
    (admits s 0x4060 0x01 (.blockWrite 0 [8] true) = true ∧ s.assembled plain 0x406001 0 [8] = some [8]) ∧
    (admits s 0x1000 0x0D (.blockWrite 0 [0x61] false) = true ∧ s.assembled plain 0x10000D 0 [0x61] = some [0x61]) := by decide +kernel

theorem test_witness_SettingsAndRegionsTakeEffect :
    let s := lord full
    (admits s 0x4050 0x01 (.write [1, 0, 0, 0, 0, 0, 0, 0]) = true ∧ admits s 0x4010 0x01 (.write [1]) = true) ∧
    (admits s 0x3001 0x04 (.write [0]) = true ∧ s.get 0x300104 = 1 ∧ s.linkState .a = 3 ∧ PortRests s .a) ∧
    (admits s 0x4020 0x07 (.write [1]) = true ∧ s.protectionActs = true ∧ (s.put 0x402001 1).protected = true) ∧
    admits s 0x4101 0x04 (.write [1]) = true ∧ admits (s.put 0x410103 1073741824) 0x4101 0x01 (.write [1]) = true ∧
      admits (s.put 0x413F03 1073741824) 0x413F 0x01 (.write [1]) = true := by
  decide +kernel

theorem test_witness_ClearingWritesTakeEffect :
    let s := lord full
    (admits (s.put 0xE00001 1) 0xE000 0x01 (.write [1]) = true ∧ admits (s.put 0xE11F01 1) 0xE11F 0x01 (.write [1]) = true ∧
      0 ∉ [10, 22, 130, 131, 135] ∧ s.get (sourceKey 0 0x12) ≤ s.nextStamp ∧ admits (s.put 0xE08201 1) 0xE082 0x01 (.write [1]) = true ∧
      s.canOccur 130 = true) ∧
    (admits s 0xB110 1 (.write [1, 31]) = true ∧ admits s 0xB113 128 (.write [1, 31]) = true ∧
      admits s 0xB100 1 (.write [0, 0, 0, 0, 0, 0, 1, 0]) = true ∧ admits s 0xB103 128 (.write [0, 0, 0, 0, 0, 0, 1, 0]) = true) ∧
    admits s 0xB040 0x01 (.write [5]) = true := by decide +kernel

/-- A level key of zeros is admitted in a session; any other where the wrap key opens it. -/
theorem test_witness_LevelKeys :
    let r : Req := { plain with session := 5, counter := 1 }
    let x : Session := { ses with path := .mailbox .a }
    let s := { full with mgmt := { full.mgmt with sessions := [x] } }
    (s.sessionOf r = some x ∧ s.judge r 0x1110 1 (.write (List.replicate 40 0)) = stOk ∧ (List.replicate 40 (0 : Byte)).all (· == 0) = true) ∧
    ∀ (v k : List Byte), v.all (· == 0) = false → Config.aesUnwrap x.wrapKey v = some k → s.levelKeyOk r 0x111001 v = true := by
  intro r x s
  refine ⟨by decide +kernel, fun v k h1 h2 => ?_⟩
  have e : s.levelKeyOk r 0x111001 v = if v.all (· == 0) then true else (Config.aesUnwrap x.wrapKey v).isSome := rfl
  rw [e, h1, h2]
  rfl

theorem test_witness_StorageAndRepairActions :
    let s := lord full
    let act (t : State) (idx sub : Nat) (v : List Byte) : Bool := admits t idx sub (.act v)
    (act (withGroup opened s) 0x5010 0x01 [0, 0, 0, 0] = true ∧ ((withGroup opened s).group 0).running = none) ∧
    (act s 0x6190 0x07 [63] = true ∧ act s 0x6190 0x08 [0] = true ∧ act (s.put 0x41000C 3) 0x6190 0x09 [0] = true ∧ act s 0x7002 0x01 [0] = true ∧
      act s 0x7002 0x03 [] = true ∧ act (s.setChannel 15 { state := 4 }) 0xC002 0x01 [15] = true) ∧
    (act s 0x8010 0x03 [] = true ∧ act (lord (up (inMode modeService))) 0x8040 0x06 [] = true ∧
      act (lord (up (inMode modeService))) 0x8040 0x07 [] = true) ∧
    act { lord (up (inMode modeHalt)) with integ := { full.integ with halt := some { stamp := 1, ranges := [], countersOnly := false } } }
      0x7002 0x02 [0] = true := by decide +kernel

def hasInput (s : State) : State := { s with pow := { s.pow with vinValid := true } }

theorem test_witness_ModeActionsTakeEffect :
    let act (t : State) (idx sub : Nat) : Bool := admits (lord t) idx sub (.act [])
    let aux := hasInput (up (inMode modeAux))
    (let s := { aux with pow := { aux.pow with hold := some .railRetries } }
     act s 0x2010 0x10 = true ∧ s.mode = modeAux ∧ s.pow.vinValid = true ∧ s.stuckNow = false ∧ s.modes.fallEndedAt = none) ∧
    (act (full.put 0x203001 1) 0x2030 0x09 = true ∧ act (aux.put 0x205003 1) 0x2050 0x02 = true ∧ act (full.put 0x205003 1) 0x2050 0x02 = true ∧
      full.curtainMode = true) ∧
    (act (up (inMode modeRise)) 0xD010 0x01 = true ∧ act (up (inMode modeRestore)) 0xD010 0x01 = true ∧
      (up (inMode modeRestore)).modes.restoreStep < 9 ∧ act full 0xD010 0x01 = true) ∧
    (act (up (inMode modeFall)) 0xD010 0x02 = true ∧ act aux 0xD010 0x02 = true ∧ aux.pow.hold = none) ∧
    (act full 0xD010 0x03 = true ∧ act full 0xD020 0x01 = true ∧ act full 0xD050 0x01 = true ∧ act (up (inMode modeService)) 0xD050 0x02 = true ∧
      act (full.put 0xD06002 1) 0xD060 0x03 = true) := by decide +kernel

theorem test_witness_ReportActionsTakeEffect :
    let s := lord full
    admits (s.put 0x903001 1) 0x9030 0x03 (.act [0]) = true ∧ admits (s.put 0x903002 1) 0x9030 0x03 (.act [64]) = true ∧
      admits s 0xA002 0x01 (.act [0]) = true ∧ admits s 0xA002 0x01 (.act [1]) = true ∧ admits s 0x1100 0x07 (.act []) = true ∧
      admits s 0x1000 0x0E (.act []) = true ∧ (∀ k ∈ s.changedEntries, ownEffect k = false) := by decide +kernel

theorem test_witness_SessionsOpenAndEnd :
    let path : Path := .mailbox .a
    let key : List Byte := [9]
    let v := { full with mgmt := { full.mgmt with levelKeys := [(1, key)] } }
    let r : Reservation := { number := 5, path := path, level := 1, requesterNonce := 0, moduleNonce := 0, clock := 0 }
    let x : Session := { ses with path := path }
    (served path v = true ∧ (arrived path v).mgmt = v.mgmt ∧ (v.levelKey 1).isSome = true ∧ v.mgmt.sessions.length < 8 ∧ v.held path = false ∧ v.recordsHeld path = false ∧
      v.levelKey 2 = none ∧ 8 ≤ { v with mgmt := { v.mgmt with sessions := List.replicate 8 x } }.mgmt.sessions.length) ∧
    (let w := { v with mgmt := { v.mgmt with reservations := [r] } }
     (w.mgmt.reservations.find? fun x => x.number == 5 && x.path == path) = some r ∧ w.levelKey r.level = some key) ∧
    (let w := { v with mgmt := { v.mgmt with sessions := [x] } }
     let q : Req := { path := path, session := 5, transaction := 1, counter := 1, tag := none }
     w.sessionOf { q with tag := some (closeTag [1] q) } = some x ∧ 1 ≠ x.counter ∧ 1 = (x.counter + 1) % counterSpan path) := by decide +kernel

/-- Some proof is right and some proof is wrong, whatever the digest is. -/
theorem test_witness_Proofs (v : State) (r : Reservation) (key : List Byte) :
    (∃ proof, proof = v.proofOf r key) ∧ ∃ proof, proof ≠ v.proofOf r key :=
  ⟨⟨_, rfl⟩, v.proofOf r key + 1, fun h => by bv_omega⟩

/-- A line of the log in counter form, with its integrity entry programmed. -/
def logged (place line : Nat) (grp : Option Nat) : LogLine :=
  { place := place, line := line, grp := grp, poison := false, cipher := 0, stamp := 1, tag := 0,
    sealed := { slot := 0, stampForm := false, major := 0, minor := 0 }, entryDone := true }

/-- The log holds one line, and the delta map names it. -/
def inLog (place line : Nat) (grp : Option Nat) (s : State) : State :=
  { s with
    med := { s.med with rows := [{ mark := place / 45, lines := [logged place line grp], complete := true, data := List.range 15 }] }
    xlat := { s.xlat with delta := [{ line := line, grp := grp, place := place, stamp := 1 }] } }

/-- In SAVE, after a curtain in FULL. -/
def curtained (c : Bool) (causes : List Nat) : State :=
  let s := up (inMode modeSave)
  { s with pow := { s.pow with curtain := some { cause := 1, causes := causes, modeBefore := modeFull, stamp := 5, time := 0, clock := 0, committed := c } } }

theorem test_witness_LogRowsAndProgramsRun :
    (full.rowOpen = true ∧
      full.rowPlaces (full.rowStripe full.med.head) ≤
        ({ full with staging := (List.range 45).map fun i => { staged i none with taken := true } } : State).readyCount ∧
      0 < ({ full with staging := [{ staged 5 none with taken := true }] } : State).readyCount ∧ (staged 5 none).wmode = 0) ∧
    (let l : LogLine := { logged 0 5 none with entryDone := false }
     let x : Staged := { staged 5 none with row := some 0 }
     let row : LogRow := { mark := 0, lines := [l] }
     let s := { full with staging := [x], med := { full.med with rows := [row] } }
     s.findRow 0 = some row ∧ row.complete = false ∧ s.ownerDone (.row 0) = true ∧ (∀ l' ∈ row.lines, l'.line = l.line → l' = l) ∧
       l.moved = none ∧ s.stagedIn 0 l = some x) ∧
    (let l : LogLine := { logged 45 5 none with moved := some (some 0) }
     let row : LogRow := { mark := 1, lines := [l] }
     let t := inLog 0 5 none full
     let s := { t with med := { t.med with rows := t.med.rows ++ [row] } }
     s.findRow 1 = some row ∧ row.complete = false ∧ s.ownerDone (.row 1) = true ∧ (∀ l' ∈ row.lines, l'.line = l.line → l' = l) ∧
       s.deltaOf 5 none = some { line := 5, grp := none, place := 0, stamp := 1 }) ∧
    (let j : Job := { id := 1, unit := 0, kind := .sl, owner := .save }
     let s : State := { full with med := { full.med with jobs := [j] } }
     let t : State := { s with med := { s.med with ops := [program false] } }
     (s.med.jobs.find? fun x => x.id == 1) = some j ∧ (full.unit 0).gone = false ∧
       (State.unit { full with med := { full.med with units := [(0, { state := 3 })] } } 0).gone = true ∧ s.blocks j = [] ∧ t.blocks j ≠ []) ∧
    ((running [program false] full).med.ops.find? fun x => x.id == 1) = some (program false) ∧ full.med.transfers = [] ∧
    (let m : PageMove := { page := 0, old := unmapped, new := 7, lines := [], folded := [] }
     let p (cause : Nat) : StripePage := { id := 2, stripe := 5000, page := 0, cause := cause, moves := [m] }
     let s (cause : Nat) : State := { full with med := { full.med with stripePages := [p cause] } }
     ((s 0).med.stripePages.find? fun x => x.id == 2) = some (p 0) ∧ (p 0).complete = false ∧ (p 0).failedOn = [] ∧ (s 0).ownerDone (.page 2) = true ∧
       ((s 1).med.stripePages.find? fun x => x.id == 2) = some (p 1) ∧ (s 1).ownerDone (.page 2) = true ∧ ((p 1).moves.map (·.page)).Nodup ∧
       m.page < integrityBase ∧ (s 1).pageValue m.page = m.old ∧ (s 1).discardOver m.page = []) ∧
    (let x (n : Nat) : Transfer := { id := 3, channel := 15, rank := 1, bytes := n }
     let y : Transfer := { id := 4, channel := 15, rank := 1, bytes := 1 }
     ({ full with med := { full.med with transfers := [x 512, y] } } : State).nextChunk 15 = some (x 512) ∧
       ({ full with med := { full.med with transfers := [x 513] } } : State).nextChunk 15 = some (x 513)) := by decide +kernel

theorem test_witness_TemperaturesAndLockout :
    (let u (c : Int) : State := { full with therm := { full.therm with dieTemp := tput 63 c full.therm.dieTemp, hotOnce := [63] } }
     full.mediaOn = true ∧ 63 ∉ full.therm.hotOnce ∧ (u 99).dieHot 63 = false ∧ (u 100).dieHot 63 = true ∧ 63 ∈ (u 100).therm.hotOnce) ∧
    (full.mode ≠ modeOff ∧ auxChannel 17 = true ∧ (State.reset.mode = modeAux) ∧ full.mode ≠ modeAux ∧ full.mode ≠ modeLockout) ∧
    (let s := { full with therm := { full.therm with requestAt := some 0, coolSince := some 0, level := 2 } }
     s.therm.requestAt.isSome = true ∧ s.therm.coolSince.isSome = true ∧ s.therm.level < 3) ∧
    (full.mode ≠ modeSave ∧ full.modes.lockoutPending = false ∧ full.pow.curtain = none ∧ full.curtainMode = true ∧
      State.reset.curtainMode = false ∧ State.reset.mode ≠ modeOff ∧ State.reset.mode ≠ modeSave ∧ State.reset.modes.lockoutPending = false ∧
      State.reset.pow.curtain = none) ∧
    ((curtained false [1]).mode = modeSave ∧ (curtained false [1]).modes.lockoutPending = false ∧ 4 ∉ [1] ∧
      ((curtained false [1]).pow.curtain.map (·.causes)) = some [1] ∧ ((curtained true [1, 4]).pow.curtain.map (·.causes)) = some [1, 4] ∧ 4 ∈ [1, 4] ∧
      (inMode modeFall).mode = modeFall ∧ { (inMode modeFall).modes with lockoutPending := true }.lockoutPending = true ∧
      (inMode modeOff).mode = modeOff ∧ (inMode modeLockout).mode = modeLockout) := by decide +kernel

theorem test_witness_TranslationIsKept :
    (full.get 0x405003 ≤ full.highestStamp + 1073741824 ∧ 0 < full.tokenBudget ∧ full.xlat.allRebuilt = true) ∧
    (let s := { full with xlat := { full.xlat with dirty := [(3, { bytes := 1, clock := 1, stamp := 1 })] } }
     let u := { s with staging := [staged (3 * 65536) none] }
     s.oldestDirty = some 3 ∧ s.isRebuilt 3 = true ∧ s.checkpointable 3 = true ∧ s.batchFirst 3 = false ∧ s.staging = [] ∧
       s.xlat.checkpointsSinceDirectory < 64 ∧ u.oldestDirty = some 3 ∧ u.checkpointable 3 = true ∧ segmentOfLine (staged (3 * 65536) none).line = 3 ∧
       64 ≤ { s.xlat with checkpointsSinceDirectory := 64 }.checkpointsSinceDirectory ∧
       (State.checkpointLimit (State.put { s with xlat := { s.xlat with delta := (inLog 0 (3 * 65536) none full).xlat.delta } } 0x404005 0) 3 <
         State.segmentEntries { s with xlat := { s.xlat with delta := (inLog 0 (3 * 65536) none full).xlat.delta } } 3)) ∧
    (let cp : Checkpoint := { location := 0, stamp := 1, time := 0, map := [], deltas := [], provisional := [], prompt := false, previous := 0 }
     tfind 3 { full.xlat with checkpoints := [(3, cp)] }.checkpoints = some cp) ∧
    (let s := { full with xlat := { full.xlat with allRebuilt := false } }
     1048575 < 1048576 ∧ s.isRebuilt 1048575 = false ∧ 1048575 ∉ s.xlat.rebuilding ∧ 1048575 ∉ s.xlat.rebuildQueue ∧ s.xlat.rebuilding.length < 16 ∧
       16 ≤ { s.xlat with rebuilding := List.range 16 }.rebuilding.length) := by decide +kernel

def stripeOf (n : Nat) (r : StripeRec) (s : State) : State := { s with med := { s.med with stripes := [(n, r)] } }

theorem test_witness_FoldFreesTheLog :
    (full.logRows * 100 + full.get 0x613006 * 8388608 ≤ full.foldStart * 8388608 ∧
      full.foldStart ≤ ({ full with med := { full.med with head := 8388607 } } : State).logFill) ∧
    (let t := stripeOf 5000 { role := .openDest 0, resetTo := 4 } (inLog 0 5 none full)
     let s := { t with med := { t.med with folding := true } }
     s.med.folding = true ∧ 0 < s.tokenBudget ∧ s.checkpointFirst = false ∧ s.foldPages.filter s.movable = [0] ∧ s.openDest 0 (s.floorOf 0) = some 5000) ∧
    (let m : PageMove := { page := 0, old := unmapped, new := 7, lines := [], folded := [] }
     let p : StripePage := { id := 2, stripe := 5000, page := 0, cause := 0, moves := [m], complete := true }
     let s := { full with med := { full.med with stripePages := [p] } }
     (s.med.stripePages.find? fun x => x.id == 2) = some p ∧ p.complete = true ∧ p.cause = 0 ∧ (p.moves.map (·.page)).Nodup ∧
       s.pageValue m.page = m.old ∧ s.discardOver m.page = []) ∧
    (let s := { full with xlat := { full.xlat with foldWanted := [3] } }
     s.isRebuilt 3 = true ∧ 3 ∈ s.xlat.foldWanted ∧ 0 < s.tokenBudget ∧ s.checkpointFirst = false ∧
       State.isRebuilt { full with xlat := { full.xlat with allRebuilt := false } } 3 = false) ∧
    (let t := stripeOf 5000 { role := .openDest 0, resetTo := 4 } (inLog 0 5 none full)
     let s := { t with xlat := { t.xlat with foldWanted := [0] } }
     0 ∈ s.xlat.foldWanted ∧ 0 < s.tokenBudget ∧ s.checkpointFirst = false ∧ (s.segmentPages 0).filter s.movable = [0] ∧
       s.openDest 0 (s.floorOf 0) = some 5000 ∧ (s.put 0x404005 0).checkpointLimit 0 < (s.put 0x404005 0).segmentEntries 0) ∧
    (let s : State := { full with med := { full.med with head := 8192 } }
     s.trimEnd ≤ s.med.head ∧ s.trimBlocked = false ∧ s.xlat.allRebuilt = true ∧ (programTail s).tailWaits = false) ∧
    (let s := withGroup opened (inLog 0 5 (some 0) full)
     let t := { s with med := { s.med with head := 8192 } }
     (t.xlat.delta.find? fun x => x.line == 5 && x.grp.isSome) = some { line := 5, grp := some 0, place := 0, stamp := 1 } ∧
       (t.group 0).isOpen = true ∧ t.med.trim ≤ 0 / 45 ∧ 0 / 45 < t.trimEnd ∧ t.trimEnd ≤ t.med.head ∧ t.logLine 0 = some (logged 0 5 (some 0)) ∧
       ∀ m ∈ t.med.moves, m.source ≠ some 0) := by decide +kernel

/-- The pick among stripes finds one of the candidates, at least as worn as any. -/
theorem pick_high (f : Nat → Nat) (l : List Nat) : ∀ x, ∃ m,
    l.foldl (fun m st => match m with
      | none => some st
      | some y => if f y < f st then some st else some y) (some x) = some m ∧ (m = x ∨ m ∈ l) ∧ f x ≤ f m ∧ ∀ y ∈ l, f y ≤ f m := by
  induction l with
  | nil => exact fun x => ⟨x, rfl, .inl rfl, Nat.le_refl _, fun y h => absurd h (by simp)⟩
  | cons a l ih =>
    intro x
    by_cases h : f x < f a
    · obtain ⟨m, e, h0, h1, h2⟩ := ih a
      refine ⟨m, ?_, .inr (List.mem_cons.mpr h0), by omega, fun y hy => (List.mem_cons.mp hy).elim (fun q => q ▸ h1) (h2 y)⟩
      rw [List.foldl_cons, ← e]
      simp only [if_pos h]
    · obtain ⟨m, e, h0, h1, h2⟩ := ih x
      refine ⟨m, ?_, h0.imp_right (List.mem_cons_of_mem a), h1, fun y hy => (List.mem_cons.mp hy).elim (fun q => by subst q; omega) (h2 y)⟩
      rw [List.foldl_cons, ← e]
      simp only [if_neg h]

/-- An eligible stripe that is more worn than every other is the one picked for wear levelling. -/
theorem pickStripe_high {s : State} {floor n : Nat} (h : n < 65536) (he : s.eligible_ floor n = true)
    (hw : ∀ m < 65536, m ≠ n → s.stripeLife m < s.stripeLife n) : s.pickStripe false floor = some n := by
  have hm : n ∈ (List.range 65536).filter (s.eligible_ floor) := List.mem_filter.mpr ⟨List.mem_range.mpr h, he⟩
  have hl : ∀ x ∈ (List.range 65536).filter (s.eligible_ floor), x < 65536 := fun x hx => List.mem_range.mp (List.mem_filter.mp hx).1
  unfold State.pickStripe
  simp only [Bool.false_eq_true, if_false]
  generalize (List.range 65536).filter (s.eligible_ floor) = l at hm hl
  cases l with
  | nil => exact absurd hm (by simp)
  | cons a l =>
    obtain ⟨m, e, h0, h1, h2⟩ := pick_high s.stripeLife l a
    have hn : s.stripeLife n ≤ s.stripeLife m := (List.mem_cons.mp hm).elim (fun q => q ▸ h1) (h2 n)
    by_cases q : m = n
    · exact q ▸ e
    · exact absurd (hw m (hl m (List.mem_cons.mpr h0)) q) (by omega)

theorem pick_some (s : State) (l : List Nat) : ∀ x, ∃ m,
    l.foldl (fun m st => match m with
      | none => some st
      | some y => if s.stripeLife st < s.stripeLife y then some st else some y) (some x) = some m ∧ (m = x ∨ m ∈ l) := by
  induction l with
  | nil => exact fun x => ⟨x, rfl, .inl rfl⟩
  | cons a l ih =>
    intro x
    by_cases h : s.stripeLife a < s.stripeLife x
    · obtain ⟨m, e, h1⟩ := ih a
      refine ⟨m, ?_, .inr (List.mem_cons.mpr h1)⟩
      rw [List.foldl_cons, ← e]
      simp only [if_pos h]
    · obtain ⟨m, e, h1⟩ := ih x
      refine ⟨m, ?_, h1.imp_right (List.mem_cons_of_mem a)⟩
      rw [List.foldl_cons, ← e]
      simp only [if_neg h]

theorem pickStripe_low {s : State} {floor n : Nat} (h : n < 65536) (he : s.eligible_ floor n = true) :
    ∃ m, s.pickStripe true floor = some m ∧ s.eligible_ floor m = true := by
  have hm : n ∈ (List.range 65536).filter (s.eligible_ floor) := List.mem_filter.mpr ⟨List.mem_range.mpr h, he⟩
  unfold State.pickStripe
  simp only [if_true]
  have hall : ∀ x ∈ (List.range 65536).filter (s.eligible_ floor), s.eligible_ floor x = true := fun x hx => (List.mem_filter.mp hx).2
  generalize (List.range 65536).filter (s.eligible_ floor) = l at hm hall
  cases l with
  | nil => exact absurd hm (by simp)
  | cons a l =>
    obtain ⟨m, e, h1⟩ := pick_some s l a
    exact ⟨m, e, hall _ (List.mem_cons.mpr h1)⟩

/-- Stripe 9000 is free and much worn, stripe 9001 closed and cold with page 7 on it, stripe 9002 open for wear levelling. -/
def worn : State :=
  let s : State := { full with clock := 604800000000000, xlat := { full.xlat with mainMap := [(7, unitOf 9001 0 * 2048)] } }
  { s with med := { s.med with
    stripes := [(9001, { role := .closed, resetTo := 4 }), (9002, { role := .openDest 2, resetTo := 4 })]
    units := (List.range 16).map fun c => (unitOf 9000 c, { state := 1, cellMode := 4, lifeUsed := 150000000 }) } }

/-- A stripe whose units have no life used has none used. -/
theorem stripeLife_zero {s : State} {st : Nat} (h : ∀ c, (s.unit (unitOf st c)).lifeUsed = 0) : s.stripeLife st = 0 := by
  have : ∀ l : List Nat, l.foldl (fun m c => max m (s.unit (unitOf st c)).lifeUsed) 0 = 0 := by
    intro l
    induction l with
    | nil => rfl
    | cons a l ih => rw [List.foldl_cons, h a]; exact ih
  exact this _

theorem worn_life {st : Nat} (h : st < 65536) (hn : st ≠ 9000) : worn.stripeLife st = 0 :=
  stripeLife_zero fun c => by
    have miss : ∀ l : List Nat, tfind (unitOf st c) (l.map fun c =>
        (unitOf 9000 c, ({ state := 1, cellMode := 4, lifeUsed := 150000000 } : UnitRec))) = none := by
      intro l
      induction l with
      | nil => rfl
      | cons a l ih =>
        have : unitOf 9000 a ≠ unitOf st c := by simp only [unitOf]; omega
        simp only [List.map_cons, tfind, if_neg this, ih]
    have e : worn.unit (unitOf st c) = initialUnit (unitOf st c) := by
      have := miss (List.range 16)
      exact congrArg (·.getD (initialUnit (unitOf st c))) this
    rw [e]
    unfold initialUnit
    split <;> rfl

theorem wornFree_of_pick {s : State} {m : Nat} (e : s.pickStripe false 2 = some m)
    (h : lifePpm s.mlMean + s.get 0x615004 < lifePpm (s.stripeLife m)) : s.wornFree = some m := by
  unfold State.wornFree
  split
  · rename_i q
    exact absurd (q.symm.trans e) (by simp)
  · rename_i n q
    have hn : n = m := Option.some.inj (q.symm.trans e)
    subst hn
    exact if_pos h

theorem ringTarget_of_pick {s : State} {m : Nat} (e : s.pickStripe true 1 = some m) : s.ringTarget = some m := by
  unfold State.ringTarget
  split
  · rename_i n q
    exact q.symm.trans e
  · rename_i q
    exact absurd (q.symm.trans e) (by simp)

theorem test_witness_WearLevelling : 0 < worn.tokenBudget ∧ worn.checkpointFirst = false ∧ worn.med.stripePages = [] ∧
    worn.wornFree = some 9000 ∧ worn.coldStripe 9000 = some 9001 ∧ (∃ p ∈ worn.validPages 9001, worn.movable p = true) ∧
    (let u := wornDest 9000 worn
     (u.openDest 2 2).isSome = true ∧ u.countsKnown 9001 = true ∧ (u.validPages 9001).filter u.movable = [7] ∧
       u.openDest 2 (u.floorOf 7) = some 9000 ∧ (u.stripe 9001).role = .closed) := by
  have e : worn.pickStripe false 2 = some 9000 := pickStripe_high (by decide) (by decide +kernel) fun m hm hn => by
    rw [worn_life hm hn]
    decide +kernel
  exact ⟨by decide +kernel, by decide +kernel, rfl, wornFree_of_pick e (by decide +kernel), by decide +kernel⟩

/-- The journal has left the stripe of its first place, which is worn. -/
def rotating : State :=
  { worn with
    xlat := { worn.xlat with journalRows := 8192 }
    med := { worn.med with units := [(unitOf 1024 0, { cellMode := 1, state := 1, lifeUsed := 150000000 })] } }

theorem test_witness_RoleRotation : ∃ n, 0 < ringSize .journal ∧ rotating.ringPasses .journal 0 = true ∧ rotating.tailBlocked = false ∧
    lifePpm rotating.mlMean + rotating.get 0x615005 < lifePpm (rotating.stripeLife (rotating.ringStripe .journal 0)) ∧
    rotating.ringTarget = some n ∧ n ≠ rotating.ringStripe .journal 0 := by
  obtain ⟨m, e, h⟩ := pickStripe_low (s := rotating) (floor := 1) (n := 9000) (by decide) (by decide +kernel)
  refine ⟨m, by decide, by decide +kernel, by decide +kernel, by decide +kernel, ringTarget_of_pick e, ?_⟩
  intro q
  have hq : rotating.eligible_ 1 (rotating.ringStripe .journal 0) = true := q ▸ h
  exact absurd hq (by decide +kernel)

/-- With the rings where they begin, and no unit of theirs suspect, no stripe of a ring is suspect. -/
theorem ringSuspects_none {s : State} {r : StripeRec} (hs : s.med.stripes = [(9000, r)]) (hr : r.role = .closed) (hu : s.med.units = []) :
    s.ringSuspects = [] := by
  have hp : ∀ g i, s.ringStripe g i = initialRingStripe g i := by
    intro g i
    have : (Role.closed == Role.ring g i) = false := rfl
    simp [State.ringStripe, hs, hr, this]
  have hi : ∀ g, ∀ i ∈ List.range (ringSize g), initialRingStripe g i < 9000 := by
    intro g i hi
    have hi : i < ringSize g := List.mem_range.mp hi
    cases g <;> simp only [initialRingStripe, ringSize] at hi ⊢ <;> omega
  have hf : ∀ g, ((List.range (ringSize g)).filter fun i =>
      (s.stripe (s.ringStripe g i)).refresh ||
        (s.members (s.ringStripe g i)).any fun c => (s.unit (unitOf (s.ringStripe g i) c)).state == 2) = [] := by
    intro g
    refine List.filter_eq_nil_iff.mpr fun i h => ?_
    have h9 := hi g i h
    have h1 : (s.stripe (s.ringStripe g i)).refresh = false := by
      rw [hp]
      show (tgetD (initialStripe (initialRingStripe g i)) (initialRingStripe g i) s.med.stripes).refresh = false
      have : 9000 ≠ initialRingStripe g i := by omega
      simp [hs, tgetD, tfind, this, initialStripe]
    have h2 : ∀ u, ((s.unit u).state == 2) = false := by
      intro u
      show ((tgetD (initialUnit u) u s.med.units).state == 2) = false
      rw [hu]
      simp only [tgetD, tfind, Option.getD_none, initialUnit]
      split <;> rfl
    simp [h1, h2]
  simp only [State.ringSuspects, hf, List.map]
  rfl

theorem test_witness_CollectionAndWearLevelling :
    (let s := stripeOf 9000 { role := .closed, resetTo := 4, refresh := true } full
     0 < s.tokenBudget ∧ s.checkpointFirst = false ∧ s.med.rebuildDies = [] ∧ s.victim = some 9000 ∧ s.urgentVictim 9000 = true ∧ s.validPages 9000 = [] ∧
       (programTail s).tailWaits = false ∧ s.ringSuspects = []) ∧
    (let t : State := { full with xlat := { full.xlat with mainMap := [(7, unitOf 9000 0 * 2048)] } }
     let s := { t with med := { t.med with
       stripes := [(9000, { role := .closed, resetTo := 4, refresh := true }), (9002, { role := .openDest 1, resetTo := 4 })] } }
     s.victim = some 9000 ∧ s.urgentVictim 9000 = true ∧ (s.validPages 9000).filter s.movable = [7] ∧ s.openDest 1 (s.floorOf 7) = some 9002) ∧
    (let s := full.put 0x614004 65535
     s.freeStripes < s.get 0x614004 ∧ s.med.critical = false) ∧
    (((stripeOf 9000 { role := .openDest 3 } full).stripe 9000).role = .openDest 3 ∧
      (let p : StripePage := { id := 2, stripe := 9000, page := 0, cause := 1, moves := [], failedOn := [15] }
       p.stripe = 9000 ∧ 15 ∈ p.failedOn)) ∧
    (full.dataPath = true ∧ full.vcoreOn = true ∧ (let s := inLog 0 5 none full
      s.sectorLines (s.unitOfPlace 0) 0 0 ≠ [])) := by
  refine ⟨⟨by decide +kernel, by decide +kernel, by decide +kernel, by decide +kernel, by decide +kernel, by decide +kernel, by decide +kernel,
    ringSuspects_none rfl rfl rfl⟩, by decide +kernel⟩

theorem test_witness_DriftIsWatched :
    (full.serving = true ∧ full.dieState 63 = 0 ∧ full.med.jobs = [] ∧ full.med.ops = []) ∧
    ({ full with med := { full.med with passDue := true } }.med.passDue = true ∧ full.dataPath = true) ∧
    (let s := { full with med := { full.med with units := [(5000, { state := 1 })] } }
     s.visitable 5000 = true ∧ (s.unit 5000).cellMode = 4 ∧ full.visitable 0 = true ∧ (full.unit 0).cellMode = 1 ∧ s.med.priorityPass = [] ∧ s.med.passDue = false ∧ 86400000 < (s.put 0x616003 86400001).get 0x616003 ∧
       { s.med with priorityPass := [5000] }.priorityPass.head? = some 5000) ∧
    (let s := { full with med := { full.med with units := [(600000, { state := 2, faults := 1 })] } }
     (s.unit 600000).state = 2 ∧ (s.stripe (stripeOfUnit 600000)).role = .free ∧ (s.stripe (stripeOfUnit 600000)).needsReset = false ∧
       (s.unit 600000).faults ≠ 0) ∧
    (let t := stripeOf 9000 { role := .openDest 3, resetTo := 4 } full
     let s := { t with med := { t.med with underFloor := [(7, 0)] } }
     tfind 7 s.med.underFloor = some 0 ∧ s.openDest 3 (s.floorOf 7) = some 9000 ∧ s.movable 7 = true ∧ 0 < s.tokenBudget ∧
       s.assignSlots [s.gather false 7] (s.slotValues 9000 (s.stripe 9000).nextPage) [] ≠ []) := by decide +kernel

/-- With no die suspended or failed, and the rings where they begin, no stripe of a ring has a loss outstanding. -/
theorem ringLosses_none {s : State} (hs : s.med.stripes = [])
    (h : ∀ d ∈ List.range 64, (s.dieState d == 1 || s.dieState d == 2) = false) : s.ringLosses = [] := by
  have ho : ∀ st < 65536, s.outstanding st = [] := by
    intro st hst
    apply List.filter_eq_nil_iff.mpr
    intro c hc
    have hc : c < 16 := List.mem_range.mp (List.mem_filter.mp hc).1
    have hd : dieOfUnit (unitOf st c) ∈ List.range 64 := List.mem_range.mpr (by simp only [dieOfUnit, unitOf]; omega)
    simp only [h _ hd]
    decide
  have hr : ∀ r, ∀ i ∈ List.range (ringSize r), (!(s.outstanding (s.ringStripe r i)).isEmpty) = false := by
    intro r i hi
    have hi : i < ringSize r := List.mem_range.mp hi
    have e : s.ringStripe r i = initialRingStripe r i := by simp [State.ringStripe, hs]
    rw [e, ho _ (by cases r <;> simp only [initialRingStripe, ringSize] at hi ⊢ <;> omega)]
    rfl
  have hf : ∀ r, ((List.range (ringSize r)).filter fun i => !(s.outstanding (s.ringStripe r i)).isEmpty) = [] :=
    fun r => List.filter_eq_nil_iff.mpr fun i hi => by rw [hr r i hi]; exact Bool.false_ne_true
  simp only [State.ringLosses, hf, List.map, List.flatten]
  rfl

theorem test_witness_StripesAndDiesLeave :
    (let s := stripeOf 9000 { role := .closed, resetTo := 4, badVisits := 2 } full
     (s.stripe 9000).role = .closed ∧ (s.stripe 9000).needsReset = false ∧ s.countsKnown 9000 = true ∧ s.validPages 9000 = [] ∧ (programTail s).tailWaits = false ∧
       s.demotes 9000 = true ∧ s.resetOrdered 9000 = false ∧ 0 < s.tokenBudget) ∧
    (let s := stripeOf 9000 { role := .closed, resetTo := 4, lost := List.range 9 } full
     (s.members 9000).length - (s.leaving 9000).length < 8 ∧ s.validPages 9000 = [] ∧ s.resetOrdered 9000 = false ∧ s.countsKnown 9000 = true) ∧
    (full.dieState 63 = 0 ∧ ((full.put 0x619001 1).put (dieKey 63 0x02) 1).get 0x619001 ≤ ((full.put 0x619001 1).put (dieKey 63 0x02) 1).get (dieKey 63 0x02) ∧
      full.dieState 0 ≤ 1 ∧ 15 ∉ full.med.retiredChannels ∧ (full.put 0x619003 0).get 0x619003 ≤ full.channelErrors 15) ∧
    (let s := { full with med := { full.med with rebuildDies := [63] } }
     63 ∈ s.med.rebuildDies ∧ s.rebuildVictims = [] ∧ s.ringLosses = []) := by
  refine ⟨by decide +kernel, by decide +kernel, by decide +kernel, by decide +kernel, by decide +kernel, ?_⟩
  exact ringLosses_none rfl (by decide +kernel)

theorem test_witness_IntegrityIsKept :
    (let l := { logged 0 5 none with sealed := { (logged 0 5 none).sealed with stampForm := true } }
     let t := inLog 0 5 none full
     let s := { t with med := { t.med with rows := [{ mark := 0, lines := [l] }] } }
     s.deltaOf 5 none = some { line := 5, grp := none, place := 0, stamp := 1 } ∧ s.logLine 0 = some l ∧ l.sealed.stampForm = true ∧
       l.entryDone = true ∧ s.recordProgrammed 1 = true ∧ s.med.moves = []) ∧
    (let placed (s : State) : Bool :=
       let q := applyPending (programTail s)
       ((writePages q.changedPages q).rewritten q.integ.table q.changedPages).length == q.changedPages.length
     let u := { stripeOf 9000 { role := .free } full with integ := { full.integ with cache := [⟨.node 9 0, true, true⟩] } }
     let s := { u with med := { u.med with jobs := [{ id := 1, unit := unitOf 9000 0, kind := .reset, owner := .maintenance 9000 }] } }
     placed full = true ∧ placed s = false ∧ 0 < s.tokenBudget ∧ s.tableRoom = true) ∧
    (0 < full.tokenBudget ∧ full.tableRoom = true ∧
      { full with integ := { full.integ with tableStripes := List.range 32 } }.tableRoom = false ∧ 65535 ∉ List.range 32) ∧
    (full.isCached (.tagLine 0) = false ∧ full.dataPath = true ∧ full.get 0x70030A + (full.walk (.tagLine 0)).length < 2 ^ 64 ∧
      full.walkFailures ((full.walk (.tagLine 0)).zipIdx.map fun x => (x.1, 0)) = []) ∧
    (let cached (c : CachedIntegrity) : State := { full with integ := { full.integ with cache := [c] } }
     let o : IntegrityObject := .counterBlock 0
     (cached ⟨o, true, true⟩).faultFits o .correctable = true ∧ (cached ⟨o, true, true⟩).faultFits o .oneDirtyCopy = true ∧
       (cached ⟨o, true, true⟩).faultFits o .bothDirtyCopies = true ∧ (cached ⟨o, false, false⟩).faultFits o .clean = true ∧
       (cached ⟨o, false, true⟩).faultFits o .dramWithChanges = true) := by decide +kernel

/-- A node of level 9 with one of two MACs does not verify. -/
theorem test_witness_WalkFails : full.isCached (.node 9 0) = false ∧ full.failedObjects (.node 9 0) ≠ [] ∧
    ∃ b : BitVec 512, (full.walkFailures ((full.walk (.node 9 0)).zipIdx.map fun x =>
      (x.1, (([{ body := b, recovered := false }] : List FetchedLine).getD x.2 { body := 0, recovered := false }).body))).getLast? =
        some (.node 9 0) := by
  refine ⟨by decide +kernel, by decide +kernel, ?_⟩
  have hw : full.walk (.node 9 0) = [.node 9 0] := by decide +kernel
  have key : ∀ b : BitVec 512, macOf (.node 9 0) b ≠ nodeMac b → full.walkFailures [(.node 9 0, b)] = [.node 9 0] := fun b h => by
    have : full.verifies (.node 9 0) b none = false := by
      simp only [State.verifies, treePlace, beq_eq_false_iff_ne.mpr h]
      simp
    simp [State.walkFailures, this]
  have same : macOf (.node 9 0) (0 : BitVec 512) = macOf (.node 9 0) (BitVec.ofNat 512 (2 ^ 448)) := rfl
  have h0 : nodeMac (0 : BitVec 512) = 0 := by decide +kernel
  have h1 : nodeMac (BitVec.ofNat 512 (2 ^ 448)) = 1 := by decide +kernel
  have go : ∀ b : BitVec 512, macOf (.node 9 0) b ≠ nodeMac b → (full.walkFailures ((full.walk (.node 9 0)).zipIdx.map fun x =>
      (x.1, (([{ body := b, recovered := false }] : List FetchedLine).getD x.2 { body := 0, recovered := false }).body))).getLast? =
        some (.node 9 0) := fun b h => by
    rw [hw]
    exact congrArg List.getLast? (key b h)
  by_cases h : macOf (.node 9 0) (0 : BitVec 512) = 0
  · exact ⟨_, go _ (by rw [← same, h, h1]; decide)⟩
  · exact ⟨_, go _ (by rw [h0]; exact h)⟩

theorem test_witness_ErrorsAndSelfTests :
    (full.vcoreOn = true ∧ full.mode ≠ modeOff ∧ full.mode ≠ modeSave ∧ full.resetActs = true) ∧
    (let s := { full with stored := { full.stored with rowTests := [(.sram, 9)] } }
     s.rowUnderTest .sram = some 9 ∧ s.shadowsUsed .sram < shadowRows .sram ∧ s.repeatTransient .sram 9 = false) ∧
    (let s := { full with stored := { full.stored with sectorTests := [sectorAddress 600000 0 0] } }
     s.dataPath = true ∧ sectorAddress 600000 0 0 ∈ s.stored.sectorTests ∧ s.repeatTransient .medium (sectorAddress 600000 0 0) = false ∧
       (((List.range 32).map (clusterOfUnit 600000 * 32 + ·)).find? fun u => u != 600000 && s.unitFree u).isSome = true ∧
       (((List.range 32).map (clusterOfUnit 0 * 32 + ·)).find? fun u => u != 0 && s.unitFree u) = none) := by decide +kernel

theorem test_witness_InputsAreFollowed :
    (full.pow.vinValid = false ∧ full.pow.switchOpen = false ∧ 2700 ≤ 2700 ∧ 16500 ≤ 16500) ∧
    ((hasInput full).pow.vinValid = true ∧ 2399 < 2400 ∧ (hasInput full).curtainMode = true) ∧
    (full.mode ≠ modeOff ∧ full.pow.switchOpen = false ∧ 16500 < 16501) ∧
    ({ full with pow := { full.pow with switchOpen := true } }.pow.switchOpen = true ∧ 15999 < 16000) ∧
    (let s := full.put 0x200102 3
     fallBand (s.get 0x200102) 4600 < s.get 0x200102 ∧ s.serving = true) ∧
    (let s := hasInput (full.put 0x200102 2)
     s.mode ≠ modeOff ∧ s.pow.vinValid = true ∧ s.get 0x200102 < vinBand 8500) ∧
    (full.vcoreOn = true ∧ (let cap := capMw (full.get 0x200102)
     (95 * cap < 100 * 1000000 ∧ (100 * 0 < 90 * cap ∨ cap = 0) ∧ 100 * (cap * 95 / 100) ≤ 95 * cap ∧ 90 * cap ≤ 100 * (cap * 95 / 100)))) := by
  decide +kernel

theorem test_witness_RailsRiseAndFall :
    (let s := inMode modeRise
     s.mode = modeRise ∧ s.pow.mrLow = false ∧ s.get 0xD06002 ≠ 2 ∧ { s.pow with mrLow := true }.mrLow = true) ∧
    (let s := hasInput { full with pow := { full.pow with rails := [(2, { on := true }), (14, { on := true })] } }
     (s.rail 2).on = true ∧ (s.rail 14).on = true ∧ s.pow.vinValid = true ∧ s.mode ≠ modeRise ∧ curtainRail 14 = true ∧ curtainRail 2 = false ∧
       s.resetActs = true ∧ s.curtainMode = true) ∧
    (let s := inMode modeFall
     s.mode = modeFall ∧ s.modes.lockoutPending = false ∧ s.modes.keptOn = false ∧ { s.modes with lockoutPending := true }.lockoutPending = true ∧
       { s.pow with fourthReset := true }.fourthReset = true) ∧
    (let t := hasInput (inMode modeAux)
     let s := { t with modes := { t.modes with keptOn := true } }
     s.mode = modeAux ∧ s.modes.keptOn = true ∧ s.pow.vinValid = true ∧ s.stuckNow = false ∧ s.pow.hold = none) ∧
    ({ full with pow := { full.pow with rails := [(3, { crowbar := true })] } }.rail 3).crowbar = true := by decide +kernel

def cartridgeIn (s : State) : State :=
  { s with pow := { s.pow with cartridge := { s.pow.cartridge with leverClosed := true, passed := true, measured := true } } }

theorem test_witness_ProtectionFollowsTheCartridge :
    ((full.put 0x402001 1).get 0x402001 = 1 ∧ (full.put 0x402001 1).protectionActs = true) ∧
    (full.put 0x402001 2).get 0x402001 = 2 ∧
    (let s := ((cartridgeIn full).put 0x203001 1).put 0x203005 600
     s.get 0x402001 = 0 ∧ s.protectionActs = true ∧ s.protectCauses = 0) ∧
    ((full.put 0x203001 1).get 0x203001 = 1 ∧ full.testMode = true) ∧
    ((cartridgeIn full).pow.cartridge.leverClosed = true ∧ full.mode ≠ modeOff ∧ full.pow.cartridge.leverClosed = false ∧
      (List.replicate 16 (0 : Byte)).length = 16) := by decide +kernel

theorem test_witness_CurtainsSave :
    (1 ≤ 1 ∧ 5 ≤ 5 ∧ full.curtainMode = true ∧ (curtained false [1]).mode = modeSave ∧ (curtained false [1]).pow.curtain.isSome = true) ∧
    (let c : Curtain := { cause := 1, causes := [1], modeBefore := modeFull, stamp := 5, time := 0, clock := 0 }
     (curtained false [1]).pow.curtain = some c ∧ c.committed = false ∧ c.causes = [1] ∧ 2700 ≤ 2700 ∧ (curtained false [1]).pow.switchOpen = false ∧
       servingMode c.modeBefore = true ∧ servingMode modeHalt = false) ∧
    (let c : Curtain := { cause := 1, causes := [1, 4], modeBefore := modeFull, stamp := 5, time := 0, clock := 0, committed := true }
     (curtained true [1, 4]).pow.curtain = some c ∧ c.committed = true ∧ 4 ∈ c.causes ∧ 4 ∉ [1, 3] ∧ 3 ∈ [1, 3] ∧
       (hasInput (curtained true [2])).pow.vinValid = true ∧ (curtained true [2]).pow.fourthReset = false ∧ (curtained true [2]).pow.hold = none ∧
       (curtained true [2]).pow.mrLow = false ∧ { (curtained true [2]).pow with mrLow := true }.mrLow = true) ∧
    (curtained true [1]).pow.vinValid = false := by decide +kernel

theorem test_witness_ButtonsAndResets :
    (full.mode ≠ modeOff ∧ full.get 0x205003 = 0 ∧ (full.put 0x205003 1).get 0x205003 = 1) ∧
    ((State.reset.put 0x205003 1).mode = modeAux ∧ (State.reset.put 0x205003 1).get 0x205003 = 1 ∧ full.curtainMode = true) ∧
    (10000 ≤ 10000 ∧ 1999 < 2000 ∧ (inMode modeRise).mode = modeRise ∧ { (inMode modeRise).pow with risen := true }.risen = true ∧
      (inMode modeSave).mode = modeSave ∧ (inMode modeSave).pow.curtain = none) ∧
    (full.modes.activation = none ∧ State.reset.modes.activation = none ∧ State.reset.mode = modeAux) := by decide +kernel

/-- In RESTORE, at the end of a step. -/
def restoring (n : Nat) : State :=
  let s := inMode modeRestore
  { s with modes := { s.modes with restoreStep := n } }

theorem test_witness_RestoreRuns :
    lostCopies {} = [] ∧ (restoring 5).mode = modeRestore ∧ (restoring 5).modes.restoreStep = 5 ∧ (restoring 6).modes.restoreStep = 6 ∧
    (restoring 7).modes.restoreStep = 7 ∧ ((restoring 8).modes.restoreStep = 8 ∧ (restoring 8).modes.offHeld = false) ∧
    (restoring 9).modes.restoreStep = 9 ∧ ((restoring 10).modes.restoreStep = 10 ∧ (restoring 10).integ.halt = none ∧
      (restoring 10).portEnabled .a = true) ∧
    (let t := restoring 10
     let h : HaltRecord := { stamp := 1, ranges := [], countersOnly := true }
     { t with integ := { t.integ with halt := some h } }.integ.halt.isSome = true) ∧
    ((restoring 11).modes.restoreStep = 11 ∧ (restoring 11).integ.halt = none ∧ (restoring 11).reads = []) := by decide +kernel

def dozing (n : Nat) (w : Option Nat) : State := { full with modes := { full.modes with doze := some { step := n, pendingWake := w } } }

theorem test_witness_DozeAndWake :
    ((full.put 0xD02002 5).get 0xD02002 ≠ 0 ∧ (full.put 0xD02002 5).dozeAllowed = true) ∧
    ((dozing 0 none).modes.doze = some { step := 0 } ∧ (dozing 2 none).med.ops = [] ∧ (dozing 3 none).modes.doze = some { step := 3 } ∧
      ((dozing 3 (some 1)).modes.doze.map (·.pendingWake)) = some (some 1)) ∧
    (let mask (s : State) := s.put 0xD02003 63
     ((mask full).get 0xD02003).testBit 1 = true ∧ ((mask full).get 0xD02003).testBit 5 = true ∧
       (mask (inMode modeDoze)).mode = modeDoze ∧ (mask (inMode modeDoze)).modes.waking = false ∧ (mask (inMode modeFall)).mode = modeFall ∧
       (let s := hasInput (mask (inMode modeAux))
        s.mode = modeAux ∧ s.pow.hold = none ∧ s.pow.vinValid = true ∧ s.stuckNow = false ∧ s.modes.fallEndedAt = none)) ∧
    9999 < 10000 ∧
    (let s := inMode modeDoze
     { s with modes := { s.modes with waking := true } }.modes.waking = true ∧ s.mgmt.deferred = [] ∧ (inMode modeService).mode = modeService) := by
  decide +kernel

/-- The field link is enabled, and the module has an address. -/
def wired : State := full.put 0x140008 1

/-- A DISCOVER frame without a payload field, to all. -/
def asks : Frame := { fcsOk := true, etherType := 0x88B5, dest := none, source := 9, payload := [1, 1] ++ List.replicate 46 0 }

def frames (l : List Nat) : State :=
  { wired with mgmt := { wired.mgmt with received := l.map fun m => { source := m, payload := [] } } }

theorem test_witness_FieldLinkRuns :
    (wired.linkRuns = true ∧ { asks with fcsOk := false }.fcsOk = false ∧
      wired.addressed { asks with etherType := 0 } = false ∧ wired.addressed asks = true ∧ udxOk asks.payload = true ∧
      payloadByte asks.payload 1 ≠ opRattle ∧ (let f := { asks with payload := [0, 1] ++ List.replicate 46 0 }
        wired.addressed f = true ∧ udxOk f.payload = false)) ∧
    (4 ≤ ((frames [9, 9, 9, 9]).mgmt.received.filter fun r => r.source == asks.source).length ∧
      ((frames [9, 9, 9]).mgmt.received.filter fun r => r.source == asks.source).length < 4 ∧ (frames [9, 9, 9]).mgmt.received.length < 32 ∧
      ((frames (List.range 32)).mgmt.received.filter fun r => r.source == asks.source).length < 4 ∧ 32 ≤ (frames (List.range 32)).mgmt.received.length) ∧
    (wired.reducedService = false ∧
      (let n : NoticeItem := { number := 5, source := 1, severity := 1, stamp := 1, time := 1, snapshots := [] }
       let s := { wired with mgmt := { wired.mgmt with notices := [n] } }
       s.mgmt.yieldCycles = 0 ∧ s.mgmt.notices = [n])) ∧
    (wired.get 0x140001 = 0 ∧ wired.mgmt.beaconLost = false ∧ { wired.mgmt with beaconLost := true }.beaconLost = true ∧
      (wired.put 0x140001 1).fieldLinkState = 1) ∧
    (let s : State := { State.reset with dict := [(0x140008, 1), (0xD00101, modeAux), (0xD03001, 7)] }
     s.linkRuns = true ∧ s.mode = modeAux ∧ s.modes.rattleAt = none ∧ s.get 0xD03001 ≠ 0 ∧ 8 ≠ s.get 0xD03001 ∧ s.modes.rattleRejectAt = none) := by
  decide +kernel

theorem test_witness_OccurrencesAndWindows :
    ((full.canOccur 3 = true ∧ 3 ∉ [10, 22, 135] ∧ full.get (sourceKey 3 0x11) = 0 ∧ (full.put (sourceKey 3 0x11) 5).get (sourceKey 3 0x11) ≠ 0) ∧
      full.canOccur 10 = true ∧ full.get (sourceKey 10 0x02) < 2 ^ 32 ∧ (inMode modeOff).canOccur 287 = false) ∧
    (let s := full.modPort .a fun q => { q with heldMsi := [4] }
     (s.port .a).heldMsi = [4] ∧ (s.put 0x301004 1).msiOpen .a = true) ∧
    (let r : RecorderRecord := { sequence := 0, stamp := 1, time := 1, source := 3, severity := 1, mode := 0, kept := false, circulating := false,
                                 responder := false, occurrences := 1, snapshots := [] }
     let s := { full with recd := { full.recd with queue := [r], responderQueue := [r] } }
     let u := { full with recd := { full.recd with responderQueue := [r] } }
     s.vcoreOn = true ∧ s.recd.episode = none ∧ s.recd.records.length < recorderSlots ∧ s.recd.queue = [r] ∧ s.mode ≠ modeOff ∧
       u.recd.queue = [] ∧ u.recd.responderQueue = [r] ∧ (inMode modeAux).vcoreOn = false ∧ (inMode modeAux).mode ≠ modeOff) ∧
    ((inMode modeRise).episodeKind = some 1 ∧ (inMode modeRise).recd.episode = none ∧ full.episodeKind = none ∧ full.serving = true ∧
      { full.recd with episode := some { kind := 1, kept := 0 } }.episode.isSome = true) ∧
    (full.vcore < 850 ∧ 850 ≤ { full with pow := { full.pow with margin := 850 } }.vcore ∧ 266 ≤ 271 ∧ full.modes.lastStall = none ∧
      (let s := { full with clock := 1000000000, modes := { full.modes with lastStall := some 0 } }
       s.modes.lastStall = some 0 ∧ 0 + 1000000000 ≤ s.clock ∧ { s with clock := 999999999 }.clock < 0 + 1000000000 ∧ s.curtainMode = true)) ∧
    (counterCount ((full.put (counterKey 511) (2 ^ 48 - 1)).get (counterKey 511)) = 2 ^ 48 - 1 ∧
      counterCount ((full.put (counterKey 511) (2 ^ 49 - 1)).get (counterKey 511)) = 2 ^ 48 - 1 ∧ full.wrapDue 511 = true ∧
      State.wrapDue { full with obs := { full.obs with wrapAt := [(511, 0)] } } 511 = false ∧ (full.port .b).windowRead < 2 ^ 64 ∧
      (full.port .b).windowWrite < 2 ^ 64 ∧ (full.port .b).windowUnpublished = false ∧ (full.put (windowKey .b 0x07) 5).get (windowKey .b 0x07) ≠ 0 ∧
      5 < 6 + (full.port .b).windowWrite) ∧
    (full.put (regionKey 63 0x0C) 2).prepared 63 = true := by decide +kernel

/-- The command gives a next state in `s`. -/
def runs (c : Instr) (s : State) : Bool :=
  match exec c s with
  | .next _ => true
  | _ => false

theorem test_witness_HostCommandsFrame :
    (shape (.fullLineWrite .a 1 5 0) = .hostStore ∧ runs (.fullLineWrite .a 1 5 0) full = true) ∧
    (shape (.openGroup .a 1 0 none none) = .windowCommand ∧ runs (.openGroup .a 1 0 none none) full = true) ∧
    (shape (.memRd .a 1 5) = .hostRead ∧ runs (.memRd .a 1 5) full = true) := by decide +kernel

theorem test_witness_DataPathFrame :
    (shape (.patienceExpiry 0) = .readEvent ∧ runs (.patienceExpiry 0) full = true) ∧
    (shape (.mergePlacement .a 1) = .drain ∧ runs (.mergePlacement .a 1) (queued [piece 1 5 0] full) = true) ∧
    (shape (.commitInstant 0) = .groupEvent ∧ runs (.commitInstant 0) full = true) ∧
    (shape (.discardInstant .a) = .discardEvent ∧ runs (.discardInstant .a) full = true) ∧
    (shape (.dmaBurstPlaced 0) = .burst ∧ runs (.dmaBurstPlaced 0) full = true) := by decide +kernel

theorem test_witness_MediumWorkFrame :
    (shape .logRowDispatch = .logWriting ∧ runs .logRowDispatch full = true) ∧
    (shape (.programComplete 1 true) = .program ∧ runs (.programComplete 1 true) (running [program false] full) = true) ∧
    (shape .foldStart = .moving ∧ runs .foldStart full = true) ∧
    (shape .hourlyTrickle = .upkeep ∧ runs .hourlyTrickle full = true) ∧
    (shape (.dieFailed 63) = .dieEvent ∧ runs (.dieFailed 63) full = true) ∧
    (shape .stampCeilingRaise = .translation ∧ runs .stampCeilingRaise full = true) := by decide +kernel

theorem test_witness_ManagementFrame :
    (shape (.portDetect .a) = .portEvent ∧ runs (.portDetect .a) full = true) ∧
    (shape (.identify .a) = .mailbox ∧ runs (.identify .a) full = true) ∧
    (shape (.sessionIdleTimeout 5) = .session ∧ runs (.sessionIdleTimeout 5) (onField full) = true) ∧
    (shape .beaconLoss = .fieldLink ∧ runs .beaconLoss wired = true) ∧
    (shape .recorderWrite = .report ∧ runs .recorderWrite full = true) := by decide +kernel

theorem test_witness_ModeEventsFrame :
    (shape (.scrub .dram 0 (.corrected 1)) = .codeEvent ∧ runs (.scrub .dram 0 (.corrected 1)) full = true) ∧
    (shape .shortPress = .supply ∧ runs .shortPress full = true) ∧
    (shape .idleTimer = .quietEvent ∧ runs .idleTimer (full.put 0xD02002 5) = true) ∧
    (shape (.curtain 2) = .modeEvent ∧ runs (.curtain 2) full = true) := by decide +kernel

theorem test_witness_RequestsAndRestartsFrame :
    (shape (.vinValid 5000) = .powerOn ∧ runs (.vinValid 5000) full = true) ∧
    (shape (.rise true true) = .restart ∧ runs (.rise true true) (inMode modeRise) = true) ∧
    (runs .mrNHigh { inMode modeRise with pow := { (inMode modeRise).pow with risen := true } } = true ∧ (inMode modeRise).keepsLinks = true ∧
      full.mode ≠ modeRise ∧ runs .mrNHigh full = true) ∧
    (shape (.restore 7 [] {}) = .restoring ∧ runs (.restore 7 [] {}) (restoring 6) = true) ∧
    (shape (.entryRead plain 0x1000 1) = .request ∧ runs (.entryRead plain 0x1000 1) full = true) := by decide +kernel

/-! ### The checks of WellFormed refuse -/

theorem test_wf_lines : (Instr.fullLineWrite .a 0 (firstWindowLine - 1) 0).wf = true ∧ (Instr.fullLineWrite .a 0 firstWindowLine 0).wf = false ∧
    (Instr.poisonedWrite .b 0 firstWindowLine).wf = false ∧ (Instr.memRd .a 0 firstWindowLine).wf = false ∧
    (Instr.stagingHoldExpiry firstWindowLine none).wf = false ∧ (Instr.logRelocation firstWindowLine).wf = false ∧
    (Instr.stampFormConversion firstWindowLine).wf = false := by decide

theorem test_wf_partial : (Instr.partialWrite .a 0 5 1 0).wf = true ∧ (Instr.partialWrite .a 0 firstWindowLine 1 0).wf = false ∧
    (Instr.partialWrite .a 0 5 (BitVec.allOnes 64) 0).wf = false := by decide

theorem test_wf_window : (Instr.windowAccess .a 0 0x040000000040 .read).wf = true ∧ (Instr.windowAccess .a 0 0x040000000041 .read).wf = false ∧
    (Instr.windowAccess .a 0 0x03FFFFFFFFC0 .read).wf = false ∧ (Instr.windowAccess .a 0 0x040050000000 .read).wf = false := by decide

theorem test_wf_numbers : (Instr.segmentFold 1048575).wf = true ∧ (Instr.segmentFold 1048576).wf = false ∧
    (Instr.demandRebuild 1048576).wf = false ∧ (Instr.segmentRebuilt 1048576).wf = false ∧ (Instr.floorRestoreMove 1073741824).wf = false ∧
    (Instr.unmapperDone 16).wf = false := by decide

theorem test_wf_causes : (Instr.portException .a 7).wf = true ∧ (Instr.portException .a 0).wf = false ∧ (Instr.portException .a 8).wf = false ∧
    (Instr.curtain 0).wf = false ∧ (Instr.curtain 6).wf = false ∧ (Instr.restore 5 [] {}).wf = false ∧ (Instr.restore 14 [] {}).wf = false := by decide

theorem test_wf_sectors : (Instr.sourceSectorFailure 1048575 8191 63 true).wf = true ∧ (Instr.sourceSectorFailure 1048576 0 0 true).wf = false ∧
    (Instr.sourceSectorFailure 0 8192 0 true).wf = false ∧ (Instr.sourceSectorFailure 0 0 64 true).wf = false ∧
    (Instr.sectorSelfTest 1048576 0 0 true true).wf = false ∧ (Instr.sectorSelfTest 0 8192 0 true true).wf = false ∧
    (Instr.sectorSelfTest 0 0 64 true true).wf = false := by decide

/-! ### The spec's worked examples -/

/-- The state that a command leads to, or the same one where it stops. -/
def after (c : Instr) (s : State) : State :=
  match exec c s with
  | .next t => t
  | _ => s

def lowWords : ByteEnables := 0xFFFF

/-- Two computers have reserved cell 40 (chapter 03, the interlock example, up to 0.30 µs). -/
def interlock : State := after (.reserveRead .b 2 40) (after (.reserveRead .a 1 40) full)

/-- Port A's conditional store has taken effect (0.55 µs). -/
def interlockA : State := after (.conditionalStore .a 3 40 lowWords (lineOfWords [1, 18])) interlock

/-- Chapter 03, the interlock example, 0.10 to 0.30 µs: both hold the reservation. -/
theorem test_interlock_reserved : interlock.reserved .a = [40] ∧ interlock.reserved .b = [40] := by decide +kernel

/-- 0.55 µs: owner A, sequence 18; B's reservation is lost, bit [8]. -/
theorem test_interlock_stored : interlockA.cells = [(320, 1), (321, 18)] ∧ interlockA.reserved .b = [] ∧
    (interlockA.resultLine .a 40).code = 1 ∧ (interlockA.resultLine .b 40).lostStore = true := by decide +kernel

/-- 0.60 to 0.95 µs: B's store is not stored, and its result reads 0x102. -/
theorem test_interlock_not_stored :
    let t := after (.conditionalStore .b 4 40 lowWords (lineOfWords [2, 18])) interlockA
    t.cells = interlockA.cells ∧ lineWord 0 (t.resultLine .b 40).toLine = 0x102 := by decide +kernel

/-- Chapter 02, the decoder example: the lines at which the windows are reached. -/
theorem test_windows : windowTarget 0x040000000140 = .groupLine 5 ∧ windowTarget 0x040010100A00 = .cell 1 40 ∧
    windowTarget 0x040020000040 = .portPage .a 0x40 ∧ windowTarget 0x040020010000 = .portPage .b 0 := by decide

/-- Chapter 02, the end of the decoder example: Port B reads Port A's page, gets zeros, and 0x3011.08 counts. The module is not
protected here, so DevLoad reads moderate overload (R71). -/
theorem test_foreign_page : (after (.windowAccess .b 1 0x040020000000 .read) full).get 0x301108 = 1 ∧
    (after (.windowAccess .b 1 0x040020000000 .read) full).out = [.readData .b 1 0 false 2] := by decide +kernel

/-- Chapter 08, Table — Example decode: unit 354,727. -/
theorem test_unit_decode : channelOfUnit 354727 = 5 ∧ dieOfUnit 354727 % 4 = 1 ∧ regionOfUnit 354727 % 4 = 2 ∧ clusterOfUnit 354727 % 128 = 77 ∧
    354727 % 32 = 7 ∧ stripeOfUnit 354727 = 27047 ∧ full.parityChannel 27047 = 4 ∧ unitOf 27047 5 = 354727 := by decide +kernel

/-- Table — Cell modes: 300,000,000 units of life are one whole life in every mode (R217). -/
theorem test_life : 600000 * cycleLife 4 = 300000000 ∧ lifePpm (600000 * cycleLife 4) = 1000000 ∧ 1500000 * cycleLife 3 = 300000000 := by decide

/-- The supply bands begin and end at the voltages of chapter 13. -/
theorem test_bands : vinBand 8500 = 3 ∧ vinBand 8499 = 2 ∧ vinBand 4599 = 1 ∧ vinBand 2699 = 0 ∧ fallBand 3 8200 = 3 ∧ fallBand 3 8199 = 2 := by
  decide

/-- Table — Pin states and Table — LED_PWR patterns, in AUX, in FULL without protection, and in LOCKOUT. -/
theorem test_pins : State.reset.faultPin = .high ∧ State.reset.alertPin = .notDriven ∧ State.reset.holdupPin = .low ∧
    State.reset.ledPwr = .blink 100000 2000000 ∧ full.holdupPin = .low ∧ (full.put 0x402001 1).holdupPin = .high ∧ full.ledPwr = .lit ∧
    (inMode modeLockout).faultPin = .low ∧ (inMode modeLockout).alertPin = .low ∧
    (inMode modeLockout).ledSvc = .lit ∧ (inMode modeOff).faultPin = .notDriven := by decide +kernel

end Sys2Proof.Machine.Tests
end

section
/-! SUPPORT. What a step keeps: every command, and every nanosecond in which none waits, evolves from the state before it; and the state after
reset meets every form. -/

namespace Sys2Proof.Machine

/-! ### A nanosecond -/

/-- The clocks of one nanosecond, before the counters of device time. -/
def advanceClocks (s : State) : State :=
  { s with
    clock := s.clock + 1
    service := if s.serving then s.service + 1 else s.service
    deviceTime := if s.mode != modeOff then s.deviceTime + 1 else s.deviceTime }

/-- The counts that a nanosecond which began in `s` may add to `t`: those of device time and of power-on time. -/
def countTime (s t : State) : State :=
  let u := if s.mode != modeOff && t.deviceTime % 1000 == 0 then count1 0x01 31 t else t
  if s.mode != modeOff && u.clock % 1000000000 == 0 then u.bump 0x10000B else u

theorem tick_eq (s : State) : tick s = activationEnds (countTime s (advanceClocks s)) := rfl

theorem unreported_countTime (s t : State) : unreported (countTime s t) = unreported t := by
  simp only [countTime, unreported_ite, unreported_bump, unreported_count1, ite_self]

theorem get_countTime {k : Nat} (hk : k ≠ 0x10000B) (hr : ¬reportKey k) (s t : State) : (countTime s t).get k = t.get k := by
  simp only [countTime, get_ite, get_bump_ne hk, get_count1 hr, ite_self]

theorem cells_activationEnds (s : State) : (activationEnds s).cells = s.cells :=
  (fr_activationEnds (μ := kf_activationEnds) rfl (keeps_refl _ s)).cells rfl

theorem activationEnds_of_none {s : State} (h : s.modes.activation = none) : activationEnds s = s := by
  simp only [activationEnds, h]

/-- With no activation under way, a nanosecond only moves the clocks and counts. -/
theorem tick_of_noActivation {s : State} (h : s.modes.activation = none) : tick s = countTime s (advanceClocks s) := by
  have hm := modes_eq (unreported_countTime s (advanceClocks s))
  rw [tick_eq, activationEnds_of_none (by rw [hm]; exact h)]

theorem cells_tick (s : State) : (tick s).cells = s.cells := by
  rw [tick_eq, cells_activationEnds, cells_eq (unreported_countTime _ _)]
  rfl

theorem ev_countTime (s : State) {r₀ t : State} (ht : Evolves r₀ t) : Evolves r₀ (countTime s t) :=
  have hu := ev_cond (c := (s.mode != modeOff && t.deviceTime % 1000 == 0) = true) (ev_count1 0x01 31 ht) ht
  ev_cond (ev_bump 0x10000B hu) hu

theorem advanceClocks_evolves_tick (s : State) : Evolves (advanceClocks s) (tick s) :=
  ev_activationEnds (ev_countTime s (ev_refl _))

/-! ### Every command -/

/-- What a command answers evolves from the state before it: one lemma for each meaning. -/
theorem exec_evolves {r₀ s : State} (hs : Evolves r₀ s) (c : Instr) : NextIs (Evolves r₀) (exec c s) := by
  unfold exec
  cases c with
  | fullLineWrite => exact ev_execFullLineWrite _ _ _ _ hs
  | partialWrite => exact ev_execPartialWrite _ _ _ _ _ hs
  | mergePlacement => exact ev_execMergePlacement _ _ hs
  | poisonedWrite => exact ev_execPoisonedWrite _ _ _ hs
  | globalVisibilityTransfer => exact ev_execGlobalVisibilityTransfer _ hs
  | memRd => exact ev_execMemRd _ _ _ hs
  | mediumSectorReadDone => exact ev_execMediumSectorReadDone _ _ _ hs
  | patienceExpiry => exact ev_execPatienceExpiry _ hs
  | suspension => exact ev_execSuspension _ hs
  | suspendOverrun => exact ev_execSuspendOverrun _ hs
  | resume => exact ev_execResume _ hs
  | portResponseDeadline => exact ev_execPortResponseDeadline _ hs
  | mediaRetryEnd => exact ev_execMediaRetryEnd _ _ hs
  | failedCheck => exact ev_execFailedCheck _ hs
  | barrierWordRead => exact ev_execBarrierWordRead _ _ hs
  | windowAccess => exact ev_execWindowAccess _ _ _ _ hs
  | groupControlRead => exact ev_execGroupControlRead _ _ _ hs
  | openGroup => exact ev_execOpenGroup _ _ _ _ _ hs
  | bindGroup => exact ev_execBindGroup _ _ _ _ _ hs
  | commitGroup => exact ev_execCommitGroup _ _ _ _ _ hs
  | commitInstant => exact ev_execCommitInstant _ hs
  | abortGroup => exact ev_execAbortGroup _ _ _ _ _ hs
  | releaseGroup => exact ev_execReleaseGroup _ _ _ _ _ hs
  | unassignedGroupCommand => exact ev_execUnassignedGroupCommand _ _ _ _ _ _ hs
  | groupCommandFinish => exact ev_execGroupCommandFinish _ hs
  | forceAbort => exact ev_execForceAbort _ _ hs
  | reserveRead => exact ev_execReserveRead _ _ _ hs
  | conditionalStore => exact ev_execConditionalStore _ _ _ _ _ hs
  | plainCellStore => exact ev_execPlainCellStore _ _ _ _ _ hs
  | resultRead => exact ev_execResultRead _ _ _ hs
  | discard => exact ev_execDiscard _ _ _ _ hs
  | discardInstant => exact ev_execDiscardInstant _ hs
  | unmapperDone => exact ev_execUnmapperDone _ hs
  | userCounterWindowRead => exact ev_execUserCounterWindowRead _ _ _ hs
  | globalPersistentFlushPhase1 => exact ev_execGlobalPersistentFlushPhase1 _ hs
  | globalPersistentFlushPhase2 => exact ev_execGlobalPersistentFlushPhase2 _ hs
  | hdmDecoderCommit => exact ev_execHdmDecoderCommit _ _ _ _ _ hs
  | portDetect => exact ev_execPortDetect _ hs
  | linkUp => exact ev_execLinkUp _ _ _ hs
  | linkTrainingFailed => exact ev_execLinkTrainingFailed _ hs
  | portException => exact ev_execPortException _ _ hs
  | perst => exact ev_execPerst _ _ hs
  | surpriseLinkLoss => exact ev_execSurpriseLinkLoss _ hs
  | viralReceived => exact ev_execViralReceived _ hs
  | portEnableWrite => exact ev_execPortEnableWrite _ _ _ hs
  | identify => exact ev_execIdentify _ hs
  | getEventRecords => exact ev_execGetEventRecords _ _ hs
  | clearEventRecords => exact ev_execClearEventRecords _ _ _ hs
  | getEventInterruptPolicy => exact ev_execGetEventInterruptPolicy _ hs
  | setEventInterruptPolicy => exact ev_execSetEventInterruptPolicy _ _ _ _ _ hs
  | getFwInfo => exact ev_execGetFwInfo _ hs
  | transferFw => exact ev_execTransferFw _ _ _ hs
  | activateFw => exact ev_execActivateFw _ _ _ hs
  | getTimestamp => exact ev_execGetTimestamp _ hs
  | setTimestamp => exact ev_execSetTimestamp _ _ hs
  | identifyMemoryDevice => exact ev_execIdentifyMemoryDevice _ hs
  | getHealthInfo => exact ev_execGetHealthInfo _ hs
  | sanitize => exact ev_execSanitize _ hs
  | secureErase => exact ev_execSecureErase _ hs
  | unsupportedMailboxOpcode => exact ev_execUnsupportedMailboxOpcode _ _ hs
  | entryRead => exact ev_execEntryRead _ _ _ hs
  | rcEntryRead => exact ev_execRcEntryRead _ _ _ hs
  | entryWrite => exact ev_execEntryWrite _ _ _ _ hs
  | blockRead => exact ev_execBlockRead _ _ _ _ _ hs
  | blockWrite => exact ev_execBlockWrite _ _ _ _ _ _ hs
  | sessionOpen => exact ev_execSessionOpen _ _ _ hs
  | sessionResponse => exact ev_execSessionResponse _ _ _ hs
  | sessionClose => exact ev_execSessionClose _ hs
  | sessionReservationTimeout => exact ev_execSessionReservationTimeout _ hs
  | sessionIdleTimeout => exact ev_execSessionIdleTimeout _ hs
  | proofHoldExpiry => exact ev_execProofHoldExpiry _ hs
  | levelKeyWrite => exact ev_execLevelKeyWrite _ _ _ hs
  | closeAllSessions => exact ev_execCloseAllSessions _ hs
  | setDefaults => exact ev_execSetDefaults _ hs
  | forceUnprotectedWrite => exact ev_execForceUnprotectedWrite _ _ hs
  | deviceTimeWrite => exact ev_execDeviceTimeWrite _ _ hs
  | regionAttributeWrite => exact ev_execRegionAttributeWrite _ _ _ _ hs
  | regionClassWrite => exact ev_execRegionClassWrite _ _ _ hs
  | promptPreparationDone => exact ev_execPromptPreparationDone _ hs
  | policyProfileWrite => exact ev_execPolicyProfileWrite _ _ hs
  | stagingHoldExpiry => exact ev_execStagingHoldExpiry _ _ hs
  | logRowDispatch => exact ev_execLogRowDispatch hs
  | logRowCloseTime => exact ev_execLogRowCloseTime hs
  | logRowComplete => exact ev_execLogRowComplete _ hs
  | programDispatch => exact ev_execProgramDispatch _ hs
  | programComplete => exact ev_execProgramComplete _ _ hs
  | stripePageComplete => exact ev_execStripePageComplete _ hs
  | chunkGrant => exact ev_execChunkGrant _ hs
  | dieTemperatureRead => exact ev_execDieTemperatureRead _ _ hs
  | stampCeilingRaise => exact ev_execStampCeilingRaise hs
  | checkpoint => exact ev_execCheckpoint hs
  | segmentFold => exact ev_execSegmentFold _ hs
  | directoryImage => exact ev_execDirectoryImage hs
  | demandRebuild => exact ev_execDemandRebuild _ hs
  | segmentRebuilt => exact ev_execSegmentRebuilt _ hs
  | backgroundRebuildDone => exact ev_execBackgroundRebuildDone hs
  | foldStart => exact ev_execFoldStart hs
  | foldStop => exact ev_execFoldStop hs
  | foldStripePageDispatch => exact ev_execFoldStripePageDispatch hs
  | foldMapSet => exact ev_execFoldMapSet _ hs
  | logTrim => exact ev_execLogTrim hs
  | logRelocation => exact ev_execLogRelocation _ hs
  | collection => exact ev_execCollection hs
  | collectionCritical => exact ev_execCollectionCritical hs
  | destinationProgramFailure => exact ev_execDestinationProgramFailure _ _ hs
  | sourceSectorFailure => exact ev_execSourceSectorFailure _ _ _ _ hs
  | wearLevellingMove => exact ev_execWearLevellingMove hs
  | roleRotation => exact ev_execRoleRotation _ _ hs
  | hourlyTrickle => exact ev_execHourlyTrickle hs
  | ageMeterReprogram => exact ev_execAgeMeterReprogram hs
  | priorityPass => exact ev_execPriorityPass hs
  | patrolVisit => exact ev_execPatrolVisit _ _ hs
  | outOfTurnVisit => exact ev_execOutOfTurnVisit _ _ hs
  | unitRetest => exact ev_execUnitRetest _ _ hs
  | demotion => exact ev_execDemotion _ hs
  | floorRestoreMove => exact ev_execFloorRestoreMove _ hs
  | dieRetiring => exact ev_execDieRetiring _ hs
  | dieFailed => exact ev_execDieFailed _ hs
  | channelRetired => exact ev_execChannelRetired _ _ _ hs
  | rebuildComplete => exact ev_execRebuildComplete _ hs
  | stripeWithdrawn => exact ev_execStripeWithdrawn _ hs
  | retireDie => exact ev_execRetireDie _ _ hs
  | regionOffline => exact ev_execRegionOffline _ _ hs
  | regionOnline => exact ev_execRegionOnline _ _ hs
  | stampFormConversion => exact ev_execStampFormConversion _ hs
  | writeBackBatch => exact ev_execWriteBackBatch hs
  | integrityTableImage => exact ev_execIntegrityTableImage _ hs
  | integrityLineFetch => exact ev_execIntegrityLineFetch _ _ hs
  | counterCacheError => exact ev_execCounterCacheError _ _ hs
  | resumeFromHalt => exact ev_execResumeFromHalt _ _ hs
  | renewKeySlot => exact ev_execRenewKeySlot _ _ hs
  | scrub => exact ev_execScrub _ _ _ hs
  | uncorrectableError => exact ev_execUncorrectableError _ hs
  | criticalStateError => exact ev_execCriticalStateError hs
  | rowSelfTest => exact ev_execRowSelfTest _ _ _ hs
  | sectorSelfTest => exact ev_execSectorSelfTest _ _ _ _ _ hs
  | clearTable => exact ev_execClearTable _ hs
  | writeRaw => exact ev_execWriteRaw _ hs
  | readRaw => exact ev_execReadRaw _ _ _ hs
  | vinValid => exact ev_execVinValid _ hs
  | inputLoss => exact ev_execInputLoss _ hs
  | overvoltage => exact ev_execOvervoltage _ hs
  | inputSwitchReclose => exact ev_execInputSwitchReclose _ hs
  | bandDown => exact ev_execBandDown _ hs
  | bandUp => exact ev_execBandUp _ hs
  | powerCapAdjust => exact ev_execPowerCapAdjust _ hs
  | rise => exact ev_execRise _ _ hs
  | railFault => exact ev_execRailFault _ _ hs
  | retryRails => exact ev_execRetryRails _ hs
  | fall => exact ev_execFall _ _ hs
  | lossOfProtection => exact ev_execLossOfProtection hs
  | protectionRestored => exact ev_execProtectionRestored hs
  | yoYoTest => exact ev_execYoYoTest _ _ _ hs
  | runYoYoTest => exact ev_execRunYoYoTest _ hs
  | cartridgeRemoved => exact ev_execCartridgeRemoved hs
  | cartridgeInserted => exact ev_execCartridgeInserted _ hs
  | curtain => exact ev_execCurtain _ hs
  | curtainCommitPoint => exact ev_execCurtainCommitPoint hs
  | curtainCancelled => exact ev_execCurtainCancelled _ hs
  | curtainOutcome => exact ev_execCurtainOutcome hs
  | cartridgeFloor => exact ev_execCartridgeFloor hs
  | shortPress => exact ev_execShortPress hs
  | serviceRequestWindowEnd => exact ev_execServiceRequestWindowEnd hs
  | serviceRelease => exact ev_execServiceRelease _ hs
  | forcedPowerDown => exact ev_execForcedPowerDown hs
  | mrN => exact ev_execMrN _ hs
  | restore => exact ev_execRestore _ _ _ hs
  | offRequest => exact ev_execOffRequest _ hs
  | onRequest => exact ev_execOnRequest _ hs
  | minimumOffTimeEnd => exact ev_execMinimumOffTimeEnd hs
  | deviceReset => exact ev_execDeviceReset _ hs
  | managementWatchdog => exact ev_execManagementWatchdog hs
  | enterDoze => exact ev_execEnterDoze _ hs
  | idleTimer => exact ev_execIdleTimer hs
  | dozeEntryStep => exact ev_execDozeEntryStep hs
  | wake => exact ev_execWake _ hs
  | wakeN => exact ev_execWakeN _ hs
  | wakeDelay => exact ev_execWakeDelay hs
  | enterService => exact ev_execEnterService _ hs
  | leaveService => exact ev_execLeaveService _ hs
  | serviceTimeLimit => exact ev_execServiceTimeLimit hs
  | activateOnline => exact ev_execActivateOnline _ _ hs
  | slowRound => exact ev_execSlowRound _ hs
  | reAdmitSensor => exact ev_execReAdmitSensor _ _ hs
  | throttleCleared => exact ev_execThrottleCleared hs
  | enforcementLevel => exact ev_execEnforcementLevel hs
  | lockout => exact ev_execLockout hs
  | frameReceived => exact ev_execFrameReceived _ hs
  | discover => exact ev_execDiscover _ hs
  | rattle => exact ev_execRattle _ hs
  | notice => exact ev_execNotice hs
  | beaconLoss => exact ev_execBeaconLoss hs
  | beaconReceived => exact ev_execBeaconReceived hs
  | nodeIdConflict => exact ev_execNodeIdConflict hs
  | fieldLinkConfigWrite => exact ev_execFieldLinkConfigWrite _ _ _ hs
  | reducedRateRefill => exact ev_execReducedRateRefill hs
  | occurrence => exact ev_execOccurrence _ hs
  | latchClear => exact ev_execLatchClear _ _ _ hs
  | heldMsiX => exact ev_execHeldMsiX _ hs
  | recorderWrite => exact ev_execRecorderWrite hs
  | captureEpisode => exact ev_execCaptureEpisode hs
  | clearRecorder => exact ev_execClearRecorder _ _ hs
  | coreDelayMargin => exact ev_execCoreDelayMargin _ hs
  | crossingError => exact ev_execCrossingError _ hs
  | completionStall => exact ev_execCompletionStall hs
  | counterSelectWrite => exact ev_execCounterSelectWrite _ _ _ hs
  | counterStickyClear => exact ev_execCounterStickyClear _ _ _ hs
  | counterWrap => exact ev_execCounterWrap _ hs
  | bandwidthWindowEnd => exact ev_execBandwidthWindowEnd _ hs
  | queueFlush => exact ev_execQueueFlush _ _ hs
  | oldestSampleItemRead => exact ev_execOldestSampleItemRead _ hs
  | dmaDescriptorWrite => exact ev_execDmaDescriptorWrite _ _ _ _ _ hs
  | dmaStart => exact ev_execDmaStart _ _ _ hs
  | dmaAbort => exact ev_execDmaAbort _ _ _ hs
  | dmaBurstPlaced => exact ev_execDmaBurstPlaced _ hs
  | drainIdleTimer => exact ev_execDrainIdleTimer _ hs
  | releaseChannel => exact ev_execReleaseChannel _ _ hs
  | mrNHigh => exact ev_execMrNHigh hs
  | stuckRailCleared => exact ev_execStuckRailCleared _ hs
theorem evolves_of_exec {c : Instr} {s t : State} (h : exec c s = .next t) : Evolves s t := by
  have hn := exec_evolves (ev_refl s) c
  rwa [h] at hn

/-! ### A step -/

theorem step_nil {s : State} (h : s.pending = []) : step s = .next (tick s) := by
  simp only [step, h]

theorem step_cons {s : State} {c : Instr} {rest : List Instr} (h : s.pending = c :: rest) :
    step s = exec c { s with pending := rest } := by
  simp only [step, h]

/-- What a step that answers a next state can be: a nanosecond with no command waiting, or the front command's effect. -/
theorem step_next_cases {s t : State} (h : step s = .next t) :
    (s.pending = [] ∧ t = tick s) ∨ ∃ c rest, s.pending = c :: rest ∧ exec c { s with pending := rest } = .next t := by
  cases hp : s.pending with
  | nil => exact .inl ⟨rfl, (Host.Outcome.next.inj (step_nil hp ▸ h)).symm⟩
  | cons c rest => exact .inr ⟨c, rest, rfl, step_cons hp ▸ h⟩

/-- A step evolves from the state before it but for the queue's front and the clocks. -/
theorem step_evolves {s t : State} (h : step s = .next t) :
    ∃ clock service deviceTime, s.clock ≤ clock ∧
      Evolves { s with pending := s.pending.tail, clock := clock, service := service, deviceTime := deviceTime } t := by
  rcases step_next_cases h with ⟨hp, rfl⟩ | ⟨c, rest, hp, hc⟩
  · refine ⟨s.clock + 1, (advanceClocks s).service, (advanceClocks s).deviceTime, Nat.le_succ _, ?_⟩
    have he := advanceClocks_evolves_tick s
    rw [show s.pending.tail = s.pending by rw [hp]; rfl]
    exact he
  · refine ⟨s.clock, s.service, s.deviceTime, Nat.le_refl _, ?_⟩
    rw [show s.pending.tail = rest by rw [hp]; rfl]
    exact evolves_of_exec hc

theorem Evolves.bounded {r t : State} (h : Evolves r t) (hb : Bounded r) : Bounded t :=
  have he := h.errors ⟨hb.errors, hb.saved⟩
  { changes := h.changes hb.changes, sessions := h.sessions hb.sessions, received := h.received hb.received
    notices := h.notices hb.notices, samples := h.samples hb.samples, errors := he.1, saved := he.2 }

/-- Settles O1: the front command is what `step` runs, and with no activation under way a nanosecond's counts are reports. -/
theorem stepRunsTheFrontCommand : Obligations.StepRunsTheFrontCommand := by
  refine ⟨fun s c rest h => step_cons h, fun s h => ⟨step_nil h, (advanceClocks_evolves_tick s).clock, cells_tick s, fun ha => ?_⟩⟩
  have hu := unreported_countTime s (advanceClocks s)
  rw [tick_of_noActivation ha]
  refine ⟨get_countTime (by decide) (by decide) _ _, (staging_eq hu).trans rfl, (groups_eq hu).trans rfl, ?_⟩
  rw [deviceTime_eq hu, advanceClocks]
  by_cases hm : s.mode = modeOff <;> simp [hm]

/-- Settles O2: every command's effect, and every nanosecond, evolves from the state before it. -/
theorem commandsPassNoTime : Obligations.CommandsPassNoTime := by
  refine ⟨fun c s t h => ?_, fun s t h => ?_⟩
  · have he := evolves_of_exec h
    exact ⟨he.pending, he.clock, he.service, he.sent, he.draws⟩
  · obtain ⟨_, _, _, hc, he⟩ := step_evolves h
    exact ⟨he.pending, he.clock ▸ hc, he.sent, he.draws⟩

/-- Settles O5: the forms are part of what every operation keeps (`Evolves`), and neither the queue nor the clocks enter them. -/
theorem everyStepKeepsTheForms : Obligations.EveryStepKeepsTheForms := by
  intro s t h
  obtain ⟨_, _, _, -, he⟩ := step_evolves h
  exact ⟨he.regs, he.cells, he.groups, fun hb => he.bounded ⟨hb.1, hb.2, hb.3, hb.4, hb.5, hb.6, hb.7⟩⟩

/-! ### After reset -/

theorem get_reset (key : Nat) : State.reset.get key = defaultOf key := rfl

theorem reset_bounded : Bounded State.reset := by
  constructor <;> exact Nat.zero_le _

/-- Settles O3: the register file, the cells and the groups of the reset state list nothing. -/
theorem resetHoldsTheDefaults : Obligations.ResetHoldsTheDefaults := by
  have hregs : RegsOk State.reset.dict State.reset.octs := ⟨rfl, List.forall_mem_nil _, rfl, List.forall_mem_nil _⟩
  refine ⟨fun key => ⟨get_reset key, rfl⟩, fun cell word => rfl, fun g => rfl, ?_, fun p => ?_, rfl, rfl, rfl, rfl, by decide, hregs,
    ⟨rfl, List.forall_mem_nil _⟩, ⟨rfl, List.forall_mem_nil _⟩, reset_bounded, fun p => ?_, fun nbits w => rfl⟩
  · rw [State.mode, get_reset]; decide
  · rw [State.linkState, get_reset]
    cases p
    · exact ⟨rfl, by decide, rfl⟩
    · exact ⟨rfl, by decide, rfl⟩
  · cases p
    · exact ⟨List.nodup_nil, Nat.zero_le _⟩
    · exact ⟨List.nodup_nil, Nat.zero_le _⟩

end Sys2Proof.Machine
end

section
/-! SUPPORT. How a dictionary request runs once its path serves it and its session accepts it: the checks refuse it, or its entry answers it
(R435, R443, R460). -/

namespace Sys2Proof.Machine

/-! ### A response -/

/-- A response leaves the register file, the samples and the change records alone. -/
theorem deliver_keeps (req : Req) (o : Out) (s : State) :
    (deliver req o s).dict = s.dict ∧ (deliver req o s).octs = s.octs ∧ (deliver req o s).obs = s.obs ∧
      (deliver req o s).mgmt.changes = s.mgmt.changes := by
  unfold deliver
  split <;> exact ⟨rfl, rfl, rfl, rfl⟩

theorem mem_out_deliver (req : Req) (o : Out) (s : State) : o ∈ (deliver req o s).out := by
  unfold deliver
  split <;> simp [emit, putSession]

/-- The transaction of a response does not depend on the entry that it names. -/
theorem replyHead_transaction (req : Req) (idx sub : Nat) : (replyHead req idx sub).transaction = (replyHead req 0 0).transaction := by
  unfold replyHead
  split <;> rfl

theorem endWith_replies (req : Req) (idx sub : Nat) (ask : DictAsk) (status : Nat) (s : State) :
    Replied req ask status (endWith req idx sub ask status s) :=
  ⟨_, _, _, _, replyHead_transaction req idx sub, mem_out_deliver req _ s⟩

/-! ### Path and session -/

theorem reducedService_mgmt (s : State) (m : Management) : State.reducedService { s with mgmt := m } = s.reducedService := rfl

theorem arrive_of_arrives {path : Path} {s v : State} (h : Arrives path s v) (busy serve : State → State) :
    arrive path busy serve s = serve v := by
  obtain ⟨hserved, rfl⟩ := h
  cases path with
  | mailbox p => simp only [arrive, served, arrived] at hserved ⊢; rw [if_pos hserved]
  | fieldLink mac =>
    obtain ⟨hruns, hroom⟩ := (Bool.and_eq_true _ _).mp hserved
    cases hr : s.reducedService with
    | false => simp only [arrive, arrived, hruns, hr, reducedService_mgmt, Bool.not_true, Bool.not_false, Bool.false_eq_true, if_false, if_true]
    | true =>
      have hb : 0 < s.mgmt.bucket := by simpa [hr] using hroom
      simp only [arrive, arrived, hruns, hr, reducedService_mgmt, hb, Bool.not_true, Bool.false_eq_true, if_false, if_true]

theorem inSession_of_accepted {req : Req} {idx sub : Nat} {ask : DictAsk} {v : State} {x : Session} (hx : v.sessionOf req = some x)
    (htag : req.tag = some (requestTag x.tagKey req idx sub ask)) (hnew : ¬(req.counter = x.counter ∧ x.lastTag = req.tag))
    (hnext : req.counter = (x.counter + 1) % counterSpan req.path)  (refused : Nat → State → State) (go : State → State) :
    inSession req (fun key => requestTag key req idx sub ask) refused go v =
      go (putSession { x with counter := req.counter, lastTag := req.tag, lastReply := none, repeats := 0, lastUse := v.clock } v) := by
  rw [htag] at hnew
  simp only [inSession, hx, htag]
  rw [if_neg hnew, if_pos ⟨hnext, trivial⟩]

/-- A request that arrives and is accepted is judged in the state of its acceptance. -/
theorem request_of_accepted {req : Req} {idx sub : Nat} {ask : DictAsk} {s v u : State} (env : DictEnv) (ha : Arrives req.path s v)
    (hacc : Accepted req idx sub ask v u) : request req idx sub ask env s = perform req idx sub ask env u := by
  rw [request, arrive_of_arrives ha]
  rcases hacc with ⟨hzero, rfl⟩ | ⟨hsession, x, hx, htag, hnew, hnext, rfl⟩
  · rw [if_pos hzero]
  · rw [if_neg hsession, inSession_of_accepted hx htag hnew hnext]

theorem request_of_admitted {req : Req} {idx sub : Nat} {ask : DictAsk} {s u : State} {d : Desc} (env : DictEnv)
    (hd : describe (idx * 256 + sub) = some d) (h : Admitted s req idx sub ask u) :
    request req idx sub ask env s = serveOk req idx sub ask env u := by
  obtain ⟨⟨v, ha, hacc⟩, hok, hwait⟩ := h
  rw [request_of_accepted env ha hacc, perform]
  simp only [hok, hd, hwait d hd, ne_eq, not_true_eq_false, if_false, Bool.false_eq_true]

/-! ### Refusals -/

theorem perform_of_refused {req : Req} {idx sub : Nat} {ask : DictAsk} {u : State} (h : u.judge req idx sub ask ≠ 0) (env : DictEnv) :
    perform req idx sub ask env u = refuse req idx sub ask (u.judge req idx sub ask) u := by
  simp only [perform, ne_eq, h, not_false_eq_true, if_true]

/-- A refused read starts no action, so that it is not counted as one (R409). -/
theorem refuse_read (req : Req) (idx sub status : Nat) (u : State) :
    refuse req idx sub .read status u = endWith req idx sub .read status u := by
  unfold refuse
  cases describe (idx * 256 + sub) <;> simp only [DictAsk.starts, Bool.and_false, Bool.false_eq_true, if_false]

theorem refuse_write {status : Nat} (h : status ≠ stStateConflict) (req : Req) (idx sub : Nat) (x : List Byte) (u : State) :
    refuse req idx sub (.write x) status u = endWith req idx sub (.write x) status u := by
  unfold refuse
  simp only [beq_eq_false_iff_ne.mpr h, Bool.false_and, Bool.false_eq_true, if_false]

theorem endWith_refuses (req : Req) (idx sub : Nat) (ask : DictAsk) (status : Nat) (u : State) :
    Replied req ask status (endWith req idx sub ask status u) ∧ (endWith req idx sub ask status u).dict = u.dict ∧
      (endWith req idx sub ask status u).octs = u.octs ∧ (endWith req idx sub ask status u).mgmt.changes = u.mgmt.changes := by
  obtain ⟨hdict, hocts, -, hchanges⟩ := deliver_keeps req (answerOf (u.replyKey req) req idx sub ask status 0 [] false u.reducedService) u
  exact ⟨endWith_replies _ _ _ _ _ _, hdict, hocts, hchanges⟩

/-! ### Reads -/

theorem clearRead_of_not_rc {key : Nat} {d : Desc} (hd : describe key = some d) (h : d.access ≠ .rc) (s : State) : clearRead key s = s := by
  simp only [clearRead, hd, h, ne_eq, not_false_eq_true, if_true]

/-- The oldest sample item is an RC entry of bytes. -/
theorem describe_oldestSample :
    describe 0xB04005 = some ⟨0xB040, 0x05, .octs, .rc, 1, 255, .volatile, 0, 64, some 0, false⟩ := by decide +kernel

/-- A read of the oldest sample item takes it (R502). -/
theorem samples_clearRead_oldestSample (s : State) : (clearRead 0xB04005 s).obs.samples = s.obs.samples.drop 1 := by
  simp only [clearRead, describe_oldestSample, ne_eq, not_true_eq_false, if_false, if_true, takeSample]
  unfold rearmSamples
  split <;> rfl

theorem get_clearRead_self {key : Nat} {d : Desc} (hd : describe key = some d) (hrc : d.access = .rc) (hn : d.ty.isBytes = false)
    (s : State) : (clearRead key s).get key = defaultOf key := by
  have hk : key ≠ 0xB04005 := by
    rintro rfl
    obtain rfl := Option.some.inj (hd.symm.trans describe_oldestSample)
    exact absurd hn (by decide)
  simp only [clearRead, hd, hrc, hn, hk, ne_eq, not_true_eq_false, if_false, Bool.false_eq_true, get_put_self]

/-- An admitted read is answered with the entry's value as it stood, and clears an RC entry. -/
theorem request_read {req : Req} {idx sub : Nat} {s u : State} {d : Desc} (hd : describe (idx * 256 + sub) = some d)
    (h : Admitted s req idx sub .read u) :
    request req idx sub .read {} s = deliver req (answerOf (u.replyKey req) req idx sub .read stOk d.ty.code
      (u.answerBytes (idx * 256 + sub)) false u.reducedService) (clearRead (idx * 256 + sub) u) := by
  simp only [request_of_admitted {} hd h, serveOk, hd]

/-- What a read changes beside its answer: nothing, or the RC entry that it reads. -/
theorem deliver_clearRead {key : Nat} {d : Desc} (hd : describe key = some d) (req : Req) (o : Out) (u : State) :
    o ∈ (deliver req o (clearRead key u)).out ∧
      (d.access ≠ .rc → (deliver req o (clearRead key u)).dict = u.dict ∧ (deliver req o (clearRead key u)).octs = u.octs ∧
        (deliver req o (clearRead key u)).obs = u.obs) ∧
      (d.access = .rc → d.ty.isBytes = false → (deliver req o (clearRead key u)).get key = defaultOf key) := by
  obtain ⟨hdict, hocts, hobs, -⟩ := deliver_keeps req o (clearRead key u)
  refine ⟨mem_out_deliver _ _ _, fun hne => ?_, fun hrc hn => ?_⟩
  · rw [hdict, hocts, hobs, clearRead_of_not_rc hd hne]
    exact ⟨rfl, rfl, rfl⟩
  · rw [get_congr hdict, get_clearRead_self hd hrc hn]

/-- Settles O35: a refused request only ends with its status; an admitted read only delivers its answer and clears what is read. -/
theorem requestsAreRefusedOrRead : Obligations.RequestsAreRefusedOrRead := by
  refine ⟨fun s v u req idx sub harr => ⟨fun hacc hj c hc => ?_, fun x hacc hj hstate => ?_⟩, fun s u req idx sub d hd =>
    ⟨fun hadm => ⟨fun c hc => ?_, fun hidx hsub => ?_⟩, fun offset n hadm => ?_⟩⟩
  · have hrun : exec c s = .next (request req idx sub .read {} s) := by rcases List.mem_pair.mp hc with rfl | rfl <;> rfl
    refine ⟨_, hrun, ?_⟩
    rw [request_of_accepted {} harr hacc, perform_of_refused hj, refuse_read]
    exact endWith_refuses _ _ _ _ _ _
  · refine ⟨_, rfl, ?_⟩
    rw [request_of_accepted {} harr hacc, perform_of_refused hj, refuse_write hstate]
    exact endWith_refuses _ _ _ _ _ _
  · have hrun : exec c s = .next (request req idx sub .read {} s) := by rcases List.mem_pair.mp hc with rfl | rfl <;> rfl
    refine ⟨_, hrun, ?_⟩
    rw [request_read hd hadm]
    obtain ⟨hout, hplain, hclears⟩ := deliver_clearRead hd req _ u
    exact ⟨⟨_, hout⟩, hplain, hclears⟩
  · subst hidx hsub
    refine ⟨_, rfl, ?_⟩
    rw [request_read hd hadm]
    refine ⟨⟨_, mem_out_deliver _ _ _⟩, ?_⟩
    obtain ⟨-, -, hobs, -⟩ := deliver_keeps req (answerOf (u.replyKey req) req 0xB040 0x05 .read stOk d.ty.code (u.answerBytes 0xB04005) false
      u.reducedService) (clearRead 0xB04005 u)
    rw [hobs, samples_clearRead_oldestSample]
  · refine ⟨_, rfl, ?_⟩
    rw [request_of_admitted {} hd hadm]
    simp only [serveOk, hd]
    exact ⟨_, mem_out_deliver _ _ _⟩

end Sys2Proof.Machine
end

section
/-! SUPPORT. What leaves the cells alone while no window access waits at a port: one lemma for each operation that dictionary requests and the
steps of RESTORE use. An access that waits may take effect with a drain (R54); with none waiting, no operation here lets one wait or writes a
cell. -/

namespace Sys2Proof.Machine

/-! ### The relation -/

/-- The parts of a state that `AtRest` speaks of. -/
def AtRestWith (cs cells : Tbl Word) (waitsA waitsB : List PortWait) : Prop := cells = cs ∧ waitsA = [] ∧ waitsB = []

/-- The cells are `cs`, and no window access waits at a port for its drain (R54). -/
def AtRest (cs : Tbl Word) (s : State) : Prop := AtRestWith cs s.cells s.portA.waits s.portB.waits

theorem atRest_iff {s : State} : AtRest s.cells s ↔ ∀ p, (s.port p).waits = [] :=
  ⟨fun ⟨_, ha, hb⟩ p => match p with
    | .a => ha
    | .b => hb, fun h => ⟨rfl, h .a, h .b⟩⟩

section Rest

variable {cs : Tbl Word}

theorem AtRest.waits {s : State} (hs : AtRest cs s) (p : Port) : (s.port p).waits = [] :=
  match p with
  | .a => hs.2.1
  | .b => hs.2.2

/-- Every part of the state but the ports and the cells, as a mask of `Keeps`. -/
def restMask : Nat := 0x3FFFBFF9F

/-- What names neither the ports nor the cells among the parts that it writes leaves the state at rest. -/
theorem AtRest.quiet {s t : State} (hs : AtRest cs s) (h : Keeps restMask s t) : AtRest cs t := by
  unfold AtRest
  rw [h.cells rfl, h.portA rfl, h.portB rfl]
  exact hs

theorem AtRest.unreported {s t : State} (hs : AtRest cs s) (h : unreported t = unreported s) : AtRest cs t :=
  ⟨(cells_eq h).trans hs.1, (port_waits_eq (p := .a) h).trans hs.2.1, (port_waits_eq (p := .b) h).trans hs.2.2⟩

theorem rest_mk : ∀ x0 x1 x2 x3 x4 x5 x6 x7 x8 x9 x10 x11 x12 x13 x14 x15 x16 x17 x18 x19 x20 x21 x22 x23 x24 x25 x26 x27 x28 x29 x30 x31 x32 x33 x34
    x35 x36 x37 x38 x39, AtRest cs (State.mk x0 x1 x2 x3 x4 x5 x6 x7 x8 x9 x10 x11 x12 x13 x14 x15 x16 x17 x18 x19 x20 x21 x22 x23 x24 x25 x26 x27 x28
      x29 x30 x31 x32 x33 x34 x35 x36 x37 x38 x39) = AtRestWith cs x23 x10.waits x11.waits := by intros; rfl
theorem rest_fold (s : State) : AtRestWith cs s.cells s.portA.waits s.portB.waits = AtRest cs s := rfl
theorem rest_ite (p : Prop) [Decidable p] (a b : State) : AtRest cs (if p then a else b) = if p then AtRest cs a else AtRest cs b := by
  split <;> rfl
theorem rest_cond {p : Prop} [Decidable p] {a b : State} (ha : AtRest cs a) (hb : AtRest cs b) : AtRest cs (if p then a else b) := by
  split <;> assumption
theorem rest_foldl {α : Type} {f : State → α → State} {s : State} (h : ∀ t a, AtRest cs t → AtRest cs (f t a)) (l : List α)
    (hs : AtRest cs s) : AtRest cs (l.foldl f s) := by
  induction l generalizing s with
  | nil => exact hs
  | cons a l ih => rw [List.foldl_cons]; exact ih (h _ _ hs)

/-! ### Operations -/

theorem rest_setPort (p : Port) (v : PortState) (hv : v.waits = []) {s : State} (hs : AtRest cs s) : AtRest cs (s.setPort p v) := by
  cases p
  · exact ⟨hs.1, hv, hs.2.2⟩
  · exact ⟨hs.1, hs.2.1, hv⟩

theorem rest_modPort (p : Port) (f : PortState → PortState) (hf : ∀ q, q.waits = [] → (f q).waits = []) {s : State} (hs : AtRest cs s) :
    AtRest cs (s.modPort p f) := rest_setPort p _ (hf _ (hs.waits p)) hs

/-! ### Operations of `Registers` -/

theorem rest_put (k v : Nat) {s : State} (hs : AtRest cs s) : AtRest cs (s.put k v) :=
  hs.quiet (fr_put rfl k v (keeps_refl _ s))

theorem rest_putBytes (k : Nat) (v : List Byte) {s : State} (hs : AtRest cs s) : AtRest cs (s.putBytes k v) :=
  hs.quiet (fr_putBytes rfl k v (keeps_refl _ s))

theorem rest_addTo (key n : Nat) {s : State} (hs : AtRest cs s) : AtRest cs (State.addTo s key n) :=
  hs.quiet (fr_addTo rfl key n (keeps_refl _ s))

theorem rest_bump (key : Nat) {s : State} (hs : AtRest cs s) : AtRest cs (State.bump s key) :=
  hs.quiet (fr_bump rfl key (keeps_refl _ s))

theorem rest_raiseTo (key v : Nat) {s : State} (hs : AtRest cs s) : AtRest cs (State.raiseTo s key v) :=
  hs.quiet (fr_raiseTo rfl key v (keeps_refl _ s))

/-! ### Operations of `Flags` -/

theorem rest_setGroup (g : Nat) (v : Group) {s : State} (hs : AtRest cs s) : AtRest cs (State.setGroup s g v) :=
  hs.quiet (fr_setGroup rfl g v (keeps_refl _ s))

theorem rest_setChannel (k : Nat) (c : DmaChannel) {s : State} (hs : AtRest cs s) : AtRest cs (State.setChannel s k c) :=
  hs.quiet (fr_setChannel rfl k c (keeps_refl _ s))

theorem rest_setUnit (u : Nat) (r : UnitRec) {s : State} (hs : AtRest cs s) : AtRest cs (State.setUnit s u r) :=
  hs.quiet (fr_setUnit rfl u r (keeps_refl _ s))

theorem rest_setStripe (n : Nat) (r : StripeRec) {s : State} (hs : AtRest cs s) : AtRest cs (State.setStripe s n r) :=
  hs.quiet (fr_setStripe rfl n r (keeps_refl _ s))

/-! ### Operations of `Geometry` -/

theorem rest_endOverruns {s : State} (hs : AtRest cs s) : AtRest cs (endOverruns s) :=
  hs.quiet (fr_endOverruns rfl (keeps_refl _ s))

/-! ### Operations of `Medium` -/

theorem rest_rearmStall {s : State} (hs : AtRest cs s) : AtRest cs (rearmStall s) :=
  hs.quiet (fr_rearmStall rfl (keeps_refl _ s))

/-! ### Operations of `Tree` -/

theorem rest_touchIntegrity (obj : IntegrityObject) {s : State} (hs : AtRest cs s) : AtRest cs (touchIntegrity obj s) :=
  hs.quiet (fr_touchIntegrity rfl obj (keeps_refl _ s))

theorem rest_touchBlock (page : Nat) {s : State} (hs : AtRest cs s) : AtRest cs (touchBlock page s) :=
  hs.quiet (fr_touchBlock rfl page (keeps_refl _ s))

theorem rest_cacheLine (obj : IntegrityObject) {s : State} (hs : AtRest cs s) : AtRest cs (cacheLine obj s) :=
  hs.quiet (fr_cacheLine rfl obj (keeps_refl _ s))

/-! ### Operations of `Ops` -/

theorem rest_emit (o : Out) {s : State} (hs : AtRest cs s) : AtRest cs (emit o s) :=
  hs.quiet (fr_emit rfl o (keeps_refl _ s))

theorem rest_drawn {s : State} (hs : AtRest cs s) : AtRest cs (drawn s) :=
  hs.quiet (fr_drawn rfl (keeps_refl _ s))

theorem rest_takeStamp {s : State} (hs : AtRest cs s) : AtRest cs (takeStamp s) :=
  hs.quiet (fr_takeStamp rfl (keeps_refl _ s))

theorem rest_sendMsi (p : Port) (vector : Nat) {s : State} (hs : AtRest cs s) : AtRest cs (sendMsi p vector s) :=
  hs.unreported (unreported_sendMsi _ _ _)

theorem rest_postRecord (p : Port) (severity : Nat) (r : EventRecord) {s : State} (hs : AtRest cs s) : AtRest cs (postRecord p severity r
        s) :=
  hs.unreported (unreported_postRecord _ _ _ _)

theorem rest_recordOccurrence (r : RecorderRecord) {s : State} (hs : AtRest cs s) : AtRest cs (recordOccurrence r s) :=
  hs.unreported (unreported_recordOccurrence _ _)

theorem rest_latchMsi (src routing mask : Nat) {s : State} (hs : AtRest cs s) : AtRest cs (latchMsi src routing mask s) :=
  hs.unreported (unreported_latchMsi _ _ _ _)

theorem rest_raise (src : Nat) {s : State} (hs : AtRest cs s) : AtRest cs (raise src s) :=
  hs.unreported (unreported_raise _ _)

theorem rest_raiseIf (c : Bool) (src : Nat) {s : State} (hs : AtRest cs s) : AtRest cs (raiseIf c src s) :=
  hs.unreported (unreported_raiseIf _ _ _)

theorem rest_count (code q amount : Nat) {s : State} (hs : AtRest cs s) : AtRest cs (count code q amount s) :=
  hs.unreported (unreported_count _ _ _ _)

theorem rest_count1 (code q : Nat) {s : State} (hs : AtRest cs s) : AtRest cs (count1 code q s) :=
  hs.unreported (unreported_count1 _ _ _)

theorem rest_judgeEpisode {s : State} (hs : AtRest cs s) : AtRest cs (judgeEpisode s) :=
  hs.quiet (fr_judgeEpisode rfl (keeps_refl _ s))

theorem rest_nameLines (src : Nat) (ranges : List (Nat × Nat)) {s : State} (hs : AtRest cs s) : AtRest cs (nameLines src ranges s) :=
  hs.quiet (fr_nameLines rfl src ranges (keeps_refl _ s))

theorem rest_setRegionState (r v : Nat) {s : State} (hs : AtRest cs s) : AtRest cs (setRegionState r v s) :=
  hs.unreported (unreported_setRegionState _ _ _)

theorem rest_setMode (m : Nat) {s : State} (hs : AtRest cs s) : AtRest cs (setMode m s) := by
  unfold setMode
  simp (maxDischargeDepth := 40) only [hs, rest_mk, rest_fold, rest_ite, ite_self, rest_judgeEpisode, rest_put, rest_raise]

/-! ### Operations of `Lookup` -/

theorem rest_dropCachedBlocks (first n : Nat) {s : State} (hs : AtRest cs s) : AtRest cs (dropCachedBlocks first n s) :=
  hs.quiet (fr_dropCachedBlocks rfl first n (keeps_refl _ s))

theorem rest_dropCachedRange (first n : Nat) {s : State} (hs : AtRest cs s) : AtRest cs (dropCachedRange first n s) :=
  hs.quiet (fr_dropCachedRange rfl first n (keeps_refl _ s))

/-! ### Operations of `Units` -/

theorem rest_noteHealth {s : State} (hs : AtRest cs s) : AtRest cs (noteHealth s) := by
  unfold noteHealth
  simp only [hs, rest_mk, rest_fold, rest_ite, ite_self, rest_raise]

theorem rest_appendRecord (k : JournalKind) {s : State} (hs : AtRest cs s) : AtRest cs (appendRecord k s) :=
  hs.quiet (fr_appendRecord rfl k (keeps_refl _ s))

theorem rest_restoreUnits {s : State} (hs : AtRest cs s) : AtRest cs (restoreUnits s) :=
  hs.quiet (fr_restoreUnits rfl (keeps_refl _ s))

theorem rest_disturb (u n : Nat) {s : State} (hs : AtRest cs s) : AtRest cs (disturb u n s) :=
  hs.quiet (fr_disturb rfl u n (keeps_refl _ s))

theorem rest_addCycles (u n : Nat) {s : State} (hs : AtRest cs s) : AtRest cs (addCycles u n s) :=
  hs.quiet (fr_addCycles rfl u n (keeps_refl _ s))

theorem rest_wearOut (u : Nat) {s : State} (hs : AtRest cs s) : AtRest cs (wearOut u s) := by
  unfold wearOut
  simp (maxDischargeDepth := 40) only [hs, rest_ite, ite_self, rest_appendRecord, rest_bump, rest_noteHealth, rest_raise, rest_setUnit]

theorem rest_sectorsProgrammed (u n page : Nat) {s : State} (hs : AtRest cs s) : AtRest cs (sectorsProgrammed u n page s) := by
  unfold sectorsProgrammed
  simp (maxDischargeDepth := 40) only [hs, rest_ite, ite_self, rest_addCycles, rest_count, rest_disturb, rest_setUnit, rest_wearOut]

theorem rest_programsRun (kind : OpKind) (u n bytes : Nat) {s : State} (hs : AtRest cs s) : AtRest cs (programsRun kind u n bytes s) := by
  unfold programsRun
  simp (maxDischargeDepth := 40) only [hs, rest_ite, ite_self, rest_addTo, rest_count, rest_raiseTo]

theorem rest_ringSectorsOn (u n page : Nat) {s : State} (hs : AtRest cs s) : AtRest cs (ringSectorsOn u n page s) := by
  unfold ringSectorsOn
  simp only [hs, rest_programsRun, rest_sectorsProgrammed]

theorem rest_stripeSectors (r : Ring) (stripe row n : Nat) {s : State} (hs : AtRest cs s) : AtRest cs (stripeSectors r stripe row n s) := by
  unfold stripeSectors
  simp (maxDischargeDepth := 40) +contextual only [hs, rest_ite, ite_self, implies_true, rest_ringSectorsOn, rest_foldl]

theorem rest_ringSectors (r : Ring) (k row n : Nat) {s : State} (hs : AtRest cs s) : AtRest cs (ringSectors r k row n s) := by
  induction k generalizing row n s with
  | zero => exact hs
  | succ k ih => exact rest_cond hs (ih _ _ (rest_stripeSectors _ _ _ _ hs))

theorem rest_ringProgram (r : Ring) (row n : Nat) {s : State} (hs : AtRest cs s) : AtRest cs (ringProgram r row n s) := by
  unfold ringProgram
  simp only [hs, rest_ringSectors]

/-! ### Operations of `Journal` -/

theorem rest_dirtySegment (seg : Nat) {s : State} (hs : AtRest cs s) : AtRest cs (dirtySegment seg s) :=
  hs.quiet (fr_dirtySegment rfl seg (keeps_refl _ s))

theorem rest_dirtyPages (first n : Nat) {s : State} (hs : AtRest cs s) : AtRest cs (dirtyPages first n s) :=
  hs.quiet (fr_dirtyPages rfl first n (keeps_refl _ s))

theorem rest_putEntry (k : IntegrityKind) {s : State} (hs : AtRest cs s) : AtRest cs (putEntry k s) :=
  hs.quiet (fr_putEntry rfl k (keeps_refl _ s))

theorem rest_journalSectors (n : Nat) {s : State} (hs : AtRest cs s) : AtRest cs (journalSectors n s) := by
  unfold journalSectors
  simp only [hs, rest_mk, rest_fold, rest_ite, ite_self, rest_ringProgram]

theorem rest_coverJournal {s : State} (hs : AtRest cs s) : AtRest cs (coverJournal s) :=
  hs.quiet (fr_coverJournal rfl (keeps_refl _ s))

theorem rest_programSector {s : State} (hs : AtRest cs s) : AtRest cs (programSector s) := by
  unfold programSector
  simp only [hs, rest_mk, rest_fold, rest_journalSectors]

theorem rest_programEntries {s : State} (hs : AtRest cs s) : AtRest cs (programEntries s) := by
  unfold programEntries
  simp +contextual only [hs, rest_mk, rest_fold, rest_ite, ite_self, implies_true, rest_coverJournal, rest_programSector, rest_foldl]

theorem rest_programJournal {s : State} (hs : AtRest cs s) : AtRest cs (programJournal s) := by
  unfold programJournal
  simp only [hs, rest_mk, rest_fold, rest_journalSectors]

theorem rest_programTail {s : State} (hs : AtRest cs s) : AtRest cs (programTail s) := by
  unfold programTail
  simp (maxDischargeDepth := 40) only [hs, rest_programEntries, rest_programJournal]

theorem rest_journalPut (k : JournalKind) {s : State} (hs : AtRest cs s) : AtRest cs (journalPut k s) := by
  unfold journalPut
  simp only [hs, rest_ite, ite_self, rest_appendRecord, rest_programTail]

theorem rest_linesOnMedium (lines : List (Nat × Nat)) {s : State} (hs : AtRest cs s) : AtRest cs (linesOnMedium lines s) :=
  hs.quiet (fr_linesOnMedium rfl lines (keeps_refl _ s))

/-! ### Operations of `Requests` -/

theorem rest_grantCredits (p : Port) {s : State} (hs : AtRest cs s) : AtRest cs (grantCredits p s) := by
  unfold grantCredits
  simp +contextual only [hs, rest_ite, ite_self, implies_true, rest_modPort]

theorem rest_sendData (p : Port) (tag : Nat) (d : Line) (poison : Bool) {s : State} (hs : AtRest cs s) : AtRest cs (sendData p tag d poison
        s) := by
  unfold sendData
  simp (maxDischargeDepth := 40) +contextual only [hs, rest_ite, ite_self, implies_true, rest_count, rest_count1, rest_emit, rest_modPort]

theorem rest_placeSample (r : SampleRecord) {s : State} (hs : AtRest cs s) : AtRest cs (placeSample r s) := by
  have obs (t : State) (o : Observe) (ht : AtRest cs t) : AtRest cs { t with obs := o } := ht
  have h := rest_bump 0xB03004 hs
  unfold placeSample
  simp only
  generalize s.bump 0xB03004 = a at h ⊢
  have hlost (o : Observe) (p : Prop) [Decidable p] :
      AtRest cs (if p then raise 124 (State.bump { a with obs := o } 0xB04003) else { a with obs := o }) :=
    rest_cond (rest_raise _ (rest_bump _ (obs _ _ h))) (obs _ _ h)
  exact rest_cond (rest_raise _ (obs _ _ (hlost _ _))) (hlost _ _)

theorem rest_sampleWindow (p : Port) (opcode line : Nat) (sampled : Bool) {s : State} (hs : AtRest cs s) : AtRest cs (sampleWindow p opcode
        line sampled s) := by
  unfold sampleWindow
  simp only [hs, rest_ite, ite_self, rest_placeSample, rest_takeStamp]

theorem rest_answerBarrier (p : Port) (b : BarrierRead) {s : State} (hs : AtRest cs s) : AtRest cs (answerBarrier p b s) := by
  unfold answerBarrier
  simp (maxDischargeDepth := 40) only [hs, rest_raiseTo, rest_sampleWindow, rest_sendData]

theorem rest_releaseBarriers (p : Port) (tag : Nat) {s : State} (hs : AtRest cs s) : AtRest cs (releaseBarriers p tag s) := by
  unfold releaseBarriers
  simp +contextual only [hs, implies_true, rest_answerBarrier, rest_modPort, rest_foldl]

theorem rest_sendCmp (p : Port) (tag : Nat) {s : State} (hs : AtRest cs s) : AtRest cs (sendCmp p tag s) := by
  unfold sendCmp
  simp only [hs, rest_ite, ite_self, rest_emit, rest_releaseBarriers]

theorem rest_sendCmps (l : List (Port × Nat)) {s : State} (hs : AtRest cs s) : AtRest cs (sendCmps l s) := by
  unfold sendCmps
  simp +contextual only [hs, implies_true, rest_sendCmp, rest_foldl]

theorem rest_raiseTimes (n src : Nat) {s : State} (hs : AtRest cs s) : AtRest cs (raiseTimes n src s) := by
  induction n generalizing s with
  | zero => exact hs
  | succ n ih => exact ih (rest_raise _ hs)

theorem rest_dropStores (p : Port) (bit n : Nat) {s : State} (hs : AtRest cs s) : AtRest cs (dropStores p bit n s) := by
  unfold dropStores
  simp (maxDischargeDepth := 40) +contextual only [hs, rest_ite, ite_self, implies_true, rest_addTo, rest_modPort, rest_raiseTimes]

/-! ### Operations of `DiscardOps` -/

theorem rest_discardRange (p : Port) (entry first n : Nat) {s : State} (hs : AtRest cs s) : AtRest cs (discardRange p entry first n s) := by
  unfold discardRange
  simp (maxDischargeDepth := 40) only [hs, rest_mk, rest_fold, rest_dirtyPages, rest_dropCachedRange, rest_journalPut, rest_rearmStall,
    rest_sendCmps]

theorem rest_unmap (entry : Nat) {s : State} (hs : AtRest cs s) : AtRest cs (unmap entry s) :=
  hs.quiet (fr_unmap rfl entry (keeps_refl _ s))

theorem rest_finishDiscard (p : Port) (entry : Nat) {s : State} (hs : AtRest cs s) : AtRest cs (finishDiscard p entry s) := by
  unfold finishDiscard
  simp +contextual only [hs, implies_true, rest_discardRange, rest_modPort]

theorem rest_runDiscard (p : Port) {s : State} (hs : AtRest cs s) : AtRest cs (runDiscard p s) := by
  have h : AtRest cs (if s.freeDiscardEntry.isNone then unmap 0 s else s) := rest_cond (rest_unmap 0 hs) hs
  unfold runDiscard
  refine rest_cond ?_ hs
  simp only
  split
  · exact rest_finishDiscard _ _ h
  · exact h

theorem rest_finishDiscards {s : State} (hs : AtRest cs s) : AtRest cs (finishDiscards s) := by
  unfold finishDiscards
  simp only [hs, rest_runDiscard]

/-! ### Operations of `GroupOps` -/

theorem rest_discardProvisional (g : Nat) {s : State} (hs : AtRest cs s) : AtRest cs (discardProvisional g s) := by
  unfold discardProvisional
  simp only [hs, rest_mk, rest_fold, rest_rearmStall, rest_sendCmps]

theorem rest_checkPool {s : State} (hs : AtRest cs s) : AtRest cs (checkPool s) := by
  unfold checkPool
  simp only [hs, rest_mk, rest_fold, rest_ite, ite_self, rest_raise]

theorem rest_forceAbortNow (g cause : Nat) {s : State} (hs : AtRest cs s) : AtRest cs (forceAbortNow g cause s) := by
  unfold forceAbortNow
  simp (maxDischargeDepth := 40) only [hs, rest_bump, rest_checkPool, rest_discardProvisional, rest_dropStores, rest_journalPut,
    rest_raise, rest_setGroup]

theorem rest_forceAbort (g cause : Nat) (detail : Nat) {s : State} (hs : AtRest cs s) : AtRest cs (forceAbort g cause detail s) := by
  unfold forceAbort
  refine rest_cond hs ?_
  split
  · exact rest_forceAbortNow _ _ hs
  · exact rest_cond (rest_setGroup _ _ (rest_forceAbortNow _ _ hs)) (rest_setGroup _ _ hs)

theorem rest_commitLines (g stamp : Nat) {s : State} (hs : AtRest cs s) : AtRest cs (commitLines g stamp s) :=
  hs.quiet (fr_commitLines rfl g stamp (keeps_refl _ s))

theorem rest_decideCommit (g : Nat) {s : State} (hs : AtRest cs s) : AtRest cs (decideCommit g s) := by
  unfold decideCommit
  simp only
  split
  · exact hs
  · split
    · exact rest_raise _ (rest_count1 _ _ (rest_bump _ (rest_checkPool (rest_setGroup _ _ (rest_discardProvisional _ (rest_journalPut _ hs))))))
    · exact rest_sendCmps _ (rest_count1 _ _ (rest_bump _ (rest_checkPool (rest_setGroup _ _ (rest_journalPut _ (rest_commitLines _ _ hs))))))

theorem rest_applyCommand (g : Nat) (c : GroupCommand) {s : State} (hs : AtRest cs s) : AtRest cs (applyCommand g c s) := by
  unfold applyCommand
  simp (maxDischargeDepth := 40) only [hs, rest_ite, ite_self, rest_bump, rest_checkPool, rest_discardProvisional, rest_journalPut,
    rest_programTail, rest_setGroup]

theorem rest_wakeDiscard (p : Port) {s : State} (hs : AtRest cs s) : AtRest cs (wakeDiscard p s) := by
  unfold wakeDiscard
  simp +contextual only [hs, rest_ite, ite_self, implies_true, rest_modPort]

theorem rest_answerReaders (g : Nat) {s : State} (hs : AtRest cs s) : AtRest cs (answerReaders g s) := by
  unfold answerReaders
  simp (maxDischargeDepth := 40) +contextual only [hs, implies_true, rest_sampleWindow, rest_sendData, rest_setGroup, rest_foldl]

theorem rest_writeResult (g : Nat) (c : GroupCommand) {s : State} (hs : AtRest cs s) : AtRest cs (writeResult g c s) := by
  have h (v : Group) (n : Nat) (p : Prop) [Decidable p] : AtRest cs (if p then (s.setGroup g v).raiseTo 0x502009 n else s.setGroup g v) :=
    rest_cond (rest_raiseTo _ _ (rest_setGroup _ _ hs)) (rest_setGroup _ _ hs)
  unfold writeResult
  simp only
  split
  · exact h _ _ _
  · exact rest_cond (rest_forceAbortNow _ _ (h _ _ _)) (rest_setGroup _ _ (h _ _ _))

theorem rest_startNext (g : Nat) {s : State} (hs : AtRest cs s) : AtRest cs (startNext g s) :=
  hs.quiet (fr_startNext rfl g (keeps_refl _ s))

theorem rest_finishCommand (g : Nat) {s : State} (hs : AtRest cs s) : AtRest cs (finishCommand g s) := by
  unfold finishCommand
  split <;> simp (maxDischargeDepth := 40) only [hs, rest_ite, ite_self, rest_answerReaders, rest_applyCommand, rest_startNext,
    rest_wakeDiscard, rest_writeResult]

theorem rest_settleGroup (n g : Nat) {s : State} (hs : AtRest cs s) : AtRest cs (settleGroup n g s) := by
  induction n generalizing s with
  | zero => exact hs
  | succ n ih =>
    unfold settleGroup
    simp only
    have h1 : AtRest cs (if s.commitReady g = true then decideCommit g s else s) := by
      split
      · exact rest_decideCommit _ hs
      · exact hs
    generalize (if s.commitReady g = true then decideCommit g s else s) = a at h1 ⊢
    have h2 : AtRest cs (if a.canFinish g = true then a else finishDiscards a) := by
      split
      · exact h1
      · exact rest_finishDiscards h1
    generalize (if a.canFinish g = true then a else finishDiscards a) = b at h2 ⊢
    split
    · exact ih (rest_finishCommand _ h2)
    · exact h2

theorem rest_settle (g : Nat) {s : State} (hs : AtRest cs s) : AtRest cs (settle g s) := by
  unfold settle
  simp only [hs, rest_settleGroup]

/-! ### Operations of `Rebuild` -/

theorem rest_rebuildSegment (seg : Nat) {s : State} (hs : AtRest cs s) : AtRest cs (rebuildSegment seg s) :=
  hs.quiet (fr_rebuildSegment rfl seg (keeps_refl _ s))

theorem rest_startRebuild (seg : Nat) {s : State} (hs : AtRest cs s) : AtRest cs (startRebuild seg s) :=
  hs.quiet (fr_startRebuild rfl seg (keeps_refl _ s))

/-! ### Operations of `Responses` -/

theorem rest_sectorsMoved (ch n : Nat) {s : State} (hs : AtRest cs s) : AtRest cs (sectorsMoved ch n s) := by
  unfold sectorsMoved
  simp (maxDischargeDepth := 40) only [hs, rest_addTo, rest_count]

theorem rest_sectorMoved (ch : Nat) {s : State} (hs : AtRest cs s) : AtRest cs (sectorMoved ch s) := by
  unfold sectorMoved
  simp only [hs, rest_sectorsMoved]

theorem rest_reconstructions (unit n : Nat) {s : State} (hs : AtRest cs s) : AtRest cs (reconstructions unit n s) := by
  unfold reconstructions
  simp +contextual only [hs, implies_true, rest_sectorsMoved, rest_foldl]

theorem rest_agentReads (cls unit n : Nat) {s : State} (hs : AtRest cs s) : AtRest cs (agentReads cls unit n s) := by
  unfold agentReads
  simp only [hs, rest_ite, ite_self, rest_reconstructions, rest_sectorsMoved]

theorem rest_integritySector (obj : IntegrityObject) {s : State} (hs : AtRest cs s) : AtRest cs (integritySector obj s) := by
  unfold integritySector
  split <;> simp only [hs, rest_sectorMoved]

theorem rest_fetchLine (obj : IntegrityObject) {s : State} (hs : AtRest cs s) : AtRest cs (fetchLine obj s) := by
  unfold fetchLine
  simp (maxDischargeDepth := 40) +contextual only [hs, rest_ite, ite_self, implies_true, rest_bump, rest_cacheLine, rest_integritySector,
    rest_foldl]

theorem rest_modRead (id : Nat) (f : Read → Read) {s : State} (hs : AtRest cs s) : AtRest cs (modRead id f s) :=
  hs.quiet (fr_modRead rfl id f (keeps_refl _ s))

theorem rest_addRead (r : Read) {s : State} (hs : AtRest cs s) : AtRest cs (addRead r s) :=
  hs.quiet (fr_addRead rfl r (keeps_refl _ s))

theorem rest_dropRead (id : Nat) {s : State} (hs : AtRest cs s) : AtRest cs (dropRead id s) :=
  hs.quiet (fr_dropRead rfl id (keeps_refl _ s))

theorem rest_promptDone (r : Read) {s : State} (hs : AtRest cs s) : AtRest cs (promptDone r s) := by
  unfold promptDone
  simp (maxDischargeDepth := 40) only [hs, rest_ite, ite_self, rest_bump, rest_raise, rest_raiseTo]

theorem rest_sampleRead (p : Port) (opcode line acceptedAt outcome unit steps cls flags : Nat) (poison : Bool) {s : State} (hs : AtRest cs
        s) : AtRest cs (sampleRead p opcode line acceptedAt outcome unit steps cls flags poison s) := by
  unfold sampleRead
  simp only [hs, rest_placeSample, rest_takeStamp]

theorem rest_answerRead (r : Read) (v : Version) {s : State} (hs : AtRest cs s) : AtRest cs (answerRead r v s) := by
  unfold answerRead
  split <;> simp (maxDischargeDepth := 40) only [hs, rest_ite, ite_self, rest_dropRead, rest_promptDone, rest_sampleRead, rest_sendData]

theorem rest_answerMerges (p : Port) (line : Nat) {s : State} (hs : AtRest cs s) : AtRest cs (answerMerges p line s) := by
  unfold answerMerges
  simp +contextual only [hs, rest_ite, ite_self, implies_true, rest_answerRead, rest_foldl]

/-! ### Operations of `WearOps` -/

theorem rest_recordUnit (u : Nat) {s : State} (hs : AtRest cs s) : AtRest cs (recordUnit u s) := by
  unfold recordUnit
  simp only [hs, rest_journalPut]

theorem rest_setUnitState (u state : Nat) {s : State} (hs : AtRest cs s) : AtRest cs (setUnitState u state s) := by
  unfold setUnitState
  simp (maxDischargeDepth := 40) only [hs, rest_ite, ite_self, rest_bump, rest_raise, rest_recordUnit, rest_setUnit]

theorem rest_sectorProgrammed (u page : Nat) {s : State} (hs : AtRest cs s) : AtRest cs (sectorProgrammed u page s) := by
  unfold sectorProgrammed
  simp only [hs, rest_ite, ite_self, rest_programTail, rest_sectorsProgrammed]

theorem rest_unitReset (u mode : Nat) {s : State} (hs : AtRest cs s) : AtRest cs (unitReset u mode s) := by
  unfold unitReset
  simp (maxDischargeDepth := 40) only [hs, rest_ite, ite_self, rest_addCycles, rest_count1, rest_disturb, rest_recordUnit, rest_setUnit]

theorem rest_orderReset (stripe mode before : Nat) {s : State} (hs : AtRest cs s) : AtRest cs (orderReset stripe mode before s) :=
  hs.quiet (fr_orderReset rfl stripe mode before (keeps_refl _ s))

theorem rest_notePool {s : State} (hs : AtRest cs s) : AtRest cs (notePool s) := by
  unfold notePool
  simp only [hs, rest_mk, rest_fold, rest_ite, ite_self, rest_raise]

/-! ### Operations of `LogOps` -/

theorem rest_reEncrypt (line : Nat) {s : State} (hs : AtRest cs s) : AtRest cs (reEncrypt line s) := by
  unfold reEncrypt
  simp (maxDischargeDepth := 40) +contextual only [hs, rest_mk, rest_fold, implies_true, rest_agentReads, rest_bump, rest_putEntry,
    rest_raise, rest_touchBlock, rest_foldl]

theorem rest_takeSeal (line : Nat) (grp : Option Nat) (stamp : Nat) (preset : Option Seal) {s : State} (hs : AtRest cs s) : AtRest cs
        (takeSeal line grp stamp preset s).2 := by
  unfold takeSeal
  split
  · exact rest_touchIntegrity _ (rest_fetchLine _ hs)
  · split
    · exact hs
    · have h := rest_fetchLine (.tagLine (line / 8)) (rest_fetchLine (.counterBlock (pageOfLine line)) hs)
      refine rest_touchIntegrity _ (rest_touchBlock _ ?_)
      split
      · exact rest_reEncrypt _ h
      · simpa only [rest_mk, rest_fold] using h

theorem rest_sealInto (place line : Nat) (grp tag : Option Nat) (data : Line) (poison : Bool) (stamp : Nat) (preset : Option Seal) {s :
        State} (hs : AtRest cs s) : AtRest cs (sealInto place line grp tag data poison stamp preset s).2 := by
  have h := rest_takeSeal line tag stamp preset hs
  unfold sealInto
  simp only
  generalize (takeSeal line tag stamp preset s).2 = a at h ⊢
  split
  · exact rest_touchIntegrity _ (rest_fetchLine _ h)
  · exact h

theorem rest_checkLogFull {s : State} (hs : AtRest cs s) : AtRest cs (checkLogFull s) := by
  unfold checkLogFull
  split <;> simp only [hs, rest_mk, rest_fold, rest_ite, ite_self, rest_bump, rest_raise, rest_raiseTo]

theorem rest_rowStarted (mark : Nat) (x : List ProgramStart) {s : State} (hs : AtRest cs s) : AtRest cs (rowStarted mark x s) :=
  hs.quiet (fr_rowStarted rfl mark x (keeps_refl _ s))

theorem rest_moveStamp (m : LogMove) {s : State} (hs : AtRest cs s) : AtRest cs (moveStamp m s).2 :=
  hs.quiet (fr_moveStamp rfl m (keeps_refl _ s))

theorem rest_placeMoves (mark q : Nat) (l : List LogMove) (acc : List LogLine) {s : State} (hs : AtRest cs s) : AtRest cs (placeMoves mark
        q l acc s).2 := by
  induction l generalizing q acc s with
  | nil => exact hs
  | cons m l ih =>
    exact ih _ _ (rest_sealInto (mark * 45 + q) m.line m.grp m.groupTag m.data m.poison (moveStamp m s).1 m.preset (rest_moveStamp m hs))

theorem rest_placeStaged (mark q : Nat) (l : List Staged) (acc : List LogLine) {s : State} (hs : AtRest cs s) : AtRest cs (placeStaged mark
        q l acc s).2 := by
  induction l generalizing q acc s with
  | nil => exact hs
  | cons x l ih => exact ih _ _ (rest_sealInto (mark * 45 + q) x.line x.grp x.tag x.data x.poison (if x.tag.isSome then x.orig else x.stamp) none hs)

theorem rest_dispatchRow {s : State} (hs : AtRest cs s) : AtRest cs (dispatchRow s) := by
  unfold dispatchRow
  simp (maxDischargeDepth := 40) only [hs, rest_mk, rest_fold, rest_checkLogFull, rest_placeMoves, rest_placeStaged]

theorem rest_landMove (l : LogLine) (source : Option Nat) {s : State} (hs : AtRest cs s) : AtRest cs (landMove l source s) :=
  hs.quiet (fr_landMove rfl l source (keeps_refl _ s))

theorem rest_landStaged (mark : Nat) (l : LogLine) {s : State} (hs : AtRest cs s) : AtRest cs (landStaged mark l s) :=
  hs.quiet (fr_landStaged rfl mark l (keeps_refl _ s))

theorem rest_completeRow (r : LogRow) {s : State} (hs : AtRest cs s) : AtRest cs (completeRow r s) := by
  unfold completeRow
  refine rest_sendCmps _ (rest_checkLogFull (rest_count1 _ _ ?_))
  simp only
  have h : ∀ t : State, AtRest cs t → AtRest cs (linesOnMedium ((r.lines.filter fun l => l.moved.isNone).map (·.line))
      (r.lines.foldl (fun t l => match l.moved with
        | some source => landMove l source t
        | none => landStaged r.mark l t) (r.lines.foldl (fun t l => putEntry l.entry t) t))) := fun t ht =>
    rest_linesOnMedium _ (rest_foldl (fun t l ht => by
      split
      · exact rest_landMove _ _ ht
      · exact rest_landStaged _ _ ht) _ (rest_foldl (fun t l ht => rest_putEntry _ ht) _ ht))
  have h' := h { s with med := { s.med with rows := s.med.rows.map fun x => if x.mark == r.mark then { x with complete := true } else x } } hs
  split
  · exact rest_programTail h'
  · split
    · exact rest_programEntries h'
    · exact h'

theorem rest_startJobs (jobs : List Job) {s : State} (hs : AtRest cs s) : AtRest cs (startJobs jobs s).2 :=
  hs.quiet (fr_startJobs rfl jobs (keeps_refl _ s))

theorem rest_landRow (r : LogRow) {s : State} (hs : AtRest cs s) : AtRest cs (landRow r s) := by
  unfold landRow
  exact rest_completeRow _ (rest_foldl (fun t u ht => rest_sectorProgrammed _ _ ht) _
    (rest_foldl (fun t j ht => rest_programsRun _ _ _ _ ht) _ (rest_rowStarted _ _ (rest_startJobs _ (rest_endOverruns hs)))))

theorem rest_flushLog (n : Nat) {s : State} (hs : AtRest cs s) : AtRest cs (flushLog n s) := by
  induction n generalizing s with
  | zero => exact hs
  | succ n ih =>
    unfold flushLog
    split
    · exact ih (rest_landRow _ hs)
    · simp only
      split
      · exact ih (rest_dispatchRow hs)
      · exact hs

theorem rest_programAll {s : State} (hs : AtRest cs s) : AtRest cs (programAll s) := by
  unfold programAll
  simp only [hs, rest_flushLog, rest_programTail]

/-! ### Operations of `Replies` -/

theorem rest_noteChange (key kind path privilege session counter length : Nat) (old new : List Byte) {s : State} (hs : AtRest cs s) :
        AtRest cs (noteChange key kind path privilege session counter length old new s) := by
  have h (l : List ChangeRecord) : AtRest cs (takeStamp { s with mgmt := { s.mgmt with changes := l } }) := rest_takeStamp hs
  unfold noteChange
  exact rest_raiseIf _ _ (rest_raise _ (rest_bump _ (h _)))

theorem rest_noteOwnChange (key kind : Nat) (old : List Byte) {s : State} (hs : AtRest cs s) : AtRest cs (noteOwnChange key kind old s) :=
        by
  unfold noteOwnChange
  simp only [hs, rest_noteChange]

theorem rest_endAllSessions {s : State} (hs : AtRest cs s) : AtRest cs (endAllSessions s) :=
  hs.quiet (fr_endAllSessions rfl (keeps_refl _ s))

theorem rest_endPortSessions (p : Port) {s : State} (hs : AtRest cs s) : AtRest cs (endPortSessions p s) :=
  hs.quiet (fr_endPortSessions rfl p (keeps_refl _ s))

theorem rest_putSession (x : Session) {s : State} (hs : AtRest cs s) : AtRest cs (putSession x s) :=
  hs.quiet (fr_putSession rfl x (keeps_refl _ s))

theorem rest_deliver (req : Req) (o : Out) {s : State} (hs : AtRest cs s) : AtRest cs (deliver req o s) :=
  hs.quiet (fr_deliver rfl req o (keeps_refl _ s))

theorem rest_endWith (req : Req) (idx sub : Nat) (ask : DictAsk) (status : Nat) {s : State} (hs : AtRest cs s) : AtRest cs (endWith req idx
        sub ask status s) :=
  hs.quiet (fr_endWith rfl req idx sub ask status (keeps_refl _ s))

theorem rest_overtakeDeferred {s : State} (hs : AtRest cs s) : AtRest cs (overtakeDeferred s) :=
  hs.quiet (fr_overtakeDeferred rfl (keeps_refl _ s))

theorem rest_setAction (key status : Nat) {s : State} (hs : AtRest cs s) : AtRest cs (setAction key status s) :=
  hs.quiet (fr_setAction rfl key status (keeps_refl _ s))

theorem rest_endAction (key status : Nat) {s : State} (hs : AtRest cs s) : AtRest cs (endAction key status s) :=
  hs.quiet (fr_endAction rfl key status (keeps_refl _ s))

/-! ### Operations of `MediaOps` -/

theorem rest_dropPrefetches (d : Nat) {s : State} (hs : AtRest cs s) : AtRest cs (dropPrefetches d s) := by
  unfold dropPrefetches
  simp (maxDischargeDepth := 40) +contextual only [hs, rest_ite, ite_self, implies_true, rest_bump, rest_dropRead, rest_foldl]

theorem rest_noteReconstruction (r : Read) {s : State} (hs : AtRest cs s) : AtRest cs (noteReconstruction r s) := by
  unfold noteReconstruction
  split <;> simp only [hs, rest_bump, rest_count1]

theorem rest_placeRead (r : Read) {s : State} (hs : AtRest cs s) : AtRest cs (placeRead r s) := by
  unfold placeRead
  simp only [hs, rest_ite, ite_self, rest_addRead, rest_dropPrefetches, rest_noteReconstruction]

theorem rest_tagRead (r : Read) {s : State} (hs : AtRest cs s) : AtRest cs (tagRead r s) := by
  unfold tagRead
  refine rest_cond hs ?_
  split
  · exact hs
  · exact rest_placeRead _ hs

theorem rest_dispatchRead (p : Port) (r : Read) {s : State} (hs : AtRest cs s) : AtRest cs (dispatchRead p r s) := by
  unfold dispatchRead
  split <;> simp (maxDischargeDepth := 40) +contextual only [hs, rest_ite, ite_self, implies_true, rest_bump, rest_count1, rest_dropRead,
    rest_placeRead, rest_tagRead, rest_foldl]

/-! ### Operations of `Derived` -/

theorem rest_readMedium (p : Port) (r : Read) {s : State} (hs : AtRest cs s) : AtRest cs (readMedium p r s) := by
  unfold readMedium
  split <;> simp only [hs, rest_ite, ite_self, rest_addRead, rest_answerRead, rest_dispatchRead, rest_startRebuild]

/-! ### Operations of `MediaOps` -/

theorem rest_releaseReads (ready : Nat → Bool) {s : State} (hs : AtRest cs s) : AtRest cs (releaseReads ready s) := by
  refine rest_foldl (fun t r ht => ?_) _ hs
  simp only
  have h := rest_raiseTo 0x404106 (t.clock - r.acceptedAt) (rest_dropRead r.id ht)
  split
  · exact rest_readMedium _ _ h
  · exact rest_readMedium _ _ h
  · exact h

theorem rest_nextRebuild {s : State} (hs : AtRest cs s) : AtRest cs (nextRebuild s) :=
  hs.quiet (fr_nextRebuild rfl (keeps_refl _ s))

theorem rest_readCheckpoint (seg : Nat) {s : State} (hs : AtRest cs s) : AtRest cs (readCheckpoint seg s) := by
  unfold readCheckpoint
  split <;> simp only [hs, rest_agentReads]

theorem rest_finishRebuild (seg : Nat) {s : State} (hs : AtRest cs s) : AtRest cs (finishRebuild seg s) := by
  unfold finishRebuild
  simp (maxDischargeDepth := 40) only [hs, rest_nextRebuild, rest_readCheckpoint, rest_rebuildSegment, rest_releaseReads]

theorem rest_demandNow (seg : Nat) {s : State} (hs : AtRest cs s) : AtRest cs (demandNow seg s) := by
  unfold demandNow
  simp only [hs, rest_ite, ite_self, rest_bump, rest_finishRebuild]

/-! ### Operations of `Stores` -/

theorem rest_stageLine (line : Nat) (grp tag : Option Nat) (d : Line) (poison : Bool) (stamp wmode : Nat) (cmpTo : List (Port × Nat)) {s :
        State} (hs : AtRest cs s) : AtRest cs (stageLine line grp tag d poison stamp wmode cmpTo s) :=
  hs.quiet (fr_stageLine rfl line grp tag d poison stamp wmode cmpTo (keeps_refl _ s))

theorem rest_storeCommitted (line : Nat) (d : Line) (poison : Bool) (stamp wmode : Nat) (cmpTo : List (Port × Nat)) {s : State} (hs :
        AtRest cs s) : AtRest cs (storeCommitted line d poison stamp wmode cmpTo s) :=
  hs.quiet (fr_storeCommitted rfl line d poison stamp wmode cmpTo (keeps_refl _ s))

theorem rest_storeProvisional (g line : Nat) (d : Line) (poison : Bool) (stamp wmode : Nat) (cmpTo : List (Port × Nat)) {s : State} (hs :
        AtRest cs s) : AtRest cs (storeProvisional g line d poison stamp wmode cmpTo s) := by
  unfold storeProvisional
  exact rest_checkPool (rest_dirtySegment _ (rest_stageLine _ _ _ _ _ _ _ _ (rest_cond (rest_setGroup _ _ hs) hs)))

theorem rest_markConflict (g page : Nat) {s : State} (hs : AtRest cs s) : AtRest cs (markConflict g page s) :=
  hs.quiet (fr_markConflict rfl g page (keeps_refl _ s))

theorem rest_sampleStore (p : Port) (x : Store) (stamp : Nat) {s : State} (hs : AtRest cs s) : AtRest cs (sampleStore p x stamp s) := by
  unfold sampleStore
  simp only [hs, rest_ite, ite_self, rest_placeSample]

theorem rest_cmpStore (p : Port) (x : Store) {s : State} (hs : AtRest cs s) : AtRest cs (cmpStore p x s) := by
  unfold cmpStore
  simp only [hs, rest_ite, ite_self, rest_sendCmp]

theorem rest_visibleStore (p : Port) (x : Store) (d : Line) (poison : Bool) {s : State} (hs : AtRest cs s) : AtRest cs (visibleStore p x d
        poison s) := by
  unfold visibleStore
  repeat' split
  all_goals simp (maxDischargeDepth := 40) only [hs, rest_cmpStore, rest_dropStores, rest_forceAbort, rest_markConflict, rest_sampleStore,
    rest_storeCommitted, rest_storeProvisional, rest_takeStamp]

theorem rest_unqueue (p : Port) (x : Store) {s : State} (hs : AtRest cs s) : AtRest cs (unqueue p x s) := by
  unfold unqueue
  simp +contextual only [hs, implies_true, rest_grantCredits, rest_modPort]

theorem rest_endMerge (p : Port) (x : Store) {s : State} (hs : AtRest cs s) : AtRest cs (endMerge p x s) :=
  hs.quiet (fr_endMerge rfl p x (keeps_refl _ s))

theorem rest_transfer (p : Port) (x : Store) {s : State} (hs : AtRest cs s) : AtRest cs (transfer p x s) := by
  unfold transfer
  simp (maxDischargeDepth := 40) only [hs, rest_ite, ite_self, rest_answerMerges, rest_bump, rest_cmpStore, rest_endMerge, rest_raise,
    rest_unqueue, rest_visibleStore]

theorem rest_settleHolds (p : Port) {s : State} (hs : AtRest cs s) : AtRest cs (settleHolds p s) := by
  refine rest_foldl (fun t x ht => ?_) _ hs
  split
  · exact ht
  · exact rest_settle _ ht

theorem rest_drainLoop (n : Nat) (p : Port) (bound : Nat) {s : State} (hs : AtRest cs s) : AtRest cs (drainLoop n p bound s) := by
  induction n generalizing s with
  | zero => exact hs
  | succ n ih =>
    unfold drainLoop
    split
    · exact hs
    · exact ih (rest_transfer _ _ (rest_cond hs (rest_demandNow _ hs)))

theorem rest_drainTo (p : Port) (bound : Nat) {s : State} (hs : AtRest cs s) : AtRest cs (drainTo p bound s) := by
  unfold drainTo
  simp (maxDischargeDepth := 40) +contextual only [hs, implies_true, rest_drainLoop, rest_modPort, rest_settleHolds]

theorem rest_drainPort (p : Port) {s : State} (hs : AtRest cs s) : AtRest cs (drainPort p s) := by
  unfold drainPort
  simp only [hs, rest_drainTo]

/-! ### Operations of `WindowOps` -/

theorem rest_loseAll (p : Port) (cause : LossCause) {s : State} (hs : AtRest cs s) : AtRest cs (loseAll p cause s) :=
  hs.quiet (fr_loseAll rfl p cause (keeps_refl _ s))

/-- With no window access waiting, none takes effect. -/
theorem rest_serveWaits (n : Nat) (p : Port) {s : State} (hs : AtRest cs s) : AtRest cs (serveWaits n p s) := by
  cases n with
  | zero => exact hs
  | succ n =>
    unfold serveWaits
    simp only [hs.waits]
    exact hs

theorem rest_serveFlushes (p : Port) {s : State} (hs : AtRest cs s) : AtRest cs (serveFlushes p s) := by
  unfold serveFlushes
  simp (maxDischargeDepth := 40) +contextual only [hs, implies_true, rest_emit, rest_modPort, rest_raiseIf, rest_foldl]

theorem rest_resumePort (p : Port) {s : State} (hs : AtRest cs s) : AtRest cs (resumePort p s) := by
  unfold resumePort
  simp (maxDischargeDepth := 40) only [hs, rest_ite, ite_self, rest_drainTo, rest_serveFlushes, rest_serveWaits]

theorem rest_triggerDrain (p : Port) {s : State} (hs : AtRest cs s) : AtRest cs (triggerDrain p s) := by
  unfold triggerDrain
  simp only [hs, rest_drainPort, rest_resumePort]

/-! ### Operations of `HaltOps` -/

theorem rest_raiseReady (p : Port) {s : State} (hs : AtRest cs s) : AtRest cs (raiseReady p s) := by
  unfold raiseReady
  simp (maxDischargeDepth := 40) +contextual only [hs, rest_ite, ite_self, implies_true, rest_modPort, rest_put, rest_raise]

theorem rest_dropReady (p : Port) {s : State} (hs : AtRest cs s) : AtRest cs (dropReady p s) := by
  unfold dropReady
  simp (maxDischargeDepth := 40) +contextual only [hs, rest_ite, ite_self, implies_true, rest_modPort, rest_put]

theorem rest_forgetRequests (p : Port) {s : State} (hs : AtRest cs s) : AtRest cs (forgetRequests p s) := by
  unfold forgetRequests
  simp (maxDischargeDepth := 40) +contextual only [hs, rest_mk, rest_fold, implies_true, rest_dropRead, rest_modPort, rest_setGroup,
    rest_foldl, List.filter_nil, List.map_nil]

theorem rest_dropLink (p : Port) {s : State} (hs : AtRest cs s) : AtRest cs (dropLink p s) := by
  unfold dropLink
  simp (maxDischargeDepth := 40) +contextual only [hs, implies_true, rest_endPortSessions, rest_forgetRequests, rest_modPort, rest_put,
    rest_raiseIf]

theorem rest_closeDrained (p : Port) {s : State} (hs : AtRest cs s) : AtRest cs (closeDrained p s) := by
  unfold closeDrained
  simp only [hs, rest_ite, ite_self, rest_dropLink]

theorem rest_portException (p : Port) (cause : Nat) {s : State} (hs : AtRest cs s) : AtRest cs (portException p cause s) := by
  unfold portException
  simp (maxDischargeDepth := 40) only [hs, rest_bump, rest_loseAll, rest_put, rest_raise, rest_triggerDrain]

theorem rest_bothExceptions (cause : Nat) {s : State} (hs : AtRest cs s) : AtRest cs (bothExceptions cause s) := by
  unfold bothExceptions
  simp only [hs, rest_ite, ite_self, rest_portException]

theorem rest_haltChannel (k cause dpa direction : Nat) {s : State} (hs : AtRest cs s) : AtRest cs (haltChannel k cause dpa direction s) :=
        by
  unfold haltChannel
  simp (maxDischargeDepth := 40) only [hs, rest_bump, rest_raise, rest_setChannel]

theorem rest_haltDma (failed : Option Nat) {s : State} (hs : AtRest cs s) : AtRest cs (haltDma failed s) := by
  unfold haltDma
  simp (maxDischargeDepth := 40) +contextual only [hs, rest_ite, ite_self, implies_true, rest_drawn, rest_haltChannel, rest_foldl]

theorem rest_recordFailure (obj : FailedObject) {s : State} (hs : AtRest cs s) : AtRest cs (recordFailure obj s) := by
  unfold recordFailure
  simp (maxDischargeDepth := 40) only [hs, rest_mk, rest_fold, rest_bump, rest_put, rest_raise, rest_takeStamp]

theorem rest_silence {s : State} (hs : AtRest cs s) : AtRest cs (silence s) := by
  unfold silence
  simp +contextual only [hs, implies_true, rest_modPort]

theorem rest_setAsideNamed {s : State} (hs : AtRest cs s) : AtRest cs (setAsideNamed s) := by
  unfold setAsideNamed
  simp +contextual only [hs, rest_mk, rest_fold, implies_true, rest_modPort]

theorem rest_settleAll {s : State} (hs : AtRest cs s) : AtRest cs (settleAll s) := by
  unfold settleAll
  simp +contextual only [hs, implies_true, rest_settle, rest_foldl]

theorem rest_finishLoop (n : Nat) {s : State} (hs : AtRest cs s) : AtRest cs (finishLoop n s) := by
  induction n generalizing s with
  | zero => exact hs
  | succ n ih => exact rest_cond (ih (rest_triggerDrain _ (rest_triggerDrain _ (rest_settleAll (rest_programAll hs))))) hs

theorem rest_finishAccepted {s : State} (hs : AtRest cs s) : AtRest cs (finishAccepted s) := by
  unfold finishAccepted
  simp only [hs, rest_finishLoop]

theorem rest_stopDozeEntry {s : State} (hs : AtRest cs s) : AtRest cs (stopDozeEntry s) := by
  unfold stopDozeEntry
  split <;> simp (maxDischargeDepth := 40) +contextual only [hs, rest_mk, rest_fold, implies_true, rest_endAction, rest_modPort]

theorem rest_haltNow (failed : Option Nat) {s : State} (hs : AtRest cs s) : AtRest cs (haltNow failed s) := by
  unfold haltNow
  simp (maxDischargeDepth := 40) only [hs, rest_mk, rest_fold, rest_bothExceptions, rest_dropReady, rest_finishAccepted,
    rest_forgetRequests, rest_haltDma, rest_put, rest_setAsideNamed, rest_setMode, rest_settleAll, rest_silence, rest_stopDozeEntry]

theorem rest_failCheck (obj : FailedObject) {s : State} (hs : AtRest cs s) : AtRest cs (failCheck obj s) := by
  unfold failCheck
  simp only [hs, rest_ite, ite_self, rest_haltNow, rest_recordFailure, rest_setAsideNamed]

/-! ### Operations of `StoredOps` -/

theorem rest_saveErrors {s : State} (hs : AtRest cs s) : AtRest cs (saveErrors s) :=
  hs.quiet (fr_saveErrors rfl (keeps_refl _ s))

theorem rest_tableError (mem : MemKind) (address : Nat) (uncorrectable : Bool) {s : State} (hs : AtRest cs s) : AtRest cs (tableError mem
        address uncorrectable s) := by
  unfold tableError
  simp only
  split
  · exact hs
  · split
    · exact rest_saveErrors hs
    · split
      · exact rest_saveErrors hs
      · exact rest_raise _ (rest_bump _ hs)

theorem rest_queueTest (mem : MemKind) (address : Nat) {s : State} (hs : AtRest cs s) : AtRest cs (queueTest mem address s) :=
  hs.quiet (fr_queueTest rfl mem address (keeps_refl _ s))

theorem rest_detectError (mem : MemKind) (address : Nat) (uncorrectable : Bool) {s : State} (hs : AtRest cs s) : AtRest cs (detectError mem
        address uncorrectable s) := by
  unfold detectError
  split <;> simp (maxDischargeDepth := 40) only [hs, rest_ite, ite_self, rest_bump, rest_queueTest, rest_raise, rest_tableError]

/-! ### Operations of `Fold` -/

theorem rest_releaseStripe (stripe : Nat) {s : State} (hs : AtRest cs s) : AtRest cs (releaseStripe stripe s) :=
  hs.quiet (fr_releaseStripe rfl stripe (keeps_refl _ s))

theorem rest_moveRing (r : Ring) (index new : Nat) {s : State} (hs : AtRest cs s) : AtRest cs (moveRing r index new s) := by
  unfold moveRing
  simp (maxDischargeDepth := 40) +contextual only [hs, rest_ite, ite_self, implies_true, rest_journalPut, rest_notePool, rest_orderReset,
    rest_programTail, rest_releaseStripe, rest_setStripe, rest_setUnitState, rest_foldl]

/-! ### Operations of `MediaReads` -/

theorem rest_reconstructWaiting (region : Nat) (only : Read → Bool) {s : State} (hs : AtRest cs s) : AtRest cs (reconstructWaiting region
        only s) := by
  unfold reconstructWaiting
  simp (maxDischargeDepth := 40) +contextual only [hs, implies_true, rest_modRead, rest_noteReconstruction, rest_foldl]

/-! ### Operations of `DriftOps` -/

theorem rest_poisonLine (line : Nat) {s : State} (hs : AtRest cs s) : AtRest cs (poisonLine line s) :=
  hs.quiet (fr_poisonLine rfl line (keeps_refl _ s))

theorem rest_poisonProvisional (line : Nat) {s : State} (hs : AtRest cs s) : AtRest cs (poisonProvisional line s) :=
  hs.quiet (fr_poisonProvisional rfl line (keeps_refl _ s))

theorem rest_loseData (die : Nat) {s : State} (hs : AtRest cs s) : AtRest cs (loseData die s) := by
  unfold loseData
  simp (maxDischargeDepth := 40) +contextual only [hs, rest_ite, ite_self, implies_true, rest_bump, rest_nameLines, rest_poisonLine,
    rest_poisonProvisional, rest_raise, rest_foldl]

theorem rest_dropWork (die : Nat) (failed : Bool) {s : State} (hs : AtRest cs s) : AtRest cs (dropWork die failed s) :=
  hs.quiet (fr_dropWork rfl die failed (keeps_refl _ s))

theorem rest_moveSaves {s : State} (hs : AtRest cs s) : AtRest cs (moveSaves s) := by
  refine rest_foldl (fun t i ht => ?_) _ hs
  split
  · exact ht
  · split
    · exact rest_moveRing _ _ _ ht
    · exact ht

theorem rest_dieLeaves (die state : Nat) {s : State} (hs : AtRest cs s) : AtRest cs (dieLeaves die state s) := by
  unfold dieLeaves
  simp (maxDischargeDepth := 40) +contextual only [hs, rest_mk, rest_fold, rest_ite, ite_self, implies_true, rest_dropWork,
    rest_judgeEpisode, rest_loseData, rest_moveSaves, rest_noteHealth, rest_put, rest_raise, rest_reconstructWaiting, rest_foldl]

theorem rest_refuseBinds {s : State} (hs : AtRest cs s) : AtRest cs (refuseBinds s) :=
  hs.quiet (fr_refuseBinds rfl (keeps_refl _ s))

theorem rest_takeOffline (r : Nat) {s : State} (hs : AtRest cs s) : AtRest cs (takeOffline r s) := by
  unfold takeOffline
  simp (maxDischargeDepth := 40) +contextual only [hs, implies_true, rest_forceAbort, rest_refuseBinds, rest_setRegionState, rest_foldl]

theorem rest_prepare (r : Nat) {s : State} (hs : AtRest cs s) : AtRest cs (prepare r s) := by
  unfold prepare
  simp +contextual only [hs, rest_mk, rest_fold, rest_ite, ite_self, implies_true, rest_dirtySegment, rest_setRegionState, rest_foldl]

theorem rest_abandonPreparation (r : Nat) {s : State} (hs : AtRest cs s) : AtRest cs (abandonPreparation r s) :=
  hs.quiet (fr_abandonPreparation rfl r (keeps_refl _ s))

theorem rest_bringOnline (r : Nat) {s : State} (hs : AtRest cs s) : AtRest cs (bringOnline r s) := by
  unfold bringOnline
  simp only [hs, rest_ite, ite_self, rest_prepare, rest_setRegionState]

/-! ### Operations of `IntegrityOps` -/

theorem rest_writeAnchor {s : State} (hs : AtRest cs s) : AtRest cs (writeAnchor s) :=
  hs.quiet (fr_writeAnchor rfl (keeps_refl _ s))

theorem rest_pinRegion (r : Nat) {s : State} (hs : AtRest cs s) : AtRest cs (pinRegion r s) := by
  unfold pinRegion
  simp (maxDischargeDepth := 40) +contextual only [hs, implies_true, rest_addTo, rest_cacheLine, rest_sectorsMoved, rest_foldl]

theorem rest_poisonRanges (stamp : Nat) (ranges : List (Nat × Nat)) {s : State} (hs : AtRest cs s) : AtRest cs (poisonRanges stamp ranges
        s) :=
  hs.quiet (fr_poisonRanges rfl stamp ranges (keeps_refl _ s))

theorem rest_resume (reAnchor : Bool) {s : State} (hs : AtRest cs s) : AtRest cs (resume reAnchor s) := by
  unfold resume
  split <;> simp (maxDischargeDepth := 40) +contextual only [hs, rest_mk, rest_fold, rest_ite, ite_self, implies_true,
    rest_dropCachedBlocks, rest_modPort, rest_poisonRanges, rest_put, rest_raise, rest_raiseReady, rest_setMode, rest_takeStamp,
    rest_writeAnchor, rest_foldl]

theorem rest_abortForSlot (slot : Nat) {s : State} (hs : AtRest cs s) : AtRest cs (abortForSlot slot s) := by
  unfold abortForSlot
  simp +contextual only [hs, implies_true, rest_forceAbort, rest_foldl]

theorem rest_installKey (slot : Nat) {s : State} (hs : AtRest cs s) : AtRest cs (installKey slot s) := by
  unfold installKey
  simp (maxDischargeDepth := 40) +contextual only [hs, rest_mk, rest_fold, implies_true, rest_dirtyPages, rest_dropCachedRange,
    rest_journalPut, rest_programTail, rest_put, rest_sendCmps, rest_foldl]

theorem rest_renewSlot (slot : Nat) {s : State} (hs : AtRest cs s) : AtRest cs (renewSlot slot s) := by
  unfold renewSlot
  simp (maxDischargeDepth := 40) only [hs, rest_abortForSlot, rest_installKey, rest_raise]

theorem rest_sanitizeNow {s : State} (hs : AtRest cs s) : AtRest cs (sanitizeNow s) := by
  unfold sanitizeNow
  simp (maxDischargeDepth := 40) +contextual only [hs, implies_true, rest_abortForSlot, rest_installKey, rest_raise, rest_raiseTimes,
    rest_foldl]

/-! ### Operations of `Translation` -/

theorem rest_rebuildAll {s : State} (hs : AtRest cs s) : AtRest cs (rebuildAll s) := by
  unfold rebuildAll
  simp (maxDischargeDepth := 40) +contextual only [hs, rest_mk, rest_fold, implies_true, rest_rebuildSegment, rest_releaseReads, rest_foldl]

/-! ### Operations of `Integrity` -/

theorem rest_detectSomewhere (mem : MemKind) (uncorrectable : Bool) {s : State} (hs : AtRest cs s) : AtRest cs (detectSomewhere mem
        uncorrectable s) := by
  unfold detectSomewhere
  simp only [hs, rest_detectError, rest_drawn]

/-! ### Operations of `PowerOps` -/

theorem rest_railsOn (codes : List Nat) {s : State} (hs : AtRest cs s) : AtRest cs (railsOn codes s) :=
  hs.quiet (fr_railsOn rfl codes (keeps_refl _ s))

theorem rest_finishLeaving {s : State} (hs : AtRest cs s) : AtRest cs (finishLeaving s) := by
  unfold finishLeaving
  simp only [hs, rest_mk, rest_fold, rest_ite, ite_self, rest_programAll, rest_put]

theorem rest_loseProtection (causes : Nat) {s : State} (hs : AtRest cs s) : AtRest cs (loseProtection causes s) := by
  unfold loseProtection
  simp (maxDischargeDepth := 40) only [hs, rest_mk, rest_fold, rest_bothExceptions, rest_finishLeaving, rest_put, rest_raise]

theorem rest_regainProtection {s : State} (hs : AtRest cs s) : AtRest cs (regainProtection s) := by
  unfold regainProtection
  simp (maxDischargeDepth := 40) only [hs, rest_mk, rest_fold, rest_put, rest_raise]

theorem rest_updateProtection {s : State} (hs : AtRest cs s) : AtRest cs (updateProtection s) := by
  unfold updateProtection
  simp only [hs, rest_ite, ite_self, rest_finishLeaving, rest_loseProtection, rest_put, rest_regainProtection]

theorem rest_unmeasured {s : State} (hs : AtRest cs s) : AtRest cs (unmeasured s) :=
  hs.quiet (fr_unmeasured rfl (keeps_refl _ s))

theorem rest_holdPins {s : State} (hs : AtRest cs s) : AtRest cs (holdPins s) :=
  hs.quiet (fr_holdPins rfl (keeps_refl _ s))

theorem rest_releasePins {s : State} (hs : AtRest cs s) : AtRest cs (releasePins s) :=
  hs.quiet (fr_releasePins rfl (keeps_refl _ s))

theorem rest_withholdCredits (b : Bool) {s : State} (hs : AtRest cs s) : AtRest cs (withholdCredits b s) := by
  unfold withholdCredits
  simp +contextual only [hs, implies_true, rest_modPort]

theorem rest_switchSlots {s : State} (hs : AtRest cs s) : AtRest cs (switchSlots s) :=
  hs.quiet (fr_switchSlots rfl (keeps_refl _ s))

theorem rest_endActivation (a : Activation) (result src : Nat) {s : State} (hs : AtRest cs s) : AtRest cs (endActivation a result src s) :=
        by
  unfold endActivation
  simp (maxDischargeDepth := 40) only [hs, rest_mk, rest_fold, rest_endAction, rest_put, rest_raise]

theorem rest_finishActivation {s : State} (hs : AtRest cs s) : AtRest cs (finishActivation s) := by
  unfold finishActivation
  split <;> simp only [hs, rest_ite, ite_self, rest_endActivation, rest_switchSlots]

theorem rest_interruptActivation {s : State} (hs : AtRest cs s) : AtRest cs (interruptActivation s) := by
  unfold interruptActivation
  split <;> simp only [hs, rest_mk, rest_fold, rest_ite, ite_self, rest_endAction, rest_finishActivation, rest_put]

theorem rest_enterFall {s : State} (hs : AtRest cs s) : AtRest cs (enterFall s) := by
  unfold enterFall
  simp (maxDischargeDepth := 40) only [hs, rest_mk, rest_fold, rest_dropLink, rest_dropReady, rest_releasePins, rest_setMode]

theorem rest_freshPorts {s : State} (hs : AtRest cs s) : AtRest cs (freshPorts s) := by
  unfold freshPorts
  exact rest_put _ _ (rest_put _ _ ⟨hs.1, rfl, rfl⟩)

theorem rest_startRise {s : State} (hs : AtRest cs s) : AtRest cs (startRise s) := by
  unfold startRise
  simp (maxDischargeDepth := 40) only [hs, rest_mk, rest_fold, rest_ite, ite_self, rest_freshPorts, rest_put, rest_raise, rest_setMode,
    rest_unmeasured]

theorem rest_wakeRise {s : State} (hs : AtRest cs s) : AtRest cs (wakeRise s) := by
  unfold wakeRise
  simp only [hs, rest_mk, rest_fold, rest_ite, ite_self, rest_put, rest_startRise]

theorem rest_abandonWork {s : State} (hs : AtRest cs s) : AtRest cs (abandonWork s) :=
  hs.quiet (fr_abandonWork rfl (keeps_refl _ s))

theorem rest_startCurtain (cause : Nat) {s : State} (hs : AtRest cs s) : AtRest cs (startCurtain cause s) := by
  unfold startCurtain
  simp (maxDischargeDepth := 40) only [hs, rest_mk, rest_fold, rest_ite, ite_self, rest_abandonWork, rest_bothExceptions, rest_endAction,
    rest_holdPins, rest_interruptActivation, rest_overtakeDeferred, rest_put, rest_railsOn, rest_raise, rest_setMode, rest_settleAll,
    rest_takeStamp, rest_withholdCredits]

theorem rest_triggerCurtain (cause : Nat) {s : State} (hs : AtRest cs s) : AtRest cs (triggerCurtain cause s) := by
  unfold triggerCurtain
  split <;> simp only [hs, rest_mk, rest_fold, rest_ite, ite_self, rest_enterFall, rest_put, rest_startCurtain]

theorem rest_restartRise {s : State} (hs : AtRest cs s) : AtRest cs (restartRise s) := by
  unfold restartRise
  simp (maxDischargeDepth := 40) only [hs, rest_mk, rest_fold, rest_dropLink, rest_dropReady, rest_freshPorts, rest_interruptActivation,
    rest_put, rest_setMode]

theorem rest_deviceReset (code : Nat) {s : State} (hs : AtRest cs s) : AtRest cs (deviceReset code s) := by
  unfold deviceReset
  simp (maxDischargeDepth := 40) only [hs, rest_mk, rest_fold, rest_ite, ite_self, rest_bump, rest_endAllSessions, rest_enterFall,
    rest_put, rest_raise, rest_restartRise, rest_startCurtain, rest_triggerCurtain]

/-! ### Operations of `ModeOps` -/

theorem rest_wakeBy (source : Nat) {s : State} (hs : AtRest cs s) : AtRest cs (wakeBy source s) := by
  unfold wakeBy
  repeat' split
  all_goals simp only [hs, rest_mk, rest_fold, rest_put, rest_raise]

theorem rest_linksL1 (b : Bool) {s : State} (hs : AtRest cs s) : AtRest cs (linksL1 b s) := by
  unfold linksL1
  simp +contextual only [hs, implies_true, rest_modPort]

theorem rest_wakeUp {s : State} (hs : AtRest cs s) : AtRest cs (wakeUp s) := by
  unfold wakeUp
  simp (maxDischargeDepth := 40) only [hs, rest_mk, rest_fold, rest_linksL1, rest_railsOn, rest_setMode, rest_withholdCredits]

theorem rest_releaseScratch {s : State} (hs : AtRest cs s) : AtRest cs (releaseScratch s) := by
  unfold releaseScratch
  split <;> simp only [hs, rest_mk, rest_fold, rest_ite, ite_self, rest_setUnitState]

theorem rest_buttonCurtain {s : State} (hs : AtRest cs s) : AtRest cs (buttonCurtain s) := by
  unfold buttonCurtain
  simp only [hs, rest_ite, ite_self, rest_put, rest_triggerCurtain]

/-! ### Operations of `EventOps` -/

theorem rest_clearLatch (src count stamp : Nat) {s : State} (hs : AtRest cs s) : AtRest cs (clearLatch src count stamp s) := by
  unfold clearLatch
  simp only [hs, rest_ite, ite_self, rest_latchMsi, rest_put]

theorem rest_clearRecorder (arg stamp : Nat) {s : State} (hs : AtRest cs s) : AtRest cs (clearRecorder arg stamp s) := by
  unfold clearRecorder
  simp only [hs, rest_mk, rest_fold, rest_ite, ite_self, rest_put, rest_raise, rest_recordOccurrence]

/-! ### Operations of `ObserveOps` -/

theorem rest_emptySamples {s : State} (hs : AtRest cs s) : AtRest cs (emptySamples s) :=
  hs.quiet (fr_emptySamples rfl (keeps_refl _ s))

theorem rest_emptyNotices {s : State} (hs : AtRest cs s) : AtRest cs (emptyNotices s) :=
  hs.quiet (fr_emptyNotices rfl (keeps_refl _ s))

theorem rest_emptyReceived {s : State} (hs : AtRest cs s) : AtRest cs (emptyReceived s) :=
  hs.quiet (fr_emptyReceived rfl (keeps_refl _ s))

theorem rest_flushIf (on : Bool) {empty : State → State} {s : State} (he : ∀ t, AtRest cs t → AtRest cs (empty t)) (hs : AtRest cs s) :
        AtRest cs (flushIf on empty s) :=
  rest_cond (rest_raise _ (rest_bump _ (he _ hs))) hs

theorem rest_flushQueues (bits : Nat) {s : State} (hs : AtRest cs s) : AtRest cs (flushQueues bits s) :=
  rest_flushIf _ (fun _ => rest_emptyReceived) (rest_flushIf _ (fun _ => rest_emptyNotices) (rest_flushIf _ (fun _ => rest_emptySamples) hs))

theorem rest_releaseChannel (k : Nat) {s : State} (hs : AtRest cs s) : AtRest cs (releaseChannel k s) :=
  hs.quiet (fr_releaseChannel rfl k (keeps_refl _ s))

/-! ### Operations of `Modes` -/

theorem rest_startDoze {s : State} (hs : AtRest cs s) : AtRest cs (startDoze s) :=
  hs.quiet (fr_startDoze rfl (keeps_refl _ s))

theorem rest_undoDoze (n : Nat) {s : State} (hs : AtRest cs s) : AtRest cs (undoDoze n s) := by
  unfold undoDoze
  simp (maxDischargeDepth := 40) only [hs, rest_mk, rest_fold, rest_ite, ite_self, rest_linksL1, rest_railsOn, rest_withholdCredits]

theorem rest_offRequest {s : State} (hs : AtRest cs s) : AtRest cs (offRequest s) := by
  unfold offRequest
  simp only [hs, rest_mk, rest_fold, rest_ite, ite_self, rest_enterFall, rest_triggerCurtain]

theorem rest_onRequest {s : State} (hs : AtRest cs s) : AtRest cs (onRequest s) := by
  unfold onRequest
  simp only [hs, rest_mk, rest_fold, rest_ite, ite_self, rest_wakeRise]

theorem rest_retryRails {s : State} (hs : AtRest cs s) : AtRest cs (retryRails s) := by
  unfold retryRails
  simp only [hs, rest_mk, rest_fold, rest_startRise]

theorem rest_enterService {s : State} (hs : AtRest cs s) : AtRest cs (enterService s) := by
  unfold enterService
  simp (maxDischargeDepth := 40) only [hs, rest_mk, rest_fold, rest_ite, ite_self, rest_loseAll, rest_raise, rest_setMode,
    rest_stopDozeEntry, rest_undoDoze]

theorem rest_leaveService {s : State} (hs : AtRest cs s) : AtRest cs (leaveService s) := by
  unfold leaveService
  simp (maxDischargeDepth := 40) only [hs, rest_raise, rest_releaseScratch, rest_setMode]

theorem rest_activateOnline (result : ActivationResult) {s : State} (hs : AtRest cs s) : AtRest cs (activateOnline result s) := by
  unfold activateOnline
  split <;> simp (maxDischargeDepth := 40) only [hs, rest_mk, rest_fold, rest_drawn, rest_raise, rest_setAction]

/-! ### Operations of `StoredData` -/

theorem rest_borrowUnit (u : Nat) {s : State} (hs : AtRest cs s) : AtRest cs (borrowUnit u s) := by
  unfold borrowUnit
  simp only [hs, rest_setStripe, rest_unitReset]

theorem rest_takeScratch {s : State} (hs : AtRest cs s) : AtRest cs (takeScratch s) := by
  unfold takeScratch
  repeat' split
  all_goals simp only [hs, rest_mk, rest_fold, rest_borrowUnit, rest_setUnitState]

theorem rest_writeRaw {s : State} (hs : AtRest cs s) : AtRest cs (writeRaw s) := by
  have stored (t : State) (d : StoredData) (ht : AtRest cs t) : AtRest cs { t with stored := d } := ht
  have h := rest_takeScratch hs
  unfold writeRaw
  simp only
  split
  · exact rest_raise _ (stored _ _ (rest_sectorProgrammed _ _ h))
  · exact rest_raise _ (stored _ _ h)

theorem rest_readRaw (result : CodeResult) (decoded : List Byte) {s : State} (hs : AtRest cs s) : AtRest cs (readRaw result decoded s) := by
  have h := rest_takeScratch hs
  unfold readRaw
  simp only
  split
  · exact rest_raise _ (rest_putBytes _ _ (rest_put _ _ (rest_putBytes _ _ (rest_putBytes _ _ h))))
  · exact rest_raise _ (rest_putBytes _ _ (rest_put _ _ (rest_putBytes _ _ (rest_putBytes _ _ (rest_drawn (rest_drawn h))))))

/-! ### Operations of `ThermalOps` -/

theorem rest_setBroken (n : Nat) (b : Bool) {s : State} (hs : AtRest cs s) : AtRest cs (setBroken n b s) :=
  hs.quiet (fr_setBroken rfl n b (keeps_refl _ s))

theorem rest_reAdmit (n : Nat) {s : State} (hs : AtRest cs s) : AtRest cs (reAdmit n s) := by
  unfold reAdmit
  simp only [hs, rest_mk, rest_fold, rest_raise, rest_setBroken]

/-! ### Operations of `DictOps` -/

theorem rest_enablePort (p : Port) (on : Bool) {s : State} (hs : AtRest cs s) : AtRest cs (enablePort p on s) := by
  unfold enablePort
  simp (maxDischargeDepth := 40) +contextual only [hs, rest_ite, ite_self, implies_true, rest_closeDrained, rest_dropLink, rest_dropReady,
    rest_modPort, rest_portException, rest_put, rest_raiseReady]

theorem rest_freePort (p : Port) {s : State} (hs : AtRest cs s) : AtRest cs (freePort p s) := by
  unfold freePort
  simp +contextual only [hs, implies_true, rest_modPort]

theorem rest_setTime (v source : Nat) {s : State} (hs : AtRest cs s) : AtRest cs (setTime v source s) := by
  unfold setTime
  simp only [hs, rest_mk, rest_fold, rest_journalPut, rest_put]

theorem rest_setProfile (v : Nat) {s : State} (hs : AtRest cs s) : AtRest cs (setProfile v s) := by
  unfold setProfile
  simp only [hs, rest_ite, ite_self, rest_put, rest_raise]

theorem rest_writeRegion (r sub v : Nat) {s : State} (hs : AtRest cs s) : AtRest cs (writeRegion r sub v s) := by
  unfold writeRegion
  simp only [hs, rest_ite, ite_self, rest_abandonPreparation, rest_bringOnline, rest_prepare, rest_put, rest_setRegionState]

theorem rest_writeSelect (key v : Nat) {s : State} (hs : AtRest cs s) : AtRest cs (writeSelect key v s) :=
  hs.quiet (fr_writeSelect rfl key v (keeps_refl _ s))

theorem rest_writeLevelKey (req : Req) (level : Nat) (v : List Byte) {s : State} (hs : AtRest cs s) : AtRest cs (writeLevelKey req level v
        s) :=
  hs.quiet (fr_writeLevelKey rfl req level v (keeps_refl _ s))

theorem rest_putNumber (req : Req) (key v stamp seen : Nat) {s : State} (hs : AtRest cs s) : AtRest cs (putNumber req key v stamp seen s)
        := by
  have p (t : State) (k w : Nat) (ht : AtRest cs t) : AtRest cs (t.put k w) := rest_put k w ht
  have m (t : State) (b : Bool) (ht : AtRest cs t) : AtRest cs { t with mgmt := { t.mgmt with beaconLost := b } } :=
    ht
  unfold putNumber
  refine rest_cond (rest_updateProtection (p _ _ _ hs)) (rest_cond (rest_enablePort _ _ hs) (rest_cond (rest_enablePort _ _ hs) ?_))
  refine rest_cond (rest_freePort _ (p _ _ _ hs)) (rest_cond (rest_freePort _ (p _ _ _ hs)) ?_)
  refine rest_cond (rest_freePort _ (rest_freePort _ (p _ _ _ hs))) (rest_cond (rest_setTime _ _ hs) (rest_cond (rest_setProfile _ hs) ?_))
  refine rest_cond (rest_noteHealth (p _ _ _ hs)) (rest_cond (rest_notePool (p _ _ _ hs)) (rest_cond (rest_checkPool (p _ _ _ hs))
    (rest_cond (rest_flushQueues _ hs) ?_)))
  refine rest_cond (p _ _ _ (m _ _ hs)) (rest_cond (rest_cond hs (p _ _ _ hs)) (rest_cond (rest_writeSelect _ _ hs) ?_))
  refine rest_cond (rest_cond hs (rest_clearLatch _ _ _ hs)) ?_
  split
  · exact rest_writeRegion _ _ _ hs
  · exact p _ _ _ hs

theorem rest_putValue (req : Req) (key stamp seen : Nat) (v : List Byte) {s : State} (hs : AtRest cs s) : AtRest cs (putValue req key stamp
        seen v s) := by
  unfold putValue
  split <;> simp only [hs, rest_mk, rest_fold, rest_ite, ite_self, rest_putBytes, rest_putNumber, rest_writeLevelKey]

theorem rest_clearRead (key : Nat) {s : State} (hs : AtRest cs s) : AtRest cs (clearRead key s) :=
  hs.quiet (fr_clearRead rfl key (keeps_refl _ s))

theorem rest_setDefaults (req : Req) {s : State} (hs : AtRest cs s) : AtRest cs (setDefaults req s) := by
  unfold setDefaults
  simp (maxDischargeDepth := 40) +contextual only [hs, implies_true, rest_noteChange, rest_putValue, rest_foldl]

theorem rest_startAction (key : Nat) (v : List Byte) (stamp : Nat) (env : DictEnv) (req : Req) {s : State} (hs : AtRest cs s) : AtRest cs
        (startAction key v stamp env req s) := by
  have ha := rest_setAction key stOk hs
  have hp (t : State) (x : Power) (ht : AtRest cs t) : AtRest cs { t with pow := x } := ht
  unfold startAction
  simp only
  generalize setAction key stOk s = a at ha ⊢
  refine rest_cond (rest_forceAbort _ _ _ ha) (rest_cond (rest_dieLeaves _ _ ha) (rest_cond (rest_takeOffline _ ha) ?_))
  refine rest_cond (rest_bringOnline _ ha) (rest_cond (rest_renewSlot _ ha) (rest_cond (rest_resume _ ha) (rest_cond (rest_sanitizeNow ha) ?_)))
  refine rest_cond (rest_saveErrors ha) (rest_cond (rest_writeRaw ha) (rest_cond ?_ ?_))
  · split
    · exact rest_readRaw _ _ ha
    · exact rest_readRaw _ _ (rest_drawn (rest_drawn (rest_drawn ha)))
  refine rest_cond (rest_retryRails ha) (rest_cond (rest_setAction _ _ (hp _ _ ha)) (rest_cond (rest_buttonCurtain ha) ?_))
  refine rest_cond (rest_offRequest ha) (rest_cond (rest_onRequest ha) (rest_cond (rest_deviceReset _ ha) ?_))
  refine rest_cond (rest_startDoze (rest_setAction _ _ ha)) (rest_cond (rest_enterService ha) (rest_cond (rest_leaveService ha) ?_))
  refine rest_cond (rest_activateOnline _ (rest_setAction _ _ (rest_drawn ha))) (rest_cond (rest_reAdmit _ ha) (rest_cond (rest_setDefaults _ ha) ?_))
  exact rest_cond (rest_endAllSessions ha) (rest_cond (rest_clearRecorder _ _ ha) (rest_cond (rest_releaseChannel _ ha) ha))

theorem rest_noteRequest (key kind : Nat) (req : Req) (old new : List Byte) {s : State} (hs : AtRest cs s) : AtRest cs (noteRequest key
        kind req old new s) := by
  unfold noteRequest
  simp only [hs, rest_noteChange]

theorem rest_serveAction (req : Req) (idx sub : Nat) (ask : DictAsk) (v : List Byte) (env : DictEnv) {s : State} (hs : AtRest cs s) :
        AtRest cs (serveAction req idx sub ask v env s) := by
  unfold serveAction
  simp (maxDischargeDepth := 40) only [hs, rest_deliver, rest_noteRequest, rest_startAction]

theorem rest_serveWrite (req : Req) (idx sub : Nat) (ask : DictAsk) (v : List Byte) (kind : Nat) {s : State} (hs : AtRest cs s) : AtRest cs
        (serveWrite req idx sub ask v kind s) := by
  unfold serveWrite
  simp (maxDischargeDepth := 40) only [hs, rest_deliver, rest_noteRequest, rest_putValue]

theorem rest_setBlock (req : Req) (b : Option BlockWrite) {s : State} (hs : AtRest cs s) : AtRest cs (setBlock req b s) :=
  hs.quiet (fr_setBlock rfl req b (keeps_refl _ s))

theorem rest_serveOk (req : Req) (idx sub : Nat) (ask : DictAsk) (env : DictEnv) {s : State} (hs : AtRest cs s) : AtRest cs (serveOk req
        idx sub ask env s) := by
  unfold serveOk
  simp only
  split
  · exact hs
  · rename_i d _
    cases ask with
    | read => exact rest_deliver _ _ (rest_clearRead _ hs)
    | blockRead offset n => exact rest_deliver _ _ (rest_cond (rest_clearRead _ hs) hs)
    | write v => exact rest_cond (rest_serveAction _ _ _ _ _ _ hs) (rest_serveWrite _ _ _ _ _ _ hs)
    | act v => exact rest_serveAction _ _ _ _ _ _ hs
    | blockWrite offset seg final =>
      simp only
      split
      · exact hs
      · have hb (b : Option BlockWrite) : AtRest cs (setBlock req b s) := rest_setBlock _ _ hs
        exact rest_cond (rest_serveAction _ _ _ _ _ _ (hb _)) (rest_cond (rest_serveWrite _ _ _ _ _ _ (hb _)) (rest_deliver _ _ (hb _)))

theorem rest_refuse (req : Req) (idx sub : Nat) (ask : DictAsk) (status : Nat) {s : State} (hs : AtRest cs s) : AtRest cs (refuse req idx
        sub ask status s) :=
  hs.quiet (fr_refuse rfl req idx sub ask status (keeps_refl _ s))

theorem rest_perform (req : Req) (idx sub : Nat) (ask : DictAsk) (env : DictEnv) {s : State} (hs : AtRest cs s) : AtRest cs (perform req
        idx sub ask env s) := by
  unfold perform
  split <;> simp only [hs, rest_mk, rest_fold, rest_ite, ite_self, rest_refuse, rest_serveOk, rest_wakeBy]

theorem rest_serveDeferred {s : State} (hs : AtRest cs s) : AtRest cs (serveDeferred s) := by
  unfold serveDeferred
  simp +contextual only [hs, rest_mk, rest_fold, rest_ite, ite_self, implies_true, rest_endWith, rest_perform, rest_foldl]

theorem rest_inSession (req : Req) (want : List Byte → BitVec 128) {refused : Nat → State → State} {go : State → State} (hr : ∀ n s, AtRest
        cs s → AtRest cs (refused n s)) (hg : ∀ s, AtRest cs s → AtRest cs (go s)) {s : State} (hs : AtRest cs s) : AtRest cs (inSession
        req want refused go s) := by
  unfold inSession
  split
  · split
    · split
      · exact rest_putSession _ (rest_emit _ hs)
      · exact rest_putSession _ hs
    · split
      · exact hg _ (rest_putSession _ hs)
      · exact hr _ _ hs
  · exact hr _ _ hs

theorem rest_endUnkept (req : Req) (idx sub : Nat) (ask : DictAsk) (status : Nat) {s : State} (hs : AtRest cs s) : AtRest cs (endUnkept req
        idx sub ask status s) :=
  hs.quiet (fr_endUnkept rfl req idx sub ask status (keeps_refl _ s))

theorem rest_arrive (path : Path) {busy serve : State → State} (hb : ∀ s, AtRest cs s → AtRest cs (busy s)) (hv : ∀ s, AtRest cs s → AtRest
        cs (serve s)) {s : State} (hs : AtRest cs s) : AtRest cs (arrive path busy serve s) := by
  unfold arrive
  cases path with
  | mailbox p => exact rest_cond (hv _ hs) hs
  | fieldLink mac =>
    have received (t : State) (m : Management) (ht : AtRest cs t) : AtRest cs { t with mgmt := m } := ht
    simp only
    split
    · exact hs
    · split
      · exact hv _ (rest_bump _ (received _ _ hs))
      · split
        · exact hv _ (rest_bump _ (received _ _ hs))
        · exact rest_cond (hb _ (received _ _ (rest_bump _ (received _ _ hs)))) (rest_bump _ (received _ _ hs))

theorem rest_request (req : Req) (idx sub : Nat) (ask : DictAsk) (env : DictEnv) {s : State} (hs : AtRest cs s) : AtRest cs (request req
        idx sub ask env s) := by
  refine rest_arrive _ (fun t => rest_endUnkept _ _ _ _ _) (fun t ht => ?_) hs
  split
  · exact rest_perform _ _ _ _ _ ht
  · exact rest_inSession req _ (fun n t => rest_endUnkept _ _ _ _ _) (fun t => rest_perform _ _ _ _ _) ht

/-! ### Operations of `Mailbox` -/

theorem rest_mailboxAnswer (p : Port) (code : Nat) (fields : List Nat) {s : State} (hs : AtRest cs s) : AtRest cs (mailboxAnswer p code
        fields s) :=
  hs.quiet (fr_mailboxAnswer rfl p code fields (keeps_refl _ s))

theorem rest_mailboxBusy (p : Port) {s : State} (hs : AtRest cs s) : AtRest cs (mailboxBusy p s) :=
  hs.quiet (fr_mailboxBusy rfl p (keeps_refl _ s))

theorem rest_sanitizeByHost (p : Port) {s : State} (hs : AtRest cs s) : AtRest cs (sanitizeByHost p s) := by
  unfold sanitizeByHost
  exact rest_cond (rest_mailboxAnswer _ _ _ hs) (rest_cond (rest_mailboxBusy _ hs)
    (rest_sendMsi _ _ (rest_setAction _ _ (rest_sanitizeNow (rest_mailboxAnswer _ _ _ hs)))))

/-! ### Operations of `RestoreOps` -/

theorem rest_loseValue (v : TwoCopyValue) {s : State} (hs : AtRest cs s) : AtRest cs (loseValue v s) := by
  have h : AtRest cs (raise 230 (s.bump 0x800107)) := rest_raise 230 (rest_bump 0x800107 hs)
  unfold loseValue
  simp only
  generalize raise 230 (s.bump 0x800107) = a at h ⊢
  cases v with
  | dictionaryValue key =>
    simp only
    split
    · exact h
    · split
      · split
        · exact rest_noteOwnChange _ _ _ h
        · exact h
      · exact h
  | superblock => exact h
  | stampCeiling => exact h
  | slotKey slot => exact rest_foldl (fun t r ht => rest_failCheck _ ht) _ h
  | anchor => exact rest_foldl (fun t i ht => rest_failCheck _ ht) _ h
  | haltRecord => exact rest_put _ _ (rest_put _ _ (rest_takeStamp h))
  | remapTable => exact h
  | errorTable => exact rest_saveErrors h
  | lifetimeCounters => exact rest_foldl (fun t k ht => rest_put _ _ ht) _ h
  | hourlyMark hour => exact h

theorem rest_noteBanks (shifts : List (Option Nat)) {s : State} (hs : AtRest cs s) : AtRest cs (noteBanks shifts s) :=
  hs.quiet (fr_noteBanks rfl shifts (keeps_refl _ s))

theorem rest_applyOffInterval (shifts : List (Option Nat)) {s : State} (hs : AtRest cs s) : AtRest cs (applyOffInterval shifts s) := by
  unfold applyOffInterval
  simp (maxDischargeDepth := 40) +contextual only [hs, rest_mk, rest_fold, rest_ite, ite_self, implies_true, rest_addTo, rest_noteBanks,
    rest_put, rest_raise, rest_foldl]

theorem rest_loadCounts {s : State} (hs : AtRest cs s) : AtRest cs (loadCounts s) :=
  hs.quiet (fr_loadCounts rfl (keeps_refl _ s))

theorem rest_settleTails {s : State} (hs : AtRest cs s) : AtRest cs (settleTails s) :=
  hs.quiet (fr_settleTails rfl (keeps_refl _ s))

theorem rest_loadRegisters {s : State} (hs : AtRest cs s) : AtRest cs (loadRegisters s) :=
  hs.quiet (fr_loadRegisters rfl (keeps_refl _ s))

theorem rest_readImage (f : RestoreFindings) {s : State} (hs : AtRest cs s) : AtRest cs (readImage f s) := by
  unfold readImage
  split <;> simp (maxDischargeDepth := 40) +contextual only [hs, rest_mk, rest_fold, rest_ite, ite_self, implies_true,
    rest_detectSomewhere, rest_nameLines, rest_raise, rest_foldl]

theorem rest_readPowerLog (f : RestoreFindings) {s : State} (hs : AtRest cs s) : AtRest cs (readPowerLog f s) :=
  hs.quiet (fr_readPowerLog rfl f (keeps_refl _ s))

theorem rest_dropTorn (f : RestoreFindings) {s : State} (hs : AtRest cs s) : AtRest cs (dropTorn f s) :=
  hs.quiet (fr_dropTorn rfl f (keeps_refl _ s))

theorem rest_restoreSix (shifts : List (Option Nat)) (f : RestoreFindings) {s : State} (hs : AtRest cs s) : AtRest cs (restoreSix shifts f
        s) := by
  unfold restoreSix
  simp (maxDischargeDepth := 40) +contextual only [hs, rest_mk, rest_fold, rest_ite, ite_self, implies_true, rest_applyOffInterval,
    rest_bump, rest_dropTorn, rest_loadCounts, rest_loadRegisters, rest_loseValue, rest_put, rest_raiseTimes, rest_readImage,
    rest_readPowerLog, rest_settleTails, rest_foldl]

theorem rest_judgeChain (f : RestoreFindings) {s : State} (hs : AtRest cs s) : AtRest cs (judgeChain f s) := by
  unfold judgeChain
  split <;> simp +contextual only [hs, rest_mk, rest_fold, rest_ite, ite_self, implies_true, rest_failCheck, rest_foldl]

theorem rest_judgeDigests (f : RestoreFindings) {s : State} (hs : AtRest cs s) : AtRest cs (judgeDigests f s) := by
  unfold judgeDigests
  simp +contextual only [hs, implies_true, rest_failCheck, rest_foldl]

theorem rest_judgeLines (before : List IntegrityEntry) {s : State} (hs : AtRest cs s) : AtRest cs (judgeLines before s) :=
  hs.quiet (fr_judgeLines rfl before (keeps_refl _ s))

theorem rest_replayIntegrity {s : State} (hs : AtRest cs s) : AtRest cs (replayIntegrity s) :=
  hs.quiet (fr_replayIntegrity rfl (keeps_refl _ s))

theorem rest_dropUnnamed {s : State} (hs : AtRest cs s) : AtRest cs (dropUnnamed s) :=
  hs.quiet (fr_dropUnnamed rfl (keeps_refl _ s))

theorem rest_restoreTable {s : State} (hs : AtRest cs s) : AtRest cs (restoreTable s) :=
  hs.quiet (fr_restoreTable rfl (keeps_refl _ s))

theorem rest_noteTornSave (f : RestoreFindings) {s : State} (hs : AtRest cs s) : AtRest cs (noteTornSave f s) :=
  hs.quiet (fr_noteTornSave rfl f (keeps_refl _ s))

theorem rest_restoreEight {s : State} (hs : AtRest cs s) : AtRest cs (restoreEight s) := by
  unfold restoreEight
  simp (maxDischargeDepth := 40) only [hs, rest_mk, rest_fold, rest_ite, ite_self, rest_dropUnnamed, rest_put, rest_raise,
    rest_replayIntegrity, rest_restoreTable, rest_restoreUnits]

theorem rest_resolveGroups (source before : Tbl Group) {s : State} (hs : AtRest cs s) : AtRest cs (resolveGroups source before s) := by
  unfold resolveGroups
  exact rest_raiseIf _ _ (rest_put _ _ hs)

theorem rest_reinstateQueues (i : Image) {s : State} (hs : AtRest cs s) : AtRest cs (reinstateQueues i s) := by
  unfold reinstateQueues
  simp (maxDischargeDepth := 40) +contextual only [hs, implies_true, rest_drainPort, rest_modPort]

theorem rest_waitCommits {s : State} (hs : AtRest cs s) : AtRest cs (waitCommits s) :=
  hs.quiet (fr_waitCommits rfl (keeps_refl _ s))

theorem rest_reinstate (i : Image) {s : State} (hs : AtRest cs s) : AtRest cs (reinstate i s) := by
  unfold reinstate
  simp (maxDischargeDepth := 40) +contextual only [hs, rest_mk, rest_fold, implies_true, rest_dirtySegment, rest_put, rest_reinstateQueues,
    rest_resolveGroups, rest_waitCommits, rest_foldl]

theorem rest_restoreUnsaved {s : State} (hs : AtRest cs s) : AtRest cs (restoreUnsaved s) := by
  unfold restoreUnsaved
  simp only [hs, rest_mk, rest_fold, rest_resolveGroups]

theorem rest_reportDirty {s : State} (hs : AtRest cs s) : AtRest cs (reportDirty s) := by
  unfold reportDirty
  simp only [hs, rest_ite, ite_self, rest_bump, rest_postRecord, rest_raise]

theorem rest_takeImage {s : State} (hs : AtRest cs s) : AtRest cs (takeImage s) := by
  unfold takeImage
  split <;> simp only [hs, rest_reinstate, rest_restoreUnsaved]

theorem rest_reportShutdown {s : State} (hs : AtRest cs s) : AtRest cs (reportShutdown s) := by
  unfold reportShutdown
  simp only [hs, rest_mk, rest_fold, rest_ite, ite_self, rest_raise, rest_reportDirty]

theorem rest_fixPersistPoint {s : State} (hs : AtRest cs s) : AtRest cs (fixPersistPoint s) := by
  unfold fixPersistPoint
  simp only [hs, rest_mk, rest_fold, rest_ite, ite_self, rest_put, rest_updateProtection]

theorem rest_endNine {s : State} (hs : AtRest cs s) : AtRest cs (endNine s) := by
  unfold endNine
  simp only [hs, rest_mk, rest_fold, rest_ite, ite_self, rest_fixPersistPoint, rest_programAll, rest_startCurtain]

theorem rest_restoreNine {s : State} (hs : AtRest cs s) : AtRest cs (restoreNine s) := by
  unfold restoreNine
  simp (maxDischargeDepth := 40) only [hs, rest_mk, rest_fold, rest_ite, ite_self, rest_endNine, rest_reportShutdown, rest_takeImage]

theorem rest_restoreTen {s : State} (hs : AtRest cs s) : AtRest cs (restoreTen s) := by
  unfold restoreTen
  simp (maxDischargeDepth := 40) +contextual only [hs, implies_true, rest_pinRegion, rest_put, rest_rebuildSegment, rest_foldl]

theorem rest_restoreEleven {s : State} (hs : AtRest cs s) : AtRest cs (restoreEleven s) := by
  have h := rest_put 0x404101 5 hs
  unfold restoreEleven
  simp only
  split
  · exact h
  · exact rest_releasePins (rest_raiseReady _ (rest_raiseReady _ (rest_put _ _ h)))

theorem rest_endRestore {s : State} (hs : AtRest cs s) : AtRest cs (endRestore s) := by
  have h (n : Nat) : AtRest cs (releaseScratch ((s.put 0x404101 0).put 0x404103 n)) := rest_releaseScratch (rest_put _ _ (rest_put _ _ hs))
  unfold endRestore
  simp only
  split
  · exact rest_setMode _ (h _)
  · exact rest_cond (rest_releasePins (rest_haltNow _ (h _))) (rest_setMode _ (rest_releasePins (rest_put _ _ (rest_silence (h _)))))

theorem rest_restoreStepNow (n : Nat) (shifts : List (Option Nat)) (f : RestoreFindings) {s : State} (hs : AtRest cs s) : AtRest cs
        (restoreStepNow n shifts f s) := by
  unfold restoreStepNow
  simp (maxDischargeDepth := 40) only [hs, rest_mk, rest_fold, rest_ite, ite_self, rest_dropTorn, rest_endRestore, rest_judgeChain,
    rest_judgeDigests, rest_judgeLines, rest_noteTornSave, rest_put, rest_rebuildAll, rest_restoreEight, rest_restoreEleven,
    rest_restoreNine, rest_restoreSix, rest_restoreTen]

theorem rest_restoreSteps (k upTo : Nat) (shifts : List (Option Nat)) (f : RestoreFindings) {s : State} (hs : AtRest cs s) : AtRest cs
        (restoreSteps k upTo shifts f s) := by
  induction k generalizing s with
  | zero => exact hs
  | succ k ih =>
    unfold restoreSteps
    simp only
    split
    · exact ih (rest_restoreStepNow _ _ _ hs)
    · exact hs

/-! ### Commands at rest -/

/-- A visit keeps patrol or may end service. -/
theorem shape_visit_ne {r : Bool} {t : Shape} (h : t ≠ .modeEvent ∧ t ≠ .upkeep) : (if r then Shape.modeEvent else .upkeep) ≠ t := by
  cases r
  · exact h.2.symm
  · exact h.1.symm

/-- What a dictionary request is: the one request that its command spells, the end of the delay of a wake, or a sanitize by either path. -/
theorem exec_of_request {c : Instr} (h : shape c = .request) :
    (∃ req idx sub ask env, ∀ s, exec c s = .next (request req idx sub ask env s)) ∨ c = .wakeDelay ∨ ∃ via, c = .sanitize via := by
  cases c
  case wakeDelay => exact .inr (.inl rfl)
  case sanitize via => exact .inr (.inr ⟨via, rfl⟩)
  case patrolVisit unit report => exact absurd h (shape_visit_ne ⟨nofun, nofun⟩)
  case outOfTurnVisit unit report => exact absurd h (shape_visit_ne ⟨nofun, nofun⟩)
  all_goals simp only [shape, reduceCtorEq] at h
  all_goals exact .inl ⟨_, _, _, _, _, fun _ => rfl⟩

theorem exec_of_restoring {c : Instr} (h : shape c = .restoring) :
    (∃ upTo shifts found, c = .restore upTo shifts found) ∨ c = .backgroundRebuildDone := by
  cases c
  case restore upTo shifts found => exact .inl ⟨upTo, shifts, found, rfl⟩
  case backgroundRebuildDone => exact .inr rfl
  case patrolVisit unit report => exact absurd h (shape_visit_ne ⟨nofun, nofun⟩)
  case outOfTurnVisit unit report => exact absurd h (shape_visit_ne ⟨nofun, nofun⟩)
  all_goals simp only [shape, reduceCtorEq] at h

theorem exec_of_restart {c : Instr} (h : shape c = .restart) :
    (∃ good ok, c = .rise good ok) ∨ c = .mrNHigh ∨ c = .curtainOutcome := by
  cases c
  case rise good ok => exact .inl ⟨good, ok, rfl⟩
  case mrNHigh => exact .inr (.inl rfl)
  case curtainOutcome => exact .inr (.inr rfl)
  case patrolVisit unit report => exact absurd h (shape_visit_ne ⟨nofun, nofun⟩)
  case outOfTurnVisit unit report => exact absurd h (shape_visit_ne ⟨nofun, nofun⟩)
  all_goals simp only [shape, reduceCtorEq] at h

/-! ### The start of RESTORE without a fall of links -/

/-- The image staged for offline activation becomes active as RESTORE begins (R411). -/
def activateStaged (s : State) : State := if s.get 0xD06002 = 2 then switchSlots s else s

theorem get_activateStaged {k : Nat} (hk : k < 0xD06001 ∨ 0xD06005 < k) (s : State) : (activateStaged s).get k = s.get k := by
  have hne (n : Nat) (h1 : 0xD06001 ≤ n) (h2 : n ≤ 0xD06005) : k ≠ n := by omega
  simp only [activateStaged, switchSlots, get_ite, get_put_ne (hne 0xD06001 (by omega) (by omega)),
    get_put_ne (hne 0xD06002 (by omega) (by omega)), get_put_ne (hne 0xD06004 (by omega) (by omega)),
    get_put_ne (hne 0xD06005 (by omega) (by omega)), ite_self]

theorem keeps_activateStaged (μ : Nat) (s : State) : Keeps μ s (activateStaged s) :=
  fr_cond (fr_switchSlots (by simp [sub, kf_switchSlots]) (keeps_refl μ s)) (keeps_refl μ s)

theorem keepsLinks_activateStaged (s : State) : (activateStaged s).keepsLinks = s.keepsLinks := by
  have hm : (activateStaged s).modes = s.modes := (keeps_activateStaged 0 s).modes rfl
  simp only [State.keepsLinks, State.mode, hm, get_activateStaged (show (0xD00101 : Nat) < 0xD06001 ∨ _ by decide),
    get_activateStaged (show (0x300101 : Nat) < 0xD06001 ∨ _ by decide)]

/-- RESTORE begins in a state whose links stay or have fallen. -/
def beginRestore (s : State) : State :=
  let t := controllerReset (railsOn switchedRails s)
  setMode modeRestore (State.put { t with
    modes := { t.modes with restoreStep := 5, vinValidAt := if t.pow.railsKept then t.clock else t.modes.vinValidAt }
    pow := { t.pow with risen := false } } 0x404101 2)

theorem enterRestore_eq (s : State) :
    enterRestore s = beginRestore (if (activateStaged s).mode == modeRise && !(activateStaged s).keepsLinks then
      dropLink .b (dropLink .a (activateStaged s)) else activateStaged s) := by
  unfold enterRestore beginRestore activateStaged
  with_reducible rfl

theorem enterRestore_of_linksStay {s : State} (h : s.mode ≠ modeRise ∨ s.keepsLinks = true) : enterRestore s = beginRestore (activateStaged s) := by
  have hm : (activateStaged s).mode = s.mode := get_activateStaged (.inl (by decide)) s
  have hstay : ((activateStaged s).mode == modeRise && !(activateStaged s).keepsLinks) = false := by
    rw [keepsLinks_activateStaged, hm]
    rcases h with h | h
    · rw [beq_eq_false_iff_ne.mpr h, Bool.false_and]
    · rw [h, Bool.not_true, Bool.and_false]
  rw [enterRestore_eq, hstay]
  rfl

/-- Every part of the state but the staging array and the groups, as a mask of `Keeps`. -/
def noStoreMask : Nat := 0x3FFFDFF7F

/-- The start of RESTORE leaves the staging array and the groups to step 9. -/
theorem keeps_beginRestore {r s : State} (hs : Keeps noStoreMask r s) : Keeps noStoreMask r (beginRestore s) :=
  have ht : Keeps noStoreMask r (controllerReset (railsOn switchedRails s)) := fr_controllerReset rfl (fr_railsOn rfl _ hs)
  fr_setMode rfl _ (fr_put rfl _ _ (upd_pow_modes rfl rfl ht _ _))

/-! ### Frames -/

theorem leavesAtRest_cells {c : Instr} (h : ∀ (cs : Tbl Word) (s : State), AtRest cs s → NextIs (AtRest cs) (exec c s)) :
    LeavesAtRest c (·.cells) := by
  intro s t ht hw
  have hn := h s.cells s (atRest_iff.mpr hw)
  rw [ht] at hn
  exact hn.1

theorem keeps_of_exec {μ : Nat} {c : Instr} {s t : State} (h : NextIs (Keeps μ s) (exec c s)) (ht : exec c s = .next t) : Keeps μ s t := by
  rwa [ht] at h

theorem rest_exec_of_request {c : Instr} (h : shape c = .request) {s : State} (hs : AtRest cs s) : NextIs (AtRest cs) (exec c s) := by
  rcases exec_of_request h with ⟨req, idx, sub, ask, env, hc⟩ | rfl | ⟨via, rfl⟩
  · rw [hc]
    exact rest_request _ _ _ _ _ hs
  · show NextIs (AtRest cs) (execWakeDelay s)
    unfold execWakeDelay
    split
    · exact rest_serveDeferred (rest_wakeUp hs)
    · exact hs
  · cases via with
    | inl p =>
      show NextIs (AtRest cs) (mailboxCommand p (sanitizeByHost p) s)
      unfold mailboxCommand
      split
      · exact rest_sanitizeByHost _ (rest_cond (rest_wakeBy _ hs) hs)
      · exact hs
    | inr req => exact rest_request _ _ _ _ _ hs

theorem rest_exec_of_restoring {c : Instr} (h : shape c = .restoring) {s : State} (hs : AtRest cs s) : NextIs (AtRest cs) (exec c s) := by
  rcases exec_of_restoring h with ⟨upTo, shifts, found, rfl⟩ | rfl
  · exact rest_restoreSteps _ _ _ _ hs
  · show NextIs (AtRest cs) (execBackgroundRebuildDone s)
    unfold execBackgroundRebuildDone
    split
    · exact rest_restoreSteps _ _ _ _ hs
    · exact hs

theorem keeps_exec_of_request {c : Instr} (h : shape c = .request) (s : State) : NextIs (Keeps kf_request s) (exec c s) := by
  have hs := keeps_refl kf_request s
  rcases exec_of_request h with ⟨req, idx, sub, ask, env, hc⟩ | rfl | ⟨via, rfl⟩
  · rw [hc]
    exact fr_request rfl _ _ _ _ _ hs
  · exact fr_execWakeDelay rfl hs
  · exact fr_execSanitize rfl _ hs

theorem keeps_exec_of_restoring {c : Instr} (h : shape c = .restoring) (s : State) : NextIs (Keeps kf_restoreSteps s) (exec c s) := by
  have hs := keeps_refl kf_restoreSteps s
  rcases exec_of_restoring h with ⟨upTo, shifts, found, rfl⟩ | rfl
  · exact fr_execRestore rfl _ _ _ hs
  · exact fr_execBackgroundRebuildDone rfl hs

theorem keeps_exec_of_restart {c : Instr} (h : shape c = .restart) (s : State) : NextIs (Keeps kf_execRise s) (exec c s) := by
  have hs := keeps_refl kf_execRise s
  rcases exec_of_restart h with ⟨good, ok, rfl⟩ | rfl | rfl
  · exact fr_execRise rfl _ _ hs
  · exact fr_execMrNHigh rfl hs
  · exact fr_execCurtainOutcome rfl hs

theorem keeps_exec_mrNHigh {s : State} (h : s.mode ≠ modeRise ∨ s.keepsLinks = true) : NextIs (Keeps noStoreMask s) (exec .mrNHigh s) := by
  let released : State := { s with pow := { s.pow with mrLow := false } }
  have hs : Keeps noStoreMask s released := upd_pow rfl (keeps_refl _ s) _
  have hrun : NextIs (Keeps noStoreMask s) (.next (enterRestore released)) := by
    rw [nextIs_next, enterRestore_of_linksStay (s := released) h]
    exact keeps_beginRestore (fr_cond (fr_switchSlots rfl hs) hs)
  show NextIs _ (if _ then .next (enterRestore released) else .next released)
  split
  · exact hrun
  · exact hs

end Rest

/-- Settles O15: the parts named stand by the masks of what each command may write (`Keeps`), the cells because no access waits (`AtRest`). -/
theorem requestsAndRestartsFrame : Obligations.RequestsAndRestartsFrame := by
  refine fun c => ⟨fun h s t ht => ?_, fun s t ht h => ?_, fun h s t ht => ?_, fun h => ?_, fun h s t ht => ?_⟩
  · have hk := keeps_of_exec (keeps_exec_of_restart h s) ht
    simp only [hk.deviceTime rfl, hk.restoreStamp rfl, hk.nextSeq rfl, hk.lfsr1 rfl, hk.lfsr2 rfl, hk.nextRead rfl]
  · have hk := keeps_of_exec (keeps_exec_mrNHigh h) ht
    exact ⟨hk.staging rfl, hk.groups rfl⟩
  · have hk := keeps_of_exec (keeps_exec_of_restoring h s) ht
    simp only [hk.nextSeq rfl, hk.stallSince rfl, hk.resultBase rfl, hk.therm rfl]
  · rcases h with h | h
    · exact leavesAtRest_cells fun _ _ hs => rest_exec_of_restoring h hs
    · exact leavesAtRest_cells fun _ _ hs => rest_exec_of_request h hs
  · have hk := keeps_of_exec (keeps_exec_of_request h s) ht
    simp only [hk.restoreStamp rfl, hk.nextSeq rfl, hk.stallSince rfl, hk.lfsr1 rfl, hk.lfsr2 rfl, hk.retries rfl, hk.resultBase rfl]

end Sys2Proof.Machine
end

section
/-! SUPPORT. What leaves a port's queue, and what waits for it, as it is, while order stamps are only taken: one lemma for each operation that
the entry of a store and its transfer use. -/

namespace Sys2Proof.Machine

/-! ### The relation -/

/-- What a port's drain goes by (R90): its queue, what waits for the queue to empty, and whether the port still answers. -/
def PortState.ingress (q : PortState) : List Store × Nat × List PortWait × List (Nat × Nat) × Bool × Bool :=
  (q.queue, q.draining, q.waits, q.flushes, q.closing, q.silent)

/-- `s` comes after `r`: the port's queue and what waits for it stand, and order stamps have only been taken. -/
structure Onward (p : Port) (r s : State) : Prop where
  ingress : (s.port p).ingress = (r.port p).ingress
  stamps : r.nextStamp ≤ s.nextStamp

section Onward

variable {p : Port} {r : State}

theorem on_refl (s : State) : Onward p s s := ⟨rfl, Nat.le_refl _⟩

theorem Onward.trans {s t : State} (h : Onward p r s) (g : Onward p s t) : Onward p r t :=
  ⟨g.ingress.trans h.ingress, Nat.le_trans h.stamps g.stamps⟩

theorem Onward.queue {s : State} (h : Onward p r s) : (s.port p).queue = (r.port p).queue := congrArg Prod.fst h.ingress

theorem Onward.silent {s : State} (h : Onward p r s) : (s.port p).silent = (r.port p).silent := congrArg (·.2.2.2.2.2) h.ingress

theorem Onward.rests {s : State} (h : Onward p r s) (hr : NothingWaits r p) : NothingWaits s p := by
  obtain ⟨hdraining, hwaits, hflushes, hclosing⟩ := hr
  exact ⟨(congrArg (·.2.1) h.ingress).trans hdraining, (congrArg (·.2.2.1) h.ingress).trans hwaits,
    (congrArg (·.2.2.2.1) h.ingress).trans hflushes, (congrArg (·.2.2.2.2.1) h.ingress).trans hclosing⟩

/-- Every part of the state but the ports and the next order stamp, as a mask of `Keeps`. -/
def onwardMask : Nat := 0x3FFFFFF9B

theorem port_keeps {μ : Nat} {s t : State} (h : Keeps μ s t) (ha : μ.testBit 5 = false) (hb : μ.testBit 6 = false) (p : Port) :
    t.port p = s.port p := by
  cases p
  · exact h.portA ha
  · exact h.portB hb

theorem Onward.quiet {s t : State} (hs : Onward p r s) (h : Keeps onwardMask s t) : Onward p r t :=
  hs.trans ⟨by rw [port_keeps h rfl rfl], Nat.le_of_eq (h.nextStamp rfl).symm⟩

theorem on_ite (c : Prop) [Decidable c] (a b : State) : Onward p r (if c then a else b) = if c then Onward p r a else Onward p r b := by
  split <;> rfl
theorem on_cond {c : Prop} [Decidable c] {a b : State} (ha : Onward p r a) (hb : Onward p r b) : Onward p r (if c then a else b) := by
  split <;> assumption
theorem on_foldl {α : Type} {f : State → α → State} {s : State} (h : ∀ t a, Onward p r t → Onward p r (f t a)) (l : List α)
    (hs : Onward p r s) : Onward p r (l.foldl f s) := by
  induction l generalizing s with
  | nil => exact hs
  | cons a l ih => rw [List.foldl_cons]; exact ih (h _ _ hs)

/-! ### Elementary updates -/

theorem on_setPort (q : Port) (v : PortState) {s : State} (hv : v.ingress = (s.port q).ingress) (hs : Onward p r s) :
    Onward p r (s.setPort q v) := by
  refine ⟨?_, by rw [nextStamp_setPort]; exact hs.stamps⟩
  rw [← hs.ingress]
  cases p <;> cases q
  case a.a => exact hv
  case b.b => exact hv
  case a.b => rfl
  case b.a => rfl

theorem on_modPort (q : Port) (f : PortState → PortState) (hf : ∀ v : PortState, (f v).ingress = v.ingress) {s : State}
    (hs : Onward p r s) : Onward p r (s.modPort q f) := on_setPort q _ (hf _) hs

theorem on_put (k v : Nat) {s : State} (hs : Onward p r s) : Onward p r (s.put k v) := hs.quiet (fr_put rfl k v (keeps_refl _ s))
theorem on_addTo (k n : Nat) {s : State} (hs : Onward p r s) : Onward p r (s.addTo k n) := hs.quiet (fr_addTo rfl k n (keeps_refl _ s))
theorem on_bump (k : Nat) {s : State} (hs : Onward p r s) : Onward p r (s.bump k) := hs.quiet (fr_bump rfl k (keeps_refl _ s))
theorem on_raiseTo (k v : Nat) {s : State} (hs : Onward p r s) : Onward p r (s.raiseTo k v) :=
  hs.quiet (fr_raiseTo rfl k v (keeps_refl _ s))
theorem on_emit (o : Out) {s : State} (hs : Onward p r s) : Onward p r (emit o s) := hs.quiet (fr_emit rfl o (keeps_refl _ s))
theorem on_drawn {s : State} (hs : Onward p r s) : Onward p r (drawn s) := hs.quiet (fr_drawn rfl (keeps_refl _ s))
theorem on_takeSeq {s : State} (hs : Onward p r s) : Onward p r (takeSeq s) := hs.quiet (fr_takeSeq rfl (keeps_refl _ s))
theorem on_obs (o : Observe) {s : State} (hs : Onward p r s) : Onward p r { s with obs := o } :=
  hs.quiet (upd_obs rfl (keeps_refl _ s) o)

theorem nextStamp_takeStamp (s : State) : (takeStamp s).nextStamp = s.nextStamp + 1 := by
  unfold takeStamp
  simp only
  split
  · rw [nextStamp_put]
  · rfl

theorem on_takeStamp {s : State} (hs : Onward p r s) : Onward p r (takeStamp s) := by
  have hp : Keeps 0x4 s (takeStamp s) := fr_takeStamp rfl (keeps_refl _ s)
  exact hs.trans ⟨by rw [port_keeps hp rfl rfl], nextStamp_takeStamp s ▸ Nat.le_succ _⟩

/-! ### Reports -/

theorem on_sendMsi (q : Port) (vector : Nat) {s : State} (hs : Onward p r s) : Onward p r (sendMsi q vector s) := by
  unfold sendMsi
  exact on_cond hs (on_cond (on_emit _ hs) (on_modPort q _ (by intro _; rfl) hs))

theorem on_postRecord (q : Port) (severity : Nat) (e : EventRecord) {s : State} (hs : Onward p r s) :
    Onward p r (postRecord q severity e s) := by
  unfold postRecord
  exact on_cond (on_setPort q _ rfl hs) (on_cond (on_sendMsi q _ (on_setPort q _ rfl hs)) (on_setPort q _ rfl hs))

theorem on_latchMsi (src routing mask : Nat) {s : State} (hs : Onward p r s) : Onward p r (latchMsi src routing mask s) := by
  unfold latchMsi
  simp only [hs, on_ite, ite_self, on_sendMsi]

theorem on_placeNotice (src severity stamp : Nat) (snaps : List Snapshot) {s : State} (hs : Onward p r s) :
    Onward p r (placeNotice src severity stamp snaps s) := hs.quiet (fr_placeNotice rfl _ _ _ _ (keeps_refl _ s))

theorem on_recordOccurrence (e : RecorderRecord) {s : State} (hs : Onward p r s) : Onward p r (recordOccurrence e s) :=
  hs.quiet (fr_recordOccurrence rfl _ (keeps_refl _ s))

theorem on_occurOnce (src : Nat) {s : State} (hs : Onward p r s) : Onward p r (occurOnce src s) := by
  unfold occurOnce
  simp (maxDischargeDepth := 40) only [hs, on_ite, ite_self, on_latchMsi, on_placeNotice, on_postRecord, on_put, on_bump, on_recordOccurrence,
    on_takeStamp]

theorem on_raiseDepth (n src : Nat) {s : State} (hs : Onward p r s) : Onward p r (raiseDepth n src s) := by
  induction n generalizing src s with
  | zero => exact on_occurOnce src hs
  | succ n ih => exact on_foldl (fun t a ht => ih a ht) _ (on_occurOnce src hs)

theorem on_raise (src : Nat) {s : State} (hs : Onward p r s) : Onward p r (raise src s) := on_raiseDepth 2 src hs

theorem on_addToCounter (n m : Nat) {s : State} (hs : Onward p r s) : Onward p r (addToCounter n m s) := by
  unfold addToCounter
  exact on_cond (on_put _ _ hs) (on_cond (on_raise _ (on_obs _ (on_put _ _ hs))) (on_put _ _ hs))

theorem on_count (code q n : Nat) {s : State} (hs : Onward p r s) : Onward p r (count code q n s) := by
  unfold count
  exact on_cond (on_foldl (fun _ _ ht => on_addToCounter _ _ ht) _ hs) hs

theorem on_count1 (code q : Nat) {s : State} (hs : Onward p r s) : Onward p r (count1 code q s) := on_count code q 1 hs

/-! ### Samples and responses -/

theorem on_placeSample (e : SampleRecord) {s : State} (hs : Onward p r s) : Onward p r (placeSample e s) := by
  unfold placeSample
  simp (maxDischargeDepth := 40) only [hs, on_ite, ite_self, on_bump, on_raise, on_obs]

theorem on_sampleWindow (q : Port) (opcode line : Nat) (sampled : Bool) {s : State} (hs : Onward p r s) :
    Onward p r (sampleWindow q opcode line sampled s) := by
  unfold sampleWindow
  exact on_cond (on_placeSample _ (on_takeStamp hs)) hs

theorem on_sampleRead (q : Port) (opcode line accepted outcome unit steps cls flags : Nat) (poison : Bool) {s : State} (hs : Onward p r s) :
    Onward p r (sampleRead q opcode line accepted outcome unit steps cls flags poison s) := on_placeSample _ (on_takeStamp hs)

theorem on_sampleStore (q : Port) (x : Store) (stamp : Nat) {s : State} (hs : Onward p r s) : Onward p r (sampleStore q x stamp s) := by
  unfold sampleStore
  exact on_cond (on_placeSample _ hs) hs

theorem on_sendData (q : Port) (tag : Nat) (d : Line) (poison : Bool) {s : State} (hs : Onward p r s) :
    Onward p r (sendData q tag d poison s) := by
  unfold sendData
  have h := on_count 0x05 q.code 64 (on_modPort q (fun v => { v with windowRead := v.windowRead + 64 }) (fun _ => rfl)
    (on_emit (.readData q tag (if poison then 0 else d) poison (s.devLoad q)) hs))
  exact on_cond hs (on_cond (on_count1 _ _ h) h)

theorem on_answerBarrier (q : Port) (b : BarrierRead) {s : State} (hs : Onward p r s) : Onward p r (answerBarrier q b s) :=
  on_raiseTo _ _ (on_sampleWindow _ _ _ _ (on_sendData _ _ _ _ hs))

theorem on_releaseBarriers (q : Port) (tag : Nat) {s : State} (hs : Onward p r s) : Onward p r (releaseBarriers q tag s) :=
  on_foldl (fun _ b ht => on_answerBarrier q b ht) _ (on_modPort q _ (by intro _; rfl) hs)

theorem on_sendCmp (q : Port) (tag : Nat) {s : State} (hs : Onward p r s) : Onward p r (sendCmp q tag s) :=
  on_cond hs (on_releaseBarriers q tag (on_emit _ hs))

theorem on_cmpStore (q : Port) (x : Store) {s : State} (hs : Onward p r s) : Onward p r (cmpStore q x s) :=
  on_cond hs (on_sendCmp q _ hs)

/-! ### Reads -/

theorem on_addRead (x : Read) {s : State} (hs : Onward p r s) : Onward p r (addRead x s) := hs.quiet (fr_addRead rfl x (keeps_refl _ s))
theorem on_dropRead (id : Nat) {s : State} (hs : Onward p r s) : Onward p r (dropRead id s) := hs.quiet (fr_dropRead rfl id (keeps_refl _ s))
theorem on_startRebuild (seg : Nat) {s : State} (hs : Onward p r s) : Onward p r (startRebuild seg s) :=
  hs.quiet (fr_startRebuild rfl seg (keeps_refl _ s))

theorem on_promptDone (x : Read) {s : State} (hs : Onward p r s) : Onward p r (promptDone x s) := by
  unfold promptDone
  exact on_cond (on_raise _ (on_bump _ (on_raiseTo _ _ hs))) (on_raiseTo _ _ hs)

theorem on_answerRead (x : Read) (v : Version) {s : State} (hs : Onward p r s) : Onward p r (answerRead x v s) := by
  unfold answerRead
  split <;> simp (maxDischargeDepth := 40) only [hs, on_ite, ite_self, on_dropRead, on_promptDone, on_sampleRead, on_sendData]

theorem on_answerMerges (q : Port) (line : Nat) {s : State} (hs : Onward p r s) : Onward p r (answerMerges q line s) := by
  unfold answerMerges
  exact on_cond hs (on_foldl (fun _ _ ht => on_answerRead _ _ ht) _ hs)

theorem on_dropPrefetches (d : Nat) {s : State} (hs : Onward p r s) : Onward p r (dropPrefetches d s) := by
  unfold dropPrefetches
  exact on_cond (on_foldl (fun _ _ ht => on_bump _ (on_dropRead _ ht)) _ hs) hs

theorem on_noteReconstruction (x : Read) {s : State} (hs : Onward p r s) : Onward p r (noteReconstruction x s) := by
  unfold noteReconstruction
  split
  · exact on_count1 _ _ hs
  · exact on_count1 _ _ (on_bump _ hs)

theorem on_placeRead (x : Read) {s : State} (hs : Onward p r s) : Onward p r (placeRead x s) := by
  unfold placeRead
  simp only [hs, on_ite, ite_self, on_addRead, on_dropPrefetches, on_noteReconstruction]

theorem on_tagRead (x : Read) {s : State} (hs : Onward p r s) : Onward p r (tagRead x s) := by
  unfold tagRead
  refine on_cond hs ?_
  split
  · exact hs
  · exact on_placeRead _ hs

theorem on_dispatchRead (q : Port) (x : Read) {s : State} (hs : Onward p r s) : Onward p r (dispatchRead q x s) := by
  unfold dispatchRead
  split <;> simp (maxDischargeDepth := 40) +contextual only [hs, on_ite, ite_self, implies_true, on_bump, on_count1, on_dropRead,
    on_placeRead, on_tagRead, on_foldl]

theorem on_readMedium (q : Port) (x : Read) {s : State} (hs : Onward p r s) : Onward p r (readMedium q x s) := by
  unfold readMedium
  split <;> simp only [hs, on_ite, ite_self, on_addRead, on_answerRead, on_dispatchRead, on_startRebuild]

end Onward

end Sys2Proof.Machine
end

section
/-! SUPPORT. Host stores at a port: how they enter its queue, and how they are denied (R12, R13, R21, R67, R190). -/

namespace Sys2Proof.Machine

/-! ### Responses -/

theorem out_of_evolves {s t : State} {o : Out} (h : Evolves s t) (ho : o ∈ s.out) : o ∈ t.out := h.sent.subset ho

/-- A port that is not silent sends its Cmp (R71). -/
theorem cmp_mem_sendCmp {p : Port} {s : State} (h : (s.port p).silent = false) (tag : Nat) : ∃ d, Out.cmp p tag d ∈ (sendCmp p tag s).out := by
  have hsend : sendCmp p tag s = releaseBarriers p tag (emit (.cmp p tag (s.devLoad p)) s) := by
    unfold sendCmp
    rw [h]
    exact if_neg Bool.false_ne_true
  rw [hsend]
  exact ⟨s.devLoad p, out_of_evolves (ev_releaseBarriers p tag (ev_refl _)) (by simp only [out_emit, List.mem_append, List.mem_singleton, or_true])⟩

theorem not_silent_of_writeOpen {s : State} {p : Port} (h : s.writeOpen p = true) : (s.port p).silent = false := by
  simp only [State.writeOpen, State.memOpen, Bool.and_eq_true, Bool.not_eq_true'] at h
  exact h.1.1.1.2

/-! ### The counts of an accepted write -/

theorem on_countEligible (q : Port) (kindBit : Nat) {p : Port} {r s : State} (hs : Onward p r s) : Onward p r (countEligible q kindBit s) := by
  unfold countEligible
  exact on_cond (on_drawn (on_bump _ hs)) hs

theorem on_countAccepted (q : Port) (code : Nat) {p : Port} {r s : State} (hs : Onward p r s) : Onward p r (countAccepted q code s) :=
  on_count _ _ _ (on_modPort q _ (by intro _; rfl) (on_countEligible q 3 (on_count1 _ _ hs)))

/-! ### Entry into the queue -/

theorem on_grantCredits (q : Port) {p : Port} {r s : State} (hs : Onward p r s) : Onward p r (grantCredits q s) := by
  unfold grantCredits
  exact on_cond hs (on_modPort q _ (by intro _; rfl) hs)

/-- A store that enters a port's queue is its last; nothing else that the drain goes by changes. -/
theorem on_enqueue (p : Port) (x : Store) (s : State) :
    Onward p (s.modPort p fun q => { q with queue := q.queue ++ [x] }) (enqueue p x s) :=
  on_addTo _ _ (on_takeSeq (on_grantCredits p (on_modPort p _ (by intro _; rfl) (on_refl _))))

theorem silent_enqueue (p : Port) (x : Store) (s : State) : ((enqueue p x s).port p).silent = (s.port p).silent := by
  rw [(on_enqueue p x s).silent, port_modPort_self]

theorem queue_enqueue_countAccepted (p : Port) (code : Nat) (x : Store) (s : State) :
    ((enqueue p x (countAccepted p code s)).port p).queue = (s.port p).queue ++ [x] := by
  rw [(on_enqueue p x _).queue, port_modPort_self, (on_countAccepted p code (on_refl s)).queue]

/-- A whole-line store that a port accepts enters its queue, and its Cmp leaves with it while the module is protected (R12, R21). -/
theorem acceptWhole_enters {s : State} {p : Port} {line : Nat} (ho : s.writeOpen p = true) (hm : s.mayStore p line = true) (tag : Nat)
    (be : ByteEnables) (d : Line) (poison : Bool) (code : Nat) :
    ((acceptWhole p tag line be d poison code s).port p).queue = (s.port p).queue ++ [s.newStore p tag line be d poison] ∧
      (s.pow.persistAtEntry = true → ∃ o, Out.cmp p tag o ∈ (acceptWhole p tag line be d poison code s).out) := by
  have hq := queue_enqueue_countAccepted p code (s.newStore p tag line be d poison) s
  have hs := (silent_enqueue p (s.newStore p tag line be d poison) _).trans ((on_countAccepted p code (on_refl s)).silent.trans
    (not_silent_of_writeOpen ho))
  simp only [acceptWhole, ho, hm, Bool.not_true, Bool.false_eq_true, if_false]
  cases hp : s.pow.persistAtEntry
  · exact ⟨hq, fun h => absurd h Bool.false_ne_true⟩
  · refine ⟨((on_sendCmp p tag (on_refl _)).queue).trans hq, fun _ => cmp_mem_sendCmp hs tag⟩

/-- The victim that a queued merge takes leaves the queue alone (R182). -/
theorem on_takeVictim {p : Port} {r s : State} (hs : Onward p r s) : Onward p r (takeVictim s) :=
  on_bump _ (hs.quiet (fr_takeBlocks rfl _ (keeps_refl _ s)))

theorem on_mergeRead (q : Port) (x : Store) {p : Port} {r s : State} (hs : Onward p r s) : Onward p r (mergeRead q x s) := by
  unfold mergeRead
  exact on_cond hs (on_readMedium q _ hs)

/-- A partial write that a port accepts enters its queue, and waits there for its merge (R13). -/
theorem acceptPartial_enters {s : State} {p : Port} {line : Nat} (ho : s.writeOpen p = true) (hm : s.mayStore p line = true) (tag : Nat)
    (be : ByteEnables) (d : Line) :
    ∃ v, ((acceptPartial p tag line be d s).port p).queue = (s.port p).queue ++ [{ s.newStore p tag line be d false with victim := v }] := by
  refine ⟨!s.slotFree line (s.storeGroup p line), ?_⟩
  simp only [acceptPartial, ho, hm, Bool.not_true, Bool.false_eq_true, if_false]
  rw [← queue_enqueue_countAccepted p 0x04]
  exact (on_mergeRead p _ (on_startRebuild _ (on_cond (on_takeVictim (on_refl _)) (on_refl _)))).queue

/-! ### Denied stores -/

/-- An entry that the counts of an accepted write and its Cmp leave alone. -/
theorem get_sendCmp_countAccepted {k : Nat} (hc : kw_countAccepted.has k = false) (hs : kw_sendCmp.has k = false) (hr : ¬reportKey k)
    (p : Port) (tag code : Nat) (s : State) : (sendCmp p tag (countAccepted p code s)).get k = s.get k :=
  kp_sendCmp ⟨hs, .inl hr⟩ p tag (kp_countAccepted ⟨hc, .inl hr⟩ p code rfl)

/-- A denied store receives Cmp, is counted and reported, and changes nothing else (R190). -/
theorem denyStore_denies {s : State} {p : Port} (h : (s.port p).silent = false) (tag code : Nat) :
    let t := denyStore p tag (countAccepted p code s)
    (∃ d, Out.cmp p tag d ∈ t.out) ∧ Counted 0x406007 1 s t ∧ Raised 90 s t ∧ (t.port p).queue = (s.port p).queue ∧ t.staging = s.staging := by
  have hc := on_countAccepted p code (on_refl (p := p) s)
  obtain ⟨d, hd⟩ := cmp_mem_sendCmp (hc.silent.trans h) tag
  have hmode : ((sendCmp p tag (countAccepted p code s)).bump 0x406007).mode = s.mode :=
    (get_bump_ne (by decide)).trans (get_sendCmp_countAccepted rfl rfl (by decide) p tag code s)
  have hcount : (sendCmp p tag (countAccepted p code s)).get 0x406007 = s.get 0x406007 :=
    get_sendCmp_countAccepted rfl rfl (by decide) p tag code s
  have hstaging : Keeps kf_countAccepted s (denyStore p tag (countAccepted p code s)) :=
    fr_raise rfl 90 (fr_bump rfl _ (fr_sendCmp rfl p tag (fr_countAccepted rfl p code (keeps_refl _ s))))
  refine ⟨⟨d, sentFrom_mem (sentFrom_raise 90 _) hd⟩, ?_, fun ho => latch_self ?_, ?_, hstaging.staging rfl⟩
  · rw [Counted, denyStore, get_raise (by decide), get_bump_self, hcount]
  · rw [canOccur_of_mode hmode, ho]
  · exact (on_raise 90 (on_bump _ (on_sendCmp p tag hc))).queue

/-- What a denied whole-line or poisoned write does. -/
theorem acceptWhole_of_denied {s : State} {p : Port} {line : Nat} (ho : s.writeOpen p = true) (hm : s.mayStore p line = false) (tag : Nat)
    (be : ByteEnables) (d : Line) (poison : Bool) (code : Nat) :
    acceptWhole p tag line be d poison code s = denyStore p tag (countAccepted p code s) := by
  simp only [acceptWhole, ho, hm, Bool.not_true, Bool.not_false, Bool.false_eq_true, if_false, if_true]

theorem acceptPartial_of_denied {s : State} {p : Port} {line : Nat} (ho : s.writeOpen p = true) (hm : s.mayStore p line = false) (tag : Nat)
    (be : ByteEnables) (d : Line) : acceptPartial p tag line be d s = denyStore p tag (countAccepted p 0x04 s) := by
  simp only [acceptPartial, ho, hm, Bool.not_true, Bool.not_false, Bool.false_eq_true, if_false, if_true]

/-! ### The commands -/

theorem exec_fullLineWrite {line : Nat} (h : line < dataLines) (p : Port) (tag : Nat) (d : Line) (s : State) :
    exec (.fullLineWrite p tag line d) s = .next (acceptWhole p tag line fullEnables d false 0x03 s) := if_pos h

theorem exec_poisonedWrite {line : Nat} (h : line < dataLines) (p : Port) (tag : Nat) (s : State) :
    exec (.poisonedWrite p tag line) s = .next (acceptWhole p tag line fullEnables 0 true 0x03 s) := if_pos h

theorem exec_partialWrite {line : Nat} (h : line < dataLines) (p : Port) (tag : Nat) (be : ByteEnables) (d : Line) (s : State) :
    exec (.partialWrite p tag line be d) s =
      .next (if be = fullEnables then acceptWhole p tag line fullEnables d false 0x03 s else acceptPartial p tag line be d s) := by
  show execPartialWrite p tag line be d s = _
  unfold execPartialWrite
  rw [if_pos h]
  split <;> rfl

/-- A denied write of any kind is denied with the counts of an accepted write. -/
theorem exec_of_denied {s : State} {p : Port} {line : Nat} (hl : line < dataLines) (ho : s.writeOpen p = true) (hm : s.mayStore p line = false)
    {tag : Nat} {be : ByteEnables} {d : Line} {c : Instr}
    (hc : c ∈ [Instr.fullLineWrite p tag line d, .partialWrite p tag line be d, .poisonedWrite p tag line]) :
    ∃ code, exec c s = .next (denyStore p tag (countAccepted p code s)) := by
  simp only [List.mem_cons, List.not_mem_nil, or_false] at hc
  rcases hc with rfl | rfl | rfl
  · exact ⟨_, (exec_fullLineWrite hl ..).trans (congrArg _ (acceptWhole_of_denied ho hm ..))⟩
  · rw [exec_partialWrite hl]
    split
    · exact ⟨_, congrArg _ (acceptWhole_of_denied ho hm ..)⟩
    · exact ⟨_, congrArg _ (acceptPartial_of_denied ho hm ..)⟩
  · exact ⟨_, (exec_poisonedWrite hl ..).trans (congrArg _ (acceptWhole_of_denied ho hm ..))⟩

/-- Settles O16: an accepted store enters the queue as `State.newStore` makes it, and a denied one ends in `denyStore`. -/
theorem hostStoresEnterAndAreDenied : Obligations.HostStoresEnterAndAreDenied := by
  refine ⟨fun s p tag line data hl ho hm => ⟨?_, fun be hbe => ?_, ?_⟩, fun s p tag line be data hl ho hm c hc => ?_⟩
  · obtain ⟨hq, hcmp⟩ := acceptWhole_enters ho hm tag fullEnables data false 0x03
    exact ⟨_, exec_fullLineWrite hl .., ⟨_, hq, rfl, rfl, rfl, rfl, rfl, rfl, rfl, rfl⟩, hcmp⟩
  · obtain ⟨v, hq⟩ := acceptPartial_enters ho hm tag be data
    exact ⟨_, (exec_partialWrite hl ..).trans (congrArg _ (if_neg hbe)), _, hq, rfl, rfl, rfl, rfl, rfl, rfl, rfl, rfl⟩
  · obtain ⟨hq, hcmp⟩ := acceptWhole_enters ho hm tag fullEnables 0 true 0x03
    exact ⟨_, exec_poisonedWrite hl .., ⟨_, hq, rfl, rfl, rfl, rfl, rfl, rfl⟩, hcmp⟩
  · obtain ⟨code, hrun⟩ := exec_of_denied hl ho hm hc
    exact ⟨_, hrun, denyStore_denies (not_silent_of_writeOpen ho) tag code⟩

end Sys2Proof.Machine
end

section
/-! SUPPORT. The transfer of a queued store to the staging array, where its line belongs to no write group and no offline region, and the stall of
the continuous drain (R13, R88, R89, R93, R180, R194). -/

namespace Sys2Proof.Machine

/-! ### A region's attributes follow the region table -/

/-- An entry of the region table is read from the table alone. -/
theorem get_regionKey_of_regs {s t : State} (h : regionRegs t = regionRegs s) {sub : Nat} (hsub : sub < 256) (i : Nat) :
    t.get (regionKey i sub) = s.get (regionKey i sub) := by
  have hfind (u : State) : tfind (regionKey i sub) u.dict = tfind (regionKey i sub) (regionRegs u) := by
    have hk : 0x410000 ≤ regionKey i sub ∧ regionKey i sub < 0x410000 + 0x4000 := by
      unfold regionKey
      omega
    unfold regionRegs trange
    rw [tfind_filter fun k => decide (0x410000 ≤ k) && decide (k < 0x410000 + 0x4000), decide_eq_true hk.1, decide_eq_true hk.2]
    rfl
  simp only [State.get, hfind t, hfind s, h]

theorem regionOfLine_of_regs {s t : State} (h : regionRegs t = regionRegs s) (line : Nat) : t.regionOfLine line = s.regionOfLine line := by
  simp only [State.regionOfLine, State.regionOfDpa, enabledRegions_of_regs h, State.regionCovers, State.regionEnabled,
    get_regionKey_of_regs h (show 0x01 < 256 by decide), get_regionKey_of_regs h (show 0x02 < 256 by decide),
    get_regionKey_of_regs h (show 0x03 < 256 by decide)]

theorem lineOffline_of_regs {s t : State} (h : regionRegs t = regionRegs s) (line : Nat) : t.lineOffline line = s.lineOffline line := by
  simp only [State.lineOffline, State.regionOffline, regionOfLine_of_regs h, get_regionKey_of_regs h (show 0x0C < 256 by decide)]

/-- Where a store goes depends on the region table and the groups alone (R129, R130, R293). -/
theorem fate_of_regs {s t : State} (h : regionRegs t = regionRegs s) (hg : t.groups = s.groups) (agent : Option Port) (line : Nat) :
    t.fate agent line = s.fate agent line := by
  have hbound : t.boundGroup (pageOfLine line) = s.boundGroup (pageOfLine line) := by unfold State.boundGroup; rw [hg]
  have hgroup : t.group = s.group := by funext g; unfold State.group; rw [hg]
  have hprov : t.provisionalLines = s.provisionalLines := by unfold State.provisionalLines; rw [hg]
  simp only [State.fate, lineOffline_of_regs h, hbound, hgroup, hprov]

/-! ### The staging array -/

/-- The staging array holds a line of no group, with its value and its order stamp. -/
def Stages (line : Nat) (d : Line) (poison : Bool) (stamp : Nat) (s : State) : Prop :=
  ∃ l ∈ s.staging, l.line = line ∧ l.grp = none ∧ l.data = d ∧ l.poison = poison ∧ l.stamp = stamp

section Stages

variable {line stamp : Nat} {d : Line} {poison : Bool}

theorem Stages.of_staging {s t : State} (hs : Stages line d poison stamp s) (h : t.staging = s.staging) : Stages line d poison stamp t := by
  unfold Stages
  rw [h]
  exact hs

/-- The log writer takes lines without changing what they hold. -/
theorem Stages.taken {s t : State} (hs : Stages line d poison stamp s) (c : Staged → Prop) [DecidablePred c]
    (h : t.staging = s.staging.map fun l => if c l then { l with taken := true } else l) : Stages line d poison stamp t := by
  obtain ⟨l, hl, hp⟩ := hs
  refine ⟨_, h ▸ List.mem_map_of_mem hl, ?_⟩
  split <;> exact hp

theorem Stages.evict {s : State} (hs : Stages line d poison stamp s) : Stages line d poison stamp (evict s) := by
  have hold : Stages line d poison stamp (takeOld s) := hs.taken (fun l => l.age + 1073741824 ≤ s.nextStamp) rfl
  unfold Machine.evict
  simp only
  split
  · exact hold.taken (fun l => (List.contains _ l.block) = true) rfl
  · exact hold

end Stages

/-- A store that is staged stands in the array with its stamp (R180). -/
theorem stages_stageLine (line : Nat) (tag : Option Nat) (d : Line) (poison : Bool) (stamp wmode : Nat) (cmpTo : List (Port × Nat)) (s : State) :
    Stages line (if poison then 0 else d) poison stamp (stageLine line none tag d poison stamp wmode cmpTo s) :=
  Stages.evict ⟨_, List.mem_append_right _ (List.mem_singleton_self _), rfl, rfl, rfl, rfl, rfl⟩

theorem stages_storeCommitted (line : Nat) (d : Line) (poison : Bool) (stamp wmode : Nat) (cmpTo : List (Port × Nat)) (s : State) :
    Stages line (if poison then 0 else d) poison stamp (storeCommitted line d poison stamp wmode cmpTo s) := by
  let staged := stageLine line none none d poison stamp wmode cmpTo s
  have h : Keeps 0x5000C00 staged (storeCommitted line d poison stamp wmode cmpTo s) :=
    fr_pruneRanges rfl _ (fr_dirtySegment rfl _ (fr_storeToCaches rfl _ _ _ _ (keeps_refl _ staged)))
  exact (stages_stageLine line none d poison stamp wmode cmpTo s).of_staging (h.staging rfl)

theorem on_storeCommitted {p : Port} {r : State} (line : Nat) (d : Line) (poison : Bool) (stamp wmode : Nat) (cmpTo : List (Port × Nat)) {s : State}
    (hs : Onward p r s) : Onward p r (storeCommitted line d poison stamp wmode cmpTo s) :=
  hs.quiet (fr_storeCommitted rfl _ _ _ _ _ _ (keeps_refl _ s))

/-! ### Global visibility -/

/-- A store to a line of no group and no offline region is staged under the next order stamp (R14, R93). -/
theorem visibleStore_stages {s : State} {p : Port} {x : Store} (hf : s.fate (some p) x.line = .plain) (d : Line) (poison : Bool) :
    Stages x.line (if poison then 0 else d) poison s.nextStamp (visibleStore p x d poison s) ∧
      Onward p (takeStamp s) (visibleStore p x d poison s) := by
  simp only [visibleStore, hf]
  let late : List (Port × Nat) := if (x.prot || x.forgotten) = true then [] else [(p, x.tag)]
  let placed := storeCommitted x.line d poison s.nextStamp x.wmode late (takeStamp s)
  have hstages : Stages x.line (if poison then 0 else d) poison s.nextStamp placed := stages_storeCommitted _ _ _ _ _ _ _
  have honward : Onward p (takeStamp s) placed := on_storeCommitted _ _ _ _ _ _ (on_refl _)
  have hkeeps := keeps_refl kf_sendCmp placed
  exact ⟨hstages.of_staging ((fr_sampleStore rfl p x _ (fr_cond (fr_cmpStore rfl p x hkeeps) hkeeps)).staging rfl),
    on_sampleStore _ _ _ (on_cond (on_cmpStore _ _ honward) honward)⟩

/-! ### Leaving the queue -/

/-- The state with other ports and reads. -/
def withPortsReads (s : State) (a b : PortState) (l : List Read) : State := { s with portA := a, portB := b, reads := l }

/-- `t` differs from `s` in its ports and reads alone. -/
def PortsReads (s t : State) : Prop := ∃ a b l, t = withPortsReads s a b l

theorem PortsReads.modPort {s t : State} (h : PortsReads s t) (p : Port) (f : PortState → PortState) : PortsReads s (t.modPort p f) := by
  obtain ⟨a, b, l, rfl⟩ := h
  cases p
  · exact ⟨_, _, _, rfl⟩
  · exact ⟨_, _, _, rfl⟩

theorem PortsReads.reads {s t : State} (h : PortsReads s t) (l : List Read) : PortsReads s { t with reads := l } := by
  obtain ⟨a, b, _, rfl⟩ := h
  exact ⟨a, b, l, rfl⟩

theorem PortsReads.refillSlot {s t : State} (h : PortsReads s t) (region : Nat) : PortsReads s (refillSlot region t) := by
  unfold Machine.refillSlot
  split
  · split
    · exact h.reads _
    · exact h
  · exact h

theorem PortsReads.dropRead {s t : State} (h : PortsReads s t) (id : Nat) : PortsReads s (dropRead id t) := by
  unfold Machine.dropRead
  simp only
  split
  · exact ((h.reads _).refillSlot _).refillSlot _
  · exact h.reads _

/-- A store that leaves its queue changes ports and reads alone. -/
theorem portsReads_endMerge_unqueue (p : Port) (x : Store) (s : State) : PortsReads s (endMerge p x (unqueue p x s)) := by
  have h : PortsReads s (unqueue p x s) := by
    have hmod : PortsReads s _ := PortsReads.modPort ⟨s.portA, s.portB, s.reads, rfl⟩ p fun q =>
      { q with queue := q.queue.filter fun y => y.seq != x.seq }
    unfold unqueue grantCredits
    split
    · exact hmod
    · exact hmod.modPort p _
  unfold endMerge
  split
  · exact h.dropRead _
  · exact h

theorem PortsReads.fate {s t : State} (h : PortsReads s t) (agent : Option Port) (line : Nat) : t.fate agent line = s.fate agent line := by
  obtain ⟨a, b, l, rfl⟩ := h
  rfl

theorem PortsReads.visibleTo {s t : State} (h : PortsReads s t) (p : Port) (line : Nat) : t.visibleTo p line = s.visibleTo p line := by
  obtain ⟨a, b, l, rfl⟩ := h
  rfl

theorem PortsReads.nextStamp {s t : State} (h : PortsReads s t) : t.nextStamp = s.nextStamp := by
  obtain ⟨a, b, l, rfl⟩ := h
  rfl

/-- The port's queue without a store. -/
def withoutStore (p : Port) (x : Store) (s : State) : State := s.modPort p fun q => { q with queue := q.queue.filter fun y => y.seq != x.seq }

theorem on_endMerge_unqueue (p : Port) (x : Store) (s : State) : Onward p (withoutStore p x s) (endMerge p x (unqueue p x s)) := by
  have h : Onward p (withoutStore p x s) (unqueue p x s) := on_grantCredits p (on_refl _)
  unfold endMerge
  split
  · exact on_dropRead _ h
  · exact h

theorem ne_seq_of_mem_withoutStore {p : Port} {x y : Store} {s : State} (h : y ∈ ((withoutStore p x s).port p).queue) : y.seq ≠ x.seq := by
  rw [withoutStore, port_modPort_self] at h
  simpa using (List.mem_filter.mp h).2

/-! ### The transfer -/

/-- What the transfer of a store to a line of no group and no offline region comes to: the store is staged under the next order stamp, it has
left the queue, and nothing waits for the queue that did not. -/
structure Transferred (p : Port) (x : Store) (d : Line) (poison : Bool) (s t : State) : Prop where
  staged : Stages x.line (if poison then 0 else d) poison s.nextStamp t
  left : ∀ y ∈ (t.port p).queue, y.seq ≠ x.seq
  stamp : s.nextStamp < t.nextStamp
  rests : NothingWaits s p → NothingWaits t p

theorem Transferred.onward {p : Port} {x : Store} {d : Line} {poison : Bool} {s t u : State} (h : Transferred p x d poison s t) (ho : Onward p t u)
    (hs : u.staging = t.staging) : Transferred p x d poison s u :=
  ⟨h.staged.of_staging hs, ho.queue ▸ h.left, Nat.lt_of_lt_of_le h.stamp ho.stamps, fun hr => ho.rests (h.rests hr)⟩

theorem visibleStore_transfers {s : State} {p : Port} {x : Store} (hf : s.fate (some p) x.line = .plain) (d : Line) (poison : Bool) :
    Transferred p x d poison s (visibleStore p x d poison (endMerge p x (unqueue p x s))) := by
  have hpr := portsReads_endMerge_unqueue p x s
  obtain ⟨hstages, hon⟩ := visibleStore_stages (d := d) (poison := poison) ((hpr.fate (some p) x.line).trans hf)
  have hfrom : Onward p (withoutStore p x s) (visibleStore p x d poison (endMerge p x (unqueue p x s))) :=
    (on_takeStamp (on_endMerge_unqueue p x s)).trans hon
  refine ⟨hpr.nextStamp ▸ hstages, fun y hy => ne_seq_of_mem_withoutStore (hfrom.queue ▸ hy), ?_, fun hr => hfrom.rests ?_⟩
  · have hs := hon.stamps
    rw [nextStamp_takeStamp, hpr.nextStamp] at hs
    exact hs
  · simpa only [NothingWaits, withoutStore, port_modPort_self] using hr

theorem transfer_whole {s : State} {p : Port} {x : Store} (hw : x.whole = true) (hf : s.fate (some p) x.line = .plain) :
    Transferred p x x.data x.poison s (transfer p x s) := by
  simp only [transfer, hw, if_true]
  exact visibleStore_transfers hf _ _

/-- A partial write is merged into its line as it then stands (R13). -/
theorem transfer_partial {s : State} {p : Port} {x : Store} (hw : x.whole = false) (hf : s.fate (some p) x.line = .plain)
    (hp : (s.visibleTo p x.line).poison = false) :
    Transferred p x (mergeLine x.be (s.visibleTo p x.line).data x.data) false s (transfer p x s) := by
  have hpr := portsReads_endMerge_unqueue p x s
  have hfate := (hpr.fate (some p) x.line).trans hf
  simp only [transfer, hw, hfate, StoreFate.drops, hpr.visibleTo, hp, Bool.false_eq_true, if_false]
  exact (visibleStore_transfers hf _ _).onward (on_answerMerges p _ (on_refl _))
    ((fr_answerMerges (μ := kf_answerMerges) rfl p _ (keeps_refl _ _)).staging rfl)

/-! ### The drain -/

theorem setPort_port (s : State) (p : Port) : s.setPort p (s.port p) = s := by cases p <;> rfl

/-- Where nothing waits for the queue, to resume the port changes nothing. -/
theorem resumePort_of_rests {s : State} {p : Port} (h : NothingWaits s p) : resumePort p s = s := by
  obtain ⟨hdraining, hwaits, hflushes, -⟩ := h
  have hport : { s.port p with flushes := (s.port p).flushes.filter fun f => !s.flushOver p f } = s.port p := by
    rw [hflushes, List.filter_nil, ← hflushes]
  have hmod : (s.modPort p fun q => { q with flushes := q.flushes.filter fun f => !s.flushOver p f }) = s :=
    (congrArg (s.setPort p) hport).trans (setPort_port s p)
  have hserve : serveFlushes p s = s := by
    unfold serveFlushes
    rw [hmod, hflushes]
    rfl
  simp only [resumePort, hdraining, if_true, hwaits, List.length_nil, serveWaits, hserve]

/-- Where nothing waits for the queue, a drain that goes on changes nothing. -/
theorem goOn_of_rests {s : State} {p : Port} (h : NothingWaits s p) : goOn p s = s := by
  obtain ⟨-, -, -, hclosing⟩ := id h
  simp only [goOn, resumePort_of_rests h, closeDrained, hclosing, Bool.false_and, Bool.false_eq_true, if_false]

/-- The end of a stall changes its record alone. -/
theorem regionRegs_endStall (s : State) : regionRegs (endStall s) = regionRegs s := by
  unfold endStall
  split
  · unfold State.raiseTo
    simp only
    split
    · exact regionRegs_put (by decide) _
    · rfl
  · rfl

theorem keeps_endStall (s : State) : Keeps kf_endStall s (endStall s) := fr_endStall rfl (keeps_refl _ s)

theorem transferred_of_endStall {p : Port} {x : Store} {d : Line} {poison : Bool} {s t : State} (h : Transferred p x d poison (endStall s) t) :
    Transferred p x d poison s t := by
  have hk := keeps_endStall s
  have hn : (endStall s).nextStamp = s.nextStamp := hk.nextStamp rfl
  refine ⟨hn ▸ h.staged, h.left, hn ▸ h.stamp, fun hr => h.rests ?_⟩
  rw [NothingWaits, port_keeps hk rfl rfl]
  exact hr

theorem whole_of_nextTransfer {s : State} {p : Port} {x : Store} (h : s.nextTransfer p = some x) : x.whole = true :=
  ((Bool.and_eq_true _ _).mp (List.find?_some (p := fun x : Store => x.whole && s.mayLeave p x) h)).1

theorem not_whole_of_findPartial {s : State} {p : Port} {tag : Nat} {x : Store} (h : s.findPartial p tag = some x) : x.whole = false := by
  simpa using ((Bool.and_eq_true _ _).mp (List.find?_some (p := fun x : Store => x.tag == tag && !x.whole) h)).2

theorem exec_globalVisibilityTransfer {s : State} {p : Port} {x : Store} (h : s.nextTransfer p = some x) :
    exec (.globalVisibilityTransfer p) s =
      .next (if s.stagingFull then stallDrain s else goOn p (rearmStall (transfer p x (endStall s)))) := by
  show execGlobalVisibilityTransfer p s = _
  unfold execGlobalVisibilityTransfer
  rw [h]
  simp only
  split <;> rfl

theorem exec_mergePlacement {s : State} {p : Port} {tag : Nat} {x : Store} (h : s.findPartial p tag = some x) (hr : s.mergeReady p x = true) :
    exec (.mergePlacement p tag) s = .next (goOn p (transfer p x s)) := by
  show execMergePlacement p tag s = _
  unfold execMergePlacement
  rw [h]
  simp only [hr, if_true]

/-- The continuous drain transfers its next whole-line store (R88, R93). -/
theorem drain_transfers {s : State} {p : Port} {x : Store} (hx : s.nextTransfer p = some x) (hf : s.fate (some p) x.line = .plain)
    (hr : NothingWaits s p) : Transferred p x x.data x.poison s (goOn p (rearmStall (transfer p x (endStall s)))) := by
  have hfate : (endStall s).fate (some p) x.line = .plain :=
    (fate_of_regs (regionRegs_endStall s) ((keeps_endStall s).groups rfl) _ _).trans hf
  have hk : Keeps kf_rearmStall (transfer p x (endStall s)) (rearmStall (transfer p x (endStall s))) := fr_rearmStall rfl (keeps_refl _ _)
  have ht := (transferred_of_endStall (transfer_whole (whole_of_nextTransfer hx) hfate)).onward
    ((on_refl _).quiet (fr_rearmStall rfl (keeps_refl _ _))) (hk.staging rfl)
  rw [goOn_of_rests (ht.rests hr)]
  exact ht

/-- While the free space is at the reserve, no store moves; a stall that begins is counted and reported once (R89, R194). -/
theorem stallDrain_waits (s : State) (p : Port) :
    (stallDrain s).staging = s.staging ∧ ((stallDrain s).port p).queue = (s.port p).queue ∧
      (s.stallSince = none → (stallDrain s).stallSince = some s.clock ∧ Counted 0x406004 1 s (stallDrain s) ∧
        (s.stallReported = false → Raised 89 s (stallDrain s))) := by
  cases hs : s.stallSince with
  | some n =>
    have hrun : stallDrain s = s := by simp only [stallDrain, hs]
    rw [hrun]
    exact ⟨rfl, rfl, nofun⟩
  | none =>
    let counted : State := ({ s with stallSince := some s.clock } : State).bump 0x406004
    have hcount : counted.get 0x406004 = countAfter 0x406004 (s.get 0x406004) 1 := get_bump_self _ _
    have hport : (counted.port p).queue = (s.port p).queue := by cases p <;> rfl
    cases hrep : s.stallReported with
    | true =>
      have hrun : stallDrain s = counted := by simp only [stallDrain, hs]; exact if_pos hrep
      rw [hrun]
      exact ⟨rfl, hport, fun _ => ⟨rfl, hcount, nofun⟩⟩
    | false =>
      let reported : State := { counted with stallReported := true }
      have hrun : stallDrain s = raise 89 reported := by
        simp only [stallDrain, hs]
        exact if_neg (by rw [stallReported_bump, hrep]; exact Bool.false_ne_true)
      rw [hrun]
      refine ⟨staging_raise 89 reported, (port_queue_raise 89 reported).trans ?_, fun _ => ⟨stallSince_raise 89 reported, ?_, fun _ hc => ?_⟩⟩
      · rw [← hport]; cases p <;> rfl
      · exact (get_raise (by decide)).trans hcount
      · have hmode : reported.mode = s.mode := get_bump_ne (s := { s with stallSince := some s.clock }) (by decide)
        exact latch_self ((canOccur_of_mode hmode 89).trans hc)

/-- Settles O17: a transfer stages its store under the next stamp (`Transferred`); at the drain reserve the drain only notes its stall. -/
theorem queuedStoresReachTheStagingArray : Obligations.QueuedStoresReachTheStagingArray := by
  refine ⟨fun s p x hf hr => ⟨fun hx hfull => ?_, fun hx hready hp => ?_⟩, fun s p x hx hfull => ?_⟩
  · obtain ⟨hstaged, hleft, hstamp, -⟩ := drain_transfers hx hf hr
    exact ⟨_, (exec_globalVisibilityTransfer hx).trans (congrArg _ (if_neg (by rw [hfull]; exact Bool.false_ne_true))), hstaged, hleft, hstamp⟩
  · have ht := transfer_partial (not_whole_of_findPartial hx) hf hp
    refine ⟨_, exec_mergePlacement hx hready, ?_⟩
    rw [goOn_of_rests (ht.rests hr)]
    exact ⟨ht.staged, ht.left, ht.stamp⟩
  · exact ⟨_, (exec_globalVisibilityTransfer hx).trans (congrArg _ (if_pos hfull)), stallDrain_waits s p⟩

end Sys2Proof.Machine
end

section
/-! SUPPORT. Events that halt, save or reset the module: what leaves the cells alone while no window access waits, one lemma for each operation
(R54), and the parts of the state and the entries that such an event may write. -/

namespace Sys2Proof.Machine

section Rest

variable {cs : Tbl Word}

/-! ### Inputs and rails -/

theorem rest_noteVin (mv : Nat) {s : State} (hs : AtRest cs s) : AtRest cs (noteVin mv s) := rest_put _ _ (rest_put _ _ hs)

theorem rest_writeRecord (kind code phase vin : Nat) {s : State} (hs : AtRest cs s) : AtRest cs (writeRecord kind code phase vin s) :=
  hs.quiet (fr_writeRecord rfl _ _ _ _ (keeps_refl _ s))

theorem rest_railsOff (codes : List Nat) {s : State} (hs : AtRest cs s) : AtRest cs (railsOff codes s) :=
  hs.quiet (fr_railsOff rfl codes (keeps_refl _ s))

theorem rest_noteRailFault (code : Nat) {s : State} (hs : AtRest cs s) : AtRest cs (noteRailFault code s) := by
  unfold noteRailFault
  simp (maxDischargeDepth := 40) only [hs, rest_mk, rest_fold, rest_ite, ite_self, rest_bump, rest_raise, rest_writeRecord]

theorem rest_goOff {s : State} (hs : AtRest cs s) : AtRest cs (goOff s) := rest_setMode _ (rest_railsOff _ (rest_railsOff _ hs))

theorem rest_loseInput (kind mv : Nat) {s : State} (hs : AtRest cs s) : AtRest cs (loseInput kind mv s) := by
  unfold loseInput
  have h : AtRest cs (endAllSessions (noteVin mv { s with pow := { s.pow with vinValid := false, vinLostAt := s.clock } })) :=
    rest_endAllSessions (rest_noteVin mv (hs.quiet (upd_pow rfl (keeps_refl _ s) _)))
  simp only [h, rest_ite, ite_self, rest_enterFall, rest_goOff, rest_triggerCurtain, rest_writeRecord]

theorem rest_lockOut {s : State} (hs : AtRest cs s) : AtRest cs (lockOut s) := by
  unfold lockOut
  simp (maxDischargeDepth := 40) only [hs, rest_mk, rest_fold, rest_ite, ite_self, rest_bump, rest_enterFall, rest_raise, rest_triggerCurtain]

theorem rest_criticalError {s : State} (hs : AtRest cs s) : AtRest cs (criticalError s) := by
  unfold criticalError
  exact rest_cond (rest_deviceReset _ (rest_raise _ (rest_bump _ hs))) hs

/-! ### Ports -/

theorem rest_contain (p : Port) {s : State} (hs : AtRest cs s) : AtRest cs (contain p s) :=
  rest_forgetRequests p (rest_put _ _ (rest_modPort p _ (by intro _ h; exact h) (rest_raise _ (rest_portException p 2 hs))))

theorem rest_resetPort (p : Port) {s : State} (hs : AtRest cs s) : AtRest cs (resetPort p s) :=
  rest_put _ _ (rest_modPort p _ (by intro _ h; exact h) hs)

/-! ### The curtain -/

theorem rest_poisonReads {s : State} (hs : AtRest cs s) : AtRest cs (poisonReads s) := by
  unfold poisonReads
  refine AtRest.quiet (rest_foldl (fun t r ht => ?_) s.reads hs) (upd_reads_retries rfl rfl (keeps_refl _ _) _ _)
  split
  · exact rest_cond ht (rest_sendData _ _ _ _ ht)
  · exact ht

theorem rest_commitCurtain {s : State} (hs : AtRest cs s) : AtRest cs (commitCurtain s) := by
  unfold commitCurtain
  split
  · exact hs
  · have h := rest_silence (rest_poisonReads (rest_finishAccepted hs))
    exact rest_railsOff _ (rest_dropLink _ (rest_dropLink _ (rest_dropReady _ (rest_dropReady _ (h.quiet (upd_pow rfl (keeps_refl _ _) _))))))

/-! ### Failed checks -/

theorem rest_failIntegrity (obj : IntegrityObject) {s : State} (hs : AtRest cs s) : AtRest cs (failIntegrity obj s) :=
  rest_foldl (fun _ o ht => rest_failCheck o ht) _ hs

theorem rest_failRead (r : Read) {s : State} (hs : AtRest cs s) : AtRest cs (failRead r s) := by
  unfold failRead
  split
  · exact rest_failIntegrity _ hs
  · exact rest_failCheck _ hs

theorem rest_failSome {α : Type} {fail : α → State → State} (hf : ∀ a t, AtRest cs t → AtRest cs (fail a t)) (l : List α) {s : State}
    (hs : AtRest cs s) : AtRest cs (failSome fail l s) :=
  rest_foldl (fun _ _ ht => rest_cond (rest_drawn ht) (hf _ _ (rest_drawn ht))) _ hs

theorem rest_recoverSector (unit page sector : Nat) (recovered : Bool) {s : State} (hs : AtRest cs s) :
    AtRest cs (recoverSector unit page sector recovered s) := by
  unfold recoverSector
  have h := rest_detectError .medium (sectorAddress unit page sector) true hs
  exact rest_cond (rest_raise _ (rest_bump _ h))
    (rest_failSome (fun o _ ht => rest_failCheck o ht) _ (rest_failSome (fun _ _ ht => rest_failCheck _ ht) _ h))

theorem rest_cacheError (obj : IntegrityObject) (fault : CacheFault) {s : State} (hs : AtRest cs s) : AtRest cs (cacheError obj fault s) := by
  unfold cacheError
  split <;> simp (maxDischargeDepth := 40) only [hs, rest_mk, rest_fold, rest_bump, rest_detectSomewhere, rest_failIntegrity, rest_raise]

theorem rest_poisonQueued (p : Port) (tag : Nat) {s : State} (hs : AtRest cs s) : AtRest cs (poisonQueued p tag s) :=
  rest_modPort p _ (by intro _ h; exact h) (rest_nameLines _ _ hs)

theorem rest_rebuildDram {s : State} (hs : AtRest cs s) : AtRest cs (rebuildDram s) := rest_raise _ (rest_detectSomewhere _ _ hs)

theorem rest_dropCached (line : Nat) {s : State} (hs : AtRest cs s) : AtRest cs (dropCached line s) :=
  hs.quiet (fr_dropCached rfl line (keeps_refl _ s))

theorem rest_structureError (what : Structure) {s : State} (hs : AtRest cs s) : AtRest cs (structureError what s) := by
  cases what <;> simp (maxDischargeDepth := 40) only [structureError, hs, rest_mk, rest_fold, rest_ite, ite_self, rest_cacheError,
    rest_criticalError, rest_detectError, rest_detectSomewhere, rest_dropCached, rest_nameLines, rest_poisonQueued, rest_raise,
    rest_rebuildDram, rest_setGroup]

/-! ### Media retry -/

theorem rest_senseBelow (x : RetrySenses) (r : Read) {s : State} (hs : AtRest cs s) : AtRest cs (senseBelow x r s) :=
  rest_cond hs (rest_sectorMoved _ hs)

theorem rest_noteRung (x : RetrySenses) {s : State} (hs : AtRest cs s) : AtRest cs (noteRung x s) :=
  hs.quiet (fr_noteRung rfl x (keeps_refl _ s))

theorem rest_cacheTag (r : Read) {s : State} (hs : AtRest cs s) : AtRest cs (cacheTag r s) := hs.quiet (fr_cacheTag rfl r (keeps_refl _ s))

theorem rest_reportDeadline (l : List Read) (outcome : Nat) {s : State} (hs : AtRest cs s) : AtRest cs (reportDeadline l outcome s) := by
  unfold reportDeadline
  simp only
  split
  · exact hs
  · exact rest_raise _ (hs.quiet (upd_obs rfl (keeps_refl _ s) _))

theorem rest_respond (r : Read) {s : State} (hs : AtRest cs s) : AtRest cs (respond r s) := by
  have hmerge (p : Nat) (l : State) (hl : AtRest cs l) : AtRest cs (refillPrompt p l) := hl.quiet (fr_refillPrompt rfl p (keeps_refl _ l))
  unfold respond
  repeat' split
  all_goals simp only [hs, hmerge, rest_answerRead, rest_dropRead, rest_modRead]

theorem rest_prefetch (r : Read) {s : State} (hs : AtRest cs s) : AtRest cs (prefetch r s) := by
  unfold prefetch
  refine rest_cond ?_ hs
  split
  · exact hs
  · exact rest_dropPrefetches _ (rest_bump _ (rest_addRead _ hs))

theorem rest_noteRecovered (l : FetchedLine) {s : State} (hs : AtRest cs s) : AtRest cs (noteRecovered l s) :=
  rest_cond (rest_raise _ (rest_bump _ hs)) hs

/-! ### Patrol -/

theorem rest_scheduleRefresh (u : Nat) {s : State} (hs : AtRest cs s) : AtRest cs (scheduleRefresh u s) := by
  unfold scheduleRefresh
  exact rest_cond hs (rest_raise _ (rest_bump _ (rest_setStripe _ _ hs)))

theorem rest_footersRead (u n : Nat) {s : State} (hs : AtRest cs s) : AtRest cs (footersRead u n s) := rest_count _ _ _ (rest_addTo _ _ hs)

theorem rest_judgeSample (u : Nat) (inPass : Bool) (rep : PatrolReport) {s : State} (hs : AtRest cs s) :
    AtRest cs (judgeSample u inPass rep s) := by
  have hbad (t : State) (ht : AtRest cs t) : AtRest cs (noteBadVisit u rep t) := ht.quiet (fr_noteBadVisit rfl u rep (keeps_refl _ t))
  unfold judgeSample
  simp (maxDischargeDepth := 40) only [hs, hbad, rest_ite, ite_self, rest_agentReads, rest_bump, rest_scheduleRefresh, rest_setUnit]

theorem rest_sampleUnit (u : Nat) (rep : PatrolReport) {s : State} (hs : AtRest cs s) : AtRest cs (sampleUnit u rep s) := by
  unfold sampleUnit
  simp (maxDischargeDepth := 40) only [hs, rest_mk, rest_fold, rest_ite, ite_self, rest_agentReads, rest_bump, rest_footersRead,
    rest_judgeEpisode, rest_judgeSample, rest_put, rest_scheduleRefresh, rest_setUnit]

theorem rest_visit (u : Nat) (rep : PatrolReport) {s : State} (hs : AtRest cs s) : AtRest cs (visit u rep s) := by
  unfold visit
  have h := rest_sampleUnit u rep hs
  exact rest_cond (rest_recoverSector _ _ _ _ (rest_drawn h)) h

/-! ### Temperatures -/

theorem rest_declareBroken (n : Nat) {s : State} (hs : AtRest cs s) : AtRest cs (declareBroken n s) := by
  unfold declareBroken
  simp (maxDischargeDepth := 40) only [hs, rest_mk, rest_fold, rest_ite, ite_self, rest_raise, rest_setBroken, rest_wakeBy]

theorem rest_crossCheck {s : State} (hs : AtRest cs s) : AtRest cs (crossCheck s) := by
  unfold crossCheck
  refine rest_raiseIf _ _ (rest_foldl (fun _ n ht => rest_declareBroken n ht) _ (rest_foldl (fun t n ht => ?_) _ hs))
  exact ht.quiet (upd_therm rfl (keeps_refl _ t) _)

theorem rest_packageRound (c : Nat) {s : State} (hs : AtRest cs s) : AtRest cs (packageRound c s) := by
  have hint (bits k : Nat) (v : Int) (t : State) (ht : AtRest cs t) : AtRest cs (t.putInt bits k v) := rest_put _ _ ht
  have hhot (n : Nat) (t : State) (ht : AtRest cs t) : AtRest cs (noteHottest c n t) := ht.quiet (fr_noteHottest rfl c n (keeps_refl _ t))
  unfold packageRound
  split
  · exact hs
  · simp (maxDischargeDepth := 40) only [hs, hint, hhot, rest_mk, rest_fold, rest_ite, ite_self, rest_addTo, rest_put, rest_raise,
      rest_wakeBy]

theorem rest_temperatures {s : State} (hs : AtRest cs s) : AtRest cs (temperatures s) := by
  have hint (bits k : Nat) (v : Int) (t : State) (ht : AtRest cs t) : AtRest cs (t.putInt bits k v) := rest_put _ _ ht
  unfold temperatures
  extract_lets rounds hottest
  have hrounds : AtRest cs rounds := rest_foldl (fun _ c ht => rest_packageRound c ht) _ hs
  have hhottest : AtRest cs hottest := by unfold hottest; split <;> simp only [hrounds, hint]
  clear_value hottest
  split <;> simp only [hhottest, hint, rest_ite, ite_self]

theorem rest_requestThrottle {s : State} (hs : AtRest cs s) : AtRest cs (requestThrottle s) := by
  unfold requestThrottle
  simp (maxDischargeDepth := 40) only [hs, rest_mk, rest_fold, rest_bump, rest_put, rest_raise, rest_wakeBy]

theorem rest_pauseDie (d : Nat) {s : State} (hs : AtRest cs s) : AtRest cs (pauseDie d s) :=
  rest_foldl (fun _ _ ht => rest_reconstructWaiting _ _ ht) _ (rest_raise _ (rest_put _ _ hs))

/-- The dies of a row that have cooled go on. -/
theorem rest_clearBits (k : Nat) (due : State → Nat → Bool) (l : List Nat) {s : State} (hs : AtRest cs s) :
    AtRest cs (l.foldl (fun t d => if due t d then t.clearBit k d else t) s) :=
  rest_foldl (fun _ _ ht => rest_cond (rest_put _ _ ht) ht) l hs

theorem rest_pauseRow (row : Nat) {s : State} (hs : AtRest cs s) : AtRest cs (pauseRow row s) := by
  have hcooled := rest_clearBits 0x900104 (fun t d => t.diePaused d && (match t.temperature (64 + d) with
    | some x => decide (x < 90000)
    | none => false)) ((List.range 16).map fun c => 4 * c + row) hs
  unfold pauseRow
  refine rest_cond hcooled ?_
  simp only
  split
  · exact rest_pauseDie _ hcooled
  · exact hcooled

theorem rest_throttling {s : State} (hs : AtRest cs s) : AtRest cs (throttling s) := by
  unfold throttling
  split
  · exact rest_cond (rest_requestThrottle hs) hs
  · have h (o : Option Nat) : AtRest cs { s with therm := { s.therm with coolSince := o } } := hs.quiet (upd_therm rfl (keeps_refl _ s) _)
    exact rest_cond (rest_foldl (fun _ row ht => rest_pauseRow row ht) _ (h _)) (h _)

theorem rest_coldPlate (n : Nat) {s : State} (hs : AtRest cs s) : AtRest cs (coldPlate n s) := by
  unfold coldPlate
  split <;> simp (maxDischargeDepth := 40) only [hs, rest_mk, rest_fold, rest_ite, ite_self, rest_raiseIf]

theorem rest_supervise {s : State} (hs : AtRest cs s) : AtRest cs (supervise s) := by
  unfold supervise
  extract_lets rails vin charge
  have hrails : AtRest cs rails := rest_foldl (fun t i ht => by split <;> exact rest_put _ _ ht) _ hs
  have hvin : AtRest cs vin := by unfold vin; split <;> simp only [hrails, rest_noteVin]
  have hcharge : AtRest cs charge := by unfold charge; split <;> simp only [hvin, rest_put]
  clear_value charge
  split <;> simp (maxDischargeDepth := 40) only [hcharge, rest_mk, rest_fold, rest_ite, ite_self, rest_put, rest_updateProtection, rest_wakeBy]

theorem rest_slowRound (channels : List (Option Int)) {s : State} (hs : AtRest cs s) : AtRest cs (slowRound channels s) := by
  unfold slowRound
  have hconvert : AtRest cs (convertChannels channels s) := hs.quiet (fr_convertChannels rfl channels (keeps_refl _ s))
  have h := rest_temperatures (rest_crossCheck hconvert)
  exact rest_supervise (rest_coldPlate _ (rest_coldPlate _ (rest_cond (rest_throttling h) h)))

end Rest

/-! ### The commands of each shape -/

/-- The commands that take a step of DOZE, SERVICE, throttling or a curtain under way, and a secure erase. -/
inductive QuietEvent : Instr → Prop where
  | throttleCleared : QuietEvent .throttleCleared
  | enforcementLevel : QuietEvent .enforcementLevel
  | idleTimer : QuietEvent .idleTimer
  | dozeEntryStep : QuietEvent .dozeEntryStep
  | serviceTimeLimit : QuietEvent .serviceTimeLimit
  | curtainCommitPoint : QuietEvent .curtainCommitPoint
  | curtainCancelled (mv : Nat) : QuietEvent (.curtainCancelled mv)
  | cartridgeFloor : QuietEvent .cartridgeFloor
  | secureErase (p : Port) : QuietEvent (.secureErase p)

/-- The commands that may end service. -/
inductive ModeEvent : Instr → Prop where
  | failedCheck (obj : FailedObject) : ModeEvent (.failedCheck obj)
  | mediaRetryEnd (rid : Nat) (senses : RetrySenses) : ModeEvent (.mediaRetryEnd rid senses)
  | portException (p : Port) (cause : Nat) : ModeEvent (.portException p cause)
  | perst (p : Port) (asserted : Bool) : ModeEvent (.perst p asserted)
  | surpriseLinkLoss (p : Port) : ModeEvent (.surpriseLinkLoss p)
  | viralReceived (p : Port) : ModeEvent (.viralReceived p)
  | integrityLineFetch (obj : IntegrityObject) (lines : List FetchedLine) : ModeEvent (.integrityLineFetch obj lines)
  | counterCacheError (obj : IntegrityObject) (fault : CacheFault) : ModeEvent (.counterCacheError obj fault)
  | sourceSectorFailure (unit page sector : Nat) (recovered : Bool) : ModeEvent (.sourceSectorFailure unit page sector recovered)
  | uncorrectableError (what : Structure) : ModeEvent (.uncorrectableError what)
  | criticalStateError : ModeEvent .criticalStateError
  | inputLoss (mv : Nat) : ModeEvent (.inputLoss mv)
  | overvoltage (mv : Nat) : ModeEvent (.overvoltage mv)
  | railFault (code : Nat) (restarts : Bool) : ModeEvent (.railFault code restarts)
  | lossOfProtection : ModeEvent .lossOfProtection
  | yoYoTest (cmf esr v0 : Nat) : ModeEvent (.yoYoTest cmf esr v0)
  | cartridgeRemoved : ModeEvent .cartridgeRemoved
  | cartridgeInserted (ident : List Byte) : ModeEvent (.cartridgeInserted ident)
  | curtain (cause : Nat) : ModeEvent (.curtain cause)
  | serviceRequestWindowEnd : ModeEvent .serviceRequestWindowEnd
  | forcedPowerDown : ModeEvent .forcedPowerDown
  | mrN (width : Nat) : ModeEvent (.mrN width)
  | managementWatchdog : ModeEvent .managementWatchdog
  | slowRound (channels : List (Option Int)) : ModeEvent (.slowRound channels)
  | dieTemperatureRead (die : Fin 64) (celsius : Int) : ModeEvent (.dieTemperatureRead die celsius)
  | lockout : ModeEvent .lockout
  | completionStall : ModeEvent .completionStall
  | patrolVisit (unit : Fin 1048576) (report : PatrolReport) : ModeEvent (.patrolVisit unit report)
  | outOfTurnVisit (unit : Fin 1048576) (report : PatrolReport) : ModeEvent (.outOfTurnVisit unit report)

theorem quietEvent_of_shape {c : Instr} (h : shape c = .quietEvent) : QuietEvent c := by
  cases c
  case throttleCleared => exact .throttleCleared
  case enforcementLevel => exact .enforcementLevel
  case idleTimer => exact .idleTimer
  case dozeEntryStep => exact .dozeEntryStep
  case serviceTimeLimit => exact .serviceTimeLimit
  case curtainCommitPoint => exact .curtainCommitPoint
  case curtainCancelled mv => exact .curtainCancelled mv
  case cartridgeFloor => exact .cartridgeFloor
  case secureErase p => exact .secureErase p
  case patrolVisit unit report => exact absurd h (shape_visit_ne ⟨nofun, nofun⟩)
  case outOfTurnVisit unit report => exact absurd h (shape_visit_ne ⟨nofun, nofun⟩)
  all_goals simp only [shape, reduceCtorEq] at h

theorem modeEvent_of_shape {c : Instr} (h : shape c = .modeEvent) : ModeEvent c := by
  cases c
  case failedCheck obj => exact .failedCheck obj
  case mediaRetryEnd rid senses => exact .mediaRetryEnd rid senses
  case portException p cause => exact .portException p cause
  case perst p asserted => exact .perst p asserted
  case surpriseLinkLoss p => exact .surpriseLinkLoss p
  case viralReceived p => exact .viralReceived p
  case integrityLineFetch obj lines => exact .integrityLineFetch obj lines
  case counterCacheError obj fault => exact .counterCacheError obj fault
  case sourceSectorFailure unit page sector recovered => exact .sourceSectorFailure unit page sector recovered
  case uncorrectableError what => exact .uncorrectableError what
  case criticalStateError => exact .criticalStateError
  case inputLoss mv => exact .inputLoss mv
  case overvoltage mv => exact .overvoltage mv
  case railFault code restarts => exact .railFault code restarts
  case lossOfProtection => exact .lossOfProtection
  case yoYoTest cmf esr v0 => exact .yoYoTest cmf esr v0
  case cartridgeRemoved => exact .cartridgeRemoved
  case cartridgeInserted ident => exact .cartridgeInserted ident
  case curtain cause => exact .curtain cause
  case serviceRequestWindowEnd => exact .serviceRequestWindowEnd
  case forcedPowerDown => exact .forcedPowerDown
  case mrN width => exact .mrN width
  case managementWatchdog => exact .managementWatchdog
  case slowRound channels => exact .slowRound channels
  case dieTemperatureRead die celsius => exact .dieTemperatureRead die celsius
  case lockout => exact .lockout
  case completionStall => exact .completionStall
  case patrolVisit unit report => exact .patrolVisit unit report
  case outOfTurnVisit unit report => exact .outOfTurnVisit unit report
  all_goals simp only [shape, reduceCtorEq] at h

/-! ### Parts of the state -/

/-- The parts of the state that a quiet event may write, as a mask of `Keeps`. -/
def quietMask : Nat := 0x3FF7FCEE4

/-- The parts of the state that a mode event may write, as a mask of `Keeps`. -/
def modeMask : Nat := 0x3FF7FFEE5

theorem keeps_exec_of_quietEvent {c : Instr} (h : QuietEvent c) (s : State) : NextIs (Keeps quietMask s) (exec c s) := by
  have hs := keeps_refl quietMask s
  cases h with
  | throttleCleared => exact fr_execThrottleCleared rfl hs
  | enforcementLevel => exact fr_execEnforcementLevel rfl hs
  | idleTimer => exact fr_execIdleTimer rfl hs
  | dozeEntryStep => exact fr_execDozeEntryStep rfl hs
  | serviceTimeLimit => exact fr_execServiceTimeLimit rfl hs
  | curtainCommitPoint => exact fr_execCurtainCommitPoint rfl hs
  | curtainCancelled mv => exact fr_execCurtainCancelled rfl _ hs
  | cartridgeFloor => exact fr_execCartridgeFloor rfl hs
  | secureErase p => exact fr_execSecureErase rfl _ hs

theorem keeps_exec_of_modeEvent {c : Instr} (h : ModeEvent c) (s : State) : NextIs (Keeps modeMask s) (exec c s) := by
  have hs := keeps_refl modeMask s
  cases h with
  | failedCheck obj => exact fr_execFailedCheck rfl _ hs
  | mediaRetryEnd rid senses => exact fr_execMediaRetryEnd rfl _ _ hs
  | portException p cause => exact fr_execPortException rfl _ _ hs
  | perst p asserted => exact fr_execPerst rfl _ _ hs
  | surpriseLinkLoss p => exact fr_execSurpriseLinkLoss rfl _ hs
  | viralReceived p => exact fr_execViralReceived rfl _ hs
  | integrityLineFetch obj lines => exact fr_execIntegrityLineFetch rfl _ _ hs
  | counterCacheError obj fault => exact fr_execCounterCacheError rfl _ _ hs
  | sourceSectorFailure unit page sector recovered => exact fr_execSourceSectorFailure rfl _ _ _ _ hs
  | uncorrectableError what => exact fr_execUncorrectableError rfl _ hs
  | criticalStateError => exact fr_execCriticalStateError rfl hs
  | inputLoss mv => exact fr_execInputLoss rfl _ hs
  | overvoltage mv => exact fr_execOvervoltage rfl _ hs
  | railFault code restarts => exact fr_execRailFault rfl _ _ hs
  | lossOfProtection => exact fr_execLossOfProtection rfl hs
  | yoYoTest cmf esr v0 => exact fr_execYoYoTest rfl _ _ _ hs
  | cartridgeRemoved => exact fr_execCartridgeRemoved rfl hs
  | cartridgeInserted ident => exact fr_execCartridgeInserted rfl _ hs
  | curtain cause => exact fr_execCurtain rfl _ hs
  | serviceRequestWindowEnd => exact fr_execServiceRequestWindowEnd rfl hs
  | forcedPowerDown => exact fr_execForcedPowerDown rfl hs
  | mrN width => exact fr_execMrN rfl _ hs
  | managementWatchdog => exact fr_execManagementWatchdog rfl hs
  | slowRound channels => exact fr_execSlowRound rfl _ hs
  | dieTemperatureRead die celsius => exact fr_execDieTemperatureRead rfl _ _ hs
  | lockout => exact fr_execLockout rfl hs
  | completionStall => exact fr_execCompletionStall rfl hs
  | patrolVisit unit report => exact fr_execPatrolVisit rfl _ _ hs
  | outOfTurnVisit unit report => exact fr_execOutOfTurnVisit rfl _ _ hs

/-! ### Entries -/

/-- The entries that a quiet event may write, beside those of reports. -/
def quietWrites : Writes :=
  ⟨[0x200101, 0x200102, 0x200104, 0x200106, 0x202002, 0x204001, 0x204002, 0x204003, 0x204005, 0x204006, 0x301001, 0x301002, 0x301003,
    0x301004, 0x301008, 0x301101, 0x301102, 0x301103, 0x301104, 0x301108, 0x302001, 0x302002, 0x302003, 0x302004, 0x302005, 0x302006,
    0x404105, 0x404106, 0x406009, 0x407008, 0x407009, 0x408101, 0x408102, 0x408103, 0x408106, 0x502004, 0x502005, 0x502006, 0x502007,
    0x502009, 0x508003, 0x508004, 0x508005, 0x508006, 0x611003, 0x613008, 0x613009, 0x61300A, 0x614007, 0x615007, 0x619004, 0x700306,
    0x70030A, 0x70030D, 0x900103, 0x900104, 0x900106, 0xA00106, 0xB03004, 0xB04003, 0xD00101, 0xD00102, 0xD00105, 0xD02001, 0xD02004,
    0xD02005, 0xD02006],
   [(0x201001, 0x20100E, 256), (0x612000, 0x613000, 256), (0x620000, 0x624000, 256), (0x700101, 0x700111, 256)]⟩

/-- The entries that a mode event may write, beside those of reports. -/
def modeWrites : Writes :=
  ⟨[0x200101, 0x200104, 0x200107, 0x20100F, 0x202002, 0x203001, 0x203002, 0x203003, 0x203004, 0x203005, 0x203006, 0x203007, 0x203009,
    0x20300C, 0x20300D, 0x205003, 0x301001, 0x301002, 0x301003, 0x301004, 0x301005, 0x301006, 0x301007, 0x301008, 0x301101, 0x301102,
    0x301103, 0x301104, 0x301105, 0x301106, 0x301107, 0x301108, 0x302001, 0x302002, 0x302003, 0x302004, 0x302005, 0x302006, 0x402001,
    0x402002, 0x404101, 0x404105, 0x404106, 0x406009, 0x407005, 0x407006, 0x407007, 0x407008, 0x407009, 0x408101, 0x408102, 0x408103,
    0x408106, 0x502004, 0x502005, 0x502006, 0x502007, 0x502009, 0x508003, 0x508004, 0x508005, 0x508006, 0x611003, 0x611007, 0x613008,
    0x613009, 0x61300A, 0x614009, 0x617004, 0x617005, 0x617006, 0x617008, 0x619004, 0x700301, 0x700302, 0x700303, 0x700304, 0x700305,
    0x700306, 0x700307, 0x70030A, 0x70030C, 0x800101, 0x800102, 0x800103, 0x800104, 0x800105, 0x800106, 0x800108, 0x801002, 0x900101,
    0x900102, 0x900103, 0x900104, 0x900105, 0x900107, 0x900108, 0x903001, 0x903002, 0xA00106, 0xB03004, 0xB04003, 0xC00104, 0xD00101,
    0xD00102, 0xD02001, 0xD02004, 0xD04001, 0xD04004, 0xD06001, 0xD06002, 0xD06003, 0xD06004, 0xD06005, 0xD06006, 0xD06007],
   [(0x201001, 0x20100E, 256), (0x612000, 0x613000, 256), (0x616101, 0x616111, 256), (0x620000, 0x624000, 256), (0x902001, 0x902031, 256),
    (0x904001, 0x904011, 256), (0x904101, 0x904111, 256), (0xD04002, 0xD0400A, 256)]⟩

theorem holds_exec_of_quietEvent {c : Instr} (h : QuietEvent c) {κ ν : Nat} (hq : Quiet quietWrites κ ν) {s : State} (hs : Holds κ ν s) :
    NextIs (Holds κ ν) (exec c s) := by
  cases h with
  | throttleCleared => exact kp_execThrottleCleared (hq.mono rfl) hs
  | enforcementLevel => exact kp_execEnforcementLevel (hq.mono rfl) hs
  | idleTimer => exact kp_execIdleTimer (hq.mono rfl) hs
  | dozeEntryStep => exact kp_execDozeEntryStep (hq.mono rfl) hs
  | serviceTimeLimit => exact kp_execServiceTimeLimit (hq.mono rfl) hs
  | curtainCommitPoint => exact kp_execCurtainCommitPoint (hq.mono rfl) hs
  | curtainCancelled mv => exact kp_execCurtainCancelled (hq.mono rfl) _ hs
  | cartridgeFloor => exact kp_execCartridgeFloor (hq.mono rfl) hs
  | secureErase p => exact kp_execSecureErase (hq.mono rfl) _ hs

theorem holds_exec_of_modeEvent {c : Instr} (h : ModeEvent c) {κ ν : Nat} (hq : Quiet modeWrites κ ν) {s : State} (hs : Holds κ ν s) :
    NextIs (Holds κ ν) (exec c s) := by
  cases h with
  | failedCheck obj => exact kp_execFailedCheck (hq.mono rfl) _ hs
  | mediaRetryEnd rid senses => exact kp_execMediaRetryEnd (hq.mono rfl) _ _ hs
  | portException p cause => exact kp_execPortException (hq.mono rfl) _ _ hs
  | perst p asserted => exact kp_execPerst (hq.mono rfl) _ _ hs
  | surpriseLinkLoss p => exact kp_execSurpriseLinkLoss (hq.mono rfl) _ hs
  | viralReceived p => exact kp_execViralReceived (hq.mono rfl) _ hs
  | integrityLineFetch obj lines => exact kp_execIntegrityLineFetch (hq.mono rfl) _ _ hs
  | counterCacheError obj fault => exact kp_execCounterCacheError (hq.mono rfl) _ _ hs
  | sourceSectorFailure unit page sector recovered => exact kp_execSourceSectorFailure (hq.mono rfl) _ _ _ _ hs
  | uncorrectableError what => exact kp_execUncorrectableError (hq.mono rfl) _ hs
  | criticalStateError => exact kp_execCriticalStateError (hq.mono rfl) hs
  | inputLoss mv => exact kp_execInputLoss (hq.mono rfl) _ hs
  | overvoltage mv => exact kp_execOvervoltage (hq.mono rfl) _ hs
  | railFault code restarts => exact kp_execRailFault (hq.mono rfl) _ _ hs
  | lossOfProtection => exact kp_execLossOfProtection (hq.mono rfl) hs
  | yoYoTest cmf esr v0 => exact kp_execYoYoTest (hq.mono rfl) _ _ _ hs
  | cartridgeRemoved => exact kp_execCartridgeRemoved (hq.mono rfl) hs
  | cartridgeInserted ident => exact kp_execCartridgeInserted (hq.mono rfl) _ hs
  | curtain cause => exact kp_execCurtain (hq.mono rfl) _ hs
  | serviceRequestWindowEnd => exact kp_execServiceRequestWindowEnd (hq.mono rfl) hs
  | forcedPowerDown => exact kp_execForcedPowerDown (hq.mono rfl) hs
  | mrN width => exact kp_execMrN (hq.mono rfl) _ hs
  | managementWatchdog => exact kp_execManagementWatchdog (hq.mono rfl) hs
  | slowRound channels => exact kp_execSlowRound (hq.mono rfl) _ hs
  | dieTemperatureRead die celsius => exact kp_execDieTemperatureRead (hq.mono rfl) _ _ hs
  | lockout => exact kp_execLockout (hq.mono rfl) hs
  | completionStall => exact kp_execCompletionStall (hq.mono rfl) hs
  | patrolVisit unit report => exact kp_execPatrolVisit (hq.mono rfl) _ _ hs
  | outOfTurnVisit unit report => exact kp_execOutOfTurnVisit (hq.mono rfl) _ _ hs

/-! ### Cells at rest -/

section Rest

variable {cs : Tbl Word}

/-- A command that answers one of two states at rest answers a state at rest. -/
theorem rest_next {p : Prop} [Decidable p] {a b : State} (ha : AtRest cs a) (hb : AtRest cs b) :
    NextIs (AtRest cs) (if p then .next a else .next b) := by
  split
  · exact ha
  · exact hb

theorem rest_execCurtainCommitPoint {s : State} (hs : AtRest cs s) : NextIs (AtRest cs) (execCurtainCommitPoint s) := by
  unfold execCurtainCommitPoint
  split
  · exact hs
  · exact rest_next (rest_commitCurtain hs) hs

theorem rest_installLine (r : Read) {s : State} (hs : AtRest cs s) : AtRest cs (installLine r s) := by
  unfold installLine
  exact rest_cond hs (hs.quiet (fr_installFill rfl _ _ (keeps_refl _ s)))

theorem rest_relocate (r : Read) {s : State} (hs : AtRest cs s) : AtRest cs (relocate r s).1 := by
  have hevict (l : List Staged) : AtRest cs (evict { s with staging := l }) :=
    hs.quiet (fr_evict rfl (upd_staging rfl (keeps_refl _ s) l))
  unfold relocate
  extract_lets grp current
  rw [apply_ite Prod.fst]
  exact rest_cond (hevict _) hs

theorem rest_execMediaRetryEnd (rid : Nat) (senses : RetrySenses) {s : State} (hs : AtRest cs s) :
    NextIs (AtRest cs) (execMediaRetryEnd rid senses s) := by
  have hsense (x : RetrySenses) (r : Read) (l : List Retry) : AtRest cs (senseBelow x r { s with retries := l }) :=
    rest_senseBelow x r (hs.quiet (upd_retries rfl (keeps_refl _ s) l))
  unfold execMediaRetryEnd
  split
  · exact hs
  · next r _ =>
    rw [nextIs_ite]
    split
    · exact hs
    · simp only [nextIs_ite]
      split
      · exact rest_prefetch _ (rest_foldl (fun _ x ht => rest_respond x ht) _ (rest_reportDeadline _ _ (rest_relocate r (rest_installLine r
          (rest_cacheTag r (rest_noteRung _ (rest_raise 57 (rest_bump 0x700307 (hsense _ r _)))))))))
      · exact rest_failRead _ (rest_reportDeadline _ _ (hsense _ r _))

theorem rest_execPortException (p : Port) (cause : Nat) {s : State} (hs : AtRest cs s) : NextIs (AtRest cs) (execPortException p cause s) := by
  unfold execPortException
  rw [nextIs_ite]
  split
  · exact rest_next (rest_contain p hs) (rest_portException p cause hs)
  · exact hs

theorem rest_execPerst (p : Port) (asserted : Bool) {s : State} (hs : AtRest cs s) : NextIs (AtRest cs) (execPerst p asserted s) := by
  have h : AtRest cs (s.modPort p fun q => { q with perst := asserted }) := rest_modPort p _ (by intro _ h; exact h) hs
  exact rest_next (rest_raise _ (rest_resetPort p (rest_dropLink p (rest_portException p 3 h)))) h

theorem rest_execIntegrityLineFetch (obj : IntegrityObject) (lines : List FetchedLine) {s : State} (hs : AtRest cs s) :
    NextIs (AtRest cs) (execIntegrityLineFetch obj lines s) := by
  unfold execIntegrityLineFetch
  rw [nextIs_ite]
  split
  · exact hs
  · have h : AtRest cs ((s.walk obj).foldl (fun t o => (integritySector o t).bump 0x70030A) s) :=
      rest_foldl (fun _ o ht => rest_bump _ (rest_integritySector o ht)) _ hs
    simp only
    split
    · exact rest_foldl (fun _ o ht => rest_cacheLine o ht) _ (rest_foldl (fun _ x ht => rest_noteRecovered x.2 ht) _ h)
    · exact rest_failIntegrity _ h

theorem rest_execOvervoltage (mv : Nat) {s : State} (hs : AtRest cs s) : NextIs (AtRest cs) (execOvervoltage mv s) := by
  unfold execOvervoltage
  simp (maxDischargeDepth := 40) only [nextIs_ite, nextIs_next, hs, rest_mk, rest_fold, ite_self, rest_bump, rest_loseInput, rest_noteVin]

theorem rest_execRailFault (code : Nat) (restarts : Bool) {s : State} (hs : AtRest cs s) :
    NextIs (AtRest cs) (execRailFault code restarts s) := by
  unfold execRailFault
  simp (maxDischargeDepth := 40) only [nextIs_ite, nextIs_next, hs, ite_self, rest_bump, rest_deviceReset, rest_endAllSessions, rest_enterFall,
    rest_noteRailFault, rest_put]

theorem rest_execLossOfProtection {s : State} (hs : AtRest cs s) : NextIs (AtRest cs) (execLossOfProtection s) := by
  unfold execLossOfProtection
  simp only [nextIs_ite, nextIs_next, hs, ite_self, rest_finishLeaving, rest_loseProtection, rest_wakeBy]

theorem rest_execYoYoTest (cmf esr v0 : Nat) {s : State} (hs : AtRest cs s) : NextIs (AtRest cs) (execYoYoTest cmf esr v0 s) := by
  unfold execYoYoTest
  simp (maxDischargeDepth := 40) only [nextIs_ite, nextIs_next, hs, rest_mk, rest_fold, rest_ite, ite_self, rest_endAction, rest_put, rest_raise,
    rest_raiseIf, rest_updateProtection, rest_wakeBy]

theorem rest_execCartridgeRemoved {s : State} (hs : AtRest cs s) : NextIs (AtRest cs) (execCartridgeRemoved s) := by
  unfold execCartridgeRemoved
  simp (maxDischargeDepth := 40) only [nextIs_ite, nextIs_next, hs, rest_mk, rest_fold, rest_ite, ite_self, rest_endAction, rest_put, rest_raise,
    rest_updateProtection, rest_wakeBy]

theorem rest_execCartridgeInserted (ident : List Byte) {s : State} (hs : AtRest cs s) :
    NextIs (AtRest cs) (execCartridgeInserted ident s) := by
  unfold execCartridgeInserted
  simp (maxDischargeDepth := 40) only [nextIs_ite, nextIs_next, hs, rest_mk, rest_fold, ite_self, rest_bump, rest_put, rest_putBytes, rest_raise,
    rest_updateProtection, rest_wakeBy]

theorem rest_execMrN (width : Nat) {s : State} (hs : AtRest cs s) : NextIs (AtRest cs) (execMrN width s) := by
  unfold execMrN
  simp (maxDischargeDepth := 40) only [nextIs_ite, nextIs_next, hs, rest_mk, rest_fold, rest_ite, ite_self, rest_deviceReset, rest_drawn,
    rest_raise]

theorem rest_execManagementWatchdog {s : State} (hs : AtRest cs s) : NextIs (AtRest cs) (execManagementWatchdog s) := by
  unfold execManagementWatchdog
  simp only [nextIs_ite, nextIs_next, hs, rest_mk, rest_fold, ite_self, rest_deviceReset]

theorem rest_execDieTemperatureRead (die : Fin 64) (celsius : Int) {s : State} (hs : AtRest cs s) :
    NextIs (AtRest cs) (execDieTemperatureRead die celsius s) := by
  unfold execDieTemperatureRead
  simp (maxDischargeDepth := 40) only [nextIs_ite, nextIs_next, hs, rest_mk, rest_fold, ite_self, rest_lockOut]

theorem rest_execCompletionStall {s : State} (hs : AtRest cs s) : NextIs (AtRest cs) (execCompletionStall s) := by
  unfold execCompletionStall
  simp (maxDischargeDepth := 40) only [nextIs_ite, nextIs_next, hs, rest_mk, rest_fold, ite_self, rest_criticalError, rest_raise]

theorem rest_prunePass {s : State} (hs : AtRest cs s) : AtRest cs (prunePass s) := hs.quiet (fr_prunePass rfl (keeps_refl _ s))

theorem rest_exec_of_modeEvent {c : Instr} (h : ModeEvent c) {s : State} (hs : AtRest cs s) : NextIs (AtRest cs) (exec c s) := by
  cases h with
  | failedCheck obj => exact rest_next (rest_failCheck obj hs) hs
  | mediaRetryEnd rid senses => exact rest_execMediaRetryEnd rid senses hs
  | portException p cause => exact rest_execPortException p cause hs
  | perst p asserted => exact rest_execPerst p asserted hs
  | surpriseLinkLoss p => exact rest_next (rest_dropLink p (rest_portException p 1 hs)) hs
  | viralReceived p => exact rest_next (rest_contain p (rest_raise _ hs)) hs
  | integrityLineFetch obj lines => exact rest_execIntegrityLineFetch obj lines hs
  | counterCacheError obj fault => exact rest_next (rest_cacheError obj fault hs) hs
  | sourceSectorFailure unit page sector recovered => exact rest_next (rest_recoverSector unit page sector recovered hs) hs
  | uncorrectableError what => exact rest_next (rest_structureError what hs) hs
  | criticalStateError => exact rest_criticalError hs
  | inputLoss mv => exact rest_next (rest_loseInput 1 mv hs) hs
  | overvoltage mv => exact rest_execOvervoltage mv hs
  | railFault code restarts => exact rest_execRailFault code restarts hs
  | lossOfProtection => exact rest_execLossOfProtection hs
  | yoYoTest cmf esr v0 => exact rest_execYoYoTest cmf esr v0 hs
  | cartridgeRemoved => exact rest_execCartridgeRemoved hs
  | cartridgeInserted ident => exact rest_execCartridgeInserted ident hs
  | curtain cause => exact rest_next (rest_triggerCurtain cause hs) hs
  | serviceRequestWindowEnd => exact rest_next (rest_buttonCurtain hs) hs
  | forcedPowerDown => exact rest_next hs (rest_buttonCurtain (rest_raise 38 hs))
  | mrN width => exact rest_execMrN width hs
  | managementWatchdog => exact rest_execManagementWatchdog hs
  | slowRound channels => exact rest_next hs (rest_slowRound channels hs)
  | dieTemperatureRead die celsius => exact rest_execDieTemperatureRead die celsius hs
  | lockout => exact rest_lockOut hs
  | completionStall => exact rest_execCompletionStall hs
  | patrolVisit unit report => exact rest_next (rest_visit unit.val report (rest_prunePass hs)) (rest_prunePass hs)
  | outOfTurnVisit unit report => exact rest_next (rest_visit unit.val report hs) hs

end Rest

/-- Every part of the state but the cells, as a mask of `Keeps`. -/
def cellsMask : Nat := 0x3FFFBFFFF

/-- A quiet event stores to no cell; the commit point of a curtain lets no access wait. -/
theorem leavesAtRest_cells_of_quietEvent {c : Instr} (h : QuietEvent c) : LeavesAtRest c (·.cells) := by
  have hkept {c : Instr} (hc : ∀ s, NextIs (Keeps cellsMask s) (exec c s)) : LeavesAtRest c (·.cells) :=
    fun s _ ht _ => (keeps_of_exec (hc s) ht).cells rfl
  cases h with
  | throttleCleared => exact hkept fun s => fr_execThrottleCleared rfl (keeps_refl _ s)
  | enforcementLevel => exact hkept fun s => fr_execEnforcementLevel rfl (keeps_refl _ s)
  | idleTimer => exact hkept fun s => fr_execIdleTimer rfl (keeps_refl _ s)
  | dozeEntryStep => exact hkept fun s => fr_execDozeEntryStep rfl (keeps_refl _ s)
  | serviceTimeLimit => exact hkept fun s => fr_execServiceTimeLimit rfl (keeps_refl _ s)
  | curtainCommitPoint => exact leavesAtRest_cells fun _ _ hs => rest_execCurtainCommitPoint hs
  | curtainCancelled mv => exact hkept fun s => fr_execCurtainCancelled rfl mv (keeps_refl _ s)
  | cartridgeFloor => exact hkept fun s => fr_execCartridgeFloor rfl (keeps_refl _ s)
  | secureErase p => exact hkept fun s => fr_execSecureErase rfl p (keeps_refl _ s)

/-! ### The frame -/

/-- An entry that is neither a report's nor listed stands. -/
theorem leavesEntries_of_writes {c : Instr} {w : Writes} {keys : List Nat} {spans : List (Nat × Nat)} (hk : w.keys = keys)
    (hsp : w.spans = spans.map fun x => (x.1, x.2, 256))
    (h : ∀ κ ν, Quiet w κ ν → ∀ s : State, Holds κ ν s → NextIs (Holds κ ν) (exec c s)) : LeavesEntries c keys spans := by
  intro s t ht k hr hkey hout
  have hw : w.has k = false := by
    have hspan : (spans.map fun x => (x.1, x.2, 256)).any (fun x => Nat.ble x.1 k && Nat.blt k x.2.1 && (x.2.2 == 256 || k % 256 == x.2.2)) =
        false := by
      simp only [List.any_map, List.any_eq_false, Function.comp_apply, Bool.and_eq_true, Nat.ble_eq, Nat.blt_eq, not_and]
      intro x hx hlo
      rcases hout x hx with h | h <;> omega
    rw [Writes.has, hk, hsp, hspan, Bool.or_false]
    simpa using hkey
  have hn := h k (s.get k) ⟨hw, .inl hr⟩ s rfl
  rw [ht] at hn
  exact hn

theorem exec_of_powerOn {c : Instr} (h : shape c = .powerOn) : ∃ mv, c = .vinValid mv := by
  cases c
  case vinValid mv => exact ⟨mv, rfl⟩
  case patrolVisit unit report => exact absurd h (shape_visit_ne ⟨nofun, nofun⟩)
  case outOfTurnVisit unit report => exact absurd h (shape_visit_ne ⟨nofun, nofun⟩)
  all_goals simp only [shape, reduceCtorEq] at h

/-- Settles O14: the parts and entries named stand by what each command may write, the cells because no access waits. -/
theorem modeEventsFrame : Obligations.ModeEventsFrame := by
  refine fun c => ⟨fun h => ⟨fun s t ht => ?_, ?_⟩, fun h => ?_, fun h => ⟨fun s t ht => ?_, ?_⟩, fun h s t ht => ?_⟩
  · have hk := keeps_of_exec (keeps_exec_of_quietEvent (quietEvent_of_shape h) s) ht
    simp only [hk.octs rfl, hk.deviceTime rfl, hk.restoreStamp rfl, hk.nextSeq rfl, hk.stallSince rfl, hk.lfsr1 rfl, hk.lfsr2 rfl,
      hk.resultBase rfl]
  · exact leavesEntries_of_writes (w := quietWrites) rfl rfl fun _ _ hq _ hs => holds_exec_of_quietEvent (quietEvent_of_shape h) hq hs
  · rcases h with h | h
    · exact leavesAtRest_cells_of_quietEvent (quietEvent_of_shape h)
    · exact leavesAtRest_cells fun _ _ hs => rest_exec_of_modeEvent (modeEvent_of_shape h) hs
  · have hk := keeps_of_exec (keeps_exec_of_modeEvent (modeEvent_of_shape h) s) ht
    simp only [hk.deviceTime rfl, hk.restoreStamp rfl, hk.nextSeq rfl, hk.stallSince rfl, hk.resultBase rfl]
  · exact leavesEntries_of_writes (w := modeWrites) rfl rfl fun _ _ hq _ hs => holds_exec_of_modeEvent (modeEvent_of_shape h) hq hs
  · obtain ⟨mv, rfl⟩ := exec_of_powerOn h
    have hk := keeps_of_exec (fr_execVinValid rfl mv (keeps_refl kf_execVinValid s)) ht
    simp only [hk.deviceTime rfl, hk.restoreStamp rfl, hk.nextSeq rfl, hk.staging rfl, hk.stallSince rfl, hk.stallReported rfl, hk.l1 rfl,
      hk.l2 rfl, hk.lfsr1 rfl, hk.lfsr2 rfl, hk.reads rfl, hk.nextRead rfl, hk.retries rfl, hk.groups rfl, hk.cells rfl, hk.reservedA rfl,
      hk.reservedB rfl, hk.resultsA rfl, hk.resultsB rfl, hk.resultBase rfl, hk.xlat rfl, hk.med rfl, hk.integ rfl, hk.stored rfl, hk.obs rfl]

end Sys2Proof.Machine
end

section
/-! SUPPORT. Admitted writes of settings and of the entries of a region: what the write of a number does beside the entry, and the effects of the
entries that act (R26, R50, R146, R187 to R189, R192). -/

namespace Sys2Proof.Machine

/-! ### A number that an admitted write gives -/

/-- The state in which a write of `key` takes effect: the request is recorded, and a lost value is known again. -/
def recordedWrite (req : Req) (key : Nat) (v : List Byte) (u : State) : State :=
  let s := noteRequest key 1 req (u.valueBytes key) v u
  { s with stored := { s.stored with lostValues := s.stored.lostValues.filter (· != key) } }

/-- Entry `key` holds a number that a plain write sets. -/
def numberEntry (key : Nat) : Bool :=
  match describe key with
  | none => false
  | some d => d.access != .act && !d.ty.isBytes && !isLevelKey key

theorem describe_numberEntry {key : Nat} (h : numberEntry key = true) :
    ∃ d, describe key = some d ∧ d.access ≠ .act ∧ d.ty.isBytes = false ∧ isLevelKey key = false := by
  unfold numberEntry at h
  split at h
  · exact absurd h (by decide)
  · rename_i d hd
    simp only [Bool.and_eq_true, bne_iff_ne, Bool.not_eq_true'] at h
    obtain ⟨⟨haccess, hbytes⟩, hlevel⟩ := h
    exact ⟨d, hd, haccess, hbytes, hlevel⟩

/-- An admitted write of a number is recorded, takes its effect and is answered with OK (R409). -/
theorem request_number {req : Req} {idx sub : Nat} {v : List Byte} {s u : State} (hk : numberEntry (idx * 256 + sub) = true)
    (h : Admitted s req idx sub (.write v) u) :
    ∃ o, (∀ w, Replied req (.write v) 0 (deliver req o w)) ∧ request req idx sub (.write v) {} s = deliver req o
      (putNumber req (idx * 256 + sub) (bytesToNat v) u.stampNow (u.get (idx * 256 + sub + 1)) (recordedWrite req (idx * 256 + sub) v u)) := by
  obtain ⟨d, hd, haccess, hbytes, hlevel⟩ := describe_numberEntry hk
  refine ⟨answerOf (u.replyKey req) req idx sub (.write v) stOk d.ty.code [] (askFinal (.write v)) u.reducedService,
    fun w => ⟨_, _, _, _, replyHead_transaction req idx sub, mem_out_deliver req _ w⟩, ?_⟩
  rw [request_of_admitted {} hd h]
  simp only [serveOk, hd, if_neg haccess, serveWrite, putValue, hlevel, hbytes, Bool.false_eq_true, if_false, recordedWrite]

@[simp] theorem get_deliver (req : Req) (o : Out) (s : State) (k : Nat) : (deliver req o s).get k = s.get k :=
  get_congr (deliver_keeps req o s).1 k

@[simp] theorem port_deliver (req : Req) (o : Out) (s : State) (p : Port) : (deliver req o s).port p = s.port p :=
  port_keeps (fr_deliver (μ := kf_deliver) rfl req o (keeps_refl _ s)) rfl rfl p

@[simp] theorem deviceTime_deliver (req : Req) (o : Out) (s : State) : (deliver req o s).deviceTime = s.deviceTime :=
  (fr_deliver (μ := kf_deliver) rfl req o (keeps_refl _ s)).deviceTime rfl

/-- Beside reports, the record of a write counts in one entry. -/
theorem get_recordedWrite {k : Nat} (hr : ¬reportKey k) (hk : k ≠ 0x120001) (req : Req) (key : Nat) (v : List Byte) (u : State) :
    (recordedWrite req key v u).get k = u.get k := by
  have hq : Quiet kw_noteRequest k (u.get k) := ⟨by simp [Writes.has, kw_noteRequest, hk], .inl hr⟩
  exact kp_noteRequest hq key 1 req _ _ rfl

theorem on_recordedWrite (req : Req) (key : Nat) (v : List Byte) (p : Port) (u : State) : Onward p u (recordedWrite req key v u) := by
  have hm (c : List ChangeRecord) : Onward p u { u with mgmt := { u.mgmt with changes := c } } := (on_refl u).quiet (upd_mgmt rfl (keeps_refl _ u) _)
  have hn : Onward p u (noteRequest key 1 req (u.valueBytes key) v u) := by
    unfold noteRequest noteChange raiseIf
    exact on_cond (on_raise _ (on_raise _ (on_bump _ (on_takeStamp (hm _))))) (on_raise _ (on_bump _ (on_takeStamp (hm _))))
  exact hn.quiet (upd_stored rfl (keeps_refl _ _) _)

theorem mode_recordedWrite (req : Req) (key : Nat) (v : List Byte) (u : State) : (recordedWrite req key v u).mode = u.mode :=
  get_recordedWrite (by decide) (by decide) req key v u

theorem modes_recordedWrite (req : Req) (key : Nat) (v : List Byte) (u : State) : (recordedWrite req key v u).modes = u.modes :=
  (fr_noteRequest (μ := kf_noteRequest) rfl key 1 req _ _ (keeps_refl _ u)).modes rfl

/-! ### Device time and the policy profile -/

theorem setTime_sets (v source : Nat) (s : State) : (setTime v source s).deviceTime = v ∧ (setTime v source s).get 0x405002 = source :=
  ⟨rfl, get_put_self _ _ _⟩

theorem setProfile_applies (v : Nat) (s : State) :
    (setProfile v s).get 0x401001 = v ∧ (setProfile v s).get 0x401002 = v ∧ (s.get 0x401002 ≠ v → Raised 92 s (setProfile v s)) := by
  have happlied : (s.put 0x401001 v).get 0x401002 = s.get 0x401002 := get_put_ne (by decide) v
  unfold setProfile
  simp only [happlied]
  split
  · rename_i h
    exact ⟨get_put_self _ _ _, happlied.trans h, fun hne => absurd h hne⟩
  · refine ⟨?_, ?_, fun _ hcan => latch_self ?_⟩
    · rw [get_raise (by decide), get_put_ne (by decide), get_put_self]
    · rw [get_raise (by decide), get_put_self]
    · rw [canOccur_of_mode (s := s)]
      · exact hcan
      · exact (get_put_ne (by decide) _).trans (get_put_ne (by decide) _)

/-! ### The entries of a region -/

theorem regionKey_fin (r : Fin 64) (sub : Nat) : regionKey r.val sub = (0x4100 + r.val) * 256 + sub := by
  unfold regionKey
  rw [Nat.mod_eq_of_lt r.isLt]

theorem numberEntry_region : ∀ r : Fin 64,
    numberEntry ((0x4100 + r.val) * 256 + 0x01) = true ∧ numberEntry ((0x4100 + r.val) * 256 + 0x04) = true := by
  decide +kernel

theorem not_reportKey_regionKey {r sub : Nat} (h : sub < 256) : ¬reportKey (regionKey r sub) := by
  unfold reportKey regionKey
  omega

theorem regionKey_ne_sub {r a b : Nat} (h : a ≠ b) : regionKey r a ≠ regionKey r b := by
  unfold regionKey
  omega

theorem get_recordedWrite_region (r : Nat) {sub : Nat} (h : sub < 256) (req : Req) (key : Nat) (v : List Byte) (u : State) :
    (recordedWrite req key v u).get (regionKey r sub) = u.get (regionKey r sub) :=
  get_recordedWrite (not_reportKey_regionKey h) (by unfold regionKey; omega) req key v u

theorem putNumber_region (req : Req) (r : Fin 64) {sub : Nat} (h : sub < 256) (v stamp seen : Nat) (s : State) :
    putNumber req (regionKey r.val sub) v stamp seen s = writeRegion r.val sub v s := by
  have hkey := regionKey_fin r sub
  have hr := r.isLt
  have hregion : regionOfKey (regionKey r.val sub) = some (r.val, sub) := by
    unfold regionOfKey
    rw [if_pos (by omega)]
    congr 2 <;> omega
  unfold putNumber
  simp only [hregion]
  repeat rw [if_neg (by omega)]

theorem get_setRegionState_self (r v : Nat) (s : State) : (setRegionState r v s).get (regionKey r 0x0C) = v := by
  unfold setRegionState
  split
  · assumption
  · rw [get_raise (not_reportKey_regionKey (by decide)), get_put_ne (by unfold regionKey; omega), get_put_self]

theorem get_prepare_state (r : Nat) (s : State) : (prepare r s).get (regionKey r 0x0C) = 2 := by
  have hq : Quiet kw_none (regionKey r 0x0C) 2 := ⟨rfl, .inl (not_reportKey_regionKey (by decide))⟩
  unfold prepare
  refine hd_foldl (fun t g ht => ?_) _ (get_setRegionState_self r 2 s)
  have hd : Holds (regionKey r 0x0C) 2 (dirtySegment g t) := kp_dirtySegment hq g ht
  exact hd_cond hd hd

/-- What an entry of a region other than its state holds stands while the state changes. -/
theorem quiet_regionKey {r sub : Nat} (h : sub ≠ 0x0C) (hs : sub < 256) (v : Nat) : Quiet kw_setRegionState (regionKey r sub) v := by
  refine ⟨?_, .inl (not_reportKey_regionKey hs)⟩
  have hkey : regionKey r sub ≠ 0x406008 := by unfold regionKey; omega
  have hsub : regionKey r sub % 256 ≠ 0x0C := by unfold regionKey; omega
  simp [Writes.has, kw_setRegionState, hkey, hsub]

theorem writeRegion_enable {r v : Nat} (s : State) :
    (writeRegion r 0x01 v s).get (regionKey r 0x01) = v ∧
      (v ≠ s.get (regionKey r 0x01) → (writeRegion r 0x01 v s).get (regionKey r 0x0C) =
        if v = 1 then (if s.get (regionKey r 0x04) = 1 then 2 else 1) else 0) := by
  have hq : Quiet kw_setRegionState (regionKey r 0x01) v := quiet_regionKey (by decide) (by decide) v
  have hput : Holds (regionKey r 0x01) v (s.put (regionKey r 0x01) v) := get_put_self _ _ _
  have hclass : (s.put (regionKey r 0x01) v).get (regionKey r 0x04) = s.get (regionKey r 0x04) := get_put_ne (regionKey_ne_sub (by decide)) v
  unfold writeRegion
  simp only [if_true]
  by_cases hsame : v = s.get (regionKey r 0x01)
  · rw [if_pos hsame]
    exact ⟨hput, fun h => absurd hsame h⟩
  by_cases hon : v = 1
  · rw [if_neg hsame, if_pos hon]
    refine ⟨kp_bringOnline (hq.mono rfl) r hput, fun _ => ?_⟩
    unfold bringOnline
    rw [hclass, if_pos hon]
    split
    · exact get_prepare_state r _
    · exact get_setRegionState_self r 1 _
  · rw [if_neg hsame, if_neg hon, if_neg hon]
    exact ⟨kp_setRegionState (hq.mono rfl) r 0 hput, fun _ => get_setRegionState_self r 0 _⟩

theorem writeRegion_class {r v : Nat} (s : State) :
    (writeRegion r 0x04 v s).get (regionKey r 0x04) = v ∧ (writeRegion r 0x04 v s).get (regionKey r 0x0C) =
      if s.regionEnabled r = true ∧ s.regionOffline r = false then
        (if v = 1 then (if s.get (regionKey r 0x04) = 1 then s.get (regionKey r 0x0C) else 2)
         else if s.get (regionKey r 0x0C) = 2 then 1 else s.get (regionKey r 0x0C))
      else s.get (regionKey r 0x0C) := by
  have hq : Quiet kw_setRegionState (regionKey r 0x04) v := quiet_regionKey (by decide) (by decide) v
  have hput : Holds (regionKey r 0x04) v (s.put (regionKey r 0x04) v) := get_put_self _ _ _
  have hother {sub : Nat} (h : sub ≠ 0x04) : (s.put (regionKey r 0x04) v).get (regionKey r sub) = s.get (regionKey r sub) :=
    get_put_ne (regionKey_ne_sub h) v
  have henabled : (s.put (regionKey r 0x04) v).regionEnabled r = s.regionEnabled r := by unfold State.regionEnabled; rw [hother (by decide)]
  have hoffline : (s.put (regionKey r 0x04) v).regionOffline r = s.regionOffline r := by unfold State.regionOffline; rw [hother (by decide)]
  unfold writeRegion
  simp only [henabled, hoffline, hother (sub := 0x0C) (by decide), if_true, show (0x04 : Nat) ≠ 0x01 by decide, if_false]
  by_cases hruns : s.regionEnabled r = true ∧ s.regionOffline r = false
  · obtain ⟨hon, hin⟩ := hruns
    simp only [hon, hin, Bool.not_true, Bool.or_false, Bool.false_eq_true, if_false, true_and, if_true]
    by_cases hfull : v = 1
    · subst hfull
      simp only [if_true]
      split
      · exact ⟨hput, hother (by decide)⟩
      · exact ⟨kp_prepare (hq.mono rfl) r hput, get_prepare_state r _⟩
    · simp only [hfull, if_false]
      split
      · exact ⟨kp_setRegionState (hq.mono rfl) r 1 hput, get_setRegionState_self r 1 _⟩
      · exact ⟨hput, hother (by decide)⟩
  · have hstands : (!s.regionEnabled r || s.regionOffline r) = true := by
      revert hruns
      cases s.regionEnabled r <;> cases s.regionOffline r <;> simp
    rw [if_pos hstands, if_neg hruns]
    exact ⟨hput, hother (by decide)⟩

/-! ### Ports -/

theorem quiet_exceptionKeys {p : Port} {k : Nat} (h : k ∈ [p.key 0x05, p.key 0x06]) (v : Nat) :
    Quiet kw_triggerDrain k v ∧ Quiet kw_dropReady k v ∧ Quiet kw_closeDrained k v ∧ k ≠ 0x300104 + p.code := by
  rcases List.mem_pair.mp h with rfl | rfl <;> cases p <;>
    exact ⟨⟨rfl, .inl (by decide)⟩, ⟨rfl, .inl (by decide)⟩, ⟨rfl, .inl (by decide)⟩, by decide⟩

theorem linkState_dropLink (p : Port) (s : State) : (dropLink p s).linkState p = 0 := by
  have hq : Quiet kw_none (p.key 0x01) 0 := by cases p <;> exact ⟨rfl, .inl (by decide)⟩
  have hne : p.key 0x01 ≠ p.key 0x02 ∧ p.key 0x01 ≠ p.key 0x03 := by cases p <;> decide
  unfold dropLink State.linkState
  exact hd_raiseIf hq _ _ (kp_endPortSessions hq p (kp_modPort hq p _ (hd_put hne.2 (hd_put hne.1 (get_put_self _ _ _)))))

theorem closeDrained_of_closing {s : State} {p : Port} (h : (s.port p).closing = true) :
    (closeDrained p s).linkState p = 0 ∨ (((closeDrained p s).port p).closing = true ∧ ((closeDrained p s).port p).draining ≠ 0) := by
  unfold closeDrained
  split
  · exact .inl (linkState_dropLink p s)
  · rename_i hdrains
    exact .inr ⟨h, by simpa [h] using hdrains⟩

theorem linkState_closeDrained {s : State} {p : Port} (h : (s.port p).closing = true) (hd : (s.port p).draining = 0) :
    (closeDrained p s).linkState p = 0 := by
  unfold closeDrained
  rw [if_pos (by simp [h, hd])]
  exact linkState_dropLink p s

/-- With nothing queued and nothing waiting, a drain that is triggered changes nothing. -/
theorem triggerDrain_of_rests {s : State} {p : Port} (h : PortRests s p) : triggerDrain p s = s := by
  obtain ⟨hqueue, hwaits⟩ := h
  have hport : { s.port p with draining := if (s.port p).queue.any fun x => decide (x.seq < s.nextSeq) then max s.nextSeq (s.port p).draining else 0 }
      = s.port p := by
    rw [hqueue, List.any_nil, if_neg Bool.false_ne_true, ← hwaits.1]
  have hdrain : drainPort p s = s := by
    simp only [drainPort, drainTo, settleHolds, hqueue, List.foldl_nil, List.length_nil, drainLoop]
    exact (congrArg (s.setPort p) hport).trans (setPort_port s p)
  rw [triggerDrain, hdrain, resumePort_of_rests hwaits]

theorem Onward.portRests {p : Port} {r s : State} (h : Onward p r s) (hr : PortRests r p) : PortRests s p :=
  ⟨h.queue.trans hr.1, h.rests hr.2⟩

/-- An exception of a port is counted with its cause; a port that rests goes on resting (R94). -/
theorem portException_notes (p : Port) (cause : Nat) (s : State) :
    (portException p cause s).get (p.key 0x06) = cause ∧ Counted (p.key 0x05) 1 s (portException p cause s) ∧
      (PortRests s p → PortRests (portException p cause s) p) := by
  obtain ⟨hcount, -, -, -⟩ := quiet_exceptionKeys (p := p) (List.mem_cons_self) (countAfter (p.key 0x05) (s.get (p.key 0x05)) 1)
  obtain ⟨hcause, -, -, -⟩ := quiet_exceptionKeys (p := p) (List.mem_cons_of_mem _ (List.mem_singleton_self _)) cause
  have hne : p.key 0x05 ≠ p.key 0x06 := by cases p <;> decide
  unfold portException
  refine ⟨kp_triggerDrain hcause p (hd_raise hcause _ (kp_loseAll (hcause.mono rfl) p _ (get_put_self _ _ _))),
    kp_triggerDrain hcount p (hd_raise hcount _ (kp_loseAll (hcount.mono rfl) p _ (hd_put hne (get_bump_self s _)))), fun hr => ?_⟩
  have ho : Onward p s (raise (portSource p 6) (loseAll p .exception ((s.bump (p.key 0x05)).put (p.key 0x06) cause))) :=
    on_raise _ ((on_put _ _ (on_bump _ (on_refl s))).quiet (fr_loseAll rfl p _ (keeps_refl _ _)))
  rw [triggerDrain_of_rests (ho.portRests hr)]
  exact ho.portRests hr

theorem on_dropReady (q : Port) {p : Port} {r s : State} (hs : Onward p r s) : Onward p r (dropReady q s) := by
  have h := on_modPort q (fun v => { v with memoryActive := false }) (fun _ => rfl) (on_put (q.key 0x04) 0 hs)
  unfold dropReady
  exact on_cond (on_put _ _ h) h

theorem ready_dropReady (p : Port) (s : State) : (dropReady p s).ready p = false := by
  have hq : Quiet kw_none (p.key 0x04) 0 := by cases p <;> exact ⟨rfl, .inl (by decide)⟩
  have hne : p.key 0x04 ≠ p.key 0x01 := by cases p <;> decide
  have hready : Holds (p.key 0x04) 0 (dropReady p s) := by
    have h : Holds (p.key 0x04) 0 ((s.put (p.key 0x04) 0).modPort p fun v => { v with memoryActive := false }) :=
      kp_modPort hq p _ (get_put_self _ _ _)
    unfold dropReady
    exact hd_cond (hd_put hne h) h
  unfold State.ready
  rw [show (dropReady p s).get (p.key 0x04) = 0 from hready]
  rfl

theorem enablePort_of_enabled {p : Port} {s : State} (h : s.get (0x300104 + p.code) = 1) : enablePort p true s = s := by
  unfold enablePort
  simp only [h]
  rfl

theorem get_enablePort_on (p : Port) (s : State) : (enablePort p true s).get (0x300104 + p.code) = 1 := by
  have hq : Quiet kw_raiseReady (0x300104 + p.code) 1 := by cases p <;> exact ⟨rfl, .inl (by decide)⟩
  by_cases hon : s.get (0x300104 + p.code) = 1
  · rw [enablePort_of_enabled hon, hon]
  · have hput (t : State) (f : PortState → PortState) : Holds (0x300104 + p.code) 1 ((t.put (0x300104 + p.code) 1).modPort p f) :=
      kp_modPort (hq.mono rfl) p f (get_put_self _ _ _)
    unfold enablePort
    simp only [beq_iff_eq, hon, if_true, if_false, beq_true]
    exact hd_cond (kp_raiseReady hq p (hput _ _)) (hput _ _)

/-- A port that is disabled, before its link may fall: a link in use has its exception, and readiness is gone. -/
def startClosing (p : Port) (s : State) : State :=
  (dropReady p (if s.linkState p == 2 || s.linkState p == 3 then portException p 6 s else s)).modPort p fun q => { q with closing := true }

theorem enablePort_off {p : Port} {s : State} (hon : s.get (0x300104 + p.code) = 1) :
    enablePort p false s = (closeDrained p (startClosing p s)).put (0x300104 + p.code) 0 := by
  unfold enablePort
  simp only [hon]
  rfl

theorem closing_startClosing (p : Port) (s : State) : ((startClosing p s).port p).closing = true := by
  unfold startClosing
  rw [port_modPort_self]

theorem ready_closeDrained (p : Port) (s : State) : (closeDrained p (startClosing p s)).ready p = false := by
  have hready := ready_dropReady p (if s.linkState p == 2 || s.linkState p == 3 then portException p 6 s else s)
  have hq (v : Nat) : Quiet kw_closeDrained (p.key 0x04) v := by cases p <;> exact ⟨rfl, .inl (by decide)⟩
  have hkeep : (closeDrained p (startClosing p s)).get (p.key 0x04) = _ := kp_closeDrained (hq _) p (kp_modPort ((hq _).mono rfl) p _ rfl)
  unfold State.ready at hready ⊢
  rw [hkeep]
  exact hready

theorem draining_startClosing {p : Port} {s : State} (hr : PortRests s p) : ((startClosing p s).port p).draining = 0 := by
  have hrests : PortRests (if s.linkState p == 2 || s.linkState p == 3 then portException p 6 s else s) p := by
    obtain ⟨-, -, hexception⟩ := portException_notes p 6 s
    split
    · exact hexception hr
    · exact hr
  unfold startClosing
  rw [port_modPort_self]
  exact ((on_dropReady p (on_refl _)).portRests hrests).2.1

/-- The exception of a link in use keeps its cause and its count while the port closes. -/
theorem get_exceptionKeys_closeDrained {p : Port} {s : State} (hup : s.linkState p = 2 ∨ s.linkState p = 3) {k : Nat}
    (hk : k ∈ [p.key 0x05, p.key 0x06]) : (closeDrained p (startClosing p s)).get k = (portException p 6 s).get k := by
  obtain ⟨-, hdrop, hclose, -⟩ := quiet_exceptionKeys hk ((portException p 6 s).get k)
  unfold startClosing
  rw [if_pos (by simpa using hup)]
  exact kp_closeDrained hclose p (kp_modPort (hclose.mono rfl) p _ (kp_dropReady hdrop p rfl))

/-- A port that is disabled closes: its link falls at once, or when its drain has ended (R50). -/
theorem enablePort_closes {p : Port} {s : State} (hon : s.get (0x300104 + p.code) = 1) :
    (enablePort p false s).ready p = false ∧
      ((enablePort p false s).linkState p = 0 ∨
        (((enablePort p false s).port p).closing = true ∧ ((enablePort p false s).port p).draining ≠ 0)) ∧
      (PortRests s p → (enablePort p false s).linkState p = 0) ∧
      (s.linkState p = 2 ∨ s.linkState p = 3 → (enablePort p false s).get (p.key 0x06) = 6 ∧
        Counted (p.key 0x05) 1 s (enablePort p false s)) := by
  have hput {k : Nat} (hk : k ≠ 0x300104 + p.code) :
      ((closeDrained p (startClosing p s)).put (0x300104 + p.code) 0).get k = (closeDrained p (startClosing p s)).get k := get_put_ne hk 0
  have hlink : p.key 0x01 ≠ 0x300104 + p.code := by cases p <;> decide
  have hready : p.key 0x04 ≠ 0x300104 + p.code := by cases p <;> decide
  have hcount : p.key 0x05 ∈ [p.key 0x05, p.key 0x06] := List.mem_cons_self
  have hcause : p.key 0x06 ∈ [p.key 0x05, p.key 0x06] := List.mem_cons_of_mem _ (List.mem_singleton_self _)
  have hkey {k : Nat} (hk : k ∈ [p.key 0x05, p.key 0x06]) : k ≠ 0x300104 + p.code := by
    obtain ⟨-, -, -, hne⟩ := quiet_exceptionKeys hk 0
    exact hne
  have hcloses := closing_startClosing p s
  obtain ⟨hsix, hcounted, -⟩ := portException_notes p 6 s
  simp only [enablePort_off hon, State.ready, State.linkState, Counted, port_put, hput hlink, hput hready, hput (hkey hcount),
    hput (hkey hcause)]
  refine ⟨ready_closeDrained p s, closeDrained_of_closing hcloses, fun hr => linkState_closeDrained hcloses (draining_startClosing hr),
    fun hup => ⟨?_, ?_⟩⟩
  · rw [get_exceptionKeys_closeDrained hup hcause, hsix]
  · rw [get_exceptionKeys_closeDrained hup hcount]
    exact hcounted

/-! ### Protection that is withdrawn -/

theorem protectionActs_of {s t : State} (hmode : t.mode = s.mode) (hstep : t.modes = s.modes) : t.protectionActs = s.protectionActs := by
  unfold State.protectionActs State.dataPath State.serving
  rw [hmode, hstep]

/-- Protection is being left, or is over: what was received under it is on the medium (R22). -/
def Withdrawn (s : State) : Prop := s.get 0x402001 = 2 ∨ (s.get 0x402001 = 0 ∧ s.staging = [] ∧ s.protectedQueued = false)

theorem Withdrawn.unprotected {s : State} (h : Withdrawn s) : s.protected = false := by
  unfold State.protected
  obtain h | ⟨h, -, -⟩ := h <;> rw [h] <;> rfl

theorem finishLeaving_withdraws {s : State} (h : s.get 0x402001 = 2) : Withdrawn (finishLeaving s) := by
  have hprogram : Holds 0x402001 2 (programAll s) := kp_programAll ⟨rfl, .inl (by decide)⟩ h
  unfold finishLeaving
  split
  · exact .inl h
  · simp only
    split
    · rename_i hdone
      simp only [Bool.and_eq_true, List.isEmpty_iff, Bool.not_eq_true'] at hdone
      exact .inr ⟨get_put_self _ _ _, hdone⟩
    · exact .inl hprogram

theorem loseProtection_withdraws (causes : Nat) (s : State) : Withdrawn (loseProtection causes s) :=
  finishLeaving_withdraws ((get_raise (by decide)).trans (get_put_self _ _ _))

/-- With a cause against it, no protection is in force (R22, R377). -/
theorem updateProtection_unprotected {s : State} (hc : s.protectCauses ≠ 0) (ha : s.protectionActs = true) :
    (updateProtection s).protected = false := by
  have hput : (s.put 0x402002 s.protectCauses).get 0x402001 = s.get 0x402001 := get_put_ne (by decide) _
  unfold updateProtection
  simp only [ha, if_true, if_neg hc]
  split
  · exact (loseProtection_withdraws _ s).unprotected
  · rename_i hnot
    split
    · rename_i hleaves
      exact (finishLeaving_withdraws (hput.trans hleaves)).unprotected
    · unfold State.protected
      rw [hput]
      exact beq_eq_false_iff_ne.mpr hnot

theorem protectCauses_of_forced {s : State} (h : s.get 0x402007 = 1) : s.protectCauses ≠ 0 := by
  simp only [State.protectCauses, h, if_true]
  omega

/-! ### The entries -/

theorem numberEntry_enable (p : Port) : numberEntry (0x300104 + p.code) = true := by cases p <;> decide +kernel

theorem putNumber_enable (req : Req) (p : Port) (v stamp seen : Nat) (s : State) :
    putNumber req (0x300104 + p.code) v stamp seen s = enablePort p (v == 1) s := by
  cases p <;> rfl

theorem eq_ok_of_ite {c : Prop} [Decidable c] {refused rest : Nat} (hr : refused ≠ stOk) (h : (if c then refused else rest) = stOk) :
    rest = stOk := by
  split at h
  · exact absurd h hr
  · exact h

theorem firstFailing_ok {l : List (Bool × Nat)} (hl : ∀ x ∈ l, x.2 ≠ stOk) (h : firstFailing l = stOk) : ∀ x ∈ l, x.1 = true := by
  induction l with
  | nil => simp
  | cons y l ih =>
    obtain ⟨ok, status⟩ := y
    rw [List.forall_mem_cons] at hl ⊢
    cases ok with
    | true => exact ⟨rfl, ih hl.2 h⟩
    | false => exact absurd h hl.1

/-- The value of an admitted request lies in the entry's range. -/
theorem rangeOk_of_judge {req : Req} {idx sub : Nat} {ask : DictAsk} {u : State} {d : Desc} (hd : describe (idx * 256 + sub) = some d)
    (h : u.judge req idx sub ask = stOk) : u.rangeOk req (idx * 256 + sub) d ask = true := by
  simp only [State.judge, hd] at h
  have hchecks := eq_ok_of_ite (by decide) (eq_ok_of_ite (by decide) (eq_ok_of_ite (by decide) h))
  refine firstFailing_ok ?_ hchecks (_, stOutOfRange) (.tail _ (.tail _ (.tail _ (.head _))))
  simp only [List.forall_mem_cons, List.not_mem_nil, false_implies, implies_true, and_true]
  refine ⟨by decide, ?_, by decide, by decide, by decide, by decide, by decide⟩
  split <;> decide

/-- An admitted value of a port's enable is 0 or 1. -/
theorem enable_le_one {p : Port} {req : Req} {v : List Byte} {s u : State} (h : Admitted s req 0x3001 (0x04 + p.code) (.write v) u) :
    bytesToNat v ≤ 1 := by
  obtain ⟨d, hd, hrw, hbytes, hsigned, hhi⟩ : ∃ d, describe (0x3001 * 256 + (0x04 + p.code)) = some d ∧ d.access ≠ .act ∧
      d.ty.isBytes = false ∧ d.ty.isSigned = false ∧ d.hi = 1 := by
    cases p
    · exact ⟨_, rfl, by decide +kernel⟩
    · exact ⟨_, rfl, by decide +kernel⟩
  obtain ⟨-, hok, -⟩ := h
  have hrange := rangeOk_of_judge hd hok
  have hplain : isLevelKey (0x3001 * 256 + (0x04 + p.code)) = false ∧ 0x3001 * 256 + (0x04 + p.code) ≠ 0x140201 := by cases p <;> decide
  simp only [State.rangeOk, hrw, if_false, State.valueOk, hplain.1, hplain.2, hbytes, hsigned, hhi, Bool.false_eq_true, Bool.and_eq_true,
    decide_eq_true_eq] at hrange
  omega

theorem get_enablePort {p : Port} {v : Nat} {s : State} (hv : v ≤ 1) (hs : s.get (0x300104 + p.code) ≤ 1) :
    (enablePort p (v == 1) s).get (0x300104 + p.code) = v := by
  obtain rfl | rfl : v = 1 ∨ v = 0 := by omega
  · exact get_enablePort_on p s
  · by_cases hon : s.get (0x300104 + p.code) = 1
    · exact (congrArg (State.get · _) (enablePort_off hon)).trans (get_put_self _ _ _)
    · have hoff : s.get (0x300104 + p.code) = 0 := by omega
      have hstands : enablePort p false s = s := by
        unfold enablePort
        simp only [hoff]
        rfl
      exact (congrArg (State.get · _) hstands).trans hoff

theorem get_recordedWrite_port {p : Port} {k : Nat} (hk : k ∈ [0x300104 + p.code, p.key 0x01, p.key 0x05]) (req : Req) (key : Nat)
    (v : List Byte) (u : State) : (recordedWrite req key v u).get k = u.get k := by
  have hplain : ¬reportKey k ∧ k ≠ 0x120001 := by
    simp only [List.mem_cons, List.not_mem_nil, or_false] at hk
    rcases hk with rfl | rfl | rfl <;> cases p <;> decide
  exact get_recordedWrite hplain.1 hplain.2 req key v u

/-- An admitted write of a number completes with the effect of its entry, where the request is recorded. -/
theorem completes_number {c : Instr} {req : Req} {idx sub key : Nat} {v : List Byte} {s u w : State} {P : State → Prop}
    (hkey : idx * 256 + sub = key) (hrun : exec c s = .next (request req idx sub (.write v) {} s)) (hk : numberEntry key = true)
    (h : Admitted s req idx sub (.write v) u)
    (hw : putNumber req key (bytesToNat v) u.stampNow (u.get (key + 1)) (recordedWrite req key v u) = w)
    (hP : ∀ o, Replied req (.write v) 0 (deliver req o w) → P (deliver req o w)) : Completes c s P := by
  subst hkey hw
  obtain ⟨o, hreplied, hreq⟩ := request_number hk h
  exact ⟨_, hrun, hreq ▸ hP o (hreplied _)⟩

/-- Settles O37: each admitted write is the effect of its entry on the state in which the request is recorded, then the answer. -/
theorem settingsAndRegionsTakeEffect : Obligations.SettingsAndRegionsTakeEffect := by
  refine ⟨fun s u req v => ⟨fun h => ?_, fun h => ?_, fun p h hone => ?_, fun h => ?_⟩, fun s u req r v => ⟨fun h => ?_, fun h => ?_⟩⟩
  · refine completes_number (key := 0x405001) rfl rfl (by decide +kernel) h rfl fun o hreplied => ?_
    obtain ⟨htime, hsource⟩ := setTime_sets (bytesToNat v) (if onLink req.path then 2 else 1) (recordedWrite req 0x405001 v u)
    exact ⟨(deviceTime_deliver _ _ _).trans htime, (get_deliver _ _ _ _).trans hsource, hreplied⟩
  · refine completes_number (key := 0x401001) rfl rfl (by decide +kernel) h rfl fun o hreplied => ?_
    obtain ⟨hasked, happlied, hraised⟩ := setProfile_applies (bytesToNat v) (recordedWrite req 0x401001 v u)
    rw [get_recordedWrite (by decide) (by decide)] at hraised
    refine ⟨(get_deliver _ _ _ _).trans hasked, (get_deliver _ _ _ _).trans happlied, fun hne hcan => (get_deliver _ _ _ _).trans ?_, hreplied⟩
    exact hraised hne ((canOccur_of_mode (mode_recordedWrite req 0x401001 v u) 92).trans hcan)
  · refine completes_number (key := 0x300104 + p.code) (by omega) rfl (numberEntry_enable p) h (putNumber_enable ..) fun o hreplied => ?_
    have hkeep {k : Nat} (hk : k ∈ [0x300104 + p.code, p.key 0x01, p.key 0x05]) :=
      get_recordedWrite_port hk req (0x300104 + p.code) v u
    have hvalue := get_enablePort (enable_le_one h) ((hkeep (by simp)).trans_le hone)
    refine ⟨(get_deliver _ _ _ _).trans hvalue, hreplied, fun hon hzero => ?_⟩
    have hcloses := enablePort_closes ((hkeep (by simp)).trans hon)
    simp only [State.ready, State.linkState, Counted, hkeep (k := p.key 0x01) (by simp), hkeep (k := p.key 0x05) (by simp)] at hcloses
    obtain ⟨hready, hlink, hrests, hcause⟩ := hcloses
    simp only [hzero, State.ready, State.linkState, Counted, get_deliver, port_deliver]
    exact ⟨hready, hlink, fun hr => hrests ((on_recordedWrite req _ v p u).portRests hr), hcause⟩
  · refine completes_number (key := 0x402007) rfl rfl (by decide +kernel) h rfl fun o hreplied => ?_
    have hforced : (updateProtection ((recordedWrite req 0x402007 v u).put 0x402007 (bytesToNat v))).get 0x402007 = bytesToNat v :=
      kp_updateProtection ⟨rfl, .inl (by decide)⟩ (get_put_self _ _ _)
    refine ⟨(get_deliver _ _ _ _).trans hforced, hreplied, fun hone hacts _ => ?_⟩
    have hmode : ((recordedWrite req 0x402007 v u).put 0x402007 (bytesToNat v)).mode = u.mode :=
      (get_put_ne (by decide) _).trans (mode_recordedWrite req 0x402007 v u)
    have hacts' := (protectionActs_of hmode (modes_recordedWrite req 0x402007 v u)).trans hacts
    have hcauses := protectCauses_of_forced ((get_put_self (recordedWrite req 0x402007 v u) 0x402007 (bytesToNat v)).trans hone)
    exact (congrArg (· == 1) (get_deliver _ _ _ _)).trans (updateProtection_unprotected hcauses hacts')
  · refine completes_number (regionKey_fin r 0x01).symm rfl (regionKey_fin r 0x01 ▸ (numberEntry_region r).1) h
      (putNumber_region req r (by decide) ..) fun o hreplied => ?_
    obtain ⟨hset, hstate⟩ := writeRegion_enable (r := r.val) (v := bytesToNat v) (recordedWrite req (regionKey r.val 0x01) v u)
    rw [get_recordedWrite_region _ (by decide), get_recordedWrite_region _ (by decide)] at hstate
    exact ⟨(get_deliver _ _ _ _).trans hset, hreplied, fun hne => (get_deliver _ _ _ _).trans (hstate hne)⟩
  · refine completes_number (regionKey_fin r 0x04).symm rfl (regionKey_fin r 0x04 ▸ (numberEntry_region r).2) h
      (putNumber_region req r (by decide) ..) fun o hreplied => ?_
    obtain ⟨hset, hstate⟩ := writeRegion_class (r := r.val) (v := bytesToNat v) (recordedWrite req (regionKey r.val 0x04) v u)
    have hkeep {sub : Nat} (hs : sub < 256) := get_recordedWrite_region r.val hs req (regionKey r.val 0x04) v u
    simp only [State.regionEnabled, State.regionOffline, hkeep (sub := 0x01) (by decide), hkeep (sub := 0x04) (by decide),
      hkeep (sub := 0x0C) (by decide)] at hstate ⊢
    exact ⟨(get_deliver _ _ _ _).trans hset, hreplied, (get_deliver _ _ _ _).trans hstate⟩

end Sys2Proof.Machine
end

section
/-! SUPPORT. What leaves the state of the management side as it is, but for the notices that reports add: one lemma for each operation that the
loss of protection uses. -/

namespace Sys2Proof.Machine

/-! ### The relation -/

/-- A management state is `md`, but for the notices that wait. -/
def ManagedWith (md v : Management) : Prop := { v with notices := [] } = md

/-- The management state is `md`, but for the notices that wait: sessions, changes and the statuses of actions stand. -/
def Managed (md : Management) (s : State) : Prop := ManagedWith md s.mgmt

theorem managed_self (s : State) : Managed { s.mgmt with notices := [] } s := rfl

theorem Managed.actionRuns {s t : State} (h : Managed { s.mgmt with notices := [] } t) (key : Nat) : t.actionRuns key = s.actionRuns key := by
  have hstatus := congrArg Management.actionStatus h
  unfold State.actionRuns
  exact congrArg (fun l => tgetD 0 key l == stBusy) hstatus

section Managed

variable {md : Management}

/-- Every part of the state but the management side, as a mask of `Keeps`. -/
def managedMask : Nat := 0x37FFFFFFF

theorem Managed.quiet {s t : State} (hs : Managed md s) (h : Keeps managedMask s t) : Managed md t := by
  unfold Managed
  rw [h.mgmt rfl]
  exact hs

theorem Managed.unreported {s t : State} (hs : Managed md s) (h : unreported t = unreported s) : Managed md t :=
  (congrArg State.mgmt h).trans hs

theorem mg_mk : ∀ x0 x1 x2 x3 x4 x5 x6 x7 x8 x9 x10 x11 x12 x13 x14 x15 x16 x17 x18 x19 x20 x21 x22 x23 x24 x25 x26 x27 x28 x29 x30 x31 x32 x33
    x34 x35 x36 x37 x38 x39, Managed md (State.mk x0 x1 x2 x3 x4 x5 x6 x7 x8 x9 x10 x11 x12 x13 x14 x15 x16 x17 x18 x19 x20 x21 x22 x23
      x24 x25 x26 x27 x28 x29 x30 x31 x32 x33 x34 x35 x36 x37 x38 x39) = ManagedWith md x36 := by intros; rfl
theorem mg_fold (s : State) : ManagedWith md s.mgmt = Managed md s := rfl
theorem mg_ite (p : Prop) [Decidable p] (a b : State) : Managed md (if p then a else b) = if p then Managed md a else Managed md b := by
  split <;> rfl
theorem mg_cond {p : Prop} [Decidable p] {a b : State} (ha : Managed md a) (hb : Managed md b) : Managed md (if p then a else b) := by
  split <;> assumption
theorem mg_foldl {α : Type} {f : State → α → State} {s : State} (h : ∀ t a, Managed md t → Managed md (f t a)) (l : List α)
    (hs : Managed md s) : Managed md (l.foldl f s) := by
  induction l generalizing s with
  | nil => exact hs
  | cons a l ih => rw [List.foldl_cons]; exact ih (h _ _ hs)

/-! ### Reports -/

theorem mg_raise (src : Nat) {s : State} (hs : Managed md s) : Managed md (raise src s) := hs.unreported (unreported_raise _ _)
theorem mg_raiseIf (c : Bool) (src : Nat) {s : State} (hs : Managed md s) : Managed md (raiseIf c src s) := hs.unreported (unreported_raiseIf _ _ _)
theorem mg_count (code q n : Nat) {s : State} (hs : Managed md s) : Managed md (count code q n s) := hs.unreported (unreported_count _ _ _ _)
theorem mg_count1 (code q : Nat) {s : State} (hs : Managed md s) : Managed md (count1 code q s) := hs.unreported (unreported_count1 _ _ _)

/-! ### Operations that write other parts of the state -/

theorem mg_put (key v : Nat) {s : State} (hs : Managed md s) : Managed md (State.put s key v) := hs.quiet (fr_put rfl _ _ (keeps_refl _ s))
theorem mg_bump (key : Nat) {s : State} (hs : Managed md s) : Managed md (State.bump s key) := hs.quiet (fr_bump rfl _ (keeps_refl _ s))
theorem mg_addTo (key n : Nat) {s : State} (hs : Managed md s) : Managed md (State.addTo s key n) :=
  hs.quiet (fr_addTo rfl _ _ (keeps_refl _ s))
theorem mg_raiseTo (key v : Nat) {s : State} (hs : Managed md s) : Managed md (State.raiseTo s key v) :=
  hs.quiet (fr_raiseTo rfl _ _ (keeps_refl _ s))
theorem mg_emit (o : Out) {s : State} (hs : Managed md s) : Managed md (emit o s) := hs.quiet (fr_emit rfl _ (keeps_refl _ s))
theorem mg_takeStamp {s : State} (hs : Managed md s) : Managed md (takeStamp s) := hs.quiet (fr_takeStamp rfl (keeps_refl _ s))
theorem mg_modPort (p : Port) (f : PortState → PortState) {s : State} (hs : Managed md s) : Managed md (State.modPort s p f) :=
  hs.quiet (fr_modPort rfl _ _ (keeps_refl _ s))
theorem mg_linesOnMedium (lines : List (Nat × Nat)) {s : State} (hs : Managed md s) : Managed md (linesOnMedium lines s) :=
  hs.quiet (fr_linesOnMedium rfl _ (keeps_refl _ s))
theorem mg_landMove (l : LogLine) (source : Option Nat) {s : State} (hs : Managed md s) : Managed md (landMove l source s) :=
  hs.quiet (fr_landMove rfl _ _ (keeps_refl _ s))
theorem mg_landStaged (mark : Nat) (l : LogLine) {s : State} (hs : Managed md s) : Managed md (landStaged mark l s) :=
  hs.quiet (fr_landStaged rfl _ _ (keeps_refl _ s))
theorem mg_putEntry (k : IntegrityKind) {s : State} (hs : Managed md s) : Managed md (putEntry k s) :=
  hs.quiet (fr_putEntry rfl _ (keeps_refl _ s))
theorem mg_coverJournal {s : State} (hs : Managed md s) : Managed md (coverJournal s) := hs.quiet (fr_coverJournal rfl (keeps_refl _ s))
theorem mg_addCycles (u n : Nat) {s : State} (hs : Managed md s) : Managed md (addCycles u n s) :=
  hs.quiet (fr_addCycles rfl _ _ (keeps_refl _ s))
theorem mg_disturb (u n : Nat) {s : State} (hs : Managed md s) : Managed md (disturb u n s) := hs.quiet (fr_disturb rfl _ _ (keeps_refl _ s))
theorem mg_setUnit (u : Nat) (r : UnitRec) {s : State} (hs : Managed md s) : Managed md (State.setUnit s u r) :=
  hs.quiet (fr_setUnit rfl _ _ (keeps_refl _ s))
theorem mg_appendRecord (k : JournalKind) {s : State} (hs : Managed md s) : Managed md (appendRecord k s) :=
  hs.quiet (fr_appendRecord rfl _ (keeps_refl _ s))
theorem mg_rowStarted (mark : Nat) (x : List ProgramStart) {s : State} (hs : Managed md s) : Managed md (rowStarted mark x s) :=
  hs.quiet (fr_rowStarted rfl _ _ (keeps_refl _ s))
theorem mg_startJobs (jobs : List Job) {s : State} (hs : Managed md s) : Managed md (startJobs jobs s).2 :=
  hs.quiet (fr_startJobs rfl _ (keeps_refl _ s))
theorem mg_endOverruns {s : State} (hs : Managed md s) : Managed md (endOverruns s) := hs.quiet (fr_endOverruns rfl (keeps_refl _ s))
theorem mg_touchIntegrity (obj : IntegrityObject) {s : State} (hs : Managed md s) : Managed md (touchIntegrity obj s) :=
  hs.quiet (fr_touchIntegrity rfl _ (keeps_refl _ s))
theorem mg_cacheLine (obj : IntegrityObject) {s : State} (hs : Managed md s) : Managed md (cacheLine obj s) :=
  hs.quiet (fr_cacheLine rfl _ (keeps_refl _ s))
theorem mg_touchBlock (page : Nat) {s : State} (hs : Managed md s) : Managed md (touchBlock page s) :=
  hs.quiet (fr_touchBlock rfl _ (keeps_refl _ s))
theorem mg_moveStamp (m : LogMove) {s : State} (hs : Managed md s) : Managed md (moveStamp m s).2 :=
  hs.quiet (fr_moveStamp rfl _ (keeps_refl _ s))
theorem mg_loseAll (p : Port) (cause : LossCause) {s : State} (hs : Managed md s) : Managed md (loseAll p cause s) :=
  hs.quiet (fr_loseAll rfl _ _ (keeps_refl _ s))
theorem mg_dropRead (id : Nat) {s : State} (hs : Managed md s) : Managed md (dropRead id s) := hs.quiet (fr_dropRead rfl _ (keeps_refl _ s))
theorem mg_endMerge (p : Port) (x : Store) {s : State} (hs : Managed md s) : Managed md (endMerge p x s) :=
  hs.quiet (fr_endMerge rfl _ _ (keeps_refl _ s))
theorem mg_unqueue (p : Port) (x : Store) {s : State} (hs : Managed md s) : Managed md (unqueue p x s) :=
  hs.quiet (fr_unqueue rfl _ _ (keeps_refl _ s))
theorem mg_rearmStall {s : State} (hs : Managed md s) : Managed md (rearmStall s) := hs.quiet (fr_rearmStall rfl (keeps_refl _ s))
theorem mg_setGroup (g : Nat) (v : Group) {s : State} (hs : Managed md s) : Managed md (State.setGroup s g v) :=
  hs.quiet (fr_setGroup rfl _ _ (keeps_refl _ s))
theorem mg_markConflict (g page : Nat) {s : State} (hs : Managed md s) : Managed md (markConflict g page s) :=
  hs.quiet (fr_markConflict rfl _ _ (keeps_refl _ s))
theorem mg_storeCommitted (line : Nat) (d : Line) (poison : Bool) (stamp wmode : Nat) (cmpTo : List (Port × Nat)) {s : State} (hs :
    Managed md s) : Managed md (storeCommitted line d poison stamp wmode cmpTo s) :=
  hs.quiet (fr_storeCommitted rfl _ _ _ _ _ _ (keeps_refl _ s))
theorem mg_dirtySegment (seg : Nat) {s : State} (hs : Managed md s) : Managed md (dirtySegment seg s) :=
  hs.quiet (fr_dirtySegment rfl _ (keeps_refl _ s))
theorem mg_stageLine (line : Nat) (grp tag : Option Nat) (d : Line) (poison : Bool) (stamp wmode : Nat) (cmpTo : List (Port × Nat)) {s :
    State} (hs : Managed md s) : Managed md (stageLine line grp tag d poison stamp wmode cmpTo s) :=
  hs.quiet (fr_stageLine rfl _ _ _ _ _ _ _ _ (keeps_refl _ s))
theorem mg_nextRebuild {s : State} (hs : Managed md s) : Managed md (nextRebuild s) := hs.quiet (fr_nextRebuild rfl (keeps_refl _ s))
theorem mg_rebuildSegment (seg : Nat) {s : State} (hs : Managed md s) : Managed md (rebuildSegment seg s) :=
  hs.quiet (fr_rebuildSegment rfl _ (keeps_refl _ s))
theorem mg_addRead (r : Read) {s : State} (hs : Managed md s) : Managed md (addRead r s) := hs.quiet (fr_addRead rfl _ (keeps_refl _ s))
theorem mg_startRebuild (seg : Nat) {s : State} (hs : Managed md s) : Managed md (startRebuild seg s) :=
  hs.quiet (fr_startRebuild rfl _ (keeps_refl _ s))
theorem mg_commitLines (g stamp : Nat) {s : State} (hs : Managed md s) : Managed md (commitLines g stamp s) :=
  hs.quiet (fr_commitLines rfl _ _ (keeps_refl _ s))
theorem mg_dirtyPages (first n : Nat) {s : State} (hs : Managed md s) : Managed md (dirtyPages first n s) :=
  hs.quiet (fr_dirtyPages rfl _ _ (keeps_refl _ s))
theorem mg_dropCachedRange (first n : Nat) {s : State} (hs : Managed md s) : Managed md (dropCachedRange first n s) :=
  hs.quiet (fr_dropCachedRange rfl _ _ (keeps_refl _ s))
theorem mg_unmap (entry : Nat) {s : State} (hs : Managed md s) : Managed md (unmap entry s) := hs.quiet (fr_unmap rfl _ (keeps_refl _ s))
theorem mg_startNext (g : Nat) {s : State} (hs : Managed md s) : Managed md (startNext g s) := hs.quiet (fr_startNext rfl _ (keeps_refl _ s))
theorem mg_wakeDiscard (p : Port) {s : State} (hs : Managed md s) : Managed md (wakeDiscard p s) :=
  hs.quiet (fr_wakeDiscard rfl _ (keeps_refl _ s))
theorem mg_drawn {s : State} (hs : Managed md s) : Managed md (drawn s) := hs.quiet (fr_drawn rfl (keeps_refl _ s))
theorem mg_setReserved (p : Port) (l : List Nat) {s : State} (hs : Managed md s) : Managed md (setReserved p l s) :=
  hs.quiet (fr_setReserved rfl _ _ (keeps_refl _ s))
theorem mg_setResultLine (p : Port) (c : Nat) (r : ResultLine) {s : State} (hs : Managed md s) : Managed md (setResultLine p c r s) :=
  hs.quiet (fr_setResultLine rfl _ _ _ (keeps_refl _ s))
theorem mg_clearBarrier (p : Port) {s : State} (hs : Managed md s) : Managed md (clearBarrier p s) :=
  hs.quiet (fr_clearBarrier rfl _ (keeps_refl _ s))
theorem mg_submitCommand (g : Nat) (c : GroupCommand) {s : State} (hs : Managed md s) : Managed md (submitCommand g c s) :=
  hs.quiet (fr_submitCommand rfl _ _ (keeps_refl _ s))
theorem mg_conditionalEffect (p : Port) (c : Nat) (be : ByteEnables) (d : Line) {s : State} (hs : Managed md s) : Managed md
    (conditionalEffect p c be d s) :=
  hs.quiet (fr_conditionalEffect rfl _ _ _ _ (keeps_refl _ s))
theorem mg_plainStore (p : Port) (c : Nat) (be : ByteEnables) (d : Line) {s : State} (hs : Managed md s) : Managed md (plainStore p c be d
    s) :=
  hs.quiet (fr_plainStore rfl _ _ _ _ (keeps_refl _ s))
theorem mg_writeDiscard (p : Port) (be : ByteEnables) (d : Line) {s : State} (hs : Managed md s) : Managed md (writeDiscard p be d s) :=
  hs.quiet (fr_writeDiscard rfl _ _ _ (keeps_refl _ s))
theorem mg_writeControl (p : Port) (k : Nat) (be : ByteEnables) (d : Line) {s : State} (hs : Managed md s) : Managed md (writeControl p k be
    d s) :=
  hs.quiet (fr_writeControl rfl _ _ _ _ (keeps_refl _ s))
theorem mg_writeDescriptor (k : Nat) (be : ByteEnables) (d : Line) {s : State} (hs : Managed md s) : Managed md (writeDescriptor k be d s)
    :=
  hs.quiet (fr_writeDescriptor rfl _ _ _ (keeps_refl _ s))

/-! ### Operations that raise reports -/

theorem mg_placeSample (r : SampleRecord) {s : State} (hs : Managed md s) : Managed md (placeSample r s) := by
  have obs (t : State) (o : Observe) (ht : Managed md t) : Managed md { t with obs := o } := ht
  have h := mg_bump 0xB03004 hs
  unfold placeSample
  simp only
  generalize s.bump 0xB03004 = a at h ⊢
  have hlost (o : Observe) (p : Prop) [Decidable p] :
      Managed md (if p then raise 124 (State.bump { a with obs := o } 0xB04003) else { a with obs := o }) :=
    mg_cond (mg_raise _ (mg_bump _ (obs _ _ h))) (obs _ _ h)
  exact mg_cond (mg_raise _ (obs _ _ (hlost _ _))) (hlost _ _)

theorem mg_sampleWindow (p : Port) (opcode line : Nat) (sampled : Bool) {s : State} (hs : Managed md s) : Managed md (sampleWindow p opcode
    line sampled s) := by
  unfold sampleWindow
  simp only [hs, mg_ite, ite_self, mg_placeSample, mg_takeStamp]

theorem mg_sendData (p : Port) (tag : Nat) (d : Line) (poison : Bool) {s : State} (hs : Managed md s) : Managed md (sendData p tag d poison
    s) := by
  unfold sendData
  simp (maxDischargeDepth := 40) +contextual only [hs, mg_ite, ite_self, mg_count, mg_count1, mg_emit, mg_modPort]

theorem mg_answerBarrier (p : Port) (b : BarrierRead) {s : State} (hs : Managed md s) : Managed md (answerBarrier p b s) := by
  unfold answerBarrier
  simp (maxDischargeDepth := 40) only [hs, mg_raiseTo, mg_sampleWindow, mg_sendData]

theorem mg_releaseBarriers (p : Port) (tag : Nat) {s : State} (hs : Managed md s) : Managed md (releaseBarriers p tag s) := by
  unfold releaseBarriers
  simp +contextual only [hs, implies_true, mg_answerBarrier, mg_modPort, mg_foldl]

theorem mg_sendCmp (p : Port) (tag : Nat) {s : State} (hs : Managed md s) : Managed md (sendCmp p tag s) := by
  unfold sendCmp
  simp only [hs, mg_ite, ite_self, mg_emit, mg_releaseBarriers]

theorem mg_sendCmps (l : List (Port × Nat)) {s : State} (hs : Managed md s) : Managed md (sendCmps l s) := by
  unfold sendCmps
  simp +contextual only [hs, implies_true, mg_sendCmp, mg_foldl]

theorem mg_checkLogFull {s : State} (hs : Managed md s) : Managed md (checkLogFull s) := by
  unfold checkLogFull
  split <;> simp only [hs, mg_mk, mg_fold, mg_ite, ite_self, mg_bump, mg_raise, mg_raiseTo]

theorem mg_programsRun (kind : OpKind) (u n bytes : Nat) {s : State} (hs : Managed md s) : Managed md (programsRun kind u n bytes s) := by
  unfold programsRun
  simp (maxDischargeDepth := 40) only [hs, mg_ite, ite_self, mg_addTo, mg_count, mg_raiseTo]

theorem mg_noteHealth {s : State} (hs : Managed md s) : Managed md (noteHealth s) := by
  unfold noteHealth
  simp only [hs, mg_mk, mg_fold, mg_ite, ite_self, mg_raise]

theorem mg_wearOut (u : Nat) {s : State} (hs : Managed md s) : Managed md (wearOut u s) := by
  unfold wearOut
  simp (maxDischargeDepth := 40) only [hs, mg_ite, ite_self, mg_appendRecord, mg_bump, mg_noteHealth, mg_raise, mg_setUnit]

theorem mg_sectorsProgrammed (u n page : Nat) {s : State} (hs : Managed md s) : Managed md (sectorsProgrammed u n page s) := by
  unfold sectorsProgrammed
  simp (maxDischargeDepth := 40) only [hs, mg_ite, ite_self, mg_addCycles, mg_count, mg_disturb, mg_setUnit, mg_wearOut]

theorem mg_ringSectorsOn (u n page : Nat) {s : State} (hs : Managed md s) : Managed md (ringSectorsOn u n page s) := by
  unfold ringSectorsOn
  simp only [hs, mg_programsRun, mg_sectorsProgrammed]

theorem mg_stripeSectors (r : Ring) (stripe row n : Nat) {s : State} (hs : Managed md s) : Managed md (stripeSectors r stripe row n s) := by
  unfold stripeSectors
  simp (maxDischargeDepth := 40) +contextual only [hs, mg_ite, ite_self, implies_true, mg_ringSectorsOn, mg_foldl]

theorem mg_ringSectors (r : Ring) (k row n : Nat) {s : State} (hs : Managed md s) : Managed md (ringSectors r k row n s) := by
  induction k generalizing row n s with
  | zero => exact hs
  | succ k ih => exact mg_cond hs (ih _ _ (mg_stripeSectors _ _ _ _ hs))

theorem mg_ringProgram (r : Ring) (row n : Nat) {s : State} (hs : Managed md s) : Managed md (ringProgram r row n s) := by
  unfold ringProgram
  simp only [hs, mg_ringSectors]

theorem mg_journalSectors (n : Nat) {s : State} (hs : Managed md s) : Managed md (journalSectors n s) := by
  unfold journalSectors
  simp only [hs, mg_mk, mg_fold, mg_ite, ite_self, mg_ringProgram]

theorem mg_programSector {s : State} (hs : Managed md s) : Managed md (programSector s) := by
  unfold programSector
  simp only [hs, mg_mk, mg_fold, mg_journalSectors]

theorem mg_programEntries {s : State} (hs : Managed md s) : Managed md (programEntries s) := by
  unfold programEntries
  simp +contextual only [hs, mg_mk, mg_fold, mg_ite, ite_self, implies_true, mg_coverJournal, mg_programSector, mg_foldl]

theorem mg_programJournal {s : State} (hs : Managed md s) : Managed md (programJournal s) := by
  unfold programJournal
  simp only [hs, mg_mk, mg_fold, mg_journalSectors]

theorem mg_programTail {s : State} (hs : Managed md s) : Managed md (programTail s) := by
  unfold programTail
  simp (maxDischargeDepth := 40) only [hs, mg_programEntries, mg_programJournal]

theorem mg_completeRow (r : LogRow) {s : State} (hs : Managed md s) : Managed md (completeRow r s) := by
  unfold completeRow
  refine mg_sendCmps _ (mg_checkLogFull (mg_count1 _ _ ?_))
  simp only
  have h : ∀ t : State, Managed md t → Managed md (linesOnMedium ((r.lines.filter fun l => l.moved.isNone).map (·.line))
      (r.lines.foldl (fun t l => match l.moved with
        | some source => landMove l source t
        | none => landStaged r.mark l t) (r.lines.foldl (fun t l => putEntry l.entry t) t))) := fun t ht =>
    mg_linesOnMedium _ (mg_foldl (fun t l ht => by
      split
      · exact mg_landMove _ _ ht
      · exact mg_landStaged _ _ ht) _ (mg_foldl (fun t l ht => mg_putEntry _ ht) _ ht))
  have h' := h { s with med := { s.med with rows := s.med.rows.map fun x => if x.mark == r.mark then { x with complete := true } else x } } hs
  split
  · exact mg_programTail h'
  · split
    · exact mg_programEntries h'
    · exact h'

theorem mg_sectorProgrammed (u page : Nat) {s : State} (hs : Managed md s) : Managed md (sectorProgrammed u page s) := by
  unfold sectorProgrammed
  simp only [hs, mg_ite, ite_self, mg_programTail, mg_sectorsProgrammed]

theorem mg_landRow (r : LogRow) {s : State} (hs : Managed md s) : Managed md (landRow r s) := by
  unfold landRow
  exact mg_completeRow _ (mg_foldl (fun t u ht => mg_sectorProgrammed _ _ ht) _
    (mg_foldl (fun t j ht => mg_programsRun _ _ _ _ ht) _ (mg_rowStarted _ _ (mg_startJobs _ (mg_endOverruns hs)))))

theorem mg_sectorsMoved (ch n : Nat) {s : State} (hs : Managed md s) : Managed md (sectorsMoved ch n s) := by
  unfold sectorsMoved
  simp (maxDischargeDepth := 40) only [hs, mg_addTo, mg_count]

theorem mg_sectorMoved (ch : Nat) {s : State} (hs : Managed md s) : Managed md (sectorMoved ch s) := by
  unfold sectorMoved
  simp only [hs, mg_sectorsMoved]

theorem mg_integritySector (obj : IntegrityObject) {s : State} (hs : Managed md s) : Managed md (integritySector obj s) := by
  unfold integritySector
  split <;> simp only [hs, mg_sectorMoved]

theorem mg_fetchLine (obj : IntegrityObject) {s : State} (hs : Managed md s) : Managed md (fetchLine obj s) := by
  unfold fetchLine
  simp (maxDischargeDepth := 40) +contextual only [hs, mg_ite, ite_self, implies_true, mg_bump, mg_cacheLine, mg_integritySector, mg_foldl]

theorem mg_reconstructions (unit n : Nat) {s : State} (hs : Managed md s) : Managed md (reconstructions unit n s) := by
  unfold reconstructions
  simp +contextual only [hs, implies_true, mg_sectorsMoved, mg_foldl]

theorem mg_agentReads (cls unit n : Nat) {s : State} (hs : Managed md s) : Managed md (agentReads cls unit n s) := by
  unfold agentReads
  simp only [hs, mg_ite, ite_self, mg_reconstructions, mg_sectorsMoved]

theorem mg_reEncrypt (line : Nat) {s : State} (hs : Managed md s) : Managed md (reEncrypt line s) := by
  unfold reEncrypt
  simp (maxDischargeDepth := 40) +contextual only [hs, mg_mk, mg_fold, implies_true, mg_agentReads, mg_bump, mg_putEntry, mg_raise,
    mg_touchBlock, mg_foldl]

theorem mg_takeSeal (line : Nat) (grp : Option Nat) (stamp : Nat) (preset : Option Seal) {s : State} (hs : Managed md s) : Managed md
    (takeSeal line grp stamp preset s).2 := by
  unfold takeSeal
  split
  · exact mg_touchIntegrity _ (mg_fetchLine _ hs)
  · split
    · exact hs
    · have h := mg_fetchLine (.tagLine (line / 8)) (mg_fetchLine (.counterBlock (pageOfLine line)) hs)
      refine mg_touchIntegrity _ (mg_touchBlock _ ?_)
      split
      · exact mg_reEncrypt _ h
      · simpa only [mg_mk, mg_fold] using h

theorem mg_sealInto (place line : Nat) (grp tag : Option Nat) (data : Line) (poison : Bool) (stamp : Nat) (preset : Option Seal) {s :
    State} (hs : Managed md s) : Managed md (sealInto place line grp tag data poison stamp preset s).2 := by
  have h := mg_takeSeal line tag stamp preset hs
  unfold sealInto
  simp only
  generalize (takeSeal line tag stamp preset s).2 = a at h ⊢
  split
  · exact mg_touchIntegrity _ (mg_fetchLine _ h)
  · exact h

theorem mg_placeMoves (mark q : Nat) (l : List LogMove) (acc : List LogLine) {s : State} (hs : Managed md s) : Managed md (placeMoves mark q
    l acc s).2 := by
  induction l generalizing q acc s with
  | nil => exact hs
  | cons m l ih =>
    exact ih _ _ (mg_sealInto (mark * 45 + q) m.line m.grp m.groupTag m.data m.poison (moveStamp m s).1 m.preset (mg_moveStamp m hs))

theorem mg_placeStaged (mark q : Nat) (l : List Staged) (acc : List LogLine) {s : State} (hs : Managed md s) : Managed md (placeStaged mark
    q l acc s).2 := by
  induction l generalizing q acc s with
  | nil => exact hs
  | cons x l ih => exact ih _ _ (mg_sealInto (mark * 45 + q) x.line x.grp x.tag x.data x.poison (if x.tag.isSome then x.orig else x.stamp) none hs)

theorem mg_dispatchRow {s : State} (hs : Managed md s) : Managed md (dispatchRow s) := by
  unfold dispatchRow
  simp (maxDischargeDepth := 40) only [hs, mg_mk, mg_fold, mg_checkLogFull, mg_placeMoves, mg_placeStaged]

theorem mg_flushLog (n : Nat) {s : State} (hs : Managed md s) : Managed md (flushLog n s) := by
  induction n generalizing s with
  | zero => exact hs
  | succ n ih =>
    unfold flushLog
    split
    · exact ih (mg_landRow _ hs)
    · simp only
      split
      · exact ih (mg_dispatchRow hs)
      · exact hs

theorem mg_programAll {s : State} (hs : Managed md s) : Managed md (programAll s) := by
  unfold programAll
  simp only [hs, mg_flushLog, mg_programTail]

theorem mg_finishLeaving {s : State} (hs : Managed md s) : Managed md (finishLeaving s) := by
  unfold finishLeaving
  simp only [hs, mg_mk, mg_fold, mg_ite, ite_self, mg_programAll, mg_put]

theorem mg_promptDone (r : Read) {s : State} (hs : Managed md s) : Managed md (promptDone r s) := by
  unfold promptDone
  simp (maxDischargeDepth := 40) only [hs, mg_ite, ite_self, mg_bump, mg_raise, mg_raiseTo]

theorem mg_sampleRead (p : Port) (opcode line acceptedAt outcome unit steps cls flags : Nat) (poison : Bool) {s : State} (hs : Managed md
    s) : Managed md (sampleRead p opcode line acceptedAt outcome unit steps cls flags poison s) := by
  unfold sampleRead
  simp only [hs, mg_placeSample, mg_takeStamp]

theorem mg_answerRead (r : Read) (v : Version) {s : State} (hs : Managed md s) : Managed md (answerRead r v s) := by
  unfold answerRead
  split <;> simp (maxDischargeDepth := 40) only [hs, mg_ite, ite_self, mg_dropRead, mg_promptDone, mg_sampleRead, mg_sendData]

theorem mg_answerMerges (p : Port) (line : Nat) {s : State} (hs : Managed md s) : Managed md (answerMerges p line s) := by
  unfold answerMerges
  simp +contextual only [hs, mg_ite, ite_self, implies_true, mg_answerRead, mg_foldl]

theorem mg_cmpStore (p : Port) (x : Store) {s : State} (hs : Managed md s) : Managed md (cmpStore p x s) := by
  unfold cmpStore
  simp only [hs, mg_ite, ite_self, mg_sendCmp]

theorem mg_raiseTimes (n src : Nat) {s : State} (hs : Managed md s) : Managed md (raiseTimes n src s) := by
  induction n generalizing s with
  | zero => exact hs
  | succ n ih => exact ih (mg_raise _ hs)

theorem mg_dropStores (p : Port) (bit n : Nat) {s : State} (hs : Managed md s) : Managed md (dropStores p bit n s) := by
  unfold dropStores
  simp (maxDischargeDepth := 40) +contextual only [hs, mg_ite, ite_self, mg_addTo, mg_modPort, mg_raiseTimes]

theorem mg_checkPool {s : State} (hs : Managed md s) : Managed md (checkPool s) := by
  unfold checkPool
  simp only [hs, mg_mk, mg_fold, mg_ite, ite_self, mg_raise]

theorem mg_discardProvisional (g : Nat) {s : State} (hs : Managed md s) : Managed md (discardProvisional g s) := by
  unfold discardProvisional
  simp only [hs, mg_mk, mg_fold, mg_rearmStall, mg_sendCmps]

theorem mg_journalPut (k : JournalKind) {s : State} (hs : Managed md s) : Managed md (journalPut k s) := by
  unfold journalPut
  simp only [hs, mg_ite, ite_self, mg_appendRecord, mg_programTail]

theorem mg_forceAbortNow (g cause : Nat) {s : State} (hs : Managed md s) : Managed md (forceAbortNow g cause s) := by
  unfold forceAbortNow
  simp (maxDischargeDepth := 40) only [hs, mg_bump, mg_checkPool, mg_discardProvisional, mg_dropStores, mg_journalPut, mg_raise,
    mg_setGroup]

theorem mg_forceAbort (g cause : Nat) (detail : Nat) {s : State} (hs : Managed md s) : Managed md (forceAbort g cause detail s) := by
  unfold forceAbort
  refine mg_cond hs ?_
  split
  · exact mg_forceAbortNow _ _ hs
  · exact mg_cond (mg_setGroup _ _ (mg_forceAbortNow _ _ hs)) (mg_setGroup _ _ hs)

theorem mg_sampleStore (p : Port) (x : Store) (stamp : Nat) {s : State} (hs : Managed md s) : Managed md (sampleStore p x stamp s) := by
  unfold sampleStore
  simp only [hs, mg_ite, ite_self, mg_placeSample]

theorem mg_storeProvisional (g line : Nat) (d : Line) (poison : Bool) (stamp wmode : Nat) (cmpTo : List (Port × Nat)) {s : State} (hs :
    Managed md s) : Managed md (storeProvisional g line d poison stamp wmode cmpTo s) := by
  unfold storeProvisional
  exact mg_checkPool (mg_dirtySegment _ (mg_stageLine _ _ _ _ _ _ _ _ (mg_cond (mg_setGroup _ _ hs) hs)))

theorem mg_visibleStore (p : Port) (x : Store) (d : Line) (poison : Bool) {s : State} (hs : Managed md s) : Managed md (visibleStore p x d
    poison s) := by
  unfold visibleStore
  repeat' split
  all_goals simp (maxDischargeDepth := 40) only [hs, mg_cmpStore, mg_dropStores, mg_forceAbort, mg_markConflict, mg_sampleStore,
    mg_storeCommitted, mg_storeProvisional, mg_takeStamp]

theorem mg_transfer (p : Port) (x : Store) {s : State} (hs : Managed md s) : Managed md (transfer p x s) := by
  unfold transfer
  simp (maxDischargeDepth := 40) only [hs, mg_ite, ite_self, mg_answerMerges, mg_bump, mg_cmpStore, mg_endMerge, mg_raise, mg_unqueue,
    mg_visibleStore]

theorem mg_readCheckpoint (seg : Nat) {s : State} (hs : Managed md s) : Managed md (readCheckpoint seg s) := by
  unfold readCheckpoint
  split <;> simp only [hs, mg_agentReads]

theorem mg_dropPrefetches (d : Nat) {s : State} (hs : Managed md s) : Managed md (dropPrefetches d s) := by
  unfold dropPrefetches
  simp (maxDischargeDepth := 40) +contextual only [hs, mg_ite, ite_self, implies_true, mg_bump, mg_dropRead, mg_foldl]

theorem mg_noteReconstruction (r : Read) {s : State} (hs : Managed md s) : Managed md (noteReconstruction r s) := by
  unfold noteReconstruction
  split <;> simp only [hs, mg_bump, mg_count1]

theorem mg_placeRead (r : Read) {s : State} (hs : Managed md s) : Managed md (placeRead r s) := by
  unfold placeRead
  simp only [hs, mg_ite, ite_self, mg_addRead, mg_dropPrefetches, mg_noteReconstruction]

theorem mg_tagRead (r : Read) {s : State} (hs : Managed md s) : Managed md (tagRead r s) := by
  unfold tagRead
  refine mg_cond hs ?_
  split
  · exact hs
  · exact mg_placeRead _ hs

theorem mg_dispatchRead (p : Port) (r : Read) {s : State} (hs : Managed md s) : Managed md (dispatchRead p r s) := by
  unfold dispatchRead
  split <;> simp (maxDischargeDepth := 40) +contextual only [hs, mg_ite, ite_self, implies_true, mg_bump, mg_count1, mg_dropRead,
    mg_placeRead, mg_tagRead, mg_foldl]

theorem mg_readMedium (p : Port) (r : Read) {s : State} (hs : Managed md s) : Managed md (readMedium p r s) := by
  unfold readMedium
  split <;> simp only [hs, mg_ite, ite_self, mg_addRead, mg_answerRead, mg_dispatchRead, mg_startRebuild]

theorem mg_releaseReads (ready : Nat → Bool) {s : State} (hs : Managed md s) : Managed md (releaseReads ready s) := by
  refine mg_foldl (fun t r ht => ?_) _ hs
  simp only
  have h := mg_raiseTo 0x404106 (t.clock - r.acceptedAt) (mg_dropRead r.id ht)
  split
  · exact mg_readMedium _ _ h
  · exact mg_readMedium _ _ h
  · exact h

theorem mg_finishRebuild (seg : Nat) {s : State} (hs : Managed md s) : Managed md (finishRebuild seg s) := by
  unfold finishRebuild
  simp (maxDischargeDepth := 40) only [hs, mg_nextRebuild, mg_readCheckpoint, mg_rebuildSegment, mg_releaseReads]

theorem mg_demandNow (seg : Nat) {s : State} (hs : Managed md s) : Managed md (demandNow seg s) := by
  unfold demandNow
  simp only [hs, mg_ite, ite_self, mg_bump, mg_finishRebuild]

theorem mg_drainLoop (n : Nat) (p : Port) (bound : Nat) {s : State} (hs : Managed md s) : Managed md (drainLoop n p bound s) := by
  induction n generalizing s with
  | zero => exact hs
  | succ n ih =>
    unfold drainLoop
    split
    · exact hs
    · exact ih (mg_transfer _ _ (mg_cond hs (mg_demandNow _ hs)))

theorem mg_decideCommit (g : Nat) {s : State} (hs : Managed md s) : Managed md (decideCommit g s) := by
  unfold decideCommit
  simp only
  split
  · exact hs
  · split
    · exact mg_raise _ (mg_count1 _ _ (mg_bump _ (mg_checkPool (mg_setGroup _ _ (mg_discardProvisional _ (mg_journalPut _ hs))))))
    · exact mg_sendCmps _ (mg_count1 _ _ (mg_bump _ (mg_checkPool (mg_setGroup _ _ (mg_journalPut _ (mg_commitLines _ _ hs))))))

theorem mg_discardRange (p : Port) (entry first n : Nat) {s : State} (hs : Managed md s) : Managed md (discardRange p entry first n s) := by
  unfold discardRange
  simp (maxDischargeDepth := 40) only [hs, mg_mk, mg_fold, mg_dirtyPages, mg_dropCachedRange, mg_journalPut, mg_rearmStall, mg_sendCmps]

theorem mg_finishDiscard (p : Port) (entry : Nat) {s : State} (hs : Managed md s) : Managed md (finishDiscard p entry s) := by
  unfold finishDiscard
  simp +contextual only [hs, mg_discardRange, mg_modPort]

theorem mg_runDiscard (p : Port) {s : State} (hs : Managed md s) : Managed md (runDiscard p s) := by
  have h : Managed md (if s.freeDiscardEntry.isNone then unmap 0 s else s) := mg_cond (mg_unmap 0 hs) hs
  unfold runDiscard
  refine mg_cond ?_ hs
  simp only
  split
  · exact mg_finishDiscard _ _ h
  · exact h

theorem mg_finishDiscards {s : State} (hs : Managed md s) : Managed md (finishDiscards s) := by
  unfold finishDiscards
  simp only [hs, mg_runDiscard]

theorem mg_answerReaders (g : Nat) {s : State} (hs : Managed md s) : Managed md (answerReaders g s) := by
  unfold answerReaders
  simp (maxDischargeDepth := 40) +contextual only [hs, implies_true, mg_sampleWindow, mg_sendData, mg_setGroup, mg_foldl]

theorem mg_applyCommand (g : Nat) (c : GroupCommand) {s : State} (hs : Managed md s) : Managed md (applyCommand g c s) := by
  unfold applyCommand
  simp (maxDischargeDepth := 40) only [hs, mg_ite, ite_self, mg_bump, mg_checkPool, mg_discardProvisional, mg_journalPut, mg_programTail,
    mg_setGroup]

theorem mg_writeResult (g : Nat) (c : GroupCommand) {s : State} (hs : Managed md s) : Managed md (writeResult g c s) := by
  have h (v : Group) (n : Nat) (p : Prop) [Decidable p] : Managed md (if p then (s.setGroup g v).raiseTo 0x502009 n else s.setGroup g v) :=
    mg_cond (mg_raiseTo _ _ (mg_setGroup _ _ hs)) (mg_setGroup _ _ hs)
  unfold writeResult
  simp only
  split
  · exact h _ _ _
  · exact mg_cond (mg_forceAbortNow _ _ (h _ _ _)) (mg_setGroup _ _ (h _ _ _))

theorem mg_finishCommand (g : Nat) {s : State} (hs : Managed md s) : Managed md (finishCommand g s) := by
  unfold finishCommand
  split <;> simp (maxDischargeDepth := 40) only [hs, mg_ite, ite_self, mg_answerReaders, mg_applyCommand, mg_startNext,
    mg_wakeDiscard, mg_writeResult]

theorem mg_settleGroup (n g : Nat) {s : State} (hs : Managed md s) : Managed md (settleGroup n g s) := by
  induction n generalizing s with
  | zero => exact hs
  | succ n ih =>
    unfold settleGroup
    simp only
    have h1 : Managed md (if s.commitReady g = true then decideCommit g s else s) := by
      split
      · exact mg_decideCommit _ hs
      · exact hs
    generalize (if s.commitReady g = true then decideCommit g s else s) = a at h1 ⊢
    have h2 : Managed md (if a.canFinish g = true then a else finishDiscards a) := by
      split
      · exact h1
      · exact mg_finishDiscards h1
    generalize (if a.canFinish g = true then a else finishDiscards a) = b at h2 ⊢
    split
    · exact ih (mg_finishCommand _ h2)
    · exact h2

theorem mg_settle (g : Nat) {s : State} (hs : Managed md s) : Managed md (settle g s) := by
  unfold settle
  simp only [hs, mg_settleGroup]

theorem mg_settleHolds (p : Port) {s : State} (hs : Managed md s) : Managed md (settleHolds p s) := by
  refine mg_foldl (fun t x ht => ?_) _ hs
  split
  · exact ht
  · exact mg_settle _ ht

theorem mg_drainTo (p : Port) (bound : Nat) {s : State} (hs : Managed md s) : Managed md (drainTo p bound s) := by
  unfold drainTo
  simp (maxDischargeDepth := 40) +contextual only [hs, mg_drainLoop, mg_modPort, mg_settleHolds]

theorem mg_drainPort (p : Port) {s : State} (hs : Managed md s) : Managed md (drainPort p s) := by
  unfold drainPort
  simp only [hs, mg_drainTo]

theorem mg_serveFlushes (p : Port) {s : State} (hs : Managed md s) : Managed md (serveFlushes p s) := by
  unfold serveFlushes
  simp (maxDischargeDepth := 40) +contextual only [hs, implies_true, mg_emit, mg_modPort, mg_raiseIf, mg_foldl]

theorem mg_answerWindow (p : Port) (tag line : Nat) (sampled : Bool) (d : Line) {s : State} (hs : Managed md s) : Managed md (answerWindow p
    tag line sampled d s) := by
  unfold answerWindow
  simp (maxDischargeDepth := 40) +contextual only [hs, mg_sampleWindow, mg_sendData]

theorem mg_readGroup (p : Port) (tag line g seq : Nat) (sampled : Bool) {s : State} (hs : Managed md s) : Managed md (readGroup p tag line g
    seq sampled s) := by
  unfold readGroup
  simp (maxDischargeDepth := 40) +contextual only [hs, mg_ite, ite_self, mg_answerWindow, mg_setGroup]

theorem mg_reserve (p : Port) (c : Nat) {s : State} (hs : Managed md s) : Managed md (reserve p c s) := by
  unfold reserve
  simp (maxDischargeDepth := 40) +contextual only [hs, mg_ite, ite_self, mg_bump, mg_raise, mg_setReserved, mg_setResultLine]

theorem mg_readCell (p : Port) (tag line aliasNo c : Nat) (sampled : Bool) {s : State} (hs : Managed md s) : Managed md (readCell p tag line
    aliasNo c sampled s) := by
  unfold readCell
  simp (maxDischargeDepth := 40) +contextual only [hs, mg_ite, ite_self, mg_answerWindow, mg_drawn, mg_reserve]

theorem mg_readBarrier (p : Port) (tag line acceptedAt : Nat) (sampled : Bool) {s : State} (hs : Managed md s) : Managed md (readBarrier p
    tag line acceptedAt sampled s) := by
  unfold readBarrier
  simp (maxDischargeDepth := 40) +contextual only [hs, mg_ite, ite_self, mg_answerBarrier, mg_clearBarrier, mg_modPort]

theorem mg_stray (p : Port) {s : State} (hs : Managed md s) : Managed md (stray p s) := by
  unfold stray
  simp (maxDischargeDepth := 40) +contextual only [hs, mg_bump, mg_raise]

theorem mg_readPortPage (p owner : Port) (tag line acceptedAt offset : Nat) (sampled : Bool) {s : State} (hs : Managed md s) : Managed md
    (readPortPage p owner tag line acceptedAt offset sampled s) := by
  unfold readPortPage
  simp (maxDischargeDepth := 40) +contextual only [hs, mg_ite, ite_self, mg_answerWindow, mg_readBarrier, mg_stray]

theorem mg_readDma (p : Port) (tag line k offset : Nat) (sampled : Bool) {s : State} (hs : Managed md s) : Managed md (readDma p tag line k
    offset sampled s) := by
  unfold readDma
  simp (maxDischargeDepth := 40) +contextual only [hs, mg_ite, ite_self, mg_answerWindow, mg_stray]

theorem mg_readTarget (p : Port) (w : PortWait) {s : State} (hs : Managed md s) (t : WindowTarget) : Managed md (readTarget p w s t) := by
  cases t with
  | groupLine g => exact mg_readGroup _ _ _ _ _ _ hs
  | cell a c => exact mg_readCell _ _ _ _ _ _ hs
  | portPage o f => exact mg_readPortPage _ _ _ _ _ _ _ hs
  | counters l => exact mg_answerWindow _ _ _ _ _ hs
  | dma k f => exact mg_readDma _ _ _ _ _ _ hs
  | unused => exact mg_answerWindow _ _ _ _ _ (mg_stray _ hs)

theorem mg_strayIf (c : Bool) (p : Port) {s : State} (hs : Managed md s) : Managed md (strayIf c p s) := by
  unfold strayIf
  simp (maxDischargeDepth := 40) +contextual only [hs, mg_ite, ite_self, mg_stray]

theorem mg_writeGroup (p : Port) (g seq : Nat) (be : ByteEnables) (d : Line) {s : State} (hs : Managed md s) : Managed md (writeGroup p g
    seq be d s) := by
  unfold writeGroup
  refine mg_cond (mg_raise _ (mg_dropStores _ _ _ hs)) ?_
  simp only
  split
  · exact mg_strayIf _ _ (mg_setGroup _ _ hs)
  · exact mg_submitCommand _ _ (mg_strayIf _ _ (mg_setGroup _ _ hs))

theorem mg_writeAlias (p : Port) (aliasNo c : Nat) (be : ByteEnables) (d : Line) {s : State} (hs : Managed md s) : Managed md (writeAlias p
    aliasNo c be d s) := by
  unfold writeAlias
  simp (maxDischargeDepth := 40) +contextual only [hs, mg_ite, ite_self, mg_conditionalEffect, mg_dropStores, mg_plainStore, mg_stray,
    mg_strayIf]

theorem mg_writePortPage (p owner : Port) (offset : Nat) (be : ByteEnables) (d : Line) {s : State} (hs : Managed md s) : Managed md
    (writePortPage p owner offset be d s) := by
  unfold writePortPage
  simp (maxDischargeDepth := 40) +contextual only [hs, mg_ite, ite_self, mg_stray, mg_strayIf, mg_writeDiscard]

theorem mg_writeDma (p : Port) (k offset : Nat) (be : ByteEnables) (d : Line) {s : State} (hs : Managed md s) : Managed md (writeDma p k
    offset be d s) := by
  unfold writeDma
  simp (maxDischargeDepth := 40) +contextual only [hs, mg_ite, ite_self, mg_dropStores, mg_stray, mg_strayIf, mg_writeControl,
    mg_writeDescriptor]

theorem mg_writeTarget (p : Port) (seq : Nat) (be : ByteEnables) (d : Line) {s : State} (hs : Managed md s) (t : WindowTarget) : Managed md
    (writeTarget p seq be d s t) := by
  cases t with
  | groupLine g => exact mg_writeGroup _ _ _ _ _ hs
  | cell a c => exact mg_writeAlias _ _ _ _ _ hs
  | portPage o f => exact mg_writePortPage _ _ _ _ _ hs
  | counters l => exact mg_stray _ hs
  | dma k f => exact mg_writeDma _ _ _ _ _ hs
  | unused => exact mg_stray _ hs

theorem mg_serveAccess (p : Port) (w : PortWait) {s : State} (hs : Managed md s) : Managed md (serveAccess p w s) := by
  unfold serveAccess
  split
  · exact mg_readTarget _ _ hs _
  · simp (maxDischargeDepth := 40) only [hs, mg_ite, ite_self, mg_sendCmp, mg_sampleWindow, mg_stray, mg_writeTarget]

theorem mg_serveWaits (n : Nat) (p : Port) {s : State} (hs : Managed md s) : Managed md (serveWaits n p s) := by
  induction n generalizing s with
  | zero => exact hs
  | succ n ih =>
    unfold serveWaits
    split
    · exact hs
    · exact mg_cond hs (ih (mg_serveAccess _ _ (mg_modPort _ _ hs)))

theorem mg_resumePort (p : Port) {s : State} (hs : Managed md s) : Managed md (resumePort p s) := by
  unfold resumePort
  simp (maxDischargeDepth := 40) only [hs, mg_ite, ite_self, mg_drainTo, mg_serveFlushes, mg_serveWaits]

theorem mg_triggerDrain (p : Port) {s : State} (hs : Managed md s) : Managed md (triggerDrain p s) := by
  unfold triggerDrain
  simp only [hs, mg_drainPort, mg_resumePort]

theorem mg_portException (p : Port) (cause : Nat) {s : State} (hs : Managed md s) : Managed md (portException p cause s) := by
  unfold portException
  simp (maxDischargeDepth := 40) only [hs, mg_bump, mg_loseAll, mg_put, mg_raise, mg_triggerDrain]

theorem mg_bothExceptions (cause : Nat) {s : State} (hs : Managed md s) : Managed md (bothExceptions cause s) := by
  unfold bothExceptions
  simp only [hs, mg_ite, ite_self, mg_portException]

theorem mg_loseProtection (causes : Nat) {s : State} (hs : Managed md s) : Managed md (loseProtection causes s) := by
  unfold loseProtection
  simp (maxDischargeDepth := 40) only [hs, mg_mk, mg_fold, mg_bothExceptions, mg_finishLeaving, mg_put, mg_raise]

theorem mg_regainProtection {s : State} (hs : Managed md s) : Managed md (regainProtection s) := by
  unfold regainProtection
  simp (maxDischargeDepth := 40) only [hs, mg_mk, mg_fold, mg_put, mg_raise]

theorem mg_updateProtection {s : State} (hs : Managed md s) : Managed md (updateProtection s) := by
  unfold updateProtection
  simp only [hs, mg_ite, ite_self, mg_finishLeaving, mg_loseProtection, mg_put, mg_regainProtection]

end Managed

end Sys2Proof.Machine
end

section
/-! SUPPORT. Protection and its cartridge: what the loss of protection and a wake leave unchanged, and the events of the cartridge (R22, R23, R25,
R376, R377, R380). -/

namespace Sys2Proof.Machine

/-! ### What a wake leaves -/

theorem on_wakeBy (source : Nat) {p : Port} {r s : State} (hs : Onward p r s) : Onward p r (wakeBy source s) := by
  have hmodes (v : Modes) : Onward p r { s with modes := v } := hs.quiet (upd_modes rfl (keeps_refl _ s) v)
  unfold wakeBy
  refine on_cond hs (on_cond (on_cond hs (on_raise _ (on_put _ _ (hmodes _)))) ?_)
  split
  · exact hs
  · split
    · exact hs
    · exact on_put _ _ (hmodes _)

theorem wakeBy_keeps (source : Nat) (s : State) : Keeps kf_wakeBy s (wakeBy source s) := fr_wakeBy rfl source (keeps_refl _ s)

theorem pow_wakeBy (source : Nat) (s : State) : (wakeBy source s).pow = s.pow := (wakeBy_keeps source s).pow rfl

theorem protectedQueued_of_onward {s t : State} (h : ∀ p, Onward p s t) : t.protectedQueued = s.protectedQueued := by
  have ha : t.portA.queue = s.portA.queue := (h .a).queue
  have hb : t.portB.queue = s.portB.queue := (h .b).queue
  unfold State.protectedQueued
  rw [ha, hb]

theorem wakeBy_withdrawn (source : Nat) {s : State} (h : Withdrawn s) : Withdrawn (wakeBy source s) := by
  have hkeep {v : Nat} (hs : Holds 0x402001 v s) : Holds 0x402001 v (wakeBy source s) := kp_wakeBy ⟨rfl, .inl (by decide)⟩ source hs
  obtain h | ⟨hover, hstaging, hqueued⟩ := h
  · exact .inl (hkeep h)
  · exact .inr ⟨hkeep hover, ((wakeBy_keeps source s).staging rfl).trans hstaging,
      (protectedQueued_of_onward fun p => on_wakeBy source (on_refl s)).trans hqueued⟩

/-! ### What a change of protection leaves -/

theorem pow_programAll (s : State) : (programAll s).pow = s.pow := (fr_programAll (μ := kf_programAll) rfl (keeps_refl _ s)).pow rfl

theorem pow_bothExceptions (cause : Nat) (s : State) : (bothExceptions cause s).pow = s.pow :=
  (fr_bothExceptions (μ := kf_bothExceptions) rfl cause (keeps_refl _ s)).pow rfl

theorem finishLeaving_pow (s : State) :
    (finishLeaving s).pow.cartridge = s.pow.cartridge ∧ (finishLeaving s).pow.persistAtEntry = s.pow.persistAtEntry := by
  have hcartridge : (programAll s).pow.cartridge = s.pow.cartridge := congrArg Power.cartridge (pow_programAll s)
  have hentry : (programAll s).pow.persistAtEntry = s.pow.persistAtEntry := congrArg Power.persistAtEntry (pow_programAll s)
  unfold finishLeaving
  split
  · exact ⟨rfl, rfl⟩
  · simp only
    split <;> exact ⟨hcartridge, hentry⟩

theorem loseProtection_pow (causes : Nat) (s : State) :
    (loseProtection causes s).pow.cartridge = s.pow.cartridge ∧ (loseProtection causes s).pow.persistAtEntry = false := by
  unfold loseProtection
  simp only [finishLeaving_pow, pow_raise, pow_put, pow_bothExceptions, and_self]

theorem cartridge_updateProtection (s : State) : (updateProtection s).pow.cartridge = s.pow.cartridge := by
  have hput : (s.put 0x402002 s.protectCauses).pow.cartridge = s.pow.cartridge := rfl
  have hregain : (regainProtection s).pow.cartridge = s.pow.cartridge := by
    unfold regainProtection
    rw [pow_raise]
    rfl
  unfold updateProtection
  simp only [apply_ite (fun t : State => t.pow.cartridge), loseProtection_pow, finishLeaving_pow, hput, hregain, ite_self]

theorem cartridge_wake_update (source : Nat) (s : State) : (wakeBy source (updateProtection s)).pow.cartridge = s.pow.cartridge := by
  rw [pow_wakeBy, cartridge_updateProtection]

/-- The entries that a change of protection and a wake leave. -/
theorem get_wake_update {k v : Nat} (hu : Quiet kw_updateProtection k v) (hw : Quiet kw_wakeBy k v) (source : Nat) {s : State}
    (h : s.get k = v) : (wakeBy source (updateProtection s)).get k = v := kp_wakeBy hw source (kp_updateProtection hu h)

/-! ### Loss and return -/

theorem regainProtection_restores (s : State) : (regainProtection s).protected = true ∧ (regainProtection s).get 0x402002 = 0 ∧
    (regainProtection s).pow.persistAtEntry = true ∧ Raised 26 s (regainProtection s) := by
  unfold regainProtection
  refine ⟨?_, ?_, by rw [pow_raise]; rfl, fun hcan => latch_self ((canOccur_of_mode ?_ 26).trans hcan)⟩
  · unfold State.protected
    rw [get_raise (by decide), get_put_ne (by decide), get_put_self]
    rfl
  · rw [get_raise (by decide), get_put_self]
  · exact (get_put_ne (by decide) _).trans (get_put_ne (by decide) _)

theorem lossOfProtection_of_protected {s : State} (h : s.get 0x402001 = 1) (ha : s.protectionActs = true) :
    execLossOfProtection s = .next (wakeBy 4 (loseProtection (if s.protectCauses = 0 then 1 else s.protectCauses) s)) := by
  unfold execLossOfProtection
  rw [if_pos ⟨h, ha⟩]

theorem lossOfProtection_of_leaving {s : State} (h : s.get 0x402001 = 2) : execLossOfProtection s = .next (finishLeaving s) := by
  unfold execLossOfProtection
  rw [if_neg (by simp [h]), if_pos h]

/-! ### The cartridge leaves and comes -/

/-- The state in which the supervisor has found the cartridge gone, before protection follows (R25). -/
def cartridgeGone (s : State) : State :=
  let u := { s with pow := { s.pow with cartridge := { s.pow.cartridge with leverClosed := false, ident := none } } }
  let u := if u.actionRuns 0x203009 then endAction 0x203009 stStateConflict (u.put 0x203006 4) else u
  raise 30 ((u.put 0x203001 0).put 0x203005 0)

theorem cartridgeRemoved_eq {s : State} (hlever : s.pow.cartridge.leverClosed = true) (hmode : s.mode ≠ modeOff) :
    execCartridgeRemoved s = .next (wakeBy 4 (updateProtection (cartridgeGone s))) := by
  unfold execCartridgeRemoved
  simp only [hlever, Bool.not_true, Bool.false_eq_true, if_false]
  exact if_neg hmode

theorem endAction_keeps (key status : Nat) (s : State) : Keeps kf_endAction s (endAction key status s) :=
  fr_endAction rfl key status (keeps_refl _ s)

theorem cartridgeGone_finds (s : State) :
    (cartridgeGone s).pow.cartridge.leverClosed = false ∧ (cartridgeGone s).get 0x203001 = 0 ∧ (cartridgeGone s).get 0x203005 = 0 ∧
      (cartridgeGone s).mode = s.mode ∧ (cartridgeGone s).modes = s.modes := by
  have hmode (u : State) : (endAction 0x203009 stStateConflict (u.put 0x203006 4)).mode = u.mode :=
    kp_endAction ⟨rfl, .inl (by decide)⟩ _ _ (get_put_ne (by decide) _)
  have hmodes (u : State) : (endAction 0x203009 stStateConflict (u.put 0x203006 4)).modes = u.modes := (endAction_keeps ..).modes rfl
  have hpow (u : State) : (endAction 0x203009 stStateConflict (u.put 0x203006 4)).pow = u.pow := (endAction_keeps ..).pow rfl
  unfold cartridgeGone
  refine ⟨?_, ?_, ?_, ?_, ?_⟩
  · rw [pow_raise, pow_put, pow_put]
    split
    · rw [hpow]
    · rfl
  · rw [get_raise (by decide), get_put_ne (by decide), get_put_self]
  · rw [get_raise (by decide), get_put_self]
  · rw [mode_raise]
    refine ((get_put_ne (by decide) _).trans (get_put_ne (by decide) _)).trans ?_
    split
    · exact hmode _
    · rfl
  · rw [modes_raise, modes_put, modes_put]
    split
    · rw [hmodes]
    · rfl

theorem protectCauses_of_absent {s : State} (h : s.get 0x203001 = 0) : s.protectCauses ≠ 0 := by
  simp only [State.protectCauses, h]
  simp

/-- The state in which the supervisor has read the identity of a cartridge, before protection follows (R376, R380). -/
def cartridgeRead (ident : List Byte) (s : State) : State :=
  let c : Cartridge := { s.pow.cartridge with leverClosed := true, ident := some ident, passed := false, failed := false, testDue := true }
  let u := { s with pow := { s.pow with cartridge := c } }
  raise 31 (((u.put 0x203001 1).putBytes 0x20300B ident).bump 0x20300C)

theorem cartridgeInserted_eq {s : State} {ident : List Byte} (hlever : s.pow.cartridge.leverClosed = false) (hlength : ident.length = 16)
    (hmode : s.mode ≠ modeOff) : execCartridgeInserted ident s = .next (wakeBy 4 (updateProtection (cartridgeRead ident s))) := by
  unfold execCartridgeInserted
  simp only [hlever, hlength, bne_self_eq_false, Bool.or_false, Bool.false_eq_true, if_false]
  exact if_neg hmode

theorem cartridgeRead_records (ident : List Byte) (s : State) :
    (cartridgeRead ident s).pow.cartridge =
        { s.pow.cartridge with leverClosed := true, ident := some ident, passed := false, failed := false, testDue := true } ∧
      (cartridgeRead ident s).get 0x203001 = 1 ∧ (cartridgeRead ident s).octs = (s.putBytes 0x20300B ident).octs ∧
      Counted 0x20300C 1 s (cartridgeRead ident s) := by
  unfold cartridgeRead
  refine ⟨by rw [pow_raise]; rfl, ?_, by rw [octs_raise]; rfl, ?_⟩
  · rw [get_raise (by decide), get_bump_ne (by decide), get_putBytes, get_put_self]
  · unfold Counted
    rw [get_raise (by decide), get_bump_self, get_putBytes, get_put_ne (by decide)]
    rfl

theorem octs_wake_update (source : Nat) (s : State) : (wakeBy source (updateProtection s)).octs = s.octs :=
  ((wakeBy_keeps source _).octs rfl).trans ((fr_updateProtection (μ := kf_updateProtection) rfl (keeps_refl _ s)).octs rfl)

/-! ### The yo-yo test -/

/-- The verdict of a yo-yo test: 1 passed, 2 too little energy, 3 too high an ESR (R379). -/
def testVerdict (cmf esr : Nat) : Nat := if usableMj cmf esr 4800 < 600 then 2 else if 150 < esr then 3 else 1

/-- The values that a yo-yo test writes (R379). -/
def testValues (cmf esr v0 : Nat) (s : State) : State :=
  ((((s.put 0x203002 v0).put 0x203003 (min 65535 cmf)).put 0x203004 (min 65535 esr)).put 0x203006 (testVerdict cmf esr)).put 0x203007
    s.deviceTime

theorem testValues_reads (cmf esr v0 : Nat) (s : State) :
    (testValues cmf esr v0 s).get 0x203002 = v0 ∧ (testValues cmf esr v0 s).get 0x203003 = min 65535 cmf ∧
      (testValues cmf esr v0 s).get 0x203004 = min 65535 esr ∧ (testValues cmf esr v0 s).get 0x203006 = testVerdict cmf esr ∧
      (testValues cmf esr v0 s).get 0x203007 = s.deviceTime := by
  simp [testValues, get_put]

/-- The state that a yo-yo test has measured and judged, before its reports. -/
def tested (cmf esr v0 : Nat) (s : State) : State :=
  let u := testValues cmf esr v0 s
  let low := decide (usableMj cmf esr 4800 < u.get 0x20300A)
  { u with pow := { u.pow with cartridge := { u.pow.cartridge with
    passed := testVerdict cmf esr == 1, failed := testVerdict cmf esr != 1, testedAt := u.service, testDue := false,
    warned := if testVerdict cmf esr = 1 then low else u.pow.cartridge.warned } } }

/-- The reports of a yo-yo test: a failure wakes the module, low energy warns once. -/
def testReported (cmf esr v0 : Nat) (s : State) : State :=
  let u := tested cmf esr v0 s
  if testVerdict cmf esr ≠ 1 then wakeBy 4 (raise 32 u)
  else raiseIf (decide (usableMj cmf esr 4800 < u.get 0x20300A) && !s.pow.cartridge.warned) 33 u

theorem yoYoTest_eq {s : State} (hpresent : s.get 0x203001 = 1) (hmode : s.testMode = true) (cmf esr v0 : Nat) :
    execYoYoTest cmf esr v0 s = .next (updateProtection (endAction 0x203009 stOk (testReported cmf esr v0 s))) := by
  unfold execYoYoTest
  rw [if_pos ⟨hpresent, hmode⟩]
  rfl

/-- An entry that neither a wake nor a report writes keeps what the test wrote there. -/
theorem hd_testReported {k v : Nat} (hq : Quiet kw_wakeBy k v) (cmf esr v0 : Nat) {s : State} (h : Holds k v (tested cmf esr v0 s)) :
    Holds k v (testReported cmf esr v0 s) := by
  unfold testReported
  exact hd_cond (kp_wakeBy hq 4 (hd_raise hq 32 h)) (hd_raiseIf hq _ 33 h)

theorem pow_testReported (cmf esr v0 : Nat) (s : State) : (testReported cmf esr v0 s).pow = (tested cmf esr v0 s).pow := by
  unfold testReported raiseIf
  simp only [apply_ite State.pow, pow_wakeBy, pow_raise, ite_self]

theorem actionRuns_endAction {status : Nat} (h : status ≠ stBusy) (key : Nat) (s : State) : (endAction key status s).actionRuns key = false := by
  unfold endAction
  split
  · unfold State.actionRuns setAction
    rw [tgetD_tset_self]
    exact beq_eq_false_iff_ne.mpr h
  · rename_i hrests
    exact Bool.eq_false_iff.mpr hrests

theorem testVerdict_passes (cmf esr : Nat) :
    (testVerdict cmf esr == 1) = (decide (600 ≤ usableMj cmf esr 4800) && decide (esr ≤ 150)) := by
  unfold testVerdict
  by_cases henergy : usableMj cmf esr 4800 < 600
  · simp [henergy]
  · by_cases hesr : 150 < esr
    · simp [henergy, hesr]
    · simp [henergy, hesr, Nat.not_lt.mp henergy, Nat.not_lt.mp hesr]

/-- A yo-yo test ends with its values and its verdict, and no action runs for it (R376, R379). -/
theorem yoYoTest_ends (cmf esr v0 : Nat) (s : State) {t : State}
    (ht : t = updateProtection (endAction 0x203009 stOk (testReported cmf esr v0 s))) :
    t.get 0x203002 = v0 ∧ t.get 0x203003 = min 65535 cmf ∧ t.get 0x203004 = min 65535 esr ∧ t.get 0x203006 = testVerdict cmf esr ∧
      t.get 0x203007 = s.deviceTime ∧ t.pow.cartridge.passed = (testVerdict cmf esr == 1) ∧ t.pow.cartridge.testDue = false ∧
      t.actionRuns 0x203009 = false := by
  subst ht
  have hkeep {k v : Nat} (hu : Quiet kw_updateProtection k v) (hw : Quiet kw_wakeBy k v) (h : (testValues cmf esr v0 s).get k = v) :
      (updateProtection (endAction 0x203009 stOk (testReported cmf esr v0 s))).get k = v :=
    kp_updateProtection hu (kp_endAction (hu.mono rfl) _ _ (hd_testReported hw cmf esr v0 h))
  have hcartridge : (updateProtection (endAction 0x203009 stOk (testReported cmf esr v0 s))).pow.cartridge = (tested cmf esr v0 s).pow.cartridge := by
    rw [cartridge_updateProtection, (endAction_keeps ..).pow rfl, pow_testReported]
  obtain ⟨hopen, hcap, hesr, hverdict, htime⟩ := testValues_reads cmf esr v0 s
  exact ⟨hkeep ⟨rfl, .inl (by decide)⟩ ⟨rfl, .inl (by decide)⟩ hopen, hkeep ⟨rfl, .inl (by decide)⟩ ⟨rfl, .inl (by decide)⟩ hcap,
    hkeep ⟨rfl, .inl (by decide)⟩ ⟨rfl, .inl (by decide)⟩ hesr, hkeep ⟨rfl, .inl (by decide)⟩ ⟨rfl, .inl (by decide)⟩ hverdict,
    hkeep ⟨rfl, .inl (by decide)⟩ ⟨rfl, .inl (by decide)⟩ htime, congrArg Cartridge.passed hcartridge, congrArg Cartridge.testDue hcartridge,
    ((mg_updateProtection (managed_self _)).actionRuns 0x203009).trans (actionRuns_endAction (by decide) 0x203009 _)⟩

/-- Settles O54: what the withdrawal of protection and a wake leave unchanged carries what each event of the cartridge writes to its end. -/
theorem protectionFollowsTheCartridge : Obligations.ProtectionFollowsTheCartridge := by
  refine fun s => ⟨fun hon hacts => ?_, fun hleaves => ?_, fun hoff hacts hcauses => ?_, fun cmf esr v0 hpresent hmode => ?_,
    fun hlever hmode => ?_, fun ident hlever hlength hmode => ?_⟩
  · refine ⟨_, lossOfProtection_of_protected hon hacts, ?_, wakeBy_withdrawn 4 (loseProtection_withdraws _ s)⟩
    rw [pow_wakeBy, (loseProtection_pow _ s).2]
  · exact ⟨_, lossOfProtection_of_leaving hleaves, finishLeaving_withdraws hleaves⟩
  · exact ⟨_, if_pos ⟨hoff, hacts, hcauses⟩, regainProtection_restores s⟩
  · obtain ⟨hopen, hcap, hesr, hverdict, htime, hpassed, hdue, hends⟩ := yoYoTest_ends cmf esr v0 s rfl
    exact ⟨_, yoYoTest_eq hpresent hmode cmf esr v0, hopen, hcap, hesr, hverdict, htime, hpassed.trans (testVerdict_passes cmf esr), hdue, hends⟩
  · obtain ⟨hopen, habsent, henergy, hsame, hstep⟩ := cartridgeGone_finds s
    refine ⟨_, cartridgeRemoved_eq hlever hmode, by rw [cartridge_wake_update, hopen],
      get_wake_update ⟨rfl, .inl (by decide)⟩ ⟨rfl, .inl (by decide)⟩ 4 habsent,
      get_wake_update ⟨rfl, .inl (by decide)⟩ ⟨rfl, .inl (by decide)⟩ 4 henergy, fun hacts => ?_⟩
    have hlost := updateProtection_unprotected (protectCauses_of_absent habsent) ((protectionActs_of hsame hstep).trans hacts)
    have hwake := kp_wakeBy (κ := 0x402001) ⟨rfl, .inl (by decide)⟩ 4 (s := updateProtection (cartridgeGone s)) rfl
    exact (congrArg (· == 1) hwake).trans hlost
  · obtain ⟨hcartridge, hpresent, hoctets, hcounted⟩ := cartridgeRead_records ident s
    have hnow := (cartridge_wake_update 4 (cartridgeRead ident s)).trans hcartridge
    refine ⟨_, cartridgeInserted_eq hlever hlength hmode, congrArg Cartridge.leverClosed hnow, congrArg Cartridge.ident hnow,
      congrArg Cartridge.testDue hnow, congrArg Cartridge.passed hnow,
      get_wake_update ⟨rfl, .inl (by decide)⟩ ⟨rfl, .inl (by decide)⟩ 4 hpresent, ?_,
      get_wake_update ⟨rfl, .inl (by decide)⟩ ⟨rfl, .inl (by decide)⟩ 4 hcounted⟩
    have hoctets' := (octs_wake_update 4 (cartridgeRead ident s)).trans hoctets
    unfold State.getBytes
    rw [hoctets']
    exact getBytes_putBytes_self s 0x20300B ident

end Sys2Proof.Machine
end

section
/-! SUPPORT. Requests above the decodable space, and the commit of an HDM decoder (R51, R52, R53). -/

namespace Sys2Proof.Machine

/-! ### Above the decodable space -/

/-- Settles O4: each command compares its address with the highest decodable one before anything else (log 16: that it stops there is the
model's choice, since no decoder can forward the request). -/
theorem requestsOutsideTheSpaceStop : Obligations.RequestsOutsideTheSpaceStop := by
  intro s p tag line be data hline
  have hdata : ¬line < dataLines := by simp only [dataLines, decodableLines] at hline ⊢; omega
  have hspace : ¬line < decodableLines := Nat.not_lt.mpr hline
  refine ⟨fun c hc => ?_, fun dpa op hdpa => ?_⟩
  · simp only [List.mem_cons, List.not_mem_nil, or_false] at hc
    rcases hc with rfl | rfl | rfl | rfl
    · exact (if_neg hdata).trans (if_neg hspace)
    · exact (if_neg hdata).trans (if_neg hspace)
    · exact (if_neg hdata).trans (if_neg hspace)
    · exact (if_neg hdata).trans (if_neg hspace)
  · have htop : 0x040050000000 ≤ dpa := by simp only [decodableLines] at hline; omega
    have hwindow : inWindows dpa = false := by simp only [inWindows, Bool.and_eq_false_iff, decide_eq_false_iff_not]; omega
    show execWindowAccess p tag dpa op s = _
    unfold execWindowAccess
    rw [hwindow, if_neg Bool.false_ne_true, if_neg (by omega)]

/-! ### Bits of an entry -/

/-- The even number before an odd one differs from it in the lowest bit alone. -/
theorem testBit_pred_of_odd {q : Nat} (h : q % 2 = 1) (k : Nat) : (q - 1).testBit k = (!decide (k = 0) && q.testBit k) := by
  cases k with
  | zero => simp only [Nat.testBit_zero]; simp; omega
  | succ k => simp only [Nat.testBit_succ, show (q - 1) / 2 = q / 2 by omega]; simp

/-- To take away a bit that is set clears it and leaves the others. -/
theorem testBit_sub_two_pow {v b : Nat} (h : v.testBit b = true) (m : Nat) : (v - 2 ^ b).testBit m = (!decide (m = b) && v.testBit m) := by
  have hodd : v / 2 ^ b % 2 = 1 := by rwa [Nat.testBit_eq_decide_div_mod_eq, decide_eq_true_eq] at h
  have hlow : v % 2 ^ b < 2 ^ b := Nat.mod_lt _ (Nat.two_pow_pos b)
  have hv : v = 2 ^ b * (v / 2 ^ b) + v % 2 ^ b := (Nat.div_add_mod v (2 ^ b)).symm
  have hsub : v - 2 ^ b = 2 ^ b * (v / 2 ^ b - 1) + v % 2 ^ b := by
    rw [Nat.mul_sub_one]
    have hle : 2 ^ b * 1 ≤ 2 ^ b * (v / 2 ^ b) := Nat.mul_le_mul_left _ (Nat.pos_of_ne_zero fun h0 => by simp [h0] at hodd)
    omega
  rw [hsub, Nat.testBit_two_pow_mul_add _ hlow]
  conv_rhs => rw [hv, Nat.testBit_two_pow_mul_add _ hlow]
  split
  · rename_i hm
    simp [Nat.ne_of_lt hm]
  · rename_i hm
    rw [testBit_pred_of_odd hodd]
    congr 2
    exact decide_eq_decide.mpr (by omega)

theorem testBit_get_setBit (s : State) (key b m : Nat) :
    ((s.setBit key b).get key).testBit m = (decide (m = b) || (s.get key).testBit m) := by
  rw [State.setBit, get_put_self, Nat.testBit_or, Nat.testBit_two_pow, Bool.or_comm]
  simp only [eq_comm]

theorem testBit_get_clearBit (s : State) (key b m : Nat) :
    ((s.clearBit key b).get key).testBit m = (!decide (m = b) && (s.get key).testBit m) := by
  rw [State.clearBit, get_put_self]
  split
  · rename_i h
    exact testBit_sub_two_pow h m
  · rename_i h
    by_cases hm : m = b
    · subst hm; simpa using h
    · simp [hm]

/-! ### The commit of a decoder -/

/-- The cases in which R52 refuses a decoder. -/
theorem decoderOk_false_iff (ways base size : Nat) : decoderOk ways base size = false ↔
    ways ≠ 1 ∨ size % 0x10000000 ≠ 0 ∨ 0x040050000000 < base + size ∨ (base < 0x040000000000 ∧ 0x040000000000 < base + size) ∨
      (0x040000000000 ≤ base ∧ 0 < size ∧ base / 0x10000000 ≠ (base + size - 1) / 0x10000000) := by
  simp only [decoderOk, Bool.and_eq_false_iff, Bool.or_eq_false_iff, decide_eq_false_iff_not, beq_eq_false_iff_ne]
  omega

/-- A decoder that commits takes its range and its Committed bit, and loses its error bit. -/
def commitDecoder (p : Port) (n base size : Nat) (s : State) : State :=
  (s.modPort p fun q => { q with
    decoders := tput n { base := base, size := size } q.decoders, decoderErrors := q.decoderErrors.filter (· != n) }).setBit (p.key 0x07) n

/-- A decoder that is refused loses its range and its Committed bit, and takes its error bit. -/
def refuseDecoder (p : Port) (n : Nat) (s : State) : State :=
  raise (portSource p 8) ((s.modPort p fun q => { q with
    decoders := tdel n q.decoders, decoderErrors := insertNew n q.decoderErrors }).clearBit (p.key 0x07) n)

theorem mem_insertNew {α : Type} [DecidableEq α] {a b : α} {l : List α} : b ∈ insertNew a l ↔ b = a ∨ b ∈ l := by
  unfold insertNew
  split
  · rename_i h
    exact ⟨.inr, fun hb => hb.elim (fun e => e ▸ h) id⟩
  · rw [List.mem_append, List.mem_singleton, or_comm]

theorem exec_hdmDecoderCommit {s : State} {p : Port} (h : s.ioOpen p = true) (n : Fin 8) (ways base size : Nat) :
    exec (.hdmDecoderCommit p n ways base size) s = .next (if decoderOk ways base size = true then commitDecoder p n.val base size s
      else refuseDecoder p n.val s) := by
  show execHdmDecoderCommit p n ways base size s = _
  unfold execHdmDecoderCommit
  rw [h]
  simp only [Bool.not_true, Bool.false_eq_true, if_false]
  split <;> rfl

theorem key_decoders (p : Port) : ¬reportKey (p.key 0x07) := by cases p <;> decide

/-- A decoder that commits takes its range and leaves the port's others (R52). -/
theorem commitDecoder_commits (p : Port) (n base size : Nat) (s : State) : let t := commitDecoder p n base size s
    (∀ m, tfind m (t.port p).decoders = if m = n then some { base := base, size := size } else tfind m (s.port p).decoders) ∧
      (∀ m, m ∈ (t.port p).decoderErrors ↔ m ≠ n ∧ m ∈ (s.port p).decoderErrors) ∧
      ∀ m, (t.get (p.key 0x07)).testBit m = (decide (m = n) || (s.get (p.key 0x07)).testBit m) := by
  have hport : (commitDecoder p n base size s).port p = _ := (port_put _ _ _ p).trans (port_modPort_self s p _)
  refine ⟨fun m => ?_, fun m => ?_, fun m => ?_⟩
  · rw [hport, tfind_tput]
  · rw [hport, List.mem_filter, and_comm, bne_iff_ne]
  · rw [commitDecoder, testBit_get_setBit, get_modPort]

/-- A decoder that is refused loses its range, takes its error bit and is reported, and leaves the port's others (R52; log 152: that the range
it had committed before goes is the model's choice). -/
theorem refuseDecoder_refuses (p : Port) (n : Nat) (s : State) : let t := refuseDecoder p n s
    (∀ m, tfind m (t.port p).decoders = if m = n then none else tfind m (s.port p).decoders) ∧
      (∀ m, m ∈ (t.port p).decoderErrors ↔ m = n ∨ m ∈ (s.port p).decoderErrors) ∧
      (∀ m, (t.get (p.key 0x07)).testBit m = (!decide (m = n) && (s.get (p.key 0x07)).testBit m)) ∧ Raised (portSource p 8) s t := by
  let noted := s.modPort p fun q => { q with decoders := tdel n q.decoders, decoderErrors := insertNew n q.decoderErrors }
  have hport : (noted.clearBit (p.key 0x07) n).port p = _ := (port_put _ _ _ p).trans (port_modPort_self s p _)
  have hmode : (noted.clearBit (p.key 0x07) n).mode = s.mode := by
    refine (get_put_ne ?_ _).trans (get_modPort s p _ _)
    cases p <;> decide
  refine ⟨fun m => ?_, fun m => ?_, fun m => ?_, fun hcan => latch_self ((canOccur_of_mode hmode _).trans hcan)⟩
  · rw [refuseDecoder, port_decoders_raise, hport, tfind_tdel]
  · rw [refuseDecoder, port_decoderErrors_raise, hport, mem_insertNew]
  · rw [refuseDecoder, get_raise (key_decoders p), testBit_get_clearBit, get_modPort]

/-- Settles O31: the commit answers by `decoderOk`, and each of its two states differs from the one before in the decoder alone. -/
theorem decodersCommit : Obligations.DecodersCommit := by
  intro s p n ways base size hopen refused
  have hiff : decoderOk ways base size = false ↔ refused := decoderOk_false_iff ways base size
  refine ⟨_, exec_hdmDecoderCommit hopen n ways base size, ?_⟩
  cases hok : decoderOk ways base size with
  | true =>
    have hnot : ¬refused := fun h => Bool.false_ne_true ((hiff.mpr h).symm.trans hok)
    obtain ⟨hfind, herror, hbit⟩ := commitDecoder_commits p n.val base size s
    rw [if_pos rfl]
    refine ⟨?_, ?_, fun h => absurd h hnot, fun _ => by rw [hfind, if_pos rfl], fun m hm => ⟨?_, ?_, ?_⟩⟩
    · simp only [herror, ne_eq, not_true_eq_false, false_and, hnot]
    · simp only [hbit, decide_true, Bool.true_or, hnot, not_false_eq_true]
    · rw [hfind, if_neg hm]
    · simp only [herror, ne_eq, hm, not_false_eq_true, true_and]
    · simp only [hbit, hm, decide_false, Bool.false_or]
  | false =>
    have hrefused : refused := hiff.mp hok
    obtain ⟨hfind, herror, hbit, hraised⟩ := refuseDecoder_refuses p n.val s
    rw [if_neg Bool.false_ne_true]
    refine ⟨?_, ?_, fun _ => ⟨by rw [hfind, if_pos rfl], hraised⟩, fun h => absurd hrefused h, fun m hm => ⟨?_, ?_, ?_⟩⟩
    · simp only [herror, true_or, hrefused]
    · simp only [hbit, decide_true, Bool.not_true, Bool.false_and, Bool.false_eq_true, hrefused, not_true_eq_false]
    · rw [hfind, if_neg hm]
    · simp only [herror, hm, false_or]
    · simp only [hbit, hm, decide_false, Bool.not_false, Bool.true_and]

end Sys2Proof.Machine
end

section
/-! SUPPORT. The frames of host accesses and of management: which parts of the state, and which entries, a command of each shape may write (R47,
R54, R67, R74, R87, R441, R458, R475). -/

namespace Sys2Proof.Machine

/-! ### A command's frame -/

/-- A command writes no part of the state but those of a mask, and no entry but those given and those of reports. -/
structure Frame (c : Instr) (μ : Nat) (w : Writes) : Prop where
  keeps : ∀ s, NextIs (Keeps μ s) (exec c s)
  holds : ∀ κ ν, Quiet w κ ν → ∀ s, Holds κ ν s → NextIs (Holds κ ν) (exec c s)

theorem Frame.of_exec {c : Instr} {μ : Nat} {w : Writes} (h : Frame c μ w) {s t : State} (ht : exec c s = .next t) : Keeps μ s t :=
  keeps_of_exec (h.keeps s) ht

/-- The entries that a frame lists, with their spans whole, are the only ones that the command may write beside those of reports. -/
theorem Frame.leavesEntries {c : Instr} {μ : Nat} {w : Writes} (h : Frame c μ w) {spans : List (Nat × Nat)}
    (hsp : (w.spans.map fun x => (x.1, x.2.1)) = spans) : LeavesEntries c w.keys spans := by
  intro s t ht k hr hkey hout
  have hspan : ∀ x ∈ w.spans, ¬(Nat.ble x.1 k && Nat.blt k x.2.1 && (x.2.2 == 256 || k % 256 == x.2.2)) = true := by
    intro x hx hin
    simp only [Bool.and_eq_true, Nat.ble_eq, Nat.blt_eq] at hin
    have hside := hout (x.1, x.2.1) (hsp ▸ List.mem_map_of_mem hx)
    omega
  have hw : w.has k = false := by
    rw [Writes.has, List.any_eq_false.mpr hspan, Bool.or_false]
    simpa using hkey
  have hn := h.holds k (s.get k) ⟨hw, .inl hr⟩ s rfl
  rwa [ht] at hn

/-! ### Host accesses -/

/-- The parts of the state that a store of a host may write, as a mask of `Keeps`. -/
def hostStoreMask : Nat := 0x3877ECEF4

/-- The entries that a store of a host may write, beside those of reports. -/
def hostStoreWrites : Writes :=
  ⟨[0x301008, 0x301108, 0x302001, 0x302002, 0x302003, 0x302004, 0x302005, 0x302006, 0x404105, 0x404106, 0x406005, 0x406007,
    0x406009, 0x407008, 0x407009, 0x408101, 0x408102, 0x408103, 0x408106, 0x502004, 0x502005, 0x502006, 0x502007, 0x502009, 0x508003,
    0x508004, 0x508005, 0x508006, 0x611003, 0x615006, 0x619004, 0xB03004, 0xB03005, 0xB04003],
   [(0x612000, 0x613000, 256), (0x620000, 0x624000, 256)]⟩

theorem frame_of_hostStore {c : Instr} (h : shape c = .hostStore) : Frame c hostStoreMask hostStoreWrites := by
  cases c
  case fullLineWrite =>
    exact ⟨fun _ => fr_execFullLineWrite rfl _ _ _ _ (keeps_refl _ _), fun _ _ hq _ hs => kp_execFullLineWrite (hq.mono rfl) _ _ _ _ hs⟩
  case partialWrite =>
    exact ⟨fun _ => fr_execPartialWrite rfl _ _ _ _ _ (keeps_refl _ _), fun _ _ hq _ hs => kp_execPartialWrite (hq.mono rfl) _ _ _ _ _ hs⟩
  case poisonedWrite =>
    exact ⟨fun _ => fr_execPoisonedWrite rfl _ _ _ (keeps_refl _ _), fun _ _ hq _ hs => kp_execPoisonedWrite (hq.mono rfl) _ _ _ hs⟩
  case conditionalStore =>
    exact ⟨fun _ => fr_execConditionalStore rfl _ _ _ _ _ (keeps_refl _ _), fun _ _ hq _ hs => kp_execConditionalStore (hq.mono rfl) _ _ _ _ _ hs⟩
  case plainCellStore =>
    exact ⟨fun _ => fr_execPlainCellStore rfl _ _ _ _ _ (keeps_refl _ _), fun _ _ hq _ hs => kp_execPlainCellStore (hq.mono rfl) _ _ _ _ _ hs⟩
  case windowAccess =>
    exact ⟨fun _ => fr_execWindowAccess rfl _ _ _ _ (keeps_refl _ _), fun _ _ hq _ hs => kp_execWindowAccess (hq.mono rfl) _ _ _ _ hs⟩
  case patrolVisit => exact absurd h (shape_visit_ne ⟨nofun, nofun⟩)
  case outOfTurnVisit => exact absurd h (shape_visit_ne ⟨nofun, nofun⟩)
  all_goals simp only [shape, reduceCtorEq] at h

/-- The parts of the state that a write of a command word in a window may write, as a mask of `Keeps`. -/
def windowCommandMask : Nat := 0x3877ECEF4

/-- The entries that a write of a command word in a window may write, beside those of reports. -/
def windowCommandWrites : Writes :=
  ⟨[0x301008, 0x301108, 0x302001, 0x302002, 0x302003, 0x302004, 0x302005, 0x302006, 0x404105, 0x404106, 0x406009, 0x407008,
    0x407009, 0x408101, 0x408102, 0x408103, 0x408106, 0x502004, 0x502005, 0x502006, 0x502007, 0x502009, 0x508003, 0x508004, 0x508005,
    0x508006, 0x611003, 0x619004, 0xB03004, 0xB03005, 0xB04003],
   [(0x612000, 0x613000, 256), (0x620000, 0x624000, 256)]⟩

theorem frame_of_windowCommand {c : Instr} (h : shape c = .windowCommand) : Frame c windowCommandMask windowCommandWrites := by
  cases c
  case openGroup =>
    exact ⟨fun _ => fr_execOpenGroup rfl _ _ _ _ _ (keeps_refl _ _), fun _ _ hq _ hs => kp_execOpenGroup (hq.mono rfl) _ _ _ _ _ hs⟩
  case bindGroup =>
    exact ⟨fun _ => fr_execBindGroup rfl _ _ _ _ _ (keeps_refl _ _), fun _ _ hq _ hs => kp_execBindGroup (hq.mono rfl) _ _ _ _ _ hs⟩
  case commitGroup =>
    exact ⟨fun _ => fr_execCommitGroup rfl _ _ _ _ _ (keeps_refl _ _), fun _ _ hq _ hs => kp_execCommitGroup (hq.mono rfl) _ _ _ _ _ hs⟩
  case abortGroup =>
    exact ⟨fun _ => fr_execAbortGroup rfl _ _ _ _ _ (keeps_refl _ _), fun _ _ hq _ hs => kp_execAbortGroup (hq.mono rfl) _ _ _ _ _ hs⟩
  case releaseGroup =>
    exact ⟨fun _ => fr_execReleaseGroup rfl _ _ _ _ _ (keeps_refl _ _), fun _ _ hq _ hs => kp_execReleaseGroup (hq.mono rfl) _ _ _ _ _ hs⟩
  case unassignedGroupCommand =>
    exact ⟨fun _ => fr_execUnassignedGroupCommand rfl _ _ _ _ _ _ (keeps_refl _ _), fun _ _ hq _ hs => kp_execUnassignedGroupCommand (hq.mono rfl) _ _ _ _ _ _ hs⟩
  case discard =>
    exact ⟨fun _ => fr_execDiscard rfl _ _ _ _ (keeps_refl _ _), fun _ _ hq _ hs => kp_execDiscard (hq.mono rfl) _ _ _ _ hs⟩
  case dmaDescriptorWrite =>
    exact ⟨fun _ => fr_execDmaDescriptorWrite rfl _ _ _ _ _ (keeps_refl _ _), fun _ _ hq _ hs => kp_execDmaDescriptorWrite (hq.mono rfl) _ _ _ _ _ hs⟩
  case dmaStart =>
    exact ⟨fun _ => fr_execDmaStart rfl _ _ _ (keeps_refl _ _), fun _ _ hq _ hs => kp_execDmaStart (hq.mono rfl) _ _ _ hs⟩
  case dmaAbort =>
    exact ⟨fun _ => fr_execDmaAbort rfl _ _ _ (keeps_refl _ _), fun _ _ hq _ hs => kp_execDmaAbort (hq.mono rfl) _ _ _ hs⟩
  case patrolVisit => exact absurd h (shape_visit_ne ⟨nofun, nofun⟩)
  case outOfTurnVisit => exact absurd h (shape_visit_ne ⟨nofun, nofun⟩)
  all_goals simp only [shape, reduceCtorEq] at h

/-- The parts of the state that a read of a host may write, as a mask of `Keeps`. -/
def hostReadMask : Nat := 0x3877EFEF4

/-- The entries that a read of a host may write, beside those of reports. -/
def hostReadWrites : Writes :=
  ⟨[0x301008, 0x301108, 0x302001, 0x302002, 0x302003, 0x302004, 0x302005, 0x302006, 0x404105, 0x404106, 0x406009, 0x407001,
    0x407002, 0x407003, 0x407004, 0x407005, 0x407006, 0x407008, 0x407009, 0x408101, 0x408102, 0x408103, 0x408106, 0x502004, 0x502005,
    0x502006, 0x502007, 0x502009, 0x508003, 0x508004, 0x508005, 0x508006, 0x611003, 0x619004, 0xB03004, 0xB03005, 0xB04003],
   [(0x612000, 0x613000, 256), (0x620000, 0x624000, 256)]⟩

theorem frame_of_hostRead {c : Instr} (h : shape c = .hostRead) : Frame c hostReadMask hostReadWrites := by
  cases c
  case memRd =>
    exact ⟨fun _ => fr_execMemRd rfl _ _ _ (keeps_refl _ _), fun _ _ hq _ hs => kp_execMemRd (hq.mono rfl) _ _ _ hs⟩
  case groupControlRead =>
    exact ⟨fun _ => fr_execGroupControlRead rfl _ _ _ (keeps_refl _ _), fun _ _ hq _ hs => kp_execGroupControlRead (hq.mono rfl) _ _ _ hs⟩
  case reserveRead =>
    exact ⟨fun _ => fr_execReserveRead rfl _ _ _ (keeps_refl _ _), fun _ _ hq _ hs => kp_execReserveRead (hq.mono rfl) _ _ _ hs⟩
  case resultRead =>
    exact ⟨fun _ => fr_execResultRead rfl _ _ _ (keeps_refl _ _), fun _ _ hq _ hs => kp_execResultRead (hq.mono rfl) _ _ _ hs⟩
  case userCounterWindowRead =>
    exact ⟨fun _ => fr_execUserCounterWindowRead rfl _ _ _ (keeps_refl _ _), fun _ _ hq _ hs => kp_execUserCounterWindowRead (hq.mono rfl) _ _ _ hs⟩
  case barrierWordRead =>
    exact ⟨fun _ => fr_execBarrierWordRead rfl _ _ (keeps_refl _ _), fun _ _ hq _ hs => kp_execBarrierWordRead (hq.mono rfl) _ _ hs⟩
  case patrolVisit => exact absurd h (shape_visit_ne ⟨nofun, nofun⟩)
  case outOfTurnVisit => exact absurd h (shape_visit_ne ⟨nofun, nofun⟩)
  all_goals simp only [shape, reduceCtorEq] at h

/-- Settles O10: a host access keeps the parts that its mask does not name, and the entries that its frame does not list. -/
theorem hostCommandsFrame : Obligations.HostCommandsFrame := by
  refine fun c => ⟨fun h => ⟨fun s t ht => ?_, (frame_of_hostStore h).leavesEntries rfl⟩,
    fun h => ⟨fun s t ht => ?_, (frame_of_windowCommand h).leavesEntries rfl⟩,
    fun h => ⟨fun s t ht => ?_, (frame_of_hostRead h).leavesEntries rfl⟩⟩
  · have hk := (frame_of_hostStore h).of_exec ht
    simp only [hk.octs rfl, hk.deviceTime rfl, hk.restoreStamp rfl, hk.stallSince rfl, hk.lfsr1 rfl, hk.lfsr2 rfl, hk.retries rfl,
      hk.resultBase rfl, hk.stored rfl, hk.pow rfl, hk.modes rfl, hk.therm rfl]
  · have hk := (frame_of_windowCommand h).of_exec ht
    simp only [hk.octs rfl, hk.deviceTime rfl, hk.restoreStamp rfl, hk.stallSince rfl, hk.lfsr1 rfl, hk.lfsr2 rfl, hk.retries rfl,
      hk.resultBase rfl, hk.stored rfl, hk.pow rfl, hk.modes rfl, hk.therm rfl]
  · have hk := (frame_of_hostRead h).of_exec ht
    simp only [hk.octs rfl, hk.deviceTime rfl, hk.restoreStamp rfl, hk.stallSince rfl, hk.retries rfl, hk.resultBase rfl, hk.stored
      rfl, hk.pow rfl, hk.modes rfl, hk.therm rfl]

/-! ### Management -/

/-- The parts of the state that a port event may write, as a mask of `Keeps`. -/
def portEventMask : Nat := 0x180010064

/-- The entries that a port event may write, beside those of reports. -/
def portEventWrites : Writes :=
  ⟨[0x301001, 0x301002, 0x301003, 0x301007, 0x301101, 0x301102, 0x301103, 0x301107, 0xB02001, 0xB02002, 0xB02003, 0xB02004,
    0xB02005, 0xB02006, 0xB02007, 0xB02101, 0xB02102, 0xB02103, 0xB02104, 0xB02105, 0xB02106, 0xB02107],
   []⟩

theorem frame_of_portEvent {c : Instr} (h : shape c = .portEvent) : Frame c portEventMask portEventWrites := by
  cases c
  case hdmDecoderCommit =>
    exact ⟨fun _ => fr_execHdmDecoderCommit rfl _ _ _ _ _ (keeps_refl _ _), fun _ _ hq _ hs => kp_execHdmDecoderCommit (hq.mono rfl) _ _ _ _ _ hs⟩
  case portDetect =>
    exact ⟨fun _ => fr_execPortDetect rfl _ (keeps_refl _ _), fun _ _ hq _ hs => kp_execPortDetect (hq.mono rfl) _ hs⟩
  case linkUp =>
    exact ⟨fun _ => fr_execLinkUp rfl _ _ _ (keeps_refl _ _), fun _ _ hq _ hs => kp_execLinkUp (hq.mono rfl) _ _ _ hs⟩
  case linkTrainingFailed =>
    exact ⟨fun _ => fr_execLinkTrainingFailed rfl _ (keeps_refl _ _), fun _ _ hq _ hs => kp_execLinkTrainingFailed (hq.mono rfl) _ hs⟩
  case heldMsiX =>
    exact ⟨fun _ => fr_execHeldMsiX rfl _ (keeps_refl _ _), fun _ _ hq _ hs => kp_execHeldMsiX (hq.mono rfl) _ hs⟩
  case bandwidthWindowEnd =>
    exact ⟨fun _ => fr_execBandwidthWindowEnd rfl _ (keeps_refl _ _), fun _ _ hq _ hs => kp_execBandwidthWindowEnd (hq.mono rfl) _ hs⟩
  case patrolVisit => exact absurd h (shape_visit_ne ⟨nofun, nofun⟩)
  case outOfTurnVisit => exact absurd h (shape_visit_ne ⟨nofun, nofun⟩)
  all_goals simp only [shape, reduceCtorEq] at h

/-- The parts of the state that a standard mailbox command may write, as a mask of `Keeps`. -/
def mailboxMask : Nat := 0x3A7000066

/-- The entries that a standard mailbox command may write, beside those of reports. -/
def mailboxWrites : Writes :=
  ⟨[0x405002, 0x611003, 0x619004, 0xD00105, 0xD02004, 0xD06002, 0xD06005],
   [(0x612000, 0x613000, 256), (0x620000, 0x624000, 256)]⟩

theorem frame_of_mailbox {c : Instr} (h : shape c = .mailbox) : Frame c mailboxMask mailboxWrites := by
  cases c
  case identify =>
    exact ⟨fun _ => fr_execIdentify rfl _ (keeps_refl _ _), fun _ _ hq _ hs => kp_execIdentify (hq.mono rfl) _ hs⟩
  case getEventRecords =>
    exact ⟨fun _ => fr_execGetEventRecords rfl _ _ (keeps_refl _ _), fun _ _ hq _ hs => kp_execGetEventRecords (hq.mono rfl) _ _ hs⟩
  case clearEventRecords =>
    exact ⟨fun _ => fr_execClearEventRecords rfl _ _ _ (keeps_refl _ _), fun _ _ hq _ hs => kp_execClearEventRecords (hq.mono rfl) _ _ _ hs⟩
  case getEventInterruptPolicy =>
    exact ⟨fun _ => fr_execGetEventInterruptPolicy rfl _ (keeps_refl _ _), fun _ _ hq _ hs => kp_execGetEventInterruptPolicy (hq.mono rfl) _ hs⟩
  case setEventInterruptPolicy =>
    exact ⟨fun _ => fr_execSetEventInterruptPolicy rfl _ _ _ _ _ (keeps_refl _ _), fun _ _ hq _ hs => kp_execSetEventInterruptPolicy (hq.mono rfl) _ _ _ _ _ hs⟩
  case getFwInfo =>
    exact ⟨fun _ => fr_execGetFwInfo rfl _ (keeps_refl _ _), fun _ _ hq _ hs => kp_execGetFwInfo (hq.mono rfl) _ hs⟩
  case transferFw =>
    exact ⟨fun _ => fr_execTransferFw rfl _ _ _ (keeps_refl _ _), fun _ _ hq _ hs => kp_execTransferFw (hq.mono rfl) _ _ _ hs⟩
  case activateFw =>
    exact ⟨fun _ => fr_execActivateFw rfl _ _ _ (keeps_refl _ _), fun _ _ hq _ hs => kp_execActivateFw (hq.mono rfl) _ _ _ hs⟩
  case getTimestamp =>
    exact ⟨fun _ => fr_execGetTimestamp rfl _ (keeps_refl _ _), fun _ _ hq _ hs => kp_execGetTimestamp (hq.mono rfl) _ hs⟩
  case setTimestamp =>
    exact ⟨fun _ => fr_execSetTimestamp rfl _ _ (keeps_refl _ _), fun _ _ hq _ hs => kp_execSetTimestamp (hq.mono rfl) _ _ hs⟩
  case identifyMemoryDevice =>
    exact ⟨fun _ => fr_execIdentifyMemoryDevice rfl _ (keeps_refl _ _), fun _ _ hq _ hs => kp_execIdentifyMemoryDevice (hq.mono rfl) _ hs⟩
  case getHealthInfo =>
    exact ⟨fun _ => fr_execGetHealthInfo rfl _ (keeps_refl _ _), fun _ _ hq _ hs => kp_execGetHealthInfo (hq.mono rfl) _ hs⟩
  case unsupportedMailboxOpcode =>
    exact ⟨fun _ => fr_execUnsupportedMailboxOpcode rfl _ _ (keeps_refl _ _), fun _ _ hq _ hs => kp_execUnsupportedMailboxOpcode (hq.mono rfl) _ _ hs⟩
  case patrolVisit => exact absurd h (shape_visit_ne ⟨nofun, nofun⟩)
  case outOfTurnVisit => exact absurd h (shape_visit_ne ⟨nofun, nofun⟩)
  all_goals simp only [shape, reduceCtorEq] at h

/-- The parts of the state that a session event may write, as a mask of `Keeps`. -/
def sessionMask : Nat := 0x180000064

/-- The entries that a session event may write, beside those of reports. -/
def sessionWrites : Writes :=
  ⟨[0x110004, 0x140106, 0x140107],
   []⟩

theorem frame_of_session {c : Instr} (h : shape c = .session) : Frame c sessionMask sessionWrites := by
  cases c
  case sessionOpen =>
    exact ⟨fun _ => fr_execSessionOpen rfl _ _ _ (keeps_refl _ _), fun _ _ hq _ hs => kp_execSessionOpen (hq.mono rfl) _ _ _ hs⟩
  case sessionResponse =>
    exact ⟨fun _ => fr_execSessionResponse rfl _ _ _ (keeps_refl _ _), fun _ _ hq _ hs => kp_execSessionResponse (hq.mono rfl) _ _ _ hs⟩
  case sessionClose =>
    exact ⟨fun _ => fr_execSessionClose rfl _ (keeps_refl _ _), fun _ _ hq _ hs => kp_execSessionClose (hq.mono rfl) _ hs⟩
  case sessionReservationTimeout =>
    exact ⟨fun _ => fr_execSessionReservationTimeout rfl _ (keeps_refl _ _), fun _ _ hq _ hs => kp_execSessionReservationTimeout (hq.mono rfl) _ hs⟩
  case sessionIdleTimeout =>
    exact ⟨fun _ => fr_execSessionIdleTimeout rfl _ (keeps_refl _ _), fun _ _ hq _ hs => kp_execSessionIdleTimeout (hq.mono rfl) _ hs⟩
  case proofHoldExpiry =>
    exact ⟨fun _ => fr_execProofHoldExpiry rfl _ (keeps_refl _ _), fun _ _ hq _ hs => kp_execProofHoldExpiry (hq.mono rfl) _ hs⟩
  case patrolVisit => exact absurd h (shape_visit_ne ⟨nofun, nofun⟩)
  case outOfTurnVisit => exact absurd h (shape_visit_ne ⟨nofun, nofun⟩)
  all_goals simp only [shape, reduceCtorEq] at h

/-- The parts of the state that a field link event may write, as a mask of `Keeps`. -/
def fieldLinkMask : Nat := 0x180000064

/-- The entries that a field link event may write, beside those of reports. -/
def fieldLinkWrites : Writes :=
  ⟨[0x140102, 0x140103, 0x140104, 0x140105, 0x140106, 0x140107, 0x140108, 0x140109, 0x14010C, 0x140202],
   []⟩

theorem frame_of_fieldLink {c : Instr} (h : shape c = .fieldLink) : Frame c fieldLinkMask fieldLinkWrites := by
  cases c
  case frameReceived =>
    exact ⟨fun _ => fr_execFrameReceived rfl _ (keeps_refl _ _), fun _ _ hq _ hs => kp_execFrameReceived (hq.mono rfl) _ hs⟩
  case discover =>
    exact ⟨fun _ => fr_execDiscover rfl _ (keeps_refl _ _), fun _ _ hq _ hs => kp_execDiscover (hq.mono rfl) _ hs⟩
  case notice =>
    exact ⟨fun _ => fr_execNotice rfl (keeps_refl _ _), fun _ _ hq _ hs => kp_execNotice (hq.mono rfl) hs⟩
  case beaconLoss =>
    exact ⟨fun _ => fr_execBeaconLoss rfl (keeps_refl _ _), fun _ _ hq _ hs => kp_execBeaconLoss (hq.mono rfl) hs⟩
  case beaconReceived =>
    exact ⟨fun _ => fr_execBeaconReceived rfl (keeps_refl _ _), fun _ _ hq _ hs => kp_execBeaconReceived (hq.mono rfl) hs⟩
  case nodeIdConflict =>
    exact ⟨fun _ => fr_execNodeIdConflict rfl (keeps_refl _ _), fun _ _ hq _ hs => kp_execNodeIdConflict (hq.mono rfl) hs⟩
  case reducedRateRefill =>
    exact ⟨fun _ => fr_execReducedRateRefill rfl (keeps_refl _ _), fun _ _ hq _ hs => kp_execReducedRateRefill (hq.mono rfl) hs⟩
  case patrolVisit => exact absurd h (shape_visit_ne ⟨nofun, nofun⟩)
  case outOfTurnVisit => exact absurd h (shape_visit_ne ⟨nofun, nofun⟩)
  all_goals simp only [shape, reduceCtorEq] at h

/-- The parts of the state that a report may write, as a mask of `Keeps`. -/
def reportMask : Nat := 0x396000064

/-- The entries that a report may write, beside those of reports. -/
def reportWrites : Writes :=
  ⟨[0x406008, 0x70030A, 0xA00105, 0xA00106, 0xA00108],
   [(0x410000, 0x414000, 0x0C), (0x612000, 0x613000, 256)]⟩

theorem frame_of_report {c : Instr} (h : shape c = .report) : Frame c reportMask reportWrites := by
  cases c
  case occurrence =>
    exact ⟨fun _ => fr_execOccurrence rfl _ (keeps_refl _ _), fun _ _ hq _ hs => kp_execOccurrence (hq.mono rfl) _ hs⟩
  case recorderWrite =>
    exact ⟨fun _ => fr_execRecorderWrite rfl (keeps_refl _ _), fun _ _ hq _ hs => kp_execRecorderWrite (hq.mono rfl) hs⟩
  case captureEpisode =>
    exact ⟨fun _ => fr_execCaptureEpisode rfl (keeps_refl _ _), fun _ _ hq _ hs => kp_execCaptureEpisode (hq.mono rfl) hs⟩
  case coreDelayMargin quadrant =>
    exact ⟨fun _ => fr_execCoreDelayMargin rfl quadrant (keeps_refl _ _), fun _ _ hq _ hs => kp_execCoreDelayMargin (hq.mono rfl) quadrant hs⟩
  case crossingError =>
    exact ⟨fun _ => fr_execCrossingError rfl _ (keeps_refl _ _), fun _ _ hq _ hs => kp_execCrossingError (hq.mono rfl) _ hs⟩
  case counterWrap =>
    exact ⟨fun _ => fr_execCounterWrap rfl _ (keeps_refl _ _), fun _ _ hq _ hs => kp_execCounterWrap (hq.mono rfl) _ hs⟩
  case promptPreparationDone =>
    exact ⟨fun _ => fr_execPromptPreparationDone rfl _ (keeps_refl _ _), fun _ _ hq _ hs => kp_execPromptPreparationDone (hq.mono rfl) _ hs⟩
  case patrolVisit => exact absurd h (shape_visit_ne ⟨nofun, nofun⟩)
  case outOfTurnVisit => exact absurd h (shape_visit_ne ⟨nofun, nofun⟩)
  all_goals simp only [shape, reduceCtorEq] at h

/-- The parts of the state that a supply event that saves nothing may write, as a mask of `Keeps`. -/
def supplyMask : Nat := 0x1B0000064

/-- The entries that a supply event that saves nothing may write, beside those of reports. -/
def supplyWrites : Writes :=
  ⟨[0x200101, 0x200102, 0x200103, 0x200104, 0x200106, 0x20100E, 0x202002, 0x205003, 0x301007, 0x301107, 0x402001, 0x402002,
    0x404101, 0xA00106, 0xD00101, 0xD00102, 0xD02004, 0xD03002, 0xD03003],
   [(0x201001, 0x20100E, 256)]⟩

theorem frame_of_supply {c : Instr} (h : shape c = .supply) : Frame c supplyMask supplyWrites := by
  cases c
  case inputSwitchReclose =>
    exact ⟨fun _ => fr_execInputSwitchReclose rfl _ (keeps_refl _ _), fun _ _ hq _ hs => kp_execInputSwitchReclose (hq.mono rfl) _ hs⟩
  case bandDown =>
    exact ⟨fun _ => fr_execBandDown rfl _ (keeps_refl _ _), fun _ _ hq _ hs => kp_execBandDown (hq.mono rfl) _ hs⟩
  case bandUp =>
    exact ⟨fun _ => fr_execBandUp rfl _ (keeps_refl _ _), fun _ _ hq _ hs => kp_execBandUp (hq.mono rfl) _ hs⟩
  case powerCapAdjust =>
    exact ⟨fun _ => fr_execPowerCapAdjust rfl _ (keeps_refl _ _), fun _ _ hq _ hs => kp_execPowerCapAdjust (hq.mono rfl) _ hs⟩
  case protectionRestored =>
    exact ⟨fun _ => fr_execProtectionRestored rfl (keeps_refl _ _), fun _ _ hq _ hs => kp_execProtectionRestored (hq.mono rfl) hs⟩
  case shortPress =>
    exact ⟨fun _ => fr_execShortPress rfl (keeps_refl _ _), fun _ _ hq _ hs => kp_execShortPress (hq.mono rfl) hs⟩
  case fall =>
    exact ⟨fun _ => fr_execFall rfl _ _ (keeps_refl _ _), fun _ _ hq _ hs => kp_execFall (hq.mono rfl) _ _ hs⟩
  case minimumOffTimeEnd =>
    exact ⟨fun _ => fr_execMinimumOffTimeEnd rfl (keeps_refl _ _), fun _ _ hq _ hs => kp_execMinimumOffTimeEnd (hq.mono rfl) hs⟩
  case stuckRailCleared =>
    exact ⟨fun _ => fr_execStuckRailCleared rfl _ (keeps_refl _ _), fun _ _ hq _ hs => kp_execStuckRailCleared (hq.mono rfl) _ hs⟩
  case wake =>
    exact ⟨fun _ => fr_execWake rfl _ (keeps_refl _ _), fun _ _ hq _ hs => kp_execWake (hq.mono rfl) _ hs⟩
  case wakeN =>
    exact ⟨fun _ => fr_execWakeN rfl _ (keeps_refl _ _), fun _ _ hq _ hs => kp_execWakeN (hq.mono rfl) _ hs⟩
  case rattle =>
    exact ⟨fun _ => fr_execRattle rfl _ (keeps_refl _ _), fun _ _ hq _ hs => kp_execRattle (hq.mono rfl) _ hs⟩
  case patrolVisit => exact absurd h (shape_visit_ne ⟨nofun, nofun⟩)
  case outOfTurnVisit => exact absurd h (shape_visit_ne ⟨nofun, nofun⟩)
  all_goals simp only [shape, reduceCtorEq] at h

/-- The parts of the state that a report other than the end of a preparation may write, as a mask of `Keeps`. -/
def occurrenceMask : Nat := 0x392000064

theorem keeps_integ_of_report {c : Instr} (h : shape c = .report) (hc : ∀ r, c ≠ .promptPreparationDone r) (s : State) :
    NextIs (Keeps occurrenceMask s) (exec c s) := by
  have hs := keeps_refl occurrenceMask s
  cases c
  case promptPreparationDone region => exact absurd rfl (hc region)
  case occurrence => exact fr_execOccurrence rfl _ hs
  case recorderWrite => exact fr_execRecorderWrite rfl hs
  case captureEpisode => exact fr_execCaptureEpisode rfl hs
  case coreDelayMargin quadrant => exact fr_execCoreDelayMargin rfl quadrant hs
  case crossingError => exact fr_execCrossingError rfl _ hs
  case counterWrap => exact fr_execCounterWrap rfl _ hs
  case patrolVisit => exact absurd h (shape_visit_ne ⟨nofun, nofun⟩)
  case outOfTurnVisit => exact absurd h (shape_visit_ne ⟨nofun, nofun⟩)
  all_goals simp only [shape, reduceCtorEq] at h

/-- Settles O13: a management command keeps the parts that its mask does not name, and the entries that its frame does not list. -/
theorem managementFrame : Obligations.ManagementFrame := by
  refine fun c => ⟨fun h => ⟨fun s t ht => ?_, (frame_of_portEvent h).leavesEntries rfl⟩,
    fun h => ⟨fun s t ht => ?_, (frame_of_mailbox h).leavesEntries rfl⟩,
    fun h => ⟨fun s t ht => ?_, (frame_of_session h).leavesEntries rfl⟩,
    fun h => ⟨fun s t ht => ?_, (frame_of_fieldLink h).leavesEntries rfl⟩,
    fun h => ⟨fun s t ht => ?_, (frame_of_report h).leavesEntries rfl⟩,
    fun h hc s t ht => (keeps_of_exec (keeps_integ_of_report h hc s) ht).integ rfl,
    fun h => ⟨fun s t ht => ?_, (frame_of_supply h).leavesEntries rfl⟩⟩
  · have hk := (frame_of_portEvent h).of_exec ht
    simp only [hk.octs rfl, hk.deviceTime rfl, hk.restoreStamp rfl, hk.nextSeq rfl, hk.staging rfl, hk.stallSince rfl,
      hk.stallReported rfl, hk.l1 rfl, hk.l2 rfl, hk.lfsr1 rfl, hk.lfsr2 rfl, hk.reads rfl, hk.nextRead rfl, hk.groups rfl, hk.cells
      rfl, hk.reservedA rfl, hk.reservedB rfl, hk.resultsA rfl, hk.resultsB rfl, hk.resultBase rfl, hk.xlat rfl, hk.med rfl,
      hk.integ rfl, hk.stored rfl, hk.pow rfl, hk.modes rfl, hk.therm rfl, hk.obs rfl]
  · have hk := (frame_of_mailbox h).of_exec ht
    simp only [hk.octs rfl, hk.restoreStamp rfl, hk.nextSeq rfl, hk.staging rfl, hk.stallSince rfl, hk.stallReported rfl, hk.l1 rfl,
      hk.l2 rfl, hk.lfsr1 rfl, hk.lfsr2 rfl, hk.reads rfl, hk.nextRead rfl, hk.retries rfl, hk.groups rfl, hk.cells rfl,
      hk.reservedA rfl, hk.reservedB rfl, hk.resultsA rfl, hk.resultsB rfl, hk.resultBase rfl, hk.stored rfl, hk.pow rfl, hk.therm
      rfl]
  · have hk := (frame_of_session h).of_exec ht
    simp only [hk.octs rfl, hk.deviceTime rfl, hk.restoreStamp rfl, hk.nextSeq rfl, hk.staging rfl, hk.stallSince rfl,
      hk.stallReported rfl, hk.l1 rfl, hk.l2 rfl, hk.lfsr1 rfl, hk.lfsr2 rfl, hk.reads rfl, hk.nextRead rfl, hk.retries rfl,
      hk.groups rfl, hk.cells rfl, hk.reservedA rfl, hk.reservedB rfl, hk.resultsA rfl, hk.resultsB rfl, hk.resultBase rfl, hk.xlat
      rfl, hk.med rfl, hk.integ rfl, hk.stored rfl, hk.pow rfl, hk.modes rfl, hk.therm rfl, hk.obs rfl]
  · have hk := (frame_of_fieldLink h).of_exec ht
    simp only [hk.octs rfl, hk.deviceTime rfl, hk.restoreStamp rfl, hk.nextSeq rfl, hk.staging rfl, hk.stallSince rfl,
      hk.stallReported rfl, hk.l1 rfl, hk.l2 rfl, hk.lfsr1 rfl, hk.lfsr2 rfl, hk.reads rfl, hk.nextRead rfl, hk.retries rfl,
      hk.groups rfl, hk.cells rfl, hk.reservedA rfl, hk.reservedB rfl, hk.resultsA rfl, hk.resultsB rfl, hk.resultBase rfl, hk.xlat
      rfl, hk.med rfl, hk.integ rfl, hk.stored rfl, hk.pow rfl, hk.modes rfl, hk.therm rfl, hk.obs rfl]
  · have hk := (frame_of_report h).of_exec ht
    simp only [hk.octs rfl, hk.deviceTime rfl, hk.restoreStamp rfl, hk.nextSeq rfl, hk.staging rfl, hk.stallSince rfl,
      hk.stallReported rfl, hk.l1 rfl, hk.l2 rfl, hk.lfsr1 rfl, hk.lfsr2 rfl, hk.reads rfl, hk.nextRead rfl, hk.retries rfl,
      hk.groups rfl, hk.cells rfl, hk.reservedA rfl, hk.reservedB rfl, hk.resultsA rfl, hk.resultsB rfl, hk.resultBase rfl, hk.xlat
      rfl, hk.stored rfl, hk.modes rfl, hk.therm rfl]
  · have hk := (frame_of_supply h).of_exec ht
    simp only [hk.octs rfl, hk.deviceTime rfl, hk.restoreStamp rfl, hk.nextSeq rfl, hk.staging rfl, hk.stallSince rfl,
      hk.stallReported rfl, hk.l1 rfl, hk.l2 rfl, hk.lfsr1 rfl, hk.lfsr2 rfl, hk.reads rfl, hk.nextRead rfl, hk.retries rfl,
      hk.groups rfl, hk.cells rfl, hk.reservedA rfl, hk.reservedB rfl, hk.resultsA rfl, hk.resultsB rfl, hk.resultBase rfl, hk.xlat
      rfl, hk.med rfl, hk.integ rfl, hk.stored rfl, hk.therm rfl, hk.obs rfl]

end Sys2Proof.Machine
end

section
/-! SUPPORT. The queries and the settings of a standard mailbox (R72, R74, R146). -/

namespace Sys2Proof.Machine

/-- The state in which a mailbox command runs: in DOZE the command is a wake source (R402, log 125). -/
def mailboxWake (s : State) : State := if s.mode = modeDoze then wakeBy 0 s else s

theorem mailboxCommand_next {s : State} {p : Port} (h : s.ioOpen p = true) (f : State → State) :
    mailboxCommand p f s = .next (f (mailboxWake s)) := if_pos h

theorem mailboxWake_awake {s : State} (h : s.mode ≠ modeDoze) : mailboxWake s = s := if_neg h

/-- A mailbox command completes by what it does to the state that it wakes. -/
theorem completes_query {s : State} {p : Port} (h : s.ioOpen p = true) {c : Instr} {f : State → State}
    (hc : exec c s = mailboxCommand p f s) {P : State → Prop} (hP : P (f (mailboxWake s))) : Completes c s P :=
  ⟨_, hc.trans (mailboxCommand_next h f), hP⟩

/-- Outside DOZE a mailbox command runs on the state as it is. -/
theorem completes_mailboxCommand {s : State} {p : Port} (h : s.ioOpen p = true) (hm : s.mode ≠ modeDoze) {c : Instr} {f : State → State}
    (hc : exec c s = mailboxCommand p f s) {P : State → Prop} (hP : P (f s)) : Completes c s P :=
  completes_query h hc ((mailboxWake_awake hm).symm ▸ hP)

theorem exec_getHealthInfo (p : Port) (s : State) : exec (.getHealthInfo p) s = mailboxCommand p (fun t => drawn (mailboxAnswer p rcSuccess
    [t.read 0x61E005, t.freeNow, t.read 0x61E001, t.get 0x900101, t.get 0x402003, t.get 0x800101 + t.get 0x800103, t.get 0x800105] t)) s :=
  rfl

theorem mem_out_mailboxAnswer (p : Port) (code : Nat) (fields : List Nat) (s : State) :
    Out.mailbox p code fields ∈ (mailboxAnswer p code fields s).out := by simp [mailboxAnswer]

theorem port_mailboxAnswer (p : Port) (code : Nat) (fields : List Nat) (s : State) (q : Port) :
    (mailboxAnswer p code fields s).port q = s.port q := port_emit _ s q

/-- The records that a cleared log keeps are those that pass. -/
theorem records_clearLog (p : Port) (log : Nat) (keep : EventRecord → Bool) (s : State) :
    (tgetD {} log ((clearLog p log keep s).port p).logs).records = (tgetD {} log (s.port p).logs).records.filter keep := by
  rw [clearLog, port_modPort_self]
  exact congrArg EventLog.records (tgetD_tput_self _ _ _ _)

/-- The four settings of an interrupt policy read back as they were written. -/
theorem policy_readBack (t : Tbl Nat) (i w f e : Nat) :
    (List.range 4).map (fun k => tgetD 0 k (tset 0 0 i (tset 0 1 w (tset 0 2 f (tset 0 3 e t))))) = [i, w, f, e] := by
  simp [List.range_succ, tgetD_tset]

theorem clearEventRecords_all {s : State} {p : Port} (h : s.ioOpen p = true) (hm : s.mode ≠ modeDoze) (log : Fin 4) :
    Completes (.clearEventRecords p log none) s fun t =>
      (tgetD {} log.val (t.port p).logs).records = [] ∧ Out.mailbox p 0 [] ∈ t.out := by
  refine completes_mailboxCommand h hm (f := fun t => mailboxAnswer p rcSuccess [] (clearLog p log.val (fun _ => false) t)) rfl
    ⟨?_, mem_out_mailboxAnswer _ _ _ _⟩
  rw [port_mailboxAnswer, records_clearLog]
  exact List.filter_eq_nil_iff.mpr fun _ _ => Bool.false_ne_true

/-- The handles that a log holds. -/
def logHandles (p : Port) (log : Nat) (s : State) : List Nat := (tgetD {} log (s.port p).logs).records.map (·.handle)

theorem mem_logHandles {p : Port} {log : Nat} {s : State} {h : Nat} :
    h ∈ logHandles p log s ↔ ∃ r ∈ (tgetD {} log (s.port p).logs).records, r.handle = h := List.mem_map

theorem exec_clearEventRecords_some (p : Port) (log : Fin 4) (hs : List Nat) (s : State) :
    exec (.clearEventRecords p log (some hs)) s = mailboxCommand p (fun t =>
      if hs.all (logHandles p log.val t).contains then
        mailboxAnswer p rcSuccess [] (clearLog p log.val (fun r => !hs.contains r.handle) t)
      else mailboxAnswer p rcInvalidHandle [] t) s := rfl

theorem clearEventRecords_held {s : State} {p : Port} (h : s.ioOpen p = true) (hm : s.mode ≠ modeDoze) (log : Fin 4) {hs : List Nat}
    (hheld : ∀ h ∈ hs, ∃ r ∈ (tgetD {} log.val (s.port p).logs).records, r.handle = h) :
    Completes (.clearEventRecords p log (some hs)) s fun t =>
      (∀ r, r ∈ (tgetD {} log.val (t.port p).logs).records ↔ r ∈ (tgetD {} log.val (s.port p).logs).records ∧ r.handle ∉ hs) ∧
        Out.mailbox p 0 [] ∈ t.out := by
  have hall : hs.all (logHandles p log.val s).contains = true :=
    List.all_eq_true.mpr fun h hh => List.contains_iff_mem.mpr (mem_logHandles.mpr (hheld h hh))
  refine completes_mailboxCommand h hm (exec_clearEventRecords_some p log hs s) ?_
  rw [if_pos hall]
  refine ⟨fun r => ?_, mem_out_mailboxAnswer _ _ _ _⟩
  rw [port_mailboxAnswer, records_clearLog, List.mem_filter]
  simp

theorem clearEventRecords_unknown {s : State} {p : Port} (h : s.ioOpen p = true) (hm : s.mode ≠ modeDoze) (log : Fin 4) {hs : List Nat}
    {n : Nat} (hn : n ∈ hs) (hunknown : ∀ r ∈ (tgetD {} log.val (s.port p).logs).records, r.handle ≠ n) :
    Completes (.clearEventRecords p log (some hs)) s fun t =>
      (t.port p).logs = (s.port p).logs ∧ Out.mailbox p 0x0E [] ∈ t.out := by
  have hall : ¬hs.all (logHandles p log.val s).contains = true := fun hall => by
    obtain ⟨r, hr, hrn⟩ := mem_logHandles.mp (List.contains_iff_mem.mp (List.all_eq_true.mp hall n hn))
    exact hunknown r hr hrn
  refine completes_mailboxCommand h hm (exec_clearEventRecords_some p log hs s) ?_
  rw [if_neg hall]
  exact ⟨congrArg PortState.logs (port_mailboxAnswer p _ _ s p), mem_out_mailboxAnswer _ _ _ _⟩

theorem exec_unsupportedMailboxOpcode (p : Port) (opcode : BitVec 16) (s : State) :
    exec (.unsupportedMailboxOpcode p opcode) s = mailboxCommand p (fun t =>
      if standardOpcodes.contains opcode.toNat then t
      else if 0xC000 ≤ opcode.toNat ∧ opcode.toNat ≤ 0xC007 then mailboxAnswer p rcInvalidInput [] t
      else mailboxAnswer p rcUnsupported [] t) s := rfl

/-- The four settings of a port's event interrupt policy. -/
def setPolicy (p : Port) (i w f e : Nat) (s : State) : State :=
  s.modPort p fun q => { q with policy := tset 0 0 i (tset 0 1 w (tset 0 2 f (tset 0 3 e q.policy))) }

theorem exec_setEventInterruptPolicy (p : Port) (i w f e : Byte) (s : State) : exec (.setEventInterruptPolicy p i w f e) s =
    mailboxCommand p (fun t => mailboxAnswer p rcSuccess [] (setPolicy p i.toNat w.toNat f.toNat e.toNat t)) s := rfl

/-- An opcode outside the tables answers Unsupported and changes nothing. -/
theorem unsupportedMailboxOpcode_answers {s : State} {p : Port} (h : s.ioOpen p = true) {opcode : BitVec 16}
    (hs : opcode.toNat ∉ standardOpcodes) (hv : opcode.toNat < 0xC000 ∨ 0xC007 < opcode.toNat) :
    Completes (.unsupportedMailboxOpcode p opcode) s fun t => t = emit (.mailbox p 3 []) (mailboxWake s) := by
  refine completes_query h (exec_unsupportedMailboxOpcode p opcode s) ?_
  rw [if_neg (fun hc => hs (List.contains_iff_mem.mp hc)), if_neg (by omega)]
  rfl

/-- Settles O33: each query answers from the state that `mailboxWake` gives, and each setting reads back as it was written (log 62: the return
codes are presumed; log 125: that a query in DOZE wakes the module by source 0 and runs at once is the model's choice). -/
theorem mailboxQueriesAndSettings : Obligations.MailboxQueriesAndSettings := by
  refine ⟨fun s p hopen => ⟨fun q hq => ?_, fun log => completes_query hopen rfl rfl, completes_query hopen (exec_getHealthInfo p s) ?_,
    fun opcode => unsupportedMailboxOpcode_answers hopen⟩, fun s p hopen hmode => ⟨fun time => ?_, fun i w f e => ?_, fun log => ?_⟩⟩
  · simp only [List.mem_cons, List.not_mem_nil, or_false] at hq
    rcases hq with rfl | rfl | rfl | rfl | rfl <;> exact completes_query hopen rfl rfl
  · exact ⟨_, mem_out_mailboxAnswer _ _ _ _⟩
  · refine completes_mailboxCommand hopen hmode (f := fun t => mailboxAnswer p rcSuccess [] (setTime time.toNat 1 t)) rfl ?_
    exact ⟨rfl, (get_emit _ _ _).trans (get_put_self _ _ _), mem_out_mailboxAnswer _ _ _ _⟩
  · refine completes_mailboxCommand hopen hmode (exec_setEventInterruptPolicy p i w f e s) ⟨?_, mem_out_mailboxAnswer _ _ _ _⟩
    simp only [setPolicy, port_mailboxAnswer, port_modPort_self, policy_readBack]
  · exact ⟨clearEventRecords_all hopen hmode log, fun hs => ⟨clearEventRecords_held hopen hmode log,
      fun n hn => clearEventRecords_unknown hopen hmode log hn⟩⟩

end Sys2Proof.Machine
end

section
/-! SUPPORT. The accesses to the device-managed windows at a port with nothing queued and nothing waiting: the port's drain is over at once, and the
access takes effect on the state that counted it (R54, R55, R56). -/

namespace Sys2Proof.Machine

/-! ### What an access leaves of a port's queue and waits -/

section Onward

variable {p : Port} {r : State}

theorem on_stray (q : Port) {s : State} (hs : Onward p r s) : Onward p r (stray q s) := on_raise _ (on_bump _ hs)

theorem on_strayIf (c : Bool) (q : Port) {s : State} (hs : Onward p r s) : Onward p r (strayIf c q s) := on_cond (on_stray q hs) hs

theorem on_raiseTimes (n src : Nat) {s : State} (hs : Onward p r s) : Onward p r (raiseTimes n src s) := by
  induction n generalizing s with
  | zero => exact hs
  | succ n ih => exact ih (on_raise src hs)

theorem on_dropStores (q : Port) (bit n : Nat) {s : State} (hs : Onward p r s) : Onward p r (dropStores q bit n s) := by
  unfold dropStores
  exact on_cond hs (on_raiseTimes _ _ (on_addTo _ _ (on_modPort q _ (by intro _; rfl) hs)))

theorem on_setGroup (g : Nat) (v : Group) {s : State} (hs : Onward p r s) : Onward p r (s.setGroup g v) :=
  hs.quiet (fr_setGroup rfl g v (keeps_refl _ s))

theorem on_writeCell (c : Nat) (be : ByteEnables) (d : Line) {s : State} (hs : Onward p r s) : Onward p r (writeCell c be d s) :=
  hs.quiet (fr_writeCell rfl c be d (keeps_refl _ s))

theorem on_loseReservation (q : Port) (c : Nat) (cause : LossCause) {s : State} (hs : Onward p r s) :
    Onward p r (loseReservation q c cause s) := hs.quiet (fr_loseReservation rfl q c cause (keeps_refl _ s))

theorem on_setReserved (q : Port) (l : List Nat) {s : State} (hs : Onward p r s) : Onward p r (setReserved q l s) :=
  hs.quiet (fr_setReserved rfl q l (keeps_refl _ s))

theorem on_setResultLine (q : Port) (c : Nat) (l : ResultLine) {s : State} (hs : Onward p r s) : Onward p r (setResultLine q c l s) :=
  hs.quiet (fr_setResultLine rfl q c l (keeps_refl _ s))

theorem on_plainStore (q : Port) (c : Nat) (be : ByteEnables) (d : Line) {s : State} (hs : Onward p r s) : Onward p r (plainStore q c be d s) :=
  on_loseReservation _ _ _ (on_writeCell _ _ _ (on_takeStamp hs))

theorem on_conditionalEffect (q : Port) (c : Nat) (be : ByteEnables) (d : Line) {s : State} (hs : Onward p r s) :
    Onward p r (conditionalEffect q c be d s) := by
  unfold conditionalEffect
  exact on_cond (on_loseReservation _ _ _ (on_setReserved _ _ (on_setResultLine _ _ _ (on_writeCell _ _ _ (on_takeStamp hs)))))
    (on_bump _ (on_setResultLine _ _ _ hs))

theorem on_reserve (q : Port) (c : Nat) {s : State} (hs : Onward p r s) : Onward p r (reserve q c s) := by
  unfold reserve
  exact on_cond (on_setResultLine _ _ _ hs)
    (on_cond (on_setResultLine _ _ _ (on_setReserved _ _ hs)) (on_raise _ (on_bump _ hs)))

theorem on_startDiscard (q : Port) {s : State} (hs : Onward p r s) : Onward p r (startDiscard q s) := by
  unfold startDiscard
  exact on_cond (on_modPort q _ (by intro _; rfl) hs) (on_modPort q _ (by intro _; rfl) hs)

theorem on_writeDiscard (q : Port) (be : ByteEnables) (d : Line) {s : State} (hs : Onward p r s) : Onward p r (writeDiscard q be d s) := by
  have h := on_modPort q (fun v => { v with discard := { v.discard with
    start := ((writtenWord 0 be d).map (· &&& 0x3FFFFFFFFFF)).getD v.discard.start,
    length := ((writtenWord 1 be d).map (· &&& 0x7FFFFFFFFFF)).getD v.discard.length } }) (fun _ => rfl) hs
  unfold writeDiscard
  simp only
  split
  · exact on_cond (on_startDiscard q h) h
  · exact h

theorem on_writeGroup (q : Port) (g seq : Nat) (be : ByteEnables) (d : Line) {s : State} (hs : Onward p r s) :
    Onward p r (writeGroup q g seq be d s) := by
  unfold writeGroup
  refine on_cond (on_raise _ (on_dropStores _ _ _ hs)) ?_
  simp only
  split
  · exact on_strayIf _ _ (on_setGroup _ _ hs)
  · exact (on_strayIf _ _ (on_setGroup _ _ hs)).quiet (fr_submitCommand rfl _ _ (keeps_refl _ _))

theorem on_writeAlias (q : Port) (aliasNo c : Nat) (be : ByteEnables) (d : Line) {s : State} (hs : Onward p r s) :
    Onward p r (writeAlias q aliasNo c be d s) := by
  have h := on_strayIf (anyPartial be) q hs
  unfold writeAlias
  exact on_cond (on_stray q hs) (on_cond h (on_cond (on_dropStores _ _ _ h) (on_cond (on_plainStore _ _ _ _ h) (on_conditionalEffect _ _ _ _ h))))

theorem on_writePortPage (q owner : Port) (offset : Nat) (be : ByteEnables) (d : Line) {s : State} (hs : Onward p r s) :
    Onward p r (writePortPage q owner offset be d s) := by
  unfold writePortPage
  exact on_cond (on_writeDiscard _ _ _ (on_strayIf _ _ hs)) (on_stray _ hs)

theorem on_writeDma (q : Port) (k offset : Nat) (be : ByteEnables) (d : Line) {s : State} (hs : Onward p r s) :
    Onward p r (writeDma q k offset be d s) := by
  have h := on_strayIf (anyPartial be) q hs
  unfold writeDma
  exact on_cond (on_cond (on_dropStores _ _ _ h) (on_cond (h.quiet (fr_writeDescriptor rfl _ _ _ (keeps_refl _ _)))
    (h.quiet (fr_writeControl rfl _ _ _ _ (keeps_refl _ _))))) (on_stray _ hs)

/-- The effect of a window write leaves the port's queue and what waits for it. -/
theorem on_writeTarget (q : Port) (seq : Nat) (be : ByteEnables) (d : Line) (target : WindowTarget) {s : State} (hs : Onward p r s) :
    Onward p r (writeTarget q seq be d s target) := by
  cases target with
  | groupLine g => exact on_writeGroup _ _ _ _ _ hs
  | cell aliasNo c => exact on_writeAlias _ _ _ _ _ hs
  | portPage owner offset => exact on_writePortPage _ _ _ _ _ hs
  | counters l => exact on_stray _ hs
  | dma k offset => exact on_writeDma _ _ _ _ _ hs
  | unused => exact on_stray _ hs

theorem on_answerWindow (q : Port) (tag line : Nat) (sampled : Bool) (d : Line) {s : State} (hs : Onward p r s) :
    Onward p r (answerWindow q tag line sampled d s) := on_sampleWindow _ _ _ _ (on_sendData _ _ _ _ hs)

theorem on_clearBarrier (q : Port) {s : State} (hs : Onward p r s) : Onward p r (clearBarrier q s) :=
  on_bump _ (on_modPort q _ (by intro _; rfl) hs)

theorem on_readBarrier (q : Port) (tag line acceptedAt : Nat) (sampled : Bool) {s : State} (hs : Onward p r s) :
    Onward p r (readBarrier q tag line acceptedAt sampled s) := by
  unfold readBarrier
  exact on_cond (on_answerBarrier _ _ (on_clearBarrier q hs)) (on_modPort q _ (by intro _; rfl) (on_clearBarrier q hs))

theorem on_readTarget (q : Port) (w : PortWait) (target : WindowTarget) {s : State} (hs : Onward p r s) :
    Onward p r (readTarget q w s target) := by
  cases target with
  | groupLine g => exact on_cond (on_setGroup _ _ hs) (on_answerWindow _ _ _ _ _ hs)
  | cell aliasNo c =>
    show Onward p r (readCell _ _ _ _ _ _ _)
    unfold readCell
    exact on_cond (on_answerWindow _ _ _ _ _ (on_drawn hs)) (on_cond (on_answerWindow _ _ _ _ _ hs)
      (on_cond (on_answerWindow _ _ _ _ _ hs) (on_cond (on_answerWindow _ _ _ _ _ (on_reserve _ _ hs)) (on_answerWindow _ _ _ _ _ hs))))
  | portPage owner offset =>
    show Onward p r (readPortPage _ _ _ _ _ _ _ _)
    unfold readPortPage
    simp only [on_ite, hs, on_answerWindow, on_stray, on_readBarrier, ite_self]
  | counters l => exact on_answerWindow _ _ _ _ _ hs
  | dma k offset =>
    show Onward p r (readDma _ _ _ _ _ _ _)
    unfold readDma
    simp only [on_ite, hs, on_answerWindow, on_stray, ite_self]
  | unused => exact on_answerWindow _ _ _ _ _ (on_stray _ hs)

theorem on_serveAccess (q : Port) (w : PortWait) {s : State} (hs : Onward p r s) : Onward p r (serveAccess q w s) := by
  unfold serveAccess
  split
  · exact on_readTarget _ _ _ hs
  · rename_i be d poison _
    have h : Onward p r (if poison = true then stray q s else writeTarget q w.seq be d s (windowTarget w.dpa)) :=
      on_cond (on_stray _ hs) (on_writeTarget _ _ _ _ _ hs)
    exact on_cond (on_sendCmp _ _ (on_sampleWindow _ _ _ _ h)) (on_sampleWindow _ _ _ _ h)

theorem on_countWindow (q : Port) (code : Nat) {s : State} (hs : Onward p r s) : Onward p r (countWindow q code s) :=
  on_countEligible _ _ (on_count1 _ _ (on_count1 _ _ hs))

theorem on_countWrite (q : Port) {s : State} (hs : Onward p r s) : Onward p r (countWrite q s) :=
  on_count _ _ _ (on_modPort q _ (by intro _; rfl) hs)

theorem on_useCredit (q : Port) {s : State} (hs : Onward p r s) : Onward p r (useCredit q s) :=
  on_grantCredits q (on_modPort q _ (by intro _; rfl) hs)

end Onward

/-! ### An access at a port that rests -/

/-- What a port notes of an access that it accepts. -/
def portWait (p : Port) (tag dpa : Nat) (ask : PortAsk) (s : State) : PortWait :=
  { tag := tag, dpa := dpa, ask := ask, seq := s.nextSeq, sampled := s.samplesNow p 4, acceptedAt := s.clock }

/-- The state that has counted a window access, before its effect. -/
def countedAccess (p : Port) (code : Nat) (s : State) : State := takeSeq (countWindow p code s)

theorem on_countedAccess (q : Port) (code : Nat) {p : Port} {r s : State} (hs : Onward p r s) : Onward p r (countedAccess q code s) :=
  on_takeSeq (on_countWindow q code hs)

theorem nextSeq_countWindow (p : Port) (code : Nat) (s : State) : (countWindow p code s).nextSeq = s.nextSeq :=
  Keeps.nextSeq (fr_countWindow (μ := kf_countWindow) rfl p code (keeps_refl _ s)) rfl

theorem serveWaits_one {p : Port} {w : PortWait} {s : State} (hq : (s.port p).queue = []) (hw : (s.port p).waits = [w]) :
    serveWaits 1 p s = serveAccess p w (s.modPort p fun q => { q with waits := [] }) := by
  simp only [serveWaits, hw, State.queuedBefore, hq, List.any_nil, Bool.false_eq_true, if_false]

theorem drainPort_of_empty {p : Port} {s : State} (hq : (s.port p).queue = []) (hd : (s.port p).draining = 0) : drainPort p s = s := by
  have hport : { s.port p with draining := if (s.port p).queue.any fun x => decide (x.seq < s.nextSeq) then max s.nextSeq (s.port p).draining else 0 }
      = s.port p := by
    rw [hq, List.any_nil, if_neg Bool.false_ne_true, ← hd]
  simp only [drainPort, drainTo, settleHolds, hq, List.foldl_nil, List.length_nil, drainLoop]
  exact (congrArg (s.setPort p) hport).trans (setPort_port s p)

theorem setPort_setPort (s : State) (p : Port) (v w : PortState) : (s.setPort p v).setPort p w = s.setPort p w := by cases p <;> rfl

theorem serveFlushes_of_none {p : Port} {s : State} (h : (s.port p).flushes = []) : serveFlushes p s = s := by
  have hport : { s.port p with flushes := (s.port p).flushes.filter fun f => !s.flushOver p f } = s.port p := by rw [h, List.filter_nil, ← h]
  have hmod : (s.modPort p fun q => { q with flushes := q.flushes.filter fun f => !s.flushOver p f }) = s :=
    (congrArg (s.setPort p) hport).trans (setPort_port s p)
  unfold serveFlushes
  rw [hmod, h]
  rfl

/-- An access at a port that rests takes effect at once (R54). -/
theorem accessWindow_of_rests {s : State} {p : Port} (h : PortRests s p) (tag dpa code : Nat) (ask : PortAsk) :
    accessWindow p tag dpa code ask s = serveAccess p (portWait p tag dpa ask s) (countedAccess p code s) := by
  have hrests : PortRests (countedAccess p code s) p := (on_countedAccess p code (on_refl s)).portRests h
  have hafter : PortRests (serveAccess p (portWait p tag dpa ask s) (countedAccess p code s)) p :=
    (on_serveAccess p _ (on_refl _)).portRests hrests
  let noted := (countedAccess p code s).modPort p fun q => { q with waits := q.waits ++ [portWait p tag dpa ask s] }
  obtain ⟨hqueue, hdraining, hwaits, -, -⟩ := hrests
  have hport : noted.port p = { (countedAccess p code s).port p with waits := [portWait p tag dpa ask s] } := by
    rw [port_modPort_self, hwaits, List.nil_append]
  have hempty : { noted.port p with waits := [] } = (countedAccess p code s).port p := by rw [hport, ← hwaits]
  have hback : (noted.modPort p fun q => { q with waits := [] }) = countedAccess p code s :=
    (congrArg (noted.setPort p) hempty).trans ((setPort_setPort _ p _ _).trans (setPort_port _ p))
  have hcommute : takeSeq ((countWindow p code s).modPort p fun q => { q with waits := q.waits ++ [portWait p tag dpa ask s] }) = noted := by
    cases p <;> rfl
  have hserved : serveWaits 1 p noted = serveAccess p (portWait p tag dpa ask s) (countedAccess p code s) := by
    rw [serveWaits_one (by rw [hport]; exact hqueue) (by rw [hport]), hback]
  show triggerDrain p (takeSeq ((countWindow p code s).modPort p fun q => { q with waits := q.waits ++ [portWait p tag dpa ask s] })) = _
  rw [hcommute, triggerDrain, drainPort_of_empty (by rw [hport]; exact hqueue) (by rw [hport]; exact hdraining)]
  simp only [resumePort, hport, hdraining, if_true, List.length_singleton, hserved]
  exact serveFlushes_of_none hafter.2.2.2.1

theorem not_silent_of_memOpen {s : State} {p : Port} (h : s.memOpen p = true) : (s.port p).silent = false := by
  simp only [State.memOpen, Bool.and_eq_true, Bool.not_eq_true'] at h
  exact h.1.2

theorem windowRead_of_rests {s : State} {p : Port} (hopen : s.memOpen p = true) (h : PortRests s p) (tag dpa : Nat) :
    windowRead p tag dpa s = readTarget p (portWait p tag dpa .read s) (countedAccess p 0x02 s) (windowTarget dpa) := by
  unfold windowRead
  rw [if_pos hopen, accessWindow_of_rests h]
  rfl

/-- The state that has counted a window write and taken its credit, before its effect. -/
def countedWrite (p : Port) (be : ByteEnables) (s : State) : State :=
  countedAccess p (if be == fullEnables then 0x03 else 0x04) (useCredit p (countWrite p s))

theorem on_countedWrite (q : Port) (be : ByteEnables) {p : Port} {r s : State} (hs : Onward p r s) : Onward p r (countedWrite q be s) :=
  on_countedAccess _ _ (on_useCredit _ (on_countWrite _ hs))

/-- The effect of an accepted window write. -/
def writeEffect (p : Port) (dpa seq : Nat) (be : ByteEnables) (d : Line) (poison : Bool) (s : State) : State :=
  if poison then stray p s else writeTarget p seq be d s (windowTarget dpa)

/-- What follows the effect of a window write: a sample and the port's Cmp. -/
def endWrite (p : Port) (tag line : Nat) (sampled : Bool) (s : State) : State := sendCmp p tag (sampleWindow p 5 line sampled s)

/-- A window write at a port that rests: it is counted, acts, and receives its Cmp. -/
theorem windowWrite_of_rests {s : State} {p : Port} (hopen : s.writeOpen p = true) (h : PortRests s p) (tag dpa : Nat) (be : ByteEnables)
    (d : Line) (poison : Bool) : ∃ seq sampled, windowWrite p tag dpa be d poison s =
      endWrite p tag (dpa / 64) sampled (writeEffect p dpa seq be d poison (countedWrite p be s)) := by
  have hrests : PortRests (useCredit p (countWrite p s)) p := (on_useCredit p (on_countWrite p (on_refl s))).portRests h
  refine ⟨(useCredit p (countWrite p s)).nextSeq, (useCredit p (countWrite p s)).samplesNow p 4, ?_⟩
  unfold windowWrite
  rw [if_pos hopen, accessWindow_of_rests hrests]
  rfl

theorem on_writeEffect (q : Port) (dpa seq : Nat) (be : ByteEnables) (d : Line) (poison : Bool) {p : Port} {r s : State} (hs : Onward p r s) :
    Onward p r (writeEffect q dpa seq be d poison s) := on_cond (on_stray _ hs) (on_writeTarget _ _ _ _ _ hs)

/-- A window write receives Cmp (R55). -/
theorem windowWrite_sends {s : State} {p : Port} (hopen : s.writeOpen p = true) (h : PortRests s p) (tag dpa : Nat) (be : ByteEnables)
    (d : Line) (poison : Bool) : ∃ e, Out.cmp p tag e ∈ (windowWrite p tag dpa be d poison s).out := by
  obtain ⟨seq, sampled, hrun⟩ := windowWrite_of_rests hopen h tag dpa be d poison
  rw [hrun]
  have ho : Onward p s (sampleWindow p 5 (dpa / 64) sampled (writeEffect p dpa seq be d poison (countedWrite p be s))) :=
    on_sampleWindow _ _ _ _ (on_writeEffect _ _ _ _ _ _ (on_countedWrite _ _ (on_refl s)))
  exact cmp_mem_sendCmp (ho.silent.trans (not_silent_of_writeOpen hopen)) tag

/-! ### What the acceptance and the answer of an access leave -/

/-- The parts of the state that the count and the answer of a window access may write, as a mask of `Keeps`. -/
def accessMask : Nat := 0x380000074

theorem keeps_countedAccess (p : Port) (code : Nat) (s : State) : Keeps accessMask s (countedAccess p code s) :=
  fr_takeSeq rfl (fr_countWindow rfl p code (keeps_refl _ s))

theorem keeps_countedWrite (p : Port) (be : ByteEnables) (s : State) : Keeps accessMask s (countedWrite p be s) :=
  fr_takeSeq rfl (fr_countWindow rfl _ _ (fr_useCredit rfl p (fr_countWrite rfl p (keeps_refl _ s))))

theorem keeps_endWrite (p : Port) (tag line : Nat) (sampled : Bool) (s : State) : Keeps accessMask s (endWrite p tag line sampled s) :=
  fr_sendCmp rfl p tag (fr_sampleWindow rfl p 5 line sampled (keeps_refl _ s))

theorem kp_countedAccess {κ ν : Nat} (hq : Quiet kw_countWindow κ ν) (p : Port) (code : Nat) {s : State} (hs : Holds κ ν s) :
    Holds κ ν (countedAccess p code s) := kp_takeSeq (hq.mono rfl) (kp_countWindow hq p code hs)

theorem kp_countedWrite {κ ν : Nat} (hq : Quiet kw_countWindow κ ν) (p : Port) (be : ByteEnables) {s : State} (hs : Holds κ ν s) :
    Holds κ ν (countedWrite p be s) := kp_countedAccess hq _ _ (kp_useCredit (hq.mono rfl) p (kp_countWrite (hq.mono rfl) p hs))

theorem kp_endWrite {κ ν : Nat} (hq : Quiet kw_sendCmp κ ν) (p : Port) (tag line : Nat) (sampled : Bool) {s : State} (hs : Holds κ ν s) :
    Holds κ ν (endWrite p tag line sampled s) := kp_sendCmp hq p tag (kp_sampleWindow (hq.mono rfl) p 5 line sampled hs)

theorem writeEffect_clean (p : Port) (dpa seq : Nat) (be : ByteEnables) (d : Line) (s : State) :
    writeEffect p dpa seq be d false s = writeTarget p seq be d s (windowTarget dpa) := by
  unfold writeEffect
  exact if_neg Bool.false_ne_true

/-- A command that writes a window completes by the effect of the write, between its count and its Cmp. -/
theorem completes_windowWrite {c : Instr} {s : State} {p : Port} {tag dpa : Nat} {be : ByteEnables} {d : Line} (hopen : s.writeOpen p = true)
    (h : PortRests s p) (hc : exec c s = .next (windowWrite p tag dpa be d false s)) {P : State → Prop}
    (hP : ∀ seq sampled, P (endWrite p tag (dpa / 64) sampled (writeTarget p seq be d (countedWrite p be s) (windowTarget dpa)))) :
    Completes c s P := by
  obtain ⟨seq, sampled, hrun⟩ := windowWrite_of_rests hopen h tag dpa be d false
  rw [writeEffect_clean] at hrun
  exact ⟨_, hc.trans (congrArg Host.Outcome.next hrun), hP seq sampled⟩

/-- The Cmp of a write at a port that has answered since. -/
theorem endWrite_sends {s t : State} {p : Port} (hopen : s.writeOpen p = true) (h : Onward p s t) (tag line : Nat) (sampled : Bool) :
    ∃ e, Out.cmp p tag e ∈ (endWrite p tag line sampled t).out :=
  cmp_mem_sendCmp ((on_sampleWindow p 5 line sampled h).silent.trans (not_silent_of_writeOpen hopen)) tag

/-- A window read is answered without poison (R56). -/
theorem answerWindow_sends {p : Port} {s : State} (h : (s.port p).silent = false) (tag line : Nat) (sampled : Bool) (d : Line) :
    ∃ e, Out.readData p tag d false e ∈ (answerWindow p tag line sampled d s).out := by
  refine ⟨s.devLoad p, out_of_evolves (ev_sampleWindow p 4 line sampled (ev_refl _)) ?_⟩
  have hsend : sendData p tag d false s =
      count 0x05 p.code 64 ((emit (.readData p tag d false (s.devLoad p)) s).modPort p fun q => { q with windowRead := q.windowRead + 64 }) := by
    simp only [sendData, h, Bool.false_eq_true, if_false]
  rw [hsend]
  refine out_of_evolves (ev_count _ _ _ (ev_modPort p _ (ev_refl _))) ?_
  simp only [out_emit, List.mem_append, List.mem_singleton, or_true]

end Sys2Proof.Machine
end

section
/-! SUPPORT. Stores to a coordination cell: the words of a cell, the reservations and the result lines (R55, R106, R107, R108, R111). -/

namespace Sys2Proof.Machine

/-! ### Words of cells -/

/-- A word of the cell table after a complete word of cell `c` may have been stored. -/
def storeWord (c : Nat) (be : ByteEnables) (d : Line) (t : Tbl Word) (w : Nat) : Tbl Word :=
  match writtenWord w be d with
  | some v => tset 0 (8 * c + w) v t
  | none => t

theorem tgetD_storeWord (c c' : Nat) (be : ByteEnables) (d : Line) (t : Tbl Word) {a w : Nat} (ha : a < 8) (hw : w < 8) :
    tgetD 0 (8 * c' + w) (storeWord c be d t a) =
      if (c' = c ∧ w = a) ∧ wordComplete w be = true then lineWord w d else tgetD 0 (8 * c' + w) t := by
  have hplace : 8 * c' + w = 8 * c + a ↔ c' = c ∧ w = a := by omega
  unfold storeWord writtenWord
  cases hc : wordComplete a be with
  | true =>
    simp only [if_true, tgetD_tset, hplace]
    by_cases he : c' = c ∧ w = a
    · obtain ⟨rfl, rfl⟩ := he
      simp [hc]
    · simp [he]
  | false =>
    have hno : ¬((c' = c ∧ w = a) ∧ wordComplete w be = true) := fun ⟨⟨_, he⟩, hw⟩ => by rw [he, hc] at hw; exact absurd hw (by decide)
    rw [if_neg hno]
    rfl

theorem tgetD_foldl_storeWord (c c' : Nat) (be : ByteEnables) (d : Line) {w : Nat} (hw : w < 8) (l : List Nat) (hl : ∀ a ∈ l, a < 8) (t : Tbl Word) :
    tgetD 0 (8 * c' + w) (l.foldl (storeWord c be d) t) =
      if (c' = c ∧ w ∈ l) ∧ wordComplete w be = true then lineWord w d else tgetD 0 (8 * c' + w) t := by
  induction l generalizing t with
  | nil => simp
  | cons a l ih =>
    rw [List.foldl_cons, ih (fun b hb => hl b (List.mem_cons_of_mem _ hb)), tgetD_storeWord c c' be d t (hl a List.mem_cons_self) hw]
    simp only [List.mem_cons]
    grind

/-- A store to a cell writes its complete words and leaves every other word (R55). -/
theorem cellWord_writeCell (c c' : Nat) (be : ByteEnables) (d : Line) (s : State) {w : Nat} (hw : w < 8) :
    (writeCell c be d s).cellWord c' w = if c' = c ∧ wordComplete w be = true then lineWord w d else s.cellWord c' w := by
  have hcell : (writeCell c be d s).cellWord c' w = tgetD 0 (8 * c' + w) ((List.range 8).foldl (storeWord c be d) s.cells) := rfl
  rw [hcell, tgetD_foldl_storeWord c c' be d hw (List.range 8) (fun a ha => List.mem_range.mp ha)]
  simp only [List.mem_range, hw, and_true, State.cellWord]

/-! ### Reservations and result lines -/

@[simp] theorem reserved_setReserved_self (p : Port) (l : List Nat) (s : State) : (setReserved p l s).reserved p = l := by cases p <;> rfl

@[simp] theorem reserved_setReserved_other (p : Port) (l : List Nat) (s : State) : (setReserved p l s).reserved p.other = s.reserved p.other := by
  cases p <;> rfl

@[simp] theorem reserved_setReserved_of_other (p : Port) (l : List Nat) (s : State) : (setReserved p.other l s).reserved p = s.reserved p := by
  cases p <;> rfl

@[simp] theorem reserved_setResultLine (p q : Port) (c : Nat) (r : ResultLine) (s : State) :
    (setResultLine q c r s).reserved p = s.reserved p := by cases p <;> cases q <;> rfl

@[simp] theorem resultLine_setReserved (p q : Port) (c : Nat) (l : List Nat) (s : State) :
    (setReserved q l s).resultLine p c = s.resultLine p c := by cases p <;> cases q <;> rfl

@[simp] theorem resultLine_setResultLine_self (p : Port) (c : Nat) (r : ResultLine) (s : State) : (setResultLine p c r s).resultLine p c = r := by
  cases p <;> exact tgetD_tset_self _ _ _ _

@[simp] theorem resultLine_setResultLine_of_other (p : Port) (c c' : Nat) (r : ResultLine) (s : State) :
    (setResultLine p.other c' r s).resultLine p c = s.resultLine p c := by cases p <;> rfl

/-- A port that loses a reservation keeps its others. -/
theorem reserved_loseReservation_self (p : Port) (c : Nat) (cause : LossCause) (s : State) :
    (loseReservation p c cause s).reserved p = (s.reserved p).filter (· != c) := by
  unfold loseReservation
  split
  · rw [reserved_setResultLine, reserved_setReserved_self]
  · rename_i h
    refine (List.filter_eq_self.mpr fun a ha => bne_iff_ne.mpr fun he => h ?_).symm
    exact List.contains_iff_mem.mpr (he ▸ ha)

theorem reserved_loseReservation_of_other (p : Port) (c : Nat) (cause : LossCause) (s : State) :
    (loseReservation p.other c cause s).reserved p = s.reserved p := by
  unfold loseReservation
  split
  · rw [reserved_setResultLine, reserved_setReserved_of_other]
  · rfl

theorem resultLine_loseReservation_of_other (p : Port) (c c' : Nat) (cause : LossCause) (s : State) :
    (loseReservation p.other c' cause s).resultLine p c = s.resultLine p c := by
  unfold loseReservation
  split
  · rw [resultLine_setResultLine_of_other, resultLine_setReserved]
  · rfl

theorem not_holdsReservation_of_filter {s : State} {p : Port} {c : Nat} {l : List Nat} (h : s.reserved p = l.filter (· != c)) :
    s.holdsReservation p c = false := by
  rw [State.holdsReservation, h, ← Bool.not_eq_true, List.contains_iff_mem, List.mem_filter]
  simp

theorem other_other (p : Port) : p.other.other = p := by cases p <;> rfl

/-! ### Cells, reservations and result lines under a frame -/

theorem cellWord_keeps {μ : Nat} {s t : State} (h : Keeps μ s t) (h18 : μ.testBit 18 = false) : t.cellWord = s.cellWord := by
  funext c w
  rw [State.cellWord, h.cells h18]
  rfl

theorem reserved_keeps {μ : Nat} {s t : State} (h : Keeps μ s t) (h19 : μ.testBit 19 = false) (h20 : μ.testBit 20 = false) (p : Port) :
    t.reserved p = s.reserved p := by
  cases p
  · exact h.reservedA h19
  · exact h.reservedB h20

theorem resultLine_keeps {μ : Nat} {s t : State} (h : Keeps μ s t) (h21 : μ.testBit 21 = false) (h22 : μ.testBit 22 = false)
    (h23 : μ.testBit 23 = false) (p : Port) (c : Nat) : t.resultLine p c = s.resultLine p c := by
  unfold State.resultLine
  rw [h.resultBase h23, h.resultsA h21, h.resultsB h22]

theorem holdsReservation_congr {s t : State} {p : Port} (h : t.reserved p = s.reserved p) (c : Nat) :
    t.holdsReservation p c = s.holdsReservation p c := by
  unfold State.holdsReservation
  rw [h]

/-! ### The two stores -/

/-- A conditional store of a port that holds its reservation succeeds (R106, R108). -/
theorem conditionalEffect_succeeds {s : State} {p : Port} {c : Nat} (h : s.holdsReservation p c = true) (be : ByteEnables) (d : Line) :
    let t := conditionalEffect p c be d s
    (∀ c' w, w < 8 → t.cellWord c' w = if c' = c ∧ wordComplete w be = true then lineWord w d else s.cellWord c' w) ∧
      (t.resultLine p c).code = 1 ∧ (t.resultLine p c).stamp = s.nextStamp ∧ t.holdsReservation p c = false ∧
      t.holdsReservation p.other c = false := by
  let written := writeCell c be d (takeStamp s)
  let noted := setResultLine p c { written.resultLine p c with code := 1, stamp := s.stampNow } written
  let spent := setReserved p ((noted.reserved p).filter (· != c)) noted
  have hrun : conditionalEffect p c be d s = loseReservation p.other c .store spent := if_pos h
  have hcells : Keeps 0x780000 written (loseReservation p.other c .store spent) :=
    fr_loseReservation rfl _ _ _ (fr_setReserved rfl _ _ (fr_setResultLine rfl _ _ _ (keeps_refl _ written)))
  have hstamped : Keeps 0x4 s (takeStamp s) := fr_takeStamp rfl (keeps_refl _ s)
  have hline : (loseReservation p.other c .store spent).resultLine p c = { written.resultLine p c with code := 1, stamp := s.stampNow } := by
    rw [resultLine_loseReservation_of_other, resultLine_setReserved, resultLine_setResultLine_self]
  simp only [hrun, hline]
  refine ⟨fun c' w hw => ?_, trivial, rfl, ?_, ?_⟩
  · rw [cellWord_keeps hcells rfl, cellWord_writeCell _ _ _ _ _ hw, cellWord_keeps hstamped rfl]
  · exact not_holdsReservation_of_filter ((reserved_loseReservation_of_other _ _ _ _).trans (reserved_setReserved_self _ _ _))
  · exact not_holdsReservation_of_filter (reserved_loseReservation_self _ _ _ _)

/-- A conditional store of a port that holds no reservation fails, and is counted (R106, R108). -/
theorem conditionalEffect_fails {s : State} {p : Port} {c : Nat} (h : s.holdsReservation p c = false) (be : ByteEnables) (d : Line) :
    let t := conditionalEffect p c be d s
    t.cells = s.cells ∧ (t.resultLine p c).code = 2 ∧ Counted (0x508005 + p.code) 1 s t := by
  have hrun : conditionalEffect p c be d s = (setResultLine p c { s.resultLine p c with code := 2, stamp := 0 } s).bump (0x508005 + p.code) :=
    if_neg (by rw [h]; exact Bool.false_ne_true)
  simp only [hrun]
  have hbump := fr_bump (μ := kf_bump) rfl (0x508005 + p.code) (keeps_refl _ (setResultLine p c { s.resultLine p c with code := 2, stamp := 0 } s))
  refine ⟨(hbump.cells rfl).trans (by cases p <;> rfl), ?_, ?_⟩
  · rw [resultLine_keeps hbump rfl rfl rfl, resultLine_setResultLine_self]
  · exact (get_bump_self _ _).trans (by cases p <;> rfl)

/-- A plain store writes at once and takes the other port's reservation (R107, R111). -/
theorem plainStore_stores (p : Port) (c : Nat) (be : ByteEnables) (d : Line) (s : State) :
    let t := plainStore p c be d s
    (∀ c' w, w < 8 → t.cellWord c' w = if c' = c ∧ wordComplete w be = true then lineWord w d else s.cellWord c' w) ∧
      t.reserved p = s.reserved p ∧ t.holdsReservation p.other c = false := by
  have hlost : Keeps 0x780000 (writeCell c be d (takeStamp s)) (plainStore p c be d s) := fr_loseReservation rfl _ _ _ (keeps_refl _ _)
  have hstamped : Keeps 0x40004 s (writeCell c be d (takeStamp s)) := fr_writeCell rfl _ _ _ (fr_takeStamp rfl (keeps_refl _ s))
  refine ⟨fun c' w hw => ?_, ?_, not_holdsReservation_of_filter (reserved_loseReservation_self _ _ _ _)⟩
  · rw [cellWord_keeps hlost rfl, cellWord_writeCell _ _ _ _ _ hw,
      cellWord_keeps (fr_takeStamp (μ := kf_takeStamp) rfl (keeps_refl _ s)) rfl]
  · exact (reserved_loseReservation_of_other _ _ _ _).trans (reserved_keeps hstamped rfl rfl p)

/-! ### The stores at their port -/

theorem windowTarget_cellDpa {aliasNo c : Nat} (ha : aliasNo < 4) (hc : c < 16384) : windowTarget (cellDpa aliasNo c) = .cell aliasNo c := by
  have hslot : (cellDpa aliasNo c - 0x040000000000) / 0x10000000 = 1 := by unfold cellDpa; omega
  have hoff : (cellDpa aliasNo c - 0x040000000000) % 0x10000000 = 0x100000 * aliasNo + 64 * c := by unfold cellDpa; omega
  simp only [windowTarget, hslot, hoff]
  rw [if_neg (by decide), if_pos trivial, if_pos (by omega), show (0x100000 * aliasNo + 64 * c) / 0x100000 = aliasNo by omega,
    show (0x100000 * aliasNo + 64 * c) % 0x100000 / 64 = c by omega]

/-- The state in which a cell store takes effect: its write is counted, and a stray access where a word is enabled in part. -/
def beforeCellStore (p : Port) (be : ByteEnables) (s : State) : State := strayIf (anyPartial be) p (countedWrite p be s)

theorem on_beforeCellStore (p : Port) (be : ByteEnables) (s : State) : Onward p s (beforeCellStore p be s) :=
  on_strayIf _ _ (on_countedWrite _ _ (on_refl s))

theorem keeps_beforeCellStore (p : Port) (be : ByteEnables) (s : State) : Keeps accessMask s (beforeCellStore p be s) :=
  fr_strayIf rfl _ p (keeps_countedWrite p be s)

theorem kp_beforeCellStore {κ ν : Nat} (hq : Quiet kw_strayIf κ ν) (hc : Quiet kw_countWindow κ ν) (p : Port) (be : ByteEnables) {s : State}
    (hs : Holds κ ν s) : Holds κ ν (beforeCellStore p be s) := kp_strayIf hq _ p (kp_countedWrite hc p be hs)

theorem mode_beforeCellStore (p : Port) (be : ByteEnables) (s : State) : (beforeCellStore p be s).mode = s.mode :=
  kp_beforeCellStore ⟨rfl, .inl (by decide)⟩ ⟨rfl, .inl (by decide)⟩ p be rfl

/-- Outside SERVICE, a write with a complete word acts through its alias (R55, R112). -/
theorem writeAlias_acts {s : State} {p : Port} {be : ByteEnables} (hmode : s.mode ≠ modeService) (hany : anyComplete be = true)
    (c : Nat) (d : Line) :
    writeAlias p 0 c be d (countedWrite p be s) = plainStore p c be d (beforeCellStore p be s) ∧
      writeAlias p 2 c be d (countedWrite p be s) = conditionalEffect p c be d (beforeCellStore p be s) := by
  have hm : (strayIf (anyPartial be) p (countedWrite p be s)).mode ≠ modeService := (mode_beforeCellStore p be s).trans_ne hmode
  unfold writeAlias
  simp only [hany, Bool.not_true, Bool.false_eq_true, if_false, hm]
  exact ⟨rfl, rfl⟩

section AtItsPort

variable {s : State} {p : Port} {be : ByteEnables} {c : Fin 16384}

/-- A conditional store completes by its effect. -/
theorem completes_conditionalStore (hopen : s.writeOpen p = true) (hrests : PortRests s p) (hmode : s.mode ≠ modeService)
    (hany : anyComplete be = true) (tag : Nat) (d : Line) {P : State → Prop}
    (hP : ∀ line sampled, P (endWrite p tag line sampled (conditionalEffect p c.val be d (beforeCellStore p be s)))) :
    Completes (.conditionalStore p tag c be d) s P := by
  refine completes_windowWrite hopen hrests rfl fun seq sampled => ?_
  rw [windowTarget_cellDpa (by decide) c.isLt, writeTarget, (writeAlias_acts hmode hany c.val d).2]
  exact hP _ sampled

/-- A plain store completes by its effect. -/
theorem completes_plainCellStore (hopen : s.writeOpen p = true) (hrests : PortRests s p) (hmode : s.mode ≠ modeService)
    (hany : anyComplete be = true) (tag : Nat) (d : Line) {P : State → Prop}
    (hP : ∀ line sampled, P (endWrite p tag line sampled (plainStore p c.val be d (beforeCellStore p be s)))) :
    Completes (.plainCellStore p tag c be d) s P := by
  refine completes_windowWrite hopen hrests rfl fun seq sampled => ?_
  rw [windowTarget_cellDpa (by decide) c.isLt, writeTarget, (writeAlias_acts hmode hany c.val d).1]
  exact hP _ sampled

end AtItsPort

/-- Settles O23: a cell store is counted and acts (`beforeCellStore`), then its Cmp leaves (`endWrite`); neither touches cells, reservations or
result lines. -/
theorem cellStores : Obligations.CellStores := by
  intro s p tag c be d hopen hrests hmode hany
  have hbefore := keeps_beforeCellStore p be s
  have honward := on_beforeCellStore p be s
  have hheld : (beforeCellStore p be s).holdsReservation p c.val = s.holdsReservation p c.val :=
    holdsReservation_congr (reserved_keeps hbefore rfl rfl p) _
  refine ⟨fun h => completes_conditionalStore hopen hrests hmode hany tag d fun line sampled => ?_,
    fun h => completes_conditionalStore hopen hrests hmode hany tag d fun line sampled => ?_,
    completes_plainCellStore hopen hrests hmode hany tag d fun line sampled => ?_⟩
  · have hend := keeps_endWrite p tag line sampled (conditionalEffect p c.val be d (beforeCellStore p be s))
    obtain ⟨hwords, hcode, hstamp, hown, hother⟩ := conditionalEffect_succeeds (hheld.trans h) be d
    have hline := resultLine_keeps hend rfl rfl rfl p c.val
    refine ⟨fun c' w hw => ?_, hline ▸ hcode, hline ▸ hstamp ▸ honward.stamps, (holdsReservation_congr (reserved_keeps hend rfl rfl p) _).trans hown,
      (holdsReservation_congr (reserved_keeps hend rfl rfl p.other) _).trans hother, endWrite_sends hopen (on_conditionalEffect _ _ _ _ honward) _ _ _⟩
    rw [cellWord_keeps hend rfl, hwords c' w hw, cellWord_keeps hbefore rfl]
  · have hend := keeps_endWrite p tag line sampled (conditionalEffect p c.val be d (beforeCellStore p be s))
    obtain ⟨hcells, hcode, hcount⟩ := conditionalEffect_fails (hheld.trans h) be d
    refine ⟨(hend.cells rfl).trans (hcells.trans (hbefore.cells rfl)), resultLine_keeps hend rfl rfl rfl p c.val ▸ hcode, ?_,
      endWrite_sends hopen (on_conditionalEffect _ _ _ _ honward) _ _ _⟩
    have hget : (beforeCellStore p be s).get (0x508005 + p.code) = s.get (0x508005 + p.code) :=
      kp_beforeCellStore (by cases p <;> exact ⟨rfl, .inl (by decide)⟩) (by cases p <;> exact ⟨rfl, .inl (by decide)⟩) p be rfl
    have hkept : (endWrite p tag line sampled (conditionalEffect p c.val be d (beforeCellStore p be s))).get (0x508005 + p.code) =
        (conditionalEffect p c.val be d (beforeCellStore p be s)).get (0x508005 + p.code) :=
      kp_endWrite (by cases p <;> exact ⟨rfl, .inl (by decide)⟩) p tag line sampled rfl
    rw [Counted, hkept, ← hget]
    exact hcount
  · have hend := keeps_endWrite p tag line sampled (plainStore p c.val be d (beforeCellStore p be s))
    obtain ⟨hwords, hown, hother⟩ := plainStore_stores p c.val be d (beforeCellStore p be s)
    refine ⟨fun c' w hw => ?_, (reserved_keeps hend rfl rfl p).trans (hown.trans (reserved_keeps hbefore rfl rfl p)),
      (holdsReservation_congr (reserved_keeps hend rfl rfl p.other) _).trans hother, endWrite_sends hopen (on_plainStore _ _ _ _ honward) _ _ _⟩
    rw [cellWord_keeps hend rfl, hwords c' w hw, cellWord_keeps hbefore rfl]

end Sys2Proof.Machine
end

section
/-! SUPPORT. Reads of the windows: every read is answered without poison, and what the group line, the result line, the counter line and the barrier
word answer (R54, R56, R57, R58, R60, R64, R94). -/

namespace Sys2Proof.Machine

/-! ### A port's control page -/

/-- What a port's control page goes by: the dropped stores, the barrier reads that wait, and the discard line. -/
def PortState.page (q : PortState) : Nat × Bool × Bool × Bool × List BarrierRead × DiscardLine :=
  (q.dropped, q.droppedHalted, q.droppedAborted, q.droppedOffline, q.barriers, q.discard)

/-- A port's control page stands as it did. -/
def SamePage (p : Port) (r s : State) : Prop := (s.port p).page = (r.port p).page

section SamePage

variable {p : Port} {r : State}

theorem sp_refl (s : State) : SamePage p s s := rfl

theorem sp_ite (c : Prop) [Decidable c] (a b : State) : SamePage p r (if c then a else b) = if c then SamePage p r a else SamePage p r b := by
  split <;> rfl

theorem SamePage.quiet {s t : State} (hs : SamePage p r s) (h : Keeps onwardMask s t) : SamePage p r t := by
  rw [SamePage, port_keeps h rfl rfl]
  exact hs

theorem sp_raise (n : Nat) {s : State} (hs : SamePage p r s) : SamePage p r (raise n s) := by simpa [SamePage, PortState.page] using hs
theorem sp_count (code q n : Nat) {s : State} (hs : SamePage p r s) : SamePage p r (count code q n s) := by
  simpa [SamePage, PortState.page] using hs
theorem sp_count1 (code q : Nat) {s : State} (hs : SamePage p r s) : SamePage p r (count1 code q s) := sp_count code q 1 hs
theorem sp_takeStamp {s : State} (hs : SamePage p r s) : SamePage p r (takeStamp s) := by simpa [SamePage, PortState.page] using hs

theorem sp_modPort (q : Port) (f : PortState → PortState) (hf : ∀ v, (f v).page = v.page) {s : State} (hs : SamePage p r s) :
    SamePage p r (s.modPort q f) := by
  cases q <;> cases p
  · exact (hf _).trans hs
  · exact hs
  · exact hs
  · exact (hf _).trans hs

theorem sp_bump (k : Nat) {s : State} (hs : SamePage p r s) : SamePage p r (s.bump k) := hs.quiet (fr_bump rfl k (keeps_refl _ s))
theorem sp_emit (o : Out) {s : State} (hs : SamePage p r s) : SamePage p r (emit o s) := hs.quiet (fr_emit rfl o (keeps_refl _ s))
theorem sp_obs (o : Observe) {s : State} (hs : SamePage p r s) : SamePage p r { s with obs := o } := hs.quiet (upd_obs rfl (keeps_refl _ s) o)

theorem sp_strayIf (c : Bool) (q : Port) {s : State} (hs : SamePage p r s) : SamePage p r (strayIf c q s) := by
  simp only [strayIf, stray, sp_ite, hs, sp_raise, sp_bump, ite_self]

theorem sp_countedAccess (q : Port) (code : Nat) {s : State} (hs : SamePage p r s) : SamePage p r (countedAccess q code s) := by
  have h : SamePage p r (countWindow q code s) :=
    SamePage.quiet (sp_count1 _ _ (sp_count1 _ _ hs)) (fr_countEligible rfl q 4 (keeps_refl _ _))
  exact h.quiet (fr_takeSeq rfl (keeps_refl _ _))

theorem sp_countedWrite (q : Port) (be : ByteEnables) {s : State} (hs : SamePage p r s) : SamePage p r (countedWrite q be s) := by
  have hcredit : SamePage p r (useCredit q (countWrite q s)) := by
    have h : SamePage p r (countWrite q s) := sp_count _ _ _ (sp_modPort q _ (by intro _; rfl) hs)
    simp only [useCredit, grantCredits, sp_ite]
    split
    · exact sp_modPort q _ (by intro _; rfl) h
    · exact sp_modPort q _ (by intro _; rfl) (sp_modPort q _ (by intro _; rfl) h)
  exact sp_countedAccess q _ hcredit

theorem sp_placeSample (e : SampleRecord) {s : State} (hs : SamePage p r s) : SamePage p r (placeSample e s) := by
  unfold placeSample
  simp (maxDischargeDepth := 40) only [hs, sp_ite, ite_self, sp_bump, sp_raise, sp_obs]

theorem sp_sampleWindow (q : Port) (opcode line : Nat) (sampled : Bool) {s : State} (hs : SamePage p r s) :
    SamePage p r (sampleWindow q opcode line sampled s) := by
  simp only [sampleWindow, sp_ite, hs, sp_placeSample, sp_takeStamp, ite_self]

theorem sp_sendData (q : Port) (tag : Nat) (d : Line) (poison : Bool) {s : State} (hs : SamePage p r s) :
    SamePage p r (sendData q tag d poison s) := by
  have h := sp_count 0x05 q.code 64 (sp_modPort q (fun v => { v with windowRead := v.windowRead + 64 }) (fun _ => rfl)
    (sp_emit (.readData q tag (if poison then 0 else d) poison (s.devLoad q)) hs))
  simp only [sendData, sp_ite, hs, h, sp_count1, ite_self]

theorem sp_answerBarrier (q : Port) (b : BarrierRead) {s : State} (hs : SamePage p r s) : SamePage p r (answerBarrier q b s) :=
  SamePage.quiet (sp_sampleWindow _ _ _ _ (sp_sendData _ _ _ _ hs)) (fr_raiseTo rfl _ _ (keeps_refl _ _))

end SamePage

/-! ### What a read answers -/

/-- The port has answered a read with data that carries no poison. -/
def Answered (p : Port) (tag : Nat) (t : State) : Prop := ∃ d e, Out.readData p tag d false e ∈ t.out

theorem answered_answerWindow {p : Port} {s : State} (h : (s.port p).silent = false) (tag line : Nat) (sampled : Bool) (d : Line) :
    Answered p tag (answerWindow p tag line sampled d s) := ⟨d, answerWindow_sends h tag line sampled d⟩

theorem answered_cond {p : Port} {tag : Nat} {c : Prop} [Decidable c] {a b : State} (ha : Answered p tag a) (hb : Answered p tag b) :
    Answered p tag (if c then a else b) := by
  split <;> assumption

theorem answerBarrier_sends {p : Port} {s : State} (h : (s.port p).silent = false) (b : BarrierRead) :
    ∃ e, Out.readData p b.tag (lineOfWords [b.word]) false e ∈ (answerBarrier p b s).out := by
  obtain ⟨e, he⟩ := answerWindow_sends h b.tag b.line b.sampled (lineOfWords [b.word])
  exact ⟨e, out_of_evolves (ev_raiseTo _ _ (ev_refl _)) he⟩

theorem not_silent_stray {p : Port} {s : State} (h : (s.port p).silent = false) : ((stray p s).port p).silent = false :=
  (on_stray p (on_refl s)).silent.trans h

theorem not_silent_clearBarrier {p : Port} {s : State} (h : (s.port p).silent = false) : ((clearBarrier p s).port p).silent = false :=
  (on_clearBarrier p (on_refl s)).silent.trans h

/-- What a read of the barrier word notes. -/
def barrierRead (p : Port) (tag line acceptedAt : Nat) (sampled : Bool) (s : State) : BarrierRead :=
  { tag := tag, word := s.barrierWord p, line := line, sampled := sampled, acceptedAt := acceptedAt, owed := s.owedCmps p }

theorem readBarrier_owed_none {p : Port} {s : State} (h : s.owedCmps p = []) (tag line acceptedAt : Nat) (sampled : Bool) :
    readBarrier p tag line acceptedAt sampled s = answerBarrier p (barrierRead p tag line acceptedAt sampled s) (clearBarrier p s) := by
  unfold readBarrier
  exact if_pos (by simp only [h]; rfl)

theorem readBarrier_owed_some {p : Port} {s : State} (h : s.owedCmps p ≠ []) (tag line acceptedAt : Nat) (sampled : Bool) :
    readBarrier p tag line acceptedAt sampled s =
      (clearBarrier p s).modPort p fun q => { q with barriers := q.barriers ++ [barrierRead p tag line acceptedAt sampled s] } := by
  unfold readBarrier
  exact if_neg (by simpa using h)

/-- A port that owes no Cmp answers every read of a window but that of a group's line, which may wait for the group's commands (R56, R57, R94). -/
theorem readTarget_answered {p : Port} {s : State} (hs : (s.port p).silent = false) (howed : s.owedCmps p = []) (w : PortWait)
    (target : WindowTarget) (hg : ∀ g, target ≠ .groupLine g) : Answered p w.tag (readTarget p w s target) := by
  have hwindow (d : Line) := answered_answerWindow hs w.tag (w.dpa / 64) w.sampled d
  have hstray (d : Line) := answered_answerWindow (not_silent_stray hs) w.tag (w.dpa / 64) w.sampled d
  cases target with
  | groupLine g => exact absurd rfl (hg g)
  | cell aliasNo c =>
    show Answered p w.tag (readCell _ _ _ _ _ _ _)
    unfold readCell
    have hdrawn : ((drawn s).port p).silent = false := (on_drawn (on_refl s)).silent.trans hs
    exact answered_cond (answered_answerWindow hdrawn _ _ _ _) (answered_cond (hwindow _) (answered_cond (hwindow _)
      (answered_cond (answered_answerWindow ((on_reserve p c (on_refl s)).silent.trans hs) _ _ _ _) (hwindow _))))
  | portPage owner offset =>
    show Answered p w.tag (readPortPage _ _ _ _ _ _ _ _)
    unfold readPortPage
    have hbarrier : Answered p w.tag (readBarrier p w.tag (w.dpa / 64) w.acceptedAt w.sampled s) := by
      rw [readBarrier_owed_none howed]
      exact ⟨_, answerBarrier_sends (not_silent_clearBarrier hs) _⟩
    exact answered_cond (hstray _) (answered_cond hbarrier (answered_cond (hwindow _) (answered_cond (hwindow _)
      (answered_cond (hwindow _) (hstray _)))))
  | counters l => exact hwindow _
  | dma k offset =>
    show Answered p w.tag (readDma _ _ _ _ _ _ _)
    unfold readDma
    exact answered_cond (hwindow _) (answered_cond (hwindow _) (answered_cond (hwindow _) (hstray _)))
  | unused => exact hstray _

/-! ### Reads at a port that rests -/

/-- A command that reads a window completes by what the read answers. -/
theorem completes_windowRead {c : Instr} {s : State} {p : Port} {tag dpa : Nat} (hopen : s.memOpen p = true) (h : PortRests s p)
    (hc : exec c s = .next (windowRead p tag dpa s)) {P : State → Prop}
    (hP : P (readTarget p (portWait p tag dpa .read s) (countedAccess p 0x02 s) (windowTarget dpa))) : Completes c s P :=
  ⟨_, hc.trans (congrArg Host.Outcome.next (windowRead_of_rests hopen h tag dpa)), hP⟩

theorem not_silent_countedAccess {s : State} {p : Port} (hopen : s.memOpen p = true) (code : Nat) :
    ((countedAccess p code s).port p).silent = false := (on_countedAccess p code (on_refl s)).silent.trans (not_silent_of_memOpen hopen)

theorem owedCmps_countedAccess (p q : Port) (code : Nat) (s : State) : (countedAccess p code s).owedCmps q = s.owedCmps q := by
  unfold State.owedCmps
  rw [(keeps_countedAccess p code s).staging rfl]

theorem barrierWord_countedAccess (p q : Port) (code : Nat) (s : State) : (countedAccess p code s).barrierWord q = s.barrierWord q := by
  have h := sp_countedAccess (p := q) p code (sp_refl s)
  simp only [SamePage, PortState.page, Prod.mk.injEq] at h
  obtain ⟨hdropped, hhalted, haborted, hoffline, -⟩ := h
  simp only [State.barrierWord, hdropped, hhalted, haborted, hoffline]

theorem windowTarget_groupDpa {g : Nat} (hg : g < 262144) : windowTarget (groupDpa g) = .groupLine g := by
  have hslot : (groupDpa g - 0x040000000000) / 0x10000000 = 0 := by unfold groupDpa; omega
  have hoff : (groupDpa g - 0x040000000000) % 0x10000000 = 64 * g := by unfold groupDpa; omega
  simp only [windowTarget, hslot, hoff]
  rw [if_pos trivial, if_pos (by omega), show 64 * g / 64 = g by omega]

theorem windowTarget_counters {l : Nat} (hl : l < 64) : windowTarget (0x040030000000 + 64 * l) = .counters l := by
  have hslot : (0x040030000000 + 64 * l - 0x040000000000) / 0x10000000 = 3 := by omega
  have hoff : (0x040030000000 + 64 * l - 0x040000000000) % 0x10000000 = 64 * l := by omega
  simp only [windowTarget, hslot, hoff]
  rw [if_neg (by decide), if_neg (by decide), if_neg (by decide), if_pos trivial, if_pos (by omega), show 64 * l / 64 = l by omega]

theorem windowTarget_portPageDpa (p : Port) {offset : Nat} (ho : offset < 0x10000) : windowTarget (portPageDpa p offset) = .portPage p offset := by
  cases p with
  | a =>
    have hoff : portPageDpa .a offset - 0x040000000000 = 0x20000000 + offset := by simp only [portPageDpa, Port.code]; omega
    simp only [windowTarget, hoff, show (0x20000000 + offset) / 0x10000000 = 2 by omega, show (0x20000000 + offset) % 0x10000000 = offset by omega]
    rw [if_neg (by decide), if_neg (by decide), if_pos trivial, if_pos ho]
  | b =>
    have hoff : portPageDpa .b offset - 0x040000000000 = 0x20010000 + offset := by simp only [portPageDpa, Port.code]; omega
    simp only [windowTarget, hoff, show (0x20010000 + offset) / 0x10000000 = 2 by omega,
      show (0x20010000 + offset) % 0x10000000 = 0x10000 + offset by omega]
    rw [if_neg (by decide), if_neg (by decide), if_pos trivial, if_neg (show ¬0x10000 + offset < 0x10000 by omega),
      if_pos (show 0x10000 + offset < 0x20000 by omega), Nat.add_sub_cancel_left]

/-- The counters of a line that 0xB001.01 does not permit read zero (R64). -/
theorem userCounterLine_of_denied {s : State} {l : Nat} (h : (s.get 0xB00101).testBit (l / 8) = false) : s.userCounterLine l = 0 := by
  have hword (w : Nat) (hw : w ∈ List.range 8) : s.userCounter (8 * l + w) = 0 := by
    have hbit : (8 * l + w) / 64 = l / 8 := by have := List.mem_range.mp hw; omega
    simp only [State.userCounter, hbit, h, Bool.false_eq_true, if_false]
  rw [State.userCounterLine, List.map_congr_left hword]
  simp [lineOfWords, List.range_succ]

/-- What a read of the barrier word clears, whether it is answered or waits (R60, R94). -/
theorem readBarrier_clears (p : Port) (tag line acceptedAt : Nat) (sampled : Bool) (s : State) :
    let t := readBarrier p tag line acceptedAt sampled s
    (t.port p).dropped = 0 ∧ (t.port p).droppedHalted = false ∧ (t.port p).droppedAborted = false ∧ (t.port p).droppedOffline = false ∧
      Counted (0x302003 + p.code) 1 s t := by
  have hport : (clearBarrier p s).port p = { s.port p with
      dropped := 0, droppedHalted := false, droppedAborted := false, droppedOffline := false } :=
    (port_keeps (fr_bump (μ := kf_bump) rfl _ (keeps_refl _ _)) rfl rfl p).trans (port_modPort_self s p _)
  have hcount : (clearBarrier p s).get (0x302003 + p.code) = countAfter (0x302003 + p.code) (s.get (0x302003 + p.code)) 1 :=
    (get_bump_self _ _).trans (by rw [get_modPort])
  simp only [Counted]
  by_cases howed : s.owedCmps p = []
  · rw [readBarrier_owed_none howed]
    have hpage := sp_answerBarrier p (barrierRead p tag line acceptedAt sampled s) (sp_refl (p := p) (clearBarrier p s))
    rw [SamePage, hport] at hpage
    simp only [PortState.page, Prod.mk.injEq] at hpage
    obtain ⟨hdropped, hhalted, haborted, hoffline, -⟩ := hpage
    exact ⟨hdropped, hhalted, haborted, hoffline, kp_answerBarrier (by cases p <;> exact ⟨rfl, .inl (by decide)⟩) p _ hcount⟩
  · rw [readBarrier_owed_some howed]
    simp only [port_modPort_self, get_modPort, hport, hcount, and_self]

/-- The answer of a read of the barrier word leaves at once where the port is owed no Cmp, and else waits for those it is owed (R94). -/
theorem readBarrier_answers {p : Port} {s : State} (hs : (s.port p).silent = false) (tag line acceptedAt : Nat) (sampled : Bool) :
    let t := readBarrier p tag line acceptedAt sampled s
    (s.owedCmps p = [] → ∃ e, Out.readData p tag (lineOfWords [s.barrierWord p]) false e ∈ t.out) ∧
      (s.owedCmps p ≠ [] → ∃ b ∈ (t.port p).barriers, b.tag = tag ∧ b.word = s.barrierWord p ∧ b.owed = s.owedCmps p) := by
  refine ⟨fun h => ?_, fun h => ?_⟩
  · simp only [readBarrier_owed_none h]
    exact answerBarrier_sends (not_silent_clearBarrier hs) (barrierRead p tag line acceptedAt sampled s)
  · simp only [readBarrier_owed_some h, port_modPort_self]
    exact ⟨_, List.mem_append_right _ (List.mem_singleton_self _), rfl, rfl, rfl⟩

section AtItsPort

variable {s : State} {p : Port}

theorem groupControlRead_answers (hopen : s.memOpen p = true) (hrests : PortRests s p) (tag : Nat) (g : Fin 262144)
    (hg : (s.group g.val).waitsFor p s.nextSeq = false) :
    Completes (.groupControlRead p tag g) s fun t => ∃ e, Out.readData p tag (groupLine (s.group g.val)) false e ∈ t.out := by
  have hgroup : (countedAccess p 0x02 s).group g.val = s.group g.val := by
    unfold State.group
    rw [(keeps_countedAccess p 0x02 s).groups rfl]
  refine completes_windowRead hopen hrests rfl ?_
  rw [windowTarget_groupDpa g.isLt, readTarget, readGroup, hgroup]
  simp only [portWait, hg, Bool.false_eq_true, if_false]
  exact answerWindow_sends (not_silent_countedAccess hopen _) _ _ _ _

theorem resultRead_answers (hopen : s.memOpen p = true) (hrests : PortRests s p) (hmode : s.mode ≠ modeService) (tag : Nat) (c : Fin 16384) :
    Completes (.resultRead p tag c) s fun t => ∃ e, Out.readData p tag (s.resultLine p c.val).toLine false e ∈ t.out := by
  have hcounted : (countedAccess p 0x02 s).mode = s.mode := kp_countedAccess ⟨rfl, .inl (by decide)⟩ p _ rfl
  have hline := resultLine_keeps (keeps_countedAccess p 0x02 s) rfl rfl rfl p c.val
  refine completes_windowRead hopen hrests rfl ?_
  rw [windowTarget_cellDpa (by decide) c.isLt, readTarget, readCell, if_neg (by decide), if_neg (hcounted.trans_ne hmode), if_pos rfl, hline]
  exact answerWindow_sends (not_silent_countedAccess hopen _) _ _ _ _

theorem userCounterWindowRead_answers (hopen : s.memOpen p = true) (hrests : PortRests s p) (tag : Nat) (l : Fin 64) :
    Completes (.userCounterWindowRead p tag l) s fun t =>
      ∃ d e, Out.readData p tag d false e ∈ t.out ∧ ((s.get 0xB00101).testBit (l.val / 8) = false → d = 0) := by
  have hpermit : (countedAccess p 0x02 s).get 0xB00101 = s.get 0xB00101 := kp_countedAccess ⟨rfl, .inl (by decide)⟩ p _ rfl
  refine completes_windowRead hopen hrests rfl ?_
  rw [windowTarget_counters l.isLt]
  obtain ⟨e, he⟩ := answerWindow_sends (not_silent_countedAccess hopen 0x02) tag ((0x040030000000 + 64 * l.val) / 64) (s.samplesNow p 4)
    ((countedAccess p 0x02 s).userCounterLine l.val)
  exact ⟨_, e, he, fun h => userCounterLine_of_denied (hpermit ▸ h)⟩

theorem barrierWordRead_answers (hopen : s.memOpen p = true) (hrests : PortRests s p) (tag : Nat) :
    Completes (.barrierWordRead p tag) s fun t =>
      (s.owedCmps p = [] → ∃ e, Out.readData p tag (lineOfWords [s.barrierWord p]) false e ∈ t.out) ∧
        (s.owedCmps p ≠ [] → ∃ b ∈ (t.port p).barriers, b.tag = tag ∧ b.word = s.barrierWord p ∧ b.owed = s.owedCmps p) ∧
        (t.port p).dropped = 0 ∧ (t.port p).droppedHalted = false ∧ (t.port p).droppedAborted = false ∧
        (t.port p).droppedOffline = false ∧ Counted (0x302003 + p.code) 1 s t := by
  have hget : (countedAccess p 0x02 s).get (0x302003 + p.code) = s.get (0x302003 + p.code) :=
    kp_countedAccess (by cases p <;> exact ⟨rfl, .inl (by decide)⟩) p _ rfl
  have hread : readTarget p (portWait p tag (portPageDpa p 0x0000) .read s) (countedAccess p 0x02 s) (.portPage p 0x0000) =
      readBarrier p tag (portPageDpa p 0x0000 / 64) s.clock (s.samplesNow p 4) (countedAccess p 0x02 s) := by
    simp only [readTarget, readPortPage, bne_self_eq_false, Bool.false_eq_true, if_false, if_true]
    rfl
  refine completes_windowRead hopen hrests rfl ?_
  rw [windowTarget_portPageDpa p (by decide), hread]
  have hanswers := readBarrier_answers (not_silent_countedAccess hopen 0x02) tag (portPageDpa p 0x0000 / 64) s.clock (s.samplesNow p 4)
  have hclears := readBarrier_clears p tag (portPageDpa p 0x0000 / 64) s.clock (s.samplesNow p 4) (countedAccess p 0x02 s)
  rw [owedCmps_countedAccess, barrierWord_countedAccess] at hanswers
  simp only [Counted, hget] at hclears
  exact ⟨hanswers.1, hanswers.2, hclears⟩

end AtItsPort

theorem exec_windowAccess {dpa : Nat} (h : inWindows dpa = true) (p : Port) (tag : Nat) (s : State) :
    exec (.windowAccess p tag dpa .read) s = .next (windowRead p tag (dpa / 64 * 64) s) ∧ ∀ be d poison,
      exec (.windowAccess p tag dpa (.write be d poison)) s = .next (windowWrite p tag (dpa / 64 * 64) be d poison s) :=
  ⟨if_pos h, fun _ _ _ => if_pos h⟩

/-- Settles O21: at a port that rests an access takes effect on the state that counted it, which has the groups, result lines, counters' permission
and barrier word of the state before (log 147: what such a read answers is the model's choice). -/
theorem windowAccessesAndReadsAreAnswered : Obligations.WindowAccessesAndReadsAreAnswered := by
  refine ⟨fun s p tag dpa hwindow hopen hrests => ⟨fun hgroup howed => ?_, fun hwrite be d poison => ?_⟩,
    fun s p tag hopen hrests => ⟨groupControlRead_answers hopen hrests tag, fun c hmode => resultRead_answers hopen hrests hmode tag c,
      userCounterWindowRead_answers hopen hrests tag, barrierWordRead_answers hopen hrests tag⟩⟩
  · exact completes_windowRead hopen hrests (exec_windowAccess hwindow p tag s).1 (readTarget_answered (not_silent_countedAccess hopen _)
      ((owedCmps_countedAccess p p _ s).trans howed) (portWait p tag (dpa / 64 * 64) .read s) _ hgroup)
  · exact ⟨_, (exec_windowAccess hwindow p tag s).2 be d poison, windowWrite_sends hwrite hrests tag _ be d poison⟩

end Sys2Proof.Machine
end

section
/-! SUPPORT. Discards: the write that starts one, its instant, and the unmapper (R61, R62, R128, R167, R168). -/

namespace Sys2Proof.Machine

/-! ### The words of a discard command -/

/-- The words of a line that is built from three. -/
theorem lineWord_lineOfWords_three (x y z : Word) :
    lineWord 0 (lineOfWords [x, y, z]) = x ∧ lineWord 1 (lineOfWords [x, y, z]) = y ∧ lineWord 2 (lineOfWords [x, y, z]) = z := by
  refine ⟨?_, ?_, ?_⟩ <;>
  · apply BitVec.eq_of_getLsbD_eq
    intro i hi
    have h64 : 64 + i < 512 := by omega
    have h128 : 128 + i < 512 := by omega
    have hx' : x.getLsbD (128 + i) = false := BitVec.getLsbD_of_ge _ _ (by omega)
    have hy : y.getLsbD (128 + i - 64) = false := BitVec.getLsbD_of_ge _ _ (by omega)
    have hi' : i < 512 := by omega
    have hi'' : i < 128 := by omega
    simp [lineWord, lineOfWords, hi, hi', hi'', h64, h128, hx', hy, show 64 + i < 128 by omega]

/-- The byte enables of words 0 to 2. -/
theorem wordComplete_discardWords : wordComplete 0 (enablesOf [0, 1, 2]) = true ∧ wordComplete 1 (enablesOf [0, 1, 2]) = true ∧
    wordComplete 2 (enablesOf [0, 1, 2]) = true := by decide

/-- A discard command writes its start, its length and bit 0 of word 2 (R61). -/
theorem writtenWord_discard (a n : Word) :
    writtenWord 0 (enablesOf [0, 1, 2]) (lineOfWords [a, n, 1]) = some a ∧
      writtenWord 1 (enablesOf [0, 1, 2]) (lineOfWords [a, n, 1]) = some n ∧
      writtenWord 2 (enablesOf [0, 1, 2]) (lineOfWords [a, n, 1]) = some 1 := by
  obtain ⟨h0, h1, h2⟩ := wordComplete_discardWords
  obtain ⟨w0, w1, w2⟩ := lineWord_lineOfWords_three a n 1
  simp only [writtenWord, h0, h1, h2, if_true, w0, w1, w2, and_self]

/-! ### What the acceptance of a discard depends on -/

theorem regionRegs_modPort (p : Port) (f : PortState → PortState) (s : State) : regionRegs (s.modPort p f) = regionRegs s :=
  regionRegs_congr (dict_modPort s p f)

theorem regionRegs_countedWrite (p : Port) (be : ByteEnables) (s : State) : regionRegs (countedWrite p be s) = regionRegs s := by
  have hcredit (t : State) : regionRegs (useCredit p t) = regionRegs t := by
    unfold useCredit grantCredits
    split <;> simp only [regionRegs_modPort]
  have heligible (t : State) : regionRegs (countEligible p 4 t) = regionRegs t := by
    have hbump : regionRegs (drawn (t.bump 0xB03005)) = regionRegs t := (regionRegs_congr (dict_drawn _)).trans (regionRegs_bump (by omega))
    unfold countEligible
    rw [regionRegs_ite, hbump, ite_self]
  have hseq (t : State) : regionRegs (takeSeq t) = regionRegs t := regionRegs_congr rfl
  have hwrite (t : State) : regionRegs (countWrite p t) = regionRegs t := (regionRegs_count _ _ _ _).trans (regionRegs_modPort p _ t)
  simp only [countedWrite, countedAccess, countWindow, count1, hseq, heligible, regionRegs_count, hcredit, hwrite]

theorem regionRegs_strayIf (c : Bool) (p : Port) (s : State) : regionRegs (strayIf c p s) = regionRegs s := by
  have hbump : regionRegs (s.bump (p.key 0x08)) = regionRegs s := regionRegs_bump (by cases p <;> decide)
  unfold strayIf stray
  rw [regionRegs_ite, regionRegs_raise, hbump, ite_self]

theorem lowestOffline_of_regs {s t : State} (h : regionRegs t = regionRegs s) (first n : Nat) : t.lowestOffline first n = s.lowestOffline first n := by
  have hkey (sub : Nat) (hsub : sub < 256) (i : Nat) := get_regionKey_of_regs h hsub i
  simp only [State.lowestOffline, State.offlineRanges, State.regionOffline, enabledRegions_of_regs h, hkey 0x02 (by decide),
    hkey 0x03 (by decide), hkey 0x0C (by decide)]
  rfl

/-- Whether a discard is refused follows the region table and the groups (R61, R128). -/
theorem discardReason_of_regs {s t : State} (h : regionRegs t = regionRegs s) (hg : t.groups = s.groups) (start length : Nat) :
    t.discardReason start length = s.discardReason start length := by
  simp only [State.discardReason, lowestOffline_of_regs h, hg]

theorem bindRuns_of_groups {s t : State} (hg : t.groups = s.groups) (first n : Nat) : t.bindRuns first n = s.bindRuns first n := by
  unfold State.bindRuns
  rw [hg]

/-! ### The write of a discard command -/

/-- A discard that starts while one runs sets the overrun bit alone (R62). -/
theorem startDiscard_overruns {p : Port} {s : State} (h : (s.port p).discard.status = 1) :
    ((startDiscard p s).port p).discard = { (s.port p).discard with overrun := true } := by
  unfold startDiscard
  simp only [h, if_true, port_modPort_self]

/-- A discard that nothing refuses and that no BIND holds back runs over the pages of its start and length (R61, R128). -/
theorem startDiscard_runs {p : Port} {s : State} (h : (s.port p).discard.status ≠ 1)
    (hreason : s.discardReason (s.port p).discard.start.toNat (s.port p).discard.length.toNat = 0)
    (hbind : s.bindRuns ((s.port p).discard.start.toNat / 4096) ((s.port p).discard.length.toNat / 4096) = false) :
    ((startDiscard p s).port p).discard = { (s.port p).discard with
      status := 1, reason := 0, overrun := false, firstPage := (s.port p).discard.start.toNat / 4096,
      pages := (s.port p).discard.length.toNat / 4096, waits := false } := by
  unfold startDiscard
  simp only [h, if_false, port_modPort_self, hreason, hbind]
  rfl

/-- The state whose discard line has the start and the length of a discard command, before its bit 0 acts. -/
def namedDiscard (p : Port) (a n : Word) (s : State) : State :=
  s.modPort p fun q => { q with discard := { q.discard with start := a &&& 0x3FFFFFFFFFF, length := n &&& 0x7FFFFFFFFFF } }

theorem writeDiscard_command (p : Port) (a n : Word) (s : State) :
    writeDiscard p (enablesOf [0, 1, 2]) (lineOfWords [a, n, 1]) s = startDiscard p (namedDiscard p a n s) := by
  obtain ⟨h0, h1, h2⟩ := writtenWord_discard a n
  unfold writeDiscard
  simp only [h0, h1, h2]
  rfl

/-- The state in which a discard command acts: the write is counted, and its start and length stand in the discard line. -/
def acceptedDiscard (p : Port) (a n : Word) (s : State) : State :=
  let be := enablesOf [0, 1, 2]
  namedDiscard p a n (strayIf (anyPartial be || anyEnabled [3, 4, 5, 6, 7] be) p (countedWrite p be s))

theorem discard_acceptedDiscard (p : Port) (a n : Word) (s : State) : ((acceptedDiscard p a n s).port p).discard =
    { (s.port p).discard with start := a &&& 0x3FFFFFFFFFF, length := n &&& 0x7FFFFFFFFFF } := by
  let counted := strayIf (anyPartial (enablesOf [0, 1, 2]) || anyEnabled [3, 4, 5, 6, 7] (enablesOf [0, 1, 2])) p
    (countedWrite p (enablesOf [0, 1, 2]) s)
  have hpage : SamePage p s counted := sp_strayIf _ p (sp_countedWrite p _ (sp_refl s))
  have hdiscard : (counted.port p).discard = (s.port p).discard := congrArg (fun v => v.2.2.2.2.2) hpage
  show ((namedDiscard p a n counted).port p).discard = _
  rw [namedDiscard, port_modPort_self, hdiscard]

theorem regionRegs_acceptedDiscard (p : Port) (a n : Word) (s : State) : regionRegs (acceptedDiscard p a n s) = regionRegs s :=
  (regionRegs_modPort p _ _).trans ((regionRegs_strayIf _ p _).trans (regionRegs_countedWrite p _ s))

theorem groups_acceptedDiscard (p : Port) (a n : Word) (s : State) : (acceptedDiscard p a n s).groups = s.groups := by
  have h : Keeps accessMask s (acceptedDiscard p a n s) := by
    unfold acceptedDiscard namedDiscard
    exact fr_modPort rfl p _ (fr_strayIf rfl _ p (keeps_countedWrite p _ s))
  exact h.groups rfl

theorem on_acceptedDiscard (p : Port) (a n : Word) (s : State) : Onward p s (acceptedDiscard p a n s) := by
  unfold acceptedDiscard namedDiscard
  exact on_modPort p _ (by intro _; rfl) (on_strayIf _ _ (on_countedWrite _ _ (on_refl s)))

/-- A Cmp leaves the discard line. -/
theorem discard_sendCmp (p q : Port) (tag : Nat) (s : State) : ((sendCmp q tag s).port p).discard = (s.port p).discard := by
  have hbarriers (t : State) (l : List BarrierRead) :
      ((t.modPort q fun v => { v with barriers := l }).port p).discard = (t.port p).discard := by
    cases p <;> cases q <;> rfl
  have hrelease (t : State) : ((releaseBarriers q tag t).port p).discard = (t.port p).discard := by
    have hfold (l : List BarrierRead) (u : State) : SamePage p u (l.foldl (fun t b => answerBarrier q b t) u) := by
      induction l generalizing u with
      | nil => exact sp_refl u
      | cons b l ih => exact (ih _).trans (sp_answerBarrier q b (sp_refl u))
    exact (congrArg (fun v => v.2.2.2.2.2) (hfold _ _)).trans (hbarriers t _)
  unfold sendCmp
  split
  · rfl
  · rw [hrelease, port_emit]

theorem discard_endWrite (p : Port) (tag line : Nat) (sampled : Bool) (s : State) :
    ((endWrite p tag line sampled s).port p).discard = (s.port p).discard :=
  (discard_sendCmp p p tag _).trans (congrArg (fun v => v.2.2.2.2.2) (sp_sampleWindow p 5 line sampled (sp_refl s)))

/-- A discard command completes by the start of a discard. -/
theorem completes_discard {s : State} {p : Port} (hopen : s.writeOpen p = true) (hrests : PortRests s p) (tag : Nat) (a n : Word)
    {P : State → Prop} (hP : ∀ line sampled, P (endWrite p tag line sampled (startDiscard p (acceptedDiscard p a n s)))) :
    Completes (.discard p tag (some a) (some n)) s P := by
  refine completes_windowWrite (be := enablesOf [0, 1, 2]) (d := lineOfWords [a, n, 1]) hopen hrests rfl fun seq sampled => ?_
  rw [windowTarget_portPageDpa p (by decide), writeTarget, writePortPage, if_pos (by simp), writeDiscard_command]
  exact hP _ sampled

theorem discard_starts {s : State} {p : Port} (hopen : s.writeOpen p = true) (hrests : PortRests s p) (tag : Nat) (a n : Word)
    (hstatus : (s.port p).discard.status ≠ 1)
    (hreason : s.discardReason (a &&& 0x3FFFFFFFFFF).toNat (n &&& 0x7FFFFFFFFFF).toNat = 0)
    (hbind : s.bindRuns ((a &&& 0x3FFFFFFFFFF).toNat / 4096) ((n &&& 0x7FFFFFFFFFF).toNat / 4096) = false) :
    Completes (.discard p tag (some a) (some n)) s fun t =>
      (t.port p).discard.status = 1 ∧ (t.port p).discard.firstPage = (a &&& 0x3FFFFFFFFFF).toNat / 4096 ∧
        (t.port p).discard.pages = (n &&& 0x7FFFFFFFFFF).toNat / 4096 ∧ (t.port p).discard.overrun = false ∧ ∃ e, Out.cmp p tag e ∈ t.out := by
  have hline := discard_acceptedDiscard p a n s
  have hruns : ((startDiscard p (acceptedDiscard p a n s)).port p).discard = _ := startDiscard_runs (by rw [hline]; exact hstatus)
    (by rw [hline, discardReason_of_regs (regionRegs_acceptedDiscard p a n s) (groups_acceptedDiscard p a n s)]; exact hreason)
    (by rw [hline, bindRuns_of_groups (groups_acceptedDiscard p a n s)]; exact hbind)
  refine completes_discard hopen hrests tag a n fun line sampled => ?_
  rw [discard_endWrite, hruns, hline]
  exact ⟨rfl, rfl, rfl, rfl, endWrite_sends hopen (on_startDiscard p (on_acceptedDiscard p a n s)) _ _ _⟩

theorem discard_overruns {s : State} {p : Port} (hopen : s.writeOpen p = true) (hrests : PortRests s p) (tag : Nat) (a n : Word)
    (hstatus : (s.port p).discard.status = 1) :
    Completes (.discard p tag (some a) (some n)) s fun t =>
      (t.port p).discard.status = 1 ∧ (t.port p).discard.overrun = true ∧
        (t.port p).discard.firstPage = (s.port p).discard.firstPage ∧ (t.port p).discard.pages = (s.port p).discard.pages := by
  have hline := discard_acceptedDiscard p a n s
  have hover : ((startDiscard p (acceptedDiscard p a n s)).port p).discard = _ := startDiscard_overruns (by rw [hline]; exact hstatus)
  refine completes_discard hopen hrests tag a n fun line sampled => ?_
  rw [discard_endWrite, hover, hline]
  exact ⟨hstatus, rfl, rfl, rfl⟩

/-! ### The discard instant -/

/-- A page range is discarded: its entry is pending, and none of its lines stays in the staging array (R167). -/
theorem discardRange_discards (p : Port) (entry first n : Nat) (s : State) :
    let t := discardRange p entry first n s
    (∃ d, tfind entry t.xlat.pendingDiscards = some d ∧ d.firstPage = first ∧ d.pages = n) ∧
      ∀ l ∈ t.staging, pageOfLine l.line < first ∨ first + n ≤ pageOfLine l.line := by
  have hend (l : List (Port × Nat)) (u : State) : Keeps 0x380000E64 u (sendCmps l (rearmStall (dropCachedRange (first * 64) (n * 64) u))) :=
    fr_sendCmps rfl _ (fr_rearmStall rfl (fr_dropCachedRange rfl _ _ (keeps_refl _ u)))
  unfold discardRange
  refine ⟨?_, fun l hl => ?_⟩
  · rw [(hend _ _).xlat rfl]
    exact ⟨_, tfind_tput_self _ _ _, rfl, rfl⟩
  · rw [(hend _ _).staging rfl] at hl
    have hout := (List.mem_filter.mp hl).2
    simp only [Bool.not_eq_true', Bool.and_eq_false_iff, decide_eq_false_iff_not] at hout
    omega

/-- A discard takes its instant (R61, R62, R167). -/
theorem discardInstant_runs {s : State} {p : Port} {e : Nat} (hrun : s.groupsRun = true) (hready : s.discardReady p = true)
    (hfree : s.freeDiscardEntry = some e) : Completes (.discardInstant p) s fun t =>
      (t.port p).discard.status = 2 ∧
        (∃ d, tfind e t.xlat.pendingDiscards = some d ∧ d.firstPage = (s.port p).discard.firstPage ∧ d.pages = (s.port p).discard.pages) ∧
        ∀ l ∈ t.staging, pageOfLine l.line < (s.port p).discard.firstPage ∨
          (s.port p).discard.firstPage + (s.port p).discard.pages ≤ pageOfLine l.line := by
  have hexec : exec (.discardInstant p) s = .next (finishDiscard p e s) := by
    show execDiscardInstant p s = _
    unfold execDiscardInstant
    simp only [hrun, hready, hfree, Bool.and_self, if_true]
  obtain ⟨hentry, hstaging⟩ := discardRange_discards p e (s.port p).discard.firstPage (s.port p).discard.pages s
  refine ⟨_, hexec, ?_⟩
  unfold finishDiscard
  refine ⟨by rw [port_modPort_self], ?_, ?_⟩
  · rw [xlat_modPort]
    exact hentry
  · rw [staging_modPort]
    exact hstaging

/-- The unmapper ends a pending discard (R168). -/
theorem unmap_ends {s : State} {e : Nat} {d : PendingDiscard} (h : tfind e s.xlat.pendingDiscards = some d) :
    let t := unmap e s
    t.xlat.pendingDiscards = tdel e s.xlat.pendingDiscards ∧ t.xlat.mainMap = tdelRange d.firstPage d.pages s.xlat.mainMap ∧
      ∀ x, x ∈ t.xlat.delta ↔ x ∈ s.xlat.delta ∧
        ¬(d.firstPage ≤ pageOfLine x.line ∧ pageOfLine x.line < d.firstPage + d.pages ∧ x.place / 45 < d.mark) := by
  unfold unmap
  rw [h]
  refine ⟨rfl, rfl, fun x => ?_⟩
  simp only [List.mem_filter, Bool.not_eq_true', Bool.and_eq_false_iff, decide_eq_false_iff_not]
  refine and_congr_right fun _ => ?_
  omega

/-- Settles O26: a discard command names its range and starts (`acceptedDiscard`, `startDiscard`); its instant is `discardRange`, and its end
`unmap`. -/
theorem discardsRun : Obligations.DiscardsRun :=
  ⟨fun _ _ tag a n hopen hrests => ⟨discard_starts hopen hrests tag a n, discard_overruns hopen hrests tag a n⟩,
    fun _ _ _ => discardInstant_runs, fun _ _ _ hpath hentry => ⟨_, if_pos hpath, unmap_ends hentry⟩⟩

end Sys2Proof.Machine
end

section
/-! SUPPORT. The phases of a global persistent flush: which of them a port reports, and which wait (R69). -/

namespace Sys2Proof.Machine

/-! ### The report of a phase -/

/-- A port reports a flush phase; phase 2 raises source k = 11. -/
def reportFlush (p : Port) (s : State) (f : Nat × Nat) : State := raiseIf (f.1 == 2) (portSource p 11) (emit (.flushDone p f.1) s)

theorem ev_reportFlush (p : Port) (f : Nat × Nat) {r s : State} (hs : Evolves r s) : Evolves r (reportFlush p s f) :=
  ev_raiseIf _ _ (ev_emit _ hs)

theorem flushDone_mem_reportFlush (p : Port) (s : State) (f : Nat × Nat) : Out.flushDone p f.1 ∈ (reportFlush p s f).out :=
  out_of_evolves (ev_raiseIf _ _ (ev_refl _)) (by simp only [out_emit, List.mem_append, List.mem_singleton, or_true])

theorem mode_reportFlush (p : Port) (s : State) (f : Nat × Nat) : (reportFlush p s f).mode = s.mode :=
  (get_raiseIf (by decide)).trans (get_emit _ _ _)

theorem flushes_reportFlush (p : Port) (s : State) (f : Nat × Nat) : ((reportFlush p s f).port p).flushes = (s.port p).flushes := by
  rw [reportFlush, port_flushes_raiseIf, port_emit]

theorem latch_reportFlush {p : Port} {s : State} (h : s.get (sourceKey (portSource p 11) 0x01) = 1) (f : Nat × Nat) :
    (reportFlush p s f).get (sourceKey (portSource p 11) 0x01) = 1 := latch_raiseIf ((get_emit _ _ _).trans h)

theorem reportFlush_raises {p : Port} {s : State} (h : s.canOccur (portSource p 11) = true) (f : Nat × Nat) (hf : f.1 = 2) :
    (reportFlush p s f).get (sourceKey (portSource p 11) 0x01) = 1 := by
  have hcan : (emit (.flushDone p f.1) s).canOccur (portSource p 11) = true := (canOccur_of_mode (get_emit _ _ _) _).trans h
  simp only [reportFlush, raiseIf, hf, beq_self_eq_true, if_true] at hcan ⊢
  exact latch_self hcan

theorem latch_reportFlushes {p : Port} {s : State} (h : s.get (sourceKey (portSource p 11) 0x01) = 1) (l : List (Nat × Nat)) :
    (l.foldl (reportFlush p) s).get (sourceKey (portSource p 11) 0x01) = 1 := by
  induction l generalizing s with
  | nil => exact h
  | cons f l ih => exact ih (latch_reportFlush h f)

theorem flushes_reportFlushes (p : Port) (s : State) (l : List (Nat × Nat)) :
    ((l.foldl (reportFlush p) s).port p).flushes = (s.port p).flushes := by
  induction l generalizing s with
  | nil => rfl
  | cons f l ih => exact (ih _).trans (flushes_reportFlush p s f)

/-- Every phase of the list is reported. -/
theorem reportFlushes_report {p : Port} {l : List (Nat × Nat)} {f : Nat × Nat} (hf : f ∈ l) (s : State) :
    Out.flushDone p f.1 ∈ (l.foldl (reportFlush p) s).out ∧ (f.1 = 2 → Raised (portSource p 11) s (l.foldl (reportFlush p) s)) := by
  induction l generalizing s with
  | nil => exact absurd hf List.not_mem_nil
  | cons g l ih =>
    rw [List.foldl_cons]
    rcases List.mem_cons.mp hf with rfl | hmem
    · exact ⟨out_of_evolves (ev_foldl (fun _ _ ht => ev_reportFlush p _ ht) l (ev_refl _)) (flushDone_mem_reportFlush p s f),
        fun h2 hcan => latch_reportFlushes (reportFlush_raises hcan f h2) l⟩
    · obtain ⟨hout, hraised⟩ := ih hmem (reportFlush p s g)
      exact ⟨hout, fun h2 hcan => hraised h2 ((canOccur_of_mode (mode_reportFlush p s g) _).trans hcan)⟩

/-! ### The phases of a port -/

/-- A port reports the phases that are complete, and keeps the others. -/
theorem serveFlushes_eq (p : Port) (s : State) : serveFlushes p s = ((s.port p).flushes.filter (s.flushOver p)).foldl (reportFlush p)
    (s.modPort p fun q => { q with flushes := q.flushes.filter fun f => !s.flushOver p f }) := rfl

theorem serveFlushes_reports {p : Port} {s : State} {f : Nat × Nat} (hf : f ∈ (s.port p).flushes) (ho : s.flushOver p f = true) :
    Out.flushDone p f.1 ∈ (serveFlushes p s).out ∧ (f.1 = 2 → Raised (portSource p 11) s (serveFlushes p s)) := by
  obtain ⟨hout, hraised⟩ := reportFlushes_report (p := p) (List.mem_filter.mpr ⟨hf, ho⟩)
    (s.modPort p fun q => { q with flushes := q.flushes.filter fun f => !s.flushOver p f })
  rw [serveFlushes_eq]
  exact ⟨hout, fun h2 hcan => hraised h2 ((canOccur_of_mode (get_modPort s p _ _) _).trans hcan)⟩

theorem serveFlushes_waits {p : Port} {s : State} {f : Nat × Nat} (hf : f ∈ (s.port p).flushes) (ho : s.flushOver p f = false) :
    f ∈ ((serveFlushes p s).port p).flushes := by
  rw [serveFlushes_eq, flushes_reportFlushes, port_modPort_self]
  exact List.mem_filter.mpr ⟨hf, by rw [ho]; rfl⟩

/-! ### A flush -/

/-- A port whose queue has drained as far as it can, with a phase that it has to report. -/
def noteFlush (p : Port) (phase : Nat) (s : State) : State :=
  (flushQueue p s).modPort p fun q => { q with flushes := q.flushes ++ [(phase, s.nextSeq)] }

theorem mem_flushes_noteFlush (p : Port) (phase : Nat) (s : State) : (phase, s.nextSeq) ∈ ((noteFlush p phase s).port p).flushes := by
  rw [noteFlush, port_modPort_self]
  exact List.mem_append_right _ (List.mem_singleton_self _)

theorem queue_noteFlush (p : Port) (phase : Nat) (s : State) : ((noteFlush p phase s).port p).queue = ((flushQueue p s).port p).queue := by
  rw [noteFlush, port_modPort_self]

/-- A phase is over once the queue holds no store accepted before that it asks for. -/
theorem flushOver_iff (p : Port) (phase : Nat) (s : State) : (noteFlush p phase s).flushOver p (phase, s.nextSeq) = true ↔
    ∀ x ∈ ((flushQueue p s).port p).queue, x.seq < s.nextSeq → phase ≠ 1 ∧ (x.prot = false ∨ x.whole = false) := by
  rw [State.flushOver, queue_noteFlush]
  simp only [Bool.not_eq_true', List.any_eq_false, Bool.and_eq_true, decide_eq_true_eq, Bool.or_eq_true, beq_iff_eq, not_and, not_or,
    Bool.not_eq_true]
  refine forall₂_congr fun x _ => imp_congr_right fun _ => and_congr_right fun _ => ?_
  cases x.prot <;> cases x.whole <;> decide

theorem exec_globalPersistentFlush {s : State} {p : Port} (h : s.flushOpen p = true) :
    exec (.globalPersistentFlushPhase1 p) s = .next (serveFlushes p (noteFlush p 1 s)) ∧
      exec (.globalPersistentFlushPhase2 p) s = .next (serveFlushes p (noteFlush p 2 s)) := ⟨if_pos h, if_pos h⟩

/-- Settles O27: `flushOver_iff` says when a phase is over; then `serveFlushes` reports it, and else it waits. -/
theorem flushesComplete : Obligations.FlushesComplete := by
  intro s p hopen
  obtain ⟨hone, htwo⟩ := exec_globalPersistentFlush hopen
  refine ⟨fun hempty => ⟨_, hone, ?_⟩, fun hstores => ⟨_, htwo, ?_⟩, fun ⟨x, hx, hseq⟩ => ⟨_, hone, ?_⟩⟩
  · have hover := (flushOver_iff p 1 s).mpr fun x hx => absurd (hempty ▸ hx) List.not_mem_nil
    exact (serveFlushes_reports (mem_flushes_noteFlush p 1 s) hover).1
  · have hover := (flushOver_iff p 2 s).mpr fun x hx _ => ⟨by decide, hstores x hx⟩
    obtain ⟨hout, hraised⟩ := serveFlushes_reports (mem_flushes_noteFlush p 2 s) hover
    exact ⟨hout, fun hcan => hraised rfl ((canOccur_of_mode (get_modPort _ p _ _) _).trans hcan)⟩
  · refine serveFlushes_waits (mem_flushes_noteFlush p 1 s) (Bool.eq_false_iff.mpr fun hover => ?_)
    exact ((flushOver_iff p 1 s).mp hover x hx hseq).1 rfl

end Sys2Proof.Machine
end

section
/-! SUPPORT. The renewal of key slots and the firmware commands of a mailbox (R74, R75, R334, R335, R411). What programs the journal, sends Cmp and
aborts groups leaves the region table and the wrapped keys, one lemma for each operation. -/

namespace Sys2Proof.Machine

/-! ### The region table and the wrapped keys -/

/-- What the renewal of a slot goes by: the region table, the wrapped keys, and how many keys have been generated. -/
def slotTables (s : State) : Tbl Nat × Tbl (List Byte) × Nat := (regionRegs s, s.integ.wrappedKeys, s.integ.keysGenerated)

/-- The region table and the wrapped keys of a state are `T`. -/
def HasSlots (T : Tbl Nat × Tbl (List Byte) × Nat) (s : State) : Prop := slotTables s = T

section HasSlots

variable {T : Tbl Nat × Tbl (List Byte) × Nat}

theorem hasSlots_self (s : State) : HasSlots (slotTables s) s := rfl

/-- What changes neither the entries nor the wrapped keys. -/
theorem HasSlots.same {s t : State} (hs : HasSlots T s) (hd : t.dict = s.dict) (hw : t.integ.wrappedKeys = s.integ.wrappedKeys)
    (hg : t.integ.keysGenerated = s.integ.keysGenerated) : HasSlots T t := by
  rw [HasSlots, slotTables, regionRegs_congr hd, hw, hg]
  exact hs

theorem HasSlots.regs {s t : State} (hs : HasSlots T s) (hr : regionRegs t = regionRegs s) (hi : t.integ = s.integ) : HasSlots T t := by
  rw [HasSlots, slotTables, hr, hi]
  exact hs

theorem hs_cond {c : Prop} [Decidable c] {a b : State} (ha : HasSlots T a) (hb : HasSlots T b) : HasSlots T (if c then a else b) := by
  split <;> assumption

theorem hs_foldl {α : Type} {f : State → α → State} (h : ∀ t a, HasSlots T t → HasSlots T (f t a)) (l : List α) {s : State}
    (hs : HasSlots T s) : HasSlots T (l.foldl f s) := by
  induction l generalizing s with
  | nil => exact hs
  | cons a l ih => exact ih (h _ _ hs)

/-! ### Entries and reports -/

theorem hs_put {k : Nat} (hk : k < 0x410000 ∨ 0x414000 ≤ k) (v : Nat) {s : State} (hs : HasSlots T s) : HasSlots T (s.put k v) :=
  hs.regs (regionRegs_put hk v) rfl

theorem hs_bump {k : Nat} (hk : k < 0x410000 ∨ 0x414000 ≤ k) {s : State} (hs : HasSlots T s) : HasSlots T (s.bump k) := hs_put hk _ hs

theorem hs_addTo {k : Nat} (hk : k < 0x410000 ∨ 0x414000 ≤ k) (n : Nat) {s : State} (hs : HasSlots T s) : HasSlots T (s.addTo k n) :=
  hs_put hk _ hs

theorem hs_raiseTo {k : Nat} (hk : k < 0x410000 ∨ 0x414000 ≤ k) (v : Nat) {s : State} (hs : HasSlots T s) : HasSlots T (s.raiseTo k v) :=
  hs_cond (hs_put hk _ hs) hs

theorem hs_raise (src : Nat) {s : State} (hs : HasSlots T s) : HasSlots T (raise src s) := hs.regs (regionRegs_raise _ _) (integ_raise _ _)

theorem hs_raiseTimes (n src : Nat) {s : State} (hs : HasSlots T s) : HasSlots T (raiseTimes n src s) := by
  induction n generalizing s with
  | zero => exact hs
  | succ n ih => exact ih (hs_raise src hs)

theorem hs_count (code q n : Nat) {s : State} (hs : HasSlots T s) : HasSlots T (count code q n s) :=
  hs.regs (regionRegs_count _ _ _ _) (integ_count _ _ _ _)

theorem hs_takeStamp {s : State} (hs : HasSlots T s) : HasSlots T (takeStamp s) := hs.regs (regionRegs_takeStamp _) (integ_takeStamp _)

theorem hs_modPort (p : Port) (f : PortState → PortState) {s : State} (hs : HasSlots T s) : HasSlots T (s.modPort p f) :=
  hs.regs (regionRegs_modPort p f s) (integ_modPort s p f)

/-! ### Programs of the journal -/

theorem hs_noteHealth {s : State} (hs : HasSlots T s) : HasSlots T (noteHealth s) := hs_cond hs (hs_raise _ (hs.same rfl rfl rfl))

theorem hs_appendRecord (k : JournalKind) {s : State} (hs : HasSlots T s) : HasSlots T (appendRecord k s) :=
  (hs_takeStamp hs).same rfl rfl rfl

theorem hs_wearOut (u : Nat) {s : State} (hs : HasSlots T s) : HasSlots T (wearOut u s) := by
  unfold wearOut
  exact hs_cond (hs_noteHealth (hs_raise _ (hs_bump (by unfold dieKey; omega) (hs_bump (by omega)
    (hs_appendRecord _ (hs.same rfl rfl rfl)))))) hs

theorem hs_sectorsProgrammed (u n page : Nat) {s : State} (hs : HasSlots T s) : HasSlots T (sectorsProgrammed u n page s) := by
  have hdisturbed : HasSlots T (disturb u n (count 0x21 (channelOfUnit u) n s)) := (hs_count 0x21 _ n hs).same rfl rfl rfl
  unfold sectorsProgrammed
  exact hs_cond hs (hs_wearOut u (hdisturbed.same rfl rfl rfl))

theorem hs_programsRun (kind : OpKind) (u n bytes : Nat) {s : State} (hs : HasSlots T s) : HasSlots T (programsRun kind u n bytes s) := by
  unfold programsRun
  exact hs_cond hs (hs_raiseTo (by unfold channelKey; omega) _ (hs_raiseTo (by omega) _
    (hs_count _ _ _ (hs_addTo (by unfold channelKey; omega) _ hs))))

theorem hs_stripeSectors (g : Ring) (stripe row n : Nat) {s : State} (hs : HasSlots T s) : HasSlots T (stripeSectors g stripe row n s) := by
  have hsector (u n page : Nat) {t : State} (ht : HasSlots T t) : HasSlots T (ringSectorsOn u n page t) :=
    hs_sectorsProgrammed _ _ _ (hs_programsRun _ _ _ _ ht)
  have h (f : State → Nat × Nat → State) (hf : ∀ t a, HasSlots T t → HasSlots T (f t a)) (l : List (Nat × Nat)) := hs_foldl hf l hs
  unfold stripeSectors
  exact hs_cond (h _ (fun _ _ ht => hsector _ _ _ ht) _) (hsector _ _ _ (h _ (fun _ _ ht => hsector _ _ _ ht) _))

theorem hs_ringSectors (g : Ring) (stripes row n : Nat) {s : State} (hs : HasSlots T s) : HasSlots T (ringSectors g stripes row n s) := by
  induction stripes generalizing row n s with
  | zero => exact hs
  | succ stripes ih => exact hs_cond hs (ih _ _ (hs_stripeSectors _ _ _ _ hs))

theorem hs_journalSectors (n : Nat) {s : State} (hs : HasSlots T s) : HasSlots T (journalSectors n s) :=
  hs_cond hs (HasSlots.same (hs_ringSectors _ _ _ _ hs) rfl rfl rfl)

theorem hs_coverJournal {s : State} (hs : HasSlots T s) : HasSlots T (coverJournal s) := by
  unfold coverJournal putEntry
  exact hs_cond hs (hs.same rfl rfl rfl)

theorem hs_programSector {s : State} (hs : HasSlots T s) : HasSlots T (programSector s) := by
  unfold programSector
  exact hs_journalSectors 1 (hs.same rfl rfl rfl)

theorem hs_programEntries {s : State} (hs : HasSlots T s) : HasSlots T (programEntries s) := by
  have hcovered := hs_coverJournal hs
  have hprogrammed (l : List Nat) : HasSlots T (l.foldl (fun t _ => programSector t) (coverJournal s)) :=
    hs_foldl (fun _ _ ht => hs_programSector ht) l hcovered
  unfold programEntries
  exact hs_cond hcovered ((hprogrammed _).same rfl rfl rfl)

theorem hs_programTail {s : State} (hs : HasSlots T s) : HasSlots T (programTail s) := by
  have hjournal {t : State} (ht : HasSlots T t) : HasSlots T (programJournal t) := hs_journalSectors _ (ht.same rfl rfl rfl)
  exact hs_programEntries (hjournal (hjournal hs))

theorem hs_journalPut (k : JournalKind) {s : State} (hs : HasSlots T s) : HasSlots T (journalPut k s) :=
  hs_cond (hs_programTail (hs_appendRecord k hs)) (hs_appendRecord k hs)

theorem hs_dirtyPages (first n : Nat) {s : State} (hs : HasSlots T s) : HasSlots T (dirtyPages first n s) := by
  refine hs_foldl (fun t g ht => ?_) _ hs
  unfold dirtySegment
  split
  · exact ht
  · exact ht.same rfl rfl rfl

/-! ### Responses -/

theorem hs_sendData (p : Port) (tag : Nat) (d : Line) (poison : Bool) {s : State} (hs : HasSlots T s) : HasSlots T (sendData p tag d poison s) := by
  have h : HasSlots T (count 0x05 p.code 64 ((emit (.readData p tag (if poison then 0 else d) poison (s.devLoad p)) s).modPort p
      fun q => { q with windowRead := q.windowRead + 64 })) := hs_count _ _ _ (hs_modPort p _ (hs.same rfl rfl rfl))
  unfold sendData
  exact hs_cond hs (hs_cond (hs_count _ _ _ h) h)

theorem hs_placeSample (e : SampleRecord) {s : State} (hs : HasSlots T s) : HasSlots T (placeSample e s) := by
  have hobs (o : Observe) {t : State} (ht : HasSlots T t) : HasSlots T { t with obs := o } := ht.same rfl rfl rfl
  have hbumped : HasSlots T (s.bump 0xB03004) := hs_bump (by omega) hs
  have hlost (c : Prop) [Decidable c] (o : Observe) : HasSlots T (if c then raise 124 (State.bump { s.bump 0xB03004 with obs := o } 0xB04003)
      else { s.bump 0xB03004 with obs := o }) := hs_cond (hs_raise _ (hs_bump (by omega) (hobs _ hbumped))) (hobs _ hbumped)
  exact hs_cond (hs_raise _ (hobs _ (hlost _ _))) (hlost _ _)

theorem hs_sampleWindow (p : Port) (opcode line : Nat) (sampled : Bool) {s : State} (hs : HasSlots T s) :
    HasSlots T (sampleWindow p opcode line sampled s) := hs_cond (hs_placeSample _ (hs_takeStamp hs)) hs

theorem hs_answerBarrier (p : Port) (b : BarrierRead) {s : State} (hs : HasSlots T s) : HasSlots T (answerBarrier p b s) :=
  hs_raiseTo (by cases p <;> decide) _ (hs_sampleWindow _ _ _ _ (hs_sendData _ _ _ _ hs))

theorem hs_sendCmp (p : Port) (tag : Nat) {s : State} (hs : HasSlots T s) : HasSlots T (sendCmp p tag s) := by
  have hsent : HasSlots T (emit (.cmp p tag (s.devLoad p)) s) := hs.same rfl rfl rfl
  exact hs_cond hs (hs_foldl (fun _ b ht => hs_answerBarrier p b ht) _ (hs_modPort p _ hsent))

theorem hs_sendCmps (l : List (Port × Nat)) {s : State} (hs : HasSlots T s) : HasSlots T (sendCmps l s) :=
  hs_foldl (fun _ _ ht => hs_sendCmp _ _ ht) l hs

theorem hs_rearmStall {s : State} (hs : HasSlots T s) : HasSlots T (rearmStall s) := hs_cond (hs.same rfl rfl rfl) hs

/-! ### Aborts -/

theorem hs_checkPool {s : State} (hs : HasSlots T s) : HasSlots T (checkPool s) := by
  have hpool (b : Bool) : HasSlots T { s with xlat := { s.xlat with poolAbove := b } } := hs.same rfl rfl rfl
  unfold checkPool
  exact hs_cond (hs_cond (hpool _) hs) (hs_cond (hs_raise _ (hpool _)) hs)

theorem hs_discardProvisional (g : Nat) {s : State} (hs : HasSlots T s) : HasSlots T (discardProvisional g s) := by
  have hend (l : List (Port × Nat)) {t : State} (ht : HasSlots T t) : HasSlots T (sendCmps l (rearmStall t)) := hs_sendCmps l (hs_rearmStall ht)
  exact hend _ (hs.same rfl rfl rfl)

theorem hs_dropStores (p : Port) (bit n : Nat) {s : State} (hs : HasSlots T s) : HasSlots T (dropStores p bit n s) := by
  unfold dropStores
  exact hs_cond hs (hs_raiseTimes _ _ (hs_addTo (by cases p <;> decide) _ (hs_modPort p _ hs)))

theorem hs_setGroup (g : Nat) (v : Group) {s : State} (hs : HasSlots T s) : HasSlots T (s.setGroup g v) := hs.same rfl rfl rfl

theorem hs_forceAbortNow (g cause : Nat) {s : State} (hs : HasSlots T s) : HasSlots T (forceAbortNow g cause s) :=
  hs_raise _ (hs_bump (by omega) (hs_journalPut _ (hs_dropStores _ _ _ (hs_checkPool (hs_setGroup _ _ (hs_discardProvisional g hs))))))

theorem hs_forceAbort (g cause detail : Nat) {s : State} (hs : HasSlots T s) : HasSlots T (forceAbort g cause detail s) := by
  unfold forceAbort
  refine hs_cond hs ?_
  split
  · exact hs_forceAbortNow _ _ hs
  · exact hs_cond (hs_setGroup _ _ (hs_forceAbortNow _ _ hs)) (hs_setGroup _ _ hs)

theorem hs_abortForSlot (slot : Nat) {s : State} (hs : HasSlots T s) : HasSlots T (abortForSlot slot s) :=
  hs_foldl (fun _ _ ht => hs_forceAbort _ _ _ ht) _ hs

end HasSlots

/-! ### The pages of a slot -/

theorem slotRanges_of_regs {s t : State} (h : regionRegs t = regionRegs s) (slot : Nat) : t.slotRanges slot = s.slotRanges slot := by
  have hkey {sub : Nat} (hsub : sub < 256) (i : Nat) := get_regionKey_of_regs h hsub i
  have hcovers : t.slotCovers slot = s.slotCovers slot := by
    funext page
    simp only [State.slotCovers, State.lineAttr, regionOfLine_of_regs h, hkey (show 0x09 < 256 by decide)]
  simp only [State.slotRanges, enabledRegions_of_regs h, hkey (show 0x02 < 256 by decide), hkey (show 0x03 < 256 by decide), hcovers]

/-! ### The instant of a renewal -/

/-- The DISCARD records of a renewal stand on the medium (R334). -/
def recordRenewal (ranges : List (Nat × Nat)) (s : State) : State :=
  programTail (ranges.foldl (fun t r =>
    let t := dirtyPages r.1 r.2 t
    journalPut (.discard 0 r.1 r.2 t.med.head) t) s)

theorem hs_recordRenewal {T : Tbl Nat × Tbl (List Byte) × Nat} (ranges : List (Nat × Nat)) {s : State} (hs : HasSlots T s) :
    HasSlots T (recordRenewal ranges s) := hs_programTail (hs_foldl (fun _ _ ht => hs_journalPut _ (hs_dirtyPages _ _ ht)) _ hs)

theorem staging_recordRenewal (ranges : List (Nat × Nat)) (s : State) : (recordRenewal ranges s).staging = s.staging := by
  have h : Keeps 0x387000064 s (recordRenewal ranges s) :=
    fr_programTail rfl (fr_foldl (fun t r ht => fr_journalPut rfl _ (fr_dirtyPages rfl r.1 r.2 ht)) ranges (keeps_refl _ s))
  exact h.staging rfl

theorem hs_dropCachedRange {T : Tbl Nat × Tbl (List Byte) × Nat} (first n : Nat) {s : State} (hs : HasSlots T s) :
    HasSlots T (dropCachedRange first n s) := hs.same rfl rfl rfl

/-- The end of a renewal leaves the staging array, the region table and the wrapped keys. -/
theorem endRenewal_keeps (slot : Nat) (ranges : List (Nat × Nat)) (waiting : List (Port × Nat)) (m : Medium) (s : State) :
    let dropped := ranges.foldl (fun t r => dropCachedRange (r.1 * 64) (r.2 * 64) t) s
    let t := sendCmps waiting (State.put { dropped with med := m } (slotKey slot) 1)
    HasSlots (slotTables s) t ∧ t.staging = s.staging := by
  have hdropped : HasSlots (slotTables s) (ranges.foldl (fun t r => dropCachedRange (r.1 * 64) (r.2 * 64) t) s) :=
    hs_foldl (fun _ _ ht => hs_dropCachedRange _ _ ht) _ (hasSlots_self s)
  have hcaches : Keeps 0x382000C64 s (ranges.foldl (fun t r => dropCachedRange (r.1 * 64) (r.2 * 64) t) s) :=
    fr_foldl (fun _ _ ht => fr_dropCachedRange rfl _ _ ht) _ (keeps_refl _ s)
  have hend : Keeps 0x382000C64 s _ := fr_sendCmps rfl waiting (fr_put rfl (slotKey slot) 1 (upd_med rfl hcaches m))
  exact ⟨hs_sendCmps _ (hs_put (by unfold slotKey; omega) _ (hdropped.same rfl rfl rfl)), hend.staging rfl⟩

/-- A newly generated key takes the place of the slot's, and the lines of its ranges leave the staging array (R334). -/
theorem installKey_installs (slot : Nat) (s : State) :
    slotTables (installKey slot s) = (regionRegs s,
        tput slot (Config.aesWrap keyEncryptionKey (Config.generatedKey s.integ.keysGenerated)) s.integ.wrappedKeys,
        s.integ.keysGenerated + 1) ∧
      (installKey slot s).staging = s.staging.filter fun l => !(s.slotRanges slot).any (extentHas (pageOfLine l.line)) := by
  have hrecorded : slotTables (recordRenewal (s.slotRanges slot) s) = slotTables s := hs_recordRenewal (s.slotRanges slot) (hasSlots_self s)
  simp only [slotTables, Prod.mk.injEq] at hrecorded
  obtain ⟨hregs, hwrapped, hgenerated⟩ := hrecorded
  unfold installKey
  refine ⟨(endRenewal_keeps slot _ _ _ _).1.trans ?_, (endRenewal_keeps slot _ _ _ _).2.trans ?_⟩
  · show (regionRegs (recordRenewal (s.slotRanges slot) s), tput slot (Config.aesWrap keyEncryptionKey
      (Config.generatedKey (recordRenewal (s.slotRanges slot) s).integ.keysGenerated)) (recordRenewal (s.slotRanges slot) s).integ.wrappedKeys,
      (recordRenewal (s.slotRanges slot) s).integ.keysGenerated + 1) = _
    rw [hregs, hwrapped, hgenerated]
  · show (recordRenewal (s.slotRanges slot) s).staging.filter _ = _
    rw [staging_recordRenewal]

/-! ### The renewal of the active slots -/

/-- Slot `k` has a key generated as number `first` or later, and none of its lines under the region table of `r` is in the staging array. -/
def Renewed (r : State) (first k : Nat) (t : State) : Prop :=
  (∃ n, first ≤ n ∧ n < t.integ.keysGenerated ∧ t.wrappedKey k = Config.aesWrap keyEncryptionKey (Config.generatedKey n)) ∧
    ∀ l ∈ t.staging, ∀ e ∈ r.slotRanges k, extentHas (pageOfLine l.line) e = false

theorem Renewed.keeps {r t u : State} {first k : Nat} (h : Renewed r first k t) (hi : u.integ = t.integ) (hs : u.staging = t.staging) :
    Renewed r first k u := by
  unfold Renewed State.wrappedKey
  rw [hi, hs]
  exact h

theorem slotTables_installKey (slot : Nat) (s : State) :
    regionRegs (installKey slot s) = regionRegs s ∧
      (installKey slot s).integ.keysGenerated = s.integ.keysGenerated + 1 ∧
      ∀ k, (installKey slot s).wrappedKey k =
        if k = slot then Config.aesWrap keyEncryptionKey (Config.generatedKey s.integ.keysGenerated) else s.wrappedKey k := by
  have h := (installKey_installs slot s).1
  simp only [slotTables, Prod.mk.injEq] at h
  obtain ⟨hregs, hwrapped, hgenerated⟩ := h
  refine ⟨hregs, hgenerated, fun k => ?_⟩
  rw [State.wrappedKey, hwrapped, tfind_tput]
  split <;> rfl

/-- The slot of a renewal is renewed. -/
theorem renewed_installKey {r s : State} {first : Nat} (hr : regionRegs s = regionRegs r) (hf : first ≤ s.integ.keysGenerated) (k : Nat) :
    Renewed r first k (installKey k s) := by
  obtain ⟨-, hgenerated, hwrapped⟩ := slotTables_installKey k s
  refine ⟨⟨s.integ.keysGenerated, hf, by omega, by rw [hwrapped, if_pos rfl]⟩, fun l hl e he => ?_⟩
  rw [(installKey_installs k s).2, slotRanges_of_regs hr, List.mem_filter] at hl
  have hnone : (r.slotRanges k).any (extentHas (pageOfLine l.line)) = false := by simpa using hl.2
  exact Bool.eq_false_iff.mpr (List.any_eq_false.mp hnone e he)

/-- The renewal of another slot leaves a slot renewed. -/
theorem Renewed.installKey {r s : State} {first k : Nat} (h : Renewed r first k s) (hr : regionRegs s = regionRegs r)
    (hf : first ≤ s.integ.keysGenerated) (slot : Nat) : Renewed r first k (installKey slot s) := by
  by_cases hk : k = slot
  · exact hk ▸ renewed_installKey hr hf k
  · obtain ⟨⟨n, hfirst, hlast, hkey⟩, hstaging⟩ := h
    obtain ⟨-, hgenerated, hwrapped⟩ := slotTables_installKey slot s
    refine ⟨⟨n, hfirst, by omega, by rw [hwrapped, if_neg hk, hkey]⟩, fun l hl => hstaging l ?_⟩
    rw [(installKey_installs slot s).2] at hl
    exact List.mem_of_mem_filter hl

/-- Slots renewed one after the other: each has its new key at the end, and those before the list keep theirs. -/
theorem renewed_installKeys {r : State} {first : Nat} (slots : List Nat) {s : State} (hr : regionRegs s = regionRegs r)
    (hf : first ≤ s.integ.keysGenerated) (k : Nat) (h : k ∈ slots ∨ Renewed r first k s) :
    Renewed r first k (slots.foldl (fun t k => Machine.installKey k t) s) := by
  induction slots generalizing s with
  | nil => exact h.resolve_left List.not_mem_nil
  | cons slot slots ih =>
    obtain ⟨hregs, hgenerated, -⟩ := slotTables_installKey slot s
    refine ih (hregs.trans hr) (Nat.le_of_lt (Nat.lt_of_le_of_lt hf (hgenerated ▸ Nat.lt_succ_self _))) ?_
    rcases h with hmem | hdone
    · rcases List.mem_cons.mp hmem with rfl | hlater
      · exact .inr (renewed_installKey hr hf k)
      · exact .inl hlater
    · exact .inr (hdone.installKey hr hf slot)

/-- Sanitize renews every active slot (R335). -/
theorem sanitizeNow_renews (s : State) : ∀ k ∈ s.activeSlots, Renewed s s.integ.keysGenerated k (sanitizeNow s) := by
  intro k hk
  have haborted : slotTables (s.activeSlots.foldl (fun t k => abortForSlot k t) s) = slotTables s :=
    hs_foldl (fun _ k ht => hs_abortForSlot k ht) _ (hasSlots_self s)
  simp only [slotTables, Prod.mk.injEq] at haborted
  obtain ⟨hregs, -, hgenerated⟩ := haborted
  have hrenewed := renewed_installKeys s.activeSlots hregs (Nat.le_of_eq hgenerated.symm) k (.inl hk)
  have hreports (t : State) : Keeps kf_raiseTimes t (raise 62 (raiseTimes s.activeSlots.length 61 t)) :=
    fr_raise rfl _ (fr_raiseTimes rfl _ _ (keeps_refl _ t))
  exact hrenewed.keeps ((hreports _).integ rfl) ((hreports _).staging rfl)

theorem mode_sanitizeNow (s : State) : (sanitizeNow s).mode = s.mode :=
  kp_sanitizeNow (κ := 0xD00101) ⟨rfl, .inl (by decide)⟩ rfl

/-- Sanitize raises source 62. -/
theorem sanitizeNow_raises (s : State) : Raised 62 s (sanitizeNow s) := by
  have habort : Quiet kw_abortForSlot 0xD00101 s.mode := ⟨rfl, .inl (by decide)⟩
  have hinstall : Quiet kw_installKey 0xD00101 s.mode := ⟨rfl, .inl (by decide)⟩
  have hmode : Holds 0xD00101 s.mode (raiseTimes s.activeSlots.length 61
      (s.activeSlots.foldl (fun t k => installKey k t) (s.activeSlots.foldl (fun t k => abortForSlot k t) s))) :=
    kp_raiseTimes (habort.mono rfl) _ _ (hd_foldl (fun _ k ht => kp_installKey hinstall k ht) _
      (hd_foldl (fun _ k ht => kp_abortForSlot habort k ht) _ rfl))
  exact fun hcan => latch_self ((canOccur_of_mode hmode 62).trans hcan)

/-! ### Sanitize at a mailbox -/

theorem mailboxWake_of_actsNow {s : State} (h : s.actsNow = true) : s.mode ≠ modeDoze := by
  simp only [State.actsNow, Bool.and_eq_true, bne_iff_ne] at h
  exact h.1.2

/-- What a permitted Sanitize of a host does (R75, R335). -/
theorem sanitizeByHost_of_permitted {s : State} (hpermit : s.get 0x304001 = 1) (hacts : s.actsNow = true) (p : Port) :
    sanitizeByHost p s = sendMsi p 0 (setAction 0x700203 stOk (sanitizeNow (mailboxAnswer p rcBackground [] s))) := by
  unfold sanitizeByHost
  rw [if_neg (by simp [hpermit]), if_neg (by simp [hacts])]

theorem sanitizeByHost_renews {s : State} (hpermit : s.get 0x304001 = 1) (hacts : s.actsNow = true) (p : Port) :
    let t := sanitizeByHost p s
    (∀ k ∈ s.activeSlots, Renewed s s.integ.keysGenerated k t) ∧ Raised 62 s t ∧ Out.mailbox p 1 [] ∈ t.out := by
  let answered := mailboxAnswer p rcBackground [] s
  have hend (t : State) : Keeps 0x80000060 t (sendMsi p 0 (setAction 0x700203 stOk t)) :=
    fr_sendMsi rfl _ _ (fr_setAction rfl _ _ (keeps_refl _ t))
  have hget (t : State) (k : Nat) : (sendMsi p 0 (setAction 0x700203 stOk t)).get k = t.get k := get_sendMsi _ _ _ _
  simp only [sanitizeByHost_of_permitted hpermit hacts]
  refine ⟨fun k hk => ?_, fun hcan => (hget _ _).trans (sanitizeNow_raises answered hcan), ?_⟩
  · exact Renewed.keeps (sanitizeNow_renews answered k hk) ((hend _).integ rfl) ((hend _).staging rfl)
  · exact out_of_evolves (ev_sendMsi _ _ (ev_setAction _ _ (ev_sanitizeNow (ev_refl _)))) (mem_out_mailboxAnswer p 1 [] s)

/-! ### Firmware -/

/-- An image with a valid signature and a permitted version enters the staged slot (R411). -/
theorem stageImage_stages {s : State} {version : Nat} (h : s.get 0xD06008 ≤ version) :
    let t := stageImage true version s
    t.get 0xD06002 = 1 ∧ t.get 0xD06005 = version % 2 ^ 32 ∧ tfind (1 - s.get 0xD06001) t.modes.slotVersions = some version ∧
      Raised 280 s t := by
  let noted := (s.put 0xD06002 1).put 0xD06005 (version % 2 ^ 32)
  let kept : State := { noted with modes := { noted.modes with slotVersions := tput (1 - noted.get 0xD06001) version noted.modes.slotVersions } }
  have hrun : stageImage true version s = raise 280 kept := by
    unfold stageImage
    rw [if_neg (by decide), if_neg (Nat.not_lt.mpr h)]
  have hkept (k : Nat) : kept.get k = noted.get k := rfl
  have hslot : noted.get 0xD06001 = s.get 0xD06001 := (get_put_ne (by decide) _).trans (get_put_ne (by decide) _)
  have hmode : kept.mode = s.mode := (get_put_ne (by decide) _).trans (get_put_ne (by decide) _)
  simp only [hrun]
  refine ⟨?_, ?_, ?_, fun hcan => latch_self ((canOccur_of_mode hmode _).trans hcan)⟩
  · exact (get_raise (by decide)).trans ((get_put_ne (by decide) _).trans (get_put_self _ _ _))
  · exact (get_raise (by decide)).trans (get_put_self _ _ _)
  · rw [modes_raise, ← hslot]
    exact tfind_tput_self _ _ _

/-- A report of a source and an answer at a mailbox. -/
theorem answered_raise (p : Port) (code src : Nat) (s : State) : let t := mailboxAnswer p code [] (raise src s)
    t.get 0xD06002 = s.get 0xD06002 ∧ t.modes = s.modes ∧ Raised src s t ∧ Out.mailbox p code [] ∈ t.out :=
  ⟨(get_emit _ _ _).trans (get_raise (by decide)), modes_raise src s, fun hcan => (get_emit _ _ _).trans (latch_self hcan),
    mem_out_mailboxAnswer _ _ _ _⟩

section AtItsPort

variable {s : State} {p : Port}

theorem completes_transferFw (hopen : s.ioOpen p = true) (hpermit : s.get 0x304003 = 1) (hacts : s.actsNow = true) (signatureOk : Bool)
    (version : Nat) {P : State → Prop}
    (hP : P (mailboxAnswer p (if signatureOk && decide (s.get 0xD06008 ≤ version) then rcSuccess else rcVerification) []
      (stageImage signatureOk version s))) : Completes (.transferFw p signatureOk version) s P := by
  refine completes_mailboxCommand hopen (mailboxWake_of_actsNow hacts) (f := fun t =>
    if t.get 0x304003 ≠ 1 then mailboxAnswer p rcUnsupported [] t
    else if !t.actsNow then mailboxBusy p t
    else mailboxAnswer p (if signatureOk && decide (t.get 0xD06008 ≤ version) then rcSuccess else rcVerification) []
      (stageImage signatureOk version t)) rfl ?_
  rw [if_neg (by simp [hpermit]), if_neg (by simp [hacts])]
  exact hP

theorem transferFw_answers (hopen : s.ioOpen p = true) (version : Nat) (hpermit : s.get 0x304003 = 1) (hacts : s.actsNow = true) :
    (s.get 0xD06008 ≤ version → Completes (.transferFw p true version) s fun t =>
      t.get 0xD06002 = 1 ∧ t.get 0xD06005 = version % 2 ^ 32 ∧ tfind (1 - s.get 0xD06001) t.modes.slotVersions = some version ∧
        Raised 280 s t ∧ Out.mailbox p 0 [] ∈ t.out) ∧
    (version < s.get 0xD06008 → Completes (.transferFw p true version) s fun t =>
      t.get 0xD06002 = s.get 0xD06002 ∧ t.modes.slotVersions = s.modes.slotVersions ∧ Raised 284 s t ∧ Out.mailbox p 0x0A [] ∈ t.out) ∧
    Completes (.transferFw p false version) s fun t =>
      t.get 0xD06002 = s.get 0xD06002 ∧ t.modes.slotVersions = s.modes.slotVersions ∧ Raised 281 s t ∧ Out.mailbox p 0x0A [] ∈ t.out := by
  refine ⟨fun hnew => completes_transferFw hopen hpermit hacts _ _ ?_, fun hold => completes_transferFw hopen hpermit hacts _ _ ?_,
    completes_transferFw hopen hpermit hacts _ _ ?_⟩
  · obtain ⟨hstate, hversion, hslot, hraised⟩ := stageImage_stages hnew
    rw [if_pos (by simpa using hnew)]
    exact ⟨(get_emit _ _ _).trans hstate, (get_emit _ _ _).trans hversion, hslot, fun hcan => (get_emit _ _ _).trans (hraised hcan),
      mem_out_mailboxAnswer _ _ _ _⟩
  · have hrun : stageImage true version s = raise 284 s := by
      unfold stageImage
      rw [if_neg (by decide), if_pos hold]
    obtain ⟨hstate, hmodes, hraised, hout⟩ := answered_raise p 0x0A 284 s
    rw [if_neg (by simpa using hold), hrun]
    exact ⟨hstate, congrArg Modes.slotVersions hmodes, hraised, hout⟩
  · obtain ⟨hstate, hmodes, hraised, hout⟩ := answered_raise p 0x0A 281 s
    exact ⟨hstate, congrArg Modes.slotVersions hmodes, hraised, hout⟩

theorem not_doze_of_activationAllowed (h : s.activationAllowed = true) : s.mode ≠ modeDoze := by
  intro hm
  simp [State.activationAllowed, State.serving, servingMode, hm] at h

theorem completes_activateFw_online (hopen : s.ioOpen p = true) (hallowed : s.activationAllowed = true) (result : ActivationResult)
    {P : State → Prop} (hP : P (activateByHost p result s)) : Completes (.activateFw p true result) s P := by
  refine completes_mailboxCommand hopen (not_doze_of_activationAllowed hallowed) (f := fun t =>
    if t.activationAllowed then activateByHost p result t else mailboxBusy p t) rfl ?_
  rw [if_pos hallowed]
  exact hP

theorem activateFw_online (hopen : s.ioOpen p = true) (hallowed : s.activationAllowed = true) :
    Completes (.activateFw p true .passes) s (fun t =>
      t.modes.activation = some { clock := s.clock, passes := true } ∧ Out.mailbox p 0 [] ∈ t.out) ∧
    Completes (.activateFw p true .selfCheckFails) s (fun t =>
      t.modes.activation = some { clock := s.clock, passes := false } ∧ Out.mailbox p 0 [] ∈ t.out) ∧
    Completes (.activateFw p true .signatureFails) s (fun t => t.modes.activation = none ∧ Raised 281 s t ∧ Out.mailbox p 0x0A [] ∈ t.out) ∧
    Completes (.activateFw p true .versionFails) s fun t => t.modes.activation = none ∧ Raised 284 s t ∧ Out.mailbox p 0x0A [] ∈ t.out := by
  have hidle : s.modes.activation = none := by
    simp only [State.activationAllowed, Bool.and_eq_true, Option.isNone_iff_eq_none] at hallowed
    exact hallowed.1.2
  refine ⟨completes_activateFw_online hopen hallowed _ ⟨rfl, mem_out_mailboxAnswer _ _ _ _⟩,
    completes_activateFw_online hopen hallowed _ ⟨rfl, mem_out_mailboxAnswer _ _ _ _⟩,
    completes_activateFw_online hopen hallowed _ ?_, completes_activateFw_online hopen hallowed _ ?_⟩
  · obtain ⟨-, hmodes, hraised, hout⟩ := answered_raise p 0x0A 281 s
    exact ⟨(congrArg Modes.activation hmodes).trans hidle, hraised, hout⟩
  · obtain ⟨-, hmodes, hraised, hout⟩ := answered_raise p 0x0A 284 s
    exact ⟨(congrArg Modes.activation hmodes).trans hidle, hraised, hout⟩

theorem activateFw_offline (hopen : s.ioOpen p = true) (r : ActivationResult) (hmode : s.mode ≠ modeDoze) (hstaged : s.get 0xD06002 ≠ 0)
    (hidle : s.modes.activation = none) :
    Completes (.activateFw p false r) s fun t => t.get 0xD06002 = 2 ∧ Out.mailbox p 0 [] ∈ t.out := by
  refine completes_mailboxCommand hopen hmode (f := fun t =>
    if t.get 0xD06002 = 0 ∨ t.modes.activation.isSome then mailboxBusy p t else mailboxAnswer p rcSuccess [] (t.put 0xD06002 2)) rfl ?_
  rw [if_neg (by simp [hstaged, hidle])]
  exact ⟨(get_emit _ _ _).trans (get_put_self _ _ _), mem_out_mailboxAnswer _ _ _ _⟩

/-- Sanitize and Secure Erase run one command. -/
theorem exec_sanitizeByHost {c : Instr} (hc : c ∈ [Instr.sanitize (.inl p), .secureErase p]) :
    exec c s = mailboxCommand p (sanitizeByHost p) s := by
  simp only [List.mem_cons, List.not_mem_nil, or_false] at hc
  rcases hc with rfl | rfl <;> rfl

end AtItsPort

/-- Settles O34: the image of a transfer goes through `stageImage`, an activation through `activateByHost`, and a Sanitize through `installKey` for
each active slot (log 62: the return codes are presumed; log 106: the form of a transfer; log 151: that a command without permission is
Unsupported in HALT too is the model's choice). -/
theorem firmwareAndSanitizeCommands : Obligations.FirmwareAndSanitizeCommands := by
  refine ⟨fun s p hopen => ⟨transferFw_answers hopen, activateFw_online hopen, activateFw_offline hopen⟩,
    fun s p hopen c hc => ⟨fun hpermit hacts => ?_, fun hdenied hmode => ?_⟩⟩
  · obtain ⟨hrenewed, hraised, hout⟩ := sanitizeByHost_renews hpermit hacts p
    exact completes_mailboxCommand hopen (mailboxWake_of_actsNow hacts) (exec_sanitizeByHost hc) ⟨hrenewed, hraised, hout⟩
  · refine completes_mailboxCommand hopen hmode (exec_sanitizeByHost hc) ?_
    unfold sanitizeByHost
    rw [if_pos hdenied]
    rfl

end Sys2Proof.Machine
end

section
/-! SUPPORT. The timeline of RESTORE from step 6 on (R159 to R166, R330): what each step leaves of the step counter and of what the next step goes
by, and the run of one step by the two commands. -/

namespace Sys2Proof.Machine

/-! ### The run of one step -/

/-- The state in which a step of the timeline begins. -/
def startStep (n : Nat) (s : State) : State := { s with modes := { s.modes with restoreStep := n } }

theorem restoreSteps_of_passed {upTo : Nat} {s : State} (h : upTo ≤ s.modes.restoreStep) (k : Nat) (shifts : List (Option Nat))
    (f : RestoreFindings) : restoreSteps k upTo shifts f s = s := by
  cases k with
  | zero => rfl
  | succ k =>
    unfold restoreSteps
    exact if_neg (by rintro ⟨-, hle, -⟩; omega)

theorem restoreSteps_of_mode {upTo : Nat} {s : State} (h : s.mode ≠ modeRestore) (k : Nat) (shifts : List (Option Nat))
    (f : RestoreFindings) : restoreSteps k upTo shifts f s = s := by
  cases k with
  | zero => rfl
  | succ k =>
    unfold restoreSteps
    exact if_neg (fun hgo => h hgo.1)

theorem restoreSteps_next {upTo n : Nat} {s : State} (hmode : s.mode = modeRestore) (hstep : s.modes.restoreStep + 1 = n) (hle : n ≤ upTo)
    (hlast : n ≤ 13) (k : Nat) (shifts : List (Option Nat)) (f : RestoreFindings) :
    restoreSteps (k + 1) upTo shifts f s = restoreSteps k upTo shifts f (restoreStepNow n shifts f s) := by
  subst hstep
  conv_lhs => unfold restoreSteps
  exact if_pos ⟨hmode, hle, hlast⟩

/-- RESTORE up to the next step runs that step alone, where the step ends. -/
theorem completes_restore {n : Nat} {s u : State} {shifts : List (Option Nat)} {f : RestoreFindings} {P : State → Prop}
    (hmode : s.mode = modeRestore) (hstep : s.modes.restoreStep + 1 = n) (hlast : n ≤ 13) (hu : restoreStepNow n shifts f s = u)
    (hend : u.modes.restoreStep = n) (hP : P u) : Completes (.restore n shifts f) s P := by
  refine ⟨restoreSteps 8 n shifts f s, rfl, ?_⟩
  rw [restoreSteps_next hmode hstep (Nat.le_refl n) hlast, hu, restoreSteps_of_passed (Nat.le_of_eq hend.symm)]
  exact hP

/-! ### Step 6 -/

theorem on_tableError {p : Port} {r : State} (mem : MemKind) (address : Nat) (u : Bool) {s : State} (hs : Onward p r s) :
    Onward p r (tableError mem address u s) := by
  have hstored (d : StoredData) : Onward p r { s with stored := d } := hs.quiet (upd_stored rfl (keeps_refl _ s) d)
  unfold tableError
  refine on_cond (hstored _) (on_cond (hstored _) ?_)
  split
  · exact hstored _
  · exact on_raise _ (on_bump _ hs)

theorem on_detectMedium {p : Port} {r : State} (u : Bool) {s : State} (hs : Onward p r s) : Onward p r (detectSomewhere .medium u s) := by
  unfold detectSomewhere detectError
  exact Onward.quiet (on_tableError _ _ _ (on_bump _ (on_drawn hs))) (fr_queueTest rfl _ _ (keeps_refl _ _))

theorem on_readImage {p : Port} {r : State} (f : RestoreFindings) {s : State} (hs : Onward p r s) : Onward p r (readImage f s) := by
  have hpow (v : Power) : Onward p r { s with pow := v } := hs.quiet (upd_pow rfl (keeps_refl _ s) v)
  unfold readImage
  split
  · exact hs
  · refine on_cond (hpow _) (on_raise _ ?_)
    refine Onward.quiet ?_ (fr_nameLines rfl _ _ (keeps_refl _ _))
    exact on_foldl (fun _ _ ht => on_detectMedium _ ht) _ ((hpow _).quiet (upd_integ rfl (keeps_refl _ _) _))

theorem on_applyOffInterval {p : Port} {r : State} (shifts : List (Option Nat)) {s : State} (hs : Onward p r s) :
    Onward p r (applyOffInterval shifts s) := by
  have hbanks : Onward p r (noteBanks shifts s) := hs.quiet (fr_noteBanks rfl shifts (keeps_refl _ s))
  have hmed {t : State} (ht : Onward p r t) (m : Medium) : Onward p r { t with med := m } := ht.quiet (upd_med rfl (keeps_refl _ t) m)
  have htime {t : State} (ht : Onward p r t) (n : Nat) : Onward p r { t with deviceTime := n } :=
    ht.quiet (upd_deviceTime rfl (keeps_refl _ t) n)
  have haged (l : List Nat) (g : Nat → Nat) {t : State} (ht : Onward p r t) :
      Onward p r (l.foldl (fun t c => t.addTo (packageAgeKey c) (g c)) t) := on_foldl (fun _ _ h => on_addTo _ _ h) l ht
  have hput {t : State} (ht : Onward p r t) (a b c : Nat) : Onward p r (((t.put 0x616003 a).put 0x616004 b).put 0x616005 c) :=
    on_put _ _ (on_put _ _ (on_put _ _ ht))
  unfold applyOffInterval
  refine on_cond (on_raise _ (hmed hbanks _)) (on_cond (on_raise _ (hmed ?_ _)) ?_) <;>
    exact hput (htime (haged _ _ hbanks) _) _ _ _

/-- The saved stamp ceiling is read, and the next one written above the stamps of this RESTORE (R145). -/
def raiseCeiling (f : RestoreFindings) (s : State) : State :=
  let first := s.get 0x405003 + 4294967296
  State.put { dropTorn f s with nextStamp := first, restoreStamp := first } 0x405003 (first + 2147483648)

/-- The kind of the last power-down is judged, device time goes on from the last durable record, and the restore is counted (R39, R146). -/
def judgeDown (s : State) : State :=
  let kind := s.judgeKind
  let time := match s.imageUsable, s.pow.image with
    | true, some i => i.time
    | _, _ => s.mediumTime
  let highest := match s.imageUsable, s.pow.image with
    | true, some i => max i.highest s.mediumStamp
    | _, _ => s.mediumStamp
  let c := s.pow.cartridge
  let due := c.testDue || (c.identAtCurtain.isSome && c.ident != c.identAtCurtain)
  let s : State := { s with
    deviceTime := time, pow := { s.pow with cartridge := { c with testDue := due } }, modes := { s.modes with downKind := kind } }
  (((s.bump 0x10000C).put 0x402004 kind).put 0x402005 highest).put 0x402006 time

/-- The saved counts are taken again where no image is usable, and the rebuild's marks begin anew. -/
def takeCounts (s : State) : State :=
  let s := if s.imageUsable then s else loadCounts s
  { s with med := { s.med with volumeMarks := [(s.get 0x615006, s.get 0x615007)], rebuildBytes := 0 } }

/-- What step 6 has read of the media before it judges the power-down. -/
def readMedia (f : RestoreFindings) (s : State) : State :=
  readImage f (raiseTimes (repairedCopies f) 222 (readPowerLog f (raiseCeiling f s)))

/-- What step 6 does once the power-down is judged. -/
def endSix (shifts : List (Option Nat)) (s : State) : State := loadRegisters (settleTails (applyOffInterval shifts (takeCounts s)))

theorem restoreSix_of_whole {f : RestoreFindings} (h : lostCopies f = []) (shifts : List (Option Nat)) (s : State) :
    restoreSix shifts f s = endSix shifts (judgeDown (readMedia f s)) := by
  unfold restoreSix
  rw [h]
  rfl

/-- What step 6 changes of the fields that `Keeps` speaks of, but the modes, the order stamps and device time. -/
def sixMask : Nat := 0x1DF003066

theorem stamps_raiseCeiling (f : RestoreFindings) (s : State) : (raiseCeiling f s).restoreStamp = s.get 0x405003 + 4294967296 ∧
    (raiseCeiling f s).nextStamp = s.get 0x405003 + 4294967296 := by
  unfold raiseCeiling
  exact ⟨restoreStamp_put _ _ _, nextStamp_put _ _ _⟩

theorem modes_raiseCeiling (f : RestoreFindings) (s : State) : (raiseCeiling f s).modes = s.modes := by
  unfold raiseCeiling
  exact (modes_put _ _ _).trans ((fr_dropTorn (μ := kf_dropTorn) rfl f (keeps_refl _ s)).modes rfl)

theorem readMedia_keeps (f : RestoreFindings) (s : State) : Keeps sixMask (raiseCeiling f s) (readMedia f s) :=
  fr_readImage rfl f (fr_raiseTimes rfl _ _ (fr_readPowerLog rfl f (keeps_refl _ _)))

theorem takeCounts_keeps {r s : State} (h : Keeps sixMask r s) : Keeps sixMask r (takeCounts s) := by
  unfold takeCounts
  exact upd_med rfl (fr_cond h (fr_loadCounts rfl h)) _

theorem restoreStamp_judgeDown (s : State) : (judgeDown s).restoreStamp = s.restoreStamp := rfl

theorem restoreStep_judgeDown (s : State) : (judgeDown s).modes.restoreStep = s.modes.restoreStep := rfl

theorem restores_judgeDown (s : State) : Counted 0x10000C 1 s (judgeDown s) := by
  unfold judgeDown Counted
  simp only
  rw [get_put_ne (by decide), get_put_ne (by decide), get_put_ne (by decide), get_bump_self]
  rfl

theorem hd_loadCounts {v : Nat} {s : State} (hs : Holds 0x10000C v s) : Holds 0x10000C v (loadCounts s) := by
  unfold loadCounts
  refine hd_foldl_mem (fun t k hk ht => hd_put ?_ ht) hs
  revert hk
  rintro hk rfl
  revert hk
  decide

theorem hd_takeCounts {v : Nat} {s : State} (hs : Holds 0x10000C v s) : Holds 0x10000C v (takeCounts s) := by
  unfold takeCounts
  exact hd_cond hs (hd_loadCounts hs)

theorem on_readMedia {p : Port} (f : RestoreFindings) (s : State) : Onward p (raiseCeiling f s) (readMedia f s) :=
  on_readImage f (on_raiseTimes _ _ ((on_refl _).quiet (fr_readPowerLog rfl f (keeps_refl _ _))))

theorem on_judgeDown {p : Port} {r s : State} (hs : Onward p r s) : Onward p r (judgeDown s) := by
  unfold judgeDown
  exact on_put _ _ (on_put _ _ (on_put _ _ (on_bump _ (hs.quiet (upd_deviceTime_pow_modes rfl rfl rfl (keeps_refl _ s) _ _ _)))))

theorem on_takeCounts {p : Port} {r s : State} (hs : Onward p r s) : Onward p r (takeCounts s) := by
  have hmed {t : State} (ht : Onward p r t) (m : Medium) : Onward p r { t with med := m } := ht.quiet (upd_med rfl (keeps_refl _ t) m)
  unfold takeCounts
  exact hmed (on_cond hs (hs.quiet (fr_loadCounts rfl (keeps_refl _ s)))) _

theorem endSix_keeps (shifts : List (Option Nat)) (s : State) : Keeps sixMask s (endSix shifts s) :=
  fr_loadRegisters rfl (fr_settleTails rfl (fr_applyOffInterval rfl shifts (takeCounts_keeps (keeps_refl _ _))))

theorem on_endSix {p : Port} {r : State} (shifts : List (Option Nat)) {s : State} (hs : Onward p r s) : Onward p r (endSix shifts s) :=
  ((on_applyOffInterval shifts (on_takeCounts hs)).quiet (fr_settleTails rfl (keeps_refl _ _))).quiet (fr_loadRegisters rfl (keeps_refl _ _))

theorem hd_readMedia {v : Nat} (f : RestoreFindings) {s : State} (hs : Holds 0x10000C v s) : Holds 0x10000C v (readMedia f s) := by
  have hceiling : Holds 0x10000C v (raiseCeiling f s) := hd_put (by decide) (kp_dropTorn ⟨rfl, .inl (by decide)⟩ f hs)
  exact kp_readImage ⟨rfl, .inl (by decide)⟩ f (kp_raiseTimes ⟨rfl, .inl (by decide)⟩ _ _ (kp_readPowerLog ⟨rfl, .inl (by decide)⟩ f hceiling))

theorem hd_endSix {v : Nat} (shifts : List (Option Nat)) {s : State} (hs : Holds 0x10000C v s) : Holds 0x10000C v (endSix shifts s) :=
  kp_loadRegisters ⟨rfl, .inl (by decide)⟩
    (kp_settleTails ⟨rfl, .inl (by decide)⟩ (kp_applyOffInterval ⟨rfl, .inl (by decide)⟩ shifts (hd_takeCounts hs)))

/-- Step 6: the stamps of this RESTORE begin 2^32 above the saved ceiling, and the restore is counted (R145, R162). -/
theorem restoreSix_runs {f : RestoreFindings} (h : lostCopies f = []) (shifts : List (Option Nat)) (s : State) :
    (restoreSix shifts f s).modes.restoreStep = s.modes.restoreStep ∧
      s.get 0x405003 + 4294967296 = (restoreSix shifts f s).restoreStamp ∧
      (restoreSix shifts f s).restoreStamp ≤ (restoreSix shifts f s).nextStamp ∧ Counted 0x10000C 1 s (restoreSix shifts f s) := by
  rw [restoreSix_of_whole h]
  have hread := readMedia_keeps f s
  have htail := endSix_keeps shifts (judgeDown (readMedia f s))
  obtain ⟨hfirst, hnext⟩ := stamps_raiseCeiling f s
  have hstamp : (endSix shifts (judgeDown (readMedia f s))).restoreStamp = s.get 0x405003 + 4294967296 :=
    (htail.restoreStamp rfl).trans ((restoreStamp_judgeDown _).trans ((hread.restoreStamp rfl).trans hfirst))
  have hlater := (on_endSix (p := .a) shifts (on_judgeDown (on_readMedia f s))).stamps
  have hstep : (endSix shifts (judgeDown (readMedia f s))).modes.restoreStep = s.modes.restoreStep := by
    rw [htail.modes rfl, restoreStep_judgeDown, hread.modes rfl, modes_raiseCeiling]
  refine ⟨hstep, hstamp.symm, ?_, ?_⟩
  · exact Nat.le_trans (Nat.le_of_eq (hstamp.trans hnext.symm)) hlater
  · have hcount : Holds 0x10000C (countAfter 0x10000C (s.get 0x10000C) 1) (judgeDown (readMedia f s)) := by
      have hbefore : (readMedia f s).get 0x10000C = s.get 0x10000C := hd_readMedia f rfl
      rw [← hbefore]
      exact restores_judgeDown _
    exact hd_endSix shifts hcount

/-! ### Step 8 -/

/-- A step of the timeline runs. -/
def AtStep (n : Nat) (s : State) : Prop := s.mode = modeRestore ∧ s.modes.restoreStep = n

theorem AtStep.kept {n : Nat} {s t : State} (hs : AtStep n s) (hmode : t.mode = s.mode) (hmodes : t.modes = s.modes) : AtStep n t :=
  ⟨hmode.trans hs.1, (congrArg Modes.restoreStep hmodes).trans hs.2⟩

/-- A failed check does not end RESTORE: the HALT record takes it, and HALT comes when the restore ends (R329). -/
theorem atStep_failCheck {n : Nat} (obj : FailedObject) {s : State} (hs : AtStep n s) : AtStep n (failCheck obj s) := by
  have hmode : (recordFailure obj s).mode = modeRestore := kp_recordFailure ⟨rfl, .inl (by decide)⟩ obj hs.1
  have hgoes : ((recordFailure obj s).serving || (recordFailure obj s).mode == modeService) = false := by
    unfold State.serving
    rw [hmode]
    rfl
  have haside : (setAsideNamed (recordFailure obj s)).mode = s.mode :=
    (kp_setAsideNamed ⟨rfl, .inl (by decide)⟩ hmode).trans hs.1.symm
  unfold failCheck
  simp only [hgoes, Bool.false_eq_true, if_false]
  exact hs.kept haside
    ((fr_setAsideNamed (μ := kf_setAsideNamed ||| kf_recordFailure) rfl (fr_recordFailure rfl obj (keeps_refl _ s))).modes rfl)

theorem atStep_failChecks {n : Nat} (l : List FailedObject) {s : State} (hs : AtStep n s) :
    AtStep n (l.foldl (fun t o => failCheck o t) s) := by
  induction l generalizing s with
  | nil => exact hs
  | cons o l ih => exact ih (atStep_failCheck o hs)

theorem atStep_judgeDigests {n : Nat} (f : RestoreFindings) {s : State} (hs : AtStep n s) : AtStep n (judgeDigests f s) :=
  atStep_failChecks _ hs

theorem atStep_judgeChain {n : Nat} (f : RestoreFindings) {s : State} (hs : AtStep n s) : AtStep n (judgeChain f s) := by
  unfold judgeChain
  split
  · exact hs
  · simp only
    split
    · exact atStep_failChecks _ hs
    · exact hs

/-- What step 8 judges of the media before the replay (R37, R318, R320). -/
def judgeMedia (f : RestoreFindings) (s : State) : State :=
  judgeLines s.integ.entries (judgeChain f (judgeDigests f (noteTornSave f (dropTorn f (s.put 0x404101 3)))))

theorem atStep_judgeMedia {n : Nat} (f : RestoreFindings) {s : State} (hs : AtStep n s) : AtStep n (judgeMedia f s) := by
  have hput : AtStep n (s.put 0x404101 3) := hs.kept (get_put_ne (by decide) _) rfl
  have htorn : AtStep n (noteTornSave f (dropTorn f (s.put 0x404101 3))) :=
    hput.kept (kp_noteTornSave ⟨rfl, .inl (by decide)⟩ f (kp_dropTorn ⟨rfl, .inl (by decide)⟩ f rfl))
      ((fr_noteTornSave (μ := kf_dropTorn) rfl f (fr_dropTorn rfl f (keeps_refl _ _))).modes rfl)
  have hchain := atStep_judgeChain f (atStep_judgeDigests f htorn)
  exact hchain.kept (kp_judgeLines ⟨rfl, .inl (by decide)⟩ _ rfl) ((fr_judgeLines (μ := kf_judgeLines) rfl _ (keeps_refl _ _)).modes rfl)

theorem phase_judgeMedia (f : RestoreFindings) (s : State) : (judgeMedia f s).get 0x404101 = 3 := by
  have hput : Holds 0x404101 3 (s.put 0x404101 3) := get_put_self _ _ _
  exact kp_judgeLines ⟨rfl, .inl (by decide)⟩ _ (kp_judgeChain ⟨rfl, .inl (by decide)⟩ f (kp_judgeDigests ⟨rfl, .inl (by decide)⟩ f
    (kp_noteTornSave ⟨rfl, .inl (by decide)⟩ f (kp_dropTorn ⟨rfl, .inl (by decide)⟩ f hput))))

/-- Nothing is rebuilt. -/
def NothingRebuilt (s : State) : Prop := s.xlat.allRebuilt = false ∧ s.xlat.rebuilt = [] ∧ s.xlat.mainMap = []

theorem NothingRebuilt.kept {s t : State} (hs : NothingRebuilt s) (h : t.xlat = s.xlat) : NothingRebuilt t := by
  unfold NothingRebuilt
  rw [h]
  exact hs

/-- Replay starts from nothing rebuilt (R160). -/
theorem nothingRebuilt_restoreEight (s : State) : NothingRebuilt (restoreEight s) := by
  have hput {t : State} (k v : Nat) (ht : NothingRebuilt t) : NothingRebuilt (t.put k v) := ht
  have hreplay {t : State} (ht : NothingRebuilt t) : NothingRebuilt (replayIntegrity t) := ht
  have hraise {t : State} (src : Nat) (ht : NothingRebuilt t) : NothingRebuilt (raise src t) :=
    ht.kept ((fr_raise (μ := kf_raise) rfl src (keeps_refl _ t)).xlat rfl)
  have hcond {c : Prop} [Decidable c] {t u : State} (ht : NothingRebuilt t) (hu : NothingRebuilt u) :
      NothingRebuilt (if c then t else u) := by split <;> assumption
  unfold restoreEight
  refine hcond (hreplay (hput _ _ (hput _ _ (hput _ _ ⟨rfl, rfl, rfl⟩))))
    (hraise _ (hput _ _ (hreplay (hput _ _ (hput _ _ (hput _ _ ⟨rfl, rfl, rfl⟩))))))

theorem modes_restoreEight (s : State) : (restoreEight s).modes = s.modes :=
  (fr_restoreEight (μ := kf_restoreEight) rfl (keeps_refl _ s)).modes rfl

/-! ### Step 9 -/

/-- Step 9 has ended and its image is used up, or it goes on because what the image held is owed to the medium. -/
def ImageUsedOrOwed (s : State) : Prop :=
  s.modes.offHeld = false ∧ ((s.modes.restoreStep = 9 ∧ s.pow.image = none) ∨
    (s.modes.restoreStep = 8 ∧ s.pow.image.isSome = true ∧ s.staging ≠ []))

theorem image_finishLeaving (s : State) : (finishLeaving s).pow.image = s.pow.image := by
  have hprogram : (programAll s).pow.image = s.pow.image := congrArg Power.image (pow_programAll s)
  unfold finishLeaving
  split
  · rfl
  · simp only
    split <;> exact hprogram

theorem image_loseProtection (causes : Nat) (s : State) : (loseProtection causes s).pow.image = s.pow.image := by
  unfold loseProtection
  rw [image_finishLeaving, pow_raise]
  show (bothExceptions 5 (s.put 0x402002 causes)).pow.image = s.pow.image
  rw [pow_bothExceptions, pow_put]

theorem image_updateProtection (s : State) : (updateProtection s).pow.image = s.pow.image := by
  have hput : (s.put 0x402002 s.protectCauses).pow.image = s.pow.image := rfl
  have hregain : (regainProtection s).pow.image = s.pow.image := by
    unfold regainProtection
    rw [pow_raise]
    rfl
  unfold updateProtection
  simp only [apply_ite (fun t : State => t.pow.image), image_loseProtection, image_finishLeaving, hput, hregain, ite_self]

theorem image_fixPersistPoint (s : State) : (fixPersistPoint s).pow.image = none := by
  unfold fixPersistPoint
  rw [image_updateProtection]
  simp only
  split <;> rfl

theorem modes_fixPersistPoint (s : State) : (fixPersistPoint s).modes = s.modes :=
  (fr_fixPersistPoint (μ := kf_fixPersistPoint) rfl (keeps_refl _ s)).modes rfl

theorem endNine_settles {s : State} (hoff : s.modes.offHeld = false) (hstep : s.modes.restoreStep = 9) : ImageUsedOrOwed (endNine s) := by
  have hmodes : (if s.protected then s else programAll s).modes = s.modes := by
    split
    · rfl
    · exact (fr_programAll (μ := kf_programAll) rfl (keeps_refl _ s)).modes rfl
  unfold endNine
  simp only
  generalize (if s.protected then s else programAll s) = u at hmodes ⊢
  by_cases howed : u.imageOwed = true
  · obtain ⟨⟨-, himage⟩, hstaged⟩ : (u.protected = false ∧ u.pow.image.isSome = true) ∧ u.staging ≠ [] := by
      simpa [State.imageOwed] using howed
    rw [if_pos howed]
    exact ⟨(congrArg Modes.offHeld hmodes).trans hoff, .inr ⟨rfl, himage, hstaged⟩⟩
  · have hfix := modes_fixPersistPoint { u with modes := { u.modes with reinstated := false } }
    have hheld : (fixPersistPoint { u with modes := { u.modes with reinstated := false } }).modes.offHeld = false :=
      (congrArg Modes.offHeld hfix).trans ((congrArg Modes.offHeld hmodes).trans hoff)
    rw [if_neg howed, hheld]
    exact ⟨hheld, .inl ⟨(congrArg Modes.restoreStep hfix).trans ((congrArg Modes.restoreStep hmodes).trans hstep), image_fixPersistPoint _⟩⟩

theorem restoreNine_settles {s : State} (hoff : s.modes.offHeld = false) (hstep : s.modes.restoreStep = 9) : ImageUsedOrOwed (restoreNine s) := by
  have hreported : (reportShutdown (takeImage s)).modes = s.modes :=
    (fr_reportShutdown (μ := kf_takeImage ||| kf_reportShutdown) rfl (fr_takeImage rfl (keeps_refl _ s))).modes rfl
  unfold restoreNine
  split
  · exact endNine_settles hoff hstep
  · exact endNine_settles ((congrArg Modes.offHeld hreported).trans hoff) ((congrArg Modes.restoreStep hreported).trans hstep)

theorem restoreStepNow_nine (shifts : List (Option Nat)) (f : RestoreFindings) (s : State) :
    restoreStepNow 9 shifts f s = restoreNine (startStep 9 s) := by
  unfold restoreStepNow
  rw [if_neg (by decide), if_neg (by decide), if_pos rfl]
  rfl

/-- However often step 9 goes on, the image is used up at its end, or still owed (R159). -/
theorem restoreSteps_nine (k : Nat) (shifts : List (Option Nat)) (f : RestoreFindings) {s : State} (hs : ImageUsedOrOwed s) :
    ImageUsedOrOwed (restoreSteps k 9 shifts f s) := by
  induction k generalizing s with
  | zero => exact hs
  | succ k ih =>
    by_cases hmode : s.mode = modeRestore
    · obtain ⟨hoff, ⟨hstep, -⟩ | ⟨hstep, -⟩⟩ := id hs
      · rw [restoreSteps_of_passed (Nat.le_of_eq hstep.symm)]
        exact hs
      · rw [restoreSteps_next hmode (by rw [hstep]) (Nat.le_refl 9) (by decide), restoreStepNow_nine]
        exact ih (restoreNine_settles hoff rfl)
    · rw [restoreSteps_of_mode hmode]
      exact hs

/-! ### Step 10 -/

theorem promptSegments_of_regs {s t : State} (h : regionRegs t = regionRegs s) : t.promptSegments = s.promptSegments := by
  simp only [State.promptSegments, enabledRegions_of_regs h, get_regionKey_of_regs h (show 0x02 < 256 by decide),
    get_regionKey_of_regs h (show 0x03 < 256 by decide), get_regionKey_of_regs h (show 0x04 < 256 by decide)]

theorem isRebuilt_rebuildSegment_self (g : Nat) (s : State) : (rebuildSegment g s).isRebuilt g = true := by
  unfold rebuildSegment
  split
  · assumption
  · simp [State.isRebuilt]

theorem isRebuilt_rebuildSegment {g : Nat} {s : State} (h : s.isRebuilt g = true) (seg : Nat) : (rebuildSegment seg s).isRebuilt g = true := by
  unfold rebuildSegment
  split
  · exact h
  · revert h
    simp only [State.isRebuilt, Bool.or_eq_true, List.contains_iff_mem, List.mem_append]
    exact Or.imp_right .inl

theorem isRebuilt_rebuildSegments {g : Nat} {s : State} (h : s.isRebuilt g = true) (l : List Nat) :
    (l.foldl (fun t x => rebuildSegment x t) s).isRebuilt g = true := by
  induction l generalizing s with
  | nil => exact h
  | cons x l ih => exact ih (isRebuilt_rebuildSegment h x)

theorem isRebuilt_rebuildSegments_of_mem {g : Nat} {l : List Nat} (hg : g ∈ l) (s : State) :
    (l.foldl (fun t x => rebuildSegment x t) s).isRebuilt g = true := by
  induction l generalizing s with
  | nil => exact absurd hg List.not_mem_nil
  | cons x l ih =>
    rcases List.mem_cons.mp hg with rfl | hg
    · exact isRebuilt_rebuildSegments (isRebuilt_rebuildSegment_self g s) l
    · exact ih hg _

theorem isRebuilt_of_xlat {s t : State} (h : t.xlat = s.xlat) (g : Nat) : t.isRebuilt g = s.isRebuilt g := by
  unfold State.isRebuilt
  rw [h]

/-- Step 10 rebuilds the segments of the prompt regions (R163). -/
theorem restoreTen_rebuilds (s : State) : (restoreTen s).modes = s.modes ∧ (restoreTen s).get 0x404101 = 4 ∧
    ∀ g ∈ s.promptSegments, (restoreTen s).isRebuilt g = true := by
  have hphase : Holds 0x404101 4 (s.put 0x404101 4) := get_put_self _ _ _
  have hprompt : (s.put 0x404101 4).promptSegments = s.promptSegments := promptSegments_of_regs (regionRegs_put (by decide) _)
  refine ⟨(fr_restoreTen (μ := kf_restoreTen) rfl (keeps_refl _ s)).modes rfl, ?_, fun g hg => ?_⟩
  · unfold restoreTen
    exact hd_foldl (fun _ _ ht => kp_pinRegion ⟨rfl, .inl (by decide)⟩ _ ht) _
      (hd_foldl (fun _ _ ht => kp_rebuildSegment ⟨rfl, .inl (by decide)⟩ _ ht) _ hphase)
  · unfold restoreTen
    simp only
    have hpins (l : List Nat) (t : State) : (l.foldl (fun t r => pinRegion r t) t).xlat = t.xlat :=
      (fr_foldl (fun _ _ ht => fr_pinRegion rfl _ ht) l (keeps_refl kf_pinRegion t)).xlat rfl
    rw [isRebuilt_of_xlat (hpins _ _)]
    exact isRebuilt_rebuildSegments_of_mem (List.mem_append_left _ (hprompt ▸ hg)) _

/-! ### Step 11 -/

theorem modes_raiseReady (p : Port) (s : State) : (raiseReady p s).modes = s.modes :=
  (fr_raiseReady (μ := kf_raiseReady) rfl p (keeps_refl _ s)).modes rfl

theorem portEnabled_raiseReady (p q : Port) (s : State) : (raiseReady p s).portEnabled q = s.portEnabled q := by
  have h (k : Nat) (hk : k ∈ [0x300104, 0x300105]) : (raiseReady p s).get k = s.get k := by
    simp only [List.mem_cons, List.not_mem_nil, or_false] at hk
    rcases hk with rfl | rfl <;> exact kp_raiseReady ⟨rfl, .inl (by decide)⟩ p rfl
  have hwide : (raiseReady p s).wide = s.wide := congrArg Modes.wideMode (modes_raiseReady p s)
  unfold State.portEnabled
  rw [h 0x300104 (by decide), h 0x300105 (by decide), hwide]

/-- The rise of a port's READY, where it is low. -/
def setReady (p : Port) (s : State) : State :=
  let s := (s.put (p.key 0x04) 1).modPort p fun q => { q with memoryActive := true }
  if s.linkState p = 2 then raise (portSource p 0) (s.put (p.key 0x01) 3) else s

theorem raiseReady_eq (p : Port) (s : State) : raiseReady p s = if !s.portEnabled p || s.ready p then s else setReady p s := rfl

theorem ready_setReady {p q : Port} {s : State} (h : q = p ∨ s.ready q = true) : (setReady p s).ready q = true := by
  have hput : (s.put (p.key 0x04) 1).ready q = true := by
    unfold State.ready
    by_cases hqp : q = p
    · rw [hqp, get_put_self]
      rfl
    · rw [get_put_ne (by revert hqp; cases p <;> cases q <;> decide)]
      exact h.resolve_left hqp
  have hmod : ((s.put (p.key 0x04) 1).modPort p fun v => { v with memoryActive := true }).ready q = true := by
    unfold State.ready
    rw [get_modPort]
    exact hput
  unfold setReady
  simp only
  split
  · unfold State.ready
    rw [get_raise (by cases q <;> decide), get_put_ne (by cases p <;> cases q <;> decide)]
    exact hmod
  · exact hmod

theorem ready_raiseReady {q : Port} {s : State} (h : s.ready q = true) (p : Port) : (raiseReady p s).ready q = true := by
  rw [raiseReady_eq]
  split
  · exact h
  · exact ready_setReady (.inr h)

theorem ready_raiseReady_self {p : Port} {s : State} (h : s.portEnabled p = true) : (raiseReady p s).ready p = true := by
  by_cases hready : s.ready p = true
  · exact ready_raiseReady hready p
  · rw [raiseReady_eq, if_neg (by simp [h, hready])]
    exact ready_setReady (.inl rfl)

/-- READY of both ports rises at the host-access point. -/
def raiseBoth (s : State) : State :=
  releasePins (raiseReady .b (raiseReady .a ((s.put 0x404101 5).put 0x404102 ((s.clock - s.modes.vinValidAt) / 1000))))

theorem restoreEleven_of_halt {s : State} (h : s.integ.halt.isSome = true) : restoreEleven s = s.put 0x404101 5 := by
  obtain ⟨r, hr⟩ := Option.isSome_iff_exists.mp h
  have hput : (s.put 0x404101 5).integ.halt = some r := hr
  unfold restoreEleven
  simp only [hput]

theorem restoreEleven_of_none {s : State} (h : s.integ.halt = none) : restoreEleven s = raiseBoth s := by
  have hput : (s.put 0x404101 5).integ.halt = none := h
  unfold restoreEleven
  simp only [hput]
  rfl

theorem raiseBoth_runs (s : State) : (raiseBoth s).modes.restoreStep = s.modes.restoreStep ∧ (raiseBoth s).get 0x404101 = 5 ∧
    ∀ p, s.portEnabled p = true → (raiseBoth s).ready p = true := by
  let t := (s.put 0x404101 5).put 0x404102 ((s.clock - s.modes.vinValidAt) / 1000)
  have hmodes : (raiseReady .b (raiseReady .a t)).modes = s.modes :=
    (modes_raiseReady .b _).trans (modes_raiseReady .a t)
  have hphase : Holds 0x404101 5 t := hd_put (by decide) (get_put_self _ _ _)
  have henabled (p : Port) : t.portEnabled p = s.portEnabled p := by
    unfold State.portEnabled
    simp only [t, get_put_ne (show 0x300104 ≠ 0x404102 by decide), get_put_ne (show 0x300104 ≠ 0x404101 by decide),
      get_put_ne (show 0x300105 ≠ 0x404102 by decide), get_put_ne (show 0x300105 ≠ 0x404101 by decide)]
    rfl
  refine ⟨?_, ?_, fun p hp => ?_⟩
  · show (raiseReady .b (raiseReady .a t)).modes.restoreStep = _
    rw [hmodes]
  · exact kp_releasePins ⟨rfl, .inl (by decide)⟩
      (kp_raiseReady ⟨rfl, .inl (by decide)⟩ .b (kp_raiseReady ⟨rfl, .inl (by decide)⟩ .a hphase))
  · show (raiseReady .b (raiseReady .a t)).ready p = true
    have ht : t.portEnabled p = true := (henabled p).trans hp
    cases p with
    | a => exact ready_raiseReady (ready_raiseReady_self ht) .b
    | b => exact ready_raiseReady_self ((portEnabled_raiseReady .a .b t).trans ht)

/-! ### Steps 12 and 13 -/

/-- Every segment is rebuilt, and no HALT record stands. -/
structure Settled (s : State) : Prop where
  rebuilt : s.xlat.allRebuilt = true
  halt : s.integ.halt = none

theorem Settled.quiet {μ : Nat} {s t : State} (hs : Settled s) (h : Keeps μ s t) (hx : μ.testBit 24 = false) (hi : μ.testBit 26 = false) :
    Settled t :=
  ⟨(congrArg Translation.allRebuilt (h.xlat hx)).trans hs.rebuilt, (congrArg Integrity.halt (h.integ hi)).trans hs.halt⟩

theorem Settled.same {s t : State} (hs : Settled s) (hx : t.xlat.allRebuilt = s.xlat.allRebuilt) (hi : t.integ.halt = s.integ.halt) :
    Settled t := ⟨hx.trans hs.rebuilt, hi.trans hs.halt⟩

theorem settled_cond {c : Prop} [Decidable c] {a b : State} (ha : Settled a) (hb : Settled b) : Settled (if c then a else b) := by
  split <;> assumption

theorem settled_foldl {α : Type} {f : State → α → State} {s : State} (h : ∀ t a, Settled t → Settled (f t a)) (l : List α)
    (hs : Settled s) : Settled (l.foldl f s) := by
  induction l generalizing s with
  | nil => exact hs
  | cons a l ih => exact ih (h _ _ hs)

theorem settled_raise (src : Nat) {s : State} (hs : Settled s) : Settled (raise src s) := hs.quiet (fr_raise rfl src (keeps_refl kf_raise s)) rfl rfl

theorem settled_setUnit (u : Nat) (r : UnitRec) {s : State} (hs : Settled s) : Settled (s.setUnit u r) :=
  hs.quiet (fr_setUnit rfl u r (keeps_refl kf_setUnit s)) rfl rfl

theorem settled_appendRecord (k : JournalKind) {s : State} (hs : Settled s) : Settled (appendRecord k s) :=
  (hs.quiet (fr_takeStamp rfl (keeps_refl kf_takeStamp s)) rfl rfl).same rfl rfl

theorem settled_wearOut (u : Nat) {s : State} (hs : Settled s) : Settled (wearOut u s) := by
  have hhealth {t : State} (ht : Settled t) : Settled (noteHealth t) := ht.quiet (fr_noteHealth rfl (keeps_refl kf_noteHealth t)) rfl rfl
  unfold wearOut
  exact settled_cond (hhealth (settled_raise _ ((settled_appendRecord _ (settled_setUnit _ _ hs)).same rfl rfl))) hs

theorem settled_sectorsProgrammed (u n page : Nat) {s : State} (hs : Settled s) : Settled (sectorsProgrammed u n page s) := by
  have hcount := hs.quiet (fr_count rfl 0x21 (channelOfUnit u) n (keeps_refl kf_count s)) rfl rfl
  have hdisturb := hcount.quiet (fr_disturb rfl u n (keeps_refl kf_disturb _)) rfl rfl
  unfold sectorsProgrammed
  exact settled_cond hs (settled_wearOut u ((settled_setUnit _ _ hdisturb).quiet (fr_addCycles rfl u _ (keeps_refl kf_addCycles _)) rfl rfl))

theorem settled_ringSectorsOn (u n page : Nat) {s : State} (hs : Settled s) : Settled (ringSectorsOn u n page s) :=
  settled_sectorsProgrammed _ _ _ (hs.quiet (fr_programsRun rfl _ _ _ _ (keeps_refl kf_programsRun s)) rfl rfl)

theorem settled_stripeSectors (r : Ring) (stripe row n : Nat) {s : State} (hs : Settled s) : Settled (stripeSectors r stripe row n s) := by
  have hdata (f : State → Nat × Nat → State) (hf : ∀ t a, Settled t → Settled (f t a)) (l : List (Nat × Nat)) := settled_foldl hf l hs
  unfold stripeSectors
  exact settled_cond (hdata _ (fun _ _ ht => settled_ringSectorsOn _ _ _ ht) _)
    (settled_ringSectorsOn _ _ _ (hdata _ (fun _ _ ht => settled_ringSectorsOn _ _ _ ht) _))

theorem settled_ringSectors (r : Ring) (k row n : Nat) {s : State} (hs : Settled s) : Settled (ringSectors r k row n s) := by
  induction k generalizing row n s with
  | zero => exact hs
  | succ k ih => exact settled_cond hs (ih _ _ (settled_stripeSectors _ _ _ _ hs))

theorem settled_journalSectors (n : Nat) {s : State} (hs : Settled s) : Settled (journalSectors n s) :=
  settled_cond hs ((settled_ringSectors _ _ _ _ hs).same rfl rfl)

theorem settled_coverJournal {s : State} (hs : Settled s) : Settled (coverJournal s) := settled_cond hs (hs.same rfl rfl)

theorem settled_programSector {s : State} (hs : Settled s) : Settled (programSector s) := settled_journalSectors 1 (hs.same rfl rfl)

theorem settled_programEntries {s : State} (hs : Settled s) : Settled (programEntries s) := by
  have hcover := settled_coverJournal hs
  unfold programEntries
  exact settled_cond hcover (Settled.same (settled_foldl (fun _ _ ht => settled_programSector ht) _ hcover) rfl rfl)

theorem settled_programJournal {s : State} (hs : Settled s) : Settled (programJournal s) := settled_journalSectors _ (hs.same rfl rfl)

theorem settled_journalPut (k : JournalKind) {s : State} (hs : Settled s) : Settled (journalPut k s) :=
  settled_cond (settled_programEntries (settled_programJournal (settled_programJournal (settled_appendRecord k hs)))) (settled_appendRecord k hs)

theorem settled_setUnitState (u state : Nat) {s : State} (hs : Settled s) : Settled (setUnitState u state s) := by
  have hrecord : Settled (recordUnit u (s.setUnit u { s.unit u with state := state })) := settled_journalPut _ (settled_setUnit _ _ hs)
  unfold setUnitState
  exact settled_cond hs (settled_cond (settled_raise _ hrecord) (settled_cond (settled_raise _ (hrecord.same rfl rfl))
    (settled_cond (settled_raise _ hrecord) hrecord)))

theorem settled_releaseScratch {s : State} (hs : Settled s) : Settled (releaseScratch s) := by
  unfold releaseScratch
  split
  · exact hs
  · exact settled_cond (settled_setUnitState _ _ (hs.same rfl rfl)) (hs.same rfl rfl)

theorem releaseReads_of_none {s : State} (h : s.reads = []) (ready : Nat → Bool) : releaseReads ready s = s := by
  unfold releaseReads
  rw [h]
  rfl

/-- The rebuild of every segment that is left, where no read waits for one (R166). -/
theorem rebuildAll_of_none {s : State} (h : s.reads = []) :
    (rebuildAll s).xlat.allRebuilt = true ∧ (rebuildAll s).integ = s.integ ∧ (rebuildAll s).modes = s.modes := by
  have hkeeps : Keeps kf_rebuildSegment s (s.rebuildable.foldl (fun t g => rebuildSegment g t) s) :=
    fr_foldl (fun _ _ ht => fr_rebuildSegment rfl _ ht) _ (keeps_refl _ s)
  have hnone {t : State} (ht : t.reads = []) (x : Translation) :
      releaseReads (fun _ => true) { t with xlat := x } = { t with xlat := x } :=
    releaseReads_of_none (s := { t with xlat := x }) ht _
  unfold rebuildAll
  simp only [hnone ((hkeeps.reads rfl).trans h)]
  exact ⟨trivial, hkeeps.integ rfl, hkeeps.modes rfl⟩

theorem mode_setMode (m : Nat) (s : State) : (setMode m s).mode = m := by
  unfold setMode
  split
  · assumption
  · refine (get_raise (by decide)).trans ((kp_judgeEpisode ⟨rfl, .inl (by decide)⟩ ?_ : Holds 0xD00101 m _))
    exact get_put_self _ _ _

theorem bandMode_ne_restore (s : State) : s.bandMode ≠ modeRestore := by
  unfold State.bandMode
  simp only
  split
  · decide
  · split <;> decide

/-- Step 13 without a HALT record: the module serves in the mode of its band (R330). -/
theorem endRestore_serves {s : State} (h : Settled s) :
    (endRestore s).xlat.allRebuilt = true ∧ (endRestore s).get 0x404101 = 0 ∧ (endRestore s).mode = (endRestore s).bandMode ∧
      (endRestore s).mode ≠ modeRestore := by
  have hsettled : Settled (releaseScratch ((s.put 0x404101 0).put 0x404103 ((s.clock - s.modes.vinValidAt) / 1000))) :=
    settled_releaseScratch (h.same rfl rfl)
  have hphase : Holds 0x404101 0 (releaseScratch ((s.put 0x404101 0).put 0x404103 ((s.clock - s.modes.vinValidAt) / 1000))) :=
    kp_releaseScratch ⟨rfl, .inl (by decide)⟩ (hd_put (by decide) (get_put_self _ _ _))
  unfold endRestore
  simp only
  generalize releaseScratch ((s.put 0x404101 0).put 0x404103 ((s.clock - s.modes.vinValidAt) / 1000)) = u at hsettled hphase ⊢
  have hband : (setMode u.bandMode u).bandMode = u.bandMode := by
    have hkey : (setMode u.bandMode u).get 0x200102 = u.get 0x200102 := kp_setMode ⟨rfl, .inl (by decide)⟩ _ rfl
    unfold State.bandMode at hkey ⊢
    rw [hkey]
  have hrebuilt : (setMode u.bandMode u).xlat = u.xlat := (fr_setMode (μ := kf_setMode) rfl _ (keeps_refl _ u)).xlat rfl
  rw [hsettled.halt]
  simp only
  refine ⟨(congrArg Translation.allRebuilt hrebuilt).trans hsettled.rebuilt, kp_setMode ⟨rfl, .inl (by decide)⟩ _ hphase,
    (mode_setMode _ u).trans hband.symm, ?_⟩
  rw [mode_setMode]
  exact bandMode_ne_restore u

theorem mode_rebuildAll (s : State) : (rebuildAll s).mode = s.mode := kp_rebuildAll ⟨rfl, .inl (by decide)⟩ rfl

/-- Steps 12 and 13 run to the end of RESTORE. -/
theorem restoreSteps_last {s : State} (hmode : s.mode = modeRestore) (hstep : s.modes.restoreStep = 11) (hhalt : s.integ.halt = none)
    (hreads : s.reads = []) (k : Nat) (shifts : List (Option Nat)) (f : RestoreFindings) :
    ∃ u, Settled u ∧ restoreSteps (k + 2) 13 shifts f s = endRestore u := by
  obtain ⟨hall, hinteg, hmodes⟩ := rebuildAll_of_none (s := startStep 12 s) hreads
  have htwelve : restoreStepNow 12 shifts f s = rebuildAll (startStep 12 s) := by
    unfold restoreStepNow
    rw [if_neg (by decide), if_neg (by decide), if_neg (by decide), if_neg (by decide), if_neg (by decide), if_pos rfl]
    rfl
  have hthirteen (t : State) : restoreStepNow 13 shifts f t = endRestore (startStep 13 t) := by
    unfold restoreStepNow
    rw [if_neg (by decide), if_neg (by decide), if_neg (by decide), if_neg (by decide), if_neg (by decide), if_neg (by decide), if_pos rfl]
    rfl
  have hsettled : Settled (startStep 13 (rebuildAll (startStep 12 s))) := ⟨hall, (congrArg Integrity.halt hinteg).trans hhalt⟩
  obtain ⟨-, -, -, hleft⟩ := endRestore_serves hsettled
  have hnext : (rebuildAll (startStep 12 s)).mode = modeRestore := (mode_rebuildAll _).trans hmode
  refine ⟨_, hsettled, ?_⟩
  rw [restoreSteps_next hmode (by rw [hstep]) (by decide) (by decide), htwelve,
    restoreSteps_next (n := 13) hnext (congrArg (fun m => m.restoreStep + 1) hmodes) (by decide) (by decide), hthirteen]
  exact restoreSteps_of_mode hleft k shifts f

/-! ### The obligation -/

/-- Settles O57: each step runs alone, since its end leaves the step counter at `upTo`; only step 9 may run again, and keeps that the image is used
up or owed to the medium. Steps 12 and 13 follow each other, and leave the mode, which ends the run. -/
theorem restoreRuns : Obligations.RestoreRuns := by
  intro s shifts f hmode
  refine ⟨fun hstep hlost => ?_, fun hstep => ?_, fun hstep => ?_, fun hstep hoff => ?_, fun hstep => ?_, fun hstep => ?_, fun c hc hhalt hreads => ?_⟩
  · obtain ⟨hkept, hstamp, hnext, hcount⟩ := restoreSix_runs hlost shifts (startStep 6 s)
    refine completes_restore hmode (by rw [hstep]) (by decide) (u := restoreSix shifts f (startStep 6 s)) ?_ hkept
      ⟨hkept, hstamp, hnext, hcount⟩
    unfold restoreStepNow
    exact if_pos rfl
  · exact completes_restore hmode (by rw [hstep]) (by decide) (u := startStep 7 s) rfl rfl ⟨rfl, rfl⟩
  · obtain ⟨-, hkept⟩ := atStep_judgeMedia f (s := startStep 8 s) ⟨hmode, rfl⟩
    have hend := (congrArg Modes.restoreStep (modes_restoreEight _)).trans hkept
    refine completes_restore hmode (by rw [hstep]) (by decide) (u := restoreEight (judgeMedia f (startStep 8 s))) ?_ hend
      ⟨hend, kp_restoreEight ⟨rfl, .inl (by decide)⟩ (phase_judgeMedia f _), nothingRebuilt_restoreEight _⟩
    unfold restoreStepNow
    rw [if_neg (by decide), if_pos rfl]
    rfl
  · refine ⟨restoreSteps 8 9 shifts f s, rfl, ?_⟩
    rw [restoreSteps_next hmode (by rw [hstep]) (Nat.le_refl 9) (by decide), restoreStepNow_nine]
    exact (restoreSteps_nine 7 shifts f (restoreNine_settles (s := startStep 9 s) hoff rfl)).2
  · obtain ⟨hmodes, hphase, hrebuilt⟩ := restoreTen_rebuilds (startStep 10 s)
    have hend := congrArg Modes.restoreStep hmodes
    exact completes_restore hmode (by rw [hstep]) (by decide) (u := restoreTen (startStep 10 s)) rfl hend ⟨hend, hphase, hrebuilt⟩
  · have hrun : restoreStepNow 11 shifts f s = restoreEleven (startStep 11 s) := rfl
    by_cases hhalt : s.integ.halt = none
    · rw [restoreEleven_of_none (s := startStep 11 s) hhalt] at hrun
      obtain ⟨hend, hphase, hready⟩ := raiseBoth_runs (startStep 11 s)
      exact completes_restore hmode (by rw [hstep]) (by decide) hrun hend
        ⟨hend, hphase, fun _ => hready, fun hsome => absurd hsome (by simp [hhalt])⟩
    · rw [restoreEleven_of_halt (s := startStep 11 s) (Option.isSome_iff_ne_none.mpr hhalt)] at hrun
      exact completes_restore hmode (by rw [hstep]) (by decide) hrun rfl
        ⟨rfl, get_put_self _ _ _, fun hnone => absurd hnone hhalt, fun _ p => by
          unfold State.ready
          rw [get_put_ne (by cases p <;> decide)]
          rfl⟩
  · rcases hc with ⟨hstep, rfl⟩ | ⟨hstep, rfl⟩
    · obtain ⟨u, hsettled, hrun⟩ := restoreSteps_last hmode hstep hhalt hreads 0 [] {}
      obtain ⟨hall, hphase, hband, -⟩ := endRestore_serves hsettled
      refine ⟨endRestore u, ?_, hall, hphase, hband⟩
      rw [← hrun]
      exact if_pos ⟨hmode, Nat.le_of_eq hstep.symm⟩
    · obtain ⟨u, hsettled, hrun⟩ := restoreSteps_last hmode hstep hhalt hreads 6 shifts f
      obtain ⟨hall, hphase, hband, -⟩ := endRestore_serves hsettled
      exact ⟨endRestore u, congrArg Host.Outcome.next hrun, hall, hphase, hband⟩

end Sys2Proof.Machine
end

section
/-! SUPPORT. What a triggered drain leaves of a port (R54, R90): no operation that it runs lets a window access wait, and none moves the PERST input of
a port, one lemma for each operation. -/

namespace Sys2Proof.Machine

/-! ### The relation -/

/-- What of a port only its requests, its pins and its own drain move: the accesses that wait, and the level of PERST. -/
def PortState.standing (q : PortState) : List PortWait × Bool := (q.waits, q.perst)

/-- The accesses that wait at a port and the level of its PERST are those of `r`. -/
def Standing (p : Port) (r s : State) : Prop := (s.port p).standing = (r.port p).standing

section Standing

variable {p : Port} {r : State}

theorem st_refl (s : State) : Standing p s s := rfl

theorem Standing.waits {s : State} (h : Standing p r s) : (s.port p).waits = (r.port p).waits := congrArg Prod.fst h

theorem Standing.perst {s : State} (h : Standing p r s) : (s.port p).perst = (r.port p).perst := congrArg Prod.snd h

/-- Every part of the state but the ports, as a mask of `Keeps`. -/
def standingMask : Nat := 0x3FFFFFF9F

theorem Standing.quiet {s t : State} (hs : Standing p r s) (h : Keeps standingMask s t) : Standing p r t := by
  unfold Standing
  rw [port_keeps h rfl rfl]
  exact hs

theorem Standing.same {s t : State} (hs : Standing p r s) (ha : t.portA = s.portA) (hb : t.portB = s.portB) : Standing p r t := by
  have hport : t.port p = s.port p := by
    cases p
    · exact ha
    · exact hb
  exact (congrArg PortState.standing hport).trans hs

theorem Standing.unreported {s t : State} (hs : Standing p r s) (h : unreported t = unreported s) : Standing p r t := by
  have hport : (t.port p).standing = (s.port p).standing := by
    cases p
    · exact (congrArg (fun x => x.portA.standing) h :)
    · exact (congrArg (fun x => x.portB.standing) h :)
  exact hport.trans hs

theorem st_ite (c : Prop) [Decidable c] (a b : State) : Standing p r (if c then a else b) = if c then Standing p r a else Standing p r b := by
  split <;> rfl

theorem st_cond {c : Prop} [Decidable c] {a b : State} (ha : Standing p r a) (hb : Standing p r b) : Standing p r (if c then a else b) := by
  split <;> assumption

theorem st_foldl {α : Type} {f : State → α → State} {s : State} (h : ∀ t a, Standing p r t → Standing p r (f t a)) (l : List α)
    (hs : Standing p r s) : Standing p r (l.foldl f s) := by
  induction l generalizing s with
  | nil => exact hs
  | cons a l ih => exact ih (h _ _ hs)

theorem st_modPort (q : Port) (f : PortState → PortState) (hf : ∀ v : PortState, (f v).standing = v.standing) {s : State}
    (hs : Standing p r s) : Standing p r (s.modPort q f) := by
  refine Eq.trans ?_ hs
  cases p <;> cases q
  case a.a => exact hf _
  case b.b => exact hf _
  case a.b => rfl
  case b.a => rfl

/-! ### Registers and reports -/

theorem st_bump (k : Nat) {s : State} (hs : Standing p r s) : Standing p r (s.bump k) := hs.unreported (unreported_bump _ _)
theorem st_addTo (k n : Nat) {s : State} (hs : Standing p r s) : Standing p r (s.addTo k n) := hs.unreported (unreported_addTo _ _ _)
theorem st_raiseTo (k v : Nat) {s : State} (hs : Standing p r s) : Standing p r (s.raiseTo k v) :=
  hs.quiet (fr_raiseTo rfl k v (keeps_refl _ s))
theorem st_emit (o : Out) {s : State} (hs : Standing p r s) : Standing p r (emit o s) := hs.unreported (unreported_emit _ _)
theorem st_takeStamp {s : State} (hs : Standing p r s) : Standing p r (takeStamp s) := hs.unreported (unreported_takeStamp _)
theorem st_drawn {s : State} (hs : Standing p r s) : Standing p r (drawn s) := hs.same rfl rfl
theorem st_raise (src : Nat) {s : State} (hs : Standing p r s) : Standing p r (raise src s) := hs.unreported (unreported_raise _ _)
theorem st_raiseIf (c : Bool) (src : Nat) {s : State} (hs : Standing p r s) : Standing p r (raiseIf c src s) :=
  hs.unreported (unreported_raiseIf _ _ _)
theorem st_count (code q n : Nat) {s : State} (hs : Standing p r s) : Standing p r (count code q n s) :=
  hs.unreported (unreported_count _ _ _ _)
theorem st_count1 (code q : Nat) {s : State} (hs : Standing p r s) : Standing p r (count1 code q s) := hs.unreported (unreported_count1 _ _ _)
theorem st_obs (o : Observe) {s : State} (hs : Standing p r s) : Standing p r { s with obs := o } := hs.same rfl rfl

theorem st_raiseTimes (n src : Nat) {s : State} (hs : Standing p r s) : Standing p r (raiseTimes n src s) := by
  induction n generalizing s with
  | zero => exact hs
  | succ n ih => exact ih (st_raise src hs)

/-! ### Samples and responses -/

theorem st_placeSample (e : SampleRecord) {s : State} (hs : Standing p r s) : Standing p r (placeSample e s) := by
  unfold placeSample
  simp (maxDischargeDepth := 40) only [hs, st_ite, ite_self, st_bump, st_raise, st_obs]

theorem st_sampleWindow (q : Port) (opcode line : Nat) (sampled : Bool) {s : State} (hs : Standing p r s) :
    Standing p r (sampleWindow q opcode line sampled s) := by
  unfold sampleWindow
  exact st_cond (st_placeSample _ (st_takeStamp hs)) hs

theorem st_sampleRead (q : Port) (opcode line accepted outcome unit steps cls flags : Nat) (poison : Bool) {s : State} (hs : Standing p r s) :
    Standing p r (sampleRead q opcode line accepted outcome unit steps cls flags poison s) := st_placeSample _ (st_takeStamp hs)

theorem st_sampleStore (q : Port) (x : Store) (stamp : Nat) {s : State} (hs : Standing p r s) : Standing p r (sampleStore q x stamp s) := by
  unfold sampleStore
  exact st_cond (st_placeSample _ hs) hs

theorem st_sendData (q : Port) (tag : Nat) (d : Line) (poison : Bool) {s : State} (hs : Standing p r s) :
    Standing p r (sendData q tag d poison s) := by
  unfold sendData
  have h := st_count 0x05 q.code 64 (st_modPort q (fun v => { v with windowRead := v.windowRead + 64 }) (fun _ => rfl)
    (st_emit (.readData q tag (if poison then 0 else d) poison (s.devLoad q)) hs))
  exact st_cond hs (st_cond (st_count1 _ _ h) h)

theorem st_answerBarrier (q : Port) (b : BarrierRead) {s : State} (hs : Standing p r s) : Standing p r (answerBarrier q b s) :=
  st_raiseTo _ _ (st_sampleWindow _ _ _ _ (st_sendData _ _ _ _ hs))

theorem st_releaseBarriers (q : Port) (tag : Nat) {s : State} (hs : Standing p r s) : Standing p r (releaseBarriers q tag s) :=
  st_foldl (fun _ b ht => st_answerBarrier q b ht) _ (st_modPort q _ (by intro _; rfl) hs)

theorem st_sendCmp (q : Port) (tag : Nat) {s : State} (hs : Standing p r s) : Standing p r (sendCmp q tag s) :=
  st_cond hs (st_releaseBarriers q tag (st_emit _ hs))

theorem st_cmpStore (q : Port) (x : Store) {s : State} (hs : Standing p r s) : Standing p r (cmpStore q x s) :=
  st_cond hs (st_sendCmp q _ hs)

/-! ### Reads -/

theorem st_addRead (x : Read) {s : State} (hs : Standing p r s) : Standing p r (addRead x s) := hs.quiet (fr_addRead rfl x (keeps_refl _ s))

theorem st_dropRead (id : Nat) {s : State} (hs : Standing p r s) : Standing p r (dropRead id s) := hs.quiet (fr_dropRead rfl id (keeps_refl _ s))

theorem st_startRebuild (seg : Nat) {s : State} (hs : Standing p r s) : Standing p r (startRebuild seg s) :=
  hs.quiet (fr_startRebuild rfl seg (keeps_refl _ s))

theorem st_promptDone (x : Read) {s : State} (hs : Standing p r s) : Standing p r (promptDone x s) := by
  unfold promptDone
  exact st_cond (st_raise _ (st_bump _ (st_raiseTo _ _ hs))) (st_raiseTo _ _ hs)

theorem st_answerRead (x : Read) (v : Version) {s : State} (hs : Standing p r s) : Standing p r (answerRead x v s) := by
  unfold answerRead
  split <;> simp (maxDischargeDepth := 40) only [hs, st_ite, ite_self, st_dropRead, st_promptDone, st_sampleRead, st_sendData]

theorem st_answerMerges (q : Port) (line : Nat) {s : State} (hs : Standing p r s) : Standing p r (answerMerges q line s) := by
  unfold answerMerges
  exact st_cond hs (st_foldl (fun _ _ ht => st_answerRead _ _ ht) _ hs)

theorem st_dropPrefetches (d : Nat) {s : State} (hs : Standing p r s) : Standing p r (dropPrefetches d s) := by
  unfold dropPrefetches
  exact st_cond (st_foldl (fun _ _ ht => st_bump _ (st_dropRead _ ht)) _ hs) hs

theorem st_noteReconstruction (x : Read) {s : State} (hs : Standing p r s) : Standing p r (noteReconstruction x s) := by
  unfold noteReconstruction
  split
  · exact st_count1 _ _ hs
  · exact st_count1 _ _ (st_bump _ hs)

theorem st_placeRead (x : Read) {s : State} (hs : Standing p r s) : Standing p r (placeRead x s) := by
  unfold placeRead
  simp only [hs, st_ite, ite_self, st_addRead, st_dropPrefetches, st_noteReconstruction]

theorem st_tagRead (x : Read) {s : State} (hs : Standing p r s) : Standing p r (tagRead x s) := by
  unfold tagRead
  refine st_cond hs ?_
  split
  · exact hs
  · exact st_placeRead _ hs

theorem st_dispatchRead (q : Port) (x : Read) {s : State} (hs : Standing p r s) : Standing p r (dispatchRead q x s) := by
  unfold dispatchRead
  split <;> simp (maxDischargeDepth := 40) +contextual only [hs, st_ite, ite_self, implies_true, st_bump, st_count1, st_dropRead,
    st_placeRead, st_tagRead, st_foldl]

theorem st_readMedium (q : Port) (x : Read) {s : State} (hs : Standing p r s) : Standing p r (readMedium q x s) := by
  unfold readMedium
  split <;> simp only [hs, st_ite, ite_self, st_addRead, st_answerRead, st_dispatchRead, st_startRebuild]

/-! ### Stores that leave the queue -/

theorem st_grantCredits (q : Port) {s : State} (hs : Standing p r s) : Standing p r (grantCredits q s) := by
  unfold grantCredits
  exact st_cond hs (st_modPort q _ (by intro _; rfl) hs)

theorem st_storeCommitted (line : Nat) (d : Line) (poison : Bool) (stamp wmode : Nat) (cmpTo : List (Port × Nat)) {s : State}
    (hs : Standing p r s) : Standing p r (storeCommitted line d poison stamp wmode cmpTo s) :=
  hs.quiet (fr_storeCommitted rfl _ _ _ _ _ _ (keeps_refl _ s))

/-! ### Window accesses -/

theorem st_stray (q : Port) {s : State} (hs : Standing p r s) : Standing p r (stray q s) := st_raise _ (st_bump _ hs)

theorem st_strayIf (c : Bool) (q : Port) {s : State} (hs : Standing p r s) : Standing p r (strayIf c q s) := st_cond (st_stray q hs) hs

theorem st_dropStores (q : Port) (bit n : Nat) {s : State} (hs : Standing p r s) : Standing p r (dropStores q bit n s) := by
  unfold dropStores
  exact st_cond hs (st_raiseTimes _ _ (st_addTo _ _ (st_modPort q _ (by intro _; rfl) hs)))

theorem st_setGroup (g : Nat) (v : Group) {s : State} (hs : Standing p r s) : Standing p r (s.setGroup g v) :=
  hs.quiet (fr_setGroup rfl g v (keeps_refl _ s))

theorem st_setReserved (q : Port) (l : List Nat) {s : State} (hs : Standing p r s) : Standing p r (setReserved q l s) :=
  hs.quiet (fr_setReserved rfl q l (keeps_refl _ s))

theorem st_setResultLine (q : Port) (c : Nat) (l : ResultLine) {s : State} (hs : Standing p r s) : Standing p r (setResultLine q c l s) :=
  hs.quiet (fr_setResultLine rfl q c l (keeps_refl _ s))

theorem st_plainStore (q : Port) (c : Nat) (be : ByteEnables) (d : Line) {s : State} (hs : Standing p r s) : Standing p r (plainStore q c be d s) :=
  hs.quiet (fr_plainStore rfl q c be d (keeps_refl _ s))

theorem st_conditionalEffect (q : Port) (c : Nat) (be : ByteEnables) (d : Line) {s : State} (hs : Standing p r s) :
    Standing p r (conditionalEffect q c be d s) := hs.quiet (fr_conditionalEffect rfl q c be d (keeps_refl _ s))

theorem st_reserve (q : Port) (c : Nat) {s : State} (hs : Standing p r s) : Standing p r (reserve q c s) := by
  unfold reserve
  exact st_cond (st_setResultLine _ _ _ hs)
    (st_cond (st_setResultLine _ _ _ (st_setReserved _ _ hs)) (st_raise _ (st_bump _ hs)))

theorem st_startDiscard (q : Port) {s : State} (hs : Standing p r s) : Standing p r (startDiscard q s) := by
  unfold startDiscard
  exact st_cond (st_modPort q _ (by intro _; rfl) hs) (st_modPort q _ (by intro _; rfl) hs)

theorem st_writeDiscard (q : Port) (be : ByteEnables) (d : Line) {s : State} (hs : Standing p r s) : Standing p r (writeDiscard q be d s) := by
  have h := st_modPort q (fun v => { v with discard := { v.discard with
    start := ((writtenWord 0 be d).map (· &&& 0x3FFFFFFFFFF)).getD v.discard.start,
    length := ((writtenWord 1 be d).map (· &&& 0x7FFFFFFFFFF)).getD v.discard.length } }) (fun _ => rfl) hs
  unfold writeDiscard
  simp only
  split
  · exact st_cond (st_startDiscard q h) h
  · exact h

theorem st_writeGroup (q : Port) (g seq : Nat) (be : ByteEnables) (d : Line) {s : State} (hs : Standing p r s) :
    Standing p r (writeGroup q g seq be d s) := by
  unfold writeGroup
  refine st_cond (st_raise _ (st_dropStores _ _ _ hs)) ?_
  simp only
  split
  · exact st_strayIf _ _ (st_setGroup _ _ hs)
  · exact (st_strayIf _ _ (st_setGroup _ _ hs)).quiet (fr_submitCommand rfl _ _ (keeps_refl _ _))

theorem st_writeAlias (q : Port) (aliasNo c : Nat) (be : ByteEnables) (d : Line) {s : State} (hs : Standing p r s) :
    Standing p r (writeAlias q aliasNo c be d s) := by
  have h := st_strayIf (anyPartial be) q hs
  unfold writeAlias
  exact st_cond (st_stray q hs) (st_cond h (st_cond (st_dropStores _ _ _ h) (st_cond (st_plainStore _ _ _ _ h) (st_conditionalEffect _ _ _ _ h))))

theorem st_writePortPage (q owner : Port) (offset : Nat) (be : ByteEnables) (d : Line) {s : State} (hs : Standing p r s) :
    Standing p r (writePortPage q owner offset be d s) := by
  unfold writePortPage
  exact st_cond (st_writeDiscard _ _ _ (st_strayIf _ _ hs)) (st_stray _ hs)

theorem st_writeDma (q : Port) (k offset : Nat) (be : ByteEnables) (d : Line) {s : State} (hs : Standing p r s) :
    Standing p r (writeDma q k offset be d s) := by
  have h := st_strayIf (anyPartial be) q hs
  unfold writeDma
  exact st_cond (st_cond (st_dropStores _ _ _ h) (st_cond (h.quiet (fr_writeDescriptor rfl _ _ _ (keeps_refl _ _)))
    (h.quiet (fr_writeControl rfl _ _ _ _ (keeps_refl _ _))))) (st_stray _ hs)

theorem st_writeTarget (q : Port) (seq : Nat) (be : ByteEnables) (d : Line) (target : WindowTarget) {s : State} (hs : Standing p r s) :
    Standing p r (writeTarget q seq be d s target) := by
  cases target with
  | groupLine g => exact st_writeGroup _ _ _ _ _ hs
  | cell aliasNo c => exact st_writeAlias _ _ _ _ _ hs
  | portPage owner offset => exact st_writePortPage _ _ _ _ _ hs
  | counters l => exact st_stray _ hs
  | dma k offset => exact st_writeDma _ _ _ _ _ hs
  | unused => exact st_stray _ hs

theorem st_answerWindow (q : Port) (tag line : Nat) (sampled : Bool) (d : Line) {s : State} (hs : Standing p r s) :
    Standing p r (answerWindow q tag line sampled d s) := st_sampleWindow _ _ _ _ (st_sendData _ _ _ _ hs)

theorem st_clearBarrier (q : Port) {s : State} (hs : Standing p r s) : Standing p r (clearBarrier q s) :=
  st_bump _ (st_modPort q _ (by intro _; rfl) hs)

theorem st_readBarrier (q : Port) (tag line acceptedAt : Nat) (sampled : Bool) {s : State} (hs : Standing p r s) :
    Standing p r (readBarrier q tag line acceptedAt sampled s) := by
  unfold readBarrier
  exact st_cond (st_answerBarrier _ _ (st_clearBarrier q hs)) (st_modPort q _ (by intro _; rfl) (st_clearBarrier q hs))

theorem st_readTarget (q : Port) (w : PortWait) (target : WindowTarget) {s : State} (hs : Standing p r s) :
    Standing p r (readTarget q w s target) := by
  cases target with
  | groupLine g => exact st_cond (st_setGroup _ _ hs) (st_answerWindow _ _ _ _ _ hs)
  | cell aliasNo c =>
    show Standing p r (readCell _ _ _ _ _ _ _)
    unfold readCell
    exact st_cond (st_answerWindow _ _ _ _ _ (st_drawn hs)) (st_cond (st_answerWindow _ _ _ _ _ hs)
      (st_cond (st_answerWindow _ _ _ _ _ hs) (st_cond (st_answerWindow _ _ _ _ _ (st_reserve _ _ hs)) (st_answerWindow _ _ _ _ _ hs))))
  | portPage owner offset =>
    show Standing p r (readPortPage _ _ _ _ _ _ _ _)
    unfold readPortPage
    simp only [st_ite, hs, st_answerWindow, st_stray, st_readBarrier, ite_self]
  | counters l => exact st_answerWindow _ _ _ _ _ hs
  | dma k offset =>
    show Standing p r (readDma _ _ _ _ _ _ _)
    unfold readDma
    simp only [st_ite, hs, st_answerWindow, st_stray, ite_self]
  | unused => exact st_answerWindow _ _ _ _ _ (st_stray _ hs)

theorem st_serveAccess (q : Port) (w : PortWait) {s : State} (hs : Standing p r s) : Standing p r (serveAccess q w s) := by
  unfold serveAccess
  split
  · exact st_readTarget _ _ _ hs
  · rename_i be d poison _
    have h : Standing p r (if poison = true then stray q s else writeTarget q w.seq be d s (windowTarget w.dpa)) :=
      st_cond (st_stray _ hs) (st_writeTarget _ _ _ _ _ hs)
    exact st_cond (st_sendCmp _ _ (st_sampleWindow _ _ _ _ h)) (st_sampleWindow _ _ _ _ h)

/-! ### Programs of the journal -/

theorem st_sendCmps (l : List (Port × Nat)) {s : State} (hs : Standing p r s) : Standing p r (sendCmps l s) :=
  st_foldl (fun _ _ ht => st_sendCmp _ _ ht) l hs

theorem st_noteHealth {s : State} (hs : Standing p r s) : Standing p r (noteHealth s) :=
  st_cond hs (st_raise _ (hs.same rfl rfl))

theorem st_appendRecord (k : JournalKind) {s : State} (hs : Standing p r s) : Standing p r (appendRecord k s) := (st_takeStamp hs).same rfl rfl

theorem st_wearOut (u : Nat) {s : State} (hs : Standing p r s) : Standing p r (wearOut u s) := by
  unfold wearOut
  exact st_cond (st_noteHealth (st_raise _ (st_bump _ (st_bump _ (st_appendRecord _ (hs.quiet (fr_setUnit rfl _ _ (keeps_refl _ s)))))))) hs

theorem st_sectorsProgrammed (u n page : Nat) {s : State} (hs : Standing p r s) : Standing p r (sectorsProgrammed u n page s) := by
  have hdisturbed := (st_count 0x21 (channelOfUnit u) n hs).quiet (fr_disturb rfl u n (keeps_refl _ _))
  unfold sectorsProgrammed
  exact st_cond hs (st_wearOut u ((hdisturbed.quiet (fr_setUnit rfl _ _ (keeps_refl _ _))).quiet (fr_addCycles rfl u _ (keeps_refl _ _))))

theorem st_programsRun (kind : OpKind) (u n bytes : Nat) {s : State} (hs : Standing p r s) : Standing p r (programsRun kind u n bytes s) := by
  unfold programsRun
  exact st_cond hs (st_raiseTo _ _ (st_raiseTo _ _ (st_count _ _ _ (st_addTo _ _ hs))))

theorem st_ringSectorsOn (u n page : Nat) {s : State} (hs : Standing p r s) : Standing p r (ringSectorsOn u n page s) :=
  st_sectorsProgrammed _ _ _ (st_programsRun _ _ _ _ hs)

theorem st_stripeSectors (g : Ring) (stripe row n : Nat) {s : State} (hs : Standing p r s) : Standing p r (stripeSectors g stripe row n s) := by
  have h (f : State → Nat × Nat → State) (hf : ∀ t a, Standing p r t → Standing p r (f t a)) (l : List (Nat × Nat)) := st_foldl hf l hs
  unfold stripeSectors
  exact st_cond (h _ (fun _ _ ht => st_ringSectorsOn _ _ _ ht) _)
    (st_ringSectorsOn _ _ _ (h _ (fun _ _ ht => st_ringSectorsOn _ _ _ ht) _))

theorem st_ringSectors (g : Ring) (stripes row n : Nat) {s : State} (hs : Standing p r s) : Standing p r (ringSectors g stripes row n s) := by
  induction stripes generalizing row n s with
  | zero => exact hs
  | succ stripes ih => exact st_cond hs (ih _ _ (st_stripeSectors _ _ _ _ hs))

theorem st_journalSectors (n : Nat) {s : State} (hs : Standing p r s) : Standing p r (journalSectors n s) :=
  st_cond hs (Standing.same (st_ringSectors _ _ _ _ hs) rfl rfl)

theorem st_programSector {s : State} (hs : Standing p r s) : Standing p r (programSector s) := st_journalSectors 1 (hs.same rfl rfl)

theorem st_programEntries {s : State} (hs : Standing p r s) : Standing p r (programEntries s) := by
  have hcovered := hs.quiet (fr_coverJournal rfl (keeps_refl _ s))
  unfold programEntries
  exact st_cond hcovered (Standing.same (st_foldl (fun _ _ ht => st_programSector ht) _ hcovered) rfl rfl)

theorem st_programJournal {s : State} (hs : Standing p r s) : Standing p r (programJournal s) := st_journalSectors _ (hs.same rfl rfl)

theorem st_programTail {s : State} (hs : Standing p r s) : Standing p r (programTail s) :=
  st_programEntries (st_programJournal (st_programJournal hs))

theorem st_journalPut (k : JournalKind) {s : State} (hs : Standing p r s) : Standing p r (journalPut k s) :=
  st_cond (st_programTail (st_appendRecord k hs)) (st_appendRecord k hs)

/-! ### Discards -/

theorem st_discardRange (q : Port) (entry first n : Nat) {s : State} (hs : Standing p r s) : Standing p r (discardRange q entry first n s) := by
  have hrecorded := st_journalPut (.discard q.code first n (dirtyPages first n s).med.head)
    (hs.quiet (fr_dirtyPages rfl first n (keeps_refl _ s)))
  have hend (l : List (Port × Nat)) {t : State} (ht : Standing p r t) :
      Standing p r (sendCmps l (rearmStall (dropCachedRange (first * 64) (n * 64) t))) :=
    st_sendCmps l (ht.quiet (fr_rearmStall rfl (fr_dropCachedRange rfl _ _ (keeps_refl _ t))))
  exact hend _ (hrecorded.same rfl rfl)

theorem st_finishDiscard (q : Port) (entry : Nat) {s : State} (hs : Standing p r s) : Standing p r (finishDiscard q entry s) := by
  unfold finishDiscard
  exact st_modPort q _ (by intro _; rfl) (st_discardRange _ _ _ _ hs)

theorem st_runDiscard (q : Port) {s : State} (hs : Standing p r s) : Standing p r (runDiscard q s) := by
  have h : Standing p r (if s.freeDiscardEntry.isNone then unmap 0 s else s) := st_cond (hs.quiet (fr_unmap rfl 0 (keeps_refl _ s))) hs
  unfold runDiscard
  refine st_cond ?_ hs
  simp only
  split
  · exact st_finishDiscard _ _ h
  · exact h

theorem st_finishDiscards {s : State} (hs : Standing p r s) : Standing p r (finishDiscards s) := st_runDiscard _ (st_runDiscard _ hs)

/-! ### Write groups -/

theorem st_discardProvisional (g : Nat) {s : State} (hs : Standing p r s) : Standing p r (discardProvisional g s) := by
  have hend (l : List (Port × Nat)) {t : State} (ht : Standing p r t) : Standing p r (sendCmps l (rearmStall t)) :=
    st_sendCmps l (ht.quiet (fr_rearmStall rfl (keeps_refl _ t)))
  exact hend _ (hs.same rfl rfl)

theorem st_checkPool {s : State} (hs : Standing p r s) : Standing p r (checkPool s) := by
  have hpool (b : Bool) : Standing p r { s with xlat := { s.xlat with poolAbove := b } } := hs.same rfl rfl
  unfold checkPool
  exact st_cond (st_cond (hpool _) hs) (st_cond (st_raise _ (hpool _)) hs)

theorem st_forceAbortNow (g cause : Nat) {s : State} (hs : Standing p r s) : Standing p r (forceAbortNow g cause s) :=
  st_raise _ (st_bump _ (st_journalPut _ (st_dropStores _ _ _ (st_checkPool (st_setGroup _ _ (st_discardProvisional g hs))))))

theorem st_forceAbort (g cause detail : Nat) {s : State} (hs : Standing p r s) : Standing p r (forceAbort g cause detail s) := by
  unfold forceAbort
  refine st_cond hs ?_
  split
  · exact st_forceAbortNow _ _ hs
  · exact st_cond (st_setGroup _ _ (st_forceAbortNow _ _ hs)) (st_setGroup _ _ hs)

theorem st_commitLines (g stamp : Nat) {s : State} (hs : Standing p r s) : Standing p r (commitLines g stamp s) :=
  hs.quiet (fr_commitLines rfl g stamp (keeps_refl _ s))

theorem st_decideCommit (g : Nat) {s : State} (hs : Standing p r s) : Standing p r (decideCommit g s) := by
  unfold decideCommit
  simp only
  split
  · exact hs
  · split
    · exact st_raise _ (st_count1 _ _ (st_bump _ (st_checkPool (st_setGroup _ _ (st_discardProvisional _ (st_journalPut _ hs))))))
    · exact st_sendCmps _ (st_count1 _ _ (st_bump _ (st_checkPool (st_setGroup _ _ (st_journalPut _ (st_commitLines _ _ hs))))))

theorem st_applyCommand (g : Nat) (c : GroupCommand) {s : State} (hs : Standing p r s) : Standing p r (applyCommand g c s) := by
  unfold applyCommand
  exact st_cond (st_programTail (st_setGroup _ _ (st_journalPut _ hs))) (st_cond (st_journalPut _ (st_setGroup _ _ hs))
    (st_cond (st_journalPut _ (st_bump _ (st_checkPool (st_setGroup _ _ (st_discardProvisional _ hs)))))
      (st_cond (st_journalPut _ (st_setGroup _ _ hs)) hs)))

theorem st_wakeDiscard (q : Port) {s : State} (hs : Standing p r s) : Standing p r (wakeDiscard q s) :=
  st_cond (st_modPort q _ (by intro _; rfl) hs) hs

theorem st_answerReaders (g : Nat) {s : State} (hs : Standing p r s) : Standing p r (answerReaders g s) :=
  st_foldl (fun _ _ ht => st_sampleWindow _ _ _ _ (st_sendData _ _ _ _ ht)) _ (st_setGroup _ _ hs)

theorem st_writeResult (g : Nat) (c : GroupCommand) {s : State} (hs : Standing p r s) : Standing p r (writeResult g c s) := by
  have h (v : Group) (n : Nat) (c : Prop) [Decidable c] : Standing p r (if c then (s.setGroup g v).raiseTo 0x502009 n else s.setGroup g v) :=
    st_cond (st_raiseTo _ _ (st_setGroup _ _ hs)) (st_setGroup _ _ hs)
  unfold writeResult
  simp only
  split
  · exact h _ _ _
  · exact st_cond (st_forceAbortNow _ _ (h _ _ _)) (st_setGroup _ _ (h _ _ _))

theorem st_finishCommand (g : Nat) {s : State} (hs : Standing p r s) : Standing p r (finishCommand g s) := by
  have hnext (c : GroupCommand) {t : State} (ht : Standing p r t) : Standing p r (startNext g (writeResult g c t)) :=
    (st_writeResult g c ht).quiet (fr_startNext rfl g (keeps_refl _ _))
  unfold finishCommand
  split
  · exact hs
  · exact st_wakeDiscard _ (st_wakeDiscard _ (st_answerReaders _ (hnext _ (st_cond (st_applyCommand _ _ hs) hs))))

theorem st_settleGroup (n g : Nat) {s : State} (hs : Standing p r s) : Standing p r (settleGroup n g s) := by
  induction n generalizing s with
  | zero => exact hs
  | succ n ih =>
    have hdecided : Standing p r (if s.commitReady g then decideCommit g s else s) := st_cond (st_decideCommit g hs) hs
    have hdiscarded := st_cond (c := (if s.commitReady g then decideCommit g s else s).canFinish g = true) hdecided (st_finishDiscards hdecided)
    exact st_cond (ih (st_finishCommand g hdiscarded)) hdiscarded

theorem st_settle (g : Nat) {s : State} (hs : Standing p r s) : Standing p r (settle g s) := st_settleGroup _ g hs

/-! ### Rebuilds -/

theorem st_sectorsMoved (ch n : Nat) {s : State} (hs : Standing p r s) : Standing p r (sectorsMoved ch n s) :=
  st_addTo _ _ (st_addTo _ _ (st_count _ _ _ (st_count _ _ _ hs)))

theorem st_agentReads (cls unit n : Nat) {s : State} (hs : Standing p r s) : Standing p r (agentReads cls unit n s) :=
  st_cond (st_foldl (fun _ _ ht => st_sectorsMoved _ _ ht) _ hs) (st_sectorsMoved _ _ hs)

theorem st_releaseReads (ready : Nat → Bool) {s : State} (hs : Standing p r s) : Standing p r (releaseReads ready s) := by
  refine st_foldl (fun t x ht => ?_) _ hs
  have h := st_raiseTo 0x404106 (t.clock - x.acceptedAt) (st_dropRead x.id ht)
  simp only
  split
  · exact st_readMedium _ _ h
  · exact st_readMedium _ _ h
  · exact h

theorem st_readCheckpoint (seg : Nat) {s : State} (hs : Standing p r s) : Standing p r (readCheckpoint seg s) := by
  unfold readCheckpoint
  split
  · exact st_agentReads _ _ _ hs
  · exact hs

theorem st_finishRebuild (seg : Nat) {s : State} (hs : Standing p r s) : Standing p r (finishRebuild seg s) := by
  have hrebuilt : Standing p r (rebuildSegment seg (readCheckpoint seg s)) :=
    (st_readCheckpoint seg hs).quiet (fr_rebuildSegment rfl seg (keeps_refl _ _))
  exact (st_releaseReads _ hrebuilt).quiet (fr_nextRebuild rfl (keeps_refl _ _))

theorem st_demandNow (seg : Nat) {s : State} (hs : Standing p r s) : Standing p r (demandNow seg s) :=
  st_cond hs (st_finishRebuild seg (st_cond hs (st_bump _ hs)))

/-! ### Visible stores -/

theorem st_storeProvisional (g line : Nat) (d : Line) (poison : Bool) (stamp wmode : Nat) (cmpTo : List (Port × Nat)) {s : State}
    (hs : Standing p r s) : Standing p r (storeProvisional g line d poison stamp wmode cmpTo s) := by
  have hstaged {t : State} (ht : Standing p r t) (tag : Option Nat) :
      Standing p r (checkPool (dirtySegment (segmentOfLine line) (stageLine line (some g) tag d poison stamp wmode cmpTo t))) :=
    st_checkPool (ht.quiet (fr_dirtySegment rfl _ (fr_stageLine rfl _ _ _ _ _ _ _ _ (keeps_refl _ t))))
  exact hstaged (st_cond (st_setGroup _ _ hs) hs) _

theorem st_markConflict (g page : Nat) {s : State} (hs : Standing p r s) : Standing p r (markConflict g page s) :=
  hs.quiet (fr_markConflict rfl g page (keeps_refl _ s))

theorem st_visibleStore (q : Port) (x : Store) (d : Line) (poison : Bool) {s : State} (hs : Standing p r s) :
    Standing p r (visibleStore q x d poison s) := by
  have hdropped : Standing p r (if (x.prot && x.whole) = true then s else cmpStore q x s) := st_cond hs (st_cmpStore _ _ hs)
  have hhere {t : State} (ht : Standing p r t) (stamp : Nat) :
      Standing p r (sampleStore q x stamp (if (x.prot && !x.whole) = true then cmpStore q x t else t)) :=
    st_sampleStore _ _ _ (st_cond (st_cmpStore _ _ ht) ht)
  unfold visibleStore
  simp only
  split
  · exact st_dropStores _ _ _ hdropped
  · exact st_dropStores _ _ _ hdropped
  · exact st_dropStores _ _ _ (st_forceAbort _ _ _ hdropped)
  · exact hhere (st_storeProvisional _ _ _ _ _ _ _ (st_takeStamp hs)) _
  · exact hhere (st_storeCommitted _ _ _ _ _ _ (st_markConflict _ _ (st_takeStamp hs))) _
  · exact hhere (st_storeCommitted _ _ _ _ _ _ (st_takeStamp hs)) _

/-! ### The drain -/

theorem st_endMerge (q : Port) (x : Store) {s : State} (hs : Standing p r s) : Standing p r (endMerge q x s) := by
  unfold endMerge
  split
  · exact st_dropRead _ hs
  · exact hs

theorem st_unqueue (q : Port) (x : Store) {s : State} (hs : Standing p r s) : Standing p r (unqueue q x s) := by
  unfold unqueue
  exact st_grantCredits q (st_modPort q _ (by intro _; rfl) hs)

theorem st_transfer (q : Port) (x : Store) {s : State} (hs : Standing p r s) : Standing p r (transfer q x s) := by
  have h := st_endMerge q x (st_unqueue q x hs)
  unfold transfer
  exact st_cond (st_visibleStore _ _ _ _ h) (st_cond (st_answerMerges _ _ (st_visibleStore _ _ _ _ h))
    (st_cond (st_answerMerges _ _ (st_raise _ (st_bump _ (st_cmpStore _ _ h)))) (st_answerMerges _ _ (st_visibleStore _ _ _ _ h))))

theorem st_settleHolds (q : Port) {s : State} (hs : Standing p r s) : Standing p r (settleHolds q s) := by
  refine st_foldl (fun t x ht => ?_) _ hs
  split
  · exact ht
  · exact st_settle _ ht

theorem st_drainLoop (n : Nat) (q : Port) (bound : Nat) {s : State} (hs : Standing p r s) : Standing p r (drainLoop n q bound s) := by
  induction n generalizing s with
  | zero => exact hs
  | succ n ih =>
    unfold drainLoop
    split
    · exact hs
    · exact ih (st_transfer _ _ (st_cond hs (st_demandNow _ hs)))

theorem st_drainTo (q : Port) (bound : Nat) {s : State} (hs : Standing p r s) : Standing p r (drainTo q bound s) := by
  unfold drainTo
  exact st_modPort q _ (by intro _; rfl) (st_drainLoop _ q bound (st_settleHolds q hs))

theorem st_serveFlushes (q : Port) {s : State} (hs : Standing p r s) : Standing p r (serveFlushes q s) := by
  unfold serveFlushes
  exact st_foldl (fun _ _ ht => st_raiseIf _ _ (st_emit _ ht)) _ (st_modPort q _ (by intro _; rfl) hs)

end Standing

/-- The accesses that waited take effect, and leave the level of PERST. -/
theorem perst_serveWaits (n : Nat) (p : Port) (s : State) : ((serveWaits n p s).port p).perst = (s.port p).perst := by
  induction n generalizing s with
  | zero => rfl
  | succ n ih =>
    unfold serveWaits
    split
    · rfl
    · split
      · rfl
      · rw [ih, (st_serveAccess p _ (st_refl _)).perst, port_modPort_self]

theorem perst_triggerDrain (p : Port) (s : State) : ((triggerDrain p s).port p).perst = (s.port p).perst := by
  have hresume (t : State) : ((resumePort p t).port p).perst = (t.port p).perst := by
    have hdrained : Standing p t (if (t.port p).draining = 0 then t else drainTo p (t.port p).draining t) :=
      st_cond (st_refl t) (st_drainTo p _ (st_refl t))
    unfold resumePort
    exact (st_serveFlushes p (st_refl _)).perst.trans ((perst_serveWaits _ p _).trans hdrained.perst)
  exact (hresume _).trans (st_drainTo p _ (st_refl s)).perst

/-- A triggered drain of a port with no waiting access takes and loses no reservation of a port. -/
theorem reserved_triggerDrain {p : Port} {s : State} (h : (s.port p).waits = []) (q : Port) : (triggerDrain p s).reserved q = s.reserved q := by
  have hdrain (bound : Nat) (t : State) : (drainTo p bound t).reserved q = t.reserved q :=
    reserved_keeps (fr_drainTo (μ := kf_drainTo) rfl p bound (keeps_refl _ t)) rfl rfl q
  have hwaits (bound : Nat) (t : State) : ((drainTo p bound t).port p).waits = (t.port p).waits := (st_drainTo p bound (st_refl t)).waits
  have hflush (t : State) : (serveFlushes p t).reserved q = t.reserved q :=
    reserved_keeps (fr_serveFlushes (μ := kf_serveFlushes) rfl p (keeps_refl _ t)) rfl rfl q
  have hresume {t : State} (ht : (t.port p).waits = []) : (resumePort p t).reserved q = t.reserved q := by
    unfold resumePort
    simp only
    split
    · rw [hflush, ht]
      rfl
    · rw [hflush, hwaits, ht]
      exact hdrain _ t
  exact (hresume ((hwaits _ s).trans h)).trans (hdrain _ s)

end Sys2Proof.Machine
end

section
/-! SUPPORT. The events of a port's link: training, its exceptions, containment, PERST and the loss of the link (R45 to R48, R81, R90, R107). -/

namespace Sys2Proof.Machine

/-! ### Reservations of a port -/

/-- A port that loses every reservation holds none (R107). -/
theorem reserved_loseAll_self (p : Port) (cause : LossCause) (s : State) : (loseAll p cause s).reserved p = [] := by
  have hfold (l : List Nat) {t : State} (ht : ∀ c ∈ t.reserved p, c ∈ l) :
      (l.foldl (fun t c => loseReservation p c cause t) t).reserved p = [] := by
    induction l generalizing t with
    | nil => exact List.eq_nil_iff_forall_not_mem.mpr fun c hc => List.not_mem_nil (ht c hc)
    | cons c l ih =>
      refine ih fun d hd => ?_
      rw [reserved_loseReservation_self, List.mem_filter, bne_iff_ne] at hd
      exact (List.mem_cons.mp (ht d hd.1)).resolve_left hd.2
  exact hfold _ fun _ hc => hc

/-- A port exception ends the port's reservations, and no access that waited takes one after it (R90, R107). -/
theorem reserved_portException {p : Port} {s : State} (h : (s.port p).waits = []) (cause : Nat) : (portException p cause s).reserved p = [] := by
  let lost := loseAll p .exception ((s.bump (p.key 0x05)).put (p.key 0x06) cause)
  have hraised : (raise (portSource p 6) lost).reserved p = lost.reserved p :=
    reserved_keeps (fr_raise (μ := kf_raise) rfl _ (keeps_refl _ _)) rfl rfl p
  have hwaits : (lost.port p).waits = [] := by
    have hport : lost.port p = ((s.bump (p.key 0x05)).put (p.key 0x06) cause).port p :=
      port_keeps (fr_loseAll (μ := kf_loseAll) rfl p _ (keeps_refl _ _)) rfl rfl p
    rw [hport, port_put]
    exact (congrArg PortState.waits (port_put _ _ _ _)).trans h
  unfold portException
  refine (reserved_triggerDrain ?_ p).trans (hraised.trans (reserved_loseAll_self p _ _))
  rw [port_waits_raise]
  exact hwaits

theorem perst_portException (p : Port) (cause : Nat) (s : State) : ((portException p cause s).port p).perst = (s.port p).perst := by
  have hport : (loseAll p .exception ((s.bump (p.key 0x05)).put (p.key 0x06) cause)).port p = ((s.bump (p.key 0x05)).put (p.key 0x06) cause).port p :=
    port_keeps (fr_loseAll (μ := kf_loseAll) rfl p _ (keeps_refl _ _)) rfl rfl p
  unfold portException
  rw [perst_triggerDrain, port_perst_raise, hport, port_put]
  exact congrArg PortState.perst (port_put _ _ _ _)

/-! ### Requests that are forgotten, and the fall of a link -/

theorem pins_forgetRequests (p : Port) (s : State) : ((forgetRequests p s).port p).perst = (s.port p).perst ∧
    ((forgetRequests p s).port p).contained = (s.port p).contained := by
  have hgroups (f : Nat × Group → Group) (l : Tbl Group) (t : State) : (l.foldl (fun t e => t.setGroup e.1 (f e)) t).port p = t.port p :=
    port_keeps (fr_foldl (fun _ _ ht => fr_setGroup rfl _ _ ht) l (keeps_refl kf_setGroup t)) rfl rfl p
  have hreads (l : List Read) (t : State) : (l.foldl (fun t r => dropRead r.id t) t).port p = t.port p :=
    port_keeps (fr_foldl (fun _ _ ht => fr_dropRead rfl _ ht) l (keeps_refl kf_dropRead t)) rfl rfl p
  have hstaging (t : State) (l : List Staged) : State.port { t with staging := l } p = t.port p := by cases p <;> rfl
  unfold forgetRequests
  simp only
  rw [hstaging, hreads, port_modPort_self]
  simp only [hgroups, and_self]

theorem perst_dropLink (p : Port) (s : State) : ((dropLink p s).port p).perst = (s.port p).perst := by
  have hsessions (t : State) : (endPortSessions p t).port p = t.port p :=
    port_keeps (fr_endPortSessions (μ := kf_endPortSessions) rfl p (keeps_refl _ t)) rfl rfl p
  unfold dropLink
  simp only
  rw [port_perst_raiseIf, hsessions, port_modPort_self]
  simp only [port_put]
  exact (pins_forgetRequests p s).1

theorem reserved_forgetRequests (p q : Port) (s : State) : (forgetRequests p s).reserved q = s.reserved q :=
  reserved_keeps (fr_forgetRequests (μ := kf_forgetRequests) rfl p (keeps_refl _ s)) rfl rfl q

theorem reserved_dropLink (p q : Port) (s : State) : (dropLink p s).reserved q = s.reserved q :=
  reserved_keeps (fr_dropLink (μ := kf_dropLink) rfl p (keeps_refl _ s)) rfl rfl q

theorem get_dropLink_rate (p : Port) (s : State) : (dropLink p s).get (p.key 0x02) = 0 ∧ (dropLink p s).get (p.key 0x03) = 0 := by
  have hq : Quiet kw_none (p.key 0x02) 0 ∧ Quiet kw_none (p.key 0x03) 0 := by cases p <;> exact ⟨⟨rfl, .inl (by decide)⟩, ⟨rfl, .inl (by decide)⟩⟩
  have hne : p.key 0x02 ≠ p.key 0x03 := by cases p <;> decide
  unfold dropLink
  exact ⟨hd_raiseIf hq.1 _ _ (kp_endPortSessions hq.1 p (kp_modPort hq.1 p _ (hd_put hne (get_put_self _ _ _)))),
    hd_raiseIf hq.2 _ _ (kp_endPortSessions hq.2 p (kp_modPort hq.2 p _ (get_put_self _ _ _)))⟩

/-! ### Containment -/

theorem quiet_containedKeys (p : Port) (v : Nat) : Quiet kw_none (p.key 0x01) v ∧ Quiet kw_none (p.key 0x06) v ∧ Quiet kw_none (p.key 0x05) v ∧
    Quiet kw_dropLink (p.key 0x06) v ∧ Quiet kw_resetPort (p.key 0x06) v := by
  cases p <;> exact ⟨⟨rfl, .inl (by decide)⟩, ⟨rfl, .inl (by decide)⟩, ⟨rfl, .inl (by decide)⟩, ⟨rfl, .inl (by decide)⟩, ⟨rfl, .inl (by decide)⟩⟩

/-- Containment: the port exception of cause 2, link state 4, and the port contained (R45). -/
theorem contain_contains (p : Port) (s : State) : (contain p s).get (p.key 0x06) = 2 ∧ Counted (p.key 0x05) 1 s (contain p s) ∧
    ((s.port p).waits = [] → (contain p s).reserved p = []) ∧ (contain p s).linkState p = 4 ∧ ((contain p s).port p).contained = true := by
  obtain ⟨hcause, hcounted, -⟩ := portException_notes p 2 s
  have hne : p.key 0x06 ≠ p.key 0x01 ∧ p.key 0x05 ≠ p.key 0x01 := by cases p <;> decide
  have hafter {k v : Nat} (hq : Quiet kw_none k v) (hk : k ≠ p.key 0x01) (h : Holds k v (portException p 2 s)) : Holds k v (contain p s) :=
    kp_forgetRequests hq p (hd_put hk (kp_modPort hq p _ (hd_raise hq _ h)))
  refine ⟨hafter (quiet_containedKeys p _).2.1 hne.1 hcause, hafter (quiet_containedKeys p _).2.2.1 hne.2 hcounted, fun hw => ?_,
    kp_forgetRequests (quiet_containedKeys p 4).1 p (get_put_self _ _ _), ?_⟩
  · unfold contain
    rw [reserved_forgetRequests]
    refine Eq.trans ?_ (reserved_portException hw 2)
    exact reserved_keeps (fr_put (μ := kf_raise) rfl _ _ (fr_modPort rfl p _ (fr_raise rfl _ (keeps_refl _ _)))) rfl rfl p
  · unfold contain
    rw [(pins_forgetRequests p _).2, port_put, port_modPort_self]

/-! ### Training -/

theorem ready_of_get {s t : State} {p : Port} (h : t.get (p.key 0x04) = s.get (p.key 0x04)) : t.ready p = s.ready p := by
  unfold State.ready
  rw [h]

/-- A link that comes up: its rate and its width are reported, and link state 2. -/
def trained (p : Port) (rate width : Nat) (s : State) : State :=
  (((s.put (p.key 0x02) rate).put (p.key 0x03) width).put (p.key 0x01) 2).modPort p fun q => { q with retries := 0 }

theorem nominalWidth_trained (p : Port) (rate width : Nat) (s : State) : (trained p rate width s).nominalWidth p = s.nominalWidth p := by
  cases p <;> rfl

theorem mode_trained (p : Port) (rate width : Nat) (s : State) : (trained p rate width s).mode = s.mode := by
  have hne : 0xD00101 ≠ p.key 0x01 ∧ 0xD00101 ≠ p.key 0x02 ∧ 0xD00101 ≠ p.key 0x03 := by cases p <;> decide
  unfold trained State.mode
  rw [get_modPort, get_put_ne hne.1, get_put_ne hne.2.2, get_put_ne hne.2.1]

theorem get_trained (p : Port) (rate width : Nat) (s : State) : (trained p rate width s).get (p.key 0x02) = rate ∧
    (trained p rate width s).get (p.key 0x03) = width ∧ (trained p rate width s).get (p.key 0x01) = 2 ∧
    (trained p rate width s).get (p.key 0x04) = s.get (p.key 0x04) := by
  have hne : (p.key 0x02 ≠ p.key 0x01 ∧ p.key 0x02 ≠ p.key 0x03 ∧ p.key 0x03 ≠ p.key 0x01) ∧
      p.key 0x04 ≠ p.key 0x01 ∧ p.key 0x04 ≠ p.key 0x02 ∧ p.key 0x04 ≠ p.key 0x03 := by cases p <;> decide
  obtain ⟨⟨h21, h23, h31⟩, h41, h42, h43⟩ := hne
  unfold trained
  simp only [get_modPort]
  refine ⟨?_, ?_, get_put_self _ _ _, ?_⟩
  · rw [get_put_ne h21, get_put_ne h23, get_put_self]
  · rw [get_put_ne h31, get_put_self]
  · rw [get_put_ne h41, get_put_ne h43, get_put_ne h42]

theorem linkKeys_not_report (p : Port) : ¬reportKey (p.key 0x01) ∧ ¬reportKey (p.key 0x02) ∧ ¬reportKey (p.key 0x03) ∧ ¬reportKey (p.key 0x04) := by
  cases p <;> decide

/-- A link that has come up is operational at once where READY is high (R80, R531). -/
def operational (p : Port) (s : State) : State := if s.ready p then raise (portSource p 0) (s.put (p.key 0x01) 3) else s

theorem execLinkUp_of_training {s : State} {p : Port} {rate width : Nat} (hstate : s.linkState p = 1) (hok : s.linkOk p rate width = true) :
    execLinkUp p rate width s =
      .next (operational p (raiseIf (width != s.nominalWidth p) (portSource p 3) (trained p rate width s))) := by
  unfold execLinkUp
  rw [if_pos (by simp [hstate, hok])]
  simp only
  rw [← nominalWidth_trained p rate width s]
  rfl

theorem canOccur_put {k : Nat} (hk : 0xD00101 ≠ k) (v : Nat) (s : State) (n : Nat) : (s.put k v).canOccur n = s.canOccur n :=
  canOccur_of_mode (get_put_ne hk v) n

theorem linkUp_comesUp {s : State} {p : Port} (rate width : Nat) (hstate : s.linkState p = 1) (hok : s.linkOk p rate width = true) :
    Completes (.linkUp p rate width) s fun t => t.get (p.key 0x02) = rate ∧ t.get (p.key 0x03) = width ∧
      t.linkState p = (if s.ready p then 3 else 2) ∧ (width ≠ s.nominalWidth p → Raised (portSource p 3) s t) ∧
      (s.ready p = true → Raised (portSource p 0) s t) := by
  refine ⟨_, execLinkUp_of_training hstate hok, ?_⟩
  obtain ⟨hrate, hwidth, hlink, hready⟩ := get_trained p rate width s
  obtain ⟨r1, r2, r3, r4⟩ := linkKeys_not_report p
  have hmode := mode_trained p rate width s
  have hnarrow : width ≠ s.nominalWidth p → Raised (portSource p 3) s
      (raiseIf (width != s.nominalWidth p) (portSource p 3) (trained p rate width s)) := by
    intro hne hcan
    unfold raiseIf
    rw [if_pos (by simpa using hne)]
    exact latch_self ((canOccur_of_mode hmode _).trans hcan)
  have hreported {k : Nat} (hk : ¬reportKey k) : (raiseIf (width != s.nominalWidth p) (portSource p 3) (trained p rate width s)).get k =
      (trained p rate width s).get k := get_raiseIf hk
  generalize raiseIf (width != s.nominalWidth p) (portSource p 3) (trained p rate width s) = u at hnarrow hreported
  have hu : u.ready p = s.ready p := ready_of_get ((hreported r4).trans hready)
  have hmodeU : u.mode = s.mode := (hreported (by decide)).trans hmode
  have hne : p.key 0x02 ≠ p.key 0x01 ∧ p.key 0x03 ≠ p.key 0x01 := by cases p <;> decide
  have hkey : 0xD00101 ≠ p.key 0x01 := by cases p <;> decide
  have hlatch : ∀ j, sourceKey j 0x01 ≠ p.key 0x01 := fun j => by unfold sourceKey; cases p <;> simp [Port.key, Port.idx] <;> omega
  unfold operational
  rw [hu]
  by_cases hup : s.ready p = true
  · simp only [hup, if_true]
    refine ⟨?_, ?_, ?_, fun hw hcan => ?_, fun _ hcan => ?_⟩
    · rw [get_raise r2, get_put_ne hne.1, hreported r2, hrate]
    · rw [get_raise r3, get_put_ne hne.2, hreported r3, hwidth]
    · unfold State.linkState
      rw [get_raise r1, get_put_self]
    · exact latch_raise ((get_put_ne (hlatch _) _).trans (hnarrow hw hcan))
    · exact latch_self ((canOccur_put hkey 3 u _).trans ((canOccur_of_mode hmodeU _).trans hcan))
  · simp only [hup]
    exact ⟨(hreported r2).trans hrate, (hreported r3).trans hwidth, (hreported r1).trans hlink, hnarrow, fun h => absurd h (by simp)⟩

theorem linkTrainingFailed_retries {s : State} {p : Port} (hstate : s.linkState p = 1) :
    Completes (.linkTrainingFailed p) s fun t => Raised (portSource p 2) s t ∧
      ((s.port p).retries < s.get 0x300106 → t.linkState p = 1 ∧ (t.port p).retries = (s.port p).retries + 1) ∧
      (s.get 0x300106 ≤ (s.port p).retries → t.linkState p = 0 ∧ (t.port p).heldDown = true) := by
  obtain ⟨r1, -, -, -⟩ := linkKeys_not_report p
  have hkey : 0xD00101 ≠ p.key 0x01 := by cases p <;> decide
  have hgoes : (s.linkState p == 1) = true := by simp [hstate]
  by_cases hleft : (s.port p).retries < s.get 0x300106
  · refine ⟨raise (portSource p 2) (s.modPort p fun q => { q with retries := (s.port p).retries + 1, trainRate := s.rateEntry p }), ?_,
      fun hcan => ?_, fun _ => ⟨?_, ?_⟩, fun hover => absurd hleft (Nat.not_lt.mpr hover)⟩
    · show execLinkTrainingFailed p s = _
      unfold execLinkTrainingFailed
      rw [if_pos hgoes]
      exact if_pos hleft
    · exact latch_self ((canOccur_of_mode (get_modPort _ _ _ _) _).trans hcan)
    · exact (get_raise r1).trans ((get_modPort _ _ _ _).trans hstate)
    · rw [port_retries_raise, port_modPort_self]
  · refine ⟨raise (portSource p 2) ((s.modPort p fun q => { q with heldDown := true }).put (p.key 0x01) 0), ?_,
      fun hcan => ?_, fun h => absurd h hleft, fun _ => ⟨?_, ?_⟩⟩
    · show execLinkTrainingFailed p s = _
      unfold execLinkTrainingFailed
      rw [if_pos hgoes]
      exact if_neg hleft
    · exact latch_self ((canOccur_put hkey 0 _ _).trans ((canOccur_of_mode (get_modPort _ _ _ _) _).trans hcan))
    · exact (get_raise r1).trans (get_put_self _ _ _)
    · rw [port_heldDown_raise, port_put, port_modPort_self]

theorem portDetect_trains {s : State} {p : Port} (hruns : s.linksRun = true) (henabled : s.portEnabled p = true)
    (hperst : (s.port p).perst = false) (hheld : (s.port p).heldDown = false) (hstate : s.linkState p = 0) :
    Completes (.portDetect p) s fun t => t.linkState p = 1 := by
  refine ⟨_, if_pos (by simp [hruns, henabled, hperst, hheld, hstate]), ?_⟩
  exact (get_modPort _ _ _ _).trans (get_put_self _ _ _)

/-! ### PERST -/

/-- The port under PERST, before its source is reported: the exception has drained it, and its link has fallen (R81). -/
def heldByPerst (p : Port) (s : State) : State :=
  resetPort p (dropLink p (portException p 3 (s.modPort p fun q => { q with perst := true })))

theorem mode_heldByPerst (p : Port) (s : State) : (heldByPerst p s).mode = s.mode :=
  kp_resetPort ⟨rfl, .inl (by decide)⟩ p (kp_dropLink ⟨rfl, .inl (by decide)⟩ p (kp_portException ⟨rfl, .inl (by decide)⟩ p 3 (get_modPort _ _ _ _)))

theorem heldByPerst_holds (p : Port) (s : State) : (heldByPerst p s).linkState p = 0 ∧ ((heldByPerst p s).port p).perst = true ∧
    ((heldByPerst p s).port p).decoders = [] ∧ (heldByPerst p s).get (p.key 0x07) = 0 ∧ (heldByPerst p s).get (p.key 0x06) = 3 ∧
    ((s.port p).waits = [] → (heldByPerst p s).reserved p = []) := by
  let t := s.modPort p fun q => { q with perst := true }
  have hport : t.port p = { s.port p with perst := true } := port_modPort_self _ _ _
  have hne : p.key 0x01 ≠ p.key 0x07 := by cases p <;> decide
  obtain ⟨-, -, -, hquietLink, hquietReset⟩ := quiet_containedKeys p 3
  refine ⟨?_, ?_, ?_, get_put_self _ _ _, ?_, fun hw => ?_⟩
  · exact (get_put_ne hne 0).trans ((get_modPort _ _ _ _).trans (linkState_dropLink p _))
  · unfold heldByPerst resetPort
    rw [port_put, port_modPort_self]
    exact (perst_dropLink p _).trans ((perst_portException p 3 t).trans (congrArg PortState.perst hport))
  · unfold heldByPerst resetPort
    rw [port_put, port_modPort_self]
  · exact kp_resetPort hquietReset p (kp_dropLink hquietLink p (portException_notes p 3 t).1)
  · have hreset : (heldByPerst p s).reserved p = (dropLink p (portException p 3 t)).reserved p :=
      reserved_keeps (fr_resetPort (μ := kf_resetPort) rfl p (keeps_refl _ _)) rfl rfl p
    rw [hreset, reserved_dropLink]
    exact reserved_portException ((congrArg PortState.waits hport).trans hw) 3

theorem perst_asserted {s : State} {p : Port} (henabled : s.portEnabled p = true) (hon : s.vcoreOn = true) (hlow : (s.port p).perst = false) :
    Completes (.perst p true) s fun t => t.linkState p = 0 ∧ (t.port p).perst = true ∧ (t.port p).decoders = [] ∧ t.get (p.key 0x07) = 0 ∧
      t.get (p.key 0x06) = 3 ∧ ((s.port p).waits = [] → t.reserved p = []) ∧ Raised (portSource p 5) s t := by
  obtain ⟨hlink, hperst, hdecoders, hseven, hsix, hreserved⟩ := heldByPerst_holds p s
  have hr : ¬reportKey (p.key 0x01) ∧ ¬reportKey (p.key 0x07) ∧ ¬reportKey (p.key 0x06) := by cases p <;> decide
  refine ⟨raise (portSource p 5) (heldByPerst p s), ?_, (get_raise hr.1).trans hlink, ?_, ?_, (get_raise hr.2.1).trans hseven,
    (get_raise hr.2.2).trans hsix, fun hw => ?_, fun hcan => latch_self ((canOccur_of_mode (mode_heldByPerst p s) _).trans hcan)⟩
  · show execPerst p true s = _
    unfold execPerst
    exact if_pos (by simp [henabled, hon, hlow])
  · rw [port_perst_raise, hperst]
  · rw [port_decoders_raise, hdecoders]
  · exact (reserved_keeps (fr_raise (μ := kf_raise) rfl _ (keeps_refl _ _)) rfl rfl p).trans (hreserved hw)

theorem perst_released (p : Port) (s : State) :
    Completes (.perst p false) s (fun t => (t.port p).perst = false ∧ t.linkState p = s.linkState p) := by
  refine ⟨s.modPort p fun q => { q with perst := false }, rfl, ?_, get_modPort _ _ _ _⟩
  rw [port_modPort_self]

/-! ### Exceptions, the loss of a link, and viral -/

theorem portException_reports {s : State} {p : Port} {cause : Nat} (henabled : s.portEnabled p = true) (hon : s.vcoreOn = true) (hlow : 1 ≤ cause)
    (hhigh : cause ≤ 7) : Completes (.portException p cause) s fun t => t.get (p.key 0x06) = cause ∧ Counted (p.key 0x05) 1 s t ∧
      ((s.port p).waits = [] → t.reserved p = []) ∧ (cause = 2 → t.linkState p = 4 ∧ (t.port p).contained = true) := by
  have hgoes : (s.portEnabled p && s.vcoreOn && decide (1 ≤ cause) && decide (cause ≤ 7)) = true := by simp [henabled, hon, hlow, hhigh]
  by_cases htwo : cause = 2
  · subst htwo
    obtain ⟨hcause, hcounted, hreserved, hcontained⟩ := contain_contains p s
    refine ⟨contain p s, ?_, hcause, hcounted, hreserved, fun _ => hcontained⟩
    show execPortException p 2 s = _
    unfold execPortException
    rw [if_pos hgoes]
    exact if_pos rfl
  · obtain ⟨hcause, hcounted, -⟩ := portException_notes p cause s
    refine ⟨portException p cause s, ?_, hcause, hcounted, fun hw => reserved_portException hw cause, fun h => absurd h htwo⟩
    show execPortException p cause s = _
    unfold execPortException
    rw [if_pos hgoes]
    exact if_neg htwo

theorem surpriseLinkLoss_drops {s : State} {p : Port} (h : s.linkState p = 2 ∨ s.linkState p = 3 ∨ s.linkState p = 4) :
    Completes (.surpriseLinkLoss p) s fun t => t.linkState p = 0 ∧ t.get (p.key 0x02) = 0 ∧ t.get (p.key 0x03) = 0 ∧
      ((s.port p).waits = [] → t.reserved p = []) ∧ t.get (p.key 0x06) = 1 := by
  obtain ⟨hrate, hwidth⟩ := get_dropLink_rate p (portException p 1 s)
  refine ⟨dropLink p (portException p 1 s), ?_, linkState_dropLink p _, hrate, hwidth, fun hw => ?_,
    kp_dropLink (quiet_containedKeys p 1).2.2.2.1 p (portException_notes p 1 s).1⟩
  · show execSurpriseLinkLoss p s = _
    unfold execSurpriseLinkLoss
    exact if_pos (by simpa [or_assoc] using h)
  · rw [reserved_dropLink]
    exact reserved_portException hw 1

theorem quiet_viral (p : Port) : Quiet kw_contain (sourceKey (portSource p 7) 0x01) 1 := by
  cases p <;> exact ⟨rfl, .inr ⟨⟨_, rfl⟩, rfl⟩⟩

theorem viralReceived_contains {s : State} {p : Port} (h : s.ioOpen p = true) : Completes (.viralReceived p) s fun t =>
    t.linkState p = 4 ∧ (t.port p).contained = true ∧ t.get (p.key 0x06) = 2 ∧ ((s.port p).waits = [] → t.reserved p = []) ∧
      Raised (portSource p 7) s t := by
  obtain ⟨hcause, -, hreserved, hlink, hcontained⟩ := contain_contains p (raise (portSource p 7) s)
  exact ⟨_, if_pos h, hlink, hcontained, hcause, fun hw => hreserved ((port_waits_raise _ _).trans hw),
    fun hcan => kp_contain (quiet_viral p) p (latch_self hcan)⟩

/-- Settles O32: the reservations end before the drain, which serves no access where none waits, and no operation of a drain moves PERST. -/
theorem portsTrainAndFail : Obligations.PortsTrainAndFail :=
  ⟨fun _ _ => ⟨portDetect_trains, linkUp_comesUp, linkTrainingFailed_retries⟩,
    fun s p => ⟨fun _ => portException_reports, perst_asserted, perst_released p s, surpriseLinkLoss_drops, viralReceived_contains⟩⟩

end Sys2Proof.Machine
end

section
/-! SUPPORT. The frames of the data path's own events: which parts of the state, and which entries, a read event, a drain, a group event, a discard
or a burst may write, and that a drain with no access waiting touches no cell, reservation or result line (R54, R85, R90, R131, R168, R507). -/

namespace Sys2Proof.Machine

/-! ### Frames -/

/-- The parts of the state that what happens to a read on its way may write, as a mask of `Keeps`. -/
def readEventMask : Nat := 0x38F01FC64

/-- The entries that what happens to a read on its way may write, beside those of reports. -/
def readEventWrites : Writes :=
  ⟨[0x407005, 0x407006, 0x407007, 0x407008, 0x40700B, 0x408102, 0x408103, 0x408104, 0x408105, 0x408106, 0x408107, 0x408108, 0x70030A, 0x800101,
    0x800102, 0x800103, 0x800104, 0x800105, 0x800106, 0x801002, 0xB03004, 0xB04003],
   [(0x612000, 0x613000, 256)]⟩

theorem frame_of_readEvent {c : Instr} (h : shape c = .readEvent) : Frame c readEventMask readEventWrites := by
  cases c
  case mediumSectorReadDone =>
    exact ⟨fun _ => fr_execMediumSectorReadDone rfl _ _ _ (keeps_refl _ _), fun _ _ hq _ hs => kp_execMediumSectorReadDone (hq.mono rfl) _ _ _ hs⟩
  case patienceExpiry =>
    exact ⟨fun _ => fr_execPatienceExpiry rfl _ (keeps_refl _ _), fun _ _ hq _ hs => kp_execPatienceExpiry (hq.mono rfl) _ hs⟩
  case suspension =>
    exact ⟨fun _ => fr_execSuspension rfl _ (keeps_refl _ _), fun _ _ hq _ hs => kp_execSuspension (hq.mono rfl) _ hs⟩
  case resume =>
    exact ⟨fun _ => fr_execResume rfl _ (keeps_refl _ _), fun _ _ hq _ hs => kp_execResume (hq.mono rfl) _ hs⟩
  case suspendOverrun =>
    exact ⟨fun _ => fr_execSuspendOverrun rfl _ (keeps_refl _ _), fun _ _ hq _ hs => kp_execSuspendOverrun (hq.mono rfl) _ hs⟩
  case portResponseDeadline =>
    exact ⟨fun _ => fr_execPortResponseDeadline rfl _ (keeps_refl _ _), fun _ _ hq _ hs => kp_execPortResponseDeadline (hq.mono rfl) _ hs⟩
  case patrolVisit => exact absurd h (shape_visit_ne ⟨nofun, nofun⟩)
  case outOfTurnVisit => exact absurd h (shape_visit_ne ⟨nofun, nofun⟩)
  all_goals simp only [shape, reduceCtorEq] at h

/-- The parts of the state that a drain of a queue may write, as a mask of `Keeps`. -/
def drainMask : Nat := 0x3877ECFE4

/-- The entries that a drain of a queue may write, beside those of reports. -/
def drainWrites : Writes :=
  ⟨[0x301001, 0x301002, 0x301003, 0x301008, 0x301101, 0x301102, 0x301103, 0x301108, 0x302001, 0x302002, 0x302003, 0x302004, 0x302005, 0x302006,
    0x404105, 0x404106, 0x406004, 0x406005, 0x406006, 0x406009, 0x407008, 0x407009, 0x408101, 0x408102, 0x408103, 0x408106, 0x502004, 0x502005,
    0x502006, 0x502007, 0x502009, 0x508003, 0x508004, 0x508005, 0x508006, 0x611003, 0x619004, 0xB03004, 0xB04003],
   [(0x612000, 0x613000, 256), (0x620000, 0x624000, 256)]⟩

theorem frame_of_drain {c : Instr} (h : shape c = .drain) : Frame c drainMask drainWrites := by
  cases c
  case mergePlacement =>
    exact ⟨fun _ => fr_execMergePlacement rfl _ _ (keeps_refl _ _), fun _ _ hq _ hs => kp_execMergePlacement (hq.mono rfl) _ _ hs⟩
  case globalVisibilityTransfer =>
    exact ⟨fun _ => fr_execGlobalVisibilityTransfer rfl _ (keeps_refl _ _), fun _ _ hq _ hs => kp_execGlobalVisibilityTransfer (hq.mono rfl) _ hs⟩
  case globalPersistentFlushPhase1 =>
    exact ⟨fun _ => fr_execGlobalPersistentFlushPhase1 rfl _ (keeps_refl _ _),
      fun _ _ hq _ hs => kp_execGlobalPersistentFlushPhase1 (hq.mono rfl) _ hs⟩
  case globalPersistentFlushPhase2 =>
    exact ⟨fun _ => fr_execGlobalPersistentFlushPhase2 rfl _ (keeps_refl _ _),
      fun _ _ hq _ hs => kp_execGlobalPersistentFlushPhase2 (hq.mono rfl) _ hs⟩
  case patrolVisit => exact absurd h (shape_visit_ne ⟨nofun, nofun⟩)
  case outOfTurnVisit => exact absurd h (shape_visit_ne ⟨nofun, nofun⟩)
  all_goals simp only [shape, reduceCtorEq] at h

/-- The parts of the state that the end of a group command, or a commit, may write, as a mask of `Keeps`. -/
def groupEventMask : Nat := 0x3877ECEE4

/-- The entries that the end of a group command, or a commit, may write, beside those of reports. -/
def groupEventWrites : Writes :=
  ⟨[0x301001, 0x301002, 0x301003, 0x301008, 0x301101, 0x301102, 0x301103, 0x301108, 0x302001, 0x302002, 0x302003, 0x302004, 0x302005, 0x302006,
    0x404105, 0x404106, 0x406009, 0x407008, 0x407009, 0x408101, 0x408102, 0x408103, 0x408106, 0x502004, 0x502005, 0x502006, 0x502007, 0x502009,
    0x508003, 0x508004, 0x508005, 0x508006, 0x611003, 0x619004, 0xB03004, 0xB04003],
   [(0x612000, 0x613000, 256), (0x620000, 0x624000, 256)]⟩

theorem frame_of_groupEvent {c : Instr} (h : shape c = .groupEvent) : Frame c groupEventMask groupEventWrites := by
  cases c
  case commitInstant =>
    exact ⟨fun _ => fr_execCommitInstant rfl _ (keeps_refl _ _), fun _ _ hq _ hs => kp_execCommitInstant (hq.mono rfl) _ hs⟩
  case groupCommandFinish =>
    exact ⟨fun _ => fr_execGroupCommandFinish rfl _ (keeps_refl _ _), fun _ _ hq _ hs => kp_execGroupCommandFinish (hq.mono rfl) _ hs⟩
  case patrolVisit => exact absurd h (shape_visit_ne ⟨nofun, nofun⟩)
  case outOfTurnVisit => exact absurd h (shape_visit_ne ⟨nofun, nofun⟩)
  all_goals simp only [shape, reduceCtorEq] at h

/-- The parts of the state that the effect of a discard may write, as a mask of `Keeps`. -/
def discardEventMask : Nat := 0x387000EE4

/-- The entries that the effect of a discard may write, beside those of reports. -/
def discardEventWrites : Writes :=
  ⟨[0x302005, 0x302006, 0x611003, 0x619004, 0xB03004, 0xB04003],
   [(0x612000, 0x613000, 256), (0x620000, 0x624000, 256)]⟩

theorem frame_of_discardEvent {c : Instr} (h : shape c = .discardEvent) : Frame c discardEventMask discardEventWrites := by
  cases c
  case discardInstant =>
    exact ⟨fun _ => fr_execDiscardInstant rfl _ (keeps_refl _ _), fun _ _ hq _ hs => kp_execDiscardInstant (hq.mono rfl) _ hs⟩
  case unmapperDone =>
    exact ⟨fun _ => fr_execUnmapperDone rfl _ (keeps_refl _ _), fun _ _ hq _ hs => kp_execUnmapperDone (hq.mono rfl) _ hs⟩
  case patrolVisit => exact absurd h (shape_visit_ne ⟨nofun, nofun⟩)
  case outOfTurnVisit => exact absurd h (shape_visit_ne ⟨nofun, nofun⟩)
  all_goals simp only [shape, reduceCtorEq] at h

/-- The parts of the state that a burst of a DMA channel may write, as a mask of `Keeps`. -/
def burstMask : Nat := 0x387020EE4

/-- The entries that a burst of a DMA channel may write, beside those of reports. -/
def burstWrites : Writes :=
  ⟨[0x302005, 0x302006, 0x404105, 0x611003, 0x613008, 0x613009, 0x61300A, 0x619004, 0x700306, 0x70030A, 0xB03004, 0xB04003, 0xC00102, 0xC00104],
   [(0x612000, 0x613000, 256), (0x620000, 0x624000, 256), (0xC01000, 0xC02000, 256)]⟩

theorem frame_of_burst {c : Instr} (h : shape c = .burst) : Frame c burstMask burstWrites := by
  cases c
  case dmaBurstPlaced =>
    exact ⟨fun _ => fr_execDmaBurstPlaced rfl _ (keeps_refl _ _), fun _ _ hq _ hs => kp_execDmaBurstPlaced (hq.mono rfl) _ hs⟩
  case drainIdleTimer =>
    exact ⟨fun _ => fr_execDrainIdleTimer rfl _ (keeps_refl _ _), fun _ _ hq _ hs => kp_execDrainIdleTimer (hq.mono rfl) _ hs⟩
  case patrolVisit => exact absurd h (shape_visit_ne ⟨nofun, nofun⟩)
  case outOfTurnVisit => exact absurd h (shape_visit_ne ⟨nofun, nofun⟩)
  all_goals simp only [shape, reduceCtorEq] at h

/-! ### Drains where no access waits -/

/-- Every part of the state but the cells, the reservations and the result lines, as a mask of `Keeps`. -/
def noCoordinationMask : Nat := 0x3FF83FFFF

section Drained

variable {r s : State} {p : Port}

/-- With no access waiting at its port, what goes on after a drain touches no cell, no reservation and no result line. -/
theorem keeps_resumePort_of_noWaits (hw : (s.port p).waits = []) (hs : Keeps noCoordinationMask r s) :
    Keeps noCoordinationMask r (resumePort p s) := by
  have hdrained : ((if (s.port p).draining = 0 then s else drainTo p (s.port p).draining s).port p).waits = [] :=
    (st_cond (st_refl s) (st_drainTo p _ (st_refl s))).waits.trans hw
  have hkept := fr_cond (c := (s.port p).draining = 0) hs (fr_drainTo rfl p (s.port p).draining hs)
  unfold resumePort
  simp only [hdrained]
  exact fr_serveFlushes rfl p hkept

theorem keeps_goOn_of_noWaits (hw : (s.port p).waits = []) (hs : Keeps noCoordinationMask r s) : Keeps noCoordinationMask r (goOn p s) :=
  fr_closeDrained rfl p (keeps_resumePort_of_noWaits hw hs)

end Drained

theorem rest_goOn {cs : Tbl Word} (p : Port) {s : State} (hs : AtRest cs s) : AtRest cs (goOn p s) := rest_closeDrained p (rest_resumePort p hs)

theorem keeps_exec_drain_of_noWaits {c : Instr} (h : shape c = .drain) {s : State} (hw : ∀ p, (s.port p).waits = []) :
    NextIs (Keeps noCoordinationMask s) (exec c s) := by
  have hs := keeps_refl noCoordinationMask s
  cases c
  case mergePlacement p tag =>
    show NextIs _ (execMergePlacement p tag s)
    unfold execMergePlacement
    split
    · exact hs
    · rename_i x _
      rw [nextIs_ite]
      split
      · exact keeps_goOn_of_noWaits ((st_transfer p x (st_refl s)).waits.trans (hw p)) (fr_transfer rfl p x hs)
      · exact fr_mergeWaits rfl p x hs
  case globalVisibilityTransfer p =>
    have hstalled : Keeps standingMask s (endStall s) := fr_endStall rfl (keeps_refl _ s)
    have hstands (x : Store) : Standing p s (rearmStall (transfer p x (endStall s))) :=
      (st_transfer p x ((st_refl s).quiet hstalled)).quiet (fr_rearmStall rfl (keeps_refl _ _))
    show NextIs _ (execGlobalVisibilityTransfer p s)
    unfold execGlobalVisibilityTransfer
    split
    · exact hs
    · rename_i x _
      rw [nextIs_ite]
      split
      · exact fr_stallDrain rfl hs
      · exact keeps_goOn_of_noWaits ((hstands x).waits.trans (hw p)) (fr_rearmStall rfl (fr_transfer rfl p x (fr_endStall rfl hs)))
  case globalPersistentFlushPhase1 p => exact fr_execGlobalPersistentFlushPhase1 rfl p hs
  case globalPersistentFlushPhase2 p => exact fr_execGlobalPersistentFlushPhase2 rfl p hs
  case patrolVisit => exact absurd h (shape_visit_ne ⟨nofun, nofun⟩)
  case outOfTurnVisit => exact absurd h (shape_visit_ne ⟨nofun, nofun⟩)
  all_goals simp only [shape, reduceCtorEq] at h

theorem keeps_exec_groupEvent_of_noWaits {c : Instr} (h : shape c = .groupEvent) {s : State} (hw : ∀ p, (s.port p).waits = []) :
    NextIs (Keeps noCoordinationMask s) (exec c s) := by
  have hs := keeps_refl noCoordinationMask s
  cases c
  case commitInstant g => exact fr_execCommitInstant rfl g hs
  case groupCommandFinish g =>
    have hfinished : AtRest s.cells (finishCommand g.val s) := rest_finishCommand g.val (atRest_iff.mpr hw)
    show NextIs _ (if _ then .next (goOn .b (goOn .a (finishCommand g.val s))) else .next s)
    split
    · exact keeps_goOn_of_noWaits ((rest_goOn .a hfinished).waits .b)
        (keeps_goOn_of_noWaits (hfinished.waits .a) (fr_finishCommand rfl g.val hs))
    · exact hs
  case patrolVisit => exact absurd h (shape_visit_ne ⟨nofun, nofun⟩)
  case outOfTurnVisit => exact absurd h (shape_visit_ne ⟨nofun, nofun⟩)
  all_goals simp only [shape, reduceCtorEq] at h

/-- A command that names no part of coordination while no access waits leaves those parts at rest. -/
theorem leavesAtRest_of_keeps {c : Instr}
    (h : ∀ s : State, (∀ p, (s.port p).waits = []) → NextIs (Keeps noCoordinationMask s) (exec c s)) :
    LeavesAtRest c (fun s => (s.cells, s.reservedA, s.reservedB, s.resultsA, s.resultsB)) := by
  intro s t ht hw
  have hk := keeps_of_exec (h s hw) ht
  simp only [hk.cells rfl, hk.reservedA rfl, hk.reservedB rfl, hk.resultsA rfl, hk.resultsB rfl]

/-- Settles O11: an event of the data path keeps the parts that its mask does not name and the entries that its frame does not list; a drain with
no access waiting runs no access, so that it names no part of coordination. -/
theorem dataPathFrame : Obligations.DataPathFrame := by
  refine fun c => ⟨fun h => ⟨fun s t ht => ?_, (frame_of_readEvent h).leavesEntries rfl⟩,
    fun h => ⟨fun s t ht => ?_, (frame_of_drain h).leavesEntries rfl⟩,
    fun h => ⟨fun s t ht => ?_, (frame_of_groupEvent h).leavesEntries rfl⟩,
    fun h => leavesAtRest_of_keeps fun s hw => h.elim (fun h => keeps_exec_drain_of_noWaits h hw) fun h => keeps_exec_groupEvent_of_noWaits h hw,
    fun h => ⟨fun s t ht => ?_, (frame_of_discardEvent h).leavesEntries rfl⟩,
    fun h => ⟨fun s t ht => ?_, (frame_of_burst h).leavesEntries rfl⟩⟩
  · have hk := (frame_of_readEvent h).of_exec ht
    simp only [hk.octs rfl, hk.deviceTime rfl, hk.restoreStamp rfl, hk.nextSeq rfl, hk.staging rfl, hk.stallSince rfl, hk.stallReported rfl,
      hk.groups rfl, hk.cells rfl, hk.reservedA rfl, hk.reservedB rfl, hk.resultsA rfl, hk.resultsB rfl, hk.resultBase rfl, hk.pow rfl,
      hk.modes rfl, hk.therm rfl]
  · have hk := (frame_of_drain h).of_exec ht
    simp only [hk.octs rfl, hk.deviceTime rfl, hk.restoreStamp rfl, hk.nextSeq rfl, hk.lfsr1 rfl, hk.lfsr2 rfl, hk.retries rfl,
      hk.resultBase rfl, hk.stored rfl, hk.pow rfl, hk.modes rfl, hk.therm rfl]
  · have hk := (frame_of_groupEvent h).of_exec ht
    simp only [hk.octs rfl, hk.deviceTime rfl, hk.restoreStamp rfl, hk.nextSeq rfl, hk.stallSince rfl, hk.lfsr1 rfl, hk.lfsr2 rfl,
      hk.retries rfl, hk.resultBase rfl, hk.stored rfl, hk.pow rfl, hk.modes rfl, hk.therm rfl]
  · have hk := (frame_of_discardEvent h).of_exec ht
    simp only [hk.octs rfl, hk.deviceTime rfl, hk.restoreStamp rfl, hk.nextSeq rfl, hk.stallSince rfl, hk.lfsr1 rfl, hk.lfsr2 rfl,
      hk.reads rfl, hk.nextRead rfl, hk.retries rfl, hk.groups rfl, hk.cells rfl, hk.reservedA rfl, hk.reservedB rfl, hk.resultsA rfl,
      hk.resultsB rfl, hk.resultBase rfl, hk.stored rfl, hk.pow rfl, hk.modes rfl, hk.therm rfl]
  · have hk := (frame_of_burst h).of_exec ht
    simp only [hk.octs rfl, hk.deviceTime rfl, hk.restoreStamp rfl, hk.nextSeq rfl, hk.stallSince rfl, hk.lfsr1 rfl, hk.lfsr2 rfl,
      hk.reads rfl, hk.nextRead rfl, hk.retries rfl, hk.cells rfl, hk.reservedA rfl, hk.reservedB rfl, hk.resultsA rfl, hk.resultsB rfl,
      hk.resultBase rfl, hk.stored rfl, hk.pow rfl, hk.modes rfl, hk.therm rfl]

end Sys2Proof.Machine
end

section
/-! SUPPORT. The cells over RESTORE: the controller's reset at its start clears every one (R103), and no other outcome of the commands that may start
it leads to RESTORE. -/

namespace Sys2Proof.Machine

/-! ### The reset of the cells -/

theorem cells_controllerReset (s : State) : (controllerReset s).cells = [] := by
  unfold controllerReset
  exact ((fr_promote (μ := kf_promote) rfl (keeps_refl _ _)).cells rfl).trans rfl

theorem cells_enterRestore (s : State) : (enterRestore s).cells = [] := by
  have hbegun (u : State) : (beginRestore u).cells = (controllerReset (railsOn switchedRails u)).cells :=
    Keeps.cells (w := cellsMask) (fr_setMode rfl _ (fr_put rfl _ _ (upd_pow_modes rfl rfl (keeps_refl _ _) _ _))) rfl
  rw [enterRestore_eq, hbegun, cells_controllerReset]

/-- A module in RESTORE lists no word of a cell. -/
def RestoreEmpties (t : State) : Prop := t.mode = modeRestore → t.cells = []

theorem restoreEmpties_of_cells {t : State} (h : t.cells = []) : RestoreEmpties t := fun _ => h

theorem restoreEmpties_of_mode {t : State} {m : Nat} (h : t.mode = m) (hm : m ≠ modeRestore) : RestoreEmpties t := fun ht => absurd (h.symm.trans ht) hm

theorem RestoreEmpties.raise {t : State} (h : RestoreEmpties t) (src : Nat) : RestoreEmpties (raise src t) :=
  fun hm => (cells_eq (unreported_raise src t)).trans (h ((mode_raise src t).symm.trans hm))

/-! ### The commands that may start RESTORE -/

theorem mode_enterFall (s : State) : (enterFall s).mode = modeFall := mode_setMode _ _

theorem mode_railsOn (codes : List Nat) (s : State) : (railsOn codes s).mode = s.mode := kp_railsOn ⟨rfl, .inl (by decide)⟩ codes rfl

/-- RISE with its rails good begins RESTORE, or waits for MR_N (R389). -/
def leaveRise (t : State) : State := if t.pow.mrLow then { t with pow := { t.pow with risen := true } } else enterRestore t

theorem leaveRise_restoreEmpties {t : State} (h : t.mode ≠ modeRestore) : RestoreEmpties (leaveRise t) := by
  unfold leaveRise
  split
  · exact restoreEmpties_of_mode rfl h
  · exact restoreEmpties_of_cells (cells_enterRestore t)

/-- The other image is selected where the active one fails (R411). -/
def otherImage (s : State) : State :=
  ((s.put 0xD06001 (1 - s.get 0xD06001)).put 0xD06004 (tgetD (s.get 0xD06004) (1 - s.get 0xD06001) s.modes.slotVersions)).put 0xD06006 2

theorem mode_otherImage (s : State) : (otherImage s).mode = s.mode := by
  unfold otherImage State.mode
  rw [get_put_ne (by decide), get_put_ne (by decide), get_put_ne (by decide)]

theorem execRise_restoreEmpties (good ok : Bool) {s : State} (h : s.mode ≠ modeRestore) : NextIs RestoreEmpties (execRise good ok s) := by
  have hrails : (railsOn switchedRails s).mode ≠ modeRestore := (mode_railsOn _ s).trans_ne h
  have hrun : execRise good ok s = if s.mode != modeRise then .next s else if !good then
      .next (enterFall (noteRailFault (4 + s.freeNow % 11) (drawn s))) else if ok then .next (leaveRise (railsOn switchedRails s)) else
      .next (raise 283 (leaveRise (otherImage (railsOn switchedRails s)))) := rfl
  rw [hrun]
  simp only [nextIs_ite, nextIs_next]
  split
  · exact restoreEmpties_of_mode rfl h
  · split
    · exact restoreEmpties_of_mode (mode_enterFall _) (by decide)
    · split
      · exact leaveRise_restoreEmpties hrails
      · exact (leaveRise_restoreEmpties ((mode_otherImage _).trans_ne hrails)).raise 283

theorem execMrNHigh_restoreEmpties {s : State} (h : s.mode ≠ modeRestore) : NextIs RestoreEmpties (execMrNHigh s) := by
  unfold execMrNHigh
  simp only [nextIs_ite, nextIs_next]
  split
  · exact restoreEmpties_of_cells (cells_enterRestore _)
  · exact restoreEmpties_of_mode rfl h

theorem restoreKept_restoreEmpties (reset : Bool) {s : State} (h : s.mode ≠ modeRestore) : RestoreEmpties (restoreKept reset s) := by
  have hkept {t : State} (ht : t.mode ≠ modeRestore) :
      RestoreEmpties (if reset then leaveRise t else releasePins (leaveRise t)) := by
    split
    · exact leaveRise_restoreEmpties ht
    · intro hm
      have hmode : (releasePins (leaveRise t)).mode = (leaveRise t).mode := kp_releasePins ⟨rfl, .inl (by decide)⟩ rfl
      exact ((fr_releasePins (μ := kf_releasePins) rfl (keeps_refl _ _)).cells rfl).trans
        (leaveRise_restoreEmpties ht (hmode.symm.trans hm))
  exact hkept (t := { s with pow := { s.pow with railsKept := true }, modes := { s.modes with offHeld := false, keptOn := false } }) h

theorem curtainOutcome_restoreEmpties (c : Curtain) {s : State} (h : s.mode ≠ modeRestore) : RestoreEmpties (curtainOutcome c s) := by
  have hmode (outcome : Nat) : (noteCurtain c outcome (finishCurtain c s)).mode = s.mode :=
    kp_noteCurtain ⟨rfl, .inl (by decide)⟩ c outcome (kp_finishCurtain ⟨rfl, .inl (by decide)⟩ c rfl)
  unfold curtainOutcome
  split
  · exact restoreEmpties_of_mode (mode_setMode _ _) (by decide)
  · split
    · exact restoreEmpties_of_mode (mode_enterFall _) (by decide)
    · exact restoreKept_restoreEmpties _ ((hmode 3).trans_ne h)

theorem execCurtainOutcome_restoreEmpties {s : State} (h : s.mode ≠ modeRestore) : NextIs RestoreEmpties (execCurtainOutcome s) := by
  unfold execCurtainOutcome
  split
  · exact restoreEmpties_of_mode rfl h
  · rw [nextIs_ite]
    split
    · exact curtainOutcome_restoreEmpties _ h
    · exact restoreEmpties_of_mode rfl h

theorem restart_restoreEmpties {c : Instr} (hc : (∃ good ok, c = .rise good ok) ∨ c = .mrNHigh ∨ c = .curtainOutcome) {s : State}
    (h : s.mode ≠ modeRestore) : NextIs RestoreEmpties (exec c s) := by
  rcases hc with ⟨good, ok, rfl⟩ | rfl | rfl
  · exact execRise_restoreEmpties good ok h
  · exact execMrNHigh_restoreEmpties h
  · exact execCurtainOutcome_restoreEmpties h

theorem cellWord_of_empty {t : State} (h : t.cells = []) (cell word : Nat) : t.cellWord cell word = 0 := by
  rw [State.cellWord, h]
  rfl

/-! ### The obligation -/

theorem leavesAtRest_cells_of_restoring {c : Instr} (h : shape c = .restoring) : LeavesAtRest c (·.cells) :=
  leavesAtRest_cells fun _ _ hs => rest_exec_of_restoring h hs

theorem leavesAtRest_cells_of_modeEvent {c : Instr} (h : shape c = .modeEvent) : LeavesAtRest c (·.cells) :=
  leavesAtRest_cells fun _ _ hs => rest_exec_of_modeEvent (modeEvent_of_shape h) hs

/-- Settles O7: the controller's reset empties the cells as RESTORE begins, and no command named here runs a store while no access waits. -/
theorem cellsAreVolatile : Obligations.CellsAreVolatile := by
  refine ⟨fun c s t hc ht hs hm => cellWord_of_empty ?_, fun _ _ _ => leavesAtRest_cells_of_restoring rfl, leavesAtRest_cells_of_restoring rfl,
    fun _ _ => leavesAtRest_cells_of_modeEvent rfl, fun _ _ => leavesAtRest_cells_of_modeEvent rfl,
    fun _ => ⟨leavesAtRest_cells_of_modeEvent rfl, leavesAtRest_cells_of_modeEvent rfl⟩, fun _ => leavesAtRest_cells_of_modeEvent rfl,
    fun _ _ => leavesAtRest_cells_of_modeEvent rfl, fun _ _ => leavesAtRest_cells fun _ _ hs => rest_exec_of_request rfl hs,
    fun _ => leavesAtRest_cells_of_modeEvent rfl, leavesAtRest_cells_of_quietEvent (quietEvent_of_shape rfl),
    fun _ => leavesAtRest_cells_of_quietEvent (quietEvent_of_shape rfl)⟩
  have hn := restart_restoreEmpties hc hs
  rw [ht] at hn
  exact hn hm

end Sys2Proof.Machine
end

section
/-! SUPPORT. Host reads of a data line that the lookup answers above the medium: from an offline region, from the port's own queue and from the
staging array (R85, R87, R170, R293). -/

namespace Sys2Proof.Machine

/-! ### The answer of a read -/

theorem sendData_sends {p : Port} {s : State} (h : (s.port p).silent = false) (tag : Nat) (d : Line) (poison : Bool) :
    ∃ e, Out.readData p tag (if poison then 0 else d) poison e ∈ (sendData p tag d poison s).out := by
  let o := Out.readData p tag (if poison then 0 else d) poison (s.devLoad p)
  have hcounted : o ∈ (count 0x05 p.code 64 ((emit o s).modPort p fun q => { q with windowRead := q.windowRead + 64 })).out :=
    out_of_evolves (ev_count _ _ _ (ev_modPort p _ (ev_refl _))) (by simp only [out_emit, List.mem_append, List.mem_singleton, or_true])
  refine ⟨s.devLoad p, ?_⟩
  unfold sendData
  rw [if_neg (by rw [h]; exact Bool.false_ne_true)]
  exact out_of_evolves (ev_cond (ev_count1 _ _ (ev_refl _)) (ev_refl _)) hcounted

/-- A host read that no deadline has answered is answered with the version. -/
theorem answerRead_sends {r : Read} {p : Port} {tag : Nat} {s : State} (hreader : r.reader = .host p tag) (hanswered : r.answered = false)
    (hs : (s.port p).silent = false) (v : Version) :
    ∃ e, Out.readData p tag (if v.poison then 0 else v.data) v.poison e ∈ (answerRead r v s).out := by
  obtain ⟨e, he⟩ := sendData_sends ((on_dropRead r.id (on_refl s)).silent.trans hs) tag v.data v.poison
  have hprompt (c : Prop) [Decidable c] (t : State) : Evolves t (if c then promptDone r t else t) :=
    ev_cond (ev_promptDone r (ev_refl t)) (ev_refl t)
  refine ⟨e, out_of_evolves ?_ he⟩
  unfold answerRead
  simp only [hreader, hanswered, Bool.false_eq_true, if_false]
  exact ev_cond (ev_sampleRead _ _ _ _ _ _ _ _ _ _ (hprompt _ _)) (hprompt _ _)

/-! ### The acceptance of a read -/

/-- The state that has counted an accepted read of a data line. -/
def countedRead (p : Port) (s : State) : State := countEligible p 2 (count1 0x02 p.code s)

/-- Every part of the state but those that counts write, as a mask of `Keeps`. -/
def countMask : Nat := 0x380000064

theorem keeps_countedRead (p : Port) (s : State) : Keeps countMask s (countedRead p s) :=
  fr_countEligible rfl p 2 (fr_count1 rfl _ _ (keeps_refl _ s))

theorem not_silent_countedRead {s : State} {p : Port} (hopen : s.memOpen p = true) : ((countedRead p s).port p).silent = false :=
  (on_countEligible p 2 (on_count1 0x02 p.code (on_refl s))).silent.trans (not_silent_of_memOpen hopen)

theorem acceptRead_eq {s : State} {p : Port} (hopen : s.memOpen p = true) (tag line : Nat) :
    acceptRead p tag line s =
      if s.lineOffline line then answerRead (s.newRead p tag line (s.samplesNow p 2)) (s.readValue p line) (countedRead p s)
      else match s.newestQueued p line with
        | some x =>
          if x.whole then answerRead (s.newRead p tag line (s.samplesNow p 2)) (s.readValue p line) (countedRead p s)
          else addRead { s.newRead p tag line (s.samplesNow p 2) with place := .merge } (countedRead p s)
        | none => match s.ownedGroup p (pageOfLine line) with
          | some g => lookUpOwned p g (s.newRead p tag line (s.samplesNow p 2)) (countedRead p s)
          | none => lookUp p (s.newRead p tag line (s.samplesNow p 2)) (countedRead p s) := by
  unfold acceptRead
  rw [hopen]
  rfl

/-- The committed version of a staged line without poison is the staged one (R170). -/
theorem committed_of_staged {s : State} {line : Nat} {l : Staged} (hl : s.stagedOf line none = some l) (hclean : l.poison = false)
    (hrange : s.rangePoisons line l.stamp = false) :
    s.committed line = { data := l.data, poison := false, stamp := l.stamp, found := foundStaging } := by
  simp only [State.committed, hl, State.withRange, hclean, hrange, Bool.or_self, Bool.false_eq_true, if_false]

theorem lookUp_of_staged {s : State} {r : Read} {l : Staged} (hl : s.stagedOf r.line none = some l) (p : Port) :
    lookUp p r s = answerRead r (s.committed r.line) (count1 0x10 p.code (s.bump 0x407001)) := by
  simp only [lookUp, hl]
  rfl

section Accepted

variable {s : State} {p : Port} {line : Nat}

/-- A read that its port accepts completes by what its acceptance answers. -/
theorem completes_memRd (hline : line < dataLines) (tag : Nat) {P : State → Prop} (hP : P (acceptRead p tag line s)) :
    Completes (.memRd p tag line) s P := ⟨_, if_pos hline, hP⟩

theorem memRd_of_offline (hline : line < dataLines) (hopen : s.memOpen p = true) (hoff : s.lineOffline line = true) (tag : Nat) :
    Completes (.memRd p tag line) s fun t => ∃ d, Out.readData p tag 0 true d ∈ t.out := by
  have hvalue : s.readValue p line = { data := 0, poison := true, stamp := 0, found := foundZeros } := if_pos hoff
  refine completes_memRd hline tag ?_
  rw [acceptRead_eq hopen, if_pos hoff, hvalue]
  exact answerRead_sends rfl rfl (not_silent_countedRead hopen) _

theorem memRd_of_queued (hline : line < dataLines) (hopen : s.memOpen p = true) (hon : s.lineOffline line = false) {x : Store}
    (hx : s.newestQueued p line = some x) (hwhole : x.whole = true) (tag : Nat) :
    Completes (.memRd p tag line) s fun t => ∃ d, Out.readData p tag (if x.poison then 0 else x.data) x.poison d ∈ t.out := by
  have hvalue : s.readValue p line = { data := if x.poison then 0 else x.data, poison := x.poison, stamp := 0, found := foundQueue } := by
    simp only [State.readValue, hon, hx, hwhole, Bool.false_eq_true, if_false, if_true]
  obtain ⟨d, hd⟩ := answerRead_sends (r := s.newRead p tag line (s.samplesNow p 2)) rfl rfl (not_silent_countedRead hopen) (s.readValue p line)
  refine completes_memRd hline tag ⟨d, ?_⟩
  simp only [acceptRead_eq hopen, hon, hx, hwhole, Bool.false_eq_true, if_false, if_true]
  cases hpoison : x.poison <;> simpa only [hvalue, hpoison, Bool.false_eq_true, if_false, if_true] using hd

theorem memRd_of_staged (hline : line < dataLines) (hopen : s.memOpen p = true) (hon : s.lineOffline line = false)
    (hqueue : s.newestQueued p line = none) (hgroup : s.ownedGroup p (pageOfLine line) = none) {l : Staged}
    (hl : s.stagedOf line none = some l) (hclean : l.poison = false) (hrange : s.rangePoisons line l.stamp = false) (tag : Nat) :
    Completes (.memRd p tag line) s fun t => ∃ d, Out.readData p tag l.data false d ∈ t.out := by
  have hkept := keeps_countedRead p s
  have hstaged : (countedRead p s).stagedOf line none = some l := by rw [State.stagedOf, hkept.staging rfl]; exact hl
  have hplain : (countedRead p s).rangePoisons line l.stamp = false := by rw [State.rangePoisons, hkept.integ rfl]; exact hrange
  have hsilent : ((count1 0x10 p.code ((countedRead p s).bump 0x407001)).port p).silent = false :=
    (on_count1 _ _ (on_bump _ (on_refl _))).silent.trans (not_silent_countedRead hopen)
  have hvalue := committed_of_staged hstaged hclean hplain
  obtain ⟨d, hd⟩ := answerRead_sends (r := s.newRead p tag line (s.samplesNow p 2)) rfl rfl hsilent ((countedRead p s).committed line)
  refine completes_memRd hline tag ⟨d, ?_⟩
  simp only [acceptRead_eq hopen, hon, hqueue, hgroup, Bool.false_eq_true, if_false]
  rw [lookUp_of_staged hstaged]
  show _ ∈ (answerRead _ ((countedRead p s).committed line) _).out
  rw [hvalue] at hd ⊢
  exact hd

end Accepted

/-- Settles O18: the acceptance of a read looks at the region, the port's queue and the staging array in this order, and answers with the version
that it finds. -/
theorem readsAreAnsweredFromTheirPlaces : Obligations.ReadsAreAnsweredFromTheirPlaces :=
  fun _ _ tag _ hline hopen => ⟨fun hoff => memRd_of_offline hline hopen hoff tag,
    fun _ hon hx hwhole => memRd_of_queued hline hopen hon hx hwhole tag,
    fun _ hon hqueue hgroup hl hclean hrange => memRd_of_staged hline hopen hon hqueue hgroup hl hclean hrange tag⟩

end Sys2Proof.Machine
end

section
/-! SUPPORT. Reads through the reserve alias (R105), and how often a source has occurred (R479): an occurrence counts its own source once, and of the
others only those that its delivery, a count or a sample raises in turn. -/

namespace Sys2Proof.Machine

/-! ### Occurrences of a source -/

/-- An occurrence of a source counts it once, and no other. -/
theorem occurrences_occurOnce (src j : Nat) (s : State) :
    (occurOnce src s).get (sourceKey j 0x02) =
      if s.canOccur src = true ∧ j = src then countAfter (sourceKey j 0x02) (s.get (sourceKey j 0x02)) 1 else s.get (sourceKey j 0x02) := by
  have hreports (k : Nat) (hk : k < 0xE00000) : sourceKey j 0x02 ≠ k := by unfold sourceKey; omega
  have hother (sub : Nat) (h : sub ≠ 2) (hlt : sub < 256) : sourceKey j 0x02 ≠ sourceKey src sub := sourceKey_ne (.inr (Ne.symm h)) (by omega) hlt
  unfold occurOnce
  by_cases hc : s.canOccur src = true
  · simp only [hc, Bool.not_true, Bool.false_eq_true, if_false, get_ite, get_recordOccurrence (hreports 0xA00103 (by omega)) (hreports 0xA00104 (by omega)),
      get_placeNotice (hreports 0x140203 (by omega)) (hreports 0x140204 (by omega)), get_latchMsi, get_postRecord,
      get_put_ne (hother 0x13 (by omega) (by omega)), get_put_ne (hother 0x12 (by omega) (by omega)), ite_self, true_and]
    have hbefore (c : Prop) [Decidable c] (n : Nat) : ((if c then (takeStamp s).put (sourceKey src 0x11) n else takeStamp s).put
        (sourceKey src 0x01) 1).get (sourceKey j 0x02) = s.get (sourceKey j 0x02) := by
      rw [get_put_ne (hother 0x01 (by omega) (by omega)), get_ite, get_put_ne (hother 0x11 (by omega) (by omega)), ite_self,
        get_takeStamp (hreports 0x405003 (by omega))]
    by_cases hj : j = src
    · subst hj
      rw [if_pos rfl, get_bump_self, hbefore]
    · rw [if_neg hj, get_bump_ne (sourceKey_ne (.inl hj) (by omega) (by omega)), hbefore]
  · simp [hc]

/-- The sources that the delivery of an occurrence raises in turn (R474). -/
theorem followUps_cases {s : State} {src k : Nat} (h : k ∈ s.followUps src) : k = 10 ∨ k = 22 ∨ k = 135 := by
  unfold State.followUps at h
  split at h
  · simp at h
  · simp only [List.mem_append, List.mem_ite_nil_right, List.mem_singleton] at h
    omega

/-- A source that no delivery, count or sample raises. -/
def raisedAlone (j : Nat) : Prop := j ≠ 10 ∧ j ≠ 22 ∧ j ≠ 123 ∧ j ≠ 124 ∧ j ≠ 125 ∧ j ≠ 135

theorem occurrences_raiseDepth_ne {n src j : Nat} (hj : raisedAlone j) (hne : j ≠ src) (s : State) :
    (raiseDepth n src s).get (sourceKey j 0x02) = s.get (sourceKey j 0x02) := by
  have honce (t : State) : (occurOnce src t).get (sourceKey j 0x02) = t.get (sourceKey j 0x02) := by
    rw [occurrences_occurOnce, if_neg (fun h => hne h.2)]
  induction n generalizing src s with
  | zero => exact honce s
  | succ n ih =>
    rw [raiseDepth, get_foldl_mem fun t k hk => ?_, honce]
    obtain ⟨h10, h22, -, -, -, h135⟩ := hj
    have hk' : j ≠ k := by have := followUps_cases hk; omega
    exact ih hk' t fun u => by rw [occurrences_occurOnce, if_neg (fun h => hk' h.2)]

theorem occurrences_raise_ne {src j : Nat} (hj : raisedAlone j) (hne : j ≠ src) (s : State) :
    (raise src s).get (sourceKey j 0x02) = s.get (sourceKey j 0x02) := occurrences_raiseDepth_ne hj hne s

/-- A source that can occur is counted once where it is raised. -/
theorem occurrences_raise_self {src : Nat} (hsrc : raisedAlone src) {s : State} (h : s.canOccur src = true) :
    (raise src s).get (sourceKey src 0x02) = countAfter (sourceKey src 0x02) (s.get (sourceKey src 0x02)) 1 := by
  rw [raise, raiseDepth, get_foldl_mem fun t k hk => occurrences_raiseDepth_ne hsrc ?_ t, occurrences_occurOnce, if_pos ⟨h, rfl⟩]
  obtain ⟨h10, h22, -, -, -, h135⟩ := hsrc
  have := followUps_cases hk
  omega

section Alone

variable {j : Nat} (hj : raisedAlone j)
include hj

theorem occurrences_addToCounter {n : Nat} (hn : n < 512) (m : Nat) (s : State) :
    (addToCounter n m s).get (sourceKey j 0x02) = s.get (sourceKey j 0x02) := by
  have hne : sourceKey j 0x02 ≠ counterKey n := by unfold sourceKey counterKey; omega
  unfold addToCounter
  simp only [get_ite, occurrences_raise_ne hj hj.2.2.1, get_wraps, get_put_ne hne, ite_self]

theorem occurrences_count (code q n : Nat) (s : State) : (count code q n s).get (sourceKey j 0x02) = s.get (sourceKey j 0x02) := by
  unfold count
  split
  · exact get_foldl_mem fun t a ha => occurrences_addToCounter hj (countersFor_lt ha) n t
  · rfl

theorem occurrences_countWindow (p : Port) (code : Nat) (s : State) :
    (countWindow p code s).get (sourceKey j 0x02) = s.get (sourceKey j 0x02) := by
  have hne : sourceKey j 0x02 ≠ 0xB03005 := by unfold sourceKey; omega
  have hcounts : (count1 0x08 p.code (count1 code p.code s)).get (sourceKey j 0x02) = s.get (sourceKey j 0x02) := by
    rw [count1, occurrences_count hj, count1, occurrences_count hj]
  have hdrawn (t : State) : (drawn t).get (sourceKey j 0x02) = t.get (sourceKey j 0x02) := rfl
  unfold countWindow countEligible
  split
  · rw [hdrawn, get_bump_ne hne, hcounts]
  · exact hcounts

theorem occurrences_placeSample (e : SampleRecord) (s : State) : (placeSample e s).get (sourceKey j 0x02) = s.get (sourceKey j 0x02) := by
  have hne (k : Nat) (hk : k < 0xE00000) : sourceKey j 0x02 ≠ k := by unfold sourceKey; omega
  have h124 : j ≠ 124 := hj.2.2.2.1
  have h125 : j ≠ 125 := hj.2.2.2.2.1
  have hbump : (s.bump 0xB03004).get (sourceKey j 0x02) = s.get (sourceKey j 0x02) := get_bump_ne (hne 0xB03004 (by omega))
  unfold placeSample
  simp only
  generalize s.bump 0xB03004 = u at hbump ⊢
  have hlost (o : Observe) (c : Prop) [Decidable c] : (if c then raise 124 (State.bump { u with obs := o } 0xB04003) else { u with obs := o }).get
      (sourceKey j 0x02) = s.get (sourceKey j 0x02) := by
    split
    · rw [occurrences_raise_ne hj h124, get_bump_ne (hne 0xB04003 (by omega)), get_wraps, hbump]
    · rw [get_wraps, hbump]
  refine (get_ite _ _ _ _).trans ((ite_congr rfl (fun _ => ?_) fun _ => hlost _ _).trans (ite_self _))
  rw [occurrences_raise_ne hj h125, get_wraps, hlost]

theorem occurrences_answerWindow (p : Port) (tag line : Nat) (sampled : Bool) (d : Line) (s : State) :
    (answerWindow p tag line sampled d s).get (sourceKey j 0x02) = s.get (sourceKey j 0x02) := by
  have hstamp : sourceKey j 0x02 ≠ 0x405003 := by unfold sourceKey; omega
  simp only [answerWindow, sampleWindow, sendData, count1, get_ite, occurrences_placeSample hj, get_takeStamp hstamp, occurrences_count hj,
    get_modPort, get_emit, ite_self]

end Alone

/-! ### The reserve alias -/

section Reserve

variable {s : State} {p : Port} {c : Nat}

/-- A port that holds a reservation on the cell renews it (R105). -/
theorem reserve_of_held (h : s.holdsReservation p c = true) : reserve p c s = setResultLine p c {} s := if_pos h

theorem reserve_of_room (h : s.holdsReservation p c = false) (hroom : (s.reserved p).length < 64) :
    reserve p c s = setResultLine p c {} (setReserved p (s.reserved p ++ [c]) s) := by
  unfold reserve
  rw [if_neg (by rw [h]; exact Bool.false_ne_true), if_pos hroom]

/-- With 64 reservations on other cells the read takes none (R105). -/
theorem reserve_of_full (h : s.holdsReservation p c = false) (hfull : 64 ≤ (s.reserved p).length) :
    reserve p c s = raise 77 (s.bump (0x508003 + p.code)) := by
  unfold reserve
  rw [if_neg (by rw [h]; exact Bool.false_ne_true), if_neg (Nat.not_lt.mpr hfull)]

theorem cells_reserve (p : Port) (c : Nat) (s : State) : (reserve p c s).cells = s.cells :=
  (fr_reserve (μ := kf_reserve) rfl p c (keeps_refl _ s)).cells rfl

theorem reserved_other_reserve (p : Port) (c : Nat) (s : State) : (reserve p c s).reserved p.other = s.reserved p.other := by
  have hkept : Keeps 0x380000064 s (raise 77 (s.bump (0x508003 + p.code))) := fr_raise rfl 77 (fr_bump rfl _ (keeps_refl _ s))
  unfold reserve
  split
  · exact reserved_setResultLine _ _ _ _ _
  · split
    · rw [reserved_setResultLine, reserved_setReserved_other]
    · exact reserved_keeps hkept rfl rfl _

end Reserve

/-! ### A reserve read at a port that rests -/

theorem keeps_answerWindow (p : Port) (tag line : Nat) (sampled : Bool) (d : Line) (s : State) :
    Keeps accessMask s (answerWindow p tag line sampled d s) := fr_answerWindow rfl p tag line sampled d (keeps_refl _ s)

theorem cellLine_congr {s t : State} (h : t.cells = s.cells) (c : Nat) : t.cellLine c = s.cellLine c := by
  simp only [State.cellLine, State.cellWord, h]

/-- The state that a reserve read leaves: its access is counted, the reservation taken, and the cell's content answered. -/
def reserveReadEnd (p : Port) (tag c : Nat) (s : State) : State :=
  answerWindow p tag (cellDpa 1 c / 64) (s.samplesNow p 4) (s.cellLine c) (reserve p c (countedAccess p 0x02 s))

section AtItsPort

variable {s : State} {p : Port} {c : Fin 16384}

theorem completes_reserveRead (hopen : s.memOpen p = true) (hrests : PortRests s p) (hmode : s.mode ≠ modeService) (tag : Nat) {P : State → Prop}
    (hP : P (reserveReadEnd p tag c.val s)) : Completes (.reserveRead p tag c) s P := by
  have hcounted : (countedAccess p 0x02 s).mode = s.mode := kp_countedAccess ⟨rfl, .inl (by decide)⟩ p _ rfl
  have hline := cellLine_congr ((keeps_countedAccess p 0x02 s).cells rfl) c.val
  refine completes_windowRead hopen hrests rfl ?_
  rw [windowTarget_cellDpa (by decide) c.isLt, readTarget, readCell, if_neg (by decide), if_neg (hcounted.trans_ne hmode), if_neg (by decide),
    if_pos rfl, hline]
  exact hP

theorem reserveReadEnd_sends (hopen : s.memOpen p = true) (tag c : Nat) :
    ∃ e, Out.readData p tag (s.cellLine c) false e ∈ (reserveReadEnd p tag c s).out :=
  answerWindow_sends ((on_reserve p c (on_refl _)).silent.trans (not_silent_countedAccess hopen _)) _ _ _ _

theorem cells_reserveReadEnd (p : Port) (tag c : Nat) (s : State) : (reserveReadEnd p tag c s).cells = s.cells :=
  ((keeps_answerWindow _ _ _ _ _ _).cells rfl).trans ((cells_reserve _ _ _).trans ((keeps_countedAccess p 0x02 s).cells rfl))

/-- Reservations and result lines of a reserve read are those that its effect leaves. -/
theorem reserved_reserveReadEnd (p q : Port) (tag c : Nat) (s : State) :
    (reserveReadEnd p tag c s).reserved q = (reserve p c (countedAccess p 0x02 s)).reserved q :=
  reserved_keeps (keeps_answerWindow _ _ _ _ _ _) rfl rfl q

theorem resultLine_reserveReadEnd (p q : Port) (tag c d : Nat) (s : State) :
    (reserveReadEnd p tag c s).resultLine q d = (reserve p c (countedAccess p 0x02 s)).resultLine q d :=
  resultLine_keeps (keeps_answerWindow _ _ _ _ _ _) rfl rfl rfl q d

theorem reserved_countedAccess (p q : Port) (code : Nat) (s : State) : (countedAccess p code s).reserved q = s.reserved q :=
  reserved_keeps (keeps_countedAccess p code s) rfl rfl q

theorem holdsReservation_countedAccess (p q : Port) (code c : Nat) (s : State) :
    (countedAccess p code s).holdsReservation q c = s.holdsReservation q c := holdsReservation_congr (reserved_countedAccess p q code s) c

/-- A read of a cell that its port holds leaves its reservations, and clears its result line (R105). -/
theorem reserveReadEnd_of_held {c : Nat} (h : s.holdsReservation p c = true) (tag : Nat) :
    (reserveReadEnd p tag c s).reserved p = s.reserved p ∧ (reserveReadEnd p tag c s).resultLine p c = {} := by
  have hrun := reserve_of_held ((holdsReservation_countedAccess p p 0x02 c s).trans h)
  rw [reserved_reserveReadEnd, resultLine_reserveReadEnd, hrun, reserved_setResultLine, reserved_countedAccess, resultLine_setResultLine_self]
  exact ⟨rfl, rfl⟩

/-- A read of another cell takes a reservation while fewer than 64 are held (R104, R105). -/
theorem reserveReadEnd_of_room {c : Nat} (h : s.holdsReservation p c = false) (hroom : (s.reserved p).length < 64) (tag : Nat) :
    (reserveReadEnd p tag c s).reserved p = s.reserved p ++ [c] ∧ (reserveReadEnd p tag c s).resultLine p c = {} := by
  have hrun := reserve_of_room ((holdsReservation_countedAccess p p 0x02 c s).trans h) (by rw [reserved_countedAccess]; exact hroom)
  rw [reserved_reserveReadEnd, resultLine_reserveReadEnd, hrun, reserved_setResultLine, reserved_setReserved_self, reserved_countedAccess,
    resultLine_setResultLine_self]
  exact ⟨rfl, rfl⟩

/-- A refused read leaves reservations and result line, is counted, and raises source 77 once (R105). -/
theorem reserveReadEnd_of_full {c : Nat} (h : s.holdsReservation p c = false) (hfull : 64 ≤ (s.reserved p).length) (tag : Nat) :
    let t := reserveReadEnd p tag c s
    t.reserved p = s.reserved p ∧ t.resultLine p c = s.resultLine p c ∧ Counted (0x508003 + p.code) 1 s t ∧ Raised 77 s t ∧
      (s.canOccur 77 = true → Counted (sourceKey 77 0x02) 1 s t) := by
  let u := countedAccess p 0x02 s
  let refused := raise 77 (u.bump (0x508003 + p.code))
  have hrun : reserve p c u = refused :=
    reserve_of_full ((holdsReservation_countedAccess p p 0x02 c s).trans h) (by rw [reserved_countedAccess]; exact hfull)
  have hend : reserveReadEnd p tag c s = answerWindow p tag (cellDpa 1 c / 64) (s.samplesNow p 4) (s.cellLine c) refused :=
    congrArg (answerWindow p tag _ _ _) hrun
  have hrefused : Keeps accessMask u refused := fr_raise rfl 77 (fr_bump rfl _ (keeps_refl _ u))
  have hu : Keeps accessMask s u := keeps_countedAccess p 0x02 s
  have hanswered : Keeps accessMask refused (reserveReadEnd p tag c s) := hend ▸ keeps_answerWindow _ _ _ _ _ _
  have halone : raisedAlone 77 := by unfold raisedAlone; omega
  have hcan : (u.bump (0x508003 + p.code)).canOccur 77 = s.canOccur 77 := by
    refine canOccur_of_mode ?_ 77
    have hmode : u.mode = s.mode := kp_countedAccess ⟨rfl, .inl (by decide)⟩ p _ rfl
    exact (get_bump_ne (by cases p <;> decide)).trans hmode
  refine ⟨?_, ?_, ?_, fun hoccurs => ?_, fun hoccurs => ?_⟩
  · rw [reserved_keeps hanswered rfl rfl, reserved_keeps hrefused rfl rfl, reserved_keeps hu rfl rfl]
  · rw [resultLine_keeps hanswered rfl rfl rfl, resultLine_keeps hrefused rfl rfl rfl, resultLine_keeps hu rfl rfl rfl]
  · have hkept : u.get (0x508003 + p.code) = s.get (0x508003 + p.code) := kp_countedAccess (by cases p <;> exact ⟨rfl, .inl (by decide)⟩) p _ rfl
    have hbumped : refused.get (0x508003 + p.code) = countAfter (0x508003 + p.code) (s.get (0x508003 + p.code)) 1 := by
      rw [get_raise (by cases p <;> decide), get_bump_self, hkept]
    rw [hend]
    exact kp_answerWindow (by cases p <;> exact ⟨rfl, .inl (by decide)⟩) p tag _ _ _ hbumped
  · rw [hend]
    exact kp_answerWindow ⟨rfl, .inr ⟨⟨77, rfl⟩, rfl⟩⟩ p tag _ _ _ (latch_self (hcan.trans hoccurs))
  · have hbump : (u.bump (0x508003 + p.code)).get (sourceKey 77 0x02) = u.get (sourceKey 77 0x02) := get_bump_ne (by cases p <;> decide)
    have hkept : u.get (sourceKey 77 0x02) = s.get (sourceKey 77 0x02) := occurrences_countWindow halone p 0x02 s
    rw [Counted, hend, occurrences_answerWindow halone, occurrences_raise_self halone (hcan.trans hoccurs), hbump, hkept]

end AtItsPort

/-- Settles O22: the read is counted, `reserve` takes its way by what the port holds, and the answer leaves reservations and result lines. -/
theorem reserveReads : Obligations.ReserveReads := fun s p tag c hopen hrests hmode =>
  completes_reserveRead hopen hrests hmode tag ⟨reserveReadEnd_sends hopen tag c.val, cells_reserveReadEnd p tag c.val s,
    fun h => reserveReadEnd_of_held h tag, fun h hroom => reserveReadEnd_of_room h hroom tag, fun h hfull => reserveReadEnd_of_full h hfull tag⟩

end Sys2Proof.Machine
end

section
/-! SUPPORT. What may write coordination cells and reservations: one lemma for each operation through which a store may take effect. A window access
that waits for its drain may store with a later command (R54); so the lemmas follow the cells to which the waiting accesses store, and state what
stands beside them: every word of every other cell, and the limits on the reservations (R103, R104). -/

namespace Sys2Proof.Machine

/-! ### The relation -/

/-- What is followed over a command: the cells that its stores may reach, the ports whose reservations are limited, and the cells before it. -/
structure Watch where
  stores : Nat → Prop
  limited : Port → Prop
  before : Tbl Word

/-- The cell to which an access of an address stores, if it stores to one (R54, R102). -/
def PortAsk.storedCell (ask : PortAsk) (dpa : Nat) : Option Nat :=
  match ask with
  | .write _ _ _ => cellAt dpa
  | .read => none

/-- The cell to which an access that waits will store. -/
def PortWait.storedCell (w : PortWait) : Option Nat := w.ask.storedCell w.dpa

theorem waitedCells_eq (s : State) : waitedCells s = (s.portA.waits ++ s.portB.waits).filterMap PortWait.storedCell := rfl

/-- An access stores to none but the cells followed. -/
def Watch.Admits (W : Watch) (w : PortWait) : Prop := ∀ c, w.storedCell = some c → W.stores c

/-- Accesses of which none stores to another cell than those followed. -/
def Watch.AdmitsAll (W : Watch) (l : List PortWait) : Prop := ∀ w ∈ l, W.Admits w

/-- The parts of a state that `Kept` speaks of. -/
structure KeptWith (W : Watch) (cells : Tbl Word) (reservedA reservedB : List Nat) : Prop where
  cells : ∀ c w, w < 8 → ¬ W.stores c → tgetD 0 (8 * c + w) cells = tgetD 0 (8 * c + w) W.before
  reservedA : W.limited .a → ReservationsOk reservedA
  reservedB : W.limited .b → ReservationsOk reservedB

/-- Every cell but those that stores may reach reads as before, and the limits on the reservations hold. -/
def Kept (W : Watch) (s : State) : Prop := KeptWith W s.cells s.reservedA s.reservedB

/-- The parts of a state that `Watched` speaks of. -/
structure WatchedWith (W : Watch) (cells : Tbl Word) (reservedA reservedB : List Nat) (waitsA waitsB : List PortWait) : Prop where
  keptWith : KeptWith W cells reservedA reservedB
  waitsA : W.AdmitsAll waitsA
  waitsB : W.AdmitsAll waitsB

/-- `Kept` holds, and the accesses that wait store to none but the cells followed. -/
def Watched (W : Watch) (s : State) : Prop := WatchedWith W s.cells s.reservedA s.reservedB s.portA.waits s.portB.waits

section Watched

variable {W : Watch}

theorem Kept.reserved {s : State} (hs : Kept W s) (p : Port) (hp : W.limited p) : ReservationsOk (s.reserved p) :=
  match p with
  | .a => hs.reservedA hp
  | .b => hs.reservedB hp

theorem Watched.kept {s : State} (hs : Watched W s) : Kept W s := hs.keptWith

theorem Watched.waits {s : State} (hs : Watched W s) (p : Port) : W.AdmitsAll (s.port p).waits :=
  match p with
  | .a => hs.waitsA
  | .b => hs.waitsB

/-- Every part of the state but the cells and the reservations, as a mask of `Keeps`. -/
def storelessMask : Nat := 0x3FFE3FFFF

theorem Kept.keeps {μ : Nat} {s t : State} (hs : Kept W s) (h : Keeps μ s t) (h18 : μ.testBit 18 = false) (h19 : μ.testBit 19 = false)
    (h20 : μ.testBit 20 = false) : Kept W t := by
  unfold Kept
  rw [h.cells h18, h.reservedA h19, h.reservedB h20]
  exact hs

theorem Kept.quiet {s t : State} (hs : Kept W s) (h : Keeps storelessMask s t) : Kept W t := hs.keeps h rfl rfl rfl

theorem Watched.of_kept {s t : State} (hs : Watched W s) (h : Kept W t) (hw : ∀ p, Standing p s t) : Watched W t :=
  ⟨h, (hw .a).waits.symm ▸ hs.waitsA, (hw .b).waits.symm ▸ hs.waitsB⟩

theorem NextIs.imp {P Q : State → Prop} (h : ∀ t, P t → Q t) {o : Host.Outcome State Fault Refusal} (ho : NextIs P o) : NextIs Q o := by
  cases o with
  | next t => exact h t ho
  | fault _ => trivial
  | refused _ => trivial

/-- A command that writes neither cells nor reservations keeps what is followed of them. -/
theorem kept_of_storeless {s : State} (hs : Kept W s) {o : Host.Outcome State Fault Refusal} (h : NextIs (Keeps storelessMask s) o) :
    NextIs (Kept W) o := h.imp fun _ => hs.quiet

theorem kept_of_keeps {μ : Nat} {s : State} (hs : Kept W s) {o : Host.Outcome State Fault Refusal} (h : NextIs (Keeps μ s) o)
    (h18 : μ.testBit 18 = false := by rfl) (h19 : μ.testBit 19 = false := by rfl) (h20 : μ.testBit 20 = false := by rfl) : NextIs (Kept W) o :=
  h.imp fun _ hk => hs.keeps hk h18 h19 h20

/-- Where neither cells nor reservations are written and the waiting accesses stand, all that is followed stands. -/
theorem Watched.standing {s t : State} (hs : Watched W s) (h : Keeps storelessMask s t) (hw : ∀ p, Standing p s t) : Watched W t :=
  hs.of_kept (hs.kept.quiet h) hw

/-- Every part of the state but the cells, the reservations and the ports, as a mask of `Keeps`. -/
def unwatchedMask : Nat := 0x3FFE3FF9F

theorem Watched.quiet {s t : State} (hs : Watched W s) (h : Keeps unwatchedMask s t) : Watched W t := by
  unfold Watched
  rw [h.cells rfl, h.reservedA rfl, h.reservedB rfl, h.portA rfl, h.portB rfl]
  exact hs

theorem Watched.unreported {s t : State} (hs : Watched W s) (h : unreported t = unreported s) : Watched W t := by
  unfold Watched
  rw [cells_eq h, reservedA_eq h, reservedB_eq h, show t.portA.waits = s.portA.waits from port_waits_eq (p := .a) h,
    show t.portB.waits = s.portB.waits from port_waits_eq (p := .b) h]
  exact hs

theorem watched_mk : ∀ x0 x1 x2 x3 x4 x5 x6 x7 x8 x9 x10 x11 x12 x13 x14 x15 x16 x17 x18 x19 x20 x21 x22 x23 x24 x25 x26 x27 x28 x29 x30 x31 x32 x33
    x34 x35 x36 x37 x38 x39, Watched W (State.mk x0 x1 x2 x3 x4 x5 x6 x7 x8 x9 x10 x11 x12 x13 x14 x15 x16 x17 x18 x19 x20 x21 x22 x23 x24 x25 x26
      x27 x28 x29 x30 x31 x32 x33 x34 x35 x36 x37 x38 x39) = WatchedWith W x23 x24 x25 x10.waits x11.waits := by intros; rfl
theorem watched_fold (s : State) : WatchedWith W s.cells s.reservedA s.reservedB s.portA.waits s.portB.waits = Watched W s := rfl
theorem watched_ite (p : Prop) [Decidable p] (a b : State) : Watched W (if p then a else b) = if p then Watched W a else Watched W b := by
  split <;> rfl
theorem watched_cond {p : Prop} [Decidable p] {a b : State} (ha : Watched W a) (hb : Watched W b) : Watched W (if p then a else b) := by
  split <;> assumption
theorem watched_foldl {α : Type} {f : State → α → State} {s : State} (h : ∀ t a, Watched W t → Watched W (f t a)) (l : List α)
    (hs : Watched W s) : Watched W (l.foldl f s) := by
  induction l generalizing s with
  | nil => exact hs
  | cons a l ih => rw [List.foldl_cons]; exact ih (h _ _ hs)

/-- A command that answers one of two states answers a state of which all that is followed stands. -/
theorem watched_next {p : Prop} [Decidable p] {a b : State} (ha : Watched W a) (hb : Watched W b) :
    NextIs (Watched W) (if p then .next a else .next b) := by
  split
  · exact ha
  · exact hb

/-! ### Ports -/

theorem watched_setPort (p : Port) (v : PortState) (hv : W.AdmitsAll v.waits) {s : State} (hs : Watched W s) : Watched W (s.setPort p v) := by
  cases p
  · exact ⟨hs.kept, hv, hs.waitsB⟩
  · exact ⟨hs.kept, hs.waitsA, hv⟩

theorem watched_modPort (p : Port) (f : PortState → PortState) (hf : ∀ q, W.AdmitsAll q.waits → W.AdmitsAll (f q).waits) {s : State}
    (hs : Watched W s) : Watched W (s.modPort p f) := watched_setPort p _ (hf _ (hs.waits p)) hs

/-! ### Stores to cells, and reservations -/

theorem ReservationsOk.filter {l : List Nat} (h : ReservationsOk l) (f : Nat → Bool) : ReservationsOk (l.filter f) :=
  ⟨h.1.filter f, (List.length_filter_le f l).trans h.2⟩

theorem kept_setReserved (p : Port) (l : List Nat) (hl : W.limited p → ReservationsOk l) {s : State} (hs : Kept W s) :
    Kept W (setReserved p l s) := by
  cases p
  · exact ⟨hs.cells, hl, hs.reservedB⟩
  · exact ⟨hs.cells, hs.reservedA, hl⟩

theorem kept_setResultLine (p : Port) (c : Nat) (r : ResultLine) {s : State} (hs : Kept W s) : Kept W (setResultLine p c r s) :=
  hs.quiet (fr_setResultLine rfl p c r (keeps_refl _ s))

/-- A reservation that goes leaves the others within their limits. -/
theorem kept_dropReserved (p : Port) (c : Nat) {s : State} (hs : Kept W s) : Kept W (setReserved p ((s.reserved p).filter (· != c)) s) :=
  kept_setReserved p _ (fun hp => (hs.reserved p hp).filter _) hs

theorem kept_loseReservation (p : Port) (c : Nat) (cause : LossCause) {s : State} (hs : Kept W s) : Kept W (loseReservation p c cause s) := by
  unfold loseReservation
  split
  · exact kept_setResultLine _ _ _ (kept_dropReserved p c hs)
  · exact hs

theorem kept_loseAll (p : Port) (cause : LossCause) {s : State} (hs : Kept W s) : Kept W (loseAll p cause s) := by
  unfold loseAll
  induction s.reserved p generalizing s with
  | nil => exact hs
  | cons c l ih => exact ih (kept_loseReservation p c cause hs)

theorem kept_reserve (p : Port) (c : Nat) {s : State} (hs : Kept W s) : Kept W (reserve p c s) := by
  unfold reserve
  split
  · exact kept_setResultLine _ _ _ hs
  · next hfree =>
    split
    · next hroom =>
      refine kept_setResultLine _ _ _ (kept_setReserved p _ (fun hp => ⟨?_, ?_⟩) hs)
      · have hnew : c ∉ s.reserved p := by simpa [State.holdsReservation] using hfree
        exact (hs.reserved p hp).1.append (List.nodup_singleton c) (List.disjoint_singleton.mpr hnew)
      · rw [List.length_append, List.length_singleton]
        exact hroom
    · exact hs.quiet (fr_raise rfl 77 (fr_bump rfl _ (keeps_refl _ s)))

theorem kept_writeCell (c : Nat) (be : ByteEnables) (d : Line) (hc : W.stores c) {s : State} (hs : Kept W s) : Kept W (writeCell c be d s) := by
  refine ⟨fun c' w hw hc' => ?_, hs.reservedA, hs.reservedB⟩
  have hother : ¬ (c' = c ∧ wordComplete w be = true) := fun h => hc' (h.1 ▸ hc)
  exact ((cellWord_writeCell c c' be d s hw).trans (if_neg hother)).trans (hs.cells c' w hw hc')

theorem kept_takeStamp {s : State} (hs : Kept W s) : Kept W (takeStamp s) := hs.quiet (fr_takeStamp rfl (keeps_refl _ s))

theorem kept_plainStore (p : Port) (c : Nat) (be : ByteEnables) (d : Line) (hc : W.stores c) {s : State} (hs : Kept W s) :
    Kept W (plainStore p c be d s) :=
  kept_loseReservation _ _ _ (kept_writeCell c be d hc (kept_takeStamp hs))

theorem kept_conditionalEffect (p : Port) (c : Nat) (be : ByteEnables) (d : Line) (hc : W.stores c) {s : State} (hs : Kept W s) :
    Kept W (conditionalEffect p c be d s) := by
  unfold conditionalEffect
  split
  · exact kept_loseReservation _ _ _ (kept_dropReserved p c (kept_setResultLine _ _ _ (kept_writeCell c be d hc (kept_takeStamp hs))))
  · exact (kept_setResultLine p c _ hs).quiet (fr_bump rfl _ (keeps_refl _ _))

/-! ### Accesses that take effect -/

theorem kept_answerWindow (p : Port) (tag line : Nat) (sampled : Bool) (d : Line) {s : State} (hs : Kept W s) :
    Kept W (answerWindow p tag line sampled d s) := hs.quiet (fr_answerWindow rfl p tag line sampled d (keeps_refl _ s))

theorem kept_readCell (p : Port) (tag line aliasNo c : Nat) (sampled : Bool) {s : State} (hs : Kept W s) :
    Kept W (readCell p tag line aliasNo c sampled s) := by
  unfold readCell
  split
  · exact kept_answerWindow _ _ _ _ _ (hs.quiet (fr_drawn rfl (keeps_refl _ s)))
  · split
    · exact kept_answerWindow _ _ _ _ _ hs
    · split
      · exact kept_answerWindow _ _ _ _ _ hs
      · split
        · exact kept_answerWindow _ _ _ _ _ (kept_reserve p c hs)
        · exact kept_answerWindow _ _ _ _ _ hs

theorem kept_readTarget (p : Port) (w : PortWait) (target : WindowTarget) {s : State} (hs : Kept W s) : Kept W (readTarget p w s target) := by
  cases target with
  | groupLine g => exact hs.quiet (fr_readGroup rfl p w.tag _ g w.seq w.sampled (keeps_refl _ s))
  | cell aliasNo c => exact kept_readCell p w.tag _ aliasNo c w.sampled hs
  | portPage owner offset => exact hs.quiet (fr_readPortPage rfl p owner w.tag _ w.acceptedAt offset w.sampled (keeps_refl _ s))
  | counters l => exact kept_answerWindow _ _ _ _ _ hs
  | dma k offset => exact hs.quiet (fr_readDma rfl p w.tag _ k offset w.sampled (keeps_refl _ s))
  | unused => exact kept_answerWindow _ _ _ _ _ (hs.quiet (fr_stray rfl p (keeps_refl _ s)))

/-- A store through an alias reaches its cell by the plain and the conditional alias (R102). -/
theorem kept_writeAlias (p : Port) {aliasNo : Nat} (ha : aliasNo < 4) (c : Nat) (be : ByteEnables) (d : Line)
    (hc : aliasNo = 0 ∨ aliasNo = 2 → W.stores c) {s : State} (hs : Kept W s) : Kept W (writeAlias p aliasNo c be d s) := by
  have hstray : Kept W (strayIf (anyPartial be) p s) := hs.quiet (fr_strayIf rfl _ p (keeps_refl _ s))
  unfold writeAlias
  split
  · exact hs.quiet (fr_stray rfl p (keeps_refl _ s))
  · next hplain =>
    have hcell : W.stores c := hc (by omega)
    simp only
    split
    · exact hstray
    · split
      · exact hstray.quiet (fr_dropStores rfl p 32 1 (keeps_refl _ _))
      · split
        · exact kept_plainStore p c be d hcell hstray
        · exact kept_conditionalEffect p c be d hcell hstray

/-- The cell that a store to a window place reaches, if it reaches one. -/
def WindowTarget.storedCell : WindowTarget → Option Nat
  | .cell aliasNo c => if aliasNo = 0 ∨ aliasNo = 2 then some c else none
  | _ => none

/-- Only the head of `cellAt` is unfolded, so that the kernel computes no address. -/
theorem cellAt_eq (dpa : Nat) : cellAt dpa = (windowTarget dpa).storedCell := by
  have h : cellAt = cellAt := rfl
  conv at h => rhs; delta cellAt
  rw [h]
  beta_reduce
  generalize windowTarget dpa = t
  cases t <;> rfl

/-- A cell has four aliases (R102). -/
theorem alias_lt_of_windowTarget {dpa aliasNo c : Nat} (h : windowTarget dpa = .cell aliasNo c) : aliasNo < 4 := by
  unfold windowTarget at h
  simp only at h
  split_ifs at h
  cases h
  omega

theorem kept_writeTarget (p : Port) (seq : Nat) (be : ByteEnables) (d : Line) (dpa : Nat) (hdpa : ∀ c, cellAt dpa = some c → W.stores c) {s : State}
    (hs : Kept W s) : Kept W (writeTarget p seq be d s (windowTarget dpa)) := by
  cases htarget : windowTarget dpa with
  | groupLine g => exact hs.quiet (fr_writeGroup rfl p g seq be d (keeps_refl _ s))
  | cell aliasNo c =>
    refine kept_writeAlias p (alias_lt_of_windowTarget htarget) c be d (fun ha => hdpa c ?_) hs
    rw [cellAt_eq, htarget]
    exact if_pos ha
  | portPage owner offset => exact hs.quiet (fr_writePortPage rfl p owner offset be d (keeps_refl _ s))
  | counters l => exact hs.quiet (fr_stray rfl p (keeps_refl _ s))
  | dma k offset => exact hs.quiet (fr_writeDma rfl p k offset be d (keeps_refl _ s))
  | unused => exact hs.quiet (fr_stray rfl p (keeps_refl _ s))

theorem kept_sampleWindow (p : Port) (opcode line : Nat) (sampled : Bool) {s : State} (hs : Kept W s) : Kept W (sampleWindow p opcode line sampled s) :=
  hs.quiet (fr_sampleWindow rfl p opcode line sampled (keeps_refl _ s))

theorem kept_serveAccess (p : Port) (w : PortWait) (hw : W.Admits w) {s : State} (hs : Kept W s) : Kept W (serveAccess p w s) := by
  unfold serveAccess
  split
  · exact kept_readTarget p w _ hs
  · next be d poison hask =>
    have hdpa : ∀ c, cellAt w.dpa = some c → W.stores c := fun c hc => hw c (by rw [PortWait.storedCell, hask]; exact hc)
    have hserved : Kept W (if poison then stray p s else writeTarget p w.seq be d s (windowTarget w.dpa)) := by
      split
      · exact hs.quiet (fr_stray rfl p (keeps_refl _ s))
      · exact kept_writeTarget p w.seq be d w.dpa hdpa hs
    simp only
    split
    · exact (kept_sampleWindow p 5 _ _ hserved).quiet (fr_sendCmp rfl p w.tag (keeps_refl _ _))
    · exact kept_sampleWindow p 5 _ _ hserved

/-- An access that takes effect lets no other one wait. -/
theorem watched_serveAccess (p : Port) (w : PortWait) (hw : W.Admits w) {s : State} (hs : Watched W s) : Watched W (serveAccess p w s) :=
  hs.of_kept (kept_serveAccess p w hw hs.kept) fun _ => st_serveAccess p w (st_refl s)

theorem watched_loseAll (p : Port) (cause : LossCause) {s : State} (hs : Watched W s) : Watched W (loseAll p cause s) :=
  hs.of_kept (kept_loseAll p cause hs.kept) fun q => by
    unfold loseAll
    refine st_foldl (fun t c ht => ?_) _ (st_refl s)
    unfold loseReservation
    exact st_cond (st_setResultLine _ _ _ (st_setReserved _ _ ht)) ht

theorem watched_serveWaits (n : Nat) (p : Port) {s : State} (hs : Watched W s) : Watched W (serveWaits n p s) := by
  induction n generalizing s with
  | zero => exact hs
  | succ n ih =>
    unfold serveWaits
    split
    · exact hs
    · next w rest hwaits =>
      have hall : W.AdmitsAll (w :: rest) := hwaits ▸ hs.waits p
      split
      · exact hs
      · exact ih (watched_serveAccess p w (hall w List.mem_cons_self)
          (watched_modPort p _ (fun _ _ v hv => hall v (List.mem_cons_of_mem w hv)) hs))

theorem watched_drainTo (p : Port) (bound : Nat) {s : State} (hs : Watched W s) : Watched W (drainTo p bound s) :=
  hs.standing (fr_drainTo rfl p bound (keeps_refl _ s)) fun _ => st_drainTo _ _ (st_refl s)

theorem watched_serveFlushes (p : Port) {s : State} (hs : Watched W s) : Watched W (serveFlushes p s) :=
  hs.standing (fr_serveFlushes rfl p (keeps_refl _ s)) fun _ => st_serveFlushes _ (st_refl s)

theorem watched_resumePort (p : Port) {s : State} (hs : Watched W s) : Watched W (resumePort p s) :=
  watched_serveFlushes p (watched_serveWaits _ p (watched_cond hs (watched_drainTo p _ hs)))

/-! ### Operations of `Registers` -/

theorem watched_put (k v : Nat) {s : State} (hs : Watched W s) : Watched W (s.put k v) :=
  hs.quiet (fr_put rfl k v (keeps_refl _ s))

theorem watched_putBytes (k : Nat) (v : List Byte) {s : State} (hs : Watched W s) : Watched W (s.putBytes k v) :=
  hs.quiet (fr_putBytes rfl k v (keeps_refl _ s))

theorem watched_addTo (key n : Nat) {s : State} (hs : Watched W s) : Watched W (State.addTo s key n) :=
  hs.quiet (fr_addTo rfl key n (keeps_refl _ s))

theorem watched_bump (key : Nat) {s : State} (hs : Watched W s) : Watched W (State.bump s key) :=
  hs.quiet (fr_bump rfl key (keeps_refl _ s))

theorem watched_raiseTo (key v : Nat) {s : State} (hs : Watched W s) : Watched W (State.raiseTo s key v) :=
  hs.quiet (fr_raiseTo rfl key v (keeps_refl _ s))

/-! ### Operations of `Flags` -/

theorem watched_setGroup (g : Nat) (v : Group) {s : State} (hs : Watched W s) : Watched W (State.setGroup s g v) :=
  hs.quiet (fr_setGroup rfl g v (keeps_refl _ s))

theorem watched_setChannel (k : Nat) (c : DmaChannel) {s : State} (hs : Watched W s) : Watched W (State.setChannel s k c) :=
  hs.quiet (fr_setChannel rfl k c (keeps_refl _ s))

theorem watched_setUnit (u : Nat) (r : UnitRec) {s : State} (hs : Watched W s) : Watched W (State.setUnit s u r) :=
  hs.quiet (fr_setUnit rfl u r (keeps_refl _ s))

theorem watched_setStripe (n : Nat) (r : StripeRec) {s : State} (hs : Watched W s) : Watched W (State.setStripe s n r) :=
  hs.quiet (fr_setStripe rfl n r (keeps_refl _ s))

/-! ### Operations of `Geometry` -/

theorem watched_endOverruns {s : State} (hs : Watched W s) : Watched W (endOverruns s) :=
  hs.quiet (fr_endOverruns rfl (keeps_refl _ s))

/-! ### Operations of `Medium` -/

theorem watched_rearmStall {s : State} (hs : Watched W s) : Watched W (rearmStall s) :=
  hs.quiet (fr_rearmStall rfl (keeps_refl _ s))

/-! ### Operations of `Tree` -/

theorem watched_touchIntegrity (obj : IntegrityObject) {s : State} (hs : Watched W s) : Watched W (touchIntegrity obj s) :=
  hs.quiet (fr_touchIntegrity rfl obj (keeps_refl _ s))

theorem watched_touchBlock (page : Nat) {s : State} (hs : Watched W s) : Watched W (touchBlock page s) :=
  hs.quiet (fr_touchBlock rfl page (keeps_refl _ s))

theorem watched_cacheLine (obj : IntegrityObject) {s : State} (hs : Watched W s) : Watched W (cacheLine obj s) :=
  hs.quiet (fr_cacheLine rfl obj (keeps_refl _ s))

/-! ### Operations of `Ops` -/

theorem watched_emit (o : Out) {s : State} (hs : Watched W s) : Watched W (emit o s) :=
  hs.quiet (fr_emit rfl o (keeps_refl _ s))

theorem watched_drawn {s : State} (hs : Watched W s) : Watched W (drawn s) :=
  hs.quiet (fr_drawn rfl (keeps_refl _ s))

theorem watched_takeStamp {s : State} (hs : Watched W s) : Watched W (takeStamp s) :=
  hs.quiet (fr_takeStamp rfl (keeps_refl _ s))

theorem watched_sendMsi (p : Port) (vector : Nat) {s : State} (hs : Watched W s) : Watched W (sendMsi p vector s) :=
  hs.unreported (unreported_sendMsi _ _ _)

theorem watched_postRecord (p : Port) (severity : Nat) (r : EventRecord) {s : State} (hs : Watched W s) : Watched W (postRecord p severity r s) :=
  hs.unreported (unreported_postRecord _ _ _ _)

theorem watched_recordOccurrence (r : RecorderRecord) {s : State} (hs : Watched W s) : Watched W (recordOccurrence r s) :=
  hs.unreported (unreported_recordOccurrence _ _)

theorem watched_latchMsi (src routing mask : Nat) {s : State} (hs : Watched W s) : Watched W (latchMsi src routing mask s) :=
  hs.unreported (unreported_latchMsi _ _ _ _)

theorem watched_raise (src : Nat) {s : State} (hs : Watched W s) : Watched W (raise src s) :=
  hs.unreported (unreported_raise _ _)

theorem watched_raiseIf (c : Bool) (src : Nat) {s : State} (hs : Watched W s) : Watched W (raiseIf c src s) :=
  hs.unreported (unreported_raiseIf _ _ _)

theorem watched_count (code q amount : Nat) {s : State} (hs : Watched W s) : Watched W (count code q amount s) :=
  hs.unreported (unreported_count _ _ _ _)

theorem watched_count1 (code q : Nat) {s : State} (hs : Watched W s) : Watched W (count1 code q s) :=
  hs.unreported (unreported_count1 _ _ _)

theorem watched_judgeEpisode {s : State} (hs : Watched W s) : Watched W (judgeEpisode s) :=
  hs.quiet (fr_judgeEpisode rfl (keeps_refl _ s))

theorem watched_nameLines (src : Nat) (ranges : List (Nat × Nat)) {s : State} (hs : Watched W s) : Watched W (nameLines src ranges s) :=
  hs.quiet (fr_nameLines rfl src ranges (keeps_refl _ s))

theorem watched_setRegionState (r v : Nat) {s : State} (hs : Watched W s) : Watched W (setRegionState r v s) :=
  hs.unreported (unreported_setRegionState _ _ _)

theorem watched_setMode (m : Nat) {s : State} (hs : Watched W s) : Watched W (setMode m s) := by
  unfold setMode
  simp (maxDischargeDepth := 40) only [hs, watched_mk, watched_fold, watched_ite, ite_self, watched_judgeEpisode, watched_put, watched_raise]

/-! ### Operations of `Lookup` -/

theorem watched_dropCachedBlocks (first n : Nat) {s : State} (hs : Watched W s) : Watched W (dropCachedBlocks first n s) :=
  hs.quiet (fr_dropCachedBlocks rfl first n (keeps_refl _ s))

theorem watched_dropCachedRange (first n : Nat) {s : State} (hs : Watched W s) : Watched W (dropCachedRange first n s) :=
  hs.quiet (fr_dropCachedRange rfl first n (keeps_refl _ s))

/-! ### Operations of `Units` -/

theorem watched_noteHealth {s : State} (hs : Watched W s) : Watched W (noteHealth s) :=
  hs.standing (fr_noteHealth rfl (keeps_refl _ s)) fun _ => st_noteHealth (st_refl s)

theorem watched_restoreUnits {s : State} (hs : Watched W s) : Watched W (restoreUnits s) :=
  hs.quiet (fr_restoreUnits rfl (keeps_refl _ s))

theorem watched_disturb (u n : Nat) {s : State} (hs : Watched W s) : Watched W (disturb u n s) :=
  hs.quiet (fr_disturb rfl u n (keeps_refl _ s))

theorem watched_addCycles (u n : Nat) {s : State} (hs : Watched W s) : Watched W (addCycles u n s) :=
  hs.quiet (fr_addCycles rfl u n (keeps_refl _ s))

theorem watched_sectorsProgrammed (u n page : Nat) {s : State} (hs : Watched W s) : Watched W (sectorsProgrammed u n page s) :=
  hs.standing (fr_sectorsProgrammed rfl u n page (keeps_refl _ s)) fun _ => st_sectorsProgrammed _ _ _ (st_refl s)

theorem watched_programsRun (kind : OpKind) (u n bytes : Nat) {s : State} (hs : Watched W s) : Watched W (programsRun kind u n bytes s) :=
  hs.standing (fr_programsRun rfl kind u n bytes (keeps_refl _ s)) fun _ => st_programsRun _ _ _ _ (st_refl s)

/-! ### Operations of `Journal` -/

theorem watched_dirtySegment (seg : Nat) {s : State} (hs : Watched W s) : Watched W (dirtySegment seg s) :=
  hs.quiet (fr_dirtySegment rfl seg (keeps_refl _ s))

theorem watched_dirtyPages (first n : Nat) {s : State} (hs : Watched W s) : Watched W (dirtyPages first n s) :=
  hs.quiet (fr_dirtyPages rfl first n (keeps_refl _ s))

theorem watched_putEntry (k : IntegrityKind) {s : State} (hs : Watched W s) : Watched W (putEntry k s) :=
  hs.quiet (fr_putEntry rfl k (keeps_refl _ s))

theorem watched_programEntries {s : State} (hs : Watched W s) : Watched W (programEntries s) :=
  hs.standing (fr_programEntries rfl (keeps_refl _ s)) fun _ => st_programEntries (st_refl s)

theorem watched_programTail {s : State} (hs : Watched W s) : Watched W (programTail s) :=
  hs.standing (fr_programTail rfl (keeps_refl _ s)) fun _ => st_programTail (st_refl s)

theorem watched_journalPut (k : JournalKind) {s : State} (hs : Watched W s) : Watched W (journalPut k s) :=
  hs.standing (fr_journalPut rfl k (keeps_refl _ s)) fun _ => st_journalPut _ (st_refl s)

theorem watched_linesOnMedium (lines : List (Nat × Nat)) {s : State} (hs : Watched W s) : Watched W (linesOnMedium lines s) :=
  hs.quiet (fr_linesOnMedium rfl lines (keeps_refl _ s))

/-! ### Operations of `Requests` -/

theorem watched_grantCredits (p : Port) {s : State} (hs : Watched W s) : Watched W (grantCredits p s) :=
  hs.standing (fr_grantCredits rfl p (keeps_refl _ s)) fun _ => st_grantCredits _ (st_refl s)

theorem watched_sendData (p : Port) (tag : Nat) (d : Line) (poison : Bool) {s : State} (hs : Watched W s) : Watched W (sendData p tag d poison s) :=
  hs.standing (fr_sendData rfl p tag d poison (keeps_refl _ s)) fun _ => st_sendData _ _ _ _ (st_refl s)

theorem watched_sendCmps (l : List (Port × Nat)) {s : State} (hs : Watched W s) : Watched W (sendCmps l s) :=
  hs.standing (fr_sendCmps rfl l (keeps_refl _ s)) fun _ => st_sendCmps _ (st_refl s)

theorem watched_raiseTimes (n src : Nat) {s : State} (hs : Watched W s) : Watched W (raiseTimes n src s) :=
  hs.standing (fr_raiseTimes rfl n src (keeps_refl _ s)) fun _ => st_raiseTimes _ _ (st_refl s)

/-! ### Operations of `GroupOps` -/

theorem watched_checkPool {s : State} (hs : Watched W s) : Watched W (checkPool s) :=
  hs.standing (fr_checkPool rfl (keeps_refl _ s)) fun _ => st_checkPool (st_refl s)

theorem watched_forceAbort (g cause : Nat) (detail : Nat) {s : State} (hs : Watched W s) : Watched W (forceAbort g cause detail s) :=
  hs.standing (fr_forceAbort rfl g cause detail (keeps_refl _ s)) fun _ => st_forceAbort _ _ _ (st_refl s)

theorem watched_settle (g : Nat) {s : State} (hs : Watched W s) : Watched W (settle g s) :=
  hs.standing (fr_settle rfl g (keeps_refl _ s)) fun _ => st_settle _ (st_refl s)

/-! ### Operations of `Rebuild` -/

theorem watched_rebuildSegment (seg : Nat) {s : State} (hs : Watched W s) : Watched W (rebuildSegment seg s) :=
  hs.quiet (fr_rebuildSegment rfl seg (keeps_refl _ s))

/-! ### Operations of `Responses` -/

theorem watched_sectorsMoved (ch n : Nat) {s : State} (hs : Watched W s) : Watched W (sectorsMoved ch n s) :=
  hs.standing (fr_sectorsMoved rfl ch n (keeps_refl _ s)) fun _ => st_sectorsMoved _ _ (st_refl s)

theorem watched_sectorMoved (ch : Nat) {s : State} (hs : Watched W s) : Watched W (sectorMoved ch s) := by
  unfold sectorMoved
  simp only [hs, watched_sectorsMoved]

theorem watched_agentReads (cls unit n : Nat) {s : State} (hs : Watched W s) : Watched W (agentReads cls unit n s) :=
  hs.standing (fr_agentReads rfl cls unit n (keeps_refl _ s)) fun _ => st_agentReads _ _ _ (st_refl s)

theorem watched_integritySector (obj : IntegrityObject) {s : State} (hs : Watched W s) : Watched W (integritySector obj s) := by
  unfold integritySector
  split <;> simp only [hs, watched_sectorMoved]

theorem watched_fetchLine (obj : IntegrityObject) {s : State} (hs : Watched W s) : Watched W (fetchLine obj s) := by
  unfold fetchLine
  simp (maxDischargeDepth := 40) +contextual only [hs, watched_ite, ite_self, implies_true, watched_bump, watched_cacheLine, watched_integritySector,
    watched_foldl]

theorem watched_modRead (id : Nat) (f : Read → Read) {s : State} (hs : Watched W s) : Watched W (modRead id f s) :=
  hs.quiet (fr_modRead rfl id f (keeps_refl _ s))

theorem watched_addRead (r : Read) {s : State} (hs : Watched W s) : Watched W (addRead r s) :=
  hs.quiet (fr_addRead rfl r (keeps_refl _ s))

theorem watched_dropRead (id : Nat) {s : State} (hs : Watched W s) : Watched W (dropRead id s) :=
  hs.quiet (fr_dropRead rfl id (keeps_refl _ s))

theorem watched_answerRead (r : Read) (v : Version) {s : State} (hs : Watched W s) : Watched W (answerRead r v s) :=
  hs.standing (fr_answerRead rfl r v (keeps_refl _ s)) fun _ => st_answerRead _ _ (st_refl s)

/-! ### Operations of `WearOps` -/

theorem watched_recordUnit (u : Nat) {s : State} (hs : Watched W s) : Watched W (recordUnit u s) := by
  unfold recordUnit
  simp only [hs, watched_journalPut]

theorem watched_setUnitState (u state : Nat) {s : State} (hs : Watched W s) : Watched W (setUnitState u state s) := by
  unfold setUnitState
  simp (maxDischargeDepth := 40) only [hs, watched_ite, ite_self, watched_bump, watched_raise, watched_recordUnit, watched_setUnit]

theorem watched_sectorProgrammed (u page : Nat) {s : State} (hs : Watched W s) : Watched W (sectorProgrammed u page s) := by
  unfold sectorProgrammed
  simp only [hs, watched_ite, ite_self, watched_programTail, watched_sectorsProgrammed]

theorem watched_unitReset (u mode : Nat) {s : State} (hs : Watched W s) : Watched W (unitReset u mode s) := by
  unfold unitReset
  simp (maxDischargeDepth := 40) only [hs, watched_ite, ite_self, watched_addCycles, watched_count1, watched_disturb, watched_recordUnit,
    watched_setUnit]

theorem watched_orderReset (stripe mode before : Nat) {s : State} (hs : Watched W s) : Watched W (orderReset stripe mode before s) :=
  hs.quiet (fr_orderReset rfl stripe mode before (keeps_refl _ s))

theorem watched_notePool {s : State} (hs : Watched W s) : Watched W (notePool s) := by
  unfold notePool
  simp only [hs, watched_mk, watched_fold, watched_ite, ite_self, watched_raise]

/-! ### Operations of `LogOps` -/

theorem watched_reEncrypt (line : Nat) {s : State} (hs : Watched W s) : Watched W (reEncrypt line s) := by
  unfold reEncrypt
  simp (maxDischargeDepth := 40) +contextual only [hs, watched_mk, watched_fold, implies_true, watched_agentReads, watched_bump, watched_putEntry,
    watched_raise, watched_touchBlock, watched_foldl]

theorem watched_takeSeal (line : Nat) (grp : Option Nat) (stamp : Nat) (preset : Option Seal) {s : State} (hs : Watched W s) :
    Watched W (takeSeal line grp stamp preset s).2 := by
  unfold takeSeal
  split
  · exact watched_touchIntegrity _ (watched_fetchLine _ hs)
  · split
    · exact hs
    · have h := watched_fetchLine (.tagLine (line / 8)) (watched_fetchLine (.counterBlock (pageOfLine line)) hs)
      refine watched_touchIntegrity _ (watched_touchBlock _ ?_)
      split
      · exact watched_reEncrypt _ h
      · simpa only [watched_mk, watched_fold] using h

theorem watched_sealInto (place line : Nat) (grp tag : Option Nat) (data : Line) (poison : Bool) (stamp : Nat) (preset : Option Seal)
    {s : State} (hs : Watched W s) :
    Watched W (sealInto place line grp tag data poison stamp preset s).2 := by
  have h := watched_takeSeal line tag stamp preset hs
  unfold sealInto
  simp only
  generalize (takeSeal line tag stamp preset s).2 = a at h ⊢
  split
  · exact watched_touchIntegrity _ (watched_fetchLine _ h)
  · exact h

theorem watched_checkLogFull {s : State} (hs : Watched W s) : Watched W (checkLogFull s) := by
  unfold checkLogFull
  split <;> simp only [hs, watched_mk, watched_fold, watched_ite, ite_self, watched_bump, watched_raise, watched_raiseTo]

theorem watched_rowStarted (mark : Nat) (x : List ProgramStart) {s : State} (hs : Watched W s) : Watched W (rowStarted mark x s) :=
  hs.quiet (fr_rowStarted rfl mark x (keeps_refl _ s))

theorem watched_moveStamp (m : LogMove) {s : State} (hs : Watched W s) : Watched W (moveStamp m s).2 :=
  hs.quiet (fr_moveStamp rfl m (keeps_refl _ s))

theorem watched_placeMoves (mark q : Nat) (l : List LogMove) (acc : List LogLine) {s : State} (hs : Watched W s) :
    Watched W (placeMoves mark q l acc s).2 := by
  induction l generalizing q acc s with
  | nil => exact hs
  | cons m l ih =>
    exact ih _ _ (watched_sealInto (mark * 45 + q) m.line m.grp m.groupTag m.data m.poison (moveStamp m s).1 m.preset (watched_moveStamp m hs))

theorem watched_placeStaged (mark q : Nat) (l : List Staged) (acc : List LogLine) {s : State} (hs : Watched W s) :
    Watched W (placeStaged mark q l acc s).2 := by
  induction l generalizing q acc s with
  | nil => exact hs
  | cons x l ih => exact ih _ _ (watched_sealInto (mark * 45 + q) x.line x.grp x.tag x.data x.poison (if x.tag.isSome then x.orig else x.stamp) none
    hs)

theorem watched_dispatchRow {s : State} (hs : Watched W s) : Watched W (dispatchRow s) := by
  unfold dispatchRow
  simp (maxDischargeDepth := 40) only [hs, watched_mk, watched_fold, watched_checkLogFull, watched_placeMoves, watched_placeStaged]

theorem watched_landMove (l : LogLine) (source : Option Nat) {s : State} (hs : Watched W s) : Watched W (landMove l source s) :=
  hs.quiet (fr_landMove rfl l source (keeps_refl _ s))

theorem watched_landStaged (mark : Nat) (l : LogLine) {s : State} (hs : Watched W s) : Watched W (landStaged mark l s) :=
  hs.quiet (fr_landStaged rfl mark l (keeps_refl _ s))

theorem watched_completeRow (r : LogRow) {s : State} (hs : Watched W s) : Watched W (completeRow r s) := by
  unfold completeRow
  refine watched_sendCmps _ (watched_checkLogFull (watched_count1 _ _ ?_))
  simp only
  have h : ∀ t : State, Watched W t → Watched W (linesOnMedium ((r.lines.filter fun l => l.moved.isNone).map (·.line))
      (r.lines.foldl (fun t l => match l.moved with
        | some source => landMove l source t
        | none => landStaged r.mark l t) (r.lines.foldl (fun t l => putEntry l.entry t) t))) := fun t ht =>
    watched_linesOnMedium _ (watched_foldl (fun t l ht => by
      split
      · exact watched_landMove _ _ ht
      · exact watched_landStaged _ _ ht) _ (watched_foldl (fun t l ht => watched_putEntry _ ht) _ ht))
  have h' := h { s with med := { s.med with rows := s.med.rows.map fun x => if x.mark == r.mark then { x with complete := true } else x } } hs
  split
  · exact watched_programTail h'
  · split
    · exact watched_programEntries h'
    · exact h'

theorem watched_startJobs (jobs : List Job) {s : State} (hs : Watched W s) : Watched W (startJobs jobs s).2 :=
  hs.quiet (fr_startJobs rfl jobs (keeps_refl _ s))

theorem watched_landRow (r : LogRow) {s : State} (hs : Watched W s) : Watched W (landRow r s) := by
  unfold landRow
  exact watched_completeRow _ (watched_foldl (fun t u ht => watched_sectorProgrammed _ _ ht) _
    (watched_foldl (fun t j ht => watched_programsRun _ _ _ _ ht) _ (watched_rowStarted _ _ (watched_startJobs _ (watched_endOverruns hs)))))

theorem watched_flushLog (n : Nat) {s : State} (hs : Watched W s) : Watched W (flushLog n s) := by
  induction n generalizing s with
  | zero => exact hs
  | succ n ih =>
    unfold flushLog
    split
    · exact ih (watched_landRow _ hs)
    · simp only
      split
      · exact ih (watched_dispatchRow hs)
      · exact hs

theorem watched_programAll {s : State} (hs : Watched W s) : Watched W (programAll s) := by
  unfold programAll
  simp only [hs, watched_flushLog, watched_programTail]

/-! ### Operations of `Replies` -/

theorem watched_noteChange (key kind path privilege session counter length : Nat) (old new : List Byte) {s : State} (hs : Watched W s) :
    Watched W (noteChange key kind path privilege session counter length old new s) := by
  have h (l : List ChangeRecord) : Watched W (takeStamp { s with mgmt := { s.mgmt with changes := l } }) := watched_takeStamp hs
  unfold noteChange
  exact watched_raiseIf _ _ (watched_raise _ (watched_bump _ (h _)))

theorem watched_noteOwnChange (key kind : Nat) (old : List Byte) {s : State} (hs : Watched W s) : Watched W (noteOwnChange key kind old s) := by
  unfold noteOwnChange
  simp only [hs, watched_noteChange]

theorem watched_endAllSessions {s : State} (hs : Watched W s) : Watched W (endAllSessions s) :=
  hs.quiet (fr_endAllSessions rfl (keeps_refl _ s))

theorem watched_endPortSessions (p : Port) {s : State} (hs : Watched W s) : Watched W (endPortSessions p s) :=
  hs.quiet (fr_endPortSessions rfl p (keeps_refl _ s))

theorem watched_putSession (x : Session) {s : State} (hs : Watched W s) : Watched W (putSession x s) :=
  hs.quiet (fr_putSession rfl x (keeps_refl _ s))

theorem watched_deliver (req : Req) (o : Out) {s : State} (hs : Watched W s) : Watched W (deliver req o s) :=
  hs.quiet (fr_deliver rfl req o (keeps_refl _ s))

theorem watched_endWith (req : Req) (idx sub : Nat) (ask : DictAsk) (status : Nat) {s : State} (hs : Watched W s) :
    Watched W (endWith req idx sub ask status s) :=
  hs.quiet (fr_endWith rfl req idx sub ask status (keeps_refl _ s))

theorem watched_overtakeDeferred {s : State} (hs : Watched W s) : Watched W (overtakeDeferred s) :=
  hs.quiet (fr_overtakeDeferred rfl (keeps_refl _ s))

theorem watched_setAction (key status : Nat) {s : State} (hs : Watched W s) : Watched W (setAction key status s) :=
  hs.quiet (fr_setAction rfl key status (keeps_refl _ s))

theorem watched_endAction (key status : Nat) {s : State} (hs : Watched W s) : Watched W (endAction key status s) :=
  hs.quiet (fr_endAction rfl key status (keeps_refl _ s))

/-! ### Operations of `MediaOps` -/

theorem watched_dropPrefetches (d : Nat) {s : State} (hs : Watched W s) : Watched W (dropPrefetches d s) :=
  hs.standing (fr_dropPrefetches rfl d (keeps_refl _ s)) fun _ => st_dropPrefetches _ (st_refl s)

theorem watched_noteReconstruction (r : Read) {s : State} (hs : Watched W s) : Watched W (noteReconstruction r s) :=
  hs.standing (fr_noteReconstruction rfl r (keeps_refl _ s)) fun _ => st_noteReconstruction _ (st_refl s)

theorem watched_releaseReads (ready : Nat → Bool) {s : State} (hs : Watched W s) : Watched W (releaseReads ready s) :=
  hs.standing (fr_releaseReads rfl ready (keeps_refl _ s)) fun _ => st_releaseReads _ (st_refl s)

/-! ### Operations of `Stores` -/

theorem watched_drainPort (p : Port) {s : State} (hs : Watched W s) : Watched W (drainPort p s) := by
  unfold drainPort
  simp only [hs, watched_drainTo]

/-! ### Operations of `WindowOps` -/

theorem watched_triggerDrain (p : Port) {s : State} (hs : Watched W s) : Watched W (triggerDrain p s) :=
  watched_resumePort p (watched_drainPort p hs)

/-! ### Operations of `HaltOps` -/

theorem watched_raiseReady (p : Port) {s : State} (hs : Watched W s) : Watched W (raiseReady p s) := by
  unfold raiseReady
  simp (maxDischargeDepth := 40) +contextual only [hs, watched_ite, ite_self, implies_true, watched_modPort, watched_put, watched_raise]

theorem watched_dropReady (p : Port) {s : State} (hs : Watched W s) : Watched W (dropReady p s) := by
  unfold dropReady
  simp (maxDischargeDepth := 40) +contextual only [hs, watched_ite, ite_self, implies_true, watched_modPort, watched_put]

/-- Accesses that are forgotten store where they would have, or not at all (R68). -/
theorem watched_forgetRequests (p : Port) {s : State} (hs : Watched W s) : Watched W (forgetRequests p s) := by
  have hwaits (q : PortState) (h : W.AdmitsAll q.waits) :
      W.AdmitsAll ((q.waits.filter fun w => w.ask != .read).map fun w => { w with answers := false }) := by
    intro w hw
    obtain ⟨v, hv, rfl⟩ := List.mem_map.mp hw
    exact h v (List.mem_of_mem_filter hv)
  have hgroups : Watched W (s.groups.foldl (fun t e => t.setGroup e.1 { e.2 with readers := e.2.readers.filter fun r => r.port != p }) s) :=
    watched_foldl (fun t e ht => watched_setGroup _ _ ht) _ hs
  unfold forgetRequests
  simp only [watched_mk, watched_fold]
  exact watched_foldl (fun t r ht => watched_dropRead r.id ht) _ (watched_modPort p _ hwaits hgroups)

theorem watched_dropLink (p : Port) {s : State} (hs : Watched W s) : Watched W (dropLink p s) := by
  unfold dropLink
  simp (maxDischargeDepth := 40) +contextual only [hs, implies_true, watched_endPortSessions, watched_forgetRequests, watched_modPort, watched_put,
    watched_raiseIf]

theorem watched_closeDrained (p : Port) {s : State} (hs : Watched W s) : Watched W (closeDrained p s) := by
  unfold closeDrained
  simp only [hs, watched_ite, ite_self, watched_dropLink]

theorem watched_portException (p : Port) (cause : Nat) {s : State} (hs : Watched W s) : Watched W (portException p cause s) := by
  unfold portException
  simp (maxDischargeDepth := 40) only [hs, watched_bump, watched_loseAll, watched_put, watched_raise, watched_triggerDrain]

theorem watched_bothExceptions (cause : Nat) {s : State} (hs : Watched W s) : Watched W (bothExceptions cause s) := by
  unfold bothExceptions
  simp only [hs, watched_ite, ite_self, watched_portException]

theorem watched_haltChannel (k cause dpa direction : Nat) {s : State} (hs : Watched W s) : Watched W (haltChannel k cause dpa direction s) := by
  unfold haltChannel
  simp (maxDischargeDepth := 40) only [hs, watched_bump, watched_raise, watched_setChannel]

theorem watched_haltDma (failed : Option Nat) {s : State} (hs : Watched W s) : Watched W (haltDma failed s) := by
  unfold haltDma
  simp (maxDischargeDepth := 40) +contextual only [hs, watched_ite, ite_self, implies_true, watched_drawn, watched_haltChannel, watched_foldl]

theorem watched_recordFailure (obj : FailedObject) {s : State} (hs : Watched W s) : Watched W (recordFailure obj s) := by
  unfold recordFailure
  simp (maxDischargeDepth := 40) only [hs, watched_mk, watched_fold, watched_bump, watched_put, watched_raise, watched_takeStamp]

theorem watched_silence {s : State} (hs : Watched W s) : Watched W (silence s) := by
  unfold silence
  simp +contextual only [hs, implies_true, watched_modPort]

theorem watched_setAsideNamed {s : State} (hs : Watched W s) : Watched W (setAsideNamed s) := by
  unfold setAsideNamed
  simp +contextual only [hs, watched_mk, watched_fold, implies_true, watched_modPort]

theorem watched_settleAll {s : State} (hs : Watched W s) : Watched W (settleAll s) := by
  unfold settleAll
  simp +contextual only [hs, implies_true, watched_settle, watched_foldl]

theorem watched_finishLoop (n : Nat) {s : State} (hs : Watched W s) : Watched W (finishLoop n s) := by
  induction n generalizing s with
  | zero => exact hs
  | succ n ih => exact watched_cond (ih (watched_triggerDrain _ (watched_triggerDrain _ (watched_settleAll (watched_programAll hs))))) hs

theorem watched_finishAccepted {s : State} (hs : Watched W s) : Watched W (finishAccepted s) := by
  unfold finishAccepted
  simp only [hs, watched_finishLoop]

theorem watched_stopDozeEntry {s : State} (hs : Watched W s) : Watched W (stopDozeEntry s) := by
  unfold stopDozeEntry
  split <;> simp (maxDischargeDepth := 40) +contextual only [hs, watched_mk, watched_fold, implies_true, watched_endAction, watched_modPort]

theorem watched_haltNow (failed : Option Nat) {s : State} (hs : Watched W s) : Watched W (haltNow failed s) := by
  unfold haltNow
  simp (maxDischargeDepth := 40) only [hs, watched_mk, watched_fold, watched_bothExceptions, watched_dropReady, watched_finishAccepted,
    watched_forgetRequests, watched_haltDma, watched_put, watched_setAsideNamed, watched_setMode, watched_settleAll, watched_silence,
    watched_stopDozeEntry]

theorem watched_failCheck (obj : FailedObject) {s : State} (hs : Watched W s) : Watched W (failCheck obj s) := by
  unfold failCheck
  simp only [hs, watched_ite, ite_self, watched_haltNow, watched_recordFailure, watched_setAsideNamed]

/-! ### Operations of `StoredOps` -/

theorem watched_saveErrors {s : State} (hs : Watched W s) : Watched W (saveErrors s) :=
  hs.quiet (fr_saveErrors rfl (keeps_refl _ s))

theorem watched_tableError (mem : MemKind) (address : Nat) (uncorrectable : Bool) {s : State} (hs : Watched W s) :
    Watched W (tableError mem address uncorrectable s) := by
  unfold tableError
  simp only
  split
  · exact hs
  · split
    · exact watched_saveErrors hs
    · split
      · exact watched_saveErrors hs
      · exact watched_raise _ (watched_bump _ hs)

theorem watched_queueTest (mem : MemKind) (address : Nat) {s : State} (hs : Watched W s) : Watched W (queueTest mem address s) :=
  hs.quiet (fr_queueTest rfl mem address (keeps_refl _ s))

theorem watched_detectError (mem : MemKind) (address : Nat) (uncorrectable : Bool) {s : State} (hs : Watched W s) :
    Watched W (detectError mem address uncorrectable s) := by
  unfold detectError
  split <;> simp (maxDischargeDepth := 40) only [hs, watched_ite, ite_self, watched_bump, watched_queueTest, watched_raise, watched_tableError]

/-! ### Operations of `Fold` -/

theorem watched_releaseStripe (stripe : Nat) {s : State} (hs : Watched W s) : Watched W (releaseStripe stripe s) :=
  hs.quiet (fr_releaseStripe rfl stripe (keeps_refl _ s))

theorem watched_moveRing (r : Ring) (index new : Nat) {s : State} (hs : Watched W s) : Watched W (moveRing r index new s) := by
  unfold moveRing
  simp (maxDischargeDepth := 40) +contextual only [hs, watched_ite, ite_self, implies_true, watched_journalPut, watched_notePool, watched_orderReset,
    watched_programTail, watched_releaseStripe, watched_setStripe, watched_setUnitState, watched_foldl]

/-! ### Operations of `MediaReads` -/

theorem watched_reconstructWaiting (region : Nat) (only : Read → Bool) {s : State} (hs : Watched W s) :
    Watched W (reconstructWaiting region only s) := by
  unfold reconstructWaiting
  simp (maxDischargeDepth := 40) +contextual only [hs, implies_true, watched_modRead, watched_noteReconstruction, watched_foldl]

/-! ### Operations of `DriftOps` -/

theorem watched_poisonLine (line : Nat) {s : State} (hs : Watched W s) : Watched W (poisonLine line s) :=
  hs.quiet (fr_poisonLine rfl line (keeps_refl _ s))

theorem watched_poisonProvisional (line : Nat) {s : State} (hs : Watched W s) : Watched W (poisonProvisional line s) :=
  hs.quiet (fr_poisonProvisional rfl line (keeps_refl _ s))

theorem watched_loseData (die : Nat) {s : State} (hs : Watched W s) : Watched W (loseData die s) := by
  unfold loseData
  simp (maxDischargeDepth := 40) +contextual only [hs, watched_ite, ite_self, implies_true, watched_bump, watched_nameLines, watched_poisonLine,
    watched_poisonProvisional, watched_raise, watched_foldl]

theorem watched_dropWork (die : Nat) (failed : Bool) {s : State} (hs : Watched W s) : Watched W (dropWork die failed s) :=
  hs.quiet (fr_dropWork rfl die failed (keeps_refl _ s))

theorem watched_moveSaves {s : State} (hs : Watched W s) : Watched W (moveSaves s) := by
  refine watched_foldl (fun t i ht => ?_) _ hs
  split
  · exact ht
  · split
    · exact watched_moveRing _ _ _ ht
    · exact ht

theorem watched_dieLeaves (die state : Nat) {s : State} (hs : Watched W s) : Watched W (dieLeaves die state s) := by
  unfold dieLeaves
  simp (maxDischargeDepth := 40) +contextual only [hs, watched_mk, watched_fold, watched_ite, ite_self, implies_true, watched_dropWork,
    watched_judgeEpisode, watched_loseData, watched_moveSaves, watched_noteHealth, watched_put, watched_raise, watched_reconstructWaiting,
    watched_foldl]

theorem watched_refuseBinds {s : State} (hs : Watched W s) : Watched W (refuseBinds s) :=
  hs.quiet (fr_refuseBinds rfl (keeps_refl _ s))

theorem watched_takeOffline (r : Nat) {s : State} (hs : Watched W s) : Watched W (takeOffline r s) := by
  unfold takeOffline
  simp (maxDischargeDepth := 40) +contextual only [hs, implies_true, watched_forceAbort, watched_refuseBinds, watched_setRegionState, watched_foldl]

theorem watched_prepare (r : Nat) {s : State} (hs : Watched W s) : Watched W (prepare r s) := by
  unfold prepare
  simp +contextual only [hs, watched_mk, watched_fold, watched_ite, ite_self, implies_true, watched_dirtySegment, watched_setRegionState,
    watched_foldl]

theorem watched_abandonPreparation (r : Nat) {s : State} (hs : Watched W s) : Watched W (abandonPreparation r s) :=
  hs.quiet (fr_abandonPreparation rfl r (keeps_refl _ s))

theorem watched_bringOnline (r : Nat) {s : State} (hs : Watched W s) : Watched W (bringOnline r s) := by
  unfold bringOnline
  simp only [hs, watched_ite, ite_self, watched_prepare, watched_setRegionState]

/-! ### Operations of `IntegrityOps` -/

theorem watched_writeAnchor {s : State} (hs : Watched W s) : Watched W (writeAnchor s) :=
  hs.quiet (fr_writeAnchor rfl (keeps_refl _ s))

theorem watched_pinRegion (r : Nat) {s : State} (hs : Watched W s) : Watched W (pinRegion r s) := by
  unfold pinRegion
  simp (maxDischargeDepth := 40) +contextual only [hs, implies_true, watched_addTo, watched_cacheLine, watched_sectorsMoved, watched_foldl]

theorem watched_poisonRanges (stamp : Nat) (ranges : List (Nat × Nat)) {s : State} (hs : Watched W s) : Watched W (poisonRanges stamp ranges s) :=
  hs.quiet (fr_poisonRanges rfl stamp ranges (keeps_refl _ s))

theorem watched_resume (reAnchor : Bool) {s : State} (hs : Watched W s) : Watched W (resume reAnchor s) := by
  unfold resume
  split <;> simp (maxDischargeDepth := 40) +contextual only [hs, watched_mk, watched_fold, watched_ite, ite_self, implies_true,
    watched_dropCachedBlocks, watched_modPort, watched_poisonRanges, watched_put, watched_raise, watched_raiseReady, watched_setMode,
    watched_takeStamp, watched_writeAnchor, watched_foldl]

theorem watched_abortForSlot (slot : Nat) {s : State} (hs : Watched W s) : Watched W (abortForSlot slot s) := by
  unfold abortForSlot
  simp +contextual only [hs, implies_true, watched_forceAbort, watched_foldl]

theorem watched_installKey (slot : Nat) {s : State} (hs : Watched W s) : Watched W (installKey slot s) := by
  unfold installKey
  simp (maxDischargeDepth := 40) +contextual only [hs, watched_mk, watched_fold, implies_true, watched_dirtyPages, watched_dropCachedRange,
    watched_journalPut, watched_programTail, watched_put, watched_sendCmps, watched_foldl]

theorem watched_renewSlot (slot : Nat) {s : State} (hs : Watched W s) : Watched W (renewSlot slot s) := by
  unfold renewSlot
  simp (maxDischargeDepth := 40) only [hs, watched_abortForSlot, watched_installKey, watched_raise]

theorem watched_sanitizeNow {s : State} (hs : Watched W s) : Watched W (sanitizeNow s) := by
  unfold sanitizeNow
  simp (maxDischargeDepth := 40) +contextual only [hs, implies_true, watched_abortForSlot, watched_installKey, watched_raise, watched_raiseTimes,
    watched_foldl]

/-! ### Operations of `Translation` -/

theorem watched_rebuildAll {s : State} (hs : Watched W s) : Watched W (rebuildAll s) := by
  unfold rebuildAll
  simp (maxDischargeDepth := 40) +contextual only [hs, watched_mk, watched_fold, implies_true, watched_rebuildSegment, watched_releaseReads,
    watched_foldl]

/-! ### Operations of `Integrity` -/

theorem watched_detectSomewhere (mem : MemKind) (uncorrectable : Bool) {s : State} (hs : Watched W s) :
    Watched W (detectSomewhere mem uncorrectable s) := by
  unfold detectSomewhere
  simp only [hs, watched_detectError, watched_drawn]

/-! ### Operations of `PowerOps` -/

theorem watched_railsOn (codes : List Nat) {s : State} (hs : Watched W s) : Watched W (railsOn codes s) :=
  hs.quiet (fr_railsOn rfl codes (keeps_refl _ s))

theorem watched_finishLeaving {s : State} (hs : Watched W s) : Watched W (finishLeaving s) := by
  unfold finishLeaving
  simp only [hs, watched_mk, watched_fold, watched_ite, ite_self, watched_programAll, watched_put]

theorem watched_loseProtection (causes : Nat) {s : State} (hs : Watched W s) : Watched W (loseProtection causes s) := by
  unfold loseProtection
  simp (maxDischargeDepth := 40) only [hs, watched_mk, watched_fold, watched_bothExceptions, watched_finishLeaving, watched_put, watched_raise]

theorem watched_regainProtection {s : State} (hs : Watched W s) : Watched W (regainProtection s) := by
  unfold regainProtection
  simp (maxDischargeDepth := 40) only [hs, watched_mk, watched_fold, watched_put, watched_raise]

theorem watched_updateProtection {s : State} (hs : Watched W s) : Watched W (updateProtection s) := by
  unfold updateProtection
  simp only [hs, watched_ite, ite_self, watched_finishLeaving, watched_loseProtection, watched_put, watched_regainProtection]

theorem watched_unmeasured {s : State} (hs : Watched W s) : Watched W (unmeasured s) :=
  hs.quiet (fr_unmeasured rfl (keeps_refl _ s))

theorem watched_holdPins {s : State} (hs : Watched W s) : Watched W (holdPins s) :=
  hs.quiet (fr_holdPins rfl (keeps_refl _ s))

theorem watched_releasePins {s : State} (hs : Watched W s) : Watched W (releasePins s) :=
  hs.quiet (fr_releasePins rfl (keeps_refl _ s))

theorem watched_withholdCredits (b : Bool) {s : State} (hs : Watched W s) : Watched W (withholdCredits b s) := by
  unfold withholdCredits
  simp +contextual only [hs, implies_true, watched_modPort]

theorem watched_switchSlots {s : State} (hs : Watched W s) : Watched W (switchSlots s) :=
  hs.quiet (fr_switchSlots rfl (keeps_refl _ s))

theorem watched_endActivation (a : Activation) (result src : Nat) {s : State} (hs : Watched W s) : Watched W (endActivation a result src s) := by
  unfold endActivation
  simp (maxDischargeDepth := 40) only [hs, watched_mk, watched_fold, watched_endAction, watched_put, watched_raise]

theorem watched_finishActivation {s : State} (hs : Watched W s) : Watched W (finishActivation s) := by
  unfold finishActivation
  split <;> simp only [hs, watched_ite, ite_self, watched_endActivation, watched_switchSlots]

theorem watched_interruptActivation {s : State} (hs : Watched W s) : Watched W (interruptActivation s) := by
  unfold interruptActivation
  split <;> simp only [hs, watched_mk, watched_fold, watched_ite, ite_self, watched_endAction, watched_finishActivation, watched_put]

theorem watched_enterFall {s : State} (hs : Watched W s) : Watched W (enterFall s) := by
  unfold enterFall
  simp (maxDischargeDepth := 40) only [hs, watched_mk, watched_fold, watched_dropLink, watched_dropReady, watched_releasePins, watched_setMode]

theorem watched_freshPorts {s : State} (hs : Watched W s) : Watched W (freshPorts s) := by
  have hnone : W.AdmitsAll [] := fun _ h => absurd h List.not_mem_nil
  unfold freshPorts
  exact watched_put _ _ (watched_put _ _ ⟨hs.kept, hnone, hnone⟩)

theorem watched_startRise {s : State} (hs : Watched W s) : Watched W (startRise s) := by
  unfold startRise
  simp (maxDischargeDepth := 40) only [hs, watched_mk, watched_fold, watched_ite, ite_self, watched_freshPorts, watched_put, watched_raise,
    watched_setMode, watched_unmeasured]

theorem watched_wakeRise {s : State} (hs : Watched W s) : Watched W (wakeRise s) := by
  unfold wakeRise
  simp only [hs, watched_mk, watched_fold, watched_ite, ite_self, watched_put, watched_startRise]

theorem watched_abandonWork {s : State} (hs : Watched W s) : Watched W (abandonWork s) :=
  hs.quiet (fr_abandonWork rfl (keeps_refl _ s))

theorem watched_startCurtain (cause : Nat) {s : State} (hs : Watched W s) : Watched W (startCurtain cause s) := by
  unfold startCurtain
  simp (maxDischargeDepth := 40) only [hs, watched_mk, watched_fold, watched_ite, ite_self, watched_abandonWork, watched_bothExceptions,
    watched_endAction, watched_holdPins, watched_interruptActivation, watched_overtakeDeferred, watched_put, watched_railsOn, watched_raise,
    watched_setMode, watched_settleAll, watched_takeStamp, watched_withholdCredits]

theorem watched_triggerCurtain (cause : Nat) {s : State} (hs : Watched W s) : Watched W (triggerCurtain cause s) := by
  unfold triggerCurtain
  split <;> simp only [hs, watched_mk, watched_fold, watched_ite, ite_self, watched_enterFall, watched_put, watched_startCurtain]

theorem watched_restartRise {s : State} (hs : Watched W s) : Watched W (restartRise s) := by
  unfold restartRise
  simp (maxDischargeDepth := 40) only [hs, watched_mk, watched_fold, watched_dropLink, watched_dropReady, watched_freshPorts,
    watched_interruptActivation, watched_put, watched_setMode]

theorem watched_deviceReset (code : Nat) {s : State} (hs : Watched W s) : Watched W (deviceReset code s) := by
  unfold deviceReset
  simp (maxDischargeDepth := 40) only [hs, watched_mk, watched_fold, watched_ite, ite_self, watched_bump, watched_endAllSessions, watched_enterFall,
    watched_put, watched_raise, watched_restartRise, watched_startCurtain, watched_triggerCurtain]

/-! ### Operations of `ModeOps` -/

theorem watched_wakeBy (source : Nat) {s : State} (hs : Watched W s) : Watched W (wakeBy source s) := by
  unfold wakeBy
  repeat' split
  all_goals simp only [hs, watched_mk, watched_fold, watched_put, watched_raise]

theorem watched_linksL1 (b : Bool) {s : State} (hs : Watched W s) : Watched W (linksL1 b s) := by
  unfold linksL1
  simp +contextual only [hs, implies_true, watched_modPort]

theorem watched_wakeUp {s : State} (hs : Watched W s) : Watched W (wakeUp s) := by
  unfold wakeUp
  simp (maxDischargeDepth := 40) only [hs, watched_mk, watched_fold, watched_linksL1, watched_railsOn, watched_setMode, watched_withholdCredits]

theorem watched_releaseScratch {s : State} (hs : Watched W s) : Watched W (releaseScratch s) := by
  unfold releaseScratch
  split <;> simp only [hs, watched_mk, watched_fold, watched_ite, ite_self, watched_setUnitState]

theorem watched_buttonCurtain {s : State} (hs : Watched W s) : Watched W (buttonCurtain s) := by
  unfold buttonCurtain
  simp only [hs, watched_ite, ite_self, watched_put, watched_triggerCurtain]

/-! ### Operations of `EventOps` -/

theorem watched_clearLatch (src count stamp : Nat) {s : State} (hs : Watched W s) : Watched W (clearLatch src count stamp s) := by
  unfold clearLatch
  simp only [hs, watched_ite, ite_self, watched_latchMsi, watched_put]

theorem watched_clearRecorder (arg stamp : Nat) {s : State} (hs : Watched W s) : Watched W (clearRecorder arg stamp s) := by
  unfold clearRecorder
  simp only [hs, watched_mk, watched_fold, watched_ite, ite_self, watched_put, watched_raise, watched_recordOccurrence]

/-! ### Operations of `ObserveOps` -/

theorem watched_emptySamples {s : State} (hs : Watched W s) : Watched W (emptySamples s) :=
  hs.quiet (fr_emptySamples rfl (keeps_refl _ s))

theorem watched_emptyNotices {s : State} (hs : Watched W s) : Watched W (emptyNotices s) :=
  hs.quiet (fr_emptyNotices rfl (keeps_refl _ s))

theorem watched_emptyReceived {s : State} (hs : Watched W s) : Watched W (emptyReceived s) :=
  hs.quiet (fr_emptyReceived rfl (keeps_refl _ s))

theorem watched_flushIf (on : Bool) {empty : State → State} {s : State} (he : ∀ t, Watched W t → Watched W (empty t)) (hs : Watched W s) :
    Watched W (flushIf on empty s) :=
  watched_cond (watched_raise _ (watched_bump _ (he _ hs))) hs

theorem watched_flushQueues (bits : Nat) {s : State} (hs : Watched W s) : Watched W (flushQueues bits s) :=
  watched_flushIf _ (fun _ => watched_emptyReceived) (watched_flushIf _ (fun _ => watched_emptyNotices) (watched_flushIf _ (fun _ =>
    watched_emptySamples) hs))

theorem watched_releaseChannel (k : Nat) {s : State} (hs : Watched W s) : Watched W (releaseChannel k s) :=
  hs.quiet (fr_releaseChannel rfl k (keeps_refl _ s))

/-! ### Operations of `Modes` -/

theorem watched_startDoze {s : State} (hs : Watched W s) : Watched W (startDoze s) :=
  hs.quiet (fr_startDoze rfl (keeps_refl _ s))

theorem watched_undoDoze (n : Nat) {s : State} (hs : Watched W s) : Watched W (undoDoze n s) := by
  unfold undoDoze
  simp (maxDischargeDepth := 40) only [hs, watched_mk, watched_fold, watched_ite, ite_self, watched_linksL1, watched_railsOn, watched_withholdCredits]

theorem watched_offRequest {s : State} (hs : Watched W s) : Watched W (offRequest s) := by
  unfold offRequest
  simp only [hs, watched_mk, watched_fold, watched_ite, ite_self, watched_enterFall, watched_triggerCurtain]

theorem watched_onRequest {s : State} (hs : Watched W s) : Watched W (onRequest s) := by
  unfold onRequest
  simp only [hs, watched_mk, watched_fold, watched_ite, ite_self, watched_wakeRise]

theorem watched_retryRails {s : State} (hs : Watched W s) : Watched W (retryRails s) := by
  unfold retryRails
  simp only [hs, watched_mk, watched_fold, watched_startRise]

theorem watched_enterService {s : State} (hs : Watched W s) : Watched W (enterService s) := by
  unfold enterService
  simp (maxDischargeDepth := 40) only [hs, watched_mk, watched_fold, watched_ite, ite_self, watched_loseAll, watched_raise, watched_setMode,
    watched_stopDozeEntry, watched_undoDoze]

theorem watched_leaveService {s : State} (hs : Watched W s) : Watched W (leaveService s) := by
  unfold leaveService
  simp (maxDischargeDepth := 40) only [hs, watched_raise, watched_releaseScratch, watched_setMode]

theorem watched_activateOnline (result : ActivationResult) {s : State} (hs : Watched W s) : Watched W (activateOnline result s) := by
  unfold activateOnline
  split <;> simp (maxDischargeDepth := 40) only [hs, watched_mk, watched_fold, watched_drawn, watched_raise, watched_setAction]

/-! ### Operations of `StoredData` -/

theorem watched_borrowUnit (u : Nat) {s : State} (hs : Watched W s) : Watched W (borrowUnit u s) := by
  unfold borrowUnit
  simp only [hs, watched_setStripe, watched_unitReset]

theorem watched_takeScratch {s : State} (hs : Watched W s) : Watched W (takeScratch s) := by
  unfold takeScratch
  repeat' split
  all_goals simp only [hs, watched_mk, watched_fold, watched_borrowUnit, watched_setUnitState]

theorem watched_writeRaw {s : State} (hs : Watched W s) : Watched W (writeRaw s) := by
  have stored (t : State) (d : StoredData) (ht : Watched W t) : Watched W { t with stored := d } := ht
  have h := watched_takeScratch hs
  unfold writeRaw
  simp only
  split
  · exact watched_raise _ (stored _ _ (watched_sectorProgrammed _ _ h))
  · exact watched_raise _ (stored _ _ h)

theorem watched_readRaw (result : CodeResult) (decoded : List Byte) {s : State} (hs : Watched W s) : Watched W (readRaw result decoded s) := by
  have h := watched_takeScratch hs
  unfold readRaw
  simp only
  split
  · exact watched_raise _ (watched_putBytes _ _ (watched_put _ _ (watched_putBytes _ _ (watched_putBytes _ _ h))))
  · exact watched_raise _ (watched_putBytes _ _ (watched_put _ _ (watched_putBytes _ _ (watched_putBytes _ _ (watched_drawn (watched_drawn h))))))

/-! ### Operations of `ThermalOps` -/

theorem watched_setBroken (n : Nat) (b : Bool) {s : State} (hs : Watched W s) : Watched W (setBroken n b s) :=
  hs.quiet (fr_setBroken rfl n b (keeps_refl _ s))

theorem watched_reAdmit (n : Nat) {s : State} (hs : Watched W s) : Watched W (reAdmit n s) := by
  unfold reAdmit
  simp only [hs, watched_mk, watched_fold, watched_raise, watched_setBroken]

/-! ### Operations of `DictOps` -/

theorem watched_enablePort (p : Port) (on : Bool) {s : State} (hs : Watched W s) : Watched W (enablePort p on s) := by
  unfold enablePort
  simp (maxDischargeDepth := 40) +contextual only [hs, watched_ite, ite_self, implies_true, watched_closeDrained, watched_dropLink,
    watched_dropReady, watched_modPort, watched_portException, watched_put, watched_raiseReady]

theorem watched_freePort (p : Port) {s : State} (hs : Watched W s) : Watched W (freePort p s) := by
  unfold freePort
  simp +contextual only [hs, implies_true, watched_modPort]

theorem watched_setTime (v source : Nat) {s : State} (hs : Watched W s) : Watched W (setTime v source s) := by
  unfold setTime
  simp only [hs, watched_mk, watched_fold, watched_journalPut, watched_put]

theorem watched_setProfile (v : Nat) {s : State} (hs : Watched W s) : Watched W (setProfile v s) := by
  unfold setProfile
  simp only [hs, watched_ite, ite_self, watched_put, watched_raise]

theorem watched_writeRegion (r sub v : Nat) {s : State} (hs : Watched W s) : Watched W (writeRegion r sub v s) := by
  unfold writeRegion
  simp only [hs, watched_ite, ite_self, watched_abandonPreparation, watched_bringOnline, watched_prepare, watched_put, watched_setRegionState]

theorem watched_writeSelect (key v : Nat) {s : State} (hs : Watched W s) : Watched W (writeSelect key v s) :=
  hs.quiet (fr_writeSelect rfl key v (keeps_refl _ s))

theorem watched_writeLevelKey (req : Req) (level : Nat) (v : List Byte) {s : State} (hs : Watched W s) : Watched W (writeLevelKey req level v s) :=
  hs.quiet (fr_writeLevelKey rfl req level v (keeps_refl _ s))

theorem watched_putNumber (req : Req) (key v stamp seen : Nat) {s : State} (hs : Watched W s) : Watched W (putNumber req key v stamp seen s) := by
  have p (t : State) (k w : Nat) (ht : Watched W t) : Watched W (t.put k w) := watched_put k w ht
  have m (t : State) (b : Bool) (ht : Watched W t) : Watched W { t with mgmt := { t.mgmt with beaconLost := b } } :=
    ht
  unfold putNumber
  refine watched_cond (watched_updateProtection (p _ _ _ hs)) (watched_cond (watched_enablePort _ _ hs) (watched_cond (watched_enablePort _ _ hs) ?_))
  refine watched_cond (watched_freePort _ (p _ _ _ hs)) (watched_cond (watched_freePort _ (p _ _ _ hs)) ?_)
  refine watched_cond (watched_freePort _ (watched_freePort _ (p _ _ _ hs))) (watched_cond (watched_setTime _ _ hs) (watched_cond (watched_setProfile
    _ hs) ?_))
  refine watched_cond (watched_noteHealth (p _ _ _ hs)) (watched_cond (watched_notePool (p _ _ _ hs)) (watched_cond (watched_checkPool (p _ _ _ hs))
    (watched_cond (watched_flushQueues _ hs) ?_)))
  refine watched_cond (p _ _ _ (m _ _ hs)) (watched_cond (watched_cond hs (p _ _ _ hs)) (watched_cond (watched_writeSelect _ _ hs) ?_))
  refine watched_cond (watched_cond hs (watched_clearLatch _ _ _ hs)) ?_
  split
  · exact watched_writeRegion _ _ _ hs
  · exact p _ _ _ hs

theorem watched_putValue (req : Req) (key stamp seen : Nat) (v : List Byte) {s : State} (hs : Watched W s) :
    Watched W (putValue req key stamp seen v s) := by
  unfold putValue
  split <;> simp only [hs, watched_mk, watched_fold, watched_ite, ite_self, watched_putBytes, watched_putNumber, watched_writeLevelKey]

theorem watched_clearRead (key : Nat) {s : State} (hs : Watched W s) : Watched W (clearRead key s) :=
  hs.quiet (fr_clearRead rfl key (keeps_refl _ s))

theorem watched_setDefaults (req : Req) {s : State} (hs : Watched W s) : Watched W (setDefaults req s) := by
  unfold setDefaults
  simp (maxDischargeDepth := 40) +contextual only [hs, implies_true, watched_noteChange, watched_putValue, watched_foldl]

theorem watched_startAction (key : Nat) (v : List Byte) (stamp : Nat) (env : DictEnv) (req : Req) {s : State} (hs : Watched W s) :
    Watched W (startAction key v stamp env req s) := by
  have ha := watched_setAction key stOk hs
  have hp (t : State) (x : Power) (ht : Watched W t) : Watched W { t with pow := x } := ht
  unfold startAction
  simp only
  generalize setAction key stOk s = a at ha ⊢
  refine watched_cond (watched_forceAbort _ _ _ ha) (watched_cond (watched_dieLeaves _ _ ha) (watched_cond (watched_takeOffline _ ha) ?_))
  refine watched_cond (watched_bringOnline _ ha) (watched_cond (watched_renewSlot _ ha) (watched_cond (watched_resume _ ha) (watched_cond
    (watched_sanitizeNow ha) ?_)))
  refine watched_cond (watched_saveErrors ha) (watched_cond (watched_writeRaw ha) (watched_cond ?_ ?_))
  · split
    · exact watched_readRaw _ _ ha
    · exact watched_readRaw _ _ (watched_drawn (watched_drawn (watched_drawn ha)))
  refine watched_cond (watched_retryRails ha) (watched_cond (watched_setAction _ _ (hp _ _ ha)) (watched_cond (watched_buttonCurtain ha) ?_))
  refine watched_cond (watched_offRequest ha) (watched_cond (watched_onRequest ha) (watched_cond (watched_deviceReset _ ha) ?_))
  refine watched_cond (watched_startDoze (watched_setAction _ _ ha)) (watched_cond (watched_enterService ha) (watched_cond (watched_leaveService ha)
    ?_))
  refine watched_cond (watched_activateOnline _ (watched_setAction _ _ (watched_drawn ha))) (watched_cond (watched_reAdmit _ ha) (watched_cond
    (watched_setDefaults _ ha) ?_))
  exact watched_cond (watched_endAllSessions ha) (watched_cond (watched_clearRecorder _ _ ha) (watched_cond (watched_releaseChannel _ ha) ha))

theorem watched_noteRequest (key kind : Nat) (req : Req) (old new : List Byte) {s : State} (hs : Watched W s) :
    Watched W (noteRequest key kind req old new s) := by
  unfold noteRequest
  simp only [hs, watched_noteChange]

theorem watched_serveAction (req : Req) (idx sub : Nat) (ask : DictAsk) (v : List Byte) (env : DictEnv) {s : State} (hs : Watched W s) :
    Watched W (serveAction req idx sub ask v env s) := by
  unfold serveAction
  simp (maxDischargeDepth := 40) only [hs, watched_deliver, watched_noteRequest, watched_startAction]

theorem watched_serveWrite (req : Req) (idx sub : Nat) (ask : DictAsk) (v : List Byte) (kind : Nat) {s : State} (hs : Watched W s) :
    Watched W (serveWrite req idx sub ask v kind s) := by
  unfold serveWrite
  simp (maxDischargeDepth := 40) only [hs, watched_deliver, watched_noteRequest, watched_putValue]

theorem watched_setBlock (req : Req) (b : Option BlockWrite) {s : State} (hs : Watched W s) : Watched W (setBlock req b s) :=
  hs.quiet (fr_setBlock rfl req b (keeps_refl _ s))

theorem watched_serveOk (req : Req) (idx sub : Nat) (ask : DictAsk) (env : DictEnv) {s : State} (hs : Watched W s) :
    Watched W (serveOk req idx sub ask env s) := by
  unfold serveOk
  simp only
  split
  · exact hs
  · rename_i d _
    cases ask with
    | read => exact watched_deliver _ _ (watched_clearRead _ hs)
    | blockRead offset n => exact watched_deliver _ _ (watched_cond (watched_clearRead _ hs) hs)
    | write v => exact watched_cond (watched_serveAction _ _ _ _ _ _ hs) (watched_serveWrite _ _ _ _ _ _ hs)
    | act v => exact watched_serveAction _ _ _ _ _ _ hs
    | blockWrite offset seg final =>
      simp only
      split
      · exact hs
      · have hb (b : Option BlockWrite) : Watched W (setBlock req b s) := watched_setBlock _ _ hs
        exact watched_cond (watched_serveAction _ _ _ _ _ _ (hb _)) (watched_cond (watched_serveWrite _ _ _ _ _ _ (hb _)) (watched_deliver _ _ (hb
          _)))

theorem watched_refuse (req : Req) (idx sub : Nat) (ask : DictAsk) (status : Nat) {s : State} (hs : Watched W s) :
    Watched W (refuse req idx sub ask status s) :=
  hs.quiet (fr_refuse rfl req idx sub ask status (keeps_refl _ s))

theorem watched_perform (req : Req) (idx sub : Nat) (ask : DictAsk) (env : DictEnv) {s : State} (hs : Watched W s) :
    Watched W (perform req idx sub ask env s) := by
  unfold perform
  split <;> simp only [hs, watched_mk, watched_fold, watched_ite, ite_self, watched_refuse, watched_serveOk, watched_wakeBy]

theorem watched_serveDeferred {s : State} (hs : Watched W s) : Watched W (serveDeferred s) := by
  unfold serveDeferred
  simp +contextual only [hs, watched_mk, watched_fold, watched_ite, ite_self, implies_true, watched_endWith, watched_perform, watched_foldl]

theorem watched_inSession (req : Req) (want : List Byte → BitVec 128)
    {refused : Nat → State → State} {go : State → State} (hr : ∀ n s, Watched W s → Watched W (refused n s))
    (hg : ∀ s, Watched W s → Watched W (go s)) {s : State} (hs : Watched W s) :
    Watched W (inSession req want refused go s) := by
  unfold inSession
  split
  · split
    · split
      · exact watched_putSession _ (watched_emit _ hs)
      · exact watched_putSession _ hs
    · split
      · exact hg _ (watched_putSession _ hs)
      · exact hr _ _ hs
  · exact hr _ _ hs

theorem watched_endUnkept (req : Req) (idx sub : Nat) (ask : DictAsk) (status : Nat) {s : State} (hs : Watched W s) :
    Watched W (endUnkept req idx sub ask status s) :=
  hs.quiet (fr_endUnkept rfl req idx sub ask status (keeps_refl _ s))

theorem watched_arrive (path : Path) {busy serve : State → State} (hb : ∀ s, Watched W s → Watched W (busy s))
    (hv : ∀ s, Watched W s → Watched W (serve s)) {s : State} (hs : Watched W s) :
    Watched W (arrive path busy serve s) := by
  unfold arrive
  cases path with
  | mailbox p => exact watched_cond (hv _ hs) hs
  | fieldLink mac =>
    have received (t : State) (m : Management) (ht : Watched W t) : Watched W { t with mgmt := m } := ht
    simp only
    split
    · exact hs
    · split
      · exact hv _ (watched_bump _ (received _ _ hs))
      · split
        · exact hv _ (watched_bump _ (received _ _ hs))
        · exact watched_cond (hb _ (received _ _ (watched_bump _ (received _ _ hs)))) (watched_bump _ (received _ _ hs))

theorem watched_request (req : Req) (idx sub : Nat) (ask : DictAsk) (env : DictEnv) {s : State} (hs : Watched W s) :
    Watched W (request req idx sub ask env s) := by
  refine watched_arrive _ (fun t => watched_endUnkept _ _ _ _ _) (fun t ht => ?_) hs
  split
  · exact watched_perform _ _ _ _ _ ht
  · exact watched_inSession req _ (fun n t => watched_endUnkept _ _ _ _ _) (fun t => watched_perform _ _ _ _ _) ht

/-! ### Operations of `Mailbox` -/

theorem watched_mailboxAnswer (p : Port) (code : Nat) (fields : List Nat) {s : State} (hs : Watched W s) :
    Watched W (mailboxAnswer p code fields s) :=
  hs.quiet (fr_mailboxAnswer rfl p code fields (keeps_refl _ s))

theorem watched_mailboxBusy (p : Port) {s : State} (hs : Watched W s) : Watched W (mailboxBusy p s) :=
  hs.quiet (fr_mailboxBusy rfl p (keeps_refl _ s))

theorem watched_sanitizeByHost (p : Port) {s : State} (hs : Watched W s) : Watched W (sanitizeByHost p s) := by
  unfold sanitizeByHost
  exact watched_cond (watched_mailboxAnswer _ _ _ hs) (watched_cond (watched_mailboxBusy _ hs)
    (watched_sendMsi _ _ (watched_setAction _ _ (watched_sanitizeNow (watched_mailboxAnswer _ _ _ hs)))))

/-! ### Operations of `RestoreOps` -/

theorem watched_loseValue (v : TwoCopyValue) {s : State} (hs : Watched W s) : Watched W (loseValue v s) := by
  have h : Watched W (raise 230 (s.bump 0x800107)) := watched_raise 230 (watched_bump 0x800107 hs)
  unfold loseValue
  simp only
  generalize raise 230 (s.bump 0x800107) = a at h ⊢
  cases v with
  | dictionaryValue key =>
    simp only
    split
    · exact h
    · split
      · split
        · exact watched_noteOwnChange _ _ _ h
        · exact h
      · exact h
  | superblock => exact h
  | stampCeiling => exact h
  | slotKey slot => exact watched_foldl (fun t r ht => watched_failCheck _ ht) _ h
  | anchor => exact watched_foldl (fun t i ht => watched_failCheck _ ht) _ h
  | haltRecord => exact watched_put _ _ (watched_put _ _ (watched_takeStamp h))
  | remapTable => exact h
  | errorTable => exact watched_saveErrors h
  | lifetimeCounters => exact watched_foldl (fun t k ht => watched_put _ _ ht) _ h
  | hourlyMark hour => exact h

theorem watched_noteBanks (shifts : List (Option Nat)) {s : State} (hs : Watched W s) : Watched W (noteBanks shifts s) :=
  hs.quiet (fr_noteBanks rfl shifts (keeps_refl _ s))

theorem watched_applyOffInterval (shifts : List (Option Nat)) {s : State} (hs : Watched W s) : Watched W (applyOffInterval shifts s) := by
  unfold applyOffInterval
  simp (maxDischargeDepth := 40) +contextual only [hs, watched_mk, watched_fold, watched_ite, ite_self, implies_true, watched_addTo,
    watched_noteBanks, watched_put, watched_raise, watched_foldl]

theorem watched_loadCounts {s : State} (hs : Watched W s) : Watched W (loadCounts s) :=
  hs.quiet (fr_loadCounts rfl (keeps_refl _ s))

theorem watched_settleTails {s : State} (hs : Watched W s) : Watched W (settleTails s) :=
  hs.quiet (fr_settleTails rfl (keeps_refl _ s))

theorem watched_loadRegisters {s : State} (hs : Watched W s) : Watched W (loadRegisters s) :=
  hs.quiet (fr_loadRegisters rfl (keeps_refl _ s))

theorem watched_readImage (f : RestoreFindings) {s : State} (hs : Watched W s) : Watched W (readImage f s) := by
  unfold readImage
  split <;> simp (maxDischargeDepth := 40) +contextual only [hs, watched_mk, watched_fold, watched_ite, ite_self, implies_true,
    watched_detectSomewhere, watched_nameLines, watched_raise, watched_foldl]

theorem watched_readPowerLog (f : RestoreFindings) {s : State} (hs : Watched W s) : Watched W (readPowerLog f s) :=
  hs.quiet (fr_readPowerLog rfl f (keeps_refl _ s))

theorem watched_dropTorn (f : RestoreFindings) {s : State} (hs : Watched W s) : Watched W (dropTorn f s) :=
  hs.quiet (fr_dropTorn rfl f (keeps_refl _ s))

theorem watched_restoreSix (shifts : List (Option Nat)) (f : RestoreFindings) {s : State} (hs : Watched W s) : Watched W (restoreSix shifts f s) := by
  unfold restoreSix
  simp (maxDischargeDepth := 40) +contextual only [hs, watched_mk, watched_fold, watched_ite, ite_self, implies_true, watched_applyOffInterval,
    watched_bump, watched_dropTorn, watched_loadCounts, watched_loadRegisters, watched_loseValue, watched_put, watched_raiseTimes, watched_readImage,
    watched_readPowerLog, watched_settleTails, watched_foldl]

theorem watched_judgeChain (f : RestoreFindings) {s : State} (hs : Watched W s) : Watched W (judgeChain f s) := by
  unfold judgeChain
  split <;> simp +contextual only [hs, watched_mk, watched_fold, watched_ite, ite_self, implies_true, watched_failCheck, watched_foldl]

theorem watched_judgeDigests (f : RestoreFindings) {s : State} (hs : Watched W s) : Watched W (judgeDigests f s) := by
  unfold judgeDigests
  simp +contextual only [hs, implies_true, watched_failCheck, watched_foldl]

theorem watched_judgeLines (before : List IntegrityEntry) {s : State} (hs : Watched W s) : Watched W (judgeLines before s) :=
  hs.quiet (fr_judgeLines rfl before (keeps_refl _ s))

theorem watched_replayIntegrity {s : State} (hs : Watched W s) : Watched W (replayIntegrity s) :=
  hs.quiet (fr_replayIntegrity rfl (keeps_refl _ s))

theorem watched_dropUnnamed {s : State} (hs : Watched W s) : Watched W (dropUnnamed s) :=
  hs.quiet (fr_dropUnnamed rfl (keeps_refl _ s))

theorem watched_restoreTable {s : State} (hs : Watched W s) : Watched W (restoreTable s) :=
  hs.quiet (fr_restoreTable rfl (keeps_refl _ s))

theorem watched_noteTornSave (f : RestoreFindings) {s : State} (hs : Watched W s) : Watched W (noteTornSave f s) :=
  hs.quiet (fr_noteTornSave rfl f (keeps_refl _ s))

theorem watched_restoreEight {s : State} (hs : Watched W s) : Watched W (restoreEight s) := by
  unfold restoreEight
  simp (maxDischargeDepth := 40) only [hs, watched_mk, watched_fold, watched_ite, ite_self, watched_dropUnnamed, watched_put, watched_raise,
    watched_replayIntegrity, watched_restoreTable, watched_restoreUnits]

theorem watched_resolveGroups (source before : Tbl Group) {s : State} (hs : Watched W s) : Watched W (resolveGroups source before s) := by
  unfold resolveGroups
  exact watched_raiseIf _ _ (watched_put _ _ hs)

theorem watched_reinstateQueues (i : Image) {s : State} (hs : Watched W s) : Watched W (reinstateQueues i s) := by
  unfold reinstateQueues
  simp (maxDischargeDepth := 40) +contextual only [hs, implies_true, watched_drainPort, watched_modPort]

theorem watched_waitCommits {s : State} (hs : Watched W s) : Watched W (waitCommits s) :=
  hs.quiet (fr_waitCommits rfl (keeps_refl _ s))

theorem watched_reinstate (i : Image) {s : State} (hs : Watched W s) : Watched W (reinstate i s) := by
  unfold reinstate
  simp (maxDischargeDepth := 40) +contextual only [hs, watched_mk, watched_fold, implies_true, watched_dirtySegment, watched_put,
    watched_reinstateQueues, watched_resolveGroups, watched_waitCommits, watched_foldl]

theorem watched_restoreUnsaved {s : State} (hs : Watched W s) : Watched W (restoreUnsaved s) := by
  unfold restoreUnsaved
  simp only [hs, watched_mk, watched_fold, watched_resolveGroups]

theorem watched_reportDirty {s : State} (hs : Watched W s) : Watched W (reportDirty s) := by
  unfold reportDirty
  simp only [hs, watched_ite, ite_self, watched_bump, watched_postRecord, watched_raise]

theorem watched_takeImage {s : State} (hs : Watched W s) : Watched W (takeImage s) := by
  unfold takeImage
  split <;> simp only [hs, watched_reinstate, watched_restoreUnsaved]

theorem watched_reportShutdown {s : State} (hs : Watched W s) : Watched W (reportShutdown s) := by
  unfold reportShutdown
  simp only [hs, watched_mk, watched_fold, watched_ite, ite_self, watched_raise, watched_reportDirty]

theorem watched_fixPersistPoint {s : State} (hs : Watched W s) : Watched W (fixPersistPoint s) := by
  unfold fixPersistPoint
  simp only [hs, watched_mk, watched_fold, watched_ite, ite_self, watched_put, watched_updateProtection]

theorem watched_endNine {s : State} (hs : Watched W s) : Watched W (endNine s) := by
  unfold endNine
  simp only [hs, watched_mk, watched_fold, watched_ite, ite_self, watched_fixPersistPoint, watched_programAll, watched_startCurtain]

theorem watched_restoreNine {s : State} (hs : Watched W s) : Watched W (restoreNine s) := by
  unfold restoreNine
  simp (maxDischargeDepth := 40) only [hs, watched_mk, watched_fold, watched_ite, ite_self, watched_endNine, watched_reportShutdown,
    watched_takeImage]

theorem watched_restoreTen {s : State} (hs : Watched W s) : Watched W (restoreTen s) := by
  unfold restoreTen
  simp (maxDischargeDepth := 40) +contextual only [hs, implies_true, watched_pinRegion, watched_put, watched_rebuildSegment, watched_foldl]

theorem watched_restoreEleven {s : State} (hs : Watched W s) : Watched W (restoreEleven s) := by
  have h := watched_put 0x404101 5 hs
  unfold restoreEleven
  simp only
  split
  · exact h
  · exact watched_releasePins (watched_raiseReady _ (watched_raiseReady _ (watched_put _ _ h)))

theorem watched_endRestore {s : State} (hs : Watched W s) : Watched W (endRestore s) := by
  have h (n : Nat) : Watched W (releaseScratch ((s.put 0x404101 0).put 0x404103 n)) := watched_releaseScratch (watched_put _ _ (watched_put _ _ hs))
  unfold endRestore
  simp only
  split
  · exact watched_setMode _ (h _)
  · exact watched_cond (watched_releasePins (watched_haltNow _ (h _))) (watched_setMode _ (watched_releasePins (watched_put _ _ (watched_silence (h
    _)))))

theorem watched_restoreStepNow (n : Nat) (shifts : List (Option Nat)) (f : RestoreFindings) {s : State} (hs : Watched W s) :
    Watched W (restoreStepNow n shifts f s) := by
  unfold restoreStepNow
  simp (maxDischargeDepth := 40) only [hs, watched_mk, watched_fold, watched_ite, ite_self, watched_dropTorn, watched_endRestore, watched_judgeChain,
    watched_judgeDigests, watched_judgeLines, watched_noteTornSave, watched_put, watched_rebuildAll, watched_restoreEight, watched_restoreEleven,
    watched_restoreNine, watched_restoreSix, watched_restoreTen]

theorem watched_restoreSteps (k upTo : Nat) (shifts : List (Option Nat)) (f : RestoreFindings) {s : State} (hs : Watched W s) :
    Watched W (restoreSteps k upTo shifts f s) := by
  induction k generalizing s with
  | zero => exact hs
  | succ k ih =>
    unfold restoreSteps
    simp only
    split
    · exact ih (watched_restoreStepNow _ _ _ hs)
    · exact hs

/-! ### Requests and the steps of RESTORE -/

theorem watched_exec_of_request {c : Instr} (h : shape c = .request) {s : State} (hs : Watched W s) : NextIs (Watched W) (exec c s) := by
  rcases exec_of_request h with ⟨req, idx, sub, ask, env, hc⟩ | rfl | ⟨via, rfl⟩
  · rw [hc]
    exact watched_request _ _ _ _ _ hs
  · show NextIs (Watched W) (execWakeDelay s)
    unfold execWakeDelay
    split
    · exact watched_serveDeferred (watched_wakeUp hs)
    · exact hs
  · cases via with
    | inl p =>
      show NextIs (Watched W) (mailboxCommand p (sanitizeByHost p) s)
      unfold mailboxCommand
      split
      · exact watched_sanitizeByHost _ (watched_cond (watched_wakeBy _ hs) hs)
      · exact hs
    | inr req => exact watched_request _ _ _ _ _ hs

theorem watched_exec_of_restoring {c : Instr} (h : shape c = .restoring) {s : State} (hs : Watched W s) : NextIs (Watched W) (exec c s) := by
  rcases exec_of_restoring h with ⟨upTo, shifts, found, rfl⟩ | rfl
  · exact watched_restoreSteps _ _ _ _ hs
  · show NextIs (Watched W) (execBackgroundRebuildDone s)
    unfold execBackgroundRebuildDone
    split
    · exact watched_restoreSteps _ _ _ _ hs
    · exact hs

/-! ### Inputs and rails -/

theorem watched_noteVin (mv : Nat) {s : State} (hs : Watched W s) : Watched W (noteVin mv s) := watched_put _ _ (watched_put _ _ hs)

theorem watched_writeRecord (kind code phase vin : Nat) {s : State} (hs : Watched W s) : Watched W (writeRecord kind code phase vin s) :=
  hs.quiet (fr_writeRecord rfl _ _ _ _ (keeps_refl _ s))

theorem watched_railsOff (codes : List Nat) {s : State} (hs : Watched W s) : Watched W (railsOff codes s) :=
  hs.quiet (fr_railsOff rfl codes (keeps_refl _ s))

theorem watched_noteRailFault (code : Nat) {s : State} (hs : Watched W s) : Watched W (noteRailFault code s) := by
  unfold noteRailFault
  simp (maxDischargeDepth := 40) only [hs, watched_mk, watched_fold, watched_ite, ite_self, watched_bump, watched_raise, watched_writeRecord]

theorem watched_goOff {s : State} (hs : Watched W s) : Watched W (goOff s) := watched_setMode _ (watched_railsOff _ (watched_railsOff _ hs))

theorem watched_loseInput (kind mv : Nat) {s : State} (hs : Watched W s) : Watched W (loseInput kind mv s) := by
  unfold loseInput
  have h : Watched W (endAllSessions (noteVin mv { s with pow := { s.pow with vinValid := false, vinLostAt := s.clock } })) :=
    watched_endAllSessions (watched_noteVin mv (hs.quiet (upd_pow rfl (keeps_refl _ s) _)))
  simp only [h, watched_ite, ite_self, watched_enterFall, watched_goOff, watched_triggerCurtain, watched_writeRecord]

theorem watched_lockOut {s : State} (hs : Watched W s) : Watched W (lockOut s) := by
  unfold lockOut
  simp (maxDischargeDepth := 40) only [hs, watched_mk, watched_fold, watched_ite, ite_self, watched_bump, watched_enterFall, watched_raise,
    watched_triggerCurtain]

theorem watched_criticalError {s : State} (hs : Watched W s) : Watched W (criticalError s) := by
  unfold criticalError
  exact watched_cond (watched_deviceReset _ (watched_raise _ (watched_bump _ hs))) hs

/-! ### Ports -/

theorem watched_contain (p : Port) {s : State} (hs : Watched W s) : Watched W (contain p s) :=
  watched_forgetRequests p (watched_put _ _ (watched_modPort p _ (by intro _ h; exact h) (watched_raise _ (watched_portException p 2 hs))))

theorem watched_resetPort (p : Port) {s : State} (hs : Watched W s) : Watched W (resetPort p s) :=
  watched_put _ _ (watched_modPort p _ (by intro _ h; exact h) hs)

/-! ### The curtain -/

theorem watched_poisonReads {s : State} (hs : Watched W s) : Watched W (poisonReads s) := by
  unfold poisonReads
  refine Watched.quiet (watched_foldl (fun t r ht => ?_) s.reads hs) (upd_reads_retries rfl rfl (keeps_refl _ _) _ _)
  split
  · exact watched_cond ht (watched_sendData _ _ _ _ ht)
  · exact ht

theorem watched_commitCurtain {s : State} (hs : Watched W s) : Watched W (commitCurtain s) := by
  unfold commitCurtain
  split
  · exact hs
  · have h := watched_silence (watched_poisonReads (watched_finishAccepted hs))
    exact watched_railsOff _ (watched_dropLink _ (watched_dropLink _ (watched_dropReady _ (watched_dropReady _ (h.quiet (upd_pow rfl (keeps_refl _ _)
      _))))))

/-! ### Failed checks -/

theorem watched_failIntegrity (obj : IntegrityObject) {s : State} (hs : Watched W s) : Watched W (failIntegrity obj s) :=
  watched_foldl (fun _ o ht => watched_failCheck o ht) _ hs

theorem watched_failRead (r : Read) {s : State} (hs : Watched W s) : Watched W (failRead r s) := by
  unfold failRead
  split
  · exact watched_failIntegrity _ hs
  · exact watched_failCheck _ hs

theorem watched_failSome {α : Type} {fail : α → State → State} (hf : ∀ a t, Watched W t → Watched W (fail a t)) (l : List α)
    {s : State} (hs : Watched W s) :
    Watched W (failSome fail l s) :=
  watched_foldl (fun _ _ ht => watched_cond (watched_drawn ht) (hf _ _ (watched_drawn ht))) _ hs

theorem watched_recoverSector (unit page sector : Nat) (recovered : Bool) {s : State} (hs : Watched W s) :
    Watched W (recoverSector unit page sector recovered s) := by
  unfold recoverSector
  have h := watched_detectError .medium (sectorAddress unit page sector) true hs
  exact watched_cond (watched_raise _ (watched_bump _ h))
    (watched_failSome (fun o _ ht => watched_failCheck o ht) _ (watched_failSome (fun _ _ ht => watched_failCheck _ ht) _ h))

theorem watched_cacheError (obj : IntegrityObject) (fault : CacheFault) {s : State} (hs : Watched W s) : Watched W (cacheError obj fault s) := by
  unfold cacheError
  split <;> simp (maxDischargeDepth := 40) only [hs, watched_mk, watched_fold, watched_bump, watched_detectSomewhere, watched_failIntegrity,
    watched_raise]

theorem watched_poisonQueued (p : Port) (tag : Nat) {s : State} (hs : Watched W s) : Watched W (poisonQueued p tag s) :=
  watched_modPort p _ (by intro _ h; exact h) (watched_nameLines _ _ hs)

theorem watched_rebuildDram {s : State} (hs : Watched W s) : Watched W (rebuildDram s) := watched_raise _ (watched_detectSomewhere _ _ hs)

theorem watched_dropCached (line : Nat) {s : State} (hs : Watched W s) : Watched W (dropCached line s) :=
  hs.quiet (fr_dropCached rfl line (keeps_refl _ s))

theorem watched_structureError (what : Structure) {s : State} (hs : Watched W s) : Watched W (structureError what s) := by
  cases what <;> simp (maxDischargeDepth := 40) only [structureError, hs, watched_mk, watched_fold, watched_ite, ite_self, watched_cacheError,
    watched_criticalError, watched_detectError, watched_detectSomewhere, watched_dropCached, watched_nameLines, watched_poisonQueued, watched_raise,
    watched_rebuildDram, watched_setGroup]

/-! ### Media retry -/

theorem watched_senseBelow (x : RetrySenses) (r : Read) {s : State} (hs : Watched W s) : Watched W (senseBelow x r s) :=
  watched_cond hs (watched_sectorMoved _ hs)

theorem watched_noteRung (x : RetrySenses) {s : State} (hs : Watched W s) : Watched W (noteRung x s) :=
  hs.quiet (fr_noteRung rfl x (keeps_refl _ s))

theorem watched_cacheTag (r : Read) {s : State} (hs : Watched W s) : Watched W (cacheTag r s) := hs.quiet (fr_cacheTag rfl r (keeps_refl _ s))

theorem watched_reportDeadline (l : List Read) (outcome : Nat) {s : State} (hs : Watched W s) : Watched W (reportDeadline l outcome s) := by
  unfold reportDeadline
  simp only
  split
  · exact hs
  · exact watched_raise _ (hs.quiet (upd_obs rfl (keeps_refl _ s) _))

theorem watched_respond (r : Read) {s : State} (hs : Watched W s) : Watched W (respond r s) := by
  have hmerge (p : Nat) (l : State) (hl : Watched W l) : Watched W (refillPrompt p l) := hl.quiet (fr_refillPrompt rfl p (keeps_refl _ l))
  unfold respond
  repeat' split
  all_goals simp only [hs, hmerge, watched_answerRead, watched_dropRead, watched_modRead]

theorem watched_prefetch (r : Read) {s : State} (hs : Watched W s) : Watched W (prefetch r s) := by
  unfold prefetch
  refine watched_cond ?_ hs
  split
  · exact hs
  · exact watched_dropPrefetches _ (watched_bump _ (watched_addRead _ hs))

theorem watched_noteRecovered (l : FetchedLine) {s : State} (hs : Watched W s) : Watched W (noteRecovered l s) :=
  watched_cond (watched_raise _ (watched_bump _ hs)) hs

/-! ### Patrol -/

theorem watched_scheduleRefresh (u : Nat) {s : State} (hs : Watched W s) : Watched W (scheduleRefresh u s) := by
  unfold scheduleRefresh
  exact watched_cond hs (watched_raise _ (watched_bump _ (watched_setStripe _ _ hs)))

theorem watched_footersRead (u n : Nat) {s : State} (hs : Watched W s) : Watched W (footersRead u n s) := watched_count _ _ _ (watched_addTo _ _ hs)

theorem watched_judgeSample (u : Nat) (inPass : Bool) (rep : PatrolReport) {s : State} (hs : Watched W s) :
    Watched W (judgeSample u inPass rep s) := by
  have hbad (t : State) (ht : Watched W t) : Watched W (noteBadVisit u rep t) := ht.quiet (fr_noteBadVisit rfl u rep (keeps_refl _ t))
  unfold judgeSample
  simp (maxDischargeDepth := 40) only [hs, hbad, watched_ite, ite_self, watched_agentReads, watched_bump, watched_scheduleRefresh, watched_setUnit]

theorem watched_sampleUnit (u : Nat) (rep : PatrolReport) {s : State} (hs : Watched W s) : Watched W (sampleUnit u rep s) := by
  unfold sampleUnit
  simp (maxDischargeDepth := 40) only [hs, watched_mk, watched_fold, watched_ite, ite_self, watched_agentReads, watched_bump, watched_footersRead,
    watched_judgeEpisode, watched_judgeSample, watched_put, watched_scheduleRefresh, watched_setUnit]

theorem watched_visit (u : Nat) (rep : PatrolReport) {s : State} (hs : Watched W s) : Watched W (visit u rep s) := by
  unfold visit
  have h := watched_sampleUnit u rep hs
  exact watched_cond (watched_recoverSector _ _ _ _ (watched_drawn h)) h

/-! ### Temperatures -/

theorem watched_declareBroken (n : Nat) {s : State} (hs : Watched W s) : Watched W (declareBroken n s) := by
  unfold declareBroken
  simp (maxDischargeDepth := 40) only [hs, watched_mk, watched_fold, watched_ite, ite_self, watched_raise, watched_setBroken, watched_wakeBy]

theorem watched_crossCheck {s : State} (hs : Watched W s) : Watched W (crossCheck s) := by
  unfold crossCheck
  refine watched_raiseIf _ _ (watched_foldl (fun _ n ht => watched_declareBroken n ht) _ (watched_foldl (fun t n ht => ?_) _ hs))
  exact ht.quiet (upd_therm rfl (keeps_refl _ t) _)

theorem watched_packageRound (c : Nat) {s : State} (hs : Watched W s) : Watched W (packageRound c s) := by
  have hint (bits k : Nat) (v : Int) (t : State) (ht : Watched W t) : Watched W (t.putInt bits k v) := watched_put _ _ ht
  have hhot (n : Nat) (t : State) (ht : Watched W t) : Watched W (noteHottest c n t) := ht.quiet (fr_noteHottest rfl c n (keeps_refl _ t))
  unfold packageRound
  split
  · exact hs
  · simp (maxDischargeDepth := 40) only [hs, hint, hhot, watched_mk, watched_fold, watched_ite, ite_self, watched_addTo, watched_put, watched_raise,
    watched_wakeBy]

theorem watched_temperatures {s : State} (hs : Watched W s) : Watched W (temperatures s) := by
  have hint (bits k : Nat) (v : Int) (t : State) (ht : Watched W t) : Watched W (t.putInt bits k v) := watched_put _ _ ht
  unfold temperatures
  extract_lets rounds hottest
  have hrounds : Watched W rounds := watched_foldl (fun _ c ht => watched_packageRound c ht) _ hs
  have hhottest : Watched W hottest := by unfold hottest; split <;> simp only [hrounds, hint]
  clear_value hottest
  split <;> simp only [hhottest, hint, watched_ite, ite_self]

theorem watched_requestThrottle {s : State} (hs : Watched W s) : Watched W (requestThrottle s) := by
  unfold requestThrottle
  simp (maxDischargeDepth := 40) only [hs, watched_mk, watched_fold, watched_bump, watched_put, watched_raise, watched_wakeBy]

theorem watched_pauseDie (d : Nat) {s : State} (hs : Watched W s) : Watched W (pauseDie d s) :=
  watched_foldl (fun _ _ ht => watched_reconstructWaiting _ _ ht) _ (watched_raise _ (watched_put _ _ hs))

theorem watched_clearBits (k : Nat) (due : State → Nat → Bool) (l : List Nat) {s : State} (hs : Watched W s) :
    Watched W (l.foldl (fun t d => if due t d then t.clearBit k d else t) s) :=
  watched_foldl (fun _ _ ht => watched_cond (watched_put _ _ ht) ht) l hs

theorem watched_pauseRow (row : Nat) {s : State} (hs : Watched W s) : Watched W (pauseRow row s) := by
  have hcooled := watched_clearBits 0x900104 (fun t d => t.diePaused d && (match t.temperature (64 + d) with
    | some x => decide (x < 90000)
    | none => false)) ((List.range 16).map fun c => 4 * c + row) hs
  unfold pauseRow
  refine watched_cond hcooled ?_
  simp only
  split
  · exact watched_pauseDie _ hcooled
  · exact hcooled

theorem watched_throttling {s : State} (hs : Watched W s) : Watched W (throttling s) := by
  unfold throttling
  split
  · exact watched_cond (watched_requestThrottle hs) hs
  · have h (o : Option Nat) : Watched W { s with therm := { s.therm with coolSince := o } } := hs.quiet (upd_therm rfl (keeps_refl _ s) _)
    exact watched_cond (watched_foldl (fun _ row ht => watched_pauseRow row ht) _ (h _)) (h _)

theorem watched_coldPlate (n : Nat) {s : State} (hs : Watched W s) : Watched W (coldPlate n s) := by
  unfold coldPlate
  split <;> simp (maxDischargeDepth := 40) only [hs, watched_mk, watched_fold, watched_ite, ite_self, watched_raiseIf]

theorem watched_supervise {s : State} (hs : Watched W s) : Watched W (supervise s) := by
  unfold supervise
  extract_lets rails vin charge
  have hrails : Watched W rails := watched_foldl (fun t i ht => by split <;> exact watched_put _ _ ht) _ hs
  have hvin : Watched W vin := by unfold vin; split <;> simp only [hrails, watched_noteVin]
  have hcharge : Watched W charge := by unfold charge; split <;> simp only [hvin, watched_put]
  clear_value charge
  split <;> simp (maxDischargeDepth := 40) only [hcharge, watched_mk, watched_fold, watched_ite, ite_self, watched_put, watched_updateProtection,
    watched_wakeBy]

theorem watched_slowRound (channels : List (Option Int)) {s : State} (hs : Watched W s) : Watched W (slowRound channels s) := by
  unfold slowRound
  have hconvert : Watched W (convertChannels channels s) := hs.quiet (fr_convertChannels rfl channels (keeps_refl _ s))
  have h := watched_temperatures (watched_crossCheck hconvert)
  exact watched_supervise (watched_coldPlate _ (watched_coldPlate _ (watched_cond (watched_throttling h) h)))

/-! ### Events that may end service -/

theorem watched_execCurtainCommitPoint {s : State} (hs : Watched W s) : NextIs (Watched W) (execCurtainCommitPoint s) := by
  unfold execCurtainCommitPoint
  split
  · exact hs
  · exact watched_next (watched_commitCurtain hs) hs

theorem watched_installLine (r : Read) {s : State} (hs : Watched W s) : Watched W (installLine r s) := by
  unfold installLine
  exact watched_cond hs (hs.quiet (fr_installFill rfl _ _ (keeps_refl _ s)))

theorem watched_relocate (r : Read) {s : State} (hs : Watched W s) : Watched W (relocate r s).1 := by
  have hevict (l : List Staged) : Watched W (evict { s with staging := l }) :=
    hs.quiet (fr_evict rfl (upd_staging rfl (keeps_refl _ s) l))
  unfold relocate
  extract_lets grp current
  rw [apply_ite Prod.fst]
  exact watched_cond (hevict _) hs

theorem watched_execMediaRetryEnd (rid : Nat) (senses : RetrySenses) {s : State} (hs : Watched W s) :
    NextIs (Watched W) (execMediaRetryEnd rid senses s) := by
  have hsense (x : RetrySenses) (r : Read) (l : List Retry) : Watched W (senseBelow x r { s with retries := l }) :=
    watched_senseBelow x r (hs.quiet (upd_retries rfl (keeps_refl _ s) l))
  unfold execMediaRetryEnd
  split
  · exact hs
  · next r _ =>
    rw [nextIs_ite]
    split
    · exact hs
    · simp only [nextIs_ite]
      split
      · exact watched_prefetch _ (watched_foldl (fun _ x ht => watched_respond x ht) _ (watched_reportDeadline _ _ (watched_relocate r
        (watched_installLine r
          (watched_cacheTag r (watched_noteRung _ (watched_raise 57 (watched_bump 0x700307 (hsense _ r _)))))))))
      · exact watched_failRead _ (watched_reportDeadline _ _ (hsense _ r _))

theorem watched_execPortException (p : Port) (cause : Nat) {s : State} (hs : Watched W s) : NextIs (Watched W) (execPortException p cause s) := by
  unfold execPortException
  rw [nextIs_ite]
  split
  · exact watched_next (watched_contain p hs) (watched_portException p cause hs)
  · exact hs

theorem watched_execPerst (p : Port) (asserted : Bool) {s : State} (hs : Watched W s) : NextIs (Watched W) (execPerst p asserted s) := by
  have h : Watched W (s.modPort p fun q => { q with perst := asserted }) := watched_modPort p _ (by intro _ h; exact h) hs
  exact watched_next (watched_raise _ (watched_resetPort p (watched_dropLink p (watched_portException p 3 h)))) h

theorem watched_execIntegrityLineFetch (obj : IntegrityObject) (lines : List FetchedLine) {s : State} (hs : Watched W s) :
    NextIs (Watched W) (execIntegrityLineFetch obj lines s) := by
  unfold execIntegrityLineFetch
  rw [nextIs_ite]
  split
  · exact hs
  · have h : Watched W ((s.walk obj).foldl (fun t o => (integritySector o t).bump 0x70030A) s) :=
      watched_foldl (fun _ o ht => watched_bump _ (watched_integritySector o ht)) _ hs
    simp only
    split
    · exact watched_foldl (fun _ o ht => watched_cacheLine o ht) _ (watched_foldl (fun _ x ht => watched_noteRecovered x.2 ht) _ h)
    · exact watched_failIntegrity _ h

theorem watched_execOvervoltage (mv : Nat) {s : State} (hs : Watched W s) : NextIs (Watched W) (execOvervoltage mv s) := by
  unfold execOvervoltage
  simp (maxDischargeDepth := 40) only [nextIs_ite, nextIs_next, hs, watched_mk, watched_fold, ite_self, watched_bump, watched_loseInput,
    watched_noteVin]

theorem watched_execRailFault (code : Nat) (restarts : Bool) {s : State} (hs : Watched W s) : NextIs (Watched W) (execRailFault code restarts s) := by
  unfold execRailFault
  simp (maxDischargeDepth := 40) only [nextIs_ite, nextIs_next, hs, ite_self, watched_bump, watched_deviceReset, watched_endAllSessions,
    watched_enterFall, watched_noteRailFault, watched_put]

theorem watched_execLossOfProtection {s : State} (hs : Watched W s) : NextIs (Watched W) (execLossOfProtection s) := by
  unfold execLossOfProtection
  simp only [nextIs_ite, nextIs_next, hs, ite_self, watched_finishLeaving, watched_loseProtection, watched_wakeBy]

theorem watched_execYoYoTest (cmf esr v0 : Nat) {s : State} (hs : Watched W s) : NextIs (Watched W) (execYoYoTest cmf esr v0 s) := by
  unfold execYoYoTest
  simp (maxDischargeDepth := 40) only [nextIs_ite, nextIs_next, hs, watched_mk, watched_fold, watched_ite, ite_self, watched_endAction, watched_put,
    watched_raise, watched_raiseIf, watched_updateProtection, watched_wakeBy]

theorem watched_execCartridgeRemoved {s : State} (hs : Watched W s) : NextIs (Watched W) (execCartridgeRemoved s) := by
  unfold execCartridgeRemoved
  simp (maxDischargeDepth := 40) only [nextIs_ite, nextIs_next, hs, watched_mk, watched_fold, watched_ite, ite_self, watched_endAction, watched_put,
    watched_raise, watched_updateProtection, watched_wakeBy]

theorem watched_execCartridgeInserted (ident : List Byte) {s : State} (hs : Watched W s) : NextIs (Watched W) (execCartridgeInserted ident s) := by
  unfold execCartridgeInserted
  simp (maxDischargeDepth := 40) only [nextIs_ite, nextIs_next, hs, watched_mk, watched_fold, ite_self, watched_bump, watched_put, watched_putBytes,
    watched_raise, watched_updateProtection, watched_wakeBy]

theorem watched_execMrN (width : Nat) {s : State} (hs : Watched W s) : NextIs (Watched W) (execMrN width s) := by
  unfold execMrN
  simp (maxDischargeDepth := 40) only [nextIs_ite, nextIs_next, hs, watched_mk, watched_fold, watched_ite, ite_self, watched_deviceReset,
    watched_drawn, watched_raise]

theorem watched_execManagementWatchdog {s : State} (hs : Watched W s) : NextIs (Watched W) (execManagementWatchdog s) := by
  unfold execManagementWatchdog
  simp only [nextIs_ite, nextIs_next, hs, watched_mk, watched_fold, ite_self, watched_deviceReset]

theorem watched_execDieTemperatureRead (die : Fin 64) (celsius : Int) {s : State} (hs : Watched W s) :
    NextIs (Watched W) (execDieTemperatureRead die celsius s) := by
  unfold execDieTemperatureRead
  simp (maxDischargeDepth := 40) only [nextIs_ite, nextIs_next, hs, watched_mk, watched_fold, ite_self, watched_lockOut]

theorem watched_execCompletionStall {s : State} (hs : Watched W s) : NextIs (Watched W) (execCompletionStall s) := by
  unfold execCompletionStall
  simp (maxDischargeDepth := 40) only [nextIs_ite, nextIs_next, hs, watched_mk, watched_fold, ite_self, watched_criticalError, watched_raise]

theorem watched_prunePass {s : State} (hs : Watched W s) : Watched W (prunePass s) := hs.quiet (fr_prunePass rfl (keeps_refl _ s))

theorem watched_exec_of_modeEvent {c : Instr} (h : ModeEvent c) {s : State} (hs : Watched W s) : NextIs (Watched W) (exec c s) := by
  cases h with
  | failedCheck obj => exact watched_next (watched_failCheck obj hs) hs
  | mediaRetryEnd rid senses => exact watched_execMediaRetryEnd rid senses hs
  | portException p cause => exact watched_execPortException p cause hs
  | perst p asserted => exact watched_execPerst p asserted hs
  | surpriseLinkLoss p => exact watched_next (watched_dropLink p (watched_portException p 1 hs)) hs
  | viralReceived p => exact watched_next (watched_contain p (watched_raise _ hs)) hs
  | integrityLineFetch obj lines => exact watched_execIntegrityLineFetch obj lines hs
  | counterCacheError obj fault => exact watched_next (watched_cacheError obj fault hs) hs
  | sourceSectorFailure unit page sector recovered => exact watched_next (watched_recoverSector unit page sector recovered hs) hs
  | uncorrectableError what => exact watched_next (watched_structureError what hs) hs
  | criticalStateError => exact watched_criticalError hs
  | inputLoss mv => exact watched_next (watched_loseInput 1 mv hs) hs
  | overvoltage mv => exact watched_execOvervoltage mv hs
  | railFault code restarts => exact watched_execRailFault code restarts hs
  | lossOfProtection => exact watched_execLossOfProtection hs
  | yoYoTest cmf esr v0 => exact watched_execYoYoTest cmf esr v0 hs
  | cartridgeRemoved => exact watched_execCartridgeRemoved hs
  | cartridgeInserted ident => exact watched_execCartridgeInserted ident hs
  | curtain cause => exact watched_next (watched_triggerCurtain cause hs) hs
  | serviceRequestWindowEnd => exact watched_next (watched_buttonCurtain hs) hs
  | forcedPowerDown => exact watched_next hs (watched_buttonCurtain (watched_raise 38 hs))
  | mrN width => exact watched_execMrN width hs
  | managementWatchdog => exact watched_execManagementWatchdog hs
  | slowRound channels => exact watched_next hs (watched_slowRound channels hs)
  | dieTemperatureRead die celsius => exact watched_execDieTemperatureRead die celsius hs
  | lockout => exact watched_lockOut hs
  | completionStall => exact watched_execCompletionStall hs
  | patrolVisit unit report => exact watched_next (watched_visit unit.val report (watched_prunePass hs)) (watched_prunePass hs)
  | outOfTurnVisit unit report => exact watched_next (watched_visit unit.val report hs) hs

/-! ### Window accesses -/

theorem watched_countWindow (p : Port) (code : Nat) {s : State} (hs : Watched W s) : Watched W (countWindow p code s) := by
  have hcounts : Watched W (count1 0x08 p.code (count1 code p.code s)) := watched_count1 _ _ (watched_count1 _ _ hs)
  unfold countWindow countEligible
  exact watched_cond (watched_drawn (watched_bump _ hcounts)) hcounts

/-- A new access stores to none but the cells followed, so that it may wait. -/
theorem watched_accessWindow (p : Port) (tag dpa code : Nat) (ask : PortAsk) (hask : ∀ c, ask.storedCell dpa = some c → W.stores c) {s : State}
    (hs : Watched W s) : Watched W (accessWindow p tag dpa code ask s) := by
  refine watched_triggerDrain p (hs := (watched_modPort p _ (fun q hq w hw => ?_) (watched_countWindow p code hs)).quiet
    (fr_takeSeq rfl (keeps_refl _ _)))
  rcases List.mem_append.mp hw with hw | hw
  · exact hq w hw
  · rw [List.mem_singleton.mp hw]
    exact hask

theorem watched_windowRead (p : Port) (tag dpa : Nat) {s : State} (hs : Watched W s) : Watched W (windowRead p tag dpa s) :=
  watched_cond (watched_accessWindow p tag dpa 0x02 .read (fun _ h => nomatch h) hs) hs

theorem watched_windowWrite (p : Port) (tag dpa : Nat) (be : ByteEnables) (d : Line) (poison : Bool)
    (hdpa : ∀ c, cellAt dpa = some c → W.stores c) {s : State} (hs : Watched W s) : Watched W (windowWrite p tag dpa be d poison s) := by
  have hcounted : Watched W (countWrite p s) := watched_count _ _ _ (watched_modPort p _ (by intro _ h; exact h) hs)
  have hcredit : Watched W (useCredit p (countWrite p s)) := watched_grantCredits p (watched_modPort p _ (by intro _ h; exact h) hcounted)
  exact watched_cond (watched_accessWindow p tag dpa _ (.write be d poison) hdpa hcredit) hs

/-- A write to a place that is no cell. -/
theorem watched_windowWrite_elsewhere (p : Port) (tag : Nat) {dpa : Nat} (be : ByteEnables) (d : Line) (hdpa : cellAt dpa = none) {s : State}
    (hs : Watched W s) : Watched W (windowWrite p tag dpa be d false s) :=
  watched_windowWrite p tag dpa be d false (fun c h => by rw [hdpa] at h; cases h) hs

theorem cellAt_cellDpa {aliasNo c : Nat} (ha : aliasNo = 0 ∨ aliasNo = 2) (hc : c < 16384) : cellAt (cellDpa aliasNo c) = some c := by
  rw [cellAt_eq, windowTarget_cellDpa (by omega) hc]
  exact if_pos ha

theorem cellAt_groupDpa {g : Nat} (hg : g < 262144) : cellAt (groupDpa g) = none := by
  rw [cellAt_eq, windowTarget_groupDpa hg]
  rfl

theorem cellAt_portPageDpa (p : Port) {offset : Nat} (ho : offset < 0x10000) : cellAt (portPageDpa p offset) = none := by
  rw [cellAt_eq, windowTarget_portPageDpa p ho]
  rfl

theorem windowTarget_dmaDpa {ch offset : Nat} (hch : ch < 16) (ho : offset < 0x1000) : windowTarget (dmaDpa ch offset) = .dma ch offset := by
  have hslot : (dmaDpa ch offset - 0x040000000000) / 0x10000000 = 4 := by unfold dmaDpa; omega
  have hoff : (dmaDpa ch offset - 0x040000000000) % 0x10000000 = 0x1000 * ch + offset := by unfold dmaDpa; omega
  simp only [windowTarget, hslot, hoff]
  rw [if_neg (by decide), if_neg (by decide), if_neg (by decide), if_neg (by decide), if_pos trivial, if_pos (by omega),
    show (0x1000 * ch + offset) / 0x1000 = ch by omega, show (0x1000 * ch + offset) % 0x1000 = offset by omega]

theorem cellAt_dmaDpa {ch offset : Nat} (hch : ch < 16) (ho : offset < 0x1000) : cellAt (dmaDpa ch offset) = none := by
  rw [cellAt_eq, windowTarget_dmaDpa hch ho]
  rfl

theorem watched_groupCommandWrite (p : Port) (tag : Nat) (g : Fin 262144) (code : Nat) (a b : Option Word) {s : State} (hs : Watched W s) :
    Watched W (groupCommandWrite p tag g.val code a b s) := watched_windowWrite_elsewhere p tag _ _ (cellAt_groupDpa g.isLt) hs

/-! ### Host accesses -/

theorem kept_exec_of_hostStore {c : Instr} (h : shape c = .hostStore) {s : State} (hs : Watched W s)
    (hc : ∀ cell, storedCell c = some cell → W.stores cell) : NextIs (Kept W) (exec c s) := by
  cases c
  case fullLineWrite p tag line data =>
    show NextIs _ (execFullLineWrite p tag line data s)
    unfold execFullLineWrite
    split
    · exact hs.kept.quiet (fr_acceptWhole rfl p tag line _ data false 0x03 (keeps_refl _ s))
    · split
      · exact (watched_windowWrite p tag _ _ data false hc hs).kept
      · trivial
  case partialWrite p tag line be data =>
    show NextIs _ (execPartialWrite p tag line be data s)
    unfold execPartialWrite
    split
    · split
      · exact hs.kept.quiet (fr_acceptWhole rfl p tag line _ data false 0x03 (keeps_refl _ s))
      · exact hs.kept.quiet (fr_acceptPartial rfl p tag line be data (keeps_refl _ s))
    · split
      · exact (watched_windowWrite p tag _ be data false hc hs).kept
      · trivial
  case poisonedWrite p tag line =>
    show NextIs _ (execPoisonedWrite p tag line s)
    unfold execPoisonedWrite
    split
    · exact hs.kept.quiet (fr_acceptWhole rfl p tag line _ 0 true 0x03 (keeps_refl _ s))
    · split
      · exact (watched_windowWrite p tag _ _ 0 true hc hs).kept
      · trivial
  case conditionalStore p tag cell be data =>
    refine (watched_windowWrite p tag (cellDpa 2 cell.val) be data false (fun c h => hc c ?_) hs).kept
    rwa [cellAt_cellDpa (.inr rfl) cell.isLt] at h
  case plainCellStore p tag cell be data =>
    refine (watched_windowWrite p tag (cellDpa 0 cell.val) be data false (fun c h => hc c ?_) hs).kept
    rwa [cellAt_cellDpa (.inl rfl) cell.isLt] at h
  case windowAccess p tag dpa op =>
    show NextIs _ (execWindowAccess p tag dpa op s)
    unfold execWindowAccess
    split
    · cases op with
      | read => exact (watched_windowRead p tag _ hs).kept
      | write be data poison => exact (watched_windowWrite p tag _ be data poison hc hs).kept
    · split
      · exact hs.kept
      · trivial
  case patrolVisit => exact absurd h (shape_visit_ne ⟨nofun, nofun⟩)
  case outOfTurnVisit => exact absurd h (shape_visit_ne ⟨nofun, nofun⟩)
  all_goals simp only [shape, reduceCtorEq] at h

theorem watched_exec_of_windowCommand {c : Instr} (h : shape c = .windowCommand) {s : State} (hs : Watched W s) :
    NextIs (Watched W) (exec c s) := by
  cases c
  case openGroup p tag g a b => exact watched_groupCommandWrite p tag g _ a b hs
  case bindGroup p tag g a b => exact watched_groupCommandWrite p tag g _ a b hs
  case commitGroup p tag g a b => exact watched_groupCommandWrite p tag g _ a b hs
  case abortGroup p tag g a b => exact watched_groupCommandWrite p tag g _ a b hs
  case releaseGroup p tag g a b => exact watched_groupCommandWrite p tag g _ a b hs
  case unassignedGroupCommand p tag g code a b => exact watched_groupCommandWrite p tag g _ a b hs
  case discard p tag start length => exact watched_windowWrite_elsewhere p tag _ _ (cellAt_portPageDpa p (by decide)) hs
  case dmaDescriptorWrite p tag ch be data => exact watched_windowWrite_elsewhere p tag be data (cellAt_dmaDpa ch.isLt (by decide)) hs
  case dmaStart p tag ch => exact watched_windowWrite_elsewhere p tag _ _ (cellAt_dmaDpa ch.isLt (by decide)) hs
  case dmaAbort p tag ch => exact watched_windowWrite_elsewhere p tag _ _ (cellAt_dmaDpa ch.isLt (by decide)) hs
  case patrolVisit => exact absurd h (shape_visit_ne ⟨nofun, nofun⟩)
  case outOfTurnVisit => exact absurd h (shape_visit_ne ⟨nofun, nofun⟩)
  all_goals simp only [shape, reduceCtorEq] at h

theorem kept_exec_of_hostRead {c : Instr} (h : shape c = .hostRead) {s : State} (hs : Watched W s) : NextIs (Kept W) (exec c s) := by
  cases c
  case memRd p tag line =>
    show NextIs _ (execMemRd p tag line s)
    unfold execMemRd
    split
    · exact hs.kept.quiet (fr_acceptRead rfl p tag line (keeps_refl _ s))
    · split
      · exact (watched_windowRead p tag _ hs).kept
      · trivial
  case groupControlRead p tag g => exact (watched_windowRead p tag _ hs).kept
  case reserveRead p tag cell => exact (watched_windowRead p tag _ hs).kept
  case resultRead p tag cell => exact (watched_windowRead p tag _ hs).kept
  case userCounterWindowRead p tag lineIndex => exact (watched_windowRead p tag _ hs).kept
  case barrierWordRead p tag => exact (watched_windowRead p tag _ hs).kept
  case patrolVisit => exact absurd h (shape_visit_ne ⟨nofun, nofun⟩)
  case outOfTurnVisit => exact absurd h (shape_visit_ne ⟨nofun, nofun⟩)
  all_goals simp only [shape, reduceCtorEq] at h

/-! ### Drains and group commands -/

/-- A port that goes on serves the accesses that waited for its drain (R54). -/
theorem watched_goOn (p : Port) {s : State} (hs : Watched W s) : Watched W (goOn p s) := watched_closeDrained p (watched_resumePort p hs)

theorem watched_transfer (p : Port) (x : Store) {s : State} (hs : Watched W s) : Watched W (transfer p x s) :=
  hs.standing (fr_transfer rfl p x (keeps_refl _ s)) fun _ => st_transfer p x (st_refl s)

theorem watched_finishCommand (g : Nat) {s : State} (hs : Watched W s) : Watched W (finishCommand g s) :=
  hs.standing (fr_finishCommand rfl g (keeps_refl _ s)) fun _ => st_finishCommand g (st_refl s)

theorem kept_exec_of_drain {c : Instr} (h : shape c = .drain) {s : State} (hs : Watched W s) : NextIs (Kept W) (exec c s) := by
  cases c
  case mergePlacement p tag =>
    show NextIs _ (execMergePlacement p tag s)
    unfold execMergePlacement
    split
    · exact hs.kept
    · next y _ =>
      split
      · exact (watched_goOn p (watched_transfer p y hs)).kept
      · exact hs.kept.quiet (fr_mergeWaits rfl p y (keeps_refl _ s))
  case globalVisibilityTransfer p =>
    show NextIs _ (execGlobalVisibilityTransfer p s)
    unfold execGlobalVisibilityTransfer
    split
    · exact hs.kept
    · next y _ =>
      split
      · exact hs.kept.quiet (fr_stallDrain rfl (keeps_refl _ s))
      · exact (watched_goOn p (watched_rearmStall (watched_transfer p y (hs.quiet (fr_endStall rfl (keeps_refl _ s)))))).kept
  case globalPersistentFlushPhase1 p => exact kept_of_storeless hs.kept (fr_execGlobalPersistentFlushPhase1 rfl p (keeps_refl _ s))
  case globalPersistentFlushPhase2 p => exact kept_of_storeless hs.kept (fr_execGlobalPersistentFlushPhase2 rfl p (keeps_refl _ s))
  case patrolVisit => exact absurd h (shape_visit_ne ⟨nofun, nofun⟩)
  case outOfTurnVisit => exact absurd h (shape_visit_ne ⟨nofun, nofun⟩)
  all_goals simp only [shape, reduceCtorEq] at h

theorem kept_exec_of_groupEvent {c : Instr} (h : shape c = .groupEvent) {s : State} (hs : Watched W s) : NextIs (Kept W) (exec c s) := by
  cases c
  case commitInstant g => exact kept_of_storeless hs.kept (fr_execCommitInstant rfl g (keeps_refl _ s))
  case groupCommandFinish g =>
    show NextIs _ (execGroupCommandFinish g s)
    unfold execGroupCommandFinish
    split
    · exact (watched_goOn .b (watched_goOn .a (watched_finishCommand g.val hs))).kept
    · exact hs.kept
  case patrolVisit => exact absurd h (shape_visit_ne ⟨nofun, nofun⟩)
  case outOfTurnVisit => exact absurd h (shape_visit_ne ⟨nofun, nofun⟩)
  all_goals simp only [shape, reduceCtorEq] at h

/-! ### The start of RESTORE -/

section Restart

variable (hall : ∀ c, W.stores c)
include hall

/-- The controller's reset leaves no word in a cell and no reservation (R103, R104). -/
theorem kept_controllerReset (s : State) : Kept W (controllerReset s) := by
  have hnone : ReservationsOk [] := ⟨List.nodup_nil, Nat.zero_le _⟩
  unfold controllerReset
  exact Kept.quiet ⟨fun c _ _ hc => absurd (hall c) hc, fun _ => hnone, fun _ => hnone⟩ (fr_promote rfl (keeps_refl _ _))

theorem kept_enterRestore (s : State) : Kept W (enterRestore s) := by
  rw [enterRestore_eq]
  exact (kept_controllerReset hall _).quiet (fr_setMode rfl _ (fr_put rfl _ _ (upd_pow_modes rfl rfl (keeps_refl _ _) _ _)))

theorem kept_leaveRise {s : State} (hs : Kept W s) : Kept W (leaveRise s) := by
  unfold leaveRise
  split
  · exact hs
  · exact kept_enterRestore hall s

theorem kept_execRise (good ok : Bool) {s : State} (hs : Kept W s) : NextIs (Kept W) (execRise good ok s) := by
  have hrails : Kept W (railsOn switchedRails s) := hs.quiet (fr_railsOn rfl _ (keeps_refl _ s))
  have hrun : execRise good ok s = if s.mode != modeRise then .next s else if !good then
      .next (enterFall (noteRailFault (4 + s.freeNow % 11) (drawn s))) else if ok then .next (leaveRise (railsOn switchedRails s)) else
      .next (raise 283 (leaveRise (otherImage (railsOn switchedRails s)))) := rfl
  rw [hrun]
  split
  · exact hs
  · split
    · exact hs.quiet (fr_enterFall rfl (fr_noteRailFault rfl _ (fr_drawn rfl (keeps_refl _ s))))
    · split
      · exact kept_leaveRise hall hrails
      · have hother : Kept W (otherImage (railsOn switchedRails s)) := hrails.quiet (fr_put rfl _ _ (fr_put rfl _ _ (fr_put rfl _ _ (keeps_refl _ _))))
        exact (kept_leaveRise hall hother).quiet (fr_raise rfl 283 (keeps_refl _ _))

theorem kept_execMrNHigh {s : State} (hs : Kept W s) : NextIs (Kept W) (execMrNHigh s) := by
  unfold execMrNHigh
  simp only [nextIs_ite, nextIs_next]
  split
  · exact kept_enterRestore hall _
  · exact hs

theorem kept_restoreKept (reset : Bool) {s : State} (hs : Kept W s) : Kept W (restoreKept reset s) := by
  have hkept {t : State} (ht : Kept W t) : Kept W (if reset then leaveRise t else releasePins (leaveRise t)) := by
    split
    · exact kept_leaveRise hall ht
    · exact (kept_leaveRise hall ht).quiet (fr_releasePins rfl (keeps_refl _ _))
  exact hkept (t := { s with pow := { s.pow with railsKept := true }, modes := { s.modes with offHeld := false, keptOn := false } }) hs

theorem kept_curtainOutcome (c : Curtain) {s : State} (hs : Kept W s) : Kept W (curtainOutcome c s) := by
  have hnoted (n : Nat) {t : State} (ht : Kept W t) : Kept W (noteCurtain c n (finishCurtain c t)) :=
    ht.quiet (fr_noteCurtain rfl c n (fr_finishCurtain rfl c (keeps_refl _ t)))
  unfold curtainOutcome
  split
  · exact (hnoted 4 hs).quiet (fr_setMode rfl _ (fr_releasePins rfl (fr_railsOff rfl _ (keeps_refl _ _))))
  · split
    · exact (hnoted 2 hs).quiet (fr_enterFall rfl (keeps_refl _ _))
    · exact kept_restoreKept hall _ (hnoted 3 hs)

theorem kept_execCurtainOutcome {s : State} (hs : Kept W s) : NextIs (Kept W) (execCurtainOutcome s) := by
  unfold execCurtainOutcome
  split
  · exact hs
  · next c _ =>
    split
    · exact kept_curtainOutcome hall c hs
    · exact hs

theorem kept_exec_of_restart {c : Instr} (h : shape c = .restart) {s : State} (hs : Kept W s) : NextIs (Kept W) (exec c s) := by
  rcases exec_of_restart h with ⟨good, ok, rfl⟩ | rfl | rfl
  · exact kept_execRise hall good ok hs
  · exact kept_execMrNHigh hall hs
  · exact kept_execCurtainOutcome hall hs

end Restart

/-! ### Commands without stores -/

theorem storeless_of_logWriting {c : Instr} (h : shape c = .logWriting) (s : State) : NextIs (Keeps storelessMask s) (exec c s) := by
  cases c
  case stagingHoldExpiry => exact fr_execStagingHoldExpiry rfl _ _ (keeps_refl _ s)
  case logRowDispatch => exact fr_execLogRowDispatch rfl (keeps_refl _ s)
  case logRowCloseTime => exact fr_execLogRowCloseTime rfl (keeps_refl _ s)
  case logRowComplete => exact fr_execLogRowComplete rfl _ (keeps_refl _ s)
  case patrolVisit => exact absurd h (shape_visit_ne ⟨nofun, nofun⟩)
  case outOfTurnVisit => exact absurd h (shape_visit_ne ⟨nofun, nofun⟩)
  all_goals simp only [shape, reduceCtorEq] at h

theorem storeless_of_program {c : Instr} (h : shape c = .program) (s : State) : NextIs (Keeps storelessMask s) (exec c s) := by
  cases c
  case programDispatch => exact fr_execProgramDispatch rfl _ (keeps_refl _ s)
  case programComplete => exact fr_execProgramComplete rfl _ _ (keeps_refl _ s)
  case stripePageComplete => exact fr_execStripePageComplete rfl _ (keeps_refl _ s)
  case chunkGrant => exact fr_execChunkGrant rfl _ (keeps_refl _ s)
  case patrolVisit => exact absurd h (shape_visit_ne ⟨nofun, nofun⟩)
  case outOfTurnVisit => exact absurd h (shape_visit_ne ⟨nofun, nofun⟩)
  all_goals simp only [shape, reduceCtorEq] at h

theorem storeless_of_moving {c : Instr} (h : shape c = .moving) (s : State) : NextIs (Keeps storelessMask s) (exec c s) := by
  cases c
  case foldStart => exact fr_execFoldStart rfl (keeps_refl _ s)
  case foldStop => exact fr_execFoldStop rfl (keeps_refl _ s)
  case foldStripePageDispatch => exact fr_execFoldStripePageDispatch rfl (keeps_refl _ s)
  case foldMapSet => exact fr_execFoldMapSet rfl _ (keeps_refl _ s)
  case segmentFold => exact fr_execSegmentFold rfl _ (keeps_refl _ s)
  case logTrim => exact fr_execLogTrim rfl (keeps_refl _ s)
  case logRelocation => exact fr_execLogRelocation rfl _ (keeps_refl _ s)
  case collection => exact fr_execCollection rfl (keeps_refl _ s)
  case collectionCritical => exact fr_execCollectionCritical rfl (keeps_refl _ s)
  case destinationProgramFailure => exact fr_execDestinationProgramFailure rfl _ _ (keeps_refl _ s)
  case wearLevellingMove =>
    show NextIs _ (execWearLevellingMove s)
    exact fr_execWearLevellingMove rfl (keeps_refl _ s)
  case roleRotation ring index =>
    show NextIs _ (execRoleRotation ring index s)
    exact fr_execRoleRotation rfl ring index (keeps_refl _ s)
  case demotion => exact fr_execDemotion rfl _ (keeps_refl _ s)
  case floorRestoreMove => exact fr_execFloorRestoreMove rfl _ (keeps_refl _ s)
  case stripeWithdrawn => exact fr_execStripeWithdrawn rfl _ (keeps_refl _ s)
  case patrolVisit => exact absurd h (shape_visit_ne ⟨nofun, nofun⟩)
  case outOfTurnVisit => exact absurd h (shape_visit_ne ⟨nofun, nofun⟩)
  all_goals simp only [shape, reduceCtorEq] at h

theorem storeless_of_upkeep {c : Instr} (h : shape c = .upkeep)
    (hv : (∀ unit report, c ≠ .patrolVisit unit report) ∧ ∀ unit report, c ≠ .outOfTurnVisit unit report) (s : State) :
    NextIs (Keeps storelessMask s) (exec c s) := by
  cases c
  case hourlyTrickle => exact fr_execHourlyTrickle rfl (keeps_refl _ s)
  case ageMeterReprogram => exact fr_execAgeMeterReprogram rfl (keeps_refl _ s)
  case priorityPass => exact fr_execPriorityPass rfl (keeps_refl _ s)
  case unitRetest => exact fr_execUnitRetest rfl _ _ (keeps_refl _ s)
  case patrolVisit unit report => exact absurd rfl (hv.1 unit report)
  case outOfTurnVisit unit report => exact absurd rfl (hv.2 unit report)
  all_goals simp only [shape, reduceCtorEq] at h

theorem storeless_of_dieEvent {c : Instr} (h : shape c = .dieEvent) (s : State) : NextIs (Keeps storelessMask s) (exec c s) := by
  cases c
  case dieRetiring => exact fr_execDieRetiring rfl _ (keeps_refl _ s)
  case dieFailed => exact fr_execDieFailed rfl _ (keeps_refl _ s)
  case channelRetired => exact fr_execChannelRetired rfl _ _ _ (keeps_refl _ s)
  case rebuildComplete => exact fr_execRebuildComplete rfl _ (keeps_refl _ s)
  case patrolVisit => exact absurd h (shape_visit_ne ⟨nofun, nofun⟩)
  case outOfTurnVisit => exact absurd h (shape_visit_ne ⟨nofun, nofun⟩)
  all_goals simp only [shape, reduceCtorEq] at h

theorem storeless_of_translation {c : Instr} (h : shape c = .translation) (s : State) : NextIs (Keeps storelessMask s) (exec c s) := by
  cases c
  case stampCeilingRaise => exact fr_execStampCeilingRaise rfl (keeps_refl _ s)
  case checkpoint => exact fr_execCheckpoint rfl (keeps_refl _ s)
  case directoryImage => exact fr_execDirectoryImage rfl (keeps_refl _ s)
  case demandRebuild => exact fr_execDemandRebuild rfl _ (keeps_refl _ s)
  case segmentRebuilt => exact fr_execSegmentRebuilt rfl _ (keeps_refl _ s)
  case stampFormConversion => exact fr_execStampFormConversion rfl _ (keeps_refl _ s)
  case writeBackBatch => exact fr_execWriteBackBatch rfl (keeps_refl _ s)
  case integrityTableImage => exact fr_execIntegrityTableImage rfl _ (keeps_refl _ s)
  case patrolVisit => exact absurd h (shape_visit_ne ⟨nofun, nofun⟩)
  case outOfTurnVisit => exact absurd h (shape_visit_ne ⟨nofun, nofun⟩)
  all_goals simp only [shape, reduceCtorEq] at h

theorem storeless_of_codeEvent {c : Instr} (h : shape c = .codeEvent) (s : State) : NextIs (Keeps storelessMask s) (exec c s) := by
  cases c
  case scrub => exact fr_execScrub rfl _ _ _ (keeps_refl _ s)
  case rowSelfTest => exact fr_execRowSelfTest rfl _ _ _ (keeps_refl _ s)
  case sectorSelfTest => exact fr_execSectorSelfTest rfl _ _ _ _ _ (keeps_refl _ s)
  case patrolVisit => exact absurd h (shape_visit_ne ⟨nofun, nofun⟩)
  case outOfTurnVisit => exact absurd h (shape_visit_ne ⟨nofun, nofun⟩)
  all_goals simp only [shape, reduceCtorEq] at h

theorem kept_exec_of_upkeep {c : Instr} (h : shape c = .upkeep) {s : State} (hs : Watched W s) : NextIs (Kept W) (exec c s) := by
  by_cases hp : ∃ unit report, c = .patrolVisit unit report
  · obtain ⟨unit, report, rfl⟩ := hp
    exact (watched_exec_of_modeEvent (.patrolVisit unit report) hs).imp fun _ => (·.kept)
  · by_cases ho : ∃ unit report, c = .outOfTurnVisit unit report
    · obtain ⟨unit, report, rfl⟩ := ho
      exact (watched_exec_of_modeEvent (.outOfTurnVisit unit report) hs).imp fun _ => (·.kept)
    · exact kept_of_storeless hs.kept (storeless_of_upkeep h ⟨fun u r hc => hp ⟨u, r, hc⟩, fun u r hc => ho ⟨u, r, hc⟩⟩ s)

theorem kept_exec_of_quietEvent {c : Instr} (h : QuietEvent c) {s : State} (hs : Watched W s) : NextIs (Kept W) (exec c s) := by
  have hkeeps := keeps_refl storelessMask s
  cases h with
  | throttleCleared => exact kept_of_storeless hs.kept (fr_execThrottleCleared rfl hkeeps)
  | enforcementLevel => exact kept_of_storeless hs.kept (fr_execEnforcementLevel rfl hkeeps)
  | idleTimer => exact kept_of_storeless hs.kept (fr_execIdleTimer rfl hkeeps)
  | dozeEntryStep => exact kept_of_storeless hs.kept (fr_execDozeEntryStep rfl hkeeps)
  | serviceTimeLimit => exact kept_of_storeless hs.kept (fr_execServiceTimeLimit rfl hkeeps)
  | curtainCommitPoint => exact (watched_execCurtainCommitPoint hs).imp fun _ => (·.kept)
  | curtainCancelled mv => exact kept_of_storeless hs.kept (fr_execCurtainCancelled rfl mv hkeeps)
  | cartridgeFloor => exact kept_of_storeless hs.kept (fr_execCartridgeFloor rfl hkeeps)
  | secureErase p => exact kept_of_storeless hs.kept (fr_execSecureErase rfl p hkeeps)

/-- A command writes a cell only where it, or an access that waited, stores to it, or RESTORE begins; and it keeps the limits on reservations. -/
theorem kept_exec {c : Instr} {s : State} (hs : Watched W s) (hc : ∀ cell, storedCell c = some cell → W.stores cell)
    (hall : shape c = .restart → ∀ cell, W.stores cell) : NextIs (Kept W) (exec c s) := by
  have hk := hs.kept
  cases h : shape c with
  | hostStore => exact kept_exec_of_hostStore h hs hc
  | windowCommand => exact (watched_exec_of_windowCommand h hs).imp fun _ => (·.kept)
  | hostRead => exact kept_exec_of_hostRead h hs
  | readEvent => exact kept_of_keeps hk ((frame_of_readEvent h).keeps s)
  | drain => exact kept_exec_of_drain h hs
  | groupEvent => exact kept_exec_of_groupEvent h hs
  | discardEvent => exact kept_of_keeps hk ((frame_of_discardEvent h).keeps s)
  | burst => exact kept_of_keeps hk ((frame_of_burst h).keeps s)
  | logWriting => exact kept_of_storeless hk (storeless_of_logWriting h s)
  | program => exact kept_of_storeless hk (storeless_of_program h s)
  | moving => exact kept_of_storeless hk (storeless_of_moving h s)
  | upkeep => exact kept_exec_of_upkeep h hs
  | dieEvent => exact kept_of_storeless hk (storeless_of_dieEvent h s)
  | translation => exact kept_of_storeless hk (storeless_of_translation h s)
  | portEvent => exact kept_of_keeps hk ((frame_of_portEvent h).keeps s)
  | mailbox => exact kept_of_keeps hk ((frame_of_mailbox h).keeps s)
  | session => exact kept_of_keeps hk ((frame_of_session h).keeps s)
  | fieldLink => exact kept_of_keeps hk ((frame_of_fieldLink h).keeps s)
  | report => exact kept_of_keeps hk ((frame_of_report h).keeps s)
  | codeEvent => exact kept_of_storeless hk (storeless_of_codeEvent h s)
  | supply => exact kept_of_keeps hk ((frame_of_supply h).keeps s)
  | quietEvent => exact kept_exec_of_quietEvent (quietEvent_of_shape h) hs
  | modeEvent => exact (watched_exec_of_modeEvent (modeEvent_of_shape h) hs).imp fun _ => (·.kept)
  | powerOn =>
    obtain ⟨mv, rfl⟩ := exec_of_powerOn h
    exact kept_of_storeless hk (fr_execVinValid rfl mv (keeps_refl storelessMask s))
  | restart => exact kept_exec_of_restart (hall h) h hk
  | restoring => exact (watched_exec_of_restoring h hs).imp fun _ => (·.kept)
  | request => exact (watched_exec_of_request h hs).imp fun _ => (·.kept)

end Watched

/-! ### The obligations -/

/-- The cells to which a command or an access that waits stores, with the cells before the command. -/
def storedWatch (c : Instr) (s : State) : Watch :=
  { stores := fun cell => storedCell c = some cell ∨ cell ∈ waitedCells s, limited := fun _ => False, before := s.cells }

theorem watched_storedWatch (c : Instr) (s : State) : Watched (storedWatch c s) s := by
  have hadmits (w : PortWait) (hw : w ∈ s.portA.waits ++ s.portB.waits) : (storedWatch c s).Admits w :=
    fun cell h => .inr (by rw [waitedCells_eq]; exact List.mem_filterMap.mpr ⟨w, hw, h⟩)
  exact ⟨⟨fun _ _ _ _ => rfl, False.elim, False.elim⟩, fun w hw => hadmits w (List.mem_append_left _ hw),
    fun w hw => hadmits w (List.mem_append_right _ hw)⟩

/-- Settles O8: each operation through which a store takes effect writes only the cells of the accesses that it serves. -/
theorem onlyCellStoresWriteCells : Obligations.OnlyCellStoresWriteCells := by
  intro c s t ht hshape cell word hword hstored hwaited
  have hn := kept_exec (watched_storedWatch c s) (fun _ h => .inl h) fun h => absurd h hshape
  rw [ht] at hn
  exact hn.cells cell word hword fun h => h.elim hstored hwaited

/-- Every cell, and the ports whose reservations keep the limits of R104. -/
def reservedWatch (s : State) : Watch :=
  { stores := fun _ => True, limited := fun p => ReservationsOk (s.reserved p), before := s.cells }

theorem watched_reservedWatch (s : State) : Watched (reservedWatch s) s :=
  ⟨⟨fun _ _ _ _ => rfl, id, id⟩, fun _ _ _ _ => trivial, fun _ _ _ _ => trivial⟩

theorem reserved_tick (s : State) (p : Port) : (tick s).reserved p = s.reserved p := by
  have hends (u : State) : (activationEnds u).reserved p = u.reserved p :=
    reserved_keeps (fr_activationEnds (μ := kf_activationEnds) rfl (keeps_refl _ u)) rfl rfl p
  rw [tick_eq, hends]
  cases p
  · exact (reservedA_eq (unreported_countTime _ _)).trans rfl
  · exact (reservedB_eq (unreported_countTime _ _)).trans rfl

theorem step_keeps_reservationsOk {s t : State} (h : step s = .next t) (p : Port) (hs : ReservationsOk (s.reserved p)) :
    ReservationsOk (t.reserved p) := by
  rcases step_next_cases h with ⟨-, rfl⟩ | ⟨c, rest, -, hexec⟩
  · rwa [reserved_tick]
  · have hrest (q : Port) : ({ s with pending := rest } : State).reserved q = s.reserved q := by cases q <;> rfl
    have hn := kept_exec (c := c) (watched_reservedWatch { s with pending := rest }) (fun _ _ => trivial) fun _ _ => trivial
    rw [hexec] at hn
    exact Kept.reserved hn p ((congrArg ReservationsOk (hrest p)).mpr hs)

theorem reset_reservationsOk (p : Port) : ReservationsOk (State.reset.reserved p) := by
  have hnone : State.reset.reserved p = [] := by cases p <;> rfl
  rw [hnone]
  exact ⟨List.nodup_nil, Nat.zero_le _⟩

/-- A reserve read leaves the other port's reservations. -/
theorem reserved_other_reserveReadEnd (p : Port) (tag c : Nat) (s : State) : (reserveReadEnd p tag c s).reserved p.other = s.reserved p.other := by
  rw [reserved_reserveReadEnd, reserved_other_reserve, reserved_countedAccess]

/-- With room, a reserve read leaves its port a reservation on the cell. -/
theorem holdsReservation_reserveReadEnd {s : State} {p : Port} (tag c : Nat) (hroom : (s.reserved p).length < 64) :
    (reserveReadEnd p tag c s).holdsReservation p c = true := by
  cases hheld : s.holdsReservation p c with
  | true => exact (holdsReservation_congr (reserveReadEnd_of_held hheld tag).1 c).trans hheld
  | false =>
    rw [State.holdsReservation, (reserveReadEnd_of_room hheld hroom tag).1]
    simp

/-- Settles O6: every operation that writes reservations keeps their limits, and the reserve alias takes one for its own port only. -/
theorem reservationsStayLimited : Obligations.ReservationsStayLimited :=
  ⟨fun _ _ h p => step_keeps_reservationsOk h p, reset_reservationsOk, fun s p tag c hopen hrests hmode =>
    have hapart := reserved_other_reserveReadEnd p tag c.val s
    completes_reserveRead hopen hrests hmode tag ⟨hapart, fun hother hroom =>
      ⟨holdsReservation_reserveReadEnd tag c.val hroom, (holdsReservation_congr hapart c.val).trans hother⟩⟩⟩

end Sys2Proof.Machine
end

section
/-! SUPPORT. Group commands at their effect: the words of the write, the judgement of each code, and the command in its group's hand (R115, R117,
R119, R120, R125, R131). -/

namespace Sys2Proof.Machine

/-! ### The words of a group command -/

/-- The byte enables of a group command: word 0, and the arguments that it carries. -/
abbrev commandEnables (a b : Option Word) : ByteEnables :=
  enablesOf ([0] ++ (if a.isSome then [1] else []) ++ (if b.isSome then [2] else []))

theorem wordComplete_commandEnables (a b : Option Word) : wordComplete 0 (commandEnables a b) = true ∧
    wordComplete 1 (commandEnables a b) = a.isSome ∧ wordComplete 2 (commandEnables a b) = b.isSome := by
  have h : ∀ x y : Bool, let be := enablesOf ([0] ++ (if x then [1] else []) ++ (if y then [2] else []))
      wordComplete 0 be = true ∧ wordComplete 1 be = x ∧ wordComplete 2 be = y := by decide
  exact h a.isSome b.isSome

/-- A group command writes its code, and each argument that it carries (R57, R115). -/
theorem writtenWord_command (x : Word) (a b : Option Word) :
    writtenWord 0 (commandEnables a b) (lineOfWords [x, a.getD 0, b.getD 0]) = some x ∧
      writtenWord 1 (commandEnables a b) (lineOfWords [x, a.getD 0, b.getD 0]) = a ∧
      writtenWord 2 (commandEnables a b) (lineOfWords [x, a.getD 0, b.getD 0]) = b := by
  obtain ⟨h0, h1, h2⟩ := wordComplete_commandEnables a b
  obtain ⟨w0, w1, w2⟩ := lineWord_lineOfWords_three x (a.getD 0) (b.getD 0)
  simp only [writtenWord, h0, h1, h2, w0, w1, w2, if_true, true_and]
  exact ⟨by cases a <;> rfl, by cases b <;> rfl⟩

/-! ### The write of a group command -/

/-- A group's context once the arguments of a command are written. -/
def Group.withArgs (gr : Group) (code : Nat) (a b : Option Word) : Group :=
  { gr with argA := a.getD gr.argA &&& argumentMask code, argB := b.getD gr.argB }

/-- A command as its group takes it. -/
def Group.commandOf (gr : Group) (p : Port) (code : Nat) (a b : Option Word) (seq : Nat) : GroupCommand :=
  { port := p, code := code, a := a.getD gr.argA &&& argumentMask code, b := b.getD gr.argB, seq := seq }

/-- The state in which a group command is judged: its write is counted, and its arguments stand in the group's context. -/
def acceptedCommand (p : Port) (g code : Nat) (a b : Option Word) (s : State) : State :=
  strayIf (anyPartial (commandEnables a b) || anyEnabled [3, 4, 5, 6, 7] (commandEnables a b)) p
    ((countedWrite p (commandEnables a b) s).setGroup g ((s.group g).withArgs code a b))

theorem group_keeps {μ : Nat} {s t : State} (h : Keeps μ s t) (h17 : μ.testBit 17 = false) (g : Nat) : t.group g = s.group g := by
  unfold State.group
  rw [h.groups h17]

@[simp] theorem group_setGroup_self (s : State) (g : Nat) (v : Group) : (s.setGroup g v).group g = v := tgetD_tset_self _ _ _ _

theorem groups_acceptedCommand (p : Port) (g code : Nat) (a b : Option Word) (s : State) :
    (acceptedCommand p g code a b s).groups = tset {} g ((s.group g).withArgs code a b) s.groups := by
  have hstray (c : Bool) (t : State) : Keeps accessMask t (strayIf c p t) := fr_strayIf rfl c p (keeps_refl _ t)
  rw [acceptedCommand, (hstray _ _).groups rfl, State.setGroup, (keeps_countedWrite p _ s).groups rfl]

theorem group_acceptedCommand (p : Port) (g code : Nat) (a b : Option Word) (s : State) :
    (acceptedCommand p g code a b s).group g = (s.group g).withArgs code a b := by
  rw [State.group, groups_acceptedCommand, tgetD_tset_self]

/-- The arguments of a command are no part of what it is judged by. -/
theorem group_acceptedCommand_keeps (p : Port) (g code : Nat) (a b : Option Word) (s : State) :
    let gr := (acceptedCommand p g code a b s).group g
    gr.phase = (s.group g).phase ∧ gr.owner = (s.group g).owner ∧ gr.extents = (s.group g).extents := by
  rw [group_acceptedCommand]
  exact ⟨rfl, rfl, rfl⟩

theorem regionRegs_acceptedCommand (p : Port) (g code : Nat) (a b : Option Word) (s : State) :
    regionRegs (acceptedCommand p g code a b s) = regionRegs s := by
  have hset (t : State) (v : Group) : regionRegs (t.setGroup g v) = regionRegs t := regionRegs_congr rfl
  rw [acceptedCommand, regionRegs_strayIf, hset, regionRegs_countedWrite]

theorem on_acceptedCommand (p : Port) (g code : Nat) (a b : Option Word) (s : State) : Onward p s (acceptedCommand p g code a b s) :=
  on_strayIf _ _ (on_setGroup _ _ (on_countedWrite _ _ (on_refl s)))

/-- A group with no command in hand takes up a command at once (R119). -/
theorem submitCommand_of_idle {s : State} {g : Nat} (h : (s.group g).running = none) (c : GroupCommand) :
    submitCommand g c s = startCommand g c s := by
  simp only [submitCommand, h]

theorem writeGroup_command {p : Port} {g code : Nat} {s : State} (hcode : code < 256) (hengine : s.modes.activation = none)
    (hidle : (s.group g).running = none) (seq : Nat) (a b : Option Word) :
    writeGroup p g seq (commandEnables a b) (lineOfWords [BitVec.ofNat 64 code, a.getD 0, b.getD 0]) (countedWrite p (commandEnables a b) s) =
      startCommand g ((s.group g).commandOf p code a b seq) (acceptedCommand p g code a b s) := by
  have hcounted := keeps_countedWrite p (commandEnables a b) s
  have hword : (BitVec.ofNat 64 code).toNat % 256 = code := by rw [BitVec.toNat_ofNat]; omega
  obtain ⟨h0, h1, h2⟩ := writtenWord_command (BitVec.ofNat 64 code) a b
  unfold writeGroup
  rw [hcounted.modes rfl, hengine, group_keeps hcounted rfl]
  simp only [h0, h1, h2, Option.map_some, Option.getD_some, hword]
  exact submitCommand_of_idle ((congrArg Group.running (group_acceptedCommand p g code a b s)).trans hidle) _

/-- A window write at a port that rests is the next access that the module accepts (R54, R124). -/
theorem windowWrite_takes_nextSeq {s : State} {p : Port} (hopen : s.writeOpen p = true) (h : PortRests s p) (tag dpa : Nat) (be : ByteEnables)
    (d : Line) : ∃ sampled, windowWrite p tag dpa be d false s =
      endWrite p tag (dpa / 64) sampled (writeTarget p s.nextSeq be d (countedWrite p be s) (windowTarget dpa)) := by
  have hrests : PortRests (useCredit p (countWrite p s)) p := (on_useCredit p (on_countWrite p (on_refl s))).portRests h
  have hcredit : Keeps 0x380000064 s (useCredit p (countWrite p s)) := fr_useCredit rfl p (fr_countWrite rfl p (keeps_refl _ s))
  refine ⟨(useCredit p (countWrite p s)).samplesNow p 4, ?_⟩
  rw [← hcredit.nextSeq rfl, ← writeEffect_clean, windowWrite, if_pos hopen, accessWindow_of_rests hrests]
  rfl

/-- A group command of a port that rests completes by its effect. -/
theorem completes_groupCommand {c : Instr} {s : State} {p : Port} {tag g code : Nat} {a b : Option Word}
    (hc : exec c s = .next (groupCommandWrite p tag g code a b s)) (hg : g < 262144) (hcode : code < 256) (hopen : s.writeOpen p = true)
    (hrests : PortRests s p) (hengine : s.modes.activation = none) (hidle : (s.group g).running = none) {P : State → Prop}
    (hP : ∀ line sampled, P (endWrite p tag line sampled
      (startCommand g ((s.group g).commandOf p code a b s.nextSeq) (acceptedCommand p g code a b s)))) : Completes c s P := by
  obtain ⟨sampled, hrun⟩ := windowWrite_takes_nextSeq hopen hrests tag (groupDpa g) (commandEnables a b)
    (lineOfWords [BitVec.ofNat 64 code, a.getD 0, b.getD 0])
  rw [windowTarget_groupDpa hg, writeTarget, writeGroup_command hcode hengine hidle] at hrun
  exact ⟨_, hc.trans (congrArg Host.Outcome.next hrun), hP _ sampled⟩

/-! ### A command in its group's hand -/

/-- A group's context once a command has taken effect, with the status and the detail of its judgement: a COMMIT with status 0 makes the group
COMMITTING (R119). -/
def Group.inHand (gr : Group) (c : GroupCommand) (j : Nat × Nat) (clock : Nat) : Group :=
  { gr with
    running := some { c with status := j.1, detail := j.2, startedAt := clock },
    phase := if c.code == codeCommit && j.1 == 0 then .committing else gr.phase }

theorem group_startCommand (g : Nat) (c : GroupCommand) (s : State) :
    (startCommand g c s).group g = (s.group g).inHand c (s.judgeGroup g c) s.clock := by
  have hkept (u : State) : Keeps kf_takeBlocking u (takeBlocking u) := fr_takeBlocking rfl (keeps_refl _ u)
  unfold startCommand
  simp only
  split
  · exact (group_keeps (hkept _) rfl g).trans (group_setGroup_self _ _ _)
  · exact group_setGroup_self _ _ _

theorem on_startCommand (g : Nat) (c : GroupCommand) {p : Port} {r s : State} (hs : Onward p r s) : Onward p r (startCommand g c s) :=
  hs.quiet (fr_startCommand rfl g c (keeps_refl _ s))

/-- The group has the command of a port in hand with a status, and the port has its Cmp. -/
def TakenUp (s : State) (p : Port) (tag g code : Nat) (a b : Option Word) (status : Nat) (t : State) : Prop :=
  (∃ c, (t.group g).running = some c ∧ c.port = p ∧ c.code = code ∧ c.a = a.getD (s.group g).argA &&& argumentMask code ∧
    c.b = b.getD (s.group g).argB ∧ c.seq = s.nextSeq ∧ c.status = status) ∧ ∃ e, Out.cmp p tag e ∈ t.out

/-- A group command is taken up with the status of its judgement. -/
theorem groupCommand_takenUp {c : Instr} {s : State} {p : Port} {tag g code status : Nat} {a b : Option Word}
    (hc : exec c s = .next (groupCommandWrite p tag g code a b s)) (hg : g < 262144) (hcode : code < 256) (hopen : s.writeOpen p = true)
    (hrests : PortRests s p) (hengine : s.modes.activation = none) (hidle : (s.group g).running = none)
    (hjudge : ((acceptedCommand p g code a b s).judgeGroup g ((s.group g).commandOf p code a b s.nextSeq)).1 = status) :
    Completes c s fun t => TakenUp s p tag g code a b status t ∧
      (t.group g).phase = if code == codeCommit && status == 0 then .committing else (s.group g).phase := by
  refine completes_groupCommand hc hg hcode hopen hrests hengine hidle fun line sampled => ?_
  have hgroup := (group_keeps (keeps_endWrite p tag line sampled _) rfl g).trans
    (group_startCommand g ((s.group g).commandOf p code a b s.nextSeq) (acceptedCommand p g code a b s))
  have hcmp := endWrite_sends hopen (on_startCommand g ((s.group g).commandOf p code a b s.nextSeq) (on_acceptedCommand p g code a b s)) tag line
    sampled
  rw [group_acceptedCommand] at hgroup
  subst hjudge
  unfold TakenUp
  rw [hgroup]
  exact ⟨⟨⟨_, rfl, rfl, rfl, rfl, rfl, rfl, rfl⟩, hcmp⟩, rfl⟩

/-! ### The judgement of each command (R117) -/

section Judged

variable {s : State} {g : Nat} {c : GroupCommand}

/-- An OPEN of a free group within the pool, without override, is in order (R117, R120). -/
theorem judgeGroup_open (hcode : c.code = codeOpen) (hphase : (s.group g).phase = .free) (hlimit : c.b.toNat ≤ 16777216)
    (hoverride : c.a.getLsbD 0 = false) : (s.judgeGroup g c).1 = 0 := by
  have hlow : c.a[0] = false := hoverride
  simp [State.judgeGroup, hcode, hphase, hlow, Nat.not_lt.mpr hlimit]

/-- A COMMIT or ABORT of an open group by its owner is in order (R117, R120). -/
theorem judgeGroup_end (hcode : c.code = codeCommit ∨ c.code = codeAbort) (hphase : (s.group g).phase = .opened)
    (howner : (s.group g).owner = c.port) : (s.judgeGroup g c).1 = 0 := by
  rcases hcode with hcode | hcode <;> simp [State.judgeGroup, hcode, hphase, howner]

/-- A RELEASE of a group that has ended is in order (R117, R120). -/
theorem judgeGroup_release (hcode : c.code = codeRelease)
    (hphase : (s.group g).phase = .committed ∨ (s.group g).phase = .aborted ∨ (s.group g).phase = .lost) : (s.judgeGroup g c).1 = 0 := by
  rcases hphase with hphase | hphase | hphase <;> simp [State.judgeGroup, hcode, hphase]

/-- An unassigned code is OUT_OF_RANGE (R115). -/
theorem judgeGroup_unassigned (hcode : c.code = 0 ∨ 5 < c.code) : (s.judgeGroup g c).1 = 0x0302 := by
  simp only [State.judgeGroup, codeOpen, codeBind, codeCommit, codeAbort, codeRelease]
  repeat rw [if_neg (by omega)]

/-- A BIND of an open group by its owner is in order where its pages are online, unbound and within the module's limit (R117, R125, R126). -/
theorem judgeGroup_bind (hcode : c.code = codeBind) (hphase : (s.group g).phase = .opened) (howner : (s.group g).owner = c.port)
    (hargs : bindArgsOk c.a c.b = true) (hroom : (s.group g).extents.length < 64)
    (honline : s.lowestOffline (bindStart c.a) (bindPages c.b) = none) (hfree : s.lowestBound g (bindStart c.a) (bindPages c.b) = none)
    (hpages : s.claimedPages g + bindPages c.b ≤ 16777216) : (s.judgeGroup g c).1 = 0 := by
  simp [State.judgeGroup, hcode, hphase, howner, hargs, Nat.not_le.mpr hroom, honline, hfree, Nat.not_lt.mpr hpages]

end Judged

/-! ### What a BIND is judged by -/

/-- The arguments of a BIND lie in the bits that it defines (R115). -/
theorem bind_masked (a b : Word) :
    bindStart (a &&& argumentMask codeBind) = bindStart a ∧ bindArgsOk (a &&& argumentMask codeBind) b = bindArgsOk a b := by
  have hmask : (a &&& argumentMask codeBind).toNat = a.toNat % 2 ^ 42 := by
    have h : argumentMask codeBind = BitVec.ofNat 64 (2 ^ 42 - 1) := by decide
    rw [h, BitVec.toNat_and, BitVec.toNat_ofNat, Nat.mod_eq_of_lt (by decide : 2 ^ 42 - 1 < 2 ^ 64), Nat.and_two_pow_sub_one_eq_mod]
  have hstart : bindStart (a &&& argumentMask codeBind) = bindStart a := by
    unfold bindStart
    rw [hmask, Nat.mod_mod]
  have halign : a.toNat % 2 ^ 42 % 4096 = a.toNat % 4096 := Nat.mod_mod_of_dvd _ (by decide)
  refine ⟨hstart, ?_⟩
  unfold bindArgsOk
  rw [hstart, hmask, halign]

/-- The extents that a BIND of group `g` is judged against: those that `g` has bound, and those that other groups have bound or claim (R126). -/
def boundExtents (g : Nat) (t : Tbl Group) : List (List (Nat × Nat)) := t.map fun e => if e.1 = g then e.2.extents else e.2.claimed

theorem exists_mem_of_tfind {α : Type} {k : Nat} {v : α} {t : Tbl α} (h : tfind k t = some v) : ∃ x ∈ t, x.1 = k := by
  induction t with
  | nil => exact absurd h (by simp)
  | cons e t ih =>
    unfold tfind at h
    split at h
    · exact ⟨e, List.mem_cons_self, by assumption⟩
    · obtain ⟨x, hx, hk⟩ := ih h
      exact ⟨x, List.mem_cons_of_mem _ hx, hk⟩

/-- A listed group that changes with its extents as they are leaves what a BIND is judged against. -/
theorem boundExtents_tput {g : Nat} {v gr : Group} {t : Tbl Group} (hr : rising t = true) (hf : tfind g t = some gr)
    (hv : v.extents = gr.extents) : boundExtents g (tput g v t) = boundExtents g t := by
  induction t with
  | nil => exact absurd hf (by simp)
  | cons e t ih =>
    obtain ⟨j, w⟩ := e
    unfold tfind at hf
    unfold tput
    by_cases hj : j = g
    · subst hj
      rw [if_pos rfl, Option.some.injEq] at hf
      simp [boundExtents, hv, hf]
    · rw [if_neg hj] at hf
      obtain ⟨x, hx, rfl⟩ := exists_mem_of_tfind hf
      have hlt : j < x.1 := rising_head hr x hx
      rw [if_neg (by omega), if_neg (Ne.symm hj)]
      exact congrArg (List.cons _) (ih (rising_tail hr) hf)

theorem boundExtents_acceptedCommand {p : Port} {g code : Nat} {a b : Option Word} {s : State} (hok : GroupsOk s.groups)
    (hphase : (s.group g).phase ≠ .free) : boundExtents g (acceptedCommand p g code a b s).groups = boundExtents g s.groups := by
  have hlisted : ∃ gr, tfind g s.groups = some gr := by
    cases hf : tfind g s.groups with
    | some gr => exact ⟨gr, rfl⟩
    | none => exact absurd (by rw [State.group, tgetD, hf]; rfl) hphase
  obtain ⟨gr, hf⟩ := hlisted
  have hgroup : s.group g = gr := by rw [State.group, tgetD, hf]; rfl
  have hne : (s.group g).withArgs code a b ≠ {} := fun h => hphase (congrArg Group.phase h)
  rw [groups_acceptedCommand, tset, if_neg hne]
  exact boundExtents_tput hok.1 hf (congrArg Group.extents hgroup :)

theorem lowestBound_of_extents {s t : State} {g : Nat} (h : boundExtents g t.groups = boundExtents g s.groups) (first n : Nat) :
    t.lowestBound g first n = s.lowestBound g first n := congrArg (fun l : List (List (Nat × Nat)) => lowestShared first n l.flatten) h

theorem claimedPages_of_extents {s t : State} {g : Nat} (h : boundExtents g t.groups = boundExtents g s.groups) :
    t.claimedPages g = s.claimedPages g := by
  have heq (u : State) : u.claimedPages g = (boundExtents g u.groups).foldl (fun n l => l.foldl (fun m x => m + x.2) n) 0 := by
    rw [boundExtents, List.foldl_map]
    rfl
  rw [heq, heq, h]

theorem Completes.mono {c : Instr} {s : State} {P Q : State → Prop} (h : Completes c s P) (hPQ : ∀ t, P t → Q t) : Completes c s Q :=
  h.imp fun t ht => ⟨ht.1, hPQ t ht.2⟩

/-- Settles O24: a group command is judged in the state that has its arguments (`acceptedCommand`), which a BIND finds as the state before it, and
then stands in its group's hand (`Group.inHand`). -/
theorem groupCommandsTakeEffect : Obligations.GroupCommandsTakeEffect := by
  intro s p tag g a b hok hopen hrests hengine hidle
  have htaken {c : Instr} {code status : Nat} (hc : exec c s = .next (groupCommandWrite p tag g.val code a b s)) (hcode : code < 256) :=
    groupCommand_takenUp (status := status) hc g.isLt hcode hopen hrests hengine hidle
  have hstands (code : Nat) := group_acceptedCommand_keeps p g.val code a b s
  have hends {code : Nat} (hcode : code = codeCommit ∨ code = codeAbort) (hopened : (s.group g.val).phase = .opened)
      (hown : (s.group g.val).owner = p) :=
    judgeGroup_end (c := (s.group g.val).commandOf p code a b s.nextSeq) hcode ((hstands code).1.trans hopened) ((hstands code).2.1.trans hown)
  refine ⟨fun hfree hlimit hoverride => ?_, fun hopened hown hargs hroom honline hunbound hpages => ?_, fun hopened hown => ?_,
    fun hopened hown => ?_, fun hended => ?_, fun code hcode => ?_⟩
  · have hlow : (a.getD (s.group g.val).argA &&& argumentMask codeOpen).getLsbD 0 = false := by rw [BitVec.getLsbD_and, hoverride, Bool.false_and]
    exact (htaken rfl (by decide) (judgeGroup_open rfl ((hstands codeOpen).1.trans hfree) hlimit hlow)).mono fun _ => And.left
  · obtain ⟨hphase, howner, hextents⟩ := hstands codeBind
    obtain ⟨hstart, hargs'⟩ := bind_masked (a.getD (s.group g.val).argA) (b.getD (s.group g.val).argB)
    have hregs := regionRegs_acceptedCommand p g.val codeBind a b s
    have hbound := boundExtents_acceptedCommand (p := p) (code := codeBind) (a := a) (b := b) hok (by rw [hopened]; decide)
    refine (htaken rfl (by decide) (judgeGroup_bind rfl (hphase.trans hopened) (howner.trans hown) (hargs'.trans hargs) (hextents ▸ hroom)
      ?_ ?_ ?_)).mono fun _ => And.left
    · exact (lowestOffline_of_regs hregs _ _).trans (hstart ▸ honline)
    · exact (lowestBound_of_extents hbound _ _).trans (hstart ▸ hunbound)
    · exact claimedPages_of_extents hbound ▸ hpages
  · exact htaken rfl (by decide) (hends (.inl rfl) hopened hown)
  · exact (htaken rfl (by decide) (hends (.inr rfl) hopened hown)).mono fun _ => And.left
  · exact (htaken rfl (by decide) (judgeGroup_release rfl ((hstands codeRelease).1 ▸ hended))).mono fun _ => And.left
  · exact (htaken rfl code.isLt (judgeGroup_unassigned hcode)).mono fun _ => And.left

end Sys2Proof.Machine
end

section
/-! SUPPORT. What the journal writes: its records, the rows that hold them with the units of those rows, the integrity entries, and reports.
Everything else of the state (`unjournaled`) stands, the states of the dies, the delta map and the ports' queues among it (R144, R152, R315). -/

namespace Sys2Proof.Machine

/-- The state without what reports and the journal write, and the states of the dies, which stand. -/
def unjournaled (s : State) : State × (Nat → Nat) :=
  ({ unreported s with
    xlat := { s.xlat with journal := [], journalRows := 0, journalSequence := 0 }
    med := { s.med with units := [], clusterPrograms := [], health := 0, rows := [] }
    integ := { s.integ with entries := [], covered := 0, chain := 0, sequence := 0, cache := [] } }, s.dieState)

theorem unjournaled_of_unreported {s t : State} (h : unreported t = unreported s) (hdie : ∀ d, t.dieState d = s.dieState d) :
    unjournaled t = unjournaled s := by
  have hx : t.xlat = s.xlat := (congrArg (fun u : State => u.xlat) h :)
  have hm : t.med = s.med := (congrArg (fun u : State => u.med) h :)
  have hi : t.integ = s.integ := (congrArg (fun u : State => u.integ) h :)
  unfold unjournaled
  rw [h, hx, hm, hi, funext hdie]

theorem unjournaled_ite (c : Prop) [Decidable c] (a b : State) : unjournaled (if c then a else b) = if c then unjournaled a else unjournaled b := by
  split <;> rfl

theorem unjournaled_foldl {α : Type} (f : State → α → State) (h : ∀ t a, unjournaled (f t a) = unjournaled t) (l : List α) (s : State) :
    unjournaled (l.foldl f s) = unjournaled s := by
  induction l generalizing s with
  | nil => rfl
  | cons a l ih => exact (ih _).trans (h s a)

/-! ### Reports and registers -/

theorem not_reportKey_dieKey (d : Nat) {sub : Nat} (h : sub < 256) : ¬reportKey (dieKey d sub) := by
  unfold dieKey reportKey
  omega

theorem unjournaled_raise (src : Nat) (s : State) : unjournaled (raise src s) = unjournaled s :=
  unjournaled_of_unreported (unreported_raise src s) fun d => get_raise (not_reportKey_dieKey d (by decide))

theorem unjournaled_count (code q n : Nat) (s : State) : unjournaled (count code q n s) = unjournaled s :=
  unjournaled_of_unreported (unreported_count code q n s) fun d => get_count (not_reportKey_dieKey d (by decide))

theorem unjournaled_put {k : Nat} (hk : ∀ d, dieKey d 0x01 ≠ k) (v : Nat) (s : State) : unjournaled (s.put k v) = unjournaled s :=
  unjournaled_of_unreported (unreported_put s k v) fun d => get_put_ne (hk d) v

theorem unjournaled_addTo {k : Nat} (hk : ∀ d, dieKey d 0x01 ≠ k) (n : Nat) (s : State) : unjournaled (s.addTo k n) = unjournaled s :=
  unjournaled_put hk _ s

theorem unjournaled_bump {k : Nat} (hk : ∀ d, dieKey d 0x01 ≠ k) (s : State) : unjournaled (s.bump k) = unjournaled s := unjournaled_put hk _ s

theorem unjournaled_raiseTo {k : Nat} (hk : ∀ d, dieKey d 0x01 ≠ k) (v : Nat) (s : State) : unjournaled (s.raiseTo k v) = unjournaled s := by
  unfold State.raiseTo
  simp only [unjournaled_ite, unjournaled_put hk, ite_self]

theorem unjournaled_takeStamp (s : State) : unjournaled (takeStamp s) = unjournaled s :=
  unjournaled_of_unreported (unreported_takeStamp s) fun d => get_takeStamp fun h => not_reportKey_dieKey d (sub := 0x01) (by decide) (.inl h)

/-! ### Programs of journal sectors -/

theorem unjournaled_noteHealth (s : State) : unjournaled (noteHealth s) = unjournaled s := by
  have hraise (h : Nat) : unjournaled (raise 247 { s with med := { s.med with health := h } }) = unjournaled s :=
    (unjournaled_raise 247 _).trans rfl
  unfold noteHealth
  simp only [unjournaled_ite, hraise, ite_self]

theorem unjournaled_records (s : State) (l : List JournalRec) : unjournaled { s with xlat := { s.xlat with journal := l } } = unjournaled s := (rfl)

theorem unjournaled_appendRecord (k : JournalKind) (s : State) : unjournaled (appendRecord k s) = unjournaled s :=
  (unjournaled_records _ _).trans (unjournaled_takeStamp s)

theorem unjournaled_setUnit (s : State) (u : Nat) (r : UnitRec) : unjournaled (s.setUnit u r) = unjournaled s := (rfl)

theorem unjournaled_addCycles (u n : Nat) (s : State) : unjournaled (addCycles u n s) = unjournaled s := (rfl)

theorem unjournaled_clusterPrograms (s : State) (t : Tbl Nat) :
    unjournaled { s with med := { s.med with clusterPrograms := t } } = unjournaled s := (rfl)

theorem unjournaled_disturb (u n : Nat) (s : State) : unjournaled (disturb u n s) = unjournaled s :=
  (unjournaled_clusterPrograms _ _).trans (unjournaled_setUnit s u _)

theorem unjournaled_wearOut (u : Nat) (s : State) : unjournaled (wearOut u s) = unjournaled s := by
  have hdies (d : Nat) : dieKey d 0x01 ≠ 0x619004 ∧ dieKey d 0x01 ≠ dieKey (dieOfUnit u) 0x02 := by
    unfold dieKey
    omega
  unfold wearOut
  simp only [unjournaled_ite, unjournaled_noteHealth, unjournaled_raise, unjournaled_bump fun d => (hdies d).1,
    unjournaled_bump fun d => (hdies d).2, unjournaled_appendRecord, unjournaled_setUnit, ite_self]

theorem unjournaled_sectorsProgrammed (u n page : Nat) (s : State) : unjournaled (sectorsProgrammed u n page s) = unjournaled s := by
  unfold sectorsProgrammed
  simp only [unjournaled_ite, unjournaled_wearOut, unjournaled_addCycles, unjournaled_setUnit, unjournaled_disturb, unjournaled_count,
    ite_self]

theorem unjournaled_programsRun (kind : OpKind) (u n bytes : Nat) (s : State) : unjournaled (programsRun kind u n bytes s) = unjournaled s := by
  have hcharge (d : Nat) : dieKey d 0x01 ≠ 0x611003 := by
    unfold dieKey
    omega
  have hchannel (c sub d : Nat) (hsub : sub < 256) : dieKey d 0x01 ≠ channelKey c sub := by
    unfold dieKey channelKey
    omega
  unfold programsRun
  simp only [unjournaled_ite, unjournaled_raiseTo hcharge, unjournaled_raiseTo fun d => hchannel _ 0x03 d (by decide), unjournaled_count,
    unjournaled_addTo fun d => hchannel _ 0x01 d (by decide), ite_self]

theorem unjournaled_stripeSectors (g : Ring) (stripe row n : Nat) (s : State) : unjournaled (stripeSectors g stripe row n s) = unjournaled s := by
  have hsector (u n page : Nat) (t : State) : unjournaled (ringSectorsOn u n page t) = unjournaled t :=
    (unjournaled_sectorsProgrammed _ _ _ _).trans (unjournaled_programsRun _ _ _ _ _)
  unfold stripeSectors
  simp only [unjournaled_ite, hsector, unjournaled_foldl _ (fun t a => hsector _ _ _ t), ite_self]

theorem unjournaled_ringSectors (g : Ring) (stripes row n : Nat) (s : State) : unjournaled (ringSectors g stripes row n s) = unjournaled s := by
  induction stripes generalizing row n s with
  | zero => rfl
  | succ stripes ih =>
    unfold ringSectors
    simp only [unjournaled_ite, ih, unjournaled_stripeSectors, ite_self]

theorem unjournaled_journalSectors (n : Nat) (s : State) : unjournaled (journalSectors n s) = unjournaled s := by
  have h := unjournaled_ringSectors .journal (n / 122880 + 2) s.xlat.journalRows n s
  unfold journalSectors
  simp only [unjournaled_ite]
  exact (congrArg (ite _ _) h).trans (ite_self _)

theorem unjournaled_programSector (s : State) : unjournaled (programSector s) = unjournaled s := unjournaled_journalSectors 1 _

theorem unjournaled_coverJournal (s : State) : unjournaled (coverJournal s) = unjournaled s := by
  unfold coverJournal
  simp only [unjournaled_ite]
  exact ite_self _

theorem unjournaled_programEntries (s : State) : unjournaled (programEntries s) = unjournaled s := by
  have h (n : Nat) : unjournaled ((List.range n).foldl (fun t _ => programSector t) (coverJournal s)) = unjournaled s :=
    (unjournaled_foldl _ (fun t _ => unjournaled_programSector t) _ _).trans (unjournaled_coverJournal s)
  unfold programEntries
  simp only [unjournaled_ite, unjournaled_coverJournal]
  exact (congrArg (ite _ _) (h _)).trans (ite_self _)

theorem unjournaled_programTail (s : State) : unjournaled (programTail s) = unjournaled s := by
  have h (t : State) : unjournaled (programJournal t) = unjournaled t := unjournaled_journalSectors _ _
  exact (unjournaled_programEntries _).trans ((h _).trans (h s))

theorem unjournaled_journalPut (k : JournalKind) (s : State) : unjournaled (journalPut k s) = unjournaled s := by
  unfold journalPut
  simp only [unjournaled_ite, unjournaled_programTail, unjournaled_appendRecord, ite_self]

/-! ### What stands -/

theorem delta_of_unjournaled {s t : State} (h : unjournaled t = unjournaled s) : t.xlat.delta = s.xlat.delta :=
  (congrArg (fun u => u.1.xlat.delta) h :)

theorem rebuildDies_of_unjournaled {s t : State} (h : unjournaled t = unjournaled s) : t.med.rebuildDies = s.med.rebuildDies :=
  (congrArg (fun u => u.1.med.rebuildDies) h :)

theorem dieState_of_unjournaled {s t : State} (h : unjournaled t = unjournaled s) (d : Nat) : t.dieState d = s.dieState d :=
  congrFun (congrArg Prod.snd h) d

theorem ingress_of_unjournaled {s t : State} (h : unjournaled t = unjournaled s) (p : Port) : (t.port p).ingress = (s.port p).ingress := by
  cases p
  · exact (congrArg (fun u => u.1.portA.ingress) h :)
  · exact (congrArg (fun u => u.1.portB.ingress) h :)

end Sys2Proof.Machine
end

section
/-! SUPPORT. Write groups as they end: what a discard and a commit do to provisional lines, staged and logged, and how a command finishes (R116, R119,
R120, R125, R130, R131, R132, R140). -/

namespace Sys2Proof.Machine

/-! ### Provisional lines -/

/-- A group has no provisional line, staged or logged. -/
def NoProvisional (g : Nat) (s : State) : Prop := (∀ l ∈ s.staging, l.grp ≠ some g) ∧ ∀ d ∈ s.xlat.delta, d.grp ≠ some g

theorem NoProvisional.keeps {g : Nat} {s t : State} (h : NoProvisional g s) (hs : t.staging = s.staging) (hd : t.xlat.delta = s.xlat.delta) :
    NoProvisional g t := by
  rw [NoProvisional, hs, hd]
  exact h

/-- A discard of its provisional versions leaves a group none (R132). -/
theorem noProvisional_discardProvisional (g : Nat) (s : State) : NoProvisional g (discardProvisional g s) := by
  have hend (l : List (Port × Nat)) (u : State) : Keeps 0x380000264 u (sendCmps l (rearmStall u)) :=
    fr_sendCmps rfl _ (fr_rearmStall rfl (keeps_refl _ u))
  unfold discardProvisional NoProvisional
  rw [(hend _ _).staging rfl, (hend _ _).xlat rfl]
  exact ⟨fun l hl => by simpa using (List.mem_filter.mp hl).2, fun d hd => by simpa using (List.mem_filter.mp hd).2⟩

/-- The pool's report leaves every line where it is. -/
theorem delta_checkPool (s : State) : (checkPool s).xlat.delta = s.xlat.delta := by
  unfold checkPool
  simp only
  split
  · split
    · rfl
    · rfl
  · split
    · rw [xlat_raise]
    · rfl

theorem staging_checkPool (s : State) : (checkPool s).staging = s.staging := (fr_checkPool (μ := kf_checkPool) rfl (keeps_refl _ s)).staging rfl

theorem group_checkPool (s : State) (g : Nat) : (checkPool s).group g = s.group g :=
  group_keeps (fr_checkPool (μ := kf_checkPool) rfl (keeps_refl _ s)) rfl g

theorem keeps_journalPut (k : JournalKind) (s : State) : Keeps kf_journalPut s (journalPut k s) := fr_journalPut rfl k (keeps_refl _ s)

theorem delta_journalPut (k : JournalKind) (s : State) : (journalPut k s).xlat.delta = s.xlat.delta :=
  delta_of_unjournaled (unjournaled_journalPut k s)

theorem group_journalPut (k : JournalKind) (s : State) (g : Nat) : (journalPut k s).group g = s.group g :=
  group_keeps (keeps_journalPut k s) rfl g

theorem staging_journalPut (k : JournalKind) (s : State) : (journalPut k s).staging = s.staging := (keeps_journalPut k s).staging rfl

/-! ### The effect of a command -/

/-- A group's context after the effect of a command that finishes with status 0, in a state `s` (R120, R125). -/
def Group.after (gr : Group) (c : GroupCommand) (s : State) : Group :=
  if c.code = codeOpen then
    { gr with
      phase := .opened, owner := c.port, override := c.a.getLsbD 0, conflict := false, conflictPage := 0, fenced := false,
      endCause := 0, extents := [], limit := if c.b.toNat = 0 then s.get 0x500101 else c.b.toNat,
      generation := gr.generation + 1, openStamp := s.stampNow, commitStamp := 0, prov := [], provCount := 0 }
  else if c.code = codeBind then { gr with extents := gr.extents ++ [(bindStart c.a, bindPages c.b)] }
  else if c.code = codeAbort then { gr with phase := .aborted, endCause := 1, extents := [], prov := [] }
  else if c.code = codeRelease then
    { gr with
      phase := .free, owner := .a, override := false, conflict := false, conflictPage := 0, fenced := false, endCause := 0,
      extents := [], provCount := 0, commitStamp := 0 }
  else gr

theorem group_applyCommand (g : Nat) (c : GroupCommand) (s : State) : (applyCommand g c s).group g = (s.group g).after c s := by
  have htail (u : State) : (programTail u).group g = u.group g := group_keeps (fr_programTail (μ := kf_programTail) rfl (keeps_refl _ u)) rfl g
  have hbump (k : Nat) (u : State) : (u.bump k).group g = u.group g := group_keeps (fr_bump (μ := kf_bump) rfl k (keeps_refl _ u)) rfl g
  unfold applyCommand Group.after
  simp only
  split
  · exact (htail _).trans (group_setGroup_self _ _ _)
  split
  · exact (group_journalPut _ _ g).trans (group_setGroup_self _ _ _)
  split
  · exact (group_journalPut _ _ g).trans ((hbump _ _).trans ((group_checkPool _ g).trans (group_setGroup_self _ _ _)))
  split
  · exact (group_journalPut _ _ g).trans (group_setGroup_self _ _ _)
  · rfl

/-- The effect of an ABORT leaves the group no provisional line (R132). -/
theorem noProvisional_applyCommand_abort (g : Nat) {c : GroupCommand} (hcode : c.code = codeAbort) (s : State) :
    NoProvisional g (applyCommand g c s) := by
  have hrun : applyCommand g c s = journalPut (.groupAbort (groupTag g (s.group g)) 1 (s.group g).prov.length)
      ((checkPool ((discardProvisional g s).setGroup g
        { s.group g with phase := .aborted, endCause := 1, extents := [], prov := [] })).bump 0x502005) := by
    unfold applyCommand
    rw [if_neg (by rw [hcode]; decide), if_neg (by rw [hcode]; decide), if_pos hcode]
  rw [hrun]
  refine (noProvisional_discardProvisional g s).keeps ?_ ?_
  · rw [staging_journalPut, staging_bump, staging_checkPool]
    rfl
  · rw [delta_journalPut, xlat_bump, delta_checkPool]
    rfl

/-! ### The end of a command -/

/-- What waits for the queue of a port stands: its ingress. -/
def SameIngress (s t : State) : Prop := ∀ p, (t.port p).ingress = (s.port p).ingress

theorem SameIngress.trans {r s t : State} (h : SameIngress r s) (g : SameIngress s t) : SameIngress r t := fun p => (g p).trans (h p)

theorem sameIngress_cond {r a b : State} {c : Prop} [Decidable c] (ha : SameIngress r a) (hb : SameIngress r b) :
    SameIngress r (if c then a else b) := by
  split <;> assumption

theorem sameIngress_keeps {μ : Nat} {s t : State} (h : Keeps μ s t) (ha : μ.testBit 5 = false) (hb : μ.testBit 6 = false) : SameIngress s t :=
  fun p => congrArg PortState.ingress (port_keeps h ha hb p)

theorem sameIngress_journalPut (k : JournalKind) (s : State) : SameIngress s (journalPut k s) := ingress_of_unjournaled (unjournaled_journalPut k s)

theorem sameIngress_programTail (s : State) : SameIngress s (programTail s) := ingress_of_unjournaled (unjournaled_programTail s)

theorem sameIngress_setGroup (g : Nat) (v : Group) (s : State) : SameIngress s (s.setGroup g v) := fun p => by cases p <;> rfl

theorem sameIngress_checkPool (s : State) : SameIngress s (checkPool s) := by
  have hpool (b : Bool) : SameIngress s { s with xlat := { s.xlat with poolAbove := b } } := fun p => by cases p <;> rfl
  have hraise (u : State) : SameIngress u (raise 74 u) := fun p => (on_raise 74 (on_refl u)).ingress
  unfold checkPool
  exact sameIngress_cond (sameIngress_cond (hpool _) fun _ => rfl) (sameIngress_cond ((hpool _).trans (hraise _)) fun _ => rfl)

theorem sameIngress_discardProvisional (g : Nat) (s : State) : SameIngress s (discardProvisional g s) := by
  have hsend (l : List (Port × Nat)) (u : State) : SameIngress u (sendCmps l u) := fun p =>
    (on_foldl (fun _ e ht => on_sendCmp e.1 e.2 ht) l (on_refl u)).ingress
  have hrearm (u : State) : SameIngress u (rearmStall u) := sameIngress_keeps (fr_rearmStall (μ := kf_rearmStall) rfl (keeps_refl _ u)) rfl rfl
  unfold discardProvisional
  refine SameIngress.trans (SameIngress.trans ?_ (hrearm _)) (hsend _ _)
  exact fun p => by cases p <;> rfl

/-- The effect of a command moves no port's queue. -/
theorem sameIngress_applyCommand (g : Nat) (c : GroupCommand) (s : State) : SameIngress s (applyCommand g c s) := by
  have hbump (k : Nat) (u : State) : SameIngress u (u.bump k) := fun p => by cases p <;> rfl
  unfold applyCommand
  exact sameIngress_cond (((sameIngress_journalPut _ _).trans (sameIngress_setGroup _ _ _)).trans (sameIngress_programTail _))
    (sameIngress_cond ((sameIngress_setGroup _ _ _).trans (sameIngress_journalPut _ _))
    (sameIngress_cond (((((sameIngress_discardProvisional _ _).trans (sameIngress_setGroup _ _ _)).trans (sameIngress_checkPool _)).trans
      (hbump _ _)).trans (sameIngress_journalPut _ _))
    (sameIngress_cond ((sameIngress_setGroup _ _ _).trans (sameIngress_journalPut _ _)) fun _ => rfl)))

theorem sameIngress_wakeDiscard (q : Port) (s : State) : SameIngress s (wakeDiscard q s) := by
  have hmod (f : PortState → PortState) (hf : ∀ v, (f v).ingress = v.ingress) : SameIngress s (s.modPort q f) :=
    fun p => (on_modPort q f hf (on_refl s)).ingress
  unfold wakeDiscard
  exact sameIngress_cond (hmod _ fun v => by split <;> rfl) fun _ => rfl

/-- A group's context once its running command has the result word `w` (R116). -/
def Group.answered (gr : Group) (w : Nat) : Group := { gr with running := none, result := w }

theorem answered_inHand (gr : Group) (w : Nat) : (gr.answered w).waiting = gr.waiting ∧ (gr.answered w).readers = gr.readers := ⟨rfl, rfl⟩

theorem group_raiseTo (k v : Nat) (s : State) (g : Nat) : (s.raiseTo k v).group g = s.group g :=
  group_keeps (fr_raiseTo (μ := kf_raiseTo) rfl _ _ (keeps_refl _ s)) rfl g

theorem group_raiseTo_ite (p : Prop) [Decidable p] (k v : Nat) (s : State) (g : Nat) : (if p then s.raiseTo k v else s).group g = s.group g := by
  split
  · exact group_raiseTo k v s g
  · rfl

/-- Where no forced abort waits, the result word is all that the end of a command writes in its group. -/
theorem writeResult_unforced {s : State} {g : Nat} (h : (s.group g).pendingForce = none) (c : GroupCommand) :
    (writeResult g c s).group g = (s.group g).answered (resultWord c.status (c.code % 256) (s.group g).phase.code c.detail) ∧
      Keeps 0x20060 s (writeResult g c s) ∧ SameIngress s (writeResult g c s) := by
  have hset (v : Group) : Keeps 0x20060 s (s.setGroup g v) := fr_setGroup rfl g v (keeps_refl _ s)
  simp only [writeResult, group_raiseTo_ite, group_setGroup_self, h]
  refine ⟨?_, ?_, ?_⟩
  · simp only [Group.answered, h]
  · exact fr_cond (fr_raiseTo rfl _ _ (hset _)) (hset _)
  · exact sameIngress_cond ((sameIngress_setGroup _ _ _).trans fun p => (on_raiseTo _ _ (on_refl _)).ingress) (sameIngress_setGroup _ _ _)

theorem startNext_of_none {s : State} {g : Nat} (h : (s.group g).waiting = []) : startNext g s = s := by simp only [startNext, h]

theorem answerReaders_of_none {s : State} {g : Nat} (h : (s.group g).readers = []) : answerReaders g s = s.setGroup g (s.group g) := by
  have hgroup : { s.group g with readers := [] } = s.group g := by rw [← h]
  simp only [answerReaders, h, List.filter_nil, List.foldl_nil, hgroup]

theorem group_after_inHand (gr : Group) (c : GroupCommand) (s : State) :
    (gr.after c s).waiting = gr.waiting ∧ (gr.after c s).readers = gr.readers ∧ (gr.after c s).pendingForce = gr.pendingForce := by
  unfold Group.after
  repeat' split
  all_goals exact ⟨rfl, rfl, rfl⟩

/-- The state in which a command that finishes writes its result word: a command with status 0 has had its effect (R119). -/
def appliedIfOk (g : Nat) (c : GroupCommand) (s : State) : State := if c.status = 0 then applyCommand g c s else s

theorem finishCommand_of_running {s : State} {g : Nat} {c : GroupCommand} (h : (s.group g).running = some c) :
    finishCommand g s = wakeDiscard .b (wakeDiscard .a (answerReaders g (startNext g (writeResult g c (appliedIfOk g c s))))) := by
  simp only [finishCommand, h, appliedIfOk]

theorem appliedIfOk_inHand (s : State) (g : Nat) (c : GroupCommand) :
    ((appliedIfOk g c s).group g).waiting = (s.group g).waiting ∧ ((appliedIfOk g c s).group g).readers = (s.group g).readers ∧
      ((appliedIfOk g c s).group g).pendingForce = (s.group g).pendingForce := by
  unfold appliedIfOk
  split
  · rw [group_applyCommand]
    exact group_after_inHand (s.group g) c s
  · exact ⟨rfl, rfl, rfl⟩

/-- A group whose only command finishes, with no reader and no forced abort: the effect, then the result word (R116, R119). -/
theorem finishCommand_alone {s : State} {g : Nat} {c : GroupCommand} (hrun : (s.group g).running = some c) (hwait : (s.group g).waiting = [])
    (hread : (s.group g).readers = []) (hforce : (s.group g).pendingForce = none) :
    (finishCommand g s).group g = ((appliedIfOk g c s).group g).answered
      (resultWord c.status (c.code % 256) ((appliedIfOk g c s).group g).phase.code c.detail) ∧ Keeps 0x20060 (appliedIfOk g c s) (finishCommand g s) ∧
      SameIngress s (finishCommand g s) := by
  have happlied : SameIngress s (appliedIfOk g c s) := sameIngress_cond (sameIngress_applyCommand g c s) fun _ => rfl
  obtain ⟨hw, hr, hf⟩ := appliedIfOk_inHand s g c
  obtain ⟨hgroup, hkeeps, hingress⟩ := writeResult_unforced (hf.trans hforce) c
  rw [finishCommand_of_running hrun]
  generalize writeResult g c (appliedIfOk g c s) = u at hgroup hkeeps hingress ⊢
  have hnext : startNext g u = u := startNext_of_none (by rw [hgroup, (answered_inHand _ _).1, hw, hwait])
  have hreaders : answerReaders g u = u.setGroup g (u.group g) := answerReaders_of_none (by rw [hgroup, (answered_inHand _ _).2, hr, hread])
  rw [hnext, hreaders]
  have hwake (v : State) : Keeps kf_wakeDiscard v (wakeDiscard .b (wakeDiscard .a v)) :=
    fr_wakeDiscard rfl .b (fr_wakeDiscard rfl .a (keeps_refl _ v))
  refine ⟨?_, ?_, ?_⟩
  · exact (group_keeps (hwake _) rfl g).trans ((group_setGroup_self _ _ _).trans hgroup)
  · exact fr_wakeDiscard rfl .b (fr_wakeDiscard rfl .a (fr_setGroup rfl g _ hkeeps))
  · exact (happlied.trans (hingress.trans (sameIngress_setGroup _ _ _))).trans
      ((sameIngress_wakeDiscard .a _).trans (sameIngress_wakeDiscard .b _))

theorem SameIngress.nothingWaits {s t : State} (h : SameIngress s t) {p : Port} (hs : NothingWaits s p) : NothingWaits t p := by
  have hp := h p
  simp only [PortState.ingress, Prod.mk.injEq] at hp
  obtain ⟨-, hd, hw, hf, hc, -⟩ := hp
  rw [NothingWaits, hd, hw, hf, hc]
  exact hs

theorem group_appliedIfOk {s : State} {g : Nat} {c : GroupCommand} (h : c.status = 0) : (appliedIfOk g c s).group g = (s.group g).after c s := by
  rw [appliedIfOk, if_pos h, group_applyCommand]

/-- The phase of a group stands under a command that is refused, and under a COMMIT, whose instant has given it (R120, R131). -/
theorem phase_appliedIfOk {s : State} {g : Nat} {c : GroupCommand} (h : c.status ≠ 0 ∨ c.code = codeCommit) :
    ((appliedIfOk g c s).group g).phase = (s.group g).phase := by
  by_cases hstatus : c.status = 0
  · have hcode := h.resolve_left (not_not_intro hstatus)
    rw [group_appliedIfOk hstatus, Group.after, if_neg (by rw [hcode]; decide), if_neg (by rw [hcode]; decide), if_neg (by rw [hcode]; decide),
      if_neg (by rw [hcode]; decide)]
  · rw [appliedIfOk, if_neg hstatus]

/-- A group command that finishes with nothing else in hand (R116, R119). -/
theorem completes_groupCommandFinish {s : State} {g : Fin 262144} {c : GroupCommand} (hruns : s.groupsRun = true) (hfin : s.canFinish g.val = true)
    (hrun : (s.group g.val).running = some c) (hwait : (s.group g.val).waiting = []) (hread : (s.group g.val).readers = [])
    (hforce : (s.group g.val).pendingForce = none) (hrests : ∀ p, NothingWaits s p) {P : State → Prop}
    (hP : ∀ t, t.group g.val = ((appliedIfOk g.val c s).group g.val).answered
      (resultWord c.status (c.code % 256) ((appliedIfOk g.val c s).group g.val).phase.code c.detail) →
      Keeps 0x20060 (appliedIfOk g.val c s) t → P t) : Completes (.groupCommandFinish g) s P := by
  obtain ⟨hgroup, hkeeps, hingress⟩ := finishCommand_alone hrun hwait hread hforce
  refine ⟨finishCommand g.val s, ?_, hP _ hgroup hkeeps⟩
  have hexec : exec (.groupCommandFinish g) s = .next (goOn .b (goOn .a (finishCommand g.val s))) := by
    show execGroupCommandFinish g s = _
    rw [execGroupCommandFinish, hruns, hfin, Bool.and_self, if_pos rfl]
  rw [hexec, goOn_of_rests (hingress.nothingWaits (hrests .a)), goOn_of_rests (hingress.nothingWaits (hrests .b))]

/-- What the effect of a command of each code leaves of its group's context (R120, R125). -/
theorem after_open {gr : Group} {c : GroupCommand} {s : State} (h : c.code = codeOpen) :
    (gr.after c s).phase = .opened ∧ (gr.after c s).owner = c.port ∧ (gr.after c s).generation = gr.generation + 1 ∧
      (gr.after c s).openStamp = s.nextStamp ∧ (gr.after c s).extents = [] := by
  rw [Group.after, if_pos h]
  exact ⟨rfl, rfl, rfl, rfl, rfl⟩

theorem after_bind {gr : Group} {c : GroupCommand} {s : State} (h : c.code = codeBind) :
    (gr.after c s).extents = gr.extents ++ [(bindStart c.a, bindPages c.b)] := by
  rw [Group.after, if_neg (by rw [h]; decide), if_pos h]

theorem after_abort {gr : Group} {c : GroupCommand} {s : State} (h : c.code = codeAbort) :
    (gr.after c s).phase = .aborted ∧ (gr.after c s).endCause = 1 ∧ (gr.after c s).extents = [] := by
  rw [Group.after, if_neg (by rw [h]; decide), if_neg (by rw [h]; decide), if_pos h]
  exact ⟨rfl, rfl, rfl⟩

theorem after_release {gr : Group} {c : GroupCommand} {s : State} (h : c.code = codeRelease) :
    (gr.after c s).phase = .free ∧ (gr.after c s).fenced = false ∧ (gr.after c s).extents = [] := by
  rw [Group.after, if_neg (by rw [h]; decide), if_neg (by rw [h]; decide), if_neg (by rw [h]; decide), if_pos h]
  exact ⟨rfl, rfl, rfl⟩

/-- The result word leaves the rest of what the commands write. -/
theorem answered_context (gr : Group) (w : Nat) : (gr.answered w).running = none ∧ (gr.answered w).result = w ∧
    (gr.answered w).phase = gr.phase ∧ (gr.answered w).owner = gr.owner ∧ (gr.answered w).generation = gr.generation ∧
    (gr.answered w).openStamp = gr.openStamp ∧ (gr.answered w).extents = gr.extents ∧ (gr.answered w).endCause = gr.endCause ∧
    (gr.answered w).fenced = gr.fenced := ⟨rfl, rfl, rfl, rfl, rfl, rfl, rfl, rfl, rfl⟩

/-- A group's only command finishes (R116, R119, R120, R125). -/
theorem group_command_finishes {s : State} {g : Fin 262144} {c : GroupCommand} (hruns : s.groupsRun = true) (hfin : s.canFinish g.val = true)
    (hrun : (s.group g.val).running = some c) (hwait : (s.group g.val).waiting = []) (hread : (s.group g.val).readers = [])
    (hforce : (s.group g.val).pendingForce = none) (hrests : ∀ p, NothingWaits s p) :
    Completes (.groupCommandFinish g) s fun t =>
      (t.group g.val).running = none ∧
        (t.group g.val).result = resultWord c.status (c.code % 256) (t.group g.val).phase.code c.detail ∧
        (c.status ≠ 0 ∨ c.code = codeCommit → (t.group g.val).phase = (s.group g.val).phase) ∧
        (c.status = 0 → c.code = codeOpen → (t.group g.val).phase = .opened ∧ (t.group g.val).owner = c.port ∧
          (t.group g.val).generation = (s.group g.val).generation + 1 ∧ (t.group g.val).openStamp = s.nextStamp ∧
          (t.group g.val).extents = []) ∧
        (c.status = 0 → c.code = codeBind → (t.group g.val).extents = (s.group g.val).extents ++ [(bindStart c.a, bindPages c.b)]) ∧
        (c.status = 0 → c.code = codeAbort → (t.group g.val).phase = .aborted ∧ (t.group g.val).endCause = 1 ∧
          (t.group g.val).extents = [] ∧ (∀ l ∈ t.staging, l.grp ≠ some g.val) ∧ ∀ d ∈ t.xlat.delta, d.grp ≠ some g.val) ∧
        (c.status = 0 → c.code = codeRelease → (t.group g.val).phase = .free ∧ (t.group g.val).fenced = false ∧
          (t.group g.val).extents = []) := by
  refine completes_groupCommandFinish hruns hfin hrun hwait hread hforce hrests fun t hgroup hkeeps => ?_
  generalize hw : resultWord c.status (c.code % 256) ((appliedIfOk g.val c s).group g.val).phase.code c.detail = w at hgroup
  obtain ⟨hrunning, hresult, hphase, howner, hgeneration, hstamp, hextents, hcause, hfenced⟩ :=
    answered_context ((appliedIfOk g.val c s).group g.val) w
  rw [hgroup, hrunning, hresult, hphase, howner, hgeneration, hstamp, hextents, hcause, hfenced]
  refine ⟨rfl, hw.symm, fun h => phase_appliedIfOk h, fun hok h => ?_, fun hok h => ?_, fun hok h => ?_, fun hok h => ?_⟩
  · rw [group_appliedIfOk hok]
    exact after_open h
  · rw [group_appliedIfOk hok]
    exact after_bind h
  · have hnone : NoProvisional g.val t := by
      refine NoProvisional.keeps ?_ (hkeeps.staging rfl) (congrArg Translation.delta (hkeeps.xlat rfl))
      rw [appliedIfOk, if_pos hok]
      exact noProvisional_applyCommand_abort g.val h s
    rw [group_appliedIfOk hok]
    obtain ⟨hab, hend, hext⟩ := after_abort (gr := s.group g.val) (s := s) h
    exact ⟨hab, hend, hext, hnone⟩
  · rw [group_appliedIfOk hok]
    exact after_release h

end Sys2Proof.Machine
end

section
/-! SUPPORT. The commit instant (R130, R131, R140). -/
namespace Sys2Proof.Machine

/-- The staged lines and the delta map stand. -/
def SameLines (s t : State) : Prop := t.staging = s.staging ∧ t.xlat.delta = s.xlat.delta

theorem SameLines.trans {r s t : State} (h : SameLines r s) (g : SameLines s t) : SameLines r t := ⟨g.1.trans h.1, g.2.trans h.2⟩

theorem sameLines_keeps {μ : Nat} {s t : State} (h : Keeps μ s t) (h7 : μ.testBit 7 = false) (h24 : μ.testBit 24 = false) : SameLines s t :=
  ⟨h.staging h7, congrArg Translation.delta (h.xlat h24)⟩

theorem sameLines_foldl {α : Type} {f : State → α → State} (h : ∀ t a, SameLines t (f t a)) (l : List α) (s : State) :
    SameLines s (l.foldl f s) := by
  induction l generalizing s with
  | nil => exact ⟨rfl, rfl⟩
  | cons a l ih => exact (h s a).trans (ih _)

theorem sameLines_journalPut (k : JournalKind) (s : State) : SameLines s (journalPut k s) := ⟨staging_journalPut k s, delta_journalPut k s⟩

theorem sameLines_checkPool (s : State) : SameLines s (checkPool s) := ⟨staging_checkPool s, delta_checkPool s⟩

theorem sameLines_bump (k : Nat) (s : State) : SameLines s (s.bump k) := ⟨staging_bump s k, congrArg Translation.delta (xlat_bump s k)⟩

theorem sameLines_setGroup (g : Nat) (v : Group) (s : State) : SameLines s (s.setGroup g v) :=
  sameLines_keeps (fr_setGroup (μ := kf_setGroup) rfl g v (keeps_refl _ s)) rfl rfl

theorem sameLines_count1 (code q : Nat) (s : State) : SameLines s (count1 code q s) :=
  sameLines_keeps (fr_count1 (μ := kf_count1) rfl code q (keeps_refl _ s)) rfl rfl

theorem sameLines_raise (src : Nat) (s : State) : SameLines s (raise src s) :=
  sameLines_keeps (fr_raise (μ := kf_raise) rfl src (keeps_refl _ s)) rfl rfl

theorem sameLines_sendCmps (l : List (Port × Nat)) (s : State) : SameLines s (sendCmps l s) :=
  sameLines_keeps (fr_sendCmps (μ := kf_sendCmps) rfl l (keeps_refl _ s)) rfl rfl

theorem sameLines_rearmStall (s : State) : SameLines s (rearmStall s) :=
  sameLines_keeps (fr_rearmStall (μ := kf_rearmStall) rfl (keeps_refl _ s)) rfl rfl

theorem sameLines_dropCached (line : Nat) (s : State) : SameLines s (dropCached line s) :=
  sameLines_keeps (fr_dropCached (μ := kf_dropCached) rfl line (keeps_refl _ s)) rfl rfl

theorem sameLines_pruneRanges (line : Nat) (s : State) : SameLines s (pruneRanges line s) :=
  sameLines_keeps (fr_pruneRanges (μ := kf_pruneRanges) rfl line (keeps_refl _ s)) rfl rfl

theorem sameLines_dirtySegment (seg : Nat) (s : State) : SameLines s (dirtySegment seg s) := by
  unfold dirtySegment
  split
  · exact ⟨rfl, rfl⟩
  · exact ⟨rfl, rfl⟩

theorem SameLines.noProvisional {s t : State} (h : SameLines s t) {g : Nat} (hs : NoProvisional g s) : NoProvisional g t := hs.keeps h.1 h.2

/-! ### The lines of a commit -/

/-- The delta entries of a group whose lines it has in the log alone. -/
def State.inLog (s : State) (g : Nat) : List Delta := s.xlat.delta.filter fun d => d.grp == some g && (s.logLinesOf g).contains d.line

theorem staging_commitLines (g stamp : Nat) (s : State) : (commitLines g stamp s).staging =
    (s.staging.filter fun l => l.grp != some g && !s.superseded g l) ++ (s.staging.filter fun l => l.grp == some g).map (s.commitStaged stamp) := by
  unfold commitLines
  simp only
  rw [(sameLines_foldl (fun t l => (sameLines_dirtySegment _ t).trans (sameLines_pruneRanges l _)) _ _).1,
    (sameLines_foldl (fun t l => sameLines_dropCached l t) _ _).1, (sameLines_rearmStall _).1]

theorem delta_commitLines (g stamp : Nat) (s : State) : (commitLines g stamp s).xlat.delta =
    (s.xlat.delta.filter fun d => d.grp != some g && !(d.grp == none && (s.logLinesOf g).contains d.line)) ++
      (s.inLog g).map fun d => { d with grp := none, stamp := stamp, tag := none } := by
  unfold commitLines
  simp only
  rw [(sameLines_foldl (fun t l => (sameLines_dirtySegment _ t).trans (sameLines_pruneRanges l _)) _ _).2,
    (sameLines_foldl (fun t l => sameLines_dropCached l t) _ _).2, (sameLines_rearmStall _).2, State.inLog]

/-- A commit leaves its group no provisional line. -/
theorem noProvisional_commitLines (g stamp : Nat) (s : State) : NoProvisional g (commitLines g stamp s) := by
  rw [NoProvisional, staging_commitLines, delta_commitLines]
  constructor
  · intro l hl
    rcases List.mem_append.mp hl with hl | hl
    · have hother := (List.mem_filter.mp hl).2
      simp only [Bool.and_eq_true, bne_iff_ne] at hother
      exact hother.1
    · obtain ⟨l, -, rfl⟩ := List.mem_map.mp hl
      exact (nofun : (none : Option Nat) ≠ some g)
  · intro d hd
    rcases List.mem_append.mp hd with hd | hd
    · have hother := (List.mem_filter.mp hd).2
      simp only [Bool.and_eq_true, bne_iff_ne] at hother
      exact hother.1
    · obtain ⟨d, -, rfl⟩ := List.mem_map.mp hd
      simp

/-- A staged line of the group becomes a committed one with the commit stamp, poisoned where it reads poisoned (R131, R140). -/
theorem staged_commitLines {g stamp : Nat} {s : State} {l : Staged} (hl : l ∈ s.staging) (hgrp : l.grp = some g) :
    ∃ l' ∈ (commitLines g stamp s).staging, l'.line = l.line ∧ l'.grp = none ∧ l'.stamp = stamp ∧
      l'.poison = (l.poison || s.rangePoisons l.line l.stamp) ∧ l'.data = if l'.poison then 0 else l.data := by
  refine ⟨s.commitStaged stamp l, ?_, rfl, rfl, rfl, rfl, rfl⟩
  rw [staging_commitLines]
  refine List.mem_append_right _ (List.mem_map_of_mem (List.mem_filter.mpr ⟨hl, ?_⟩))
  rw [hgrp, beq_self_eq_true]

/-- A line that the group has in the log alone becomes a committed one with the commit stamp where it lies (R131). -/
theorem logged_commitLines {g stamp : Nat} {s : State} {d : Delta} (hd : d ∈ s.xlat.delta) (hgrp : d.grp = some g)
    (halone : ∀ l ∈ s.staging, l.grp = some g → l.line ≠ d.line) :
    ∃ d' ∈ (commitLines g stamp s).xlat.delta, d'.line = d.line ∧ d'.grp = none ∧ d'.place = d.place ∧ d'.stamp = stamp := by
  have hunstaged : d.line ∉ s.stagedLinesOf g := by
    intro h
    obtain ⟨l, hl, hline⟩ := List.mem_map.mp h
    obtain ⟨hmem, hg⟩ := List.mem_filter.mp hl
    exact halone l hmem (beq_iff_eq.mp hg) hline
  have hline : d.line ∈ s.logLinesOf g := by
    refine List.mem_map.mpr ⟨d, List.mem_filter.mpr ⟨hd, ?_⟩, rfl⟩
    simp [hgrp, hunstaged]
  refine ⟨{ d with grp := none, stamp := stamp, tag := none }, ?_, rfl, rfl, rfl, rfl⟩
  rw [delta_commitLines]
  refine List.mem_append_right _ (List.mem_map.mpr ⟨d, List.mem_filter.mpr ⟨hd, ?_⟩, rfl⟩)
  simp [hgrp, hline]

theorem running_of_commitReady {s : State} {g : Nat} (h : s.commitReady g = true) : ∃ c, (s.group g).running = some c := by
  cases hrun : (s.group g).running with
  | none =>
    rw [State.commitReady] at h
    simp only [hrun, Bool.false_eq_true] at h
  | some c => exact ⟨c, rfl⟩

/-- What ends a group at its commit instant: its new context, with the pool's report, and counted under `key`. -/
def groupEnds (g : Nat) (v : Group) (key code : Nat) (s : State) : State := count1 code 31 ((checkPool (s.setGroup g v)).bump key)

theorem decideCommit_commits {s : State} {g : Nat} {c : GroupCommand} (hrun : (s.group g).running = some c)
    (h : (s.group g).conflict = false ∨ (s.group g).override = true) :
    ∃ v k owed, decideCommit g s = sendCmps owed (groupEnds g v 0x502004 0x30 (journalPut k (commitLines g s.nextStamp s))) ∧
      v.phase = .committed ∧ v.commitStamp = s.nextStamp ∧ v.extents = [] ∧ v.prov = [] := by
  have hfree : ((s.group g).conflict && !(s.group g).override) = false := by rcases h with h | h <;> simp [h]
  simp only [decideCommit, hrun, hfree, Bool.false_eq_true, if_false]
  exact ⟨_, _, _, rfl, rfl, rfl, rfl, rfl⟩

theorem decideCommit_aborts {s : State} {g : Nat} {c : GroupCommand} (hrun : (s.group g).running = some c)
    (hconflict : (s.group g).conflict = true) (hoverride : (s.group g).override = false) :
    ∃ v k, decideCommit g s = raise 72 (groupEnds g v 0x502006 0x31 (discardProvisional g (journalPut k s))) ∧
      v.phase = .aborted ∧ v.endCause = 2 ∧ v.extents = [] ∧ v.prov = [] := by
  simp only [decideCommit, hrun, hconflict, hoverride, Bool.not_false, Bool.and_self, if_true]
  exact ⟨_, _, rfl, rfl, rfl, rfl, rfl⟩

theorem group_groupEnds (g : Nat) (v : Group) (key code : Nat) (s : State) : (groupEnds g v key code s).group g = v := by
  have hcount (u : State) : (count1 code 31 u).group g = u.group g := group_keeps (fr_count1 (μ := kf_count1) rfl _ _ (keeps_refl _ u)) rfl g
  have hbump (u : State) : (u.bump key).group g = u.group g := group_keeps (fr_bump (μ := kf_bump) rfl _ (keeps_refl _ u)) rfl g
  rw [groupEnds, hcount, hbump, group_checkPool, group_setGroup_self]

theorem sameLines_groupEnds (g : Nat) (v : Group) (key code : Nat) (s : State) : SameLines s (groupEnds g v key code s) :=
  (((sameLines_setGroup g v s).trans (sameLines_checkPool _)).trans (sameLines_bump key _)).trans (sameLines_count1 code 31 _)

/-- The end of a group is counted. -/
theorem groupEnds_counts (g : Nat) (v : Group) {key : Nat} (hkey : ¬reportKey key) (code : Nat) (s : State) :
    (groupEnds g v key code s).get key = countAfter key (s.get key) 1 := by
  have hbefore : (checkPool (s.setGroup g v)).get key = s.get key :=
    kp_checkPool ⟨rfl, .inl hkey⟩ (kp_setGroup ⟨rfl, .inl hkey⟩ g v rfl)
  rw [groupEnds, get_count1 hkey, get_bump_self, hbefore]

theorem mode_groupEnds (g : Nat) (v : Group) {key : Nat} (hkey : 0xD00101 ≠ key) (code : Nat) (s : State) :
    (groupEnds g v key code s).mode = s.mode :=
  (get_count1 (by decide)).trans ((get_bump_ne hkey).trans (kp_checkPool ⟨rfl, .inl (by decide)⟩ (kp_setGroup ⟨rfl, .inl (by decide)⟩ g v rfl)))

theorem exec_commitInstant {s : State} {g : Fin 262144} (hruns : s.groupsRun = true) (hready : s.commitReady g.val = true) :
    exec (.commitInstant g) s = .next (decideCommit g.val s) := by
  show execCommitInstant g s = _
  rw [execCommitInstant, hruns, hready, Bool.and_self, if_pos rfl]

/-- A group without a conflict, or with the override, commits (R131, R140). -/
theorem commit_instant_commits {s : State} {g : Fin 262144} (hruns : s.groupsRun = true) (hready : s.commitReady g.val = true)
    (h : (s.group g.val).conflict = false ∨ (s.group g.val).override = true) :
    Completes (.commitInstant g) s fun t =>
      ((t.group g.val).extents = [] ∧ (t.group g.val).prov = [] ∧ (∀ l ∈ t.staging, l.grp ≠ some g.val) ∧ ∀ d ∈ t.xlat.delta, d.grp ≠ some g.val) ∧
        (t.group g.val).phase = .committed ∧ (t.group g.val).commitStamp = s.nextStamp ∧ Counted 0x502004 1 s t ∧
        (∀ l ∈ s.staging, l.grp = some g.val → ∃ l' ∈ t.staging, l'.line = l.line ∧ l'.grp = none ∧ l'.stamp = s.nextStamp ∧
          l'.poison = (l.poison || s.rangePoisons l.line l.stamp) ∧ l'.data = if l'.poison then 0 else l.data) ∧
        ∀ d ∈ s.xlat.delta, d.grp = some g.val → (∀ l ∈ s.staging, l.grp = some g.val → l.line ≠ d.line) →
          ∃ d' ∈ t.xlat.delta, d'.line = d.line ∧ d'.grp = none ∧ d'.place = d.place ∧ d'.stamp = s.nextStamp := by
  obtain ⟨c, hrun⟩ := running_of_commitReady hready
  obtain ⟨v, k, owed, hend, hphase, hstamp, hextents, hprov⟩ := decideCommit_commits hrun h
  have hlines : SameLines (commitLines g.val s.nextStamp s) (decideCommit g.val s) := by
    rw [hend]
    exact ((sameLines_journalPut k _).trans (sameLines_groupEnds g.val v 0x502004 0x30 _)).trans (sameLines_sendCmps owed _)
  have hgroup : (decideCommit g.val s).group g.val = v := by
    rw [hend, group_keeps (fr_sendCmps (μ := kf_sendCmps) rfl owed (keeps_refl _ _)) rfl, group_groupEnds]
  have hcount : Counted 0x502004 1 s (decideCommit g.val s) := by
    have hbefore : (journalPut k (commitLines g.val s.nextStamp s)).get 0x502004 = s.get 0x502004 :=
      kp_journalPut ⟨rfl, .inl (by decide)⟩ k (kp_commitLines ⟨rfl, .inl (by decide)⟩ g.val s.nextStamp rfl)
    have hafter (u : State) : (sendCmps owed u).get 0x502004 = u.get 0x502004 := kp_sendCmps ⟨rfl, .inl (by decide)⟩ owed rfl
    rw [Counted, hend, hafter, groupEnds_counts g.val v (by decide) 0x30, hbefore]
  have hnone := hlines.noProvisional (noProvisional_commitLines g.val s.nextStamp s)
  refine ⟨_, exec_commitInstant hruns hready, ?_⟩
  beta_reduce
  rw [hgroup, hlines.1, hlines.2]
  rw [NoProvisional, hlines.1, hlines.2] at hnone
  exact ⟨⟨hextents, hprov, hnone⟩, hphase, hstamp, hcount, fun l hl hgrp => staged_commitLines hl hgrp,
    fun d hd hgrp halone => logged_commitLines hd hgrp halone⟩

/-- A group with a conflict and without the override ends in an abort (R130, R132). -/
theorem commit_instant_aborts {s : State} {g : Fin 262144} (hruns : s.groupsRun = true) (hready : s.commitReady g.val = true)
    (hconflict : (s.group g.val).conflict = true) (hoverride : (s.group g.val).override = false) :
    Completes (.commitInstant g) s fun t =>
      ((t.group g.val).extents = [] ∧ (t.group g.val).prov = [] ∧ (∀ l ∈ t.staging, l.grp ≠ some g.val) ∧ ∀ d ∈ t.xlat.delta, d.grp ≠ some g.val) ∧
        (t.group g.val).phase = .aborted ∧ (t.group g.val).endCause = 2 ∧ Counted 0x502006 1 s t ∧ Raised 72 s t := by
  obtain ⟨c, hrun⟩ := running_of_commitReady hready
  obtain ⟨v, k, hend, hphase, hcause, hextents, hprov⟩ := decideCommit_aborts hrun hconflict hoverride
  have hlines : NoProvisional g.val (decideCommit g.val s) := by
    rw [hend]
    exact ((sameLines_groupEnds g.val v 0x502006 0x31 _).trans (sameLines_raise 72 _)).noProvisional
      (noProvisional_discardProvisional g.val (journalPut k s))
  have hgroup : (decideCommit g.val s).group g.val = v := by
    rw [hend, group_keeps (fr_raise (μ := kf_raise) rfl 72 (keeps_refl _ _)) rfl, group_groupEnds]
  have hcount : Counted 0x502006 1 s (decideCommit g.val s) := by
    have hbefore : (discardProvisional g.val (journalPut k s)).get 0x502006 = s.get 0x502006 :=
      kp_discardProvisional ⟨rfl, .inl (by decide)⟩ g.val (kp_journalPut ⟨rfl, .inl (by decide)⟩ k rfl)
    rw [Counted, hend, get_raise (by decide), groupEnds_counts g.val v (by decide) 0x31, hbefore]
  have hraised : Raised 72 s (decideCommit g.val s) := by
    have hmode : (groupEnds g.val v 0x502006 0x31 (discardProvisional g.val (journalPut k s))).mode = s.mode :=
      (mode_groupEnds g.val v (by decide) 0x31 _).trans
        (kp_discardProvisional ⟨rfl, .inl (by decide)⟩ g.val (kp_journalPut ⟨rfl, .inl (by decide)⟩ k rfl))
    intro hoccurs
    rw [hend]
    exact latch_self ((canOccur_of_mode hmode 72).trans hoccurs)
  refine ⟨_, exec_commitInstant hruns hready, ?_⟩
  beta_reduce
  rw [hgroup]
  exact ⟨⟨hextents, hprov, hlines⟩, hphase, hcause, hcount, hraised⟩

/-- Settles O25: a group's only command finishes by its effect and its result word, and the commit instant turns its provisional lines into
committed ones or discards them. -/
theorem groupsFinishAndCommit : Obligations.GroupsFinishAndCommit := by
  unfold Obligations.GroupsFinishAndCommit
  exact ⟨fun _ _ _ hruns hfin hrun hwait hread hforce _ _ hrests => group_command_finishes hruns hfin hrun hwait hread hforce hrests,
    fun _ _ hruns hready => ⟨commit_instant_commits hruns hready, commit_instant_aborts hruns hready⟩⟩

end Sys2Proof.Machine
end

section
/-! SUPPORT. Admitted actions (R10, R435, R447): what the checks give, and the state in which the work of an action begins. -/

namespace Sys2Proof.Machine

/-- `w` is the state in which the work of an action begins: since `u` the request has been recorded and answered, and the action's status set. -/
structure ActionBegins (u w : State) : Prop where
  keeps : Keeps kf_noteRequest u w
  get : ∀ k, ¬reportKey k → k ≠ 0x120001 → w.get k = u.get k
  slots : HasSlots (slotTables u) w

theorem hs_noteRequest {T : Tbl Nat × Tbl (List Byte) × Nat} (key kind : Nat) (req : Req) (old new : List Byte) {s : State} (hs : HasSlots T s) :
    HasSlots T (noteRequest key kind req old new s) := by
  have hchanges (l : List ChangeRecord) : HasSlots T { s with mgmt := { s.mgmt with changes := l } } := hs.same rfl rfl rfl
  unfold noteRequest noteChange raiseIf
  exact hs_cond (hs_raise _ (hs_raise _ (hs_bump (by omega) (hs_takeStamp (hchanges _)))))
    (hs_raise _ (hs_bump (by omega) (hs_takeStamp (hchanges _))))

theorem ActionBegins.mode {u w : State} (h : ActionBegins u w) : w.mode = u.mode := h.get 0xD00101 (by decide) (by decide)

theorem ActionBegins.group {u w : State} (h : ActionBegins u w) (g : Nat) : w.group g = u.group g := group_keeps h.keeps rfl g

theorem ActionBegins.region {u w : State} (h : ActionBegins u w) (r : Nat) {sub : Nat} (hsub : sub < 256) :
    w.get (regionKey r sub) = u.get (regionKey r sub) := h.get _ (not_reportKey_regionKey hsub) (by unfold regionKey; omega)

theorem ActionBegins.raised {u w t : State} (h : ActionBegins u w) {src : Nat} (ht : Raised src w t) : Raised src u t :=
  fun hoccurs => ht ((canOccur_of_mode h.mode src).trans hoccurs)

/-- A response that has left stands. -/
theorem Replied.evolves {req : Req} {ask : DictAsk} {status : Nat} {s t : State} (h : Replied req ask status s) (he : Evolves s t) :
    Replied req ask status t := by
  obtain ⟨head, kind, value, tag, htransaction, hout⟩ := h
  exact ⟨head, kind, value, tag, htransaction, out_of_evolves he hout⟩

/-- An admitted action is answered with OK, then does its work. -/
theorem completes_action {c : Instr} {req : Req} {idx sub key : Nat} {v : List Byte} {env : DictEnv} {s u : State} {f : State → State}
    {P : State → Prop} (hkey : idx * 256 + sub = key) (hrun : exec c s = .next (request req idx sub (.act v) env s))
    (hdesc : (describe key).isSome = true) (h : Admitted s req idx sub (.act v) u)
    (hf : ∀ x, startAction key v u.stampNow env req x = f (setAction key stOk x))
    (hP : ∀ w, ActionBegins u w → P (f w)) : Completes c s fun t => Replied req (.act v) 0 t ∧ P t := by
  subst hkey
  obtain ⟨d, hd⟩ := Option.isSome_iff_exists.mp hdesc
  let o := answerOf (u.replyKey req) req idx sub (.act v) stOk EntryType.action.code [] (askFinal (.act v)) u.reducedService
  let x := deliver req o (noteRequest (idx * 256 + sub) 2 req [] v u)
  have hrequest : request req idx sub (.act v) env s = startAction (idx * 256 + sub) v u.stampNow env req x := by
    rw [request_of_admitted env hd h]
    simp only [serveOk, hd, serveAction, x, o]
  have hreplied : Replied req (.act v) 0 x := ⟨_, _, _, _, replyHead_transaction req idx sub, mem_out_deliver req o _⟩
  refine ⟨_, hrun, ?_⟩
  rw [hrequest]
  refine ⟨hreplied.evolves (ev_startAction _ v u.stampNow env req (ev_refl x)), ?_⟩
  rw [hf]
  have hkeeps : Keeps kf_noteRequest u (setAction (idx * 256 + sub) stOk x) :=
    fr_setAction rfl _ _ (fr_deliver rfl req o (fr_noteRequest rfl _ 2 req [] v (keeps_refl _ u)))
  have hslots : HasSlots (slotTables u) (setAction (idx * 256 + sub) stOk x) :=
    (hs_noteRequest (idx * 256 + sub) 2 req [] v (hasSlots_self u)).same (deliver_keeps req o _).1
      (congrArg Integrity.wrappedKeys ((fr_deliver (μ := kf_deliver) rfl req o (keeps_refl _ _)).integ rfl))
      (congrArg Integrity.keysGenerated ((fr_deliver (μ := kf_deliver) rfl req o (keeps_refl _ _)).integ rfl))
  refine hP _ ⟨hkeeps, fun k hreport hk => ?_, hslots⟩
  have hq : Quiet kw_noteRequest k (u.get k) := ⟨by simp [Writes.has, kw_noteRequest, hk], .inl hreport⟩
  exact kp_setAction (hq.mono rfl) _ _ ((get_deliver req o _ k).trans (kp_noteRequest hq _ 2 req [] v rfl))

/-- The state takes an admitted request (check 9). -/
theorem stateOk_of_judge {req : Req} {idx sub : Nat} {ask : DictAsk} {u : State} {d : Desc} (hd : describe (idx * 256 + sub) = some d)
    (h : u.judge req idx sub ask = stOk) : u.stateOk req (idx * 256 + sub) d ask = true := by
  simp only [State.judge, hd] at h
  have hchecks := eq_ok_of_ite (by decide) (eq_ok_of_ite (by decide) (eq_ok_of_ite (by decide) h))
  refine firstFailing_ok ?_ hchecks (_, stStateConflict) (.tail _ (.tail _ (.tail _ (.tail _ (.head _)))))
  simp only [List.forall_mem_cons, List.not_mem_nil, false_implies, implies_true, and_true]
  refine ⟨by decide, ?_, by decide, by decide, by decide, by decide, by decide⟩
  split <;> decide

/-- What the checks of R435 give for an admitted action: its argument lies in its range, and the state takes it. -/
theorem checks_of_action {s u : State} {req : Req} {idx sub key : Nat} {v : List Byte} (hkey : idx * 256 + sub = key)
    (hdesc : (describe key).isSome = true) (h : Admitted s req idx sub (.act v) u) : u.argOk key v = true ∧ u.actionFits key v = true := by
  subst hkey
  obtain ⟨d, hd⟩ := Option.isSome_iff_exists.mp hdesc
  obtain ⟨-, hok, -⟩ := h
  have hrange := rangeOk_of_judge hd hok
  have hstate := stateOk_of_judge hd hok
  unfold State.stateOk at hstate
  exact ⟨hrange, (Bool.and_eq_true_iff.mp hstate).2⟩

end Sys2Proof.Machine
end

section
/-! SUPPORT. Actions on groups, regions, channels and the error table (R136, R293, R348, R511). -/

namespace Sys2Proof.Machine

/-! ### Forced aborts -/

theorem forceAbortNow_eq (g cause : Nat) (s : State) : ∃ v n k, forceAbortNow g cause s = raise 73 ((journalPut k
    (dropStores (s.group g).owner 33 n (checkPool ((discardProvisional g s).setGroup g v)))).bump 0x502007) ∧
      v.phase = .aborted ∧ v.endCause = cause ∧ v.fenced = true := by
  unfold forceAbortNow
  exact ⟨_, _, _, rfl, rfl, rfl, rfl⟩

/-- A forced abort ends its group with its cause, fenced, without a provisional line, counted and reported (R136). -/
theorem forceAbortNow_ends (g cause : Nat) (s : State) : ((forceAbortNow g cause s).group g).phase = .aborted ∧
    ((forceAbortNow g cause s).group g).endCause = cause ∧ ((forceAbortNow g cause s).group g).fenced = true ∧
    NoProvisional g (forceAbortNow g cause s) ∧ (forceAbortNow g cause s).get 0x502007 = countAfter 0x502007 (s.get 0x502007) 1 ∧
    Raised 73 s (forceAbortNow g cause s) := by
  obtain ⟨v, n, k, hrun, hphase, hcause, hfenced⟩ := forceAbortNow_eq g cause s
  have hdrop (u : State) : Keeps kf_dropStores u (dropStores (s.group g).owner 33 n u) := fr_dropStores rfl _ 33 n (keeps_refl _ u)
  have hgroup : (forceAbortNow g cause s).group g = v := by
    rw [hrun, group_keeps (fr_raise (μ := kf_raise) rfl 73 (keeps_refl _ _)) rfl, group_keeps (fr_bump (μ := kf_bump) rfl _ (keeps_refl _ _)) rfl,
      group_journalPut, group_keeps (hdrop _) rfl, group_checkPool, group_setGroup_self]
  have hlines : NoProvisional g (forceAbortNow g cause s) := by
    rw [hrun]
    exact (((((sameLines_setGroup g v _).trans (sameLines_checkPool _)).trans (sameLines_keeps (hdrop _) rfl rfl)).trans
      (sameLines_journalPut k _)).trans ((sameLines_bump 0x502007 _).trans (sameLines_raise 73 _))).noProvisional
        (noProvisional_discardProvisional g s)
  have hold (j : Nat) (hj : Quiet kw_journalPut j (s.get j)) (hd : Quiet kw_dropStores j (s.get j)) (hc : Quiet kw_discardProvisional j (s.get j)) :
      (journalPut k (dropStores (s.group g).owner 33 n (checkPool ((discardProvisional g s).setGroup g v)))).get j = s.get j :=
    kp_journalPut hj k (kp_dropStores hd _ 33 n (kp_checkPool (hd.mono rfl) (kp_setGroup (hd.mono rfl) g v (kp_discardProvisional hc g rfl))))
  have hcount : (forceAbortNow g cause s).get 0x502007 = countAfter 0x502007 (s.get 0x502007) 1 := by
    have hbefore := hold 0x502007 ⟨rfl, .inl (by decide)⟩ ⟨rfl, .inl (by decide)⟩ ⟨rfl, .inl (by decide)⟩
    rw [hrun, get_raise (by decide), get_bump_self, hbefore]
  have hraised : Raised 73 s (forceAbortNow g cause s) := by
    have hmode : (State.bump (journalPut k (dropStores (s.group g).owner 33 n (checkPool ((discardProvisional g s).setGroup g v)))) 0x502007).mode =
        s.mode :=
      (get_bump_ne (by decide)).trans (hold 0xD00101 ⟨rfl, .inl (by decide)⟩ ⟨rfl, .inl (by decide)⟩ ⟨rfl, .inl (by decide)⟩)
    intro hoccurs
    rw [hrun]
    exact latch_self ((canOccur_of_mode hmode 73).trans hoccurs)
  rw [hgroup]
  exact ⟨hphase, hcause, hfenced, hlines, hcount, hraised⟩

theorem forceAbort_at_once {g cause detail : Nat} {s : State} (hopen : (s.group g).isOpen = true) (hrun : (s.group g).running = none) :
    forceAbort g cause detail s = forceAbortNow g cause s := by
  simp only [forceAbort, hopen, hrun, Bool.not_true, Bool.false_eq_true, if_false]

theorem forceAbort_takesEffect {s u : State} {req : Req} {v : List Byte} (h : Admitted s req 0x5010 0x01 (.act v) u)
    (hrun : (u.group (bytesToNat v)).running = none) : Completes (.forceAbort req v) s fun t =>
      Replied req (.act v) 0 t ∧ (t.group (bytesToNat v)).phase = .aborted ∧ (t.group (bytesToNat v)).endCause = 5 ∧
        (t.group (bytesToNat v)).fenced = true ∧ (∀ l ∈ t.staging, l.grp ≠ some (bytesToNat v)) ∧ Counted 0x502007 1 u t ∧ Raised 73 u t := by
  have hopen : (u.group (bytesToNat v)).isOpen = true := (checks_of_action (key := 0x501001) rfl (by decide +kernel) h).2
  refine completes_action (key := 0x501001) rfl rfl (by decide +kernel) h (f := forceAbort (bytesToNat v) 5 0) (fun x => rfl) fun w hw => ?_
  rw [forceAbort_at_once (by rw [hw.group]; exact hopen) (by rw [hw.group]; exact hrun)]
  obtain ⟨hphase, hcause, hfenced, hlines, hcount, hraised⟩ := forceAbortNow_ends (bytesToNat v) 5 w
  rw [hw.get 0x502007 (by decide) (by decide)] at hcount
  exact ⟨hphase, hcause, hfenced, hlines.1, hcount, hw.raised hraised⟩

/-! ### Regions -/

theorem regionKey_mod (r sub : Nat) : regionKey r sub = regionKey (r % 64) sub := by
  unfold regionKey
  rw [Nat.mod_mod]

theorem forceAbort_writes_no_state : ∀ r : Fin 64, kw_forceAbort.has (regionKey r.val 0x0C) = false := by decide +kernel

theorem takeOffline_offline {r : Nat} (s : State) : (takeOffline r s).regionOffline r = true := by
  have hstate : (takeOffline r s).get (regionKey r 0x0C) = 3 := by
    have hq : Quiet kw_forceAbort (regionKey r 0x0C) 3 := ⟨by
      rw [regionKey_mod]
      exact forceAbort_writes_no_state ⟨r % 64, Nat.mod_lt r (by decide)⟩, .inl (not_reportKey_regionKey (by decide))⟩
    unfold takeOffline
    exact hd_foldl (fun t g ht => kp_forceAbort hq g 6 _ ht) _ (kp_refuseBinds (hq.mono rfl) (get_setRegionState_self r 3 s))
  rw [State.regionOffline, hstate]
  rfl

theorem bringOnline_state (r : Nat) (s : State) :
    (bringOnline r s).get (regionKey r 0x0C) = if s.get (regionKey r 0x04) = 1 then 2 else 1 := by
  unfold bringOnline
  split
  · exact get_prepare_state r s
  · exact get_setRegionState_self r 1 s

theorem regionOffline_takesEffect {s u : State} {req : Req} {v : List Byte} (h : Admitted s req 0x6190 0x08 (.act v) u) :
    Completes (.regionOffline req v) s fun t => Replied req (.act v) 0 t ∧ t.regionOffline (bytesToNat v) = true :=
  completes_action (key := 0x619008) rfl rfl (by decide +kernel) h (f := takeOffline (bytesToNat v)) (fun x => rfl) fun w _ => takeOffline_offline w

theorem regionOnline_takesEffect {s u : State} {req : Req} {v : List Byte} (h : Admitted s req 0x6190 0x09 (.act v) u) :
    Completes (.regionOnline req v) s fun t => Replied req (.act v) 0 t ∧
      t.get (regionKey (bytesToNat v) 0x0C) = if u.get (regionKey (bytesToNat v) 0x04) = 1 then 2 else 1 := by
  refine completes_action (key := 0x619009) rfl rfl (by decide +kernel) h (f := bringOnline (bytesToNat v)) (fun x => rfl) fun w hw => ?_
  rw [bringOnline_state, hw.region _ (by decide)]

/-! ### Channels and the error table -/

theorem releaseChannel_takesEffect {s u : State} {req : Req} {v : List Byte} (h : Admitted s req 0xC002 0x01 (.act v) u) :
    Completes (.releaseChannel req v) s fun t => Replied req (.act v) 0 t ∧
      t.channel (bytesToNat v) = { u.channel (bytesToNat v) with state := 0, runningWord := none } ∧ t.staging = u.staging := by
  refine completes_action (key := 0xC00201) rfl rfl (by decide +kernel) h (f := releaseChannel (bytesToNat v)) (fun x => rfl) fun w hw => ?_
  have hchannel : w.channel (bytesToNat v) = u.channel (bytesToNat v) := by
    unfold State.channel
    rw [hw.keeps.obs rfl]
  refine ⟨?_, hw.keeps.staging rfl⟩
  rw [releaseChannel, hchannel]
  exact tgetD_tset_self _ _ _ _

theorem clearTable_takesEffect {s u : State} {req : Req} (h : Admitted s req 0x8010 0x03 (.act []) u) :
    Completes (.clearTable req) s fun t => Replied req (.act []) 0 t ∧ t.stored.errors = [] ∧ t.stored.savedErrors = [] :=
  completes_action (key := 0x801003) rfl rfl (by decide +kernel) h
    (f := fun x => saveErrors { x with stored := { x.stored with errors := [] } }) (fun x => rfl) fun w _ => ⟨rfl, rfl⟩

end Sys2Proof.Machine
end

section
/-! SUPPORT. Actions on keys (R334, R335). -/

namespace Sys2Proof.Machine

theorem slotKey_mod (n : Nat) : slotKey n = slotKey (n % 16) := by
  unfold slotKey
  rw [Nat.mod_mod]

theorem not_reportKey_slotKey (n : Nat) : ¬reportKey (slotKey n) := by
  unfold slotKey reportKey
  omega

theorem sendCmps_writes_no_slot : ∀ n : Fin 16, kw_sendCmps.has (slotKey n.val) = false := by decide +kernel

/-- A renewed slot is active. -/
theorem slot_installKey (n : Nat) (s : State) : (installKey n s).get (slotKey n) = 1 := by
  have hq : Quiet kw_sendCmps (slotKey n) 1 := ⟨by
    rw [slotKey_mod]
    exact sendCmps_writes_no_slot ⟨n % 16, Nat.mod_lt n (by decide)⟩, .inl (not_reportKey_slotKey n)⟩
  unfold installKey
  exact kp_sendCmps hq _ (get_put_self _ _ _)

/-- A renewal reports its slot with source 61. -/
theorem renewSlot_raises (n : Nat) (s : State) : Raised 61 s (renewSlot n s) := by
  have hmode : Holds 0xD00101 s.mode (installKey n (abortForSlot n s)) :=
    kp_installKey ⟨rfl, .inl (by decide)⟩ n (kp_abortForSlot ⟨rfl, .inl (by decide)⟩ n rfl)
  exact fun hoccurs => latch_self ((canOccur_of_mode hmode 61).trans hoccurs)

theorem renewKeySlot_takesEffect {s u : State} {req : Req} {v : List Byte} (h : Admitted s req 0x7002 0x01 (.act v) u) :
    Completes (.renewKeySlot req v) s fun t => Replied req (.act v) 0 t ∧
      t.wrappedKey (bytesToNat v) = Config.aesWrap keyEncryptionKey (Config.generatedKey u.integ.keysGenerated) ∧
      t.get (slotKey (bytesToNat v)) = 1 ∧ Raised 61 u t ∧
      ∀ l ∈ t.staging, ∀ r ∈ u.slotRanges (bytesToNat v), extentHas (pageOfLine l.line) r = false := by
  refine completes_action (key := 0x700201) rfl rfl (by decide +kernel) h (f := renewSlot (bytesToNat v)) (fun x => rfl) fun w hw => ?_
  generalize bytesToNat v = n
  have haborted : HasSlots (slotTables u) (abortForSlot n w) := hs_abortForSlot n hw.slots
  simp only [HasSlots, slotTables, Prod.mk.injEq] at haborted
  obtain ⟨hregs, -, hgenerated⟩ := haborted
  have hraise : Keeps kf_raise (installKey n (abortForSlot n w)) (renewSlot n w) := fr_raise rfl 61 (keeps_refl _ _)
  have hwrapped : (renewSlot n w).wrappedKey n = (installKey n (abortForSlot n w)).wrappedKey n := by
    unfold State.wrappedKey
    rw [hraise.integ rfl]
  obtain ⟨-, hstaging⟩ := (renewed_installKey hregs (Nat.le_of_eq hgenerated.symm) n).keeps (hraise.integ rfl) (hraise.staging rfl)
  refine ⟨?_, ?_, hw.raised (renewSlot_raises n w), hstaging⟩
  · rw [hwrapped, (slotTables_installKey n _).2.2, if_pos rfl, hgenerated]
  · exact (get_raise (not_reportKey_slotKey n)).trans (slot_installKey n _)

theorem ActionBegins.activeSlots {u w : State} (h : ActionBegins u w) : w.activeSlots = u.activeSlots := by
  have hkey (k : Nat) : w.get (slotKey k) = u.get (slotKey k) := h.get _ (not_reportKey_slotKey k) (by unfold slotKey; omega)
  unfold State.activeSlots
  simp only [hkey]

theorem sanitize_takesEffect {s u : State} {req : Req} (h : Admitted s req 0x7002 0x03 (.act []) u) :
    Completes (.sanitize (.inr req)) s fun t => Replied req (.act []) 0 t ∧
      (∀ k ∈ u.activeSlots, ∃ m, u.integ.keysGenerated ≤ m ∧ m < t.integ.keysGenerated ∧
        t.wrappedKey k = Config.aesWrap keyEncryptionKey (Config.generatedKey m)) ∧ Raised 62 u t := by
  refine completes_action (key := 0x700203) rfl rfl (by decide +kernel) h (f := sanitizeNow) (fun x => rfl) fun w hw => ?_
  refine ⟨fun k hk => ?_, hw.raised (sanitizeNow_raises w)⟩
  rw [← hw.keeps.integ rfl]
  exact (sanitizeNow_renews w k (by rw [hw.activeSlots]; exact hk)).1

end Sys2Proof.Machine
end

section
/-! SUPPORT. A die that leaves service (R286, R288): its state and its place among the dies to rebuild stand while the save role moves and lost lines
are poisoned. -/

namespace Sys2Proof.Machine

/-- The states of the dies, and the dies to rebuild, stand. -/
def SameDies (s t : State) : Prop := (∀ d, t.dieState d = s.dieState d) ∧ t.med.rebuildDies = s.med.rebuildDies

theorem sameDies_refl (s : State) : SameDies s s := ⟨fun _ => rfl, rfl⟩

theorem SameDies.trans {r s t : State} (h : SameDies r s) (g : SameDies s t) : SameDies r t := ⟨fun d => (g.1 d).trans (h.1 d), g.2.trans h.2⟩

theorem sameDies_cond {r a b : State} {c : Prop} [Decidable c] (ha : SameDies r a) (hb : SameDies r b) : SameDies r (if c then a else b) := by
  split <;> assumption

theorem sameDies_foldl {α : Type} {f : State → α → State} (h : ∀ t a, SameDies t (f t a)) (l : List α) (s : State) : SameDies s (l.foldl f s) := by
  induction l generalizing s with
  | nil => exact sameDies_refl s
  | cons a l ih => exact (h s a).trans (ih _)

theorem sameDies_of_unjournaled {s t : State} (h : unjournaled t = unjournaled s) : SameDies s t :=
  ⟨dieState_of_unjournaled h, rebuildDies_of_unjournaled h⟩

theorem sameDies_raise (src : Nat) (s : State) : SameDies s (raise src s) := sameDies_of_unjournaled (unjournaled_raise src s)

/-- What writes no register and leaves the dies to rebuild. -/
theorem sameDies_med (s : State) (m : Medium) (h : m.rebuildDies = s.med.rebuildDies) : SameDies s { s with med := m } := ⟨fun _ => rfl, h⟩

/-! ### A ring place moves -/

theorem sameDies_setStripe (stripe : Nat) (r : StripeRec) (s : State) : SameDies s (s.setStripe stripe r) := sameDies_med s _ rfl

theorem sameDies_orderReset (stripe mode before : Nat) (s : State) : SameDies s (orderReset stripe mode before s) := by
  unfold orderReset
  refine (sameDies_setStripe stripe _ s).trans (sameDies_foldl (fun t c => ?_) _ _)
  exact sameDies_med t _ rfl

theorem sameDies_releaseStripe (stripe : Nat) (s : State) : SameDies s (releaseStripe stripe s) :=
  sameDies_cond (sameDies_orderReset _ _ _ s) (sameDies_refl s)

theorem sameDies_notePool (s : State) : SameDies s (notePool s) := by
  have hurgent : SameDies s (if s.freeStripes < s.get 0x614003 then
      (if s.med.urgent then s else raise 233 { s with med := { s.med with urgent := true } })
      else { s with med := { s.med with urgent := false } }) :=
    sameDies_cond (sameDies_cond (sameDies_refl s) ((sameDies_med s _ rfl).trans (sameDies_raise 233 _))) (sameDies_med s _ rfl)
  exact sameDies_cond (hurgent.trans (sameDies_med _ _ rfl)) hurgent

theorem sameDies_setUnitState (u state : Nat) (s : State) : SameDies s (setUnitState u state s) := by
  have hdies (d : Nat) : dieKey d 0x01 ≠ 0x619004 ∧ dieKey d 0x01 ≠ dieKey (dieOfUnit u) 0x02 := by
    unfold dieKey
    omega
  have hrecord : unjournaled (recordUnit u (s.setUnit u { s.unit u with state := state })) = unjournaled s :=
    (unjournaled_journalPut _ _).trans (unjournaled_setUnit s u _)
  refine sameDies_of_unjournaled ?_
  unfold setUnitState
  simp only [unjournaled_ite, unjournaled_raise, unjournaled_bump fun d => (hdies d).1, unjournaled_bump fun d => (hdies d).2, hrecord, ite_self]

/-- The save role of a place moves (R288). -/
theorem sameDies_moveRing_save (index new : Nat) (s : State) : SameDies s (moveRing .save index new s) := by
  have hunits (l : List Nat) (f : Nat → Nat) (t : State) :
      SameDies t (l.foldl (fun t c => if (t.unit (f c)).state = 1 then setUnitState (f c) 0 t else t) t) :=
    sameDies_foldl (fun t c => sameDies_cond (sameDies_setUnitState _ _ t) (sameDies_refl t)) l t
  have htail (t : State) : SameDies t (programTail t) := sameDies_of_unjournaled (unjournaled_programTail t)
  have hmoved (old : Nat) (o : StripeRec) : SameDies s (releaseStripe old ((orderReset new 1 0 (s.setStripe new
      { s.stripe new with role := .ring .save index })).setStripe old o)) :=
    (((sameDies_setStripe new _ s).trans (sameDies_orderReset new 1 0 _)).trans (sameDies_setStripe old o _)).trans (sameDies_releaseStripe old _)
  have hlog : (Ring.save == Ring.log) = false := rfl
  simp only [moveRing, hlog, Bool.false_eq_true, if_false]
  exact (((hmoved _ _).trans (hunits _ _ _)).trans (sameDies_notePool _)).trans (htail _)

theorem sameDies_moveSaves (s : State) : SameDies s (moveSaves s) := by
  refine sameDies_foldl (fun t i => sameDies_cond (sameDies_refl t) ?_) _ s
  split
  · exact sameDies_moveRing_save i _ t
  · exact sameDies_refl t

theorem sameDies_loseData (die : Nat) (s : State) : SameDies s (loseData die s) := by
  have hkeeps : Keeps kf_loseData s (loseData die s) := fr_loseData rfl die (keeps_refl _ s)
  refine ⟨fun d => ?_, congrArg Medium.rebuildDies (hkeeps.med rfl)⟩
  have hother : kw_loseData.has (dieKey d 0x01) = false := by
    have hne : dieKey d 0x01 ≠ 0x61900A := by
      unfold dieKey
      omega
    simp [Writes.has, kw_loseData, hne]
  exact kp_loseData ⟨hother, .inl (not_reportKey_dieKey d (by decide))⟩ die rfl

/-! ### A die that retires -/

/-- A die takes its place among the dies to rebuild. -/
def dieListed (n : Nat) (s : State) : State :=
  { s with med := { s.med with
    rebuildDies := insertNew n s.med.rebuildDies, rebuildStarted := if s.med.rebuildDies.isEmpty then s.service else s.med.rebuildStarted } }

/-- The rebuild meter names a die, unless a rebuild of two dies runs. -/
def dieNamed (n : Nat) (s : State) : State := if s.get 0x61A002 = 2 then s else judgeEpisode ((s.put 0x61A002 1).put 0x61A003 n)

/-- A die in service that leaves it: its state and its place among the dies to rebuild are set, source 242 is raised, then the save role moves and
the lines that are lost are poisoned (R286, R288, R290). -/
theorem dieLeaves_retires {n : Nat} {s : State} (h : s.dieState n = 0) : dieLeaves n 1 s =
    noteHealth (loseData n (moveSaves (raise 242 (dieNamed n (dieListed n (dropWork n false (s.put (dieKey n 0x01) 1))))))) := by
  have hrun : dieLeaves n 1 s = if 1 ≤ s.dieState n then s else noteHealth (loseData n (moveSaves (if s.dieState n = 0 then
      raise 242 (dieNamed n (dieListed n (dropWork n false (s.put (dieKey n 0x01) 1)))) else
        dieNamed n (dieListed n (dropWork n false (s.put (dieKey n 0x01) 1)))))) := by
    rfl
  rw [hrun, h, if_neg (by decide), if_pos rfl]

/-- The register of a die, or of the mode, is not the meter's. -/
theorem get_dieNamed {j : Nat} (hj : kw_judgeEpisode.has j = false) (hr : ¬reportKey j) (h2 : j ≠ 0x61A002) (h3 : j ≠ 0x61A003) (n : Nat)
    (s : State) : (dieNamed n s).get j = s.get j :=
  hd_cond (k := j) rfl (kp_judgeEpisode ⟨hj, .inl hr⟩ (hd_put h3 (hd_put h2 rfl)))

theorem med_dieNamed (n : Nat) (s : State) : (dieNamed n s).med = s.med :=
  (fr_cond (keeps_refl _ s) (fr_judgeEpisode (μ := kf_judgeEpisode) rfl (fr_put rfl _ _ (fr_put rfl _ _ (keeps_refl _ s))))).med rfl

theorem retireDie_takesEffect {s u : State} {req : Req} {v : List Byte} (h : Admitted s req 0x6190 0x07 (.act v) u) :
    Completes (.retireDie req v) s fun t => Replied req (.act v) 0 t ∧ t.dieState (bytesToNat v) = 1 ∧ bytesToNat v ∈ t.med.rebuildDies ∧
      Raised 242 u t := by
  have hserves : u.dieState (bytesToNat v) = 0 := beq_iff_eq.mp (checks_of_action (key := 0x619007) rfl (by decide +kernel) h).2
  refine completes_action (key := 0x619007) rfl rfl (by decide +kernel) h (f := dieLeaves (bytesToNat v) 1) (fun x => rfl) fun w hw => ?_
  generalize bytesToNat v = n at hserves
  have hbegins : w.dieState n = 0 := (hw.get _ (not_reportKey_dieKey n (by decide)) (by unfold dieKey; omega)).trans hserves
  rw [dieLeaves_retires hbegins]
  generalize hx : dieNamed n (dieListed n (dropWork n false (w.put (dieKey n 0x01) 1))) = x
  have hstate : x.dieState n = 1 := by
    have hdropped : (dropWork n false (w.put (dieKey n 0x01) 1)).get (dieKey n 0x01) = 1 :=
      kp_dropWork ⟨rfl, .inl (not_reportKey_dieKey n (by decide))⟩ n false (get_put_self _ _ _)
    have hother : kw_judgeEpisode.has (dieKey n 0x01) = false ∧ dieKey n 0x01 ≠ 0x61A002 ∧ dieKey n 0x01 ≠ 0x61A003 := by
      have hne : dieKey n 0x01 ≠ 0xA00106 ∧ dieKey n 0x01 ≠ 0x61A002 ∧ dieKey n 0x01 ≠ 0x61A003 := by
        unfold dieKey
        omega
      exact ⟨by simp [Writes.has, kw_judgeEpisode, hne.1], hne.2⟩
    rw [← hx]
    exact (get_dieNamed hother.1 (not_reportKey_dieKey n (by decide)) hother.2.1 hother.2.2 n _).trans hdropped
  have hlisted : n ∈ x.med.rebuildDies := by
    rw [← hx, med_dieNamed]
    exact mem_insertNew.mpr (.inl rfl)
  have hmode : x.mode = w.mode := by
    have hne : 0xD00101 ≠ dieKey n 0x01 := by
      unfold dieKey
      omega
    have hdropped : Holds 0xD00101 w.mode (dropWork n false (w.put (dieKey n 0x01) 1)) :=
      kp_dropWork ⟨rfl, .inl (by decide)⟩ n false (hd_put hne rfl)
    rw [← hx]
    exact (get_dieNamed (j := 0xD00101) rfl (by decide) (by decide) (by decide) n _).trans hdropped
  have hsame : SameDies x (noteHealth (loseData n (moveSaves (raise 242 x)))) :=
    (((sameDies_raise 242 x).trans (sameDies_moveSaves _)).trans (sameDies_loseData n _)).trans
      (sameDies_of_unjournaled (unjournaled_noteHealth _))
  refine ⟨(hsame.1 n).trans hstate, (by rw [hsame.2]; exact hlisted), hw.raised fun hoccurs => ?_⟩
  have hlatch : Holds (sourceKey 242 0x01) 1 (raise 242 x) := latch_self ((canOccur_of_mode hmode 242).trans hoccurs)
  exact kp_noteHealth ⟨rfl, .inr ⟨⟨242, rfl⟩, rfl⟩⟩ (kp_loseData ⟨rfl, .inr ⟨⟨242, rfl⟩, rfl⟩⟩ n
    (kp_moveSaves ⟨rfl, .inr ⟨⟨242, rfl⟩, rfl⟩⟩ hlatch))

end Sys2Proof.Machine
end

section
/-! SUPPORT. Raw accesses to protected units, and the resume from HALT (R332, R348, R351). -/

namespace Sys2Proof.Machine

/-! ### Raw writes and reads -/

/-- The write action keeps its entry, whatever the scratch unit takes. -/
theorem writeRaw_eq (s : State) : ∃ x : State, Keeps 0x38F000064 s x ∧ x.mode = s.mode ∧ writeRaw s = raise 229 { x with stored := { x.stored with
    scratch := (x.stored.scratch.filter fun e => !(e.1 == s.testMemory && e.2.1 == s.get 0x804002)) ++
      [(s.testMemory, s.get 0x804002, x.getBytes 0x804004, x.getBytes 0x804005)] } } := by
  have htaken : Keeps 0x38F000064 s (takeScratch s) := fr_takeScratch rfl (keeps_refl _ s)
  have hmode : Holds 0xD00101 s.mode (takeScratch s) := kp_takeScratch ⟨rfl, .inl (by decide)⟩ rfl
  have hprogrammed (u page : Nat) : Keeps 0x38F000064 s (sectorProgrammed u page (takeScratch s)) := fr_sectorProgrammed rfl u page htaken
  have hmode' (u page : Nat) : Holds 0xD00101 s.mode (sectorProgrammed u page (takeScratch s)) :=
    kp_sectorProgrammed ⟨rfl, .inl (by decide)⟩ u page hmode
  unfold writeRaw
  simp only
  generalize takeScratch s = x at htaken hmode hprogrammed hmode' ⊢
  split
  next u _ _ => exact ⟨sectorProgrammed u (s.get 0x804002 / 16) x, hprogrammed _ _, hmode' _ _, by with_reducible rfl⟩
  next => exact ⟨x, htaken, hmode, by with_reducible rfl⟩

theorem ActionBegins.testMemory {u w : State} (h : ActionBegins u w) : w.testMemory = u.testMemory := by
  unfold State.testMemory
  rw [h.get 0x804001 (by decide) (by decide)]

theorem writeRaw_takesEffect {s u : State} {req : Req} (h : Admitted s req 0x8040 0x06 (.act []) u) :
    Completes (.writeRaw req) s fun t => Replied req (.act []) 0 t ∧
      (u.testMemory, u.get 0x804002, u.getBytes 0x804004, u.getBytes 0x804005) ∈ t.stored.scratch ∧ Raised 229 u t := by
  refine completes_action (key := 0x804006) rfl rfl (by decide +kernel) h (f := writeRaw) (fun x => rfl) fun w hw => ?_
  obtain ⟨x, hkeeps, hmode, hrun⟩ := writeRaw_eq w
  have hbytes (k : Nat) : x.getBytes k = u.getBytes k := by
    unfold State.getBytes
    rw [hkeeps.octs rfl, hw.keeps.octs rfl]
  refine ⟨?_, hw.raised fun hoccurs => ?_⟩
  · rw [hrun, (fr_raise (μ := kf_raise) rfl 229 (keeps_refl _ _)).stored rfl, hw.testMemory, hw.get 0x804002 (by decide) (by decide), hbytes, hbytes]
    exact List.mem_append_right _ (List.mem_singleton_self _)
  · rw [hrun]
    exact latch_self ((canOccur_of_mode hmode 229).trans hoccurs)

/-- The code that a raw read reports for what the decoder made of it. -/
def rawCode : CodeResult → Nat
  | .clean => 0
  | .corrected n => 1 + n % 256 * 256
  | .uncorrectable => 2

theorem readRaw_eq (result : CodeResult) (decoded : List Byte) (s : State) : ∃ (x : State) (value : List Byte), x.mode = s.mode ∧
    readRaw result decoded s = raise 229 ((x.put 0x80400A (rawCode result)).putBytes 0x80400B value) := by
  have hmode : Holds 0xD00101 s.mode (takeScratch s) := kp_takeScratch ⟨rfl, .inl (by decide)⟩ rfl
  have hread (code : Nat) (y : State) (hy : y.mode = s.mode) (data check value : List Byte) : ∃ (x : State) (value' : List Byte), x.mode = s.mode ∧
      raise 229 ((((y.putBytes 0x804008 data).putBytes 0x804009 check).put 0x80400A code).putBytes 0x80400B value) =
        raise 229 ((x.put 0x80400A code).putBytes 0x80400B value') :=
    ⟨(y.putBytes 0x804008 data).putBytes 0x804009 check, value, hy, rfl⟩
  unfold readRaw
  simp only
  generalize takeScratch s = x at hmode ⊢
  generalize List.find? _ x.stored.scratch = found
  have hfound : Holds 0xD00101 s.mode (match found with
      | some _ => x
      | none => drawn (drawn x)) := by
    cases found with
    | none => exact kp_drawn ⟨rfl, .inl (by decide)⟩ (kp_drawn ⟨rfl, .inl (by decide)⟩ hmode)
    | some e => exact hmode
  cases result with
  | clean => exact hread 0 _ hfound _ _ _
  | corrected n => exact hread (1 + n % 256 * 256) _ hfound _ _ _
  | uncorrectable => exact hread 2 _ hfound _ _ _

theorem readRaw_takesEffect {s u : State} {req : Req} (result : CodeResult) (decoded : List Byte)
    (h : Admitted s req 0x8040 0x07 (.act []) u) : Completes (.readRaw req result decoded) s fun t =>
      Replied req (.act []) 0 t ∧ Raised 229 u t ∧ (result = .clean → t.get 0x80400A = 0) ∧ (result = .uncorrectable → t.get 0x80400A = 2) ∧
        (∀ k, result = .corrected k → t.get 0x80400A = 1 + k % 256 * 256) := by
  refine completes_action (key := 0x804007) rfl rfl (by decide +kernel) h (f := readRaw result decoded) (fun x => rfl) fun w hw => ?_
  obtain ⟨x, value, hmode, hrun⟩ := readRaw_eq result decoded w
  have hcode : (readRaw result decoded w).get 0x80400A = rawCode result := by
    rw [hrun, get_raise (by decide)]
    exact get_put_self _ _ _
  refine ⟨hw.raised fun hoccurs => ?_, ?_, ?_, ?_⟩
  · have hreported : ((x.put 0x80400A (rawCode result)).putBytes 0x80400B value).mode = w.mode := (get_put_ne (by decide) _).trans hmode
    rw [hrun]
    exact latch_self ((canOccur_of_mode hreported 229).trans hoccurs)
  · rintro rfl
    exact hcode
  · rintro rfl
    exact hcode
  · rintro k rfl
    exact hcode

/-! ### The resume from HALT -/

/-- CXL.mem answers again, and the module serves in the mode of the supply band (R332). -/
def servesAgain (s : State) : State :=
  let wake := fun (q : PortState) => { q with silent := false }
  let s := ((s.modPort .a wake).modPort .b wake).put 0x700301 0
  raiseReady .b (raiseReady .a (setMode s.bandMode s))

/-- The caches drop what a halt names, and an anchor or poisoned ranges take its place: the steps of a resume before its record is cleared. -/
def halfResumed (reAnchor : Bool) (h : HaltRecord) (c : List CachedIntegrity → List CachedIntegrity) (s : State) : State :=
  let s := h.ranges.foldl (fun t r => dropCachedBlocks r.1 r.2 t) (s.put 0x700301 2)
  let s := { s with integ := { s.integ with cache := c s.integ.cache } }
  if reAnchor then writeAnchor s else poisonRanges s.stampNow h.ranges (takeStamp s)

theorem resume_eq {s : State} {h : HaltRecord} (hh : s.integ.halt = some h) (reAnchor : Bool) : ∃ c, resume reAnchor s =
    servesAgain (raise 63 { halfResumed reAnchor h c s with integ := { (halfResumed reAnchor h c s).integ with halt := none } }) := by
  unfold resume
  simp only [hh]
  exact ⟨_, rfl⟩

theorem get_halfResumed {j : Nat} (hr : ¬reportKey j) (hj : j ≠ 0x700301) (ha : j ≠ 0x70030D) (reAnchor : Bool) (h : HaltRecord)
    (c : List CachedIntegrity → List CachedIntegrity) (s : State) : (halfResumed reAnchor h c s).get j = s.get j := by
  have hdropped : Holds j (s.get j) (h.ranges.foldl (fun t r => dropCachedBlocks r.1 r.2 t) (s.put 0x700301 2)) :=
    hd_foldl (fun _ (r : Nat × Nat) ht => kp_dropCachedBlocks ⟨rfl, .inl hr⟩ r.1 r.2 ht) _ (hd_put hj rfl)
  have hanchor : Quiet kw_writeAnchor j (s.get j) := ⟨by simp [Writes.has, kw_writeAnchor, ha], .inl hr⟩
  have hnone : Quiet kw_none j (s.get j) := ⟨rfl, .inl hr⟩
  exact hd_cond (kp_writeAnchor hanchor hdropped) (kp_poisonRanges hnone _ _ (hd_takeStamp hnone hdropped))

/-! ### Service again -/

/-- Ports that CXL.mem leaves silent are not, and the record's state is cleared. -/
def woken (s : State) : State := ((s.modPort .a fun q => { q with silent := false }).modPort .b fun q => { q with silent := false }).put 0x700301 0

theorem servesAgain_eq (s : State) : servesAgain s = raiseReady .b (raiseReady .a (setMode (woken s).bandMode (woken s))) := rfl

theorem silent_woken (s : State) (p : Port) : ((woken s).port p).silent = false := by
  unfold woken
  rw [port_put]
  cases p <;> rfl

theorem get_woken {j : Nat} (hj : j ≠ 0x700301) (s : State) : (woken s).get j = s.get j :=
  (get_put_ne hj 0).trans ((get_modPort _ _ _ j).trans (get_modPort _ _ _ j))

theorem on_setMode {p : Port} {r s : State} (m : Nat) (hs : Onward p r s) : Onward p r (setMode m s) := by
  have hentered (x : Modes) : Onward p r { (s.put 0xD00102 s.mode).put 0xD00101 m with modes := x } :=
    (on_put 0xD00101 m (on_put 0xD00102 s.mode hs)).quiet (upd_modes rfl (keeps_refl _ _) x)
  exact on_cond hs (on_raise 248 ((hentered _).quiet (fr_judgeEpisode rfl (keeps_refl _ _))))

theorem on_raiseReady {p : Port} {r s : State} (q : Port) (hs : Onward p r s) : Onward p r (raiseReady q s) := by
  have hactive : Onward p r ((s.put (q.key 0x04) 1).modPort q fun v => { v with memoryActive := true }) :=
    on_modPort q (fun v => { v with memoryActive := true }) (fun _ => rfl) (on_put (q.key 0x04) 1 hs)
  exact on_cond hs (on_cond (on_raise _ (on_put _ 3 hactive)) hactive)

theorem silent_servesAgain (s : State) (p : Port) : ((servesAgain s).port p).silent = false := by
  rw [servesAgain_eq]
  exact (on_raiseReady .b (on_raiseReady .a (on_setMode _ (on_refl (woken s))))).silent.trans (silent_woken s p)

theorem mode_servesAgain (s : State) : (servesAgain s).mode = s.bandMode := by
  have hband : (woken s).bandMode = s.bandMode := by
    unfold State.bandMode
    rw [get_woken (by decide)]
  rw [servesAgain_eq, ← hband]
  exact kp_raiseReady ⟨rfl, .inl (by decide)⟩ .b (kp_raiseReady ⟨rfl, .inl (by decide)⟩ .a (mode_setMode _ _))

theorem record_servesAgain (s : State) : (servesAgain s).get 0x700301 = 0 := by
  rw [servesAgain_eq]
  exact kp_raiseReady ⟨rfl, .inl (by decide)⟩ .b (kp_raiseReady ⟨rfl, .inl (by decide)⟩ .a
    (kp_setMode ⟨rfl, .inl (by decide)⟩ _ (get_put_self _ _ _)))

theorem integ_servesAgain (s : State) : (servesAgain s).integ = s.integ := by
  have hserves : Keeps kf_setMode (woken s) (servesAgain s) :=
    fr_raiseReady rfl .b (fr_raiseReady rfl .a (fr_setMode rfl _ (keeps_refl _ (woken s))))
  have hwoken : (woken s).integ = s.integ := by
    unfold woken
    rw [integ_put, integ_modPort, integ_modPort]
  exact (hserves.integ rfl).trans hwoken

/-- An occurrence of source 63 stays latched. -/
theorem latch_servesAgain {s : State} (h : s.get (sourceKey 63 0x01) = 1) : (servesAgain s).get (sourceKey 63 0x01) = 1 := by
  have hwoken : Holds (sourceKey 63 0x01) 1 (woken s) := (get_woken (by decide) s).trans h
  rw [servesAgain_eq]
  exact kp_raiseReady ⟨rfl, .inr ⟨⟨63, rfl⟩, rfl⟩⟩ .b (kp_raiseReady ⟨rfl, .inr ⟨⟨63, rfl⟩, rfl⟩⟩ .a
    (kp_setMode ⟨rfl, .inr ⟨⟨63, rfl⟩, rfl⟩⟩ _ hwoken))

theorem halt_of_resumeFits {s : State} {v : List Byte} (h : s.actionFits 0x700202 v = true) : ∃ r, s.integ.halt = some r := by
  have hfits : (s.mode == modeHalt && (match s.integ.halt with
    | some r => bytesToNat v == 0 || r.countersOnly
    | none => false)) = true := h
  cases hhalt : s.integ.halt with
  | some r => exact ⟨r, rfl⟩
  | none =>
    rw [hhalt, Bool.and_false] at hfits
    exact absurd hfits Bool.false_ne_true

theorem resumeFromHalt_takesEffect {s u : State} {req : Req} {v : List Byte} (h : Admitted s req 0x7002 0x02 (.act v) u) :
    Completes (.resumeFromHalt req v) s fun t => Replied req (.act v) 0 t ∧ t.integ.halt = none ∧ t.get 0x700301 = 0 ∧
      (t.port .a).silent = false ∧ (t.port .b).silent = false ∧ t.mode = u.bandMode ∧ Raised 63 u t := by
  obtain ⟨r, hhalt⟩ := halt_of_resumeFits (checks_of_action (key := 0x700202) rfl (by decide +kernel) h).2
  refine completes_action (key := 0x700202) rfl rfl (by decide +kernel) h (f := resume (bytesToNat v == 1)) (fun x => rfl) fun w hw => ?_
  obtain ⟨c, hrun⟩ := resume_eq ((congrArg Integrity.halt (hw.keeps.integ rfl)).trans hhalt) (bytesToNat v == 1)
  generalize hx : ({ halfResumed (bytesToNat v == 1) r c w with
    integ := { (halfResumed (bytesToNat v == 1) r c w).integ with halt := none } } : State) = x at hrun
  have hget (j : Nat) (hr : ¬reportKey j) (hj : j ≠ 0x700301) (ha : j ≠ 0x70030D) (hn : j ≠ 0x120001) : x.get j = u.get j := by
    rw [← hx]
    exact (get_halfResumed hr hj ha _ r c w).trans (hw.get j hr hn)
  have hmode : x.mode = u.mode := hget 0xD00101 (by decide) (by decide) (by decide) (by decide)
  have hband : (raise 63 x).bandMode = u.bandMode := by
    unfold State.bandMode
    rw [get_raise (by decide), hget 0x200102 (by decide) (by decide) (by decide) (by decide)]
  rw [hrun]
  refine ⟨?_, record_servesAgain _, silent_servesAgain _ .a, silent_servesAgain _ .b, (mode_servesAgain _).trans hband, fun hoccurs => ?_⟩
  · rw [integ_servesAgain, integ_raise, ← hx]
  · exact latch_servesAgain (latch_self ((canOccur_of_mode hmode 63).trans hoccurs))

end Sys2Proof.Machine
end

section
/-! SUPPORT. The actions, together. -/

namespace Sys2Proof.Machine

/-- Settles O39: each admitted action is answered with OK, then does the work of its entry. -/
theorem storageAndRepairActions : Obligations.StorageAndRepairActions := by
  unfold Obligations.StorageAndRepairActions
  exact ⟨fun s u req v => ⟨fun h hrun => forceAbort_takesEffect h hrun, fun h => retireDie_takesEffect h, fun h => regionOffline_takesEffect h,
      fun h => regionOnline_takesEffect h, fun h => renewKeySlot_takesEffect h, fun h => sanitize_takesEffect h,
      fun h => releaseChannel_takesEffect h⟩,
    fun s u req v => ⟨fun h => clearTable_takesEffect h, fun h => writeRaw_takesEffect h,
      fun result decoded h => readRaw_takesEffect result decoded h, fun h => resumeFromHalt_takesEffect h⟩⟩

end Sys2Proof.Machine
end

section
/-! SUPPORT. The rings' rows only take order stamps, and leave the maps, the checkpoints, the directory and the rebuilds as they are (R144, R152,
R154, R238). -/

namespace Sys2Proof.Machine

/-! ### Order stamps -/

variable {p : Port} {r : State}

theorem Onward.same {s t : State} (hs : Onward p r s) (hport : t.port p = s.port p) (hstamp : t.nextStamp = s.nextStamp) : Onward p r t :=
  hs.trans ⟨congrArg PortState.ingress hport, Nat.le_of_eq hstamp.symm⟩

theorem on_setUnit (u : Nat) (x : UnitRec) {s : State} (hs : Onward p r s) : Onward p r (s.setUnit u x) := hs.same rfl rfl

theorem on_appendRecord (k : JournalKind) {s : State} (hs : Onward p r s) : Onward p r (appendRecord k s) := (on_takeStamp hs).same rfl rfl

theorem on_noteHealth {s : State} (hs : Onward p r s) : Onward p r (noteHealth s) := on_cond hs (on_raise _ (hs.same rfl rfl))

theorem on_wearOut (u : Nat) {s : State} (hs : Onward p r s) : Onward p r (wearOut u s) :=
  on_cond (on_noteHealth (on_raise _ (on_bump _ (on_bump _ (on_appendRecord _ (on_setUnit _ _ hs)))))) hs

theorem on_sectorsProgrammed (u n page : Nat) {s : State} (hs : Onward p r s) : Onward p r (sectorsProgrammed u n page s) := by
  have hdisturb {t : State} (ht : Onward p r t) : Onward p r (disturb u n t) := ht.same rfl rfl
  exact on_cond hs (on_wearOut u (on_setUnit _ _ (on_setUnit _ _ (hdisturb (on_count _ _ _ hs)))))

theorem on_programsRun (kind : OpKind) (u n bytes : Nat) {s : State} (hs : Onward p r s) : Onward p r (programsRun kind u n bytes s) :=
  on_cond hs (on_raiseTo _ _ (on_raiseTo _ _ (on_count _ _ _ (on_addTo _ _ hs))))

theorem on_ringSectorsOn (u n page : Nat) {s : State} (hs : Onward p r s) : Onward p r (ringSectorsOn u n page s) :=
  on_sectorsProgrammed _ _ _ (on_programsRun _ _ _ _ hs)

theorem on_stripeSectors (g : Ring) (stripe row n : Nat) {s : State} (hs : Onward p r s) : Onward p r (stripeSectors g stripe row n s) := by
  have hdata (share : Nat × Nat → Nat) (page : Nat) (l : List (Nat × Nat)) :
      Onward p r (l.foldl (fun t ci => ringSectorsOn (unitOf stripe ci.1) (share ci) page t) s) :=
    on_foldl (fun _ _ ht => on_ringSectorsOn _ _ _ ht) l hs
  exact on_cond (hdata _ _ _) (on_ringSectorsOn _ _ _ (hdata _ _ _))

theorem on_ringSectors (g : Ring) (stripes row n : Nat) {s : State} (hs : Onward p r s) : Onward p r (ringSectors g stripes row n s) := by
  induction stripes generalizing row n s with
  | zero => exact hs
  | succ stripes ih => exact on_cond hs (ih _ _ (on_stripeSectors _ _ _ _ hs))

theorem on_checkpointSectors (n : Nat) {s : State} (hs : Onward p r s) : Onward p r (checkpointSectors n s) :=
  (on_ringSectors _ _ _ _ hs).same rfl rfl

theorem on_journalSectors (n : Nat) {s : State} (hs : Onward p r s) : Onward p r (journalSectors n s) :=
  on_cond hs ((on_ringSectors _ _ _ _ hs).same rfl rfl)

theorem on_programEntries {s : State} (hs : Onward p r s) : Onward p r (programEntries s) := by
  have hcover : Onward p r (coverJournal s) := on_cond hs (hs.same rfl rfl)
  have hsector {t : State} (ht : Onward p r t) : Onward p r (programSector t) := on_journalSectors 1 (ht.same rfl rfl)
  exact on_cond hcover ((on_foldl (fun _ _ ht => hsector ht) _ hcover).same rfl rfl)

theorem on_programTail {s : State} (hs : Onward p r s) : Onward p r (programTail s) := by
  have hjournal {t : State} (ht : Onward p r t) : Onward p r (programJournal t) := on_journalSectors _ (ht.same rfl rfl)
  exact on_programEntries (hjournal (hjournal hs))

theorem on_journalPut (k : JournalKind) {s : State} (hs : Onward p r s) : Onward p r (journalPut k s) :=
  on_cond (on_programTail (on_appendRecord k hs)) (on_appendRecord k hs)

/-! ### The translation beside its rings -/

/-- The translation without its journal and the rows that its rings have written. -/
def State.maps (s : State) : Translation := { s.xlat with journal := [], journalRows := 0, journalSequence := 0, checkpointRows := 0 }

theorem maps_of_unjournaled {s t : State} (h : unjournaled t = unjournaled s) : t.maps = s.maps :=
  (congrArg (fun u => { u.1.xlat with checkpointRows := 0 }) h :)

theorem maps_journalPut (k : JournalKind) (s : State) : (journalPut k s).maps = s.maps := maps_of_unjournaled (unjournaled_journalPut k s)

theorem maps_programTail (s : State) : (programTail s).maps = s.maps := maps_of_unjournaled (unjournaled_programTail s)

theorem maps_checkpointSectors (n : Nat) (s : State) : (checkpointSectors n s).maps = s.maps :=
  (maps_of_unjournaled (unjournaled_ringSectors .checkpoint (n / 122880 + 2) s.xlat.checkpointRows n s) :)

theorem maps_writeTableImage (s : State) : (writeTableImage s).maps = s.maps :=
  (maps_checkpointSectors _ (takeStamp s)).trans (maps_of_unjournaled (unjournaled_takeStamp s))

end Sys2Proof.Machine
end

section
/-! SUPPORT. The checkpoint of a segment and the directory image: what they hold, and what they leave in the translation (R154, R156, R157). -/

namespace Sys2Proof.Machine

/-! ### The checkpoint of a segment -/

/-- A checkpoint of a segment holds what readers of a state see of it: its mapped pages over which no discard is pending, and its committed delta
entries (R154). -/
structure Checkpoint.Shows (cp : Checkpoint) (seg : Nat) (s : State) : Prop where
  stamp : cp.stamp = s.nextStamp
  map : cp.map = (trange (seg * 1024) 1024 s.xlat.mainMap).filter fun e => (s.discardOver e.1).isEmpty
  deltas : ∀ d, d ∈ cp.deltas ↔ d ∈ s.xlat.delta ∧ segmentOfLine d.line = seg ∧ d.grp = none ∧ s.deltaOf d.line none = some d

theorem discardOver_takeStamp (s : State) (page : Nat) : (takeStamp s).discardOver page = s.discardOver page := by
  unfold State.discardOver
  rw [xlat_takeStamp]

theorem deltaOf_takeStamp (s : State) (line : Nat) (g : Option Nat) : (takeStamp s).deltaOf line g = s.deltaOf line g := by
  unfold State.deltaOf
  simp only [xlat_takeStamp, discardOver_takeStamp]

/-- The checkpoint of a segment as `writeCheckpoint` forms it, in a state whose stamp has been taken. -/
def State.checkpointOf (s : State) (seg stamp : Nat) : Checkpoint :=
  let deltas := s.xlat.delta.filter fun d => segmentOfLine d.line == seg
  { stamp := stamp, time := s.deviceTime,
    map := (trange (seg * 1024) 1024 s.xlat.mainMap).filter fun e => (s.discardOver e.1).isEmpty,
    deltas := deltas.filter fun d => d.grp.isNone && s.deltaOf d.line none == some d,
    provisional := (deltas.filter (·.grp.isSome)).map fun d => (s.tagOfGroup d.grp, d),
    prompt := s.promptSegment seg, location := s.checkpointPlace s.xlat.checkpointRows,
    previous := match tfind seg s.xlat.checkpoints with
      | some c => c.location
      | none => 0 }

theorem checkpointOf_shows (seg : Nat) (s : State) : ((takeStamp s).checkpointOf seg s.nextStamp).Shows seg s where
  stamp := rfl
  map := by simp only [State.checkpointOf, xlat_takeStamp, discardOver_takeStamp]
  deltas d := by
    simp only [State.checkpointOf, xlat_takeStamp, deltaOf_takeStamp, List.mem_filter, Bool.and_eq_true, beq_iff_eq, Option.isNone_iff_eq_none,
      and_assoc]

/-- The state in which a checkpoint stands for a segment, which is clean. -/
def checkpointed (seg : Nat) (cp : Checkpoint) (s : State) : State :=
  { s with xlat := { s.xlat with
    checkpoints := tput seg cp s.xlat.checkpoints, dirty := tdel seg s.xlat.dirty,
    checkpointsSinceDirectory := s.xlat.checkpointsSinceDirectory + 1 } }

/-- The write of a checkpoint: it stands in the state that has taken its stamp, then goes to its rows and records, and is counted. -/
theorem writeCheckpoint_eq (seg : Nat) (s : State) : ∃ n k e, writeCheckpoint seg s = programTail (State.bump (putEntry e (journalPut k
    (checkpointSectors n (checkpointed seg ((takeStamp s).checkpointOf seg s.nextStamp) (takeStamp s))))) 0x404009) :=
  ⟨_, _, _, rfl⟩

theorem maps_writeCheckpoint (seg : Nat) (s : State) :
    (writeCheckpoint seg s).maps = (checkpointed seg ((takeStamp s).checkpointOf seg s.nextStamp) s).maps := by
  obtain ⟨n, k, e, hrun⟩ := writeCheckpoint_eq seg s
  rw [hrun, maps_programTail]
  refine (maps_journalPut k _).trans ((maps_checkpointSectors n _).trans ?_)
  unfold State.maps checkpointed
  simp only [xlat_takeStamp]

theorem counted_writeCheckpoint (seg : Nat) (s : State) : Counted 0x404009 1 s (writeCheckpoint seg s) := by
  obtain ⟨n, k, e, hrun⟩ := writeCheckpoint_eq seg s
  have hstamped : Holds 0x404009 (s.get 0x404009) (takeStamp s) := get_takeStamp (by decide)
  have hwritten := kp_putEntry ⟨rfl, .inl (by decide)⟩ e (kp_journalPut ⟨rfl, .inl (by decide)⟩ k
    (kp_checkpointSectors ⟨rfl, .inl (by decide)⟩ n
      (s := checkpointed seg ((takeStamp s).checkpointOf seg s.nextStamp) (takeStamp s)) hstamped))
  rw [hrun]
  exact kp_programTail ⟨rfl, .inl (by decide)⟩ ((get_bump_self _ _).trans (congrArg (countAfter 0x404009 · 1) hwritten))

/-- The checkpoint of a segment shows what its readers see, the segment is clean, and the checkpoint is counted. -/
theorem writeCheckpoint_takesEffect (seg : Nat) (s : State) :
    (∃ cp, tfind seg (writeCheckpoint seg s).xlat.checkpoints = some cp ∧ cp.Shows seg s) ∧
      tfind seg (writeCheckpoint seg s).xlat.dirty = none ∧ Counted 0x404009 1 s (writeCheckpoint seg s) := by
  have hcheckpoints := congrArg Translation.checkpoints (maps_writeCheckpoint seg s)
  have hdirty := congrArg Translation.dirty (maps_writeCheckpoint seg s)
  exact ⟨⟨_, (congrArg (tfind seg) hcheckpoints).trans (tfind_tput_self _ _ _), checkpointOf_shows seg s⟩,
    (congrArg (tfind seg) hdirty).trans (tfind_tdel_self _ _), counted_writeCheckpoint seg s⟩

/-! ### The directory -/

/-- Where a row of the checkpoint ring begins goes by the medium and the states of the dies. -/
theorem checkpointPlace_of_units {s t : State} (hmed : t.med = s.med) (hdie : ∀ d, t.dieState d = s.dieState d) (row : Nat) :
    t.checkpointPlace row = s.checkpointPlace row := by
  have hmembers (n : Nat) : t.members n = s.members n := by
    unfold State.members State.stripe
    rw [hmed]
  have hunit (u : Nat) : t.unit u = s.unit u := by
    unfold State.unit
    rw [hmed]
  have hwritten (n : Nat) : t.writeMembers n = s.writeMembers n := by simp only [State.writeMembers, State.leaving, hmembers, hunit, hdie]
  have hdata (n : Nat) : t.writeData n = s.writeData n := by simp only [State.writeData, State.writeParity, hwritten]
  have hstripe : t.stripeOfRow .checkpoint row = s.stripeOfRow .checkpoint row := by
    unfold State.stripeOfRow State.ringStripe
    rw [hmed]
  unfold State.checkpointPlace
  rw [hstripe]
  simp only [hdata]

theorem checkpointPlace_takeStamp (s : State) (row : Nat) : (takeStamp s).checkpointPlace row = s.checkpointPlace row :=
  checkpointPlace_of_units (med_takeStamp s) (dieState_of_unjournaled (unjournaled_takeStamp s)) row

theorem tfind_mapped {α β : Type} (f : Nat × α → β) (k : Nat) (t : Tbl α) :
    tfind k (t.map fun e => (e.1, f e)) = (tfind k t).map fun v => f (k, v) := by
  induction t with
  | nil => rfl
  | cons e t ih =>
    obtain ⟨j, v⟩ := e
    by_cases h : j = k
    · subst h
      simp [tfind]
    · simp [tfind, h, ih]

/-- Entries added for keys without one leave every entry that there is. -/
theorem tfind_foldl_absent {α β : Type} (v : β) {k : Nat} {x : β} (l : Tbl α) {t : Tbl β} (h : tfind k t = some x) :
    tfind k (l.foldl (fun t e => if (tfind e.1 t).isSome then t else tput e.1 v t) t) = some x := by
  induction l generalizing t with
  | nil => exact h
  | cons e l ih =>
    refine ih ?_
    dsimp only
    split
    · exact h
    · rename_i habsent
      have hne : k ≠ e.1 := by
        rintro rfl
        rw [h] at habsent
        exact habsent rfl
      exact (tfind_tput_ne hne v t).trans h

/-- The directory names each segment's checkpoint, with whether the segment is dirty (R157). -/
theorem tfind_directoryNow {s : State} {seg : Nat} {cp : Checkpoint} (h : tfind seg s.xlat.checkpoints = some cp) :
    tfind seg s.directoryNow = some { location := cp.location, stamp := cp.stamp, dirty := (tfind seg s.xlat.dirty).isSome } := by
  refine tfind_foldl_absent _ _ ((tfind_mapped _ seg _).trans ?_)
  rw [h]
  rfl

/-- The translation of a state as a directory image of a stamp leaves it. -/
def State.directoryWritten (s : State) (stamp : Nat) : Translation :=
  { s.xlat with
    directoryStamp := stamp, directory := s.directoryNow, superblockA := s.checkpointPlace s.xlat.checkpointRows,
    superblockB := s.checkpointPlace s.xlat.checkpointRows, checkpointsSinceDirectory := 0 }

theorem directoryWritten_takeStamp (s : State) (stamp : Nat) : (takeStamp s).directoryWritten stamp = s.directoryWritten stamp := by
  unfold State.directoryWritten State.directoryNow
  rw [checkpointPlace_takeStamp, xlat_takeStamp]

/-- The state that has taken the directory's stamp, with the directory and the image of the unit table. -/
def directoryPlaced (s : State) : State :=
  let t := takeStamp s
  { t with
    med := { t.med with unitImage := t.med.units, imagePrograms := t.med.clusterPrograms }
    xlat := t.directoryWritten s.nextStamp }

/-- The write of the directory: it stands in the state that has taken its stamp, then goes to its rows and its record, and the image of the
integrity table follows. -/
theorem writeDirectory_eq (s : State) : ∃ m n k e,
    writeDirectory s = writeTableImage (putEntry e (journalPut k (checkpointSectors m (checkpointSectors n (directoryPlaced s))))) := by
  unfold writeDirectory
  generalize sectorsOf (64 * 1048576) = m
  generalize sectorsOf (8 * 1048576) = n
  exact ⟨m, n, _, _, rfl⟩

theorem maps_writeDirectory (s : State) :
    (writeDirectory s).maps = { s with xlat := s.directoryWritten s.nextStamp }.maps := by
  obtain ⟨m, n, k, e, hrun⟩ := writeDirectory_eq s
  rw [hrun, maps_writeTableImage, ← directoryWritten_takeStamp]
  exact (maps_journalPut k _).trans ((maps_checkpointSectors m _).trans (maps_checkpointSectors n _))

/-- The image of the integrity table takes a later stamp than the directory. -/
theorem tableImageStamp_writeDirectory (s : State) : s.nextStamp < (writeDirectory s).integ.tableImageStamp := by
  obtain ⟨m, n, k, e, hrun⟩ := writeDirectory_eq s
  have hplaced : (directoryPlaced s).nextStamp = s.nextStamp + 1 := nextStamp_takeStamp s
  have hon := on_journalPut k (on_checkpointSectors m (on_checkpointSectors n (on_refl (p := .a) (directoryPlaced s))))
  have hstamps := hon.stamps
  rw [hplaced] at hstamps
  rw [hrun]
  exact hstamps

/-- What a directory image holds, and where the superblock finds it (R157). -/
theorem writeDirectory_takesEffect (s : State) :
    let t := writeDirectory s
    t.xlat.directoryStamp = s.nextStamp ∧ t.xlat.superblockA = s.checkpointPlace s.xlat.checkpointRows ∧
      t.xlat.superblockB = t.xlat.superblockA ∧ t.xlat.checkpointsSinceDirectory = 0 ∧ s.nextStamp < t.integ.tableImageStamp ∧
      ∀ seg cp, tfind seg s.xlat.checkpoints = some cp →
        tfind seg t.xlat.directory = some { location := cp.location, stamp := cp.stamp, dirty := (tfind seg s.xlat.dirty).isSome } := by
  have hmaps := maps_writeDirectory s
  have hA : (writeDirectory s).xlat.superblockA = s.checkpointPlace s.xlat.checkpointRows := (congrArg Translation.superblockA hmaps :)
  have hB : (writeDirectory s).xlat.superblockB = s.checkpointPlace s.xlat.checkpointRows := (congrArg Translation.superblockB hmaps :)
  have hdirectory : (writeDirectory s).xlat.directory = s.directoryNow := (congrArg Translation.directory hmaps :)
  exact ⟨(congrArg Translation.directoryStamp hmaps :), hA, hB.trans hA.symm, (congrArg Translation.checkpointsSinceDirectory hmaps :),
    tableImageStamp_writeDirectory s, fun seg cp h => (congrArg (tfind seg) hdirectory).trans (tfind_directoryNow h)⟩

end Sys2Proof.Machine
end

section
/-! SUPPORT. The end of a segment's rebuild: the reads that it lets go write nothing of the translation, unless they start another rebuild (R164). -/

namespace Sys2Proof.Machine

/-- The parts of the state that a read's way to the medium may write: reports and the reads. -/
def readMask : Nat := 0x38000C064

section Reads

variable {r₀ : State}

theorem reads_answerRead (x : Read) (v : Version) {s : State} (hs : Keeps readMask r₀ s) : Keeps readMask r₀ (answerRead x v s) := by
  have hdropped : Keeps readMask r₀ (dropRead x.id s) := fr_dropRead rfl _ hs
  unfold answerRead
  split
  case h_5 q tag _ =>
    have hsent := fr_sendData (μ := readMask) rfl q tag v.data v.poison hdropped
    have hdone := fr_cond (c := (x.isPrompt && (v.found == foundLog || v.found == foundPage)) = true) (fr_promptDone rfl x hsent) hsent
    exact fr_cond hdropped (fr_cond (fr_sampleRead rfl _ _ _ _ _ _ _ _ _ _ hdone) hdone)
  all_goals exact hdropped

theorem reads_placeRead (x : Read) {s : State} (hs : Keeps readMask r₀ s) : Keeps readMask r₀ (placeRead x s) := by
  have hdrop (d : Nat) {t : State} (ht : Keeps readMask r₀ t) : Keeps readMask r₀ (dropPrefetches d t) :=
    fr_cond (fr_foldl (fun _ _ hu => fr_bump rfl _ (fr_dropRead rfl _ hu)) _ ht) ht
  exact fr_cond (fr_noteReconstruction rfl _ (fr_addRead rfl _ hs)) (fr_cond (hdrop _ (fr_addRead rfl _ hs)) (hdrop _ (fr_addRead rfl _ hs)))

theorem reads_tagRead (x : Read) {s : State} (hs : Keeps readMask r₀ s) : Keeps readMask r₀ (tagRead x s) := by
  unfold tagRead
  refine fr_cond hs ?_
  split
  · exact hs
  · exact reads_placeRead _ hs

theorem reads_dispatchRead (q : Port) (x : Read) {s : State} (hs : Keeps readMask r₀ s) : Keeps readMask r₀ (dispatchRead q x s) := by
  have hearly (l : List Read) {t : State} (ht : Keeps readMask r₀ t) :
      Keeps readMask r₀ (l.foldl (fun u y => (dropRead y.id u).bump 0x407009) t) :=
    fr_foldl (fun _ _ hu => fr_bump rfl _ (fr_dropRead rfl _ hu)) l ht
  have hprompt {t : State} (ht : Keeps readMask r₀ t) : Keeps readMask r₀ (if x.isPrompt then (count1 0x09 q.code t).bump 0x408101 else t) :=
    fr_cond (fr_bump rfl _ (fr_count1 rfl _ _ ht)) ht
  unfold dispatchRead
  split
  · exact reads_placeRead _ (reads_tagRead x (hearly _ (hprompt (fr_count1 rfl _ _ hs))))
  · exact reads_placeRead _ (reads_tagRead x (hearly _ (hprompt hs)))

end Reads

theorem isRebuilt_cond {c : Prop} [Decidable c] {a b : State} {g : Nat} {v : Bool} (ha : a.isRebuilt g = v) (hb : b.isRebuilt g = v) :
    (if c then a else b).isRebuilt g = v := by
  split <;> assumption

theorem isRebuilt_startRebuild (seg g : Nat) (s : State) : (startRebuild seg s).isRebuilt g = s.isRebuilt g := by
  unfold startRebuild
  exact isRebuilt_cond rfl (isRebuilt_cond rfl rfl)

theorem isRebuilt_readMedium (q : Port) (x : Read) (g : Nat) (s : State) : (readMedium q x s).isRebuilt g = s.isRebuilt g := by
  unfold readMedium
  refine isRebuilt_cond (isRebuilt_startRebuild _ g _) ?_
  split
  · exact isRebuilt_of_xlat ((reads_answerRead _ _ (keeps_refl readMask s)).xlat rfl) g
  · exact isRebuilt_of_xlat ((reads_dispatchRead q _ (keeps_refl readMask s)).xlat rfl) g

/-- A read that looks its line up again leaves the segments that are rebuilt. -/
theorem isRebuilt_releaseReads (ready : Nat → Bool) (g : Nat) (s : State) : (releaseReads ready s).isRebuilt g = s.isRebuilt g := by
  have hread (k v : Nat) (x : Read) (t : State) : ((dropRead x.id t).raiseTo k v).isRebuilt g = t.isRebuilt g :=
    isRebuilt_of_xlat ((fr_raiseTo rfl k v (fr_dropRead rfl x.id (keeps_refl readMask t))).xlat rfl) g
  unfold releaseReads
  simp only
  generalize s.reads.filter _ = l
  induction l generalizing s with
  | nil => rfl
  | cons x l ih =>
    refine (ih _).trans ?_
    dsimp only
    split
    · exact (isRebuilt_readMedium _ _ g _).trans (hread _ _ x s)
    · exact (isRebuilt_readMedium _ _ g _).trans (hread _ _ x s)
    · exact hread _ _ x s

theorem isRebuilt_nextRebuild (g : Nat) (s : State) : (nextRebuild s).isRebuilt g = s.isRebuilt g := by
  unfold nextRebuild
  split
  · rfl
  · split <;> rfl

theorem isRebuilt_finishRebuild (seg : Nat) (s : State) : (finishRebuild seg s).isRebuilt seg = true := by
  unfold finishRebuild
  rw [isRebuilt_nextRebuild, isRebuilt_releaseReads]
  exact isRebuilt_rebuildSegment_self seg _

end Sys2Proof.Machine
end

section
/-! SUPPORT. The events of translation (R145, R154 to R157, R161, R164). -/

namespace Sys2Proof.Machine

theorem stampCeilingRaise_takesEffect {s : State} (h : s.get 0x405003 ≤ s.highestStamp + 1073741824) :
    Completes .stampCeilingRaise s fun t => t.get 0x405003 = s.get 0x405003 + 2147483648 :=
  ⟨_, if_pos h, get_put_self _ _ _⟩

/-! ### CHECKPOINT of the oldest dirty segment -/

section

variable {s : State} {seg : Nat}

theorem execCheckpoint_of_oldest (h : s.oldestDirty = some seg) : exec .checkpoint s =
    if s.checkpointable seg && (s.staging.any fun l => segmentOfLine l.line == seg) then .next (takeSegment seg s)
    else if s.checkpointable seg then .next (checkpointNow seg s)
    else if s.isRebuilt seg && decide (s.checkpointLimit seg < s.segmentEntries seg) then
      .next { s with xlat := { s.xlat with foldWanted := insertNew seg s.xlat.foldWanted } }
    else .next s := by
  show execCheckpoint s = _
  unfold execCheckpoint
  rw [h]

/-- A segment above its limit is to be folded. -/
theorem checkpoint_wantsFold (h : s.oldestDirty = some seg) (hbuilt : s.isRebuilt seg = true)
    (habove : s.checkpointLimit seg < s.segmentEntries seg) : Completes .checkpoint s fun t => seg ∈ t.xlat.foldWanted := by
  have hnot : s.checkpointable seg = false := by
    unfold State.checkpointable
    simp [Nat.not_le.mpr habove]
  refine ⟨{ s with xlat := { s.xlat with foldWanted := insertNew seg s.xlat.foldWanted } }, ?_, mem_insertNew.mpr (.inl rfl)⟩
  rw [execCheckpoint_of_oldest h]
  simp only [hnot, hbuilt, habove, Bool.false_and, Bool.false_eq_true, if_false, decide_true, Bool.and_self, if_true]

/-- The staged lines of the segment are logged first. -/
theorem checkpoint_takesStaged (h : s.oldestDirty = some seg) (hable : s.checkpointable seg = true)
    (hstaged : ∃ l ∈ s.staging, segmentOfLine l.line = seg) : Completes .checkpoint s fun t =>
      (∀ l ∈ t.staging, segmentOfLine l.line = seg → l.taken = true) ∧ t.xlat.checkpoints = s.xlat.checkpoints := by
  have hany : (s.staging.any fun l => segmentOfLine l.line == seg) = true := by simpa using hstaged
  refine ⟨takeSegment seg s, ?_, fun l hl hline => ?_, rfl⟩
  · rw [execCheckpoint_of_oldest h, hable, hany]
    rfl
  · obtain ⟨x, -, hx⟩ := List.mem_map.mp hl
    by_cases hseg : segmentOfLine x.line = seg
    · rw [if_pos (beq_iff_eq.mpr hseg)] at hx
      exact hx ▸ rfl
    · rw [if_neg (mt beq_iff_eq.mp hseg)] at hx
      exact absurd (hx ▸ hline) hseg

/-- Without staged lines of the segment, and with no write-back batch to come before it, the checkpoint is written; after 64 the directory goes
first. -/
theorem checkpoint_writes (h : s.oldestDirty = some seg) (hable : s.checkpointable seg = true)
    (hstaged : ∀ l ∈ s.staging, segmentOfLine l.line ≠ seg) (hbatch : s.batchFirst seg = false) :
    exec .checkpoint s = .next (writeCheckpoint seg (if 64 ≤ s.xlat.checkpointsSinceDirectory then writeDirectory s else s)) := by
  have hnone : (s.staging.any fun l => segmentOfLine l.line == seg) = false := by simpa using hstaged
  have hnow : checkpointNow seg s = writeCheckpoint seg (if 64 ≤ s.xlat.checkpointsSinceDirectory then writeDirectory s else s) := by
    unfold checkpointNow
    rw [hbatch]
    rfl
  rw [execCheckpoint_of_oldest h, hable, hnone, ← hnow]
  rfl

/-- After 64 checkpoints the directory image goes first, and the checkpoint is the first since. -/
theorem directoryFirst_takesEffect (seg : Nat) (s : State) : (writeCheckpoint seg (writeDirectory s)).xlat.directoryStamp = s.nextStamp ∧
    (writeCheckpoint seg (writeDirectory s)).xlat.checkpointsSinceDirectory = 1 := by
  have hmaps := maps_writeCheckpoint seg (writeDirectory s)
  obtain ⟨hstamp, -, -, hcount, -⟩ := writeDirectory_takesEffect s
  exact ⟨(congrArg Translation.directoryStamp hmaps :).trans hstamp,
    (congrArg Translation.checkpointsSinceDirectory hmaps :).trans (congrArg (· + 1) hcount)⟩

end

/-! ### DIRECTORY_IMAGE, DEMAND_REBUILD and SEGMENT_REBUILT -/

theorem directoryImage_runs {s : State} (h : 0 < s.tokenBudget) : exec .directoryImage s = .next (writeDirectory s) :=
  if_neg (Nat.ne_of_gt h)

theorem demandRebuild_runs {seg : Nat} {s : State} (hseg : seg < 1048576) (hbuilt : s.isRebuilt seg = false) (hrun : seg ∉ s.xlat.rebuilding)
    (hwait : seg ∉ s.xlat.rebuildQueue) : exec (.demandRebuild seg) s = .next (if s.xlat.rebuilding.length < 16 then
      State.bump { s with xlat := { s.xlat with rebuilding := s.xlat.rebuilding ++ [seg] } } 0x404105
      else { s with xlat := { s.xlat with rebuildQueue := s.xlat.rebuildQueue ++ [seg] } }) := by
  have hnew : ¬(s.isRebuilt seg || s.xlat.rebuilding.contains seg || s.xlat.rebuildQueue.contains seg) = true := by simp [hbuilt, hrun, hwait]
  exact (if_pos hseg).trans (congrArg Host.Outcome.next (if_neg hnew))

theorem demandRebuild_starts {seg : Nat} {s : State} (hseg : seg < 1048576) (hbuilt : s.isRebuilt seg = false) (hrun : seg ∉ s.xlat.rebuilding)
    (hwait : seg ∉ s.xlat.rebuildQueue) (hroom : s.xlat.rebuilding.length < 16) :
    Completes (.demandRebuild seg) s fun t => seg ∈ t.xlat.rebuilding ∧ Counted 0x404105 1 s t :=
  ⟨_, (demandRebuild_runs hseg hbuilt hrun hwait).trans (congrArg Host.Outcome.next (if_pos hroom)), List.mem_append_right _ (.head _),
    get_bump_self _ _⟩

theorem demandRebuild_waits {seg : Nat} {s : State} (hseg : seg < 1048576) (hbuilt : s.isRebuilt seg = false) (hrun : seg ∉ s.xlat.rebuilding)
    (hwait : seg ∉ s.xlat.rebuildQueue) (hfull : 16 ≤ s.xlat.rebuilding.length) :
    Completes (.demandRebuild seg) s fun t => t.xlat.rebuildQueue = s.xlat.rebuildQueue ++ [seg] :=
  ⟨_, (demandRebuild_runs hseg hbuilt hrun hwait).trans (congrArg Host.Outcome.next (if_neg (Nat.not_lt.mpr hfull))), rfl⟩

theorem segmentRebuilt_takesEffect {seg : Nat} {s : State} (hseg : seg < 1048576) (hbuilt : s.isRebuilt seg = false) :
    Completes (.segmentRebuilt seg) s fun t => t.isRebuilt seg = true :=
  ⟨_, if_neg (by simp [hbuilt, hseg]), isRebuilt_finishRebuild seg s⟩

/-- Settles O45: a checkpoint shows what readers of its segment see at its stamp (log 47: the directory's place is where the next row of the
checkpoint ring begins, the model's choice), and what goes to the rings leaves the translation beside them. -/
theorem translationIsKept : Obligations.TranslationIsKept := by
  unfold Obligations.TranslationIsKept
  refine fun s => ⟨stampCeilingRaise_takesEffect, fun seg hold => ⟨checkpoint_wantsFold hold, checkpoint_takesStaged hold,
      fun hable hstaged hbatch => ⟨fun hfew => ?_, fun hmany => ?_⟩⟩,
    fun hbudget => ⟨_, directoryImage_runs hbudget, writeDirectory_takesEffect s⟩,
    fun seg hseg hbuilt hrun hwait => ⟨demandRebuild_starts hseg hbuilt hrun hwait, demandRebuild_waits hseg hbuilt hrun hwait⟩,
    fun seg => segmentRebuilt_takesEffect⟩
  · have hwrites := checkpoint_writes hold hable hstaged hbatch
    rw [if_neg (Nat.not_le.mpr hfew)] at hwrites
    obtain ⟨⟨cp, hfind, hshows⟩, hclean, hcounted⟩ := writeCheckpoint_takesEffect seg s
    exact ⟨_, hwrites, ⟨cp, hfind, hshows.stamp, hshows.map, hshows.deltas⟩, hclean, hcounted⟩
  · have hwrites := checkpoint_writes hold hable hstaged hbatch
    rw [if_pos hmany] at hwrites
    exact ⟨_, hwrites, directoryFirst_takesEffect seg s⟩

end Sys2Proof.Machine
end

section
/-! SUPPORT. The log writer: what the dispatch of a row places, and what the hold of a staged line's expiry takes (R180, R237, R238). -/

namespace Sys2Proof.Machine

/-! ### The staging hold -/

theorem stagingHoldExpiry_takes (s : State) (line : Nat) (g : Option (Fin 262144)) : Completes (.stagingHoldExpiry line g) s fun t =>
    ∀ l ∈ s.staging, if l.line = line ∧ l.grp = g.map (·.val) ∧ l.wmode = 0 then { l with taken := true } ∈ t.staging else l ∈ t.staging := by
  refine ⟨_, rfl, fun l hl => ?_⟩
  split
  · rename_i htaken
    obtain ⟨hline, hgrp, hmode⟩ := htaken
    exact List.mem_map.mpr ⟨l, hl, by simp [hline, hgrp, hmode]⟩
  · rename_i hstays
    refine List.mem_map.mpr ⟨l, hl, if_neg fun h => hstays ?_⟩
    simpa [and_assoc] using h

/-! ### The full log -/

/-- The log's fullness is noted in its episode alone (R245). -/
theorem med_checkLogFull (s : State) : ∃ since reported, (checkLogFull s).med = { s.med with fullSince := since, fullReported := reported } := by
  unfold checkLogFull State.raiseTo
  split
  · split
    · simp only
      split
      · exact ⟨_, _, rfl⟩
      · exact ⟨_, _, med_raise _ _⟩
    · split
      · exact ⟨_, _, rfl⟩
      · exact ⟨_, _, rfl⟩
  · split
    · exact ⟨_, _, rfl⟩
    · simp only
      split
      · exact ⟨_, _, rfl⟩
      · exact ⟨_, _, rfl⟩

/-! ### The lines of a row -/

theorem length_placeMoves (mark q : Nat) (moves : List LogMove) (acc : List LogLine) (s : State) :
    (placeMoves mark q moves acc s).1.length = acc.length + moves.length := by
  induction moves generalizing q acc s with
  | nil => rfl
  | cons m moves ih =>
    unfold placeMoves
    simp only [ih, List.length_append, List.length_cons, List.length_nil]
    omega

theorem length_placeStaged (mark q : Nat) (staged : List Staged) (acc : List LogLine) (s : State) :
    (placeStaged mark q staged acc s).1.length = acc.length + staged.length := by
  induction staged generalizing q acc s with
  | nil => rfl
  | cons x staged ih =>
    unfold placeStaged
    simp only [ih, List.length_append, List.length_cons, List.length_nil]
    omega

/-- Of the medium, only the copies that wait to be moved differ. -/
def MovesAlone (s t : State) : Prop := ∃ moves, t.med = { s.med with moves := moves }

section MovesAlone

variable {r : State}

theorem MovesAlone.quiet {μ : Nat} {s t : State} (hs : MovesAlone r s) (h : Keeps μ s t) (hmed : μ.testBit 25 = false := by rfl) :
    MovesAlone r t := by
  obtain ⟨moves, hs⟩ := hs
  exact ⟨moves, (h.med hmed).trans hs⟩

theorem movesAlone_reEncrypt (line : Nat) {s : State} (hs : MovesAlone r s) : MovesAlone r (reEncrypt line s) := by
  have hend (k : IntegrityKind) (page : Nat) (g : Integrity) (l : List LogMove) {t : State} (ht : MovesAlone r t) :
      MovesAlone r (raise 60 ((putEntry k (touchBlock page { t with integ := g, med := { t.med with moves := l } })).bump 0x700306)) := by
    obtain ⟨moves, hmed⟩ := ht
    refine MovesAlone.quiet (s := { t with integ := g, med := { t.med with moves := l } }) (μ := 0x184000064) ⟨l, by rw [hmed]⟩ ?_
    exact fr_raise rfl 60 (fr_bump rfl _ (fr_putEntry rfl k (fr_touchBlock rfl page (keeps_refl _ _))))
  unfold reEncrypt
  exact hend _ _ _ _ (hs.quiet (fr_foldl (μ := kf_agentReads) (fun _ x ht => fr_agentReads rfl clsBackground x.1 1 ht) _ (keeps_refl _ s)))

theorem movesAlone_fetchLine (obj : IntegrityObject) {s : State} (hs : MovesAlone r s) : MovesAlone r (fetchLine obj s) :=
  hs.quiet (fr_fetchLine (μ := kf_fetchLine) rfl obj (keeps_refl _ s))

theorem movesAlone_takeSeal (line : Nat) (tag : Option Nat) (stamp : Nat) (preset : Option Seal) {s : State} (hs : MovesAlone r s) :
    MovesAlone r (takeSeal line tag stamp preset s).2 := by
  have htouched (obj : IntegrityObject) {t : State} (ht : MovesAlone r t) : MovesAlone r (touchIntegrity obj t) :=
    ht.quiet (fr_touchIntegrity (μ := kf_touchIntegrity) rfl obj (keeps_refl _ t))
  have hcounted {t : State} (g : Integrity) (ht : MovesAlone r t) : MovesAlone r { t with integ := g } := ht
  unfold takeSeal
  split
  · exact htouched _ (movesAlone_fetchLine _ hs)
  · split
    · exact hs
    · have hfetched := movesAlone_fetchLine (.tagLine (line / 8)) (movesAlone_fetchLine (.counterBlock (pageOfLine line)) hs)
      refine htouched _ (MovesAlone.quiet ?_ (fr_touchBlock (μ := kf_touchBlock) rfl _ (keeps_refl _ _)))
      split
      · exact movesAlone_reEncrypt line hfetched
      · exact hcounted _ hfetched

theorem movesAlone_sealInto (place line : Nat) (grp tag : Option Nat) (data : Line) (poison : Bool) (stamp : Nat) (preset : Option Seal)
    {s : State} (hs : MovesAlone r s) : MovesAlone r (sealInto place line grp tag data poison stamp preset s).2 := by
  have hsealed := movesAlone_takeSeal line tag stamp preset hs
  unfold sealInto
  simp only
  split
  · exact (movesAlone_fetchLine _ hsealed).quiet (fr_touchIntegrity (μ := kf_touchIntegrity) rfl _ (keeps_refl _ _))
  · exact hsealed

theorem movesAlone_placeMoves (mark q : Nat) (moves : List LogMove) (acc : List LogLine) {s : State} (hs : MovesAlone r s) :
    MovesAlone r (placeMoves mark q moves acc s).2 := by
  induction moves generalizing q acc s with
  | nil => exact hs
  | cons m moves ih =>
    have hstamped : MovesAlone r (moveStamp m s).2 := hs.quiet (fr_moveStamp (μ := kf_moveStamp) rfl m (keeps_refl _ s))
    exact ih _ _ (movesAlone_sealInto (mark * 45 + q) m.line m.grp m.groupTag m.data m.poison (moveStamp m s).1 m.preset hstamped)

theorem movesAlone_placeStaged (mark q : Nat) (staged : List Staged) (acc : List LogLine) {s : State} (hs : MovesAlone r s) :
    MovesAlone r (placeStaged mark q staged acc s).2 := by
  induction staged generalizing q acc s with
  | nil => exact hs
  | cons x staged ih =>
    exact ih _ _ (movesAlone_sealInto (mark * 45 + q) x.line x.grp x.tag x.data x.poison (if x.tag.isSome then x.orig else x.stamp) none hs)

end MovesAlone

/-- No key of those written is an entry of a die. -/
def Writes.sparesDies (w : Writes) : Bool :=
  w.keys.all (fun n => n < 0x620000 || 0x624000 ≤ n) && w.spans.all fun x => x.2.1 ≤ 0x620000 || 0x624000 ≤ x.1

theorem quiet_dieState {w : Writes} (h : w.sparesDies = true) (d v : Nat) : Quiet w (dieKey d 0x01) v := by
  have hd : 0x620000 ≤ dieKey d 0x01 ∧ dieKey d 0x01 < 0x624000 := by
    unfold dieKey
    omega
  simp only [Writes.sparesDies, Bool.and_eq_true, List.all_eq_true, Bool.or_eq_true, decide_eq_true_eq] at h
  obtain ⟨hkeys, hspans⟩ := h
  refine ⟨Bool.or_eq_false_iff.mpr ⟨?_, List.any_eq_false.mpr fun x hx => ?_⟩, .inl (not_reportKey_dieKey d (by decide))⟩
  · rw [List.contains_eq_mem, decide_eq_false_iff_not]
    intro hmem
    have := hkeys _ hmem
    omega
  · have := hspans x hx
    simp only [Bool.and_eq_true, Nat.ble_eq, Nat.blt_eq]
    omega

/-- The members that are written follow from the stripes, the units and the states of the dies (R239, R285). -/
theorem writeMembers_of_movesAlone {s t : State} (h : MovesAlone s t) (hdie : ∀ d, t.dieState d = s.dieState d) (stripe : Nat) :
    t.writeMembers stripe = s.writeMembers stripe := by
  obtain ⟨moves, hmed⟩ := h
  simp only [State.writeMembers, State.leaving, State.members, State.stripe, State.unit, hmed, hdie]

/-! ### The dispatch -/

/-- Each member has its program among those that are queued. -/
theorem exists_job_of_member {ch : Nat} {members : List Nat} (h : ch ∈ members) (first stripe : Nat) (kind : OpKind) (owner : Owner) :
    ∃ j ∈ members.zipIdx.map fun (c, i) => ({ id := first + i, unit := unitOf stripe c, kind := kind, owner := owner } : Job),
      j.unit = unitOf stripe ch ∧ j.kind = kind ∧ j.owner = owner := by
  obtain ⟨i, hi⟩ := List.getElem?_of_mem h
  exact ⟨_, List.mem_map.mpr ⟨(ch, i), List.mk_mem_zipIdx_iff_getElem?.mpr hi, rfl⟩, rfl, rfl, rfl⟩

/-- What the dispatch of the row at the head comes to (R237, R238). -/
structure RowDispatched (s t : State) : Prop where
  head : t.med.head = s.med.head + 1
  row : ∃ r ∈ t.med.rows, r.mark = s.med.head ∧ r.complete = false ∧ r.starts = [] ∧ r.data = s.writeData (s.rowStripe s.med.head) ∧
    r.lines.length = min (s.rowPlaces (s.rowStripe s.med.head)) s.readyCount
  jobs : ∀ ch ∈ s.writeMembers (s.rowStripe s.med.head), ∃ j ∈ t.med.jobs,
    j.unit = unitOf (s.rowStripe s.med.head) ch ∧ j.kind = .sl ∧ j.owner = .row s.med.head

/-- The lines of a row are placed without a change to the members that its stripe writes. -/
theorem writeMembers_placed (mark : Nat) (moves : List LogMove) (staged : List Staged) (waiting : List LogMove) (s : State) (stripe : Nat) :
    let t := (placeMoves mark 0 moves [] { s with med := { s.med with moves := waiting } })
    (placeStaged mark moves.length staged t.1 t.2).2.writeMembers stripe = s.writeMembers stripe := by
  refine writeMembers_of_movesAlone (movesAlone_placeStaged _ _ _ _ (movesAlone_placeMoves _ _ _ _ ⟨waiting, rfl⟩)) (fun d => ?_) stripe
  exact kp_placeStaged (quiet_dieState rfl d _) mark moves.length staged _ (kp_placeMoves (quiet_dieState rfl d _) mark 0 moves [] rfl)

theorem dispatchRow_dispatches (s : State) : RowDispatched s (dispatchRow s) := by
  unfold dispatchRow
  simp only
  obtain ⟨since, reported, hmed⟩ := med_checkLogFull _
  refine ⟨by rw [hmed], ?_, fun ch hch => ?_⟩
  · rw [hmed]
    refine ⟨_, List.mem_append_right _ (.head _), rfl, rfl, rfl, rfl, ?_⟩
    simp only [length_placeStaged, length_placeMoves, List.length_take, List.length_nil, State.readyCount]
    omega
  · rw [hmed]
    rw [← writeMembers_placed s.med.head] at hch
    generalize placeStaged _ _ _ _ _ = placed at hch ⊢
    obtain ⟨j, hj, hprograms⟩ := exists_job_of_member hch _ (s.rowStripe s.med.head) .sl (.row s.med.head)
    exact ⟨j, List.mem_append.mpr (.inr hj), hprograms⟩

/-- Lines that find their home bucket full only ask for folds (R205). -/
theorem noteCrowded_eq (s : State) : ∃ wanted, noteCrowded s = { s with xlat := { s.xlat with foldWanted := wanted } } := by
  have hfold (l : List Staged) (wanted : List Nat) :
      ∃ w, l.foldl (fun t x => wantFold x.line t) { s with xlat := { s.xlat with foldWanted := wanted } } =
        { s with xlat := { s.xlat with foldWanted := w } } := by
    induction l generalizing wanted with
    | nil => exact ⟨wanted, rfl⟩
    | cons x l ih =>
      rw [List.foldl_cons]
      unfold wantFold
      simp only
      split
      · exact ih wanted
      · exact ih _
  exact hfold s.crowdedLines s.xlat.foldWanted

theorem rowDispatched_noteCrowded (s : State) : RowDispatched s (dispatchRow (noteCrowded s)) := by
  have h := dispatchRow_dispatches (noteCrowded s)
  obtain ⟨wanted, hnoted⟩ := noteCrowded_eq s
  rw [hnoted] at h ⊢
  exact ⟨h.head, h.row, h.jobs⟩

/-- A row is dispatched once a whole row is ready, or at the close time with what is ready. -/
theorem rowCommand_dispatches {s : State} {c : Instr} (hopen : s.rowOpen = true)
    (hready : (c = .logRowDispatch ∧ s.rowPlaces (s.rowStripe s.med.head) ≤ s.readyCount) ∨ (c = .logRowCloseTime ∧ 0 < s.readyCount)) :
    Completes c s (RowDispatched s) := by
  obtain ⟨wanted, hnoted⟩ := noteCrowded_eq s
  have hopen' : (noteCrowded s).rowOpen = true := by rw [hnoted]; exact hopen
  refine ⟨dispatchRow (noteCrowded s), ?_, rowDispatched_noteCrowded s⟩
  rcases hready with ⟨rfl, hwhole⟩ | ⟨rfl, hsome⟩
  · have hwhole' : (noteCrowded s).rowPlaces ((noteCrowded s).rowStripe (noteCrowded s).med.head) ≤ (noteCrowded s).readyCount := by
      rw [hnoted]; exact hwhole
    exact if_pos (by rw [hopen', decide_eq_true hwhole']; rfl)
  · have hsome' : 0 < (noteCrowded s).readyCount := by rw [hnoted]; exact hsome
    exact if_pos (by rw [hopen', decide_eq_true hsome']; rfl)

end Sys2Proof.Machine
end

section
/-! SUPPORT. What the journal's programs leave beside the journal: which log rows are complete, and how many operations have failed on each
channel (R237, R287, R316). -/

namespace Sys2Proof.Machine

/-- Which log rows are complete, and how many operations of each channel have failed. -/
def State.outcomes (s : State) : List (Nat × Bool) × (Nat → Nat) :=
  (s.med.rows.map fun r => (r.mark, r.complete), fun c => s.get (channelKey c 0x05))

theorem rows_of_outcomes {s t : State} (h : t.outcomes = s.outcomes) :
    (t.med.rows.map fun r => (r.mark, r.complete)) = s.med.rows.map fun r => (r.mark, r.complete) := congrArg Prod.fst h

theorem failures_of_outcomes {s t : State} (h : t.outcomes = s.outcomes) (c : Nat) : t.get (channelKey c 0x05) = s.get (channelKey c 0x05) :=
  congrFun (congrArg Prod.snd h) c

theorem outcomes_ite (c : Prop) [Decidable c] (a b : State) : (if c then a else b).outcomes = if c then a.outcomes else b.outcomes := by
  split <;> rfl

theorem outcomes_foldl {α : Type} (f : State → α → State) (h : ∀ t a, (f t a).outcomes = t.outcomes) (l : List α) (s : State) :
    (l.foldl f s).outcomes = s.outcomes := by
  induction l generalizing s with
  | nil => rfl
  | cons a l ih => exact (ih _).trans (h s a)

/-! ### Reports and registers -/

theorem outcomes_of_med {s t : State} (hmed : t.med = s.med) (hget : ∀ c, t.get (channelKey c 0x05) = s.get (channelKey c 0x05)) :
    t.outcomes = s.outcomes := by
  unfold State.outcomes
  rw [hmed, funext hget]

theorem not_reportKey_channelKey (c : Nat) : ¬reportKey (channelKey c 0x05) := by
  unfold channelKey reportKey
  omega

theorem outcomes_raise (src : Nat) (s : State) : (raise src s).outcomes = s.outcomes :=
  outcomes_of_med (med_raise src s) fun c => get_raise (not_reportKey_channelKey c)

theorem outcomes_count (code q n : Nat) (s : State) : (count code q n s).outcomes = s.outcomes :=
  outcomes_of_med (med_count code q n s) fun c => get_count (not_reportKey_channelKey c)

theorem outcomes_put {k : Nat} (hk : ∀ c, channelKey c 0x05 ≠ k) (v : Nat) (s : State) : (s.put k v).outcomes = s.outcomes :=
  outcomes_of_med rfl fun c => get_put_ne (hk c) v

theorem outcomes_addTo {k : Nat} (hk : ∀ c, channelKey c 0x05 ≠ k) (n : Nat) (s : State) : (s.addTo k n).outcomes = s.outcomes :=
  outcomes_put hk _ s

theorem outcomes_bump {k : Nat} (hk : ∀ c, channelKey c 0x05 ≠ k) (s : State) : (s.bump k).outcomes = s.outcomes := outcomes_put hk _ s

theorem outcomes_raiseTo {k : Nat} (hk : ∀ c, channelKey c 0x05 ≠ k) (v : Nat) (s : State) : (s.raiseTo k v).outcomes = s.outcomes := by
  unfold State.raiseTo
  simp only [outcomes_ite, outcomes_put hk, ite_self]

theorem channelKey_ne {sub : Nat} (h : sub < 256) (h5 : sub ≠ 0x05) (c d : Nat) : channelKey d 0x05 ≠ channelKey c sub := by
  unfold channelKey
  omega

/-- A key above or below the entries of the channels is none of them. -/
theorem channelKey_ne_of_outside {k : Nat} (h : k < 0x612000 ∨ 0x613000 ≤ k) (c : Nat) : channelKey c 0x05 ≠ k := by
  unfold channelKey
  omega

theorem outcomes_takeStamp (s : State) : (takeStamp s).outcomes = s.outcomes :=
  outcomes_of_med ((fr_takeStamp (μ := kf_takeStamp) rfl (keeps_refl _ s)).med rfl)
    fun c => get_takeStamp (channelKey_ne_of_outside (by decide) c)

/-! ### Programs -/

theorem outcomes_noteHealth (s : State) : (noteHealth s).outcomes = s.outcomes := by
  have hraise (h : Nat) : (raise 247 { s with med := { s.med with health := h } }).outcomes = s.outcomes := (outcomes_raise 247 _).trans rfl
  unfold noteHealth
  simp only [outcomes_ite, hraise, ite_self]

theorem outcomes_appendRecord (k : JournalKind) (s : State) : (appendRecord k s).outcomes = s.outcomes := outcomes_takeStamp s

theorem outcomes_setUnit (s : State) (u : Nat) (r : UnitRec) : (s.setUnit u r).outcomes = s.outcomes := rfl

theorem outcomes_addCycles (u n : Nat) (s : State) : (addCycles u n s).outcomes = s.outcomes := rfl

theorem outcomes_disturb (u n : Nat) (s : State) : (disturb u n s).outcomes = s.outcomes := rfl

theorem outcomes_retiredUnit (u : Nat) (s : State) : ((s.bump 0x619004).bump (dieKey (dieOfUnit u) 0x02)).outcomes = s.outcomes := by
  have hdie (c : Nat) : channelKey c 0x05 ≠ dieKey (dieOfUnit u) 0x02 := channelKey_ne_of_outside (by unfold dieKey; omega) c
  rw [outcomes_bump hdie, outcomes_bump (channelKey_ne_of_outside (by decide))]

theorem outcomes_wearOut (u : Nat) (s : State) : (wearOut u s).outcomes = s.outcomes := by
  unfold wearOut
  simp only [outcomes_ite, outcomes_noteHealth, outcomes_raise, outcomes_retiredUnit, outcomes_appendRecord, outcomes_setUnit, ite_self]

theorem outcomes_sectorsProgrammed (u n page : Nat) (s : State) : (sectorsProgrammed u n page s).outcomes = s.outcomes := by
  unfold sectorsProgrammed
  simp only [outcomes_ite, outcomes_wearOut, outcomes_addCycles, outcomes_setUnit, outcomes_disturb, outcomes_count, ite_self]

theorem outcomes_programsRun (kind : OpKind) (u n bytes : Nat) (s : State) : (programsRun kind u n bytes s).outcomes = s.outcomes := by
  unfold programsRun
  simp only [outcomes_ite, outcomes_raiseTo (channelKey_ne_of_outside (k := 0x611003) (by decide)),
    outcomes_raiseTo (channelKey_ne (sub := 0x03) (by decide) (by decide) _), outcomes_count,
    outcomes_addTo (channelKey_ne (sub := 0x01) (by decide) (by decide) _), ite_self]

theorem outcomes_stripeSectors (g : Ring) (stripe row n : Nat) (s : State) : (stripeSectors g stripe row n s).outcomes = s.outcomes := by
  have hsector (u n page : Nat) (t : State) : (ringSectorsOn u n page t).outcomes = t.outcomes :=
    (outcomes_sectorsProgrammed _ _ _ _).trans (outcomes_programsRun _ _ _ _ _)
  unfold stripeSectors
  simp only [outcomes_ite, hsector, outcomes_foldl _ (fun t a => hsector _ _ _ t), ite_self]

theorem outcomes_ringSectors (g : Ring) (stripes row n : Nat) (s : State) : (ringSectors g stripes row n s).outcomes = s.outcomes := by
  induction stripes generalizing row n s with
  | zero => rfl
  | succ stripes ih =>
    unfold ringSectors
    simp only [outcomes_ite, ih, outcomes_stripeSectors, ite_self]

/-! ### The journal -/

theorem outcomes_journalSectors (n : Nat) (s : State) : (journalSectors n s).outcomes = s.outcomes := by
  have h := outcomes_ringSectors .journal (n / 122880 + 2) s.xlat.journalRows n s
  unfold journalSectors
  simp only [outcomes_ite]
  exact (congrArg (ite _ _) h).trans (ite_self _)

theorem outcomes_coverJournal (s : State) : (coverJournal s).outcomes = s.outcomes := by
  unfold coverJournal
  simp only [outcomes_ite]
  exact ite_self _

theorem outcomes_programSector (s : State) : (programSector s).outcomes = s.outcomes := outcomes_journalSectors 1 _

/-- The copies of complete rows may be taken as sources, which completes no row (R316). -/
theorem outcomes_programEntries (s : State) : (programEntries s).outcomes = s.outcomes := by
  have hsectors (n : Nat) : ((List.range n).foldl (fun t _ => programSector t) (coverJournal s)).outcomes = s.outcomes :=
    (outcomes_foldl _ (fun t _ => outcomes_programSector t) _ _).trans (outcomes_coverJournal s)
  have hdone (t : State) (g : Integrity) : State.outcomes { t with
      med := { t.med with rows := t.med.rows.map fun r =>
        if r.complete then { r with lines := r.lines.map fun l => { l with entryDone := true } } else r },
      integ := g } = t.outcomes := by
    have hrows : ((t.med.rows.map fun r =>
        if r.complete then { r with lines := r.lines.map fun l => { l with entryDone := true } } else r).map
          fun r => (r.mark, r.complete)) = t.med.rows.map fun r => (r.mark, r.complete) := by
      rw [List.map_map]
      refine List.map_congr_left fun r _ => ?_
      simp only [Function.comp]
      split <;> rfl
    exact Prod.ext hrows rfl
  unfold programEntries
  simp only [outcomes_ite, outcomes_coverJournal, hdone, hsectors, ite_self]

theorem outcomes_programTail (s : State) : (programTail s).outcomes = s.outcomes := by
  have h (t : State) : (programJournal t).outcomes = t.outcomes := outcomes_journalSectors _ _
  exact (outcomes_programEntries _).trans ((h _).trans (h s))

theorem outcomes_journalPut (k : JournalKind) (s : State) : (journalPut k s).outcomes = s.outcomes := by
  unfold journalPut
  simp only [outcomes_ite, outcomes_programTail, outcomes_appendRecord, ite_self]

/-! ### Units that fail or are reset -/

theorem outcomes_recordUnit (u : Nat) (s : State) : (recordUnit u s).outcomes = s.outcomes := outcomes_journalPut _ s

theorem outcomes_setUnitState (u state : Nat) (s : State) : (setUnitState u state s).outcomes = s.outcomes := by
  unfold setUnitState
  simp only [outcomes_ite, outcomes_raise, outcomes_retiredUnit, outcomes_recordUnit, outcomes_setUnit, ite_self]

theorem outcomes_lastingFault (u : Nat) (s : State) : (lastingFault u s).outcomes = s.outcomes := by
  unfold lastingFault
  simp only [outcomes_ite, outcomes_noteHealth, outcomes_setUnitState, outcomes_setUnit, ite_self]

theorem outcomes_notePool (s : State) : (notePool s).outcomes = s.outcomes := by
  have hurgent (b : Bool) (t : State) : State.outcomes { t with med := { t.med with urgent := b } } = t.outcomes := rfl
  have hcritical (b : Bool) (t : State) : State.outcomes { t with med := { t.med with critical := b } } = t.outcomes := rfl
  unfold notePool
  simp only [outcomes_ite, hcritical, hurgent, outcomes_raise, ite_self]

theorem outcomes_finishReset (stripe : Nat) (s : State) : (finishReset stripe s).outcomes = s.outcomes := by
  have hstripe (r : StripeRec) (ml : Tbl MlSlot) (footers : Tbl PageFooter) : State.outcomes { s.setStripe stripe r with
      med := { (s.setStripe stripe r).med with ml := ml, footers := footers } } = s.outcomes := rfl
  have hdemoted : ∀ c, channelKey c 0x05 ≠ 0x618005 := channelKey_ne_of_outside (by decide)
  unfold finishReset
  simp only [outcomes_noteHealth, outcomes_notePool]
  split
  · simp only [outcomes_foldl _ (fun t a => outcomes_setUnitState _ _ t), outcomes_ite, outcomes_raise, outcomes_bump hdemoted, hstripe, ite_self]
  · split
    · have hmember (t : State) (a : Nat) :
          (if (t.unit (unitOf stripe a)).state = 0 then setUnitState (unitOf stripe a) 1 t else t).outcomes = t.outcomes := by
        simp only [outcomes_ite, outcomes_setUnitState, ite_self]
      simp only [outcomes_foldl _ hmember, outcomes_ite, outcomes_raise, outcomes_bump hdemoted, hstripe, ite_self]
    · simp only [outcomes_ite, outcomes_raise, outcomes_bump hdemoted, hstripe, ite_self]

end Sys2Proof.Machine
end

section
/-! SUPPORT. The completion of a log row: where its lines are found once its programs have ended (R180, R237, R253). -/

namespace Sys2Proof.Machine

/-- A fold over a list with one turning element: what holds before it, whatever the others do, turns there into what then stays. -/
theorem foldl_turns {α β : Type} {f : β → α → β} {before after : β → Prop} {l : List α} {a : α} (ha : a ∈ l)
    (hwaits : ∀ b ∈ l, b ≠ a → ∀ t, before t → before (f t b)) (hturns : ∀ t, before t → after (f t a))
    (hstays : ∀ b ∈ l, ∀ t, after t → after (f t b)) {s : β} (hs : before s) : after (l.foldl f s) := by
  induction l generalizing s with
  | nil => cases ha
  | cons b l ih =>
    have hin {c : α} (hc : c ∈ l) : c ∈ b :: l := List.mem_cons_of_mem b hc
    rw [List.foldl_cons]
    by_cases hb : b = a
    · exact List.foldlRecOn l f (hb ▸ hturns s hs) fun t ht c hc => hstays c (hin hc) t ht
    · exact ih ((List.mem_cons.mp ha).resolve_left (Ne.symm hb)) (fun c hc => hwaits c (hin hc)) (fun c hc => hstays c (hin hc))
        (hwaits b (.head _) hb s hs)

/-- What is looked for is found in what is left of a list, where nothing that is looked for has gone. -/
theorem find?_filter_of_imp {α : Type} {p q : α → Bool} (h : ∀ x, p x = true → q x = true) (l : List α) : (l.filter q).find? p = l.find? p := by
  rw [List.find?_filter]
  congr 1
  funext x
  by_cases hp : p x = true
  · simp [hp, h x hp]
  · simp [hp]

/-! ### The delta map -/

/-- The delta map holds an entry of a line and group, at a place. -/
def DeltaAt (line : Nat) (grp : Option Nat) (place : Nat) (s : State) : Prop :=
  ∃ d ∈ s.xlat.delta, d.line = line ∧ d.grp = grp ∧ d.place = place

theorem mem_delta_putDelta (d : Delta) (s : State) : d ∈ (putDelta d s).xlat.delta := List.mem_append_right _ (.head _)

/-- An entry of another line or group stays. -/
theorem mem_delta_putDelta_of_ne {d x : Delta} {s : State} (hx : x ∈ s.xlat.delta) (h : x.line ≠ d.line ∨ x.grp ≠ d.grp) :
    x ∈ (putDelta d s).xlat.delta := by
  refine List.mem_append_left _ (List.mem_filter.mpr ⟨hx, ?_⟩)
  rcases h with h | h <;> simp [h]

/-- What a lookup finds of a line follows from the entries and the discards that are pending. -/
theorem deltaOf_putDelta_ne {d : Delta} {line : Nat} (h : d.line ≠ line) (grp : Option Nat) (s : State) :
    (putDelta d s).deltaOf line grp = s.deltaOf line grp := by
  have hfind : (putDelta d s).xlat.delta.find? (fun x => x.line == line && x.grp == grp) =
      s.xlat.delta.find? fun x => x.line == line && x.grp == grp := by
    have hnot : [d].find? (fun x => x.line == line && x.grp == grp) = none := by simp [h]
    refine List.find?_append.trans ?_
    rw [hnot, Option.or_none]
    exact find?_filter_of_imp (fun x hx => by simp only [Bool.and_eq_true, beq_iff_eq] at hx; simp [hx.1, Ne.symm h]) _
  unfold State.deltaOf
  rw [hfind]
  rfl

theorem delta_dirtySegment (seg : Nat) (s : State) : (dirtySegment seg s).xlat.delta = s.xlat.delta := by
  unfold dirtySegment
  split <;> rfl

theorem deltaOf_dirtySegment (seg line : Nat) (grp : Option Nat) (s : State) : (dirtySegment seg s).deltaOf line grp = s.deltaOf line grp := by
  unfold dirtySegment
  split <;> rfl

/-! ### One line lands -/

/-- A line of a row lands: a moved copy, or one placed from the staging array. -/
def landLine (mark : Nat) (t : State) (l : LogLine) : State :=
  match l.moved with
  | some source => landMove l source t
  | none => landStaged mark l t

/-- The delta entry of a moved copy. -/
def LogLine.movedDelta (l : LogLine) : Delta := { line := l.line, grp := l.grp, place := l.place, stamp := l.stamp, tag := l.groupTag }

/-- A moved copy lands, or is no longer current and changes nothing. -/
theorem landMove_cases (l : LogLine) (source : Option Nat) (s : State) : landMove l source s = s ∨
    ((landMove l source s).xlat = (putDelta l.movedDelta (dirtySegment (segmentOfLine l.line) s)).xlat ∧ (landMove l source s).staging = s.staging) := by
  have hstaging : (putDelta l.movedDelta (dirtySegment (segmentOfLine l.line) s)).staging = s.staging :=
    (fr_putDelta (μ := 0x1000000) rfl _ (fr_dirtySegment rfl _ (keeps_refl _ s))).staging rfl
  unfold landMove
  simp only
  split
  · split
    · split
      · exact .inr ⟨rfl, hstaging⟩
      · exact .inr ⟨rfl, hstaging⟩
    · exact .inl rfl
  · split
    · exact .inr ⟨rfl, hstaging⟩
    · exact .inl rfl

/-- A copy whose source is still the current one lands at its place (R253). -/
theorem landMove_of_current {l : LogLine} {source : Nat} {s : State} {d : Delta} (hd : s.deltaOf l.line l.grp = some d) (hplace : d.place = source) :
    l.movedDelta ∈ (landMove l (some source) s).xlat.delta := by
  have hcurrent : ((s.deltaOf l.line l.grp).map (·.place) == some source) = true := by rw [hd]; simp [hplace]
  unfold landMove
  simp only [hcurrent, if_true]
  split <;> exact mem_delta_putDelta l.movedDelta _

/-- The delta entry of a staged line that lands at the place of a row's line. -/
def LogLine.stagedDelta (l : LogLine) (x : Staged) : Delta :=
  { line := l.line, grp := x.grp, place := l.place, stamp := x.stamp, tag := if x.grp.isSome then x.tag else none }

theorem landStaged_of_none {mark : Nat} {l : LogLine} {s : State} (h : s.stagedIn mark l = none) : landStaged mark l s = s := by
  unfold landStaged
  rw [h]

theorem landStaged_of_some {mark : Nat} {l : LogLine} {s : State} {x : Staged} (h : s.stagedIn mark l = some x) :
    (landStaged mark l s).xlat = (putDelta (l.stagedDelta x) s).xlat ∧
      (landStaged mark l s).staging = s.staging.filter fun y => !(y.line == x.line && y.grp == x.grp) := by
  unfold landStaged
  rw [h]
  simp only
  exact ⟨(fr_rearmStall (μ := kf_rearmStall) rfl (keeps_refl _ _)).xlat rfl, (fr_rearmStall (μ := kf_rearmStall) rfl (keeps_refl _ _)).staging rfl⟩

theorem line_of_stagedIn {mark : Nat} {l : LogLine} {s : State} {x : Staged} (h : s.stagedIn mark l = some x) : x.line = l.line := by
  have hx := List.find?_some h
  simp only [Bool.and_eq_true, beq_iff_eq] at hx
  exact hx.1.1

/-- A lookup of a line's entry is the same after another line has landed. -/
theorem deltaOf_of_xlat {s t : State} (h : t.xlat = s.xlat) (line : Nat) (grp : Option Nat) : t.deltaOf line grp = s.deltaOf line grp := by
  unfold State.deltaOf State.discardOver
  rw [h]

theorem deltaOf_landLine_ne {mark line : Nat} {b : LogLine} (h : b.line ≠ line) (grp : Option Nat) (s : State) :
    (landLine mark s b).deltaOf line grp = s.deltaOf line grp := by
  unfold landLine
  split
  · rename_i source _
    rcases landMove_cases b source s with heq | ⟨hxlat, -⟩
    · rw [heq]
    · rw [deltaOf_of_xlat hxlat, deltaOf_putDelta_ne (d := b.movedDelta) h, deltaOf_dirtySegment]
  · cases hx : s.stagedIn mark b with
    | none => rw [landStaged_of_none hx]
    | some x => rw [deltaOf_of_xlat (landStaged_of_some hx).1, deltaOf_putDelta_ne (d := b.stagedDelta x) h]

/-- A line that lands leaves the staged lines of other lines. -/
theorem stagedIn_landLine_ne {mark : Nat} {b l : LogLine} (h : b.line ≠ l.line) (s : State) :
    (landLine mark s b).stagedIn mark l = s.stagedIn mark l := by
  unfold landLine
  split
  · rename_i source _
    have hstaging : (landMove b source s).staging = s.staging := by
      rcases landMove_cases b source s with heq | ⟨-, hstaging⟩
      · rw [heq]
      · exact hstaging
    unfold State.stagedIn
    rw [hstaging]
  · cases hx : s.stagedIn mark b with
    | none => rw [landStaged_of_none hx]
    | some x =>
      unfold State.stagedIn
      rw [(landStaged_of_some hx).2]
      have hline := line_of_stagedIn hx
      exact find?_filter_of_imp (fun y hy => by simp only [Bool.and_eq_true, beq_iff_eq] at hy; simp [hy.1.1, hline, Ne.symm h]) _

/-- An entry of a line stays where another line lands. -/
theorem mem_delta_landLine_ne {mark : Nat} {b : LogLine} {d : Delta} (h : b.line ≠ d.line) {s : State} (hd : d ∈ s.xlat.delta) :
    d ∈ (landLine mark s b).xlat.delta := by
  unfold landLine
  split
  · rename_i source _
    rcases landMove_cases b source s with heq | ⟨hxlat, -⟩
    · rw [heq]; exact hd
    · rw [hxlat]
      exact mem_delta_putDelta_of_ne (d := b.movedDelta) (delta_dirtySegment _ s ▸ hd) (.inl (Ne.symm h))
  · cases hx : s.stagedIn mark b with
    | none => rw [landStaged_of_none hx]; exact hd
    | some x =>
      rw [(landStaged_of_some hx).1]
      exact mem_delta_putDelta_of_ne (d := b.stagedDelta x) hd (.inl (Ne.symm h))

theorem mem_staging_landLine {mark : Nat} {b : LogLine} {s : State} {y : Staged} (hy : y ∈ (landLine mark s b).staging) : y ∈ s.staging := by
  unfold landLine at hy
  split at hy
  · rename_i source _
    rcases landMove_cases b source s with heq | ⟨-, hstaging⟩
    · rwa [heq] at hy
    · rwa [hstaging] at hy
  · cases hx : s.stagedIn mark b with
    | none => rwa [landStaged_of_none hx] at hy
    | some x =>
      rw [(landStaged_of_some hx).2] at hy
      exact List.mem_of_mem_filter hy

/-! ### The lines of a row land -/

/-- A moved copy whose source is current when the row completes is found at its new place (R253). -/
theorem movedLine_lands {lines : List LogLine} {l : LogLine} {source : Nat} {d : Delta} {s : State} (mark : Nat) (hl : l ∈ lines)
    (honce : ∀ l' ∈ lines, l'.line = l.line → l' = l) (hmoved : l.moved = some (some source)) (hd : s.deltaOf l.line l.grp = some d)
    (hplace : d.place = source) : DeltaAt l.line l.grp l.place (lines.foldl (landLine mark) s) := by
  have hlands (t : State) : landLine mark t l = landMove l (some source) t := by unfold landLine; rw [hmoved]
  refine foldl_turns (before := fun t => t.deltaOf l.line l.grp = some d) hl (fun b hb hne t ht => ?_) (fun t ht => ?_) (fun b hb t ht => ?_) hd
  · exact (deltaOf_landLine_ne (fun h => hne (honce b hb h)) _ _).trans ht
  · exact ⟨l.movedDelta, hlands t ▸ landMove_of_current ht hplace, rfl, rfl, rfl⟩
  · obtain ⟨x, hx, hline, hgrp, hat⟩ := ht
    by_cases hb' : b.line = l.line
    · rw [honce b hb hb', hlands]
      rcases landMove_cases l (some source) t with heq | ⟨hxlat, -⟩
      · rw [heq]; exact ⟨x, hx, hline, hgrp, hat⟩
      · exact ⟨l.movedDelta, hxlat ▸ mem_delta_putDelta l.movedDelta _, rfl, rfl, rfl⟩
    · exact ⟨x, mem_delta_landLine_ne (fun h => hb' (h.trans hline)) hx, hline, hgrp, hat⟩

/-- A staged line that has landed: it is found through the delta map, and is no longer in the staging array. -/
structure StagedLanded (l : LogLine) (x : Staged) (s : State) : Prop where
  delta : l.stagedDelta x ∈ s.xlat.delta
  left : ∀ y ∈ s.staging, y.line ≠ x.line ∨ y.grp ≠ x.grp

theorem stagedLine_lands {lines : List LogLine} {l : LogLine} {x : Staged} {s : State} {mark : Nat} (hl : l ∈ lines)
    (honce : ∀ l' ∈ lines, l'.line = l.line → l' = l) (hmoved : l.moved = none) (hx : s.stagedIn mark l = some x) :
    StagedLanded l x (lines.foldl (landLine mark) s) := by
  have hlands (t : State) : landLine mark t l = landStaged mark l t := by unfold landLine; rw [hmoved]
  refine foldl_turns (before := fun t => t.stagedIn mark l = some x) hl (fun b hb hne t ht => ?_) (fun t ht => ?_) (fun b hb t ht => ?_) hx
  · exact (stagedIn_landLine_ne (fun h => hne (honce b hb h)) _).trans ht
  · obtain ⟨hxlat, hstaging⟩ := landStaged_of_some ht
    rw [hlands]
    refine ⟨hxlat ▸ mem_delta_putDelta _ _, fun y hy => ?_⟩
    have hout := (List.mem_filter.mp (hstaging ▸ hy)).2
    simpa [Classical.or_iff_not_imp_left] using hout
  · obtain ⟨hdelta, hleft⟩ := ht
    refine ⟨?_, fun y hy => hleft y (mem_staging_landLine hy)⟩
    by_cases hb' : b.line = l.line
    · rw [honce b hb hb', hlands]
      cases hother : t.stagedIn mark l with
      | none => rw [landStaged_of_none hother]; exact hdelta
      | some z =>
        have hgrp : z.grp ≠ x.grp :=
          (hleft z (List.mem_of_find?_eq_some hother)).resolve_left
            (not_not.mpr ((line_of_stagedIn hother).trans (line_of_stagedIn hx).symm))
        rw [(landStaged_of_some hother).1]
        exact mem_delta_putDelta_of_ne hdelta (.inr (Ne.symm hgrp))
    · exact mem_delta_landLine_ne hb' hdelta

/-! ### The row is complete -/

/-- The row is marked complete, and its lines' integrity entries are placed. -/
def markedRow (r : LogRow) (s : State) : State :=
  r.lines.foldl (fun t l => putEntry l.entry t)
    { s with med := { s.med with rows := s.med.rows.map fun x => if x.mark == r.mark then { x with complete := true } else x } }

/-- The lines of the row have landed. -/
def landedRow (r : LogRow) (s : State) : State := r.lines.foldl (landLine r.mark) (markedRow r s)

theorem keeps_markedRow (r : LogRow) (s : State) : Keeps 0x6000000 s (markedRow r s) :=
  fr_foldl (fun _ _ ht => fr_putEntry rfl _ ht) _ (upd_med rfl (keeps_refl _ s) _)

theorem rows_landedRow (r : LogRow) (s : State) :
    (landedRow r s).med.rows = s.med.rows.map fun x => if x.mark == r.mark then { x with complete := true } else x := by
  have hland : Keeps 0x1000280 (markedRow r s) (landedRow r s) := by
    refine fr_foldl (fun t l ht => ?_) _ (keeps_refl _ _)
    unfold landLine
    split
    · exact fr_landMove rfl _ _ ht
    · exact fr_landStaged rfl _ _ ht
  have hmark : Keeps 0x4000000 _ (markedRow r s) := fr_foldl (fun _ _ ht => fr_putEntry rfl _ ht) _ (keeps_refl _ _)
  rw [hland.med rfl, hmark.med rfl]

/-- What follows the landing leaves the staging array, the delta map and the rows' marks (R15, R20, R21, R316). -/
theorem completeRow_leaves (r : LogRow) (s : State) : (completeRow r s).staging = (landedRow r s).staging ∧
    (completeRow r s).xlat.delta = (landedRow r s).xlat.delta ∧
    ((completeRow r s).med.rows.map fun x => (x.mark, x.complete)) = (landedRow r s).med.rows.map fun x => (x.mark, x.complete) := by
  let cmps := ((s.staging.filter fun x => x.row == some r.mark).map (·.cmpTo)).flatten
  let landed := r.lines.filterMap fun l => if l.moved.isSome then none else (s.stagedIn r.mark l).map fun x => (x.line, x.stamp)
  let u := linesOnMedium landed (landedRow r s)
  let v := if !u.protected || !cmps.isEmpty then programTail u
    else if 12 ≤ (u.integ.entries.filter fun e => !e.programmed).length then programEntries u else u
  have heq : completeRow r s = sendCmps cmps (checkLogFull (count1 0x32 31 v)) := rfl
  have hv : unjournaled v = unjournaled u ∧ v.outcomes = u.outcomes := by
    constructor
    · simp only [v, unjournaled_ite, unjournaled_programTail, unjournaled_programEntries, ite_self]
    · simp only [v, outcomes_ite, outcomes_programTail, outcomes_programEntries, ite_self]
  have hk : Keeps 0x382000064 v (completeRow r s) :=
    heq ▸ fr_sendCmps rfl cmps (fr_checkLogFull rfl (fr_count1 rfl _ _ (keeps_refl _ v)))
  have hrows : (completeRow r s).med.rows = v.med.rows := by
    have hsent : (sendCmps cmps (checkLogFull (count1 0x32 31 v))).med = (checkLogFull (count1 0x32 31 v)).med :=
      (fr_sendCmps (μ := kf_sendCmps) rfl cmps (keeps_refl _ _)).med rfl
    obtain ⟨since, reported, hfull⟩ := med_checkLogFull (count1 0x32 31 v)
    rw [heq, hsent, hfull, med_count1]
  refine ⟨(hk.staging rfl).trans ((congrArg (fun x => x.1.staging) hv.1 :)), (congrArg Translation.delta (hk.xlat rfl)).trans
    (delta_of_unjournaled hv.1 :), ?_⟩
  rw [hrows]
  exact rows_of_outcomes hv.2

/-- What the completion of a row comes to (R180, R237, R253). -/
theorem completeRow_completes (r : LogRow) (s : State) : (∀ x ∈ (completeRow r s).med.rows, x.mark = r.mark → x.complete = true) ∧
    ∀ l ∈ r.lines, (∀ l' ∈ r.lines, l'.line = l.line → l' = l) →
      (l.moved = none → ∀ x, s.stagedIn r.mark l = some x → StagedLanded l x (completeRow r s)) ∧
      (∀ source d, l.moved = some (some source) → s.deltaOf l.line l.grp = some d → d.place = source →
        DeltaAt l.line l.grp l.place (completeRow r s)) := by
  obtain ⟨hstaging, hdelta, hrows⟩ := completeRow_leaves r s
  have hmarked := keeps_markedRow r s
  refine ⟨fun x hx hmark => ?_, fun l hl honce => ⟨fun hmoved x hx => ?_, fun source d hmoved hd hplace => ?_⟩⟩
  · have hmem : (x.mark, x.complete) ∈ (completeRow r s).med.rows.map fun x => (x.mark, x.complete) := List.mem_map_of_mem hx
    rw [hrows, rows_landedRow, List.map_map] at hmem
    obtain ⟨y, -, hy⟩ := List.mem_map.mp hmem
    simp only [Function.comp, hmark] at hy
    split at hy
    · exact (congrArg Prod.snd hy).symm
    · rename_i hne
      exact absurd (congrArg Prod.fst hy) (by simpa using hne)
  · have hx' : (markedRow r s).stagedIn r.mark l = some x := by
      unfold State.stagedIn
      rw [hmarked.staging rfl]
      exact hx
    obtain ⟨hentry, hleft⟩ := stagedLine_lands hl honce hmoved hx'
    exact ⟨hdelta ▸ hentry, hstaging ▸ hleft⟩
  · obtain ⟨d', hd', hat⟩ := movedLine_lands r.mark hl honce hmoved ((deltaOf_of_xlat (hmarked.xlat rfl) _ _).trans hd) hplace
    exact ⟨d', hdelta ▸ hd', hat⟩

theorem logRowComplete_completes {s : State} {mark : Nat} {r : LogRow} (hr : s.findRow mark = some r) (hopen : r.complete = false)
    (hdone : s.ownerDone (.row mark) = true) : exec (.logRowComplete mark) s = .next (completeRow r s) ∧ r.mark = mark := by
  refine ⟨?_, by simpa using List.find?_some hr⟩
  show execLogRowComplete mark s = _
  unfold execLogRowComplete
  rw [hr]
  exact if_pos (by rw [hopen, hdone]; rfl)

end Sys2Proof.Machine
end

section
/-! SUPPORT. Programs and resets: how a waiting one is dispatched, and what one that has ended leaves (R227, R228, R231). -/

namespace Sys2Proof.Machine

/-! ### Dispatch -/

theorem id_of_find?_id {jobs : List Job} {job : Nat} {j : Job} (h : (jobs.find? fun x => x.id == job) = some j) : j.id = job := by
  simpa using List.find?_some h

/-- A job that leaves the list leaves none with its number. -/
theorem id_ne_of_mem_filter {α : Type} {f : α → Nat} {l : List α} {n : Nat} : ∀ x ∈ l.filter (fun x => f x != n), f x ≠ n :=
  fun _ hx => by simpa using (List.mem_filter.mp hx).2

/-- What is in flight and what waits, after a dispatch (R227). -/
theorem med_dispatch (j : Job) (s : State) : ∃ o transfers, (dispatch j s).med =
      { s.med with jobs := s.med.jobs.filter fun x => x.id != j.id, ops := s.med.ops ++ [o], transfers := transfers } ∧
    o.id = j.id ∧ o.unit = j.unit ∧ o.kind = j.kind ∧ o.owner = j.owner ∧ o.stamp = s.stampNow := by
  have hraiseTo (k v : Nat) (t : State) : (t.raiseTo k v).med = t.med := by
    unfold State.raiseTo
    simp only [apply_ite State.med, med_put, ite_self]
  unfold dispatch
  simp only [hraiseTo, med_takeStamp]
  exact ⟨_, _, rfl, rfl, rfl, rfl, rfl, rfl⟩

/-- A delay is noted in the job that waits, which stays. -/
theorem med_noteDelays (j : Job) (causes : List Nat) (s : State) :
    (noteDelays j causes s).med.ops = s.med.ops ∧ (noteDelays j causes s).med.jobs.map (·.id) = s.med.jobs.map (·.id) := by
  have hbumps (l : List Nat) (t : State) : (l.foldl (fun t c => t.bump (0x611000 + c)) t).med = t.med :=
    List.foldlRecOn (motive := fun u : State => u.med = t.med) l _ rfl fun _ h _ _ => h
  unfold noteDelays
  simp only [med_raiseIf, hbumps, List.map_map]
  refine ⟨trivial, List.map_congr_left fun x _ => ?_⟩
  simp only [Function.comp]
  split <;> rfl

theorem execProgramDispatch_of_job {s : State} {job : Nat} {j : Job} (hj : (s.med.jobs.find? fun x => x.id == job) = some j) :
    exec (.programDispatch job) s =
      if (s.unit j.unit).gone then .next (skipMember j s)
      else if s.blocks j = [] then .next (dispatch j s) else .next (noteDelays j (s.blocks j) s) := by
  show execProgramDispatch job s = _
  unfold execProgramDispatch
  rw [hj]
  simp only [List.isEmpty_iff]

theorem programDispatch_takesEffect {s : State} {job : Nat} {j : Job} (hj : (s.med.jobs.find? fun x => x.id == job) = some j) :
    Completes (.programDispatch job) s fun t =>
      ((s.unit j.unit).gone = true → t.med.ops = s.med.ops ∧ ∀ x ∈ t.med.jobs, x.id ≠ job) ∧
      ((s.unit j.unit).gone = false → s.blocks j = [] →
        (∃ o ∈ t.med.ops, o.id = job ∧ o.unit = j.unit ∧ o.kind = j.kind ∧ o.owner = j.owner ∧ o.stamp = s.stampNow) ∧
          ∀ x ∈ t.med.jobs, x.id ≠ job) ∧
      ((s.unit j.unit).gone = false → s.blocks j ≠ [] → t.med.ops = s.med.ops ∧ t.med.jobs.map (·.id) = s.med.jobs.map (·.id)) := by
  have hid := id_of_find?_id hj
  unfold Completes
  rw [execProgramDispatch_of_job hj]
  cases hgone : (s.unit j.unit).gone with
  | true => exact ⟨_, if_pos rfl, fun _ => ⟨rfl, hid ▸ id_ne_of_mem_filter⟩, nofun, nofun⟩
  | false =>
    rw [if_neg Bool.false_ne_true]
    by_cases hfree : s.blocks j = []
    · obtain ⟨o, transfers, hmed, hsame⟩ := med_dispatch j s
      refine ⟨_, if_pos hfree, nofun, fun _ _ => ?_, fun _ h => absurd hfree h⟩
      rw [hmed]
      exact ⟨⟨o, List.mem_append_right _ (.head _), hid ▸ hsame⟩, hid ▸ id_ne_of_mem_filter⟩
    · exact ⟨_, if_neg hfree, nofun, fun _ h => absurd h hfree, fun _ _ => med_noteDelays j _ s⟩

/-! ### What stands where an operation has ended -/

theorem unjournaled_recordUnit (u : Nat) (s : State) : unjournaled (recordUnit u s) = unjournaled s := unjournaled_journalPut _ s

theorem unjournaled_setUnitState (u state : Nat) (s : State) : unjournaled (setUnitState u state s) = unjournaled s := by
  have hretired (t : State) : unjournaled ((t.bump 0x619004).bump (dieKey (dieOfUnit u) 0x02)) = unjournaled t := by
    rw [unjournaled_bump fun d => by unfold dieKey; omega, unjournaled_bump fun d => by unfold dieKey; omega]
  unfold setUnitState
  simp only [unjournaled_ite, unjournaled_raise, hretired, unjournaled_recordUnit, unjournaled_setUnit, ite_self]

theorem unjournaled_lastingFault (u : Nat) (s : State) : unjournaled (lastingFault u s) = unjournaled s := by
  unfold lastingFault
  simp only [unjournaled_ite, unjournaled_noteHealth, unjournaled_setUnitState, unjournaled_setUnit, ite_self]

theorem unjournaled_sectorProgrammed (u page : Nat) (s : State) : unjournaled (sectorProgrammed u page s) = unjournaled s := by
  unfold sectorProgrammed
  simp only [unjournaled_ite, unjournaled_programTail, unjournaled_sectorsProgrammed, ite_self]

theorem unjournaled_unitReset (u mode : Nat) (s : State) : unjournaled (unitReset u mode s) = unjournaled s := by
  unfold unitReset
  refine (unjournaled_recordUnit _ _).trans ((unjournaled_setUnit _ _ _).trans ?_)
  have hcounted : unjournaled (disturb u 0 (count1 0x23 (channelOfUnit u) s)) = unjournaled s :=
    (unjournaled_disturb _ _ _).trans (unjournaled_count _ _ _ s)
  simp only [unjournaled_ite, unjournaled_addCycles, hcounted, ite_self]

theorem ops_of_unjournaled {s t : State} (h : unjournaled t = unjournaled s) : t.med.ops = s.med.ops := (congrArg (fun u => u.1.med.ops) h :)

theorem ops_ite (c : Prop) [Decidable c] (a b : State) : (if c then a else b).med.ops = if c then a.med.ops else b.med.ops := by split <;> rfl

theorem ops_setUnitState (u state : Nat) (s : State) : (setUnitState u state s).med.ops = s.med.ops :=
  ops_of_unjournaled (unjournaled_setUnitState u state s)

theorem ops_foldl {α : Type} (f : State → α → State) (h : ∀ t a, (f t a).med.ops = t.med.ops) (l : List α) (s : State) :
    (l.foldl f s).med.ops = s.med.ops := by
  induction l generalizing s with
  | nil => rfl
  | cons a l ih => exact (ih _).trans (h s a)

theorem ops_notePool (s : State) : (notePool s).med.ops = s.med.ops := by
  unfold notePool
  simp only [ops_ite, med_raise, ite_self]

theorem ops_finishReset (stripe : Nat) (s : State) : (finishReset stripe s).med.ops = s.med.ops := by
  have hmembers (l : List Nat) (t : State) : (l.foldl (fun t c =>
      if (t.unit (unitOf stripe c)).state = 0 then setUnitState (unitOf stripe c) 1 t else t) t).med.ops = t.med.ops :=
    ops_foldl _ (fun t c => by simp only [ops_ite, ops_setUnitState, ite_self]) l t
  unfold finishReset
  simp only [ops_of_unjournaled (unjournaled_noteHealth _), ops_notePool]
  split
  · simp only [ops_foldl _ fun t c => ops_setUnitState _ _ t, ops_ite, med_raise, med_bump, ite_self]
    rfl
  · split
    · simp only [hmembers, ops_ite, med_raise, med_bump, ite_self]
      rfl
    · simp only [ops_ite, med_raise, med_bump, ite_self]
      rfl

theorem ops_memberProgrammed (p : StripePage) (x : ProgramStart) (s : State) : (memberProgrammed p x s).med.ops = s.med.ops := by
  have hpage (u page band : Nat) : (pageProgrammed u page band s).med.ops = s.med.ops :=
    ops_of_unjournaled ((unjournaled_setUnit _ _ _).trans ((unjournaled_disturb _ _ _).trans (unjournaled_count _ _ _ _)))
  have hstripe (t : State) (r : StripeRec) : (t.setStripe p.stripe r).med.ops = t.med.ops := rfl
  unfold memberProgrammed
  simp only [hstripe, hpage]

theorem ops_opSucceeded (o : Op) (s : State) : (opSucceeded o s).med.ops = s.med.ops := by
  have hbank (die : Nat) : (bankProgrammed die s).med.ops = s.med.ops := by
    unfold bankProgrammed
    rw [med_takeStamp]
  have hsector (u page : Nat) (t : State) : (sectorProgrammed u page t).med.ops = t.med.ops :=
    ops_of_unjournaled (unjournaled_sectorProgrammed u page t)
  have hreset (u mode : Nat) : (unitReset u mode s).med.ops = s.med.ops := ops_of_unjournaled (unjournaled_unitReset u mode s)
  unfold opSucceeded
  split
  · exact hbank _
  · simp only [ops_ite, ops_finishReset, hreset, ite_self]
  · exact hsector _ _ _
  · exact hsector _ _ _
  · split
    · exact ops_memberProgrammed _ _ s
    · rfl

/-! ### A failed operation -/

/-- A failed operation is counted by its channel and reported by its die, and its unit takes the fault (R282). -/
def faultNoted (o : Op) (s : State) : State :=
  lastingFault o.unit (raise (152 + dieOfUnit o.unit) (s.bump (channelKey (channelOfUnit o.unit) 0x05)))

/-- What follows the fault places the operation again, or goes on without it. -/
theorem opFailed_cases (o : Op) (s : State) : (∃ pages, opFailed o s = { faultNoted o s with
      med := { (faultNoted o s).med with stripePages := pages } }) ∨
    (∃ jobs, opFailed o s = { faultNoted o s with med := { (faultNoted o s).med with jobs := jobs } }) ∨
    opFailed o s = faultNoted o s ∨ ∃ stripe, opFailed o s = finishReset stripe (faultNoted o s) := by
  unfold opFailed
  split
  · exact .inl ⟨_, rfl⟩
  · simp only
    split
    · split
      · exact .inr (.inr (.inr ⟨_, rfl⟩))
      · exact .inr (.inr (.inl rfl))
    · exact .inr (.inl ⟨_, rfl⟩)
  · simp only
    split
    · exact .inr (.inr (.inl rfl))
    · exact .inr (.inl ⟨_, rfl⟩)

theorem ops_opFailed (o : Op) (s : State) : (opFailed o s).med.ops = s.med.ops := by
  have hnoted : (faultNoted o s).med.ops = s.med.ops := by
    unfold faultNoted
    rw [ops_of_unjournaled (unjournaled_lastingFault _ _), med_raise, med_bump]
  rcases opFailed_cases o s with ⟨pages, h⟩ | ⟨jobs, h⟩ | h | ⟨stripe, h⟩
  · rw [h]; exact hnoted
  · rw [h]; exact hnoted
  · rw [h]; exact hnoted
  · rw [h, ops_finishReset]; exact hnoted

/-- The failures that the channels count are those of the fault itself. -/
theorem failures_opFailed (o : Op) (s : State) (c : Nat) :
    (opFailed o s).get (channelKey c 0x05) = (s.bump (channelKey (channelOfUnit o.unit) 0x05)).get (channelKey c 0x05) := by
  have hnoted : (faultNoted o s).get (channelKey c 0x05) = (s.bump (channelKey (channelOfUnit o.unit) 0x05)).get (channelKey c 0x05) := by
    unfold faultNoted
    rw [failures_of_outcomes (outcomes_lastingFault _ _), failures_of_outcomes (outcomes_raise _ _)]
  rcases opFailed_cases o s with ⟨pages, h⟩ | ⟨jobs, h⟩ | h | ⟨stripe, h⟩
  · rw [h]; exact hnoted
  · rw [h]; exact hnoted
  · rw [h]; exact hnoted
  · rw [h, failures_of_outcomes (outcomes_finishReset _ _)]; exact hnoted

/-- No register that an operation writes is a latch: latches lie above them all. -/
theorem quiet_latch {w : Writes} {src : Nat} (hkeys : w.keys.all (· < 0xE00000) = true) (hspans : w.spans.all (·.2.1 ≤ 0xE00000) = true) :
    Quiet w (sourceKey src 0x01) 1 := by
  refine ⟨?_, .inr ⟨⟨src, rfl⟩, rfl⟩⟩
  have habove : 0xE00000 ≤ sourceKey src 0x01 := by unfold sourceKey; omega
  simp only [List.all_eq_true, decide_eq_true_eq] at hkeys hspans
  simp only [Writes.has, Bool.or_eq_false_iff, List.any_eq_false, List.contains_eq_mem, decide_eq_false_iff_not]
  refine ⟨fun h => absurd (hkeys _ h) (by omega), fun x hx h => ?_⟩
  have hend := hspans x hx
  simp only [Bool.and_eq_true, Nat.blt_eq] at h
  omega

theorem raised_opFailed (o : Op) (s : State) : Raised (152 + dieOfUnit o.unit) s (opFailed o s) := by
  intro hcan
  have hmode : (s.bump (channelKey (channelOfUnit o.unit) 0x05)).mode = s.mode :=
    get_bump_ne (by unfold channelKey; omega)
  have hlatched : Holds (sourceKey (152 + dieOfUnit o.unit) 0x01) 1 (faultNoted o s) :=
    kp_lastingFault (quiet_latch (by decide) (by decide)) _ (latch_self ((canOccur_of_mode hmode _).trans hcan))
  rcases opFailed_cases o s with ⟨pages, h⟩ | ⟨jobs, h⟩ | h | ⟨stripe, h⟩
  · rw [h]; exact hlatched
  · rw [h]; exact hlatched
  · rw [h]; exact hlatched
  · rw [h]; exact kp_finishReset (quiet_latch (by decide) (by decide)) stripe hlatched

/-- The operation leaves its sequencer (R231). -/
def sequencerFreed (op : Nat) (s : State) : State :=
  endOverruns { s with med := { s.med with ops := s.med.ops.filter fun x => x.id != op } }

theorem programComplete_takesEffect {s : State} {op : Nat} {o : Op} (ho : (s.med.ops.find? fun x => x.id == op) = some o)
    (hruns : o.suspended = false) (hcrossed : ∀ x ∈ s.med.transfers, x.id ≠ op) (ok : Bool) : Completes (.programComplete op ok) s fun t =>
      (∀ x ∈ t.med.ops, x.id ≠ op) ∧
        (ok = false → Counted (channelKey (channelOfUnit o.unit) 0x05) 1 s t ∧ Raised (152 + dieOfUnit o.unit) s t) := by
  have hexec : exec (.programComplete op ok) s =
      if ok then .next (opSucceeded o (sequencerFreed op s)) else .next (opFailed o (sequencerFreed op s)) := by
    show execProgramComplete op ok s = _
    unfold execProgramComplete
    rw [ho]
    refine if_neg ?_
    simpa [hruns] using hcrossed
  have hfreed : ∀ x ∈ (sequencerFreed op s).med.ops, x.id ≠ op := id_ne_of_mem_filter
  unfold Completes
  rw [hexec]
  cases ok with
  | true => exact ⟨_, if_pos rfl, (ops_opSucceeded o _).symm ▸ hfreed, nofun⟩
  | false =>
    refine ⟨_, if_neg Bool.false_ne_true, (ops_opFailed o _).symm ▸ hfreed, fun _ => ⟨?_, fun hcan => raised_opFailed o _ hcan⟩⟩
    exact (failures_opFailed o _ _).trans (get_bump_self _ _)

end Sys2Proof.Machine
end

section
/-! SUPPORT. Stripe pages whose programs have all ended, and the chunks that cross a channel (R230, R237, R251). -/

namespace Sys2Proof.Machine

/-! ### What the moves of a stripe page turn on -/

/-- The map's entries, the discards that are pending, and the stripe pages that are being written. -/
def State.remap (s : State) : Tbl Nat × List (Nat × PendingDiscard) × List StripePage :=
  (s.xlat.mainMap, s.xlat.pendingDiscards, s.med.stripePages)

theorem mainMap_of_remap {s t : State} (h : t.remap = s.remap) : t.xlat.mainMap = s.xlat.mainMap := congrArg Prod.fst h

theorem stripePages_of_remap {s t : State} (h : t.remap = s.remap) : t.med.stripePages = s.med.stripePages :=
  congrArg (fun x => x.2.2) h

theorem remap_ite (c : Prop) [Decidable c] (a b : State) : (if c then a else b).remap = if c then a.remap else b.remap := by split <;> rfl

theorem remap_foldl {α : Type} (f : State → α → State) (h : ∀ t a, (f t a).remap = t.remap) (l : List α) (s : State) :
    (l.foldl f s).remap = s.remap := by
  induction l generalizing s with
  | nil => rfl
  | cons a l ih => exact (ih _).trans (h s a)

theorem remap_of_unjournaled {s t : State} (h : unjournaled t = unjournaled s) : t.remap = s.remap :=
  (congrArg (fun u => (u.1.xlat.mainMap, u.1.xlat.pendingDiscards, u.1.med.stripePages)) h :)

theorem remap_programTail (s : State) : (programTail s).remap = s.remap := remap_of_unjournaled (unjournaled_programTail s)

theorem remap_dirtySegment (seg : Nat) (s : State) : (dirtySegment seg s).remap = s.remap := by
  unfold dirtySegment
  split <;> rfl

theorem remap_writeTableImage (s : State) : (writeTableImage s).remap = s.remap :=
  (remap_of_unjournaled ((unjournaled_ringSectors .checkpoint _ _ _ _).trans (unjournaled_takeStamp s)) :)

theorem remap_checkLogFull (s : State) : (checkLogFull s).remap = s.remap := by
  obtain ⟨since, reported, hmed⟩ := med_checkLogFull s
  unfold State.remap
  rw [hmed, (fr_checkLogFull (μ := kf_checkLogFull) rfl (keeps_refl _ s)).xlat rfl]

theorem remap_orderReset (stripe mode before : Nat) (s : State) : (orderReset stripe mode before s).remap = s.remap := by
  unfold orderReset
  exact remap_foldl _ (by exact fun _ _ => rfl) _ _

theorem remap_clearStripe (stripe : Nat) (s : State) : (clearStripe stripe s).remap = s.remap := by
  unfold clearStripe
  simp only [remap_ite, remap_orderReset, remap_programTail, remap_writeTableImage, ite_self]

theorem remap_countCollected (cause stripe : Nat) (s : State) : (countCollected cause stripe s).remap = s.remap := by
  have hcounted : (count1 0x34 31 (s.bump 0x614006)).remap = s.remap := by
    exact remap_of_unjournaled ((unjournaled_count _ _ _ _).trans (unjournaled_bump (fun d => by unfold dieKey; omega) s))
  unfold countCollected
  simp only [remap_ite, hcounted, ite_self]

theorem remap_clearEmptied (cause stripe : Nat) (s : State) : (clearEmptied cause stripe s).remap = s.remap := by
  unfold clearEmptied
  simp only [remap_ite, remap_countCollected, remap_clearStripe, ite_self]

/-! ### The moves of a complete page -/

/-- A move that is applied gives its page the new value (R251). -/
def moveApplied (cause : Nat) (m : PageMove) (s : State) : State :=
  let t := journalPut (.mapSet m.page m.new m.old cause) (dirtySegment (segmentOfPage m.page) s)
  { t with xlat := { t.xlat with mainMap := tput m.page m.new t.xlat.mainMap } }

theorem applyMove_of_applies {cause : Nat} {m : PageMove} {s : State} (hpage : m.page < integrityBase) (h : s.moveApplies m = true) :
    (applyMove cause m s).remap = (moveApplied cause m s).remap := by
  unfold applyMove
  rw [if_pos hpage, if_pos h]
  refine (remap_foldl (fun t (e : Nat × Nat) => dropFolded e.1 e.2 t) (fun _ _ => rfl) _ _).trans ?_
  split <;> rfl

theorem applyMove_of_not_applies {cause : Nat} {m : PageMove} {s : State} (hpage : m.page < integrityBase) (h : s.moveApplies m = false) :
    applyMove cause m s = s := by
  unfold applyMove
  rw [if_pos hpage, if_neg (by simp [h])]

/-- A move of an integrity page changes the integrity table alone (R313). -/
theorem applyMove_of_integrity {cause : Nat} {m : PageMove} (hpage : ¬m.page < integrityBase) (s : State) :
    (applyMove cause m s).remap = s.remap := by
  unfold applyMove
  rw [if_neg hpage]
  show State.remap (if _ then s else writeTableImage s) = _
  simp only [remap_ite, remap_writeTableImage, ite_self]

theorem remap_moveApplied (cause : Nat) (m : PageMove) (s : State) :
    (moveApplied cause m s).remap = (tput m.page m.new s.xlat.mainMap, s.xlat.pendingDiscards, s.med.stripePages) := by
  have hjournal : (journalPut (.mapSet m.page m.new m.old cause) (dirtySegment (segmentOfPage m.page) s)).remap = s.remap :=
    (remap_of_unjournaled (unjournaled_journalPut _ _)).trans (remap_dirtySegment _ s)
  exact congrArg (fun x : Tbl Nat × List (Nat × PendingDiscard) × List StripePage => (tput m.page m.new x.1, x.2)) hjournal

/-- A move changes its own page's entry alone, if any, and neither a discard nor a stripe page. -/
theorem applyMove_changes (cause : Nat) (m : PageMove) (s : State) : (applyMove cause m s).remap = s.remap ∨
    (applyMove cause m s).remap = (tput m.page m.new s.xlat.mainMap, s.xlat.pendingDiscards, s.med.stripePages) := by
  by_cases hpage : m.page < integrityBase
  · cases h : s.moveApplies m with
    | true => exact .inr ((applyMove_of_applies hpage h).trans (remap_moveApplied cause m s))
    | false => exact .inl (congrArg State.remap (applyMove_of_not_applies hpage h))
  · exact .inl (applyMove_of_integrity hpage s)

/-- A page can take a move: its entry holds the value that the move read, and no discard is pending over it. -/
def Movable (m : PageMove) (s : State) : Prop := s.pageValue m.page = m.old ∧ s.discardOver m.page = []

theorem moveApplies_of_movable {m : PageMove} {s : State} (h : Movable m s) : s.moveApplies m = true := by
  unfold State.moveApplies
  simp [h.1, h.2]

theorem movable_of_entry {m : PageMove} {s t : State} (h : Movable m s) (hpage : m.page < integrityBase)
    (hentry : tfind m.page t.xlat.mainMap = tfind m.page s.xlat.mainMap) (hdiscards : t.xlat.pendingDiscards = s.xlat.pendingDiscards) :
    Movable m t := by
  unfold Movable State.pageValue State.discardOver at h ⊢
  rw [if_pos hpage] at h ⊢
  rw [hentry, hdiscards]
  exact h

theorem stripePages_applyMove (cause : Nat) (m : PageMove) (s : State) : (applyMove cause m s).med.stripePages = s.med.stripePages := by
  rcases applyMove_changes cause m s with h | h
  · exact stripePages_of_remap h
  · exact congrArg (fun x => x.2.2) h

/-- The moves of a page are applied, each to an entry of its own. -/
theorem applyMoves_apply {cause : Nat} {moves : List PageMove} (honce : (moves.map (·.page)).Nodup) {m : PageMove} (hm : m ∈ moves)
    (hpage : m.page < integrityBase) {s : State} (h : Movable m s) :
    tfind m.page (moves.foldl (fun t m => applyMove cause m t) s).xlat.mainMap = some m.new := by
  have hother {b : PageMove} (hb : b ∈ moves) (hne : b ≠ m) : m.page ≠ b.page :=
    fun heq => hne (List.inj_on_of_nodup_map honce hb hm heq.symm)
  refine foldl_turns (before := Movable m) (after := fun t => tfind m.page t.xlat.mainMap = some m.new) hm
    (fun b hb hne t ht => ?_) (fun t ht => ?_) (fun b hb t ht => ?_) h
  · rcases applyMove_changes cause b t with hsame | hset
    · exact movable_of_entry ht hpage (congrArg (tfind m.page) (mainMap_of_remap hsame)) (congrArg (fun x => x.2.1) hsame)
    · refine movable_of_entry ht hpage ?_ (congrArg (fun x => x.2.1) hset)
      exact (congrArg (fun x => tfind m.page x.1) hset).trans (tfind_tput_ne (hother hb hne) _ _)
  · have hset := (applyMove_of_applies (cause := cause) hpage (moveApplies_of_movable ht)).trans (remap_moveApplied cause m t)
    exact (congrArg (fun x => tfind m.page x.1) hset).trans (tfind_tput_self _ _ _)
  · rcases applyMove_changes cause b t with hsame | hset
    · exact (congrArg (tfind m.page) (mainMap_of_remap hsame)).trans ht
    · refine (congrArg (fun x => tfind m.page x.1) hset).trans ?_
      by_cases hb' : b = m
      · rw [hb']; exact tfind_tput_self _ _ _
      · exact (tfind_tput_ne (hother hb hb') _ _).trans ht

/-! ### STRIPE_PAGE_COMPLETE -/

/-- What follows the application of a page's moves leaves the map and the stripe pages. -/
theorem remap_finishMoves (p : StripePage) (s : State) : (finishMoves p s).remap =
    (p.moves.foldl (fun t m => applyMove p.cause m t)
      { s with med := { s.med with stripePages := s.med.stripePages.filter fun x => x.id != p.id } }).remap := by
  unfold finishMoves applyPage
  simp only [remap_foldl _ fun t st => remap_clearEmptied p.cause st t, remap_ite, remap_programTail, remap_checkLogFull, ite_self]

theorem stripePages_finishMoves (p : StripePage) (s : State) :
    (finishMoves p s).med.stripePages = s.med.stripePages.filter fun x => x.id != p.id :=
  (stripePages_of_remap (remap_finishMoves p s)).trans
    (List.foldlRecOn (motive := fun t : State => t.med.stripePages = _) p.moves _ rfl fun t ht m _ => (stripePages_applyMove _ m t).trans ht)

/-- The page is marked complete; the map and the discards are as they were. -/
theorem remap_completePage (p : StripePage) (s : State) : (completePage p s).remap =
    (s.xlat.mainMap, s.xlat.pendingDiscards, s.med.stripePages.map fun x => if x.id == p.id then { x with complete := true } else x) := by
  unfold completePage
  simp only
  split <;> rfl

theorem isSome_tfind_tput {α : Type} {k j : Nat} {v : α} {l : Tbl α} (h : k = j ∨ (tfind k l).isSome = true) :
    (tfind k (tput j v l)).isSome = true := by
  by_cases hkj : k = j
  · rw [hkj, tfind_tput_self]; rfl
  · rw [tfind_tput_ne hkj]
    exact h.resolve_left hkj

/-- The slots of a complete page's moves are filled (R222). -/
theorem completePage_fills {p : StripePage} {m : PageMove} (hm : m ∈ p.moves) (s : State) :
    (tfind m.new (completePage p s).med.ml).isSome = true := by
  unfold completePage
  simp only
  refine foldl_turns (before := fun _ => True) (after := fun ml : Tbl MlSlot => (tfind m.new ml).isSome = true) hm (fun _ _ _ _ _ => trivial)
    (fun ml _ => isSome_tfind_tput (.inl rfl)) (fun b _ ml hml => isSome_tfind_tput (.inr hml)) trivial

theorem stripePageComplete_takesEffect {s : State} {id : Nat} {p : StripePage}
    (hp : (s.med.stripePages.find? fun x => x.id == id) = some p) (hopen : p.complete = false) (hfailed : p.failedOn = [])
    (hdone : s.ownerDone (.page id) = true) : Completes (.stripePageComplete id) s fun t =>
      (∀ x ∈ t.med.stripePages, x.id = id → x.complete = true) ∧
        (p.cause = 0 → ∀ m ∈ p.moves, (tfind m.new t.med.ml).isSome = true) ∧
        (p.cause ≠ 0 → (p.moves.map (·.page)).Nodup → ∀ m ∈ p.moves, m.page < integrityBase → s.pageValue m.page = m.old →
          s.discardOver m.page = [] → tfind m.page t.xlat.mainMap = some m.new) := by
  have hid : p.id = id := by simpa using List.find?_some hp
  have hexec : exec (.stripePageComplete id) s =
      .next (if p.cause = 0 then completePage p s else finishMoves p (completePage p s)) := by
    show execStripePageComplete id s = _
    unfold execStripePageComplete
    rw [hp]
    exact if_pos (by rw [hopen, hfailed, hdone]; rfl)
  refine ⟨_, hexec, ?_⟩
  have hmarked := remap_completePage p s
  by_cases hcause : p.cause = 0
  · rw [if_pos hcause]
    refine ⟨fun x hx hxid => ?_, fun _ m hm => completePage_fills hm s, fun h => absurd hcause h⟩
    rw [show (completePage p s).med.stripePages = _ from congrArg (fun x => x.2.2) hmarked] at hx
    obtain ⟨y, -, rfl⟩ := List.mem_map.mp hx
    split at hxid
    · rename_i h
      rw [if_pos h]
    · rename_i h
      exact absurd (hxid.trans hid.symm) (by simpa using h)
  · rw [if_neg hcause]
    refine ⟨fun x hx hxid => ?_, fun h => absurd h hcause, fun _ honce m hm hpage hold hdiscard => ?_⟩
    · rw [stripePages_finishMoves] at hx
      exact absurd (hxid.trans hid.symm) (id_ne_of_mem_filter (f := StripePage.id) x hx)
    · rw [mainMap_of_remap (remap_finishMoves p _)]
      refine applyMoves_apply honce hm hpage (movable_of_entry (s := s) ⟨hold, hdiscard⟩ hpage ?_ ?_)
      · exact congrArg (fun x => tfind m.page x.1) hmarked
      · exact congrArg (fun x => x.2.1) hmarked

/-! ### CHUNK_GRANT -/

/-- The transfer that a channel serves next is one of those that wait. -/
theorem mem_transfers_of_nextChunk {s : State} {ch : Nat} {x : Transfer} (h : s.nextChunk ch = some x) : x ∈ s.med.transfers := by
  unfold State.nextChunk at h
  have hmem : ∀ y, (s.med.transfers.filter fun t => t.channel == ch).foldl (fun m t => match m with
      | none => some t
      | some x => if t.rank < x.rank then some t else some x) none = some y → y ∈ s.med.transfers := by
    refine List.foldlRecOn (motive := fun m : Option Transfer => ∀ y, m = some y → y ∈ s.med.transfers) _ _ nofun fun m hm t ht y hy => ?_
    have ht' : t ∈ s.med.transfers := List.mem_of_mem_filter ht
    split at hy
    · exact Option.some.inj hy ▸ ht'
    · split at hy
      · exact Option.some.inj hy ▸ ht'
      · exact hm y hy
  exact hmem x h

/-- A chunk of a transfer has crossed its channel. -/
def Transfer.granted (y x : Transfer) : Transfer := if y.id == x.id then { y with bytes := y.bytes - min 512 x.bytes } else y

theorem transfers_grantChunk (x : Transfer) (s : State) :
    (grantChunk x s).med.transfers = (s.med.transfers.map (·.granted x)).filter fun y => decide (0 < y.bytes) := by
  unfold grantChunk
  simp only [State.addTo, med_put, med_count1]
  rfl

theorem granted_self (x : Transfer) : x.granted x = { x with bytes := x.bytes - min 512 x.bytes } := if_pos (beq_self_eq_true _)

theorem granted_of_ne {x y : Transfer} (h : y.id ≠ x.id) : y.granted x = y := if_neg (by simpa using h)

theorem id_granted (y x : Transfer) : (y.granted x).id = y.id := by
  unfold Transfer.granted
  split <;> rfl

theorem counted_grantChunk (x : Transfer) (s : State) : Counted (channelKey x.channel 0x01) (min 512 x.bytes) s (grantChunk x s) := by
  have hreport : ¬reportKey (channelKey x.channel 0x01) := by
    unfold channelKey reportKey
    omega
  have hadded : (grantChunk x s).get (channelKey x.channel 0x01) =
      ((count1 0x26 x.channel s).addTo (channelKey x.channel 0x01) (min 512 x.bytes)).get (channelKey x.channel 0x01) := rfl
  unfold Counted
  rw [hadded, get_addTo_self, count1, get_count hreport]

theorem chunkGrant_takesEffect {s : State} {ch : Fin 16} {x : Transfer} (hx : s.nextChunk ch.val = some x) : Completes (.chunkGrant ch) s fun t =>
    Counted (channelKey x.channel 0x01) (min 512 x.bytes) s t ∧ (∀ y ∈ t.med.transfers, 0 < y.bytes) ∧
      (512 < x.bytes → { x with bytes := x.bytes - 512 } ∈ t.med.transfers) ∧
      (x.bytes ≤ 512 → (∀ y ∈ s.med.transfers, y.id = x.id → y = x) → ∀ y ∈ t.med.transfers, y.id ≠ x.id) ∧
      ∀ y ∈ s.med.transfers, y.id ≠ x.id → 0 < y.bytes → y ∈ t.med.transfers := by
  have hexec : exec (.chunkGrant ch) s = .next (grantChunk x s) := by
    show execChunkGrant ch s = _
    unfold execChunkGrant
    rw [hx]
  have hmem := mem_transfers_of_nextChunk hx
  refine ⟨_, hexec, counted_grantChunk x s, ?_⟩
  rw [transfers_grantChunk]
  refine ⟨fun y hy => by simpa using (List.mem_filter.mp hy).2, fun hlong => ?_, fun hshort honce y hy hid => ?_, fun y hy hid hbytes => ?_⟩
  · have hrest : x.granted x = { x with bytes := x.bytes - 512 } := by rw [granted_self, Nat.min_eq_left (Nat.le_of_lt hlong)]
    exact List.mem_filter.mpr ⟨List.mem_map.mpr ⟨x, hmem, hrest⟩, by simpa using hlong⟩
  · obtain ⟨hgranted, hleft⟩ := List.mem_filter.mp hy
    obtain ⟨z, hz, rfl⟩ := List.mem_map.mp hgranted
    rw [honce z hz ((id_granted z x).symm.trans hid), granted_self, Nat.min_eq_right hshort] at hleft
    simp at hleft
  · exact List.mem_filter.mpr ⟨List.mem_map.mpr ⟨y, hy, granted_of_ne hid⟩, by simpa using hbytes⟩

/-- Settles O43, clause by clause: the log writer's rows, the programs and resets, the stripe pages and the chunks of a channel. -/
theorem logRowsAndProgramsRun : Obligations.LogRowsAndProgramsRun := by
  unfold Obligations.LogRowsAndProgramsRun
  refine ⟨⟨stagingHoldExpiry_takes, fun s c hopen hready => ?_, fun s mark r hr hopen hdone => ?_⟩, fun s job j => programDispatch_takesEffect,
    fun s op o => programComplete_takesEffect, fun s id p => stripePageComplete_takesEffect, fun s ch x => chunkGrant_takesEffect⟩
  · obtain ⟨t, hexec, hhead, hrow, hjobs⟩ := rowCommand_dispatches hopen hready
    exact ⟨t, hexec, hhead, hrow, hjobs⟩
  · obtain ⟨hexec, hmark⟩ := logRowComplete_completes hr hopen hdone
    obtain ⟨hcomplete, hlines⟩ := completeRow_completes r s
    rw [hmark] at hcomplete hlines
    refine ⟨_, hexec, hcomplete, fun l hl honce => ?_⟩
    obtain ⟨hstaged, hmoved⟩ := hlines l hl honce
    refine ⟨fun hplaced x hx => ?_, hmoved⟩
    obtain ⟨hdelta, hleft⟩ := hstaged hplaced x hx
    exact ⟨⟨_, hdelta, rfl, rfl, rfl, rfl⟩, hleft⟩

end Sys2Proof.Machine
end

section
/-! SUPPORT. The entry to HALT: no operation that it runs lets a port answer again or clears the HALT record, one lemma for each operation (R32,
R329). -/

namespace Sys2Proof.Machine

/-! ### What the entry to HALT leaves -/

/-- Whether each port is silent on CXL.mem, and the HALT record. -/
def State.muting (s : State) : Bool × Bool × Option HaltRecord := (s.portA.silent, s.portB.silent, s.integ.halt)

theorem halt_of_muting {s t : State} (h : t.muting = s.muting) : t.integ.halt = s.integ.halt := congrArg (·.2.2) h

theorem muting_of_ports {s t : State} (hports : ∀ p, (t.port p).silent = (s.port p).silent) (hhalt : t.integ.halt = s.integ.halt) :
    t.muting = s.muting := Prod.ext (hports .a) (Prod.ext (hports .b) hhalt)

/-- Every part of the state but the ports and the integrity, as a mask of `Keeps`. -/
def mutingMask : Nat := 0x3FBFFFF9F

theorem muting_of_keeps {s t : State} (h : Keeps mutingMask s t) : t.muting = s.muting :=
  muting_of_ports (fun _ => congrArg PortState.silent (port_keeps h rfl rfl _)) (congrArg Integrity.halt (h.integ rfl))

theorem muting_of_unreported {s t : State} (h : unreported t = unreported s) : t.muting = s.muting :=
  muting_of_ports (fun _ => port_silent_eq h) (congrArg Integrity.halt (integ_eq h))

theorem muting_of_unjournaled {s t : State} (h : unjournaled t = unjournaled s) : t.muting = s.muting :=
  (congrArg (fun u => (u.1.portA.silent, u.1.portB.silent, u.1.integ.halt)) h :)

/-- What goes on with a port's requests, and leaves the integrity, mutes and unmutes no port. -/
theorem muting_of_onward {μ : Nat} {s t : State} (hon : ∀ p, Onward p s t) (h : Keeps μ s t) (hinteg : μ.testBit 26 = false := by rfl) :
    t.muting = s.muting := muting_of_ports (fun p => (hon p).silent) (congrArg Integrity.halt (h.integ hinteg))

theorem muting_ite (c : Prop) [Decidable c] (a b : State) : (if c then a else b).muting = if c then a.muting else b.muting := by split <;> rfl

theorem muting_foldl {α : Type} (f : State → α → State) (h : ∀ t a, (f t a).muting = t.muting) (l : List α) (s : State) :
    (l.foldl f s).muting = s.muting := by
  induction l generalizing s with
  | nil => rfl
  | cons a l ih => exact (ih _).trans (h s a)

theorem muting_modPort (q : Port) (f : PortState → PortState) (hf : ∀ v, (f v).silent = v.silent) (s : State) :
    (s.modPort q f).muting = s.muting := by
  cases q
  · exact congrArg (fun b => (b, s.portB.silent, s.integ.halt)) (hf s.portA)
  · exact congrArg (fun b => (s.portA.silent, b, s.integ.halt)) (hf s.portB)

/-! ### Registers, reports and responses -/

theorem muting_put (k v : Nat) (s : State) : (s.put k v).muting = s.muting := rfl

theorem muting_bump (k : Nat) (s : State) : (s.bump k).muting = s.muting := rfl

theorem muting_raiseTo (k v : Nat) (s : State) : (s.raiseTo k v).muting = s.muting := muting_of_keeps (fr_raiseTo rfl k v (keeps_refl _ s))

theorem muting_takeStamp (s : State) : (takeStamp s).muting = s.muting := muting_of_unreported (unreported_takeStamp s)

theorem muting_raise (src : Nat) (s : State) : (raise src s).muting = s.muting := muting_of_unreported (unreported_raise src s)

theorem muting_raiseIf (c : Bool) (src : Nat) (s : State) : (raiseIf c src s).muting = s.muting := muting_of_unreported (unreported_raiseIf c src s)

theorem muting_count1 (code q : Nat) (s : State) : (count1 code q s).muting = s.muting := muting_of_unreported (unreported_count1 code q s)

theorem muting_setGroup (g : Nat) (v : Group) (s : State) : (s.setGroup g v).muting = s.muting := muting_of_keeps (fr_setGroup rfl g v (keeps_refl _ s))

theorem muting_promptDone (x : Read) (s : State) : (promptDone x s).muting = s.muting :=
  muting_of_onward (fun _ => on_promptDone x (on_refl s)) (fr_promptDone (μ := kf_promptDone) rfl x (keeps_refl _ s))

theorem muting_sampleWindow (q : Port) (opcode line : Nat) (sampled : Bool) (s : State) : (sampleWindow q opcode line sampled s).muting = s.muting :=
  muting_of_onward (fun _ => on_sampleWindow q opcode line sampled (on_refl s))
    (fr_sampleWindow (μ := kf_sampleWindow) rfl q opcode line sampled (keeps_refl _ s))

theorem muting_sampleRead (q : Port) (opcode line accepted outcome unit steps cls flags : Nat) (poison : Bool) (s : State) :
    (sampleRead q opcode line accepted outcome unit steps cls flags poison s).muting = s.muting :=
  muting_of_onward (fun _ => on_sampleRead q opcode line accepted outcome unit steps cls flags poison (on_refl s))
    (fr_sampleRead (μ := kf_sampleRead) rfl q opcode line accepted outcome unit steps cls flags poison (keeps_refl _ s))

theorem muting_sampleStore (q : Port) (x : Store) (stamp : Nat) (s : State) : (sampleStore q x stamp s).muting = s.muting :=
  muting_of_onward (fun _ => on_sampleStore q x stamp (on_refl s)) (fr_sampleStore (μ := kf_sampleStore) rfl q x stamp (keeps_refl _ s))

theorem muting_sendData (q : Port) (tag : Nat) (d : Line) (poison : Bool) (s : State) : (sendData q tag d poison s).muting = s.muting :=
  muting_of_onward (fun _ => on_sendData q tag d poison (on_refl s)) (fr_sendData (μ := kf_sendData) rfl q tag d poison (keeps_refl _ s))

theorem muting_sendCmp (q : Port) (tag : Nat) (s : State) : (sendCmp q tag s).muting = s.muting :=
  muting_of_onward (fun _ => on_sendCmp q tag (on_refl s)) (fr_sendCmp (μ := kf_sendCmp) rfl q tag (keeps_refl _ s))

theorem muting_sendCmps (l : List (Port × Nat)) (s : State) : (sendCmps l s).muting = s.muting := by
  unfold sendCmps
  exact muting_foldl _ (fun t e => muting_sendCmp e.1 e.2 t) l s

theorem muting_cmpStore (q : Port) (x : Store) (s : State) : (cmpStore q x s).muting = s.muting := by
  unfold cmpStore
  simp only [muting_ite, muting_sendCmp, ite_self]

theorem muting_dropStores (q : Port) (bit n : Nat) (s : State) : (dropStores q bit n s).muting = s.muting :=
  muting_of_onward (fun _ => on_dropStores q bit n (on_refl s)) (fr_dropStores (μ := kf_dropStores) rfl q bit n (keeps_refl _ s))

theorem muting_serveAccess (q : Port) (w : PortWait) (s : State) : (serveAccess q w s).muting = s.muting :=
  muting_of_onward (fun _ => on_serveAccess q w (on_refl s)) (fr_serveAccess (μ := kf_serveAccess) rfl q w (keeps_refl _ s))

/-! ### Reads -/

theorem muting_addRead (x : Read) (s : State) : (addRead x s).muting = s.muting := rfl

theorem muting_dropRead (id : Nat) (s : State) : (dropRead id s).muting = s.muting := muting_of_keeps (fr_dropRead rfl id (keeps_refl _ s))

theorem muting_startRebuild (seg : Nat) (s : State) : (startRebuild seg s).muting = s.muting :=
  muting_of_keeps (fr_startRebuild rfl seg (keeps_refl _ s))

theorem muting_answerRead (x : Read) (v : Version) (s : State) : (answerRead x v s).muting = s.muting := by
  unfold answerRead
  split <;> simp only [muting_ite, muting_dropRead, muting_promptDone, muting_sampleRead, muting_sendData, ite_self]

theorem muting_answerMerges (q : Port) (line : Nat) (s : State) : (answerMerges q line s).muting = s.muting := by
  unfold answerMerges
  rw [muting_ite, muting_foldl _ fun t x => muting_answerRead x _ t, ite_self]

theorem muting_dropPrefetches (d : Nat) (s : State) : (dropPrefetches d s).muting = s.muting := by
  unfold dropPrefetches
  rw [muting_ite]
  simp only [muting_foldl _ fun t (x : Read) => (muting_bump 0x407008 _).trans (muting_dropRead x.id t), ite_self]

theorem muting_noteReconstruction (x : Read) (s : State) : (noteReconstruction x s).muting = s.muting := by
  unfold noteReconstruction
  split <;> simp only [muting_count1, muting_bump]

theorem muting_placeRead (x : Read) (s : State) : (placeRead x s).muting = s.muting := by
  unfold placeRead
  simp only [muting_ite, muting_dropPrefetches, muting_noteReconstruction, muting_addRead, ite_self]

theorem muting_tagRead (x : Read) (s : State) : (tagRead x s).muting = s.muting := by
  unfold tagRead
  rw [muting_ite]
  split
  · rfl
  · split
    · rfl
    · exact muting_placeRead _ s

theorem muting_dispatchRead (q : Port) (x : Read) (s : State) : (dispatchRead q x s).muting = s.muting := by
  have hearly (l : List Read) (t : State) : (l.foldl (fun t y => (dropRead y.id t).bump 0x407009) t).muting = t.muting :=
    muting_foldl _ (fun t y => (muting_bump _ _).trans (muting_dropRead y.id t)) l t
  unfold dispatchRead
  split <;> simp only [muting_placeRead, muting_tagRead, hearly, muting_ite, muting_bump, muting_count1, ite_self]

theorem muting_readMedium (q : Port) (x : Read) (s : State) : (readMedium q x s).muting = s.muting := by
  unfold readMedium
  split <;> simp only [muting_ite, muting_startRebuild, muting_addRead, muting_answerRead, muting_dispatchRead, ite_self]

/-! ### The journal, discards and write groups -/

theorem muting_programTail (s : State) : (programTail s).muting = s.muting := muting_of_unjournaled (unjournaled_programTail s)

theorem muting_journalPut (k : JournalKind) (s : State) : (journalPut k s).muting = s.muting := muting_of_unjournaled (unjournaled_journalPut k s)

theorem muting_rearmStall (s : State) : (rearmStall s).muting = s.muting := muting_of_keeps (fr_rearmStall rfl (keeps_refl _ s))

theorem muting_discardRange (q : Port) (entry first n : Nat) (s : State) : (discardRange q entry first n s).muting = s.muting := by
  have hpages : (dirtyPages first n s).muting = s.muting := muting_of_keeps (fr_dirtyPages rfl first n (keeps_refl _ s))
  have hcaches (a b : Nat) (t : State) : (dropCachedRange a b t).muting = t.muting := muting_of_keeps (fr_dropCachedRange rfl a b (keeps_refl _ t))
  have hlines (l : List Staged) (m : Medium) (x : Translation) (t : State) : State.muting { t with staging := l, med := m, xlat := x } = t.muting :=
    rfl
  unfold discardRange
  simp only [muting_sendCmps, muting_rearmStall, hcaches, hlines, muting_journalPut, hpages]

theorem muting_finishDiscard (q : Port) (entry : Nat) (s : State) : (finishDiscard q entry s).muting = s.muting :=
  (muting_modPort q _ (by exact fun _ => rfl) _).trans (muting_discardRange _ _ _ _ s)

theorem muting_runDiscard (q : Port) (s : State) : (runDiscard q s).muting = s.muting := by
  have hfreed : (if s.freeDiscardEntry.isNone then unmap 0 s else s).muting = s.muting := by
    rw [muting_ite, muting_of_keeps (fr_unmap rfl 0 (keeps_refl _ s)), ite_self]
  unfold runDiscard
  split
  · simp only
    split
    · exact (muting_finishDiscard _ _ _).trans hfreed
    · exact hfreed
  · rfl

theorem muting_finishDiscards (s : State) : (finishDiscards s).muting = s.muting := (muting_runDiscard _ _).trans (muting_runDiscard _ s)

theorem muting_discardProvisional (g : Nat) (s : State) : (discardProvisional g s).muting = s.muting :=
  (muting_sendCmps _ _).trans (muting_rearmStall _)

theorem muting_checkPool (s : State) : (checkPool s).muting = s.muting := by
  have hpool (b : Bool) : State.muting { s with xlat := { s.xlat with poolAbove := b } } = s.muting := rfl
  unfold checkPool
  simp only [muting_ite, muting_raise, hpool, ite_self]

theorem muting_forceAbortNow (g cause : Nat) (s : State) : (forceAbortNow g cause s).muting = s.muting := by
  unfold forceAbortNow
  simp only [muting_raise, muting_bump, muting_journalPut, muting_dropStores, muting_checkPool, muting_setGroup, muting_discardProvisional]

theorem muting_forceAbort (g cause detail : Nat) (s : State) : (forceAbort g cause detail s).muting = s.muting := by
  unfold forceAbort
  simp only
  split
  · rfl
  · split <;> simp only [muting_ite, muting_setGroup, muting_forceAbortNow, ite_self]

theorem muting_dirtySegment (seg : Nat) (s : State) : (dirtySegment seg s).muting = s.muting :=
  muting_of_keeps (fr_dirtySegment rfl seg (keeps_refl _ s))

theorem muting_pruneRanges (line : Nat) (s : State) : (pruneRanges line s).muting = s.muting := rfl

theorem muting_commitLines (g stamp : Nat) (s : State) : (commitLines g stamp s).muting = s.muting := by
  have hcached (t : State) (l : Nat) : (dropCached l t).muting = t.muting := muting_of_keeps (fr_dropCached rfl l (keeps_refl _ t))
  have hpruned (t : State) (l : Nat) : (pruneRanges l (dirtySegment (segmentOfLine l) t)).muting = t.muting :=
    (muting_pruneRanges _ _).trans (muting_dirtySegment _ t)
  have hmoved (l : List Staged) (r : List (Nat × Nat × Nat)) (x : Translation) :
      State.muting { s with staging := l, integ := { s.integ with poisonedRanges := r }, xlat := x } = s.muting := rfl
  unfold commitLines
  simp only [muting_foldl _ hpruned, muting_foldl _ hcached, muting_rearmStall, hmoved]

theorem muting_decideCommit (g : Nat) (s : State) : (decideCommit g s).muting = s.muting := by
  unfold decideCommit
  simp only
  split
  · rfl
  · simp only [muting_ite, muting_raise, muting_count1, muting_bump, muting_checkPool, muting_setGroup, muting_discardProvisional,
      muting_journalPut, muting_sendCmps, muting_commitLines, ite_self]

theorem muting_applyCommand (g : Nat) (c : GroupCommand) (s : State) : (applyCommand g c s).muting = s.muting := by
  unfold applyCommand
  simp only [muting_ite, muting_programTail, muting_setGroup, muting_journalPut, muting_bump, muting_checkPool, muting_discardProvisional,
    ite_self]

theorem muting_wakeDiscard (q : Port) (s : State) : (wakeDiscard q s).muting = s.muting := by
  unfold wakeDiscard
  rw [muting_ite, muting_modPort q _ (by exact fun _ => rfl), ite_self]

theorem muting_answerReaders (g : Nat) (s : State) : (answerReaders g s).muting = s.muting := by
  unfold answerReaders
  simp only
  rw [muting_foldl _ fun t (x : GroupReader) => (muting_sampleWindow _ _ _ _ _).trans (muting_sendData _ _ _ _ t), muting_setGroup]

theorem muting_writeResult (g : Nat) (c : GroupCommand) (s : State) : (writeResult g c s).muting = s.muting := by
  unfold writeResult
  simp only
  split <;> simp only [muting_ite, muting_raiseTo, muting_setGroup, muting_forceAbortNow, ite_self]

theorem muting_finishCommand (g : Nat) (s : State) : (finishCommand g s).muting = s.muting := by
  have hnext (t : State) : (startNext g t).muting = t.muting := muting_of_keeps (fr_startNext rfl g (keeps_refl _ t))
  unfold finishCommand
  split
  · rfl
  · simp only [muting_wakeDiscard, muting_answerReaders, hnext, muting_writeResult, muting_ite, muting_applyCommand, ite_self]

theorem muting_settleGroup (n g : Nat) (s : State) : (settleGroup n g s).muting = s.muting := by
  induction n generalizing s with
  | zero => rfl
  | succ n ih =>
    unfold settleGroup
    simp only [muting_ite, ih, muting_finishCommand, muting_finishDiscards, muting_decideCommit, ite_self]

theorem muting_settle (g : Nat) (s : State) : (settle g s).muting = s.muting := muting_settleGroup _ g s

/-! ### Rebuilds -/

theorem muting_agentReads (cls unit n : Nat) (s : State) : (agentReads cls unit n s).muting = s.muting :=
  muting_of_unreported (by
    have hmoved (ch : Nat) (t : State) : unreported (sectorsMoved ch n t) = unreported t := by
      unfold sectorsMoved
      simp only [unreported_addTo, unreported_count]
    unfold agentReads reconstructions
    simp only [unreported_ite, unreported_foldl _ fun t c => hmoved c t, hmoved, ite_self])

theorem muting_releaseReads (ready : Nat → Bool) (s : State) : (releaseReads ready s).muting = s.muting := by
  unfold releaseReads
  refine muting_foldl _ (fun t x => ?_) _ s
  simp only
  split <;> simp only [muting_readMedium, muting_raiseTo, muting_dropRead]

theorem muting_readCheckpoint (seg : Nat) (s : State) : (readCheckpoint seg s).muting = s.muting := by
  unfold readCheckpoint
  split
  · exact muting_agentReads _ _ _ s
  · rfl

theorem muting_finishRebuild (seg : Nat) (s : State) : (finishRebuild seg s).muting = s.muting := by
  have hnext (t : State) : (nextRebuild t).muting = t.muting := muting_of_keeps (fr_nextRebuild rfl (keeps_refl _ t))
  have hrebuilt (t : State) : (rebuildSegment seg t).muting = t.muting := muting_of_keeps (fr_rebuildSegment rfl seg (keeps_refl _ t))
  unfold finishRebuild
  rw [hnext, muting_releaseReads, hrebuilt, muting_readCheckpoint]

theorem muting_demandNow (seg : Nat) (s : State) : (demandNow seg s).muting = s.muting := by
  unfold demandNow
  simp only [muting_ite, muting_finishRebuild, muting_bump, ite_self]

/-! ### Stores, waiting accesses and flushes -/

theorem muting_storeCommitted (line : Nat) (d : Line) (poison : Bool) (stamp wmode : Nat) (cmpTo : List (Port × Nat)) (s : State) :
    (storeCommitted line d poison stamp wmode cmpTo s).muting = s.muting := by
  have hcaches (w : Line) (t : State) : (storeToCaches wmode line w poison t).muting = t.muting :=
    muting_of_keeps (fr_storeToCaches rfl wmode line w poison (keeps_refl _ t))
  have hstaged : (stageLine line none none d poison stamp wmode cmpTo s).muting = s.muting :=
    muting_of_keeps (fr_stageLine rfl line none none d poison stamp wmode cmpTo (keeps_refl _ s))
  unfold storeCommitted
  rw [muting_pruneRanges, muting_dirtySegment, hcaches, hstaged]

theorem muting_storeProvisional (g line : Nat) (d : Line) (poison : Bool) (stamp wmode : Nat) (cmpTo : List (Port × Nat)) (s : State) :
    (storeProvisional g line d poison stamp wmode cmpTo s).muting = s.muting := by
  have hstaged (tag : Option Nat) (t : State) : (stageLine line (some g) tag d poison stamp wmode cmpTo t).muting = t.muting :=
    muting_of_keeps (fr_stageLine rfl line (some g) tag d poison stamp wmode cmpTo (keeps_refl _ t))
  unfold storeProvisional
  simp only [muting_checkPool, muting_dirtySegment, hstaged, muting_ite, muting_setGroup, ite_self]

theorem muting_visibleStore (q : Port) (x : Store) (d : Line) (poison : Bool) (s : State) : (visibleStore q x d poison s).muting = s.muting := by
  have hconflict (g page : Nat) (t : State) : (markConflict g page t).muting = t.muting :=
    muting_of_keeps (fr_markConflict rfl g page (keeps_refl _ t))
  unfold visibleStore
  generalize s.fate (some q) x.line = fate
  cases fate <;> simp only [muting_dropStores, muting_forceAbort, muting_sampleStore, muting_storeProvisional, muting_storeCommitted, hconflict,
    muting_ite, muting_cmpStore, muting_takeStamp, ite_self]

theorem muting_transfer (q : Port) (x : Store) (s : State) : (transfer q x s).muting = s.muting := by
  have hended (t : State) : (endMerge q x t).muting = t.muting := muting_of_keeps (fr_endMerge rfl q x (keeps_refl _ t))
  have hunqueued : (unqueue q x s).muting = s.muting := by
    have hcredits (t : State) : (grantCredits q t).muting = t.muting :=
      muting_of_onward (fun _ => on_grantCredits q (on_refl t)) (fr_grantCredits (μ := kf_grantCredits) rfl q (keeps_refl _ t))
    exact (hcredits _).trans (muting_modPort q _ (by exact fun _ => rfl) s)
  unfold transfer
  simp only [muting_ite, muting_answerMerges, muting_visibleStore, muting_raise, muting_bump, muting_cmpStore, hended, hunqueued, ite_self]

theorem muting_drainLoop (n : Nat) (q : Port) (bound : Nat) (s : State) : (drainLoop n q bound s).muting = s.muting := by
  induction n generalizing s with
  | zero => rfl
  | succ n ih =>
    unfold drainLoop
    split
    · rfl
    · simp only [ih, muting_transfer, muting_ite, muting_demandNow, ite_self]

theorem muting_drainTo (q : Port) (bound : Nat) (s : State) : (drainTo q bound s).muting = s.muting := by
  have hheld : (settleHolds q s).muting = s.muting := by
    unfold settleHolds
    refine muting_foldl _ (fun t x => ?_) _ s
    split
    · rfl
    · exact muting_settle _ t
  unfold drainTo
  rw [muting_modPort q _ (by exact fun _ => rfl), muting_drainLoop, hheld]

theorem muting_serveFlushes (q : Port) (s : State) : (serveFlushes q s).muting = s.muting := by
  have hdone (l : List (Nat × Nat)) (t : State) :
      (l.foldl (fun t f => raiseIf (f.1 == 2) (portSource q 11) (emit (.flushDone q f.1) t)) t).muting = t.muting :=
    muting_foldl _ (fun t f => muting_raiseIf (f.1 == 2) (portSource q 11) (emit (.flushDone q f.1) t)) l t
  unfold serveFlushes
  simp only
  rw [hdone, muting_modPort q _ (by exact fun _ => rfl)]

theorem muting_serveWaits (n : Nat) (q : Port) (s : State) : (serveWaits n q s).muting = s.muting := by
  induction n generalizing s with
  | zero => rfl
  | succ n ih =>
    unfold serveWaits
    split
    · rfl
    · split
      · rfl
      · rw [ih, muting_serveAccess, muting_modPort q _ (by exact fun _ => rfl)]

theorem muting_triggerDrain (q : Port) (s : State) : (triggerDrain q s).muting = s.muting := by
  have hresumed (t : State) : (resumePort q t).muting = t.muting := by
    unfold resumePort
    simp only [muting_serveFlushes, muting_serveWaits, muting_ite, muting_drainTo, ite_self]
  exact (hresumed _).trans (muting_drainTo q _ s)

end Sys2Proof.Machine
end

section
/-! SUPPORT. The programs that the entry to HALT waits for, and the entry itself (R32, R316, R329). -/

namespace Sys2Proof.Machine

/-! ### Sealing -/

theorem muting_integrity (s : State) (g : Integrity) (h : g.halt = s.integ.halt) : State.muting { s with integ := g } = s.muting :=
  muting_of_ports (fun p => by cases p <;> rfl) h

theorem muting_touchIntegrity (obj : IntegrityObject) (s : State) : (touchIntegrity obj s).muting = s.muting := rfl

theorem muting_touchBlock (page : Nat) (s : State) : (touchBlock page s).muting = s.muting :=
  (muting_foldl _ (fun t i => muting_touchIntegrity (.node (i + 1) (page / 8 ^ (i + 1))) t) _ _).trans (muting_touchIntegrity _ s)

theorem muting_putEntry (k : IntegrityKind) (s : State) : (putEntry k s).muting = s.muting := rfl

theorem muting_coverIntegrity (obj : IntegrityObject) (s : State) : (coverIntegrity obj s).muting = s.muting := rfl

theorem muting_cacheLine (obj : IntegrityObject) (s : State) : (cacheLine obj s).muting = s.muting := by
  unfold cacheLine
  simp only
  split
  · split
    · exact (muting_foldl _ (fun t i => muting_coverIntegrity _ t) _ _).trans ((muting_coverIntegrity _ _).trans (muting_integrity s _ rfl))
    · exact (muting_coverIntegrity _ _).trans (muting_integrity s _ rfl)
  · split
    · exact muting_integrity s _ rfl
    · exact (muting_integrity _ _ rfl).trans (muting_integrity s _ rfl)

theorem muting_fetchLine (obj : IntegrityObject) (s : State) : (fetchLine obj s).muting = s.muting := by
  have hsector (t : State) (o : IntegrityObject) : ((integritySector o t).bump 0x70030A).muting = t.muting := by
    refine (muting_bump _ _).trans ?_
    unfold integritySector
    split
    · refine muting_of_unreported ?_
      unfold sectorMoved sectorsMoved
      simp only [unreported_addTo, unreported_count]
    · rfl
  unfold fetchLine
  simp only [muting_ite, muting_foldl _ (fun t o => muting_cacheLine o t), muting_foldl _ hsector, ite_self]

theorem muting_reEncrypt (line : Nat) (s : State) : (reEncrypt line s).muting = s.muting := by
  have hread (t : State) (x : Nat × Nat) : (agentReads clsBackground x.1 1 t).muting = t.muting := muting_agentReads _ _ _ t
  have hmoved (t : State) (c : Tbl CounterBlock) (m : Medium) :
      State.muting { t with integ := { t.integ with counters := c }, med := m } = t.muting := rfl
  unfold reEncrypt
  simp only [muting_raise, muting_bump, muting_putEntry, muting_touchBlock, hmoved]
  exact muting_foldl _ hread _ s

theorem muting_takeSeal (line : Nat) (tag : Option Nat) (stamp : Nat) (preset : Option Seal) (s : State) :
    (takeSeal line tag stamp preset s).2.muting = s.muting := by
  have hcounted (t : State) (c : Tbl CounterBlock) : State.muting { t with integ := { t.integ with counters := c } } = t.muting := rfl
  unfold takeSeal
  split
  · simp only [muting_touchIntegrity, muting_fetchLine]
  · split
    · rfl
    · simp only [muting_touchIntegrity, muting_touchBlock, muting_ite, muting_reEncrypt, hcounted, muting_fetchLine, ite_self]

theorem muting_sealInto (place line : Nat) (grp tag : Option Nat) (data : Line) (poison : Bool) (stamp : Nat) (preset : Option Seal)
    (s : State) : (sealInto place line grp tag data poison stamp preset s).2.muting = s.muting := by
  unfold sealInto
  simp only [muting_ite, muting_touchIntegrity, muting_fetchLine, muting_takeSeal, ite_self]

/-! ### The log -/

theorem muting_placeMoves (mark q : Nat) (moves : List LogMove) (acc : List LogLine) (s : State) :
    (placeMoves mark q moves acc s).2.muting = s.muting := by
  induction moves generalizing q acc s with
  | nil => rfl
  | cons m moves ih =>
    have hstamped : (moveStamp m s).2.muting = s.muting := muting_of_keeps (fr_moveStamp rfl m (keeps_refl _ s))
    unfold placeMoves
    simp only [ih, muting_sealInto, hstamped]

theorem muting_placeStaged (mark q : Nat) (staged : List Staged) (acc : List LogLine) (s : State) :
    (placeStaged mark q staged acc s).2.muting = s.muting := by
  induction staged generalizing q acc s with
  | nil => rfl
  | cons x staged ih =>
    unfold placeStaged
    simp only [ih, muting_sealInto]

theorem muting_checkLogFull (s : State) : (checkLogFull s).muting = s.muting := by
  unfold checkLogFull
  split
  · split
    · simp only
      split
      · rfl
      · exact (muting_raise _ _).trans rfl
    · split <;> rfl
  · split
    · rfl
    · exact (muting_raiseTo _ _ _).trans rfl

theorem muting_dispatchRow (s : State) : (dispatchRow s).muting = s.muting := by
  have hplaced (t : State) (l : List Staged) (m : Medium) : State.muting { t with staging := l, med := m } = t.muting := rfl
  unfold dispatchRow
  simp only [muting_checkLogFull, hplaced, muting_placeStaged, muting_placeMoves]

theorem muting_completeRow (r : LogRow) (s : State) : (completeRow r s).muting = s.muting := by
  have hmarked : (markedRow r s).muting = s.muting := muting_foldl _ (by exact fun t l => muting_putEntry _ t) _ _
  have hlanded : (landedRow r s).muting = s.muting := by
    refine (muting_foldl _ (fun t l => ?_) _ _).trans hmarked
    unfold landLine
    split
    · exact muting_of_keeps (fr_landMove rfl _ _ (keeps_refl _ t))
    · exact muting_of_keeps (fr_landStaged rfl _ _ (keeps_refl _ t))
  have hentries (t : State) : (programEntries t).muting = t.muting := muting_of_unjournaled (unjournaled_programEntries t)
  have hmedium (l : List (Nat × Nat)) : (linesOnMedium l (landedRow r s)).muting = s.muting := hlanded
  unfold completeRow
  simp only [muting_sendCmps, muting_checkLogFull, muting_count1]
  split
  · exact (muting_programTail _).trans (hmedium _)
  · split
    · exact (hentries _).trans (hmedium _)
    · exact hmedium _

theorem muting_landRow (r : LogRow) (s : State) : (landRow r s).muting = s.muting := by
  have hsectors (l : List Nat) (t : State) : (l.foldl (fun t u => sectorProgrammed u (r.mark % 8192 / 16) t) t).muting = t.muting :=
    muting_foldl _ (fun t u => muting_of_unjournaled (unjournaled_sectorProgrammed u _ t)) l t
  have hruns (l : List Job) (t : State) : (l.foldl (fun t j => programsRun .sl j.unit 1 268 t) t).muting = t.muting :=
    muting_foldl _ (fun t (j : Job) => muting_of_unjournaled (unjournaled_programsRun .sl j.unit 1 268 t)) l t
  have hrow (l : List ProgramStart) (t : State) : (rowStarted r.mark l t).muting = t.muting := rfl
  have hjobs (l : List Job) (t : State) : (startJobs l t).2.muting = t.muting := muting_of_keeps (fr_startJobs rfl l (keeps_refl _ t))
  have hended (m : Medium) : (endOverruns { s with med := m }).muting = s.muting := rfl
  unfold landRow
  simp only [muting_completeRow, hsectors, hruns, hrow, hjobs, hended]

theorem muting_flushLog (n : Nat) (s : State) : (flushLog n s).muting = s.muting := by
  induction n generalizing s with
  | zero => rfl
  | succ n ih =>
    unfold flushLog
    split
    · exact (ih _).trans (muting_landRow _ s)
    · simp only
      split
      · exact (ih _).trans (muting_dispatchRow _)
      · rfl

theorem muting_programAll (s : State) : (programAll s).muting = s.muting := (muting_programTail _).trans (muting_flushLog _ s)

/-! ### The entry to HALT -/

theorem muting_settleAll (s : State) : (settleAll s).muting = s.muting := muting_foldl _ (fun t g => muting_settle g t) _ s

theorem muting_finishLoop (n : Nat) (s : State) : (finishLoop n s).muting = s.muting := by
  induction n generalizing s with
  | zero => rfl
  | succ n ih =>
    unfold finishLoop
    simp only [muting_ite, ih, muting_triggerDrain, muting_settleAll, muting_programAll, ite_self]

theorem muting_portException (p : Port) (cause : Nat) (s : State) : (portException p cause s).muting = s.muting := by
  have hlost (t : State) : (loseAll p .exception t).muting = t.muting := muting_of_keeps (fr_loseAll rfl p _ (keeps_refl _ t))
  unfold portException
  simp only [muting_triggerDrain, muting_raise, hlost, muting_put, muting_bump]

theorem muting_bothExceptions (cause : Nat) (s : State) : (bothExceptions cause s).muting = s.muting := by
  unfold bothExceptions
  simp only [muting_ite, muting_portException, ite_self]

theorem muting_forgetRequests (p : Port) (s : State) : (forgetRequests p s).muting = s.muting := by
  have hstaging (t : State) (l : List Staged) : State.muting { t with staging := l } = t.muting := rfl
  have hreads (l : List Read) (t : State) : (l.foldl (fun t r => dropRead r.id t) t).muting = t.muting :=
    muting_foldl _ (fun t r => muting_dropRead r.id t) l t
  have hgroups (l : Tbl Group) (f : Nat × Group → Group) (t : State) : (l.foldl (fun t e => t.setGroup e.1 (f e)) t).muting = t.muting :=
    muting_foldl _ (fun t e => muting_setGroup e.1 (f e) t) l t
  unfold forgetRequests
  simp only [hstaging, hreads]
  exact (muting_modPort p _ (by exact fun _ => rfl) _).trans (hgroups _ _ s)

theorem muting_setAsideNamed (s : State) : (setAsideNamed s).muting = s.muting := by
  have hreads (t : State) (l : List Read) : State.muting { t with reads := l } = t.muting := rfl
  unfold setAsideNamed
  simp only [hreads]
  rw [muting_modPort .b _ (by exact fun _ => rfl), muting_modPort .a _ (by exact fun _ => rfl)]

theorem muting_haltDma (failed : Option Nat) (s : State) : (haltDma failed s).muting = s.muting := by
  have hchannel (k cause dpa direction : Nat) (t : State) : (haltChannel k cause dpa direction t).muting = t.muting := by
    unfold haltChannel
    exact (muting_raise _ _).trans ((muting_bump _ _).trans (muting_of_keeps (fr_setChannel rfl _ _ (keeps_refl _ t))))
  have hdrawn (t : State) : (drawn t).muting = t.muting := rfl
  unfold haltDma
  refine muting_foldl _ (fun t k => ?_) _ s
  simp only [muting_ite, hchannel, hdrawn, ite_self]

theorem muting_dropReady (p : Port) (s : State) : (dropReady p s).muting = s.muting :=
  muting_of_onward (fun _ => on_dropReady p (on_refl s)) (fr_dropReady (μ := kf_dropReady) rfl p (keeps_refl _ s))

theorem muting_setMode (m : Nat) (s : State) : (setMode m s).muting = s.muting := by
  have hjudged (t : State) : (judgeEpisode t).muting = t.muting := muting_of_keeps (fr_judgeEpisode rfl (keeps_refl _ t))
  unfold setMode
  simp only [muting_ite, muting_raise, hjudged]
  exact ite_self _

/-- At the entry to HALT both ports fall silent, and the HALT record stays. -/
theorem muting_haltNow (failed : Option Nat) (s : State) : (haltNow failed s).muting = (true, true, s.integ.halt) := by
  have hstopped : (stopDozeEntry s).integ.halt = s.integ.halt :=
    congrArg Integrity.halt ((fr_stopDozeEntry (μ := kf_stopDozeEntry) rfl (keeps_refl _ s)).integ rfl)
  have hsilent : State.muting { silence (stopDozeEntry s) with reads := [], retries := [] } = (true, true, s.integ.halt) :=
    congrArg (fun h => (true, true, h)) hstopped
  unfold haltNow finishAccepted
  simp only [muting_setMode, muting_put, muting_dropReady, muting_haltDma, muting_forgetRequests, muting_finishLoop, muting_settleAll,
    muting_bothExceptions, muting_setAsideNamed, hsilent]

end Sys2Proof.Machine
end

section
/-! SUPPORT. A failed check: what it records, and where it halts (R32, R328, R329). -/

namespace Sys2Proof.Machine

/-- What a failed check records, up to the report of source 56. -/
theorem recordFailure_raises (obj : FailedObject) (s : State) : ∃ u, recordFailure obj s = raise 56 u ∧ u.mode = s.mode ∧
    u.get 0x700302 = countAfter 0x700302 (s.get 0x700302) 1 ∧ u.integ.halt.isSome = true := by
  refine ⟨_, rfl, ?_, ?_, rfl⟩
  · show State.get _ 0xD00101 = _
    rw [get_put_ne (by decide), get_put_ne (by decide), get_put_ne (by decide), get_bump_ne (by decide)]
    exact get_takeStamp (by decide)
  · rw [get_put_ne (by decide), get_put_ne (by decide), get_put_ne (by decide), get_bump_self]
    exact congrArg (fun v => countAfter 0x700302 v 1) (get_takeStamp (by decide))

/-- The record of a failed check: the HALT record is written, the failure is counted and reported, and the mode is as it was (R329). -/
structure FailureRecorded (s u : State) : Prop where
  halt : u.integ.halt.isSome = true
  counted : Counted 0x700302 1 s u
  raised : Raised 56 s u

theorem failureRecorded_recordFailure (obj : FailedObject) (s : State) : FailureRecorded s (recordFailure obj s) := by
  obtain ⟨u, hraise, hmode, hcount, hhalt⟩ := recordFailure_raises obj s
  rw [hraise]
  exact ⟨(congrArg (fun g => g.halt.isSome) (integ_raise 56 u)).trans hhalt, (get_raise (by decide)).trans hcount,
    fun hcan => latch_self ((canOccur_of_mode hmode 56).trans hcan)⟩

theorem mode_recordFailure (obj : FailedObject) (s : State) : (recordFailure obj s).mode = s.mode := by
  obtain ⟨u, hraise, hmode, -, -⟩ := recordFailure_raises obj s
  rw [hraise, mode_raise, hmode]

/-- A module that has entered HALT: it is in the mode, says so, and answers on neither port (R32). -/
structure Halted (t : State) : Prop where
  mode : t.mode = modeHalt
  shown : t.get 0x700301 = 1
  silent : ∀ p, (t.port p).silent = true

/-- What a muting of both ports comes to. -/
theorem muted {t : State} {h : Option HaltRecord} (hmuting : t.muting = (true, true, h)) :
    (∀ p, (t.port p).silent = true) ∧ t.integ.halt = h := by
  refine ⟨fun p => ?_, congrArg (·.2.2) hmuting⟩
  cases p
  · exact congrArg Prod.fst hmuting
  · exact congrArg (·.2.1) hmuting

theorem halted_haltNow (failed : Option Nat) (s : State) : Halted (haltNow failed s) :=
  ⟨mode_setMode _ _, kp_setMode ⟨rfl, .inl (by decide)⟩ _ (get_put_self _ _ _), (muted (muting_haltNow failed s)).1⟩

theorem failureRecorded_haltNow (failed : Option Nat) {s u : State} (h : FailureRecorded s u) : FailureRecorded s (haltNow failed u) := by
  have hhalt := (muted (muting_haltNow failed u)).2
  have hcount : Quiet kw_haltNow 0x700302 (countAfter 0x700302 (s.get 0x700302) 1) := ⟨rfl, .inl (by decide)⟩
  exact ⟨(congrArg Option.isSome hhalt).trans h.halt, kp_haltNow hcount failed h.counted,
    fun hcan => kp_haltNow (quiet_latch (by decide) (by decide)) failed (h.raised hcan)⟩

theorem failureRecorded_setAsideNamed {s u : State} (h : FailureRecorded s u) : FailureRecorded s (setAsideNamed u) := by
  have hhalt := halt_of_muting (muting_setAsideNamed u)
  have hcount : Quiet kw_none 0x700302 (countAfter 0x700302 (s.get 0x700302) 1) := ⟨rfl, .inl (by decide)⟩
  exact ⟨hhalt ▸ h.halt, kp_setAsideNamed hcount h.counted,
    fun hcan => kp_setAsideNamed (quiet_latch (by decide) (by decide)) (h.raised hcan)⟩

theorem serving_of_mode {s t : State} (h : t.mode = s.mode) : t.serving = s.serving := by
  unfold State.serving
  rw [h]

/-- A failed check enters HALT from a serving or service mode, and otherwise only sets the named partial writes aside (R32, R33, R329). -/
theorem failCheck_cases (obj : FailedObject) (s : State) :
    ((s.serving = true ∨ s.mode = modeService) ∧ ∃ failed, failCheck obj s = haltNow failed (recordFailure obj s)) ∨
      (s.serving = false ∧ s.mode ≠ modeService ∧ failCheck obj s = setAsideNamed (recordFailure obj s)) := by
  have hmode := mode_recordFailure obj s
  unfold failCheck
  simp only [serving_of_mode hmode, hmode]
  by_cases hhalts : s.serving = true ∨ s.mode = modeService
  · exact .inl ⟨hhalts, _, if_pos (by simpa using hhalts)⟩
  · obtain ⟨hserving, hservice⟩ := not_or.mp hhalts
    exact .inr ⟨by simpa using hserving, hservice, if_neg (by simpa using hhalts)⟩

theorem failureRecorded_failCheck (obj : FailedObject) (s : State) : FailureRecorded s (failCheck obj s) := by
  have hrecorded := failureRecorded_recordFailure obj s
  rcases failCheck_cases obj s with ⟨-, failed, h⟩ | ⟨-, -, h⟩
  · rw [h]; exact failureRecorded_haltNow failed hrecorded
  · rw [h]; exact failureRecorded_setAsideNamed hrecorded

theorem halted_failCheck (obj : FailedObject) {s : State} (h : s.serving = true ∨ s.mode = modeService) : Halted (failCheck obj s) := by
  rcases failCheck_cases obj s with ⟨-, failed, heq⟩ | ⟨hserving, hservice, -⟩
  · rw [heq]; exact halted_haltNow failed _
  · exact absurd h (by simp [hserving, hservice])

theorem mode_failCheck (obj : FailedObject) {s : State} (hserving : s.serving = false) (hservice : s.mode ≠ modeService) :
    (failCheck obj s).mode = s.mode := by
  rcases failCheck_cases obj s with ⟨hhalts, -⟩ | ⟨-, -, heq⟩
  · exact absurd hhalts (by simp [hserving, hservice])
  · rw [heq]
    exact kp_setAsideNamed ⟨rfl, .inl (by decide)⟩ (mode_recordFailure obj s)

theorem failedCheck_takesEffect {s : State} (obj : FailedObject)
    (h : s.dataPath = true ∨ s.mode = modeRestore ∨ s.mode = modeHalt ∨ s.mode = modeSave) : Completes (.failedCheck obj) s fun t =>
      t.integ.halt.isSome = true ∧ Counted 0x700302 1 s t ∧ Raised 56 s t ∧
        (s.serving = true ∨ s.mode = modeService →
          t.mode = modeHalt ∧ t.get 0x700301 = 1 ∧ (t.port .a).silent = true ∧ (t.port .b).silent = true) ∧
        (s.serving = false → s.mode ≠ modeService → t.mode = s.mode) := by
  obtain ⟨hhalt, hcounted, hraised⟩ := failureRecorded_failCheck obj s
  refine ⟨failCheck obj s, if_pos (by simpa [or_assoc] using h), hhalt, hcounted, hraised, fun hhalts => ?_, mode_failCheck obj⟩
  obtain ⟨hmode, hshown, hsilent⟩ := halted_failCheck obj hhalts
  exact ⟨hmode, hshown, hsilent .a, hsilent .b⟩

end Sys2Proof.Machine
end

section
/-! SUPPORT. The end of a media retry: a line that a rung of the ladder serves, and one that none does (R209, R213, R273). -/

namespace Sys2Proof.Machine

/-- The reads that a retry of a line serves. -/
def State.retried (s : State) (r : Read) : List Read := s.reads.filter fun x => x.place == .retry && x.line == r.line

/-- The senses of a retry whose reconstruction counts only where the rest of the stripe can be read. -/
def State.judged (s : State) (x : RetrySenses) (r : Read) : RetrySenses := { x with rebuilt := x.rebuilt && s.stripeReadable r.unit }

/-- The retry is over: it leaves the list, and what it had to sense has been sensed. -/
def retrySensed (x : RetrySenses) (r : Read) (s : State) : State := senseBelow x r { s with retries := s.retries.filter fun t => t.line != r.line }

/-- What follows the count and the report of a line that a retry recovered: it is installed and relocated, and its reads are answered. -/
def retryServed (x : RetrySenses) (r : Read) (waiting : List Read) (s : State) : State :=
  let moved := relocate r (installLine r (cacheTag r (noteRung x s)))
  prefetch ((waiting.find? (·.prefetchNext)).getD r) (waiting.foldl (fun t y => respond y t) (reportDeadline waiting moved.2 moved.1))

theorem execMediaRetryEnd_of_retry {s : State} {rid : Nat} {r : Read} (hr : s.findRead rid = some r) (hplace : r.place = .retry)
    (senses : RetrySenses) : exec (.mediaRetryEnd rid senses) s =
      if retryVerifies (s.judged senses r) r then
        .next (retryServed (s.judged senses r) r (s.retried r) (raise 57 ((retrySensed (s.judged senses r) r s).bump 0x700307)))
      else .next (failRead r (reportDeadline (s.retried r) 2 (retrySensed (s.judged senses r) r s))) := by
  show execMediaRetryEnd rid senses s = _
  unfold execMediaRetryEnd
  rw [hr]
  exact if_neg (by simp [hplace])

/-! ### A line recovered -/

/-- What the senses of a retry and what follows them may write of the register file. -/
def retryWrites : Writes := ⟨[0x405003, 0x407005, 0x407006, 0x407007, 0x407008, 0x408102, 0x408103, 0x408106, 0xB03004, 0xB04003],
  [(0x612000, 0x613000, 256)]⟩

theorem holds_retryServed {κ ν : Nat} (hq : Quiet retryWrites κ ν) (x : RetrySenses) (r : Read) (waiting : List Read) {s : State}
    (hs : Holds κ ν s) : Holds κ ν (retryServed x r waiting s) := by
  have hmoved : Holds κ ν (relocate r (installLine r (cacheTag r (noteRung x s)))).1 :=
    kp_relocate (hq.mono rfl) r (kp_installLine (hq.mono rfl) r (kp_cacheTag (hq.mono rfl) r (kp_noteRung (hq.mono rfl) x hs)))
  exact kp_prefetch (hq.mono rfl) _ (hd_foldl (fun t y ht => kp_respond (hq.mono rfl) y ht) _ (kp_reportDeadline (hq.mono rfl) _ _ hmoved))

/-- Every part of the state but the retries, as a mask of `Keeps`. -/
def retrylessMask : Nat := 0x3FFFEFFFF

theorem retries_retryServed (x : RetrySenses) (r : Read) (waiting : List Read) (s : State) : (retryServed x r waiting s).retries = s.retries := by
  have hmoved : Keeps retrylessMask s (relocate r (installLine r (cacheTag r (noteRung x s)))).1 :=
    fr_relocate rfl r (fr_installLine rfl r (fr_cacheTag rfl r (fr_noteRung rfl x (keeps_refl _ s))))
  have hserved : Keeps retrylessMask s (retryServed x r waiting s) :=
    fr_prefetch rfl _ (fr_foldl (fun t y ht => fr_respond rfl y ht) _ (fr_reportDeadline rfl _ _ hmoved))
  exact hserved.retries rfl

/-- The senses of a retry leave its mark in no register but the counts of the channel. -/
theorem holds_retrySensed {κ ν : Nat} (hq : Quiet retryWrites κ ν) (x : RetrySenses) (r : Read) {s : State} (hs : Holds κ ν s) :
    Holds κ ν (retrySensed x r s) := kp_senseBelow (hq.mono rfl) x r (s := { s with retries := s.retries.filter fun t => t.line != r.line }) hs

theorem retries_retrySensed (x : RetrySenses) (r : Read) (s : State) : ∀ e ∈ (retrySensed x r s).retries, e.line ≠ r.line := by
  have hkeep : (retrySensed x r s).retries = s.retries.filter fun t => t.line != r.line :=
    (fr_senseBelow (μ := kf_senseBelow) rfl x r (keeps_refl _ _)).retries rfl
  rw [hkeep]
  exact id_ne_of_mem_filter (f := Retry.line)

/-- A recovered line is counted and reported, and its retry is over (R209, R273). -/
theorem retryRecovers (x : RetrySenses) (r : Read) (waiting : List Read) (s : State) :
    let t := retryServed x r waiting (raise 57 ((retrySensed x r s).bump 0x700307))
    Counted 0x700307 1 s t ∧ Raised 57 s t ∧ ∀ e ∈ t.retries, e.line ≠ r.line := by
  have hcount : Quiet retryWrites 0x700307 (countAfter 0x700307 (s.get 0x700307) 1) := ⟨rfl, .inl (by decide)⟩
  have hsensed : (retrySensed x r s).get 0x700307 = s.get 0x700307 := holds_retrySensed ⟨rfl, .inl (by decide)⟩ x r rfl
  have hcounted : ((retrySensed x r s).bump 0x700307).get 0x700307 = countAfter 0x700307 (s.get 0x700307) 1 := by rw [get_bump_self, hsensed]
  refine ⟨holds_retryServed hcount x r waiting ((get_raise (by decide)).trans hcounted), fun hcan => ?_, fun e he => ?_⟩
  · have hmode : ((retrySensed x r s).bump 0x700307).mode = s.mode :=
      (get_bump_ne (by decide)).trans (holds_retrySensed (κ := 0xD00101) ⟨rfl, .inl (by decide)⟩ x r rfl)
    exact holds_retryServed (quiet_latch (by decide) (by decide)) x r waiting (latch_self ((canOccur_of_mode hmode 57).trans hcan))
  · rw [retries_retryServed, (fr_raise (μ := kf_raise) rfl 57 (keeps_refl _ _)).retries rfl] at he
    exact retries_retrySensed x r s e he

/-! ### The obligation's cases -/

theorem mediaRetryEnd_recovers {s : State} {rid : Nat} {r : Read} (hr : s.findRead rid = some r) (hplace : r.place = .retry)
    {senses : RetrySenses} (hserved : rereadVerifies senses = true ∨ (senses.rebuilt = true ∧ s.stripeReadable r.unit = true)) :
    Completes (.mediaRetryEnd rid senses) s fun t => Counted 0x700307 1 s t ∧ Raised 57 s t ∧ ∀ e ∈ t.retries, e.line ≠ r.line := by
  have hverifies : retryVerifies (s.judged senses r) r = true := by
    have hreread : rereadVerifies (s.judged senses r) = rereadVerifies senses := rfl
    unfold retryVerifies
    rw [hreread]
    rcases hserved with h | ⟨hrebuilt, hstripe⟩
    · simp [h]
    · simp [State.judged, hrebuilt, hstripe]
  exact ⟨_, (execMediaRetryEnd_of_retry hr hplace senses).trans (if_pos hverifies), retryRecovers _ r _ s⟩

/-- A host's line that no rung serves is a failed check: a serving module halts (R213). -/
theorem mediaRetryEnd_halts {s : State} {rid : Nat} {r : Read} (hr : s.findRead rid = some r) (hplace : r.place = .retry)
    {senses : RetrySenses} (hreread : rereadVerifies senses = false) (hrebuilt : senses.rebuilt = false ∨ s.stripeReadable r.unit = false)
    (hhost : ∃ p tag, r.reader = .host p tag) (hserving : s.serving = true) :
    Completes (.mediaRetryEnd rid senses) s fun t => t.mode = modeHalt ∧ t.integ.halt.isSome = true := by
  obtain ⟨p, tag, hreader⟩ := hhost
  have hfails : retryVerifies (s.judged senses r) r = false := by
    have hsame : rereadVerifies (s.judged senses r) = false := hreread
    unfold retryVerifies
    rw [hsame, hreader]
    rcases hrebuilt with h | h <;> simp [State.judged, h]
  let sensed := reportDeadline (s.retried r) 2 (retrySensed (s.judged senses r) r s)
  have hmode : sensed.mode = s.mode :=
    kp_reportDeadline (κ := 0xD00101) ⟨rfl, .inl (by decide)⟩ _ _ (holds_retrySensed ⟨rfl, .inl (by decide)⟩ _ r rfl)
  have hfailed : failRead r sensed = failCheck (.dataLine r.line) sensed := by
    unfold failRead
    rw [hreader]
  have hhalts : sensed.serving = true ∨ sensed.mode = modeService := .inl ((serving_of_mode hmode).trans hserving)
  refine ⟨_, (execMediaRetryEnd_of_retry hr hplace senses).trans (if_neg (by simp [hfails])), ?_⟩
  rw [show failRead r (reportDeadline (s.retried r) 2 _) = failCheck (.dataLine r.line) sensed from hfailed]
  exact ⟨(halted_failCheck _ hhalts).mode, (failureRecorded_failCheck _ sensed).halt⟩

end Sys2Proof.Machine
end

section
/-! SUPPORT. The arrival of a sector: the line that a host's read gets, and the retry that a sector which fails BCH starts (R183, R184, R209). -/

namespace Sys2Proof.Machine

/-! ### What a read of a port sees -/

/-- Of what a read of a port sees, nothing differs (R85, R87). -/
structure SameReads (p : Port) (s t : State) : Prop where
  staging : t.staging = s.staging
  groups : t.groups = s.groups
  xlat : t.xlat = s.xlat
  med : t.med = s.med
  integ : t.integ = s.integ
  regions : regionRegs t = regionRegs s
  queue : (t.port p).queue = (s.port p).queue
  silent : (t.port p).silent = (s.port p).silent

/-- Every part of the state but those that hold lines and groups, as a mask of `Keeps`. -/
def linelessMask : Nat := 0x3F8FDFF7F

theorem SameReads.next {p : Port} {s t u : State} (h : SameReads p s t) (hk : Keeps linelessMask t u) (hon : Onward p t u)
    (hregions : regionRegs u = regionRegs t) : SameReads p s u :=
  ⟨(hk.staging rfl).trans h.staging, (hk.groups rfl).trans h.groups, (hk.xlat rfl).trans h.xlat, (hk.med rfl).trans h.med,
    (hk.integ rfl).trans h.integ, hregions.trans h.regions, hon.queue.trans h.queue, hon.silent.trans h.silent⟩

theorem sameReads_refl (p : Port) (s : State) : SameReads p s s := ⟨rfl, rfl, rfl, rfl, rfl, rfl, rfl, rfl⟩

theorem SameReads.visibleTo {p : Port} {s t : State} (h : SameReads p s t) (line : Nat) : t.visibleTo p line = s.visibleTo p line := by
  have hparts : t.visibleTo p line = State.visibleTo { s with
      staging := t.staging, groups := t.groups, xlat := t.xlat, med := t.med, integ := t.integ } p line := rfl
  rw [hparts, h.staging, h.groups, h.xlat, h.med, h.integ]

theorem SameReads.newestQueued {p : Port} {s t : State} (h : SameReads p s t) (line : Nat) : t.newestQueued p line = s.newestQueued p line := by
  unfold State.newestQueued
  rw [h.queue]

theorem SameReads.readValue {p : Port} {s t : State} (h : SameReads p s t) (line : Nat) : t.readValue p line = s.readValue p line := by
  unfold State.readValue
  rw [lineOffline_of_regs h.regions, h.newestQueued, h.visibleTo]

/-! ### Fills and counts -/

theorem sameReads_sectorsMoved (ch n : Nat) {p : Port} {s t : State} (h : SameReads p s t) : SameReads p s (sectorsMoved ch n t) := by
  refine h.next (fr_sectorsMoved rfl ch n (keeps_refl _ t)) ?_ ?_
  · exact on_addTo _ _ (on_addTo _ _ (on_count _ _ _ (on_count _ _ _ (on_refl t))))
  · unfold sectorsMoved
    rw [regionRegs_addTo (by unfold channelKey; omega), regionRegs_addTo (by unfold channelKey; omega), regionRegs_count, regionRegs_count]

theorem sameReads_foldl {α : Type} {f : State → α → State} {p : Port} {s t : State} (hf : ∀ u a, SameReads p s u → SameReads p s (f u a))
    (l : List α) (h : SameReads p s t) : SameReads p s (l.foldl f t) :=
  List.foldlRecOn l f h fun u hu a _ => hf u a hu

theorem sameReads_cond {c : Prop} [Decidable c] {p : Port} {s t u : State} (ht : SameReads p s t) (hu : SameReads p s u) :
    SameReads p s (if c then t else u) := by
  split <;> assumption

theorem sameReads_moveSectors (r : Read) {p : Port} {s t : State} (h : SameReads p s t) : SameReads p s (moveSectors r t) := by
  unfold moveSectors
  exact sameReads_cond (sameReads_foldl (fun u c hu => sameReads_sectorsMoved c 1 hu) _ h) (sameReads_sectorsMoved _ 1 h)

theorem regionRegs_installTwo (n : CacheBlock) (s : State) : regionRegs (installTwo n s) = regionRegs s := by
  unfold installTwo
  split
  · rfl
  · split <;> rfl

theorem regionRegs_installOne (n : CacheBlock) (s : State) : regionRegs (installOne n s) = regionRegs s := by
  have hoffer (v : CacheBlock) (t : State) : regionRegs (offerVictim v t) = regionRegs t := by
    have hdrawn : regionRegs (drawn (t.bump 0x407005)) = regionRegs t := regionRegs_bump (by decide)
    unfold offerVictim
    simp only [regionRegs_ite, regionRegs_bump (k := 0x407006) (by decide), regionRegs_installTwo, hdrawn, ite_self]
  unfold installOne
  split
  · rfl
  · split
    · rfl
    · simp only
      split
      · exact hoffer _ _
      · rfl

theorem sameReads_installFill (attr : Nat) (n : CacheBlock) {p : Port} {s t : State} (h : SameReads p s t) :
    SameReads p s (installFill attr n t) := by
  refine h.next (fr_installFill rfl attr n (keeps_refl _ t)) ((on_refl t).quiet (fr_installFill rfl attr n (keeps_refl _ t))) ?_
  unfold installFill
  simp only [regionRegs_ite, regionRegs_installTwo, regionRegs_installOne, ite_self]

theorem sameReads_fill (r : Read) (tags : BitVec 4) {p : Port} {s t : State} (h : SameReads p s t) : SameReads p s (fill r tags t) := by
  have hcounted (n : Nat) : SameReads p s (if r.allocate = 0 then t else t.addTo 0x40700B n) :=
    sameReads_cond h (h.next (fr_addTo rfl _ n (keeps_refl _ t)) (on_addTo _ n (on_refl t)) (regionRegs_addTo (by decide) n))
  unfold fill
  exact sameReads_cond (hcounted _) (sameReads_installFill _ _ (hcounted _))

theorem sameReads_fillSector (r : Read) (all : List Read) (tags : BitVec 4) {p : Port} {s t : State} (h : SameReads p s t) :
    SameReads p s (fillSector r all tags t) := by
  unfold fillSector
  simp only
  split
  · refine sameReads_foldl (fun u l hu => ?_) _ h
    split
    · exact sameReads_fill _ tags hu
    · exact hu
  · exact sameReads_fill _ tags h

theorem sameReads_reportDeadline (reads : List Read) (outcome : Nat) {p : Port} {s t : State} (h : SameReads p s t) :
    SameReads p s (reportDeadline reads outcome t) := by
  refine h.next (fr_reportDeadline rfl reads outcome (keeps_refl _ t)) ?_ ?_
  · unfold reportDeadline
    simp only
    split
    · exact on_refl t
    · exact on_raise 93 (on_obs _ (on_refl t))
  · unfold reportDeadline
    simp only
    split
    · rfl
    · exact regionRegs_raise 93 _

/-! ### A sector that passes -/

theorem execMediumSectorReadDone_of_host {s : State} {rid : Nat} {r : Read} {p : Port} {tag : Nat} (hr : s.findRead rid = some r)
    (hready : s.senseReady r = true) (hreader : r.reader = .host p tag) (bch : Bool) (tags : BitVec 4) :
    exec (.mediumSectorReadDone rid bch tags) s = .next (sectorDone r bch tags s) := by
  show execMediumSectorReadDone rid bch tags s = _
  unfold execMediumSectorReadDone
  rw [hr]
  simp only [hready, if_true, hreader]

theorem demand_of_host {r : Read} {p : Port} {tag : Nat} (hreader : r.reader = .host p tag) : r.demand = true := by
  unfold Read.demand
  rw [hreader]

/-- A host's read whose port has queued no store to its line is answered with the line as the port sees it (R85). -/
theorem respond_sends {r : Read} {p : Port} {tag : Nat} {s : State} (hreader : r.reader = .host p tag) (hanswered : r.answered = false)
    (hsilent : (s.port p).silent = false) (hqueue : s.newestQueued p r.line = none) :
    ∃ d, Out.readData p tag (if (s.readValue p r.line).poison then 0 else (s.readValue p r.line).data) (s.readValue p r.line).poison d ∈
      (respond r s).out := by
  have hrespond : respond r s = answerRead r { s.readValue p r.line with found := r.found, unit := r.unit } s := by
    unfold respond
    simp only [hreader, hqueue]
  rw [hrespond]
  exact answerRead_sends hreader hanswered hsilent _

/-- Each line of a sector has its tag among the sector's four. -/
theorem tagBit_lt (r : Read) : r.tagBit < 4 := by
  unfold Read.tagBit
  split <;> omega

theorem tagBit_lt_of_sectorHolds {s : State} {r : Read} {e : Nat × Nat × Nat} (he : e ∈ s.sectorHolds r) : e.2.1 < 4 := by
  unfold State.sectorHolds at he
  split at he
  · obtain ⟨l, -, rfl⟩ := List.mem_map.mp he
    exact Nat.mod_lt l (by decide)
  · obtain ⟨d, -, rfl⟩ := List.mem_map.mp he
    exact Nat.lt_trans (Nat.mod_lt _ (by decide)) (by decide)

theorem getLsbD_allOnes_of_lt {i : Nat} (h : i < 4) : (BitVec.allOnes 4).getLsbD i = true := by
  rw [BitVec.getLsbD_allOnes]
  exact decide_eq_true h

/-- Where every tag passes, no line goes down the recovery ladder. -/
theorem ladderLines_of_allOnes (r : Read) (s : State) : ladderLines r (BitVec.allOnes 4) s = s := by
  have hnone : ((s.sectorHolds r).filter fun e =>
      !(BitVec.allOnes 4).getLsbD e.2.1 && !(s.reads.any fun x => x.line == e.1 && x.place == .retry)) = [] :=
    List.filter_eq_nil_iff.mpr fun e he => by rw [getLsbD_allOnes_of_lt (tagBit_lt_of_sectorHolds he)]; simp
  unfold ladderLines
  rw [hnone]
  rfl

theorem sectorDone_of_passed {s : State} {r : Read} (hdemand : r.demand = true)
    (hreadable : r.place = .reconstruction → s.stripeReadable r.unit = true) : ∃ x, sectorDone r true (BitVec.allOnes 4) s =
      prefetch x (((r :: s.joined r).map (·.line)).eraseDups.foldl (fun t l => verified ((r :: s.joined r).filter fun x => x.line == l) t)
        (fillSector r (r :: s.joined r) (BitVec.allOnes 4) (moveSectors r s))) := by
  have hread : (r.place != .reconstruction || s.stripeReadable r.unit) = true := by
    by_cases hplace : r.place = .reconstruction
    · simp [hreadable hplace]
    · simp [hplace]
  have hpassed : ((r :: s.joined r).filter fun x => (BitVec.allOnes 4).getLsbD x.tagBit) = r :: s.joined r :=
    List.filter_eq_self.mpr fun x _ => getLsbD_allOnes_of_lt (tagBit_lt x)
  have hfailed : ((r :: s.joined r).filter fun x => !(BitVec.allOnes 4).getLsbD x.tagBit) = [] :=
    List.filter_eq_nil_iff.mpr fun x _ => by rw [getLsbD_allOnes_of_lt (tagBit_lt x)]; simp
  unfold sectorDone
  simp only [hdemand, hread, hpassed, hfailed, Bool.not_true, Bool.false_and, Bool.true_and, Bool.false_eq_true, if_false, List.foldl_nil,
    ladderLines_of_allOnes]
  exact ⟨_, rfl⟩

theorem sectorDone_answers {s : State} {r : Read} {p : Port} {tag : Nat} (hreader : r.reader = .host p tag) (hanswered : r.answered = false)
    (hsilent : (s.port p).silent = false) (hqueue : s.newestQueued p r.line = none)
    (hreadable : r.place = .reconstruction → s.stripeReadable r.unit = true) :
    ∃ d, Out.readData p tag (if (s.readValue p r.line).poison then 0 else (s.readValue p r.line).data) (s.readValue p r.line).poison d ∈
      (sectorDone r true (BitVec.allOnes 4) s).out := by
  let waiting := r :: (s.joined r).filter fun x => x.line == r.line
  let filled := fillSector r (r :: s.joined r) (BitVec.allOnes 4) (moveSectors r s)
  obtain ⟨x, hdone⟩ := sectorDone_of_passed (demand_of_host hreader) hreadable
  have hsame : SameReads p s (reportDeadline (waiting.filter (·.answered)) 1 filled) :=
    sameReads_reportDeadline _ _ (sameReads_fillSector _ _ _ (sameReads_moveSectors r (sameReads_refl p s)))
  obtain ⟨d, hd⟩ := respond_sends hreader hanswered (hsame.silent.trans hsilent) ((hsame.newestQueued r.line).trans hqueue)
  rw [hsame.readValue] at hd
  have hwaiting : ((r :: s.joined r).filter fun x => x.line == r.line) = waiting := List.filter_cons_of_pos (by simp)
  have hverified : Evolves (respond r (reportDeadline (waiting.filter (·.answered)) 1 filled))
      (verified ((r :: s.joined r).filter fun x => x.line == r.line) filled) := by
    rw [hwaiting]
    show Evolves _ (((s.joined r).filter fun x => x.line == r.line).foldl (fun t y => respond y t) (respond r _))
    exact ev_foldl (fun _ y ht => ev_respond y ht) _ (ev_refl _)
  refine ⟨d, ?_⟩
  rw [hdone, List.map_cons, List.eraseDups_cons, List.foldl_cons]
  exact out_of_evolves (ev_prefetch x (ev_foldl (fun _ _ ht => ev_verified _ ht) _ hverified)) hd

/-! ### A sector that fails BCH -/

/-- A retry of a line runs. -/
def Retrying (line : Nat) (s : State) : Prop := ∃ e ∈ s.retries, e.line = line

theorem Retrying.keeps {line μ : Nat} {s t : State} (h : Retrying line s) (hk : Keeps μ s t) (hretries : μ.testBit 16 = false := by rfl) :
    Retrying line t := by
  unfold Retrying
  rw [hk.retries hretries]
  exact h

/-- A retry starts beside those that run. -/
theorem retries_openRetry (r : Read) (s : State) : ∃ l, (openRetry r s).retries = s.retries ++ l ∧ Retrying r.line (openRetry r s) := by
  have hsensed (t : State) : Keeps 0x380000064 t (reconstructionReads r.unit (sectorMoved (channelOfUnit r.unit) t)) :=
    fr_reconstructionReads rfl _ (fr_sectorMoved rfl _ (keeps_refl _ t))
  unfold openRetry
  split
  · rename_i hruns
    obtain ⟨e, he, hline⟩ := List.any_eq_true.mp hruns
    exact ⟨[], (List.append_nil _).symm, e, he, by simpa using hline⟩
  · simp only
    exact ⟨_, (hsensed _).retries rfl, Retrying.keeps ⟨_, List.mem_append_right _ (.head _), rfl⟩ (hsensed _)⟩

theorem retrying_startRetry (r : Read) (s : State) : Retrying r.line (startRetry r s) :=
  (retries_openRetry r _).elim fun _ h => h.2

theorem Retrying.openRetry {line : Nat} {s : State} (h : Retrying line s) (r : Read) : Retrying line (openRetry r s) := by
  obtain ⟨l, hretries, -⟩ := retries_openRetry r s
  obtain ⟨e, he, hline⟩ := h
  exact ⟨e, hretries ▸ List.mem_append_left l he, hline⟩

/-- A read whose line did not pass ends no retry. -/
theorem Retrying.notVerified {line : Nat} {s : State} (h : Retrying line s) (r : Read) : Retrying line (notVerified r s) := by
  unfold Machine.notVerified
  split
  · exact (h.keeps (fr_refillPrompt (μ := 0x4000) rfl _ (fr_modRead rfl _ _ (keeps_refl _ s)))).openRetry r
  · exact h.keeps (fr_dropRead (μ := 0x4000) rfl _ (keeps_refl _ s))

theorem sectorDone_retries {s : State} {r : Read} (hdemand : r.demand = true) (tags : BitVec 4) : Retrying r.line (sectorDone r false tags s) := by
  have hdone : sectorDone r false tags s =
      (r :: s.joined r).foldl (fun t x => notVerified x t) (detectError .medium ((moveSectors r s).sectorOf r) true (moveSectors r s)) := by
    unfold sectorDone
    simp only [hdemand, Bool.not_true, Bool.false_and, Bool.false_eq_true, if_false, Bool.not_false, if_true]
  have hfirst (t : State) : Retrying r.line (notVerified r t) := by
    unfold notVerified
    rw [if_pos hdemand]
    exact retrying_startRetry r t
  rw [hdone, List.foldl_cons]
  exact List.foldlRecOn _ _ (hfirst _) fun t ht x _ => ht.notVerified x

/-- Settles O20. That the value is the one taken at the response (log 22), and that the mode stays RESTORE, SAVE or HALT at a failed check
(log 30), are the model's choices. -/
theorem sectorsAnswerRetryOrHalt : Obligations.SectorsAnswerRetryOrHalt := by
  unfold Obligations.SectorsAnswerRetryOrHalt
  refine ⟨fun s rid r p tag tags hr hready hreader => ⟨fun hanswered hsilent hqueue hreadable => ?_, ?_⟩,
    fun s obj => failedCheck_takesEffect obj, fun s rid r hr hplace senses => ⟨mediaRetryEnd_recovers hr hplace, mediaRetryEnd_halts hr hplace⟩⟩
  · exact ⟨_, execMediumSectorReadDone_of_host hr hready hreader _ _, sectorDone_answers hreader hanswered hsilent hqueue hreadable⟩
  · exact ⟨_, execMediumSectorReadDone_of_host hr hready hreader _ _, sectorDone_retries (demand_of_host hreader) tags⟩

end Sys2Proof.Machine
end
